-- ==== Sys2Proof/Word.lean ====
section
/-!
DEFINITION. Word.lean: the plain number and byte types of the model, tables of numbered resources, and
memories. What computes on them stands in Machine/Bits.lean.
-/
namespace Sys2Proof

/-- A byte of a frame, of a record or of memory. -/
abbrev Byte := BitVec 8

/-- A string of bytes, lowest address first. -/
abbrev Bytes := List Byte

/-- A field that the manual lays out in `n` bits and that the model handles as a number; `WellFormed` says that an
operand of this type fits its field. -/
abbrev U (_n : Nat) : Type := Nat

/-- A table of numbered resources (lanes, rings, tiles): entries in strictly rising number; what an unlisted number
holds is said by the reader of the table. -/
abbrev Tab (α : Type) := List (Nat × α)

/-- Memory: address and byte pairs, addresses strictly rising, no entry equal to zero (what an unlisted address reads). -/
abbrev Mem := List (Nat × Byte)

end Sys2Proof
end

