-- ==== Sys2Proof/Machine/Types.lean ====
section
/-!
DEFINITION. Machine/Types.lean: the data that commands carry: command packets, messages, frames, images, and the
enumerations they are made of.
-/
namespace Sys2Proof.Machine

/-- What a command row carries beside its own parameters: the ring that holds the command (4,096 + n is management
association n, R653), whether its parameters could be read (Table 17-4 step 9), the byte offset of a non-zero reserved
parameter bit (step 10, R651), the reply buffer's length (R648) and whether writing the reply fails (R652). -/
structure CmdIn where
  ring : U 13
  readable : Bool := true
  rsvAt : Option (U 32) := none
  replyAddr : U 64 := 0
  replyLen : U 32 := 0
  replyFails : Bool := false
  deriving DecidableEq, Repr

/-- Table 17-11: the parameters of PARTITION_CONFIGURE and CONTEXT_CONFIGURE. -/
structure ConfigParams where
  quarters0 : U 12
  quarters1 : U 12
  blockUnits : U 5
  shareLog2 : U 5
  ringQuota : U 10
  shareBase0 : U 32
  shareBase1 : U 32
  overflowQuota0 : U 16
  overflowQuota1 : U 16
  coalQuota0 : U 16
  coalQuota1 : U 16
  regionBase0 : U 8
  regionBase1 : U 8
  regionGib : U 8
  bindFn : U 4
  stairQuota : U 16
  larderOff : U 32
  shadowOff : U 32
  windowsOff : U 32
  windowsUnits : U 32
  imageOff : U 32
  imageUnits : U 32
  deriving DecidableEq, Repr

/-- R146, R148: a classification rule: value, mask and result. -/
structure Rule where
  value : BitVec 1024
  mask : BitVec 1024
  result : BitVec 64
  deriving DecidableEq, Repr

/-- R4, R29: the ordering code of the part. -/
inductive PartCode where
  | ikf4880_12 | ikf4880_10 | ikf4840_12
  deriving DecidableEq, Repr

/-- R16, Table 16-5: the kind of a ring. -/
inductive RingKind where
  | command | drain
  deriving DecidableEq, Repr

/-- Table 17-1: the header of a command packet as it is fetched. -/
structure CmdHdr where
  opcode : U 16
  version : U 8
  fence : Bool
  /-- Byte offset of the lowest reserved header bit, or part of a param_addr form, that is not as it must be (R611, R651);
  none when all are. -/
  rsvAt : Option Nat
  seqTag : U 32
  partition : U 8
  paramLength : U 32
  startDeadline : U 32
  /-- The 8 bytes at offset 0x20: param_addr, or the first parameter, which is the reply_addr of a command marked Reply (R611,
  R648). -/
  word20 : U 64 := 0
  deriving DecidableEq, Repr

/-- Table 14-1: the fields of an accepted time-of-day message. -/
structure Tod where
  seconds : U 48
  utcOffset : U 16
  traceable : Bool
  leap61 : Bool
  leap59 : Bool
  clockClass : U 8
  deriving DecidableEq, Repr

/-- R789, Tables 21-12 and 21-13: what an engine or a Stairwell entry waits on. -/
structure WaitingOn where
  reason : U 8
  target : U 32
  batch : U 16
  deriving DecidableEq, Repr

/-- R789, R792: a node and what it waits on. -/
structure Wait where
  node : U 32
  on : WaitingOn
  deriving DecidableEq, Repr

/-- A unit of a resynchronisation or of a table change (R744, R751). -/
inductive PairUnit where
  | bucket (b : U 22) (data : Bytes)
  | overflow (ix : U 15) (data : Bytes)
  | larder (handle : U 32) (data : Bytes)
  /-- M[n][d] of a model slot, entry `statKey length n d` (R432). -/
  | maxima (slot : U 2) (data : List (Nat × U 32))
  /-- Counts of a window slot: epoch, window index, packets, bytes (R203). -/
  | windows (slot : U 1) (data : List (U 16 × Int × U 32 × U 32))
  deriving DecidableEq, Repr

/-- Table 20-4: a mirrored command, as PREPARE carries it. -/
inductive MirrorCmd where
  | configure (partition : U 8) (params : ConfigParams)
  | release (partition : U 8)
  | setting (partition : U 8) (id inst : U 16) (element : U 8) (value : U 128)
  | rule (bank : U 1) (index : U 12) (result : U 64) (value mask : BitVec 1024)
  | bankArm (t : U 64)
  | epochArm (partition : U 8) (slot : U 1) (requireResident : Bool) (epoch : U 16) (t : U 64) (measurement : U 384)
  | epochCancel (partition : U 8)
  deriving DecidableEq, Repr

/-- Table 23-5: what a bank's manifest says; `digest` is the manifest digest. -/
structure Bank where
  securityVersion : U 6
  raiseFloor : Bool
  digest : U 384
  bankBytes : U 32
  /-- Versions of parts 0 to 5. -/
  versions : List (U 32)
  deriving DecidableEq, Repr

/-- Table 23-7: the header of the staging object, known from its bytes once they are in flash. -/
structure StagingHdr where
  credentials : Bool
  baseDigest : U 384
  target : Bank
  anchors : List (U 64)
  deriving DecidableEq, Repr

/-- Table 23-10: a relay payload. DATA names its data by their length and, at offset 0, by the header that they begin with. -/
structure Relay where
  op : U 8
  reason : U 8
  value : U 64
  baseDigest : U 384
  targetDigest : U 384
  length : U 11
  hdr : Option StagingHdr
  deriving DecidableEq, Repr

/-- Table 20-2: a message body. A ROLE of instant 0 and a RESYNC_BEGIN of instant 0 are the standby's requests. -/
inductive PairMsg where
  | heartbeat (sent accepted : U 32) (standby : Bool) (occ0 occ1 : U 16)
  | insert (e : U 64) (handle : U 32) (entry : Bytes)
  | tableChange (e : U 64) (wing : U 1) (partition : U 8) (unit : PairUnit)
  | prepare (cmd : MirrorCmd)
  | vote (prep : U 32) (status detail : U 32)
  | commit (prep : U 32) (e : U 64)
  | stateHash (k : U 64) (sums : List (U 64))
  | resyncBegin (partition : U 8) (wing : U 1) (q : U 64)
  | resyncData (partition : U 8) (wing : U 1) (unit : PairUnit)
  | blockRequest (partition : U 8) (wing : U 1) (handle : U 32)
  | resyncEnd (partition : U 8) (wing : U 1) (units : U 32)
  | role (e : U 64)
  | release
  | update (x : Relay)
  | reserved (code : U 8)
  deriving DecidableEq, Repr

/-- The four rails of Table 24-6. -/
inductive Rail where
  | vstby33 | vio18 | vaux18 | vin12
  deriving DecidableEq, Repr

/-- R874: one PMBus converter and its last readings. -/
structure Converter where
  vout : U 16
  iout : U 16
  status : U 16
  deriving DecidableEq, Repr

/-! ### Tile-program words (chapter 08) -/

/-- Table 08-6: operands of an array pass. -/
structure PassOp where
  array : U 1
  form : U 3
  mode : U 2
  kMinus1 : U 16
  aHalf : U 1
  aOffset : U 8
  bHalf : U 1
  bOffset : U 9
  aFmt : U 2
  aCb : U 2
  bFmt : U 1
  bCb : U 2
  aZero : U 8
  aRelease : U 1
  bRelease : U 1
  deriving DecidableEq, Repr

/-- Table 08-7: operands of FEED. -/
structure FeedOp where
  array : U 1
  target : U 3
  half : U 1
  cbSlot : U 2
  src : U 20
  length : U 10
  tag : U 8
  cbSize : U 1
  deriving DecidableEq, Repr

/-- Table 08-8: operands of DRAIN and PRELOAD. -/
structure DrainOp where
  array : U 1
  subOp : U 1
  source : U 2
  src : U 20
  deriving DecidableEq, Repr

/-- Table 08-9: operands of POST. -/
structure PostOp where
  subOp : U 4
  srcKind : U 2
  src : U 20
  dst : U 20
  count : U 12
  paramA : U 8
  paramB : U 8
  deriving DecidableEq, Repr

/-- Table 08-11: operands of TREE. -/
structure TreeOp where
  trees : U 20
  treeCountMinus1 : U 12
  nodeBits : U 20
  dst : U 20
  deriving DecidableEq, Repr

/-- Table 08-12: operands of LOAD and STORE; `remote` by kind under Table 08-13. -/
structure MoveOp where
  kind : U 2
  localRef : U 20
  length : U 16
  remote : U 42
  deriving DecidableEq, Repr

/-- Table 08-14: operands of STATE. -/
structure StateOp where
  subOp : U 2
  rowFirst : U 7
  rowCount : U 8
  state : U 20
  token : U 20
  deriving DecidableEq, Repr

/-- Table 08-15: operands of REDUCE. -/
structure ReduceOp where
  slot0 : U 20
  stride : U 12
  countMinus1 : U 4
  length : U 12
  dst : U 20
  arriveTok : U 4
  deriving DecidableEq, Repr

/-- Table 08-15: operands of SYNC. -/
structure SyncOp where
  targetKind : U 1
  tok : U 4
  increment : U 8
  wing : U 1
  gallery : U 2
  tile : U 7
  deriving DecidableEq, Repr

/-- Table 08-5: the operation of a word. -/
inductive TileOp where
  | mma (p : PassOp)
  | sel (p : PassOp)
  | dist (p : PassOp)
  | feed (f : FeedOp)
  | drain (d : DrainOp)
  | post (p : PostOp)
  | tree (t : TreeOp)
  | load (m : MoveOp)
  | store (m : MoveOp)
  | state (x : StateOp)
  | reduce (r : ReduceOp)
  | sync (x : SyncOp)
  | wait (tok : U 4) (count : U 8)
  | mark (value : U 32)
  deriving DecidableEq, Repr

/-- Table 08-4: a tile-program word. -/
structure TileWord where
  waitEn : U 1
  waitTok : U 4
  sigEn : U 1
  sigTok : U 4
  trace : U 1
  last : U 1
  layer : U 12
  opId : U 12
  op : TileOp
  deriving DecidableEq, Repr

/-! ### Images (chapters 11 to 13) -/

/-- Table 05-1: an entry of a feature list. -/
structure Feature where
  source : U 10
  shift : U 6
  transform : U 3
  width : U 5
  count : U 8
  element : U 9
  arg : U 16
  deriving DecidableEq, Repr

/-- Table 12-1: the kinds of stage. -/
inductive StageKind where
  | stateless | stateful | tree | distance | combine
  deriving DecidableEq, Repr

/-- R34, R454: a stage of a graph: its kind, batch size, batch wait in Hall cycles, and whether it reads flow elements or
input state; and, as Table 12-1 limits them, the largest K of a pass, bytes of model state, trees of a TREE word, centroids and k of
a list, elements of a combine, and the modes and links that its words use. -/
structure StageCfg where
  kind : StageKind
  batchSize : U 8
  batchWait : U 10
  readsFlow : Bool
  readsState : Bool
  passK : U 32 := 1
  stateBytes : U 32 := 0
  trees : U 32 := 1
  centroids : U 32 := 1
  topK : U 32 := 1
  elements : U 32 := 1
  /-- Modes of its DIST words (Table 08-6) and links of its LINK words (Table 08-10). -/
  modes : List (U 2) := []
  links : List (U 8) := []
  deriving DecidableEq, Repr

/-- Table 11-3: a dynamic site. -/
structure SiteCfg where
  index : U 4
  layer : U 12
  window : U 5
  margin : BitVec 32
  target : BitVec 32
  initMax : BitVec 32
  floorMax : BitVec 32
  deriving DecidableEq, Repr

/-- Table 12-6: one band of a verdict table entry. -/
structure BandCfg where
  action : U 8
  rollout : Bool
  param : U 32
  deriving DecidableEq, Repr

/-- Table 12-6: one entry of a verdict table; `reserved` holds when a reserved field is not 0. -/
structure VerdictCfg where
  thresholds : List (BitVec 32)
  bands : U 3
  band : List BandCfg
  nanBand : BandCfg
  reserved : Bool
  deriving DecidableEq, Repr

/-- Table 12-8: rollout settings, with their defaults. -/
structure RolloutCfg where
  enable : Bool := false
  steps : U 5 := 8
  width : U 4 := 4
  queue : U 2 := 2
  priority : U 3 := 6
  deriving DecidableEq, Repr

/-- A model slot of an image: sections SLOT, SITES, VERDICT and ROLLOUT (Table 13-5). -/
structure SlotCfg where
  tokenWidth : U 10
  flowBase : U 10
  /-- The entries of the feature list, 8 bytes each (Table 05-1). -/
  featureWords : List (U 64)
  main : List StageCfg
  noFlow : List StageCfg
  rollout : List StageCfg
  statLength : U 17
  sites : List SiteCfg
  verdict : List VerdictCfg
  rolloutCfg : RolloutCfg
  deriving DecidableEq, Repr

/-- Table 11-4: an entry of a tile's site table. -/
structure SiteEntry where
  layer : U 12
  site : U 4
  deriving DecidableEq, Repr

/-- R346: a DRAM window: base in the partition's region and size, in bytes. -/
structure DramWindow where
  base : U 48
  size : U 48
  deriving DecidableEq, Repr

/-- R352, R490: a member of a group as the image names it, and whether RELOC lists it. -/
structure GroupMember where
  wing : U 1
  ctile : U 9
  reloc : Bool
  deriving DecidableEq, Repr

/-- Sections TILE_MEM and TILE_CONTROL of one canonical tile (Table 13-5, R490, R499); `fill` lists byte addresses of the
tile's area with their bytes. -/
structure TileImage where
  wing : U 1
  ctile : U 9
  fill : List (Nat × Bytes)
  /-- Word addresses of the 16 entry points. -/
  entries : List (U 19)
  /-- Wide table: layer and word address. -/
  wide : List (Nat × Nat)
  scaleBlock : U 20
  sites : List SiteEntry
  groups : List (List GroupMember)
  windows : List DramWindow
  /-- Word addresses of the words that RELOC lists (R490). -/
  reloc : List (U 19)
  deriving DecidableEq, Repr

/-- Section STATE: H, hist_offset, hist_entry_bytes and the initial pattern (R460). -/
structure StateLayout where
  depth : U 5
  histOffset : U 12
  histEntry : U 12
  pattern : Bytes
  deriving DecidableEq, Repr

/-- The tables that section DECLARE locates. -/
inductive TableKind where
  | codebookA | codebookB | activation | encode | tree
  deriving DecidableEq, Repr

/-- Section DECLARE: where a table to be checked at load lies (Tables 13-5 and 13-7): the canonical tile and the byte address in its
area, and the entries of a codebook. -/
structure Declared where
  kind : TableKind
  wing : U 1
  ctile : U 9
  address : U 23
  entries : U 9 := 16
  deriving DecidableEq, Repr

/-- Table 13-4: a section table entry. -/
structure SectEntry where
  type : U 8
  wing : U 1
  ctile : U 9
  slot : U 8
  keyGen : U 8 := 0
  offset : U 64 := 0
  length : U 64 := 0
  dest : U 64 := 0
  deriving DecidableEq, Repr

/-- Table 13-3 and the sections behind it: an image as the device holds it once it is decrypted (log entry 8). -/
structure Image where
  target : U 4 := 0
  stateReset : Bool := false
  halfFit : Bool := false
  sealed_ : Bool := false
  slotMask : U 4 := 0
  quarters : U 8 := 1
  blockUnits : U 5 := 1
  topologyId : U 64 := 0
  stateLayoutId : U 64 := 0
  imageBytes : U 64 := 0
  measurement : U 384 := 0
  sections : List SectEntry := []
  slots : List (Nat × SlotCfg) := []
  /-- Length and phase of the two window slots, in microseconds. -/
  windows : List (Nat × Nat) := []
  layout : StateLayout := { depth := 0, histOffset := 0, histEntry := 0, pattern := [] }
  tiles : List TileImage := []
  /-- DRAM sections: Wing, offset in the windows area, bytes. -/
  dram : List (Nat × Nat × Bytes) := []
  declared : List Declared := []
  /-- R391: used cells of the passes of an op_id. -/
  used : List (Nat × Nat) := []
  deriving DecidableEq, Repr

/-- What a finished image transfer brings (R495): the bytes that it copied; the contents of the sections whose layout the manual
leaves open (log entry 82), and the first of those that cannot be read; a fault of the transfer; and how many bytes had arrived when
the partition's key slots changed, for each such change in its order (R713). -/
structure LoadResult where
  bytes : Bytes
  image : Image
  dmaError : Bool := false
  contentFault : Option (U 32) := none
  arrived : List (U 64) := []
  deriving DecidableEq, Repr


/-- R313, R809, R810: what the SECDED codes find while a word runs, the sequencer's fetch of the next words included: corrected
errors, whether a word was uncorrectable, and the 64-byte unit of the tile memory that the word reads when the errors lay there
rather than in a feeder, a scale register or a drain buffer. -/
structure Ecc where
  corrected : U 16 := 0
  bad : Bool := false
  unit : Option (U 17) := none
  deriving DecidableEq, Repr

/-- R453: the graphs of a model slot. -/
inductive GraphKind where
  | main | noFlow | rollout
  deriving DecidableEq, Repr

/-- Where a stage of a batch runs (log entry 33): its tiles, entry point, base registers 1 to 7 and the places of its token
rows and, at the last stage of a rollout step, of its forecast values (log entry 42), in 64-byte units. -/
structure Placement where
  tiles : List (U 10)
  entry : U 4
  bases : List (U 17)
  tokenAt : U 17
  forecastAt : U 17 := 0
  deriving DecidableEq, Repr

/-- R846: what the ROM or the Hearth finds when it applies a pending staging: the status record matches the staging's
SHA-384, and the new bank verifies under R836 with its whole length written. -/
structure ApplyOutcome where
  hashMatches : Bool := false
  newBankVerifies : Bool := false
  deriving DecidableEq, Repr

/-- R736: a partition as the partner of a connection has it. -/
structure PartnerPart where
  /-- R662: 0 UNCONFIGURED, 1 ACTIVE, 2 SCRUBBING. -/
  state : U 2
  params : ConfigParams
  deriving DecidableEq, Repr

/-- R730, R736: what the partner of a connection says of itself; `settings` is its SHA-384 digest over both rule banks, their
settings and the partition-scope settings. -/
structure PartnerInfo where
  serial : U 64
  standby : Bool
  part : PartCode
  stepping : U 16
  /-- Measurement registers 0 to 4. -/
  regs : List (BitVec 384)
  timeLocked : Bool
  originSeconds : U 64
  hashSeed : U 128
  parts : List PartnerPart
  settings : U 384
  /-- R730: the partner's ephemeral P-384 public key, a point of 97 bytes, and its 32-byte random. -/
  ephemeral : Bytes := []
  random : Bytes := []
  deriving DecidableEq, Repr

/-! ### Reads of report queues (R684) -/

/-- R684: what the read of a stored word finds: an error that its check bits correct, one that they only detect, or one that they do
not show. -/
inductive WordError where
  | corrected | uncorrectable | undetected
  deriving DecidableEq, Repr

/-- R684: a word of a record with an error, by its number, and the data, head and end bits that are read. -/
structure WordRead where
  word : U 6
  error : WordError
  data : U 64
  head : Bool
  tail : Bool
  deriving DecidableEq, Repr

/-! ### Keys and certificates (R700 to R702) -/

/-- R700: the working state of an HMAC_DRBG (NIST SP 800-90A). -/
structure Drbg where
  key : Bytes
  v : Bytes
  deriving DecidableEq, Repr

/-- Table 19-5: one entry: its index and type number, its fwids of 48 bytes where it has them, and its vendorInfo. -/
structure TcbInfo where
  index : U 4
  fwids : Bytes
  vendorInfo : Bytes
  deriving DecidableEq, Repr

/-- Table 19-4: the fields of a leaf that differ from leaf to leaf. `partition` is the n of its subject, none in the link leaf of
R730; `notBefore` counts the seconds of UTC since 1970. -/
structure Leaf where
  serialNumber : Nat
  notBefore : Nat
  partition : Option Nat
  subjectSerial : Nat
  publicKey : Bytes
  entries : List TcbInfo
  signature : Bytes
  deriving DecidableEq, Repr

/-- R701, R730: a certificate chain: the root CA's, the device CA's and the DIK certificate, and a leaf. -/
structure CertChain where
  root : Bytes
  deviceCa : Bytes
  dik : Bytes
  leaf : Leaf
  deriving DecidableEq, Repr
end Sys2Proof.Machine
end

