-- ==== Sys2Proof/Syntax.lean ====
section
/-!
DEFINITION. Syntax.lean: the commands of the block, one constructor for each row of spec/opcode_table.json, in the
table's order. A command is an access by an agent outside the device, an event at its pins, or one whole and indivisible
step of the device's own engines; its operands are what the device does not hold itself.
-/
namespace Sys2Proof
open Machine

/-- The commands of the block. -/
inductive Instr where
  /-- CONFIGURATION_REQUEST (R589): A PCIe configuration request arrives; until boot stage one completes it is answered with Configuration Request Retry Status. -/
  | configurationRequest
  /-- PERST_N_ASSERT (R591): Assertion of PERST_N resets only the host-facing state; verdict path, partitions and time base keep running. -/
  | perstNAssert
  /-- PERST_N_RELEASE (R589): Release of PERST_N starts the 100 ms configuration readiness bound. -/
  | perstNRelease
  /-- FUNCTION_LEVEL_RESET (R593): A Function Level Reset of a VF resets that VF's host-facing state, or of the PF resets the PF and every VF. -/
  | functionLevelReset (fn : U 4)
  /-- PCIE_LINK_TRAINED (R588): The PCIe link trains; training below x16 or 64 GT/s sets pcie-link-degraded. -/
  | pcieLinkTrained (width : U 5) (rate : U 10)
  /-- RESET_N (R880): A low pulse of at least 10 µs on RESET_N resets the whole device, which boots when RESET_N rises. -/
  | resetN (rise : Bool) (lowNs : U 32)
  /-- RAIL_IN_REGULATION (R870): A supply rail reaches regulation; the ROM stage starts once VAUX18 and VIN12 are both in regulation. -/
  | railInRegulation (rail : Rail)
  /-- VIN12_DROP_OUT (R871): VIN12 or VAUX18 drops out; every regulator domain turns off within 5 µs and every lane goes down. -/
  | vin12DropOut (rail : Rail)
  /-- VSTBY33_DROP_OUT (R872): VSTBY33 or VIO18 drops out; every domain including standby turns off. -/
  | vstby33DropOut (rail : Rail)
  /-- ROM_STAGE (R827): The ROM samples BOOT_MODE, handles trial boots, verifies and loads the bank, extends register 0 and derives keys. -/
  | romStage (bootMode : U 2) (verifyA verifyB : Bool) (measurement : BitVec 384) (apply : ApplyOutcome)
  /-- HEARTH_STAGE (R696): The Hearth brings up PCIe, management, flash and time inputs and measures parts 1 to 5. -/
  | hearthStage (partsStart : Bool) (measurements : List (BitVec 384)) (converters : List (U 3 × Converter))
  /-- DRAM_STAGE (R722): The device trains the DRAM stacks and zero-clears DRAM and on-die storage. -/
  | dramStage (trained : Bool) (apply : ApplyOutcome)
  /-- SELF_TEST (R17): BIST of all tile positions and Landing lanes, spare mapping and quarter withholding. -/
  | selfTest (failed : List (U 10)) (landings : List (U 9))
  /-- SETTINGS_STAGE (R840): The persistent settings and rule banks are loaded and the time base configured. -/
  | settingsStage
  /-- READY (R827): dev_state becomes READY and enabled lanes come up once the time base has left UNSET. -/
  | ready
  /-- TRIAL_TIMEOUT (R848): On a trial boot that has not reached READY within 150 s the Hearth resets the device. -/
  | trialTimeout
  /-- SYS_REFCLK_LOSS (R879): SYS_REFCLK stops after the ROM stage and the Hall stops until RESET_N or a VIN12 cycle. -/
  | sysRefclkLoss (running : Bool)
  /-- SERDES_REFCLK_LOSS (R878): An absent SERDES_REFCLK keeps its lanes down and sets their lane-down bits. -/
  | serdesRefclkLoss (n : U 2) (absent : Bool)
  /-- ADMIN_ENABLE (R610): Writing admin_enable to 1 with valid bases makes the admin ring fetch within 1 ms. -/
  | adminEnable (fn : U 4) (tee : Bool)
  /-- ADMIN_RESET (R620): Writing admin_reset discards the admin ring's unfetched entries and resets its indices and phase. -/
  | adminReset (fn : U 4) (tee : Bool)
  /-- STICKY_MIRROR_WRITE (R603): A PF write of 1 to a sticky mirror bit clears that sticky bit. -/
  | stickyMirrorWrite (fn : U 4) (mask : U 256)
  /-- REGISTER_WRITE (R602): A write to a function register field with no behaviour of its own stores the value. -/
  | registerWrite (fn : U 4) (offset : U 26) (value : U 64) (wide tee : Bool)
  /-- SQ_TAIL (R615): A doorbell write of sq_tail hands the device the entries up to the new tail. -/
  | sqTail (fn : U 4) (page : U 12) (value : U 32) (tee : Bool)
  /-- CQ_HEAD (R615): A doorbell write of cq_head returns completion or DRAIN entries to the device. -/
  | cqHead (fn : U 4) (page : U 12) (value : U 32) (tee : Bool)
  /-- COMMAND_FETCH (R619): The device fetches the next SQ entry of a ring in round robin once its CQ has room and the previous command completed. -/
  | commandFetch (entry : Bytes)
  /-- START_DEADLINE_EXPIRY (R647): A command not started within start_deadline completes with ST_TIMEOUT. -/
  | startDeadlineExpiry (ring : U 13)
  /-- FENCE_RELEASE (R646): A fenced command starts once every earlier command of its function has completed. -/
  | fenceRelease (ring : U 13)
  /-- INTERRUPT_COALESCE_TIMEOUT (R624): coalesce_time passes since the first pending entry and the ring's vector is sent. -/
  | interruptCoalesceTimeout (ring : U 12)
  /-- VECTOR_UNMASK (R625): Unmasking a vector with its pending bit set sends one message covering every masked cause. -/
  | vectorUnmask (fn : U 4) (vector : U 10) (tee : Bool)
  /-- SESSION_OPEN (R637): Opens a Letterbox session with the intersection of the host's and device's feature words. -/
  | sessionOpen (c : CmdIn) (hostWord : U 128)
  /-- SESSION_CLOSE (R641): Ends the function's session without changing partition or traffic state. -/
  | sessionClose (c : CmdIn)
  /-- RING_CREATE (R607): Creates a COMMAND or DRAIN ring and assigns its global number. -/
  | ringCreate (c : CmdIn) (localIx : U 12) (kind : RingKind) (log2 : U 5) (vector : U 11) (coalCount : U 8) (coalTime : U 10) (drainSource : U 32) (sqBase cqBase : U 64)
  /-- RING_DESTROY (R618): Removes a ring after the doorbell writes that preceded its completion. -/
  | ringDestroy (c : CmdIn) (localIx : U 12)
  /-- RING_RESET (R620): Discards a ring's unfetched entries and returns it to use with indices 0 and phase 1. -/
  | ringReset (c : CmdIn) (localIx : U 12)
  /-- PARTITION_CONFIGURE (R688): Gives a partition its quarters, DRAM areas and share, clears the share and makes it ACTIVE. -/
  | partitionConfigure (c : CmdIn) (p : ConfigParams)
  /-- CONTEXT_CONFIGURE (R690): Configures an IKF-4840 context, assigning it one tile area per named quarter. -/
  | contextConfigure (c : CmdIn) (p : ConfigParams)
  /-- PARTITION_RELEASE (R723): Starts a RELEASE scrub: the partition enters SCRUBBING at instant S and closes. -/
  | partitionRelease (c : CmdIn)
  /-- PARTITION_QUERY (R662): Returns the partition's state, quarters, function and running epoch. -/
  | partitionQuery (c : CmdIn)
  /-- SETTING_WRITE (R658): Writes one setting named by identifier, instance and element. -/
  | settingWrite (c : CmdIn) (setting inst : U 16) (element : U 8) (value : U 128)
  /-- SETTING_READ (R656): Returns the 16-byte value of one setting. -/
  | settingRead (c : CmdIn) (setting inst : U 16) (element : U 8)
  /-- RULE_WRITE (R148): Atomically writes one classification rule of a bank. -/
  | ruleWrite (c : CmdIn) (bank : U 1) (index : U 12) (rule : Rule)
  /-- RULE_READ (R148): Returns the value, mask and result of one rule. -/
  | ruleRead (c : CmdIn) (bank : U 1) (index : U 12)
  /-- RULE_BANK_ARM (R150): Arms a rule-bank swap at NT instant T. -/
  | ruleBankArm (c : CmdIn) (switchNt : U 64)
  /-- RULE_BANK_QUERY (R155): Returns the active bank and any armed swap instant. -/
  | ruleBankQuery (c : CmdIn)
  /-- BANK_SWAP (R151): At instant T the armed swap makes the inactive bank active for digests stamped at or after T. -/
  | bankSwap
  /-- IMAGE_LOAD (R495): Copies an image from host memory into a slot, decrypting sealed pages, and moves the slot to LOADING. -/
  | imageLoad (c : CmdIn) (slot : U 1) (imageBytes : U 64) (head : Bytes)
  /-- IMAGE_LOAD_CHECK (R496): When the transfer completes the image is checked in the order of Table 13-7 and the slot becomes READY or EMPTY. -/
  | imageLoadCheck (partition : U 8) (slot : U 1) (result : LoadResult)
  /-- IMAGE_DISCARD (R497): Returns a READY slot to EMPTY. -/
  | imageDiscard (c : CmdIn) (slot : U 1)
  /-- IMAGE_QUERY (R494): Returns each slot's state, residence, epoch and the reset epoch and gap end. -/
  | imageQuery (c : CmdIn)
  /-- EPOCH_ARM (R504): Arms an image slot for epoch e at switch instant T as a resident or staged swap. -/
  | epochArm (c : CmdIn) (slot : U 1) (requireResident : Bool) (epoch : U 16) (switchNt : U 64)
  /-- EPOCH_CANCEL (R506): Returns the armed slot to READY. -/
  | epochCancel (c : CmdIn)
  /-- ROLLOUT_START (R482): Queues a rollout from the committed Larder block of a flow handle. -/
  | rolloutStart (c : CmdIn) (handle : U 32)
  /-- EPOCH_SWITCH (R514): At switch instant T the armed slot becomes RUNNING, the former RETIRING, and a TAKEN record is written. -/
  | epochSwitch (partition : U 8)
  /-- STAGED_FILL_START (R510): Once every packet stamped before T has committed, the staged fill begins its waves. -/
  | stagedFillStart (partition : U 8)
  /-- FILL_WAVE_END (R510): One fill wave of a quarter-Gallery per Wing completes and the next begins. -/
  | fillWaveEnd (partition : U 8)
  /-- EPOCH_RETIREMENT (R512): Once every packet and rollout of the former epoch has ended, its slot moves from RETIRING to READY with a RETIRED record. -/
  | epochRetirement (partition : U 8)
  /-- TABLE_LOCK (R244): Atomically locks a bucket and records its owner. -/
  | tableLock (c : CmdIn) (wing : U 1) (owner : U 8) (bucket : U 32)
  /-- TABLE_READ (R245): Returns committed buckets, or the staging copy of a locked bucket. -/
  | tableRead (c : CmdIn) (wing : U 1) (owner : U 8) (bucket : U 32) (count : U 13) (staged : Bool)
  /-- TABLE_WRITE (R245): Writes the staging copy of a locked bucket. -/
  | tableWrite (c : CmdIn) (wing : U 1) (owner : U 8) (bucket : U 32) (data : List Byte) (dmaOk : Bool)
  /-- TABLE_UNLOCK (R247): Checks the staged changes, commits or discards them, applies the hit log and releases the lock. -/
  | tableUnlock (c : CmdIn) (wing : U 1) (owner : U 8) (bucket : U 32) (discard : Bool)
  /-- LOCK_BREAK (R254): A lock held 50 µs is broken, its staging discarded and table-lock-broken set. -/
  | lockBreak (wing : U 1) (bucket : U 22)
  /-- TABLE_OVERFLOW_READ (R243): Returns overflow-store entries, other partitions' reading as zero. -/
  | tableOverflowRead (c : CmdIn) (wing : U 1) (first : U 16) (count : U 17)
  /-- TABLE_OVERFLOW_DELETE (R250): Atomically clears one overflow entry named by handle. -/
  | tableOverflowDelete (c : CmdIn) (handle : U 32) (entryGen : U 8)
  /-- TABLE_HASH (R209): Returns the flow hash, bucket and home Wing of a table key. -/
  | tableHash (c : CmdIn) (key : List Byte)
  /-- TABLE_SHADOW_WRITE (R256): Copies units from host memory into the shadow region. -/
  | tableShadowWrite (c : CmdIn) (wing : U 1) (overflow : Bool) (first count : U 32) (data : List Byte) (dmaOk : Bool)
  /-- TABLE_COMPARE (R256): Starts a compare walk of committed contents against the shadow. -/
  | tableCompare (c : CmdIn) (wing : U 1) (includeOverflow skipLearned : Bool) (queue : U 2) (priority : U 3) (firstBucket lastBucket compareId : U 32)
  /-- COMPARE_UNIT (R260): The compare engine visits the next unit of its walk within its DRAM slice. -/
  | compareUnit (wing : U 1)
  /-- COMPARE_DONE (R259): The compare walk ends and writes a COMPARE_DONE record. -/
  | compareDone (wing : U 1)
  /-- REPORT_READ (R679): Selects, delivers and releases the first visible record of a report queue, waiting up to its timeout. -/
  | reportRead (c : CmdIn) (queue : U 2) (timeout : U 32) (found : List WordRead) (written : Bool)
  /-- REPORT_READ_SELECT (R675): A waiting read selects a record that has become visible and delivers it. -/
  | reportReadSelect (partition : U 8) (queue : U 2) (found : List WordRead) (written failed : Bool)
  /-- REPORT_READ_TIMEOUT (R679): A read finds no visible record within its timeout and completes with ST_TIMEOUT. -/
  | reportReadTimeout (partition : U 8) (queue : U 2)
  /-- REPORT_READ_COMPAT (R680): A non-waiting IKF-2100 compatibility read of a report queue. -/
  | reportReadCompat (c : CmdIn) (queue : U 2) (found : List WordRead)
  /-- EXPORT_QUEUE_STATS (R584): Returns a queue's depth and delay samples, optionally restarting them. -/
  | exportQueueStats (c : CmdIn) (queue : U 12) (reset : Bool)
  /-- GATE_LIST_SET (R581): Sets a pending gate list on a port with its takeover instant. -/
  | gateListSet (c : CmdIn) (port : U 6) (entries : List (U 8 × U 32)) (base : U 64)
  /-- GATE_LIST_CANCEL (R582): Withdraws a port's pending gate list. -/
  | gateListCancel (c : CmdIn) (port : U 6)
  /-- TIME_CONFIG (R523): Writes a time setting; origin_seconds applies at the next reset. -/
  | timeConfig (c : CmdIn) (setting inst : U 16) (element : U 8) (value : U 128)
  /-- TIME_STATUS (R552): Returns the time-base state, NT, phase error, rate and time-of-day fields. -/
  | timeStatus (c : CmdIn)
  /-- COUNTER_READ (R768): Returns a run of 64-bit counters by identifier. -/
  | counterRead (c : CmdIn) (firstId : U 32) (count : U 17)
  /-- SNAPSHOT (R774): Schedules a coherent snapshot at an instant, to the window or host memory. -/
  | snapshot (c : CmdIn) (toHost : Bool) (atNt : U 64) (hostAddr : U 64) (length : U 32)
  /-- TRACE_CONFIG (R784): Enables a trace buffer and arms its triggers, post_records and stall threshold. -/
  | traceConfig (c : CmdIn) (buffer : U 32) (enable : Bool) (triggerMask : U 32) (postRecords : U 16) (stallThreshold : U 32)
  /-- TRACE_RELEASE (R784): Unfreezes a frozen trace buffer. -/
  | traceRelease (c : CmdIn) (buffer : U 32)
  /-- DEVICE_IDENTITY (R4): Returns the part, stepping, lanes, tiles, serial and firmware versions. -/
  | deviceIdentity (c : CmdIn)
  /-- HEALTH_STATUS (R825): Returns dev_state, temperatures, withheld quarters, spares and power readings. -/
  | healthStatus (c : CmdIn) (temps : List Int)
  /-- MANTEL_READ (R800): Returns bytes of one Mantel section of one die. -/
  | mantelRead (c : CmdIn) (die : U 2) (section_ : U 8) (offset : U 32)
  /-- STICKY_READ (R603): Returns the 256 sticky bits. -/
  | stickyRead (c : CmdIn)
  /-- STICKY_CLEAR (R805): Clears the sticky bits set in a write-1-to-clear mask. -/
  | stickyClear (c : CmdIn) (mask : U 256)
  /-- KEY_LOAD (R707): Unwraps an HPKE-wrapped model key into the current slot and seals the partition. -/
  | keyLoad (c : CmdIn) (keyGen : U 8) (wrappedBytes : U 32) (blob : Bytes)
  /-- PREVIOUS_KEY_ERASE (R709): When the last load that started before a KEY_LOAD completes, the previous key slot is erased. -/
  | previousKeyErase (partition : U 8)
  /-- KEY_QUERY (R708): Returns the current and previous key_gen with valid bits. -/
  | keyQuery (c : CmdIn)
  /-- UPDATE_BEGIN (R841): Creates an update staging of total_bytes owned by the issuing session. -/
  | updateBegin (c : CmdIn) (totalBytes : U 64)
  /-- UPDATE_DATA (R843): Queues a transfer of staging data at the expected offset. -/
  | updateData (c : CmdIn) (offset : U 64) (length : U 32) (hdr : Option StagingHdr)
  /-- UPDATE_TRANSFER_DONE (R843): A queued staging transfer finishes reading host data into flash, or discards the staging on a DMA error. -/
  | updateTransferDone (dmaOk : Bool)
  /-- UPDATE_END (R844): Closes the staging, which becomes CLOSING. -/
  | updateEnd (c : CmdIn)
  /-- STAGING_CLOSED (R844): Once every byte is in flash the staging status record is written and the staging is CLOSED. -/
  | stagingClosed
  /-- UPDATE_ABORT (R842): Discards the staging. -/
  | updateAbort (c : CmdIn)
  /-- UPDATE_STATUS (R850): Returns the update state, result, banks, floor and byte counts. -/
  | updateStatus (c : CmdIn)
  /-- UPDATE_ACTIVATE (R845): Writes a boot record with apply_pending and optionally resets the device. -/
  | updateActivate (c : CmdIn) (resetNow : Bool)
  /-- UPDATE_CONFIRM (R849): Confirms the trial bank by writing a boot record with trial 0. -/
  | updateConfirm (c : CmdIn)
  /-- SETTINGS_SAVE (R838): Captures the device's current settings as the persistent settings. -/
  | settingsSave (c : CmdIn)
  /-- SETTINGS_FLASH_WRITE (R839): The captured settings are written to the other flash copy within 5 s. -/
  | settingsFlashWrite (done : Bool)
  /-- PAIR_SETUP (R736): Puts the device in CONNECTING with the given role. -/
  | pairSetup (c : CmdIn) (standby : Bool)
  /-- PAIR_RELEASE (R735): Returns the device to UNPAIRED. -/
  | pairRelease (c : CmdIn)
  /-- PAIR_STATUS (R757): Returns pair state, role, setup failure, lanes and resync status. -/
  | pairStatus (c : CmdIn)
  /-- PAIR_SWITCHOVER (R755): Exchanges roles at an effective instant chosen by the primary. -/
  | pairSwitchover (c : CmdIn)
  /-- PAIR_RESYNC (R751): Requests resynchronisation of the standby. -/
  | pairResync (c : CmdIn)
  /-- DUMP_TAKE (R795): Takes a fresh dump of a scope, or copies the stored automatic dump. -/
  | dumpTake (c : CmdIn) (scope : U 8) (hostAddr length : U 64) (waits : List Wait)
  /-- DUMP_STATUS (R798): Returns whether an automatic dump is stored and copied, and dumps lost. -/
  | dumpStatus (c : CmdIn)
  /-- WAITFOR_READ (R794): Returns the wait-for graph of the last automatic dump. -/
  | waitforRead (c : CmdIn)
  /-- DIGEST (R83): A DIGEST frame is received whole, checked, credit-checked and its accepted slots stamped into the lane buffer. -/
  | digest (lane : U 6) (age : U 64) (frame : List Byte) (fcsOk cut : Bool) (corrected uncorrectable : U 16)
  /-- CONTROL_RECEIVE (R103): A CONTROL frame from the switch is received and its credits_consumed taken. -/
  | controlReceive (lane : U 6) (frame : List Byte) (fcsOk cut : Bool) (corrected uncorrectable : U 16)
  /-- FOREIGN_FRAME (R84): A frame of foreign EtherType on a digest lane is discarded and counted. -/
  | foreignFrame (lane : U 6) (frame : List Byte) (fcsOk cut : Bool) (corrected uncorrectable : U 16)
  /-- RX_IPV6 (R558): A received IPv6 frame on a digest lane is counted and discarded. -/
  | rxIpv6 (lane : U 6) (frame : List Byte) (fcsOk cut : Bool) (corrected uncorrectable : U 16)
  /-- LANE_DOWN (R117): A lane loses PCS lock or sees a remote fault; its verdict records are discarded and training restarts. -/
  | laneDown (lane : U 6)
  /-- LINK_UP (R121): A lane comes up with frame_seq, credit limit and occupancy at their starting values. -/
  | linkUp (lane : U 6)
  /-- CONTROL_FRAME_CREDIT (R105): With a changed credit limit and no DLF frame sent for 100 ns the device sends a CONTROL frame. -/
  | controlFrameCredit (lane : U 6)
  /-- CONTROL_FRAME_IDLE (R106): With no DLF frame sent for 10 µs the device sends a CONTROL frame. -/
  | controlFrameIdle (lane : U 6)
  /-- CREDIT_RESUME (R109): Every dispatcher queue falls to 1,024 tokens; withholding ends and a CONTROL frame falls due on every lane. -/
  | creditResume
  /-- PARSE (R125): The Porch takes a slot from a lane buffer, parses it, records its reason code and classifies it. -/
  | parse
  /-- DISPATCH (R264): The dispatcher hashes a token, chooses its home Wing and admits it to the Stairwell or its dispatcher queue. -/
  | dispatch
  /-- QUOTA_RELEASE (R64): A packet waiting in a dispatcher queue is admitted when its partition's Stairwell quota frees. -/
  | quotaRelease (wing : U 1) (partition : U 4)
  /-- BATCH_CLOSE (R34): A batch closes by size, by batch wait expiry, by predecessor or by statistics batch, and is sent to its tiles. -/
  | batchClose (wing : U 1) (partition : U 4) (modelSlot : U 2) (graph : GraphKind) (stage : U 8) (place : Placement)
  /-- SETTLE_WAIT (R434): A batch of statistics batch n is sent once every token stamped before (n − 1) × L has committed. -/
  | settleWait (wing : U 1) (batch : U 16)
  /-- BATCH_DESCRIPTOR (R324): A tile receives a batch descriptor, loads bases and starts issuing at its entry point. -/
  | batchDescriptor (tile : U 10) (ecc : Ecc)
  /-- LOOKUP (R220): The home Wing's Cellar returns HIT, MISS or MISS_PENDING for a packet's table key. -/
  | lookup (wing : U 1) (entry : U 15) (uncorrectable : Bool)
  /-- INPUT_STATE (R270): A packet in WAIT_STATE receives input state by forwarding, cache or Larder, with lazy initialisation and flow elements. -/
  | inputState (wing : U 1) (entry : U 15) (cacheBad : Bool) (larderBad : Option (U 6))
  /-- READY_TO_COMMIT (R267): A packet's last stage completes and its clip checks pass; it enters READY. -/
  | readyToCommit (wing : U 1) (entry : U 15)
  /-- COMMIT (R42): A packet commits, making its verdict, Larder write, hit bit, counters, records, rollout and learn notice visible together. -/
  | commit (wing : U 1) (entry : U 15)
  /-- SQUASH (R276): A squash cause discards a packet's uncommitted work and cascades to consumers of its forwarded state. -/
  | squash (wing : U 1) (entry : U 15)
  /-- SQUASH_DISCARD_COMPLETE (R280): A squashed entry's discard completes and it returns to ADMITTED or NO_FLOW. -/
  | squashDiscardComplete (wing : U 1) (entry : U 15)
  /-- DEADLINE (R50): A packet's deadline instant arrives without completion time and the default verdict flagged late is emitted. -/
  | deadline
  /-- VERDICT_ARRIVAL (R49): A committed verdict reaches the verdict assembler and is emitted, or written as a LATE record. -/
  | verdictArrival (wing : U 1)
  /-- VERDICT_FRAME (R96): A lane egress free to start a frame sends a VERDICT frame carrying up to 64 pending records. -/
  | verdictFrame (lane : U 6)
  /-- EXPORT_FRAME (R572): A free egress port with no verdict or CONTROL frame due sends the export frame chosen by weighted fair queueing. -/
  | exportFrame (port : U 6)
  /-- SHAPER_ELIGIBLE (R576): A shaped queue becomes eligible at the start of its timing-wheel slot. -/
  | shaperEligible (queue : U 12)
  /-- PAYLOAD_CLOSE (R570): An open export payload closes on flush_time or 255 items and becomes a queued frame. -/
  | payloadClose (queue : U 12)
  /-- INSERTION (R230): A control core takes the oldest pending key and inserts it into a free way, the overflow store, or fails. -/
  | insertion (wing : U 1)
  /-- BACKGROUND_CLEAR (R298): After a state_reset epoch and once earlier epochs drain, the clear walks and resets stale blocks. -/
  | backgroundClear (wing : U 1) (partition : U 4) (bad : Option (U 6))
  /-- EPOCH_WALK (R303): An epoch walk raises old block epochs to F so that E_r stays within serial range. -/
  | epochWalk (wing : U 1) (partition : U 4) (bad : Option (U 6))
  /-- EPOCH_WALK_END (R304): When the walk has ended on every Wing E_r is set to F. -/
  | epochWalkEnd (partition : U 4)
  /-- ROLLOUT_BATCH (R478): The dispatcher issues a batch of queued rollouts to a tile free of verdict batches. -/
  | rolloutBatch (wing : U 1) (partition : U 4) (modelSlot : U 2) (plan : List Placement)
  /-- ROLLOUT_RECORD (R479): A rollout's last step completes and a ROLLOUT record is written. -/
  | rolloutRecord (wing : U 1) (batch : U 16)
  /-- GATE_LIST (R582): At the takeover instant the pending gate list replaces the former one. -/
  | gateList (port : U 6)
  /-- PAIR_TABLE_APPLY (R744): A mirrored table change or command takes effect on the member at its effective instant. -/
  | pairTableApply (wing : U 1)
  /-- PAIR_INSERT_APPLY (R743): A mirrored insertion takes effect at its effective instant. -/
  | pairInsertApply (wing : U 1)
  /-- WINDOW_EDGE (R205): At each grid instant the partition window counts of window k − 2 are retired. -/
  | windowEdge (partition : U 4) (slot : U 1)
  /-- AGE_SWEEP (R236): An aging sweep visits a partition's buckets and overflow entries, clearing hit, marking aged or removing entries. -/
  | ageSweep (wing : U 1) (partition : U 4)
  /-- SWEEP_OVERRUN (R240): A sweep due while the previous runs starts when it ends and is counted. -/
  | sweepOverrun (wing : U 1) (partition : U 4)
  /-- INTERVAL_1MS (R544): Each 1 ms NT interval ends for the blocks that keep one: eye margin, retune counts, TABLE_FULL and crosscheck. -/
  | interval1ms (block : U 3) (margins : List (U 6 × U 10 × U 10))
  /-- STATE_HASH (R750): A member closes interval k and sends its state-hash sums. -/
  | stateHash (wing : U 1)
  /-- SHAPER_SAMPLE (R583): The scheduler samples every export queue's depth and head delay. -/
  | shaperSample
  /-- SNAPSHOT_COPY (R771): At a snapshot instant each block copies its counters before other work. -/
  | snapshotCopy (block : U 8)
  /-- SNAPSHOT_WINDOW_SWAP (R605): A finished snapshot becomes the window and snap_seq increments in one Hall cycle. -/
  | snapshotWindowSwap (fn : U 4)
  /-- PERIODIC_SNAPSHOT (R775): Each telemetry_period a snapshot is placed in every window and exported as TELEMETRY items. -/
  | periodicSnapshot
  /-- WING_RESUME (R548): A stopped Wing resumes and first starts every occurrence whose instant has passed. -/
  | wingResume (wing : U 1)
  /-- PPS_IN_EDGE (R532): A valid PPS_IN edge sets NT the first time, or feeds the servo and state machine. -/
  | ppsInEdge (age : U 4)
  /-- TOD_MESSAGE (R527): A time-of-day message is accepted or discarded. -/
  | todMessage (message : Bytes)
  /-- HOLDOVER (R529): No valid edge for 2 s moves the time base to HOLDOVER. -/
  | holdover
  /-- PPS_OUT (R541): PPS_OUT rises at each second instant plus pps_out_delay and falls 100 ms later. -/
  | ppsOut
  /-- TIME_WRAP_NEAR (R525): NT comes within 2^56 of wrapping, or reaches 2^64 − 1 and the time base stops. -/
  | timeWrapNear
  /-- RECORD_PUSH (R669): A report queue takes a record from staging, makes room by discard, and writes it word by word. -/
  | recordPush (partition : U 8) (queue : U 2)
  /-- REPORT_NOTIFY_TIMEOUT (R683): rq_coalesce_time passes since the first pending record and the queue's vector is sent. -/
  | reportNotifyTimeout (partition : U 8) (queue : U 2)
  /-- MMA (R366): One array pass in mode MAC. -/
  | mma (tile : U 10) (array : U 1) (ecc : Ecc)
  /-- SEL (R370): One array pass latching tree node bits. -/
  | sel (tile : U 10) (array : U 1) (ecc : Ecc)
  /-- DIST (R369): One array pass in mode L1, L2 or HAM. -/
  | dist (tile : U 10) (array : U 1) (ecc : Ecc)
  /-- PASS_COMPLETE (R374): A pass completes when the last cell performs its last step and its signal token is applied. -/
  | passComplete (tile : U 10) (array : U 1)
  /-- FORM_CHANGE (R365): A pass in a new form waits for earlier passes to drain and reroutes for 64 cycles. -/
  | formChange (tile : U 10) (array : U 1)
  /-- RAMP_UP (R387): A parked array ramps its row groups with ghost operands before step 0. -/
  | rampUp (tile : U 10) (array : U 1)
  /-- RAMP_DOWN (R386): An array idle for 64 cycles with an empty queue ramps down to parked. -/
  | rampDown (tile : U 10) (array : U 1)
  /-- SWAP (R377): A column moves its finished pass onto the drain lane once its lane is empty, and loads the next preload. -/
  | swap (tile : U 10) (array : U 1) (column : U 9)
  /-- TAG_HOLD (R448): A feeder withholds a step on a block-tag mismatch and compares again each cycle. -/
  | tagHold (tile : U 10) (array : U 1)
  /-- TAG_MISMATCH (R451): Tags still differ after 64 cycles; the word faults with squash cause TAG_MISMATCH. -/
  | tagMismatch (tile : U 10) (array : U 1)
  /-- FEED (R338): Copies operand data into a feeder half and marks it FULL. -/
  | feed (tile : U 10) (array : U 1) (ecc : Ecc)
  /-- FEED_SCALE (R339): Writes a scale-register set and its tag. -/
  | feedScale (tile : U 10) (array : U 1) (ecc : Ecc)
  /-- FEED_CODEBOOK (R398): Loads and checks a codebook slot. -/
  | feedCodebook (tile : U 10) (array : U 1) (ecc : Ecc)
  /-- DRAIN (R342): Moves the oldest undrained pass into the drain buffer. -/
  | drain (tile : U 10) (array : U 1) (ecc : Ecc)
  /-- PRELOAD (R379): Fills the preload lane or writes the idle bank with zero, channel or full values. -/
  | preload (tile : U 10) (array : U 1) (ecc : Ecc)
  /-- PIPE (R425): Rescales, activates and encodes rows with clip counting. -/
  | pipe (tile : U 10) (ecc : Ecc)
  /-- GROUP (R427): Scales group partials and adds them to FP32 sums. -/
  | group (tile : U 10) (ecc : Ecc)
  /-- TOPK (R465): Keeps a running top-k list of distances. -/
  | topk (tile : U 10) (ecc : Ecc)
  /-- LINK (R468): Applies the combine link function and writes each row's class and score. -/
  | link (tile : U 10) (ecc : Ecc)
  /-- CHECK (R443): Takes the wide re-run decision for a layer and jumps into its wide segment when needed. -/
  | check (tile : U 10)
  /-- VERDICT (R472): Forms each row's pending verdict through the verdict table. -/
  | verdict (tile : U 10) (ecc : Ecc)
  /-- TABLE (R413): Loads and checks an activation or encode table. -/
  | table (tile : U 10) (ecc : Ecc)
  /-- TREE (R464): Walks each tree through node bits and sums leaf values. -/
  | tree (tile : U 10) (ecc : Ecc)
  /-- LOAD (R346): Copies data from a remote tile or DRAM window into tile memory. -/
  | load (tile : U 10) (ecc : Ecc) (dramBad : Option (U 20))
  /-- GATHER (R346): Loads indexed rows from a DRAM window. -/
  | gather (tile : U 10) (ecc : Ecc) (dramBad : Option (U 20))
  /-- STORE (R355): Sends tile memory to a remote tile or DRAM window. -/
  | store (tile : U 10) (ecc : Ecc)
  /-- PENDING (R348): Places a report record in a packet's pending store. -/
  | pending (tile : U 10) (ecc : Ecc)
  /-- STATE_IN (R349): Waits for the rows' input states and writes their flow elements. -/
  | stateIn (tile : U 10) (ecc : Ecc)
  /-- STATE_RELEASE (R350): After every CHECK completes, releases each row's new block to the Stairwell. -/
  | stateRelease (tile : U 10) (ecc : Ecc)
  /-- REDUCE (R358): Sums contributions in fixed slot order once all have arrived. -/
  | reduce (tile : U 10) (ecc : Ecc)
  /-- SYNC (R352): Sends a token increment to a tile or group. -/
  | sync (tile : U 10)
  /-- WAIT (R323): Stops issue until a token holds count, then subtracts it. -/
  | wait (tile : U 10)
  /-- MARK (R353): Writes a trace record carrying a value. -/
  | mark (tile : U 10)
  /-- QUIESCE (R360): Tiles of an aborted batch finish discarding work and clearing state within 512 cycles. -/
  | quiesce (tile : U 10)
  /-- REISSUE (R361): After quiescing the dispatcher re-issues the aborted and discarded batches in order. -/
  | reissue (wing : U 1) (batch : U 16)
  /-- TILE_RETIREMENT (R810): A tile due for retirement is copied to a spare, its batches held, aborted and reissued, or its quarter withheld. -/
  | tileRetirement (wing : U 1)
  /-- ROW_RETIREMENT (R818): A failing DRAM row is copied to a spare row by post-package repair. -/
  | rowRetirement (wing : U 1) (stack : U 2) (channel : U 6) (bank : U 6) (row : U 20) (cause : U 8) (spare : Bool) (lost : List (U 5 × U 48))
  /-- LANDING_LANE_SPARING (R816): A Landing lane with excess replay is replaced by a spare. -/
  | landingLaneSparing (wing : U 1) (laneGroup : U 8)
  /-- PATROL_SCRUB (R824): The patrol scrubber writes back a corrected DRAM word by atomic read-modify-write. -/
  | patrolScrub (wing : U 1) (partition : U 5) (address : U 48) (uncorrectable : Bool)
  /-- WING_RECOVERY (R815): A Wing's clock stops, its batches abort, routers and Cellar engines reset, and it resumes. -/
  | wingRecovery (wing : U 1)
  /-- HANG (R792): An engine or entry without progress for 1 ms sets hang, fires triggers, dumps and builds the wait-for graph. -/
  | hang (hung : List (U 32)) (waits : List Wait)
  /-- THROTTLE_STEP (R819): Every 100 µs a hot Wing lowers, or a cooled Wing raises, its clock by 1/16. -/
  | throttleStep (wing : U 1) (temp : Int)
  /-- THERMTRIP (R882): A die at 115 °C or stack at 105 °C asserts THERMTRIP_N and turns off every domain. -/
  | thermtrip
  /-- REGULATOR_FAULT (R873): A domain out of limits turns off and its loads are retired, recovered or the device fails. -/
  | regulatorFault (domain : U 7)
  /-- DROOP (R19): Supply droop stretches a Wing clock toward its floor. -/
  | droop (wing : U 1) (mhz : U 11)
  /-- MANTEL_WRITE (R802): A Mantel section is written to its older flash copy at its cadence or on change. -/
  | mantelWrite (die : U 2) (section_ : U 4) (ok alarm : Bool)
  /-- PMBUS_POLL (R874): Every 1 ms the device reads each converter's output, current and status. -/
  | pmbusPoll (readings : List (U 3 × Converter))
  /-- PM_ALERT (R876): PM_ALERT_N asserted makes the device read and log converter status, repeating every 100 ms. -/
  | pmAlert (asserted : Bool) (status : List (U 3 × U 16))
  /-- TRACE_RECORD (R780): An enabled buffer writes one queued trace record per cycle, circular or streaming. -/
  | traceRecord (buffer : U 11)
  /-- STALL_RECORD (R779): An engine's stall on one reason reaches stall_threshold cycles and a STALL record is queued. -/
  | stallRecord (buffer : U 11) (engine : U 8) (reason : U 8) (context : U 4) (layer op : U 12) (batch : U 16)
  /-- BOUNCE_START (R626): A VF enters bounce-buffer mode inside an SPDM session. -/
  | bounceStart (fn : U 4)
  /-- END_SESSION (R628): SPDM END_SESSION ends bounce-buffer mode and the VF's session. -/
  | endSession (fn : U 4)
  /-- ENVELOPE (R633): An envelope is opened and checked; failure ends bounce-buffer mode. -/
  | envelope (fn : U 4) (slot : U 24) (data : Bytes)
  /-- GET_CERTIFICATE (R701): Returns the certificate chain with the latest partition leaf. -/
  | getCertificate (fn : U 4) (slot : U 1)
  /-- KEY_EXCHANGE (R701): Establishes an SPDM session signed with the PAK. -/
  | keyExchange (fn : U 4) (slot : U 1)
  /-- GET_MEASUREMENTS (R701): Answered with an SPDM ERROR of UnsupportedRequest. -/
  | getMeasurements (fn : U 4)
  /-- SPDM_REQUEST (R701): Other SPDM 1.3 requests on a VF's DOE mailbox are answered as responder. -/
  | spdmRequest (fn : U 4) (code : U 8)
  /-- LOCK_INTERFACE_REQUEST (R716): Moves a VF to CONFIG_LOCKED when its IDE stream is Secure and partition ACTIVE. -/
  | lockInterfaceRequest (fn : U 4)
  /-- START_INTERFACE_REQUEST (R717): Moves a locked VF to RUN, sending its DMA on its stream with T bit set. -/
  | startInterfaceRequest (fn : U 4)
  /-- TDISP_ERROR (R718): A VF in CONFIG_LOCKED or RUN moves to ERROR and its rings error. -/
  | tdispError (fn : U 4)
  /-- IDE_KM (R715): An IDE_KM message in the VF's session sets up an IDE stream key. -/
  | ideKm (fn : U 4) (stream : U 4) (key : Option Bytes)
  /-- BOUNDARY_SCAN (R721): An IEEE 1149.1 instruction loaded in the TAP acts on pins only. -/
  | boundaryScan (instr : U 2)
  /-- INTERNAL_SCAN (R721): An internal-scan instruction is held until a ZEROISE scrub of every sealed partition completes. -/
  | internalScan
  /-- SCRUB_DRAIN (R723): Once every packet stamped before S has committed the scrub enters its on-die phase. -/
  | scrubDrain (partition : U 8)
  /-- SCRUB_ON_DIE (R723): The on-die phase clears the partition's tiles and Hall and Cellar state and ends. -/
  | scrubOnDie (partition : U 8)
  /-- SCRUB_DRAM (R723): The DRAM phase zeroes the partition's region and overflow blocks and ends. -/
  | scrubDram (partition : U 8)
  /-- BANISTER_CONNECT (R730): Members exchange link chains and ephemeral keys, derive keys and compare setup items. -/
  | banisterConnect (lanes : U 8) (authentic : Bool) (info : PartnerInfo)
  /-- BANISTER_FRAME (R732): A Banister PAIR frame is received, authenticated and its messages accepted in sequence. -/
  | banisterFrame (lane : U 3) (header : Bytes) (fcsOk authentic : Bool) (msgs : List (U 32 × PairMsg))
  /-- HEARTBEAT (R734): A member sends a HEARTBEAT at least every 1 µs. -/
  | heartbeat
  /-- RESEND (R734): An unacknowledged sequenced message after 64,000 NT units is resent with its successors. -/
  | resend
  /-- PARTNER_LOST (R737): No authenticated frame for 50 µs moves an ACTIVE member to ALONE. -/
  | partnerLost
  /-- INSERT (R743): The standby records a primary insertion for its effective instant. -/
  | insert
  /-- TABLE_CHANGE (R744): The standby records a primary table change for its effective instant. -/
  | tableChange
  /-- PREPARE (R748): The standby runs a mirrored command's checks and answers with VOTE. -/
  | prepare
  /-- VOTE (R748): The primary receives the vote and commits or rejects the mirrored command. -/
  | vote
  /-- VOTE_TIMEOUT (R748): No vote within 1 ms completes the mirrored command with ST_TIMEOUT. -/
  | voteTimeout
  /-- COMMIT_MESSAGE (R748): The standby schedules a mirrored command for its effective instant. -/
  | commitMessage
  /-- STATE_HASH_MESSAGE (R750): A partner's interval sums are compared and divergence triggers resynchronisation. -/
  | stateHashMessage
  /-- RESYNC_BEGIN (R751): Starts a resynchronisation of a partition on a Wing at instant Q. -/
  | resyncBegin
  /-- RESYNC_DATA (R753): The standby replaces a unit with its Q image. -/
  | resyncData
  /-- BLOCK_REQUEST (R752): The primary sends a requested unit's Q image ahead of the walker. -/
  | blockRequest
  /-- RESYNC_WALKER (R752): Once pre-Q packets have committed a walker sends the remaining Q image units. -/
  | resyncWalker (wing : U 1) (partition : U 4)
  /-- RESYNC_END (R754): Ends the resynchronisation of its partition and Wing. -/
  | resyncEnd (wing : U 1) (partition : U 4)
  /-- ROLE (R755): The roles of a switchover exchange at its effective instant. -/
  | role
  /-- RELEASE (R735): A RELEASE message returns the member to UNPAIRED. -/
  | release
  /-- UPDATE (R853): A relay payload OFFER, DATA or END arrives over the Banister. -/
  | update
  /-- RELAY_OFFER (R852): Every 10 s a CLOSED staging is offered to neighbours until answered. -/
  | relayOffer (banister downstreamUp : Bool)
  /-- OFFER (R853): A received relay offer is accepted or declined. -/
  | offer (port : U 1) (sender : U 64) (x : Relay)
  /-- DTLS_HANDSHAKE (R856): A management DTLS handshake is authenticated as operator or relay, or closed. -/
  | dtlsHandshake (anchor : Option (U 64)) (linkSerial : Option (U 64))
  /-- COMMAND_RECORD (R859): A DTLS record carrying a command packet is run, replayed from the kept reply, or discarded. -/
  | commandRecord (assoc : U 3) (rec : Option Bytes)
  /-- ASSOCIATION_IDLE (R857): An association without records for 300 s is closed. -/
  | associationIdle (assoc : U 3)
  /-- BRIDGE_FRAME (R855): A management frame is forwarded between the two ports. -/
  | bridgeFrame (port : U 1) (frame : Bytes)
  /-- NEIGHBOUR_DISCOVERY (R854): The device answers neighbour discovery and ICMPv6 echo for its link-local address. -/
  | neighbourDiscovery (port : U 1) (frame : Bytes)
  /-- BACKGROUND_CLEAR_END (R302): The background clear of a state_reset epoch ends on the last Wing, so clear_running falls to 0 and a further EPOCH_ARM with state_reset is no longer refused with ST_BUSY. -/
  | backgroundClearEnd (partition : U 4)
  /-- GATE_ENTRY_CHANGE (R580): At the instant a gate-list entry's interval ends, the next entry comes into force and opens or closes classes, which leave backlog or wake with fresh finish tags under R572. -/
  | gateEntryChange (port : U 6)
  /-- REFRESH_DOUBLED (R887): A DRAM stack sensor passes 85 °C, or falls back below it, and the Cellar switches that stack between normal and doubled refresh. -/
  | refreshDoubled (stack : U 3) (hot : Bool)
  deriving DecidableEq, Repr

end Sys2Proof
end

