-- ==== Sys2Proof/Decode.lean ====
section
/-!
DEFINITION. Decode.lean: the command that a word of the table's bits spells. The table gives no row any bits.
-/
namespace Sys2Proof

/-- No row of spec/opcode_table.json gives bits (log entry 4). -/
def decodeTableWord (_nbits _w : Nat) : Option Instr := none

end Sys2Proof
end

