-- ==== Sys2Proof/Config.lean ====
section
/-!
DEFINITION. Config.lean: what an implementation fixes and the free values. Every constant here has no body: a claim that
mentions one holds whatever its value is.
-/
namespace Sys2Proof.Config

/-- Log entry 6: the n-th fresh value that the manual leaves open, as a natural number. -/
opaque freeNat : Nat → Nat

/-- Log entry 6: the n-th fresh 32-bit value that the manual leaves open. -/
opaque freeWord : Nat → BitVec 32

/-- R695: the root seed, fused at manufacture. -/
opaque rootSeed : BitVec 256

/-- R700: what the Hearth's entropy source gives for the n-th seeding of its HMAC_DRBG. -/
opaque entropy : Nat → Bytes

/-- R699: the application secret of an SPDM session, as its n-th key schedule gives it, in the request direction (false) or the
response direction (true). -/
opaque spdmSecret : Nat → Bool → Bytes

/-- R702: the DER encoding of the certificate whose fields these are, in the order of Table 19-4 (RFC 5280; log entry 218). -/
opaque derCertificate : List Bytes → Bytes

/-- R800: the bytes that a record of a Mantel section takes, from the section's number and what the record holds; the manual
gives the contents and leaves the layout open. -/
opaque mantelText : Nat → List Nat → Bytes

/-- Log entry 6: a fact of a node of Table 21-13 that a dump shows and that the manual's rules do not determine, from the use
of free values and the node. -/
opaque engineFact : Nat → Nat → Nat

/-- Table 21-16: the 4 bytes before a setting's value in a dump, from identifier, instance and element: the manual gives 20 bytes
to a record whose three numbers and value take 21. -/
opaque settingRef : Nat → Nat → Nat → Bytes

/-- R664: the 8 check bits of a report-queue word over its 64 data bits, its head bit and its end bit: the manual names no code (log
entry 229). -/
opaque secded : BitVec 64 → Bool → Bool → BitVec 8

/-- Table 21-8: the engine code of a FAULT, EVENT, TRIGGER or GAP record, from its kind and arg0: the manual names no engine for
them (log entry 226). -/
opaque traceEngine : Nat → Nat → Nat

/-- Table 21-16: engine code in the node identifier of a block that runs scheduled events and that Table 21-1 does not name. -/
opaque blockCode : Nat → Nat

end Sys2Proof.Config
end

