-- ==== Sys2Proof/Machine/Bits.lean ====
section
/-!
DEFINITION. Machine/Bits.lean: bit fields, byte order (R5), saturation (R759), 16-bit serial order (R551), and the
reads and writes of numbered tables and of sparse memory that every block of the model uses.
-/
namespace Sys2Proof.Machine

/-- `n mod 2 ^ w`. -/
def wrap (w n : Nat) : Nat := n % 2 ^ w

/-- A counter that holds at most `m`. -/
def satAdd (m a b : Nat) : Nat := if a + b ≤ m then a + b else m

/-- The largest value of a 64-bit counter (R759). -/
def max64 : Nat := 18446744073709551615

/-- R551: `a` precedes `b` among 16-bit serial numbers. -/
def serialLt (a b : Nat) : Bool :=
  let d := (b + 65536 - a % 65536) % 65536
  decide (1 ≤ d ∧ d ≤ 32767)

/-- The `w` bytes of `n`, least significant first (R5). -/
def leBytes : Nat → Nat → Bytes
  | 0, _ => []
  | w + 1, n => BitVec.ofNat 8 n :: leBytes w (n / 256)

/-- The number that a string of bytes holds, least significant first. -/
def leNat : Bytes → Nat
  | [] => 0
  | b :: bs => b.toNat + 256 * leNat bs

/-- The number that a string of bytes holds, most significant first. -/
def beNat (bs : Bytes) : Nat := bs.foldl (fun acc b => acc * 256 + b.toNat) 0

/-- The `w` bytes of `n`, most significant first. -/
def beBytes (w n : Nat) : Bytes := (leBytes w n).reverse

/-- `w` zero bytes. -/
def zeroBytes (w : Nat) : Bytes := List.replicate w 0

/-- The bytes `[off, off + len)` of a string, short where the string ends. -/
def slice (bs : Bytes) (off len : Nat) : Bytes := (bs.drop off).take len

/-- A little-endian field of `w` bytes at offset `off`; bytes past the end read as absent. -/
def leAt (bs : Bytes) (off w : Nat) : Nat := leNat (slice bs off w)

/-- A big-endian (network order) field of `w` bytes at offset `off`. -/
def beAt (bs : Bytes) (off w : Nat) : Nat := beNat (slice bs off w)

/-- Bit `i` of `n`. -/
def bitOf (n i : Nat) : Bool := n / 2 ^ i % 2 == 1

/-- Bits `[lo + w - 1 : lo]` of `n`. -/
def bitsOf (n lo w : Nat) : Nat := n / 2 ^ lo % 2 ^ w

/-- A Boolean as one bit. -/
def b2n (b : Bool) : Nat := if b then 1 else 0

/-- The entry of a table at number `k`, or `d` where the table lists none. -/
def mget {α : Type} (d : α) : Tab α → Nat → α
  | [], _ => d
  | (i, a) :: t, k => if i = k then a else mget d t k

/-- The entry of a table at number `k`, if it lists one. -/
def mfind {α : Type} : Tab α → Nat → Option α
  | [], _ => none
  | (i, a) :: t, k => if i = k then some a else mfind t k

/-- The table with entry `k` set to `a`, its numbers kept in rising order. -/
def mput {α : Type} : Tab α → Nat → α → Tab α
  | [], k, a => [(k, a)]
  | (i, b) :: t, k, a =>
    if k < i then (k, a) :: (i, b) :: t
    else if k = i then (k, a) :: t
    else (i, b) :: mput t k a

/-- The table without entry `k`. -/
def mdel {α : Type} : Tab α → Nat → Tab α
  | [], _ => []
  | (i, b) :: t, k => if i = k then t else (i, b) :: mdel t k

/-- The table with entry `k` changed by `f`, an unlisted entry counting as `d`. -/
def mmod {α : Type} (d : α) (t : Tab α) (k : Nat) (f : α → α) : Tab α := mput t k (f (mget d t k))

/-- CRC-32C, reflected (R209): one bit. -/
def crc32cBit (c : BitVec 32) : BitVec 32 := if c.getLsbD 0 then (c >>> 1) ^^^ 0x82F63B78#32 else c >>> 1

/-- CRC-32C: one byte. -/
def crc32cByte (c : BitVec 32) (b : Byte) : BitVec 32 :=
  let x := c ^^^ b.setWidth 32
  crc32cBit (crc32cBit (crc32cBit (crc32cBit (crc32cBit (crc32cBit (crc32cBit (crc32cBit x)))))))

/-- R209: CRC-32C of a string, polynomial 0x1EDC_6F41, initial value and final XOR 0xFFFF_FFFF. -/
def crc32c (bs : Bytes) : BitVec 32 := bs.foldl crc32cByte 0xFFFFFFFF#32 ^^^ 0xFFFFFFFF#32

/-- The byte of a sparse memory at address `a`; an unlisted address reads zero. -/
def memGet : Mem → Nat → Byte
  | [], _ => 0
  | (i, b) :: m, a => if i = a then b else memGet m a

/-- The memory with the byte at address `a` set, in canonical form. -/
def memPut : Mem → Nat → Byte → Mem
  | [], a, v => if v = 0 then [] else [(a, v)]
  | (i, b) :: m, a, v =>
    if a < i then (if v = 0 then (i, b) :: m else (a, v) :: (i, b) :: m)
    else if a = i then (if v = 0 then m else (a, v) :: m)
    else (i, b) :: memPut m a v

/-- `n` bytes from address `a`. -/
def memRead (m : Mem) (a : Nat) : Nat → Bytes
  | 0 => []
  | n + 1 => memGet m a :: memRead m (a + 1) n

/-- The memory with a string of bytes stored from address `a`. -/
def memWrite (m : Mem) (a : Nat) : Bytes → Mem
  | [] => m
  | b :: bs => memWrite (memPut m a b) (a + 1) bs

/-- The memory with every byte of `[lo, hi)` zero. -/
def memClear (m : Mem) (lo hi : Nat) : Mem := m.filter (fun c => !(decide (lo ≤ c.1) && decide (c.1 < hi)))

/-- The canonical form of a memory: addresses strictly rising, no zero entry. -/
def memWf : Mem → Bool
  | [] => true
  | [(_, b)] => b != 0
  | (i, b) :: (j, c) :: m => b != 0 && decide (i < j) && memWf ((j, c) :: m)

/-- A number lies in a range. -/
def inR (v lo hi : Nat) : Bool := decide (lo ≤ v) && decide (v ≤ hi)

end Sys2Proof.Machine
end

