-- ==== Sys2Proof/Machine/Counters.lean ====
section
/-!
DEFINITION. Machine/Counters.lean: the identifiers of the counters (R766, R767, Table 21-3): group in bits [31:24],
instance in [23:12], index in [11:0]; the index of a counter is its place among the rows of its group's source tables.
DEDUCED (log entry 12): a wildcard in a counter's path takes consecutive indices.
-/
namespace Sys2Proof.Machine.Ctr

/-- R766: the 32-bit identifier of a counter. -/
def ident (group instance_ index : Nat) : Nat := group * 16777216 + instance_ * 4096 + index

/-- `hall.porch.parsed`. -/
def hallPorchParsed : Nat := ident 1 0 0
/-- `hall.porch.reason.*, by the place of the name in Table 04-3`. -/
def hallPorchReason (k : Nat) : Nat := ident 1 0 (1 + k)
/-- `hall.porch.malformed`. -/
def hallPorchMalformed : Nat := ident 1 0 23
/-- `hall.porch.unclassified`. -/
def hallPorchUnclassified : Nat := ident 1 0 24
/-- `hall.porch.bank_swap`. -/
def hallPorchBankSwap : Nat := ident 1 0 25
/-- `hall.time.pps_valid`. -/
def hallPpsValid : Nat := ident 1 0 26
/-- `hall.time.pps_outlier`. -/
def hallPpsOutlier : Nat := ident 1 0 27
/-- `hall.time.tod_bad`. -/
def hallTodBad : Nat := ident 1 0 28
/-- `hall.time.state_change`. -/
def hallTimeStateChange : Nat := ident 1 0 29
/-- `hall.time.crosscheck_fail`. -/
def hallCrosscheckFail : Nat := ident 1 0 30
/-- `hall.time.events_late`. -/
def hallEventsLate : Nat := ident 1 0 31
/-- `hall.time.events_merged`. -/
def hallEventsMerged : Nat := ident 1 0 32
/-- `hall.export.samples_late`. -/
def hallSamplesLate : Nat := ident 1 0 33
/-- `hall.pcie.link_retrain`. -/
def hallLinkRetrain : Nat := ident 1 0 34
/-- `hall.hearth.leaves_issued`. -/
def hallLeavesIssued : Nat := ident 1 0 35
/-- `hall.hearth.scrub.release`. -/
def hallScrubRelease : Nat := ident 1 0 36
/-- `hall.hearth.scrub.zeroise`. -/
def hallScrubZeroise : Nat := ident 1 0 37
/-- `hall.hearth.scrub.dram_bytes`. -/
def hallScrubDramBytes : Nat := ident 1 0 38
/-- `Hall engine counters, R762`. -/
def hallEngines (k : Nat) : Nat := ident 1 0 (39 + k)
/-- `hall.trace.records`. -/
def hallTraceRecords : Nat := ident 1 0 221
/-- `hall.trace.lost`. -/
def hallTraceLost : Nat := ident 1 0 222
/-- `hall.trace.freezes`. -/
def hallTraceFreezes : Nat := ident 1 0 223
/-- `hall.obs.snapshots`. -/
def hallSnapshots : Nat := ident 1 0 224
/-- `hall.obs.snapshots_late`. -/
def hallSnapshotsLate : Nat := ident 1 0 225
/-- `hall.obs.hangs`. -/
def hallHangs : Nat := ident 1 0 226
/-- `hall.obs.dumps`. -/
def hallDumps : Nat := ident 1 0 227
/-- `hall.obs.dumps_lost`. -/
def hallDumpsLost : Nat := ident 1 0 228
/-- `hall.health.tiles_retired`. -/
def hallTilesRetired : Nat := ident 1 0 229
/-- `hall.health.quarters_withheld`. -/
def hallQuartersWithheld : Nat := ident 1 0 230
/-- `hall.health.throttle_steps`. -/
def hallThrottleSteps : Nat := ident 1 0 231
/-- `hall.health.mantel_writes`. -/
def hallMantelWrites : Nat := ident 1 0 232
/-- `hall.boot.boots`. -/
def hallBoots : Nat := ident 1 0 233
/-- `hall.update.applied`. -/
def hallUpdateApplied : Nat := ident 1 0 234
/-- `hall.update.failed`. -/
def hallUpdateFailed : Nat := ident 1 0 235
/-- `hall.update.reverted`. -/
def hallUpdateReverted : Nat := ident 1 0 236
/-- `hall.update.relay_offers`. -/
def hallRelayOffers : Nat := ident 1 0 237
/-- `hall.update.relay_declined`. -/
def hallRelayDeclined : Nat := ident 1 0 238
/-- `hall.mgmt.assoc_rejected`. -/
def hallAssocRejected : Nat := ident 1 0 239
/-- `hall.mgmt.records_discarded`. -/
def hallRecordsDiscarded : Nat := ident 1 0 240
/-- `hall.mgmt.frames_bridged`. -/
def hallFramesBridged : Nat := ident 1 0 241
/-- `hall.power.pmbus_alert`. -/
def hallPmbusAlert : Nat := ident 1 0 242
/-- How many counters an instance of the group holds. -/
def hallCount : Nat := 243

/-- `hall.porch.rule*.hits`. -/
def ruleHits (k : Nat) : Nat := ident 2 0 (0 + k)
/-- How many counters an instance of the group holds. -/
def ruleCount : Nat := 4096

/-- `hall.frag.bank*.first`. -/
def fragFirst (i : Nat) : Nat := ident 3 i 0
/-- `hall.frag.bank*.set_full`. -/
def fragSetFull (i : Nat) : Nat := ident 3 i 1
/-- `hall.frag.bank*.overwrite`. -/
def fragOverwrite (i : Nat) : Nat := ident 3 i 2
/-- `hall.frag.bank*.resolved_hit`. -/
def fragResolvedHit (i : Nat) : Nat := ident 3 i 3
/-- `hall.frag.bank*.waited`. -/
def fragWaited (i : Nat) : Nat := ident 3 i 4
/-- `hall.frag.bank*.wait_full`. -/
def fragWaitFull (i : Nat) : Nat := ident 3 i 5
/-- `hall.frag.bank*.unresolved`. -/
def fragUnresolved (i : Nat) : Nat := ident 3 i 6
/-- `hall.frag.bank*.bypass`. -/
def fragBypass (i : Nat) : Nat := ident 3 i 7
/-- How many counters an instance of the group holds. -/
def fragCount : Nat := 8

/-- `hall.dlf.lane*.frames_rx`. -/
def laneFramesRx (i : Nat) : Nat := ident 4 i 0
/-- `hall.dlf.lane*.slots_accepted`. -/
def laneSlotsAccepted (i : Nat) : Nat := ident 4 i 1
/-- `hall.dlf.lane*.discard.fcs`. -/
def laneDiscardFcs (i : Nat) : Nat := ident 4 i 2
/-- `hall.dlf.lane*.discard.format`. -/
def laneDiscardFormat (i : Nat) : Nat := ident 4 i 3
/-- `hall.dlf.lane*.discard.overrun`. -/
def laneDiscardOverrun (i : Nat) : Nat := ident 4 i 4
/-- `hall.dlf.lane*.discard.credit_format`. -/
def laneDiscardCreditFormat (i : Nat) : Nat := ident 4 i 5
/-- `hall.dlf.lane*.foreign`. -/
def laneForeign (i : Nat) : Nat := ident 4 i 6
/-- `hall.dlf.lane*.slot_reject`. -/
def laneSlotReject (i : Nat) : Nat := ident 4 i 7
/-- `hall.dlf.lane*.seq_gap`. -/
def laneSeqGap (i : Nat) : Nat := ident 4 i 8
/-- `hall.dlf.lane*.credit_hold_cycles`. -/
def laneCreditHoldCycles (i : Nat) : Nat := ident 4 i 9
/-- `hall.dlf.lane*.verdicts_tx`. -/
def laneVerdictsTx (i : Nat) : Nat := ident 4 i 10
/-- `hall.dlf.lane*.verdicts_dropped_link`. -/
def laneVerdictsDroppedLink (i : Nat) : Nat := ident 4 i 11
/-- `hall.dlf.lane*.fec.corrected`. -/
def laneFecCorrected (i : Nat) : Nat := ident 4 i 12
/-- `hall.dlf.lane*.fec.uncorrectable`. -/
def laneFecUncorrectable (i : Nat) : Nat := ident 4 i 13
/-- `hall.dlf.lane*.retune`. -/
def laneRetune (i : Nat) : Nat := ident 4 i 14
/-- `hall.dlf.lane*.link_down`. -/
def laneLinkDown (i : Nat) : Nat := ident 4 i 15
/-- How many counters an instance of the group holds. -/
def laneCount : Nat := 16

/-- `hall.export.port*.verdict_over_reserve_cycles`. -/
def portOverReserve (i : Nat) : Nat := ident 5 i 0
/-- `hall.export.port*.gate_blocked_cycles`. -/
def portGateBlocked (i : Nat) : Nat := ident 5 i 1
/-- `hall.export.port*.rx_ipv6`. -/
def portRxIpv6 (i : Nat) : Nat := ident 5 i 2
/-- `hall.export.port*.gate_takeover`. -/
def portGateTakeover (i : Nat) : Nat := ident 5 i 3
/-- How many counters an instance of the group holds. -/
def portCount : Nat := 4

/-- `hall.export.queue*.frames`. -/
def queueFrames (i : Nat) : Nat := ident 6 i 0
/-- `hall.export.queue*.bytes`. -/
def queueBytes (i : Nat) : Nat := ident 6 i 1
/-- `hall.export.queue*.items`. -/
def queueItems (i : Nat) : Nat := ident 6 i 2
/-- `hall.export.queue*.dropped_frames`. -/
def queueDroppedFrames (i : Nat) : Nat := ident 6 i 3
/-- `hall.export.queue*.dropped_items`. -/
def queueDroppedItems (i : Nat) : Nat := ident 6 i 4
/-- How many counters an instance of the group holds. -/
def queueCount : Nat := 5

/-- `hall.pcie.func*.commands`. -/
def funcCommands (i : Nat) : Nat := ident 7 i 0
/-- `hall.pcie.func*.ring_error`. -/
def funcRingError (i : Nat) : Nat := ident 7 i 1
/-- `hall.pcie.func*.doorbell_ignored`. -/
def funcDoorbellIgnored (i : Nat) : Nat := ident 7 i 2
/-- `hall.pcie.func*.msix_sent`. -/
def funcMsixSent (i : Nat) : Nat := ident 7 i 3
/-- `hall.pcie.func*.bounce.envelopes_in`. -/
def funcEnvelopesIn (i : Nat) : Nat := ident 7 i 4
/-- `hall.pcie.func*.bounce.auth_fail`. -/
def funcAuthFail (i : Nat) : Nat := ident 7 i 5
/-- `hall.pcie.func*.reset_discarded`. -/
def funcResetDiscarded (i : Nat) : Nat := ident 7 i 6
/-- `hall.pcie.func*.tdisp_error`. -/
def funcTdispError (i : Nat) : Nat := ident 7 i 7
/-- How many counters an instance of the group holds. -/
def funcCount : Nat := 8

/-- `partition*.verdict.late`. -/
def partVerdictLate (i : Nat) : Nat := ident 8 i 0
/-- `partition*.rate.offered`. -/
def partRateOffered (i : Nat) : Nat := ident 8 i 1
/-- `partition*.rate.committed`. -/
def partRateCommitted (i : Nat) : Nat := ident 8 i 2
/-- `partition*.learn.provisional`. -/
def partProvisional (i : Nat) : Nat := ident 8 i 3
/-- `partition*.learn.notices`. -/
def partLearnNotices (i : Nat) : Nat := ident 8 i 4
/-- `partition*.learn.multi_port`. -/
def partMultiPort (i : Nat) : Nat := ident 8 i 5
/-- `partition*.learn.notice_dropped`. -/
def partNoticeDropped (i : Nat) : Nat := ident 8 i 6
/-- `partition*.learn.inserted`. -/
def partInserted (i : Nat) : Nat := ident 8 i 7
/-- `partition*.learn.duplicate`. -/
def partDuplicate (i : Nat) : Nat := ident 8 i 8
/-- `partition*.learn.insert_fail`. -/
def partInsertFail (i : Nat) : Nat := ident 8 i 9
/-- `partition*.table.aged_out`. -/
def partAgedOut (i : Nat) : Nat := ident 8 i 10
/-- `partition*.scale.settle_wait`. -/
def partSettleWait (i : Nat) : Nat := ident 8 i 11
/-- `partition*.verdict.slot*.band*`. -/
def partBand (i : Nat) (k : Nat) : Nat := ident 8 i (12 + k)
/-- `partition*.verdict.no_class`. -/
def partNoClass (i : Nat) : Nat := ident 8 i 32
/-- `partition*.rollout.started`. -/
def partRolloutStarted (i : Nat) : Nat := ident 8 i 33
/-- `partition*.rollout.dropped`. -/
def partRolloutDropped (i : Nat) : Nat := ident 8 i 34
/-- `partition*.rollout.discarded_epoch`. -/
def partRolloutDiscarded (i : Nat) : Nat := ident 8 i 35
/-- `partition*.rollout.completed`. -/
def partRolloutCompleted (i : Nat) : Nat := ident 8 i 36
/-- `partition*.image.loads`. -/
def partImageLoads (i : Nat) : Nat := ident 8 i 37
/-- `partition*.image.load_fail`. -/
def partImageLoadFail (i : Nat) : Nat := ident 8 i 38
/-- `partition*.epoch.switches`. -/
def partEpochSwitches (i : Nat) : Nat := ident 8 i 39
/-- `partition*.epoch.staged`. -/
def partEpochStaged (i : Nat) : Nat := ident 8 i 40
/-- `partition*.epoch.swap_verdicts`. -/
def partSwapVerdicts (i : Nat) : Nat := ident 8 i 41
/-- `partition*.epoch.gap_overrun`. -/
def partGapOverrun (i : Nat) : Nat := ident 8 i 42
/-- `partition*.epoch.cancelled`. -/
def partEpochCancelled (i : Nat) : Nat := ident 8 i 43
/-- `partition*.export.flow_records`. -/
def partFlowRecords (i : Nat) : Nat := ident 8 i 44
/-- `partition*.export.mirrors`. -/
def partMirrors (i : Nat) : Nat := ident 8 i 45
/-- `partition*.key.loads`. -/
def partKeyLoads (i : Nat) : Nat := ident 8 i 46
/-- `partition*.key.rejected`. -/
def partKeyRejected (i : Nat) : Nat := ident 8 i 47
/-- `partition*.image.page_reject`. -/
def partPageReject (i : Nat) : Nat := ident 8 i 48
/-- `partition*.hall.feature tokens`. -/
def partTokens (i : Nat) : Nat := ident 8 i 49
/-- `partition*.hall.feature transit_clamped`. -/
def partTransitClamped (i : Nat) : Nat := ident 8 i 50
/-- `partition*.fault.abandoned`. -/
def partAbandoned (i : Nat) : Nat := ident 8 i 51
/-- How many counters an instance of the group holds. -/
def partCount : Nat := 52

/-- `partition*.rq*.arrived`. -/
def rqArrived (i : Nat) : Nat := ident 9 i 0
/-- `partition*.rq*.delivered`. -/
def rqDelivered (i : Nat) : Nat := ident 9 i 1
/-- `partition*.rq*.records_waiting`. -/
def rqWaiting (i : Nat) : Nat := ident 9 i 2
/-- `partition*.rq*.lost.prio*`. -/
def rqLostPrio (i : Nat) (k : Nat) : Nat := ident 9 i (3 + k)
/-- `partition*.rq*.lost_staging`. -/
def rqLostStaging (i : Nat) : Nat := ident 9 i 11
/-- `partition*.rq*.ecc.corrected`. -/
def rqEccCorrected (i : Nat) : Nat := ident 9 i 12
/-- `partition*.rq*.ecc.uncorrectable`. -/
def rqEccUncorrectable (i : Nat) : Nat := ident 9 i 13
/-- `partition*.rq*.poisoned`. -/
def rqPoisoned (i : Nat) : Nat := ident 9 i 14
/-- `partition*.rq*.interrupts`. -/
def rqInterrupts (i : Nat) : Nat := ident 9 i 15
/-- How many counters an instance of the group holds. -/
def rqCount : Nat := 16

/-- `wing*.feature.partition*.stamp_regress`. -/
def pwStampRegress (i : Nat) : Nat := ident 10 i 0
/-- `wing*.table.partition*.lookup`. -/
def pwLookup (i : Nat) : Nat := ident 10 i 1
/-- `wing*.table.partition*.hit`. -/
def pwHit (i : Nat) : Nat := ident 10 i 2
/-- `wing*.table.partition*.miss`. -/
def pwMiss (i : Nat) : Nat := ident 10 i 3
/-- `wing*.table.partition*.miss_pending`. -/
def pwMissPending (i : Nat) : Nat := ident 10 i 4
/-- `wing*.stairwell.partition*.admitted`. -/
def pwAdmitted (i : Nat) : Nat := ident 10 i 5
/-- `wing*.stairwell.partition*.committed`. -/
def pwCommitted (i : Nat) : Nat := ident 10 i 6
/-- `wing*.stairwell.partition*.quota_full_cycles`. -/
def pwQuotaFullCycles (i : Nat) : Nat := ident 10 i 7
/-- `wing*.stairwell.partition*.forwarded`. -/
def pwForwarded (i : Nat) : Nat := ident 10 i 8
/-- `wing*.stairwell.partition*.squash.no_flow`. -/
def pwSquashNoFlow (i : Nat) : Nat := ident 10 i 9
/-- `wing*.stairwell.partition*.squash.entry_changed`. -/
def pwSquashEntryChanged (i : Nat) : Nat := ident 10 i 10
/-- `wing*.stairwell.partition*.squash.tag_mismatch`. -/
def pwSquashTagMismatch (i : Nat) : Nat := ident 10 i 11
/-- `wing*.stairwell.partition*.squash.batch_fault`. -/
def pwSquashBatchFault (i : Nat) : Nat := ident 10 i 12
/-- `wing*.stairwell.partition*.squash.cascade`. -/
def pwSquashCascade (i : Nat) : Nat := ident 10 i 13
/-- `wing*.cache.partition*.hit`. -/
def pwCacheHit (i : Nat) : Nat := ident 10 i 14
/-- `wing*.cache.partition*.miss`. -/
def pwCacheMiss (i : Nat) : Nat := ident 10 i 15
/-- `wing*.larder.partition*.init`. -/
def pwLarderInit (i : Nat) : Nat := ident 10 i 16
/-- `wing*.larder.partition*.clear_blocks`. -/
def pwClearBlocks (i : Nat) : Nat := ident 10 i 17
/-- `wing*.larder.partition*.walk_blocks`. -/
def pwWalkBlocks (i : Nat) : Nat := ident 10 i 18
/-- How many counters an instance of the group holds. -/
def pwCount : Nat := 19

/-- `wing*.learn.coalescer_full`. -/
def wingCoalescerFull (i : Nat) : Nat := ident 11 i 0
/-- `wing*.table.sweep_skip_locked`. -/
def wingSweepSkipLocked (i : Nat) : Nat := ident 11 i 1
/-- `wing*.table.sweep_overrun`. -/
def wingSweepOverrun (i : Nat) : Nat := ident 11 i 2
/-- `wing*.table.hitlog_overflow`. -/
def wingHitlogOverflow (i : Nat) : Nat := ident 11 i 3
/-- `wing*.table.lock_broken`. -/
def wingLockBroken (i : Nat) : Nat := ident 11 i 4
/-- `wing*.table.compare_mismatch`. -/
def wingCompareMismatch (i : Nat) : Nat := ident 11 i 5
/-- `wing*.cache.uncorrectable`. -/
def wingCacheUncorrectable (i : Nat) : Nat := ident 11 i 6
/-- `wing*.larder.state_lost`. -/
def wingStateLost (i : Nat) : Nat := ident 11 i 7
/-- `wing*.time.events_late`. -/
def wingEventsLate (i : Nat) : Nat := ident 11 i 8
/-- `wing*.time.events_merged`. -/
def wingEventsMerged (i : Nat) : Nat := ident 11 i 9
/-- `Cellar engine counters, R762`. -/
def wingEngines (i : Nat) (k : Nat) : Nat := ident 11 i (10 + k)
/-- `wing*.cellar.trace.records`. -/
def wingTraceRecords (i : Nat) : Nat := ident 11 i 107
/-- `wing*.cellar.trace.lost`. -/
def wingTraceLost (i : Nat) : Nat := ident 11 i 108
/-- `wing*.cellar.trace.freezes`. -/
def wingTraceFreezes (i : Nat) : Nat := ident 11 i 109
/-- `wing*.dram.corrected`. -/
def wingDramCorrected (i : Nat) : Nat := ident 11 i 110
/-- `wing*.dram.uncorrectable`. -/
def wingDramUncorrectable (i : Nat) : Nat := ident 11 i 111
/-- `wing*.dram.rows_retired`. -/
def wingRowsRetired (i : Nat) : Nat := ident 11 i 112
/-- `wing*.landing.lanes_spared`. -/
def wingLanesSpared (i : Nat) : Nat := ident 11 i 113
/-- `wing*.recovery`. -/
def wingRecovery (i : Nat) : Nat := ident 11 i 114
/-- How many counters an instance of the group holds. -/
def wingCount : Nat := 115

/-- `tile engine counters, R762`. -/
def tileEngines (i : Nat) (k : Nat) : Nat := ident 12 i (0 + k)
/-- `Table 09-7 for array 0, then array 1`. -/
def tileArray (i : Nat) (k : Nat) : Nat := ident 12 i (117 + k)
/-- `wing*.gallery*.tile*.post.nan`. -/
def tileNan (i : Nat) : Nat := ident 12 i 143
/-- `wing*.gallery*.tile*.post.nan_encoded`. -/
def tileNanEncoded (i : Nat) : Nat := ident 12 i 144
/-- `wing*.gallery*.tile*.post.overflow`. -/
def tileOverflow (i : Nat) : Nat := ident 12 i 145
/-- `wing*.gallery*.tile*.fault.codebook`. -/
def tileFaultCodebook (i : Nat) : Nat := ident 12 i 146
/-- `wing*.gallery*.tile*.fault.table`. -/
def tileFaultTable (i : Nat) : Nat := ident 12 i 147
/-- `wing*.gallery*.tile*.post.encoded`. -/
def tileEncoded (i : Nat) : Nat := ident 12 i 148
/-- `wing*.gallery*.tile*.post.clipped`. -/
def tileClipped (i : Nat) : Nat := ident 12 i 149
/-- `wing*.gallery*.tile*.post.rerun`. -/
def tileRerun (i : Nat) : Nat := ident 12 i 150
/-- `wing*.gallery*.tile*.post.rerun_rows`. -/
def tileRerunRows (i : Nat) : Nat := ident 12 i 151
/-- `wing*.gallery*.tile*.post.rerun_unavailable`. -/
def tileRerunUnavailable (i : Nat) : Nat := ident 12 i 152
/-- `wing*.gallery*.tile*.fault.tag_mismatch`. -/
def tileFaultTag (i : Nat) : Nat := ident 12 i 153
/-- `wing*.gallery*.tile*.fault.encode`. -/
def tileFaultEncode (i : Nat) : Nat := ident 12 i 154
/-- `wing*.gallery*.tile*.post.tree_visits`. -/
def tileTreeVisits (i : Nat) : Nat := ident 12 i 155
/-- `wing*.gallery*.tile*.fault.tree`. -/
def tileFaultTree (i : Nat) : Nat := ident 12 i 156
/-- `wing*.gallery*.tile*.fault.verdict`. -/
def tileFaultVerdict (i : Nat) : Nat := ident 12 i 157
/-- `wing*.gallery*.tile*.ecc.corrected`. -/
def tileEccCorrected (i : Nat) : Nat := ident 12 i 158
/-- `wing*.gallery*.tile*.context_clear`. -/
def tileContextClear (i : Nat) : Nat := ident 12 i 159
/-- `wing*.gallery*.tile*.attr.unattributed`. -/
def tileUnattributed (i : Nat) : Nat := ident 12 i 160
/-- `wing*.gallery*.tile*.trace.records`. -/
def tileTraceRecords (i : Nat) : Nat := ident 12 i 161
/-- `wing*.gallery*.tile*.trace.lost`. -/
def tileTraceLost (i : Nat) : Nat := ident 12 i 162
/-- `wing*.gallery*.tile*.trace.freezes`. -/
def tileTraceFreezes (i : Nat) : Nat := ident 12 i 163
/-- How many counters an instance of the group holds. -/
def tileCount : Nat := 164

/-- `pair.banister.lane*.frames_rx`. -/
def pairFramesRx (k : Nat) : Nat := ident 13 0 (0 + k)
/-- `pair.banister.lane*.auth_fail`. -/
def pairAuthFail (k : Nat) : Nat := ident 13 0 (8 + k)
/-- `pair.banister.resent`. -/
def pairResent : Nat := ident 13 0 16
/-- `pair.inserts`. -/
def pairInserts : Nat := ident 13 0 17
/-- `pair.changes`. -/
def pairChanges : Nat := ident 13 0 18
/-- `pair.change_log_full_cycles`. -/
def pairLogFullCycles : Nat := ident 13 0 19
/-- `pair.lookup_wait_cycles`. -/
def pairLookupWaitCycles : Nat := ident 13 0 20
/-- `pair.notice_discarded`. -/
def pairNoticeDiscarded : Nat := ident 13 0 21
/-- `pair.stamp_clamped`. -/
def pairStampClamped : Nat := ident 13 0 22
/-- `pair.divergence`. -/
def pairDivergence : Nat := ident 13 0 23
/-- `pair.resync.bytes`. -/
def pairResyncBytes : Nat := ident 13 0 24
/-- `pair.resync.block_requests`. -/
def pairBlockRequests : Nat := ident 13 0 25
/-- `pair.partner_lost`. -/
def pairPartnerLost : Nat := ident 13 0 26
/-- How many counters an instance of the group holds. -/
def pairCount : Nat := 27

/-- The place of `array*.cellsBusy` among the array counters of Table 09-7. -/
def arr_cellsBusy : Nat := 0
/-- The place of `array*.cellsIdle` among the array counters of Table 09-7. -/
def arr_cellsIdle : Nat := 1
/-- The place of `array*.stallFeedA` among the array counters of Table 09-7. -/
def arr_stallFeedA : Nat := 2
/-- The place of `array*.stallFeedB` among the array counters of Table 09-7. -/
def arr_stallFeedB : Nat := 3
/-- The place of `array*.stallTagHold` among the array counters of Table 09-7. -/
def arr_stallTagHold : Nat := 4
/-- The place of `array*.stallDrain` among the array counters of Table 09-7. -/
def arr_stallDrain : Nat := 5
/-- The place of `array*.stallPreload` among the array counters of Table 09-7. -/
def arr_stallPreload : Nat := 6
/-- The place of `array*.holdTurn` among the array counters of Table 09-7. -/
def arr_holdTurn : Nat := 7
/-- The place of `array*.holdFormChange` among the array counters of Table 09-7. -/
def arr_holdFormChange : Nat := 8
/-- The place of `array*.holdPowerRamp` among the array counters of Table 09-7. -/
def arr_holdPowerRamp : Nat := 9
/-- The place of `array*.passes` among the array counters of Table 09-7. -/
def arr_passes : Nat := 10
/-- The place of `array*.formChanges` among the array counters of Table 09-7. -/
def arr_formChanges : Nat := 11
/-- The place of `array*.ramps` among the array counters of Table 09-7. -/
def arr_ramps : Nat := 12

end Sys2Proof.Machine.Ctr
end

