-- ==== Sys2Proof/Machine/State.lean ====
section
/-!
DEFINITION. Machine/State.lean: everything the manual gives the device, as plain data, one structure for each block, and
the state right after reset. Tables list the resources that have left their reset contents; a reader names what an
unlisted number holds.
-/
namespace Sys2Proof.Machine

/-! ### Host interface and commands (chapters 16, 17) -/

/-- A command that a ring (or a management session) holds from its fetch to its completion (R619, R646, R647). -/
structure Cmd where
  hdr : CmdHdr
  /-- Issuing function: 0 PF, 1 to 8 VF; 9 for a management session. -/
  fn : Nat
  fetchNt : Nat
  /-- Number of the fetch, which orders commands of one function for R646. -/
  order : Nat
  started : Bool
  /-- R611, R643: the parameters, where the submission entry or the management record holds them. -/
  params : Option Bytes := none
  /-- R858: the data behind the parameters of a management record. -/
  inline : Bytes := []
  /-- R648: where the reply goes, once the parameters at param_addr have been read. -/
  replyAt : Option Nat := none
  deriving DecidableEq, Repr

/-- Table 16-5 and R612 to R624: one ring. -/
structure Ring where
  fn : Nat
  localIx : Nat
  kind : RingKind
  log2 : Nat
  sqBase : Nat
  cqBase : Nat
  vector : Nat
  coalCount : Nat
  coalTime : Nat
  drainSource : Nat
  sqHead : Nat := 0
  sqTail : Nat := 0
  cqHead : Nat := 0
  cqTail : Nat := 0
  phase : Bool := true
  error : Bool := false
  /-- R618: the doorbells as they stood at the start of the Hall cycle of NT `bellNt`, in which they were last written. -/
  bellNt : Option Nat := none
  sqTailWas : Nat := 0
  cqHeadWas : Nat := 0
  /-- R633: entries whose COMMAND envelope failed and which the doorbell has not handed over yet. -/
  skip : Nat := 0
  pendCount : Nat := 0
  firstPendNt : Nat := 0
  running : Option Cmd := none
  deriving DecidableEq, Repr

/-- R717, R718: TDISP state of a VF. -/
inductive Tdisp where
  | unlocked | locked | run | error
  deriving DecidableEq, Repr

/-- R605, R777: a finished snapshot on its way into a window: the ring whose SNAPSHOT waits for it, its instant, its
bytes. -/
structure Shot where
  ring : Option Nat
  instant : Nat
  data : Bytes
  deriving DecidableEq, Repr

/-- Table 16-4, R626 to R641, R701, R715: the host-facing state of one function. -/
structure Func where
  adminSqBase : Nat := 0
  adminCqBase : Nat := 0
  adminLog2 : Nat := 6
  adminEnable : Bool := false
  adminReady : Bool := false
  bounce : Bool := false
  session : Bool := false
  hostWord : Nat := 0
  enabled : Nat := 0
  snapSeq : Nat := 0
  snapNt : Nat := 0
  /-- The snapshot in the window (R604), laid out as Table 21-5. -/
  window : Bytes := []
  /-- Finished snapshots in the hidden buffer, oldest first (R605). -/
  hidden : List Shot := []
  spdm : Bool := false
  /-- The SPDM session that KEY_EXCHANGE opened last, by the draw that made its secrets (R699). -/
  spdmId : Nat := 0
  /-- R697, R699: the session's application secrets in the request and the response direction, from its key schedule. -/
  spdmReq : Option Bytes := none
  spdmRsp : Option Bytes := none
  /-- The session whose secrets the bounce keys were last derived from: counters and sequences run on under its keys (R630, R631). -/
  bounceId : Option Nat := none
  /-- R627: the keys that the driver and the device seal with, while bounce-buffer mode is active. -/
  reqKey : Option Bytes := none
  rspKey : Option Bytes := none
  tdisp : Tdisp := .unlocked
  /-- R697, R715, R716: the key of the function's selective IDE stream, while the stream is in Secure state. -/
  ideKey : Option Bytes := none
  /-- Last accepted COMMAND sequence per local ring in bounce-buffer mode (R631). -/
  cmdSeq : Tab Nat := []
  /-- Sequence of the COMMAND envelope that was fetched last on each local ring, which its running command came in (R631, R632). -/
  ownSeq : Tab Nat := []
  /-- Last DRAIN sequence per local ring (R631). -/
  drainSeq : Tab Nat := []
  /-- Device nonce counter under the response key (R630). -/
  nonceCtr : Nat := 0
  /-- What the DATA_IN envelopes of the running command of each local ring have brought: its parameters, where they stand at
  param_addr, and then its buffer (R632). -/
  dataIn : Tab Bytes := []
  /-- R634: the ring slots in VF BAR2. -/
  bar2 : Mem := []
  deriving DecidableEq, Repr

/-- R625: one entry of the MSI-X table: mask and pending bit, message address and data. -/
structure Vec where
  masked : Bool
  pending : Bool
  addr : Nat := 0
  data : Nat := 0
  deriving DecidableEq, Repr

/-- Chapter 16: the endpoint and its rings. -/
structure HostIf where
  linkUp : Bool := false
  width : Nat := 0
  /-- Trained rate in tenths of GT/s. -/
  rate : Nat := 0
  perstN : Bool := false
  perstReleaseNt : Nat := 0
  funcs : Tab Func := []
  rings : Tab Ring := []
  /-- Vector v of function f is entry 1024 f + v. -/
  vecs : Tab Vec := []
  /-- Ring after which the round robin of R619 looks next. -/
  rrLast : Nat := 4095
  orderCtr : Nat := 0
  /-- R653: the steps of commands in the Hall cycle of NT `stepsNt`: the rank of their rings and the partition that they name. -/
  steps : List (Nat × Nat) := []
  stepsNt : Nat := 0
  /-- R715: the key of the link IDE stream, while it is in Secure state. -/
  linkIde : Option Bytes := none
  deriving DecidableEq, Repr

/-- R650, R612: what a command answers. -/
structure Status where
  status : Nat
  detail : Nat := 0
  info : Nat := 0
  reply : Bytes := []
  deriving DecidableEq, Repr

/-! ### Network time (chapter 14) -/

/-- Table 14-2: time-base states. -/
inductive TbState where
  | unset | acquire | locked | holdover
  deriving DecidableEq, Repr

/-- R543 to R549: one pending occurrence of a block's event queue. -/
structure Occ where
  instant : Nat
  /-- Table 14-5. -/
  kind : Nat
  /-- What the occurrence acts on (port, partition, snapshot number), by kind. -/
  key : Nat
  periodic : Bool
  deriving DecidableEq, Repr

/-- Chapter 14: the time base, its inputs and the event queues. -/
structure TimeBase where
  /-- R521: NT, 0 to 2^64 − 1. -/
  nt : Nat := 0
  /-- Fraction bits of the count, in 2^-32 units. -/
  frac : Nat := 0
  /-- Rate word in 2^-32 units per Hall cycle, nominally 16 × 2^32. -/
  rate : Nat := 68719476736
  state : TbState := .unset
  originInForce : Nat := 0
  originPending : Option Nat := none
  /-- R525: the count stands at 2^64 − 1. -/
  stopped : Bool := false
  /-- Settings in force (Table 14-3). -/
  ppsInDelay : Int := 0
  ppsOutDelay : Int := 0
  todBaud : Nat := 115200
  lockThreshold : Nat := 320
  outlierLimit : Nat := 160000
  maxSlew : Nat := 100
  crosscheckBound : Nat := 800000
  /-- Settings written and waiting for the next valid edge (R552): identifier and value. -/
  pendingSettings : Tab Int := []
  /-- Well-formed messages since the last edge, newest first, each with the NT at which its last stop bit ended (R527, R528). -/
  todWaiting : List (Tod × Nat) := []
  /-- Fields of the last accepted message (R528). -/
  todLast : Option Tod := none
  /-- Seconds value and stamp of the previous valid edge. -/
  lastEdge : Option (Nat × Nat) := none
  /-- Consecutive valid edges within lock_threshold in ACQUIRE. -/
  goodRun : Nat := 0
  /-- Phase errors of consecutive outliers in LOCKED (R534). -/
  outliers : List Int := []
  phaseError : Int := 0
  /-- Offset still to be slewed out (R532, R534). -/
  slewLeft : Int := 0
  everLocked : Bool := false
  /-- Stretches of LOCKED, newest first: NT units between two edges and the rate word in force (Table 14-2, HOLDOVER). -/
  rateHist : List (Nat × Nat) := []
  ppsOut : Bool := false
  /-- Event queue of each block that runs scheduled events (R543), in order of start (R544). -/
  events : Tab (List Occ) := []
  /-- R548: a Wing's clock is stopped. -/
  wingStopped : List Nat := []
  deriving DecidableEq, Repr

/-! ### Observation (chapter 21) -/

/-- Table 21-8: a trace record. -/
structure TraceRec where
  kind : Nat
  engine : Nat := 0
  context : Nat := 0
  late : Bool := false
  reason : Nat := 0
  layer : Nat := 0
  op : Nat := 0
  nt : Nat
  arg0 : Nat
  arg1 : Nat := 0
  deriving DecidableEq, Repr

/-- R780 to R786: one trace buffer. -/
structure TraceBuf where
  enable : Bool := false
  triggerMask : Nat := 0
  postRecords : Nat := 0
  stallThreshold : Nat := 0
  frozen : Bool := false
  /-- R780: the NT of the cycle in which the buffer last wrote a record. -/
  wroteNt : Option Nat := none
  /-- Records still to be written after a trigger, none before one fires. -/
  postLeft : Option Nat := none
  fifo : List TraceRec := []
  /-- Records lost since the last one written, with the NT of the first (R782). -/
  lostRun : Nat := 0
  lostNt : Nat := 0
  /-- The buffer's records, oldest first. -/
  recs : List TraceRec := []
  deriving DecidableEq, Repr

/-- R771 to R777: a snapshot or dump that blocks are still copying. -/
structure Snap where
  number : Nat
  /-- Ring whose SNAPSHOT command asked for it; none for a periodic snapshot (R775). -/
  ring : Option Nat
  fn : Nat
  toHost : Bool
  hostAddr : Nat
  instant : Nat
  /-- R776: group instances of a SNAPSHOT command's snapshot, as configured at the command's start. -/
  groups : List (Nat × Nat) := []
  /-- Blocks that have not copied yet. -/
  left : List Nat
  /-- Counters copied so far. -/
  copied : Tab Nat
  lastCopy : Nat
  late : Bool
  deriving DecidableEq, Repr

/-- R769, Table 21-4: one attribution entry of a tile. -/
structure AttrRec where
  context : Nat
  layer : Nat
  op : Nat
  words : Nat := 0
  engineBusy : Nat := 0
  engineStalled : Nat := 0
  cellBusy : Nat := 0
  cellStalled : Nat := 0
  cellPadded : Nat := 0
  deriving DecidableEq, Repr

/-- R793, R794: the wait-for graph of a dump; edges and cycles hold node indices. -/
structure WaitGraph where
  nt : Nat
  nodes : List (Nat × WaitingOn)
  edges : List (Nat × Nat)
  cycles : List (List Nat)
  deriving DecidableEq, Repr

/-- R797: a section of a dump: kind, bytes of a record, records. -/
structure DumpSection where
  kind : Nat
  recordBytes : Nat
  records : List Bytes
  deriving DecidableEq, Repr

/-- R795 to R798: a dump. -/
structure Dump where
  scope : Nat
  automatic : Bool
  late : Bool
  nt : Nat
  sections : List DumpSection
  deriving DecidableEq, Repr

/-- Chapter 21: trace buffers, snapshots, attribution, dumps. -/
structure Observe where
  /-- Buffer 0 is the Hall's, 1 + w the Cellar's of Wing w, 16 + i the one of tile instance i. -/
  bufs : Tab TraceBuf := []
  snaps : List Snap := []
  /-- Snapshots begun since reset; numbers those in `snaps` (the model's own). -/
  snapNumber : Nat := 0
  /-- R777: snapshots taken since reset. -/
  snapTaken : Nat := 0
  attr : Tab (List AttrRec) := []
  /-- R392, R420, R452: counters of tiles and arrays by what each is attributed to, under `wordKey`. -/
  wordCounts : Tab Nat := []
  /-- R789, R790: engines and entries with a non-zero waiting_on, by node identifier, as they were last sampled. -/
  waiting : Tab WaitingOn := []
  lastHangNt : Option Nat := none
  graph : Option WaitGraph := none
  dump : Option Dump := none
  dumpCopied : Bool := false
  deriving DecidableEq, Repr

/-! ### Health (chapter 22) -/

/-- R800 to R803: a section of a die's Mantel: its records, each as the numbers it is made of, its two flash copies with their
sequence numbers, and the writes that have failed in a row. -/
structure MantelSec where
  data : List (List Nat) := []
  copyA : Option (Nat × List (List Nat)) := none
  copyB : Option (Nat × List (List Nat)) := none
  fails : Nat := 0
  deriving DecidableEq, Repr

/-- R810: corrected errors of one bank: the second of NT that is counted, its count, and the run of
seconds above 1,000 before it. -/
structure CorrCount where
  second : Nat := 0
  count : Nat := 0
  run : Nat := 0
  deriving DecidableEq, Repr

/-- R810: the error history of one tile. -/
structure TileHealth where
  /-- NT of recent uncorrectable errors, newest first. -/
  uncorr : List Nat := []
  /-- Corrected errors by bank. -/
  corr : Tab CorrCount := []
  due : Bool := false
  deriving DecidableEq, Repr

/-- Chapter 22: ledgers, maintenance and limits. -/
structure Health where
  /-- Section k of die d is entry 16 d + k; die 0 is the Hall, die 1 + w Wing w (Table 22-1). -/
  mantel : Tab MantelSec := []
  tiles : Tab TileHealth := []
  /-- Spares of Gallery 3 w + g that failed or lost their supply since the boot. -/
  sparesLost : Tab (List Nat) := []
  /-- Withheld quarters: 12 w + 4 g + q (Table 22-7). -/
  withheld : List Nat := []
  /-- Steps of 1/16 of nominal that throttling has taken from a Wing's clock (R819). -/
  throttle : Tab Nat := []
  /-- What droop stretching takes from a Wing's clock, in MHz (R19). -/
  stretch : Tab Nat := []
  /-- Last reading of the hottest sensor of a die, in 1/16 °C, and the highest since its last thermal cycle ended (R801). -/
  temps : Tab Int := []
  peaks : Tab Int := []
  /-- DRAM stacks 4 w + n that are refreshed at the doubled rate (R887). -/
  doubled : List Nat := []
  /-- Poisoned 64-byte words of DRAM (R817), by Wing, partition and address. -/
  poisoned : List Nat := []
  /-- Groups of 32 Landing lanes whose spare is in use (R816), entry 256 w + group. -/
  landingUsed : List Nat := []
  /-- R113: the least eye margin of a lane since section LANES was written: digest lanes 0 to 47, Banister lanes 48 to 55. -/
  dayMargins : Tab Nat := []
  deriving DecidableEq, Repr

/-! ### Report queues (chapter 18) -/

/-- R664, R665: a stored word: its data, head bit, end bit and check bits. -/
structure QWord where
  data : BitVec 64
  head : Bool
  tail : Bool
  check : BitVec 8
  deriving DecidableEq, Repr

/-- A stored record with its entry in the directory: its words, where the first stands, its length and priority; its read order
number and state (R665, R670, R675, R684). -/
structure QRec where
  words : List QWord
  start : Nat := 0
  length : Nat
  priority : Nat
  order : Nat := 0
  visible : Bool := false
  /-- A read has selected it and has not delivered it yet (R675, R677). -/
  selected : Bool := false
  deriving DecidableEq, Repr

/-- R679: a read that waits for a record. -/
structure QRead where
  ring : Nat
  startNt : Nat
  timeout : Nat
  replyLen : Nat
  deriving DecidableEq, Repr

/-- One report queue. -/
structure ReportQ where
  /-- Stored records in the order their pushes started. -/
  recs : List QRec := []
  /-- Staging buffer, oldest first (R668). -/
  staging : List QRec := []
  /-- Words of the newest record not written yet (R668). -/
  writing : Nat := 0
  /-- R669, R681: the NT of the last Hall cycle in which the queue acted, and the last act of that cycle: 1 a release, 2 a selection, 3 a
  push. -/
  acted : Option (Nat × Nat) := none
  seq : Nat := 0
  orderCtr : Nat := 0
  reads : List QRead := []
  pendCount : Nat := 0
  firstPendNt : Nat := 0
  deriving DecidableEq, Repr

/-! ### Partitions, images, keys (chapters 13, 19) -/

/-- R705, R708: one model-key slot and its key of 32 bytes. -/
structure KeySlot where
  gen : Nat
  key : Bytes
  deriving DecidableEq, Repr

/-- R701, R716: how the device answers on a VF's DOE mailbox. -/
inductive SpdmReply where
  | response | unsupportedRequest | error | tdispError
  deriving DecidableEq, Repr

/-- R723: phase of a running scrub. -/
inductive ScrubPhase where
  | drain | onDie | dram
  deriving DecidableEq, Repr

/-- R723: a running scrub. -/
structure Scrub where
  zeroise : Bool
  phase : ScrubPhase
  /-- Instant S. -/
  start : Nat
  /-- Ring whose PARTITION_RELEASE waits for the end. -/
  ring : Option Nat
  deriving DecidableEq, Repr

/-- R695 to R703, R721: the Hearth's key vault and its debug state. Private keys on P-384 stand as numbers (R697). -/
structure Security where
  /-- R696: measurement registers. -/
  regs : Vector (BitVec 384) 6
  regsLocked : Bool := false
  rootSeedReadable : Bool := true
  dik : Option Nat := none
  hearthCdi : Option Bytes := none
  fwCdi : Option Bytes := none
  linkKey : Option Nat := none
  /-- R700: the HMAC_DRBG, once the Hearth has seeded it. -/
  drbg : Drbg := { key := [], v := [] }
  /-- R702: leaves issued since boot. -/
  leafCount : Nat := 0
  /-- R721: an internal-scan instruction waits for the ZEROISE scrub. -/
  jtagHeld : Bool := false
  /-- R721: internal scan has taken effect; debug = 1 in every leaf. -/
  debug : Bool := false
  /-- Instruction loaded in the TAP. -/
  tapInstr : Nat := 0
  deriving DecidableEq, Repr

/-- R662: state of a partition or context. -/
inductive PartState where
  | unconfigured | active | scrubbing
  deriving DecidableEq, Repr

/-- Table 13-6: image slot states. -/
inductive SlotState where
  | empty | loading | ready | armed | running | retiring
  deriving DecidableEq, Repr

/-- R713: the key slots that were in force until an instant. -/
structure KeyChange where
  nt : Nat
  cur : Option KeySlot
  prev : Option KeySlot
  deriving DecidableEq, Repr

/-- R494, R499, R504: one image slot of a partition. -/
structure ImageSlot where
  state : SlotState := .empty
  image : Option Image := none
  /-- R499: resident, and in the high area rather than the low one or the whole tile memory. -/
  resident : Bool := false
  high : Bool := false
  epoch : Nat := 0
  switchNt : Nat := 0
  /-- The swap that armed it is a staged swap, and its gap G (R505, R508). -/
  staged : Bool := false
  gap : Nat := 0
  /-- R514: `swap` verdicts of the gap. -/
  swapVerdicts : Nat := 0
  /-- Ring whose IMAGE_LOAD runs, its start instant and the load's progress (R495, R709). -/
  loadRing : Option Nat := none
  loadStart : Nat := 0
  /-- The command's image_bytes (Table 17-14). -/
  loadBytes : Nat := 0
  /-- R710: the start of the image, up to 128 bytes, as the running load has read it. -/
  loadHead : Bytes := []
  /-- R713: changes of the key slots since the running load started, oldest first. -/
  keyLog : List KeyChange := []
  deriving DecidableEq, Repr

/-- R502, R512: an epoch that packets can still run under. -/
structure Epoch where
  number : Nat
  switchNt : Nat
  slot : Nat
  staged : Bool
  gap : Nat
  deriving DecidableEq, Repr

/-- R510, R511: the fill of a staged swap. -/
structure Fill where
  slot : Nat
  epoch : Nat
  /-- Waves still to run; the fill has not begun while `started` is false. -/
  wavesLeft : Nat
  started : Bool
  waveStart : Nat := 0
  deriving DecidableEq, Repr

/-- R514: a RETIRED record that waits for the last `swap` verdict of the gap: the retired epoch and its slot, the swap that
ended it (its slot, T and gap end), and the NT at which the retirement completed. -/
structure Retired where
  epoch : Nat
  slot : Nat
  by_ : Nat
  switchNt : Nat
  gapEnd : Nat
  nt : Nat
  deriving DecidableEq, Repr

/-- R477 to R482: a queued rollout. -/
structure RolloutStart where
  wing : Nat
  fromCommand : Bool
  tag : Nat
  modelSlot : Nat
  epoch : Nat
  handle : Nat
  entryGen : Nat
  block : Bytes
  startNt : Nat
  batch : Option Nat := none
  deriving DecidableEq, Repr

/-- A partition (IKF-4880) or context (IKF-4840): configuration (Table 17-11), images, keys and scrub. -/
structure Partition where
  state : PartState := .unconfigured
  quarters0 : Nat := 0
  quarters1 : Nat := 0
  blockUnits : Nat := 0
  shareLog2 : Nat := 0
  ringQuota : Nat := 256
  shareBase0 : Nat := 0
  shareBase1 : Nat := 0
  overflowQuota0 : Nat := 0
  overflowQuota1 : Nat := 0
  coalQuota0 : Nat := 0
  coalQuota1 : Nat := 0
  regionBase0 : Nat := 0
  regionBase1 : Nat := 0
  regionGib : Nat := 0
  bindFn : Nat := 0
  stairQuota : Nat := 0
  larderOff : Nat := 0
  shadowOff : Nat := 0
  windowsOff : Nat := 0
  windowsUnits : Nat := 0
  imageOff : Nat := 0
  imageUnits : Nat := 0
  /-- R690: quarters (bit 4g + q) in which the context holds the high area of the tiles. -/
  highMask : Nat := 0
  activeFrom : Nat := 0
  slot0 : ImageSlot := {}
  slot1 : ImageSlot := {}
  /-- Epochs taken since configuration, newest first (R502). -/
  epochs : List Epoch := []
  resetEpoch : Nat := 0
  firstSwitch : Option Nat := none
  fill : Option Fill := none
  owed : Option Retired := none
  /-- Background clear (R298) and epoch walk (R303) per Wing: next block to visit. -/
  clear0 : Option Nat := none
  clear1 : Option Nat := none
  walk0 : Option Nat := none
  walk1 : Option Nat := none
  walkTo : Nat := 0
  keyCur : Option KeySlot := none
  keyPrev : Option KeySlot := none
  /-- Loads that started before the last KEY_LOAD and still run, by image slot (R709). -/
  prevHolders : List Nat := []
  /-- R700: the configure nonce of 16 bytes. -/
  nonce : Option Bytes := none
  pak : Option Nat := none
  pwk : Option Nat := none
  sealed : Bool := false
  /-- R701: contexts bound to one VF, in the order of their configuration. -/
  bindOrder : Nat := 0
  /-- R703: the partition's latest leaf. -/
  leaf : Option Leaf := none
  scrub : Option Scrub := none
  rollouts : List RolloutStart := []
  deriving DecidableEq, Repr

/-! ### Digest links, the Porch and the verdict assembler (chapters 02 to 05) -/

/-- R85, R88: an accepted slot. -/
structure Slot where
  stamp : Nat
  lane : Nat
  pos : Nat
  cost : Nat
  /-- How often the lane had come up when the frame arrived (R118). -/
  session : Nat
  /-- The stamp that the verdict path uses: the Hall arrival stamp, or the pair stamp in an active pair (R740). -/
  at_ : Nat
  /-- R654, R748: the instant that tells which writes of settings hold for it: the NT at which its classification began, or its pair
  stamp in an active pair. -/
  seen : Nat := 0
  /-- The 128 or 256 bytes of Table 03-5. -/
  data : Bytes
  deriving DecidableEq, Repr

/-- Table 03-6: a verdict record. -/
structure VerdictRec where
  tag : Nat
  action : Nat
  partition : Nat
  flags : Nat
  param : Nat
  cls : Nat
  score : Nat
  deriving DecidableEq, Repr

/-- One digest lane (chapter 03). -/
structure Lane where
  up : Bool := false
  session : Nat := 0
  buf : List Slot := []
  /-- Last credit_limit sent on the current link, none before the first. -/
  limitSent : Option Nat := none
  /-- R110: the credit limit at the start of the Hall cycle of an NT in which it has changed. -/
  limitWas : Option (Nat × Nat) := none
  /-- The credit limit that the current link started with (R121, R123). -/
  limitStart : Nat := 512
  lastConsumed : Nat := 0
  txSeq : Nat := 0
  rxSeq : Option Nat := none
  rxDiscard : Nat := 0
  /-- NT at the end of the last DLF frame sent, or at link up (R105). -/
  lastTx : Nat := 0
  /-- R109: a CONTROL frame falls due as soon as the egress is free. -/
  controlDue : Bool := false
  /-- Verdict records that are pending, in emission order. -/
  verdicts : List VerdictRec := []
  /-- Corrected codewords in the current 1 ms interval (R114). -/
  corrected : Nat := 0
  /-- Last measured eye margin (R113). -/
  margin : Nat := 0
  /-- NT from which the egress is free to start a frame (R554). -/
  egressFree : Nat := 0
  /-- Verdict records in the frame that was sent last (R118). -/
  onWire : Nat := 0
  /-- R556: wire times of the lane's DLF frames, as start and end, newest first. -/
  wire : List (Nat × Nat) := []
  /-- R539: the stamp of the last frame that was received whole. -/
  lastStamp : Option Nat := none
  /-- R536: the least TRANSIT of the current 1 ms interval, and how many intervals in a row it was out of bounds. -/
  leastTransit : Option Int := none
  badTransit : Nat := 0
  deriving DecidableEq, Repr

/-- R147 to R155: one rule bank; its settings are settings of scope bank. -/
structure RuleBank where
  rules : Tab Rule := []
  /-- R149: the NT of the Hall cycle in which rules were last written, and the rules before the first write of that cycle. -/
  former : Option (Nat × Tab Rule) := none
  deriving DecidableEq, Repr

/-- R164: what a RESOLVED entry holds of the first fragment's record. -/
structure FragCopy where
  action : Nat
  param : Nat
  cls : Nat
  flags : Nat
  score : Nat
  deriving DecidableEq, Repr

/-- R164: a first fragment's flow identity. -/
inductive FlowIdent where
  /-- The flow handle of Table 06-3, when the flow table holds the flow. -/
  | handle (h : Nat)
  | key (k : Bytes)
  deriving DecidableEq, Repr

/-- R164: an entry of the fragment table; `first` numbers the first fragment's packet. -/
structure FragEntry where
  key : Bytes
  expiry : Nat
  first : Nat
  flow : FlowIdent
  copy : Option FragCopy
  deriving DecidableEq, Repr

/-- A classified digest that runs a model (R178). -/
structure Packet where
  /-- Place in arrival order. -/
  id : Nat
  slot : Slot
  partition : Nat
  modelSlot : Nat
  /-- Table key (Table 06-1) and flow hash (R209). -/
  key : Bytes
  hash : Nat
  epoch : Nat
  imageSlot : Nat
  /-- Packet elements of the token as bf16 patterns (R181). -/
  token : List (BitVec 16)
  trueLen : Nat
  malformed : Bool
  ruleTag : Nat
  deriving DecidableEq, Repr

/-- How the verdict assembler will answer a digest. -/
inductive Answer where
  /-- A model runs: deadline instant, and the real verdict once it has arrived (R48, R49). -/
  | model (deadline : Nat) (real : Option VerdictRec)
  /-- A case of Table 02-3 other than the first, with its record (R54 to R56). -/
  | default_ (rec : VerdictRec)
  /-- A non-first fragment that waits for the first fragment's record (R171). -/
  | waiting (first : Nat) (bank : Nat)
  /-- A non-first fragment whose record is known (R172), and its bank. -/
  | resolved (rec : VerdictRec) (bank : Nat)
  deriving DecidableEq, Repr

/-- A classified digest whose record has not been emitted, or whose late verdict has not arrived (R50 to R52). -/
structure Pend where
  id : Nat
  slot : Slot
  partition : Nat
  /-- Flow under R33: partition and table key. -/
  flow : Bytes
  answer : Answer
  emitted : Bool
  /-- R60, R171: the NT of the Hall cycle that must have passed before the record can leave. -/
  held : Option Nat := none
  epoch : Nat
  wing : Nat
  deriving DecidableEq, Repr

/-- R203: counts of one window of one window slot of a partition. -/
structure WinCount where
  epoch : Nat
  index : Int
  pkts : Nat
  bytes : Nat
  deriving DecidableEq, Repr

/-- The Hall's part of the verdict path. -/
structure Hall where
  lanes : Tab Lane := []
  bank0 : RuleBank := {}
  bank1 : RuleBank := {}
  activeBank : Nat := 0
  armedSwap : Option Nat := none
  /-- Instants of the swaps, newest first (R151). -/
  swaps : List Nat := []
  /-- Fragment banks, entry 4 × set + way, of Wing 0 and 1. -/
  frag0 : Tab FragEntry := []
  frag1 : Tab FragEntry := []
  packetCtr : Nat := 0
  /-- Packets that have a token and wait for dispatch, in arrival order. -/
  tokens : List Packet := []
  /-- Digests that the verdict assembler still has to answer, in arrival order. -/
  pends : List Pend := []
  /-- Window counts by 2 × partition + window slot, newest first (R203). -/
  windows : Tab (List WinCount) := []
  /-- R66: credits are withheld. -/
  withheld : Bool := false
  /-- deadline_count values by partition with the NT from which each holds, newest first (R47). -/
  deadlines : Tab (List (Nat × Nat)) := []
  /-- R654, R748: setting writes, newest first: the instant from which the new value holds, the setting's key, its former value. -/
  formers : List (Nat × Nat × Nat) := []
  /-- R432: maxima M[n][d] by 4 × partition + model slot, entry `statKey length n d`. -/
  maxima : Tab (Tab Nat) := []
  /-- R361: batches formed since reset. -/
  batchOrder : Nat := 0
  /-- R498: start instants and bytes of the image loads that have finished since a load last ran alone. -/
  loads : List (Nat × Nat) := []
  deriving DecidableEq, Repr

/-! ### The Wings: flow table, Stairwell, Larder (chapters 06, 07) -/

/-- Table 06-2: an entry; lock and lock_owner stand in `Lock`. -/
structure FlowEntry where
  valid : Bool := false
  hit : Bool := false
  aged : Bool := false
  moved : Bool := false
  noAge : Bool := false
  learned : Bool := false
  gen : Nat := 0
  firstPort : Nat := 0
  cookie : Nat := 0
  insertNt : Nat := 0
  key : Bytes := []
  deriving DecidableEq, Repr

/-- R244, R245: a bucket lock with its staging copy of ways 0 to 3. -/
structure Lock where
  owner : Nat
  fn : Nat
  grant : Nat
  staging : Option (List FlowEntry) := none
  /-- R744: the TABLE_UNLOCK of this ring has passed its checks and waits for its effective instant. -/
  unlocking : Option Nat := none
  deriving DecidableEq, Repr

/-- R225 to R227: a pending key. -/
structure PendKey where
  key : Bytes
  hash : Nat
  partition : Nat
  firstPort : Nat
  multi : Bool
  deriving DecidableEq, Repr

/-- R234: failed insertions of a partition in 1 ms intervals: the interval's number, failures in it and in the previous. -/
structure FullCount where
  interval : Nat
  cur : Nat
  prev : Nat
  deriving DecidableEq, Repr

/-- R235 to R240: a running sweep of a partition: its next unit (buckets, then overflow indices) and whether another sweep
waits. -/
structure Sweep where
  next : Nat
  waiting : Bool
  deriving DecidableEq, Repr

/-- R256 to R259: a running compare. -/
structure Compare where
  partition : Nat
  next : Nat
  last : Nat
  overflow : Bool
  /-- Next overflow index once the buckets are done. -/
  ovNext : Nat
  skipLearned : Bool
  id : Nat
  queue : Nat
  priority : Nat
  compared : Nat := 0
  mismatches : Nat := 0
  deriving DecidableEq, Repr

/-- Table 07-1. -/
inductive StairState where
  | free | admitted | noFlow | waitState | step | ready | squashed
  deriving DecidableEq, Repr

/-- R472: a pending verdict. -/
structure PendVerdict where
  action : Nat
  param : Nat
  cls : Nat
  score : Nat
  flags : Nat
  band : Nat
  rollout : Bool
  /-- The batch whose program wrote it. -/
  batch : Nat
  deriving DecidableEq, Repr

/-- R348: a record in the pending store: queue, priority, words. -/
structure PendRecord where
  queue : Nat
  priority : Nat
  data : Bytes
  /-- The batch whose program stored it. -/
  batch : Nat
  deriving DecidableEq, Repr

/-- R270, R271: the source that a packet's input state is to come from. -/
inductive InputChoice where
  /-- The new state of the packet of this number. -/
  | forwarded (id : Nat)
  | cache
  | larder
  deriving DecidableEq, Repr

/-- R264 to R280: a Stairwell entry. -/
structure Stair where
  index : Nat
  pkt : Packet
  state : StairState := .admitted
  /-- Predecessor, by packet number (R266). -/
  pred : Option Nat
  /-- Table 06-4; 3 while outstanding. -/
  lookup : Nat := 3
  handle : Nat := 0
  gen : Nat := 0
  input : Option Bytes := none
  /-- R271: the chosen source, none while the producer's lookup result is not known, and the block that the chosen producer
  left when it committed. -/
  choice : Option InputChoice := none
  forward : Option Bytes := none
  /-- Where the input state came from, for the counters that count at commit (R39): 1 forwarded, 2 cache, 3 Larder. -/
  source : Nat := 0
  /-- R295, R200: the input state was initialised; its last arrival followed the stamp. -/
  initialised : Bool := false
  regressed : Bool := false
  /-- The packet whose forwarded state this one consumed (R277). -/
  from_ : Option Nat := none
  newState : Option Bytes := none
  released : Bool := false
  /-- A squash that is pending: the cause of Table 07-3, or 5 for a cascade (R277). -/
  squash : Option Nat := none
  squashes : Nat := 0
  /-- Token with its flow elements. -/
  token : List (BitVec 16) := []
  /-- Next stage of its graph, and the batch it is in. -/
  stage : Nat := 0
  batch : Option Nat := none
  /-- NT since which it waits for its next batch (R34). -/
  since : Nat
  verdict : Option PendVerdict := none
  records : List PendRecord := []
  /-- rowmax per dynamic site, FP32 patterns (R431). -/
  rowmax : Tab Nat := []
  /-- Tile counters that the packet's work adds to once it commits (R39), by identifier. -/
  counts : Tab Nat := []
  /-- R39: completed batches whose shared counts wait for a packet of theirs to commit, by the numbers of `Wing.runs`. -/
  runs : List Nat := []
  /-- The part of them that belongs to the batch it is in. -/
  batchCounts : Tab Nat := []
  /-- R813: the packet's batch has been abandoned. -/
  abandoned : Bool := false
  deriving DecidableEq, Repr

/-- What a batch row is: a packet, or a rollout with its private copy of the block (R476). -/
inductive BatchRow where
  | packet (id : Nat)
  | rollout (start : RolloutStart) (block : Bytes)
  deriving DecidableEq, Repr

/-- R34, R324: a batch, from its closing to its end. -/
structure Batch where
  partition : Nat
  modelSlot : Nat
  imageSlot : Nat
  epoch : Nat
  graph : GraphKind
  stage : Nat
  rows : List BatchRow
  place : Placement
  /-- R429: the statistics batch. -/
  stat : Nat
  sent : Bool := false
  /-- How often the batch has been issued. -/
  issues : Nat := 0
  /-- Tiles on which the batch has ended. -/
  ended : List Nat := []
  /-- The batch has been aborted and waits for its tiles to quiesce (R360). -/
  aborted : Bool := false
  /-- Tiles that have quiesced since the abort. -/
  quiesced : List Nat := []
  /-- R813: the batch is abandoned and is not issued again. -/
  abandoned : Bool := false
  /-- R813: successive faulting re-issues. -/
  faults : Nat := 0
  /-- R39: counts of the batch's words that no row owns, from its last issue on. -/
  counts : Tab Nat := []
  /-- Rows that a STATE IN and a STATE RELEASE have named (R458). -/
  stateIn : List Nat := []
  stateOut : List Nat := []
  /-- A rollout batch: the placements of its stages and the steps that have run (R479). -/
  plan : List Placement := []
  steps : Nat := 0
  /-- A rollout batch whose last step has completed. -/
  rolled : Bool := false
  /-- R479: the forecast values of each row, step after step. -/
  forecast : List (List (BitVec 16)) := []
  /-- R361: the order in which batches were formed. -/
  order : Nat := 0
  deriving DecidableEq, Repr

/-- R48: a committed verdict on its way to the assembler. -/
structure Returning where
  id : Nat
  verdict : VerdictRec
  deriving DecidableEq, Repr

/-- One Wing. -/
structure Wing where
  entries : Tab FlowEntry := []
  overflow : Tab FlowEntry := []
  locks : Tab Lock := []
  /-- R254: broken locks: bucket and owner. -/
  broken : List (Nat × Nat) := []
  hitLog : List (Nat × Nat) := []
  coalescer : List PendKey := []
  full : Tab FullCount := []
  sweeps : Tab Sweep := []
  compare : Option Compare := none
  stairs : List Stair := []
  /-- Dispatcher queues by partition (R64). -/
  queues : Tab (List Packet) := []
  /-- Cached block handles by partition, oldest first (R305). -/
  cache : Tab (List Nat) := []
  /-- DRAM regions by partition: Larder, shadow, windows and image areas. -/
  regions : Tab Mem := []
  /-- Overflow Larder (R290). -/
  overflowLarder : Mem := []
  batches : Tab Batch := []
  batchCtr : Nat := 0
  /-- R39: shared counts of completed batches that wait for a commit, by number, and the next number. -/
  runs : Tab (Tab Nat) := []
  runCtr : Nat := 0
  returning : List Returning := []
  /-- R309, R763: what the Wing's clock has run beyond whole cycles, in thousandths of a cycle. -/
  phase : Nat := 0
  deriving DecidableEq, Repr

/-! ### Tiles (chapters 08 to 11) -/

/-- R334, R340: a feeder half. -/
structure Half where
  full : Bool := false
  data : Bytes := []
  tag : Nat := 0
  deriving DecidableEq, Repr

/-- R397: a codebook slot; entries past the list hold +0. -/
structure Codebook where
  size : Nat := 16
  entries : List (BitVec 16) := []
  deriving DecidableEq, Repr

/-- R422: a scale-register set: registers that have left their default (scale 1.0, bias +0), as 64-bit values. -/
structure ScaleSet where
  regs : Tab Nat := []
  tag : Nat := 0
  deriving DecidableEq, Repr

/-- R316: a word in an engine's queue. -/
structure Issued where
  word : TileWord
  batch : Nat
  /-- The word was issued within a wide segment (R328). -/
  wide : Bool
  /-- Base registers 0 to 7 at issue (R314). -/
  bases : List Nat
  /-- A word that has started and stays in its queue (R317, R318), and a DRAIN that has done its work. -/
  started : Bool := false
  done : Bool := false
  /-- R376: the pass that a started DRAIN or PRELOAD is bound to. -/
  bound : Nat := 0
  deriving DecidableEq, Repr

/-- A pass that has started (R373 to R375) and has not left for the drain buffer (R377, R378). -/
structure Pass where
  n : Nat
  issued : Issued
  op : PassOp
  /-- Opcode of Table 08-5. -/
  opcode : Nat
  /-- Steps read so far. -/
  k : Nat
  /-- Accumulators, or node bits in SEL mode, row-major in the form. -/
  acc : List (BitVec 32)
  aHalf : Nat
  aPos : Nat
  bHalf : Nat
  bPos : Nat
  /-- B halves whose tag has been compared (R447). -/
  compared : Nat
  /-- The tags differ and the feeder withholds the step (R448). -/
  held : Bool
  /-- R374: the pass has completed. -/
  completed : Bool := false
  /-- R377, R378: columns, from column 0 on, that have swapped, and those whose drain lane has shifted out. -/
  swapped : Nat := 0
  shifted : Nat := 0
  deriving DecidableEq, Repr

/-- R378: results of a pass in the drain buffer. -/
structure Result where
  n : Nat
  rows : Nat
  cols : Nat
  vals : List (BitVec 32)
  deriving DecidableEq, Repr

/-- One array with its feeders, scale registers and drain path. -/
structure MatArray where
  form : Nat := 0
  parked : Bool := true
  a0 : Half := {}
  a1 : Half := {}
  b0 : Half := {}
  b1 : Half := {}
  cbA : Tab Codebook := []
  cbB : Tab Codebook := []
  scale0 : ScaleSet := {}
  scale1 : ScaleSet := {}
  /-- Passes, drains and preloads counted since tile start or the last quiesce (R376). -/
  passes : Nat := 0
  drains : Nat := 0
  preloads : Nat := 0
  live : List Pass := []
  /-- R379: the preload values, by pass, of passes that have not started: in a preload lane or in the bank. -/
  pre : Tab (List (BitVec 32)) := []
  drainBuf : Option Result := none
  /-- The Post unit has finished reading the drain buffer (R342). -/
  bufRead : Bool := true
  deriving DecidableEq, Repr

/-- R499: a control set, tagged with its epoch. -/
structure ControlSet where
  epoch : Option Nat
  base : Nat
  entries : List Nat
  wide : List (Nat × Nat)
  scaleBlock : Nat
  sites : List SiteEntry
  groups : List (List Nat)
  windows : List DramWindow
  deriving DecidableEq, Repr

/-- R440, R442: counts of one clip layer of a batch on a tile: encoded and clipped values by row, and t. -/
structure ClipCount where
  batch : Nat
  layer : Nat
  log2 : Nat
  encoded : Tab Nat
  clipped : Tab Nat
  deriving DecidableEq, Repr

/-- R351: a released block that is write-locked. -/
structure WriteLock where
  lo : Nat
  hi : Nat
  packet : Nat
  deriving DecidableEq, Repr

/-- One tile. -/
structure Tile where
  mem : Mem := []
  tokens : Tab Nat := []
  /-- R320: the tile cycle that runs: the NT of its Hall cycle, the engines (16 × tile + engine) that have acted on the tile's tokens
  in it, and what it has taken from each token so far. -/
  takenNt : Nat := 0
  acted : List Nat := []
  taken : Tab Nat := []
  bases : List Nat := []
  /-- Batch descriptors that have arrived, oldest first (R325). -/
  descs : List Nat := []
  /-- The batch whose program the sequencer issues. -/
  cur : Option Nat := none
  pc : Nat := 0
  /-- R328: where a wide segment returns to. -/
  ret : Option Nat := none
  /-- A CHECK has been issued and has not decided (R327). -/
  checkWait : Bool := false
  /-- A WAIT or MARK at the sequencer. -/
  seqWord : Option Issued := none
  /-- Engine queues by code of Table 08-3. -/
  queues : Tab (List Issued) := []
  arr0 : MatArray := {}
  arr1 : MatArray := {}
  /-- Activation and encode tables of the Post unit that have left their defaults. -/
  act : Tab Bytes := []
  enc : Tab Bytes := []
  ctl0 : Option ControlSet := none
  ctl1 : Option ControlSet := none
  clips : List ClipCount := []
  /-- R443: rows whose results a wide segment writes. -/
  wideRows : List Nat := []
  locks : List WriteLock := []
  /-- R693: context of the last batch on a tile of the IKF-4840. -/
  context : Option Nat := none
  deriving DecidableEq, Repr


/-! ### Export (chapter 15) -/

/-- R559, R563, R564: an item of a payload: an EXPORT item type (1 MIRROR, 2 REPORT, 3 TELEMETRY) or an IPFIX template
(256, 257), its partition and its bytes. -/
structure ExpItem where
  type : Nat
  partition : Nat
  data : Bytes
  deriving DecidableEq, Repr

/-- R571: a queued frame, from the destination address to the last byte before the FCS. -/
structure ExpFrame where
  data : Bytes
  nt : Nat
  deriving DecidableEq, Repr

/-- R583: min, max and last of a sampled value. -/
structure Sampled where
  min : Nat := 0
  max : Nat := 0
  last : Nat := 0
  deriving DecidableEq, Repr

/-- R569 to R577, R583: one export queue. -/
structure ExpQueue where
  /-- Items of the open payload, oldest first, and the NT of the first. -/
  open_ : List ExpItem := []
  openNt : Nat := 0
  /-- The open IPFIX message carries the templates (R566). -/
  openTmpl : Bool := false
  /-- R567: ipfix_pen when the open message began. -/
  openPen : Nat := 0
  frames : List ExpFrame := []
  /-- Datagrams closed (R563), and data records closed by observation domain (R565). -/
  seq : Nat := 0
  domSeq : Tab Nat := []
  /-- NT at which the templates were last sent, none when they are due. -/
  tmplNt : Option Nat := none
  /-- R575: eligible time in 2^-16 NT units. -/
  elig : Nat := 0
  /-- R572: finish tag, and whether the queue is backlogged in its class. -/
  tag : Nat := 0
  awake : Bool := false
  depth : Sampled := {}
  delay : Sampled := {}
  /-- Samples that had been taken when the queue's statistics were last restarted. -/
  sampleBase : Nat := 0
  deriving DecidableEq, Repr

/-- Table 15-6, R580: a gate list: the instant from which entry 0 runs, and mask and interval of each entry. -/
structure GateList where
  base : Nat
  entries : List (Nat × Nat)
  deriving DecidableEq, Repr

/-- R574: virtual times of a port and of its classes at the start of the Hall cycle of an NT. -/
structure PortTimes where
  nt : Nat
  v : Nat
  vc : Tab Nat
  deriving DecidableEq, Repr

/-- R572, R582: one egress port. -/
structure ExpPort where
  v : Nat := 0
  /-- R574: the virtual times before the last selection. -/
  former : Option PortTimes := none
  /-- By class: finish tag and virtual time of the class, and whether it is backlogged. -/
  tags : Tab Nat := []
  vc : Tab Nat := []
  awake : List Nat := []
  gates : Option GateList := none
  pending : Option GateList := none
  deriving DecidableEq, Repr

/-- Chapter 15: the export scheduler. -/
structure Export where
  queues : Tab ExpQueue := []
  ports : Tab ExpPort := []
  /-- R583: samples taken since reset. -/
  samples : Nat := 0
  /-- R560: triggered packets by 2 × partition + Wing. -/
  mirrored : Tab Nat := []
  deriving DecidableEq, Repr
/-! ### The redundant pair (chapter 20) -/

/-- Table 20-3: pair states. -/
inductive PairState where
  | unpaired | connecting | active | alone
  deriving DecidableEq, Repr

/-- R734: a sequenced message that the partner has not acknowledged. -/
structure SentMsg where
  seq : Nat
  body : PairMsg
  firstNt : Nat
  deriving DecidableEq, Repr

/-- R741: a decision that waits for its effective instant. -/
structure Decision where
  e : Nat
  seq : Nat
  wing : Nat
  partition : Nat
  body : PairMsg
  /-- flowEndReason of the entries that the change removes (R559, R568). -/
  reason : Nat := 4
  /-- R758: the member itself took the decision, and counted it when it sent the message. -/
  own : Bool := false
  deriving DecidableEq, Repr

/-- R745: one applied change and the contents it replaced. -/
structure LogEntry where
  e : Nat
  partition : Nat
  former : PairUnit
  deriving DecidableEq, Repr

/-- R748: the mirrored command that the primary has prepared. -/
structure Prepared where
  seq : Nat
  cmd : MirrorCmd
  ring : Nat
  sentNt : Nat
  deriving DecidableEq, Repr

/-- R751 to R754: a resynchronisation of one partition on one Wing. -/
structure Resync where
  q : Nat
  sent : List Nat := []
  sentCount : Nat := 0
  /-- R752: on the primary, Q images saved at the first touch of their units, oldest first, that have not left yet. -/
  saved : List (Nat × PairUnit) := []
  /-- The walker's place among the units in ascending order. -/
  next : Nat := 0
  deriving DecidableEq, Repr

/-- Chapter 20: this member's side of the pair. -/
structure Pair where
  state : PairState := .unpaired
  standby : Bool := false
  setupFail : Nat := 0
  lanesUp : List Nat := []
  partnerSerial : Nat := 0
  /-- R730: the member's private ephemeral key and its random of 32 bytes, of its last connection. -/
  ephemeral : Option Nat := none
  random : Bytes := []
  /-- R730: the session's shared secret and its keys "lo2hi" and "hi2lo". -/
  secret : Option Bytes := none
  keyLoHi : Option Bytes := none
  keyHiLo : Option Bytes := none
  /-- Sequence numbers of R733, R734. -/
  sentSeq : Nat := 0
  acceptedSeq : Nat := 0
  unacked : List SentMsg := []
  /-- Sequenced messages accepted and not acted on yet, oldest first: msg_seq, E and body (R734, R741). -/
  inbox : List (Nat × Nat × PairMsg) := []
  lastSentNt : Nat := 0
  lastRxNt : Nat := 0
  /-- R742: the covered instant C. -/
  covered : Nat := 0
  /-- R740: previous pair stamp per digest lane. -/
  stamps : Tab Nat := []
  /-- R745: change log per Wing. -/
  log : Tab (List LogEntry) := []
  /-- Changes in the partner's log of each Wing, as its last HEARTBEAT says (R747). -/
  partnerLog : Tab Nat := []
  decisions : List Decision := []
  prepared : Option Prepared := none
  /-- On the standby: commands prepared and voted on, by msg_seq (R748). -/
  voted : Tab MirrorCmd := []
  /-- R749: own and partner's sums, by interval k and then partition-major, Wing. -/
  sums : Tab (List (Nat × Nat)) := []
  ownClosed : Tab (List Nat) := []
  partnerSums : Tab (List Nat) := []
  /-- The interval that closes next (R750). -/
  nextClose : Nat := 0
  lastInterval : Nat := 0
  /-- Resynchronisations in progress, entry 16 w + p. -/
  resync : Tab Resync := []
  requests : List (Nat × Nat × Nat) := []
  /-- PAIR_RESYNC commands that wait, and the resynchronisations that they wait for, entry 16 w + p. -/
  waitRings : List Nat := []
  awaited : List Nat := []
  /-- R755: instant of a scheduled exchange of roles. -/
  roleAt : Option Nat := none
  /-- R729: of each Banister lane since it came up: the frame_seq of the next frame, that of the last frame accepted, and the frames
  discarded. -/
  frameSeq : Tab Nat := []
  rxSeqs : Tab Nat := []
  rxDiscards : Tab Nat := []
  lastTx : Tab Nat := []
  deriving DecidableEq, Repr

/-! ### Boot, flash, update and management network (chapter 23) -/

/-- Table 23-1: the boot stage that comes next; `failed` is the end of a boot in dev_state FAILED (R830, R832). -/
inductive Stage where
  | rom | hearth | dram | selfTest | settings | ready | done | failed
  deriving DecidableEq, Repr

/-- Table 23-4: a valid copy of the boot record. -/
structure BootRec where
  activeB : Bool := false
  applyPending : Bool := false
  trial : Bool := false
  triesLeft : Nat := 0
  seq : Nat := 0
  lastResult : Nat := 0
  digestA : Nat := 0
  digestB : Nat := 0
  deriving DecidableEq, Repr

/-- R838: a copy of the persistent settings. -/
structure SavedSettings where
  seq : Nat
  settings : Tab Nat
  rules : Tab Rule
  activeBank : Nat
  anchors : List Nat
  deriving DecidableEq, Repr

/-- Table 23-8: the staging's state. -/
inductive StagingState where
  | receiving | closing | closed | activated | trial
  deriving DecidableEq, Repr

/-- R841 to R845: the one update. -/
structure Staging where
  state : StagingState
  /-- Owning session: a function, or 9 + n for management association n; 14 for the Banister. -/
  owner : Nat
  source : Nat
  total : Nat
  queued : Nat := 0
  written : Nat := 0
  /-- Queued transfers: offset and length (R843). -/
  transfers : List (Nat × Nat) := []
  hdr : Option StagingHdr := none
  /-- R844: the status record is in flash. -/
  statusRecord : Bool := false
  /-- Neighbours still to answer an offer: 0 chain, 1 Banister (R852). -/
  offers : List Nat := []
  /-- The next offset that goes to the partner over the Banister, once it has accepted (Table 23-10). -/
  relayAt : Option Nat := none
  deriving DecidableEq, Repr

/-- R856 to R859: one DTLS association. -/
structure Assoc where
  relay : Bool
  session : Bool := false
  enabled : Nat := 0
  running : Option Cmd := none
  /-- Records that wait, oldest first. -/
  waitingRecs : List Bytes := []
  lastRecord : Bytes := []
  keptReply : Option (Status × Nat) := none
  lastNt : Nat := 0
  /-- Order of session opening (R653). -/
  opened : Nat := 0
  deriving DecidableEq, Repr

/-- Chapter 23: boot progress, flash and management sessions. -/
structure Boot where
  stage : Stage := .rom
  devState : Nat := 0
  stageOne : Bool := false
  bootMode : Nat := 0
  recovery : Bool := false
  /-- Bank that runs: false A, true B. -/
  bankB : Bool := false
  trialBoot : Bool := false
  rec0 : Option BootRec := none
  rec1 : Option BootRec := none
  bankA : Option Bank := none
  bankBRec : Option Bank := none
  floor : Nat := 0
  settings0 : Option SavedSettings := none
  settings1 : Option SavedSettings := none
  /-- R839: the capture that is being written. -/
  capture : Option SavedSettings := none
  anchors : List Nat := []
  staging : Option Staging := none
  lastResult : Nat := 0
  assocs : Tab Assoc := []
  assocCtr : Nat := 0
  /-- Serial of the device, written at manufacture. -/
  serial : Nat := 0
  /-- R701: the certificates in flash: Obminar's root CA and device CA, and the DIK certificate issued at manufacture. -/
  rootCert : Bytes := []
  deviceCert : Bytes := []
  dikCert : Bytes := []
  /-- The device whose offer this device accepted (R856). -/
  acceptedFrom : Option Nat := none
  deriving DecidableEq, Repr

/-! ### Supplies, clocks and pins (chapter 24) -/

/-- Chapter 24: rails in regulation, regulator domains, clocks and sideband pins. -/
structure Power where
  vstby33 : Bool := false
  vio18 : Bool := false
  vaux18 : Bool := false
  vin12 : Bool := false
  /-- The regulator domains are on (all, but those of `domainsOut`). -/
  domainsOn : Bool := false
  standbyOn : Bool := false
  /-- Domains that went out of limits and stay off until the next boot (R873). -/
  domainsOut : List Nat := []
  sysClk : Bool := false
  sysClkLost : Bool := false
  /-- SERDES_REFCLK inputs that are absent (R878). -/
  serdesLost : List Nat := []
  resetLow : Bool := false
  /-- R884: FL_RESET_N, which is low from power-up until the ROM stage starts. -/
  flResetN : Bool := false
  thermtrip : Bool := false
  /-- R882: a trip that the next boot records. -/
  tripped : Bool := false
  converters : Tab Converter := []
  pmAlert : Bool := false
  lastPmAlert : Option Nat := none
  faultN : Bool := false
  deriving DecidableEq, Repr

/-! ### The whole device -/

/-- Tables 16-7 and 17-2: what a completion entry holds. -/
structure Completion where
  opcode : Nat
  status : Nat
  detail : Nat
  info : Nat
  replyBytes : Nat
  seqTag : Nat
  sqHead : Nat
  /-- Local ring index. -/
  ring : Nat
  phase : Bool
  nt : Nat
  deriving DecidableEq, Repr

/-- What the device drives out: to host memory and vectors, links, ports and pins, in the order it does so (log entry 3). -/
inductive Output where
  /-- A completion entry that is written to host memory. -/
  | completion (fn addr : Nat) (entry : Completion)
  /-- A read of host memory. -/
  | hostRead (fn addr length : Nat)
  /-- R629, R634, R635: an envelope as it is written to host memory or into a slot of VF BAR2. -/
  | envelope (fn addr : Nat) (data : Bytes)
  | msix (fn vector : Nat)
  | configAnswer (retry : Bool)
  /-- A DRAIN entry that is written to host memory. -/
  | drain (fn addr : Nat) (rec : TraceRec) (phase : Bool)
  | hostWrite (fn addr : Nat) (data : Bytes)
  | spdm (fn : Nat) (reply : SpdmReply)
  | tdo (value : Nat)
  /-- R720, R883: the levels of the sideband pins whose level the model holds, in the order of `State.pinLevels`. -/
  | pins (levels : List Bool)
  /-- R701: the chain of a certificate slot. -/
  | certificate (fn slot : Nat) (chain : CertChain)
  /-- R716: the device interface report of a VF: BARs and whether each is TEE MMIO. -/
  | interfaceReport (fn : Nat) (bars : List (Nat × Bool))
  /-- R717: a request to a VF's BAR completes as Unsupported Request. -/
  | unsupportedRequest (fn : Nat)
  /-- R717: a DMA of a VF in RUN, on the VF's stream with the T bit set. -/
  | tee (fn : Nat) (dma : Output)
  /-- R729, R733: a Banister frame: its DLF header, and its messages, each behind its header of Table 20-1, as AES-256-GCM ciphertext
  under the key and the nonce with the DLF header as the additional data. -/
  | pairFrame (key : Option Bytes) (lane : Nat) (header nonce : Bytes) (msgs : List (Bytes × PairMsg))
  /-- R730: what a member sends its partner at connection: the link certificate chain, whose link leaf names the link identity
  key and carries TcbInfo entries 0 to 5, and the ephemeral public key and the random with their signature. -/
  | pairHello (chain : CertChain) (ephemeral random signature : Bytes)
  | mgmtReply (assoc : Nat) (opcode status detail info : Nat) (data : Bytes)
  | mgmtFrame (port : Nat) (data : Bytes)
  /-- A frame on a digest lane's egress, from the destination address to the last byte before the FCS. -/
  | laneFrame (lane : Nat) (frame : Bytes)
  | relay (port op reason : Nat) (value : Nat) (baseDigest targetDigest : Nat)
  /-- R852: a staging that a neighbour has accepted leaves for it by UPDATE_BEGIN, UPDATE_DATA and UPDATE_END in a relay association. -/
  | relayStaging (neighbour : Nat)
  deriving DecidableEq, Repr

/-- The state of the device. -/
structure State where
  part : PartCode
  time : TimeBase
  host : HostIf
  obs : Observe
  health : Health
  rqs : Tab ReportQ
  parts : Tab Partition
  hall : Hall
  exp : Export
  wing0 : Wing
  wing1 : Wing
  /-- Tiles that have left their state at tile start, by instance of Table 21-3. -/
  tiles : Tab Tile
  sec : Security
  pair : Pair
  boot : Boot
  power : Power
  /-- Settings that have left their defaults, by `settingKey` (Table 17-6). -/
  settings : Tab Nat
  /-- Counters that are not zero, by identifier (R766). -/
  counters : Tab Nat
  /-- The 256 sticky bits (R805). -/
  sticky : BitVec 256
  /-- How many free values have been used (log entry 6; the model's own). -/
  free : Nat
  /-- Everything the device has driven out, oldest first (log entry 3; the model's own). -/
  out : List Output
  /-- The commands that are waiting, first in, first out. -/
  pending : List Instr
  deriving DecidableEq, Repr

/-- The device right after reset (log entries 5 and 15). -/
def State.reset : State :=
  { part := .ikf4880_12
    time := {}
    host := { perstN := true }
    obs := {}
    health := {}
    rqs := []
    parts := []
    hall := {}
    exp := {}
    wing0 := {}
    wing1 := {}
    tiles := []
    sec := { regs := Vector.replicate 6 0 }
    pair := {}
    boot := {}
    power := { vstby33 := true, vio18 := true, vaux18 := true, vin12 := true, standbyOn := true, sysClk := true }
    settings := []
    counters := []
    sticky := 0
    free := 0
    out := []
    pending := [] }

/-- Why a step stops with a fault. -/
inductive Fault where
  /-- Raised by no meaning of this model: the manual gives every command an effect. Safe. -/
  | none_
  deriving DecidableEq, Repr

/-- Why a step is refused. -/
inductive Refusal where
  /-- The command has no meaning yet; raised by the dispatch alone. Safe. -/
  | notModelled (mnemonic : String)
  deriving DecidableEq, Repr

end Sys2Proof.Machine
end

