-- ==== Sys2Proof/Machine/Ops.lean ====
section
/-!
DEFINITION. Machine/Ops.lean: the named operations over the state that every block uses: counters, outputs, free values,
trace buffers and triggers, sticky bits and FAULT_N, MSI-X vectors, and the facts of the part.
-/
namespace Sys2Proof.Machine

/-! ### The part (R4, R29, R30) -/

/-- The part is an IKF-4840, with contexts in place of partitions. -/
def State.is4840 (s : State) : Bool := s.part == .ikf4840_12

/-- Wings of the part (R4). -/
def State.wings (s : State) : Nat := if s.is4840 then 1 else 2

/-- Digest lanes of the part (R29). -/
def State.lanesN (s : State) : Nat := if s.is4840 then 24 else 48

/-- Partitions, or contexts on the IKF-4840. -/
def State.partsN (s : State) : Nat := if s.is4840 then 16 else 8

/-- The event of SYS_REFCLK's loss, of a trip or of a supply loss has stopped the Hall (R871, R879, R882). -/
def State.dead (s : State) : Bool :=
  s.power.sysClkLost || s.power.thermtrip || !s.power.domainsOn || s.power.resetLow

/-- NT as the Hall holds it. -/
def State.nt (s : State) : Nat := s.time.nt

/-- NT units in a microsecond. -/
def us : Nat := 16000

/-- NT units in a millisecond. -/
def ms : Nat := 16000000

/-- NT units in a second. -/
def sec1 : Nat := 16000000000

/-! ### Counters, outputs, free values -/

/-- The value of a counter. -/
def State.ctr (s : State) (id : Nat) : Nat := mget 0 s.counters id

/-- R759: a counter rises by `n` and saturates at 2^64 − 1. -/
def State.bumpN (s : State) (id n : Nat) : State :=
  { s with counters := mput s.counters id (satAdd max64 (s.ctr id) n) }

/-- R759: a counter rises by one. -/
def State.bump (s : State) (id : Nat) : State := s.bumpN id 1

/-- R772: where a Wing keeps its part of a partition's counter; the identifier itself names the Hall's part. -/
def ctrOnWing (w id : Nat) : Nat := id + (w + 1) * 4194304

/-- R766: group and instance of an identifier. -/
def ctrGroup (id : Nat) : Nat := id / 16777216
def ctrInst (id : Nat) : Nat := id / 4096 % 4096

/-- R694: the part of a tile's counter that a context of the IKF-4840 has. -/
def ctrOfContext (c id : Nat) : Nat := id + 18446744073709551616 * (c + 1)

/-- R694: a counter of the work of partition or context `p` rises by `n`: on the IKF-4840 a tile's counters have a part for each
context. -/
def State.bumpFor (s : State) (p id n : Nat) : State :=
  s.bumpN (if s.is4840 && ctrGroup id == 12 then ctrOfContext p id else id) n

/-- R392, R420, R452: a counter `id` together with what a count of it is attributed to. -/
def wordKey (id tag : Nat) : Nat := id + 4294967296 * (tag + 1)

/-- R420: attribution to a word's layer_id and op_id. -/
def layerTag (layer op : Nat) : Nat := layer + 4096 * op

/-- R452: attribution to a clip_layer. -/
def clipTag (layer : Nat) : Nat := 16777216 + layer

/-- A count of partition `p` under a `wordKey` rises by `n`, and with it the counter. -/
def State.addCount (s : State) (p key n : Nat) : State :=
  let s := s.bumpFor p (key % 4294967296) n
  if key < 4294967296 then s
  else { s with obs := { s.obs with wordCounts := mput s.obs.wordCounts key (satAdd max64 (mget 0 s.obs.wordCounts key) n) } }

/-- A level counter takes a value (R678). -/
def State.setCtr (s : State) (id v : Nat) : State := { s with counters := mput s.counters id v }

/-- The device drives an output (log entry 3). -/
def State.emit (s : State) (o : Output) : State := { s with out := s.out ++ [o] }

/-- Uses the next free value (log entry 6). -/
def State.nextFree (s : State) : State := { s with free := s.free + 1 }

/-! ### Trace buffers (R779 to R786) -/

/-- Table 21-7: capacity of a buffer by its number. -/
def bufCap (b : Nat) : Nat := if b = 0 then 32768 else if b < 16 then 8192 else 512

/-- Counters of a trace buffer: records, lost, freezes. -/
def bufCtr (b k : Nat) : Nat :=
  if b = 0 then Ctr.hallTraceRecords + k
  else if b < 16 then Ctr.wingTraceRecords (b - 1) + k
  else Ctr.tileTraceRecords (b - 16) + k

/-- The buffer with number `b`. -/
def State.buf (s : State) (b : Nat) : TraceBuf := mget {} s.obs.bufs b

/-- Replaces a buffer. -/
def State.setBuf (s : State) (b : Nat) (t : TraceBuf) : State :=
  { s with obs := { s.obs with bufs := mput s.obs.bufs b t } }

/-- A FAULT, EVENT, TRIGGER or GAP record. -/
def eventRec (kind reason nt arg0 : Nat) (arg1 : Nat := 0) (late : Bool := false) : TraceRec :=
  { kind := kind, engine := Config.traceEngine kind arg0 % 256, reason := reason, late := late, nt := nt, arg0 := arg0, arg1 := arg1 }

/-- R780: records stand in NT order, and at equal NT in ascending engine code. -/
def insertRec (r : TraceRec) : List TraceRec → List TraceRec
  | [] => [r]
  | x :: xs => if x.nt < r.nt ∨ (x.nt = r.nt ∧ x.engine ≤ r.engine) then x :: insertRec r xs else r :: x :: xs

/-- R780: records that wait at most in the cycle of `nt`: the one that the cycle writes and 8 further. -/
def TraceBuf.room (t : TraceBuf) (nt : Nat) : Nat := if t.wroteNt = some nt then 8 else 9

/-- R782: a record is lost; of a lost GAP those that it covers. -/
def TraceBuf.lose (t : TraceBuf) (r : TraceRec) : TraceBuf :=
  let k := if r.kind = 9 then (r.arg0, r.arg1) else (1, r.nt)
  { t with lostRun := t.lostRun + k.1, lostNt := if t.lostRun = 0 then k.2 else min t.lostNt k.2 }

/-- R782: when room has returned a GAP takes the place of the lost records (log entry 227). -/
def TraceBuf.closeGap (t : TraceBuf) (nt : Nat) : TraceBuf :=
  if 0 < t.lostRun ∧ t.fifo.length < t.room nt then
    { t with fifo := insertRec (eventRec 9 0 t.lostNt t.lostRun t.lostNt) t.fifo, lostRun := 0, lostNt := 0 }
  else t

/-- R780, R782, R785: a record is queued at a buffer: nothing while the buffer is disabled or frozen, lost when the FIFO is
full. -/
def State.trace (s : State) (b : Nat) (r : TraceRec) : State :=
  let t := (s.buf b).closeGap s.nt
  if !t.enable || t.frozen then s
  else if t.fifo.length < t.room s.nt then s.setBuf b { t with fifo := insertRec r t.fifo }
  else (s.setBuf b (t.lose r)).bump (bufCtr b 1)

/-- R784: a trigger fires in one buffer. -/
def State.fireIn (s : State) (bit b : Nat) : State :=
  if bitOf (s.buf b).triggerMask bit then
    s.trace b (eventRec 8 bit s.nt bit)
  else s

/-- R784: a trigger fires in the given buffers. -/
def State.fire (s : State) (bit : Nat) (bs : List Nat) : State :=
  bs.foldl (fun s b => s.fireIn bit b) s

/-- Every buffer that has been configured. -/
def State.allBufs (s : State) : List Nat := s.obs.bufs.map (·.1)

/-! ### Interrupts (R622 to R625) -/

/-- The function's MSI-X vector; vectors are masked at reset (log entry 11). -/
def State.vec (s : State) (fn v : Nat) : Vec := mget { masked := true, pending := false } s.host.vecs (1024 * fn + v)

/-- Replaces a vector's mask and pending bit. -/
def State.setVec (s : State) (fn v : Nat) (x : Vec) : State :=
  { s with host := { s.host with vecs := mput s.host.vecs (1024 * fn + v) x } }

/-- R625: a vector is sent, or its pending bit is set while it is masked. -/
def State.sendVector (s : State) (fn v : Nat) : State :=
  if (s.vec fn v).masked then s.setVec fn v { s.vec fn v with pending := true }
  else (s.emit (.msix fn v)).bump (Ctr.funcMsixSent fn)

/-! ### Sticky bits (R805 to R808) -/

/-- Table 22-2: bits marked visible to VFs. -/
def stickyVisible (n : Nat) : Bool :=
  [104, 105, 106, 107, 108, 113, 114, 120, 121, 122, 131, 132, 133, 160, 161, 192].contains n

/-- Table 22-2: bits that assert FAULT_N. -/
def stickyFaultN (n : Nat) : Bool :=
  [96, 97, 98, 99, 104, 106, 120, 121, 128, 130, 131, 135, 136, 161, 163, 164, 192, 201, 203].contains n

/-- Table 22-2: the mask of the bits in a list. -/
def bitMask (ns : List Nat) : BitVec 256 := ns.foldl (fun m n => m ||| (1#256 <<< n)) 0

/-- The mask of the bits that assert FAULT_N. -/
def faultNMask : BitVec 256 :=
  bitMask [96, 97, 98, 99, 104, 106, 120, 121, 128, 130, 131, 135, 136, 161, 163, 164, 192, 201, 203]

/-- The mask of the bits visible to VFs. -/
def visibleMask : BitVec 256 :=
  bitMask [104, 105, 106, 107, 108, 113, 114, 120, 121, 122, 131, 132, 133, 160, 161, 192]

/-- A sticky bit is set. -/
def State.stickyBit (s : State) (n : Nat) : Bool := s.sticky.getLsbD n

/-- R808: FAULT_N follows the bits of its column. -/
def State.refreshFaultN (s : State) : State :=
  { s with power := { s.power with faultN := s.sticky &&& faultNMask != 0 } }

/-- R807: vector 0 of the PF and, for a visible bit, of every VF. -/
def State.signalSticky (s : State) (n : Nat) : State :=
  let s := s.sendVector 0 0
  if stickyVisible n then [1, 2, 3, 4, 5, 6, 7, 8].foldl (fun s f => s.sendVector f 0) s else s

/-- R805, R807, R808: an event sets a sticky bit, in the Hall or in the block whose trace buffer is `b` (Table 21-7); nothing more
happens while the bit is set already. -/
def State.setStickyIn (s : State) (b n : Nat) : State :=
  if s.stickyBit n then s
  else
    let s := { s with sticky := s.sticky ||| (1#256 <<< n) }
    let s := s.refreshFaultN
    let s := s.signalSticky n
    let s := s.trace 0 (eventRec 7 n s.nt n)
    let s := if b = 0 then s else s.trace b (eventRec 7 n s.nt n)
    s.fire 3 s.allBufs

/-- R805: an event outside the Wings sets a sticky bit. -/
def State.setSticky (s : State) (n : Nat) : State := s.setStickyIn 0 n

/-- R805, R808: a write of ones clears sticky bits. -/
def State.clearSticky (s : State) (mask : BitVec 256) : State :=
  { s with sticky := s.sticky &&& ~~~ mask }.refreshFaultN

/-! ### Functions, partitions -/

/-- Host-facing state of a function. -/
def State.func (s : State) (f : Nat) : Func := mget {} s.host.funcs f

/-- Replaces a function's state. -/
def State.setFunc (s : State) (f : Nat) (x : Func) : State :=
  { s with host := { s.host with funcs := mput s.host.funcs f x } }

/-- A partition or context. -/
def State.partOf (s : State) (p : Nat) : Partition := mget {} s.parts p

/-- Replaces a partition. -/
def State.setPart (s : State) (p : Nat) (x : Partition) : State := { s with parts := mput s.parts p x }

/-- Changes a partition. -/
def State.modPart (s : State) (p : Nat) (f : Partition → Partition) : State := s.setPart p (f (s.partOf p))

/-- R595, R596: the function of a partition or context; 0 is the PF. -/
def State.fnOf (s : State) (p : Nat) : Nat := if s.is4840 then (s.partOf p).bindFn else p + 1

/-- The partitions or contexts of a function. -/
def State.partsOf (s : State) (f : Nat) : List Nat :=
  (List.range s.partsN).filter (fun p => s.fnOf p == f && (s.partOf p).state != .unconfigured)

/-- An image slot. -/
def Partition.slot (p : Partition) (n : Nat) : ImageSlot := if n = 0 then p.slot0 else p.slot1

/-- Replaces an image slot. -/
def Partition.setSlot (p : Partition) (n : Nat) (x : ImageSlot) : Partition :=
  if n = 0 then { p with slot0 := x } else { p with slot1 := x }

/-- The slot in a state, if one is. -/
def Partition.slotIn (p : Partition) (st : SlotState) : Option Nat :=
  if p.slot0.state = st then some 0 else if p.slot1.state = st then some 1 else none

/-- R502: the running epoch: the newest one taken. -/
def Partition.running (p : Partition) : Option Epoch := p.epochs.head?

/-- R298, R519: the reset epoch at an instant: from its switch instant on that of an armed epoch that resets state, or that is the
partition's first. -/
def Partition.resetNow (p : Partition) (nt : Nat) : Nat :=
  match p.slotIn .armed with
  | none => p.resetEpoch
  | some n =>
    let y := p.slot n
    let resets := p.epochs.isEmpty || (y.image.map (·.stateReset)).getD false
    if y.switchNt ≤ nt ∧ resets then y.epoch else p.resetEpoch

/-! ### Wings, DRAM regions and image areas -/

/-- A Wing. -/
def State.wing (s : State) (w : Nat) : Wing := if w = 0 then s.wing0 else s.wing1

/-- Replaces a Wing. -/
def State.setWing (s : State) (w : Nat) (x : Wing) : State := if w = 0 then { s with wing0 := x } else { s with wing1 := x }

/-- A partition's DRAM region on a Wing. -/
def Wing.region (x : Wing) (p : Nat) : Mem := mget [] x.regions p

/-- The key of a word of a partition's DRAM region among the poisoned words (R817). -/
def regionKey (w p a : Nat) : Nat := w * 72057594037927936 + p * 281474976710656 + a

/-- `n` bytes of a region are zeroed; a written word loses its poison (R817). -/
def State.regionClear (s : State) (w p a n : Nat) : State :=
  let s := { s with health := { s.health with
    poisoned := s.health.poisoned.filter (fun k => decide (k < regionKey w p a) || decide (regionKey w p a + n ≤ k)) } }
  let x := s.wing w
  s.setWing w { x with regions := mput x.regions p (memClear (x.region p) a (a + n)) }

/-- The half of the image area that holds a slot's image: its offset in the region and its bytes (log entry 197). -/
def Partition.imageHalf (x : Partition) (n : Nat) : Nat × Nat := (4096 * x.imageOff + n * (2048 * x.imageUnits), 2048 * x.imageUnits)

/-- R592, R713, R714: a slot's sections in the image area are erased on every Wing. -/
def State.eraseHalf (s : State) (p n : Nat) : State :=
  let h := (s.partOf p).imageHalf n
  (List.range s.wings).foldl (fun (s : State) w => s.regionClear w p h.1 h.2) s

/-- The image's header says that its sections are encrypted (Table 13-3). -/
def headSealed (head : Bytes) : Bool := bitOf (leAt head 6 1) 6

/-- The device's settings by identifier, instance and element (R656). -/
def settingKey (id inst elem : Nat) : Nat := id * 16777216 + inst * 256 + elem

end Sys2Proof.Machine
end

