-- ==== Sys2Proof/Machine/Events.lean ====
section
/-!
DEFINITION. Machine/Events.lean: the blocks' event queues (chapter 14, R543 to R549), and when a block may do other work.
-/
namespace Sys2Proof.Machine

/-! ### Event queues (R543 to R549) -/

/-- Table 14-5. -/
def evGateList : Nat := 1
def evTableApply : Nat := 2
def evInsertApply : Nat := 3
def evWindowEdge : Nat := 4
def evAgeSweep : Nat := 5
def evInterval : Nat := 6
def evStateHash : Nat := 7
def evShaperSample : Nat := 8
def evSnapshot : Nat := 9

/-- Blocks that run scheduled events (log entry 27): export scheduler 0, feature builder 1, digest lanes 2, Cellar of
Wing w 3 + w, Stairwell of Wing w 5 + w, observation unit 7. -/
def blkExport : Nat := 0
def blkFeature : Nat := 1
def blkLanes : Nat := 2
def blkCellar (w : Nat) : Nat := 3 + w
def blkStairwell (w : Nat) : Nat := 5 + w
def blkObserve : Nat := 7

/-- The Wing of a block, if it is one of a Wing. -/
def blkWing (b : Nat) : Option Nat := if b = 3 ∨ b = 5 then some 0 else if b = 4 ∨ b = 6 then some 1 else none

/-- The blocks that the part has. -/
def State.blocks (s : State) : List Nat := if s.wings = 1 then [0, 1, 2, 3, 5, 7] else [0, 1, 2, 3, 4, 5, 6, 7]

/-- A block's event queue. -/
def State.queueOf (s : State) (b : Nat) : List Occ := mget [] s.time.events b

/-- Replaces a block's event queue. -/
def State.setQueue (s : State) (b : Nat) (q : List Occ) : State :=
  { s with time := { s.time with events := mput s.time.events b q } }

/-- R544: `a` starts before `b`. -/
def Occ.before (a b : Occ) : Bool := decide (a.instant < b.instant ∨ (a.instant = b.instant ∧ a.kind ≤ b.kind))

/-- Places an occurrence in start order. -/
def insertOcc (o : Occ) : List Occ → List Occ
  | [] => [o]
  | p :: q => if p.before o then p :: insertOcc o q else o :: p :: q

/-- R549: the event queue of a block is full. -/
def State.queueFull (s : State) (b : Nat) : Bool := decide (1024 ≤ (s.queueOf b).length)

/-- The counter of merges or of late occurrences of a block. -/
def blkCtr (b : Nat) (hall : Nat) (wing : Nat → Nat) : Nat :=
  match blkWing b with
  | some w => wing w
  | none => hall

/-- Table 21-7: the trace buffer of a block. -/
def blkBuf (b : Nat) : Nat := match blkWing b with | some w => 1 + w | none => 0

/-- R543, R549: an occurrence joins a block's queue; a periodic one merges into its pending one when the queue is full. -/
def State.enqueue (s : State) (b : Nat) (o : Occ) : State :=
  let q := s.queueOf b
  if q.length < 1024 then s.setQueue b (insertOcc o q)
  else if o.periodic then
    match q.find? (fun x => x.kind == o.kind && x.key == o.key) with
    | none => s
    | some x =>
      let s := s.setQueue b (insertOcc { x with instant := max x.instant o.instant } (q.erase x))
      (s.bump (blkCtr b Ctr.hallEventsMerged Ctr.wingEventsMerged)).setStickyIn (blkBuf b) 108
  else s

/-- R548: the block's clock stands still. -/
def State.blkStopped (s : State) (b : Nat) : Bool :=
  match blkWing b with
  | some w => s.time.wingStopped.contains w
  | none => false

/-- R543, R544: the occurrence that a block starts now: the head of its queue once NT is at or after its instant. -/
def State.dueOcc (s : State) (b : Nat) : Option Occ :=
  if s.blkStopped b || s.dead then none
  else
    match s.queueOf b with
    | [] => none
    | o :: _ => if o.instant ≤ s.nt then some o else none

/-- The due occurrence when it is of the given kind and key. -/
def State.dueIs (s : State) (b kind key : Nat) : Option Occ :=
  match s.dueOcc b with
  | none => none
  | some o => if o.kind = kind ∧ o.key = key then some o else none

/-- R545: an occurrence starts more than 1 µs after its instant. -/
def lateAt (nt instant : Nat) : Bool := decide (instant + 16000 < nt)

/-- R543, R545: the head occurrence leaves the queue; a late one is counted and traced. -/
def State.startOcc (s : State) (b : Nat) (o : Occ) : State :=
  let s := s.setQueue b (s.queueOf b).tail
  if lateAt s.nt o.instant then
    let s := s.bump (blkCtr b Ctr.hallEventsLate Ctr.wingEventsLate)
    s.trace (blkBuf b) (eventRec 6 0 s.nt o.kind o.instant true)
  else s

/-- R544 (log entry 192): the Hall does no other work of a cycle while an occurrence of one of its blocks is due. -/
def State.hallFree (s : State) : Bool :=
  [blkExport, blkFeature, blkLanes, blkObserve].all (fun b => (s.dueOcc b).isNone) && !s.dead

/-- R544: work that the Hall does once the occurrences that are due have started. -/
def State.whenFree (s t : State) : State := if s.hallFree then t else s

/-- R544, R548: a Wing does no other work while its clock is stopped or an occurrence of it is due, nor before the Hall
blocks that its work reaches have started theirs. -/
def State.wingFree (s : State) (w : Nat) : Bool :=
  !s.time.wingStopped.contains w && (s.dueOcc (blkCellar w)).isNone && (s.dueOcc (blkStairwell w)).isNone && s.hallFree

/-- R543, R544: every block whose clock runs has started the occurrences that are due. -/
def State.allStarted (s : State) : Bool := s.blocks.all (fun b => (s.dueOcc b).isNone)

/-- R548: every Wing of the part may do other work. -/
def State.wingsFree (s : State) : Bool := (List.range s.wings).all s.wingFree

/-- R544: every block that runs has started each occurrence that comes before `o` and is due, so that a snapshot at `o`
records it. -/
def State.earlierStarted (s : State) (o : Occ) : Bool :=
  s.blocks.all (fun b =>
    match s.dueOcc b with
    | none => true
    | some x => o.before x)

end Sys2Proof.Machine
end

