-- ==== Sys2Proof/Machine/Aes.lean ====
section
/-!
DEFINITION. Machine/Aes.lean: AES-256 in Galois/counter mode (R629, R705, R712, R729; FIPS 197 and NIST SP 800-38D).
-/
namespace Sys2Proof.Machine

/-! ### AES-256 -/

/-- The S-box of AES. -/
def aesSbox : List Nat :=
  [0x63, 0x7c, 0x77, 0x7b, 0xf2, 0x6b, 0x6f, 0xc5, 0x30, 0x01, 0x67, 0x2b, 0xfe, 0xd7, 0xab, 0x76] ++
  [0xca, 0x82, 0xc9, 0x7d, 0xfa, 0x59, 0x47, 0xf0, 0xad, 0xd4, 0xa2, 0xaf, 0x9c, 0xa4, 0x72, 0xc0] ++
  [0xb7, 0xfd, 0x93, 0x26, 0x36, 0x3f, 0xf7, 0xcc, 0x34, 0xa5, 0xe5, 0xf1, 0x71, 0xd8, 0x31, 0x15] ++
  [0x04, 0xc7, 0x23, 0xc3, 0x18, 0x96, 0x05, 0x9a, 0x07, 0x12, 0x80, 0xe2, 0xeb, 0x27, 0xb2, 0x75] ++
  [0x09, 0x83, 0x2c, 0x1a, 0x1b, 0x6e, 0x5a, 0xa0, 0x52, 0x3b, 0xd6, 0xb3, 0x29, 0xe3, 0x2f, 0x84] ++
  [0x53, 0xd1, 0x00, 0xed, 0x20, 0xfc, 0xb1, 0x5b, 0x6a, 0xcb, 0xbe, 0x39, 0x4a, 0x4c, 0x58, 0xcf] ++
  [0xd0, 0xef, 0xaa, 0xfb, 0x43, 0x4d, 0x33, 0x85, 0x45, 0xf9, 0x02, 0x7f, 0x50, 0x3c, 0x9f, 0xa8] ++
  [0x51, 0xa3, 0x40, 0x8f, 0x92, 0x9d, 0x38, 0xf5, 0xbc, 0xb6, 0xda, 0x21, 0x10, 0xff, 0xf3, 0xd2] ++
  [0xcd, 0x0c, 0x13, 0xec, 0x5f, 0x97, 0x44, 0x17, 0xc4, 0xa7, 0x7e, 0x3d, 0x64, 0x5d, 0x19, 0x73] ++
  [0x60, 0x81, 0x4f, 0xdc, 0x22, 0x2a, 0x90, 0x88, 0x46, 0xee, 0xb8, 0x14, 0xde, 0x5e, 0x0b, 0xdb] ++
  [0xe0, 0x32, 0x3a, 0x0a, 0x49, 0x06, 0x24, 0x5c, 0xc2, 0xd3, 0xac, 0x62, 0x91, 0x95, 0xe4, 0x79] ++
  [0xe7, 0xc8, 0x37, 0x6d, 0x8d, 0xd5, 0x4e, 0xa9, 0x6c, 0x56, 0xf4, 0xea, 0x65, 0x7a, 0xae, 0x08] ++
  [0xba, 0x78, 0x25, 0x2e, 0x1c, 0xa6, 0xb4, 0xc6, 0xe8, 0xdd, 0x74, 0x1f, 0x4b, 0xbd, 0x8b, 0x8a] ++
  [0x70, 0x3e, 0xb5, 0x66, 0x48, 0x03, 0xf6, 0x0e, 0x61, 0x35, 0x57, 0xb9, 0x86, 0xc1, 0x1d, 0x9e] ++
  [0xe1, 0xf8, 0x98, 0x11, 0x69, 0xd9, 0x8e, 0x94, 0x9b, 0x1e, 0x87, 0xe9, 0xce, 0x55, 0x28, 0xdf] ++
  [0x8c, 0xa1, 0x89, 0x0d, 0xbf, 0xe6, 0x42, 0x68, 0x41, 0x99, 0x2d, 0x0f, 0xb0, 0x54, 0xbb, 0x16]

/-- The S-box of a byte. -/
def subByte (x : Byte) : Byte := BitVec.ofNat 8 ((aesSbox[x.toNat]?).getD 0)

/-- A byte times x in the field of AES. -/
def xtime (x : Byte) : Byte := if x.getLsbD 7 then (x <<< 1) ^^^ 0x1B#8 else x <<< 1

/-- Two strings of bytes, added bit by bit, as long as the shorter one. -/
def xorBytes (xs ys : Bytes) : Bytes := (xs.zip ys).map (fun e => e.1 ^^^ e.2)

/-- The round keys of a 32-byte key, in words of 4 bytes: `n` more words behind those listed, newest first. -/
def aesExpand : Nat → Byte → List Bytes → List Bytes
  | 0, _, ws => ws
  | n + 1, rcon, ws =>
    let last := ws.headD []
    let i := ws.length
    let t :=
      if i % 8 = 0 then xorBytes ((last.drop 1 ++ last.take 1).map subByte) [rcon, 0#8, 0#8, 0#8]
      else if i % 8 = 4 then last.map subByte
      else last
    aesExpand n (if i % 8 = 0 then xtime rcon else rcon) (xorBytes ((ws[7]?).getD []) t :: ws)

/-- The 15 round keys of 16 bytes. -/
def aesKeys (key : Bytes) : List Bytes :=
  let first := (List.range 8).map (fun i => slice key (4 * i) 4)
  let ws := (aesExpand 52 1#8 first.reverse).reverse
  (List.range 15).map (fun r => ((ws.drop (4 * r)).take 4).flatten)

/-- SubBytes and ShiftRows: byte r of column c comes from column c + r. -/
def aesShift (s : Bytes) : Bytes :=
  (List.range 16).map (fun i => subByte (s.getD ((i + 4 * (i % 4)) % 16) 0))

/-- MixColumns of one column. -/
def aesColumn (c : Bytes) : Bytes :=
  let x := fun (i : Nat) => c.getD (i % 4) 0
  (List.range 4).map (fun i => xtime (x i) ^^^ xtime (x (i + 1)) ^^^ x (i + 1) ^^^ x (i + 2) ^^^ x (i + 3))

/-- MixColumns. -/
def aesMix (s : Bytes) : Bytes := (List.range 4).flatMap (fun c => aesColumn (slice s (4 * c) 4))

/-- The rounds behind the first key; the last one mixes no columns. -/
def aesRounds : List Bytes → Bytes → Bytes
  | [], s => s
  | [k], s => xorBytes (aesShift s) k
  | k :: ks, s => aesRounds ks (xorBytes (aesMix (aesShift s)) k)

/-- AES-256 of a block of 16 bytes. -/
def aes (keys : List Bytes) (block : Bytes) : Bytes := aesRounds (keys.drop 1) (xorBytes block (keys.headD []))

/-! ### GCM -/

/-- The product of `x` and `y` in the field of GHASH, from the bits of `x` that are left, the most significant first. -/
def gcmMul (x : Nat) : Nat → Nat → Nat → Nat
  | 0, _, z => z
  | n + 1, v, z =>
    gcmMul x n (if v % 2 = 1 then v / 2 ^^^ 0xE1000000000000000000000000000000 else v / 2) (if bitOf x n then z ^^^ v else z)

/-- GHASH over blocks of 16 bytes, `n` of them. -/
def ghash (h : Nat) : Nat → Bytes → Nat → Nat
  | 0, _, y => y
  | n + 1, bs, y => ghash h n (bs.drop 16) (gcmMul (y ^^^ beNat (bs.take 16)) 128 h 0)

/-- A string of bytes, filled up with zeros to whole blocks. -/
def padBlock (bs : Bytes) : Bytes := bs ++ zeroBytes ((16 - bs.length % 16) % 16)

/-- The counter-mode stream: `n` blocks from counter `i` on. -/
def gcmStream (keys : List Bytes) (nonce : Bytes) : Nat → Nat → Bytes
  | 0, _ => []
  | n + 1, i => aes keys (nonce ++ beBytes 4 i) ++ gcmStream keys nonce n (i + 1)

/-- The tag of a ciphertext and its additional data. -/
def gcmTag (keys : List Bytes) (nonce aad ct : Bytes) : Bytes :=
  let bs := padBlock aad ++ padBlock ct ++ beBytes 8 (8 * aad.length) ++ beBytes 8 (8 * ct.length)
  let y := ghash (beNat (aes keys (zeroBytes 16))) (bs.length / 16) bs 0
  xorBytes (beBytes 16 y) (aes keys (nonce ++ beBytes 4 1))

/-- Encryption or decryption of a string. -/
def gcmCrypt (keys : List Bytes) (nonce bs : Bytes) : Bytes := xorBytes bs (gcmStream keys nonce ((bs.length + 15) / 16) 2)

/-- AES-256-GCM with a 12-byte nonce: ciphertext and 16-byte tag. -/
def gcmSeal (key nonce aad plain : Bytes) : Bytes :=
  let keys := aesKeys key
  let ct := gcmCrypt keys nonce plain
  ct ++ gcmTag keys nonce aad ct

/-- The plaintext of a ciphertext with its tag behind it; none where the authentication fails. -/
def gcmOpen (key nonce aad sealed_ : Bytes) : Option Bytes :=
  let keys := aesKeys key
  let n := sealed_.length - 16
  let ct := sealed_.take n
  if 16 ≤ sealed_.length ∧ gcmTag keys nonce aad ct = sealed_.drop n then some (gcmCrypt keys nonce ct) else none

end Sys2Proof.Machine
end

