-- ==== Sys2Proof/Machine/Sha.lean ====
section
/-!
DEFINITION. Machine/Sha.lean: SHA-384 (R488, R696), HMAC and HKDF over it (R697, R699, R730; RFC 2104 and RFC 5869), and the
HMAC_DRBG (R700; NIST SP 800-90A).
-/
namespace Sys2Proof.Machine

/-! ### SHA-384 (FIPS 180-4) -/

/-- A 64-bit word rotated right by `n` bits. -/
def rotr64 (x n : Nat) : Nat := x >>> n ||| x <<< (64 - n) % 18446744073709551616

/-- The sum of 64-bit words. -/
def add64 (x y : Nat) : Nat := (x + y) % 18446744073709551616

/-- Round constants 0 to 15. -/
def shaK0 : List Nat :=
  [0x428a2f98d728ae22, 0x7137449123ef65cd, 0xb5c0fbcfec4d3b2f, 0xe9b5dba58189dbbc,
   0x3956c25bf348b538, 0x59f111f1b605d019, 0x923f82a4af194f9b, 0xab1c5ed5da6d8118,
   0xd807aa98a3030242, 0x12835b0145706fbe, 0x243185be4ee4b28c, 0x550c7dc3d5ffb4e2,
   0x72be5d74f27b896f, 0x80deb1fe3b1696b1, 0x9bdc06a725c71235, 0xc19bf174cf692694]

/-- Round constants 16 to 31. -/
def shaK1 : List Nat :=
  [0xe49b69c19ef14ad2, 0xefbe4786384f25e3, 0x0fc19dc68b8cd5b5, 0x240ca1cc77ac9c65,
   0x2de92c6f592b0275, 0x4a7484aa6ea6e483, 0x5cb0a9dcbd41fbd4, 0x76f988da831153b5,
   0x983e5152ee66dfab, 0xa831c66d2db43210, 0xb00327c898fb213f, 0xbf597fc7beef0ee4,
   0xc6e00bf33da88fc2, 0xd5a79147930aa725, 0x06ca6351e003826f, 0x142929670a0e6e70]

/-- Round constants 32 to 47. -/
def shaK2 : List Nat :=
  [0x27b70a8546d22ffc, 0x2e1b21385c26c926, 0x4d2c6dfc5ac42aed, 0x53380d139d95b3df,
   0x650a73548baf63de, 0x766a0abb3c77b2a8, 0x81c2c92e47edaee6, 0x92722c851482353b,
   0xa2bfe8a14cf10364, 0xa81a664bbc423001, 0xc24b8b70d0f89791, 0xc76c51a30654be30,
   0xd192e819d6ef5218, 0xd69906245565a910, 0xf40e35855771202a, 0x106aa07032bbd1b8]

/-- Round constants 48 to 63. -/
def shaK3 : List Nat :=
  [0x19a4c116b8d2d0c8, 0x1e376c085141ab53, 0x2748774cdf8eeb99, 0x34b0bcb5e19b48a8,
   0x391c0cb3c5c95a63, 0x4ed8aa4ae3418acb, 0x5b9cca4f7763e373, 0x682e6ff3d6b2b8a3,
   0x748f82ee5defb2fc, 0x78a5636f43172f60, 0x84c87814a1f0ab72, 0x8cc702081a6439ec,
   0x90befffa23631e28, 0xa4506cebde82bde9, 0xbef9a3f7b2c67915, 0xc67178f2e372532b]

/-- Round constants 64 to 79. -/
def shaK4 : List Nat :=
  [0xca273eceea26619c, 0xd186b8c721c0c207, 0xeada7dd6cde0eb1e, 0xf57d4f7fee6ed178,
   0x06f067aa72176fba, 0x0a637dc5a2c898a6, 0x113f9804bef90dae, 0x1b710b35131c471b,
   0x28db77f523047d84, 0x32caab7b40c72493, 0x3c9ebe0a15c9bebc, 0x431d67c49c100d4c,
   0x4cc5d4becb3e42b6, 0x597f299cfc657e2a, 0x5fcb6fab3ad6faec, 0x6c44198c4a475817]

/-- The 80 round constants. -/
def shaK : List Nat := shaK0 ++ shaK1 ++ shaK2 ++ shaK3 ++ shaK4

/-- The eight working words. -/
structure ShaWords where
  a : Nat
  b : Nat
  c : Nat
  d : Nat
  e : Nat
  f : Nat
  g : Nat
  h : Nat
  deriving DecidableEq, Repr

/-- The initial words of SHA-384. -/
def shaInit : ShaWords :=
  { a := 0xcbbb9d5dc1059ed8, b := 0x629a292a367cd507, c := 0x9159015a3070dd17, d := 0x152fecd8f70e5939
    e := 0x67332667ffc00b31, f := 0x8eb44a8768581511, g := 0xdb0c2e0d64f98fa7, h := 0x47b5481dbefa4fa4 }

/-- One round with a message word and a round constant. -/
def ShaWords.round (s : ShaWords) (w k : Nat) : ShaWords :=
  let big1 := rotr64 s.e 14 ^^^ rotr64 s.e 18 ^^^ rotr64 s.e 41
  let ch := s.g ^^^ (s.e &&& (s.f ^^^ s.g))
  let t1 := (s.h + big1 + ch + k + w) % 18446744073709551616
  let big0 := rotr64 s.a 28 ^^^ rotr64 s.a 34 ^^^ rotr64 s.a 39
  let maj := (s.a &&& s.b) ^^^ (s.a &&& s.c) ^^^ (s.b &&& s.c)
  { a := (t1 + big0 + maj) % 18446744073709551616, b := s.a, c := s.b, d := s.c, e := add64 s.d t1, f := s.e, g := s.f, h := s.g }

/-- The message word 16 places behind the first of the last 16 words. -/
def shaNext (w : List Nat) : Nat :=
  let x := (w[1]?).getD 0
  let y := (w[14]?).getD 0
  let small0 := rotr64 x 1 ^^^ rotr64 x 8 ^^^ x >>> 7
  let small1 := rotr64 y 19 ^^^ rotr64 y 61 ^^^ y >>> 6
  (small1 + (w[9]?).getD 0 + small0 + w.headD 0) % 18446744073709551616

/-- The rounds of a block, from its first words on. -/
def shaRounds : List Nat → List Nat → ShaWords → ShaWords
  | [], _, s => s
  | k :: ks, w, s => shaRounds ks (w.drop 1 ++ [shaNext w]) (s.round (w.headD 0) k)

/-- The words behind a block of 128 bytes. -/
def ShaWords.block (s : ShaWords) (bs : Bytes) : ShaWords :=
  let z := shaRounds shaK ((List.range 16).map (fun i => beAt bs (8 * i) 8)) s
  { a := add64 s.a z.a, b := add64 s.b z.b, c := add64 s.c z.c, d := add64 s.d z.d
    e := add64 s.e z.e, f := add64 s.f z.f, g := add64 s.g z.g, h := add64 s.h z.h }

/-- The words behind `n` blocks. -/
def shaBlocks : Nat → Bytes → ShaWords → ShaWords
  | 0, _, s => s
  | n + 1, bs, s => shaBlocks n (bs.drop 128) (s.block (bs.take 128))

/-- The padded message. -/
def shaPad (bs : Bytes) : Bytes := bs ++ [0x80#8] ++ zeroBytes ((239 - bs.length % 128) % 128) ++ beBytes 16 (8 * bs.length)

/-- SHA-384 of a string: 48 bytes. -/
def sha384 (bs : Bytes) : Bytes :=
  let m := shaPad bs
  let s := shaBlocks (m.length / 128) m shaInit
  beBytes 8 s.a ++ beBytes 8 s.b ++ beBytes 8 s.c ++ beBytes 8 s.d ++ beBytes 8 s.e ++ beBytes 8 s.f

/-! ### HMAC and HKDF -/

/-- HMAC with SHA-384 (RFC 2104). -/
def hmac384 (key msg : Bytes) : Bytes :=
  let k := if 128 < key.length then sha384 key else key
  let k := k ++ zeroBytes (128 - k.length)
  sha384 (k.map (· ^^^ 0x5C#8) ++ sha384 (k.map (· ^^^ 0x36#8) ++ msg))

/-- HKDF-Extract (RFC 5869). -/
def hkdfExtract (salt ikm : Bytes) : Bytes := hmac384 (if salt.isEmpty then zeroBytes 48 else salt) ikm

/-- Blocks `i`, `i + 1` ... of HKDF-Expand, `n` of them. -/
def hkdfBlocks (prk info : Bytes) : Nat → Nat → Bytes → Bytes
  | 0, _, _ => []
  | n + 1, i, t =>
    let b := hmac384 prk (t ++ info ++ leBytes 1 i)
    b ++ hkdfBlocks prk info n (i + 1) b

/-- HKDF-Expand: `len` bytes (RFC 5869). -/
def hkdfExpand (prk info : Bytes) (len : Nat) : Bytes := (hkdfBlocks prk info ((len + 47) / 48) 1 []).take len

/-- HKDF with SHA-384 (R697). -/
def hkdf (salt ikm info : Bytes) (len : Nat) : Bytes := hkdfExpand (hkdfExtract salt ikm) info len

/-- The bytes of a label. -/
def label (l : String) : Bytes := l.toList.map (fun c => BitVec.ofNat 8 c.toNat)

/-! ### HMAC_DRBG (SP 800-90A, section 10.1.2) -/

/-- HMAC_DRBG_Update. -/
def Drbg.update (d : Drbg) (data : Bytes) : Drbg :=
  let k := hmac384 d.key (d.v ++ [0#8] ++ data)
  let v := hmac384 k d.v
  if data.isEmpty then { key := k, v := v }
  else
    let k := hmac384 k (v ++ [1#8] ++ data)
    { key := k, v := hmac384 k v }

/-- Instantiation from seed material. -/
def Drbg.seed (material : Bytes) : Drbg :=
  Drbg.update { key := zeroBytes 48, v := List.replicate 48 1#8 } material

/-- `n` blocks of output. -/
def Drbg.blocks (key : Bytes) : Nat → Bytes → Bytes → Bytes × Bytes
  | 0, v, out => (out, v)
  | n + 1, v, out => let w := hmac384 key v; Drbg.blocks key n w (out ++ w)

/-- HMAC_DRBG_Generate: `len` bytes, and the state behind them. -/
def Drbg.draw (d : Drbg) (len : Nat) : Bytes × Drbg :=
  let r := Drbg.blocks d.key ((len + 47) / 48) d.v []
  (r.1.take len, Drbg.update { key := d.key, v := r.2 } [])

end Sys2Proof.Machine
end

