-- ==== Sys2Proof/Machine/P384.lean ====
section
/-!
DEFINITION. Machine/P384.lean: keys on the curve P-384 (R697; FIPS 186-5 and SP 800-186), ECDH (R730), and HPKE in base mode (R705;
RFC 9180).
-/
namespace Sys2Proof.Machine

/-! ### The curve -/

/-- The field's prime. -/
def p384P : Nat := 0xfffffffffffffffffffffffffffffffffffffffffffffffffffffffffffffffeffffffff0000000000000000ffffffff

/-- The order of the base point. -/
def p384N : Nat := 0xffffffffffffffffffffffffffffffffffffffffffffffffc7634d81f4372ddf581a0db248b0a77aecec196accc52973

/-- The coefficient b; a is −3. -/
def p384B : Nat := 0xb3312fa7e23ee7e4988e056be3f82d19181d9c6efe8141120314088f5013875ac656398d8a2ed19d2a85c8edd3ec2aef

/-- The base point. -/
def p384G : Nat × Nat :=
  (0xaa87ca22be8b05378eb1c71ef320ad746e1d3b628ba79b9859f741e082542a385502f25dbf55296c3a545e3872760ab7,
   0x3617de4a96262c6f5d9e98bf9292dc29f8f41dbd289a147ce9da3113b5f0b8c00a60b1ce1d7e819d7a431d7c90ea0e5f)

/-- A difference in the field. -/
def subP (x y : Nat) : Nat := (x + (p384P - y % p384P)) % p384P

/-- A power in the field, from the exponent's highest of `n` bits on. -/
def powP (x e : Nat) : Nat → Nat → Nat
  | 0, acc => acc
  | n + 1, acc => powP x e n (acc * acc % p384P * (if bitOf e n then x else 1) % p384P)

/-- The inverse in the field. -/
def invP (x : Nat) : Nat := powP x (p384P - 2) 384 1

/-- A point in Jacobian coordinates; z = 0 is the point at infinity. -/
structure JPoint where
  x : Nat
  y : Nat
  z : Nat
  deriving DecidableEq, Repr

/-- The point twice. -/
def JPoint.double (p : JPoint) : JPoint :=
  let delta := p.z * p.z % p384P
  let gamma := p.y * p.y % p384P
  let beta := p.x * gamma % p384P
  let alpha := 3 * (subP p.x delta * ((p.x + delta) % p384P)) % p384P
  let x := subP (alpha * alpha % p384P) (8 * beta)
  let z := subP (subP ((p.y + p.z) * (p.y + p.z) % p384P) gamma) delta
  { x := x, y := subP (alpha * subP (4 * beta % p384P) x % p384P) (8 * (gamma * gamma % p384P)), z := z }

/-- The sum of two points. -/
def JPoint.add (p q : JPoint) : JPoint :=
  if p.z = 0 then q
  else if q.z = 0 then p
  else
    let z1 := p.z * p.z % p384P
    let z2 := q.z * q.z % p384P
    let u1 := p.x * z2 % p384P
    let u2 := q.x * z1 % p384P
    let s1 := p.y * q.z % p384P * z2 % p384P
    let s2 := q.y * p.z % p384P * z1 % p384P
    if u1 = u2 then (if s1 = s2 then p.double else { x := 1, y := 1, z := 0 })
    else
      let h := subP u2 u1
      let r := subP s2 s1
      let h2 := h * h % p384P
      let h3 := h * h2 % p384P
      let v := u1 * h2 % p384P
      let x := subP (subP (r * r % p384P) h3) (2 * v)
      { x := x, y := subP (r * subP v x % p384P) (s1 * h3 % p384P), z := h * (p.z * q.z % p384P) % p384P }

/-- A multiple of a point, from the highest of `n` bits of the factor on. -/
def JPoint.times (p : JPoint) (k : Nat) : Nat → JPoint → JPoint
  | 0, acc => acc
  | n + 1, acc =>
    let d := acc.double
    p.times k n (if bitOf k n then d.add p else d)

/-- The affine coordinates of a point other than the one at infinity. -/
def JPoint.affine (p : JPoint) : Nat × Nat :=
  let i := invP p.z
  let i2 := i * i % p384P
  (p.x * i2 % p384P, p.y * (i2 * i % p384P) % p384P)

/-- A multiple of an affine point. -/
def p384Times (k : Nat) (p : Nat × Nat) : JPoint := JPoint.times { x := p.1, y := p.2, z := 1 } k 384 { x := 1, y := 1, z := 0 }

/-- A pair of numbers is a point of the curve. -/
def onCurve (p : Nat × Nat) : Bool :=
  decide (p.1 < p384P) && decide (p.2 < p384P) &&
    p.2 * p.2 % p384P == (p.1 * p.1 % p384P * p.1 + (p384P - 3) * p.1 + p384B) % p384P

/-- R697: a private key from 56 bytes, by the extra-random-bits method of FIPS 186-5. -/
def p384Key (bs : Bytes) : Nat := beNat bs % (p384N - 1) + 1

/-- A point as an uncompressed SEC1 string of 97 bytes. -/
def pointBytes (p : Nat × Nat) : Bytes := [4#8] ++ beBytes 48 p.1 ++ beBytes 48 p.2

/-- The public key of a private one, as 97 bytes. -/
def publicKey (d : Nat) : Bytes := pointBytes (p384Times d p384G).affine

/-- The point that 97 bytes hold, if they hold one of the curve. -/
def readPoint (bs : Bytes) : Option (Nat × Nat) :=
  let p := (beAt bs 1 48, beAt bs 49 48)
  if bs.length = 97 ∧ bs.headD 0 = 4#8 ∧ onCurve p then some p else none

/-- The ECDH secret of a private key and a public one: the x coordinate, 48 bytes; none where the public key is no point. -/
def ecdh (d : Nat) (pub : Bytes) : Option Bytes :=
  (readPoint pub).bind (fun p =>
    let q := p384Times d p
    if q.z = 0 then none else some (beBytes 48 q.affine.1))

/-! ### ECDSA (FIPS 186-5) -/

/-- A power modulo the order of the base point, from the exponent's highest of `n` bits on. -/
def powN (x e : Nat) : Nat → Nat → Nat
  | 0, acc => acc
  | n + 1, acc => powN x e n (acc * acc % p384N * (if bitOf e n then x else 1) % p384N)

/-- The signature of a message with a private key and a per-message secret, over its SHA-384: the 96 bytes of r and s. -/
def ecdsaSign (d k : Nat) (msg : Bytes) : Bytes :=
  let r := (p384Times k p384G).affine.1 % p384N
  let z := beNat (sha384 msg)
  beBytes 48 r ++ beBytes 48 (powN k (p384N - 2) 384 1 * ((z + r * d) % p384N) % p384N)

/-! ### HPKE (RFC 9180): KEM 0x0011, KDF 0x0002, AEAD 0x0002 -/

/-- The suite of the KEM. -/
def suiteKem : Bytes := label "KEM" ++ [0x00#8, 0x11#8]

/-- The suite of the key schedule. -/
def suiteHpke : Bytes := label "HPKE" ++ [0x00#8, 0x11#8, 0x00#8, 0x02#8, 0x00#8, 0x02#8]

/-- LabeledExtract. -/
def hpkeExtract (suite salt : Bytes) (l : String) (ikm : Bytes) : Bytes := hkdfExtract salt (label "HPKE-v1" ++ suite ++ label l ++ ikm)

/-- LabeledExpand. -/
def hpkeExpand (suite prk : Bytes) (l : String) (info : Bytes) (len : Nat) : Bytes :=
  hkdfExpand prk (beBytes 2 len ++ label "HPKE-v1" ++ suite ++ label l ++ info) len

/-- Decap: the shared secret of an encapsulated key. -/
def hpkeDecap (d : Nat) (enc : Bytes) : Option Bytes :=
  (ecdh d enc).map (fun dh =>
    hpkeExpand suiteKem (hpkeExtract suiteKem [] "eae_prk" dh) "shared_secret" (enc ++ publicKey d) 48)

/-- OpenBase with empty aad: the plaintext of a ciphertext with its tag, for the recipient's private key. -/
def hpkeOpen (d : Nat) (enc info ct : Bytes) : Option Bytes :=
  (hpkeDecap d enc).bind (fun shared =>
    let ctx := [0x00#8] ++ hpkeExtract suiteHpke [] "psk_id_hash" [] ++ hpkeExtract suiteHpke [] "info_hash" info
    let secret := hpkeExtract suiteHpke shared "secret" []
    gcmOpen (hpkeExpand suiteHpke secret "key" ctx 32) (hpkeExpand suiteHpke secret "base_nonce" ctx 12) [] ct)

end Sys2Proof.Machine
end

