-- ==== Sys2Proof/Machine/Keys.lean ====
section
/-!
DEFINITION. Machine/Keys.lean: the keys that the Hearth derives (R695 to R700, Table 19-3), and the leaves that the ROM signer issues
(R701 to R703, Tables 19-4 and 19-5).
-/
namespace Sys2Proof.Machine

/-! ### Derivations (Table 19-3) -/

/-- R697: the private key of an ECDSA or ECDH key on P-384. -/
def deriveKey (salt input info : Bytes) : Nat := p384Key (hkdf salt input info 56)

/-- R695: the root seed as a string. -/
def rootSeed : Bytes := beBytes 32 Config.rootSeed.toNat

/-- The device identity key. -/
def State.deriveDik (s : State) : Nat := deriveKey (label "IKF-DIK") rootSeed (leBytes 8 s.boot.serial)

/-- The Hearth CDI, from register 0. -/
def hearthCdi (reg0 : BitVec 384) : Bytes := hkdf (beBytes 48 reg0.toNat) rootSeed (label "IKF-CDI0") 48

/-- The firmware CDI, from registers 1 to 5. -/
def firmwareCdi (regs : List (BitVec 384)) (cdi : Bytes) : Bytes := hkdf (regs.flatMap (fun r => beBytes 48 r.toNat)) cdi (label "IKF-CDI1") 48

/-- A partition's attestation key and its wrapping key. -/
def attestationKey (nonce cdi : Bytes) (p : Nat) : Nat := deriveKey nonce cdi (label "IKF-PAK" ++ leBytes 1 p)
def wrappingKey (nonce cdi : Bytes) (p : Nat) : Nat := deriveKey nonce cdi (label "IKF-PWK" ++ leBytes 1 p)

/-- The link identity key. -/
def linkIdentityKey (cdi : Bytes) : Nat := deriveKey (zeroBytes 48) cdi (label "IKF-LINK")

/-- R696: r := SHA-384(r ‖ m). -/
def extend (r m : BitVec 384) : BitVec 384 := BitVec.ofNat 384 (beNat (sha384 (beBytes 48 r.toNat ++ beBytes 48 m.toNat)))

/-- R700: the Hearth draws `n` bytes from its HMAC_DRBG. -/
def State.draw (s : State) (n : Nat) : Bytes × State :=
  let r := s.sec.drbg.draw n
  (r.1, { s with sec := { s.sec with drbg := r.2 } })

/-- R700: the HMAC_DRBG is seeded from the entropy source (log entry 219). -/
def State.seedDrbg (s : State) : State := { s.nextFree with sec := { s.sec with drbg := Drbg.seed (Config.entropy s.free) } }

/-! ### Leaves -/

/-- A signature with a private key; its per-message secret is a free value. -/
def State.sign (s : State) (key : Nat) (msg : Bytes) : Bytes × State :=
  (ecdsaSign key (Config.freeNat s.free % (p384N - 1) + 1) msg, s.nextFree)

/-- The bank that runs. -/
def State.runningBank (s : State) : Option Bank := if s.boot.bankB then s.boot.bankBRec else s.boot.bankA

/-- Table 23-5: the version of a part of the running firmware. -/
def State.version (s : State) (i : Nat) : Nat := ((s.runningBank.map (fun b => (b.versions[i]?).getD 0))).getD 0

/-- Table 19-5, entries 0 to 5, which the ROM signer writes from the measurement registers. -/
def State.romEntries (s : State) : List TcbInfo :=
  (List.range 6).map (fun i =>
    { index := i, fwids := beBytes 48 ((s.sec.regs.toList[i]?).getD 0).toNat, vendorInfo := if i < 3 then leBytes 4 (s.version i) else [] })

/-- Table 13-6: the value of a slot state. -/
def SlotState.code : SlotState → Nat
  | .empty => 0 | .loading => 1 | .ready => 2 | .armed => 3 | .running => 4 | .retiring => 5

/-- Table 19-5, entries 8 and 9. -/
def ImageSlot.entry (x : ImageSlot) (n : Nat) : TcbInfo :=
  { index := 8 + n
    fwids := if 2 ≤ x.state.code then beBytes 48 ((x.image.map (·.measurement)).getD 0) else []
    vendorInfo := leBytes 1 x.state.code ++ leBytes 1 0 ++ leBytes 2 x.epoch }

/-- Table 19-5, entry 10: key_gen and valid of the current and the previous slot. -/
def Partition.keySlots (p : Partition) : Bytes :=
  let one := fun (k : Option KeySlot) => match k with
    | none => leBytes 2 0
    | some x => leBytes 2 (x.gen + 256)
  one p.keyCur ++ one p.keyPrev

/-- Part codes (Table 17-23). -/
def partCode : PartCode → Nat
  | .ikf4880_12 => 1
  | .ikf4880_10 => 2
  | .ikf4840_12 => 3

/-- Table 19-5, entries 6 to 10, which the firmware gives. -/
def State.partEntries (s : State) (p : Nat) : List TcbInfo :=
  let x := s.partOf p
  let flags := b2n x.sealed + 2 * b2n s.sec.debug + 4 * b2n s.is4840
  [ { index := 6, fwids := []
      vendorInfo := leBytes 2 (partCode s.part) ++ leBytes 1 p ++ leBytes 1 flags ++ leBytes 2 x.quarters0 ++ leBytes 2 x.quarters1 ++
        zeroBytes 8 ++ x.nonce.getD (zeroBytes 16) }
  , { index := 7, fwids := [], vendorInfo := (x.pwk.map publicKey).getD [] }
  , x.slot0.entry 0, x.slot1.entry 1
  , { index := 10, fwids := [], vendorInfo := x.keySlots } ]

/-- An entry as part of what is signed. -/
def TcbInfo.bytes (x : TcbInfo) : Bytes := leBytes 1 x.index ++ x.fwids ++ x.vendorInfo

/-- Table 19-4: the fields of a leaf, in the table's order; `dik` is the DIK certificate, whose subject is the issuer. -/
def Leaf.fields (x : Leaf) (dik : Bytes) : List Bytes :=
  [ beBytes 16 x.serialNumber, label "ecdsa-with-SHA384", dik, leBytes 8 x.notBefore, label "99991231235959Z"
  , label "IKF partition" ++ (x.partition.map (leBytes 1)).getD [], beBytes 8 x.subjectSerial, x.publicKey
  , label "digitalSignature", label "cA FALSE" ] ++ x.entries.map TcbInfo.bytes

/-- Table 19-4: the issue time in seconds of UTC since 1970, from NT with the last utc_offset; 2000-01-01 while the time base is
UNSET. -/
def State.issueTime (s : State) : Nat :=
  if s.time.state = .unset then 946684800
  else s.time.originInForce + s.nt / sec1 - (s.time.todLast.map (·.utcOffset)).getD 0

/-- R702: the ROM signer signs a leaf for a public key with the DIK. -/
def State.signLeaf (s : State) (p : Option Nat) (pub : Bytes) (rest : List TcbInfo) : Leaf × State :=
  let n := s.sec.leafCount + 1
  let x : Leaf :=
    { serialNumber := s.boot.serial * 18446744073709551616 + n, notBefore := s.issueTime, partition := p, subjectSerial := s.boot.serial
      publicKey := pub, entries := s.romEntries ++ rest, signature := [] }
  let r := s.sign (s.sec.dik.getD 0) (Config.derCertificate (x.fields s.boot.dikCert))
  ({ x with signature := r.1 }, { r.2 with sec := { r.2.sec with leafCount := n } })

/-- R703: the device issues a new leaf for a configured partition. -/
def State.issueLeaf (s : State) (p : Nat) : State :=
  if (s.partOf p).state = .unconfigured then s
  else
    let r := s.signLeaf (some p) (((s.partOf p).pak.map publicKey).getD []) (s.partEntries p)
    (r.2.modPart p (fun x => { x with leaf := some r.1 })).bump Ctr.hallLeavesIssued

/-- R701, R730: the chain that ends in a leaf. -/
def State.chainOf (s : State) (leaf : Leaf) : CertChain :=
  { root := s.boot.rootCert, deviceCa := s.boot.deviceCert, dik := s.boot.dikCert, leaf := leaf }

end Sys2Proof.Machine
end

