-- ==== Sys2Proof/Machine/Params.lean ====
section
/-!
DEFINITION. Machine/Params.lean: where the fields of a command stand in its parameters (Tables 16-5, 17-5, 17-9 to 17-22; R643, R648).
-/
namespace Sys2Proof.Machine

/-! ### Scopes of settings (Table 17-6) -/

/-- The scopes of Table 17-6. -/
inductive SetScope where
  | device | partition | lane | port | queue | bank | reportQueue | time
  deriving DecidableEq, Repr

/-- Table 17-6: the scope of a setting; none when the identifier is reserved. -/
def settingScope (id : Nat) : Option SetScope :=
  if 0x0001 ≤ id ∧ id ≤ 0x0009 then some .device
  else if 0x1001 ≤ id ∧ id ≤ 0x1012 then some .partition
  else if 0x2001 ≤ id ∧ id ≤ 0x2007 then some .lane
  else if 0x3001 ≤ id ∧ id ≤ 0x3006 then some .port
  else if 0x4001 ≤ id ∧ id ≤ 0x400C then some .queue
  else if 0x5001 ≤ id ∧ id ≤ 0x5008 then some .bank
  else if 0x6001 ≤ id ∧ id ≤ 0x6003 then some .reportQueue
  else if 0x7001 ≤ id ∧ id ≤ 0x7008 then some .time
  else none

/-- A setting is one of a partition's or of its report queues. -/
def SetScope.ofPart : SetScope → Bool
  | .partition | .reportQueue => true
  | _ => false

/-! ### Fields -/

/-- A field of the parameters: the number of its lowest bit, its width, and the value that the command's row gives it; an address that
only the host reads or writes has none. -/
abbrev Field := Nat × Nat × Option Nat

/-- A field of `w` bits from bit `lo` of byte `off` on. -/
def fieldAt (off lo w v : Nat) : Field := (8 * off + lo, w, some v)

/-- An address of 64 bits at byte `off`. -/
def addressAt (off : Nat) : Field := (8 * off, 64, none)

/-- R648: reply_addr and reply_length. -/
def replyFields (c : CmdIn) : List Field := [fieldAt 0 0 64 c.replyAddr, fieldAt 8 0 32 c.replyLen]

/-- Table 17-11. -/
def ConfigParams.fieldList (x : ConfigParams) : List Field :=
  [ fieldAt 0x00 0 12 x.quarters0, fieldAt 0x02 0 12 x.quarters1, fieldAt 0x04 0 5 x.blockUnits, fieldAt 0x05 0 5 x.shareLog2
  , fieldAt 0x06 0 10 x.ringQuota, fieldAt 0x08 0 32 x.shareBase0, fieldAt 0x0C 0 32 x.shareBase1, fieldAt 0x10 0 16 x.overflowQuota0
  , fieldAt 0x12 0 16 x.overflowQuota1, fieldAt 0x14 0 16 x.coalQuota0, fieldAt 0x16 0 16 x.coalQuota1, fieldAt 0x18 0 8 x.regionBase0
  , fieldAt 0x19 0 8 x.regionBase1, fieldAt 0x1A 0 8 x.regionGib, fieldAt 0x1B 0 4 x.bindFn, fieldAt 0x1C 0 16 x.stairQuota
  , fieldAt 0x20 0 32 x.larderOff, fieldAt 0x24 0 32 x.shadowOff, fieldAt 0x28 0 32 x.windowsOff, fieldAt 0x2C 0 32 x.windowsUnits
  , fieldAt 0x30 0 32 x.imageOff, fieldAt 0x34 0 32 x.imageUnits ]

/-- Table 17-5, from byte `off` on. -/
def settingFields (off setting inst element : Nat) : List Field :=
  [fieldAt off 0 16 setting, fieldAt (off + 2) 0 16 inst, fieldAt (off + 4) 0 8 element]

/-- Table 17-16: wing, owner and bucket, from byte `off` on. -/
def lockFields (off wing owner bucket : Nat) : List Field :=
  [fieldAt off 0 1 wing, fieldAt (off + 1) 0 8 owner, fieldAt (off + 4) 0 32 bucket]

/-- R643, R648: the fields of a command row; a row that is no command of chapter 17 has none. -/
def paramFields : Instr → List Field
  | .sessionOpen c hostWord => replyFields c ++ [fieldAt 0x10 0 128 hostWord]
  | .ringCreate _ localIx kind log2 vector coalCount coalTime drainSource sqBase cqBase =>
    [ fieldAt 0x00 0 12 localIx, fieldAt 0x02 0 1 (b2n (kind == .drain)), fieldAt 0x03 0 5 log2, fieldAt 0x04 0 11 vector
    , fieldAt 0x06 0 8 coalCount, fieldAt 0x08 0 10 coalTime, fieldAt 0x0C 0 32 drainSource, fieldAt 0x10 0 64 sqBase
    , fieldAt 0x18 0 64 cqBase ]
  | .ringDestroy _ localIx | .ringReset _ localIx => [fieldAt 0x00 0 12 localIx]
  | .partitionConfigure _ p | .contextConfigure _ p => p.fieldList
  | .settingWrite _ setting inst element value | .timeConfig _ setting inst element value =>
    settingFields 0 setting inst element ++ [fieldAt 0x10 0 128 value]
  | .settingRead c setting inst element => replyFields c ++ settingFields 0x10 setting inst element
  | .ruleWrite _ bank index rule =>
    [ fieldAt 0x00 0 1 bank, fieldAt 0x02 0 12 index, fieldAt 0x08 0 64 rule.result.toNat, fieldAt 0x10 0 1024 rule.value.toNat
    , fieldAt 0x90 0 1024 rule.mask.toNat ]
  | .ruleRead c bank index => replyFields c ++ [fieldAt 0x10 0 1 bank, fieldAt 0x12 0 12 index]
  | .ruleBankArm _ switchNt => [fieldAt 0x00 0 64 switchNt]
  | .imageLoad _ slot imageBytes _ => [fieldAt 0x00 0 1 slot, addressAt 0x08, fieldAt 0x10 0 64 imageBytes]
  | .imageDiscard _ slot => [fieldAt 0x00 0 1 slot]
  | .epochArm _ slot resident epoch switchNt =>
    [fieldAt 0x00 0 1 slot, fieldAt 0x00 1 1 (b2n resident), fieldAt 0x02 0 16 epoch, fieldAt 0x08 0 64 switchNt]
  | .rolloutStart _ handle => [fieldAt 0x00 0 32 handle]
  | .tableLock _ wing owner bucket => lockFields 0 wing owner bucket
  | .tableWrite _ wing owner bucket _ _ => lockFields 0 wing owner bucket ++ [addressAt 0x08]
  | .tableUnlock _ wing owner bucket discard => lockFields 0 wing owner bucket ++ [fieldAt 0x08 0 1 (b2n discard)]
  | .tableRead c wing owner bucket count staged =>
    replyFields c ++ lockFields 0x10 wing owner bucket ++ [fieldAt 0x18 0 13 count, fieldAt 0x18 13 1 (b2n staged)]
  | .tableOverflowRead c wing first count => replyFields c ++ [fieldAt 0x10 0 1 wing, fieldAt 0x14 0 16 first, fieldAt 0x18 0 17 count]
  | .tableOverflowDelete _ handle entryGen => [fieldAt 0x00 0 32 handle, fieldAt 0x04 0 8 entryGen]
  | .tableHash c key => replyFields c ++ [fieldAt 0x10 0 384 (leNat key)]
  | .tableShadowWrite _ wing overflow first count _ _ =>
    [fieldAt 0x00 0 1 wing, fieldAt 0x00 1 1 (b2n overflow), fieldAt 0x04 0 32 first, fieldAt 0x08 0 32 count, addressAt 0x10]
  | .tableCompare _ wing overflow skip queue priority first last id =>
    [ fieldAt 0x00 0 1 wing, fieldAt 0x00 1 1 (b2n overflow), fieldAt 0x00 2 1 (b2n skip), fieldAt 0x00 3 2 queue, fieldAt 0x00 5 3 priority
    , fieldAt 0x04 0 32 first, fieldAt 0x08 0 32 last, fieldAt 0x0C 0 32 id ]
  | .reportRead c queue timeout _ _ => replyFields c ++ [fieldAt 0x10 0 2 queue, fieldAt 0x14 0 32 timeout]
  | .reportReadCompat c queue _ => replyFields c ++ [fieldAt 0x10 0 2 queue]
  | .exportQueueStats c queue reset => replyFields c ++ [fieldAt 0x10 0 12 queue, fieldAt 0x10 12 1 (b2n reset)]
  | .gateListSet _ port entries base =>
    [fieldAt 0x00 0 6 port, fieldAt 0x02 0 9 entries.length, fieldAt 0x08 0 64 base, addressAt 0x10]
  | .gateListCancel _ port => [fieldAt 0x00 0 6 port]
  | .counterRead c firstId count => replyFields c ++ [fieldAt 0x10 0 32 firstId, fieldAt 0x14 0 17 count]
  | .snapshot _ toHost atNt hostAddr length =>
    [fieldAt 0x00 0 1 (b2n toHost), fieldAt 0x08 0 64 atNt, fieldAt 0x10 0 64 hostAddr, fieldAt 0x18 0 32 length]
  | .traceConfig _ buffer enable triggerMask postRecords stallThreshold =>
    [ fieldAt 0x00 0 32 buffer, fieldAt 0x04 0 1 (b2n enable), fieldAt 0x08 0 32 triggerMask, fieldAt 0x0C 0 16 postRecords
    , fieldAt 0x10 0 32 stallThreshold ]
  | .traceRelease _ buffer => [fieldAt 0x00 0 32 buffer]
  | .mantelRead c die section_ offset => replyFields c ++ [fieldAt 0x10 0 2 die, fieldAt 0x11 0 8 section_, fieldAt 0x14 0 32 offset]
  | .stickyClear _ mask => [fieldAt 0x00 0 256 mask]
  | .keyLoad _ keyGen wrappedBytes _ => [fieldAt 0x00 0 8 keyGen, addressAt 0x08, fieldAt 0x10 0 32 wrappedBytes]
  | .updateBegin _ totalBytes => [fieldAt 0x00 0 64 totalBytes]
  | .updateData _ offset length _ => [fieldAt 0x00 0 64 offset, addressAt 0x08, fieldAt 0x10 0 32 length]
  | .updateActivate _ resetNow => [fieldAt 0x00 0 1 (b2n resetNow)]
  | .pairSetup _ standby => [fieldAt 0x00 0 1 (b2n standby)]
  | .dumpTake _ scope hostAddr length _ => [fieldAt 0x00 0 8 scope, fieldAt 0x08 0 64 hostAddr, fieldAt 0x10 0 64 length]
  | .partitionQuery c | .ruleBankQuery c | .imageQuery c | .timeStatus c | .deviceIdentity c | .healthStatus c _ | .stickyRead c
  | .keyQuery c | .updateStatus c | .pairStatus c | .dumpStatus c | .waitforRead c => replyFields c
  | _ => []

/-- The parameters spell the values of the fields. -/
def spellsFields (n : Nat) (fs : List Field) : Bool := fs.all (fun f => f.2.2.all (fun v => bitsOf n f.1 f.2.1 == v))

/-- What the parameters hold outside their fields. -/
def outsideFields (n : Nat) (fs : List Field) : Nat := fs.foldl (fun m f => m - bitsOf n f.1 f.2.1 * 2 ^ f.1) n

/-- R651: the byte of the lowest bit of a reserved field that is not 0. -/
def reservedAt (bs : Bytes) (fs : List Field) : Option Nat :=
  let rest := leBytes bs.length (outsideFields (leNat bs) fs)
  (List.range bs.length).find? (fun k => (rest[k]?).getD 0 != 0)

end Sys2Proof.Machine
end

