-- ==== Sys2Proof/Machine/Commands.lean ====
section
/-!
DEFINITION. Machine/Commands.lean: the order of checks of a command (R651, Table 17-4), its completion (R612, R624,
R648 to R652), and the frame in which every command row runs.
-/
namespace Sys2Proof.Machine

/-! ### Status codes (Table 17-3) -/

def stOk : Nat := 0
def stBusy : Nat := 1
def stBadParam : Nat := 2
def stNoFeature : Nat := 3
def stDenied : Nat := 4
def stScrubbing : Nat := 5
def stTimeout : Nat := 6
def stConflict : Nat := 7
def stNotFound : Nat := 8
def stIntegrity : Nat := 9

/-- A status with no detail. -/
def fail (st : Nat) : Status := { status := st }

/-- ST_BAD_PARAM naming a byte offset of the packet (R650, R651). -/
def badParam (off : Nat) : Status := { status := stBadParam, detail := off }

/-- ST_OK with reply data. -/
def okReply (b : Bytes) : Status := { status := stOk, reply := b }

/-- ST_OK. -/
def okStatus : Status := { status := stOk }

/-! ### The command tables -/

/-- R644: scope of a command. -/
inductive Scope where
  | device | partition | either
  deriving DecidableEq, Repr

/-- What the class tables give an opcode: scope, PF only, parameter bytes (log entry 19), needed features (R640). -/
structure OpInfo where
  scope : Scope
  pf : Bool
  size : Nat
  feats : List Nat
  deriving DecidableEq, Repr

/-- Tables 17-8 to 17-22. -/
def opInfo (op : Nat) : Option OpInfo :=
  match op with
  | 0x0101 => some ⟨.device, false, 0x20, [0]⟩
  | 0x0102 => some ⟨.device, false, 0, [0]⟩
  | 0x0103 => some ⟨.device, false, 0x20, [0]⟩
  | 0x0104 => some ⟨.device, false, 4, [0]⟩
  | 0x0105 => some ⟨.device, false, 4, [0]⟩
  | 0x0201 => some ⟨.partition, true, 0x38, [0, 1]⟩
  | 0x0202 => some ⟨.partition, true, 0x38, [0, 2]⟩
  | 0x0203 => some ⟨.partition, true, 0, [0]⟩
  | 0x0204 => some ⟨.partition, false, 0x10, [0]⟩
  | 0x0205 => some ⟨.either, false, 0x20, [0]⟩
  | 0x0206 => some ⟨.either, false, 0x20, [0]⟩
  | 0x0207 => some ⟨.device, true, 0x110, [0]⟩
  | 0x0208 => some ⟨.device, true, 0x14, [0]⟩
  | 0x0209 => some ⟨.device, true, 8, [0]⟩
  | 0x020A => some ⟨.device, true, 0x10, [0]⟩
  | 0x0301 => some ⟨.partition, false, 0x18, [0]⟩
  | 0x0302 => some ⟨.partition, false, 8, [0]⟩
  | 0x0303 => some ⟨.partition, false, 0x10, [0]⟩
  | 0x0304 => some ⟨.partition, false, 0x10, [0]⟩
  | 0x0305 => some ⟨.partition, false, 0, [0]⟩
  | 0x0306 => some ⟨.partition, false, 8, [0, 5]⟩
  | 0x0401 => some ⟨.partition, false, 8, [3]⟩
  | 0x0402 => some ⟨.partition, false, 0x20, [3]⟩
  | 0x0403 => some ⟨.partition, false, 0x10, [3]⟩
  | 0x0404 => some ⟨.partition, false, 0x10, [3]⟩
  | 0x0405 => some ⟨.partition, false, 0x1C, [3]⟩
  | 0x0406 => some ⟨.partition, false, 8, [3]⟩
  | 0x0407 => some ⟨.partition, false, 0x40, [3]⟩
  | 0x0408 => some ⟨.partition, false, 0x18, [3]⟩
  | 0x0409 => some ⟨.partition, false, 0x10, [3]⟩
  | 0x0501 => some ⟨.partition, false, 0x18, [0]⟩
  | 0x0502 => some ⟨.partition, false, 0x14, [0, 12]⟩
  | 0x0503 => some ⟨.device, false, 0x14, [4]⟩
  | 0x0504 => some ⟨.device, true, 0x18, [4]⟩
  | 0x0505 => some ⟨.device, true, 4, [4]⟩
  | 0x0601 => some ⟨.device, true, 0x20, [0]⟩
  | 0x0602 => some ⟨.device, false, 0x10, [0]⟩
  | 0x0701 => some ⟨.either, false, 0x18, [0]⟩
  | 0x0702 => some ⟨.device, false, 0x1C, [0]⟩
  | 0x0703 => some ⟨.either, false, 0x14, [0]⟩
  | 0x0704 => some ⟨.either, false, 4, [0]⟩
  | 0x0801 => some ⟨.device, false, 0x10, [0]⟩
  | 0x0802 => some ⟨.device, false, 0x10, [0]⟩
  | 0x0803 => some ⟨.device, true, 0x18, [0]⟩
  | 0x0804 => some ⟨.device, false, 0x10, [0]⟩
  | 0x0805 => some ⟨.device, true, 0x20, [0]⟩
  | 0x0901 => some ⟨.partition, false, 0x14, [8]⟩
  | 0x0902 => some ⟨.partition, false, 0x10, [8]⟩
  | 0x0A01 => some ⟨.device, true, 8, [10]⟩
  | 0x0A02 => some ⟨.device, true, 0x14, [10]⟩
  | 0x0A03 => some ⟨.device, true, 0, [10]⟩
  | 0x0A04 => some ⟨.device, true, 0, [10]⟩
  | 0x0A05 => some ⟨.device, false, 0x10, [10]⟩
  | 0x0A06 => some ⟨.device, true, 4, [10]⟩
  | 0x0A07 => some ⟨.device, true, 0, [10]⟩
  | 0x0A08 => some ⟨.device, true, 0, [10]⟩
  | 0x0B01 => some ⟨.device, true, 4, [9]⟩
  | 0x0B02 => some ⟨.device, true, 0, [9]⟩
  | 0x0B03 => some ⟨.device, false, 0x10, [9]⟩
  | 0x0B04 => some ⟨.device, true, 0, [9]⟩
  | 0x0B05 => some ⟨.device, true, 0, [9]⟩
  | 0x0F01 => some ⟨.device, true, 0x18, [11]⟩
  | 0x0F02 => some ⟨.device, false, 0x10, [11]⟩
  | 0x0F03 => some ⟨.device, false, 0x10, [11]⟩
  | _ => none

/-- Class of an opcode (R643). -/
def opClass (op : Nat) : Nat := op / 256

/-- R637, R857, Table 16-9: the features offered to a function, or to a management session (9 and above). -/
def State.offer (s : State) (fn : Nat) : List Nat :=
  if s.boot.recovery then [0, 10]
  else
    let base := if s.is4840 then [0, 2, 3, 4, 5] else [0, 1, 3, 4, 5]
    let win := if fn < 9 then [6, 7] else []
    let adm := if fn = 0 ∨ 9 ≤ fn then (if s.is4840 then [10, 11] else [9, 10, 11]) else []
    base ++ win ++ [8] ++ adm ++ [12]

/-- The offer as a feature word. -/
def featWord (fs : List Nat) : Nat := fs.foldl (fun n b => n + 2 ^ b) 0

/-- R636, R857: the session's enabled features, none without a session. -/
def State.enabledOf (s : State) (fn : Nat) : Option Nat :=
  if fn < 9 then
    let f := s.func fn
    if f.session then some f.enabled else none
  else
    match mfind s.boot.assocs (fn - 9) with
    | none => none
    | some a => if a.session then some a.enabled else none

/-! ### Where commands run -/

/-- The command a ring or a management association holds. -/
def State.cmdAt (s : State) (r : Nat) : Option Cmd :=
  if r < 4096 then (mfind s.host.rings r).bind (·.running)
  else (mfind s.boot.assocs (r - 4096)).bind (·.running)

/-- Changes a ring that exists. -/
def State.modRing (s : State) (r : Nat) (f : Ring → Ring) : State :=
  match mfind s.host.rings r with
  | none => s
  | some x => { s with host := { s.host with rings := mput s.host.rings r (f x) } }

/-- Changes a management association that exists. -/
def State.modAssoc (s : State) (n : Nat) (f : Assoc → Assoc) : State :=
  match mfind s.boot.assocs n with
  | none => s
  | some x => { s with boot := { s.boot with assocs := mput s.boot.assocs n (f x) } }

/-- Sets the command that a ring or association holds. -/
def State.setCmd (s : State) (r : Nat) (c : Option Cmd) : State :=
  if r < 4096 then s.modRing r (fun x => { x with running := c })
  else s.modAssoc (r - 4096) (fun x => { x with running := c })

/-- R624: the ring's vector is sent and its pending entries are covered. -/
def State.sendRingVector (s : State) (r : Nat) (x : Ring) : State :=
  (s.modRing r (fun y => { y with pendCount := 0 })).sendVector x.fn x.vector

/-- R612, R613: the completion entry takes the next CQ slot; the phase inverts at each wrap. -/
def Ring.afterEntry (x : Ring) (nt : Nat) : Ring :=
  let n := 2 ^ x.log2
  let t := (x.cqTail + 1) % n
  { x with
    cqTail := t
    phase := if t = 0 then !x.phase else x.phase
    pendCount := x.pendCount + 1
    firstPendNt := if x.pendCount = 0 then nt else x.firstPendNt }

/-! ### What the device writes to host memory (R609, R612, R629 to R632, R634, R635, R717) -/

/-- R717: a DMA of a function; that of a VF in RUN is on the VF's stream with the T bit set. -/
def State.dma (s : State) (fn : Nat) (o : Output) : State := s.emit (if (s.func fn).tdisp = .run then .tee fn o else o)

/-- Tables 16-7 and 17-2: the 32 bytes of a completion entry. -/
def Completion.bytes (x : Completion) : Bytes :=
  leBytes 2 x.status ++ leBytes 2 x.opcode ++ leBytes 4 x.detail ++ leBytes 4 x.replyBytes ++ leBytes 4 x.info ++
    leBytes 4 x.seqTag ++ leBytes 2 x.sqHead ++ leBytes 2 (x.ring % 512 + 32768 * b2n x.phase) ++ leBytes 8 x.nt

/-- Table 21-8: the 32 bytes of a trace record. -/
def TraceRec.bytes (x : TraceRec) : Bytes :=
  leBytes 1 x.kind ++ leBytes 1 x.engine ++ leBytes 1 (x.context % 16 + 16 * b2n x.late) ++ leBytes 1 x.reason ++
    leBytes 3 (x.layer % 4096 + 4096 * x.op) ++ leBytes 1 0 ++ leBytes 8 x.nt ++ leBytes 8 x.arg0 ++ leBytes 8 x.arg1

/-- R613, R781: the 64 bytes of a DRAIN entry. -/
def drainBytes (rec : TraceRec) (phase : Bool) : Bytes := rec.bytes ++ zeroBytes 31 ++ leBytes 1 (128 * b2n phase)

/-- Table 16-8: the header of an envelope that the device seals. -/
def envelopeHeader (kind ring length sequence bind nonce : Nat) : Bytes :=
  leBytes 1 1 ++ leBytes 1 kind ++ leBytes 2 (ring % 512) ++ leBytes 4 length ++ leBytes 8 sequence ++ leBytes 4 bind ++ leBytes 12 nonce

/-- R629: an envelope: the header, the ciphertext under a key and the header's nonce, and the tag, with the header as the additional
authenticated data. -/
def sealEnvelope (key header plain : Bytes) : Bytes := header ++ gcmSeal key (slice header 0x14 12) header plain

/-- R627, R630: the device seals an envelope with the response key and the next nonce of its counter. -/
def State.sealed (s : State) (fn kind ring sequence bind : Nat) (plain : Bytes) : Bytes × State :=
  let f := s.func fn
  (sealEnvelope (f.rspKey.getD []) (envelopeHeader kind ring plain.length sequence bind f.nonceCtr) plain,
   s.setFunc fn { f with nonceCtr := f.nonceCtr + 1 })

/-- R632: where chunk `k` of a transfer at an address starts: each at the next 64-byte boundary after the 4,144 bytes of the one
before. -/
def chunkAddr (addr : Nat) : Nat → Nat
  | 0 => addr
  | k + 1 => (addr + 4144 + 63) / 64 * 64 + 4160 * k

/-- R632: DATA_OUT envelopes of 4,096 bytes each, the last of what is left. -/
def State.sealData (s : State) (fn ring addr : Nat) (data : Bytes) : State :=
  (List.range ((data.length + 4095) / 4096)).foldl (fun (s : State) k =>
    let e := s.sealed fn 4 ring (4096 * k) (mget 0 (s.func fn).ownSeq ring % 4294967296) ((data.drop (4096 * k)).take 4096)
    e.2.dma fn (.envelope fn (chunkAddr addr k) e.1)) s

/-- R635: data of a command of local ring `ring` go to host memory: as they are, or in envelopes in bounce-buffer mode. -/
def State.hostOut (s : State) (fn ring addr : Nat) (data : Bytes) : State :=
  if (s.func fn).bounce then s.sealData fn ring addr data else s.dma fn (.hostWrite fn addr data)

/-- R634: the device writes an envelope into a ring slot in VF BAR2. -/
def State.slotOut (s : State) (fn addr kind ring sequence : Nat) (plain : Bytes) : State :=
  let e := s.sealed fn kind ring sequence 0 plain
  let s := e.2.setFunc fn { e.2.func fn with bar2 := memWrite (e.2.func fn).bar2 addr e.1 }
  s.emit (.envelope fn addr e.1)

/-- R609, R634: where a slot of a completion ring lies: its entries of `size` bytes in host memory, or the 128-byte slots that the
ring has in VF BAR2. -/
def State.slotAddr (s : State) (x : Ring) (size : Nat) : Nat :=
  x.cqBase + (if (s.func x.fn).bounce then 128 else size) * x.cqTail

/-- R612, R631: a completion entry leaves, in a COMPLETION envelope of its command's sequence in bounce-buffer mode. -/
def State.sendCompletion (s : State) (x : Ring) (e : Completion) : State :=
  let addr := s.slotAddr x 32
  if (s.func x.fn).bounce then s.slotOut x.fn addr 2 x.localIx (mget 0 (s.func x.fn).ownSeq x.localIx) e.bytes
  else s.dma x.fn (.completion x.fn addr e)

/-- The local index of the ring that a command runs on. -/
def State.localOf (s : State) (r : Nat) : Nat := ((mfind s.host.rings r).map (·.localIx)).getD 0

/-- R648: where a command's reply goes. -/
def Cmd.replyAddr (c : Cmd) : Nat :=
  match c.replyAt, c.params with
  | some a, _ => a
  | none, some b => leAt b 0 8
  | none, none => c.hdr.word20

/-! ### Order within a Hall cycle (R653) -/

/-- R653: the place of a ring in the order of steps: its global number; associations come behind the rings, in order of session
opening. -/
def State.rank (s : State) (r : Nat) : Nat :=
  if r < 4096 then r else 4096 + ((mfind s.boot.assocs (r - 4096)).map (·.opened)).getD 0

/-- R653: a command that names the same object has taken its step in this Hall cycle though it comes behind this one. -/
def State.outOfTurn (s : State) (r : Nat) (c : Cmd) : Bool :=
  s.host.stepsNt == s.nt && s.host.steps.any (fun x => x.2 == c.hdr.partition && decide (s.rank r < x.1))

/-- R653: a command takes its step in this Hall cycle. -/
def State.noteStep (s : State) (r : Nat) (c : Cmd) : State :=
  let old := if s.host.stepsNt = s.nt then s.host.steps else []
  { s with host := { s.host with steps := (s.rank r, c.hdr.partition) :: old, stepsNt := s.nt } }

/-- R612, R623, R624, R648: a command on a ring or association completes. -/
def State.complete (s : State) (r : Nat) (st : Status) : State :=
  match s.cmdAt r with
  | none => s
  | some c =>
    let s := if c.started then s else s.noteStep r c
    if r < 4096 then
      match mfind s.host.rings r with
      | none => s
      | some x =>
        let s := if st.reply.isEmpty then s else s.hostOut x.fn x.localIx c.replyAddr st.reply
        let s := s.sendCompletion x
          { opcode := c.hdr.opcode, status := st.status, detail := st.detail, info := st.info, replyBytes := st.reply.length
            seqTag := c.hdr.seqTag, sqHead := x.sqHead, ring := x.localIx, phase := x.phase, nt := s.nt }
        let s := s.modRing r (fun y => { y.afterEntry s.nt with running := none })
        let s := s.bump (Ctr.funcCommands x.fn)
        if x.coalCount ≤ x.pendCount + 1 then s.sendRingVector r x else s
    else
      let s := s.emit (.mgmtReply (r - 4096) c.hdr.opcode st.status st.detail st.info st.reply)
      s.modAssoc (r - 4096) (fun a => { a with running := none, keptReply := some (st, c.hdr.opcode) })

/-- R592: the command ends without a completion entry. -/
def State.dropCmd (s : State) (r : Nat) : State := s.setCmd r none

/-! ### Checks (Table 17-4) -/

/-- R644: the header names a partition where the setting's scope has none, or names none where it has one. -/
def settingMisnamed (id : Nat) (cmd : Cmd) : Bool :=
  match settingScope id with
  | none => false
  | some sc => sc.ofPart == (cmd.hdr.partition == 255)

/-- R644: SETTING_WRITE or SETTING_READ of a setting of the other scope. -/
def Cmd.misnamed (c : Cmd) : Bool :=
  match c.params, c.hdr.opcode with
  | some b, 0x0205 => settingMisnamed (leAt b 0 2) c
  | some b, 0x0206 => settingMisnamed (leAt b 0x10 2) c
  | _, _ => false

/-- Step 1. -/
def packetFault (s : State) (c : Cmd) : Option Nat :=
  let h := c.hdr
  match opInfo h.opcode with
  | none => some 0
  | some i =>
    let sizeOk :=
      if 9 ≤ c.fn ∧ (h.opcode = 0x0A02 ∨ h.opcode = 0x0504) then decide (i.size ≤ h.paramLength)
      else h.paramLength == i.size
    let partOk := match i.scope with
      | .device => h.partition == 255
      | .partition => decide (h.partition < s.partsN)
      | .either => h.partition == 255 || decide (h.partition < s.partsN)
    let offs := (if h.version = 1 then [] else [2]) ++ h.rsvAt.toList ++ (if partOk && !c.misnamed then [] else [8])
      ++ (if sizeOk then [] else [12])
    offs.min?

/-- R647: the command would start later than its start_deadline allows. -/
def Cmd.tooLate (c : Cmd) (nt : Nat) : Bool :=
  c.hdr.startDeadline != 0 && decide (c.fetchNt + c.hdr.startDeadline * us < nt)

/-- SESSION_OPEN, SESSION_CLOSE and DEVICE_IDENTITY (R636). -/
def sessionFree (op : Nat) : Bool := op == 0x0101 || op == 0x0102 || op == 0x0801

/-- R832: the commands of the recovery endpoint. -/
def recoveryCmd (op : Nat) : Bool :=
  sessionFree op || [0x0A01, 0x0A02, 0x0A03, 0x0A04, 0x0A05, 0x0A06].contains op

/-- R857, R858: what a management session is denied. -/
def mgmtDenied (s : State) (c : Cmd) : Bool :=
  if c.fn < 9 then false
  else
    let op := c.hdr.opcode
    let relay := ((mfind s.boot.assocs (c.fn - 9)).map (·.relay)).getD false
    let relayOk := sessionFree op || [0x0A01, 0x0A02, 0x0A03, 0x0A05].contains op
    (relay && !relayOk) ||
      [0x0103, 0x0104, 0x0105, 0x0301, 0x0403, 0x0408, 0x0901, 0x0F01].contains op

/-- Step 5: PF-only commands, and partitions of other functions. -/
def rightsFault (s : State) (c : Cmd) (i : OpInfo) : Bool :=
  let vf := decide (1 ≤ c.fn ∧ c.fn ≤ 8)
  (vf && i.pf) || (vf && c.hdr.partition != 255 && s.fnOf c.hdr.partition != c.fn) || mgmtDenied s c

/-- Steps 1 to 8 of Table 17-4: the first check that fails. -/
def headCheck (s : State) (c : Cmd) : Option Status :=
  let op := c.hdr.opcode
  let p := c.hdr.partition
  let cls := opClass op
  match packetFault s c, opInfo op with
  | some off, _ => some (badParam off)
  | none, none => some (badParam 0)
  | none, some i =>
    let en := s.enabledOf c.fn
    let vf := decide (1 ≤ c.fn ∧ c.fn ≤ 8)
    let named := decide (p < s.partsN)
    let stateOf := (s.partOf p).state
    if c.tooLate s.nt then some (fail stTimeout)
    else if en.isNone && !sessionFree op then some (fail stDenied)
    else if s.boot.recovery && !recoveryCmd op then some (fail stNoFeature)
    else if !sessionFree op && !(i.feats.all (fun b => bitOf (en.getD 0) b)) then some (fail stNoFeature)
    else if rightsFault s c i then some (fail stDenied)
    else if s.boot.devState != 4 && !([1, 8, 10, 15].contains cls) then some (fail stBusy)
    else if vf && (s.partsOf c.fn).isEmpty && cls != 1 && op != 0x0801 then some (fail stNotFound)
    else if named && [3, 4, 9].contains cls && stateOf == .unconfigured then some (fail stNotFound)
    else if named && [3, 4, 9].contains cls && stateOf == .scrubbing then some (fail stScrubbing)
    else none

/-- R646: a fenced command waits while an earlier command of its function has not completed. -/
def State.fenced (s : State) (c : Cmd) : Bool :=
  c.hdr.fence && s.host.rings.any (fun r =>
    match r.2.running with
    | none => false
    | some d => r.2.fn == c.fn && decide (d.order < c.order))

/-- R611, R632, R643: the parameters of a command that the device holds: those of its entry or record, or those that DATA_IN
envelopes brought. Those that stand at param_addr in host memory are as the row gives them. -/
def State.paramsOf (s : State) (ring : Nat) (c : Cmd) : Option Bytes :=
  match c.params with
  | some b => some b
  | none => if (s.func c.fn).bounce && decide (32 < c.hdr.paramLength) then some ((mget [] (s.func c.fn).dataIn (s.localOf ring)).take c.hdr.paramLength) else none

/-- R643: a row's parameters are those of the command that the ring holds. -/
def State.spelled (s : State) (i : Instr) (ring : Nat) (c : Cmd) : Bool :=
  (s.paramsOf ring c).all (fun b => spellsFields (leNat b) (paramFields i))

/-- R651: the byte of the lowest bit of a reserved parameter that is not 0; a management record carries the addresses of its data as 0
(R858). -/
def State.paramRest (s : State) (i : Instr) (ring : Nat) (c : Cmd) : Option Nat :=
  let fields := if 9 ≤ c.fn then (paramFields i).filter (fun f => f.2.2.isSome) else paramFields i
  (s.paramsOf ring c).bind (fun b => reservedAt b fields)

/-- Step 10: the lowest faulty offset among out-of-range fields and reserved bits (R651). -/
def paramFault (rsvAt rest : Option Nat) (bad : List (Bool × Nat)) : Option Nat :=
  (((bad.filter (·.1)).map (·.2)) ++ rsvAt.toList ++ rest.toList).min?

/-- R649, R652, R858: what the reply buffer makes of a status; a management reply has room for 16,368 bytes at most. -/
def replied (c : CmdIn) (s : State) (st : Status) (s' : State) : Status × State :=
  let room := if c.ring < 4096 then c.replyLen else min c.replyLen 16368
  if st.reply.isEmpty then (st, s')
  else if room < st.reply.length then ({ status := stBadParam, detail := st.reply.length }, s)
  else if c.replyFails then ({ st with status := stIntegrity, reply := [] }, s')
  else (st, s')

/-- R611, R632, R635: in bounce-buffer mode the command's parameters at param_addr and the `n` bytes of its buffer reach the device in
DATA_IN envelopes; some have not come yet. -/
def State.dataMissing (s : State) (ring : Nat) (c : Cmd) (n : Nat) : Bool :=
  let f := s.func c.fn
  let need := (if 32 < c.hdr.paramLength then c.hdr.paramLength else 0) + n
  f.bounce && decide ((mget [] f.dataIn (s.localOf ring)).length < need)

/-- R632, R635, R858: the bytes of the buffer that a command reads, where the device holds them: those that DATA_IN envelopes or the
management record brought. -/
def State.heldData (s : State) (ring : Nat) (c : Cmd) : Option Bytes :=
  let f := s.func c.fn
  if 9 ≤ c.fn then some c.inline
  else if f.bounce then some ((mget [] f.dataIn (s.localOf ring)).drop (if 32 < c.hdr.paramLength then c.hdr.paramLength else 0))
  else none

/-- R706, R727: a KEY_LOAD over the management network is rejected under R706 and counted. -/
def State.countKeyDenied (s : State) (c : Cmd) (st : Status) : State :=
  if c.hdr.opcode = 0x0901 ∧ st.status = stDenied ∧ 9 ≤ c.fn then s.bump (Ctr.partKeyRejected c.hdr.partition) else s

/-- R651: a command that fails a check of its header completes. -/
def State.rejectHead (s : State) (r : Nat) (c : Cmd) (st : Status) : State := (s.countKeyDenied c st).complete r st

/-- R651, R653: a command row runs the command that its ring holds. Its checks and effects form one step: the checks of
Table 17-4, the ranges of its parameters (offsets counted from the parameters' start), then its own conditions and
effects, which answer a status, or none when the command keeps running. `i` is the row itself: a row runs the command only when its
parameters are those that the device holds (R643), and `holds` says the same of the data of the buffer that the command reads. `pre` holds
the command's share of steps 5 to 8 where these depend on its parameters, `misnamed` says that the header's partition is not of the scope
that they give (R644), `data` how many bytes the command reads from its buffer, and `dmaOk` that their read met no error (step 9). In
bounce-buffer mode the command waits for the DATA_IN envelopes that carry what it reads (R635). -/
def runCmd (op : Nat) (i : Instr) (c : CmdIn) (bad : List (Bool × Nat)) (s : State)
    (body : Cmd → State → Option Status × State) (pre : Cmd → State → Option Status := fun _ _ => none)
    (misnamed : Cmd → State → Bool := fun _ _ => false) (data : Nat := 0) (holds : Bytes → Bool := fun _ => true) (dmaOk : Bool := true) :
    State :=
  match s.cmdAt c.ring with
  | none => s
  | some cmd =>
    if cmd.hdr.opcode != op || cmd.started || s.fenced cmd || !s.hallFree || s.outOfTurn c.ring cmd then s
    else
      match (if misnamed cmd s && decide (8 ≤ (packetFault s cmd).getD 8) then some (badParam 8) else headCheck s cmd) with
      | some st => s.rejectHead c.ring cmd st
      | none =>
        match pre cmd s with
        | some st => s.complete c.ring st
        | none =>
          if s.dataMissing c.ring cmd 0 || !s.spelled i c.ring cmd then s
          else if !c.readable || !dmaOk then s.complete c.ring (fail stIntegrity)
          else
            match paramFault c.rsvAt (s.paramRest i c.ring cmd) bad with
            | some off => s.complete c.ring (badParam (32 + off))
            | none =>
              if s.dataMissing c.ring cmd data || !(s.heldData c.ring cmd).all holds then s
              else
                match body cmd s with
                | (none, s') => (s'.noteStep c.ring cmd).setCmd c.ring (some { cmd with started := true })
                | (some st, s') =>
                  let r := replied c s st s'
                  r.2.complete c.ring r.1

/-- A command that answers at once: a status other than ST_OK changes no state (R652). -/
def runNow (op : Nat) (i : Instr) (c : CmdIn) (bad : List (Bool × Nat)) (s : State)
    (body : Cmd → State → Status × State) (pre : Cmd → State → Option Status := fun _ _ => none) (data : Nat := 0)
    (holds : Bytes → Bool := fun _ => true) (dmaOk : Bool := true) : State :=
  runCmd op i c bad s (fun cmd s =>
    let r := body cmd s
    (some r.1, if r.1.status = stOk then r.2 else s)) pre (data := data) (holds := holds) (dmaOk := dmaOk)

/-- A command that only reads. -/
def runRead (op : Nat) (i : Instr) (c : CmdIn) (bad : List (Bool × Nat)) (s : State) (body : Cmd → State → Status) : State :=
  runNow op i c bad s (fun cmd s => (body cmd s, s))

/-- R542: the lead of a named instant, 10 ms to 86,400 s. -/
def leadOk (nt t : Nat) : Bool := decide (nt + 10 * ms ≤ t) && decide (t ≤ nt + 86400 * sec1)

/-- R542: NT at a command's arrival, its fetch. -/
def State.arrival (s : State) (ring : Nat) : Nat := ((s.cmdAt ring).map (·.fetchNt)).getD s.nt

/-- R525, R535: a command that names an instant while the time base is UNSET or stopped. -/
def State.instantFault (s : State) : Option Nat :=
  if s.time.state == .unset then some stBusy else if s.time.stopped then some stConflict else none

end Sys2Proof.Machine
end

