-- ==== Sys2Proof/Machine/HostIf.lean ====
section
/-!
DEFINITION. Machine/HostIf.lean: the host interface (chapter 16): link and resets, registers and doorbells, fetching
commands, interrupts, sessions and rings.
-/
namespace Sys2Proof.Machine

/-! ### Link and configuration -/

/-- R589: a configuration request is answered with Retry Status until stage one has completed. -/
def execConfigurationRequest (s : State) : Host.Outcome State Fault Refusal :=
  .next (if s.dead || !s.host.perstN then s else s.emit (.configAnswer (!s.boot.stageOne)))

/-- R588, R642: the link trains; a narrower or slower link sets pcie-link-degraded. -/
def execPcieLinkTrained (width rate : Nat) (s : State) : Host.Outcome State Fault Refusal :=
  .next (s.whenFree (
    if !s.host.perstN then s
    else
      let s := if s.host.linkUp then s.bump Ctr.hallLinkRetrain else s
      let s := { s with host := { s.host with linkUp := true, width := width, rate := rate } }
      if width < 16 ∨ rate < 640 then s.setSticky 112 else s))

/-- R589: PERST_N rises; the readiness bound runs from this instant. -/
def execPerstNRelease (s : State) : Host.Outcome State Fault Refusal :=
  .next { s with host := { s.host with perstN := true, perstReleaseNt := s.nt } }

/-! ### Resets of host-facing state (R591 to R593) -/

/-- Entries of a ring that are handed over and not fetched. -/
def Ring.unfetched (x : Ring) : Nat := (x.sqTail + 2 ^ x.log2 - x.sqHead) % 2 ^ x.log2

/-- R592: what a reset discards on a ring: entries not fetched and a command not started. -/
def Ring.discarded (x : Ring) : Nat :=
  x.unfetched + (match x.running with | some c => if c.started then 0 else 1 | none => 0)

/-- R592, R677: a read that waits or has selected a record ends without consuming it. -/
def ReportQ.dropRead (q : ReportQ) (r : Nat) : ReportQ :=
  match q.reads with
  | [] => q
  | x :: _ =>
    let recs := if x.ring = r then q.recs.map (fun c => { c with selected := false }) else q.recs
    { q with recs := recs, reads := q.reads.filter (fun y => y.ring != r) }

/-- R592: a release keeps running without a completion. -/
def Partition.dropRing (p : Partition) (r : Nat) : Partition :=
  { p with scrub := p.scrub.map (fun x => if x.ring = some r then { x with ring := none } else x) }

/-- A load ends: the slot takes its next state, and the load no longer holds a previous key (R709). -/
def State.endLoad (s : State) (p n : Nat) (y : ImageSlot) : State :=
  s.modPart p (fun x => { x.setSlot n y with prevHolders := x.prevHolders.filter (· != n) })

/-- R592, R713: the plaintext that a load of a sealed image has written is erased. -/
def State.erasePlain (s : State) (p n : Nat) : State :=
  if headSealed ((s.partOf p).slot n).loadHead then s.eraseHalf p n else s

/-- R496, R703: a load that fails leaves its slot EMPTY, and a new leaf says so. -/
def State.emptySlot (s : State) (p n : Nat) : State := ((s.endLoad p n {}).bump (Ctr.partImageLoadFail p)).issueLeaf p

/-- R496, R592: the loads of ring `r` end. -/
def State.dropLoads (s : State) (r : Nat) : State :=
  (List.range s.partsN).foldl (fun (s : State) p =>
    [0, 1].foldl (fun (s : State) n => if ((s.partOf p).slot n).loadRing = some r then (s.erasePlain p n).emptySlot p n else s) s) s

/-- A ring number that no ring and no association has: it stands where the ring of a running command has been cut off. -/
def noRing : Nat := 65535

/-- R592, R744: an unlock that waits for its instant keeps running without a completion. -/
def Wing.dropRing (x : Wing) (r : Nat) : Wing :=
  { x with locks := x.locks.map (fun (e : Nat × Lock) =>
      if e.2.unlocking = some r then (e.1, { e.2 with unlocking := some noRing }) else e) }

/-- R592: the commands of one ring are cut off; a SNAPSHOT into the window needs no host memory and goes on. -/
def State.cutRing (s : State) (r : Nat) : State :=
  let s := s.dropLoads r
  { s with
    rqs := s.rqs.map (fun e => (e.1, e.2.dropRead r))
    parts := s.parts.map (fun e => (e.1, e.2.dropRing r))
    obs := { s.obs with snaps := s.obs.snaps.filterMap (fun (x : Snap) =>
      if x.ring = some r then (if x.toHost then none else some { x with ring := some noRing }) else some x) }
    wing0 := s.wing0.dropRing r
    wing1 := s.wing1.dropRing r
    pair := { s.pair with
      waitRings := s.pair.waitRings.filter (· != r)
      prepared := s.pair.prepared.map (fun x => if x.ring = r then { x with ring := noRing } else x) } }

/-- R592, R618: a ring goes, and its commands are cut off. -/
def State.removeRing (s : State) (r : Nat) : State :=
  { s.cutRing r with host := { (s.cutRing r).host with rings := mdel (s.cutRing r).host.rings r } }

/-- Rings of a function: global numbers. -/
def State.ringsOf (s : State) (fn : Nat) : List Nat := (s.host.rings.filter (fun e => e.2.fn == fn)).map (·.1)

/-- R592, R843: a queued staging transfer of the function that has not finished discards the staging. -/
def State.cutTransfers (s : State) (fn : Nat) : State :=
  match s.boot.staging with
  | none => s
  | some g =>
    if g.owner = fn ∧ g.transfers ≠ [] then
      { s with boot := { s.boot with staging := none, lastResult := 6 } }
    else s

/-- R592, R620, R631: COMMAND envelopes of a ring that have not been fetched are discarded with its entries. -/
def State.dropSlots (s : State) (fn localIx : Nat) : State :=
  let f := s.func fn
  if f.bounce then s.setFunc fn { f with ownSeq := mput f.ownSeq localIx (mget 0 f.cmdSeq localIx) } else s

/-- R628, R641: bounce-buffer mode ends: the keys go, the session closes, vector 0 is signalled. The rings hold no entry that can be
read any more (log entry 220). -/
def State.endBounce (s : State) (fn : Nat) : State :=
  let f := s.func fn
  if f.bounce then
    let s := s.setFunc fn { f with bounce := false, reqKey := none, rspKey := none, dataIn := [], session := false, enabled := 0,
                                   hostWord := 0 }
    let s := { s with host := { s.host with
      rings := s.host.rings.map (fun (e : Nat × Ring) => if e.2.fn = fn then (e.1, { e.2 with sqHead := e.2.sqTail }) else e) } }
    s.sendVector fn 0
  else s

/-- R591 to R593: a function's rings, session, vectors, IDE, TDISP and bounce-buffer state are reset. A snapshot on its way into the
window needs no host memory and goes on (R592). -/
def State.resetFn (s : State) (fn : Nat) : State :=
  let rs := s.ringsOf fn
  let lost := ((s.host.rings.filter (fun e => e.2.fn == fn)).map (fun e => e.2.discarded)).foldl (· + ·) 0
  let s := rs.foldl (fun s r => s.cutRing r) s
  let s := s.cutTransfers fn
  let s := (s.bumpN (Ctr.funcResetDiscarded fn) lost).endBounce fn
  let hidden := (s.func fn).hidden
  { s with host := { s.host with
      rings := s.host.rings.filter (fun e => e.2.fn != fn)
      vecs := s.host.vecs.filter (fun e => e.1 / 1024 != fn)
      funcs := if hidden.isEmpty then mdel s.host.funcs fn else mput s.host.funcs fn { hidden := hidden } } }

/-- R591: assertion of PERST_N resets the host-facing state of every function and the link. -/
def execPerstNAssert (s : State) : Host.Outcome State Fault Refusal :=
  .next (
    let s := (List.range 9).foldl (fun s f => s.resetFn f) s
    { s with host := { s.host with perstN := false, linkUp := false, width := 0, rate := 0, linkIde := none } })

/-- R616, R620: the ring enters ERROR. -/
def State.ringError (s : State) (r : Nat) (x : Ring) : State :=
  let s := s.modRing r (fun y => { y with error := true })
  let s := (s.setSticky 113).bump (Ctr.funcRingError x.fn)
  s.sendVector x.fn 0

/-- R622, R641: a session of a function ends, and vector 0 says so. -/
def State.closeSession (s : State) (fn : Nat) : State :=
  if fn < 9 then
    if (s.func fn).session then
      (s.setFunc fn { s.func fn with session := false, hostWord := 0, enabled := 0 }).sendVector fn 0
    else s
  else s.modAssoc (fn - 9) (fun a => { a with session := false, enabled := 0 })

/-- R718: a VF in CONFIG_LOCKED or RUN moves to ERROR: its rings are in ERROR under R620, its session ends. -/
def State.tdispFail (s : State) (fn : Nat) : State :=
  let f := s.func fn
  if f.tdisp == .locked || f.tdisp == .run then
    let s := (s.setFunc fn { f with tdisp := .error }).closeSession fn
    let s := (s.host.rings.filter (fun e => e.2.fn == fn && !e.2.error)).foldl (fun (s : State) e => s.ringError e.1 e.2) s
    (s.setSticky 122).bump (Ctr.funcTdispError fn)
  else s

/-- R717: a VF in RUN whose request lacks the T bit or arrives off its stream. -/
def State.untrusted (s : State) (fn : Nat) (tee : Bool) : Bool := (s.func fn).tdisp == .run && !tee

/-- R717: such a request completes as Unsupported Request and does nothing. -/
def State.trusted (s : State) (fn : Nat) (tee : Bool) (f : State → State) : State :=
  if s.untrusted fn tee then s.emit (.unsupportedRequest fn) else f s

/-- R594: what the SR-IOV capability reports. -/
def totalVfs : Nat := 8
def firstVfOffset : Nat := 1
def vfStride : Nat := 1

/-- R594: the function numbers of the routing IDs of VF 1 to VF 8. -/
def vfNumbers : List Nat := (List.range totalVfs).map (fun k => firstVfOffset + vfStride * k)

/-- R593, R718: a Function Level Reset of a VF, or of the PF with every VF. -/
def execFunctionLevelReset (fn : Nat) (s : State) : Host.Outcome State Fault Refusal :=
  .next (s.whenFree (
    if fn = 0 then
      let s := vfNumbers.foldl (fun s f => s.tdispFail f) s
      (List.range 9).foldl (fun s f => s.resetFn f) s
    else s.resetFn fn))

/-! ### Registers -/

/-- R606, R607: rings a function may hold. -/
def State.ringLimit (s : State) (fn : Nat) : Nat :=
  let ps := List.range s.partsN
  let quotaOf := fun (f : Nat) => ((ps.filter (fun p => s.fnOf p == f && (s.partOf p).state != .unconfigured)).map
    (fun p => (s.partOf p).ringQuota)).foldl (· + ·) 0
  if fn = 0 then 4096 - ((List.range 8).map (fun v => quotaOf (v + 1))).foldl (· + ·) 0
  else if (s.partsOf fn).isEmpty then 256 else min 512 (quotaOf fn)

/-- R607: the highest global number that no ring holds. -/
def State.freeGlobal (s : State) : Option Nat := (List.range 4096).reverse.find? (fun n => (mfind s.host.rings n).isNone)

/-- R607: the global number of a new ring of a function, if one is free. -/
def State.globalFor (s : State) (fn localIx : Nat) : Option Nat := if fn = 0 then some localIx else s.freeGlobal

/-- A ring of a function by its local index. -/
def State.ringBy (s : State) (fn localIx : Nat) : Option Nat :=
  if fn = 0 then
    match mfind s.host.rings localIx with
    | some x => if x.fn = 0 then some localIx else none
    | none => none
  else (s.host.rings.find? (fun e => e.2.fn == fn && e.2.localIx == localIx)).map (·.1)

/-- R620: indices and phase as after creation. -/
def Ring.rearmed (x : Ring) : Ring :=
  { x with
    sqHead := 0, sqTail := 0, cqHead := 0, cqTail := 0, phase := true, error := false, pendCount := 0, bellNt := none, sqTailWas := 0
    cqHeadWas := 0, skip := 0 }

/-- R620, R718: a ring is reset; while its VF is in TDISP state ERROR it stays in ERROR. -/
def State.resetRing (s : State) (fn localIx r : Nat) : State :=
  (s.modRing r (fun x => { x.rearmed with error := (s.func fn).tdisp == .error })).dropSlots fn localIx

/-- R607, R608, R610: admin_enable is written 1; with valid bases and size the admin ring fetches. -/
def State.adminOn (s : State) (fn : Nat) : State :=
  let f := s.func fn
  let valid := f.adminSqBase % 4096 == 0 && f.adminCqBase % 4096 == 0 && decide (4 ≤ f.adminLog2 ∧ f.adminLog2 ≤ 16)
  let s := s.setFunc fn { f with adminEnable := true }
  match s.globalFor fn 0 with
  | none => s
  | some g =>
    if !valid || s.ringLimit fn ≤ (s.ringsOf fn).length then s
    else
      let x : Ring := { fn := fn, localIx := 0, kind := .command, log2 := f.adminLog2, sqBase := f.adminSqBase,
                        cqBase := f.adminCqBase, vector := 1, coalCount := 0, coalTime := 0, drainSource := 0
                        error := f.tdisp == .error }
      let s := s.setFunc fn { s.func fn with adminReady := true }
      { s with host := { s.host with rings := mput s.host.rings g x } }

/-- ADMIN_ENABLE (R607, R608, R610, R717). -/
def execAdminEnable (fn : Nat) (tee : Bool) (s : State) : Host.Outcome State Fault Refusal :=
  .next (
    if s.dead || !s.hallFree || !s.boot.stageOne || 8 < fn || (s.ringBy fn 0).isSome then s else s.trusted fn tee (fun s => s.adminOn fn))

/-- ADMIN_RESET (R620, R717): admin_reset discards the admin ring's unfetched entries and returns it to use. -/
def execAdminReset (fn : Nat) (tee : Bool) (s : State) : Host.Outcome State Fault Refusal :=
  .next (
    if !s.hallFree then s
    else
      s.trusted fn tee (fun s => match s.ringBy fn 0 with
        | none => s
        | some r => s.resetRing fn 0 r))

/-- R603, R805: a PF write to the sticky mirror clears bits; in a VF the mirror is read-only. -/
def execStickyMirrorWrite (fn mask : Nat) (s : State) : Host.Outcome State Fault Refusal :=
  .next (s.whenFree (if fn = 0 then s.clearSticky (BitVec.ofNat 256 mask) else s))

/-- R599, R600: the layout of a function's BAR0 (Tables 16-2, 16-3): bytes of the BAR, doorbell pages of 4 KiB each, and the
offsets of what follows them. -/
structure BarLayout where
  size : Nat
  pages : Nat
  regs : Nat
  msix : Nat
  vectors : Nat
  pba : Nat
  window : Nat
  windowSize : Nat
  deriving DecidableEq, Repr

/-- Table 16-2. -/
def pfBar0 : BarLayout :=
  { size := 0x4000000, pages := 4096, regs := 0x1000000, msix := 0x1010000, vectors := 1024, pba := 0x1018000
    window := 0x2000000, windowSize := 0x2000000 }

/-- Table 16-3. -/
def vfBar0 : BarLayout :=
  { size := 0x800000, pages := 512, regs := 0x200000, msix := 0x210000, vectors := 128, pba := 0x218000
    window := 0x400000, windowSize := 0x400000 }

/-- R599, R600: the layout of a function's BAR0. -/
def bar0Of (fn : Nat) : BarLayout := if fn = 0 then pfBar0 else vfBar0

/-- R599, R600: a memory BAR: its number, its bytes, whether it is a 64-bit BAR and whether it is prefetchable. -/
structure Bar where
  number : Nat
  size : Nat
  wide : Bool
  prefetchable : Bool
  deriving DecidableEq, Repr

/-- R599, R600: the BARs of a function; BAR2 serves bounce-buffer mode, and the PF has none. -/
def barsOf (fn : Nat) : List Bar :=
  { number := 0, size := (bar0Of fn).size, wide := true, prefetchable := false } ::
    (if fn = 0 then [] else [{ number := 2, size := 0x1000000, wide := true, prefetchable := false }])

/-- R600: the bytes of a function's BAR2. -/
def bar2Size (fn : Nat) : Nat := ((((barsOf fn).find? (fun b => b.number == 2)).map (·.size))).getD 0

/-- R603, R805: the sticky bits that a function sees. -/
def State.stickyOf (s : State) (fn : Nat) : BitVec 256 := if fn = 0 then s.sticky else s.sticky &&& visibleMask

/-- R602: a function's register block (Table 16-4), as it reads, up to its last field. -/
def State.registers (s : State) (fn : Nat) : Bytes :=
  let f := s.func fn
  let broken := ((s.ringBy fn 0).bind (mfind s.host.rings)).any (fun x => x.error)
  leBytes 4 s.boot.devState ++ leBytes 4 (fn + 16 * b2n f.bounce + 32 * b2n f.session) ++ leBytes 8 f.adminSqBase ++
    leBytes 8 f.adminCqBase ++ leBytes 4 (f.adminLog2 + 256 * b2n f.adminEnable) ++
    leBytes 4 (b2n (f.adminReady && !broken) + 2 * b2n broken) ++ leBytes 4 f.snapSeq ++ zeroBytes 4 ++ leBytes 8 f.snapNt ++
    leBytes 4 (b2n (s.stickyOf fn != 0) + 2 * b2n s.power.faultN) ++ zeroBytes 204 ++ leBytes 32 (s.stickyOf fn).toNat

/-- R625: an entry of the MSI-X table, as it reads. -/
def Vec.bytes (x : Vec) : Bytes := leBytes 8 x.addr ++ leBytes 4 x.data ++ leBytes 4 (b2n x.masked)

/-- R599 to R604, R614: the byte of a function's BAR0 that a read finds. Doorbells and reserved offsets read 0. -/
def State.bar0Byte (s : State) (fn offset : Nat) : Byte :=
  let l := bar0Of fn
  if l.regs ≤ offset ∧ offset < l.regs + 4096 then ((s.registers fn)[offset - l.regs]?).getD 0
  else if l.msix ≤ offset ∧ offset < l.msix + 16 * l.vectors then
    ((s.vec fn ((offset - l.msix) / 16)).bytes[(offset - l.msix) % 16]?).getD 0
  else if l.pba ≤ offset ∧ offset < l.pba + l.vectors / 8 then
    BitVec.ofNat 8 ((List.range 8).foldl (fun n k => n + 2 ^ k * b2n (s.vec fn (8 * (offset - l.pba) + k)).pending) 0)
  else if l.window ≤ offset ∧ offset < l.window + l.windowSize then ((s.func fn).window[offset - l.window]?).getD 0
  else 0

/-- R590, R717: a read of `n` bytes of a function's BAR0: valid data once configuration requests complete without Retry Status; none
before, and none where the read completes as Unsupported Request. -/
def State.bar0Read (s : State) (fn offset n : Nat) (tee : Bool) : Option Bytes :=
  if s.dead || !s.boot.stageOne || s.untrusted fn tee then none else some ((List.range n).map (fun k => s.bar0Byte fn (offset + k)))

/-- R634: a read of `n` bytes of a VF's BAR2. -/
def State.bar2Read (s : State) (fn offset n : Nat) : Bytes := memRead (s.func fn).bar2 offset n

/-- A 64-bit field after a write of its low or its high half. -/
def writeLow (old v : Nat) : Nat := old / 4294967296 * 4294967296 + v % 4294967296
def writeHigh (old v : Nat) : Nat := old % 4294967296 + v % 4294967296 * 4294967296

/-- R602: admin_enable is written 0: the admin ring is no longer in use (log entry 207). -/
def State.adminOff (s : State) (fn : Nat) : State :=
  let s : State := match s.ringBy fn 0 with
    | none => s
    | some r => (s.removeRing r).dropSlots fn 0
  s.setFunc fn { s.func fn with adminEnable := false, adminReady := false }

/-- R602: a 4-byte write to the register block. -/
def State.writeRegister (s : State) (fn field v : Nat) : State :=
  let f := s.func fn
  match field with
  | 0x008 => s.setFunc fn { f with adminSqBase := writeLow f.adminSqBase v }
  | 0x00C => s.setFunc fn { f with adminSqBase := writeHigh f.adminSqBase v }
  | 0x010 => s.setFunc fn { f with adminCqBase := writeLow f.adminCqBase v }
  | 0x014 => s.setFunc fn { f with adminCqBase := writeHigh f.adminCqBase v }
  | 0x018 =>
    let s := s.setFunc fn { f with adminLog2 := v % 32 }
    if v / 256 % 2 = 0 && f.adminEnable then s.adminOff fn else s
  | _ => s

/-- R625: a 4-byte write to an entry of the MSI-X table; a write that clears the mask is VECTOR_UNMASK. -/
def State.writeVector (s : State) (fn n field v : Nat) : State :=
  let x := s.vec fn n
  match field with
  | 0 => s.setVec fn n { x with addr := writeLow x.addr v }
  | 4 => s.setVec fn n { x with addr := writeHigh x.addr v }
  | 8 => s.setVec fn n { x with data := v % 4294967296 }
  | 12 => if v % 2 = 1 then s.setVec fn n { x with masked := true } else s
  | _ => s

/-! ### Doorbells (R614 to R618) -/

/-- R614: the offsets of the two fields in a doorbell page. -/
def sqTailOffset : Nat := 0x000
def cqHeadOffset : Nat := 0x004

/-- R618: the doorbells of a ring as the device uses them in the Hall cycle of NT `nt`: as they stood at its start. -/
def Ring.sqTailAt (x : Ring) (nt : Nat) : Nat := if x.bellNt = some nt then x.sqTailWas else x.sqTail
def Ring.cqHeadAt (x : Ring) (nt : Nat) : Nat := if x.bellNt = some nt then x.cqHeadWas else x.cqHead

/-- R618: the doorbells at the start of a Hall cycle are kept before the cycle's first write. -/
def Ring.keepBells (x : Ring) (nt : Nat) : Ring :=
  if x.bellNt = some nt then x else { x with bellNt := some nt, sqTailWas := x.sqTail, cqHeadWas := x.cqHead }

/-- R617: a doorbell write is ignored. -/
def State.bellIgnored (s : State) (fn : Nat) : State := s.bump (Ctr.funcDoorbellIgnored fn)

/-- R615, R616: a write of sq_tail to a ring. -/
def State.setSqTail (s : State) (r : Nat) (x : Ring) (value : Nat) : State :=
  if x.kind = .drain then s
  else if 2 ^ x.log2 ≤ value then s.ringError r x
  else s.modRing r (fun y => { y.keepBells s.nt with sqTail := value })

/-- R615, R616: a write of cq_head to a ring: it lies within the entries written and not yet returned. -/
def State.setCqHead (s : State) (r : Nat) (x : Ring) (value : Nat) : State :=
  let n := 2 ^ x.log2
  if n ≤ value ∨ (x.cqTail + n - x.cqHead) % n < (value + n - x.cqHead) % n then s.ringError r x
  else s.modRing r (fun y => { y.keepBells s.nt with cqHead := value })

/-- R614, R617, R717: a write to a field of a doorbell page. -/
def State.ringBell (s : State) (fn page offset value : Nat) (tee : Bool) : State :=
  match (s.ringBy fn page).bind (fun r => (mfind s.host.rings r).map (fun x => (r, x))) with
  | none => s.bellIgnored fn
  | some (r, x) =>
    if s.untrusted fn tee then (s.emit (.unsupportedRequest fn)).bellIgnored fn
    else if offset = sqTailOffset then s.setSqTail r x value
    else if offset = cqHeadOffset then s.setCqHead r x value
    else s

/-- SQ_TAIL (R614 to R618): sq_tail hands the device the entries up to the new tail. -/
def execSqTail (fn page value : Nat) (tee : Bool) (s : State) : Host.Outcome State Fault Refusal :=
  .next (if !s.hallFree then s else s.ringBell fn page sqTailOffset value tee)

/-- CQ_HEAD (R614 to R618): cq_head returns entries. -/
def execCqHead (fn page value : Nat) (tee : Bool) (s : State) : Host.Outcome State Fault Refusal :=
  .next (if !s.hallFree then s else s.ringBell fn page cqHeadOffset value tee)

/-! ### Writes to BAR0 -/

/-- R601, R602, R614, R625: a 4-byte write to a field of BAR0 that acts on its value; every other offset ignores the write. -/
def State.writeBar0 (s : State) (fn offset v : Nat) (tee : Bool) : State :=
  let l := bar0Of fn
  if offset < 4096 * l.pages then s.ringBell fn (offset / 4096) (offset % 4096) (v % 4294967296) tee
  else if l.regs ≤ offset ∧ offset < l.regs + 4096 then s.writeRegister fn (offset - l.regs) v
  else if l.msix ≤ offset ∧ offset < l.msix + 16 * l.vectors then
    s.writeVector fn ((offset - l.msix) / 16) ((offset - l.msix) % 16) v
  else s

/-- R601, R602, R625: a write of 4 bytes, or of 8 when `wide`, to a function's BAR0: the admin bases, size and enable, and the
entries of the MSI-X table. The sticky mirror and the ones of admin_enable and admin_reset have rows of their own. -/
def execRegisterWrite (fn offset value : Nat) (wide tee : Bool) (s : State) : Host.Outcome State Fault Refusal :=
  .next (
    if 8 < fn || !s.hallFree then s
    else if offset < 4096 * (bar0Of fn).pages then
      let s := s.writeBar0 fn offset value tee
      if wide then s.writeBar0 fn (offset + 4) (value / 4294967296) tee else s
    else
      s.trusted fn tee (fun s =>
        let s := s.writeBar0 fn offset value tee
        if wide then s.writeBar0 fn (offset + 4) (value / 4294967296) tee else s))

/-! ### Fetching (R619) -/

/-- R618, R619: a ring has an entry that can be fetched at NT `nt`. -/
def Ring.fetchable (x : Ring) (nt : Nat) : Bool :=
  x.kind == .command && !x.error && x.sqHead != x.sqTailAt nt && x.running.isNone &&
    (x.cqTail + 1) % 2 ^ x.log2 != x.cqHeadAt nt

/-- R629: the plaintext of an envelope under a key; none where its length, its version or a reserved bit is not as Table 16-8 says, or
where the authentication fails. -/
def openEnvelope (key e : Bytes) : Option Bytes :=
  let n := leAt e 4 4
  if leAt e 0 1 = 1 ∧ leAt e 2 2 < 512 ∧ inR n 1 4096 ∧ e.length = 48 + n then gcmOpen key (slice e 0x14 12) (e.take 32) (e.drop 32)
  else none

/-- R631, R634: the entry in the BAR2 slot that a ring of a VF in bounce-buffer mode reads next: a COMMAND envelope of the ring with
the sequence that follows the last one fetched. -/
def State.slotEntry (s : State) (x : Ring) : Option Bytes :=
  let f := s.func x.fn
  let e := memRead f.bar2 (x.sqBase + 128 * x.sqHead) 112
  if leAt e 1 1 = 1 ∧ leAt e 2 2 = x.localIx ∧ leAt e 8 8 = mget 0 f.ownSeq x.localIx + 1 then openEnvelope (f.reqKey.getD []) e else none

/-- R619, R634: a ring of a VF in bounce-buffer mode has an entry once its COMMAND envelope stands in its slot. -/
def State.canFetch (s : State) (x : Ring) : Bool := x.fetchable s.nt && (!(s.func x.fn).bounce || (s.slotEntry x).isSome)

/-- R619: the ring that the round robin serves next. -/
def State.nextFetch (s : State) : Option Nat :=
  let fs := (s.host.rings.filter (fun e => s.canFetch e.2)).map (·.1)
  match fs.find? (fun r => decide (s.host.rrLast < r)) with
  | some r => some r
  | none => fs.head?

/-- The offsets of the bytes from `a` to below `b` of an entry that are not 0. -/
def nonZeroAt (e : Bytes) (a b : Nat) : List Nat := (List.range (b - a)).map (· + a) |>.filter (fun k => leAt e k 1 != 0)

/-- R643 (Table 17-1): the header that begins the bytes of a command; `more` lists what else is wrong with them. -/
def readHeader (e : Bytes) (more : List Nat) : CmdHdr :=
  let offs := (if leAt e 3 1 / 2 = 0 then [] else [3]) ++ nonZeroAt e 9 0x0C ++ nonZeroAt e 0x14 0x20 ++ more
  { opcode := leAt e 0 2, version := leAt e 2 1, fence := leAt e 3 1 % 2 == 1, rsvAt := offs.min?, seqTag := leAt e 4 4
    partition := leAt e 8 1, paramLength := leAt e 0x0C 4, startDeadline := leAt e 0x10 4, word20 := leAt e 0x20 8 }

/-- R611 (Table 16-6): the header of a submission entry. Beside the reserved bits of the header it checks what the entry reserves where
it holds param_addr (log entry 208). -/
def readEntry (e : Bytes) : CmdHdr :=
  readHeader e (if leAt e 0x0C 4 ≤ 32 then []
    else (if leAt e 0x20 8 % 8 = 0 then [] else [0x20]) ++ nonZeroAt e 0x28 0x40)

/-- R609, R631, R634: the entry is read from the ring's memory, `entry`, or from its envelope, whose sequence its command then has. -/
def State.readSlot (s : State) (x : Ring) (entry : Bytes) : Bytes × State :=
  let f := s.func x.fn
  if f.bounce then
    ((s.slotEntry x).getD [],
     s.setFunc x.fn { f with ownSeq := mput f.ownSeq x.localIx (mget 0 f.ownSeq x.localIx + 1), dataIn := mput f.dataIn x.localIx [] })
  else (entry, s.dma x.fn (.hostRead x.fn (x.sqBase + 64 * x.sqHead) 64))

/-- R611: the command of a submission entry, with its parameters where the entry holds them. -/
def entryCmd (e : Bytes) (fn nt order : Nat) : Cmd :=
  let h := readEntry e
  { hdr := h, fn := fn, fetchNt := nt, order := order, started := false
    params := if h.paramLength ≤ 32 then some (slice e 0x20 h.paramLength) else none }

/-- R646, R651: a command that does not wait for its fence and fails a check of its header completes at once (log entry 22). -/
def State.checkHead (s : State) (r : Nat) (c : Cmd) : State :=
  if s.fenced c || s.outOfTurn r c then s
  else
    match headCheck s c with
    | some st => s.rejectHead r c st
    | none => s

/-- COMMAND_FETCH (R611, R619, R651): the next entry is fetched; `entry` is what the 64 bytes in host memory hold. -/
def execCommandFetch (entry : Bytes) (s : State) : Host.Outcome State Fault Refusal :=
  .next (
    if s.dead || !s.hallFree then s else
    match s.nextFetch.bind (fun r => (mfind s.host.rings r).map (fun x => (r, x))) with
    | none => s
    | some (r, x) =>
      let next := fun (y : Ring) => (y.sqHead + 1) % 2 ^ y.log2
      if 0 < x.skip then s.modRing r (fun y => { y with sqHead := next y, skip := y.skip - 1 })
      else
        let e := s.readSlot x entry
        let c := entryCmd e.1 x.fn s.nt s.host.orderCtr
        let s := { e.2 with host := { e.2.host with rrLast := r, orderCtr := s.host.orderCtr + 1 } }
        (s.modRing r (fun y => { y with sqHead := next y, running := some c })).checkHead r c)

/-- R647: a command that has not started within its start_deadline completes with the first failing check. -/
def execStartDeadlineExpiry (ring : Nat) (s : State) : Host.Outcome State Fault Refusal :=
  .next (match s.cmdAt ring with
    | none => s
    | some c =>
      if c.started || !c.tooLate s.nt || !s.hallFree || s.outOfTurn ring c then s
      else
        match headCheck s c with
        | some st => s.rejectHead ring c st
        | none => s)

/-- R646: a fenced command starts once every earlier command of its function has completed. -/
def execFenceRelease (ring : Nat) (s : State) : Host.Outcome State Fault Refusal :=
  .next (match s.cmdAt ring with
    | none => s
    | some c =>
      if c.started || !c.hdr.fence || s.fenced c || !s.hallFree || s.outOfTurn ring c then s
      else
        match headCheck s c with
        | some st => s.rejectHead ring c st
        | none => s.setCmd ring (some { c with hdr := { c.hdr with fence := false } }))

/-- R624: coalesce_time has passed since the first pending entry. -/
def execInterruptCoalesceTimeout (ring : Nat) (s : State) : Host.Outcome State Fault Refusal :=
  .next (match mfind s.host.rings ring with
    | none => s
    | some x =>
      if !s.hallFree ∨ x.pendCount = 0 ∨ x.coalTime = 0 ∨ s.nt < x.firstPendNt + x.coalTime * us then s
      else s.sendRingVector ring x)

/-- R625: a vector is unmasked; one message covers every cause that occurred meanwhile. -/
def execVectorUnmask (fn vector : Nat) (tee : Bool) (s : State) : Host.Outcome State Fault Refusal :=
  .next (
    if !s.hallFree then s
    else
      s.trusted fn tee (fun s =>
        let v := s.vec fn vector
        let s := s.setVec fn vector { v with masked := false, pending := false }
        if v.pending then s.sendVector fn vector else s))

/-! ### Sessions (R636 to R641) -/

/-- The intersection of two feature words (R637). -/
def wordAnd (a b : Nat) : Nat := ((BitVec.ofNat 128 a) &&& (BitVec.ofNat 128 b)).toNat

/-- Records an open session. -/
def State.openSession (s : State) (fn host enabled : Nat) : State :=
  if fn < 9 then s.setFunc fn { s.func fn with session := true, hostWord := host, enabled := enabled }
  else
    let s := { s with boot := { s.boot with assocCtr := s.boot.assocCtr + 1 } }
    s.modAssoc (fn - 9) (fun a => { a with session := true, enabled := enabled, opened := s.boot.assocCtr })

/-- SESSION_OPEN (R637, R639). -/
def execSessionOpen (c : CmdIn) (hostWord : Nat) (s : State) : Host.Outcome State Fault Refusal :=
  .next (runNow 0x0101 (.sessionOpen c hostWord) c [] s (fun cmd s =>
    let offer := featWord (s.offer cmd.fn)
    let both := wordAnd offer hostWord
    if both % 2 = 0 then (fail stNoFeature, s)
    else if (s.enabledOf cmd.fn).isSome then (fail stConflict, s)
    else (okReply (leBytes 16 offer ++ leBytes 16 both), s.openSession cmd.fn hostWord both)))

/-- SESSION_CLOSE (R641). -/
def execSessionClose (c : CmdIn) (s : State) : Host.Outcome State Fault Refusal :=
  .next (runNow 0x0102 (.sessionClose c) c [] s (fun cmd s =>
    if (s.enabledOf cmd.fn).isNone then (fail stNotFound, s) else (okStatus, s.closeSession cmd.fn)))

/-! ### Rings (R606 to R608, R618, R620) -/

/-- Table 21-11: a buffer selector names a buffer of the part. -/
def selectorOk (s : State) (sel : Nat) : Bool :=
  let k := sel % 16
  let w := bitsOf sel 4 1
  let g := bitsOf sel 5 2
  let t := bitsOf sel 7 7
  let rest := sel / 16384
  rest == 0 && (
    (k == 0 && sel / 16 == 0) || (k == 1 && decide (w < s.wings) && sel / 32 == 0) ||
    (k == 2 && decide (w < s.wings ∧ g < 3 ∧ t < 96)) || (k == 3 && sel / 16 == 0))

/-- The buffer that a selector of kind HALL, CELLAR or TILE names. -/
def selectorBuf (sel : Nat) : Nat :=
  let k := sel % 16
  let w := bitsOf sel 4 1
  if k = 0 then 0 else if k = 1 then 1 + w else 16 + 512 * w + 128 * bitsOf sel 5 2 + bitsOf sel 7 7

/-- R688: the partition that owns a tile instance of Table 21-3, if one does. -/
def State.tileOwned (s : State) (p inst : Nat) : Bool :=
  let w := inst / 512
  let g := inst % 512 / 128
  let q := inst % 128 / 24
  let pt := s.partOf p
  pt.state != .unconfigured && bitOf (if w = 0 then pt.quarters0 else pt.quarters1) (4 * g + q)

/-- R760, R769: the counters of a partition, its report queues and its Wings, and its attribution entries, are zero. -/
def State.clearPartCounters (s : State) (p : Nat) : State :=
  { s with
    counters := s.counters.filter (fun e =>
      let g := ctrGroup e.1
      let i := ctrInst e.1
      !((g == 8 && i % 1024 == p) || (g == 9 && i / 4 == p) || (g == 10 && i % 16 == p)))
    obs := { s.obs with attr := s.obs.attr.map (fun e => (e.1, e.2.filter (fun r => r.context != p))) } }

/-- R788: a VF names TILE and PARTITION selectors of its own partition only. -/
def selectorDenied (s : State) (fn sel : Nat) : Bool :=
  decide (1 ≤ fn ∧ fn ≤ 8) && !(
    sel % 16 == 3 ||
    (sel % 16 == 2 && (s.partsOf fn).any (fun p => s.tileOwned p (selectorBuf sel - 16))))

/-- RING_CREATE (R606, R607, R634, Table 16-5). -/
def execRingCreate (c : CmdIn) (localIx : Nat) (kind : RingKind) (log2 vector coalCount coalTime drainSource
    sqBase cqBase : Nat) (s : State) : Host.Outcome State Fault Refusal :=
  .next (
    let fn := ((s.cmdAt c.ring).map (·.fn)).getD 0
    let vecs := if fn = 0 then 1024 else 128
    let beyond := fun (base : Nat) => (s.func fn).bounce && decide (bar2Size fn < base + 128 * 2 ^ log2)
    let bad := [(localIx == 0 || (fn != 0 && decide (511 < localIx)), 0), (!decide (4 ≤ log2 ∧ log2 ≤ 16), 3), (!decide (1 ≤ vector ∧ vector < vecs), 4),
      (kind == .command && drainSource != 0, 0x0C), (kind == .drain && !selectorOk s drainSource, 0x0C),
      (sqBase % 4096 != 0, 0x10), (kind == .drain && sqBase != 0, 0x10), (cqBase % 4096 != 0, 0x18),
      (kind == .command && beyond sqBase, 0x10), (beyond cqBase, 0x18)]
    runNow 0x0103 (.ringCreate c localIx kind log2 vector coalCount coalTime drainSource sqBase cqBase) c bad s (fun cmd s =>
      if kind == .drain && !bitOf ((s.enabledOf cmd.fn).getD 0) 7 then (fail stNoFeature, s)
      else if kind == .drain && selectorDenied s cmd.fn drainSource then (fail stDenied, s)
      else if s.ringLimit cmd.fn ≤ (s.ringsOf cmd.fn).length ∨ 4096 ≤ s.host.rings.length then (fail stBusy, s)
      else if (s.ringBy cmd.fn localIx).isSome || (cmd.fn == 0 && (mfind s.host.rings localIx).isSome) then
        (fail stConflict, s)
      else
        match s.globalFor cmd.fn localIx with
        | none => (fail stBusy, s)
        | some g =>
          let x : Ring := { fn := cmd.fn, localIx := localIx, kind := kind, log2 := log2, sqBase := sqBase,
                            cqBase := cqBase, vector := vector, coalCount := coalCount, coalTime := coalTime,
                            drainSource := drainSource, error := (s.func cmd.fn).tdisp == .error }
          ({ status := stOk, info := g }, { s with host := { s.host with rings := mput s.host.rings g x } })))

/-- RING_DESTROY (R618). -/
def execRingDestroy (c : CmdIn) (localIx : Nat) (s : State) : Host.Outcome State Fault Refusal :=
  .next (runNow 0x0104 (.ringDestroy c localIx) c [] s (fun cmd s =>
    match s.ringBy cmd.fn localIx with
    | none => (fail stNotFound, s)
    | some r =>
      if localIx = 0 ∨ r = c.ring then (fail stConflict, s)
      else (okStatus, (s.removeRing r).dropSlots cmd.fn localIx)))

/-- RING_RESET (R620). -/
def execRingReset (c : CmdIn) (localIx : Nat) (s : State) : Host.Outcome State Fault Refusal :=
  .next (runNow 0x0105 (.ringReset c localIx) c [] s (fun cmd s =>
    match s.ringBy cmd.fn localIx with
    | none => (fail stNotFound, s)
    | some r =>
      if localIx = 0 ∨ r = c.ring then (fail stConflict, s)
      else (okStatus, s.resetRing cmd.fn localIx r)))

end Sys2Proof.Machine
end

