-- ==== Sys2Proof/Machine/Settings.lean ====
section
/-!
DEFINITION. Machine/Settings.lean: the settings of Table 17-6: scope, instances, elements, defaults and ranges (Tables
03-7, 04-8, 06-5, 14-3, 15-7, 17-7, 18-5; R46, R52, R514).
-/
namespace Sys2Proof.Machine

/-- How many instances a scope has. -/
def State.instances (s : State) : SetScope → Nat
  | .lane => s.lanesN
  | .port => s.lanesN
  | .queue => 4096
  | .bank => 2
  | .reportQueue => 4
  | .device | .partition | .time => 1

/-- How many elements a setting has. -/
def settingElements (id : Nat) : Nat :=
  if id = 0x1010 ∨ id = 0x1012 ∨ id = 0x5004 then 4 else if id = 0x3006 then 8 else 1

/-- A queue binding of none (R656). -/
def noQueue : Nat := 0xFFFF

/-- The owner value of the device (R656). -/
def ownerDevice : Nat := 0xFF

/-- The default of a setting. -/
def settingDefault (id inst elem : Nat) : Nat :=
  match id with
  | 0x0003 => noQueue | 0x0004 => 1000 | 0x0005 => 1000 | 0x0008 => 60
  | 0x1001 => 16 | 0x1005 => 4 | 0x1006 => 1 | 0x1007 => 1 | 0x1008 => 1 | 0x1009 => 60000
  | 0x100B => 1 | 0x100C => 2 | 0x100D => noQueue | 0x100E => noQueue | 0x1011 => 1 | 0x1012 => noQueue
  | 0x2001 => 1 | 0x2004 => 0x88B5 | 0x2006 => 100 | 0x2007 => 50
  | 0x3003 => 64 | 0x3004 => 20 | 0x3005 => 60 | 0x3006 => 1
  | 0x4001 => ownerDevice | 0x4004 => 1 | 0x4005 => 1 | 0x4007 => 262144 | 0x4008 => 1000 | 0x400B => 4739
  | 0x400C => 49152 + inst % 16384
  | 0x5001 => 4789 | 0x5002 => 6081 | 0x5003 => 2152
  | 0x5004 => if elem = 0 then 443 else 0
  | 0x5005 => 8 | 0x5008 => 2000
  | 0x6002 => 1
  | 0x7004 => 115200 | 0x7005 => 320 | 0x7006 => 160000 | 0x7007 => 100 | 0x7008 => 800000
  | _ => 0

/-- The range of a setting other than a time setting. -/
def settingOk (s : State) (id v : Nat) : Bool :=
  match id with
  | 0x0001 => inR v 0 281474976710655
  | 0x0002 => inR v 0 4294967295
  | 0x0003 => inR v 0 4095 || v == noQueue
  | 0x0004 => inR v 10 60000
  | 0x0005 => inR v 10 1000000
  | 0x0006 => inR v 0 4294967295
  | 0x0007 => inR v 0 4294967280
  | 0x0008 => inR v 1 3600
  | 0x0009 => inR v 0 1
  | 0x1001 => inR v 4 256
  | 0x1002 => inR v 0 5
  | 0x1003 => inR v 0 4294967295
  | 0x1004 => inR v 0 3
  | 0x1005 => inR v 0 7
  | 0x1006 => inR v 0 3
  | 0x1007 => inR v 0 7
  | 0x1008 => inR v 0 1
  | 0x1009 => inR v 1000 3600000
  | 0x100A => inR v 0 18446744073709551615
  | 0x100B => inR v 0 3
  | 0x100C => inR v 0 7
  | 0x100D => inR v 0 4095 || v == noQueue
  | 0x100E => inR v 0 4095 || v == noQueue
  | 0x100F => inR v 0 15
  | 0x1010 => inR v 0 31
  | 0x1011 => inR v 1 65535
  | 0x1012 => inR v 0 4095 || v == noQueue
  | 0x2001 => inR v 0 1
  | 0x2002 => inR v 0 1
  | 0x2003 => inR v 0 1
  | 0x2004 => inR v 0x0600 0xFFFF && !([0x0800, 0x86DD, 0x8100, 0x88A8].contains v)
  | 0x2005 => inR v 0 281474976710655
  | 0x2006 => inR v 1 1000000
  | 0x2007 => inR v 0 500
  | 0x3001 => inR v 0 281474976710655
  | 0x3002 => true
  | 0x3003 => inR v 1 255
  | 0x3004 => inR v 0 63
  | 0x3005 => inR v 10 70
  | 0x3006 => inR v 1 255
  | 0x4001 => decide (v < s.partsN) || v == ownerDevice
  | 0x4002 => decide (v < s.lanesN)
  | 0x4003 => inR v 0 7
  | 0x4004 => inR v 1 255
  | 0x4005 => inR v 0 1
  | 0x4006 => inR v 0 200000
  | 0x4007 => inR v 4096 16777216
  | 0x4008 => inR v 1 1000000
  | 0x4009 => inR v 0 255
  | 0x400A => true
  | 0x400B => inR v 1 65535
  | 0x400C => inR v 1 65535
  | 0x5001 => inR v 1 65535
  | 0x5002 => inR v 1 65535
  | 0x5003 => inR v 1 65535
  | 0x5004 => inR v 0 65535
  | 0x5005 => inR v 0 20
  | 0x5006 => inR v 0 5
  | 0x5007 => inR v 0 4294967295
  | 0x5008 => inR v 1 65535
  | 0x6001 => inR v 0 1023
  | 0x6002 => inR v 0 255
  | 0x6003 => inR v 0 1023
  | _ => false

/-- The instance under which a setting is kept: partition-scope settings under their partition. -/
def scopedInst (sc : SetScope) (p inst : Nat) : Nat :=
  match sc with
  | .partition => p * 4096
  | .reportQueue => p * 4096 + inst
  | _ => inst

/-- The value of a setting. -/
def State.setting (s : State) (id inst elem : Nat) : Nat :=
  mget (settingDefault id inst elem) s.settings (settingKey id inst elem)

/-- The value of a partition-scope setting. -/
def State.partSetting (s : State) (id p : Nat) (elem : Nat := 0) : Nat := s.setting id (p * 4096) elem

/-- R748: the value of a setting for packets of a stamp: in a pair a write holds from its effective instant on. -/
def State.settingAt (s : State) (stamp id inst elem : Nat) : Nat :=
  match (s.hall.formers.filter (fun (f : Nat × Nat × Nat) => f.2.1 == settingKey id inst elem && decide (stamp < f.1))).getLast? with
  | some f => f.2.2
  | none => s.setting id inst elem

/-- The value of a partition-scope setting for packets of a stamp. -/
def State.partSettingAt (s : State) (stamp id p : Nat) (elem : Nat := 0) : Nat := s.settingAt stamp id (p * 4096) elem

/-- The value of a report-queue setting. -/
def State.rqSetting (s : State) (id p q : Nat) : Nat := s.setting id (p * 4096 + q) 0

/-- Stores a setting. -/
def State.putSetting (s : State) (id inst elem v : Nat) : State :=
  { s with settings := mput s.settings (settingKey id inst elem) v }

/-- A partition's settings and its report queues' return to their defaults (R664, Table 17-10). -/
def State.defaultSettings (s : State) (p : Nat) : State :=
  { s with settings := s.settings.filter (fun e =>
      let id := e.1 / 16777216
      let owner := e.1 / 256 % 65536 / 4096
      !((settingScope id == some .partition || settingScope id == some .reportQueue) && owner == p)) }

end Sys2Proof.Machine
end

