-- ==== Sys2Proof/Machine/Time.lean ====
section
/-!
DEFINITION. Machine/Time.lean: network time (chapter 14): the count, the servo and its states, and the
commands of the Time class.
-/
namespace Sys2Proof.Machine

/-! ### The count (R521, R525, R531) -/

/-- Nominal rate word, 16 units per Hall cycle with 32 fraction bits. -/
def rateNominal : Nat := 68719476736

/-- One Hall cycle: NT advances by the rate word and stops at 2^64 − 1. -/
def TimeBase.tick (t : TimeBase) : TimeBase :=
  if t.stopped then t
  else
    let sum := t.frac + t.rate
    let nt := t.nt + sum / 4294967296
    if max64 < nt then { t with nt := max64, frac := 0, stopped := true }
    else { t with nt := nt, frac := sum % 4294967296 }

/-- R525: NT comes within 2^56 of wrapping; NT would pass 2^64 − 1. -/
def execTimeWrapNear (s : State) : Host.Outcome State Fault Refusal :=
  .next (s.whenFree (
    if 18446744073709551616 - 72057594037927936 ≤ s.nt then
      let s := s.setSticky 105
      if max64 ≤ s.nt then { s with time := { s.time with stopped := true } } else s
    else s))

/-! ### Inputs (R526 to R534) -/

/-- CRC-8, polynomial 0x07, one bit. -/
def crc8Bit (c : Nat) : Nat :=
  if 128 ≤ c then ((BitVec.ofNat 8 (2 * c)) ^^^ 0x07#8).toNat else (2 * c) % 256

/-- CRC-8 with initial value 0 and no final XOR (Table 14-1). -/
def crc8 (bs : Bytes) : Nat :=
  bs.foldl (fun c b =>
    let x := ((BitVec.ofNat 8 c) ^^^ b).toNat
    crc8Bit (crc8Bit (crc8Bit (crc8Bit (crc8Bit (crc8Bit (crc8Bit (crc8Bit x)))))))) 0

/-- R526, R527: the fields of a message whose sync, type, reserved bytes and check are correct. -/
def parseTod (m : Bytes) : Option Tod :=
  if m.length = 16 ∧ leAt m 0 1 = 0xA5 ∧ leAt m 1 1 = 1 ∧ leAt m 0x0A 1 < 8 ∧ leAt m 0x0C 3 = 0 ∧
      crc8 (m.take 15) = leAt m 0x0F 1 then
    let fl := leAt m 0x0A 1
    some { seconds := leAt m 2 6, utcOffset := leAt m 8 2, traceable := bitOf fl 0, leap61 := bitOf fl 1,
           leap59 := bitOf fl 2, clockClass := leAt m 0x0B 1 }
  else none

/-- R527: a message that ended at `endNt` ended 100 ms to 900 ms before an edge at `stamp`. -/
def todInTime (endNt stamp : Nat) : Bool :=
  decide (endNt + 100 * ms ≤ stamp) && decide (stamp ≤ endNt + 900 * ms)

/-- R527: the last stop bit of a message ends; a bad one is discarded and counted. Whether it ended 100 ms to 900 ms before
the next edge is known at that edge. -/
def execTodMessage (message : Bytes) (s : State) : Host.Outcome State Fault Refusal :=
  .next (s.whenFree (
    match parseTod message with
    | none => s.bump Ctr.hallTodBad
    | some t => { s with time := { s.time with todWaiting := (t, s.nt) :: s.time.todWaiting } }))

/-- R527, R528: the messages that wait are judged at an edge: those out of time are counted, and the newest of the others is
the accepted one that the edge follows. -/
def State.takeTod (s : State) (stamp : Nat) : State × Option Tod :=
  let good := s.time.todWaiting.filter (fun e => todInTime e.2 stamp)
  let late := s.time.todWaiting.length - good.length
  (({ s with time := { s.time with todWaiting := [] } }).bumpN Ctr.hallTodBad late, good.head?.map (·.1))

/-- R552: settings written since the last valid edge come into force. -/
def TimeBase.applySettings (t : TimeBase) : TimeBase :=
  let f := fun (t : TimeBase) (e : Nat × Int) =>
    match e.1 with
    | 0x7002 => { t with ppsInDelay := e.2 }
    | 0x7003 => { t with ppsOutDelay := e.2 }
    | 0x7004 => { t with todBaud := e.2.toNat }
    | 0x7005 => { t with lockThreshold := e.2.toNat }
    | 0x7006 => { t with outlierLimit := e.2.toNat }
    | 0x7007 => { t with maxSlew := e.2.toNat }
    | 0x7008 => { t with crosscheckBound := e.2.toNat }
    | _ => t
  { (t.pendingSettings.foldl f t) with pendingSettings := [] }

/-- R541: the states in which PPS_OUT is driven. -/
def TbState.drivesPps : TbState → Bool
  | .locked | .holdover => true
  | .unset | .acquire => false

/-- R529, R541: the time base moves to another state; PPS_OUT goes low where the state does not drive it. -/
def State.tbMove (s : State) (st : TbState) : State :=
  ({ s with time := { s.time with state := st, ppsOut := s.time.ppsOut && st.drivesPps } }).bump Ctr.hallTimeStateChange

/-- R532: the servo's new rate word, within max_slew of nominal and against the error; which value, the manual leaves
open (log entry 24: a free value). -/
def servoRate (t : TimeBase) (err : Int) (n : Nat) : Nat :=
  let bound := rateNominal * t.maxSlew / 1000000
  let d := 1 + Config.freeNat n % bound
  if err = 0 then t.rate else if 0 < err then rateNominal - d else rateNominal + d

/-- R532, R534: an error to be removed steers the rate word. -/
def State.steer (s : State) (err : Int) : State :=
  let s1 := { s with time := { s.time with rate := servoRate s.time err s.free } }
  if err = 0 then s1 else s1.nextFree

/-- R530: the NT that a valid edge should have. -/
def TimeBase.expected (t : TimeBase) (seconds : Nat) : Int :=
  ((seconds : Int) - (t.originInForce : Int)) * 16000000000 + t.ppsInDelay

/-- First instant after `nt` on the grid of `period`. -/
def nextGrid (nt period : Nat) : Nat := (nt / period + 1) * period

/-- R543, R544 (log entry 25): once NT is set, the device-wide periodic occurrences join their queues. -/
def State.startPeriodic (s : State) : State :=
  let nt := s.nt
  let s := s.enqueue blkLanes { instant := nextGrid nt ms, kind := evInterval, key := 0, periodic := true }
  let s := (List.range s.wings).foldl (fun s w =>
    s.enqueue (blkCellar w) { instant := nextGrid nt ms, kind := evInterval, key := 0, periodic := true }) s
  let s := (List.range s.wings).foldl (fun s w =>
    s.enqueue (blkStairwell w) { instant := nextGrid nt ms, kind := evStateHash, key := 0, periodic := true }) s
  let sample := mget 1000 s.settings (settingKey 0x0005 0 0)
  s.enqueue blkExport { instant := nextGrid nt (sample * us), kind := evShaperSample, key := 0, periodic := true }

/-- No digest can have been classified before NT is set: every rule and setting that has been written holds from the first on
(R47, R149, R654). -/
def State.dropFormers (s : State) : State :=
  { s with hall := { s.hall with
      formers := [], bank0 := { s.hall.bank0 with former := none }, bank1 := { s.hall.bank1 with former := none }
      deadlines := s.hall.deadlines.map (fun (e : Nat × List (Nat × Nat)) => (e.1, (e.2.take 1).map (fun v => (v.1, 0)))) } }

/-- R524, R530: the first valid edge after reset sets NT, unless the origin is rejected. -/
def State.firstEdge (s : State) (tod : Tod) (stamp : Nat) : State :=
  let e := s.time.expected tod.seconds
  if e < 0 ∨ 4611686018427387904 < e then s.setSticky 104
  else
    let nt := e.toNat + (s.nt - stamp)
    let s := { s with time := { s.time with nt := nt, frac := 0, lastEdge := some (tod.seconds, e.toNat), goodRun := 0 } }
    (s.dropFormers.tbMove .acquire).startPeriodic

/-- Table 14-2, ACQUIRE: eight consecutive valid edges within lock_threshold lead to LOCKED. -/
def State.acquireEdge (s : State) (err : Int) : State :=
  let s := ({ s with time := { s.time with phaseError := err } }).steer err
  if err.natAbs ≤ s.time.lockThreshold then
    if 8 ≤ s.time.goodRun + 1 then
      ({ s with time := { s.time with goodRun := 0, everLocked := true, outliers := [] } }).tbMove .locked
    else { s with time := { s.time with goodRun := s.time.goodRun + 1 } }
  else { s with time := { s.time with goodRun := 0 } }

/-- R534: four consecutive outliers agree to within 16,000 units. -/
def outliersAgree (es : List Int) : Bool :=
  es.length == 4 && es.all (fun a => es.all (fun b => decide ((a - b).natAbs ≤ 16000)))

/-- The newest `n` NT units of a list of stretches, newest first. -/
def lastSpan : Nat → List (Nat × Nat) → List (Nat × Nat)
  | _, [] => []
  | n, (d, r) :: rest => if n ≤ d then [(n, r)] else (d, r) :: lastSpan (n - d) rest

/-- R533, R534: an edge in LOCKED. -/
def State.lockedEdge (s : State) (err : Int) (lastStamp stamp : Nat) : State :=
  let s := { s with time := { s.time with
    phaseError := err, rateHist := lastSpan (16 * sec1) ((stamp - lastStamp, s.time.rate) :: s.time.rateHist) } }
  if s.time.outlierLimit < err.natAbs then
    let s := s.bump Ctr.hallPpsOutlier
    let es := (err :: s.time.outliers).take 4
    if outliersAgree es then
      let mean := es.foldl (· + ·) 0 / 4
      let s := { s with time := { s.time with outliers := [], goodRun := 0, slewLeft := mean } }
      let s := (s.steer mean).tbMove .acquire
      if 16000000 < mean.natAbs then s.setSticky 106 else s
    else { s with time := { s.time with outliers := es } }
  else
    ({ s with time := { s.time with outliers := [] } }).steer err

/-- R528: an edge that follows an accepted message is valid when it continues the seconds count or is the first one. -/
def edgeValid (t : TimeBase) (tod : Tod) : Bool :=
  match t.lastEdge with
  | none => true
  | some (sec, _) => tod.seconds == sec + 1

/-- R532: the phase error of an edge. -/
def TimeBase.phase (t : TimeBase) (tod : Tod) (stamp : Nat) : Int := (stamp : Int) - t.expected tod.seconds

/-- R529, R530, R532 to R534: a valid edge at `stamp`, in the state that the time base has; `last` is the stamp of the valid
edge before it. -/
def State.validEdge (s : State) (tod : Tod) (stamp last : Nat) : State :=
  let err := s.time.phase tod stamp
  let t := { s with time := { s.time with lastEdge := some (tod.seconds, stamp) } }
  match s.time.state with
  | .unset => s.firstEdge tod stamp
  | .holdover => ({ t with time := { t.time with goodRun := 0, outliers := [], phaseError := err } }).tbMove .acquire
  | .acquire => t.acquireEdge err
  | .locked => t.lockedEdge err last stamp

/-- R528 to R534, R538: a rising edge of PPS_IN in this Hall cycle, `age` NT units before the time base's count. -/
def execPpsInEdge (age : Nat) (s : State) : Host.Outcome State Fault Refusal :=
  .next (s.whenFree (
    let stamp := s.nt - age
    if s.time.stopped then s else
    let (s, accepted) := s.takeTod stamp
    match accepted with
    | none => s
    | some tod =>
      let valid := edgeValid s.time tod
      let last := match s.time.lastEdge with | some (_, x) => x | none => stamp
      let s := { s with time := { s.time with todLast := some tod } }
      if !valid then s
      else
        let s := s.bump Ctr.hallPpsValid
        ({ s with time := s.time.applySettings }).validEdge tod stamp last))

/-- Table 14-2: the mean rate word over the last 16 s of LOCKED, from segments of duration and rate, newest first. -/
def meanRate (segs : List (Nat × Nat)) : Option Nat :=
  let total := (segs.map (·.1)).foldl (· + ·) 0
  if total = 0 then none else some ((segs.map (fun x => x.1 * x.2)).foldl (· + ·) 0 / total)

/-- Table 14-2: no valid edge for 2 s. -/
def execHoldover (s : State) : Host.Outcome State Fault Refusal :=
  .next (s.whenFree (
    let t := s.time
    let due := match t.lastEdge with
      | some (_, x) => decide (x + 2 * sec1 ≤ t.nt)
      | none => false
    if (t.state == .acquire || t.state == .locked) && due then
      let segs := match t.state, t.lastEdge with
        | .locked, some (_, x) => (t.nt - x, t.rate) :: t.rateHist
        | _, _ => t.rateHist
      let r := (meanRate (lastSpan (16 * sec1) segs)).getD t.rate
      ({ s with time := { t with rate := if t.everLocked then r else t.rate, lastEdge := none, outliers := [], goodRun := 0
                                 rateHist := lastSpan (16 * sec1) segs } }).tbMove .holdover
    else s))

/-- R541: the level of PPS_OUT at the current NT. -/
def execPpsOut (s : State) : Host.Outcome State Fault Refusal :=
  .next (s.whenFree (
    let t := s.time
    let phase := (((t.nt : Int) - t.ppsOutDelay) % 16000000000).toNat
    { s with time := { t with ppsOut := t.state.drivesPps && decide (phase < 100 * ms) } }))

/-- R548: a stopped Wing resumes; its due occurrences start before any other work of the Wing. -/
def execWingResume (wing : Nat) (s : State) : Host.Outcome State Fault Refusal :=
  .next { s with time := { s.time with wingStopped := s.time.wingStopped.filter (· != wing) } }

/-! ### Commands of the Time class (R523, R552) -/

/-- A 16-byte value as a signed number (log entry 23). -/
def signed128 (v : Nat) : Int := (BitVec.ofNat 128 v).toInt

/-- Table 14-3: ranges of the time settings. -/
def timeSettingOk (id : Nat) (v : Nat) : Bool :=
  let i := signed128 v
  match id with
  | 0x7001 => decide (v < 281474976710656)
  | 0x7002 => decide (-16000000 ≤ i ∧ i ≤ 16000000)
  | 0x7003 => decide (-16000000 ≤ i ∧ i ≤ 16000000)
  | 0x7004 => [9600, 19200, 38400, 57600, 115200, 460800, 921600].contains v
  | 0x7005 => decide (16 ≤ v ∧ v ≤ 160000)
  | 0x7006 => decide (1600 ≤ v ∧ v ≤ 16000000)
  | 0x7007 => decide (1 ≤ v ∧ v ≤ 200)
  | 0x7008 => decide (16000 ≤ v ∧ v ≤ 160000000)
  | _ => false

/-- TIME_CONFIG: origin_seconds applies at the next reset, every other setting at the next valid edge. -/
def execTimeConfig (c : CmdIn) (setting inst element value : Nat) (s : State) : Host.Outcome State Fault Refusal :=
  .next (
    let scope := decide (0x7001 ≤ setting ∧ setting ≤ 0x7008)
    let bad := [(!scope, 0), (inst != 0, 2), (element != 0, 4), (scope && !timeSettingOk setting value, 0x10)]
    runNow 0x0601 (.timeConfig c setting inst element value) c bad s (fun _ s =>
      let t := s.time
      if setting = 0x7001 then (okStatus, { s with time := { t with originPending := some value } })
      else (okStatus, { s with time := { t with pendingSettings := mput t.pendingSettings setting (signed128 value) } })))

/-- Table 14-2: the value of a state. -/
def TbState.code : TbState → Nat
  | .unset => 0 | .acquire => 1 | .locked => 2 | .holdover => 3

/-- `n` bytes of a signed number in two's complement. -/
def leInt (n : Nat) (i : Int) : Bytes := leBytes n (i % (256 ^ n : Nat)).toNat

/-- The rate word's offset from nominal in parts per 10^9. -/
def TimeBase.ratePpb (t : TimeBase) : Int :=
  ((t.rate : Int) - (rateNominal : Int)) * 1000000000 / (rateNominal : Int)

/-- Table 17-21. -/
def TimeBase.status (t : TimeBase) : Bytes :=
  let tod := t.todLast.getD { seconds := 0, utcOffset := 0, traceable := false, leap61 := false, leap59 := false,
                              clockClass := 0 }
  leBytes 8 (t.state.code + 8 * b2n t.originPending.isSome) ++ leBytes 8 t.nt ++ leInt 8 t.phaseError
    ++ leInt 4 t.ratePpb ++ zeroBytes 4 ++ leBytes 6 tod.seconds ++ leBytes 2 tod.utcOffset
    ++ leBytes 1 (b2n tod.traceable + 2 * b2n tod.leap61 + 4 * b2n tod.leap59) ++ leBytes 1 tod.clockClass
    ++ zeroBytes 6 ++ leBytes 8 t.originInForce ++ leBytes 8 (t.originPending.getD 0)

/-- TIME_STATUS (Table 17-21). -/
def execTimeStatus (c : CmdIn) (s : State) : Host.Outcome State Fault Refusal :=
  .next (runRead 0x0602 (.timeStatus c) c [] s (fun _ s => okReply s.time.status))

end Sys2Proof.Machine
end

