-- ==== Sys2Proof/Machine/Lanes.lean ====
section
/-!
DEFINITION. Machine/Lanes.lean: digest lanes (chapter 03): frame acceptance, credits, link loss, and the frames that a
lane's egress sends.
-/
namespace Sys2Proof.Machine

/-- A lane. -/
def State.lane (s : State) (n : Nat) : Lane := mget {} s.hall.lanes n

/-- Replaces a lane. -/
def State.setLane (s : State) (n : Nat) (x : Lane) : State :=
  { s with hall := { s.hall with lanes := mput s.hall.lanes n x } }

/-- A lane of the part that is up and receives. -/
def State.laneLive (s : State) (n : Nat) : Bool := decide (n < s.lanesN) && (s.lane n).up && !s.dead

/-- R76: the lane's DLF EtherType. -/
def State.dlfType (s : State) (n : Nat) : Nat := s.setting 0x2004 n 0

/-- The EtherType of an untagged frame. -/
def etherType (frame : Bytes) : Nat := beAt frame 12 2

/-- Table 03-4: offset of the first entry, from the first byte of the destination address. -/
def entriesAt : Nat := 40

/-! ### Credits (R99 to R104) -/

/-- Credits occupied in the lane buffer by slots of the current link. -/
def Lane.occupied (x : Lane) : Nat :=
  (x.buf.filter (fun k => k.session == x.session)).foldl (fun n k => n + k.cost) 0

/-- R102: the credit limit. -/
def Lane.limit (x : Lane) : Nat := (x.lastConsumed + 512 + 65536 - x.occupied % 65536) % 65536

/-- R110: the limit at the start of the Hall cycle of `nt` is kept before it changes in it. -/
def Lane.keepLimit (x : Lane) (nt : Nat) : Lane :=
  match x.limitWas with
  | some (n, _) => if n = nt then x else { x with limitWas := some (nt, x.limit) }
  | none => { x with limitWas := some (nt, x.limit) }

/-- R110: the limit of a DLF frame of the Hall cycle of `nt`: an update of that cycle is not sent in it, so that withholding that
starts in the cycle wins. -/
def Lane.limitAt (x : Lane) (nt : Nat) : Nat :=
  match x.limitWas with
  | some (n, l) => if n = nt then l else x.limit
  | none => x.limit

/-- R103, R104, R121, R123: the credit limit last sent on the current link; before the first, the one that the link started
with. -/
def Lane.lastLimit (x : Lane) : Nat := x.limitSent.getD x.limitStart

/-- R104, R110, R123: the limit that a DLF frame of the lane carries now. -/
def State.limitToSend (s : State) (n : Nat) : Nat :=
  if s.hall.withheld then (s.lane n).lastLimit else (s.lane n).limitAt s.nt

/-! ### Frames from the switch (R76 to R92, R103) -/

/-- Why a frame is discarded (Table 03-9). -/
inductive Discard where
  | fcs | format | overrun | creditFormat
  deriving DecidableEq, Repr

/-- The counter of a reason. -/
def Discard.ctr (n : Nat) : Discard → Nat
  | .fcs => Ctr.laneDiscardFcs n
  | .format => Ctr.laneDiscardFormat n
  | .overrun => Ctr.laneDiscardOverrun n
  | .creditFormat => Ctr.laneDiscardCreditFormat n

/-- R83, R87: a frame is discarded whole. -/
def State.discardFrame (s : State) (n : Nat) (d : Discard) : State :=
  let x := s.lane n
  (s.setLane n { x with rxDiscard := satAdd 65535 x.rxDiscard 1 }).bump (d.ctr n)

/-- Slot size of a DIGEST frame. -/
def slotSize (frame : Bytes) : Nat := if bitOf (leAt frame 20 1) 0 then 256 else 128

/-- R83: version, type, lane_id, entry_count and length of a frame of type `ft`. -/
def frameFormatOk (n ft : Nat) (frame : Bytes) : Bool :=
  let count := leAt frame 19 1
  leAt frame 14 1 == 1 && leAt frame 15 1 == ft && leAt frame 18 1 == n &&
    (if ft = 1 then
      decide (1 ≤ count) && decide (count * slotSize frame ≤ 1024) &&
        frame.length == entriesAt + count * slotSize frame
    else count == 0 && frame.length == 60)

/-- R86: head_length of a slot is not 0 and lies within its capacity and the packet. -/
def slotOk (slot : Bytes) : Bool :=
  let h := leAt slot 0x12 1
  decide (1 ≤ h) && decide (h + 32 ≤ slot.length) && decide (h + 4 ≤ leAt slot 6 2)

/-- R191: switch_ts as NT. -/
def State.switchNt (s : State) (slot : Bytes) : Int :=
  ((leAt slot 0x0C 6 : Nat) - (s.time.originInForce : Nat) : Int) * 16000000000 + (leAt slot 8 4 : Nat) * 16

/-- R740: the stamp that the verdict path uses for an accepted slot, and the state with the lane's pair stamp moved. -/
def State.stampSlot (s : State) (n stamp : Nat) (slot : Bytes) : Nat × State :=
  if s.pair.state = .active then
    let v := (s.switchNt slot).toNat
    let p := mget 0 s.pair.stamps n
    let e := max v p
    let s := { s with pair := { s.pair with stamps := mput s.pair.stamps n e } }
    (e, if v < p then s.bump Ctr.pairStampClamped else s)
  else (stamp, s)

/-- R536: a slot with a switch_ts takes part in the cross-check of its lane's 1 ms interval. -/
def Lane.crossCheck (x : Lane) (stamp : Nat) (v : Int) (slot : Bytes) : Lane :=
  if leAt slot 8 10 = 0 then x
  else
    let t := (stamp : Int) - v
    { x with leastTransit := some (match x.leastTransit with | none => t | some u => min t u) }

/-- R85, R86, R88: one slot of an accepted frame is accepted into the lane buffer, or rejected. -/
def State.takeSlot (s : State) (n stamp pos : Nat) (slot : Bytes) : State :=
  if slotOk slot then
    let r := s.stampSlot n stamp slot
    let s := r.2
    let x := (s.lane n).crossCheck stamp (s.switchNt slot) slot
    (s.setLane n { x with buf := x.buf ++ [{ stamp := stamp, lane := n, pos := pos, cost := slot.length / 128,
                                              session := x.session, at_ := r.1, data := slot }] }).bump (Ctr.laneSlotsAccepted n)
  else s.bump (Ctr.laneSlotReject n)

/-- The slots of a frame from number `i` on. -/
def takeSlots (n stamp size : Nat) : Nat → Nat → Bytes → State → State
  | 0, _, _, s => s
  | k + 1, i, rest, s => takeSlots n stamp size k (i + 1) (rest.drop size) (s.takeSlot n stamp i (rest.take size))

/-- An accepted DLF frame: its sequence number and credits_consumed are taken. -/
def State.acceptFrame (s : State) (n : Nat) (frame : Bytes) : State :=
  let x := s.lane n
  let seq := leAt frame 16 2
  let s := s.setLane n { x.keepLimit s.nt with rxSeq := some seq, lastConsumed := leAt frame 22 2 }
  let s := s.bump (Ctr.laneFramesRx n)
  match x.rxSeq with
  | some p => if seq = (p + 1) % 65536 then s else s.bump (Ctr.laneSeqGap n)
  | none => s

/-- R103: the credit check of a frame with the given cost; a CONTROL frame takes the first comparison only. -/
def Lane.creditCheck (x : Lane) (consumed cost : Nat) (digest : Bool) : Option Discard :=
  if serialLt x.lastLimit consumed then some .overrun
  else
    let adv := (consumed + 65536 - x.lastConsumed % 65536) % 65536
    if digest && (serialLt adv cost) then some .creditFormat else none

/-- NT units that `w` bytes take at 200 Gb/s, rounded up. -/
def wireNt (w : Nat) : Nat := (w * 16 + 24) / 25

/-- R81, R538: NT units from the start-of-frame delimiter of the longest DIGEST frame to its end. -/
def longestDigest : Nat := wireNt (8 + entriesAt + 1024 + 4)

/-- How long behind its stamp a slot can still reach the lane buffer: the longest DIGEST frame, and in an active pair, where the
switch gives the stamp, the bound of the cross-check too (log entry 215). -/
def State.stampSlack (s : State) : Nat :=
  longestDigest + (if s.pair.state = .active then s.time.crosscheckBound else 0)

/-- The least stamp that a slot can have which the lane is still to receive (R539, R740). -/
def State.leastArrival (s : State) (n : Nat) (x : Lane) : Nat :=
  max (if s.pair.state = .active then mget 0 s.pair.stamps n else match x.lastStamp with | some t => t + 1 | none => 0)
    (s.nt - s.stampSlack)

/-- A slot stamped before `t` waits in a lane buffer or can still arrive on a lane that is up. -/
def State.arrives (s : State) (t : Nat) : Bool :=
  s.hall.lanes.any (fun e => e.2.buf.any (fun k => decide (k.at_ < t)) || (e.2.up && decide (s.leastArrival e.1 e.2 < t)))

/-- R539: a frame that arrived at `stamp` follows the last one of the lane. -/
def Lane.follows (x : Lane) (stamp : Nat) : Bool :=
  match x.lastStamp with
  | some t => decide (t < stamp)
  | none => true

/-- R112: codewords of a frame's reception. -/
def State.fecCount (s : State) (n corrected uncorrectable : Nat) : State :=
  let x := s.lane n
  let s := s.setLane n { x with corrected := x.corrected + corrected }
  (s.bumpN (Ctr.laneFecCorrected n) corrected).bumpN (Ctr.laneFecUncorrectable n) uncorrectable

/-- R83, R112: a frame arrived whole: an uncorrectable codeword corrupts the frame that it falls in. -/
def arrivedWhole (fcsOk cut : Bool) (uncorrectable : Nat) : Bool := fcsOk && !cut && uncorrectable == 0

/-- R544: a lane receives: it is live, and no occurrence of a Hall block is due before. -/
def State.receives (s : State) (n : Nat) : Bool := s.laneLive n && s.hallFree

/-- DIGEST (R83 to R92, R103, R538, R539): a frame that is not a CONTROL frame ends; its start-of-frame delimiter crossed
the lands `age` NT units ago, after that of the lane's last frame and no longer ago than the frame takes. -/
def execDigest (lane age : Nat) (frame : Bytes) (fcsOk cut : Bool) (corrected uncorrectable : Nat) (s : State) :
    Host.Outcome State Fault Refusal :=
  .next (
    let good := arrivedWhole fcsOk cut uncorrectable
    let stamp := s.nt - age
    let timely := decide (age ≤ max longestDigest (wireNt (8 + frame.length + 4))) && (s.lane lane).follows stamp
    if !s.receives lane || (good && (etherType frame != s.dlfType lane || leAt frame 15 1 == 3 || !timely)) then s
    else
      let s := s.fecCount lane corrected uncorrectable
      if !good then s.discardFrame lane .fcs
      else
      let s := s.setLane lane { s.lane lane with lastStamp := some stamp }
      if !frameFormatOk lane 1 frame then s.discardFrame lane .format
      else
        let size := slotSize frame
        let count := leAt frame 19 1
        match (s.lane lane).creditCheck (leAt frame 22 2) (count * (size / 128)) true with
        | some d => s.discardFrame lane d
        | none => takeSlots lane stamp size count 0 (frame.drop entriesAt) (s.acceptFrame lane frame))

/-- CONTROL_RECEIVE (R103). -/
def execControlReceive (lane : Nat) (frame : Bytes) (fcsOk cut : Bool) (corrected uncorrectable : Nat) (s : State) :
    Host.Outcome State Fault Refusal :=
  .next (
    let good := arrivedWhole fcsOk cut uncorrectable
    if !s.receives lane || (good && etherType frame != s.dlfType lane) || (good && leAt frame 15 1 != 3) then s
    else
      let s := s.fecCount lane corrected uncorrectable
      if !good then s.discardFrame lane .fcs
      else if !frameFormatOk lane 3 frame then s.discardFrame lane .format
      else
        match (s.lane lane).creditCheck (leAt frame 22 2) 0 false with
        | some d => s.discardFrame lane d
        | none => s.acceptFrame lane frame)

/-- FOREIGN_FRAME (R84). -/
def execForeignFrame (lane : Nat) (frame : Bytes) (fcsOk cut : Bool) (corrected uncorrectable : Nat) (s : State) :
    Host.Outcome State Fault Refusal :=
  .next (
    let good := arrivedWhole fcsOk cut uncorrectable
    if !s.receives lane || (good && (etherType frame == s.dlfType lane || etherType frame == 0x86DD)) then s
    else
      let s := s.fecCount lane corrected uncorrectable
      if good then s.bump (Ctr.laneForeign lane) else s.discardFrame lane .fcs)

/-- RX_IPV6 (R558). -/
def execRxIpv6 (lane : Nat) (frame : Bytes) (fcsOk cut : Bool) (corrected uncorrectable : Nat) (s : State) :
    Host.Outcome State Fault Refusal :=
  .next (
    let good := arrivedWhole fcsOk cut uncorrectable
    if !s.receives lane || (good && etherType frame != 0x86DD) then s
    else
      let s := s.fecCount lane corrected uncorrectable
      if good then s.bump (Ctr.portRxIpv6 lane) else s.discardFrame lane .fcs)

/-! ### Link loss (R117 to R123) -/

/-- R118: the lane goes down; its pending verdict records and those on the wire are discarded. -/
def State.dropLane (s : State) (n : Nat) : State :=
  let x := s.lane n
  let wire := if s.nt < x.lastTx then x.onWire else 0
  (s.setLane n { x with up := false, verdicts := [], onWire := 0, controlDue := false }).bumpN
    (Ctr.laneVerdictsDroppedLink n) (x.verdicts.length + wire)

/-- LANE_DOWN (R117, R120): the PCS loses lock or the partner signals a fault. -/
def execLaneDown (lane : Nat) (s : State) : Host.Outcome State Fault Refusal :=
  .next (
    if s.receives lane then ((s.dropLane lane).bump (Ctr.laneLinkDown lane)).setSticky lane else s)

/-- R566: the templates of a queue are due. -/
def ExpQueue.templatesDue (x : ExpQueue) : ExpQueue := { x with tmplNt := none }

/-- R566: the templates of every IPFIX queue of a port are due. -/
def State.templatesDue (s : State) (port : Nat) : State :=
  { s with exp := { s.exp with queues := s.exp.queues.map (fun (e : Nat × ExpQueue) =>
      if s.setting 0x4002 e.1 0 = port then (e.1, e.2.templatesDue) else e) } }

/-- LINK_UP (R121, R123, R535): the partner and the channel meet the limits and the lane comes up. -/
def execLinkUp (lane : Nat) (s : State) : Host.Outcome State Fault Refusal :=
  .next (
    let x := s.lane lane
    if lane < s.lanesN ∧ ¬ x.up ∧ s.setting 0x2001 lane 0 = 1 ∧ s.time.state ≠ .unset ∧ ¬ s.time.stopped ∧ ¬ s.dead ∧
        ¬ s.power.serdesLost.contains (lane / 12) ∧ s.boot.stage = .done ∧ s.hallFree then
      let s := s.setLane lane { x with
        up := true, session := x.session + 1, limitSent := none, limitWas := none, limitStart := if s.hall.withheld then 0 else 512, lastConsumed := 0, txSeq := 0, rxSeq := none,
        rxDiscard := 0, lastTx := s.nt, egressFree := s.nt, onWire := 0, controlDue := false, verdicts := [] }
      { s with pair := { s.pair with stamps := mput s.pair.stamps lane 0 } }.templatesDue lane
    else s)

/-! ### Egress (R77, R78, R82, R96, R104 to R109, R554) -/

/-- Table 03-6: a verdict record. -/
def VerdictRec.bytes (r : VerdictRec) : Bytes :=
  leBytes 4 r.tag ++ leBytes 1 r.action ++ leBytes 1 r.partition ++ leBytes 2 r.flags ++ leBytes 4 r.param
    ++ leBytes 1 r.cls ++ leBytes 1 0 ++ leBytes 2 r.score

/-- R82: zero bytes up to the 64-byte minimum, the FCS aside. -/
def padFrame (bs : Bytes) : Bytes := bs ++ zeroBytes (60 - bs.length)

/-- R77, R656: the source address of a lane: the device's base MAC address plus the lane number; an address setting holds
its first octet in its lowest byte. -/
def State.srcMac (s : State) (n : Nat) : Bytes :=
  beBytes 6 ((beNat (leBytes 6 (s.setting 0x0001 0 0)) + n) % 281474976710656)

/-- Table 03-4: a DLF frame of the device with its records. -/
def State.dlfFrame (s : State) (n ft : Nat) (recs : List VerdictRec) : Bytes :=
  let x := s.lane n
  padFrame (leBytes 6 (s.setting 0x2005 n 0) ++ s.srcMac n ++ beBytes 2 (s.dlfType n)
    ++ leBytes 1 1 ++ leBytes 1 ft ++ leBytes 2 x.txSeq ++ leBytes 1 n ++ leBytes 1 recs.length ++ leBytes 2 0
    ++ leBytes 2 (s.limitToSend n) ++ leBytes 2 (x.rxSeq.getD 0) ++ leBytes 2 x.rxDiscard ++ leBytes 2 0
    ++ leBytes 8 s.nt ++ leBytes 2 0 ++ recs.flatMap VerdictRec.bytes)

/-- The lane's egress sends a DLF frame with its next sequence number and the credit limit of R104. -/
def State.sendDlf (s : State) (n ft : Nat) (recs : List VerdictRec) : State :=
  let x := s.lane n
  let frame := s.dlfFrame n ft recs
  let done := s.nt + wireNt (8 + frame.length + 4)
  let lim := s.limitToSend n
  let s := s.emit (.laneFrame n frame)
  (s.setLane n { x with
    txSeq := (x.txSeq + 1) % 65536, limitSent := some lim, lastTx := done, egressFree := done + wireNt 12,
    onWire := recs.length, wire := (s.nt, done + wireNt 12) :: x.wire, controlDue := false, verdicts := x.verdicts.drop recs.length }).bumpN
      (Ctr.laneVerdictsTx n) recs.length

/-- The egress of a lane that is up is free to start a frame. -/
def State.egressIdle (s : State) (n : Nat) : Bool := s.receives n && decide ((s.lane n).egressFree ≤ s.nt)

/-- VERDICT_FRAME (R96): up to 64 pending records in emission order. -/
def execVerdictFrame (lane : Nat) (s : State) : Host.Outcome State Fault Refusal :=
  .next (s.whenFree (
    let recs := (s.lane lane).verdicts.take 64
    if s.egressIdle lane && !recs.isEmpty then s.sendDlf lane 2 recs else s))

/-- R105, R109: a CONTROL frame that carries a credit limit is due. -/
def State.controlOwed (s : State) (n : Nat) : Bool :=
  let x := s.lane n
  x.controlDue || (x.limitSent != some (s.limitToSend n) && decide (x.lastTx + 1600 ≤ s.nt))

/-- CONTROL_FRAME_CREDIT (R105, R109, R554). -/
def execControlFrameCredit (lane : Nat) (s : State) : Host.Outcome State Fault Refusal :=
  .next (s.whenFree (
    if s.egressIdle lane && (s.lane lane).verdicts.isEmpty && s.controlOwed lane then s.sendDlf lane 3 [] else s))

/-- CONTROL_FRAME_IDLE (R106). -/
def execControlFrameIdle (lane : Nat) (s : State) : Host.Outcome State Fault Refusal :=
  .next (s.whenFree (
    let x := s.lane lane
    if s.egressIdle lane && x.verdicts.isEmpty && decide (x.lastTx + 160000 ≤ s.nt) then s.sendDlf lane 3 [] else s))

/-! ### Withholding (R66, R108 to R110, R123) -/

/-- The dispatcher queue of a partition on a Wing (R64). -/
def Wing.queue (w : Wing) (p : Nat) : List Packet := mget [] w.queues p

/-- Lengths of every dispatcher queue. -/
def State.queueLengths (s : State) : List Nat :=
  (s.wing0.queues ++ s.wing1.queues).map (fun q => q.2.length)

/-- R66: a dispatcher queue is full. -/
def State.anyQueueFull (s : State) : Bool := s.queueLengths.any (fun n => decide (2048 ≤ n))

/-- R66: withholding begins when a queue is full. -/
def State.withhold (s : State) : State :=
  if s.anyQueueFull then { s with hall := { s.hall with withheld := true } } else s

/-- CREDIT_RESUME (R66, R109): every dispatcher queue holds at most 1,024 tokens. -/
def execCreditResume (s : State) : Host.Outcome State Fault Refusal :=
  .next (s.whenFree (
    if s.hall.withheld && s.queueLengths.all (fun n => decide (n ≤ 1024)) then
      let s := { s with hall := { s.hall with withheld := false } }
      (List.range s.lanesN).foldl (fun s n =>
        let x := s.lane n
        if x.up then s.setLane n { x with controlDue := true } else s) s
    else s))

/-- R556: NT units of the last 1,024 Hall cycles that DLF frames of the lane occupied, with the gaps behind them. -/
def Lane.busy (x : Lane) (nt : Nat) : Nat :=
  (x.wire.map (fun e => min nt e.2 - max (nt - 16384) e.1)).foldl (· + ·) 0

/-- One Hall cycle of a lane: R111, R556: a lane whose credit limit is held or that has no free credit, and a port whose
DLF frames take more than its verdict reserve, count the cycle. -/
def State.countLane (s : State) (n : Nat) (x : Lane) : State :=
  let s := if x.up && (s.hall.withheld || decide (512 ≤ x.occupied)) then s.bump (Ctr.laneCreditHoldCycles n) else s
  let s := if s.setting 0x3005 n 0 * 16384 < x.busy s.nt * 100 then s.bump (Ctr.portOverReserve n) else s
  let kept := x.wire.filter (fun e => decide (s.nt < e.2 + 16384))
  if kept.length = x.wire.length then s else s.setLane n { x with wire := kept }

/-- One Hall cycle of every lane. -/
def State.countLanes (s : State) : State := s.hall.lanes.foldl (fun s e => s.countLane e.1 e.2) s

end Sys2Proof.Machine
end

