-- ==== Sys2Proof/Machine/PairOps.lean ====
section
/-!
DEFINITION. Machine/PairOps.lean: what the members of a pair exchange (chapter 20): control lane, sequenced messages,
decisions with their effective instants, and the sums of the state hashes. The commands stand in Machine/Pair.lean.
-/
namespace Sys2Proof.Machine

/-- R735: the device is a member of an active pair. -/
def State.paired (s : State) : Bool := s.pair.state == .active

/-- The member of an active pair that takes the decisions (R741). -/
def State.isPrimary (s : State) : Bool := s.paired && !s.pair.standby

/-- The member of an active pair that follows them. -/
def State.isStandby (s : State) : Bool := s.paired && s.pair.standby

/-- R733: the control lane, 0 when no Banister lane is up. -/
def State.controlLane (s : State) : Nat := (s.pair.lanesUp.min?).getD 0

/-- R730: the key of the frames that the member sends: "lo2hi" from the lower serial. -/
def State.sendKey (s : State) : Option Bytes :=
  if s.boot.serial < s.pair.partnerSerial then s.pair.keyLoHi else s.pair.keyHiLo

/-! ### Frames and message headers (R729, R733) -/

/-- Table 20-2: the type of a message. -/
def PairMsg.code : PairMsg → Nat
  | .heartbeat _ _ _ _ _ => 0x01
  | .insert _ _ _ => 0x02
  | .tableChange _ _ _ _ => 0x03
  | .prepare _ => 0x04
  | .vote _ _ _ => 0x05
  | .commit _ _ => 0x06
  | .stateHash _ _ => 0x07
  | .resyncBegin _ _ _ => 0x08
  | .resyncData _ _ _ => 0x09
  | .blockRequest _ _ _ => 0x0A
  | .resyncEnd _ _ _ => 0x0B
  | .role _ => 0x0C
  | .release => 0x0D
  | .update _ => 0x0E
  | .reserved c => c

/-- A change of a unit as bytes behind E, its fields least significant byte first (log entry 32). -/
def unitBytes : PairUnit → Bytes
  | .bucket b d => leBytes 4 b ++ d
  | .overflow i d => leBytes 4 (16777216 + i) ++ d
  | .larder h d => leBytes 4 h ++ d
  | .maxima m d => leBytes 1 m ++ d.flatMap (fun x => leBytes 4 x.1 ++ leBytes 4 x.2)
  | .windows m d => leBytes 1 m ++ d.flatMap (fun x =>
      leBytes 8 x.1 ++ leBytes 8 (x.2.1 % 18446744073709551616).toNat ++ leBytes 8 x.2.2.1 ++ leBytes 8 x.2.2.2)

/-- R748: bytes of the command packet of a mirrored command: the header of Table 17-1 and its parameters, and for EPOCH_ARM the
measurement behind them. -/
def MirrorCmd.size : MirrorCmd → Nat
  | .configure _ _ => 32 + 0x38
  | .release _ => 32
  | .setting _ _ _ _ _ => 32 + 0x20
  | .rule _ _ _ _ _ => 32 + 0x110
  | .bankArm _ => 32 + 8
  | .epochArm _ _ _ _ _ _ => 32 + 0x10 + 48
  | .epochCancel _ => 32

/-- Table 20-2: bytes of a message's payload (log entry 223). -/
def PairMsg.size : PairMsg → Nat
  | .heartbeat _ _ _ _ _ => 16
  | .insert _ _ _ => 76
  | .tableChange _ _ _ u => 9 + (unitBytes u).length
  | .prepare m => m.size
  | .vote _ _ _ => 36
  | .commit _ _ => 12
  | .stateHash _ _ => 136
  | .resyncBegin _ _ _ => 10
  | .resyncData _ _ u => 2 + (unitBytes u).length
  | .blockRequest _ _ _ => 6
  | .resyncEnd _ _ _ => 6
  | .role _ => 8
  | .release => 0
  | .update x => if x.op = 1 then 112 else 16 + x.length
  | .reserved _ => 0

/-- Table 20-1: the header of a message with its msg_seq. -/
def PairMsg.header (m : PairMsg) (seq : Nat) : Bytes :=
  leBytes 1 m.code ++ leBytes 1 (1 + (m.size + 7) / 8) ++ leBytes 2 0 ++ leBytes 4 seq

/-- R729, Table 03-4: the DLF header of a PAIR frame with `count` messages that leaves on a lane at `tx`. -/
def State.pairHeader (s : State) (lane count tx : Nat) : Bytes :=
  leBytes 1 1 ++ leBytes 1 0x20 ++ leBytes 2 (mget 0 s.pair.frameSeq lane) ++ leBytes 1 lane ++ leBytes 1 count ++ leBytes 2 0 ++
    leBytes 2 0 ++ leBytes 2 (mget 0 s.pair.rxSeqs lane) ++ leBytes 2 (mget 0 s.pair.rxDiscards lane) ++ leBytes 2 0 ++ leBytes 8 tx ++
    leBytes 2 0

/-- R729: the nonce of a PAIR frame. -/
def pairNonce (lane tx : Nat) : Bytes := leBytes 4 lane ++ leBytes 8 tx

/-- R729: a frame of messages leaves on a Banister lane; its tx_nt is greater than that of the frame before it. -/
def State.pairFrame (s : State) (lane : Nat) (msgs : List (Nat × PairMsg)) : Nat × State :=
  let tx := max s.nt (mget 0 s.pair.lastTx lane + 1)
  let header := s.pairHeader lane msgs.length tx
  let s := { s with pair := { s.pair with
    lastTx := mput s.pair.lastTx lane tx, frameSeq := mput s.pair.frameSeq lane ((mget 0 s.pair.frameSeq lane + 1) % 65536),
    lastSentNt := if lane = s.controlLane then tx else s.pair.lastSentNt } }
  (tx, s.emit (.pairFrame s.sendKey lane header (pairNonce lane tx) (msgs.map (fun m => (m.2.header m.1, m.2)))))

/-- R733, R741: a sequenced message leaves on the control lane; its E is the frame's tx_nt plus 320,000. Answers the
message's number and E. -/
def State.pairSend (s : State) (mk : Nat → PairMsg) : Nat × Nat × State :=
  let seq := s.pair.sentSeq + 1
  let lane := s.controlLane
  let tx := max s.nt (mget 0 s.pair.lastTx lane + 1)
  let body := mk (tx + 320000)
  let s := (s.pairFrame lane [(seq, body)]).2
  (seq, tx + 320000, { s with pair := { s.pair with
    sentSeq := seq, unacked := s.pair.unacked ++ [{ seq := seq, body := body, firstNt := tx }] } })

/-- R741: a decision waits for its effective instant as an occurrence of a Wing's Cellar. -/
def State.addDecision (s : State) (kind : Nat) (d : Decision) : State :=
  let s := { s with pair := { s.pair with decisions := s.pair.decisions ++ [d] } }
  s.enqueue (blkCellar d.wing) { instant := d.e, kind := kind, key := d.seq, periodic := false }

/-- R741: the primary takes a decision: it sends the message and schedules its effect; answers E. -/
def State.pairDecide (s : State) (kind w p : Nat) (mk : Nat → PairMsg) (reason : Nat := 4) : Nat × State :=
  let r := s.pairSend mk
  let e := r.2.1
  (e, r.2.2.addDecision kind { e := e, seq := r.1, wing := w, partition := p, body := mk e, reason := reason, own := true })

/-! ### Sums (R749) -/

/-- CRC-64, polynomial 0x42F0_E1EB_A9EA_3693, one bit. -/
def crc64Bit (c : BitVec 64) : BitVec 64 := if c.getLsbD 63 then (c <<< 1) ^^^ 0x42F0E1EBA9EA3693#64 else c <<< 1

/-- CRC-64, one byte. -/
def crc64Byte (c : BitVec 64) (b : Byte) : BitVec 64 :=
  let x := c ^^^ (b.setWidth 64 <<< 56)
  crc64Bit (crc64Bit (crc64Bit (crc64Bit (crc64Bit (crc64Bit (crc64Bit (crc64Bit x)))))))

/-- R749: CRC-64 of a string, initial value 0, no reflection, no final XOR. -/
def crc64 (bs : Bytes) : Nat := (bs.foldl crc64Byte 0#64).toNat

/-- R749: a digest joins the sum of interval k for a partition on a Wing, modulo 2^64. -/
def State.addDigest (s : State) (stamp p w digest : Nat) : State :=
  let k := stamp / 16000000
  let i := 2 * p + w
  let sums := mget [] s.pair.sums k
  let sums' := mput sums i ((mget 0 sums i + digest) % 18446744073709551616)
  { s with pair := { s.pair with sums := mput s.pair.sums k sums' } }

/-- R749: the digest of a change that takes effect. -/
def PairMsg.digest : PairMsg → Nat
  | .insert e h d => crc64 (leBytes 8 e ++ leBytes 8 e ++ leBytes 4 h ++ d)
  | .tableChange e w _ u => crc64 (leBytes 8 e ++ leBytes 8 e ++ leBytes 1 w ++ unitBytes u)
  | _ => 0

/-- R745: a packet of a partition on a Wing stamped before `e` has not returned its lookup, or can still arrive (log entry 215). -/
def State.lookupOwed (s : State) (w p e : Nat) : Bool :=
  let x := if w = 0 then s.wing0 else s.wing1
  decide (s.nt < e) ||
    x.stairs.any (fun y => y.pkt.partition == p && y.lookup == 3 && decide (y.pkt.slot.at_ < e)) ||
    (mget [] x.queues p).any (fun k => decide (k.slot.at_ < e)) ||
    s.hall.tokens.any (fun k => k.partition == p && decide (k.slot.at_ < e)) || s.arrives e

/-- R745: the changes that are still in a Wing's log. -/
def State.liveLog (s : State) (w : Nat) : List LogEntry :=
  (mget [] s.pair.log w).filter (fun x => s.lookupOwed w x.partition x.e)

/-- R747: the primary defers changes of a Wing while its change log is full on either member. -/
def State.logFull (s : State) (w : Nat) : Bool :=
  decide (4096 ≤ (s.liveLog w).length) || decide (4096 ≤ mget 0 s.pair.partnerLog w)

/-- R549, R741: the event queue that a decision of a Wing joins has no room; a command that decides is rejected with ST_BUSY. -/
def State.noRoom (s : State) (w : Nat) : Bool := s.isPrimary && s.queueFull (blkCellar w)

/-- R549, R747: the primary's own decisions of a Wing wait for room in its change log and in its event queue. -/
def State.decisionWaits (s : State) (w : Nat) : Bool := s.isPrimary && (s.logFull w || s.queueFull (blkCellar w))

/-- R744: a table change of a unit of a Wing waits for its effective instant. -/
def State.changePending (s : State) (w : Nat) (p : PairUnit → Bool) : Bool :=
  s.pair.decisions.any (fun d =>
    match d.body with
    | .tableChange _ v _ u => v == w && p u
    | _ => false)

/-- The unit is a given bucket. -/
def PairUnit.isBucket (b : Nat) : PairUnit → Bool
  | .bucket c _ => c == b
  | _ => false

/-- R745: a change that takes effect is logged with the contents it replaced. -/
def State.logChange (s : State) (w : Nat) (x : LogEntry) : State :=
  if s.paired then { s with pair := { s.pair with log := mput s.pair.log w (s.liveLog w ++ [x]) } } else s

/-- R751 to R753: the resynchronisation of a partition on a Wing, if one runs. -/
def State.resyncOf (s : State) (p w : Nat) : Option Resync := mfind s.pair.resync (16 * w + p)

/-- The unit of a bucket, an overflow entry, a Larder block, the maxima of a model slot or the counts of a window slot as a
number. -/
def bucketUnit (b : Nat) : Nat := b
def overflowUnit (i : Nat) : Nat := 16777216 + i
def larderUnit (h : Nat) : Nat := 67108864 + h
def maximaUnit (m : Nat) : Nat := 134217728 + m
def windowsUnit (n : Nat) : Nat := 134217736 + n

/-- The number of a unit. -/
def PairUnit.number : PairUnit → Nat
  | .bucket b _ => bucketUnit b
  | .overflow i _ => overflowUnit i
  | .larder h _ => larderUnit h
  | .maxima m _ => maximaUnit m
  | .windows n _ => windowsUnit n

/-- Changes a resynchronisation that runs. -/
def State.modResync (s : State) (p w : Nat) (f : Resync → Resync) : State :=
  match s.resyncOf p w with
  | none => s
  | some r => { s with pair := { s.pair with resync := mput s.pair.resync (16 * w + p) (f r) } }

/-- The primary has the unit's Q image still to save or to send. -/
def Resync.lacks (r : Resync) (unit : Nat) : Bool := !r.sent.contains unit && !r.saved.any (fun e => e.1 == unit)

/-- R752: the primary saves a unit's Q image when a packet stamped at or after Q is about to touch the unit first. -/
def State.saveImage (s : State) (p w stamp : Nat) (u : PairUnit) : State :=
  match s.resyncOf p w with
  | none => s
  | some r =>
    if s.isPrimary && decide (r.q ≤ stamp) && r.lacks u.number then
      s.modResync p w (fun r => { r with saved := r.saved ++ [(u.number, u)] })
    else s

/-- R751: a saved Q image takes what a packet stamped before Q, or a change whose E lies before Q, does to its unit. -/
def State.amendImage (s : State) (p w stamp unit : Nat) (f : PairUnit → PairUnit) : State :=
  s.modResync p w (fun r =>
    if stamp < r.q then { r with saved := r.saved.map (fun e => if e.1 = unit then (e.1, f e.2) else e) } else r)

/-- R752: a unit's Q image leaves for the standby. -/
def State.sendImage (s : State) (w p : Nat) (u : PairUnit) : State :=
  let s := s.modResync p w (fun r =>
    { r with sent := u.number :: r.sent, sentCount := r.sentCount + 1, saved := r.saved.filter (fun e => e.1 != u.number) })
  let s := s.bumpN Ctr.pairResyncBytes (unitBytes u).length
  (s.pairFrame s.controlLane [(0, .resyncData p w u)]).2

/-- R752: bytes that saved Q images take in the resync buffer of a Wing. -/
def State.resyncBuffer (s : State) (w : Nat) : Nat :=
  ((List.range 8).flatMap (fun p => ((s.resyncOf p w).map (·.saved)).getD [])).foldl (fun n e => n + (unitBytes e.2).length) 0

/-- Table 20-8: the resync buffer of a Wing. -/
def resyncBufferBytes : Nat := 268435456

/-- The counts of a partition's window slot as a unit. -/
def State.windowsImage (s : State) (p n : Nat) : PairUnit :=
  .windows n ((mget [] s.hall.windows (2 * p + n)).map (fun c => (c.epoch, c.index, c.pkts, c.bytes)))

/-- R752: a packet is about to be counted in a partition's windows; packets are counted in the order of their stamps. -/
def State.touchWindows (s : State) (p stamp : Nat) : State :=
  [0, 1].foldl (fun (s : State) w =>
    (s.saveImage p w stamp (s.windowsImage p 0)).saveImage p w stamp (s.windowsImage p 1)) s

/-- R753: on the standby, a packet stamped at or after Q waits for a unit whose Q image has not arrived. -/
def State.unitMissing (s : State) (p w stamp unit : Nat) : Bool :=
  s.isStandby &&
    match s.resyncOf p w with
    | none => false
    | some r => decide (r.q ≤ stamp) && !r.sent.contains unit

end Sys2Proof.Machine
end

