-- ==== Sys2Proof/Machine/Export.lean ====
section
/-!
DEFINITION. Machine/Export.lean: the export scheduler (chapter 15): payloads and frames, the choice of a frame by weighted
fair queueing, shaping, gate lists and sampling.
-/
namespace Sys2Proof.Machine

/-- An export queue. -/
def State.xq (s : State) (q : Nat) : ExpQueue := mget {} s.exp.queues q

/-- Replaces an export queue. -/
def State.setXq (s : State) (q : Nat) (x : ExpQueue) : State :=
  { s with exp := { s.exp with queues := mput s.exp.queues q x } }

/-- An egress port's scheduler. -/
def State.xport (s : State) (n : Nat) : ExpPort := mget {} s.exp.ports n

/-- Replaces an egress port's scheduler. -/
def State.setXport (s : State) (n : Nat) (x : ExpPort) : State :=
  { s with exp := { s.exp with ports := mput s.exp.ports n x } }

/-- Placement of a queue (R569). -/
def State.xqPort (s : State) (q : Nat) : Nat := s.setting 0x4002 q 0
def State.xqClass (s : State) (q : Nat) : Nat := s.setting 0x4003 q 0

/-! ### Payloads (R563 to R567, R570) -/

/-- A template's fields: element, length and whether it is an enterprise element (Table 15-5). -/
def tmplFields (v6 ent : Bool) : List (Nat × Nat × Bool) :=
  (if v6 then [(27, 16, false), (28, 16, false)] else [(8, 4, false), (12, 4, false)]) ++
    [(4, 1, false), (7, 2, false), (11, 2, false), (86, 8, false), (156, 8, false), (157, 8, false), (136, 1, false)] ++
    (if ent then [(1, 1, true), (2, 4, true), (3, 2, true), (4, 1, true), (5, 2, true)] else [])

/-- A template record of RFC 7011. -/
def tmplBytes (pen : Nat) (v6 : Bool) : Bytes :=
  let fs := tmplFields v6 (pen != 0)
  beBytes 2 (if v6 then 257 else 256) ++ beBytes 2 fs.length ++
    fs.flatMap (fun f => if f.2.2 then beBytes 2 (32768 + f.1) ++ beBytes 2 f.2.1 ++ beBytes 4 pen
                         else beBytes 2 f.1 ++ beBytes 2 f.2.1)

/-- R566: the template set. -/
def tmplSet (pen : Nat) : Bytes :=
  let b := tmplBytes pen false ++ tmplBytes pen true
  beBytes 2 2 ++ beBytes 2 (4 + b.length) ++ b

/-- A data set of one template, empty when no item uses it. -/
def dataSet (t : Nat) (items : List ExpItem) : Bytes :=
  let b := (items.filter (fun i => i.type == t)).flatMap (·.data)
  if b.isEmpty then [] else beBytes 2 t ++ beBytes 2 (4 + b.length) ++ b

/-- R565: Export Time. -/
def State.exportTime (s : State) : Nat :=
  ((s.time.originInForce : Int) + (s.nt / 16000000000 : Nat) -
    ((s.time.todLast.map (·.utcOffset)).getD 0 : Nat)).toNat % 4294967296

/-- R564 to R566: an IPFIX message. -/
def State.ipfixPayload (s : State) (x : ExpQueue) (items : List ExpItem) : Bytes :=
  let pen := x.openPen
  let p := (items.head?.map (·.partition)).getD 0
  let first := (items.head?.map (·.type)).getD 256
  let sets := (if x.openTmpl then tmplSet pen else []) ++ dataSet first items ++ dataSet (513 - first) items
  beBytes 2 10 ++ beBytes 2 (16 + sets.length) ++ beBytes 4 s.exportTime ++ beBytes 4 (mget 0 x.domSeq p) ++
    beBytes 4 (s.setting 0x0007 0 0 + p) ++ sets

/-- R563: an export datagram. -/
def State.datagram (s : State) (x : ExpQueue) (items : List ExpItem) : Bytes :=
  let t := (items.head?.map (·.type)).getD 0
  let p := (items.head?.map (·.partition)).getD 0
  leBytes 1 1 ++ leBytes 1 t ++ leBytes 1 p ++ leBytes 1 items.length ++ leBytes 4 x.seq ++ leBytes 8 s.nt ++
    items.flatMap (·.data)

/-- The payload of a list of items. -/
def State.payload (s : State) (x : ExpQueue) (items : List ExpItem) : Bytes :=
  if items.any (fun i => decide (256 ≤ i.type)) then s.ipfixPayload x items else s.datagram x items

/-- The one's complement sum of 16-bit words, not folded. -/
def sum16 : Nat → Bytes → Nat
  | 0, _ => 0
  | n + 1, bs => beNat (bs.take 2) * (if bs.length = 1 then 256 else 1) + sum16 n (bs.drop 2)

/-- Folds a one's complement sum. -/
def fold16 : Nat → Nat → Nat
  | 0, n => n
  | k + 1, n => if n < 65536 then n else fold16 k (n % 65536 + n / 65536)

/-- Table 15-1: the UDP checksum over the pseudo-header. -/
def udpChecksum (src dst udp : Bytes) : Nat :=
  let b := src ++ dst ++ beBytes 4 udp.length ++ beBytes 4 17 ++ udp
  let c := 65535 - fold16 8 (sum16 b.length b)
  if c = 0 then 65535 else c

/-- R557, Table 15-1: the frame of a payload. -/
def State.exportFrame (s : State) (q : Nat) (payload : Bytes) : Bytes :=
  let port := s.xqPort q
  let src := leBytes 16 (s.setting 0x3002 port 0)
  let dst := leBytes 16 (s.setting 0x400A q 0)
  let udp := fun (sum : Nat) => beBytes 2 (s.setting 0x400C q 0) ++ beBytes 2 (s.setting 0x400B q 0) ++
    beBytes 2 (8 + payload.length) ++ beBytes 2 sum ++ payload
  leBytes 6 (s.setting 0x3001 port 0) ++ s.srcMac port ++ beBytes 2 0x86DD ++
    beBytes 4 (6 * 268435456 + s.setting 0x4009 q 0 * 1048576) ++ beBytes 2 (8 + payload.length) ++ beBytes 1 17 ++
    beBytes 1 (s.setting 0x3003 port 0) ++ src ++ dst ++ udp (udpChecksum src dst (udp 0))

/-- The length of a frame from destination MAC through FCS. -/
def ExpFrame.len (f : ExpFrame) : Nat := f.data.length + 4

/-- A queue's depth in bytes. -/
def ExpQueue.bytes (x : ExpQueue) : Nat := (x.frames.map ExpFrame.len).foldl (· + ·) 0

/-- Bytes in the Hall's export buffer. -/
def State.exportBytes (s : State) : Nat := (s.exp.queues.map (fun e => e.2.bytes)).foldl (· + ·) 0

/-! ### Gates (R579, R580) -/

/-- The cycle time of a gate list. -/
def GateList.cycle (g : GateList) : Nat := (g.entries.map (·.2)).foldl (· + ·) 0

/-- Index and end of the entry of a cycle that holds a phase, counted from `i` and `off`. -/
def entryOfPhase : List (Nat × Nat) → Nat → Nat → Nat → Nat × Nat
  | [], i, off, _ => (i, off)
  | e :: rest, i, off, ph => if ph < off + e.2 then (i, off + e.2) else entryOfPhase rest (i + 1) (off + e.2) ph

/-- R580: the entry in force at an instant at or after the base, and the instant at which it ends. -/
def GateList.at_ (g : GateList) (t : Nat) : Nat × Nat :=
  let ph := (t - g.base) % g.cycle
  let r := entryOfPhase g.entries 0 0 ph
  (r.1, t - ph + r.2)

/-- Class `c` is open in entry `i`. -/
def GateList.open_ (g : GateList) (i c : Nat) : Bool := bitOf (((g.entries[i]?).map (·.1)).getD 255) c

/-- The first instant from `t` on, where entry `i` begins, at which an entry closes class `c`; none when no entry does. -/
def GateList.closeFrom (g : GateList) (c : Nat) : Nat → Nat → Nat → Option Nat
  | 0, _, _ => none
  | k + 1, i, t =>
    if !g.open_ i c then some t
    else g.closeFrom c k ((i + 1) % g.entries.length) (t + ((g.entries[i]?).map (·.2)).getD 0)

/-- The next instant after `t` at which the list closes class `c`. -/
def GateList.nextClose (g : GateList) (c t : Nat) : Option Nat :=
  if g.entries.isEmpty then none
  else
    let r := g.at_ t
    g.closeFrom c g.entries.length ((r.1 + 1) % g.entries.length) r.2

/-- Class `c` is open at `t` under the list in force. -/
def ExpPort.gateOpen (x : ExpPort) (c t : Nat) : Bool :=
  match x.gates with
  | some g => g.entries.isEmpty || g.open_ (g.at_ t).1 c
  | none => true

/-- R579: the instant at which class `c` closes next, under the list in force or the pending one. -/
def ExpPort.closeAt (x : ExpPort) (c t : Nat) : Option Nat :=
  let a := x.gates.bind (fun g => g.nextClose c t)
  match x.pending with
  | none => a
  | some g =>
    let b := if g.entries.isEmpty then none else g.closeFrom c g.entries.length 0 g.base
    match a with
    | some i => if i ≤ g.base then some i else b
    | none => b

/-- R579: a frame of `n` bytes of class `c` ends before its gate closes. -/
def ExpPort.fits (x : ExpPort) (c t n : Nat) : Bool :=
  match x.closeAt c t with
  | some i => decide (t + wireNt (n + 20) ≤ i)
  | none => true

/-! ### Selection (R572 to R574, R576) -/

/-- R573: `a` precedes `b` among 64-bit tags. -/
def tagLt (a b : Nat) : Bool :=
  let d := (b + 18446744073709551616 - a) % 18446744073709551616
  decide (1 ≤ d) && decide (d < 9223372036854775808)

/-- R572: the increment of a frame of `n` bytes. -/
def wfqIncr (n overhead w : Nat) : Nat := (2 * ((n + overhead) * 65536) + w) / (2 * w)

/-- R576: the instant at which an eligible time of 2^-16 units is reached: the start of a fine slot. -/
def slotStart (e : Nat) : Nat := (e + 8388607) / 8388608 * 128

/-- The head frame of a queue is eligible (R575 to R577); one that arrived after the eligible time is so at once. -/
def State.xqEligible (s : State) (q : Nat) : Bool :=
  let x := s.xq q
  s.setting 0x4006 q 0 == 0 || decide (slotStart x.elig ≤ s.nt) ||
    (match x.frames with | f :: _ => decide (x.elig < 65536 * f.nt) | [] => false)

/-- The head frame of a queue is eligible and its gate is open. -/
def State.xqOpen (s : State) (q : Nat) : Bool :=
  !(s.xq q).frames.isEmpty && s.xqEligible q && (s.xport (s.xqPort q)).gateOpen (s.xqClass q) s.nt

/-- A queue is backlogged in its class. -/
def State.backlogged (s : State) (q : Nat) : Bool :=
  match (s.xq q).frames with
  | [] => false
  | f :: _ => s.xqOpen q && (s.xport (s.xqPort q)).fits (s.xqClass q) s.nt f.len

/-- The increment of a queue's head frame within its class. -/
def State.xqIncr (s : State) (q : Nat) : Nat :=
  match (s.xq q).frames with
  | [] => 0
  | f :: _ => wfqIncr f.len (s.setting 0x3004 (s.xqPort q) 0) (s.setting 0x4004 q 0)

/-- Queues of a class of a port that have left their reset contents, in rising number. -/
def State.classQueues (s : State) (port c : Nat) : List Nat :=
  (s.exp.queues.map (·.1)).filter (fun q => s.xqPort q == port && s.xqClass q == c)

/-- The member of a list with the least tag, ties to the earliest. -/
def leastTag (tag : Nat → Nat) : List Nat → Option Nat
  | [] => none
  | u :: rest =>
    match leastTag tag rest with
    | none => some u
    | some v => if tagLt (tag v) (tag u) then some v else some u

/-- The queue that a class would send from. -/
def State.classHead (s : State) (port c : Nat) : Option Nat :=
  leastTag (fun q => (s.xq q).tag) ((s.classQueues port c).filter (fun q => (s.xq q).awake))

/-- The increment of a class: that of the frame it would send. -/
def State.classIncr (s : State) (port c : Nat) : Nat :=
  match (s.classHead port c).bind (fun q => (s.xq q).frames.head?) with
  | none => 0
  | some f => wfqIncr f.len (s.setting 0x3004 port 0) (s.setting 0x3006 port c)

/-- Adds to a tag modulo 2^64. -/
def tagAdd (a b : Nat) : Nat := (a + b) % 18446744073709551616

/-- R574: the virtual time of a port, and of its class `c`, as they stood at the start of the Hall cycle. -/
def ExpPort.startV (x : ExpPort) (nt : Nat) : Nat :=
  match x.former with
  | some f => if f.nt = nt then f.v else x.v
  | none => x.v
def ExpPort.startVc (x : ExpPort) (nt c : Nat) : Nat :=
  match x.former with
  | some f => if f.nt = nt then mget 0 f.vc c else mget 0 x.vc c
  | none => mget 0 x.vc c

/-- R572: a queue leaves backlog, or wakes with a tag from its class's virtual time. -/
def State.refreshQueue (s : State) (vc q : Nat) : State :=
  let x := s.xq q
  if s.backlogged q then
    if x.awake then s else s.setXq q { x with awake := true, tag := tagAdd vc (s.xqIncr q) }
  else s.setXq q { x with awake := false }

/-- R572: a class leaves backlog, or wakes with a tag from the port's virtual time. -/
def State.refreshClass (s : State) (port c : Nat) : State :=
  let s := (s.classQueues port c).foldl (fun s q => s.refreshQueue ((s.xport port).startVc s.nt c) q) s
  let x := s.xport port
  if (s.classHead port c).isSome then
    if x.awake.contains c then s
    else s.setXport port { x with awake := c :: x.awake, tags := mput x.tags c (tagAdd (x.startV s.nt) (s.classIncr port c)) }
  else s.setXport port { x with awake := x.awake.filter (fun d => d != c) }

/-- Classes and queues of a port wake or leave backlog. -/
def State.refreshPort (s : State) (port : Nat) : State :=
  [0, 1, 2, 3, 4, 5, 6, 7].foldl (fun s c => s.refreshClass port c) s

/-- R572: the class that the port selects. -/
def State.pickClass (s : State) (port : Nat) : Option Nat :=
  leastTag (fun c => mget 0 (s.xport port).tags c)
    ([0, 1, 2, 3, 4, 5, 6, 7].filter (fun c => (s.xport port).awake.contains c))

/-- R575: the eligible time that the dequeue of a frame of `n` bytes sets, in 2^-16 NT units. -/
def eligAfter (t n overhead rate : Nat) : Nat :=
  t * 65536 + (2 * ((n + overhead) * 128000 * 65536) + rate) / (2 * rate)

/-- The head frame of a queue leaves on its port; the rate and the overhead are those before a write of this cycle (R578). -/
def State.dequeue (s : State) (port q : Nat) (f : ExpFrame) (rest : List ExpFrame) : State :=
  let x := s.xq q
  let rate := s.settingAt s.nt 0x4006 q 0
  let s := s.setXq q { x with
    frames := rest
    elig := if rate = 0 then x.elig else eligAfter s.nt f.len (s.settingAt s.nt 0x3004 port 0) rate }
  let y := s.lane port
  let s := s.setLane port { y with egressFree := s.nt + wireNt (8 + f.len + 12) }
  let s := s.emit (.laneFrame port f.data)
  (s.bump (Ctr.queueFrames q)).bumpN (Ctr.queueBytes q) f.len

/-- R572: tags after the selected class `c` and queue `q` have sent. -/
def State.afterSend (s : State) (port c q : Nat) : State :=
  let s :=
    if s.backlogged q then s.setXq q { s.xq q with tag := tagAdd (s.xq q).tag (s.xqIncr q) }
    else s.setXq q { s.xq q with awake := false }
  let x := s.xport port
  if (s.classHead port c).isSome then
    s.setXport port { x with tags := mput x.tags c (tagAdd (mget 0 x.tags c) (s.classIncr port c)) }
  else s.setXport port { x with awake := x.awake.filter (fun d => d != c) }

/-- R554: no VERDICT or CONTROL frame takes precedence on a lane. -/
def State.exportTurn (s : State) (n : Nat) : Bool :=
  let x := s.lane n
  s.egressIdle n && x.verdicts.isEmpty && !s.controlOwed n && decide (s.nt < x.lastTx + 160000)

/-- EXPORT_FRAME (R554, R572 to R575). -/
def execExportFrame (port : Nat) (s : State) : Host.Outcome State Fault Refusal :=
  .next (
    if !s.exportTurn port || !s.hallFree then s
    else
      let s := s.refreshPort port
      match s.pickClass port with
      | none => s
      | some c =>
        match s.classHead port c with
        | none => s
        | some q =>
          match (s.xq q).frames with
          | [] => s
          | f :: rest =>
            let x := s.xport port
            let s := s.setXport port { x with v := mget 0 x.tags c, vc := mput x.vc c (s.xq q).tag, former := some ⟨s.nt, x.v, x.vc⟩ }
            (s.dequeue port q f rest).afterSend port c q)

/-- SHAPER_ELIGIBLE (R576): a shaped queue's slot is reached. -/
def execShaperEligible (queue : Nat) (s : State) : Host.Outcome State Fault Refusal :=
  .next (if s.xqEligible queue && s.hallFree then s.refreshPort (s.xqPort queue) else s)

/-- GATE_ENTRY_CHANGE (R580, R582): the next entry of a port's list is in force; classes leave backlog or wake. -/
def execGateEntryChange (port : Nat) (s : State) : Host.Outcome State Fault Refusal :=
  .next (if (s.xport port).gates.isSome && s.hallFree then s.refreshPort port else s)

/-! ### Closing and appending (R562, R570, R571) -/

/-- R570, R571: the open payload of a queue closes and its frame joins the queue, or is discarded whole. -/
def State.closePayload (s : State) (q : Nat) : State :=
  let x := s.xq q
  match x.open_ with
  | [] => s
  | i :: _ =>
    let f : ExpFrame := { data := s.exportFrame q (s.payload x x.open_), nt := s.nt }
    let n := x.open_.length
    let y := { x with
      open_ := []
      seq := (x.seq + 1) % 4294967296
      domSeq := if 256 ≤ i.type then mput x.domSeq i.partition ((mget 0 x.domSeq i.partition + n) % 4294967296) else x.domSeq }
    let s := s.bumpN (Ctr.queueItems q) n
    if x.bytes + f.len ≤ s.setting 0x4007 q 0 ∧ s.exportBytes + f.len ≤ 33554432 then
      (s.setXq q { y with frames := x.frames ++ [f] }).refreshPort (s.xqPort q)
    else ((s.setXq q y).bump (Ctr.queueDroppedFrames q)).bumpN (Ctr.queueDroppedItems q) n

/-- R570: an item fits the open payload. A payload holds items of one partition and, on an EXPORT queue, of one type, since
its header names them; an IPFIX message keeps the enterprise number that it began with (R78, R567). -/
def State.itemFits (s : State) (x : ExpQueue) (i : ExpItem) : Bool :=
  match x.open_ with
  | [] => true
  | j :: _ =>
    i.partition == j.partition && (i.type == j.type || (decide (256 ≤ i.type) && decide (256 ≤ j.type))) &&
      (decide (i.type < 256) || x.openPen == s.setting 0x0006 0 0) && decide (x.open_.length < 255) && decide ((s.payload x (x.open_ ++ [i])).length ≤ 1452)

/-- R566: the templates are due on a queue. -/
def State.tmplDue (s : State) (x : ExpQueue) : Bool :=
  match x.tmplNt with
  | none => true
  | some t => decide (t + s.setting 0x0008 0 0 * sec1 ≤ s.nt)

/-- R570: an item is appended to the open payload of a queue, which closes first when the item does not fit. -/
def State.appendItem (s : State) (q : Nat) (i : ExpItem) : State :=
  let s := if s.itemFits (s.xq q) i then s else s.closePayload q
  let x := s.xq q
  if x.open_.isEmpty then
    let due := decide (256 ≤ i.type) && s.tmplDue x
    s.setXq q { x with open_ := [i], openNt := s.nt, openTmpl := due, openPen := s.setting 0x0006 0 0, tmplNt := if due then some s.nt else x.tmplNt }
  else s.setXq q { x with open_ := x.open_ ++ [i] }

/-- R562: the standby of an active pair produces items only where export_in_standby is 1. -/
def State.exports (s : State) : Bool := !s.isStandby || s.setting 0x0009 0 0 == 1

/-- R559: a source bound to a queue (or to none) produces an item; `ctr` counts it. -/
def State.exportItem (s : State) (binding : Nat) (i : ExpItem) : State :=
  if s.exports && decide (binding < 4096) then s.appendItem binding i else s

/-- PAYLOAD_CLOSE (R570). -/
def execPayloadClose (queue : Nat) (s : State) : Host.Outcome State Fault Refusal :=
  .next (
    let x := s.xq queue
    if x.open_.isEmpty || !s.hallFree then s
    else if 255 ≤ x.open_.length ∨ x.openNt + s.setting 0x4008 queue 0 * us ≤ s.nt then s.closePayload queue
    else s)

/-! ### Gate lists (R581, R582) -/

/-- R581: the takeover instant. -/
def takeover (nt base cycle : Nat) : Nat :=
  if nt + 10 * ms ≤ base ∨ cycle = 0 then base else base + (nt + 10 * ms - base + cycle - 1) / cycle * cycle

/-- Table 15-6: the entries of a gate list in bytes, and the first reserved byte of them that is not 0 (R12). -/
def gateEntries (b : Bytes) : List (Nat × Nat) := (List.range (b.length / 8)).map (fun k => (leAt b (8 * k) 1, leAt b (8 * k + 4) 4))
def gateRest (b : Bytes) : Option Nat := (List.range b.length).find? (fun k => inR (k % 8) 1 3 && (b[k]?).getD 0 != 0)

/-- GATE_LIST_SET (R581, R582); a management record carries its list whole (R858). -/
def execGateListSet (c : CmdIn) (port : Nat) (entries : List (Nat × Nat)) (base : Nat) (s : State) :
    Host.Outcome State Fault Refusal :=
  .next (
    let g : GateList := { base := base, entries := entries }
    let t := takeover (s.arrival c.ring) base g.cycle
    let bad := [(!decide (port < s.lanesN), 0), (!decide (entries.length ≤ 256), 2),
                (entries.any (fun e => decide (e.2 < 1024)) || decide (16000000000 < g.cycle), 0x10)]
    runNow 0x0504 (.gateListSet c port entries base) c bad s (fun cmd s =>
      if 9 ≤ cmd.fn ∧ cmd.inline.length ≠ 8 * entries.length then (badParam 12, s)
      else if 9 ≤ cmd.fn ∧ (gateRest cmd.inline).isSome then (badParam (56 + (gateRest cmd.inline).getD 0), s)
      else
      match s.instantFault with
      | some st => (fail st, s)
      | none =>
        let x := s.xport port
        if !leadOk (s.arrival c.ring) t then (badParam 40, s)
        else if x.pending.isSome || s.queueFull blkExport then (fail stBusy, s)
        else
          let s := s.setXport port { x with pending := some { g with base := t } }
          (okStatus, s.enqueue blkExport { instant := t, kind := evGateList, key := port, periodic := false }))
      (holds := fun b => b.length != 8 * entries.length || gateEntries b == entries))

/-- GATE_LIST_CANCEL (R582). -/
def execGateListCancel (c : CmdIn) (port : Nat) (s : State) : Host.Outcome State Fault Refusal :=
  .next (runNow 0x0505 (.gateListCancel c port) c [(!decide (port < s.lanesN), 0)] s (fun _ s =>
    let x := s.xport port
    if x.pending.isNone then (fail stNotFound, s)
    else
      let s := s.setXport port { x with pending := none }
      (okStatus, s.setQueue blkExport ((s.queueOf blkExport).filter (fun o => !(o.kind == evGateList && o.key == port))))))

/-- GATE_LIST (R582): the pending list takes over. -/
def execGateList (port : Nat) (s : State) : Host.Outcome State Fault Refusal :=
  .next (
    match s.dueIs blkExport evGateList port with
    | none => s
    | some o =>
      let s := s.startOcc blkExport o
      let x := s.xport port
      ((s.setXport port { x with gates := x.pending, pending := none }).bump (Ctr.portGateTakeover port)).refreshPort port)

/-! ### Sampling (R583, R584) -/

/-- One more sample of a value; the first after a restart sets all three. -/
def Sampled.take (x : Sampled) (fresh : Bool) (v : Nat) : Sampled :=
  if fresh then { min := v, max := v, last := v } else { min := Min.min x.min v, max := Max.max x.max v, last := v }

/-- R583: samples a queue. -/
def ExpQueue.sample (x : ExpQueue) (nt total : Nat) : ExpQueue :=
  let fresh := total == x.sampleBase
  { x with
    depth := x.depth.take fresh x.bytes
    delay := x.delay.take fresh (match x.frames with | [] => 0 | f :: _ => nt - f.nt) }

/-- SHAPER_SAMPLE (R583, R584). -/
def execShaperSample (s : State) : Host.Outcome State Fault Refusal :=
  .next (
    match s.dueIs blkExport evShaperSample 0 with
    | none => s
    | some o =>
      let late := lateAt s.nt o.instant
      let s := s.startOcc blkExport o
      let s := { s with exp := { s.exp with
        queues := s.exp.queues.map (fun (e : Nat × ExpQueue) => (e.1, e.2.sample s.nt s.exp.samples))
        samples := s.exp.samples + 1 } }
      let s := if late then s.bump Ctr.hallSamplesLate else s
      s.enqueue blkExport { instant := nextGrid o.instant (s.setting 0x0005 0 0 * us), kind := evShaperSample, key := 0,
                            periodic := true })

/-- EXPORT_QUEUE_STATS (R584, Table 17-19). -/
def execExportQueueStats (c : CmdIn) (queue : Nat) (reset : Bool) (s : State) : Host.Outcome State Fault Refusal :=
  .next (runNow 0x0503 (.exportQueueStats c queue reset) c [] s (fun _ s =>
    let x := s.xq queue
    let reply := leBytes 4 x.depth.min ++ leBytes 4 x.depth.max ++ leBytes 4 x.depth.last ++
      leBytes 4 (s.exp.samples - x.sampleBase) ++ leBytes 8 x.delay.min ++ leBytes 8 x.delay.max ++ leBytes 8 x.delay.last
    (okReply reply, if reset then s.setXq queue { x with sampleBase := s.exp.samples } else s))
    (fun cmd s =>
      let o := s.setting 0x4001 queue 0
      if 1 ≤ cmd.fn ∧ cmd.fn ≤ 8 ∧ ¬ (s.partsOf cmd.fn).contains o then some (fail stDenied) else none))

/-- R579, Table 15-8: a port counts a cycle in which an eligible frame of an open class waits for its gate. -/
def State.countGates (s : State) : State :=
  s.exp.ports.foldl (fun s e =>
    if [0, 1, 2, 3, 4, 5, 6, 7].any (fun c => (s.classQueues e.1 c).any (fun q => s.xqOpen q && !s.backlogged q)) then
      s.bump (Ctr.portGateBlocked e.1)
    else s) s

end Sys2Proof.Machine
end

