-- ==== Sys2Proof/Machine/Reports.lean ====
section
/-!
DEFINITION. Machine/Reports.lean: report queues (chapter 18): pushes and discards, reads in read order, notification.
-/
namespace Sys2Proof.Machine

/-- Queue q of partition p. -/
def State.rq (s : State) (p q : Nat) : ReportQ := mget {} s.rqs (4 * p + q)

/-- Records that are visible and that no read has selected (R678). -/
def ReportQ.waiting (q : ReportQ) : Nat := (q.recs.filter (fun r => r.visible && !r.selected)).length

/-- Replaces a queue. -/
def State.setRq (s : State) (p q : Nat) (x : ReportQ) : State := { s with rqs := mput s.rqs (4 * p + q) x }

/-- R681: in the Hall cycle of `nt` the queue has done nothing that comes behind an act: 1 a release, 2 a selection, 3 a push. -/
def ReportQ.mayAct (q : ReportQ) (nt k : Nat) : Bool :=
  match q.acted with
  | some (n, j) => n != nt || decide (j ≤ k)
  | none => true

/-- R664: an emptied queue; its reads go on waiting (R679). -/
def ReportQ.emptied (q : ReportQ) : ReportQ := { reads := q.reads }

/-- R664, R723: the report queues of a partition are emptied. -/
def State.emptyRqs (s : State) (p : Nat) : State :=
  { s with rqs := (s.rqs.map (fun e => if e.1 / 4 = p then (e.1, e.2.emptied) else e)).filter (fun e =>
      e.1 / 4 != p || !e.2.reads.isEmpty) }

/-- Words of stored records, reserved and selected ones included (R669, R671). -/
def ReportQ.used (q : ReportQ) : Nat := (q.recs.map (fun r => r.words.length)).foldl (· + ·) 0

/-- Words in the staging buffer (R668). -/
def ReportQ.staged (q : ReportQ) : Nat := (q.staging.map (fun r => r.words.length)).foldl (· + ·) 0

/-! ### Arrival (R665 to R668) -/

/-- Table 18-1: the record header. -/
def recHeader (type words prio p q seq : Nat) : BitVec 64 :=
  BitVec.ofNat 64 (type + 256 * words + 65536 * prio + 1048576 * p + 16777216 * q + 4294967296 * seq + 9223372036854775808)

/-- The 64-bit words of a byte string whose length is a multiple of 8. -/
def wordsOf : Nat → Bytes → List (BitVec 64)
  | 0, _ => []
  | n + 1, bs => BitVec.ofNat 64 (leNat (bs.take 8)) :: wordsOf n (bs.drop 8)

/-- R664, R665: the words of a record as they are stored. -/
def storedWords (ws : List (BitVec 64)) : List QWord :=
  (ws.zip (List.range ws.length)).map (fun e =>
    let head := decide (e.2 = 0)
    let tail := decide (e.2 + 1 = ws.length)
    { data := e.1, head := head, tail := tail, check := Config.secded e.1 head tail })

/-- Table 15-4: a REPORT item. -/
def QRec.item (r : QRec) (p q : Nat) : ExpItem :=
  { type := 2, partition := p
    data := leBytes 1 r.words.length ++ leBytes 1 (q + 4 * r.priority) ++ zeroBytes 6 ++
      r.words.flatMap (fun w => leBytes 8 w.data.toNat) }

/-- R559, R563, R670, R725: a record that reaches the queue is copied to the export queue that report_copy binds, whatever becomes of it
(log entry 176), unless the partition is being scrubbed. -/
def State.reportCopy (s : State) (p q : Nat) (r : QRec) : State :=
  if (s.partOf p).state = .scrubbing then s else s.exportItem (s.partSetting 0x1012 p q) (r.item p q)

/-- R666 to R668, R670, R673: a record of a type reaches a queue with the words behind its header; it is staged, or refused when
the staging buffer has no room. -/
def State.record (s : State) (p q prio type : Nat) (body : Bytes) : State :=
  let x := s.rq p q
  let n := 1 + body.length / 8
  let rec_ : QRec := { words := storedWords (recHeader type n prio p q x.seq :: wordsOf (n - 1) body), length := n, priority := prio }
  let s := (s.bump (Ctr.rqArrived (4 * p + q))).reportCopy p q rec_
  let y := { x with seq := (x.seq + 1) % 65536 }
  if (x.staging.map (fun r => r.words.length)).foldl (· + ·) 0 + n ≤ 256 then
    s.setRq p q { y with staging := x.staging ++ [rec_] }
  else ((s.setRq p q y).bump (Ctr.rqLostPrio (4 * p + q) prio)).bump (Ctr.rqLostStaging (4 * p + q))

/-! ### Discards (R671 to R673) -/

/-- R672: eligible victims of an incoming priority. -/
def QRec.eligible (prio : Nat) (r : QRec) : Bool := r.visible && !r.selected && decide (prio ≤ r.priority)

/-- R672: the next victim: the oldest record of the greatest priority value among the eligible ones. -/
def nextVictim (prio : Nat) (rs : List QRec) : Option QRec :=
  let es := rs.filter (QRec.eligible prio)
  let top := (es.map (·.priority)).foldl max 0
  (es.filter (fun r => r.priority == top)).head?

/-- R672: discards victims until `need` words are free; answers the kept records and the discarded priorities. -/
def makeRoom (prio need cap : Nat) : Nat → List QRec → List QRec × List Nat
  | 0, rs => (rs, [])
  | fuel + 1, rs =>
    if need + (rs.map (fun r => r.words.length)).foldl (· + ·) 0 ≤ cap then (rs, [])
    else
      match nextVictim prio rs with
      | none => (rs, [])
      | some v =>
        let r := makeRoom prio need cap fuel (rs.erase v)
        (r.1, v.priority :: r.2)

/-- R672: discarding every eligible record would make room. -/
def ReportQ.canMakeRoom (q : ReportQ) (prio need : Nat) : Bool :=
  let kept := q.recs.filter (fun r => !r.eligible prio)
  decide (need + (kept.map (fun r => r.words.length)).foldl (· + ·) 0 ≤ 4096)

/-- R673: lost records count under their own priority. -/
def State.countLost (s : State) (p q : Nat) (prios : List Nat) : State :=
  prios.foldl (fun s k => s.bump (Ctr.rqLostPrio (4 * p + q) k)) s

/-- R669, R672, R681: the queue takes the oldest staged record, one in a Hall cycle; where its words come to stand the manual leaves
open. -/
def execRecordPush (partition queue : Nat) (s : State) : Host.Outcome State Fault Refusal :=
  .next (
    let q := s.rq partition queue
    match q.staging with
    | [] => s
    | r :: rest =>
      if q.writing ≠ 0 ∨ ¬ s.hallFree ∨ ¬ q.mayAct s.nt 2 then s
      else
        let q := { q with staging := rest, acted := some (s.nt, 3) }
        let r := { r with start := Config.freeNat s.free % 4096 }
        let s := s.nextFree
        let need := r.words.length
        if q.used + need ≤ 4096 then s.setRq partition queue { q with recs := q.recs ++ [r], writing := need }
        else if q.canMakeRoom r.priority need then
          let m := makeRoom r.priority need 4096 q.recs.length q.recs
          let s := s.setRq partition queue { q with recs := m.1 ++ [r], writing := need }
          s.countLost partition queue m.2
        else
          (s.setRq partition queue q).countLost partition queue [r.priority])

/-- R683: pending records reach rq_coalesce_count, and the vector is sent. -/
def State.notifyRq (s : State) (p q : Nat) : State :=
  let v := s.rqSetting 0x6001 p q
  let x := s.rq p q
  if v ≠ 0 ∧ x.pendCount ≠ 0 ∧ s.rqSetting 0x6002 p q ≤ x.pendCount then
    let s := s.setRq p q { x with pendCount := 0 }
    (s.sendVector (s.fnOf p) v).bump (Ctr.rqInterrupts (4 * p + q))
  else s

/-- R670, R683: the record whose end word has been written becomes visible. -/
def State.showRecord (s : State) (p q : Nat) : State :=
  let x := s.rq p q
  let recs := x.recs.map (fun r => if r.visible then r else { r with visible := true, order := x.orderCtr })
  let s := s.setRq p q { x with
    recs := recs, orderCtr := x.orderCtr + 1, pendCount := x.pendCount + 1,
    firstPendNt := if x.pendCount = 0 then s.nt else x.firstPendNt }
  s.notifyRq p q

/-- R668, R670: one Hall cycle of a queue: it writes one word. -/
def State.tickRq (s : State) (k : Nat) : State :=
  let x := mget {} s.rqs k
  if x.writing = 0 then s
  else
    let s := { s with rqs := mput s.rqs k { x with writing := x.writing - 1 } }
    if x.writing = 1 then s.showRecord (k / 4) (k % 4) else s

/-- R683: rq_coalesce_time has passed since the first pending record became visible. -/
def execReportNotifyTimeout (partition queue : Nat) (s : State) : Host.Outcome State Fault Refusal :=
  .next (s.whenFree (
    let x := s.rq partition queue
    let v := s.rqSetting 0x6001 partition queue
    let t := s.rqSetting 0x6003 partition queue
    if v = 0 ∨ t = 0 ∨ x.pendCount = 0 ∨ s.nt < x.firstPendNt + t * us then s
    else
      let s := s.setRq partition queue { x with pendCount := 0 }
      (s.sendVector (s.fnOf partition) v).bump (Ctr.rqInterrupts (4 * partition + queue))))

/-! ### Reads (R674 to R681, R684) -/

/-- R674: the first visible, unselected record in read order. -/
def ReportQ.first (q : ReportQ) : Option QRec :=
  let vs := q.recs.filter (fun r => r.visible && !r.selected)
  match (vs.map (·.priority)).min? with
  | none => none
  | some p =>
    let ps := vs.filter (fun r => r.priority == p)
    match (ps.map (·.order)).min? with
    | none => none
    | some o => ps.find? (fun r => r.order == o)

/-- R684: the words of a record as its read finds them. -/
def QRec.asRead (r : QRec) (found : List WordRead) : List QWord :=
  found.foldl (fun ws e =>
    match e.error, ws[e.word]? with
    | .corrected, _ => ws
    | _, some w => ws.set e.word { w with data := BitVec.ofNat 64 e.data, head := e.head, tail := e.tail }
    | _, none => ws) r.words

/-- The data words of a record as bytes, as its read finds them. -/
def QRec.bytes (r : QRec) (found : List WordRead) : Bytes := (r.asRead found).flatMap (fun w => leBytes 8 w.data.toNat)

/-- R684: words of a record in which the read finds an error of a kind. -/
def QRec.errors (r : QRec) (found : List WordRead) (k : WordError) : Nat :=
  found.countP (fun e => e.error == k && decide (e.word < r.length))

/-- R684: the head and end bits as read disagree with the directory's length. -/
def QRec.misframed (r : QRec) (found : List WordRead) : Bool :=
  let ws := r.asRead found
  ws.length != r.length ||
    (ws.zip (List.range r.length)).any (fun e => e.1.head != decide (e.2 = 0) || e.1.tail != decide (e.2 + 1 = r.length))

/-- R684: the read poisons the record. -/
def QRec.poisoned (r : QRec) (found : List WordRead) : Bool := r.errors found .uncorrectable != 0 || r.misframed found

/-- R677, R684: the selected record is delivered and released; ECC and framing findings are counted. -/
def State.deliver (s : State) (p q : Nat) (r : QRec) (found : List WordRead) : State :=
  let k := 4 * p + q
  let x := s.rq p q
  let s := s.setRq p q { x with recs := x.recs.erase r, acted := if x.acted = some (s.nt, 2) then x.acted else some (s.nt, 1) }
  let s := s.bump (Ctr.rqDelivered k)
  let s := s.bumpN (Ctr.rqEccCorrected k) (r.errors found .corrected)
  let s := s.bumpN (Ctr.rqEccUncorrectable k) (r.errors found .uncorrectable)
  if r.poisoned found then (s.bump (Ctr.rqPoisoned k)).setSticky 132 else s

/-- Table 18-3: the reply of a native read. -/
def readReply (s : State) (p q : Nat) (r : QRec) (found : List WordRead) : Bytes :=
  leBytes 4 (r.length + 128 * b2n (r.poisoned found) + 256 * r.priority) ++ leBytes 4 (s.rq p q).waiting ++ r.bytes found

/-- R679, R684: a native read delivers a record and completes. -/
def deliverNative (s : State) (p q : Nat) (r : QRec) (found : List WordRead) : Status × State :=
  let s := s.deliver p q r found
  ({ status := if r.poisoned found then stIntegrity else stOk, reply := readReply s p q r found }, s)

/-- R675: the record that the read at the head of the queue has selected, or the one it selects now. -/
def ReportQ.candidate (q : ReportQ) : Option QRec :=
  match q.recs.find? (·.selected) with
  | some r => some r
  | none => q.first

/-- R675: marks a record as selected in the Hall cycle of `nt`. -/
def ReportQ.select (q : ReportQ) (nt : Nat) (r : QRec) : ReportQ :=
  { q with recs := q.recs.map (fun x => if x = r then { x with selected := true } else x), acted := some (nt, 2) }

/-- R681: the row's act of the Hall cycle: a release of the record that a read has selected before, or else a selection, may still take
place in it. -/
def ReportQ.readTurn (q : ReportQ) (nt : Nat) : Bool := q.mayAct nt (if q.recs.any (·.selected) then 1 else 2)

/-- The queue of the partition that a command's header names. -/
def State.rqOf (s : State) (ring queue : Nat) : ReportQ := s.rq (((s.cmdAt ring).map (·.hdr.partition)).getD 255) queue

/-- R677: clears the selection; the record keeps its place in read order. -/
def ReportQ.unselect (q : ReportQ) : ReportQ := { q with recs := q.recs.map (fun x => { x with selected := false }) }

/-- REPORT_READ (R676, R679): selects, and delivers once its data are written; waits; or times out. -/
def execReportRead (c : CmdIn) (queue timeout : Nat) (found : List WordRead) (written : Bool) (s : State) :
    Host.Outcome State Fault Refusal :=
  .next (if !(s.rqOf c.ring queue).mayAct s.nt 2 then s else runCmd 0x0501 (.reportRead c queue timeout found written) c [(!decide (timeout ≤ 1000000), 0x14)] s (fun cmd s =>
    let p := cmd.hdr.partition
    let q := s.rq p queue
    let read : QRead := { ring := c.ring, startNt := s.nt, timeout := timeout, replyLen := c.replyLen }
    if c.replyLen < 520 then (some { status := stBadParam, detail := 520 }, s)
    else
      match q.reads, q.first with
      | [], some r =>
        if c.replyFails then (some (fail stIntegrity), s)
        else if written then
          let d := deliverNative (s.setRq p queue { q with acted := some (s.nt, 2) }) p queue r found
          (some d.1, d.2)
        else (none, s.setRq p queue { (q.select s.nt r) with reads := [read] })
      | _, _ =>
        if timeout = 0 then (some (fail stTimeout), s)
        else (none, s.setRq p queue { q with reads := q.reads ++ [read] })))

/-- R675 to R677: the oldest running read selects a record that has become visible; its data are written and the record
is released, or are still on their way, or cannot be written. -/
def execReportReadSelect (partition queue : Nat) (found : List WordRead) (written failed : Bool) (s : State) :
    Host.Outcome State Fault Refusal :=
  .next (
    let q := s.rq partition queue
    match q.reads, q.candidate with
    | w :: rest, some r =>
      if !q.readTurn s.nt || !s.hallFree then s
      else if failed then
        (s.setRq partition queue { q.unselect with reads := rest }).complete w.ring (fail stIntegrity)
      else if written then
        let s := s.setRq partition queue { q with reads := rest, acted := some (s.nt, if r.selected then 1 else 2) }
        let d := deliverNative s partition queue r found
        d.2.complete w.ring d.1
      else if r.selected then s else s.setRq partition queue (q.select s.nt r)
    | _, _ => s)

/-- R679: a read that has selected nothing when its timeout has passed completes with ST_TIMEOUT. -/
def execReportReadTimeout (partition queue : Nat) (s : State) : Host.Outcome State Fault Refusal :=
  .next (s.whenFree (
    let q := s.rq partition queue
    let idle := if (q.recs.find? (·.selected)).isSome then q.reads.tail else q.reads
    match idle.find? (fun w => decide (w.startNt + w.timeout * us ≤ s.nt)) with
    | none => s
    | some w => (s.setRq partition queue { q with reads := q.reads.erase w }).complete w.ring (fail stTimeout)))

/-- REPORT_READ_COMPAT (R680): never waits; one zero word when no record can be selected. -/
def execReportReadCompat (c : CmdIn) (queue : Nat) (found : List WordRead) (s : State) :
    Host.Outcome State Fault Refusal :=
  .next (if !(s.rqOf c.ring queue).mayAct s.nt 2 then s else runCmd 0x0502 (.reportReadCompat c queue found) c [] s (fun cmd s =>
    let p := cmd.hdr.partition
    let q := s.rq p queue
    if c.replyLen < 512 then (some { status := stBadParam, detail := 512 }, s)
    else
      match q.reads, q.first with
      | [], some r =>
        if c.replyFails then (some (fail stIntegrity), s)
        else
          (some { status := if r.poisoned found then stIntegrity else stOk, reply := r.bytes found },
            (s.setRq p queue { q with acted := some (s.nt, 2) }).deliver p queue r found)
      | _, _ => (some (okReply (zeroBytes 8)), s)))

end Sys2Proof.Machine
end

