-- ==== Sys2Proof/Machine/Assembler.lean ====
section
/-!
DEFINITION. Machine/Assembler.lean: the verdict assembler (R46 to R61, R169 to R172): emission in flow order, deadlines,
arrival of committed verdicts.
-/
namespace Sys2Proof.Machine

/-! ### Records -/

/-- Table 03-8. -/
def flLate : Nat := 1
def flSwap : Nat := 2
def flFragUnresolved : Nat := 4
def flUnavailable : Nat := 8
def flProvisional : Nat := 16
def flMalformed : Nat := 32
def flRollout : Nat := 64

/-- The switch's tag of a slot. -/
def Slot.tag (k : Slot) : Nat := leAt k.data 0 4

/-- R54, R94: a default verdict of given action, parameter and flag. -/
def Slot.defaultRec (k : Slot) (p action param flag : Nat) : VerdictRec :=
  { tag := k.tag, action := action, partition := p, flags := flag, param := param, cls := 0xFF, score := 0 }

/-- R54, R55: the partition's default verdict with a flag. -/
def State.partDefault (s : State) (k : Slot) (p flag : Nat) : VerdictRec :=
  k.defaultRec p (s.partSettingAt k.seen 0x1002 p) (s.partSettingAt k.seen 0x1003 p) flag

/-- R172: the record of a non-first fragment. -/
def Slot.fragRec (k : Slot) (p : Nat) (c : FragCopy) : VerdictRec :=
  { tag := k.tag, action := c.action, partition := p,
    flags := if bitOf c.flags 6 then c.flags - flRollout else c.flags, param := c.param, cls := c.cls, score := c.score }

/-! ### Deadlines (R46, R47) -/

/-- R47: deadline_count in force for a stamp. -/
def State.deadlineCount (s : State) (p stamp : Nat) : Nat :=
  match (mget [] s.hall.deadlines p).find? (fun e => decide (e.2 ≤ stamp)) with
  | some e => e.1
  | none => 16

/-- R47: the deadline instant of a stamp: 0.25 µs steps of 4,000 NT units. -/
def State.deadlineOf (s : State) (p stamp : Nat) : Nat := stamp + 4000 * s.deadlineCount p stamp

/-! ### Emission (R57 to R59, R118, R169, R171) -/

/-- Buffers in scope of a trigger of a partition: the Hall's and those of its tiles (Table 21-10). -/
def State.partBufs (s : State) (p : Nat) : List Nat :=
  s.allBufs.filter (fun b => b == 0 || (decide (16 ≤ b) && s.tileOwned p (b - 16)))

/-- R57, R58, R118: a record goes to the egress of the lane on which its digest arrived, or is discarded when that lane
has gone down since. -/
def State.toLane (s : State) (k : Slot) (r : VerdictRec) : State :=
  let s :=
    if r.action ≠ 0 ∨ bitOf r.flags 0 then
      s.trace 0 { kind := 5, engine := 0x44, context := r.partition, nt := s.nt,
                  arg0 := r.tag + 4294967296 * r.action + 1099511627776 * r.cls + 281474976710656 * r.flags, arg1 := k.at_ }
    else s
  let x := s.lane k.lane
  if x.up ∧ x.session = k.session then s.setLane k.lane { x with verdicts := x.verdicts ++ [r] }
  else s.bump (Ctr.laneVerdictsDroppedLink k.lane)

/-- R169: the entries of the first fragment `id` resolve with its record. -/
def resolveEntries (t : Tab FragEntry) (id : Nat) (c : FragCopy) : Tab FragEntry :=
  t.map (fun e => if e.2.first = id ∧ e.2.copy = none then (e.1, { e.2 with copy := some c }) else e)

/-- R171, R173: fragments that wait on the first fragment `id` are released; their records leave in the Hall cycle after
that of `nt`. -/
def releaseWaiting (ps : List Pend) (id nt : Nat) (c : FragCopy) : List Pend :=
  ps.map (fun e =>
    match e.answer with
    | .waiting first b =>
      if first = id then { e with answer := .resolved (e.slot.fragRec e.partition c) b, held := some nt } else e
    | _ => e)

/-- R60, R171: the digest's record must not leave in this Hall cycle. -/
def Pend.waits (e : Pend) (nt : Nat) : Bool :=
  match e.held with
  | some h => decide (nt ≤ h)
  | none => false

/-- The record that can be emitted for a pending digest now, if one can. -/
def Pend.record (e : Pend) : Option VerdictRec :=
  match e.answer with
  | .model _ real => real
  | .default_ r => some r
  | .resolved r _ => some r
  | .waiting _ _ => none

/-- A late packet's verdict is still to come (R51, R52). -/
def Pend.stays (e : Pend) : Bool :=
  match e.answer with
  | .model _ none => true
  | _ => false

/-- A record is emitted for a pending digest; a fragment's entry resolves with it. -/
def State.emitPend (s : State) (e : Pend) (r : VerdictRec) : State :=
  let c : FragCopy := { action := r.action, param := r.param, cls := r.cls, flags := r.flags, score := r.score }
  let s := s.toLane e.slot r
  let ps := if e.stays then s.hall.pends.map (fun x => if x.id = e.id then { x with emitted := true } else x)
            else s.hall.pends.filter (fun x => x.id != e.id)
  { s with hall := { s.hall with
    pends := releaseWaiting ps e.id s.nt c
    frag0 := resolveEntries s.hall.frag0 e.id c
    frag1 := resolveEntries s.hall.frag1 e.id c } }

/-- R59: the first pending digest in arrival order whose record is known and can leave in the Hall cycle of `nt`, and whose
flow has no earlier one unanswered. -/
def nextReady (nt : Nat) : List Pend → List Bytes → Option (Pend × VerdictRec)
  | [], _ => none
  | e :: rest, blocked =>
    if e.emitted then nextReady nt rest blocked
    else if blocked.contains e.flow then nextReady nt rest blocked
    else
      match (if e.waits nt then none else e.record) with
      | some r => some (e, r)
      | none => nextReady nt rest (e.flow :: blocked)

/-- R56, R59: emits every record that can leave. -/
def settle : Nat → State → State
  | 0, s => s
  | fuel + 1, s =>
    match nextReady s.nt s.hall.pends [] with
    | none => s
    | some (e, r) => settle fuel (s.emitPend e r)

/-- Emits every record that can leave. -/
def State.settle (s : State) : State := Machine.settle (s.hall.pends.length + 1) s

/-- R32: arrival order. -/
def Slot.before (a b : Slot) : Bool :=
  decide (a.at_ < b.at_) || (a.at_ == b.at_ && (decide (a.lane < b.lane) || (a.lane == b.lane && decide (a.pos < b.pos))))

/-- R32: takes its place in arrival order, behind everything that does not come later. -/
def placeSlot {α : Type} (slot : α → Slot) (e : α) : List α → List α
  | [] => [e]
  | x :: rest => if (slot e).before (slot x) then e :: x :: rest else x :: placeSlot slot e rest

/-- A digest joins those that wait for an answer, in arrival order. -/
def State.addPend (s : State) (e : Pend) : State :=
  { s with hall := { s.hall with pends := placeSlot Pend.slot e s.hall.pends } }

/-! ### Deadlines (R50, R60) -/

/-- R60: a fragment that waits leaves its wait with `frag_unresolved`. -/
def State.unresolve (s : State) (e : Pend) (bank : Nat) : State :=
  let r := s.partDefault e.slot e.partition flFragUnresolved
  (s.bump (Ctr.fragUnresolved bank)).emitPend { e with answer := .default_ r } r

/-- R50, R60: a record for a digest whatever its state: its own where it has one, else `frag_unresolved` for a waiting
fragment, one whose first fragment's record has left in this Hall cycle among them, and `late` for a packet that runs. -/
def State.forcePend (s : State) (id : Nat) : State :=
  match s.hall.pends.find? (fun e => e.id == id && !e.emitted) with
  | none => s
  | some e =>
    match e.answer with
    | .model _ (some r) => s.emitPend e r
    | .default_ r => s.emitPend e r
    | .resolved r b => if e.waits s.nt then s.unresolve e b else s.emitPend e r
    | .waiting _ b => s.unresolve e b
    | .model _ none =>
      ((s.bump (Ctr.partVerdictLate e.partition)).emitPend e (s.partDefault e.slot e.partition flLate)).fire 1
        (s.partBufs e.partition)

/-- The digests of the same flow before `e` in arrival order whose record has not been emitted (R60). -/
def State.earlierOf (s : State) (e : Pend) : List Pend :=
  (s.hall.pends.takeWhile (fun x => x.id != e.id)).filter (fun x => x.flow == e.flow && !x.emitted)

/-- R60: a digest's record leaves in the next Hall cycle. -/
def State.holdPend (s : State) (id : Nat) : State :=
  { s with hall := { s.hall with
      pends := s.hall.pends.map (fun (x : Pend) => if x.id = id then { x with held := some s.nt } else x) } }

/-- R50, R60: the deadline instant of a digest arrives: its own record is emitted, or, where earlier digests of its flow
have none yet, theirs now and its own in the next Hall cycle. -/
def State.expire (s : State) (e : Pend) : State :=
  match s.earlierOf e with
  | [] => (s.forcePend e.id).settle
  | earlier => ((earlier.foldl (fun (s : State) (x : Pend) => s.forcePend x.id) s).holdPend e.id).settle

/-- A digest whose deadline instant NT has reached without a record, and which does not wait under R60. -/
def Pend.due (e : Pend) (nt : Nat) : Bool :=
  !e.emitted && !e.waits nt &&
    match e.answer with
    | .model d _ => decide (d ≤ nt)
    | _ => false

/-- DEADLINE (R50, R60): the first digest in arrival order whose deadline instant has come. -/
def execDeadline (s : State) : Host.Outcome State Fault Refusal :=
  .next (
    if !s.hallFree then s
    else
      match s.hall.pends.find? (fun e => e.due s.nt) with
      | none => s
      | some e => s.expire e)

/-! ### Arrival of committed verdicts (R48, R49, R52) -/

/-- Table 02-2: a LATE record behind its header. -/
def lateBody (e : Pend) (r : VerdictRec) (deadline nt : Nat) : Bytes :=
  leBytes 4 e.slot.tag ++ leBytes 2 e.epoch ++ leBytes 1 e.slot.lane ++ leBytes 1 0 ++ leBytes 8 e.slot.at_ ++ r.bytes
    ++ leBytes 4 (min (nt - deadline) 4294967295) ++ leBytes 4 0

/-- R52: a LATE record goes to the partition's late queue. -/
def State.lateRecord (s : State) (e : Pend) (r : VerdictRec) (deadline : Nat) : State :=
  s.record e.partition (s.partSettingAt e.slot.seen 0x1004 e.partition) (s.partSettingAt e.slot.seen 0x1005 e.partition) 1 (lateBody e r deadline s.nt)

/-- R50, R52: a verdict comes too late: a digest whose default has been emitted is answered for good; one whose default
leaves in the next Hall cycle only (R60) takes it as its record. -/
def State.answerLate (s : State) (id : Nat) : State :=
  match s.hall.pends.find? (fun e => e.id == id) with
  | none => s
  | some e =>
    if e.emitted then { s with hall := { s.hall with pends := s.hall.pends.filter (fun y => y.id != id) } }
    else
      let s := { s with hall := { s.hall with
        pends := s.hall.pends.map (fun (y : Pend) =>
          if y.id = id then { y with answer := .default_ (s.partDefault e.slot e.partition flLate) } else y) } }
      (s.bump (Ctr.partVerdictLate e.partition)).fire 1 (s.partBufs e.partition)

/-- R48, R49, R52: a committed verdict reaches the assembler now. -/
def State.verdictIn (s : State) (x : Returning) : State :=
  match s.hall.pends.find? (fun e => e.id == x.id) with
  | none => s
  | some e =>
    match e.answer with
    | .model d none =>
      if s.nt < d ∧ ¬ e.emitted then
        { s with hall := { s.hall with
          pends := s.hall.pends.map (fun (y : Pend) => if y.id = e.id then { y with answer := .model d (some x.verdict) } else y) } }.settle
      else
        let s := if e.due s.nt then s.expire e else s
        (s.answerLate e.id).lateRecord e x.verdict d
    | _ => s

/-- VERDICT_ARRIVAL: the oldest committed verdict of a Wing that is on its way reaches the assembler. -/
def execVerdictArrival (wing : Nat) (s : State) : Host.Outcome State Fault Refusal :=
  .next (
    match (s.wing wing).returning with
    | [] => s
    | x :: rest =>
      if !s.hallFree then s
      else (s.setWing wing { s.wing wing with returning := rest }).verdictIn x)

end Sys2Proof.Machine
end

