-- ==== Sys2Proof/Machine/Fp.lean ====
section
/-!
DEFINITION. Machine/Fp.lean: number formats and arithmetic (chapter 10): FP32 and bf16 values, roundTiesToAway, the
comparisons, the rank order and the Post-unit primitives.
-/
namespace Sys2Proof.Machine

/-- An FP32 bit pattern (Table 10-1). -/
abbrev F32 := BitVec 32

/-- A bf16 bit pattern (Table 10-1). -/
abbrev Bf16 := BitVec 16

/-- Table 10-2 after R394 and R395: a value as every reader of the device takes it; a finite value is
`(-1)^neg × mant × 2^exp` with `mant` not 0. -/
inductive FpVal where
  | zero (neg : Bool)
  | fin (neg : Bool) (mant : Nat) (exp : Int)
  | inf (neg : Bool)
  | nan
  deriving DecidableEq, Repr

/-- R393 to R395: reads an FP32 pattern. -/
def F32.val (x : F32) : FpVal :=
  let s := x.getLsbD 31
  let e := x.toNat / 8388608 % 256
  let f := x.toNat % 8388608
  if e = 0 then .zero s
  else if e = 255 then (if f = 0 then .inf s else .nan)
  else .fin s (8388608 + f) ((e : Int) - 150)

/-- The canonical NaN (R395). -/
def fNan : F32 := 0x7FC00000#32

/-- A zero of a sign. -/
def fZero (neg : Bool) : F32 := if neg then 0x80000000#32 else 0#32

/-- An infinity of a sign. -/
def fInf (neg : Bool) : F32 := if neg then 0xFF800000#32 else 0x7F800000#32

/-- 1.0. -/
def fOne : F32 := 0x3F800000#32

/-- Sets the sign. -/
def signed (neg : Bool) (mag : Nat) : F32 := BitVec.ofNat 32 (mag + if neg then 2147483648 else 0)

/-- The integer nearest `num / den`, an exact half going up (both positive). -/
def halfUp (num den : Nat) : Nat := (2 * num + den) / (2 * den)

/-- ⌊log2 (num / den)⌋ for positive `num` and `den`. -/
def log2Rat (num den : Nat) : Int :=
  let e := (num.log2 : Int) - (den.log2 : Int)
  let ge := if 0 ≤ e then decide (den * 2 ^ e.toNat ≤ num) else decide (den ≤ num * 2 ^ (-e).toNat)
  if ge then e else e - 1

/-- R401: rounds the exact magnitude `num / den` to `p` significant bits, as an FP32 pattern. -/
def roundMag (p : Nat) (neg : Bool) (num den : Nat) : F32 :=
  if num = 0 then fZero neg
  else
    let e := log2Rat num den
    let sh := e - (p : Int) + 1
    let q := if 0 ≤ sh then halfUp num (den * 2 ^ sh.toNat) else halfUp (num * 2 ^ (-sh).toNat) den
    let carry := decide (2 ^ p ≤ q)
    let e := if carry then e + 1 else e
    let frac := if carry then 0 else (q - 2 ^ (p - 1)) * 2 ^ (24 - p)
    if 128 ≤ e then fInf neg
    else if e < -126 then fZero neg
    else signed neg ((e + 127).toNat * 8388608 + frac)

/-- A signed dyadic number `n × 2^e` rounded to `p` bits; an exact zero takes the sign `zneg`. -/
def roundDyadic (p : Nat) (zneg : Bool) (n : Int) (e : Int) : F32 :=
  if n = 0 then fZero zneg
  else
    let m := n.natAbs
    if 0 ≤ e then roundMag p (decide (n < 0)) (m * 2 ^ e.toNat) 1 else roundMag p (decide (n < 0)) m (2 ^ (-e).toNat)

/-- A finite value as a signed mantissa. -/
def smant (neg : Bool) (m : Nat) : Int := if neg then -(m : Int) else (m : Int)

/-- R401, R402, R406: the sum of two values, rounded once. -/
def addVal : FpVal → FpVal → F32
  | .nan, _ => fNan
  | _, .nan => fNan
  | .inf a, .inf b => if a = b then fInf a else fNan
  | .inf a, _ => fInf a
  | _, .inf b => fInf b
  | .zero a, .zero b => fZero (a && b)
  | .zero _, .fin b m e => roundDyadic 24 false (smant b m) e
  | .fin a m e, .zero _ => roundDyadic 24 false (smant a m) e
  | .fin a m e, .fin b n f =>
    let lo := min e f
    roundDyadic 24 false (smant a m * 2 ^ (e - lo).toNat + smant b n * 2 ^ (f - lo).toNat) lo

/-- R402, R406: the exact product of two values. -/
def mulVal : FpVal → FpVal → FpVal
  | .nan, _ => .nan
  | _, .nan => .nan
  | .inf a, .inf b => .inf (a != b)
  | .inf _, .zero _ => .nan
  | .zero _, .inf _ => .nan
  | .inf a, .fin b _ _ => .inf (a != b)
  | .fin a _ _, .inf b => .inf (a != b)
  | .zero a, .zero b => .zero (a != b)
  | .zero a, .fin b _ _ => .zero (a != b)
  | .fin a _ _, .zero b => .zero (a != b)
  | .fin a m e, .fin b n f => .fin (a != b) (m * n) (e + f)

/-- A value rounded to FP32. -/
def FpVal.round : FpVal → F32
  | .nan => fNan
  | .inf a => fInf a
  | .zero a => fZero a
  | .fin a m e => roundDyadic 24 a (smant a m) e

/-- ADD of Table 10-6. -/
def fAdd (x y : F32) : F32 := addVal x.val y.val

/-- MUL of Table 10-6. -/
def fMul (x y : F32) : F32 := (mulVal x.val y.val).round

/-- MULADD of Table 10-6: the product is exact and the sum is rounded once. -/
def fMulAdd (x y z : F32) : F32 := addVal (mulVal x.val y.val) z.val

/-- R404 and LINK: negation flips the sign and leaves a NaN a NaN. -/
def fNeg (x : F32) : F32 :=
  match x.val with
  | .nan => fNan
  | .zero a => fZero (!a)
  | .inf a => fInf (!a)
  | .fin _ _ _ => x ^^^ 0x80000000#32

/-- abs; abs of −∞ is +∞ (R406). -/
def fAbs (x : F32) : F32 :=
  match x.val with
  | .nan => fNan
  | .zero _ => fZero false
  | .inf _ => fInf false
  | .fin _ _ _ => x &&& 0x7FFFFFFF#32

/-- DIV of Table 10-6. -/
def fDiv (x y : F32) : F32 :=
  match x.val, y.val with
  | .nan, _ => fNan
  | _, .nan => fNan
  | .inf _, .inf _ => fNan
  | .zero _, .zero _ => fNan
  | .inf a, .zero b => fInf (a != b)
  | .inf a, .fin b _ _ => fInf (a != b)
  | .zero a, .fin b _ _ => fZero (a != b)
  | .zero a, .inf b => fZero (a != b)
  | .fin a _ _, .zero b => fInf (a != b)
  | .fin a _ _, .inf b => fZero (a != b)
  | .fin a m e, .fin b n f =>
    let d := e - f
    if 0 ≤ d then roundMag 24 (a != b) (m * 2 ^ d.toNat) n else roundMag 24 (a != b) m (n * 2 ^ (-d).toNat)

/-- The sum of the first terms of the exponential series in fixed point with `p` fraction bits, from term `t` on. -/
def expTerms (p x : Nat) : Nat → Nat → Nat → Nat
  | 0, _, _ => 0
  | k + 1, i, t => t + expTerms p x k (i + 1) (t * x / 2 ^ p / (i + 1))

/-- e to a non-negative fixed-point number with 1,024 fraction bits, with 1,024 fraction bits. Its error is far below the
distance of any FP32 exponential from a rounding boundary. -/
def expFixed (x : Nat) : Nat := expTerms 1024 x 600 0 (2 ^ 1024)

/-- EXP of Table 10-6: the correctly rounded exponential. -/
def fExp (x : F32) : F32 :=
  match x.val with
  | .nan => fNan
  | .inf a => if a then fZero false else fInf false
  | .zero _ => fOne
  | .fin a m e =>
    let big := decide (128 * 16777216 ≤ m * 2 ^ (e + 24).toNat) && decide (-24 ≤ e)
    if big then (if a then fZero false else fInf false)
    else
      let fx := if 0 ≤ e + 1024 then m * 2 ^ (e + 1024).toNat else m / 2 ^ (-(e + 1024)).toNat
      let y := expFixed fx
      if a then roundMag 24 false (2 ^ 1024) y else roundMag 24 false y (2 ^ 1024)

/-- R401: round_8 (TO_BF16 of Table 10-6). -/
def toBf16 (x : F32) : Bf16 :=
  match x.val with
  | .nan => 0x7FC0#16
  | .zero a => if a then 0x8000#16 else 0#16
  | .inf a => if a then 0xFF80#16 else 0x7F80#16
  | .fin a m e => ((roundDyadic 8 a (smant a m) e) >>> 16).setWidth 16

/-- A bf16 value as FP32. -/
def Bf16.f32 (x : Bf16) : F32 := (x.setWidth 32) <<< 16

/-- R403: an unsigned integer as FP32. -/
def natF32 (n : Nat) : F32 := roundMag 24 false n 1

/-- R403: an unsigned integer as bf16. -/
def natBf16 (n : Nat) : Bf16 := ((roundMag 8 false n 1) >>> 16).setWidth 16

/-- A signed integer of at most 8 significant bits as FP32, exactly (R396). -/
def intF32 (i : Int) : F32 := roundDyadic 24 false i 0

/-! ### Comparison and rank (R404, R410) -/

/-- The value as a key of numeric order: sign of comparison of two non-NaN values. -/
def cmpVal : FpVal → FpVal → Ordering
  | .nan, _ => .eq
  | _, .nan => .eq
  | .inf a, .inf b => if a = b then .eq else if a then .lt else .gt
  | .inf a, _ => if a then .lt else .gt
  | _, .inf b => if b then .gt else .lt
  | .zero _, .zero _ => .eq
  | .zero _, .fin b _ _ => if b then .gt else .lt
  | .fin a _ _, .zero _ => if a then .lt else .gt
  | .fin a m e, .fin b n f =>
    let lo := min e f
    compare (smant a m * 2 ^ (e - lo).toNat) (smant b n * 2 ^ (f - lo).toNat)

/-- NaN. -/
def F32.isNan (x : F32) : Bool := x.val == .nan

/-- R404: less than; false with a NaN operand. -/
def fLt (x y : F32) : Bool := !x.isNan && !y.isNan && cmpVal x.val y.val == .lt

/-- R404: at most; false with a NaN operand. -/
def fLe (x y : F32) : Bool := !x.isNan && !y.isNan && cmpVal x.val y.val != .gt

/-- R404: equal; false with a NaN operand. -/
def fEq (x y : F32) : Bool := !x.isNan && !y.isNan && cmpVal x.val y.val == .eq

/-- R410: `x` ranks before `y`. -/
def rankLt (x y : F32) : Bool := if x.isNan then false else if y.isNan then true else fLt x y

/-- MAX of Table 10-6: the element that ranks last; of equal ones that is the last, as the lower index ranks first (R410). -/
def fMax : F32 → List F32 → F32
  | m, [] => m
  | m, x :: xs => fMax (if rankLt x m then m else x) xs

/-- MIN of Table 10-6. -/
def fMin : F32 → List F32 → F32
  | m, [] => m
  | m, x :: xs => fMin (if rankLt x m then x else m) xs

/-- The value is a normal number above 0. -/
def F32.normalPos (x : F32) : Bool :=
  match x.val with
  | .fin false _ _ => true
  | _ => false

/-- The value is infinite or NaN. -/
def F32.notFinite (x : F32) : Bool :=
  match x.val with
  | .inf _ => true
  | .nan => true
  | _ => false

/-- Infinite. -/
def F32.isInf (x : F32) : Bool :=
  match x.val with
  | .inf _ => true
  | _ => false

/-- ±0 as the device reads it (R394). -/
def F32.isZero (x : F32) : Bool :=
  match x.val with
  | .zero _ => true
  | _ => false

/-- A value that is an integer from 0 to `hi`, as that integer. -/
def F32.asNat (x : F32) (hi : Nat) : Option Nat :=
  match x.val with
  | .zero _ => some 0
  | .fin false m e =>
    if 0 ≤ e then (let n := m * 2 ^ e.toNat; if n ≤ hi then some n else none)
    else
      let d := 2 ^ (-e).toNat
      if m % d = 0 ∧ m / d ≤ hi then some (m / d) else none
  | _ => none

/-- The integer nearest a value, a half going away from zero; 0 for what is not finite. -/
def F32.halfAway (x : F32) : Int :=
  match x.val with
  | .fin a m e =>
    let n := if 0 ≤ e then m * 2 ^ e.toNat else halfUp m (2 ^ (-e).toNat)
    smant a n
  | _ => 0

/-! ### Words in memory -/

/-- An FP32 value from four bytes (R5). -/
def f32Of (bs : Bytes) : F32 := BitVec.ofNat 32 (leNat bs)

/-- The FP32 values of a byte string. -/
def f32s : Nat → Bytes → List F32
  | 0, _ => []
  | n + 1, bs => f32Of (bs.take 4) :: f32s n (bs.drop 4)

/-- FP32 values as bytes. -/
def f32Bytes (xs : List F32) : Bytes := xs.flatMap (fun x => leBytes 4 x.toNat)

/-! ### Activation tables (R412 to R414) -/

/-- An activation table: breakpoints, slopes, intercepts. -/
structure ActTable where
  breaks : List F32
  slopes : List F32
  intercepts : List F32
  deriving DecidableEq, Repr

/-- Reads a table of Table 10-7. -/
def actTableOf (bs : Bytes) : ActTable :=
  { breaks := f32s 255 bs, slopes := f32s 256 (bs.drop 0x400), intercepts := f32s 256 (bs.drop 0x800) }

/-- Non-decreasing under R404. -/
def nonDecreasing : List F32 → Bool
  | x :: y :: rest => fLe x y && nonDecreasing (y :: rest)
  | _ => true

/-- Strictly ascending under R404. -/
def ascending : List F32 → Bool
  | x :: y :: rest => fLt x y && ascending (y :: rest)
  | _ => true

/-- R413: the check of an activation table. -/
def actTableOk (bs : Bytes) : Bool :=
  let t := actTableOf bs
  !(t.breaks ++ t.slopes ++ t.intercepts).any F32.notFinite && nonDecreasing t.breaks && leAt bs 0x3FC 4 == 0

/-- R414: TABLE(s, x). -/
def ActTable.eval (t : ActTable) (x : F32) : F32 :=
  if x.isNan then fNan
  else
    let g := (t.breaks.filter (fun b => fLe b x)).length
    let sl := t.slopes.getD g fOne
    let ic := t.intercepts.getD g 0
    if x.isInf then
      if sl.isZero then ic.val.round else (mulVal sl.val x.val).round
    else fMulAdd sl x ic

/-- R415: the identity table of a slot at tile start. -/
def actDefault : ActTable :=
  { breaks := List.replicate 255 0, slopes := List.replicate 256 fOne, intercepts := List.replicate 256 0 }

/-- R398: the check of a codebook. -/
def codebookOk (isA : Bool) (es : List Bf16) : Bool :=
  let sub := fun (e : Bf16) => e.toNat / 128 % 256 == 0 && e.toNat % 128 != 0
  !es.any (fun e => e.f32.notFinite || sub e) && ascending (es.map Bf16.f32) && (!isA || es.contains 0#16)

end Sys2Proof.Machine
end

