-- ==== Sys2Proof/Machine/Encode.lean ====
section
/-!
DEFINITION. Machine/Encode.lean: encode tables and the encoding of values into codes (R408, R409, R436, R437, R440).
-/
namespace Sys2Proof.Machine

/-- Table 11-6: an encode table. -/
structure EncTable where
  format : Nat
  dynamic : Bool
  site : Nat
  zero : Nat
  log2 : Nat
  layer : Nat
  inv : F32
  lo : F32
  hi : F32
  mids : List F32
  deriving DecidableEq, Repr

/-- R436: midpoints that a format uses. -/
def midsUsed (format : Nat) : Nat := match format with | 2 => 15 | 3 => 255 | _ => 0

/-- Reads the 1,088 bytes of Table 11-6. -/
def encTableOf (bs : Bytes) : EncTable :=
  let f := leAt bs 1 1
  { format := leAt bs 0 1, dynamic := bitOf f 0, site := bitsOf f 1 4, zero := leAt bs 2 1, log2 := leAt bs 3 1 % 32
    layer := leAt bs 4 2 % 4096, inv := f32Of (slice bs 8 4), lo := f32Of (slice bs 0xC 4), hi := f32Of (slice bs 0x10 4)
    mids := f32s 255 (bs.drop 0x20) }

/-- R437: reserved fields are 0. -/
def encReservedOk (bs : Bytes) : Bool :=
  decide (leAt bs 1 1 < 32) && decide (leAt bs 3 1 < 32) && decide (leAt bs 4 2 < 4096) && leAt bs 6 2 == 0 &&
    leAt bs 0x14 12 == 0 && leAt bs 0x41C 36 == 0

/-- R437: the zero code of a code format is placed between a negative and a positive midpoint. -/
def EncTable.zeroOk (e : EncTable) : Bool :=
  let n := midsUsed e.format
  decide (e.zero ≤ n) &&
    (e.zero == 0 || (match e.mids[e.zero - 1]? with | some m => fLt m 0 | none => false)) &&
    (e.zero == n || (match e.mids[e.zero]? with | some m => fLt 0 m | none => false))

/-- R437: the conditions for codes. -/
def EncTable.codesOk (e : EncTable) : Bool :=
  let n := midsUsed e.format
  let used := e.mids.take n
  !(e.lo :: e.hi :: used).any F32.notFinite && ascending used && fLt e.lo (used.headD 0) && fLt (used.getLastD 0) e.hi &&
    e.zeroOk && (e.mids.drop n).all (fun m => m == 0)

/-- R437: the check of an encode table. -/
def encTableOk (bs : Bytes) : Bool :=
  let e := encTableOf bs
  (e.format == 2 || e.format == 3 || e.format == 4) && encReservedOk bs && decide (e.log2 ≤ 16) && e.inv.normalPos &&
    (e.dynamic || e.site == 0) &&
    (if e.format = 4 then e.lo == 0 && e.hi == 0 && e.mids.all (fun m => m == 0) else e.codesOk)

/-- How R440 counts a value. -/
inductive EncKind where
  | plain | nan | clipped
  deriving DecidableEq, Repr

/-- R440, AFFINE8: zero point plus the nearest integer, held at the end codes. -/
def EncTable.affine (e : EncTable) (y : F32) : Nat × EncKind :=
  match y.val with
  | .inf true => (0, .clipped)
  | .inf false => (255, .clipped)
  | _ =>
    let c := (e.zero : Int) + y.halfAway
    if 255 < c then (255, .clipped) else if c < 0 then (0, .clipped) else (c.toNat, .plain)

/-- R440, codes: midpoints below the value, a midpoint that is not negative counting when equal. -/
def EncTable.index (e : EncTable) (y : F32) : Nat :=
  ((e.mids.take (midsUsed e.format)).filter (fun m => fLt m y || (fEq m y && fLe 0 m))).length

/-- R440: the code of a value under an inverse scale, and how it counts. -/
def EncTable.encode (e : EncTable) (inv x : F32) : Nat × EncKind :=
  let y := fMul x inv
  if x.isNan || y.isNan then (e.zero, .nan)
  else if e.format = 4 then e.affine y
  else if y.isZero then (e.zero, .plain)
  else (e.index y, if fLt e.hi y || fLt y e.lo then .clipped else .plain)

/-- Codes as bytes: two to a byte for CODE4, the even one in the low nibble. -/
def codeBytes (format : Nat) : List Nat → Bytes
  | [] => []
  | [c] => [BitVec.ofNat 8 c]
  | c :: d :: r =>
    if format = 2 then BitVec.ofNat 8 (c + 16 * d) :: codeBytes format r
    else BitVec.ofNat 8 c :: codeBytes format (d :: r)

end Sys2Proof.Machine
end

