-- ==== Sys2Proof/Machine/FlowTable.lean ====
section
/-!
DEFINITION. Machine/FlowTable.lean: entries, buckets and handles (R211 to R217), the search for a key (R220, R222, R745),
changes of slots (R215, R294), the learn coalescer (R224 to R228) and insertion (R229 to R234).
-/
namespace Sys2Proof.Machine

/-! ### Places (R211, R212, R216) -/

/-- R211: the base of a partition's share on a Wing. -/
def Partition.shareBase (x : Partition) (w : Nat) : Nat := if w = 0 then x.shareBase0 else x.shareBase1

/-- R212: the bucket of a flow hash in a partition's share. -/
def Partition.bucketOf (x : Partition) (w h : Nat) : Nat := x.shareBase w + h % 2 ^ x.shareLog2

/-- A bucket lies in a partition's share on a Wing. -/
def Partition.ownsBucket (x : Partition) (w b : Nat) : Bool :=
  decide (x.shareBase w ≤ b) && decide (b < x.shareBase w + 2 ^ x.shareLog2)

/-- Table 06-3: the handle of a bucket slot. -/
def handleOf (w b way : Nat) : Nat := 4 * b + way + 33554432 * w

/-- Table 06-3: the handle of an overflow entry. -/
def ovHandle (w i : Nat) : Nat := i + 16777216 + 33554432 * w

/-- Fields of a handle. -/
def hSlot (h : Nat) : Nat := h % 16777216
def hOverflow (h : Nat) : Bool := bitOf h 24
def hWing (h : Nat) : Nat := b2n (bitOf h 25)
def hBucket (h : Nat) : Nat := hSlot h / 4
def hWay (h : Nat) : Nat := hSlot h % 4

/-- The entry of a bucket slot. -/
def Wing.entry (x : Wing) (slot : Nat) : FlowEntry := mget {} x.entries slot

/-- An entry of the overflow store. -/
def Wing.ovEntry (x : Wing) (i : Nat) : FlowEntry := mget {} x.overflow i

/-- The entry that a handle names. -/
def State.entryAt (s : State) (h : Nat) : FlowEntry :=
  let w := s.wing (hWing h)
  if hOverflow h then w.ovEntry (hSlot h) else w.entry (hSlot h)

/-- Writes the entry that a handle names. -/
def State.putEntry (s : State) (h : Nat) (e : FlowEntry) : State :=
  let w := s.wing (hWing h)
  s.setWing (hWing h)
    (if hOverflow h then { w with overflow := mput w.overflow (hSlot h) e } else { w with entries := mput w.entries (hSlot h) e })

/-- The four ways of a bucket. -/
def Wing.bucket (x : Wing) (b : Nat) : List FlowEntry := [0, 1, 2, 3].map (fun way => x.entry (4 * b + way))

/-- Partition of the table key in an entry. -/
def FlowEntry.partition (e : FlowEntry) : Nat := leAt e.key 0 1 % 16

/-- Valid overflow entries of a partition. -/
def Wing.ovUsed (x : Wing) (p : Nat) : Nat := (x.overflow.filter (fun e => e.2.valid && e.2.partition == p)).length

/-! ### Layout of entries (R213, Table 06-2) -/

/-- Table 06-2: an entry; `lock` holds bytes 0x06 and 0x07. -/
def FlowEntry.bytes (e : FlowEntry) (lock : Nat) : Bytes :=
  leBytes 1 (b2n e.valid + 2 * b2n e.hit + 4 * b2n e.aged + 8 * b2n e.moved + 16 * b2n e.noAge + 32 * b2n e.learned)
    ++ leBytes 1 e.gen ++ leBytes 2 e.firstPort ++ leBytes 2 e.cookie ++ leBytes 2 lock ++ leBytes 8 e.insertNt
    ++ e.key ++ zeroBytes (48 - e.key.length)

/-- R9: a stored key, whose reserved bits (Table 06-1) read as zero. -/
def storedKey (k : Bytes) : Bytes :=
  leBytes 1 (leAt k 0 1 % 128) ++ slice k 1 5 ++ zeroBytes 2 ++ slice k 8 4 ++ zeroBytes 4 ++ slice k 0x10 32

/-- Reads an entry of Table 06-2. -/
def entryOf (bs : Bytes) : FlowEntry :=
  let f := leAt bs 0 1
  { valid := bitOf f 0, hit := bitOf f 1, aged := bitOf f 2, moved := bitOf f 3, noAge := bitOf f 4, learned := bitOf f 5,
    gen := leAt bs 1 1, firstPort := leAt bs 2 2, cookie := leAt bs 4 2, insertNt := leAt bs 8 8, key := storedKey (slice bs 0x10 48) }

/-- A bucket with its header (R213). -/
def bucketBytes (es : List FlowEntry) (lock : Nat) : Bytes :=
  match es with
  | [] => []
  | e :: rest => e.bytes lock ++ rest.flatMap (fun x => x.bytes 0)

/-- The entries of `n` units of 64 bytes. -/
def entriesOf : Nat → Bytes → List FlowEntry
  | 0, _ => []
  | n + 1, bs => entryOf (bs.take 64) :: entriesOf n (bs.drop 64)

/-- The header of a locked or unlocked bucket. -/
def Wing.lockWord (x : Wing) (b : Nat) : Nat :=
  match mfind x.locks b with
  | some l => 1 + 256 * l.owner
  | none => 0

/-! ### Search (R220, R222, R223, R745) -/

/-- R745: the former contents of a unit as they stood for a stamp, when a later change has replaced them. -/
def State.formerUnit (s : State) (w stamp : Nat) (p : PairUnit → Bool) : Option PairUnit :=
  ((mget [] s.pair.log w).find? (fun x => decide (stamp < x.e) && p x.former)).map (·.former)

/-- The ways of a bucket as a lookup with the given stamp sees them. -/
def State.bucketFor (s : State) (w b stamp : Nat) : List FlowEntry :=
  let now := (s.wing w).bucket b
  if s.paired then
    match s.formerUnit w stamp (fun u => match u with | .bucket c _ => c == b | _ => false) with
    | some (.bucket _ d) => entriesOf 4 d
    | _ => now
  else now

/-- An overflow entry as a lookup with the given stamp sees it. -/
def State.ovFor (s : State) (w i stamp : Nat) : FlowEntry :=
  let now := (s.wing w).ovEntry i
  if s.paired then
    match s.formerUnit w stamp (fun u => match u with | .overflow c _ => c == i | _ => false) with
    | some (.overflow _ d) => entryOf d
    | _ => now
  else now

/-- The way of the first valid entry with a key. -/
def findWay (es : List FlowEntry) (key : Bytes) : Option Nat :=
  es.findIdx? (fun e => e.valid && e.key == key)

/-- R220: the entry with a key in a bucket or among the overflow entries, as a stamp sees them: its handle and itself. -/
def State.findFor (s : State) (w b stamp : Nat) (key : Bytes) : Option (Nat × FlowEntry) :=
  let es := s.bucketFor w b stamp
  match findWay es key with
  | some way => some (handleOf w b way, (es[way]?).getD {})
  | none =>
    (((s.wing w).overflow.map (fun e => (e.1, s.ovFor w e.1 stamp))).find? (fun e => e.2.valid && e.2.key == key)).map
      (fun e => (ovHandle w e.1, e.2))

/-- The committed entry with a key, by handle. -/
def State.findNow (s : State) (w b : Nat) (key : Bytes) : Option Nat :=
  match findWay ((s.wing w).bucket b) key with
  | some way => some (handleOf w b way)
  | none => (((s.wing w).overflow).find? (fun e => e.2.valid && e.2.key == key)).map (fun e => ovHandle w e.1)

/-! ### Larder places (R288, R290) -/

/-- Bytes of a partition's Larder block (R287). -/
def Partition.blockBytes (x : Partition) : Nat := 256 * x.blockUnits

/-- R288: the address of a bucket slot's block in the partition's DRAM region. -/
def Partition.blockAddr (x : Partition) (h : Nat) : Nat :=
  4096 * x.larderOff + ((hBucket h - x.shareBase (hWing h)) * 4 + hWay h) * x.blockBytes

/-- The Larder block of a handle of a partition. -/
def State.readBlock (s : State) (p h : Nat) : Bytes :=
  let w := s.wing (hWing h)
  let x := s.partOf p
  if hOverflow h then memRead w.overflowLarder (4096 * hSlot h) x.blockBytes
  else memRead (w.region p) (x.blockAddr h) x.blockBytes

/-- The key of a 64-byte word of a handle's block among the poisoned words (R817): Wing, partition (31 for the overflow
Larder) and address. -/
def State.rowWordKey (s : State) (p h j : Nat) : Nat :=
  if hOverflow h then hWing h * 72057594037927936 + 31 * 281474976710656 + 4096 * hSlot h + 64 * j
  else hWing h * 72057594037927936 + p * 281474976710656 + (s.partOf p).blockAddr h + 64 * j

/-- Writes the Larder block of a handle, or its first bytes; a written word loses its poison (R817). -/
def State.writeBlock (s : State) (p h : Nat) (data : Bytes) : State :=
  let w := s.wing (hWing h)
  let x := s.partOf p
  let lo := s.rowWordKey p h 0
  let s := { s with health := { s.health with
    poisoned := s.health.poisoned.filter (fun k => decide (k < lo) || decide (lo + data.length ≤ k)) } }
  s.setWing (hWing h)
    (if hOverflow h then { w with overflowLarder := memWrite w.overflowLarder (4096 * hSlot h) data }
    else { w with regions := mput w.regions p (memWrite (w.region p) (x.blockAddr h) data) })

/-- A word of a handle's block is poisoned (R817). -/
def State.wordBad (s : State) (p h j : Nat) : Bool := s.health.poisoned.contains (s.rowWordKey p h j)

/-- Some word of a handle's block is poisoned. -/
def State.blockBad (s : State) (p h : Nat) : Bool :=
  (List.range (4 * (s.partOf p).blockUnits)).any (fun j => s.wordBad p h j)

/-- R817: a DRAM read meets an uncorrectable word of a handle's block. -/
def State.poisonWord (s : State) (p h j : Nat) : State :=
  let k := s.rowWordKey p h j
  let s := if s.health.poisoned.contains k then s
    else { s with health := { s.health with poisoned := k :: s.health.poisoned } }
  (s.bump (Ctr.wingDramUncorrectable (hWing h))).setStickyIn (1 + hWing h) 128

/-- R300, R305: a cached copy is dropped. -/
def State.uncache (s : State) (p h : Nat) : State :=
  let w := s.wing (hWing h)
  s.setWing (hWing h) { w with cache := mput w.cache p ((mget [] w.cache p).filter (fun x => x != h)) }

/-- R294: live = 0 in the header of a slot's block. -/
def State.clearLive (s : State) (p h : Nat) : State :=
  let b := s.readBlock p h
  (s.writeBlock p h ((b.take 64).set 7 0)).uncache p h

/-! ### Changes of a slot (R215, R249, R276) -/

/-- R276: every packet whose lookup returned HIT on a handle with the former entry_gen is to be squashed with cause
ENTRY_CHANGED; in an active pair none is that is stamped before the change's instant (R746). -/
def State.entryChanged (s : State) (h gen e : Nat) : State :=
  let w := s.wing (hWing h)
  s.setWing (hWing h) { w with stairs := w.stairs.map (fun x =>
    if x.lookup = 0 ∧ x.handle = h ∧ x.gen = gen ∧ ¬ (s.paired ∧ x.pkt.slot.at_ < e) ∧ x.squash = none ∧ x.state ≠ .squashed then
      { x with squash := some 2 } else x) }

/-- The 48 bytes of an entry's key. -/
def FlowEntry.key48 (e : FlowEntry) : Bytes := e.key ++ zeroBytes (48 - e.key.length)

/-- R215: the valid bit or the key differs. -/
def FlowEntry.differs (old new : FlowEntry) : Bool := old.valid != new.valid || old.key48 != new.key48

/-- R215, R248, R294: a slot takes new contents at instant `e`: a changed valid bit or key advances entry_gen and squashes
packets in flight; a slot that becomes valid or is re-keyed takes live 0. -/
def State.changeSlot (s : State) (p h e : Nat) (new : FlowEntry) : State :=
  let old := s.entryAt h
  if old.differs new then
    let s := s.putEntry h { new with gen := (old.gen + 1) % 256 }
    let s := s.entryChanged h old.gen e
    if new.valid then s.clearLive p h else s
  else s.putEntry h { new with gen := old.gen }

/-- A removal (R236, R250): valid 0; the key stays for the record of the index's last owner (R723). -/
def FlowEntry.removed (e : FlowEntry) : FlowEntry := { e with valid := false }

/-! ### Flow records (R559, R567, R568) -/

/-- R565: an NT instant as a dateTimeNanoseconds value. -/
def State.ipfixTime (s : State) (nt : Nat) : Bytes :=
  let u := ((s.time.originInForce : Int) + (nt / 16000000000 : Nat) - ((s.time.todLast.map (·.utcOffset)).getD 0 : Nat)
    + 2208988800).toNat % 4294967296
  let n := nt % 16000000000 / 16
  beBytes 4 u ++ beBytes 4 ((2 * (n * 4294967296) + 1000000000) / 2000000000)

/-- Table 15-5: the flow record of an entry, with packet count, last arrival and epoch of its block. -/
def State.flowRecord (s : State) (p : Nat) (e : FlowEntry) (count last epoch reason : Nat) : ExpItem :=
  let v6 := bitOf (leAt e.key 0 1) 6
  let ent := s.setting 0x0006 0 0 != 0
  let addr := if v6 then slice e.key 0x10 16 ++ slice e.key 0x20 16 else slice e.key 0x10 4 ++ slice e.key 0x20 4
  { type := if v6 then 257 else 256, partition := p
    data := addr ++ slice e.key 1 1 ++ beBytes 2 (leAt e.key 2 2) ++ beBytes 2 (leAt e.key 4 2) ++ beBytes 8 count ++
      s.ipfixTime e.insertNt ++ s.ipfixTime (if count = 0 then e.insertNt else last) ++ beBytes 1 reason ++
      (if ent then beBytes 1 p ++ beBytes 4 (leAt e.key 8 4) ++ beBytes 2 e.firstPort ++
         beBytes 1 (b2n e.moved + 2 * b2n e.learned + 4 * b2n e.noAge) ++ beBytes 2 epoch else []) }

/-- R568: the block of a handle matches its entry. -/
def State.blockMatches (s : State) (p h gen : Nat) (b : Bytes) : Bool :=
  bitOf (leAt b 7 1) 0 && leAt b 0 4 == h && leAt b 6 1 == gen && !s.blockBad p h

/-- R559, R568: the removal of an entry produces a flow record: reason 1 for a sweep, 4 otherwise. -/
def State.exportFlow (s : State) (p h : Nat) (e : FlowEntry) (reason : Nat) : State :=
  let q := s.partSetting 0x100D p
  if s.exports && decide (q < 4096) then
    let b := s.readBlock p h
    let i := if s.blockMatches p h e.gen b then s.flowRecord p e (leAt b 8 4) (leAt b 0x10 8) (leAt b 4 2) reason
             else s.flowRecord p e 0 0 (leAt b 4 2) reason
    (s.bump (ctrOnWing (hWing h) (Ctr.partFlowRecords p))).exportItem q i
  else s

/-! ### The learn coalescer (R224 to R228, R232) -/

/-- R225: a partition's coalescer quota on a Wing. -/
def Partition.coalQuota (x : Partition) (w : Nat) : Nat := if w = 0 then x.coalQuota0 else x.coalQuota1

/-- A partition's overflow quota on a Wing. -/
def Partition.overflowQuota (x : Partition) (w : Nat) : Nat := if w = 0 then x.overflowQuota0 else x.overflowQuota1

/-- R226 to R228, R743: a learn notice of a committed MISS. -/
def State.learnNotice (s : State) (w p : Nat) (key : Bytes) (hash port : Nat) : State :=
  if s.isStandby then s.bump Ctr.pairNoticeDiscarded
  else
    let s := s.bump (ctrOnWing w (Ctr.partLearnNotices p))
    let x := s.wing w
    match x.coalescer.find? (fun k => k.key == key) with
    | some k =>
      if k.firstPort ≠ port ∧ ¬ k.multi then
        (s.setWing w { x with coalescer := x.coalescer.map (fun (y : PendKey) => if y.key = key then { y with multi := true } else y) }).bump
          (ctrOnWing w (Ctr.partMultiPort p))
      else s
    | none =>
      if (s.partOf p).coalQuota w ≤ (x.coalescer.filter (fun k => k.partition == p)).length ∨ 4096 ≤ x.coalescer.length then
        (s.bump (Ctr.wingCoalescerFull w)).bump (ctrOnWing w (Ctr.partNoticeDropped p))
      else
        s.setWing w { x with coalescer := x.coalescer ++ [{ key := key, hash := hash, partition := p, firstPort := port, multi := false }] }

/-! ### Insertion (R229 to R234, R743) -/

/-- R234: the first failure of a partition on a Wing in a 1 ms interval raises a TABLE_FULL record. -/
def State.insertFail (s : State) (w : Nat) (k : PendKey) : State :=
  let p := k.partition
  let i := s.nt / ms
  let s := s.bump (ctrOnWing w (Ctr.partInsertFail p))
  let x := s.wing w
  let c := mget { interval := 0, cur := 0, prev := 0 } x.full p
  let c := if c.interval = i then c else { interval := i, cur := 0, prev := if c.interval + 1 = i then c.cur else 0 }
  let s := s.setWing w { x with full := mput x.full p { c with cur := c.cur + 1 } }
  if c.cur = 0 then
    s.record p (s.partSetting 0x100B p) (s.partSetting 0x100C p) 2
      (leBytes 4 (p + 16 * w) ++ leBytes 4 (min c.prev 4294967295) ++ leBytes 8 s.nt ++ k.key)
  else s

/-- R230 steps 3 and 4: the slot that an insertion takes. -/
def State.freeSlot (s : State) (w b p : Nat) : Option Nat :=
  let x := s.wing w
  match [0, 1, 2, 3].find? (fun way => !(x.entry (4 * b + way)).valid) with
  | some way => some (handleOf w b way)
  | none =>
    if x.ovUsed p < (s.partOf p).overflowQuota w then
      ((List.range (x.overflow.length + 1)).find? (fun i => !(x.ovEntry i).valid && decide (i < 32768))).map (ovHandle w)
    else none

/-- R231: the entry of a pending key. -/
def PendKey.entry (k : PendKey) (nt : Nat) : FlowEntry :=
  { valid := true, learned := true, moved := k.multi, firstPort := k.firstPort, insertNt := nt, key := k.key }

/-- R229: the oldest pending key whose bucket is not locked and, in an active pair, has no change that waits for its
instant (R744). -/
def State.nextKey (s : State) (w : Nat) : Option PendKey :=
  (s.wing w).coalescer.find? (fun k =>
    let b := (s.partOf k.partition).bucketOf w k.hash
    (mfind (s.wing w).locks b).isNone && !s.changePending w (PairUnit.isBucket b))

/-- INSERTION (R230): the oldest pending key of a Wing. In an active pair the primary writes the entry with insert_nt E and
sends INSERT (R743). -/
def execInsertion (wing : Nat) (s : State) : Host.Outcome State Fault Refusal :=
  .next (
    match s.nextKey wing with
    | none => s
    | some k =>
      if !s.wingFree wing || s.isStandby || s.decisionWaits wing then s
      else
        let p := k.partition
        let b := (s.partOf p).bucketOf wing k.hash
        let x := s.wing wing
        let s := s.setWing wing { x with coalescer := x.coalescer.filter (fun y => y.key != k.key) }
        if (s.findNow wing b k.key).isSome then s.bump (ctrOnWing wing (Ctr.partDuplicate p))
        else
          match s.freeSlot wing b p with
          | none => s.insertFail wing k
          | some h =>
            let s := s.bump (ctrOnWing wing (Ctr.partInserted p))
            if s.isPrimary then
              let gen := ((s.entryAt h).gen + 1) % 256
              let r := s.pairDecide evInsertApply wing p (fun e => .insert e h ({ k.entry e with gen := gen }.bytes 0))
              (r.2.changeSlot p h r.1 (k.entry r.1)).bump Ctr.pairInserts
            else s.changeSlot p h s.nt (k.entry s.nt))

end Sys2Proof.Machine
end

