-- ==== Sys2Proof/Machine/Porch.lean ====
section
/-!
DEFINITION. Machine/Porch.lean: the parse (R127 to R141, R157 to R160), the classification key (R142, Table 04-4), the
rules (R143 to R147, R151) and the flow key (R145, R208).
-/
namespace Sys2Proof.Machine

/-! ### Reason codes (Table 04-3) -/

/-- The values of Table 04-3 in its order, which numbers the reason counters. -/
def reasonCodes : List Nat :=
  [0x00, 0x01, 0x02, 0x03, 0x04, 0x10, 0x11, 0x12, 0x13, 0x14, 0x20, 0x21, 0x22, 0x23, 0x24, 0x25, 0x26, 0x27, 0x28, 0x29,
    0x2A, 0x30]

def rsnNonIp : Nat := 0x01
def rsnL4Other : Nat := 0x02
def rsnTunnelOther : Nat := 0x03
def rsnMplsPayloadOther : Nat := 0x04
def rsnParseDepth : Nat := 0x10
def rsnTagDepth : Nat := 0x11
def rsnLabelDepth : Nat := 0x12
def rsnExtDepth : Nat := 0x13
def rsnFragNested : Nat := 0x14
def rsnSwitchError : Nat := 0x20
def rsnFrameLength : Nat := 0x21
def rsnIpVersion : Nat := 0x22
def rsnIpv4Ihl : Nat := 0x23
def rsnIpLengthLong : Nat := 0x24
def rsnIpLengthShort : Nat := 0x25
def rsnUdpLength : Nat := 0x26
def rsnTcpOffset : Nat := 0x27
def rsnExtLength : Nat := 0x28
def rsnFragFormat : Nat := 0x29
def rsnFrameShort : Nat := 0x2A
def rsnTruncated : Nat := 0x30

/-! ### The parse -/

/-- An L3 header and its L4 header: a group of Table 04-4, with the place of each header in the head. -/
structure Group where
  seq : Nat
  l3 : Nat
  ver : Nat
  src : Bytes
  dst : Bytes
  proto : Nat := 0
  tos : Nat := 0
  opts : Bool := false
  flowLabel : Nat := 0
  sport : Nat := 0
  dport : Nat := 0
  tcpFlags : Nat := 0
  extra : Nat := 0
  l4 : Option Nat := none
  deriving DecidableEq, Repr

/-- R157, R158: the tracked fragment. -/
structure Frag where
  v6 : Bool
  proto : Nat
  ident : Nat
  src : Bytes
  dst : Bytes
  nonFirst : Bool
  level : Nat
  deriving DecidableEq, Repr

/-- What a parse has found so far. -/
structure Parsed where
  /-- Number of the header being read; 0 before parsing (R138). -/
  seq : Nat := 0
  /-- R138: the recorded reason with the number of its header. -/
  found : Option (Nat × Nat) := none
  malformed : Bool := false
  bound : Nat
  /-- First byte after the last header delivered (R190). -/
  pos : Nat := 0
  level : Nat := 0
  /-- Groups of levels 0 to 2. -/
  groups : Tab Group := []
  tci0 : Nat := 0
  tci1 : Nat := 0
  mplsTop : Option Nat := none
  etype0 : Nat := 0
  /-- Tunnel headers parsed: type of Table 04-5 and identifier. -/
  tunnels : List (Nat × Nat) := []
  frag : Option Frag := none
  /-- FRAG_FORMAT has been met (R160, R161). -/
  fragBad : Bool := false
  deriving DecidableEq, Repr

/-- What the Porch reads: the valid head bytes and the port settings of the classifying bank. -/
structure ParseCtx where
  head : Bytes
  vxlan : Nat
  geneve : Nat
  gtpu : Nat
  quic : List Nat

/-- The header that comes next. -/
inductive Hdr where
  | eth
  | etherType (t tags : Nat)
  | mpls (n : Nat)
  /-- The first nibble chooses the header (R134); otherwise the given reason. -/
  | nibble (other : Nat)
  | ip4
  | ip6
  | ext (next n : Nat)
  | l4 (proto : Nat) (v6 : Bool)
  | tunnel (type : Nat)
  deriving DecidableEq, Repr

/-- One step of the parse: what is found so far, and the header that comes next with its place. -/
abbrev ParseStep := Parsed × Option (Hdr × Nat)

/-- R138, R139: a reason met at header number `q`. -/
def Parsed.noteAt (x : Parsed) (q r : Nat) : Parsed :=
  let x := if 0x20 ≤ r then { x with malformed := true } else x
  match x.found with
  | none => { x with found := some (q, r) }
  | some (p, v) =>
    if p < q then x else if p = q then { x with found := some (q, min v r) } else { x with found := some (q, r) }

/-- A reason met at the header being read. -/
def Parsed.note (x : Parsed) (r : Nat) : Parsed := x.noteAt x.seq r

/-- The parse ends with a reason. -/
def Parsed.stop (x : Parsed) (r : Nat) : ParseStep := (x.note r, none)

/-- The parse goes on with a header. -/
def Parsed.next (x : Parsed) (h : Hdr) (o : Nat) : ParseStep := (x, some (h, o))

/-- The byte at `o` of the head, 0 where the head does not show it. -/
def ParseCtx.at (c : ParseCtx) (o : Nat) : Nat := beAt c.head o 1

/-- A field in network order. -/
def ParseCtx.be (c : ParseCtx) (o n : Nat) : Nat := beAt c.head o n

/-- R134: why a header of `n` bytes at `o` cannot be read, if it cannot. -/
def ParseCtx.cut (c : ParseCtx) (x : Parsed) (o n : Nat) : Option Nat :=
  if x.bound < o + n then some rsnFrameShort else if c.head.length < o + n then some rsnTruncated else none

/-- R134, R139: a header that ends the parse for another reason meets TRUNCATED too when its shown length passes the head end. -/
def ParseCtx.noteCut (c : ParseCtx) (x : Parsed) (o n : Nat) : Parsed :=
  match c.cut x o n with
  | some r => x.note r
  | none => x

/-- R134: reads a header of `n` bytes at `o`, or ends the parse. -/
def ParseCtx.need (c : ParseCtx) (x : Parsed) (o n : Nat) (k : Parsed → ParseStep) : ParseStep :=
  match c.cut x o n with
  | some r => x.stop r
  | none => k x

/-- R5, R142: an address as a 16-byte field. -/
def addrField (bs : Bytes) : Bytes := bs ++ zeroBytes (16 - bs.length)

/-- Changes the group of the current level. -/
def Parsed.modGroup (x : Parsed) (f : Group → Group) : Parsed :=
  match mfind x.groups x.level with
  | none => x
  | some g => { x with groups := mput x.groups x.level (f g) }

/-- R130: a tunnel header opens the next level; what it carries starts at `o`. -/
def Parsed.open_ (x : Parsed) (type ident o : Nat) : Parsed :=
  { x with tunnels := x.tunnels ++ [(type, ident)], level := x.level + 1, pos := o }

/-- The header that a GRE or Geneve protocol type names. -/
def byProtocolType (t : Nat) : Option Hdr :=
  if t = 0x6558 then some .eth else if t = 0x0800 then some .ip4 else if t = 0x86DD then some .ip6 else none

/-- Ethernet II. -/
def ParseCtx.eth (c : ParseCtx) (x : Parsed) (o : Nat) : ParseStep :=
  c.need x o 14 (fun x => { x with pos := o + 14 }.next (.etherType (c.be (o + 12) 2) 0) (o + 14))

/-- An EtherType, and the tag behind it when it names one (R131). -/
def ParseCtx.etherType (c : ParseCtx) (x : Parsed) (t tags o : Nat) : ParseStep :=
  let x := if x.level = 0 then { x with etype0 := t } else x
  if t = 0x8100 ∨ t = 0x88A8 then
    if tags = 2 then x.stop rsnTagDepth
    else
      c.need x o 4 (fun x =>
        let tci := c.be o 2
        let x := if x.level ≠ 0 then x else if tags = 0 then { x with tci0 := tci } else { x with tci1 := tci }
        { x with pos := o + 4 }.next (.etherType (c.be (o + 2) 2) (tags + 1)) (o + 4))
  else if t = 0x0800 then x.next .ip4 o
  else if t = 0x86DD then x.next .ip6 o
  else if t = 0x8847 ∨ t = 0x8848 then x.next (.mpls 0) o
  else x.stop rsnNonIp

/-- An MPLS label stack entry (R131). -/
def ParseCtx.mpls (c : ParseCtx) (x : Parsed) (n o : Nat) : ParseStep :=
  if n = 4 then x.stop rsnLabelDepth
  else
    c.need x o 4 (fun x =>
      let e := c.be o 4
      let x := if x.level = 0 ∧ x.mplsTop = none then { x with mplsTop := some e } else x
      let x := { x with pos := o + 4 }
      if bitOf e 8 then x.next (.nibble rsnMplsPayloadOther) (o + 4) else x.next (.mpls (n + 1)) (o + 4))

/-- A header chosen by its first nibble (R134). -/
def ParseCtx.nibble (c : ParseCtx) (x : Parsed) (other o : Nat) : ParseStep :=
  c.need x o 1 (fun x =>
    let n := c.at o / 16
    if n = 4 then x.next .ip4 o else if n = 6 then x.next .ip6 o else x.stop other)

/-- R160: a fragment's payload breaks a rule of FRAG_FORMAT. -/
def fragFormatBad (v6 : Bool) (proto off payload : Nat) (more : Bool) : Bool :=
  let least := if proto = 6 then 20 else if proto = 17 ∨ proto = 47 ∨ proto = (if v6 then 58 else 1) then 8 else 0
  (more && payload % 8 != 0) || decide (65535 < 8 * off + payload) || (off == 0 && decide (payload < least))

/-- R157 to R160: a fragment is tracked; a non-first one ends the parse with no reason. -/
def Parsed.fragment (x : Parsed) (f : Frag) (off payload : Nat) (more : Bool) (k : ParseStep) : ParseStep :=
  let x' := { k.1 with frag := some f }
  if fragFormatBad f.v6 f.proto off payload more then { x with frag := some f, fragBad := true }.stop rsnFragFormat
  else if off ≠ 0 then (x', none)
  else (x', k.2)

/-- IPv4 (R133 to R136). -/
def ParseCtx.ip4 (c : ParseCtx) (x : Parsed) (o : Nat) : ParseStep :=
  let b := c.at o
  let shown := if b / 16 = 4 ∧ o < c.head.length then max 20 (4 * (b % 16)) else 20
  match (if x.bound < o + shown then some rsnFrameShort else c.cut x o 20) with
  | some r => x.stop r
  | none =>
    if b / 16 ≠ 4 then x.stop rsnIpVersion
    else
      let hl := 4 * (b % 16)
      if hl < 20 then x.stop rsnIpv4Ihl
      else
        c.need x o hl (fun x =>
          let fo := c.be (o + 6) 2
          let more := bitOf fo 13
          let off := fo % 8192
          let isFrag := more || off != 0
          if isFrag ∧ x.frag.isSome then x.stop rsnFragNested
          else
            let g : Group := { seq := x.seq, l3 := o, ver := 4, src := addrField (slice c.head (o + 12) 4),
                               dst := addrField (slice c.head (o + 16) 4), proto := c.at (o + 9), tos := c.at (o + 1),
                               opts := decide (20 < hl) }
            let x := { x with groups := mput x.groups x.level g, pos := o + hl }
            let tl := c.be (o + 2) 2
            let x :=
              if x.bound < o + tl then x.note rsnIpLengthLong
              else if tl < hl then x.note rsnIpLengthShort
              else { x with bound := o + tl }
            let go := x.next (.l4 g.proto false) (o + hl)
            if isFrag then
              x.fragment { v6 := false, proto := g.proto, ident := c.be (o + 4) 2, src := g.src, dst := g.dst,
                           nonFirst := off != 0, level := x.level } off (x.bound - o - hl) more go
            else go)

/-- IPv6 (R133 to R136). -/
def ParseCtx.ip6 (c : ParseCtx) (x : Parsed) (o : Nat) : ParseStep :=
  c.need x o 40 (fun x =>
    let w := c.be o 4
    if w / 268435456 ≠ 6 then x.stop rsnIpVersion
    else
      let pl := c.be (o + 4) 2
      let g : Group := { seq := x.seq, l3 := o, ver := 6, src := slice c.head (o + 8) 16, dst := slice c.head (o + 24) 16,
                         proto := c.at (o + 6), tos := w / 1048576 % 256, flowLabel := w % 1048576 }
      let x := { x with groups := mput x.groups x.level g, pos := o + 40 }
      let x :=
        if pl = 0 ∨ x.bound < o + 40 + pl then x.note rsnIpLengthLong else { x with bound := o + 40 + pl }
      x.next (.ext g.proto 0) (o + 40))

/-- An IPv6 extension header of Table 04-1. -/
def isExt (nh : Nat) : Bool := nh == 0 || nh == 43 || nh == 44 || nh == 51 || nh == 60

/-- An IPv6 extension header, or the header behind the last one (R131, R134, R157 to R159). -/
def ParseCtx.ext (c : ParseCtx) (x : Parsed) (nh n o : Nat) : ParseStep :=
  let x := x.modGroup (fun g => { g with proto := nh })
  if !isExt nh then x.next (.l4 nh true) o
  else if n = 4 then x.stop rsnExtDepth
  else
    let lb := c.at (o + 1)
    let len := if nh = 44 then 8 else if nh = 51 then 4 * (lb + 2) else 8 * (lb + 1)
    if x.bound < o + len then x.stop rsnExtLength
    else if c.head.length < o + len then x.stop rsnTruncated
    else
      let nxt := c.at o
      let fo := c.be (o + 2) 2
      let more := bitOf fo 0
      let isFrag := decide (nh = 44) && (fo / 8 != 0 || more)
      let here : Bool := match x.frag with | some f => f.level == x.level | none => false
      if isFrag && x.frag.isSome && !here then
        match mfind x.groups x.level with
        | none => x.stop rsnFragNested
        | some g => ({ x with groups := mdel x.groups x.level, pos := g.l3 }.noteAt g.seq rsnFragNested, none)
      else
        let x := { x.modGroup (fun g => { g with proto := nxt, opts := true }) with pos := o + len }
        let go := x.next (.ext nxt (n + 1)) (o + len)
        match mfind x.groups x.level with
        | some g =>
          if isFrag && !here then
            x.fragment { v6 := true, proto := nxt, ident := c.be (o + 4) 4, src := g.src, dst := g.dst,
                         nonFirst := fo / 8 != 0, level := x.level } (fo / 8) (x.bound - o - 8) more go
          else go
        | none => go

/-- QUIC fields that the classification key holds: the version of a long header whose visible DCID and SCID lengths are at
most 20. -/
def ParseCtx.quicVersion (c : ParseCtx) (x : Parsed) (o : Nat) : Nat :=
  let e := min c.head.length x.bound
  let scid := o + 6 + c.at (o + 5)
  if e < o + 5 ∨ ¬ bitOf (c.at o) 7 ∨ (o + 5 < e ∧ 20 < c.at (o + 5)) ∨ (o + 5 < e ∧ scid < e ∧ 20 < c.at scid) then 0
  else c.be (o + 1) 4

/-- UDP (R129, R133). -/
def ParseCtx.udp (c : ParseCtx) (x : Parsed) (o : Nat) : ParseStep :=
  c.need x o 8 (fun x =>
    let ul := c.be (o + 4) 2
    let inFrag : Bool := match x.frag with | some f => f.level == x.level | none => false
    let x := if ul < 8 ∨ (¬ inFrag ∧ o + ul ≠ x.bound) then x.note rsnUdpLength else x
    let sp := c.be o 2
    let dp := c.be (o + 2) 2
    let x := { x.modGroup (fun g => { g with sport := sp, dport := dp, l4 := some o }) with pos := o + 8 }
    if dp = c.vxlan then x.next (.tunnel 1) (o + 8)
    else if dp = c.geneve then x.next (.tunnel 2) (o + 8)
    else if dp = c.gtpu then x.next (.tunnel 4) (o + 8)
    else if c.quic.any (fun q => q != 0 && (q == sp || q == dp)) then
      (x.modGroup (fun g => { g with extra := c.quicVersion x (o + 8) }), none)
    else (x, none))

/-- TCP. -/
def ParseCtx.tcp (c : ParseCtx) (x : Parsed) (o : Nat) : ParseStep :=
  let shown := if o + 12 < c.head.length then max 20 (4 * (c.at (o + 12) / 16)) else 20
  if x.bound < o + shown then x.stop rsnFrameShort
  else
    c.need x o 20 (fun x =>
      let len := 4 * (c.at (o + 12) / 16)
      if len < 20 then x.stop rsnTcpOffset
      else
        c.need x o len (fun x =>
          ({ x.modGroup (fun g => { g with sport := c.be o 2, dport := c.be (o + 2) 2, tcpFlags := c.at (o + 13),
                                           l4 := some o }) with pos := o + len }, none)))

/-- The L4 header that a protocol names. -/
def ParseCtx.l4 (c : ParseCtx) (x : Parsed) (proto : Nat) (v6 : Bool) (o : Nat) : ParseStep :=
  if proto = 47 then x.next (.tunnel 3) o
  else if proto = 17 then c.udp x o
  else if proto = 6 then c.tcp x o
  else if proto = 50 then
    c.need x o 8 (fun x =>
      ({ x.modGroup (fun g => { g with extra := c.be o 4, l4 := some o }) with pos := o + 8 }, none))
  else if proto = (if v6 then 58 else 1) then
    c.need x o 8 (fun x =>
      ({ x.modGroup (fun g => { g with sport := c.be o 2, l4 := some o }) with pos := o + 8 }, none))
  else x.stop rsnL4Other

/-- VXLAN. -/
def ParseCtx.vxlan_ (c : ParseCtx) (x : Parsed) (o : Nat) : ParseStep :=
  c.need x o 8 (fun x =>
    if !bitOf (c.at o) 3 then x.stop rsnTunnelOther
    else (x.open_ 1 (c.be (o + 4) 3) (o + 8)).next .eth (o + 8))

/-- Geneve. -/
def ParseCtx.geneve_ (c : ParseCtx) (x : Parsed) (o : Nat) : ParseStep :=
  let b := c.at o
  let len := if b / 64 = 0 then 8 + 4 * (b % 64) else 8
  if x.bound < o + len then x.stop rsnFrameShort
  else
    c.need x o 8 (fun x =>
      match byProtocolType (c.be (o + 2) 2) with
      | none => (c.noteCut x o len).stop rsnTunnelOther
      | some h =>
        if b / 64 ≠ 0 then x.stop rsnTunnelOther
        else c.need x o len (fun x => (x.open_ 2 (c.be (o + 4) 3) (o + len)).next h (o + len)))

/-- GRE. A header of version 0 has the fields that its C, K and S bits show. -/
def ParseCtx.gre (c : ParseCtx) (x : Parsed) (o : Nat) : ParseStep :=
  let b := c.at o
  let other := c.at (o + 1) % 8 != 0
  let bad := c.at (o + 1) != 0 || bitOf b 6 || b % 16 != 0
  let len := if other then 4 else 4 + 4 * (b2n (bitOf b 7) + b2n (bitOf b 5) + b2n (bitOf b 4))
  if x.bound < o + len then x.stop rsnFrameShort
  else
    c.need x o 4 (fun x =>
      match byProtocolType (c.be (o + 2) 2) with
      | none => (c.noteCut x o len).stop rsnTunnelOther
      | some h =>
        if bad then (c.noteCut x o len).stop rsnTunnelOther
        else
          c.need x o len (fun x =>
            let key := if bitOf b 5 then c.be (o + 4 + 4 * b2n (bitOf b 7)) 4 else 0
            ((x.modGroup (fun g => { g with l4 := some o })).open_ 3 key (o + len)).next h (o + len)))

/-- GTP-U extension headers from place `o` on: the end of the last one, or the reason that ends the parse. -/
def ParseCtx.gtpExt (c : ParseCtx) (x : Parsed) : Nat → Nat → Nat → Nat ⊕ Nat
  | _, 0, o => .inl o
  | 0, _, _ => .inr rsnTunnelOther
  | fuel + 1, _, o =>
    match c.cut x o 1 with
    | some r => .inr r
    | none =>
      let len := 4 * c.at o
      if len = 0 then .inr rsnTunnelOther
      else
        match c.cut x o len with
        | some r => .inr r
        | none => c.gtpExt x fuel (c.at (o + len - 1)) (o + len)

/-- R134, R139: a GTP-U header that meets TUNNEL_OTHER, and what its extension headers show of its length. -/
def ParseCtx.gtpOther (c : ParseCtx) (x : Parsed) (b o len : Nat) : ParseStep :=
  if b / 32 ≠ 1 then x.stop rsnTunnelOther
  else
    match c.cut x o len with
    | some r => (x.note r).stop rsnTunnelOther
    | none =>
      match c.gtpExt x 4 (if bitOf b 2 then c.at (o + 11) else 0) (o + len) with
      | .inr r => if r = rsnFrameShort then x.stop r else (x.note r).stop rsnTunnelOther
      | .inl _ => x.stop rsnTunnelOther

/-- GTP-U. -/
def ParseCtx.gtp (c : ParseCtx) (x : Parsed) (o : Nat) : ParseStep :=
  let b := c.at o
  let len := if b / 32 = 1 ∧ b % 8 ≠ 0 then 12 else 8
  if x.bound < o + len then x.stop rsnFrameShort
  else
    c.need x o 8 (fun x =>
      if b / 32 ≠ 1 ∨ c.at (o + 1) ≠ 0xFF then c.gtpOther x b o len
      else
        c.need x o len (fun x =>
          match c.gtpExt x 4 (if bitOf b 2 then c.at (o + 11) else 0) (o + len) with
          | .inr r => x.stop r
          | .inl e => (x.open_ 4 (c.be (o + 4) 4) e).next (.nibble rsnTunnelOther) e))

/-- A tunnel header (R130). -/
def ParseCtx.tunnel (c : ParseCtx) (x : Parsed) (type o : Nat) : ParseStep :=
  if x.level = 2 then x.stop rsnParseDepth
  else
    match type with
    | 1 => c.vxlan_ x o
    | 2 => c.geneve_ x o
    | 3 => c.gre x o
    | _ => c.gtp x o

/-- One header. -/
def ParseCtx.step (c : ParseCtx) (x : Parsed) (h : Hdr) (o : Nat) : ParseStep :=
  let x := { x with seq := x.seq + 1 }
  match h with
  | .eth => c.eth x o
  | .etherType t tags => c.etherType x t tags o
  | .mpls n => c.mpls x n o
  | .nibble r => c.nibble x r o
  | .ip4 => c.ip4 x o
  | .ip6 => c.ip6 x o
  | .ext nh n => c.ext x nh n o
  | .l4 p v6 => c.l4 x p v6 o
  | .tunnel t => c.tunnel x t o

/-- The parse goes on until a header ends it; every header takes at least one of `fuel`. -/
def ParseCtx.walk (c : ParseCtx) : Nat → Parsed → Hdr → Nat → Parsed
  | 0, x, _, _ => x
  | fuel + 1, x, h, o =>
    match c.step x h o with
    | (x, none) => x
    | (x, some (h, o)) => c.walk fuel x h o

/-- R134, R137, R141: the true length of a slot's packet. -/
def trueLength (slot : Bytes) : Nat :=
  let fl := leAt slot 6 2
  if fl < 4 then leAt slot 0x12 1 else fl - 4

/-- R91: the valid head bytes of a slot. -/
def headOf (slot : Bytes) : Bytes := slice slot 0x20 (leAt slot 0x12 1)

/-- R125 to R141: the parse of a slot. -/
def ParseCtx.parse (c : ParseCtx) (slot : Bytes) : Parsed :=
  let x : Parsed := { bound := trueLength slot }
  let x := if bitOf (leAt slot 0x13 1) 1 then x.note rsnSwitchError else x
  let fl := leAt slot 6 2
  let x := if fl < 64 ∨ 16383 < fl then x.note rsnFrameLength else x
  c.walk 80 x .eth 0

/-- R138: the recorded reason. -/
def Parsed.reason (x : Parsed) : Nat := match x.found with | some (_, r) => r | none => 0

/-! ### The classification key (R142) -/

/-- The outer group. -/
def Parsed.outer (x : Parsed) : Option Group := mfind x.groups 0

/-- The inner group: the one of the highest level opened, when a tunnel header has been parsed. -/
def Parsed.inner (x : Parsed) : Option Group := if x.tunnels.isEmpty then none else mfind x.groups x.tunnels.length

/-- A group of Table 04-4. -/
def groupBytes : Option Group → Bytes
  | none => zeroBytes 48
  | some g =>
    g.src ++ g.dst ++ leBytes 1 g.proto ++ leBytes 1 g.tos ++ leBytes 2 g.sport ++ leBytes 2 g.dport
      ++ leBytes 1 g.tcpFlags ++ leBytes 1 (g.ver + 16 * b2n g.opts) ++ leBytes 4 g.flowLabel ++ leBytes 4 g.extra

/-- Bytes 0x06 and 0x07 of the key. -/
def Parsed.keyFlags (x : Parsed) (slot : Bytes) : Nat :=
  let nonFirst := match x.frag with | some f => f.nonFirst | none => false
  leAt slot 0x13 1 % 4 + 4 * b2n x.malformed + 8 * b2n x.frag.isSome + 16 * b2n nonFirst + 32 * x.tunnels.length

/-- Table 04-4: the classification key. -/
def Parsed.key (x : Parsed) (lane : Nat) (slot : Bytes) : Bytes :=
  let t := fun (i : Nat) => (x.tunnels[i]?).getD (0, 0)
  leBytes 1 (lane % 64) ++ leBytes 1 x.reason ++ slice slot 4 2 ++ slice slot 0x16 2 ++ leBytes 2 (x.keyFlags slot)
    ++ slice slot 0x18 8 ++ leBytes 2 x.tci0 ++ leBytes 2 x.tci1 ++ leBytes 4 (x.mplsTop.getD 0)
    ++ leBytes 1 ((t 0).1 + 16 * (t 1).1) ++ [0] ++ leBytes 2 x.etype0 ++ leBytes 4 (t 0).2
    ++ groupBytes x.outer ++ groupBytes x.inner

/-- Table 05-4, R190: an anchor. -/
def Parsed.anchor (x : Parsed) (a : Nat) : Option Nat :=
  match a with
  | 0 => some 0
  | 1 => x.outer.map (·.l3)
  | 2 => x.outer.bind (·.l4)
  | 3 => x.inner.map (·.l3)
  | 4 => x.inner.bind (·.l4)
  | 5 => some x.pos
  | _ => none

/-! ### Rules (R143 to R147, R151) -/

/-- Table 04-6: fields of a result. -/
def Rule.partition (r : Rule) : Nat := bitsOf r.result.toNat 0 4
def Rule.valid (r : Rule) : Bool := bitOf r.result.toNat 4
def Rule.unclassify (r : Rule) : Bool := bitOf r.result.toNat 5
def Rule.modelSlot (r : Rule) : Nat := bitsOf r.result.toNat 6 2
def Rule.keyMode (r : Rule) : Nat := bitsOf r.result.toNat 8 2
def Rule.tag (r : Rule) : Nat := bitsOf r.result.toNat 16 16

/-- A rule bank. -/
def State.bank (s : State) (b : Nat) : RuleBank := if b = 0 then s.hall.bank0 else s.hall.bank1

/-- A key matches a rule: every key bit whose mask bit is 1 equals the value bit. -/
def Rule.covers (r : Rule) (key : BitVec 1024) : Bool := (key ^^^ r.value) &&& r.mask == 0

/-- R149: the rules that classify a digest in the Hall cycle of `nt`: those before a write that completes in this cycle. -/
def RuleBank.rulesAt (b : RuleBank) (nt : Nat) : Tab Rule :=
  match b.former with
  | some (n, old) => if nt ≤ n then old else b.rules
  | none => b.rules

/-- R143: the valid rule of lowest index that a key matches. -/
def RuleBank.lookup (b : RuleBank) (nt : Nat) (key : Bytes) : Option (Nat × Rule) :=
  let k := BitVec.ofNat 1024 (leNat key)
  (b.rulesAt nt).find? (fun e => e.2.valid && e.2.covers k)

/-- R151: the bank that classifies a digest with the given stamp: every swap that comes after the stamp is undone, and an armed one
that does not come after it is done. -/
def State.bankAt (s : State) (stamp : Nat) : Nat :=
  let flips := (s.hall.swaps.filter (fun t => decide (stamp < t))).length +
    (match s.hall.armedSwap with | some t => b2n (decide (t ≤ stamp)) | none => 0)
  if flips % 2 = 0 then s.hall.activeBank else 1 - s.hall.activeBank

/-- What the Porch reads of a slot under a bank. -/
def State.parseCtx (s : State) (bank seen : Nat) (slot : Bytes) : ParseCtx :=
  { head := headOf slot, vxlan := s.settingAt seen 0x5001 bank 0, geneve := s.settingAt seen 0x5002 bank 0,
    gtpu := s.settingAt seen 0x5003 bank 0, quic := (List.range 4).map (fun i => s.settingAt seen 0x5004 bank i) }

/-! ### Table key (R145, R208) -/

/-- Table 06-1: the table key of a packet of a partition under a key mode. -/
def Parsed.tableKey (x : Parsed) (partition mode : Nat) : Bytes :=
  let deep := decide (mode = 1) && !x.tunnels.isEmpty
  let g := if deep then x.inner else x.outer
  let ident := if deep then ((x.tunnels.getLast?).getD (0, 0)).2 else 0
  let proto := (g.map (·.proto)).getD 0
  let ports := proto == 6 || proto == 17
  let port := fun (f : Group → Nat) => if ports then (g.map f).getD 0 else 0
  leBytes 1 (partition + 16 * mode + 64 * b2n ((g.map (·.ver)).getD 0 == 6)) ++ leBytes 1 proto
    ++ leBytes 2 (port (·.sport)) ++ leBytes 2 (port (·.dport)) ++ zeroBytes 2 ++ leBytes 4 ident ++ zeroBytes 4
    ++ ((g.map (·.src)).getD (zeroBytes 16)) ++ ((g.map (·.dst)).getD (zeroBytes 16))

/-- R209: the flow hash of a table key. -/
def State.flowHash (s : State) (key : Bytes) : Nat := (crc32c (leBytes 4 (s.setting 0x0002 0 0) ++ key)).toNat

/-- R210: the home Wing of a flow hash. -/
def State.homeWing (s : State) (h : Nat) : Nat := if s.is4840 then 0 else h / 2147483648 % 2

end Sys2Proof.Machine
end

