-- ==== Sys2Proof/Machine/Features.lean ====
section
/-!
DEFINITION. Machine/Features.lean: sources, transforms and windows of features (chapter 05).
-/
namespace Sys2Proof.Machine

/-! ### Images of a partition -/

/-- The image in an image slot of a partition. -/
def Partition.image (x : Partition) (slot : Nat) : Option Image := (x.slot slot).image

/-- Table 13-5: a model slot of an image. -/
def Image.modelSlot (i : Image) (m : Nat) : Option SlotCfg := mfind i.slots m

/-- The configuration of a model slot in an image slot of a partition. -/
def State.slotCfg (s : State) (p imageSlot m : Nat) : Option SlotCfg :=
  ((s.partOf p).image imageSlot).bind (fun i => i.modelSlot m)

/-! ### Feature lists (R186) -/

/-- Table 05-1: an entry of a feature list. -/
def readFeature (w : Nat) : Feature :=
  { source := bitsOf w 0 10, shift := bitsOf w 10 6, transform := bitsOf w 16 3, width := bitsOf w 19 5, count := bitsOf w 24 8
    element := bitsOf w 32 9, arg := bitsOf w 48 16 }

/-- R12, Table 05-1: reserved bits of an entry. -/
def featureReserved (w : Nat) : Nat := bitsOf w 41 7

/-- The feature list of a model slot. -/
def SlotCfg.features (c : SlotCfg) : List Feature := c.featureWords.map readFeature

/-! ### Transforms (R188, R193) -/

/-- LOG of Table 05-3, as a count of quarters. -/
def logQuarters (v : Nat) : Nat :=
  let e := (v + 1).log2
  4 * e + (4 * (v + 1) / 2 ^ e - 4)

/-- R188 steps 2 and 3. -/
def Feature.shifted (f : Feature) (v : Nat) : Nat := min (v / 2 ^ f.shift) 4294967295

/-- R193: the elements that a feature-list entry writes. -/
def Feature.values (f : Feature) (v : Nat) : List Bf16 :=
  let v := f.shifted v
  let low := v % 2 ^ f.width
  match f.transform with
  | 0 => [natBf16 v]
  | 1 => [toBf16 (roundDyadic 24 false (logQuarters v) (-2))]
  | 2 => [natBf16 low]
  | 3 => (List.range f.count).map (fun u => if u = low then natBf16 1 else 0)
  | 4 => [if v = 0 then 0 else natBf16 1]
  | _ => []

/-- Writes values from an element on. -/
def writeAt : List Bf16 → Nat → List Bf16 → List Bf16
  | tok, _, [] => tok
  | tok, i, x :: xs => writeAt (tok.set i x) (i + 1) xs

/-- R188: evaluates an entry on the value of its source. -/
def Feature.write (f : Feature) (v : Nat) (tok : List Bf16) : List Bf16 := writeAt tok f.element (f.values v)

/-- R189: packet-class sources. -/
def Feature.packetClass (f : Feature) : Bool := decide (f.source < 0x100)

/-! ### Windows (R194 to R206) -/

/-- R195: the window index of an NT instant under a window slot of length and phase in µs. -/
def windowIndex (length phase t : Nat) : Int :=
  if length = 0 then 0 else ((t : Int) - (16000 * phase : Nat)) / ((16000 * length : Nat) : Int)

/-- Length and phase of a window slot of an image. -/
def Image.window (i : Image) (w : Nat) : Nat × Nat := (i.windows[w]?).getD (1000, 0)

/-- The counts of a partition's window slot. -/
def State.winCounts (s : State) (p w : Nat) : List WinCount := mget [] s.hall.windows (2 * p + w)

/-- R203, R206: the count of one window of an epoch. -/
def winFind (cs : List WinCount) (epoch : Nat) (k : Int) : Nat × Nat :=
  match cs.find? (fun c => c.epoch == epoch && c.index == k) with
  | some c => (c.pkts, c.bytes)
  | none => (0, 0)

/-- R203, R205, R206: counts a token; counts of other epochs restart. -/
def winAdd (cs : List WinCount) (epoch : Nat) (k : Int) (n : Nat) : List WinCount :=
  let cs := cs.filter (fun c => c.epoch == epoch)
  let c := winFind cs epoch k
  { epoch := epoch, index := k, pkts := satAdd 4294967295 c.1 1, bytes := satAdd 4294967295 c.2 n } ::
    cs.filter (fun c => c.index != k)

/-- The epoch that an armed slot starts. -/
def Partition.armedEpoch (x : Partition) : Option Epoch :=
  (x.slotIn .armed).map (fun n =>
    let y := x.slot n
    { number := y.epoch, switchNt := y.switchNt, slot := n, staged := y.staged, gap := y.gap })

/-- The epochs of a partition, the latest first: an armed one, whose switch may be past (R502), before those that took
effect. -/
def Partition.allEpochs (x : Partition) : List Epoch := x.armedEpoch.toList ++ x.epochs

/-- The switch instant of an epoch of a partition (R206, R433). -/
def Partition.switchOf (x : Partition) (epoch : Nat) : Nat :=
  ((x.allEpochs.find? (fun e => e.number == epoch)).map (·.switchNt)).getD 0

/-- R204, R206: the counts of window `k` as a token of the window after it sees them: 0 while `k` is no full window of the
epoch that took effect at `since`. -/
def winPrev (cs : List WinCount) (epoch since length phase : Nat) (k : Int) : Nat × Nat :=
  if (16000 * phase : Nat) + k * (16000 * length : Nat) < (since : Int) then (0, 0) else winFind cs epoch k

/-- R203: counts a token of a partition in both window slots. -/
def State.countToken (s : State) (p epoch : Nat) (img : Image) (t n : Nat) : State :=
  let s := s.touchWindows p t
  let add := fun (s : State) (w : Nat) =>
    let g := img.window w
    { s with hall := { s.hall with
      windows := mput s.hall.windows (2 * p + w) (winAdd (s.winCounts p w) epoch (windowIndex g.1 g.2 t) n) } }
  add (add s 0) 1

/-! ### Window edges (R205, R206) -/

/-- Key of the edges of a partition's window slot in the feature builder's event queue. -/
def windowKey (p n : Nat) : Nat := 4 * p + n

/-- R205: the first grid instant P + k × L after `t`. -/
def nextEdge (length phase t : Nat) : Nat :=
  ((windowIndex length phase t + 1) * (16000 * length : Nat) + (16000 * phase : Nat)).toNat

/-- R205, R206: a partition's edges follow the grids of the image that takes effect. -/
def State.placeWindows (s : State) (p : Nat) (img : Image) : State :=
  [0, 1].foldl (fun (s : State) n =>
    let g := img.window n
    let q := (s.queueOf blkFeature).filter (fun o => !(o.kind == evWindowEdge && o.key == windowKey p n))
    (s.setQueue blkFeature q).enqueue blkFeature
      { instant := nextEdge g.1 g.2 s.nt, kind := evWindowEdge, key := windowKey p n, periodic := true }) s

/-- R205: the least stamp that a token still to be handled can have: no edge retires a count that such a token reads. -/
def State.leastStamp (s : State) (t : Nat) : Nat :=
  let waiting := s.hall.lanes.flatMap (fun e => e.2.buf.map (fun k => k.at_))
  let arriving := (s.hall.lanes.filter (fun e => e.2.up)).map (fun e => s.leastArrival e.1 e.2)
  (waiting ++ arriving).foldl min t

/-- R205: the counts of window k − 2, and of windows before it, are retired. -/
def State.retireWindows (s : State) (p n epoch : Nat) (k : Int) : State :=
  let kept := (s.winCounts p n).filter (fun c => !(c.epoch == epoch && decide (c.index ≤ k - 2)))
  { s with hall := { s.hall with windows := mput s.hall.windows (2 * p + n) kept } }

/-- WINDOW_EDGE (R205, R543 to R546): the edge of a partition's window slot that is due starts; the next one is queued. -/
def execWindowEdge (partition slot : Nat) (s : State) : Host.Outcome State Fault Refusal :=
  .next (
    match s.dueIs blkFeature evWindowEdge (windowKey partition slot) with
    | none => s
    | some o =>
      let s := s.startOcc blkFeature o
      let x := s.partOf partition
      match (x.running).bind (fun e => (x.image e.slot).map (fun i => (e.number, i))) with
      | none => s
      | some (e, img) =>
        let g := img.window slot
        let s := s.retireWindows partition slot e (windowIndex g.1 g.2 (s.leastStamp o.instant))
        s.enqueue blkFeature { o with instant := o.instant + 16000 * g.1 })

/-! ### Packet elements (R181, R189 to R192, R204) -/

/-- R191, R192: TRANSIT before the clamp. -/
def State.transit (s : State) (stamp : Nat) (slot : Bytes) : Int :=
  (stamp : Int) - (((leAt slot 0x0C 6 : Nat) - (s.time.originInForce : Nat) : Int) * 16000000000 + (leAt slot 8 4 : Nat) * 16)

/-- Table 05-2: a source of the packet class. -/
def State.packetSource (s : State) (x : Parsed) (k : Slot) (rule : Rule) (p epoch : Nat) (img : Image) (f : Feature) : Nat :=
  let anchor := x.anchor (bitsOf f.arg 8 3)
  let head := headOf k.data
  let g := img.window f.arg
  let i := windowIndex g.1 g.2 k.at_
  let cs := s.winCounts p f.arg
  let prev := winPrev cs epoch ((s.partOf p).switchOf epoch) g.1 g.2 (i - 1)
  match f.source with
  | 0x001 => trueLength k.data
  | 0x002 => leAt k.data 0x12 1
  | 0x003 => k.lane
  | 0x004 => leAt k.data 4 2
  | 0x005 => leAt k.data 0x16 2
  | 0x006 => leAt k.data 0x18 8
  | 0x007 => leAt k.data 0x14 2
  | 0x008 => x.keyFlags k.data
  | 0x009 => x.reason
  | 0x00A => rule.tag
  | 0x00B => leAt (x.key k.lane k.data) f.arg 4
  | 0x00C => match anchor with | some a => beAt head (a + f.arg % 256) 1 | none => 0
  | 0x00D => match anchor with | some a => head.length - a | none => 0
  | 0x00E => k.at_
  | 0x00F => if s.pair.state = .active then 0 else min (s.transit k.stamp k.data).toNat max64
  | 0x010 => if (winFind cs epoch i).1 = 0 then 0 else 1
  | 0x011 => prev.1
  | 0x012 => prev.2
  | _ => 0

/-- R192: TRANSIT values of a token that are clamped to 0. -/
def State.clampedTransits (s : State) (cfg : SlotCfg) (k : Slot) : Nat :=
  if s.pair.state = .active ∨ ¬ (s.transit k.stamp k.data < 0) then 0
  else (cfg.features.filter (fun f => f.source == 0x00F)).length

/-- R178, R181, R184: the packet elements of a token; the flow elements are still +0. -/
def State.packetToken (s : State) (x : Parsed) (k : Slot) (rule : Rule) (p epoch : Nat) (img : Image) (cfg : SlotCfg) :
    List Bf16 :=
  (cfg.features.filter Feature.packetClass).foldl
    (fun tok f => f.write (s.packetSource x k rule p epoch img f) tok) (List.replicate cfg.tokenWidth 0)

end Sys2Proof.Machine
end

