-- ==== Sys2Proof/Machine/Parse.lean ====
section
/-!
DEFINITION. Machine/Parse.lean: PARSE: the Porch takes the first slot in arrival order, classifies it, settles its case
(R892) with the fragment table (R161 to R176), and the feature builder assembles its token.
-/
namespace Sys2Proof.Machine

/-! ### Which slot is next (R32, R125) -/

/-- The first slot in arrival order. -/
def firstSlot : List Slot → Option Slot
  | [] => none
  | a :: rest =>
    match firstSlot rest with
    | none => some a
    | some b => if b.before a then some b else some a

/-- The first slot of the lane buffers, once no frame that is still arriving can hold an earlier one. -/
def State.nextSlot (s : State) : Option Slot :=
  (firstSlot (s.hall.lanes.flatMap (fun e => e.2.buf))).filter (fun k => decide (k.stamp + longestDigest < s.nt))

/-- The Porch takes a slot; its credits are free (R102). -/
def State.takeFromLane (s : State) (k : Slot) : State :=
  let x := s.lane k.lane
  s.setLane k.lane { x.keepLimit s.nt with buf := x.buf.erase k }

/-! ### Epochs by stamp (R502) -/

/-- R502: the epoch whose switch instant is the latest one at or before a stamp. -/
def Partition.epochAt (x : Partition) (t : Nat) : Option Epoch := x.allEpochs.find? (fun e => decide (e.switchNt ≤ t))

/-! ### The fragment table (R162 to R176) -/

/-- The fragment key of a tracked fragment of a partition. -/
def Frag.key (f : Frag) (p : Nat) : Bytes :=
  leBytes 1 p ++ leBytes 1 (b2n f.v6) ++ leBytes 1 f.proto ++ leBytes 1 0 ++ leBytes 4 f.ident ++ f.src ++ f.dst

/-- R163: the fragment hash. -/
def State.fragHash (s : State) (key : Bytes) : Nat := (crc32c (leBytes 4 (s.setting 0x0002 0 0) ++ key)).toNat

/-- The bank of a fragment hash. -/
def State.fragBank (s : State) (g : Nat) : Nat := if s.is4840 then 0 else g / 2147483648 % 2

/-- The entries of a bank. -/
def State.frags (s : State) (b : Nat) : Tab FragEntry := if b = 0 then s.hall.frag0 else s.hall.frag1

/-- Replaces the entries of a bank. -/
def State.setFrags (s : State) (b : Nat) (t : Tab FragEntry) : State :=
  { s with hall := if b = 0 then { s.hall with frag0 := t } else { s.hall with frag1 := t } }

/-- R165: the entry of a way is live for a stamp. -/
def liveAt (t : Tab FragEntry) (i stamp : Nat) : Option FragEntry :=
  match mfind t i with
  | some e => if stamp < e.expiry then some e else none
  | none => none

/-- The way of a set whose live entry has a key. -/
def liveWay (t : Tab FragEntry) (set stamp : Nat) (key : Bytes) : Option Nat :=
  [0, 1, 2, 3].find? (fun w => match liveAt t (4 * set + w) stamp with | some e => e.key == key | none => false)

/-- The lowest-numbered free way of a set. -/
def freeWay (t : Tab FragEntry) (set stamp : Nat) : Option Nat :=
  [0, 1, 2, 3].find? (fun w => (liveAt t (4 * set + w) stamp).isNone)

/-- R164: the flow identity of a packet with a table key. -/
def State.flowIdent (s : State) (p stamp : Nat) (key : Bytes) : FlowIdent :=
  let h := s.flowHash key
  let w := s.homeWing h
  match s.findFor w ((s.partOf p).bucketOf w h) stamp key with
  | some (n, _) => .handle n
  | none => .key key

/-- R166, R167: a first fragment writes its entry. -/
def State.firstFragment (s : State) (f : Frag) (p bank_ id stamp seen : Nat) (flow : FlowIdent) : State :=
  let key := f.key p
  let g := s.fragHash key
  let b := s.fragBank g
  let t := s.frags b
  let set := g % 4096
  let e : FragEntry := { key := key, expiry := stamp + s.settingAt seen 0x5008 bank_ 0 * ms, first := id, flow := flow, copy := none }
  match liveWay t set stamp key with
  | some w => ((s.setFrags b (mput t (4 * set + w) e)).bump (Ctr.fragFirst b)).bump (Ctr.fragOverwrite b)
  | none =>
    match freeWay t set stamp with
    | some w => (s.setFrags b (mput t (4 * set + w) e)).bump (Ctr.fragFirst b)
    | none => s.bump (Ctr.fragSetFull b)

/-- R174: fragments of a bank that wait. -/
def State.waitingFrags (s : State) (b : Nat) : Nat :=
  (s.hall.pends.filter (fun e => match e.answer with | .waiting _ c => c == b | _ => false)).length

/-- R171, R174: how a non-first fragment is answered. -/
def State.nonFirstFragment (s : State) (f : Frag) (p : Nat) (k : Slot) : Answer × State :=
  let key := f.key p
  let g := s.fragHash key
  let b := s.fragBank g
  let t := s.frags b
  let set := g % 4096
  let unresolved := fun (s : State) => (Answer.default_ (s.partDefault k p flFragUnresolved), s.bump (Ctr.fragUnresolved b))
  match (liveWay t set k.at_ key).bind (fun w => mfind t (4 * set + w)) with
  | none => unresolved s
  | some e =>
    match e.copy with
    | some c => (.resolved (k.fragRec p c) b, s.bump (Ctr.fragResolvedHit b))
    | none =>
      if 2048 ≤ s.waitingFrags b then unresolved (s.bump (Ctr.fragWaitFull b))
      else (.waiting e.first b, s.bump (Ctr.fragWaited b))

/-! ### The cases of R892 -/

/-- R147: an unclassified packet is answered at once. -/
def State.unclassified (s : State) (x : Parsed) (k : Slot) (bank_ : Nat) : State :=
  let s := s.bump Ctr.hallPorchUnclassified
  let s := match x.frag with
    | some f => s.bump (Ctr.fragBypass (s.fragBank (s.fragHash (f.key 0))))
    | none => s
  s.toLane k (k.defaultRec 0 (s.settingAt k.seen 0x5006 bank_ 0) (s.settingAt k.seen 0x5007 bank_ 0) flUnavailable)

/-- R178, R181: the packet receives a token and waits for dispatch. -/
def State.tokenize (s : State) (x : Parsed) (k : Slot) (rule : Rule) (id : Nat) (key : Bytes) (e : Epoch) (img : Image)
    (cfg : SlotCfg) : Answer × State :=
  let p := rule.partition
  let n := trueLength k.data
  let pkt : Packet :=
    { id := id, slot := k, partition := p, modelSlot := rule.modelSlot, key := key, hash := s.flowHash key, epoch := e.number,
      imageSlot := e.slot, token := s.packetToken x k rule p e.number img cfg, trueLen := n, malformed := x.malformed,
      ruleTag := rule.tag }
  let s := (s.bump (Ctr.partTokens p)).bumpN (Ctr.partTransitClamped p) (s.clampedTransits cfg k)
  let s := s.countToken p e.number img k.at_ n
  (.model (s.deadlineOf p k.at_) none, { s with hall := { s.hall with tokens := placeSlot Packet.slot pkt s.hall.tokens } })

/-- R892 step 3: the packet's epoch, and the default cases that it decides (R503, R509). -/
def State.byEpoch (s : State) (x : Parsed) (k : Slot) (rule : Rule) (id : Nat) (key : Bytes) : Answer × State × Nat :=
  let p := rule.partition
  let part := s.partOf p
  let away := fun (s : State) (n : Nat) => (Answer.default_ (s.partDefault k p flUnavailable), s, n)
  match part.epochAt k.at_ with
  | none => away s 0
  | some e =>
    if e.staged ∧ k.at_ < e.switchNt + e.gap then
      let y := part.slot e.slot
      let s := (s.setPart p (part.setSlot e.slot { y with swapVerdicts := y.swapVerdicts + 1 })).bump (Ctr.partSwapVerdicts p)
      (.default_ (s.partDefault k p flSwap), s, e.number)
    else
      match part.image e.slot with
      | none => away s e.number
      | some img =>
        match (if bitOf img.slotMask rule.modelSlot then img.modelSlot rule.modelSlot else none) with
        | none => away s e.number
        | some cfg =>
          let r := s.tokenize x k rule id key e img cfg
          (r.1, r.2, e.number)

/-- R892: the case of a classified digest. -/
def State.caseOf (s : State) (x : Parsed) (k : Slot) (bank_ : Nat) (rule : Rule) (id : Nat) (key : Bytes) :
    Answer × State × Nat :=
  let p := rule.partition
  let part := s.partOf p
  let closed : Bool := match part.scrub with | some c => decide (c.start ≤ k.at_) | none => false
  if part.state = .unconfigured ∨ k.at_ < part.activeFrom then
    (.default_ (k.defaultRec p (s.settingAt k.seen 0x5006 bank_ 0) (s.settingAt k.seen 0x5007 bank_ 0) flUnavailable), s, 0)
  else if part.state = .scrubbing ∧ closed then (.default_ (s.partDefault k p flUnavailable), s, 0)
  else
    match x.frag with
    | none => s.byEpoch x k rule id key
    | some f =>
      if x.fragBad then s.bump (Ctr.fragBypass (s.fragBank (s.fragHash (f.key p)))) |>.byEpoch x k rule id key
      else if f.nonFirst then
        let r := s.nonFirstFragment f p k
        (r.1, r.2, 0)
      else (s.firstFragment f p bank_ id k.at_ k.seen (s.flowIdent p k.at_ key)).byEpoch x k rule id key

/-- Counters of the parse (Table 04-9). -/
def State.countParse (s : State) (x : Parsed) : State :=
  let s := (s.bump Ctr.hallPorchParsed).bump (Ctr.hallPorchReason (reasonCodes.idxOf x.reason))
  if x.malformed then s.bump Ctr.hallPorchMalformed else s

/-- R654, R748: the instant that tells which writes of settings hold for a slot whose classification begins now. -/
def State.seenAt (s : State) (k : Slot) : Nat := if s.pair.state = .active then k.at_ else s.nt

/-- The Porch, the fragment table and the feature builder handle one slot. -/
def State.parseSlot (s : State) (k : Slot) : State :=
  let s := s.takeFromLane k
  let k := { k with seen := s.seenAt k }
  let b := s.bankAt k.at_
  let x := (s.parseCtx b k.seen k.data).parse k.data
  let s := s.countParse x
  match (s.bank b).lookup s.nt (x.key k.lane k.data) with
  | none => s.unclassified x k b
  | some (i, rule) =>
    let s := s.bump (Ctr.ruleHits i)
    if rule.unclassify then s.unclassified x k b
    else
      let id := s.hall.packetCtr
      let s := { s with hall := { s.hall with packetCtr := id + 1 } }
      let key := x.tableKey rule.partition rule.keyMode
      let r := s.caseOf x k b rule id key
      (r.2.1.addPend { id := id, slot := k, partition := rule.partition, flow := key, answer := r.1, emitted := false,
                       epoch := r.2.2, wing := s.homeWing (s.flowHash key) }).settle

/-- R66: digests that the Porch has taken and that no dispatcher queue holds yet are at most this many. -/
def pastPorch : Nat := 1280

/-- PARSE (R125 to R181, R892): not while a dispatcher queue is full, nor beyond the digests that R66 lets past the Porch. -/
def execParse (s : State) : Host.Outcome State Fault Refusal :=
  .next (
    if s.dead || s.anyQueueFull || !s.hallFree || decide (pastPorch ≤ s.hall.tokens.length) then s
    else
      match s.nextSlot with
      | none => s
      | some k => s.parseSlot k)

end Sys2Proof.Machine
end

