-- ==== Sys2Proof/Machine/Stairwell.lean ====
section
/-!
DEFINITION. Machine/Stairwell.lean: the Stairwell (chapter 07): admission, lookup, input state, squash and commit.
-/
namespace Sys2Proof.Machine

/-! ### Entries -/

/-- A Stairwell entry. -/
def Wing.stair (x : Wing) (i : Nat) : Option Stair := x.stairs.find? (fun y => y.index == i)

/-- The Stairwell entry of a packet. -/
def Wing.stairOf (x : Wing) (id : Nat) : Option Stair := x.stairs.find? (fun y => y.pkt.id == id)

/-- Replaces an entry. -/
def Wing.setStair (x : Wing) (y : Stair) : Wing :=
  { x with stairs := x.stairs.map (fun (z : Stair) => if z.index = y.index then y else z) }

/-- Replaces an entry of a Wing. -/
def State.setStair (s : State) (w : Nat) (y : Stair) : State := s.setWing w ((s.wing w).setStair y)

/-- The instance of a partition on a Wing (Table 21-3). -/
def pwIx (w p : Nat) : Nat := 16 * w + p

/-- Quarter-Galleries of a partition on a Wing as a mask. -/
def Partition.quartersOn (x : Partition) (w : Nat) : Nat := if w = 0 then x.quarters0 else x.quarters1

/-- Quarter-Galleries of a partition on a Wing. -/
def Partition.quarterCount (x : Partition) (w : Nat) : Nat :=
  ((List.range 12).filter (fun i => bitOf (x.quartersOn w) i)).length

/-- R63: the Stairwell quota of a partition on a Wing. -/
def State.stairQuota (s : State) (w p : Nat) : Nat :=
  if s.is4840 then (s.partOf p).stairQuota else 32768 * (s.partOf p).quarterCount w / 12

/-- Entries that a partition holds on a Wing. -/
def Wing.held (x : Wing) (p : Nat) : Nat := (x.stairs.filter (fun y => y.pkt.partition == p)).length

/-- The lowest free index. -/
def Wing.freeStair (x : Wing) : Nat :=
  ((List.range (x.stairs.length + 1)).find? (fun i => (x.stair i).isNone)).getD x.stairs.length

/-! ### Dispatch and admission (R64, R264 to R266, R511) -/

/-- R266: the youngest entry of the same flow. -/
def Wing.predOf (x : Wing) (k : Packet) : Option Nat :=
  ((x.stairs.filter (fun y => y.pkt.partition == k.partition && y.pkt.key == k.key)).getLast?).map (fun y => y.pkt.id)

/-- R264, R266: the packet enters the Stairwell. -/
def State.enterStairs (s : State) (w : Nat) (k : Packet) : State :=
  let x := s.wing w
  let y : Stair := { index := x.freeStair, pkt := k, pred := x.predOf k, token := k.token, since := s.nt }
  (s.setWing w { x with stairs := x.stairs ++ [y] }).bump (Ctr.pwAdmitted (pwIx w k.partition))

/-- R511: the packet's epoch is that of a staged swap whose fill has not ended. -/
def Partition.awaitsFill (x : Partition) (epoch : Nat) : Bool :=
  (match x.fill with | some f => f.epoch == epoch | none => false) ||
    (match x.armedEpoch with | some e => e.staged && e.number == epoch | none => false)

/-- R26, Table 07-7: Stairwell entries of a Wing. -/
def stairEntries : Nat := 32768

/-- R26, R64, R511: the packet can enter the Stairwell now. -/
def State.canAdmit (s : State) (w : Nat) (k : Packet) : Bool :=
  !(s.partOf k.partition).awaitsFill k.epoch && decide ((s.wing w).held k.partition < s.stairQuota w k.partition) &&
    decide ((s.wing w).stairs.length < stairEntries)

/-- R64: what a dispatcher queue has room for: it is full at 2,048 tokens and holds 1,280 more. -/
def dispatchRoom : Nat := 2048 + pastPorch

/-- DISPATCH (R264, R548): the first token goes to its home Wing's Stairwell, or to the dispatcher queue of R64. -/
def execDispatch (s : State) : Host.Outcome State Fault Refusal :=
  .next (
    match s.hall.tokens with
    | [] => s
    | k :: rest =>
      let w := s.homeWing k.hash
      let p := k.partition
      let x := s.wing w
      let enters := s.wingFree w && (x.queue p).isEmpty && s.canAdmit w k
      if !s.hallFree || (!enters && decide (dispatchRoom ≤ (x.queue p).length)) then s
      else
        let s := { s with hall := { s.hall with tokens := rest } }
        let s := s.bump (Ctr.partRateOffered p)
        let s := if (s.partOf p).awaitsFill k.epoch then s.bump (Ctr.partGapOverrun p) else s
        if enters then s.enterStairs w k
        else (s.setWing w { x with queues := mput x.queues p (x.queue p ++ [k]) }).withhold)

/-- QUOTA_RELEASE (R64, R511): the oldest packet of a dispatcher queue is admitted. -/
def execQuotaRelease (wing partition : Nat) (s : State) : Host.Outcome State Fault Refusal :=
  .next (
    let x := s.wing wing
    match x.queue partition with
    | [] => s
    | k :: rest =>
      if !s.wingFree wing || !s.canAdmit wing k then s
      else (s.setWing wing { x with queues := mput x.queues partition rest }).enterStairs wing k)

/-! ### Requests of a resynchronising standby (R752, R753) -/

/-- R753: the standby asks for a unit, once. -/
def State.requestUnit (s : State) (w p unit : Nat) : State :=
  if s.pair.requests.contains (p, w, unit) then s
  else
    let s := { s with pair := { s.pair with requests := s.pair.requests ++ [(p, w, unit)] } }
    let s := s.bump Ctr.pairBlockRequests
    (s.pairSend (fun _ => .blockRequest p w unit)).2.2

/-- The Q image of a unit: the unit's present contents (R751). -/
def State.unitImage (s : State) (w p unit : Nat) : PairUnit :=
  let x := s.wing w
  if windowsUnit 0 ≤ unit then s.windowsImage p (unit - windowsUnit 0)
  else if maximaUnit 0 ≤ unit then .maxima (unit - maximaUnit 0) (mget [] s.hall.maxima (4 * p + (unit - maximaUnit 0)))
  else if larderUnit 0 ≤ unit then .larder (unit - larderUnit 0) (s.readBlock p (unit - larderUnit 0))
  else if overflowUnit 0 ≤ unit then .overflow (unit - overflowUnit 0) ((x.ovEntry (unit - overflowUnit 0)).bytes 0)
  else .bucket unit (bucketBytes (x.bucket unit) 0)

/-- R752: the primary sends the Q image of a unit, once: the one that it saved, or else the unit's present contents. -/
def State.sendUnit (s : State) (w p unit : Nat) : State :=
  match s.resyncOf p w with
  | none => s
  | some r =>
    if r.sent.contains unit then s
    else s.sendImage w p (((r.saved.find? (fun e => e.1 == unit)).map (·.2)).getD (s.unitImage w p unit))

/-- R752: first touch: a packet is about to write a unit. -/
def State.firstTouch (s : State) (w p stamp unit : Nat) : State := s.saveImage p w stamp (s.unitImage w p unit)

/-- R746: a unit's image with the hit bit set on a slot that holds its entry_gen. -/
def PairUnit.hit (h gen : Nat) : PairUnit → PairUnit
  | .bucket b d =>
    let es := entriesOf 4 d
    let e := (es[hWay h]?).getD {}
    if e.valid ∧ e.gen = gen then .bucket b (bucketBytes (es.set (hWay h) { e with hit := true }) 0) else .bucket b d
  | .overflow i d =>
    let e := entryOf d
    if e.valid ∧ e.gen = gen then .overflow i ({ e with hit := true }.bytes 0) else .overflow i d
  | u => u

/-! ### Flow elements and headers (R182, R185, R198 to R200, R293) -/

/-- R198: prev_pkts, prev_bytes, cur_pkts, cur_bytes and elapsed of a window slot, from an input block. -/
def winValues (img : Image) (h : Bytes) (slot t n : Nat) : Nat × Nat × Nat × Nat × Nat :=
  let g := img.window slot
  let k0 := windowIndex g.1 g.2 t
  let off := 0x18 + 16 * slot
  let cp := leAt h off 4
  let cb := leAt h (off + 4) 4
  let last := leAt h 0x10 8
  let elapsed := fun (k : Int) (t : Nat) => ((t : Int) - ((16000 * g.2 : Nat) + k * ((16000 * g.1 : Nat) : Int))).toNat
  if leAt h 8 4 = 0 then (0, 0, 1, min n 4294967295, elapsed k0 t)
  else
    let j := windowIndex g.1 g.2 last
    let k := if k0 < j then j else k0
    let e := elapsed k (max t last)
    if k = j then (leAt h (off + 8) 4, leAt h (off + 12) 4, satAdd 4294967295 cp 1, satAdd 4294967295 cb n, e)
    else if k = j + 1 then (cp, cb, 1, min n 4294967295, e)
    else (0, 0, 1, min n 4294967295, e)

/-- R200: the stamp that FLOW_IAT, WIN_ELAPSED and the new header use. -/
def flowStamp (h : Bytes) (t : Nat) : Nat := if leAt h 8 4 = 0 then t else max t (leAt h 0x10 8)

/-- Table 05-2: a source of the flow class. -/
def flowSource (img : Image) (h : Bytes) (t n : Nat) (f : Feature) : Nat :=
  let count := leAt h 8 4
  let v := winValues img h f.arg t n
  match f.source with
  | 0x100 => count
  | 0x101 => if count = 0 then max64 else flowStamp h t - leAt h 0x10 8
  | 0x102 => if count = 0 then 1 else 0
  | 0x103 => v.2.2.1
  | 0x104 => v.2.2.2.1
  | 0x105 => v.1
  | 0x106 => v.2.1
  | 0x107 => v.2.2.2.2
  | _ => 0

/-- R182, R185: writes the flow elements of a token from an input block. -/
def flowElements (img : Image) (cfg : SlotCfg) (h : Bytes) (t n : Nat) (tok : List Bf16) : List Bf16 :=
  (cfg.features.filter (fun f => !f.packetClass)).foldl (fun tok f => f.write (flowSource img h t n f) tok) tok

/-- R199, R285: the header of a packet's new state; `hist` holds hist_pos and hist_fill. -/
def newHeader (img : Image) (h : Bytes) (epoch handle gen t n hist : Nat) : Bytes :=
  let win := fun (slot : Nat) =>
    let v := winValues img h slot t n
    leBytes 4 v.2.2.1 ++ leBytes 4 v.2.2.2.1 ++ leBytes 4 v.1 ++ leBytes 4 v.2.1
  leBytes 4 handle ++ leBytes 2 epoch ++ leBytes 1 gen ++ leBytes 1 1 ++ leBytes 4 (satAdd 4294967295 (leAt h 8 4) 1)
    ++ leBytes 4 hist ++ leBytes 8 (flowStamp h t) ++ win 0 ++ win 1 ++ zeroBytes 8

/-- R293: the history fields behind those of an input header, for a depth H. -/
def histNext (h : Bytes) (depth : Nat) : Nat :=
  let v := leAt h 0xC 4
  if depth = 0 then 0 else (v % 16 + 1) % depth + 16 * min (v / 16 % 32 + 1) depth

/-- R296: the initial state of a lookup. -/
def initialBlock (img : Image) (epoch handle gen size : Nat) : Bytes :=
  let st := img.layout.pattern.take (size - 64)
  leBytes 4 handle ++ leBytes 2 epoch ++ leBytes 1 gen ++ leBytes 1 1 ++ zeroBytes 56 ++ st ++ zeroBytes (size - 64 - st.length)

/-- R295: an input state is treated as the initial state. -/
def mustInit (b : Bytes) (handle gen epoch reset : Nat) : Bool :=
  !bitOf (leAt b 7 1) 0 || leAt b 0 4 != handle || leAt b 6 1 != gen ||
    (!serialLt epoch reset && serialLt (leAt b 4 2) reset)

/-- The image that a packet runs. -/
def State.imageOf (s : State) (k : Packet) : Option Image := (s.partOf k.partition).image k.imageSlot

/-- The image and model slot that a packet runs. -/
def State.modelOf (s : State) (k : Packet) : Option (Image × SlotCfg) :=
  (s.imageOf k).bind (fun i => (i.modelSlot k.modelSlot).map (fun c => (i, c)))

/-! ### Squash (R276 to R283) -/

/-- Counter of a squash cause (Table 07-6); 5 is a cascade. -/
def squashCtr (w p cause : Nat) : Nat :=
  match cause with
  | 1 => Ctr.pwSquashNoFlow (pwIx w p)
  | 2 => Ctr.pwSquashEntryChanged (pwIx w p)
  | 3 => Ctr.pwSquashTagMismatch (pwIx w p)
  | 4 => Ctr.pwSquashBatchFault (pwIx w p)
  | _ => Ctr.pwSquashCascade (pwIx w p)

/-- A squash is counted and traced (R276, Table 21-9). -/
def State.countSquash (s : State) (w : Nat) (x : Stair) (cause : Nat) : State :=
  let p := x.pkt.partition
  let s := s.bump (squashCtr w p cause)
  s.trace (1 + w) { kind := 4, engine := 0x22, context := p, reason := cause, nt := s.nt
                    arg0 := x.handle + 4294967296 * cause, arg1 := x.pkt.slot.at_ }

/-- R280: the entry's uncommitted work is gone. -/
def Stair.discarded (x : Stair) (nt : Nat) : Stair :=
  { x with
    input := none, choice := none, forward := none, runs := [], source := 0, initialised := false, regressed := false, from_ := none, newState := none
    released := false, squash := none, squashes := satAdd 255 x.squashes 1, token := x.pkt.token, stage := 0
    batch := none, since := nt, verdict := none, records := [], rowmax := [], counts := [], batchCounts := [] }

/-- R270, R277: packets that consumed the forwarded state of a squashed packet are to be squashed; those that still wait for it
choose again. -/
def Wing.cascade (x : Wing) (id : Nat) : Wing :=
  { x with stairs := x.stairs.map (fun (y : Stair) =>
      if y.from_ = some id ∧ y.squash = none ∧ y.state ≠ .squashed then { y with squash := some 5 }
      else if y.state = .waitState ∧ y.choice = some (.forwarded id) then { y with choice := none }
      else y) }

/-- R351: the released blocks of a packet are no longer write-locked. -/
def State.dropLocks (s : State) (w id : Nat) : State :=
  { s with tiles := s.tiles.map (fun (e : Nat × Tile) =>
      if e.1 / 512 = w then (e.1, { e.2 with locks := e.2.locks.filter (fun l => l.packet != id) }) else e) }

/-- SQUASH (R276, R277, R280, R281): a pending squash of an entry takes place. -/
def execSquash (wing entry : Nat) (s : State) : Host.Outcome State Fault Refusal :=
  .next (
    match (s.wing wing).stair entry with
    | none => s
    | some x =>
      match x.squash with
      | none => s
      | some cause =>
        if !s.wingFree wing || x.state == .squashed || x.abandoned then s
        else
          let s := s.countSquash wing x cause
          let s := if cause = 3 ∨ cause = 4 then s.fire 4 [1 + wing] else s
          let y := { x.discarded s.nt with state := .squashed, lookup := 3 }
          (s.setWing wing (((s.wing wing).setStair y).cascade x.pkt.id)).dropLocks wing x.pkt.id)

/-- SQUASH_DISCARD_COMPLETE (R280): the entry returns to ADMITTED and repeats its lookup. A squash with cause NO_FLOW takes
place within LOOKUP. -/
def execSquashDiscardComplete (wing entry : Nat) (s : State) : Host.Outcome State Fault Refusal :=
  .next (
    match (s.wing wing).stair entry with
    | none => s
    | some x =>
      if x.state = .squashed ∧ s.wingFree wing then s.setStair wing { x with state := .admitted, handle := 0, gen := 0, since := s.nt }
      else s)

/-! ### The choice of the input state (R270, R271, R753) -/

/-- What the chain of predecessors says (R270). -/
inductive Producer where
  | none_
  | wait (y : Stair)
  | from_ (y : Stair)
  deriving DecidableEq, Repr

/-- R270, R813: the producer along the chain from a predecessor. -/
def Wing.producer (x : Wing) (handle gen : Nat) : Nat → Option Nat → Producer
  | 0, _ => .none_
  | _, none => .none_
  | k + 1, some id =>
    match x.stairOf id with
    | none => .none_
    | some y =>
      if y.abandoned then x.producer handle gen k y.pred
      else
        match y.state with
        | .admitted | .squashed => .wait y
        | .waitState | .step | .ready =>
          if y.lookup = 0 ∧ y.handle = handle ∧ y.gen = gen then .from_ y else x.producer handle gen k y.pred
        | _ => x.producer handle gen k y.pred

/-- R753: a packet stamped at or after Q takes no forwarded state from one stamped before Q. -/
def State.cutOff (s : State) (w : Nat) (x y : Stair) : Bool :=
  s.isStandby &&
    (match s.resyncOf x.pkt.partition w with
     | some r => decide (r.q ≤ x.pkt.slot.at_) && decide (y.pkt.slot.at_ < r.q)
     | none => false)

/-- R270: the source of a packet's input state as the Wing stands, none while its producer's lookup result is not known. -/
def State.choose (s : State) (w : Nat) (x : Stair) : Option InputChoice :=
  let y := s.wing w
  let read := if (mget [] y.cache x.pkt.partition).contains x.handle then InputChoice.cache else .larder
  match y.producer x.handle x.gen y.stairs.length x.pred with
  | .wait _ => none
  | .none_ => some read
  | .from_ z => some (if s.cutOff w x z then read else .forwarded z.pkt.id)

/-- R271: every packet in WAIT_STATE that has no source chooses. -/
def State.chooseAll (s : State) (w : Nat) : State :=
  let y := s.wing w
  s.setWing w { y with stairs := y.stairs.map (fun (x : Stair) =>
    if x.state = .waitState ∧ x.choice = none ∧ ¬ x.abandoned then { x with choice := s.choose w x } else x) }

/-! ### Lookup (R219 to R223, R742, R745, R753) -/

/-- R817: an uncorrectable bucket is invalidated. -/
def State.loseBucket (s : State) (w p b : Nat) : State :=
  let s := (s.bump (Ctr.wingDramUncorrectable w)).setStickyIn (1 + w) 128
  [0, 1, 2, 3].foldl (fun s way =>
    let h := handleOf w b way
    let e := s.entryAt h
    if e.valid then s.changeSlot p h s.nt e.removed else s) s

/-- A lookup returns: HIT leads to WAIT_STATE; any other result is the squash NO_FLOW, with the flow elements of a block of
packet count 0 (R185). Its packet, and those that waited for the result, choose their input state (R271). -/
def State.lookupReturns (s : State) (w : Nat) (x : Stair) (result handle gen : Nat) : State :=
  if result = 0 then (s.setStair w { x with state := .waitState, lookup := 0, handle := handle, gen := gen }).chooseAll w
  else
    let s := s.countSquash w x 1
    let y := { x.discarded s.nt with state := .noFlow, lookup := result }
    let tok := match s.modelOf x.pkt with
      | some (img, cfg) => flowElements img cfg (zeroBytes 64) x.pkt.slot.at_ x.pkt.trueLen y.token
      | none => y.token
    (s.setStair w { y with token := tok }).chooseAll w

/-- R742: a lookup of a standby waits for the covered instant. -/
def State.uncovered (s : State) (stamp : Nat) : Bool := s.isStandby && decide (s.pair.covered ≤ stamp)

/-- R753: the first unit that a lookup needs whose Q image has not arrived: its bucket, or an overflow entry of the partition that the
standby holds (log entry 224). -/
def State.missingFor (s : State) (w p b stamp : Nat) : Option Nat :=
  let own := ((s.wing w).overflow.filter (fun e => e.2.valid && e.2.partition == p)).map (fun e => overflowUnit e.1)
  (bucketUnit b :: own).find? (fun u => s.unitMissing p w stamp u)

/-- LOOKUP (R220): the Cellar answers an outstanding lookup; `uncorrectable` says that the bucket read met an uncorrectable
word. -/
def execLookup (wing entry : Nat) (uncorrectable : Bool) (s : State) : Host.Outcome State Fault Refusal :=
  .next (
    match (s.wing wing).stair entry with
    | none => s
    | some x =>
      let p := x.pkt.partition
      let b := (s.partOf p).bucketOf wing x.pkt.hash
      let t := x.pkt.slot.at_
      if x.state ≠ .admitted ∨ x.squash ≠ none ∨ x.abandoned ∨ s.uncovered t ∨ ¬ s.wingFree wing then s
      else
      match s.missingFor wing p b t with
      | some u => s.requestUnit wing p u
      | none =>
        let s := if uncorrectable then s.loseBucket wing p b else s
        match s.findFor wing b t x.pkt.key with
        | none => s.lookupReturns wing x 1 0 0
        | some (h, m) => if t < m.insertNt then s.lookupReturns wing x 2 0 0 else s.lookupReturns wing x 0 h m.gen)

/-! ### Input state (R270 to R275, R294 to R297, R305 to R308, R894) -/

/-- Table 07-7: bytes of the hot-state cache of a Wing. -/
def cacheBytes : Nat := 67108864

/-- Bytes that the blocks of the other partitions occupy in the cache of a Wing. -/
def State.cacheOthers (s : State) (w p : Nat) : Nat :=
  (((s.wing w).cache.filter (fun e => e.1 != p)).map (fun e => e.2.length * (s.partOf e.1).blockBytes)).foldl (· + ·) 0

/-- R26, R306: blocks of a partition that the cache of a Wing holds at most: its own capacity, within what the blocks of the others
leave. -/
def State.cacheRoom (s : State) (w p : Nat) : Nat :=
  let x := s.partOf p
  let own := if s.is4840 then cacheBytes * s.stairQuota w p / 32768 else cacheBytes * x.quarterCount w / 12
  min own (cacheBytes - s.cacheOthers w p) / max 1 x.blockBytes

/-- R306: blocks go until `room` remain, with the free values that chose them; which go, the manual leaves open. -/
def evict (room : Nat) : Nat → List Nat → Nat → List Nat × Nat
  | 0, cs, free => (cs, free)
  | n + 1, cs, free =>
    if cs.length ≤ room then (cs, free)
    else evict room n (cs.eraseIdx (Config.freeNat free % max 1 cs.length)) (free + 1)

/-- R305, R306: the cache allocates a block, within the partition's own capacity. -/
def State.cacheAdd (s : State) (w p h : Nat) : State :=
  let x := s.wing w
  let cs := (mget [] x.cache p).filter (fun c => c != h)
  let room := s.cacheRoom w p
  let r := evict (room - 1) cs.length cs s.free
  { s.setWing w { x with cache := mput x.cache p (if room = 0 then [] else r.1 ++ [h]) } with free := r.2 }

/-- R453: the model slot has a rollout graph, which its settings enable. -/
def SlotCfg.rollsOut (c : SlotCfg) : Bool := c.rolloutCfg.enable && !c.rollout.isEmpty

/-- R455: the stage of the stateful step, or the length of a graph without one. -/
def statefulAt (l : List StageCfg) : Nat := (l.findIdx? (fun g => g.kind == .stateful)).getD l.length

/-- R275, R295, R296, R182, R894: an input state is delivered to a packet; one that waits for, or is in, a batch of the stateless
prefix goes on waiting as it did (R34, R35). -/
def State.deliverState (s : State) (w : Nat) (x : Stair) (b : Bytes) (source : Nat) (from_ : Option Nat) : State :=
  match s.modelOf x.pkt with
  | none => s
  | some (img, cfg) =>
    let p := s.partOf x.pkt.partition
    let t := x.pkt.slot.at_
    let init := mustInit b x.handle x.gen x.pkt.epoch (p.resetNow s.nt)
    let b := if init then initialBlock img x.pkt.epoch x.handle x.gen p.blockBytes else b
    let early := x.batch.isSome || decide (x.stage < statefulAt cfg.main)
    let stateful := cfg.main.any (fun g => g.kind == .stateful)
    let own := newHeader img b x.pkt.epoch x.handle x.gen t x.pkt.trueLen (leAt b 0xC 4) ++ b.drop 64
    s.setStair w { x with
      state := .step, input := some b, source := source, initialised := init, from_ := from_
      regressed := decide (t < leAt b 0x10 8) && leAt b 8 4 != 0
      token := flowElements img cfg b t x.pkt.trueLen x.token
      newState := if stateful then none else some own
      released := !stateful, since := if early then x.since else s.nt }

/-- R308: the Larder read meets an uncorrectable word: the initial state is delivered. -/
def State.loseState (s : State) (w : Nat) (x : Stair) : State :=
  let s := (s.bump (Ctr.wingStateLost w)).setStickyIn (1 + w) 131
  let b := match s.imageOf x.pkt with
    | some img => initialBlock img x.pkt.epoch x.handle x.gen (s.partOf x.pkt.partition).blockBytes
    | none => zeroBytes 64
  s.deliverState w x b 3 none

/-- R270, R307: the block is read from the cache when `cached` says so, or from the Larder and into the cache. -/
def State.readState (s : State) (w : Nat) (x : Stair) (cached cacheBad : Bool) (larderBad : Option Nat) : State :=
  let p := x.pkt.partition
  if cached && !cacheBad then s.deliverState w x (s.readBlock p x.handle) 2 none
  else
    let s := if cached then (s.uncache p x.handle).bump (Ctr.wingCacheUncorrectable w) else s
    match larderBad with
    | some j => (s.poisonWord p x.handle j).loseState w x
    | none =>
      if s.blockBad p x.handle then (s.setStickyIn (1 + w) 128).loseState w x
      else (s.cacheAdd w p x.handle).deliverState w x (s.readBlock p x.handle) 3 none

/-- INPUT_STATE (R270 to R273, R753): an entry in WAIT_STATE takes its input state from the source that it chose, once that holds
it; `cacheBad` and `larderBad` say that the cache word, or the given word of the block in DRAM, is uncorrectable. -/
def execInputState (wing entry : Nat) (cacheBad : Bool) (larderBad : Option Nat) (s : State) :
    Host.Outcome State Fault Refusal :=
  .next (
    let w := s.wing wing
    match w.stair entry with
    | none => s
    | some x =>
      let p := x.pkt.partition
      if x.state ≠ .waitState ∨ x.squash ≠ none ∨ x.abandoned ∨ ¬ s.wingFree wing then s
      else
        let read := fun (cached : Bool) (s : State) =>
          if s.unitMissing p wing x.pkt.slot.at_ (larderUnit x.handle) then s.requestUnit wing p (larderUnit x.handle)
          else s.readState wing x cached cacheBad larderBad
        match x.choice with
        | none => s
        | some .cache => read true s
        | some .larder => read false s
        | some (.forwarded id) =>
          match x.forward, w.stairOf id with
          | some b, _ => s.deliverState wing x b 1 (some id)
          | none, some y =>
            match y.newState with
            | some b => if y.released then s.deliverState wing x b 1 (some id) else s
            | none => s
          | none, none => s)

/-! ### Commit (R40 to R44, R284 to R286) -/

/-- The stages of the graph that an entry runs. -/
def Stair.stages (x : Stair) (cfg : SlotCfg) : List StageCfg :=
  match x.state with
  | .noFlow => cfg.noFlow
  | _ => cfg.main

/-- READY_TO_COMMIT (R267, R40): the packet's last stage is complete, its clip checks have passed and, with a stateful step,
its new state is released. -/
def execReadyToCommit (wing entry : Nat) (s : State) : Host.Outcome State Fault Refusal :=
  .next (
    match (s.wing wing).stair entry with
    | none => s
    | some x =>
      match s.modelOf x.pkt with
      | none => s
      | some (_, cfg) =>
        if (x.state = .step ∨ x.state = .noFlow) ∧ x.squash = none ∧ x.batch = none ∧
            (x.stages cfg).length ≤ x.stage ∧ x.verdict.isSome ∧ (x.state = .noFlow ∨ x.released) ∧ s.wingFree wing then
          s.setStair wing { x with state := .ready }
        else s)

/-- R473, R475: the verdict record of a committing packet. -/
def Stair.record (x : Stair) (v : PendVerdict) (rollout : Bool) : VerdictRec :=
  { tag := x.pkt.slot.tag, action := v.action, partition := x.pkt.partition
    flags := v.flags + (if rollout then flRollout else 0), param := v.param, cls := v.cls, score := v.score }

/-- R475, R477: a commit starts a rollout from its block. -/
def State.startRollout (s : State) (w : Nat) (x : Stair) (block : Bytes) : State :=
  let p := x.pkt.partition
  let s := s.bump (ctrOnWing w (Ctr.partRolloutStarted p))
  let part := s.partOf p
  if 256 ≤ (part.rollouts.filter (fun r => r.wing == w)).length then s.bump (ctrOnWing w (Ctr.partRolloutDropped p))
  else
    s.setPart p { part with rollouts := part.rollouts ++
      [{ wing := w, fromCommand := false, tag := x.pkt.slot.tag, modelSlot := x.pkt.modelSlot, epoch := x.pkt.epoch
         handle := x.handle, entryGen := x.gen, block := block, startNt := x.pkt.slot.at_ }] }

/-- R238, R251, R253, R746: the hit of a commit. -/
def State.commitHit (s : State) (w : Nat) (x : Stair) : State :=
  let e := s.entryAt x.handle
  let y := s.wing w
  if e.gen ≠ x.gen ∨ ¬ e.valid then s
  else if !hOverflow x.handle && (mfind y.locks (hBucket x.handle)).isSome then
    if 1024 ≤ y.hitLog.length then s.bump (Ctr.wingHitlogOverflow w)
    else s.setWing w { y with hitLog := y.hitLog ++ [(x.handle, x.gen)] }
  else s.putEntry x.handle { e with hit := true }

/-- R753: the standby of a resynchronisation discards the writes of packets stamped before Q. -/
def State.discardsWrites (s : State) (w p stamp : Nat) : Bool :=
  s.isStandby && (match s.resyncOf p w with | some r => decide (stamp < r.q) | none => false)

/-- The unit that holds the entry of a handle. -/
def entryUnit (h : Nat) : Nat := if hOverflow h then overflowUnit (hSlot h) else bucketUnit (hBucket h)

/-- Table 07-4, HIT: Larder block, cache copy and hit. -/
def State.commitState (s : State) (w : Nat) (x : Stair) (block : Bytes) : State :=
  let p := x.pkt.partition
  let t := x.pkt.slot.at_
  if s.discardsWrites w p t then s
  else
    let s := (s.firstTouch w p t (larderUnit x.handle)).firstTouch w p t (entryUnit x.handle)
    let s := (s.amendImage p w t (larderUnit x.handle) (fun _ => .larder x.handle block)).amendImage p w t (entryUnit x.handle)
      (PairUnit.hit x.handle x.gen)
    (((s.writeBlock p x.handle block).cacheAdd w p x.handle)).commitHit w x

/-- R429, R432: the place of maximum `M[n][d]` in the maxima of a model slot. Batches of another length are other batches
(DEDUCED: log 178). -/
def statKey (len n d : Nat) : Nat := 16 * (18446744073709551616 * len + n) + d

/-- R432: a packet's rowmax values merge into maxima. -/
def Stair.mergeInto (x : Stair) (len : Nat) (m : Tab Nat) : Tab Nat :=
  let n := x.pkt.slot.at_ / (16000 * max 1 len)
  x.rowmax.foldl (fun m e =>
    mput m (statKey len n e.1) (fMax (BitVec.ofNat 32 (mget 0 m (statKey len n e.1))) [BitVec.ofNat 32 e.2]).toNat) m

/-- R432, R752: a packet's rowmax values merge into the maxima of its model slot. -/
def State.mergeMaxima (s : State) (w : Nat) (x : Stair) (len : Nat) : State :=
  let p := x.pkt.partition
  let k := 4 * p + x.pkt.modelSlot
  let t := x.pkt.slot.at_
  let unit := maximaUnit x.pkt.modelSlot
  let s := (s.firstTouch w p t unit).amendImage p w t unit (fun u =>
    match u with
    | .maxima i m => .maxima i (x.mergeInto len m)
    | u => u)
  { s with hall := { s.hall with maxima := mput s.hall.maxima k (x.mergeInto len (mget [] s.hall.maxima k)) } }

/-- Table 07-4: table and source counters of a packet. -/
def State.countCommit (s : State) (w : Nat) (x : Stair) (lookup : Nat) : State :=
  let i := pwIx w x.pkt.partition
  let s := (s.bump (Ctr.pwCommitted i)).bump (Ctr.pwLookup i)
  let s := s.bump (match lookup with | 0 => Ctr.pwHit i | 1 => Ctr.pwMiss i | _ => Ctr.pwMissPending i)
  let s := match x.source with
    | 1 => s.bump (Ctr.pwForwarded i)
    | 2 => s.bump (Ctr.pwCacheHit i)
    | 3 => s.bump (Ctr.pwCacheMiss i)
    | _ => s
  let s := if x.initialised then s.bump (Ctr.pwLarderInit i) else s
  let s := if x.regressed then s.bump (Ctr.pwStampRegress i) else s
  s.bump (ctrOnWing w (Ctr.partRateCommitted x.pkt.partition))

/-- R749: the digest of a commit. -/
def commitDigest (x : Stair) (lookup : Nat) (block : Bytes) : Nat :=
  let head := leBytes 8 x.pkt.slot.at_ ++ leBytes 1 x.pkt.partition ++ leBytes 1 lookup
  crc64 (if lookup = 0 then head ++ leBytes 4 x.handle ++ leBytes 1 x.gen ++ block else head)

/-- R560: the packet meets the mirror trigger; `band` is that of its verdict, if it has one. -/
def State.mirrorHit (s : State) (x : Stair) (band : Option Nat) (flags : Nat) (late : Bool) : Bool :=
  let p := x.pkt.partition
  let t := x.pkt.slot.seen
  let m := s.partSettingAt t 0x100F p
  (bitOf m 0 && late) || (bitOf m 1 && x.pkt.malformed) || (bitOf m 2 && bitOf flags 4) || (bitOf m 3 && bitOf flags 6) ||
    (match band with | some b => bitOf (s.partSettingAt t 0x1010 p x.pkt.modelSlot) b | none => false)

/-- R560, R561, R725, Table 15-4: every mirror_interval-th triggered packet of a partition on a Wing is mirrored, unless the partition is
being scrubbed. -/
def State.mirror (s : State) (w : Nat) (x : Stair) (band : Option Nat) (r : VerdictRec) : State :=
  let p := x.pkt.partition
  let q := s.partSettingAt x.pkt.slot.seen 0x100E p
  let late := s.hall.pends.any (fun e => e.id == x.pkt.id && e.emitted)
  if s.mirrorHit x band r.flags late && (s.partOf p).state != .scrubbing then
    let k := 2 * p + w
    let n := mget 0 s.exp.mirrored k
    let s := { s with exp := { s.exp with mirrored := mput s.exp.mirrored k (n + 1) } }
    if n % s.partSettingAt x.pkt.slot.seen 0x1011 p = 0 ∧ s.exports ∧ q < 4096 then
      (s.bump (ctrOnWing w (Ctr.partMirrors p))).exportItem q
        { type := 1, partition := p
          data := leBytes 8 x.pkt.slot.at_ ++ leBytes 2 x.pkt.epoch ++
            leBytes 1 (x.pkt.slot.lane + 64 * b2n (x.pkt.slot.data.length == 256) + 128 * b2n late) ++ zeroBytes 5 ++
            r.bytes ++ x.pkt.slot.data }
    else s
  else s

/-- R348: the records that the model placed in the packet's pending store reach their queues. -/
def State.pushPending (s : State) (x : Stair) : State :=
  x.records.foldl (fun s r =>
    s.record x.pkt.partition r.queue r.priority (leAt r.data 0 1) (slice r.data 8 (8 * (leAt r.data 1 1 % 128) - 8))) s

/-- The entry is freed (R264), its write locks with it (R351). -/
def State.freeEntry (s : State) (w : Nat) (x : Stair) : State :=
  let y := s.wing w
  let left := y.stairs.filter (fun z => z.index != x.index)
  (s.setWing w { y with stairs := left, runs := y.runs.filter (fun e => left.any (fun z => z.runs.contains e.1)) }).dropLocks w x.pkt.id

/-- R39: the shared counts of the packet's batches are added when the first of their packets commits. -/
def State.countRuns (s : State) (w : Nat) (x : Stair) : State :=
  x.runs.foldl (fun (s : State) n =>
    let y := s.wing w
    ((mget [] y.runs n).foldl (fun (s : State) e => s.addCount x.pkt.partition e.1 e.2) s).setWing w { y with runs := mdel y.runs n }) s

/-- R271: packets that chose the new state of a committing packet keep it. -/
def Wing.handOver (x : Wing) (id : Nat) (block : Bytes) : Wing :=
  { x with stairs := x.stairs.map (fun (y : Stair) =>
      if y.state = .waitState ∧ y.choice = some (.forwarded id) then { y with forward := some block } else y) }

/-- The effects of Table 07-4 for a packet that completes its model. -/
def State.commitReal (s : State) (w : Nat) (x : Stair) (v : PendVerdict) : State :=
  let p := x.pkt.partition
  let block := x.newState.getD []
  let cfg := (s.modelOf x.pkt).map (·.2)
  let graph := match cfg with | some c => c.rollsOut | none => false
  let roll := x.lookup == 0 && v.rollout && graph
  let r := x.record v roll
  let s := s.countCommit w x x.lookup
  let s := s.bump (ctrOnWing w (Ctr.partBand p (5 * x.pkt.modelSlot + v.band)))
  let s := if v.cls = 0xFF then s.bump (ctrOnWing w (Ctr.partNoClass p)) else s
  let s := if bitOf v.flags 4 then s.bump (ctrOnWing w (Ctr.partProvisional p)) else s
  let s : State := match cfg with
    | some c => s.mergeMaxima w x c.statLength
    | none => s
  let s := if x.lookup = 0 then s.commitState w x block else s
  let s := if x.lookup = 1 ∧ s.partSettingAt x.pkt.slot.seen 0x1008 p = 1 then
      s.learnNotice w p x.pkt.key x.pkt.hash (leAt x.pkt.slot.data 4 2) else s
  let s := (x.counts.foldl (fun (s : State) e => s.addCount p e.1 e.2) s).countRuns w x
  let s := s.pushPending x
  let s := if roll then s.startRollout w x block else s
  let s := if s.paired then s.addDigest x.pkt.slot.at_ p w (commitDigest x x.lookup block) else s
  let s := s.mirror w x (some v.band) r
  let s := if v.action ≠ 0 then s.fire 0 (s.partBufs p) else s
  let s := (s.setWing w ((s.wing w).handOver x.pkt.id block)).freeEntry w x
  let y := s.wing w
  s.setWing w { y with returning := y.returning ++ [{ id := x.pkt.id, verdict := r }] }

/-- R560, R813: an abandoned packet commits as MISS_PENDING, less its verdict, once its `late` default has been emitted; a mirror
of it carries that default (log entry 193). -/
def State.commitAbandoned (s : State) (w : Nat) (x : Stair) : State :=
  let s := s.countCommit w { x with source := 0, initialised := false, regressed := false } 2
  let s := if s.paired then s.addDigest x.pkt.slot.at_ x.pkt.partition w (commitDigest x 2 []) else s
  let s := s.mirror w x none (s.partDefault x.pkt.slot x.pkt.partition flLate)
  let s := { s with hall := { s.hall with pends := s.hall.pends.filter (fun e => e.id != x.pkt.id) } }
  s.freeEntry w x

/-- R41: every earlier packet of the flow has committed. -/
def Wing.firstOfFlow (x : Wing) (y : Stair) : Bool :=
  match y.pred with
  | none => true
  | some id => (x.stairOf id).isNone

/-- R43: the counts of a packet of Wing `w` reach the blocks of Wing `v` too (R22). -/
def Wing.countsReach (x : Wing) (y : Stair) (v : Nat) : Bool :=
  let keys := y.counts.map (·.1) ++ y.runs.flatMap (fun n => (mget [] x.runs n).map (·.1))
  keys.any (fun k => ctrGroup (k % 4294967296) == 12 && ctrInst (k % 4294967296) / 512 == v)

/-- R43: no copy of a snapshot that is due is still to be made by Wing `v`, stopped or not. -/
def State.copied (s : State) (v : Nat) : Bool :=
  [blkCellar v, blkStairwell v].all (fun b => (s.queueOf b).all (fun o => decide (s.nt < o.instant)))

/-- R43: a commit on Wing `w` adds to no block whose copy of a snapshot is due. -/
def State.commitWhole (s : State) (w : Nat) (y : Stair) : Bool := !(s.wing w).countsReach y (1 - w) || s.copied (1 - w)

/-- R752: the Q images that a commit needs to save find room in the resync buffer of its Wing. -/
def State.imagesFit (s : State) (w : Nat) (x : Stair) : Bool :=
  let p := x.pkt.partition
  match s.resyncOf p w with
  | none => true
  | some r =>
    let units := maximaUnit x.pkt.modelSlot :: (if x.lookup = 0 then [larderUnit x.handle, entryUnit x.handle] else [])
    let new := units.filter (fun u => s.isPrimary && decide (r.q ≤ x.pkt.slot.at_) && r.lacks u)
    new.isEmpty || decide (new.foldl (fun n u => n + (unitBytes (s.unitImage w p u)).length) (s.resyncBuffer w) ≤ resyncBufferBytes)

/-- COMMIT (R42, R43): an entry in READY, or an abandoned one, commits. -/
def execCommit (wing entry : Nat) (s : State) : Host.Outcome State Fault Refusal :=
  .next (
    let w := s.wing wing
    match w.stair entry with
    | none => s
    | some x =>
      if !s.wingFree wing || !w.firstOfFlow x || !s.commitWhole wing x then s
      else if x.abandoned then
        if s.hall.pends.any (fun e => e.id == x.pkt.id && e.emitted) then s.commitAbandoned wing x else s
      else
        match x.verdict with
        | some v => if x.state = .ready ∧ x.squash = none ∧ s.imagesFit wing x then s.commitReal wing x v else s
        | none => s)

end Sys2Proof.Machine
end

