-- ==== Sys2Proof/WellFormed.lean ====
section
/-!
DEFINITION. WellFormed.lean: every numbered operand of a command fits the bits that the manual gives its field.
-/
namespace Sys2Proof
open Machine

/-- A number fits `w` bits. -/
def fits (w n : Nat) : Bool := decide (n < 2 ^ w)

namespace Machine

/-- Every numbered field of the operand fits the bits the manual gives it. -/
def CmdIn.wf (x : CmdIn) : Bool := fits 13 x.ring && x.rsvAt.all (fits 32) && fits 64 x.replyAddr && fits 32 x.replyLen

/-- Every numbered field of the operand fits the bits the manual gives it. -/
def ConfigParams.wf (x : ConfigParams) : Bool := fits 12 x.quarters0 && fits 12 x.quarters1 && fits 5 x.blockUnits && fits 5 x.shareLog2 && fits 10 x.ringQuota && fits 32 x.shareBase0 && fits 32 x.shareBase1 && fits 16 x.overflowQuota0 && fits 16 x.overflowQuota1 && fits 16 x.coalQuota0 && fits 16 x.coalQuota1 && fits 8 x.regionBase0 && fits 8 x.regionBase1 && fits 8 x.regionGib && fits 4 x.bindFn && fits 16 x.stairQuota && fits 32 x.larderOff && fits 32 x.shadowOff && fits 32 x.windowsOff && fits 32 x.windowsUnits && fits 32 x.imageOff && fits 32 x.imageUnits

/-- Every numbered field of the operand fits the bits the manual gives it. -/
def Rule.wf (_ : Rule) : Bool := true

/-- Every numbered field of the operand fits the bits the manual gives it. -/
def CmdHdr.wf (x : CmdHdr) : Bool := fits 16 x.opcode && fits 8 x.version && fits 32 x.seqTag && fits 8 x.partition && fits 32 x.paramLength && fits 32 x.startDeadline && fits 64 x.word20

/-- Every numbered field of the operand fits the bits the manual gives it. -/
def Tod.wf (x : Tod) : Bool := fits 48 x.seconds && fits 16 x.utcOffset && fits 8 x.clockClass

/-- Every numbered field of the operand fits the bits the manual gives it. -/
def WaitingOn.wf (x : WaitingOn) : Bool := fits 8 x.reason && fits 32 x.target && fits 16 x.batch

/-- Every numbered field of the operand fits the bits the manual gives it. -/
def Wait.wf (x : Wait) : Bool := fits 32 x.node && x.on.wf

/-- Every numbered field of the operand fits the bits the manual gives it. -/
def Bank.wf (x : Bank) : Bool := fits 6 x.securityVersion && fits 384 x.digest && fits 32 x.bankBytes && x.versions.all (fits 32)

/-- Every numbered field of the operand fits the bits the manual gives it. -/
def StagingHdr.wf (x : StagingHdr) : Bool := fits 384 x.baseDigest && x.target.wf && x.anchors.all (fits 64)

/-- Every numbered field of the operand fits the bits the manual gives it. -/
def Relay.wf (x : Relay) : Bool := fits 8 x.op && fits 8 x.reason && fits 64 x.value && fits 384 x.baseDigest && fits 384 x.targetDigest && fits 11 x.length && x.hdr.all StagingHdr.wf

/-- Every numbered field of the operand fits the bits the manual gives it. -/
def Converter.wf (x : Converter) : Bool := fits 16 x.vout && fits 16 x.iout && fits 16 x.status

/-- Every numbered field of the operand fits the bits the manual gives it. -/
def PassOp.wf (x : PassOp) : Bool := fits 1 x.array && fits 3 x.form && fits 2 x.mode && fits 16 x.kMinus1 && fits 1 x.aHalf && fits 8 x.aOffset && fits 1 x.bHalf && fits 9 x.bOffset && fits 2 x.aFmt && fits 2 x.aCb && fits 1 x.bFmt && fits 2 x.bCb && fits 8 x.aZero && fits 1 x.aRelease && fits 1 x.bRelease

/-- Every numbered field of the operand fits the bits the manual gives it. -/
def FeedOp.wf (x : FeedOp) : Bool := fits 1 x.array && fits 3 x.target && fits 1 x.half && fits 2 x.cbSlot && fits 20 x.src && fits 10 x.length && fits 8 x.tag && fits 1 x.cbSize

/-- Every numbered field of the operand fits the bits the manual gives it. -/
def DrainOp.wf (x : DrainOp) : Bool := fits 1 x.array && fits 1 x.subOp && fits 2 x.source && fits 20 x.src

/-- Every numbered field of the operand fits the bits the manual gives it. -/
def PostOp.wf (x : PostOp) : Bool := fits 4 x.subOp && fits 2 x.srcKind && fits 20 x.src && fits 20 x.dst && fits 12 x.count && fits 8 x.paramA && fits 8 x.paramB

/-- Every numbered field of the operand fits the bits the manual gives it. -/
def TreeOp.wf (x : TreeOp) : Bool := fits 20 x.trees && fits 12 x.treeCountMinus1 && fits 20 x.nodeBits && fits 20 x.dst

/-- Every numbered field of the operand fits the bits the manual gives it. -/
def MoveOp.wf (x : MoveOp) : Bool := fits 2 x.kind && fits 20 x.localRef && fits 16 x.length && fits 42 x.remote

/-- Every numbered field of the operand fits the bits the manual gives it. -/
def StateOp.wf (x : StateOp) : Bool := fits 2 x.subOp && fits 7 x.rowFirst && fits 8 x.rowCount && fits 20 x.state && fits 20 x.token

/-- Every numbered field of the operand fits the bits the manual gives it. -/
def ReduceOp.wf (x : ReduceOp) : Bool := fits 20 x.slot0 && fits 12 x.stride && fits 4 x.countMinus1 && fits 12 x.length && fits 20 x.dst && fits 4 x.arriveTok

/-- Every numbered field of the operand fits the bits the manual gives it. -/
def SyncOp.wf (x : SyncOp) : Bool := fits 1 x.targetKind && fits 4 x.tok && fits 8 x.increment && fits 1 x.wing && fits 2 x.gallery && fits 7 x.tile

/-- Every numbered field of the operand fits the bits the manual gives it. -/
def TileOp.wf : TileOp → Bool
  | .mma p => p.wf
  | .sel p => p.wf
  | .dist p => p.wf
  | .feed f => f.wf
  | .drain d => d.wf
  | .post p => p.wf
  | .tree t => t.wf
  | .load m => m.wf
  | .store m => m.wf
  | .state x => x.wf
  | .reduce r => r.wf
  | .sync x => x.wf
  | .wait tok count => fits 4 tok && fits 8 count
  | .mark value => fits 32 value

/-- Every numbered field of the operand fits the bits the manual gives it. -/
def TileWord.wf (x : TileWord) : Bool := fits 1 x.waitEn && fits 4 x.waitTok && fits 1 x.sigEn && fits 4 x.sigTok && fits 1 x.trace && fits 1 x.last && fits 12 x.layer && fits 12 x.opId && x.op.wf

/-- Every numbered field of the operand fits the bits the manual gives it. -/
def Feature.wf (x : Feature) : Bool := fits 10 x.source && fits 6 x.shift && fits 3 x.transform && fits 5 x.width && fits 8 x.count && fits 9 x.element && fits 16 x.arg

/-- Every numbered field of the operand fits the bits the manual gives it. -/
def StageCfg.wf (x : StageCfg) : Bool := fits 8 x.batchSize && fits 10 x.batchWait && fits 32 x.passK && fits 32 x.stateBytes && fits 32 x.trees && fits 32 x.centroids && fits 32 x.topK && fits 32 x.elements && x.modes.all (fits 2) && x.links.all (fits 8)

/-- Every numbered field of the operand fits the bits the manual gives it. -/
def SiteCfg.wf (x : SiteCfg) : Bool := fits 4 x.index && fits 12 x.layer && fits 5 x.window

/-- Every numbered field of the operand fits the bits the manual gives it. -/
def BandCfg.wf (x : BandCfg) : Bool := fits 8 x.action && fits 32 x.param

/-- Every numbered field of the operand fits the bits the manual gives it. -/
def VerdictCfg.wf (x : VerdictCfg) : Bool := fits 3 x.bands && x.band.all BandCfg.wf && x.nanBand.wf

/-- Every numbered field of the operand fits the bits the manual gives it. -/
def RolloutCfg.wf (x : RolloutCfg) : Bool := fits 5 x.steps && fits 4 x.width && fits 2 x.queue && fits 3 x.priority

/-- Every numbered field of the operand fits the bits the manual gives it. -/
def SlotCfg.wf (x : SlotCfg) : Bool := fits 10 x.tokenWidth && fits 10 x.flowBase && x.featureWords.all (fits 64) && x.main.all StageCfg.wf && x.noFlow.all StageCfg.wf && x.rollout.all StageCfg.wf && fits 17 x.statLength && x.sites.all SiteCfg.wf && x.verdict.all VerdictCfg.wf && x.rolloutCfg.wf

/-- Every numbered field of the operand fits the bits the manual gives it. -/
def SiteEntry.wf (x : SiteEntry) : Bool := fits 12 x.layer && fits 4 x.site

/-- Every numbered field of the operand fits the bits the manual gives it. -/
def DramWindow.wf (x : DramWindow) : Bool := fits 48 x.base && fits 48 x.size

/-- Every numbered field of the operand fits the bits the manual gives it. -/
def GroupMember.wf (x : GroupMember) : Bool := fits 1 x.wing && fits 9 x.ctile

/-- Every numbered field of the operand fits the bits the manual gives it. -/
def TileImage.wf (x : TileImage) : Bool := fits 1 x.wing && fits 9 x.ctile && x.entries.all (fits 19) && fits 20 x.scaleBlock && x.sites.all SiteEntry.wf && x.groups.all (fun e => e.all GroupMember.wf) && x.windows.all DramWindow.wf && x.reloc.all (fits 19)

/-- Every numbered field of the operand fits the bits the manual gives it. -/
def StateLayout.wf (x : StateLayout) : Bool := fits 5 x.depth && fits 12 x.histOffset && fits 12 x.histEntry

/-- Every numbered field of the operand fits the bits the manual gives it. -/
def Declared.wf (x : Declared) : Bool := fits 1 x.wing && fits 9 x.ctile && fits 23 x.address && fits 9 x.entries

/-- Every numbered field of the operand fits the bits the manual gives it. -/
def SectEntry.wf (x : SectEntry) : Bool := fits 8 x.type && fits 1 x.wing && fits 9 x.ctile && fits 8 x.slot && fits 8 x.keyGen && fits 64 x.offset && fits 64 x.length && fits 64 x.dest

/-- Every numbered field of the operand fits the bits the manual gives it. -/
def Image.wf (x : Image) : Bool := fits 4 x.target && fits 4 x.slotMask && fits 8 x.quarters && fits 5 x.blockUnits && fits 64 x.topologyId && fits 64 x.stateLayoutId && fits 64 x.imageBytes && fits 384 x.measurement && x.sections.all SectEntry.wf && x.slots.all (fun e => e.2.wf) && x.layout.wf && x.tiles.all TileImage.wf && x.declared.all Declared.wf

/-- Every numbered field of the operand fits the bits the manual gives it. -/
def LoadResult.wf (x : LoadResult) : Bool := x.image.wf && x.contentFault.all (fits 32) && x.arrived.all (fits 64)

/-- Every numbered field of the operand fits the bits the manual gives it. -/
def Ecc.wf (x : Ecc) : Bool := fits 16 x.corrected && x.unit.all (fits 17)

/-- Every numbered field of the operand fits the bits the manual gives it. -/
def Placement.wf (x : Placement) : Bool := x.tiles.all (fits 10) && fits 4 x.entry && x.bases.all (fits 17) && fits 17 x.tokenAt && fits 17 x.forecastAt

/-- Every numbered field of the operand fits the bits the manual gives it. -/
def ApplyOutcome.wf (_ : ApplyOutcome) : Bool := true

/-- Every numbered field of the operand fits the bits the manual gives it. -/
def PartnerPart.wf (x : PartnerPart) : Bool := fits 2 x.state && x.params.wf

/-- Every numbered field of the operand fits the bits the manual gives it. -/
def PartnerInfo.wf (x : PartnerInfo) : Bool := fits 64 x.serial && fits 16 x.stepping && fits 64 x.originSeconds && fits 128 x.hashSeed && x.parts.all PartnerPart.wf && fits 384 x.settings

/-- Every numbered field of the operand fits the bits the manual gives it. -/
def WordRead.wf (x : WordRead) : Bool := fits 6 x.word && fits 64 x.data

/-- Every numbered field of the operand fits the bits the manual gives it. -/
def Drbg.wf (_ : Drbg) : Bool := true

/-- Every numbered field of the operand fits the bits the manual gives it. -/
def TcbInfo.wf (x : TcbInfo) : Bool := fits 4 x.index

/-- Every numbered field of the operand fits the bits the manual gives it. -/
def Leaf.wf (x : Leaf) : Bool := x.entries.all TcbInfo.wf

/-- Every numbered field of the operand fits the bits the manual gives it. -/
def CertChain.wf (x : CertChain) : Bool := x.leaf.wf

/-- Every numbered field of the operand fits the bits the manual gives it. -/
def PairUnit.wf : PairUnit → Bool
  | .bucket b _ => fits 22 b
  | .overflow ix _ => fits 15 ix
  | .larder handle _ => fits 32 handle
  | .maxima slot data => fits 2 slot && data.all (fun e => fits 32 e.2)
  | .windows slot data => fits 1 slot && data.all (fun e => fits 16 e.1 && fits 32 e.2.2.1 && fits 32 e.2.2.2)

/-- Every numbered field of the operand fits the bits the manual gives it. -/
def MirrorCmd.wf : MirrorCmd → Bool
  | .configure partition params => fits 8 partition && params.wf
  | .release partition => fits 8 partition
  | .setting partition id inst element value => fits 8 partition && fits 16 id && fits 16 inst && fits 8 element && fits 128 value
  | .rule bank index result _ _ => fits 1 bank && fits 12 index && fits 64 result
  | .bankArm t => fits 64 t
  | .epochArm partition slot _ epoch t measurement => fits 8 partition && fits 1 slot && fits 16 epoch && fits 64 t && fits 384 measurement
  | .epochCancel partition => fits 8 partition

/-- Every numbered field of the operand fits the bits the manual gives it. -/
def PairMsg.wf : PairMsg → Bool
  | .heartbeat sent accepted _ occ0 occ1 => fits 32 sent && fits 32 accepted && fits 16 occ0 && fits 16 occ1
  | .insert e handle _ => fits 64 e && fits 32 handle
  | .tableChange e wing partition unit => fits 64 e && fits 1 wing && fits 8 partition && unit.wf
  | .prepare cmd => cmd.wf
  | .vote prep status detail => fits 32 prep && fits 32 status && fits 32 detail
  | .commit prep e => fits 32 prep && fits 64 e
  | .stateHash k sums => fits 64 k && sums.all (fits 64)
  | .resyncBegin partition wing q => fits 8 partition && fits 1 wing && fits 64 q
  | .resyncData partition wing unit => fits 8 partition && fits 1 wing && unit.wf
  | .blockRequest partition wing handle => fits 8 partition && fits 1 wing && fits 32 handle
  | .resyncEnd partition wing units => fits 8 partition && fits 1 wing && fits 32 units
  | .role e => fits 64 e
  | .release => true
  | .update x => x.wf
  | .reserved code => fits 8 code

end Machine

/-- The operands of a command fit their fields. -/
def Instr.wellFormed : Instr → Bool
  | .configurationRequest => true
  | .perstNAssert => true
  | .perstNRelease => true
  | .functionLevelReset fn => fits 4 fn
  | .pcieLinkTrained width rate => fits 5 width && fits 10 rate
  | .resetN _ lowNs => fits 32 lowNs
  | .railInRegulation _ => true
  | .vin12DropOut _ => true
  | .vstby33DropOut _ => true
  | .romStage bootMode _ _ _ apply => fits 2 bootMode && apply.wf
  | .hearthStage _ _ converters => converters.all (fun e => fits 3 e.1 && e.2.wf)
  | .dramStage _ apply => apply.wf
  | .selfTest failed landings => failed.all (fits 10) && landings.all (fits 9)
  | .settingsStage => true
  | .ready => true
  | .trialTimeout => true
  | .sysRefclkLoss _ => true
  | .serdesRefclkLoss n _ => fits 2 n
  | .adminEnable fn _ => fits 4 fn
  | .adminReset fn _ => fits 4 fn
  | .stickyMirrorWrite fn mask => fits 4 fn && fits 256 mask
  | .registerWrite fn offset value _ _ => fits 4 fn && fits 26 offset && fits 64 value
  | .sqTail fn page value _ => fits 4 fn && fits 12 page && fits 32 value
  | .cqHead fn page value _ => fits 4 fn && fits 12 page && fits 32 value
  | .commandFetch entry => entry.length == 64
  | .startDeadlineExpiry ring => fits 13 ring
  | .fenceRelease ring => fits 13 ring
  | .interruptCoalesceTimeout ring => fits 12 ring
  | .vectorUnmask fn vector _ => fits 4 fn && fits 10 vector
  | .sessionOpen c hostWord => c.wf && fits 128 hostWord
  | .sessionClose c => c.wf
  | .ringCreate c localIx _ log2 vector coalCount coalTime drainSource sqBase cqBase => c.wf && fits 12 localIx && fits 5 log2 && fits 11 vector && fits 8 coalCount && fits 10 coalTime && fits 32 drainSource && fits 64 sqBase && fits 64 cqBase
  | .ringDestroy c localIx => c.wf && fits 12 localIx
  | .ringReset c localIx => c.wf && fits 12 localIx
  | .partitionConfigure c p => c.wf && p.wf
  | .contextConfigure c p => c.wf && p.wf
  | .partitionRelease c => c.wf
  | .partitionQuery c => c.wf
  | .settingWrite c setting inst element value => c.wf && fits 16 setting && fits 16 inst && fits 8 element && fits 128 value
  | .settingRead c setting inst element => c.wf && fits 16 setting && fits 16 inst && fits 8 element
  | .ruleWrite c bank index rule => c.wf && fits 1 bank && fits 12 index && rule.wf
  | .ruleRead c bank index => c.wf && fits 1 bank && fits 12 index
  | .ruleBankArm c switchNt => c.wf && fits 64 switchNt
  | .ruleBankQuery c => c.wf
  | .bankSwap => true
  | .imageLoad c slot imageBytes _ => c.wf && fits 1 slot && fits 64 imageBytes
  | .imageLoadCheck partition slot result => fits 8 partition && fits 1 slot && result.wf
  | .imageDiscard c slot => c.wf && fits 1 slot
  | .imageQuery c => c.wf
  | .epochArm c slot _ epoch switchNt => c.wf && fits 1 slot && fits 16 epoch && fits 64 switchNt
  | .epochCancel c => c.wf
  | .rolloutStart c handle => c.wf && fits 32 handle
  | .epochSwitch partition => fits 8 partition
  | .stagedFillStart partition => fits 8 partition
  | .fillWaveEnd partition => fits 8 partition
  | .epochRetirement partition => fits 8 partition
  | .tableLock c wing owner bucket => c.wf && fits 1 wing && fits 8 owner && fits 32 bucket
  | .tableRead c wing owner bucket count _ => c.wf && fits 1 wing && fits 8 owner && fits 32 bucket && fits 13 count
  | .tableWrite c wing owner bucket _ _ => c.wf && fits 1 wing && fits 8 owner && fits 32 bucket
  | .tableUnlock c wing owner bucket _ => c.wf && fits 1 wing && fits 8 owner && fits 32 bucket
  | .lockBreak wing bucket => fits 1 wing && fits 22 bucket
  | .tableOverflowRead c wing first count => c.wf && fits 1 wing && fits 16 first && fits 17 count
  | .tableOverflowDelete c handle entryGen => c.wf && fits 32 handle && fits 8 entryGen
  | .tableHash c _ => c.wf
  | .tableShadowWrite c wing _ first count _ _ => c.wf && fits 1 wing && fits 32 first && fits 32 count
  | .tableCompare c wing _ _ queue priority firstBucket lastBucket compareId => c.wf && fits 1 wing && fits 2 queue && fits 3 priority && fits 32 firstBucket && fits 32 lastBucket && fits 32 compareId
  | .compareUnit wing => fits 1 wing
  | .compareDone wing => fits 1 wing
  | .reportRead c queue timeout found _ => c.wf && fits 2 queue && fits 32 timeout && found.all WordRead.wf
  | .reportReadSelect partition queue found _ _ => fits 8 partition && fits 2 queue && found.all WordRead.wf
  | .reportReadTimeout partition queue => fits 8 partition && fits 2 queue
  | .reportReadCompat c queue found => c.wf && fits 2 queue && found.all WordRead.wf
  | .exportQueueStats c queue _ => c.wf && fits 12 queue
  | .gateListSet c port entries base => c.wf && fits 6 port && entries.all (fun e => fits 8 e.1 && fits 32 e.2) && fits 64 base
  | .gateListCancel c port => c.wf && fits 6 port
  | .timeConfig c setting inst element value => c.wf && fits 16 setting && fits 16 inst && fits 8 element && fits 128 value
  | .timeStatus c => c.wf
  | .counterRead c firstId count => c.wf && fits 32 firstId && fits 17 count
  | .snapshot c _ atNt hostAddr length => c.wf && fits 64 atNt && fits 64 hostAddr && fits 32 length
  | .traceConfig c buffer _ triggerMask postRecords stallThreshold => c.wf && fits 32 buffer && fits 32 triggerMask && fits 16 postRecords && fits 32 stallThreshold
  | .traceRelease c buffer => c.wf && fits 32 buffer
  | .deviceIdentity c => c.wf
  | .healthStatus c _ => c.wf
  | .mantelRead c die section_ offset => c.wf && fits 2 die && fits 8 section_ && fits 32 offset
  | .stickyRead c => c.wf
  | .stickyClear c mask => c.wf && fits 256 mask
  | .keyLoad c keyGen wrappedBytes _ => c.wf && fits 8 keyGen && fits 32 wrappedBytes
  | .previousKeyErase partition => fits 8 partition
  | .keyQuery c => c.wf
  | .updateBegin c totalBytes => c.wf && fits 64 totalBytes
  | .updateData c offset length hdr => c.wf && fits 64 offset && fits 32 length && hdr.all StagingHdr.wf
  | .updateTransferDone _ => true
  | .updateEnd c => c.wf
  | .stagingClosed => true
  | .updateAbort c => c.wf
  | .updateStatus c => c.wf
  | .updateActivate c _ => c.wf
  | .updateConfirm c => c.wf
  | .settingsSave c => c.wf
  | .settingsFlashWrite _ => true
  | .pairSetup c _ => c.wf
  | .pairRelease c => c.wf
  | .pairStatus c => c.wf
  | .pairSwitchover c => c.wf
  | .pairResync c => c.wf
  | .dumpTake c scope hostAddr length waits => c.wf && fits 8 scope && fits 64 hostAddr && fits 64 length && waits.all Wait.wf
  | .dumpStatus c => c.wf
  | .waitforRead c => c.wf
  | .digest lane age _ _ _ corrected uncorrectable => fits 6 lane && fits 64 age && fits 16 corrected && fits 16 uncorrectable
  | .controlReceive lane _ _ _ corrected uncorrectable => fits 6 lane && fits 16 corrected && fits 16 uncorrectable
  | .foreignFrame lane _ _ _ corrected uncorrectable => fits 6 lane && fits 16 corrected && fits 16 uncorrectable
  | .rxIpv6 lane _ _ _ corrected uncorrectable => fits 6 lane && fits 16 corrected && fits 16 uncorrectable
  | .laneDown lane => fits 6 lane
  | .linkUp lane => fits 6 lane
  | .controlFrameCredit lane => fits 6 lane
  | .controlFrameIdle lane => fits 6 lane
  | .creditResume => true
  | .parse => true
  | .dispatch => true
  | .quotaRelease wing partition => fits 1 wing && fits 4 partition
  | .batchClose wing partition modelSlot _ stage place => fits 1 wing && fits 4 partition && fits 2 modelSlot && fits 8 stage && place.wf
  | .settleWait wing batch => fits 1 wing && fits 16 batch
  | .batchDescriptor tile ecc => fits 10 tile && ecc.wf
  | .lookup wing entry _ => fits 1 wing && fits 15 entry
  | .inputState wing entry _ larderBad => fits 1 wing && fits 15 entry && larderBad.all (fits 6)
  | .readyToCommit wing entry => fits 1 wing && fits 15 entry
  | .commit wing entry => fits 1 wing && fits 15 entry
  | .squash wing entry => fits 1 wing && fits 15 entry
  | .squashDiscardComplete wing entry => fits 1 wing && fits 15 entry
  | .deadline => true
  | .verdictArrival wing => fits 1 wing
  | .verdictFrame lane => fits 6 lane
  | .exportFrame port => fits 6 port
  | .shaperEligible queue => fits 12 queue
  | .payloadClose queue => fits 12 queue
  | .insertion wing => fits 1 wing
  | .backgroundClear wing partition bad => fits 1 wing && fits 4 partition && bad.all (fits 6)
  | .epochWalk wing partition bad => fits 1 wing && fits 4 partition && bad.all (fits 6)
  | .epochWalkEnd partition => fits 4 partition
  | .rolloutBatch wing partition modelSlot plan => fits 1 wing && fits 4 partition && fits 2 modelSlot && plan.all Placement.wf
  | .rolloutRecord wing batch => fits 1 wing && fits 16 batch
  | .gateList port => fits 6 port
  | .pairTableApply wing => fits 1 wing
  | .pairInsertApply wing => fits 1 wing
  | .windowEdge partition slot => fits 4 partition && fits 1 slot
  | .ageSweep wing partition => fits 1 wing && fits 4 partition
  | .sweepOverrun wing partition => fits 1 wing && fits 4 partition
  | .interval1ms block margins => fits 3 block && margins.all (fun e => fits 6 e.1 && fits 10 e.2.1 && fits 10 e.2.2)
  | .stateHash wing => fits 1 wing
  | .shaperSample => true
  | .snapshotCopy block => fits 8 block
  | .snapshotWindowSwap fn => fits 4 fn
  | .periodicSnapshot => true
  | .wingResume wing => fits 1 wing
  | .ppsInEdge age => fits 4 age
  | .todMessage _ => true
  | .holdover => true
  | .ppsOut => true
  | .timeWrapNear => true
  | .recordPush partition queue => fits 8 partition && fits 2 queue
  | .reportNotifyTimeout partition queue => fits 8 partition && fits 2 queue
  | .mma tile array ecc => fits 10 tile && fits 1 array && ecc.wf
  | .sel tile array ecc => fits 10 tile && fits 1 array && ecc.wf
  | .dist tile array ecc => fits 10 tile && fits 1 array && ecc.wf
  | .passComplete tile array => fits 10 tile && fits 1 array
  | .formChange tile array => fits 10 tile && fits 1 array
  | .rampUp tile array => fits 10 tile && fits 1 array
  | .rampDown tile array => fits 10 tile && fits 1 array
  | .swap tile array column => fits 10 tile && fits 1 array && fits 9 column
  | .tagHold tile array => fits 10 tile && fits 1 array
  | .tagMismatch tile array => fits 10 tile && fits 1 array
  | .feed tile array ecc => fits 10 tile && fits 1 array && ecc.wf
  | .feedScale tile array ecc => fits 10 tile && fits 1 array && ecc.wf
  | .feedCodebook tile array ecc => fits 10 tile && fits 1 array && ecc.wf
  | .drain tile array ecc => fits 10 tile && fits 1 array && ecc.wf
  | .preload tile array ecc => fits 10 tile && fits 1 array && ecc.wf
  | .pipe tile ecc => fits 10 tile && ecc.wf
  | .group tile ecc => fits 10 tile && ecc.wf
  | .topk tile ecc => fits 10 tile && ecc.wf
  | .link tile ecc => fits 10 tile && ecc.wf
  | .check tile => fits 10 tile
  | .verdict tile ecc => fits 10 tile && ecc.wf
  | .table tile ecc => fits 10 tile && ecc.wf
  | .tree tile ecc => fits 10 tile && ecc.wf
  | .load tile ecc dramBad => fits 10 tile && ecc.wf && dramBad.all (fits 20)
  | .gather tile ecc dramBad => fits 10 tile && ecc.wf && dramBad.all (fits 20)
  | .store tile ecc => fits 10 tile && ecc.wf
  | .pending tile ecc => fits 10 tile && ecc.wf
  | .stateIn tile ecc => fits 10 tile && ecc.wf
  | .stateRelease tile ecc => fits 10 tile && ecc.wf
  | .reduce tile ecc => fits 10 tile && ecc.wf
  | .sync tile => fits 10 tile
  | .wait tile => fits 10 tile
  | .mark tile => fits 10 tile
  | .quiesce tile => fits 10 tile
  | .reissue wing batch => fits 1 wing && fits 16 batch
  | .tileRetirement wing => fits 1 wing
  | .rowRetirement wing stack channel bank row cause _ lost => fits 1 wing && fits 2 stack && fits 6 channel && fits 6 bank && fits 20 row && fits 8 cause && lost.all (fun e => fits 5 e.1 && fits 48 e.2)
  | .landingLaneSparing wing laneGroup => fits 1 wing && fits 8 laneGroup
  | .patrolScrub wing partition address _ => fits 1 wing && fits 5 partition && fits 48 address
  | .wingRecovery wing => fits 1 wing
  | .hang hung waits => hung.all (fits 32) && waits.all Wait.wf
  | .throttleStep wing _ => fits 1 wing
  | .thermtrip => true
  | .regulatorFault domain => fits 7 domain
  | .droop wing mhz => fits 1 wing && fits 11 mhz
  | .mantelWrite die section_ _ _ => fits 2 die && fits 4 section_
  | .pmbusPoll readings => readings.all (fun e => fits 3 e.1 && e.2.wf)
  | .pmAlert _ status => status.all (fun e => fits 3 e.1 && fits 16 e.2)
  | .traceRecord buffer => fits 11 buffer
  | .stallRecord buffer engine reason context layer op batch => fits 11 buffer && fits 8 engine && fits 8 reason && fits 4 context && fits 12 layer && fits 12 op && fits 16 batch
  | .bounceStart fn => fits 4 fn
  | .endSession fn => fits 4 fn
  | .envelope fn slot _ => fits 4 fn && fits 24 slot
  | .getCertificate fn slot => fits 4 fn && fits 1 slot
  | .keyExchange fn slot => fits 4 fn && fits 1 slot
  | .getMeasurements fn => fits 4 fn
  | .spdmRequest fn code => fits 4 fn && fits 8 code
  | .lockInterfaceRequest fn => fits 4 fn
  | .startInterfaceRequest fn => fits 4 fn
  | .tdispError fn => fits 4 fn
  | .ideKm fn stream _ => fits 4 fn && fits 4 stream
  | .boundaryScan instr => fits 2 instr
  | .internalScan => true
  | .scrubDrain partition => fits 8 partition
  | .scrubOnDie partition => fits 8 partition
  | .scrubDram partition => fits 8 partition
  | .banisterConnect lanes _ info => fits 8 lanes && info.wf
  | .banisterFrame lane _ _ _ msgs => fits 3 lane && msgs.all (fun e => fits 32 e.1 && e.2.wf)
  | .heartbeat => true
  | .resend => true
  | .partnerLost => true
  | .insert => true
  | .tableChange => true
  | .prepare => true
  | .vote => true
  | .voteTimeout => true
  | .commitMessage => true
  | .stateHashMessage => true
  | .resyncBegin => true
  | .resyncData => true
  | .blockRequest => true
  | .resyncWalker wing partition => fits 1 wing && fits 4 partition
  | .resyncEnd wing partition => fits 1 wing && fits 4 partition
  | .role => true
  | .release => true
  | .update => true
  | .relayOffer _ _ => true
  | .offer port sender x => fits 1 port && fits 64 sender && x.wf
  | .dtlsHandshake anchor linkSerial => anchor.all (fits 64) && linkSerial.all (fits 64)
  | .commandRecord assoc _ => fits 3 assoc
  | .associationIdle assoc => fits 3 assoc
  | .bridgeFrame port _ => fits 1 port
  | .neighbourDiscovery port _ => fits 1 port
  | .backgroundClearEnd partition => fits 4 partition
  | .gateEntryChange port => fits 6 port
  | .refreshDoubled stack _ => fits 3 stack

end Sys2Proof
end

