-- ==== Sys2Proof/Machine/TileWord.lean ====
section
/-!
DEFINITION. Machine/TileWord.lean: the encoding of tile-program words (R331, R332; Tables 08-4 to 08-15): the reading of
a 128-bit word, which refuses what R332 refuses, and the word that spells an instruction.
-/
namespace Sys2Proof.Machine

/-! ### Fields side by side, least significant first -/

/-- The number that fields of given widths and values make up. -/
def pack : List (Nat × Nat) → Nat
  | [] => 0
  | (n, v) :: r => v + 2 ^ n * pack r

/-- The values of the fields of given widths in a number. -/
def unpack : List Nat → Nat → List Nat
  | [], _ => []
  | n :: r, w => w % 2 ^ n :: unpack r (w / 2 ^ n)

/-! ### Operands (bits [127:48]) -/

/-- Table 08-6: the ranges of a pass word; `op` is its opcode (R332, R369). -/
def PassOp.ok (op : Nat) (p : PassOp) : Bool :=
  decide (p.form ≤ 4) && (if op = 0x12 then decide (p.mode ≤ 2) else p.mode == 0) &&
    (p.aFmt == 0 || p.aZero == 0) &&
    (op != 0x12 || p.mode != 2 || (p.aFmt == 1 && p.bFmt == 0) || (p.aFmt == 2 && p.bFmt == 1))

def readPass (op w : Nat) : Option PassOp :=
  match unpack [1, 3, 2, 16, 1, 8, 1, 9, 2, 2, 1, 2, 8, 1, 1, 22] w with
  | [array, form, mode, k, ah, ao, bh, bo, af, ac, bf, bc, z, ar, br, 0] =>
    let p : PassOp := { array := array, form := form, mode := mode, kMinus1 := k, aHalf := ah, aOffset := ao, bHalf := bh
                        bOffset := bo, aFmt := af, aCb := ac, bFmt := bf, bCb := bc, aZero := z, aRelease := ar
                        bRelease := br }
    if p.ok op then some p else none
  | _ => none

def PassOp.bits (p : PassOp) : Nat :=
  pack [(1, p.array), (3, p.form), (2, p.mode), (16, p.kMinus1), (1, p.aHalf), (8, p.aOffset), (1, p.bHalf), (9, p.bOffset),
    (2, p.aFmt), (2, p.aCb), (1, p.bFmt), (2, p.bCb), (8, p.aZero), (1, p.aRelease), (1, p.bRelease), (22, 0)]

/-- Table 08-7: the ranges of a FEED word. -/
def FeedOp.ok (f : FeedOp) : Bool :=
  let data := decide (f.target ≤ 1)
  let book := decide (3 ≤ f.target)
  let len := f.length
  decide (f.target ≤ 4) && (data || f.half == 0) && (book || f.cbSlot == 0) && (book || f.cbSize == 0) &&
    (f.target == 1 || f.target == 2 || f.tag == 0) &&
    (match f.target with
     | 0 => decide (1 ≤ len) && decide (len ≤ 256)
     | 1 => decide (1 ≤ len) && decide (len ≤ 512)
     | 2 => decide (1 ≤ len) && decide (len ≤ 64)
     | _ => len == 0)

def readFeed (w : Nat) : Option FeedOp :=
  match unpack [1, 3, 1, 2, 20, 10, 8, 1, 34] w with
  | [array, target, half, slot, src, len, tag, size, 0] =>
    let f : FeedOp := { array := array, target := target, half := half, cbSlot := slot, src := src, length := len
                        tag := tag, cbSize := size }
    if f.ok then some f else none
  | _ => none

def FeedOp.bits (f : FeedOp) : Nat :=
  pack [(1, f.array), (3, f.target), (1, f.half), (2, f.cbSlot), (20, f.src), (10, f.length), (8, f.tag), (1, f.cbSize), (34, 0)]

/-- Table 08-8: the ranges of a DRAIN word. -/
def DrainOp.ok (d : DrainOp) : Bool :=
  if d.subOp = 0 then d.source == 0 && d.src == 0 else decide (d.source ≤ 2) && (d.source != 0 || d.src == 0)

def readDrain (w : Nat) : Option DrainOp :=
  match unpack [1, 1, 2, 20, 56] w with
  | [array, sub, source, src, 0] =>
    let d : DrainOp := { array := array, subOp := sub, source := source, src := src }
    if d.ok then some d else none
  | _ => none

def DrainOp.bits (d : DrainOp) : Nat := pack [(1, d.array), (1, d.subOp), (2, d.source), (20, d.src), (56, 0)]

/-- Tables 08-9 and 08-10: the ranges of a POST word. -/
def PostOp.ok (p : PostOp) : Bool :=
  decide (p.srcKind ≤ 2) && (p.srcKind == 2 || p.src == 0) &&
    (match p.subOp with
     | 0 => decide (1 ≤ p.count) && decide (p.count ≤ 512) && decide (bitsOf p.paramA 1 3 ≤ 4) && bitsOf p.paramA 4 4 == 0 &&
         decide (bitsOf p.paramB 0 3 ≤ 4) && bitsOf p.paramB 5 3 == 0
     | 1 => decide (1 ≤ p.count) && decide (p.count ≤ 512) && decide (p.paramA ≤ 1) && p.paramB == 0
     | 2 => decide (1 ≤ p.count) && decide (p.count ≤ 512) && decide (1 ≤ p.paramA) && decide (p.paramA ≤ 16)
     | 3 => decide (1 ≤ p.count) && decide (p.count ≤ 64) && decide (p.paramA ≤ 3) && p.paramB == 0
     | 4 => p.count == 0 && p.paramA == 0 && p.paramB == 0
     | 5 => p.count == 2 && p.paramA == 0 && p.paramB == 0
     | 6 => p.count == 0 && decide (p.paramA ≤ 7) && p.paramB == 0
     | _ => false)

def readPost (w : Nat) : Option PostOp :=
  match unpack [4, 2, 20, 20, 12, 8, 8, 6] w with
  | [sub, kind, src, dst, count, a, b, 0] =>
    let p : PostOp := { subOp := sub, srcKind := kind, src := src, dst := dst, count := count, paramA := a, paramB := b }
    if p.ok then some p else none
  | _ => none

def PostOp.bits (p : PostOp) : Nat :=
  pack [(4, p.subOp), (2, p.srcKind), (20, p.src), (20, p.dst), (12, p.count), (8, p.paramA), (8, p.paramB), (6, 0)]

def readTree (w : Nat) : Option TreeOp :=
  match unpack [20, 12, 20, 20, 8] w with
  | [trees, n, bits, dst, 0] => some { trees := trees, treeCountMinus1 := n, nodeBits := bits, dst := dst }
  | _ => none

def TreeOp.bits (t : TreeOp) : Nat :=
  pack [(20, t.trees), (12, t.treeCountMinus1), (20, t.nodeBits), (20, t.dst), (8, 0)]

/-- Table 08-13: the ranges and reserved bits of the remote field; kinds 0 TILE, 1 DRAM, 2 GATHER, 3 PENDING. -/
def remoteOk (kind remote : Nat) : Bool :=
  match kind with
  | 0 => decide (bitsOf remote 1 2 ≤ 2) && decide (bitsOf remote 3 7 ≤ 95) && decide (remote < 2 ^ 27)
  | 1 => decide (remote < 2 ^ 36)
  | 2 => decide (1 ≤ bitsOf remote 24 8) && decide (remote < 2 ^ 32)
  | _ => decide (remote < 2 ^ 12)

/-- Table 08-12: the ranges of a LOAD (`store` false) or STORE word. -/
def MoveOp.ok (store : Bool) (m : MoveOp) : Bool :=
  (if store then m.kind != 2 else m.kind != 3) && decide (1 ≤ m.length) && (m.kind != 2 || decide (m.length ≤ 4096)) &&
    remoteOk m.kind m.remote

def readMove (store : Bool) (w : Nat) : Option MoveOp :=
  match unpack [2, 20, 16, 42] w with
  | [kind, loc, len, remote] =>
    let m : MoveOp := { kind := kind, localRef := loc, length := len, remote := remote }
    if m.ok store then some m else none
  | _ => none

def MoveOp.bits (m : MoveOp) : Nat := pack [(2, m.kind), (20, m.localRef), (16, m.length), (42, m.remote)]

/-- Table 08-14: the ranges of a STATE word. -/
def StateOp.ok (x : StateOp) : Bool :=
  decide (x.subOp ≤ 1) && decide (1 ≤ x.rowCount) && decide (x.rowCount ≤ 128) && (x.subOp == 0 || x.token == 0)

def readState (w : Nat) : Option StateOp :=
  match unpack [2, 7, 8, 20, 20, 23] w with
  | [sub, first, count, state, token, 0] =>
    let x : StateOp := { subOp := sub, rowFirst := first, rowCount := count, state := state, token := token }
    if x.ok then some x else none
  | _ => none

def StateOp.bits (x : StateOp) : Nat :=
  pack [(2, x.subOp), (7, x.rowFirst), (8, x.rowCount), (20, x.state), (20, x.token), (23, 0)]

/-- Table 08-15: the ranges of a REDUCE word. -/
def ReduceOp.ok (r : ReduceOp) : Bool := decide (1 ≤ r.stride) && decide (1 ≤ r.length)

def readReduce (w : Nat) : Option ReduceOp :=
  match unpack [20, 12, 4, 12, 20, 4, 8] w with
  | [slot, stride, count, len, dst, tok, 0] =>
    let r : ReduceOp := { slot0 := slot, stride := stride, countMinus1 := count, length := len, dst := dst, arriveTok := tok }
    if r.ok then some r else none
  | _ => none

def ReduceOp.bits (r : ReduceOp) : Nat :=
  pack [(20, r.slot0), (12, r.stride), (4, r.countMinus1), (12, r.length), (20, r.dst), (4, r.arriveTok), (8, 0)]

/-- Table 08-15: the ranges of a SYNC word. -/
def SyncOp.ok (x : SyncOp) : Bool :=
  decide (1 ≤ x.increment) &&
    (if x.targetKind = 0 then decide (x.gallery ≤ 2) && decide (x.tile ≤ 95)
     else x.wing == 0 && x.gallery == 0 && decide (x.tile ≤ 15))

def readSync (w : Nat) : Option SyncOp :=
  match unpack [1, 4, 8, 1, 2, 7, 57] w with
  | [kind, tok, inc, wing, gallery, tile, 0] =>
    let x : SyncOp := { targetKind := kind, tok := tok, increment := inc, wing := wing, gallery := gallery, tile := tile }
    if x.ok then some x else none
  | _ => none

def SyncOp.bits (x : SyncOp) : Nat :=
  pack [(1, x.targetKind), (4, x.tok), (8, x.increment), (1, x.wing), (2, x.gallery), (7, x.tile), (57, 0)]

/-! ### Words (Tables 08-4, 08-5) -/

/-- Table 08-5: the operation that an opcode and its operands spell. -/
def readOp (opcode w : Nat) : Option TileOp :=
  match opcode with
  | 0x10 => (readPass 0x10 w).map .mma
  | 0x11 => (readPass 0x11 w).map .sel
  | 0x12 => (readPass 0x12 w).map .dist
  | 0x20 => (readFeed w).map .feed
  | 0x21 => (readDrain w).map .drain
  | 0x30 => (readPost w).map .post
  | 0x31 => (readTree w).map .tree
  | 0x40 => (readMove false w).map .load
  | 0x41 => (readMove true w).map .store
  | 0x42 => (readState w).map .state
  | 0x43 => (readReduce w).map .reduce
  | 0x50 => (readSync w).map .sync
  | 0x51 =>
    match unpack [4, 8, 68] w with
    | [tok, count, 0] => if 1 ≤ count then some (.wait tok count) else none
    | _ => none
  | 0x60 =>
    match unpack [32, 48] w with
    | [value, 0] => some (.mark value)
    | _ => none
  | _ => none

/-- R332: reads a word of 128 bits; none where the word faults when it issues. -/
def readWord (w : Nat) : Option TileWord :=
  match unpack [8, 1, 4, 1, 4, 1, 1, 12, 12, 4, 80] w with
  | [opcode, we, wt, se, st, trace, last, layer, op, 0, operands] =>
    (readOp opcode operands).map (fun o =>
      { waitEn := we, waitTok := wt, sigEn := se, sigTok := st, trace := trace, last := last, layer := layer, opId := op, op := o })
  | _ => none

/-- Table 08-5. -/
def TileOp.opcode : TileOp → Nat
  | .mma _ => 0x10 | .sel _ => 0x11 | .dist _ => 0x12 | .feed _ => 0x20 | .drain _ => 0x21 | .post _ => 0x30
  | .tree _ => 0x31 | .load _ => 0x40 | .store _ => 0x41 | .state _ => 0x42 | .reduce _ => 0x43 | .sync _ => 0x50
  | .wait _ _ => 0x51 | .mark _ => 0x60

/-- The operand bits of an operation. -/
def TileOp.bits : TileOp → Nat
  | .mma p => p.bits | .sel p => p.bits | .dist p => p.bits | .feed f => f.bits | .drain d => d.bits | .post p => p.bits
  | .tree t => t.bits | .load m => m.bits | .store m => m.bits | .state x => x.bits | .reduce r => r.bits
  | .sync x => x.bits
  | .wait tok count => pack [(4, tok), (8, count), (68, 0)]
  | .mark value => pack [(32, value), (48, 0)]

/-- The 128 bits of a word. -/
def TileWord.bits (t : TileWord) : Nat :=
  pack [(8, t.op.opcode), (1, t.waitEn), (4, t.waitTok), (1, t.sigEn), (4, t.sigTok), (1, t.trace), (1, t.last), (12, t.layer),
    (12, t.opId), (4, 0), (80, t.op.bits)]

/-- Table 08-3: the engine that executes an operation. -/
def TileOp.engine : TileOp → Nat
  | .feed f => 1 + f.array
  | .mma p => 3 + p.array
  | .sel p => 3 + p.array
  | .dist p => 3 + p.array
  | .drain d => 5 + d.array
  | .post _ => 7
  | .tree _ => 7
  | .load _ => 8
  | .store _ => 8
  | .sync _ => 8
  | .state _ => 9
  | .reduce _ => 10
  | .wait _ _ => 0
  | .mark _ => 0

/-- The operation fits its fields and keeps the ranges of Tables 08-6 to 08-15. -/
def TileOp.spelt : TileOp → Bool
  | .mma p => p.ok 0x10 && p.wf
  | .sel p => p.ok 0x11 && p.wf
  | .dist p => p.ok 0x12 && p.wf
  | .feed f => f.ok && f.wf
  | .drain d => d.ok && d.wf
  | .post p => p.ok && p.wf
  | .tree t => t.wf
  | .load m => m.ok false && m.wf
  | .store m => m.ok true && m.wf
  | .state x => x.ok && x.wf
  | .reduce r => r.ok && r.wf
  | .sync x => x.ok && x.wf
  | .wait tok count => fits 4 tok && decide (1 ≤ count) && fits 8 count
  | .mark value => fits 32 value

/-- A word that the tables can spell. -/
def TileWord.spelt (t : TileWord) : Bool := t.wf && t.op.spelt

end Sys2Proof.Machine
end

