-- ==== Sys2Proof/Machine/Residence.lean ====
section
/-!
DEFINITION. Machine/Residence.lean: places of tiles, and resident images (chapter 13): the canonical placement, relocation,
the areas of a tile, control sets, and when an image becomes resident.
-/
namespace Sys2Proof.Machine

/-! ### Places (Table 21-3, R311, R490) -/

/-- The instance of a tile. -/
def tileIx (w g t : Nat) : Nat := 512 * w + 128 * g + t

/-- The Wing of a tile instance. -/
def tileWing (i : Nat) : Nat := i / 512 % 2

/-- The quarter-Gallery of a tile instance, as a bit of Table 17-11. -/
def tileQuarter (i : Nat) : Nat := 4 * (i / 128 % 4) + i % 128 / 24

/-- A tile; it holds its contents at tile start until something changes them. -/
def State.tile (s : State) (i : Nat) : Tile := mget {} s.tiles i

/-- Replaces a tile. -/
def State.setTile (s : State) (i : Nat) (t : Tile) : State := { s with tiles := mput s.tiles i t }

/-- Changes a tile. -/
def State.modTile (s : State) (i : Nat) (f : Tile → Tile) : State := s.setTile i (f (s.tile i))

/-- One of a tile's two arrays (R310). -/
def Tile.arr (t : Tile) (a : Nat) : MatArray := if a = 0 then t.arr0 else t.arr1

/-- Replaces an array. -/
def Tile.setArr (t : Tile) (a : Nat) (x : MatArray) : Tile := if a = 0 then { t with arr0 := x } else { t with arr1 := x }

/-- Replaces an array of a tile. -/
def State.setArr (s : State) (i a : Nat) (x : MatArray) : State := s.modTile i (fun t => t.setArr a x)

/-- Bytes of a tile memory (R311). -/
def tileBytes : Nat := 6291456

/-- A partition or context holds a tile's quarter-Gallery. -/
def State.ownsTile (s : State) (p i : Nat) : Bool :=
  (s.partOf p).state != .unconfigured && bitOf ((s.partOf p).quartersOn (tileWing i)) (tileQuarter i)

/-- Bytes of a tile memory. -/
def State.tileRead (s : State) (i a n : Nat) : Bytes := memRead (s.tile i).mem a n

/-- Stores bytes in a tile memory. -/
def State.tileWrite (s : State) (i a : Nat) (bs : Bytes) : State := s.modTile i (fun t => { t with mem := memWrite t.mem a bs })

/-! ### The canonical placement (R489, R490) -/

/-- The quarter-Galleries of a partition on a Wing, in ascending order. -/
def Partition.quarterList (x : Partition) (w : Nat) : List Nat := (List.range 12).filter (fun q => bitOf (x.quartersOn w) q)

/-- R490: the tile of a Wing on which canonical tile `c` runs. -/
def Partition.place (x : Partition) (w c : Nat) : Option Nat :=
  ((x.quarterList w)[c / 24]?).map (fun q => tileIx w (q / 4) (24 * (q % 4) + c % 24))

/-- R490: the canonical tile that runs on a tile of the partition. -/
def Partition.canonical (x : Partition) (i : Nat) : Option Nat :=
  ((x.quarterList (tileWing i)).findIdx? (fun q => q == tileQuarter i)).map (fun k => 24 * k + i % 128 % 24)

/-- R490: the Gallery and logical tile of an image's TILE address or SYNC target, mapped; canonical tile c stands in an image as
tile c mod 96 of Gallery c ÷ 96. -/
def Partition.mapped (x : Partition) (w g t : Nat) : Nat × Nat :=
  match x.place w (96 * g + t) with
  | some i => (i / 128 % 4, i % 128)
  | none => (g, t)

/-- R490: a move word whose TILE address is mapped. -/
def Partition.mapMove (x : Partition) (m : MoveOp) : MoveOp :=
  if m.kind = 0 then
    let r := x.mapped (m.remote % 2) (bitsOf m.remote 1 2) (bitsOf m.remote 3 7)
    { m with remote := m.remote % 2 + 2 * r.1 + 8 * r.2 + 1024 * (m.remote / 1024) }
  else m

/-- R490: a word that RELOC lists, mapped. -/
def Partition.mapWord (x : Partition) (t : TileWord) : TileWord :=
  match t.op with
  | .load m => { t with op := .load (x.mapMove m) }
  | .store m => { t with op := .store (x.mapMove m) }
  | .sync y =>
    if y.targetKind = 0 then
      let r := x.mapped y.wing y.gallery y.tile
      { t with op := .sync { y with gallery := r.1, tile := r.2 } }
    else t
  | _ => t

/-! ### Areas and fills (R491, R492, R499, R500, R690) -/

/-- R491: the first byte of the high area. -/
def areaBytes : Nat := 3145728

/-- R690: a context holds the high area of a tile. -/
def Partition.highOn (x : Partition) (i : Nat) : Bool := bitOf x.highMask (tileQuarter i)

/-- R491, R692: the image of a slot lies in the high area of a tile. -/
def State.imageHigh (s : State) (p n i : Nat) : Bool :=
  if s.is4840 then (s.partOf p).highOn i else ((s.partOf p).slot n).high

/-- Base of an area in bytes. -/
def areaBase (high : Bool) : Nat := if high then areaBytes else 0

/-- What an image holds for a tile of the partition. -/
def Partition.tileImage (x : Partition) (img : Image) (i : Nat) : Option TileImage :=
  (x.canonical i).bind (fun c => img.tiles.find? (fun t => t.wing == tileWing i && t.ctile == c))

/-- R691: some byte of an access lies in a bank that is tagged for another context. -/
def State.foreignBank (s : State) (i p lo len : Nat) : Bool :=
  let held := fun (high : Bool) => (List.range 16).any (fun q => q != p && s.ownsTile q i && (s.partOf q).highOn i == high)
  s.is4840 && decide (0 < len) &&
    ((decide (lo < areaBytes) && held false) || (decide (areaBytes < lo + len) && held true))

/-- R691: the device's own writes for a partition or context reach no bank that is tagged for another one (log entry 217). -/
def State.ownWrite (s : State) (p i a : Nat) (bs : Bytes) : State :=
  if s.foreignBank i p a bs.length then s else s.tileWrite i a bs

/-- R490: the loader rewrites the word at a byte address of a tile. -/
def State.relocWord (s : State) (p i a : Nat) : State :=
  match readWord (leNat (s.tileRead i a 16)) with
  | some t => s.ownWrite p i a (leBytes 16 ((s.partOf p).mapWord t).bits)
  | none => s

/-- R490, R500: the fill path writes an image's bytes for a tile, mapped. -/
def State.fillTile (s : State) (p i base : Nat) (t : TileImage) : State :=
  let s := t.fill.foldl (fun s f => s.ownWrite p i (base + f.1) f.2) s
  t.reloc.foldl (fun s a => s.relocWord p i (base + 16 * a)) s

/-- R352, R490: the tile that a member of a group names: mapped where RELOC lists the member, else as the image has it. -/
def Partition.member (x : Partition) (m : GroupMember) : Nat :=
  let own := tileIx m.wing (m.ctile / 96) (m.ctile % 96)
  if m.reloc then (x.place m.wing m.ctile).getD own else own

/-- R329, R492, R499: the control set of a tile's image, for an epoch once one uses it; a wide-table entry of 0 is no entry. -/
def Partition.controlSet (x : Partition) (t : TileImage) (base : Nat) (epoch : Option Nat) : ControlSet :=
  { epoch := epoch, base := base, entries := t.entries.map (· + base / 16)
    wide := (t.wide.filter (fun e => e.2 != 0)).map (fun e => (e.1, e.2 + base / 16))
    scaleBlock := t.scaleBlock, sites := t.sites, groups := t.groups.map (fun g => g.map x.member), windows := t.windows }

/-- R499: a full-size image uses control set 0, a half-fit one the set of its area. -/
def Tile.setControl (t : Tile) (high : Bool) (c : Option ControlSet) : Tile := if high then { t with ctl1 := c } else { t with ctl0 := c }

/-- Makes the image of a slot resident in one tile. -/
def State.placeTile (s : State) (p n : Nat) (epoch : Option Nat) (i : Nat) : State :=
  let x := s.partOf p
  match (x.slot n).image with
  | none => s
  | some img =>
    match x.tileImage img i with
    | none => s
    | some t =>
      let high := s.imageHigh p n i
      let s := s.fillTile p i (areaBase high) t
      let s := s.modTile i (fun y => y.setControl high (some (x.controlSet t (areaBase high) epoch)))
      if img.halfFit then s else s.modTile i (fun y => { y with ctl1 := none })

/-- The tiles of the i-th quarter of a partition on every Wing (R490, R510). -/
def State.quarterTiles (s : State) (p k : Nat) : List Nat :=
  (List.range s.wings).flatMap (fun w => (List.range 24).filterMap (fun c => (s.partOf p).place w (24 * k + c)))

/-- Every tile of a partition. -/
def State.partTiles (s : State) (p : Nat) : List Nat :=
  (List.range ((s.partOf p).quarterCount 0)).flatMap (fun k => s.quarterTiles p k)

/-- R499: the image of a slot becomes resident in every tile. -/
def State.placeImage (s : State) (p n : Nat) (epoch : Option Nat) : State :=
  (s.partTiles p).foldl (fun s i => s.placeTile p n epoch i) s

/-- R499: the control sets of a slot's resident image take an epoch's tag, or lose it. -/
def State.tagControls (s : State) (p n : Nat) (epoch : Option Nat) : State :=
  (s.partTiles p).foldl (fun s i =>
    let high := s.imageHigh p n i
    s.modTile i (fun y =>
      let c := if high then y.ctl1 else y.ctl0
      y.setControl high (c.map (fun k => { k with epoch := epoch })))) s

/-- Changes an image slot. -/
def State.modSlot (s : State) (p n : Nat) (f : ImageSlot → ImageSlot) : State :=
  s.modPart p (fun x => x.setSlot n (f (x.slot n)))

/-- R809: the 64-byte unit of a tile is rewritten from the image area where it holds bytes of a resident image. -/
def State.refillUnit (s : State) (i u : Nat) : State :=
  let one := fun (s : State) (p n : Nat) =>
    let x := s.partOf p
    match (x.slot n).resident, (x.slot n).image.bind (fun img => x.tileImage img i) with
    | true, some t =>
      let base := areaBase (s.imageHigh p n i)
      let s := t.fill.foldl (fun s f =>
        let lo := max (base + f.1) (64 * u)
        let hi := min (base + f.1 + f.2.length) (64 * u + 64)
        if lo < hi then s.ownWrite p i lo (slice f.2 (lo - (base + f.1)) (hi - lo)) else s) s
      (t.reloc.filter (fun a => (base + 16 * a) / 64 == u)).foldl (fun s a => s.relocWord p i (base + 16 * a)) s
    | _, _ => s
  ((List.range s.partsN).filter (fun p => s.ownsTile p i)).foldl (fun s p => one (one s p 0) p 1) s

/-- R499: whether an image that has been checked becomes resident, and in the high area rather than the low one; a half-fit
image of the other slot that is resident keeps its area, and one that a staged fill copies in has the low area (R511). -/
def State.residence (s : State) (p n : Nat) (img : Image) : Option Bool :=
  let x := s.partOf p
  let o := x.slot (1 - n)
  let half := img.halfFit && (o.image.map (·.halfFit)).getD false
  let running := x.slot0.state == .running || x.slot1.state == .running
  if s.is4840 then (if running || (o.state == .armed && o.resident) then none else some false)
  else if running then (if o.state == .running && half then some (if o.resident then !o.high else true) else none)
  else if o.resident && half then some (!o.high)
  else if o.state == .armed && o.resident then none
  else some false

/-- R499: the image of a slot becomes resident; a READY image whose area it takes ceases to be. -/
def State.makeResident (s : State) (p n : Nat) (high : Bool) (epoch : Option Nat) : State :=
  let x := s.partOf p
  let o := x.slot (1 - n)
  let half := ((x.slot n).image.map (·.halfFit)).getD false && (o.image.map (·.halfFit)).getD false
  let apart := half && !s.is4840 && o.high != high
  let s := if o.resident && !apart then s.modSlot p (1 - n) (fun y => { y with resident := false }) else s
  (s.modSlot p n (fun y => { y with resident := true, high := high })).placeImage p n epoch

end Sys2Proof.Machine
end

