-- ==== Sys2Proof/Machine/Scales.lean ====
section
/-!
DEFINITION. Machine/Scales.lean: control sets and base registers of a batch (R492, R501), and the scales of its dynamic sites (R429,
R433, R435).
-/
namespace Sys2Proof.Machine

/-- The control set that a batch's epoch selects (R501). -/
def Tile.control (t : Tile) (epoch : Nat) : Option ControlSet :=
  match t.ctl0 with
  | some c => if c.epoch = some epoch then some c else (match t.ctl1 with | some d => if d.epoch = some epoch then some d else none | none => none)
  | none => match t.ctl1 with | some d => if d.epoch = some epoch then some d else none | none => none

/-- R429: the statistics batch of a stamp. -/
def SlotCfg.statOf (c : SlotCfg) (t : Nat) : Nat := t / (16000 * max 1 c.statLength)

/-! ### Scales of dynamic sites (R433 to R435) -/

/-- R433: the running maximum of a site for statistics batch `n`, over the `k` batches of length `len` from `m` on. -/
def runMax (maxima : Tab Nat) (site : SiteCfg) (len f : Nat) : Nat → Int → F32 → F32
  | 0, _, acc => acc
  | k + 1, m, acc =>
    let v := if m < (f : Int) then site.initMax else BitVec.ofNat 32 (mget 0 maxima (statKey len m.toNat site.index))
    runMax maxima site len f k (m + 1) (fMax acc [v])

/-- R433: scale and inverse of a site. -/
def siteScale (maxima : Tab Nat) (site : SiteCfg) (len f n : Nat) : F32 × F32 :=
  let r := fMax (runMax maxima site len f site.window ((n : Int) - site.window - 1) 0) [site.floorMax]
  let s := fDiv (fMul r site.margin) site.target
  let s := fMin (fMax s [0x0D800000#32]) [0x71800000#32]
  (s, fDiv fOne s)

/-- Table 11-5: the scale block of a batch. -/
def State.scaleBlock (s : State) (b : Batch) (c : SlotCfg) : Bytes :=
  let maxima := mget [] s.hall.maxima (4 * b.partition + b.modelSlot)
  let f := c.statOf ((s.partOf b.partition).switchOf b.epoch)
  (List.range 16).flatMap (fun d =>
    match c.sites.find? (fun x => x.index == d) with
    | some x => let v := siteScale maxima x c.statLength f b.stat; leBytes 4 v.1.toNat ++ leBytes 4 v.2.toNat
    | none => zeroBytes 8)

/-- R492: the base of the area that holds the batch's image on a tile, in 64-byte units. -/
def State.areaUnits (s : State) (b : Batch) (i : Nat) : Nat := areaBase (s.imageHigh b.partition b.imageSlot i) / 64

/-- R314: the base registers that the batch's descriptor loads on a tile. -/
def State.baseRegs (s : State) (b : Batch) (i : Nat) : List Nat := 0 :: b.place.bases.map (fun x => x + s.areaUnits b i)

/-- R435: the scale block is in a tile's memory before the descriptor arrives. -/
def State.writeScales (s : State) (i : Nat) (b : Batch) (c : SlotCfg) : State :=
  if c.sites.isEmpty then s
  else
    match (s.tile i).control b.epoch with
    | none => s
    | some ctl =>
      s.ownWrite b.partition i (64 * (((s.baseRegs b i)[ctl.scaleBlock % 8]?).getD 0 + ctl.scaleBlock / 8)) (s.scaleBlock b c)

end Sys2Proof.Machine
end

