-- ==== Sys2Proof/Machine/TileOps.lean ====
section
/-!
DEFINITION. Machine/TileOps.lean: what every word of a tile program shares (chapter 08): references, tokens, fetch and issue,
completion, faults of a batch, and attribution.
-/
namespace Sys2Proof.Machine

/-! ### Batches of a tile -/

/-- The number of a batch in the model: its batch_id with the home Wing of its packets (log entry 195). -/
def batchNumber (w id : Nat) : Nat := id % 65536 + 65536 * w

/-- The home Wing of a batch's packets. -/
def batchHome (id : Nat) : Nat := id / 65536 % 2

/-- A batch. -/
def State.batchOf (s : State) (id : Nat) : Option Batch := mfind (s.wing (batchHome id)).batches id

/-- Replaces a batch. -/
def State.setBatch (s : State) (id : Nat) (b : Batch) : State :=
  let x := s.wing (batchHome id)
  s.setWing (batchHome id) { x with batches := mput x.batches id b }

/-- The batch has gone. -/
def State.dropBatch (s : State) (id : Nat) : State :=
  let x := s.wing (batchHome id)
  s.setWing (batchHome id) { x with batches := mdel x.batches id }

/-- The batches of both Wings (R22: a tile runs batches of either). -/
def State.allBatches (s : State) : Tab Batch := s.wing0.batches ++ s.wing1.batches

/-- R360: an aborted batch still holds the tile. -/
def State.quiescing (s : State) (i : Nat) : Bool :=
  s.allBatches.any (fun e => e.2.aborted && e.2.place.tiles.contains i && !e.2.quiesced.contains i)

/-- The tile's engines run. -/
def State.tileRuns (s : State) (i : Nat) : Bool := s.wingFree (tileWing i) && !s.quiescing i

/-! ### Counters of a batch's work (R39, R420, R452, R480) -/

/-- R480: work of a rollout changes no counter outside Table 12-10. -/
def State.countFor (s : State) (b : Batch) (id n : Nat) : State := if b.graph = .rollout then s else s.bumpFor b.partition id n

/-- A counter attributed to a word's layer_id and op_id (R420, R452). -/
def Issued.key (q : Issued) (id : Nat) : Nat := wordKey id (layerTag q.word.layer q.word.opId)

/-- R420, R452, R480: a word's fault counts at once, as the squash counters do. -/
def State.countFault (s : State) (b : Batch) (q : Issued) (id : Nat) : State :=
  if b.graph = .rollout then s else s.addCount b.partition (q.key id) 1

/-- Adds counts, by `wordKey`, to a table of counts. -/
def addCounts (t : Tab Nat) (l : List (Nat × Nat)) : Tab Nat :=
  (l.filter (fun e => e.2 != 0)).foldl (fun t e => mput t e.1 (mget 0 t e.1 + e.2)) t

/-- R39, R480: counts of a batch's word that no row owns wait with the batch. -/
def State.countBatch (s : State) (id : Nat) (l : List (Nat × Nat)) : State :=
  match s.batchOf id with
  | some b => if b.graph = .rollout then s else s.setBatch id { b with counts := addCounts b.counts l }
  | none => s

/-! ### References (R314, R315, R691) -/

/-- R314: the byte address of a reference under the bases of an issued word. -/
def Issued.ref (q : Issued) (r : Nat) : Nat := 64 * ((q.bases[r % 8]?).getD 0 + r / 8)

/-- R351: some byte of an access is write-locked. -/
def State.lockedAt (s : State) (i lo len : Nat) : Bool :=
  (s.tile i).locks.any (fun l => decide (lo < l.hi) && decide (l.lo < lo + len))

/-- What comes of a word: it waits without starting, it has started and waits, it faults with a squash cause of Table 07-3, or its
effect is complete. -/
inductive WordOut where
  | wait
  | hold
  | fault (s : State) (cause : Nat)
  | done (s : State)
  deriving DecidableEq, Repr

/-- R315, R691: the accesses of a word lie in tile memory and in banks of its context; each is an address and a length. -/
def State.guarded (s : State) (i p : Nat) (xs : List (Nat × Nat)) (k : WordOut) : WordOut :=
  if xs.any (fun x => decide (tileBytes < x.1 + x.2)) then .fault s 4
  else if xs.any (fun x => s.foreignBank i p x.1 x.2) then .fault (s.setStickyIn (16 + i) 120) 4
  else k

/-- R351: a word waits while an address that it writes is write-locked. -/
def State.unlocked (s : State) (i : Nat) (xs : List (Nat × Nat)) (k : WordOut) : WordOut :=
  if xs.any (fun x => s.lockedAt i x.1 x.2) then .wait else k

/-! ### Attribution (R769) -/

/-- R769: the entry of a key, one that takes a free place where there is none. -/
def attrMod (l : List AttrRec) (c layer op : Nat) (f : AttrRec → AttrRec) : List AttrRec :=
  if l.any (fun r => r.context == c && r.layer == layer && r.op == op) then
    l.map (fun (r : AttrRec) => if r.context = c ∧ r.layer = layer ∧ r.op = op then f r else r)
  else if l.length < 512 then l ++ [f { context := c, layer := layer, op := op }]
  else l

/-- R480, R769: the attribution store of a tile; a rollout's work does not change it. -/
def State.attribute (s : State) (i : Nat) (b : Batch) (x : TileWord) (f : AttrRec → AttrRec) : State :=
  if b.graph = .rollout then s
  else { s with obs := { s.obs with attr := mput s.obs.attr i (attrMod (mget [] s.obs.attr i) b.partition x.layer x.opId f) } }

/-- The words of an engine's queue. -/
def Tile.queue (t : Tile) (e : Nat) : List Issued := mget [] t.queues e

/-- R769: the words of a batch that a tile's engines stall on take their entries. -/
def State.attributeHeads (s : State) (id : Nat) (b : Batch) : State :=
  b.place.tiles.foldl (fun (s : State) i =>
    (List.range 11).foldl (fun (s : State) e =>
      match ((s.tile i).queue e).head? with
      | some q => if q.batch = id then s.attribute i b q.word (fun r => r) else s
      | none => s) s) s

/-! ### Squash of a batch, abandonment (R359, R813) -/

/-- Packets of a batch that are still in it. -/
def Wing.rowStairs (x : Wing) (id : Nat) : List Stair := x.stairs.filter (fun y => y.batch == some id)

/-- R813: a packet of an abandoned batch: its uncommitted work is discarded and it waits for its `late` default. -/
def State.abandonPacket (s : State) (w : Nat) (y : Stair) (cause : Nat) : State :=
  let s := s.countSquash w y cause
  let s := s.bump (ctrOnWing w (Ctr.partAbandoned y.pkt.partition))
  let z := { y.discarded s.nt with abandoned := true }
  ((s.setWing w (((s.wing w).setStair z).cascade y.pkt.id)).dropLocks w y.pkt.id).chooseAll w

/-- R359 to R361, R813: a batch faults: it is aborted on every tile that runs it and its packets are to be squashed; the
eighth fault of its re-issues in succession abandons it. `excused` holds for the causes that R813 does not count. -/
def State.faultBatch (s : State) (id cause : Nat) (excused : Bool) : State :=
  match s.batchOf id with
  | none => s
  | some b =>
    if b.aborted then s
    else
      let w := batchHome id
      let faults := if 2 ≤ b.issues ∧ ¬ excused then b.faults + 1 else b.faults
      let left := decide (8 ≤ faults)
      let s := (s.attributeHeads id b).setBatch id { b with aborted := true, quiesced := [], faults := faults, abandoned := left }
      let s := s.fire 4 (b.place.tiles.map (fun i => 16 + i))
      let rows := (s.wing w).rowStairs id
      if left then rows.foldl (fun s y => s.abandonPacket w y cause) (s.setStickyIn (1 + w) 161)
      else
        rows.foldl (fun s y =>
          if y.squash = none ∧ y.state ≠ .squashed then s.setStair w { y with squash := some cause } else s) s

/-- Every batch in flight on a tile faults (R313, R321). -/
def State.faultAll (s : State) (i cause : Nat) (excused : Bool) : State :=
  (s.allBatches.filter (fun e => e.2.sent && e.2.place.tiles.contains i && !e.2.ended.contains i)).foldl
    (fun s e => s.faultBatch e.1 cause excused) s

/-! ### Tokens (R318 to R323) -/

/-- The count of a token. -/
def Tile.token (t : Tile) (k : Nat) : Nat := mget 0 t.tokens k

/-- The engine that executes a word, among those of all tiles. -/
def Issued.actor (q : Issued) (i : Nat) : Nat := 16 * i + q.word.op.engine

/-- R320, log entry 216: the tile's cycle in which engine `a` acts on a token: the one that runs, or a later one where NT has moved or
the engine has acted in it already. -/
def Tile.inCycle (t : Tile) (nt a : Nat) : Tile :=
  if t.takenNt = nt ∧ ¬ t.acted.contains a then { t with acted := a :: t.acted }
  else { t with takenNt := nt, acted := [a], taken := [] }

/-- R320, R321: a token rises by `n`; beyond 255, before the decrements of the cycle, every batch in flight on the tile faults. -/
def State.addToken (s : State) (i a k n : Nat) : State :=
  let t := (s.tile i).inCycle s.nt a
  if 255 < t.token k + mget 0 t.taken k + n then (s.setTile i t).faultAll i 4 false
  else s.setTile i { t with tokens := mput t.tokens k (t.token k + n) }

/-- Engine `a` takes `n` from a token that holds them. -/
def State.takeToken (s : State) (i a k n : Nat) : State :=
  let t := (s.tile i).inCycle s.nt a
  s.setTile i { t with
    tokens := mput t.tokens k (t.token k - n), taken := mput t.taken k (mget 0 t.taken k + n) }

/-- R317: the first word of a queue that has not started, and its place. -/
def nextUnstarted : Nat → List Issued → Option (Nat × Issued)
  | _, [] => none
  | n, q :: r => if q.started then nextUnstarted (n + 1) r else some (n, q)

/-- The word of an engine that starts next: the sequencer's, the first that has not started of a DRAIN engine (R317), the head of
any other queue. -/
def Tile.nextWord (t : Tile) (e : Nat) : Option Issued :=
  if e = 0 then t.seqWord
  else if e = 5 ∨ e = 6 then (nextUnstarted 0 (t.queue e)).map (·.2)
  else (t.queue e).head?.bind (fun q => if q.started then none else some q)

/-- What a word needs of a token to start and go on: its wait (R318), and what WAIT (R323) and REDUCE (R358) subtract. -/
def Issued.demand (q : Issued) (k : Nat) : Nat :=
  (if q.word.waitEn = 1 ∧ q.word.waitTok = k ∧ q.started = false then 1 else 0) +
    match q.word.op with
    | .wait tok count => if tok = k then count else 0
    | .reduce r => if r.arriveTok = k then r.countMinus1 + 1 else 0
    | _ => 0

/-- R320: what a token has left for engine `e` once the engines with lower codes have taken what their next words need. -/
def Tile.spare (t : Tile) (k e : Nat) : Nat :=
  (List.range e).foldl (fun r d =>
    match t.nextWord d with
    | some q => if q.demand k ≤ r then r - q.demand k else r
    | none => r) (t.token k)

/-- R318, R320: the wait of engine `e`'s word is satisfied. -/
def State.tokenReady (s : State) (i e : Nat) (q : Issued) : Bool :=
  q.word.waitEn == 0 || decide (1 ≤ (s.tile i).spare q.word.waitTok e)

/-- R318, R769: the word starts. -/
def State.startWord (s : State) (i : Nat) (q : Issued) : State :=
  let s := match s.batchOf q.batch with
    | some b => s.attribute i b q.word (fun r => r)
    | none => s
  if q.word.waitEn = 0 then s else s.takeToken i (q.actor i) q.word.waitTok 1

/-! ### Fetch and issue (R316, R326 to R332, R445) -/

/-- Where the program counter stands once the main segment has been issued whole. -/
def endPc : Nat := 1048576

/-- Table 08-5: STORE, STATE, SYNC or REDUCE, which a wide segment must not hold (R445). -/
def TileOp.leaves : TileOp → Bool
  | .store _ => true
  | .state _ => true
  | .sync _ => true
  | .reduce _ => true
  | _ => false

/-- Table 08-13, Table 08-15: the Wing that a word names. -/
def TileOp.wing : TileOp → Nat
  | .load m => if m.kind = 0 then m.remote % 2 else 0
  | .store m => if m.kind = 0 then m.remote % 2 else 0
  | .sync x => x.wing
  | _ => 0

/-- POST with sub-op CHECK. -/
def TileOp.isCheck : TileOp → Bool
  | .post p => p.subOp == 4
  | _ => false

/-- R332, R445: the word faults when it issues. -/
def State.issueFaults (s : State) (t : Tile) (x : TileWord) : Bool :=
  (t.ret.isSome && x.op.leaves) || (s.is4840 && x.op.wing != 0)

/-- R326, R328: where issue goes on after a word. -/
def Tile.advance (t : Tile) (x : TileWord) : Tile :=
  if x.last = 0 then { t with pc := t.pc + 1 }
  else
    match t.ret with
    | some r => { t with pc := r, ret := none }
    | none => { t with pc := endPc }

/-- R691: the program word at `pc` lies in a bank that is tagged for another context than that of the batch. -/
def State.foreignFetch (s : State) (i id pc : Nat) : Bool :=
  match s.batchOf id with
  | some b => s.foreignBank i b.partition (16 * pc) 16
  | none => false

/-- R316: the sequencer issues its next word, if it can; the flag says that it has gone on. -/
def State.issueOne (s : State) (i : Nat) : State × Bool :=
  let t := s.tile i
  match t.cur with
  | none => (s, false)
  | some id =>
    if t.checkWait || t.seqWord.isSome then (s, false)
    else if endPc ≤ t.pc then (s.setTile i { t with cur := none }, false)
    else
      match readWord (leNat (memRead t.mem (16 * t.pc) 16)) with
      | none => (s.faultBatch id 4 false, false)
      | some x =>
        if tileBytes < 16 * t.pc + 16 ∨ s.issueFaults t x then (s.faultBatch id 4 false, false)
        else if s.foreignFetch i id t.pc then ((s.setStickyIn (16 + i) 120).faultBatch id 4 false, false)
        else
          let q : Issued := { word := x, batch := id, wide := t.ret.isSome, bases := t.bases }
          let e := x.op.engine
          if e = 0 then (s.setTile i { t.advance x with seqWord := some q }, true)
          else if 8 ≤ (t.queue e).length then (s, false)
          else
            (s.setTile i { t.advance x with
              queues := mput t.queues e (t.queue e ++ [q]), checkWait := x.op.isCheck }, true)

/-- R316: the sequencer issues words until it has to wait: at most ten queues of eight words take any. -/
def pump (i : Nat) : Nat → State → State
  | 0, s => s
  | n + 1, s =>
    let r := s.issueOne i
    if r.2 then pump i n r.1 else r.1

/-- The sequencer of a tile issues what it can. -/
def State.pump (s : State) (i : Nat) : State := Machine.pump i 96 s

/-! ### Completion (R319, R326, R453, R456, R479) -/

/-- Words and passes of a batch on a tile. -/
def Tile.holds (t : Tile) (id : Nat) : Bool :=
  t.cur == some id || t.descs.contains id || t.queues.any (fun e => e.2.any (fun q => q.batch == id)) ||
    (t.arr0.live ++ t.arr1.live).any (fun p => p.issued.batch == id && !p.completed) ||
    (match t.seqWord with | some q => q.batch == id | none => false)

/-- The stages of a batch's graph. -/
def Batch.stages (b : Batch) (c : SlotCfg) : List StageCfg :=
  match b.graph with
  | .main => c.main
  | .noFlow => c.noFlow
  | .rollout => c.rollout

/-- The model slot of a batch. -/
def State.batchCfg (s : State) (b : Batch) : Option (Image × SlotCfg) :=
  ((s.partOf b.partition).image b.imageSlot).bind (fun i => (i.modelSlot b.modelSlot).map (fun c => (i, c)))

/-- A batch's descriptor reaches its tiles (R325). -/
def State.sendDescs (s : State) (id : Nat) (tiles : List Nat) : State :=
  tiles.foldl (fun s i => s.modTile i (fun t => { t with descs := t.descs ++ [id] })) s

/-- R394, R395, R479, log entry 42: the forecast values that a step has left for row `r` in the memory of the first tile of its last stage. -/
def State.forecastOf (s : State) (b : Batch) (width r : Nat) : List (BitVec 16) :=
  let i := b.place.tiles.headD 0
  let a := 64 * (b.place.forecastAt + s.areaUnits b i) + 64 * ((2 * width + 63) / 64) * r
  (List.range width).map (fun k => toBf16 (Bf16.f32 (BitVec.ofNat 16 (leAt (s.tileRead i (a + 2 * k) 2) 0 2))))

/-- R479: the forecasts of a rollout batch behind one more step. -/
def State.stepForecast (s : State) (b : Batch) (width : Nat) : List (List (BitVec 16)) :=
  (List.range b.rows.length).map (fun r => (b.forecast[r]?).getD [] ++ s.forecastOf b width r)

/-- R435, R479: a rollout batch goes on with its next stage or step; scale blocks are written before its descriptor. -/
def State.rolloutNext (s : State) (id : Nat) (b : Batch) (c : SlotCfg) : State :=
  let last := decide (c.rollout.length ≤ b.stage + 1)
  let steps := if last then b.steps + 1 else b.steps
  let b := if last then { b with forecast := s.stepForecast b c.rolloutCfg.width } else b
  if c.rolloutCfg.steps ≤ steps then s.setBatch id { b with steps := steps, rolled := true }
  else
    let stage := if last then 0 else b.stage + 1
    match b.plan[stage]? with
    | none => s.setBatch id { b with steps := steps, rolled := true }
    | some pl =>
      let b := { b with stage := stage, steps := steps, place := pl, ended := [], stateIn := [], stateOut := [] }
      (pl.tiles.foldl (fun (s : State) i => s.writeScales i b c) (s.setBatch id b)).sendDescs id pl.tiles

/-- A packet's batch has completed: it waits for its next stage, and what the batch counted stands. -/
def Stair.nextStage (y : Stair) (nt : Nat) : Stair :=
  { y with
    stage := y.stage + 1, batch := none, since := nt, batchCounts := []
    counts := addCounts y.counts y.batchCounts }

/-- R39: the shared counts of a batch that has completed wait for the first of its packets to commit. -/
def State.shareCounts (s : State) (id : Nat) (b : Batch) : State :=
  if b.counts.isEmpty then s
  else
    let w := batchHome id
    let x := s.wing w
    s.setWing w { x with
      runs := mput x.runs x.runCtr b.counts, runCtr := x.runCtr + 1
      stairs := x.stairs.map (fun (y : Stair) => if y.batch = some id then { y with runs := y.runs ++ [x.runCtr] } else y) }

/-- R326, R456: a batch's program has completed on all its tiles. -/
def State.batchComplete (s : State) (i id : Nat) (b : Batch) : State :=
  let w := batchHome id
  match s.batchCfg b with
  | none => s.dropBatch id
  | some (_, c) =>
    if b.graph = .rollout then s.rolloutNext id b c
    else
      let rows := (s.wing w).rowStairs id
      if decide ((b.stages c).length ≤ b.stage + 1) && rows.any (fun y => y.verdict.isNone) then
        (s.bumpFor b.partition (Ctr.tileFaultVerdict i) 1).faultBatch id 4 false
      else
        let s := s.shareCounts id b
        let s := ((s.wing w).rowStairs id).foldl (fun (s : State) y => s.setStair w (y.nextStage s.nt)) s
        s.dropBatch id

/-- R326: the batch ends on a tile when every word of its program has completed; R443: counts left open are discarded. -/
def State.endCheck (s : State) (i id : Nat) : State :=
  let t := s.tile i
  match s.batchOf id with
  | none => s
  | some b =>
    if b.aborted || !b.sent || t.holds id || b.ended.contains i || !b.place.tiles.contains i then s
    else
      let b := { b with ended := i :: b.ended }
      let s := s.setTile i { t with clips := t.clips.filter (fun c => c.batch != id) }
      let s := s.setBatch id b
      if b.place.tiles.all (fun k => b.ended.contains k) then s.batchComplete i id b else s

/-! ### Trace of words (Table 21-9) -/

/-- Table 21-9, WORD: a word with trace 1 completes; the cycles that it took are a free value. -/
def State.traceWord (s : State) (i : Nat) (q : Issued) (b : Batch) : State :=
  if q.word.trace = 0 then s
  else
    (s.trace (16 + i) { kind := 1, engine := q.word.op.engine, context := b.partition, layer := q.word.layer, op := q.word.opId
                        nt := s.nt, arg0 := q.batch % 65536 + 65536 * q.word.op.opcode, arg1 := Config.freeNat s.free }).nextFree

/-- R319: a word completes: its signal, its trace record, its attribution. -/
def State.completeWord (s : State) (i : Nat) (q : Issued) (b : Batch) : State :=
  let s := if q.word.sigEn = 0 then s else s.addToken i (q.actor i) q.word.sigTok 1
  let s := s.traceWord i q b
  s.attribute i b q.word (fun r => { r with words := satAdd 4294967295 r.words 1 })

/-- The head of an engine's queue leaves it. -/
def State.popQueue (s : State) (i e : Nat) : State :=
  s.modTile i (fun t => { t with queues := mput t.queues e ((t.queue e).drop 1) })

/-! ### Errors of a tile's memories (R313, R809, R810) -/

/-- R810: one more corrected error of a bank. -/
def CorrCount.add (c : CorrCount) (second n : Nat) : CorrCount :=
  if c.second = second then { c with count := c.count + n }
  else
    let kept := decide (c.second + 1 = second) && decide (1000 < c.count)
    { second := second, count := n, run := if kept then c.run + 1 else 0 }

/-- R810: the bank has had more than 1,000 corrected errors in each of 10 consecutive seconds. -/
def CorrCount.due (c : CorrCount) : Bool := decide (10 ≤ c.run + if 1000 < c.count then 1 else 0)

/-- The error history of a tile. -/
def State.tileHealth (s : State) (i : Nat) : TileHealth := mget {} s.health.tiles i

/-- Replaces it. -/
def State.setTileHealth (s : State) (i : Nat) (h : TileHealth) : State :=
  { s with health := { s.health with tiles := mput s.health.tiles i h } }

/-- R311: the bank that holds a 64-byte unit of tile memory. -/
def bankOf (unit : Nat) : Nat := 64 * unit / 131072

/-- R313: the tile whose memory a word reads: the remote tile of a LOAD of kind TILE, the tile itself for any other word. -/
def TileOp.readTile (x : TileOp) (i : Nat) : Nat :=
  match x with
  | .load m => if m.kind = 0 then tileIx (m.remote % 2) (bitsOf m.remote 1 2) (bitsOf m.remote 3 7) else i
  | _ => i

/-- R313: the tile that errors are counted on: errors of a tile memory on the tile `j` whose memory was read. -/
def Ecc.at_ (ecc : Ecc) (i j : Nat) : Nat := if ecc.unit.isSome then j else i

/-- R313, R810: corrected errors of a tile; those of tile memory count for their bank too. -/
def State.countCorrected (s : State) (i : Nat) (ecc : Ecc) : State :=
  if ecc.corrected = 0 then s
  else
    let s := s.bumpN (Ctr.tileEccCorrected i) ecc.corrected
    match ecc.unit with
    | none => s
    | some u =>
      let h := s.tileHealth i
      let c := (mget {} h.corr (bankOf u)).add (s.nt / sec1) ecc.corrected
      s.setTileHealth i { h with corr := mput h.corr (bankOf u) c, due := h.due || c.due }

/-- R809, R810: an uncorrectable error of a tile. -/
def State.tileUncorrectable (s : State) (i : Nat) (ecc : Ecc) : State :=
  let h := s.tileHealth i
  let recent := s.nt :: h.uncorr.filter (fun t => decide (s.nt - t < sec1))
  let s := s.setTileHealth i { h with uncorr := recent, due := h.due || decide (3 ≤ recent.length) }
  let s : State := match ecc.unit with | some u => s.refillUnit i u | none => s
  s.setStickyIn (16 + i) 134

/-! ### Running the word at the head of a queue -/

/-- Replaces a word of a queue. -/
def State.setQueued (s : State) (i e n : Nat) (q : Issued) : State :=
  s.modTile i (fun t => { t with queues := mput t.queues e ((t.queue e).set n q) })

/-- A word's outcome is carried out: the word completes and leaves its queue, its batch faults, or, having started, it stays. -/
def State.finish (s : State) (i e : Nat) (q : Issued) (b : Batch) (o : WordOut) : State :=
  match o with
  | .wait => s
  | .hold => s.setQueued i e 0 { q with started := true }
  | .fault s cause => (s.popQueue i e).faultBatch q.batch cause false
  | .done s => (((s.popQueue i e).completeWord i q b).pump i).endCheck i q.batch

/-- R318: the head word of an engine has started: it takes its token once. -/
def State.begun (s : State) (i : Nat) (q : Issued) : State := if q.started then s else s.startWord i q

/-- The word at the head of an engine's queue runs: it is one of the command's kind, its tile runs, and its wait under R318
is satisfied. -/
def State.runWord (s : State) (i e : Nat) (mine : TileOp → Bool) (ecc : Ecc) (body : State → Issued → Batch → WordOut) :
    State :=
  match (s.tile i).queue e with
  | [] => s
  | q :: _ =>
    match s.batchOf q.batch with
    | none => s
    | some b =>
      let j := ecc.at_ i (q.word.op.readTile i)
      if !mine q.word.op || !s.tileRuns i || !(q.started || s.tokenReady i e q) then s
      else
        match body ((s.begun i q).countCorrected j ecc) q b with
        | .wait => s
        | .hold => (s.begun i q).finish i e q b .hold
        | .fault t cause => t.finish i e q b (.fault t cause)
        | .done t =>
          if ecc.bad then
            (((s.begun i q).countCorrected j ecc).popQueue i e |>.tileUncorrectable j ecc).faultBatch q.batch 4 true
          else t.finish i e q b (.done t)

end Sys2Proof.Machine
end

