-- ==== Sys2Proof/Machine/TileArray.lean ====
section
/-!
DEFINITION. Machine/TileArray.lean: the matrix arrays (chapter 09): forms, passes, banks, drain and preload, power ramps; and
the block tags of R447 to R451.
-/
namespace Sys2Proof.Machine

/-! ### Forms and operands (R363, R367, Tables 09-1 and 10-3) -/

/-- Table 09-1: rows and columns of a form. -/
def formRows (f : Nat) : Nat := 128 / 2 ^ f
def formCols (f : Nat) : Nat := 32 * 2 ^ f

/-- Bits of an A element and of a B element. -/
def PassOp.aBits (p : PassOp) : Nat := match p.aFmt with | 1 => 4 | 3 => 16 | _ => 8
def PassOp.bBits (p : PassOp) : Nat := if p.bFmt = 0 then 4 else 8

/-- R367: bytes of a step of each stream. -/
def PassOp.aStep (p : PassOp) : Nat := formRows p.form * p.aBits / 8
def PassOp.bStep (p : PassOp) : Nat := formCols p.form * p.bBits / 8

/-- K of a pass. -/
def PassOp.k (p : PassOp) : Nat := p.kMinus1 + 1

/-- R367: the elements of a step, the even one of a byte in its low nibble. -/
def elements (bits : Nat) (bs : Bytes) : List Nat :=
  match bits with
  | 4 => bs.flatMap (fun b => [b.toNat % 16, b.toNat / 16])
  | 16 => (List.range (bs.length / 2)).map (fun n => leAt bs (2 * n) 2)
  | _ => bs.map BitVec.toNat

/-- The entry of a codebook. -/
def Codebook.at_ (c : Codebook) (n : Nat) : F32 := Bf16.f32 ((c.entries[n]?).getD 0#16)

/-- R396: the expanded value of an A element. -/
def MatArray.expandA (x : MatArray) (p : PassOp) (c : Nat) : F32 :=
  match p.aFmt with
  | 0 => intF32 ((c : Int) - (p.aZero : Int))
  | 3 => Bf16.f32 (BitVec.ofNat 16 c)
  | _ => (mget {} x.cbA p.aCb).at_ c

/-- R396: the expanded value of a B element. -/
def MatArray.expandB (x : MatArray) (p : PassOp) (c : Nat) : F32 := (mget {} x.cbB p.bCb).at_ c

/-! ### Feeder halves (R334 to R337) -/

/-- A half of a feeder. -/
def MatArray.aHalf (x : MatArray) (h : Nat) : Half := if h = 0 then x.a0 else x.a1
def MatArray.bHalf (x : MatArray) (h : Nat) : Half := if h = 0 then x.b0 else x.b1
def MatArray.setA (x : MatArray) (h : Nat) (y : Half) : MatArray := if h = 0 then { x with a0 := y } else { x with a1 := y }
def MatArray.setB (x : MatArray) (h : Nat) (y : Half) : MatArray := if h = 0 then { x with b0 := y } else { x with b1 := y }

/-- Bytes `[off, off + n)` of a half; what no FEED has written reads zero. -/
def Half.read (h : Half) (off n : Nat) : Bytes :=
  let d := slice h.data off n
  d ++ zeroBytes (n - d.length)

/-- The half becomes EMPTY. -/
def Half.empty (h : Half) : Half := { h with full := false }

/-! ### Scale sets (R422, R423, R449) -/

/-- The scale set with a number. -/
def MatArray.set (x : MatArray) (n : Nat) : ScaleSet := if n % 2 = 0 then x.scale0 else x.scale1
def MatArray.setSet (x : MatArray) (n : Nat) (y : ScaleSet) : MatArray :=
  if n % 2 = 0 then { x with scale0 := y } else { x with scale1 := y }

/-- A scale register; at its default it holds scale 1.0 and bias +0 (Table 11-1). -/
def ScaleSet.reg (y : ScaleSet) (j : Nat) : Nat := mget 0x3F800000 y.regs j

/-- Scale or threshold of a register. -/
def ScaleSet.scale (y : ScaleSet) (j : Nat) : F32 := BitVec.ofNat 32 (y.reg j)

/-- Bias of a register. -/
def ScaleSet.bias (y : ScaleSet) (j : Nat) : F32 := BitVec.ofNat 32 (y.reg j / 4294967296)

/-- R449: the newest pass is held at its first comparison and so has not started for R423 and R424. -/
def Pass.heldFirst (p : Pass) : Bool := p.held && p.compared == 0

/-- R423: the lowest-numbered pass that has not started. -/
def MatArray.nextPass (x : MatArray) : Nat :=
  match x.live.getLast? with
  | some p => if p.heldFirst then p.n else x.passes
  | none => x.passes

/-- R424: the set of a pass number is in use: from the start of a pass until the Post unit has read its results. -/
def MatArray.setInUse (x : MatArray) (n : Nat) : Bool :=
  x.live.any (fun p => p.n % 2 == n % 2 && !p.heldFirst) ||
    (!x.bufRead && (match x.drainBuf with | some r => r.n % 2 == n % 2 | none => false))

/-! ### The cells (R366, R370, R371, R405 to R407) -/

/-- popcount of a byte. -/
def popcount8 (n : Nat) : Nat := ((List.range 8).filter (fun i => bitOf n i)).length

/-- Table 10-4: one step of a cell; `op` and `mode` are those of Table 09-2, and raw codes serve HAM alone. -/
def cellStep (op mode : Nat) (acc a b : F32) (ca cb : Nat) : F32 :=
  if op = 0x10 then fMulAdd a b acc
  else
    match mode with
    | 0 => fAdd acc (fAbs (fAdd a (fNeg b)))
    | 1 => let d := fAdd a (fNeg b); fMulAdd d d acc
    | _ => fAdd acc (natF32 (popcount8 (ca ^^^ cb)))

/-- R370, R407: a cell of a SEL pass at a marked step: 1.0 for node bit 1, +0 for 0; `reg` is the node's scale register. -/
def selStep (reg : Nat) (a : F32) : F32 :=
  let bit := if a.isNan then bitOf reg 32 else fLt a (BitVec.ofNat 32 reg)
  if bit then fOne else 0

/-- R370: what a SEL pass leaves in a column with no marked step. -/
def selDefault (y : ScaleSet) (rows cols : Nat) : List F32 :=
  (List.replicate rows ((List.range cols).map (fun j => if bitOf (y.reg j) 32 then fOne else (0 : F32)))).flatten

/-- The cells of one row at a step. -/
def rowStep (p : Pass) (y : ScaleSet) (a : F32) (ca : Nat) : Nat → List (BitVec 32) → List (Nat × F32) → List (BitVec 32)
  | j, acc :: accs, (cb, b) :: bs =>
    (if p.opcode = 0x11 then (if cb = 0 then acc else selStep (y.reg j) a)
     else cellStep p.opcode p.op.mode acc a b ca cb) :: rowStep p y a ca (j + 1) accs bs
  | _, accs, _ => accs

/-- All cells at a step, row after row. -/
def gridStep (p : Pass) (y : ScaleSet) (cols : Nat) (bs : List (Nat × F32)) :
    List (Nat × F32) → List (BitVec 32) → List (BitVec 32)
  | [], acc => acc
  | (ca, a) :: as, acc => rowStep p y a ca 0 (acc.take cols) bs ++ gridStep p y cols bs as (acc.drop cols)

/-- R366: one step of a pass in every cell. -/
def MatArray.cells (x : MatArray) (p : Pass) (a b : Bytes) : List (BitVec 32) :=
  let rows := formRows p.op.form
  let cols := formCols p.op.form
  let ea := (elements p.op.aBits a).map (fun c => (c, x.expandA p.op c))
  let eb := (elements p.op.bBits b).map (fun c => (c, x.expandB p.op c))
  let acc := if p.k = 0 ∧ p.opcode = 0x11 then selDefault (x.set p.n) rows cols else p.acc
  gridStep p (x.set p.n) cols eb ea acc

/-! ### Streaming (R335 to R337, R447 to R450) -/

/-- R335, R337: the operands of a step that starts at `pos` of a half lie in FULL halves; a step that runs past the end of the half
reads on in the other one. -/
def streamReady (size : Nat) (h other : Half) (pos step : Nat) : Bool := h.full && (decide (pos + step ≤ size) || other.full)

/-- R335: the bytes of that step. -/
def streamBytes (size : Nat) (h other : Half) (pos step : Nat) : Bytes :=
  if pos + step ≤ size then h.read pos step else h.read pos (size - pos) ++ other.read 0 (pos + step - size)

/-- R336: half and place of the stream behind the step, and whether it has left a half, which becomes EMPTY. -/
def streamNext (size half pos step : Nat) (more : Bool) : Nat × Nat × Bool :=
  if size < pos + step ∨ (pos + step = size ∧ more) then (1 - half, pos + step - size, true) else (half, pos + step, false)

/-- R447: the B half whose tag is to be compared before the next step: at step 0, and at the first step that reads from the
second B half. -/
def Pass.compareHalf (p : Pass) : Option Nat :=
  if p.compared = 0 then some p.bHalf
  else if p.compared ≠ 1 then none
  else if p.bHalf ≠ p.op.bHalf then some p.bHalf
  else if 32768 < p.bPos + p.op.bStep then some (1 - p.bHalf)
  else none

/-- R340: the tags of the B half and of the pass's scale set agree, or none is to be compared. -/
def MatArray.tagsAgree (x : MatArray) (p : Pass) : Bool :=
  match p.compareHalf with
  | some h => (x.bHalf h).tag == (x.set p.n).tag
  | none => true

/-- R337, R373: the operands of the pass's next step are there. -/
def MatArray.stepReady (x : MatArray) (p : Pass) : Bool :=
  streamReady 16384 (x.aHalf p.aHalf) (x.aHalf (1 - p.aHalf)) p.aPos p.op.aStep &&
    streamReady 32768 (x.bHalf p.bHalf) (x.bHalf (1 - p.bHalf)) p.bPos p.op.bStep

/-- The step of a pass whose operands are there and whose tags have been compared. -/
def MatArray.takeStep (x : MatArray) (p : Pass) : MatArray × Pass :=
  let acc := x.cells p (streamBytes 16384 (x.aHalf p.aHalf) (x.aHalf (1 - p.aHalf)) p.aPos p.op.aStep)
    (streamBytes 32768 (x.bHalf p.bHalf) (x.bHalf (1 - p.bHalf)) p.bPos p.op.bStep)
  let more := decide (p.k + 1 < p.op.k)
  let a := streamNext 16384 p.aHalf p.aPos p.op.aStep more
  let b := streamNext 32768 p.bHalf p.bPos p.op.bStep more
  let x := if a.2.2 then x.setA p.aHalf (x.aHalf p.aHalf).empty else x
  let x := if b.2.2 then x.setB p.bHalf (x.bHalf p.bHalf).empty else x
  (x, { p with k := p.k + 1, acc := acc, aHalf := a.1, aPos := a.2.1, bHalf := b.1, bPos := b.2.1 })

/-- What the newest pass does next: a comparison of tags that is due (R447), with a hold where they differ (R448), or a step;
none where it cannot go on. -/
def MatArray.stepOne (x : MatArray) (p : Pass) : Option (MatArray × Pass) :=
  if p.op.k ≤ p.k || p.held || !x.stepReady p then none
  else if !x.tagsAgree p then some (x, { p with held := true })
  else if p.compareHalf.isSome then some (x, { p with compared := p.compared + 1 })
  else some (x.takeStep p)

/-- Steps of the newest pass while they can be taken. -/
def stream : Nat → MatArray → Pass → MatArray × Pass
  | 0, x, p => (x, p)
  | n + 1, x, p =>
    match x.stepOne p with
    | none => (x, p)
    | some (x, p) => stream n x p

/-- The array takes every step it can: earlier passes have been read whole. -/
def MatArray.advance (x : MatArray) : MatArray :=
  match x.live.getLast? with
  | none => x
  | some p =>
    let r := stream (p.op.k + 3) x p
    { r.1 with live := x.live.dropLast ++ [r.2] }

/-! ### Banks and lanes (R375 to R380) -/

/-- The pass with a number, while it is in the array. -/
def MatArray.pass (x : MatArray) (n : Nat) : Option Pass := x.live.find? (fun p => p.n == n)

/-- R377: how many columns of a pass have swapped; a pass that has left the array has swapped every column. -/
def MatArray.swappedOf (x : MatArray) (n : Nat) : Nat :=
  match x.pass n with
  | some p => p.swapped
  | none => if n < x.passes then formCols 4 else 0

/-- R375, R379: the bank that pass `n` uses is free in column `j`: no pass before it has used it, or the pass before last has
swapped. -/
def MatArray.freed (x : MatArray) (n j : Nat) : Bool := decide (n < 2) || decide (j < x.swappedOf (n - 2))

/-- R377: every column of a pass has swapped. -/
def MatArray.left (x : MatArray) (n : Nat) : Bool :=
  match x.pass n with
  | some p => decide (formCols p.op.form ≤ p.swapped)
  | none => decide (n < x.passes)

/-- R379: the preload of a pass that its bank holds in column 0, where the pass starts. -/
def MatArray.preloaded (x : MatArray) (n : Nat) : Option (List (BitVec 32)) := if x.freed n 0 then mfind x.pre n else none

/-- The word at the head of an array's queue. -/
def State.headPass (s : State) (i a : Nat) : Option (Issued × PassOp) :=
  match (s.tile i).queue (3 + a) with
  | [] => none
  | q :: _ =>
    match q.word.op with
    | .mma p => some (q, p)
    | .sel p => some (q, p)
    | .dist p => some (q, p)
    | _ => none

/-- R400: a codebook slot of another size than the format that names it; a SEL pass has no use of its B codebook (R371). -/
def MatArray.badCodebook (x : MatArray) (op : Nat) (p : PassOp) : Bool :=
  let bad := fun (bits : Nat) (c : Codebook) => c.size != (if bits = 4 then 16 else 256)
  let a := (p.aFmt == 1 || p.aFmt == 2) && bad p.aBits (mget {} x.cbA p.aCb)
  let b := op != 0x11 && bad p.bBits (mget {} x.cbB p.bCb)
  a || b

/-- R366: a pass as it starts with its preload values. -/
def MatArray.newPass (x : MatArray) (q : Issued) (p : PassOp) (acc : List (BitVec 32)) : Pass :=
  { n := x.passes, issued := q, op := p, opcode := q.word.op.opcode, k := 0, acc := acc, aHalf := p.aHalf, aPos := 64 * p.aOffset
    bHalf := p.bHalf, bPos := 64 * p.bOffset, compared := 0, held := false }

/-- R365, R373, R374, R380, R387: the pass can start: the array is active and in the pass's form, the steps of earlier passes have
been read, the bank holds the preload, and the operands of step 0 are there. -/
def MatArray.canStart (x : MatArray) (q : Issued) (p : PassOp) : Bool :=
  !x.parked && x.form == p.form && x.live.all (fun y => decide (y.op.k ≤ y.k)) && (x.preloaded x.passes).isSome &&
    x.stepReady (x.newPass q p [])

/-- R366: a pass starts and takes every step it can. -/
def MatArray.startPass (x : MatArray) (q : Issued) (p : PassOp) (acc : List (BitVec 32)) : MatArray :=
  { x with passes := x.passes + 1, pre := mdel x.pre x.passes, live := x.live ++ [x.newPass q p acc] }.advance

/-- A pass word starts (R333, R374): it leaves its queue and completes with PASS_COMPLETE. -/
def State.startArray (s : State) (i a op : Nat) (ecc : Ecc) : State :=
  match s.headPass i a with
  | none => s
  | some (q, p) =>
    match s.batchOf q.batch with
    | none => s
    | some b =>
      let x := (s.tile i).arr a
      if q.word.op.opcode ≠ op ∨ ¬ s.tileRuns i ∨ ¬ s.tokenReady i (3 + a) q ∨ ¬ x.canStart q p then s
      else
        let s := (((s.startWord i q).countCorrected i ecc).popQueue i (3 + a))
        if x.badCodebook op p then (s.countFault b q (Ctr.tileFaultCodebook i)).faultBatch q.batch 4 false
        else if ecc.bad then (s.tileUncorrectable i ecc).faultBatch q.batch 4 true
        else
          (s.setArr i a (((s.tile i).arr a).startPass q p ((x.preloaded x.passes).getD []))).pump i

/-- MMA (R366): a pass in mode MAC starts. -/
def execMma (tile array : Nat) (ecc : Ecc) (s : State) : Host.Outcome State Fault Refusal := .next (s.startArray tile array 0x10 ecc)

/-- SEL (R370): a pass that latches node bits starts. -/
def execSel (tile array : Nat) (ecc : Ecc) (s : State) : Host.Outcome State Fault Refusal := .next (s.startArray tile array 0x11 ecc)

/-- DIST (R369): a pass in mode L1, L2 or HAM starts. -/
def execDist (tile array : Nat) (ecc : Ecc) (s : State) : Host.Outcome State Fault Refusal := .next (s.startArray tile array 0x12 ecc)

/-- A counter of Table 09-7, array 1 after array 0 (Table 21-3). -/
def arrCtr (i a k : Nat) : Nat := Ctr.tileArray i (13 * a + k)

/-- R391: cells of a pass that Selys used. -/
def State.usedCells (s : State) (b : Batch) (op : Nat) : Nat :=
  match (s.partOf b.partition).image b.imageSlot with
  | some img => min 4096 (mget 4096 img.used op)
  | none => 4096

/-- R392: attribution of a completed pass to its mode. -/
def Pass.modeTag (p : Pass) : Nat := 16 * p.opcode + p.op.mode

/-- R336: the halves in which the streams end become EMPTY where the release bits ask for it. -/
def MatArray.releaseHalves (x : MatArray) (p : Pass) : MatArray :=
  let x := if p.op.aRelease = 1 then x.setA p.aHalf (x.aHalf p.aHalf).empty else x
  if p.op.bRelease = 1 then x.setB p.bHalf (x.bHalf p.bHalf).empty else x

/-- Replaces a pass of the array. -/
def MatArray.setPass (x : MatArray) (p : Pass) : MatArray :=
  { x with live := x.live.map (fun (y : Pass) => if y.n = p.n then p else y) }

/-- R336, R374, R391, R392: a pass completes. -/
def State.completePass (s : State) (i a : Nat) (p : Pass) (b : Batch) : State :=
  let x := (s.tile i).arr a
  let s := s.setArr i a ((x.setPass { p with completed := true }).releaseHalves p)
  let u := s.usedCells b p.issued.word.opId
  let s := s.countBatch p.issued.batch [(wordKey (arrCtr i a Ctr.arr_passes) p.modeTag, 1)]
  let s := s.countFor b (arrCtr i a Ctr.arr_cellsBusy) (p.op.k * 4096)
  let s := s.attribute i b p.issued.word (fun r =>
    { r with cellBusy := satAdd max64 r.cellBusy (p.op.k * u), cellPadded := satAdd max64 r.cellPadded (p.op.k * (4096 - u)) })
  ((s.completeWord i p.issued b).pump i).endCheck i p.issued.batch

/-- R374, R380: the pass that completes next: the oldest that has not, once its last step has been read and no column of the pass
before last stands in its bank. -/
def MatArray.finishing (x : MatArray) : Option Pass :=
  (x.live.find? (fun p => !p.completed)).bind (fun p =>
    if p.op.k ≤ p.k ∧ (p.n < 2 ∨ x.left (p.n - 2)) then some p else none)

/-- PASS_COMPLETE (R374): the last cell performs the last step of the oldest pass. -/
def execPassComplete (tile array : Nat) (s : State) : Host.Outcome State Fault Refusal :=
  .next (
    match ((s.tile tile).arr array).finishing with
    | none => s
    | some p =>
      match s.batchOf p.issued.batch with
      | some b => if s.tileRuns tile then s.completePass tile array p b else s
      | none => s)

/-- FORM_CHANGE (R365): the pass at the head of the queue has another form; every earlier pass has completed and left the
drain lane. -/
def execFormChange (tile array : Nat) (s : State) : Host.Outcome State Fault Refusal :=
  .next (
    let x := (s.tile tile).arr array
    match s.headPass tile array with
    | none => s
    | some (q, p) =>
      if x.form = p.form ∨ ¬ x.live.isEmpty ∨ ¬ s.tileRuns tile ∨ ¬ s.tokenReady tile (3 + array) q then s
      else
        (s.setArr tile array { x with form := p.form, pre := [] }).countBatch q.batch
          [(arrCtr tile array Ctr.arr_formChanges, 1)])

/-- RAMP_UP (R387): a pass word whose wait is satisfied reaches the head of the queue of a parked array. -/
def execRampUp (tile array : Nat) (s : State) : Host.Outcome State Fault Refusal :=
  .next (
    let x := (s.tile tile).arr array
    match s.headPass tile array with
    | none => s
    | some (q, _) =>
      if ¬ x.parked ∨ ¬ s.tileRuns tile ∨ ¬ s.tokenReady tile (3 + array) q then s
      else
        (s.setArr tile array { x with parked := false }).countBatch q.batch [(arrCtr tile array Ctr.arr_ramps, 1)])

/-- RAMP_DOWN (R386): an active array whose passes have all completed and whose queue is empty is parked. -/
def execRampDown (tile array : Nat) (s : State) : Host.Outcome State Fault Refusal :=
  .next (
    let x := (s.tile tile).arr array
    if x.parked ∨ ¬ ((s.tile tile).queue (3 + array)).isEmpty ∨ ¬ s.wingFree (tileWing tile) ∨
        x.live.any (fun p => !p.completed) then s
    else s.setArr tile array { x with parked := true })

/-! ### Block tags (R447 to R451) -/

/-- The pass that the feeder holds. -/
def MatArray.heldPass (x : MatArray) : Option Pass :=
  match x.live.getLast? with
  | some p => if p.held then some p else none
  | none => none

/-- TAG_HOLD (R448, R450): the feeder compares again; it releases the step when the tags agree. -/
def execTagHold (tile array : Nat) (s : State) : Host.Outcome State Fault Refusal :=
  .next (
    let x := (s.tile tile).arr array
    match x.heldPass with
    | some p =>
      if x.tagsAgree p ∧ s.tileRuns tile then
        s.setArr tile array { x with live := x.live.dropLast ++ [{ p with held := false }] }.advance
      else s
    | none => s)

/-- TAG_MISMATCH (R451): the tags still differ after 64 cycles: the word faults. -/
def execTagMismatch (tile array : Nat) (s : State) : Host.Outcome State Fault Refusal :=
  .next (
    let x := (s.tile tile).arr array
    match x.heldPass with
    | some p =>
      if x.tagsAgree p ∨ ¬ s.tileRuns tile then s
      else
        let s : State := match s.batchOf p.issued.batch with
          | some b => s.countFault b p.issued (Ctr.tileFaultTag tile)
          | none => s
        (s.setStickyIn (16 + tile) 160).faultBatch p.issued.batch 3 false
    | none => s)

end Sys2Proof.Machine
end

