-- ==== Sys2Proof/Machine/TilePost.lean ====
section
/-!
DEFINITION. Machine/TilePost.lean: the Post unit (Table 08-10; chapters 10 to 12): PIPE, GROUP, TOPK, LINK, CHECK, VERDICT,
TABLE and TREE.
-/
namespace Sys2Proof.Machine

/-! ### Rows (R344, R441, R444) -/

/-- A row that a Post word reads: its number, its address in tile memory (0 for a drain buffer) and its elements. -/
structure PostRow where
  row : Nat
  at_ : Nat
  vals : List F32
  deriving DecidableEq, Repr

/-- R344: 64-byte units of a row of `count` FP32 elements. -/
def rowUnits (count : Nat) : Nat := (4 * count + 63) / 64

/-- R344: the rows of a drained pass, `count` elements of each. -/
def drainRows (r : Result) (count : Nat) : List PostRow :=
  (List.range r.rows).map (fun i => { row := i, at_ := 0, vals := (r.vals.drop (i * r.cols)).take (min count r.cols) })

/-- R344: the batch's rows in tile memory. -/
def State.memRows (s : State) (i base count rows : Nat) : List PostRow :=
  (List.range rows).map (fun r =>
    let a := base + 64 * rowUnits count * r
    { row := r, at_ := a, vals := f32s count (s.tileRead i a (4 * count)) })

/-- The rows that a POST word reads; none while it waits for a drain buffer (log entry 36). -/
def State.postRows (s : State) (i : Nat) (q : Issued) (b : Batch) (p : PostOp) : Option (List PostRow) :=
  if p.srcKind = 2 then some (s.memRows i (q.ref p.src) p.count b.rows.length)
  else (((s.tile i).arr p.srcKind).drainBuf).map (fun r => drainRows r p.count)

/-- The accesses of the rows that a POST word reads in tile memory. -/
def readsOf (p : PostOp) (rows : List PostRow) : List (Nat × Nat) :=
  if p.srcKind = 2 then rows.map (fun r => (r.at_, 4 * p.count)) else []

/-- R444: within a wide segment results are written for rows of the wide mask alone. -/
def Tile.writesRow (t : Tile) (q : Issued) (r : Nat) : Bool := !q.wide || t.wideRows.contains r

/-- R342: the Post unit has finished reading a drain buffer. -/
def State.readBuffer (s : State) (i : Nat) (p : PostOp) : State :=
  if p.srcKind = 2 then s else s.setArr i p.srcKind { (s.tile i).arr p.srcKind with bufRead := true }

/-! ### What a row counts (R39, R420, R431, R440, R480) -/

/-- Counts of one row under one word. -/
structure RowCount where
  nan : Nat := 0
  nanEncoded : Nat := 0
  overflow : Nat := 0
  encoded : Nat := 0
  clipped : Nat := 0
  visits : Nat := 0
  /-- Largest magnitude encoded, for a dynamic site. -/
  max : Option F32 := none
  deriving DecidableEq, Repr

/-- A primitive's result became infinite by rounding: no operand was infinite or NaN. -/
def overflowed (r : F32) (xs : List F32) : Nat := b2n (r.isInf && !xs.any F32.notFinite)

/-- The packet of a batch row that is still in the batch. -/
def State.rowStair (s : State) (w id : Nat) (b : Batch) (r : Nat) : Option Stair :=
  match b.rows[r]? with
  | some (.packet k) => (s.wing w).stairs.find? (fun y => y.pkt.id == k && y.batch == some id)
  | _ => none

/-- R39, log entry 37: what a packet's work adds to tile counters counts once it commits. -/
def Stair.addCounts (y : Stair) (l : List (Nat × Nat)) : Stair := { y with batchCounts := Machine.addCounts y.batchCounts l }

/-- R431: the largest magnitude of a row at a site. -/
def Stair.addMax (y : Stair) (site : Nat) (m : Option F32) : Stair :=
  match m with
  | none => y
  | some v => { y with rowmax := mput y.rowmax site (fMax (BitVec.ofNat 32 (mget 0 y.rowmax site)) [v]).toNat }

/-- R420: the Post unit's counts by the word's layer_id and op_id. -/
def RowCount.byWord (c : RowCount) (i : Nat) (q : Issued) : List (Nat × Nat) :=
  [(q.key (Ctr.tileNan i), c.nan), (q.key (Ctr.tileNanEncoded i), c.nanEncoded), (q.key (Ctr.tileOverflow i), c.overflow)]

/-- R420, R444: what a row counts under a word that reads it and writes no result for it. -/
def RowCount.read (c : RowCount) : RowCount := { nan := c.nan, nanEncoded := c.nanEncoded, overflow := c.overflow, visits := c.visits }

/-- R440, R452: the counts of encodings by clip_layer, and node visits by the word. -/
def RowCount.byLayer (c : RowCount) (i clip : Nat) (q : Issued) : List (Nat × Nat) :=
  [(wordKey (Ctr.tileEncoded i) (clipTag clip), c.encoded), (wordKey (Ctr.tileClipped i) (clipTag clip), c.clipped),
   (q.key (Ctr.tileTreeVisits i), c.visits)]

/-- Counts of a batch row, and its largest magnitude at a site, go to its packet. -/
def State.addRow (s : State) (q : Issued) (b : Batch) (r : Nat) (l : List (Nat × Nat)) (site : Nat) (m : Option F32) : State :=
  match s.rowStair (batchHome q.batch) q.batch b r with
  | none => s
  | some y => s.setStair (batchHome q.batch) ((y.addCounts l).addMax site m)

/-- The counts of a row under a word: those of a batch row go to its packet, and what the Post unit reads beyond the batch's rows
(R441) counts for the batch; a rollout counts node visits alone (R480). -/
def State.countRow (s : State) (i : Nat) (q : Issued) (b : Batch) (r : Nat) (c : RowCount) (site clip : Nat) : State :=
  if b.graph = .rollout then s.addCount b.partition (q.key (Ctr.tileTreeVisits i)) c.visits
  else if b.rows.length ≤ r then s.countBatch q.batch (c.byWord i q)
  else s.addRow q b r (c.byWord i q ++ c.byLayer i clip q) site c.max

/-- R420, R444, log entry 88: the rows of a wide segment that a word reads and writes no result for count too. -/
def State.countOthers (s : State) (i : Nat) (q : Issued) (b : Batch) (cs : List (Nat × RowCount)) : State :=
  cs.foldl (fun s c => s.countRow i q b c.1 c.2.read 0 0) s

/-! ### PIPE (R425, R426, R439 to R442) -/

/-- An activation table slot. -/
def Tile.actTable (t : Tile) (slot : Nat) : ActTable :=
  match mfind t.act slot with
  | some bs => actTableOf bs
  | none => actDefault

/-- The encode table of a slot, once one has been loaded. -/
def Tile.encTable (t : Tile) (slot : Nat) : Option EncTable := (mfind t.enc slot).map encTableOf

/-- R435: scale or inverse of a site in the batch's scale block. -/
def State.blockValue (s : State) (i : Nat) (q : Issued) (c : ControlSet) (site off : Nat) : F32 :=
  f32Of (s.tileRead i (q.ref c.scaleBlock + 8 * site + off) 4)

/-- The site of the batch's scale block that gives the word's layer its dynamic activation scale. -/
def State.dynSite (s : State) (i : Nat) (q : Issued) (b : Batch) : Option (ControlSet × Nat) :=
  ((s.tile i).control b.epoch).bind (fun c => (c.sites.find? (fun e => e.layer == q.word.layer)).map (fun e => (c, e.site)))

/-- R691: the accesses of the values that a word reads in the batch's scale block: the scale of its layer's site, and the inverse of
an encode table's. -/
def State.scaleReads (s : State) (i : Nat) (q : Issued) (b : Batch) (enc : Option EncTable) : List (Nat × Nat) :=
  let at_ := fun (c : ControlSet) (site off : Nat) => (q.ref c.scaleBlock + 8 * site + off, 4)
  let dyn := match s.dynSite i q b with | some (c, d) => [at_ c d 0] | none => []
  match enc, (s.tile i).control b.epoch with
  | some e, some c => if e.dynamic then at_ c e.site 4 :: dyn else dyn
  | _, _ => dyn

/-- R425: the dynamic activation scale of the word's layer, if its site table names one. -/
def State.blockScale (s : State) (i : Nat) (q : Issued) (b : Batch) : Option F32 :=
  (s.dynSite i q b).map (fun e => s.blockValue i q e.1 e.2 0)

/-- R436: the inverse scale of an encode table for a batch. -/
def State.inverse (s : State) (i : Nat) (q : Issued) (b : Batch) (e : EncTable) : F32 :=
  if e.dynamic then
    match (s.tile i).control b.epoch with
    | some c => s.blockValue i q c e.site 4
    | none => 0
  else e.inv

/-- R425: scale of a column with the dynamic scale, and whether forming it overflowed. -/
def columnScale (y : ScaleSet) (dyn : Option F32) (j : Nat) : F32 × Nat :=
  match dyn with
  | none => (y.scale j, 0)
  | some d => let c := fMul (y.scale j) d; (c, overflowed c [y.scale j, d])

/-- R425: rescales one element. -/
def rescaled (y : ScaleSet) (dyn : Option F32) (j : Nat) (v : F32) : F32 × Nat :=
  let c := columnScale y dyn j
  let r := fMulAdd c.1 v (y.bias j)
  (r, c.2 + overflowed r [c.1, v, y.bias j])

/-- What a PIPE word does to an element before its output: the rescale with its set, and the activation. -/
structure PipeCfg where
  set : Option ScaleSet
  dyn : Option F32
  act : Option ActTable
  out : Nat
  enc : Option (EncTable × F32)
  deriving DecidableEq, Repr

/-- R414, R425: an element after rescale and activation. -/
def PipeCfg.value (c : PipeCfg) (j : Nat) (v : F32) : F32 × Nat :=
  let r := match c.set with | some y => rescaled y c.dyn j v | none => (v.val.round, 0)
  match c.act with
  | none => r
  | some t => let z := t.eval r.1; (z, r.2 + overflowed z [r.1])

/-- A row after rescale and activation, from column `j` on. -/
def PipeCfg.values (c : PipeCfg) : Nat → List F32 → List (F32 × Nat)
  | _, [] => []
  | j, v :: vs => c.value j v :: c.values (j + 1) vs

/-- Bits of an output element (Table 08-10). -/
def outBits (out : Nat) : Nat := match out with | 0 => 32 | 1 => 16 | 2 => 4 | _ => 8

/-- 64-byte units of a destination row of PIPE (log entry 38). -/
def pipeUnits (count out : Nat) : Nat := (count * outBits out + 511) / 512

/-- R408, R440: the bytes of an output row and what it counts. -/
def PipeCfg.row (c : PipeCfg) (vals : List F32) : Bytes × RowCount :=
  let zs := c.values 0 vals
  let xs := zs.map (·.1)
  let base : RowCount := { nan := (vals.filter F32.isNan).length, overflow := (zs.map (·.2)).sum }
  match c.enc with
  | some (e, inv) =>
    let cs := xs.map (fun x => e.encode inv x)
    let fin := (xs.filter (fun x => !x.notFinite)).map fAbs
    (codeBytes c.out (cs.map (·.1)),
      { base with
        encoded := cs.length, nanEncoded := (cs.filter (fun k => k.2 == .nan)).length
        clipped := (cs.filter (fun k => k.2 == .clipped)).length
        overflow := base.overflow + (xs.map (fun x => overflowed (fMul x inv) [x, inv])).sum
        max := if e.dynamic && !fin.isEmpty then some (fMax 0 fin) else none })
  | none =>
    if c.out = 1 then
      (xs.flatMap (fun x => leBytes 2 (toBf16 x).toNat),
        { base with overflow := base.overflow + (xs.map (fun x => overflowed (Bf16.f32 (toBf16 x)) [x])).sum })
    else (f32Bytes xs, base)

/-- R440: the counts of a clip layer of a batch. -/
def Tile.clip (t : Tile) (id layer : Nat) : Option ClipCount := t.clips.find? (fun c => c.batch == id && c.layer == layer)

/-- R442: an encoding would open a 17th clip layer of the batch. -/
def Tile.clipFull (t : Tile) (id layer : Nat) : Bool :=
  (t.clip id layer).isNone && decide (16 ≤ (t.clips.filter (fun c => c.batch == id)).length)

/-- R440: a row's encoded and clipped values are added to the counts of the clip layer. -/
def Tile.addClip (t : Tile) (id layer log2 row encoded clipped : Nat) : Tile :=
  let add := fun (m : Tab Nat) (n : Nat) => mput m row (mget 0 m row + n)
  match t.clip id layer with
  | some _ =>
    { t with clips := t.clips.map (fun (c : ClipCount) =>
        if c.batch = id ∧ c.layer = layer then { c with log2 := log2, encoded := add c.encoded encoded, clipped := add c.clipped clipped }
        else c) }
  | none =>
    { t with clips := t.clips ++
        [{ batch := id, layer := layer, log2 := log2, encoded := [(row, encoded)], clipped := [(row, clipped)] }] }

/-- One row of a PIPE word: written at its place, and counted where it is a batch row (R441). -/
def State.pipeRow (s : State) (i : Nat) (q : Issued) (b : Batch) (c : PipeCfg) (dst step : Nat) (r : PostRow) : State :=
  let z := c.row r.vals
  let s := s.tileWrite i (dst + step * r.row) z.1
  match c.enc with
  | some (e, _) =>
    let s : State :=
      if b.rows.length ≤ r.row then s
      else s.modTile i (fun t => t.addClip q.batch e.layer e.log2 r.row z.2.encoded z.2.clipped)
    s.countRow i q b r.row z.2 e.site e.layer
  | none => s.countRow i q b r.row z.2 0 0

/-- What a PIPE word computes with. -/
def State.pipeCfg (s : State) (i : Nat) (q : Issued) (b : Batch) (p : PostOp) : PipeCfg :=
  let t := s.tile i
  let out := p.paramB % 8
  let act := p.paramA / 2 % 8
  { set := if p.paramA % 2 = 1 then
      (t.arr p.srcKind).drainBuf.map (fun r => (t.arr p.srcKind).set r.n) else none
    dyn := s.blockScale i q b
    act := if act = 0 then none else some (t.actTable (act - 1))
    out := out
    enc := if 2 ≤ out then (t.encTable (p.paramB / 8 % 4)).map (fun e => (e, s.inverse i q b e)) else none }

/-- R439: the output is a code and the encode slot holds another format. -/
def PipeCfg.formatBad (c : PipeCfg) : Bool :=
  decide (2 ≤ c.out) && (match c.enc with | some (e, _) => e.format != c.out | none => true)

/-- R442: some row of the word would open a 17th clip layer. -/
def PipeCfg.opensMany (c : PipeCfg) (t : Tile) (q : Issued) (b : Batch) (rows : List PostRow) : Bool :=
  match c.enc with
  | some (e, _) => t.clipFull q.batch e.layer && rows.any (fun r => decide (r.row < b.rows.length))
  | none => false

/-- PIPE. -/
def pipeWord (i : Nat) (s : State) (q : Issued) (b : Batch) : WordOut :=
  match q.word.op with
  | .post p =>
    let t := s.tile i
    let c := s.pipeCfg i q b p
    let dst := q.ref p.dst
    let step := 64 * pipeUnits p.count c.out
    if p.paramA % 2 = 1 ∧ p.srcKind = 2 then .fault s 4
    else if c.formatBad then .fault (s.countFault b q (Ctr.tileFaultEncode i)) 4
    else
      match s.postRows i q b p with
      | none => .wait
      | some all =>
        let rows := all.filter (fun r => t.writesRow q r.row)
        let others := all.filter (fun r => !t.writesRow q r.row)
        let reads := s.scaleReads i q b (c.enc.map (·.1)) ++ readsOf p all
        let writes := rows.map (fun r => (dst + step * r.row, (r.vals.length * outBits c.out + 7) / 8))
        if c.opensMany t q b rows then .fault (s.countFault b q (Ctr.tileFaultEncode i)) 4
        else
          s.guarded i b.partition (reads ++ writes) (s.unlocked i writes
            (.done (((rows.foldl (fun s r => s.pipeRow i q b c dst step r) s).countOthers i q b
              (others.map (fun r => (r.row, (c.row r.vals).2)))).readBuffer i p)))
  | _ => .wait

/-- POST words with a sub-op. -/
def TileOp.isPost (sub : Nat) : TileOp → Bool
  | .post p => p.subOp == sub
  | _ => false

/-- PIPE (R425). -/
def execPipe (tile : Nat) (ecc : Ecc) (s : State) : Host.Outcome State Fault Refusal :=
  .next (s.runWord tile 7 (TileOp.isPost 0) ecc (pipeWord tile))

/-! ### GROUP (R426, R427) -/

/-- R427: one row of partials added to its sums, from column `j` on. -/
def groupRow (y : ScaleSet) (dyn : Option F32) (first : Bool) : Nat → List F32 → List F32 → List (F32 × Nat)
  | j, v :: vs, sums =>
    let c := columnScale y dyn j
    let z := if first then y.bias j else sums.headD 0
    let r := fMulAdd c.1 v z
    (r, c.2 + overflowed r [c.1, v, z]) :: groupRow y dyn first (j + 1) vs (sums.drop 1)
  | _, [], _ => []

/-- A row of a GROUP word: its sums, which stand at an address, and what it counts. -/
def State.groupSums (s : State) (i : Nat) (y : ScaleSet) (dyn : Option F32) (first : Bool) (a : Nat) (r : PostRow) :
    List F32 × RowCount :=
  let sums := f32s r.vals.length (s.tileRead i a (4 * r.vals.length))
  let zs := groupRow y dyn first 0 r.vals sums
  (zs.map (·.1), { nan := (r.vals.filter F32.isNan).length, overflow := (zs.map (·.2)).sum })

/-- One row of a GROUP word. -/
def State.groupOne (s : State) (i : Nat) (q : Issued) (b : Batch) (y : ScaleSet) (dyn : Option F32) (first : Bool) (dst step : Nat)
    (r : PostRow) : State :=
  let a := dst + step * r.row
  let z := s.groupSums i y dyn first a r
  (s.tileWrite i a (f32Bytes z.1)).countRow i q b r.row z.2 0 0

/-- GROUP. -/
def groupWord (i : Nat) (s : State) (q : Issued) (b : Batch) : WordOut :=
  match q.word.op with
  | .post p =>
    let t := s.tile i
    if p.srcKind = 2 then .fault s 4
    else
      match (t.arr p.srcKind).drainBuf with
      | none => .wait
      | some res =>
        let all := drainRows res p.count
        let rows := all.filter (fun r => t.writesRow q r.row)
        let others := all.filter (fun r => !t.writesRow q r.row)
        let dst := q.ref p.dst
        let step := 64 * rowUnits p.count
        let set := (t.arr p.srcKind).set res.n
        let first := p.paramA % 2 == 1
        let reach := fun (rs : List PostRow) => rs.map (fun r => (dst + step * r.row, 4 * r.vals.length))
        let reads := s.scaleReads i q b none ++ (if first then [] else reach others)
        s.guarded i b.partition (reads ++ reach rows) (s.unlocked i (reach rows)
          (.done (((rows.foldl (fun s r => s.groupOne i q b set (s.blockScale i q b) first dst step r) s).countOthers i q b
            (others.map (fun r => (r.row, (s.groupSums i set (s.blockScale i q b) first (dst + step * r.row) r).2)))).readBuffer i p)))
  | _ => .wait

/-- GROUP (R427). -/
def execGroup (tile : Nat) (ecc : Ecc) (s : State) : Host.Outcome State Fault Refusal :=
  .next (s.runWord tile 7 (TileOp.isPost 1) ecc (groupWord tile))

/-! ### TOPK (R410, R465, R466) -/

/-- −1.0, the index of an absent entry. -/
def absentIndex : F32 := 0xBF800000#32

/-- R410: a list member, index and distance, ranks before another. -/
def topBefore (x y : F32 × F32) : Bool := rankLt x.2 y.2 || (!rankLt y.2 x.2 && fLt x.1 y.1)

/-- Inserts a member behind those that rank before it. -/
def topInsert (x : F32 × F32) : List (F32 × F32) → List (F32 × F32)
  | [] => [x]
  | y :: r => if topBefore x y then x :: y :: r else y :: topInsert x r

/-- R465: the candidates of a row. -/
def candidates (first : Nat) (vals : List F32) : List (F32 × F32) :=
  ((List.range vals.length).zip vals).map (fun e => (natF32 (first + e.1), e.2.val.round))

/-- R394, R395, R465: the entries present in a list at an address, as the Post unit reads FP32 values. -/
def State.topPresent (s : State) (i a k : Nat) : List (F32 × F32) :=
  ((List.range k).map (fun e =>
    ((f32Of (s.tileRead i (a + 8 * e) 4)).val.round, (f32Of (s.tileRead i (a + 8 * e + 4) 4)).val.round))).filter
    (fun e => e.1 != absentIndex)

/-- R466: the bytes of a list of `k` entries. -/
def topBytes (k : Nat) (l : List (F32 × F32)) : Bytes :=
  f32Bytes ((List.range k).flatMap (fun e => match l[e]? with | some x => [x.1, x.2] | none => [absentIndex, fNan]))

/-- One row of a TOPK word. -/
def State.topkRow (s : State) (i : Nat) (q : Issued) (b : Batch) (p : PostOp) (a : Nat) (r : PostRow) : State :=
  let old := if p.paramB % 2 = 1 then s.topPresent i a p.paramA else []
  let l := (old ++ candidates (512 * (p.paramB / 2)) r.vals).foldl (fun l x => topInsert x l) []
  let s := s.tileWrite i a (topBytes p.paramA (l.take p.paramA))
  s.countRow i q b r.row { nan := (r.vals.filter F32.isNan).length } 0 0

/-- TOPK. -/
def topkWord (i : Nat) (s : State) (q : Issued) (b : Batch) : WordOut :=
  match q.word.op with
  | .post p =>
    match s.postRows i q b p with
    | none => .wait
    | some all =>
      let rows := all.filter (fun r => (s.tile i).writesRow q r.row && decide (r.row < b.rows.length))
      let others := all.filter (fun r => !(s.tile i).writesRow q r.row && decide (r.row < b.rows.length))
      let step := 64 * ((8 * p.paramA + 63) / 64)
      let writes := rows.map (fun r => (q.ref p.dst + step * r.row, 8 * p.paramA))
      s.guarded i b.partition (readsOf p all ++ writes) (s.unlocked i writes
        (.done (((rows.foldl (fun s r => s.topkRow i q b p (q.ref p.dst + step * r.row) r) s).countOthers i q b
          (others.map (fun r => (r.row, { nan := (r.vals.filter F32.isNan).length })))).readBuffer i p)))
  | _ => .wait

/-- TOPK (R465). -/
def execTopk (tile : Nat) (ecc : Ecc) (s : State) : Host.Outcome State Fault Refusal :=
  .next (s.runWord tile 7 (TileOp.isPost 2) ecc (topkWord tile))

/-! ### LINK (R467 to R469) -/

/-- R468: link outputs and how many primitives overflowed. -/
def linkOut (kind : Nat) (xs : List F32) : List F32 × Nat :=
  match kind with
  | 1 =>
    let f := fun (x : F32) =>
      let e := fExp (fNeg x)
      let d := fAdd fOne e
      let y := fDiv fOne d
      (y, overflowed e [x] + overflowed d [fOne, e])
    ((xs.map f).map (·.1), ((xs.map f).map (·.2)).sum)
  | 2 =>
    let m := fNeg (fMax (xs.headD 0) (xs.drop 1))
    let us := xs.map (fun x => fExp (fAdd x m))
    let t := (us.drop 1).foldl (fun (a : F32 × Nat) u => let r := fAdd a.1 u; (r, a.2 + overflowed r [a.1, u])) (us.headD 0, 0)
    let ys := us.map (fun u => fDiv u t.1)
    (ys, t.2 + (xs.map (fun x => overflowed (fAdd x m) [x, m])).sum)
  | 3 => (xs.map fExp, (xs.map (fun x => overflowed (fExp x) [x])).sum)
  | _ => (xs.map (fun x => x.val.round), 0)

/-- R469: the lowest index of the rank of the maximum. -/
def classOf (ys : List F32) : Nat :=
  let m := fMax (ys.headD 0) (ys.drop 1)
  (ys.findIdx? (fun y => !rankLt y m)).getD 0

/-- What a row counts under a LINK word. -/
def PostRow.linkCount (r : PostRow) (kind : Nat) : RowCount :=
  { nan := (r.vals.filter F32.isNan).length, overflow := (linkOut kind r.vals).2 }

/-- One row of a LINK word. -/
def State.linkRow (s : State) (i : Nat) (q : Issued) (b : Batch) (p : PostOp) (r : PostRow) : State :=
  let o := linkOut p.paramA r.vals
  let c := classOf o.1
  let s := s.tileWrite i r.at_ (f32Bytes o.1)
  let s := s.tileWrite i (q.ref p.dst + 64 * r.row) (f32Bytes (natF32 c :: (o.1[c]?).getD 0 :: List.replicate 14 0))
  s.countRow i q b r.row (r.linkCount p.paramA) 0 0

/-- LINK. -/
def linkWord (i : Nat) (s : State) (q : Issued) (b : Batch) : WordOut :=
  match q.word.op with
  | .post p =>
    if p.srcKind ≠ 2 then .fault s 4
    else
      let all := s.memRows i (q.ref p.src) p.count b.rows.length
      let rows := all.filter (fun r => (s.tile i).writesRow q r.row)
      let others := all.filter (fun r => !(s.tile i).writesRow q r.row)
      let writes := readsOf p rows ++ rows.map (fun r => (q.ref p.dst + 64 * r.row, 64))
      s.guarded i b.partition (readsOf p all ++ writes) (s.unlocked i writes
        (.done ((rows.foldl (fun s r => s.linkRow i q b p r) s).countOthers i q b
          (others.map (fun r => (r.row, r.linkCount p.paramA))))))
  | _ => .wait

/-- LINK (R467). -/
def execLink (tile : Nat) (ecc : Ecc) (s : State) : Host.Outcome State Fault Refusal :=
  .next (s.runWord tile 7 (TileOp.isPost 3) ecc (linkWord tile))

/-! ### CHECK (R327 to R329, R443) -/

/-- R443: the wide mask of a clip layer. -/
def wideMask (c : Option ClipCount) (rows : Nat) : List Nat :=
  match c with
  | none => []
  | some c => (List.range rows).filter (fun r => decide (mget 0 c.encoded r < mget 0 c.clipped r * 2 ^ c.log2))

/-- R328, R329: the wide segment of a layer in the control set of the batch's epoch. -/
def Tile.wideSegment (t : Tile) (epoch layer : Nat) : Option Nat :=
  match t.control epoch with
  | none => none
  | some c => match mfind c.wide layer with | some 0 => none | o => o

/-- R452: a row of the wide mask counts for its packet. -/
def State.countRows (s : State) (i : Nat) (q : Issued) (b : Batch) (r : Nat) : State :=
  if b.graph = .rollout then s else s.addRow q b r [(q.key (Ctr.tileRerunRows i), 1)] 0 none

/-- CHECK: the decision, the counters of Table 11-8, and where issue goes on. -/
def checkWord (i : Nat) (s : State) (q : Issued) (b : Batch) : WordOut :=
  let t := s.tile i
  let layer := q.word.layer
  let wide := wideMask (t.clip q.batch layer) b.rows.length
  let seg := t.wideSegment b.epoch layer
  let t := { t with clips := t.clips.filter (fun c => !(c.batch == q.batch && c.layer == layer)), checkWait := false }
  if wide.isEmpty then .done (s.setTile i t)
  else
    match seg with
    | none => .done ((s.setTile i t).countBatch q.batch [(q.key (Ctr.tileRerunUnavailable i), 1)])
    | some a =>
      if q.wide then .done (s.setTile i t)
      else
        let s := (s.setTile i { t with wideRows := wide, ret := some t.pc, pc := a }).countBatch q.batch
          [(q.key (Ctr.tileRerun i), 1)]
        .done (wide.foldl (fun (s : State) r => s.countRows i q b r) s)

/-- CHECK (R443). -/
def execCheck (tile : Nat) (s : State) : Host.Outcome State Fault Refusal :=
  .next (s.runWord tile 7 (TileOp.isPost 4) {} (checkWord tile))

/-! ### VERDICT (R345, R456, R470 to R473) -/

/-- R472: the entry that serves a class element. -/
def verdictEntry (v : List VerdictCfg) (x : F32) : Nat × Option VerdictCfg :=
  match x.asNat 63 with
  | some c => (c, v[c]?)
  | none => (0xFF, v[64]?)

/-- R472: the band of a score; the NaN band is band 4. -/
def VerdictCfg.choose (e : VerdictCfg) (score : F32) : Nat × BandCfg :=
  if score.isNan then (4, e.nanBand)
  else
    let g := ((e.thresholds.take (e.bands - 1)).filter (fun t => fLe t score)).length
    (g, (e.band[g]?).getD e.nanBand)

/-- R472, R473: the pending verdict of a row. -/
def pendingVerdict (c : SlotCfg) (y : Stair) (id : Nat) (cls score : F32) : PendVerdict :=
  let e := verdictEntry c.verdict cls
  let g := match e.2 with | some v => v.choose score | none => (0, { action := 0, rollout := false, param := 0 })
  { action := g.2.action, param := g.2.param, cls := e.1, score := (toBf16 score).toNat
    flags := (if y.state = .noFlow then flProvisional else 0) + (if y.pkt.malformed then flMalformed else 0)
    band := g.1, rollout := g.2.rollout, batch := id }

/-- VERDICT; a row that has a pending verdict already faults the batch (R456). A rollout leaves no verdict (R480). -/
def verdictWord (i : Nat) (s : State) (q : Issued) (b : Batch) : WordOut :=
  match q.word.op with
  | .post p =>
    let w := batchHome q.batch
    match s.postRows i q b p, s.batchCfg b with
    | some all, some (_, c) =>
      let rows := all.filter (fun r => (s.tile i).writesRow q r.row && decide (r.row < b.rows.length))
      let has := fun (r : PostRow) => match s.rowStair w q.batch b r.row with | some y => y.verdict.isSome | none => false
      if rows.any has then .fault (s.bumpFor b.partition (Ctr.tileFaultVerdict i) 1) 4
      else
        s.guarded i b.partition (readsOf p all) (.done ((rows.foldl (fun s r =>
          match s.rowStair w q.batch b r.row with
          | some y =>
            let score := (r.vals[1]?).getD 0
            (s.setStair w { y with verdict := some (pendingVerdict c y q.batch (r.vals.headD 0) score) }).countRow i q b r.row
              { overflow := overflowed (Bf16.f32 (toBf16 score)) [score] } 0 0
          | none => s) s).readBuffer i p))
    | _, _ => .wait
  | _ => .wait

/-- VERDICT (R472). -/
def execVerdict (tile : Nat) (ecc : Ecc) (s : State) : Host.Outcome State Fault Refusal :=
  .next (s.runWord tile 7 (TileOp.isPost 5) ecc (verdictWord tile))

/-! ### TABLE (R413, R437) -/

/-- TABLE: an activation or encode table is checked and loaded. -/
def tableWord (i : Nat) (s : State) (q : Issued) (b : Batch) : WordOut :=
  match q.word.op with
  | .post p =>
    let slot := p.paramA % 4
    if p.paramA / 4 = 0 then
      s.guarded i b.partition [(q.ref p.src, 3072)] (
        let bs := s.tileRead i (q.ref p.src) 3072
        if actTableOk bs then .done (s.modTile i (fun t => { t with act := mput t.act slot bs }))
        else .fault (s.countFault b q (Ctr.tileFaultTable i)) 4)
    else
      s.guarded i b.partition [(q.ref p.src, 1088)] (
        let bs := s.tileRead i (q.ref p.src) 1088
        if encTableOk bs then .done (s.modTile i (fun t => { t with enc := mput t.enc slot bs }))
        else .fault (s.countFault b q (Ctr.tileFaultEncode i)) 4)
  | _ => .wait

/-- TABLE (R413, R437). -/
def execTable (tile : Nat) (ecc : Ecc) (s : State) : Host.Outcome State Fault Refusal :=
  .next (s.runWord tile 7 (TileOp.isPost 6) ecc (tableWord tile))

/-! ### TREE (R461, R463, R464) -/

/-- Table 12-2: a tree table in tile memory: its address and header fields. -/
structure TreeHead where
  at_ : Nat
  bits : Nat
  nodes : Nat
  leaves : Nat
  outputs : Nat
  nodeAt : Nat
  leafAt : Nat
  deriving DecidableEq, Repr

/-- Reads a header. -/
def State.treeHead (s : State) (i a : Nat) : TreeHead :=
  let h := s.tileRead i a 16
  { at_ := a, bits := leAt h 0 2 + 1, nodes := leAt h 2 2 + 1, leaves := leAt h 4 2 + 1, outputs := leAt h 6 2 % 64 + 1
    nodeAt := a + 64 * leAt h 8 2, leafAt := a + 64 * leAt h 10 2 }

/-- R464: the walk of one tree: the leaf and the node records visited; none where a 17th node is met. `d` counts the
records that may still be met. -/
def walk (mem : Mem) (h : TreeHead) (bit : Nat → Bool) : Nat → Nat → Bool → Nat → Option (Nat × Nat)
  | _, k, true, n => some (k, n)
  | 0, _, false, _ => none
  | d + 1, k, false, n =>
    let r := memRead mem (h.nodeAt + 8 * k) 8
    if bit (leAt r 0 2) then walk mem h bit d (leAt r 2 2) (bitOf (leAt r 6 1) 0) (n + 1)
    else walk mem h bit d (leAt r 4 2) (bitOf (leAt r 6 1) 1) (n + 1)

/-- R464: the trees of a row in directory order: outputs and visits; none where a walk faults. -/
def walkTrees (mem : Mem) (h : TreeHead) (bit : Nat → Bool) : Nat → Nat → List F32 × Nat × Nat → Option (List F32 × Nat × Nat)
  | 0, _, acc => some acc
  | n + 1, t, (out, visits, ovf) =>
    let d := memRead mem (h.at_ + 0x140 + 4 * t) 4
    let o := bitsOf (leAt d 2 1) 1 6
    match walk mem h bit 16 (leAt d 0 2) (bitOf (leAt d 2 1) 0) 0 with
    | none => none
    | some (leaf, k) =>
      let x := (out[o]?).getD 0
      let v := f32Of (memRead mem (h.leafAt + 4 * leaf) 4)
      let y := fAdd x v
      walkTrees mem h bit n (t + 1) (out.set o y, visits + k, ovf + overflowed y [x, v])

/-- R463: node bit `n` of a row. -/
def nodeBit (mem : Mem) (row n : Nat) : Bool := !(f32Of (memRead mem (row + 4 * n) 4)).isZero

/-- R464: the outputs of each row, with visits and overflows; none where a walk faults. -/
def State.treeRows (s : State) (i : Nat) (h : TreeHead) (trees bitsAt : Nat) (rows : List Nat) :
    Option (List (Nat × List F32 × Nat × Nat)) :=
  let mem := (s.tile i).mem
  rows.foldr (fun r acc =>
    let base := (f32s h.outputs (memRead mem (h.at_ + 0x40) 256)).map (fun x => x.val.round)
    match acc, walkTrees mem h (nodeBit mem (bitsAt + 64 * rowUnits h.bits * r)) trees 0 (base, 0, 0) with
    | some l, some o => some ((r, o) :: l)
    | _, _ => none) (some [])

/-- TREE. -/
def treeWord (i : Nat) (s : State) (q : Issued) (b : Batch) : WordOut :=
  match q.word.op with
  | .tree t =>
    let a := q.ref t.trees
    let trees := t.treeCountMinus1 + 1
    let bitsAt := q.ref t.nodeBits
    s.guarded i b.partition [(a, 0x140 + 4 * trees)] (
      let h := s.treeHead i a
      let rows := List.range b.rows.length
      let step := 64 * rowUnits h.outputs
      let writes := (rows.filter (fun r => (s.tile i).writesRow q r)).map (fun r => (q.ref t.dst + step * r, 4 * h.outputs))
      let reads := (h.nodeAt, 8 * h.nodes) :: (h.leafAt, 4 * h.leaves) ::
        rows.map (fun r => (bitsAt + 64 * rowUnits h.bits * r, 4 * h.bits))
      s.guarded i b.partition (reads ++ writes) (s.unlocked i writes (
        match s.treeRows i h trees bitsAt rows with
        | none => .fault (s.bumpFor b.partition (Ctr.tileFaultTree i) 1) 4
        | some outs =>
          .done (outs.foldl (fun s o =>
            let u := if (s.tile i).writesRow q o.1 then s.tileWrite i (q.ref t.dst + step * o.1) (f32Bytes o.2.1) else s
            u.countRow i q b o.1 { visits := o.2.2.1, overflow := o.2.2.2 } 0 0) s))))
  | _ => .wait

/-- TREE words. -/
def TileOp.isTree : TileOp → Bool
  | .tree _ => true
  | _ => false

/-- TREE (R464). -/
def execTree (tile : Nat) (ecc : Ecc) (s : State) : Host.Outcome State Fault Refusal :=
  .next (s.runWord tile 7 TileOp.isTree ecc (treeWord tile))

end Sys2Proof.Machine
end

