-- ==== Sys2Proof/Machine/TileMove.lean ====
section
/-!
DEFINITION. Machine/TileMove.lean: words that leave a tile or stop its sequencer: LOAD, STORE, STATE, REDUCE, SYNC, WAIT and MARK
(Tables 08-12 to 08-15).
-/
namespace Sys2Proof.Machine

/-! ### Remote addresses (Table 08-13, R346, R347) -/

/-- TILE: the remote tile and the byte address in its memory. -/
def MoveOp.remoteTile (m : MoveOp) : Nat := tileIx (m.remote % 2) (bitsOf m.remote 1 2) (bitsOf m.remote 3 7)
def MoveOp.remoteAt (m : MoveOp) : Nat := 64 * bitsOf m.remote 10 17

/-- R346: a DRAM window of a batch's control set. -/
def State.window (s : State) (i : Nat) (b : Batch) (k : Nat) : DramWindow :=
  match (s.tile i).control b.epoch with
  | some c => (c.windows[k]?).getD { base := 0, size := 0 }
  | none => { base := 0, size := 0 }

/-- Bytes of a partition's DRAM region on each Wing. -/
def Partition.regionBytes (x : Partition) : Nat := 1073741824 * x.regionGib

/-- R289: the Larder of a partition in its region on each Wing: base and size in bytes. -/
def Partition.larderSpan (x : Partition) : Nat × Nat := (4096 * x.larderOff, 4 * 2 ^ x.shareLog2 * x.blockBytes)

/-- R291: an access of a region touches the Larder. -/
def Partition.inLarder (x : Partition) (a n : Nat) : Bool :=
  decide (a < x.larderSpan.1 + x.larderSpan.2) && decide (x.larderSpan.1 < a + n)

/-- R346, R347: accesses of a window, each an offset and a length: beyond its size they fault; a window that reaches outside the
partition's region, and an access to its Larder (R291, log entry 198), fault and set tile-isolation. -/
def State.inWindow (s : State) (i : Nat) (b : Batch) (d : DramWindow) (xs : List (Nat × Nat)) (k : WordOut) : WordOut :=
  if (s.partOf b.partition).regionBytes < d.base + d.size then .fault (s.setStickyIn (16 + i) 120) 4
  else if xs.any (fun x => decide (d.size < x.1 + x.2)) then .fault s 4
  else if xs.any (fun x => (s.partOf b.partition).inLarder (d.base + x.1) x.2) then .fault (s.setStickyIn (16 + i) 120) 4
  else k

/-- R817: a read of a DRAM window meets a word that is, or is found to be, uncorrectable: the batch faults. -/
def State.dramFault (s : State) (w p a : Nat) : State :=
  let k := regionKey w p (a - a % 64)
  let s := if s.health.poisoned.contains k then s else { s with health := { s.health with poisoned := k :: s.health.poisoned } }
  (s.bump (Ctr.wingDramUncorrectable w)).setStickyIn (1 + w) 128

/-- The first poisoned word of an access. -/
def State.poisonedAt (s : State) (w p a n : Nat) : Option Nat :=
  ((List.range ((n + 63) / 64)).find? (fun j => s.health.poisoned.contains (regionKey w p (a + 64 * j)))).map (fun j => a + 64 * j)

/-- Bytes of a partition's region on a Wing. -/
def State.regionRead (s : State) (w p a n : Nat) : Bytes := memRead ((s.wing w).region p) a n

/-- Stores bytes in a partition's region; a written word loses its poison (R817). -/
def State.regionWrite (s : State) (w p a : Nat) (bs : Bytes) : State :=
  let s := { s with health := { s.health with
    poisoned := s.health.poisoned.filter (fun k => decide (k < regionKey w p a) || decide (regionKey w p a + bs.length ≤ k)) } }
  let x := s.wing w
  s.setWing w { x with regions := mput x.regions p (memWrite (x.region p) a bs) }

/-- R347: a remote tile belongs to the batch's partition. -/
def State.ownTile (s : State) (i : Nat) (b : Batch) (j : Nat) (k : WordOut) : WordOut :=
  if s.ownsTile b.partition j then k else .fault (s.setStickyIn (16 + i) 120) 4

/-! ### LOAD, GATHER, STORE, PENDING -/

/-- LOAD from a tile or a DRAM window; `bad` names a 64-byte word of the transfer that DRAM could not correct. -/
def loadWord (i : Nat) (bad : Option Nat) (s : State) (q : Issued) (b : Batch) : WordOut :=
  match q.word.op with
  | .load m =>
    let n := 64 * m.length
    let dst := q.ref m.localRef
    s.guarded i b.partition [(dst, n)] (
      if m.kind = 0 then
        s.ownTile i b m.remoteTile (s.guarded m.remoteTile b.partition [(m.remoteAt, n)] (s.unlocked i [(dst, n)]
          (.done (s.tileWrite i dst (s.tileRead m.remoteTile m.remoteAt n)))))
      else
        let d := s.window i b (m.remote % 16)
        let off := 64 * bitsOf m.remote 4 32
        let w := tileWing i
        s.inWindow i b d [(off, n)] (s.unlocked i [(dst, n)] (
          match bad, s.poisonedAt w b.partition (d.base + off) n with
          | some u, _ => .fault (s.dramFault w b.partition (d.base + off + 64 * u)) 4
          | none, some a => .fault (s.dramFault w b.partition a) 4
          | none, none => .done (s.tileWrite i dst (s.regionRead w b.partition (d.base + off) n)))))
  | _ => .wait

/-- LOAD words that are no GATHER. -/
def TileOp.isLoad : TileOp → Bool
  | .load m => m.kind != 2
  | _ => false

/-- LOAD (R346). -/
def execLoad (tile : Nat) (ecc : Ecc) (dramBad : Option Nat) (s : State) : Host.Outcome State Fault Refusal :=
  .next (s.runWord tile 8 TileOp.isLoad ecc (loadWord tile dramBad))

/-- R346: the rows of a GATHER, one after another. -/
def gatherRows (s : State) (i w p base units dst : Nat) : Nat → List Nat → State
  | _, [] => s
  | k, x :: xs =>
    gatherRows (s.tileWrite i (dst + 64 * units * k) (s.regionRead w p (base + 64 * units * x) (64 * units))) i w p base units dst
      (k + 1) xs

/-- GATHER: row i reads row_units from window offset index[i] × row_units. -/
def gatherWord (i : Nat) (bad : Option Nat) (s : State) (q : Issued) (b : Batch) : WordOut :=
  match q.word.op with
  | .load m =>
    let units := bitsOf m.remote 24 8
    let ix := q.ref (bitsOf m.remote 4 20)
    let dst := q.ref m.localRef
    let n := 64 * units * m.length
    s.guarded i b.partition [(dst, n), (ix, 4 * m.length)] (
      let d := s.window i b (m.remote % 16)
      let w := tileWing i
      let is := (List.range m.length).map (fun k => leNat (s.tileRead i (ix + 4 * k) 4))
      s.inWindow i b d (is.map (fun x => (64 * units * x, 64 * units))) (s.unlocked i [(dst, n)] (
        match bad, is.findSome? (fun x => s.poisonedAt w b.partition (d.base + 64 * units * x) (64 * units)) with
        | some u, _ =>
          .fault (s.dramFault w b.partition (d.base + 64 * units * (is[u / units]?).getD 0 + 64 * (u % units))) 4
        | none, some a => .fault (s.dramFault w b.partition a) 4
        | none, none => .done (gatherRows s i w b.partition d.base units dst 0 is))))
  | _ => .wait

/-- GATHER words. -/
def TileOp.isGather : TileOp → Bool
  | .load m => m.kind == 2
  | _ => false

/-- GATHER (R346). -/
def execGather (tile : Nat) (ecc : Ecc) (dramBad : Option Nat) (s : State) : Host.Outcome State Fault Refusal :=
  .next (s.runWord tile 8 TileOp.isGather ecc (gatherWord tile dramBad))

/-- STORE to a tile or a DRAM window. -/
def storeWord (i : Nat) (s : State) (q : Issued) (b : Batch) : WordOut :=
  match q.word.op with
  | .store m =>
    let n := 64 * m.length
    let src := q.ref m.localRef
    s.guarded i b.partition [(src, n)] (
      if m.kind = 0 then
        s.ownTile i b m.remoteTile (s.guarded m.remoteTile b.partition [(m.remoteAt, n)] (s.unlocked m.remoteTile [(m.remoteAt, n)]
          (.done (s.tileWrite m.remoteTile m.remoteAt (s.tileRead i src n)))))
      else
        let d := s.window i b (m.remote % 16)
        let off := 64 * bitsOf m.remote 4 32
        s.inWindow i b d [(off, n)] (.done (s.regionWrite (tileWing i) b.partition (d.base + off) (s.tileRead i src n))))
  | _ => .wait

/-- STORE words to a tile or a window. -/
def TileOp.isStore : TileOp → Bool
  | .store m => m.kind != 3
  | _ => false

/-- STORE (R355). -/
def execStore (tile : Nat) (ecc : Ecc) (s : State) : Host.Outcome State Fault Refusal :=
  .next (s.runWord tile 8 TileOp.isStore ecc (storeWord tile))

/-- STORE with kind PENDING: a MODEL record goes to the row's pending store (R348); R666 says which records fault. -/
def pendingWord (i : Nat) (s : State) (q : Issued) (b : Batch) : WordOut :=
  match q.word.op with
  | .store m =>
    let n := 64 * m.length
    let src := q.ref m.localRef
    s.guarded i b.partition [(src, n)] (
      let bs := s.tileRead i src n
      let type := leAt bs 0 1
      let words := leAt bs 1 1 % 128
      if type < 0x80 ∨ words = 0 ∨ 64 < words ∨ 8 * m.length < words then .fault s 4
      else
        let w := batchHome q.batch
        match s.rowStair w q.batch b (m.remote % 128) with
        | some y =>
          .done (s.setStair w { y with records := y.records ++
            [{ queue := bitsOf m.remote 7 2, priority := bitsOf m.remote 9 3, data := bs.take (8 * words), batch := q.batch }] })
        | none => .done s)
  | _ => .wait

/-- STORE words with kind PENDING. -/
def TileOp.isPending : TileOp → Bool
  | .store m => m.kind == 3
  | _ => false

/-- PENDING (R348). -/
def execPending (tile : Nat) (ecc : Ecc) (s : State) : Host.Outcome State Fault Refusal :=
  .next (s.runWord tile 8 TileOp.isPending ecc (pendingWord tile))

/-! ### STATE (R349 to R351, R458, R459, R476) -/

/-- Bytes of a token row (log entry 39). -/
def SlotCfg.tokenBytes (c : SlotCfg) : Nat := 64 * ((2 * c.tokenWidth + 63) / 64)

/-- Rows of the batch that a STATE word names. -/
def StateOp.rows (x : StateOp) (b : Batch) : List Nat :=
  ((List.range x.rowCount).map (fun k => x.rowFirst + k)).filter (fun r => decide (r < b.rows.length))

/-- What a STATE word works on: a packet of the batch, or a rollout with its private copy. -/
inductive RowState where
  | packet (y : Stair)
  | rollout (start : RolloutStart) (block : Bytes)
  | gone
  deriving DecidableEq, Repr

/-- The row's packet or rollout. -/
def State.rowState (s : State) (w id : Nat) (b : Batch) (r : Nat) : RowState :=
  match b.rows[r]? with
  | some (.rollout st bl) => .rollout st bl
  | _ => match s.rowStair w id b r with | some y => .packet y | none => .gone

/-- R182, R349: writes the flow elements of a token into its row in tile memory. -/
def State.writeFlow (s : State) (i a : Nat) (c : SlotCfg) (tok : List (BitVec 16)) : State :=
  (c.features.filter (fun f => !f.packetClass)).foldl (fun s f =>
    let n := if f.transform = 3 then f.count else 1
    s.tileWrite i (a + 2 * f.element) ((slice16 tok f.element n).flatMap (fun e => leBytes 2 e.toNat))) s
where
  /-- Elements of a token from a place on. -/
  slice16 (tok : List (BitVec 16)) (k n : Nat) : List (BitVec 16) := (tok.drop k).take n

/-- One row of STATE IN: its block, and for a packet its flow elements. -/
def State.stateRow (s : State) (i : Nat) (c : SlotCfg) (blockAt tokenAt : Nat) (r : RowState) : State :=
  match r with
  | .packet y => (s.tileWrite i blockAt (y.input.getD [])).writeFlow i tokenAt c y.token
  | .rollout _ bl => s.tileWrite i blockAt bl
  | .gone => s

/-- The row's input state has not been delivered. -/
def RowState.missing : RowState → Bool
  | .packet y => y.input.isNone
  | _ => false

/-- STATE IN: once started it waits for every named row's input state (R349); a second one for a row faults the batch (R458),
and so does one on the other Wing (R21). -/
def stateInWord (i : Nat) (s : State) (q : Issued) (b : Batch) : WordOut :=
  match q.word.op, s.batchCfg b with
  | .state x, some (_, c) =>
    let w := batchHome q.batch
    let size := (s.partOf b.partition).blockBytes
    let rows := x.rows b
    let blockAt := fun (r : Nat) => q.ref x.state + size * (r - x.rowFirst)
    let tokenAt := fun (r : Nat) => q.ref x.token + c.tokenBytes * (r - x.rowFirst)
    if tileWing i ≠ w ∨ rows.any (fun r => b.stateIn.contains r) then .fault s 4
    else
      let writes := rows.map (fun r => (blockAt r, size)) ++
        (if b.graph = .rollout then [] else rows.map (fun r => (tokenAt r, 2 * c.tokenWidth)))
      s.guarded i b.partition writes (
        if rows.any (fun r => (s.rowState w q.batch b r).missing) then .hold
        else s.unlocked i writes (
          let s := rows.foldl (fun s r => s.stateRow i c (blockAt r) (tokenAt r) (s.rowState w q.batch b r)) s
          .done (s.setBatch q.batch { b with stateIn := b.stateIn ++ rows })))
  | _, _ => .wait

/-- STATE words with a sub-op. -/
def TileOp.isState (sub : Nat) : TileOp → Bool
  | .state x => x.subOp == sub
  | _ => false

/-- STATE_IN (R349). -/
def execStateIn (tile : Nat) (ecc : Ecc) (s : State) : Host.Outcome State Fault Refusal :=
  .next (s.runWord tile 9 (TileOp.isState 0) ecc (stateInWord tile))

/-- A CHECK word stands between a word address and the end of its segment. -/
def checkAhead (mem : Mem) : Nat → Nat → Bool
  | 0, _ => false
  | n + 1, pc =>
    match readWord (leNat (memRead mem (16 * pc) 16)) with
    | none => false
    | some x => x.op.isCheck || (x.last == 0 && checkAhead mem n (pc + 1))

/-- R350: some CHECK word of the batch's program has not completed, or its decision has not been carried out. -/
def Tile.checksLeft (t : Tile) (id : Nat) : Bool :=
  (t.cur == some id &&
    (t.checkWait || t.ret.isSome || (decide (t.pc < endPc) && checkAhead t.mem (393216 - t.pc) t.pc))) ||
  t.queues.any (fun e => e.2.any (fun q => q.batch == id && (q.wide || q.word.op.isCheck))) ||
  (t.arr0.live ++ t.arr1.live).any (fun p => p.issued.batch == id && p.issued.wide && !p.completed)

/-- R459: the released block: the header of R199, R285 and R293, and the model state as the program left it. -/
def releasedBlock (img : Image) (y : Stair) (body : Bytes) : Bytes :=
  let h := y.input.getD []
  newHeader img h y.pkt.epoch y.handle y.gen y.pkt.slot.at_ y.pkt.trueLen (histNext h img.layout.depth) ++ body

/-- R476, log entry 40: the private copy that a rollout's step leaves: its header with the history fields of R293. -/
def rolloutBlock (img : Image) (old body : Bytes) : Bytes :=
  slice old 0 0xC ++ leBytes 4 (histNext old img.layout.depth) ++ slice old 0x10 48 ++ body

/-- One row of STATE RELEASE: the header goes into the block in tile memory (R459), and the block becomes a packet's new state, with
its write lock (R351), or a rollout's private copy. -/
def State.releaseRow (s : State) (i id : Nat) (img : Image) (blockAt size r : Nat) (x : RowState) : State :=
  let w := batchHome id
  let body := s.tileRead i (blockAt + 64) (size - 64)
  match x with
  | .packet y =>
    let block := releasedBlock img y body
    let s := (s.setStair w { y with newState := some block, released := true }).tileWrite i blockAt (slice block 0 64)
    s.modTile i (fun t => { t with locks := t.locks ++ [{ lo := blockAt, hi := blockAt + size, packet := y.pkt.id }] })
  | .rollout st old =>
    let block := rolloutBlock img old body
    match s.batchOf id with
    | some b => (s.setBatch id { b with rows := b.rows.set r (.rollout st block) }).tileWrite i blockAt (slice block 0 64)
    | none => s
  | .gone => s

/-- STATE RELEASE: it does not start until every CHECK of its program has been carried out (R350); a second one for a row faults the
batch (R458), and so does one on the other Wing (R21). -/
def stateOutWord (i : Nat) (s : State) (q : Issued) (b : Batch) : WordOut :=
  match q.word.op, s.batchCfg b with
  | .state x, some (img, _) =>
    let w := batchHome q.batch
    let size := (s.partOf b.partition).blockBytes
    let rows := x.rows b
    let blockAt := fun (r : Nat) => q.ref x.state + size * (r - x.rowFirst)
    if tileWing i ≠ w ∨ rows.any (fun r => b.stateOut.contains r) then .fault s 4
    else
      s.guarded i b.partition (rows.map (fun r => (blockAt r, size))) (
        if (s.tile i).checksLeft q.batch then .wait
        else s.unlocked i (rows.map (fun r => (blockAt r, 64))) (
          let s := s.setBatch q.batch { b with stateOut := b.stateOut ++ rows }
          .done (rows.foldl (fun s r => s.releaseRow i q.batch img (blockAt r) size r (s.rowState w q.batch b r)) s)))
  | _, _ => .wait

/-- STATE_RELEASE (R350). -/
def execStateRelease (tile : Nat) (ecc : Ecc) (s : State) : Host.Outcome State Fault Refusal :=
  .next (s.runWord tile 9 (TileOp.isState 1) ecc (stateOutWord tile))

/-! ### REDUCE (R358) -/

/-- R358: the sums of contributions in slot order. -/
def reduceSum : List F32 → List (List F32) → List F32
  | acc, [] => acc
  | acc, x :: xs => reduceSum ((acc.zip x).map (fun e => fAdd e.1 e.2)) xs

/-- REDUCE: once started it waits for its arrivals, behind engines with lower codes (R320), and takes them from the token. -/
def reduceWord (i : Nat) (s : State) (q : Issued) (b : Batch) : WordOut :=
  match q.word.op with
  | .reduce r =>
    let n := 64 * r.length
    let count := r.countMinus1 + 1
    let at_ := fun (p : Nat) => q.ref r.slot0 + 64 * r.stride * p
    let reads := (List.range count).map (fun p => (at_ p, n))
    s.guarded i b.partition ((q.ref r.dst, n) :: reads) (
      if (s.tile i).spare r.arriveTok 10 < count then .hold
      else s.unlocked i [(q.ref r.dst, n)] (
        let xs := (List.range count).map (fun p => (f32s (16 * r.length) (s.tileRead i (at_ p) n)).map (fun x => x.val.round))
        .done ((s.takeToken i (q.actor i) r.arriveTok count).tileWrite i (q.ref r.dst) (f32Bytes (reduceSum (xs.headD []) (xs.drop 1))))))
  | _ => .wait

/-- REDUCE words. -/
def TileOp.isReduce : TileOp → Bool
  | .reduce _ => true
  | _ => false

/-- REDUCE (R358). -/
def execReduce (tile : Nat) (ecc : Ecc) (s : State) : Host.Outcome State Fault Refusal :=
  .next (s.runWord tile 10 TileOp.isReduce ecc (reduceWord tile))

/-! ### SYNC, WAIT, MARK (R321, R323, R352, R353) -/

/-- R352: the tiles that a SYNC word names. -/
def State.syncTargets (s : State) (i : Nat) (b : Batch) (x : SyncOp) : List Nat :=
  if x.targetKind = 0 then [tileIx x.wing x.gallery x.tile]
  else match (s.tile i).control b.epoch with | some c => (c.groups[x.tile]?).getD [] | none => []

/-- SYNC: an increment at each target; a target outside the partition faults as a TILE access does (R347). -/
def syncWord (i : Nat) (s : State) (q : Issued) (b : Batch) : WordOut :=
  match q.word.op with
  | .sync x =>
    let ts := s.syncTargets i b x
    if ts.any (fun j => !s.ownsTile b.partition j) then .fault (s.setStickyIn (16 + i) 120) 4
    else .done (ts.foldl (fun s j => s.addToken j (q.actor i) x.tok x.increment) s)
  | _ => .wait

/-- SYNC words. -/
def TileOp.isSync : TileOp → Bool
  | .sync _ => true
  | _ => false

/-- SYNC (R352). -/
def execSync (tile : Nat) (s : State) : Host.Outcome State Fault Refusal :=
  .next (s.runWord tile 8 TileOp.isSync {} (syncWord tile))

/-- A word at the sequencer completes and issue goes on. -/
def State.seqDone (s : State) (i : Nat) (q : Issued) (b : Batch) : State :=
  (((s.modTile i (fun t => { t with seqWord := none })).completeWord i q b).pump i).endCheck i q.batch

/-- WAIT (R323): once started, the sequencer goes on once the token holds count, and subtracts it. -/
def execWait (tile : Nat) (s : State) : Host.Outcome State Fault Refusal :=
  .next (
    let t := s.tile tile
    match t.seqWord with
    | none => s
    | some q =>
      match q.word.op, s.batchOf q.batch with
      | .wait tok count, some b =>
        if ¬ s.tileRuns tile ∨ ¬ (q.started ∨ s.tokenReady tile 0 q) then s
        else
          let u := s.begun tile q
          if (u.tile tile).token tok < count then u.modTile tile (fun t => { t with seqWord := some { q with started := true } })
          else (u.takeToken tile (q.actor tile) tok count).seqDone tile q b
      | _, _ => s)

/-- MARK (R353, Tables 21-9 and 21-10): a trace record with the value, and trigger MARK where its bit 31 is set. -/
def execMark (tile : Nat) (s : State) : Host.Outcome State Fault Refusal :=
  .next (
    match (s.tile tile).seqWord with
    | none => s
    | some q =>
      match q.word.op, s.batchOf q.batch with
      | .mark value, some b =>
        if ¬ s.tileRuns tile ∨ ¬ s.tokenReady tile 0 q then s
        else
          let s := s.startWord tile q
          let s := s.trace (16 + tile) { kind := 2, context := b.partition, layer := q.word.layer, op := q.word.opId, nt := s.nt
                                         arg0 := value + 4294967296 * (q.batch % 65536) }
          let s := if bitOf value 31 then s.fireIn 6 (16 + tile) else s
          s.seqDone tile q b
      | _, _ => s)

end Sys2Proof.Machine
end

