-- ==== Sys2Proof/Machine/Batches.lean ====
section
/-!
DEFINITION. Machine/Batches.lean: the dispatcher's batches (R34, R361, R430 to R435), their descriptors (R324, R693), quiesce
(R360), and rollouts (R475 to R483).
-/
namespace Sys2Proof.Machine

/-! ### Which packets a batch takes (R34, R35, R430, R455, R501) -/

/-- The packet's state lets it run a stage of a graph (R35, R37, R453, Table 07-1). -/
def Stair.mayRun (y : Stair) (c : SlotCfg) (g : GraphKind) (stage : Nat) : Bool :=
  match g with
  | .main =>
    if stage < statefulAt c.main then y.state == .admitted || y.state == .waitState || y.state == .step else y.state == .step
  | .noFlow => y.state == .noFlow
  | .rollout => false

/-- The packet waits for a batch of a stage. -/
def Stair.waits (y : Stair) (c : SlotCfg) (p m : Nat) (g : GraphKind) (stage : Nat) : Bool :=
  y.pkt.partition == p && y.pkt.modelSlot == m && y.batch.isNone && y.squash.isNone && !y.abandoned && y.stage == stage &&
    y.mayRun c g stage

/-- R361: the packet belongs to an aborted batch of the same stage that is to be issued again. -/
def Wing.bound (x : Wing) (y : Stair) (g : GraphKind) (stage : Nat) : Bool :=
  x.batches.any (fun e => e.2.aborted && e.2.graph == g && e.2.stage == stage && e.2.rows.contains (.packet y.pkt.id))

/-- R34, R430, R501: a packet cannot join a batch that holds others. -/
def mustClose (c : SlotCfg) (g : GraphKind) (stage : Nat) (rows : List Stair) (y : Stair) : Bool :=
  match rows with
  | [] => false
  | x :: _ =>
    x.pkt.epoch != y.pkt.epoch || (!c.sites.isEmpty && c.statOf x.pkt.slot.at_ != c.statOf y.pkt.slot.at_) ||
      (g == .main && decide (statefulAt c.main ≤ stage) && rows.any (fun z => some z.pkt.id == y.pred))

/-- R34: the packets of the open batch, oldest first, and whether it closes before it adds a further one. -/
def gather (c : SlotCfg) (g : GraphKind) (stage size : Nat) : List Stair → List Stair → List Stair × Bool
  | rows, [] => (rows, false)
  | rows, y :: ys =>
    if size ≤ rows.length then (rows, true)
    else if mustClose c g stage rows y then (rows, true)
    else gather c g stage size (rows ++ [y]) ys

/-- R434: every token of the batch's model slot stamped before (n − 1) × L has committed. -/
def State.settled (s : State) (b : Batch) (c : SlotCfg) : Bool :=
  let limit := (b.stat - 1) * (16000 * max 1 c.statLength)
  let old := fun (k : Packet) => k.partition == b.partition && k.modelSlot == b.modelSlot && decide (k.slot.at_ < limit)
  let wing := fun (x : Wing) => x.stairs.any (fun y => old y.pkt) || (x.queue b.partition).any old
  c.sites.isEmpty || !(s.hall.tokens.any old || wing s.wing0 || wing s.wing1)

/-! ### Sending (R325, R434, R435, R492) -/

/-- Log entry 39: the batch's token rows are in a tile's memory before its descriptor arrives; on the other Wing, which no flow state
reaches (R21), with their packet elements. -/
def State.writeTokens (s : State) (w i : Nat) (b : Batch) (c : SlotCfg) : State :=
  let at_ := 64 * (b.place.tokenAt + s.areaUnits b i)
  (List.range b.rows.length).foldl (fun (s : State) r =>
    match b.rows[r]? with
    | some (BatchRow.packet id) =>
      match (s.wing w).stairOf id with
      | some y => s.ownWrite b.partition i (at_ + c.tokenBytes * r) ((if tileWing i = w then y.token else y.pkt.token).flatMap (fun e => leBytes 2 e.toNat))
      | none => s
    | _ => s) s

/-- A batch is sent to its tiles: tokens, scale block and descriptor. -/
def State.sendBatch (s : State) (w id : Nat) (b : Batch) (c : SlotCfg) : State :=
  let b := { b with sent := true, issues := b.issues + 1 }
  let s := s.setBatch id b
  let s := b.place.tiles.foldl (fun s i => (s.writeTokens w i b c).writeScales i b c) s
  s.sendDescs id b.place.tiles

/-- The tiles of a placement are tiles that the partition owns and that hold the epoch's image (R499, R501), on the home Wing
unless the stage may run on either (R22). -/
def State.placeOk (s : State) (w p epoch : Nat) (either : Bool) (pl : Placement) : Bool :=
  !pl.tiles.isEmpty &&
    pl.tiles.all (fun i => (either || tileWing i == w) && s.ownsTile p i && ((s.tile i).control epoch).isSome)

/-- R21, R22: a stage that may run on either Wing: a stateless one that reads no flow state. -/
def StageCfg.mayCross (g : StageCfg) : Bool := g.kind != .stateful && !g.readsState && !g.readsFlow

/-- Takes the number of the next batch of a Wing; the Hall's order goes on (R361). -/
def State.newBatch (s : State) (w : Nat) (b : Batch) : State × Nat :=
  let x := s.wing w
  let id := batchNumber w x.batchCtr
  let s := { s with hall := { s.hall with batchOrder := s.hall.batchOrder + 1 } }
  (s.setWing w { x with batchCtr := x.batchCtr + 1, batches := mput x.batches id b }, id)

/-- The number that the Wing's next batch takes is free. -/
def Wing.numberFree (x : Wing) (w : Nat) : Bool := (mfind x.batches (batchNumber w x.batchCtr)).isNone

/-- BATCH_CLOSE (R34, R430): the open batch of a stage closes when it is full, when a packet must not join it, or when its
oldest token has waited the batch wait; it is sent unless R434 holds it back. -/
def execBatchClose (wing partition modelSlot : Nat) (graph : GraphKind) (stage : Nat) (place : Placement) (s : State) :
    Host.Outcome State Fault Refusal :=
  .next (
    let x := s.wing wing
    let cand := fun (y : Stair) => match s.modelOf y.pkt with
      | some (_, c) => y.waits c partition modelSlot graph stage && !x.bound y graph stage
      | none => false
    match x.stairs.filter cand with
    | [] => s
    | y :: ys =>
      match s.modelOf y.pkt with
      | none => s
      | some (_, c) =>
        let stages := if graph = .main then c.main else c.noFlow
        match stages[stage]? with
        | none => s
        | some g =>
          let size := if g.batchWait = 0 then 1 else min 128 (max 1 g.batchSize)
          let r := gather c graph stage size [] (y :: ys)
          let due := decide (size ≤ r.1.length) || r.2 || r.1.any (fun z => decide (z.since + 16 * g.batchWait ≤ s.nt))
          if !due || !x.numberFree wing || !s.wingFree wing ||
              !s.placeOk wing partition y.pkt.epoch g.mayCross place then s
          else
            let b : Batch :=
              { partition := partition, modelSlot := modelSlot, imageSlot := y.pkt.imageSlot, epoch := y.pkt.epoch, graph := graph
                stage := stage, rows := r.1.map (fun z => .packet z.pkt.id), place := place
                stat := c.statOf y.pkt.slot.at_, order := s.hall.batchOrder }
            let n := s.newBatch wing b
            let s := r.1.foldl (fun s z => s.setStair wing { z with batch := some n.2 }) n.1
            if s.settled b c then s.sendBatch wing n.2 b c else s)

/-- R478: a verdict batch waits for a tile: its descriptor has not started there, it has not been sent, or it is to be issued
again. -/
def State.verdictWaits (s : State) (i : Nat) : Bool :=
  (s.tile i).descs.any (fun id => match s.batchOf id with | some b => b.graph != .rollout | none => false) ||
    s.allBatches.any (fun e => e.2.graph != .rollout && e.2.place.tiles.contains i &&
      (!e.2.sent || (e.2.aborted && !e.2.abandoned)))

/-- R478: a rollout batch is not issued while a verdict batch waits for a tile of its plan. -/
def State.blocked (s : State) (b : Batch) : Bool := b.plan.any (fun q => q.tiles.any (fun i => s.verdictWaits i))

/-- SETTLE_WAIT (R434, R478): a batch that was held back is sent. -/
def execSettleWait (wing batch : Nat) (s : State) : Host.Outcome State Fault Refusal :=
  .next (
    let id := batchNumber wing batch
    match s.batchOf id with
    | none => s
    | some b =>
      match s.batchCfg b with
      | none => s
      | some (_, c) => if b.sent || b.aborted || !s.settled b c || s.blocked b || !s.wingFree wing then s else s.sendBatch wing id b c)

/-! ### Descriptors (R324, R325, R492, R693) -/

/-- R693: the feeders, codebooks, scale registers and buffer of an array return to their contents at tile start; what its banks and
lanes hold becomes zero, and its counts go on. -/
def MatArray.contextClear (x : MatArray) : MatArray :=
  let zeros := fun (v : List (BitVec 32)) => List.replicate v.length (0#32)
  { ({} : MatArray) with
    form := x.form, parked := x.parked, passes := x.passes, drains := x.drains, preloads := x.preloads
    live := x.live.map (fun (p : Pass) => { p with acc := zeros p.acc })
    pre := x.pre.map (fun (e : Nat × List (BitVec 32)) => (e.1, zeros e.2)) }

/-- R693: the shared blocks of a tile return to their contents at tile start. -/
def Tile.contextClear (t : Tile) : Tile :=
  { t with arr0 := t.arr0.contextClear, arr1 := t.arr1.contextClear, act := [], enc := [], tokens := [] }

/-- Nothing of an earlier batch runs on the tile. -/
def Tile.quiet (t : Tile) : Bool :=
  t.queues.all (fun e => e.2.isEmpty) && (t.arr0.live ++ t.arr1.live).all (·.completed) && t.seqWord.isNone

/-- R693: a batch of another context than that of the previous batch begins. -/
def State.needsClear (s : State) (t : Tile) (p : Nat) : Bool :=
  s.is4840 && (match t.context with | some c => c != p | none => false)

/-- R324: the sequencer loads the bases and starts at the entry point; rows of an earlier batch that run again go on (R444). -/
def State.startProgram (s : State) (i id : Nat) (b : Batch) (c : ControlSet) : State :=
  let t := s.tile i
  let clear := s.needsClear t b.partition
  let t := if clear then t.contextClear else t
  let s := if clear then s.countFor b (Ctr.tileContextClear i) 1 else s
  let s := s.setTile i { t with
    descs := t.descs.drop 1, cur := some id, bases := s.baseRegs b i, pc := (c.entries[b.place.entry]?).getD 0, ret := none
    checkWait := false, context := if s.is4840 then some b.partition else none }
  (s.pump i).endCheck i id

/-- BATCH_DESCRIPTOR (R324, R325): the oldest descriptor of a tile starts once the sequencer has issued the whole program of
the batch before it; `ecc` tells of errors that its fetches meet (R313). -/
def execBatchDescriptor (tile : Nat) (ecc : Ecc) (s : State) : Host.Outcome State Fault Refusal :=
  .next (
    let t := s.tile tile
    match t.cur, t.descs with
    | none, id :: _ =>
      match s.batchOf id with
      | none => s.setTile tile { t with descs := t.descs.drop 1 }
      | some b =>
        match t.control b.epoch with
        | none => s
        | some c =>
          if b.aborted || !s.tileRuns tile || (s.needsClear t b.partition && !t.quiet) then s
          else if ecc.bad then
            (((s.countCorrected tile ecc).tileUncorrectable tile ecc).setTile tile
              { (s.tile tile) with descs := t.descs.drop 1 }).faultBatch id 4 true
          else (s.countCorrected tile ecc).startProgram tile id b c
    | _, _ => s)

/-! ### Quiesce and re-issue (R283, R322, R360, R361) -/

/-- R360, R364, R376: an array after a quiesce: halves EMPTY, banks clear, lanes empty, counts restarted; form, codebooks and
scale registers stay (R397, R422). -/
def MatArray.quiesced (x : MatArray) : MatArray :=
  { x with
    a0 := x.a0.empty, a1 := x.a1.empty, b0 := x.b0.empty, b1 := x.b1.empty, passes := 0, drains := 0, preloads := 0, live := []
    pre := [], drainBuf := none, bufRead := true }

/-- R360: a tile discards its words, its batches, tokens and write locks. -/
def Tile.quiesced (t : Tile) : Tile :=
  { t with
    tokens := [], descs := [], cur := none, ret := none, checkWait := false, seqWord := none, queues := []
    arr0 := t.arr0.quiesced, arr1 := t.arr1.quiesced, clips := [], wideRows := [], locks := [] }

/-- R360, log entry 41: a batch that a quiescing tile discards is recalled from every tile, to be issued again. -/
def Batch.recall (b : Batch) (i : Nat) : Batch :=
  if !b.place.tiles.contains i || !b.sent then b
  else if b.aborted then (if b.quiesced.contains i then b else { b with quiesced := i :: b.quiesced })
  else if b.ended.contains i || b.rolled then b
  else { b with aborted := true, quiesced := [i] }

/-- R22, R360: the batches of a home Wing that a quiescing tile discards. -/
def State.recallAll (s : State) (w i : Nat) : State :=
  let x := s.wing w
  s.setWing w { x with batches := x.batches.map (fun (e : Nat × Batch) => (e.1, e.2.recall i)) }

/-- QUIESCE (R360): a tile that runs an aborted batch has discarded its work and cleared its state. -/
def execQuiesce (tile : Nat) (s : State) : Host.Outcome State Fault Refusal :=
  .next (
    let w := tileWing tile
    if !s.quiescing tile || !s.wingFree w then s
    else
      ((s.modTile tile Tile.quiesced).recallAll 0 tile).recallAll 1 tile)

/-- R361: an older aborted batch that shares a tile is issued again first. -/
def State.olderAborted (s : State) (b : Batch) : Bool :=
  s.allBatches.any (fun e => e.2.aborted && decide (e.2.order < b.order) &&
    e.2.place.tiles.any (fun i => b.place.tiles.contains i))

/-- What a row of a batch that is to be issued again does: it goes with the batch, it has left it for good, or the batch waits
for it. -/
inductive Rejoin where
  | ready | left | waits
  deriving DecidableEq, Repr

/-- R280, R361: whether a packet of an aborted batch has come back to the batch's stage. -/
def Wing.rejoin (x : Wing) (id : Nat) (b : Batch) (c : SlotCfg) : BatchRow → Rejoin
  | .rollout _ _ => .ready
  | .packet k =>
    match x.stairOf k with
    | none => .left
    | some y =>
      let other := match b.graph with | .noFlow => y.state == .step || y.state == .ready | _ => y.state == .noFlow
      if y.abandoned || other then .left
      else if y.squash.isNone && y.stage == b.stage && y.mayRun c b.graph b.stage && (y.batch.isNone || y.batch == some id) then .ready
      else .waits

/-- R361, R458: what an aborted run of the batch left with a packet is gone. -/
def Stair.reissued (y : Stair) (id : Nat) : Stair :=
  { y with
    batch := some id, batchCounts := []
    verdict := match y.verdict with | some v => if v.batch = id then none else some v | none => none
    records := y.records.filter (fun r => r.batch != id) }

/-- The batch as it is issued again: a rollout starts from its input block (R480). -/
def Batch.afresh (b : Batch) (rows : List BatchRow) : Batch :=
  { b with
    aborted := false, quiesced := [], ended := [], stateIn := [], stateOut := [], counts := [], forecast := []
    rows := rows.map (fun r => match r with | .rollout st _ => .rollout st st.block | p => p)
    stage := if b.graph = .rollout then 0 else b.stage, steps := 0
    place := if b.graph = .rollout then (b.plan[0]?).getD b.place else b.place }

/-- R480, R813: the rollouts of a batch that has gone leave their queue. -/
def State.dropRollouts (s : State) (p id w : Nat) : State :=
  s.modPart p (fun x => { x with rollouts := x.rollouts.filter (fun r => !(r.batch == some id && r.wing == w)) })

/-- R361: the batch is issued again with the packets that remain. -/
def State.reissue (s : State) (w id : Nat) (b : Batch) (c : SlotCfg) (rows : List BatchRow) : State :=
  let s := rows.foldl (fun s r =>
    match r with
    | .packet k => match (s.wing w).stairOf k with | some y => s.setStair w (y.reissued id) | none => s
    | _ => s) s
  s.sendBatch w id (b.afresh rows) c

/-- REISSUE (R361, R478): once every tile of an aborted batch has quiesced and its packets have come back to its stage, the
dispatcher issues it again, older batches of its tiles first; an abandoned batch goes (R813). -/
def execReissue (wing batch : Nat) (s : State) : Host.Outcome State Fault Refusal :=
  .next (
    let x := s.wing wing
    let id := batchNumber wing batch
    match s.batchOf id with
    | none => s
    | some b =>
      match s.batchCfg b with
      | none => if b.aborted then s.dropBatch id else s
      | some (_, c) =>
        if !b.aborted || !b.place.tiles.all (fun i => b.quiesced.contains i) || !s.wingFree wing then s
        else if b.abandoned then (s.dropRollouts b.partition id wing).dropBatch id
        else if s.olderAborted b || s.blocked b || b.rows.any (fun r => x.rejoin id b c r == .waits) then s
        else
          let rows := b.rows.filter (fun r => x.rejoin id b c r == .ready)
          if rows.isEmpty then s.dropBatch id
          else s.reissue wing id b c rows)

/-! ### Rollouts (R478 to R481) -/

/-- R481: an epoch of a partition is resident: its number names an image slot whose image is resident. -/
def Partition.epochResident (x : Partition) (epoch : Nat) : Option Epoch :=
  (x.epochs.find? (fun e => e.number == epoch)).bind (fun e => if (x.slot e.slot).resident then some e else none)

/-- Marks the first `n` queued rollouts of a batch. -/
def markRollouts (w m epoch id : Nat) : Nat → List RolloutStart → List RolloutStart
  | _, [] => []
  | 0, l => l
  | n + 1, r :: rs =>
    if r.wing = w ∧ r.modelSlot = m ∧ r.epoch = epoch ∧ r.batch = none then
      { r with batch := some id } :: markRollouts w m epoch id n rs
    else r :: markRollouts w m epoch id (n + 1) rs

/-- ROLLOUT_BATCH (R478, R481): up to 8 queued rollouts of one model slot and epoch become a batch on tiles of the home Wing
for which no verdict batch waits; rollouts of an epoch that is no longer resident are discarded. -/
def execRolloutBatch (wing partition modelSlot : Nat) (plan : List Placement) (s : State) : Host.Outcome State Fault Refusal :=
  .next (
    let x := s.partOf partition
    let mine := fun (r : RolloutStart) => r.wing == wing && r.modelSlot == modelSlot && r.batch.isNone
    match (if s.wingFree wing then x.rollouts.find? mine else none) with
    | none => s
    | some first =>
      let same := fun (r : RolloutStart) => mine r && r.epoch == first.epoch
      match x.epochResident first.epoch with
      | none =>
        let n := (x.rollouts.filter same).length
        (s.setPart partition { x with rollouts := x.rollouts.filter (fun r => !same r) }).bumpN
          (ctrOnWing wing (Ctr.partRolloutDiscarded partition)) n
      | some e =>
        match s.slotCfg partition e.slot modelSlot, plan with
        | some c, pl :: _ =>
          if ¬ c.rollsOut ∨ plan.length ≠ c.rollout.length ∨ ¬ plan.all (fun q => s.placeOk wing partition first.epoch false q) ∨
              plan.any (fun q => q.tiles.any (fun i => s.verdictWaits i)) ∨ ¬ (s.wing wing).numberFree wing then s
          else
            let rs := (x.rollouts.filter same).take 8
            let b : Batch :=
              { partition := partition, modelSlot := modelSlot, imageSlot := e.slot, epoch := first.epoch, graph := .rollout, stage := 0
                rows := rs.map (fun r => .rollout r r.block), place := pl, stat := c.statOf first.startNt, plan := plan
                order := s.hall.batchOrder }
            let n := s.newBatch wing b
            let s := n.1.setPart partition { x with rollouts := markRollouts wing modelSlot first.epoch n.2 8 x.rollouts }
            if s.settled b c then s.sendBatch wing n.2 b c else s
        | _, _ => s)

/-- Table 12-7 behind its header. -/
def rolloutBody (st : RolloutStart) (c : RolloutCfg) (forecast : List (BitVec 16)) : Bytes :=
  let n := c.steps * c.width
  let bs := ((forecast ++ List.replicate n 0).take n).flatMap (fun (v : BitVec 16) => leBytes 2 v.toNat)
  leBytes 4 st.tag ++ leBytes 2 st.epoch ++ leBytes 1 (c.steps + 32 * b2n st.fromCommand) ++ leBytes 1 c.width ++
    leBytes 4 st.handle ++ leBytes 4 0 ++ leBytes 8 st.startNt ++ bs ++ zeroBytes (8 * ((n + 3) / 4) - 2 * n)

/-- Removes the first rollout of a batch from a queue. -/
def unqueue (w id : Nat) : List RolloutStart → List RolloutStart
  | [] => []
  | r :: rs => if r.batch = some id ∧ r.wing = w then rs else r :: unqueue w id rs

/-- ROLLOUT_RECORD (R479): the record of the first rollout of a batch whose last step has completed; the forecast values are
those that its steps left in tile memory (log entry 42). -/
def execRolloutRecord (wing batch : Nat) (s : State) : Host.Outcome State Fault Refusal :=
  .next (
    let id := batchNumber wing batch
    match s.batchOf id with
    | none => s
    | some b =>
      match s.batchCfg b, b.rows with
      | some (_, c), .rollout st _ :: rest =>
        if ¬ b.rolled ∨ ¬ s.wingFree wing then s
        else
          let p := b.partition
          let s := s.bump (ctrOnWing wing (Ctr.partRolloutCompleted p))
          let s := s.record p c.rolloutCfg.queue c.rolloutCfg.priority 5 (rolloutBody st c.rolloutCfg (b.forecast.headD []))
          let s := s.modPart p (fun x => { x with rollouts := unqueue wing id x.rollouts })
          if rest.isEmpty then s.dropBatch id else s.setBatch id { b with rows := rest, forecast := b.forecast.drop 1 }
      | _, _ => s)

end Sys2Proof.Machine
end

