-- ==== Sys2Proof/Machine/Observe.lean ====
section
/-!
DEFINITION. Machine/Observe.lean: counters, snapshots, trace buffers and triggers (chapter 21).
-/
namespace Sys2Proof.Machine

/-! ### The counter catalog (R766 to R768, Table 21-3) -/

/-- R766: the index of an identifier. -/
def ctrIndex (id : Nat) : Nat := id % 4096

/-- A tile instance of Table 21-3 exists on the part. -/
def State.tileExists (s : State) (i : Nat) : Bool :=
  decide (i / 512 < s.wings) && decide (i % 512 / 128 < 3) && decide (i % 128 < 96)

/-- Counters of an instance of a group; 0 when the part has no such instance. -/
def State.groupCount (s : State) (group inst : Nat) : Nat :=
  let n := fun (limit count : Nat) => if inst < limit then count else 0
  match group with
  | 1 => n 1 Ctr.hallCount
  | 2 => n 1 Ctr.ruleCount
  | 3 => n s.wings Ctr.fragCount
  | 4 => n s.lanesN Ctr.laneCount
  | 5 => n s.lanesN Ctr.portCount
  | 6 => n 4096 Ctr.queueCount
  | 7 => n 9 Ctr.funcCount
  | 8 => n s.partsN Ctr.partCount
  | 9 => n (4 * s.partsN) Ctr.rqCount
  | 10 => if inst / 16 < s.wings ∧ inst % 16 < s.partsN then Ctr.pwCount else 0
  | 11 => n s.wings Ctr.wingCount
  | 12 => if s.tileExists inst then Ctr.tileCount else 0
  | 13 => if s.is4840 then 0 else n 1 Ctr.pairCount
  | _ => 0

/-- The identifier names a counter of the part. -/
def State.ctrExists (s : State) (id : Nat) : Bool := decide (ctrIndex id < s.groupCount (ctrGroup id) (ctrInst id))

/-- The values of counters in a table, added with saturation. -/
def sumCtrs (t : Tab Nat) (ids : List Nat) : Nat := ids.foldl (fun n k => satAdd max64 n (mget 0 t k)) 0

/-- R694, R768, R772: the identifiers of the parts of a counter that function `fn` reads: a partition's counters are the sums of the
Hall's part and the parts of the Wings; those of a tile of the IKF-4840 the sums of the parts of the contexts, for a VF of its own. -/
def State.ctrParts (s : State) (fn id : Nat) : List Nat :=
  if ctrGroup id = 8 then [id, ctrOnWing 0 id, ctrOnWing 1 id]
  else if ctrGroup id = 12 ∧ s.is4840 then
    if fn = 0 then id :: (List.range s.partsN).map (fun p => ctrOfContext p id) else (s.partsOf fn).map (fun p => ctrOfContext p id)
  else [id]

/-- R678: the levels that `partition*.rq*.records_waiting` reports. -/
def State.levels (s : State) : Tab Nat := s.rqs.map (fun q => (Ctr.rqWaiting q.1, q.2.waiting))

/-- R768, R772: the value of a counter as function `fn` reads it. -/
def State.readCtr (s : State) (fn id : Nat) : Nat :=
  if !s.ctrExists id then 0
  else if ctrGroup id = 9 ∧ id = Ctr.rqWaiting (ctrInst id) then mget 0 s.levels id
  else sumCtrs s.counters (s.ctrParts fn id)

/-- R604, R776: the counter instance belongs to the function. -/
def State.groupOf (s : State) (fn group inst : Nat) : Bool :=
  let own := fun (p : Nat) => (s.partsOf fn).contains p
  fn == 0 ||
    match group with
    | 6 => own (s.setting 0x4001 inst 0)
    | 7 => inst == fn
    | 8 => own inst
    | 9 => own (inst / 4)
    | 10 => own (inst % 16)
    | 12 => (s.partsOf fn).any (fun p => s.tileOwned p inst)
    | _ => false

/-- COUNTER_READ (R768). -/
def execCounterRead (c : CmdIn) (firstId count : Nat) (s : State) : Host.Outcome State Fault Refusal :=
  .next (
    let bad := [(!decide (1 ≤ count ∧ count ≤ 65536), 0x14)]
    runRead 0x0701 (.counterRead c firstId count) c bad s (fun cmd s =>
      let ids := (List.range count).map (firstId + ·)
      let named := ids.filter s.ctrExists
      let fn := if cmd.fn < 9 then cmd.fn else 0
      if named.any (fun i => !s.groupOf fn (ctrGroup i) (ctrInst i)) then fail stDenied
      else { status := stOk, info := named.length, reply := ids.flatMap (fun i => leBytes 8 (s.readCtr fn i)) }))

/-! ### Snapshots (R771 to R778) -/

/-- R771, log entry 29: the block that keeps a counter. -/
def ctrBlock (id : Nat) : Nat :=
  let id := id % 4294967296
  let i := ctrInst id
  match ctrGroup id with
  | 4 => blkLanes
  | 5 => blkExport
  | 6 => blkExport
  | 8 => if i / 1024 = 0 then blkObserve else blkStairwell (i / 1024 - 1)
  | 10 => blkStairwell (i / 16)
  | 11 => blkCellar i
  | 12 => blkCellar (i / 512)
  | _ => blkObserve

/-- Group instances of a function's snapshot in identifier order (R776). -/
def State.shotGroups (s : State) (fn : Nat) : List (Nat × Nat) :=
  let inst := fun (g n : Nat) => (List.range n).map (fun i => (g, i))
  let all := inst 1 1 ++ inst 2 1 ++ inst 3 2 ++ inst 4 48 ++ inst 5 48 ++ inst 6 4096 ++ inst 7 9 ++ inst 8 16 ++
    inst 9 64 ++ inst 10 32 ++ inst 11 2 ++ inst 12 1024 ++ inst 13 1
  all.filter (fun e => s.groupCount e.1 e.2 != 0 && s.groupOf fn e.1 e.2)

/-- Table 21-4: one attribution record. -/
def AttrRec.bytes (r : AttrRec) : Bytes :=
  leBytes 4 (r.layer + 4096 * r.op + 16777216 * r.context) ++ leBytes 4 r.words ++ leBytes 8 r.engineBusy
    ++ leBytes 8 r.engineStalled ++ leBytes 8 r.cellBusy ++ leBytes 8 r.cellStalled ++ leBytes 8 r.cellPadded

/-- R694, R777: the attribution section over the tiles among a function's instances; a VF has the records of its own partitions or
contexts. -/
def State.attrSection (s : State) (fn : Nat) (gs : List (Nat × Nat)) : Bytes :=
  let tiles := gs.filter (fun e => e.1 == 12)
  tiles.flatMap (fun e =>
    let recs := (mget [] s.obs.attr e.2).filter (fun r => fn == 0 || (s.partsOf fn).contains r.context)
    leBytes 8 e.2 ++ leBytes 8 recs.length ++ recs.flatMap AttrRec.bytes)

/-- R776 (log entry 30): the bytes a snapshot can need. -/
def State.shotBytes (s : State) (fn : Nat) (toHost : Bool) : Nat :=
  let gs := s.shotGroups fn
  let vals := (gs.map (fun e => 16 + 8 * s.groupCount e.1 e.2)).foldl (· + ·) 0
  let tiles := (gs.filter (fun e => e.1 == 12)).length
  0x40 + vals + (if toHost then tiles * (16 + 512 * 48) else 0)

/-- Offsets of the values of each group instance, from the first one's. -/
def dirEntries (s : State) : Nat → List (Nat × Nat) → Bytes
  | _, [] => []
  | off, (g, i) :: rest =>
    let n := s.groupCount g i
    leBytes 4 (Ctr.ident g i 0) ++ leBytes 4 n ++ leBytes 8 off ++ dirEntries s (off + 8 * n) rest

/-- Table 21-5: a snapshot of the instances `gs` of a function as it stands in a window or in host memory. -/
def Snap.bytes (x : Snap) (s : State) (fn : Nat) (gs : List (Nat × Nat)) : Bytes :=
  let vals := gs.flatMap (fun e => (List.range (s.groupCount e.1 e.2)).flatMap (fun k =>
    leBytes 8 (sumCtrs x.copied (s.ctrParts fn (Ctr.ident e.1 e.2 k)))))
  let attr := if x.toHost then s.attrSection fn gs else []
  let valOff := 0x40 + 16 * gs.length
  let head := leBytes 4 0x50414E53 ++ leBytes 2 1 ++ leBytes 2 (fn + 16 * b2n x.late + 32 * b2n (x.ring == none))
    ++ leBytes 4 s.obs.snapTaken ++ leBytes 4 gs.length ++ leBytes 8 x.instant ++ leBytes 8 x.lastCopy
    ++ leBytes 8 (valOff + vals.length + attr.length) ++ leBytes 8 (if attr.isEmpty then 0 else valOff + vals.length)
    ++ zeroBytes 16
  head ++ dirEntries s valOff gs ++ vals ++ attr

/-- R549, R771: the occurrence of a snapshot; those of periodic snapshots are occurrences of one periodic event. -/
def Snap.occ (x : Snap) : Occ :=
  match x.ring with
  | some _ => { instant := x.instant, kind := evSnapshot, key := x.number + 1, periodic := false }
  | none => { instant := x.instant, kind := evSnapshot, key := 0, periodic := true }

/-- A snapshot that blocks are to copy. -/
def State.listSnap (s : State) (x : Snap) : State :=
  { s with obs := { s.obs with snaps := s.obs.snaps ++ [x], snapNumber := (s.obs.snapNumber + 1) % 4294967296 } }

/-- A snapshot is an occurrence in every block (R771). -/
def State.beginSnap (s : State) (x : Snap) : State :=
  s.blocks.foldl (fun (s : State) b => s.enqueue b x.occ) (s.listSnap x)

/-- R771, R775: the snapshot that an occurrence of a block copies. -/
def State.snapOf (s : State) (o : Occ) : Option Snap :=
  s.obs.snaps.find? (fun x => x.occ == o)

/-- SNAPSHOT (R774). -/
def execSnapshot (c : CmdIn) (toHost : Bool) (atNt hostAddr length : Nat) (s : State) : Host.Outcome State Fault Refusal :=
  .next (
    let bad := [(!toHost && hostAddr != 0, 0x10), (!toHost && length != 0, 0x18)]
    runCmd 0x0702 (.snapshot c toHost atNt hostAddr length) c bad s (fun cmd s =>
      let fn := if cmd.fn < 9 then cmd.fn else 0
      let need := s.shotBytes fn toHost
      let clock := if atNt = 0 then none else s.instantFault
      if !toHost && !bitOf ((s.enabledOf cmd.fn).getD 0) 6 then (some (fail stNoFeature), s)
      else
        match clock with
        | some st => (some (fail st), s)
        | none =>
          if atNt ≠ 0 ∧ ¬ leadOk (s.arrival c.ring) atNt then (some (badParam 40), s)
          else if toHost ∧ length < need then (some { status := stBadParam, detail := need }, s)
          else if 16 ≤ (s.obs.snaps.filter (fun x => x.ring.isSome)).length ∨ s.blocks.any (fun b => s.queueFull b) then
            (some (fail stBusy), s)
          else
            let t := if atNt = 0 then s.time.tick.nt else atNt
            (none, s.beginSnap { number := s.obs.snapNumber, ring := some c.ring, fn := fn, toHost := toHost,
                                 hostAddr := hostAddr, instant := t, groups := s.shotGroups fn, left := s.blocks, copied := [], lastCopy := 0,
                                 late := false }))
      (fun cmd _ => if toHost && decide (9 ≤ cmd.fn) then some (fail stDenied) else none))

/-- Table 21-6: TELEMETRY items of one group instance, from its index `k` on. -/
def Snap.telemetry (x : Snap) (s : State) (g i count : Nat) : Nat → Nat → List ExpItem
  | 0, _ => []
  | fuel + 1, k =>
    if count ≤ k then []
    else
      let n := min 177 (count - k)
      let val := fun (j : Nat) => sumCtrs x.copied (s.ctrParts 0 (Ctr.ident g i (k + j)))
      { type := 3, partition := 0
        data := leBytes 4 (Ctr.ident g i k) ++ leBytes 2 n ++ zeroBytes 2 ++ leBytes 8 x.instant ++
          (List.range n).flatMap (fun j => leBytes 8 (val j)) } :: x.telemetry s g i count fuel (k + n)

/-- R778: the instances of telemetry: enabled lanes, ACTIVE partitions, Wings, and the pair while the device is paired. -/
def State.telemetryGroups (s : State) : List (Nat × Nat) :=
  ((List.range s.lanesN).filter (fun n => s.setting 0x2001 n 0 == 1)).map (fun n => (4, n)) ++
    ((List.range s.partsN).filter (fun p => (s.partOf p).state == .active)).map (fun p => (8, p)) ++
    (List.range s.wings).map (fun w => (11, w)) ++ (if s.paired then [(13, 0)] else [])

/-- R778: a periodic snapshot is exported. -/
def State.exportTelemetry (s : State) (x : Snap) : State :=
  let items := s.telemetryGroups.flatMap (fun e => x.telemetry s e.1 e.2 (s.groupCount e.1 e.2) 8 0)
  items.foldl (fun s i => s.exportItem (s.setting 0x0003 0 0) i) s

/-- R605, R775, R777: every block has copied: the snapshot goes to host memory or to the hidden buffers. -/
def State.finishSnap (s : State) (x : Snap) : State :=
  let s := { s with obs := { s.obs with snaps := s.obs.snaps.filter (fun y => y.number != x.number) } }
  let s := s.bump Ctr.hallSnapshots
  let s := if x.late then s.bump Ctr.hallSnapshotsLate else s
  let hide := fun (s : State) (f : Nat) (h : Shot) => s.setFunc f { s.func f with hidden := (s.func f).hidden ++ [h] }
  let s :=
    match x.ring with
    | some r =>
      if x.toHost then (s.hostOut x.fn (s.localOf r) x.hostAddr (x.bytes s x.fn x.groups)).complete r okStatus
      else hide s x.fn { ring := some r, instant := x.instant, data := x.bytes s x.fn x.groups }
    | none =>
      ((List.range 9).foldl (fun s f => hide s f { ring := none, instant := x.instant, data := x.bytes s f (s.shotGroups f) }) s).exportTelemetry x
  { s with obs := { s.obs with snapTaken := (s.obs.snapTaken + 1) % 4294967296 } }

/-- One block's copy of its counters (R771, R773). -/
def Snap.copy (x : Snap) (s : State) (b : Nat) : Snap :=
  { x with
    left := x.left.filter (· != b)
    copied := ((s.counters ++ s.levels).filter (fun e => ctrBlock e.1 == b)).foldl (fun t e => mput t e.1 e.2) x.copied
    lastCopy := max x.lastCopy s.nt
    late := x.late || lateAt s.nt x.instant }

/-- R775: a periodic snapshot of an instant. -/
def State.periodicSnap (s : State) (t : Nat) : Snap :=
  { number := s.obs.snapNumber, ring := none, fn := 0, toHost := false, hostAddr := 0, instant := t, left := s.blocks,
    copied := [], lastCopy := 0, late := false }

/-- R775: the instant of the periodic snapshot that follows the one at `t`: the one that another block has begun, or the next
instant of the grid. -/
def State.nextPeriodic (s : State) (t : Nat) : Nat :=
  match s.obs.snaps.find? (fun x => x.ring.isNone && decide (t < x.instant)) with
  | some x => x.instant
  | none => nextGrid t (s.setting 0x0004 0 0 * ms)

/-- R549, R775 (log entry 25): a block that starts a periodic snapshot queues the next one in its place. -/
def State.requeueSnap (s : State) (b : Nat) (o : Occ) : State :=
  if !o.periodic then s
  else
    let t := s.nextPeriodic o.instant
    let s := if s.obs.snaps.any (fun x => x.ring.isNone && x.instant == t) then s else s.listSnap (s.periodicSnap t)
    s.enqueue b { o with instant := t }

/-- SNAPSHOT_COPY (R544, R771, R773): a block starts the snapshot occurrence that is due, once every other event due at its
instant has started, and copies its counters; the last copy ends a SNAPSHOT command's snapshot. -/
def execSnapshotCopy (block : Nat) (s : State) : Host.Outcome State Fault Refusal :=
  .next (
    match s.dueOcc block with
    | none => s
    | some o =>
      if o.kind ≠ evSnapshot ∨ ¬ s.earlierStarted o then s
      else
        let s := (s.startOcc block o).requeueSnap block o
        match s.snapOf o with
        | none => s
        | some x =>
          let y := x.copy s block
          let s := { s with obs := { s.obs with snaps := s.obs.snaps.map (fun (z : Snap) => if z.number = x.number then y else z) } }
          if y.left.isEmpty && y.ring.isSome then s.finishSnap y else s)

/-- PERIODIC_SNAPSHOT (R775, R778): the periodic snapshot that every block has copied is placed in every function's window
buffers and exported; the first one is scheduled once every event queue has room for it (log entry 25). -/
def execPeriodicSnapshot (s : State) : Host.Outcome State Fault Refusal :=
  .next (
    if !s.hallFree || s.time.state == .unset || s.time.stopped then s
    else
      match s.obs.snaps.find? (fun x => x.ring.isNone) with
      | none =>
        if s.blocks.any (fun b => s.queueFull b) then s else s.beginSnap (s.periodicSnap (nextGrid s.nt (s.setting 0x0004 0 0 * ms)))
      | some x => if x.left.isEmpty then s.finishSnap x else s)

/-- R605: the finished snapshot becomes the window. -/
def execSnapshotWindowSwap (fn : Nat) (s : State) : Host.Outcome State Fault Refusal :=
  .next (s.whenFree (
    let f := s.func fn
    match f.hidden with
    | [] => s
    | h :: rest =>
      let s := s.setFunc fn { f with hidden := rest, window := h.data, snapSeq := (f.snapSeq + 1) % 4294967296,
                                     snapNt := h.instant }
      match h.ring with
      | some r => s.complete r okStatus
      | none => s))

/-! ### Trace buffers (R780 to R788) -/

/-- Table 21-11: the buffers that a selector names, for the partition of the command. -/
def State.selected (s : State) (sel p : Nat) : List Nat :=
  if sel % 16 = 3 then
    ((List.range 1024).filter (fun i => s.tileExists i && s.tileOwned p i)).map (16 + ·)
  else [selectorBuf sel]

/-- R788: rights over a selector of TRACE_CONFIG and TRACE_RELEASE. -/
def traceDenied (s : State) (cmd : Cmd) (sel : Nat) : Bool :=
  let vf := decide (1 ≤ cmd.fn ∧ cmd.fn ≤ 8)
  vf && (s.is4840 || selectorDenied s cmd.fn sel)

/-- The selector is one of the part; a PARTITION selector comes with a partition in the header. -/
def selBad (s : State) (c : CmdIn) (sel : Nat) : Bool :=
  let p := ((s.cmdAt c.ring).map (·.hdr.partition)).getD 255
  !selectorOk s sel || (sel % 16 == 3 && p == 255)

/-- TRACE_CONFIG (R784, R785). -/
def execTraceConfig (c : CmdIn) (buffer : Nat) (enable : Bool) (triggerMask postRecords stallThreshold : Nat) (s : State) :
    Host.Outcome State Fault Refusal :=
  .next (
    let cap := bufCap (if buffer % 16 = 3 then 16 else selectorBuf buffer)
    let bad := [(selBad s c buffer, 0), (decide (128 ≤ triggerMask), 8), (decide (cap ≤ postRecords), 0x0C)]
    runNow 0x0703 (.traceConfig c buffer enable triggerMask postRecords stallThreshold) c bad s (fun cmd s =>
      if traceDenied s cmd buffer then (fail stDenied, s)
      else
        (okStatus, (s.selected buffer cmd.hdr.partition).foldl (fun s b =>
          s.setBuf b { s.buf b with enable := enable, triggerMask := triggerMask, postRecords := postRecords,
                                    stallThreshold := stallThreshold, postLeft := none }) s)))

/-- TRACE_RELEASE (R784). -/
def execTraceRelease (c : CmdIn) (buffer : Nat) (s : State) : Host.Outcome State Fault Refusal :=
  .next (runNow 0x0704 (.traceRelease c buffer) c [(selBad s c buffer, 0)] s (fun cmd s =>
    let bs := s.selected buffer cmd.hdr.partition
    if traceDenied s cmd buffer then (fail stDenied, s)
    else if bs.all (fun b => !(s.buf b).frozen) then (fail stNotFound, s)
    else
      (okStatus, bs.foldl (fun s b => s.setBuf b { s.buf b with frozen := false, postLeft := none }) s)))

/-- R781, R787: the partitions or contexts whose tiles a PARTITION source of a function's ring names: a VF's own, and on the IKF-4880,
where the PF has none, for the PF every one (log entry 60). -/
def State.drainParts (s : State) (fn : Nat) : List Nat := if fn = 0 ∧ ¬ s.is4840 then List.range s.partsN else s.partsOf fn

/-- R781: a DRAIN ring that names the buffer, if one does. -/
def State.drainRing (s : State) (b : Nat) : Option Nat :=
  (s.host.rings.find? (fun e =>
    e.2.kind == .drain &&
      (if e.2.drainSource % 16 = 3 then (s.drainParts e.2.fn).any (fun p => decide (16 ≤ b) && s.tileOwned p (b - 16))
       else selectorBuf e.2.drainSource == b))).map (·.1)

/-- R780 to R782, R784: the buffer takes a record; a streaming buffer that is full loses it, a circular one overwrites its
oldest. -/
def TraceBuf.write (t : TraceBuf) (cap : Nat) (streams : Bool) (r : TraceRec) : TraceBuf :=
  if streams ∧ cap ≤ t.recs.length then t.lose r
  else
    let kept := if cap ≤ t.recs.length then t.recs.tail else t.recs
    let t := { t with recs := kept ++ [r] }
    match t.postLeft with
    | some n => if n ≤ 1 then { t with postLeft := none, frozen := true } else { t with postLeft := some (n - 1) }
    | none =>
      if r.kind = 8 then
        if t.postRecords = 0 then { t with frozen := true } else { t with postLeft := some t.postRecords }
      else t

/-- R613, R631: a DRAIN entry leaves, in a DRAIN envelope of its ring's next sequence in bounce-buffer mode. -/
def State.sendEntry (s : State) (x : Ring) (rec : TraceRec) : State :=
  let addr := s.slotAddr x 64
  let f := s.func x.fn
  let n := mget 0 f.drainSeq x.localIx + 1
  if f.bounce then
    (s.setFunc x.fn { f with drainSeq := mput f.drainSeq x.localIx n }).slotOut x.fn addr 5 x.localIx n (drainBytes rec x.phase)
  else s.dma x.fn (.drain x.fn addr rec x.phase)

/-- R694: a record of a shared tile that function `fn` drains: one of its own contexts. -/
def State.drains (s : State) (fn b : Nat) (rec : TraceRec) : Bool :=
  fn == 0 || decide (b < 16) || !s.is4840 || (s.partsOf fn).contains rec.context

/-- R612, R621, R624, R694: the oldest record of a streaming buffer leaves in a returned slot of its DRAIN ring; one of a context that
is not the function's goes to nobody (log entry 228). -/
def State.sendDrain (s : State) (b r : Nat) : State :=
  match (s.buf b).recs, mfind s.host.rings r with
  | rec :: rest, some x =>
    if !s.drains x.fn b rec then s.setBuf b { s.buf b with recs := rest }
    else if x.error ∨ (x.cqTail + 1) % 2 ^ x.log2 = x.cqHeadAt s.nt then s
    else
      let s := s.setBuf b { s.buf b with recs := rest }
      let s := s.sendEntry x rec
      let s := s.modRing r (fun y => y.afterEntry s.nt)
      if x.coalCount ≤ x.pendCount + 1 then s.sendRingVector r x else s
  | _, _ => s

/-- R544, R548: the block of a trace buffer may work: the Hall, or the Wing of a Cellar's or a tile's buffer. -/
def State.bufFree (s : State) (b : Nat) : Bool :=
  if b = 0 then s.hallFree else if b < 16 then s.wingFree (b - 1) else s.wingFree ((b - 16) / 512)

/-- R780 to R782, R784: a buffer's cycle writes a record. -/
def State.writeRec (s : State) (b : Nat) (streams : Bool) (t : TraceBuf) (r : TraceRec) : State :=
  let t' := { t.write (bufCap b) streams r with wroteNt := some s.nt }
  let s := s.setBuf b t'
  let s := if t.lostRun < t'.lostRun then (if r.kind = 9 then s else s.bump (bufCtr b 1)) else s.bump (bufCtr b 0)
  let s := if t'.frozen then s.bump (bufCtr b 2) else s
  if r.kind = 3 ∧ t'.lostRun = t.lostRun then s.fireIn 2 b else s

/-- TRACE_RECORD: an enabled buffer writes the record that is next, one in a cycle (R780 to R782); a streaming buffer sends its oldest
record. -/
def execTraceRecord (buffer : Nat) (s : State) : Host.Outcome State Fault Refusal :=
  .next (
    if !s.bufFree buffer then s
    else
      let ring := s.drainRing buffer
      let t := (s.buf buffer).closeGap s.nt
      let s :=
        if !t.enable || t.frozen || t.wroteNt == some s.nt then s
        else
          match t.fifo with
          | [] => s
          | r :: rest => s.writeRec buffer ring.isSome { t with fifo := rest } r
      match ring with
      | some r => s.sendDrain buffer r
      | none => s)

end Sys2Proof.Machine
end

