-- ==== Sys2Proof/Machine/Health.lean ====
section
/-!
DEFINITION. Machine/Health.lean: the Mantel, the response to each class of error, temperature and power, and the commands of
the Health class (chapter 22).
-/
namespace Sys2Proof.Machine

/-! ### The Mantel (R800 to R804) -/

/-- Table 22-1. -/
def secSummary : Nat := 0
def secMargin : Nat := 4
def secAging : Nat := 5
def secRows : Nat := 7
def secRepair : Nat := 8
def secLanes : Nat := 9
def secEvents : Nat := 10

/-- A section of a die's Mantel. -/
def State.section_ (s : State) (die k : Nat) : MantelSec := mget {} s.health.mantel (16 * die + k)

/-- Replaces it. -/
def State.setSection (s : State) (die k : Nat) (x : MantelSec) : State :=
  { s with health := { s.health with mantel := mput s.health.mantel (16 * die + k) x } }

/-- The records of a section. -/
def State.ledger (s : State) (die k : Nat) : List (List Nat) := (s.section_ die k).data

/-- Replaces the records of a section in on-die memory. -/
def State.setLedger (s : State) (die k : Nat) (d : List (List Nat)) : State :=
  s.setSection die k { s.section_ die k with data := d }

/-- SUMMARY: power-on hours, boots and thermal cycles of a die. -/
def State.summary (s : State) (die : Nat) : Nat × Nat × Nat :=
  match s.ledger die secSummary with
  | [h, b, c] :: _ => (h, b, c)
  | _ => (0, 0, 0)

/-- Replaces them. -/
def State.setSummary (s : State) (die : Nat) (v : Nat × Nat × Nat) : State :=
  s.setLedger die secSummary ([v.1, v.2.1, v.2.2] :: (s.ledger die secSummary).tail)

/-- SUMMARY: hardware actions by kind. -/
def countAction (kind : Nat) : List (List Nat) → List (List Nat)
  | [] => [[kind, 1]]
  | [k, n] :: rest => if k = kind then [k, n + 1] :: rest else [k, n] :: countAction kind rest
  | x :: rest => x :: countAction kind rest

/-- Table 22-1, SUMMARY and EVENTS: a hardware action of a die is recorded. Kinds, in the model's own numbers: 1 row retirement,
2 tile retirement, 3 quarter withheld, 4 Landing lane sparing, 5 Wing recovery, 6 regulator fault, 7 PMBus status, 8 thermal trip. -/
def State.action (s : State) (die kind loc result : Nat) : State :=
  let ev := s.ledger die secEvents ++ [[kind, loc, s.nt, result]]
  let v := s.summary die
  (s.setLedger die secEvents (ev.drop (ev.length - 1024))).setLedger die secSummary
    ([v.1, v.2.1, v.2.2] :: countAction kind (s.ledger die secSummary).tail)

/-- Bytes cut or filled with zeros to a length. -/
def fit (n : Nat) (b : Bytes) : Bytes := (b ++ zeroBytes (n - b.length)).take n

/-- R800: the bytes of a section; the manual leaves their layout open (log entry 93). -/
def State.sectionBytes (s : State) (die k : Nat) : Bytes :=
  let d := s.ledger die k
  match k with
  | 0 => fit 64 (Config.mantelText k (die :: s.boot.serial :: d.flatten))
  | 1 => fit ((if die = 0 then 8 else 16) * 128) (Config.mantelText k [die, s.nt])
  | 2 => fit ((if die = 0 then 28 else 50) * 128) (Config.mantelText k [die, s.nt])
  | 7 => d.flatMap (fun r => fit 16 (Config.mantelText k r))
  | 8 => d.flatMap (fun r => Config.mantelText k r)
  | 9 => d.flatMap (fun r => Config.mantelText k r)
  | 10 => d.flatMap (fun r => fit 32 (Config.mantelText k r))
  | _ => Config.mantelText k [die, s.nt]

/-- R802: a write to the older of a section's two copies. -/
def MantelSec.written (x : MantelSec) : MantelSec :=
  let a := (x.copyA.map (·.1)).getD 0
  let b := (x.copyB.map (·.1)).getD 0
  if x.copyA.isNone ∨ (x.copyB.isSome ∧ a < b) then { x with copyA := some (max a b + 1, x.data), fails := 0 }
  else { x with copyB := some (max a b + 1, x.data), fails := 0 }

/-- R803: a section as a boot reads it: its newer valid copy. -/
def MantelSec.booted (x : MantelSec) : MantelSec :=
  match x.copyA, x.copyB with
  | some a, some b => { x with data := if a.1 < b.1 then b.2 else a.2, fails := 0 }
  | some a, none => { x with data := a.2, fails := 0 }
  | none, some b => { x with data := b.2, fails := 0 }
  | none, none => { x with data := [], fails := 0 }

/-- R113: an eye margin of a lane is recorded. -/
def State.noteMargin (s : State) (lane margin : Nat) : State :=
  { s with health := { s.health with
    dayMargins := mput s.health.dayMargins lane (min margin (mget margin s.health.dayMargins lane)) } }

/-- Table 22-1, LANES: the least margins of the day are taken into the section, which keeps the last 365 of a lane. -/
def State.closeMargins (s : State) : State :=
  let add := fun (d : List (List Nat)) (e : Nat × Nat) =>
    let mine := (d.filter (fun r => r.head? == some e.1)) ++ [[e.1, e.2]]
    d.filter (fun r => r.head? != some e.1) ++ mine.drop (mine.length - 365)
  let d := s.health.dayMargins.foldl add (s.ledger 0 secLanes)
  let s := s.setLedger 0 secLanes d
  { s with health := { s.health with dayMargins := [] } }

/-- MANTEL_WRITE (R802): one try of a section's write. The hourly write of SUMMARY adds the hour, the daily
write of LANES takes in the day's least margins; `alarm` says that a reading of
MARGIN or AGING has passed the bound of Table 22-2, bit 204. -/
def execMantelWrite (die sect : Nat) (ok alarm : Bool) (s : State) : Host.Outcome State Fault Refusal :=
  .next (s.whenFree (
    if decide (1 + s.wings ≤ die) || decide (10 < sect) then s
    else
      let s := if alarm && (sect == secMargin || sect == secAging) then s.setSticky 204 else s
      let v := s.summary die
      let s := if sect = secSummary then s.setSummary die (v.1 + 1, v.2.1, v.2.2) else s
      let s := if sect = secLanes && die == 0 then s.closeMargins else s
      let x := s.section_ die sect
      if ok then (s.setSection die sect x.written).bump Ctr.hallMantelWrites
      else
        let s := s.setSection die sect { x with fails := (x.fails + 1) % 3 }
        if x.fails + 1 = 3 then s.setSticky 137 else s))

/-- MANTEL_READ (R800). -/
def execMantelRead (c : CmdIn) (die sect offset : Nat) (s : State) : Host.Outcome State Fault Refusal :=
  .next (runRead 0x0803 (.mantelRead c die sect offset) c [(decide (1 + s.wings ≤ die), 0x10), (decide (10 < sect), 0x11)] s (fun _ s =>
    let b := s.sectionBytes die sect
    if b.length ≤ offset then fail stNotFound else okReply ((b.drop offset).take c.replyLen)))

/-! ### The 1 ms intervals of NT (R113 to R116, R536, R544) -/

/-- R114: the corrected codewords of a 1 ms interval exceed the lane's threshold, a number in 10^6 codewords; a 212.5 Gb/s lane
carries 39,062.5 codewords of RS(544,514) in 1 ms (log entry 43). -/
def retuneDue (corrected threshold : Nat) : Bool := decide (threshold * 78125 < corrected * 2000000)

/-- R113 to R116: the margin of a lane that is up, its retune and the margin that the retune leaves. -/
def State.laneInterval (s : State) (n : Nat) (margins : List (Nat × Nat × Nat)) : State :=
  let x := s.lane n
  if !x.up then s.setLane n { x with corrected := 0 }
  else
    let m := (mfind margins n).getD (x.margin, x.margin)
    let s := (s.setLane n { x with corrected := 0, margin := m.1 }).noteMargin n m.1
    if retuneDue x.corrected (s.setting 0x2006 n 0) then
      let s := (s.setLane n { s.lane n with margin := m.2 }).bump (Ctr.laneRetune n)
      if m.2 < s.setting 0x2007 n 0 then s.setSticky (48 + n) else s
    else s

/-- R536: the least TRANSIT of the interval is out of bounds. -/
def transitBad (bound : Nat) (t : Int) : Bool := decide (t < 0 ∨ (bound : Int) < t)

/-- R536: the cross-check of a lane at the end of an interval in which it accepted a slot with a switch_ts. -/
def State.crossInterval (s : State) (n : Nat) : State :=
  let x := s.lane n
  match x.leastTransit with
  | none => s
  | some t =>
    if !transitBad s.time.crosscheckBound t then s.setLane n { x with leastTransit := none, badTransit := 0 }
    else if x.badTransit + 1 < 16 then s.setLane n { x with leastTransit := none, badTransit := x.badTransit + 1 }
    else ((s.setLane n { x with leastTransit := none, badTransit := 0 }).setSticky 107).bump Ctr.hallCrosscheckFail

/-- INTERVAL_1MS (R113 to R116, R536, R544): a 1 ms interval of NT ends for a block that keeps one. The insertion unit's
interval is read from NT (R234). The margins before and after a retune are operands; a lane without one keeps its last. -/
def execInterval1ms (block : Nat) (margins : List (Nat × Nat × Nat)) (s : State) : Host.Outcome State Fault Refusal :=
  .next (
    match s.dueIs block evInterval 0 with
    | none => s
    | some o =>
      let s := s.startOcc block o
      let s := s.enqueue block { o with instant := o.instant + ms }
      if block = blkLanes then
        let s := (List.range s.lanesN).foldl (fun (s : State) n => (s.laneInterval n margins).crossInterval n) s
        (margins.filter (fun e => decide (48 ≤ e.1 ∧ e.1 < 56))).foldl (fun (s : State) e => s.noteMargin e.1 e.2.1) s
      else s)

/-! ### Sticky bits (R603, R805) -/

/-- The 256 sticky bits as bytes. -/
def State.stickyBytes (s : State) : Bytes := leBytes 32 s.sticky.toNat

/-- STICKY_READ (R603): a VF sees the bits that Table 22-2 marks visible. -/
def execStickyRead (c : CmdIn) (s : State) : Host.Outcome State Fault Refusal :=
  .next (runRead 0x0804 (.stickyRead c) c [] s (fun cmd s =>
    okReply (if 1 ≤ cmd.fn ∧ cmd.fn ≤ 8 then leBytes 32 (s.sticky &&& visibleMask).toNat else s.stickyBytes)))

/-- STICKY_CLEAR (R805). -/
def execStickyClear (c : CmdIn) (mask : Nat) (s : State) : Host.Outcome State Fault Refusal :=
  .next (runNow 0x0805 (.stickyClear c mask) c [] s (fun _ s => (okStatus, s.clearSticky (BitVec.ofNat 256 mask))))

/-! ### Tiles (R810 to R815) -/

/-- R17: the repair records of a Gallery: logical tile and spare; 255 stands for no spare. -/
def State.repairs (s : State) (w g : Nat) : List (Nat × Nat) :=
  (s.ledger (1 + w) secRepair).filterMap (fun r =>
    match r with
    | k :: t :: p :: _ => if k = g then some (t, p) else none
    | _ => none)

/-- Spares of a Gallery that are out of use since the boot. -/
def State.lostSpares (s : State) (w g : Nat) : List Nat := mget [] s.health.sparesLost (3 * w + g)

/-- Spares of a Gallery that neither back a tile nor are out of use. -/
def State.freeSpares (s : State) (w g : Nat) : List Nat :=
  [0, 1, 2, 3].filter (fun p => !(s.repairs w g).any (fun r => r.2 == p) && !(s.lostSpares w g).contains p)

/-- R810, R812: REPAIR takes a tile's new backing; a spare that backed it is out of use. -/
def State.repair (s : State) (w g t spare cause : Nat) : State :=
  let old := ((s.repairs w g).filter (fun r => r.1 == t && decide (r.2 < 4))).map (·.2)
  let kept := (s.ledger (1 + w) secRepair).filter (fun r =>
    match r with
    | k :: u :: _ => !(k == g && u == t)
    | _ => true)
  let s := s.setLedger (1 + w) secRepair (kept ++ [[g, t, spare, s.nt, cause]])
  { s with health := { s.health with sparesLost := mput s.health.sparesLost (3 * w + g) (s.lostSpares w g ++ old) } }

/-- R18: a quarter is withheld. -/
def State.withholdQuarter (s : State) (w g t : Nat) : State :=
  let k := 12 * w + 4 * g + t / 24
  let s := s.setSticky 163
  if s.health.withheld.contains k then s else { s with health := { s.health with withheld := s.health.withheld ++ [k] } }

/-- R823, R824: a retirement's copy waits for a fill wave of the tile's partition and for a scrub of DRAM. -/
def State.copyWaits (s : State) (i : Nat) : Bool :=
  (List.range s.partsN).any (fun p =>
    (match (s.partOf p).scrub with | some x => x.phase == .dram | none => false) ||
      (s.tileOwned p i && (match (s.partOf p).fill with | some f => f.started | none => false)))

/-- R810: the tile of a Wing that is retired next: the lowest that is due. -/
def State.nextDue (s : State) (w : Nat) : Option Nat :=
  ((s.health.tiles.filter (fun e => e.2.due && decide (tileWing e.1 = w))).map (·.1)).head?

/-- TILE_RETIREMENT (R810 to R812): the batches in flight on the tile are aborted and issued again to the spare; without a spare
the quarter is withheld. -/
def execTileRetirement (wing : Nat) (s : State) : Host.Outcome State Fault Refusal :=
  .next (
    match s.nextDue wing with
    | none => s
    | some i =>
      if !s.wingFree wing || s.copyWaits i then s
      else
        let g := i / 128 % 4
        let t := i % 128
        let s := { s with health := { s.health with tiles := mput s.health.tiles i {} } }
        match s.freeSpares wing g with
        | p :: _ =>
          let s := (s.repair wing g t p 1).faultAll i 4 true
          ((s.setSticky 162).bump Ctr.hallTilesRetired).action (1 + wing) 2 i p
        | [] =>
          (((s.repair wing g t 255 1).withholdQuarter wing g t).bump Ctr.hallQuartersWithheld).action (1 + wing) 3 i 255)

/-- R815: a Wing's clock stops and every batch of the Wing is aborted; WING_RESUME ends the recovery. -/
def State.startRecovery (s : State) (w : Nat) : State :=
  if s.time.wingStopped.contains w then s
  else
    let s := { s with time := { s.time with wingStopped := s.time.wingStopped ++ [w] } }
    let mine := fun (e : Nat × Batch) => e.2.sent && (batchHome e.1 == w || e.2.place.tiles.any (fun i => tileWing i == w))
    let s := (s.allBatches.filter mine).foldl (fun (s : State) e => s.faultBatch e.1 4 true) s
    ((s.setStickyIn (1 + w) 164).bump (Ctr.wingRecovery w)).action (1 + w) 5 w 0

/-- WING_RECOVERY (R815). -/
def execWingRecovery (wing : Nat) (s : State) : Host.Outcome State Fault Refusal :=
  .next (if !s.wingFree wing || decide (s.wings ≤ wing) then s else s.startRecovery wing)

/-! ### DRAM and Landings (R816 to R818, R824) -/

/-- The key of a word among the poisoned words; partition 31 stands for the overflow Larder. -/
def poisonKey (w p a : Nat) : Nat := w * 72057594037927936 + p * 281474976710656 + a

/-- R817: words take the poison check pattern. -/
def State.poison (s : State) (keys : List Nat) : State :=
  { s with health := { s.health with
      poisoned := keys.foldl (fun l k => if l.contains k then l else k :: l) s.health.poisoned } }

/-- ROW_RETIREMENT (R818): a row has raised its errors; `spare` says that the bank has a spare row and `lost` names the words
that SECDED cannot correct, by partition and address. -/
def execRowRetirement (wing stack channel bank row cause : Nat) (spare : Bool) (lost : List (Nat × Nat)) (s : State) :
    Host.Outcome State Fault Refusal :=
  .next (
    if !s.wingFree wing || decide (s.wings ≤ wing) then s
    else if !spare then (s.setStickyIn (1 + wing) 130).action (1 + wing) 1 row 1
    else
      let s := s.poison (lost.map (fun x => poisonKey wing x.1 x.2))
      let s := s.setLedger (1 + wing) secRows (s.ledger (1 + wing) secRows ++ [[stack, channel, bank, row, s.nt, cause]])
      ((s.setStickyIn (1 + wing) 129).bump (Ctr.wingRowsRetired wing)).action (1 + wing) 1 row 0)

/-- LANDING_LANE_SPARING (R816): a lane of a group of 32 is replaced by the group's spare, or stays in service. -/
def execLandingLaneSparing (wing group : Nat) (s : State) : Host.Outcome State Fault Refusal :=
  .next (
    let k := 256 * wing + group
    if !s.wingFree wing || decide (s.wings ≤ wing) then s
    else if s.health.landingUsed.contains k then s.setStickyIn (1 + wing) 135
    else
      (({ s with health := { s.health with landingUsed := s.health.landingUsed ++ [k] } }).bump (Ctr.wingLanesSpared wing)).action
        (1 + wing) 4 group 0)

/-- PATROL_SCRUB (R726, R817, R824): the patrol reads a word; a corrected one is written back with the same value. It skips a
region under scrub. -/
def execPatrolScrub (wing partition address : Nat) (uncorrectable : Bool) (s : State) : Host.Outcome State Fault Refusal :=
  .next (
    if !s.wingFree wing || decide (s.wings ≤ wing) || (s.partOf partition).scrub.isSome then s
    else if uncorrectable then
      ((s.poison [poisonKey wing partition (address / 64 * 64)]).bump (Ctr.wingDramUncorrectable wing)).setStickyIn (1 + wing) 128
    else s.bump (Ctr.wingDramCorrected wing))

/-- REFRESH_DOUBLED (R887): a stack's sensor passes 85 °C, or falls back below it. -/
def execRefreshDoubled (stack : Nat) (hot : Bool) (s : State) : Host.Outcome State Fault Refusal :=
  .next (s.whenFree (
    let d := s.health.doubled.filter (· != stack)
    if decide (4 * s.wings ≤ stack) then s
    else { s with health := { s.health with doubled := if hot then d ++ [stack] else d } }))

/-! ### Temperature and clocks (R19, R801, R819) -/

/-- R801: a reading of a die's hottest sensor, in 1/16 °C; a fall of 40 °C below the peak counts a thermal cycle. -/
def State.sampleTemp (s : State) (die : Nat) (t : Int) : State :=
  let peak := max t ((mfind s.health.peaks die).getD t)
  let s := { s with health := { s.health with temps := mput s.health.temps die t } }
  if peak - t ≥ 640 then
    let v := s.summary die
    ({ s with health := { s.health with peaks := mput s.health.peaks die t } }).setSummary die (v.1, v.2.1, v.2.2 + 1)
  else { s with health := { s.health with peaks := mput s.health.peaks die peak } }

/-- Nominal Wing clock in MHz (Table 24-15). -/
def State.nominalMhz (s : State) : Nat := if s.part = .ikf4880_10 then 1000 else 1250

/-- The hard floor, 72 % of nominal. -/
def State.floorMhz (s : State) : Nat := s.nominalMhz * 72 / 100

/-- What throttling leaves of a Wing's clock after `n` steps. -/
def State.throttledMhz (s : State) (n : Nat) : Nat := s.nominalMhz * (16 - n) / 16

/-- The Wing's clock under throttling and stretching. -/
def State.wingMhz (s : State) (w : Nat) : Nat :=
  max s.floorMhz (s.throttledMhz (mget 0 s.health.throttle w) - mget 0 s.health.stretch w)

/-- A Wing's throttle steps. -/
def State.setThrottle (s : State) (w n : Nat) : State :=
  { s with health := { s.health with throttle := mput s.health.throttle w n } }

/-- THROTTLE_STEP (R819): 100 µs have passed, and the hottest sensor of a Wing and its stacks reads `temp`, in 1/16 °C. -/
def execThrottleStep (wing : Nat) (temp : Int) (s : State) : Host.Outcome State Fault Refusal :=
  .next (s.whenFree (
    if decide (s.wings ≤ wing) then s
    else
      let s := s.sampleTemp (1 + wing) temp
      let s := if temp ≥ 1680 then s.setSticky 201 else s
      let n := mget 0 s.health.throttle wing
      if temp ≥ 1520 then
        let s := if n = 0 then s.setSticky 200 else s
        if s.floorMhz < s.throttledMhz n then (s.setThrottle wing (n + 1)).bump Ctr.hallThrottleSteps else s
      else if temp < 1472 ∧ 0 < n then (s.setThrottle wing (n - 1)).bump Ctr.hallThrottleSteps
      else s))

/-- DROOP (R19, Table 22-2): stretching takes `mhz` from a Wing's clock. -/
def execDroop (wing mhz : Nat) (s : State) : Host.Outcome State Fault Refusal :=
  .next (s.whenFree (
    if decide (s.wings ≤ wing) then s
    else
      let s := { s with health := { s.health with stretch := mput s.health.stretch wing mhz } }
      if 0 < mhz ∧ s.wingMhz wing = s.floorMhz then s.setSticky 202 else s))

/-! ### Regulators and PMBus (R820, R873 to R876) -/

/-- R830: the device fails: dev_state FAILED, every lane down. -/
def State.failDevice (s : State) : State :=
  let s := (s.hall.lanes.filter (fun l => l.2.up)).foldl (fun s l => s.dropLane l.1) s
  { s with boot := { s.boot with devState := 5, stage := .failed } }

/-- The physical position of a logical tile: its own number, or 96 and the spare's (log entry 94). -/
def State.position (s : State) (w g t : Nat) : Nat :=
  match (s.repairs w g).find? (fun r => r.1 == t && decide (r.2 < 4)) with
  | some r => 96 + r.2
  | none => t

/-- R820: the supply of a row of ten positions of a Gallery is lost: its tiles are due for retirement, its spares out of use. -/
def State.loseRow (s : State) (w g r : Nat) : State :=
  let here := fun (q : Nat) => decide (10 * r ≤ q) && decide (q < 10 * r + 10)
  let gone := [0, 1, 2, 3].filter (fun p => here (96 + p))
  let due := (List.range 96).filter (fun t => here (s.position w g t))
  let s := { s with health := { s.health with sparesLost := mput s.health.sparesLost (3 * w + g) (s.lostSpares w g ++ gone) } }
  due.foldl (fun s t =>
    let i := 512 * w + 128 * g + t
    { s with health := { s.health with tiles := mput s.health.tiles i { (mget {} s.health.tiles i : TileHealth) with due := true } } }) s

/-- Table 24-8: the Wing of a domain of a Wing's mesh, Cellar or stacks, with domains numbered in the table's order. -/
def domainWing (d : Nat) : Nat :=
  if d < 66 then (d - 60) / 3 else if d < 70 then (d - 66) / 2 else if d < 72 then d - 70
  else if d < 76 then (d - 72) / 2 else (d - 76) / 12

/-- REGULATOR_FAULT (R820, R873): a domain leaves its limits and turns off. -/
def execRegulatorFault (domain : Nat) (s : State) : Host.Outcome State Fault Refusal :=
  .next (s.whenFree (
    let w := if domain < 60 then domain / 30 else if domain < 100 then domainWing domain else 0
    if decide (s.wings ≤ w) || s.power.domainsOut.contains domain then s
    else
      let s := ({ s with power := { s.power with domainsOut := s.power.domainsOut ++ [domain] } }).setSticky 203
      let s := s.action (if domain < 100 then 1 + w else 0) 6 domain 0
      if domain < 60 then s.loseRow w (domain / 10 % 3) (domain % 10)
      else if domain < 100 then s.startRecovery w
      else s.failDevice))

/-- PMBUS_POLL (R874): the converters' readings. -/
def execPmbusPoll (readings : List (Nat × Converter)) (s : State) : Host.Outcome State Fault Refusal :=
  .next (s.whenFree (
    { s with power := { s.power with
      converters := s.power.converters.map (fun (e : Nat × Converter) => (e.1, (mfind readings e.1).getD e.2)) } }))

/-- PM_ALERT (R876): PM_ALERT_N is asserted, or released; `status` holds STATUS_WORD by converter. -/
def execPmAlert (asserted : Bool) (status : List (Nat × Nat)) (s : State) : Host.Outcome State Fault Refusal :=
  .next (s.whenFree (
    let early := match s.power.lastPmAlert with | some t => decide (s.nt < t + 100 * ms) | none => false
    if !asserted then { s with power := { s.power with pmAlert := false, lastPmAlert := none } }
    else if s.power.pmAlert && early then s
    else
      let s := { s with power := { s.power with pmAlert := true, lastPmAlert := some s.nt } }
      let own := status.filter (fun x => (mfind s.power.converters x.1).isSome)
      let read := own.foldl (fun (t : Tab Converter) x =>
        match mfind t x.1 with
        | some c => mput t x.1 { c with status := x.2 }
        | none => t) s.power.converters
      let s := { s with power := { s.power with converters := read } }
      ((own.filter (fun x => x.2 != 0)).foldl (fun s x => s.action 0 7 x.1 x.2) s).bump Ctr.hallPmbusAlert))

/-! ### HEALTH_STATUS and DEVICE_IDENTITY (R4, R825) -/

/-- R825: the groups of Table 22-2 of which a bit is set, with their first bits and sizes. -/
def State.stickyGroups (s : State) : Nat :=
  let groups : List (Nat × Nat) := [(0, 96), (96, 8), (104, 8), (112, 8), (120, 8), (128, 32), (160, 32), (192, 8), (200, 56)]
  (List.range 9).foldl (fun n i =>
    match groups[i]? with
    | some g => if (List.range g.2).any (fun k => s.stickyBit (g.1 + k)) then n + 2 ^ i else n
    | none => n) 0

/-- A signed number in 16 bits. -/
def le16i (t : Int) : Bytes := leBytes 2 ((t % 65536).toNat)

/-- NT of the newest hardware action (Table 22-7). -/
def State.lastAction (s : State) : Nat :=
  (([0, 1, 2].flatMap (fun d => s.ledger d secEvents)).filterMap (fun r => r[2]?)).foldl max 0

/-- Table 22-7. -/
def State.healthBytes (s : State) : Bytes :=
  let temp := fun (d : Nat) => if d < 1 + s.wings then mget 0 s.health.temps d else 0
  let thr := (List.range s.wings).foldl (fun n w => n + (if 0 < mget 0 s.health.throttle w then 2 ^ w else 0)) 0
  let rows := ([1, 2].map (fun d => (s.ledger d secRows).length)).foldl (· + ·) 0
  let reps := ([1, 2].map (fun d => (s.ledger d secRepair).length)).foldl (· + ·) 0
  let cycles := ([0, 1, 2].map (fun d => (s.summary d).2.2)).foldl max 0
  let spares := (List.range 6).flatMap (fun k => leBytes 1 (if k / 3 < s.wings then (s.freeSpares (k / 3) (k % 3)).length else 0))
  let vin := ((s.power.converters.head?).map (·.2.vout)).getD 0
  let iin := (s.power.converters.map (·.2.iout)).foldl (· + ·) 0
  leBytes 1 (s.boot.devState + 16 * b2n s.power.faultN + 32 * thr) ++ leBytes 1 0 ++ leBytes 2 s.stickyGroups
    ++ le16i (temp 0) ++ le16i (temp 1) ++ le16i (temp 2) ++ leBytes 2 0
    ++ leBytes 4 (s.health.withheld.foldl (fun n k => n + 2 ^ k) 0) ++ spares ++ leBytes 2 0
    ++ leBytes 4 rows ++ leBytes 4 reps ++ leBytes 4 (s.summary 0).1 ++ leBytes 4 cycles ++ leBytes 8 s.lastAction
    ++ leBytes 2 (s.wingMhz 0) ++ leBytes 2 (if s.wings = 2 then s.wingMhz 1 else 0) ++ leBytes 2 vin ++ leBytes 2 iin
    ++ leBytes 8 0

/-- HEALTH_STATUS (R825): `temps` are the readings of the hottest sensor of each die, in 1/16 °C. -/
def execHealthStatus (c : CmdIn) (temps : List Int) (s : State) : Host.Outcome State Fault Refusal :=
  .next (
    let dies := List.range (1 + s.wings)
    runNow 0x0802 (.healthStatus c temps) c [] s (fun _ s =>
      let s := dies.foldl (fun s d => match temps[d]? with | some t => s.sampleTemp d t | none => s) s
      (okReply s.healthBytes, s)))

/-- Table 17-23. -/
def State.identity (s : State) (fn : Nat) : Bytes :=
  leBytes 2 (partCode s.part) ++ leBytes 2 0x00B0 ++ leBytes 1 s.wings ++ leBytes 1 s.lanesN ++ leBytes 2 (288 * s.wings)
    ++ leBytes 8 s.boot.serial ++ leBytes 4 (s.version 0) ++ leBytes 4 (s.version 1) ++ leBytes 4 (s.version 2)
    ++ leBytes 4 ((if fn < 9 then fn else 0) + 16 * b2n (!s.is4840))

/-- DEVICE_IDENTITY (R4). -/
def execDeviceIdentity (c : CmdIn) (s : State) : Host.Outcome State Fault Refusal :=
  .next (runRead 0x0801 (.deviceIdentity c) c [] s (fun cmd s => okReply (s.identity cmd.fn)))

end Sys2Proof.Machine
end

