-- ==== Sys2Proof/Machine/Boot.lean ====
section
/-!
DEFINITION. Machine/Boot.lean: device reset, supplies and clocks (chapter 24), the boot record and the stages of a boot, and the
apply of a pending update (chapter 23).
-/
namespace Sys2Proof.Machine

/-! ### Flash records (R834 to R838) -/

/-- R834: the valid copy with the greater seq, if a copy is valid. -/
def Boot.record? (b : Boot) : Option BootRec :=
  match b.rec0, b.rec1 with
  | some x, some y => some (if x.seq < y.seq then y else x)
  | some x, none => some x
  | none, y => y

/-- R835: the record in use. -/
def Boot.record (b : Boot) : BootRec := b.record?.getD {}

/-- R834: a new record goes over the copy that is not in use, with a seq one greater. -/
def Boot.writeRecord (b : Boot) (f : BootRec → BootRec) : Boot :=
  let r := b.record
  let r' := { f r with seq := r.seq + 1 }
  let first := match b.rec0, b.rec1 with
    | some x, some y => decide (x.seq < y.seq)
    | some _, none => false
    | none, _ => true
  if first then { b with rec0 := some r' } else { b with rec1 := some r' }

/-- A record is written. -/
def State.writeRecord (s : State) (f : BootRec → BootRec) : State := { s with boot := s.boot.writeRecord f }

/-- A bank by its number: false A, true B. -/
def Boot.bank (b : Boot) (second : Bool) : Option Bank := if second then b.bankBRec else b.bankA

/-- Replaces the contents of a bank. -/
def Boot.setBank (b : Boot) (second : Bool) (x : Option Bank) : Boot :=
  if second then { b with bankBRec := x } else { b with bankA := x }

/-- The digest of a bank in a record. -/
def BootRec.digestOf (r : BootRec) (second : Bool) : Nat := if second then r.digestB else r.digestA

/-- R834: the settings copy in use. -/
def Boot.saved (b : Boot) : Option SavedSettings :=
  match b.settings0, b.settings1 with
  | some x, some y => some (if x.seq < y.seq then y else x)
  | some x, none => some x
  | none, y => y

/-- R834: new settings go over the copy that is not in use. -/
def Boot.save (b : Boot) (x : SavedSettings) : Boot :=
  let x := { x with seq := (b.saved.map (·.seq)).getD 0 + 1 }
  let first := match b.settings0, b.settings1 with
    | some x, some y => decide (x.seq < y.seq)
    | some _, none => false
    | none, _ => true
  if first then { b with settings0 := some x } else { b with settings1 := some x }

/-! ### Device reset (R735, R760, R804, R805, R880) -/

/-- What flash and fuses keep over a reset. A staging without a status record no longer exists (Table 23-9). -/
def Boot.restarted (b : Boot) : Boot :=
  let lost : Bool := match b.staging with | some g => !g.statusRecord && g.state != .trial | none => false
  { rec0 := b.rec0, rec1 := b.rec1, bankA := b.bankA, bankBRec := b.bankBRec, floor := b.floor, settings0 := b.settings0
    settings1 := b.settings1, serial := b.serial
    staging := if lost then none else b.staging.map (fun g => { g with offers := [], relayAt := none })
    lastResult := if lost then 7 else b.record.lastResult }

/-- What a reset leaves in a Wing's DRAM until the DRAM stage clears it (R722). -/
def Wing.dramOnly (x : Wing) : Wing := { entries := x.entries, regions := x.regions, overflowLarder := x.overflowLarder }

/-- R760, Table 23-11: counters that a restart which the device makes itself leaves alone. -/
def bootCounters : List Nat := [Ctr.hallBoots, Ctr.hallUpdateApplied, Ctr.hallUpdateFailed, Ctr.hallUpdateReverted]

/-- R880: the whole device is reset and boots from the ROM stage. `own` says that the device restarts itself (log entry 95). -/
def State.restart (s : State) (own : Bool) : State :=
  { State.reset with
    part := s.part
    time := { originPending := s.time.originPending }
    host := { perstN := s.host.perstN, perstReleaseNt := 0 }
    health := { mantel := s.health.mantel }
    wing0 := s.wing0.dramOnly
    wing1 := s.wing1.dramOnly
    tiles := s.tiles.map (fun (e : Nat × Tile) => (e.1, { mem := e.2.mem }))
    boot := s.boot.restarted
    power := { s.power with
      domainsOn := false, domainsOut := [], sysClkLost := false, converters := [], pmAlert := false, lastPmAlert := none, faultN := false }
    counters := if own then s.counters.filter (fun e => bootCounters.contains e.1) else []
    free := s.free
    out := s.out
    pending := s.pending }

/-- R882: the trip is released while VIN12 has dropped out and RESET_N is low. -/
def State.releaseTrip (s : State) : State :=
  if s.power.thermtrip && !s.power.vin12 && s.power.resetLow then { s with power := { s.power with thermtrip := false } } else s

/-- R880: a low time of RESET_N in ns resets the device; between 1 µs and 10 µs the manual leaves it open (log entry 28). -/
def State.pulseResets (s : State) (lowNs : Nat) : Bool × State :=
  if lowNs < 1000 then (false, s)
  else if 10000 ≤ lowNs then (true, s)
  else (Config.freeNat s.free % 2 == 1, s.nextFree)

/-- RESET_N (R880, R882): the pin has been low for `lowNs`; with `rise` it goes high now. -/
def execResetN (rise : Bool) (lowNs : Nat) (s : State) : Host.Outcome State Fault Refusal :=
  .next (
    let r := s.pulseResets lowNs
    let s := if r.1 && !s.power.resetLow then r.2.restart false else r.2
    if rise then { s with power := { s.power with resetLow := false } }
    else if r.1 then ({ s with power := { s.power with resetLow := true } }).releaseTrip
    else s)

/-! ### Supplies and clocks (R870 to R872, R878, R879, R882) -/

/-- A rail is in regulation, or not. -/
def Power.setRail (p : Power) (r : Rail) (v : Bool) : Power :=
  match r with
  | .vstby33 => { p with vstby33 := v, standbyOn := v && p.vio18 }
  | .vio18 => { p with vio18 := v, standbyOn := v && p.vstby33 }
  | .vaux18 => { p with vaux18 := v }
  | .vin12 => { p with vin12 := v }

/-- RAIL_IN_REGULATION (R868, R870). -/
def execRailInRegulation (rail : Rail) (s : State) : Host.Outcome State Fault Refusal :=
  .next { s with power := s.power.setRail rail true }

/-- VIN12_DROP_OUT (R871, R882): VIN12 or VAUX18 drops out. -/
def execVin12DropOut (rail : Rail) (s : State) : Host.Outcome State Fault Refusal :=
  .next (
    if rail = .vin12 ∨ rail = .vaux18 then
      let s := s.restart false
      ({ s with time := {}, power := s.power.setRail rail false }).releaseTrip
    else s)

/-- VSTBY33_DROP_OUT (R872, R884): VSTBY33 or VIO18 drops out; FL_RESET_N is low as at power-up. -/
def execVstby33DropOut (rail : Rail) (s : State) : Host.Outcome State Fault Refusal :=
  .next (
    if rail = .vstby33 ∨ rail = .vio18 then
      let s := s.restart false
      { s with time := {}, power := { (s.power.setRail rail false) with standbyOn := false, flResetN := false } }
    else s)

/-- SYS_REFCLK_LOSS (R879): the clock stops, or has run again for 1 ms. -/
def execSysRefclkLoss (running : Bool) (s : State) : Host.Outcome State Fault Refusal :=
  .next (
    if running then { s with power := { s.power with sysClk := true } }
    else { s with power := { s.power with sysClk := false, sysClkLost := s.power.sysClkLost || s.boot.stage != .rom } })

/-- R878: the enabled lanes of a bank without a clock are down, and their sticky bits set. -/
def State.darkLanes (s : State) (n : Nat) : State :=
  let mine := ((List.range 12).map (fun k => 12 * n + k)).filter (fun l => decide (l < s.lanesN) && s.setting 0x2001 l 0 == 1)
  mine.foldl (fun s l => (if (s.lane l).up then (s.dropLane l).bump (Ctr.laneLinkDown l) else s).setSticky l) s

/-- SERDES_REFCLK_LOSS (R878): a clock is absent, or has come back. -/
def execSerdesRefclkLoss (n : Nat) (absent : Bool) (s : State) : Host.Outcome State Fault Refusal :=
  .next (
    let kept := s.power.serdesLost.filter (· != n)
    let s := { s with power := { s.power with serdesLost := if absent then kept ++ [n] else kept } }
    if !absent || s.dead then s
    else
      let s := if n = 0 then { s with pair := { s.pair with lanesUp := [] } } else s
      s.darkLanes n)

/-- THERMTRIP (R882): a die reaches 115 °C or a stack 105 °C. -/
def execThermtrip (s : State) : Host.Outcome State Fault Refusal :=
  .next (
    if s.power.thermtrip || !s.power.standbyOn then s
    else
      let s := s.restart false
      { s with power := { s.power with thermtrip := true, tripped := true } })

/-! ### Applying an update (R846) -/

/-- R846: an apply that does not switch banks ends the update. -/
def State.applyFailed (s : State) (result : Nat) : State :=
  let s := s.writeRecord (fun r => { r with applyPending := false, lastResult := result })
  let s := { s with boot := { s.boot with staging := none, lastResult := result } }
  if result = 1 then s else s.bump Ctr.hallUpdateFailed

/-- R846, R856: the anchors of a CREDENTIALS staging enter the settings copy. -/
def State.saveAnchors (s : State) (anchors : List Nat) : State :=
  let old : SavedSettings := s.boot.saved.getD { seq := 0, settings := [], rules := [], activeBank := 0, anchors := [] }
  { s with boot := s.boot.save { old with anchors := anchors.take 4 } }

/-- R846: the new bank is written, becomes active on trial, and the device restarts. -/
def State.applySwitch (s : State) (g : Staging) (t : Bool) (x : Bank) : State :=
  let b := s.boot.setBank t (some x)
  let b := b.writeRecord (fun r =>
    { r with
      activeB := t, applyPending := false, trial := true, triesLeft := 3, lastResult := 1
      digestA := if t then r.digestA else x.digest, digestB := if t then x.digest else r.digestB })
  (({ s with boot := { b with staging := some { g with state := .trial, statusRecord := false } } }).bump
    Ctr.hallUpdateApplied).restart true

/-- R846: the pending staging is applied. -/
def State.applyStaging (s : State) (o : ApplyOutcome) : State :=
  let r := s.boot.record
  match s.boot.staging with
  | none => s.applyFailed 2
  | some g =>
    match g.hdr with
    | none => s.applyFailed 2
    | some h =>
      if !g.statusRecord || !o.hashMatches then s.applyFailed 2
      else if h.credentials then (s.saveAnchors h.anchors).applyFailed 1
      else if h.baseDigest ≠ 0 ∧ h.baseDigest ≠ r.digestOf r.activeB then s.applyFailed 3
      else
        let t := !r.activeB
        if o.newBankVerifies ∧ s.boot.floor ≤ h.target.securityVersion then s.applySwitch g t h.target
        else ({ s with boot := s.boot.setBank t none }).applyFailed 4

/-! ### The stages (R827 to R832, R835 to R837, R847 to R849) -/

/-- R836: a bank verifies; `ok` is the outcome for its signature, parts and hashes. Without a valid record no digest is compared. -/
def Boot.verifies (b : Boot) (second ok : Bool) : Bool :=
  match b.bank second with
  | none => false
  | some x =>
    ok && decide (b.floor ≤ x.securityVersion) &&
      (match b.record? with | some r => x.digest == r.digestOf second | none => true)

/-- R831, R832: the recovery endpoint. -/
def State.recover (s : State) : State :=
  { s with boot := { s.boot with recovery := true, devState := 5, stage := .failed, stageOne := true } }

/-- R695 to R697: the ROM extends register 0 with the Hearth firmware's measurement and derives the first keys. -/
def State.measureRom (s : State) (m : BitVec 384) : State :=
  let r0 := extend 0 m
  { s with sec := { s.sec with
    regs := s.sec.regs.set 0 r0, rootSeedReadable := false, dik := some s.deriveDik, hearthCdi := some (hearthCdi r0) } }

/-- R837: the ROM boots a bank. -/
def State.bootBank (s : State) (second trial : Bool) (m : BitVec 384) : State :=
  let s := s.measureRom m
  { s with boot := { s.boot with bankB := second, trialBoot := trial, stage := .hearth } }

/-- R847: a record with trial 1 loses a try, or its bank is reverted. -/
def State.useTry (s : State) : State :=
  let r := s.boot.record
  if !r.trial then s
  else if r.triesLeft = 0 then
    let s := s.writeRecord (fun r => { r with activeB := !r.activeB, trial := false, lastResult := 5 })
    ({ s with boot := { s.boot with staging := none, lastResult := 5 } }).bump Ctr.hallUpdateReverted
  else s.writeRecord (fun r => { r with triesLeft := r.triesLeft - 1 })

/-- R837: the ROM chooses a bank. -/
def State.chooseBank (s : State) (verifyA verifyB : Bool) (m : BitVec 384) : State :=
  let r := s.boot.record
  let ok := fun (x : Bool) => s.boot.verifies x (if x then verifyB else verifyA)
  if ok r.activeB then s.bootBank r.activeB r.trial m
  else if ok (!r.activeB) then
    let s := s.setSticky 136
    let s := if r.trial then s else s.writeRecord (fun r => { r with activeB := !r.activeB })
    s.bootBank (!r.activeB) r.trial m
  else s.recover

/-- The rails and the clock let the ROM stage start (R827, R870, R879). -/
def Power.romReady (p : Power) : Bool :=
  p.vstby33 && p.vio18 && p.vaux18 && p.vin12 && p.sysClk && !p.resetLow && !p.thermtrip

/-- R882: a trip is recorded in each die's EVENTS when the device next boots. -/
def State.recordTrip (s : State) : State :=
  if s.power.tripped then
    let s := (List.range (1 + s.wings)).foldl (fun s d => s.action d 8 d 0) s
    { s with power := { s.power with tripped := false } }
  else s

/-- ROM_STAGE (R827, R831, R832, R835 to R837, R847): its start lets FL_RESET_N go (R884). -/
def execRomStage (bootMode : Nat) (verifyA verifyB : Bool) (measurement : BitVec 384) (apply : ApplyOutcome) (s : State) :
    Host.Outcome State Fault Refusal :=
  .next (
    if s.boot.stage ≠ .rom ∨ ¬ s.power.romReady then s
    else
      let s := ({ s with power := { s.power with domainsOn := true, flResetN := true } }).bump Ctr.hallBoots
      let s := { s with boot := { s.boot with bootMode := bootMode } }
      let s := if s.boot.record?.isNone then s.setSticky 136 else s
      let dark := !s.boot.verifies false verifyA && !s.boot.verifies true verifyB
      if (bootMode != 0 || dark) && s.boot.record.applyPending then
        let s := s.applyStaging apply
        if s.power.domainsOn then s.recover else s
      else if bootMode ≠ 0 then s.recover
      else s.useTry.chooseBank verifyA verifyB measurement)

/-- R696, R697, R700: registers 1 to 5 are extended and locked, the firmware CDI and the link key derived, and the HMAC_DRBG seeded. -/
def State.measureHearth (s : State) (ms : List (BitVec 384)) : State :=
  let reg := fun (i : Nat) => extend 0 ((ms[i - 1]?).getD 0)
  let regs := ((((s.sec.regs.set 1 (reg 1)).set 2 (reg 2)).set 3 (reg 3)).set 4 (reg 4)).set 5 (reg 5)
  let fw := firmwareCdi ([1, 2, 3, 4, 5].map reg) (s.sec.hearthCdi.getD [])
  let s := { s with sec := { s.sec with regs := regs, regsLocked := true, fwCdi := some fw, linkKey := some (linkIdentityKey fw) } }
  s.seedDrbg

/-- R835, R849: the Hearth writes a record for the bank that booted when no copy is valid, and raises the floor. -/
def State.hearthRecords (s : State) : State :=
  let digest := fun (x : Option Bank) => (x.map (·.digest)).getD 0
  let s : State := match s.boot.record? with
    | some _ => s
    | none => s.writeRecord (fun r =>
        { r with activeB := s.boot.bankB, digestA := digest s.boot.bankA, digestB := digest s.boot.bankBRec })
  let r := s.boot.record
  match s.boot.bank r.activeB with
  | none => s
  | some x =>
    if !r.trial && x.raiseFloor && decide (s.boot.floor < x.securityVersion) then
      { s with boot := { s.boot with floor := x.securityVersion } }
    else s

/-- R803: the Mantel as the boot reads it; without a valid copy of REPAIR the self-test repairs alone. -/
def State.readMantel (s : State) : State :=
  let s := { s with health := { s.health with mantel := s.health.mantel.map (fun (e : Nat × MantelSec) => (e.1, e.2.booted)) } }
  let torn := (List.range s.wings).any (fun w =>
    let x := s.section_ (1 + w) secRepair
    x.copyA.isNone && x.copyB.isNone)
  if torn then s.setSticky 137 else s

/-- SUMMARY: one more boot of every die. -/
def State.countBoot (s : State) : State :=
  (List.range (1 + s.wings)).foldl (fun s d =>
    let v := s.summary d
    s.setSummary d (v.1, v.2.1 + 1, v.2.2)) s

/-- HEARTH_STAGE (R589, R696, R827, R830, R874): `partsStart` says that every part can be started, `converters` are the PMBus
converters that acknowledge. -/
def execHearthStage (partsStart : Bool) (measurements : List (BitVec 384)) (converters : List (Nat × Converter)) (s : State) :
    Host.Outcome State Fault Refusal :=
  .next (
    if s.boot.stage ≠ .hearth ∨ s.dead then s
    else
      let s := ((s.readMantel.countBoot).recordTrip).hearthRecords
      let s := s.measureHearth measurements
      let s := { s with
        power := { s.power with converters := converters.foldl (fun (t : Tab Converter) x => mput t x.1 x.2) [] }
        boot := { s.boot with stageOne := true, devState := 1, stage := .dram } }
      if partsStart then s else s.failDevice)

/-- DRAM_STAGE (R722, R827, R830, R846): `trained` says that every stack trains. -/
def execDramStage (trained : Bool) (apply : ApplyOutcome) (s : State) : Host.Outcome State Fault Refusal :=
  .next (
    if s.boot.stage ≠ .dram ∨ s.dead then s
    else if !trained then s.failDevice
    else
      let s := { s with wing0 := {}, wing1 := {}, tiles := [], boot := { s.boot with devState := 2, stage := .selfTest } }
      if s.boot.record.applyPending then s.applyStaging apply else s)

/-- R17: the logical tiles of a Gallery that need a spare, in ascending order: those of the repair map and those whose own
position fails now; positions are numbered 100 × (3 w + g) and then 0 to 99. -/
def State.brokenTiles (s : State) (w g : Nat) (failed : List Nat) : List Nat :=
  (List.range 96).filter (fun t => failed.contains (100 * (3 * w + g) + t) || (s.repairs w g).any (fun r => r.1 == t))

/-- R17, R811: the spares of a Gallery's broken tiles: a tile keeps the spare that the repair map gives it while that spare works,
and the other tiles take the unused spares, in ascending order; 255 for a tile that none is left for. -/
def spareMap (broken spares : List Nat) (recorded : Nat → Option Nat) : List (Nat × Nat) :=
  let kept := fun (t : Nat) => (recorded t).filter (fun u => spares.contains u)
  let taken := broken.filterMap kept
  let unused := spares.filter (fun u => !taken.contains u)
  let others := broken.filter (fun t => (kept t).isNone)
  broken.map (fun t => (t, (kept t).getD ((unused[others.idxOf t]?).getD 255)))

/-- R17, R18, R803: a Gallery's repair map of this boot: each broken tile with its spare, or with none. -/
def State.mapGallery (s : State) (w g : Nat) (failed : List Nat) : State :=
  let spares := [0, 1, 2, 3].filter (fun p => !failed.contains (100 * (3 * w + g) + 96 + p))
  let lost := [0, 1, 2, 3].filter (fun p => !spares.contains p)
  let broken := s.brokenTiles w g failed
  let old := s.ledger (1 + w) secRepair
  let stamp := fun (t : Nat) =>
    match old.find? (fun r => match r with | k :: u :: _ => k == g && u == t | _ => false) with
    | some (_ :: _ :: _ :: rest) => rest
    | _ => [s.nt, 2]
  let recorded := fun (t : Nat) =>
    match old.find? (fun r => match r with | k :: u :: _ => k == g && u == t | _ => false) with
    | some (_ :: _ :: u :: _) => some u
    | _ => none
  let map := spareMap broken spares recorded
  let new := map.map (fun r => [g, r.1, r.2] ++ stamp r.1)
  let kept := old.filter (fun r => match r with | k :: _ => k != g | _ => false)
  let s := s.setLedger (1 + w) secRepair (kept ++ new)
  let s := { s with health := { s.health with sparesLost := mput s.health.sparesLost (3 * w + g) lost } }
  map.foldl (fun (s : State) (r : Nat × Nat) => if r.2 = 255 then s.withholdQuarter w g r.1 else s) s

/-- SELF_TEST (R17, R18, R816, R827): `failed` are the tile positions, `landings` the groups of Landing lanes (entry 256 w +
group) in which a lane fails. -/
def execSelfTest (failed landings : List Nat) (s : State) : Host.Outcome State Fault Refusal :=
  .next (
    if s.boot.stage ≠ .selfTest ∨ s.dead then s
    else
      let s := (List.range s.wings).foldl (fun s w => [0, 1, 2].foldl (fun s g => s.mapGallery w g failed) s) s
      { s with
        health := { s.health with landingUsed := landings }
        boot := { s.boot with devState := 3, stage := .settings } })

/-- A saved setting of scope Time. -/
def savedTime (x : SavedSettings) (id : Nat) (d : Int) : Int :=
  match mfind x.settings (settingKey id 0 0) with
  | some v => (BitVec.ofNat 128 v).toInt
  | none => d

/-- R840: the time settings of a copy come into force. -/
def TimeBase.load (t : TimeBase) (x : SavedSettings) : TimeBase :=
  { t with
    originInForce := (savedTime x 0x7001 t.originInForce).toNat
    ppsInDelay := savedTime x 0x7002 t.ppsInDelay
    ppsOutDelay := savedTime x 0x7003 t.ppsOutDelay
    todBaud := (savedTime x 0x7004 t.todBaud).toNat
    lockThreshold := (savedTime x 0x7005 t.lockThreshold).toNat
    outlierLimit := (savedTime x 0x7006 t.outlierLimit).toNat
    maxSlew := (savedTime x 0x7007 t.maxSlew).toNat
    crosscheckBound := (savedTime x 0x7008 t.crosscheckBound).toNat }

/-- R840: a settings copy comes into force; rule r of bank b is entry 4,096 b + r. -/
def State.loadSettings (s : State) (x : SavedSettings) : State :=
  let bank := fun (b : Nat) => (x.rules.filter (fun e => decide (e.1 / 4096 = b))).map (fun e => (e.1 % 4096, e.2))
  { s with
    settings := x.settings.filter (fun e => settingScope (e.1 / 16777216) != some .time)
    time := s.time.load x
    hall := { s.hall with bank0 := { rules := bank 0 }, bank1 := { rules := bank 1 }, activeBank := x.activeBank }
    boot := { s.boot with anchors := x.anchors } }

/-- R523: an origin that was pending at the reset comes into force (log entry 96). -/
def TimeBase.takeOrigin (t : TimeBase) : TimeBase :=
  match t.originPending with
  | some v => { t with originInForce := v, originPending := none }
  | none => t

/-- SETTINGS_STAGE (R523, R827, R840). -/
def execSettingsStage (s : State) : Host.Outcome State Fault Refusal :=
  .next (
    if s.boot.stage ≠ .settings ∨ s.dead then s
    else
      let s : State := match s.boot.saved with
        | some x => s.loadSettings x
        | none => s.setSticky 136
      { s with time := s.time.takeOrigin, boot := { s.boot with stage := .ready } })

/-- READY (R827, R828, R878). -/
def execReady (s : State) : Host.Outcome State Fault Refusal :=
  .next (
    if s.boot.stage ≠ .ready ∨ s.dead then s
    else s.power.serdesLost.foldl (fun s n => s.darkLanes n) { s with boot := { s.boot with devState := 4, stage := .done } })

/-- TRIAL_TIMEOUT (R848): 150 s have passed since the start of a trial boot that has not reached READY. -/
def execTrialTimeout (s : State) : Host.Outcome State Fault Refusal :=
  .next (if s.boot.trialBoot && s.boot.devState != 4 && s.boot.stage != .rom && !s.dead then s.restart true else s)

end Sys2Proof.Machine
end

