-- ==== Sys2Proof/Machine/Tables.lean ====
section
/-!
DEFINITION. Machine/Tables.lean: software access to the flow table (R243 to R255), table changes of a pair (R744), the
shadow compare (R256 to R260) and the sweeper (R235 to R242).
-/
namespace Sys2Proof.Machine

/-! ### Changes of whole ways (R214, R248, R559, R744) -/

/-- R248: a slot becomes valid or takes another key. -/
def FlowEntry.startsIn (old new : FlowEntry) : Bool := (new.valid && !old.valid) || old.key48 != new.key48

/-- R214, R215, R236, R248: what a way holds once `new` has been written over `old` at instant `e`: a slot that becomes valid
or is re-keyed starts afresh, any other keeps the fields that the device owns; entry_gen advances with valid and the key. -/
def FlowEntry.overwrite (old new : FlowEntry) (e : Nat) : FlowEntry :=
  let gen := if old.differs new then (old.gen + 1) % 256 else old.gen
  if old.startsIn new then { new with hit := false, aged := false, gen := gen, insertNt := e }
  else { new with hit := old.hit, aged := old.aged, gen := gen, insertNt := old.insertNt }

/-- R248, R249, R559: a slot takes new contents at instant `e`; an entry that ends leaves its flow record. -/
def State.applyWay (s : State) (p h e : Nat) (new : FlowEntry) (reason : Nat) : State :=
  let old := s.entryAt h
  let s := if old.valid && old.differs new then s.exportFlow p h old reason else s
  s.changeSlot p h e (old.overwrite new e)

/-- The four ways of a bucket take new contents. -/
def State.applyBucket (s : State) (w p b e : Nat) (new : List FlowEntry) (reason : Nat) : State :=
  [0, 1, 2, 3].foldl (fun s way => s.applyWay p (handleOf w b way) e ((new[way]?).getD {}) reason) s

/-- R236, Table 06-8: an entry that aging removes is counted. -/
def State.countAged (s : State) (w p reason n : Nat) : State :=
  if reason = 1 then s.bumpN (ctrOnWing w (Ctr.partAgedOut p)) n else s

/-! ### Locks (R244 to R254) -/

/-- R252: logged hits of a bucket whose handles still hold the logged entry_gen take effect; the others are discarded. -/
def State.applyHits (s : State) (w b : Nat) : State :=
  let mine := fun (x : Nat × Nat) => !hOverflow x.1 && hBucket x.1 == b
  let hits := (s.wing w).hitLog.filter mine
  let s := s.setWing w { s.wing w with hitLog := (s.wing w).hitLog.filter (fun x => !mine x) }
  hits.foldl (fun s x =>
    let e := s.entryAt x.1
    if e.gen = x.2 ∧ e.valid then s.putEntry x.1 { e with hit := true } else s) s

/-- A lock ends (R248, R252, R254). -/
def State.releaseLock (s : State) (w b : Nat) : State :=
  (s.setWing w { s.wing w with locks := mdel (s.wing w).locks b }).applyHits w b

/-- R244, R246, R254: the lock of an owner on a bucket, or the status that names its absence. -/
def Wing.lockFor (x : Wing) (b owner : Nat) : Except Nat Lock :=
  let absent := if x.broken.contains (b, owner) then stTimeout else stConflict
  match mfind x.locks b with
  | some l => if l.owner = owner ∧ l.unlocking = none then .ok l else .error absent
  | none => .error absent

/-- R243, Table 17-17: why a command that names buckets `first` to `last` of a Wing cannot reach them: ST_DENIED for a VF
outside its own share, else ST_BAD_PARAM at the first bucket's or the last one's offset. -/
def State.bucketFault (s : State) (cmd : Cmd) (w first last offFirst offLast : Nat) : Option Status :=
  let p := s.partOf cmd.hdr.partition
  if p.ownsBucket w first ∧ p.ownsBucket w last then none
  else if 1 ≤ cmd.fn ∧ cmd.fn ≤ 8 then some (fail stDenied)
  else some (badParam (if p.ownsBucket w first then offLast else offFirst))

/-- The Wing of a Table command does not exist on the part. -/
def State.wingBad (s : State) (w : Nat) : Bool := !decide (w < s.wings)

/-- Fields of a bucket selector that are out of range (Table 17-17), at their offsets. -/
def bucketBad (s : State) (w b off : Nat) : List (Bool × Nat) := [(s.wingBad w, off), (decide (4194304 ≤ b), off + 4)]

/-- TABLE_LOCK (R244, R255). -/
def execTableLock (c : CmdIn) (wing owner bucket : Nat) (s : State) : Host.Outcome State Fault Refusal :=
  .next (
    if !s.wingFree wing then s
    else runNow 0x0401 (.tableLock c wing owner bucket) c (bucketBad s wing bucket 0) s (fun cmd s =>
      let x := s.wing wing
      match s.bucketFault cmd wing bucket bucket 36 36 with
      | some st => (st, s)
      | none =>
      if s.isStandby then (fail stConflict, s)
      else if (mfind x.locks bucket).isSome ∨ 64 ≤ x.locks.length then (fail stBusy, s)
      else
        ({ status := stOk, info := s.nt % 4294967296 },
          s.setWing wing { x with
            locks := mput x.locks bucket { owner := owner, fn := cmd.fn, grant := s.nt }
            broken := x.broken.filter (fun e => e != (bucket, owner)) })))

/-- TABLE_READ: committed contents, or the staging copy of a lock (R245). -/
def execTableRead (c : CmdIn) (wing owner bucket count : Nat) (staged : Bool) (s : State) : Host.Outcome State Fault Refusal :=
  .next (
    if !s.wingFree wing then s
    else
      let bad := bucketBad s wing bucket 0x10 ++ [(!inR count 1 4096, 0x18)]
      runNow 0x0402 (.tableRead c wing owner bucket count staged) c bad s (fun cmd s =>
        let x := s.wing wing
        match s.bucketFault cmd wing bucket (bucket + count - 1) 52 52 with
        | some st => (st, s)
        | none =>
        if staged then
          match mfind x.locks bucket with
          | none => (fail stConflict, s)
          | some l =>
            if count ≠ 1 ∨ l.owner ≠ owner then (fail stConflict, s)
            else (okReply (bucketBytes (l.staging.getD (x.bucket bucket)) (x.lockWord bucket)), s)
        else
          (okReply ((List.range count).flatMap (fun i => bucketBytes (x.bucket (bucket + i)) (x.lockWord (bucket + i)))), s)))

/-- TABLE_WRITE (R245, R246, R254). -/
def execTableWrite (c : CmdIn) (wing owner bucket : Nat) (data : Bytes) (dmaOk : Bool) (s : State) :
    Host.Outcome State Fault Refusal :=
  .next (
    if !s.wingFree wing then s
    else runNow 0x0403 (.tableWrite c wing owner bucket data dmaOk) c (bucketBad s wing bucket 0) s (fun cmd s =>
      let x := s.wing wing
      match s.bucketFault cmd wing bucket bucket 36 36 with
      | some st => (st, s)
      | none =>
        match x.lockFor bucket owner with
        | .error st => (fail st, s)
        | .ok l =>
          (okStatus, s.setWing wing { x with locks := mput x.locks bucket { l with staging := some (entriesOf 4 data) } }))
      (data := 256) (holds := fun b => b == data) (dmaOk := dmaOk))

/-- R146, R247: a key mode belongs to a share. -/
def State.modeBelongs (s : State) (p mode : Nat) : Bool :=
  let rules := (s.hall.bank0.rules ++ s.hall.bank1.rules).filter (fun r => r.2.valid && r.2.partition == p)
  if rules.isEmpty then decide (mode ≤ 1) else decide (mode ≤ 1) && rules.any (fun r => r.2.keyMode == mode)

/-- R247: the key of a way belongs to the share, bucket and Wing. -/
def State.keyBelongs (s : State) (w p b : Nat) (key : Bytes) : Bool :=
  let f := leAt key 0 1
  let h := s.flowHash key
  f % 16 == p && s.modeBelongs p (f / 16 % 4) && s.homeWing h == w && (s.partOf p).bucketOf w h == b

/-- R247: the key of a way is valid elsewhere. -/
def State.keyTwice (s : State) (w way : Nat) (key : Bytes) (staged : List FlowEntry) : Bool :=
  [0, 1, 2, 3].any (fun i =>
    i != way && (match staged[i]? with | some e => e.valid && e.key48 == key | none => false)) ||
    (s.wing w).overflow.any (fun e => e.2.valid && e.2.key48 == key)

/-- R247: the check of one way. -/
def State.checkWay (s : State) (w p b way : Nat) (staged : List FlowEntry) : Option Status :=
  let old := s.entryAt (handleOf w b way)
  let new := (staged[way]?).getD {}
  if !old.differs new then none
  else if !s.keyBelongs w p b new.key48 then some { status := stBadParam, detail := way }
  else if s.keyTwice w way new.key48 staged then some { status := stConflict, detail := way }
  else none

/-- R247: the first way that fails. -/
def State.checkStaging (s : State) (w p b : Nat) (staged : List FlowEntry) : Option Status :=
  [0, 1, 2, 3].findSome? (fun way => s.checkWay w p b way staged)

/-- R744: the bucket as it will stand at `e`. -/
def State.bucketAfter (s : State) (w b e : Nat) (staged : List FlowEntry) : Bytes :=
  bucketBytes ([0, 1, 2, 3].map (fun way => (s.entryAt (handleOf w b way)).overwrite ((staged[way]?).getD {}) e)) 0

/-- R744: the primary decides the new contents of a bucket. -/
def State.decideBucket (s : State) (w p b reason : Nat) (new : List FlowEntry) : State :=
  (s.pairDecide evTableApply w p (fun e => .tableChange e w p (.bucket b (s.bucketAfter w b e new))) reason).2.bump Ctr.pairChanges

/-- TABLE_UNLOCK (R246 to R249, R252, R744, R747). -/
def execTableUnlock (c : CmdIn) (wing owner bucket : Nat) (discard : Bool) (s : State) : Host.Outcome State Fault Refusal :=
  .next (
    if !s.wingFree wing || (s.isPrimary && (s.logFull wing || s.changePending wing (PairUnit.isBucket bucket))) then s
    else runCmd 0x0404 (.tableUnlock c wing owner bucket discard) c (bucketBad s wing bucket 0) s (fun cmd s =>
      let p := cmd.hdr.partition
      match s.bucketFault cmd wing bucket bucket 36 36 with
      | some st => (some st, s)
      | none =>
        match (s.wing wing).lockFor bucket owner with
        | .error st => (some (fail st), s)
        | .ok l =>
          match (if discard then none else l.staging) with
          | none => (some okStatus, s.releaseLock wing bucket)
          | some new =>
            match s.checkStaging wing p bucket new with
            | some st => (some st, s.releaseLock wing bucket)
            | none =>
              if s.noRoom wing then (some (fail stBusy), s)
              else if s.isPrimary then
                let x := s.wing wing
                let s := s.setWing wing { x with locks := mput x.locks bucket { l with unlocking := some c.ring } }
                (none, s.decideBucket wing p bucket 4 new)
              else (some okStatus, (s.applyBucket wing p bucket s.nt new 4).releaseLock wing bucket)))

/-- LOCK_BREAK (R254): a lock has been held 50 µs since its grant. -/
def execLockBreak (wing bucket : Nat) (s : State) : Host.Outcome State Fault Refusal :=
  .next (
    match mfind (s.wing wing).locks bucket with
    | none => s
    | some l =>
      if l.unlocking ≠ none ∨ s.nt < l.grant + 50 * us ∨ ¬ s.wingFree wing then s
      else
        let s := s.releaseLock wing bucket
        let x := s.wing wing
        let s := s.setWing wing { x with broken := (bucket, l.owner) :: x.broken }
        (s.bump (Ctr.wingLockBroken wing)).setStickyIn (1 + wing) 133)

/-! ### Overflow entries, hash, shadow (R243, R250, R256) -/

/-- Entries of the overflow store. -/
def overflowN : Nat := 32768

/-- An overflow entry as a partition sees it: an entry of another partition reads as zero. -/
def Wing.ovSeen (x : Wing) (p i : Nat) : FlowEntry :=
  let e := x.ovEntry i
  if e.partition = p then e else {}

/-- TABLE_OVERFLOW_READ. -/
def execTableOverflowRead (c : CmdIn) (wing first count : Nat) (s : State) : Host.Outcome State Fault Refusal :=
  .next (
    if !s.wingFree wing then s
    else
      let bad := [(s.wingBad wing, 0x10), (decide (overflowN ≤ first), 0x14),
        (!inR count 1 overflowN || decide (overflowN < first + count), 0x18)]
      runRead 0x0405 (.tableOverflowRead c wing first count) c bad s (fun cmd s =>
        okReply ((List.range count).flatMap (fun i => ((s.wing wing).ovSeen cmd.hdr.partition (first + i)).bytes 0))))

/-- R250, R744: an overflow entry is removed at once, or at the effective instant that the primary decides. -/
def State.removeOverflow (s : State) (w p i reason : Nat) : State :=
  let h := ovHandle w i
  let e := s.entryAt h
  if s.isPrimary then
    (s.pairDecide evTableApply w p (fun n => .tableChange n w p (.overflow i ((e.overwrite e.removed n).bytes 0))) reason).2.bump
      Ctr.pairChanges
  else (s.applyWay p h s.nt e.removed reason).countAged w p reason 1

/-- TABLE_OVERFLOW_DELETE (R250). -/
def execTableOverflowDelete (c : CmdIn) (handle entryGen : Nat) (s : State) : Host.Outcome State Fault Refusal :=
  .next (
    let w := hWing handle
    if !s.wingFree w || (s.isPrimary && s.logFull w) then s
    else
      let i := hSlot handle
      let bad := [(decide (67108864 ≤ handle) || s.wingBad w || (hOverflow handle && decide (overflowN ≤ i)), 0)]
      runNow 0x0406 (.tableOverflowDelete c handle entryGen) c bad s (fun cmd s =>
        let e := s.entryAt handle
        if !hOverflow handle then (badParam 32, s)
        else if 1 ≤ cmd.fn ∧ cmd.fn ≤ 8 ∧ e.valid ∧ e.partition ≠ cmd.hdr.partition then (fail stDenied, s)
        else if !e.valid then (fail stNotFound, s)
        else if e.gen ≠ entryGen ∨ s.isStandby then (fail stConflict, s)
        else if s.noRoom w then (fail stBusy, s)
        else (okStatus, s.removeOverflow w e.partition i 4)))

/-- R11, R12, Table 06-1: reserved bytes of a table key that are not 0 and a reserved key mode, at their offsets from `off`. -/
def keyFaults (key : Bytes) (off : Nat) : List (Bool × Nat) :=
  (bitOf (leAt key 0 1) 5 || bitOf (leAt key 0 1) 7, off) ::
    [6, 7, 12, 13, 14, 15].map (fun i => (leAt key i 1 != 0, off + i))

/-- TABLE_HASH (R209 to R212). Its parameters stand at param_addr, so its reply goes where they say (R611, R648). -/
def execTableHash (c : CmdIn) (key : Bytes) (s : State) : Host.Outcome State Fault Refusal :=
  .next (runNow 0x0407 (.tableHash c key) c (keyFaults key 0x10) s (fun cmd s =>
    let p := cmd.hdr.partition
    let h := s.flowHash key
    let w := s.homeWing h
    if leAt key 0 1 % 16 ≠ p then (badParam 48, s)
    else
      (okReply (leBytes 8 (h + 4294967296 * (s.partOf p).bucketOf w h + 72057594037927936 * w)),
       s.setCmd c.ring (some { cmd with replyAt := some c.replyAddr }))))

/-- Address of a unit of the shadow region in a partition's DRAM region: buckets, then overflow entries. -/
def Partition.shadowAddr (x : Partition) (w : Nat) (overflow : Bool) (unit : Nat) : Nat :=
  4096 * x.shadowOff + (if overflow then 256 * 2 ^ x.shareLog2 + 64 * unit else 256 * (unit - x.shareBase w))

/-- TABLE_SHADOW_WRITE: the units lie within the shadow region. -/
def execTableShadowWrite (c : CmdIn) (wing : Nat) (overflow : Bool) (first count : Nat) (data : Bytes) (dmaOk : Bool)
    (s : State) : Host.Outcome State Fault Refusal :=
  .next (
    if !s.wingFree wing then s
    else
      let bad := [(s.wingBad wing, 0), (overflow && decide (overflowN ≤ first), 4),
        (overflow && decide (overflowN < first + count), 8)]
      runNow 0x0408 (.tableShadowWrite c wing overflow first count data dmaOk) c bad s (fun cmd s =>
        let p := cmd.hdr.partition
        let x := s.partOf p
        match (if overflow then none else s.bucketFault cmd wing first (first + (count - 1)) 36 40) with
        | some st => (st, s)
        | none =>
          let w := s.wing wing
          let bytes := data.take (count * (if overflow then 64 else 256))
          (okStatus, s.setWing wing { w with
            regions := mput w.regions p (memWrite (w.region p) (x.shadowAddr wing overflow first) bytes) }))
        (data := count * (if overflow then 64 else 256)) (holds := fun b => b == data) (dmaOk := dmaOk))

/-! ### Compare (R256 to R260) -/

/-- TABLE_COMPARE (R256, R260). -/
def execTableCompare (c : CmdIn) (wing : Nat) (includeOverflow skipLearned : Bool) (queue priority firstBucket lastBucket
    compareId : Nat) (s : State) : Host.Outcome State Fault Refusal :=
  .next (
    if !s.wingFree wing then s
    else
      let bad := [(s.wingBad wing, 0), (decide (4194304 ≤ firstBucket), 4),
        (decide (4194304 ≤ lastBucket) || decide (lastBucket < firstBucket), 8)]
      runNow 0x0409 (.tableCompare c wing includeOverflow skipLearned queue priority firstBucket lastBucket compareId) c bad s (fun cmd s =>
        let p := cmd.hdr.partition
        let x := s.wing wing
        match s.bucketFault cmd wing firstBucket lastBucket 36 40 with
        | some st => (st, s)
        | none =>
        if x.compare.isSome then (fail stBusy, s)
        else (okStatus, s.setWing wing { x with compare := some (
          { partition := p, next := firstBucket, last := lastBucket, overflow := includeOverflow, ovNext := 0
            skipLearned := skipLearned, id := compareId, queue := queue, priority := priority } : Compare) })))

/-- R257: the fields of an entry that the compare looks at. -/
def FlowEntry.compared (e : FlowEntry) : Bytes :=
  FlowEntry.bytes { e with hit := false, aged := false, gen := 0, insertNt := 0 } 0

/-- R257: two ways differ. -/
def wayDiffers (skipLearned : Bool) (live shadow : FlowEntry) : Bool :=
  live.compared != shadow.compared && !(skipLearned && (live.learned || shadow.learned))

/-- R259: mask of the ways that differ. -/
def wayMask (skipLearned : Bool) : List FlowEntry → List FlowEntry → Nat
  | a :: as, b :: bs => b2n (wayDiffers skipLearned a b) + 2 * wayMask skipLearned as bs
  | _, _ => 0

/-- R256: the next unit of a compare: its number, whether it is an overflow entry, its live and its shadow entries. -/
def State.compareNext (s : State) (w : Nat) (k : Compare) : Option (Nat × Bool × List FlowEntry × List FlowEntry) :=
  let x := s.wing w
  let p := s.partOf k.partition
  if k.next ≤ k.last then
    some (k.next, false, x.bucket k.next, entriesOf 4 (memRead (x.region k.partition) (p.shadowAddr w false k.next) 256))
  else if k.overflow ∧ k.ovNext < overflowN then
    some (k.ovNext, true, [x.ovSeen k.partition k.ovNext],
      entriesOf 1 (memRead (x.region k.partition) (p.shadowAddr w true k.ovNext) 64))
  else none

/-- COMPARE_UNIT (R256 to R259): the engine compares one unit. -/
def execCompareUnit (wing : Nat) (s : State) : Host.Outcome State Fault Refusal :=
  .next (
    match (s.wing wing).compare with
    | none => s
    | some k =>
      match s.compareNext wing k with
      | none => s
      | some (unit, ov, live, shadow) =>
        if !s.wingFree wing then s
        else
          let mask := wayMask k.skipLearned live shadow
          let k' := if ov then { k with ovNext := k.ovNext + 1 } else { k with next := k.next + 1 }
          let k' := { k' with compared := k'.compared + 1, mismatches := k'.mismatches + (if mask = 0 then 0 else 1) }
          let s := s.setWing wing { s.wing wing with compare := some k' }
          if mask = 0 then s
          else
            (s.bump (Ctr.wingCompareMismatch wing)).record k.partition k.queue k.priority 3
              (leBytes 4 k.id ++ leBytes 4 (unit + 16777216 * b2n ov + 33554432 * wing + 268435456 * mask) ++ zeroBytes 8))

/-- COMPARE_DONE (R259): the walk has ended. -/
def execCompareDone (wing : Nat) (s : State) : Host.Outcome State Fault Refusal :=
  .next (
    match (s.wing wing).compare with
    | none => s
    | some k =>
      if (s.compareNext wing k).isSome ∨ ¬ s.wingFree wing then s
      else
        (s.setWing wing { s.wing wing with compare := none }).record k.partition k.queue k.priority 4
          (leBytes 4 k.id ++ leBytes 4 (33554432 * wing) ++ leBytes 4 k.compared ++ leBytes 4 k.mismatches ++ leBytes 8 s.nt))

/-! ### The sweeper (R235 to R242) -/

/-- R235: the first instant of a partition's sweeps at or after `nt`. -/
def sweepAfter (start period nt : Nat) : Nat :=
  if nt ≤ start then start else start + (nt - start + period - 1) / period * period

/-- The sweep period of a partition in NT units. -/
def State.agePeriod (s : State) (p : Nat) : Nat := s.partSetting 0x1009 p * ms

/-- R235: a partition's next sweep takes its place in the event queue of every Wing. -/
def State.placeSweep (s : State) (p : Nat) : State :=
  let t := sweepAfter (s.partSetting 0x100A p) (s.agePeriod p) s.nt
  (List.range s.wings).foldl (fun s w =>
    let b := blkCellar w
    let s := s.setQueue b ((s.queueOf b).filter (fun o => !(o.kind == evAgeSweep && o.key == p)))
    s.enqueue b { instant := t, kind := evAgeSweep, key := p, periodic := true }) s

/-- R237: an entry is in flight. -/
def Wing.inFlight (x : Wing) (h gen : Nat) : Bool := x.stairs.any (fun y => y.lookup == 0 && y.handle == h && y.gen == gen)

/-- R236: what a visit makes of an entry: its new bits, or none when it is to be removed. -/
def Wing.aged (x : Wing) (h : Nat) (e : FlowEntry) : Option FlowEntry :=
  if !e.valid || e.noAge then some e
  else if e.hit || x.inFlight h e.gen then some { e with hit := false, aged := false }
  else if !e.aged then some { e with aged := true }
  else none

/-- R236: a visit writes the bits of the entries that stay. -/
def State.ageBits (s : State) (w : Nat) (hs : List Nat) : State :=
  hs.foldl (fun s h =>
    match (s.wing w).aged h (s.entryAt h) with
    | some e => s.putEntry h e
    | none => s) s

/-- R236, R239, R242: the sweeper visits a bucket. -/
def State.sweepBucket (s : State) (w p b : Nat) : State :=
  if (mfind (s.wing w).locks b).isSome then s.bump (Ctr.wingSweepSkipLocked w)
  else
    let hs := [0, 1, 2, 3].map (handleOf w b)
    let gone := hs.filter (fun h => ((s.wing w).aged h (s.entryAt h)).isNone)
    let s := s.ageBits w hs
    if gone.isEmpty || s.isStandby then s
    else
      let new := hs.map (fun h => if gone.contains h then (s.entryAt h).removed else s.entryAt h)
      if s.isPrimary then s.decideBucket w p b 1 new
      else (s.applyBucket w p b s.nt new 1).countAged w p 1 gone.length

/-- R236, R242: the sweeper visits an overflow index. -/
def State.sweepOverflow (s : State) (w p i : Nat) : State :=
  let h := ovHandle w i
  let e := s.entryAt h
  if e.partition ≠ p ∨ ¬ e.valid then s
  else
    match (s.wing w).aged h e with
    | some e' => s.putEntry h e'
    | none => if s.isStandby then s else s.removeOverflow w p i 1

/-- Units of a sweep: the buckets of the share, then the overflow indices. -/
def Partition.sweepUnits (x : Partition) : Nat := 2 ^ x.shareLog2 + overflowN

/-- R240: the unit behind a sweep's next one; a sweep that waits starts when the running one ends. -/
def Sweep.advance (k : Sweep) (units : Nat) : Option Sweep :=
  if k.next + 1 < units then some { k with next := k.next + 1 }
  else if k.waiting then some { next := 0, waiting := false }
  else none

/-- R236: a running sweep visits its next unit. -/
def State.sweepVisit (s : State) (w p : Nat) (k : Sweep) : State :=
  let x := s.partOf p
  let size := 2 ^ x.shareLog2
  let s := if k.next < size then s.sweepBucket w p (x.shareBase w + k.next) else s.sweepOverflow w p (k.next - size)
  let y := s.wing w
  s.setWing w { y with sweeps := match k.advance x.sweepUnits with
    | some k' => mput y.sweeps p k'
    | none => mdel y.sweeps p }

/-- AGE_SWEEP (R235 to R242, R747): a sweep starts at its instant, or the running one visits its next unit. A partition that is
being scrubbed starts none (R723). -/
def execAgeSweep (wing partition : Nat) (s : State) : Host.Outcome State Fault Refusal :=
  .next (
    match mfind (s.wing wing).sweeps partition with
    | some k =>
      if !s.wingFree wing || s.decisionWaits wing then s else s.sweepVisit wing partition k
    | none =>
      match s.dueIs (blkCellar wing) evAgeSweep partition with
      | none => s
      | some o =>
        let s := s.startOcc (blkCellar wing) o
        if (s.partOf partition).state = .unconfigured then s
        else
          let s := s.enqueue (blkCellar wing) { o with instant := o.instant + s.agePeriod partition }
          if (s.partOf partition).state = .scrubbing then s
          else
            let y := s.wing wing
            s.setWing wing { y with sweeps := mput y.sweeps partition { next := 0, waiting := false } })

/-- SWEEP_OVERRUN (R240): a sweep's instant comes while the former one still runs. -/
def execSweepOverrun (wing partition : Nat) (s : State) : Host.Outcome State Fault Refusal :=
  .next (
    match mfind (s.wing wing).sweeps partition, s.dueIs (blkCellar wing) evAgeSweep partition with
    | some k, some o =>
      let s := s.startOcc (blkCellar wing) o
      let s := s.enqueue (blkCellar wing) { o with instant := o.instant + s.agePeriod partition }
      let y := s.wing wing
      (s.setWing wing { y with sweeps := mput y.sweeps partition { k with waiting := true } }).bump (Ctr.wingSweepOverrun wing)
    | _, _ => s)

/-! ### Table changes of a pair at their instant (R744 to R746) -/

/-- R744: the ring whose TABLE_UNLOCK waits for a change of a bucket completes. -/
def State.finishUnlock (s : State) (w b : Nat) : State :=
  match (mfind (s.wing w).locks b).bind (·.unlocking) with
  | some r => (s.releaseLock w b).complete r okStatus
  | none => s

/-- R744, R745, R749: a decided table change takes effect. -/
def State.applyTableChange (s : State) (d : Decision) : State :=
  match d.body with
  | .tableChange e w p (.bucket b data) =>
    let old := (s.wing w).bucket b
    let new := entriesOf 4 data
    let gone := (old.zip new).countP (fun x => x.1.valid && !x.2.valid)
    let s := s.logChange w { e := e, partition := p, former := .bucket b (bucketBytes old 0) }
    let s := (s.applyBucket w p b e new d.reason).countAged w p d.reason gone
    let s := if d.own then s else s.bump Ctr.pairChanges
    ((s.amendImage p w e (bucketUnit b) (fun _ => .bucket b data)).addDigest e p w d.body.digest).finishUnlock w b
  | .tableChange e w p (.overflow i data) =>
    let h := ovHandle w i
    let old := s.entryAt h
    let s := s.logChange w { e := e, partition := p, former := .overflow i (old.bytes 0) }
    let s := (s.applyWay p h e (entryOf data) d.reason).countAged w p d.reason (b2n (old.valid && !(entryOf data).valid))
    let s := if d.own then s else s.bump Ctr.pairChanges
    (s.amendImage p w e (overflowUnit i) (fun _ => .overflow i data)).addDigest e p w d.body.digest
  | _ => s

end Sys2Proof.Machine
end

