-- ==== Sys2Proof/Machine/SettingCmds.lean ====
section
/-!
DEFINITION. Machine/SettingCmds.lean: reading and writing settings (R656 to R661, R47, R156, R261, R555, R559, R893). SETTING_WRITE
itself stands in Machine/Mirror.lean, since a pair mirrors it.
-/
namespace Sys2Proof.Machine

/-! ### Parameters (Tables 17-5, 17-6) -/

/-- R893 and step 8 of Table 17-4. -/
def settingState (id : Nat) (write : Bool) (cmd : Cmd) (s : State) : Option Status :=
  match settingScope id with
  | none => none
  | some sc =>
    let st := (s.partOf cmd.hdr.partition).state
    if sc.ofPart && st == .unconfigured then some (fail stNotFound)
    else if write && sc == .partition && st == .scrubbing then some (fail stScrubbing)
    else none

/-- Table 17-5: fields out of range, the first of them at offset `o`. -/
def settingBad (s : State) (id inst elem o : Nat) : List (Bool × Nat) :=
  match settingScope id with
  | none => [(true, o)]
  | some sc => [(!decide (inst < s.instances sc), o + 2), (!decide (elem < settingElements id), o + 4)]

/-! ### SETTING_READ -/

/-- R552: the value in force of a time setting. -/
def TimeBase.settingValue (t : TimeBase) (id : Nat) : Int :=
  match id with
  | 0x7001 => t.originInForce
  | 0x7002 => t.ppsInDelay
  | 0x7003 => t.ppsOutDelay
  | 0x7004 => t.todBaud
  | 0x7005 => t.lockThreshold
  | 0x7006 => t.outlierLimit
  | 0x7007 => t.maxSlew
  | _ => t.crosscheckBound

/-- The 16 bytes of a setting. -/
def State.settingBytes (s : State) (p id inst elem : Nat) : Bytes :=
  match settingScope id with
  | none => zeroBytes 16
  | some .time => leInt 16 (s.time.settingValue id)
  | some sc => leBytes 16 (s.setting id (scopedInst sc p inst) elem)

/-- SETTING_READ (R656). -/
def execSettingRead (c : CmdIn) (setting inst element : Nat) (s : State) : Host.Outcome State Fault Refusal :=
  .next (runCmd 0x0206 (.settingRead c setting inst element) c (settingBad s setting inst element 0x10) s
    (fun cmd s => (some (okReply (s.settingBytes cmd.hdr.partition setting inst element)), s))
    (settingState setting false) (fun cmd _ => settingMisnamed setting cmd))

/-! ### Conditions of SETTING_WRITE (R658, R659, R748) -/

/-- R658: a VF writes a setting that is none of its own. -/
def settingDenied (s : State) (fn id inst : Nat) : Bool :=
  let own := match settingScope id with
    | some .partition | some .reportQueue => true
    | some .queue =>
      let o := s.setting 0x4001 inst 0
      decide (0x4004 ≤ id) && decide (o < s.partsN) && s.fnOf o == fn
    | _ => false
  decide (1 ≤ fn ∧ fn ≤ 8) && !own

/-- R156: two of the tunnel ports of a bank would be equal. -/
def State.portsEqual (s : State) (id bank v : Nat) : Bool :=
  inR id 0x5001 0x5003 && ([0x5001, 0x5002, 0x5003].filter (fun k => k != id)).any (fun k => s.setting k bank 0 == v)

/-- R555: the shaper rates of a port's queues exceed what its verdict reserve leaves. -/
def State.overShaped (s : State) (port : Nat) : Bool :=
  let rates := ((List.range 4096).filter (fun q => s.setting 0x4002 q 0 == port)).map (fun q => s.setting 0x4006 q 0)
  decide (2000 * (100 - s.setting 0x3005 port 0) < rates.foldl (· + ·) 0)

/-- R555: a write that touches shaper rates or a reserve breaks the port's limit. -/
def State.shaperFault (s : State) (id inst v : Nat) : Bool :=
  let t := s.putSetting id inst 0 v
  if id = 0x4002 ∨ id = 0x4006 then t.overShaped (t.setting 0x4002 inst 0)
  else if id = 0x3005 then t.overShaped inst
  else false

/-- R559: the payload kind that a binding needs. -/
def bindingKind (id : Nat) : Option Nat :=
  match id with
  | 0x100D => some 0
  | 0x0003 | 0x100E | 0x1012 => some 1
  | _ => none

/-- R559: a binding names a queue of another payload kind, or a VF names a queue that its partition does not own. -/
def State.bindingFault (s : State) (fn p id v : Nat) : Bool :=
  match bindingKind id with
  | none => false
  | some k => v != noQueue && (s.setting 0x4005 v 0 != k || (decide (1 ≤ fn ∧ fn ≤ 8) && s.setting 0x4001 v 0 != p))

/-- R261: some share holds a valid entry. -/
def State.anyValid (s : State) : Bool :=
  [s.wing0, s.wing1].any (fun x => x.entries.any (fun e => e.2.valid))

/-- R154, R659: a write of a bank's settings or rules while a swap is armed, or in a pair to the active bank. -/
def State.bankFault (s : State) (bank : Nat) : Option Status :=
  if s.hall.armedSwap.isSome then some (fail stBusy)
  else if s.paired && bank == s.hall.activeBank then some (fail stConflict)
  else none

/-- R658, R659: the conditions of SETTING_WRITE behind the checks of Table 17-4, for a command of function `fn`. -/
def State.writeFault (s : State) (fn p id inst v : Nat) : Option Status :=
  if settingDenied s fn id inst then some (fail stDenied)
  else if s.portsEqual id inst v then some (badParam 48)
  else if s.shaperFault id inst v || s.bindingFault fn p id v then some (fail stConflict)
  else if id = 0x0002 && (s.paired || s.anyValid) then some (fail stConflict)
  else if settingScope id = some .bank then s.bankFault inst
  else none

/-! ### Effects -/

/-- R47: deadline_count holds from the next Hall cycle on, or from its effective instant in a pair. -/
def State.setDeadline (s : State) (p v e : Nat) (paired : Bool) : State :=
  let at_ := if paired then e else s.time.tick.nt
  let old := (mget [] s.hall.deadlines p).filter (fun x => decide (x.2 < at_))
  { s with hall := { s.hall with deadlines := mput s.hall.deadlines p ((v, at_) :: old) } }

/-- R566, R572: the effects of a queue's or port's setting on templates and backlog; `port` is the queue's former port. -/
def State.exportSetting (s : State) (id inst port : Nat) : State :=
  if inR id 0x4001 0x400C then
    let x := s.xq inst
    let moved := id = 0x4002 ∨ id = 0x4003
    let s := if (mfind s.exp.queues inst).isSome then s.setXq inst { x.templatesDue with awake := x.awake && !moved } else s
    (s.refreshPort port).refreshPort (s.setting 0x4002 inst 0)
  else if inR id 0x3001 0x3006 then s.refreshPort inst
  else s

/-- R583: the next sample instant after a change of sample_period. -/
def State.placeSample (s : State) : State :=
  let q := (s.queueOf blkExport).filter (fun o => o.kind != evShaperSample)
  let had := q.length != (s.queueOf blkExport).length
  let s := s.setQueue blkExport q
  if had then
    s.enqueue blkExport { instant := nextGrid s.nt (s.setting 0x0005 0 0 * us), kind := evShaperSample, key := 0, periodic := true }
  else s

/-- R748: the former value of a setting, which holds for stamps before an instant. -/
def State.pushFormer (s : State) (e id k elem v : Nat) : State :=
  { s with hall := { s.hall with formers := (e, settingKey id k elem, v) :: s.hall.formers } }

/-- R578: shaping goes on with the former rate or overhead to the end of the Hall cycle; writes of one cycle keep the value
from before the first. -/
def State.shapeFormer (s : State) (id k elem v : Nat) : State :=
  let live := s.hall.formers.filter (fun f => f.2.1 != settingKey id k elem || decide (s.nt < f.1))
  ({ s with hall := { s.hall with formers := live } }).pushFormer (s.nt + 1) id k elem v

/-- A setting takes its value; `paired` says that R748 names the instant `e` from which packets see it. Else what is classified in a
later Hall cycle sees a partition's or bank's value (R149, R654). -/
def State.writeSetting (s : State) (p id inst elem v e : Nat) (paired : Bool) : State :=
  match settingScope id with
  | none => s
  | some sc =>
    let k := scopedInst sc p inst
    let port := s.setting 0x4002 inst 0
    let former := s.setting id k elem
    let s := if id = 0x4006 ∨ id = 0x3004 then s.shapeFormer id k elem former
      else if paired then s.pushFormer e id k elem former
      else if sc = .partition ∨ sc = .bank then s.pushFormer (s.nt + 1) id k elem former
      else s
    let s := s.putSetting id k elem v
    match sc with
    | .partition =>
      if id = 0x1001 then s.setDeadline p v e paired
      else if id = 0x1009 ∨ id = 0x100A then s.placeSweep p
      else s
    | .lane => if id = 0x2001 ∧ v = 0 ∧ (s.lane inst).up then s.dropLane inst else s
    | .queue | .port => s.exportSetting id inst port
    | .device => if id = 0x0005 then s.placeSample else s
    | .reportQueue => s.notifyRq p inst
    | .bank | .time => s

end Sys2Proof.Machine
end

