-- ==== Sys2Proof/Machine/TileFeed.lean ====
section
/-!
DEFINITION. Machine/TileFeed.lean: FEED, DRAIN and PRELOAD words (Tables 08-7 and 08-8).
-/
namespace Sys2Proof.Machine

/-! ### FEED (R334, R338 to R341, R398, R423, R424) -/

/-- FEED of the words of a kind. -/
def TileOp.isFeed (targets : List Nat) : TileOp → Bool
  | .feed f => targets.contains f.target
  | _ => false

/-- R338: the half takes the bytes from its offset 0; what lies beyond them stays (log entry 34). -/
def Half.fill (h : Half) (bs : Bytes) (tag : Nat) : Half := { full := true, data := bs ++ h.data.drop bs.length, tag := tag }

/-- FEED into a feeder half: it waits while the half is FULL, and the array takes the steps that the data allow. -/
def feedData (i : Nat) (s : State) (q : Issued) (b : Batch) : WordOut :=
  match q.word.op with
  | .feed f =>
    let n := 64 * f.length
    let x := (s.tile i).arr f.array
    let h := if f.target = 0 then x.aHalf f.half else x.bHalf f.half
    s.guarded i b.partition [(q.ref f.src, n)] (
      if h.full then .wait
      else
        let h := h.fill (s.tileRead i (q.ref f.src) n) f.tag
        .done (s.setArr i f.array (if f.target = 0 then x.setA f.half h else x.setB f.half h).advance))
  | _ => .wait

/-- R338, R339: scale registers from 0 upward and the tag of the set. -/
def ScaleSet.load (y : ScaleSet) (bs : Bytes) (tag : Nat) : ScaleSet :=
  { regs := (List.range (bs.length / 8)).foldl (fun t j => mput t j (leAt bs (8 * j) 8)) y.regs, tag := tag }

/-- FEED with target SCALE: it waits while the set is in use (R424). -/
def feedScale (i : Nat) (s : State) (q : Issued) (b : Batch) : WordOut :=
  match q.word.op with
  | .feed f =>
    let n := 64 * f.length
    let x := (s.tile i).arr f.array
    let m := x.nextPass
    s.guarded i b.partition [(q.ref f.src, n)] (
      if x.setInUse m then .wait
      else .done (s.setArr i f.array (x.setSet m ((x.set m).load (s.tileRead i (q.ref f.src) n) f.tag))))
  | _ => .wait

/-- R341: a pass in flight uses a codebook slot. -/
def MatArray.usesCodebook (x : MatArray) (isA : Bool) (slot : Nat) : Bool :=
  x.live.any (fun p =>
    !p.completed && !(p.opcode == 0x12 && p.op.mode == 2) &&
      (if isA then (p.op.aFmt == 1 || p.op.aFmt == 2) && p.op.aCb == slot else p.opcode != 0x11 && p.op.bCb == slot))

/-- FEED into a codebook slot: it waits while the slot is in use (R341) and faults where the check of R398 fails. -/
def feedBook (i : Nat) (s : State) (q : Issued) (b : Batch) : WordOut :=
  match q.word.op with
  | .feed f =>
    let size := if f.cbSize = 0 then 16 else 256
    let x := (s.tile i).arr f.array
    let isA := f.target == 3
    s.guarded i b.partition [(q.ref f.src, 2 * size)] (
      if x.usesCodebook isA f.cbSlot then .wait
      else
        let es := (elements 16 (s.tileRead i (q.ref f.src) (2 * size))).map (fun c => BitVec.ofNat 16 c)
        let c : Codebook := { size := size, entries := es }
        if codebookOk isA es then
          .done (s.setArr i f.array (if isA then { x with cbA := mput x.cbA f.cbSlot c } else { x with cbB := mput x.cbB f.cbSlot c }))
        else .fault (s.countFault b q (Ctr.tileFaultCodebook i)) 4)
  | _ => .wait

/-- FEED (R338): operand data into a feeder half. -/
def execFeed (tile array : Nat) (ecc : Ecc) (s : State) : Host.Outcome State Fault Refusal :=
  .next (s.runWord tile (1 + array) (TileOp.isFeed [0, 1]) ecc (feedData tile))

/-- FEED_SCALE (R339). -/
def execFeedScale (tile array : Nat) (ecc : Ecc) (s : State) : Host.Outcome State Fault Refusal :=
  .next (s.runWord tile (1 + array) (TileOp.isFeed [2]) ecc (feedScale tile))

/-- FEED_CODEBOOK (R398). -/
def execFeedCodebook (tile array : Nat) (ecc : Ecc) (s : State) : Host.Outcome State Fault Refusal :=
  .next (s.runWord tile (1 + array) (TileOp.isFeed [3, 4]) ecc (feedBook tile))

/-! ### DRAIN and PRELOAD (R342, R343, R376 to R379) -/

/-- The DRAIN engine of an array. -/
def drainEngine (a : Nat) : Nat := 5 + a

/-- R379: the values of a started PRELOAD have filled the preload lane, and may have gone on from there. -/
def MatArray.filled (x : MatArray) (n : Nat) : Bool := decide (n < x.passes) || (mfind x.pre n).isSome

/-- R319, R379: the effect of the PRELOAD bound to pass `n` is complete: the bank of every column has its values. -/
def MatArray.preloadDone (x : MatArray) (n : Nat) : Bool := x.filled n && (decide (n < 2) || x.left (n - 2))

/-- R379: column 0's preload lane is empty for pass `n`: the former values have gone to their bank. -/
def MatArray.laneFree (x : MatArray) (n : Nat) : Bool := n == 0 || x.freed (n - 1) 0

/-- R319, R382: a word of a DRAIN engine has had its whole effect. -/
def Issued.drainDone (q : Issued) (x : MatArray) : Bool :=
  match q.word.op with
  | .drain d => if d.subOp = 1 then q.started && x.preloadDone q.bound else q.done
  | _ => false

/-- R317: words complete in queue order: each word at the head that has had its effect. -/
def completeDrains (i a : Nat) : Nat → State → State
  | 0, s => s
  | n + 1, s =>
    match (s.tile i).queue (drainEngine a) with
    | [] => s
    | q :: _ =>
      match s.batchOf q.batch with
      | none => s
      | some b =>
        if q.drainDone ((s.tile i).arr a) && s.tileRuns i then completeDrains i a n (s.finish i (drainEngine a) q b (.done s))
        else s

/-- R378: the results of a pass whose every column has swapped. -/
def Pass.result (p : Pass) : Result :=
  { n := p.n, rows := formRows p.op.form, cols := formCols p.op.form, vals := p.acc }

/-- R342, R378: a DRAIN word is under way. -/
def Issued.draining (q : Issued) : Bool :=
  match q.word.op with
  | .drain d => d.subOp == 0 && q.started && !q.done
  | _ => false

/-- R378: under a DRAIN word that has started, the drain lanes of its pass shift out each column that has swapped; behind the last
one the pass's results stand in the drain buffer. -/
def State.shiftOut (s : State) (i a : Nat) : State :=
  let t := s.tile i
  let x := t.arr a
  let e := drainEngine a
  match (t.queue e).findIdx? Issued.draining with
  | none => s
  | some n =>
    match (t.queue e)[n]? with
    | none => s
    | some q =>
      match x.pass q.bound with
      | none => s
      | some p =>
        if p.swapped < formCols p.op.form then s.setArr i a (x.setPass { p with shifted := p.swapped })
        else
          (s.setArr i a { x with
            live := x.live.filter (fun y => y.n != p.n), drainBuf := some p.result, bufRead := false }).setQueued i e n
              { q with done := true }

/-- R342, R376: a DRAIN word starts once the Post unit has read the buffer's previous contents and no DRAIN is under way; the n-th
one binds to pass n. -/
def State.startDrain (s : State) (i a : Nat) (ecc : Ecc) : State :=
  let t := s.tile i
  let x := t.arr a
  let e := drainEngine a
  match nextUnstarted 0 (t.queue e) with
  | none => s
  | some (n, q) =>
    match q.word.op with
    | .drain d =>
      if d.subOp ≠ 0 ∨ ¬ x.bufRead ∨ (t.queue e).any Issued.draining ∨ ¬ s.tokenReady i e q then s
      else
        let s := (s.startWord i q).countCorrected i ecc
        if ecc.bad then (s.tileUncorrectable i ecc).faultBatch q.batch 4 true
        else (s.setArr i a { x with drains := x.drains + 1 }).setQueued i e n { q with started := true, bound := x.drains }
    | _ => s

/-- DRAIN (R342, R378): it starts, moves the pass's results into the drain buffer as their columns swap, and completes. -/
def execDrain (tile array : Nat) (ecc : Ecc) (s : State) : Host.Outcome State Fault Refusal :=
  .next (
    if s.tileRuns tile then completeDrains tile array 8 ((s.startDrain tile array ecc).shiftOut tile array) else s)

/-! ### SWAP (R377) -/

/-- R377: the oldest pass whose column `j` swaps next. -/
def MatArray.swapping (x : MatArray) (j : Nat) : Option Pass :=
  x.live.find? (fun p => p.swapped == j && decide (j < formCols p.op.form))

/-- R377: every cell of the column has performed the pass's last step, and the column's drain lane is empty: the pass before has
shifted out of it. -/
def MatArray.swapReady (x : MatArray) (p : Pass) (j : Nat) : Bool :=
  decide (p.op.k ≤ p.k) && (decide (j + 1 < formCols p.op.form) || p.completed) && x.freed p.n j &&
    (p.n == 0 || (match x.pass (p.n - 1) with | some y => decide (j < y.shifted) | none => true))

/-- SWAP (R377): one column of a pass moves to its drain lane, and its bank is free for the pass after next. -/
def execSwap (tile array column : Nat) (s : State) : Host.Outcome State Fault Refusal :=
  .next (
    let x := (s.tile tile).arr array
    match x.swapping column with
    | some p =>
      if x.swapReady p column ∧ s.tileRuns tile then
        completeDrains tile array 8 ((s.setArr tile array (x.setPass { p with swapped := column + 1 })).shiftOut tile array)
      else s
    | none => s)

/-! ### PRELOAD (R343, R379) -/

/-- R343: the values of a PRELOAD in a form of `m` rows and `n` columns. -/
def preloadValues (d : DrainOp) (m n : Nat) (bs : Bytes) : List (BitVec 32) :=
  match d.source with
  | 1 => (List.replicate m (f32s n bs)).flatten
  | 2 => f32s (m * n) bs
  | _ => List.replicate (m * n) 0

/-- Bytes that a PRELOAD reads. -/
def preloadBytes (d : DrainOp) (m n : Nat) : Nat :=
  match d.source with
  | 1 => 4 * n
  | 2 => 4 * m * n
  | _ => 0

/-- The form that a PRELOAD for pass `n` serves: that of the pass where its word has been issued, else the array's own (log
entry 35). -/
def State.preloadForm (s : State) (i a n : Nat) : Nat :=
  let x := (s.tile i).arr a
  match ((s.tile i).queue (3 + a))[n - x.passes]? with
  | some q =>
    match q.word.op with
    | .mma p => p.form
    | .sel p => p.form
    | .dist p => p.form
    | _ => x.form
  | none => x.form

/-- R376, R379: a PRELOAD word starts, even behind DRAIN words that have started (R317); the n-th one binds to pass n. -/
def State.startPreload (s : State) (i a : Nat) : State :=
  let t := s.tile i
  let x := t.arr a
  let e := drainEngine a
  match nextUnstarted 0 (t.queue e) with
  | none => s
  | some (n, q) =>
    match q.word.op with
    | .drain d =>
      if d.subOp ≠ 1 ∨ ¬ s.tokenReady i e q then s
      else
        ((s.startWord i q).setArr i a { x with preloads := x.preloads + 1 }).setQueued i e n
          { q with started := true, bound := x.preloads }
    | _ => s

/-- A started PRELOAD whose values have not filled the preload lane. -/
def Issued.filling (q : Issued) (x : MatArray) : Bool :=
  match q.word.op with
  | .drain d => d.subOp == 1 && q.started && !x.filled q.bound
  | _ => false

/-- PRELOAD's values fill the lane, and the bank where it is free (R379). -/
def preloadWord (i a : Nat) (s : State) (q : Issued) (b : Batch) : WordOut :=
  match q.word.op with
  | .drain d =>
    let x := (s.tile i).arr a
    let f := s.preloadForm i a q.bound
    let m := formRows f
    let c := formCols f
    let len := preloadBytes d m c
    s.guarded i b.partition [(q.ref d.src, len)] (
      if f ≠ x.form ∨ ¬ x.laneFree q.bound then .wait
      else .done (s.setArr i a { x with pre := mput x.pre q.bound (preloadValues d m c (s.tileRead i (q.ref d.src) len)) }))
  | _ => .wait

/-- R343, R379: the oldest started PRELOAD reads its values once the lane is empty. -/
def State.fillPreload (s : State) (i a : Nat) (ecc : Ecc) : State :=
  match ((s.tile i).queue (drainEngine a)).find? (fun q => q.filling ((s.tile i).arr a)) with
  | none => s
  | some q =>
    match s.batchOf q.batch with
    | none => s
    | some b =>
      match preloadWord i a (s.countCorrected i ecc) q b with
      | .wait => s
      | .hold => s
      | .fault s cause => s.faultBatch q.batch cause false
      | .done t => if ecc.bad then ((s.countCorrected i ecc).tileUncorrectable i ecc).faultBatch q.batch 4 true else t

/-- PRELOAD (R343, R376, R379): it starts, fills the preload lane once that is empty, and completes when every bank that it serves
holds its values. -/
def execPreload (tile array : Nat) (ecc : Ecc) (s : State) : Host.Outcome State Fault Refusal :=
  .next (
    if s.tileRuns tile then completeDrains tile array 8 ((s.startPreload tile array).fillPreload tile array ecc) else s)

end Sys2Proof.Machine
end

