-- ==== Sys2Proof/Machine/Waits.lean ====
section
/-!
DEFINITION. Machine/Waits.lean: what an engine or a Stairwell entry waits on, as its state says it (R268, R351, R380, R385, R765,
R789, R790).
-/
namespace Sys2Proof.Machine

/-! ### Nodes (Tables 21-12, 21-13) -/

/-- Table 21-13. -/
def nodeId (kind inst sub : Nat) : Nat := kind + 16 * inst + 65536 * sub
def nodeKind (n : Nat) : Nat := n % 16
def nodeInst (n : Nat) : Nat := n / 16 % 4096
def nodeSub (n : Nat) : Nat := n / 65536

/-- Table 21-13: engines of tile `i`, of a Wing's Cellar and of the Hall, an entry of a Stairwell, a token, the partner. -/
def tileNode (i e : Nat) : Nat := nodeId 3 i e
def cellarNode (w e : Nat) : Nat := nodeId 2 w e
def hallNode (e : Nat) : Nat := nodeId 1 0 e
def stairNode (w n : Nat) : Nat := nodeId 4 w n
def tokenNode (i k : Nat) : Nat := nodeId 5 i k
def partnerNode : Nat := nodeId 8 0 0

/-- A waiting_on register with a reason of Table 21-2, the node waited on and the batch of the work. -/
def waitOn (reason target batch : Nat) : Option WaitingOn := some { reason := reason, target := target, batch := batch % 65536 }

/-! ### Tile engines (R316, R318, R323, R327, R334, R341, R342, R349, R351, R358, R365, R380, R385 to R387, R424, R448) -/

/-- What the word at the head of an engine's queue would do. -/
def Issued.body (q : Issued) (i : Nat) : State → Issued → Batch → WordOut :=
  match q.word.op with
  | .feed f => if f.target ≤ 1 then feedData i else if f.target = 2 then feedScale i else feedBook i
  | .post p =>
    match p.subOp with
    | 0 => pipeWord i
    | 1 => groupWord i
    | 2 => topkWord i
    | 3 => linkWord i
    | 4 => checkWord i
    | 5 => verdictWord i
    | _ => tableWord i
  | .tree _ => treeWord i
  | .load m => if m.kind = 2 then gatherWord i none else loadWord i none
  | .store m => if m.kind = 3 then pendingWord i else storeWord i
  | .state x => if x.subOp = 0 then stateInWord i else stateOutWord i
  | .reduce _ => reduceWord i
  | .sync _ => syncWord i
  | _ => fun _ _ _ => .wait

/-- The outcome is not complete. -/
def WordOut.waits : WordOut → Bool
  | .wait => true
  | .hold => true
  | _ => false

/-- R351: the tiles with no block write-locked. -/
def State.withoutLocks (s : State) : State := { s with tiles := s.tiles.map (fun (e : Nat × Tile) => (e.1, { e.2 with locks := [] })) }

/-- The engine that a waiting word of a tile waits for, where it waits for another engine's result. -/
def Issued.source (q : Issued) (i : Nat) : Nat :=
  match q.word.op with
  | .feed f => tileNode i (3 + f.array)
  | .post p => tileNode i (5 + p.srcKind)
  | _ => tileNode i 0

/-- R349, R351, R358, R424: why a word that has its token does not complete. -/
def State.bodyWait (s : State) (i : Nat) (q : Issued) (b : Batch) : Option WaitingOn :=
  if !(q.body i s q b).waits then none
  else if !(q.body i s.withoutLocks q b).waits then waitOn 0x26 (tileNode i q.word.op.engine) q.batch
  else
    match q.word.op with
    | .feed _ => waitOn 0x25 (q.source i) q.batch
    | .state x =>
      if x.subOp = 0 then
        let w := batchHome q.batch
        let late := (x.rows b).findSome? (fun r =>
          match s.rowState w q.batch b r with
          | .packet y => if y.input.isNone then some y.index else none
          | _ => none)
        waitOn 0x34 (stairNode w (late.getD 0)) q.batch
      else waitOn 0x3D (tileNode i 7) q.batch
    | .reduce r => waitOn 0x22 (tokenNode i r.arriveTok) q.batch
    | _ => waitOn 0x3D (q.source i) q.batch

/-- Why the word at the head of an engine's queue does not complete. -/
def State.headWait (s : State) (i e : Nat) : Option WaitingOn :=
  match (s.tile i).queue e with
  | [] => none
  | q :: _ =>
    match s.batchOf q.batch with
    | none => none
    | some b =>
      if !(q.started || s.tokenReady i e q) then waitOn 0x22 (tokenNode i q.word.waitTok) q.batch else s.bodyWait i q b

/-- R316, R323, R327: why the sequencer does not go on. -/
def State.seqWait (s : State) (i : Nat) : Option WaitingOn :=
  let t := s.tile i
  match t.seqWord with
  | some q =>
    match q.word.op with
    | .wait tok _ => if !(q.started || s.tokenReady i 0 q) then waitOn 0x22 (tokenNode i q.word.waitTok) q.batch
      else waitOn 0x22 (tokenNode i tok) q.batch
    | _ => if !s.tokenReady i 0 q then waitOn 0x22 (tokenNode i q.word.waitTok) q.batch else none
  | none =>
    match t.cur with
    | none => none
    | some id =>
      if t.checkWait then waitOn 0x23 (tileNode i 7) id
      else if endPc ≤ t.pc then none
      else
        match readWord (leNat (memRead t.mem (16 * t.pc) 16)) with
        | none => none
        | some x => if 8 ≤ (t.queue x.op.engine).length then waitOn 0x21 (tileNode i x.op.engine) id else none

/-- R337, R385, R448: why a pass does not take its next step. -/
def MatArray.stepWait (x : MatArray) (i a : Nat) (p : Pass) : Option WaitingOn :=
  if p.held then waitOn 0x03 (tileNode i (1 + a)) p.issued.batch
  else if !streamReady 16384 (x.aHalf p.aHalf) (x.aHalf (1 - p.aHalf)) p.aPos p.op.aStep then
    waitOn 0x01 (tileNode i (1 + a)) p.issued.batch
  else if !streamReady 32768 (x.bHalf p.bHalf) (x.bHalf (1 - p.bHalf)) p.bPos p.op.bStep then
    waitOn 0x02 (tileNode i (1 + a)) p.issued.batch
  else none

/-- R318, R365, R380, R386, R390: why the pass at the head of the queue does not start. In column 0 its bank still holds the value of the
pass before last, or is unloaded. -/
def State.startWait (s : State) (i a : Nat) : Option WaitingOn :=
  let x := (s.tile i).arr a
  match s.headPass i a with
  | none => none
  | some (q, p) =>
    if !s.tokenReady i (3 + a) q then waitOn 0x22 (tokenNode i q.word.waitTok) q.batch
    else if x.form ≠ p.form then waitOn 0x11 (tileNode i (3 + a)) q.batch
    else if x.parked then waitOn 0x12 (tileNode i (3 + a)) q.batch
    else if !x.freed x.passes 0 then waitOn 0x04 (tileNode i (5 + a)) q.batch
    else if (x.preloaded x.passes).isNone then waitOn 0x05 (tileNode i (5 + a)) q.batch
    else x.stepWait i a (x.newPass q p [])

/-- An ARRAY engine: the newest pass while its steps are being read, then the one that is to start. -/
def State.arrayWait (s : State) (i a : Nat) : Option WaitingOn :=
  let x := (s.tile i).arr a
  match x.live.find? (fun p => decide (p.k < p.op.k)) with
  | some p => x.stepWait i a p
  | none => s.startWait i a

/-- R342, R378: a DRAIN engine. -/
def State.drainWait (s : State) (i a : Nat) : Option WaitingOn :=
  let x := (s.tile i).arr a
  match (s.tile i).queue (drainEngine a) with
  | [] => none
  | q :: _ =>
    if q.started then (if q.drainDone x then none else waitOn 0x3D (tileNode i (3 + a)) q.batch)
    else if !s.tokenReady i (drainEngine a) q then waitOn 0x22 (tokenNode i q.word.waitTok) q.batch
    else
      match q.word.op with
      | .drain d => if d.subOp = 0 ∧ ¬ x.bufRead then waitOn 0x28 (tileNode i 7) q.batch else none
      | _ => none

/-- R789: what tile engine `e` (Table 08-3) waits on, as far as the tile's state says it. -/
def State.tileWait (s : State) (i e : Nat) : Option WaitingOn :=
  if !s.tileRuns i then none
  else if e = 0 then s.seqWait i
  else if e = 3 ∨ e = 4 then s.arrayWait i (e - 3)
  else if e = 5 ∨ e = 6 then s.drainWait i (e - 5)
  else s.headWait i e

/-! ### Stairwell, dispatcher, learning (R41, R64, R230, R268, R270, R434, R511, R742, R744, R753, R790) -/

/-- The tile engine that holds work of a batch on its first tile that has not ended it. -/
def State.batchNode (s : State) (id : Nat) (b : Batch) : Nat :=
  let i := ((b.place.tiles.find? (fun k => !b.ended.contains k)).orElse (fun _ => b.place.tiles.head?)).getD 0
  let t := s.tile i
  let e := ((List.range 10).map (· + 1)).find? (fun e => (t.queue e).any (fun q => q.batch == id))
  tileNode i (e.getD 0)

/-- R268, R790: what a Stairwell entry waits on. -/
def State.stairWait (s : State) (w : Nat) (y : Stair) : Option WaitingOn :=
  let p := y.pkt.partition
  match y.batch.bind (fun id => (s.batchOf id).map (fun b => (id, b))) with
  | some (id, b) => waitOn 0x3D (s.batchNode id b) id
  | none =>
    match y.state with
    | .admitted =>
      if s.uncovered y.pkt.slot.at_ || (s.missingFor w p ((s.partOf p).bucketOf w y.pkt.hash) y.pkt.slot.at_).isSome then
        waitOn 0x38 partnerNode 0
      else none
    | .waitState =>
      if s.unitMissing p w y.pkt.slot.at_ (larderUnit y.handle) then waitOn 0x38 partnerNode 0
      else
        match y.choice with
        | some (.forwarded id) => waitOn 0x34 (((s.wing w).stairOf id).elim (cellarNode w 0x21) (fun z => stairNode w z.index)) 0
        | some _ => waitOn 0x34 (cellarNode w 0x21) 0
        | none =>
          match (s.wing w).producer y.handle y.gen (s.wing w).stairs.length y.pred with
          | .wait z | .from_ z => waitOn 0x34 (stairNode w z.index) 0
          | .none_ => waitOn 0x34 (cellarNode w 0x21) 0
    | .ready =>
      match y.pred.bind (fun id => (s.wing w).stairOf id) with
      | some z => waitOn 0x3A (stairNode w z.index) 0
      | none => none
    | _ => none

/-- R64, R434, R511: what the dispatcher waits on, of the partition's work on a Wing. -/
def State.dispatchWait (s : State) (w p : Nat) : Option WaitingOn :=
  let x := s.wing w
  match (x.queue p).head? with
  | some k =>
    if (s.partOf p).awaitsFill k.epoch then waitOn 0x3C (cellarNode w 0x29) 0
    else if !s.canAdmit w k then waitOn 0x36 (cellarNode w 0x22) 0
    else none
  | none =>
    match x.batches.find? (fun e => e.2.partition == p && !e.2.sent && !e.2.aborted &&
        (match s.batchCfg e.2 with | some (_, c) => !s.settled e.2 c | none => false)) with
    | some e => waitOn 0x37 (cellarNode w 0x22) e.1
    | none => none

/-- R230, R744: what a Wing's insertion engine waits on. -/
def State.learnWait (s : State) (w : Nat) : Option WaitingOn :=
  match (s.wing w).coalescer with
  | [] => none
  | k :: _ =>
    let b := (s.partOf k.partition).bucketOf w k.hash
    if (mfind (s.wing w).locks b).isSome then waitOn 0x35 (nodeId 6 0 0) 0
    else if s.changePending w (PairUnit.isBucket b) || s.isStandby then waitOn 0x38 partnerNode 0
    else none

/-- R789, R790: the waiting_on registers that the state determines. -/
def State.ownWaits (s : State) : List Wait :=
  let of := fun (n : Nat) (w : Option WaitingOn) => w.toList.map (fun x => ({ node := n, on := x } : Wait))
  let tiles := s.tiles.flatMap (fun e => (List.range 11).flatMap (fun k => of (tileNode e.1 k) (s.tileWait e.1 k)))
  let wings := (List.range s.wings).flatMap (fun w =>
    (s.wing w).stairs.flatMap (fun y => of (stairNode w y.index) (s.stairWait w y)) ++ of (cellarNode w 0x23) (s.learnWait w))
  let pairs := (List.range s.wings).flatMap (fun w => (List.range s.partsN).map (fun p => (w, p)))
  tiles ++ wings ++ of (hallNode 0x43) (pairs.findSome? (fun e => s.dispatchWait e.1 e.2))

/-- What a node waits on, as it was last sampled (log entry 31). -/
def State.waitOf (s : State) (n : Nat) : WaitingOn := mget { reason := 0, target := 0, batch := 0 } s.obs.waiting n

/-- R789: the waiting_on registers are sampled: what the state determines, and for the other nodes what `ws` gives. -/
def State.sampleWaits (s : State) (ws : List Wait) : State :=
  { s with obs := { s.obs with
    waiting := ((ws.filter (fun x => x.on.reason != 0)) ++ s.ownWaits).foldl (fun (t : Tab WaitingOn) x => mput t x.node x.on) [] } }

/-- STALL_RECORD: an engine's stall on one reason reaches stall_threshold cycles (Table 21-9). The reason of a tile engine whose state
gives it is that one. -/
def execStallRecord (buffer engine reason context layer op batch : Nat) (s : State) : Host.Outcome State Fault Refusal :=
  .next (s.whenFree (
    let th := (s.buf buffer).stallThreshold
    let own := if 16 ≤ buffer ∧ engine ≤ 10 then s.tileWait (buffer - 16) engine else none
    if th = 0 then s
    else s.trace buffer { kind := 3, engine := engine, context := context, reason := (own.map (·.reason)).getD reason, layer := layer
                          op := op, nt := s.nt, arg0 := th, arg1 := (own.map (·.batch)).getD batch }))

end Sys2Proof.Machine
end

