-- ==== Sys2Proof/Machine/Dumps.lean ====
section
/-!
DEFINITION. Machine/Dumps.lean: hangs, the wait-for graph and dumps (R789 to R799), and what follows a hang (R814).
-/
namespace Sys2Proof.Machine

/-! ### Registers (Table 21-12) -/

/-- Table 21-12: a waiting_on register. -/
def WaitingOn.word (x : WaitingOn) : Bytes := leBytes 8 (x.reason + 256 * x.target + 1099511627776 * x.batch)

/-! ### Records of a dump (R797, Tables 21-16 to 21-18) -/

/-- The engines of a scope: Hall engines and control cores, Cellar engines, tile engines. -/
def hallNodes : List Nat := ((List.range 11).map (0x40 + ·) ++ (List.range 16).map (0x50 + ·)).map (nodeId 1 0)
def cellarNodes (w : Nat) : List Nat := (List.range 12).map (fun k => nodeId 2 w (0x20 + k))

/-- Tile instances of a Wing (Table 21-3). -/
def State.wingTiles (s : State) (w : Nat) : List Nat :=
  ((List.range 512).map (fun i => 512 * w + i)).filter s.tileExists

/-- Words that a tile engine holds, oldest first: passes that have started, then its queue. -/
def Tile.engineWords (t : Tile) (e : Nat) : List Issued :=
  if e = 0 then t.seqWord.toList
  else
    let live := ((if e = 3 then t.arr0.live else if e = 4 then t.arr1.live else []).filter (fun p => !p.completed)).map (·.issued)
    live ++ t.queue e

/-- Table 21-17 for a tile engine; the NT of its last completion is a free value. -/
def State.tileEngineRec (s : State) (i e : Nat) : Bytes :=
  let t := s.tile i
  let n := nodeId 3 i e
  let ws := t.engineWords e
  let head := ws.head?
  leBytes 4 n ++ leBytes 1 (min 255 ws.length) ++ leBytes 1 ((head.map (·.word.op.opcode)).getD 0) ++ zeroBytes 2 ++
    (s.waitOf n).word ++
    leBytes 3 ((head.map (fun q => q.word.layer + 4096 * q.word.opId)).getD 0) ++ zeroBytes 1 ++
    leBytes 2 (((head.map (·.batch)).orElse (fun _ => t.cur)).getD 0) ++ zeroBytes 2 ++
    leBytes 8 (Config.engineFact s.free n)

/-- Table 21-17 for an engine outside the tiles; what it holds and its last completion are free values. -/
def State.engineRec (s : State) (n : Nat) : Bytes :=
  leBytes 4 n ++ leBytes 1 (Config.engineFact (s.free + 1) n) ++ zeroBytes 3 ++ (s.waitOf n).word ++ zeroBytes 8 ++
    leBytes 8 (Config.engineFact s.free n)

/-- Table 07-1. -/
def StairState.code : StairState → Nat
  | .free => 0 | .admitted => 1 | .noFlow => 2 | .waitState => 3 | .step => 4 | .ready => 5 | .squashed => 6

/-- Table 21-18. -/
def State.stairRec (s : State) (w : Nat) (y : Stair) : Bytes :=
  let pred := (y.pred.bind (fun id => (s.wing w).stairOf id)).map (·.index)
  leBytes 2 (y.index + (if pred.isSome then 32768 else 0)) ++ leBytes 2 (pred.getD 0) ++
    leBytes 1 (y.state.code + 16 * (y.pkt.partition % 16)) ++ leBytes 1 y.lookup ++ leBytes 2 y.pkt.epoch ++
    leBytes 4 y.handle ++ leBytes 1 y.gen ++ leBytes 1 (min 255 y.squashes) ++ zeroBytes 2 ++ leBytes 8 y.pkt.slot.at_ ++
    (s.waitOf (nodeId 4 w y.index)).word

/-- Half states of an array's feeders, from bit 0. -/
def MatArray.halfBits (a : MatArray) : Nat := b2n a.a0.full + 2 * b2n a.a1.full + 4 * b2n a.b0.full + 8 * b2n a.b1.full

/-- Table 21-16: TILE. -/
def State.tileRec (s : State) (i : Nat) : Bytes :=
  let t := s.tile i
  (List.range 16).flatMap (fun k => leBytes 1 (t.token k)) ++ leBytes 1 (t.arr0.halfBits + 16 * t.arr1.halfBits) ++
    leBytes 1 (t.arr0.form + 8 * t.arr1.form) ++ zeroBytes 2 ++ leBytes 4 t.arr0.passes ++ leBytes 4 t.arr1.passes ++
    leBytes 2 (t.cur.getD 0) ++ zeroBytes 2 ++ leBytes 3 (t.pc % 1048576) ++ zeroBytes 29

/-- The node of a block that runs scheduled events. -/
def blockNode (b : Nat) : Nat :=
  match blkWing b with
  | some w => nodeId 2 w (if b = blkStairwell w then 0x22 else Config.blockCode b % 65536)
  | none => nodeId 1 0 (if b = blkExport then 0x46 else if b = blkFeature then 0x42 else Config.blockCode b % 65536)

/-- Table 21-16: EVENTS. -/
def Occ.dumpRec (o : Occ) (b : Nat) : Bytes :=
  leBytes 8 o.instant ++ leBytes 1 o.kind ++ zeroBytes 3 ++ leBytes 4 (blockNode b)

/-- Identifiers of Table 17-6. -/
def settingIds : List Nat :=
  let run := fun (a n : Nat) => (List.range n).map (a + ·)
  run 0x0001 9 ++ run 0x1001 18 ++ run 0x2001 7 ++ run 0x3001 6 ++ run 0x4001 12 ++ run 0x5001 8 ++ run 0x6001 3 ++ run 0x7001 8

/-- The value of a setting instance in a dump, and the instances of an identifier. -/
def State.settingRecs (s : State) (id : Nat) : List Bytes :=
  match settingScope id with
  | none => []
  | some .time => [Config.settingRef id 0 0 ++ leBytes 16 ((s.time.settingValue id % (2 ^ 128 : Int)).toNat)]
  | some sc =>
    let owners := if sc = .partition ∨ sc = .reportQueue then s.partsN else 1
    (List.range owners).flatMap (fun p => (List.range (s.instances sc)).flatMap (fun n =>
      (List.range (settingElements id)).map (fun e =>
        let inst := scopedInst sc p n
        Config.settingRef id inst e ++ leBytes 16 (s.setting id inst e))))

/-- R795, Table 21-16: the sections of a scope: 1 DEVICE, 2 HALL, 3 WING0, 4 WING1. -/
def State.dumpSections (s : State) (scope : Nat) : List DumpSection :=
  let hall := decide (scope ≤ 2)
  let wings := if scope = 1 then List.range s.wings else if scope = 2 then [] else [scope - 3]
  let engines := (if hall then hallNodes.map s.engineRec else []) ++
    wings.flatMap (fun w => (cellarNodes w).map s.engineRec ++
      (s.wingTiles w).flatMap (fun i => (List.range 11).map (s.tileEngineRec i)))
  let stairs := wings.flatMap (fun w => (s.wing w).stairs.map (s.stairRec w))
  let tiles := wings.flatMap (fun w => (s.wingTiles w).map s.tileRec)
  let blocks := s.blocks.filter (fun b => match blkWing b with | some w => wings.contains w | none => hall)
  let events := blocks.flatMap (fun b => (s.queueOf b).map (fun o => o.dumpRec b))
  [{ kind := 1, recordBytes := 32, records := engines }] ++
    (if wings.isEmpty then [] else
      [{ kind := 2, recordBytes := 32, records := stairs }, { kind := 3, recordBytes := 64, records := tiles }]) ++
    [{ kind := 4, recordBytes := 16, records := events }] ++
    (if hall then
      [{ kind := 5, recordBytes := 32, records := [s.stickyBytes] },
       { kind := 6, recordBytes := 20, records := settingIds.flatMap s.settingRecs }] else [])

/-- R795: a dump taken now. -/
def State.takeDump (s : State) (scope : Nat) (automatic : Bool) : Dump :=
  { scope := scope, automatic := automatic, late := false, nt := s.nt, sections := s.dumpSections scope }

/-- Bytes of the records of sections. -/
def sectionsLength (l : List DumpSection) : Nat := (l.map (fun x => x.recordBytes * x.records.length)).foldl (· + ·) 0

/-- R797: directory entries; the records of the first section stand at `off`. -/
def dumpDirectory : Nat → List DumpSection → Bytes
  | _, [] => []
  | off, x :: rest =>
    leBytes 1 x.kind ++ zeroBytes 1 ++ leBytes 2 x.recordBytes ++ leBytes 4 x.records.length ++ leBytes 8 off ++
      dumpDirectory (off + x.recordBytes * x.records.length) rest

/-- Bytes of a dump. -/
def Dump.length (d : Dump) : Nat := 32 + 16 * d.sections.length + sectionsLength d.sections

/-- R797, Table 21-15. -/
def Dump.bytes (d : Dump) : Bytes :=
  leBytes 4 0x504D5544 ++ leBytes 2 1 ++ leBytes 1 d.scope ++ leBytes 1 (b2n d.automatic + 2 * b2n d.late) ++
    leBytes 4 d.sections.length ++ zeroBytes 4 ++ leBytes 8 d.nt ++ leBytes 8 d.length ++
    dumpDirectory (32 + 16 * d.sections.length) d.sections ++ d.sections.flatMap (fun x => x.records.flatten)

/-- DUMP_TAKE (R795, R796, R799): scope LAST copies the stored dump; the others take a fresh one, for which `waits` holds the
waiting_on registers. -/
def execDumpTake (c : CmdIn) (scope hostAddr length : Nat) (waits : List Wait) (s : State) :
    Host.Outcome State Fault Refusal :=
  .next (
    runNow 0x0F01 (.dumpTake c scope hostAddr length waits) c [(decide (2 + s.wings < scope), 0)] s (fun cmd s =>
      let fn := if cmd.fn < 9 then cmd.fn else 0
      let give := fun (d : Dump) (t : State) =>
        if length < d.length then ({ status := stBadParam, detail := d.length }, s)
        else (okStatus, t.hostOut fn (s.localOf c.ring) hostAddr d.bytes)
      if scope = 0 then
        match s.obs.dump with
        | none => (fail stNotFound, s)
        | some d => give d { s with obs := { s.obs with dumpCopied := true } }
      else
        let t := s.sampleWaits waits
        give (t.takeDump scope false) (t.nextFree.nextFree.bump Ctr.hallDumps)))

/-- DUMP_STATUS (R798). -/
def execDumpStatus (c : CmdIn) (s : State) : Host.Outcome State Fault Refusal :=
  .next (runRead 0x0F02 (.dumpStatus c) c [] s (fun _ s =>
    okReply (leBytes 4 (b2n s.obs.dump.isSome + 2 * b2n (s.obs.dump.isSome && s.obs.dumpCopied)) ++
      leBytes 4 (s.ctr Ctr.hallDumpsLost) ++ leBytes 8 ((s.obs.dump.map (·.nt)).getD 0))))

/-! ### The wait-for graph (R793, R794) -/

/-- A word of the batch program from the sequencer's word on meets a test. -/
def scanProgram (f : TileWord → Bool) : Nat → Tile → Bool
  | 0, _ => false
  | n + 1, t =>
    if endPc ≤ t.pc then false
    else
      match readWord (leNat (memRead t.mem (16 * t.pc) 16)) with
      | none => false
      | some x => f x || scanProgram f n (t.advance x)

/-- The tile behind the word at its sequencer's position. -/
def Tile.afterSeq (t : Tile) : Tile :=
  if t.seqWord.isSome then t
  else
    match readWord (leNat (memRead t.mem (16 * t.pc) 16)) with
    | none => { t with pc := endPc }
    | some x => t.advance x

/-- R793: the batch program of tile `j` holds, after its sequencer's word, a SYNC that reaches token `k` of tile `i`. -/
def State.syncLater (s : State) (j i k : Nat) : Bool :=
  let t := s.tile j
  match t.cur.bind (fun id => s.batchOf id) with
  | none => false
  | some b =>
    scanProgram (fun x =>
      match x.op with
      | .sync y => y.tok == k && (s.syncTargets j b y).contains i
      | _ => false) 393216 t.afterSeq

/-- R793: where a node's edges lead. -/
def State.edgesOf (s : State) (n : Nat) : List Nat :=
  let w := s.waitOf n
  let up := if w.reason = 0 then [] else [w.target]
  if nodeKind n ≠ 5 then up
  else
    let i := nodeInst n
    let k := nodeSub n
    let signals := fun (q : Issued) => q.word.sigEn == 1 && q.word.sigTok == k
    let own := ((List.range 11).filter (fun e => ((s.tile i).engineWords e).any signals)).map (nodeId 3 i)
    let seqs := ((s.tiles.map (·.1)).filter (fun j => s.syncLater j i k)).map (fun j => nodeId 3 j 0)
    up ++ own ++ seqs.filter (fun m => !own.contains m)

/-- A number joins a rising list. -/
def insertRising (n : Nat) : List Nat → List Nat
  | [] => [n]
  | m :: l => if n < m then n :: m :: l else if n = m then m :: l else m :: insertRising n l

/-- R793: every waiting node, every node that one names, and every node that an edge of these names, ascending. -/
def State.graphNodes (s : State) : List Nat :=
  let first := s.obs.waiting.flatMap (fun e => [e.1, e.2.target])
  ((first ++ first.flatMap s.edgesOf).foldl (fun (l : List Nat) n => insertRising n l) []).take 131072

/-- The place of a node among the nodes. -/
def placeOf (n : Nat) (l : List Nat) : Option Nat := l.findIdx? (· == n)

/-- R793: the elementary cycles that start at `start` and hold no lower node; `path` is newest first. -/
def cyclesFrom (edges : List (Nat × Nat)) (start : Nat) : Nat → List Nat → Nat → List (List Nat)
  | 0, _, _ => []
  | n + 1, path, at_ =>
    ((edges.filter (fun e => e.1 == at_)).map (·.2)).flatMap (fun j =>
      if j = start then [path.reverse]
      else if j < start || path.contains j then []
      else cyclesFrom edges start n (j :: path) j)

/-- R793: the graph. -/
def State.buildGraph (s : State) : WaitGraph :=
  let ns := s.graphNodes
  let edges := ns.zipIdx.flatMap (fun e => (s.edgesOf e.1).filterMap (fun m => (placeOf m ns).map (fun j => (e.2, j))))
  let cycles := (List.range ns.length).flatMap (fun i => cyclesFrom edges i (ns.length + 1) [i] i)
  { nt := s.nt, nodes := ns.map (fun n => (n, s.waitOf n)), edges := edges, cycles := cycles.take 4096 }

/-- R794, Table 21-14. -/
def WaitGraph.bytes (g : WaitGraph) : Bytes :=
  leBytes 4 g.nodes.length ++ leBytes 4 g.edges.length ++ leBytes 4 g.cycles.length ++ zeroBytes 4 ++ leBytes 8 g.nt ++
    g.nodes.flatMap (fun e => leBytes 4 e.1 ++ zeroBytes 4 ++ e.2.word) ++
    g.edges.flatMap (fun e => leBytes 4 e.1 ++ leBytes 4 e.2) ++
    g.cycles.flatMap (fun c => leBytes 4 c.length ++ c.flatMap (leBytes 4))

/-- WAITFOR_READ (R794). -/
def execWaitforRead (c : CmdIn) (s : State) : Host.Outcome State Fault Refusal :=
  .next (runRead 0x0F03 (.waitforRead c) c [] s (fun _ s =>
    match s.obs.graph with
    | none => fail stNotFound
    | some g => okReply g.bytes))

/-! ### Hangs (R791, R792, R814) -/

/-- R791: the wait is not for the host or for an instant. -/
def State.hangs (s : State) (n : Nat) : Bool := (s.waitOf n).reason != 0x39 && (s.waitOf n).reason != 0x3B

/-- R796: an automatic dump is stored, unless one is stored that has not been copied. -/
def State.autoDump (s : State) : State :=
  if s.obs.dump.isSome ∧ ¬ s.obs.dumpCopied then s.bump Ctr.hallDumpsLost
  else
    let d := s.takeDump 1 true
    ({ s with obs := { s.obs with dump := some d, dumpCopied := false } }).nextFree.nextFree.bump Ctr.hallDumps

/-- R792: the first hang of an interval. -/
def State.firstHang (s : State) : State :=
  let within := match s.obs.lastHangNt with | some t => decide (s.nt < t + 16000000) | none => false
  if within then s
  else
    let s := (s.setSticky 192).fire 5 s.allBufs
    let g := s.buildGraph
    let s := { s with obs := { s.obs with lastHangNt := some s.nt, graph := some g } }
    s.autoDump

/-- Batches that a hung tile engine holds. -/
def State.heldBatches (s : State) (i e : Nat) : List Nat :=
  let t := s.tile i
  ((t.engineWords e).map (·.batch) ++ (if e = 0 then t.cur.toList else [])).foldl
    (fun (l : List Nat) b => if l.contains b then l else l ++ [b]) []

/-- R814: what the device does about a hung engine or entry. A hung Hall engine runs its work again from its input. -/
def State.unhang (s : State) (n : Nat) : State :=
  let i := nodeInst n
  match nodeKind n with
  | 2 => if i < s.wings then s.startRecovery i else s
  | 3 => (s.heldBatches i (nodeSub n)).foldl (fun (s : State) b => s.faultBatch b 4 false) s
  | 4 =>
    match ((s.wing i).stair (nodeSub n)).bind (·.batch) with
    | some b => s.faultBatch b 4 false
    | none => s
  | _ => s

/-- HANG (R791, R792, R814): the engines and entries of `hung` have held work and completed none of it for 1 ms; `waits` holds
the waiting_on registers. -/
def execHang (hung : List Nat) (waits : List Wait) (s : State) : Host.Outcome State Fault Refusal :=
  .next (s.whenFree (
    let t := s.sampleWaits waits
    let hs := hung.filter t.hangs
    if hs.isEmpty then s
    else hs.foldl (fun (s : State) n => s.unhang n) (t.firstHang.bumpN Ctr.hallHangs hs.length)))

end Sys2Proof.Machine
end

