-- ==== Sys2Proof/Machine/ImageBytes.lean ====
section
/-!
DEFINITION. Machine/ImageBytes.lean: an image as bytes: header and section table (Tables 13-3 and 13-4), the pages of sealed sections
(R712, R713), and the sections whose layout the manual gives (TILE_MEM, DRAM and VERDICT; log entry 82).
-/
namespace Sys2Proof.Machine

/-! ### Header and section table (R12, R488) -/

/-- Table 13-3: section_count. -/
def sectCount (bs : Bytes) : Nat := leAt bs 0x0A 2

/-- R488: the bytes of a section table entry. -/
def sectBytes (bs : Bytes) (k : Nat) : Bytes := slice bs (0x80 + 32 * k) 32

/-- Table 13-4: a section table entry. -/
def readSect (e : Bytes) : SectEntry :=
  { type := leAt e 0 1, wing := leAt e 1 1 % 2, ctile := leAt e 2 2 % 512, slot := leAt e 4 1, keyGen := leAt e 5 1
    offset := leAt e 8 8, length := leAt e 0x10 8, dest := leAt e 0x18 8 }

/-- The section table of an image. -/
def readSects (bs : Bytes) : List SectEntry := (List.range (sectCount bs)).map (fun k => readSect (sectBytes bs k))

/-- Table 13-3: bits of the byte at offset 6. -/
def headBit (bs : Bytes) (n : Nat) : Bool := bitOf (leAt bs 6 1) n

/-- R488: an image with the fields of its header and section table as its bytes give them. -/
def Image.withHeader (img : Image) (bs : Bytes) : Image :=
  { img with
    target := leAt bs 6 1 % 16, stateReset := headBit bs 4, halfFit := headBit bs 5, sealed_ := headBit bs 6
    slotMask := leAt bs 7 1 % 16, quarters := leAt bs 8 1, blockUnits := leAt bs 9 1 % 32, topologyId := leAt bs 0x10 8
    stateLayoutId := leAt bs 0x18 8, imageBytes := leAt bs 0x20 8, measurement := leAt bs 0x40 48, sections := readSects bs }

/-- The first number below `n` that fails a test. -/
def firstBad (n : Nat) (ok : Nat → Bool) : Option Nat := (List.range n).find? (fun k => !ok k)

/-- R488, R712: a section of type `type` of the image is encrypted. -/
def sectSealed (bs : Bytes) (type : Nat) : Bool := headBit bs 6 && type != 0x0C

/-- R712: the plaintext bytes of a section: a page of 65,584 bytes holds 65,536. -/
def SectEntry.plainLength (e : SectEntry) (sealed_ : Bool) : Nat := if sealed_ then e.length - 48 * ((e.length + 65583) / 65584) else e.length

/-- R495: a section lies within the image, and what it writes within a tile's area or the windows area (log entry 196). -/
def sectInBounds (x : Partition) (bs : Bytes) (k : Nat) : Bool :=
  let e := readSect (sectBytes bs k)
  let n := e.plainLength (sectSealed bs e.type)
  let fits := match e.type with
    | 0x01 => decide (e.dest + n ≤ if headBit bs 5 then areaBytes else 2 * areaBytes)
    | 0x03 => decide (e.dest + n ≤ 4096 * x.windowsUnits)
    | _ => true
  decide (e.offset + e.length ≤ bs.length) && decide (0x80 + 32 * sectCount bs ≤ e.offset) && fits

/-- R12, Tables 13-4 and 13-5: the entry's type and numbers are listed ones and its reserved fields are 0. -/
def sectListed (bs : Bytes) (k : Nat) : Bool :=
  let e := sectBytes bs k
  let m := leAt e 4 1
  inR (leAt e 0 1) 1 0x0C && decide (leAt e 1 1 < 2) && decide (leAt e 2 2 < 288) && (decide (m < 4) || m == 0xFF) && leAt e 6 2 == 0

/-- R12, Table 13-3: the header's reserved fields are 0. Its target, quarters and block_units have checks of their own (Table 13-7). -/
def headListed (bs : Bytes) : Bool :=
  !headBit bs 7 && decide (leAt bs 7 1 < 16) && decide (leAt bs 9 1 < 32) && leAt bs 0x0C 4 == 0 && leAt bs 0x28 24 == 0 &&
    leAt bs 0x70 16 == 0

/-- Table 13-7, first row, for an IMAGE_LOAD of `n` bytes: magic, format_version, section bounds, image_bytes, and then R12. The
detail is that of R496. -/
def formatFault (x : Partition) (bs : Bytes) (n : Nat) : Option Nat :=
  let whole := 4294967295
  if leAt bs 0 4 ≠ 0x594C4553 ∨ leAt bs 4 2 ≠ 1 ∨ sectCount bs = 0 ∨ bs.length < 0x80 + 32 * sectCount bs then some whole
  else
    match firstBad (sectCount bs) (sectInBounds x bs) with
    | some k => some k
    | none =>
      if leAt bs 0x20 8 ≠ n ∨ leAt bs 0x20 8 ≠ bs.length ∨ ¬ headListed bs then some whole
      else firstBad (sectCount bs) (sectListed bs)

/-- Table 13-3: what the measurement covers: bytes 0x00 to 0x3F, the section table and every section in table order. -/
def measured (bs : Bytes) : Bytes :=
  bs.take 64 ++ slice bs 0x80 (32 * sectCount bs) ++
    (readSects bs).flatMap (fun e => slice bs e.offset e.length)

/-- Table 13-7: SHA-384 over the bytes as received equals the header's measurement. -/
def measureOk (bs : Bytes) : Bool := sha384 (measured bs) == slice bs 0x40 48

/-! ### Sealed sections (R712, R713) -/

/-- The current and the previous key slot. -/
abbrev KeyPair := Option KeySlot × Option KeySlot

/-- R712, R713: the model key of a key generation. -/
def modelKey (ks : KeyPair) (g : Nat) : Option Bytes :=
  ([ks.1, ks.2].filterMap id).findSome? (fun k => if k.gen = g then some k.key else none)

/-- R713: the key slots in force when the byte at `off` of a load arrived: those up to the first change by which it had arrived, else
those of now; a load reads at most 3 bytes in an NT unit (R498). -/
def keysFrom (start off : Nat) (now : KeyPair) : List KeyChange → List Nat → KeyPair
  | [], _ => now
  | k :: ks, arrived => if off ≤ min (arrived.headD 0) (3 * (k.nt - start)) then (k.cur, k.prev) else keysFrom start off now ks arrived.tail

/-- R713: the key slots in force when the byte at `off` of a load arrived: an image's bytes arrive in their order. -/
def Partition.keysAt (x : Partition) (y : ImageSlot) (arrived : List Nat) (off : Nat) : KeyPair :=
  keysFrom y.loadStart off (x.keyCur, x.keyPrev) y.keyLog arrived

/-- R712, Table 19-8: the page at the start of the bytes keeps to the layout: it belongs to the section's generation and stands at
its index, and every page but the last holds 65,536 bytes. -/
def pageOk (gen index : Nat) (bs : Bytes) : Bool :=
  let n := leAt bs 8 4
  leAt bs 0 1 == gen && leAt bs 1 3 == 0 && leAt bs 4 4 == index && inR n 1 65536 && leAt bs 0x0C 4 == 0 && leAt bs 0x1C 4 == 0 &&
    (bs.length == n + 48 || (n == 65536 && decide (n + 48 < bs.length)))

/-- R712: the plaintext of the page at the start of the bytes, under the model key and with the additional data of the section. -/
def openPage (key aad bs : Bytes) : Option Bytes :=
  let n := leAt bs 8 4
  gcmOpen key (slice bs 0x10 12) (aad ++ slice bs 0 32) (slice bs 32 (n + 16))

/-- R712, R713: the plaintext of the pages of a section from page `index` on, whose first byte stands at `off` of the image; none where
one of them fails under the key slots `keys` of its arrival. -/
def openPages (keys : Nat → KeyPair) (aad : Bytes) (gen : Nat) : Nat → Nat → Nat → Bytes → Option Bytes
  | _, _, _, [] => some []
  | 0, _, _, _ => none
  | n + 1, index, off, bs =>
    let len := leAt bs 8 4 + 48
    match modelKey (keys (off + len)) gen, pageOk gen index bs with
    | some k, true =>
      match openPage k aad bs, openPages keys aad gen n (index + 1) (off + len) (bs.drop len) with
      | some p, some r => some (p ++ r)
      | _, _ => none
    | _, _ => none

/-- R488, R712: a section's plaintext: its bytes, or the plaintext of its pages where it is sealed. -/
def plainSect (keys : Nat → KeyPair) (bs : Bytes) (k : Nat) : Option Bytes :=
  let e := readSect (sectBytes bs k)
  let raw := slice bs e.offset e.length
  if sectSealed bs e.type then
    openPages keys (slice bs 0 64 ++ sectBytes bs k) e.keyGen (raw.length / 49 + 1) 0 e.offset raw
  else some raw

/-- R713: the first section with a page that fails. -/
def sealFault (keys : Nat → KeyPair) (bs : Bytes) : Option Nat := firstBad (sectCount bs) (fun k => (plainSect keys bs k).isSome)

/-! ### Contents (R470, R488) -/

/-- Table 12-6: a band at an offset of a verdict table entry. -/
def readBand (e : Bytes) (off : Nat) : BandCfg := { action := leAt e off 1, rollout := bitOf (leAt e (off + 1) 1) 0, param := leAt e (off + 4) 4 }

/-- R470: a verdict table entry of 64 bytes. -/
def readVerdict (e : Bytes) : VerdictCfg :=
  { thresholds := [0, 4, 8].map (fun o => BitVec.ofNat 32 (leAt e o 4)), bands := leAt e 0x0C 4 % 8
    band := (List.range 4).map (fun b => readBand e (0x10 + 8 * b)), nanBand := readBand e 0x30
    reserved := decide (8 ≤ leAt e 0x0C 4) || leAt e 0x38 8 != 0 ||
      (List.range 5).any (fun b => decide (2 ≤ leAt e (0x11 + 8 * b) 1) || leAt e (0x12 + 8 * b) 2 != 0) }

/-- A verdict table. -/
def readVerdicts (bs : Bytes) : List VerdictCfg := (List.range (bs.length / 64)).map (fun n => readVerdict (slice bs (64 * n) 64))

/-- The sections of a type, with their plaintext. -/
def sectsOf (keys : Nat → KeyPair) (bs : Bytes) (type : Nat) : List (SectEntry × Bytes) :=
  (List.range (sectCount bs)).filterMap (fun k =>
    let e := readSect (sectBytes bs k)
    if e.type = type then (plainSect keys bs k).map (fun b => (e, b)) else none)

/-- R488: an image with the contents of its TILE_MEM, DRAM and VERDICT sections; its other contents, whose layout the manual leaves
open, come with the load (log entry 82). -/
def Image.withContents (img : Image) (keys : Nat → KeyPair) (bs : Bytes) : Image :=
  let mem := sectsOf keys bs 0x01
  let verdicts := sectsOf keys bs 0x08
  { img with
    tiles := img.tiles.map (fun (t : TileImage) => { t with
      fill := (mem.filter (fun e => e.1.wing == t.wing && e.1.ctile == t.ctile)).map (fun e => (e.1.dest, e.2)) })
    dram := (sectsOf keys bs 0x03).map (fun e => (e.1.wing, e.1.dest, e.2))
    slots := img.slots.map (fun (e : Nat × SlotCfg) => (e.1, { e.2 with
      verdict := ((verdicts.find? (fun v => v.1.slot == e.1)).map (fun v => readVerdicts v.2)).getD [] })) }

/-! ### What a load writes (R495) -/

/-- R495: the loaded sections go to the image area on each Wing, those of slot `n` to its half (log entry 197). -/
def State.writeImageArea (s : State) (p n : Nat) (keys : Nat → KeyPair) (bs : Bytes) : State :=
  let h := (s.partOf p).imageHalf n
  let plain := ((List.range (sectCount bs)).filterMap (plainSect keys bs)).flatten
  (List.range s.wings).foldl (fun (s : State) w => s.regionWrite w p h.1 (plain.take h.2)) s

/-- Table 13-5: DRAM sections go to the windows area of their Wing. -/
def State.writeDram (s : State) (p : Nat) (img : Image) : State :=
  let x := s.partOf p
  img.dram.foldl (fun (s : State) e => s.regionWrite e.1 p (4096 * x.windowsOff + e.2.1) e.2.2) s

end Sys2Proof.Machine
end

