-- ==== Sys2Proof/Machine/ImageChecks.lean ====
section
/-!
DEFINITION. Machine/ImageChecks.lean: the checks of an image at load, in the order of Table 13-7 (R495, R496).
-/
namespace Sys2Proof.Machine

/-- R496: the detail of a check of the header or of the image as a whole. -/
def wholeImage : Nat := 4294967295

/-- The index of the first section that meets a test; the image as a whole when none does. -/
def Image.sect (img : Image) (test : SectEntry → Bool) : Nat := (img.sections.findIdx? test).getD wholeImage

/-- Sections of a model slot, and of a tile's control contents (Table 13-5). -/
def Image.slotSect (img : Image) (type m : Nat) : Nat := img.sect (fun e => e.type == type && e.slot == m)
def Image.controlSect (img : Image) (t : TileImage) : Nat :=
  img.sect (fun e => e.type == 2 && e.wing == t.wing && e.ctile == t.ctile)

/-! ### Features and windows (R187, R194) -/

/-- Table 05-2: the argument of a source lies in its range; a reserved source has none. -/
def Feature.argOk (f : Feature) : Bool :=
  if 0x001 ≤ f.source ∧ f.source ≤ 0x00A then f.arg == 0
  else
    match f.source with
    | 0x00B => decide (f.arg ≤ 124)
    | 0x00C => decide (f.arg < 2048) && decide (bitsOf f.arg 8 3 ≤ 5)
    | 0x00D => decide (f.arg < 2048) && decide (bitsOf f.arg 8 3 ≤ 5)
    | 0x00E | 0x00F | 0x100 | 0x101 | 0x102 => f.arg == 0
    | 0x010 | 0x011 | 0x012 | 0x103 | 0x104 | 0x105 | 0x106 | 0x107 => decide (f.arg ≤ 1)
    | _ => false

/-- Tables 05-1 and 05-3: transform, width and count. -/
def Feature.shapeOk (f : Feature) : Bool :=
  match f.transform with
  | 0 | 1 | 4 => f.width == 0 && f.count == 1
  | 2 => inR f.width 1 8 && f.count == 1
  | 3 => inR f.width 1 8 && inR f.count 2 64
  | _ => false

/-- The elements that an entry writes. -/
def Feature.elements (f : Feature) : List Nat := (List.range f.count).map (fun u => f.element + u)

/-- No number stands twice in a list. -/
def noTwice (l : List Nat) : Bool := l.all (fun n => l.countP (fun m => m == n) == 1)

/-- R180, R186, R187, Table 05-7: the token and its feature list. -/
def SlotCfg.featuresOk (c : SlotCfg) : Bool :=
  inR c.tokenWidth 1 512 && decide (c.flowBase ≤ c.tokenWidth) && inR c.features.length 1 128 && c.featureWords.all (fun w => featureReserved w == 0) &&
    c.features.all (fun f => f.argOk && f.shapeOk && decide (f.element + f.count ≤ c.tokenWidth) &&
      (if f.packetClass then decide (f.element + f.count ≤ c.flowBase) else decide (c.flowBase ≤ f.element))) &&
    noTwice (c.features.flatMap Feature.elements)

/-- R194: the window slots. -/
def Image.windowsOk (img : Image) : Bool :=
  [0, 1].all (fun w => let g := img.window w; inR g.1 1 60000000 && decide (g.2 < g.1))

/-! ### Graphs (R454, Table 12-1) -/

/-- Stateful steps of a graph. -/
def statefulCount (l : List StageCfg) : Nat := l.countP (fun g => g.kind == .stateful)

/-- R454: stages that read flow elements or input state lie at or after the stateful step. -/
def readsInOrder (l : List StageCfg) : Bool :=
  (l.takeWhile (fun g => g.kind != .stateful)).all (fun g => !g.readsFlow && !g.readsState)

/-- Table 12-1: the limits of a stage. -/
def StageCfg.limitsOk (g : StageCfg) (blockBytes : Nat) : Bool :=
  match g.kind with
  | .stateless => inR g.passK 1 65536
  | .stateful => inR g.passK 1 65536 && decide (g.stateBytes + 64 ≤ blockBytes)
  | .tree => inR g.trees 1 4096
  | .distance => decide (g.centroids ≤ 65536) && inR g.topK 1 16 && g.modes.all (fun m => decide (m ≤ 2))
  | .combine => decide (g.elements ≤ 64) && g.links.all (fun k => decide (k ≤ 3))

/-- R453, R483, Table 12-8: the rollout settings lie in their ranges, and the slot has a rollout graph just where they enable it. -/
def SlotCfg.rolloutOk (c : SlotCfg) : Bool :=
  c.rolloutCfg.enable == !c.rollout.isEmpty && inR c.rolloutCfg.steps 1 16 && inR c.rolloutCfg.width 1 15

/-- R454: the graphs of a model slot, in a partition with blocks of `n` bytes. -/
def SlotCfg.graphsOk (c : SlotCfg) (n : Nat) : Bool :=
  let ends := fun (l : List StageCfg) => match l.getLast? with | some g => g.kind == .combine | none => false
  decide (statefulCount c.main ≤ 1) && statefulCount c.noFlow == 0 && ends c.main && ends c.noFlow &&
    readsInOrder c.main && readsInOrder c.rollout && c.noFlow.all (fun g => !g.readsState) &&
    (c.rollout.isEmpty || (statefulCount c.rollout == 1 && statefulCount c.main == 1)) &&
    (c.main ++ c.noFlow ++ c.rollout).all (fun g => g.limitsOk n)

/-! ### Sites and verdict tables (R428, R471) -/

/-- R428: the dynamic sites of a model slot. -/
def SlotCfg.sitesOk (c : SlotCfg) : Bool :=
  inR c.statLength 1 65536 && noTwice (c.sites.map (fun (x : SiteCfg) => x.layer)) && noTwice (c.sites.map (fun (x : SiteCfg) => x.index)) &&
    c.sites.all (fun x => inR x.window 1 16 && fLe fOne x.margin && fLe x.margin 0x41800000#32 && F32.normalPos x.target &&
      F32.normalPos x.initMax && F32.normalPos x.floorMax)

/-- R471: one entry of a verdict table. -/
def VerdictCfg.ok (e : VerdictCfg) (rollout : Bool) : Bool :=
  let used := e.thresholds.take (e.bands - 1)
  let idle := e.thresholds.drop (e.bands - 1)
  inR e.bands 1 4 && !used.any F32.isNan && nonDecreasing used && idle.all (fun t => t == 0) &&
    (e.band.drop e.bands).all (fun b => b.action == 0 && !b.rollout && b.param == 0) &&
    (e.nanBand :: e.band).all (fun b => decide (b.action ≤ 5) && (rollout || !b.rollout)) && !e.reserved

/-- R471: the verdict table of a model slot. -/
def SlotCfg.verdictOk (c : SlotCfg) : Bool := c.verdict.all (fun e => e.ok c.rollsOut)

/-! ### Declared tables (R399, R413, R438, R462) -/

/-- R462: every path from a node meets a leaf within `n` node records. -/
def nodeOk (bs : Bytes) (h nodes leaves bits : Nat) : Nat → Nat → Bool
  | 0, _ => false
  | n + 1, k =>
    let r := slice bs (h + 8 * k) 8
    let f := leAt r 6 2
    decide (k < nodes) && decide (f < 4) && decide (leAt r 0 2 < bits) &&
      (if bitOf f 0 then decide (leAt r 2 2 < leaves) else nodeOk bs h nodes leaves bits n (leAt r 2 2)) &&
      (if bitOf f 1 then decide (leAt r 4 2 < leaves) else nodeOk bs h nodes leaves bits n (leAt r 4 2))

/-- R462: the check of a tree table, for a tree count. -/
def treeTableOk (bs : Bytes) (trees : Nat) : Bool :=
  let bits := leAt bs 0 2 + 1
  let nodes := leAt bs 2 2 + 1
  let leaves := leAt bs 4 2 + 1
  let outs := leAt bs 6 2 + 1
  let nodeAt := 64 * leAt bs 8 2
  let leafAt := 64 * leAt bs 0xA 2
  let record := fun (k : Nat) =>
    let r := slice bs (nodeAt + 8 * k) 8
    let f := leAt r 6 2
    decide (f < 4) && decide (leAt r 0 2 < bits) && decide (leAt r 2 2 < (if bitOf f 0 then leaves else nodes)) &&
      decide (leAt r 4 2 < (if bitOf f 1 then leaves else nodes))
  let tree := fun (t : Nat) =>
    let d := slice bs (0x140 + 4 * t) 4
    let f := leAt d 2 2
    decide (f < 128) && decide (f / 2 < outs) &&
      (if bitOf f 0 then decide (leAt d 0 2 < leaves) else nodeOk bs nodeAt nodes leaves bits 16 (leAt d 0 2))
  decide (outs ≤ 64) && leAt bs 0xC 4 == trees - 1 && leAt bs 0x10 48 == 0 &&
    !((f32s 64 (bs.drop 0x40)).any F32.isNan) && !((f32s leaves (bs.drop leafAt)).any F32.isNan) &&
    (List.range nodes).all record && (List.range trees).all tree

/-- The byte that an image's TILE_MEM sections put at an address of a tile's area; 0 where none of them holds it (log entry 230). -/
def TileImage.byteAt (t : TileImage) (a : Nat) : Byte :=
  match t.fill.reverse.find? (fun f => decide (f.1 ≤ a) && decide (a < f.1 + f.2.length)) with
  | some f => (f.2[a - f.1]?).getD 0
  | none => 0

/-- `n` bytes of a canonical tile's area as the image fills it. -/
def Image.areaRead (img : Image) (w c a n : Nat) : Bytes :=
  match img.tiles.find? (fun t => t.wing == w && t.ctile == c) with
  | some t => (List.range n).map (fun k => t.byteAt (a + k))
  | none => zeroBytes n

/-- R461: the bytes that a tree table takes, from its header. -/
def treeBytes (h : Bytes) : Nat :=
  max (0x140 + 4 * (leAt h 0xC 2 % 4096 + 1)) (max (64 * leAt h 8 2 + 8 * (leAt h 2 2 + 1)) (64 * leAt h 0xA 2 + 4 * (leAt h 4 2 + 1)))

/-- Tables 10-7, 11-6 and 12-2, R340: the bytes of a declared table. -/
def Image.table (img : Image) (d : Declared) : Bytes :=
  let read := img.areaRead d.wing d.ctile d.address
  match d.kind with
  | .codebookA | .codebookB => read (2 * d.entries)
  | .activation => read 3072
  | .encode => read 1088
  | .tree => read (treeBytes (read 64))

/-- R496: the section that holds the first byte of a declared table; section DECLARE where none does. -/
def Image.tableSect (img : Image) (d : Declared) : Nat :=
  let holds := fun (e : SectEntry) =>
    e.type == 1 && e.wing == d.wing && e.ctile == d.ctile && decide (e.dest ≤ d.address) &&
      decide (d.address < e.dest + e.plainLength img.sealed_)
  (img.sections.findIdx? holds).getD (img.sect (fun e => e.type == 0x0B))

/-- Sections whose declared tables fail a check. -/
def Image.badTables (img : Image) (ok : Declared → Bool) : List Nat := (img.declared.filter (fun d => !ok d)).map img.tableSect

/-- R399. -/
def Image.codebooksOk (img : Image) (d : Declared) : Bool :=
  let check := fun (isA : Bool) => codebookOk isA ((elements 16 (img.table d)).map (fun c => BitVec.ofNat 16 c))
  match d.kind with
  | .codebookA => check true
  | .codebookB => check false
  | _ => true

/-- R413. -/
def Image.activationOk (img : Image) (d : Declared) : Bool := d.kind != .activation || actTableOk (img.table d)

/-- R462. -/
def Image.treeOk (img : Image) (d : Declared) : Bool :=
  d.kind != .tree || treeTableOk (img.table d) (leAt (img.table d) 0xC 2 % 4096 + 1)

/-- R438: an encode table passes by itself, agrees with the others on a clip layer's threshold, and names a site of its tile's site
table where it is dynamic. -/
def Image.encodeOk (img : Image) (d : Declared) : Bool :=
  let e := encTableOf (img.table d)
  let clash := img.declared.any (fun o =>
    o.kind == .encode && (encTableOf (img.table o)).layer == e.layer && (encTableOf (img.table o)).log2 != e.log2)
  let sited := img.tiles.any (fun x => x.wing == d.wing && x.ctile == d.ctile && x.sites.any (fun y => y.site == e.site))
  d.kind != .encode || (encTableOk (img.table d) && !clash && (!e.dynamic || sited))

/-! ### Table 13-7 -/

/-- R346, R710: a DRAM window lies in the partition's region, and in its windows area once the partition is sealed. -/
def Partition.windowOk (x : Partition) (d : DramWindow) : Bool :=
  decide (d.base + d.size ≤ 1073741824 * x.regionGib) &&
    (!x.sealed || (decide (4096 * x.windowsOff ≤ d.base) && decide (d.base + d.size ≤ 4096 * (x.windowsOff + x.windowsUnits))))

/-- R352, R495: a tile of one of the partition's quarter-Galleries. -/
def Partition.holdsTile (x : Partition) (i : Nat) : Bool := bitOf (x.quartersOn (tileWing i)) (tileQuarter i)

/-- The sections of the tiles that fail a test. -/
def Image.badTiles (img : Image) (test : TileImage → Bool) : List Nat := (img.tiles.filter (fun t => !test t)).map img.controlSect

/-- The sections of the model slots that fail a test. -/
def Image.badSlots (img : Image) (type : Nat) (test : SlotCfg → Bool) : List Nat :=
  (img.slots.filter (fun e => !test e.2)).map (fun e => img.slotSect type e.1)

/-- A check of the image as a whole. -/
def whole (ok : Bool) : List Nat := if ok then [] else [wholeImage]

/-- A check of one section type. -/
def Image.one (img : Image) (type : Nat) (ok : Bool) : List Nat := if ok then [] else [img.sect (fun e => e.type == type)]

/-- Table 13-7 from its third row on: the status of each check and the sections at fault. -/
def imageChecks (s : State) (x : Partition) (img : Image) : List (Nat × List Nat) :=
  [ (stConflict, whole (img.target == b2n s.is4840 && (!s.is4840 || img.halfFit)))
  , (stConflict, whole (img.quarters == x.quarterCount 0))
  , (stConflict, whole (inR img.blockUnits 1 x.blockUnits))
  , (stConflict, img.one 0x0A (decide (0x40 + img.layout.histOffset + img.layout.depth * img.layout.histEntry ≤ x.blockBytes)))
  , (stConflict, img.badTiles (fun t => t.windows.all x.windowOk))
  , (stConflict, img.badTiles (fun t => t.groups.all (fun g => g.all (fun m => decide (m.wing < s.wings) && x.holdsTile (x.member m)))))
  , (stBadParam, img.badSlots 0x05 (fun c => c.graphsOk x.blockBytes))
  , (stBadParam, img.badSlots 0x09 SlotCfg.rolloutOk)
  , (stBadParam, img.badTiles (fun t => decide (t.entries.length ≤ 16)))
  , (stBadParam, img.one 0x0A (decide (img.layout.depth ≤ 16)))
  , (stBadParam, img.badSlots 0x05 SlotCfg.featuresOk)
  , (stBadParam, img.one 0x06 img.windowsOk)
  , (stBadParam, img.badTables img.codebooksOk)
  , (stBadParam, img.badTables img.activationOk)
  , (stBadParam, img.badSlots 0x07 SlotCfg.sitesOk)
  , (stBadParam, img.badTables img.encodeOk)
  , (stBadParam, img.badTables img.treeOk)
  , (stBadParam, img.badSlots 0x08 SlotCfg.verdictOk) ]

/-- R495, R496: the first check that fails, with the lowest section at fault. -/
def firstFault : List (Nat × List Nat) → Option Status
  | [] => none
  | (st, ks) :: rest =>
    match ks.min? with
    | some k => some { status := st, detail := k }
    | none => firstFault rest

/-- R488: the image that a finished transfer brings, with what its bytes give. -/
def LoadResult.loaded (r : LoadResult) (keys : Nat → KeyPair) : Image := (r.image.withHeader r.bytes).withContents keys r.bytes

/-- Table 13-7, R495, R496: what a finished transfer of `n` bytes comes to; `keys` gives the key slots at the arrival of a byte. -/
def loadFault (s : State) (x : Partition) (n : Nat) (keys : Nat → KeyPair) (r : LoadResult) : Option Status :=
  if r.dmaError then some { status := stIntegrity, detail := wholeImage }
  else
    match formatFault x r.bytes n with
    | some k => some { status := stBadParam, detail := k }
    | none =>
      if !measureOk r.bytes then some { status := stIntegrity, detail := wholeImage }
      else
        match sealFault keys r.bytes, r.contentFault with
        | some k, _ => some { status := stIntegrity, detail := k }
        | none, some k => some { status := stBadParam, detail := k }
        | none, none => firstFault (imageChecks s x (r.loaded keys))

/-- R713: the load fails at the authentication of a page. -/
def pageFails (x : Partition) (n : Nat) (keys : Nat → KeyPair) (r : LoadResult) : Bool :=
  !r.dmaError && (formatFault x r.bytes n).isNone && measureOk r.bytes && (sealFault keys r.bytes).isSome

end Sys2Proof.Machine
end

