-- ==== Sys2Proof/Machine/Spdm.lean ====
section
/-!
DEFINITION. Machine/Spdm.lean: keys, certificates, SPDM and TDISP messages, bounce-buffer mode, the test access port
(chapters 16, 19).
-/
namespace Sys2Proof.Machine

/-! ### Keys (R704 to R711) -/

/-- R707: `g` follows the current slot's key_gen. -/
def genFollows (cur : Option KeySlot) (g : Nat) : Bool :=
  match cur with
  | none => decide (1 ≤ g)
  | some k => g == k.gen % 255 + 1

/-- Image slots whose load is running (R709). -/
def Partition.loading (p : Partition) : List Nat :=
  (if p.slot0.state = .loading then [0] else []) ++ (if p.slot1.state = .loading then [1] else [])

/-- R713: a load that runs sees the key slots change at an instant. -/
def ImageSlot.logKeys (y : ImageSlot) (k : KeyChange) : ImageSlot :=
  if y.state = .loading then { y with keyLog := y.keyLog ++ [k] } else y

/-- R713: the key slots of a partition are about to change at an instant. -/
def Partition.logKeys (p : Partition) (nt : Nat) : Partition :=
  let k : KeyChange := { nt := nt, cur := p.keyCur, prev := p.keyPrev }
  { p with slot0 := p.slot0.logKeys k, slot1 := p.slot1.logKeys k }

/-- R708, R709: the new key enters the current slot. -/
def Partition.takeKey (p : Partition) (nt g : Nat) (key : Bytes) : Partition :=
  let holders := p.loading
  { p.logKeys nt with
    keyPrev := if holders.isEmpty then none else p.keyCur
    prevHolders := holders
    keyCur := some { gen := g, key := key }
    sealed := true }

/-- R705: the info that a wrapped key of a partition is bound to. -/
def State.wrapInfo (s : State) (p g : Nat) : Bytes :=
  label "IKF-MK1" ++ leBytes 8 s.boot.serial ++ leBytes 1 p ++ ((s.partOf p).nonce.getD []) ++ leBytes 1 g

/-- R705: the model key of 32 bytes that a wrapped key holds for the PWK of a partition. -/
def State.unwrap (s : State) (p g : Nat) (blob : Bytes) : Option Bytes :=
  (s.partOf p).pwk.bind (fun d => hpkeOpen d (slice blob 8 97) (s.wrapInfo p g) (slice blob 0x69 48))

/-- R706: where KEY_LOAD is accepted from. -/
def keyLoadAllowed (s : State) (fn : Nat) : Bool :=
  decide (1 ≤ fn ∧ fn ≤ 8) && ((s.func fn).tdisp == .run || (s.func fn).bounce) && !s.sec.debug

/-- R707, step 1: the wrapped key's layout (Table 19-7). -/
def blobFault (keyGen wrappedBytes : Nat) (blob : Bytes) : Option Nat :=
  if keyGen = 0 then some 0x20
  else if wrappedBytes ≠ 153 then some 0x30
  else if blob.length ≠ 153 ∨ leAt blob 0 1 ≠ 1 ∨ leAt blob 2 2 ≠ 0 ∨ leAt blob 4 4 ≠ 0 ∨ leAt blob 1 1 ≠ keyGen then some 0x28
  else none

/-- KEY_LOAD (R705 to R709). -/
def execKeyLoad (c : CmdIn) (keyGen wrappedBytes : Nat) (blob : Bytes) (s : State) : Host.Outcome State Fault Refusal :=
  .next (runCmd 0x0901 (.keyLoad c keyGen wrappedBytes blob) c [(!decide (1 ≤ wrappedBytes ∧ wrappedBytes ≤ 4096), 0x10)] s (fun cmd s =>
    let p := cmd.hdr.partition
    let x := s.partOf p
    let reject := fun (st : Status) => (some st, s.bump (Ctr.partKeyRejected p))
    if !keyLoadAllowed s cmd.fn then reject (fail stDenied)
    else
      match blobFault keyGen wrappedBytes blob with
      | some off => reject (badParam off)
      | none =>
        if !genFollows x.keyCur keyGen then reject (fail stConflict)
        else if x.keyPrev.isSome then reject (fail stBusy)
        else
          match s.unwrap p keyGen blob with
          | none => reject (fail stIntegrity)
          | some key =>
            let s := (s.modPart p (fun x => x.takeKey s.nt keyGen key)).bump (Ctr.partKeyLoads p)
            (some okStatus, s.issueLeaf p)) (data := wrappedBytes) (holds := fun b => b == blob))

/-- R709: the last load that started before the KEY_LOAD has completed; the previous slot is erased. -/
def execPreviousKeyErase (partition : Nat) (s : State) : Host.Outcome State Fault Refusal :=
  .next (s.whenFree (
    let x := s.partOf partition
    if x.keyPrev.isSome && x.prevHolders.isEmpty then
      (s.modPart partition (fun x => { x.logKeys s.nt with keyPrev := none })).issueLeaf partition
    else s))

/-- KEY_QUERY (R708). -/
def execKeyQuery (c : CmdIn) (s : State) : Host.Outcome State Fault Refusal :=
  .next (runRead 0x0902 (.keyQuery c) c [] s (fun cmd s => okReply (s.partOf cmd.hdr.partition).keySlots))

/-! ### SPDM responder (R701) -/

/-- R701: the partition or context that a certificate slot of a VF serves: the contexts in the order of their binding. -/
def State.slotPart (s : State) (fn slot : Nat) : Option Nat :=
  let ps := s.partsOf fn
  let before := fun (p : Nat) => ps.countP (fun q => decide ((s.partOf q).bindOrder < (s.partOf p).bindOrder))
  if inR fn 1 8 then ps.find? (fun p => before p == slot) else none

/-- GET_CERTIFICATE (R701, R703): the chain with the latest leaf. -/
def execGetCertificate (fn slot : Nat) (s : State) : Host.Outcome State Fault Refusal :=
  .next (
    if s.dead || !s.hallFree then s else
    match (s.slotPart fn slot).bind (fun p => (s.partOf p).leaf) with
    | none => s.emit (.spdm fn .error)
    | some x => s.emit (.certificate fn slot (s.chainOf x)))

/-- R699, R701: a session of a VF, with the application secrets that its key schedule gives. -/
def Func.openSpdm (f : Func) (n : Nat) : Func :=
  { f with spdm := true, spdmId := n, spdmReq := some (Config.spdmSecret n false), spdmRsp := some (Config.spdmSecret n true) }

/-- KEY_EXCHANGE (R699, R701, R704): signed with the PAK, it establishes the VF's session. -/
def execKeyExchange (fn slot : Nat) (s : State) : Host.Outcome State Fault Refusal :=
  .next (
    if s.dead || !s.hallFree then s else
    match s.slotPart fn slot with
    | none => s.emit (.spdm fn .error)
    | some _ => (s.nextFree.setFunc fn ((s.func fn).openSpdm s.free)).emit (.spdm fn .response))

/-- R701: GET_MEASUREMENTS is answered with UnsupportedRequest. -/
def execGetMeasurements (fn : Nat) (s : State) : Host.Outcome State Fault Refusal :=
  .next (s.whenFree (if s.dead then s else s.emit (.spdm fn .unsupportedRequest)))

/-- R701: the other requests of SPDM 1.3 are answered as responder (log entry 221). -/
def execSpdmRequest (fn _code : Nat) (s : State) : Host.Outcome State Fault Refusal :=
  .next (s.whenFree (if s.dead then s else s.emit (.spdm fn .response)))

/-! ### Bounce-buffer mode (R626 to R634, R719) -/

/-- R699: a bounce key of 32 bytes from an application secret of the VF's session. -/
def bounceKey (secret : Option Bytes) (l : String) : Option Bytes := secret.map (fun x => hkdfExpand x (label l) 32)

/-- R627, R699: the VF seals and opens under the keys of its SPDM session. The nonce counter and the sequences run on when the keys are
those of the mode's last use (R630, R631). -/
def Func.startBounce (f : Func) : Func :=
  let f := if f.bounceId = some f.spdmId then f else { f with nonceCtr := 0, cmdSeq := [], ownSeq := [], drainSeq := [] }
  { f with
    bounce := true, bounceId := some f.spdmId, dataIn := []
    reqKey := bounceKey f.spdmReq "ikf bounce req", rspKey := bounceKey f.spdmRsp "ikf bounce rsp" }

/-- R626, R627, R719: BOUNCE_START inside an SPDM session, from a VF that is not locked. -/
def execBounceStart (fn : Nat) (s : State) : Host.Outcome State Fault Refusal :=
  .next (s.whenFree (
    let f := s.func fn
    if fn = 0 || !f.spdm || f.tdisp == .locked || f.tdisp == .run then s.emit (.spdm fn .error)
    else (s.setFunc fn f.startBounce).emit (.spdm fn .response)))

/-- R628, R718: SPDM END_SESSION ends bounce-buffer mode, and a locked VF moves to ERROR. -/
def execEndSession (fn : Nat) (s : State) : Host.Outcome State Fault Refusal :=
  .next (s.whenFree (
    let s := s.endBounce fn
    let s := s.setFunc fn { s.func fn with spdm := false, spdmReq := none, spdmRsp := none }
    (s.tdispFail fn).emit (.spdm fn .response)))

/-- Tables 17-14 to 17-22: the address and the bytes of the buffer that a command reads, from its parameters. -/
def commandBuffer (op : Nat) (params : Bytes) : Option (Nat × Nat) :=
  match op with
  | 0x0301 => some (leAt params 8 8, leAt params 0x10 8)
  | 0x0403 => some (leAt params 8 8, 256)
  | 0x0408 => some (leAt params 0x10 8, leAt params 8 4 * (if bitOf (leAt params 0 1) 1 then 64 else 256))
  | 0x0504 => some (leAt params 0x10 8, 8 * (leAt params 2 2 % 512))
  | 0x0901 => some (leAt params 8 8, leAt params 0x10 4)
  | 0x0A02 => some (leAt params 8 8, leAt params 0x10 4)
  | _ => none

/-- R632: the chunk that a command reads next, of its parameters at param_addr or of its buffer: its address, the offset within its
transfer and its bytes; every chunk but the last of a transfer carries 4,096 bytes. -/
def State.nextChunk (s : State) (r : Nat) (c : Cmd) : Option (Nat × Nat × Nat) :=
  let n := (mget [] (s.func c.fn).dataIn (s.localOf r)).length
  let params := if 32 < c.hdr.paramLength then c.hdr.paramLength else 0
  let chunk := fun (addr have_ total : Nat) =>
    if have_ < total then some (chunkAddr addr (have_ / 4096), have_, min 4096 (total - have_)) else none
  if n < params then chunk c.hdr.word20 n params
  else ((s.paramsOf r c).bind (commandBuffer c.hdr.opcode)).bind (fun b => chunk b.1 (n - params) b.2)

/-- R629, R631, R634: a COMMAND envelope of the ring with the next sequence of its ring; it carries an entry of 64 bytes. -/
def State.commandOk (s : State) (fn : Nat) (e : Bytes) : Bool :=
  let f := s.func fn
  leAt e 8 8 == mget 0 f.cmdSeq (leAt e 2 2) + 1 && leAt e 0x10 4 == 0 && (openEnvelope (f.reqKey.getD []) e).any (fun p => p.length == 64)

/-- R632: the plaintext of a DATA_IN envelope that carries the chunk that the command running on ring `r` reads next. -/
def State.dataChunk (s : State) (r : Nat) (c : Cmd) (e : Bytes) : Option Bytes :=
  let f := s.func c.fn
  match s.nextChunk r c, openEnvelope (f.reqKey.getD []) e with
  | some (_, off, n), some p =>
    if leAt e 0x10 4 = mget 0 f.ownSeq (leAt e 2 2) % 4294967296 ∧ leAt e 8 8 = off ∧ p.length = n then some p else none
  | _, _ => none

/-- R633: an envelope of local ring `ring` fails: bounce-buffer mode ends. -/
def State.envelopeFails (s : State) (fn : Nat) : State := ((s.bump (Ctr.funcAuthFail fn)).setSticky 114).endBounce fn

/-- R633: a COMMAND envelope fails: its entry, handed over or not, is never fetched. -/
def State.commandFails (s : State) (fn ring : Nat) : State :=
  let early := fun (x : Ring) => x.sqHead + (mget 0 (s.func fn).cmdSeq ring - mget 0 (s.func fn).ownSeq ring) = x.sqTail
  let s' := s.envelopeFails fn
  match s.ringBy fn ring with
  | none => s'
  | some r => if (mfind s.host.rings r).any early then s'.modRing r (fun x => { x with skip := x.skip + 1 }) else s'

/-- ENVELOPE (R629 to R635): an envelope of a VF's driver is opened. A COMMAND envelope is written into VF BAR2 at `slot` and waits there
for the fetch; a DATA_IN envelope is what the device reads from host memory for the running command of its ring. One that fails ends
bounce-buffer mode, and its command writes no completion. -/
def execEnvelope (fn slot : Nat) (data : Bytes) (s : State) : Host.Outcome State Fault Refusal :=
  .next (
    let f := s.func fn
    let ring := leAt data 2 2 % 512
    if s.dead || !s.hallFree || !f.bounce then s
    else
      match leAt data 1 1 with
      | 1 =>
        let s := s.setFunc fn { f with bar2 := memWrite f.bar2 slot data }
        if s.commandOk fn data then
          (s.setFunc fn { s.func fn with cmdSeq := mput f.cmdSeq ring (leAt data 8 8) }).bump (Ctr.funcEnvelopesIn fn)
        else s.commandFails fn ring
      | 3 =>
        match (s.ringBy fn ring).bind (fun r => (s.cmdAt r).map (fun c => (r, c))) with
        | none => s.envelopeFails fn
        | some (r, c) =>
          let s := match s.nextChunk r c with
            | some (a, _, n) => s.dma fn (.hostRead fn a (48 + n))
            | none => s
          match s.dataChunk r c data with
          | some p => (s.setFunc fn { f with dataIn := mput f.dataIn ring (mget [] f.dataIn ring ++ p) }).bump (Ctr.funcEnvelopesIn fn)
          | none => ((s.cutRing r).dropCmd r).envelopeFails fn
      | _ => s.envelopeFails fn)

/-! ### TDISP and IDE (R715 to R719) -/

/-- R716: what the device interface report of a VF lists: BAR0 as TEE MMIO, BAR2 as non-TEE MMIO. -/
def interfaceBars (fn : Nat) : List (Nat × Bool) := (barsOf fn).map (fun b => (b.number, b.number == 0))

/-- LOCK_INTERFACE_REQUEST (R704, R715, R716): within the VF's session, with its conditions. -/
def execLockInterfaceRequest (fn : Nat) (s : State) : Host.Outcome State Fault Refusal :=
  .next (
    let f := s.func fn
    let active := (List.range s.partsN).any (fun p => s.fnOf p == fn && (s.partOf p).state == .active)
    if s.dead || !s.hallFree then s
    else if fn != 0 && f.spdm && f.ideKey.isSome && active && !f.bounce && f.tdisp == .unlocked then
      ((s.setFunc fn { f with tdisp := .locked }).emit (.spdm fn .response)).emit (.interfaceReport fn (interfaceBars fn))
    else s.emit (.spdm fn .tdispError))

/-- START_INTERFACE_REQUEST (R704, R715, R717): within the VF's session, a locked VF moves to RUN. -/
def execStartInterfaceRequest (fn : Nat) (s : State) : Host.Outcome State Fault Refusal :=
  .next (
    let f := s.func fn
    if s.dead || !s.hallFree then s
    else if f.spdm && f.tdisp == .locked then (s.setFunc fn { f with tdisp := .run }).emit (.spdm fn .response)
    else s.emit (.spdm fn .tdispError))

/-- R718: an event of its list moves a locked or running VF to ERROR. -/
def execTdispError (fn : Nat) (s : State) : Host.Outcome State Fault Refusal :=
  .next (s.whenFree (if s.dead then s else s.tdispFail fn))

/-- R715: the streams that IDE_KM messages of a VF's session manage: stream 0 to 8 is the selective stream of that function, stream 9 the
link stream (log entry 222). -/
def State.setStream (s : State) (stream : Nat) (key : Option Bytes) : State :=
  if stream = 9 then { s with host := { s.host with linkIde := key } } else s.setFunc stream { s.func stream with ideKey := key }

/-- IDE_KM (R715): a message in the VF's session gives a stream its key and brings it to Secure, or takes it out of it. -/
def execIdeKm (fn stream : Nat) (key : Option Bytes) (s : State) : Host.Outcome State Fault Refusal :=
  .next (
    if s.dead || !s.hallFree then s
    else if inR fn 1 8 && (s.func fn).spdm && (stream == fn || stream == 0 || stream == 9) then
      (s.setStream stream key).emit (.spdm fn .response)
    else s.emit (.spdm fn .error))

/-! ### Test access port (R721, R883) -/

/-- R883: IDCODE of the part. -/
def PartCode.idcode : PartCode → Nat
  | .ikf4880_12 => 0x148806D7
  | .ikf4880_10 => 0x148816D7
  | .ikf4840_12 => 0x148406D7

/-- Table 24-11, R720: the levels of PERST_N, RESET_N, BOOT_MODE[0], BOOT_MODE[1], PPS_OUT, FAULT_N, THERMTRIP_N, PM_ALERT_N and
FL_RESET_N. -/
def State.pinLevels (s : State) : List Bool :=
  [ s.host.perstN, !s.power.resetLow, bitOf s.boot.bootMode 0, bitOf s.boot.bootMode 1, s.time.ppsOut, !s.power.faultN
  , !s.power.thermtrip, !s.power.pmAlert, s.power.flResetN ]

/-- R720, R721, R883: EXTEST 0, SAMPLE/PRELOAD 1, BYPASS 2, IDCODE 3: they act on pins only; SAMPLE/PRELOAD shifts out pin states (log
entry 232), IDCODE the part's code. -/
def execBoundaryScan (instr : Nat) (s : State) : Host.Outcome State Fault Refusal :=
  .next (
    if s.power.vstby33 && s.power.vio18 && s.power.vaux18 then
      let s := { s with sec := { s.sec with tapInstr := instr } }
      if instr = 3 then s.emit (.tdo s.part.idcode) else if instr = 1 then s.emit (.pins s.pinLevels) else s
    else s)

end Sys2Proof.Machine
end

