-- ==== Sys2Proof/Machine/Partitions.lean ====
section
/-!
DEFINITION. Machine/Partitions.lean: configuring a partition or context (Tables 17-10 to 17-12; R211, R262, R289, R595 to R597,
R607, R690, R700).
-/
namespace Sys2Proof.Machine

/-! ### Ranges (Table 17-11) -/

/-- A quota field: its range, or 0xFFFF for the default. -/
def quotaOk (v lo hi : Nat) : Bool := inR v lo hi || v == 0xFFFF

/-- Fields of Table 17-11 that are out of range, at their offsets. -/
def ConfigParams.bad (x : ConfigParams) (is4840 : Bool) : List (Bool × Nat) :=
  [ (is4840 && x.quarters1 != 0, 0x02)
  , (!inR x.blockUnits 1 16, 0x04)
  , (!inR x.shareLog2 10 22, 0x05)
  , (!inR x.ringQuota 1 512, 0x06)
  , (is4840 && x.shareBase1 != 0, 0x0C)
  , (!quotaOk x.overflowQuota0 0 32768, 0x10)
  , (!quotaOk x.overflowQuota1 0 32768, 0x12)
  , (!quotaOk x.coalQuota0 16 4096, 0x14)
  , (!quotaOk x.coalQuota1 16 4096, 0x16)
  , (!inR x.regionBase0 0 190, 0x18)
  , (!inR x.regionBase1 0 190 || (is4840 && x.regionBase1 != 0), 0x19)
  , (!inR x.regionGib 1 191 || decide (191 < x.regionBase0 + x.regionGib) || decide (191 < x.regionBase1 + x.regionGib), 0x1A)
  , (if is4840 then !inR x.bindFn 0 8 else x.bindFn != 0, 0x1B)
  , (!is4840 && x.stairQuota != 0, 0x1C) ]

/-! ### Conflicts (Table 17-10) -/

/-- A configuration as the fields of a partition, its quotas taken from Table 06-5 where they are 0xFFFF. -/
def ConfigParams.fields (x : ConfigParams) : Partition :=
  let ov := fun (v : Nat) => if v = 0xFFFF then 32768 * 2 ^ x.shareLog2 / 4194304 else v
  let co := fun (v : Nat) => if v = 0xFFFF then max 16 (4096 * 2 ^ x.shareLog2 / 4194304) else v
  { quarters0 := x.quarters0, quarters1 := x.quarters1, blockUnits := x.blockUnits, shareLog2 := x.shareLog2, ringQuota := x.ringQuota
    shareBase0 := x.shareBase0, shareBase1 := x.shareBase1, overflowQuota0 := ov x.overflowQuota0, overflowQuota1 := ov x.overflowQuota1
    coalQuota0 := co x.coalQuota0, coalQuota1 := co x.coalQuota1, regionBase0 := x.regionBase0, regionBase1 := x.regionBase1
    regionGib := x.regionGib, bindFn := x.bindFn, stairQuota := x.stairQuota, larderOff := x.larderOff, shadowOff := x.shadowOff
    windowsOff := x.windowsOff, windowsUnits := x.windowsUnits, imageOff := x.imageOff, imageUnits := x.imageUnits }

/-- Configured partitions other than `p`. -/
def State.others (s : State) (p : Nat) : List Partition :=
  ((List.range s.partsN).filter (fun q => q != p && (s.partOf q).state != .unconfigured)).map s.partOf

/-- Two spans, by base and size, have a place in common. -/
def spansMeet (a b : Nat × Nat) : Bool := decide (a.1 < b.1 + b.2) && decide (b.1 < a.1 + a.2)

/-- R18, R690: a quarter of a Wing is withheld, or has no room for one more partition or context. -/
def State.quarterTaken (s : State) (p w q : Nat) : Bool :=
  s.health.withheld.contains (12 * w + q) ||
    decide ((if s.is4840 then 2 else 1) ≤ (s.others p).countP (fun x => bitOf (x.quartersOn w) q))

/-- The areas of a configuration in its region, by base and size in bytes: Larder, shadow, windows, image. -/
def Partition.areas (x : Partition) : List (Nat × Nat) :=
  [(4096 * x.larderOff, 4 * 2 ^ x.shareLog2 * x.blockBytes), (4096 * x.shadowOff, 256 * 2 ^ x.shareLog2 + 2097152),
   (4096 * x.windowsOff, 4096 * x.windowsUnits), (4096 * x.imageOff, 4096 * x.imageUnits)]

/-- No two spans of a list meet. -/
def spansApart : List (Nat × Nat) → Bool
  | [] => true
  | a :: rest => rest.all (fun b => !spansMeet a b) && spansApart rest

/-- The DRAM region of a partition on a Wing, in GiB (Table 17-11). -/
def Partition.regionSpan (x : Partition) (w : Nat) : Nat × Nat := (if w = 0 then x.regionBase0 else x.regionBase1, x.regionGib)

/-- A partition's share on a Wing, in buckets. -/
def Partition.shareSpan (x : Partition) (w : Nat) : Nat × Nat := (x.shareBase w, 2 ^ x.shareLog2)

/-- R289 and Table 17-10: the areas lie apart within the region, and the region apart from those of other partitions. -/
def State.areasOk (s : State) (p : Nat) (x : Partition) : Bool :=
  x.areas.all (fun a => decide (a.1 + a.2 ≤ 1073741824 * x.regionGib)) && spansApart x.areas &&
    (List.range s.wings).all (fun w => (s.others p).all (fun y => !spansMeet (x.regionSpan w) (y.regionSpan w)))

/-- R211: shares are aligned, lie within the 2^22 buckets of a Wing and do not overlap. -/
def State.shareOk (s : State) (p : Nat) (x : Partition) : Bool :=
  (List.range s.wings).all (fun w =>
    x.shareBase w % 2 ^ x.shareLog2 == 0 && decide (x.shareBase w + 2 ^ x.shareLog2 ≤ 4194304) &&
      (s.others p).all (fun y => !spansMeet (x.shareSpan w) (y.shareSpan w)))

/-- R262: quotas of a Wing sum to no more than the Wing has. -/
def State.quotasOk (s : State) (p : Nat) (x : Partition) : Bool :=
  let sum := fun (f : Partition → Nat) => ((x :: s.others p).map f).foldl (· + ·) 0
  (List.range s.wings).all (fun w =>
    decide (sum (fun y => y.overflowQuota w) ≤ 32768) && decide (sum (fun y => y.coalQuota w) ≤ 4096))

/-- R607: the PF holds more rings than the ring quotas of the configured partitions would leave it. -/
def State.ringsShort (s : State) (p : Nat) (x : Partition) : Bool :=
  let counted := (List.range s.partsN).filter (fun q => q != p && (s.partOf q).state != .unconfigured && s.fnOf q != 0)
  let sum := (counted.map (fun q => (s.partOf q).ringQuota)).foldl (· + ·) 0
  let own := if s.is4840 ∧ x.bindFn = 0 then 0 else x.ringQuota
  decide (4096 < (s.ringsOf 0).length + sum + own)

/-- R596: a VF would hold a third context. -/
def State.thirdContext (s : State) (p : Nat) (x : Partition) : Bool :=
  s.is4840 && x.bindFn != 0 && decide (2 ≤ (s.others p).countP (fun y => y.bindFn == x.bindFn))

/-- Table 17-10: the conditions of PARTITION_CONFIGURE and CONTEXT_CONFIGURE. -/
def State.configureFault (s : State) (p : Nat) (c : ConfigParams) : Option Status :=
  let x := c.fields
  let n := x.quarterCount 0
  let taken := (List.range s.wings).any (fun w => (x.quarterList w).any (fun q => s.quarterTaken p w q))
  if (s.partOf p).state ≠ .unconfigured then some (fail stConflict)
  else if n = 0 ∨ (!s.is4840 ∧ n ≠ x.quarterCount 1) then some (fail stConflict)
  else if taken || !s.areasOk p x || !s.shareOk p x || !s.quotasOk p x || s.thirdContext p x then some (fail stConflict)
  else if s.ringsShort p x then some (fail stBusy)
  else none

/-! ### Effects (R664, R688, R690, R700, Table 17-10) -/

/-- R690: the quarters in which the low area is held. -/
def State.highAreas (s : State) (p : Nat) (x : Partition) : Nat :=
  if s.is4840 then
    ((x.quarterList 0).filter (fun q => (s.others p).any (fun y => bitOf y.quarters0 q && !bitOf y.highMask q))).foldl
      (fun n q => n + 2 ^ q) 0
  else 0

/-- Entries of a share take the defaults of Table 06-2; its buckets are free of locks and logged hits. -/
def Wing.clearShare (y : Wing) (x : Partition) (w : Nat) : Wing :=
  let own := fun (slot : Nat) => x.ownsBucket w (slot / 4)
  { y with
    entries := y.entries.filter (fun e => !own e.1)
    locks := y.locks.filter (fun e => !x.ownsBucket w e.1)
    broken := y.broken.filter (fun e => !x.ownsBucket w e.1)
    hitLog := y.hitLog.filter (fun e => hOverflow e.1 || !own (hSlot e.1)) }

/-- A partition's settings and deadlines as at configuration: the defaults, with age_start the configuration NT (Table
06-5). -/
def State.freshSettings (s : State) (p e : Nat) : State :=
  let s := s.defaultSettings p
  let old := fun (f : Nat × Nat × Nat) =>
    let sc := settingScope (f.2.1 / 16777216)
    (sc == some .partition || sc == some .reportQueue) && f.2.1 / 256 % 65536 / 4096 == p
  let s := { s with hall := { s.hall with deadlines := mdel s.hall.deadlines p, formers := s.hall.formers.filter (fun f => !old f) } }
  s.putSetting 0x100A (p * 4096) 0 e

/-- R63: a context's Stairwell quota as it is created: the one given, or an equal share among the configured contexts, itself
included. -/
def State.quotaFor (s : State) (p : Nat) (x : Partition) : Nat :=
  if !s.is4840 ∨ x.stairQuota ≠ 0 then x.stairQuota else 32768 / ((s.others p).length + 1)

/-- R701: the place of a partition that is bound now among those that are bound. -/
def State.nextBind (s : State) : Nat := 1 + (s.parts.map (fun e => e.2.bindOrder)).foldl max 0

/-- PARTITION_CONFIGURE and CONTEXT_CONFIGURE take effect at instant `e`; `paired` says that R748 names it. -/
def State.configure (s : State) (p : Nat) (c : ConfigParams) (e : Nat) (paired : Bool) : State :=
  let x := c.fields
  let d := s.draw 16
  let fw := s.sec.fwCdi.getD []
  let s := d.2
  let s := s.setPart p { x with
    state := .active, stairQuota := s.quotaFor p x, activeFrom := if paired then e else 0, highMask := s.highAreas p x
    nonce := some d.1, pak := some (attestationKey d.1 fw p), pwk := some (wrappingKey d.1 fw p), bindOrder := s.nextBind }
  let s := s.clearPartCounters p
  let s := (List.range s.wings).foldl (fun s w => s.setWing w ((s.wing w).clearShare x w)) s
  (((s.emptyRqs p).freshSettings p e).placeSweep p).issueLeaf p

/-! ### PARTITION_QUERY -/

/-- Table 17-12: PARTITION_QUERY. -/
def State.partitionReply (s : State) (p : Nat) : Bytes :=
  let x := s.partOf p
  let st := match x.state with | .unconfigured => 0 | .active => 1 | .scrubbing => 2
  let run := match x.running with | some e => e.number + 65536 | none => 0
  leBytes 2 st ++ leBytes 2 x.quarters0 ++ leBytes 2 x.quarters1 ++ leBytes 2 (s.fnOf p) ++ leBytes 8 run

/-- PARTITION_QUERY. -/
def execPartitionQuery (c : CmdIn) (s : State) : Host.Outcome State Fault Refusal :=
  .next (runRead 0x0204 (.partitionQuery c) c [] s (fun cmd s => okReply (s.partitionReply cmd.hdr.partition)))

end Sys2Proof.Machine
end

