-- ==== Sys2Proof/Machine/Epochs.lean ====
section
/-!
DEFINITION. Machine/Epochs.lean: loading images, arming and switching epochs, staged fills, retirement, the background clear and
the epoch walk (chapter 13; R298 to R304). EPOCH_ARM and EPOCH_CANCEL stand in Machine/Mirror.lean.
-/
namespace Sys2Proof.Machine

/-! ### Loading (R494 to R499, R709 to R713) -/

/-- R497: the slot's state bars IMAGE_LOAD and IMAGE_DISCARD. -/
def SlotState.busy : SlotState → Bool
  | .empty | .ready => false
  | .loading | .armed | .running | .retiring => true

/-- R498: a load that starts while no other one runs begins a new count of the transfers. -/
def State.openLoads (s : State) : State :=
  if (List.range s.partsN).any (fun q => (s.partOf q).slot0.state == .loading || (s.partOf q).slot1.state == .loading) then s
  else { s with hall := { s.hall with loads := [] } }

/-- The bytes of an image that a load reads before it starts: its header, for R710. -/
def headBytes (imageBytes : Nat) : Nat := min imageBytes 128

/-- IMAGE_LOAD (R495, R497, R703, R710): the transfer starts; `head` holds the start of the image as the device reads it. -/
def execImageLoad (c : CmdIn) (slot imageBytes : Nat) (head : Bytes) (s : State) : Host.Outcome State Fault Refusal :=
  .next (runCmd 0x0301 (.imageLoad c slot imageBytes head) c [] s (fun cmd s =>
    let p := cmd.hdr.partition
    let x := s.partOf p
    let y := x.slot slot
    if y.state.busy then (some (fail stBusy), s)
    else if x.sealed && decide (6 < head.length) && !headSealed head then (some (fail stDenied), s)
    else
      let s := (s.openLoads.setPart p) (x.setSlot slot
        { state := .loading, loadRing := some c.ring, loadStart := s.nt, loadBytes := imageBytes, loadHead := head })
      (none, s.issueLeaf p)) (data := headBytes imageBytes) (holds := fun b => b.take (headBytes imageBytes) == head))

/-- A load's command completes, if its ring still holds it. -/
def State.finishLoad (s : State) (ring : Option Nat) (st : Status) : State :=
  match ring with
  | some r => s.complete r st
  | none => s

/-- R496: a load that fails leaves its slot EMPTY. -/
def State.failLoad (s : State) (p n : Nat) (st : Status) : State :=
  (s.emptySlot p n).finishLoad ((s.partOf p).slot n).loadRing st

/-- R498: bytes of the finished loads that started at or after an instant. -/
def Hall.loadedSince (h : Hall) (t : Nat) : Nat := ((h.loads.filter (fun e => decide (t ≤ e.1))).map (·.2)).foldl (· + ·) 0

/-- R498: a transfer can have finished: from any start on, it and the finished loads that started then or later have moved at most
48 GB/s together, which are 3 bytes in an NT unit. -/
def State.transferred (s : State) (y : ImageSlot) : Bool :=
  (y.loadStart :: s.hall.loads.map (·.1)).all (fun t =>
    decide (y.loadStart < t) || decide (s.hall.loadedSince t + y.loadBytes ≤ 3 * (s.nt - t)))

/-- R498: a transfer has finished. -/
def State.moveLoad (s : State) (y : ImageSlot) : State := { s with hall := { s.hall with loads := (y.loadStart, y.loadBytes) :: s.hall.loads } }

/-- R635, R858: the bytes that a load brings are not, or not yet, those that envelopes or a record have brought to its ring. -/
def State.loadWaits (s : State) (y : ImageSlot) (r : LoadResult) : Bool :=
  match y.loadRing with
  | none => false
  | some n => (s.cmdAt n).any (fun c => s.dataMissing n c y.loadBytes || !(s.heldData n c).all (fun b => b == r.bytes))

/-- The transfer of a slot can be complete with a result: a DMA error can end it at any time, and its bytes begin with those that the
load has read already. -/
def State.loadReady (s : State) (y : ImageSlot) (r : LoadResult) : Bool :=
  y.state == .loading && (r.dmaError ||
    (s.transferred y && !s.loadWaits y r && r.bytes.take (headBytes y.loadBytes) == y.loadHead))

/-- R496, R713: a load fails; one that fails at the authentication of a page counts it, and that one and a load that a DMA error ends
erase the plaintext that they have written. -/
def State.rejectLoad (s : State) (p n : Nat) (paged dma : Bool) (st : Status) : State :=
  let s := if paged then s.bump (Ctr.partPageReject p) else s
  (if paged || dma then s.erasePlain p n else s).failLoad p n st

/-- R495, R499: the image of a load is READY; it becomes resident where R499 makes it so. -/
def State.acceptLoad (s : State) (p n : Nat) (keys : Nat → KeyPair) (bs : Bytes) (img : Image) : State :=
  let y := (s.partOf p).slot n
  let s := (s.writeImageArea p n keys bs).writeDram p img
  let s := s.endLoad p n { state := .ready, image := some img, loadBytes := y.loadBytes }
  let s := match s.residence p n img with
    | some high => s.makeResident p n high none
    | none => s
  ((s.bump (Ctr.partImageLoads p)).issueLeaf p).finishLoad y.loadRing okStatus

/-- IMAGE_LOAD_CHECK (R495, R496, R499, R713): the transfer is complete. -/
def execImageLoadCheck (partition slot : Nat) (result : LoadResult) (s : State) : Host.Outcome State Fault Refusal :=
  .next (
    let x := s.partOf partition
    let y := x.slot slot
    let keys := x.keysAt y result.arrived
    if !s.hallFree || !s.loadReady y result then s
    else
      let s := if result.dmaError then s else s.moveLoad y
      match loadFault s x y.loadBytes keys result with
      | some st => s.rejectLoad partition slot (pageFails x y.loadBytes keys result) result.dmaError st
      | none => s.acceptLoad partition slot keys result.bytes (result.loaded keys))

/-- IMAGE_DISCARD (R497, R714): the sections of a sealed image are erased from the image area. -/
def execImageDiscard (c : CmdIn) (slot : Nat) (s : State) : Host.Outcome State Fault Refusal :=
  .next (runNow 0x0302 (.imageDiscard c slot) c [] s (fun cmd s =>
    let p := cmd.hdr.partition
    let y := (s.partOf p).slot slot
    if y.state.busy then (fail stBusy, s)
    else if y.state = .empty then (fail stNotFound, s)
    else
      let s := if (y.image.map (·.sealed_)).getD false then s.eraseHalf p slot else s
      (okStatus, (s.modSlot p slot (fun _ => {})).issueLeaf p)))

/-- Table 17-15: the area bit of a slot; `n` picks it for a context whose quarters give it areas of both kinds, which the
table does not cover. -/
def State.areaBit (s : State) (p k n : Nat) : Nat :=
  let x := s.partOf p
  if s.is4840 then
    if x.highMask = 0 then 0 else if x.highMask = x.quarters0 then 1 else Config.freeNat n % 2
  else b2n (x.slot k).high

/-- Table 17-15: one slot. -/
def State.slotReply (s : State) (p k : Nat) : Bytes :=
  let y := (s.partOf p).slot k
  let live := y.state == .armed || y.state == .running
  leBytes 2 (y.state.code + 8 * b2n y.resident + 16 * s.areaBit p k s.free) ++
    leBytes 2 (if live || y.state == .retiring then y.epoch else 0) ++ zeroBytes 4 ++ leBytes 8 (if live then y.switchNt else 0)

/-- R302: a background clear of the partition is running. -/
def Partition.clearing (x : Partition) : Bool := x.clear0.isSome || x.clear1.isSome

/-- Table 17-15. -/
def State.imageReply (s : State) (p : Nat) : Bytes :=
  let x := s.partOf p
  let gap := match x.armedEpoch with | some e => if e.staged then e.switchNt + e.gap else 0 | none => 0
  s.slotReply p 0 ++ s.slotReply p 1 ++ leBytes 2 (x.resetNow s.nt) ++ leBytes 2 (b2n x.clearing) ++ zeroBytes 4 ++ leBytes 8 gap

/-- IMAGE_QUERY. -/
def execImageQuery (c : CmdIn) (s : State) : Host.Outcome State Fault Refusal :=
  .next (runNow 0x0303 (.imageQuery c) c [] s (fun cmd s => (okReply (s.imageReply cmd.hdr.partition), s.nextFree)))

/-! ### Arming (R504 to R508) -/

/-- Table 13-8 from its second row on, for a command that arrived at NT `lead` (none where R748 leaves the lead out). -/
def State.armFault (s : State) (p n : Nat) (resident : Bool) (e t : Nat) (lead : Option Nat) : Option Status :=
  let x := s.partOf p
  let y := x.slot n
  let cur := (x.running).bind (fun r => (x.slot r.slot).image)
  let differs := fun (f : Image → Bool) => match y.image with | some img => !img.stateReset && f img | none => false
  let late := match lead with | some nt => !leadOk nt t | none => false
  let order := match x.running with | some r => !serialLt r.number e | none => false
  if late then some (badParam 40)
  else if order then some (badParam 34)
  else if y.state = .empty then some (fail stNotFound)
  else if y.state ≠ .ready then some (fail stConflict)
  else if (x.slotIn .armed).isSome then some (fail stBusy)
  else if differs (fun img => match cur with | some c => img.windows != c.windows | none => false) then some (fail stConflict)
  else if differs (fun img => match cur with | some c => img.stateLayoutId != c.stateLayoutId | none => false) then
    some (fail stConflict)
  else if (match y.image with | some img => img.stateReset && x.clearing | none => false) then some (fail stBusy)
  else if resident && !y.resident then some (fail stConflict)
  else none

/-- R505, R508: the slot is armed at instant `at_`. -/
def State.arm (s : State) (p n e t at_ : Nat) : State :=
  let x := s.partOf p
  let y := x.slot n
  let gap := if y.resident then 0 else 4000 * s.deadlineCount p at_ + 960000 * x.quarterCount 0
  let s := s.setPart p (x.setSlot n { y with
    state := .armed, epoch := e, switchNt := t, staged := !y.resident, gap := gap, swapVerdicts := 0 })
  (if y.resident then s.tagControls p n (some e) else s).issueLeaf p

/-- R506, R513: the armed slot returns to READY. -/
def State.disarm (s : State) (p : Nat) : State :=
  match (s.partOf p).slotIn .armed with
  | none => s
  | some n =>
    let y := (s.partOf p).slot n
    let s := s.modSlot p n (fun y => { y with state := .ready, epoch := 0, switchNt := 0, staged := false, gap := 0 })
    let s := if y.resident then s.tagControls p n none else s
    (s.bump (Ctr.partEpochCancelled p)).issueLeaf p

/-- R506: the conditions of EPOCH_CANCEL. -/
def State.cancelFault (s : State) (p : Nat) (lead : Option Nat) : Option Status :=
  match (s.partOf p).armedEpoch with
  | none => some (fail stNotFound)
  | some e =>
    match lead with
    | some nt => if e.switchNt < nt + 5 * ms then some (fail stConflict) else none
    | none => none

/-! ### Rollouts by command (R482) -/

/-- R482: model slots of an image that have a rollout graph. -/
def Image.rolloutSlots (img : Image) : List Nat := (img.slots.filter (fun e => e.2.rollsOut)).map (·.1)

/-- R482: the block of a handle as a rollout reads it; an uncorrectable block is read as the initial state (R308). -/
def State.rolloutInput (s : State) (p h gen : Nat) (e : Epoch) (img : Image) : Bytes × State :=
  if s.blockBad p h then
    (initialBlock img e.number h gen (s.partOf p).blockBytes, (s.setStickyIn (1 + hWing h) 128).setStickyIn (1 + hWing h) 131)
  else (s.readBlock p h, s)

/-- ROLLOUT_START (R477, R482): which model slot's graph runs when several have one, the manual leaves open. -/
def execRolloutStart (c : CmdIn) (handle : Nat) (s : State) : Host.Outcome State Fault Refusal :=
  .next (
    let w := hWing handle
    let bad := [(decide (67108864 ≤ handle) || s.wingBad w || (hOverflow handle && decide (overflowN ≤ hSlot handle)), 0)]
    if !s.wingFree w then s
    else runNow 0x0306 (.rolloutStart c handle) c bad s (fun cmd s =>
      let p := cmd.hdr.partition
      let x := s.partOf p
      let m := s.entryAt handle
      let mine := if hOverflow handle then m.partition == p else x.ownsBucket w (hBucket handle)
      if !mine || !m.valid then (fail stNotFound, s)
      else
        match (x.running).bind (fun r => (x.image r.slot).map (fun i => (r, i))) with
        | none => (fail stNoFeature, s)
        | some (r, img) =>
          match img.rolloutSlots with
          | [] => (fail stNoFeature, s)
          | k :: ks =>
            let slots := k :: ks
            let slot := (slots[Config.freeNat s.free % slots.length]?).getD k
            let b := s.nextFree.rolloutInput p handle m.gen r img
            let s := b.2.bump (ctrOnWing w (Ctr.partRolloutStarted p))
            let x := s.partOf p
            if 256 ≤ (x.rollouts.filter (fun q => q.wing == w)).length then
              (okStatus, s.bump (ctrOnWing w (Ctr.partRolloutDropped p)))
            else
              (okStatus, s.setPart p { x with rollouts := x.rollouts ++
                [{ wing := w, fromCommand := true, tag := 0, modelSlot := slot, epoch := r.number, handle := handle
                   entryGen := m.gen, block := b.1, startNt := s.nt }] })))

/-! ### The switch (R502, R507 to R509, R514, R519) -/

/-- Table 13-9 behind its header. -/
def epochBody (epoch p : Nat) (retired staged : Bool) (slot swaps switchNt eventNt : Nat) : Bytes :=
  leBytes 2 epoch ++ leBytes 2 (p % 16 + 16 * b2n retired + 32 * b2n staged + 64 * slot) ++ leBytes 4 swaps ++ leBytes 8 switchNt ++
    leBytes 8 eventNt

/-- R514: an EPOCH record goes to the partition's epoch queue. -/
def State.epochRecord (s : State) (p : Nat) (body : Bytes) : State :=
  s.record p (s.partSetting 0x1006 p) (s.partSetting 0x1007 p) 6 body

/-- R510: queued rollouts of epochs other than `e` are discarded. -/
def State.discardRollouts (s : State) (p e : Nat) : State :=
  let x := s.partOf p
  let old := x.rollouts.filter (fun r => r.batch.isNone && r.epoch != e)
  let s := s.setPart p { x with rollouts := x.rollouts.filter (fun r => !(r.batch.isNone && r.epoch != e)) }
  old.foldl (fun s r => s.bump (ctrOnWing r.wing (Ctr.partRolloutDiscarded p))) s

/-- R303: E_r precedes an epoch by more than 24,576. -/
def walkDue (reset e : Nat) : Bool := let d := (e + 65536 - reset % 65536) % 65536; inR d 24577 32767

/-- R298, R303, R504, R519: what a switch does to the reset epoch, the clear and the walk. -/
def Partition.resetAt (x : Partition) (e : Nat) (t : Nat) (stateReset wing1 : Bool) : Partition :=
  let first := x.epochs.isEmpty
  let x := if first then { x with resetEpoch := e, firstSwitch := some t } else x
  if stateReset then { x with resetEpoch := e, clear0 := some 0, clear1 := if wing1 then some 0 else none }
  else if walkDue x.resetEpoch e && x.walk0.isNone && x.walk1.isNone then
    { x with walkTo := (e + 65536 - 8192) % 65536, walk0 := some 0, walk1 := if wing1 then some 0 else none }
  else x

/-- The slots of a partition once slot `n` starts to run. -/
def Partition.startRun (x : Partition) (n : Nat) : Partition :=
  let x := match x.slotIn .running with
    | some m => x.setSlot m { x.slot m with state := .retiring }
    | none => x
  x.setSlot n { x.slot n with state := .running }

/-- EPOCH_SWITCH (R502, R514, R519): the armed epoch's switch instant has come. -/
def execEpochSwitch (partition : Nat) (s : State) : Host.Outcome State Fault Refusal :=
  .next (
    let x := s.partOf partition
    match x.slotIn .armed, x.armedEpoch with
    | some n, some e =>
      if s.nt < e.switchNt || !s.hallFree then s
      else
        let reset := ((x.slot n).image.map (·.stateReset)).getD false
        let x := x.resetAt e.number e.switchNt reset (decide (s.wings = 2))
        let x := x.startRun n
        let x := { x with
          epochs := e :: x.epochs
          fill := if e.staged then
              some { slot := n, epoch := e.number, wavesLeft := x.quarterCount 0, started := false } else x.fill }
        let s := (s.setPart partition x).bump (Ctr.partEpochSwitches partition)
        let s := match (x.slot n).image with
          | some img => s.placeWindows partition img
          | none => s
        let s := if e.staged then
            (s.bump (Ctr.partEpochStaged partition)).discardRollouts partition e.number else s
        (s.epochRecord partition (epochBody e.number partition false e.staged n 0 e.switchNt (e.switchNt + e.gap))).issueLeaf partition
    | _, _ => s)

/-! ### Drains, staged fills and retirement (R510 to R514) -/

/-- A packet of a partition stamped before `t` has not committed, or a slot stamped before `t` waits for the Porch or can still
arrive. -/
def State.owes (s : State) (p t : Nat) : Bool :=
  let old := fun (k : Packet) => k.partition == p && decide (k.slot.at_ < t)
  s.arrives t || s.hall.tokens.any old ||
    [s.wing0, s.wing1].any (fun x => (mget [] x.queues p).any old || x.stairs.any (fun y => old y.pkt))

/-- A batch of a partition on either Wing meets a test. -/
def State.anyBatch (s : State) (p : Nat) (f : Batch → Bool) : Bool :=
  [s.wing0, s.wing1].any (fun x => x.batches.any (fun e => e.2.partition == p && f e.2))

/-- STAGED_FILL_START (R510, R511): the fill begins; the former image is no longer resident. -/
def execStagedFillStart (partition : Nat) (s : State) : Host.Outcome State Fault Refusal :=
  .next (
    let x := s.partOf partition
    match x.fill with
    | none => s
    | some f =>
      let t := (x.slot f.slot).switchNt
      if !s.hallFree || f.started || s.owes partition t || s.anyBatch partition (fun b => b.graph == .rollout && b.epoch != f.epoch) then s
      else
        let s := s.modSlot partition (1 - f.slot) (fun y => { y with resident := false })
        let s := s.modSlot partition f.slot (fun y => { y with high := false })
        s.modPart partition (fun x => { x with fill := some { f with started := true, waveStart := s.nt } }))

/-- R510: the least length of a wave in NT units: 2 µs and 128 bytes in a tile cycle, 16 ÷ 1.25 or 16 units long (Table
01-6). -/
def State.waveLength (s : State) (p n k : Nat) : Nat :=
  let x := s.partOf p
  let sizes := (s.quarterTiles p k).map (fun i =>
    match (x.slot n).image.bind (fun img => x.tileImage img i) with
    | some t => (t.fill.map (fun f => f.2.length)).foldl (· + ·) 0
    | none => 0)
  let cycles := (sizes.foldl max 0 + 127) / 128
  32000 + (if s.part == .ikf4880_10 then 16 * cycles else (64 * cycles + 4) / 5)

/-- FILL_WAVE_END (R510): a wave has copied its quarter of each Wing; the last one ends the fill. -/
def execFillWaveEnd (partition : Nat) (s : State) : Host.Outcome State Fault Refusal :=
  .next (
    let x := s.partOf partition
    match x.fill with
    | none => s
    | some f =>
      let k := x.quarterCount 0 - f.wavesLeft
      if !s.hallFree || !f.started || f.wavesLeft = 0 || s.nt < f.waveStart + s.waveLength partition f.slot k then s
      else
        let s := (s.quarterTiles partition k).foldl (fun s i => s.placeTile partition f.slot (some f.epoch) i) s
        if f.wavesLeft = 1 then
          (s.modSlot partition f.slot (fun y => { y with resident := true })).modPart partition (fun x => { x with fill := none })
        else s.modPart partition (fun x => { x with fill := some { f with wavesLeft := f.wavesLeft - 1, waveStart := s.nt } }))

/-- R514: every packet of a partition stamped before the gap end has had its record emitted. -/
def State.gapAnswered (s : State) (p t : Nat) : Bool :=
  decide (t ≤ s.nt) && !s.arrives t &&
    !s.hall.pends.any (fun e => e.partition == p && !e.emitted && decide (e.slot.at_ < t))

/-- R514: the RETIRED record that waits is written once the gap has been answered. -/
def State.payRetired (s : State) (p : Nat) : State :=
  let x := s.partOf p
  match x.owed with
  | none => s
  | some o =>
    if s.gapAnswered p o.gapEnd then
      (s.setPart p { x with owed := none }).epochRecord p
        (epochBody o.epoch p true true o.slot (x.slot o.by_).swapVerdicts o.switchNt o.nt)
    else s

/-- R512, R514: the former epoch's slot returns to READY. -/
def State.retireEpoch (s : State) (p n : Nat) (r : Epoch) : State :=
  let x := s.partOf p
  let y := x.slot n
  let x' := { x with epochs := x.epochs.filter (fun e => e.number != y.epoch) }
  let s := s.setPart p (x'.setSlot n { y with state := .ready, epoch := 0, switchNt := 0, staged := false, gap := 0 })
  let s := (if y.resident then s.tagControls p n none else s).issueLeaf p
  if r.staged then
    let due : Retired :=
      { epoch := y.epoch, slot := n, by_ := r.slot, switchNt := r.switchNt, gapEnd := r.switchNt + r.gap, nt := s.nt }
    s.modPart p (fun x => { x with owed := some due })
  else s.epochRecord p (epochBody y.epoch p true false n 0 r.switchNt s.nt)

/-- EPOCH_RETIREMENT (R512, R514): every packet and rollout of the former epoch has ended, or a RETIRED record that waits can be
written. -/
def execEpochRetirement (partition : Nat) (s : State) : Host.Outcome State Fault Refusal :=
  .next (
    if !s.hallFree then s
    else
      let s := s.payRetired partition
      let x := s.partOf partition
      match x.slotIn .retiring, x.running with
      | some n, some r =>
        let e := (x.slot n).epoch
        if s.owes partition r.switchNt || x.rollouts.any (fun q => q.epoch == e) || s.anyBatch partition (fun b => b.epoch == e) ||
            x.owed.isSome then s
        else (s.retireEpoch partition n r).payRetired partition
      | _, _ => s)

/-! ### The background clear and the epoch walk (R298 to R304) -/

/-- Blocks of a partition's buckets on a Wing. -/
def Partition.bucketBlocks (x : Partition) : Nat := 4 * 2 ^ x.shareLog2

/-- R298: the handle of the first block at or after place `k`, and the place behind it; none at the end. -/
def State.blockAfter (s : State) (w p k : Nat) : Option (Nat × Nat) :=
  let x := s.partOf p
  let n := x.bucketBlocks
  if k < n then some (4 * x.shareBase w + k + 33554432 * w, k + 1)
  else
    let left := ((s.wing w).overflow.filter (fun e => e.2.valid && e.2.partition == p && decide (k - n ≤ e.1))).map (·.1)
    (left.min?).map (fun i => (ovHandle w i, n + i + 1))

/-- A packet of an epoch that precedes `e` is in a Wing's Stairwell. -/
def State.earlierInside (s : State) (w p e : Nat) : Bool :=
  (s.wing w).stairs.any (fun y => y.pkt.partition == p && serialLt y.pkt.epoch e)

/-- A block takes the defaults of Table 07-5 (R298, R300). -/
def State.defaultBlock (s : State) (p h : Nat) : State :=
  (s.writeBlock p h (zeroBytes (s.partOf p).blockBytes)).uncache p h

/-- R299, R303, R817: the read of a block's header by the clear or the walk: `bad` names the word of the block that it finds
uncorrectable, and a header that was lost before is reported by this read too. Answers whether the header is lost. -/
def State.readHeader (s : State) (p h : Nat) (bad : Option Nat) : State × Bool :=
  let s := match bad with | some j => s.poisonWord p h j | none => s
  if s.wordBad p h 0 then (s.setStickyIn (1 + hWing h) 128, true) else (s, false)

/-- Place of a Wing's clear or walk. -/
def Partition.clearAt (x : Partition) (w : Nat) : Option Nat := if w = 0 then x.clear0 else x.clear1
def Partition.walkAt (x : Partition) (w : Nat) : Option Nat := if w = 0 then x.walk0 else x.walk1
def Partition.setClear (x : Partition) (w : Nat) (k : Option Nat) : Partition :=
  if w = 0 then { x with clear0 := k } else { x with clear1 := k }
def Partition.setWalk (x : Partition) (w : Nat) (k : Option Nat) : Partition :=
  if w = 0 then { x with walk0 := k } else { x with walk1 := k }

/-- BACKGROUND_CLEAR (R298 to R301): the clear visits its next block of a Wing. -/
def execBackgroundClear (wing partition : Nat) (bad : Option Nat) (s : State) : Host.Outcome State Fault Refusal :=
  .next (
    let x := s.partOf partition
    match x.clearAt wing with
    | none => s
    | some k =>
      if !s.wingFree wing || (k == 0 && s.earlierInside wing partition (x.resetNow s.nt)) then s
      else
        match s.blockAfter wing partition k with
        | none => s
        | some (h, next) =>
          let r := s.readHeader partition h bad
          let s := r.1.modPart partition (fun x => x.setClear wing (some next))
          if r.2 || serialLt (leAt (s.readBlock partition h) 4 2) (x.resetNow s.nt) then
            (s.defaultBlock partition h).bump (Ctr.pwClearBlocks (pwIx wing partition))
          else s)

/-- R302: a Wing's clear has visited every block. -/
def State.clearDone (s : State) (w p : Nat) : Bool :=
  match (s.partOf p).clearAt w with
  | some k => (s.blockAfter w p k).isNone
  | none => true

/-- BACKGROUND_CLEAR_END (R302): the clear has ended on every Wing. -/
def execBackgroundClearEnd (partition : Nat) (s : State) : Host.Outcome State Fault Refusal :=
  .next (
    if (s.partOf partition).clearing && s.clearDone 0 partition && s.clearDone 1 partition && s.hallFree then
      s.modPart partition (fun x => { x with clear0 := none, clear1 := none })
    else s)

/-- R303: a live block's epoch field is raised. -/
def State.raiseEpoch (s : State) (p h f : Nat) : State :=
  let b := s.readBlock p h
  (s.writeBlock p h (b.take 4 ++ leBytes 2 f ++ slice b 6 58)).uncache p h

/-- EPOCH_WALK (R303): the walk visits its next block of a Wing. -/
def execEpochWalk (wing partition : Nat) (bad : Option Nat) (s : State) : Host.Outcome State Fault Refusal :=
  .next (
    let x := s.partOf partition
    match x.walkAt wing with
    | none => s
    | some k =>
      let e := (x.walkTo + 8192) % 65536
      if !s.wingFree wing || (k == 0 && s.earlierInside wing partition e) then s
      else
        match s.blockAfter wing partition k with
        | none => s
        | some (h, next) =>
          let r := s.readHeader partition h bad
          let s := r.1.modPart partition (fun x => x.setWalk wing (some next))
          let b := s.readBlock partition h
          let old := leAt b 4 2
          let count := fun (s : State) => s.bump (Ctr.pwWalkBlocks (pwIx wing partition))
          if r.2 then count (s.defaultBlock partition h)
          else if !bitOf (leAt b 7 1) 0 then s
          else if serialLt old (x.resetNow s.nt) then count (s.defaultBlock partition h)
          else if serialLt old x.walkTo then count (s.raiseEpoch partition h x.walkTo)
          else s)

/-- The walk of a Wing has visited every block. -/
def State.walkDone (s : State) (w p : Nat) : Bool :=
  match (s.partOf p).walkAt w with
  | some k => (s.blockAfter w p k).isNone
  | none => true

/-- EPOCH_WALK_END (R304): the walk has ended on every Wing. -/
def execEpochWalkEnd (partition : Nat) (s : State) : Host.Outcome State Fault Refusal :=
  .next (
    let x := s.partOf partition
    if (x.walk0.isSome || x.walk1.isSome) && s.walkDone 0 partition && s.walkDone 1 partition && s.hallFree then
      s.setPart partition { x with
        walk0 := none, walk1 := none, resetEpoch := if serialLt x.resetEpoch x.walkTo then x.walkTo else x.resetEpoch }
    else s)

end Sys2Proof.Machine
end

