-- ==== Sys2Proof/Machine/Management.lean ====
section
/-!
DEFINITION. Machine/Management.lean: the management ports, their bridge, and DTLS associations (R854 to R859).
-/
namespace Sys2Proof.Machine

/-- The management ports run: the Hearth firmware has started and the device is not the recovery endpoint. -/
def State.mgmtUp (s : State) : Bool := !s.dead && !s.boot.recovery && s.boot.stageOne

/-! ### Associations (R856, R857) -/

/-- The first free operator slot of the four. -/
def State.freeAssoc (s : State) : Option Nat := [0, 1, 2, 3].find? (fun n => (mfind s.boot.assocs n).isNone)

/-- An association opens. -/
def State.openAssoc (s : State) (n : Nat) (relay : Bool) : State :=
  { s with boot := { s.boot with assocs := mput s.boot.assocs n { relay := relay, lastNt := s.nt } } }

/-- R856, R857: which slot a client that has authenticated takes: `anchor` is the trust anchor that its certificate chains to,
`serial` the device that its link leaf chain names. -/
def State.assocSlot (s : State) (anchor serial : Option Nat) : Option (Nat × Bool) :=
  let operator := match anchor with | some a => s.boot.anchors.contains a | none => false
  let relay := match serial with | some d => s.boot.acceptedFrom == some d | none => false
  if operator then s.freeAssoc.map (fun n => (n, false))
  else if relay && (mfind s.boot.assocs 4).isNone then some (4, true)
  else none

/-- DTLS_HANDSHAKE (R856, R857): a client has authenticated: it is an operator or the relay, or the handshake is closed. -/
def execDtlsHandshake (anchor linkSerial : Option Nat) (s : State) : Host.Outcome State Fault Refusal :=
  .next (s.whenFree (
    if !s.mgmtUp then s
    else
      match s.assocSlot anchor linkSerial with
      | some x => s.openAssoc x.1 x.2
      | none => s.bump Ctr.hallAssocRejected))

/-- ASSOCIATION_IDLE (R857): an association that has carried no record for 300 s closes, and its session with it. -/
def execAssociationIdle (assoc : Nat) (s : State) : Host.Outcome State Fault Refusal :=
  .next (s.whenFree (
    match mfind s.boot.assocs assoc with
    | none => s
    | some a =>
      if decide (s.nt < a.lastNt + 300 * sec1) then s
      else
        let s := s.cutRing (4096 + assoc)
        { s with boot := { s.boot with assocs := mdel s.boot.assocs assoc } }))

/-! ### Command records (R858, R859) -/

/-- R643, R858: the command of a record: the header, its parameters and the data behind them, which fill the record; one of more than
16,384 bytes fails (Table 23-12). -/
def recordCmd (r : Bytes) (fn nt order : Nat) : Cmd :=
  let fills := decide (r.length ≤ 16384) && r.length == 32 + leAt r 0x0C 4
  let h := readHeader r (if fills then [] else [0x0C])
  let size := ((opInfo h.opcode).map (·.size)).getD 0
  { hdr := h, fn := fn, fetchNt := nt, order := order, started := false, params := some (slice r 32 size), inline := r.drop (32 + size) }

/-- R859: a record's command starts on its association. -/
def State.startRecord (s : State) (n : Nat) (r : Bytes) : State :=
  let c := recordCmd r (9 + n) s.nt s.host.orderCtr
  let s := { s with host := { s.host with orderCtr := s.host.orderCtr + 1 } }
  (s.modAssoc n (fun a => { a with running := some c, lastRecord := r, keptReply := none })).checkHead (4096 + n) c

/-- R859: the newest command that an association has taken. -/
def Assoc.lastTaken (a : Assoc) : Bytes := (a.waitingRecs.getLast?).getD a.lastRecord

/-- R859: a repeated record is answered with the kept reply, once there is one. -/
def State.repeatReply (s : State) (n : Nat) (a : Assoc) : State :=
  match a.waitingRecs, a.keptReply with
  | [], some (st, op) => s.emit (.mgmtReply n op st.status st.detail st.info st.reply)
  | _, _ => s

/-- R859: a record arrives on an association. -/
def State.takeRecord (s : State) (n : Nat) (a : Assoc) (r : Bytes) : State :=
  let s := s.modAssoc n (fun a => { a with lastNt := s.nt })
  if a.lastTaken = r then s.repeatReply n a
  else if a.running.isNone && a.waitingRecs.isEmpty then s.startRecord n r
  else if a.waitingRecs.length < 4 then s.modAssoc n (fun a => { a with waitingRecs := a.waitingRecs ++ [r] })
  else s.bump Ctr.hallRecordsDiscarded

/-- COMMAND_RECORD (R857 to R859): a record arrives on an association; with none, the oldest waiting record starts once the
association runs no command. -/
def execCommandRecord (assoc : Nat) (rec : Option Bytes) (s : State) : Host.Outcome State Fault Refusal :=
  .next (s.whenFree (
    match mfind s.boot.assocs assoc with
    | none => s
    | some a =>
      if !s.mgmtUp then s
      else
        match rec, a.waitingRecs with
        | some r, _ => s.takeRecord assoc a r
        | none, [] => s
        | none, r :: rest =>
          if a.running.isSome then s
          else (s.modAssoc assoc (fun a => { a with waitingRecs := rest })).startRecord assoc r))

/-! ### The bridge (R854, R855) -/

/-- R854: the address of a management port. -/
def State.portMac (s : State) (port : Nat) : Bytes := s.srcMac (48 + port)

/-- R854: the link-local address: the modified EUI-64 of base_mac + 48 under fe80::/64. -/
def State.linkLocal (s : State) : Bytes :=
  let m := s.portMac 0
  let first := BitVec.ofNat 8 (beAt m 0 1) ^^^ 0x02#8
  beBytes 2 0xFE80 ++ zeroBytes 6 ++ [first] ++ slice m 1 2 ++ beBytes 2 0xFFFE ++ slice m 3 3

/-- ff02::1. -/
def allNodes : Bytes := beBytes 2 0xFF02 ++ zeroBytes 13 ++ [1]

/-- An untagged IPv6 packet with the given next header. -/
def isIpv6 (next : Nat) (f : Bytes) : Bool :=
  decide (54 ≤ f.length) && beAt f 12 2 == 0x86DD && beAt f 14 1 / 16 == 6 && beAt f 20 1 == next

/-- R852, R855: a relay datagram to ff02::1 with hop limit 255. -/
def isRelay (f : Bytes) : Bool := isIpv6 17 f && slice f 38 16 == allNodes && beAt f 21 1 == 255 && beAt f 56 2 == 7401

/-- BRIDGE_FRAME (R855): a frame received on one port leaves by the other. -/
def execBridgeFrame (port : Nat) (frame : Bytes) (s : State) : Host.Outcome State Fault Refusal :=
  .next (s.whenFree (
    if !s.mgmtUp then s
    else if frame.take 6 = s.portMac 0 ∨ frame.take 6 = s.portMac 1 ∨ isRelay frame then s
    else (s.emit (.mgmtFrame (1 - port) frame)).bump Ctr.hallFramesBridged))

/-! ### Neighbour discovery and echo (R854; RFC 4861 and RFC 4443 are PRESUMED, log entry 44) -/

/-- The one's complement sum of an ICMPv6 message and its pseudo-header. -/
def icmpSum (src dst msg : Bytes) : Nat :=
  let b := src ++ dst ++ beBytes 4 msg.length ++ beBytes 4 58 ++ msg
  fold16 8 (sum16 b.length b)

/-- The frame of an ICMPv6 message of a type, code 0, with its body. -/
def State.icmpFrame (s : State) (port : Nat) (mac dst : Bytes) (hop type : Nat) (body : Bytes) : Bytes :=
  let msg := fun (sum : Nat) => beBytes 1 type ++ zeroBytes 1 ++ beBytes 2 sum ++ body
  padFrame (mac ++ s.portMac port ++ beBytes 2 0x86DD ++ beBytes 4 0x60000000 ++ beBytes 2 (4 + body.length) ++
    beBytes 1 58 ++ beBytes 1 hop ++ s.linkLocal ++ dst ++ msg (65535 - icmpSum s.linkLocal dst (msg 0)))

/-- The source link-layer address among the options of a solicitation; the flag says that the options are well formed. -/
def sourceMac : Nat → Bytes → Option Bytes × Bool
  | 0, bs => (none, bs.isEmpty)
  | n + 1, bs =>
    if bs.isEmpty then (none, true)
    else
      let len := 8 * beAt bs 1 1
      if len = 0 ∨ bs.length < len then (none, false)
      else
        let rest := sourceMac n (bs.drop len)
        if beAt bs 0 1 = 1 ∧ len = 8 then (some (slice bs 2 6), rest.2) else rest

/-- What a frame asks of the device: its ICMPv6 message, when the checksum holds. -/
def icmpOf (f : Bytes) : Option Bytes :=
  let msg := slice f 54 (beAt f 18 2)
  if isIpv6 58 f && msg.length == beAt f 18 2 && decide (8 ≤ msg.length) && icmpSum (slice f 22 16) (slice f 38 16) msg == 65535
  then some msg else none

/-- A neighbour solicitation for the device's address: the advertisement that answers it. -/
def State.advertise (s : State) (port : Nat) (f msg : Bytes) : Option Bytes :=
  let src := slice f 22 16
  let anon := decide (src = zeroBytes 16)
  let o := sourceMac msg.length (msg.drop 24)
  let solicited := beBytes 2 0xFF02 ++ zeroBytes 9 ++ [1, 0xFF] ++ s.linkLocal.drop 13
  if beAt f 21 1 ≠ 255 ∨ beAt msg 1 1 ≠ 0 ∨ msg.length < 24 ∨ slice msg 8 16 ≠ s.linkLocal ∨ o.2 = false then none
  else if anon && (slice f 38 16 != solicited || o.1.isSome) then none
  else
    let body := fun (flags : Nat) => beBytes 4 flags ++ s.linkLocal ++ [2, 1] ++ s.portMac port
    if anon then some (s.icmpFrame port (beBytes 6 0x333300000001) allNodes 255 136 (body 0x20000000))
    else some (s.icmpFrame port (o.1.getD (slice f 6 6)) src 255 136 (body 0x60000000))

/-- NEIGHBOUR_DISCOVERY (R854): the device answers a neighbour solicitation for its link-local address, and an ICMPv6 echo to
it. The hop limit of an echo reply is a free value. -/
def execNeighbourDiscovery (port : Nat) (frame : Bytes) (s : State) : Host.Outcome State Fault Refusal :=
  .next (s.whenFree (
    if !s.mgmtUp then s
    else
      match icmpOf frame with
      | none => s
      | some msg =>
        if beAt msg 0 1 = 135 then
          match s.advertise port frame msg with
          | some f => s.emit (.mgmtFrame port f)
          | none => s
        else if beAt msg 0 1 = 128 ∧ beAt msg 1 1 = 0 ∧ (slice frame 38 16 = s.linkLocal ∨ slice frame 38 16 = allNodes) then
          (s.emit (.mgmtFrame port
            (s.icmpFrame port (slice frame 6 6) (slice frame 22 16) (1 + Config.freeNat s.free % 255) 129 (msg.drop 4)))).nextFree
        else s))

end Sys2Proof.Machine
end

