-- ==== Sys2Proof/Machine/Rules.lean ====
section
/-!
DEFINITION. Machine/Rules.lean: rules and their banks (R143 to R154, Tables 04-6, 17-11, 17-12). RULE_WRITE and RULE_BANK_ARM stand
in Machine/Mirror.lean.
-/
namespace Sys2Proof.Machine

/-- Table 04-4: reserved bits of a key: offset, first bit and width; the inner group lies 0x30 behind the outer one. -/
def keyReserved : List (Nat × Nat × Nat) :=
  [(0x00, 6, 2), (0x06, 7, 1), (0x07, 0, 8), (0x19, 0, 8), (0x47, 5, 3), (0x4A, 4, 4), (0x4B, 0, 8), (0x77, 5, 3), (0x7A, 4, 4),
   (0x7B, 0, 8)]

/-- R11, Tables 04-4 and 04-6: fields of a rule's result that are out of range or reserved, and reserved bits of its value, at
their offsets in RULE_WRITE. -/
def Rule.bad (r : Rule) (parts : Nat) : List (Bool × Nat) :=
  let v := r.result.toNat
  [ (!decide (r.partition < parts), 0x08)
  , (decide (1 < r.keyMode) || bitsOf v 10 6 != 0, 0x09)
  , (bitsOf v 32 8 != 0, 0x0C), (bitsOf v 40 8 != 0, 0x0D), (bitsOf v 48 8 != 0, 0x0E), (bitsOf v 56 8 != 0, 0x0F) ] ++
  keyReserved.map (fun e => (bitsOf r.value.toNat (8 * e.1 + e.2.1) e.2.2 != 0, 0x10 + e.1))

/-- R146: another valid rule of either bank gives the partition another key mode. -/
def State.keyModeClash (s : State) (bank index : Nat) (r : Rule) : Bool :=
  r.valid && [0, 1].any (fun b => ((s.bank b).rules).any (fun e =>
    !(b == bank && e.1 == index) && e.2.valid && e.2.partition == r.partition && e.2.keyMode != r.keyMode))

/-- The conditions of RULE_WRITE (R146, R152, R154). -/
def State.ruleFault (s : State) (bank index : Nat) (r : Rule) : Option Status :=
  if s.hall.armedSwap.isSome then some (fail stBusy)
  else if s.keyModeClash bank index r then some (fail stConflict)
  else s.bankFault bank

/-- A rule that holds its reset contents (Table 04-6). -/
def noRule : Rule := { value := 0, mask := 0, result := 0 }

/-- R148, R149: a bank whose rule is written in the Hall cycle of `nt`. -/
def RuleBank.write (b : RuleBank) (nt index : Nat) (r : Rule) : RuleBank :=
  { rules := mput b.rules index r, former := some (nt, b.rulesAt nt) }

/-- R148: a rule is written. -/
def State.writeRule (s : State) (bank index : Nat) (r : Rule) : State :=
  let put := fun (b : RuleBank) => b.write s.nt index r
  { s with hall := if bank = 0 then { s.hall with bank0 := put s.hall.bank0 } else { s.hall with bank1 := put s.hall.bank1 } }

/-- RULE_READ: the parameters of RULE_WRITE. -/
def execRuleRead (c : CmdIn) (bank index : Nat) (s : State) : Host.Outcome State Fault Refusal :=
  .next (runRead 0x0208 (.ruleRead c bank index) c [] s (fun _ s =>
    let r := (mfind (s.bank bank).rules index).getD noRule
    okReply (leBytes 2 bank ++ leBytes 2 index ++ zeroBytes 4 ++ leBytes 8 r.result.toNat ++ leBytes 128 r.value.toNat ++
      leBytes 128 r.mask.toNat)))

/-- R150: the conditions of RULE_BANK_ARM, for a command that arrived at NT `lead`. -/
def State.bankArmFault (s : State) (t : Nat) (lead : Option Nat) : Option Status :=
  match s.instantFault with
  | some st => some (fail st)
  | none =>
    if (match lead with | some nt => !leadOk nt t | none => false) then some (badParam 32)
    else if s.hall.armedSwap.isSome then some (fail stBusy)
    else none

/-- RULE_BANK_QUERY (Table 17-12). -/
def execRuleBankQuery (c : CmdIn) (s : State) : Host.Outcome State Fault Refusal :=
  .next (runRead 0x020A (.ruleBankQuery c) c [] s (fun _ s =>
    okReply (leBytes 8 (s.hall.activeBank + 2 * b2n s.hall.armedSwap.isSome) ++ leBytes 8 (s.hall.armedSwap.getD 0))))

/-- BANK_SWAP (R151, R153): the armed swap's instant has come. -/
def execBankSwap (s : State) : Host.Outcome State Fault Refusal :=
  .next (s.whenFree (
    match s.hall.armedSwap with
    | none => s
    | some t =>
      if decide (s.nt < t) then s
      else
        ({ s with hall := { s.hall with activeBank := 1 - s.hall.activeBank, armedSwap := none, swaps := t :: s.hall.swaps } }).bump
          Ctr.hallPorchBankSwap))

end Sys2Proof.Machine
end

