-- ==== Sys2Proof/Machine/Scrubs.lean ====
section
/-!
DEFINITION. Machine/Scrubs.lean: RELEASE and ZEROISE scrubs of a partition or context in their phases (R723 to R726), and the
internal-scan instruction that waits for them (R721).
-/
namespace Sys2Proof.Machine

/-! ### Close (R723) -/

/-- R703, R723: a running IMAGE_LOAD completes with ST_SCRUBBING. -/
def State.stopLoad (s : State) (p n : Nat) : State :=
  let y := (s.partOf p).slot n
  if y.state = .loading then ((s.endLoad p n {}).issueLeaf p).finishLoad y.loadRing (fail stScrubbing) else s

/-- R723: the running reads of a report queue that have selected nothing complete with ST_SCRUBBING. -/
def State.stopReads (s : State) (p q : Nat) : State :=
  let x := s.rq p q
  let keep := if x.recs.any (fun r => r.selected) then x.reads.take 1 else []
  let gone := x.reads.drop keep.length
  if gone.isEmpty then s
  else gone.foldl (fun s r => s.complete r.ring (fail stScrubbing)) (s.setRq p q { x with reads := keep })

/-- R723: the locks on a share's buckets are released; one whose unlock has passed its checks ends at its instant (R744). -/
def State.stopLocks (s : State) (p w : Nat) : State :=
  let mine := (s.wing w).locks.filter (fun e => (s.partOf p).ownsBucket w e.1 && e.2.unlocking.isNone)
  mine.foldl (fun s e => s.releaseLock w e.1) s

/-- R723: phase 1 of a scrub begins at instant `at_`. -/
def State.beginScrub (s : State) (p at_ : Nat) (ring : Option Nat) (zeroise : Bool) : State :=
  let s := s.disarm p
  let s := [0, 1].foldl (fun s n => s.stopLoad p n) s
  let scrub : Scrub := { zeroise := zeroise, phase := .drain, start := at_, ring := ring }
  let s := s.modPart p (fun x => { x with
    state := .scrubbing, scrub := some scrub, rollouts := x.rollouts.filter (fun r => r.batch.isSome) })
  let s := [0, 1, 2, 3].foldl (fun s q => s.stopReads p q) s
  let s := (List.range s.wings).foldl (fun s w => s.stopLocks p w) s
  s.tdispFail (s.fnOf p)

/-- The partition is in a phase of its scrub. -/
def State.scrubIn (s : State) (p : Nat) (ph : ScrubPhase) : Option Scrub :=
  match (s.partOf p).scrub with
  | some x => if x.phase = ph then some x else none
  | none => none

/-- A scrub moves to another phase. -/
def State.setPhase (s : State) (p : Nat) (ph : ScrubPhase) : State :=
  s.modPart p (fun x => { x with scrub := x.scrub.map (fun y => { y with phase := ph }) })

/-- SCRUB_DRAIN (R723): every packet stamped before S has committed and every batch has ended. -/
def execScrubDrain (partition : Nat) (s : State) : Host.Outcome State Fault Refusal :=
  .next (
    match s.scrubIn partition .drain with
    | none => s
    | some x =>
      if !s.hallFree || s.owes partition x.start || s.anyBatch partition (fun _ => true) || decide (s.nt < x.start) then s
      else s.setPhase partition .onDie)

/-! ### On-die phase -/

/-- A trace buffer without its records. -/
def TraceBuf.emptied (t : TraceBuf) : TraceBuf := { t with fifo := [], recs := [], lostRun := 0, lostNt := 0 }

/-- R723: another context holds the other area of a tile. -/
def State.sharedTile (s : State) (p i : Nat) : Bool :=
  s.is4840 && (List.range s.partsN).any (fun q => q != p && s.ownsTile q i)

/-- R723: a tile is cleared; of one that another context shares, the partition's own area and control set only. -/
def State.clearTile (s : State) (p i : Nat) : State :=
  if s.sharedTile p i then
    let high := (s.partOf p).highOn i
    s.modTile i (fun t => { t.setControl high none with mem := memClear t.mem (areaBase high) (areaBase high + areaBytes) })
  else
    let s := { s with tiles := mdel s.tiles i }
    s.setBuf (16 + i) (s.buf (16 + i)).emptied

/-- R723: what the Cellar of a Wing holds for a partition. -/
def Wing.clearOwn (x : Wing) (p : Nat) : Wing :=
  { x with
    cache := mdel x.cache p
    coalescer := x.coalescer.filter (fun k => k.partition != p)
    overflow := x.overflow.map (fun e => if e.2.partition = p then (e.1, { e.2.removed with hit := false, aged := false }) else e)
    queues := mdel x.queues p
    full := mdel x.full p
    sweeps := mdel x.sweeps p
    compare := match x.compare with | some k => if k.partition = p then none else some k | none => none }

/-- R723: what the Hall holds for a partition. -/
def Hall.clearOwn (h : Hall) (p : Nat) : Hall :=
  let other := fun (e : Nat × FragEntry) => leAt e.2.key 0 1 != p
  { h with
    frag0 := h.frag0.filter other
    frag1 := h.frag1.filter other
    maxima := h.maxima.filter (fun e => e.1 / 4 != p)
    windows := h.windows.filter (fun e => e.1 / 2 != p) }

/-- SCRUB_ON_DIE (R723): the partition's tiles, Cellar and Hall state are cleared, once no read still delivers a record. -/
def execScrubOnDie (partition : Nat) (s : State) : Host.Outcome State Fault Refusal :=
  .next (
    let delivering := [0, 1, 2, 3].any (fun q => (s.rq partition q).recs.any (fun r => r.selected))
    match s.scrubIn partition .onDie with
    | none => s
    | some _ =>
      if !s.wingsFree || delivering then s
      else
        let s := (s.partTiles partition).foldl (fun s i => s.clearTile partition i) s
        let s := s.emptyRqs partition
        let s := { s with
          hall := s.hall.clearOwn partition
          exp := { s.exp with mirrored := s.exp.mirrored.filter (fun e => e.1 / 2 != partition) } }
        let s := (List.range s.wings).foldl (fun s w => s.setWing w ((s.wing w).clearOwn partition)) s
        let s := s.modPart partition (fun x => { x with
          rollouts := [], fill := none, owed := none, clear0 := none, clear1 := none, walk0 := none, walk1 := none })
        s.setPhase partition .dram)

/-! ### DRAM phase and release -/

/-- Overflow indices that a partition owned last. -/
def Wing.ownedOverflow (x : Wing) (p : Nat) : List Nat := (x.overflow.filter (fun e => e.2.partition == p)).map (·.1)

/-- R723: the DRAM phase on a Wing; the bytes that it writes are counted. -/
def State.zeroDram (s : State) (p w : Nat) : State :=
  let x := s.partOf p
  let y := s.wing w
  let own := y.ownedOverflow p
  let lost := fun (k : Nat) =>
    (decide (w * 72057594037927936 + p * 281474976710656 ≤ k) && decide (k < w * 72057594037927936 + (p + 1) * 281474976710656)) ||
      own.any (fun i => let a := w * 72057594037927936 + 31 * 281474976710656 + 4096 * i; decide (a ≤ k) && decide (k < a + 4096))
  let y := { y with
    regions := mdel y.regions p
    overflowLarder := own.foldl (fun m i => memClear m (4096 * i) (4096 * i + 4096)) y.overflowLarder
    overflow := y.overflow.filter (fun e => e.2.partition != p) }
  let s := s.setWing w (y.clearShare x w)
  let s := { s with health := { s.health with poisoned := s.health.poisoned.filter (fun k => !lost k) } }
  s.bumpN Ctr.hallScrubDramBytes (1073741824 * x.regionGib + 256 * 2 ^ x.shareLog2 + own.length * x.blockBytes)

/-- R723: the partition's export queues return to the device, their frames discarded. -/
def State.returnQueues (s : State) (p : Nat) : State :=
  let own := (List.range 4096).filter (fun q => s.setting 0x4001 q 0 == p)
  let s := own.foldl (fun s q =>
    (s.setXq q { s.xq q with open_ := [], frames := [], awake := false }).putSetting 0x4001 q 0 ownerDevice) s
  (own.map (fun q => s.xqPort q)).foldl (fun s port => s.refreshPort port) s

/-- R774: a VF's snapshot whose partition is released before its instant completes with ST_CONFLICT. -/
def State.dropShots (s : State) (fn : Nat) : State :=
  let gone := s.obs.snaps.filter (fun x => x.ring.isSome && x.fn == fn && fn != 0 && decide (s.nt < x.instant))
  let s := { s with obs := { s.obs with snaps := s.obs.snaps.filter (fun x => !gone.any (fun y => y.number == x.number)) } }
  gone.foldl (fun s x => match x.ring with | some r => s.complete r (fail stConflict) | none => s) s

/-- R723: phase 5: secrets, images, queues and counters go, and the partition is UNCONFIGURED. -/
def State.endScrub (s : State) (p : Nat) (k : Scrub) : State :=
  let fn := s.fnOf p
  let s := (s.returnQueues p).clearPartCounters p
  let s := { s with time := { s.time with events := s.time.events.map (fun (e : Nat × List Occ) =>
    (e.1, e.2.filter (fun o => !(o.kind == evAgeSweep && o.key == p)))) } }
  let s := (s.setPart p {}).bump (if k.zeroise then Ctr.hallScrubZeroise else Ctr.hallScrubRelease)
  let s := s.dropShots fn
  match k.ring with
  | some r => s.complete r okStatus
  | none => s

/-! ### Internal scan (R721, R726) -/

/-- The partitions that are sealed. -/
def State.sealedParts (s : State) : List Nat :=
  (List.range s.partsN).filter (fun p => (s.partOf p).sealed && (s.partOf p).state != .unconfigured)

/-- R721: the instruction that the Hearth holds takes effect once no partition is sealed. -/
def State.releaseScan (s : State) : State :=
  if s.sec.jtagHeld && s.sealedParts.isEmpty then
    let s := { s with sec := { s.sec with jtagHeld := false, debug := true } }
    (List.range s.partsN).foldl (fun s p => s.issueLeaf p) (s.setSticky 121)
  else s

/-- SCRUB_DRAM (R723): the DRAM phase and the release. -/
def execScrubDram (partition : Nat) (s : State) : Host.Outcome State Fault Refusal :=
  .next (
    match s.scrubIn partition .dram with
    | none => s
    | some k =>
      if !s.wingsFree then s
      else
        let s := (List.range s.wings).foldl (fun s w => s.zeroDram partition w) s
        (s.endScrub partition k).releaseScan)

/-- INTERNAL_SCAN (R721, R726): an internal-scan or memory-access instruction is held until every sealed partition has been
zeroised; a RELEASE that runs already serves. -/
def execInternalScan (s : State) : Host.Outcome State Fault Refusal :=
  .next (s.whenFree (
    if s.sec.debug then s
    else
      let s := { s with sec := { s.sec with jtagHeld := true, tapInstr := 4 } }
      let ps := s.sealedParts.filter (fun p => (s.partOf p).state == .active)
      (ps.foldl (fun s p => s.beginScrub p s.nt none true) s).releaseScan))

end Sys2Proof.Machine
end

