-- ==== Sys2Proof/Machine/Mirror.lean ====
section
/-!
DEFINITION. Machine/Mirror.lean: the commands of Table 20-4. A device that is not in an active pair runs them at once; in one, the
primary checks and prepares them, and both members apply them at their effective instant (R748).
-/
namespace Sys2Proof.Machine

/-! ### Conditions and effects -/

/-- R748: the image in a slot has the measurement that the primary's has. -/
def State.measured (s : State) (p n measurement : Nat) : Bool :=
  match ((s.partOf p).slot n).image with
  | some img => img.measurement == measurement
  | none => true

/-- The conditions of a command's row, for function `fn` and a command that arrived at NT `lead`; without a lead, the checks that
the standby runs (R748, step 3). -/
def MirrorCmd.fault (m : MirrorCmd) (s : State) (fn : Nat) (lead : Option Nat) : Option Status :=
  match m with
  | .configure p x => s.configureFault p x
  | .release p =>
    match (s.partOf p).state with
    | .unconfigured => some (fail stNotFound)
    | .scrubbing => some (fail stScrubbing)
    | .active => none
  | .setting p id inst _ v => s.writeFault fn p id inst v
  | .rule bank index result value mask =>
    s.ruleFault bank index { value := value, mask := mask, result := BitVec.ofNat 64 result }
  | .bankArm t => s.bankArmFault t lead
  | .epochArm p n resident e t measurement =>
    match s.instantFault with
    | some st => some (fail st)
    | none =>
      match s.armFault p n resident e t lead with
      | some st => some st
      | none => if s.measured p n measurement then none else some (fail stConflict)
  | .epochCancel p => s.cancelFault p lead

/-- Table 20-4: a command takes effect at instant `e`; `paired` says that R748 names the instant. -/
def MirrorCmd.apply (m : MirrorCmd) (s : State) (e : Nat) (paired : Bool) (ring : Option Nat) : State :=
  match m with
  | .configure p x => s.configure p x e paired
  | .release p => s.beginScrub p e ring false
  | .setting p id inst elem v => s.writeSetting p id inst elem v e paired
  | .rule bank index result value mask =>
    s.writeRule bank index { value := value, mask := mask, result := BitVec.ofNat 64 result }
  | .bankArm t => { s with hall := { s.hall with armedSwap := some t } }
  | .epochArm p n _ n16 t _ => s.arm p n n16 t e
  | .epochCancel p => s.disarm p

/-- R748, step 2: the primary sends PREPARE and keeps the command running. -/
def State.prepare (s : State) (ring : Nat) (m : MirrorCmd) : State :=
  let r := s.pairSend (fun _ => .prepare m)
  { r.2.2 with pair := { r.2.2.pair with prepared := some { seq := r.1, cmd := m, ring := ring, sentNt := s.nt } } }

/-- R723: PARTITION_RELEASE completes when its scrub ends. -/
def MirrorCmd.isRelease : MirrorCmd → Bool
  | .release _ => true
  | _ => false

/-- R748: a mirrored command on the member that receives it. -/
def mirrored (c : CmdIn) (m : MirrorCmd) (cmd : Cmd) (s : State) : Option Status × State :=
  if s.isStandby then (some (fail stConflict), s)
  else
    match m.fault s cmd.fn (some cmd.fetchNt) with
    | some st => (some st, s)
    | none =>
      if s.noRoom 0 then (some (fail stBusy), s)
      else if s.isPrimary then (none, s.prepare c.ring m)
      else
        (if m.isRelease then none else some okStatus, m.apply s s.nt false (some c.ring))

/-- R653, R748: a mirrored command of the primary waits while another is being voted on or waits for its instant. -/
def State.voting (s : State) : Bool :=
  s.isPrimary && (s.pair.prepared.isSome || s.pair.decisions.any (fun d => match d.body with | .prepare _ => true | _ => false))

/-! ### The commands -/

/-- PARTITION_CONFIGURE. -/
def execPartitionConfigure (c : CmdIn) (p : ConfigParams) (s : State) : Host.Outcome State Fault Refusal :=
  .next (
    if s.voting then s
    else runCmd 0x0201 (.partitionConfigure c p) c (p.bad s.is4840) s (fun cmd s => mirrored c (.configure cmd.hdr.partition p) cmd s))

/-- CONTEXT_CONFIGURE. -/
def execContextConfigure (c : CmdIn) (p : ConfigParams) (s : State) : Host.Outcome State Fault Refusal :=
  .next (
    if s.voting then s
    else runCmd 0x0202 (.contextConfigure c p) c (p.bad s.is4840) s (fun cmd s => mirrored c (.configure cmd.hdr.partition p) cmd s))

/-- PARTITION_RELEASE (R723). -/
def execPartitionRelease (c : CmdIn) (s : State) : Host.Outcome State Fault Refusal :=
  .next (if s.voting then s else runCmd 0x0203 (.partitionRelease c) c [] s (fun cmd s => mirrored c (.release cmd.hdr.partition) cmd s))

/-- Table 20-4: the settings that a pair mirrors. -/
def settingMirrored (id : Nat) : Bool := settingScope id == some .partition || settingScope id == some .bank

/-- R682: a report queue's vector is one of the function that is bound to the partition named in the header. -/
def State.vectorOutside (s : State) (ring setting value : Nat) : Bool :=
  let p := ((s.cmdAt ring).map (fun c => c.hdr.partition)).getD 255
  setting == 0x6001 && s.fnOf p != 0 && decide (127 < value)

/-- SETTING_WRITE (R656 to R661). -/
def execSettingWrite (c : CmdIn) (setting inst element value : Nat) (s : State) : Host.Outcome State Fault Refusal :=
  .next (
    let time := settingScope setting == some .time
    let bad := settingBad s setting inst element 0 ++ [(time, 0), (!time && !settingOk s setting value, 0x10),
      (s.vectorOutside c.ring setting value, 0x10)]
    if settingMirrored setting && s.voting then s
    else runCmd 0x0205 (.settingWrite c setting inst element value) c bad s (fun cmd s =>
      let p := cmd.hdr.partition
      if settingMirrored setting then mirrored c (.setting p setting inst element value) cmd s
      else
        match s.writeFault cmd.fn p setting inst value with
        | some st => (some st, s)
        | none => (some okStatus, s.writeSetting p setting inst element value s.nt false))
      (settingState setting true) (fun cmd _ => settingMisnamed setting cmd))

/-- RULE_WRITE (R146, R148, R152, R154). -/
def execRuleWrite (c : CmdIn) (bank index : Nat) (rule : Rule) (s : State) : Host.Outcome State Fault Refusal :=
  .next (
    if s.voting then s
    else runCmd 0x0207 (.ruleWrite c bank index rule) c (rule.bad s.partsN) s (fun cmd s =>
      mirrored c (.rule bank index rule.result.toNat rule.value rule.mask) cmd s))

/-- RULE_BANK_ARM (R150, R154). -/
def execRuleBankArm (c : CmdIn) (switchNt : Nat) (s : State) : Host.Outcome State Fault Refusal :=
  .next (if s.voting then s else runCmd 0x0209 (.ruleBankArm c switchNt) c [] s (fun cmd s => mirrored c (.bankArm switchNt) cmd s))

/-- EPOCH_ARM (R504, R505). -/
def execEpochArm (c : CmdIn) (slot : Nat) (requireResident : Bool) (epoch switchNt : Nat) (s : State) :
    Host.Outcome State Fault Refusal :=
  .next (
    if s.voting then s
    else runCmd 0x0304 (.epochArm c slot requireResident epoch switchNt) c [] s (fun cmd s =>
      let p := cmd.hdr.partition
      let meas := match ((s.partOf p).slot slot).image with | some img => img.measurement | none => 0
      mirrored c (.epochArm p slot requireResident epoch switchNt meas) cmd s))

/-- EPOCH_CANCEL (R506). -/
def execEpochCancel (c : CmdIn) (s : State) : Host.Outcome State Fault Refusal :=
  .next (if s.voting then s else runCmd 0x0305 (.epochCancel c) c [] s (fun cmd s => mirrored c (.epochCancel cmd.hdr.partition) cmd s))

end Sys2Proof.Machine
end

