-- ==== Sys2Proof/Machine/Pair.lean ====
section
/-!
DEFINITION. Machine/Pair.lean: the redundant pair (chapter 20): its states, the Banister, decisions at their instants, state
hashes, resynchronisation, and the commands of the Pair class.
-/
namespace Sys2Proof.Machine

/-- Changes the pair's state. -/
def State.modPair (s : State) (f : Pair → Pair) : State := { s with pair := f s.pair }

/-- R741: a message of the partner that is next to be acted on is acted on while the member is ACTIVE or ALONE. -/
def State.nextMsg (s : State) : Option (Nat × PairMsg) :=
  if s.dead then none
  else
    match s.pair.state, s.pair.inbox with
    | .active, (seq, _, m) :: _ => some (seq, m)
    | .alone, (seq, _, m) :: _ => some (seq, m)
    | _, _ => none

/-- The message at the head has been acted on. -/
def State.popMsg (s : State) : State := s.modPair (fun x => { x with inbox := x.inbox.tail })

/-- R743: the coalescers of a member that is the standby hold no key. -/
def State.dropKeys (s : State) : State :=
  { s with wing0 := { s.wing0 with coalescer := [] }, wing1 := { s.wing1 with coalescer := [] } }

/-! ### States (R735 to R738) -/

/-- Table 20-3: the member returns to UNPAIRED. PAIR_RESYNC commands that wait end with ST_CONFLICT; decisions that have been
taken keep their instants (log entry 91). -/
def State.unpair (s : State) : State :=
  let rings := s.pair.waitRings
  let s := s.modPair (fun x =>
    { x with
      state := .unpaired, partnerSerial := 0, ephemeral := none, random := [], secret := none, keyLoHi := none
      keyHiLo := none, unacked := [], inbox := [], covered := 0, log := [], partnerLog := []
      sums := [], ownClosed := [], partnerSums := [], resync := [], requests := [], waitRings := [], awaited := [], roleAt := none })
  rings.foldl (fun s r => s.complete r (fail stConflict)) s

/-- Table 17-11: a configuration as a list of its fields. -/
def Partition.config (x : Partition) : List Nat :=
  [x.quarters0, x.quarters1, x.blockUnits, x.shareLog2, x.ringQuota, x.shareBase0, x.shareBase1, x.overflowQuota0, x.overflowQuota1,
   x.coalQuota0, x.coalQuota1, x.regionBase0, x.regionBase1, x.regionGib, x.larderOff, x.shadowOff, x.windowsOff, x.windowsUnits,
   x.imageOff, x.imageUnits]

/-- R736: a partition of both members is in the same state with equal parameters. -/
def Partition.agrees (x : Partition) (y : PartnerPart) : Bool :=
  match x.state with
  | .unconfigured => y.state == 0
  | .active => y.state == 1 && y.params.fields.config == x.config
  | .scrubbing => y.state == 2 && y.params.fields.config == x.config

/-- R736: what the members compare by a digest: the rules of both banks, the settings of both banks and those of every partition, as
bytes (log entry 225). -/
def State.settingsText (s : State) : Bytes :=
  let values := fun (lo n inst : Nat) =>
    (List.range n).flatMap (fun i => (List.range (settingElements (lo + i))).flatMap (fun e => leBytes 16 (s.setting (lo + i) inst e)))
  let rules := fun (b : RuleBank) =>
    b.rules.flatMap (fun r => leBytes 2 r.1 ++ leBytes 128 r.2.value.toNat ++ leBytes 128 r.2.mask.toNat ++ leBytes 8 r.2.result.toNat)
  rules s.hall.bank0 ++ rules s.hall.bank1 ++ values 0x5001 8 0 ++ values 0x5001 8 1 ++
    (List.range s.partsN).flatMap (values 0x1001 18)

/-- R736: the comparisons, in their order, with the values of setup_fail (Table 20-6) of those that fail. -/
def State.setupFault (s : State) (x : PartnerInfo) : Option Nat :=
  let checks : List (Bool × Nat) :=
    [ (x.standby != s.pair.standby, 1), (x.part == s.part && x.stepping == 0x00B0, 3)
    , (x.regs == s.sec.regs.toList.take 5, 4)
    , (s.time.state == .locked && x.timeLocked && x.originSeconds == s.time.originInForce, 5)
    , (x.hashSeed == s.setting 0x0002 0 0, 6)
    , ((List.range s.partsN).all (fun p => match x.parts[p]? with | some y => (s.partOf p).agrees y | none => false), 7)
    , (x.settings == beNat (sha384 s.settingsText), 8) ]
  (checks.find? (fun c => !c.1)).map (·.2)

/-- R751: the primary starts a resynchronisation at the message's E, unless one runs. -/
def State.beginResync (s : State) (p w : Nat) : State :=
  if (s.resyncOf p w).isSome ∨ (s.partOf p).state ≠ .active then s
  else
    let r := s.pairSend (fun e => .resyncBegin p w e)
    r.2.2.modPair (fun x => { x with resync := mput x.resync (16 * w + p) { q := r.2.1 } })

/-- Every ACTIVE partition on both Wings. -/
def State.activePairs (s : State) : List (Nat × Nat) :=
  ((List.range s.partsN).filter (fun p => (s.partOf p).state == .active)).flatMap (fun p => [(p, 0), (p, 1)])

/-- R733, R736, R738: both members enter ACTIVE; the standby resynchronises every ACTIVE partition on both Wings. -/
def State.pairUp (s : State) (serial : Nat) : State :=
  let s := s.modPair (fun x =>
    { x with
      state := .active, setupFail := 0, partnerSerial := serial, sentSeq := 0, acceptedSeq := 0, unacked := [], inbox := []
      lastRxNt := s.nt, lastSentNt := s.nt, covered := 0, partnerLog := [], sums := [], ownClosed := [], partnerSums := []
      nextClose := s.nt / ms, resync := [], requests := [] })
  if s.pair.standby then s.dropKeys else s.activePairs.foldl (fun s k => s.beginResync k.1 k.2) s

/-- The lanes of a mask of 8. -/
def lanesOf (mask : Nat) : List Nat := (List.range 8).filter (bitOf mask)

/-- R730: at connection the member draws an ephemeral key and a random and sends its chain and both, signed with its link
identity key. -/
def State.pairHello (s : State) : State :=
  let key := s.sec.linkKey.getD 0
  let e := s.draw 56
  let eph := p384Key e.1
  let r := e.2.draw 32
  let leaf := r.2.signLeaf none (publicKey key) []
  let sig := leaf.2.sign key (publicKey eph ++ r.1)
  (sig.2.modPair (fun x => { x with ephemeral := some eph, random := r.1 })).emit
    (.pairHello (s.chainOf leaf.1) (publicKey eph) r.1 sig.1)

/-- R730: the shared secret with a partner, and the two keys; the salt starts with the random of the lower serial.
None where the partner's key is no point of the curve, which R731's signed key cannot be. -/
def State.pairKeys (s : State) (info : PartnerInfo) : Option State :=
  let salt := if s.boot.serial < info.serial then s.pair.random ++ info.random else info.random ++ s.pair.random
  (ecdh (s.pair.ephemeral.getD 0) info.ephemeral).map (fun z =>
    let secret := hkdfExtract salt z
    s.modPair (fun x =>
      { x with
        secret := some secret, keyLoHi := some (hkdfExpand secret (label "ikf banister lo2hi") 32)
        keyHiLo := some (hkdfExpand secret (label "ikf banister hi2lo") 32) }))

/-- R728, R729: the Banister lanes that are up; the numbers of a lane restart when it comes up. -/
def State.banisterLanes (s : State) (up : List Nat) : State :=
  let new := up.filter (fun n => !s.pair.lanesUp.contains n)
  let fresh := fun (t : Tab Nat) => t.filter (fun e => !new.contains e.1)
  s.modPair (fun x => { x with
    lanesUp := up, frameSeq := fresh x.frameSeq, rxSeqs := fresh x.rxSeqs, rxDiscards := fresh x.rxDiscards })

/-- R731: a connection is refused. -/
def State.refusePair (s : State) : State := (s.modPair (fun x => { x with setupFail := 2 })).setSticky 96

/-- BANISTER_CONNECT (R730, R731, R735, R736, R738): the Banister lanes of `lanes` are up; a member that waits for a partner meets it
on them. `authentic` says that the partner's chain and signed key verify under R731. A comparison that fails returns the member to
UNPAIRED (R736). -/
def execBanisterConnect (lanes : Nat) (authentic : Bool) (info : PartnerInfo) (s : State) : Host.Outcome State Fault Refusal :=
  .next (s.whenFree (
    let s := s.banisterLanes (lanesOf lanes)
    if s.pair.state = .unpaired ∨ s.pair.state = .active ∨ lanesOf lanes = [] then s
    else
      let s := s.pairHello
      if !authentic then s.refusePair
      else
        match s.pairKeys info with
        | none => s.refusePair
        | some s =>
          match s.setupFault info with
          | none => s.pairUp info.serial
          | some n => (s.modPair (fun x => { x with setupFail := n })).unpair))

/-- PARTNER_LOST (R737, R754). -/
def execPartnerLost (s : State) : Host.Outcome State Fault Refusal :=
  .next (s.whenFree (
    if s.pair.state ≠ .active ∨ s.nt < s.pair.lastRxNt + 800000 then s
    else
      let torn := s.pair.standby && !s.pair.resync.isEmpty
      let s := (s.setSticky 97).bump Ctr.pairPartnerLost
      let s := if torn then s.setSticky 99 else s
      s.modPair (fun x => { x with state := .alone, unacked := [], resync := [], requests := [], roleAt := none })))

/-! ### Frames and messages (R732 to R734, R742) -/

/-- R733: the types that carry a sequence number. -/
def PairMsg.sequenced : PairMsg → Bool
  | .heartbeat _ _ _ _ _ => false
  | .resyncData _ _ _ => false
  | .reserved _ => false
  | _ => true

/-- R734, Table 20-2: a message of a frame is accepted or discarded. -/
def Pair.receive (x : Pair) (tx : Nat) (m : Nat × PairMsg) : Pair :=
  match m.2 with
  | .heartbeat _ accepted _ occ0 occ1 =>
    { x with unacked := x.unacked.filter (fun y => decide (accepted < y.seq)), partnerLog := mput (mput x.partnerLog 0 occ0) 1 occ1 }
  | .resyncData _ _ _ => { x with inbox := x.inbox ++ [(0, tx, m.2)] }
  | .reserved _ => x
  | _ => if m.1 = x.acceptedSeq + 1 then { x with acceptedSeq := m.1, inbox := x.inbox ++ [(m.1, tx, m.2)] } else x

/-- R734, R742: the last sequence number that a frame says its sender has sent, if it says so. -/
def frameSaid (msgs : List (Nat × PairMsg)) : Option Nat :=
  (msgs.filterMap (fun m =>
    match m.2 with
    | .heartbeat sent _ _ _ _ => some sent
    | b => if b.sequenced then some m.1 else none)).max?

/-- R742: the covered instant after a frame of the control lane. -/
def Pair.cover (x : Pair) (tx : Nat) (msgs : List (Nat × PairMsg)) : Pair :=
  match frameSaid msgs with
  | some n => if n ≤ x.acceptedSeq then { x with covered := max x.covered (tx + 320000) } else x
  | none => x

/-- R729: a frame on a Banister lane is a PAIR frame of that lane, by its DLF header. -/
def pairFormatOk (lane : Nat) (header : Bytes) (count : Nat) : Bool :=
  header.length == 26 && leAt header 0 1 == 1 && leAt header 1 1 == 0x20 && leAt header 4 1 == lane && leAt header 5 1 == count

/-- R729, R732: a frame on a Banister lane is discarded. -/
def State.discardPair (s : State) (lane : Nat) : State :=
  s.modPair (fun x => { x with rxDiscards := mput x.rxDiscards lane (satAdd 65535 (mget 0 x.rxDiscards lane) 1) })

/-- BANISTER_FRAME (R729, R732, R734, R742): a PAIR frame arrives with its DLF header and its messages; `authentic` is the outcome of
its GCM tag under the partner's key, which a member without keys does not have. -/
def execBanisterFrame (lane : Nat) (header : Bytes) (fcsOk authentic : Bool) (msgs : List (Nat × PairMsg)) (s : State) :
    Host.Outcome State Fault Refusal :=
  .next (
    if s.pair.state = .unpaired ∨ ¬ s.pair.lanesUp.contains lane ∨ ¬ s.hallFree then s
    else if !fcsOk || !pairFormatOk lane header msgs.length then s.discardPair lane
    else if !authentic || s.pair.keyLoHi.isNone then ((s.discardPair lane).bump (Ctr.pairAuthFail lane)).setSticky 96
    else
      let tx := leAt header 0x10 8
      let s := (s.bump (Ctr.pairFramesRx lane)).modPair (fun x => { x with rxSeqs := mput x.rxSeqs lane (leAt header 2 2) })
      if s.pair.state ≠ .active then s
      else
        s.modPair (fun x =>
          let x := msgs.foldl (fun (x : Pair) m => x.receive tx m) { x with lastRxNt := s.nt }
          if lane = s.controlLane then x.cover tx msgs else x))

/-- HEARTBEAT (R734). -/
def execHeartbeat (s : State) : Host.Outcome State Fault Refusal :=
  .next (s.whenFree (
    if !s.paired then s
    else
      let occ := fun w => (s.liveLog w).length
      (s.pairFrame s.controlLane
        [(0, .heartbeat s.pair.sentSeq s.pair.acceptedSeq s.pair.standby (occ 0) (occ 1))]).2))

/-- RESEND (R734): every unacknowledged message leaves again, unchanged, once the oldest has waited 64,000 NT units since it
was sent. -/
def execResend (s : State) : Host.Outcome State Fault Refusal :=
  .next (s.whenFree (
    match s.pair.unacked with
    | [] => s
    | m :: _ =>
      if !s.paired || decide (s.nt < m.firstNt + 64000) then s
      else
        let all := s.pair.unacked
        let r := s.pairFrame s.controlLane (all.map (fun m => (m.seq, m.body)))
        (r.2.bumpN Ctr.pairResent all.length).modPair (fun x =>
          { x with unacked := all.map (fun m => { m with firstNt := s.nt }) })))

/-! ### Decisions (R741 to R748) -/

/-- R743: a change of an entry's unit has not taken effect yet. -/
def State.unitPending (s : State) (h : Nat) : Bool :=
  s.changePending (hWing h) (fun u =>
    match u with
    | .bucket b _ => !hOverflow h && b == hBucket h
    | .overflow i _ => hOverflow h && i == hSlot h
    | _ => false)

/-- INSERT (R743): the standby writes the slot that the primary's insertion names. -/
def execInsert (s : State) : Host.Outcome State Fault Refusal :=
  .next (
    match s.nextMsg with
    | some (seq, .insert e h data) =>
      if s.unitPending h || !s.wingFree (hWing h) || s.queueFull (blkCellar (hWing h)) then s
      else
        let new := entryOf data
        let s := (s.popMsg.changeSlot new.partition h e new).putEntry h new
        s.addDecision evInsertApply { e := e, seq := seq, wing := hWing h, partition := new.partition, body := .insert e h data }
    | _ => s)

/-- TABLE_CHANGE (R744): the standby records the change for its instant. -/
def execTableChange (s : State) : Host.Outcome State Fault Refusal :=
  .next (s.whenFree (
    match s.nextMsg with
    | some (seq, .tableChange e w p u) =>
      if s.queueFull (blkCellar w) then s
      else s.popMsg.addDecision evTableApply { e := e, seq := seq, wing := w, partition := p, body := .tableChange e w p u }
    | _ => s))

/-- Table 17-4: the checks of the partition's state that a mirrored command of the Epoch class meets on the standby. -/
def MirrorCmd.headFault (m : MirrorCmd) (s : State) : Option Status :=
  let at_ := fun (p : Nat) =>
    match (s.partOf p).state with
    | .unconfigured => some (fail stNotFound)
    | .scrubbing => some (fail stScrubbing)
    | .active => none
  match m with
  | .epochArm p _ _ _ _ _ => at_ p
  | .epochCancel p => at_ p
  | _ => none

/-- PREPARE (R748, step 3): the standby runs the command's checks and votes. -/
def execPrepare (s : State) : Host.Outcome State Fault Refusal :=
  .next (s.whenFree (
    match s.nextMsg with
    | some (seq, .prepare m) =>
      let s := s.popMsg
      if !s.paired then s
      else
        let st := ((m.headFault s).orElse (fun _ => m.fault s 0 none)).getD okStatus
        let s := (s.pairSend (fun _ => .vote seq st.status st.detail)).2.2
        if st.status = stOk then s.modPair (fun x => { x with voted := [(seq, m)] }) else s
    | _ => s))

/-- R748, step 4: the primary commits; the command completes. -/
def State.commitPrepared (s : State) (k : Prepared) : State :=
  let r := s.pairSend (fun e => .commit k.seq e)
  (r.2.2.addDecision evTableApply { e := r.2.1, seq := r.1, wing := 0, partition := 0, body := .prepare k.cmd }).complete k.ring okStatus

/-- VOTE (R748, steps 4 and 5). -/
def execVote (s : State) : Host.Outcome State Fault Refusal :=
  .next (s.whenFree (
    match s.nextMsg with
    | some (_, .vote prep status detail) =>
      if s.noRoom 0 then s
      else
      let s := s.popMsg
      match s.pair.prepared with
      | none => s
      | some k =>
        if k.seq ≠ prep ∨ ¬ s.paired then s
        else
          let s := s.modPair (fun x => { x with prepared := none })
          if status = stOk then s.commitPrepared k
          else s.complete k.ring { status := status, detail := detail, info := 1 }
    | _ => s))

/-- VOTE_TIMEOUT (R748, step 5). -/
def execVoteTimeout (s : State) : Host.Outcome State Fault Refusal :=
  .next (s.whenFree (
    match s.pair.prepared with
    | none => s
    | some k =>
      if s.nt < k.sentNt + ms then s
      else (s.modPair (fun x => { x with prepared := none })).complete k.ring (fail stTimeout)))

/-- COMMIT (R748, step 4): the standby schedules the command that it voted on. -/
def execCommitMessage (s : State) : Host.Outcome State Fault Refusal :=
  .next (s.whenFree (
    match s.nextMsg with
    | some (seq, .commit prep e) =>
      match mfind s.pair.voted prep with
      | none => s.popMsg
      | some m =>
        if s.queueFull (blkCellar 0) then s
        else
        (s.popMsg.modPair (fun x => { x with voted := mdel x.voted prep })).addDecision evTableApply
          { e := e, seq := seq, wing := 0, partition := 0, body := .prepare m }
    | _ => s))

/-- R741: the decision of an occurrence. -/
def State.decisionOf (s : State) (o : Occ) : Option Decision :=
  s.pair.decisions.find? (fun d => d.e == o.instant && d.seq == o.key)

/-- The decision has taken effect. -/
def State.dropDecision (s : State) (d : Decision) : State :=
  s.modPair (fun x => { x with decisions := x.decisions.filter (fun y => y != d) })

/-- The occurrence of a kind, of any key, that a block starts now. -/
def State.dueKind (s : State) (b kind : Nat) : Option Occ :=
  match s.dueOcc b with
  | some o => if o.kind = kind then some o else none
  | none => none

/-- R544, R583: an occurrence of a Wing whose effect reaches the Hall starts behind what is due there, but before a snapshot that comes
after it. -/
def State.hallBehind (s : State) (o : Occ) : Bool :=
  [blkExport, blkFeature, blkLanes, blkObserve].all (fun b => (s.dueOcc b).all (fun x => x.kind == evSnapshot && o.before x))

/-- R544, R583: the pair's occurrence that a Cellar starts now. -/
def State.duePair (s : State) (w kind : Nat) : Option Occ :=
  (s.dueKind (blkCellar w) kind).bind (fun o => if s.hallBehind o then some o else none)

/-- PAIR_TABLE_APPLY (R741, R744 to R746, R748): a table change or a mirrored command takes effect. -/
def execPairTableApply (wing : Nat) (s : State) : Host.Outcome State Fault Refusal :=
  .next (
    match s.duePair wing evTableApply with
    | none => s
    | some o =>
      let s := s.startOcc (blkCellar wing) o
      match s.decisionOf o with
      | none => s
      | some d =>
        let s := s.dropDecision d
        match d.body with
        | .prepare m => m.apply s d.e true none
        | _ => s.applyTableChange d)

/-- PAIR_INSERT_APPLY (R743, R749): an insertion takes effect. -/
def execPairInsertApply (wing : Nat) (s : State) : Host.Outcome State Fault Refusal :=
  .next (
    match s.duePair wing evInsertApply with
    | none => s
    | some o =>
      let s := s.startOcc (blkCellar wing) o
      match s.decisionOf o with
      | none => s
      | some d =>
        let s := s.dropDecision d
        let s := if d.own then s else s.bump Ctr.pairInserts
        if s.paired then s.addDigest d.e d.partition d.wing d.body.digest else s)

/-! ### State hashes (R749, R750) -/

/-- A packet of a Wing that satisfies `mine` and is stamped before `e` has not committed, or can still arrive. -/
def State.uncommitted (s : State) (w : Nat) (mine : Nat → Bool) (e : Nat) : Bool :=
  let x := s.wing w
  let old := fun (k : Packet) => mine k.partition && decide (k.slot.at_ < e)
  decide (s.nt < e) || x.stairs.any (fun y => old y.pkt) || x.queues.any (fun q => q.2.any old) || s.hall.tokens.any old ||
    s.arrives e

/-- R749: the 16 sums of an interval. -/
def State.sumsOf (s : State) (k : Nat) : List Nat :=
  (List.range 16).map (fun i => mget 0 (mget [] s.pair.sums k) i)

/-- R750: the partitions and Wings whose sums are compared and differ, entry 2 p + w. -/
def State.differing (s : State) (a b : List Nat) : List Nat :=
  (List.range 16).filter (fun i => (s.resyncOf (i / 2) (i % 2)).isNone && a[i]? != b[i]?)

/-- R750: both members' sums of an interval are compared once they are known. -/
def State.compareSums (s : State) (k : Nat) : State :=
  match mfind s.pair.ownClosed k, mfind s.pair.partnerSums k with
  | some a, some b =>
    let bad := s.differing a b
    let s := s.modPair (fun x =>
      { x with ownClosed := mdel x.ownClosed k, partnerSums := mdel x.partnerSums k, lastInterval := max x.lastInterval k })
    if bad.isEmpty then s
    else
      let s := (s.setSticky 98).bump Ctr.pairDivergence
      if s.isPrimary then bad.foldl (fun s i => s.beginResync (i / 2) (i % 2)) s else s
  | _, _ => s

/-- R750: the next interval closes once each of its packets has committed. -/
def State.closeInterval (s : State) : State :=
  let k := s.pair.nextClose
  let any := fun (_ : Nat) => true
  let e := (k + 1) * ms
  if !s.paired || decide (s.nt < (k + 2) * ms) || s.uncommitted 0 any e || s.uncommitted 1 any e then s
  else
    let sums := s.sumsOf k
    let s := s.modPair (fun x =>
      { x with nextClose := k + 1, sums := mdel x.sums k, ownClosed := mput x.ownClosed k sums })
    (s.pairSend (fun _ => .stateHash k sums)).2.2.compareSums k

/-- STATE_HASH (R750): the event's instant, or a later try of an interval that could not close then. -/
def execStateHash (wing : Nat) (s : State) : Host.Outcome State Fault Refusal :=
  .next (
    let b := blkStairwell wing
    match s.dueKind b evStateHash with
    | some o => if s.hallBehind o then ((s.startOcc b o).enqueue b { o with instant := o.instant + ms }).closeInterval else s
    | none => if s.wingFree wing then s.closeInterval else s)

/-- STATE_HASH from the partner (R750). -/
def execStateHashMessage (s : State) : Host.Outcome State Fault Refusal :=
  .next (s.whenFree (
    match s.nextMsg with
    | some (_, .stateHash k sums) =>
      let s := s.popMsg
      if s.paired then (s.modPair (fun x => { x with partnerSums := mput x.partnerSums k sums })).compareSums k else s
    | _ => s))

/-! ### Resynchronisation (R751 to R754) -/

/-- R751: a resynchronisation starts on the standby. A RESYNC_BEGIN of instant 0 asks the primary for one (log entry 92). -/
def execResyncBegin (s : State) : Host.Outcome State Fault Refusal :=
  .next (s.whenFree (
    match s.nextMsg with
    | some (_, .resyncBegin p w q) =>
      let s := s.popMsg
      if s.isStandby then
        s.modPair (fun x =>
          { x with resync := mput x.resync (16 * w + p) { q := q }, requests := x.requests.filter (fun r => !(r.1 == p && r.2.1 == w)) })
      else if s.isPrimary && q == 0 then s.beginResync p w
      else s
    | _ => s))

/-- R753: a Q image replaces the unit it names. -/
def State.putUnit (s : State) (p w : Nat) (u : PairUnit) : State :=
  match u with
  | .bucket b d => ([0, 1, 2, 3].zip (entriesOf 4 d)).foldl (fun s e => s.putEntry (handleOf w b e.1) e.2) s
  | .overflow i d => s.putEntry (ovHandle w i) (entryOf d)
  | .larder h d => (s.writeBlock p h d).uncache p h
  | .maxima m d => { s with hall := { s.hall with maxima := mput s.hall.maxima (4 * p + m) d } }
  | .windows n d =>
    let cs : List WinCount := d.map (fun c => ⟨c.1, c.2.1, c.2.2.1, c.2.2.2⟩)
    { s with hall := { s.hall with windows := mput s.hall.windows (2 * p + n) cs } }

/-- RESYNC_DATA (R753). -/
def execResyncData (s : State) : Host.Outcome State Fault Refusal :=
  .next (
    match s.nextMsg with
    | some (_, .resyncData p w u) =>
      if !s.wingFree w then s
      else
        let s := s.popMsg
        match s.resyncOf p w with
        | none => s
        | some r =>
          if !s.isStandby then s
          else
            let s := s.bumpN Ctr.pairResyncBytes (unitBytes u).length
            (s.putUnit p w u).modPair (fun x => { x with
              resync := mput x.resync (16 * w + p) { r with sent := u.number :: r.sent, sentCount := r.sentCount + 1 }
              requests := x.requests.filter (fun y => y != (p, w, u.number)) })
    | _ => s)

/-- R751, R752: every packet of a partition on a Wing stamped before Q has committed. -/
def State.quiescedBefore (s : State) (p w : Nat) (r : Resync) : Bool := !s.uncommitted w (fun q => q == p) r.q

/-- BLOCK_REQUEST (R752): a request arrives at the primary, or a requested unit leaves ahead of the walker. -/
def execBlockRequest (s : State) : Host.Outcome State Fault Refusal :=
  .next (s.whenFree (
    match s.nextMsg with
    | some (_, .blockRequest p w unit) =>
      let s := s.popMsg
      if s.isPrimary && (s.resyncOf p w).isSome then
        (s.modPair (fun x => { x with requests := x.requests ++ [(p, w, unit)] })).bump Ctr.pairBlockRequests
      else s
    | _ =>
      if !s.isPrimary then s
      else
        match s.pair.requests.find? (fun k => match s.resyncOf k.1 k.2.1 with | some r => s.quiescedBefore k.1 k.2.1 r | none => true) with
        | none => s
        | some k =>
          if !s.wingFree k.2.1 then s
          else (s.sendUnit k.2.1 k.1 k.2.2).modPair (fun x => { x with requests := x.requests.erase k })))

/-- R751: the units of a partition on a Wing in ascending order: the buckets of its share, its overflow entries, its Larder
blocks, the maxima of its model slots and its window counts. -/
def State.unitAt (s : State) (p w i : Nat) : Option Nat :=
  let x := s.partOf p
  let n := 2 ^ x.shareLog2
  let mine := fun (k : Nat) => ((s.wing w).ovEntry k).partition == p && ((s.wing w).overflow.any (fun e => e.1 == k))
  if i < n then some (bucketUnit (x.shareBase w + i))
  else if i < n + 32768 then (if mine (i - n) then some (overflowUnit (i - n)) else none)
  else if i < 5 * n + 32768 then some (larderUnit (handleOf w (x.shareBase w) 0 + (i - n - 32768)))
  else if i < 5 * n + 65536 then
    (if mine (i - 5 * n - 32768) then some (larderUnit (ovHandle w (i - 5 * n - 32768))) else none)
  else if i < 5 * n + 65540 then some (maximaUnit (i - 5 * n - 65536))
  else some (windowsUnit (i - 5 * n - 65540))

/-- Places of a walk. -/
def Partition.unitCount (x : Partition) : Nat := 5 * 2 ^ x.shareLog2 + 65542

/-- R752: a saved image that can take no more effects of packets stamped before Q: a Larder block's, whose flow commits in order, or
window counts', which are counted in order of stamps. -/
def imageFinal (unit : Nat) : Bool := (decide (larderUnit 0 ≤ unit) && decide (unit < maximaUnit 0)) || decide (windowsUnit 0 ≤ unit)

/-- RESYNC_WALKER (R752): the oldest saved image that is final leaves, or else the walker takes its next place. -/
def execResyncWalker (wing partition : Nat) (s : State) : Host.Outcome State Fault Refusal :=
  .next (
    match s.resyncOf partition wing with
    | none => s
    | some r =>
      let quiet := s.quiescedBefore partition wing r
      let asked := s.pair.requests.any (fun k => k.1 == partition && k.2.1 == wing)
      if !s.isPrimary || !s.wingFree wing then s
      else
      match r.saved.find? (fun e => quiet || imageFinal e.1) with
      | some e => s.sendUnit wing partition e.1
      | none =>
      if asked || !quiet || decide ((s.partOf partition).unitCount ≤ r.next) then s
      else
        let s := s.modPair (fun x => { x with resync := mput x.resync (16 * wing + partition) { r with next := r.next + 1 } })
        match s.unitAt partition wing r.next with
        | some u => s.sendUnit wing partition u
        | none => s)

/-- R754: the resynchronisation of a partition and Wing has ended; PAIR_RESYNC commands complete with the last that they wait
for. -/
def State.resyncEnded (s : State) (p w : Nat) : State :=
  let s := s.modPair (fun x =>
    { x with
      resync := mdel x.resync (16 * w + p), requests := x.requests.filter (fun r => !(r.1 == p && r.2.1 == w))
      awaited := x.awaited.filter (fun k => k != 16 * w + p) })
  if s.pair.awaited.isEmpty then
    s.pair.waitRings.foldl (fun s r => s.complete r okStatus) (s.modPair (fun x => { x with waitRings := [] }))
  else s

/-- RESYNC_END (R754): the primary's walker has done its last unit, or the standby acts on the message. -/
def execResyncEnd (wing partition : Nat) (s : State) : Host.Outcome State Fault Refusal :=
  .next (s.whenFree (
    match s.nextMsg with
    | some (_, .resyncEnd p w _) => s.popMsg.resyncEnded p w
    | _ =>
      match s.resyncOf partition wing with
      | none => s
      | some r =>
        if !s.isPrimary || !r.saved.isEmpty || decide (r.next < (s.partOf partition).unitCount) then s
        else (s.pairSend (fun _ => .resyncEnd partition wing r.sentCount)).2.2.resyncEnded partition wing))

/-! ### Roles and release (R735, R755) -/

/-- R755: the primary chooses E and tells the standby. -/
def State.decideRole (s : State) : State :=
  let r := s.pairSend (fun e => .role e)
  r.2.2.modPair (fun x => { x with roleAt := some r.2.1 })

/-- ROLE (R755): the roles exchange at E, or a member acts on the message. A ROLE of instant 0 asks the primary for a
switchover (log entry 92). -/
def execRole (s : State) : Host.Outcome State Fault Refusal :=
  .next (s.whenFree (
    match s.nextMsg with
    | some (_, .role e) =>
      let s := s.popMsg
      if s.isStandby then s.modPair (fun x => { x with roleAt := some e })
      else if s.isPrimary && e == 0 && s.pair.roleAt.isNone && s.pair.resync.isEmpty then s.decideRole
      else s
    | _ =>
      match s.pair.roleAt with
      | none => s
      | some e =>
        if s.nt < e ∨ ¬ s.paired then s
        else
          let s := s.modPair (fun x => { x with roleAt := none, standby := !x.standby })
          if s.pair.standby then s.dropKeys else s))

/-- RELEASE (R735). -/
def execRelease (s : State) : Host.Outcome State Fault Refusal :=
  .next (s.whenFree (
    match s.nextMsg with
    | some (_, .release) => s.popMsg.unpair
    | _ => s))

/-! ### Commands (Table 17-22) -/

/-- PAIR_SETUP (R735, R736). -/
def execPairSetup (c : CmdIn) (standby : Bool) (s : State) : Host.Outcome State Fault Refusal :=
  .next (runNow 0x0B01 (.pairSetup c standby) c [] s (fun _ s =>
    if s.pair.state ≠ .unpaired then (fail stConflict, s)
    else (okStatus, s.modPair (fun x => { x with state := .connecting, standby := standby, setupFail := 0 }))))

/-- PAIR_RELEASE (R735): an ACTIVE member tells its partner. -/
def execPairRelease (c : CmdIn) (s : State) : Host.Outcome State Fault Refusal :=
  .next (runNow 0x0B02 (.pairRelease c) c [] s (fun _ s =>
    if s.pair.state = .unpaired then (fail stNotFound, s)
    else
      let s := if s.paired then (s.pairSend (fun _ => .release)).2.2 else s
      (okStatus, s.unpair)))

/-- Table 20-6. -/
def State.pairStatus (s : State) : Bytes :=
  let x := s.pair
  let st := match x.state with | .unpaired => 0 | .connecting => 1 | .active => 2 | .alone => 3
  let mask := fun (w : Nat) => (List.range 8).foldl (fun n p => n + (if (s.resyncOf p w).isSome then 2 ^ p else 0)) 0
  leBytes 1 (st + 8 * b2n x.standby + 16 * x.setupFail) ++ leBytes 1 (x.lanesUp.foldl (fun n l => n + 2 ^ l) 0) ++
    leBytes 1 s.controlLane ++ leBytes 1 0 ++ leBytes 1 (mask 0) ++ leBytes 1 (mask 1) ++ leBytes 2 0 ++
    leBytes 8 x.partnerSerial ++ leBytes 8 x.lastInterval ++ leBytes 8 (if x.standby then x.covered else 0)

/-- PAIR_STATUS (R757). -/
def execPairStatus (c : CmdIn) (s : State) : Host.Outcome State Fault Refusal :=
  .next (runRead 0x0B03 (.pairStatus c) c [] s (fun _ s => okReply s.pairStatus))

/-- PAIR_SWITCHOVER (R755): the standby asks the primary (log entry 92). -/
def execPairSwitchover (c : CmdIn) (s : State) : Host.Outcome State Fault Refusal :=
  .next (runNow 0x0B04 (.pairSwitchover c) c [] s (fun _ s =>
    if !s.paired || !s.pair.resync.isEmpty then (fail stConflict, s)
    else if s.pair.standby then (okStatus, (s.pairSend (fun _ => .role 0)).2.2)
    else (okStatus, if s.pair.roleAt.isSome then s else s.decideRole)))

/-- PAIR_RESYNC (R751): the standby asks for a resynchronisation of every ACTIVE partition on both Wings and completes when
the last has ended. -/
def execPairResync (c : CmdIn) (s : State) : Host.Outcome State Fault Refusal :=
  .next (runCmd 0x0B05 (.pairResync c) c [] s (fun _ s =>
    if !s.isStandby then (some (fail stConflict), s)
    else
      let ks := s.activePairs
      if ks.isEmpty then (some okStatus, s)
      else
        let s := ks.foldl (fun s k => (s.pairSend (fun _ => .resyncBegin k.1 k.2 0)).2.2) s
        (none, s.modPair (fun x => { x with
          waitRings := x.waitRings ++ [c.ring]
          awaited := ks.foldl (fun l k => if l.contains (16 * k.2 + k.1) then l else l ++ [16 * k.2 + k.1]) x.awaited }))))

end Sys2Proof.Machine
end

