-- ==== Sys2Proof/Machine/Update.lean ====
section
/-!
DEFINITION. Machine/Update.lean: updates and their relay, the persistent settings, and the commands of the Update class
(chapter 23).
-/
namespace Sys2Proof.Machine

/-- Replaces the staging. -/
def State.setStaging (s : State) (g : Option Staging) : State := { s with boot := { s.boot with staging := g } }

/-- R843: the staging is discarded with a result. -/
def State.discardStaging (s : State) (result : Nat) : State :=
  { s with boot := { s.boot with staging := none, lastResult := result } }

/-! ### Staging (R841 to R844) -/

/-- R841, Table 23-8: where a session's staging comes from: 0 host, 1 management, 2 chain relay. -/
def State.sourceOf (s : State) (fn : Nat) : Nat :=
  if fn < 9 then 0 else if ((mfind s.boot.assocs (fn - 9)).map (·.relay)).getD false then 2 else 1

/-- UPDATE_BEGIN (R841, R842). -/
def execUpdateBegin (c : CmdIn) (totalBytes : Nat) (s : State) : Host.Outcome State Fault Refusal :=
  .next (runNow 0x0A01 (.updateBegin c totalBytes) c [(!inR totalBytes 0x260 33488896, 0)] s (fun cmd s =>
    if s.boot.staging.isSome then (fail stBusy, s)
    else
      let g : Staging := { state := .receiving, owner := cmd.fn, source := s.sourceOf cmd.fn, total := totalBytes }
      (okStatus, s.setStaging (some g))))

/-- UPDATE_DATA (R842, R843, R858): the transfer is queued. `hdr` is what the staging's header says once its bytes are among the
data. -/
def execUpdateData (c : CmdIn) (offset length : Nat) (hdr : Option StagingHdr) (s : State) : Host.Outcome State Fault Refusal :=
  .next (
    let most := if c.ring < 4096 then 16777216 else 16320
    runNow 0x0A02 (.updateData c offset length hdr) c [(!inR length 1 most, 0x10)] s (fun cmd s =>
      if 9 ≤ cmd.fn ∧ cmd.inline.length ≠ length then (badParam 12, s)
      else
      match s.boot.staging with
      | none => (fail stConflict, s)
      | some g =>
        if g.owner ≠ cmd.fn ∨ g.state ≠ .receiving then (fail stConflict, s)
        else if offset ≠ g.queued then (badParam 32, s)
        else if g.total < offset + length then (badParam 48, s)
        else
          (okStatus, s.setStaging (some { g with
            queued := g.queued + length, transfers := g.transfers ++ [(offset, length)], hdr := hdr.orElse (fun _ => g.hdr) }))))

/-- UPDATE_TRANSFER_DONE (R843): the oldest queued transfer has reached flash, or its read of host memory has failed. -/
def execUpdateTransferDone (dmaOk : Bool) (s : State) : Host.Outcome State Fault Refusal :=
  .next (s.whenFree (
    match s.boot.staging with
    | none => s
    | some g =>
      match g.transfers with
      | [] => s
      | (_, n) :: rest =>
        if !dmaOk then s.discardStaging 6
        else s.setStaging (some { g with written := g.written + n, transfers := rest })))

/-- UPDATE_END (R842, R844, R856): a CREDENTIALS staging from the management network is discarded; the recovery endpoint takes a
full staging only (R832). -/
def execUpdateEnd (c : CmdIn) (s : State) : Host.Outcome State Fault Refusal :=
  .next (runCmd 0x0A03 (.updateEnd c) c [] s (fun cmd s =>
    match s.boot.staging with
    | none => (some (fail stConflict), s)
    | some g =>
      let credentials := (g.hdr.map (·.credentials)).getD false
      let partial_ := decide ((g.hdr.map (·.baseDigest)).getD 0 ≠ 0)
      if g.owner ≠ cmd.fn ∨ g.state ≠ .receiving ∨ g.queued ≠ g.total then (some (fail stConflict), s)
      else if credentials && decide (9 ≤ cmd.fn) then (some (fail stDenied), s.setStaging none)
      else if s.boot.recovery && partial_ then (some (fail stConflict), s)
      else (some okStatus, s.setStaging (some { g with state := .closing }))))

/-- STAGING_CLOSED (R844, R852): every byte is in flash and the status record is written. -/
def execStagingClosed (s : State) : Host.Outcome State Fault Refusal :=
  .next (s.whenFree (
    match s.boot.staging with
    | none => s
    | some g =>
      if g.state ≠ .closing ∨ g.transfers ≠ [] ∨ g.written ≠ g.total then s
      else
        let firmware := !((g.hdr.map (·.credentials)).getD true)
        let offers := if firmware then 0 :: (if g.source = 3 then [] else [1]) else []
        s.setStaging (some { g with state := .closed, statusRecord := true, offers := offers })))

/-- UPDATE_ABORT (R842). -/
def execUpdateAbort (c : CmdIn) (s : State) : Host.Outcome State Fault Refusal :=
  .next (runNow 0x0A04 (.updateAbort c) c [] s (fun _ s =>
    match s.boot.staging with
    | none => (fail stNotFound, s)
    | some g => if g.state = .trial then (fail stNotFound, s) else (okStatus, s.discardStaging 7)))

/-- Table 23-8. -/
def State.updateStatus (s : State) : Bytes :=
  let g := s.boot.staging
  let st := match g.map (·.state) with
    | none => 0 | some .receiving => 1 | some .closing => 2 | some .closed => 3 | some .activated => 4 | some .trial => 5
  let kind := b2n (((g.bind (·.hdr)).map (·.credentials)).getD false)
  leBytes 1 (st + 8 * (g.map (·.source)).getD 0 + 32 * kind) ++ leBytes 1 s.boot.lastResult
    ++ leBytes 1 (b2n s.boot.bankB + 2 * s.boot.record.triesLeft) ++ leBytes 1 s.boot.floor ++ leBytes 4 0
    ++ leBytes 8 ((g.map (·.queued)).getD 0) ++ leBytes 8 ((g.map (·.written)).getD 0) ++ leBytes 8 ((g.map (·.total)).getD 0)
    ++ beBytes 48 ((s.runningBank.map (·.digest)).getD 0) ++ zeroBytes 16

/-- UPDATE_STATUS (R850). -/
def execUpdateStatus (c : CmdIn) (s : State) : Host.Outcome State Fault Refusal :=
  .next (runRead 0x0A05 (.updateStatus c) c [] s (fun _ s => okReply s.updateStatus))

/-! ### Activation and confirmation (R726, R845, R849) -/

/-- A partition is under scrub. -/
def State.scrubbing (s : State) : Bool := (List.range s.partsN).any (fun p => (s.partOf p).scrub.isSome)

/-- UPDATE_ACTIVATE (R726, R832, R845): with reset_now, and at the recovery endpoint, the device resets once the command has
completed. -/
def execUpdateActivate (c : CmdIn) (resetNow : Bool) (s : State) : Host.Outcome State Fault Refusal :=
  .next (
    let active := fun (s : State) => (s.boot.staging.map (·.state)) == some .activated
    let t := runNow 0x0A06 (.updateActivate c resetNow) c [] s (fun _ s =>
      if s.scrubbing then (fail stBusy, s)
      else
        match s.boot.staging with
        | none => (fail stNotFound, s)
        | some g =>
          match g.state with
          | .closing => (fail stBusy, s)
          | .closed =>
            (okStatus, (s.writeRecord (fun r => { r with applyPending := true })).setStaging
              (some { g with state := .activated, offers := [], relayAt := none }))
          | _ => (fail stNotFound, s))
    if (resetNow || s.boot.recovery) && !active s && active t then t.restart false else t)

/-- UPDATE_CONFIRM (R849). -/
def execUpdateConfirm (c : CmdIn) (s : State) : Host.Outcome State Fault Refusal :=
  .next (runNow 0x0A07 (.updateConfirm c) c [] s (fun _ s =>
    if !s.boot.record.trial then (fail stNotFound, s)
    else (okStatus, (s.writeRecord (fun r => { r with trial := false })).setStaging none)))

/-! ### Persistent settings (R661, R838, R839) -/

/-- R838: the settings that are saved. -/
def State.savedKeys (s : State) : Tab Nat :=
  s.settings.filter (fun e =>
    match settingScope (e.1 / 16777216) with
    | some .device => true
    | some .lane => true
    | some .port => true
    | some .bank => true
    | some .queue => s.setting 0x4001 (e.1 / 256 % 65536) 0 == ownerDevice
    | _ => false)

/-- R838: the time settings, with the pending origin when one exists. -/
def TimeBase.saved (t : TimeBase) : List (Nat × Int) :=
  [(0x7001, (t.originPending.getD t.originInForce : Nat)), (0x7002, t.ppsInDelay), (0x7003, t.ppsOutDelay), (0x7004, (t.todBaud : Nat)),
   (0x7005, (t.lockThreshold : Nat)), (0x7006, (t.outlierLimit : Nat)), (0x7007, (t.maxSlew : Nat)), (0x7008, (t.crosscheckBound : Nat))]

/-- R838: the capture of SETTINGS_SAVE. -/
def State.captureSettings (s : State) : SavedSettings :=
  let bank := fun (b : Nat) (x : RuleBank) => (x.rules.map (fun (e : Nat × Rule) => (4096 * b + e.1, e.2)) : Tab Rule)
  { seq := 0
    settings := s.time.saved.foldl (fun (t : Tab Nat) (e : Nat × Int) => mput t (settingKey e.1 0 0) ((e.2 % (2 ^ 128 : Int)).toNat)) s.savedKeys
    rules := bank 0 s.hall.bank0 ++ bank 1 s.hall.bank1
    activeBank := s.hall.activeBank
    anchors := s.boot.anchors }

/-- SETTINGS_SAVE (R838, R839): a capture that a write still works on is replaced. -/
def execSettingsSave (c : CmdIn) (s : State) : Host.Outcome State Fault Refusal :=
  .next (runNow 0x0A08 (.settingsSave c) c [] s (fun _ s =>
    (okStatus, { s with boot := { s.boot with capture := some s.captureSettings } })))

/-- SETTINGS_FLASH_WRITE (R839): the capture has been written, or its write fails its check. -/
def execSettingsFlashWrite (done : Bool) (s : State) : Host.Outcome State Fault Refusal :=
  .next (s.whenFree (
    match s.boot.capture with
    | none => s
    | some x =>
      if done then { s with boot := { s.boot.save x with capture := none } }
      else s.setSticky 136))

/-! ### Relaying an update (R852, R853) -/

/-- R852: the offer of a staging. -/
def Staging.offer (g : Staging) : Relay :=
  { op := 1, reason := 0, value := g.total, baseDigest := (g.hdr.map (·.baseDigest)).getD 0
    targetDigest := (g.hdr.map (·.target.digest)).getD 0, length := 0, hdr := none }

/-- R853: an answer to an offer. -/
def relayAnswer (op reason : Nat) : Relay :=
  { op := op, reason := reason, value := 0, baseDigest := 0, targetDigest := 0, length := 0, hdr := none }

/-- A relay datagram leaves on a management port. -/
def State.sendRelay (s : State) (port : Nat) (x : Relay) : State :=
  s.emit (.relay port x.op x.reason x.value x.baseDigest x.targetDigest)

/-- A relay payload leaves for the partner. -/
def State.sendUpdate (s : State) (x : Relay) : State := (s.pairSend (fun _ => .update x)).2.2

/-- RELAY_OFFER (R852): 10 s have passed, or the staging has become CLOSED: it is offered to the partner, or down the chain
unless the downstream port is down. -/
def execRelayOffer (banister downstreamUp : Bool) (s : State) : Host.Outcome State Fault Refusal :=
  .next (s.whenFree (
    match s.boot.staging with
    | none => s
    | some g =>
      if g.state ≠ .closed ∨ ¬ g.offers.contains (b2n banister) ∨ s.boot.recovery then s
      else if banister then (if s.paired then (s.sendUpdate g.offer).bump Ctr.hallRelayOffers else s)
      else if downstreamUp then (s.sendRelay 1 g.offer).bump Ctr.hallRelayOffers
      else s))

/-- R853: the answer to an offer: none accepts, otherwise the reason of the decline. -/
def State.offerFault (s : State) (x : Relay) : Option Nat :=
  if s.boot.staging.isSome then some 1
  else if x.baseDigest = 0 ∨ some x.baseDigest = s.runningBank.map (·.digest) then none
  else some 2

/-- R852: a neighbour has answered. -/
def State.answered (s : State) (n : Nat) : State :=
  match s.boot.staging with
  | none => s
  | some g => s.setStaging (some { g with offers := g.offers.filter (· != n) })

/-- OFFER (R852, R853): a relay datagram arrives: an offer from the device upstream, or its answer from the one downstream, to
which the staging then goes in a relay association (log entry 97). -/
def execOffer (port sender : Nat) (x : Relay) (s : State) : Host.Outcome State Fault Refusal :=
  .next (s.whenFree (
    if s.boot.recovery || !s.boot.stageOne then s
    else if x.op = 1 then
      match s.offerFault x with
      | none => ({ s with boot := { s.boot with acceptedFrom := some sender } }).sendRelay port (relayAnswer 2 0)
      | some r => (s.sendRelay port (relayAnswer 3 r)).bump Ctr.hallRelayDeclined
    else if x.op = 2 ∨ x.op = 3 then
      let open_ := match s.boot.staging with | some g => g.state == .closed && g.offers.contains 0 | none => false
      let s := s.answered 0
      if open_ && x.op == 2 then s.emit (.relayStaging sender) else s
    else s))

/-- Table 23-10: the most data that a DATA payload carries. -/
def relayChunk : Nat := 1432

/-- R853: the next DATA, or END, for a partner that has accepted. -/
def State.relayNext (s : State) : State :=
  match s.boot.staging with
  | none => s
  | some g =>
    match g.relayAt with
    | none => s
    | some at_ =>
      if !s.paired || g.state != .closed then s
      else if at_ < g.total then
        let n := min relayChunk (g.total - at_)
        (s.sendUpdate { relayAnswer 4 0 with value := at_, length := n, hdr := if at_ = 0 then g.hdr else none }).setStaging
          (some { g with relayAt := some (at_ + n) })
      else (s.sendUpdate (relayAnswer 5 0)).setStaging (some { g with relayAt := none })

/-- R853: the owner of a staging that the partner sends, which no session is. -/
def ownerPartner : Nat := 4095

/-- R853: what a payload from the partner does. -/
def State.takeUpdate (s : State) (x : Relay) : State :=
  match x.op, s.boot.staging with
  | 1, _ =>
    match s.offerFault x with
    | none =>
      let g : Staging := { state := .receiving, owner := ownerPartner, source := 3, total := x.value }
      (s.setStaging (some g)).sendUpdate (relayAnswer 2 0)
    | some r => (s.sendUpdate (relayAnswer 3 r)).bump Ctr.hallRelayDeclined
  | 2, some g =>
    if g.state = .closed ∧ g.offers.contains 1 then
      s.setStaging (some { g with offers := g.offers.filter (· != 1), relayAt := some 0 })
    else s
  | 3, some _ => s.answered 1
  | 4, some g =>
    if g.owner = ownerPartner ∧ g.state = .receiving ∧ x.value = g.queued ∧ g.queued + x.length ≤ g.total then
      s.setStaging (some { g with
        queued := g.queued + x.length, written := g.written + x.length, hdr := x.hdr.orElse (fun _ => g.hdr) })
    else s
  | 5, some g =>
    if g.owner = ownerPartner ∧ g.state = .receiving ∧ g.queued = g.total then s.setStaging (some { g with state := .closing })
    else s
  | _, _ => s

/-- UPDATE (R852, R853): a relay payload of the partner is acted on, or the next part of an accepted staging leaves for it. -/
def execUpdate (s : State) : Host.Outcome State Fault Refusal :=
  .next (s.whenFree (
    match s.nextMsg with
    | some (_, .update x) => if s.paired then s.popMsg.takeUpdate x else s.popMsg
    | _ => s.relayNext))

end Sys2Proof.Machine
end

