-- ==== Sys2Proof/Machine/Dispatch.lean ====
section
/-!
DEFINITION. Machine/Dispatch.lean: one arm for each command, each a direct call of the command's meaning.
-/
namespace Sys2Proof.Machine

def exec (i : Instr) (s : State) : Host.Outcome State Fault Refusal :=
  match i with
  | .configurationRequest => Sys2Proof.Machine.execConfigurationRequest s
  | .perstNAssert => Sys2Proof.Machine.execPerstNAssert s
  | .perstNRelease => Sys2Proof.Machine.execPerstNRelease s
  | .functionLevelReset fn => Sys2Proof.Machine.execFunctionLevelReset fn s
  | .pcieLinkTrained width rate => Sys2Proof.Machine.execPcieLinkTrained width rate s
  | .resetN rise lowNs => Sys2Proof.Machine.execResetN rise lowNs s
  | .railInRegulation rail => Sys2Proof.Machine.execRailInRegulation rail s
  | .vin12DropOut rail => Sys2Proof.Machine.execVin12DropOut rail s
  | .vstby33DropOut rail => Sys2Proof.Machine.execVstby33DropOut rail s
  | .romStage bootMode verifyA verifyB measurement apply => Sys2Proof.Machine.execRomStage bootMode verifyA verifyB measurement apply s
  | .hearthStage partsStart measurements converters => Sys2Proof.Machine.execHearthStage partsStart measurements converters s
  | .dramStage trained apply => Sys2Proof.Machine.execDramStage trained apply s
  | .selfTest failed landings => Sys2Proof.Machine.execSelfTest failed landings s
  | .settingsStage => Sys2Proof.Machine.execSettingsStage s
  | .ready => Sys2Proof.Machine.execReady s
  | .trialTimeout => Sys2Proof.Machine.execTrialTimeout s
  | .sysRefclkLoss running => Sys2Proof.Machine.execSysRefclkLoss running s
  | .serdesRefclkLoss n absent => Sys2Proof.Machine.execSerdesRefclkLoss n absent s
  | .adminEnable fn tee => Sys2Proof.Machine.execAdminEnable fn tee s
  | .adminReset fn tee => Sys2Proof.Machine.execAdminReset fn tee s
  | .stickyMirrorWrite fn mask => Sys2Proof.Machine.execStickyMirrorWrite fn mask s
  | .registerWrite fn offset value wide tee => Sys2Proof.Machine.execRegisterWrite fn offset value wide tee s
  | .sqTail fn page value tee => Sys2Proof.Machine.execSqTail fn page value tee s
  | .cqHead fn page value tee => Sys2Proof.Machine.execCqHead fn page value tee s
  | .commandFetch entry => Sys2Proof.Machine.execCommandFetch entry s
  | .startDeadlineExpiry ring => Sys2Proof.Machine.execStartDeadlineExpiry ring s
  | .fenceRelease ring => Sys2Proof.Machine.execFenceRelease ring s
  | .interruptCoalesceTimeout ring => Sys2Proof.Machine.execInterruptCoalesceTimeout ring s
  | .vectorUnmask fn vector tee => Sys2Proof.Machine.execVectorUnmask fn vector tee s
  | .sessionOpen c hostWord => Sys2Proof.Machine.execSessionOpen c hostWord s
  | .sessionClose c => Sys2Proof.Machine.execSessionClose c s
  | .ringCreate c localIx kind log2 vector coalCount coalTime drainSource sqBase cqBase => Sys2Proof.Machine.execRingCreate c localIx kind log2 vector coalCount coalTime drainSource sqBase cqBase s
  | .ringDestroy c localIx => Sys2Proof.Machine.execRingDestroy c localIx s
  | .ringReset c localIx => Sys2Proof.Machine.execRingReset c localIx s
  | .partitionConfigure c p => Sys2Proof.Machine.execPartitionConfigure c p s
  | .contextConfigure c p => Sys2Proof.Machine.execContextConfigure c p s
  | .partitionRelease c => Sys2Proof.Machine.execPartitionRelease c s
  | .partitionQuery c => Sys2Proof.Machine.execPartitionQuery c s
  | .settingWrite c setting inst element value => Sys2Proof.Machine.execSettingWrite c setting inst element value s
  | .settingRead c setting inst element => Sys2Proof.Machine.execSettingRead c setting inst element s
  | .ruleWrite c bank index rule => Sys2Proof.Machine.execRuleWrite c bank index rule s
  | .ruleRead c bank index => Sys2Proof.Machine.execRuleRead c bank index s
  | .ruleBankArm c switchNt => Sys2Proof.Machine.execRuleBankArm c switchNt s
  | .ruleBankQuery c => Sys2Proof.Machine.execRuleBankQuery c s
  | .bankSwap => Sys2Proof.Machine.execBankSwap s
  | .imageLoad c slot imageBytes head => Sys2Proof.Machine.execImageLoad c slot imageBytes head s
  | .imageLoadCheck partition slot result => Sys2Proof.Machine.execImageLoadCheck partition slot result s
  | .imageDiscard c slot => Sys2Proof.Machine.execImageDiscard c slot s
  | .imageQuery c => Sys2Proof.Machine.execImageQuery c s
  | .epochArm c slot requireResident epoch switchNt => Sys2Proof.Machine.execEpochArm c slot requireResident epoch switchNt s
  | .epochCancel c => Sys2Proof.Machine.execEpochCancel c s
  | .rolloutStart c handle => Sys2Proof.Machine.execRolloutStart c handle s
  | .epochSwitch partition => Sys2Proof.Machine.execEpochSwitch partition s
  | .stagedFillStart partition => Sys2Proof.Machine.execStagedFillStart partition s
  | .fillWaveEnd partition => Sys2Proof.Machine.execFillWaveEnd partition s
  | .epochRetirement partition => Sys2Proof.Machine.execEpochRetirement partition s
  | .tableLock c wing owner bucket => Sys2Proof.Machine.execTableLock c wing owner bucket s
  | .tableRead c wing owner bucket count staged => Sys2Proof.Machine.execTableRead c wing owner bucket count staged s
  | .tableWrite c wing owner bucket data dmaOk => Sys2Proof.Machine.execTableWrite c wing owner bucket data dmaOk s
  | .tableUnlock c wing owner bucket discard => Sys2Proof.Machine.execTableUnlock c wing owner bucket discard s
  | .lockBreak wing bucket => Sys2Proof.Machine.execLockBreak wing bucket s
  | .tableOverflowRead c wing first count => Sys2Proof.Machine.execTableOverflowRead c wing first count s
  | .tableOverflowDelete c handle entryGen => Sys2Proof.Machine.execTableOverflowDelete c handle entryGen s
  | .tableHash c key => Sys2Proof.Machine.execTableHash c key s
  | .tableShadowWrite c wing overflow first count data dmaOk => Sys2Proof.Machine.execTableShadowWrite c wing overflow first count data dmaOk s
  | .tableCompare c wing includeOverflow skipLearned queue priority firstBucket lastBucket compareId => Sys2Proof.Machine.execTableCompare c wing includeOverflow skipLearned queue priority firstBucket lastBucket compareId s
  | .compareUnit wing => Sys2Proof.Machine.execCompareUnit wing s
  | .compareDone wing => Sys2Proof.Machine.execCompareDone wing s
  | .reportRead c queue timeout found written => Sys2Proof.Machine.execReportRead c queue timeout found written s
  | .reportReadSelect partition queue found written failed => Sys2Proof.Machine.execReportReadSelect partition queue found written failed s
  | .reportReadTimeout partition queue => Sys2Proof.Machine.execReportReadTimeout partition queue s
  | .reportReadCompat c queue found => Sys2Proof.Machine.execReportReadCompat c queue found s
  | .exportQueueStats c queue reset => Sys2Proof.Machine.execExportQueueStats c queue reset s
  | .gateListSet c port entries base => Sys2Proof.Machine.execGateListSet c port entries base s
  | .gateListCancel c port => Sys2Proof.Machine.execGateListCancel c port s
  | .timeConfig c setting inst element value => Sys2Proof.Machine.execTimeConfig c setting inst element value s
  | .timeStatus c => Sys2Proof.Machine.execTimeStatus c s
  | .counterRead c firstId count => Sys2Proof.Machine.execCounterRead c firstId count s
  | .snapshot c toHost atNt hostAddr length => Sys2Proof.Machine.execSnapshot c toHost atNt hostAddr length s
  | .traceConfig c buffer enable triggerMask postRecords stallThreshold => Sys2Proof.Machine.execTraceConfig c buffer enable triggerMask postRecords stallThreshold s
  | .traceRelease c buffer => Sys2Proof.Machine.execTraceRelease c buffer s
  | .deviceIdentity c => Sys2Proof.Machine.execDeviceIdentity c s
  | .healthStatus c temps => Sys2Proof.Machine.execHealthStatus c temps s
  | .mantelRead c die section_ offset => Sys2Proof.Machine.execMantelRead c die section_ offset s
  | .stickyRead c => Sys2Proof.Machine.execStickyRead c s
  | .stickyClear c mask => Sys2Proof.Machine.execStickyClear c mask s
  | .keyLoad c keyGen wrappedBytes blob => Sys2Proof.Machine.execKeyLoad c keyGen wrappedBytes blob s
  | .previousKeyErase partition => Sys2Proof.Machine.execPreviousKeyErase partition s
  | .keyQuery c => Sys2Proof.Machine.execKeyQuery c s
  | .updateBegin c totalBytes => Sys2Proof.Machine.execUpdateBegin c totalBytes s
  | .updateData c offset length hdr => Sys2Proof.Machine.execUpdateData c offset length hdr s
  | .updateTransferDone dmaOk => Sys2Proof.Machine.execUpdateTransferDone dmaOk s
  | .updateEnd c => Sys2Proof.Machine.execUpdateEnd c s
  | .stagingClosed => Sys2Proof.Machine.execStagingClosed s
  | .updateAbort c => Sys2Proof.Machine.execUpdateAbort c s
  | .updateStatus c => Sys2Proof.Machine.execUpdateStatus c s
  | .updateActivate c resetNow => Sys2Proof.Machine.execUpdateActivate c resetNow s
  | .updateConfirm c => Sys2Proof.Machine.execUpdateConfirm c s
  | .settingsSave c => Sys2Proof.Machine.execSettingsSave c s
  | .settingsFlashWrite done => Sys2Proof.Machine.execSettingsFlashWrite done s
  | .pairSetup c standby => Sys2Proof.Machine.execPairSetup c standby s
  | .pairRelease c => Sys2Proof.Machine.execPairRelease c s
  | .pairStatus c => Sys2Proof.Machine.execPairStatus c s
  | .pairSwitchover c => Sys2Proof.Machine.execPairSwitchover c s
  | .pairResync c => Sys2Proof.Machine.execPairResync c s
  | .dumpTake c scope hostAddr length waits => Sys2Proof.Machine.execDumpTake c scope hostAddr length waits s
  | .dumpStatus c => Sys2Proof.Machine.execDumpStatus c s
  | .waitforRead c => Sys2Proof.Machine.execWaitforRead c s
  | .digest lane age frame fcsOk cut corrected uncorrectable => Sys2Proof.Machine.execDigest lane age frame fcsOk cut corrected uncorrectable s
  | .controlReceive lane frame fcsOk cut corrected uncorrectable => Sys2Proof.Machine.execControlReceive lane frame fcsOk cut corrected uncorrectable s
  | .foreignFrame lane frame fcsOk cut corrected uncorrectable => Sys2Proof.Machine.execForeignFrame lane frame fcsOk cut corrected uncorrectable s
  | .rxIpv6 lane frame fcsOk cut corrected uncorrectable => Sys2Proof.Machine.execRxIpv6 lane frame fcsOk cut corrected uncorrectable s
  | .laneDown lane => Sys2Proof.Machine.execLaneDown lane s
  | .linkUp lane => Sys2Proof.Machine.execLinkUp lane s
  | .controlFrameCredit lane => Sys2Proof.Machine.execControlFrameCredit lane s
  | .controlFrameIdle lane => Sys2Proof.Machine.execControlFrameIdle lane s
  | .creditResume => Sys2Proof.Machine.execCreditResume s
  | .parse => Sys2Proof.Machine.execParse s
  | .dispatch => Sys2Proof.Machine.execDispatch s
  | .quotaRelease wing partition => Sys2Proof.Machine.execQuotaRelease wing partition s
  | .batchClose wing partition modelSlot graph stage place => Sys2Proof.Machine.execBatchClose wing partition modelSlot graph stage place s
  | .settleWait wing batch => Sys2Proof.Machine.execSettleWait wing batch s
  | .batchDescriptor tile ecc => Sys2Proof.Machine.execBatchDescriptor tile ecc s
  | .lookup wing entry uncorrectable => Sys2Proof.Machine.execLookup wing entry uncorrectable s
  | .inputState wing entry cacheBad larderBad => Sys2Proof.Machine.execInputState wing entry cacheBad larderBad s
  | .readyToCommit wing entry => Sys2Proof.Machine.execReadyToCommit wing entry s
  | .commit wing entry => Sys2Proof.Machine.execCommit wing entry s
  | .squash wing entry => Sys2Proof.Machine.execSquash wing entry s
  | .squashDiscardComplete wing entry => Sys2Proof.Machine.execSquashDiscardComplete wing entry s
  | .deadline => Sys2Proof.Machine.execDeadline s
  | .verdictArrival wing => Sys2Proof.Machine.execVerdictArrival wing s
  | .verdictFrame lane => Sys2Proof.Machine.execVerdictFrame lane s
  | .exportFrame port => Sys2Proof.Machine.execExportFrame port s
  | .shaperEligible queue => Sys2Proof.Machine.execShaperEligible queue s
  | .payloadClose queue => Sys2Proof.Machine.execPayloadClose queue s
  | .insertion wing => Sys2Proof.Machine.execInsertion wing s
  | .backgroundClear wing partition bad => Sys2Proof.Machine.execBackgroundClear wing partition bad s
  | .epochWalk wing partition bad => Sys2Proof.Machine.execEpochWalk wing partition bad s
  | .epochWalkEnd partition => Sys2Proof.Machine.execEpochWalkEnd partition s
  | .rolloutBatch wing partition modelSlot plan => Sys2Proof.Machine.execRolloutBatch wing partition modelSlot plan s
  | .rolloutRecord wing batch => Sys2Proof.Machine.execRolloutRecord wing batch s
  | .gateList port => Sys2Proof.Machine.execGateList port s
  | .pairTableApply wing => Sys2Proof.Machine.execPairTableApply wing s
  | .pairInsertApply wing => Sys2Proof.Machine.execPairInsertApply wing s
  | .windowEdge partition slot => Sys2Proof.Machine.execWindowEdge partition slot s
  | .ageSweep wing partition => Sys2Proof.Machine.execAgeSweep wing partition s
  | .sweepOverrun wing partition => Sys2Proof.Machine.execSweepOverrun wing partition s
  | .interval1ms block margins => Sys2Proof.Machine.execInterval1ms block margins s
  | .stateHash wing => Sys2Proof.Machine.execStateHash wing s
  | .shaperSample => Sys2Proof.Machine.execShaperSample s
  | .snapshotCopy block => Sys2Proof.Machine.execSnapshotCopy block s
  | .snapshotWindowSwap fn => Sys2Proof.Machine.execSnapshotWindowSwap fn s
  | .periodicSnapshot => Sys2Proof.Machine.execPeriodicSnapshot s
  | .wingResume wing => Sys2Proof.Machine.execWingResume wing s
  | .ppsInEdge age => Sys2Proof.Machine.execPpsInEdge age s
  | .todMessage message => Sys2Proof.Machine.execTodMessage message s
  | .holdover => Sys2Proof.Machine.execHoldover s
  | .ppsOut => Sys2Proof.Machine.execPpsOut s
  | .timeWrapNear => Sys2Proof.Machine.execTimeWrapNear s
  | .recordPush partition queue => Sys2Proof.Machine.execRecordPush partition queue s
  | .reportNotifyTimeout partition queue => Sys2Proof.Machine.execReportNotifyTimeout partition queue s
  | .mma tile array ecc => Sys2Proof.Machine.execMma tile array ecc s
  | .sel tile array ecc => Sys2Proof.Machine.execSel tile array ecc s
  | .dist tile array ecc => Sys2Proof.Machine.execDist tile array ecc s
  | .passComplete tile array => Sys2Proof.Machine.execPassComplete tile array s
  | .formChange tile array => Sys2Proof.Machine.execFormChange tile array s
  | .rampUp tile array => Sys2Proof.Machine.execRampUp tile array s
  | .rampDown tile array => Sys2Proof.Machine.execRampDown tile array s
  | .swap tile array column => Sys2Proof.Machine.execSwap tile array column s
  | .tagHold tile array => Sys2Proof.Machine.execTagHold tile array s
  | .tagMismatch tile array => Sys2Proof.Machine.execTagMismatch tile array s
  | .feed tile array ecc => Sys2Proof.Machine.execFeed tile array ecc s
  | .feedScale tile array ecc => Sys2Proof.Machine.execFeedScale tile array ecc s
  | .feedCodebook tile array ecc => Sys2Proof.Machine.execFeedCodebook tile array ecc s
  | .drain tile array ecc => Sys2Proof.Machine.execDrain tile array ecc s
  | .preload tile array ecc => Sys2Proof.Machine.execPreload tile array ecc s
  | .pipe tile ecc => Sys2Proof.Machine.execPipe tile ecc s
  | .group tile ecc => Sys2Proof.Machine.execGroup tile ecc s
  | .topk tile ecc => Sys2Proof.Machine.execTopk tile ecc s
  | .link tile ecc => Sys2Proof.Machine.execLink tile ecc s
  | .check tile => Sys2Proof.Machine.execCheck tile s
  | .verdict tile ecc => Sys2Proof.Machine.execVerdict tile ecc s
  | .table tile ecc => Sys2Proof.Machine.execTable tile ecc s
  | .tree tile ecc => Sys2Proof.Machine.execTree tile ecc s
  | .load tile ecc dramBad => Sys2Proof.Machine.execLoad tile ecc dramBad s
  | .gather tile ecc dramBad => Sys2Proof.Machine.execGather tile ecc dramBad s
  | .store tile ecc => Sys2Proof.Machine.execStore tile ecc s
  | .pending tile ecc => Sys2Proof.Machine.execPending tile ecc s
  | .stateIn tile ecc => Sys2Proof.Machine.execStateIn tile ecc s
  | .stateRelease tile ecc => Sys2Proof.Machine.execStateRelease tile ecc s
  | .reduce tile ecc => Sys2Proof.Machine.execReduce tile ecc s
  | .sync tile => Sys2Proof.Machine.execSync tile s
  | .wait tile => Sys2Proof.Machine.execWait tile s
  | .mark tile => Sys2Proof.Machine.execMark tile s
  | .quiesce tile => Sys2Proof.Machine.execQuiesce tile s
  | .reissue wing batch => Sys2Proof.Machine.execReissue wing batch s
  | .tileRetirement wing => Sys2Proof.Machine.execTileRetirement wing s
  | .rowRetirement wing stack channel bank row cause spare lost => Sys2Proof.Machine.execRowRetirement wing stack channel bank row cause spare lost s
  | .landingLaneSparing wing laneGroup => Sys2Proof.Machine.execLandingLaneSparing wing laneGroup s
  | .patrolScrub wing partition address uncorrectable => Sys2Proof.Machine.execPatrolScrub wing partition address uncorrectable s
  | .wingRecovery wing => Sys2Proof.Machine.execWingRecovery wing s
  | .hang hung waits => Sys2Proof.Machine.execHang hung waits s
  | .throttleStep wing temp => Sys2Proof.Machine.execThrottleStep wing temp s
  | .thermtrip => Sys2Proof.Machine.execThermtrip s
  | .regulatorFault domain => Sys2Proof.Machine.execRegulatorFault domain s
  | .droop wing mhz => Sys2Proof.Machine.execDroop wing mhz s
  | .mantelWrite die section_ ok alarm => Sys2Proof.Machine.execMantelWrite die section_ ok alarm s
  | .pmbusPoll readings => Sys2Proof.Machine.execPmbusPoll readings s
  | .pmAlert asserted status => Sys2Proof.Machine.execPmAlert asserted status s
  | .traceRecord buffer => Sys2Proof.Machine.execTraceRecord buffer s
  | .stallRecord buffer engine reason context layer op batch => Sys2Proof.Machine.execStallRecord buffer engine reason context layer op batch s
  | .bounceStart fn => Sys2Proof.Machine.execBounceStart fn s
  | .endSession fn => Sys2Proof.Machine.execEndSession fn s
  | .envelope fn slot data => Sys2Proof.Machine.execEnvelope fn slot data s
  | .getCertificate fn slot => Sys2Proof.Machine.execGetCertificate fn slot s
  | .keyExchange fn slot => Sys2Proof.Machine.execKeyExchange fn slot s
  | .getMeasurements fn => Sys2Proof.Machine.execGetMeasurements fn s
  | .spdmRequest fn code => Sys2Proof.Machine.execSpdmRequest fn code s
  | .lockInterfaceRequest fn => Sys2Proof.Machine.execLockInterfaceRequest fn s
  | .startInterfaceRequest fn => Sys2Proof.Machine.execStartInterfaceRequest fn s
  | .tdispError fn => Sys2Proof.Machine.execTdispError fn s
  | .ideKm fn stream key => Sys2Proof.Machine.execIdeKm fn stream key s
  | .boundaryScan instr => Sys2Proof.Machine.execBoundaryScan instr s
  | .internalScan => Sys2Proof.Machine.execInternalScan s
  | .scrubDrain partition => Sys2Proof.Machine.execScrubDrain partition s
  | .scrubOnDie partition => Sys2Proof.Machine.execScrubOnDie partition s
  | .scrubDram partition => Sys2Proof.Machine.execScrubDram partition s
  | .banisterConnect lanes authentic info => Sys2Proof.Machine.execBanisterConnect lanes authentic info s
  | .banisterFrame lane header fcsOk authentic msgs => Sys2Proof.Machine.execBanisterFrame lane header fcsOk authentic msgs s
  | .heartbeat => Sys2Proof.Machine.execHeartbeat s
  | .resend => Sys2Proof.Machine.execResend s
  | .partnerLost => Sys2Proof.Machine.execPartnerLost s
  | .insert => Sys2Proof.Machine.execInsert s
  | .tableChange => Sys2Proof.Machine.execTableChange s
  | .prepare => Sys2Proof.Machine.execPrepare s
  | .vote => Sys2Proof.Machine.execVote s
  | .voteTimeout => Sys2Proof.Machine.execVoteTimeout s
  | .commitMessage => Sys2Proof.Machine.execCommitMessage s
  | .stateHashMessage => Sys2Proof.Machine.execStateHashMessage s
  | .resyncBegin => Sys2Proof.Machine.execResyncBegin s
  | .resyncData => Sys2Proof.Machine.execResyncData s
  | .blockRequest => Sys2Proof.Machine.execBlockRequest s
  | .resyncWalker wing partition => Sys2Proof.Machine.execResyncWalker wing partition s
  | .resyncEnd wing partition => Sys2Proof.Machine.execResyncEnd wing partition s
  | .role => Sys2Proof.Machine.execRole s
  | .release => Sys2Proof.Machine.execRelease s
  | .update => Sys2Proof.Machine.execUpdate s
  | .relayOffer banister downstreamUp => Sys2Proof.Machine.execRelayOffer banister downstreamUp s
  | .offer port sender x => Sys2Proof.Machine.execOffer port sender x s
  | .dtlsHandshake anchor linkSerial => Sys2Proof.Machine.execDtlsHandshake anchor linkSerial s
  | .commandRecord assoc rec => Sys2Proof.Machine.execCommandRecord assoc rec s
  | .associationIdle assoc => Sys2Proof.Machine.execAssociationIdle assoc s
  | .bridgeFrame port frame => Sys2Proof.Machine.execBridgeFrame port frame s
  | .neighbourDiscovery port frame => Sys2Proof.Machine.execNeighbourDiscovery port frame s
  | .backgroundClearEnd partition => Sys2Proof.Machine.execBackgroundClearEnd partition s
  | .gateEntryChange port => Sys2Proof.Machine.execGateEntryChange port s
  | .refreshDoubled stack hot => Sys2Proof.Machine.execRefreshDoubled stack hot s

end Sys2Proof.Machine
end

