-- ==== Sys2Proof/Machine/Idle.lean ====
section
/-!
DEFINITION. Machine/Idle.lean: one Hall cycle (log entry 1).
-/
namespace Sys2Proof.Machine

/-- R434: the partition's batches wait for tokens of earlier statistics batches. -/
def State.countSettle (s : State) : State :=
  let waiting := fun (p : Nat) (x : Wing) => x.batches.any (fun e => e.2.partition == p && !e.2.sent && !e.2.aborted)
  (List.range s.partsN).foldl (fun s p =>
    if waiting p s.wing0 || waiting p s.wing1 then s.bump (Ctr.partSettleWait p) else s) s

/-- R309, R763: the cycles that a Wing's clock completes in one Hall cycle of 1.0 GHz, none while it is stopped; partitions at
their Stairwell quota count them. -/
def State.countQuota (s : State) : State :=
  (List.range s.wings).foldl (fun (s : State) w =>
    if s.time.wingStopped.contains w then s
    else
      let run := (s.wing w).phase + s.wingMhz w
      let s := s.setWing w { s.wing w with phase := run % 1000 }
      (List.range s.partsN).foldl (fun (s : State) p =>
        if (s.partOf p).state ≠ .unconfigured ∧ s.stairQuota w p ≤ (s.wing w).held p then
          s.bumpN (Ctr.pwQuotaFullCycles (pwIx w p)) (run / 1000)
        else s) s) s

/-- R747: the primary defers a change of a Wing: a sweep, a pending key or an unlock waits for its change log. -/
def State.defersChange (s : State) (w : Nat) : Bool :=
  let x := s.wing w
  let unlocks := s.host.rings.any (fun e => e.2.running.any (fun c => c.hdr.opcode == 0x0404 && !c.started))
  s.isPrimary && s.logFull w && (!x.sweeps.isEmpty || !x.coalescer.isEmpty || unlocks)

/-- R742: a lookup of a Wing waits for the covered instant. -/
def State.awaitsCover (s : State) (w : Nat) : Bool :=
  (s.wing w).stairs.any (fun y => y.state == .admitted && y.squash.isNone && !y.abandoned && s.uncovered y.pkt.slot.at_)

/-- R742, R747: a Hall cycle in which a lookup waits, and one in which a change is deferred, are counted (log entry 231). -/
def State.countPair (s : State) : State :=
  let ws := List.range s.wings
  let s := if ws.any s.awaitsCover then s.bump Ctr.pairLookupWaitCycles else s
  if ws.any s.defersChange then s.bump Ctr.pairLogFullCycles else s

/-- Log entry 1: one Hall cycle with no command: NT counts (R521) and every report queue that a record is being written into takes one
word (R668); lanes and ports count the cycles of R111, R556 and R579, partitions those of R434 and R309, the pair those of R742 and R747;
records that R60 and R171 put into this cycle leave. Nothing counts while the device stands still, or before every occurrence that is due
has started (R544). -/
def State.idle (s : State) : State :=
  if s.dead || !s.allStarted then s
  else
    let s := { s with time := s.time.tick }
    let s := (s.rqs.map (·.1)).foldl (fun s k => s.tickRq k) s
    s.countLanes.countGates.countSettle.countQuota.countPair.settle

end Sys2Proof.Machine
end

