-- ==== Sys2Proof/Certificates/Slice0/Obligations.lean ====
section
/-!
DEFINITION. Certificates/Slice0/Obligations.lean: the statements for the provers, in the order of the manual's chapters,
behind the abbreviations that they share.
-/
open Sys2Proof Sys2Proof.Machine

namespace Sys2Proof.Claims

/-! ### Shared abbreviations -/

/-- The command's answer is the next state `t`. -/
abbrev Gives (i : Instr) (s t : State) : Prop := Machine.exec i s = .next t

/-- A counter that rose by `n` from `a`, saturating at 2^64 - 1 (R759), or did not rise. -/
abbrev rose (a n : Nat) : Nat := if n = 0 then a else min max64 (a + n)

/-- Everything but the Hall's lanes, the counters and the pair's stamps is as it was. -/
abbrev OnlyLanes (s t : State) : Prop :=
  t = { s with hall := { s.hall with lanes := t.hall.lanes }, counters := t.counters,
               pair := { s.pair with stamps := t.pair.stamps } }

/-- Two states agree on every counter outside a list. -/
abbrev SameCounters (except : List Nat) (s t : State) : Prop := ∀ id, id ∉ except → t.ctr id = s.ctr id

/-- R643, R646, R651, R653 (Table 17-4): the ring or association of `c` holds the command `cmd` with the opcode of the row `i`, which
can start now: it waits for no fence and for no step of this Hall cycle, its header passes every check, its parameters have come (R635),
are readable, free of reserved bits and those of the row, and the Hall has no occurrence to start first (R544). -/
abbrev Ready (op : Nat) (i : Instr) (c : CmdIn) (s : State) (cmd : Cmd) : Prop :=
  s.cmdAt c.ring = some cmd ∧ cmd.hdr.opcode = op ∧ cmd.started = false ∧ s.fenced cmd = false ∧ s.hallFree = true ∧
  s.outOfTurn c.ring cmd = false ∧ headCheck s cmd = none ∧ s.dataMissing c.ring cmd 0 = false ∧ s.spelled i c.ring cmd = true ∧
  c.readable = true ∧ c.rsvAt = none ∧ s.paramRest i c.ring cmd = none

/-- R635, R858: the `n` bytes of the buffer that a command reads have come, and where the device holds them they are as the row says. -/
abbrev DataHere (c : CmdIn) (s : State) (cmd : Cmd) (n : Nat) (holds : Bytes → Bool) : Prop :=
  s.dataMissing c.ring cmd n = false ∧ (s.heldData c.ring cmd).all holds = true

/-- R649, R652, R858: the reply fits its buffer and can be written. -/
abbrev Room (c : CmdIn) (n : Nat) : Prop :=
  n ≤ (if c.ring < 4096 then c.replyLen else min c.replyLen 16368) ∧ c.replyFails = false

/-- The command ends with ST_OK and no reply, and the state is `t` but for its completion (R612). -/
abbrev Succeeds (i : Instr) (c : CmdIn) (s t : State) : Prop := Gives i s (t.complete c.ring { status := 0 })

/-- The command ends with ST_OK and reply data, and the state is `t` but for its completion. -/
abbrev Replies (i : Instr) (c : CmdIn) (s t : State) (reply : Bytes) : Prop :=
  Gives i s (t.complete c.ring { status := 0, reply := reply })

/-- The command ends with a status other than ST_OK and changes nothing but its completion (R652). -/
abbrev Fails (i : Instr) (c : CmdIn) (s : State) (st : Nat) : Prop :=
  ∃ detail, Gives i s (s.complete c.ring { status := st, detail := detail })

/-- A table lists its numbers once each, in ascending order. -/
abbrev Ascending {α : Type} (t : Tab α) : Prop := t.Pairwise (fun x y => x.1 < y.1)

/-- The device is no member of an active pair (R748 then runs no vote). -/
abbrev Alone (s : State) : Prop := s.isStandby = false ∧ s.isPrimary = false

end Sys2Proof.Claims

open Sys2Proof.Claims

/-! ### The block -/

/-- A step runs the command at the front of the queue on the state with the queue's rest (log entry 1). -/
def Obligations.StepRunsFront : Prop :=
  ∀ (c : Instr) (rest : List Instr) (s : State),
    step { s with pending := c :: rest } = exec c { s with pending := rest }

/-- R311: tile memory and DRAM hold bytes: a store keeps the canonical form of a memory, reads back, and leaves every byte
outside the stored ones. -/
def Obligations.MemoryReadsBack : Prop :=
  ∀ (m : Mem) (a b : Nat) (bs : Bytes), memWf m = true →
    memWf (memWrite m a bs) = true ∧
    memGet (memWrite m a bs) b = (if a ≤ b ∧ b < a + bs.length then (bs[b - a]?).getD 0 else memGet m b)

/-! ### From digest to verdict (chapter 02) -/

namespace Sys2Proof.Claims

/-- A lane still on the link over which a digest came (R118). -/
abbrev LinkOf (s : State) (k : Slot) : Prop := (s.lane k.lane).up = true ∧ (s.lane k.lane).session = k.session

/-- R59: no earlier digest of the flow of `e` waits for its record. -/
abbrev FirstOfFlow (s : State) (e : Pend) : Prop :=
  ∀ x ∈ s.hall.pends.takeWhile (fun x => x.id != e.id), x.flow = e.flow → x.emitted = true

end Sys2Proof.Claims

/-- R50, R54, R94: at the deadline instant of a packet without a completion time the partition's default verdict leaves
on its lane, with the flag late alone, and the partition counts it. -/
abbrev Sys2Proof.Claims.DeadlinePassed : Prop :=
  ∀ (s : State) (e : Pend) (d : Nat), s.hallFree = true → s.hall.pends.find? (fun x => x.due s.nt) = some e →
    e.answer = .model d none → s.hall.pends.find? (fun x => x.id == e.id && !x.emitted) = some e →
    FirstOfFlow s e → LinkOf s e.slot → e.partition < 16 → e.slot.lane < 48 →
    d ≤ s.nt ∧ ∃ (t : State) (r : VerdictRec) (more : List VerdictRec), Gives .deadline s t ∧
      (t.lane e.slot.lane).verdicts = (s.lane e.slot.lane).verdicts ++ r :: more ∧
      r.tag = leAt e.slot.data 0 4 ∧ r.partition = e.partition ∧ r.flags = 1 ∧ r.cls = 0xFF ∧ r.score = 0 ∧
      r.action = s.partSettingAt e.slot.seen 0x1002 e.partition ∧ r.param = s.partSettingAt e.slot.seen 0x1003 e.partition ∧
      t.ctr (Ctr.partVerdictLate e.partition) = rose (s.ctr (Ctr.partVerdictLate e.partition)) 1

/-- R49, R51, R52: a committed verdict that arrives before the packet's deadline instant is emitted as it is; one that
arrives for a packet whose default verdict has left goes to no lane and is written as a LATE record to the partition's
late queue, with its late priority. -/
abbrev Sys2Proof.Claims.VerdictArrives : Prop :=
  ∀ (s : State) (w : Nat) (x : Returning) (rest : List Returning) (e : Pend) (d : Nat),
    s.hallFree = true → (s.wing w).returning = x :: rest → s.hall.pends.find? (fun y => y.id == x.id) = some e →
    e.answer = .model d none →
    (s.nt < d → e.emitted = false → e.waits s.nt = false → nextReady s.nt s.hall.pends [] = none → FirstOfFlow s e →
      LinkOf s e.slot →
      ∃ (t : State) (more : List VerdictRec), Gives (.verdictArrival w) s t ∧
        (t.lane e.slot.lane).verdicts = (s.lane e.slot.lane).verdicts ++ x.verdict :: more ∧
        (t.wing w).returning = rest) ∧
    (e.emitted = true →
      let u := s.setWing w { s.wing w with returning := rest }
      Gives (.verdictArrival w) s
        ((({ u with hall := { u.hall with pends := u.hall.pends.filter (fun y => y.id != e.id) } } : State).record e.partition
          (s.partSettingAt e.slot.seen 0x1004 e.partition) (s.partSettingAt e.slot.seen 0x1005 e.partition) 1
          (leBytes 4 (leAt e.slot.data 0 4) ++ leBytes 2 e.epoch ++ leBytes 1 e.slot.lane ++ leBytes 1 0 ++
            leBytes 8 e.slot.at_ ++ x.verdict.bytes ++ leBytes 4 (min (s.nt - d) 4294967295) ++ leBytes 4 0))))

/-- R47, R50 to R52: a packet that reaches its deadline takes its default verdict, and a verdict that arrives in time takes its place. -/
def Obligations.VerdictsKeepDeadlines : Prop :=
  Claims.DeadlinePassed ∧ Claims.VerdictArrives

/-! ### Digest links (chapter 03) -/

namespace Sys2Proof.Claims

/-- What a buffered slot holds of its frame. -/
abbrev slotOf (k : Slot) : Nat × Nat × Nat × Nat × Bytes := (k.stamp, k.lane, k.pos, k.cost, k.data)

/-- R81, R85, R86: the accepted slots of a frame with their positions. -/
def acceptedSlots (frame : Bytes) : List (Nat × Bytes) :=
  ((List.range (leAt frame 19 1)).map (fun i => (i, slice frame (40 + i * slotSize frame) (slotSize frame)))).filter
    (fun e => slotOk e.2)

/-- R76, R538, R539, R544: the frame belongs to the device's protocol and ends on a lane that receives; its start-of-frame
delimiter crossed the lands `age` NT units ago, no longer ago than a frame takes and after that of the lane's last one. -/
abbrev Arrives (lane age : Nat) (frame : Bytes) (s : State) : Prop :=
  lane < 48 ∧ s.receives lane = true ∧ age ≤ max longestDigest (wireNt (8 + frame.length + 4)) ∧ (s.lane lane).follows (s.nt - age) = true ∧
  etherType frame = s.dlfType lane

/-- R83, R103: a DIGEST frame that passes every check. -/
abbrev DigestPasses (lane : Nat) (frame : Bytes) (s : State) : Prop :=
  frameFormatOk lane 1 frame = true ∧ serialLt ((s.lane lane).lastLimit) (leAt frame 22 2) = false ∧
  serialLt ((leAt frame 22 2 + 65536 - (s.lane lane).lastConsumed % 65536) % 65536)
    (leAt frame 19 1 * (slotSize frame / 128)) = false

end Sys2Proof.Claims

/-- R81, R85, R86, R88, R103, R538, R539: a DIGEST frame that passes every check puts its accepted slots into the lane buffer
in order, all with the stamp of its start-of-frame delimiter, which is the lane's last stamp from then on; the credit count
and the frame number are taken; nothing outside the lanes, their counters and the pair's stamps changes. -/
def Obligations.DigestAccepted : Prop :=
  ∀ (lane age : Nat) (frame : Bytes) (cw : Nat) (s : State),
    Arrives lane age frame s → DigestPasses lane frame s →
    ∃ t : State, Gives (.digest lane age frame true false cw 0) s t ∧
      (t.lane lane).buf.map slotOf = (s.lane lane).buf.map slotOf ++
        (acceptedSlots frame).map (fun e => (s.nt - age, lane, e.1, slotSize frame / 128, e.2)) ∧
      (t.lane lane).lastStamp = some (s.nt - age) ∧
      (t.lane lane).lastConsumed = leAt frame 22 2 ∧ (t.lane lane).rxSeq = some (leAt frame 16 2) ∧
      (t.lane lane).rxDiscard = (s.lane lane).rxDiscard ∧ (t.lane lane).limitSent = (s.lane lane).limitSent ∧
      (t.lane lane).verdicts = (s.lane lane).verdicts ∧ (t.lane lane).corrected = (s.lane lane).corrected + cw ∧
      t.ctr (Ctr.laneFramesRx lane) = rose (s.ctr (Ctr.laneFramesRx lane)) 1 ∧
      t.ctr (Ctr.laneSlotsAccepted lane) = rose (s.ctr (Ctr.laneSlotsAccepted lane)) (acceptedSlots frame).length ∧
      t.ctr (Ctr.laneSlotReject lane) = rose (s.ctr (Ctr.laneSlotReject lane))
        (leAt frame 19 1 - (acceptedSlots frame).length) ∧
      (∀ n, n ≠ lane → t.lane n = s.lane n) ∧ OnlyLanes s t

namespace Sys2Proof.Claims

/-- R83, R87, R112: the lane counts a discarded frame under `id` and in rx_discard_count, keeps `last` as its last stamp, and
nothing else changes but the counts of codewords. -/
abbrev Discards (i : Instr) (lane id cw : Nat) (last : Option Nat) (s : State) : Prop :=
  ∃ t : State, Gives i s t ∧
    t.lane lane = { s.lane lane with corrected := (s.lane lane).corrected + cw, rxDiscard := satAdd 65535 (s.lane lane).rxDiscard 1, lastStamp := last } ∧
    t.ctr id = rose (s.ctr id) 1 ∧ (∀ n, n ≠ lane → t.lane n = s.lane n) ∧
    SameCounters [id, Ctr.laneFecCorrected lane, Ctr.laneFecUncorrectable lane] s t ∧ OnlyLanes s t

/-- R84, R112, R558: the lane counts the frame under `id` and its corrected codewords, and nothing else changes. -/
abbrev CountsFrame (i : Instr) (lane id cw : Nat) (s : State) : Prop :=
  ∃ t : State, Gives i s t ∧ t.lane lane = { s.lane lane with corrected := (s.lane lane).corrected + cw } ∧
    t.ctr id = rose (s.ctr id) 1 ∧ t.ctr (Ctr.laneFecCorrected lane) = min max64 (s.ctr (Ctr.laneFecCorrected lane) + cw) ∧
    (∀ n, n ≠ lane → t.lane n = s.lane n) ∧
    SameCounters [id, Ctr.laneFecCorrected lane, Ctr.laneFecUncorrectable lane] s t ∧ OnlyLanes s t

end Sys2Proof.Claims

/-- R83, R87, R103, R112: a DIGEST or CONTROL frame that fails a check is discarded whole and counted under the reason of Table
03-9: a wrong FCS, a cut or an uncorrectable codeword first, then form, then the two comparisons of the credit check. -/
abbrev Sys2Proof.Claims.FrameDiscarded : Prop :=
  ∀ (lane age : Nat) (frame : Bytes) (cw uw : Nat) (s : State), lane < 48 → s.receives lane = true →
    (∀ fcs cut, (fcs = false ∨ cut = true ∨ uw ≠ 0) →
      Discards (.digest lane age frame fcs cut cw uw) lane (Ctr.laneDiscardFcs lane) cw (s.lane lane).lastStamp s ∧
      Discards (.controlReceive lane frame fcs cut cw uw) lane (Ctr.laneDiscardFcs lane) cw (s.lane lane).lastStamp s ∧
      Discards (.foreignFrame lane frame fcs cut cw uw) lane (Ctr.laneDiscardFcs lane) cw (s.lane lane).lastStamp s ∧
      Discards (.rxIpv6 lane frame fcs cut cw uw) lane (Ctr.laneDiscardFcs lane) cw (s.lane lane).lastStamp s) ∧
    (Arrives lane age frame s → leAt frame 15 1 ≠ 3 → frameFormatOk lane 1 frame = false →
      Discards (.digest lane age frame true false cw 0) lane (Ctr.laneDiscardFormat lane) cw (some (s.nt - age)) s) ∧
    (etherType frame = s.dlfType lane → leAt frame 15 1 = 3 → frameFormatOk lane 3 frame = false →
      Discards (.controlReceive lane frame true false cw 0) lane (Ctr.laneDiscardFormat lane) cw (s.lane lane).lastStamp s) ∧
    (Arrives lane age frame s → frameFormatOk lane 1 frame = true →
      serialLt ((s.lane lane).lastLimit) (leAt frame 22 2) = true →
      Discards (.digest lane age frame true false cw 0) lane (Ctr.laneDiscardOverrun lane) cw (some (s.nt - age)) s) ∧
    (etherType frame = s.dlfType lane → frameFormatOk lane 3 frame = true →
      serialLt ((s.lane lane).lastLimit) (leAt frame 22 2) = true →
      Discards (.controlReceive lane frame true false cw 0) lane (Ctr.laneDiscardOverrun lane) cw (s.lane lane).lastStamp s) ∧
    (Arrives lane age frame s → frameFormatOk lane 1 frame = true →
      serialLt ((s.lane lane).lastLimit) (leAt frame 22 2) = false →
      serialLt ((leAt frame 22 2 + 65536 - (s.lane lane).lastConsumed % 65536) % 65536)
        (leAt frame 19 1 * (slotSize frame / 128)) = true →
      Discards (.digest lane age frame true false cw 0) lane (Ctr.laneDiscardCreditFormat lane) cw (some (s.nt - age)) s)

/-- R84, R103, R112, R558: a CONTROL frame that passes its checks moves the credit count and leaves the buffer; a frame of another
EtherType counts as foreign, one of EtherType 0x86DD as IPv6, and does nothing else. -/
abbrev Sys2Proof.Claims.OtherFramesReceived : Prop :=
  (∀ (lane : Nat) (frame : Bytes) (cw : Nat) (s : State), lane < 48 → s.receives lane = true →
    etherType frame = s.dlfType lane →
    frameFormatOk lane 3 frame = true → serialLt ((s.lane lane).lastLimit) (leAt frame 22 2) = false →
    ∃ t : State, Gives (.controlReceive lane frame true false cw 0) s t ∧
      t.lane lane = { (s.lane lane).keepLimit s.nt with corrected := (s.lane lane).corrected + cw, rxSeq := some (leAt frame 16 2), lastConsumed := leAt frame 22 2 } ∧
      t.ctr (Ctr.laneFramesRx lane) = rose (s.ctr (Ctr.laneFramesRx lane)) 1 ∧
      (∀ n, n ≠ lane → t.lane n = s.lane n) ∧ OnlyLanes s t) ∧
  (∀ (lane : Nat) (frame : Bytes) (cw : Nat) (s : State), lane < 48 → s.receives lane = true →
    etherType frame ≠ s.dlfType lane → etherType frame ≠ 0x86DD →
    CountsFrame (.foreignFrame lane frame true false cw 0) lane (Ctr.laneForeign lane) cw s) ∧
  (∀ (lane : Nat) (frame : Bytes) (cw : Nat) (s : State), lane < 48 → s.receives lane = true → etherType frame = 0x86DD →
    CountsFrame (.rxIpv6 lane frame true false cw 0) lane (Ctr.portRxIpv6 lane) cw s)

/-- What the link does with frames that it discards, and with frames that are no DIGEST frames. -/
def Obligations.OtherFramesAndDiscards : Prop :=
  Claims.FrameDiscarded ∧ Claims.OtherFramesReceived

/-- R118, R120: at lane down every pending record of the lane is discarded and counted, with those on the wire, the
lane-down sticky bit is set, and every other lane stays as it is. -/
abbrev Sys2Proof.Claims.LaneGoesDown : Prop :=
  ∀ (lane : Nat) (s : State), lane < 48 → s.receives lane = true →
    ∃ t : State, Gives (.laneDown lane) s t ∧ (t.lane lane).up = false ∧ (t.lane lane).verdicts = [] ∧
      (t.lane lane).buf = (s.lane lane).buf ∧ t.stickyBit lane = true ∧
      t.ctr (Ctr.laneLinkDown lane) = rose (s.ctr (Ctr.laneLinkDown lane)) 1 ∧
      t.ctr (Ctr.laneVerdictsDroppedLink lane) = min max64 (s.ctr (Ctr.laneVerdictsDroppedLink lane) +
        ((s.lane lane).verdicts.length + if s.nt < (s.lane lane).lastTx then (s.lane lane).onWire else 0)) ∧
      (∀ n, n ≠ lane → t.lane n = s.lane n) ∧ (∀ n, n ≠ lane → n < 256 → t.stickyBit n = s.stickyBit n) ∧
      t.hall.pends = s.hall.pends ∧ t.wing0 = s.wing0 ∧ t.wing1 = s.wing1 ∧ t.tiles = s.tiles

/-- R121, R123: at link up the lane's counts start again: frame_seq 0, last credits_consumed 0, occupancy 0, and a credit
limit of 512, or of 0 while credits are withheld. -/
abbrev Sys2Proof.Claims.LaneComesUp : Prop :=
  ∀ (lane : Nat) (s : State), lane < s.lanesN → (s.lane lane).up = false → s.setting 0x2001 lane 0 = 1 →
    s.time.state ≠ .unset → s.time.stopped = false → s.hallFree = true →
    s.power.serdesLost.contains (lane / 12) = false → s.boot.stage = .done →
    (∀ k ∈ (s.lane lane).buf, k.session ≤ (s.lane lane).session) →
    ∃ t : State, Gives (.linkUp lane) s t ∧ (t.lane lane).up = true ∧ (t.lane lane).txSeq = 0 ∧ (t.lane lane).rxSeq = none ∧
      (t.lane lane).lastConsumed = 0 ∧ (t.lane lane).occupied = 0 ∧ (t.lane lane).limitSent = none ∧
      t.limitToSend lane = (if s.hall.withheld then 0 else 512) ∧ (t.lane lane).lastLimit = (if s.hall.withheld then 0 else 512) ∧ (∀ n, n ≠ lane → t.lane n = s.lane n)

/-- R117 to R123, R535: a lane goes down and comes up. -/
def Obligations.LanesGoDownAndUp : Prop :=
  Claims.LaneGoesDown ∧ Claims.LaneComesUp

namespace Sys2Proof.Claims

/-- R79, R96, R104: the DLF frame that the lane sends, and what sending leaves: the next frame number, the limit as sent,
the interval of R105 from the frame's last bit. -/
abbrev Sends (i : Instr) (lane ft : Nat) (recs : List VerdictRec) (s : State) : Prop :=
  ∃ (t : State) (frame : Bytes), Gives i s t ∧ t.out = s.out ++ [.laneFrame lane frame] ∧
    leAt frame 14 1 = 1 ∧ leAt frame 15 1 = ft ∧ leAt frame 18 1 = lane ∧ leAt frame 19 1 = recs.length ∧
    leAt frame 16 2 = (s.lane lane).txSeq % 65536 ∧ leAt frame 22 2 = s.limitToSend lane % 65536 ∧
    slice frame 40 (16 * recs.length) = recs.flatMap VerdictRec.bytes ∧ 60 ≤ frame.length ∧ frame.length + 4 ≤ 1518 ∧
    (t.lane lane).txSeq = ((s.lane lane).txSeq + 1) % 65536 ∧ (t.lane lane).limitSent = some (s.limitToSend lane) ∧
    (t.lane lane).lastTx = s.nt + wireNt (8 + frame.length + 4) ∧
    (t.lane lane).verdicts = (s.lane lane).verdicts.drop recs.length ∧ (t.lane lane).controlDue = false ∧
    (∀ n, n ≠ lane → t.lane n = s.lane n)

end Sys2Proof.Claims

/-- R78, R79, R82, R96, R104 to R106, R109: what a lane's egress sends when it is free: a VERDICT frame with the pending records in
order, at most 64; a CONTROL frame 100 ns after the last frame when the credit limit has changed, at once when one fell
due at the end of withholding, and after 10 µs without a frame. -/
abbrev Sys2Proof.Claims.EgressFrames : Prop :=
  ∀ (lane : Nat) (s : State), lane < 48 → s.hallFree = true → s.receives lane = true → (s.lane lane).egressFree ≤ s.nt →
    ((s.lane lane).verdicts ≠ [] → Sends (.verdictFrame lane) lane 2 ((s.lane lane).verdicts.take 64) s) ∧
    ((s.lane lane).verdicts = [] → (s.lane lane).limitSent ≠ some (s.limitToSend lane) →
      (s.lane lane).lastTx + 1600 ≤ s.nt → Sends (.controlFrameCredit lane) lane 3 [] s) ∧
    ((s.lane lane).verdicts = [] → (s.lane lane).controlDue = true → Sends (.controlFrameCredit lane) lane 3 [] s) ∧
    ((s.lane lane).verdicts = [] → (s.lane lane).lastTx + 160000 ≤ s.nt →
      Sends (.controlFrameIdle lane) lane 3 [] s)

/-- R66, R104, R109: while credits are withheld a lane repeats the last limit of its link, or the one that the link started with where it has sent none; once every queue is down to 1,024 tokens, withholding ends and a CONTROL frame falls due on every lane that is up. -/
abbrev Sys2Proof.Claims.CreditsResume : Prop :=
  (∀ (s : State) (n : Nat), s.hall.withheld = true → s.limitToSend n = (s.lane n).lastLimit) ∧
  (∀ s : State, s.hall.withheld = true → (∀ n ∈ s.queueLengths, n ≤ 1024) → s.hallFree = true →
    ∃ t : State, Gives .creditResume s t ∧ t.hall.withheld = false ∧
      (∀ n, n < s.lanesN → (s.lane n).up = true → t.lane n = { s.lane n with controlDue := true }) ∧
      (∀ n, (s.lanesN ≤ n ∨ (s.lane n).up = false) → t.lane n = s.lane n) ∧
      t = { s with hall := { s.hall with lanes := t.hall.lanes, withheld := false } })

/-- What leaves on a lane's egress, and the credits that a lane gives after a link up. -/
def Obligations.EgressAndCredits : Prop :=
  Claims.EgressFrames ∧ Claims.CreditsResume

/-! ### The Porch (chapter 04) -/

/-- R143, R149: a bank classifies a key by the valid rule of lowest index that the key matches, among the rules in force in the
Hall cycle; a write that completes in a cycle is in force in the later ones, for its own rule alone. -/
abbrev Sys2Proof.Claims.LowestRuleMatches : Prop :=
  (∀ (b : RuleBank) (nt : Nat) (key : Bytes) (i : Nat) (r : Rule), Ascending (b.rulesAt nt) →
    (b.lookup nt key = some (i, r) ↔
      (i, r) ∈ b.rulesAt nt ∧ r.valid = true ∧ (BitVec.ofNat 1024 (leNat key) ^^^ r.value) &&& r.mask = 0 ∧
      ∀ e ∈ b.rulesAt nt, e.1 < i → e.2.valid = true → ((BitVec.ofNat 1024 (leNat key) ^^^ e.2.value) &&& e.2.mask) ≠ 0)) ∧
  (∀ (b : RuleBank) (nt nt' index j : Nat) (r : Rule),
    (nt' ≤ nt → (b.write nt index r).rulesAt nt' = b.rulesAt nt) ∧
    (nt < nt' → mfind ((b.write nt index r).rulesAt nt') j = if j = index then some r else mfind b.rules j))

/-- R147: PARSE takes the first slot in arrival order from its lane buffer; an unclassified digest is counted and its
record, the bank's unclassified action and parameter with PARTITION_UNAVAILABLE and partition 0, leaves at once. -/
abbrev Sys2Proof.Claims.ParseUnclassified : Prop :=
  ∀ (s : State) (k : Slot), s.anyQueueFull = false → s.hallFree = true → s.hall.tokens.length < 1280 →
    s.nextSlot = some k → k.lane < 48 → (s.lane k.lane).up = true → (s.lane k.lane).session = k.session →
    let b := s.bankAt k.at_
    let seen := s.seenAt k
    let x := (s.parseCtx b seen k.data).parse k.data
    (s.bank b).lookup s.nt (x.key k.lane k.data) = none →
    ∃ (t : State) (r : VerdictRec), Gives .parse s t ∧
      (t.lane k.lane).verdicts = (s.lane k.lane).verdicts ++ [r] ∧
      (t.lane k.lane).buf = (s.lane k.lane).buf.erase k ∧
      r.tag = leAt k.data 0 4 ∧ r.partition = 0 ∧ r.flags = 8 ∧ r.cls = 0xFF ∧ r.score = 0 ∧
      r.action = s.settingAt seen 0x5006 b 0 ∧ r.param = s.settingAt seen 0x5007 b 0 ∧
      t.ctr Ctr.hallPorchUnclassified = rose (s.ctr Ctr.hallPorchUnclassified) 1 ∧
      t.ctr Ctr.hallPorchParsed = rose (s.ctr Ctr.hallPorchParsed) 1 ∧
      t.hall.pends = s.hall.pends ∧ t.hall.tokens = s.hall.tokens ∧ (∀ n, n ≠ k.lane → t.lane n = s.lane n)

/-- R171, R172, R174: how the fragment table answers a non-first fragment: from a RESOLVED entry with the entry's action,
param, class, score and flags less rollout and the fragment's own tag and partition; by waiting on a PENDING entry; else by the
partition's default verdict with frag_unresolved. -/
abbrev Sys2Proof.Claims.FragmentAnswered : Prop :=
  ∀ (s : State) (f : Frag) (p : Nat) (k : Slot),
    let g := s.fragHash (f.key p)
    let b := s.fragBank g
    let found := (liveWay (s.frags b) (g % 4096) k.at_ (f.key p)).bind (fun w => mfind (s.frags b) (4 * (g % 4096) + w))
    (∀ e c, found = some e → e.copy = some c → ∃ r, (s.nonFirstFragment f p k).1 = .resolved r b ∧
      r.tag = leAt k.data 0 4 ∧ r.partition = p ∧ r.action = c.action ∧ r.param = c.param ∧ r.cls = c.cls ∧
      r.score = c.score ∧ bitOf r.flags 6 = false ∧ (∀ i, i < 6 → bitOf r.flags i = bitOf c.flags i)) ∧
    (∀ e, found = some e → e.copy = none → s.waitingFrags b < 2048 →
      (s.nonFirstFragment f p k).1 = .waiting e.first b) ∧
    ((found = none ∨ (∃ e, found = some e ∧ e.copy = none ∧ 2048 ≤ s.waitingFrags b)) →
      (s.nonFirstFragment f p k).1 = .default_ (s.partDefault k p 4))

/-- What the Porch answers for packets that it cannot classify and for fragments. -/
def Obligations.PacketsAreParsed : Prop :=
  Claims.ParseUnclassified ∧ Claims.FragmentAnswered

/-- R148, R150 to R153: RULE_WRITE sets one rule of a bank and no other; RULE_BANK_ARM arms a swap; at its instant the other
bank is active, both banks keep their contents, and every stamp keeps the bank that classifies it; RULE_READ and RULE_BANK_QUERY answer what stands there. -/
abbrev Sys2Proof.Claims.RuleBanks : Prop :=
  (∀ (c : CmdIn) (bank index : Nat) (r : Rule) (s : State) (cmd : Cmd), Ready 0x0207 (.ruleWrite c bank index r) c s cmd → Alone s →
    r.partition < s.partsN → r.keyMode ≤ 1 → bitsOf r.result.toNat 10 6 = 0 → bitsOf r.result.toNat 32 32 = 0 →
    (∀ e ∈ keyReserved, bitsOf r.value.toNat (8 * e.1 + e.2.1) e.2.2 = 0) →
    s.hall.armedSwap = none → s.keyModeClash bank index r = false → s.paired = false →
    ∃ t : State, Succeeds (.ruleWrite c bank index r) c s t ∧
      mfind (t.bank (if bank = 0 then 0 else 1)).rules index = some r ∧
      (∀ i, i ≠ index → mfind (t.bank (if bank = 0 then 0 else 1)).rules i =
        mfind (s.bank (if bank = 0 then 0 else 1)).rules i) ∧
      t.bank (if bank = 0 then 1 else 0) = s.bank (if bank = 0 then 1 else 0) ∧
      t = { s with hall := { s.hall with bank0 := t.hall.bank0, bank1 := t.hall.bank1 } }) ∧
  (∀ (c : CmdIn) (bank index : Nat) (s : State) (cmd : Cmd), Ready 0x0208 (.ruleRead c bank index) c s cmd → Room c 272 →
    Replies (.ruleRead c bank index) c s s
      (leBytes 2 bank ++ leBytes 2 index ++ zeroBytes 4 ++
        (match mfind (s.bank bank).rules index with
         | some r => leBytes 8 r.result.toNat ++ leBytes 128 r.value.toNat ++ leBytes 128 r.mask.toNat
         | none => zeroBytes 264))) ∧
  (∀ (c : CmdIn) (T : Nat) (s : State) (cmd : Cmd), Ready 0x0209 (.ruleBankArm c T) c s cmd → Alone s → s.time.state ≠ .unset →
    s.time.stopped = false → cmd.fetchNt + 160000000 ≤ T → T ≤ cmd.fetchNt + 86400 * 16000000000 →
    s.hall.armedSwap = none →
    Succeeds (.ruleBankArm c T) c s { s with hall := { s.hall with armedSwap := some T } }) ∧
  (∀ (c : CmdIn) (T : Nat) (s : State) (cmd : Cmd), Ready 0x0209 (.ruleBankArm c T) c s cmd → Alone s → s.time.state ≠ .unset →
    s.time.stopped = false →
    (T < cmd.fetchNt + 160000000 → Fails (.ruleBankArm c T) c s 2) ∧
    (cmd.fetchNt + 160000000 ≤ T → T ≤ cmd.fetchNt + 86400 * 16000000000 → s.hall.armedSwap ≠ none →
      Fails (.ruleBankArm c T) c s 1)) ∧
  (∀ (c : CmdIn) (s : State) (cmd : Cmd), Ready 0x020A (.ruleBankQuery c) c s cmd → Room c 16 → s.hall.activeBank ≤ 1 →
    Replies (.ruleBankQuery c) c s s
      (match s.hall.armedSwap with
       | none => leBytes 8 s.hall.activeBank ++ zeroBytes 8
       | some T => leBytes 8 (s.hall.activeBank + 2) ++ leBytes 8 T)) ∧
  (∀ (T : Nat) (s : State), s.hallFree = true → s.hall.armedSwap = some T → T ≤ s.nt → s.hall.activeBank ≤ 1 →
    ∃ t : State, Gives .bankSwap s t ∧ t.hall.activeBank = 1 - s.hall.activeBank ∧ t.hall.armedSwap = none ∧
      t.hall.bank0 = s.hall.bank0 ∧ t.hall.bank1 = s.hall.bank1 ∧
      (∀ stamp, t.bankAt stamp = s.bankAt stamp) ∧
      t.ctr Ctr.hallPorchBankSwap = rose (s.ctr Ctr.hallPorchBankSwap) 1)

/-- R145 to R155: the rules of a bank, and the banks' swap. -/
def Obligations.RulesClassify : Prop :=
  Claims.LowestRuleMatches ∧ Claims.RuleBanks

/-! ### Features and windows (chapter 05) -/

/-- R195, R196: window k of a slot is the half-open interval from P + k × L to P + (k + 1) × L, with L and P in NT units. -/
abbrev Sys2Proof.Claims.WindowsAreHalfOpen : Prop :=
  ∀ (length phase t : Nat) (k : Int), 0 < length →
    (windowIndex length phase t = k ↔
      (16000 * phase : Nat) + k * (16000 * length : Nat) ≤ (t : Int) ∧
      (t : Int) < (16000 * phase : Nat) + (k + 1) * (16000 * length : Nat))

/-- R203 to R206: a token adds one packet and its true length, both saturating, to the counts of its own window in its
partition's current epoch; the counts of that epoch's other windows stay and those of other epochs are gone. A token of window `k + 1` sees the counts of window `k`, and 0
while that window starts before the epoch took effect (log 177 for the bytes). -/
abbrev Sys2Proof.Claims.PartitionWindowsCount : Prop :=
  ∀ (cs : List WinCount) (epoch n : Nat) (k j : Int),
    winFind (winAdd cs epoch k n) epoch k =
      (satAdd 4294967295 (winFind cs epoch k).1 1, satAdd 4294967295 (winFind cs epoch k).2 n) ∧
    (j ≠ k → winFind (winAdd cs epoch k n) epoch j = winFind cs epoch j) ∧
    (∀ e, e ≠ epoch → winFind (winAdd cs epoch k n) e j = (0, 0)) ∧
    (∀ since length phase : Nat,
      ((16000 * phase : Nat) + k * (16000 * length : Nat) < (since : Int) → winPrev cs epoch since length phase k = (0, 0)) ∧
      ((since : Int) ≤ (16000 * phase : Nat) + k * (16000 * length : Nat) →
        winPrev cs epoch since length phase k = winFind cs epoch k))

/-- R204, R205, R544: the window edge of a partition's window slot that is due starts: with k the window of the least stamp that
a token still to be handled can have, it retires the counts of window k - 2 and before, keeps those of windows k - 1 and k, and
queues the next grid instant. That stamp is at most the edge's, and no slot in a lane buffer is before it. -/
abbrev Sys2Proof.Claims.WindowEdgeRetires : Prop :=
  ∀ (p slot : Nat) (s : State) (o : Occ) (rest : List Occ) (e : Epoch) (img : Image) (L P : Nat), p < 16 → slot < 2 →
    s.dead = false → s.queueOf blkFeature = o :: rest → rest.length < 1024 → o.instant ≤ s.nt → o.kind = 4 →
    o.key = 4 * p + slot → (s.partOf p).running = some e → (s.partOf p).image e.slot = some img →
    img.window slot = (L, P) →
    let k := windowIndex L P (s.leastStamp o.instant)
    s.leastStamp o.instant ≤ o.instant ∧ (∀ l ∈ s.hall.lanes, ∀ x ∈ l.2.buf, s.leastStamp o.instant ≤ x.at_) ∧
    ∃ t : State, Gives (.windowEdge p slot) s t ∧
      (∀ w, t.winCounts p slot = (s.winCounts p slot).filter (fun c => !(c.epoch == e.number && decide (c.index ≤ k - 2))) ∧
        (k - 2 < w → winFind (t.winCounts p slot) e.number w = winFind (s.winCounts p slot) e.number w) ∧
        (w ≤ k - 2 → winFind (t.winCounts p slot) e.number w = (0, 0))) ∧
      (∃ x ∈ t.queueOf blkFeature, x.instant = o.instant + 16000 * L ∧ x.kind = 4 ∧ x.key = 4 * p + slot) ∧
      (t.queueOf blkFeature).length = rest.length + 1 ∧
      (∀ q, q ≠ 2 * p + slot → mget [] t.hall.windows q = mget [] s.hall.windows q)

/-- R191 to R198: window edges, partition window counts, and the retirement of counts. -/
def Obligations.WindowsCount : Prop :=
  Claims.WindowsAreHalfOpen ∧ Claims.PartitionWindowsCount ∧ Claims.WindowEdgeRetires

/-! ### Flow table (chapter 06) -/

/-- R213, R216 (Tables 06-1 to 06-3): an entry of 64 bytes, its key's reserved bits 0, reads back with every field, whatever the
bucket header, and a handle
names its Wing, bucket and way, or its overflow index. -/
abbrev Sys2Proof.Claims.EntriesReadBack : Prop :=
  (∀ (e : FlowEntry) (lock : Nat), e.gen < 256 → e.firstPort < 65536 → e.cookie < 65536 → e.insertNt < 2 ^ 64 →
    e.key.length = 48 → storedKey e.key = e.key → lock < 65536 →
    (e.bytes lock).length = 64 ∧ entryOf (e.bytes lock) = e ∧ leAt (e.bytes lock) 6 2 = lock) ∧
  (∀ (w b way i : Nat), w < 2 → b < 4194304 → way < 4 → i < 32768 →
    hWing (handleOf w b way) = w ∧ hOverflow (handleOf w b way) = false ∧ hBucket (handleOf w b way) = b ∧
    hWay (handleOf w b way) = way ∧ hWing (ovHandle w i) = w ∧ hOverflow (ovHandle w i) = true ∧ hSlot (ovHandle w i) = i)

/-- R224 to R228: what a learn notice does: a new key becomes pending with its port and no multi_port; another port for a
pending key sets multi_port once; a key beyond the partition's quota or beyond 4,096 is discarded and counted. -/
abbrev Sys2Proof.Claims.LearnNoticeEffects : Prop :=
  ∀ (s : State) (w p hash port : Nat) (key : Bytes), w < 2 → p < 16 → s.isStandby = false →
    let pend := (s.wing w).coalescer
    let full := (s.partOf p).coalQuota w ≤ (pend.filter (fun k => k.partition == p)).length ∨ 4096 ≤ pend.length
    ((∀ k ∈ pend, k.key ≠ key) → ¬ full →
      ((s.learnNotice w p key hash port).wing w).coalescer =
        pend ++ [{ key := key, hash := hash, partition := p, firstPort := port, multi := false }]) ∧
    ((∀ k ∈ pend, k.key ≠ key) → full →
      ((s.learnNotice w p key hash port).wing w).coalescer = pend ∧
      (s.learnNotice w p key hash port).ctr (Ctr.wingCoalescerFull w) = rose (s.ctr (Ctr.wingCoalescerFull w)) 1) ∧
    (∀ k, pend.find? (fun k => k.key == key) = some k → k.firstPort ≠ port → k.multi = false →
      ((s.learnNotice w p key hash port).wing w).coalescer =
        pend.map (fun y => if y.key = key then { y with multi := true } else y)) ∧
    (∀ k, pend.find? (fun k => k.key == key) = some k → (k.firstPort = port ∨ k.multi = true) →
      ((s.learnNotice w p key hash port).wing w).coalescer = pend)

/-- R213 (Table 06-2), R225 to R229: entries as bytes, and learn notices. -/
def Obligations.EntriesAndNotices : Prop :=
  Claims.EntriesReadBack ∧ Claims.LearnNoticeEffects

namespace Sys2Proof.Claims

/-- Two handles name different slots. -/
abbrev OtherSlot (h g : Nat) : Prop := (hWing g, hOverflow g, hSlot g) ≠ (hWing h, hOverflow h, hSlot h)

/-- INSERTION takes the key `k`, whose bucket is `b`, outside a pair. -/
abbrev Inserts (s : State) (w : Nat) (k : PendKey) (b : Nat) : Prop :=
  w < 2 ∧ s.wingFree w = true ∧ s.paired = false ∧ s.nextKey w = some k ∧ k.partition < 16 ∧
  b = (s.partOf k.partition).bucketOf w k.hash ∧ b < 4194304

/-- The entry of a pending key in a slot that last held `old` (R215, R231). -/
abbrev insertedEntry (k : PendKey) (old : FlowEntry) (nt : Nat) : FlowEntry :=
  { valid := true, hit := false, aged := false, moved := k.multi, noAge := false, learned := true, gen := (old.gen + 1) % 256, firstPort := k.firstPort, cookie := 0, insertNt := nt, key := k.key }

end Sys2Proof.Claims

/-- R215, R230, R231, R233: INSERTION takes the oldest key that waits for no lock out of the coalescer: a key that is already
valid is counted as duplicate; else it goes into the lowest free way, else into the lowest free overflow index within the
quota, with insert_nt equal to NT and the slot's generation advanced; else the insertion fails. No other slot changes. -/
def Obligations.InsertionTakesLowestSlot : Prop :=
  ∀ (s : State) (w b : Nat) (k : PendKey), Inserts s w k b →
    ((s.findNow w b k.key).isSome = true →
      ∃ t : State, Gives (.insertion w) s t ∧ (t.wing w).coalescer = (s.wing w).coalescer.filter (fun y => y.key != k.key) ∧
        (∀ h, t.entryAt h = s.entryAt h) ∧
        t.ctr (ctrOnWing w (Ctr.partDuplicate k.partition)) = rose (s.ctr (ctrOnWing w (Ctr.partDuplicate k.partition))) 1) ∧
    (∀ way, s.findNow w b k.key = none → way < 4 → ((s.wing w).entry (4 * b + way)).valid = false →
      (∀ v, v < way → ((s.wing w).entry (4 * b + v)).valid = true) →
      ∃ t : State, Gives (.insertion w) s t ∧ (t.wing w).coalescer = (s.wing w).coalescer.filter (fun y => y.key != k.key) ∧
        t.entryAt (handleOf w b way) = insertedEntry k (s.entryAt (handleOf w b way)) s.nt ∧
        (∀ h, OtherSlot (handleOf w b way) h → t.entryAt h = s.entryAt h) ∧
        t.ctr (ctrOnWing w (Ctr.partInserted k.partition)) = rose (s.ctr (ctrOnWing w (Ctr.partInserted k.partition))) 1) ∧
    (∀ i, s.findNow w b k.key = none → (∀ v, v < 4 → ((s.wing w).entry (4 * b + v)).valid = true) →
      (s.wing w).ovUsed k.partition < (s.partOf k.partition).overflowQuota w → i < 32768 →
      ((s.wing w).ovEntry i).valid = false → (∀ j, j < i → ((s.wing w).ovEntry j).valid = true) →
      ∃ t : State, Gives (.insertion w) s t ∧ (t.wing w).coalescer = (s.wing w).coalescer.filter (fun y => y.key != k.key) ∧
        t.entryAt (ovHandle w i) = insertedEntry k (s.entryAt (ovHandle w i)) s.nt ∧
        (∀ h, OtherSlot (ovHandle w i) h → t.entryAt h = s.entryAt h)) ∧
    (s.findNow w b k.key = none → (∀ v, v < 4 → ((s.wing w).entry (4 * b + v)).valid = true) →
      ((s.partOf k.partition).overflowQuota w ≤ (s.wing w).ovUsed k.partition ∨
        (∀ i, i < 32768 → ((s.wing w).ovEntry i).valid = true)) →
      ∃ t : State, Gives (.insertion w) s t ∧ (t.wing w).coalescer = (s.wing w).coalescer.filter (fun y => y.key != k.key) ∧
        (∀ h, t.entryAt h = s.entryAt h) ∧
        t.ctr (ctrOnWing w (Ctr.partInsertFail k.partition)) = rose (s.ctr (ctrOnWing w (Ctr.partInsertFail k.partition))) 1)

namespace Sys2Proof.Claims

/-- A Table command of a partition on a bucket of the partition's own share, outside a pair. -/
abbrev OnBucket (op : Nat) (i : Instr) (c : CmdIn) (s : State) (cmd : Cmd) (w b : Nat) : Prop :=
  Ready op i c s cmd ∧ w < s.wings ∧ b < 4194304 ∧ s.wingFree w = true ∧ s.paired = false ∧
  (s.partOf cmd.hdr.partition).ownsBucket w b = true ∧ Ascending (s.wing w).locks

/-- The bucket is locked by an owner and no pair change waits for its unlock. -/
abbrev LockedBy (s : State) (w b owner : Nat) (l : Lock) : Prop :=
  mfind (s.wing w).locks b = some l ∧ l.owner = owner ∧ l.unlocking = none

end Sys2Proof.Claims

/-- R215, R244 to R248: TABLE_LOCK locks a free bucket, and one that is locked already is busy; TABLE_WRITE fills the staging copy and
leaves the committed contents; TABLE_READ answers the committed contents; TABLE_UNLOCK whose check passes makes the staging
copy the committed contents and advances the generation of each changed slot; with discard, or when the check fails, the
committed contents stay; either way the lock ends. -/
abbrev Sys2Proof.Claims.BucketLocks : Prop :=
  (∀ (c : CmdIn) (w owner b : Nat) (s : State) (cmd : Cmd), OnBucket 0x0401 (.tableLock c w owner b) c s cmd w b →
    (mfind (s.wing w).locks b = none → (s.wing w).locks.length < 64 →
      ∃ t : State, Gives (.tableLock c w owner b) s (t.complete c.ring { status := 0, info := s.nt % 4294967296 }) ∧
        mfind (t.wing w).locks b = some { owner := owner, fn := cmd.fn, grant := s.nt } ∧
        (∀ h, t.entryAt h = s.entryAt h) ∧ (∀ a, a ≠ b → mfind (t.wing w).locks a = mfind (s.wing w).locks a)) ∧
    ((mfind (s.wing w).locks b ≠ none ∨ 64 ≤ (s.wing w).locks.length) → Fails (.tableLock c w owner b) c s 1)) ∧
  (∀ (c : CmdIn) (w owner b : Nat) (data : Bytes) (s : State) (cmd : Cmd) (l : Lock), OnBucket 0x0403 (.tableWrite c w owner b data true) c s cmd w b →
    LockedBy s w b owner l → DataHere c s cmd 256 (fun d => d == data) →
    ∃ t : State, Succeeds (.tableWrite c w owner b data true) c s t ∧
      mfind (t.wing w).locks b = some { l with staging := some (entriesOf 4 data) } ∧ (∀ h, t.entryAt h = s.entryAt h)) ∧
  (∀ (c : CmdIn) (w owner b : Nat) (s : State) (cmd : Cmd), OnBucket 0x0402 (.tableRead c w owner b 1 false) c s cmd w b →
    Room c (bucketBytes ((s.wing w).bucket b) ((s.wing w).lockWord b)).length →
    Replies (.tableRead c w owner b 1 false) c s s (bucketBytes ((s.wing w).bucket b) ((s.wing w).lockWord b))) ∧
  (∀ (c : CmdIn) (w owner b : Nat) (discard : Bool) (s : State) (cmd : Cmd) (l : Lock), OnBucket 0x0404 (.tableUnlock c w owner b discard) c s cmd w b →
    LockedBy s w b owner l →
    ((discard = true ∨ l.staging = none) →
      ∃ t : State, Succeeds (.tableUnlock c w owner b discard) c s t ∧ mfind (t.wing w).locks b = none ∧
        (∀ h, (t.entryAt h).valid = (s.entryAt h).valid ∧ (t.entryAt h).key = (s.entryAt h).key ∧
          (t.entryAt h).gen = (s.entryAt h).gen)) ∧
    (∀ new st, discard = false → l.staging = some new → s.checkStaging w cmd.hdr.partition b new = some st →
      ∃ t : State, Gives (.tableUnlock c w owner b discard) s (t.complete c.ring st) ∧ mfind (t.wing w).locks b = none ∧
        (∀ h, (t.entryAt h).valid = (s.entryAt h).valid ∧ (t.entryAt h).key = (s.entryAt h).key ∧
          (t.entryAt h).gen = (s.entryAt h).gen)) ∧
    (∀ new, discard = false → l.staging = some new → s.checkStaging w cmd.hdr.partition b new = none →
      ∃ t : State, Succeeds (.tableUnlock c w owner b discard) c s t ∧ mfind (t.wing w).locks b = none ∧
        (∀ way e, way < 4 → new[way]? = some e →
          let old := s.entryAt (handleOf w b way)
          (t.entryAt (handleOf w b way)).valid = e.valid ∧ (t.entryAt (handleOf w b way)).key = e.key ∧
          (t.entryAt (handleOf w b way)).gen = (if old.differs e then (old.gen + 1) % 256 else old.gen))))

/-- R254: a lock held 50 µs is broken: it ends, its staging copy is gone, the committed contents stay, the
table-lock-broken sticky bit is set, and a later write or unlock for it ends with ST_TIMEOUT. -/
abbrev Sys2Proof.Claims.LockBreaks : Prop :=
  ∀ (w b : Nat) (s : State) (l : Lock), w < 2 → Ascending (s.wing w).locks → s.wingFree w = true →
    mfind (s.wing w).locks b = some l → l.unlocking = none → l.grant + 800000 ≤ s.nt →
    ∃ t : State, Gives (.lockBreak w b) s t ∧ mfind (t.wing w).locks b = none ∧ t.stickyBit 133 = true ∧
      (t.wing w).lockFor b l.owner = .error 6 ∧
      t.ctr (Ctr.wingLockBroken w) = rose (s.ctr (Ctr.wingLockBroken w)) 1 ∧
      (∀ h, (t.entryAt h).valid = (s.entryAt h).valid ∧ (t.entryAt h).key = (s.entryAt h).key ∧
        (t.entryAt h).gen = (s.entryAt h).gen)

/-- R244 to R254: bucket locks and their breaking. -/
def Obligations.LocksHold : Prop :=
  Claims.BucketLocks ∧ Claims.LockBreaks

namespace Sys2Proof.Claims

/-- R260: a compare that has read nothing yet. -/
abbrev startedCompare (p first last id queue prio : Nat) (ov skip : Bool) : Compare :=
  { partition := p, next := first, last := last, overflow := ov, ovNext := 0, skipLearned := skip, id := id, queue := queue, priority := prio }

end Sys2Proof.Claims

/-- R250, R256, R257, R259, R260 (Table 17-17): the other Table commands and the walk of a compare. -/
abbrev Sys2Proof.Claims.OverflowShadowCompare : Prop :=
  (∀ (c : CmdIn) (w first count : Nat) (s : State) (cmd : Cmd), Ready 0x0405 (.tableOverflowRead c w first count) c s cmd → w < s.wings → s.wingFree w = true →
    first + count ≤ 32768 → 1 ≤ count →
    Room c ((List.range count).flatMap (fun i => ((s.wing w).ovSeen cmd.hdr.partition (first + i)).bytes 0)).length →
    Replies (.tableOverflowRead c w first count) c s s
      ((List.range count).flatMap (fun i => ((s.wing w).ovSeen cmd.hdr.partition (first + i)).bytes 0))) ∧
  (∀ (c : CmdIn) (w i gen : Nat) (s : State) (cmd : Cmd), Ready 0x0406 (.tableOverflowDelete c (ovHandle w i) gen) c s cmd → w < s.wings → s.wingFree w = true →
    i < 32768 → s.paired = false → (s.entryAt (ovHandle w i)).valid = true → (s.entryAt (ovHandle w i)).gen = gen →
    ((cmd.fn = 0 ∨ 9 ≤ cmd.fn) ∨ (s.entryAt (ovHandle w i)).partition = cmd.hdr.partition) →
    ∃ t : State, Succeeds (.tableOverflowDelete c (ovHandle w i) gen) c s t ∧ (t.entryAt (ovHandle w i)).valid = false ∧
      (t.entryAt (ovHandle w i)).gen = (gen + 1) % 256 ∧ (∀ h, OtherSlot (ovHandle w i) h → t.entryAt h = s.entryAt h)) ∧
  (∀ (c : CmdIn) (key : Bytes) (s : State) (cmd : Cmd), Ready 0x0407 (.tableHash c key) c s cmd → Room c 8 →
    leAt key 0 1 % 16 = cmd.hdr.partition → ((keyFaults key 16).all (fun x => !x.1)) = true →
    Replies (.tableHash c key) c s (s.setCmd c.ring (some { cmd with replyAt := some c.replyAddr })) (leBytes 8 (s.flowHash key +
      4294967296 * (s.partOf cmd.hdr.partition).bucketOf (s.homeWing (s.flowHash key)) (s.flowHash key) +
      72057594037927936 * s.homeWing (s.flowHash key)))) ∧
  (∀ (c : CmdIn) (w first count : Nat) (data : Bytes) (s : State) (cmd : Cmd), Ready 0x0408 (.tableShadowWrite c w false first count data true) c s cmd → w < s.wings →
    s.wingFree w = true → 1 ≤ count → data.length = 256 * count → DataHere c s cmd (256 * count) (fun d => d == data) →
    memWf ((s.wing w).region cmd.hdr.partition) = true →
    (s.partOf cmd.hdr.partition).ownsBucket w first = true →
    (s.partOf cmd.hdr.partition).ownsBucket w (first + count - 1) = true →
    ∃ t : State, Succeeds (.tableShadowWrite c w false first count data true) c s t ∧
      (∀ i, i < 256 * count →
        memGet ((t.wing w).region cmd.hdr.partition) ((s.partOf cmd.hdr.partition).shadowAddr w false first + i) =
          (data[i]?).getD 0) ∧
      (∀ a, (a < (s.partOf cmd.hdr.partition).shadowAddr w false first ∨
        (s.partOf cmd.hdr.partition).shadowAddr w false first + 256 * count ≤ a) →
        memGet ((t.wing w).region cmd.hdr.partition) a = memGet ((s.wing w).region cmd.hdr.partition) a)) ∧
  (∀ (c : CmdIn) (w first last id queue prio : Nat) (ov skip : Bool) (s : State) (cmd : Cmd), Ready 0x0409 (.tableCompare c w ov skip queue prio first last id) c s cmd →
    w < s.wings → s.wingFree w = true → first ≤ last → last < 4194304 →
    (s.partOf cmd.hdr.partition).ownsBucket w first = true → (s.partOf cmd.hdr.partition).ownsBucket w last = true →
    ((s.wing w).compare = none →
      Succeeds (.tableCompare c w ov skip queue prio first last id) c s
        (s.setWing w { s.wing w with compare := some (startedCompare cmd.hdr.partition first last id queue prio ov skip) })) ∧
    ((s.wing w).compare ≠ none → Fails (.tableCompare c w ov skip queue prio first last id) c s 1)) ∧
  (∀ (w : Nat) (s : State) (k : Compare), w < 2 → s.wingFree w = true → (s.wing w).compare = some k →
    (k.next ≤ k.last →
      let live := (s.wing w).bucket k.next
      let shadow := entriesOf 4 (memRead ((s.wing w).region k.partition)
        ((s.partOf k.partition).shadowAddr w false k.next) 256)
      let mask := wayMask k.skipLearned live shadow
      ∃ t : State, Gives (.compareUnit w) s t ∧ (∀ h, t.entryAt h = s.entryAt h) ∧
        (t.wing w).compare = some { k with next := k.next + 1, compared := k.compared + 1, mismatches := k.mismatches + (if mask = 0 then 0 else 1) } ∧
        t.ctr (Ctr.wingCompareMismatch w) = rose (s.ctr (Ctr.wingCompareMismatch w)) (if mask = 0 then 0 else 1)) ∧
    (k.last < k.next → (k.overflow = false ∨ 32768 ≤ k.ovNext) →
      Gives (.compareDone w) s
        ((s.setWing w { s.wing w with compare := none }).record k.partition k.queue k.priority 4
          (leBytes 4 k.id ++ leBytes 4 (33554432 * w) ++ leBytes 4 k.compared ++ leBytes 4 k.mismatches ++
            leBytes 8 s.nt))))

namespace Sys2Proof.Claims

/-- R236: what a visit of an unlocked bucket makes of an entry: kept with new bits, or removed. -/
def agedEntry (e : FlowEntry) (inFlight : Bool) : FlowEntry :=
  if e.valid = false ∨ e.noAge = true then e
  else if e.hit = true ∨ inFlight = true then { e with hit := false, aged := false }
  else if e.aged = false then { e with aged := true }
  else { e with valid := false, gen := (e.gen + 1) % 256 }

/-- An entry as the sweep leaves it, but for the bits of a slot that holds no entry. -/
abbrev SameEntry (a b : FlowEntry) : Prop :=
  a.valid = b.valid ∧ a.gen = b.gen ∧ a.key = b.key ∧ (a.valid = true → a = b)

end Sys2Proof.Claims

/-- R235 to R237, R239, R240: a sweep of an ACTIVE partition that is due starts at its first bucket and the next one is queued; each visit ages
the entries of its bucket by the pseudocode of R236 and leaves every other entry; a locked bucket is skipped and counted; a sweep that
comes due while one runs waits for its end. -/
abbrev Sys2Proof.Claims.SweepAgesEntries : Prop :=
  (∀ (w p : Nat) (s : State) (o : Occ) (rest : List Occ), w < 2 → s.dead = false → s.blkStopped (3 + w) = false →
    mfind (s.wing w).sweeps p = none → s.queueOf (3 + w) = o :: rest → rest.length < 1024 → o.instant ≤ s.nt → o.kind = 5 →
    o.key = p → (s.partOf p).state = .active →
    ∃ t : State, Gives (.ageSweep w p) s t ∧ mfind (t.wing w).sweeps p = some { next := 0, waiting := false } ∧
      (∀ h, t.entryAt h = s.entryAt h) ∧
      (∃ x ∈ t.queueOf (3 + w), x.kind = 5 ∧ x.key = p ∧ x.instant = o.instant + s.partSetting 0x1009 p * 16000000)) ∧
  (∀ (w p : Nat) (s : State) (k : Sweep), w < 2 → s.wingFree w = true → s.paired = false →
    mfind (s.wing w).sweeps p = some k → k.next < 2 ^ (s.partOf p).shareLog2 →
    let b := (s.partOf p).shareBase w + k.next
    b < 4194304 →
    (mfind (s.wing w).locks b = none →
      ∃ t : State, Gives (.ageSweep w p) s t ∧
        (∀ way, way < 4 → SameEntry (t.entryAt (handleOf w b way))
          (agedEntry (s.entryAt (handleOf w b way))
            ((s.wing w).inFlight (handleOf w b way) (s.entryAt (handleOf w b way)).gen))) ∧
        (∀ h, (∀ way, way < 4 → OtherSlot (handleOf w b way) h) → t.entryAt h = s.entryAt h)) ∧
    (mfind (s.wing w).locks b ≠ none →
      ∃ t : State, Gives (.ageSweep w p) s t ∧ (∀ h, t.entryAt h = s.entryAt h) ∧
        t.ctr (Ctr.wingSweepSkipLocked w) = rose (s.ctr (Ctr.wingSweepSkipLocked w)) 1)) ∧
  (∀ (w p : Nat) (s : State) (k : Sweep) (o : Occ) (rest : List Occ), w < 2 → s.dead = false →
    s.blkStopped (3 + w) = false → mfind (s.wing w).sweeps p = some k → s.queueOf (3 + w) = o :: rest → o.instant ≤ s.nt →
    o.kind = 5 → o.key = p →
    ∃ t : State, Gives (.sweepOverrun w p) s t ∧ mfind (t.wing w).sweeps p = some { k with waiting := true } ∧
      (∀ h, t.entryAt h = s.entryAt h) ∧
      t.ctr (Ctr.wingSweepOverrun w) = rose (s.ctr (Ctr.wingSweepOverrun w)) 1)

/-- R236 to R241, R250 to R261: the overflow store, the shadow compare and the aging sweep. -/
def Obligations.TableMaintenance : Prop :=
  Claims.OverflowShadowCompare ∧ Claims.SweepAgesEntries

/-! ### In-flight flows and the Larder (chapter 07) -/

namespace Sys2Proof.Claims

/-- A Stairwell entry of a Wing that is free to work, outside a pair, with no squash pending. -/
abbrev StairReady (s : State) (w i : Nat) (x : Stair) (st : StairState) : Prop :=
  w < 2 ∧ (s.wing w).stair i = some x ∧ s.wingFree w = true ∧ s.paired = false ∧ x.state = st ∧ x.squash = none ∧
  x.abandoned = false ∧ x.pkt.partition < 16

/-- R295: an input state is treated as the initial state. -/
abbrev StartsFresh (b : Bytes) (handle gen epoch reset : Nat) : Prop :=
  bitOf (leAt b 7 1) 0 = false ∨ leAt b 0 4 ≠ handle ∨ leAt b 6 1 ≠ gen ∨
  (serialLt epoch reset = false ∧ serialLt (leAt b 4 2) reset = true)

/-- R275, R295, R296, R894: the entry enters STEP with the block `b`, or with the initial state in its place, and, when its
graph has no stateful step, with the new state that the Cellar forms. -/
abbrev Delivered (s t : State) (w i : Nat) (x : Stair) (img : Image) (cfg : SlotCfg) (b : Bytes) (source : Nat) : Prop :=
  ∃ y inp, (t.wing w).stair i = some y ∧ y.state = .step ∧ y.pkt = x.pkt ∧ y.handle = x.handle ∧ y.gen = x.gen ∧
    y.source = source ∧ y.input = some inp ∧
    (StartsFresh b x.handle x.gen x.pkt.epoch ((s.partOf x.pkt.partition).resetNow s.nt) →
      inp = initialBlock img x.pkt.epoch x.handle x.gen (s.partOf x.pkt.partition).blockBytes) ∧
    (¬ StartsFresh b x.handle x.gen x.pkt.epoch ((s.partOf x.pkt.partition).resetNow s.nt) → inp = b) ∧
    (y.released = true ↔ cfg.main.all (fun g => g.kind != .stateful) = true) ∧
    (cfg.main.all (fun g => g.kind != .stateful) = true →
      ∃ nb, y.newState = some nb ∧ nb.drop 64 = inp.drop 64 ∧ leAt nb 0xC 4 = leAt inp 0xC 4 ∧
        leAt nb 8 4 = satAdd 4294967295 (leAt inp 8 4) 1 ∧ bitOf (leAt nb 7 1) 0 = true)

end Sys2Proof.Claims

/-- R64, R264, R266 (Table 07-2): DISPATCH admits the first token to its home Wing's Stairwell in state ADMITTED, in an entry of its
own, with the youngest entry of its flow as predecessor; a packet beyond its partition's quota joins the dispatcher queue, as far as
that has room (2,048 tokens and 1,280 more); QUOTA_RELEASE admits the oldest one of a queue once there is room. -/
abbrev Sys2Proof.Claims.PacketsAreAdmitted : Prop :=
  (∀ (s : State) (k : Packet) (rest : List Packet), s.hall.tokens = k :: rest → k.partition < 16 →
    let w := s.homeWing k.hash
    s.wingFree w = true → (s.wing w).queue k.partition = [] → s.canAdmit w k = true →
    ∃ (t : State) (y : Stair), Gives .dispatch s t ∧ t.hall.tokens = rest ∧
      (t.wing w).stairs = (s.wing w).stairs ++ [y] ∧ y.pkt = k ∧ y.state = .admitted ∧ y.squash = none ∧
      (∀ z ∈ (s.wing w).stairs, z.index ≠ y.index) ∧ y.pred = (s.wing w).predOf k ∧
      t.ctr (Ctr.pwAdmitted (16 * w + k.partition)) = rose (s.ctr (Ctr.pwAdmitted (16 * w + k.partition))) 1) ∧
  (∀ (s : State) (k : Packet) (rest : List Packet), s.hallFree = true → s.hall.tokens = k :: rest → k.partition < 16 →
    let w := s.homeWing k.hash
    (s.wingFree w = false ∨ (s.wing w).queue k.partition ≠ [] ∨ s.canAdmit w k = false) →
    (((s.wing w).queue k.partition).length < 3328 →
      ∃ t : State, Gives .dispatch s t ∧ t.hall.tokens = rest ∧ (t.wing w).stairs = (s.wing w).stairs ∧
        (t.wing w).queue k.partition = (s.wing w).queue k.partition ++ [k] ∧
        (2048 ≤ ((s.wing w).queue k.partition).length + 1 → t.hall.withheld = true)) ∧
    (3328 ≤ ((s.wing w).queue k.partition).length → Gives .dispatch s s)) ∧
  (∀ (s : State) (w p : Nat) (k : Packet) (rest : List Packet), w < 2 → p < 16 → s.wingFree w = true →
    (s.wing w).queue p = k :: rest → s.canAdmit w k = true →
    ∃ (t : State) (y : Stair), Gives (.quotaRelease w p) s t ∧ (t.wing w).queue p = rest ∧
      (t.wing w).stairs = (s.wing w).stairs ++ [y] ∧ y.pkt = k ∧ y.state = .admitted ∧
      y.pred = (s.wing w).predOf k)

namespace Sys2Proof.Claims

/-- The entry as a HIT leaves it, its input state still to be chosen. -/
abbrev hitStair (x : Stair) (h gen : Nat) : Stair :=
  { x with state := .waitState, lookup := 0, handle := h, gen := gen }

end Sys2Proof.Claims

/-- R220, R221, R271, R276 (Tables 06-4, 07-2): LOOKUP decides by the arrival stamp: HIT leads to WAIT_STATE with handle and
entry_gen, and the source of the input state is chosen in the same step; an entry not yet visible to the stamp gives MISS_PENDING and
no entry MISS, both to NO_FLOW as the squash of that cause. -/
abbrev Sys2Proof.Claims.LookupDecides : Prop :=
  ∀ (s : State) (w i : Nat) (x : Stair), StairReady s w i x .admitted → x.choice = none →
    let b := (s.partOf x.pkt.partition).bucketOf w x.pkt.hash
    (∀ h m, s.findFor w b x.pkt.slot.at_ x.pkt.key = some (h, m) → m.insertNt ≤ x.pkt.slot.at_ →
      ∃ t : State, Gives (.lookup w i false) s t ∧
        (t.wing w).stair i = some { hitStair x h m.gen with choice := (s.setStair w (hitStair x h m.gen)).choose w (hitStair x h m.gen) } ∧
        (∀ g, t.entryAt g = s.entryAt g)) ∧
    (∀ h m, s.findFor w b x.pkt.slot.at_ x.pkt.key = some (h, m) → x.pkt.slot.at_ < m.insertNt →
      ∃ (t : State) (y : Stair), Gives (.lookup w i false) s t ∧ (t.wing w).stair i = some y ∧ y.state = .noFlow ∧
        y.lookup = 2 ∧ y.pkt = x.pkt ∧ y.newState = none ∧
        t.ctr (Ctr.pwSquashNoFlow (16 * w + x.pkt.partition)) =
          rose (s.ctr (Ctr.pwSquashNoFlow (16 * w + x.pkt.partition))) 1) ∧
    (s.findFor w b x.pkt.slot.at_ x.pkt.key = none →
      ∃ (t : State) (y : Stair), Gives (.lookup w i false) s t ∧ (t.wing w).stair i = some y ∧ y.state = .noFlow ∧
        y.lookup = 1 ∧ y.pkt = x.pkt ∧ y.newState = none)

/-- R262 to R269: admission to the Stairwell, and lookups. -/
def Obligations.PacketsEnterAndLookUp : Prop :=
  Claims.PacketsAreAdmitted ∧ Claims.LookupDecides

/-- R270 to R273, R275, R894: the source of an input state is the producer's new state, nothing yet while the producer's lookup is
not known, and, without a producer, the cached block or the Larder's; INPUT_STATE delivers it from there: a forwarded state once it
is released, or as the producer's commit handed it over; each is initialised where R295 says so. -/
abbrev Sys2Proof.Claims.InputStateChosen : Prop :=
  (∀ (s : State) (w : Nat) (x : Stair), s.isStandby = false →
    let prod := (s.wing w).producer x.handle x.gen (s.wing w).stairs.length x.pred
    (∀ y, prod = .wait y → s.choose w x = none) ∧
    (∀ y, prod = .from_ y → s.choose w x = some (.forwarded y.pkt.id)) ∧
    (prod = .none_ → (mget [] (s.wing w).cache x.pkt.partition).contains x.handle = true → s.choose w x = some .cache) ∧
    (prod = .none_ → (mget [] (s.wing w).cache x.pkt.partition).contains x.handle = false → s.choose w x = some .larder)) ∧
  (∀ (s : State) (w i : Nat) (x : Stair) (img : Image) (cfg : SlotCfg), StairReady s w i x .waitState →
    s.modelOf x.pkt = some (img, cfg) →
    (x.choice = none → Gives (.inputState w i false none) s s) ∧
    (∀ id y b, x.choice = some (.forwarded id) → x.forward = none → (s.wing w).stairOf id = some y → y.newState = some b →
      y.released = true →
      ∃ t : State, Gives (.inputState w i false none) s t ∧ Delivered s t w i x img cfg b 1) ∧
    (∀ id y, x.choice = some (.forwarded id) → x.forward = none → (s.wing w).stairOf id = some y →
      (y.newState = none ∨ y.released = false) → Gives (.inputState w i false none) s s) ∧
    (∀ id b, x.choice = some (.forwarded id) → x.forward = some b →
      ∃ t : State, Gives (.inputState w i false none) s t ∧ Delivered s t w i x img cfg b 1) ∧
    (x.choice = some .cache →
      ∃ t : State, Gives (.inputState w i false none) s t ∧
        Delivered s t w i x img cfg (s.readBlock x.pkt.partition x.handle) 2) ∧
    (x.choice = some .larder → s.blockBad x.pkt.partition x.handle = false → 0 < s.cacheRoom w x.pkt.partition →
      ∃ t : State, Gives (.inputState w i false none) s t ∧
        Delivered s t w i x img cfg (s.readBlock x.pkt.partition x.handle) 3 ∧
        (mget [] (t.wing w).cache x.pkt.partition).contains x.handle = true ∧
        (mget [] (t.wing w).cache x.pkt.partition).length ≤ s.cacheRoom w x.pkt.partition))

/-- R276, R277, R280 (Table 07-2): a squash discards the entry's uncommitted work, keeps its packet and predecessor, and squashes in
cascade every packet that consumed its forwarded state, while one that still waits for it chooses again; at the discard's end the entry is ADMITTED and repeats its lookup;
an entry whose last stage is complete, with its clip checks passed, becomes READY. -/
abbrev Sys2Proof.Claims.SquashAndReady : Prop :=
  (∀ (s : State) (w i cause : Nat) (x : Stair), w < 2 → (s.wing w).stair i = some x → s.wingFree w = true →
    x.squash = some cause → x.state ≠ .squashed → x.abandoned = false → x.from_ ≠ some x.pkt.id →
    ∃ (t : State) (y : Stair), Gives (.squash w i) s t ∧ (t.wing w).stair i = some y ∧ y.state = .squashed ∧ y.squash = none ∧
      y.pkt = x.pkt ∧ y.pred = x.pred ∧ y.input = none ∧ y.newState = none ∧ y.verdict = none ∧ y.token = x.pkt.token ∧
      (∀ z ∈ (s.wing w).stairs, z.index ≠ i → z.from_ = some x.pkt.id → z.squash = none → z.state ≠ .squashed →
        { z with squash := some 5 } ∈ (t.wing w).stairs) ∧
      (∀ z ∈ (s.wing w).stairs, z.index ≠ i → z.from_ ≠ some x.pkt.id → z.state = .waitState →
        z.choice = some (.forwarded x.pkt.id) → { z with choice := none } ∈ (t.wing w).stairs) ∧
      (∀ z ∈ (s.wing w).stairs, z.index ≠ i → z.from_ ≠ some x.pkt.id →
        ¬ (z.state = .waitState ∧ z.choice = some (.forwarded x.pkt.id)) → z ∈ (t.wing w).stairs) ∧
      (∀ h, t.entryAt h = s.entryAt h) ∧ (t.wing w).regions = (s.wing w).regions) ∧
  (∀ (s : State) (w i : Nat) (x : Stair), w < 2 → (s.wing w).stair i = some x → s.wingFree w = true → x.state = .squashed →
    ∃ (t : State) (y : Stair), Gives (.squashDiscardComplete w i) s t ∧ (t.wing w).stair i = some y ∧ y.state = .admitted ∧
      y.pkt = x.pkt ∧ y.pred = x.pred) ∧
  (∀ (s : State) (w i : Nat) (x : Stair) (img : Image) (cfg : SlotCfg), w < 2 → (s.wing w).stair i = some x →
    s.wingFree w = true → s.modelOf x.pkt = some (img, cfg) → x.squash = none → x.batch = none → x.verdict.isSome = true →
    ((x.state = .step ∧ cfg.main.length ≤ x.stage ∧ x.released = true) ∨
      (x.state = .noFlow ∧ cfg.noFlow.length ≤ x.stage)) →
    Gives (.readyToCommit w i) s (s.setStair w { x with state := .ready }))

/-- R270 to R284: the input state of a packet, squashes, and readiness. -/
def Obligations.StairsWaitAndSquash : Prop :=
  Claims.InputStateChosen ∧ Claims.SquashAndReady

/-- R40, R41, R284, R285 (Table 07-4): COMMIT frees the entry, sends the verdict on its way, and writes, for HIT, the whole new
state as the slot's Larder block and the hit bit; for MISS and MISS_PENDING no block and no entry. It waits while an earlier packet
of the flow is in the Stairwell, and while a snapshot that is due is still to be copied by the other Wing, when it counts there (R43). -/
def Obligations.CommitWrites : Prop :=
  ∀ (s : State) (w i : Nat) (x : Stair) (v : PendVerdict), StairReady s w i x .ready → x.verdict = some v →
    ((∃ id, x.pred = some id ∧ (s.wing w).stairOf id ≠ none) → Gives (.commit w i) s s) ∧
    (s.commitWhole w x = false → Gives (.commit w i) s s) ∧
    (s.commitWhole w x = true → (∀ id, x.pred = some id → (s.wing w).stairOf id = none) →
      ∃ (t : State) (r : VerdictRec), Gives (.commit w i) s t ∧ (t.wing w).stair i = none ∧
        (t.wing w).returning = (s.wing w).returning ++ [{ id := x.pkt.id, verdict := r }] ∧
        r.tag = leAt x.pkt.slot.data 0 4 ∧ r.action = v.action ∧ r.param = v.param ∧ r.cls = v.cls ∧ r.score = v.score ∧
        r.partition = x.pkt.partition ∧ (r.flags = v.flags ∨ (x.lookup = 0 ∧ r.flags = v.flags + 64)) ∧
        (x.lookup = 0 → ∀ block, x.newState = some block → hWing x.handle = w →
          block.length = (s.partOf x.pkt.partition).blockBytes →
          memWf ((s.wing w).region x.pkt.partition) = true → memWf (s.wing w).overflowLarder = true →
          t.readBlock x.pkt.partition x.handle = block ∧
          ((s.entryAt x.handle).valid = true → (s.entryAt x.handle).gen = x.gen →
            (hOverflow x.handle = true ∨ mfind (s.wing w).locks (hBucket x.handle) = none) →
            t.entryAt x.handle = { s.entryAt x.handle with hit := true })) ∧
        (x.lookup ≠ 0 → (∀ h, t.entryAt h = s.entryAt h) ∧ (t.wing w).regions = (s.wing w).regions ∧
          (t.wing w).overflowLarder = (s.wing w).overflowLarder) ∧
        (x.lookup ≠ 1 → (t.wing w).coalescer = (s.wing w).coalescer))

/-! ### The tile (chapters 08 to 12) -/

/-- R331, R332 (Tables 08-4 to 08-15): a word that the tables can spell reads back from its 128 bits with every field, and a
word of 128 bits that reads at all is the one that its instruction spells. -/
def Obligations.TileWordsReadBack : Prop :=
  (∀ t : TileWord, t.spelt = true → t.bits < 2 ^ 128 ∧ readWord t.bits = some t) ∧
  (∀ (w : Nat) (t : TileWord), w < 2 ^ 128 → readWord w = some t → t.spelt = true ∧ t.bits = w)

namespace Sys2Proof.Claims

/-- The word `q` of batch `b` heads the queue of engine `e` of tile `i`, whose engines run, and it has started or its wait is
satisfied. -/
abbrev Runs (s : State) (i e : Nat) (q : Issued) (b : Batch) : Prop :=
  ((s.tile i).queue e).head? = some q ∧ s.batchOf q.batch = some b ∧ s.tileRuns i = true ∧
  (q.started = true ∨ s.tokenReady i e q = true)

/-- R319, R326: the word's effect `u` has taken place: the word leaves its queue and completes, and issue goes on. -/
abbrev Completed (u : State) (i e : Nat) (q : Issued) (b : Batch) : State :=
  (((u.popQueue i e).completeWord i q b).pump i).endCheck i q.batch

/-- R359: the word faults. -/
abbrev Aborted (u : State) (i e : Nat) (q : Issued) : State := (u.popQueue i e).faultBatch q.batch 4 false

/-- R318: the word has started and stays at the head of its queue. -/
abbrev Started (s : State) (i e : Nat) (q : Issued) : State := (s.begun i q).setQueued i e 0 { q with started := true }

/-- R315, R691: an access that does not fault. -/
abbrev InTile (s : State) (i p lo len : Nat) : Prop := lo + len ≤ tileBytes ∧ s.foreignBank i p lo len = false

/-- R291, R346, R347: an access of a DRAM window that does not fault. -/
abbrev InWindow (s : State) (b : Batch) (d : DramWindow) (off len : Nat) : Prop :=
  d.base + d.size ≤ (s.partOf b.partition).regionBytes ∧ off + len ≤ d.size ∧
  (s.partOf b.partition).inLarder (d.base + off) len = false

end Sys2Proof.Claims

/-- R318 to R321, R323: a word whose wait is not satisfied does not start; what a word of a lower engine code needs of a token is
gone for the engines behind it; completion signals the word's token and leaves tile memories, arrays, tables and DRAM; a WAIT
that has started takes its count from the token once the token holds it, and MARK writes its record, and each goes on; SYNC increments
its token at every target and faults on a tile outside the partition. -/
abbrev Sys2Proof.Claims.TokensWaitAndSignal : Prop :=
  (∀ (s : State) (i e : Nat) (q : Issued) (mine : TileOp → Bool) (ecc : Ecc) (body : State → Issued → Batch → WordOut),
    ((s.tile i).queue e).head? = some q → q.started = false → s.tokenReady i e q = false → s.runWord i e mine ecc body = s) ∧
  (∀ (s : State) (i d e : Nat) (q x : Issued), d < e → (s.tile i).nextWord d = some x →
    q.word.waitEn ≠ 0 → x.demand q.word.waitTok = (s.tile i).spare q.word.waitTok d → s.tokenReady i e q = false) ∧
  (∀ (u : State) (i e : Nat) (q : Issued) (b : Batch), (∀ y, u.batchOf q.batch = some y → y.graph ≠ .rollout) →
    let t := Completed u i e q b
    (∀ j, (t.tile j).mem = (u.tile j).mem ∧ (t.tile j).arr0 = (u.tile j).arr0 ∧ (t.tile j).arr1 = (u.tile j).arr1 ∧
      (t.tile j).act = (u.tile j).act ∧ (t.tile j).enc = (u.tile j).enc) ∧
    (∀ w p, (t.wing w).region p = (u.wing w).region p) ∧
    (∀ k, (t.tile i).token k =
      if q.word.sigEn ≠ 0 ∧ k = q.word.sigTok ∧
          (u.tile i).token k + mget 0 ((u.tile i).inCycle u.nt (q.actor i)).taken k < 255 then (u.tile i).token k + 1
      else (u.tile i).token k)) ∧
  (∀ (s : State) (i tok count : Nat) (q : Issued) (b : Batch), (s.tile i).seqWord = some q → q.word.op = .wait tok count →
    s.batchOf q.batch = some b → s.tileRuns i = true → (q.started = true ∨ s.tokenReady i 0 q = true) →
    (count ≤ ((s.begun i q).tile i).token tok →
      Gives (.wait i) s (((s.begun i q).takeToken i (q.actor i) tok count).seqDone i q b)) ∧
    (((s.begun i q).tile i).token tok < count →
      Gives (.wait i) s ((s.begun i q).modTile i (fun t => { t with seqWord := some { q with started := true } })))) ∧
  (∀ (s : State) (i value : Nat) (q : Issued) (b : Batch), (s.tile i).seqWord = some q → q.word.op = .mark value →
    s.batchOf q.batch = some b → s.tileRuns i = true → s.tokenReady i 0 q = true →
    let u := (s.startWord i q).trace (16 + i) { kind := 2, context := b.partition, layer := q.word.layer, op := q.word.opId, nt := s.nt, arg0 := value + 4294967296 * (q.batch % 65536) }
    Gives (.mark i) s ((if bitOf value 31 = true then u.fireIn 6 (16 + i) else u).seqDone i q b)) ∧
  (∀ (s : State) (i : Nat) (q : Issued) (b : Batch) (x : SyncOp), Runs s i 8 q b → q.word.op = .sync x →
    ((∀ j ∈ s.syncTargets i b x, s.ownsTile b.partition j = true) →
      Gives (.sync i) s
        (Completed ((s.syncTargets i b x).foldl (fun (u : State) j => u.addToken j (q.actor i) x.tok x.increment) (s.begun i q)) i 8 q b)) ∧
    ((∃ j ∈ s.syncTargets i b x, s.ownsTile b.partition j = false) →
      Gives (.sync i) s (Aborted ((s.begun i q).setStickyIn (16 + i) 120) i 8 q)))

/-- R314, R315, R346 to R348: LOAD and STORE move `length` units between tile memory and a tile of the partition or a DRAM window,
GATHER moves one row for each index, PENDING puts a record in the pending store of the row's packet; beyond tile memory or a window
the word faults, and outside the partition, and in its Larder (log entry 198), it also sets the tile-isolation sticky bit. -/
abbrev Sys2Proof.Claims.MovesAreExact : Prop :=
  (∀ (s : State) (i : Nat) (q : Issued) (b : Batch) (m : MoveOp), Runs s i 8 q b → q.word.op = .load m →
    let n := 64 * m.length
    let dst := q.ref m.localRef
    let d := s.window i b (m.remote % 16)
    let off := 64 * bitsOf m.remote 4 32
    (m.kind = 0 → InTile s i b.partition dst n → s.ownsTile b.partition m.remoteTile = true →
      InTile s m.remoteTile b.partition m.remoteAt n → s.lockedAt i dst n = false →
      Gives (.load i {} none) s
        (Completed ((s.begun i q).tileWrite i dst (s.tileRead m.remoteTile m.remoteAt n)) i 8 q b)) ∧
    (m.kind = 0 → InTile s i b.partition dst n → s.ownsTile b.partition m.remoteTile = false →
      Gives (.load i {} none) s (Aborted ((s.begun i q).setStickyIn (16 + i) 120) i 8 q)) ∧
    (m.kind ≠ 2 → tileBytes < dst + n → Gives (.load i {} none) s (Aborted (s.begun i q) i 8 q)) ∧
    (m.kind = 1 → InTile s i b.partition dst n → InWindow s b d off n → s.lockedAt i dst n = false →
      s.poisonedAt (tileWing i) b.partition (d.base + off) n = none →
      Gives (.load i {} none) s
        (Completed ((s.begun i q).tileWrite i dst (s.regionRead (tileWing i) b.partition (d.base + off) n)) i 8 q b)) ∧
    (m.kind = 1 → InTile s i b.partition dst n → d.base + d.size ≤ (s.partOf b.partition).regionBytes → d.size < off + n →
      Gives (.load i {} none) s (Aborted (s.begun i q) i 8 q)) ∧
    (m.kind = 1 → InTile s i b.partition dst n → d.base + d.size ≤ (s.partOf b.partition).regionBytes → off + n ≤ d.size →
      (s.partOf b.partition).inLarder (d.base + off) n = true →
      Gives (.load i {} none) s (Aborted ((s.begun i q).setStickyIn (16 + i) 120) i 8 q))) ∧
  (∀ (s : State) (i : Nat) (q : Issued) (b : Batch) (m : MoveOp), Runs s i 8 q b → q.word.op = .load m → m.kind = 2 → 1 ≤ m.length →
    let units := bitsOf m.remote 24 8
    let ix := q.ref (bitsOf m.remote 4 20)
    let dst := q.ref m.localRef
    let d := s.window i b (m.remote % 16)
    let row := fun (k : Nat) => d.base + 64 * units * leNat (s.tileRead i (ix + 4 * k) 4)
    InTile s i b.partition dst (64 * units * m.length) → InTile s i b.partition ix (4 * m.length) →
    s.lockedAt i dst (64 * units * m.length) = false →
    (∀ k, k < m.length → InWindow s b d (64 * units * leNat (s.tileRead i (ix + 4 * k) 4)) (64 * units) ∧
      s.poisonedAt (tileWing i) b.partition (row k) (64 * units) = none) →
    Gives (.gather i {} none) s
      (Completed ((List.range m.length).foldl (fun (u : State) k =>
        u.tileWrite i (dst + 64 * units * k) (s.regionRead (tileWing i) b.partition (row k) (64 * units))) (s.begun i q)) i 8 q b)) ∧
  (∀ (s : State) (i : Nat) (q : Issued) (b : Batch) (m : MoveOp), Runs s i 8 q b → q.word.op = .store m →
    let n := 64 * m.length
    let src := q.ref m.localRef
    let d := s.window i b (m.remote % 16)
    let off := 64 * bitsOf m.remote 4 32
    InTile s i b.partition src n →
    (m.kind = 0 → s.ownsTile b.partition m.remoteTile = true → InTile s m.remoteTile b.partition m.remoteAt n →
      s.lockedAt m.remoteTile m.remoteAt n = false →
      Gives (.store i {}) s (Completed ((s.begun i q).tileWrite m.remoteTile m.remoteAt (s.tileRead i src n)) i 8 q b)) ∧
    (m.kind = 0 → s.ownsTile b.partition m.remoteTile = true → InTile s m.remoteTile b.partition m.remoteAt n →
      s.lockedAt m.remoteTile m.remoteAt n = true → Gives (.store i {}) s s) ∧
    (m.kind = 1 → InWindow s b d off n →
      Gives (.store i {}) s
        (Completed ((s.begun i q).regionWrite (tileWing i) b.partition (d.base + off) (s.tileRead i src n)) i 8 q b)) ∧
    (m.kind = 3 → ∀ y words, s.rowStair (batchHome q.batch) q.batch b (m.remote % 128) = some y → 128 ≤ leAt (s.tileRead i src n) 0 1 →
      words = leAt (s.tileRead i src n) 1 1 % 128 → 1 ≤ words → words ≤ 64 → words ≤ 8 * m.length →
      Gives (.pending i {}) s
        (Completed ((s.begun i q).setStair (batchHome q.batch) { y with records := y.records ++ [{ queue := bitsOf m.remote 7 2, priority := bitsOf m.remote 9 3, data := (s.tileRead i src n).take (8 * words), batch := q.batch }] }) i 8 q b)))

/-- R318 to R333: tokens, waits, and moves of bytes. -/
def Obligations.TokensAndMoves : Prop :=
  Claims.TokensWaitAndSignal ∧ Claims.MovesAreExact

/-- R316, R334, R338 to R341, R398, R424: a FEED fills an EMPTY half from its offset 0 and marks it FULL, a SCALE feed writes registers
from 0 upward and the tag of the set of the next pass, a codebook feed whose check passes writes its slot; a FULL half, a
set in use and a slot in use make the word wait; a codebook whose check fails faults and leaves its slot. -/
abbrev Sys2Proof.Claims.FeedsFillHalves : Prop :=
  ∀ (s : State) (i : Nat) (q : Issued) (b : Batch) (f : FeedOp), Runs s i (1 + f.array) q b → q.word.op = .feed f →
    let x := (s.tile i).arr f.array
    let bs := s.tileRead i (q.ref f.src) (64 * f.length)
    let book := elements 16 (s.tileRead i (q.ref f.src) (2 * (if f.cbSize = 0 then 16 else 256)))
    (f.target = 0 → InTile s i b.partition (q.ref f.src) (64 * f.length) →
      ((x.aHalf f.half).full = true → Gives (.feed i f.array {}) s s) ∧
      ((x.aHalf f.half).full = false →
        Gives (.feed i f.array {}) s
          (Completed ((s.begun i q).setArr i f.array (x.setA f.half { full := true, data := bs ++ (x.aHalf f.half).data.drop bs.length, tag := f.tag }).advance) i (1 + f.array) q b))) ∧
    (f.target = 1 → InTile s i b.partition (q.ref f.src) (64 * f.length) →
      ((x.bHalf f.half).full = true → Gives (.feed i f.array {}) s s) ∧
      ((x.bHalf f.half).full = false →
        Gives (.feed i f.array {}) s
          (Completed ((s.begun i q).setArr i f.array (x.setB f.half { full := true, data := bs ++ (x.bHalf f.half).data.drop bs.length, tag := f.tag }).advance) i (1 + f.array) q b))) ∧
    (f.target = 2 → InTile s i b.partition (q.ref f.src) (64 * f.length) →
      (x.setInUse x.nextPass = true → Gives (.feedScale i f.array {}) s s) ∧
      (x.setInUse x.nextPass = false → ∃ z : ScaleSet, z.tag = f.tag ∧
        (∀ j, z.reg j = if j < 8 * f.length then leAt bs (8 * j) 8 else (x.set x.nextPass).reg j) ∧
        Gives (.feedScale i f.array {}) s
          (Completed ((s.begun i q).setArr i f.array (x.setSet x.nextPass z)) i (1 + f.array) q b))) ∧
    (3 ≤ f.target → f.target ≤ 4 → InTile s i b.partition (q.ref f.src) (2 * (if f.cbSize = 0 then 16 else 256)) →
      (x.usesCodebook (f.target == 3) f.cbSlot = true → Gives (.feedCodebook i f.array {}) s s) ∧
      (x.usesCodebook (f.target == 3) f.cbSlot = false →
        codebookOk (f.target == 3) (book.map (BitVec.ofNat 16)) = false →
        Gives (.feedCodebook i f.array {}) s (Aborted ((s.begun i q).countFault b q (Ctr.tileFaultCodebook i)) i (1 + f.array) q)) ∧
      (x.usesCodebook (f.target == 3) f.cbSlot = false →
        codebookOk (f.target == 3) (book.map (BitVec.ofNat 16)) = true → ∃ y : MatArray,
        Gives (.feedCodebook i f.array {}) s (Completed ((s.begun i q).setArr i f.array y) i (1 + f.array) q b) ∧
        (f.target = 3 → y.cbB = x.cbB ∧ ∀ k, mget {} y.cbA k =
          if k = f.cbSlot then { size := if f.cbSize = 0 then 16 else 256, entries := book.map (BitVec.ofNat 16) }
          else mget {} x.cbA k) ∧
        (f.target = 4 → y.cbA = x.cbA ∧ ∀ k, mget {} y.cbB k =
          if k = f.cbSlot then { size := if f.cbSize = 0 then 16 else 256, entries := book.map (BitVec.ofNat 16) }
          else mget {} x.cbB k)))

namespace Sys2Proof.Claims

/-- R365, R373, R380, R387: the pass word `q` heads its array's queue, its wait is satisfied, and the array can start it with the
preload `pre`. -/
abbrev PassStarts (s : State) (i a : Nat) (q : Issued) (b : Batch) (p : PassOp) (pre : List (BitVec 32)) : Prop :=
  Runs s i (3 + a) q b ∧ s.tokenReady i (3 + a) q = true ∧ ((s.tile i).arr a).canStart q p = true ∧
  ((s.tile i).arr a).preloaded ((s.tile i).arr a).passes = some pre

/-- The array has started the pass and issue goes on. -/
abbrev started (s : State) (i a : Nat) (q : Issued) (p : PassOp) (pre : List (BitVec 32)) : State :=
  (((s.startWord i q).popQueue i (3 + a)).setArr i a (((s.tile i).arr a).startPass q p pre)).pump i

end Sys2Proof.Claims

/-- R333, R364, R365, R373, R374, R386, R387, R400: MMA, SEL and DIST start a pass once the array is active, in the pass's form, and
holds its preload and the operands of step 0; a codebook of the wrong size faults; FORM_CHANGE takes the form of the pass at the head
once every earlier pass has left the array, and preloads are given up; RAMP_UP ends the parked state, RAMP_DOWN starts it once every
pass has completed; nothing else of the array changes. -/
abbrev Sys2Proof.Claims.PassesStart : Prop :=
  (∀ (s : State) (i a : Nat) (q : Issued) (b : Batch) (p : PassOp) (pre : List (BitVec 32)), PassStarts s i a q b p pre →
    (q.word.op = .mma p → ((s.tile i).arr a).badCodebook 0x10 p = false → Gives (.mma i a {}) s (started s i a q p pre)) ∧
    (q.word.op = .sel p → ((s.tile i).arr a).badCodebook 0x11 p = false → Gives (.sel i a {}) s (started s i a q p pre)) ∧
    (q.word.op = .dist p → ((s.tile i).arr a).badCodebook 0x12 p = false → Gives (.dist i a {}) s (started s i a q p pre)) ∧
    (q.word.op = .mma p → ((s.tile i).arr a).badCodebook 0x10 p = true →
      Gives (.mma i a {}) s
        ((((s.startWord i q).popQueue i (3 + a)).countFault b q (Ctr.tileFaultCodebook i)).faultBatch q.batch 4 false))) ∧
  (∀ (s : State) (i a : Nat) (q : Issued) (b : Batch) (p : PassOp), Runs s i (3 + a) q b → s.tokenReady i (3 + a) q = true →
    (q.word.op = .mma p ∨ q.word.op = .sel p ∨ q.word.op = .dist p) →
    let x := (s.tile i).arr a
    (x.form ≠ p.form → x.live = [] →
      ∃ t : State, Gives (.formChange i a) s t ∧ (∀ j, j ≠ i → t.tile j = s.tile j) ∧
        t.tile i = (s.tile i).setArr a { x with form := p.form, pre := [] }) ∧
    (x.parked = true →
      ∃ t : State, Gives (.rampUp i a) s t ∧ (∀ j, j ≠ i → t.tile j = s.tile j) ∧
        t.tile i = (s.tile i).setArr a { x with parked := false })) ∧
  (∀ (s : State) (i a : Nat), let x := (s.tile i).arr a
    x.parked = false → (s.tile i).queue (3 + a) = [] → s.wingFree (tileWing i) = true →
    ((∀ p ∈ x.live, p.completed = true) → Gives (.rampDown i a) s (s.setArr i a { x with parked := true })) ∧
    ((∃ p ∈ x.live, p.completed = false) → Gives (.rampDown i a) s s))

/-- R334 to R345, R374: feeder halves are filled, and passes start on them. -/
def Obligations.FeedsAndPasses : Prop :=
  Claims.FeedsFillHalves ∧ Claims.PassesStart

namespace Sys2Proof.Claims

/-- The code of A element (i, k) and of B element (k, j) of a pass whose streams stay in one half (R367). -/
abbrev aCode (x : MatArray) (p : PassOp) (i k : Nat) : Nat :=
  ((elements p.aBits ((x.aHalf p.aHalf).read (64 * p.aOffset + p.aStep * k) p.aStep))[i]?).getD 0
abbrev bCode (x : MatArray) (p : PassOp) (k j : Nat) : Nat :=
  ((elements p.bBits ((x.bHalf p.bHalf).read (64 * p.bOffset + p.bStep * k) p.bStep))[j]?).getD 0

/-- Tables 09-2 and 10-4: the value of cell (i, j) of an MMA or DIST pass after `k` steps from the preload value `v`. -/
def accAfter (x : MatArray) (op : Nat) (p : PassOp) (v : F32) (i j : Nat) : Nat → F32
  | 0 => v
  | k + 1 => cellStep op p.mode (accAfter x op p v i j k) (x.expandA p (aCode x p i k)) (x.expandB p (bCode x p k j))
      (aCode x p i k) (bCode x p k j)

/-- R370: the value of cell (i, j) of a SEL pass after `k` steps: the node bit of the highest marked step, else the default. -/
def selAfter (x : MatArray) (y : ScaleSet) (p : PassOp) (i j : Nat) : Nat → F32
  | 0 => if bitOf (y.reg j) 32 then fOne else 0
  | k + 1 => if bCode x p k j = 0 then selAfter x y p i j k else selStep (y.reg j) (x.expandA p (aCode x p i k))

/-- Both streams of a pass lie in one FULL half each, and the block tags agree (R337, R340). -/
abbrev Fed (x : MatArray) (p : PassOp) : Prop :=
  p.form ≤ 4 ∧ (x.aHalf p.aHalf).full = true ∧ (x.bHalf p.bHalf).full = true ∧ 64 * p.aOffset + p.aStep * p.k ≤ 16384 ∧
  64 * p.bOffset + p.bStep * p.k ≤ 32768 ∧ (x.bHalf p.bHalf).tag = (x.set x.passes).tag

end Sys2Proof.Claims

/-- R363, R366 to R371, R405: a pass whose operands are there leaves in cell (i, j) what its K steps, in ascending order, make of the
preload (MMA, DIST), or 1.0 or +0 for the node bit (SEL), in all M × N cells. -/
def Obligations.PassesComputeCells : Prop :=
  ∀ (x : MatArray) (q : Issued) (p : PassOp) (pre : List (BitVec 32)), Fed x p → pre.length = formRows p.form * formCols p.form →
    let y := x.startPass q p pre
    (q.word.op = .mma p ∨ q.word.op = .dist p ∨ q.word.op = .sel p) →
    ∃ z : Pass, y.live = x.live ++ [z] ∧ z.k = p.k ∧ z.n = x.passes ∧ z.acc.length = formRows p.form * formCols p.form ∧
      (∀ i j, i < formRows p.form → j < formCols p.form →
        z.acc[i * formCols p.form + j]? = some (
          if q.word.op = .sel p then selAfter x (x.set x.passes) p i j p.k
          else accAfter x q.word.op.opcode p ((pre[i * formCols p.form + j]?).getD 0) i j p.k))

/-- R336, R342, R343, R374 to R379, R382: PASS_COMPLETE completes the oldest pass that has not, once its last step has been read and
the pass before last has left its banks, and empties the halves that it releases; SWAP moves a column of a pass to its drain lane, once
its cells are done, the column's bank is free of earlier passes and the pass before has shifted out of the lane; DRAIN, which binds to
passes in order, starts once the Post unit has read its buffer, shifts out the columns that have swapped, and leaves the results in the buffer
once all have; PRELOAD gives the next pass in order the values of R343 once the preload lane is empty. -/
abbrev Sys2Proof.Claims.ResultsMoveOut : Prop :=
  (∀ (s : State) (i a : Nat) (p : Pass) (b : Batch), let x := (s.tile i).arr a
    x.live.find? (fun y => !y.completed) = some p → s.batchOf p.issued.batch = some b → b.graph ≠ .rollout →
    s.tileRuns i = true →
    ((p.op.k ≤ p.k ∧ (p.n < 2 ∨ x.left (p.n - 2) = true)) →
      ∃ t : State, Gives (.passComplete i a) s t ∧
        ((t.tile i).arr a).live = x.live.map (fun y => if y.n = p.n then { p with completed := true } else y) ∧
        (((t.tile i).arr a).aHalf p.aHalf).full = ((x.aHalf p.aHalf).full && (p.op.aRelease != 1)) ∧
        (((t.tile i).arr a).bHalf p.bHalf).full = ((x.bHalf p.bHalf).full && (p.op.bRelease != 1)) ∧
        ((t.tile i).arr a).pre = x.pre ∧ ((t.tile i).arr a).drainBuf = x.drainBuf ∧
        (∀ j, (t.tile j).mem = (s.tile j).mem)) ∧
    (¬ (p.op.k ≤ p.k ∧ (p.n < 2 ∨ x.left (p.n - 2) = true)) → Gives (.passComplete i a) s s)) ∧
  (∀ (s : State) (i a j : Nat) (p : Pass), let x := (s.tile i).arr a
    x.swapping j = some p → s.tileRuns i = true →
    (x.swapReady p j = false → Gives (.swap i a j) s s) ∧
    (x.swapReady p j = true → (∀ z ∈ (s.tile i).queue (drainEngine a), z.draining = false) →
      ∃ t : State, Gives (.swap i a j) s t ∧ (t.tile i).arr a = x.setPass { p with swapped := j + 1 } ∧
        ((t.tile i).arr a).freed (p.n + 2) j = true)) ∧
  (∀ (s : State) (i a : Nat) (q : Issued) (b : Batch) (d : DrainOp) (rest : List Issued), let x := (s.tile i).arr a
    (s.tile i).queue (drainEngine a) = q :: rest → Runs s i (drainEngine a) q b → s.tokenReady i (drainEngine a) q = true →
    q.word.op = .drain d → d.subOp = 0 →
    (∀ z ∈ (s.tile i).queue (drainEngine a), z.started = false ∧ z.done = false) →
    (x.bufRead = false → Gives (.drain i a {}) s s) ∧
    (∀ p, x.bufRead = true → x.pass x.drains = some p → formCols p.op.form ≤ p.swapped →
      ∃ t : State, Gives (.drain i a {}) s t ∧
        (t.tile i).arr a = { x with drains := x.drains + 1, live := x.live.filter (fun y => y.n != x.drains), bufRead := false, drainBuf := some { n := x.drains, rows := formRows p.op.form, cols := formCols p.op.form, vals := p.acc } }) ∧
    (∀ p, x.bufRead = true → x.pass x.drains = some p → p.swapped < formCols p.op.form →
      ∃ t : State, Gives (.drain i a {}) s t ∧
        (t.tile i).arr a = { x.setPass { p with shifted := p.swapped } with drains := x.drains + 1 } ∧
        (t.tile i).queue (drainEngine a) = { q with started := true, bound := x.drains } :: rest)) ∧
  (∀ (s : State) (i a : Nat) (q : Issued) (b : Batch) (d : DrainOp), let x := (s.tile i).arr a
    let m := formRows x.form
    let n := formCols x.form
    Runs s i (drainEngine a) q b → s.tokenReady i (drainEngine a) q = true → q.word.op = .drain d → d.subOp = 1 → d.source ≤ 2 →
    (∀ z ∈ (s.tile i).queue (drainEngine a), z.started = false ∧ z.done = false) → s.preloadForm i a x.preloads = x.form →
    x.passes ≤ x.preloads → mfind x.pre x.preloads = none →
    InTile s i b.partition (q.ref d.src) (preloadBytes d m n) → x.form ≤ 4 →
    ∃ v : List (BitVec 32), v.length = m * n ∧
      (∀ r c, r < m → c < n → v[r * n + c]? = some (
        if d.source = 0 then 0
        else if d.source = 1 then f32Of (s.tileRead i (q.ref d.src + 4 * c) 4)
        else f32Of (s.tileRead i (q.ref d.src + 4 * (r * n + c)) 4))) ∧
      ((x.preloads = 0 ∨ x.freed (x.preloads - 1) 0 = true) → ∃ t : State, Gives (.preload i a {}) s t ∧
        (t.tile i).arr a = { x with preloads := x.preloads + 1, pre := mput x.pre x.preloads v }) ∧
      ((x.preloads ≠ 0 ∧ x.freed (x.preloads - 1) 0 = false) → ∃ t : State, Gives (.preload i a {}) s t ∧
        (t.tile i).arr a = { x with preloads := x.preloads + 1 }))

/-- R447, R448, R450, R451: a feeder that holds a step releases it once the tags of the compared B half and of the pass's scale set agree;
TAG_MISMATCH, while they still differ, sets the tile-tag-mismatch sticky bit and aborts the batch with cause TAG_MISMATCH. -/
abbrev Sys2Proof.Claims.TagHoldsResolve : Prop :=
  ∀ (s : State) (i a : Nat) (p : Pass) (b : Batch) (h : Nat), let x := (s.tile i).arr a
    let w := batchHome p.issued.batch
    x.heldPass = some p → p.compareHalf = some h → s.tileRuns i = true → s.batchOf p.issued.batch = some b →
    ((x.bHalf h).tag = (x.set p.n).tag →
      Gives (.tagHold i a) s (s.setArr i a { x with live := x.live.dropLast ++ [{ p with held := false }] }.advance) ∧
      Gives (.tagMismatch i a) s s) ∧
    ((x.bHalf h).tag ≠ (x.set p.n).tag →
      Gives (.tagHold i a) s s ∧
      ∃ t : State, Gives (.tagMismatch i a) s t ∧ t.stickyBit 160 = true ∧
        (b.aborted = false → ∃ c : Batch, t.batchOf p.issued.batch = some c ∧ c.aborted = true ∧ c.rows = b.rows ∧
          (c.abandoned = false → ∀ y ∈ (s.wing w).stairs, y.batch = some p.issued.batch → y.squash = none →
            y.state ≠ .squashed → ∃ z ∈ (t.wing w).stairs, z.index = y.index ∧ z.squash = some 3)))

/-- R348 to R356, R451: results leave the arrays, and tag holds resolve. -/
def Obligations.ResultsAndTags : Prop :=
  Claims.ResultsMoveOut ∧ Claims.TagHoldsResolve

namespace Sys2Proof.Claims

/-- The bytes `[a, a + n)` of tile memory after a word's effect. -/
abbrev Holds (u : State) (i a : Nat) (bs : Bytes) : Prop := u.tileRead i a bs.length = bs

/-- Tile memory is as before outside the stored ranges. -/
abbrev OnlyAt (s u : State) (i : Nat) (xs : List (Nat × Nat)) : Prop :=
  ∀ a, (∀ x ∈ xs, a < x.1 ∨ x.1 + x.2 ≤ a) → memGet (u.tile i).mem a = memGet (s.tile i).mem a

/-- No access of a list faults, and none is write-locked. -/
abbrev Allowed (s : State) (i p : Nat) (xs : List (Nat × Nat)) : Prop := ∀ x ∈ xs, InTile s i p x.1 x.2
abbrev Unlocked (s : State) (i : Nat) (xs : List (Nat × Nat)) : Prop := ∀ x ∈ xs, s.lockedAt i x.1 x.2 = false

/-- The POST word `q` with the operands `p` and sub-op `sub` heads the Post queue and can read the rows `all`; those with a
wide-mask bit are `rows` (R444). -/
abbrev PostRuns (sub : Nat) (s : State) (i : Nat) (q : Issued) (b : Batch) (p : PostOp) (all rows : List PostRow) : Prop :=
  Runs s i 7 q b ∧ q.word.op = .post p ∧ p.subOp = sub ∧ s.postRows i q b p = some all ∧
  rows = all.filter (fun r => (s.tile i).writesRow q r.row) ∧ b.rows.length ≤ 128

end Sys2Proof.Claims

/-- R344, R425 to R427, R440: PIPE writes each row's rescaled, activated and encoded elements in their places, GROUP adds each row's scaled
partials to its sums, and neither changes another byte of tile memory; a PIPE with rescale, and a GROUP, that read MEM fault. -/
abbrev Sys2Proof.Claims.PipeAndGroupRows : Prop :=
  (∀ (s : State) (i : Nat) (q : Issued) (b : Batch) (p : PostOp) (all rows : List PostRow), PostRuns 0 s i q b p all rows →
    let c := s.pipeCfg i q b p
    let at_ := fun (r : PostRow) => q.ref p.dst + 64 * pipeUnits p.count c.out * r.row
    let writes := rows.map (fun r => (at_ r, (r.vals.length * outBits c.out + 7) / 8))
    (p.paramA % 2 = 1 → p.srcKind = 2 → Gives (.pipe i {}) s (Aborted (s.begun i q) i 7 q)) ∧
    (¬ (p.paramA % 2 = 1 ∧ p.srcKind = 2) → c.formatBad = true →
      Gives (.pipe i {}) s (Aborted ((s.begun i q).countFault b q (Ctr.tileFaultEncode i)) i 7 q)) ∧
    (¬ (p.paramA % 2 = 1 ∧ p.srcKind = 2) → c.formatBad = false → c.opensMany (s.tile i) q b rows = false →
      Allowed s i b.partition (s.scaleReads i q b (c.enc.map (·.1)) ++ readsOf p all ++ writes) → Unlocked s i writes → p.paramB % 8 ≤ 4 →
      ∃ u : State, Gives (.pipe i {}) s (Completed u i 7 q b) ∧ OnlyAt s u i writes ∧
        (∀ r ∈ rows, Holds u i (at_ r) (c.row r.vals).1))) ∧
  (∀ (s : State) (i : Nat) (q : Issued) (b : Batch) (p : PostOp), Runs s i 7 q b → q.word.op = .post p → p.subOp = 1 →
    (p.srcKind = 2 → Gives (.group i {}) s (Aborted (s.begun i q) i 7 q)) ∧
    (∀ (res : Result) (rows : List PostRow), let x := (s.tile i).arr p.srcKind
      let dyn := s.blockScale i q b
      let reach := fun (r : PostRow) => (q.ref p.dst + 64 * rowUnits p.count * r.row, 4 * r.vals.length)
      let at_ := fun (r : PostRow) => (reach r).1
      let writes := rows.map reach
      p.srcKind ≠ 2 → x.drainBuf = some res → rows = (drainRows res p.count).filter (fun r => (s.tile i).writesRow q r.row) →
      Allowed s i b.partition (s.scaleReads i q b none) → Unlocked s i writes →
      Allowed s i b.partition (if p.paramA % 2 = 1 then writes else (drainRows res p.count).map reach) →
      ∃ u : State, Gives (.group i {}) s (Completed u i 7 q b) ∧ OnlyAt s u i writes ∧
        (∀ r ∈ rows, ∀ j v, r.vals[j]? = some v →
          f32Of (u.tileRead i (at_ r + 4 * j) 4) =
            fMulAdd (columnScale (x.set res.n) dyn j).1 v
              (if p.paramA % 2 = 1 then (x.set res.n).bias j else f32Of (s.tileRead i (at_ r + 4 * j) 4)))))

/-- R410, R465, R466: the running list of TOPK holds the members that rank first, in that order. -/
abbrev Sys2Proof.Claims.TopListRanksFirst : Prop :=
  (∀ xs : List (F32 × F32), let l := xs.foldl (fun l x => topInsert x l) []
    l.Perm xs ∧ l.Pairwise (fun x y => topBefore y x = false)) ∧
  (∀ (s : State) (i : Nat) (q : Issued) (b : Batch) (p : PostOp) (all rows : List PostRow), PostRuns 2 s i q b p all rows →
    let at_ := fun (r : PostRow) => q.ref p.dst + 64 * ((8 * p.paramA + 63) / 64) * r.row
    let kept := rows.filter (fun r => decide (r.row < b.rows.length))
    let writes := kept.map (fun r => (at_ r, 8 * p.paramA))
    Allowed s i b.partition (readsOf p all ++ writes) → Unlocked s i writes →
    ∃ u : State, Gives (.topk i {}) s (Completed u i 7 q b) ∧ OnlyAt s u i writes ∧
      (∀ r ∈ kept, Holds u i (at_ r) (topBytes p.paramA (((if p.paramB % 2 = 1 then s.topPresent i (at_ r) p.paramA else []) ++
        candidates (512 * (p.paramB / 2)) r.vals).foldl (fun l x => topInsert x l) [] |>.take p.paramA))))

/-- R413, R437, R461 to R464, R467 to R469: LINK writes its outputs over the elements and the class and score of each row; TREE writes the
leaf sums of each row and faults where a walk meets a 17th node; TABLE loads a table whose check passes, and otherwise faults
and leaves the slot. -/
abbrev Sys2Proof.Claims.LinkTreeTable : Prop :=
  (∀ (s : State) (i : Nat) (q : Issued) (b : Batch) (p : PostOp) (all rows : List PostRow), PostRuns 3 s i q b p all rows →
    p.srcKind = 2 → 1 ≤ p.count →
    let sum := fun (r : PostRow) => q.ref p.dst + 64 * r.row
    let writes := readsOf p rows ++ rows.map (fun r => (sum r, 64))
    Allowed s i b.partition (readsOf p all ++ writes) → Unlocked s i writes →
    (∀ x ∈ rows, ∀ y ∈ rows, x.at_ + 4 * p.count ≤ sum y ∨ sum y + 64 ≤ x.at_) →
    ∃ u : State, Gives (.link i {}) s (Completed u i 7 q b) ∧ OnlyAt s u i writes ∧
      (∀ r ∈ rows, let y := (linkOut p.paramA r.vals).1
        Holds u i r.at_ (f32Bytes y) ∧
        Holds u i (sum r) (f32Bytes (natF32 (classOf y) :: (y[classOf y]?).getD 0 :: List.replicate 14 0)))) ∧
  (∀ (s : State) (i : Nat) (q : Issued) (b : Batch) (t : TreeOp), Runs s i 7 q b → q.word.op = .tree t →
    let h := s.treeHead i (q.ref t.trees)
    let bitsAt := q.ref t.nodeBits
    let rows := List.range b.rows.length
    let at_ := fun (r : Nat) => q.ref t.dst + 64 * rowUnits h.outputs * r
    let writes := (rows.filter (fun r => (s.tile i).writesRow q r)).map (fun r => (at_ r, 4 * h.outputs))
    InTile s i b.partition (q.ref t.trees) (0x140 + 4 * (t.treeCountMinus1 + 1)) →
    InTile s i b.partition h.nodeAt (8 * h.nodes) → InTile s i b.partition h.leafAt (4 * h.leaves) →
    Allowed s i b.partition (rows.map (fun r => (bitsAt + 64 * rowUnits h.bits * r, 4 * h.bits)) ++ writes) → Unlocked s i writes →
    (s.treeRows i h (t.treeCountMinus1 + 1) bitsAt rows = none →
      Gives (.tree i {}) s (Aborted ((s.begun i q).bumpFor b.partition (Ctr.tileFaultTree i) 1) i 7 q)) ∧
    (∀ outs, s.treeRows i h (t.treeCountMinus1 + 1) bitsAt rows = some outs →
      ∃ u : State, Gives (.tree i {}) s (Completed u i 7 q b) ∧ OnlyAt s u i writes ∧
        (∀ o ∈ outs, (s.tile i).writesRow q o.1 = true → Holds u i (at_ o.1) (f32Bytes o.2.1)))) ∧
  (∀ (s : State) (i : Nat) (q : Issued) (b : Batch) (p : PostOp), Runs s i 7 q b → q.word.op = .post p → p.subOp = 6 →
    let act := s.tileRead i (q.ref p.src) 3072
    let enc := s.tileRead i (q.ref p.src) 1088
    (p.paramA < 4 → InTile s i b.partition (q.ref p.src) 3072 →
      (actTableOk act = true → ∃ u : State, Gives (.table i {}) s (Completed u i 7 q b) ∧ (u.tile i).enc = (s.tile i).enc ∧
        (u.tile i).mem = (s.tile i).mem ∧ ∀ k, mfind (u.tile i).act k = if k = p.paramA then some act else mfind (s.tile i).act k) ∧
      (actTableOk act = false → Gives (.table i {}) s (Aborted ((s.begun i q).countFault b q (Ctr.tileFaultTable i)) i 7 q))) ∧
    (4 ≤ p.paramA → p.paramA < 8 → InTile s i b.partition (q.ref p.src) 1088 →
      (encTableOk enc = true → ∃ u : State, Gives (.table i {}) s (Completed u i 7 q b) ∧ (u.tile i).act = (s.tile i).act ∧
        (u.tile i).mem = (s.tile i).mem ∧ ∀ k, mfind (u.tile i).enc k = if k = p.paramA - 4 then some enc else mfind (s.tile i).enc k) ∧
      (encTableOk enc = false → Gives (.table i {}) s (Aborted ((s.begun i q).countFault b q (Ctr.tileFaultEncode i)) i 7 q))))

/-- The vector stages: pipelines and groups, top lists, and link, tree and table words. -/
def Obligations.RowStages : Prop :=
  Claims.PipeAndGroupRows ∧ Claims.TopListRanksFirst ∧ Claims.LinkTreeTable

namespace Sys2Proof.Claims

/-- The entries of a Wing's Stairwell have numbers of their own and hold packets of their own. -/
abbrev Distinct (x : Wing) : Prop := (x.stairs.map (fun y => y.index)).Nodup ∧ (x.stairs.map (fun y => y.pkt.id)).Nodup

end Sys2Proof.Claims

/-- R327 to R329, R443, R456, R472, R473: CHECK re-runs exactly when some row's clips exceed its threshold, the layer has a wide segment and
the CHECK is not within one; VERDICT gives each row's packet the pending verdict of its class and score, and faults the batch
where a row has one already. -/
abbrev Sys2Proof.Claims.CheckAndVerdict : Prop :=
  (∀ (s : State) (i : Nat) (q : Issued) (b : Batch) (p : PostOp), Runs s i 7 q b → q.word.op = .post p → p.subOp = 4 →
    let t := s.tile i
    let wide := wideMask (t.clip q.batch q.word.layer) b.rows.length
    ∃ u : State, Gives (.check i) s (Completed u i 7 q b) ∧ (u.tile i).checkWait = false ∧ (u.tile i).clip q.batch q.word.layer = none ∧
      (u.tile i).mem = t.mem ∧
      (∀ r, r ∈ wide ↔ r < b.rows.length ∧ ∃ c, t.clip q.batch q.word.layer = some c ∧
        mget 0 c.encoded r < mget 0 c.clipped r * 2 ^ c.log2) ∧
      ((wide = [] ∨ q.wide = true ∨ t.wideSegment b.epoch q.word.layer = none) → (u.tile i).pc = t.pc ∧ (u.tile i).ret = t.ret) ∧
      (∀ a, wide ≠ [] → q.wide = false → t.wideSegment b.epoch q.word.layer = some a →
        (u.tile i).pc = a ∧ (u.tile i).ret = some t.pc ∧ (u.tile i).wideRows = wide)) ∧
  (∀ (s : State) (i : Nat) (q : Issued) (b : Batch) (p : PostOp) (all rows : List PostRow) (img : Image) (c : SlotCfg),
    PostRuns 5 s i q b p all rows → s.batchCfg b = some (img, c) → Distinct (s.wing (batchHome q.batch)) →
    let kept := rows.filter (fun r => decide (r.row < b.rows.length))
    ((∃ r ∈ kept, ∃ y, s.rowStair (batchHome q.batch) q.batch b r.row = some y ∧ y.verdict.isSome = true) →
      Gives (.verdict i {}) s (Aborted ((s.begun i q).bumpFor b.partition (Ctr.tileFaultVerdict i) 1) i 7 q)) ∧
    ((∀ r ∈ kept, ∀ y, s.rowStair (batchHome q.batch) q.batch b r.row = some y → y.verdict = none) →
      Allowed s i b.partition (readsOf p all) → b.rows.Nodup →
      ∃ u : State, Gives (.verdict i {}) s (Completed u i 7 q b) ∧ (u.tile i).mem = (s.tile i).mem ∧
        (∀ r ∈ kept, ∀ y, s.rowStair (batchHome q.batch) q.batch b r.row = some y →
          ∃ z, u.rowStair (batchHome q.batch) q.batch b r.row = some z ∧
            z.verdict = some (pendingVerdict c y q.batch (r.vals.headD 0) ((r.vals[1]?).getD 0)) ∧
            z = { y with verdict := z.verdict, batchCounts := z.batchCounts })))

/-- R21, R349 to R351, R358, R458, R459: STATE_IN writes each row's input state and counts the rows, once it has arrived, and faults on a
second one for a row and on the other Wing; STATE_RELEASE writes the header of the device into each row's
block, gives the row's packet the block, the rest as the program left it, as its new state, and write-locks it; REDUCE starts, waits for
its arrivals, takes them, and writes the sums in slot order. -/
abbrev Sys2Proof.Claims.StateAndReduce : Prop :=
  (∀ (s : State) (i : Nat) (q : Issued) (b : Batch) (x : StateOp) (img : Image) (c : SlotCfg), Runs s i 9 q b →
    q.word.op = .state x → x.subOp = 0 → s.batchCfg b = some (img, c) → b.graph ≠ .rollout →
    let w := batchHome q.batch
    let size := (s.partOf b.partition).blockBytes
    let blockAt := fun (r : Nat) => q.ref x.state + size * (r - x.rowFirst)
    let tokenAt := fun (r : Nat) => q.ref x.token + c.tokenBytes * (r - x.rowFirst)
    let writes := (x.rows b).map (fun r => (blockAt r, size)) ++ (x.rows b).map (fun r => (tokenAt r, 2 * c.tokenWidth))
    ((tileWing i ≠ w ∨ ∃ r ∈ x.rows b, r ∈ b.stateIn) → Gives (.stateIn i {}) s (Aborted (s.begun i q) i 9 q)) ∧
    (tileWing i = w → (∀ r ∈ x.rows b, r ∉ b.stateIn) → Allowed s i b.partition writes →
      ((∃ r ∈ x.rows b, ∃ y, s.rowState w q.batch b r = .packet y ∧ y.input = none) →
        Gives (.stateIn i {}) s (Started s i 9 q)) ∧
      ((∀ r ∈ x.rows b, ∃ y bl, s.rowState w q.batch b r = .packet y ∧ y.input = some bl ∧ bl.length = size) →
        Unlocked s i writes →
        (∀ r ∈ x.rows b, ∀ k ∈ x.rows b, blockAt r + size ≤ tokenAt k ∨ tokenAt k + 2 * c.tokenWidth ≤ blockAt r) →
        (∀ f ∈ c.features, f.element + (if f.transform = 3 then f.count else 1) ≤ c.tokenWidth) →
        ∃ u : State, Gives (.stateIn i {}) s (Completed u i 9 q b) ∧ OnlyAt s u i writes ∧
          u.batchOf q.batch = some { b with stateIn := b.stateIn ++ x.rows b } ∧
          (∀ r ∈ x.rows b, ∀ y bl, s.rowState w q.batch b r = .packet y → y.input = some bl → Holds u i (blockAt r) bl)))) ∧
  (∀ (s : State) (i : Nat) (q : Issued) (b : Batch) (x : StateOp) (img : Image) (c : SlotCfg), Runs s i 9 q b →
    q.word.op = .state x → x.subOp = 1 → s.batchCfg b = some (img, c) → b.graph ≠ .rollout →
    let w := batchHome q.batch
    let size := (s.partOf b.partition).blockBytes
    let blockAt := fun (r : Nat) => q.ref x.state + size * (r - x.rowFirst)
    Allowed s i b.partition ((x.rows b).map (fun r => (blockAt r, size))) →
    ((tileWing i ≠ w ∨ ∃ r ∈ x.rows b, r ∈ b.stateOut) → Gives (.stateRelease i {}) s (Aborted (s.begun i q) i 9 q)) ∧
    (tileWing i = w → (∀ r ∈ x.rows b, r ∉ b.stateOut) →
      ((s.tile i).checksLeft q.batch = true → Gives (.stateRelease i {}) s s) ∧
      ((s.tile i).checksLeft q.batch = false → Distinct (s.wing w) → b.rows.Nodup → 64 ≤ size →
        Unlocked s i ((x.rows b).map (fun r => (blockAt r, 64))) →
        ∃ u : State, Gives (.stateRelease i {}) s (Completed u i 9 q b) ∧
          OnlyAt s u i ((x.rows b).map (fun r => (blockAt r, 64))) ∧
          (∀ r ∈ x.rows b, ∀ y, s.rowState w q.batch b r = .packet y →
            let block := releasedBlock img y (s.tileRead i (blockAt r + 64) (size - 64))
            Holds u i (blockAt r) (block.take 64) ∧
            u.rowState w q.batch b r = .packet { y with newState := some block, released := true } ∧
            u.lockedAt i (blockAt r) size = true)))) ∧
  (∀ (s : State) (i : Nat) (q : Issued) (b : Batch) (r : ReduceOp), Runs s i 10 q b → q.word.op = .reduce r →
    let n := 64 * r.length
    let count := r.countMinus1 + 1
    let at_ := fun (p : Nat) => q.ref r.slot0 + 64 * r.stride * p
    let el := fun (p j : Nat) => (f32Of (s.tileRead i (at_ p + 4 * j) 4)).val.round
    InTile s i b.partition (q.ref r.dst) n → (∀ p, p < count → InTile s i b.partition (at_ p) n) →
    (((s.begun i q).tile i).spare r.arriveTok 10 < count → Gives (.reduce i {}) s (Started s i 10 q)) ∧
    (count ≤ ((s.begun i q).tile i).spare r.arriveTok 10 → s.lockedAt i (q.ref r.dst) n = false →
      ∃ u : State, Gives (.reduce i {}) s (Completed u i 10 q b) ∧ OnlyAt s u i [(q.ref r.dst, n)] ∧
        (u.tile i).token r.arriveTok = ((s.begun i q).tile i).token r.arriveTok - count ∧
        (∀ j, j < 16 * r.length → f32Of (u.tileRead i (q.ref r.dst + 4 * j) 4) =
          (List.range r.countMinus1).foldl (fun (acc : F32) p => fAdd acc (el (p + 1) j)) (el 0 j))))

/-- Check, verdict, state and reduce words. -/
def Obligations.WordsCheckAndReduce : Prop :=
  Claims.CheckAndVerdict ∧ Claims.StateAndReduce

namespace Sys2Proof.Claims

/-- R401: `z` is the positive number `x` with the sign `neg` rounded to `p` significant bits, a tie going away from zero. -/
abbrev RoundsTo (p : Nat) (neg : Bool) (x : ℚ) (z : F32) : Prop :=
  ∀ e : ℤ, (2 : ℚ) ^ e ≤ x → x < (2 : ℚ) ^ (e + 1) →
    let u : ℚ := (2 : ℚ) ^ (e - p + 1)
    let r : ℚ := (⌊x / u + 1 / 2⌋ : ℤ) * u
    ((2 : ℚ) ^ (128 : ℤ) ≤ r → z = fInf neg) ∧ (r < (2 : ℚ) ^ (-126 : ℤ) → z = fZero neg) ∧
    ((2 : ℚ) ^ (-126 : ℤ) ≤ r → r < (2 : ℚ) ^ (128 : ℤ) → ∃ (m : Nat) (k : ℤ), z.val = .fin neg m k ∧ (m : ℚ) * (2 : ℚ) ^ k = r)

/-- The number that a finite value is. -/
def ofVal : FpVal → ℚ
  | .fin neg m e => (if neg then -1 else 1) * (m : ℚ) * (2 : ℚ) ^ e
  | _ => 0

/-- The value is finite. -/
abbrev Finite (x : F32) : Prop := x.notFinite = false

end Sys2Proof.Claims

/-- R401, R402, R404, R406, R411 (Table 10-6): ADD, MULADD, DIV and TO_BF16 give the exact result rounded once, ties away from zero; an exact zero
sum is +0 unless both addends are −0; NaN operands, ∞ × 0, and sums of infinities of opposite sign give the canonical NaN. -/
def Obligations.PrimitivesRoundOnce : Prop :=
  (∀ x y z : F32, Finite x → Finite y → Finite z → let v := ofVal x.val * ofVal y.val + ofVal z.val
    (v ≠ 0 → RoundsTo 24 (decide (v < 0)) |v| (fMulAdd x y z)) ∧
    (v = 0 → fMulAdd x y z = fZero (z.isZero && z.getLsbD 31 && (x.getLsbD 31 != y.getLsbD 31)))) ∧
  (∀ x y : F32, Finite x → Finite y → let v := ofVal x.val + ofVal y.val
    (v ≠ 0 → RoundsTo 24 (decide (v < 0)) |v| (fAdd x y)) ∧
    (v = 0 → fAdd x y = fZero (x.isZero && y.isZero && x.getLsbD 31 && y.getLsbD 31))) ∧
  (∀ x y : F32, Finite x → Finite y → ofVal x.val ≠ 0 → ofVal y.val ≠ 0 →
    RoundsTo 24 (x.getLsbD 31 != y.getLsbD 31) |ofVal x.val / ofVal y.val| (fDiv x y)) ∧
  (∀ x : F32, Finite x → ofVal x.val ≠ 0 → RoundsTo 8 (x.getLsbD 31) |ofVal x.val| (Bf16.f32 (toBf16 x))) ∧
  (∀ x y z : F32, (x.isNan = true ∨ y.isNan = true ∨ z.isNan = true) → fMulAdd x y z = fNan) ∧
  (∀ x y z : F32, x.isInf = true → y.isZero = true → fMulAdd x y z = fNan ∧ fMulAdd y x z = fNan) ∧
  (∀ x y : F32, x.isInf = true → y.isInf = true → x ≠ y → fAdd x y = fNan) ∧
  (∀ x y : F32, x.isInf = true → Finite y → fAdd x y = x ∧ fAdd y x = x)

/-! ### Batches and rollouts (chapters 02, 08, 12) -/

namespace Sys2Proof.Claims

/-- The packets of a Wing that wait for a batch of a stage of a graph, oldest first. -/
abbrev waiting (s : State) (w p m : Nat) (g : GraphKind) (stage : Nat) : List Stair :=
  (s.wing w).stairs.filter (fun y => match s.modelOf y.pkt with
    | some (_, c) => y.waits c p m g stage && !(s.wing w).bound y g stage
    | none => false)

/-- The batch is sent: its descriptor has arrived at each of its tiles (R325). -/
abbrev Sent (t : State) (id : Nat) (b : Batch) : Prop :=
  t.batchOf id = some b ∧ b.sent = true ∧ ∀ i ∈ b.place.tiles, id ∈ (t.tile i).descs

/-- Every register, buffer and count of an array that a quiesce clears is clear, and what it leaves is as before (R360, R364,
R376, R397, R422). -/
abbrev QuiescedArr (x y : MatArray) : Prop :=
  (∀ h, (y.aHalf h).full = false ∧ (y.bHalf h).full = false) ∧ y.passes = 0 ∧ y.drains = 0 ∧ y.preloads = 0 ∧ y.live = [] ∧
  y.pre = [] ∧ y.drainBuf = none ∧ y.bufRead = true ∧ y.form = x.form ∧ y.parked = x.parked ∧
  y.cbA = x.cbA ∧ y.cbB = x.cbB ∧ y.scale0 = x.scale0 ∧ y.scale1 = x.scale1

end Sys2Proof.Claims

/-- R21, R34, R314, R324, R325, R430, R434, R478, R501: when the oldest waiting packet of a stage has waited its batch wait, BATCH_CLOSE makes a
batch of the oldest packets, of one epoch and one statistics batch and no more than the batch size, and sends it unless R434 holds it
back; SETTLE_WAIT sends it later, a rollout only when no verdict batch waits for its tiles; BATCH_DESCRIPTOR starts the oldest descriptor's program at its entry point with the batch's
bases, once the program before it has been issued. -/
abbrev Sys2Proof.Claims.BatchesFormAndStart : Prop :=
  (∀ (s : State) (w p m stage : Nat) (g : GraphKind) (place : Placement) (y : Stair) (ys : List Stair) (img : Image) (c : SlotCfg)
      (cfg : StageCfg), w < 2 → g ≠ .rollout → waiting s w p m g stage = y :: ys → s.modelOf y.pkt = some (img, c) →
    (if g = .main then c.main else c.noFlow)[stage]? = some cfg → y.since + 16 * cfg.batchWait ≤ s.nt →
    (s.wing w).numberFree w = true → s.wingFree w = true → s.placeOk w p y.pkt.epoch cfg.mayCross place = true →
    let id := batchNumber w (s.wing w).batchCtr
    ∃ (t : State) (rows : List Stair) (b : Batch), Gives (.batchClose w p m g stage place) s t ∧ y ∈ rows ∧ rows <+: (y :: ys) ∧
      rows.length ≤ (if cfg.batchWait = 0 then 1 else min 128 (max 1 cfg.batchSize)) ∧
      (∀ z ∈ rows, z.pkt.epoch = y.pkt.epoch ∧ (c.sites ≠ [] → c.statOf z.pkt.slot.at_ = c.statOf y.pkt.slot.at_)) ∧
      t.batchOf id = some b ∧ b.rows = rows.map (fun z => .packet z.pkt.id) ∧
      b.partition = p ∧ b.modelSlot = m ∧ b.epoch = y.pkt.epoch ∧ b.graph = g ∧ b.stage = stage ∧ b.place = place ∧
      (∀ z ∈ rows, ∃ z' ∈ (t.wing w).stairs, z'.index = z.index ∧ z'.batch = some id) ∧
      (c.sites = [] → Sent t id b)) ∧
  (∀ (s : State) (w n : Nat) (b : Batch) (img : Image) (c : SlotCfg), w < 2 → let id := batchNumber w n
    s.batchOf id = some b → s.batchCfg b = some (img, c) → b.sent = false → b.aborted = false → s.wingFree w = true →
    (s.settled b c = true → s.blocked b = false → ∃ (t : State) (b' : Batch), Gives (.settleWait w n) s t ∧ Sent t id b' ∧ b'.rows = b.rows ∧
      b'.place = b.place) ∧
    ((s.settled b c = false ∨ s.blocked b = true) → Gives (.settleWait w n) s s)) ∧
  (∀ (s : State) (i id : Nat) (rest : List Nat) (b : Batch) (c : ControlSet), (s.tile i).descs = id :: rest →
    ((s.tile i).cur ≠ none → Gives (.batchDescriptor i {}) s s) ∧
    ((s.tile i).cur = none → s.batchOf id = some b → (s.tile i).control b.epoch = some c → b.aborted = false →
      s.tileRuns i = true → s.needsClear (s.tile i) b.partition = false →
      ∃ u : State, Gives (.batchDescriptor i {}) s ((u.pump i).endCheck i id) ∧ (u.tile i).cur = some id ∧ (u.tile i).descs = rest ∧
        (u.tile i).bases = 0 :: b.place.bases.map (fun x => x + s.areaUnits b i) ∧
        (u.tile i).pc = (c.entries[b.place.entry]?).getD 0 ∧ (u.tile i).tokens = (s.tile i).tokens ∧ (u.tile i).mem = (s.tile i).mem ∧
        (u.tile i).wideRows = (s.tile i).wideRows))

/-- R322, R359 to R361, R376: QUIESCE clears a tile that an aborted batch holds: its words, descriptors, tokens, write locks and halves, and
both banks of both arrays, and leaves its memory; once every tile has quiesced and every packet has come back, REISSUE issues the
batch again with those that remain, after older aborted batches of its tiles, and a rollout after verdict batches (R478); an abandoned batch goes. -/
abbrev Sys2Proof.Claims.QuiesceAndReissue : Prop :=
  (∀ (s : State) (i : Nat), s.quiescing i = true → s.wingFree (tileWing i) = true →
    ∃ t : State, Gives (.quiesce i) s t ∧ (t.tile i).mem = (s.tile i).mem ∧ (t.tile i).act = (s.tile i).act ∧
      (t.tile i).enc = (s.tile i).enc ∧ (t.tile i).queues = [] ∧ (t.tile i).descs = [] ∧ (t.tile i).cur = none ∧
      (t.tile i).seqWord = none ∧ (∀ k, (t.tile i).token k = 0) ∧ (t.tile i).locks = [] ∧
      QuiescedArr (s.tile i).arr0 (t.tile i).arr0 ∧ QuiescedArr (s.tile i).arr1 (t.tile i).arr1 ∧
      (∀ j, j ≠ i → t.tile j = s.tile j) ∧
      (∀ id b, s.batchOf id = some b → b.aborted = true → b.sent = true → i ∈ b.place.tiles →
        ∃ c : Batch, t.batchOf id = some c ∧ i ∈ c.quiesced ∧ c.rows = b.rows)) ∧
  (∀ (s : State) (w n : Nat) (b : Batch) (img : Image) (c : SlotCfg), w < 2 → let id := batchNumber w n
    s.batchOf id = some b → s.batchCfg b = some (img, c) → b.aborted = true → (∀ i ∈ b.place.tiles, i ∈ b.quiesced) → s.wingFree w = true →
    (b.abandoned = true → Ascending (s.wing w).batches →
      ∃ t : State, Gives (.reissue w n) s t ∧ t.batchOf id = none ∧ t.tiles = s.tiles) ∧
    (b.abandoned = false → (s.olderAborted b = true ∨ s.blocked b = true) → Gives (.reissue w n) s s) ∧
    (b.abandoned = false → s.olderAborted b = false → s.blocked b = false → b.graph ≠ .rollout →
      (∀ r ∈ b.rows, (s.wing w).rejoin id b c r ≠ .waits) → (∃ r ∈ b.rows, (s.wing w).rejoin id b c r = .ready) →
      ∃ (t : State) (b' : Batch), Gives (.reissue w n) s t ∧ Sent t id b' ∧ b'.aborted = false ∧ b'.issues = b.issues + 1 ∧
        b'.rows = (b.rows.filter (fun r => (s.wing w).rejoin id b c r == .ready)).map
          (fun r => match r with | .rollout st _ => .rollout st st.block | p => p)))

/-- R477 to R482 (Tables 12-7, 12-8): ROLLOUT_START queues a rollout of a valid handle's block under the running epoch; ROLLOUT_BATCH takes up to
8 queued rollouts of one model slot and epoch, or discards those of an epoch that is no longer resident; ROLLOUT_RECORD writes
the record of a rollout whose last step has completed. -/
abbrev Sys2Proof.Claims.RolloutsRun : Prop :=
  (∀ (c : CmdIn) (h : Nat) (s : State) (cmd : Cmd) (e : Epoch) (img : Image) (k : Nat), Ready 0x0306 (.rolloutStart c h) c s cmd → h < 67108864 →
    hWing h < s.wings → hOverflow h = false → s.wingFree (hWing h) = true → cmd.hdr.partition < 16 →
    (s.partOf cmd.hdr.partition).ownsBucket (hWing h) (hBucket h) = true →
    ((s.entryAt h).valid = false → Fails (.rolloutStart c h) c s 8) ∧
    ((s.entryAt h).valid = true → (s.partOf cmd.hdr.partition).running = some e →
      (s.partOf cmd.hdr.partition).image e.slot = some img → s.blockBad cmd.hdr.partition h = false →
      (img.rolloutSlots = [] → Fails (.rolloutStart c h) c s 3) ∧
      (img.rolloutSlots = [k] →
        ((s.partOf cmd.hdr.partition).rollouts.filter (fun q => q.wing == hWing h)).length < 256 →
        ∃ t : State, Succeeds (.rolloutStart c h) c s t ∧ (t.partOf cmd.hdr.partition).rollouts =
          (s.partOf cmd.hdr.partition).rollouts ++ [{ wing := hWing h, fromCommand := true, tag := 0, modelSlot := k, epoch := e.number, handle := h, entryGen := (s.entryAt h).gen, block := s.readBlock cmd.hdr.partition h, startNt := s.nt }]))) ∧
  (∀ (s : State) (w p m : Nat) (plan : List Placement) (first : RolloutStart), w < 2 → p < 16 → s.wingFree w = true →
    (s.partOf p).rollouts.find? (fun r => r.wing == w && r.modelSlot == m && r.batch.isNone) = some first →
    ((s.partOf p).epochResident first.epoch = none →
      ∃ t : State, Gives (.rolloutBatch w p m plan) s t ∧ (t.partOf p).rollouts = (s.partOf p).rollouts.filter
        (fun r => !(r.wing == w && r.modelSlot == m && r.batch.isNone && r.epoch == first.epoch)) ∧ t.tiles = s.tiles) ∧
    (∀ (e : Epoch) (c : SlotCfg) (pl : Placement) (pls : List Placement), (s.partOf p).epochResident first.epoch = some e →
      s.slotCfg p e.slot m = some c → c.rollsOut = true → plan = pl :: pls → plan.length = c.rollout.length →
      (∀ q ∈ plan, s.placeOk w p first.epoch false q = true ∧ ∀ i ∈ q.tiles, s.verdictWaits i = false) →
      (s.wing w).numberFree w = true → let id := batchNumber w (s.wing w).batchCtr
      ∃ (t : State) (b : Batch), Gives (.rolloutBatch w p m plan) s t ∧ t.batchOf id = some b ∧ (c.sites = [] → Sent t id b) ∧
        b.graph = .rollout ∧
        b.rows = (((s.partOf p).rollouts.filter (fun r => r.wing == w && r.modelSlot == m && r.batch.isNone &&
          r.epoch == first.epoch)).take 8).map (fun r => .rollout r r.block))) ∧
  (∀ (s : State) (w n : Nat) (b : Batch) (img : Image) (c : SlotCfg) (st : RolloutStart) (bl : Bytes)
      (rest : List BatchRow), w < 2 → let id := batchNumber w n
    s.batchOf id = some b → s.batchCfg b = some (img, c) → b.rows = .rollout st bl :: rest →
    b.rolled = true → s.wingFree w = true → b.partition < 16 →
    ∃ u : State, u = (s.bump (ctrOnWing w (Ctr.partRolloutCompleted b.partition))).record b.partition c.rolloutCfg.queue
        c.rolloutCfg.priority 5 (rolloutBody st c.rolloutCfg (b.forecast.headD [])) ∧
      ∃ t : State, Gives (.rolloutRecord w n) s t ∧ t.rqs = u.rqs ∧ t.counters = u.counters ∧ t.tiles = s.tiles ∧
        (rest ≠ [] → t.batchOf id = some { b with rows := rest, forecast := b.forecast.drop 1 }) ∧
        (rest = [] → Ascending (s.wing w).batches → t.batchOf id = none))

/-- Batches form, start, quiesce and are issued again, and rollouts run. -/
def Obligations.BatchesAndRollouts : Prop :=
  Claims.BatchesFormAndStart ∧ Claims.QuiesceAndReissue ∧ Claims.RolloutsRun

/-! ### Images and epochs (chapter 13) -/

/-- R494 to R499, R710, R713 (Tables 13-6, 13-7): IMAGE_LOAD makes an idle slot LOADING and keeps the command running, and answers
ST_DENIED for an image that is not sealed in a partition that is; IMAGE_LOAD_CHECK leaves the slot
EMPTY, or READY with the image, and completes the command; IMAGE_DISCARD empties a READY slot; a slot that is LOADING, ARMED,
RUNNING or RETIRING answers ST_BUSY to both commands; the other slot keeps its image. -/
def Obligations.ImagesLoadAndGo : Prop :=
  (∀ (c : CmdIn) (n bytes : Nat) (head : Bytes) (s : State) (cmd : Cmd), n < 2 → cmd.hdr.partition < 16 →
    let p := cmd.hdr.partition
    let i := Instr.imageLoad c n bytes head
    let plain := (s.partOf p).sealed && decide (6 < head.length) && !headSealed head
    (Ready 0x0301 i c s cmd → DataHere c s cmd (headBytes bytes) (fun d => d.take (headBytes bytes) == head) →
      (((s.partOf p).slot n).state.busy = true → Fails i c s 1) ∧
      (((s.partOf p).slot n).state.busy = false → plain = true → Fails i c s 4) ∧
      (((s.partOf p).slot n).state.busy = false → plain = false →
        ∃ u : State, Gives i s (u.setCmd c.ring (some { cmd with started := true })) ∧
          (u.partOf p).slot n = { state := .loading, loadRing := some c.ring, loadStart := s.nt, loadBytes := bytes, loadHead := head } ∧
          (u.partOf p).slot (1 - n) = (s.partOf p).slot (1 - n) ∧ u.tiles = s.tiles)) ∧
    (Ready 0x0302 (.imageDiscard c n) c s cmd →
      (((s.partOf p).slot n).state.busy = true → Fails (.imageDiscard c n) c s 1) ∧
      (((s.partOf p).slot n).state = .empty → Fails (.imageDiscard c n) c s 8) ∧
      (((s.partOf p).slot n).state = .ready → ∃ t : State, Succeeds (.imageDiscard c n) c s t ∧ (t.partOf p).slot n = {} ∧
        (t.partOf p).slot (1 - n) = (s.partOf p).slot (1 - n) ∧ t.tiles = s.tiles)) ∧
    (Ready 0x0303 (.imageQuery c) c s cmd → Room c 48 → Replies (.imageQuery c) c s s.nextFree (s.imageReply p))) ∧
  (∀ (s : State) (p n : Nat) (r : LoadResult), n < 2 → p < 16 → s.hallFree = true →
    let keys := (s.partOf p).keysAt ((s.partOf p).slot n) r.arrived
    (s.loadReady ((s.partOf p).slot n) r = false → Gives (.imageLoadCheck p n r) s s) ∧
    (∀ st, s.loadReady ((s.partOf p).slot n) r = true → loadFault s (s.partOf p) ((s.partOf p).slot n).loadBytes keys r = some st →
      ∃ u : State, Gives (.imageLoadCheck p n r) s (u.finishLoad ((s.partOf p).slot n).loadRing st) ∧ (u.partOf p).slot n = {} ∧
        (u.partOf p).slot (1 - n) = (s.partOf p).slot (1 - n) ∧ u.tiles = s.tiles) ∧
    (s.loadReady ((s.partOf p).slot n) r = true → loadFault s (s.partOf p) ((s.partOf p).slot n).loadBytes keys r = none →
      ∃ u : State, Gives (.imageLoadCheck p n r) s (u.finishLoad ((s.partOf p).slot n).loadRing okStatus) ∧
        ((u.partOf p).slot n).state = .ready ∧ ((u.partOf p).slot n).image = some (r.loaded keys) ∧
        ((u.partOf p).slot n).resident = (s.residence p n (r.loaded keys)).isSome ∧
        ((u.partOf p).slot (1 - n)).state = ((s.partOf p).slot (1 - n)).state ∧
        ((u.partOf p).slot (1 - n)).image = ((s.partOf p).slot (1 - n)).image))

namespace Sys2Proof.Claims

/-- R504: the arm of slot `n` with epoch `e` at instant `t`, for a command that arrived at NT `at_`, meets no row of Table 13-8. -/
abbrev MayArm (s : State) (p n e t at_ : Nat) (resident : Bool) (img : Image) : Prop :=
  s.instantFault = none ∧ at_ + 160000000 ≤ t ∧ t ≤ at_ + 1382400000000000 ∧
  ((s.partOf p).slot n).state = .ready ∧ ((s.partOf p).slot n).image = some img ∧ (s.partOf p).slotIn .armed = none ∧
  (∀ r, (s.partOf p).running = some r → serialLt r.number e = true ∧
    ∀ old, ((s.partOf p).slot r.slot).image = some old → img.stateReset = false →
      img.windows = old.windows ∧ img.stateLayoutId = old.stateLayoutId) ∧
  (img.stateReset = true → (s.partOf p).clearing = false) ∧ (resident = true → ((s.partOf p).slot n).resident = true)

end Sys2Proof.Claims

/-- R504 to R506, R508 (Table 13-8): outside a pair EPOCH_ARM arms a READY slot, with a gap of 0 when its image is resident and of the deadline
and 960,000 for each quarter otherwise; EPOCH_CANCEL returns the slot to READY, and answers ST_CONFLICT less than 5 ms ahead and
ST_NOT_FOUND when nothing is armed. -/
abbrev Sys2Proof.Claims.EpochsArmAndCancel : Prop :=
  (∀ (c : CmdIn) (n e t : Nat) (resident : Bool) (s : State) (cmd : Cmd) (img : Image), Ready 0x0304 (.epochArm c n resident e t) c s cmd → Alone s → n < 2 →
    cmd.hdr.partition < 16 → let p := cmd.hdr.partition
    MayArm s p n e t cmd.fetchNt resident img →
    ∃ u : State, Succeeds (.epochArm c n resident e t) c s u ∧ ((u.partOf p).slot n).state = .armed ∧ ((u.partOf p).slot n).epoch = e ∧
      ((u.partOf p).slot n).switchNt = t ∧ ((u.partOf p).slot n).staged = !((s.partOf p).slot n).resident ∧
      ((u.partOf p).slot n).gap = (if ((s.partOf p).slot n).resident then 0
        else 4000 * s.deadlineCount p s.nt + 960000 * (s.partOf p).quarterCount 0) ∧
      (u.partOf p).slot (1 - n) = (s.partOf p).slot (1 - n)) ∧
  (∀ (c : CmdIn) (s : State) (cmd : Cmd), Ready 0x0305 (.epochCancel c) c s cmd → Alone s → cmd.hdr.partition < 16 → let p := cmd.hdr.partition
    ((s.partOf p).slotIn .armed = none → Fails (.epochCancel c) c s 8) ∧
    (∀ n, (s.partOf p).slotIn .armed = some n →
      (((s.partOf p).slot n).switchNt < cmd.fetchNt + 80000000 → Fails (.epochCancel c) c s 7) ∧
      (cmd.fetchNt + 80000000 ≤ ((s.partOf p).slot n).switchNt →
        ∃ u : State, Succeeds (.epochCancel c) c s u ∧ ((u.partOf p).slot n).state = .ready ∧
          ((u.partOf p).slot n).image = ((s.partOf p).slot n).image ∧ (u.partOf p).slot (1 - n) = (s.partOf p).slot (1 - n))))

/-- R298, R502, R510 to R514, R519: at its switch instant the armed epoch runs and the former one retires, with an EPOCH record; with
`state_reset` it is the reset epoch and the clear begins; a staged fill starts once every earlier packet has committed, and its
waves copy the quarters and end with the image resident; a retired slot is READY. -/
abbrev Sys2Proof.Claims.EpochsSwitchFillRetire : Prop :=
  (∀ (s : State) (p n : Nat) (e : Epoch) (img : Image), p < 16 → s.hallFree = true → (s.partOf p).slotIn .armed = some n →
    (s.partOf p).armedEpoch = some e → ((s.partOf p).slot n).image = some img →
    (s.nt < e.switchNt → Gives (.epochSwitch p) s s) ∧
    (e.switchNt ≤ s.nt → ∃ t : State, Gives (.epochSwitch p) s t ∧ ((t.partOf p).slot n).state = .running ∧
      (t.partOf p).running = some e ∧ (∀ m, (s.partOf p).slotIn .running = some m → ((t.partOf p).slot m).state = .retiring) ∧
      (img.stateReset = true → (t.partOf p).resetEpoch = e.number ∧ (t.partOf p).clear0 = some 0) ∧
      (e.staged = true → (t.partOf p).fill.map (fun f => (f.slot, f.started)) = some (n, false)) ∧
      (∀ w i, ((t.wing w).entry i) = ((s.wing w).entry i)))) ∧
  (∀ (s : State) (p : Nat) (f : Fill), p < 16 → f.slot < 2 → s.hallFree = true → (s.partOf p).fill = some f →
    (f.started = false → s.owes p ((s.partOf p).slot f.slot).switchNt = false →
      s.anyBatch p (fun b => b.graph == .rollout && b.epoch != f.epoch) = false →
      ∃ t : State, Gives (.stagedFillStart p) s t ∧ (t.partOf p).fill = some { f with started := true, waveStart := s.nt } ∧
        ((t.partOf p).slot (1 - f.slot)).resident = false ∧ t.tiles = s.tiles) ∧
    (f.started = true → 1 ≤ f.wavesLeft →
      f.waveStart + s.waveLength p f.slot ((s.partOf p).quarterCount 0 - f.wavesLeft) ≤ s.nt →
      ∃ t : State, Gives (.fillWaveEnd p) s t ∧
        (f.wavesLeft = 1 → (t.partOf p).fill = none ∧ ((t.partOf p).slot f.slot).resident = true) ∧
        (2 ≤ f.wavesLeft → (t.partOf p).fill = some { f with wavesLeft := f.wavesLeft - 1, waveStart := s.nt }) ∧
        (∀ j, j ∉ s.quarterTiles p ((s.partOf p).quarterCount 0 - f.wavesLeft) → t.tile j = s.tile j))) ∧
  (∀ (s : State) (p n : Nat) (r : Epoch), p < 16 → s.hallFree = true → (s.partOf p).owed = none → (s.partOf p).slotIn .retiring = some n →
    (s.partOf p).running = some r → s.owes p r.switchNt = false →
    (∀ q ∈ (s.partOf p).rollouts, q.epoch ≠ ((s.partOf p).slot n).epoch) →
    s.anyBatch p (fun b => b.epoch == ((s.partOf p).slot n).epoch) = false →
    ∃ t : State, Gives (.epochRetirement p) s t ∧ ((t.partOf p).slot n).state = .ready ∧
      ((t.partOf p).slot n).image = ((s.partOf p).slot n).image ∧ ((t.partOf p).slot n).resident = ((s.partOf p).slot n).resident)

/-- R504 to R513: epochs are armed, cancelled, switched, filled and retired. -/
def Obligations.EpochsRun : Prop :=
  Claims.EpochsArmAndCancel ∧ Claims.EpochsSwitchFillRetire

/-- R298 to R304: the background clear visits one block, gives it the defaults when its epoch precedes the reset epoch or its header is lost,
and ends once every Wing is done; the walk raises the epoch field of a live block that precedes its target, and its end raises the
reset epoch. -/
def Obligations.ClearAndWalkVisitBlocks : Prop :=
  (∀ (s : State) (w p k h next : Nat), w < 2 → p < 16 → s.wingFree w = true →
    (k ≠ 0 ∨ s.earlierInside w p ((s.partOf p).resetNow s.nt) = false) → (s.partOf p).clearAt w = some k →
    s.blockAfter w p k = some (h, next) → hWing h = w → s.wordBad p h 0 = false → memWf ((s.wing w).region p) = true → memWf (s.wing w).overflowLarder = true →
    ∃ t : State, Gives (.backgroundClear w p none) s t ∧ (t.partOf p).clearAt w = some next ∧
      (serialLt (leAt (s.readBlock p h) 4 2) ((s.partOf p).resetNow s.nt) = false → (t.wing w).region p = (s.wing w).region p) ∧
      (serialLt (leAt (s.readBlock p h) 4 2) ((s.partOf p).resetNow s.nt) = true →
        t.readBlock p h = zeroBytes (s.partOf p).blockBytes ∧
        t.ctr (Ctr.pwClearBlocks (pwIx w p)) = rose (s.ctr (Ctr.pwClearBlocks (pwIx w p))) 1)) ∧
  (∀ (s : State) (p : Nat), p < 16 → s.hallFree = true → (s.partOf p).clearing = true →
    ((s.clearDone 0 p = true ∧ s.clearDone 1 p = true) → ∃ t : State, Gives (.backgroundClearEnd p) s t ∧
      (t.partOf p).clearing = false) ∧
    ((s.clearDone 0 p = false ∨ s.clearDone 1 p = false) → Gives (.backgroundClearEnd p) s s)) ∧
  (∀ (s : State) (w p k h next : Nat), w < 2 → p < 16 → s.wingFree w = true →
    (k ≠ 0 ∨ s.earlierInside w p (((s.partOf p).walkTo + 8192) % 65536) = false) → (s.partOf p).walkAt w = some k →
    s.blockAfter w p k = some (h, next) → hWing h = w → s.wordBad p h 0 = false → memWf ((s.wing w).region p) = true → memWf (s.wing w).overflowLarder = true →
    let b := s.readBlock p h
    ∃ t : State, Gives (.epochWalk w p none) s t ∧ (t.partOf p).walkAt w = some next ∧
      ((bitOf (leAt b 7 1) 0 = false ∨ (serialLt (leAt b 4 2) ((s.partOf p).resetNow s.nt) = false ∧
        serialLt (leAt b 4 2) (s.partOf p).walkTo = false)) → (t.wing w).region p = (s.wing w).region p) ∧
      (bitOf (leAt b 7 1) 0 = true → serialLt (leAt b 4 2) ((s.partOf p).resetNow s.nt) = false →
        serialLt (leAt b 4 2) (s.partOf p).walkTo = true → 64 ≤ (s.partOf p).blockBytes →
        t.readBlock p h = b.take 4 ++ leBytes 2 (s.partOf p).walkTo ++ b.drop 6)) ∧
  (∀ (s : State) (p : Nat), p < 16 → s.hallFree = true → (s.partOf p).walk0.isSome = true → s.walkDone 0 p = true → s.walkDone 1 p = true →
    ∃ t : State, Gives (.epochWalkEnd p) s t ∧ (t.partOf p).walk0 = none ∧ (t.partOf p).walk1 = none ∧
      (t.partOf p).resetEpoch = (if serialLt (s.partOf p).resetEpoch (s.partOf p).walkTo then (s.partOf p).walkTo
        else (s.partOf p).resetEpoch))

/-! ### Network time (chapter 14) -/

/-- R522, R525, R531: a Hall cycle adds the rate word to NT and its fraction; NT never decreases, and a count that would
pass 2^64 - 1 stops there for good. -/
abbrev Sys2Proof.Claims.TimeAdvances : Prop :=
  ∀ t : TimeBase, t.nt ≤ max64 → t.frac < 4294967296 →
    t.nt ≤ t.tick.nt ∧ t.tick.nt ≤ max64 ∧ t.tick.frac < 4294967296 ∧
    (t.stopped = true → t.tick = t) ∧
    (t.stopped = false → t.nt * 4294967296 + t.frac + t.rate < 18446744073709551616 * 4294967296 →
      t.tick.nt * 4294967296 + t.tick.frac = t.nt * 4294967296 + t.frac + t.rate ∧ t.tick.stopped = false) ∧
    (t.stopped = false → 18446744073709551616 * 4294967296 ≤ t.nt * 4294967296 + t.frac + t.rate →
      t.tick.nt = max64 ∧ t.tick.stopped = true)

namespace Sys2Proof.Claims

/-- R527: the message ended between 100 ms and 900 ms before the edge. -/
abbrev InTime (stamp : Nat) (e : Tod × Nat) : Bool := decide (e.2 + 1600000000 ≤ stamp) && decide (stamp ≤ e.2 + 14400000000)

/-- R527: of the messages that wait, newest first, the first that is in time has the given fields. -/
abbrev TodWaits (s : State) (tod : Tod) (stamp : Nat) : Prop :=
  (s.time.todWaiting.find? (InTime stamp)).map (fun e => e.1) = some tod

/-- R528: the message's seconds continue the count of the previous valid edge, or the edge is the first one. -/
abbrev Continues (s : State) (tod : Tod) : Prop := ∀ e, s.time.lastEdge = some e → tod.seconds = e.1 + 1

end Sys2Proof.Claims

/-- R524, R530: at the first valid edge NT is set so that the edge's stamp is its expected NT, and the time base enters
ACQUIRE; an origin that places the edge before NT 0 or more than 2^62 units after it is rejected with the time-origin sticky bit and
the state stays UNSET. -/
abbrev Sys2Proof.Claims.FirstEdgeSetsNt : Prop :=
  ∀ (age : Nat) (s : State) (tod : Tod), s.hallFree = true → s.time.stopped = false → s.time.state = .unset →
    s.time.pendingSettings = [] → age ≤ s.nt → let stamp := s.nt - age
    TodWaits s tod stamp → Continues s tod →
    let expected : Int := ((tod.seconds : Int) - s.time.originInForce) * 16000000000 + s.time.ppsInDelay
    (0 ≤ expected → expected ≤ 4611686018427387904 →
      ∃ t : State, Gives (.ppsInEdge age) s t ∧ (t.nt : Int) = expected + age ∧ t.time.state = .acquire ∧
        t.time.rate = s.time.rate ∧ t.ctr Ctr.hallPpsValid = rose (s.ctr Ctr.hallPpsValid) 1) ∧
    ((expected < 0 ∨ 4611686018427387904 < expected) →
      ∃ t : State, Gives (.ppsInEdge age) s t ∧ t.nt = s.nt ∧ t.time.state = .unset ∧ t.stickyBit 104 = true)

/-- R529, R532 to R534 (Table 14-2): valid edges move the time base between its states and correct the rate word, never the
count: eight in a row within lock_threshold lead from ACQUIRE to LOCKED, one leads from HOLDOVER to ACQUIRE, and an outlier in
LOCKED is counted and leaves the rate word; two seconds without a valid edge lead to HOLDOVER. -/
abbrev Sys2Proof.Claims.TimeBaseStates : Prop :=
  (∀ (age : Nat) (s : State) (tod : Tod), s.hallFree = true → s.time.stopped = false → s.time.pendingSettings = [] →
    age ≤ s.nt → let stamp := s.nt - age
    TodWaits s tod stamp → Continues s tod →
    let err : Int := (stamp : Int) - (((tod.seconds : Int) - s.time.originInForce) * 16000000000 + s.time.ppsInDelay)
    (s.time.state = .acquire → err.natAbs ≤ s.time.lockThreshold →
      ∃ t : State, Gives (.ppsInEdge age) s t ∧ t.nt = s.nt ∧ t.time.phaseError = err ∧
        t.time.state = (if 7 ≤ s.time.goodRun then .locked else .acquire)) ∧
    (s.time.state = .acquire → s.time.lockThreshold < err.natAbs →
      ∃ t : State, Gives (.ppsInEdge age) s t ∧ t.nt = s.nt ∧ t.time.phaseError = err ∧ t.time.state = .acquire ∧
        t.time.goodRun = 0) ∧
    (s.time.state = .holdover →
      ∃ t : State, Gives (.ppsInEdge age) s t ∧ t.nt = s.nt ∧ t.time.rate = s.time.rate ∧ t.time.state = .acquire) ∧
    (s.time.state = .locked → s.time.outlierLimit < err.natAbs → s.time.outliers.length < 3 →
      ∃ t : State, Gives (.ppsInEdge age) s t ∧ t.nt = s.nt ∧ t.time.rate = s.time.rate ∧ t.time.state = .locked ∧
        t.time.outliers = err :: s.time.outliers ∧
        t.ctr Ctr.hallPpsOutlier = rose (s.ctr Ctr.hallPpsOutlier) 1)) ∧
  (∀ (s : State) (sec at_ : Nat), s.hallFree = true → (s.time.state = .acquire ∨ s.time.state = .locked) →
    s.time.lastEdge = some (sec, at_) → at_ + 32000000000 ≤ s.nt →
    ∃ t : State, Gives .holdover s t ∧ t.nt = s.nt ∧ t.time.state = .holdover ∧
      (s.time.everLocked = false → t.time.rate = s.time.rate) ∧
      t.ctr Ctr.hallTimeStateChange = rose (s.ctr Ctr.hallTimeStateChange) 1)

/-- R525 to R527, R541, R548, R552: a message with a wrong byte is counted and does not wait, one that ends out of time is counted at
the next edge; NT within 2^56 of
its end sets time-wrap-near; PPS_OUT is high for 100 ms from each whole second and its delay in LOCKED and HOLDOVER and low otherwise;
a stopped Wing resumes; TIME_CONFIG leaves the count and the settings in force until their instants; TIME_STATUS changes
nothing. -/
abbrev Sys2Proof.Claims.TimeInputsAndOutputs : Prop :=
  (∀ (m : Bytes) (s : State), s.hallFree = true →
    (parseTod m = none → Gives (.todMessage m) s (s.bumpN Ctr.hallTodBad 1)) ∧
    (∀ x, parseTod m = some x →
      Gives (.todMessage m) s { s with time := { s.time with todWaiting := (x, s.nt) :: s.time.todWaiting } })) ∧
  (∀ (age : Nat) (s : State), s.hallFree = true → s.time.stopped = false → (∀ e ∈ s.time.todWaiting, InTime (s.nt - age) e = false) →
    Gives (.ppsInEdge age) s
      (({ s with time := { s.time with todWaiting := [] } }).bumpN Ctr.hallTodBad s.time.todWaiting.length)) ∧
  (∀ s : State, s.hallFree = true → 18446744073709551616 - 72057594037927936 ≤ s.nt →
    ∃ t : State, Gives .timeWrapNear s t ∧ t.stickyBit 105 = true ∧ t.nt = s.nt) ∧
  (∀ s : State, s.hallFree = true →
    ∃ t : State, Gives .ppsOut s t ∧ t = { s with time := { s.time with ppsOut := t.time.ppsOut } } ∧
      (t.time.ppsOut = true ↔ (s.time.state = .locked ∨ s.time.state = .holdover) ∧
        ∃ k : Int, k * 16000000000 + s.time.ppsOutDelay ≤ (s.nt : Int) ∧
          (s.nt : Int) < k * 16000000000 + s.time.ppsOutDelay + 1600000000)) ∧
  (∀ (w : Nat) (s : State), ∃ t : State, Gives (.wingResume w) s t ∧ t.time.wingStopped.contains w = false ∧
    (∀ v, v ≠ w → t.time.wingStopped.contains v = s.time.wingStopped.contains v)) ∧
  (∀ (c : CmdIn) (v : Nat) (s : State) (cmd : Cmd), Ready 0x0601 (.timeConfig c 0x7001 0 0 v) c s cmd → v < 281474976710656 →
    Succeeds (.timeConfig c 0x7001 0 0 v) c s { s with time := { s.time with originPending := some v } }) ∧
  (∀ (c : CmdIn) (id v : Nat) (s : State) (cmd : Cmd), Ready 0x0601 (.timeConfig c id 0 0 v) c s cmd → 0x7002 ≤ id → id ≤ 0x7008 →
    timeSettingOk id v = true →
    Succeeds (.timeConfig c id 0 0 v) c s
      { s with time := { s.time with pendingSettings := mput s.time.pendingSettings id (signed128 v) } }) ∧
  (∀ (c : CmdIn) (s : State) (cmd : Cmd), Ready 0x0602 (.timeStatus c) c s cmd → Room c 64 →
    ∃ r, Replies (.timeStatus c) c s s r ∧ r.length = 64 ∧ leAt r 8 8 = s.nt % 2 ^ 64)

/-- R525 to R552: the states of the time base, its inputs and its outputs. -/
def Obligations.TimeBaseRuns : Prop :=
  Claims.TimeBaseStates ∧ Claims.TimeInputsAndOutputs

/-- R543, R544, R549: an occurrence that joins a queue with room takes its place by instant and then by kind, and the queue
keeps its order; a periodic one that finds the queue full merges into the pending occurrence of its event, which takes the
later instant. -/
abbrev Sys2Proof.Claims.EventQueueOrder : Prop :=
  (∀ (s : State) (b : Nat) (o : Occ), (s.queueOf b).length < 1024 →
    (s.queueOf b).Pairwise (fun x y => x.before y = true) →
    ((s.enqueue b o).queueOf b).Pairwise (fun x y => x.before y = true) ∧
    ((s.enqueue b o).queueOf b).Perm (o :: s.queueOf b)) ∧
  (∀ (s : State) (b : Nat) (o x : Occ), 1024 ≤ (s.queueOf b).length → o.periodic = true →
    (s.queueOf b).find? (fun y => y.kind == o.kind && y.key == o.key) = some x →
    ((s.enqueue b o).queueOf b).Perm ({ x with instant := max x.instant o.instant } :: (s.queueOf b).erase x) ∧
    (s.enqueue b o).stickyBit 108 = true)

/-- R521 to R531, R543 to R549: NT, its first edge, and the event queues. -/
def Obligations.NtAndEvents : Prop :=
  Claims.TimeAdvances ∧ Claims.FirstEdgeSetsNt ∧ Claims.EventQueueOrder

/-! ### Export (chapter 15) -/

namespace Sys2Proof.Claims

/-- R572: every queue of the port's classes is awake in its class exactly when it is backlogged, and every class when it has
such a queue; one that wakes takes a tag from the virtual time that its level had at the start of the Hall cycle (R574), one that was awake keeps its own. -/
abbrev Woken (s t : State) (port : Nat) : Prop :=
  ∀ c, c < 8 →
    (∀ q ∈ s.classQueues port c, t.xq q =
      (if s.backlogged q = false then { s.xq q with awake := false }
       else if (s.xq q).awake then s.xq q
       else { s.xq q with awake := true, tag := tagAdd ((s.xport port).startVc s.nt c) (s.xqIncr q) })) ∧
    ((t.xport port).awake.contains c = true ↔ ∃ q ∈ s.classQueues port c, s.backlogged q = true) ∧
    ((s.xport port).awake.contains c = false → (t.xport port).awake.contains c = true →
      mget 0 (t.xport port).tags c = tagAdd ((s.xport port).startV s.nt) (t.classIncr port c))

end Sys2Proof.Claims

/-- R554, R572, R573, R575, R576 (class increments: log entry 64): a port with no VERDICT or CONTROL frame to send sends the head frame of the queue of least tag in the class of
least tag; the two virtual times take the tags, the queue's tag advances while it stays backlogged, and a shaped queue gets its next
eligible time; a slot that is reached and a gate change wake the port's queues and classes; of tags within half the number circle
the least is chosen, ties to the lowest number. -/
abbrev Sys2Proof.Claims.ExportFramesAreSelected : Prop :=
  (∀ (s : State) (port c q : Nat) (f : ExpFrame) (rest : List ExpFrame), s.exportTurn port = true → s.hallFree = true →
    let u := s.refreshPort port
    u.pickClass port = some c → u.classHead port c = some q → (u.xq q).frames = f :: rest →
    ∃ t : State, Gives (.exportFrame port) s t ∧ t.out = s.out ++ [.laneFrame port f.data] ∧ (t.xq q).frames = rest ∧
      (t.xport port).v = mget 0 (u.xport port).tags c ∧ mget 0 (t.xport port).vc c = (u.xq q).tag ∧
      (t.lane port).egressFree = s.nt + wireNt (8 + f.len + 12) ∧
      (t.backlogged q = true → (t.xq q).tag = tagAdd (u.xq q).tag (t.xqIncr q)) ∧ (t.backlogged q = false → (t.xq q).awake = false) ∧
      (t.xq q).elig = (if s.settingAt s.nt 0x4006 q 0 = 0 then (s.xq q).elig
        else eligAfter s.nt f.len (s.settingAt s.nt 0x3004 port 0) (s.settingAt s.nt 0x4006 q 0)) ∧
      (∀ r, r ≠ q → t.xq r = u.xq r) ∧ (∀ n, n ≠ port → t.lane n = s.lane n)) ∧
  (∀ (s : State) (port : Nat), (s.exportTurn port = false ∨ s.hallFree = false) → Gives (.exportFrame port) s s) ∧
  (∀ (s : State) (q : Nat), Ascending s.exp.queues → s.xqEligible q = true → s.hallFree = true →
    ∃ t : State, Gives (.shaperEligible q) s t ∧ Woken s t (s.xqPort q)) ∧
  (∀ (s : State) (port : Nat), Ascending s.exp.queues → (s.xport port).gates ≠ none → s.hallFree = true →
    ∃ t : State, Gives (.gateEntryChange port) s t ∧ Woken s t port) ∧
  (∀ (tag : Nat → Nat) (base u : Nat) (l : List Nat),
    (∀ v ∈ l, tag v < 18446744073709551616 ∧ (tag v + 18446744073709551616 - base) % 18446744073709551616 < 9223372036854775808) →
    base < 18446744073709551616 → leastTag tag l = some u →
    ∃ a b, l = a ++ u :: b ∧ (∀ v ∈ a, tagLt (tag u) (tag v) = true) ∧ (∀ v ∈ b, tagLt (tag v) (tag u) = false)) ∧
  (∀ e : Nat, slotStart e % 128 = 0 ∧ e ≤ slotStart e * 65536 ∧ slotStart e * 65536 < e + 8388608)

/-- R557, R570, R571: an item joins the open payload while it fits and opens the next one otherwise; a payload that is full or whose
flush time has passed closes, with the next sequence number; its frame joins the queue within the queue's limit and the buffer's, and
is discarded and counted otherwise; the frame carries the payload behind the headers of Table 15-1. -/
abbrev Sys2Proof.Claims.PayloadsCloseIntoFrames : Prop :=
  (∀ (s : State) (q : Nat) (i : ExpItem),
    (s.itemFits (s.xq q) i = true → ((s.appendItem q i).xq q).open_ = (s.xq q).open_ ++ [i]) ∧
    (s.itemFits (s.xq q) i = false → ((s.appendItem q i).xq q).open_ = [i] ∧
      ((s.appendItem q i).xq q).seq = ((s.xq q).seq + 1) % 4294967296)) ∧
  (∀ (s : State) (q : Nat), s.hallFree = true → (s.xq q).open_ ≠ [] → q < 4096 →
    let x := s.xq q
    let f : ExpFrame := { data := s.exportFrame q (s.payload x x.open_), nt := s.nt }
    (x.open_.length < 255 → s.nt < x.openNt + s.setting 0x4008 q 0 * 16000 → Gives (.payloadClose q) s s) ∧
    ((255 ≤ x.open_.length ∨ x.openNt + s.setting 0x4008 q 0 * 16000 ≤ s.nt) →
      ∃ t : State, Gives (.payloadClose q) s t ∧ (t.xq q).open_ = [] ∧ (t.xq q).seq = (x.seq + 1) % 4294967296 ∧
        t.ctr (Ctr.queueItems q) = rose (s.ctr (Ctr.queueItems q)) x.open_.length ∧ t.tiles = s.tiles ∧
        ((x.bytes + f.len ≤ s.setting 0x4007 q 0 ∧ s.exportBytes + f.len ≤ 33554432) → (t.xq q).frames = x.frames ++ [f] ∧
          t.ctr (Ctr.queueDroppedFrames q) = s.ctr (Ctr.queueDroppedFrames q)) ∧
        (¬(x.bytes + f.len ≤ s.setting 0x4007 q 0 ∧ s.exportBytes + f.len ≤ 33554432) → (t.xq q).frames = x.frames ∧
          t.ctr (Ctr.queueDroppedFrames q) = rose (s.ctr (Ctr.queueDroppedFrames q)) 1 ∧
          t.ctr (Ctr.queueDroppedItems q) = rose (s.ctr (Ctr.queueDroppedItems q)) x.open_.length))) ∧
  (∀ (s : State) (q : Nat) (b : Bytes), let g := s.exportFrame q b
    g.length = 62 + b.length ∧ g.drop 62 = b ∧ slice g 0 6 = leBytes 6 (s.setting 0x3001 (s.xqPort q) 0) ∧
    slice g 6 6 = s.srcMac (s.xqPort q) ∧ beAt g 12 2 = 0x86DD ∧ beAt g 18 2 = (8 + b.length) % 65536 ∧ beAt g 20 1 = 17 ∧
    beAt g 21 1 = s.setting 0x3003 (s.xqPort q) 0 % 256 ∧ slice g 22 16 = leBytes 16 (s.setting 0x3002 (s.xqPort q) 0) ∧
    slice g 38 16 = leBytes 16 (s.setting 0x400A q 0) ∧ beAt g 54 2 = s.setting 0x400C q 0 % 65536 ∧
    beAt g 56 2 = s.setting 0x400B q 0 % 65536)

/-- R553 to R578: export queues, payloads and the selection of frames. -/
def Obligations.ExportFrames : Prop :=
  Claims.ExportFramesAreSelected ∧ Claims.PayloadsCloseIntoFrames

/-- R581 to R584: GATE_LIST_SET leaves a list pending at its takeover, base advanced by the fewest cycles to 10 ms after the arrival, and
a second one answers ST_BUSY; the occurrence puts the list in force; GATE_LIST_CANCEL withdraws it; SHAPER_SAMPLE samples every queue and
EXPORT_QUEUE_STATS reads and restarts the samples. -/
def Obligations.GateListsAndSamples : Prop :=
  (∀ nt base cycle : Nat, let t := takeover nt base cycle
    (nt + 160000000 ≤ base → t = base) ∧
    (base < nt + 160000000 → 0 < cycle → nt + 160000000 ≤ t ∧ t < nt + 160000000 + cycle ∧ base ≤ t ∧ (t - base) % cycle = 0)) ∧
  (∀ (c : CmdIn) (port base : Nat) (es : List (Nat × Nat)) (s : State) (cmd : Cmd), Ready 0x0504 (.gateListSet c port es base) c s cmd →
    DataHere c s cmd 0 (fun d => d.length != 8 * es.length || gateEntries d == es) →
    (9 ≤ cmd.fn → cmd.inline.length = 8 * es.length ∧ gateRest cmd.inline = none) → port < s.lanesN →
    es.length ≤ 256 → (∀ e ∈ es, 1024 ≤ e.2) →
    let g : GateList := { base := base, entries := es }
    let t := takeover cmd.fetchNt base g.cycle
    g.cycle ≤ 16000000000 → s.instantFault = none → t ≤ cmd.fetchNt + 1382400000000000 → cmd.fetchNt + 160000000 ≤ t →
    ((s.xport port).pending ≠ none → Fails (.gateListSet c port es base) c s 1) ∧
    ((s.xport port).pending = none → s.queueFull blkExport = false →
      ∃ u : State, Succeeds (.gateListSet c port es base) c s u ∧ (u.xport port).pending = some { base := t, entries := es } ∧
        (u.xport port).gates = (s.xport port).gates ∧
        (u.queueOf blkExport).Perm ({ instant := t, kind := 1, key := port, periodic := false } :: s.queueOf blkExport))) ∧
  (∀ (c : CmdIn) (port : Nat) (s : State) (cmd : Cmd), Ready 0x0505 (.gateListCancel c port) c s cmd → port < s.lanesN →
    ((s.xport port).pending = none → Fails (.gateListCancel c port) c s 8) ∧
    ((s.xport port).pending ≠ none →
      ∃ u : State, Succeeds (.gateListCancel c port) c s u ∧ (u.xport port).pending = none ∧
        (u.xport port).gates = (s.xport port).gates ∧ ∀ o ∈ u.queueOf blkExport, ¬(o.kind = 1 ∧ o.key = port))) ∧
  (∀ (port : Nat) (o : Occ) (s : State), port < 48 → s.dueIs blkExport evGateList port = some o →
    ∃ t : State, Gives (.gateList port) s t ∧ (t.xport port).gates = (s.xport port).pending ∧ (t.xport port).pending = none ∧
      t.ctr (Ctr.portGateTakeover port) = rose (s.ctr (Ctr.portGateTakeover port)) 1) ∧
  (∀ (o : Occ) (s : State), s.dueIs blkExport evShaperSample 0 = some o →
    ∃ t : State, Gives .shaperSample s t ∧ t.exp.samples = s.exp.samples + 1 ∧ t.exp.ports = s.exp.ports ∧
      ∀ q x, mfind s.exp.queues q = some x → ∃ y, mfind t.exp.queues q = some y ∧ y.frames = x.frames ∧ y.depth.last = x.bytes ∧
        y.delay.last = ((x.frames.head?).map (fun f => s.nt - f.nt)).getD 0 ∧
        (x.sampleBase = s.exp.samples → y.depth.min = x.bytes ∧ y.depth.max = x.bytes) ∧
        (x.sampleBase ≠ s.exp.samples → y.depth.min = min x.depth.min x.bytes ∧ y.depth.max = max x.depth.max x.bytes)) ∧
  (∀ (c : CmdIn) (queue : Nat) (reset : Bool) (s : State) (cmd : Cmd), Ready 0x0503 (.exportQueueStats c queue reset) c s cmd → Room c 40 →
    (cmd.fn = 0 ∨ 9 ≤ cmd.fn ∨ (s.partsOf cmd.fn).contains (s.setting 0x4001 queue 0) = true) →
    let x := s.xq queue
    ∃ r u, Replies (.exportQueueStats c queue reset) c s u r ∧ r.length = 40 ∧ leAt r 0 4 = x.depth.min % 4294967296 ∧
      leAt r 4 4 = x.depth.max % 4294967296 ∧ leAt r 8 4 = x.depth.last % 4294967296 ∧
      (reset = false → u = s) ∧ (reset = true → (u.xq queue).sampleBase = u.exp.samples ∧ (u.xq queue).frames = x.frames))

/-! ### The host interface and the command reference (chapters 16, 17) -/

namespace Sys2Proof.Claims

/-- No ring but `r` changes. -/
abbrev OtherRings (r : Nat) (s t : State) : Prop := ∀ q, q ≠ r → mfind t.host.rings q = mfind s.host.rings q

/-- What the endpoint serves and its resets leave as it is: network time, the tiles, the lanes and every loaded image and running
epoch (R591). -/
abbrev PathStands (s t : State) : Prop :=
  t.time = s.time ∧ t.tiles = s.tiles ∧ t.hall = s.hall ∧
  ∀ p, (t.partOf p).running = (s.partOf p).running ∧ ∀ n, ((s.partOf p).slot n).loadRing = none →
    (t.partOf p).slot n = (s.partOf p).slot n

/-- A function's host-facing state is as after reset; only a snapshot on its way into the window goes on (R592). -/
abbrev FnReset (fn : Nat) (s t : State) : Prop :=
  t.func fn = { hidden := (s.func fn).hidden } ∧ t.ringsOf fn = [] ∧ ∀ v, v < 1024 → t.vec fn v = { masked := true, pending := false }

/-- R620, R718: a ring after its reset: indices and phase as after creation, in ERROR while its VF is in TDISP state ERROR. -/
abbrev restarted (x : Ring) (error : Bool) : Ring :=
  { x with sqHead := 0, sqTail := 0, cqHead := 0, cqTail := 0, phase := true, error := error, pendCount := 0, bellNt := none, sqTailWas := 0, cqHeadWas := 0, skip := 0 }

/-- R717: a write to host memory as it leaves: on the VF's stream with the T bit set while the VF is in RUN. -/
abbrev onStream (f : Func) (fn : Nat) (o : Output) : Output := if f.tdisp = .run then .tee fn o else o

end Sys2Proof.Claims

/-- R588, R589, R591 to R593: a configuration request gets Retry Status until stage one has completed; a link narrower than 16 lanes or
slower than 64 GT/s sets pcie-link-degraded; PERST_N resets the host-facing state of every function and a Function Level Reset that of
its function, of every function for the PF, and neither touches the verdict path. -/
abbrev Sys2Proof.Claims.LinkAndResets : Prop :=
  (∀ s : State, s.dead = false → s.host.perstN = true → Gives .configurationRequest s (s.emit (.configAnswer (!s.boot.stageOne)))) ∧
  (∀ (width rate : Nat) (s : State), s.hallFree = true → s.host.perstN = true →
    ∃ t : State, Gives (.pcieLinkTrained width rate) s t ∧ t.host.linkUp = true ∧ t.host.width = width ∧ t.host.rate = rate ∧
      ((width < 16 ∨ rate < 640) → t.stickyBit 112 = true) ∧ (16 ≤ width → 640 ≤ rate → t.sticky = s.sticky)) ∧
  (∀ s : State, Gives .perstNRelease s { s with host := { s.host with perstN := true, perstReleaseNt := s.nt } }) ∧
  (∀ s : State, Ascending s.host.funcs → ∃ t : State, Gives .perstNAssert s t ∧ t.host.perstN = false ∧ t.host.linkUp = false ∧
    t.host.linkIde = none ∧ (∀ fn, fn ≤ 8 → FnReset fn s t) ∧ PathStands s t) ∧
  (∀ (fn : Nat) (s : State), Ascending s.host.funcs → s.hallFree = true → fn ≤ 8 → ∃ t : State, Gives (.functionLevelReset fn) s t ∧
    FnReset fn s t ∧ PathStands s t ∧ (fn = 0 → ∀ g, g ≤ 8 → FnReset g s t) ∧
    (fn ≠ 0 → ∀ g, g ≠ fn → t.func g = s.func g ∧ t.ringsOf g = s.ringsOf g))

/-- R602, R603, R607, R610, R614 to R617, R620, R717: admin_enable opens the function's admin ring with vector 1 when bases and size are valid,
under the highest free global number for a VF; admin_reset restarts it; a PF write to the sticky mirror clears bits and a VF's does
nothing; a register write changes its half of a base, the size, or a field of the MSI-X table, and admin_enable written 0 ends the
admin ring (log entry 207); a read finds what the fields hold once stage one has completed, and 0 at doorbells and reserved offsets; a
doorbell moves sq_tail or cq_head, puts the ring in ERROR out of range, and is counted and ignored without a ring; a request that
R717 bars completes as Unsupported Request. -/
abbrev Sys2Proof.Claims.RegistersAndDoorbells : Prop :=
  (∀ (fn : Nat) (tee : Bool) (s : State), fn ≤ 8 → s.hallFree = true → s.boot.stageOne = true → s.ringBy fn 0 = none →
    s.untrusted fn tee = false → let f := s.func fn
    let valid : Prop := f.adminSqBase % 4096 = 0 ∧ f.adminCqBase % 4096 = 0 ∧ 4 ≤ f.adminLog2 ∧ f.adminLog2 ≤ 16
    (∀ g, valid → s.globalFor fn 0 = some g → (s.ringsOf fn).length < s.ringLimit fn →
      ∃ t : State, Gives (.adminEnable fn tee) s t ∧ t.func fn = { f with adminEnable := true, adminReady := true } ∧ OtherRings g s t ∧
        mfind t.host.rings g = some { fn := fn, localIx := 0, kind := .command, log2 := f.adminLog2, sqBase := f.adminSqBase, cqBase := f.adminCqBase, vector := 1, coalCount := 0, coalTime := 0, drainSource := 0, error := f.tdisp == .error }) ∧
    ((¬ valid ∨ s.globalFor fn 0 = none) → Gives (.adminEnable fn tee) s (s.setFunc fn { f with adminEnable := true }))) ∧
  (∀ s : State, s.globalFor 0 0 = some 0 ∧ (∀ fn, fn ≠ 0 → s.globalFor fn 0 = s.freeGlobal) ∧
    (∀ g, s.freeGlobal = some g → g < 4096 ∧ mfind s.host.rings g = none ∧ ∀ m, m < 4096 → g < m → mfind s.host.rings m ≠ none) ∧
    (s.freeGlobal = none → ∀ m, m < 4096 → mfind s.host.rings m ≠ none)) ∧
  (∀ (fn r : Nat) (tee : Bool) (x : Ring) (s : State), s.hallFree = true → s.untrusted fn tee = false → s.ringBy fn 0 = some r →
    mfind s.host.rings r = some x →
    ∃ t : State, Gives (.adminReset fn tee) s t ∧ OtherRings r s t ∧
      mfind t.host.rings r = some (restarted x ((s.func fn).tdisp == .error))) ∧
  (∀ (mask : Nat) (s : State), s.hallFree = true → ∃ t : State, Gives (.stickyMirrorWrite 0 mask) s t ∧
    (∀ n, n < 256 → t.stickyBit n = (s.stickyBit n && !bitOf mask n)) ∧
    (t.power.faultN = true ↔ ∃ n, stickyFaultN n = true ∧ t.stickyBit n = true) ∧ t.host = s.host ∧ t.hall = s.hall) ∧
  (∀ (fn mask : Nat) (s : State), fn ≠ 0 → Gives (.stickyMirrorWrite fn mask) s s) ∧
  (∀ (fn value : Nat) (tee : Bool) (s : State), fn ≤ 8 → value < 4294967296 → s.hallFree = true → s.untrusted fn tee = false →
    let f := s.func fn
    let regs := if fn = 0 then 0x1000000 else 0x200000
    let msix := if fn = 0 then 0x1010000 else 0x210000
    Gives (.registerWrite fn (regs + 8) value false tee) s
      (s.setFunc fn { f with adminSqBase := f.adminSqBase / 4294967296 * 4294967296 + value }) ∧
    Gives (.registerWrite fn (regs + 0xC) value false tee) s
      (s.setFunc fn { f with adminSqBase := f.adminSqBase % 4294967296 + value * 4294967296 }) ∧
    Gives (.registerWrite fn (regs + 0x10) value false tee) s
      (s.setFunc fn { f with adminCqBase := f.adminCqBase / 4294967296 * 4294967296 + value }) ∧
    Gives (.registerWrite fn (regs + 0x14) value false tee) s
      (s.setFunc fn { f with adminCqBase := f.adminCqBase % 4294967296 + value * 4294967296 }) ∧
    Gives (.registerWrite fn regs value false tee) s s ∧
    ((bitOf value 8 = true ∨ f.adminEnable = false) →
      Gives (.registerWrite fn (regs + 0x18) value false tee) s (s.setFunc fn { f with adminLog2 := value % 32 })) ∧
    (bitOf value 8 = false → f.adminEnable = true → Ascending s.host.rings →
      ∃ t : State, Gives (.registerWrite fn (regs + 0x18) value false tee) s t ∧ (t.func fn).adminEnable = false ∧
        (t.func fn).adminReady = false ∧ (t.func fn).adminLog2 = value % 32 ∧
        (∀ r, s.ringBy fn 0 = some r → mfind t.host.rings r = none ∧ OtherRings r s t)) ∧
    (∀ v, v < (if fn = 0 then 1024 else 128) → let x := s.vec fn v
      Gives (.registerWrite fn (msix + 16 * v) value false tee) s
        (s.setVec fn v { x with addr := x.addr / 4294967296 * 4294967296 + value }) ∧
      Gives (.registerWrite fn (msix + 16 * v + 4) value false tee) s
        (s.setVec fn v { x with addr := x.addr % 4294967296 + value * 4294967296 }) ∧
      Gives (.registerWrite fn (msix + 16 * v + 8) value false tee) s (s.setVec fn v { x with data := value }) ∧
      (value % 2 = 1 → Gives (.registerWrite fn (msix + 16 * v + 12) value false tee) s (s.setVec fn v { x with masked := true }))) ∧
    (∀ page, 4096 * page < regs → ∃ t u : State,
      Gives (.registerWrite fn (4096 * page) value false tee) s t ∧ Gives (.sqTail fn page value tee) s t ∧
      Gives (.registerWrite fn (4096 * page + 4) value false tee) s u ∧ Gives (.cqHead fn page value tee) s u)) ∧
  (∀ (fn value : Nat) (tee : Bool) (s : State), fn ≤ 8 → value < 18446744073709551616 → s.hallFree = true →
    s.untrusted fn tee = false →
    ∃ t : State, Gives (.registerWrite fn ((if fn = 0 then 0x1000000 else 0x200000) + 8) value true tee) s t ∧
      t.func fn = { s.func fn with adminSqBase := value } ∧ t.host.rings = s.host.rings) ∧
  (∀ (fn : Nat) (tee : Bool) (s : State), fn ≤ 8 → let f := s.func fn
    let regs := if fn = 0 then 0x1000000 else 0x200000
    let msix := if fn = 0 then 0x1010000 else 0x210000
    let seen := if fn = 0 then s.sticky else s.sticky &&& visibleMask
    (∀ off n, (s.boot.stageOne = false ∨ s.untrusted fn tee = true) → s.bar0Read fn off n tee = none) ∧
    (s.dead = false → s.boot.stageOne = true → s.untrusted fn tee = false →
      s.bar0Read fn regs 4 tee = some (leBytes 4 s.boot.devState) ∧
      s.bar0Read fn (regs + 4) 4 tee = some (leBytes 4 (fn + 16 * b2n f.bounce + 32 * b2n f.session)) ∧
      s.bar0Read fn (regs + 8) 8 tee = some (leBytes 8 f.adminSqBase) ∧
      s.bar0Read fn (regs + 0x10) 8 tee = some (leBytes 8 f.adminCqBase) ∧
      s.bar0Read fn (regs + 0x18) 4 tee = some (leBytes 4 (f.adminLog2 + 256 * b2n f.adminEnable)) ∧
      (∀ r x, s.ringBy fn 0 = some r → mfind s.host.rings r = some x →
        s.bar0Read fn (regs + 0x1C) 4 tee = some (leBytes 4 (if x.error then 2 else b2n f.adminReady))) ∧
      s.bar0Read fn (regs + 0x20) 4 tee = some (leBytes 4 f.snapSeq) ∧ s.bar0Read fn (regs + 0x28) 8 tee = some (leBytes 8 f.snapNt) ∧
      s.bar0Read fn (regs + 0x30) 4 tee = some (leBytes 4 (b2n (seen != 0) + 2 * b2n s.power.faultN)) ∧
      s.bar0Read fn (regs + 0x100) 32 tee = some (leBytes 32 seen.toNat) ∧
      (∀ v, v < (if fn = 0 then 1024 else 128) → s.bar0Read fn (msix + 16 * v) 16 tee =
        some (leBytes 8 (s.vec fn v).addr ++ leBytes 4 (s.vec fn v).data ++ leBytes 4 (b2n (s.vec fn v).masked))) ∧
      (∀ off, (off < regs ∨ regs + 0x120 ≤ off ∧ off < msix) → s.bar0Read fn off 1 tee = some [0]))) ∧
  (∀ (fn page value : Nat) (tee : Bool) (s : State), s.hallFree = true → s.ringBy fn page = none →
    Gives (.sqTail fn page value tee) s (s.bump (Ctr.funcDoorbellIgnored fn)) ∧
    Gives (.cqHead fn page value tee) s (s.bump (Ctr.funcDoorbellIgnored fn))) ∧
  (∀ (fn page value r : Nat) (tee : Bool) (x : Ring) (s : State), s.hallFree = true → s.ringBy fn page = some r →
    mfind s.host.rings r = some x → x.fn ≤ 8 →
    (s.untrusted fn tee = true →
      Gives (.sqTail fn page value tee) s ((s.emit (.unsupportedRequest fn)).bump (Ctr.funcDoorbellIgnored fn)) ∧
      Gives (.cqHead fn page value tee) s ((s.emit (.unsupportedRequest fn)).bump (Ctr.funcDoorbellIgnored fn))) ∧
    (s.untrusted fn tee = false →
    let n := 2 ^ x.log2
    let InError : Instr → Prop := fun i => ∃ t : State, Gives i s t ∧ OtherRings r s t ∧ mfind t.host.rings r = some { x with error := true } ∧
      t.stickyBit 113 = true ∧ t.ctr (Ctr.funcRingError x.fn) = rose (s.ctr (Ctr.funcRingError x.fn)) 1
    (x.kind = .command → value < n → ∃ t : State, Gives (.sqTail fn page value tee) s t ∧ OtherRings r s t ∧
      mfind t.host.rings r = some { x.keepBells s.nt with sqTail := value }) ∧
    (x.kind = .command → n ≤ value → InError (.sqTail fn page value tee)) ∧
    (x.kind = .drain → Gives (.sqTail fn page value tee) s s) ∧
    (n ≤ value → InError (.cqHead fn page value tee)) ∧
    (value < n → (value + n - x.cqHead) % n ≤ (x.cqTail + n - x.cqHead) % n →
      ∃ t : State, Gives (.cqHead fn page value tee) s t ∧ OtherRings r s t ∧
        mfind t.host.rings r = some { x.keepBells s.nt with cqHead := value }) ∧
    (value < n → (x.cqTail + n - x.cqHead) % n < (value + n - x.cqHead) % n → InError (.cqHead fn page value tee))))

/-- R586 to R609: the PCIe link, its resets, registers and doorbells. -/
def Obligations.HostLinkAndRegisters : Prop :=
  Claims.LinkAndResets ∧ Claims.RegistersAndDoorbells

/-- R611, R619, R633, R636, R640, R643, R646, R647, R651, R653 (Tables 16-6, 17-1, 17-4, log entries 22, 208): the fields of a header, and
parameters of up to 32 bytes, are those of its entry's bytes; the round robin serves the next fetchable ring in rising number; a fetched
command that waits for no fence meets the header checks in their order, the first that fails completing it, and otherwise waits on its
ring; its fence is released once earlier commands of its function have completed, and a start too late completes with ST_TIMEOUT. -/
def Obligations.CommandsAreFetchedAndChecked : Prop :=
  (∀ (s : State) (r : Nat), Ascending s.host.rings → s.nextFetch = some r → ∃ x, mfind s.host.rings r = some x ∧ s.canFetch x = true ∧
    ∀ q y, mfind s.host.rings q = some y → s.canFetch y = true →
      (s.host.rrLast < r → s.host.rrLast < q → r ≤ q) ∧ (r ≤ s.host.rrLast → q ≤ s.host.rrLast ∧ r ≤ q)) ∧
  (∀ (e : Bytes) (fn nt order : Nat), let c := entryCmd e fn nt order
    let h := c.hdr
    h.opcode = leAt e 0 2 ∧ h.version = leAt e 2 1 ∧ (h.fence = true ↔ leAt e 3 1 % 2 = 1) ∧ h.seqTag = leAt e 4 4 ∧
    h.partition = leAt e 8 1 ∧ h.paramLength = leAt e 0xC 4 ∧ h.startDeadline = leAt e 0x10 4 ∧ h.word20 = leAt e 0x20 8 ∧
    c.params = (if leAt e 0xC 4 ≤ 32 then some (slice e 0x20 (leAt e 0xC 4)) else none) ∧
    (h.rsvAt = none → leAt e 3 1 / 2 = 0 ∧ leAt e 9 1 = 0 ∧ leAt e 0x14 1 = 0 ∧ (32 < leAt e 0xC 4 → leAt e 0x20 8 % 8 = 0))) ∧
  (∀ (entry : Bytes) (s : State) (r : Nat) (x : Ring), s.hallFree = true → r < 4096 → s.nextFetch = some r →
    mfind s.host.rings r = some x → x.fn ≤ 8 → let next := (x.sqHead + 1) % 2 ^ x.log2
    let bytes := if (s.func x.fn).bounce then (s.slotEntry x).getD [] else entry
    let c := entryCmd bytes x.fn s.nt s.host.orderCtr
    let hdr := c.hdr
    let Ends : State → Nat → Prop := fun u st => ∃ detail, Gives (.commandFetch entry) s (u.complete r { status := st, detail := detail })
    (0 < x.skip → Gives (.commandFetch entry) s (s.modRing r (fun y => { y with sqHead := (y.sqHead + 1) % 2 ^ y.log2, skip := y.skip - 1 }))) ∧
    (x.skip = 0 → ∃ u : State, mfind u.host.rings r = some { x with sqHead := next, running := some c } ∧ OtherRings r s u ∧
      u.host.rrLast = r ∧ u.cmdAt r = some c ∧ u.parts = s.parts ∧ u.tiles = s.tiles ∧
      ((s.func x.fn).bounce = false →
        u.out = s.out ++ [onStream (s.func x.fn) x.fn (.hostRead x.fn (x.sqBase + 64 * x.sqHead) 64)]) ∧
      ((u.fenced c = true ∨ u.outOfTurn r c = true) → Gives (.commandFetch entry) s u) ∧
      (u.fenced c = false → u.outOfTurn r c = false →
        (opInfo hdr.opcode = none → Gives (.commandFetch entry) s (u.complete r { status := 2 })) ∧
        (∀ i, opInfo hdr.opcode = some i →
          (∀ off, packetFault u c = some off → Gives (.commandFetch entry) s (u.complete r { status := 2, detail := off })) ∧
          (packetFault u c = none → s.enabledOf x.fn = none → sessionFree hdr.opcode = false → Ends u 4) ∧
          (packetFault u c = none → s.boot.recovery = false → sessionFree hdr.opcode = false → ∀ en, s.enabledOf x.fn = some en →
            ((∃ b ∈ i.feats, bitOf en b = false) → Ends u 3) ∧
            ((∀ b ∈ i.feats, bitOf en b = true) → rightsFault u c i = true → Ends u 4) ∧
            ((∀ b ∈ i.feats, bitOf en b = true) → rightsFault u c i = false → s.boot.devState ≠ 4 →
              [1, 8, 10, 15].contains (opClass hdr.opcode) = false → Ends u 1) ∧
            ((∀ b ∈ i.feats, bitOf en b = true) → rightsFault u c i = false → s.boot.devState = 4 → x.fn = 0 →
              hdr.partition < s.partsN → [3, 4, 9].contains (opClass hdr.opcode) = true →
              ((s.partOf hdr.partition).state = .unconfigured → Ends u 8) ∧
              ((s.partOf hdr.partition).state = .scrubbing → Ends u 5) ∧
              ((s.partOf hdr.partition).state = .active → Gives (.commandFetch entry) s u))))))) ∧
  (∀ (s : State) (r : Nat) (c : Cmd), s.cmdAt r = some c → c.started = false → s.hallFree = true → s.outOfTurn r c = false →
    (c.tooLate s.nt = false → Gives (.startDeadlineExpiry r) s s) ∧
    (c.tooLate s.nt = true → packetFault s c = none → Gives (.startDeadlineExpiry r) s (s.complete r { status := 6 })) ∧
    (c.hdr.fence = true → s.fenced c = true → Gives (.fenceRelease r) s s) ∧
    (c.hdr.fence = true → s.fenced c = false → headCheck s c = none →
      Gives (.fenceRelease r) s (s.setCmd r (some { c with hdr := { c.hdr with fence := false } }))) ∧
    (c.hdr.fence = true → s.fenced c = false → c.fn ≤ 8 → ∀ st, headCheck s c = some st → Gives (.fenceRelease r) s (s.complete r st)))

/-- R612, R613, R620, R623 to R625, R630 to R635, R648, R717: a completion follows its reply, both in envelopes of the response key in
bounce-buffer mode, where the completion stands in its slot of BAR2 too; it takes the next CQ slot, names the SQ head and the phase,
which turns at each wrap, and ends the running command; the ring's vector follows at coalesce_count pending entries, or at coalesce_time;
a masked vector keeps its message until it is unmasked. -/
abbrev Sys2Proof.Claims.CompletionsAndVectors : Prop :=
  (∀ (s : State) (r : Nat) (x : Ring) (c : Cmd) (st : Status), r < 4096 → mfind s.host.rings r = some x → x.running = some c → x.fn ≤ 8 →
    let n := 2 ^ x.log2
    let sends := decide (x.coalCount ≤ x.pendCount + 1)
    let t := s.complete r st
    let f := s.func x.fn
    let e : Completion := { opcode := c.hdr.opcode, status := st.status, detail := st.detail, info := st.info, replyBytes := st.reply.length, seqTag := c.hdr.seqTag, sqHead := x.sqHead, ring := x.localIx, phase := x.phase, nt := s.nt }
    let msix := if sends && !(s.vec x.fn x.vector).masked then [.msix x.fn x.vector] else []
    let chunks := (st.reply.length + 4095) / 4096
    let chunk := fun (k : Nat) => (st.reply.drop (4096 * k)).take 4096
    let own := mget 0 f.ownSeq x.localIx
    let key := f.rspKey.getD []
    let slot := x.cqBase + 128 * x.cqTail
    let sealed_ := sealEnvelope key (envelopeHeader 2 x.localIx e.bytes.length own 0 (f.nonceCtr + chunks)) e.bytes
    (f.bounce = false → t.out = s.out ++ (if st.reply = [] then [] else [onStream f x.fn (.hostWrite x.fn c.replyAddr st.reply)]) ++
      [onStream f x.fn (.completion x.fn (x.cqBase + 32 * x.cqTail) e)] ++ msix) ∧
    (f.bounce = true → (t.func x.fn).nonceCtr = f.nonceCtr + chunks + 1 ∧ (t.func x.fn).bar2 = memWrite f.bar2 slot sealed_ ∧
      t.out = s.out ++ (List.range chunks).map (fun k => onStream f x.fn (.envelope x.fn (chunkAddr c.replyAddr k)
          (sealEnvelope key (envelopeHeader 4 x.localIx (chunk k).length (4096 * k) (own % 4294967296) (f.nonceCtr + k)) (chunk k)))) ++
        [.envelope x.fn slot sealed_] ++ msix) ∧
    OtherRings r s t ∧ t.parts = s.parts ∧ t.tiles = s.tiles ∧ t.hall = s.hall ∧ t.time = s.time ∧
    mfind t.host.rings r = some { x with running := none, cqTail := (x.cqTail + 1) % n, phase := (if (x.cqTail + 1) % n = 0 then !x.phase else x.phase), pendCount := (if sends then 0 else x.pendCount + 1), firstPendNt := (if x.pendCount = 0 then s.nt else x.firstPendNt) } ∧
    t.ctr (Ctr.funcCommands x.fn) = rose (s.ctr (Ctr.funcCommands x.fn)) 1 ∧
    (sends = true → (s.vec x.fn x.vector).masked = true → t.vec x.fn x.vector = { s.vec x.fn x.vector with pending := true })) ∧
  (∀ c : Cmd, c.replyAddr = (match c.replyAt with | some a => a | none => match c.params with | some b => leAt b 0 8 | none => c.hdr.word20)) ∧
  (∀ addr k : Nat, chunkAddr addr 0 = addr ∧ chunkAddr addr (k + 1) % 64 = 0 ∧ chunkAddr addr k + 4144 ≤ chunkAddr addr (k + 1) ∧
    chunkAddr addr (k + 1) < chunkAddr addr k + 4144 + 64) ∧
  (∀ (s : State) (r : Nat) (x : Ring), mfind s.host.rings r = some x →
    ((x.pendCount = 0 ∨ x.coalTime = 0 ∨ s.nt < x.firstPendNt + x.coalTime * 16000) → Gives (.interruptCoalesceTimeout r) s s) ∧
    (s.hallFree = true → x.pendCount ≠ 0 → x.coalTime ≠ 0 → x.firstPendNt + x.coalTime * 16000 ≤ s.nt →
      ∃ t : State, Gives (.interruptCoalesceTimeout r) s t ∧ mfind t.host.rings r = some { x with pendCount := 0 } ∧ OtherRings r s t ∧
        ((s.vec x.fn x.vector).masked = false → t.out = s.out ++ [.msix x.fn x.vector]) ∧
        ((s.vec x.fn x.vector).masked = true → t.out = s.out ∧ (t.vec x.fn x.vector).pending = true))) ∧
  (∀ (s : State) (fn v : Nat) (tee : Bool), s.hallFree = true → s.untrusted fn tee = false →
    ∃ t : State, Gives (.vectorUnmask fn v tee) s t ∧ t.vec fn v = { s.vec fn v with masked := false, pending := false } ∧
    t.out = s.out ++ (if (s.vec fn v).pending then [.msix fn v] else []) ∧ t.host.rings = s.host.rings)

/-- R606 to R608, R618, R620, R637, R639, R641 (Tables 17-8, 17-9): SESSION_OPEN enables the features that both words hold, without BASE answers ST_NO_FEATURE and with a session
ST_CONFLICT; SESSION_CLOSE ends it; RING_CREATE adds a ring with its attributes and answers its global number; RING_DESTROY
removes and RING_RESET restarts a ring, with ST_CONFLICT for the admin ring and for their own. -/
abbrev Sys2Proof.Claims.SessionsAndRings : Prop :=
  (∀ (c : CmdIn) (word : Nat) (s : State) (cmd : Cmd), Ready 0x0101 (.sessionOpen c word) c s cmd → Room c 32 → cmd.fn < 9 →
    (bitOf word 0 = false → Fails (.sessionOpen c word) c s 3) ∧
    (bitOf word 0 = true → (s.func cmd.fn).session = true → Fails (.sessionOpen c word) c s 7) ∧
    (bitOf word 0 = true → (s.func cmd.fn).session = false →
      ∃ (u : State) (en : Nat), Replies (.sessionOpen c word) c s u (leBytes 16 (featWord (s.offer cmd.fn)) ++ leBytes 16 en) ∧
        u.enabledOf cmd.fn = some en ∧ (∀ b, bitOf en b = ((s.offer cmd.fn).contains b && bitOf word b)) ∧
        u.parts = s.parts ∧ u.host.rings = s.host.rings)) ∧
  (∀ (c : CmdIn) (s : State) (cmd : Cmd), Ready 0x0102 (.sessionClose c) c s cmd → cmd.fn < 9 →
    ((s.func cmd.fn).session = false → Fails (.sessionClose c) c s 8) ∧
    ((s.func cmd.fn).session = true → ∃ u : State, Succeeds (.sessionClose c) c s u ∧ u.enabledOf cmd.fn = none ∧
      u.parts = s.parts ∧ u.tiles = s.tiles ∧ u.host.rings = s.host.rings)) ∧
  (∀ (c : CmdIn) (ix log2 v cc ct sq cq : Nat) (s : State) (cmd : Cmd),
    Ready 0x0103 (.ringCreate c ix .command log2 v cc ct 0 sq cq) c s cmd → ix ≠ 0 → 4 ≤ log2 → log2 ≤ 16 → 1 ≤ v →
    v < (if cmd.fn = 0 then 1024 else 128) → sq % 4096 = 0 → cq % 4096 = 0 → (cmd.fn ≠ 0 → ix ≤ 511) →
    ((s.func cmd.fn).bounce = true → sq + 128 * 2 ^ log2 ≤ bar2Size cmd.fn ∧ cq + 128 * 2 ^ log2 ≤ bar2Size cmd.fn) →
    let i := Instr.ringCreate c ix .command log2 v cc ct 0 sq cq
    ((s.ringLimit cmd.fn ≤ (s.ringsOf cmd.fn).length ∨ 4096 ≤ s.host.rings.length) → Fails i c s 1) ∧
    ((s.ringsOf cmd.fn).length < s.ringLimit cmd.fn → s.host.rings.length < 4096 →
      ((s.ringBy cmd.fn ix ≠ none ∨ (cmd.fn = 0 ∧ mfind s.host.rings ix ≠ none)) → Fails i c s 7) ∧
      (∀ g, s.ringBy cmd.fn ix = none → (cmd.fn = 0 → mfind s.host.rings ix = none) → s.globalFor cmd.fn ix = some g →
        ∃ u : State, Gives i s (u.complete c.ring { status := 0, info := g }) ∧ OtherRings g s u ∧
          mfind u.host.rings g = some { fn := cmd.fn, localIx := ix, kind := .command, log2 := log2, sqBase := sq, cqBase := cq, vector := v, coalCount := cc, coalTime := ct, drainSource := 0, error := (s.func cmd.fn).tdisp == .error }))) ∧
  (∀ (c : CmdIn) (ix : Nat) (s : State) (cmd : Cmd), Ascending s.host.rings →
    (Ready 0x0104 (.ringDestroy c ix) c s cmd →
      (s.ringBy cmd.fn ix = none → Fails (.ringDestroy c ix) c s 8) ∧
      (∀ r, s.ringBy cmd.fn ix = some r → ((ix = 0 ∨ r = c.ring) → Fails (.ringDestroy c ix) c s 7) ∧
        (ix ≠ 0 → r ≠ c.ring → ∃ u : State, Succeeds (.ringDestroy c ix) c s u ∧ mfind u.host.rings r = none ∧ OtherRings r s u))) ∧
    (Ready 0x0105 (.ringReset c ix) c s cmd →
      (s.ringBy cmd.fn ix = none → Fails (.ringReset c ix) c s 8) ∧
      (∀ r, s.ringBy cmd.fn ix = some r → ((ix = 0 ∨ r = c.ring) → Fails (.ringReset c ix) c s 7) ∧
        (ix ≠ 0 → r ≠ c.ring → ∃ u : State, Succeeds (.ringReset c ix) c s u ∧ OtherRings r s u ∧
          ∀ x, mfind s.host.rings r = some x → mfind u.host.rings r = some (restarted x ((s.func cmd.fn).tdisp == .error))))))

/-- R610 to R642: completions, vectors, sessions and rings. -/
def Obligations.SessionsAndCompletions : Prop :=
  Claims.CompletionsAndVectors ∧ Claims.SessionsAndRings

/-! ### Report queues (chapter 18) -/

namespace Sys2Proof.Claims

/-- Words that records take. -/
abbrev wordsIn (rs : List QRec) : Nat := (rs.map (fun r => r.words.length)).foldl (· + ·) 0

/-- R672: `victims` leave the records `recs` for an incoming priority and length, and `kept` stay: only as many as are
needed, the greatest priority value first and within one priority the oldest first. -/
abbrev Discard (recs victims kept : List QRec) (prio need : Nat) : Prop :=
  recs.Perm (victims ++ kept) ∧ kept.Sublist recs ∧ need + wordsIn kept ≤ 4096 ∧
  (∀ v ∈ victims, v.eligible prio = true ∧ ∀ k ∈ kept, k.eligible prio = true → k.priority ≤ v.priority) ∧
  (∀ pr, recs.filter (fun r => r.eligible prio && r.priority == pr) =
    victims.filter (fun r => r.priority == pr) ++ kept.filter (fun r => r.eligible prio && r.priority == pr)) ∧
  (∀ v, victims.getLast? = some v → 4096 < need + wordsIn kept + v.words.length)

end Sys2Proof.Claims

/-- R665 to R673, R678, R683: a record that reaches a queue takes its header's fields and the next seq and joins the staging buffer of 256 words
or is lost; a push, one in a Hall cycle, stores the oldest staged record, after the discards that it needs when they can make room, and is lost
otherwise; losses count by priority; a written record becomes visible, and pending records send the queue's vector at
rq_coalesce_time. -/
def Obligations.RecordsAreQueued : Prop :=
  (∀ (s : State) (p q prio type : Nat) (body : Bytes), p < 16 → q < 4 → prio < 8 → type < 256 → body.length % 8 = 0 → body.length < 512 →
    (s.rq p q).seq < 65536 →
    let x := s.rq p q
    let t := s.record p q prio type body
    (t.rq p q).seq = (x.seq + 1) % 65536 ∧ (t.rq p q).recs = x.recs ∧ t.ctr (Ctr.rqArrived (4 * p + q)) = rose (s.ctr (Ctr.rqArrived (4 * p + q))) 1 ∧
    (256 < wordsIn x.staging + (1 + body.length / 8) → (t.rq p q).staging = x.staging ∧
      t.ctr (Ctr.rqLostPrio (4 * p + q) prio) = rose (s.ctr (Ctr.rqLostPrio (4 * p + q) prio)) 1 ∧
      t.ctr (Ctr.rqLostStaging (4 * p + q)) = rose (s.ctr (Ctr.rqLostStaging (4 * p + q))) 1) ∧
    (wordsIn x.staging + (1 + body.length / 8) ≤ 256 → ∃ (h : BitVec 64) (ws : List (BitVec 64)),
      (t.rq p q).staging = x.staging ++ [{ words := storedWords (h :: ws), length := 1 + body.length / 8, priority := prio }] ∧ ws.length = body.length / 8 ∧
      ws.flatMap (fun w => leBytes 8 w.toNat) = body ∧ h.toNat % 256 = type ∧ h.toNat / 256 % 256 = 1 + body.length / 8 ∧
      h.toNat / 65536 % 16 = prio ∧ h.toNat / 1048576 % 16 = p ∧ h.toNat / 16777216 % 256 = q ∧
      h.toNat / 4294967296 % 2147483648 = x.seq ∧ h.getLsbD 63 = true)) ∧
  (∀ (s : State) (p q : Nat), q < 4 → let x := s.rq p q
    (x.staging = [] → Gives (.recordPush p q) s s) ∧ ((x.writing ≠ 0 ∨ x.mayAct s.nt 2 = false) → Gives (.recordPush p q) s s) ∧
    (∀ r0 rest, x.staging = r0 :: rest → x.writing = 0 → s.hallFree = true → x.mayAct s.nt 2 = true →
      let need := r0.words.length
      ∃ (t : State) (a : Nat), let r : QRec := { r0 with start := a }
        a < 4096 ∧ Gives (.recordPush p q) s t ∧ (t.rq p q).staging = rest ∧ t.tiles = s.tiles ∧
        mget 0 t.levels (Ctr.rqWaiting (4 * p + q)) = (t.rq p q).waiting ∧ (t.rq p q).mayAct s.nt 2 = false ∧
        (wordsIn x.recs + need ≤ 4096 → (t.rq p q).recs = x.recs ++ [r] ∧ (t.rq p q).writing = need) ∧
        (4096 < wordsIn x.recs + need → need + wordsIn (x.recs.filter (fun k => !k.eligible r.priority)) ≤ 4096 →
          ∃ victims kept, Discard x.recs victims kept r.priority need ∧ (t.rq p q).recs = kept ++ [r] ∧ (t.rq p q).writing = need ∧
            ∀ k, k < 8 → t.ctr (Ctr.rqLostPrio (4 * p + q) k) =
              rose (s.ctr (Ctr.rqLostPrio (4 * p + q) k)) (victims.filter (fun v => v.priority == k)).length) ∧
        (4096 < need + wordsIn (x.recs.filter (fun k => !k.eligible r.priority)) → 4096 < wordsIn x.recs + need →
          (t.rq p q).recs = x.recs ∧ (t.rq p q).writing = 0 ∧
          t.ctr (Ctr.rqLostPrio (4 * p + q) r.priority) = rose (s.ctr (Ctr.rqLostPrio (4 * p + q) r.priority)) 1))) ∧
  (∀ (s : State) (p q : Nat), q < 4 → let x := s.rq p q
    let t := s.tickRq (4 * p + q)
    (2 ≤ x.writing → (t.rq p q).writing = x.writing - 1 ∧ (t.rq p q).recs = x.recs) ∧
    (x.writing = 1 → (t.rq p q).writing = 0 ∧ (t.rq p q).recs =
      x.recs.map (fun r => if r.visible then r else { r with visible := true, order := x.orderCtr }))) ∧
  (∀ (s : State) (p q : Nat), q < 4 → let x := s.rq p q
    let v := s.rqSetting 0x6001 p q
    ((v = 0 ∨ s.rqSetting 0x6003 p q = 0 ∨ x.pendCount = 0 ∨ s.nt < x.firstPendNt + s.rqSetting 0x6003 p q * 16000) →
      Gives (.reportNotifyTimeout p q) s s) ∧
    (s.hallFree = true → v ≠ 0 → s.rqSetting 0x6003 p q ≠ 0 → x.pendCount ≠ 0 → x.firstPendNt + s.rqSetting 0x6003 p q * 16000 ≤ s.nt →
      ∃ t : State, Gives (.reportNotifyTimeout p q) s t ∧ (t.rq p q).pendCount = 0 ∧ (t.rq p q).recs = x.recs ∧
        ((s.vec (s.fnOf p) v).masked = false → t.out = s.out ++ [.msix (s.fnOf p) v]) ∧
        ((s.vec (s.fnOf p) v).masked = true → t.out = s.out ∧ (t.vec (s.fnOf p) v).pending = true)))

namespace Sys2Proof.Claims

/-- R684: a read that finds no error changes no word, and one that finds an uncorrectable word, or head and end bits that disagree
with the directory's length, poisons the record. -/
abbrev Poisons (r : QRec) (found : List WordRead) : Prop :=
  (∃ e ∈ found, e.error = .uncorrectable ∧ e.word < r.length) ∨ (r.asRead found).length ≠ r.length ∨
    ∃ k w, k < r.length ∧ (r.asRead found)[k]? = some w ∧ ¬((w.head = true ↔ k = 0) ∧ (w.tail = true ↔ k + 1 = r.length))

/-- Table 18-3, R684: the reply of a native read that delivers `r` and leaves the queue as in `u`. -/
abbrev nativeReply (u : State) (p q : Nat) (r : QRec) (found : List WordRead) : Bytes :=
  leBytes 4 (r.length + (if r.poisoned found then 128 else 0) + 256 * r.priority) ++ leBytes 4 (u.rq p q).waiting ++
    (r.asRead found).flatMap (fun w => leBytes 8 w.data.toNat)

/-- R677, R684: the record has left the queue `x`, the read ends with ST_OK, or with ST_INTEGRITY and the sticky bit when it is
poisoned. -/
abbrev ReadDelivers (i : Instr) (s : State) (ring p q : Nat) (x : ReportQ) (r : QRec) (found : List WordRead) (reply : State → Bytes) : Prop :=
  ∃ u : State, Gives i s (u.complete ring { status := (if r.poisoned found then 9 else 0), reply := reply u }) ∧
    (u.rq p q).recs = x.recs.erase r ∧ (r.poisoned found = true → u.stickyBit 132 = true) ∧ u.tiles = s.tiles ∧ u.parts = s.parts

end Sys2Proof.Claims

/-- R674 to R680, R684: a read selects the first visible record by priority and then age; REPORT_READ delivers it and releases it whole, or
waits behind earlier reads and until its timeout, and a timeout of 0 never waits; a read that fails leaves the record in its place;
REPORT_READ_COMPAT never waits and answers one zero word instead; a poisoned record ends its read with ST_INTEGRITY, and is delivered as
its words are read. -/
def Obligations.ReportsAreRead : Prop :=
  (∀ (q : ReportQ) (r : QRec), q.first = some r → r ∈ q.recs ∧ r.visible = true ∧ r.selected = false ∧
    ∀ x ∈ q.recs, x.visible = true → x.selected = false → r.priority < x.priority ∨ (r.priority = x.priority ∧ r.order ≤ x.order)) ∧
  (∀ (r : QRec) (found : List WordRead), r.poisoned found = true ↔ Poisons r found) ∧
  (∀ (c : CmdIn) (q timeout : Nat) (found : List WordRead) (written : Bool) (s : State) (cmd : Cmd),
    let i := Instr.reportRead c q timeout found written
    Ready 0x0501 i c s cmd → q < 4 → timeout ≤ 1000000 →
    let p := cmd.hdr.partition
    let x := s.rq p q
    x.mayAct s.nt 2 = true →
    let read : QRead := { ring := c.ring, startNt := s.nt, timeout := timeout, replyLen := c.replyLen }
    let Runs : ReportQ → Prop := fun y => ∃ u : State, Gives i s (u.setCmd c.ring (some { cmd with started := true })) ∧ u.rq p q = y ∧
      u.tiles = s.tiles ∧ u.parts = s.parts
    (c.replyLen < 520 → Gives i s (s.complete c.ring { status := 2, detail := 520 })) ∧
    (520 ≤ c.replyLen →
      (∀ r, x.reads = [] → x.first = some r → r.words.length ≤ 64 → c.replyFails = false →
        (written = true → ReadDelivers i s c.ring p q x r found (fun u => nativeReply u p q r found)) ∧
        (written = false → Runs { x with recs := x.recs.map (fun y => if y = r then { y with selected := true } else y), reads := [read], acted := some (s.nt, 2) })) ∧
      ((x.reads ≠ [] ∨ x.first = none) →
        (timeout = 0 → Fails i c s 6) ∧ (1 ≤ timeout → Runs { x with reads := x.reads ++ [read] })))) ∧
  (∀ (s : State) (p q : Nat) (found : List WordRead) (written failed : Bool) (w : QRead) (rest : List QRead) (r : QRec), q < 4 →
    s.hallFree = true → let x := s.rq p q
    x.reads = w :: rest → x.candidate = some r → x.readTurn s.nt = true →
    let i := Instr.reportReadSelect p q found written failed
    (failed = false → written = true →
      ReadDelivers i s w.ring p q x r found (fun u => nativeReply u p q r found)) ∧
    (failed = false → written = false → r.selected = true → Gives i s s) ∧
    (failed = false → written = false → r.selected = false → ∃ t : State, Gives i s t ∧
      (t.rq p q).recs = x.recs.map (fun y => if y = r then { y with selected := true } else y) ∧ (t.rq p q).reads = x.reads) ∧
    (failed = true → ∃ u : State, Gives i s (u.complete w.ring { status := 9 }) ∧
      (u.rq p q).recs = x.recs.map (fun y => { y with selected := false }) ∧ (u.rq p q).reads = rest)) ∧
  (∀ (s : State) (p q : Nat) (w : QRead), q < 4 → s.hallFree = true → let x := s.rq p q
    (if x.recs.any (fun r => r.selected) then x.reads.tail else x.reads).find? (fun y => decide (y.startNt + y.timeout * 16000 ≤ s.nt)) = some w →
    ∃ u : State, Gives (.reportReadTimeout p q) s (u.complete w.ring { status := 6 }) ∧ (u.rq p q).reads = x.reads.erase w ∧
      (u.rq p q).recs = x.recs) ∧
  (∀ (c : CmdIn) (q : Nat) (found : List WordRead) (s : State) (cmd : Cmd),
    let i := Instr.reportReadCompat c q found
    Ready 0x0502 i c s cmd → q < 4 → 512 ≤ c.replyLen → c.replyFails = false →
    let p := cmd.hdr.partition
    let x := s.rq p q
    x.mayAct s.nt 2 = true →
    (∀ r, x.reads = [] → x.first = some r → 1 ≤ r.words.length → r.words.length ≤ 64 →
      ReadDelivers i s c.ring p q x r found (fun _ => (r.asRead found).flatMap (fun w => leBytes 8 w.data.toNat))) ∧
    ((x.reads ≠ [] ∨ x.first = none) → Replies i c s s (zeroBytes 8)))

/-! ### Partitions, settings, keys and scrubs (chapters 17, 19) -/

namespace Sys2Proof.Claims

/-- Table 17-10, R688, R700: partition `q` is configured with the fields of `p` in state `u`, everything of its own at its start,
and no other partition has changed. -/
abbrev Configured (s u : State) (q : Nat) (p : ConfigParams) : Prop :=
  let x := u.partOf q
  x.state = .active ∧ x.quarters0 = p.quarters0 ∧ x.quarters1 = p.quarters1 ∧ x.blockUnits = p.blockUnits ∧
  x.shareLog2 = p.shareLog2 ∧ x.ringQuota = p.ringQuota ∧ x.regionGib = p.regionGib ∧ x.bindFn = p.bindFn ∧
  x.overflowQuota0 = (if p.overflowQuota0 = 0xFFFF then 32768 * 2 ^ p.shareLog2 / 4194304 else p.overflowQuota0) ∧
  x.slot0 = {} ∧ x.slot1 = {} ∧ x.epochs = [] ∧ x.keyCur = none ∧ x.keyPrev = none ∧ x.sealed = false ∧
  x.nonce = some (s.draw 16).1 ∧ x.pak = some (attestationKey (s.draw 16).1 (s.sec.fwCdi.getD []) q) ∧
  x.pwk = some (wrappingKey (s.draw 16).1 (s.sec.fwCdi.getD []) q) ∧ x.leaf ≠ none ∧
  (Ascending s.rqs → ∀ k, k < 4 → u.rq q k = { reads := (s.rq q k).reads }) ∧
  u.ctr (Ctr.partImageLoads q) = 0 ∧ u.ctr (Ctr.partTokens q) = 0 ∧
  (∀ w slot, w < s.wings → x.ownsBucket w (slot / 4) = true → (u.wing w).entry slot = {}) ∧
  (∀ id elem, settingScope id = some .partition → id ≠ 0x100A → elem < 4 → u.partSetting id q elem = settingDefault id (q * 4096) elem) ∧
  ∀ r, r ≠ q → u.partOf r = s.partOf r

/-- The conditions of SETTING_WRITE's fields (Tables 17-5, 17-6), and of the partition that its header names. -/
abbrev SettingFits (s : State) (cmd : Cmd) (id inst elem v : Nat) (sc : SetScope) : Prop :=
  settingScope id = some sc ∧ sc ≠ .time ∧ inst < s.instances sc ∧ elem < settingElements id ∧ settingOk s id v = true ∧
  (id = 0x6001 → s.fnOf cmd.hdr.partition ≠ 0 → v ≤ 127) ∧ settingMisnamed id cmd = false

end Sys2Proof.Claims

/-- R656 to R662, R664, R682, R688, R893 (Tables 17-5 to 17-12): outside a pair PARTITION_CONFIGURE and CONTEXT_CONFIGURE make an UNCONFIGURED partition
ACTIVE with its fields and defaults and answer ST_CONFLICT for another; PARTITION_RELEASE begins the scrub and runs on; PARTITION_QUERY
reads; SETTING_WRITE stores a value within its range and leaves every other setting, and SETTING_READ returns it. -/
def Obligations.PartitionsAndSettings : Prop :=
  (∀ (c : CmdIn) (p : ConfigParams) (s : State) (cmd : Cmd) (ctx : Bool),
    let q := cmd.hdr.partition
    let i := if ctx then Instr.contextConfigure c p else Instr.partitionConfigure c p
    Ready (if ctx then 0x0202 else 0x0201) i c s cmd → Alone s → cmd.hdr.partition < 16 → (∀ b ∈ p.bad s.is4840, b.1 = false) →
    ((s.partOf q).state ≠ .unconfigured → Fails i c s 7) ∧
    ((s.partOf q).state = .unconfigured → p.fields.quarterCount 0 = 0 → Fails i c s 7) ∧
    ((s.partOf q).state = .unconfigured → s.is4840 = false → p.fields.quarterCount 0 ≠ p.fields.quarterCount 1 → Fails i c s 7) ∧
    (s.configureFault q p = none → ∃ u : State, Succeeds i c s u ∧ Configured s u q p)) ∧
  (∀ (c : CmdIn) (s : State) (cmd : Cmd), Ready 0x0203 (.partitionRelease c) c s cmd → Alone s → let q := cmd.hdr.partition
    ((s.partOf q).state = .unconfigured → Fails (.partitionRelease c) c s 8) ∧
    ((s.partOf q).state = .scrubbing → Fails (.partitionRelease c) c s 5) ∧
    ((s.partOf q).state = .active → ((s.partOf q).slot0.state ≠ .armed ∨ (s.partOf q).slot1.state ≠ .armed) →
      ∃ u : State, Gives (.partitionRelease c) s (u.setCmd c.ring (some { cmd with started := true })) ∧
        (u.partOf q).state = .scrubbing ∧ (u.partOf q).scrub = some { zeroise := false, phase := .drain, start := s.nt, ring := some c.ring } ∧
        (u.partOf q).slotIn .armed = none ∧ (u.partOf q).slotIn .loading = none ∧ u.hall = s.hall ∧ u.time = s.time)) ∧
  (∀ (c : CmdIn) (s : State) (cmd : Cmd), Ready 0x0204 (.partitionQuery c) c s cmd → Room c 16 →
    ∃ r, Replies (.partitionQuery c) c s s r ∧ r.length = 16 ∧
      leAt r 0 2 = (match (s.partOf cmd.hdr.partition).state with | .unconfigured => 0 | .active => 1 | .scrubbing => 2) ∧
      leAt r 2 2 = (s.partOf cmd.hdr.partition).quarters0 % 65536 ∧ leAt r 4 2 = (s.partOf cmd.hdr.partition).quarters1 % 65536 ∧
      leAt r 6 2 = s.fnOf cmd.hdr.partition % 65536) ∧
  (∀ (c : CmdIn) (id inst elem v : Nat) (s : State) (cmd : Cmd),
    Ready 0x0205 (.settingWrite c id inst elem v) c s cmd → Alone s →
    (settingScope id = some .time → settingMisnamed id cmd = false → inst = 0 → elem = 0 → Fails (.settingWrite c id inst elem v) c s 2) ∧
    (∀ sc, SettingFits s cmd id inst elem v sc →
      (sc.ofPart = true → (s.partOf cmd.hdr.partition).state = .unconfigured → Fails (.settingWrite c id inst elem v) c s 8) ∧
      (settingState id true cmd s = none →
        (∀ st, s.writeFault cmd.fn cmd.hdr.partition id inst v = some st →
          Gives (.settingWrite c id inst elem v) s (s.complete c.ring st)) ∧
        (s.writeFault cmd.fn cmd.hdr.partition id inst v = none →
          ∃ u : State, Succeeds (.settingWrite c id inst elem v) c s u ∧
            u.settings = mput s.settings (settingKey id (scopedInst sc cmd.hdr.partition inst) elem) v ∧
            u.setting id (scopedInst sc cmd.hdr.partition inst) elem = v ∧ u.parts = s.parts ∧ u.tiles = s.tiles)))) ∧
  (∀ (c : CmdIn) (id inst elem : Nat) (sc : SetScope) (s : State) (cmd : Cmd),
    Ready 0x0206 (.settingRead c id inst elem) c s cmd → Room c 16 →
    settingScope id = some sc → inst < s.instances sc → elem < settingElements id → settingMisnamed id cmd = false →
    (sc.ofPart = true → (s.partOf cmd.hdr.partition).state = .unconfigured → Fails (.settingRead c id inst elem) c s 8) ∧
    (settingState id false cmd s = none → sc ≠ .time →
      Replies (.settingRead c id inst elem) c s s (leBytes 16 (s.setting id (scopedInst sc cmd.hdr.partition inst) elem))))

/-- R706 to R709, R714: KEY_LOAD passes the checks of its order, each failure counted, moves the current key to the previous slot while a
load runs and seals the partition; the previous slot is erased once no load holds it; KEY_QUERY reads both slots; the images of a
rotated key stay. -/
abbrev Sys2Proof.Claims.KeysAreLoaded : Prop :=
  (∀ (c : CmdIn) (g n : Nat) (blob : Bytes) (s : State) (cmd : Cmd),
    Ready 0x0901 (.keyLoad c g n blob) c s cmd → 1 ≤ n → n ≤ 4096 → DataHere c s cmd n (fun b => b == blob) → cmd.hdr.partition < 16 →
    let p := cmd.hdr.partition
    let x := s.partOf p
    let i := Instr.keyLoad c g n blob
    let Rejects : Nat → Prop := fun st => ∃ detail,
      Gives i s ((s.bump (Ctr.partKeyRejected p)).complete c.ring { status := st, detail := detail })
    let blobGood := n = 153 ∧ blob.length = 153 ∧ 1 ≤ g ∧ leAt blob 0 1 = 1 ∧ leAt blob 1 1 = g ∧ leAt blob 2 2 = 0 ∧ leAt blob 4 4 = 0
    let follows := ∀ k, x.keyCur = some k → g = k.gen % 255 + 1
    (keyLoadAllowed s cmd.fn = false → Rejects 4) ∧
    (keyLoadAllowed s cmd.fn = true → ¬blobGood → Rejects 2) ∧
    (keyLoadAllowed s cmd.fn = true → blobGood → ¬follows → Rejects 7) ∧
    (keyLoadAllowed s cmd.fn = true → blobGood → follows → x.keyPrev ≠ none → Rejects 1) ∧
    (keyLoadAllowed s cmd.fn = true → blobGood → follows → x.keyPrev = none → s.unwrap p g blob = none → Rejects 9) ∧
    (keyLoadAllowed s cmd.fn = true → blobGood → follows → x.keyPrev = none → ∀ key, s.unwrap p g blob = some key →
      ∃ u : State, Succeeds i c s u ∧ (u.partOf p).keyCur = some { gen := g, key := key } ∧ (u.partOf p).sealed = true ∧
        (u.partOf p).keyPrev = (if x.slot0.state = .loading ∨ x.slot1.state = .loading then x.keyCur else none) ∧
        (u.partOf p).slot0 = x.slot0.logKeys { nt := s.nt, cur := x.keyCur, prev := x.keyPrev } ∧
        (u.partOf p).slot1 = x.slot1.logKeys { nt := s.nt, cur := x.keyCur, prev := x.keyPrev } ∧
        ∀ r, r ≠ p → u.partOf r = s.partOf r)) ∧
  (∀ (s : State) (p : Nat), s.hallFree = true → ((s.partOf p).prevHolders ≠ [] ∨ (s.partOf p).keyPrev = none → Gives (.previousKeyErase p) s s) ∧
    ((s.partOf p).prevHolders = [] → (s.partOf p).keyPrev ≠ none →
      ∃ t : State, Gives (.previousKeyErase p) s t ∧ (t.partOf p).keyPrev = none ∧ (t.partOf p).keyCur = (s.partOf p).keyCur ∧
        (t.partOf p).slot0.image = (s.partOf p).slot0.image ∧ (t.partOf p).slot1.image = (s.partOf p).slot1.image)) ∧
  (∀ (c : CmdIn) (s : State) (cmd : Cmd), Ready 0x0902 (.keyQuery c) c s cmd → Room c 4 →
    let bytes := fun (k : Option KeySlot) => match k with
      | none => leBytes 2 0
      | some x => leBytes 2 (x.gen + 256)
    Replies (.keyQuery c) c s s (bytes (s.partOf cmd.hdr.partition).keyCur ++ bytes (s.partOf cmd.hdr.partition).keyPrev))

namespace Sys2Proof.Claims

/-- No function but `fn` changes. -/
abbrev OtherFuncs (fn : Nat) (s t : State) : Prop := ∀ g, g ≠ fn → t.func g = s.func g

/-- R718: what becomes of a VF that the list of R718 meets. -/
abbrev Failed (s t : State) (fn : Nat) : Prop :=
  (((s.func fn).tdisp = .locked ∨ (s.func fn).tdisp = .run) → (t.func fn).tdisp = .error ∧ (t.func fn).session = false ∧
    t.stickyBit 122 = true ∧ ∀ r x, mfind t.host.rings r = some x → x.fn = fn → x.error = true) ∧
  (((s.func fn).tdisp = .locked ∨ (s.func fn).tdisp = .run) → (∃ r x, (r, x) ∈ s.host.rings ∧ x.fn = fn ∧ x.error = false) →
    t.stickyBit 113 = true) ∧
  ((s.func fn).tdisp ≠ .locked → (s.func fn).tdisp ≠ .run → (t.func fn).tdisp = (s.func fn).tdisp)

end Sys2Proof.Claims

/-- R626 to R634, R699, R701, R703, R704, R715 to R721, R883: certificates come with the latest leaf, sessions open, and GET_MEASUREMENTS is
refused; IDE_KM of the VF's session sets the streams; TDISP moves a VF from unlocked to locked to RUN under R716's conditions, within its
session, and to ERROR under R718's; bounce-buffer mode excludes both, has the two keys of the VF's SPDM session, takes COMMAND envelopes
in sequence and the DATA_IN envelopes of the running command, and ends at one that fails and at END_SESSION; boundary-scan instructions
touch no internal state. -/
abbrev Sys2Proof.Claims.TrustedDomain : Prop :=
  (∀ (fn slot p : Nat) (s : State), s.hallFree = true → s.slotPart fn slot = some p →
    (1 ≤ fn ∧ fn ≤ 8 ∧ p ∈ s.partsOf fn ∧ (s.partsOf fn).countP (fun q => decide ((s.partOf q).bindOrder < (s.partOf p).bindOrder)) = slot) ∧
    (∀ x, (s.partOf p).leaf = some x →
      Gives (.getCertificate fn slot) s (s.emit (.certificate fn slot
        { root := s.boot.rootCert, deviceCa := s.boot.deviceCert, dik := s.boot.dikCert, leaf := x }))) ∧
    ∃ t : State, Gives (.keyExchange fn slot) s t ∧ (t.func fn).spdm = true ∧ (t.func fn).spdmId = s.free ∧ t.parts = s.parts ∧
      (t.func fn).spdmReq = some (Config.spdmSecret s.free false) ∧ (t.func fn).spdmRsp = some (Config.spdmSecret s.free true) ∧
      (∀ g, g ≠ fn → t.func g = s.func g)) ∧
  (∀ (fn slot : Nat) (s : State), s.hallFree = true → s.slotPart fn slot = none →
    Gives (.getCertificate fn slot) s (s.emit (.spdm fn .error)) ∧ Gives (.keyExchange fn slot) s (s.emit (.spdm fn .error))) ∧
  (∀ (fn code : Nat) (s : State), s.hallFree = true →
    Gives (.getMeasurements fn) s (s.emit (.spdm fn .unsupportedRequest)) ∧ Gives (.spdmRequest fn code) s (s.emit (.spdm fn .response))) ∧
  (∀ (fn stream : Nat) (key : Option Bytes) (s : State), s.hallFree = true →
    ((s.func fn).spdm = true → 1 ≤ fn → fn ≤ 8 → (stream = fn ∨ stream = 0 ∨ stream = 9) →
      ∃ t : State, Gives (.ideKm fn stream key) s t ∧ (if stream = 9 then t.host.linkIde else (t.func stream).ideKey) = key ∧
        (stream ≠ 9 → t.host.linkIde = s.host.linkIde) ∧ ∀ g, g ≠ stream → t.func g = s.func g) ∧
    (((s.func fn).spdm = false ∨ fn = 0 ∨ 8 < fn ∨ (stream ≠ fn ∧ stream ≠ 0 ∧ stream ≠ 9)) →
      Gives (.ideKm fn stream key) s (s.emit (.spdm fn .error)))) ∧
  (∀ (fn : Nat) (s : State), s.hallFree = true → 1 ≤ fn → fn ≤ 8 → let f := s.func fn
    let active := ∃ p, p < s.partsN ∧ s.fnOf p = fn ∧ (s.partOf p).state = .active
    ((f.spdm = true ∧ f.tdisp ≠ .locked ∧ f.tdisp ≠ .run) → ∃ t : State, Gives (.bounceStart fn) s t ∧ (t.func fn).bounce = true ∧
      (t.func fn).reqKey = f.spdmReq.map (fun x => hkdfExpand x (label "ikf bounce req") 32) ∧
      (t.func fn).rspKey = f.spdmRsp.map (fun x => hkdfExpand x (label "ikf bounce rsp") 32) ∧
      (f.bounceId ≠ some f.spdmId → (t.func fn).cmdSeq = [] ∧ (t.func fn).nonceCtr = 0) ∧
      (f.bounceId = some f.spdmId → (t.func fn).cmdSeq = f.cmdSeq ∧ (t.func fn).nonceCtr = f.nonceCtr) ∧
      (t.func fn).tdisp = f.tdisp ∧ OtherFuncs fn s t) ∧
    ((f.spdm = false ∨ f.tdisp = .locked ∨ f.tdisp = .run) → Gives (.bounceStart fn) s (s.emit (.spdm fn .error))) ∧
    ((f.spdm = true ∧ f.ideKey ≠ none ∧ f.bounce = false ∧ f.tdisp = .unlocked ∧ active) →
      ∃ t : State, Gives (.lockInterfaceRequest fn) s t ∧ t.func fn = { f with tdisp := .locked } ∧ OtherFuncs fn s t ∧ t.parts = s.parts) ∧
    ((f.spdm = false ∨ f.ideKey = none ∨ f.bounce = true ∨ f.tdisp ≠ .unlocked ∨ ¬active) →
      Gives (.lockInterfaceRequest fn) s (s.emit (.spdm fn .tdispError))) ∧
    (f.spdm = true → f.tdisp = .locked → Gives (.startInterfaceRequest fn) s ((s.setFunc fn { f with tdisp := .run }).emit (.spdm fn .response))) ∧
    ((f.spdm = false ∨ f.tdisp ≠ .locked) → Gives (.startInterfaceRequest fn) s (s.emit (.spdm fn .tdispError))) ∧
    (∃ t : State, Gives (.tdispError fn) s t ∧ Failed s t fn ∧ OtherFuncs fn s t ∧ t.parts = s.parts ∧ t.tiles = s.tiles) ∧
    (∃ t : State, Gives (.endSession fn) s t ∧ Failed s t fn ∧ OtherFuncs fn s t ∧ (t.func fn).spdm = false ∧ (t.func fn).bounce = false ∧
      (t.func fn).spdmReq = none ∧ (t.func fn).spdmRsp = none ∧
      (f.bounce = true → (t.func fn).session = false ∧ (t.func fn).reqKey = none ∧ (t.func fn).rspKey = none) ∧ t.parts = s.parts)) ∧
  (∀ (fn slot : Nat) (e : Bytes) (s : State), s.hallFree = true → (s.func fn).bounce = true → let f := s.func fn
    let ring := leAt e 2 2 % 512
    let opened := openEnvelope (f.reqKey.getD []) e
    let commandGood := leAt e 8 8 = mget 0 f.cmdSeq (leAt e 2 2) + 1 ∧ leAt e 0x10 4 = 0 ∧ ∃ p, opened = some p ∧ p.length = 64
    let ends := ∃ t : State, Gives (.envelope fn slot e) s t ∧ (t.func fn).bounce = false ∧ (t.func fn).session = false ∧
      t.stickyBit 114 = true ∧ (∀ r x, mfind t.host.rings r = some x → x.fn = fn → x.sqHead = x.sqTail) ∧ OtherFuncs fn s t ∧
      (leAt e 1 1 = 3 → ∀ r, s.ringBy fn ring = some r → r < 4096 → t.cmdAt r = none)
    (leAt e 1 1 = 1 → commandGood →
      ∃ t : State, Gives (.envelope fn slot e) s t ∧ (t.func fn).bounce = true ∧ mget 0 (t.func fn).cmdSeq ring = leAt e 8 8 ∧
        (memWf f.bar2 = true → memRead (t.func fn).bar2 slot e.length = e) ∧ t.host.rings = s.host.rings ∧ OtherFuncs fn s t) ∧
    (leAt e 1 1 = 1 → ¬commandGood → ends) ∧
    (∀ r k a off n p, leAt e 1 1 = 3 → s.ringBy fn ring = some r → s.cmdAt r = some k → k.fn = fn → s.nextChunk r k = some (a, off, n) →
      opened = some p → p.length = n → leAt e 8 8 = off → leAt e 0x10 4 = mget 0 f.ownSeq (leAt e 2 2) % 4294967296 →
      ∃ t : State, Gives (.envelope fn slot e) s t ∧ (t.func fn).bounce = true ∧
        mget [] (t.func fn).dataIn ring = mget [] f.dataIn ring ++ p ∧ t.host.rings = s.host.rings ∧ OtherFuncs fn s t) ∧
    (leAt e 1 1 = 3 → (∀ r, s.ringBy fn ring = some r → s.cmdAt r = none) → ends) ∧
    (∀ r k, leAt e 1 1 = 3 → s.ringBy fn ring = some r → s.cmdAt r = some k → s.dataChunk r k e = none → ends) ∧
    (leAt e 1 1 ≠ 1 → leAt e 1 1 ≠ 3 → ends)) ∧
  (∀ (instr : Nat) (s : State), s.power.vstby33 = true → s.power.vio18 = true → s.power.vaux18 = true →
    let t := { s with sec := { s.sec with tapInstr := instr } }
    (instr ≠ 1 → instr ≠ 3 → Gives (.boundaryScan instr) s t) ∧
    (instr = 1 → Gives (.boundaryScan instr) s (t.emit (.pins s.pinLevels))) ∧
    (instr = 3 → Gives (.boundaryScan instr) s (t.emit (.tdo s.part.idcode))))

/-- R695 to R721: keys, sessions of SPDM, and the trusted domain. -/
def Obligations.KeysAndTrust : Prop :=
  Claims.KeysAreLoaded ∧ Claims.TrustedDomain

/-- R721, R723, R726: a scrub drains, clears what the partition holds on the dies and in DRAM, and leaves it UNCONFIGURED with its
command completed; an internal-scan instruction is held while a partition is sealed, begins the ZEROISE scrub of every one, and otherwise
takes effect and sets jtag-zeroise. -/
def Obligations.ScrubsClear : Prop :=
  (∀ (s : State) (p : Nat) (x : Scrub), s.hallFree = true → (s.partOf p).scrub = some x → x.phase = .drain →
    ((s.owes p x.start = true ∨ s.anyBatch p (fun _ => true) = true ∨ s.nt < x.start) → Gives (.scrubDrain p) s s) ∧
    (s.owes p x.start = false → s.anyBatch p (fun _ => true) = false → x.start ≤ s.nt →
      Gives (.scrubDrain p) s (s.setPart p { s.partOf p with scrub := some { x with phase := .onDie } }))) ∧
  (∀ (s : State) (p : Nat) (x : Scrub), s.wingsFree = true → s.is4840 = false → p < 8 → (s.partOf p).scrub = some x → x.phase = .onDie →
    Ascending s.tiles → Ascending s.rqs → (∀ q, q < 4 → ∀ r ∈ (s.rq p q).recs, r.selected = false) →
    ∃ t : State, Gives (.scrubOnDie p) s t ∧ (t.partOf p).scrub = some { x with phase := .dram } ∧
      (∀ i ∈ s.partTiles p, t.tile i = {}) ∧ (∀ i, i ∉ s.partTiles p → t.tile i = s.tile i) ∧ (∀ q, q < 4 → t.rq p q = { reads := (s.rq p q).reads }) ∧
      (∀ w, w < 2 → (∀ k ∈ (t.wing w).coalescer, k.partition ≠ p) ∧ ∀ e ∈ (t.wing w).overflow, e.2.partition = p → e.2.valid = false) ∧
      (t.partOf p).rollouts = [] ∧ (∀ r, r ≠ p → t.partOf r = s.partOf r ∧ ∀ q, q < 4 → t.rq r q = s.rq r q)) ∧
  (∀ (s : State) (p : Nat) (x : Scrub) (r : Nat), s.wingsFree = true → p < 16 → (s.partOf p).scrub = some x → x.phase = .dram → x.ring = some r →
    s.sec.jtagHeld = false → (∀ w, w < 2 → Ascending (s.wing w).regions) →
    ∃ u : State, Gives (.scrubDram p) s (u.complete r { status := 0 }) ∧ u.partOf p = {} ∧
      (∀ w, w < s.wings → (u.wing w).region p = []) ∧
      (∀ q, q < 4096 → s.setting 0x4001 q 0 = p → u.setting 0x4001 q 0 = 0xFF ∧ (u.xq q).frames = [] ∧ (u.xq q).open_ = []) ∧
      u.ctr (Ctr.partImageLoads p) = 0 ∧ u.ctr (Ctr.partTokens p) = 0 ∧ u.tiles = s.tiles ∧ (∀ q, q ≠ p → u.partOf q = s.partOf q)) ∧
  (∀ s : State, s.hallFree = true → s.sec.debug = false →
    (s.sealedParts = [] → ∃ t : State, Gives .internalScan s t ∧ t.sec.debug = true ∧ t.sec.jtagHeld = false ∧ t.stickyBit 121 = true) ∧
    (s.sealedParts ≠ [] → ∃ t : State, Gives .internalScan s t ∧ t.sec.debug = false ∧ t.sec.jtagHeld = true ∧
      ∀ p ∈ s.sealedParts, (t.partOf p).state = .scrubbing))

/-! ### The redundant pair (chapter 20) -/

namespace Sys2Proof.Claims

/-- R733, R741: the frame of a new message: the control lane, its tx_nt, later than the lane's frame before it. -/
abbrev nextTx (s : State) : Nat := max s.nt (mget 0 s.pair.lastTx s.controlLane + 1)

/-- R729, R733: the frame of messages that leaves on the control lane next. -/
abbrev nextFrame (s : State) (msgs : List (Nat × PairMsg)) : Output :=
  .pairFrame s.sendKey s.controlLane (s.pairHeader s.controlLane msgs.length (nextTx s)) (pairNonce s.controlLane (nextTx s))
    (msgs.map (fun m => (m.2.header m.1, m.2)))

/-- R730, R731: a member has sent its hello: its chain with a leaf for its link identity key, the ephemeral key and the random that it
drew, and a signature over both. -/
abbrev HelloIn (s : State) (eph : Nat) (rnd : Bytes) (out : List Output) : Prop :=
  ∃ leaf k, leaf.publicKey = publicKey (s.sec.linkKey.getD 0) ∧ leaf.partition = none ∧
    Output.pairHello { root := s.boot.rootCert, deviceCa := s.boot.deviceCert, dik := s.boot.dikCert, leaf := leaf } (publicKey eph) rnd
      (ecdsaSign (s.sec.linkKey.getD 0) k (publicKey eph ++ rnd)) ∈ out

/-- R733, R734, R741: `u` has sent one sequenced message more than `s`, which waits for its acknowledgement. -/
abbrev SentOne (s u : State) (body : PairMsg) : Prop :=
  u.out = s.out ++ [nextFrame s [(s.pair.sentSeq + 1, body)]] ∧ u.pair.sentSeq = s.pair.sentSeq + 1 ∧
  u.pair.unacked = s.pair.unacked ++ [{ seq := s.pair.sentSeq + 1, body := body, firstNt := nextTx s }]

/-- Nothing but the pair's registers and the outputs has changed. -/
abbrev OnlyPair (s u : State) : Prop := u = { s with pair := u.pair, out := u.out }

end Sys2Proof.Claims

/-- R730, R735 to R738, R754, R755, R757 (with log entries 91, 92, 131): the moves between the pair's states and roles. PAIR_SETUP leads to CONNECTING; a
connection sends the member's ephemeral key, derives the two keys, and leads to ACTIVE when it passes every comparison, and to UNPAIRED with the reason when it fails one; 50 µs without a frame lead to ALONE; PAIR_RELEASE and RELEASE lead to
UNPAIRED; roles exchange at their instant; PAIR_STATUS tells of it. -/
abbrev Sys2Proof.Claims.PairStatesMove : Prop :=
  (∀ (c : CmdIn) (b : Bool) (s : State) (cmd : Cmd), Ready 0x0B01 (.pairSetup c b) c s cmd →
    (s.pair.state ≠ .unpaired → Fails (.pairSetup c b) c s 7) ∧
    (s.pair.state = .unpaired → Succeeds (.pairSetup c b) c s
      ({ s with pair := { s.pair with state := .connecting, standby := b, setupFail := 0 } }))) ∧
  (∀ (s : State) (x : PartnerInfo), s.setupFault x = none ↔
    (x.standby ≠ s.pair.standby ∧ x.part = s.part ∧ x.stepping = 0x00B0 ∧ x.regs = s.sec.regs.toList.take 5 ∧
      s.time.state = .locked ∧ x.timeLocked = true ∧ x.originSeconds = s.time.originInForce ∧ x.hashSeed = s.setting 0x0002 0 0 ∧
      (∀ p, p < s.partsN → ∃ y, x.parts[p]? = some y ∧ (s.partOf p).agrees y = true) ∧ x.settings = beNat (sha384 s.settingsText))) ∧
  (∀ (s : State) (mask : Nat) (a : Bool) (x : PartnerInfo), s.hallFree = true → ((s.pair.state = .unpaired ∨ s.pair.state = .active) ∨
      ∀ n, n < 8 → bitOf mask n = false) →
    ∃ t : State, Gives (.banisterConnect mask a x) s t ∧ OnlyPair s t ∧ t.pair.state = s.pair.state ∧
      (∀ n, n ∈ t.pair.lanesUp ↔ n < 8 ∧ bitOf mask n = true) ∧
      (∀ n, n ∈ t.pair.lanesUp → n ∉ s.pair.lanesUp → mget 0 t.pair.frameSeq n = 0 ∧ mget 0 t.pair.rxDiscards n = 0) ∧
      (∀ n, n ∈ s.pair.lanesUp → mget 0 t.pair.frameSeq n = mget 0 s.pair.frameSeq n)) ∧
  (∀ (s : State) (mask : Nat) (x : PartnerInfo), s.hallFree = true → (s.pair.state = .connecting ∨ s.pair.state = .alone) →
    (∃ n, n < 8 ∧ bitOf mask n = true) →
    let eph := p384Key (s.draw 56).1
    let rnd := ((s.draw 56).2.draw 32).1
    let salt := if s.boot.serial < x.serial then rnd ++ x.random else x.random ++ rnd
    let meets := fun (t : State) => HelloIn s eph rnd t.out ∧ (∀ n, n ∈ t.pair.lanesUp ↔ n < 8 ∧ bitOf mask n = true)
    let refused := fun (t : State) => t.stickyBit 96 = true ∧ t.pair.setupFail = 2 ∧ t.pair.state = s.pair.state ∧
      t.pair.keyLoHi = s.pair.keyLoHi ∧ t.pair.ephemeral = some eph ∧ t.pair.random = rnd
    (∃ t : State, Gives (.banisterConnect mask false x) s t ∧ meets t ∧ refused t) ∧
    (ecdh eph x.ephemeral = none → ∃ t : State, Gives (.banisterConnect mask true x) s t ∧ meets t ∧ refused t) ∧
    (∀ z, ecdh eph x.ephemeral = some z →
      (s.setupFault x = none → ∃ t : State, Gives (.banisterConnect mask true x) s t ∧ meets t ∧ t.pair.state = .active ∧
        t.pair.standby = s.pair.standby ∧ t.pair.keyLoHi = some (hkdfExpand (hkdfExtract salt z) (label "ikf banister lo2hi") 32) ∧
        t.pair.keyHiLo = some (hkdfExpand (hkdfExtract salt z) (label "ikf banister hi2lo") 32) ∧ t.pair.setupFail = 0 ∧
        t.pair.partnerSerial = x.serial ∧ t.pair.acceptedSeq = 0 ∧
        (s.pair.standby = true → t.pair.sentSeq = 0 ∧ t.wing0.coalescer = [] ∧ t.wing1.coalescer = []) ∧
        (s.pair.standby = false → ∀ p w, p < s.partsN → w < 2 → (s.partOf p).state = .active → (t.resyncOf p w).isSome = true)) ∧
      (∀ n, s.setupFault x = some n → ∃ t : State, Gives (.banisterConnect mask true x) s t ∧ meets t ∧ t.pair.setupFail = n ∧
        t.pair.state = .unpaired ∧ t.pair.keyLoHi = none ∧ t.pair.keyHiLo = none))) ∧
  (∀ s : State, s.hallFree = true →
    ((s.pair.state ≠ .active ∨ s.nt < s.pair.lastRxNt + 800000) → Gives .partnerLost s s) ∧
    (s.pair.state = .active → s.pair.lastRxNt + 800000 ≤ s.nt →
      ∃ t : State, Gives .partnerLost s t ∧ t.pair.state = .alone ∧ t.stickyBit 97 = true ∧ t.pair.resync = [] ∧ t.pair.standby = s.pair.standby ∧
        t.ctr Ctr.pairPartnerLost = rose (s.ctr Ctr.pairPartnerLost) 1 ∧ t.isStandby = false ∧
        (s.pair.standby = true → s.pair.resync ≠ [] → t.stickyBit 99 = true) ∧ t.pair.decisions = s.pair.decisions)) ∧
  (∀ (c : CmdIn) (s : State) (cmd : Cmd), Ready 0x0B02 (.pairRelease c) c s cmd →
    (s.pair.state = .unpaired → Fails (.pairRelease c) c s 8) ∧
    (s.pair.state ≠ .unpaired → ∃ u : State, Succeeds (.pairRelease c) c s u ∧ u.pair.state = .unpaired ∧ u.pair.resync = [] ∧ u.pair.inbox = [] ∧
      (s.pair.state = .active → nextFrame s [(s.pair.sentSeq + 1, .release)] ∈ u.out))) ∧
  (∀ (s : State) (seq : Nat), s.nextMsg = some (seq, .release) → s.hallFree = true → ∃ t : State, Gives .release s t ∧ t.pair.state = .unpaired ∧ t.pair.resync = []) ∧
  (∀ (s : State) (seq e : Nat), s.nextMsg = some (seq, .role e) → s.hallFree = true →
    (s.isStandby = true → Gives .role s ({ s with pair := { s.pair with inbox := s.pair.inbox.tail, roleAt := some e } })) ∧
    (s.isPrimary = true → e = 0 → s.pair.roleAt = none → s.pair.resync = [] →
      ∃ t : State, Gives .role s t ∧ t.pair.roleAt = some (nextTx s + 320000) ∧ SentOne s t (.role (nextTx s + 320000)))) ∧
  (∀ (s : State) (e : Nat), s.pair.inbox = [] → s.pair.roleAt = some e → s.hallFree = true → s.paired = true →
    (s.nt < e → Gives .role s s) ∧
    (e ≤ s.nt → ∃ t : State, Gives .role s t ∧ t.pair = { s.pair with roleAt := none, standby := !s.pair.standby } ∧
      (s.pair.standby = false → t.wing0.coalescer = [] ∧ t.wing1.coalescer = []))) ∧
  (∀ (c : CmdIn) (s : State) (cmd : Cmd), Ready 0x0B04 (.pairSwitchover c) c s cmd →
    ((s.paired = false ∨ s.pair.resync ≠ []) → Fails (.pairSwitchover c) c s 7) ∧
    (s.isPrimary = true → s.pair.resync = [] → s.pair.roleAt = none → ∃ u : State, Succeeds (.pairSwitchover c) c s u ∧ OnlyPair s u ∧
      u.pair.roleAt = some (nextTx s + 320000) ∧ SentOne s u (.role (nextTx s + 320000))) ∧
    (s.isStandby = true → s.pair.resync = [] → ∃ u : State, Succeeds (.pairSwitchover c) c s u ∧ OnlyPair s u ∧ SentOne s u (.role 0))) ∧
  (∀ (c : CmdIn) (s : State) (cmd : Cmd), Ready 0x0B03 (.pairStatus c) c s cmd → Room c 32 → s.pair.setupFail < 16 → s.pair.lanesUp.Nodup →
    (∀ n ∈ s.pair.lanesUp, n < 8) →
    ∃ r, Replies (.pairStatus c) c s s r ∧ r.length = 32 ∧ leAt r 0 1 % 8 = (match s.pair.state with | .unpaired => 0 | .connecting => 1 | .active => 2 | .alone => 3) ∧
      (bitOf (leAt r 0 1) 3 = s.pair.standby) ∧ leAt r 0 1 / 16 = s.pair.setupFail ∧ (∀ n, n < 8 → (bitOf (leAt r 1 1) n = s.pair.lanesUp.contains n)) ∧
      (∀ p w, p < 8 → w < 2 → (bitOf (leAt r (4 + w) 1) p = (s.resyncOf p w).isSome)) ∧ leAt r 8 8 = s.pair.partnerSerial % 2 ^ 64 ∧
      leAt r 0x10 8 = s.pair.lastInterval % 2 ^ 64 ∧ leAt r 0x18 8 = (if s.pair.standby then s.pair.covered else 0) % 2 ^ 64)

/-- R729, R732 to R734, R742 (Tables 20-1, 20-2): the headers of frames and messages; a frame that is malformed or fails authentication
changes nothing but its counters and its sticky bit; a sequenced message is accepted only when its number is the next one, and one of a
reserved type is discarded; a HEARTBEAT acknowledges; the covered instant follows the control lane's frames; HEARTBEAT and RESEND send
their frames. -/
abbrev Sys2Proof.Claims.PairMessagesFlow : Prop :=
  (∀ (s : State) (lane count tx : Nat), lane < 8 → count < 256 → (s.pairHeader lane count tx).length = 26 ∧
    leAt (s.pairHeader lane count tx) 1 1 = 0x20 ∧ leAt (s.pairHeader lane count tx) 2 2 = mget 0 s.pair.frameSeq lane % 65536 ∧
    leAt (s.pairHeader lane count tx) 4 1 = lane ∧ leAt (s.pairHeader lane count tx) 5 1 = count ∧
    leAt (s.pairHeader lane count tx) 0x0A 2 = mget 0 s.pair.rxSeqs lane % 65536 ∧
    leAt (s.pairHeader lane count tx) 0x0C 2 = mget 0 s.pair.rxDiscards lane % 65536 ∧ leAt (s.pairHeader lane count tx) 0x10 8 = tx % 2 ^ 64) ∧
  (∀ (m : PairMsg) (seq : Nat), m.code < 256 → m.size ≤ 1448 → (m.header seq).length = 8 ∧ leAt (m.header seq) 0 1 = m.code ∧
    leAt (m.header seq) 1 1 = 1 + (m.size + 7) / 8 ∧ leAt (m.header seq) 4 4 = seq % 2 ^ 32) ∧
  (∀ (s : State) (lane : Nat) (h : Bytes) (fcs a : Bool) (msgs : List (Nat × PairMsg)), s.hallFree = true → let i := Instr.banisterFrame lane h fcs a msgs
    let tx := leAt h 0x10 8
    let silent := fun (t : State) => t.pair.inbox = s.pair.inbox ∧ t.pair.acceptedSeq = s.pair.acceptedSeq ∧ t.pair.lastRxNt = s.pair.lastRxNt ∧
      t.pair.covered = s.pair.covered ∧ t.pair.unacked = s.pair.unacked
    let dropped := fun (t : State) => silent t ∧ mget 0 t.pair.rxDiscards lane = min 65535 (mget 0 s.pair.rxDiscards lane + 1)
    ((s.pair.state = .unpaired ∨ s.pair.lanesUp.contains lane = false) → Gives i s s) ∧
    (s.pair.state ≠ .unpaired → s.pair.lanesUp.contains lane = true → mget 0 s.pair.rxDiscards lane < 65536 → Ascending s.pair.rxDiscards →
      ((fcs = false ∨ pairFormatOk lane h msgs.length = false) → ∃ t : State, Gives i s t ∧ OnlyPair s t ∧ dropped t) ∧
      (fcs = true → pairFormatOk lane h msgs.length = true → (a = false ∨ s.pair.keyLoHi = none) →
        ∃ t : State, Gives i s t ∧ t.stickyBit 96 = true ∧ dropped t ∧ t.ctr (Ctr.pairAuthFail lane) = rose (s.ctr (Ctr.pairAuthFail lane)) 1) ∧
      (fcs = true → pairFormatOk lane h msgs.length = true → a = true → s.pair.keyLoHi ≠ none →
        ∃ t : State, Gives i s t ∧ t.ctr (Ctr.pairFramesRx lane) = rose (s.ctr (Ctr.pairFramesRx lane)) 1 ∧
          (Ascending s.pair.rxSeqs → mget 0 t.pair.rxSeqs lane = leAt h 2 2) ∧ t.pair.rxDiscards = s.pair.rxDiscards ∧
          (s.pair.state ≠ .active → silent t) ∧ (s.pair.state = .active → t.pair.lastRxNt = s.nt) ∧
          (∀ n body, s.pair.state = .active → msgs = [(n, body)] → body.sequenced = true →
            (n ≠ s.pair.acceptedSeq + 1 → t.pair.inbox = s.pair.inbox ∧ t.pair.acceptedSeq = s.pair.acceptedSeq) ∧
            (n = s.pair.acceptedSeq + 1 → t.pair.inbox = s.pair.inbox ++ [(n, tx, body)] ∧ t.pair.acceptedSeq = n) ∧
            t.pair.covered = (if lane = s.controlLane ∧ n ≤ t.pair.acceptedSeq then max s.pair.covered (tx + 320000) else s.pair.covered)) ∧
          (∀ n code, s.pair.state = .active → msgs = [(n, .reserved code)] → t.pair.inbox = s.pair.inbox ∧
            t.pair.acceptedSeq = s.pair.acceptedSeq ∧ t.pair.covered = s.pair.covered) ∧
          (∀ sent acc st o0 o1, s.pair.state = .active → msgs = [(0, .heartbeat sent acc st o0 o1)] →
            t.pair.unacked = s.pair.unacked.filter (fun y => decide (acc < y.seq)) ∧ t.pair.inbox = s.pair.inbox ∧
            (Ascending s.pair.partnerLog → mget 0 t.pair.partnerLog 0 = o0 ∧ mget 0 t.pair.partnerLog 1 = o1) ∧
            t.pair.covered = (if lane = s.controlLane ∧ sent ≤ s.pair.acceptedSeq then max s.pair.covered (tx + 320000) else s.pair.covered))))) ∧
  (∀ s : State, s.paired = true → s.hallFree = true →
    ∃ t : State, Gives .heartbeat s t ∧ OnlyPair s t ∧ t.pair.sentSeq = s.pair.sentSeq ∧ t.pair.unacked = s.pair.unacked ∧
      t.out = s.out ++ [nextFrame s [(0, .heartbeat s.pair.sentSeq s.pair.acceptedSeq s.pair.standby (s.liveLog 0).length (s.liveLog 1).length)]]) ∧
  (∀ (s : State) (m : SentMsg) (rest : List SentMsg), s.pair.unacked = m :: rest → s.paired = true → s.hallFree = true →
    (s.nt < m.firstNt + 64000 → Gives .resend s s) ∧
    (m.firstNt + 64000 ≤ s.nt → ∃ t : State, Gives .resend s t ∧
      t.out = s.out ++ [nextFrame s (s.pair.unacked.map (fun y => (y.seq, y.body)))] ∧
      t.pair.unacked.map (fun y => (y.seq, y.body)) = s.pair.unacked.map (fun y => (y.seq, y.body)) ∧ t.pair.sentSeq = s.pair.sentSeq ∧
      t.ctr Ctr.pairResent = rose (s.ctr Ctr.pairResent) s.pair.unacked.length))

/-- R732 to R738, R742, R755, R757: the pair's states, and its messages. -/
def Obligations.PairStatesAndMessages : Prop :=
  Claims.PairStatesMove ∧ Claims.PairMessagesFlow

namespace Sys2Proof.Claims

/-- R741: a decision has joined those that wait, with its occurrence in its Wing's Cellar. -/
abbrev Decided (s u : State) (kind : Nat) (d : Decision) : Prop :=
  u.pair.decisions = s.pair.decisions ++ [d] ∧
  (u.queueOf (blkCellar d.wing)).Perm ({ instant := d.e, kind := kind, key := d.seq, periodic := false } :: s.queueOf (blkCellar d.wing))

/-- R748: how a member of an active pair takes a mirrored command that passes the primary's checks. -/
abbrev MirrorsIn (i : Instr) (op : Nat) (c : CmdIn) (m : State → Cmd → MirrorCmd) : Prop :=
  ∀ (s : State) (cmd : Cmd), Ready op i c s cmd → s.voting = false →
    (s.isStandby = true → Fails i c s 7) ∧
    (s.isPrimary = true → (m s cmd).fault s cmd.fn (some cmd.fetchNt) = none → s.queueFull (blkCellar 0) = true → Fails i c s 1) ∧
    (s.isPrimary = true → (m s cmd).fault s cmd.fn (some cmd.fetchNt) = none → s.queueFull (blkCellar 0) = false →
      ∃ u : State, Gives i s ((u.noteStep c.ring cmd).setCmd c.ring (some { cmd with started := true })) ∧ OnlyPair s u ∧ SentOne s u (.prepare (m s cmd)) ∧
        u.pair.prepared = some { seq := s.pair.sentSeq + 1, cmd := m s cmd, ring := c.ring, sentNt := s.nt })

end Sys2Proof.Claims

/-- R741, R743, R744, R748 (Table 20-4): the standby writes an insertion at once and records a change for its instant; the standby rejects a mirrored command and the
primary prepares it; a vote of ST_OK commits, any other and a timeout end it and change nothing else; a decision takes effect at its instant. -/
def Obligations.PairDecides : Prop :=
  (∀ (s : State) (seq e h : Nat) (data : Bytes), s.nextMsg = some (seq, .insert e h data) → s.unitPending h = false → s.wingFree (hWing h) = true →
    (s.queueOf (blkCellar (hWing h))).length < 1024 →
    ∃ t : State, Gives .insert s t ∧ t.entryAt h = entryOf data ∧ t.pair.inbox = s.pair.inbox.tail ∧
      Decided s t evInsertApply { e := e, seq := seq, wing := hWing h, partition := (entryOf data).partition, body := .insert e h data }) ∧
  (∀ (s : State) (seq e w p : Nat) (u : PairUnit), s.nextMsg = some (seq, .tableChange e w p u) → s.hallFree = true → (s.queueOf (blkCellar w)).length < 1024 →
    ∃ t : State, Gives .tableChange s t ∧ t.pair.inbox = s.pair.inbox.tail ∧ t.wing0 = s.wing0 ∧ t.wing1 = s.wing1 ∧
      Decided s t evTableApply { e := e, seq := seq, wing := w, partition := p, body := .tableChange e w p u }) ∧
  (∀ (s : State) (seq : Nat) (m : MirrorCmd), s.nextMsg = some (seq, .prepare m) → s.hallFree = true → s.paired = true →
    let u : State := { s with pair := { s.pair with inbox := s.pair.inbox.tail } }
    let st := ((m.headFault u).orElse (fun _ => m.fault u 0 none)).getD { status := 0 }
    ∃ t : State, Gives .prepare s t ∧ OnlyPair s t ∧ SentOne s t (.vote seq st.status st.detail) ∧
      t.pair.voted = (if st.status = 0 then [(seq, m)] else s.pair.voted)) ∧
  (∀ (s : State) (n prep status detail : Nat) (k : Prepared), s.nextMsg = some (n, .vote prep status detail) → s.hallFree = true → s.paired = true → s.pair.prepared = some k → k.seq = prep → s.noRoom 0 = false →
    let u : State := { s with pair := { s.pair with inbox := s.pair.inbox.tail, prepared := none } }
    (status ≠ 0 → Gives .vote s (u.complete k.ring { status := status, detail := detail, info := 1 })) ∧
    (status = 0 → (s.queueOf (blkCellar 0)).length < 1024 → ∃ t : State, Gives .vote s (t.complete k.ring { status := 0 }) ∧
      t.pair.prepared = none ∧ nextFrame s [(s.pair.sentSeq + 1, .commit k.seq (nextTx s + 320000))] ∈ t.out ∧
      Decided s t evTableApply { e := nextTx s + 320000, seq := s.pair.sentSeq + 1, wing := 0, partition := 0, body := .prepare k.cmd })) ∧
  (∀ (s : State) (k : Prepared), s.pair.prepared = some k → s.hallFree = true →
    (s.nt < k.sentNt + 16000000 → Gives .voteTimeout s s) ∧
    (k.sentNt + 16000000 ≤ s.nt → Gives .voteTimeout s (({ s with pair := { s.pair with prepared := none } } : State).complete k.ring { status := 6 }))) ∧
  (∀ (s : State) (n prep e : Nat) (m : MirrorCmd), s.nextMsg = some (n, .commit prep e) → s.hallFree = true → mfind s.pair.voted prep = some m → (s.queueOf (blkCellar 0)).length < 1024 →
    ∃ t : State, Gives .commitMessage s t ∧ t.pair.voted = mdel s.pair.voted prep ∧
      Decided s t evTableApply { e := e, seq := n, wing := 0, partition := 0, body := .prepare m }) ∧
  (∀ (s : State) (w : Nat) (o : Occ) (d : Decision), s.duePair w evTableApply = some o → s.decisionOf o = some d →
    lateAt s.nt o.instant = false →
    (∀ t, d.body = .prepare (.bankArm t) → ∃ u : State, Gives (.pairTableApply w) s u ∧ u.hall = { s.hall with armedSwap := some t } ∧
      u.queueOf (blkCellar w) = (s.queueOf (blkCellar w)).tail ∧ d ∉ u.pair.decisions) ∧
    (∀ m, d.body = .prepare m → ∃ u : State, Gives (.pairTableApply w) s (m.apply u d.e true none) ∧ u.queueOf (blkCellar w) = (s.queueOf (blkCellar w)).tail ∧
      u.pair = { s.pair with decisions := s.pair.decisions.filter (fun y => y != d) } ∧ u.hall = s.hall ∧ u.parts = s.parts) ∧
    (∀ e v p i data, d.body = .tableChange e v p (.overflow i data) → v < 2 → i < 32768 → s.paired = true → Ascending s.pair.log →
      let h := ovHandle v i
      ∃ u : State, Gives (.pairTableApply w) s u ∧ (u.entryAt h).valid = (entryOf data).valid ∧
        (∃ l, mget [] u.pair.log v = l ++ [{ e := e, partition := p, former := .overflow i ((s.entryAt h).bytes 0) }]))) ∧
  (∀ (s : State) (w : Nat) (o : Occ) (d : Decision), s.duePair w evInsertApply = some o → s.decisionOf o = some d →
    lateAt s.nt o.instant = false → s.paired = true → Ascending s.pair.sums → Ascending (mget [] s.pair.sums (d.e / 16000000)) →
    ∃ t : State, Gives (.pairInsertApply w) s t ∧ d ∉ t.pair.decisions ∧
      (t.sumsOf (d.e / 16000000))[2 * d.partition + d.wing]? =
        ((s.sumsOf (d.e / 16000000))[2 * d.partition + d.wing]?).map (fun x => (x + d.body.digest) % 2 ^ 64) ∧
      t.ctr Ctr.pairInserts = rose (s.ctr Ctr.pairInserts) (if d.own then 0 else 1)) ∧
  (∀ c : CmdIn, MirrorsIn (.partitionRelease c) 0x0203 c (fun _ cmd => .release cmd.hdr.partition)) ∧
  (∀ (c : CmdIn) (t : Nat), MirrorsIn (.ruleBankArm c t) 0x0209 c (fun _ _ => .bankArm t)) ∧
  (∀ c : CmdIn, MirrorsIn (.epochCancel c) 0x0305 c (fun _ cmd => .epochCancel cmd.hdr.partition)) ∧
  (∀ (c : CmdIn) (n e t : Nat) (r : Bool), MirrorsIn (.epochArm c n r e t) 0x0304 c (fun s cmd =>
    .epochArm cmd.hdr.partition n r e t (match ((s.partOf cmd.hdr.partition).slot n).image with | some img => img.measurement | none => 0)))

/-- R749 to R754 (with log entries 91, 92): sums add modulo 2^64; an interval closes two intervals later, once its packets have committed, and its sums are sent; sums that differ set
the sticky bit and are resynchronised; the primary begins a resynchronisation at Q; requested units leave ahead of the walker, which goes up through the units and sends
each once; the standby takes each image in place of its unit; the end completes the PAIR_RESYNC commands. -/
def Obligations.PairComparesAndResyncs : Prop :=
  (∀ (s : State) (stamp p w d j k : Nat), Ascending s.pair.sums → Ascending (mget [] s.pair.sums (stamp / 16000000)) → w < 2 →
    mget 0 (mget [] (s.addDigest stamp p w d).pair.sums k) j =
      (if k = stamp / 16000000 ∧ j = 2 * p + w then (mget 0 (mget [] s.pair.sums k) j + d) % 2 ^ 64 else mget 0 (mget [] s.pair.sums k) j)) ∧
  (∀ (s : State) (w : Nat), s.wingFree w = true → s.paired = true →
    let k := s.pair.nextClose
    let open_ : Prop := s.nt < (k + 2) * 16000000 ∨ s.uncommitted 0 (fun _ => true) ((k + 1) * 16000000) = true ∨ s.uncommitted 1 (fun _ => true) ((k + 1) * 16000000) = true
    (open_ → Gives (.stateHash w) s s) ∧
    (¬ open_ → Ascending s.pair.ownClosed → Ascending s.pair.sums → ∃ t : State, Gives (.stateHash w) s t ∧ t.pair.nextClose = k + 1 ∧
      nextFrame s [(s.pair.sentSeq + 1, .stateHash k (s.sumsOf k))] ∈ t.out ∧
      (mfind s.pair.partnerSums k = none → t.sticky = s.sticky ∧ mfind t.pair.ownClosed k = some (s.sumsOf k)) ∧
      (∀ b, mfind s.pair.partnerSums k = some b → mfind t.pair.ownClosed k = none ∧ t.pair.lastInterval = max s.pair.lastInterval k ∧
        ((∀ i, i < 16 → s.resyncOf (i / 2) (i % 2) = none → (s.sumsOf k)[i]? = b[i]?) → t.sticky = s.sticky ∧ t.pair.resync = s.pair.resync) ∧
        (∀ i, i < 16 → s.resyncOf (i / 2) (i % 2) = none → (s.sumsOf k)[i]? ≠ b[i]? → t.stickyBit 98 = true ∧
          t.ctr Ctr.pairDivergence = rose (s.ctr Ctr.pairDivergence) 1 ∧
          (s.isPrimary = true → (s.partOf (i / 2)).state = .active → (t.resyncOf (i / 2) (i % 2)).isSome = true))))) ∧
  (∀ (s : State) (n k : Nat) (b a : List Nat), s.nextMsg = some (n, .stateHash k b) → s.hallFree = true → s.paired = true → Ascending s.pair.partnerSums → Ascending s.pair.ownClosed →
    (mfind s.pair.ownClosed k = none → Gives .stateHashMessage s ({ s with pair := { s.pair with inbox := s.pair.inbox.tail, partnerSums := mput s.pair.partnerSums k b } })) ∧
    (mfind s.pair.ownClosed k = some a → ∃ t : State, Gives .stateHashMessage s t ∧ t.pair.lastInterval = max s.pair.lastInterval k ∧
      (∀ i, i < 16 → s.resyncOf (i / 2) (i % 2) = none → a[i]? ≠ b[i]? → t.stickyBit 98 = true))) ∧
  (∀ (s : State) (n p w q : Nat), s.nextMsg = some (n, .resyncBegin p w q) → s.hallFree = true → Ascending s.pair.resync →
    (s.isStandby = true → ∃ t : State, Gives .resyncBegin s t ∧ t.resyncOf p w = some { q := q } ∧ t.pair.inbox = s.pair.inbox.tail) ∧
    (s.isPrimary = true → q = 0 → s.resyncOf p w = none → (s.partOf p).state = .active → ∃ t : State, Gives .resyncBegin s t ∧
      t.resyncOf p w = some { q := nextTx s + 320000 } ∧ SentOne s t (.resyncBegin p w (nextTx s + 320000)))) ∧
  (∀ (s : State) (n p w m : Nat) (d : List (Nat × Nat)) (r : Resync), s.nextMsg = some (n, .resyncData p w (.maxima m d)) → s.wingFree w = true → s.isStandby = true →
    s.resyncOf p w = some r → Ascending s.pair.resync → ∃ t : State, Gives .resyncData s t ∧ mget [] t.hall.maxima (4 * p + m) = d ∧
      (∃ r', t.resyncOf p w = some r' ∧ r'.sent = maximaUnit m :: r.sent ∧ r'.q = r.q) ∧ (p, w, maximaUnit m) ∉ t.pair.requests) ∧
  (∀ (s : State) (n p w i : Nat) (d : Bytes) (r : Resync), s.nextMsg = some (n, .resyncData p w (.overflow i d)) → w < 2 → i < 32768 → s.wingFree w = true → s.isStandby = true →
    s.resyncOf p w = some r → Ascending s.pair.resync → ∃ t : State, Gives .resyncData s t ∧ t.entryAt (ovHandle w i) = entryOf d ∧
      (∃ r', t.resyncOf p w = some r' ∧ r'.sent = overflowUnit i :: r.sent)) ∧
  (∀ (s : State) (n p w u : Nat), s.nextMsg = some (n, .blockRequest p w u) → s.hallFree = true → s.isPrimary = true → (s.resyncOf p w).isSome = true →
    ∃ t : State, Gives .blockRequest s t ∧ t.pair.requests = s.pair.requests ++ [(p, w, u)] ∧ t.ctr Ctr.pairBlockRequests = rose (s.ctr Ctr.pairBlockRequests) 1) ∧
  (∀ (s : State) (p w u : Nat) (rest : List (Nat × Nat × Nat)) (r : Resync), s.pair.inbox = [] → s.isPrimary = true → s.pair.requests = (p, w, u) :: rest →
    s.resyncOf p w = some r → s.wingFree w = true → s.quiescedBefore p w r = true →
    let img := ((r.saved.find? (fun e => e.1 == u)).map (·.2)).getD (s.unitImage w p u)
    ∃ t : State, Gives .blockRequest s t ∧ t.pair.requests = rest ∧
      (u ∉ r.sent → t.out = s.out ++ [nextFrame s [(0, .resyncData p w img)]]) ∧
      (u ∈ r.sent → t.out = s.out)) ∧
  (∀ (s : State) (p w : Nat) (r : Resync), s.resyncOf p w = some r → s.isPrimary = true → s.wingFree w = true → Ascending s.pair.resync →
    let asked := s.pair.requests.any (fun k => k.1 == p && k.2.1 == w)
    let quiet := s.quiescedBefore p w r
    ((∀ e ∈ r.saved, quiet = false ∧ imageFinal e.1 = false) → (asked = true ∨ quiet = false) → Gives (.resyncWalker w p) s s) ∧
    (∀ e rest, r.saved = e :: rest → (quiet = true ∨ imageFinal e.1 = true) → e.1 ∉ r.sent → e.2.number = e.1 →
      ∃ t : State, Gives (.resyncWalker w p) s t ∧ t.out = s.out ++ [nextFrame s [(0, .resyncData p w e.2)]] ∧
        ∃ r', t.resyncOf p w = some r' ∧ r'.next = r.next ∧ e.1 ∈ r'.sent ∧ ∀ x ∈ r'.saved, x.1 ≠ e.1) ∧
    (r.saved = [] → asked = false → quiet = true → r.next < (s.partOf p).unitCount →
      ∃ t : State, Gives (.resyncWalker w p) s t ∧ (∃ r', t.resyncOf p w = some r' ∧ r'.next = r.next + 1 ∧
        ∀ u, s.unitAt p w r.next = some u → (s.unitImage w p u).number = u → u ∈ r'.sent ∧ (u ∉ r.sent →
          t.out = s.out ++ [nextFrame s [(0, .resyncData p w (s.unitImage w p u))]])))) ∧
  (∀ (s : State) (p w stamp : Nat) (u : PairUnit) (r : Resync), s.resyncOf p w = some r → s.isPrimary = true → Ascending s.pair.resync →
    (s.saveImage p w stamp u).resyncOf p w =
      some (if r.q ≤ stamp ∧ u.number ∉ r.sent ∧ (∀ e ∈ r.saved, e.1 ≠ u.number) then { r with saved := r.saved ++ [(u.number, u)] } else r)) ∧
  (∀ (s : State) (p w : Nat) (r : Resync), s.pair.inbox = [] → s.resyncOf p w = some r → s.isPrimary = true → s.hallFree = true → (s.partOf p).unitCount ≤ r.next →
    r.saved = [] → Ascending s.pair.resync → s.pair.waitRings = [] →
    ∃ t : State, Gives (.resyncEnd w p) s t ∧ t.resyncOf p w = none ∧ SentOne s t (.resyncEnd p w r.sentCount)) ∧
  (∀ (s : State) (n p w u x y : Nat), s.nextMsg = some (n, .resyncEnd p w u) → s.hallFree = true → Ascending s.pair.resync →
    ∃ t : State, Gives (.resyncEnd x y) s t ∧ t.resyncOf p w = none ∧ (∀ k, k ∈ s.pair.awaited → k ≠ 16 * w + p → t.pair.waitRings = s.pair.waitRings) ∧
      ((∀ k ∈ s.pair.awaited, k = 16 * w + p) → t.pair.waitRings = [] ∧ ∀ ring, s.pair.waitRings = [ring] → 4096 ≤ ring ∨ t.cmdAt ring = none)) ∧
  (∀ (c : CmdIn) (s : State) (cmd : Cmd), Ready 0x0B05 (.pairResync c) c s cmd →
    (s.isStandby = false → Fails (.pairResync c) c s 7) ∧
    (s.isStandby = true → (∀ p, p < s.partsN → (s.partOf p).state ≠ .active) → Succeeds (.pairResync c) c s s) ∧
    (s.isStandby = true → (∃ p, p < s.partsN ∧ (s.partOf p).state = .active) → ∃ u : State, Gives (.pairResync c) s (u.setCmd c.ring (some { cmd with started := true })) ∧
      u.pair.waitRings = s.pair.waitRings ++ [c.ring] ∧ ∀ p w, p < s.partsN → (s.partOf p).state = .active → w < 2 → 16 * w + p ∈ u.pair.awaited))

/-! ### Counters, snapshots and traces (chapter 21) -/

namespace Sys2Proof.Claims

/-- A snapshot is taken up: it is pending at its instant, and every block's queue holds an occurrence for it (R771); those of periodic
snapshots are occurrences of one periodic event (R549). -/
abbrev Pending (s u : State) (x : Snap) : Prop :=
  u.obs.snaps = s.obs.snaps ++ [x] ∧ x.number = s.obs.snapNumber ∧ x.left = s.blocks ∧
  ∀ b ∈ s.blocks, (u.queueOf b).Perm ({ instant := x.instant, kind := 9, key := (if x.ring.isSome then x.number + 1 else 0), periodic := x.ring.isNone } :: s.queueOf b)

end Sys2Proof.Claims

/-- R604, R605, R694, R759, R768, R771 to R776 (with log entries 29, 30): counters saturate; COUNTER_READ returns the named identifiers, 0 for those that name no counter, and the sums of the parts that the Hall, the Wings and the contexts keep; SNAPSHOT is
pending in every block's event queue and, with 16 pending, answers ST_BUSY; each block copies the counters that it keeps when its
occurrence is due, and the last copy ends the snapshot; a periodic one reaches every function's hidden buffers; a swap makes the oldest hidden
snapshot the window. -/
abbrev Sys2Proof.Claims.CountersAndSnapshots : Prop :=
  (∀ (s : State) (id n j : Nat), s.ctr id ≤ max64 → (s.bumpN id n).ctr id = min max64 (s.ctr id + n) ∧
    (j ≠ id → (s.bumpN id n).ctr j = s.ctr j)) ∧
  (∀ (c : CmdIn) (first count : Nat) (s : State) (cmd : Cmd), Ready 0x0701 (.counterRead c first count) c s cmd → 1 ≤ count → count ≤ 65536 →
    Room c (8 * count) →
    let ids := (List.range count).map (fun k => first + k)
    let fn := if cmd.fn < 9 then cmd.fn else 0
    ((∀ i ∈ ids, s.ctrExists i = true → s.groupOf fn (ctrGroup i) (ctrInst i) = true) →
      Gives (.counterRead c first count) s (s.complete c.ring
        { status := 0, info := (ids.filter s.ctrExists).length, reply := ids.flatMap (fun i => leBytes 8 (s.readCtr fn i)) })) ∧
    (∀ i ∈ ids, s.ctrExists i = true → s.groupOf fn (ctrGroup i) (ctrInst i) = false → Fails (.counterRead c first count) c s 4)) ∧
  (∀ (s : State) (fn id : Nat),
    (s.ctrExists id = false → s.readCtr fn id = 0) ∧
    (s.ctrExists id = true → ctrGroup id = 8 → s.readCtr fn id = min max64 (s.ctr id + s.ctr (ctrOnWing 0 id) + s.ctr (ctrOnWing 1 id))) ∧
    (s.ctrExists id = true → ctrGroup id ≠ 8 → ctrGroup id ≠ 9 → (ctrGroup id ≠ 12 ∨ s.is4840 = false) → s.readCtr fn id = min max64 (s.ctr id)) ∧
    (∀ p, s.ctrExists id = true → s.is4840 = true → ctrGroup id = 12 → fn ≠ 0 → s.partsOf fn = [p] →
      s.readCtr fn id = min max64 (s.ctr (ctrOfContext p id))) ∧
    (∀ q x, s.ctrExists (Ctr.rqWaiting q) = true → q < 4 * s.partsN → mfind s.rqs q = some x → s.readCtr fn (Ctr.rqWaiting q) = x.waiting)) ∧
  (∀ (c : CmdIn) (s : State) (cmd : Cmd), Ready 0x0702 (.snapshot c false 0 0 0) c s cmd → bitOf ((s.enabledOf cmd.fn).getD 0) 6 = true →
    let fn := if cmd.fn < 9 then cmd.fn else 0
    (16 ≤ (s.obs.snaps.filter (fun x => x.ring.isSome)).length → Fails (.snapshot c false 0 0 0) c s 1) ∧
    ((s.obs.snaps.filter (fun x => x.ring.isSome)).length < 16 → (∀ b ∈ s.blocks, s.queueFull b = false) →
      ∃ u : State, Gives (.snapshot c false 0 0 0) s (u.setCmd c.ring (some { cmd with started := true })) ∧
        Pending s u { number := s.obs.snapNumber, ring := some c.ring, fn := fn, toHost := false, hostAddr := 0, instant := s.time.tick.nt, groups := s.shotGroups fn, left := s.blocks, copied := [], lastCopy := 0, late := false })) ∧
  (∀ (s : State) (b : Nat) (o : Occ) (x : Snap), s.dueOcc b = some o → o.kind = 9 → lateAt s.nt o.instant = false →
    s.earlierStarted o = true → s.snapOf o = some x → Ascending s.counters → Ascending x.copied → (s.queueOf b).length ≤ 1024 →
    ((o.periodic = true ∨ ∃ d ∈ x.left, d ≠ b) → ∃ (t : State) (y : Snap), Gives (.snapshotCopy b) s t ∧ y ∈ t.obs.snaps ∧ y.number = x.number ∧
      y.left = x.left.filter (fun d => d != b) ∧ y.instant = x.instant ∧ y.late = x.late ∧
      (o.periodic = false → t.queueOf b = (s.queueOf b).tail) ∧
      (o.periodic = true → (t.queueOf b).Perm ({ o with instant := s.nextPeriodic o.instant } :: (s.queueOf b).tail)) ∧
      t.counters = s.counters ∧
      (∀ id v, mfind s.counters id = some v → ctrBlock id = b → (∀ q, id ≠ Ctr.rqWaiting q) → mget 0 y.copied id = v) ∧
      (∀ q z, Ascending s.rqs → mfind s.rqs q = some z → ctrBlock (Ctr.rqWaiting q) = b → mget 0 y.copied (Ctr.rqWaiting q) = z.waiting) ∧
      (∀ id, ctrBlock id ≠ b → mget 0 y.copied id = mget 0 x.copied id)) ∧
    (∀ r, x.ring = some r → (∀ d ∈ x.left, d = b) → x.toHost = true → r < 4096 → (∃ cmd, s.cmdAt r = some cmd) →
      ∃ t : State, Gives (.snapshotCopy b) s t ∧ (∀ y ∈ t.obs.snaps, y.number ≠ x.number) ∧ t.cmdAt r = none ∧
        ((s.func x.fn).bounce = false → ∃ bytes, onStream (s.func x.fn) x.fn (.hostWrite x.fn x.hostAddr bytes) ∈ t.out) ∧
        ((s.func x.fn).bounce = true → ∃ bytes, onStream (s.func x.fn) x.fn (.envelope x.fn x.hostAddr bytes) ∈ t.out)) ∧
    (s.earlierStarted o = false → Gives (.snapshotCopy b) s s)) ∧
  (∀ s : State, s.hallFree = true → s.time.state ≠ .unset → s.time.stopped = false → 1 ≤ s.setting 0x0004 0 0 →
    ((∀ x ∈ s.obs.snaps, x.ring ≠ none) → (∀ b ∈ s.blocks, s.queueFull b = false) → ∃ (t : State) (x : Snap), Gives .periodicSnapshot s t ∧ Pending s t x ∧
      x.ring = none ∧ s.nt < x.instant ∧ x.instant ≤ s.nt + s.setting 0x0004 0 0 * 16000000 ∧
      x.instant % (s.setting 0x0004 0 0 * 16000000) = 0) ∧
    (∀ x, s.obs.snaps.find? (fun y => y.ring.isNone) = some x → x.left = [] →
      ∃ t : State, Gives .periodicSnapshot s t ∧ ∀ fn, fn ≤ 8 → ∃ h : Shot, (t.func fn).hidden = (s.func fn).hidden ++ [h] ∧
        h.ring = none ∧ h.instant = x.instant)) ∧
  (∀ (s : State) (fn : Nat) (h : Shot) (rest : List Shot), s.hallFree = true → (s.func fn).hidden = h :: rest →
    let f := s.func fn
    let g : Func := { f with hidden := rest, window := h.data, snapSeq := (f.snapSeq + 1) % 4294967296, snapNt := h.instant }
    (h.ring = none → Gives (.snapshotWindowSwap fn) s (s.setFunc fn g)) ∧
    (∀ r, h.ring = some r → Gives (.snapshotWindowSwap fn) s ((s.setFunc fn g).complete r { status := 0 })))

namespace Sys2Proof.Claims

/-- No trace buffer of another number changes. -/
abbrev OtherBufs (bs : List Nat) (s t : State) : Prop := ∀ d, d ∉ bs → t.buf d = s.buf d

end Sys2Proof.Claims

/-- R780 to R782, R784, R785, R788 (with log entries 226, 227): TRACE_CONFIG arms the buffers that its selector names and TRACE_RELEASE frees frozen ones, with ST_NOT_FOUND when none is;
a buffer takes queued records in the order of NT and engine code, one in a cycle, overwrites its oldest when it is circular and full, takes a
GAP in the place of lost records, freezes after a trigger's records, and takes nothing while it is disabled or frozen; a record that finds
no room in its FIFO is lost and counted. -/
abbrev Sys2Proof.Claims.TracesRecord : Prop :=
  (∀ (c : CmdIn) (sel mask post th : Nat) (on : Bool) (s : State) (cmd : Cmd), Ready 0x0703 (.traceConfig c sel on mask post th) c s cmd → selBad s c sel = false → mask < 128 →
    post < (if sel % 16 = 3 then 512 else bufCap (selectorBuf sel)) →
    (traceDenied s cmd sel = true → Fails (.traceConfig c sel on mask post th) c s 4) ∧
    (traceDenied s cmd sel = false → ∃ u : State, Succeeds (.traceConfig c sel on mask post th) c s u ∧
      (∀ b ∈ s.selected sel cmd.hdr.partition, u.buf b = { s.buf b with enable := on, triggerMask := mask, postRecords := post, stallThreshold := th, postLeft := none }) ∧
      OtherBufs (s.selected sel cmd.hdr.partition) s u ∧ u.tiles = s.tiles ∧ u.parts = s.parts)) ∧
  (∀ (c : CmdIn) (sel : Nat) (s : State) (cmd : Cmd), Ready 0x0704 (.traceRelease c sel) c s cmd → selBad s c sel = false → traceDenied s cmd sel = false →
    ((∀ b ∈ s.selected sel cmd.hdr.partition, (s.buf b).frozen = false) → Fails (.traceRelease c sel) c s 8) ∧
    ((∃ b ∈ s.selected sel cmd.hdr.partition, (s.buf b).frozen = true) → ∃ u : State, Succeeds (.traceRelease c sel) c s u ∧
      (∀ b ∈ s.selected sel cmd.hdr.partition, (u.buf b).frozen = false ∧ (u.buf b).recs = (s.buf b).recs) ∧
      OtherBufs (s.selected sel cmd.hdr.partition) s u)) ∧
  (∀ (s : State) (b : Nat), s.bufFree b = true → s.drainRing b = none → let x := s.buf b
    let kept := if x.recs.length < bufCap b then x.recs else x.recs.tail
    let gap := eventRec 9 0 x.lostNt x.lostRun x.lostNt
    ((x.enable = false ∨ x.frozen = true ∨ x.wroteNt = some s.nt) → Gives (.traceRecord b) s s) ∧
    (∀ r rest, x.enable = true → x.frozen = false → x.wroteNt ≠ some s.nt → r.kind ≠ 3 →
      (if 0 < x.lostRun ∧ x.fifo.length < 9 then insertRec gap x.fifo else x.fifo) = r :: rest →
      ∃ t : State, Gives (.traceRecord b) s t ∧ OtherBufs [b] s t ∧ (t.buf b).recs = kept ++ [r] ∧ (t.buf b).fifo = rest ∧
        (t.buf b).wroteNt = some s.nt ∧ ((t.buf b).lostRun = if x.fifo.length < 9 then 0 else x.lostRun) ∧
        t.ctr (bufCtr b 0) = rose (s.ctr (bufCtr b 0)) 1 ∧
        (x.postLeft = none → r.kind ≠ 8 → (t.buf b).frozen = false) ∧
        (x.postLeft = none → r.kind = 8 → x.postRecords = 0 → (t.buf b).frozen = true) ∧
        (x.postLeft = none → r.kind = 8 → 1 ≤ x.postRecords → (t.buf b).frozen = false ∧ (t.buf b).postLeft = some x.postRecords) ∧
        (∀ n, x.postLeft = some n → 2 ≤ n → (t.buf b).frozen = false ∧ (t.buf b).postLeft = some (n - 1)) ∧
        (x.postLeft = some 1 → (t.buf b).frozen = true)) ∧
    gap.kind = 9 ∧ gap.arg0 = x.lostRun ∧ gap.arg1 = x.lostNt ∧ gap.nt = x.lostNt) ∧
  (∀ (r : TraceRec) (l : List TraceRec),
    let upTo := fun (x y : TraceRec) => x.nt < y.nt ∨ (x.nt = y.nt ∧ x.engine ≤ y.engine)
    (insertRec r l).Perm (r :: l) ∧ (l.Pairwise upTo → (insertRec r l).Pairwise upTo)) ∧
  (∀ (s : State) (b engine reason context layer op batch : Nat), s.hallFree = true → let x := s.buf b
    let own := if 16 ≤ b ∧ engine ≤ 10 then s.tileWait (b - 16) engine else none
    let r : TraceRec := { kind := 3, engine := engine, context := context, reason := (own.map (fun y => y.reason)).getD reason, layer := layer, op := op, nt := s.nt, arg0 := x.stallThreshold, arg1 := (own.map (fun y => y.batch)).getD batch }
    ((x.stallThreshold = 0 ∨ x.enable = false ∨ x.frozen = true) → Gives (.stallRecord b engine reason context layer op batch) s s) ∧
    (x.stallThreshold ≠ 0 → x.enable = true → x.frozen = false →
      ∃ t : State, Gives (.stallRecord b engine reason context layer op batch) s t ∧ OtherBufs [b] s t ∧
        (x.lostRun = 0 → x.fifo.length < x.room s.nt → (t.buf b).fifo = insertRec r x.fifo ∧ (t.buf b).lostRun = 0) ∧
        (0 < x.lostRun → x.fifo.length + 1 < x.room s.nt →
          (t.buf b).fifo = insertRec r (insertRec (eventRec 9 0 x.lostNt x.lostRun x.lostNt) x.fifo) ∧ (t.buf b).lostRun = 0) ∧
        (x.room s.nt ≤ x.fifo.length → (t.buf b).fifo = x.fifo ∧ (t.buf b).lostRun = x.lostRun + 1 ∧
          t.ctr (bufCtr b 1) = rose (s.ctr (bufCtr b 1)) 1)))

/-- R759 to R787: counters, snapshots and trace buffers. -/
def Obligations.CountersAndTraces : Prop :=
  Claims.CountersAndSnapshots ∧ Claims.TracesRecord

/-! ### Hangs, the wait-for graph and dumps (chapters 21, 22) -/

/-- R795 to R798: DUMP_TAKE with scope LAST copies the stored dump and marks it copied, or answers ST_NOT_FOUND; the other scopes
take a fresh dump of their blocks at the start; a short buffer changes nothing; DUMP_STATUS tells of the stored dump. The bytes of a dump
carry its header, one directory entry for each section, and each section's records where the directory says. -/
abbrev Sys2Proof.Claims.DumpsAreTaken : Prop :=
  (∀ (c : CmdIn) (scope hostAddr length : Nat) (ws : List Wait) (s : State) (cmd : Cmd),
    Ready 0x0F01 (.dumpTake c scope hostAddr length ws) c s cmd →
    let fn := if cmd.fn < 9 then cmd.fn else 0
    (scope = 0 → s.obs.dump = none → Fails (.dumpTake c 0 hostAddr length ws) c s 8) ∧
    (∀ d, scope = 0 → s.obs.dump = some d →
      (length < d.length → Gives (.dumpTake c 0 hostAddr length ws) s (s.complete c.ring { status := 2, detail := d.length })) ∧
      (d.length ≤ length → Succeeds (.dumpTake c 0 hostAddr length ws) c s
        (({ s with obs := { s.obs with dumpCopied := true } }).hostOut fn (s.localOf c.ring) hostAddr d.bytes))) ∧
    (1 ≤ scope → scope ≤ 2 + s.wings →
      ∃ d : Dump, d.scope = scope ∧ d.automatic = false ∧ d.nt = s.nt ∧
        d.sections.map (fun x => (x.kind, x.recordBytes)) =
          [(1, 32)] ++ (if scope = 2 then [] else [(2, 32), (3, 64)]) ++ [(4, 16)] ++ (if scope ≤ 2 then [(5, 32), (6, 20)] else []) ∧
        (∀ w, w < s.wings → (scope = 1 ∨ scope = 3 + w) → ∀ y ∈ (s.wing w).stairs, ∃ x ∈ d.sections, x.kind = 2 ∧
          ∃ r ∈ x.records, (r.take 2 = leBytes 2 (y.index + (if (y.pred.bind (fun id => (s.wing w).stairOf id)).isSome then 32768 else 0)))) ∧
        (length < d.length → Gives (.dumpTake c scope hostAddr length ws) s (s.complete c.ring { status := 2, detail := d.length })) ∧
        (d.length ≤ length → ∃ u : State, Succeeds (.dumpTake c scope hostAddr length ws) c s u ∧
          ((s.func fn).bounce = false → u.out = s.out ++ [onStream (s.func fn) fn (.hostWrite fn hostAddr d.bytes)]) ∧
          ((s.func fn).bounce = true → ∃ es, u.out = s.out ++ es ∧ es.length = (d.bytes.length + 4095) / 4096 ∧
            ∀ e ∈ es, ∃ a bytes, e = onStream (s.func fn) fn (.envelope fn a bytes)) ∧ u.obs.dump = s.obs.dump ∧ u.tiles = s.tiles ∧ u.hall = s.hall ∧
          u.ctr Ctr.hallDumps = rose (s.ctr Ctr.hallDumps) 1))) ∧
  (∀ (c : CmdIn) (s : State) (cmd : Cmd), Ready 0x0F02 (.dumpStatus c) c s cmd → Room c 16 →
    Replies (.dumpStatus c) c s s
      (leBytes 4 (match s.obs.dump with | none => 0 | some _ => if s.obs.dumpCopied then 3 else 1) ++ leBytes 4 (s.ctr Ctr.hallDumpsLost) ++
        leBytes 8 (match s.obs.dump with | none => 0 | some d => d.nt))) ∧
  (∀ d : Dump, (∀ x ∈ d.sections, ∀ r ∈ x.records, r.length = x.recordBytes) → d.length < 2 ^ 64 → d.scope < 256 → d.nt < 2 ^ 64 →
    d.bytes.length = d.length ∧ d.bytes.take 4 = [0x44, 0x55, 0x4D, 0x50] ∧ leNat ((d.bytes.drop 4).take 2) = 1 ∧
    leNat ((d.bytes.drop 6).take 1) = d.scope ∧ leNat ((d.bytes.drop 8).take 4) = d.sections.length % 2 ^ 32 ∧
    leNat ((d.bytes.drop 16).take 8) = d.nt ∧ leNat ((d.bytes.drop 24).take 8) = d.bytes.length ∧
    ∀ k x, d.sections[k]? = some x →
      let entry := (d.bytes.drop (32 + 16 * k)).take 16
      leNat (entry.take 1) = x.kind % 256 ∧ leNat ((entry.drop 2).take 2) = x.recordBytes % 65536 ∧
      leNat ((entry.drop 4).take 4) = x.records.length % 2 ^ 32 ∧
      (d.bytes.drop (leNat (entry.drop 8))).take (x.recordBytes * x.records.length) = x.records.flatten)

namespace Sys2Proof.Claims

/-- R793: an elementary cycle, from its lowest node. -/
abbrev ElementaryCycle (edges : List (Nat × Nat)) (c : List Nat) : Prop :=
  c ≠ [] ∧ c.Nodup ∧ (∀ k, k < c.length → ((c.drop k).headD 0, (c.drop ((k + 1) % c.length)).headD 0) ∈ edges) ∧ ∀ x ∈ c, c.headD 0 ≤ x

/-- R793: an edge of the wait-for graph of `s` leads from node `m` to node `n`. -/
abbrev WaitsFor (s : State) (m n : Nat) : Prop :=
  ((s.waitOf m).reason ≠ 0 ∧ n = (s.waitOf m).target) ∨
  (nodeKind m = 5 ∧ ∃ e, e < 11 ∧ n = nodeId 3 (nodeInst m) e ∧
    ∃ q ∈ (s.tile (nodeInst m)).engineWords e, q.word.sigEn = 1 ∧ q.word.sigTok = nodeSub m) ∨
  (nodeKind m = 5 ∧ ∃ j ∈ s.tiles.map (·.1), n = nodeId 3 j 0 ∧ s.syncLater j (nodeInst m) (nodeSub m) = true)

end Sys2Proof.Claims

/-- R793 (with the node set of log entry 31): the graph's nodes are numbered in ascending order, without a repeat, and hold every waiting node, every node that
one names and every node that an edge of these names; its edges are those of the rule between its nodes; every cycle that it reports is an elementary cycle from its lowest
node, and while fewer than 4,096 are reported every elementary cycle is. -/
def Obligations.WaitGraphIsExact : Prop :=
  ∀ s : State,
    let g := s.buildGraph
    g.nt = s.nt ∧ g.nodes.Pairwise (fun x y => x.1 < y.1) ∧ (∀ e ∈ g.nodes, e.2 = s.waitOf e.1) ∧
    (g.nodes.length < 131072 → ∀ e ∈ s.obs.waiting, (∃ x ∈ g.nodes, x.1 = e.1) ∧ (∃ x ∈ g.nodes, x.1 = e.2.target) ∧
      ∀ n, (WaitsFor s e.1 n ∨ WaitsFor s e.2.target n) → ∃ x ∈ g.nodes, x.1 = n) ∧
    (∀ i j, (i, j) ∈ g.edges ↔ ∃ x y, g.nodes[i]? = some x ∧ g.nodes[j]? = some y ∧ WaitsFor s x.1 y.1) ∧
    (∀ c ∈ g.cycles, ElementaryCycle g.edges c) ∧
    (g.cycles.length < 4096 → ∀ c, ElementaryCycle g.edges c → c ∈ g.cycles)

/-- R791, R792, R794, R796, R814 (with log entry 31): an engine or entry that waits for the host or for an instant is not hung; the first hang of an interval sets
the sticky bit, builds the graph and takes the automatic dump, unless a stored one has not been copied; a later one within the interval only counts; then
each hung engine's batches are aborted or its Wing recovers; WAITFOR_READ returns the graph. -/
abbrev Sys2Proof.Claims.HangsAreHandled : Prop :=
  (∀ (hung : List Nat) (ws : List Wait) (s : State), s.hallFree = true → (∀ n ∈ hung, n < 2 ^ 32) →
    let t := s.sampleWaits ws
    let hs := hung.filter (fun n => (t.waitOf n).reason != 0x39 && (t.waitOf n).reason != 0x3B)
    (hs = [] → Gives (.hang hung ws) s s) ∧
    (hs ≠ [] → (∀ n ∈ hs, nodeKind n = 1) → ∃ u : State, Gives (.hang hung ws) s u ∧
      u.ctr Ctr.hallHangs = rose (s.ctr Ctr.hallHangs) hs.length ∧ u.obs.waiting = t.obs.waiting ∧ u.tiles = s.tiles ∧ u.hall = s.hall ∧
      ((∃ l, s.obs.lastHangNt = some l ∧ s.nt < l + 16000000) →
        u.obs.graph = s.obs.graph ∧ u.obs.dump = s.obs.dump ∧ u.obs.lastHangNt = s.obs.lastHangNt ∧ u.sticky = s.sticky) ∧
      ((∀ l, s.obs.lastHangNt = some l → l + 16000000 ≤ s.nt) →
        u.stickyBit 192 = true ∧ u.obs.lastHangNt = some s.nt ∧ (∃ g, u.obs.graph = some g ∧ g.nt = s.nt) ∧
        (s.obs.dump = none ∨ s.obs.dumpCopied = true → u.obs.dumpCopied = false ∧
          ∃ d : Dump, u.obs.dump = some d ∧ d.automatic = true ∧ d.scope = 1 ∧ d.nt = s.nt) ∧
        (s.obs.dump ≠ none → s.obs.dumpCopied = false → u.obs.dump = s.obs.dump ∧
          u.ctr Ctr.hallDumpsLost = rose (s.ctr Ctr.hallDumpsLost) 1)))) ∧
  (∀ (n w id : Nat) (e : Nat) (ws : List Wait) (s : State) (b : Batch), s.hallFree = true →
    let t := s.sampleWaits ws
    (t.waitOf n).reason ≠ 0x39 → (t.waitOf n).reason ≠ 0x3B → n = nodeId 3 (512 * w) e → w < 2 → e < 11 → s.batchOf id = some b → b.aborted = false →
    b.faults < 7 → (((s.tile (512 * w)).engineWords e).map (·.batch) = [id] ∧ e ≠ 0) →
    ∃ u : State, Gives (.hang [n] ws) s u ∧ ∃ d : Batch, u.batchOf id = some d ∧ d.aborted = true ∧
      d.faults = (if 2 ≤ b.issues then b.faults + 1 else b.faults)) ∧
  (∀ (n w sub : Nat) (ws : List Wait) (s : State), s.hallFree = true → w < s.wings → n = nodeId 2 w sub →
    (((s.sampleWaits ws).waitOf n).reason ≠ 0x39 ∧ ((s.sampleWaits ws).waitOf n).reason ≠ 0x3B) →
    ∃ u : State, Gives (.hang [n] ws) s u ∧ w ∈ u.time.wingStopped) ∧
  (∀ (c : CmdIn) (s : State) (cmd : Cmd), Ready 0x0F03 (.waitforRead c) c s cmd →
    (s.obs.graph = none → Fails (.waitforRead c) c s 8) ∧
    (∀ g, s.obs.graph = some g → Room c g.bytes.length → Replies (.waitforRead c) c s s g.bytes))

/-- R789 to R799, R814: dumps, hangs and what follows them. -/
def Obligations.DumpsAndHangs : Prop :=
  Claims.DumpsAreTaken ∧ Claims.HangsAreHandled

/-! ### Health (chapter 22) -/

/-- R603, R805, R807, R808: an event sets its sticky bit and no other; FAULT_N follows the bits of its column; a newly set bit
signals vector 0 of the PF and, where visible, of every VF; STICKY_CLEAR clears the written ones; STICKY_READ returns the bits, and to a VF the
visible ones. -/
def Obligations.StickyBits : Prop :=
  (∀ (s : State) (n m : Nat), n < 256 → m < 256 →
    let t := s.setSticky n
    t.stickyBit m = (s.stickyBit m || m == n) ∧
    (s.stickyBit n = true → t = s) ∧
    (s.stickyBit n = false → (t.power.faultN = true ↔ ∃ k, k < 256 ∧ stickyFaultN k = true ∧ (s.stickyBit k = true ∨ k = n)) ∧
      ∀ f, f ≤ 8 → (f = 0 ∨ stickyVisible n = true) →
        ((s.vec f 0).masked = true → (t.vec f 0).pending = true) ∧ ((s.vec f 0).masked = false → Output.msix f 0 ∈ t.out))) ∧
  (∀ (c : CmdIn) (mask : Nat) (s : State) (cmd : Cmd), Ready 0x0805 (.stickyClear c mask) c s cmd →
    ∃ t : State, Succeeds (.stickyClear c mask) c s t ∧ (∀ n, n < 256 → t.stickyBit n = (s.stickyBit n && !bitOf mask n)) ∧
      (t.power.faultN = true ↔ ∃ k, k < 256 ∧ stickyFaultN k = true ∧ t.stickyBit k = true) ∧
      t = { s with sticky := t.sticky, power := { s.power with faultN := t.power.faultN } }) ∧
  (∀ (c : CmdIn) (s : State) (cmd : Cmd), Ready 0x0804 (.stickyRead c) c s cmd → Room c 32 →
    ∃ r : Bytes, Replies (.stickyRead c) c s s r ∧ r.length = 32 ∧
      ∀ n, n < 256 → bitOf (leAt r 0 32) n = (s.stickyBit n && (stickyVisible n || !(decide (1 ≤ cmd.fn) && decide (cmd.fn ≤ 8)))))

namespace Sys2Proof.Claims

/-- Newer sequence number of a section's copies; 0 while it has none. -/
abbrev newestCopy (x : MantelSec) : Nat := max ((x.copyA.map (·.1)).getD 0) ((x.copyB.map (·.1)).getD 0)

/-- R802: a write keeps the newer of two valid copies. -/
abbrev KeepsNewer (x y : MantelSec) : Prop :=
  ∀ a b, x.copyA = some a → x.copyB = some b → (a.1 < b.1 → y.copyB = x.copyB) ∧ (b.1 ≤ a.1 → y.copyA = x.copyA)

end Sys2Proof.Claims

/-- R800, R802, R803, R825 (with log entries 93, 94): a write of a section goes to its older copy under the next sequence number, so that the next
boot reads the newest data; the third failure sets its sticky bit and loses nothing; SUMMARY counts the hour; MANTEL_READ returns a section's bytes
from an offset; HEALTH_STATUS and DEVICE_IDENTITY lay out their replies by Tables 22-7 and 17-23. -/
def Obligations.MantelAndStatus : Prop :=
  (∀ (die k : Nat) (s : State), s.hallFree = true → die < 1 + s.wings → k ≤ 10 → k ≠ 0 → k ≠ 9 →
    let x := s.section_ die k
    (∃ t : State, Gives (.mantelWrite die k true false) s t ∧ (t.section_ die k).booted.data = x.data ∧ (t.section_ die k).data = x.data ∧
      newestCopy (t.section_ die k) = newestCopy x + 1 ∧ KeepsNewer x (t.section_ die k) ∧
      (∀ d j, j ≤ 10 → (d ≠ die ∨ j ≠ k) → t.section_ d j = s.section_ d j) ∧
      t.ctr Ctr.hallMantelWrites = rose (s.ctr Ctr.hallMantelWrites) 1) ∧
    (x.fails < 3 → ∃ t : State, Gives (.mantelWrite die k false false) s t ∧ (t.section_ die k) = { x with fails := (x.fails + 1) % 3 } ∧
      (x.fails = 2 → t.stickyBit 137 = true) ∧ t.ctr Ctr.hallMantelWrites = s.ctr Ctr.hallMantelWrites) ∧
    ((k = 4 ∨ k = 5) → ∃ t : State, Gives (.mantelWrite die k true true) s t ∧ t.stickyBit 204 = true)) ∧
  (∀ (die : Nat) (s : State), s.hallFree = true → die < 1 + s.wings →
    ∃ t : State, Gives (.mantelWrite die 0 true false) s t ∧ (t.summary die).1 = (s.summary die).1 + 1 ∧
      (t.summary die).2 = (s.summary die).2 ∧ (t.section_ die 0).booted.data = t.ledger die 0) ∧
  (∀ s : State, s.hallFree = true → Ascending s.health.dayMargins →
    ∃ t : State, Gives (.mantelWrite 0 9 true false) s t ∧ t.health.dayMargins = [] ∧ ∀ n m, mfind s.health.dayMargins n = some m →
      let own := (s.ledger 0 9).filter (fun r => r.head? == some n) ++ [[n, m]]
      (t.ledger 0 9).filter (fun r => r.head? == some n) = own.drop (own.length - 365)) ∧
  (∀ (c : CmdIn) (die k off : Nat) (s : State) (cmd : Cmd), Ready 0x0803 (.mantelRead c die k off) c s cmd → die < 1 + s.wings → k ≤ 10 →
    let b := s.sectionBytes die k
    (b.length ≤ off → Fails (.mantelRead c die k off) c s 8) ∧
    (off < b.length → Room c ((b.drop off).take c.replyLen).length → 1 ≤ c.replyLen →
      Replies (.mantelRead c die k off) c s s ((b.drop off).take c.replyLen))) ∧
  (∀ (c : CmdIn) (s : State) (cmd : Cmd), Ready 0x0802 (.healthStatus c []) c s cmd → Room c 64 → s.boot.devState < 16 →
    (∀ k ∈ s.health.withheld, k < 24) → s.health.withheld.Nodup →
    ∃ r, Replies (.healthStatus c []) c s s r ∧ r.length = 64 ∧ leAt r 0 1 % 16 = s.boot.devState ∧ (bitOf (leAt r 0 1) 4 = s.power.faultN) ∧
      (∀ w, w < s.wings → (bitOf (leAt r 0 1) (5 + w) = decide (0 < mget 0 s.health.throttle w))) ∧
      (∀ d, d < 1 + s.wings → (leAt r (4 + 2 * d) 2 : Int) = mget 0 s.health.temps d % 65536) ∧
      (∀ q, q < 24 → (bitOf (leAt r 0x0C 4) q = s.health.withheld.contains q)) ∧
      (∀ w g, w < s.wings → g < 3 → leAt r (0x10 + 3 * w + g) 1 = (s.freeSpares w g).length) ∧
      leAt r 0x18 4 = ((s.ledger 1 7).length + (s.ledger 2 7).length) % 2 ^ 32 ∧
      leAt r 0x1C 4 = ((s.ledger 1 8).length + (s.ledger 2 8).length) % 2 ^ 32 ∧
      leAt r 0x20 4 = (s.summary 0).1 % 2 ^ 32 ∧ leAt r 0x30 2 = s.wingMhz 0 % 65536 ∧
      leAt r 0x36 2 = ((s.power.converters.map (fun e => e.2.iout)).foldl (· + ·) 0) % 65536) ∧
  (∀ (c : CmdIn) (s : State) (cmd : Cmd), Ready 0x0801 (.deviceIdentity c) c s cmd → Room c 32 →
    ∃ r, Replies (.deviceIdentity c) c s s r ∧ r.length = 32 ∧
      leAt r 0 2 = (match s.part with | .ikf4880_12 => 1 | .ikf4880_10 => 2 | .ikf4840_12 => 3) ∧ leAt r 2 2 = 0x00B0 ∧
      leAt r 4 1 = s.wings ∧ leAt r 5 1 = s.lanesN ∧ leAt r 6 2 = 288 * s.wings ∧ leAt r 8 8 = s.boot.serial % 2 ^ 64)

/-- R113 to R116, R536, R544: at the end of a 1 ms interval the next one is queued; a lane that is up takes its margin, is retuned
when its corrected codewords exceed the threshold, and is degraded when the margin stays below the minimum; the sixteenth bad TRANSIT in a row sets
time-crosscheck. -/
def Obligations.IntervalsEnd : Prop :=
  ∀ (s : State) (b : Nat) (margins : List (Nat × Nat × Nat)) (o : Occ), s.dueIs b evInterval 0 = some o → lateAt s.nt o.instant = false →
    (s.queueOf b).length ≤ 1024 →
    ∃ t : State, Gives (.interval1ms b margins) s t ∧
      (t.queueOf b).Perm ({ o with instant := o.instant + 16000000 } :: (s.queueOf b).tail) ∧
      (b ≠ blkLanes → t.hall = s.hall) ∧
      (b = blkLanes → ∀ n, n < s.lanesN →
        let x := s.lane n
        let m := (mfind margins n).getD (x.margin, x.margin)
        let y := t.lane n
        let retune : Prop := s.setting 0x2006 n 0 * 78125 < x.corrected * 2000000
        y.corrected = 0 ∧ y.leastTransit = none ∧
        (x.up = true → ¬ retune → y.margin = m.1 ∧ t.ctr (Ctr.laneRetune n) = s.ctr (Ctr.laneRetune n)) ∧
        (x.up = true → retune → y.margin = m.2 ∧ t.ctr (Ctr.laneRetune n) = rose (s.ctr (Ctr.laneRetune n)) 1 ∧
          (m.2 < s.setting 0x2007 n 0 → t.stickyBit (48 + n) = true)) ∧
        (∀ d, x.leastTransit = some d →
          let bad : Prop := d < 0 ∨ (s.time.crosscheckBound : Int) < d
          (¬ bad → y.badTransit = 0) ∧ (bad → x.badTransit < 15 → y.badTransit = x.badTransit + 1) ∧
          (bad → 15 ≤ x.badTransit → y.badTransit = 0 ∧ t.stickyBit 107 = true)))

namespace Sys2Proof.Claims

/-- R360, R813: the batches in flight that `p` names are aborted, and their faults are not counted. -/
abbrev AbortsUncounted (s t : State) (p : Nat → Batch → Bool) : Prop :=
  ∀ id b, s.batchOf id = some b → b.sent = true → p id b = true → b.aborted = false →
    ∃ d, t.batchOf id = some d ∧ d.aborted = true ∧ d.faults = b.faults

/-- The batches of both Wings are few enough times faulted to run again, and listed once each. -/
abbrev BatchesRun (s : State) : Prop :=
  Ascending s.wing0.batches ∧ Ascending s.wing1.batches ∧ ∀ id b, s.batchOf id = some b → b.faults < 8

end Sys2Proof.Claims

/-- R810 to R812, R815, R820, R823, R824: a due tile is retired in ascending order, when its copy may run: a free spare backs it, its batches are aborted
and run again, or without a spare its quarter is withheld; a Wing recovery stops the Wing and aborts its batches; a faulted regulator domain takes
its tiles, its Wing or the device out of service. -/
abbrev Sys2Proof.Claims.TilesRetireWingsFault : Prop :=
  (∀ (s : State) (w i : Nat), s.nextDue w = some i → i < 1024 → s.wingFree w = true → s.copyWaits i = false →
    let g := i / 128 % 4
    (∀ p rest, s.freeSpares w g = p :: rest → ∃ t : State, Gives (.tileRetirement w) s t ∧
      (t.repairs w g).find? (fun r => r.1 == i % 128) = some (i % 128, p) ∧ t.freeSpares w g = rest ∧ t.stickyBit 162 = true ∧
      t.ctr Ctr.hallTilesRetired = rose (s.ctr Ctr.hallTilesRetired) 1 ∧ t.health.tiles = mput s.health.tiles i {} ∧ t.health.withheld = s.health.withheld ∧
      (BatchesRun s → AbortsUncounted s t (fun _ b => b.place.tiles.contains i && !b.ended.contains i))) ∧
    (s.freeSpares w g = [] → ∃ t : State, Gives (.tileRetirement w) s t ∧ t.stickyBit 163 = true ∧
      t.health.withheld.contains (12 * w + 4 * g + i % 128 / 24) = true ∧ (i % 128, 255) ∈ t.repairs w g ∧ (∀ v, t.wing v = s.wing v) ∧
      t.health.tiles = mput s.health.tiles i {} ∧ t.ctr Ctr.hallQuartersWithheld = rose (s.ctr Ctr.hallQuartersWithheld) 1)) ∧
  (∀ (s : State) (w : Nat), s.nextDue w = none → Gives (.tileRetirement w) s s) ∧
  (∀ (s : State) (w i : Nat), s.nextDue w = some i → tileWing i = w ∧ ∀ e ∈ s.health.tiles, Ascending s.health.tiles → e.2.due = true → tileWing e.1 = w → i ≤ e.1) ∧
  (∀ (s : State) (w i : Nat), s.nextDue w = some i → (s.wingFree w = false ∨ s.copyWaits i = true) → Gives (.tileRetirement w) s s) ∧
  (∀ (s : State) (w : Nat), w < s.wings →
    (s.time.wingStopped.contains w = true → Gives (.wingRecovery w) s s) ∧
    (s.wingFree w = true → ∃ t : State, Gives (.wingRecovery w) s t ∧ t.time.wingStopped.contains w = true ∧ t.stickyBit 164 = true ∧
      t.ctr (Ctr.wingRecovery w) = rose (s.ctr (Ctr.wingRecovery w)) 1 ∧ (BatchesRun s → (∀ v, (t.wing v).entries = (s.wing v).entries ∧ (t.wing v).cache = (s.wing v).cache) ∧
        AbortsUncounted s t (fun id b => batchHome id == w || b.place.tiles.any (fun i => tileWing i == w))))) ∧
  (∀ (s : State) (d : Nat), s.hallFree = true → s.power.domainsOut.contains d = false →
    (d < 60 → d / 30 < s.wings → Ascending s.health.tiles → ∃ t : State, Gives (.regulatorFault d) s t ∧ t.stickyBit 203 = true ∧ t.power.domainsOut.contains d = true ∧
      t.boot = s.boot ∧ ∀ k, k < 96 → let q := s.position (d / 30) (d / 10 % 3) k
        let i := 512 * (d / 30) + 128 * (d / 10 % 3) + k
        (mget {} t.health.tiles i : TileHealth).due = ((mget {} s.health.tiles i : TileHealth).due || decide (q / 10 = d % 10))) ∧
    (60 ≤ d → d < 100 → domainWing d < s.wings → ∃ t : State, Gives (.regulatorFault d) s t ∧ t.stickyBit 203 = true ∧
      t.time.wingStopped.contains (domainWing d) = true ∧ t.boot = s.boot) ∧
    (100 ≤ d → Ascending s.hall.lanes → ∃ t : State, Gives (.regulatorFault d) s t ∧ t.stickyBit 203 = true ∧ t.boot.devState = 5 ∧
      ∀ n, (t.lane n).up = false)) ∧
  (∀ (s : State) (d : Nat), s.power.domainsOut.contains d = true → Gives (.regulatorFault d) s s)

/-- R810 to R812, R815, R820: where the recoveries complete: TILE_RETIREMENT of the lowest tile that is due backs it with the first free spare of its Gallery, or
withholds its quarter when there is none; WING_RECOVERY stops the Wing's clock; REGULATOR_FAULT of a domain that is in service takes it out of service, and with it a
row of tiles, a Wing or the device. -/
abbrev Sys2Proof.Claims.RecoveriesComplete : Prop :=
  (∀ (s : State) (w i : Nat), s.nextDue w = some i → i < 1024 → s.wingFree w = true → s.copyWaits i = false →
    ∃ t : State, Gives (.tileRetirement w) s t ∧ t.health.tiles = mput s.health.tiles i {} ∧
      (s.freeSpares w (i / 128 % 4) ≠ [] → t.stickyBit 162 = true ∧
        (t.repairs w (i / 128 % 4)).find? (fun r => r.1 == i % 128) = some (i % 128, (s.freeSpares w (i / 128 % 4)).headD 0)) ∧
      (s.freeSpares w (i / 128 % 4) = [] → t.stickyBit 163 = true ∧
        t.health.withheld.contains (12 * w + 4 * (i / 128 % 4) + i % 128 / 24) = true)) ∧
  (∀ (s : State) (w : Nat), s.wingFree w = true → w < s.wings →
    ∃ t : State, Gives (.wingRecovery w) s t ∧ t.time.wingStopped = s.time.wingStopped ++ [w] ∧ t.stickyBit 164 = true ∧
      t.ctr (Ctr.wingRecovery w) = rose (s.ctr (Ctr.wingRecovery w)) 1) ∧
  (∀ (s : State) (d : Nat), s.hallFree = true → d < 128 → s.power.domainsOut.contains d = false →
    (if d < 60 then d / 30 else if d < 100 then domainWing d else 0) < s.wings →
    ∃ t : State, Gives (.regulatorFault d) s t ∧ t.power.domainsOut = s.power.domainsOut ++ [d] ∧ t.stickyBit 203 = true ∧
      (60 ≤ d → d < 100 → t.time.wingStopped.contains (domainWing d) = true) ∧ (100 ≤ d → t.boot.devState = 5))

/-- R800 to R816: tiles are retired, Wings recover, supply domains fault, and when each of the three commands completes. -/
def Obligations.TilesAndWingsRecover : Prop :=
  Claims.TilesRetireWingsFault ∧ Claims.RecoveriesComplete

/-- R19, R726, R801, R816 to R819, R824, R873 to R876, R887: retired rows, spared Landing lanes, patrol reads and poisoned words, doubled refresh, the Wing's clock
under throttling and stretching down to its floor, thermal cycles, and the converters' readings. -/
def Obligations.MemoryAndPowerActions : Prop :=
  (∀ (s : State) (w st ch bk row cause : Nat) (lost : List (Nat × Nat)), s.wingFree w = true → w < s.wings →
    (∃ t : State, Gives (.rowRetirement w st ch bk row cause false lost) s t ∧ t.stickyBit 130 = true ∧ t.ledger (1 + w) 7 = s.ledger (1 + w) 7 ∧
      t.health.poisoned = s.health.poisoned) ∧
    (∃ t : State, Gives (.rowRetirement w st ch bk row cause true lost) s t ∧ t.stickyBit 129 = true ∧
      t.ledger (1 + w) 7 = s.ledger (1 + w) 7 ++ [[st, ch, bk, row, s.nt, cause]] ∧ (∀ k, t.health.poisoned.contains k =
        (s.health.poisoned.contains k || (lost.map (fun x => poisonKey w x.1 x.2)).contains k)) ∧
      t.ctr (Ctr.wingRowsRetired w) = rose (s.ctr (Ctr.wingRowsRetired w)) 1)) ∧
  (∀ (s : State) (w g : Nat), s.wingFree w = true → w < s.wings →
    (s.health.landingUsed.contains (256 * w + g) = true → ∃ t : State, Gives (.landingLaneSparing w g) s t ∧ t.stickyBit 135 = true ∧
      t.health = s.health) ∧
    (s.health.landingUsed.contains (256 * w + g) = false → ∃ t : State, Gives (.landingLaneSparing w g) s t ∧
      t.health.landingUsed = s.health.landingUsed ++ [256 * w + g] ∧ t.sticky = s.sticky ∧
      t.ctr (Ctr.wingLanesSpared w) = rose (s.ctr (Ctr.wingLanesSpared w)) 1)) ∧
  (∀ (s : State) (w p a : Nat), s.wingFree w = true → w < s.wings →
    ((s.partOf p).scrub.isSome = true → ∀ u, Gives (.patrolScrub w p a u) s s) ∧
    ((s.partOf p).scrub = none →
      Gives (.patrolScrub w p a false) s (s.bumpN (Ctr.wingDramCorrected w) 1) ∧
      ∃ t : State, Gives (.patrolScrub w p a true) s t ∧ t.stickyBit 128 = true ∧ poisonKey w p (a / 64 * 64) ∈ t.health.poisoned ∧
        t.ctr (Ctr.wingDramUncorrectable w) = rose (s.ctr (Ctr.wingDramUncorrectable w)) 1)) ∧
  (∀ (s : State) (k : Nat) (hot : Bool), s.hallFree = true → k < 4 * s.wings →
    ∃ t : State, Gives (.refreshDoubled k hot) s t ∧ t.health.doubled.contains k = hot ∧
      ∀ j, j ≠ k → t.health.doubled.contains j = s.health.doubled.contains j) ∧
  (∀ (s : State) (w : Nat) (temp : Int), s.hallFree = true → w < s.wings →
    let n := mget 0 s.health.throttle w
    ∃ t : State, Gives (.throttleStep w temp) s t ∧ mget 0 t.health.temps (1 + w) = temp ∧ s.floorMhz ≤ t.wingMhz w ∧
      s.floorMhz * 100 ≤ s.nominalMhz * 72 ∧
      (1680 ≤ temp → t.stickyBit 201 = true) ∧ (1520 ≤ temp → n = 0 → t.stickyBit 200 = true) ∧
      (1520 ≤ temp → mget 0 t.health.throttle w = (if s.floorMhz < s.nominalMhz * (16 - n) / 16 then n + 1 else n)) ∧
      (1472 ≤ temp → temp < 1520 → mget 0 t.health.throttle w = n) ∧
      (temp < 1472 → mget 0 t.health.throttle w = n - 1) ∧
      t.ctr Ctr.hallThrottleSteps = rose (s.ctr Ctr.hallThrottleSteps) (if mget 0 t.health.throttle w = n then 0 else 1) ∧
      let peak := max temp ((mfind s.health.peaks (1 + w)).getD temp)
      ((t.summary (1 + w)).2.2 = (s.summary (1 + w)).2.2 + (if 640 ≤ peak - temp then 1 else 0)) ∧
      (mfind t.health.peaks (1 + w) = some (if 640 ≤ peak - temp then temp else peak))) ∧
  (∀ (s : State) (w mhz : Nat), s.hallFree = true → w < s.wings →
    ∃ t : State, Gives (.droop w mhz) s t ∧ s.floorMhz ≤ t.wingMhz w ∧ mget 0 t.health.stretch w = mhz ∧
      (0 < mhz → t.wingMhz w = s.floorMhz → t.stickyBit 202 = true) ∧
      ((mhz = 0 ∨ s.floorMhz < t.wingMhz w) → t.sticky = s.sticky)) ∧
  (∀ (s : State) (rs : List (Nat × Converter)), s.hallFree = true →
    ∃ t : State, Gives (.pmbusPoll rs) s t ∧ t = { s with power := { s.power with converters := t.power.converters } } ∧
      ∀ a, mfind t.power.converters a = (mfind s.power.converters a).map (fun c => (mfind rs a).getD c)) ∧
  (∀ (s : State) (st : List (Nat × Nat)), s.hallFree = true → Ascending st → Ascending s.power.converters →
    (∃ t : State, Gives (.pmAlert false st) s t ∧ t.power.pmAlert = false) ∧
    ((s.power.pmAlert = true ∧ ∃ l, s.power.lastPmAlert = some l ∧ s.nt < l + 1600000000) → Gives (.pmAlert true st) s s) ∧
    ((s.power.pmAlert = false ∨ ∀ l, s.power.lastPmAlert = some l → l + 1600000000 ≤ s.nt) →
      ∃ t : State, Gives (.pmAlert true st) s t ∧ t.power.pmAlert = true ∧ t.power.lastPmAlert = some s.nt ∧
        t.ctr Ctr.hallPmbusAlert = rose (s.ctr Ctr.hallPmbusAlert) 1 ∧
        (∀ a v c, mfind st a = some v → mfind s.power.converters a = some c →
          mfind t.power.converters a = some ({ c with status := v }) ∧
          (v ≠ 0 → (s.ledger 0 10).length + st.length ≤ 1024 → [7, a, s.nt, v] ∈ t.ledger 0 10))))

/-! ### Reset, supplies and boot (chapters 23, 24) -/

namespace Sys2Proof.Claims

/-- R513, R735, R760, R804, R805, R880: what a device reset leaves: flash, fuses, the Mantel and the pending origin stay; sticky bits, partitions, the
pair, the settings in force, lanes, epochs, rings and tile words do not; the device stands before its ROM stage. -/
abbrev WasReset (s t : State) : Prop :=
  t.sticky = 0#256 ∧ t.parts = [] ∧ t.pair = State.reset.pair ∧ t.settings = [] ∧ t.hall = State.reset.hall ∧ t.rqs = [] ∧ t.host.rings = [] ∧ t.host.funcs = [] ∧
  t.boot.stage = .rom ∧ t.boot.devState = 0 ∧ t.boot.assocs = [] ∧ t.power.domainsOn = false ∧ t.power.faultN = false ∧ t.dead = true ∧ t.out = s.out ∧ t.part = s.part ∧
  t.health.mantel = s.health.mantel ∧ t.boot.rec0 = s.boot.rec0 ∧ t.boot.rec1 = s.boot.rec1 ∧ t.boot.bankA = s.boot.bankA ∧ t.boot.bankBRec = s.boot.bankBRec ∧
  t.boot.floor = s.boot.floor ∧ t.boot.settings0 = s.boot.settings0 ∧ t.boot.settings1 = s.boot.settings1 ∧ t.boot.serial = s.boot.serial

end Sys2Proof.Claims

/-- R868, R870 to R872, R878 to R880, R882 (with log entry 28): a low pulse of RESET_N of 10 µs resets the device and one shorter than 1 µs does nothing; a
drop-out of a supply resets it and takes the rail; THERMTRIP turns every domain off until VIN12 is out and RESET_N low together; a lost SYS_REFCLK stops the Hall; the lanes of an
absent SERDES_REFCLK are down, with their sticky bits. -/
abbrev Sys2Proof.Claims.ResetsAndSupplies : Prop :=
  (∀ (s : State) (n : Nat), n < 1000 → Gives (.resetN false n) s s ∧ Gives (.resetN true n) s ({ s with power := { s.power with resetLow := false } })) ∧
  (∀ (s : State) (n : Nat), 10000 ≤ n → s.power.resetLow = false →
    (∃ t : State, Gives (.resetN false n) s t ∧ WasReset s t ∧ t.power.resetLow = true ∧ t.time.originPending = s.time.originPending ∧ t.counters = [] ∧
      t.power.thermtrip = (s.power.thermtrip && s.power.vin12)) ∧
    (∃ t : State, Gives (.resetN true n) s t ∧ WasReset s t ∧ t.power.resetLow = false ∧ t.power.thermtrip = s.power.thermtrip)) ∧
  (∀ (s : State) (r : Rail), Gives (.railInRegulation r) s ({ s with power := s.power.setRail r true })) ∧
  (∀ (s : State) (r : Rail), (r = .vin12 ∨ r = .vaux18) → ∃ t : State, Gives (.vin12DropOut r) s t ∧ WasReset s t ∧
    (r = .vin12 → t.power.vin12 = false ∧ t.power.thermtrip = (s.power.thermtrip && !s.power.resetLow)) ∧ (r = .vaux18 → t.power.vaux18 = false) ∧
    t.power.standbyOn = s.power.standbyOn) ∧
  (∀ (s : State) (r : Rail), (r = .vstby33 ∨ r = .vio18) → ∃ t : State, Gives (.vstby33DropOut r) s t ∧ WasReset s t ∧ t.power.standbyOn = false ∧ t.power.flResetN = false ∧
    (r = .vstby33 → t.power.vstby33 = false) ∧ (r = .vio18 → t.power.vio18 = false)) ∧
  (∀ s : State, (s.power.thermtrip = true → Gives .thermtrip s s) ∧
    (s.power.thermtrip = false → s.power.standbyOn = true → ∃ t : State, Gives .thermtrip s t ∧ WasReset s t ∧ t.power.thermtrip = true ∧ t.power.tripped = true)) ∧
  (∀ s : State, Gives (.sysRefclkLoss true) s ({ s with power := { s.power with sysClk := true } }) ∧
    ∃ t : State, Gives (.sysRefclkLoss false) s t ∧ t.power.sysClk = false ∧ t = { s with power := t.power } ∧
      (s.boot.stage ≠ .rom → t.dead = true) ∧ (s.boot.stage = .rom → t.dead = s.dead)) ∧
  (∀ (s : State) (n : Nat), n < 4 → s.dead = false →
    (∃ t : State, Gives (.serdesRefclkLoss n true) s t ∧ n ∈ t.power.serdesLost ∧ (n = 0 → t.pair.lanesUp = []) ∧
      (∀ l, l < s.lanesN → l / 12 = n → s.setting 0x2001 l 0 = 1 → (t.lane l).up = false ∧ t.stickyBit l = true) ∧
      (∀ l, l < s.lanesN → (l / 12 ≠ n ∨ s.setting 0x2001 l 0 ≠ 1) → t.lane l = s.lane l ∧ t.stickyBit l = s.stickyBit l)) ∧
    Gives (.serdesRefclkLoss n false) s ({ s with power := { s.power with serdesLost := s.power.serdesLost.filter (fun k => k != n) } }))

/-- R834 to R837, R847 (with log entry 150): a record is written over the copy that is not in use, under the next seq, so that it is the one in use and the former one
stays valid; the ROM boots the active bank when it verifies, otherwise the other one with flash-error and a new record, otherwise the recovery endpoint; a trial loses
a try at each boot and is reverted when none is left. -/
abbrev Sys2Proof.Claims.RomChoosesBank : Prop :=
  (∀ (b : Boot) (f : BootRec → BootRec), (b.writeRecord f).record = { f b.record with seq := b.record.seq + 1 } ∧
    (∀ r, b.record? = some r → (b.writeRecord f).rec0 = some r ∨ (b.writeRecord f).rec1 = some r)) ∧
  (∀ (s : State) (mode : Nat) (va vb : Bool) (m : BitVec 384) (o : ApplyOutcome), (s.boot.stage ≠ .rom ∨ s.power.romReady = false) → Gives (.romStage mode va vb m o) s s) ∧
  (∀ (s : State) (va vb : Bool) (m : BitVec 384) (o : ApplyOutcome) (r : BootRec), s.boot.stage = .rom → s.power.romReady = true → s.boot.record? = some r →
    let ok := fun (second : Bool) => s.boot.verifies second (if second then vb else va)
    let boots := fun (t : State) (second : Bool) => Gives (.romStage 0 va vb m o) s t ∧ t.boot.stage = .hearth ∧ t.boot.bankB = second ∧ t.power.domainsOn = true ∧ t.power.flResetN = true ∧
      t.sec.regs = s.sec.regs.set 0 (extend 0 m) ∧ t.sec.rootSeedReadable = false ∧
      t.sec.dik = some (deriveKey (label "IKF-DIK") rootSeed (leBytes 8 s.boot.serial)) ∧ t.sec.hearthCdi = some (hearthCdi (extend 0 m)) ∧ t.ctr Ctr.hallBoots = rose (s.ctr Ctr.hallBoots) 1
    (r.trial = false → r.applyPending = false →
      (ok r.activeB = true → ∃ t : State, boots t r.activeB ∧ t.boot.record = r ∧ t.boot.trialBoot = false ∧ t.sticky = s.sticky) ∧
      (ok r.activeB = false → ok (!r.activeB) = true → ∃ t : State, boots t (!r.activeB) ∧ t.stickyBit 136 = true ∧
        t.boot.record = { r with activeB := !r.activeB, seq := r.seq + 1 })) ∧
    (ok false = false → ok true = false → r.applyPending = false → ∃ t : State, Gives (.romStage 0 va vb m o) s t ∧ t.boot.recovery = true ∧ t.boot.devState = 5 ∧
      t.boot.stage = .failed) ∧
    (r.trial = true → r.applyPending = false → (ok false = true ∨ ok true = true) →
      (r.triesLeft = 0 → s.boot.verifies (!r.activeB) (if r.activeB then va else vb) = true → ∃ t : State, boots t (!r.activeB) ∧ t.boot.record = { r with activeB := !r.activeB, trial := false, lastResult := 5, seq := r.seq + 1 } ∧
        t.boot.staging = none ∧ t.ctr Ctr.hallUpdateReverted = rose (s.ctr Ctr.hallUpdateReverted) 1) ∧
      (1 ≤ r.triesLeft → ok r.activeB = true → ∃ t : State, boots t r.activeB ∧ t.boot.trialBoot = true ∧
        t.boot.record = { r with triesLeft := r.triesLeft - 1, seq := r.seq + 1 }))) ∧
  (∀ (s : State) (mode : Nat) (va vb : Bool) (m : BitVec 384) (o : ApplyOutcome), s.boot.stage = .rom → s.power.romReady = true → mode ≠ 0 → s.boot.record.applyPending = false →
    ∃ t : State, Gives (.romStage mode va vb m o) s t ∧ t.boot.recovery = true ∧ t.boot.devState = 5 ∧ t.boot.bootMode = mode)

/-- R827 to R837, R847, R868 to R882: resets, supplies, clocks, and the ROM stage. -/
def Obligations.ResetAndRom : Prop :=
  Claims.ResetsAndSupplies ∧ Claims.RomChoosesBank

/-- R17, R18, R523, R696, R722, R803, R827, R828, R830, R840, R848, R849, R874: each stage runs after the one before it and leads to the next: the Hearth measures the parts, locks the
registers, reads the Mantel and raises the floor; the DRAM stage clears storage; the self-test remaps tiles, each to the spare of its record while that works and otherwise to an unused one; the Settings stage loads the copy in use; a
failure leads to FAILED; a trial boot that is not READY in time restarts. -/
abbrev Sys2Proof.Claims.StagesFollow : Prop :=
  (∀ (s : State) (ok : Bool) (ms : List (BitVec 384)) (cs : List (Nat × Converter)), (s.boot.stage ≠ .hearth → Gives (.hearthStage ok ms cs) s s) ∧
    (s.boot.stage = .hearth → s.dead = false → ∃ t : State, Gives (.hearthStage ok ms cs) s t ∧ t.boot.stageOne = true ∧ t.sec.regsLocked = true ∧
      t.sec.regs[0] = s.sec.regs[0] ∧ t.sec.regs[1] = extend 0 ((ms[0]?).getD 0) ∧ t.sec.regs[5] = extend 0 ((ms[4]?).getD 0) ∧
      t.sec.fwCdi = some (firmwareCdi (t.sec.regs.toList.drop 1) (s.sec.hearthCdi.getD [])) ∧
      t.sec.linkKey = some (linkIdentityKey (firmwareCdi (t.sec.regs.toList.drop 1) (s.sec.hearthCdi.getD []))) ∧
      t.boot.devState = (if ok then 1 else 5) ∧ t.boot.stage = (if ok then .dram else .failed) ∧ (ok = false → Ascending s.hall.lanes → ∀ n, (t.lane n).up = false) ∧
      (∀ r x, s.boot.record? = some r → r.trial = false → s.boot.bank r.activeB = some x →
        t.boot.floor = (if x.raiseFloor then max s.boot.floor x.securityVersion else s.boot.floor)) ∧
      (∀ w, w < s.wings → (s.section_ (1 + w) 8).copyA = none → (s.section_ (1 + w) 8).copyB = none → t.stickyBit 137 = true) ∧
      (∀ d k, k = 7 ∨ k = 8 → t.ledger d k = (s.section_ d k).booted.data))) ∧
  (∀ (s : State) (o : ApplyOutcome), (s.boot.stage ≠ .dram → ∀ b, Gives (.dramStage b o) s s) ∧
    (s.boot.stage = .dram → s.dead = false → (∃ t : State, Gives (.dramStage false o) s t ∧ t.boot.devState = 5 ∧ t.boot.stage = .failed) ∧
      (s.boot.record.applyPending = false → Gives (.dramStage true o) s
        ({ s with wing0 := {}, wing1 := {}, tiles := [], boot := { s.boot with devState := 2, stage := .selfTest } })))) ∧
  (∀ (s : State) (failed ls : List Nat), (s.boot.stage ≠ .selfTest → Gives (.selfTest failed ls) s s) ∧
    (s.boot.stage = .selfTest → s.dead = false → ∃ t : State, Gives (.selfTest failed ls) s t ∧ t.boot.devState = 3 ∧ t.boot.stage = .settings ∧ t.health.landingUsed = ls ∧
      ∀ w g, w < s.wings → g < 3 →
        let good := [0, 1, 2, 3].filter (fun p => !failed.contains (100 * (3 * w + g) + 96 + p))
        let broken := (List.range 96).filter (fun k => failed.contains (100 * (3 * w + g) + k) || (s.repairs w g).any (fun r => r.1 == k))
        let kept := fun (k : Nat) => (((s.repairs w g).find? (fun r => r.1 == k)).map (fun r => r.2)).filter (fun p => good.contains p)
        let unused := good.filter (fun p => !(broken.filterMap kept).contains p)
        let others := broken.filter (fun k => (kept k).isNone)
        (∀ r ∈ s.ledger (1 + w) 8, 3 ≤ r.length) → (t.repairs w g).map (fun r => r.1) = broken ∧
        (∀ k p, k ∈ broken → kept k = some p → (k, p) ∈ t.repairs w g) ∧
        (∀ j k, others[j]? = some k → (k, (unused[j]?).getD 255) ∈ t.repairs w g ∧
          (unused.length ≤ j → t.health.withheld.contains (12 * w + 4 * g + k / 24) = true ∧ t.stickyBit 163 = true)))) ∧
  (∀ s : State, (s.boot.stage ≠ .settings → Gives .settingsStage s s) ∧
    (s.boot.stage = .settings → s.dead = false →
      (s.boot.saved = none → ∃ t : State, Gives .settingsStage s t ∧ t.stickyBit 136 = true ∧ t.boot.stage = .ready ∧ t.settings = s.settings) ∧
      (∀ x, s.boot.saved = some x → ∃ t : State, Gives .settingsStage s t ∧ t.boot.stage = .ready ∧ t.boot.anchors = x.anchors ∧ t.hall.activeBank = x.activeBank ∧
        t.settings = x.settings.filter (fun e => decide (settingScope (e.1 / 16777216) ≠ some .time)) ∧
        (∀ v, s.time.originPending = some v → t.time.originInForce = v ∧ t.time.originPending = none)))) ∧
  (∀ s : State, (s.boot.stage ≠ .ready → Gives .ready s s) ∧
    (s.boot.stage = .ready → s.dead = false → s.power.serdesLost = [] → Gives .ready s ({ s with boot := { s.boot with devState := 4, stage := .done } }))) ∧
  (∀ s : State, ((s.boot.trialBoot = false ∨ s.boot.devState = 4) → Gives .trialTimeout s s) ∧
    (s.boot.trialBoot = true → s.boot.devState ≠ 4 → s.boot.stage ≠ .rom → s.dead = false → ∃ t : State, Gives .trialTimeout s t ∧ WasReset s t))

/-- R846 (with R856): a pending staging that has no valid status record, names another base, or does not yield a bank that verifies ends with its result and leaves the active bank; the anchors of a
CREDENTIALS staging enter the saved settings; otherwise the other bank becomes active on trial and the device restarts. -/
abbrev Sys2Proof.Claims.UpdatesApply : Prop :=
  ∀ (s : State) (o : ApplyOutcome) (r : BootRec) (g : Staging) (h : StagingHdr), s.boot.stage = .dram → s.dead = false → s.boot.record? = some r → r.applyPending = true →
    s.boot.staging = some g → g.hdr = some h →
    let ends := fun (result : Nat) => ∃ t : State, Gives (.dramStage true o) s t ∧ t.boot.stage = .selfTest ∧ t.boot.staging = none ∧
      t.boot.record = { r with applyPending := false, lastResult := result, seq := r.seq + 1 } ∧ t.boot.bank r.activeB = s.boot.bank r.activeB ∧
      t.ctr Ctr.hallUpdateFailed = rose (s.ctr Ctr.hallUpdateFailed) (if result = 1 then 0 else 1)
    ((g.statusRecord = false ∨ o.hashMatches = false) → ends 2) ∧
    (g.statusRecord = true → o.hashMatches = true →
      (h.credentials = true → ends 1 ∧ ∃ (t : State) (x : SavedSettings), Gives (.dramStage true o) s t ∧ t.boot.saved = some x ∧ x.anchors = h.anchors.take 4) ∧
      (h.credentials = false → h.baseDigest ≠ 0 → h.baseDigest ≠ r.digestOf r.activeB → ends 3) ∧
      (h.credentials = false → (h.baseDigest = 0 ∨ h.baseDigest = r.digestOf r.activeB) →
        ((o.newBankVerifies = false ∨ h.target.securityVersion < s.boot.floor) → ends 4) ∧
        (o.newBankVerifies = true → s.boot.floor ≤ h.target.securityVersion → ∃ t : State, Gives (.dramStage true o) s t ∧ t.boot.stage = .rom ∧ t.dead = true ∧
          t.boot.bank (!r.activeB) = some h.target ∧ t.boot.bank r.activeB = s.boot.bank r.activeB ∧ t.boot.record.activeB = !r.activeB ∧ t.boot.record.trial = true ∧
          t.boot.record.triesLeft = 3 ∧ t.boot.record.applyPending = false ∧ t.boot.record.lastResult = 1 ∧ t.boot.record.digestOf (!r.activeB) = h.target.digest ∧
          (∃ g', t.boot.staging = some g' ∧ g'.state = .trial) ∧ t.ctr Ctr.hallUpdateApplied = rose (s.ctr Ctr.hallUpdateApplied) 1)))

/-- R827 to R849: the boot stages after the ROM, and the apply of an update. -/
def Obligations.BootAndApply : Prop :=
  Claims.StagesFollow ∧ Claims.UpdatesApply

/-! ### Updates, persistent settings and the management network (chapter 23) -/

/-- R841 to R845, R849, R850 (Tables 23-8, 23-9): the one update from UPDATE_BEGIN to its activation and confirmation: who may send its data and in which order, when it closes, when it is
discarded, and the boot records that activation and confirmation write. -/
def Obligations.UpdatesAreStaged : Prop :=
  (∀ (c : CmdIn) (n : Nat) (s : State) (cmd : Cmd), Ready 0x0A01 (.updateBegin c n) c s cmd →
    ((n < 0x260 ∨ 33488896 < n) → Gives (.updateBegin c n) s (s.complete c.ring { status := 2, detail := 32 })) ∧
    (0x260 ≤ n → n ≤ 33488896 →
      (s.boot.staging ≠ none → Fails (.updateBegin c n) c s 1) ∧
      (s.boot.staging = none → ∃ g : Staging, Succeeds (.updateBegin c n) c s ({ s with boot := { s.boot with staging := some g } }) ∧ g.state = .receiving ∧
        g.owner = cmd.fn ∧ g.total = n ∧ g.queued = 0 ∧ g.written = 0 ∧ (cmd.fn < 9 → g.source = 0)))) ∧
  (∀ (c : CmdIn) (off len : Nat) (h : Option StagingHdr) (s : State) (cmd : Cmd) (g : Staging), Ready 0x0A02 (.updateData c off len h) c s cmd → s.boot.staging = some g → 1 ≤ len →
    len ≤ (if c.ring < 4096 then 16777216 else 16320) →
    (9 ≤ cmd.fn → cmd.inline.length ≠ len → Fails (.updateData c off len h) c s 2) ∧
    ((9 ≤ cmd.fn → cmd.inline.length = len) → (g.owner ≠ cmd.fn ∨ g.state ≠ .receiving) → Fails (.updateData c off len h) c s 7) ∧
    ((9 ≤ cmd.fn → cmd.inline.length = len) → g.owner = cmd.fn → g.state = .receiving →
      ((off ≠ g.queued ∨ g.total < off + len) → Fails (.updateData c off len h) c s 2) ∧
      (off = g.queued → off + len ≤ g.total → Succeeds (.updateData c off len h) c s
        ({ s with boot := { s.boot with staging := some { g with queued := g.queued + len, transfers := g.transfers ++ [(off, len)], hdr := h.orElse (fun _ => g.hdr) } } })))) ∧
  (∀ (s : State) (g : Staging) (off len : Nat) (rest : List (Nat × Nat)), s.boot.staging = some g → g.transfers = (off, len) :: rest → s.hallFree = true →
    Gives (.updateTransferDone true) s ({ s with boot := { s.boot with staging := some { g with written := g.written + len, transfers := rest } } }) ∧
    Gives (.updateTransferDone false) s ({ s with boot := { s.boot with staging := none, lastResult := 6 } })) ∧
  (∀ (c : CmdIn) (s : State) (cmd : Cmd) (g : Staging), Ready 0x0A03 (.updateEnd c) c s cmd → s.boot.staging = some g →
    let credentials := ∃ h, g.hdr = some h ∧ h.credentials = true
    ((g.owner ≠ cmd.fn ∨ g.state ≠ .receiving ∨ g.queued ≠ g.total) → Fails (.updateEnd c) c s 7) ∧
    (g.owner = cmd.fn → g.state = .receiving → g.queued = g.total →
      (credentials → 9 ≤ cmd.fn → ∃ detail, Gives (.updateEnd c) s (({ s with boot := { s.boot with staging := none } } : State).complete c.ring { status := 4, detail := detail })) ∧
      ((¬ credentials ∨ cmd.fn < 9) → s.boot.recovery = false →
        Succeeds (.updateEnd c) c s ({ s with boot := { s.boot with staging := some { g with state := .closing } } })))) ∧
  (∀ (s : State) (g : Staging), s.boot.staging = some g → s.hallFree = true →
    ((g.state ≠ .closing ∨ g.transfers ≠ [] ∨ g.written ≠ g.total) → Gives .stagingClosed s s) ∧
    (g.state = .closing → g.transfers = [] → g.written = g.total → ∃ g' : Staging, Gives .stagingClosed s ({ s with boot := { s.boot with staging := some g' } }) ∧
      g'.state = .closed ∧ g'.statusRecord = true ∧ g'.hdr = g.hdr ∧
      (∀ h, g.hdr = some h → h.credentials = false → 0 ∈ g'.offers ∧ (1 ∈ g'.offers ↔ g.source ≠ 3)))) ∧
  (∀ (c : CmdIn) (s : State) (cmd : Cmd), Ready 0x0A04 (.updateAbort c) c s cmd →
    (s.boot.staging = none → Fails (.updateAbort c) c s 8) ∧
    (∀ g, s.boot.staging = some g → g.state = .receiving ∨ g.state = .closing ∨ g.state = .closed →
      Succeeds (.updateAbort c) c s ({ s with boot := { s.boot with staging := none, lastResult := 7 } }))) ∧
  (∀ (c : CmdIn) (b : Bool) (s : State) (cmd : Cmd), Ready 0x0A06 (.updateActivate c b) c s cmd → s.scrubbing = false →
    (s.boot.staging = none → Fails (.updateActivate c b) c s 8) ∧
    (∀ g, s.boot.staging = some g → g.state = .closing → Fails (.updateActivate c b) c s 1) ∧
    (∀ g, s.boot.staging = some g → g.state = .closed → s.boot.recovery = false →
      (b = false → ∃ u : State, Succeeds (.updateActivate c false) c s u ∧ u.boot.record = { s.boot.record with applyPending := true, seq := s.boot.record.seq + 1 } ∧
        (∃ g', u.boot.staging = some g' ∧ g'.state = .activated)) ∧
      (b = true → ∃ t : State, Gives (.updateActivate c true) s t ∧ WasReset t t ∧ t.boot.record.applyPending = true ∧ ∃ g', t.boot.staging = some g' ∧ g'.state = .activated))) ∧
  (∀ (c : CmdIn) (b : Bool) (s : State) (cmd : Cmd), Ready 0x0A06 (.updateActivate c b) c s cmd → s.scrubbing = true → s.boot.staging = none → Fails (.updateActivate c b) c s 1) ∧
  (∀ (c : CmdIn) (s : State) (cmd : Cmd), Ready 0x0A07 (.updateConfirm c) c s cmd →
    (s.boot.record.trial = false → Fails (.updateConfirm c) c s 8) ∧
    (s.boot.record.trial = true → ∃ u : State, Succeeds (.updateConfirm c) c s u ∧ u.boot.staging = none ∧
      u.boot.record = { s.boot.record with trial := false, seq := s.boot.record.seq + 1 })) ∧
  (∀ (c : CmdIn) (s : State) (cmd : Cmd), Ready 0x0A05 (.updateStatus c) c s cmd → Room c 96 → s.boot.lastResult < 8 → s.boot.floor < 64 → s.boot.record.triesLeft < 4 →
    ∃ r, Replies (.updateStatus c) c s s r ∧ r.length = 96 ∧ leAt r 1 1 = s.boot.lastResult ∧ (bitOf (leAt r 2 1) 0 = s.boot.bankB) ∧ leAt r 2 1 / 2 = s.boot.record.triesLeft ∧
      leAt r 3 1 = s.boot.floor ∧ (s.boot.staging = none → leAt r 0 1 = 0 ∧ leAt r 8 8 = 0) ∧
      (∀ g, s.boot.staging = some g → g.source < 4 → leAt r 0 1 % 8 = (match g.state with | .receiving => 1 | .closing => 2 | .closed => 3 | .activated => 4 | .trial => 5) ∧
        leAt r 0 1 / 8 % 4 = g.source ∧ leAt r 8 8 = g.queued % 2 ^ 64 ∧ leAt r 0x10 8 = g.written % 2 ^ 64 ∧ leAt r 0x18 8 = g.total % 2 ^ 64))

/-- R838 to R840, R852, R853 (Table 23-10, with log entry 97): SETTINGS_SAVE captures, and the written capture goes over the older copy with the next seq; a CLOSED staging is offered; an offer is accepted when
no update exists and its base matches; the partner's DATA and END extend and close a staging of source 3; an accepted one leaves in parts of at most 1,432 bytes. -/
def Obligations.SettingsAndRelays : Prop :=
  (∀ (c : CmdIn) (s : State) (cmd : Cmd), Ready 0x0A08 (.settingsSave c) c s cmd → ∃ x : SavedSettings,
    Succeeds (.settingsSave c) c s ({ s with boot := { s.boot with capture := some x } }) ∧ x.activeBank = s.hall.activeBank ∧ x.anchors = s.boot.anchors ∧
      (∀ k, settingScope (k / 16777216) = some .device ∨ settingScope (k / 16777216) = some .lane ∨ settingScope (k / 16777216) = some .port ∨ settingScope (k / 16777216) = some .bank →
        mfind x.settings k = mfind s.settings k) ∧
      (∀ k, settingScope (k / 16777216) = some .partition ∨ settingScope (k / 16777216) = some .reportQueue → mfind x.settings k = none) ∧
      savedTime x 0x7001 0 = ((s.time.originPending.getD s.time.originInForce : Nat) : Int).bmod (2 ^ 128)) ∧
  (∀ (s : State) (x : SavedSettings), s.boot.capture = some x → s.hallFree = true →
    (∃ t : State, Gives (.settingsFlashWrite true) s t ∧ t.boot.capture = none ∧ t.boot.saved = some ({ x with seq := (s.boot.saved.map (·.seq)).getD 0 + 1 }) ∧
      ∀ y, s.boot.saved = some y → t.boot.settings0 = some y ∨ t.boot.settings1 = some y) ∧
    (∃ t : State, Gives (.settingsFlashWrite false) s t ∧ t.stickyBit 136 = true ∧ t.boot = s.boot)) ∧
  (∀ (s : State) (g : Staging), s.boot.staging = some g → s.hallFree = true → s.boot.recovery = false →
    (g.state ≠ .closed → ∀ b d, Gives (.relayOffer b d) s s) ∧
    (g.state = .closed → 0 ∈ g.offers → ∃ t : State, Gives (.relayOffer false true) s t ∧ t.out = s.out ++ [.relay 1 1 0 g.total ((g.hdr.map (·.baseDigest)).getD 0) ((g.hdr.map (·.target.digest)).getD 0)] ∧
      t.boot = s.boot ∧ t.ctr Ctr.hallRelayOffers = rose (s.ctr Ctr.hallRelayOffers) 1) ∧
    (g.state = .closed → 1 ∈ g.offers → s.paired = true → ∃ t : State, Gives (.relayOffer true true) s t ∧ SentOne s t (.update g.offer))) ∧
  (∀ (s : State) (port sender total base target : Nat), s.hallFree = true → s.boot.recovery = false → s.boot.stageOne = true →
    let x : Relay := { op := 1, reason := 0, value := total, baseDigest := base, targetDigest := target, length := 0, hdr := none }
    (s.boot.staging ≠ none → ∃ t : State, Gives (.offer port sender x) s t ∧ t.out = s.out ++ [.relay port 3 1 0 0 0] ∧ t.boot = s.boot ∧
      t.ctr Ctr.hallRelayDeclined = rose (s.ctr Ctr.hallRelayDeclined) 1) ∧
    (s.boot.staging = none → base ≠ 0 → (∀ b, s.runningBank = some b → b.digest ≠ base) → ∃ t : State, Gives (.offer port sender x) s t ∧ t.out = s.out ++ [.relay port 3 2 0 0 0]) ∧
    (s.boot.staging = none → (base = 0 ∨ ∃ b, s.runningBank = some b ∧ b.digest = base) →
      Gives (.offer port sender x) s ({ s with boot := { s.boot with acceptedFrom := some sender }, out := s.out ++ [.relay port 2 0 0 0 0] }))) ∧
  (∀ (s : State) (port sender : Nat) (g : Staging), s.hallFree = true → s.boot.recovery = false → s.boot.stageOne = true → s.boot.staging = some g → g.state = .closed → 0 ∈ g.offers →
    ∀ op, op = 2 ∨ op = 3 → ∃ t : State, Gives (.offer port sender (relayAnswer op 0)) s t ∧ (∃ g', t.boot.staging = some g' ∧ 0 ∉ g'.offers ∧ g'.state = .closed) ∧
      t.out = s.out ++ (if op = 2 then [.relayStaging sender] else [])) ∧
  (∀ (s : State) (n : Nat) (x : Relay), s.nextMsg = some (n, .update x) → s.hallFree = true → s.paired = true →
    (x.op = 1 → s.boot.staging = none → x.baseDigest = 0 → ∃ (t : State) (g : Staging), Gives .update s t ∧ t.boot.staging = some g ∧ g.source = 3 ∧ g.state = .receiving ∧ g.total = x.value ∧
      SentOne s t (.update (relayAnswer 2 0))) ∧
    (x.op = 1 → s.boot.staging ≠ none → ∃ t : State, Gives .update s t ∧ t.boot = s.boot ∧ SentOne s t (.update (relayAnswer 3 1))) ∧
    (∀ g, s.boot.staging = some g → g.owner = ownerPartner → g.state = .receiving →
      (x.op = 4 → x.value = g.queued → g.queued + x.length ≤ g.total → ∃ (t : State) (g' : Staging), Gives .update s t ∧ t.boot.staging = some g' ∧ g'.queued = g.queued + x.length ∧
        g'.written = g.written + x.length ∧ g'.state = .receiving) ∧
      (x.op = 5 → g.queued = g.total → ∃ (t : State) (g' : Staging), Gives .update s t ∧ t.boot.staging = some g' ∧ g'.state = .closing))) ∧
  (∀ (s : State) (g : Staging) (k : Nat), s.pair.inbox = [] → s.boot.staging = some g → g.relayAt = some k → s.paired = true → s.hallFree = true → g.state = .closed →
    (k < g.total → ∃ (t : State) (x : Relay) (g' : Staging), Gives .update s t ∧ SentOne s t (.update x) ∧ x.op = 4 ∧ x.value = k ∧ x.length = min 1432 (g.total - k) ∧ t.boot.staging = some g' ∧
      g'.relayAt = some (k + min 1432 (g.total - k))) ∧
    (g.total ≤ k → ∃ (t : State) (g' : Staging), Gives .update s t ∧ SentOne s t (.update (relayAnswer 5 0)) ∧ t.boot.staging = some g' ∧ g'.relayAt = none))

/-- R854 to R859 (with log entry 44): who opens an association; an idle one closes after 300 s; records run one at a time in their order, four wait, more are discarded, and a
repeated record is answered again and not run; frames cross the bridge unless they are the device's or a relay's; echo requests and solicitations are answered. -/
def Obligations.ManagementNetwork : Prop :=
  (∀ (s : State) (anchor serial : Option Nat), s.mgmtUp = true → s.hallFree = true →
    (∀ a, anchor = some a → a ∈ s.boot.anchors →
      ((∀ n, n < 4 → (mfind s.boot.assocs n).isSome = true) → Gives (.dtlsHandshake anchor serial) s (s.bumpN Ctr.hallAssocRejected 1)) ∧
      (∀ n, n < 4 → mfind s.boot.assocs n = none → (∀ k, k < n → (mfind s.boot.assocs k).isSome = true) →
        Gives (.dtlsHandshake anchor serial) s ({ s with boot := { s.boot with assocs := mput s.boot.assocs n { relay := false, lastNt := s.nt } } }))) ∧
    ((∀ a, anchor = some a → a ∉ s.boot.anchors) →
      (∀ d, serial = some d → s.boot.acceptedFrom = some d → mfind s.boot.assocs 4 = none →
        Gives (.dtlsHandshake anchor serial) s ({ s with boot := { s.boot with assocs := mput s.boot.assocs 4 { relay := true, lastNt := s.nt } } })) ∧
      ((∀ d, serial = some d → s.boot.acceptedFrom ≠ some d) → Gives (.dtlsHandshake anchor serial) s (s.bumpN Ctr.hallAssocRejected 1)))) ∧
  (∀ (s : State) (n : Nat) (a : Assoc), mfind s.boot.assocs n = some a → s.hallFree = true → Ascending s.boot.assocs →
    (s.nt < a.lastNt + 300 * 16000000000 → Gives (.associationIdle n) s s) ∧
    (a.lastNt + 300 * 16000000000 ≤ s.nt → ∃ t : State, Gives (.associationIdle n) s t ∧ mfind t.boot.assocs n = none ∧
      ∀ k, k ≠ n → mfind t.boot.assocs k = mfind s.boot.assocs k)) ∧
  (∀ (s : State) (n : Nat) (a : Assoc) (b : Bytes), mfind s.boot.assocs n = some a → s.mgmtUp = true → s.hallFree = true →
    (∀ st op, b = a.lastRecord → a.waitingRecs = [] → a.keptReply = some (st, op) → ∃ t : State, Gives (.commandRecord n (some b)) s t ∧
      t.out = s.out ++ [.mgmtReply n op st.status st.detail st.info st.reply] ∧ ∃ a', mfind t.boot.assocs n = some a' ∧ a'.running = a.running) ∧
    (b ≠ a.lastTaken → (a.running ≠ none ∨ a.waitingRecs ≠ []) → a.waitingRecs.length < 4 → ∃ (t : State) (a' : Assoc), Gives (.commandRecord n (some b)) s t ∧ mfind t.boot.assocs n = some a' ∧
      a'.waitingRecs = a.waitingRecs ++ [b] ∧ a'.running = a.running) ∧
    (b ≠ a.lastTaken → 4 ≤ a.waitingRecs.length → ∃ (t : State) (a' : Assoc), Gives (.commandRecord n (some b)) s t ∧ mfind t.boot.assocs n = some a' ∧ a'.waitingRecs = a.waitingRecs ∧
      t.ctr Ctr.hallRecordsDiscarded = rose (s.ctr Ctr.hallRecordsDiscarded) 1) ∧
    (b ≠ a.lastTaken → a.running = none → a.waitingRecs = [] → ∃ (t : State) (a' : Assoc), Gives (.commandRecord n (some b)) s t ∧ mfind t.boot.assocs n = some a' ∧ a'.lastRecord = b ∧
      let c := recordCmd b (9 + n) s.nt s.host.orderCtr
      let u : State := { s with host := { s.host with orderCtr := s.host.orderCtr + 1 }, boot := { s.boot with assocs := mput s.boot.assocs n { a with lastNt := s.nt, running := some c, lastRecord := b, keptReply := none } } }
      c.hdr.opcode = leAt b 0 2 ∧ c.hdr.seqTag = leAt b 4 4 ∧ c.hdr.partition = leAt b 8 1 ∧ c.hdr.paramLength = leAt b 0x0C 4 ∧
      (∀ i, opInfo (leAt b 0 2) = some i → c.params = some (slice b 32 i.size) ∧ c.inline = b.drop (32 + i.size)) ∧
      ((b.length ≠ 32 + leAt b 0x0C 4 ∨ 16384 < b.length) → ∃ off, c.hdr.rsvAt = some off ∧ off ≤ 12) ∧
      ((u.fenced c = true ∨ u.outOfTurn (4096 + n) c = true) → t = u) ∧
      (u.fenced c = false → u.outOfTurn (4096 + n) c = false → (headCheck u c = none → t = u) ∧
        ∀ st, headCheck u c = some st → t = u.rejectHead (4096 + n) c st))) ∧
  (∀ (s : State) (n : Nat) (a : Assoc) (r : Bytes) (rest : List Bytes), mfind s.boot.assocs n = some a → s.mgmtUp = true → s.hallFree = true → a.waitingRecs = r :: rest →
    (a.running ≠ none → Gives (.commandRecord n none) s s) ∧
    (a.running = none → ∃ (t : State) (a' : Assoc), Gives (.commandRecord n none) s t ∧ mfind t.boot.assocs n = some a' ∧ a'.waitingRecs = rest ∧ a'.lastRecord = r)) ∧
  (∀ (s : State) (port : Nat) (f : Bytes), s.mgmtUp = true → s.hallFree = true →
    ((f.take 6 = s.portMac 0 ∨ f.take 6 = s.portMac 1 ∨ isRelay f = true) → Gives (.bridgeFrame port f) s s) ∧
    (f.take 6 ≠ s.portMac 0 → f.take 6 ≠ s.portMac 1 → isRelay f = false → ∃ t : State, Gives (.bridgeFrame port f) s t ∧ t.out = s.out ++ [.mgmtFrame (1 - port) f] ∧
      t.ctr Ctr.hallFramesBridged = rose (s.ctr Ctr.hallFramesBridged) 1 ∧ t.boot = s.boot)) ∧
  (∀ (s : State) (port : Nat) (f msg : Bytes), s.mgmtUp = true → s.hallFree = true → icmpOf f = some msg →
    (beAt msg 0 1 = 128 → beAt msg 1 1 = 0 → slice f 38 16 = s.linkLocal → ∃ (t : State) (hop : Nat), Gives (.neighbourDiscovery port f) s t ∧ 1 ≤ hop ∧ hop ≤ 255 ∧
      t.out = s.out ++ [.mgmtFrame port (s.icmpFrame port (slice f 6 6) (slice f 22 16) hop 129 (msg.drop 4))]) ∧
    (∀ g, beAt msg 0 1 = 135 → s.advertise port f msg = some g → Gives (.neighbourDiscovery port f) s ({ s with out := s.out ++ [.mgmtFrame port g] })) ∧
    (beAt msg 0 1 ≠ 128 → beAt msg 0 1 ≠ 135 → Gives (.neighbourDiscovery port f) s s))

/-! ### The whole device -/

namespace Sys2Proof.Claims

/-- Table 22-2: the bits that are reserved. -/
abbrev reservedSticky (n : Nat) : Prop :=
  100 ≤ n ∧ n ≤ 103 ∨ 109 ≤ n ∧ n ≤ 111 ∨ 115 ≤ n ∧ n ≤ 119 ∨ 123 ≤ n ∧ n ≤ 127 ∨ 138 ≤ n ∧ n ≤ 159 ∨ 165 ≤ n ∧ n ≤ 191 ∨ 193 ≤ n ∧ n ≤ 199 ∨ 205 ≤ n

/-- R805, R808, Table 22-2: no reserved sticky bit is set, and FAULT_N is asserted exactly while a bit of its column is. -/
abbrev StickyInv (s : State) : Prop :=
  (∀ n, reservedSticky n → s.stickyBit n = false) ∧ (s.power.faultN = true ↔ ∃ n, n < 256 ∧ stickyFaultN n = true ∧ s.stickyBit n = true)

end Sys2Proof.Claims

/-- R805, R808 over every command and state: whatever a step does, no reserved sticky bit becomes set and FAULT_N keeps following the bits of its column. -/
def Obligations.FaultPinFollowsSticky : Prop := ∀ s t : State, StickyInv s → step s = .next t → StickyInv t

/-- Over every command and state (the model's own frame, log entries 1 and 3): a step never changes the part, takes at most the front of the queue, and only appends to what
the device has driven out. -/
def Obligations.StepsKeepQueueAndOutputs : Prop :=
  ∀ s t : State, step s = .next t → t.part = s.part ∧ t.pending = s.pending.tail ∧ s.out <+: t.out

/-- R513, R521, R735, R760, R805, R808, R827 (the values that the manual gives; those of log entries 5 and 15 are the model's): right after reset the device waits for its ROM stage, no lane is up, every
partition is UNCONFIGURED, the pair is UNPAIRED, the time base is UNSET, counters and sticky bits are clear, and no command waits. -/
def Obligations.ResetLeaves : Prop :=
  let s := State.reset
  StickyInv s ∧ s.sticky = 0#256 ∧ s.power.faultN = false ∧ s.counters = [] ∧ s.pending = [] ∧ s.boot.stage = .rom ∧ s.pair.state = .unpaired ∧
  s.time.state = .unset ∧ s.nt = 0 ∧ (∀ p, (s.partOf p).state = .unconfigured) ∧ (∀ n, (s.lane n).up = false ∧ s.laneLive n = false) ∧
  (∀ i, (s.tile i).mem = []) ∧ (∀ b, s.queueOf b = [])
end

