-- ==== Sys2Proof/Laws/Tab.lean ====
section
/-!
SUPPORT. Laws/Tab.lean: reads after writes of numbered tables and of sparse memory, and the forms that writes keep.
-/
namespace Sys2Proof.Machine

/-! ### Tables -/

section
variable {α : Type}

@[simp] theorem mget_mput_same (d : α) (t : Tab α) (k : Nat) (a : α) : mget d (mput t k a) k = a := by
  induction t with
  | nil => simp [mput, mget]
  | cons x t ih =>
    obtain ⟨i, b⟩ := x
    simp only [mput]
    split
    · simp [mget]
    · split
      · simp [mget]
      · rename_i h
        simp [mget, Ne.symm h, ih]

theorem mget_mput_other (d : α) (t : Tab α) {k j : Nat} (a : α) (h : j ≠ k) : mget d (mput t k a) j = mget d t j := by
  induction t with
  | nil => simp [mput, mget, Ne.symm h]
  | cons x t ih =>
    obtain ⟨i, b⟩ := x
    simp only [mput]
    split
    · simp [mget, Ne.symm h]
    · split
      · rename_i hk
        subst hk
        simp [mget, Ne.symm h]
      · simp [mget, ih]

@[simp] theorem mfind_mput_same (t : Tab α) (k : Nat) (a : α) : mfind (mput t k a) k = some a := by
  induction t with
  | nil => simp [mput, mfind]
  | cons x t ih =>
    obtain ⟨i, b⟩ := x
    simp only [mput]
    split
    · simp [mfind]
    · split
      · simp [mfind]
      · rename_i h
        simp [mfind, Ne.symm h, ih]

theorem mfind_mput_other (t : Tab α) {k j : Nat} (a : α) (h : j ≠ k) : mfind (mput t k a) j = mfind t j := by
  induction t with
  | nil => simp [mput, mfind, Ne.symm h]
  | cons x t ih =>
    obtain ⟨i, b⟩ := x
    simp only [mput]
    split
    · simp [mfind, Ne.symm h]
    · split
      · rename_i hk
        subst hk
        simp [mfind, Ne.symm h]
      · simp [mfind, ih]

theorem mget_eq_mfind (d : α) (t : Tab α) (k : Nat) : mget d t k = (mfind t k).getD d := by
  induction t with
  | nil => rfl
  | cons x t ih =>
    obtain ⟨i, b⟩ := x
    simp only [mget, mfind]
    split
    · rfl
    · exact ih

theorem mem_mput {t : Tab α} {k : Nat} {a : α} {x : Nat × α} (h : x ∈ mput t k a) : x = (k, a) ∨ x ∈ t := by
  induction t with
  | nil => simpa [mput] using h
  | cons y t ih =>
    obtain ⟨i, b⟩ := y
    simp only [mput] at h
    split at h
    · simpa using h
    · split at h
      · rcases List.mem_cons.1 h with h | h
        · exact .inl h
        · exact .inr (List.mem_cons_of_mem _ h)
      · rcases List.mem_cons.1 h with h | h
        · exact .inr (h ▸ List.mem_cons_self ..)
        · exact (ih h).imp_right (List.mem_cons_of_mem _)

/-- The numbers of a table rise. -/
def Rising (t : Tab α) : Prop := t.Pairwise (fun x y => x.1 < y.1)

theorem Rising.mput {t : Tab α} (h : Rising t) (k : Nat) (a : α) : Rising (mput t k a) := by
  induction t with
  | nil => simp [Machine.mput, Rising]
  | cons y t ih =>
    obtain ⟨i, b⟩ := y
    obtain ⟨h1, h2⟩ := List.pairwise_cons.1 h
    simp only [Machine.mput]
    split
    · rename_i hk
      refine List.pairwise_cons.2 ⟨fun x hx => ?_, h⟩
      rcases List.mem_cons.1 hx with rfl | hx
      · exact hk
      · exact Nat.lt_trans hk (h1 x hx)
    · split
      · rename_i hk
        subst hk
        exact List.pairwise_cons.2 ⟨h1, h2⟩
      · refine List.pairwise_cons.2 ⟨fun x hx => ?_, ih h2⟩
        rcases mem_mput hx with rfl | hx
        · show i < k
          omega
        · exact h1 x hx

theorem mem_of_mem_mdel {t : Tab α} {k : Nat} {x : Nat × α} (h : x ∈ mdel t k) : x ∈ t := by
  induction t with
  | nil => simp [mdel] at h
  | cons y t ih =>
    obtain ⟨i, b⟩ := y
    simp only [mdel] at h
    split at h
    · exact List.mem_cons_of_mem _ h
    · rcases List.mem_cons.1 h with h | h
      · exact h ▸ List.mem_cons_self ..
      · exact List.mem_cons_of_mem _ (ih h)

theorem Rising.mdel {t : Tab α} (h : Rising t) (k : Nat) : Rising (mdel t k) := by
  induction t with
  | nil => simp [Machine.mdel, Rising]
  | cons y t ih =>
    obtain ⟨i, b⟩ := y
    obtain ⟨h1, h2⟩ := List.pairwise_cons.1 h
    simp only [Machine.mdel]
    split
    · exact h2
    · exact List.pairwise_cons.2 ⟨fun x hx => h1 x (mem_of_mem_mdel hx), ih h2⟩

theorem mfind_eq_none {t : Tab α} {k : Nat} (h : ∀ x ∈ t, x.1 ≠ k) : mfind t k = none := by
  induction t with
  | nil => rfl
  | cons y t ih =>
    obtain ⟨i, b⟩ := y
    simp only [mfind, if_neg (h (i, b) (List.mem_cons_self ..))]
    exact ih (fun x hx => h x (List.mem_cons_of_mem _ hx))

theorem mfind_mdel_same {t : Tab α} (h : Rising t) (k : Nat) : mfind (mdel t k) k = none := by
  induction t with
  | nil => rfl
  | cons y t ih =>
    obtain ⟨i, b⟩ := y
    obtain ⟨h1, h2⟩ := List.pairwise_cons.1 h
    simp only [mdel]
    split
    · rename_i hk
      exact mfind_eq_none (fun x hx => by have := h1 x hx; simp at this; omega)
    · rename_i hk
      simp only [mfind, if_neg hk]
      exact ih h2

theorem mfind_mdel_other (t : Tab α) {k j : Nat} (h : j ≠ k) : mfind (mdel t k) j = mfind t j := by
  induction t with
  | nil => rfl
  | cons y t ih =>
    obtain ⟨i, b⟩ := y
    simp only [mdel]
    split
    · rename_i hk
      subst hk
      simp [mfind, Ne.symm h]
    · simp [mfind, ih]

theorem mem_of_mfind {t : Tab α} {k : Nat} {a : α} (h : mfind t k = some a) : (k, a) ∈ t := by
  induction t with
  | nil => simp [mfind] at h
  | cons y t ih =>
    obtain ⟨i, b⟩ := y
    simp only [mfind] at h
    split at h
    · rename_i hk
      subst hk
      cases h
      exact List.mem_cons_self ..
    · exact List.mem_cons_of_mem _ (ih h)

theorem mfind_of_mem {t : Tab α} (hr : Rising t) {k : Nat} {a : α} (h : (k, a) ∈ t) : mfind t k = some a := by
  induction t with
  | nil => simp at h
  | cons y t ih =>
    obtain ⟨i, b⟩ := y
    obtain ⟨h1, h2⟩ := List.pairwise_cons.1 hr
    rcases List.mem_cons.1 h with h | h
    · cases h
      simp [mfind]
    · have := h1 _ h
      simp only [mfind]
      rw [if_neg (by simp at this; omega)]
      exact ih h2 h

end

/-! ### Sparse memory -/

theorem memGet_memPut (m : Mem) (a b : Nat) (v : Byte) (hw : memWf m = true) :
    memGet (memPut m a v) b = if b = a then v else memGet m b := by
  induction m with
  | nil =>
    simp only [memPut]
    split
    · rename_i hv
      simp [memGet, hv]
    · simp only [memGet]
      by_cases h : a = b
      · simp [h]
      · simp [h, Ne.symm h]
  | cons x m ih =>
    obtain ⟨i, c⟩ := x
    have hm : memWf m = true := by
      cases m with
      | nil => rfl
      | cons y m =>
        obtain ⟨j, d⟩ := y
        simp only [memWf, Bool.and_eq_true] at hw
        exact hw.2
    have low : ∀ (n : Mem) (j : Nat) (d : Byte) (e : Nat), memWf ((j, d) :: n) = true → e < j → memGet n e = 0 := by
      intro n
      induction n with
      | nil => intros; rfl
      | cons y n ihn =>
        intro j d e hj he
        obtain ⟨k, f⟩ := y
        simp only [memWf, Bool.and_eq_true, decide_eq_true_eq] at hj
        simp only [memGet]
        rw [if_neg (by omega)]
        exact ihn k f e hj.2 (by omega)
    simp only [memPut]
    split
    · rename_i ha
      split
      · rename_i hv
        by_cases h : b = a
        · subst h
          simp only [memGet, if_neg (Nat.ne_of_gt ha), if_true, hv]
          exact low m i c b hw ha
        · rw [if_neg h]
      · by_cases h : b = a
        · simp [memGet, h]
        · rw [if_neg h]
          simp only [memGet, if_neg (Ne.symm h)]
    · split
      · rename_i ha
        subst ha
        split
        · rename_i hv
          by_cases h : b = a
          · subst h
            simp only [if_true, hv]
            cases m with
            | nil => rfl
            | cons y m =>
              obtain ⟨j, d⟩ := y
              simp only [memWf, Bool.and_eq_true, decide_eq_true_eq] at hw
              simp only [memGet]
              rw [if_neg (by omega)]
              exact low m j d b hw.2 (by omega)
          · rw [if_neg h]
            simp only [memGet, if_neg (Ne.symm h)]
        · by_cases h : b = a
          · simp [memGet, h]
          · rw [if_neg h]
            simp only [memGet, if_neg (Ne.symm h)]
      · rename_i h1 h2
        simp only [memGet, ih hm]
        by_cases h : i = b
        · subst h
          simp [Ne.symm h2]
        · simp [h]

theorem memWf_cons {i : Nat} {b : Byte} {m : Mem} :
    memWf ((i, b) :: m) = true ↔ b ≠ 0 ∧ (∀ x ∈ m, i < x.1) ∧ memWf m = true := by
  induction m generalizing i b with
  | nil => simp [memWf]
  | cons y m ih =>
    obtain ⟨j, c⟩ := y
    simp only [memWf, Bool.and_eq_true, bne_iff_ne, decide_eq_true_eq]
    constructor
    · rintro ⟨⟨h1, h2⟩, h3⟩
      refine ⟨h1, fun x hx => ?_, h3⟩
      rcases List.mem_cons.1 hx with rfl | hx
      · exact h2
      · exact Nat.lt_trans h2 ((ih.1 h3).2.1 x hx)
    · rintro ⟨h1, h2, h3⟩
      exact ⟨⟨h1, h2 (j, c) (List.mem_cons_self ..)⟩, h3⟩

theorem mem_memPut {m : Mem} {a : Nat} {v : Byte} {x : Nat × Byte} (h : x ∈ memPut m a v) : x = (a, v) ∨ x ∈ m := by
  induction m with
  | nil =>
    simp only [memPut] at h
    split at h <;> simp_all
  | cons y m ih =>
    obtain ⟨i, b⟩ := y
    simp only [memPut] at h
    split at h
    · split at h <;> simp_all
    · split at h
      · split at h
        · exact .inr (List.mem_cons_of_mem _ h)
        · rcases List.mem_cons.1 h with h | h
          · exact .inl h
          · exact .inr (List.mem_cons_of_mem _ h)
      · rcases List.mem_cons.1 h with h | h
        · exact .inr (h ▸ List.mem_cons_self ..)
        · exact (ih h).imp_right (List.mem_cons_of_mem _)

/-- A store of one byte keeps the canonical form. -/
theorem memWf_memPut {m : Mem} (h : memWf m = true) (a : Nat) (v : Byte) : memWf (memPut m a v) = true := by
  induction m with
  | nil =>
    simp only [memPut]
    split
    · rfl
    · rename_i hv
      exact memWf_cons.2 ⟨hv, by simp, rfl⟩
  | cons y m ih =>
    obtain ⟨i, b⟩ := y
    obtain ⟨h1, h2, h3⟩ := memWf_cons.1 h
    simp only [memPut]
    split
    · rename_i ha
      split
      · exact h
      · rename_i hv
        refine memWf_cons.2 ⟨hv, fun x hx => ?_, h⟩
        rcases List.mem_cons.1 hx with rfl | hx
        · exact ha
        · exact Nat.lt_trans ha (h2 x hx)
    · split
      · rename_i ha
        subst ha
        split
        · exact h3
        · rename_i hv
          exact memWf_cons.2 ⟨hv, h2, h3⟩
      · refine memWf_cons.2 ⟨h1, fun x hx => ?_, ih h3⟩
        rcases mem_memPut hx with rfl | hx
        · show i < a
          omega
        · exact h2 x hx

/-- A store of a string keeps the canonical form. -/
theorem memWf_memWrite {m : Mem} (h : memWf m = true) (a : Nat) (bs : Bytes) : memWf (memWrite m a bs) = true := by
  induction bs generalizing m a with
  | nil => exact h
  | cons b bs ih => exact ih (memWf_memPut h a b) (a + 1)

/-- Clearing a range keeps the canonical form. -/
theorem memWf_memClear {m : Mem} (h : memWf m = true) (lo hi : Nat) : memWf (memClear m lo hi) = true := by
  induction m with
  | nil => rfl
  | cons y m ih =>
    obtain ⟨i, b⟩ := y
    obtain ⟨h1, h2, h3⟩ := memWf_cons.1 h
    unfold memClear at ih ⊢
    rw [List.filter_cons]
    split
    · exact memWf_cons.2 ⟨h1, fun x hx => h2 x (List.mem_filter.1 hx).1, ih h3⟩
    · exact ih h3

theorem length_memRead (m : Mem) (a n : Nat) : (memRead m a n).length = n := by
  induction n generalizing a with
  | zero => rfl
  | succ n ih => simp [memRead, ih]

theorem getElem?_memRead (m : Mem) (a n k : Nat) (h : k < n) : (memRead m a n)[k]? = some (memGet m (a + k)) := by
  induction n generalizing a k with
  | zero => omega
  | succ n ih =>
    cases k with
    | zero => simp [memRead]
    | succ k =>
      simp only [memRead, List.getElem?_cons_succ]
      rw [ih (a + 1) k (by omega)]
      congr 2
      omega

end Sys2Proof.Machine
end

