-- ==== Sys2Proof/Laws/State.lean ====
section
/-!
SUPPORT. Laws/State.lean: what each update of the state leaves as it is, field by field, and what it reads back as.
-/
namespace Sys2Proof.Machine

/-! ### Fields that an update leaves -/

@[simp] theorem State.bumpN_part (s : State) (id n : Nat) : (s.bumpN id n).part = s.part := rfl

@[simp] theorem State.bumpN_time (s : State) (id n : Nat) : (s.bumpN id n).time = s.time := rfl

@[simp] theorem State.bumpN_host (s : State) (id n : Nat) : (s.bumpN id n).host = s.host := rfl

@[simp] theorem State.bumpN_obs (s : State) (id n : Nat) : (s.bumpN id n).obs = s.obs := rfl

@[simp] theorem State.bumpN_health (s : State) (id n : Nat) : (s.bumpN id n).health = s.health := rfl

@[simp] theorem State.bumpN_rqs (s : State) (id n : Nat) : (s.bumpN id n).rqs = s.rqs := rfl

@[simp] theorem State.bumpN_parts (s : State) (id n : Nat) : (s.bumpN id n).parts = s.parts := rfl

@[simp] theorem State.bumpN_hall (s : State) (id n : Nat) : (s.bumpN id n).hall = s.hall := rfl

@[simp] theorem State.bumpN_exp (s : State) (id n : Nat) : (s.bumpN id n).exp = s.exp := rfl

@[simp] theorem State.bumpN_wing0 (s : State) (id n : Nat) : (s.bumpN id n).wing0 = s.wing0 := rfl

@[simp] theorem State.bumpN_wing1 (s : State) (id n : Nat) : (s.bumpN id n).wing1 = s.wing1 := rfl

@[simp] theorem State.bumpN_tiles (s : State) (id n : Nat) : (s.bumpN id n).tiles = s.tiles := rfl

@[simp] theorem State.bumpN_sec (s : State) (id n : Nat) : (s.bumpN id n).sec = s.sec := rfl

@[simp] theorem State.bumpN_pair (s : State) (id n : Nat) : (s.bumpN id n).pair = s.pair := rfl

@[simp] theorem State.bumpN_boot (s : State) (id n : Nat) : (s.bumpN id n).boot = s.boot := rfl

@[simp] theorem State.bumpN_power (s : State) (id n : Nat) : (s.bumpN id n).power = s.power := rfl

@[simp] theorem State.bumpN_settings (s : State) (id n : Nat) : (s.bumpN id n).settings = s.settings := rfl

@[simp] theorem State.bumpN_sticky (s : State) (id n : Nat) : (s.bumpN id n).sticky = s.sticky := rfl

@[simp] theorem State.bumpN_free (s : State) (id n : Nat) : (s.bumpN id n).free = s.free := rfl

@[simp] theorem State.bumpN_out (s : State) (id n : Nat) : (s.bumpN id n).out = s.out := rfl

@[simp] theorem State.bumpN_pending (s : State) (id n : Nat) : (s.bumpN id n).pending = s.pending := rfl

@[simp] theorem State.bump_part (s : State) (id : Nat) : (s.bump id).part = s.part := rfl

@[simp] theorem State.bump_time (s : State) (id : Nat) : (s.bump id).time = s.time := rfl

@[simp] theorem State.bump_host (s : State) (id : Nat) : (s.bump id).host = s.host := rfl

@[simp] theorem State.bump_obs (s : State) (id : Nat) : (s.bump id).obs = s.obs := rfl

@[simp] theorem State.bump_health (s : State) (id : Nat) : (s.bump id).health = s.health := rfl

@[simp] theorem State.bump_rqs (s : State) (id : Nat) : (s.bump id).rqs = s.rqs := rfl

@[simp] theorem State.bump_parts (s : State) (id : Nat) : (s.bump id).parts = s.parts := rfl

@[simp] theorem State.bump_hall (s : State) (id : Nat) : (s.bump id).hall = s.hall := rfl

@[simp] theorem State.bump_exp (s : State) (id : Nat) : (s.bump id).exp = s.exp := rfl

@[simp] theorem State.bump_wing0 (s : State) (id : Nat) : (s.bump id).wing0 = s.wing0 := rfl

@[simp] theorem State.bump_wing1 (s : State) (id : Nat) : (s.bump id).wing1 = s.wing1 := rfl

@[simp] theorem State.bump_tiles (s : State) (id : Nat) : (s.bump id).tiles = s.tiles := rfl

@[simp] theorem State.bump_sec (s : State) (id : Nat) : (s.bump id).sec = s.sec := rfl

@[simp] theorem State.bump_pair (s : State) (id : Nat) : (s.bump id).pair = s.pair := rfl

@[simp] theorem State.bump_boot (s : State) (id : Nat) : (s.bump id).boot = s.boot := rfl

@[simp] theorem State.bump_power (s : State) (id : Nat) : (s.bump id).power = s.power := rfl

@[simp] theorem State.bump_settings (s : State) (id : Nat) : (s.bump id).settings = s.settings := rfl

@[simp] theorem State.bump_sticky (s : State) (id : Nat) : (s.bump id).sticky = s.sticky := rfl

@[simp] theorem State.bump_free (s : State) (id : Nat) : (s.bump id).free = s.free := rfl

@[simp] theorem State.bump_out (s : State) (id : Nat) : (s.bump id).out = s.out := rfl

@[simp] theorem State.bump_pending (s : State) (id : Nat) : (s.bump id).pending = s.pending := rfl

@[simp] theorem State.setCtr_part (s : State) (id v : Nat) : (s.setCtr id v).part = s.part := rfl

@[simp] theorem State.setCtr_time (s : State) (id v : Nat) : (s.setCtr id v).time = s.time := rfl

@[simp] theorem State.setCtr_host (s : State) (id v : Nat) : (s.setCtr id v).host = s.host := rfl

@[simp] theorem State.setCtr_obs (s : State) (id v : Nat) : (s.setCtr id v).obs = s.obs := rfl

@[simp] theorem State.setCtr_health (s : State) (id v : Nat) : (s.setCtr id v).health = s.health := rfl

@[simp] theorem State.setCtr_rqs (s : State) (id v : Nat) : (s.setCtr id v).rqs = s.rqs := rfl

@[simp] theorem State.setCtr_parts (s : State) (id v : Nat) : (s.setCtr id v).parts = s.parts := rfl

@[simp] theorem State.setCtr_hall (s : State) (id v : Nat) : (s.setCtr id v).hall = s.hall := rfl

@[simp] theorem State.setCtr_exp (s : State) (id v : Nat) : (s.setCtr id v).exp = s.exp := rfl

@[simp] theorem State.setCtr_wing0 (s : State) (id v : Nat) : (s.setCtr id v).wing0 = s.wing0 := rfl

@[simp] theorem State.setCtr_wing1 (s : State) (id v : Nat) : (s.setCtr id v).wing1 = s.wing1 := rfl

@[simp] theorem State.setCtr_tiles (s : State) (id v : Nat) : (s.setCtr id v).tiles = s.tiles := rfl

@[simp] theorem State.setCtr_sec (s : State) (id v : Nat) : (s.setCtr id v).sec = s.sec := rfl

@[simp] theorem State.setCtr_pair (s : State) (id v : Nat) : (s.setCtr id v).pair = s.pair := rfl

@[simp] theorem State.setCtr_boot (s : State) (id v : Nat) : (s.setCtr id v).boot = s.boot := rfl

@[simp] theorem State.setCtr_power (s : State) (id v : Nat) : (s.setCtr id v).power = s.power := rfl

@[simp] theorem State.setCtr_settings (s : State) (id v : Nat) : (s.setCtr id v).settings = s.settings := rfl

@[simp] theorem State.setCtr_sticky (s : State) (id v : Nat) : (s.setCtr id v).sticky = s.sticky := rfl

@[simp] theorem State.setCtr_free (s : State) (id v : Nat) : (s.setCtr id v).free = s.free := rfl

@[simp] theorem State.setCtr_out (s : State) (id v : Nat) : (s.setCtr id v).out = s.out := rfl

@[simp] theorem State.setCtr_pending (s : State) (id v : Nat) : (s.setCtr id v).pending = s.pending := rfl

@[simp] theorem State.emit_part (s : State) (o : Output) : (s.emit o).part = s.part := rfl

@[simp] theorem State.emit_time (s : State) (o : Output) : (s.emit o).time = s.time := rfl

@[simp] theorem State.emit_host (s : State) (o : Output) : (s.emit o).host = s.host := rfl

@[simp] theorem State.emit_obs (s : State) (o : Output) : (s.emit o).obs = s.obs := rfl

@[simp] theorem State.emit_health (s : State) (o : Output) : (s.emit o).health = s.health := rfl

@[simp] theorem State.emit_rqs (s : State) (o : Output) : (s.emit o).rqs = s.rqs := rfl

@[simp] theorem State.emit_parts (s : State) (o : Output) : (s.emit o).parts = s.parts := rfl

@[simp] theorem State.emit_hall (s : State) (o : Output) : (s.emit o).hall = s.hall := rfl

@[simp] theorem State.emit_exp (s : State) (o : Output) : (s.emit o).exp = s.exp := rfl

@[simp] theorem State.emit_wing0 (s : State) (o : Output) : (s.emit o).wing0 = s.wing0 := rfl

@[simp] theorem State.emit_wing1 (s : State) (o : Output) : (s.emit o).wing1 = s.wing1 := rfl

@[simp] theorem State.emit_tiles (s : State) (o : Output) : (s.emit o).tiles = s.tiles := rfl

@[simp] theorem State.emit_sec (s : State) (o : Output) : (s.emit o).sec = s.sec := rfl

@[simp] theorem State.emit_pair (s : State) (o : Output) : (s.emit o).pair = s.pair := rfl

@[simp] theorem State.emit_boot (s : State) (o : Output) : (s.emit o).boot = s.boot := rfl

@[simp] theorem State.emit_power (s : State) (o : Output) : (s.emit o).power = s.power := rfl

@[simp] theorem State.emit_settings (s : State) (o : Output) : (s.emit o).settings = s.settings := rfl

@[simp] theorem State.emit_counters (s : State) (o : Output) : (s.emit o).counters = s.counters := rfl

@[simp] theorem State.emit_sticky (s : State) (o : Output) : (s.emit o).sticky = s.sticky := rfl

@[simp] theorem State.emit_free (s : State) (o : Output) : (s.emit o).free = s.free := rfl

@[simp] theorem State.emit_pending (s : State) (o : Output) : (s.emit o).pending = s.pending := rfl

@[simp] theorem State.nextFree_part (s : State) : (s.nextFree).part = s.part := rfl

@[simp] theorem State.nextFree_time (s : State) : (s.nextFree).time = s.time := rfl

@[simp] theorem State.nextFree_host (s : State) : (s.nextFree).host = s.host := rfl

@[simp] theorem State.nextFree_obs (s : State) : (s.nextFree).obs = s.obs := rfl

@[simp] theorem State.nextFree_health (s : State) : (s.nextFree).health = s.health := rfl

@[simp] theorem State.nextFree_rqs (s : State) : (s.nextFree).rqs = s.rqs := rfl

@[simp] theorem State.nextFree_parts (s : State) : (s.nextFree).parts = s.parts := rfl

@[simp] theorem State.nextFree_hall (s : State) : (s.nextFree).hall = s.hall := rfl

@[simp] theorem State.nextFree_exp (s : State) : (s.nextFree).exp = s.exp := rfl

@[simp] theorem State.nextFree_wing0 (s : State) : (s.nextFree).wing0 = s.wing0 := rfl

@[simp] theorem State.nextFree_wing1 (s : State) : (s.nextFree).wing1 = s.wing1 := rfl

@[simp] theorem State.nextFree_tiles (s : State) : (s.nextFree).tiles = s.tiles := rfl

@[simp] theorem State.nextFree_sec (s : State) : (s.nextFree).sec = s.sec := rfl

@[simp] theorem State.nextFree_pair (s : State) : (s.nextFree).pair = s.pair := rfl

@[simp] theorem State.nextFree_boot (s : State) : (s.nextFree).boot = s.boot := rfl

@[simp] theorem State.nextFree_power (s : State) : (s.nextFree).power = s.power := rfl

@[simp] theorem State.nextFree_settings (s : State) : (s.nextFree).settings = s.settings := rfl

@[simp] theorem State.nextFree_counters (s : State) : (s.nextFree).counters = s.counters := rfl

@[simp] theorem State.nextFree_sticky (s : State) : (s.nextFree).sticky = s.sticky := rfl

@[simp] theorem State.nextFree_out (s : State) : (s.nextFree).out = s.out := rfl

@[simp] theorem State.nextFree_pending (s : State) : (s.nextFree).pending = s.pending := rfl

@[simp] theorem State.setBuf_part (s : State) (b : Nat) (t : TraceBuf) : (s.setBuf b t).part = s.part := rfl

@[simp] theorem State.setBuf_time (s : State) (b : Nat) (t : TraceBuf) : (s.setBuf b t).time = s.time := rfl

@[simp] theorem State.setBuf_host (s : State) (b : Nat) (t : TraceBuf) : (s.setBuf b t).host = s.host := rfl

@[simp] theorem State.setBuf_health (s : State) (b : Nat) (t : TraceBuf) : (s.setBuf b t).health = s.health := rfl

@[simp] theorem State.setBuf_rqs (s : State) (b : Nat) (t : TraceBuf) : (s.setBuf b t).rqs = s.rqs := rfl

@[simp] theorem State.setBuf_parts (s : State) (b : Nat) (t : TraceBuf) : (s.setBuf b t).parts = s.parts := rfl

@[simp] theorem State.setBuf_hall (s : State) (b : Nat) (t : TraceBuf) : (s.setBuf b t).hall = s.hall := rfl

@[simp] theorem State.setBuf_exp (s : State) (b : Nat) (t : TraceBuf) : (s.setBuf b t).exp = s.exp := rfl

@[simp] theorem State.setBuf_wing0 (s : State) (b : Nat) (t : TraceBuf) : (s.setBuf b t).wing0 = s.wing0 := rfl

@[simp] theorem State.setBuf_wing1 (s : State) (b : Nat) (t : TraceBuf) : (s.setBuf b t).wing1 = s.wing1 := rfl

@[simp] theorem State.setBuf_tiles (s : State) (b : Nat) (t : TraceBuf) : (s.setBuf b t).tiles = s.tiles := rfl

@[simp] theorem State.setBuf_sec (s : State) (b : Nat) (t : TraceBuf) : (s.setBuf b t).sec = s.sec := rfl

@[simp] theorem State.setBuf_pair (s : State) (b : Nat) (t : TraceBuf) : (s.setBuf b t).pair = s.pair := rfl

@[simp] theorem State.setBuf_boot (s : State) (b : Nat) (t : TraceBuf) : (s.setBuf b t).boot = s.boot := rfl

@[simp] theorem State.setBuf_power (s : State) (b : Nat) (t : TraceBuf) : (s.setBuf b t).power = s.power := rfl

@[simp] theorem State.setBuf_settings (s : State) (b : Nat) (t : TraceBuf) : (s.setBuf b t).settings = s.settings := rfl

@[simp] theorem State.setBuf_counters (s : State) (b : Nat) (t : TraceBuf) : (s.setBuf b t).counters = s.counters := rfl

@[simp] theorem State.setBuf_sticky (s : State) (b : Nat) (t : TraceBuf) : (s.setBuf b t).sticky = s.sticky := rfl

@[simp] theorem State.setBuf_free (s : State) (b : Nat) (t : TraceBuf) : (s.setBuf b t).free = s.free := rfl

@[simp] theorem State.setBuf_out (s : State) (b : Nat) (t : TraceBuf) : (s.setBuf b t).out = s.out := rfl

@[simp] theorem State.setBuf_pending (s : State) (b : Nat) (t : TraceBuf) : (s.setBuf b t).pending = s.pending := rfl

@[simp] theorem State.setVec_part (s : State) (fn v : Nat) (x : Vec) : (s.setVec fn v x).part = s.part := rfl

@[simp] theorem State.setVec_time (s : State) (fn v : Nat) (x : Vec) : (s.setVec fn v x).time = s.time := rfl

@[simp] theorem State.setVec_obs (s : State) (fn v : Nat) (x : Vec) : (s.setVec fn v x).obs = s.obs := rfl

@[simp] theorem State.setVec_health (s : State) (fn v : Nat) (x : Vec) : (s.setVec fn v x).health = s.health := rfl

@[simp] theorem State.setVec_rqs (s : State) (fn v : Nat) (x : Vec) : (s.setVec fn v x).rqs = s.rqs := rfl

@[simp] theorem State.setVec_parts (s : State) (fn v : Nat) (x : Vec) : (s.setVec fn v x).parts = s.parts := rfl

@[simp] theorem State.setVec_hall (s : State) (fn v : Nat) (x : Vec) : (s.setVec fn v x).hall = s.hall := rfl

@[simp] theorem State.setVec_exp (s : State) (fn v : Nat) (x : Vec) : (s.setVec fn v x).exp = s.exp := rfl

@[simp] theorem State.setVec_wing0 (s : State) (fn v : Nat) (x : Vec) : (s.setVec fn v x).wing0 = s.wing0 := rfl

@[simp] theorem State.setVec_wing1 (s : State) (fn v : Nat) (x : Vec) : (s.setVec fn v x).wing1 = s.wing1 := rfl

@[simp] theorem State.setVec_tiles (s : State) (fn v : Nat) (x : Vec) : (s.setVec fn v x).tiles = s.tiles := rfl

@[simp] theorem State.setVec_sec (s : State) (fn v : Nat) (x : Vec) : (s.setVec fn v x).sec = s.sec := rfl

@[simp] theorem State.setVec_pair (s : State) (fn v : Nat) (x : Vec) : (s.setVec fn v x).pair = s.pair := rfl

@[simp] theorem State.setVec_boot (s : State) (fn v : Nat) (x : Vec) : (s.setVec fn v x).boot = s.boot := rfl

@[simp] theorem State.setVec_power (s : State) (fn v : Nat) (x : Vec) : (s.setVec fn v x).power = s.power := rfl

@[simp] theorem State.setVec_settings (s : State) (fn v : Nat) (x : Vec) : (s.setVec fn v x).settings = s.settings := rfl

@[simp] theorem State.setVec_counters (s : State) (fn v : Nat) (x : Vec) : (s.setVec fn v x).counters = s.counters := rfl

@[simp] theorem State.setVec_sticky (s : State) (fn v : Nat) (x : Vec) : (s.setVec fn v x).sticky = s.sticky := rfl

@[simp] theorem State.setVec_free (s : State) (fn v : Nat) (x : Vec) : (s.setVec fn v x).free = s.free := rfl

@[simp] theorem State.setVec_out (s : State) (fn v : Nat) (x : Vec) : (s.setVec fn v x).out = s.out := rfl

@[simp] theorem State.setVec_pending (s : State) (fn v : Nat) (x : Vec) : (s.setVec fn v x).pending = s.pending := rfl

@[simp] theorem State.setFunc_part (s : State) (f : Nat) (x : Func) : (s.setFunc f x).part = s.part := rfl

@[simp] theorem State.setFunc_time (s : State) (f : Nat) (x : Func) : (s.setFunc f x).time = s.time := rfl

@[simp] theorem State.setFunc_obs (s : State) (f : Nat) (x : Func) : (s.setFunc f x).obs = s.obs := rfl

@[simp] theorem State.setFunc_health (s : State) (f : Nat) (x : Func) : (s.setFunc f x).health = s.health := rfl

@[simp] theorem State.setFunc_rqs (s : State) (f : Nat) (x : Func) : (s.setFunc f x).rqs = s.rqs := rfl

@[simp] theorem State.setFunc_parts (s : State) (f : Nat) (x : Func) : (s.setFunc f x).parts = s.parts := rfl

@[simp] theorem State.setFunc_hall (s : State) (f : Nat) (x : Func) : (s.setFunc f x).hall = s.hall := rfl

@[simp] theorem State.setFunc_exp (s : State) (f : Nat) (x : Func) : (s.setFunc f x).exp = s.exp := rfl

@[simp] theorem State.setFunc_wing0 (s : State) (f : Nat) (x : Func) : (s.setFunc f x).wing0 = s.wing0 := rfl

@[simp] theorem State.setFunc_wing1 (s : State) (f : Nat) (x : Func) : (s.setFunc f x).wing1 = s.wing1 := rfl

@[simp] theorem State.setFunc_tiles (s : State) (f : Nat) (x : Func) : (s.setFunc f x).tiles = s.tiles := rfl

@[simp] theorem State.setFunc_sec (s : State) (f : Nat) (x : Func) : (s.setFunc f x).sec = s.sec := rfl

@[simp] theorem State.setFunc_pair (s : State) (f : Nat) (x : Func) : (s.setFunc f x).pair = s.pair := rfl

@[simp] theorem State.setFunc_boot (s : State) (f : Nat) (x : Func) : (s.setFunc f x).boot = s.boot := rfl

@[simp] theorem State.setFunc_power (s : State) (f : Nat) (x : Func) : (s.setFunc f x).power = s.power := rfl

@[simp] theorem State.setFunc_settings (s : State) (f : Nat) (x : Func) : (s.setFunc f x).settings = s.settings := rfl

@[simp] theorem State.setFunc_counters (s : State) (f : Nat) (x : Func) : (s.setFunc f x).counters = s.counters := rfl

@[simp] theorem State.setFunc_sticky (s : State) (f : Nat) (x : Func) : (s.setFunc f x).sticky = s.sticky := rfl

@[simp] theorem State.setFunc_free (s : State) (f : Nat) (x : Func) : (s.setFunc f x).free = s.free := rfl

@[simp] theorem State.setFunc_out (s : State) (f : Nat) (x : Func) : (s.setFunc f x).out = s.out := rfl

@[simp] theorem State.setFunc_pending (s : State) (f : Nat) (x : Func) : (s.setFunc f x).pending = s.pending := rfl

@[simp] theorem State.setPart_part (s : State) (p : Nat) (x : Partition) : (s.setPart p x).part = s.part := rfl

@[simp] theorem State.setPart_time (s : State) (p : Nat) (x : Partition) : (s.setPart p x).time = s.time := rfl

@[simp] theorem State.setPart_host (s : State) (p : Nat) (x : Partition) : (s.setPart p x).host = s.host := rfl

@[simp] theorem State.setPart_obs (s : State) (p : Nat) (x : Partition) : (s.setPart p x).obs = s.obs := rfl

@[simp] theorem State.setPart_health (s : State) (p : Nat) (x : Partition) : (s.setPart p x).health = s.health := rfl

@[simp] theorem State.setPart_rqs (s : State) (p : Nat) (x : Partition) : (s.setPart p x).rqs = s.rqs := rfl

@[simp] theorem State.setPart_hall (s : State) (p : Nat) (x : Partition) : (s.setPart p x).hall = s.hall := rfl

@[simp] theorem State.setPart_exp (s : State) (p : Nat) (x : Partition) : (s.setPart p x).exp = s.exp := rfl

@[simp] theorem State.setPart_wing0 (s : State) (p : Nat) (x : Partition) : (s.setPart p x).wing0 = s.wing0 := rfl

@[simp] theorem State.setPart_wing1 (s : State) (p : Nat) (x : Partition) : (s.setPart p x).wing1 = s.wing1 := rfl

@[simp] theorem State.setPart_tiles (s : State) (p : Nat) (x : Partition) : (s.setPart p x).tiles = s.tiles := rfl

@[simp] theorem State.setPart_sec (s : State) (p : Nat) (x : Partition) : (s.setPart p x).sec = s.sec := rfl

@[simp] theorem State.setPart_pair (s : State) (p : Nat) (x : Partition) : (s.setPart p x).pair = s.pair := rfl

@[simp] theorem State.setPart_boot (s : State) (p : Nat) (x : Partition) : (s.setPart p x).boot = s.boot := rfl

@[simp] theorem State.setPart_power (s : State) (p : Nat) (x : Partition) : (s.setPart p x).power = s.power := rfl

@[simp] theorem State.setPart_settings (s : State) (p : Nat) (x : Partition) : (s.setPart p x).settings = s.settings := rfl

@[simp] theorem State.setPart_counters (s : State) (p : Nat) (x : Partition) : (s.setPart p x).counters = s.counters := rfl

@[simp] theorem State.setPart_sticky (s : State) (p : Nat) (x : Partition) : (s.setPart p x).sticky = s.sticky := rfl

@[simp] theorem State.setPart_free (s : State) (p : Nat) (x : Partition) : (s.setPart p x).free = s.free := rfl

@[simp] theorem State.setPart_out (s : State) (p : Nat) (x : Partition) : (s.setPart p x).out = s.out := rfl

@[simp] theorem State.setPart_pending (s : State) (p : Nat) (x : Partition) : (s.setPart p x).pending = s.pending := rfl

@[simp] theorem State.modPart_part (s : State) (p : Nat) (f : Partition → Partition) : (s.modPart p f).part = s.part := rfl

@[simp] theorem State.modPart_time (s : State) (p : Nat) (f : Partition → Partition) : (s.modPart p f).time = s.time := rfl

@[simp] theorem State.modPart_host (s : State) (p : Nat) (f : Partition → Partition) : (s.modPart p f).host = s.host := rfl

@[simp] theorem State.modPart_obs (s : State) (p : Nat) (f : Partition → Partition) : (s.modPart p f).obs = s.obs := rfl

@[simp] theorem State.modPart_health (s : State) (p : Nat) (f : Partition → Partition) : (s.modPart p f).health = s.health := rfl

@[simp] theorem State.modPart_rqs (s : State) (p : Nat) (f : Partition → Partition) : (s.modPart p f).rqs = s.rqs := rfl

@[simp] theorem State.modPart_hall (s : State) (p : Nat) (f : Partition → Partition) : (s.modPart p f).hall = s.hall := rfl

@[simp] theorem State.modPart_exp (s : State) (p : Nat) (f : Partition → Partition) : (s.modPart p f).exp = s.exp := rfl

@[simp] theorem State.modPart_wing0 (s : State) (p : Nat) (f : Partition → Partition) : (s.modPart p f).wing0 = s.wing0 := rfl

@[simp] theorem State.modPart_wing1 (s : State) (p : Nat) (f : Partition → Partition) : (s.modPart p f).wing1 = s.wing1 := rfl

@[simp] theorem State.modPart_tiles (s : State) (p : Nat) (f : Partition → Partition) : (s.modPart p f).tiles = s.tiles := rfl

@[simp] theorem State.modPart_sec (s : State) (p : Nat) (f : Partition → Partition) : (s.modPart p f).sec = s.sec := rfl

@[simp] theorem State.modPart_pair (s : State) (p : Nat) (f : Partition → Partition) : (s.modPart p f).pair = s.pair := rfl

@[simp] theorem State.modPart_boot (s : State) (p : Nat) (f : Partition → Partition) : (s.modPart p f).boot = s.boot := rfl

@[simp] theorem State.modPart_power (s : State) (p : Nat) (f : Partition → Partition) : (s.modPart p f).power = s.power := rfl

@[simp] theorem State.modPart_settings (s : State) (p : Nat) (f : Partition → Partition) : (s.modPart p f).settings = s.settings := rfl

@[simp] theorem State.modPart_counters (s : State) (p : Nat) (f : Partition → Partition) : (s.modPart p f).counters = s.counters := rfl

@[simp] theorem State.modPart_sticky (s : State) (p : Nat) (f : Partition → Partition) : (s.modPart p f).sticky = s.sticky := rfl

@[simp] theorem State.modPart_free (s : State) (p : Nat) (f : Partition → Partition) : (s.modPart p f).free = s.free := rfl

@[simp] theorem State.modPart_out (s : State) (p : Nat) (f : Partition → Partition) : (s.modPart p f).out = s.out := rfl

@[simp] theorem State.modPart_pending (s : State) (p : Nat) (f : Partition → Partition) : (s.modPart p f).pending = s.pending := rfl

@[simp] theorem State.setLane_part (s : State) (n : Nat) (x : Lane) : (s.setLane n x).part = s.part := rfl

@[simp] theorem State.setLane_time (s : State) (n : Nat) (x : Lane) : (s.setLane n x).time = s.time := rfl

@[simp] theorem State.setLane_host (s : State) (n : Nat) (x : Lane) : (s.setLane n x).host = s.host := rfl

@[simp] theorem State.setLane_obs (s : State) (n : Nat) (x : Lane) : (s.setLane n x).obs = s.obs := rfl

@[simp] theorem State.setLane_health (s : State) (n : Nat) (x : Lane) : (s.setLane n x).health = s.health := rfl

@[simp] theorem State.setLane_rqs (s : State) (n : Nat) (x : Lane) : (s.setLane n x).rqs = s.rqs := rfl

@[simp] theorem State.setLane_parts (s : State) (n : Nat) (x : Lane) : (s.setLane n x).parts = s.parts := rfl

@[simp] theorem State.setLane_exp (s : State) (n : Nat) (x : Lane) : (s.setLane n x).exp = s.exp := rfl

@[simp] theorem State.setLane_wing0 (s : State) (n : Nat) (x : Lane) : (s.setLane n x).wing0 = s.wing0 := rfl

@[simp] theorem State.setLane_wing1 (s : State) (n : Nat) (x : Lane) : (s.setLane n x).wing1 = s.wing1 := rfl

@[simp] theorem State.setLane_tiles (s : State) (n : Nat) (x : Lane) : (s.setLane n x).tiles = s.tiles := rfl

@[simp] theorem State.setLane_sec (s : State) (n : Nat) (x : Lane) : (s.setLane n x).sec = s.sec := rfl

@[simp] theorem State.setLane_pair (s : State) (n : Nat) (x : Lane) : (s.setLane n x).pair = s.pair := rfl

@[simp] theorem State.setLane_boot (s : State) (n : Nat) (x : Lane) : (s.setLane n x).boot = s.boot := rfl

@[simp] theorem State.setLane_power (s : State) (n : Nat) (x : Lane) : (s.setLane n x).power = s.power := rfl

@[simp] theorem State.setLane_settings (s : State) (n : Nat) (x : Lane) : (s.setLane n x).settings = s.settings := rfl

@[simp] theorem State.setLane_counters (s : State) (n : Nat) (x : Lane) : (s.setLane n x).counters = s.counters := rfl

@[simp] theorem State.setLane_sticky (s : State) (n : Nat) (x : Lane) : (s.setLane n x).sticky = s.sticky := rfl

@[simp] theorem State.setLane_free (s : State) (n : Nat) (x : Lane) : (s.setLane n x).free = s.free := rfl

@[simp] theorem State.setLane_out (s : State) (n : Nat) (x : Lane) : (s.setLane n x).out = s.out := rfl

@[simp] theorem State.setLane_pending (s : State) (n : Nat) (x : Lane) : (s.setLane n x).pending = s.pending := rfl

@[simp] theorem State.setQueue_part (s : State) (b : Nat) (q : List Occ) : (s.setQueue b q).part = s.part := rfl

@[simp] theorem State.setQueue_host (s : State) (b : Nat) (q : List Occ) : (s.setQueue b q).host = s.host := rfl

@[simp] theorem State.setQueue_obs (s : State) (b : Nat) (q : List Occ) : (s.setQueue b q).obs = s.obs := rfl

@[simp] theorem State.setQueue_health (s : State) (b : Nat) (q : List Occ) : (s.setQueue b q).health = s.health := rfl

@[simp] theorem State.setQueue_rqs (s : State) (b : Nat) (q : List Occ) : (s.setQueue b q).rqs = s.rqs := rfl

@[simp] theorem State.setQueue_parts (s : State) (b : Nat) (q : List Occ) : (s.setQueue b q).parts = s.parts := rfl

@[simp] theorem State.setQueue_hall (s : State) (b : Nat) (q : List Occ) : (s.setQueue b q).hall = s.hall := rfl

@[simp] theorem State.setQueue_exp (s : State) (b : Nat) (q : List Occ) : (s.setQueue b q).exp = s.exp := rfl

@[simp] theorem State.setQueue_wing0 (s : State) (b : Nat) (q : List Occ) : (s.setQueue b q).wing0 = s.wing0 := rfl

@[simp] theorem State.setQueue_wing1 (s : State) (b : Nat) (q : List Occ) : (s.setQueue b q).wing1 = s.wing1 := rfl

@[simp] theorem State.setQueue_tiles (s : State) (b : Nat) (q : List Occ) : (s.setQueue b q).tiles = s.tiles := rfl

@[simp] theorem State.setQueue_sec (s : State) (b : Nat) (q : List Occ) : (s.setQueue b q).sec = s.sec := rfl

@[simp] theorem State.setQueue_pair (s : State) (b : Nat) (q : List Occ) : (s.setQueue b q).pair = s.pair := rfl

@[simp] theorem State.setQueue_boot (s : State) (b : Nat) (q : List Occ) : (s.setQueue b q).boot = s.boot := rfl

@[simp] theorem State.setQueue_power (s : State) (b : Nat) (q : List Occ) : (s.setQueue b q).power = s.power := rfl

@[simp] theorem State.setQueue_settings (s : State) (b : Nat) (q : List Occ) : (s.setQueue b q).settings = s.settings := rfl

@[simp] theorem State.setQueue_counters (s : State) (b : Nat) (q : List Occ) : (s.setQueue b q).counters = s.counters := rfl

@[simp] theorem State.setQueue_sticky (s : State) (b : Nat) (q : List Occ) : (s.setQueue b q).sticky = s.sticky := rfl

@[simp] theorem State.setQueue_free (s : State) (b : Nat) (q : List Occ) : (s.setQueue b q).free = s.free := rfl

@[simp] theorem State.setQueue_out (s : State) (b : Nat) (q : List Occ) : (s.setQueue b q).out = s.out := rfl

@[simp] theorem State.setQueue_pending (s : State) (b : Nat) (q : List Occ) : (s.setQueue b q).pending = s.pending := rfl

@[simp] theorem State.setTile_part (s : State) (i : Nat) (t : Tile) : (s.setTile i t).part = s.part := rfl

@[simp] theorem State.setTile_time (s : State) (i : Nat) (t : Tile) : (s.setTile i t).time = s.time := rfl

@[simp] theorem State.setTile_host (s : State) (i : Nat) (t : Tile) : (s.setTile i t).host = s.host := rfl

@[simp] theorem State.setTile_obs (s : State) (i : Nat) (t : Tile) : (s.setTile i t).obs = s.obs := rfl

@[simp] theorem State.setTile_health (s : State) (i : Nat) (t : Tile) : (s.setTile i t).health = s.health := rfl

@[simp] theorem State.setTile_rqs (s : State) (i : Nat) (t : Tile) : (s.setTile i t).rqs = s.rqs := rfl

@[simp] theorem State.setTile_parts (s : State) (i : Nat) (t : Tile) : (s.setTile i t).parts = s.parts := rfl

@[simp] theorem State.setTile_hall (s : State) (i : Nat) (t : Tile) : (s.setTile i t).hall = s.hall := rfl

@[simp] theorem State.setTile_exp (s : State) (i : Nat) (t : Tile) : (s.setTile i t).exp = s.exp := rfl

@[simp] theorem State.setTile_wing0 (s : State) (i : Nat) (t : Tile) : (s.setTile i t).wing0 = s.wing0 := rfl

@[simp] theorem State.setTile_wing1 (s : State) (i : Nat) (t : Tile) : (s.setTile i t).wing1 = s.wing1 := rfl

@[simp] theorem State.setTile_sec (s : State) (i : Nat) (t : Tile) : (s.setTile i t).sec = s.sec := rfl

@[simp] theorem State.setTile_pair (s : State) (i : Nat) (t : Tile) : (s.setTile i t).pair = s.pair := rfl

@[simp] theorem State.setTile_boot (s : State) (i : Nat) (t : Tile) : (s.setTile i t).boot = s.boot := rfl

@[simp] theorem State.setTile_power (s : State) (i : Nat) (t : Tile) : (s.setTile i t).power = s.power := rfl

@[simp] theorem State.setTile_settings (s : State) (i : Nat) (t : Tile) : (s.setTile i t).settings = s.settings := rfl

@[simp] theorem State.setTile_counters (s : State) (i : Nat) (t : Tile) : (s.setTile i t).counters = s.counters := rfl

@[simp] theorem State.setTile_sticky (s : State) (i : Nat) (t : Tile) : (s.setTile i t).sticky = s.sticky := rfl

@[simp] theorem State.setTile_free (s : State) (i : Nat) (t : Tile) : (s.setTile i t).free = s.free := rfl

@[simp] theorem State.setTile_out (s : State) (i : Nat) (t : Tile) : (s.setTile i t).out = s.out := rfl

@[simp] theorem State.setTile_pending (s : State) (i : Nat) (t : Tile) : (s.setTile i t).pending = s.pending := rfl

@[simp] theorem State.modTile_part (s : State) (i : Nat) (f : Tile → Tile) : (s.modTile i f).part = s.part := rfl

@[simp] theorem State.modTile_time (s : State) (i : Nat) (f : Tile → Tile) : (s.modTile i f).time = s.time := rfl

@[simp] theorem State.modTile_host (s : State) (i : Nat) (f : Tile → Tile) : (s.modTile i f).host = s.host := rfl

@[simp] theorem State.modTile_obs (s : State) (i : Nat) (f : Tile → Tile) : (s.modTile i f).obs = s.obs := rfl

@[simp] theorem State.modTile_health (s : State) (i : Nat) (f : Tile → Tile) : (s.modTile i f).health = s.health := rfl

@[simp] theorem State.modTile_rqs (s : State) (i : Nat) (f : Tile → Tile) : (s.modTile i f).rqs = s.rqs := rfl

@[simp] theorem State.modTile_parts (s : State) (i : Nat) (f : Tile → Tile) : (s.modTile i f).parts = s.parts := rfl

@[simp] theorem State.modTile_hall (s : State) (i : Nat) (f : Tile → Tile) : (s.modTile i f).hall = s.hall := rfl

@[simp] theorem State.modTile_exp (s : State) (i : Nat) (f : Tile → Tile) : (s.modTile i f).exp = s.exp := rfl

@[simp] theorem State.modTile_wing0 (s : State) (i : Nat) (f : Tile → Tile) : (s.modTile i f).wing0 = s.wing0 := rfl

@[simp] theorem State.modTile_wing1 (s : State) (i : Nat) (f : Tile → Tile) : (s.modTile i f).wing1 = s.wing1 := rfl

@[simp] theorem State.modTile_sec (s : State) (i : Nat) (f : Tile → Tile) : (s.modTile i f).sec = s.sec := rfl

@[simp] theorem State.modTile_pair (s : State) (i : Nat) (f : Tile → Tile) : (s.modTile i f).pair = s.pair := rfl

@[simp] theorem State.modTile_boot (s : State) (i : Nat) (f : Tile → Tile) : (s.modTile i f).boot = s.boot := rfl

@[simp] theorem State.modTile_power (s : State) (i : Nat) (f : Tile → Tile) : (s.modTile i f).power = s.power := rfl

@[simp] theorem State.modTile_settings (s : State) (i : Nat) (f : Tile → Tile) : (s.modTile i f).settings = s.settings := rfl

@[simp] theorem State.modTile_counters (s : State) (i : Nat) (f : Tile → Tile) : (s.modTile i f).counters = s.counters := rfl

@[simp] theorem State.modTile_sticky (s : State) (i : Nat) (f : Tile → Tile) : (s.modTile i f).sticky = s.sticky := rfl

@[simp] theorem State.modTile_free (s : State) (i : Nat) (f : Tile → Tile) : (s.modTile i f).free = s.free := rfl

@[simp] theorem State.modTile_out (s : State) (i : Nat) (f : Tile → Tile) : (s.modTile i f).out = s.out := rfl

@[simp] theorem State.modTile_pending (s : State) (i : Nat) (f : Tile → Tile) : (s.modTile i f).pending = s.pending := rfl

@[simp] theorem State.setWing_part (s : State) (w : Nat) (x : Wing) : (s.setWing w x).part = s.part := by unfold State.setWing; split <;> rfl

@[simp] theorem State.setWing_time (s : State) (w : Nat) (x : Wing) : (s.setWing w x).time = s.time := by unfold State.setWing; split <;> rfl

@[simp] theorem State.setWing_host (s : State) (w : Nat) (x : Wing) : (s.setWing w x).host = s.host := by unfold State.setWing; split <;> rfl

@[simp] theorem State.setWing_obs (s : State) (w : Nat) (x : Wing) : (s.setWing w x).obs = s.obs := by unfold State.setWing; split <;> rfl

@[simp] theorem State.setWing_health (s : State) (w : Nat) (x : Wing) : (s.setWing w x).health = s.health := by unfold State.setWing; split <;> rfl

@[simp] theorem State.setWing_rqs (s : State) (w : Nat) (x : Wing) : (s.setWing w x).rqs = s.rqs := by unfold State.setWing; split <;> rfl

@[simp] theorem State.setWing_parts (s : State) (w : Nat) (x : Wing) : (s.setWing w x).parts = s.parts := by unfold State.setWing; split <;> rfl

@[simp] theorem State.setWing_hall (s : State) (w : Nat) (x : Wing) : (s.setWing w x).hall = s.hall := by unfold State.setWing; split <;> rfl

@[simp] theorem State.setWing_exp (s : State) (w : Nat) (x : Wing) : (s.setWing w x).exp = s.exp := by unfold State.setWing; split <;> rfl

@[simp] theorem State.setWing_tiles (s : State) (w : Nat) (x : Wing) : (s.setWing w x).tiles = s.tiles := by unfold State.setWing; split <;> rfl

@[simp] theorem State.setWing_sec (s : State) (w : Nat) (x : Wing) : (s.setWing w x).sec = s.sec := by unfold State.setWing; split <;> rfl

@[simp] theorem State.setWing_pair (s : State) (w : Nat) (x : Wing) : (s.setWing w x).pair = s.pair := by unfold State.setWing; split <;> rfl

@[simp] theorem State.setWing_boot (s : State) (w : Nat) (x : Wing) : (s.setWing w x).boot = s.boot := by unfold State.setWing; split <;> rfl

@[simp] theorem State.setWing_power (s : State) (w : Nat) (x : Wing) : (s.setWing w x).power = s.power := by unfold State.setWing; split <;> rfl

@[simp] theorem State.setWing_settings (s : State) (w : Nat) (x : Wing) : (s.setWing w x).settings = s.settings := by unfold State.setWing; split <;> rfl

@[simp] theorem State.setWing_counters (s : State) (w : Nat) (x : Wing) : (s.setWing w x).counters = s.counters := by unfold State.setWing; split <;> rfl

@[simp] theorem State.setWing_sticky (s : State) (w : Nat) (x : Wing) : (s.setWing w x).sticky = s.sticky := by unfold State.setWing; split <;> rfl

@[simp] theorem State.setWing_free (s : State) (w : Nat) (x : Wing) : (s.setWing w x).free = s.free := by unfold State.setWing; split <;> rfl

@[simp] theorem State.setWing_out (s : State) (w : Nat) (x : Wing) : (s.setWing w x).out = s.out := by unfold State.setWing; split <;> rfl

@[simp] theorem State.setWing_pending (s : State) (w : Nat) (x : Wing) : (s.setWing w x).pending = s.pending := by unfold State.setWing; split <;> rfl

@[simp] theorem State.setStair_part (s : State) (w : Nat) (y : Stair) : (s.setStair w y).part = s.part := by unfold State.setStair State.setWing; split <;> rfl

@[simp] theorem State.setStair_time (s : State) (w : Nat) (y : Stair) : (s.setStair w y).time = s.time := by unfold State.setStair State.setWing; split <;> rfl

@[simp] theorem State.setStair_host (s : State) (w : Nat) (y : Stair) : (s.setStair w y).host = s.host := by unfold State.setStair State.setWing; split <;> rfl

@[simp] theorem State.setStair_obs (s : State) (w : Nat) (y : Stair) : (s.setStair w y).obs = s.obs := by unfold State.setStair State.setWing; split <;> rfl

@[simp] theorem State.setStair_health (s : State) (w : Nat) (y : Stair) : (s.setStair w y).health = s.health := by unfold State.setStair State.setWing; split <;> rfl

@[simp] theorem State.setStair_rqs (s : State) (w : Nat) (y : Stair) : (s.setStair w y).rqs = s.rqs := by unfold State.setStair State.setWing; split <;> rfl

@[simp] theorem State.setStair_parts (s : State) (w : Nat) (y : Stair) : (s.setStair w y).parts = s.parts := by unfold State.setStair State.setWing; split <;> rfl

@[simp] theorem State.setStair_hall (s : State) (w : Nat) (y : Stair) : (s.setStair w y).hall = s.hall := by unfold State.setStair State.setWing; split <;> rfl

@[simp] theorem State.setStair_exp (s : State) (w : Nat) (y : Stair) : (s.setStair w y).exp = s.exp := by unfold State.setStair State.setWing; split <;> rfl

@[simp] theorem State.setStair_tiles (s : State) (w : Nat) (y : Stair) : (s.setStair w y).tiles = s.tiles := by unfold State.setStair State.setWing; split <;> rfl

@[simp] theorem State.setStair_sec (s : State) (w : Nat) (y : Stair) : (s.setStair w y).sec = s.sec := by unfold State.setStair State.setWing; split <;> rfl

@[simp] theorem State.setStair_pair (s : State) (w : Nat) (y : Stair) : (s.setStair w y).pair = s.pair := by unfold State.setStair State.setWing; split <;> rfl

@[simp] theorem State.setStair_boot (s : State) (w : Nat) (y : Stair) : (s.setStair w y).boot = s.boot := by unfold State.setStair State.setWing; split <;> rfl

@[simp] theorem State.setStair_power (s : State) (w : Nat) (y : Stair) : (s.setStair w y).power = s.power := by unfold State.setStair State.setWing; split <;> rfl

@[simp] theorem State.setStair_settings (s : State) (w : Nat) (y : Stair) : (s.setStair w y).settings = s.settings := by unfold State.setStair State.setWing; split <;> rfl

@[simp] theorem State.setStair_counters (s : State) (w : Nat) (y : Stair) : (s.setStair w y).counters = s.counters := by unfold State.setStair State.setWing; split <;> rfl

@[simp] theorem State.setStair_sticky (s : State) (w : Nat) (y : Stair) : (s.setStair w y).sticky = s.sticky := by unfold State.setStair State.setWing; split <;> rfl

@[simp] theorem State.setStair_free (s : State) (w : Nat) (y : Stair) : (s.setStair w y).free = s.free := by unfold State.setStair State.setWing; split <;> rfl

@[simp] theorem State.setStair_out (s : State) (w : Nat) (y : Stair) : (s.setStair w y).out = s.out := by unfold State.setStair State.setWing; split <;> rfl

@[simp] theorem State.setStair_pending (s : State) (w : Nat) (y : Stair) : (s.setStair w y).pending = s.pending := by unfold State.setStair State.setWing; split <;> rfl

@[simp] theorem State.setBatch_part (s : State) (id : Nat) (b : Batch) : (s.setBatch id b).part = s.part := by unfold State.setBatch State.setWing; split <;> rfl

@[simp] theorem State.setBatch_time (s : State) (id : Nat) (b : Batch) : (s.setBatch id b).time = s.time := by unfold State.setBatch State.setWing; split <;> rfl

@[simp] theorem State.setBatch_host (s : State) (id : Nat) (b : Batch) : (s.setBatch id b).host = s.host := by unfold State.setBatch State.setWing; split <;> rfl

@[simp] theorem State.setBatch_obs (s : State) (id : Nat) (b : Batch) : (s.setBatch id b).obs = s.obs := by unfold State.setBatch State.setWing; split <;> rfl

@[simp] theorem State.setBatch_health (s : State) (id : Nat) (b : Batch) : (s.setBatch id b).health = s.health := by unfold State.setBatch State.setWing; split <;> rfl

@[simp] theorem State.setBatch_rqs (s : State) (id : Nat) (b : Batch) : (s.setBatch id b).rqs = s.rqs := by unfold State.setBatch State.setWing; split <;> rfl

@[simp] theorem State.setBatch_parts (s : State) (id : Nat) (b : Batch) : (s.setBatch id b).parts = s.parts := by unfold State.setBatch State.setWing; split <;> rfl

@[simp] theorem State.setBatch_hall (s : State) (id : Nat) (b : Batch) : (s.setBatch id b).hall = s.hall := by unfold State.setBatch State.setWing; split <;> rfl

@[simp] theorem State.setBatch_exp (s : State) (id : Nat) (b : Batch) : (s.setBatch id b).exp = s.exp := by unfold State.setBatch State.setWing; split <;> rfl

@[simp] theorem State.setBatch_tiles (s : State) (id : Nat) (b : Batch) : (s.setBatch id b).tiles = s.tiles := by unfold State.setBatch State.setWing; split <;> rfl

@[simp] theorem State.setBatch_sec (s : State) (id : Nat) (b : Batch) : (s.setBatch id b).sec = s.sec := by unfold State.setBatch State.setWing; split <;> rfl

@[simp] theorem State.setBatch_pair (s : State) (id : Nat) (b : Batch) : (s.setBatch id b).pair = s.pair := by unfold State.setBatch State.setWing; split <;> rfl

@[simp] theorem State.setBatch_boot (s : State) (id : Nat) (b : Batch) : (s.setBatch id b).boot = s.boot := by unfold State.setBatch State.setWing; split <;> rfl

@[simp] theorem State.setBatch_power (s : State) (id : Nat) (b : Batch) : (s.setBatch id b).power = s.power := by unfold State.setBatch State.setWing; split <;> rfl

@[simp] theorem State.setBatch_settings (s : State) (id : Nat) (b : Batch) : (s.setBatch id b).settings = s.settings := by unfold State.setBatch State.setWing; split <;> rfl

@[simp] theorem State.setBatch_counters (s : State) (id : Nat) (b : Batch) : (s.setBatch id b).counters = s.counters := by unfold State.setBatch State.setWing; split <;> rfl

@[simp] theorem State.setBatch_sticky (s : State) (id : Nat) (b : Batch) : (s.setBatch id b).sticky = s.sticky := by unfold State.setBatch State.setWing; split <;> rfl

@[simp] theorem State.setBatch_free (s : State) (id : Nat) (b : Batch) : (s.setBatch id b).free = s.free := by unfold State.setBatch State.setWing; split <;> rfl

@[simp] theorem State.setBatch_out (s : State) (id : Nat) (b : Batch) : (s.setBatch id b).out = s.out := by unfold State.setBatch State.setWing; split <;> rfl

@[simp] theorem State.setBatch_pending (s : State) (id : Nat) (b : Batch) : (s.setBatch id b).pending = s.pending := by unfold State.setBatch State.setWing; split <;> rfl

@[simp] theorem State.setSection_part (s : State) (die k : Nat) (x : MantelSec) : (s.setSection die k x).part = s.part := rfl

@[simp] theorem State.setSection_time (s : State) (die k : Nat) (x : MantelSec) : (s.setSection die k x).time = s.time := rfl

@[simp] theorem State.setSection_host (s : State) (die k : Nat) (x : MantelSec) : (s.setSection die k x).host = s.host := rfl

@[simp] theorem State.setSection_obs (s : State) (die k : Nat) (x : MantelSec) : (s.setSection die k x).obs = s.obs := rfl

@[simp] theorem State.setSection_rqs (s : State) (die k : Nat) (x : MantelSec) : (s.setSection die k x).rqs = s.rqs := rfl

@[simp] theorem State.setSection_parts (s : State) (die k : Nat) (x : MantelSec) : (s.setSection die k x).parts = s.parts := rfl

@[simp] theorem State.setSection_hall (s : State) (die k : Nat) (x : MantelSec) : (s.setSection die k x).hall = s.hall := rfl

@[simp] theorem State.setSection_exp (s : State) (die k : Nat) (x : MantelSec) : (s.setSection die k x).exp = s.exp := rfl

@[simp] theorem State.setSection_wing0 (s : State) (die k : Nat) (x : MantelSec) : (s.setSection die k x).wing0 = s.wing0 := rfl

@[simp] theorem State.setSection_wing1 (s : State) (die k : Nat) (x : MantelSec) : (s.setSection die k x).wing1 = s.wing1 := rfl

@[simp] theorem State.setSection_tiles (s : State) (die k : Nat) (x : MantelSec) : (s.setSection die k x).tiles = s.tiles := rfl

@[simp] theorem State.setSection_sec (s : State) (die k : Nat) (x : MantelSec) : (s.setSection die k x).sec = s.sec := rfl

@[simp] theorem State.setSection_pair (s : State) (die k : Nat) (x : MantelSec) : (s.setSection die k x).pair = s.pair := rfl

@[simp] theorem State.setSection_boot (s : State) (die k : Nat) (x : MantelSec) : (s.setSection die k x).boot = s.boot := rfl

@[simp] theorem State.setSection_power (s : State) (die k : Nat) (x : MantelSec) : (s.setSection die k x).power = s.power := rfl

@[simp] theorem State.setSection_settings (s : State) (die k : Nat) (x : MantelSec) : (s.setSection die k x).settings = s.settings := rfl

@[simp] theorem State.setSection_counters (s : State) (die k : Nat) (x : MantelSec) : (s.setSection die k x).counters = s.counters := rfl

@[simp] theorem State.setSection_sticky (s : State) (die k : Nat) (x : MantelSec) : (s.setSection die k x).sticky = s.sticky := rfl

@[simp] theorem State.setSection_free (s : State) (die k : Nat) (x : MantelSec) : (s.setSection die k x).free = s.free := rfl

@[simp] theorem State.setSection_out (s : State) (die k : Nat) (x : MantelSec) : (s.setSection die k x).out = s.out := rfl

@[simp] theorem State.setSection_pending (s : State) (die k : Nat) (x : MantelSec) : (s.setSection die k x).pending = s.pending := rfl

@[simp] theorem State.setLedger_part (s : State) (die k : Nat) (d : List (List Nat)) : (s.setLedger die k d).part = s.part := rfl

@[simp] theorem State.setLedger_time (s : State) (die k : Nat) (d : List (List Nat)) : (s.setLedger die k d).time = s.time := rfl

@[simp] theorem State.setLedger_host (s : State) (die k : Nat) (d : List (List Nat)) : (s.setLedger die k d).host = s.host := rfl

@[simp] theorem State.setLedger_obs (s : State) (die k : Nat) (d : List (List Nat)) : (s.setLedger die k d).obs = s.obs := rfl

@[simp] theorem State.setLedger_rqs (s : State) (die k : Nat) (d : List (List Nat)) : (s.setLedger die k d).rqs = s.rqs := rfl

@[simp] theorem State.setLedger_parts (s : State) (die k : Nat) (d : List (List Nat)) : (s.setLedger die k d).parts = s.parts := rfl

@[simp] theorem State.setLedger_hall (s : State) (die k : Nat) (d : List (List Nat)) : (s.setLedger die k d).hall = s.hall := rfl

@[simp] theorem State.setLedger_exp (s : State) (die k : Nat) (d : List (List Nat)) : (s.setLedger die k d).exp = s.exp := rfl

@[simp] theorem State.setLedger_wing0 (s : State) (die k : Nat) (d : List (List Nat)) : (s.setLedger die k d).wing0 = s.wing0 := rfl

@[simp] theorem State.setLedger_wing1 (s : State) (die k : Nat) (d : List (List Nat)) : (s.setLedger die k d).wing1 = s.wing1 := rfl

@[simp] theorem State.setLedger_tiles (s : State) (die k : Nat) (d : List (List Nat)) : (s.setLedger die k d).tiles = s.tiles := rfl

@[simp] theorem State.setLedger_sec (s : State) (die k : Nat) (d : List (List Nat)) : (s.setLedger die k d).sec = s.sec := rfl

@[simp] theorem State.setLedger_pair (s : State) (die k : Nat) (d : List (List Nat)) : (s.setLedger die k d).pair = s.pair := rfl

@[simp] theorem State.setLedger_boot (s : State) (die k : Nat) (d : List (List Nat)) : (s.setLedger die k d).boot = s.boot := rfl

@[simp] theorem State.setLedger_power (s : State) (die k : Nat) (d : List (List Nat)) : (s.setLedger die k d).power = s.power := rfl

@[simp] theorem State.setLedger_settings (s : State) (die k : Nat) (d : List (List Nat)) : (s.setLedger die k d).settings = s.settings := rfl

@[simp] theorem State.setLedger_counters (s : State) (die k : Nat) (d : List (List Nat)) : (s.setLedger die k d).counters = s.counters := rfl

@[simp] theorem State.setLedger_sticky (s : State) (die k : Nat) (d : List (List Nat)) : (s.setLedger die k d).sticky = s.sticky := rfl

@[simp] theorem State.setLedger_free (s : State) (die k : Nat) (d : List (List Nat)) : (s.setLedger die k d).free = s.free := rfl

@[simp] theorem State.setLedger_out (s : State) (die k : Nat) (d : List (List Nat)) : (s.setLedger die k d).out = s.out := rfl

@[simp] theorem State.setLedger_pending (s : State) (die k : Nat) (d : List (List Nat)) : (s.setLedger die k d).pending = s.pending := rfl

@[simp] theorem State.setRq_part (s : State) (p q : Nat) (x : ReportQ) : (s.setRq p q x).part = s.part := rfl

@[simp] theorem State.setRq_time (s : State) (p q : Nat) (x : ReportQ) : (s.setRq p q x).time = s.time := rfl

@[simp] theorem State.setRq_host (s : State) (p q : Nat) (x : ReportQ) : (s.setRq p q x).host = s.host := rfl

@[simp] theorem State.setRq_obs (s : State) (p q : Nat) (x : ReportQ) : (s.setRq p q x).obs = s.obs := rfl

@[simp] theorem State.setRq_health (s : State) (p q : Nat) (x : ReportQ) : (s.setRq p q x).health = s.health := rfl

@[simp] theorem State.setRq_parts (s : State) (p q : Nat) (x : ReportQ) : (s.setRq p q x).parts = s.parts := rfl

@[simp] theorem State.setRq_hall (s : State) (p q : Nat) (x : ReportQ) : (s.setRq p q x).hall = s.hall := rfl

@[simp] theorem State.setRq_exp (s : State) (p q : Nat) (x : ReportQ) : (s.setRq p q x).exp = s.exp := rfl

@[simp] theorem State.setRq_wing0 (s : State) (p q : Nat) (x : ReportQ) : (s.setRq p q x).wing0 = s.wing0 := rfl

@[simp] theorem State.setRq_wing1 (s : State) (p q : Nat) (x : ReportQ) : (s.setRq p q x).wing1 = s.wing1 := rfl

@[simp] theorem State.setRq_tiles (s : State) (p q : Nat) (x : ReportQ) : (s.setRq p q x).tiles = s.tiles := rfl

@[simp] theorem State.setRq_sec (s : State) (p q : Nat) (x : ReportQ) : (s.setRq p q x).sec = s.sec := rfl

@[simp] theorem State.setRq_pair (s : State) (p q : Nat) (x : ReportQ) : (s.setRq p q x).pair = s.pair := rfl

@[simp] theorem State.setRq_boot (s : State) (p q : Nat) (x : ReportQ) : (s.setRq p q x).boot = s.boot := rfl

@[simp] theorem State.setRq_power (s : State) (p q : Nat) (x : ReportQ) : (s.setRq p q x).power = s.power := rfl

@[simp] theorem State.setRq_settings (s : State) (p q : Nat) (x : ReportQ) : (s.setRq p q x).settings = s.settings := rfl

@[simp] theorem State.setRq_counters (s : State) (p q : Nat) (x : ReportQ) : (s.setRq p q x).counters = s.counters := rfl

@[simp] theorem State.setRq_sticky (s : State) (p q : Nat) (x : ReportQ) : (s.setRq p q x).sticky = s.sticky := rfl

@[simp] theorem State.setRq_free (s : State) (p q : Nat) (x : ReportQ) : (s.setRq p q x).free = s.free := rfl

@[simp] theorem State.setRq_out (s : State) (p q : Nat) (x : ReportQ) : (s.setRq p q x).out = s.out := rfl

@[simp] theorem State.setRq_pending (s : State) (p q : Nat) (x : ReportQ) : (s.setRq p q x).pending = s.pending := rfl

@[simp] theorem State.setXq_part (s : State) (q : Nat) (x : ExpQueue) : (s.setXq q x).part = s.part := rfl

@[simp] theorem State.setXq_time (s : State) (q : Nat) (x : ExpQueue) : (s.setXq q x).time = s.time := rfl

@[simp] theorem State.setXq_host (s : State) (q : Nat) (x : ExpQueue) : (s.setXq q x).host = s.host := rfl

@[simp] theorem State.setXq_obs (s : State) (q : Nat) (x : ExpQueue) : (s.setXq q x).obs = s.obs := rfl

@[simp] theorem State.setXq_health (s : State) (q : Nat) (x : ExpQueue) : (s.setXq q x).health = s.health := rfl

@[simp] theorem State.setXq_rqs (s : State) (q : Nat) (x : ExpQueue) : (s.setXq q x).rqs = s.rqs := rfl

@[simp] theorem State.setXq_parts (s : State) (q : Nat) (x : ExpQueue) : (s.setXq q x).parts = s.parts := rfl

@[simp] theorem State.setXq_hall (s : State) (q : Nat) (x : ExpQueue) : (s.setXq q x).hall = s.hall := rfl

@[simp] theorem State.setXq_wing0 (s : State) (q : Nat) (x : ExpQueue) : (s.setXq q x).wing0 = s.wing0 := rfl

@[simp] theorem State.setXq_wing1 (s : State) (q : Nat) (x : ExpQueue) : (s.setXq q x).wing1 = s.wing1 := rfl

@[simp] theorem State.setXq_tiles (s : State) (q : Nat) (x : ExpQueue) : (s.setXq q x).tiles = s.tiles := rfl

@[simp] theorem State.setXq_sec (s : State) (q : Nat) (x : ExpQueue) : (s.setXq q x).sec = s.sec := rfl

@[simp] theorem State.setXq_pair (s : State) (q : Nat) (x : ExpQueue) : (s.setXq q x).pair = s.pair := rfl

@[simp] theorem State.setXq_boot (s : State) (q : Nat) (x : ExpQueue) : (s.setXq q x).boot = s.boot := rfl

@[simp] theorem State.setXq_power (s : State) (q : Nat) (x : ExpQueue) : (s.setXq q x).power = s.power := rfl

@[simp] theorem State.setXq_settings (s : State) (q : Nat) (x : ExpQueue) : (s.setXq q x).settings = s.settings := rfl

@[simp] theorem State.setXq_counters (s : State) (q : Nat) (x : ExpQueue) : (s.setXq q x).counters = s.counters := rfl

@[simp] theorem State.setXq_sticky (s : State) (q : Nat) (x : ExpQueue) : (s.setXq q x).sticky = s.sticky := rfl

@[simp] theorem State.setXq_free (s : State) (q : Nat) (x : ExpQueue) : (s.setXq q x).free = s.free := rfl

@[simp] theorem State.setXq_out (s : State) (q : Nat) (x : ExpQueue) : (s.setXq q x).out = s.out := rfl

@[simp] theorem State.setXq_pending (s : State) (q : Nat) (x : ExpQueue) : (s.setXq q x).pending = s.pending := rfl

@[simp] theorem State.setXport_part (s : State) (n : Nat) (x : ExpPort) : (s.setXport n x).part = s.part := rfl

@[simp] theorem State.setXport_time (s : State) (n : Nat) (x : ExpPort) : (s.setXport n x).time = s.time := rfl

@[simp] theorem State.setXport_host (s : State) (n : Nat) (x : ExpPort) : (s.setXport n x).host = s.host := rfl

@[simp] theorem State.setXport_obs (s : State) (n : Nat) (x : ExpPort) : (s.setXport n x).obs = s.obs := rfl

@[simp] theorem State.setXport_health (s : State) (n : Nat) (x : ExpPort) : (s.setXport n x).health = s.health := rfl

@[simp] theorem State.setXport_rqs (s : State) (n : Nat) (x : ExpPort) : (s.setXport n x).rqs = s.rqs := rfl

@[simp] theorem State.setXport_parts (s : State) (n : Nat) (x : ExpPort) : (s.setXport n x).parts = s.parts := rfl

@[simp] theorem State.setXport_hall (s : State) (n : Nat) (x : ExpPort) : (s.setXport n x).hall = s.hall := rfl

@[simp] theorem State.setXport_wing0 (s : State) (n : Nat) (x : ExpPort) : (s.setXport n x).wing0 = s.wing0 := rfl

@[simp] theorem State.setXport_wing1 (s : State) (n : Nat) (x : ExpPort) : (s.setXport n x).wing1 = s.wing1 := rfl

@[simp] theorem State.setXport_tiles (s : State) (n : Nat) (x : ExpPort) : (s.setXport n x).tiles = s.tiles := rfl

@[simp] theorem State.setXport_sec (s : State) (n : Nat) (x : ExpPort) : (s.setXport n x).sec = s.sec := rfl

@[simp] theorem State.setXport_pair (s : State) (n : Nat) (x : ExpPort) : (s.setXport n x).pair = s.pair := rfl

@[simp] theorem State.setXport_boot (s : State) (n : Nat) (x : ExpPort) : (s.setXport n x).boot = s.boot := rfl

@[simp] theorem State.setXport_power (s : State) (n : Nat) (x : ExpPort) : (s.setXport n x).power = s.power := rfl

@[simp] theorem State.setXport_settings (s : State) (n : Nat) (x : ExpPort) : (s.setXport n x).settings = s.settings := rfl

@[simp] theorem State.setXport_counters (s : State) (n : Nat) (x : ExpPort) : (s.setXport n x).counters = s.counters := rfl

@[simp] theorem State.setXport_sticky (s : State) (n : Nat) (x : ExpPort) : (s.setXport n x).sticky = s.sticky := rfl

@[simp] theorem State.setXport_free (s : State) (n : Nat) (x : ExpPort) : (s.setXport n x).free = s.free := rfl

@[simp] theorem State.setXport_out (s : State) (n : Nat) (x : ExpPort) : (s.setXport n x).out = s.out := rfl

@[simp] theorem State.setXport_pending (s : State) (n : Nat) (x : ExpPort) : (s.setXport n x).pending = s.pending := rfl

@[simp] theorem State.setFrags_part (s : State) (b : Nat) (t : Tab FragEntry) : (s.setFrags b t).part = s.part := rfl

@[simp] theorem State.setFrags_time (s : State) (b : Nat) (t : Tab FragEntry) : (s.setFrags b t).time = s.time := rfl

@[simp] theorem State.setFrags_host (s : State) (b : Nat) (t : Tab FragEntry) : (s.setFrags b t).host = s.host := rfl

@[simp] theorem State.setFrags_obs (s : State) (b : Nat) (t : Tab FragEntry) : (s.setFrags b t).obs = s.obs := rfl

@[simp] theorem State.setFrags_health (s : State) (b : Nat) (t : Tab FragEntry) : (s.setFrags b t).health = s.health := rfl

@[simp] theorem State.setFrags_rqs (s : State) (b : Nat) (t : Tab FragEntry) : (s.setFrags b t).rqs = s.rqs := rfl

@[simp] theorem State.setFrags_parts (s : State) (b : Nat) (t : Tab FragEntry) : (s.setFrags b t).parts = s.parts := rfl

@[simp] theorem State.setFrags_exp (s : State) (b : Nat) (t : Tab FragEntry) : (s.setFrags b t).exp = s.exp := rfl

@[simp] theorem State.setFrags_wing0 (s : State) (b : Nat) (t : Tab FragEntry) : (s.setFrags b t).wing0 = s.wing0 := rfl

@[simp] theorem State.setFrags_wing1 (s : State) (b : Nat) (t : Tab FragEntry) : (s.setFrags b t).wing1 = s.wing1 := rfl

@[simp] theorem State.setFrags_tiles (s : State) (b : Nat) (t : Tab FragEntry) : (s.setFrags b t).tiles = s.tiles := rfl

@[simp] theorem State.setFrags_sec (s : State) (b : Nat) (t : Tab FragEntry) : (s.setFrags b t).sec = s.sec := rfl

@[simp] theorem State.setFrags_pair (s : State) (b : Nat) (t : Tab FragEntry) : (s.setFrags b t).pair = s.pair := rfl

@[simp] theorem State.setFrags_boot (s : State) (b : Nat) (t : Tab FragEntry) : (s.setFrags b t).boot = s.boot := rfl

@[simp] theorem State.setFrags_power (s : State) (b : Nat) (t : Tab FragEntry) : (s.setFrags b t).power = s.power := rfl

@[simp] theorem State.setFrags_settings (s : State) (b : Nat) (t : Tab FragEntry) : (s.setFrags b t).settings = s.settings := rfl

@[simp] theorem State.setFrags_counters (s : State) (b : Nat) (t : Tab FragEntry) : (s.setFrags b t).counters = s.counters := rfl

@[simp] theorem State.setFrags_sticky (s : State) (b : Nat) (t : Tab FragEntry) : (s.setFrags b t).sticky = s.sticky := rfl

@[simp] theorem State.setFrags_free (s : State) (b : Nat) (t : Tab FragEntry) : (s.setFrags b t).free = s.free := rfl

@[simp] theorem State.setFrags_out (s : State) (b : Nat) (t : Tab FragEntry) : (s.setFrags b t).out = s.out := rfl

@[simp] theorem State.setFrags_pending (s : State) (b : Nat) (t : Tab FragEntry) : (s.setFrags b t).pending = s.pending := rfl

@[simp] theorem State.modPair_part (s : State) (f : Pair → Pair) : (s.modPair f).part = s.part := rfl

@[simp] theorem State.modPair_time (s : State) (f : Pair → Pair) : (s.modPair f).time = s.time := rfl

@[simp] theorem State.modPair_host (s : State) (f : Pair → Pair) : (s.modPair f).host = s.host := rfl

@[simp] theorem State.modPair_obs (s : State) (f : Pair → Pair) : (s.modPair f).obs = s.obs := rfl

@[simp] theorem State.modPair_health (s : State) (f : Pair → Pair) : (s.modPair f).health = s.health := rfl

@[simp] theorem State.modPair_rqs (s : State) (f : Pair → Pair) : (s.modPair f).rqs = s.rqs := rfl

@[simp] theorem State.modPair_parts (s : State) (f : Pair → Pair) : (s.modPair f).parts = s.parts := rfl

@[simp] theorem State.modPair_hall (s : State) (f : Pair → Pair) : (s.modPair f).hall = s.hall := rfl

@[simp] theorem State.modPair_exp (s : State) (f : Pair → Pair) : (s.modPair f).exp = s.exp := rfl

@[simp] theorem State.modPair_wing0 (s : State) (f : Pair → Pair) : (s.modPair f).wing0 = s.wing0 := rfl

@[simp] theorem State.modPair_wing1 (s : State) (f : Pair → Pair) : (s.modPair f).wing1 = s.wing1 := rfl

@[simp] theorem State.modPair_tiles (s : State) (f : Pair → Pair) : (s.modPair f).tiles = s.tiles := rfl

@[simp] theorem State.modPair_sec (s : State) (f : Pair → Pair) : (s.modPair f).sec = s.sec := rfl

@[simp] theorem State.modPair_boot (s : State) (f : Pair → Pair) : (s.modPair f).boot = s.boot := rfl

@[simp] theorem State.modPair_power (s : State) (f : Pair → Pair) : (s.modPair f).power = s.power := rfl

@[simp] theorem State.modPair_settings (s : State) (f : Pair → Pair) : (s.modPair f).settings = s.settings := rfl

@[simp] theorem State.modPair_counters (s : State) (f : Pair → Pair) : (s.modPair f).counters = s.counters := rfl

@[simp] theorem State.modPair_sticky (s : State) (f : Pair → Pair) : (s.modPair f).sticky = s.sticky := rfl

@[simp] theorem State.modPair_free (s : State) (f : Pair → Pair) : (s.modPair f).free = s.free := rfl

@[simp] theorem State.modPair_out (s : State) (f : Pair → Pair) : (s.modPair f).out = s.out := rfl

@[simp] theorem State.modPair_pending (s : State) (f : Pair → Pair) : (s.modPair f).pending = s.pending := rfl

@[simp] theorem State.setStaging_part (s : State) (g : Option Staging) : (s.setStaging g).part = s.part := rfl

@[simp] theorem State.setStaging_time (s : State) (g : Option Staging) : (s.setStaging g).time = s.time := rfl

@[simp] theorem State.setStaging_host (s : State) (g : Option Staging) : (s.setStaging g).host = s.host := rfl

@[simp] theorem State.setStaging_obs (s : State) (g : Option Staging) : (s.setStaging g).obs = s.obs := rfl

@[simp] theorem State.setStaging_health (s : State) (g : Option Staging) : (s.setStaging g).health = s.health := rfl

@[simp] theorem State.setStaging_rqs (s : State) (g : Option Staging) : (s.setStaging g).rqs = s.rqs := rfl

@[simp] theorem State.setStaging_parts (s : State) (g : Option Staging) : (s.setStaging g).parts = s.parts := rfl

@[simp] theorem State.setStaging_hall (s : State) (g : Option Staging) : (s.setStaging g).hall = s.hall := rfl

@[simp] theorem State.setStaging_exp (s : State) (g : Option Staging) : (s.setStaging g).exp = s.exp := rfl

@[simp] theorem State.setStaging_wing0 (s : State) (g : Option Staging) : (s.setStaging g).wing0 = s.wing0 := rfl

@[simp] theorem State.setStaging_wing1 (s : State) (g : Option Staging) : (s.setStaging g).wing1 = s.wing1 := rfl

@[simp] theorem State.setStaging_tiles (s : State) (g : Option Staging) : (s.setStaging g).tiles = s.tiles := rfl

@[simp] theorem State.setStaging_sec (s : State) (g : Option Staging) : (s.setStaging g).sec = s.sec := rfl

@[simp] theorem State.setStaging_pair (s : State) (g : Option Staging) : (s.setStaging g).pair = s.pair := rfl

@[simp] theorem State.setStaging_power (s : State) (g : Option Staging) : (s.setStaging g).power = s.power := rfl

@[simp] theorem State.setStaging_settings (s : State) (g : Option Staging) : (s.setStaging g).settings = s.settings := rfl

@[simp] theorem State.setStaging_counters (s : State) (g : Option Staging) : (s.setStaging g).counters = s.counters := rfl

@[simp] theorem State.setStaging_sticky (s : State) (g : Option Staging) : (s.setStaging g).sticky = s.sticky := rfl

@[simp] theorem State.setStaging_free (s : State) (g : Option Staging) : (s.setStaging g).free = s.free := rfl

@[simp] theorem State.setStaging_out (s : State) (g : Option Staging) : (s.setStaging g).out = s.out := rfl

@[simp] theorem State.setStaging_pending (s : State) (g : Option Staging) : (s.setStaging g).pending = s.pending := rfl

@[simp] theorem State.writeRecord_part (s : State) (f : BootRec → BootRec) : (s.writeRecord f).part = s.part := rfl

@[simp] theorem State.writeRecord_time (s : State) (f : BootRec → BootRec) : (s.writeRecord f).time = s.time := rfl

@[simp] theorem State.writeRecord_host (s : State) (f : BootRec → BootRec) : (s.writeRecord f).host = s.host := rfl

@[simp] theorem State.writeRecord_obs (s : State) (f : BootRec → BootRec) : (s.writeRecord f).obs = s.obs := rfl

@[simp] theorem State.writeRecord_health (s : State) (f : BootRec → BootRec) : (s.writeRecord f).health = s.health := rfl

@[simp] theorem State.writeRecord_rqs (s : State) (f : BootRec → BootRec) : (s.writeRecord f).rqs = s.rqs := rfl

@[simp] theorem State.writeRecord_parts (s : State) (f : BootRec → BootRec) : (s.writeRecord f).parts = s.parts := rfl

@[simp] theorem State.writeRecord_hall (s : State) (f : BootRec → BootRec) : (s.writeRecord f).hall = s.hall := rfl

@[simp] theorem State.writeRecord_exp (s : State) (f : BootRec → BootRec) : (s.writeRecord f).exp = s.exp := rfl

@[simp] theorem State.writeRecord_wing0 (s : State) (f : BootRec → BootRec) : (s.writeRecord f).wing0 = s.wing0 := rfl

@[simp] theorem State.writeRecord_wing1 (s : State) (f : BootRec → BootRec) : (s.writeRecord f).wing1 = s.wing1 := rfl

@[simp] theorem State.writeRecord_tiles (s : State) (f : BootRec → BootRec) : (s.writeRecord f).tiles = s.tiles := rfl

@[simp] theorem State.writeRecord_sec (s : State) (f : BootRec → BootRec) : (s.writeRecord f).sec = s.sec := rfl

@[simp] theorem State.writeRecord_pair (s : State) (f : BootRec → BootRec) : (s.writeRecord f).pair = s.pair := rfl

@[simp] theorem State.writeRecord_power (s : State) (f : BootRec → BootRec) : (s.writeRecord f).power = s.power := rfl

@[simp] theorem State.writeRecord_settings (s : State) (f : BootRec → BootRec) : (s.writeRecord f).settings = s.settings := rfl

@[simp] theorem State.writeRecord_counters (s : State) (f : BootRec → BootRec) : (s.writeRecord f).counters = s.counters := rfl

@[simp] theorem State.writeRecord_sticky (s : State) (f : BootRec → BootRec) : (s.writeRecord f).sticky = s.sticky := rfl

@[simp] theorem State.writeRecord_free (s : State) (f : BootRec → BootRec) : (s.writeRecord f).free = s.free := rfl

@[simp] theorem State.writeRecord_out (s : State) (f : BootRec → BootRec) : (s.writeRecord f).out = s.out := rfl

@[simp] theorem State.writeRecord_pending (s : State) (f : BootRec → BootRec) : (s.writeRecord f).pending = s.pending := rfl

@[simp] theorem State.modRing_part (s : State) (r : Nat) (f : Ring → Ring) : (s.modRing r f).part = s.part := by unfold State.modRing; split <;> rfl

@[simp] theorem State.modRing_time (s : State) (r : Nat) (f : Ring → Ring) : (s.modRing r f).time = s.time := by unfold State.modRing; split <;> rfl

@[simp] theorem State.modRing_obs (s : State) (r : Nat) (f : Ring → Ring) : (s.modRing r f).obs = s.obs := by unfold State.modRing; split <;> rfl

@[simp] theorem State.modRing_health (s : State) (r : Nat) (f : Ring → Ring) : (s.modRing r f).health = s.health := by unfold State.modRing; split <;> rfl

@[simp] theorem State.modRing_rqs (s : State) (r : Nat) (f : Ring → Ring) : (s.modRing r f).rqs = s.rqs := by unfold State.modRing; split <;> rfl

@[simp] theorem State.modRing_parts (s : State) (r : Nat) (f : Ring → Ring) : (s.modRing r f).parts = s.parts := by unfold State.modRing; split <;> rfl

@[simp] theorem State.modRing_hall (s : State) (r : Nat) (f : Ring → Ring) : (s.modRing r f).hall = s.hall := by unfold State.modRing; split <;> rfl

@[simp] theorem State.modRing_exp (s : State) (r : Nat) (f : Ring → Ring) : (s.modRing r f).exp = s.exp := by unfold State.modRing; split <;> rfl

@[simp] theorem State.modRing_wing0 (s : State) (r : Nat) (f : Ring → Ring) : (s.modRing r f).wing0 = s.wing0 := by unfold State.modRing; split <;> rfl

@[simp] theorem State.modRing_wing1 (s : State) (r : Nat) (f : Ring → Ring) : (s.modRing r f).wing1 = s.wing1 := by unfold State.modRing; split <;> rfl

@[simp] theorem State.modRing_tiles (s : State) (r : Nat) (f : Ring → Ring) : (s.modRing r f).tiles = s.tiles := by unfold State.modRing; split <;> rfl

@[simp] theorem State.modRing_sec (s : State) (r : Nat) (f : Ring → Ring) : (s.modRing r f).sec = s.sec := by unfold State.modRing; split <;> rfl

@[simp] theorem State.modRing_pair (s : State) (r : Nat) (f : Ring → Ring) : (s.modRing r f).pair = s.pair := by unfold State.modRing; split <;> rfl

@[simp] theorem State.modRing_boot (s : State) (r : Nat) (f : Ring → Ring) : (s.modRing r f).boot = s.boot := by unfold State.modRing; split <;> rfl

@[simp] theorem State.modRing_power (s : State) (r : Nat) (f : Ring → Ring) : (s.modRing r f).power = s.power := by unfold State.modRing; split <;> rfl

@[simp] theorem State.modRing_settings (s : State) (r : Nat) (f : Ring → Ring) : (s.modRing r f).settings = s.settings := by unfold State.modRing; split <;> rfl

@[simp] theorem State.modRing_counters (s : State) (r : Nat) (f : Ring → Ring) : (s.modRing r f).counters = s.counters := by unfold State.modRing; split <;> rfl

@[simp] theorem State.modRing_sticky (s : State) (r : Nat) (f : Ring → Ring) : (s.modRing r f).sticky = s.sticky := by unfold State.modRing; split <;> rfl

@[simp] theorem State.modRing_free (s : State) (r : Nat) (f : Ring → Ring) : (s.modRing r f).free = s.free := by unfold State.modRing; split <;> rfl

@[simp] theorem State.modRing_out (s : State) (r : Nat) (f : Ring → Ring) : (s.modRing r f).out = s.out := by unfold State.modRing; split <;> rfl

@[simp] theorem State.modRing_pending (s : State) (r : Nat) (f : Ring → Ring) : (s.modRing r f).pending = s.pending := by unfold State.modRing; split <;> rfl

@[simp] theorem State.modAssoc_part (s : State) (n : Nat) (f : Assoc → Assoc) : (s.modAssoc n f).part = s.part := by unfold State.modAssoc; split <;> rfl

@[simp] theorem State.modAssoc_time (s : State) (n : Nat) (f : Assoc → Assoc) : (s.modAssoc n f).time = s.time := by unfold State.modAssoc; split <;> rfl

@[simp] theorem State.modAssoc_host (s : State) (n : Nat) (f : Assoc → Assoc) : (s.modAssoc n f).host = s.host := by unfold State.modAssoc; split <;> rfl

@[simp] theorem State.modAssoc_obs (s : State) (n : Nat) (f : Assoc → Assoc) : (s.modAssoc n f).obs = s.obs := by unfold State.modAssoc; split <;> rfl

@[simp] theorem State.modAssoc_health (s : State) (n : Nat) (f : Assoc → Assoc) : (s.modAssoc n f).health = s.health := by unfold State.modAssoc; split <;> rfl

@[simp] theorem State.modAssoc_rqs (s : State) (n : Nat) (f : Assoc → Assoc) : (s.modAssoc n f).rqs = s.rqs := by unfold State.modAssoc; split <;> rfl

@[simp] theorem State.modAssoc_parts (s : State) (n : Nat) (f : Assoc → Assoc) : (s.modAssoc n f).parts = s.parts := by unfold State.modAssoc; split <;> rfl

@[simp] theorem State.modAssoc_hall (s : State) (n : Nat) (f : Assoc → Assoc) : (s.modAssoc n f).hall = s.hall := by unfold State.modAssoc; split <;> rfl

@[simp] theorem State.modAssoc_exp (s : State) (n : Nat) (f : Assoc → Assoc) : (s.modAssoc n f).exp = s.exp := by unfold State.modAssoc; split <;> rfl

@[simp] theorem State.modAssoc_wing0 (s : State) (n : Nat) (f : Assoc → Assoc) : (s.modAssoc n f).wing0 = s.wing0 := by unfold State.modAssoc; split <;> rfl

@[simp] theorem State.modAssoc_wing1 (s : State) (n : Nat) (f : Assoc → Assoc) : (s.modAssoc n f).wing1 = s.wing1 := by unfold State.modAssoc; split <;> rfl

@[simp] theorem State.modAssoc_tiles (s : State) (n : Nat) (f : Assoc → Assoc) : (s.modAssoc n f).tiles = s.tiles := by unfold State.modAssoc; split <;> rfl

@[simp] theorem State.modAssoc_sec (s : State) (n : Nat) (f : Assoc → Assoc) : (s.modAssoc n f).sec = s.sec := by unfold State.modAssoc; split <;> rfl

@[simp] theorem State.modAssoc_pair (s : State) (n : Nat) (f : Assoc → Assoc) : (s.modAssoc n f).pair = s.pair := by unfold State.modAssoc; split <;> rfl

@[simp] theorem State.modAssoc_power (s : State) (n : Nat) (f : Assoc → Assoc) : (s.modAssoc n f).power = s.power := by unfold State.modAssoc; split <;> rfl

@[simp] theorem State.modAssoc_settings (s : State) (n : Nat) (f : Assoc → Assoc) : (s.modAssoc n f).settings = s.settings := by unfold State.modAssoc; split <;> rfl

@[simp] theorem State.modAssoc_counters (s : State) (n : Nat) (f : Assoc → Assoc) : (s.modAssoc n f).counters = s.counters := by unfold State.modAssoc; split <;> rfl

@[simp] theorem State.modAssoc_sticky (s : State) (n : Nat) (f : Assoc → Assoc) : (s.modAssoc n f).sticky = s.sticky := by unfold State.modAssoc; split <;> rfl

@[simp] theorem State.modAssoc_free (s : State) (n : Nat) (f : Assoc → Assoc) : (s.modAssoc n f).free = s.free := by unfold State.modAssoc; split <;> rfl

@[simp] theorem State.modAssoc_out (s : State) (n : Nat) (f : Assoc → Assoc) : (s.modAssoc n f).out = s.out := by unfold State.modAssoc; split <;> rfl

@[simp] theorem State.modAssoc_pending (s : State) (n : Nat) (f : Assoc → Assoc) : (s.modAssoc n f).pending = s.pending := by unfold State.modAssoc; split <;> rfl

@[simp] theorem State.setCmd_part (s : State) (r : Nat) (c : Option Cmd) : (s.setCmd r c).part = s.part := by unfold State.setCmd State.modRing State.modAssoc; split <;> split <;> rfl

@[simp] theorem State.setCmd_time (s : State) (r : Nat) (c : Option Cmd) : (s.setCmd r c).time = s.time := by unfold State.setCmd State.modRing State.modAssoc; split <;> split <;> rfl

@[simp] theorem State.setCmd_obs (s : State) (r : Nat) (c : Option Cmd) : (s.setCmd r c).obs = s.obs := by unfold State.setCmd State.modRing State.modAssoc; split <;> split <;> rfl

@[simp] theorem State.setCmd_health (s : State) (r : Nat) (c : Option Cmd) : (s.setCmd r c).health = s.health := by unfold State.setCmd State.modRing State.modAssoc; split <;> split <;> rfl

@[simp] theorem State.setCmd_rqs (s : State) (r : Nat) (c : Option Cmd) : (s.setCmd r c).rqs = s.rqs := by unfold State.setCmd State.modRing State.modAssoc; split <;> split <;> rfl

@[simp] theorem State.setCmd_parts (s : State) (r : Nat) (c : Option Cmd) : (s.setCmd r c).parts = s.parts := by unfold State.setCmd State.modRing State.modAssoc; split <;> split <;> rfl

@[simp] theorem State.setCmd_hall (s : State) (r : Nat) (c : Option Cmd) : (s.setCmd r c).hall = s.hall := by unfold State.setCmd State.modRing State.modAssoc; split <;> split <;> rfl

@[simp] theorem State.setCmd_exp (s : State) (r : Nat) (c : Option Cmd) : (s.setCmd r c).exp = s.exp := by unfold State.setCmd State.modRing State.modAssoc; split <;> split <;> rfl

@[simp] theorem State.setCmd_wing0 (s : State) (r : Nat) (c : Option Cmd) : (s.setCmd r c).wing0 = s.wing0 := by unfold State.setCmd State.modRing State.modAssoc; split <;> split <;> rfl

@[simp] theorem State.setCmd_wing1 (s : State) (r : Nat) (c : Option Cmd) : (s.setCmd r c).wing1 = s.wing1 := by unfold State.setCmd State.modRing State.modAssoc; split <;> split <;> rfl

@[simp] theorem State.setCmd_tiles (s : State) (r : Nat) (c : Option Cmd) : (s.setCmd r c).tiles = s.tiles := by unfold State.setCmd State.modRing State.modAssoc; split <;> split <;> rfl

@[simp] theorem State.setCmd_sec (s : State) (r : Nat) (c : Option Cmd) : (s.setCmd r c).sec = s.sec := by unfold State.setCmd State.modRing State.modAssoc; split <;> split <;> rfl

@[simp] theorem State.setCmd_pair (s : State) (r : Nat) (c : Option Cmd) : (s.setCmd r c).pair = s.pair := by unfold State.setCmd State.modRing State.modAssoc; split <;> split <;> rfl

@[simp] theorem State.setCmd_power (s : State) (r : Nat) (c : Option Cmd) : (s.setCmd r c).power = s.power := by unfold State.setCmd State.modRing State.modAssoc; split <;> split <;> rfl

@[simp] theorem State.setCmd_settings (s : State) (r : Nat) (c : Option Cmd) : (s.setCmd r c).settings = s.settings := by unfold State.setCmd State.modRing State.modAssoc; split <;> split <;> rfl

@[simp] theorem State.setCmd_counters (s : State) (r : Nat) (c : Option Cmd) : (s.setCmd r c).counters = s.counters := by unfold State.setCmd State.modRing State.modAssoc; split <;> split <;> rfl

@[simp] theorem State.setCmd_sticky (s : State) (r : Nat) (c : Option Cmd) : (s.setCmd r c).sticky = s.sticky := by unfold State.setCmd State.modRing State.modAssoc; split <;> split <;> rfl

@[simp] theorem State.setCmd_free (s : State) (r : Nat) (c : Option Cmd) : (s.setCmd r c).free = s.free := by unfold State.setCmd State.modRing State.modAssoc; split <;> split <;> rfl

@[simp] theorem State.setCmd_out (s : State) (r : Nat) (c : Option Cmd) : (s.setCmd r c).out = s.out := by unfold State.setCmd State.modRing State.modAssoc; split <;> split <;> rfl

@[simp] theorem State.setCmd_pending (s : State) (r : Nat) (c : Option Cmd) : (s.setCmd r c).pending = s.pending := by unfold State.setCmd State.modRing State.modAssoc; split <;> split <;> rfl

@[simp] theorem State.refreshFaultN_part (s : State) : (s.refreshFaultN).part = s.part := rfl

@[simp] theorem State.refreshFaultN_time (s : State) : (s.refreshFaultN).time = s.time := rfl

@[simp] theorem State.refreshFaultN_host (s : State) : (s.refreshFaultN).host = s.host := rfl

@[simp] theorem State.refreshFaultN_obs (s : State) : (s.refreshFaultN).obs = s.obs := rfl

@[simp] theorem State.refreshFaultN_health (s : State) : (s.refreshFaultN).health = s.health := rfl

@[simp] theorem State.refreshFaultN_rqs (s : State) : (s.refreshFaultN).rqs = s.rqs := rfl

@[simp] theorem State.refreshFaultN_parts (s : State) : (s.refreshFaultN).parts = s.parts := rfl

@[simp] theorem State.refreshFaultN_hall (s : State) : (s.refreshFaultN).hall = s.hall := rfl

@[simp] theorem State.refreshFaultN_exp (s : State) : (s.refreshFaultN).exp = s.exp := rfl

@[simp] theorem State.refreshFaultN_wing0 (s : State) : (s.refreshFaultN).wing0 = s.wing0 := rfl

@[simp] theorem State.refreshFaultN_wing1 (s : State) : (s.refreshFaultN).wing1 = s.wing1 := rfl

@[simp] theorem State.refreshFaultN_tiles (s : State) : (s.refreshFaultN).tiles = s.tiles := rfl

@[simp] theorem State.refreshFaultN_sec (s : State) : (s.refreshFaultN).sec = s.sec := rfl

@[simp] theorem State.refreshFaultN_pair (s : State) : (s.refreshFaultN).pair = s.pair := rfl

@[simp] theorem State.refreshFaultN_boot (s : State) : (s.refreshFaultN).boot = s.boot := rfl

@[simp] theorem State.refreshFaultN_settings (s : State) : (s.refreshFaultN).settings = s.settings := rfl

@[simp] theorem State.refreshFaultN_counters (s : State) : (s.refreshFaultN).counters = s.counters := rfl

@[simp] theorem State.refreshFaultN_sticky (s : State) : (s.refreshFaultN).sticky = s.sticky := rfl

@[simp] theorem State.refreshFaultN_free (s : State) : (s.refreshFaultN).free = s.free := rfl

@[simp] theorem State.refreshFaultN_out (s : State) : (s.refreshFaultN).out = s.out := rfl

@[simp] theorem State.refreshFaultN_pending (s : State) : (s.refreshFaultN).pending = s.pending := rfl

@[simp] theorem State.slotOut_part (s : State) (fn addr kind ring sequence : Nat) (plain : Bytes) : (s.slotOut fn addr kind ring sequence plain).part = s.part := rfl

@[simp] theorem State.slotOut_time (s : State) (fn addr kind ring sequence : Nat) (plain : Bytes) : (s.slotOut fn addr kind ring sequence plain).time = s.time := rfl

@[simp] theorem State.slotOut_obs (s : State) (fn addr kind ring sequence : Nat) (plain : Bytes) : (s.slotOut fn addr kind ring sequence plain).obs = s.obs := rfl

@[simp] theorem State.slotOut_health (s : State) (fn addr kind ring sequence : Nat) (plain : Bytes) : (s.slotOut fn addr kind ring sequence plain).health = s.health := rfl

@[simp] theorem State.slotOut_rqs (s : State) (fn addr kind ring sequence : Nat) (plain : Bytes) : (s.slotOut fn addr kind ring sequence plain).rqs = s.rqs := rfl

@[simp] theorem State.slotOut_parts (s : State) (fn addr kind ring sequence : Nat) (plain : Bytes) : (s.slotOut fn addr kind ring sequence plain).parts = s.parts := rfl

@[simp] theorem State.slotOut_hall (s : State) (fn addr kind ring sequence : Nat) (plain : Bytes) : (s.slotOut fn addr kind ring sequence plain).hall = s.hall := rfl

@[simp] theorem State.slotOut_exp (s : State) (fn addr kind ring sequence : Nat) (plain : Bytes) : (s.slotOut fn addr kind ring sequence plain).exp = s.exp := rfl

@[simp] theorem State.slotOut_wing0 (s : State) (fn addr kind ring sequence : Nat) (plain : Bytes) : (s.slotOut fn addr kind ring sequence plain).wing0 = s.wing0 := rfl

@[simp] theorem State.slotOut_wing1 (s : State) (fn addr kind ring sequence : Nat) (plain : Bytes) : (s.slotOut fn addr kind ring sequence plain).wing1 = s.wing1 := rfl

@[simp] theorem State.slotOut_tiles (s : State) (fn addr kind ring sequence : Nat) (plain : Bytes) : (s.slotOut fn addr kind ring sequence plain).tiles = s.tiles := rfl

@[simp] theorem State.slotOut_sec (s : State) (fn addr kind ring sequence : Nat) (plain : Bytes) : (s.slotOut fn addr kind ring sequence plain).sec = s.sec := rfl

@[simp] theorem State.slotOut_pair (s : State) (fn addr kind ring sequence : Nat) (plain : Bytes) : (s.slotOut fn addr kind ring sequence plain).pair = s.pair := rfl

@[simp] theorem State.slotOut_boot (s : State) (fn addr kind ring sequence : Nat) (plain : Bytes) : (s.slotOut fn addr kind ring sequence plain).boot = s.boot := rfl

@[simp] theorem State.slotOut_power (s : State) (fn addr kind ring sequence : Nat) (plain : Bytes) : (s.slotOut fn addr kind ring sequence plain).power = s.power := rfl

@[simp] theorem State.slotOut_settings (s : State) (fn addr kind ring sequence : Nat) (plain : Bytes) : (s.slotOut fn addr kind ring sequence plain).settings = s.settings := rfl

@[simp] theorem State.slotOut_counters (s : State) (fn addr kind ring sequence : Nat) (plain : Bytes) : (s.slotOut fn addr kind ring sequence plain).counters = s.counters := rfl

@[simp] theorem State.slotOut_sticky (s : State) (fn addr kind ring sequence : Nat) (plain : Bytes) : (s.slotOut fn addr kind ring sequence plain).sticky = s.sticky := rfl

@[simp] theorem State.slotOut_free (s : State) (fn addr kind ring sequence : Nat) (plain : Bytes) : (s.slotOut fn addr kind ring sequence plain).free = s.free := rfl

@[simp] theorem State.slotOut_pending (s : State) (fn addr kind ring sequence : Nat) (plain : Bytes) : (s.slotOut fn addr kind ring sequence plain).pending = s.pending := rfl

@[simp] theorem State.dma_part (s : State) (fn : Nat) (o : Output) : (s.dma fn o).part = s.part := rfl

@[simp] theorem State.dma_time (s : State) (fn : Nat) (o : Output) : (s.dma fn o).time = s.time := rfl

@[simp] theorem State.dma_host (s : State) (fn : Nat) (o : Output) : (s.dma fn o).host = s.host := rfl

@[simp] theorem State.dma_obs (s : State) (fn : Nat) (o : Output) : (s.dma fn o).obs = s.obs := rfl

@[simp] theorem State.dma_health (s : State) (fn : Nat) (o : Output) : (s.dma fn o).health = s.health := rfl

@[simp] theorem State.dma_rqs (s : State) (fn : Nat) (o : Output) : (s.dma fn o).rqs = s.rqs := rfl

@[simp] theorem State.dma_parts (s : State) (fn : Nat) (o : Output) : (s.dma fn o).parts = s.parts := rfl

@[simp] theorem State.dma_hall (s : State) (fn : Nat) (o : Output) : (s.dma fn o).hall = s.hall := rfl

@[simp] theorem State.dma_exp (s : State) (fn : Nat) (o : Output) : (s.dma fn o).exp = s.exp := rfl

@[simp] theorem State.dma_wing0 (s : State) (fn : Nat) (o : Output) : (s.dma fn o).wing0 = s.wing0 := rfl

@[simp] theorem State.dma_wing1 (s : State) (fn : Nat) (o : Output) : (s.dma fn o).wing1 = s.wing1 := rfl

@[simp] theorem State.dma_tiles (s : State) (fn : Nat) (o : Output) : (s.dma fn o).tiles = s.tiles := rfl

@[simp] theorem State.dma_sec (s : State) (fn : Nat) (o : Output) : (s.dma fn o).sec = s.sec := rfl

@[simp] theorem State.dma_pair (s : State) (fn : Nat) (o : Output) : (s.dma fn o).pair = s.pair := rfl

@[simp] theorem State.dma_boot (s : State) (fn : Nat) (o : Output) : (s.dma fn o).boot = s.boot := rfl

@[simp] theorem State.dma_power (s : State) (fn : Nat) (o : Output) : (s.dma fn o).power = s.power := rfl

@[simp] theorem State.dma_settings (s : State) (fn : Nat) (o : Output) : (s.dma fn o).settings = s.settings := rfl

@[simp] theorem State.dma_counters (s : State) (fn : Nat) (o : Output) : (s.dma fn o).counters = s.counters := rfl

@[simp] theorem State.dma_sticky (s : State) (fn : Nat) (o : Output) : (s.dma fn o).sticky = s.sticky := rfl

@[simp] theorem State.dma_free (s : State) (fn : Nat) (o : Output) : (s.dma fn o).free = s.free := rfl

@[simp] theorem State.dma_pending (s : State) (fn : Nat) (o : Output) : (s.dma fn o).pending = s.pending := rfl

@[simp] theorem State.noteStep_part (s : State) (r : Nat) (c : Cmd) : (s.noteStep r c).part = s.part := rfl

@[simp] theorem State.noteStep_time (s : State) (r : Nat) (c : Cmd) : (s.noteStep r c).time = s.time := rfl

@[simp] theorem State.noteStep_obs (s : State) (r : Nat) (c : Cmd) : (s.noteStep r c).obs = s.obs := rfl

@[simp] theorem State.noteStep_health (s : State) (r : Nat) (c : Cmd) : (s.noteStep r c).health = s.health := rfl

@[simp] theorem State.noteStep_rqs (s : State) (r : Nat) (c : Cmd) : (s.noteStep r c).rqs = s.rqs := rfl

@[simp] theorem State.noteStep_parts (s : State) (r : Nat) (c : Cmd) : (s.noteStep r c).parts = s.parts := rfl

@[simp] theorem State.noteStep_hall (s : State) (r : Nat) (c : Cmd) : (s.noteStep r c).hall = s.hall := rfl

@[simp] theorem State.noteStep_exp (s : State) (r : Nat) (c : Cmd) : (s.noteStep r c).exp = s.exp := rfl

@[simp] theorem State.noteStep_wing0 (s : State) (r : Nat) (c : Cmd) : (s.noteStep r c).wing0 = s.wing0 := rfl

@[simp] theorem State.noteStep_wing1 (s : State) (r : Nat) (c : Cmd) : (s.noteStep r c).wing1 = s.wing1 := rfl

@[simp] theorem State.noteStep_tiles (s : State) (r : Nat) (c : Cmd) : (s.noteStep r c).tiles = s.tiles := rfl

@[simp] theorem State.noteStep_sec (s : State) (r : Nat) (c : Cmd) : (s.noteStep r c).sec = s.sec := rfl

@[simp] theorem State.noteStep_pair (s : State) (r : Nat) (c : Cmd) : (s.noteStep r c).pair = s.pair := rfl

@[simp] theorem State.noteStep_boot (s : State) (r : Nat) (c : Cmd) : (s.noteStep r c).boot = s.boot := rfl

@[simp] theorem State.noteStep_power (s : State) (r : Nat) (c : Cmd) : (s.noteStep r c).power = s.power := rfl

@[simp] theorem State.noteStep_settings (s : State) (r : Nat) (c : Cmd) : (s.noteStep r c).settings = s.settings := rfl

@[simp] theorem State.noteStep_counters (s : State) (r : Nat) (c : Cmd) : (s.noteStep r c).counters = s.counters := rfl

@[simp] theorem State.noteStep_sticky (s : State) (r : Nat) (c : Cmd) : (s.noteStep r c).sticky = s.sticky := rfl

@[simp] theorem State.noteStep_free (s : State) (r : Nat) (c : Cmd) : (s.noteStep r c).free = s.free := rfl

@[simp] theorem State.noteStep_out (s : State) (r : Nat) (c : Cmd) : (s.noteStep r c).out = s.out := rfl

@[simp] theorem State.noteStep_pending (s : State) (r : Nat) (c : Cmd) : (s.noteStep r c).pending = s.pending := rfl

@[simp] theorem State.clearSticky_part (s : State) (m : BitVec 256) : (s.clearSticky m).part = s.part := rfl

@[simp] theorem State.clearSticky_time (s : State) (m : BitVec 256) : (s.clearSticky m).time = s.time := rfl

@[simp] theorem State.clearSticky_host (s : State) (m : BitVec 256) : (s.clearSticky m).host = s.host := rfl

@[simp] theorem State.clearSticky_obs (s : State) (m : BitVec 256) : (s.clearSticky m).obs = s.obs := rfl

@[simp] theorem State.clearSticky_health (s : State) (m : BitVec 256) : (s.clearSticky m).health = s.health := rfl

@[simp] theorem State.clearSticky_rqs (s : State) (m : BitVec 256) : (s.clearSticky m).rqs = s.rqs := rfl

@[simp] theorem State.clearSticky_parts (s : State) (m : BitVec 256) : (s.clearSticky m).parts = s.parts := rfl

@[simp] theorem State.clearSticky_hall (s : State) (m : BitVec 256) : (s.clearSticky m).hall = s.hall := rfl

@[simp] theorem State.clearSticky_exp (s : State) (m : BitVec 256) : (s.clearSticky m).exp = s.exp := rfl

@[simp] theorem State.clearSticky_wing0 (s : State) (m : BitVec 256) : (s.clearSticky m).wing0 = s.wing0 := rfl

@[simp] theorem State.clearSticky_wing1 (s : State) (m : BitVec 256) : (s.clearSticky m).wing1 = s.wing1 := rfl

@[simp] theorem State.clearSticky_tiles (s : State) (m : BitVec 256) : (s.clearSticky m).tiles = s.tiles := rfl

@[simp] theorem State.clearSticky_sec (s : State) (m : BitVec 256) : (s.clearSticky m).sec = s.sec := rfl

@[simp] theorem State.clearSticky_pair (s : State) (m : BitVec 256) : (s.clearSticky m).pair = s.pair := rfl

@[simp] theorem State.clearSticky_boot (s : State) (m : BitVec 256) : (s.clearSticky m).boot = s.boot := rfl

@[simp] theorem State.clearSticky_settings (s : State) (m : BitVec 256) : (s.clearSticky m).settings = s.settings := rfl

@[simp] theorem State.clearSticky_counters (s : State) (m : BitVec 256) : (s.clearSticky m).counters = s.counters := rfl

@[simp] theorem State.clearSticky_free (s : State) (m : BitVec 256) : (s.clearSticky m).free = s.free := rfl

@[simp] theorem State.clearSticky_out (s : State) (m : BitVec 256) : (s.clearSticky m).out = s.out := rfl

@[simp] theorem State.clearSticky_pending (s : State) (m : BitVec 256) : (s.clearSticky m).pending = s.pending := rfl


/-! ### Reads after writes -/

@[simp] theorem State.ctr_setCtr (s : State) (id v : Nat) : (s.setCtr id v).ctr id = v := mget_mput_same ..

theorem State.ctr_setCtr_other (s : State) {id j : Nat} (v : Nat) (h : j ≠ id) : (s.setCtr id v).ctr j = s.ctr j :=
  mget_mput_other _ _ _ h

@[simp] theorem State.ctr_bumpN (s : State) (id n : Nat) : (s.bumpN id n).ctr id = satAdd max64 (s.ctr id) n := mget_mput_same ..

theorem State.ctr_bumpN_other (s : State) {id j : Nat} (n : Nat) (h : j ≠ id) : (s.bumpN id n).ctr j = s.ctr j :=
  mget_mput_other _ _ _ h

@[simp] theorem State.buf_setBuf (s : State) (b : Nat) (t : TraceBuf) : (s.setBuf b t).buf b = t := mget_mput_same ..

theorem State.buf_setBuf_other (s : State) {b j : Nat} (t : TraceBuf) (h : j ≠ b) : (s.setBuf b t).buf j = s.buf j :=
  mget_mput_other _ _ _ h

@[simp] theorem State.vec_setVec (s : State) (fn v : Nat) (x : Vec) : (s.setVec fn v x).vec fn v = x := mget_mput_same ..

@[simp] theorem State.func_setFunc (s : State) (f : Nat) (x : Func) : (s.setFunc f x).func f = x := mget_mput_same ..

theorem State.func_setFunc_other (s : State) {f j : Nat} (x : Func) (h : j ≠ f) : (s.setFunc f x).func j = s.func j :=
  mget_mput_other _ _ _ h

@[simp] theorem State.partOf_setPart (s : State) (p : Nat) (x : Partition) : (s.setPart p x).partOf p = x := mget_mput_same ..

theorem State.partOf_setPart_other (s : State) {p j : Nat} (x : Partition) (h : j ≠ p) : (s.setPart p x).partOf j = s.partOf j :=
  mget_mput_other _ _ _ h

@[simp] theorem State.lane_setLane (s : State) (n : Nat) (x : Lane) : (s.setLane n x).lane n = x := mget_mput_same ..

theorem State.lane_setLane_other (s : State) {n j : Nat} (x : Lane) (h : j ≠ n) : (s.setLane n x).lane j = s.lane j :=
  mget_mput_other _ _ _ h

@[simp] theorem State.tile_setTile (s : State) (i : Nat) (t : Tile) : (s.setTile i t).tile i = t := mget_mput_same ..

theorem State.tile_setTile_other (s : State) {i j : Nat} (t : Tile) (h : j ≠ i) : (s.setTile i t).tile j = s.tile j :=
  mget_mput_other _ _ _ h

@[simp] theorem State.queueOf_setQueue (s : State) (b : Nat) (q : List Occ) : (s.setQueue b q).queueOf b = q := mget_mput_same ..

theorem State.queueOf_setQueue_other (s : State) {b j : Nat} (q : List Occ) (h : j ≠ b) :
    (s.setQueue b q).queueOf j = s.queueOf j := mget_mput_other _ _ _ h

theorem State.wing_setWing (s : State) {w : Nat} (x : Wing) : (s.setWing w x).wing w = x := by
  unfold State.setWing State.wing
  split <;> rfl

theorem State.wing_setWing_other (s : State) {w v : Nat} (x : Wing) (hw : w < 2) (hv : v < 2) (h : v ≠ w) :
    (s.setWing w x).wing v = s.wing v := by
  unfold State.setWing State.wing
  split <;> split <;> first | rfl | omega

@[simp] theorem State.section_setSection (s : State) (die k : Nat) (x : MantelSec) : (s.setSection die k x).section_ die k = x :=
  mget_mput_same ..

theorem State.section_setSection_other (s : State) {die k d j : Nat} (x : MantelSec) (h : 16 * d + j ≠ 16 * die + k) :
    (s.setSection die k x).section_ d j = s.section_ d j := mget_mput_other _ _ _ h

@[simp] theorem State.staging_setStaging (s : State) (g : Option Staging) : (s.setStaging g).boot.staging = g := rfl

theorem State.sealed_frame (s : State) (fn kind ring sequence bind : Nat) (plain : Bytes) :
    (s.sealed fn kind ring sequence bind plain).2 = s.setFunc fn { s.func fn with nonceCtr := (s.func fn).nonceCtr + 1 } := rfl

@[simp] theorem State.dma_out (s : State) (fn : Nat) (o : Output) :
    (s.dma fn o).out = s.out ++ [if (s.func fn).tdisp = .run then .tee fn o else o] := rfl

@[simp] theorem State.emit_out (s : State) (o : Output) : (s.emit o).out = s.out ++ [o] := rfl

@[simp] theorem State.modPair_pair (s : State) (f : Pair → Pair) : (s.modPair f).pair = f s.pair := rfl

end Sys2Proof.Machine
end

