-- ==== Sys2Proof/Laws/Ops.lean ====
section
/-!
SUPPORT. Laws/Ops.lean: what each operation that several commands share can do: the fields it leaves, the values it writes,
and when a command's frame runs the command's body.
-/
namespace Sys2Proof.Machine

/-- What each step of a fold keeps, the fold keeps. -/
theorem foldl_keeps {α β γ : Type} (g : α → γ) (f : α → β → α) (h : ∀ a b, g (f a b) = g a) (l : List β) (a : α) :
    g (l.foldl f a) = g a := by
  induction l generalizing a with
  | nil => rfl
  | cons b l ih => exact (ih _).trans (h a b)

/-! ### Fields that an operation leaves -/

@[simp] theorem State.trace_part (s : State) (b : Nat) (r : TraceRec) : (s.trace b r).part = s.part := by
  unfold State.trace; dsimp only; (repeat' split) <;> rfl

@[simp] theorem State.trace_time (s : State) (b : Nat) (r : TraceRec) : (s.trace b r).time = s.time := by
  unfold State.trace; dsimp only; (repeat' split) <;> rfl

@[simp] theorem State.trace_host (s : State) (b : Nat) (r : TraceRec) : (s.trace b r).host = s.host := by
  unfold State.trace; dsimp only; (repeat' split) <;> rfl

@[simp] theorem State.trace_health (s : State) (b : Nat) (r : TraceRec) : (s.trace b r).health = s.health := by
  unfold State.trace; dsimp only; (repeat' split) <;> rfl

@[simp] theorem State.trace_rqs (s : State) (b : Nat) (r : TraceRec) : (s.trace b r).rqs = s.rqs := by
  unfold State.trace; dsimp only; (repeat' split) <;> rfl

@[simp] theorem State.trace_parts (s : State) (b : Nat) (r : TraceRec) : (s.trace b r).parts = s.parts := by
  unfold State.trace; dsimp only; (repeat' split) <;> rfl

@[simp] theorem State.trace_hall (s : State) (b : Nat) (r : TraceRec) : (s.trace b r).hall = s.hall := by
  unfold State.trace; dsimp only; (repeat' split) <;> rfl

@[simp] theorem State.trace_exp (s : State) (b : Nat) (r : TraceRec) : (s.trace b r).exp = s.exp := by
  unfold State.trace; dsimp only; (repeat' split) <;> rfl

@[simp] theorem State.trace_wing0 (s : State) (b : Nat) (r : TraceRec) : (s.trace b r).wing0 = s.wing0 := by
  unfold State.trace; dsimp only; (repeat' split) <;> rfl

@[simp] theorem State.trace_wing1 (s : State) (b : Nat) (r : TraceRec) : (s.trace b r).wing1 = s.wing1 := by
  unfold State.trace; dsimp only; (repeat' split) <;> rfl

@[simp] theorem State.trace_tiles (s : State) (b : Nat) (r : TraceRec) : (s.trace b r).tiles = s.tiles := by
  unfold State.trace; dsimp only; (repeat' split) <;> rfl

@[simp] theorem State.trace_sec (s : State) (b : Nat) (r : TraceRec) : (s.trace b r).sec = s.sec := by
  unfold State.trace; dsimp only; (repeat' split) <;> rfl

@[simp] theorem State.trace_pair (s : State) (b : Nat) (r : TraceRec) : (s.trace b r).pair = s.pair := by
  unfold State.trace; dsimp only; (repeat' split) <;> rfl

@[simp] theorem State.trace_boot (s : State) (b : Nat) (r : TraceRec) : (s.trace b r).boot = s.boot := by
  unfold State.trace; dsimp only; (repeat' split) <;> rfl

@[simp] theorem State.trace_power (s : State) (b : Nat) (r : TraceRec) : (s.trace b r).power = s.power := by
  unfold State.trace; dsimp only; (repeat' split) <;> rfl

@[simp] theorem State.trace_settings (s : State) (b : Nat) (r : TraceRec) : (s.trace b r).settings = s.settings := by
  unfold State.trace; dsimp only; (repeat' split) <;> rfl

@[simp] theorem State.trace_sticky (s : State) (b : Nat) (r : TraceRec) : (s.trace b r).sticky = s.sticky := by
  unfold State.trace; dsimp only; (repeat' split) <;> rfl

@[simp] theorem State.trace_free (s : State) (b : Nat) (r : TraceRec) : (s.trace b r).free = s.free := by
  unfold State.trace; dsimp only; (repeat' split) <;> rfl

@[simp] theorem State.trace_out (s : State) (b : Nat) (r : TraceRec) : (s.trace b r).out = s.out := by
  unfold State.trace; dsimp only; (repeat' split) <;> rfl

@[simp] theorem State.trace_pending (s : State) (b : Nat) (r : TraceRec) : (s.trace b r).pending = s.pending := by
  unfold State.trace; dsimp only; (repeat' split) <;> rfl

@[simp] theorem State.fireIn_part (s : State) (bit b : Nat) : (s.fireIn bit b).part = s.part := by
  unfold State.fireIn; split <;> simp

@[simp] theorem State.fireIn_time (s : State) (bit b : Nat) : (s.fireIn bit b).time = s.time := by
  unfold State.fireIn; split <;> simp

@[simp] theorem State.fireIn_host (s : State) (bit b : Nat) : (s.fireIn bit b).host = s.host := by
  unfold State.fireIn; split <;> simp

@[simp] theorem State.fireIn_health (s : State) (bit b : Nat) : (s.fireIn bit b).health = s.health := by
  unfold State.fireIn; split <;> simp

@[simp] theorem State.fireIn_rqs (s : State) (bit b : Nat) : (s.fireIn bit b).rqs = s.rqs := by
  unfold State.fireIn; split <;> simp

@[simp] theorem State.fireIn_parts (s : State) (bit b : Nat) : (s.fireIn bit b).parts = s.parts := by
  unfold State.fireIn; split <;> simp

@[simp] theorem State.fireIn_hall (s : State) (bit b : Nat) : (s.fireIn bit b).hall = s.hall := by
  unfold State.fireIn; split <;> simp

@[simp] theorem State.fireIn_exp (s : State) (bit b : Nat) : (s.fireIn bit b).exp = s.exp := by
  unfold State.fireIn; split <;> simp

@[simp] theorem State.fireIn_wing0 (s : State) (bit b : Nat) : (s.fireIn bit b).wing0 = s.wing0 := by
  unfold State.fireIn; split <;> simp

@[simp] theorem State.fireIn_wing1 (s : State) (bit b : Nat) : (s.fireIn bit b).wing1 = s.wing1 := by
  unfold State.fireIn; split <;> simp

@[simp] theorem State.fireIn_tiles (s : State) (bit b : Nat) : (s.fireIn bit b).tiles = s.tiles := by
  unfold State.fireIn; split <;> simp

@[simp] theorem State.fireIn_sec (s : State) (bit b : Nat) : (s.fireIn bit b).sec = s.sec := by
  unfold State.fireIn; split <;> simp

@[simp] theorem State.fireIn_pair (s : State) (bit b : Nat) : (s.fireIn bit b).pair = s.pair := by
  unfold State.fireIn; split <;> simp

@[simp] theorem State.fireIn_boot (s : State) (bit b : Nat) : (s.fireIn bit b).boot = s.boot := by
  unfold State.fireIn; split <;> simp

@[simp] theorem State.fireIn_power (s : State) (bit b : Nat) : (s.fireIn bit b).power = s.power := by
  unfold State.fireIn; split <;> simp

@[simp] theorem State.fireIn_settings (s : State) (bit b : Nat) : (s.fireIn bit b).settings = s.settings := by
  unfold State.fireIn; split <;> simp

@[simp] theorem State.fireIn_sticky (s : State) (bit b : Nat) : (s.fireIn bit b).sticky = s.sticky := by
  unfold State.fireIn; split <;> simp

@[simp] theorem State.fireIn_free (s : State) (bit b : Nat) : (s.fireIn bit b).free = s.free := by
  unfold State.fireIn; split <;> simp

@[simp] theorem State.fireIn_out (s : State) (bit b : Nat) : (s.fireIn bit b).out = s.out := by
  unfold State.fireIn; split <;> simp

@[simp] theorem State.fireIn_pending (s : State) (bit b : Nat) : (s.fireIn bit b).pending = s.pending := by
  unfold State.fireIn; split <;> simp

@[simp] theorem State.fire_part (s : State) (bit : Nat) (bs : List Nat) : (s.fire bit bs).part = s.part := 
  foldl_keeps State.part _ (fun s b => s.fireIn_part bit b) bs s

@[simp] theorem State.fire_time (s : State) (bit : Nat) (bs : List Nat) : (s.fire bit bs).time = s.time := 
  foldl_keeps State.time _ (fun s b => s.fireIn_time bit b) bs s

@[simp] theorem State.fire_host (s : State) (bit : Nat) (bs : List Nat) : (s.fire bit bs).host = s.host := 
  foldl_keeps State.host _ (fun s b => s.fireIn_host bit b) bs s

@[simp] theorem State.fire_health (s : State) (bit : Nat) (bs : List Nat) : (s.fire bit bs).health = s.health := 
  foldl_keeps State.health _ (fun s b => s.fireIn_health bit b) bs s

@[simp] theorem State.fire_rqs (s : State) (bit : Nat) (bs : List Nat) : (s.fire bit bs).rqs = s.rqs := 
  foldl_keeps State.rqs _ (fun s b => s.fireIn_rqs bit b) bs s

@[simp] theorem State.fire_parts (s : State) (bit : Nat) (bs : List Nat) : (s.fire bit bs).parts = s.parts := 
  foldl_keeps State.parts _ (fun s b => s.fireIn_parts bit b) bs s

@[simp] theorem State.fire_hall (s : State) (bit : Nat) (bs : List Nat) : (s.fire bit bs).hall = s.hall := 
  foldl_keeps State.hall _ (fun s b => s.fireIn_hall bit b) bs s

@[simp] theorem State.fire_exp (s : State) (bit : Nat) (bs : List Nat) : (s.fire bit bs).exp = s.exp := 
  foldl_keeps State.exp _ (fun s b => s.fireIn_exp bit b) bs s

@[simp] theorem State.fire_wing0 (s : State) (bit : Nat) (bs : List Nat) : (s.fire bit bs).wing0 = s.wing0 := 
  foldl_keeps State.wing0 _ (fun s b => s.fireIn_wing0 bit b) bs s

@[simp] theorem State.fire_wing1 (s : State) (bit : Nat) (bs : List Nat) : (s.fire bit bs).wing1 = s.wing1 := 
  foldl_keeps State.wing1 _ (fun s b => s.fireIn_wing1 bit b) bs s

@[simp] theorem State.fire_tiles (s : State) (bit : Nat) (bs : List Nat) : (s.fire bit bs).tiles = s.tiles := 
  foldl_keeps State.tiles _ (fun s b => s.fireIn_tiles bit b) bs s

@[simp] theorem State.fire_sec (s : State) (bit : Nat) (bs : List Nat) : (s.fire bit bs).sec = s.sec := 
  foldl_keeps State.sec _ (fun s b => s.fireIn_sec bit b) bs s

@[simp] theorem State.fire_pair (s : State) (bit : Nat) (bs : List Nat) : (s.fire bit bs).pair = s.pair := 
  foldl_keeps State.pair _ (fun s b => s.fireIn_pair bit b) bs s

@[simp] theorem State.fire_boot (s : State) (bit : Nat) (bs : List Nat) : (s.fire bit bs).boot = s.boot := 
  foldl_keeps State.boot _ (fun s b => s.fireIn_boot bit b) bs s

@[simp] theorem State.fire_power (s : State) (bit : Nat) (bs : List Nat) : (s.fire bit bs).power = s.power := 
  foldl_keeps State.power _ (fun s b => s.fireIn_power bit b) bs s

@[simp] theorem State.fire_settings (s : State) (bit : Nat) (bs : List Nat) : (s.fire bit bs).settings = s.settings := 
  foldl_keeps State.settings _ (fun s b => s.fireIn_settings bit b) bs s

@[simp] theorem State.fire_sticky (s : State) (bit : Nat) (bs : List Nat) : (s.fire bit bs).sticky = s.sticky := 
  foldl_keeps State.sticky _ (fun s b => s.fireIn_sticky bit b) bs s

@[simp] theorem State.fire_free (s : State) (bit : Nat) (bs : List Nat) : (s.fire bit bs).free = s.free := 
  foldl_keeps State.free _ (fun s b => s.fireIn_free bit b) bs s

@[simp] theorem State.fire_out (s : State) (bit : Nat) (bs : List Nat) : (s.fire bit bs).out = s.out := 
  foldl_keeps State.out _ (fun s b => s.fireIn_out bit b) bs s

@[simp] theorem State.fire_pending (s : State) (bit : Nat) (bs : List Nat) : (s.fire bit bs).pending = s.pending := 
  foldl_keeps State.pending _ (fun s b => s.fireIn_pending bit b) bs s

@[simp] theorem State.sendVector_part (s : State) (fn v : Nat) : (s.sendVector fn v).part = s.part := by
  unfold State.sendVector; split <;> simp

@[simp] theorem State.sendVector_time (s : State) (fn v : Nat) : (s.sendVector fn v).time = s.time := by
  unfold State.sendVector; split <;> simp

@[simp] theorem State.sendVector_obs (s : State) (fn v : Nat) : (s.sendVector fn v).obs = s.obs := by
  unfold State.sendVector; split <;> simp

@[simp] theorem State.sendVector_health (s : State) (fn v : Nat) : (s.sendVector fn v).health = s.health := by
  unfold State.sendVector; split <;> simp

@[simp] theorem State.sendVector_rqs (s : State) (fn v : Nat) : (s.sendVector fn v).rqs = s.rqs := by
  unfold State.sendVector; split <;> simp

@[simp] theorem State.sendVector_parts (s : State) (fn v : Nat) : (s.sendVector fn v).parts = s.parts := by
  unfold State.sendVector; split <;> simp

@[simp] theorem State.sendVector_hall (s : State) (fn v : Nat) : (s.sendVector fn v).hall = s.hall := by
  unfold State.sendVector; split <;> simp

@[simp] theorem State.sendVector_exp (s : State) (fn v : Nat) : (s.sendVector fn v).exp = s.exp := by
  unfold State.sendVector; split <;> simp

@[simp] theorem State.sendVector_wing0 (s : State) (fn v : Nat) : (s.sendVector fn v).wing0 = s.wing0 := by
  unfold State.sendVector; split <;> simp

@[simp] theorem State.sendVector_wing1 (s : State) (fn v : Nat) : (s.sendVector fn v).wing1 = s.wing1 := by
  unfold State.sendVector; split <;> simp

@[simp] theorem State.sendVector_tiles (s : State) (fn v : Nat) : (s.sendVector fn v).tiles = s.tiles := by
  unfold State.sendVector; split <;> simp

@[simp] theorem State.sendVector_sec (s : State) (fn v : Nat) : (s.sendVector fn v).sec = s.sec := by
  unfold State.sendVector; split <;> simp

@[simp] theorem State.sendVector_pair (s : State) (fn v : Nat) : (s.sendVector fn v).pair = s.pair := by
  unfold State.sendVector; split <;> simp

@[simp] theorem State.sendVector_boot (s : State) (fn v : Nat) : (s.sendVector fn v).boot = s.boot := by
  unfold State.sendVector; split <;> simp

@[simp] theorem State.sendVector_power (s : State) (fn v : Nat) : (s.sendVector fn v).power = s.power := by
  unfold State.sendVector; split <;> simp

@[simp] theorem State.sendVector_settings (s : State) (fn v : Nat) : (s.sendVector fn v).settings = s.settings := by
  unfold State.sendVector; split <;> simp

@[simp] theorem State.sendVector_sticky (s : State) (fn v : Nat) : (s.sendVector fn v).sticky = s.sticky := by
  unfold State.sendVector; split <;> simp

@[simp] theorem State.sendVector_free (s : State) (fn v : Nat) : (s.sendVector fn v).free = s.free := by
  unfold State.sendVector; split <;> simp

@[simp] theorem State.sendVector_pending (s : State) (fn v : Nat) : (s.sendVector fn v).pending = s.pending := by
  unfold State.sendVector; split <;> simp

@[simp] theorem State.signalSticky_part (s : State) (n : Nat) : (s.signalSticky n).part = s.part := by
  unfold State.signalSticky; dsimp only; split <;> simp [List.foldl]

@[simp] theorem State.signalSticky_time (s : State) (n : Nat) : (s.signalSticky n).time = s.time := by
  unfold State.signalSticky; dsimp only; split <;> simp [List.foldl]

@[simp] theorem State.signalSticky_obs (s : State) (n : Nat) : (s.signalSticky n).obs = s.obs := by
  unfold State.signalSticky; dsimp only; split <;> simp [List.foldl]

@[simp] theorem State.signalSticky_health (s : State) (n : Nat) : (s.signalSticky n).health = s.health := by
  unfold State.signalSticky; dsimp only; split <;> simp [List.foldl]

@[simp] theorem State.signalSticky_rqs (s : State) (n : Nat) : (s.signalSticky n).rqs = s.rqs := by
  unfold State.signalSticky; dsimp only; split <;> simp [List.foldl]

@[simp] theorem State.signalSticky_parts (s : State) (n : Nat) : (s.signalSticky n).parts = s.parts := by
  unfold State.signalSticky; dsimp only; split <;> simp [List.foldl]

@[simp] theorem State.signalSticky_hall (s : State) (n : Nat) : (s.signalSticky n).hall = s.hall := by
  unfold State.signalSticky; dsimp only; split <;> simp [List.foldl]

@[simp] theorem State.signalSticky_exp (s : State) (n : Nat) : (s.signalSticky n).exp = s.exp := by
  unfold State.signalSticky; dsimp only; split <;> simp [List.foldl]

@[simp] theorem State.signalSticky_wing0 (s : State) (n : Nat) : (s.signalSticky n).wing0 = s.wing0 := by
  unfold State.signalSticky; dsimp only; split <;> simp [List.foldl]

@[simp] theorem State.signalSticky_wing1 (s : State) (n : Nat) : (s.signalSticky n).wing1 = s.wing1 := by
  unfold State.signalSticky; dsimp only; split <;> simp [List.foldl]

@[simp] theorem State.signalSticky_tiles (s : State) (n : Nat) : (s.signalSticky n).tiles = s.tiles := by
  unfold State.signalSticky; dsimp only; split <;> simp [List.foldl]

@[simp] theorem State.signalSticky_sec (s : State) (n : Nat) : (s.signalSticky n).sec = s.sec := by
  unfold State.signalSticky; dsimp only; split <;> simp [List.foldl]

@[simp] theorem State.signalSticky_pair (s : State) (n : Nat) : (s.signalSticky n).pair = s.pair := by
  unfold State.signalSticky; dsimp only; split <;> simp [List.foldl]

@[simp] theorem State.signalSticky_boot (s : State) (n : Nat) : (s.signalSticky n).boot = s.boot := by
  unfold State.signalSticky; dsimp only; split <;> simp [List.foldl]

@[simp] theorem State.signalSticky_power (s : State) (n : Nat) : (s.signalSticky n).power = s.power := by
  unfold State.signalSticky; dsimp only; split <;> simp [List.foldl]

@[simp] theorem State.signalSticky_settings (s : State) (n : Nat) : (s.signalSticky n).settings = s.settings := by
  unfold State.signalSticky; dsimp only; split <;> simp [List.foldl]

@[simp] theorem State.signalSticky_sticky (s : State) (n : Nat) : (s.signalSticky n).sticky = s.sticky := by
  unfold State.signalSticky; dsimp only; split <;> simp [List.foldl]

@[simp] theorem State.signalSticky_free (s : State) (n : Nat) : (s.signalSticky n).free = s.free := by
  unfold State.signalSticky; dsimp only; split <;> simp [List.foldl]

@[simp] theorem State.signalSticky_pending (s : State) (n : Nat) : (s.signalSticky n).pending = s.pending := by
  unfold State.signalSticky; dsimp only; split <;> simp [List.foldl]

@[simp] theorem State.setStickyIn_part (s : State) (b n : Nat) : (s.setStickyIn b n).part = s.part := by
  unfold State.setStickyIn; dsimp only; (repeat' split) <;> simp

@[simp] theorem State.setStickyIn_time (s : State) (b n : Nat) : (s.setStickyIn b n).time = s.time := by
  unfold State.setStickyIn; dsimp only; (repeat' split) <;> simp

@[simp] theorem State.setStickyIn_health (s : State) (b n : Nat) : (s.setStickyIn b n).health = s.health := by
  unfold State.setStickyIn; dsimp only; (repeat' split) <;> simp

@[simp] theorem State.setStickyIn_rqs (s : State) (b n : Nat) : (s.setStickyIn b n).rqs = s.rqs := by
  unfold State.setStickyIn; dsimp only; (repeat' split) <;> simp

@[simp] theorem State.setStickyIn_parts (s : State) (b n : Nat) : (s.setStickyIn b n).parts = s.parts := by
  unfold State.setStickyIn; dsimp only; (repeat' split) <;> simp

@[simp] theorem State.setStickyIn_hall (s : State) (b n : Nat) : (s.setStickyIn b n).hall = s.hall := by
  unfold State.setStickyIn; dsimp only; (repeat' split) <;> simp

@[simp] theorem State.setStickyIn_exp (s : State) (b n : Nat) : (s.setStickyIn b n).exp = s.exp := by
  unfold State.setStickyIn; dsimp only; (repeat' split) <;> simp

@[simp] theorem State.setStickyIn_wing0 (s : State) (b n : Nat) : (s.setStickyIn b n).wing0 = s.wing0 := by
  unfold State.setStickyIn; dsimp only; (repeat' split) <;> simp

@[simp] theorem State.setStickyIn_wing1 (s : State) (b n : Nat) : (s.setStickyIn b n).wing1 = s.wing1 := by
  unfold State.setStickyIn; dsimp only; (repeat' split) <;> simp

@[simp] theorem State.setStickyIn_tiles (s : State) (b n : Nat) : (s.setStickyIn b n).tiles = s.tiles := by
  unfold State.setStickyIn; dsimp only; (repeat' split) <;> simp

@[simp] theorem State.setStickyIn_sec (s : State) (b n : Nat) : (s.setStickyIn b n).sec = s.sec := by
  unfold State.setStickyIn; dsimp only; (repeat' split) <;> simp

@[simp] theorem State.setStickyIn_pair (s : State) (b n : Nat) : (s.setStickyIn b n).pair = s.pair := by
  unfold State.setStickyIn; dsimp only; (repeat' split) <;> simp

@[simp] theorem State.setStickyIn_boot (s : State) (b n : Nat) : (s.setStickyIn b n).boot = s.boot := by
  unfold State.setStickyIn; dsimp only; (repeat' split) <;> simp

@[simp] theorem State.setStickyIn_settings (s : State) (b n : Nat) : (s.setStickyIn b n).settings = s.settings := by
  unfold State.setStickyIn; dsimp only; (repeat' split) <;> simp

@[simp] theorem State.setStickyIn_free (s : State) (b n : Nat) : (s.setStickyIn b n).free = s.free := by
  unfold State.setStickyIn; dsimp only; (repeat' split) <;> simp

@[simp] theorem State.setStickyIn_pending (s : State) (b n : Nat) : (s.setStickyIn b n).pending = s.pending := by
  unfold State.setStickyIn; dsimp only; (repeat' split) <;> simp

@[simp] theorem State.setSticky_part (s : State) (n : Nat) : (s.setSticky n).part = s.part := s.setStickyIn_part 0 n

@[simp] theorem State.setSticky_time (s : State) (n : Nat) : (s.setSticky n).time = s.time := s.setStickyIn_time 0 n

@[simp] theorem State.setSticky_health (s : State) (n : Nat) : (s.setSticky n).health = s.health := s.setStickyIn_health 0 n

@[simp] theorem State.setSticky_rqs (s : State) (n : Nat) : (s.setSticky n).rqs = s.rqs := s.setStickyIn_rqs 0 n

@[simp] theorem State.setSticky_parts (s : State) (n : Nat) : (s.setSticky n).parts = s.parts := s.setStickyIn_parts 0 n

@[simp] theorem State.setSticky_hall (s : State) (n : Nat) : (s.setSticky n).hall = s.hall := s.setStickyIn_hall 0 n

@[simp] theorem State.setSticky_exp (s : State) (n : Nat) : (s.setSticky n).exp = s.exp := s.setStickyIn_exp 0 n

@[simp] theorem State.setSticky_wing0 (s : State) (n : Nat) : (s.setSticky n).wing0 = s.wing0 := s.setStickyIn_wing0 0 n

@[simp] theorem State.setSticky_wing1 (s : State) (n : Nat) : (s.setSticky n).wing1 = s.wing1 := s.setStickyIn_wing1 0 n

@[simp] theorem State.setSticky_tiles (s : State) (n : Nat) : (s.setSticky n).tiles = s.tiles := s.setStickyIn_tiles 0 n

@[simp] theorem State.setSticky_sec (s : State) (n : Nat) : (s.setSticky n).sec = s.sec := s.setStickyIn_sec 0 n

@[simp] theorem State.setSticky_pair (s : State) (n : Nat) : (s.setSticky n).pair = s.pair := s.setStickyIn_pair 0 n

@[simp] theorem State.setSticky_boot (s : State) (n : Nat) : (s.setSticky n).boot = s.boot := s.setStickyIn_boot 0 n

@[simp] theorem State.setSticky_settings (s : State) (n : Nat) : (s.setSticky n).settings = s.settings := s.setStickyIn_settings 0 n

@[simp] theorem State.setSticky_free (s : State) (n : Nat) : (s.setSticky n).free = s.free := s.setStickyIn_free 0 n

@[simp] theorem State.setSticky_pending (s : State) (n : Nat) : (s.setSticky n).pending = s.pending := s.setStickyIn_pending 0 n

@[simp] theorem State.sendRingVector_part (s : State) (r : Nat) (x : Ring) : (s.sendRingVector r x).part = s.part := by
  simp [State.sendRingVector]

@[simp] theorem State.sendRingVector_time (s : State) (r : Nat) (x : Ring) : (s.sendRingVector r x).time = s.time := by
  simp [State.sendRingVector]

@[simp] theorem State.sendRingVector_obs (s : State) (r : Nat) (x : Ring) : (s.sendRingVector r x).obs = s.obs := by
  simp [State.sendRingVector]

@[simp] theorem State.sendRingVector_health (s : State) (r : Nat) (x : Ring) : (s.sendRingVector r x).health = s.health := by
  simp [State.sendRingVector]

@[simp] theorem State.sendRingVector_rqs (s : State) (r : Nat) (x : Ring) : (s.sendRingVector r x).rqs = s.rqs := by
  simp [State.sendRingVector]

@[simp] theorem State.sendRingVector_parts (s : State) (r : Nat) (x : Ring) : (s.sendRingVector r x).parts = s.parts := by
  simp [State.sendRingVector]

@[simp] theorem State.sendRingVector_hall (s : State) (r : Nat) (x : Ring) : (s.sendRingVector r x).hall = s.hall := by
  simp [State.sendRingVector]

@[simp] theorem State.sendRingVector_exp (s : State) (r : Nat) (x : Ring) : (s.sendRingVector r x).exp = s.exp := by
  simp [State.sendRingVector]

@[simp] theorem State.sendRingVector_wing0 (s : State) (r : Nat) (x : Ring) : (s.sendRingVector r x).wing0 = s.wing0 := by
  simp [State.sendRingVector]

@[simp] theorem State.sendRingVector_wing1 (s : State) (r : Nat) (x : Ring) : (s.sendRingVector r x).wing1 = s.wing1 := by
  simp [State.sendRingVector]

@[simp] theorem State.sendRingVector_tiles (s : State) (r : Nat) (x : Ring) : (s.sendRingVector r x).tiles = s.tiles := by
  simp [State.sendRingVector]

@[simp] theorem State.sendRingVector_sec (s : State) (r : Nat) (x : Ring) : (s.sendRingVector r x).sec = s.sec := by
  simp [State.sendRingVector]

@[simp] theorem State.sendRingVector_pair (s : State) (r : Nat) (x : Ring) : (s.sendRingVector r x).pair = s.pair := by
  simp [State.sendRingVector]

@[simp] theorem State.sendRingVector_boot (s : State) (r : Nat) (x : Ring) : (s.sendRingVector r x).boot = s.boot := by
  simp [State.sendRingVector]

@[simp] theorem State.sendRingVector_power (s : State) (r : Nat) (x : Ring) : (s.sendRingVector r x).power = s.power := by
  simp [State.sendRingVector]

@[simp] theorem State.sendRingVector_settings (s : State) (r : Nat) (x : Ring) : (s.sendRingVector r x).settings = s.settings := by
  simp [State.sendRingVector]

@[simp] theorem State.sendRingVector_sticky (s : State) (r : Nat) (x : Ring) : (s.sendRingVector r x).sticky = s.sticky := by
  simp [State.sendRingVector]

@[simp] theorem State.sendRingVector_free (s : State) (r : Nat) (x : Ring) : (s.sendRingVector r x).free = s.free := by
  simp [State.sendRingVector]

@[simp] theorem State.sendRingVector_pending (s : State) (r : Nat) (x : Ring) : (s.sendRingVector r x).pending = s.pending := by
  simp [State.sendRingVector]

@[simp] theorem State.sealData_part (s : State) (fn ring addr : Nat) (data : Bytes) : (s.sealData fn ring addr data).part = s.part := 
  foldl_keeps State.part _ (fun s _ => by simp [State.sealed_frame]) _ s

@[simp] theorem State.sealData_time (s : State) (fn ring addr : Nat) (data : Bytes) : (s.sealData fn ring addr data).time = s.time := 
  foldl_keeps State.time _ (fun s _ => by simp [State.sealed_frame]) _ s

@[simp] theorem State.sealData_obs (s : State) (fn ring addr : Nat) (data : Bytes) : (s.sealData fn ring addr data).obs = s.obs := 
  foldl_keeps State.obs _ (fun s _ => by simp [State.sealed_frame]) _ s

@[simp] theorem State.sealData_health (s : State) (fn ring addr : Nat) (data : Bytes) : (s.sealData fn ring addr data).health = s.health := 
  foldl_keeps State.health _ (fun s _ => by simp [State.sealed_frame]) _ s

@[simp] theorem State.sealData_rqs (s : State) (fn ring addr : Nat) (data : Bytes) : (s.sealData fn ring addr data).rqs = s.rqs := 
  foldl_keeps State.rqs _ (fun s _ => by simp [State.sealed_frame]) _ s

@[simp] theorem State.sealData_parts (s : State) (fn ring addr : Nat) (data : Bytes) : (s.sealData fn ring addr data).parts = s.parts := 
  foldl_keeps State.parts _ (fun s _ => by simp [State.sealed_frame]) _ s

@[simp] theorem State.sealData_hall (s : State) (fn ring addr : Nat) (data : Bytes) : (s.sealData fn ring addr data).hall = s.hall := 
  foldl_keeps State.hall _ (fun s _ => by simp [State.sealed_frame]) _ s

@[simp] theorem State.sealData_exp (s : State) (fn ring addr : Nat) (data : Bytes) : (s.sealData fn ring addr data).exp = s.exp := 
  foldl_keeps State.exp _ (fun s _ => by simp [State.sealed_frame]) _ s

@[simp] theorem State.sealData_wing0 (s : State) (fn ring addr : Nat) (data : Bytes) : (s.sealData fn ring addr data).wing0 = s.wing0 := 
  foldl_keeps State.wing0 _ (fun s _ => by simp [State.sealed_frame]) _ s

@[simp] theorem State.sealData_wing1 (s : State) (fn ring addr : Nat) (data : Bytes) : (s.sealData fn ring addr data).wing1 = s.wing1 := 
  foldl_keeps State.wing1 _ (fun s _ => by simp [State.sealed_frame]) _ s

@[simp] theorem State.sealData_tiles (s : State) (fn ring addr : Nat) (data : Bytes) : (s.sealData fn ring addr data).tiles = s.tiles := 
  foldl_keeps State.tiles _ (fun s _ => by simp [State.sealed_frame]) _ s

@[simp] theorem State.sealData_sec (s : State) (fn ring addr : Nat) (data : Bytes) : (s.sealData fn ring addr data).sec = s.sec := 
  foldl_keeps State.sec _ (fun s _ => by simp [State.sealed_frame]) _ s

@[simp] theorem State.sealData_pair (s : State) (fn ring addr : Nat) (data : Bytes) : (s.sealData fn ring addr data).pair = s.pair := 
  foldl_keeps State.pair _ (fun s _ => by simp [State.sealed_frame]) _ s

@[simp] theorem State.sealData_boot (s : State) (fn ring addr : Nat) (data : Bytes) : (s.sealData fn ring addr data).boot = s.boot := 
  foldl_keeps State.boot _ (fun s _ => by simp [State.sealed_frame]) _ s

@[simp] theorem State.sealData_power (s : State) (fn ring addr : Nat) (data : Bytes) : (s.sealData fn ring addr data).power = s.power := 
  foldl_keeps State.power _ (fun s _ => by simp [State.sealed_frame]) _ s

@[simp] theorem State.sealData_settings (s : State) (fn ring addr : Nat) (data : Bytes) : (s.sealData fn ring addr data).settings = s.settings := 
  foldl_keeps State.settings _ (fun s _ => by simp [State.sealed_frame]) _ s

@[simp] theorem State.sealData_counters (s : State) (fn ring addr : Nat) (data : Bytes) : (s.sealData fn ring addr data).counters = s.counters := 
  foldl_keeps State.counters _ (fun s _ => by simp [State.sealed_frame]) _ s

@[simp] theorem State.sealData_sticky (s : State) (fn ring addr : Nat) (data : Bytes) : (s.sealData fn ring addr data).sticky = s.sticky := 
  foldl_keeps State.sticky _ (fun s _ => by simp [State.sealed_frame]) _ s

@[simp] theorem State.sealData_free (s : State) (fn ring addr : Nat) (data : Bytes) : (s.sealData fn ring addr data).free = s.free := 
  foldl_keeps State.free _ (fun s _ => by simp [State.sealed_frame]) _ s

@[simp] theorem State.sealData_pending (s : State) (fn ring addr : Nat) (data : Bytes) : (s.sealData fn ring addr data).pending = s.pending := 
  foldl_keeps State.pending _ (fun s _ => by simp [State.sealed_frame]) _ s

@[simp] theorem State.hostOut_part (s : State) (fn ring addr : Nat) (data : Bytes) : (s.hostOut fn ring addr data).part = s.part := by
  unfold State.hostOut; split <;> simp

@[simp] theorem State.hostOut_time (s : State) (fn ring addr : Nat) (data : Bytes) : (s.hostOut fn ring addr data).time = s.time := by
  unfold State.hostOut; split <;> simp

@[simp] theorem State.hostOut_obs (s : State) (fn ring addr : Nat) (data : Bytes) : (s.hostOut fn ring addr data).obs = s.obs := by
  unfold State.hostOut; split <;> simp

@[simp] theorem State.hostOut_health (s : State) (fn ring addr : Nat) (data : Bytes) : (s.hostOut fn ring addr data).health = s.health := by
  unfold State.hostOut; split <;> simp

@[simp] theorem State.hostOut_rqs (s : State) (fn ring addr : Nat) (data : Bytes) : (s.hostOut fn ring addr data).rqs = s.rqs := by
  unfold State.hostOut; split <;> simp

@[simp] theorem State.hostOut_parts (s : State) (fn ring addr : Nat) (data : Bytes) : (s.hostOut fn ring addr data).parts = s.parts := by
  unfold State.hostOut; split <;> simp

@[simp] theorem State.hostOut_hall (s : State) (fn ring addr : Nat) (data : Bytes) : (s.hostOut fn ring addr data).hall = s.hall := by
  unfold State.hostOut; split <;> simp

@[simp] theorem State.hostOut_exp (s : State) (fn ring addr : Nat) (data : Bytes) : (s.hostOut fn ring addr data).exp = s.exp := by
  unfold State.hostOut; split <;> simp

@[simp] theorem State.hostOut_wing0 (s : State) (fn ring addr : Nat) (data : Bytes) : (s.hostOut fn ring addr data).wing0 = s.wing0 := by
  unfold State.hostOut; split <;> simp

@[simp] theorem State.hostOut_wing1 (s : State) (fn ring addr : Nat) (data : Bytes) : (s.hostOut fn ring addr data).wing1 = s.wing1 := by
  unfold State.hostOut; split <;> simp

@[simp] theorem State.hostOut_tiles (s : State) (fn ring addr : Nat) (data : Bytes) : (s.hostOut fn ring addr data).tiles = s.tiles := by
  unfold State.hostOut; split <;> simp

@[simp] theorem State.hostOut_sec (s : State) (fn ring addr : Nat) (data : Bytes) : (s.hostOut fn ring addr data).sec = s.sec := by
  unfold State.hostOut; split <;> simp

@[simp] theorem State.hostOut_pair (s : State) (fn ring addr : Nat) (data : Bytes) : (s.hostOut fn ring addr data).pair = s.pair := by
  unfold State.hostOut; split <;> simp

@[simp] theorem State.hostOut_boot (s : State) (fn ring addr : Nat) (data : Bytes) : (s.hostOut fn ring addr data).boot = s.boot := by
  unfold State.hostOut; split <;> simp

@[simp] theorem State.hostOut_power (s : State) (fn ring addr : Nat) (data : Bytes) : (s.hostOut fn ring addr data).power = s.power := by
  unfold State.hostOut; split <;> simp

@[simp] theorem State.hostOut_settings (s : State) (fn ring addr : Nat) (data : Bytes) : (s.hostOut fn ring addr data).settings = s.settings := by
  unfold State.hostOut; split <;> simp

@[simp] theorem State.hostOut_counters (s : State) (fn ring addr : Nat) (data : Bytes) : (s.hostOut fn ring addr data).counters = s.counters := by
  unfold State.hostOut; split <;> simp

@[simp] theorem State.hostOut_sticky (s : State) (fn ring addr : Nat) (data : Bytes) : (s.hostOut fn ring addr data).sticky = s.sticky := by
  unfold State.hostOut; split <;> simp

@[simp] theorem State.hostOut_free (s : State) (fn ring addr : Nat) (data : Bytes) : (s.hostOut fn ring addr data).free = s.free := by
  unfold State.hostOut; split <;> simp

@[simp] theorem State.hostOut_pending (s : State) (fn ring addr : Nat) (data : Bytes) : (s.hostOut fn ring addr data).pending = s.pending := by
  unfold State.hostOut; split <;> simp

@[simp] theorem State.sendCompletion_part (s : State) (x : Ring) (e : Completion) : (s.sendCompletion x e).part = s.part := by
  simp only [State.sendCompletion]; split <;> simp

@[simp] theorem State.sendCompletion_time (s : State) (x : Ring) (e : Completion) : (s.sendCompletion x e).time = s.time := by
  simp only [State.sendCompletion]; split <;> simp

@[simp] theorem State.sendCompletion_obs (s : State) (x : Ring) (e : Completion) : (s.sendCompletion x e).obs = s.obs := by
  simp only [State.sendCompletion]; split <;> simp

@[simp] theorem State.sendCompletion_health (s : State) (x : Ring) (e : Completion) : (s.sendCompletion x e).health = s.health := by
  simp only [State.sendCompletion]; split <;> simp

@[simp] theorem State.sendCompletion_rqs (s : State) (x : Ring) (e : Completion) : (s.sendCompletion x e).rqs = s.rqs := by
  simp only [State.sendCompletion]; split <;> simp

@[simp] theorem State.sendCompletion_parts (s : State) (x : Ring) (e : Completion) : (s.sendCompletion x e).parts = s.parts := by
  simp only [State.sendCompletion]; split <;> simp

@[simp] theorem State.sendCompletion_hall (s : State) (x : Ring) (e : Completion) : (s.sendCompletion x e).hall = s.hall := by
  simp only [State.sendCompletion]; split <;> simp

@[simp] theorem State.sendCompletion_exp (s : State) (x : Ring) (e : Completion) : (s.sendCompletion x e).exp = s.exp := by
  simp only [State.sendCompletion]; split <;> simp

@[simp] theorem State.sendCompletion_wing0 (s : State) (x : Ring) (e : Completion) : (s.sendCompletion x e).wing0 = s.wing0 := by
  simp only [State.sendCompletion]; split <;> simp

@[simp] theorem State.sendCompletion_wing1 (s : State) (x : Ring) (e : Completion) : (s.sendCompletion x e).wing1 = s.wing1 := by
  simp only [State.sendCompletion]; split <;> simp

@[simp] theorem State.sendCompletion_tiles (s : State) (x : Ring) (e : Completion) : (s.sendCompletion x e).tiles = s.tiles := by
  simp only [State.sendCompletion]; split <;> simp

@[simp] theorem State.sendCompletion_sec (s : State) (x : Ring) (e : Completion) : (s.sendCompletion x e).sec = s.sec := by
  simp only [State.sendCompletion]; split <;> simp

@[simp] theorem State.sendCompletion_pair (s : State) (x : Ring) (e : Completion) : (s.sendCompletion x e).pair = s.pair := by
  simp only [State.sendCompletion]; split <;> simp

@[simp] theorem State.sendCompletion_boot (s : State) (x : Ring) (e : Completion) : (s.sendCompletion x e).boot = s.boot := by
  simp only [State.sendCompletion]; split <;> simp

@[simp] theorem State.sendCompletion_power (s : State) (x : Ring) (e : Completion) : (s.sendCompletion x e).power = s.power := by
  simp only [State.sendCompletion]; split <;> simp

@[simp] theorem State.sendCompletion_settings (s : State) (x : Ring) (e : Completion) : (s.sendCompletion x e).settings = s.settings := by
  simp only [State.sendCompletion]; split <;> simp

@[simp] theorem State.sendCompletion_counters (s : State) (x : Ring) (e : Completion) : (s.sendCompletion x e).counters = s.counters := by
  simp only [State.sendCompletion]; split <;> simp

@[simp] theorem State.sendCompletion_sticky (s : State) (x : Ring) (e : Completion) : (s.sendCompletion x e).sticky = s.sticky := by
  simp only [State.sendCompletion]; split <;> simp

@[simp] theorem State.sendCompletion_free (s : State) (x : Ring) (e : Completion) : (s.sendCompletion x e).free = s.free := by
  simp only [State.sendCompletion]; split <;> simp

@[simp] theorem State.sendCompletion_pending (s : State) (x : Ring) (e : Completion) : (s.sendCompletion x e).pending = s.pending := by
  simp only [State.sendCompletion]; split <;> simp

@[simp] theorem State.complete_part (s : State) (r : Nat) (st : Status) : (s.complete r st).part = s.part := by
  simp only [State.complete]; (repeat' split) <;> simp

@[simp] theorem State.complete_time (s : State) (r : Nat) (st : Status) : (s.complete r st).time = s.time := by
  simp only [State.complete]; (repeat' split) <;> simp

@[simp] theorem State.complete_obs (s : State) (r : Nat) (st : Status) : (s.complete r st).obs = s.obs := by
  simp only [State.complete]; (repeat' split) <;> simp

@[simp] theorem State.complete_health (s : State) (r : Nat) (st : Status) : (s.complete r st).health = s.health := by
  simp only [State.complete]; (repeat' split) <;> simp

@[simp] theorem State.complete_rqs (s : State) (r : Nat) (st : Status) : (s.complete r st).rqs = s.rqs := by
  simp only [State.complete]; (repeat' split) <;> simp

@[simp] theorem State.complete_parts (s : State) (r : Nat) (st : Status) : (s.complete r st).parts = s.parts := by
  simp only [State.complete]; (repeat' split) <;> simp

@[simp] theorem State.complete_hall (s : State) (r : Nat) (st : Status) : (s.complete r st).hall = s.hall := by
  simp only [State.complete]; (repeat' split) <;> simp

@[simp] theorem State.complete_exp (s : State) (r : Nat) (st : Status) : (s.complete r st).exp = s.exp := by
  simp only [State.complete]; (repeat' split) <;> simp

@[simp] theorem State.complete_wing0 (s : State) (r : Nat) (st : Status) : (s.complete r st).wing0 = s.wing0 := by
  simp only [State.complete]; (repeat' split) <;> simp

@[simp] theorem State.complete_wing1 (s : State) (r : Nat) (st : Status) : (s.complete r st).wing1 = s.wing1 := by
  simp only [State.complete]; (repeat' split) <;> simp

@[simp] theorem State.complete_tiles (s : State) (r : Nat) (st : Status) : (s.complete r st).tiles = s.tiles := by
  simp only [State.complete]; (repeat' split) <;> simp

@[simp] theorem State.complete_sec (s : State) (r : Nat) (st : Status) : (s.complete r st).sec = s.sec := by
  simp only [State.complete]; (repeat' split) <;> simp

@[simp] theorem State.complete_pair (s : State) (r : Nat) (st : Status) : (s.complete r st).pair = s.pair := by
  simp only [State.complete]; (repeat' split) <;> simp

@[simp] theorem State.complete_power (s : State) (r : Nat) (st : Status) : (s.complete r st).power = s.power := by
  simp only [State.complete]; (repeat' split) <;> simp

@[simp] theorem State.complete_settings (s : State) (r : Nat) (st : Status) : (s.complete r st).settings = s.settings := by
  simp only [State.complete]; (repeat' split) <;> simp

@[simp] theorem State.complete_sticky (s : State) (r : Nat) (st : Status) : (s.complete r st).sticky = s.sticky := by
  simp only [State.complete]; (repeat' split) <;> simp

@[simp] theorem State.complete_free (s : State) (r : Nat) (st : Status) : (s.complete r st).free = s.free := by
  simp only [State.complete]; (repeat' split) <;> simp

@[simp] theorem State.complete_pending (s : State) (r : Nat) (st : Status) : (s.complete r st).pending = s.pending := by
  simp only [State.complete]; (repeat' split) <;> simp

@[simp] theorem State.enqueue_part (s : State) (b : Nat) (o : Occ) : (s.enqueue b o).part = s.part := by
  unfold State.enqueue; dsimp only; (repeat' split) <;> simp

@[simp] theorem State.enqueue_health (s : State) (b : Nat) (o : Occ) : (s.enqueue b o).health = s.health := by
  unfold State.enqueue; dsimp only; (repeat' split) <;> simp

@[simp] theorem State.enqueue_rqs (s : State) (b : Nat) (o : Occ) : (s.enqueue b o).rqs = s.rqs := by
  unfold State.enqueue; dsimp only; (repeat' split) <;> simp

@[simp] theorem State.enqueue_parts (s : State) (b : Nat) (o : Occ) : (s.enqueue b o).parts = s.parts := by
  unfold State.enqueue; dsimp only; (repeat' split) <;> simp

@[simp] theorem State.enqueue_hall (s : State) (b : Nat) (o : Occ) : (s.enqueue b o).hall = s.hall := by
  unfold State.enqueue; dsimp only; (repeat' split) <;> simp

@[simp] theorem State.enqueue_exp (s : State) (b : Nat) (o : Occ) : (s.enqueue b o).exp = s.exp := by
  unfold State.enqueue; dsimp only; (repeat' split) <;> simp

@[simp] theorem State.enqueue_wing0 (s : State) (b : Nat) (o : Occ) : (s.enqueue b o).wing0 = s.wing0 := by
  unfold State.enqueue; dsimp only; (repeat' split) <;> simp

@[simp] theorem State.enqueue_wing1 (s : State) (b : Nat) (o : Occ) : (s.enqueue b o).wing1 = s.wing1 := by
  unfold State.enqueue; dsimp only; (repeat' split) <;> simp

@[simp] theorem State.enqueue_tiles (s : State) (b : Nat) (o : Occ) : (s.enqueue b o).tiles = s.tiles := by
  unfold State.enqueue; dsimp only; (repeat' split) <;> simp

@[simp] theorem State.enqueue_sec (s : State) (b : Nat) (o : Occ) : (s.enqueue b o).sec = s.sec := by
  unfold State.enqueue; dsimp only; (repeat' split) <;> simp

@[simp] theorem State.enqueue_pair (s : State) (b : Nat) (o : Occ) : (s.enqueue b o).pair = s.pair := by
  unfold State.enqueue; dsimp only; (repeat' split) <;> simp

@[simp] theorem State.enqueue_boot (s : State) (b : Nat) (o : Occ) : (s.enqueue b o).boot = s.boot := by
  unfold State.enqueue; dsimp only; (repeat' split) <;> simp

@[simp] theorem State.enqueue_settings (s : State) (b : Nat) (o : Occ) : (s.enqueue b o).settings = s.settings := by
  unfold State.enqueue; dsimp only; (repeat' split) <;> simp

@[simp] theorem State.enqueue_free (s : State) (b : Nat) (o : Occ) : (s.enqueue b o).free = s.free := by
  unfold State.enqueue; dsimp only; (repeat' split) <;> simp

@[simp] theorem State.enqueue_pending (s : State) (b : Nat) (o : Occ) : (s.enqueue b o).pending = s.pending := by
  unfold State.enqueue; dsimp only; (repeat' split) <;> simp

@[simp] theorem State.startOcc_part (s : State) (b : Nat) (o : Occ) : (s.startOcc b o).part = s.part := by
  simp only [State.startOcc]; split <;> simp

@[simp] theorem State.startOcc_host (s : State) (b : Nat) (o : Occ) : (s.startOcc b o).host = s.host := by
  simp only [State.startOcc]; split <;> simp

@[simp] theorem State.startOcc_health (s : State) (b : Nat) (o : Occ) : (s.startOcc b o).health = s.health := by
  simp only [State.startOcc]; split <;> simp

@[simp] theorem State.startOcc_rqs (s : State) (b : Nat) (o : Occ) : (s.startOcc b o).rqs = s.rqs := by
  simp only [State.startOcc]; split <;> simp

@[simp] theorem State.startOcc_parts (s : State) (b : Nat) (o : Occ) : (s.startOcc b o).parts = s.parts := by
  simp only [State.startOcc]; split <;> simp

@[simp] theorem State.startOcc_hall (s : State) (b : Nat) (o : Occ) : (s.startOcc b o).hall = s.hall := by
  simp only [State.startOcc]; split <;> simp

@[simp] theorem State.startOcc_exp (s : State) (b : Nat) (o : Occ) : (s.startOcc b o).exp = s.exp := by
  simp only [State.startOcc]; split <;> simp

@[simp] theorem State.startOcc_wing0 (s : State) (b : Nat) (o : Occ) : (s.startOcc b o).wing0 = s.wing0 := by
  simp only [State.startOcc]; split <;> simp

@[simp] theorem State.startOcc_wing1 (s : State) (b : Nat) (o : Occ) : (s.startOcc b o).wing1 = s.wing1 := by
  simp only [State.startOcc]; split <;> simp

@[simp] theorem State.startOcc_tiles (s : State) (b : Nat) (o : Occ) : (s.startOcc b o).tiles = s.tiles := by
  simp only [State.startOcc]; split <;> simp

@[simp] theorem State.startOcc_sec (s : State) (b : Nat) (o : Occ) : (s.startOcc b o).sec = s.sec := by
  simp only [State.startOcc]; split <;> simp

@[simp] theorem State.startOcc_pair (s : State) (b : Nat) (o : Occ) : (s.startOcc b o).pair = s.pair := by
  simp only [State.startOcc]; split <;> simp

@[simp] theorem State.startOcc_boot (s : State) (b : Nat) (o : Occ) : (s.startOcc b o).boot = s.boot := by
  simp only [State.startOcc]; split <;> simp

@[simp] theorem State.startOcc_power (s : State) (b : Nat) (o : Occ) : (s.startOcc b o).power = s.power := by
  simp only [State.startOcc]; split <;> simp

@[simp] theorem State.startOcc_settings (s : State) (b : Nat) (o : Occ) : (s.startOcc b o).settings = s.settings := by
  simp only [State.startOcc]; split <;> simp

@[simp] theorem State.startOcc_sticky (s : State) (b : Nat) (o : Occ) : (s.startOcc b o).sticky = s.sticky := by
  simp only [State.startOcc]; split <;> simp

@[simp] theorem State.startOcc_free (s : State) (b : Nat) (o : Occ) : (s.startOcc b o).free = s.free := by
  simp only [State.startOcc]; split <;> simp

@[simp] theorem State.startOcc_out (s : State) (b : Nat) (o : Occ) : (s.startOcc b o).out = s.out := by
  simp only [State.startOcc]; split <;> simp

@[simp] theorem State.startOcc_pending (s : State) (b : Nat) (o : Occ) : (s.startOcc b o).pending = s.pending := by
  simp only [State.startOcc]; split <;> simp

/-! ### Records that an operation changes in part -/

theorem State.trace_obs (s : State) (b : Nat) (r : TraceRec) : (s.trace b r).obs = { s.obs with bufs := (s.trace b r).obs.bufs } := by
  unfold State.trace; dsimp only; (repeat' split) <;> rfl

/-- R782, R785: a record changes its own buffer and no other. -/
theorem State.trace_buf_other (s : State) {b j : Nat} (r : TraceRec) (h : j ≠ b) : (s.trace b r).buf j = s.buf j := by
  unfold State.trace; dsimp only
  (repeat' split) <;> first | rfl | exact mget_mput_other _ _ _ h

/-- R780, R782: an enabled buffer that has lost nothing and has room takes the record in its place. -/
theorem State.trace_buf (s : State) (b : Nat) (r : TraceRec) (he : (s.buf b).enable = true) (hf : (s.buf b).frozen = false)
    (hl : (s.buf b).lostRun = 0) (hr : (s.buf b).fifo.length < (s.buf b).room s.nt) :
    (s.trace b r).buf b = { s.buf b with fifo := insertRec r (s.buf b).fifo } := by
  have hc : (s.buf b).closeGap s.nt = s.buf b := by simp [TraceBuf.closeGap, hl]
  simp [State.trace, hc, he, hf, hr]

theorem State.sendVector_host (s : State) (fn v : Nat) :
    (s.sendVector fn v).host = { s.host with vecs := (s.sendVector fn v).host.vecs } := by
  unfold State.sendVector; split <;> rfl

/-- R625: a masked vector keeps its pending bit and sends nothing. -/
theorem State.sendVector_masked (s : State) {fn v : Nat} (h : (s.vec fn v).masked = true) :
    s.sendVector fn v = s.setVec fn v { s.vec fn v with pending := true } := by simp [State.sendVector, h]

/-- R625: an unmasked vector is sent and counted. -/
theorem State.sendVector_unmasked (s : State) {fn v : Nat} (h : (s.vec fn v).masked = false) :
    s.sendVector fn v = (s.emit (.msix fn v)).bump (Ctr.funcMsixSent fn) := by simp [State.sendVector, h]

theorem State.sendVector_out (s : State) (fn v : Nat) : s.out <+: (s.sendVector fn v).out := by
  unfold State.sendVector; split
  · exact List.prefix_refl _
  · exact List.prefix_append _ _

theorem State.foldl_sendVector_host (l : List Nat) (s : State) :
    (l.foldl (fun s f => s.sendVector f 0) s).host = { s.host with vecs := (l.foldl (fun s f => s.sendVector f 0) s).host.vecs } := by
  induction l generalizing s with
  | nil => rfl
  | cons f l ih => exact (ih _).trans (by rw [State.sendVector_host s f 0]; rfl)

theorem State.foldl_sendVector_out (l : List Nat) (s : State) : s.out <+: (l.foldl (fun s f => s.sendVector f 0) s).out := by
  induction l generalizing s with
  | nil => exact List.prefix_refl _
  | cons f l ih => exact (s.sendVector_out f 0).trans (ih _)

theorem State.signalSticky_host (s : State) (n : Nat) :
    (s.signalSticky n).host = { s.host with vecs := (s.signalSticky n).host.vecs } := by
  unfold State.signalSticky; dsimp only; split
  · rw [State.foldl_sendVector_host, State.sendVector_host]
  · exact State.sendVector_host ..

theorem State.signalSticky_out (s : State) (n : Nat) : s.out <+: (s.signalSticky n).out := by
  unfold State.signalSticky; dsimp only; split
  · exact (s.sendVector_out 0 0).trans (State.foldl_sendVector_out _ _)
  · exact s.sendVector_out 0 0

/-! ### Sticky bits (R805 to R808) -/

theorem State.setStickyIn_of_set (s : State) (b : Nat) {n : Nat} (h : s.stickyBit n = true) : s.setStickyIn b n = s := by
  simp [State.setStickyIn, h]

@[simp] theorem State.setStickyIn_sticky (s : State) (b n : Nat) : (s.setStickyIn b n).sticky = s.sticky ||| (1#256 <<< n) := by
  unfold State.setStickyIn
  split
  · rename_i h
    ext i hi
    simp only [State.stickyBit] at h
    by_cases e : i = n
    · subst e
      have : s.sticky[i] = true := by simpa [BitVec.getLsbD_eq_getElem hi] using h
      simp [this]
    · rcases Nat.lt_or_ge i n with q | q
      · simp [q]
      · have : i - n ≠ 0 := by omega
        simp [this]
  · dsimp only; split <;> simp [State.refreshFaultN]

theorem State.stickyBit_setStickyIn (s : State) (b : Nat) {n m : Nat} (hm : m < 256) :
    (s.setStickyIn b n).stickyBit m = (s.stickyBit m || decide (m = n)) := by
  simp only [State.stickyBit, State.setStickyIn_sticky, BitVec.getLsbD_or, BitVec.getLsbD_shiftLeft, hm]
  rcases Nat.lt_trichotomy m n with q | q | q
  · simp [q, Nat.ne_of_lt q]
  · subst q; simp
  · have : ¬ m < n := by omega
    have h0 : m - n ≠ 0 := by omega
    simp [this, h0, Nat.ne_of_gt q]

/-- R808: a bit that was clear leaves FAULT_N at the state of its column; a bit that was set changes nothing. -/
theorem State.setStickyIn_power (s : State) (b n : Nat) :
    (s.setStickyIn b n).power = { s.power with
      faultN := if s.stickyBit n then s.power.faultN else (s.sticky ||| (1#256 <<< n)) &&& faultNMask != 0 } := by
  unfold State.setStickyIn
  split
  · simp_all
  · dsimp only; split <;> simp_all [State.refreshFaultN]

theorem State.setStickyIn_host (s : State) (b n : Nat) :
    (s.setStickyIn b n).host = { s.host with vecs := (s.setStickyIn b n).host.vecs } := by
  unfold State.setStickyIn
  split
  · rfl
  · dsimp only
    split <;> (simp only [State.fire_host, State.trace_host]; rw [State.signalSticky_host]; rfl)

theorem State.setStickyIn_out (s : State) (b n : Nat) : s.out <+: (s.setStickyIn b n).out := by
  have key (t : State) (h : t.out = s.out) : s.out <+: (t.signalSticky n).out := h ▸ t.signalSticky_out n
  unfold State.setStickyIn
  split
  · exact List.prefix_refl _
  · dsimp only
    split <;> (simp only [State.fire_out, State.trace_out]; exact key _ (State.refreshFaultN_out _))

theorem State.setSticky_of_set (s : State) {n : Nat} (h : s.stickyBit n = true) : s.setSticky n = s := s.setStickyIn_of_set 0 h

@[simp] theorem State.setSticky_sticky (s : State) (n : Nat) : (s.setSticky n).sticky = s.sticky ||| (1#256 <<< n) :=
  s.setStickyIn_sticky 0 n

theorem State.stickyBit_setSticky (s : State) {n m : Nat} (hm : m < 256) :
    (s.setSticky n).stickyBit m = (s.stickyBit m || decide (m = n)) := s.stickyBit_setStickyIn 0 hm

theorem State.setSticky_power (s : State) (n : Nat) :
    (s.setSticky n).power = { s.power with
      faultN := if s.stickyBit n then s.power.faultN else (s.sticky ||| (1#256 <<< n)) &&& faultNMask != 0 } :=
  s.setStickyIn_power 0 n

theorem State.setSticky_host (s : State) (n : Nat) : (s.setSticky n).host = { s.host with vecs := (s.setSticky n).host.vecs } :=
  s.setStickyIn_host 0 n

theorem State.setSticky_out (s : State) (n : Nat) : s.out <+: (s.setSticky n).out := s.setStickyIn_out 0 n

theorem State.stickyBit_clearSticky (s : State) (mask : BitVec 256) (m : Nat) :
    (s.clearSticky mask).stickyBit m = (s.stickyBit m && !mask.getLsbD m) := by
  simp only [State.stickyBit, State.clearSticky, State.refreshFaultN, BitVec.getLsbD_and, BitVec.getLsbD_not]
  by_cases h : m < 256
  · simp [h]
  · simp [BitVec.getLsbD_of_ge _ _ (Nat.le_of_not_lt h)]

/-! ### Rings and completion (R612, R648) -/

theorem State.cmdAt_setCmd (s : State) (r : Nat) (c : Option Cmd) {d : Cmd} (h : s.cmdAt r = some d) :
    (s.setCmd r c).cmdAt r = c := by
  unfold State.cmdAt State.setCmd State.modRing State.modAssoc at *
  split at h
  · rename_i hr
    cases hx : mfind s.host.rings r with
    | none => simp [hx] at h
    | some x => simp [hr]
  · rename_i hr
    cases hx : mfind s.boot.assocs (r - 4096) with
    | none => simp [hx] at h
    | some x => simp [hr]

/-- A ring or association that holds no command completes nothing. -/
theorem State.complete_none (s : State) {r : Nat} (st : Status) (h : s.cmdAt r = none) : s.complete r st = s := by
  simp [State.complete, h]

theorem State.sendRingVector_out (s : State) (r : Nat) (x : Ring) : s.out <+: (s.sendRingVector r x).out := by
  unfold State.sendRingVector
  have h := (s.modRing r (fun y => { y with pendCount := 0 })).sendVector_out x.fn x.vector
  simpa using h

/-! ### Host memory (R609, R629, R635) -/

/-- R630: an envelope takes the next nonce of its function and changes nothing else of the state. -/
@[simp] theorem State.rings_sealed (s : State) (fn kind ring sequence bind : Nat) (plain : Bytes) :
    (s.sealed fn kind ring sequence bind plain).2.host.rings = s.host.rings := rfl

@[simp] theorem State.sealed_out (s : State) (fn kind ring sequence bind : Nat) (plain : Bytes) :
    (s.sealed fn kind ring sequence bind plain).2.out = s.out := rfl

@[simp] theorem State.func_sealed (s : State) (fn kind ring sequence bind : Nat) (plain : Bytes) :
    (s.sealed fn kind ring sequence bind plain).2.func fn = { s.func fn with nonceCtr := (s.func fn).nonceCtr + 1 } :=
  mget_mput_same ..

/-- R634: a slot receives the envelope that the device has just sealed. -/
theorem State.slotOut_out (s : State) (fn addr kind ring sequence : Nat) (plain : Bytes) :
    (s.slotOut fn addr kind ring sequence plain).out =
      s.out ++ [.envelope fn addr (s.sealed fn kind ring sequence 0 plain).1] := rfl

@[simp] theorem State.rings_slotOut (s : State) (fn addr kind ring sequence : Nat) (plain : Bytes) :
    (s.slotOut fn addr kind ring sequence plain).host.rings = s.host.rings := rfl

@[simp] theorem State.rings_sealData (s : State) (fn ring addr : Nat) (data : Bytes) :
    (s.sealData fn ring addr data).host.rings = s.host.rings :=
  foldl_keeps (fun t : State => t.host.rings) _ (fun t _ => by simp) _ s

@[simp] theorem State.rings_hostOut (s : State) (fn ring addr : Nat) (data : Bytes) :
    (s.hostOut fn ring addr data).host.rings = s.host.rings := by unfold State.hostOut; split <;> simp

@[simp] theorem State.rings_sendCompletion (s : State) (x : Ring) (e : Completion) :
    (s.sendCompletion x e).host.rings = s.host.rings := by simp only [State.sendCompletion]; split <;> simp

theorem foldl_extends {β : Type} (f : State → β → State) (h : ∀ s b, s.out <+: (f s b).out) (l : List β) (s : State) :
    s.out <+: (l.foldl f s).out := by
  induction l generalizing s with
  | nil => exact List.prefix_refl _
  | cons b l ih => exact (h s b).trans (ih _)

theorem State.sealData_out (s : State) (fn ring addr : Nat) (data : Bytes) : s.out <+: (s.sealData fn ring addr data).out :=
  foldl_extends _ (fun t _ => by simp) _ s

theorem State.hostOut_out (s : State) (fn ring addr : Nat) (data : Bytes) : s.out <+: (s.hostOut fn ring addr data).out := by
  unfold State.hostOut; split
  · exact s.sealData_out ..
  · exact List.prefix_append _ _

/-- R635, R717: out of bounce-buffer mode data go to host memory as they are. -/
theorem State.hostOut_plain (s : State) {fn : Nat} (ring addr : Nat) (data : Bytes) (h : (s.func fn).bounce = false) :
    s.hostOut fn ring addr data = s.dma fn (.hostWrite fn addr data) := by simp [State.hostOut, h]

theorem State.sendCompletion_out (s : State) (x : Ring) (e : Completion) : s.out <+: (s.sendCompletion x e).out := by
  simp only [State.sendCompletion]; split <;> simp [State.slotOut_out]

/-- R612: out of bounce-buffer mode the entry goes to its slot. -/
theorem State.sendCompletion_plain (s : State) (x : Ring) (e : Completion) (h : (s.func x.fn).bounce = false) :
    s.sendCompletion x e = s.dma x.fn (.completion x.fn (x.cqBase + 32 * x.cqTail) e) := by
  simp [State.sendCompletion, State.slotAddr, h]

/-- R631, R634: in bounce-buffer mode it goes in an envelope of its command's sequence. -/
theorem State.sendCompletion_sealed (s : State) (x : Ring) (e : Completion) (h : (s.func x.fn).bounce = true) :
    s.sendCompletion x e =
      s.slotOut x.fn (x.cqBase + 128 * x.cqTail) 2 x.localIx (mget 0 (s.func x.fn).ownSeq x.localIx) e.bytes := by
  simp [State.sendCompletion, State.slotAddr, h]

theorem State.complete_out (s : State) (r : Nat) (st : Status) : s.out <+: (s.complete r st).out := by
  have key (t : State) (x : Ring) (h : s.out <+: t.out) : s.out <+: (t.sendRingVector r x).out := h.trans (t.sendRingVector_out r x)
  have sent (t : State) (ht : t.out = s.out) (x : Ring) (n : Nat) (e : Completion) :
      s.out <+: (((if st.reply.isEmpty then t else t.hostOut x.fn x.localIx n st.reply)).sendCompletion x e).out := by
    rw [← ht]
    split
    · exact t.sendCompletion_out ..
    · exact (t.hostOut_out ..).trans (State.sendCompletion_out ..)
  unfold State.complete
  split
  · exact List.prefix_refl _
  · rename_i c _
    have ht : (if c.started then s else s.noteStep r c).out = s.out := by split <;> rfl
    generalize (if c.started then s else s.noteStep r c) = t at ht
    dsimp only
    split
    · split
      · rw [ht]
      · rename_i x _
        split
        · refine key _ _ ?_
          simpa only [State.bump_out, State.modRing_out] using sent t ht x _ _
        · simpa only [State.bump_out, State.modRing_out] using sent t ht x _ _
    · simp [ht]

/-- R612: a completion on a ring leaves every management association. -/
theorem State.complete_boot (s : State) {r : Nat} (st : Status) (h : r < 4096) : (s.complete r st).boot = s.boot := by
  simp only [State.complete]
  (repeat' split) <;> simp_all

/-- R612, R653: a completion on an association leaves every ring; the Hall cycle's steps may be noted. -/
theorem State.complete_host (s : State) {r : Nat} (st : Status) (h : 4096 ≤ r) : (s.complete r st).host.rings = s.host.rings := by
  have : ¬ r < 4096 := by omega
  simp only [State.complete]
  (repeat' split) <;> simp_all [State.noteStep]

/-! ### The frame of a command (R651, R653) -/

/-- A command row changes nothing, turns its command away, leaves it running, or completes it. -/
theorem runCmd_cases (op : Nat) (i : Instr) (c : CmdIn) (bad : List (Bool × Nat)) (s : State) (body : Cmd → State → Option Status × State)
    (pre : Cmd → State → Option Status) (misnamed : Cmd → State → Bool) (data : Nat) (holds : Bytes → Bool) (dmaOk : Bool) :
    runCmd op i c bad s body pre misnamed data holds dmaOk = s ∨
    (∃ st, runCmd op i c bad s body pre misnamed data holds dmaOk = s.complete c.ring st) ∨
    (∃ cmd st, s.cmdAt c.ring = some cmd ∧ runCmd op i c bad s body pre misnamed data holds dmaOk = s.rejectHead c.ring cmd st) ∨
    (∃ cmd, s.cmdAt c.ring = some cmd ∧ (body cmd s).1 = none ∧
      runCmd op i c bad s body pre misnamed data holds dmaOk =
        ((body cmd s).2.noteStep c.ring cmd).setCmd c.ring (some { cmd with started := true })) ∨
    (∃ cmd st, s.cmdAt c.ring = some cmd ∧ (body cmd s).1 = some st ∧
      runCmd op i c bad s body pre misnamed data holds dmaOk =
        (replied c s st (body cmd s).2).2.complete c.ring (replied c s st (body cmd s).2).1) := by
  generalize hr : runCmd op i c bad s body pre misnamed data holds dmaOk = r
  unfold runCmd at hr
  split at hr
  · exact .inl hr.symm
  rename_i cmd hc
  split at hr
  · exact .inl hr.symm
  split at hr
  · exact .inr (.inr (.inl ⟨cmd, _, hc, hr.symm⟩))
  split at hr
  · exact .inr (.inl ⟨_, hr.symm⟩)
  split at hr
  · exact .inl hr.symm
  split at hr
  · exact .inr (.inl ⟨_, hr.symm⟩)
  split at hr
  · exact .inr (.inl ⟨_, hr.symm⟩)
  split at hr
  · exact .inl hr.symm
  split at hr
  · rename_i hb
    exact .inr (.inr (.inr (.inl ⟨cmd, hc, by rw [hb], by rw [hb]; exact hr.symm⟩)))
  · rename_i st s' hb
    exact .inr (.inr (.inr (.inr ⟨cmd, st, hc, by rw [hb], by rw [hb]; exact hr.symm⟩)))

/-- A command that can start, whose parameters are those that the device holds and in range, runs its body. -/
theorem runCmd_start (op : Nat) (i : Instr) (c : CmdIn) (bad : List (Bool × Nat)) (s : State) (body : Cmd → State → Option Status × State)
    (pre : Cmd → State → Option Status) (misnamed : Cmd → State → Bool) (data : Nat) (holds : Bytes → Bool) {cmd : Cmd}
    (hc : s.cmdAt c.ring = some cmd) (ho : cmd.hdr.opcode = op) (hs : cmd.started = false) (hf : s.fenced cmd = false)
    (hd : s.hallFree = true) (ht : s.outOfTurn c.ring cmd = false) (hh : headCheck s cmd = none) (hr : c.readable = true)
    (hm : misnamed cmd s = false) (hp : pre cmd s = none) (hq : s.spelled i c.ring cmd = true)
    (hb : paramFault c.rsvAt (s.paramRest i c.ring cmd) bad = none) (h0 : s.dataMissing c.ring cmd 0 = false)
    (hn : s.dataMissing c.ring cmd data = false) (hx : (s.heldData c.ring cmd).all holds = true) :
    runCmd op i c bad s body pre misnamed data holds =
      match body cmd s with
      | (none, s') => (s'.noteStep c.ring cmd).setCmd c.ring (some { cmd with started := true })
      | (some st, s') => (replied c s st s').2.complete c.ring (replied c s st s').1 := by
  subst ho
  rcases h : body cmd s with ⟨_ | st, s'⟩ <;>
    simp only [runCmd, hc, hs, hf, hd, ht, hm, hh, hp, hq, hr, hb, h, h0, hn, hx, bne_self_eq_false, Bool.or_self, Bool.false_and,
      Bool.not_true, Bool.false_eq_true, if_false]

/-- With no reserved bit set, the parameters fail no range check exactly when each of them is in range. -/
theorem paramFault_none (bad : List (Bool × Nat)) : paramFault none none bad = none ↔ ∀ b ∈ bad, b.1 = false := by
  simp [paramFault, List.min?_eq_none_iff, List.filter_eq_nil_iff]

/-- A status without reply data passes the reply buffer unchanged. -/
@[simp] theorem replied_empty (c : CmdIn) (s : State) (st : Status) (s' : State) (h : st.reply = []) : replied c s st s' = (st, s') := by
  simp [replied, h]

/-- Reply data that fits its buffer and can be written passes it unchanged. -/
theorem replied_fits (c : CmdIn) (s : State) (st : Status) (s' : State)
    (h : st.reply.length ≤ (if c.ring < 4096 then c.replyLen else min c.replyLen 16368)) (hf : c.replyFails = false) :
    replied c s st s' = (st, s') := by
  have : ¬ (if c.ring < 4096 then c.replyLen else min c.replyLen 16368) < st.reply.length := Nat.not_lt.mpr h
  unfold replied
  simp only [this, hf]
  split <;> simp

/-! ### Messages of a pair and records of the reporter -/

theorem State.pairSend_frame (s : State) (mk : Nat → PairMsg) :
    (s.pairSend mk).2.2 = { s with pair := (s.pairSend mk).2.2.pair, out := (s.pairSend mk).2.2.out } := rfl

/-- R729, R733, R741: the message takes the next number, its E is its frame's tx_nt plus 320,000, and its frame leaves on the control
lane under that lane's nonce. -/
theorem State.pairSend_out (s : State) (mk : Nat → PairMsg) :
    (s.pairSend mk).2.2.out = s.out ++ [.pairFrame s.sendKey s.controlLane (s.pairHeader s.controlLane 1 ((s.pairSend mk).2.1 - 320000))
      (pairNonce s.controlLane ((s.pairSend mk).2.1 - 320000))
      [((mk (s.pairSend mk).2.1).header (s.pairSend mk).1, mk (s.pairSend mk).2.1)]] := by
  simp [State.pairSend, State.pairFrame, State.sendKey]

theorem State.exportItem_unbound (s : State) (i : ExpItem) {b : Nat} (h : 4096 ≤ b) : s.exportItem b i = s := by
  have : ¬ b < 4096 := by omega
  simp [State.exportItem, this]

end Sys2Proof.Machine
end

