-- ==== Sys2Proof/Tests/Slice0.lean ====
section
/-!
SUPPORT. Tests/Slice0.lean: small tests of the model, and for each statement with hypotheses states and operands that meet them.
-/
set_option Elab.async false

open Sys2Proof Sys2Proof.Machine Sys2Proof.Claims

namespace Sys2Proof.Tests

/-! ### Well-formed and ill-formed operands: for each check one term that fails it alone, and the terms that pass -/

def wCmdIn : CmdIn := { ring := 0, readable := false, rsvAt := none, replyAddr := 0, replyLen := 0, replyFails := false }

def wConfigParams : ConfigParams := { quarters0 := 0, quarters1 := 0, blockUnits := 0, shareLog2 := 0, ringQuota := 0, shareBase0 := 0, shareBase1 := 0, overflowQuota0 := 0, overflowQuota1 := 0, coalQuota0 := 0, coalQuota1 := 0, regionBase0 := 0, regionBase1 := 0, regionGib := 0, bindFn := 0, stairQuota := 0, larderOff := 0, shadowOff := 0, windowsOff := 0, windowsUnits := 0, imageOff := 0, imageUnits := 0 }

def wRule : Rule := { value := 0, mask := 0, result := 0 }

def wCmdHdr : CmdHdr := { opcode := 0, version := 0, fence := false, rsvAt := none, seqTag := 0, partition := 0, paramLength := 0, startDeadline := 0, word20 := 0 }

def wTod : Tod := { seconds := 0, utcOffset := 0, traceable := false, leap61 := false, leap59 := false, clockClass := 0 }

def wWaitingOn : WaitingOn := { reason := 0, target := 0, batch := 0 }

def wWait : Wait := { node := 0, on := wWaitingOn }

def wBank : Bank := { securityVersion := 0, raiseFloor := false, digest := 0, bankBytes := 0, versions := [] }

def wStagingHdr : StagingHdr := { credentials := false, baseDigest := 0, target := wBank, anchors := [] }

def wRelay : Relay := { op := 0, reason := 0, value := 0, baseDigest := 0, targetDigest := 0, length := 0, hdr := none }

def wConverter : Converter := { vout := 0, iout := 0, status := 0 }

def wPassOp : PassOp := { array := 0, form := 0, mode := 0, kMinus1 := 0, aHalf := 0, aOffset := 0, bHalf := 0, bOffset := 0, aFmt := 0, aCb := 0, bFmt := 0, bCb := 0, aZero := 0, aRelease := 0, bRelease := 0 }

def wFeedOp : FeedOp := { array := 0, target := 0, half := 0, cbSlot := 0, src := 0, length := 0, tag := 0, cbSize := 0 }

def wDrainOp : DrainOp := { array := 0, subOp := 0, source := 0, src := 0 }

def wPostOp : PostOp := { subOp := 0, srcKind := 0, src := 0, dst := 0, count := 0, paramA := 0, paramB := 0 }

def wTreeOp : TreeOp := { trees := 0, treeCountMinus1 := 0, nodeBits := 0, dst := 0 }

def wMoveOp : MoveOp := { kind := 0, localRef := 0, length := 0, remote := 0 }

def wStateOp : StateOp := { subOp := 0, rowFirst := 0, rowCount := 0, state := 0, token := 0 }

def wReduceOp : ReduceOp := { slot0 := 0, stride := 0, countMinus1 := 0, length := 0, dst := 0, arriveTok := 0 }

def wSyncOp : SyncOp := { targetKind := 0, tok := 0, increment := 0, wing := 0, gallery := 0, tile := 0 }

def wTileWord : TileWord := { waitEn := 0, waitTok := 0, sigEn := 0, sigTok := 0, trace := 0, last := 0, layer := 0, opId := 0, op := (.mma wPassOp) }

def wFeature : Feature := { source := 0, shift := 0, transform := 0, width := 0, count := 0, element := 0, arg := 0 }

def wStageCfg : StageCfg := { kind := .stateless, batchSize := 0, batchWait := 0, readsFlow := false, readsState := false, passK := 0, stateBytes := 0, trees := 0, centroids := 0, topK := 0, elements := 0, modes := [], links := [] }

def wSiteCfg : SiteCfg := { index := 0, layer := 0, window := 0, margin := 0, target := 0, initMax := 0, floorMax := 0 }

def wBandCfg : BandCfg := { action := 0, rollout := false, param := 0 }

def wVerdictCfg : VerdictCfg := { thresholds := [], bands := 0, band := [], nanBand := wBandCfg, reserved := false }

def wRolloutCfg : RolloutCfg := { enable := false, steps := 0, width := 0, queue := 0, priority := 0 }

def wSlotCfg : SlotCfg := { tokenWidth := 0, flowBase := 0, featureWords := [], main := [], noFlow := [], rollout := [], statLength := 0, sites := [], verdict := [], rolloutCfg := wRolloutCfg }

def wSiteEntry : SiteEntry := { layer := 0, site := 0 }

def wDramWindow : DramWindow := { base := 0, size := 0 }

def wGroupMember : GroupMember := { wing := 0, ctile := 0, reloc := false }

def wTileImage : TileImage := { wing := 0, ctile := 0, fill := [], entries := [], wide := [], scaleBlock := 0, sites := [], groups := [], windows := [], reloc := [] }

def wStateLayout : StateLayout := { depth := 0, histOffset := 0, histEntry := 0, pattern := [] }

def wDeclared : Declared := { kind := .codebookA, wing := 0, ctile := 0, address := 0, entries := 0 }

def wSectEntry : SectEntry := { type := 0, wing := 0, ctile := 0, slot := 0, keyGen := 0, offset := 0, length := 0, dest := 0 }

def wImage : Image := { target := 0, stateReset := false, halfFit := false, sealed_ := false, slotMask := 0, quarters := 0, blockUnits := 0, topologyId := 0, stateLayoutId := 0, imageBytes := 0, measurement := 0, sections := [], slots := [], windows := [], layout := wStateLayout, tiles := [], dram := [], declared := [], used := [] }

def wLoadResult : LoadResult := { bytes := [], image := wImage, dmaError := false, contentFault := none, arrived := [] }

def wEcc : Ecc := { corrected := 0, bad := false, unit := none }

def wPlacement : Placement := { tiles := [], entry := 0, bases := [], tokenAt := 0, forecastAt := 0 }

def wApplyOutcome : ApplyOutcome := { hashMatches := false, newBankVerifies := false }

def wPartnerPart : PartnerPart := { state := 0, params := wConfigParams }

def wPartnerInfo : PartnerInfo := { serial := 0, standby := false, part := .ikf4880_12, stepping := 0, regs := [], timeLocked := false, originSeconds := 0, hashSeed := 0, parts := [], settings := 0, ephemeral := [], random := [] }

def wWordRead : WordRead := { word := 0, error := .corrected, data := 0, head := false, tail := false }

def wTcbInfo : TcbInfo := { index := 0, fwids := [], vendorInfo := [] }

def wLeaf : Leaf := { serialNumber := 0, notBefore := 0, partition := none, subjectSerial := 0, publicKey := [], entries := [], signature := [] }

def wCertChain : CertChain := { root := [], deviceCa := [], dik := [], leaf := wLeaf }

theorem test_wf_refuses_CmdIn : ([{ wCmdIn with ring := (2 ^ 13) }, { wCmdIn with rsvAt := (some (2 ^ 32)) }, { wCmdIn with replyAddr := (2 ^ 64) },
    { wCmdIn with replyLen := (2 ^ 32) }] : List CmdIn).all (fun x => !x.wf) = true := by decide +kernel

theorem test_wf_refuses_ConfigParams : ([{ wConfigParams with quarters0 := (2 ^ 12) }, { wConfigParams with quarters1 := (2 ^ 12) },
    { wConfigParams with blockUnits := (2 ^ 5) }, { wConfigParams with shareLog2 := (2 ^ 5) },
    { wConfigParams with ringQuota := (2 ^ 10) }, { wConfigParams with shareBase0 := (2 ^ 32) },
    { wConfigParams with shareBase1 := (2 ^ 32) }, { wConfigParams with overflowQuota0 := (2 ^ 16) },
    { wConfigParams with overflowQuota1 := (2 ^ 16) }, { wConfigParams with coalQuota0 := (2 ^ 16) },
    { wConfigParams with coalQuota1 := (2 ^ 16) }, { wConfigParams with regionBase0 := (2 ^ 8) },
    { wConfigParams with regionBase1 := (2 ^ 8) }, { wConfigParams with regionGib := (2 ^ 8) },
    { wConfigParams with bindFn := (2 ^ 4) }, { wConfigParams with stairQuota := (2 ^ 16) },
    { wConfigParams with larderOff := (2 ^ 32) }, { wConfigParams with shadowOff := (2 ^ 32) },
    { wConfigParams with windowsOff := (2 ^ 32) }, { wConfigParams with windowsUnits := (2 ^ 32) },
    { wConfigParams with imageOff := (2 ^ 32) }, { wConfigParams with imageUnits := (2 ^ 32) }] : List ConfigParams).all (fun x => !x.wf) = true := by decide +kernel

theorem test_wf_refuses_CmdHdr : ([{ wCmdHdr with opcode := (2 ^ 16) }, { wCmdHdr with version := (2 ^ 8) }, { wCmdHdr with seqTag := (2 ^ 32) },
    { wCmdHdr with partition := (2 ^ 8) }, { wCmdHdr with paramLength := (2 ^ 32) }, { wCmdHdr with startDeadline := (2 ^ 32) },
    { wCmdHdr with word20 := (2 ^ 64) }] : List CmdHdr).all (fun x => !x.wf) = true := by decide +kernel

theorem test_wf_refuses_Tod : ([{ wTod with seconds := (2 ^ 48) }, { wTod with utcOffset := (2 ^ 16) }, { wTod with clockClass := (2 ^ 8) }] : List Tod).all (fun x => !x.wf) = true := by decide +kernel

theorem test_wf_refuses_WaitingOn : ([{ wWaitingOn with reason := (2 ^ 8) }, { wWaitingOn with target := (2 ^ 32) }, { wWaitingOn with batch := (2 ^ 16) }] : List WaitingOn).all (fun x => !x.wf) = true := by decide +kernel

theorem test_wf_refuses_Wait : ([{ wWait with node := (2 ^ 32) }, { wWait with on := { wWaitingOn with reason := (2 ^ 8) } }] : List Wait).all (fun x => !x.wf) = true := by decide +kernel

theorem test_wf_refuses_Bank : ([{ wBank with securityVersion := (2 ^ 6) }, { wBank with digest := (2 ^ 384) }, { wBank with bankBytes := (2 ^ 32) },
    { wBank with versions := [(2 ^ 32)] }] : List Bank).all (fun x => !x.wf) = true := by decide +kernel

theorem test_wf_refuses_StagingHdr : ([{ wStagingHdr with baseDigest := (2 ^ 384) }, { wStagingHdr with target := { wBank with securityVersion := (2 ^ 6) } },
    { wStagingHdr with anchors := [(2 ^ 64)] }] : List StagingHdr).all (fun x => !x.wf) = true := by decide +kernel

theorem test_wf_refuses_Relay : ([{ wRelay with op := (2 ^ 8) }, { wRelay with reason := (2 ^ 8) }, { wRelay with value := (2 ^ 64) },
    { wRelay with baseDigest := (2 ^ 384) }, { wRelay with targetDigest := (2 ^ 384) }, { wRelay with length := (2 ^ 11) },
    { wRelay with hdr := (some { wStagingHdr with baseDigest := (2 ^ 384) }) }] : List Relay).all (fun x => !x.wf) = true := by decide +kernel

theorem test_wf_refuses_Converter : ([{ wConverter with vout := (2 ^ 16) }, { wConverter with iout := (2 ^ 16) }, { wConverter with status := (2 ^ 16) }] : List Converter).all (fun x => !x.wf) = true := by decide +kernel

theorem test_wf_refuses_PassOp : ([{ wPassOp with array := (2 ^ 1) }, { wPassOp with form := (2 ^ 3) }, { wPassOp with mode := (2 ^ 2) },
    { wPassOp with kMinus1 := (2 ^ 16) }, { wPassOp with aHalf := (2 ^ 1) }, { wPassOp with aOffset := (2 ^ 8) },
    { wPassOp with bHalf := (2 ^ 1) }, { wPassOp with bOffset := (2 ^ 9) }, { wPassOp with aFmt := (2 ^ 2) },
    { wPassOp with aCb := (2 ^ 2) }, { wPassOp with bFmt := (2 ^ 1) }, { wPassOp with bCb := (2 ^ 2) },
    { wPassOp with aZero := (2 ^ 8) }, { wPassOp with aRelease := (2 ^ 1) }, { wPassOp with bRelease := (2 ^ 1) }] : List PassOp).all (fun x => !x.wf) = true := by decide +kernel

theorem test_wf_refuses_FeedOp : ([{ wFeedOp with array := (2 ^ 1) }, { wFeedOp with target := (2 ^ 3) }, { wFeedOp with half := (2 ^ 1) },
    { wFeedOp with cbSlot := (2 ^ 2) }, { wFeedOp with src := (2 ^ 20) }, { wFeedOp with length := (2 ^ 10) },
    { wFeedOp with tag := (2 ^ 8) }, { wFeedOp with cbSize := (2 ^ 1) }] : List FeedOp).all (fun x => !x.wf) = true := by decide +kernel

theorem test_wf_refuses_DrainOp : ([{ wDrainOp with array := (2 ^ 1) }, { wDrainOp with subOp := (2 ^ 1) }, { wDrainOp with source := (2 ^ 2) },
    { wDrainOp with src := (2 ^ 20) }] : List DrainOp).all (fun x => !x.wf) = true := by decide +kernel

theorem test_wf_refuses_PostOp : ([{ wPostOp with subOp := (2 ^ 4) }, { wPostOp with srcKind := (2 ^ 2) }, { wPostOp with src := (2 ^ 20) },
    { wPostOp with dst := (2 ^ 20) }, { wPostOp with count := (2 ^ 12) }, { wPostOp with paramA := (2 ^ 8) },
    { wPostOp with paramB := (2 ^ 8) }] : List PostOp).all (fun x => !x.wf) = true := by decide +kernel

theorem test_wf_refuses_TreeOp : ([{ wTreeOp with trees := (2 ^ 20) }, { wTreeOp with treeCountMinus1 := (2 ^ 12) }, { wTreeOp with nodeBits := (2 ^ 20) },
    { wTreeOp with dst := (2 ^ 20) }] : List TreeOp).all (fun x => !x.wf) = true := by decide +kernel

theorem test_wf_refuses_MoveOp : ([{ wMoveOp with kind := (2 ^ 2) }, { wMoveOp with localRef := (2 ^ 20) }, { wMoveOp with length := (2 ^ 16) },
    { wMoveOp with remote := (2 ^ 42) }] : List MoveOp).all (fun x => !x.wf) = true := by decide +kernel

theorem test_wf_refuses_StateOp : ([{ wStateOp with subOp := (2 ^ 2) }, { wStateOp with rowFirst := (2 ^ 7) }, { wStateOp with rowCount := (2 ^ 8) },
    { wStateOp with state := (2 ^ 20) }, { wStateOp with token := (2 ^ 20) }] : List StateOp).all (fun x => !x.wf) = true := by decide +kernel

theorem test_wf_refuses_ReduceOp : ([{ wReduceOp with slot0 := (2 ^ 20) }, { wReduceOp with stride := (2 ^ 12) }, { wReduceOp with countMinus1 := (2 ^ 4) },
    { wReduceOp with length := (2 ^ 12) }, { wReduceOp with dst := (2 ^ 20) }, { wReduceOp with arriveTok := (2 ^ 4) }] : List ReduceOp).all (fun x => !x.wf) = true := by decide +kernel

theorem test_wf_refuses_SyncOp : ([{ wSyncOp with targetKind := (2 ^ 1) }, { wSyncOp with tok := (2 ^ 4) }, { wSyncOp with increment := (2 ^ 8) },
    { wSyncOp with wing := (2 ^ 1) }, { wSyncOp with gallery := (2 ^ 2) }, { wSyncOp with tile := (2 ^ 7) }] : List SyncOp).all (fun x => !x.wf) = true := by decide +kernel

theorem test_wf_refuses_TileWord : ([{ wTileWord with waitEn := (2 ^ 1) }, { wTileWord with waitTok := (2 ^ 4) }, { wTileWord with sigEn := (2 ^ 1) },
    { wTileWord with sigTok := (2 ^ 4) }, { wTileWord with trace := (2 ^ 1) }, { wTileWord with last := (2 ^ 1) },
    { wTileWord with layer := (2 ^ 12) }, { wTileWord with opId := (2 ^ 12) },
    { wTileWord with op := (.mma { wPassOp with array := (2 ^ 1) }) }] : List TileWord).all (fun x => !x.wf) = true := by decide +kernel

theorem test_wf_refuses_Feature : ([{ wFeature with source := (2 ^ 10) }, { wFeature with shift := (2 ^ 6) }, { wFeature with transform := (2 ^ 3) },
    { wFeature with width := (2 ^ 5) }, { wFeature with count := (2 ^ 8) }, { wFeature with element := (2 ^ 9) },
    { wFeature with arg := (2 ^ 16) }] : List Feature).all (fun x => !x.wf) = true := by decide +kernel

theorem test_wf_refuses_StageCfg : ([{ wStageCfg with batchSize := (2 ^ 8) }, { wStageCfg with batchWait := (2 ^ 10) }, { wStageCfg with passK := (2 ^ 32) },
    { wStageCfg with stateBytes := (2 ^ 32) }, { wStageCfg with trees := (2 ^ 32) }, { wStageCfg with centroids := (2 ^ 32) },
    { wStageCfg with topK := (2 ^ 32) }, { wStageCfg with elements := (2 ^ 32) }, { wStageCfg with modes := [(2 ^ 2)] },
    { wStageCfg with links := [(2 ^ 8)] }] : List StageCfg).all (fun x => !x.wf) = true := by decide +kernel

theorem test_wf_refuses_SiteCfg : ([{ wSiteCfg with index := (2 ^ 4) }, { wSiteCfg with layer := (2 ^ 12) }, { wSiteCfg with window := (2 ^ 5) }] : List SiteCfg).all (fun x => !x.wf) = true := by decide +kernel

theorem test_wf_refuses_BandCfg : ([{ wBandCfg with action := (2 ^ 8) }, { wBandCfg with param := (2 ^ 32) }] : List BandCfg).all (fun x => !x.wf) = true := by decide +kernel

theorem test_wf_refuses_VerdictCfg : ([{ wVerdictCfg with bands := (2 ^ 3) }, { wVerdictCfg with band := [{ wBandCfg with action := (2 ^ 8) }] },
    { wVerdictCfg with nanBand := { wBandCfg with action := (2 ^ 8) } }] : List VerdictCfg).all (fun x => !x.wf) = true := by decide +kernel

theorem test_wf_refuses_RolloutCfg : ([{ wRolloutCfg with steps := (2 ^ 5) }, { wRolloutCfg with width := (2 ^ 4) }, { wRolloutCfg with queue := (2 ^ 2) },
    { wRolloutCfg with priority := (2 ^ 3) }] : List RolloutCfg).all (fun x => !x.wf) = true := by decide +kernel

theorem test_wf_refuses_SlotCfg : ([{ wSlotCfg with tokenWidth := (2 ^ 10) }, { wSlotCfg with flowBase := (2 ^ 10) }, { wSlotCfg with featureWords := [(2 ^ 64)] },
    { wSlotCfg with main := [{ wStageCfg with batchSize := (2 ^ 8) }] },
    { wSlotCfg with noFlow := [{ wStageCfg with batchSize := (2 ^ 8) }] },
    { wSlotCfg with rollout := [{ wStageCfg with batchSize := (2 ^ 8) }] }, { wSlotCfg with statLength := (2 ^ 17) },
    { wSlotCfg with sites := [{ wSiteCfg with index := (2 ^ 4) }] },
    { wSlotCfg with verdict := [{ wVerdictCfg with bands := (2 ^ 3) }] },
    { wSlotCfg with rolloutCfg := { wRolloutCfg with steps := (2 ^ 5) } }] : List SlotCfg).all (fun x => !x.wf) = true := by decide +kernel

theorem test_wf_refuses_SiteEntry : ([{ wSiteEntry with layer := (2 ^ 12) }, { wSiteEntry with site := (2 ^ 4) }] : List SiteEntry).all (fun x => !x.wf) = true := by decide +kernel

theorem test_wf_refuses_DramWindow : ([{ wDramWindow with base := (2 ^ 48) }, { wDramWindow with size := (2 ^ 48) }] : List DramWindow).all (fun x => !x.wf) = true := by decide +kernel

theorem test_wf_refuses_GroupMember : ([{ wGroupMember with wing := (2 ^ 1) }, { wGroupMember with ctile := (2 ^ 9) }] : List GroupMember).all (fun x => !x.wf) = true := by decide +kernel

theorem test_wf_refuses_TileImage : ([{ wTileImage with wing := (2 ^ 1) }, { wTileImage with ctile := (2 ^ 9) }, { wTileImage with entries := [(2 ^ 19)] },
    { wTileImage with scaleBlock := (2 ^ 20) }, { wTileImage with sites := [{ wSiteEntry with layer := (2 ^ 12) }] },
    { wTileImage with groups := [[{ wGroupMember with wing := (2 ^ 1) }]] },
    { wTileImage with windows := [{ wDramWindow with base := (2 ^ 48) }] }, { wTileImage with reloc := [(2 ^ 19)] }] : List TileImage).all (fun x => !x.wf) = true := by decide +kernel

theorem test_wf_refuses_StateLayout : ([{ wStateLayout with depth := (2 ^ 5) }, { wStateLayout with histOffset := (2 ^ 12) },
    { wStateLayout with histEntry := (2 ^ 12) }] : List StateLayout).all (fun x => !x.wf) = true := by decide +kernel

theorem test_wf_refuses_Declared : ([{ wDeclared with wing := (2 ^ 1) }, { wDeclared with ctile := (2 ^ 9) }, { wDeclared with address := (2 ^ 23) },
    { wDeclared with entries := (2 ^ 9) }] : List Declared).all (fun x => !x.wf) = true := by decide +kernel

theorem test_wf_refuses_SectEntry : ([{ wSectEntry with type := (2 ^ 8) }, { wSectEntry with wing := (2 ^ 1) }, { wSectEntry with ctile := (2 ^ 9) },
    { wSectEntry with slot := (2 ^ 8) }, { wSectEntry with keyGen := (2 ^ 8) }, { wSectEntry with offset := (2 ^ 64) },
    { wSectEntry with length := (2 ^ 64) }, { wSectEntry with dest := (2 ^ 64) }] : List SectEntry).all (fun x => !x.wf) = true := by decide +kernel

theorem test_wf_refuses_Image : ([{ wImage with target := (2 ^ 4) }, { wImage with slotMask := (2 ^ 4) }, { wImage with quarters := (2 ^ 8) },
    { wImage with blockUnits := (2 ^ 5) }, { wImage with topologyId := (2 ^ 64) }, { wImage with stateLayoutId := (2 ^ 64) },
    { wImage with imageBytes := (2 ^ 64) }, { wImage with measurement := (2 ^ 384) },
    { wImage with sections := [{ wSectEntry with type := (2 ^ 8) }] },
    { wImage with slots := [(0, { wSlotCfg with tokenWidth := (2 ^ 10) })] },
    { wImage with layout := { wStateLayout with depth := (2 ^ 5) } }, { wImage with tiles := [{ wTileImage with wing := (2 ^ 1) }] },
    { wImage with declared := [{ wDeclared with wing := (2 ^ 1) }] }] : List Image).all (fun x => !x.wf) = true := by decide +kernel

theorem test_wf_refuses_LoadResult : ([{ wLoadResult with image := { wImage with target := (2 ^ 4) } }, { wLoadResult with contentFault := (some (2 ^ 32)) },
    { wLoadResult with arrived := [(2 ^ 64)] }] : List LoadResult).all (fun x => !x.wf) = true := by decide +kernel

theorem test_wf_refuses_Ecc : ([{ wEcc with corrected := (2 ^ 16) }, { wEcc with unit := (some (2 ^ 17)) }] : List Ecc).all (fun x => !x.wf) = true := by decide +kernel

theorem test_wf_refuses_Placement : ([{ wPlacement with tiles := [(2 ^ 10)] }, { wPlacement with entry := (2 ^ 4) }, { wPlacement with bases := [(2 ^ 17)] },
    { wPlacement with tokenAt := (2 ^ 17) }, { wPlacement with forecastAt := (2 ^ 17) }] : List Placement).all (fun x => !x.wf) = true := by decide +kernel

theorem test_wf_refuses_PartnerPart : ([{ wPartnerPart with state := (2 ^ 2) }, { wPartnerPart with params := { wConfigParams with quarters0 := (2 ^ 12) } }] : List PartnerPart).all (fun x => !x.wf) = true := by decide +kernel

theorem test_wf_refuses_PartnerInfo : ([{ wPartnerInfo with serial := (2 ^ 64) }, { wPartnerInfo with stepping := (2 ^ 16) },
    { wPartnerInfo with originSeconds := (2 ^ 64) }, { wPartnerInfo with hashSeed := (2 ^ 128) },
    { wPartnerInfo with parts := [{ wPartnerPart with state := (2 ^ 2) }] }, { wPartnerInfo with settings := (2 ^ 384) }] : List PartnerInfo).all (fun x => !x.wf) = true := by decide +kernel

theorem test_wf_refuses_WordRead : ([{ wWordRead with word := (2 ^ 6) }, { wWordRead with data := (2 ^ 64) }] : List WordRead).all (fun x => !x.wf) = true := by decide +kernel

theorem test_wf_refuses_TcbInfo : ([{ wTcbInfo with index := (2 ^ 4) }] : List TcbInfo).all (fun x => !x.wf) = true := by decide +kernel

theorem test_wf_refuses_Leaf : ([{ wLeaf with entries := [{ wTcbInfo with index := (2 ^ 4) }] }] : List Leaf).all (fun x => !x.wf) = true := by decide +kernel

theorem test_wf_refuses_CertChain : ([{ wCertChain with leaf := { wLeaf with entries := [{ wTcbInfo with index := (2 ^ 4) }] } }] : List CertChain).all (fun x => !x.wf) = true := by decide +kernel

theorem test_wf_refuses_PairUnit : ([(.bucket (2 ^ 22) []), (.overflow (2 ^ 15) []), (.larder (2 ^ 32) []), (.maxima (2 ^ 2) []), (.maxima 0 [(0, (2 ^ 32))]),
    (.windows (2 ^ 1) []), (.windows 0 [((2 ^ 16), 0, 0, 0)]), (.windows 0 [(0, 0, (2 ^ 32), 0)]),
    (.windows 0 [(0, 0, 0, (2 ^ 32))])] : List PairUnit).all (fun x => !x.wf) = true := by decide +kernel

theorem test_wf_refuses_MirrorCmd : ([(.configure (2 ^ 8) wConfigParams), (.configure 0 { wConfigParams with quarters0 := (2 ^ 12) }), (.release (2 ^ 8)),
    (.setting (2 ^ 8) 0 0 0 0), (.setting 0 (2 ^ 16) 0 0 0), (.setting 0 0 (2 ^ 16) 0 0), (.setting 0 0 0 (2 ^ 8) 0),
    (.setting 0 0 0 0 (2 ^ 128)), (.rule (2 ^ 1) 0 0 0 0), (.rule 0 (2 ^ 12) 0 0 0), (.rule 0 0 (2 ^ 64) 0 0), (.bankArm (2 ^ 64)),
    (.epochArm (2 ^ 8) 0 false 0 0 0), (.epochArm 0 (2 ^ 1) false 0 0 0), (.epochArm 0 0 false (2 ^ 16) 0 0),
    (.epochArm 0 0 false 0 (2 ^ 64) 0), (.epochArm 0 0 false 0 0 (2 ^ 384)), (.epochCancel (2 ^ 8))] : List MirrorCmd).all (fun x => !x.wf) = true := by decide +kernel

theorem test_wf_refuses_PairMsg : ([(.heartbeat (2 ^ 32) 0 false 0 0), (.heartbeat 0 (2 ^ 32) false 0 0), (.heartbeat 0 0 false (2 ^ 16) 0),
    (.heartbeat 0 0 false 0 (2 ^ 16)), (.insert (2 ^ 64) 0 []), (.insert 0 (2 ^ 32) []), (.tableChange (2 ^ 64) 0 0 (.bucket 0 [])),
    (.tableChange 0 (2 ^ 1) 0 (.bucket 0 [])), (.tableChange 0 0 (2 ^ 8) (.bucket 0 [])), (.tableChange 0 0 0 (.bucket (2 ^ 22) [])),
    (.prepare (.configure (2 ^ 8) wConfigParams)), (.vote (2 ^ 32) 0 0), (.vote 0 (2 ^ 32) 0), (.vote 0 0 (2 ^ 32)),
    (.commit (2 ^ 32) 0), (.commit 0 (2 ^ 64)), (.stateHash (2 ^ 64) []), (.stateHash 0 [(2 ^ 64)]), (.resyncBegin (2 ^ 8) 0 0),
    (.resyncBegin 0 (2 ^ 1) 0), (.resyncBegin 0 0 (2 ^ 64)), (.resyncData (2 ^ 8) 0 (.bucket 0 [])),
    (.resyncData 0 (2 ^ 1) (.bucket 0 [])), (.resyncData 0 0 (.bucket (2 ^ 22) [])), (.blockRequest (2 ^ 8) 0 0),
    (.blockRequest 0 (2 ^ 1) 0), (.blockRequest 0 0 (2 ^ 32)), (.resyncEnd (2 ^ 8) 0 0), (.resyncEnd 0 (2 ^ 1) 0),
    (.resyncEnd 0 0 (2 ^ 32)), (.role (2 ^ 64)), (.update { wRelay with op := (2 ^ 8) }), (.reserved (2 ^ 8))] : List PairMsg).all (fun x => !x.wf) = true := by decide +kernel

theorem test_wf_refuses_TileOp : ([(.mma { wPassOp with array := (2 ^ 1) }), (.sel { wPassOp with array := (2 ^ 1) }), (.dist { wPassOp with array := (2 ^ 1) }),
    (.feed { wFeedOp with array := (2 ^ 1) }), (.drain { wDrainOp with array := (2 ^ 1) }),
    (.post { wPostOp with subOp := (2 ^ 4) }), (.tree { wTreeOp with trees := (2 ^ 20) }), (.load { wMoveOp with kind := (2 ^ 2) }),
    (.store { wMoveOp with kind := (2 ^ 2) }), (.state { wStateOp with subOp := (2 ^ 2) }),
    (.reduce { wReduceOp with slot0 := (2 ^ 20) }), (.sync { wSyncOp with targetKind := (2 ^ 1) }), (.wait (2 ^ 4) 0),
    (.wait 0 (2 ^ 8)), (.mark (2 ^ 32))] : List TileOp).all (fun x => !x.wf) = true := by decide +kernel

theorem test_wf_refuses_commands_0 : ([.functionLevelReset (2 ^ 4), .pcieLinkTrained (2 ^ 5) 0, .pcieLinkTrained 0 (2 ^ 10), .resetN false (2 ^ 32),
    .romStage (2 ^ 2) false false 0 wApplyOutcome, .hearthStage false [] [((2 ^ 3), wConverter)],
    .hearthStage false [] [(0, { wConverter with vout := (2 ^ 16) })], .selfTest [(2 ^ 10)] [], .selfTest [] [(2 ^ 9)],
    .serdesRefclkLoss (2 ^ 2) false, .adminEnable (2 ^ 4) false, .adminReset (2 ^ 4) false, .stickyMirrorWrite (2 ^ 4) 0,
    .stickyMirrorWrite 0 (2 ^ 256), .registerWrite (2 ^ 4) 0 0 false false, .registerWrite 0 (2 ^ 26) 0 false false,
    .registerWrite 0 0 (2 ^ 64) false false, .sqTail (2 ^ 4) 0 0 false, .sqTail 0 (2 ^ 12) 0 false, .sqTail 0 0 (2 ^ 32) false,
    .cqHead (2 ^ 4) 0 0 false, .cqHead 0 (2 ^ 12) 0 false, .cqHead 0 0 (2 ^ 32) false, .startDeadlineExpiry (2 ^ 13),
    .fenceRelease (2 ^ 13), .interruptCoalesceTimeout (2 ^ 12), .vectorUnmask (2 ^ 4) 0 false, .vectorUnmask 0 (2 ^ 10) false,
    .sessionOpen { wCmdIn with ring := (2 ^ 13) } 0, .sessionOpen wCmdIn (2 ^ 128), .sessionClose { wCmdIn with ring := (2 ^ 13) },
    .ringCreate { wCmdIn with ring := (2 ^ 13) } 0 .command 0 0 0 0 0 0 0, .ringCreate wCmdIn (2 ^ 12) .command 0 0 0 0 0 0 0,
    .ringCreate wCmdIn 0 .command (2 ^ 5) 0 0 0 0 0 0, .ringCreate wCmdIn 0 .command 0 (2 ^ 11) 0 0 0 0 0,
    .ringCreate wCmdIn 0 .command 0 0 (2 ^ 8) 0 0 0 0, .ringCreate wCmdIn 0 .command 0 0 0 (2 ^ 10) 0 0 0,
    .ringCreate wCmdIn 0 .command 0 0 0 0 (2 ^ 32) 0 0, .ringCreate wCmdIn 0 .command 0 0 0 0 0 (2 ^ 64) 0,
    .ringCreate wCmdIn 0 .command 0 0 0 0 0 0 (2 ^ 64), .ringDestroy { wCmdIn with ring := (2 ^ 13) } 0,
    .ringDestroy wCmdIn (2 ^ 12), .ringReset { wCmdIn with ring := (2 ^ 13) } 0, .ringReset wCmdIn (2 ^ 12),
    .partitionConfigure { wCmdIn with ring := (2 ^ 13) } wConfigParams,
    .partitionConfigure wCmdIn { wConfigParams with quarters0 := (2 ^ 12) },
    .contextConfigure { wCmdIn with ring := (2 ^ 13) } wConfigParams,
    .contextConfigure wCmdIn { wConfigParams with quarters0 := (2 ^ 12) }, .partitionRelease { wCmdIn with ring := (2 ^ 13) },
    .partitionQuery { wCmdIn with ring := (2 ^ 13) }, .settingWrite { wCmdIn with ring := (2 ^ 13) } 0 0 0 0,
    .settingWrite wCmdIn (2 ^ 16) 0 0 0, .settingWrite wCmdIn 0 (2 ^ 16) 0 0, .settingWrite wCmdIn 0 0 (2 ^ 8) 0,
    .settingWrite wCmdIn 0 0 0 (2 ^ 128), .settingRead { wCmdIn with ring := (2 ^ 13) } 0 0 0, .settingRead wCmdIn (2 ^ 16) 0 0,
    .settingRead wCmdIn 0 (2 ^ 16) 0, .settingRead wCmdIn 0 0 (2 ^ 8), .ruleWrite { wCmdIn with ring := (2 ^ 13) } 0 0 wRule] : List Instr).all (fun i => !i.wellFormed) = true := by decide +kernel

theorem test_wf_refuses_commands_1 : ([.ruleWrite wCmdIn (2 ^ 1) 0 wRule, .ruleWrite wCmdIn 0 (2 ^ 12) wRule, .ruleRead { wCmdIn with ring := (2 ^ 13) } 0 0,
    .ruleRead wCmdIn (2 ^ 1) 0, .ruleRead wCmdIn 0 (2 ^ 12), .ruleBankArm { wCmdIn with ring := (2 ^ 13) } 0,
    .ruleBankArm wCmdIn (2 ^ 64), .ruleBankQuery { wCmdIn with ring := (2 ^ 13) },
    .imageLoad { wCmdIn with ring := (2 ^ 13) } 0 0 [], .imageLoad wCmdIn (2 ^ 1) 0 [], .imageLoad wCmdIn 0 (2 ^ 64) [],
    .imageLoadCheck (2 ^ 8) 0 wLoadResult, .imageLoadCheck 0 (2 ^ 1) wLoadResult,
    .imageLoadCheck 0 0 { wLoadResult with image := { wImage with target := (2 ^ 4) } },
    .imageDiscard { wCmdIn with ring := (2 ^ 13) } 0, .imageDiscard wCmdIn (2 ^ 1), .imageQuery { wCmdIn with ring := (2 ^ 13) },
    .epochArm { wCmdIn with ring := (2 ^ 13) } 0 false 0 0, .epochArm wCmdIn (2 ^ 1) false 0 0, .epochArm wCmdIn 0 false (2 ^ 16) 0,
    .epochArm wCmdIn 0 false 0 (2 ^ 64), .epochCancel { wCmdIn with ring := (2 ^ 13) },
    .rolloutStart { wCmdIn with ring := (2 ^ 13) } 0, .rolloutStart wCmdIn (2 ^ 32), .epochSwitch (2 ^ 8), .stagedFillStart (2 ^ 8),
    .fillWaveEnd (2 ^ 8), .epochRetirement (2 ^ 8), .tableLock { wCmdIn with ring := (2 ^ 13) } 0 0 0, .tableLock wCmdIn (2 ^ 1) 0 0,
    .tableLock wCmdIn 0 (2 ^ 8) 0, .tableLock wCmdIn 0 0 (2 ^ 32), .tableRead { wCmdIn with ring := (2 ^ 13) } 0 0 0 0 false,
    .tableRead wCmdIn (2 ^ 1) 0 0 0 false, .tableRead wCmdIn 0 (2 ^ 8) 0 0 false, .tableRead wCmdIn 0 0 (2 ^ 32) 0 false,
    .tableRead wCmdIn 0 0 0 (2 ^ 13) false, .tableWrite { wCmdIn with ring := (2 ^ 13) } 0 0 0 [] false,
    .tableWrite wCmdIn (2 ^ 1) 0 0 [] false, .tableWrite wCmdIn 0 (2 ^ 8) 0 [] false, .tableWrite wCmdIn 0 0 (2 ^ 32) [] false,
    .tableUnlock { wCmdIn with ring := (2 ^ 13) } 0 0 0 false, .tableUnlock wCmdIn (2 ^ 1) 0 0 false,
    .tableUnlock wCmdIn 0 (2 ^ 8) 0 false, .tableUnlock wCmdIn 0 0 (2 ^ 32) false, .lockBreak (2 ^ 1) 0, .lockBreak 0 (2 ^ 22),
    .tableOverflowRead { wCmdIn with ring := (2 ^ 13) } 0 0 0, .tableOverflowRead wCmdIn (2 ^ 1) 0 0,
    .tableOverflowRead wCmdIn 0 (2 ^ 16) 0, .tableOverflowRead wCmdIn 0 0 (2 ^ 17),
    .tableOverflowDelete { wCmdIn with ring := (2 ^ 13) } 0 0, .tableOverflowDelete wCmdIn (2 ^ 32) 0,
    .tableOverflowDelete wCmdIn 0 (2 ^ 8), .tableHash { wCmdIn with ring := (2 ^ 13) } [],
    .tableShadowWrite { wCmdIn with ring := (2 ^ 13) } 0 false 0 0 [] false, .tableShadowWrite wCmdIn (2 ^ 1) false 0 0 [] false,
    .tableShadowWrite wCmdIn 0 false (2 ^ 32) 0 [] false, .tableShadowWrite wCmdIn 0 false 0 (2 ^ 32) [] false,
    .tableCompare { wCmdIn with ring := (2 ^ 13) } 0 false false 0 0 0 0 0] : List Instr).all (fun i => !i.wellFormed) = true := by decide +kernel

theorem test_wf_refuses_commands_2 : ([.tableCompare wCmdIn (2 ^ 1) false false 0 0 0 0 0, .tableCompare wCmdIn 0 false false (2 ^ 2) 0 0 0 0,
    .tableCompare wCmdIn 0 false false 0 (2 ^ 3) 0 0 0, .tableCompare wCmdIn 0 false false 0 0 (2 ^ 32) 0 0,
    .tableCompare wCmdIn 0 false false 0 0 0 (2 ^ 32) 0, .tableCompare wCmdIn 0 false false 0 0 0 0 (2 ^ 32), .compareUnit (2 ^ 1),
    .compareDone (2 ^ 1), .reportRead { wCmdIn with ring := (2 ^ 13) } 0 0 [] false, .reportRead wCmdIn (2 ^ 2) 0 [] false,
    .reportRead wCmdIn 0 (2 ^ 32) [] false, .reportRead wCmdIn 0 0 [{ wWordRead with word := (2 ^ 6) }] false,
    .reportReadSelect (2 ^ 8) 0 [] false false, .reportReadSelect 0 (2 ^ 2) [] false false,
    .reportReadSelect 0 0 [{ wWordRead with word := (2 ^ 6) }] false false, .reportReadTimeout (2 ^ 8) 0,
    .reportReadTimeout 0 (2 ^ 2), .reportReadCompat { wCmdIn with ring := (2 ^ 13) } 0 [], .reportReadCompat wCmdIn (2 ^ 2) [],
    .reportReadCompat wCmdIn 0 [{ wWordRead with word := (2 ^ 6) }], .exportQueueStats { wCmdIn with ring := (2 ^ 13) } 0 false,
    .exportQueueStats wCmdIn (2 ^ 12) false, .gateListSet { wCmdIn with ring := (2 ^ 13) } 0 [] 0, .gateListSet wCmdIn (2 ^ 6) [] 0,
    .gateListSet wCmdIn 0 [((2 ^ 8), 0)] 0, .gateListSet wCmdIn 0 [(0, (2 ^ 32))] 0, .gateListSet wCmdIn 0 [] (2 ^ 64),
    .gateListCancel { wCmdIn with ring := (2 ^ 13) } 0, .gateListCancel wCmdIn (2 ^ 6),
    .timeConfig { wCmdIn with ring := (2 ^ 13) } 0 0 0 0, .timeConfig wCmdIn (2 ^ 16) 0 0 0, .timeConfig wCmdIn 0 (2 ^ 16) 0 0,
    .timeConfig wCmdIn 0 0 (2 ^ 8) 0, .timeConfig wCmdIn 0 0 0 (2 ^ 128), .timeStatus { wCmdIn with ring := (2 ^ 13) },
    .counterRead { wCmdIn with ring := (2 ^ 13) } 0 0, .counterRead wCmdIn (2 ^ 32) 0, .counterRead wCmdIn 0 (2 ^ 17),
    .snapshot { wCmdIn with ring := (2 ^ 13) } false 0 0 0, .snapshot wCmdIn false (2 ^ 64) 0 0, .snapshot wCmdIn false 0 (2 ^ 64) 0,
    .snapshot wCmdIn false 0 0 (2 ^ 32), .traceConfig { wCmdIn with ring := (2 ^ 13) } 0 false 0 0 0,
    .traceConfig wCmdIn (2 ^ 32) false 0 0 0, .traceConfig wCmdIn 0 false (2 ^ 32) 0 0, .traceConfig wCmdIn 0 false 0 (2 ^ 16) 0,
    .traceConfig wCmdIn 0 false 0 0 (2 ^ 32), .traceRelease { wCmdIn with ring := (2 ^ 13) } 0, .traceRelease wCmdIn (2 ^ 32),
    .deviceIdentity { wCmdIn with ring := (2 ^ 13) }, .healthStatus { wCmdIn with ring := (2 ^ 13) } [],
    .mantelRead { wCmdIn with ring := (2 ^ 13) } 0 0 0, .mantelRead wCmdIn (2 ^ 2) 0 0, .mantelRead wCmdIn 0 (2 ^ 8) 0,
    .mantelRead wCmdIn 0 0 (2 ^ 32), .stickyRead { wCmdIn with ring := (2 ^ 13) }, .stickyClear { wCmdIn with ring := (2 ^ 13) } 0,
    .stickyClear wCmdIn (2 ^ 256), .keyLoad { wCmdIn with ring := (2 ^ 13) } 0 0 [], .keyLoad wCmdIn (2 ^ 8) 0 []] : List Instr).all (fun i => !i.wellFormed) = true := by decide +kernel

theorem test_wf_refuses_commands_3 : ([.keyLoad wCmdIn 0 (2 ^ 32) [], .previousKeyErase (2 ^ 8), .keyQuery { wCmdIn with ring := (2 ^ 13) },
    .updateBegin { wCmdIn with ring := (2 ^ 13) } 0, .updateBegin wCmdIn (2 ^ 64),
    .updateData { wCmdIn with ring := (2 ^ 13) } 0 0 none, .updateData wCmdIn (2 ^ 64) 0 none, .updateData wCmdIn 0 (2 ^ 32) none,
    .updateData wCmdIn 0 0 (some { wStagingHdr with baseDigest := (2 ^ 384) }), .updateEnd { wCmdIn with ring := (2 ^ 13) },
    .updateAbort { wCmdIn with ring := (2 ^ 13) }, .updateStatus { wCmdIn with ring := (2 ^ 13) },
    .updateActivate { wCmdIn with ring := (2 ^ 13) } false, .updateConfirm { wCmdIn with ring := (2 ^ 13) },
    .settingsSave { wCmdIn with ring := (2 ^ 13) }, .pairSetup { wCmdIn with ring := (2 ^ 13) } false,
    .pairRelease { wCmdIn with ring := (2 ^ 13) }, .pairStatus { wCmdIn with ring := (2 ^ 13) },
    .pairSwitchover { wCmdIn with ring := (2 ^ 13) }, .pairResync { wCmdIn with ring := (2 ^ 13) },
    .dumpTake { wCmdIn with ring := (2 ^ 13) } 0 0 0 [], .dumpTake wCmdIn (2 ^ 8) 0 0 [], .dumpTake wCmdIn 0 (2 ^ 64) 0 [],
    .dumpTake wCmdIn 0 0 (2 ^ 64) [], .dumpTake wCmdIn 0 0 0 [{ wWait with node := (2 ^ 32) }],
    .dumpStatus { wCmdIn with ring := (2 ^ 13) }, .waitforRead { wCmdIn with ring := (2 ^ 13) },
    .digest (2 ^ 6) 0 [] false false 0 0, .digest 0 (2 ^ 64) [] false false 0 0, .digest 0 0 [] false false (2 ^ 16) 0,
    .digest 0 0 [] false false 0 (2 ^ 16), .controlReceive (2 ^ 6) [] false false 0 0, .controlReceive 0 [] false false (2 ^ 16) 0,
    .controlReceive 0 [] false false 0 (2 ^ 16), .foreignFrame (2 ^ 6) [] false false 0 0, .foreignFrame 0 [] false false (2 ^ 16) 0,
    .foreignFrame 0 [] false false 0 (2 ^ 16), .rxIpv6 (2 ^ 6) [] false false 0 0, .rxIpv6 0 [] false false (2 ^ 16) 0,
    .rxIpv6 0 [] false false 0 (2 ^ 16), .laneDown (2 ^ 6), .linkUp (2 ^ 6), .controlFrameCredit (2 ^ 6), .controlFrameIdle (2 ^ 6),
    .quotaRelease (2 ^ 1) 0, .quotaRelease 0 (2 ^ 4), .batchClose (2 ^ 1) 0 0 .main 0 wPlacement,
    .batchClose 0 (2 ^ 4) 0 .main 0 wPlacement, .batchClose 0 0 (2 ^ 2) .main 0 wPlacement,
    .batchClose 0 0 0 .main (2 ^ 8) wPlacement, .batchClose 0 0 0 .main 0 { wPlacement with tiles := [(2 ^ 10)] },
    .settleWait (2 ^ 1) 0, .settleWait 0 (2 ^ 16), .batchDescriptor (2 ^ 10) wEcc,
    .batchDescriptor 0 { wEcc with corrected := (2 ^ 16) }, .lookup (2 ^ 1) 0 false, .lookup 0 (2 ^ 15) false,
    .inputState (2 ^ 1) 0 false none, .inputState 0 (2 ^ 15) false none, .inputState 0 0 false (some (2 ^ 6))] : List Instr).all (fun i => !i.wellFormed) = true := by decide +kernel

theorem test_wf_refuses_commands_4 : ([.readyToCommit (2 ^ 1) 0, .readyToCommit 0 (2 ^ 15), .commit (2 ^ 1) 0, .commit 0 (2 ^ 15), .squash (2 ^ 1) 0,
    .squash 0 (2 ^ 15), .squashDiscardComplete (2 ^ 1) 0, .squashDiscardComplete 0 (2 ^ 15), .verdictArrival (2 ^ 1),
    .verdictFrame (2 ^ 6), .exportFrame (2 ^ 6), .shaperEligible (2 ^ 12), .payloadClose (2 ^ 12), .insertion (2 ^ 1),
    .backgroundClear (2 ^ 1) 0 none, .backgroundClear 0 (2 ^ 4) none, .backgroundClear 0 0 (some (2 ^ 6)), .epochWalk (2 ^ 1) 0 none,
    .epochWalk 0 (2 ^ 4) none, .epochWalk 0 0 (some (2 ^ 6)), .epochWalkEnd (2 ^ 4), .rolloutBatch (2 ^ 1) 0 0 [],
    .rolloutBatch 0 (2 ^ 4) 0 [], .rolloutBatch 0 0 (2 ^ 2) [], .rolloutBatch 0 0 0 [{ wPlacement with tiles := [(2 ^ 10)] }],
    .rolloutRecord (2 ^ 1) 0, .rolloutRecord 0 (2 ^ 16), .gateList (2 ^ 6), .pairTableApply (2 ^ 1), .pairInsertApply (2 ^ 1),
    .windowEdge (2 ^ 4) 0, .windowEdge 0 (2 ^ 1), .ageSweep (2 ^ 1) 0, .ageSweep 0 (2 ^ 4), .sweepOverrun (2 ^ 1) 0,
    .sweepOverrun 0 (2 ^ 4), .interval1ms (2 ^ 3) [], .interval1ms 0 [((2 ^ 6), 0, 0)], .interval1ms 0 [(0, (2 ^ 10), 0)],
    .interval1ms 0 [(0, 0, (2 ^ 10))], .stateHash (2 ^ 1), .snapshotCopy (2 ^ 8), .snapshotWindowSwap (2 ^ 4), .wingResume (2 ^ 1),
    .ppsInEdge (2 ^ 4), .recordPush (2 ^ 8) 0, .recordPush 0 (2 ^ 2), .reportNotifyTimeout (2 ^ 8) 0, .reportNotifyTimeout 0 (2 ^ 2),
    .mma (2 ^ 10) 0 wEcc, .mma 0 (2 ^ 1) wEcc, .mma 0 0 { wEcc with corrected := (2 ^ 16) }, .sel (2 ^ 10) 0 wEcc,
    .sel 0 (2 ^ 1) wEcc, .sel 0 0 { wEcc with corrected := (2 ^ 16) }, .dist (2 ^ 10) 0 wEcc, .dist 0 (2 ^ 1) wEcc,
    .dist 0 0 { wEcc with corrected := (2 ^ 16) }, .passComplete (2 ^ 10) 0, .passComplete 0 (2 ^ 1)] : List Instr).all (fun i => !i.wellFormed) = true := by decide +kernel

theorem test_wf_refuses_commands_5 : ([.formChange (2 ^ 10) 0, .formChange 0 (2 ^ 1), .rampUp (2 ^ 10) 0, .rampUp 0 (2 ^ 1), .rampDown (2 ^ 10) 0, .rampDown 0 (2 ^ 1),
    .swap (2 ^ 10) 0 0, .swap 0 (2 ^ 1) 0, .swap 0 0 (2 ^ 9), .tagHold (2 ^ 10) 0, .tagHold 0 (2 ^ 1), .tagMismatch (2 ^ 10) 0,
    .tagMismatch 0 (2 ^ 1), .feed (2 ^ 10) 0 wEcc, .feed 0 (2 ^ 1) wEcc, .feed 0 0 { wEcc with corrected := (2 ^ 16) },
    .feedScale (2 ^ 10) 0 wEcc, .feedScale 0 (2 ^ 1) wEcc, .feedScale 0 0 { wEcc with corrected := (2 ^ 16) },
    .feedCodebook (2 ^ 10) 0 wEcc, .feedCodebook 0 (2 ^ 1) wEcc, .feedCodebook 0 0 { wEcc with corrected := (2 ^ 16) },
    .drain (2 ^ 10) 0 wEcc, .drain 0 (2 ^ 1) wEcc, .drain 0 0 { wEcc with corrected := (2 ^ 16) }, .preload (2 ^ 10) 0 wEcc,
    .preload 0 (2 ^ 1) wEcc, .preload 0 0 { wEcc with corrected := (2 ^ 16) }, .pipe (2 ^ 10) wEcc,
    .pipe 0 { wEcc with corrected := (2 ^ 16) }, .group (2 ^ 10) wEcc, .group 0 { wEcc with corrected := (2 ^ 16) },
    .topk (2 ^ 10) wEcc, .topk 0 { wEcc with corrected := (2 ^ 16) }, .link (2 ^ 10) wEcc,
    .link 0 { wEcc with corrected := (2 ^ 16) }, .check (2 ^ 10), .verdict (2 ^ 10) wEcc,
    .verdict 0 { wEcc with corrected := (2 ^ 16) }, .table (2 ^ 10) wEcc, .table 0 { wEcc with corrected := (2 ^ 16) },
    .tree (2 ^ 10) wEcc, .tree 0 { wEcc with corrected := (2 ^ 16) }, .load (2 ^ 10) wEcc none,
    .load 0 { wEcc with corrected := (2 ^ 16) } none, .load 0 wEcc (some (2 ^ 20)), .gather (2 ^ 10) wEcc none,
    .gather 0 { wEcc with corrected := (2 ^ 16) } none, .gather 0 wEcc (some (2 ^ 20)), .store (2 ^ 10) wEcc,
    .store 0 { wEcc with corrected := (2 ^ 16) }, .pending (2 ^ 10) wEcc, .pending 0 { wEcc with corrected := (2 ^ 16) },
    .stateIn (2 ^ 10) wEcc, .stateIn 0 { wEcc with corrected := (2 ^ 16) }, .stateRelease (2 ^ 10) wEcc,
    .stateRelease 0 { wEcc with corrected := (2 ^ 16) }, .reduce (2 ^ 10) wEcc, .reduce 0 { wEcc with corrected := (2 ^ 16) },
    .sync (2 ^ 10)] : List Instr).all (fun i => !i.wellFormed) = true := by decide +kernel

theorem test_wf_refuses_commands_6 : ([.wait (2 ^ 10), .mark (2 ^ 10), .quiesce (2 ^ 10), .reissue (2 ^ 1) 0, .reissue 0 (2 ^ 16), .tileRetirement (2 ^ 1),
    .rowRetirement (2 ^ 1) 0 0 0 0 0 false [], .rowRetirement 0 (2 ^ 2) 0 0 0 0 false [], .rowRetirement 0 0 (2 ^ 6) 0 0 0 false [],
    .rowRetirement 0 0 0 (2 ^ 6) 0 0 false [], .rowRetirement 0 0 0 0 (2 ^ 20) 0 false [], .rowRetirement 0 0 0 0 0 (2 ^ 8) false [],
    .rowRetirement 0 0 0 0 0 0 false [((2 ^ 5), 0)], .rowRetirement 0 0 0 0 0 0 false [(0, (2 ^ 48))], .landingLaneSparing (2 ^ 1) 0,
    .landingLaneSparing 0 (2 ^ 8), .patrolScrub (2 ^ 1) 0 0 false, .patrolScrub 0 (2 ^ 5) 0 false, .patrolScrub 0 0 (2 ^ 48) false,
    .wingRecovery (2 ^ 1), .hang [(2 ^ 32)] [], .hang [] [{ wWait with node := (2 ^ 32) }], .throttleStep (2 ^ 1) 0,
    .regulatorFault (2 ^ 7), .droop (2 ^ 1) 0, .droop 0 (2 ^ 11), .mantelWrite (2 ^ 2) 0 false false,
    .mantelWrite 0 (2 ^ 4) false false, .pmbusPoll [((2 ^ 3), wConverter)], .pmbusPoll [(0, { wConverter with vout := (2 ^ 16) })],
    .pmAlert false [((2 ^ 3), 0)], .pmAlert false [(0, (2 ^ 16))], .traceRecord (2 ^ 11), .stallRecord (2 ^ 11) 0 0 0 0 0 0,
    .stallRecord 0 (2 ^ 8) 0 0 0 0 0, .stallRecord 0 0 (2 ^ 8) 0 0 0 0, .stallRecord 0 0 0 (2 ^ 4) 0 0 0,
    .stallRecord 0 0 0 0 (2 ^ 12) 0 0, .stallRecord 0 0 0 0 0 (2 ^ 12) 0, .stallRecord 0 0 0 0 0 0 (2 ^ 16), .bounceStart (2 ^ 4),
    .endSession (2 ^ 4), .envelope (2 ^ 4) 0 [], .envelope 0 (2 ^ 24) [], .getCertificate (2 ^ 4) 0, .getCertificate 0 (2 ^ 1),
    .keyExchange (2 ^ 4) 0, .keyExchange 0 (2 ^ 1), .getMeasurements (2 ^ 4), .spdmRequest (2 ^ 4) 0, .spdmRequest 0 (2 ^ 8),
    .lockInterfaceRequest (2 ^ 4), .startInterfaceRequest (2 ^ 4), .tdispError (2 ^ 4), .ideKm (2 ^ 4) 0 none, .ideKm 0 (2 ^ 4) none,
    .boundaryScan (2 ^ 2), .scrubDrain (2 ^ 8), .scrubOnDie (2 ^ 8), .scrubDram (2 ^ 8)] : List Instr).all (fun i => !i.wellFormed) = true := by decide +kernel

theorem test_wf_refuses_commands_7 : ([.banisterConnect (2 ^ 8) false wPartnerInfo, .banisterConnect 0 false { wPartnerInfo with serial := (2 ^ 64) },
    .banisterFrame (2 ^ 3) [] false false [], .banisterFrame 0 [] false false [((2 ^ 32), (.heartbeat 0 0 false 0 0))],
    .banisterFrame 0 [] false false [(0, (.heartbeat (2 ^ 32) 0 false 0 0))], .resyncWalker (2 ^ 1) 0, .resyncWalker 0 (2 ^ 4),
    .resyncEnd (2 ^ 1) 0, .resyncEnd 0 (2 ^ 4), .offer (2 ^ 1) 0 wRelay, .offer 0 (2 ^ 64) wRelay,
    .offer 0 0 { wRelay with op := (2 ^ 8) }, .dtlsHandshake (some (2 ^ 64)) none, .dtlsHandshake none (some (2 ^ 64)),
    .commandRecord (2 ^ 3) none, .associationIdle (2 ^ 3), .bridgeFrame (2 ^ 1) [], .neighbourDiscovery (2 ^ 1) [],
    .backgroundClearEnd (2 ^ 4), .gateEntryChange (2 ^ 6), .refreshDoubled (2 ^ 3) false, .commandFetch (zeroBytes 63)] : List Instr).all (fun i => !i.wellFormed) = true := by decide +kernel

theorem test_wf_accepts_commands_0 : ([.configurationRequest, .perstNAssert, .perstNRelease, .functionLevelReset 0, .pcieLinkTrained 0 0, .resetN false 0,
    .railInRegulation .vstby33, .vin12DropOut .vstby33, .vstby33DropOut .vstby33, .romStage 0 false false 0 wApplyOutcome,
    .hearthStage false [] [], .dramStage false wApplyOutcome, .selfTest [] [], .settingsStage, .ready, .trialTimeout,
    .sysRefclkLoss false, .serdesRefclkLoss 0 false, .adminEnable 0 false, .adminReset 0 false, .stickyMirrorWrite 0 0,
    .registerWrite 0 0 0 false false, .sqTail 0 0 0 false, .cqHead 0 0 0 false, .commandFetch (zeroBytes 64), .startDeadlineExpiry 0,
    .fenceRelease 0, .interruptCoalesceTimeout 0, .vectorUnmask 0 0 false, .sessionOpen wCmdIn 0, .sessionClose wCmdIn,
    .ringCreate wCmdIn 0 .command 0 0 0 0 0 0 0, .ringDestroy wCmdIn 0, .ringReset wCmdIn 0,
    .partitionConfigure wCmdIn wConfigParams, .contextConfigure wCmdIn wConfigParams, .partitionRelease wCmdIn,
    .partitionQuery wCmdIn, .settingWrite wCmdIn 0 0 0 0, .settingRead wCmdIn 0 0 0, .ruleWrite wCmdIn 0 0 wRule,
    .ruleRead wCmdIn 0 0, .ruleBankArm wCmdIn 0, .ruleBankQuery wCmdIn, .bankSwap, .imageLoad wCmdIn 0 0 [],
    .imageLoadCheck 0 0 wLoadResult, .imageDiscard wCmdIn 0, .imageQuery wCmdIn, .epochArm wCmdIn 0 false 0 0, .epochCancel wCmdIn,
    .rolloutStart wCmdIn 0, .epochSwitch 0, .stagedFillStart 0, .fillWaveEnd 0, .epochRetirement 0, .tableLock wCmdIn 0 0 0,
    .tableRead wCmdIn 0 0 0 0 false, .tableWrite wCmdIn 0 0 0 [] false, .tableUnlock wCmdIn 0 0 0 false, .lockBreak 0 0,
    .tableOverflowRead wCmdIn 0 0 0, .tableOverflowDelete wCmdIn 0 0, .tableHash wCmdIn [],
    .tableShadowWrite wCmdIn 0 false 0 0 [] false] : List Instr).all Instr.wellFormed = true := by decide +kernel

theorem test_wf_accepts_commands_1 : ([.tableCompare wCmdIn 0 false false 0 0 0 0 0, .compareUnit 0, .compareDone 0, .reportRead wCmdIn 0 0 [] false,
    .reportReadSelect 0 0 [] false false, .reportReadTimeout 0 0, .reportReadCompat wCmdIn 0 [], .exportQueueStats wCmdIn 0 false,
    .gateListSet wCmdIn 0 [] 0, .gateListCancel wCmdIn 0, .timeConfig wCmdIn 0 0 0 0, .timeStatus wCmdIn, .counterRead wCmdIn 0 0,
    .snapshot wCmdIn false 0 0 0, .traceConfig wCmdIn 0 false 0 0 0, .traceRelease wCmdIn 0, .deviceIdentity wCmdIn,
    .healthStatus wCmdIn [], .mantelRead wCmdIn 0 0 0, .stickyRead wCmdIn, .stickyClear wCmdIn 0, .keyLoad wCmdIn 0 0 [],
    .previousKeyErase 0, .keyQuery wCmdIn, .updateBegin wCmdIn 0, .updateData wCmdIn 0 0 none, .updateTransferDone false,
    .updateEnd wCmdIn, .stagingClosed, .updateAbort wCmdIn, .updateStatus wCmdIn, .updateActivate wCmdIn false,
    .updateConfirm wCmdIn, .settingsSave wCmdIn, .settingsFlashWrite false, .pairSetup wCmdIn false, .pairRelease wCmdIn,
    .pairStatus wCmdIn, .pairSwitchover wCmdIn, .pairResync wCmdIn, .dumpTake wCmdIn 0 0 0 [], .dumpStatus wCmdIn,
    .waitforRead wCmdIn, .digest 0 0 [] false false 0 0, .controlReceive 0 [] false false 0 0, .foreignFrame 0 [] false false 0 0,
    .rxIpv6 0 [] false false 0 0, .laneDown 0, .linkUp 0, .controlFrameCredit 0, .controlFrameIdle 0, .creditResume, .parse,
    .dispatch, .quotaRelease 0 0, .batchClose 0 0 0 .main 0 wPlacement, .settleWait 0 0, .batchDescriptor 0 wEcc, .lookup 0 0 false,
    .inputState 0 0 false none, .readyToCommit 0 0, .commit 0 0, .squash 0 0, .squashDiscardComplete 0 0, .deadline] : List Instr).all Instr.wellFormed = true := by decide +kernel

theorem test_wf_accepts_commands_2 : ([.verdictArrival 0, .verdictFrame 0, .exportFrame 0, .shaperEligible 0, .payloadClose 0, .insertion 0, .backgroundClear 0 0 none,
    .epochWalk 0 0 none, .epochWalkEnd 0, .rolloutBatch 0 0 0 [], .rolloutRecord 0 0, .gateList 0, .pairTableApply 0,
    .pairInsertApply 0, .windowEdge 0 0, .ageSweep 0 0, .sweepOverrun 0 0, .interval1ms 0 [], .stateHash 0, .shaperSample,
    .snapshotCopy 0, .snapshotWindowSwap 0, .periodicSnapshot, .wingResume 0, .ppsInEdge 0, .todMessage [], .holdover, .ppsOut,
    .timeWrapNear, .recordPush 0 0, .reportNotifyTimeout 0 0, .mma 0 0 wEcc, .sel 0 0 wEcc, .dist 0 0 wEcc, .passComplete 0 0,
    .formChange 0 0, .rampUp 0 0, .rampDown 0 0, .swap 0 0 0, .tagHold 0 0, .tagMismatch 0 0, .feed 0 0 wEcc, .feedScale 0 0 wEcc,
    .feedCodebook 0 0 wEcc, .drain 0 0 wEcc, .preload 0 0 wEcc, .pipe 0 wEcc, .group 0 wEcc, .topk 0 wEcc, .link 0 wEcc, .check 0,
    .verdict 0 wEcc, .table 0 wEcc, .tree 0 wEcc, .load 0 wEcc none, .gather 0 wEcc none, .store 0 wEcc, .pending 0 wEcc,
    .stateIn 0 wEcc, .stateRelease 0 wEcc, .reduce 0 wEcc, .sync 0, .wait 0, .mark 0, .quiesce 0] : List Instr).all Instr.wellFormed = true := by decide +kernel

theorem test_wf_accepts_commands_3 : ([.reissue 0 0, .tileRetirement 0, .rowRetirement 0 0 0 0 0 0 false [], .landingLaneSparing 0 0, .patrolScrub 0 0 0 false,
    .wingRecovery 0, .hang [] [], .throttleStep 0 0, .thermtrip, .regulatorFault 0, .droop 0 0, .mantelWrite 0 0 false false,
    .pmbusPoll [], .pmAlert false [], .traceRecord 0, .stallRecord 0 0 0 0 0 0 0, .bounceStart 0, .endSession 0, .envelope 0 0 [],
    .getCertificate 0 0, .keyExchange 0 0, .getMeasurements 0, .spdmRequest 0 0, .lockInterfaceRequest 0, .startInterfaceRequest 0,
    .tdispError 0, .ideKm 0 0 none, .boundaryScan 0, .internalScan, .scrubDrain 0, .scrubOnDie 0, .scrubDram 0,
    .banisterConnect 0 false wPartnerInfo, .banisterFrame 0 [] false false [], .heartbeat, .resend, .partnerLost, .insert,
    .tableChange, .prepare, .vote, .voteTimeout, .commitMessage, .stateHashMessage, .resyncBegin, .resyncData, .blockRequest,
    .resyncWalker 0 0, .resyncEnd 0 0, .role, .release, .update, .relayOffer false false, .offer 0 0 wRelay,
    .dtlsHandshake none none, .commandRecord 0 none, .associationIdle 0, .bridgeFrame 0 [], .neighbourDiscovery 0 [],
    .backgroundClearEnd 0, .gateEntryChange 0, .refreshDoubled 0 false] : List Instr).all Instr.wellFormed = true := by decide +kernel

/-! ### States for the tests -/

/-- What a command leaves. -/
def after (i : Instr) (s : State) : State :=
  match exec i s with
  | .next t => t
  | _ => s

/-- The command's own operand: ring 0, a reply buffer of 64 KiB. -/
def c0 : CmdIn := { ring := 0, replyLen := 65536 }

/-- The device after its boot, at NT = 10 s. -/
def up : State := { State.reset with
  power := { State.reset.power with domainsOn := true }
  boot := { stage := .done, devState := 4, stageOne := true }
  time := { nt := 160000000000, state := .locked, everLocked := true }
  host := { perstN := true, linkUp := true } }

/-- A command of the PF, fetched now, with the parameter length of its opcode. -/
def cm (op part : Nat) : Cmd :=
  { hdr := { opcode := op, version := 1, fence := false, rsvAt := none, seqTag := 7, partition := part,
             paramLength := ((opInfo op).map (·.size)).getD 0, startDeadline := 0 },
    fn := 0, fetchNt := 160000000000, order := 0, started := false }

/-- Ring 0 of the PF holds the command; the PF's session has every feature of the device. -/
def held (s : State) (op part : Nat) : State := { s with host := { s.host with
  funcs := mput s.host.funcs 0 { s.func 0 with adminEnable := true, adminReady := true, session := true, enabled := 8191 }
  rings := mput s.host.rings 0 { fn := 0, localIx := 0, kind := .command, log2 := 6, sqBase := 0, cqBase := 0, vector := 1, coalCount := 0, coalTime := 0, drainSource := 0, running := some (cm op part) } } }

/-- An image of one model slot, which reads the packet's length and whose graphs are one COMBINE stage each, and a partition that
runs it in epoch 1. -/
def stage0 : StageCfg := { kind := .combine, batchSize := 1, batchWait := 1, readsFlow := false, readsState := false }

def slotCfg0 : SlotCfg := { tokenWidth := 4, flowBase := 4, featureWords := [0x1000001], main := [stage0], noFlow := [stage0], rollout := [], statLength := 1, sites := [], verdict := [], rolloutCfg := { enable := false, steps := 1, width := 1, queue := 0, priority := 0 } }

def img0 : Image := { slotMask := 1, halfFit := true, imageBytes := 4096, slots := [(0, slotCfg0)], windows := [(1000, 0), (1000, 0)] }

def part0 : Partition := { state := .active, quarters0 := 1, quarters1 := 1, blockUnits := 1, shareLog2 := 4, overflowQuota0 := 16, overflowQuota1 := 16, coalQuota0 := 8, coalQuota1 := 8, regionGib := 1, slot0 := { state := .running, image := some img0, resident := true, epoch := 1 }, epochs := [{ number := 1, switchNt := 0, slot := 0, staged := false, gap := 0 }] }

/-- Partition 0 is ACTIVE. -/
def act : State := { up with parts := [(0, part0)] }

/-- The command with parameters of zeros, where its entry holds them. -/
def cz (op part : Nat) : Cmd :=
  let n := ((opInfo op).map (·.size)).getD 0
  { cm op part with params := if n ≤ 32 then some (zeroBytes n) else none }

/-- The operand of a command whose parameters are zeros. -/
def k0 : CmdIn := { ring := 0 }

/-- The commands of every opcode for the PF of an IKF-4880 pass the checks of the header, and their rows name what their entries hold. -/
theorem witness_Ready :
    ([(0x0101, 255, .sessionOpen k0 0), (0x0102, 255, .sessionClose k0), (0x0103, 255, .ringCreate k0 0 .command 0 0 0 0 0 0 0),
      (0x0104, 255, .ringDestroy k0 0), (0x0105, 255, .ringReset k0 0), (0x0201, 0, .partitionConfigure k0 wConfigParams),
      (0x0203, 0, .partitionRelease k0), (0x0204, 0, .partitionQuery k0), (0x0205, 0, .settingWrite k0 0 0 0 0),
      (0x0206, 0, .settingRead k0 0 0 0), (0x0207, 255, .ruleWrite k0 0 0 wRule), (0x0208, 255, .ruleRead k0 0 0),
      (0x0209, 255, .ruleBankArm k0 0), (0x020A, 255, .ruleBankQuery k0), (0x0301, 0, .imageLoad k0 0 0 []),
      (0x0302, 0, .imageDiscard k0 0), (0x0303, 0, .imageQuery k0), (0x0304, 0, .epochArm k0 0 false 0 0),
      (0x0305, 0, .epochCancel k0), (0x0306, 0, .rolloutStart k0 0), (0x0401, 0, .tableLock k0 0 0 0),
      (0x0402, 0, .tableRead k0 0 0 0 0 false), (0x0403, 0, .tableWrite k0 0 0 0 [] false), (0x0404, 0, .tableUnlock k0 0 0 0 false),
      (0x0405, 0, .tableOverflowRead k0 0 0 0), (0x0406, 0, .tableOverflowDelete k0 0 0), (0x0407, 0, .tableHash k0 []),
      (0x0408, 0, .tableShadowWrite k0 0 false 0 0 [] false), (0x0409, 0, .tableCompare k0 0 false false 0 0 0 0 0),
      (0x0501, 0, .reportRead k0 0 0 [] false), (0x0502, 0, .reportReadCompat k0 0 []), (0x0503, 255, .exportQueueStats k0 0 false),
      (0x0504, 255, .gateListSet k0 0 [] 0), (0x0505, 255, .gateListCancel k0 0), (0x0601, 255, .timeConfig k0 0 0 0 0),
      (0x0602, 255, .timeStatus k0), (0x0701, 0, .counterRead k0 0 0), (0x0702, 255, .snapshot k0 false 0 0 0),
      (0x0703, 0, .traceConfig k0 0 false 0 0 0), (0x0704, 0, .traceRelease k0 0), (0x0801, 255, .deviceIdentity k0),
      (0x0802, 255, .healthStatus k0 []), (0x0803, 255, .mantelRead k0 0 0 0), (0x0804, 255, .stickyRead k0),
      (0x0805, 255, .stickyClear k0 0), (0x0901, 0, .keyLoad k0 0 0 []), (0x0902, 0, .keyQuery k0), (0x0A01, 255, .updateBegin k0 0),
      (0x0A02, 255, .updateData k0 0 0 none), (0x0A03, 255, .updateEnd k0), (0x0A04, 255, .updateAbort k0),
      (0x0A05, 255, .updateStatus k0), (0x0A06, 255, .updateActivate k0 false), (0x0A07, 255, .updateConfirm k0),
      (0x0A08, 255, .settingsSave k0), (0x0B01, 255, .pairSetup k0 false), (0x0B02, 255, .pairRelease k0),
      (0x0B03, 255, .pairStatus k0), (0x0B04, 255, .pairSwitchover k0), (0x0B05, 255, .pairResync k0),
      (0x0F01, 255, .dumpTake k0 0 0 0 []), (0x0F02, 255, .dumpStatus k0), (0x0F03, 255, .waitforRead k0)] : List (Nat × Nat × Instr)).all
      (fun x => decide (Ready x.1 x.2.2 k0 ((held act x.1 x.2.1).setCmd 0 (some (cz x.1 x.2.1))) (cz x.1 x.2.1))) = true := by decide +kernel

/-! ### Witnesses: the block, the path from digest to verdict, lanes, Porch, windows (chapters 02 to 05) -/

theorem witness_TablesAndMemory : Ascending ([(1, 2), (5, 3)] : Tab Nat) ∧ memWf [(3, 1#8), (9, 7#8)] = true := by decide +kernel

/-- A slot of 128 bytes whose head has 60 bytes of a packet of 100. -/
def slotBytes : Bytes := leBytes 4 0x11223344 ++ zeroBytes 2 ++ leBytes 2 100 ++ zeroBytes 10 ++ [60#8] ++ zeroBytes 109

def slot0 (lane : Nat) : Slot := { stamp := 159999000000, lane := lane, pos := 0, cost := 1, session := 1, at_ := 159999000000, data := slotBytes }

def pend0 (emitted : Bool) (d : Nat) : Pend := { id := 4, slot := slot0 47, partition := 0, flow := [1#8], answer := .model d none, emitted := emitted, epoch := 1, wing := 0 }

/-- Lane 47 is up, and packet 4 from it waits for its verdict. -/
def waiting (emitted : Bool) (d : Nat) : State := { act with
  hall := { act.hall with lanes := [(47, { up := true, session := 1, buf := [slot0 47] })], pends := [pend0 emitted d] }
  wing1 := { act.wing1 with returning := [{ id := 4, verdict := { tag := 5, action := 1, partition := 0, flags := 0, param := 0, cls := 0, score := 0 } }] } }

theorem witness_DeadlinePassed :
    let s := waiting false 160000000000; let e := pend0 false 160000000000
    s.hallFree = true ∧ s.hall.pends.find? (fun x => x.due s.nt) = some e ∧ e.answer = .model 160000000000 none ∧
    s.hall.pends.find? (fun x => x.id == e.id && !x.emitted) = some e ∧ FirstOfFlow s e ∧ LinkOf s e.slot ∧ e.partition < 16 ∧ e.slot.lane < 48 := by
  decide +kernel

theorem witness_VerdictArrives :
    (let s := waiting false 160000000001; let e := pend0 false 160000000001
     s.hallFree = true ∧ (s.wing 1).returning.length = 1 ∧ s.hall.pends.find? (fun y => y.id == 4) = some e ∧ e.answer = .model 160000000001 none ∧
     s.nt < 160000000001 ∧ e.emitted = false ∧ e.waits s.nt = false ∧ nextReady s.nt s.hall.pends [] = none ∧ FirstOfFlow s e ∧ LinkOf s e.slot) ∧
    (let s := waiting true 160000000000; let e := pend0 true 160000000000
     s.hallFree = true ∧ (s.wing 1).returning.length = 1 ∧ s.hall.pends.find? (fun y => y.id == 4) = some e ∧ e.answer = .model 160000000000 none ∧ e.emitted = true) := by
  decide +kernel

/-- A frame of the DLF type of a lane: version, type, entries, credits_consumed and the slots. -/
def dlf (lane ft count consumed : Nat) (body : Bytes) : Bytes :=
  zeroBytes 12 ++ beBytes 2 (up.dlfType lane) ++ [1#8, BitVec.ofNat 8 ft] ++ leBytes 2 3 ++ [BitVec.ofNat 8 lane, BitVec.ofNat 8 count] ++
    zeroBytes 2 ++ leBytes 2 consumed ++ zeroBytes 16 ++ body

/-- Lanes 0 and 47 are up, with a limit of 512 sent. -/
def linked : State := { act with hall := { act.hall with lanes :=
  [(0, { up := true, session := 1, limitSent := some 512 }), (47, { up := true, session := 1, limitSent := some 512 })] } }

/-- A DIGEST frame of one slot, and one of eight, the most that a frame holds. -/
theorem witness_DigestAccepted :
    (Arrives 0 16 (dlf 0 1 1 1 slotBytes) linked ∧ DigestPasses 0 (dlf 0 1 1 1 slotBytes) linked) ∧
    (let f := dlf 47 1 8 8 ((List.replicate 8 slotBytes).flatten)
     Arrives 47 0 f linked ∧ DigestPasses 47 f linked) ∧ (acceptedSlots (dlf 0 1 1 1 slotBytes)).length = 1 := by decide +kernel

/-- A count of 0 entries fails the form check, a limit passed fails the overrun check, and a credit count below the entries fails the
credit check; each frame fails one check alone. -/
theorem witness_FrameDiscarded :
    linked.receives 47 = true ∧
    (let f := dlf 47 1 0 1 slotBytes
     Arrives 47 longestDigest f linked ∧ leAt f 15 1 ≠ 3 ∧ frameFormatOk 47 1 f = false) ∧
    (let f := dlf 47 3 1 1 (zeroBytes 20)
     Arrives 47 longestDigest f linked ∧ leAt f 15 1 = 3 ∧ frameFormatOk 47 3 f = false) ∧
    (let f := dlf 47 1 1 513 slotBytes
     Arrives 47 longestDigest f linked ∧ frameFormatOk 47 1 f = true ∧ serialLt 512 (leAt f 22 2) = true) ∧
    (let f := dlf 47 3 0 513 (zeroBytes 20)
     Arrives 47 longestDigest f linked ∧ frameFormatOk 47 3 f = true ∧ serialLt 512 (leAt f 22 2) = true) ∧
    (let f := dlf 47 1 2 1 (slotBytes ++ slotBytes)
     Arrives 47 longestDigest f linked ∧ frameFormatOk 47 1 f = true ∧ serialLt 512 (leAt f 22 2) = false ∧ serialLt ((leAt f 22 2 + 65536 - (linked.lane 47).lastConsumed % 65536) % 65536) (leAt f 19 1 * (slotSize f / 128)) = true) := by
  decide +kernel

theorem witness_OtherFramesReceived :
    linked.receives 0 = true ∧ (let f := dlf 47 3 0 512 (zeroBytes 20)
     linked.receives 47 = true ∧ etherType f = linked.dlfType 47 ∧ frameFormatOk 47 3 f = true ∧ serialLt 512 (leAt f 22 2) = false) ∧
    (let f := zeroBytes 12 ++ beBytes 2 0x0800
     etherType f ≠ linked.dlfType 0 ∧ etherType f ≠ 0x86DD) ∧
    etherType (zeroBytes 12 ++ beBytes 2 0x86DD) = 0x86DD := by decide +kernel

theorem witness_LaneComesUp :
    let s : State := { act with settings := [(settingKey 0x2001 47 0, 1)] }
    47 < s.lanesN ∧ (s.lane 47).up = false ∧ s.setting 0x2001 47 0 = 1 ∧ s.time.state ≠ .unset ∧ s.time.stopped = false ∧ s.hallFree = true ∧
    s.power.serdesLost.contains (47 / 12) = false ∧ s.boot.stage = .done ∧ (∀ k ∈ (s.lane 47).buf, k.session ≤ (s.lane 47).session) := by
  decide +kernel

/-- A lane with a record; one whose limit changed 100 ns after its last frame; one with a CONTROL frame due; one idle for 10 us. -/
theorem witness_EgressFrames :
    let st : Lane → State := fun x => { act with hall := { act.hall with lanes := [(47, x)] } }
    (let s := st { up := true, verdicts := [{ tag := 5, action := 1, partition := 0, flags := 0, param := 0, cls := 0, score := 0 }] }
     s.receives 47 = true ∧ (s.lane 47).egressFree ≤ s.nt ∧ (s.lane 47).verdicts ≠ []) ∧
    (let s := st { up := true, lastTx := 160000000000 - 1600, limitSent := some 511 }
     (s.lane 47).verdicts = [] ∧ (s.lane 47).limitSent ≠ some (s.limitToSend 47) ∧ (s.lane 47).lastTx + 1600 ≤ s.nt) ∧
    (let s := st { up := true, lastTx := 160000000000, controlDue := true }
     (s.lane 47).verdicts = [] ∧ (s.lane 47).controlDue = true) ∧
    (let s := st { up := true, lastTx := 160000000000 - 160000, limitSent := some 512 }
     (s.lane 47).verdicts = [] ∧ (s.lane 47).lastTx + 160000 ≤ s.nt) := by decide +kernel

theorem witness_CreditsResume :
    let s : State := { linked with hall := { linked.hall with withheld := true } }
    s.hall.withheld = true ∧ (∀ n ∈ s.queueLengths, n ≤ 1024) := by decide +kernel

/-- A rule of partition 0 that matches every key. -/
def rule0 : Rule := { value := 0, mask := 0, result := 0x10#64 }

/-- At the lowest index of two that match. -/
theorem test_lowest_rule : ({ rules := [(3, rule0), (7, rule0)] } : RuleBank).lookup 0 [1#8] = some (3, rule0) := by decide +kernel

theorem witness_ParseUnclassified :
    let s := waiting true 160000000000; let k := slot0 47; let b := s.bankAt k.at_; let x := (s.parseCtx b k.at_ k.data).parse k.data
    s.anyQueueFull = false ∧ s.hallFree = true ∧ s.hall.tokens.length < 1280 ∧ s.nextSlot = some k ∧ k.lane < 48 ∧ (s.lane k.lane).up = true ∧
    (s.lane k.lane).session = k.session ∧ (s.bank b).lookup s.nt (x.key k.lane k.data) = none := by decide +kernel

theorem witness_RuleBanks :
    (∀ bank ∈ [0, 1], ∀ x ∈ [(0x0207, Instr.ruleWrite c0 bank 4095 rule0), (0x0208, .ruleRead c0 bank 4095), (0x0209, .ruleBankArm c0 160000000000), (0x020A, .ruleBankQuery c0)],
      let op := x.1; Ready op x.2 c0 (held act op 255) (cm op 255) ∧ Alone (held act op 255) ∧
      (held act op 255).time.state ≠ .unset ∧ (held act op 255).time.stopped = false ∧ rule0.partition < act.partsN ∧ rule0.keyMode ≤ 1 ∧
      bitsOf rule0.result.toNat 10 6 = 0 ∧ bitsOf rule0.result.toNat 32 32 = 0 ∧
      (∀ e ∈ keyReserved, bitsOf rule0.value.toNat (8 * e.1 + e.2.1) e.2.2 = 0) ∧ act.hall.armedSwap = none ∧
      (held act op 255).keyModeClash bank 4095 rule0 = false ∧ act.paired = false ∧ act.hall.activeBank ≤ 1 ∧ Room c0 272) ∧
    (let s : State := { act with hall := { act.hall with armedSwap := some 160000000000 } }
     s.hallFree = true ∧ 160000000000 ≤ s.nt ∧ s.hall.activeBank ≤ 1 ∧ s.hall.armedSwap ≠ none ∧ Ready 0x0209 (.ruleBankArm c0 160000000000) c0 (held s 0x0209 255) (cm 0x0209 255)) := by
  decide +kernel

/-- The instants of R542 at both ends of their range are taken, those next to them are not. -/
theorem test_bank_swap_lead :
    let s := held act 0x0209 255; let t := 160000000000 + 160000000; let u := 160000000000 + 86400 * 16000000000
    (after (.ruleBankArm c0 t) s).hall.armedSwap = some t ∧ (after (.ruleBankArm c0 u) s).hall.armedSwap = some u ∧
    (after (.ruleBankArm c0 (t - 1)) s).hall.armedSwap = none ∧ (after (.ruleBankArm c0 (u + 1)) s).hall.armedSwap = none := by decide +kernel

/-- The windows of 1 ms with phase 0: an instant on the grid opens its window. -/
theorem test_window_grid : windowIndex 1000 0 15999999 = 0 ∧ windowIndex 1000 0 16000000 = 1 ∧ windowIndex 1000 1 0 = -1 := by decide +kernel

/-- The epoch takes effect one unit after the start of window 9, and at its start. -/
theorem witness_PartitionWindowsCount :
    let cs := winAdd [] 7 9 100
    (9 : Int) ≠ 8 ∧ (6 : Nat) ≠ 7 ∧ (16000 * 3 : Nat) + (9 : Int) * (16000 * 5 : Nat) < (768001 : Nat) ∧
    ((768000 : Nat) : Int) ≤ (16000 * 3 : Nat) + (9 : Int) * (16000 * 5 : Nat) ∧
    winPrev cs 7 768001 5 3 9 = (0, 0) ∧ winPrev cs 7 768000 5 3 9 = (1, 100) := by decide +kernel

theorem witness_WindowEdgeRetires :
    let o : Occ := { instant := 160000000000, kind := 4, key := 0, periodic := true }
    let s := act.setQueue blkFeature [o]
    s.dead = false ∧ s.queueOf blkFeature = [o] ∧ o.instant ≤ s.nt ∧ (s.partOf 0).running = some { number := 1, switchNt := 0, slot := 0, staged := false, gap := 0 } ∧
    (s.partOf 0).image 0 = some img0 ∧ img0.window 0 = (1000, 0) := by decide +kernel

/-- The flow of a fragment in each state of its entry. -/
def frag0 : Frag := { v6 := false, src := zeroBytes 4, dst := zeroBytes 4, proto := 17, ident := 9, nonFirst := true, level := 0 }

def fragged (copy : Option FragCopy) : State :=
  let g := act.fragHash (frag0.key 0)
  act.setFrags (act.fragBank g) [(4 * (g % 4096) + 3, { key := frag0.key 0, expiry := 160000000000, first := 2, flow := .key [], copy := copy })]

theorem witness_FragmentAnswered :
    (∀ copy ∈ [some { action := 1, param := 2, cls := 3, flags := 65, score := 4 }, none], let s := fragged copy
      let g := s.fragHash (frag0.key 0); let b := s.fragBank g
      ((liveWay (s.frags b) (g % 4096) (slot0 47).at_ (frag0.key 0)).bind (fun w => mfind (s.frags b) (4 * (g % 4096) + w))).map (·.copy) = some copy ∧
      s.waitingFrags b < 2048) ∧
    (let g := act.fragHash (frag0.key 0); liveWay (act.frags (act.fragBank g)) (g % 4096) 0 (frag0.key 0) = none) := by decide +kernel

theorem witness_LaneGoesDown : 47 < 48 ∧ linked.receives 47 = true := by decide +kernel

/-! ### Witnesses: the flow table (chapter 06) -/

/-- Key number `n` of partition 0, and a valid entry that holds it. -/
def key0 (n : Nat) : Bytes := leBytes 48 (256 * n)
def ent0 (n : Nat) : FlowEntry := { valid := true, gen := 255, key := key0 n }
def pk0 (n : Nat) : PendKey := { key := key0 n, hash := 5, partition := 0, firstPort := 9, multi := true }

theorem witness_EntriesReadBack :
    (ent0 3).gen < 256 ∧ (ent0 3).firstPort < 65536 ∧ (ent0 3).cookie < 65536 ∧ (ent0 3).insertNt < 2 ^ 64 ∧ (ent0 3).key.length = 48 ∧
    storedKey (ent0 3).key = (ent0 3).key ∧ 1 < 2 ∧ 4194303 < 4194304 ∧ 3 < 4 ∧ 32767 < 32768 ∧ hBucket (handleOf 1 4194303 3) = 4194303 := by decide +kernel

/-- Partition 0 with `n` ways of bucket 5 taken on Wing 1, overflow index 0 taken or not, and key 7 pending. -/
def table (n : Nat) (ov : Bool) (quota : Nat) : State := { act with
  parts := [(0, { part0 with overflowQuota1 := quota })]
  wing1 := { act.wing1 with entries := (List.range n).map (fun i => (20 + i, ent0 (i + 1)))
                            overflow := if ov then [(0, ent0 6)] else [], coalescer := [pk0 7] } }

/-- A key that is new, one beyond the partition's quota, and one that is pending under another or the same port. -/
theorem witness_LearnNoticeEffects :
    let s := table 0 false 16; let t : State := { s with parts := [(0, { part0 with coalQuota1 := 1 })] }
    s.isStandby = false ∧ (∀ k ∈ (s.wing 1).coalescer, k.key ≠ key0 8) ∧
    ¬((s.partOf 0).coalQuota 1 ≤ ((s.wing 1).coalescer.filter (fun k => k.partition == 0)).length ∨ 4096 ≤ (s.wing 1).coalescer.length) ∧
    (t.partOf 0).coalQuota 1 ≤ ((t.wing 1).coalescer.filter (fun k => k.partition == 0)).length ∧
    (s.wing 1).coalescer.find? (fun k => k.key == key0 7) = some (pk0 7) ∧ (pk0 7).firstPort ≠ 10 ∧ { pk0 7 with multi := false }.multi = false ∧
    (pk0 7).firstPort = 9 := by decide +kernel

/-- The key is in the table already; way 3 is free; overflow index 0 or 1 is free; the quota is used up. -/
theorem witness_InsertionTakesLowestSlot :
    (let s : State := { table 4 false 16 with wing1 := { (table 4 false 16).wing1 with coalescer := [pk0 2] } }
     Inserts s 1 (pk0 2) 5 ∧ (s.findNow 1 5 (key0 2)).isSome = true) ∧
    (let s := table 3 false 16
     Inserts s 1 (pk0 7) 5 ∧ s.findNow 1 5 (key0 7) = none ∧ ((s.wing 1).entry 23).valid = false ∧ (∀ v ∈ List.range (3), ((s.wing 1).entry (20 + v)).valid = true)) ∧
    (∀ ov ∈ [false, true], let s := table 4 ov 16
     Inserts s 1 (pk0 7) 5 ∧ s.findNow 1 5 (key0 7) = none ∧ (∀ v ∈ List.range (4), ((s.wing 1).entry (20 + v)).valid = true) ∧
     (s.wing 1).ovUsed 0 < (s.partOf 0).overflowQuota 1 ∧ ((s.wing 1).ovEntry (b2n ov)).valid = false ∧ (∀ j ∈ List.range (b2n ov), ((s.wing 1).ovEntry j).valid = true)) ∧
    (let s := table 4 true 1
     Inserts s 1 (pk0 7) 5 ∧ s.findNow 1 5 (key0 7) = none ∧ (∀ v ∈ List.range (4), ((s.wing 1).entry (20 + v)).valid = true) ∧
     (s.partOf 0).overflowQuota 1 ≤ (s.wing 1).ovUsed 0) := by decide +kernel

/-- Bucket 15, the last of the share, is locked by owner 9, with a staging copy or without. -/
def lockedBy9 (staging : Option (List FlowEntry)) (grant : Nat) : State :=
  { act with wing1 := { act.wing1 with locks := [(15, { owner := 9, fn := 0, grant := grant, staging := staging })] } }

theorem witness_BucketLocks :
    (OnBucket 0x0401 (.tableLock c0 1 9 15) c0 (held act 0x0401 0) (cm 0x0401 0) 1 15 ∧ mfind act.wing1.locks 15 = none ∧ act.wing1.locks.length < 64) ∧
    (∀ x ∈ [(0x0401, Instr.tableLock c0 1 9 15), (0x0402, .tableRead c0 1 9 15 1 false), (0x0403, .tableWrite c0 1 9 15 [] true), (0x0404, .tableUnlock c0 1 9 15 true)],
      ∀ st ∈ [none, some (List.replicate 4 ({} : FlowEntry)), some (List.replicate 4 (ent0 1))],
      let op := x.1; let s := held (lockedBy9 st 159999999999) op 0
      OnBucket op x.2 c0 s (cm op 0) 1 15 ∧ LockedBy s 1 15 9 { owner := 9, fn := 0, grant := 159999999999, staging := st } ∧
      DataHere c0 s (cm op 0) 256 (fun d => d == []) ∧ Room c0 (bucketBytes ((s.wing 1).bucket 15) ((s.wing 1).lockWord 15)).length) ∧
    (let s := lockedBy9 none 0
     s.checkStaging 1 0 15 (List.replicate 4 {}) = none ∧ (s.checkStaging 1 0 15 (List.replicate 4 (ent0 1))).isSome = true) := by decide +kernel

theorem witness_LockBreaks :
    let s := lockedBy9 (some []) (160000000000 - 800000)
    Ascending (s.wing 1).locks ∧ s.wingFree 1 = true ∧ mfind (s.wing 1).locks 15 = some { owner := 9, fn := 0, grant := 159999200000, staging := some [] } ∧
    159999200000 + 800000 ≤ s.nt := by decide +kernel

/-- The last index and bucket of each range; a compare that has a bucket left, one at its end, one with the overflow area left to skip. -/
theorem witness_OverflowShadowCompare :
    (∀ x ∈ [(0x0405, Instr.tableOverflowRead c0 1 32767 1), (0x0406, .tableOverflowDelete c0 (ovHandle 1 32767) 255), (0x0407, .tableHash c0 (key0 1)),
      (0x0408, .tableShadowWrite c0 1 false 14 2 (zeroBytes 512) true), (0x0409, .tableCompare c0 1 true true 2 3 0 15 1)],
      let op := x.1; let s := held { act with wing1 := { act.wing1 with overflow := [(32767, ent0 1)] } } op 0
      Ready op x.2 c0 s (cm op 0) ∧ DataHere c0 s (cm op 0) (256 * 2) (fun d => d == zeroBytes 512) ∧ 1 < s.wings ∧ s.wingFree 1 = true ∧ s.paired = false ∧ (s.entryAt (ovHandle 1 32767)).valid = true ∧
      (s.entryAt (ovHandle 1 32767)).gen = 255 ∧ (s.entryAt (ovHandle 1 32767)).partition = 0 ∧ memWf ((s.wing 1).region 0) = true ∧
      (s.partOf 0).ownsBucket 1 0 = true ∧ (s.partOf 0).ownsBucket 1 15 = true ∧ (s.partOf 0).ownsBucket 1 (14 + 2 - 1) = true ∧ (s.wing 1).compare = none ∧
      leAt (key0 1) 0 1 % 16 = (cm op 0).hdr.partition ∧ ((keyFaults (key0 1) 16).all (fun x => !x.1)) = true ∧
      Room c0 ((List.range 1).flatMap (fun i => ((s.wing 1).ovSeen 0 (32767 + i)).bytes 0)).length) ∧
    (∀ k ∈ [startedCompare 0 15 15 1 2 3 true true, startedCompare 0 16 15 1 2 3 false true], let s := act.setWing 1 { act.wing1 with compare := some k }
      s.wingFree 1 = true ∧ (s.wing 1).compare = some k ∧ (k.next ≤ k.last ∨ (k.last < k.next ∧ (k.overflow = false ∨ 32768 ≤ k.ovNext)))) ∧
    Ready 0x0409 (.tableCompare c0 1 true true 2 3 15 15 1) c0 (held (act.setWing 1 { act.wing1 with compare := some (startedCompare 0 15 15 1 2 3 true true) }) 0x0409 0) (cm 0x0409 0) := by decide +kernel

theorem witness_SweepAgesEntries :
    let o : Occ := { instant := 160000000000, kind := 5, key := 0, periodic := true }
    let s := act.setQueue 4 [o]
    (s.dead = false ∧ s.blkStopped 4 = false ∧ mfind (s.wing 1).sweeps 0 = none ∧ s.queueOf 4 = [o] ∧ o.instant ≤ s.nt ∧ (s.partOf 0).state = .active) ∧
    (∀ st ∈ ([[], [(15, { owner := 9, fn := 0, grant := 0 })]] : List (Tab Lock)),
      let u : State := { act with wing1 := { act.wing1 with sweeps := [(0, { next := 15, waiting := false })], locks := st } }
      u.wingFree 1 = true ∧ u.paired = false ∧ (mfind (u.wing 1).sweeps 0).map (·.next) = some 15 ∧ 15 < 2 ^ (u.partOf 0).shareLog2 ∧
      (u.partOf 0).shareBase 1 + 15 < 4194304 ∧ ((mfind (u.wing 1).locks 15).isSome = !st.isEmpty)) ∧
    (let u : State := { s with wing1 := { act.wing1 with sweeps := [(0, { next := 3, waiting := false })] } }
     u.dead = false ∧ u.blkStopped 4 = false ∧ mfind (u.wing 1).sweeps 0 = some { next := 3, waiting := false } ∧ u.queueOf 4 = [o]) := by decide +kernel

/-- R236: an entry that is neither hit nor in flight is marked at one visit and removed at the next. -/
theorem test_sweep_removes_at_second_visit :
    let u : State := { act with wing1 := { act.wing1 with entries := [(60, ent0 1)], sweeps := [(0, { next := 15, waiting := false })] } }
    let v := after (.ageSweep 1 0) u
    (v.entryAt (handleOf 1 15 0)).aged = true ∧ (v.entryAt (handleOf 1 15 0)).valid = true ∧
    (after (.ageSweep 1 0) { v with wing1 := { v.wing1 with sweeps := [(0, { next := 15, waiting := false })] } } |>.entryAt (handleOf 1 15 0)).valid = false := by
  decide +kernel

/-- R11, R12, Table 06-1: key mode 2 is reserved, and so are bytes 0x06 and 0x0C. -/
theorem test_hash_key_reserved :
    paramFault none none (keyFaults (leBytes 48 0x20) 16) = some 0x10 ∧ paramFault none none (keyFaults (leBytes 48 (256 ^ 12)) 16) = some 0x1C ∧
    paramFault none none (keyFaults (leBytes 48 0x5F) 16) = none := by decide +kernel

/-! ### Witnesses: in-flight flows (chapter 07) -/

/-- Packet 12 of partition 0; its flow's home is Wing 0. -/
def pkt0 : Packet := { id := 12, slot := slot0 0, partition := 0, modelSlot := 0, key := key0 1, hash := 5, epoch := 1, imageSlot := 0, token := List.replicate 4 0, trueLen := 100, malformed := false, ruleTag := 0 }

def stair0 : Stair := { index := 3, pkt := pkt0, pred := none, since := 0 }

def verdict0 : PendVerdict := { action := 1, param := 2, cls := 3, score := 4, flags := 0, band := 0, rollout := false, batch := 1 }

/-- Wing 0 with the given entries of its Stairwell. -/
def inFlight (ys : List Stair) : State := { act with wing0 := { act.wing0 with stairs := ys } }

/-- A token that is admitted; one whose partition has its last entry in use, with the last place of the queue free and not; one that
waits in its queue. -/
theorem witness_PacketsAreAdmitted :
    (let s : State := { act with hall := { act.hall with tokens := [pkt0] } }
     s.wingFree 0 = true ∧ s.homeWing pkt0.hash = 0 ∧ (s.wing 0).queue 0 = [] ∧ s.canAdmit 0 pkt0 = true) ∧
    (∀ n ∈ [3327, 3328], let s : State := { act with part := .ikf4840_12, hall := { act.hall with tokens := [pkt0] }, parts := [(0, { part0 with stairQuota := 1 })]
                                                     wing0 := { act.wing0 with stairs := [stair0], queues := [(0, List.replicate n pkt0)] } }
     s.hallFree = true ∧ s.homeWing pkt0.hash = 0 ∧ s.canAdmit 0 pkt0 = false ∧ ((s.wing 0).queue 0).length = n) ∧
    (let s : State := { act with wing0 := { act.wing0 with queues := [(0, [pkt0])] } }
     s.wingFree 0 = true ∧ (s.wing 0).queue 0 = [pkt0] ∧ s.canAdmit 0 pkt0 = true) := by decide +kernel

/-- An entry inserted at the packet's stamp is seen, one inserted an NT unit later is not. -/
theorem witness_LookupDecides :
    (∀ nt ∈ [159999000000, 159999000001], let s : State := { inFlight [stair0] with wing0 := { stairs := [stair0], entries := [(20, { ent0 1 with insertNt := nt })] } }
      StairReady s 0 3 stair0 .admitted ∧ stair0.choice = none ∧
      ((s.findFor 0 ((s.partOf 0).bucketOf 0 5) 159999000000 (key0 1)).map (fun e => decide (e.2.insertNt ≤ 159999000000))) = some (decide (nt = 159999000000))) ∧
    (let s := inFlight [stair0]
     StairReady s 0 3 stair0 .admitted ∧ s.findFor 0 ((s.partOf 0).bucketOf 0 5) 159999000000 (key0 1) = none) := by decide +kernel

def waits : Stair := { stair0 with state := .waitState, lookup := 0, handle := 20, gen := 255 }

/-- No producer, with the block in the cache and not; a predecessor that takes part, and one whose lookup is not known. -/
theorem witness_InputStateChosen :
    (∀ c ∈ [[], [(0, [20])]], let s : State := { act with wing0 := { stairs := [waits], cache := c } }
      s.isStandby = false ∧ (s.wing 0).producer 20 255 1 none = .none_ ∧ (mget [] (s.wing 0).cache 0).contains 20 = !c.isEmpty) ∧
    (let a : Stair := { waits with index := 1, pkt := { pkt0 with id := 11 }, state := .step }
     let x : Stair := { waits with pred := some 11 }; (inFlight [a, x]).wing0.producer 20 255 2 (some 11) = .from_ a) ∧
    (let a : Stair := { stair0 with index := 1, pkt := { pkt0 with id := 11 } }
     let x : Stair := { waits with pred := some 11 }; (inFlight [a, x]).wing0.producer 20 255 2 (some 11) = .wait a) := by decide +kernel

/-- Each choice, with the producer's state released, not released, and handed over at the producer's commit. -/
theorem witness_InputStateChosen_delivers :
    (∀ c ∈ [none, some .cache, some .larder], let x : Stair := { waits with choice := c }; let s : State := { act with wing0 := { stairs := [x], cache := [(0, [7])] } }
      StairReady s 0 3 x .waitState ∧ (s.modelOf pkt0).isSome = true ∧ s.blockBad 0 20 = false ∧ 0 < s.cacheRoom 0 0) ∧
    (∀ r ∈ [true, false], let a : Stair := { waits with index := 1, pkt := { pkt0 with id := 11 }, state := .step, newState := some [1#8], released := r }
     let x : Stair := { waits with pred := some 11, choice := some (.forwarded 11) }; let s := inFlight [a, x]
     StairReady s 0 3 x .waitState ∧ (s.wing 0).stairOf 11 = some a ∧ x.forward = none) ∧
    (let x : Stair := { waits with choice := some (.forwarded 11), forward := some [1#8] }
     StairReady (inFlight [x]) 0 3 x .waitState) := by decide +kernel

/-- A squash with a packet that used its state, a finished discard, and entries whose last stage is complete. -/
theorem witness_SquashAndReady :
    (let x : Stair := { waits with state := .step, squash := some 2 }; let z : Stair := { stair0 with index := 4, pkt := { pkt0 with id := 13 }, from_ := some 12 }
     let y : Stair := { waits with index := 5, pkt := { pkt0 with id := 14 }, choice := some (.forwarded 12) }; let s := inFlight [x, z, y]
     (s.wing 0).stair 3 = some x ∧ s.wingFree 0 = true ∧ x.state ≠ .squashed ∧ x.abandoned = false ∧ x.from_ ≠ some x.pkt.id ∧ z ∈ (s.wing 0).stairs ∧
     z.index ≠ 3 ∧ z.squash = none ∧ z.state ≠ .squashed ∧ y ∈ (s.wing 0).stairs ∧ y.from_ ≠ some 12) ∧
    (let x : Stair := { stair0 with state := .squashed }; let s := inFlight [x]
     (s.wing 0).stair 3 = some x ∧ s.wingFree 0 = true) ∧
    (∀ x ∈ [{ waits with state := .step, stage := 1, released := true, verdict := some verdict0 }, { waits with state := .noFlow, stage := 1, verdict := some verdict0 }],
      let s := inFlight [x]
      (s.wing 0).stair 3 = some x ∧ s.wingFree 0 = true ∧ ((s.modelOf x.pkt).map (fun m => (m.2.main.length, m.2.noFlow.length))) = some (1, 1) ∧
      x.squash = none ∧ x.batch = none ∧ x.verdict.isSome = true) := by decide +kernel

/-- A packet whose flow has an entry and whose predecessor has gone, and one whose predecessor is still there. -/
theorem witness_CommitWrites :
    (let x : Stair := { waits with state := .ready, verdict := some verdict0, newState := some (zeroBytes part0.blockBytes), pred := some 11 }
     let s : State := { inFlight [x] with wing0 := { stairs := [x], entries := [(20, ent0 1)] } }
     StairReady s 0 3 x .ready ∧ s.commitWhole 0 x = true ∧ (s.wing 0).stairOf 11 = none ∧ x.lookup = 0 ∧ hWing x.handle = 0 ∧ memWf ((s.wing 0).region 0) = true ∧
     memWf (s.wing 0).overflowLarder = true ∧ (s.entryAt 20).valid = true ∧ (s.entryAt 20).gen = x.gen ∧ mfind (s.wing 0).locks (hBucket 20) = none) ∧
    (let x : Stair := { waits with state := .ready, verdict := some verdict0, pred := some 11 }
     let s := inFlight [{ stair0 with index := 1, pkt := { pkt0 with id := 11 } }, x]
     StairReady s 0 3 x .ready ∧ (s.wing 0).stairOf 11 ≠ none) ∧
    (let x : Stair := { stair0 with state := .ready, lookup := 1, verdict := some verdict0 }
     StairReady (inFlight [x]) 0 3 x .ready ∧ (inFlight [x]).commitWhole 0 x = true ∧ x.lookup ≠ 0) ∧
    (let x : Stair := { stair0 with state := .ready, verdict := some verdict0, counts := [(Ctr.tileOverflow 512, 1)] }
     let s := (inFlight [x]).setQueue (blkCellar 1) [{ instant := 160000000000, kind := 1, key := 0, periodic := false }]
     StairReady s 0 3 x .ready ∧ s.commitWhole 0 x = false) := by decide +kernel

/-! ### Witnesses: the tile (chapters 08 to 12) -/

/-- A batch of one row on tile 0 (Wing 0), issued once. -/
def tb : Batch := { partition := 0, modelSlot := 0, imageSlot := 0, epoch := 1, graph := .main, stage := 0, rows := [.packet 12], place := { tiles := [0], entry := 0, bases := [], tokenAt := 0 }, stat := 0, sent := true, issues := 1 }

def word0 (op : TileOp) : TileWord := { waitEn := 0, waitTok := 0, sigEn := 1, sigTok := 15, trace := 0, last := 1, layer := 4095, opId := 4095, op := op }

def q0 (op : TileOp) : Issued := { word := word0 op, batch := 1, wide := false, bases := List.replicate 8 0 }

/-- Batch 1 runs on tile 0. -/
def tiled (t : Tile) : State := { inFlight [{ waits with state := .step, batch := some 1, input := some (zeroBytes part0.blockBytes) }] with
  wing0 := { (inFlight [{ waits with state := .step, batch := some 1, input := some (zeroBytes part0.blockBytes) }]).wing0 with batches := [(1, tb)] }
  tiles := [(0, { t with cur := some 1 })] }

/-- The word heads the queue of engine `e` of tile 0. -/
def engine (e : Nat) (op : TileOp) (t : Tile) : State := tiled { t with queues := [(e, [q0 op])] }

/-- Words of the first and last opcode, with every field at its bounds. -/
theorem witness_TileWordsReadBack :
    ([word0 (.mma { array := 1, form := 4, mode := 0, kMinus1 := 65535, aHalf := 1, aOffset := 255, bHalf := 1, bOffset := 511, aFmt := 0, aCb := 3, bFmt := 0, bCb := 3, aZero := 0, aRelease := 1, bRelease := 1 }),
      word0 (.wait 15 255), word0 (.mark 4294967295), word0 (.reduce { slot0 := 1048575, stride := 4095, countMinus1 := 14, length := 4095, dst := 1048575, arriveTok := 15 })].all
      (fun t => t.spelt && decide (t.bits < 2 ^ 128) && readWord t.bits == some t)) = true := by decide +kernel

theorem witness_TokensWaitAndSignal :
    (∀ tok ∈ [[], [(3, 255)]], ∀ op ∈ [TileOp.wait 3 255, .mark 2147483648], let s := tiled { tokens := tok, seqWord := some (q0 op) }
      (s.tile 0).seqWord = some (q0 op) ∧ s.batchOf 1 = some tb ∧ s.tileRuns 0 = true ∧ s.tokenReady 0 0 (q0 op) = true ∧
      decide (255 ≤ ((s.begun 0 (q0 op)).tile 0).token 3) = !tok.isEmpty) ∧
    (let q : Issued := { q0 (.mark 1) with word := { word0 (.mark 1) with waitEn := 1, waitTok := 15 } }
     let s := tiled { queues := [(8, [q])] }
     ((s.tile 0).queue 8).head? = some q ∧ q.started = false ∧ s.tokenReady 0 8 q = false) ∧
    (let q : Issued := { q0 (.mark 1) with word := { word0 (.mark 1) with waitEn := 1, waitTok := 15 } }
     let s := tiled { queues := [(7, [q]), (8, [q])], tokens := [(15, 1)] }
     (s.tile 0).nextWord 7 = some q ∧ q.word.waitEn ≠ 0 ∧ q.demand 15 = (s.tile 0).spare 15 7 ∧ s.tokenReady 0 7 q = true ∧ s.tokenReady 0 8 q = false) ∧
    (∀ t ∈ [0, 127], let x : SyncOp := { targetKind := 0, tok := 15, increment := 255, wing := 0, gallery := 0, tile := t }; let s := engine 8 (.sync x) {}
      Runs s 0 8 (q0 (.sync x)) tb ∧ ((∀ j ∈ s.syncTargets 0 tb x, s.ownsTile 0 j = true) ↔ t = 0)) := by decide +kernel

/-- A control set whose window 15 is the last 64 bytes of the region, and one that reaches beyond it. -/
def windowed (t : Tile) : Tile := { t with ctl0 := some { epoch := some 1, base := 0, entries := [], wide := [(4095, 77)], scaleBlock := 0, sites := [], groups := [], windows := List.replicate 15 { base := 1073741824, size := 64 } ++ [{ base := 1073741760, size := 64 }] } }

def move (kind length remote : Nat) : MoveOp := { kind := kind, localRef := 0, length := length, remote := remote }

theorem witness_MovesAreExact :
    (∀ m ∈ [move 0 1 0, move 0 1 65535, { move 0 65535 0 with localRef := 1048568 }, move 1 1 15, move 1 2 15, move 2 1 15], let s := engine 8 (.load m) (windowed {})
      Runs s 0 8 (q0 (.load m)) tb ∧ (InTile s 0 0 ((q0 (.load m)).ref m.localRef) (64 * m.length) ↔ m.localRef = 0) ∧ s.lockedAt 0 0 64 = false ∧
      s.window 0 tb 15 = { base := 1073741760, size := 64 } ∧ (s.partOf 0).regionBytes = 1073741824 ∧ s.poisonedAt 0 0 1073741760 64 = none ∧
      InWindow s tb (s.window 0 tb 15) 0 64 ∧ (m.length = 2 → 64 < 64 * bitsOf m.remote 4 32 + 64 * m.length)) ∧
    (let s := engine 8 (.load (move 0 1 0)) {}
     s.ownsTile 0 (move 0 1 0).remoteTile = true ∧ InTile s (move 0 1 0).remoteTile 0 (move 0 1 0).remoteAt 64 ∧ s.ownsTile 0 (move 0 1 65535).remoteTile = false) ∧
    (∀ l ∈ [[], [{ lo := 0, hi := 64, packet := 12 }]], ∀ m ∈ [move 0 1 0, move 1 1 15, move 3 1 0],
      let s := engine 8 (.store m) (windowed { locks := l, mem := [(0, 128#8), (1, 1#8)] })
      Runs s 0 8 (q0 (.store m)) tb ∧ InTile s 0 0 ((q0 (.store m)).ref m.localRef) 64 ∧ s.lockedAt 0 0 64 = !l.isEmpty ∧
      s.ownsTile 0 0 = true ∧ InWindow s tb (s.window 0 tb 15) 0 64 ∧ (s.rowStair 0 1 tb 0).isSome = true ∧ leAt (s.tileRead 0 0 64) 0 1 = 128 ∧
      leAt (s.tileRead 0 0 64) 1 1 % 128 = 1) := by decide +kernel

/-- Sixteen ascending bf16 elements with +0 among them. -/
def book0 : Bytes := ((0 : Nat) :: (List.range 15).map (fun i => 0x3F80 + 128 * i)).flatMap (leBytes 2)

def feed0 (target : Nat) : FeedOp := { array := 1, target := target, half := 1, cbSlot := 3, src := 0, length := 1, tag := 255, cbSize := 0 }

def pass0 : PassOp := { array := 1, form := 4, mode := 0, kMinus1 := 0, aHalf := 0, aOffset := 0, bHalf := 0, bOffset := 0, aFmt := 0, aCb := 3, bFmt := 0, bCb := 3, aZero := 0, aRelease := 1, bRelease := 1 }

/-- A pass that uses codebook slot 3 of each side, and the scale set of its number. -/
def live0 (n : Nat) (held : Bool) : Pass := { n := n, issued := q0 (.mma { pass0 with aFmt := 1 }), op := { pass0 with aFmt := 1 }, opcode := 0x10, k := 1, acc := [], aHalf := 0, aPos := 0, bHalf := 0, bPos := 0, compared := 1, held := held }

/-- A window over the Larder of the partition. -/
theorem witness_MovesAreExact_larder :
    let d : DramWindow := { base := 64, size := 64 }; let m := move 1 1 1
    let s := engine 8 (.load m) { ctl0 := some { epoch := some 1, base := 0, entries := [], wide := [], scaleBlock := 0, sites := [], groups := [], windows := [{ base := 0, size := 0 }, d] } }
    Runs s 0 8 (q0 (.load m)) tb ∧ s.window 0 tb 1 = d ∧ InTile s 0 0 0 64 ∧ d.base + d.size ≤ (s.partOf 0).regionBytes ∧ 0 + 64 ≤ d.size ∧
    (s.partOf 0).inLarder (d.base + 0) 64 = true := by decide +kernel

/-- The halves EMPTY or FULL, the sets and codebooks free or in use, and a codebook that passes its check or not. -/
theorem witness_FeedsFillHalves :
    (∀ f ∈ [feed0 0, feed0 1, feed0 2, feed0 3, feed0 4], ∀ busy ∈ [false, true], ∀ mem ∈ [[], memWrite [] 0 book0],
      let x : MatArray := { parked := false, form := 4, a1 := { full := busy }, b1 := { full := busy }, live := if busy then [live0 0 false, live0 1 false] else [], passes := if busy then 2 else 0 }
      let s := engine 2 (.feed f) { arr1 := x, mem := mem }
      Runs s 0 (1 + f.array) (q0 (.feed f)) tb ∧ InTile s 0 0 ((q0 (.feed f)).ref f.src) 64 ∧ (((s.tile 0).arr 1).aHalf 1).full = busy ∧
      (((s.tile 0).arr 1).bHalf 1).full = busy ∧ x.setInUse x.nextPass = busy ∧ x.usesCodebook true 3 = busy ∧ x.usesCodebook false 3 = busy ∧
      codebookOk (f.target == 3) ((elements 16 (s.tileRead 0 0 32)).map (BitVec.ofNat 16)) = !mem.isEmpty) := by decide +kernel

/-- Array 1 active in form 4, with its preload and the operands of step 0. -/
def fed1 : MatArray := { parked := false, form := 4, pre := [(0, [0])], a0 := { full := true }, b0 := { full := true } }

theorem witness_PassesStart :
    (∀ op ∈ [TileOp.mma pass0, .sel pass0, .dist pass0], let s := engine 4 op { arr1 := fed1 }
      PassStarts s 0 1 (q0 op) tb pass0 [0] ∧ fed1.badCodebook 0x10 pass0 = false ∧ fed1.badCodebook 0x11 pass0 = false ∧ fed1.badCodebook 0x12 pass0 = false) ∧
    (let p : PassOp := { pass0 with bFmt := 1 }; let s := engine 4 (.mma p) { arr1 := fed1 }
     PassStarts s 0 1 (q0 (.mma p)) tb p [0] ∧ fed1.badCodebook 0x10 p = true) ∧
    (let x : MatArray := { form := 0, parked := true }; let s := engine 4 (.mma pass0) { arr1 := x }
     Runs s 0 4 (q0 (.mma pass0)) tb ∧ s.tokenReady 0 4 (q0 (.mma pass0)) = true ∧ x.form ≠ pass0.form ∧ x.live = [] ∧ x.parked = true) ∧
    (∀ done ∈ [true, false], let s := tiled { arr1 := { parked := false, live := [{ live0 0 false with completed := done }] } }
     ((s.tile 0).arr 1).parked = false ∧ (s.tile 0).queue 4 = [] ∧ s.wingFree 0 = true ∧ ((s.tile 0).arr 1).live.all (·.completed) = done) := by decide +kernel

theorem witness_PassesComputeCells :
    ∀ op ∈ [TileOp.mma pass0, .sel pass0, .dist pass0], let x : MatArray := { form := 4, a0 := { full := true }, b0 := { full := true } }
      Fed x pass0 ∧ (List.replicate (formRows 4 * formCols 4) (0#32)).length = formRows pass0.form * formCols pass0.form ∧
      ((q0 op).word.op = .mma pass0 ∨ (q0 op).word.op = .dist pass0 ∨ (q0 op).word.op = .sel pass0) := by decide +kernel

def res0 (n : Nat) : Result := { n := n, rows := 1, cols := 1, vals := [0x3F800000#32] }

def drain0 (sub source : Nat) : DrainOp := { array := 1, subOp := sub, source := source, src := 0 }

/-- A pass whose last step is read, alone and behind one that has not left its banks. -/
theorem witness_ResultsMoveOut_complete :
    (let x : MatArray := { live := [live0 1 false], passes := 2 }; let s := tiled { arr1 := x }
     x.live.find? (fun y => !y.completed) = some (live0 1 false) ∧ s.batchOf 1 = some tb ∧ tb.graph ≠ .rollout ∧ s.tileRuns 0 = true ∧ (live0 1 false).op.k ≤ (live0 1 false).k) ∧
    (let x : MatArray := { live := [{ live0 0 false with completed := true }, live0 2 false], passes := 3 }; let s := tiled { arr1 := x }
     x.live.find? (fun y => !y.completed) = some (live0 2 false) ∧ s.batchOf 1 = some tb ∧ s.tileRuns 0 = true ∧ x.left 0 = false) := by decide +kernel

/-- Column 3 of a pass: its lane empty, and with the pass before still in it. -/
theorem witness_ResultsMoveOut_swap :
    ∀ e ∈ [([], true), ([{ live0 0 false with completed := true, swapped := 9, shifted := 4 }], true), ([{ live0 0 false with completed := true, swapped := 9, shifted := 3 }], false)],
      let p : Pass := { live0 1 false with swapped := 3, completed := true }; let x : MatArray := { live := e.1 ++ [p], passes := 2 }; let s := tiled { arr1 := x }
      x.swapping 3 = some p ∧ s.tileRuns 0 = true ∧ x.swapReady p 3 = e.2 ∧ (s.tile 0).queue (drainEngine 1) = [] := by decide +kernel

/-- A pass that has swapped whole and one that has not, with the buffer read and not. -/
theorem witness_ResultsMoveOut_drain :
    ∀ read ∈ [true, false], ∀ sw ∈ [formCols 4, 5], let p : Pass := { live0 0 false with completed := true, swapped := sw }
      let x : MatArray := { live := [p], passes := 1, bufRead := read }; let q := q0 (.drain (drain0 0 0)); let s := engine 6 (.drain (drain0 0 0)) { arr1 := x }
      (s.tile 0).queue (drainEngine 1) = [q] ∧ Runs s 0 (drainEngine 1) q tb ∧ s.tokenReady 0 (drainEngine 1) q = true ∧
      (∀ z ∈ (s.tile 0).queue (drainEngine 1), z.started = false ∧ z.done = false) ∧ x.pass x.drains = some p ∧
      (formCols p.op.form ≤ p.swapped ↔ sw = formCols 4) := by decide +kernel

/-- The first preload, one whose lane is empty, and one whose lane the preload before still holds. -/
theorem witness_ResultsMoveOut_preload :
    ∀ src ∈ [0, 1, 2], ∀ n ∈ [0, 1, 3], let x : MatArray := { form := 4, preloads := n, passes := if n = 3 then 1 else 0, live := if n = 3 then [live0 0 false] else [] }
      let q := q0 (.drain (drain0 1 src)); let s := engine 6 (.drain (drain0 1 src)) { arr1 := x }
      Runs s 0 (drainEngine 1) q tb ∧ s.tokenReady 0 (drainEngine 1) q = true ∧ s.preloadForm 0 1 x.preloads = 4 ∧ x.passes ≤ x.preloads ∧
      mfind x.pre x.preloads = none ∧ (∀ z ∈ (s.tile 0).queue (drainEngine 1), z.started = false ∧ z.done = false) ∧
      InTile s 0 0 (q.ref 0) (preloadBytes (drain0 1 src) (formRows 4) (formCols 4)) ∧ ((x.preloads = 0 ∨ x.freed (x.preloads - 1) 0 = true) ↔ n ≠ 3) := by decide +kernel

/-- A pass that the feeder holds at its first comparison. -/
def held0 : Pass := { live0 1 true with k := 0, compared := 0 }

theorem witness_TagHoldsResolve :
    ∀ tag ∈ [0, 9], let x : MatArray := { live := [held0], b0 := { full := true, tag := tag } }; let s := tiled { arr1 := x }
      ((s.tile 0).arr 1).heldPass = some (held0) ∧ s.tileRuns 0 = true ∧ s.batchOf 1 = some tb ∧
      (held0).compareHalf.isSome = true ∧ ((x.bHalf ((held0).compareHalf.getD 0)).tag = (x.set 1).tag ↔ tag = 0) ∧ tb.aborted = false := by decide +kernel

def post0 (sub kind count a b : Nat) : PostOp := { subOp := sub, srcKind := kind, src := 0, dst := 64, count := count, paramA := a, paramB := b }

/-- A POST word on the drain buffer of array 0 or on tile memory, whose bytes are zero. -/
def posting (p : PostOp) (t : Tile) : State := engine 7 (.post p) { t with arr0 := { drainBuf := some (res0 0), bufRead := false } }

theorem witness_PipeAndGroupRows :
    (∀ p ∈ [post0 0 0 1 0 0, post0 0 2 1 0 0, post0 0 2 1 1 0, post0 0 2 1 0 4], let s := posting p {}; let all := (s.postRows 0 (q0 (.post p)) tb p).getD []
      PostRuns 0 s 0 (q0 (.post p)) tb p all all ∧ (s.pipeCfg 0 (q0 (.post p)) tb p).formatBad = (p.paramB == 4) ∧
      (s.pipeCfg 0 (q0 (.post p)) tb p).opensMany (s.tile 0) (q0 (.post p)) tb all = false ∧
      Allowed s 0 0 (s.scaleReads 0 (q0 (.post p)) tb ((s.pipeCfg 0 (q0 (.post p)) tb p).enc.map (·.1)) ++ readsOf p all ++ all.map (fun r => (512 + 64 * r.row, 4))) ∧ Unlocked s 0 (all.map (fun r => (512 + 64 * r.row, 4)))) ∧
    (∀ kind ∈ [0, 2], let p := post0 1 kind 1 1 0; let s := posting p {}
      Runs s 0 7 (q0 (.post p)) tb ∧ (((s.tile 0).arr 0).drainBuf = some (res0 0)) ∧ Allowed s 0 0 (s.scaleReads 0 (q0 (.post p)) tb none) ∧
      Allowed s 0 0 ((drainRows (res0 0) 1).map (fun r => (512 + 64 * r.row, 4 * r.vals.length))) ∧ Unlocked s 0 ((drainRows (res0 0) 1).map (fun r => (512 + 64 * r.row, 4 * r.vals.length)))) := by
  decide +kernel

theorem witness_TopListRanksFirst :
    let p := post0 2 2 1 1 0; let s := posting p {}; let all := (s.postRows 0 (q0 (.post p)) tb p).getD []
    PostRuns 2 s 0 (q0 (.post p)) tb p all all ∧ all.length = 1 ∧ Allowed s 0 0 (readsOf p all ++ [(512, 8)]) ∧ Unlocked s 0 [(512, 8)] := by decide +kernel

/-- One tree of one node, whose children are leaf 0 or the node itself; activation and encode tables that pass their check or not. -/
theorem witness_LinkTreeTable :
    (let p := post0 3 2 1 0 0; let s := posting p {}; let all := (s.postRows 0 (q0 (.post p)) tb p).getD []
     PostRuns 3 s 0 (q0 (.post p)) tb p all all ∧ all.length = 1 ∧ Allowed s 0 0 (readsOf p all ++ readsOf p all ++ [(512, 64)]) ∧ Unlocked s 0 (readsOf p all ++ [(512, 64)]) ∧
     (∀ x ∈ all, x.at_ + 4 * p.count ≤ (q0 (.post p)).ref p.dst)) ∧
    (∀ leaf ∈ [0, 3], let t : TreeOp := { trees := 0, treeCountMinus1 := 0, nodeBits := 64, dst := 128 }
      let s := engine 7 (.tree t) { mem := memWrite [] 8 (leBytes 2 6 ++ leBytes 2 7) |> fun m => memWrite m 390 [BitVec.ofNat 8 leaf] }
      let h := s.treeHead 0 ((q0 (.tree t)).ref 0)
      Runs s 0 7 (q0 (.tree t)) tb ∧ InTile s 0 0 0 0x144 ∧ InTile s 0 0 h.nodeAt (8 * h.nodes) ∧ InTile s 0 0 h.leafAt (4 * h.leaves) ∧
      Allowed s 0 0 [((q0 (.tree t)).ref 64, 4), ((q0 (.tree t)).ref 128, 4)] ∧ Unlocked s 0 [((q0 (.tree t)).ref 128, 4)] ∧
      (s.treeRows 0 h 1 ((q0 (.tree t)).ref 64) [0]).isSome = (leaf == 3)) ∧
    (∀ e ∈ [(3, [], true), (3, memWrite [] 0 (leBytes 4 0x7FC00000), false), (4, [], false), (7, memWrite [] 0 (leBytes 4 4 ++ leBytes 4 0 ++ leBytes 4 0x3F800000), true)],
      let p := post0 6 2 0 e.1 0; let s := posting p { mem := e.2.1 }
      Runs s 0 7 (q0 (.post p)) tb ∧ InTile s 0 0 ((q0 (.post p)).ref p.src) 3072 ∧
      (if e.1 < 4 then actTableOk (s.tileRead 0 ((q0 (.post p)).ref p.src) 3072) else encTableOk (s.tileRead 0 ((q0 (.post p)).ref p.src) 1088)) = e.2.2) := by
  decide +kernel

/-- Clip counts just below and at the threshold, outside and within a wide segment; a row with and without a verdict. -/
theorem witness_CheckAndVerdict :
    (∀ n ∈ [2, 1], ∀ wide ∈ [false, true], let p := post0 4 0 0 0 0; let q : Issued := { q0 (.post p) with wide := wide }
      let s := tiled { windowed {} with queues := [(7, [q])], clips := [{ batch := 1, layer := 4095, log2 := 1, encoded := [(0, n)], clipped := [(0, 1)] }] }
      Runs s 0 7 q tb ∧ (wideMask ((s.tile 0).clip 1 4095) 1 = [] ↔ n = 2) ∧ (s.tile 0).wideSegment 1 4095 = some 77) ∧
    (∀ v ∈ [none, some verdict0], let p := post0 5 2 2 0 0
      let s : State := { posting p {} with wing0 := { (posting p {}).wing0 with stairs := [{ waits with state := .step, batch := some 1, verdict := v }] } }
      let all := (s.postRows 0 (q0 (.post p)) tb p).getD []
      PostRuns 5 s 0 (q0 (.post p)) tb p all all ∧ all.length = 1 ∧ (s.batchCfg tb).isSome = true ∧ Distinct (s.wing 0) ∧
      ((s.rowStair 0 1 tb 0).map (·.verdict)) = some v ∧ Allowed s 0 0 (readsOf p all) ∧ tb.rows.Nodup) := by decide +kernel

def st0 (sub : Nat) : StateOp := { subOp := sub, rowFirst := 0, rowCount := 1, state := 0, token := 64 }

theorem witness_StateAndReduce :
    (let s := engine 9 (.state (st0 1)) { checkWait := true }; Runs s 0 9 (q0 (.state (st0 1))) tb ∧ (s.tile 0).checksLeft 1 = true) ∧
    (∀ sub ∈ [0, 1], ∀ done ∈ [[], [0]], ∀ inp ∈ [none, some (zeroBytes part0.blockBytes)], ∀ left ∈ [0, 1],
      let b : Batch := { tb with stateIn := done, stateOut := done }
      let s0 := engine 9 (.state (st0 sub)) { pc := left }
      let s : State := { s0 with wing0 := { s0.wing0 with batches := [(1, b)], stairs := [{ waits with state := .step, batch := some 1, input := inp }] } }
      Runs s 0 9 (q0 (.state (st0 sub))) b ∧ tileWing 0 = 0 ∧ (s.batchCfg b).isSome = true ∧ b.graph ≠ .rollout ∧ (st0 sub).rows b = [0] ∧ Distinct (s.wing 0) ∧ b.rows.Nodup ∧
      Allowed s 0 0 [((q0 (.state (st0 sub))).ref 0, (s.partOf 0).blockBytes), ((q0 (.state (st0 sub))).ref 64, 8)] ∧
      Unlocked s 0 [((q0 (.state (st0 sub))).ref 0, (s.partOf 0).blockBytes), ((q0 (.state (st0 sub))).ref 64, 8)] ∧
      (q0 (.state (st0 sub))).ref 0 + (s.partOf 0).blockBytes ≤ (q0 (.state (st0 sub))).ref 64 ∧ ((s.rowStair 0 1 b 0).map (·.input)) = some inp ∧ (zeroBytes part0.blockBytes).length = (s.partOf 0).blockBytes ∧ 64 ≤ (s.partOf 0).blockBytes ∧ slotCfg0.features.all (fun f => decide (f.element + 1 ≤ slotCfg0.tokenWidth)) = true ∧ (s.tile 0).checksLeft 1 = false) ∧
    (∀ n ∈ [15, 16], let r : ReduceOp := { slot0 := 1, stride := 1, countMinus1 := 15, length := 1, dst := 0, arriveTok := 15 }
      let s := engine 10 (.reduce r) { tokens := [(15, n)] }
      Runs s 0 10 (q0 (.reduce r)) tb ∧ InTile s 0 0 ((q0 (.reduce r)).ref 0) 64 ∧ (∀ p ∈ List.range 16, InTile s 0 0 ((q0 (.reduce r)).ref 1 + 64 * p) 64) ∧
      ((s.begun 0 (q0 (.reduce r))).tile 0).spare 15 10 = n ∧ s.lockedAt 0 ((q0 (.reduce r)).ref 0) 64 = false) := by decide +kernel

/-- 1.0 and -1.0 are finite and not zero; their sum is exactly zero; +inf, NaN and -0 for the other clauses. -/
theorem witness_PrimitivesRoundOnce :
    let one : F32 := 0x3F800000#32; let mone : F32 := 0xBF800000#32; let inf : F32 := 0x7F800000#32; let nan : F32 := 0x7FC00001#32; let mzero : F32 := 0x80000000#32
    Finite one ∧ Finite mone ∧ Finite mzero ∧ one.isZero = false ∧ fAdd one mone = 0#32 ∧ fMulAdd mone one mzero = mone ∧ fAdd mzero mzero = mzero ∧
    nan.isNan = true ∧ inf.isInf = true ∧ mzero.isZero = true ∧ fAdd inf 0xFF800000#32 = fNan ∧ fDiv one 0x40400000#32 = 0x3EAAAAAB#32 := by decide +kernel

/-! ### Witnesses: batches, rollouts, images and epochs (chapters 12, 13) -/

/-- Packet 12 waits for the stage of the main graph since its batch wait; tile 0 holds the control set of epoch 1. -/
def forming (sites : List SiteCfg) (tokens : List Packet) : State :=
  let c := { slotCfg0 with sites := sites }
  { act with
    parts := [(0, { part0 with slot0 := { part0.slot0 with image := some { img0 with slots := [(0, c)] } } })]
    hall := { act.hall with tokens := tokens }
    wing0 := { stairs := [{ waits with state := .step, since := 160000000000 - 16 }] }
    tiles := [(0, windowed {})] }

def site0 : SiteCfg := { index := 0, layer := 0, window := 1, margin := 0x3F800000#32, target := 0x3F800000#32, initMax := 0x3F800000#32, floorMax := 0x3F800000#32 }

/-- The oldest packet has waited exactly its batch wait; a batch whose statistics have settled and one whose have not; a tile that is
free and one whose program is still being issued. -/
theorem witness_BatchesFormAndStart :
    (let s := forming [] []
     (Claims.waiting s 0 0 0 .main 0).length = 1 ∧ (s.modelOf pkt0).isSome = true ∧ slotCfg0.main[0]? = some stage0 ∧
     160000000000 - 16 + 16 * stage0.batchWait ≤ s.nt ∧ (s.wing 0).numberFree 0 = true ∧ s.wingFree 0 = true ∧
     s.placeOk 0 0 1 true tb.place = true ∧ s.placeOk 0 0 1 false tb.place = true) ∧
    (∀ old ∈ [[], [{ pkt0 with id := 9 }]], let s0 := forming [site0] old; let b : Batch := { tb with sent := false, stat := 9999999 }
      let s : State := { s0 with wing0 := { s0.wing0 with batches := [(1, b)] } }
      s.batchOf 1 = some b ∧ s.batchCfg b = some ({ img0 with slots := [(0, { slotCfg0 with sites := [site0] })] }, { slotCfg0 with sites := [site0] }) ∧
      b.sent = false ∧ b.aborted = false ∧ s.wingFree 0 = true ∧ s.blocked b = false) ∧
    (let s0 := forming [site0] []; let b : Batch := { tb with sent := false, stat := 0 }
     ({ s0 with wing0 := { s0.wing0 with batches := [(1, b)] } } : State).settled b { slotCfg0 with sites := [site0] } = true ∧
     (forming [site0] [pkt0]).settled { b with stat := 99999999 } { slotCfg0 with sites := [site0] } = false) ∧
    (∀ cur ∈ [none, some 2], let s0 := tiled {}; let s : State := { s0 with tiles := [(0, { windowed {} with descs := [1], cur := cur })] }
      (s.tile 0).descs = [1] ∧ (s.tile 0).cur = cur ∧ s.batchOf 1 = some tb ∧ ((s.tile 0).control 1).isSome = true ∧ tb.aborted = false ∧
      s.tileRuns 0 = true ∧ s.needsClear (s.tile 0) 0 = false) := by decide +kernel

/-- An aborted batch that has not quiesced; one that has, abandoned or not, alone or behind an older one of its tile. -/
theorem witness_QuiesceAndReissue :
    (let b : Batch := { tb with aborted := true }; let s0 := tiled {}; let s : State := { s0 with wing0 := { s0.wing0 with batches := [(1, b)] } }
     s.quiescing 0 = true ∧ s.wingFree 0 = true ∧ s.batchOf 1 = some b ∧ b.sent = true ∧ 0 ∈ b.place.tiles) ∧
    (∀ left ∈ [false, true], ∀ older ∈ [false, true], let b : Batch := { tb with aborted := true, quiesced := [0], abandoned := left, order := 5 }; let s0 := tiled {}
      let s : State := { s0 with wing0 := { s0.wing0 with batches := (if older then [(0, { b with rows := [], order := 4 })] else []) ++ [(1, b)], batchCtr := 2 } }
      s.batchOf 1 = some b ∧ (s.batchCfg b).isSome = true ∧ (∀ i ∈ b.place.tiles, i ∈ b.quiesced) ∧ s.wingFree 0 = true ∧ Ascending (s.wing 0).batches ∧
      s.olderAborted b = older ∧ s.blocked b = false ∧ b.graph ≠ .rollout ∧ (∀ r ∈ b.rows, (s.wing 0).rejoin 1 b slotCfg0 r = .ready)) := by decide +kernel

/-- Partition 0 runs an image whose model slot 0 has a rollout graph; entry 20 on Wing 0 is valid, entry 63 is not. -/
def rolling (rollout : List StageCfg) (rs : List RolloutStart) (resident : Bool) : State := { act with
  parts := [(0, { part0 with rollouts := rs, slot0 := { part0.slot0 with resident := resident, image := some { img0 with slots := [(0, { slotCfg0 with rollout := rollout, rolloutCfg := { slotCfg0.rolloutCfg with enable := !rollout.isEmpty } })] } } })]
  wing0 := { entries := [(20, ent0 1)] }
  tiles := [(0, windowed {})] }

def start0 : RolloutStart := { wing := 0, fromCommand := true, tag := 0, modelSlot := 0, epoch := 1, handle := 20, entryGen := 255, block := [], startNt := 0 }

theorem witness_RolloutsRun :
    (∀ g ∈ [[], [stage0]], let s := held (rolling g [] true) 0x0306 0
      Ready 0x0306 (.rolloutStart c0 (if g.isEmpty then 63 else 20)) c0 s (cm 0x0306 0) ∧ hWing 63 = 0 ∧ hOverflow 63 = false ∧ s.wingFree 0 = true ∧ (s.partOf 0).ownsBucket 0 (hBucket 63) = true ∧
      (s.entryAt 63).valid = false ∧ (s.entryAt 20).valid = true ∧ (s.partOf 0).ownsBucket 0 (hBucket 20) = true ∧ (s.partOf 0).running.isSome = true ∧
      s.blockBad 0 20 = false ∧ (((s.partOf 0).image 0).map Image.rolloutSlots) = some (if g.isEmpty then [] else [0])) ∧
    (∀ resident ∈ [false, true], let s := rolling [stage0] [start0] resident
      (s.partOf 0).rollouts.find? (fun r => r.wing == 0 && r.modelSlot == 0 && r.batch.isNone) = some start0 ∧
      ((s.partOf 0).epochResident 1).isSome = resident ∧ ((s.slotCfg 0 0 0).map (fun c => (c.rollsOut, c.rollout.length))) = some (true, 1) ∧ s.placeOk 0 0 1 false tb.place = true ∧
      s.verdictWaits 0 = false ∧ s.wingFree 0 = true ∧ (s.wing 0).numberFree 0 = true) ∧
    (∀ rest ∈ [[], [BatchRow.rollout start0 []]], let b : Batch := { tb with graph := .rollout, rows := .rollout start0 [] :: rest, rolled := true }
      let s0 := rolling [stage0] [{ start0 with batch := some 1 }] true; let s : State := { s0 with wing0 := { s0.wing0 with batches := [(1, b)] } }
      s.batchOf 1 = some b ∧ (s.batchCfg b).isSome = true ∧ s.wingFree 0 = true ∧ Ascending (s.wing 0).batches) := by decide +kernel

/-- An image of one section, which is empty, with its measurement. -/
def imageBody0 : Bytes :=
  leBytes 4 0x594C4553 ++ leBytes 2 1 ++ [0#8, 1#8, 1#8, 1#8] ++ leBytes 2 1 ++ zeroBytes 20 ++ leBytes 8 160 ++ zeroBytes 88 ++
    [12#8] ++ zeroBytes 7 ++ leBytes 8 160 ++ zeroBytes 16

def imageBytes0 : Bytes := imageBody0.take 64 ++ sha384 (measured imageBody0) ++ imageBody0.drop 112

/-- Slot 1 in each state. -/
def slotted (y : ImageSlot) : State := { act with parts := [(0, { part0 with slot1 := y })] }

theorem witness_ImagesLoadAndGo :
    (∀ x ∈ [(0x0301, Instr.imageLoad c0 1 160 (imageBytes0.take 128)), (0x0302, .imageDiscard c0 1), (0x0303, .imageQuery c0)],
      ∀ st ∈ [SlotState.empty, .loading, .ready, .armed, .retiring], ∀ shut ∈ [false, true],
      let op := x.1; let s := held { (slotted { state := st }) with parts := [(0, { part0 with slot1 := { state := st }, sealed := shut })] } op 0
      Ready op x.2 c0 s (cm op 0) ∧ DataHere c0 s (cm op 0) (headBytes 160) (fun d => d.take (headBytes 160) == imageBytes0.take 128) ∧ ((s.partOf 0).slot 1).state = st ∧ ((s.partOf 0).sealed && !headSealed (imageBytes0.take 128)) = shut ∧ 6 < (imageBytes0.take 128).length ∧ Room c0 48) ∧
    (∀ n ∈ [0, 160], let y : ImageSlot := { state := .loading, loadBytes := n, loadHead := imageBytes0.take (headBytes n) }; let s := slotted y; let r : LoadResult := { bytes := imageBytes0, image := img0 }
     (s.partOf 0).slot 1 = y ∧ s.hallFree = true ∧ s.loadReady y r = true ∧
     (loadFault s (s.partOf 0) n ((s.partOf 0).keysAt y r.arrived) r).isSome = (n == 0)) := by decide +kernel

/-- R12, R488, R496: a wrong magic, a section beyond the image, a reserved bit of the header and a type that is not listed. -/
theorem test_image_header :
    let bad := fun (k v : Nat) => formatFault part0 (imageBytes0.set k (BitVec.ofNat 8 v)) 160
    bad 0 0 = some 4294967295 ∧ bad 0x89 1 = some 0 ∧ bad 6 0x81 = some 4294967295 ∧ bad 0x80 13 = some 0 ∧ bad 7 1 = none := by decide +kernel

/-- A READY slot, resident or not, at the nearest instant; an armed slot exactly 5 ms ahead and less. -/
theorem witness_EpochsArmAndCancel :
    (∀ resident ∈ [false, true], let s := held (slotted { state := .ready, image := some img0, resident := resident }) 0x0304 0
      Ready 0x0304 (.epochArm c0 1 false 2 160160000000) c0 s (cm 0x0304 0) ∧ Alone s ∧ s.instantFault = none ∧ (cm 0x0304 0).fetchNt + 160000000 ≤ 160160000000 ∧
      ((s.partOf 0).slot 1).state = .ready ∧ ((s.partOf 0).slot 1).image = some img0 ∧ (s.partOf 0).slotIn .armed = none ∧
      ((s.partOf 0).running.map (fun r => serialLt r.number 2)) = some true ∧ ((s.partOf 0).slot 0).image = some img0 ∧ img0.stateReset = false ∧
      ((s.partOf 0).slot 1).resident = resident) := by decide +kernel

theorem witness_EpochsArmAndCancel_cancel :
    (∀ t ∈ [160000000000 + 80000000, 160000000000 + 79999999], let s := held (slotted { state := .armed, image := some img0, switchNt := t, epoch := 2 }) 0x0305 0
      Ready 0x0305 (.epochCancel c0) c0 s (cm 0x0305 0) ∧ Alone s ∧ (s.partOf 0).slotIn .armed = some 1 ∧ ((s.partOf 0).slot 1).switchNt = t) ∧
    (act.partOf 0).slotIn .armed = none := by decide +kernel

/-- An armed epoch at its instant and one NT unit before; a fill that has not begun, one in its last wave and one with two left; a retiring slot. -/
theorem witness_EpochsSwitchFillRetire :
    (∀ t ∈ [160000000000, 160000000001], let s := slotted { state := .armed, image := some { img0 with stateReset := true }, switchNt := t, epoch := 2, staged := true, gap := 5 }
      s.hallFree = true ∧ (s.partOf 0).slotIn .armed = some 1 ∧ (s.partOf 0).armedEpoch = some { number := 2, switchNt := t, slot := 1, staged := true, gap := 5 } ∧
      ((s.partOf 0).slot 1).image = some { img0 with stateReset := true } ∧ (s.partOf 0).slotIn .running = some 0) ∧
    (∀ f ∈ [({ slot := 1, epoch := 2, wavesLeft := 1, started := false } : Fill), { slot := 1, epoch := 2, wavesLeft := 1, started := true, waveStart := 160000000000 - 32000 }, { slot := 1, epoch := 2, wavesLeft := 2, started := true, waveStart := 160000000000 - 32000 }],
      let s : State := { act with parts := [(0, { part0 with quarters0 := 3, slot1 := { state := .running, image := some img0, epoch := 2 }, fill := some f })] }
      s.hallFree = true ∧ (s.partOf 0).fill = some f ∧ s.owes 0 ((s.partOf 0).slot 1).switchNt = false ∧
      s.anyBatch 0 (fun b => b.graph == .rollout && b.epoch != f.epoch) = false ∧ (f.started = true → 1 ≤ f.wavesLeft ∧
        f.waveStart + s.waveLength 0 1 ((s.partOf 0).quarterCount 0 - f.wavesLeft) ≤ s.nt)) ∧
    (let s := slotted { state := .retiring, image := some img0, epoch := 0 }
     s.hallFree = true ∧ (s.partOf 0).owed = none ∧ (s.partOf 0).slotIn .retiring = some 1 ∧ (s.partOf 0).running.isSome = true ∧ s.owes 0 0 = false ∧
     (∀ q ∈ (s.partOf 0).rollouts, q.epoch ≠ 0) ∧ s.anyBatch 0 (fun b => b.epoch == 0) = false) := by decide +kernel

/-- The first and the last block of a Wing, with an epoch before the reset epoch and at it; a clear and a walk at their ends and before. -/
theorem witness_ClearAndWalkVisitBlocks :
    (∀ k ∈ [0, 63], ∀ reset ∈ [0, 1], let x : Partition := { part0 with clear0 := some k, walk0 := some k, walkTo := 1, resetEpoch := reset }
      let s : State := { act with parts := [(0, x)], wing0 := { regions := [(0, memWrite [] (x.blockAddr k) (zeroBytes 7 ++ [1#8]))] } }
      s.wingFree 0 = true ∧ s.earlierInside 0 0 reset = false ∧ s.earlierInside 0 0 ((1 + 8192) % 65536) = false ∧ (s.partOf 0).clearAt 0 = some k ∧ (s.partOf 0).walkAt 0 = some k ∧
      s.blockAfter 0 0 k = some (k, k + 1) ∧ hWing k = 0 ∧ s.wordBad 0 k 0 = false ∧ memWf ((s.wing 0).region 0) = true ∧ memWf (s.wing 0).overflowLarder = true ∧
      serialLt (leAt (s.readBlock 0 k) 4 2) reset = decide (reset = 1) ∧ bitOf (leAt (s.readBlock 0 k) 7 1) 0 = true ∧ serialLt (leAt (s.readBlock 0 k) 4 2) 1 = true ∧
      64 ≤ x.blockBytes) ∧
    (∀ k ∈ [63, 64], let s : State := { act with parts := [(0, { part0 with clear0 := some k, clear1 := some 64, walk0 := some k, walk1 := some 64, walkTo := 1 })] }
      s.hallFree = true ∧ (s.partOf 0).clearing = true ∧ s.clearDone 0 0 = decide (k = 64) ∧ s.clearDone 1 0 = true ∧ (s.partOf 0).walk0.isSome = true ∧
      s.walkDone 0 0 = decide (k = 64) ∧ s.walkDone 1 0 = true) := by decide +kernel

/-! ### Witnesses: network time and export (chapters 14, 15) -/

/-- CRC-8 with polynomial 0x07 and initial value 0 of the ASCII digits 1 to 9, its published check value. -/
theorem test_crc8_check : crc8 ((List.range 9).map (fun i => BitVec.ofNat 8 (49 + i))) = 0xF4 := by decide +kernel

/-- CRC-32C of the same digits, its published check value. -/
theorem test_crc32c_check : crc32c ((List.range 9).map (fun i => BitVec.ofNat 8 (49 + i))) = 0xE3069283#32 := by decide +kernel

/-- A Hall cycle at the last counts of NT, at the nominal rate. -/
theorem witness_TimeAdvances :
    let t : TimeBase := { nt := max64 - 16 }; let u : TimeBase := { nt := max64 - 15 }
    t.nt ≤ max64 ∧ t.frac < 4294967296 ∧ t.tick.nt = max64 ∧ t.tick.stopped = false ∧ u.tick.nt = max64 ∧ u.tick.stopped = true ∧ u.tick.tick = u.tick := by
  decide +kernel

def tod0 (seconds : Nat) : Tod := { seconds := seconds, utcOffset := 0, traceable := true, leap61 := false, leap59 := false, clockClass := 6 }

/-- An edge at NT `stamp`, with a message that ended 100 ms before it, and a newer one that ended too late. -/
def timed (st : TbState) (stamp : Nat) (tod : Tod) (run : Nat) (out : List Int) : State := { act with
  time := { act.time with nt := stamp, state := st, todWaiting := [(tod, stamp - 1599999999), (tod, stamp - 1600000000)], goodRun := run, outliers := out,
                          lastEdge := if st = .unset then none else some (tod.seconds - 1, stamp - 16000000000) } }

theorem witness_FirstEdgeSetsNt :
    (∀ sec ∈ [0, 288230376], let s := timed .unset 2000000000 (tod0 sec) 0 []
      s.hallFree = true ∧ s.time.stopped = false ∧ s.time.state = .unset ∧ s.time.pendingSettings = [] ∧
      TodWaits s (tod0 sec) (s.nt - 0) ∧ s.time.lastEdge = none) ∧
    (let e : Nat → Int := fun sec => ((tod0 sec).seconds - (act.time.originInForce : Int)) * 16000000000 + act.time.ppsInDelay
     0 ≤ e 0 ∧ e 288230376 ≤ 4611686018427387904 ∧ 4611686018427387904 < e 288230377) := by decide +kernel

/-- Phase errors at lock_threshold (320) and outlier_limit (160,000) and one unit beyond them. -/
theorem witness_TimeBaseStates :
    (∀ e ∈ [(TbState.acquire, 320), (.acquire, 321), (.holdover, 0), (.locked, 160001)], ∀ run ∈ [6, 7],
      let s := timed e.1 (160000000000 + e.2) (tod0 10) run [5, 6]
      s.hallFree = true ∧ s.time.stopped = false ∧ s.time.pendingSettings = [] ∧ TodWaits s (tod0 10) (s.nt - 0) ∧
      s.time.lastEdge.map (·.1) = some 9 ∧ s.time.outliers.length < 3 ∧ s.time.state = e.1 ∧
      ((s.nt : Int) - (((10 : Int) - s.time.originInForce) * 16000000000 + s.time.ppsInDelay)).natAbs = e.2 ∧ s.time.lockThreshold = 320 ∧ s.time.outlierLimit = 160000) ∧
    (∀ st ∈ [TbState.acquire, .locked], let s : State := { act with time := { act.time with state := st, lastEdge := some (9, 160000000000 - 32000000000) } }
      s.hallFree = true ∧ (s.time.state = .acquire ∨ s.time.state = .locked) ∧ (160000000000 - 32000000000) + 32000000000 ≤ s.nt) := by decide +kernel

def todBytes : Bytes := let m := leBytes 1 0xA5 ++ leBytes 1 1 ++ leBytes 6 10 ++ leBytes 2 37 ++ leBytes 1 1 ++ leBytes 1 6 ++ zeroBytes 3; m ++ leBytes 1 (crc8 m)

/-- A message that is read, and one with a wrong check byte; NT exactly 2^56 before its end; the bounds of the settings' identifiers and values. -/
theorem witness_TimeInputsAndOutputs :
    (parseTod todBytes).isSome = true ∧ parseTod (todBytes.take 15 ++ [0#8]) = none ∧ act.hallFree = true ∧
    (let s : State := { act with time := { act.time with nt := 18374686479671623680 } }; s.hallFree = true ∧ 18446744073709551616 - 72057594037927936 ≤ s.nt) ∧
    (∀ e ∈ [(0x7001, 281474976710655), (0x7002, 16000000), (0x7008, 160000000)], Ready 0x0601 (.timeConfig c0 e.1 0 0 e.2) c0 (held act 0x0601 255) (cm 0x0601 255)) ∧ 281474976710655 < 281474976710656 ∧ timeSettingOk 0x7002 16000000 = true ∧ timeSettingOk 0x7008 160000000 = true ∧
    Ready 0x0602 (.timeStatus c0) c0 (held act 0x0602 255) (cm 0x0602 255) ∧ Room c0 64 := by decide +kernel

/-- Messages that ended one unit outside the times of R527. -/
theorem witness_TimeInputsAndOutputs_late :
    let s : State := { act with time := { act.time with todWaiting := [(tod0 9, 160000000000 - 1599999999), (tod0 9, 160000000000 - 14400000001)] } }
    s.hallFree = true ∧ s.time.stopped = false ∧ ∀ e ∈ s.time.todWaiting, InTime (s.nt - 0) e = false := by decide +kernel

/-- PPS_OUT at a whole second, at the last unit of its 100 ms and one unit later. -/
theorem test_pps_out_pulse :
    [160000000000, 161599999999, 161600000000].map (fun nt => (after .ppsOut { act with time := { act.time with nt := nt } }).time.ppsOut) = [true, true, false] := by
  decide +kernel

/-- A queue with room, and a full one that holds an occurrence of the event already. -/
theorem witness_EventQueueOrder :
    (let o : Occ := { instant := 5, kind := 4, key := 0, periodic := true }; let s := act.setQueue 1 [o, { o with kind := 6 }]
     (s.queueOf 1).length < 1024 ∧ (s.queueOf 1).Pairwise (fun x y => x.before y = true)) ∧
    (let o : Occ := { instant := 5, kind := 4, key := 0, periodic := true }; let s := act.setQueue 1 (List.replicate 1024 o)
     1024 ≤ (s.queueOf 1).length ∧ o.periodic = true ∧ (s.queueOf 1).find? (fun y => y.kind == o.kind && y.key == o.key) = some o) := by decide +kernel

def xf0 : ExpFrame := { data := zeroBytes 60, nt := 0 }

/-- Queues 0 and 4095 on port 0, each with frames or none, with a gate list or none. -/
def exporting (fs : List ExpFrame) (g : Option GateList) : State := { act with
  hall := { act.hall with lanes := [(0, { up := true, limitSent := some 512, lastTx := 160000000000 - 159999 })] }
  exp := { act.exp with queues := [(0, { frames := fs, tag := 3 }), (4095, { frames := fs, tag := 2, awake := true })], ports := [(0, { gates := g })] } }

theorem witness_ExportFramesAreSelected :
    (let s := exporting [xf0] none; let u := s.refreshPort 0
     s.exportTurn 0 = true ∧ s.hallFree = true ∧ u.pickClass 0 = some 0 ∧ (u.classHead 0 0).isSome = true ∧ (∀ q ∈ [0, 4095], (u.xq q).frames = [xf0]) ∧
     Ascending s.exp.queues ∧ s.xqEligible 4095 = true) ∧
    (let s : State := { exporting [] (some { base := 0, entries := [(255, 1024)] }) with hall := act.hall }
     s.exportTurn 0 = false ∧ (s.xport 0).gates ≠ none ∧ s.hallFree = true) ∧
    (let tag := fun (n : Nat) => if n = 7 then 18446744073709551615 else 4
     leastTag tag [1, 2, 7] = some 7 ∧ ∀ v ∈ [1, 2, 7], tag v < 18446744073709551616 ∧ (tag v + 18446744073709551616 - 18446744073709551615) % 18446744073709551616 < 9223372036854775808) := by
  decide +kernel

def item0 : ExpItem := { type := 2, partition := 0, data := zeroBytes 64 }

/-- A payload exactly at its flush time and one unit before it; an item of the payload's kind and one of another. -/
theorem witness_PayloadsCloseIntoFrames :
    (∀ openNt ∈ [160000000000 - 16000000, 160000000000 - 15999999], let s : State := { act with exp := { act.exp with queues := [(4095, { open_ := [item0], openNt := openNt })] } }
      s.hallFree = true ∧ (s.xq 4095).open_ = [item0] ∧ s.setting 0x4008 4095 0 = 1000 ∧ s.itemFits (s.xq 4095) item0 = true ∧ s.itemFits (s.xq 4095) { item0 with type := 1 } = false ∧
      (s.xq 4095).bytes + 1500 ≤ s.setting 0x4007 4095 0 ∧ s.exportBytes + 1500 ≤ 33554432) ∧
    (let s : State := { act with exp := { act.exp with queues := [(0, { open_ := [item0], frames := List.replicate 300 { data := zeroBytes 1000, nt := 0 } })] } }
     s.hallFree = true ∧ s.setting 0x4007 0 0 < (s.xq 0).bytes) := by decide +kernel

/-- The takeover of R581: a base 10 ms after the arrival stands, one a unit earlier moves by one cycle. -/
theorem test_gate_takeover : takeover 0 160000000 1024 = 160000000 ∧ takeover 0 159999999 1024 = 160001023 := by decide +kernel

theorem witness_GateListsAndSamples :
    (∀ pend ∈ [none, some { base := 0, entries := [(1, 1024)] }], ∀ x ∈ [(0x0504, Instr.gateListSet c0 47 (List.replicate 256 (255, 1024)) 0), (0x0505, .gateListCancel c0 47)],
      let op := x.1; let s := held { act with exp := { act.exp with ports := [(47, { pending := pend })] } } op 255; let g : GateList := { base := 0, entries := List.replicate 256 (255, 1024) }
      Ready op x.2 c0 s (cm op 255) ∧ DataHere c0 s (cm op 255) 0 (fun d => d.length != 8 * 256 || gateEntries d == g.entries) ∧ (cm op 255).fn < 9 ∧ 47 < s.lanesN ∧ g.entries.length ≤ 256 ∧ (∀ e ∈ g.entries, 1024 ≤ e.2) ∧ g.cycle ≤ 16000000000 ∧ s.instantFault = none ∧
      takeover 160000000000 0 g.cycle ≤ 160000000000 + 1382400000000000 ∧ 160000000000 + 160000000 ≤ takeover 160000000000 0 g.cycle ∧ s.queueFull blkExport = false ∧
      (s.xport 47).pending = pend) ∧
    (∀ k ∈ [1, 8], let o : Occ := { instant := 160000000000, kind := k, key := if k = 1 then 47 else 0, periodic := false }
      (act.setQueue blkExport [o]).dueIs blkExport k (if k = 1 then 47 else 0) = some o) ∧ evGateList = 1 ∧ evShaperSample = 8 ∧
    (let s := held (exporting [xf0] none) 0x0503 255
     Ready 0x0503 (.exportQueueStats c0 4095 true) c0 s (cm 0x0503 255) ∧ Room c0 40 ∧ (cm 0x0503 255).fn = 0 ∧ (mfind s.exp.queues 4095).isSome = true) := by decide +kernel

/-! ### Witnesses: the host interface, commands and report queues (chapters 16 to 18) -/

def ring0 : Ring := { fn := 0, localIx := 0, kind := .command, log2 := 4, sqBase := 0, cqBase := 0, vector := 1, coalCount := 0, coalTime := 0, drainSource := 0 }

/-- Ring `r` of a function holds nothing and has one entry to fetch; the function's session has the given features, if any. -/
def fetching (s : State) (fn r : Nat) (en : Option Nat) : State := { s with host := { s.host with
  funcs := mput s.host.funcs fn { session := en.isSome, enabled := en.getD 0 }
  rings := mput s.host.rings r { ring0 with fn := fn, localIx := 3, sqTail := 1 } } }

theorem witness_LinkAndResets :
    act.dead = false ∧ act.hallFree = true ∧ act.host.perstN = true ∧ Ascending (held act 0x0203 0).host.funcs ∧ (15 < 16 ∨ 640 < 640) ∧ (16 < 16 ∨ 639 < 640) := by decide +kernel

/-- Valid bases, and a base that is not a multiple of 4,096; doorbells with the last value of a ring of 16 entries and with 16. -/
theorem witness_RegistersAndDoorbells :
    (∀ base ∈ [4096, 4095], ∀ fn ∈ [0, 8], let s := act.setFunc fn { adminSqBase := base, adminLog2 := 16 }
      fn ≤ 8 ∧ s.hallFree = true ∧ s.boot.stageOne = true ∧ s.ringBy fn 0 = none ∧ s.untrusted fn false = false ∧ s.globalFor fn 0 = some (if fn = 0 then 0 else 4095) ∧ ((s.func fn).adminSqBase % 4096 = 0 ↔ base = 4096) ∧
      (s.func fn).adminCqBase % 4096 = 0 ∧ (s.ringsOf fn).length < s.ringLimit fn) ∧
    act.freeGlobal = some 4095 ∧ act.hallFree = true ∧
    (let s := held act 0x0203 0
     s.ringBy 0 0 = some 0 ∧ (mfind s.host.rings 0).isSome = true ∧ s.ringBy 0 5 = none) ∧
    (let x : Ring := { ring0 with cqHead := 3, cqTail := 15 }; let s : State := { act with host := { act.host with rings := [(7, x)] } }
     s.ringBy 0 7 = some 7 ∧ s.hallFree = true ∧ mfind s.host.rings 7 = some x ∧ x.fn ≤ 8 ∧ s.untrusted 0 false = false ∧ (s.setFunc 0 { tdisp := .run }).untrusted 0 false = true ∧ x.kind = .command ∧ 15 < 2 ^ x.log2 ∧ 2 ^ x.log2 ≤ 16 ∧
     (15 + 16 - x.cqHead) % 16 ≤ (x.cqTail + 16 - x.cqHead) % 16 ∧ (x.cqTail + 16 - x.cqHead) % 16 < (0 + 16 - x.cqHead) % 16) := by decide +kernel

/-- Tables 16-6 and 17-1: the entry of a command, with its parameters' address where they are longer than 32 bytes. -/
def entry0 (op len at_ : Nat) : Bytes :=
  leBytes 2 op ++ [1#8, 0#8] ++ leBytes 4 7 ++ leBytes 4 0 ++ leBytes 4 len ++ leBytes 4 0 ++ zeroBytes 12 ++ leBytes 8 at_ ++ zeroBytes 24

/-- An entry reads as its header; a reserved bit is found at its offset, and so is an address that is no multiple of 8. -/
theorem test_entry_reads :
    readEntry (entry0 0x0401 8 0) = (cm 0x0401 0).hdr ∧ (readEntry ((entry0 0x0401 16 0).set 3 2#8)).rsvAt = some 3 ∧
    (readEntry ((entry0 0x0401 16 0).set 0x15 1#8)).rsvAt = some 0x15 ∧ (readEntry (entry0 0x0403 264 4)).rsvAt = some 0x20 ∧
    (readEntry (entry0 0x0403 264 4096)).word20 = 4096 ∧ (readEntry (entry0 0x0401 16 4)).rsvAt = none := by decide +kernel

/-- The admin ring of an enabled PF, for a write of admin_enable. -/
theorem witness_RegistersAndDoorbells_writes :
    let s := held act 0x0203 0
    bitOf 4 8 = false ∧ (s.func 0).adminEnable = true ∧ Ascending s.host.rings ∧ s.ringBy 0 0 = some 0 ∧ (mfind s.host.rings 0).isSome = true ∧ s.dead = false ∧ s.hallFree = true ∧ s.untrusted 0 false = false ∧ s.boot.stageOne = true := by decide +kernel

/-- R590, R602: dev_state reads back once stage one has completed; a doorbell reads 0. -/
theorem test_bar0_reads :
    act.bar0Read 0 0x1000000 4 false = some (leBytes 4 4) ∧ act.bar0Read 3 0x200004 1 false = some [3#8] ∧ act.bar0Read 0 8 4 false = some (zeroBytes 4) ∧
    State.reset.bar0Read 0 0x1000000 4 false = none := by decide +kernel

/-- What the header checks make of a command that ring 5 fetches. -/
def outcome (s : State) (c : Cmd) : Option Nat := (headCheck s { c with fetchNt := s.nt }).map (·.status)

/-- Each check of Table 17-4 fails on a command of its own: form, session, feature, rights, device state, partition state; one passes all. -/
theorem witness_CommandsAreFetchedAndChecked :
    (let s := fetching (fetching act 0 5 (some 1)) 0 9 (some 1)
     s.nextFetch = some 5 ∧ s.hallFree = true ∧ ((mfind s.host.rings 5).map (·.skip)) = some 0 ∧ Ascending s.host.rings ∧ ({ s with host := { s.host with rrLast := 5 } } : State).nextFetch = some 9 ∧
     ({ s with host := { s.host with rrLast := 9 } } : State).nextFetch = some 5) ∧
    (let f := fun (s : State) (en : Option Nat) (fn : Nat) => fetching s fn 5 en
     (f act (some 8191) 0).nextFetch = some 5 ∧ opInfo 0x0106 = none ∧ packetFault (f act (some 8191) 0) { cm 0x0203 8 with fn := 0 } = some 8 ∧
     outcome (f act none 0) (cm 0x0203 0) = some 4 ∧ outcome (f act (some 1) 0) (cm 0x0401 0) = some 3 ∧ outcome (f act (some 8191) 1) { cm 0x0203 0 with fn := 1 } = some 4 ∧
     outcome (f { act with boot := { act.boot with devState := 3 } } (some 8191) 0) (cm 0x0203 0) = some 1 ∧
     outcome (f up (some 8191) 0) (cm 0x0401 0) = some 8 ∧ outcome (f { act with parts := [(0, { part0 with state := .scrubbing })] } (some 8191) 0) (cm 0x0401 0) = some 5 ∧
     outcome (f act (some 8191) 0) (cm 0x0401 0) = none) := by decide +kernel

/-- A start that is too late and one exactly at its bound; a fence with an earlier command of the function and without. -/
theorem witness_CommandsAreFetchedAndChecked_waits :
    (∀ d ∈ [1, 2], let c : Cmd := { cm 0x0203 0 with fetchNt := 160000000000 - 32000, hdr := { (cm 0x0203 0).hdr with startDeadline := d } }
      let s : State := { held act 0x0203 0 with host := { (held act 0x0203 0).host with rings := [(5, { ring0 with running := some c })] } }
      s.cmdAt 5 = some c ∧ c.started = false ∧ s.hallFree = true ∧ s.outOfTurn 5 c = false ∧ c.tooLate s.nt = decide (d = 1) ∧ packetFault s c = none) ∧
    (∀ busy ∈ [false, true], ∀ p ∈ [0, 8], let c : Cmd := { cm 0x0203 p with order := 9, hdr := { (cm 0x0203 p).hdr with fence := true } }
      let s : State := { held act 0x0203 0 with host := { (held act 0x0203 0).host with rings := (if busy then [(2, { ring0 with running := some (cm 0x0203 0) })] else []) ++ [(5, { ring0 with running := some c })] } }
      s.cmdAt 5 = some c ∧ c.started = false ∧ s.hallFree = true ∧ s.outOfTurn 5 c = false ∧ c.hdr.fence = true ∧ s.fenced c = busy ∧ ((headCheck s c).isSome = decide (p = 8))) := by decide +kernel

theorem witness_CompletionsAndVectors :
    (let s := held act 0x0203 0
     (mfind s.host.rings 0).map (·.running) = some (some (cm 0x0203 0)) ∧ (s.vec 0 1).masked = true) ∧
    (∀ nt ∈ [159999984000, 159999984001], let x : Ring := { ring0 with pendCount := 1, coalTime := 1, firstPendNt := nt }
      let s : State := { act with host := { act.host with rings := [(5, x)] } }
      mfind s.host.rings 5 = some x ∧ x.pendCount ≠ 0 ∧ x.coalTime ≠ 0 ∧ (x.firstPendNt + x.coalTime * 16000 ≤ s.nt ↔ nt = 159999984000)) := by decide +kernel

/-- A completion at the last CQ slot turns the phase. -/
theorem test_phase_turns :
    ({ ring0 with cqTail := 15 } : Ring).afterEntry 0 = { ring0 with cqTail := 0, phase := false, pendCount := 1 } := by decide +kernel

theorem witness_SessionsAndRings :
    (∀ x ∈ [(0x0101, Instr.sessionOpen c0 1), (0x0102, .sessionClose c0), (0x0103, .ringCreate c0 511 .command 16 1023 0 0 0 4096 0), (0x0104, .ringDestroy c0 0), (0x0105, .ringReset c0 511)],
      let op := x.1; let i := x.2; let s := held act op 255
      Ready op i c0 s (cm op 255) ∧ Room c0 32 ∧ s.globalFor 0 511 = some 511 ∧ (s.func 0).session = true ∧ Ascending s.host.rings ∧ (s.ringsOf 0).length < s.ringLimit 0 ∧ s.host.rings.length < 4096 ∧
      s.ringBy 0 511 = none ∧ mfind s.host.rings 511 = none ∧ s.ringBy 0 0 ≠ none) ∧
    (∀ x ∈ [(0x0101, Instr.sessionOpen c0 0), (0x0102, .sessionClose c0)], let op := x.1; let s := (held act op 255).setFunc 0 { (held act op 255).func 0 with session := false }
      Ready op x.2 c0 s (cm op 255) ∧ (s.func 0).session = false) ∧
    (let s : State := { held act 0x0104 255 with host := { (held act 0x0104 255).host with rings := mput (held act 0x0104 255).host.rings 9 { ring0 with localIx := 9 } } }
     s.ringBy 0 9 = some 9 ∧ 9 ≠ 0 ∧ Ready 0x0104 (.ringDestroy c0 9) c0 s (cm 0x0104 255)) := by decide +kernel

/-- A PF whose VFs hold every ring may create none. -/
theorem witness_SessionsAndRings_full :
    let s : State := { held act 0x0103 255 with parts := (List.range 8).map (fun p => (p, { part0 with ringQuota := 512 })) }
    Ready 0x0103 (.ringCreate c0 511 .command 16 1023 0 0 0 4096 0) c0 s (cm 0x0103 255) ∧ s.ringLimit 0 ≤ (s.ringsOf 0).length := by decide +kernel

def rec0 (words prio order : Nat) (visible : Bool) : QRec := { words := (List.range words).map (fun k => { data := 1#64, head := k == 0, tail := k + 1 == words, check := 0 }), length := words, priority := prio, order := order, visible := visible }

def queued (x : ReportQ) : State := { act with rqs := [(3, x)] }

/-- Staging with 255 words and with 256; a queue that is full of discardable records, and of records that stay. -/
theorem witness_RecordsAreQueued :
    (∀ n ∈ [255, 256], let s := queued { staging := [rec0 n 0 0 false] }
      (s.rq 0 3).seq < 65536 ∧ (wordsIn (s.rq 0 3).staging + 1 ≤ 256 ↔ n = 255)) ∧
    (∀ e ∈ [(64, 7), (65, 7), (65, 0)], let s := queued { staging := [rec0 1 3 0 false], recs := (List.range 63).map (fun k => rec0 64 e.2 k true) ++ [rec0 (e.1 - 1) e.2 63 true] }
      let x := s.rq 0 3
      x.writing = 0 ∧ s.hallFree = true ∧ x.mayAct s.nt 2 = true ∧ (wordsIn x.recs + 1 ≤ 4096 ↔ e.1 = 64) ∧ (1 + wordsIn (x.recs.filter (fun k => !k.eligible 3)) ≤ 4096 ↔ e.2 = 7 ∨ e.1 = 64)) ∧
    (∀ nt ∈ [159999984000, 159999984001], let s : State := { queued { pendCount := 1, firstPendNt := nt } with settings := [(settingKey 0x6001 3 0, 1), (settingKey 0x6003 3 0, 1)] }
      let t := s.setting 0x6001 3 0
      t = 1 ∧ s.hallFree = true ∧ s.rqSetting 0x6001 0 3 = 1 ∧ (s.rqSetting 0x6003 0 3 = 0 ∨ s.nt < (s.rq 0 3).firstPendNt + s.rqSetting 0x6003 0 3 * 16000 ↔ nt = 159999984001) ∧ (s.rq 0 3).pendCount ≠ 0) := by decide +kernel

/-- Reads with a record and without, behind an earlier read, of a record that was chosen already, and of one whose time is up. -/
theorem witness_ReportsAreRead :
    (∀ i ∈ [(0x0501, Instr.reportRead c0 3 1000000 [] true), (0x0502, .reportReadCompat c0 3 [])], ∀ rs ∈ [[], [rec0 64 3 1 true, rec0 1 2 5 true]], ∀ w ∈ [[], [{ ring := 9, startNt := 0, timeout := 5, replyLen := 520 }]],
      let op := i.1; let s := held (queued { recs := rs, reads := w }) op 0; let x := s.rq 0 3
      Ready op i.2 c0 s (cm op 0) ∧ x.mayAct s.nt 2 = true ∧ (∀ r ∈ rs, 1 ≤ r.words.length ∧ r.words.length ≤ 64) ∧ 520 ≤ c0.replyLen ∧ c0.replyFails = false ∧ x.reads = w ∧ x.first = (if rs.isEmpty then none else some (rec0 1 2 5 true))) ∧
    ({ c0 with replyLen := 519 } : CmdIn).replyLen < 520 ∧
    (let s := queued { recs := [rec0 1 2 5 true], reads := [{ ring := 9, startNt := 160000000000 - 80000, timeout := 5, replyLen := 520 }] }
     s.hallFree = true ∧ (s.rq 0 3).candidate = some (rec0 1 2 5 true) ∧ (s.rq 0 3).readTurn s.nt = true ∧ (s.rq 0 3).reads.find? (fun y => decide (y.startNt + y.timeout * 16000 ≤ s.nt)) = (s.rq 0 3).reads.head? ∧
     (s.rq 0 3).reads.length = 1) := by decide +kernel

/-! ### Witnesses: partitions, settings, keys, scrubs (chapters 17, 19) -/

/-- The smallest configuration, on the last quarter of each Wing, and one whose Wings differ. -/
def params0 : ConfigParams := { wConfigParams with quarters0 := 2048, quarters1 := 2048, blockUnits := 1, shareLog2 := 10, ringQuota := 1, coalQuota0 := 16, coalQuota1 := 16, regionBase0 := 190, regionBase1 := 190, regionGib := 1, larderOff := 0, shadowOff := 1024, windowsOff := 2048, windowsUnits := 1, imageOff := 2049, imageUnits := 1 }

theorem witness_PartitionsAndSettings_configure :
    (let s := held up 0x0201 7
     Ready 0x0201 (.partitionConfigure c0 params0) c0 s (cm 0x0201 7) ∧ Alone s ∧ (∀ b ∈ params0.bad s.is4840, b.1 = false) ∧ (s.partOf 7).state = .unconfigured ∧ s.configureFault 7 params0 = none) ∧
    (let s := held { up with part := .ikf4840_12 } 0x0202 15; let p : ConfigParams := { params0 with quarters1 := 0, regionBase1 := 0, bindFn := 8 }
     Ready 0x0202 (.contextConfigure c0 p) c0 s (cm 0x0202 15) ∧ (∀ b ∈ p.bad s.is4840, b.1 = false) ∧ (s.partOf 15).state = .unconfigured ∧ s.configureFault 15 p = none) ∧
    (∀ p ∈ [{ params0 with quarters0 := 0 }, { params0 with quarters1 := 0 }], ∀ b ∈ p.bad false, b.1 = false) ∧
    ({ params0 with quarters0 := 0 } : ConfigParams).fields.quarterCount 0 = 0 ∧
    ({ params0 with quarters1 := 0 } : ConfigParams).fields.quarterCount 0 ≠ ({ params0 with quarters1 := 0 } : ConfigParams).fields.quarterCount 1 ∧
    Ready 0x0201 (.partitionConfigure c0 params0) c0 (held act 0x0201 0) (cm 0x0201 0) ∧ (act.partOf 0).state ≠ .unconfigured := by decide +kernel

/-- Settings of partition and of device scope at the ends of their ranges; a time setting, a setting without its right and one without its partition. -/
theorem witness_PartitionsAndSettings_settings :
    (∀ st ∈ [PartState.unconfigured, .active, .scrubbing], let s := held { act with parts := [(0, { part0 with state := st })] } 0x0203 0
      Ready 0x0203 (.partitionRelease c0) c0 s (cm 0x0203 0) ∧ Alone s ∧ (s.partOf 0).state = st ∧ Ready 0x0204 (.partitionQuery c0) c0 (held s 0x0204 0) (cm 0x0204 0) ∧ Room c0 16) := by decide +kernel

theorem witness_PartitionsAndSettings_settingScopes :
    (∀ x ∈ [(0x0205, Instr.settingWrite c0 0x1002 0 0 5), (0x0206, .settingRead c0 0x1002 0 0)], ∀ st ∈ [PartState.active, .unconfigured], let op := x.1; let s := held { act with parts := [(0, { part0 with state := st })] } op 0
      Ready op x.2 c0 s (cm op 0) ∧ Alone s ∧ SettingFits s (cm op 0) 0x1002 0 0 5 .partition ∧ (settingState 0x1002 (op == 0x0205) (cm op 0) s = none ↔ st = .active) ∧
      s.writeFault 0 0 0x1002 0 5 = none) := by decide +kernel

theorem witness_PartitionsAndSettings_timeAndPair :
    (let s := held act 0x0205 255
     Ready 0x0205 (.settingWrite c0 0x7008 0 0 1) c0 s (cm 0x0205 255) ∧ settingScope 0x7008 = some .time ∧ settingMisnamed 0x7008 (cm 0x0205 255) = false) ∧
    (let s : State := { held act 0x0205 255 with pair := { state := .active } }
     SettingFits s (cm 0x0205 255) 0x0002 0 0 1 .device ∧ (s.writeFault 0 255 0x0002 0 1).isSome = true) := by decide +kernel

/-- Ring 100 of VF 1 holds the command on partition 0; the VF's interface runs or not. -/
def heldVf (x : Partition) (f : Func) (op : Nat) : State := { act with parts := [(0, x)], host := { act.host with
  funcs := [(1, { f with session := true, enabled := 8191 })], rings := [(100, { ring0 with fn := 1, running := some { cm op 0 with fn := 1 } })] } }

/-- The key of 32 zero bytes, wrapped for the private key 5 with the ephemeral key 7, whose public key is the multiple of the base point
that is published as a test value. -/
def blob0 : Bytes := beBytes 153 0x10700000000000004283c1d7365ce4788f29f8ebf234edffead6fe997fbea5ffa2d58cc9dfa7b1c508b05526f55b9ebb2040f05b48fb6d0e19475c99061e41b88ba52efdb8c1690471a61d867ed799729d9c92cd01dbd225630d84ede32a78f9e64664cdac512ef8cca86702744361830b8d43873f136db47c7468734ccda5b17b98e32ff1e751c6206f619bfdd5a619eccae624e1ae43f27

theorem witness_KeysAreLoaded :
    (∀ td ∈ [Tdisp.run, .locked], ∀ cur ∈ [none, some { gen := 6, key := zeroBytes 32 }, some { gen := 7, key := [] }], ∀ prev ∈ [none, some ({ gen := 5, key := [] } : KeySlot)],
      let s := heldVf { part0 with keyCur := cur, keyPrev := prev } { tdisp := td } 0x0901
      Ready 0x0901 (.keyLoad { c0 with ring := 100 } 7 153 blob0) { c0 with ring := 100 } s { cm 0x0901 0 with fn := 1 } ∧
      DataHere { c0 with ring := 100 } s { cm 0x0901 0 with fn := 1 } 153 (fun b => b == blob0) ∧ keyLoadAllowed s 1 = (td == .run)) ∧
    153 ≤ 4096 ∧ blob0.length = 153 ∧ leAt blob0 0 1 = 1 ∧ leAt blob0 1 1 = 7 ∧ leAt blob0 2 2 = 0 ∧ leAt blob0 4 4 = 0 ∧ 6 % 255 + 1 = 7 ∧ 255 % 255 + 1 = 1 ∧
    (∀ h ∈ [[], [1]], ({ act with parts := [(0, { part0 with keyPrev := some { gen := 5, key := [] }, prevHolders := h })] } : State).hallFree = true) ∧
    Ready 0x0902 (.keyQuery c0) c0 (held act 0x0902 0) (cm 0x0902 0) ∧ Room c0 4 := by decide +kernel

/-- The published digest of the string abc. -/
theorem test_sha384_abc : sha384 (label "abc") =
    beBytes 48 0xcb00753f45a35e8bb5a03d699ac65007272c32ab0eded1631a8b605a43ff5bed8086072ba1e7cc2358baeca134c825a7 := by decide +kernel

/-- Test case 14 of the published GCM vectors: key, nonce and plaintext of zeros. -/
theorem test_aes256_gcm : gcmSeal (zeroBytes 32) (zeroBytes 12) [] (zeroBytes 16) =
    beBytes 32 0xcea7403d4d606b6e074ec5d3baf39d18d0d1c8a799996bf0265b98b5d48ab919 := by decide +kernel

/-- The published multiple of the base point by 7. -/
theorem test_p384_times_7 : publicKey 7 = slice blob0 8 97 := by decide +kernel

/-- The wrapped key opens under the partition's key; with another byte in its encapsulated key it does not. -/
theorem witness_KeysAreLoaded_unwraps :
    let s : State := { act with parts := [(0, { part0 with nonce := some (zeroBytes 16), pwk := some 5 })] }
    s.unwrap 0 7 blob0 = some (zeroBytes 32) ∧ s.unwrap 0 7 (blob0.set 20 0#8) = none := by decide +kernel

theorem witness_TrustedDomain :
    (∀ td ∈ [Tdisp.unlocked, .locked, .run, .error], ∀ b ∈ [false, true], ∀ k ∈ [none, some (zeroBytes 32)],
      let s := (act.setFunc 1 { tdisp := td, spdm := true, ideKey := k, bounce := b }).modPart 0 (fun x => { x with leaf := some wLeaf })
      s.hallFree = true ∧ s.slotPart 1 0 = some 0 ∧ s.slotPart 1 1 = none ∧ s.slotPart 0 0 = none ∧ (s.partOf 0).leaf = some wLeaf ∧ (s.func 1).spdm = true ∧
      (s.func 1).tdisp = td ∧ (s.func 1).ideKey = k ∧ s.fnOf 0 = 1 ∧ (s.partOf 0).state = .active ∧ 0 < s.partsN) ∧
    act.power.vstby33 = true ∧ act.power.vio18 = true ∧ act.power.vaux18 = true ∧ (act.func 2).spdm = false := by decide +kernel

/-- Bounce-buffer mode that begins again within one SPDM session, and in a new one. -/
theorem witness_TrustedDomain_again :
    ∀ id ∈ [3, 4], let f : Func := { spdm := true, spdmId := 3, bounceId := some id, cmdSeq := [(0, 6)], nonceCtr := 9, spdmReq := some (zeroBytes 48), spdmRsp := some (zeroBytes 48) }
      let s := act.setFunc 1 f; s.hallFree = true ∧ (s.func 1).spdm = true ∧ (s.func 1).tdisp ≠ .locked ∧ (s.func 1).tdisp ≠ .run ∧ ((s.func 1).bounceId = some (s.func 1).spdmId ↔ id = 3) := by decide +kernel

/-- An envelope of zeros of ring 0 under a key of zeros. -/
def env0 (kind len seq bind : Nat) : Bytes := sealEnvelope (zeroBytes 32) (envelopeHeader kind 0 len seq bind 1) (zeroBytes len)

/-- The next COMMAND envelope of a ring is opened; one whose sequence is taken is refused. -/
theorem witness_TrustedDomain_command :
    let s := act.setFunc 1 { bounce := true, cmdSeq := [(0, 6)], reqKey := some (zeroBytes 32) }; let e := env0 1 64 7 0
    s.hallFree = true ∧ (s.func 1).bounce = true ∧ leAt e 1 1 = 1 ∧ leAt e 8 8 = mget 0 (s.func 1).cmdSeq (leAt e 2 2) + 1 ∧ leAt e 0x10 4 = 0 ∧
    openEnvelope ((s.func 1).reqKey.getD []) e = some (zeroBytes 64) ∧ memWf (s.func 1).bar2 = true ∧
    leAt (env0 1 0 6 0) 8 8 ≠ mget 0 (s.func 1).cmdSeq (leAt e 2 2) + 1 := by decide +kernel

/-- The one chunk of a buffer of 8 bytes comes for the command of a ring in bounce-buffer mode, bound to its sequence; one that is bound
to another, and one for a ring without a command. -/
theorem witness_TrustedDomain_dataIn :
    let k : Cmd := { cm 0x0504 255 with fn := 1, params := some (leBytes 4 0x10000 ++ zeroBytes 12 ++ leBytes 8 4096) }
    let s := (heldVf part0 { bounce := true, ownSeq := [(0, 6)], reqKey := some (zeroBytes 32) } 0x0504).setCmd 100 (some k); let e := env0 3 8 0 6
    s.hallFree = true ∧ (s.func 1).bounce = true ∧ s.ringBy 1 (leAt e 2 2 % 512) = some 100 ∧ s.cmdAt 100 = some k ∧ k.fn = 1 ∧
    s.nextChunk 100 k = some (4096, 0, 8) ∧ openEnvelope ((s.func 1).reqKey.getD []) e = some (zeroBytes 8) ∧ leAt e 8 8 = 0 ∧
    leAt e 0x10 4 = mget 0 (s.func 1).ownSeq (leAt e 2 2) % 4294967296 ∧ s.dataChunk 100 k (env0 3 8 0 5) = none ∧
    (s.setCmd 100 none).cmdAt 100 = none ∧ leAt (env0 2 8 0 6) 1 1 = 2 := by decide +kernel

theorem witness_ScrubsClear :
    (∀ st ∈ [160000000000, 160000000001], let x : Scrub := { zeroise := false, phase := .drain, start := st, ring := some 0 }
      let s : State := { act with parts := [(0, { part0 with state := .scrubbing, scrub := some x })] }
      s.hallFree = true ∧ (s.partOf 0).scrub = some x ∧ x.phase = .drain ∧ s.owes 0 x.start = false ∧ s.anyBatch 0 (fun _ => true) = false ∧ (x.start ≤ s.nt ↔ st = 160000000000)) ∧
    (∀ ph ∈ [ScrubPhase.onDie, .dram], let x : Scrub := { zeroise := false, phase := ph, start := 0, ring := some 0 }
      let s : State := { act with parts := [(7, { part0 with state := .scrubbing, scrub := some x })], tiles := [(0, {}), (5, {})], wing0 := { regions := [(7, [])] } }
      s.wingsFree = true ∧ s.is4840 = false ∧ (s.partOf 7).scrub = some x ∧ Ascending s.tiles ∧ Ascending s.rqs ∧ (∀ q ∈ [0, 1, 2, 3], ∀ r ∈ (s.rq 7 q).recs, r.selected = false) ∧
      s.sec.jtagHeld = false ∧ Ascending s.wing0.regions ∧ Ascending s.wing1.regions) ∧
    (∀ sealed ∈ [false, true], let s : State := { act with parts := [(0, { part0 with sealed := sealed })] }
      s.hallFree = true ∧ s.sec.debug = false ∧ (s.sealedParts = [] ↔ sealed = false)) := by decide +kernel

/-! ### Witnesses: the redundant pair (chapter 20) -/

/-- The device of `act` in a state of a pair; NT is 10 s. -/
def pr (x : Pair) : State := { act with pair := x }

/-- A member of an active pair at its state hash of interval 0, with one message of the partner to act on. -/
def prMsg (standby : Bool) (m : PairMsg) : State := pr { state := .active, standby := standby, lanesUp := [0, 7], inbox := [(5, 159999999999, m)], lastRxNt := 160000000000 }

/-- What a partner that agrees with `act` says of itself. -/
def partner0 (standby : Bool) (settings : Nat) : PartnerInfo := { serial := 77, standby := standby, part := act.part, stepping := 0x00B0, regs := act.sec.regs.toList.take 5, timeLocked := true, originSeconds := act.time.originInForce, hashSeed := act.setting 0x0002 0 0, parts := (List.range act.partsN).map (fun p => { state := if p = 0 then 1 else 0, params := { wConfigParams with quarters0 := 1, quarters1 := 1, blockUnits := 1, shareLog2 := 4, ringQuota := 256, overflowQuota0 := 16, overflowQuota1 := 16, coalQuota0 := 8, coalQuota1 := 8, regionGib := 1 } }), settings := settings, ephemeral := slice blob0 8 97 }

theorem witness_PairStatesMove_setup :
    ∀ st ∈ [PairState.unpaired, .connecting], let s := held (pr { state := st }) 0x0B01 255; Ready 0x0B01 (.pairSetup c0 true) c0 s (cm 0x0B01 255) ∧ s.pair.state = st := by
  decide +kernel

set_option exponentiation.threshold 512 in
/-- A partner that agrees with the member, and one with the member's own role. -/
theorem witness_PairStatesMove_agrees : act.setupFault (partner0 true (beNat (sha384 act.settingsText))) = none ∧ act.setupFault (partner0 false 0) = some 1 := by
  have last : ∀ d, beNat (sha384 act.settingsText) = d → act.setupFault (partner0 true d) = none := by
    intro d h
    unfold State.setupFault
    rw [h, show ((partner0 true d).settings == d) = true from beq_self_eq_true d]
    rfl
  exact ⟨last _ rfl, by decide +kernel⟩

theorem witness_PairStatesMove_connect :
    (∀ st ∈ [PairState.unpaired, .connecting, .alone], ∀ sb ∈ [false, true], let s := pr { state := st, standby := sb }
      s.hallFree = true ∧ s.pair.state = st ∧ bitOf 128 7 = true ∧ bitOf 1 0 = true ∧ (s.partOf 0).state = .active ∧ 0 < s.partsN) ∧
    (∀ rx ∈ [159999200000, 159999200001], ∀ sb ∈ [false, true], let s := pr { state := .active, standby := sb, lastRxNt := rx, resync := [(0, { q := 0 })] }
      s.hallFree = true ∧ s.pair.state = .active ∧ (rx = 159999200000 ↔ s.pair.lastRxNt + 800000 ≤ s.nt) ∧ s.pair.resync ≠ []) := by decide +kernel

theorem witness_PairStatesMove_leave :
    (∀ st ∈ [PairState.unpaired, .active, .alone], let s := held (pr { state := st, lanesUp := [0] }) 0x0B02 255; Ready 0x0B02 (.pairRelease c0) c0 s (cm 0x0B02 255) ∧ s.pair.state = st) ∧
    (prMsg true .release).nextMsg = some (5, .release) ∧
    (∀ e ∈ [0, 170000000000], (prMsg true (.role e)).nextMsg = some (5, .role e) ∧ (prMsg true (.role e)).isStandby = true) := by decide +kernel

theorem witness_PairStatesMove_role :
    (prMsg false (.role 0)).isPrimary = true ∧ (prMsg false (.role 0)).pair.roleAt = none ∧ (prMsg false (.role 0)).pair.resync = [] ∧ (prMsg false (.role 0)).nextMsg = some (5, .role 0) ∧
    (∀ e ∈ [160000000000, 160000000001], ∀ sb ∈ [false, true], let s := pr { state := .active, standby := sb, roleAt := some e }
      s.pair.inbox = [] ∧ s.pair.roleAt = some e ∧ s.hallFree = true ∧ s.paired = true ∧ (e ≤ s.nt ↔ e = 160000000000)) := by decide +kernel

theorem witness_PairStatesMove_commands :
    (∀ x ∈ [({} : Pair), { state := .active, resync := [(0, { q := 0 })] }, { state := .active }, { state := .active, standby := true }], Ready 0x0B04 (.pairSwitchover c0) c0 (held (pr x) 0x0B04 255) (cm 0x0B04 255)) ∧
    (pr { state := .active }).isPrimary = true ∧ (pr { state := .active, standby := true }).isStandby = true ∧
    (∀ st ∈ [PairState.unpaired, .connecting, .active, .alone], let s := held (pr { state := st, setupFail := 15, lanesUp := [0, 7] }) 0x0B03 255
      Ready 0x0B03 (.pairStatus c0) c0 s (cm 0x0B03 255) ∧ Room c0 32 ∧ s.pair.setupFail < 16 ∧ s.pair.lanesUp.Nodup ∧ ∀ n ∈ s.pair.lanesUp, n < 8) := by decide +kernel

/-- The ephemeral key of a partner that is a point, and one that is none. -/
theorem witness_PairStatesMove_keys :
    let eph := p384Key (act.draw 56).1
    (ecdh eph (partner0 true 0).ephemeral).isSome = true ∧ ecdh eph (zeroBytes 97) = none := by decide +kernel

/-- A member with keys and one without, at each lane, with a frame of its lane and one of another; the headers that it would send. -/
theorem witness_PairMessagesFlow :
    (∀ lane ∈ [0, 7], ∀ k ∈ [none, some (zeroBytes 32)], let s := pr { (prMsg true .release).pair with keyLoHi := k }; let h := s.pairHeader lane 1 160000000000
      s.hallFree = true ∧ s.pair.state = .active ∧ s.pair.lanesUp.contains lane = true ∧ pairFormatOk lane h 1 = true ∧ pairFormatOk (7 - lane) h 1 = false ∧
      mget 0 s.pair.rxDiscards lane < 65536 ∧ Ascending s.pair.rxDiscards ∧ Ascending s.pair.rxSeqs) ∧
    (∀ m ∈ [PairMsg.role 0, .release, .stateHash 0 [], .prepare (.release 0)], m.sequenced = true ∧ m.code < 256 ∧ m.size ≤ 1448) ∧
    (prMsg true .release).controlLane = 0 ∧ Ascending (prMsg true .release).pair.partnerLog ∧ (pr {}).pair.state = .unpaired ∧
    (∀ f ∈ [159999936000, 159999936001], let m : SentMsg := { seq := 1, body := .role 0, firstNt := f }; let s := pr { state := .active, unacked := [m] }
      s.pair.unacked = m :: [] ∧ s.paired = true ∧ s.hallFree = true ∧ (m.firstNt + 64000 ≤ s.nt ↔ f = 159999936000)) := by decide +kernel

/-- A member with one decision that takes effect at `e`, and its occurrence in the Cellar of Wing `w`. -/
def prDue (standby : Bool) (kind w e : Nat) (body : PairMsg) : State :=
  ((pr { state := .active, standby := standby, decisions := [{ e := e, seq := 5, wing := w, partition := 0, body := body }] }).setQueue (blkCellar w) [{ instant := e, kind := kind, key := 5, periodic := false }])

theorem witness_PairDecides_messages :
    (∀ h ∈ [0, ovHandle 1 32767], let s := prMsg true (.insert 160000320000 h (zeroBytes 64))
      s.nextMsg = some (5, .insert 160000320000 h (zeroBytes 64)) ∧ s.unitPending h = false ∧ s.wingFree (hWing h) = true ∧ (s.queueOf (blkCellar (hWing h))).length < 1024) ∧
    (∀ u ∈ [PairUnit.overflow 0 (zeroBytes 64), .maxima 0 []], let s := prMsg true (.tableChange 160000320000 1 0 u)
      s.nextMsg = some (5, .tableChange 160000320000 1 0 u) ∧ s.hallFree = true ∧ (s.queueOf (blkCellar 1)).length < 1024) ∧
    (∀ m ∈ [MirrorCmd.release 0, .bankArm 1], let s := prMsg true (.prepare m); s.nextMsg = some (5, .prepare m) ∧ s.hallFree = true ∧ s.paired = true) ∧
    (∀ st ∈ [0, 7], let k : Prepared := { seq := 3, cmd := .release 0, ring := 0, sentNt := 159999999000 }
      let s : State := { prMsg false (.vote 3 st 0) with pair := { (prMsg false (.vote 3 st 0)).pair with prepared := some k } }
      s.nextMsg = some (5, .vote 3 st 0) ∧ s.hallFree = true ∧ s.paired = true ∧ s.pair.prepared = some k ∧ k.seq = 3 ∧ s.noRoom 0 = false ∧ (s.queueOf (blkCellar 0)).length < 1024) ∧
    (∀ t ∈ [159984000000, 159984000001], let s := pr { state := .active, prepared := some { seq := 3, cmd := .release 0, ring := 0, sentNt := t } }
      s.pair.prepared = some { seq := 3, cmd := .release 0, ring := 0, sentNt := t } ∧ s.hallFree = true ∧ (t + 16000000 ≤ s.nt ↔ t = 159984000000)) ∧
    (let s : State := { prMsg true (.commit 3 160000320000) with pair := { (prMsg true (.commit 3 160000320000)).pair with voted := [(3, .release 0)] } }
     s.nextMsg = some (5, .commit 3 160000320000) ∧ s.hallFree = true ∧ mfind s.pair.voted 3 = some (.release 0) ∧ (s.queueOf (blkCellar 0)).length < 1024) := by decide +kernel

theorem witness_PairDecides_instants :
    (∀ e ∈ [159999984000, 160000000000], ∀ sb ∈ [false, true],
      ∀ b ∈ [PairMsg.prepare (.bankArm 1), .prepare (.release 0), .tableChange e 0 0 (.overflow 0 (zeroBytes 64)), .tableChange e 1 0 (.overflow 32767 (zeroBytes 64))],
      let s := prDue sb evTableApply 0 e b
      s.duePair 0 evTableApply = some { instant := e, kind := evTableApply, key := 5, periodic := false } ∧
      s.decisionOf { instant := e, kind := evTableApply, key := 5, periodic := false } = some { e := e, seq := 5, wing := 0, partition := 0, body := b } ∧
      lateAt s.nt e = false ∧ s.paired = true ∧ Ascending s.pair.log) ∧
    (∀ sb ∈ [false, true], let b : PairMsg := .insert 160000000000 0 (zeroBytes 64); let s := prDue sb evInsertApply 1 160000000000 b
      s.duePair 1 evInsertApply = some { instant := 160000000000, kind := evInsertApply, key := 5, periodic := false } ∧
      s.decisionOf { instant := 160000000000, kind := evInsertApply, key := 5, periodic := false } = some { e := 160000000000, seq := 5, wing := 1, partition := 0, body := b } ∧
      lateAt s.nt 160000000000 = false ∧ s.paired = true ∧ Ascending s.pair.sums ∧ Ascending (mget [] s.pair.sums (160000000000 / 16000000))) := by decide +kernel

/-- Slot 0 of partition 0 holds the image in other words than the arm's; slot 1 takes the new one. -/
def armable : State := { up with parts := [(0, { part0 with slot1 := { state := .ready, image := some img0, resident := true } })] }

theorem witness_PairDecides_mirrored :
    ∀ sb ∈ [false, true], ∀ x ∈ [(0x0203, Instr.partitionRelease c0), (0x0305, .epochCancel c0), (0x0304, .epochArm c0 1 false 2 170000000000)], let op := x.1; let s := held { armable with pair := { state := .active, standby := sb } } op 0
      Ready op x.2 c0 s (cm op 0) ∧ s.voting = false ∧ s.isStandby = sb ∧ s.isPrimary = !sb := by decide +kernel

theorem witness_PairDecides_mirroredArm :
    ∀ sb ∈ [false, true], let s := held { armable with pair := { state := .active, standby := sb } } 0x0209 255
      Ready 0x0209 (.ruleBankArm c0 170000000000) c0 s (cm 0x0209 255) ∧ s.voting = false ∧ s.isStandby = sb ∧ s.queueFull (blkCellar 0) = false := by decide +kernel

/-- A Cellar whose event queue is full. -/
theorem witness_PairDecides_full :
    let s := (held { armable with pair := { state := .active } } 0x0209 255).setQueue (blkCellar 0) (List.replicate 1024 { instant := 170000000000, kind := evTableApply, key := 0, periodic := false })
    Ready 0x0209 (.ruleBankArm c0 170000000000) c0 s (cm 0x0209 255) ∧ s.voting = false ∧ s.isPrimary = true ∧ s.queueFull (blkCellar 0) = true := by decide +kernel

theorem witness_PairDecides_checks :
    (let s : State := { armable with pair := { state := .active } }
     (MirrorCmd.release 0).fault s 0 (some 160000000000) = none ∧ (MirrorCmd.bankArm 170000000000).fault s 0 (some 160000000000) = none ∧
     (MirrorCmd.epochArm 0 1 false 2 170000000000 0).fault s 0 (some 160000000000) = none) ∧
    (let s : State := { armable with pair := { state := .active }, parts := [(0, { part0 with slot1 := { state := .armed, image := some img0, resident := true, epoch := 2, switchNt := 170000000000 } })] }
     (MirrorCmd.epochCancel 0).fault s 0 (some 160000000000) = none) := by decide +kernel

/-- A resynchronisation of partition 0 on Wing 0 that begins at `q`. -/
def prSync (standby : Bool) (r : Resync) (requests : List (Nat × Nat × Nat)) : State := pr { state := .active, standby := standby, resync := [(0, r)], requests := requests }

theorem witness_PairComparesAndResyncs_hashes :
    (∀ w ∈ [0, 1], ∀ ks ∈ [9998, 9999], ∀ pb ∈ [([] : Tab (List Nat)), [(9998, List.replicate 16 0)], [(9998, 1 :: List.replicate 15 0)]],
      let s := pr { state := .active, nextClose := ks, partnerSums := pb }
      s.hallFree = true ∧ s.time.wingStopped.contains w = false ∧ s.dueOcc (blkStairwell w) = none ∧ s.paired = true ∧ (s.nt < (ks + 2) * 16000000 ↔ ks = 9999) ∧
      s.uncommitted 0 (fun _ => true) ((ks + 1) * 16000000) = false ∧ s.uncommitted 1 (fun _ => true) ((9998 + 1) * 16000000) = false ∧
      Ascending s.pair.ownClosed ∧ Ascending s.pair.sums ∧ (∀ i ∈ List.range 16, s.resyncOf (i / 2) (i % 2) = none)) ∧
    (∀ oc ∈ [([] : Tab (List Nat)), [(4, List.replicate 16 0)]], let b := 1 :: List.replicate 15 0
      let s : State := { prMsg true (.stateHash 4 b) with pair := { (prMsg true (.stateHash 4 b)).pair with ownClosed := oc } }
      s.nextMsg = some (5, .stateHash 4 b) ∧ s.hallFree = true ∧ s.paired = true ∧ Ascending s.pair.partnerSums ∧ Ascending s.pair.ownClosed ∧ (mfind s.pair.ownClosed 4 = none ↔ oc = [])) ∧
    (∀ sb ∈ [false, true], (prMsg sb (.resyncBegin 0 1 0)).nextMsg = some (5, .resyncBegin 0 1 0) ∧ (prMsg sb (.resyncBegin 0 1 0)).isStandby = sb ∧
      (prMsg sb (.resyncBegin 0 1 0)).isPrimary = !sb ∧ (prMsg sb (.resyncBegin 0 1 0)).resyncOf 0 1 = none ∧ ((prMsg sb (.resyncBegin 0 1 0)).partOf 0).state = .active) := by decide +kernel

theorem witness_PairComparesAndResyncs_units :
    (∀ u ∈ [PairUnit.maxima 3 [(1, 1)], .overflow 32767 (zeroBytes 64)], let m : PairMsg := .resyncData 0 0 u
      let s : State := { prMsg true m with pair := { (prMsg true m).pair with resync := [(0, { q := 1 })] } }
      s.nextMsg = some (5, m) ∧ s.wingFree 0 = true ∧ s.isStandby = true ∧ s.resyncOf 0 0 = some { q := 1 } ∧ Ascending s.pair.resync) ∧
    (let s : State := { prMsg false (.blockRequest 0 0 7) with pair := { (prMsg false (.blockRequest 0 0 7)).pair with resync := [(0, { q := 1 })] } }
     s.nextMsg = some (5, .blockRequest 0 0 7) ∧ s.hallFree = true ∧ s.isPrimary = true ∧ (s.resyncOf 0 0).isSome = true) ∧
    (∀ sent ∈ [[], [bucketUnit 0]], let r : Resync := { q := 160000000000, sent := sent }; let s := prSync false r [(0, 0, bucketUnit 0)]
      s.pair.inbox = [] ∧ s.isPrimary = true ∧ s.hallFree = true ∧ s.pair.requests = (0, 0, bucketUnit 0) :: [] ∧ s.resyncOf 0 0 = some r ∧ s.wingFree 0 = true ∧ s.quiescedBefore 0 0 r = true ∧
      (s.unitImage 0 0 (bucketUnit 0)).number = bucketUnit 0) ∧
    (∀ q ∈ [160000000000, 160000000001], ∀ nx ∈ [0, (act.partOf 0).unitCount - 1], let r : Resync := { q := q, next := nx }; let s := prSync false r []
      s.resyncOf 0 0 = some r ∧ s.isPrimary = true ∧ s.wingFree 0 = true ∧ Ascending s.pair.resync ∧ (s.quiescedBefore 0 0 r = true ↔ q = 160000000000) ∧
      nx < (s.partOf 0).unitCount ∧ (∃ u ∈ (s.unitAt 0 0 nx).toList, (s.unitImage 0 0 u).number = u)) ∧
    (let r : Resync := { q := 160000000000, next := (act.partOf 0).unitCount }; let s := prSync false r []
     s.pair.inbox = [] ∧ s.resyncOf 0 0 = some r ∧ s.isPrimary = true ∧ s.hallFree = true ∧ (s.partOf 0).unitCount ≤ r.next ∧ Ascending s.pair.resync ∧ s.pair.waitRings = []) := by decide +kernel

theorem witness_PairComparesAndResyncs_end :
    (∀ aw ∈ [[0], [0, 16], [16]], let m : PairMsg := .resyncEnd 0 0 9
      let s : State := { prMsg true m with pair := { (prMsg true m).pair with resync := [(0, { q := 1 })], awaited := aw, waitRings := [0] } }
      s.nextMsg = some (5, m) ∧ s.hallFree = true ∧ Ascending s.pair.resync ∧ ((∀ k ∈ s.pair.awaited, k = 16 * 0 + 0) ↔ aw = [0])) ∧
    (∀ sb ∈ [false, true], ∀ ps ∈ [[(0, part0)], []], let s := held { act with pair := { state := .active, standby := sb }, parts := ps } 0x0B05 255
      Ready 0x0B05 (.pairResync c0) c0 s (cm 0x0B05 255) ∧ s.isStandby = sb ∧ ((∀ p ∈ List.range s.partsN, (s.partOf p).state ≠ .active) ↔ ps = [])) := by decide +kernel

/-! ### Witnesses: counters, snapshots and traces (chapter 21) -/

/-- A snapshot of ring 0 that has begun, due in block `b`, with the blocks `left` still to copy. -/
def snap0 (ring : Option Nat) (left : List Nat) : Snap := { number := 8, ring := ring, fn := 0, toHost := true, hostAddr := 0, instant := 159999999000, left := left, copied := [], lastCopy := 0, late := false }

def snapOcc (x : Snap) : Occ := { instant := x.instant, kind := 9, key := if x.ring.isSome then 9 else 0, periodic := x.ring.isNone }

def snapDue (b : Nat) (x : Snap) : State :=
  (({ held act 0x0702 255 with obs := { act.obs with snaps := [x] } } : State).setQueue b [snapOcc x])

theorem witness_CountersAndSnapshots :
    (∀ n ∈ [0, max64], act.ctr Ctr.hallBoots ≤ max64 ∧ (act.bumpN Ctr.hallBoots n).ctr Ctr.hallBoots ≤ max64) ∧
    (∀ count ∈ [1, 16, 65536], 1 ≤ count ∧ count ≤ 65536 ∧ Room { c0 with replyLen := 524288 } (8 * count)) ∧
    Ready 0x0701 (.counterRead { c0 with replyLen := 524288 } 0 65536) { c0 with replyLen := 524288 } (held act 0x0701 255) (cm 0x0701 255) ∧ (cm 0x0701 255).fn = 0 ∧
    (let s := held act 0x0702 255
     Ready 0x0702 (.snapshot c0 false 0 0 0) c0 s (cm 0x0702 255) ∧ bitOf ((s.enabledOf 0).getD 0) 6 = true ∧ (∀ b ∈ s.blocks, s.queueFull b = false) ∧
     (s.obs.snaps.filter (fun x => x.ring.isSome)).length < 16 ∧
     Ready 0x0702 (.snapshot c0 false 0 0 0) c0 { s with obs := { s.obs with snaps := List.replicate 16 (snap0 (some 1) [0]) } } (cm 0x0702 255)) := by decide +kernel

/-- A context of the IKF-4840 and its VF, and a report queue. -/
theorem witness_CountersAndSnapshots_parts :
    (let s : State := { act with part := .ikf4840_12, parts := [(3, { part0 with bindFn := 8 })] }; let id := 12 * 16777216
     s.ctrExists id = true ∧ s.is4840 = true ∧ ctrGroup id = 12 ∧ s.partsOf 8 = [3]) ∧
    (∀ id ∈ [Ctr.hallBoots, 8 * 16777216, 8 * 16777216 + 7 * 4096, 12 * 16777216], act.ctrExists id = true ∧ act.is4840 = false) ∧
    (let s : State := { act with rqs := [(31, {})] }; s.ctrExists (Ctr.rqWaiting 31) = true ∧ 31 < 4 * s.partsN ∧ mfind s.rqs 31 = some {}) := by decide +kernel

/-- A VF that reads a counter of the Hall. -/
theorem witness_CountersAndSnapshots_denied :
    (let s := heldVf part0 {} 0x0701; let cmd := { cm 0x0701 0 with fn := 1 }; let i := Ctr.hallBoots
     Ready 0x0701 (.counterRead { c0 with ring := 100 } i 1) { c0 with ring := 100 } s cmd ∧ s.ctrExists i = true ∧ 1 ≤ cmd.fn ∧ cmd.fn < 9 ∧ s.groupOf cmd.fn (ctrGroup i) (ctrInst i) = false) := by decide +kernel

theorem witness_CountersAndSnapshots_copies :
    (∀ b ∈ [blkCellar 0, blkStairwell 1, 0, 1, 2, 7], ∀ x ∈ [snap0 (some 0) [b], snap0 (some 0) [0, 1, 2, 3, 4, 5, 6, 7], snap0 none [b]], let s := snapDue b x
      s.dueOcc b = some (snapOcc x) ∧ lateAt s.nt 159999999000 = false ∧ s.earlierStarted (snapOcc x) = true ∧
      s.snapOf (snapOcc x) = some x ∧ Ascending s.counters ∧ Ascending s.rqs ∧ Ascending x.copied ∧ (s.queueOf b).length ≤ 1024 ∧ x.toHost = true ∧ (s.cmdAt 0).isSome = true ∧
      ((∀ d ∈ x.left, d = b) ∨ (∃ d ∈ x.left, d ≠ b))) ∧
    (let x := snap0 (some 0) [7]; let s := (snapDue 7 x).setQueue 1 [{ instant := 159999998999, kind := 4, key := 0, periodic := true }]
     s.dueOcc 7 = some (snapOcc x) ∧ s.snapOf (snapOcc x) = some x ∧ s.earlierStarted (snapOcc x) = false) ∧
    (∀ xs ∈ [[], [snap0 none []]], let s : State := { act with obs := { act.obs with snaps := xs }, settings := [] }
      s.hallFree = true ∧ s.time.state ≠ .unset ∧ s.time.stopped = false ∧ 1 ≤ ({ s with settings := mput [] (settingKey 0x0004 0 0) 5 } : State).setting 0x0004 0 0 ∧
      (∀ b ∈ s.blocks, s.queueFull b = false) ∧ ((∀ x ∈ s.obs.snaps, x.ring ≠ none) ↔ xs = []) ∧ (∀ x ∈ xs, x.left = [])) ∧
    (∀ fn ∈ [0, 8], ∀ r ∈ [none, some 0], let s := act.setFunc fn { hidden := [{ data := [], instant := 1, ring := r }] }
      s.hallFree = true ∧ (s.func fn).hidden = { data := [], instant := 1, ring := r } :: []) := by decide +kernel

/-- Trace buffer `b` of `act`. -/
def traced (b : Nat) (x : TraceBuf) : State := act.setBuf b x

def rec8 : TraceRec := { kind := 8, nt := 1, arg0 := 0 }

theorem witness_TracesRecord_commands :
    (∀ sel ∈ [0, 1], selBad (held act 0x0703 255) c0 sel = false ∧ Ready 0x0703 (.traceConfig c0 sel true 127 0 0) c0 (held act 0x0703 255) (cm 0x0703 255) ∧ traceDenied (held act 0x0703 255) (cm 0x0703 255) sel = false ∧
      0 < bufCap (selectorBuf sel)) ∧
    (∀ fz ∈ [false, true], let s := held (traced 0 { frozen := fz }) 0x0704 255
      Ready 0x0704 (.traceRelease c0 0) c0 s (cm 0x0704 255) ∧ selBad s c0 0 = false ∧ traceDenied s (cm 0x0704 255) 0 = false ∧ (∀ b ∈ s.selected 0 255, (s.buf b).frozen = fz) ∧ s.selected 0 255 ≠ []) := by decide +kernel

theorem witness_TracesRecord_denied :
    (let s := heldVf part0 {} 0x0703; let cmd := { cm 0x0703 0 with fn := 1 }
     Ready 0x0703 (.traceConfig { c0 with ring := 100 } 0 true 0 0 0) { c0 with ring := 100 } s cmd ∧ selBad s { c0 with ring := 100 } 0 = false ∧ traceDenied s cmd 0 = true) := by decide +kernel

theorem witness_TracesRecord_buffers :
    (∀ x ∈ [({} : TraceBuf), { enable := true, frozen := true }, { enable := true, wroteNt := some act.nt }], let s := traced 0 x
      s.bufFree 0 = true ∧ s.drainRing 0 = none ∧ ((s.buf 0).enable = false ∨ (s.buf 0).frozen = true ∨ (s.buf 0).wroteNt = some s.nt)) ∧
    (∀ r ∈ [{ rec8 with kind := 1 }, rec8], ∀ pl ∈ [none, some 1, some 2], ∀ po ∈ [0, 1], ∀ lost ∈ [0, 3], ∀ f ∈ [[r], List.replicate 8 r, List.replicate 9 r],
      let s := traced 0 { enable := true, fifo := f, postLeft := pl, postRecords := po, lostRun := lost, lostNt := 2 }; let x := s.buf 0
      s.bufFree 0 = true ∧ s.drainRing 0 = none ∧ x.enable = true ∧ x.frozen = false ∧ x.wroteNt ≠ some s.nt ∧ r.kind ≠ 3 ∧ x.postLeft = pl ∧ x.postRecords = po ∧
      (if 0 < x.lostRun ∧ x.fifo.length < 9 then insertRec (eventRec 9 0 x.lostNt x.lostRun x.lostNt) x.fifo else x.fifo).head? = some r) ∧
    [rec8].Pairwise (fun (x y : TraceRec) => x.nt < y.nt ∨ (x.nt = y.nt ∧ x.engine ≤ y.engine)) ∧
    (∀ th ∈ [0, 1], ∀ n ∈ [6, 7, 8, 9, 10], ∀ lost ∈ [0, 1], let s := traced 17 { enable := true, stallThreshold := th, lostRun := lost, fifo := List.replicate n rec8 }; let x := s.buf 17
      s.hallFree = true ∧ x.stallThreshold = th ∧ x.enable = true ∧ x.frozen = false ∧ x.lostRun = lost ∧
      (lost = 0 → n ≤ 7 → x.fifo.length < x.room s.nt) ∧ (0 < lost → n ≤ 6 → x.fifo.length + 1 < x.room s.nt) ∧ (9 < n → x.room s.nt ≤ x.fifo.length)) := by decide +kernel

/-! ### Witnesses: dumps, hangs and health (chapters 21, 22) -/

def dump0 : Dump := { scope := 3, automatic := true, late := false, nt := 9, sections := [{ kind := 1, recordBytes := 32, records := [zeroBytes 32, zeroBytes 32] }, { kind := 4, recordBytes := 16, records := [] }] }

theorem witness_DumpsAreTaken :
    (∀ d ∈ [none, some dump0], ∀ scope ∈ [0, 1, 4], ∀ len ∈ [0, 65536], let s : State := { act with obs := { act.obs with dump := d } }
      Ready 0x0F01 (.dumpTake c0 scope 4096 len []) c0 (held s 0x0F01 255) (cm 0x0F01 255) ∧ (held s 0x0F01 255).obs.dump = d ∧ Ready 0x0F02 (.dumpStatus c0) c0 (held s 0x0F02 255) (cm 0x0F02 255)) ∧ Room c0 16 ∧
    (∀ x ∈ dump0.sections, ∀ r ∈ x.records, r.length = x.recordBytes) ∧ dump0.length < 2 ^ 64 ∧ dump0.scope < 256 ∧ dump0.nt < 2 ^ 64 ∧ 0 < dump0.length ∧
    2 + act.wings = 4 ∧ act.wings = 2 := by decide +kernel

/-- The header, the second directory entry and the place of its section's records. -/
theorem test_dumpBytes :
    dump0.bytes.length = 32 + 32 + 64 ∧ leNat (dump0.bytes.take 4) = 0x504D5544 ∧ leNat (((dump0.bytes.drop 48).take 16).take 1) = 4 := by decide +kernel

/-- An engine of Wing 0's Cellar and an engine of tile 0 that wait, and one node that waits for the host. -/
def waits0 (n reason : Nat) : List Wait := [{ node := n, on := { reason := reason, target := nodeId 1 0 0, batch := 0 } }]

theorem witness_HangsAreHandled :
    (∀ r ∈ [0x01, 0x39, 0x3B], let n := nodeId 1 0 3
      act.hallFree = true ∧ n < 2 ^ 32 ∧ nodeKind n = 1 ∧ (((act.sampleWaits (waits0 n r)).waitOf n).reason ≠ 0x39 ∧ ((act.sampleWaits (waits0 n r)).waitOf n).reason ≠ 0x3B ↔ r = 1)) ∧
    (∀ l ∈ [none, some 159984000000, some 159984000001], ∀ d ∈ [none, some dump0], ∀ b ∈ [false, true],
      let s : State := { act with obs := { act.obs with lastHangNt := l, dump := d, dumpCopied := b } }
      s.hallFree = true ∧ s.obs.lastHangNt = l ∧ s.obs.dump = d ∧ ((∃ x ∈ l.toList, s.nt < x + 16000000) ↔ l = some 159984000001)) ∧
    (∀ w ∈ [0, 1], let n := nodeId 2 w 5
      w < act.wings ∧ ((act.sampleWaits (waits0 n 1)).waitOf n).reason ≠ 0x39 ∧ ((act.sampleWaits (waits0 n 1)).waitOf n).reason ≠ 0x3B) ∧
    (∀ g ∈ [none, some act.buildGraph], let s := held { act with obs := { act.obs with graph := g } } 0x0F03 255
      Ready 0x0F03 (.waitforRead c0) c0 s (cm 0x0F03 255) ∧ s.obs.graph = g) ∧ Room c0 act.buildGraph.bytes.length := by decide +kernel

/-- The engine of the array on tile 0 is in batch 1, which has been issued once or twice. -/
theorem witness_HangsAreHandled_batch :
    (∀ iss ∈ [1, 2], ∀ fl ∈ [0, 6], let b : Batch := { tb with issues := iss, faults := fl }
      let s0 := tiled { arr1 := { live := [live0 1 false] } }; let e := 4
      let s : State := { s0 with wing0 := { s0.wing0 with batches := [(1, b)] } }
      s.hallFree = true ∧ e < 11 ∧ e ≠ 0 ∧ ((s.tile 0).engineWords e).map (·.batch) = [1] ∧ s.batchOf 1 = some b ∧ b.aborted = false ∧ b.faults < 7 ∧
      ((s.sampleWaits (waits0 (nodeId 3 0 e) 1)).waitOf (nodeId 3 0 e)).reason ≠ 0x39 ∧ ((s.sampleWaits (waits0 (nodeId 3 0 e) 1)).waitOf (nodeId 3 0 e)).reason ≠ 0x3B) := by decide +kernel

theorem witness_StickyBits :
    (∀ n ∈ [0, 255], n < 256 ∧ act.stickyBit n = false ∧ (act.setSticky n).stickyBit n = true) ∧
    Ready 0x0805 (.stickyClear c0 255) c0 (held act 0x0805 255) (cm 0x0805 255) ∧ Ready 0x0804 (.stickyRead c0) c0 (held act 0x0804 255) (cm 0x0804 255) ∧ Room c0 32 ∧
    stickyVisible 104 = true ∧ stickyVisible 0 = false ∧ stickyVisible 137 = false ∧ (act.vec 0 0).masked = true ∧
    (let s := act.setVec 3 0 { masked := false, pending := false }; (s.vec 3 0).masked = false ∧ s.stickyBit 0 = false) := by decide +kernel

/-- Section `k` of a die with two copies, the first or the second of them newer. -/
def mantel0 (a b fails : Nat) : State := { act with health := { act.health with mantel := (List.range 48).map (fun k => (k, { data := [[k]], copyA := some (a, []), copyB := some (b, []), fails := fails })) } }

theorem witness_MantelAndStatus_writes :
    (∀ die ∈ [0, 2], ∀ k ∈ [1, 4, 5, 8, 10], ∀ f ∈ [0, 2], ∀ ab ∈ [(3, 4), (4, 3)], let s := mantel0 ab.1 ab.2 f
      s.hallFree = true ∧ die < 1 + s.wings ∧ k ≤ 10 ∧ k ≠ 0 ∧ k ≠ 9 ∧ (s.section_ die k).fails = f ∧ (s.section_ die k).fails < 3 ∧
      (s.section_ die k).copyA = some (ab.1, []) ∧ (s.section_ die k).copyB = some (ab.2, [])) ∧
    (let s : State := { act with health := { act.health with dayMargins := [(0, 5), (55, 6)] } }
     s.hallFree = true ∧ Ascending s.health.dayMargins ∧ mfind s.health.dayMargins 55 = some 6) := by decide +kernel

theorem witness_MantelAndStatus_commands :
    (∀ die ∈ [0, 2], ∀ k ∈ [0, 7, 8, 10], let s := held act 0x0803 255
      Ready 0x0803 (.mantelRead c0 die k 0) c0 s (cm 0x0803 255) ∧ die < 1 + s.wings ∧ k ≤ 10 ∧ 1 ≤ c0.replyLen ∧ (k = 8 → (s.sectionBytes die k).length ≤ 0)) ∧
    (∀ wh ∈ [[], [0, 23]], let s := held { act with health := { act.health with withheld := wh } } 0x0802 255
      Ready 0x0802 (.healthStatus c0 []) c0 s (cm 0x0802 255) ∧ s.boot.devState < 16 ∧ (∀ k ∈ s.health.withheld, k < 24) ∧ s.health.withheld.Nodup) ∧
    Room c0 64 ∧ Ready 0x0801 (.deviceIdentity c0) c0 (held act 0x0801 255) (cm 0x0801 255) ∧ Room c0 32 := by decide +kernel

/-- Section SUMMARY has 64 bytes, whatever the free layout of its fields. -/
theorem witness_MantelAndStatus_read : ∀ s : State, 0 < (s.sectionBytes 0 0).length ∧ Room c0 (((s.sectionBytes 0 0).drop 0).take c0.replyLen).length := by
  intro s
  have h : (s.sectionBytes 0 0).length = 64 := by simp only [State.sectionBytes, fit, List.length_take, List.length_append, zeroBytes, List.length_replicate]; omega
  simp [Room, c0, h]

theorem witness_IntervalsEnd :
    (∀ b ∈ [blkLanes, blkCellar 0, blkStairwell 1], ∀ e ∈ [159999984000, 160000000000],
      ∀ x ∈ [({ up := true, corrected := 1000, leastTransit := some (-1), badTransit := 14 } : Lane), { up := true, leastTransit := some 0, badTransit := 15 }, { up := true, leastTransit := some (-5), badTransit := 15 }],
      let o : Occ := { instant := e, kind := evInterval, key := 0, periodic := true }
      let s := ({ act with hall := { act.hall with lanes := [(0, x)] } } : State).setQueue b [o]
      s.dueIs b evInterval 0 = some o ∧ lateAt s.nt o.instant = false ∧ (s.queueOf b).length ≤ 1024 ∧ s.lane 0 = x ∧ 0 < s.lanesN ∧
      (s.setting 0x2006 0 0 * 78125 < x.corrected * 2000000 ↔ x.corrected = 1000)) := by decide +kernel

/-- Tile `i` is due for retirement; its Gallery has its spares or none. -/
def dueTile (i : Nat) (lost : List Nat) : State := { act with health := { act.health with tiles := [(i, { due := true })], sparesLost := [(3 * tileWing i + i / 128 % 4, lost)] } }

theorem witness_TilesRetireWingsFault :
    (∀ i ∈ [0, 351, 512, 863], ∀ lost ∈ [[], [0, 1, 2], [0, 1, 2, 3]], let s := dueTile i lost; let w := tileWing i
      s.nextDue w = some i ∧ i < 1024 ∧ s.wingFree w = true ∧ s.copyWaits i = false ∧ (s.wing0.batches ++ s.wing1.batches = []) ∧ s.nextDue (1 - w) = none ∧ (s.freeSpares w (i / 128 % 4) = [] ↔ lost.length = 4) ∧ Ascending s.health.tiles) ∧
    (∀ st ∈ [[], [0], [1]], let s : State := { act with time := { act.time with wingStopped := st } }
      (s.wingFree 1 = true ↔ st ≠ [1]) ∧ 1 < s.wings ∧ (s.wing0.batches ++ s.wing1.batches = []) ∧ (s.time.wingStopped.contains 0 = true ↔ st = [0])) ∧
    (let s0 := dueTile 0 []; let s : State := { s0 with time := { s0.time with wingStopped := [0] } }
     s.nextDue 0 = some 0 ∧ s.wingFree 0 = false) ∧
    (∀ d ∈ [0, 59, 60, 99, 100], act.hallFree = true ∧ act.power.domainsOut.contains d = false ∧ (d < 60 → d / 30 < act.wings) ∧ (60 ≤ d → d < 100 → domainWing d < act.wings)) ∧
    Ascending act.hall.lanes ∧ (let s : State := { act with power := { act.power with domainsOut := [7] } }; s.power.domainsOut.contains 7 = true) := by decide +kernel

/-- A batch in flight on a tile that is due. -/
theorem witness_TilesRetireWingsFault_batch :
    (let s0 := dueTile 0 []; let b : Batch := { tb with issues := 1 }; let s : State := { s0 with wing0 := { s0.wing0 with batches := [(1, b)] } }
     s.nextDue 0 = some 0 ∧ s.wingFree 0 = true ∧ s.copyWaits 0 = false ∧ Ascending s.wing0.batches ∧ Ascending s.wing1.batches ∧ (∀ e ∈ s.wing0.batches ++ s.wing1.batches, e.2.faults < 8) ∧ s.batchOf 1 = some b ∧ b.sent = true ∧ b.aborted = false ∧
     (b.place.tiles.contains 0 && !b.ended.contains 0) = true) := by decide +kernel

/-- A due tile with spares and without; a Wing that runs; a domain of a row, of a Wing and of the Hall. -/
theorem witness_RecoveriesComplete :
    (∀ lost ∈ [[], [0, 1, 2, 3]], let s := dueTile 863 lost
      s.nextDue 1 = some 863 ∧ 863 < 1024 ∧ s.wingFree 1 = true ∧ s.copyWaits 863 = false ∧ (s.freeSpares 1 2 = [] ↔ lost ≠ [])) ∧
    act.hallFree = true ∧ 1 < act.wings ∧ act.wingFree 1 = true ∧
    (∀ d ∈ [59, 60, 99, 100, 127], d < 128 ∧ act.power.domainsOut.contains d = false ∧ (if d < 60 then d / 30 else if d < 100 then domainWing d else 0) < act.wings) := by
  decide +kernel

theorem witness_MemoryAndPowerActions :
    (∀ w ∈ [0, 1], act.hallFree = true ∧ w < act.wings ∧ act.wingFree w = true ∧ (act.partOf 0).scrub = none) ∧
    (∀ u ∈ [[], [256 + 3]], let s : State := { act with health := { act.health with landingUsed := u } }
      s.wingFree 1 = true ∧ (s.health.landingUsed.contains (256 * 1 + 3) = true ↔ u = [256 + 3])) ∧
    (let s : State := { act with parts := [(0, { part0 with state := .scrubbing, scrub := some { zeroise := false, phase := .dram, start := 0, ring := none } })] }
     (s.partOf 0).scrub.isSome = true ∧ s.wingFree 0 = true) ∧
    (∀ k ∈ [0, 7], k < 4 * act.wings) ∧
    (∀ n ∈ [0, 4, 5], ∀ t ∈ [(1471 : Int), 1472, 1519, 1520, 1679, 1680], let s : State := { act with health := { act.health with throttle := [(0, n)], peaks := [(1, t + 640)] } }
      s.hallFree = true ∧ mget 0 s.health.throttle 0 = n ∧ mfind s.health.peaks 1 = some (t + 640)) ∧
    (∀ mhz ∈ [0, 1, 10000], let s : State := { act with health := { act.health with stretch := [(0, mhz)] } }; s.hallFree = true ∧ (s.wingMhz 0 = s.floorMhz ↔ mhz = 10000)) ∧
    (∀ l ∈ [none, some 158400000000, some 158400000001], let s : State := { act with power := { act.power with pmAlert := true, lastPmAlert := l, converters := [(16, { vout := 1, iout := 2, status := 0 })] } }
      s.hallFree = true ∧ Ascending s.power.converters ∧ s.power.pmAlert = true ∧ ((∃ x ∈ l.toList, s.nt < x + 1600000000) ↔ l = some 158400000001) ∧
      (s.ledger 0 10).length + 1 ≤ 1024) ∧ Ascending [(16, 5)] ∧ mfind [(16, 5)] 16 = some 5 := by decide +kernel

/-! ### Witnesses: reset, boot, update and the management network (chapters 23, 24) -/

theorem witness_ResetsAndSupplies :
    (∀ n ∈ [0, 999], n < 1000) ∧ (∀ n ∈ [10000, 1000000], 10000 ≤ n ∧ up.power.resetLow = false) ∧
    (∀ b ∈ [false, true], let s : State := { act with power := { act.power with thermtrip := b, standbyOn := true } }
      s.power.thermtrip = b ∧ (b = false → s.power.standbyOn = true)) ∧
    (∀ st ∈ [Stage.rom, .done], let s : State := { act with boot := { act.boot with stage := st } }; s.boot.stage = st) ∧
    (∀ n ∈ [0, 3], let s : State := { act with settings := [(settingKey 0x2001 0 0, 1), (settingKey 0x2001 1 0, 0), (settingKey 0x2001 47 0, 1)] }
      n < 4 ∧ s.dead = false ∧ 0 < s.lanesN ∧ 47 < s.lanesN ∧ s.setting 0x2001 0 0 = 1 ∧ s.setting 0x2001 47 0 = 1 ∧ s.setting 0x2001 1 0 ≠ 1 ∧ 0 / 12 = 0 ∧ 47 / 12 = 3) := by decide +kernel

def bankOf (d v : Nat) : Bank := { securityVersion := v, raiseFloor := true, digest := d, bankBytes := 4096, versions := [1] }

def bootRec0 : BootRec := { digestA := 10, digestB := 11, seq := 3 }

/-- A device with all supplies before stage `st`, with a boot record, a bank A and a bank B. -/
def booting (st : Stage) (r : BootRec) : State := { State.reset with
  power := { State.reset.power with vstby33 := true, vio18 := true, vaux18 := true, vin12 := true, sysClk := true, domainsOn := decide (st ≠ .rom) }
  boot := { stage := st, rec0 := some r, rec1 := some { r with seq := 2, lastResult := 7 }, bankA := some (bankOf 10 5), bankBRec := some (bankOf 11 5), floor := 5 } }

theorem witness_RomChoosesBank :
    (∀ ab ∈ [false, true], let s := booting .rom { bootRec0 with activeB := ab }; let r : BootRec := { bootRec0 with activeB := ab }
      s.boot.stage = .rom ∧ s.power.romReady = true ∧ s.boot.record? = some r ∧ r.trial = false ∧ r.applyPending = false ∧ s.boot.record.applyPending = false ∧
      (∀ v ∈ [false, true], s.boot.verifies false v = v ∧ s.boot.verifies true v = v)) ∧
    (∀ ab ∈ [false, true], ∀ tr ∈ [0, 1, 3], let r : BootRec := { bootRec0 with activeB := ab, trial := true, triesLeft := tr }; let s := booting .rom r
      s.boot.record? = some r ∧ s.power.romReady = true ∧ r.trial = true ∧ r.applyPending = false ∧ s.boot.verifies (!ab) true = true) ∧
    (booting .hearth bootRec0).boot.stage ≠ .rom ∧ ({ booting .rom bootRec0 with power := {} } : State).power.romReady = false := by decide +kernel

theorem witness_StagesFollow :
    (∀ st ∈ [Stage.hearth, .dram, .selfTest, .settings, .ready], let s := booting st bootRec0
      s.boot.stage = st ∧ s.dead = false ∧ s.boot.record? = some bootRec0 ∧ bootRec0.trial = false ∧ s.boot.bank bootRec0.activeB = some (bankOf 10 5) ∧ (bankOf 10 5).raiseFloor = true ∧
      s.boot.record.applyPending = false ∧ s.boot.saved = none ∧ s.power.serdesLost = [] ∧ Ascending s.hall.lanes ∧ 0 < s.wings ∧
      (s.section_ 1 8).copyA = none ∧ (s.section_ 1 8).copyB = none) ∧
    (let x : SavedSettings := { seq := 4, settings := [], rules := [], activeBank := 1, anchors := [9] }
     let s0 := booting .settings bootRec0; let s : State := { s0 with boot := { s0.boot with settings1 := some x }, time := { s0.time with originPending := some 5 } }
     s.boot.stage = .settings ∧ s.dead = false ∧ s.boot.saved = some x ∧ s.time.originPending = some 5) ∧
    (let s0 := booting .selfTest bootRec0; let s : State := { s0 with boot := { s0.boot with trialBoot := true, devState := 2 } }
     s.boot.trialBoot = true ∧ s.boot.devState ≠ 4 ∧ s.boot.stage ≠ .rom ∧ s.dead = false) ∧
    (up.boot.trialBoot = false ∧ up.boot.devState = 4 ∧ up.boot.stage ≠ .dram ∧ up.boot.stage ≠ .hearth ∧ up.boot.stage ≠ .selfTest ∧ up.boot.stage ≠ .settings ∧ up.boot.stage ≠ .ready) := by decide +kernel

def hdr0 (cred : Bool) (base v : Nat) : StagingHdr := { credentials := cred, baseDigest := base, target := bankOf 12 v, anchors := [1, 2, 3, 4] }

def staging0 (st : StagingState) (cred : Bool) (base v : Nat) : Staging := { state := st, owner := 0, source := 0, total := 4096, queued := 4096, written := 4096, hdr := some (hdr0 cred base v), statusRecord := true, offers := [0, 1] }

theorem witness_UpdatesApply :
    (∀ sr ∈ [false, true], ∀ cred ∈ [false, true], ∀ base ∈ [0, 10, 99], ∀ v ∈ [4, 5], let r : BootRec := { bootRec0 with applyPending := true }
      let g : Staging := { staging0 .activated cred base v with statusRecord := sr }; let s0 := booting .dram r; let s : State := { s0 with boot := { s0.boot with staging := some g } }
      s.boot.stage = .dram ∧ s.dead = false ∧ s.boot.record? = some r ∧ r.applyPending = true ∧ s.boot.staging = some g ∧ g.hdr = some (hdr0 cred base v) ∧
      g.statusRecord = sr ∧ ((base = 0 ∨ base = r.digestOf r.activeB) ↔ base ≠ 99) ∧ ((hdr0 cred base v).target.securityVersion < s.boot.floor ↔ v = 4)) := by decide +kernel

/-- The device of `act` with a staging. -/
def stagedUp (g : Option Staging) : State := { act with boot := { act.boot with staging := g, rec0 := some bootRec0, bankA := some (bankOf 10 5) } }

theorem witness_UpdatesAreStaged_commands :
    (∀ g ∈ [none, some (staging0 .receiving false 0 5), some (staging0 .closing true 0 5), some (staging0 .closed false 0 5)],
      (∀ x ∈ [(0x0A01, Instr.updateBegin c0 4096), (0x0A04, .updateAbort c0), (0x0A06, .updateActivate c0 false), (0x0A06, .updateActivate c0 true)],
        Ready x.1 x.2 c0 (held (stagedUp g) x.1 255) (cm x.1 255)) ∧ (stagedUp g).scrubbing = false ∧ (stagedUp g).boot.recovery = false ∧ (stagedUp g).boot.staging = g) ∧
    (∀ ow ∈ [0, 1], ∀ q ∈ [0, 4095, 4096], let g : Staging := { staging0 .receiving false 0 5 with owner := ow, queued := q }
      (∀ x ∈ [(0x0A02, Instr.updateData c0 q 1 none), (0x0A03, .updateEnd c0)], Ready x.1 x.2 c0 (held (stagedUp (some g)) x.1 255) (cm x.1 255)) ∧ g.state = .receiving ∧ (g.owner = (cm 0x0A02 255).fn ↔ ow = 0) ∧ (g.queued = g.total ↔ q = 4096) ∧
      (g.queued + 1 ≤ g.total ↔ q ≠ 4096)) ∧
    (∀ n ∈ [0x25F, 0x260, 33488896, 33488897], (0x260 ≤ n ∧ n ≤ 33488896 ↔ n = 0x260 ∨ n = 33488896)) ∧
    (∃ h ∈ (staging0 .receiving true 0 5).hdr.toList, h.credentials = true) ∧ (cm 0x0A03 255).fn < 9 := by decide +kernel

theorem witness_UpdatesAreStaged_transfers :
    (let g : Staging := { staging0 .closing false 0 5 with written := 0, transfers := [(0, 4096)] }; let s := stagedUp (some g)
     s.boot.staging = some g ∧ g.transfers = (0, 4096) :: [] ∧ s.hallFree = true) ∧
    (∀ cred ∈ [false, true], let g := staging0 .closing cred 0 5; g.state = .closing ∧ g.transfers = [] ∧ g.written = g.total ∧ g.hdr = some (hdr0 cred 0 5) ∧ (hdr0 cred 0 5).credentials = cred) ∧
    (let s : State := { act with parts := [(0, { part0 with state := .scrubbing, scrub := some { zeroise := false, phase := .dram, start := 0, ring := none } })] }
     s.scrubbing = true ∧ s.boot.staging = none ∧ Ready 0x0A06 (.updateActivate c0 true) c0 (held s 0x0A06 255) (cm 0x0A06 255)) := by decide +kernel

/-- A command of a management association with its data behind the parameters. -/
theorem witness_UpdatesAreStaged_inline :
    (∀ d ∈ [[], [5]], let k : CmdIn := { ring := 4096 }; let cmd : Cmd := { cm 0x0A02 255 with fn := 9, inline := d }
      let g : Staging := { staging0 .receiving false 0 5 with owner := 9, queued := 4095 }
      let s : State := { stagedUp (some g) with boot := { (stagedUp (some g)).boot with assocs := [(0, { relay := false, session := true, enabled := 8191, running := some cmd })] } }
      Ready 0x0A02 (.updateData k 4095 1 none) k s cmd ∧ s.boot.staging = some g ∧ 9 ≤ cmd.fn ∧ (cmd.inline.length = 1 ↔ d = [5]) ∧ g.owner = cmd.fn ∧ g.state = .receiving) := by decide +kernel

theorem witness_UpdatesAreStaged_confirm :
    (∀ tr ∈ [false, true], let s : State := { stagedUp none with boot := { (stagedUp none).boot with rec0 := some { bootRec0 with trial := tr, triesLeft := 3 }, floor := 63, lastResult := 7 } }
      Ready 0x0A07 (.updateConfirm c0) c0 (held s 0x0A07 255) (cm 0x0A07 255) ∧ s.boot.record.trial = tr ∧ Ready 0x0A05 (.updateStatus c0) c0 (held s 0x0A05 255) (cm 0x0A05 255) ∧ Room c0 96 ∧
      s.boot.lastResult < 8 ∧ s.boot.floor < 64 ∧ s.boot.record.triesLeft < 4) ∧ (staging0 .trial false 0 5).source < 4 := by decide +kernel

theorem witness_SettingsAndRelays :
    Ready 0x0A08 (.settingsSave c0) c0 (held act 0x0A08 255) (cm 0x0A08 255) ∧
    (∀ old ∈ [none, some ({ seq := 4, settings := [], rules := [], activeBank := 1, anchors := [] } : SavedSettings)], let x : SavedSettings := { seq := 0, settings := [], rules := [], activeBank := 0, anchors := [] }
      let s : State := { act with boot := { act.boot with capture := some x, settings0 := old } }
      s.boot.capture = some x ∧ s.hallFree = true ∧ s.boot.saved = old) ∧
    (∀ st ∈ [StagingState.closing, .closed], let g := staging0 st false 0 5; let s : State := { stagedUp (some g) with pair := { state := .active } }
      s.boot.staging = some g ∧ s.hallFree = true ∧ s.boot.recovery = false ∧ 0 ∈ g.offers ∧ 1 ∈ g.offers ∧ s.paired = true ∧ s.boot.stageOne = true ∧ (g.state = .closed ↔ st = .closed)) ∧
    (let s := stagedUp none; s.hallFree = true ∧ s.boot.recovery = false ∧ s.boot.stageOne = true ∧ s.boot.staging = none ∧ s.runningBank = some (bankOf 10 5) ∧ (bankOf 10 5).digest ≠ 99) := by decide +kernel

theorem witness_SettingsAndRelays_partner :
    (∀ x ∈ [relayAnswer 1 0, relayAnswer 5 0, { relayAnswer 4 0 with value := 1432, length := 1432 }, { relayAnswer 4 0 with value := 1432, length := 1200 }], ∀ q ∈ [1432, 4096],
      let g : Staging := { staging0 .receiving false 0 5 with owner := ownerPartner, source := 3, queued := q, written := q }
      let s : State := { prMsg true (.update x) with boot := (stagedUp (some g)).boot }
      s.nextMsg = some (5, .update x) ∧ s.hallFree = true ∧ s.paired = true ∧ s.boot.staging = some g ∧ g.owner = ownerPartner ∧ g.state = .receiving ∧ (x.op = 1 → x.baseDigest = 0) ∧
      (q = 1432 → x.op = 4 → x.value = g.queued ∧ g.queued + x.length ≤ g.total) ∧ (q = 4096 → g.queued = g.total)) ∧
    (let s : State := { prMsg true (.update (relayAnswer 1 0)) with boot := (stagedUp none).boot }; s.nextMsg = some (5, .update (relayAnswer 1 0)) ∧ s.hallFree = true ∧ s.paired = true ∧ s.boot.staging = none) ∧
    (∀ k ∈ [0, 2864, 4095, 4096], let g : Staging := { staging0 .closed false 0 5 with relayAt := some k }; let s : State := { stagedUp (some g) with pair := { state := .active } }
      s.pair.inbox = [] ∧ s.boot.staging = some g ∧ g.relayAt = some k ∧ s.paired = true ∧ s.hallFree = true ∧ g.state = .closed ∧ (g.total ≤ k ↔ k = 4096)) := by decide +kernel

/-- Management associations of `act`. -/
def managed (a : Tab Assoc) : State := { act with boot := { act.boot with assocs := a, anchors := [9], acceptedFrom := some 4, stageOne := true } }

def recOf (b : Byte) : Bytes := [b]

theorem witness_ManagementNetwork_associations :
    (∀ a ∈ [[], [(0, { relay := false }), (1, { relay := false }), (2, { relay := false })], (List.range 4).map (fun n => (n, ({ relay := false } : Assoc)))], let s := managed a
      s.mgmtUp = true ∧ s.hallFree = true ∧ 9 ∈ s.boot.anchors ∧ 8 ∉ s.boot.anchors ∧ s.boot.acceptedFrom = some 4 ∧ s.boot.acceptedFrom ≠ some 5 ∧ mfind s.boot.assocs 4 = none ∧
      ((∀ n ∈ List.range 4, (mfind s.boot.assocs n).isSome = true) ∨ ∃ n ∈ List.range 4, mfind s.boot.assocs n = none ∧ ∀ k ∈ List.range n, (mfind s.boot.assocs k).isSome = true)) ∧
    (∀ t ∈ [159999999999 + 300 * 16000000000, 160000000000 + 300 * 16000000000], let a : Assoc := { relay := false, lastNt := 160000000000 }; let s0 := managed [(3, a)]
      let s : State := { s0 with time := { s0.time with nt := t } }
      mfind s.boot.assocs 3 = some a ∧ s.hallFree = true ∧ Ascending s.boot.assocs ∧ (a.lastNt + 300 * 16000000000 ≤ s.nt ↔ t = 160000000000 + 300 * 16000000000)) ∧
    (∀ run ∈ [none, some (cm 0x0801 255)], ∀ wt ∈ [[], [recOf 2], [recOf 2, recOf 3, recOf 4], [recOf 2, recOf 3, recOf 4, recOf 5]],
      let a : Assoc := { relay := false, session := true, enabled := 8191, running := run, waitingRecs := wt, lastRecord := [1], keptReply := some ({ status := 0 }, 0x0801) }; let s := managed [(0, a)]
      mfind s.boot.assocs 0 = some a ∧ s.mgmtUp = true ∧ s.hallFree = true ∧ a.keptReply = some ({ status := 0 }, 0x0801) ∧ [1] = a.lastRecord ∧ [9] ≠ a.lastTaken ∧ (a.running = none ↔ run = none) ∧
      (a.waitingRecs.length < 4 ∨ 4 ≤ a.waitingRecs.length)) := by decide +kernel

/-- A record of DEVICE_IDENTITY, of version `v`, with `n` bytes too many. -/
def rec0801 (v : Byte) (n : Nat) : Bytes := leBytes 2 0x0801 ++ [v, 0] ++ leBytes 4 7 ++ [255, 0, 0, 0] ++ leBytes 4 16 ++ zeroBytes (32 + n)

/-- A command record of an idle association that starts at once, is wrong, or waits for its turn. -/
theorem witness_ManagementNetwork_record :
    (∀ v ∈ [1#8, 2#8], ∀ n ∈ [0, 1], let a : Assoc := { relay := false, session := true, enabled := 8191 }; let s := managed [(0, a)]; let b := rec0801 v n
     let c := recordCmd b (9 + 0) s.nt s.host.orderCtr
     let u : State := { s with host := { s.host with orderCtr := s.host.orderCtr + 1 }, boot := { s.boot with assocs := mput s.boot.assocs 0 { a with lastNt := s.nt, running := some c, lastRecord := b, keptReply := none } } }
     b ≠ a.lastTaken ∧ a.running = none ∧ a.waitingRecs = [] ∧ u.fenced c = false ∧ u.outOfTurn (4096 + 0) c = false ∧ (headCheck u c = none ↔ v = 1#8 ∧ n = 0) ∧
     (opInfo (leAt b 0 2)).isSome = true) := by decide +kernel

/-- An ICMPv6 frame to the device of `act`, of a type, with a body; its checksum holds. -/
def icmp0 (type : Nat) (dst body : Bytes) : Bytes :=
  let msg := fun (sum : Nat) => beBytes 1 type ++ zeroBytes 1 ++ beBytes 2 sum ++ body
  act.portMac 0 ++ beBytes 6 0x020000000001 ++ beBytes 2 0x86DD ++ beBytes 4 0x60000000 ++ beBytes 2 (4 + body.length) ++ beBytes 1 58 ++ beBytes 1 255 ++
    beBytes 16 0xFE800000000000000000000000000001 ++ dst ++ msg (65535 - icmpSum (beBytes 16 0xFE800000000000000000000000000001) dst (msg 0))

theorem witness_ManagementNetwork_frames :
    (let s := managed []; s.mgmtUp = true ∧ s.hallFree = true ∧
      (∃ m ∈ (icmpOf (icmp0 128 s.linkLocal (zeroBytes 4))).toList, beAt m 0 1 = 128 ∧ beAt m 1 1 = 0) ∧ slice (icmp0 128 s.linkLocal (zeroBytes 4)) 38 16 = s.linkLocal ∧
      (∃ m ∈ (icmpOf (icmp0 135 s.linkLocal (zeroBytes 4 ++ s.linkLocal))).toList, beAt m 0 1 = 135 ∧ (s.advertise 0 (icmp0 135 s.linkLocal (zeroBytes 4 ++ s.linkLocal)) m).isSome = true) ∧
      (∃ m ∈ (icmpOf (icmp0 1 s.linkLocal (zeroBytes 4))).toList, beAt m 0 1 ≠ 128 ∧ beAt m 0 1 ≠ 135)) ∧
    (let s := managed []; (icmp0 128 s.linkLocal (zeroBytes 4)).take 6 = s.portMac 0 ∧ isRelay (List.replicate 60 1) = false ∧ (List.replicate 60 1#8).take 6 ≠ s.portMac 0 ∧ (List.replicate 60 1#8).take 6 ≠ s.portMac 1) := by decide +kernel

/-! ### Witnesses: the whole device; small tests -/

/-- The invariant of the sticky bits holds at reset, and a step from there with a command in front answers a next state. -/
theorem witness_FaultPinFollowsSticky : StickyInv State.reset ∧ ∃ t, step { State.reset with pending := [.heartbeat, .ready] } = .next t := by
  refine ⟨⟨fun n _ => ?_, ?_⟩, _, rfl⟩
  · simp [State.reset, State.stickyBit]
  · simp [State.reset, State.stickyBit]

theorem witness_StepsKeepQueueAndOutputs : ∃ s t, step s = .next t ∧ s.pending ≠ [] := ⟨{ act with pending := [.heartbeat] }, _, rfl, by simp⟩

theorem witness_StepRunsFront : step { act with pending := [.heartbeat, .ready] } = exec .heartbeat { act with pending := [.ready] } := rfl

/-- An empty queue: one Hall cycle passes, and nothing happens while the device stands still. -/
theorem test_idle : step State.reset = .next State.reset ∧ (∃ t, step act = .next t ∧ act.nt ≤ t.nt) := ⟨rfl, act.idle, rfl, by decide +kernel⟩

/-- CRC-64/ECMA-182 of the nine digits (R749). -/
theorem test_crc64_check : crc64 ((List.range 9).map (fun i => BitVec.ofNat 8 (49 + i))) = 0x6C40DF5F0B497347 := by decide +kernel

/-- The memories of the state after reset are in their canonical form. -/
theorem test_resetMemories : (State.reset.tiles.all (fun e => memWf e.2.mem)) = true := by decide +kernel

/-! ### Witnesses of statements over plain data -/

theorem witness_LowestRuleMatches :
    (let b : RuleBank := { rules := [(0, { value := 1, mask := 1, result := 0 }), (4095, { value := 0, mask := 0, result := BitVec.ofNat 64 (2 ^ 63) })] }; Ascending b.rules ∧ b.rules ≠ []) := by decide +kernel

theorem witness_WindowsAreHalfOpen :
    0 < 1 ∧ windowIndex 2 1 16000 = 0 ∧ windowIndex 2 1 47999 = 0 ∧ windowIndex 2 1 48000 = 1 ∧ windowIndex 2 1 15999 = -1 := by decide +kernel

theorem witness_WaitGraphIsExact :
    (let s := act.sampleWaits (waits0 (nodeId 3 0 4) 1)
     s.buildGraph.nodes.length < 131072 ∧ s.obs.waiting ≠ [] ∧ s.buildGraph.cycles.length < 4096) := by decide +kernel

end Sys2Proof.Tests
end

section
/-!
Proofs for the digest links (chapter 03): what counters and lanes read as after the operations that take a lane down and up,
and the statement about both.
-/
open Sys2Proof Sys2Proof.Machine Sys2Proof.Claims

namespace Sys2Proof.Machine

/-! ### Counters that an operation leaves -/

theorem satAdd_eq_min (m a b : Nat) : satAdd m a b = min m (a + b) := by
  unfold satAdd; split <;> omega

/-- R782: a record that is lost is counted at its buffer; a trace counts nothing else. -/
theorem State.ctr_trace_other (s : State) {b id : Nat} (r : TraceRec) (h : id ≠ bufCtr b 1) :
    (s.trace b r).ctr id = s.ctr id := by
  unfold State.trace; dsimp only; split
  · rfl
  · split
    · rfl
    · exact State.ctr_bumpN_other _ _ h

theorem State.ctr_fireIn_other (s : State) (bit : Nat) {b id : Nat} (h : id ≠ bufCtr b 1) :
    (s.fireIn bit b).ctr id = s.ctr id := by
  unfold State.fireIn; split
  · exact s.ctr_trace_other _ h
  · rfl

theorem State.ctr_fire_other (s : State) (bit : Nat) (bs : List Nat) {id : Nat} (h : ∀ b, id ≠ bufCtr b 1) :
    (s.fire bit bs).ctr id = s.ctr id :=
  foldl_keeps (fun t : State => t.ctr id) _ (fun t b => t.ctr_fireIn_other bit (h b)) bs s

theorem State.ctr_sendVector_other (s : State) {fn id : Nat} (v : Nat) (h : id ≠ Ctr.funcMsixSent fn) :
    (s.sendVector fn v).ctr id = s.ctr id := by
  unfold State.sendVector; split
  · rfl
  · exact State.ctr_bumpN_other _ _ h

theorem State.ctr_signalSticky_other (s : State) (n : Nat) {id : Nat} (h : ∀ fn, id ≠ Ctr.funcMsixSent fn) :
    (s.signalSticky n).ctr id = s.ctr id := by
  have h0 : (s.sendVector 0 0).ctr id = s.ctr id := s.ctr_sendVector_other 0 (h 0)
  unfold State.signalSticky; dsimp only; split
  · exact (foldl_keeps (fun t : State => t.ctr id) _ (fun t f => t.ctr_sendVector_other 0 (h f)) _ _).trans h0
  · exact h0

/-- R805, R807: setting a sticky bit counts vectors and lost records, and nothing else. -/
theorem State.ctr_setStickyIn_other (s : State) (b n : Nat) {id : Nat} (hb : ∀ b, id ≠ bufCtr b 1)
    (hf : ∀ fn, id ≠ Ctr.funcMsixSent fn) : (s.setStickyIn b n).ctr id = s.ctr id := by
  unfold State.setStickyIn; split
  · rfl
  · dsimp only
    rw [State.ctr_fire_other _ _ _ hb]
    split
    · rw [State.ctr_trace_other _ _ (hb 0), State.ctr_signalSticky_other _ _ hf]; rfl
    · rw [State.ctr_trace_other _ _ (hb b), State.ctr_trace_other _ _ (hb 0), State.ctr_signalSticky_other _ _ hf]; rfl

/-- R766: the identifiers of the lanes' counters are none of a trace buffer's. -/
theorem Ctr.lane_ne_bufCtr {i k : Nat} (hi : i < 48) (hk : k < 4096) (b : Nat) : Ctr.ident 4 i k ≠ bufCtr b 1 := by
  unfold bufCtr; split
  · simp only [Ctr.hallTraceRecords, Ctr.ident]; omega
  · split
    · simp only [Ctr.wingTraceRecords, Ctr.ident]; omega
    · simp only [Ctr.tileTraceRecords, Ctr.ident]; omega

theorem Ctr.lane_ne_funcMsixSent {i k : Nat} (hi : i < 48) (hk : k < 4096) (fn : Nat) :
    Ctr.ident 4 i k ≠ Ctr.funcMsixSent fn := by
  simp only [Ctr.funcMsixSent, Ctr.ident]; omega

/-- A sticky bit leaves every counter of the lanes. -/
theorem State.ctr_lane_setSticky (s : State) (n : Nat) {i k : Nat} (hi : i < 48) (hk : k < 4096) :
    (s.setSticky n).ctr (Ctr.ident 4 i k) = s.ctr (Ctr.ident 4 i k) :=
  s.ctr_setStickyIn_other 0 n (Ctr.lane_ne_bufCtr hi hk) (Ctr.lane_ne_funcMsixSent hi hk)

/-! ### Lanes -/

theorem State.lane_of_hall {s t : State} (h : t.hall = s.hall) (n : Nat) : t.lane n = s.lane n := by
  simp only [State.lane, h]

theorem State.dead_of_hallFree {s : State} (h : s.hallFree = true) : s.dead = false := by
  simp only [State.hallFree, Bool.and_eq_true, Bool.not_eq_true'] at h
  exact h.2

/-! ### Lane down (R117 to R120) -/

@[simp] theorem State.lane_dropLane (s : State) (n : Nat) :
    (s.dropLane n).lane n = { s.lane n with up := false, verdicts := [], onWire := 0, controlDue := false } :=
  State.lane_setLane ..

theorem State.lane_dropLane_other (s : State) {n j : Nat} (h : j ≠ n) : (s.dropLane n).lane j = s.lane j :=
  State.lane_setLane_other _ _ h

/-- R118: the records that were pending and those on the wire are counted as dropped. -/
theorem State.ctr_dropLane (s : State) (n : Nat) :
    (s.dropLane n).ctr (Ctr.laneVerdictsDroppedLink n) = min max64 (s.ctr (Ctr.laneVerdictsDroppedLink n) +
      ((s.lane n).verdicts.length + if s.nt < (s.lane n).lastTx then (s.lane n).onWire else 0)) :=
  (State.ctr_bumpN ..).trans (satAdd_eq_min ..)

theorem State.ctr_dropLane_other (s : State) {n id : Nat} (h : id ≠ Ctr.laneVerdictsDroppedLink n) :
    (s.dropLane n).ctr id = s.ctr id :=
  State.ctr_bumpN_other _ _ h

theorem Ctr.laneLinkDown_ne_laneVerdictsDroppedLink (n : Nat) :
    Ctr.laneLinkDown n ≠ Ctr.laneVerdictsDroppedLink n := by
  simp only [Ctr.laneLinkDown, Ctr.laneVerdictsDroppedLink, Ctr.ident]; omega

/-- R118, R120: the state after lane `n` has gone down. -/
def State.afterLaneDown (s : State) (n : Nat) : State := ((s.dropLane n).bump (Ctr.laneLinkDown n)).setSticky n

theorem exec_laneDown {lane : Nat} {s : State} (h : s.receives lane = true) :
    exec (.laneDown lane) s = .next (s.afterLaneDown lane) :=
  congrArg Host.Outcome.next (if_pos h)

@[simp] theorem State.afterLaneDown_hall (s : State) (n : Nat) : (s.afterLaneDown n).hall = (s.dropLane n).hall := by
  simp [State.afterLaneDown]

theorem State.lane_afterLaneDown (s : State) (n j : Nat) : (s.afterLaneDown n).lane j = (s.dropLane n).lane j :=
  State.lane_of_hall (s.afterLaneDown_hall n) j

theorem State.ctr_laneLinkDown_afterLaneDown (s : State) {n : Nat} (hn : n < 48) :
    (s.afterLaneDown n).ctr (Ctr.laneLinkDown n) = rose (s.ctr (Ctr.laneLinkDown n)) 1 := by
  calc (s.afterLaneDown n).ctr (Ctr.laneLinkDown n)
      = ((s.dropLane n).bump (Ctr.laneLinkDown n)).ctr (Ctr.laneLinkDown n) := State.ctr_lane_setSticky _ n hn (by omega)
    _ = satAdd max64 ((s.dropLane n).ctr (Ctr.laneLinkDown n)) 1 := State.ctr_bumpN ..
    _ = min max64 (s.ctr (Ctr.laneLinkDown n) + 1) := by
      rw [satAdd_eq_min, s.ctr_dropLane_other (Ctr.laneLinkDown_ne_laneVerdictsDroppedLink n)]

theorem State.ctr_laneVerdictsDroppedLink_afterLaneDown (s : State) {n : Nat} (hn : n < 48) :
    (s.afterLaneDown n).ctr (Ctr.laneVerdictsDroppedLink n) = (s.dropLane n).ctr (Ctr.laneVerdictsDroppedLink n) :=
  (State.ctr_lane_setSticky _ n hn (by omega)).trans
    (State.ctr_bumpN_other _ 1 (Ctr.laneLinkDown_ne_laneVerdictsDroppedLink n).symm)

theorem State.stickyBit_afterLaneDown (s : State) (n : Nat) {j : Nat} (hj : j < 256) :
    (s.afterLaneDown n).stickyBit j = (s.stickyBit j || decide (j = n)) :=
  State.stickyBit_setSticky _ hj

theorem laneGoesDown : LaneGoesDown := by
  intro lane s hlane hrec
  have hx : (s.afterLaneDown lane).lane lane = _ := (s.lane_afterLaneDown lane lane).trans (s.lane_dropLane lane)
  refine ⟨s.afterLaneDown lane, exec_laneDown hrec, ?up, ?verdicts, ?buf, ?sticky,
    s.ctr_laneLinkDown_afterLaneDown hlane,
    (s.ctr_laneVerdictsDroppedLink_afterLaneDown hlane).trans (s.ctr_dropLane lane),
    fun n hn => (s.lane_afterLaneDown lane n).trans (s.lane_dropLane_other hn), ?otherBits, ?pends, ?wing0, ?wing1, ?tiles⟩
  case up | verdicts | buf => rw [hx]
  case sticky => simp [s.stickyBit_afterLaneDown lane (show lane < 256 by omega)]
  case otherBits => intro n hn hn'; simp [s.stickyBit_afterLaneDown lane hn', hn]
  case pends => rw [State.afterLaneDown_hall]; rfl
  case wing0 | wing1 | tiles => simp [State.afterLaneDown, State.dropLane]

/-! ### Link up (R121, R123) -/

/-- R121, R123: the lane as its link starts at `nt`. -/
def Lane.linkStart (x : Lane) (nt : Nat) (withheld : Bool) : Lane :=
  { x with
    up := true, session := x.session + 1, limitSent := none, limitWas := none,
    limitStart := if withheld then 0 else 512, lastConsumed := 0, txSeq := 0, rxSeq := none, rxDiscard := 0, lastTx := nt,
    egressFree := nt, onWire := 0, controlDue := false, verdicts := [] }

/-- R118: slots of former links occupy nothing in the new one. -/
theorem Lane.occupied_linkStart (x : Lane) (nt : Nat) (w : Bool) (h : ∀ k ∈ x.buf, k.session ≤ x.session) :
    (x.linkStart nt w).occupied = 0 := by
  have hnone : x.buf.filter (fun k => k.session == x.session + 1) = [] := by
    rw [List.filter_eq_nil_iff]
    intro k hk
    have := h k hk
    simp only [beq_iff_eq]; omega
  change (x.buf.filter (fun k => k.session == x.session + 1)).foldl _ 0 = 0
  rw [hnone]; rfl

theorem Lane.lastLimit_linkStart (x : Lane) (nt : Nat) (w : Bool) :
    (x.linkStart nt w).lastLimit = if w then 0 else 512 := rfl

theorem Lane.limitAt_linkStart (x : Lane) (nt nt' : Nat) (w : Bool) (h : ∀ k ∈ x.buf, k.session ≤ x.session) :
    (x.linkStart nt w).limitAt nt' = 512 := by
  change (0 + 512 + 65536 - (x.linkStart nt w).occupied % 65536) % 65536 = 512
  rw [x.occupied_linkStart nt w h]

/-- R121, R535: a lane that may come up starts its link; of the Hall nothing else changes. -/
theorem exec_linkUp {lane : Nat} {s : State} (hn : lane < s.lanesN) (hdown : (s.lane lane).up = false)
    (hon : s.setting 0x2001 lane 0 = 1) (hset : s.time.state ≠ .unset) (hrun : s.time.stopped = false)
    (hfree : s.hallFree = true) (hserdes : s.power.serdesLost.contains (lane / 12) = false) (hboot : s.boot.stage = .done) :
    ∃ t, exec (.linkUp lane) s = .next t ∧
      t.hall = (s.setLane lane ((s.lane lane).linkStart s.nt s.hall.withheld)).hall := by
  have hdead : s.dead = false := State.dead_of_hallFree hfree
  refine ⟨_, congrArg Host.Outcome.next (if_pos ?_), rfl⟩
  exact ⟨hn, by simp [hdown], hon, hset, by simp [hrun], by simp [hdead], by rw [hserdes]; decide, hboot, hfree⟩

theorem laneComesUp : LaneComesUp := by
  intro lane s hn hdown hon hset hrun hfree hserdes hboot hold
  obtain ⟨t, ht, hhall⟩ := exec_linkUp hn hdown hon hset hrun hfree hserdes hboot
  have hx : t.lane lane = (s.lane lane).linkStart s.nt s.hall.withheld :=
    (State.lane_of_hall hhall lane).trans (State.lane_setLane ..)
  have hwith : t.hall.withheld = s.hall.withheld := by rw [hhall]; rfl
  have hlast : (t.lane lane).lastLimit = if s.hall.withheld then 0 else 512 := by
    rw [hx, Lane.lastLimit_linkStart]
  refine ⟨t, ht, ?up, ?txSeq, ?rxSeq, ?consumed, ?occupied, ?limitSent, ?limit, hlast, ?others⟩
  case up | txSeq | rxSeq | consumed | limitSent => rw [hx]; rfl
  case occupied => rw [hx]; exact Lane.occupied_linkStart _ _ _ hold
  case limit =>
    unfold State.limitToSend
    rw [hwith]
    split
    · next hw => rw [hlast, if_pos hw]
    · rw [hx]; exact Lane.limitAt_linkStart _ _ _ _ hold
  case others => exact fun n hne => (State.lane_of_hall hhall n).trans (State.lane_setLane_other _ _ hne)

/-- Settles O6: lane down by what each of its three operations leaves, link up by the fields of the lane as its link starts. -/
theorem lanesGoDownAndUp : Obligations.LanesGoDownAndUp := ⟨laneGoesDown, laneComesUp⟩

end Sys2Proof.Machine
end

section
/-!
Proofs for the Porch (chapter 04): the rule that classifies a key, a bank as a write leaves it, what a command that is ready makes
of its body, and the rule commands and the swap of the banks by these.
-/
open Sys2Proof Sys2Proof.Machine Sys2Proof.Claims

namespace Sys2Proof.Machine

/-! ### The rule of lowest index (R143, R149) -/

/-- In a table in ascending order, the first entry that a test accepts is the accepted one of lowest number. -/
theorem find?_eq_some_iff_lowest {α : Type} (p : Nat × α → Bool) {t : Tab α} (h : Ascending t) (i : Nat) (a : α) :
    t.find? p = some (i, a) ↔ (i, a) ∈ t ∧ p (i, a) = true ∧ ∀ e ∈ t, e.1 < i → p e = false := by
  induction t with
  | nil => simp
  | cons y t ih =>
    obtain ⟨hy, ht⟩ := List.pairwise_cons.1 h
    by_cases hp : p y = true
    · rw [List.find?_cons_of_pos hp]
      constructor
      · intro he
        cases he
        refine ⟨List.mem_cons_self, hp, fun e he hlt => ?_⟩
        rcases List.mem_cons.1 he with rfl | he
        · exact absurd hlt (Nat.lt_irrefl _)
        · exact absurd hlt (Nat.lt_asymm (hy e he))
      · rintro ⟨hmem, -, hmin⟩
        rcases List.mem_cons.1 hmem with he | hmem
        · rw [he]
        · exact absurd (hmin y List.mem_cons_self (hy _ hmem)) (by simp [hp])
    · have hne : p (i, a) = true → (i, a) ≠ y := fun hpa he => hp (he ▸ hpa)
      rw [List.find?_cons_of_neg hp, ih ht]
      constructor
      · rintro ⟨hmem, hpa, hmin⟩
        refine ⟨List.mem_cons_of_mem _ hmem, hpa, List.forall_mem_cons.2 ⟨fun _ => by simpa using hp, hmin⟩⟩
      · rintro ⟨hmem, hpa, hmin⟩
        exact ⟨(List.mem_cons.1 hmem).resolve_left (hne hpa), hpa, (List.forall_mem_cons.1 hmin).2⟩

theorem Rule.covers_iff (r : Rule) (k : BitVec 1024) : r.covers k = true ↔ (k ^^^ r.value) &&& r.mask = 0 :=
  beq_iff_eq

theorem RuleBank.lookup_eq_some_iff {b : RuleBank} {nt : Nat} (h : Ascending (b.rulesAt nt)) (key : Bytes) (i : Nat) (r : Rule) :
    b.lookup nt key = some (i, r) ↔
      (i, r) ∈ b.rulesAt nt ∧ (r.valid = true ∧ r.covers (BitVec.ofNat 1024 (leNat key)) = true) ∧
      ∀ e ∈ b.rulesAt nt, e.1 < i → e.2.valid = true → e.2.covers (BitVec.ofNat 1024 (leNat key)) ≠ true := by
  unfold RuleBank.lookup
  rw [find?_eq_some_iff_lowest _ h]
  simp only [Bool.and_eq_true, Bool.and_eq_false_imp, Bool.not_eq_true]

/-- R149: in the Hall cycle of a write and before it, the rules are those from before the write. -/
theorem RuleBank.rulesAt_write_of_le (b : RuleBank) {nt nt' : Nat} (index : Nat) (r : Rule) (h : nt' ≤ nt) :
    (b.write nt index r).rulesAt nt' = b.rulesAt nt :=
  if_pos h

theorem RuleBank.rulesAt_write_of_lt (b : RuleBank) {nt nt' : Nat} (index : Nat) (r : Rule) (h : nt < nt') :
    (b.write nt index r).rulesAt nt' = mput b.rules index r :=
  if_neg (Nat.not_le.2 h)

/-- R148: a write sets its own rule and no other. -/
theorem RuleBank.mfind_write (b : RuleBank) (nt index j : Nat) (r : Rule) :
    mfind (b.write nt index r).rules j = if j = index then some r else mfind b.rules j := by
  change mfind (mput b.rules index r) j = _
  split
  · next h => rw [h, mfind_mput_same]
  · next h => rw [mfind_mput_other _ _ h]

theorem lowestRuleMatches : LowestRuleMatches := by
  refine ⟨fun b nt key i r h => ?_, fun b nt nt' index j r => ⟨fun h => b.rulesAt_write_of_le index r h, fun h => ?_⟩⟩
  · simp only [RuleBank.lookup_eq_some_iff h, Rule.covers_iff, ne_eq, and_assoc]
  · rw [b.rulesAt_write_of_lt index r h]
    exact b.mfind_write nt index j r

/-! ### A command that is ready -/

section
variable {op : Nat} {i : Instr} {c : CmdIn} {s : State} {cmd : Cmd} (h : Ready op i c s cmd)
include h

/-- A ready command whose parameters are in range completes with the status that its body answers, when the reply buffer takes it. -/
theorem runCmd_completes {bad : List (Bool × Nat)} {body : Cmd → State → Option Status × State} {st : Status} {t : State}
    (hbad : ∀ b ∈ bad, b.1 = false) (hbody : body cmd s = (some st, t)) (hreply : replied c s st t = (st, t)) :
    runCmd op i c bad s body = t.complete c.ring st := by
  obtain ⟨hcmd, hop, hstart, hfence, hfree, hturn, hhead, hdata, hspell, hread, hrsv, hrest⟩ := h
  have hfault : paramFault c.rsvAt (s.paramRest i c.ring cmd) bad = none := by
    rw [hrsv, hrest]; exact (paramFault_none bad).2 hbad
  rw [runCmd_start op i c bad s body _ _ _ _ hcmd hop hstart hfence hfree hturn hhead hread rfl rfl hspell hfault hdata hdata
    (by simp), hbody]
  dsimp only
  rw [hreply]

/-- A ready read command without parameters to check answers what its body gives, when the reply fits its buffer. -/
theorem runRead_replies {body : Cmd → State → Status} {reply : Bytes} (hroom : Room c reply.length)
    (hbody : body cmd s = okReply reply) : runRead op i c [] s body = s.complete c.ring (okReply reply) := by
  unfold runRead runNow
  exact runCmd_completes h (by simp) (by simp only [hbody, ite_self]) (replied_fits c s (okReply reply) s hroom.1 hroom.2)

end

/-! ### Mirrored commands outside a pair (R748) -/

section
variable {s : State} (h : Alone s)
include h

theorem State.voting_of_alone : s.voting = false := by
  simp [State.voting, h.2]

/-- Outside a pair a mirrored command waits for no vote. -/
theorem ite_voting_of_alone (t : State) : (if s.voting then s else t) = t := by
  simp [State.voting_of_alone h]

/-- A mirrored command that its conditions refuse changes nothing. -/
theorem mirrored_of_fault {c : CmdIn} {m : MirrorCmd} {cmd : Cmd} {st : Status}
    (hfault : m.fault s cmd.fn (some cmd.fetchNt) = some st) : mirrored c m cmd s = (some st, s) := by
  simp [mirrored, h.1, hfault]

/-- Outside a pair a mirrored command other than PARTITION_RELEASE takes effect and completes at once. -/
theorem mirrored_of_alone {c : CmdIn} {m : MirrorCmd} {cmd : Cmd} (hfault : m.fault s cmd.fn (some cmd.fetchNt) = none)
    (hrel : m.isRelease = false) : mirrored c m cmd s = (some okStatus, m.apply s s.nt false (some c.ring)) := by
  simp [mirrored, h.1, h.2, hfault, hrel, State.noRoom]

end

/-! ### RULE_WRITE and RULE_READ (R148, R152) -/

/-- A part of a field of zero bits holds zero bits. -/
theorem bitsOf_eq_zero_of_within {n lo w lo' w' : Nat} (h : bitsOf n lo w = 0) (hlo : lo ≤ lo') (hhi : lo' + w' ≤ lo + w) :
    bitsOf n lo' w' = 0 := by
  have hpart : bitsOf n lo' w' = bitsOf (bitsOf n lo w) (lo' - lo) w' := by
    apply Nat.eq_of_testBit_eq
    intro j
    simp only [bitsOf, ← Nat.shiftRight_eq_div_pow, Nat.testBit_mod_two_pow, Nat.testBit_shiftRight]
    by_cases hj : j < w'
    · simp only [hj, show lo' - lo + j < w by omega, show lo + (lo' - lo + j) = lo' + j by omega, decide_true, Bool.true_and]
    · simp [hj]
  rw [hpart, h]
  simp [bitsOf]

/-- R11: a rule whose fields are in range and whose reserved bits are 0 has no bad parameter. -/
theorem Rule.bad_of_inRange {r : Rule} {parts : Nat} (hpart : r.partition < parts) (hmode : r.keyMode ≤ 1)
    (hres : bitsOf r.result.toNat 10 6 = 0) (hhigh : bitsOf r.result.toNat 32 32 = 0)
    (hkey : ∀ e ∈ keyReserved, bitsOf r.value.toNat (8 * e.1 + e.2.1) e.2.2 = 0) : ∀ b ∈ r.bad parts, b.1 = false := by
  have hbyte : ∀ lo, 32 ≤ lo → lo ≤ 56 → bitsOf r.result.toNat lo 8 = 0 :=
    fun lo h h' => bitsOf_eq_zero_of_within hhigh h (by omega)
  intro b hb
  rcases List.mem_append.1 hb with hb | hb
  · simp only [List.mem_cons, List.not_mem_nil, or_false] at hb
    rcases hb with rfl | rfl | rfl | rfl | rfl | rfl
    · simp [hpart]
    · simp [hmode, hres]
    all_goals simp [hbyte]
  · obtain ⟨e, he, rfl⟩ := List.mem_map.1 hb
    simp [hkey e he]

theorem State.ruleFault_none {s : State} {bank index : Nat} {r : Rule} (harm : s.hall.armedSwap = none)
    (hclash : s.keyModeClash bank index r = false) (hpair : s.paired = false) : s.ruleFault bank index r = none := by
  simp [State.ruleFault, State.bankFault, harm, hclash, hpair]

theorem State.bank_writeRule (s : State) (bank index : Nat) (r : Rule) :
    (s.writeRule bank index r).bank (if bank = 0 then 0 else 1) =
      (s.bank (if bank = 0 then 0 else 1)).write s.nt index r := by
  by_cases h : bank = 0 <;> simp [State.writeRule, State.bank, h]

theorem State.bank_writeRule_other (s : State) (bank index : Nat) (r : Rule) :
    (s.writeRule bank index r).bank (if bank = 0 then 1 else 0) = s.bank (if bank = 0 then 1 else 0) := by
  by_cases h : bank = 0 <;> simp [State.writeRule, State.bank, h]

theorem State.writeRule_frame (s : State) (bank index : Nat) (r : Rule) :
    s.writeRule bank index r = { s with hall := { s.hall with
      bank0 := (s.writeRule bank index r).hall.bank0, bank1 := (s.writeRule bank index r).hall.bank1 } } := by
  by_cases h : bank = 0 <;> simp [State.writeRule, h]

theorem exec_ruleWrite {c : CmdIn} {bank index : Nat} {r : Rule} {s : State} {cmd : Cmd}
    (h : Ready 0x0207 (.ruleWrite c bank index r) c s cmd) (halone : Alone s) (hbad : ∀ b ∈ r.bad s.partsN, b.1 = false)
    (hfault : s.ruleFault bank index r = none) :
    Succeeds (.ruleWrite c bank index r) c s (s.writeRule bank index r) := by
  have hr : ({ value := r.value, mask := r.mask, result := BitVec.ofNat 64 r.result.toNat } : Rule) = r := by
    rw [BitVec.ofNat_toNat, BitVec.setWidth_eq]
  have hbody : mirrored c (.rule bank index r.result.toNat r.value r.mask) cmd s = (some okStatus, s.writeRule bank index r) := by
    rw [mirrored_of_alone halone (by simpa only [MirrorCmd.fault, hr]) rfl]
    simp only [MirrorCmd.apply, hr]
  exact congrArg Host.Outcome.next
    ((ite_voting_of_alone halone _).trans (runCmd_completes h hbad hbody (replied_empty _ _ _ _ rfl)))

theorem length_leBytes (w n : Nat) : (leBytes w n).length = w := by
  induction w generalizing n with
  | zero => rfl
  | succ w ih => simp [leBytes, ih]

theorem leBytes_zero (w : Nat) : leBytes w 0 = zeroBytes w := by
  induction w with
  | zero => rfl
  | succ w ih => simp [leBytes, ih, zeroBytes, List.replicate_succ]

/-- Table 04-6: a rule in RULE_READ's reply, which is 264 zero bytes for one that was never written. -/
def ruleImage : Option Rule → Bytes
  | some r => leBytes 8 r.result.toNat ++ leBytes 128 r.value.toNat ++ leBytes 128 r.mask.toNat
  | none => zeroBytes 264

theorem ruleImage_getD (x : Option Rule) :
    leBytes 8 (x.getD noRule).result.toNat ++ leBytes 128 (x.getD noRule).value.toNat ++ leBytes 128 (x.getD noRule).mask.toNat =
      ruleImage x := by
  cases x with
  | none => simp only [Option.getD_none, noRule, BitVec.ofNat_eq_ofNat, BitVec.toNat_zero, leBytes_zero, zeroBytes,
      List.replicate_append_replicate, ruleImage]
  | some r => rfl

theorem length_ruleImage (x : Option Rule) : (ruleImage x).length = 264 := by
  simp only [← ruleImage_getD, List.length_append, length_leBytes]

theorem exec_ruleRead {c : CmdIn} {bank index : Nat} {s : State} {cmd : Cmd} (h : Ready 0x0208 (.ruleRead c bank index) c s cmd)
    (hroom : Room c 272) :
    Replies (.ruleRead c bank index) c s s
      (leBytes 2 bank ++ leBytes 2 index ++ zeroBytes 4 ++ ruleImage (mfind (s.bank bank).rules index)) := by
  refine congrArg Host.Outcome.next (runRead_replies h ?room ?body)
  case room => simpa only [List.length_append, length_leBytes, length_ruleImage, zeroBytes, List.length_replicate] using hroom
  case body => simp only [← ruleImage_getD, List.append_assoc]

/-! ### RULE_BANK_ARM and RULE_BANK_QUERY (R150) -/

theorem State.instantFault_none {s : State} (hset : s.time.state ≠ .unset) (hrun : s.time.stopped = false) :
    s.instantFault = none := by
  simp [State.instantFault, hset, hrun]

/-- R542: 10 ms are 160,000,000 units of NT. -/
theorem leadOk_iff (nt t : Nat) : leadOk nt t = true ↔ nt + 160000000 ≤ t ∧ t ≤ nt + 86400 * 16000000000 := by
  simp only [leadOk, Bool.and_eq_true, decide_eq_true_eq]
  exact Iff.rfl

theorem exec_ruleBankArm {c : CmdIn} {T : Nat} {s : State} {cmd : Cmd} (h : Ready 0x0209 (.ruleBankArm c T) c s cmd)
    (halone : Alone s) {st : Status} {t : State} (hbody : mirrored c (.bankArm T) cmd s = (some st, t)) (hreply : st.reply = []) :
    Gives (.ruleBankArm c T) s (t.complete c.ring st) :=
  congrArg Host.Outcome.next
    ((ite_voting_of_alone halone _).trans (runCmd_completes h (by simp) hbody (replied_empty _ _ _ _ hreply)))

section
variable {s : State} (hset : s.time.state ≠ .unset) (hrun : s.time.stopped = false)
include hset hrun

theorem State.bankArmFault_none {T nt : Nat} (hlead : leadOk nt T = true) (harm : s.hall.armedSwap = none) :
    s.bankArmFault T (some nt) = none := by
  simp [State.bankArmFault, State.instantFault_none hset hrun, hlead, harm]

theorem State.bankArmFault_lead {T nt : Nat} (hlead : leadOk nt T = false) : s.bankArmFault T (some nt) = some (badParam 32) := by
  simp [State.bankArmFault, State.instantFault_none hset hrun, hlead]

theorem State.bankArmFault_armed {T nt : Nat} (hlead : leadOk nt T = true) (harm : s.hall.armedSwap ≠ none) :
    s.bankArmFault T (some nt) = some (fail stBusy) := by
  simp [State.bankArmFault, State.instantFault_none hset hrun, hlead, Option.isSome_iff_ne_none.2 harm]

end

theorem exec_ruleBankQuery {c : CmdIn} {s : State} {cmd : Cmd} (h : Ready 0x020A (.ruleBankQuery c) c s cmd) (hroom : Room c 16) :
    Replies (.ruleBankQuery c) c s s
      (leBytes 8 (s.hall.activeBank + 2 * b2n s.hall.armedSwap.isSome) ++ leBytes 8 (s.hall.armedSwap.getD 0)) := by
  refine congrArg Host.Outcome.next (runRead_replies h ?_ rfl)
  simpa only [List.length_append, length_leBytes] using hroom

/-! ### The swap (R151, R153) -/

/-- R151: the other bank is active, and no swap is armed any more. -/
def State.swapBanks (s : State) (T : Nat) : State :=
  { s with hall := { s.hall with activeBank := 1 - s.hall.activeBank, armedSwap := none, swaps := T :: s.hall.swaps } }

theorem exec_bankSwap {T : Nat} {s : State} (hfree : s.hallFree = true) (harm : s.hall.armedSwap = some T) (hdue : T ≤ s.nt) :
    Gives .bankSwap s ((s.swapBanks T).bump Ctr.hallPorchBankSwap) := by
  change execBankSwap s = _
  simp only [execBankSwap, State.whenFree, hfree, harm, if_true, Nat.not_lt.2 hdue, decide_false, Bool.false_eq_true, if_false]
  rfl

theorem State.bankAt_of_hall {s t : State} (h : t.hall = s.hall) (stamp : Nat) : t.bankAt stamp = s.bankAt stamp := by
  simp only [State.bankAt, h]

/-- R151: a swap after the stamp is one more to undo from the other bank; one that does not come after it was counted while armed. -/
theorem State.bankAt_swapBanks {s : State} {T : Nat} (harm : s.hall.armedSwap = some T) (hact : s.hall.activeBank ≤ 1)
    (stamp : Nat) : (s.swapBanks T).bankAt stamp = s.bankAt stamp := by
  rcases Nat.lt_or_ge stamp T with hlt | hge
  · simp only [State.bankAt, State.swapBanks, harm, List.filter_cons, hlt, Nat.not_le.2 hlt, decide_true, decide_false, if_true,
      Bool.false_eq_true, if_false, List.length_cons, b2n]
    split <;> split <;> omega
  · simp only [State.bankAt, State.swapBanks, harm, List.filter_cons, hge, Nat.not_lt.2 hge, decide_true, decide_false, if_true,
      Bool.false_eq_true, if_false, b2n]
    split <;> split <;> omega

/-! ### The statement -/

theorem ruleBanks : RuleBanks := by
  refine ⟨?write, ?read, ?arm, ?armFails, ?query, ?swap⟩
  case write =>
    intro c bank index r s cmd h halone hpart hmode hres hhigh hkey harm hclash hpair
    refine ⟨s.writeRule bank index r, exec_ruleWrite h halone (Rule.bad_of_inRange hpart hmode hres hhigh hkey)
      (State.ruleFault_none harm hclash hpair), ?_, fun i hi => ?_, s.bank_writeRule_other bank index r, s.writeRule_frame bank index r⟩
    · rw [s.bank_writeRule, RuleBank.mfind_write, if_pos rfl]
    · rw [s.bank_writeRule, RuleBank.mfind_write, if_neg hi]
  case read =>
    intro c bank index s cmd h hroom
    have hread := exec_ruleRead h hroom
    cases hrule : mfind (s.bank bank).rules index <;> simpa only [hrule, ruleImage] using hread
  case arm =>
    intro c T s cmd h halone hset hrun hlo hhi harm
    have hlead : leadOk cmd.fetchNt T = true := (leadOk_iff _ _).2 ⟨hlo, hhi⟩
    exact exec_ruleBankArm h halone (mirrored_of_alone halone (State.bankArmFault_none hset hrun hlead harm) rfl) rfl
  case armFails =>
    intro c T s cmd h halone hset hrun
    refine ⟨fun hlo => ⟨32, ?_⟩, fun hlo hhi harm => ⟨0, ?_⟩⟩
    · have hlead : leadOk cmd.fetchNt T = false := by
        rw [← Bool.not_eq_true, leadOk_iff]; omega
      exact exec_ruleBankArm h halone (mirrored_of_fault halone (State.bankArmFault_lead hset hrun hlead)) rfl
    · have hlead : leadOk cmd.fetchNt T = true := (leadOk_iff _ _).2 ⟨hlo, hhi⟩
      exact exec_ruleBankArm h halone (mirrored_of_fault halone (State.bankArmFault_armed hset hrun hlead harm)) rfl
  case query =>
    intro c s cmd h hroom _
    have hquery := exec_ruleBankQuery h hroom
    cases harm : s.hall.armedSwap with
    | none => simpa [harm, b2n, leBytes_zero] using hquery
    | some T => simpa [harm, b2n] using hquery
  case swap =>
    intro T s hfree harm hdue hact
    refine ⟨_, exec_bankSwap hfree harm hdue, rfl, rfl, rfl, rfl, fun stamp => ?_, ?_⟩
    · exact (State.bankAt_of_hall (State.bump_hall _ _) stamp).trans (State.bankAt_swapBanks harm hact stamp)
    · exact (State.ctr_bumpN ..).trans (satAdd_eq_min ..)

/-- Settles O9: the first accepted entry of a table in ascending order is the lowest one; each rule command by what its body
answers outside a pair; the swap by the parity of the swaps after a stamp. -/
theorem rulesClassify : Obligations.RulesClassify := ⟨lowestRuleMatches, ruleBanks⟩

end Sys2Proof.Machine
end

section
/-!
Proofs for windows of time (chapter 05): the window of an instant as an interval, the counts of a window after a token is counted
or counts are retired, and the edge of a window by the three operations that it is made of.
-/
open Sys2Proof Sys2Proof.Machine Sys2Proof.Claims

namespace Sys2Proof.Machine

/-! ### The window of an instant (R195) -/

theorem windowIndex_of_pos {length : Nat} (h : 0 < length) (phase t : Nat) :
    windowIndex length phase t = ((t : Int) - (16000 * phase : Nat)) / ((16000 * length : Nat) : Int) :=
  if_neg h.ne'

/-- An integer is the floor of a quotient when the dividend lies from its multiple of the divisor on and before the next one. -/
theorem windowsAreHalfOpen : WindowsAreHalfOpen := by
  intro length phase t k h
  have hpos : (0 : Int) < ((16000 * length : Nat) : Int) := by omega
  rw [windowIndex_of_pos h, le_antisymm_iff, ← Int.lt_add_one_iff, Int.ediv_lt_iff_lt_mul hpos, Int.le_ediv_iff_mul_le hpos,
    and_comm, le_sub_iff_add_le', sub_lt_iff_lt_add']

/-! ### The counts of a window (R203 to R206) -/

theorem winFind_cons (c : WinCount) (cs : List WinCount) (epoch : Nat) (k : Int) :
    winFind (c :: cs) epoch k = if c.epoch = epoch ∧ c.index = k then (c.pkts, c.bytes) else winFind cs epoch k := by
  unfold winFind
  split_ifs with h
  · rw [List.find?_cons_of_pos (by simpa using h)]
  · rw [List.find?_cons_of_neg (by simpa using h)]

theorem winFind_cons_of_ne {c : WinCount} {epoch : Nat} {k : Int} (cs : List WinCount)
    (h : ¬ (c.epoch = epoch ∧ c.index = k)) :
    winFind (c :: cs) epoch k = winFind cs epoch k := by
  rw [winFind_cons, if_neg h]

/-- A filter that keeps the counts of a window leaves what the window counts. -/
theorem winFind_filter_of_kept {p : WinCount → Bool} {epoch : Nat} {k : Int}
    (h : ∀ c, c.epoch = epoch → c.index = k → p c = true) (cs : List WinCount) :
    winFind (cs.filter p) epoch k = winFind cs epoch k := by
  induction cs with
  | nil => rfl
  | cons c cs ih =>
    by_cases hp : p c = true
    · rw [List.filter_cons_of_pos hp, winFind_cons, winFind_cons, ih]
    · rw [List.filter_cons_of_neg hp, ih, winFind_cons_of_ne cs fun hc => hp (h c hc.1 hc.2)]

/-- A filter that drops the counts of a window leaves it without any. -/
theorem winFind_filter_of_dropped {p : WinCount → Bool} {epoch : Nat} {k : Int}
    (h : ∀ c, c.epoch = epoch → c.index = k → p c = false) (cs : List WinCount) :
    winFind (cs.filter p) epoch k = (0, 0) := by
  induction cs with
  | nil => rfl
  | cons c cs ih =>
    by_cases hp : p c = true
    · rw [List.filter_cons_of_pos hp, winFind_cons_of_ne _ fun hc => by simp [h c hc.1 hc.2] at hp, ih]
    · rw [List.filter_cons_of_neg hp, ih]

section
variable (cs : List WinCount) (epoch : Nat) (k : Int) (n : Nat)

theorem winFind_winAdd_same :
    winFind (winAdd cs epoch k n) epoch k =
      (satAdd 4294967295 (winFind cs epoch k).1 1, satAdd 4294967295 (winFind cs epoch k).2 n) := by
  have hkept : winFind (cs.filter (fun c => c.epoch == epoch)) epoch k = winFind cs epoch k :=
    winFind_filter_of_kept (fun c he _ => by simp [he]) cs
  simp only [winAdd, winFind_cons, hkept, and_self, if_true]

theorem winFind_winAdd_other {j : Int} (h : j ≠ k) : winFind (winAdd cs epoch k n) epoch j = winFind cs epoch j := by
  unfold winAdd
  rw [winFind_cons_of_ne _ fun hc => h hc.2.symm, winFind_filter_of_kept fun c _ hi => by simp [hi, h],
    winFind_filter_of_kept fun c he _ => by simp [he]]

/-- R206: the first token of an epoch leaves no counts of another. -/
theorem winFind_winAdd_otherEpoch {e : Nat} (h : e ≠ epoch) (j : Int) : winFind (winAdd cs epoch k n) e j = (0, 0) := by
  unfold winAdd
  rw [winFind_cons_of_ne _ fun hc => h hc.1.symm, List.filter_filter,
    winFind_filter_of_dropped fun c he _ => by simp [he, h]]

end

theorem partitionWindowsCount : PartitionWindowsCount := by
  intro cs epoch n k j
  exact ⟨winFind_winAdd_same cs epoch k n, winFind_winAdd_other cs epoch k n,
    fun e he => winFind_winAdd_otherEpoch cs epoch k n he j,
    fun since length phase => ⟨fun h => if_pos h, fun h => if_neg (not_lt.2 h)⟩⟩

/-! ### The least stamp (R205) -/

theorem foldl_min_le (l : List Nat) (t : Nat) : ∀ x ∈ t :: l, l.foldl min t ≤ x :=
  (List.le_min?_iff List.min?_cons').1 le_rfl

theorem State.leastStamp_le (s : State) (t : Nat) : s.leastStamp t ≤ t := foldl_min_le _ t t List.mem_cons_self

theorem State.leastStamp_le_at (s : State) (t : Nat) {l : Nat × Lane} (hl : l ∈ s.hall.lanes) {x : Slot} (hx : x ∈ l.2.buf) :
    s.leastStamp t ≤ x.at_ :=
  foldl_min_le _ t x.at_
    (List.mem_cons_of_mem _ (List.mem_append_left _ (List.mem_flatMap.2 ⟨l, hl, List.mem_map.2 ⟨x, hx, rfl⟩⟩)))

/-! ### Occurrences that start and that are queued (R543 to R545) -/

/-- Of the time base, an occurrence that starts changes its block's queue alone. -/
theorem State.startOcc_time (s : State) (b : Nat) (o : Occ) :
    (s.startOcc b o).time = (s.setQueue b (s.queueOf b).tail).time := by
  simp only [State.startOcc]; split <;> simp

theorem State.queueOf_startOcc (s : State) (b : Nat) (o : Occ) : (s.startOcc b o).queueOf b = (s.queueOf b).tail := by
  rw [State.queueOf, State.startOcc_time]; exact State.queueOf_setQueue ..

/-- The stamps that may still arrive are those from before the occurrence started. -/
theorem State.leastStamp_startOcc (s : State) (b : Nat) (o : Occ) (t : Nat) : (s.startOcc b o).leastStamp t = s.leastStamp t := by
  simp only [State.leastStamp, State.leastArrival, State.stampSlack, State.nt, State.startOcc_hall, State.startOcc_pair,
    State.startOcc_time, State.setQueue]

theorem mem_insertOcc_self (o : Occ) (q : List Occ) : o ∈ insertOcc o q := by
  induction q with
  | nil => simp [insertOcc]
  | cons p q ih => unfold insertOcc; split <;> simp [ih]

theorem length_insertOcc (o : Occ) (q : List Occ) : (insertOcc o q).length = q.length + 1 := by
  induction q with
  | nil => rfl
  | cons p q ih => unfold insertOcc; split <;> simp [ih]

/-- R549: an occurrence for which the queue has room takes its place in it. -/
theorem State.queueOf_enqueue_of_room {s : State} {b : Nat} (h : (s.queueOf b).length < 1024) (o : Occ) :
    (s.enqueue b o).queueOf b = insertOcc o (s.queueOf b) := by
  simp only [State.enqueue, if_pos h, State.queueOf_setQueue]

/-- The head of the queue of a block whose clock runs is due from its instant on. -/
theorem State.dueIs_of_head {s : State} {b : Nat} {o : Occ} {rest : List Occ} (hrun : s.blkStopped b = false)
    (hdead : s.dead = false) (hq : s.queueOf b = o :: rest) (hdue : o.instant ≤ s.nt) : s.dueIs b o.kind o.key = some o := by
  simp [State.dueIs, State.dueOcc, hrun, hdead, hq, hdue]

/-! ### The edge of a window (R205) -/

theorem State.winCounts_of_hall {s t : State} (h : t.hall = s.hall) (p n : Nat) : t.winCounts p n = s.winCounts p n := by
  simp only [State.winCounts, h]

section
variable (s : State) (p n epoch : Nat) (k : Int)

theorem State.winCounts_retireWindows :
    (s.retireWindows p n epoch k).winCounts p n =
      (s.winCounts p n).filter (fun c => !(c.epoch == epoch && decide (c.index ≤ k - 2))) := mget_mput_same ..

theorem State.windows_retireWindows_other {q : Nat} (h : q ≠ 2 * p + n) :
    mget [] (s.retireWindows p n epoch k).hall.windows q = mget [] s.hall.windows q := mget_mput_other _ _ _ h

theorem State.queueOf_retireWindows (b : Nat) : (s.retireWindows p n epoch k).queueOf b = s.queueOf b := rfl

theorem State.winFind_retireWindows_kept {w : Int} (h : k - 2 < w) :
    winFind ((s.retireWindows p n epoch k).winCounts p n) epoch w = winFind (s.winCounts p n) epoch w := by
  rw [State.winCounts_retireWindows]
  exact winFind_filter_of_kept (fun c _ hi => by simp [hi, h]) _

theorem State.winFind_retireWindows_retired {w : Int} (h : w ≤ k - 2) :
    winFind ((s.retireWindows p n epoch k).winCounts p n) epoch w = (0, 0) := by
  rw [State.winCounts_retireWindows]
  exact winFind_filter_of_dropped (fun c he hi => by simp [he, hi, h]) _

end

/-- The state after the edge `o` of a partition's window slot of length `L` and phase `P` has started in an epoch. -/
def State.afterWindowEdge (s : State) (p slot : Nat) (o : Occ) (epoch L P : Nat) : State :=
  ((s.startOcc blkFeature o).retireWindows p slot epoch (windowIndex L P (s.leastStamp o.instant))).enqueue blkFeature
    { o with instant := o.instant + 16000 * L }

section
variable (s : State) (p slot : Nat) (o : Occ) (epoch L P : Nat)

/-- Of the Hall, the edge changes what the retirement changes. -/
theorem State.afterWindowEdge_hall :
    (s.afterWindowEdge p slot o epoch L P).hall =
      (s.retireWindows p slot epoch (windowIndex L P (s.leastStamp o.instant))).hall := by
  rw [State.afterWindowEdge, State.enqueue_hall]
  simp only [State.retireWindows, State.winCounts, State.startOcc_hall]

theorem State.queueOf_afterWindowEdge (h : (s.queueOf blkFeature).tail.length < 1024) :
    (s.afterWindowEdge p slot o epoch L P).queueOf blkFeature =
      insertOcc { o with instant := o.instant + 16000 * L } (s.queueOf blkFeature).tail := by
  have hq : ((s.startOcc blkFeature o).retireWindows p slot epoch (windowIndex L P (s.leastStamp o.instant))).queueOf blkFeature =
      (s.queueOf blkFeature).tail := (State.queueOf_retireWindows ..).trans (State.queueOf_startOcc ..)
  rw [State.afterWindowEdge, State.queueOf_enqueue_of_room (hq ▸ h), hq]

end

theorem exec_windowEdge {p slot L P : Nat} {s : State} {o : Occ} {e : Epoch} {img : Image}
    (hdue : s.dueIs blkFeature evWindowEdge (windowKey p slot) = some o) (he : (s.partOf p).running = some e)
    (himg : (s.partOf p).image e.slot = some img) (hwin : img.window slot = (L, P)) :
    Gives (.windowEdge p slot) s (s.afterWindowEdge p slot o e.number L P) := by
  have hpart : (s.startOcc blkFeature o).partOf p = s.partOf p := by simp only [State.partOf, State.startOcc_parts]
  change execWindowEdge p slot s = _
  simp only [execWindowEdge, hdue, hpart, he, himg, hwin, Option.bind_some, Option.map_some, State.leastStamp_startOcc,
    State.afterWindowEdge]

theorem windowEdgeRetires : WindowEdgeRetires := by
  intro p slot s o rest e img L P _ _ hdead hq hroom hinst hkind hkey he himg hwin k
  have hdue : s.dueIs blkFeature evWindowEdge (windowKey p slot) = some o := by
    have h := State.dueIs_of_head rfl hdead hq hinst
    rwa [hkind, hkey] at h
  have hcounts : (s.afterWindowEdge p slot o e.number L P).winCounts p slot =
      (s.retireWindows p slot e.number k).winCounts p slot :=
    State.winCounts_of_hall (s.afterWindowEdge_hall ..) p slot
  have hqueue := s.queueOf_afterWindowEdge p slot o e.number L P (by simpa [hq] using hroom)
  rw [hq, List.tail_cons] at hqueue
  refine ⟨s.leastStamp_le _, fun l hl x hx => s.leastStamp_le_at _ hl hx, s.afterWindowEdge p slot o e.number L P,
    exec_windowEdge hdue he himg hwin, fun w => ?counts, ?next, ?length, fun q hne => ?others⟩
  case counts =>
    rw [hcounts]
    exact ⟨s.winCounts_retireWindows .., s.winFind_retireWindows_kept p slot e.number k,
      s.winFind_retireWindows_retired p slot e.number k⟩
  case next => rw [hqueue]; exact ⟨_, mem_insertOcc_self _ rest, rfl, hkind, hkey⟩
  case length => rw [hqueue, length_insertOcc]
  case others => rw [s.afterWindowEdge_hall]; exact s.windows_retireWindows_other p slot e.number k hne

/-- Settles O10: the window of an instant by the bounds of a floor, the counts by what a filter keeps of a window, the edge as
a start, a retirement and an enqueueing. -/
theorem windowsCount : Obligations.WindowsCount := ⟨windowsAreHalfOpen, partitionWindowsCount, windowEdgeRetires⟩

end Sys2Proof.Machine
end

section
/-!
Proofs for the flow table's entries and learn notices (chapter 06): fields of byte strings that are put together, an entry's bytes
field by field, the fields of a handle, and what a learn notice does in each of its cases.
-/
open Sys2Proof Sys2Proof.Machine Sys2Proof.Claims

namespace Sys2Proof.Machine

/-! ### Fields of byte strings (R5) -/

theorem leNat_leBytes (w n : Nat) : leNat (leBytes w n) = n % 256 ^ w := by
  induction w generalizing n with
  | zero => simp [leBytes, leNat, Nat.mod_one]
  | succ w ih =>
    calc leNat (leBytes (w + 1) n) = n % 256 + 256 * (n / 256 % 256 ^ w) := by
          rw [leBytes, leNat, ih, BitVec.toNat_ofNat]
      _ = n % 256 ^ (w + 1) := by rw [pow_succ', Nat.mod_mul]

/-- A field of a string of bytes that starts with a field of `w` bytes: behind it. -/
theorem slice_leBytes_append_of_le {w off : Nat} (h : w ≤ off) (n : Nat) (b : Bytes) (len : Nat) :
    slice (leBytes w n ++ b) off len = slice b (off - w) len := by
  have hlen := length_leBytes w n
  rw [slice, List.drop_append, List.drop_eq_nil_of_le (hlen.trans_le h), List.nil_append, hlen, slice]

theorem leAt_leBytes_append_of_le {w off : Nat} (h : w ≤ off) (n : Nat) (b : Bytes) (len : Nat) :
    leAt (leBytes w n ++ b) off len = leAt b (off - w) len :=
  congrArg leNat (slice_leBytes_append_of_le h n b len)

/-- A number that fits its field reads back from it. -/
theorem leAt_leBytes_append {w n : Nat} (h : n < 256 ^ w) (b : Bytes) : leAt (leBytes w n ++ b) 0 w = n := by
  have hslice : slice (leBytes w n ++ b) 0 w = leBytes w n := List.take_left' (length_leBytes w n)
  rw [leAt, hslice, leNat_leBytes, Nat.mod_eq_of_lt h]

/-! ### Entries as bytes (R213, Table 06-2) -/

/-- Table 06-2: the flags of an entry, in byte 0. -/
def FlowEntry.flags (e : FlowEntry) : Nat :=
  b2n e.valid + 2 * b2n e.hit + 4 * b2n e.aged + 8 * b2n e.moved + 16 * b2n e.noAge + 32 * b2n e.learned

theorem FlowEntry.bitOf_flags (e : FlowEntry) :
    e.flags < 256 ∧ bitOf e.flags 0 = e.valid ∧ bitOf e.flags 1 = e.hit ∧ bitOf e.flags 2 = e.aged ∧
      bitOf e.flags 3 = e.moved ∧ bitOf e.flags 4 = e.noAge ∧ bitOf e.flags 5 = e.learned := by
  have hbits : ∀ a b c d e f : Bool,
      let n := b2n a + 2 * b2n b + 4 * b2n c + 8 * b2n d + 16 * b2n e + 32 * b2n f
      n < 256 ∧ bitOf n 0 = a ∧ bitOf n 1 = b ∧ bitOf n 2 = c ∧ bitOf n 3 = d ∧ bitOf n 4 = e ∧ bitOf n 5 = f := by decide
  exact hbits ..

theorem FlowEntry.bytes_eq (e : FlowEntry) (lock : Nat) (h : e.key.length = 48) :
    e.bytes lock = leBytes 1 e.flags ++ (leBytes 1 e.gen ++ (leBytes 2 e.firstPort ++ (leBytes 2 e.cookie ++
      (leBytes 2 lock ++ (leBytes 8 e.insertNt ++ e.key))))) := by
  simp [FlowEntry.bytes, FlowEntry.flags, h, zeroBytes]

theorem FlowEntry.length_bytes (e : FlowEntry) (lock : Nat) (h : e.key.length = 48) : (e.bytes lock).length = 64 := by
  simp only [e.bytes_eq lock h, List.length_append, length_leBytes, h]

/-- An entry whose reserved bits are 0 reads back from its bytes, whatever lock stands in them. -/
theorem entryOf_bytes {e : FlowEntry} (hgen : e.gen < 256) (hport : e.firstPort < 65536) (hcookie : e.cookie < 65536)
    (hnt : e.insertNt < 2 ^ 64) (hlen : e.key.length = 48) (hkey : storedKey e.key = e.key) (lock : Nat) :
    entryOf (e.bytes lock) = e := by
  obtain ⟨hflags, hvalid, hhit, haged, hmoved, hnoAge, hlearned⟩ := e.bitOf_flags
  have hnt : e.insertNt < 18446744073709551616 := hnt
  have hslice : slice e.key 0 48 = e.key := List.take_of_length_le hlen.le
  simp [entryOf, e.bytes_eq lock hlen, leAt_leBytes_append_of_le, slice_leBytes_append_of_le, leAt_leBytes_append, hgen, hport,
    hcookie, hnt, hslice, hkey, hflags, hvalid, hhit, haged, hmoved, hnoAge, hlearned]

theorem FlowEntry.leAt_bytes_lock (e : FlowEntry) {lock : Nat} (h : lock < 65536) (hlen : e.key.length = 48) :
    leAt (e.bytes lock) 6 2 = lock := by
  simp [e.bytes_eq lock hlen, leAt_leBytes_append_of_le, leAt_leBytes_append, h]

/-! ### Handles (R216, Table 06-3) -/

theorem hWing_of_lt {w x : Nat} (hw : w < 2) (h : x < 33554432) : hWing (x + 33554432 * w) = w := by
  simp only [hWing, bitOf, b2n, beq_iff_eq]; split <;> omega

section
variable (w : Nat) {b way : Nat} (hb : b < 4194304) (hway : way < 4)
include hb hway

theorem hWing_handleOf (hw : w < 2) : hWing (handleOf w b way) = w := hWing_of_lt hw (by omega)

theorem hOverflow_handleOf : hOverflow (handleOf w b way) = false := by
  simp only [hOverflow, bitOf, handleOf, beq_eq_false_iff_ne]; omega

theorem hSlot_handleOf : hSlot (handleOf w b way) = 4 * b + way := by
  simp only [hSlot, handleOf]; omega

theorem hBucket_handleOf : hBucket (handleOf w b way) = b := by
  rw [hBucket, hSlot_handleOf w hb hway]; omega

theorem hWay_handleOf : hWay (handleOf w b way) = way := by
  rw [hWay, hSlot_handleOf w hb hway]; omega

end

section
variable (w : Nat) {i : Nat} (hi : i < 32768)
include hi

theorem hWing_ovHandle (hw : w < 2) : hWing (ovHandle w i) = w := hWing_of_lt hw (by omega)

theorem hOverflow_ovHandle : hOverflow (ovHandle w i) = true := by
  simp only [hOverflow, bitOf, ovHandle, beq_iff_eq]; omega

theorem hSlot_ovHandle : hSlot (ovHandle w i) = i := by
  simp only [hSlot, ovHandle]; omega

end

theorem entriesReadBack : EntriesReadBack :=
  ⟨fun e lock hgen hport hcookie hnt hlen hkey hlock =>
    ⟨e.length_bytes lock hlen, entryOf_bytes hgen hport hcookie hnt hlen hkey lock, e.leAt_bytes_lock hlock hlen⟩,
  fun w _ _ _ hw hb hway hi =>
    ⟨hWing_handleOf w hb hway hw, hOverflow_handleOf w hb hway, hBucket_handleOf w hb hway, hWay_handleOf w hb hway,
      hWing_ovHandle w hi hw, hOverflow_ovHandle w hi, hSlot_ovHandle w hi⟩⟩

/-! ### Wings -/

theorem State.wing_of_wings {s t : State} (h0 : t.wing0 = s.wing0) (h1 : t.wing1 = s.wing1) (w : Nat) : t.wing w = s.wing w := by
  simp only [State.wing, h0, h1]

theorem State.wing_bump (s : State) (id w : Nat) : (s.bump id).wing w = s.wing w := State.wing_of_wings rfl rfl w

/-! ### Learn notices (R224 to R228) -/

/-- R772: what a Wing counts for a partition is counted for no Wing. -/
theorem State.ctr_wing_bump_part (s : State) {w p i : Nat} (hw : w < 2) (hp : p < 16) (hi : i < 4096) (v j : Nat) :
    (s.bump (ctrOnWing w (Ctr.ident 8 p i))).ctr (Ctr.ident 11 v j) = s.ctr (Ctr.ident 11 v j) :=
  State.ctr_bumpN_other _ 1 (by simp only [ctrOnWing, Ctr.ident]; omega)

section
variable {s : State} {w p : Nat} {key : Bytes} (hash : Nat) {port : Nat} (hfirst : s.isStandby = false)
include hfirst

/-- R226: a key that is not pending, and for which the partition and the Wing have room, becomes pending. -/
theorem State.coalescer_learnNotice_new (hnew : ∀ k ∈ (s.wing w).coalescer, k.key ≠ key)
    (hroom : ¬ ((s.partOf p).coalQuota w ≤ ((s.wing w).coalescer.filter (fun k => k.partition == p)).length ∨
      4096 ≤ (s.wing w).coalescer.length)) :
    ((s.learnNotice w p key hash port).wing w).coalescer =
      (s.wing w).coalescer ++ [{ key := key, hash := hash, partition := p, firstPort := port, multi := false }] := by
  have hfind : (s.wing w).coalescer.find? (fun k => k.key == key) = none := by simpa using hnew
  have hpart (id : Nat) : (s.bump id).partOf p = s.partOf p := rfl
  simp only [State.learnNotice, hfirst, Bool.false_eq_true, if_false, State.wing_bump, hfind, hpart, if_neg hroom,
    State.wing_setWing]

/-- R228: a key for which there is no room is discarded and counted. -/
theorem State.learnNotice_full (hnew : ∀ k ∈ (s.wing w).coalescer, k.key ≠ key)
    (hfull : (s.partOf p).coalQuota w ≤ ((s.wing w).coalescer.filter (fun k => k.partition == p)).length ∨
      4096 ≤ (s.wing w).coalescer.length) :
    s.learnNotice w p key hash port = ((s.bump (ctrOnWing w (Ctr.partLearnNotices p))).bump (Ctr.wingCoalescerFull w)).bump
      (ctrOnWing w (Ctr.partNoticeDropped p)) := by
  have hfind : (s.wing w).coalescer.find? (fun k => k.key == key) = none := by simpa using hnew
  have hpart (id : Nat) : (s.bump id).partOf p = s.partOf p := rfl
  simp only [State.learnNotice, hfirst, Bool.false_eq_true, if_false, State.wing_bump, hfind, hpart, if_pos hfull]

/-- R227: another port for a pending key sets multi_port. -/
theorem State.coalescer_learnNotice_otherPort {k : PendKey} (hfind : (s.wing w).coalescer.find? (fun k => k.key == key) = some k)
    (hport : k.firstPort ≠ port) (hmulti : k.multi = false) :
    ((s.learnNotice w p key hash port).wing w).coalescer =
      (s.wing w).coalescer.map (fun y => if y.key = key then { y with multi := true } else y) := by
  simp [State.learnNotice, hfirst, State.wing_bump, hfind, hport, hmulti, State.wing_setWing]

/-- R227: a notice that finds its port or multi_port set is counted and changes nothing. -/
theorem State.learnNotice_again {k : PendKey} (hfind : (s.wing w).coalescer.find? (fun k => k.key == key) = some k)
    (h : k.firstPort = port ∨ k.multi = true) :
    s.learnNotice w p key hash port = s.bump (ctrOnWing w (Ctr.partLearnNotices p)) := by
  have hno : ¬ (k.firstPort ≠ port ∧ ¬ k.multi = true) := by tauto
  simp only [State.learnNotice, hfirst, Bool.false_eq_true, if_false, State.wing_bump, hfind, if_neg hno]

end

theorem learnNoticeEffects : LearnNoticeEffects := by
  intro s w p hash port key hw hp hfirst pend full
  refine ⟨s.coalescer_learnNotice_new hash hfirst, fun hnew hfull => ⟨?_, ?_⟩,
    fun k => s.coalescer_learnNotice_otherPort hash hfirst, fun k hfind h => ?_⟩
  · rw [State.learnNotice_full hash hfirst hnew hfull]
    rfl
  · rw [State.learnNotice_full hash hfirst hnew hfull]
    calc _ = ((s.bump (ctrOnWing w (Ctr.partLearnNotices p))).bump (Ctr.wingCoalescerFull w)).ctr (Ctr.wingCoalescerFull w) :=
          State.ctr_wing_bump_part _ hw hp (by omega) w 0
      _ = satAdd max64 ((s.bump (ctrOnWing w (Ctr.partLearnNotices p))).ctr (Ctr.wingCoalescerFull w)) 1 := State.ctr_bumpN ..
      _ = satAdd max64 (s.ctr (Ctr.wingCoalescerFull w)) 1 :=
          congrArg (satAdd max64 · 1) (s.ctr_wing_bump_part hw hp (by omega) w 0)
      _ = min max64 (s.ctr (Ctr.wingCoalescerFull w) + 1) := satAdd_eq_min ..
  · rw [State.learnNotice_again hash hfirst hfind h]
    rfl

/-- Settles O11: an entry reads back by where each field stands in its bytes, a handle by its bits, a notice by the case that its
key and the room for it make. -/
theorem entriesAndNotices : Obligations.EntriesAndNotices := ⟨entriesReadBack, learnNoticeEffects⟩

end Sys2Proof.Machine
end

section
/-!
Proofs for bucket locks (chapter 06): what an operation leaves of the entries and locks of the Wings, what a slot holds after each
operation that writes it, and the Table commands on a bucket and LOCK_BREAK by these.
-/
open Sys2Proof Sys2Proof.Machine Sys2Proof.Claims

namespace Sys2Proof.Machine

/-! ### Operations that leave the entries and the locks -/

/-- What a Wing holds of the flow table: its entries, its overflow entries and its bucket locks. -/
def Wing.table (x : Wing) : Tab FlowEntry × Tab FlowEntry × Tab Lock := (x.entries, x.overflow, x.locks)

/-- What each Wing holds of the flow table. -/
def State.table (s : State) (w : Nat) : Tab FlowEntry × Tab FlowEntry × Tab Lock := (s.wing w).table

theorem State.entryAt_of_table {s t : State} (h : t.table = s.table) (g : Nat) : t.entryAt g = s.entryAt g := by
  have hw := congrFun h (hWing g)
  simp only [State.table, Wing.table, Prod.mk.injEq] at hw
  simp only [State.entryAt, Wing.entry, Wing.ovEntry, hw]

theorem State.locks_of_table {s t : State} (h : t.table = s.table) (v : Nat) : (t.wing v).locks = (s.wing v).locks :=
  congrArg (·.2.2) (congrFun h v)

theorem State.table_of_wings {s t : State} (h0 : t.wing0 = s.wing0) (h1 : t.wing1 = s.wing1) : t.table = s.table :=
  funext fun v => congrArg Wing.table (State.wing_of_wings h0 h1 v)

theorem State.wing_setWing_eq_ite (s : State) (w v : Nat) (x : Wing) :
    (s.setWing w x).wing v = if (v = 0 ↔ w = 0) then x else s.wing v := by
  unfold State.setWing State.wing
  by_cases hw : w = 0 <;> by_cases hv : v = 0 <;> simp [hw, hv]

/-- What a write of a Wing leaves of the Wing, it leaves of every Wing. -/
theorem State.setWing_keeps {α : Type} (f : Wing → α) {s : State} {w : Nat} {x : Wing} (h : f x = f (s.wing w)) (v : Nat) :
    f ((s.setWing w x).wing v) = f (s.wing v) := by
  rw [State.wing_setWing_eq_ite]
  split
  · next hv =>
    have hwing : s.wing v = s.wing w := by simp only [State.wing, hv]
    rw [h, hwing]
  · rfl

theorem State.table_setWing {s : State} {w : Nat} {x : Wing} (h : x.table = (s.wing w).table) : (s.setWing w x).table = s.table :=
  funext (State.setWing_keeps Wing.table h)

theorem State.entryAt_setWing {s : State} {w : Nat} {x : Wing} (hentries : x.entries = (s.wing w).entries)
    (hoverflow : x.overflow = (s.wing w).overflow) (g : Nat) : (s.setWing w x).entryAt g = s.entryAt g := by
  simp only [State.entryAt, Wing.entry, Wing.ovEntry, State.setWing_keeps Wing.entries hentries,
    State.setWing_keeps Wing.overflow hoverflow]

@[simp] theorem State.table_bumpN (s : State) (id n : Nat) : (s.bumpN id n).table = s.table := rfl

@[simp] theorem State.table_bump (s : State) (id : Nat) : (s.bump id).table = s.table := rfl

@[simp] theorem State.table_setXq (s : State) (q : Nat) (x : ExpQueue) : (s.setXq q x).table = s.table := rfl

@[simp] theorem State.table_setXport (s : State) (n : Nat) (x : ExpPort) : (s.setXport n x).table = s.table := rfl

@[simp] theorem State.table_setStickyIn (s : State) (b n : Nat) : (s.setStickyIn b n).table = s.table :=
  State.table_of_wings (s.setStickyIn_wing0 b n) (s.setStickyIn_wing1 b n)

@[simp] theorem State.table_refreshQueue (s : State) (vc q : Nat) : (s.refreshQueue vc q).table = s.table := by
  unfold State.refreshQueue; dsimp only; (repeat' split) <;> simp

@[simp] theorem State.table_refreshClass (s : State) (port c : Nat) : (s.refreshClass port c).table = s.table := by
  have hqueues (t : State) (l : List Nat) (f : State → Nat) :
      (l.foldl (fun s q => s.refreshQueue (f s) q) t).table = t.table :=
    foldl_keeps State.table _ (fun _ _ => State.table_refreshQueue ..) l t
  unfold State.refreshClass; dsimp only
  (repeat' split) <;> simp [hqueues _ _ (fun s => (s.xport port).startVc s.nt c)]

@[simp] theorem State.table_refreshPort (s : State) (port : Nat) : (s.refreshPort port).table = s.table :=
  foldl_keeps State.table _ (fun _ _ => State.table_refreshClass ..) _ s

@[simp] theorem State.table_closePayload (s : State) (q : Nat) : (s.closePayload q).table = s.table := by
  unfold State.closePayload; dsimp only; (repeat' split) <;> simp

@[simp] theorem State.table_appendItem (s : State) (q : Nat) (i : ExpItem) : (s.appendItem q i).table = s.table := by
  unfold State.appendItem; dsimp only; (repeat' split) <;> simp

@[simp] theorem State.table_exportItem (s : State) (b : Nat) (i : ExpItem) : (s.exportItem b i).table = s.table := by
  unfold State.exportItem; split <;> simp

@[simp] theorem State.table_exportFlow (s : State) (p h : Nat) (e : FlowEntry) (reason : Nat) :
    (s.exportFlow p h e reason).table = s.table := by
  unfold State.exportFlow; dsimp only; split <;> simp

@[simp] theorem State.table_entryChanged (s : State) (h gen e : Nat) : (s.entryChanged h gen e).table = s.table :=
  State.table_setWing rfl

@[simp] theorem State.table_writeBlock (s : State) (p h : Nat) (data : Bytes) : (s.writeBlock p h data).table = s.table := by
  unfold State.writeBlock; dsimp only
  refine (State.table_setWing ?_).trans (State.table_of_wings rfl rfl)
  split <;> rfl

@[simp] theorem State.table_uncache (s : State) (p h : Nat) : (s.uncache p h).table = s.table := State.table_setWing rfl

@[simp] theorem State.table_clearLive (s : State) (p h : Nat) : (s.clearLive p h).table = s.table := by
  simp [State.clearLive]

/-! ### What a slot holds after a write -/

/-- What a lookup compares of an entry and what its change advances (R215). -/
def FlowEntry.content (e : FlowEntry) : Bool × Bytes × Nat := (e.valid, e.key, e.gen)

theorem FlowEntry.content_eq_iff {a b : FlowEntry} :
    a.content = b.content ↔ a.valid = b.valid ∧ a.key = b.key ∧ a.gen = b.gen := by
  simp only [FlowEntry.content, Prod.mk.injEq]

theorem hWing_lt (h : Nat) : hWing h < 2 := by
  unfold hWing b2n; split <;> omega

theorem mget_mput {α : Type} (d : α) (t : Tab α) (k j : Nat) (a : α) :
    mget d (mput t k a) j = if j = k then a else mget d t j := by
  split
  · next h => rw [h, mget_mput_same]
  · next h => exact mget_mput_other d t a h

/-- R216: a write reaches the slots that its handle names. -/
theorem State.entryAt_putEntry (s : State) (h g : Nat) (e : FlowEntry) :
    (s.putEntry h e).entryAt g = if OtherSlot h g then s.entryAt g else e := by
  have hh := hWing_lt h
  have hg := hWing_lt g
  have hiff : (hWing g = 0 ↔ hWing h = 0) ↔ hWing g = hWing h := by omega
  simp only [State.putEntry, State.entryAt, State.wing_setWing_eq_ite, hiff, OtherSlot, ne_eq, Prod.mk.injEq]
  by_cases hwing : hWing g = hWing h
  · cases hOverflow g <;> cases hOverflow h <;> simp [hwing, Wing.entry, Wing.ovEntry, mget_mput]
  · simp [hwing]

@[simp] theorem State.locks_putEntry (s : State) (h : Nat) (e : FlowEntry) (v : Nat) :
    ((s.putEntry h e).wing v).locks = (s.wing v).locks :=
  State.setWing_keeps Wing.locks (by split <;> rfl) v

/-- R215: a changed valid bit or key advances entry_gen. -/
def FlowEntry.genAfter (old new : FlowEntry) : Nat := if old.differs new then (old.gen + 1) % 256 else old.gen

/-- Of entries and locks, a change of a slot writes the slot. -/
theorem State.table_changeSlot (s : State) (p h e : Nat) (new : FlowEntry) :
    (s.changeSlot p h e new).table = (s.putEntry h { new with gen := (s.entryAt h).genAfter new }).table := by
  unfold State.changeSlot FlowEntry.genAfter; dsimp only
  split
  · split <;> simp
  · rfl

theorem State.entryAt_changeSlot (s : State) (p h e g : Nat) (new : FlowEntry) :
    (s.changeSlot p h e new).entryAt g =
      if OtherSlot h g then s.entryAt g else { new with gen := (s.entryAt h).genAfter new } :=
  (State.entryAt_of_table (s.table_changeSlot p h e new) g).trans (State.entryAt_putEntry ..)

@[simp] theorem State.locks_changeSlot (s : State) (p h e v : Nat) (new : FlowEntry) :
    ((s.changeSlot p h e new).wing v).locks = (s.wing v).locks :=
  (State.locks_of_table (s.table_changeSlot p h e new) v).trans (State.locks_putEntry ..)

theorem FlowEntry.overwrite_gen (old new : FlowEntry) (e : Nat) : (old.overwrite new e).gen = old.genAfter new := by
  unfold FlowEntry.overwrite; dsimp only; split <;> rfl

theorem FlowEntry.overwrite_valid (old new : FlowEntry) (e : Nat) : (old.overwrite new e).valid = new.valid := by
  unfold FlowEntry.overwrite; dsimp only; split <;> rfl

theorem FlowEntry.overwrite_key (old new : FlowEntry) (e : Nat) : (old.overwrite new e).key = new.key := by
  unfold FlowEntry.overwrite; dsimp only; split <;> rfl

theorem FlowEntry.content_overwrite (old new : FlowEntry) (e : Nat) :
    (old.overwrite new e).content = { new with gen := old.genAfter new }.content :=
  FlowEntry.content_eq_iff.2 ⟨old.overwrite_valid new e, old.overwrite_key new e, old.overwrite_gen new e⟩

theorem FlowEntry.genAfter_overwrite (old new : FlowEntry) (e : Nat) : old.genAfter (old.overwrite new e) = old.genAfter new := by
  simp only [FlowEntry.genAfter, FlowEntry.differs, FlowEntry.key48, FlowEntry.overwrite_valid, FlowEntry.overwrite_key]
  rfl

section
variable (s : State) (p e reason : Nat)

/-- The flow record that an entry leaves when it ends changes no table. -/
theorem State.exists_applyWay_eq (h : Nat) (new : FlowEntry) :
    ∃ t : State, t.table = s.table ∧ s.applyWay p h e new reason = t.changeSlot p h e ((s.entryAt h).overwrite new e) := by
  refine ⟨_, ?_, rfl⟩
  split <;> simp

theorem State.entryAt_applyWay (h g : Nat) (new : FlowEntry) :
    (s.applyWay p h e new reason).entryAt g = if OtherSlot h g then s.entryAt g else (s.entryAt h).overwrite new e := by
  obtain ⟨t, htable, heq⟩ := s.exists_applyWay_eq p e reason h new
  simp only [heq, State.entryAt_changeSlot, State.entryAt_of_table htable, FlowEntry.genAfter_overwrite,
    ← FlowEntry.overwrite_gen (s.entryAt h) new e]

@[simp] theorem State.locks_applyWay (h v : Nat) (new : FlowEntry) :
    ((s.applyWay p h e new reason).wing v).locks = (s.wing v).locks := by
  obtain ⟨t, htable, heq⟩ := s.exists_applyWay_eq p e reason h new
  rw [heq, State.locks_changeSlot, State.locks_of_table htable]

end

theorem otherSlot_handleOf (w : Nat) {b v way : Nat} (hb : b < 4194304) (hv : v < 4) (hway : way < 4) (hne : v ≠ way) :
    OtherSlot (handleOf w b v) (handleOf w b way) := by
  simp only [OtherSlot, ne_eq, Prod.mk.injEq, hSlot_handleOf w hb hv, hSlot_handleOf w hb hway]; omega

/-- The ways of a list take new contents; `applyBucket` does so with ways 0 to 3. -/
def State.applyWays (s : State) (w p b e : Nat) (new : List FlowEntry) (reason : Nat) (ways : List Nat) : State :=
  ways.foldl (fun s way => s.applyWay p (handleOf w b way) e ((new[way]?).getD {}) reason) s

theorem State.applyBucket_eq_applyWays (s : State) (w p b e : Nat) (new : List FlowEntry) (reason : Nat) :
    s.applyBucket w p b e new reason = s.applyWays w p b e new reason [0, 1, 2, 3] := rfl

section
variable (w p e : Nat) {b : Nat} (new : List FlowEntry) (reason : Nat)

theorem State.entryAt_applyWays_other {g : Nat} {ways : List Nat} (h : ∀ way ∈ ways, OtherSlot (handleOf w b way) g) (s : State) :
    (s.applyWays w p b e new reason ways).entryAt g = s.entryAt g := by
  induction ways generalizing s with
  | nil => rfl
  | cons v ways ih =>
    obtain ⟨hv, hways⟩ := List.forall_mem_cons.1 h
    exact (ih hways _).trans ((s.entryAt_applyWay ..).trans (if_pos hv))

theorem State.entryAt_applyWays_mem (hb : b < 4194304) {ways : List Nat} (hlt : ∀ way ∈ ways, way < 4) (hnodup : ways.Nodup)
    {way : Nat} (hmem : way ∈ ways) (s : State) :
    (s.applyWays w p b e new reason ways).entryAt (handleOf w b way) =
      (s.entryAt (handleOf w b way)).overwrite ((new[way]?).getD {}) e := by
  induction ways generalizing s with
  | nil => simp at hmem
  | cons v ways ih =>
    obtain ⟨hv, hways⟩ := List.forall_mem_cons.1 hlt
    obtain ⟨hnot, hnodup⟩ := List.nodup_cons.1 hnodup
    rcases List.mem_cons.1 hmem with rfl | hmem
    · have hother : ∀ v ∈ ways, OtherSlot (handleOf w b v) (handleOf w b way) :=
        fun v hmem => otherSlot_handleOf w hb (hways v hmem) hv (fun heq => hnot (heq ▸ hmem))
      exact (State.entryAt_applyWays_other w p e new reason hother _).trans ((s.entryAt_applyWay ..).trans (if_neg (by simp)))
    · have hother := otherSlot_handleOf w hb hv (hways way hmem) (fun heq => hnot (heq ▸ hmem))
      refine (ih hways hnodup hmem _).trans ?_
      rw [State.entryAt_applyWay, if_pos hother]

theorem State.entryAt_applyBucket (hb : b < 4194304) {way : Nat} (hway : way < 4) (s : State) :
    (s.applyBucket w p b e new reason).entryAt (handleOf w b way) =
      (s.entryAt (handleOf w b way)).overwrite ((new[way]?).getD {}) e :=
  State.entryAt_applyWays_mem w p e new reason hb (by decide) (by decide) (by simp; omega) s

@[simp] theorem State.locks_applyBucket (s : State) (v : Nat) :
    ((s.applyBucket w p b e new reason).wing v).locks = (s.wing v).locks :=
  foldl_keeps (fun t : State => (t.wing v).locks) _ (fun _ _ => State.locks_applyWay ..) _ s

end

/-! ### The end of a lock (R248, R252, R254) -/

section
variable (s : State) (w b : Nat)

/-- What a write of a hit bit keeps, and what does not depend on a hit log, the logged hits keep. -/
theorem State.applyHits_keeps {α : Type} (f : State → α)
    (hhit : ∀ (t : State) h, f (t.putEntry h { t.entryAt h with hit := true }) = f t)
    (hlog : ∀ (l : List (Nat × Nat)), f (s.setWing w { s.wing w with hitLog := l }) = f s) : f (s.applyHits w b) = f s :=
  (foldl_keeps f _ (fun t x => by dsimp only; split <;> simp only [hhit]) _ _).trans (hlog _)

theorem State.content_putEntry_hit (t : State) (h g : Nat) :
    ((t.putEntry h { t.entryAt h with hit := true }).entryAt g).content = (t.entryAt g).content := by
  rw [State.entryAt_putEntry]
  split
  · rfl
  · next hsame =>
    simp only [OtherSlot, ne_eq, Prod.mk.injEq, not_not] at hsame
    have hentry : t.entryAt g = t.entryAt h := by simp only [State.entryAt, hsame]
    rw [hentry]; rfl

theorem State.content_applyHits (g : Nat) : ((s.applyHits w b).entryAt g).content = (s.entryAt g).content :=
  s.applyHits_keeps w b (fun t => (t.entryAt g).content) (fun t h => t.content_putEntry_hit h g)
    (fun _ => congrArg _ (State.entryAt_setWing (by rfl) (by rfl) g))

@[simp] theorem State.locks_applyHits (v : Nat) : ((s.applyHits w b).wing v).locks = (s.wing v).locks :=
  s.applyHits_keeps w b (fun t => (t.wing v).locks) (fun t h => t.locks_putEntry h _ v)
    (fun _ => State.setWing_keeps Wing.locks (by rfl) v)

@[simp] theorem State.applyHits_counters : (s.applyHits w b).counters = s.counters :=
  s.applyHits_keeps w b State.counters (fun _ _ => State.setWing_counters ..) (fun _ => State.setWing_counters ..)

theorem State.content_releaseLock (g : Nat) : ((s.releaseLock w b).entryAt g).content = (s.entryAt g).content :=
  (State.content_applyHits ..).trans (congrArg _ (State.entryAt_setWing (by rfl) (by rfl) g))

theorem State.locks_releaseLock : ((s.releaseLock w b).wing w).locks = mdel (s.wing w).locks b := by
  rw [State.releaseLock, State.locks_applyHits, State.wing_setWing]

/-- R248: a way that an unlock writes holds the new valid bit and key, and its generation follows R215. -/
theorem State.content_applyBucket_releaseLock (p e reason : Nat) {new : List FlowEntry} (hb : b < 4194304) {way : Nat}
    (hway : way < 4) {x : FlowEntry} (hnew : new[way]? = some x) :
    (((s.applyBucket w p b e new reason).releaseLock w b).entryAt (handleOf w b way)).content =
      { x with gen := (s.entryAt (handleOf w b way)).genAfter x }.content := by
  rw [State.content_releaseLock, State.entryAt_applyBucket w p e new reason hb hway, hnew, Option.getD_some,
    FlowEntry.content_overwrite]

theorem State.mfind_locks_releaseLock (h : Ascending (s.wing w).locks) : mfind ((s.releaseLock w b).wing w).locks b = none := by
  rw [State.locks_releaseLock]; exact mfind_mdel_same h b

@[simp] theorem State.releaseLock_counters : (s.releaseLock w b).counters = s.counters := by
  rw [State.releaseLock, State.applyHits_counters, State.setWing_counters]

end

/-! ### LOCK_BREAK (R254) -/

theorem Wing.lockFor_of_broken {x : Wing} {b owner : Nat} (hfree : mfind x.locks b = none) (hbroken : (b, owner) ∈ x.broken) :
    x.lockFor b owner = .error 6 := by
  have hcontains : x.broken.contains (b, owner) = true := by simpa using hbroken
  simp only [Wing.lockFor, hfree, hcontains, if_true]; rfl

/-- R766: the counter of lost records is none of the first 108 of its group. -/
theorem Ctr.ident_ne_bufCtr (group i : Nat) {k : Nat} (hk : k < 108) (b : Nat) : Ctr.ident group i k ≠ bufCtr b 1 := by
  have hindex : 108 ≤ bufCtr b 1 % 4096 := by
    unfold bufCtr Ctr.hallTraceRecords Ctr.wingTraceRecords Ctr.tileTraceRecords Ctr.ident
    split_ifs <;> omega
  intro h
  rw [← h, Ctr.ident] at hindex
  omega

theorem Ctr.ident_ne_funcMsixSent (group i : Nat) {k : Nat} (hk : k < 4096) (h3 : k ≠ 3) (fn : Nat) :
    Ctr.ident group i k ≠ Ctr.funcMsixSent fn := by
  simp only [Ctr.funcMsixSent, Ctr.ident]; omega

/-- R254: the state once the lock of an owner on bucket `b` has been broken. -/
def State.afterLockBreak (s : State) (w b owner : Nat) : State :=
  let t := s.releaseLock w b
  ((t.setWing w { t.wing w with broken := (b, owner) :: (t.wing w).broken }).bump (Ctr.wingLockBroken w)).setStickyIn (1 + w) 133

theorem exec_lockBreak {w b : Nat} {s : State} {l : Lock} (hfree : s.wingFree w = true) (hlock : mfind (s.wing w).locks b = some l)
    (hwait : l.unlocking = none) (hheld : l.grant + 800000 ≤ s.nt) : Gives (.lockBreak w b) s (s.afterLockBreak w b l.owner) := by
  have hdue : ¬ (l.unlocking ≠ none ∨ s.nt < l.grant + 50 * us ∨ ¬ s.wingFree w = true) := by
    have htime : ¬ s.nt < l.grant + 50 * us := Nat.not_lt.2 hheld
    simp [hwait, htime, hfree]
  change execLockBreak w b s = _
  simp only [execLockBreak, hlock, if_neg hdue]; rfl

section
variable (s : State) (w b owner : Nat)

theorem State.wing_afterLockBreak :
    (s.afterLockBreak w b owner).wing w =
      { (s.releaseLock w b).wing w with broken := (b, owner) :: ((s.releaseLock w b).wing w).broken } :=
  (State.wing_of_wings (State.setStickyIn_wing0 ..) (State.setStickyIn_wing1 ..) w).trans (State.wing_setWing ..)

theorem State.content_afterLockBreak (g : Nat) : ((s.afterLockBreak w b owner).entryAt g).content = (s.entryAt g).content := by
  have hentry : (s.afterLockBreak w b owner).entryAt g = (s.releaseLock w b).entryAt g :=
    (State.entryAt_of_table (State.table_setStickyIn ..) g).trans (State.entryAt_setWing (by rfl) (by rfl) g)
  rw [hentry, State.content_releaseLock]

theorem State.ctr_afterLockBreak :
    (s.afterLockBreak w b owner).ctr (Ctr.wingLockBroken w) = rose (s.ctr (Ctr.wingLockBroken w)) 1 := by
  have hcounters : ((s.releaseLock w b).setWing w { (s.releaseLock w b).wing w with
      broken := (b, owner) :: ((s.releaseLock w b).wing w).broken }).counters = s.counters := by
    rw [State.setWing_counters, State.releaseLock_counters]
  calc _ = _ := State.ctr_setStickyIn_other _ (1 + w) 133 (Ctr.ident_ne_bufCtr 11 w (by omega))
        (Ctr.ident_ne_funcMsixSent 11 w (by omega) (by omega))
    _ = satAdd max64 _ 1 := State.ctr_bumpN ..
    _ = satAdd max64 (s.ctr (Ctr.wingLockBroken w)) 1 := by simp only [State.ctr, hcounters]; rfl
    _ = min max64 (s.ctr (Ctr.wingLockBroken w) + 1) := satAdd_eq_min ..

end

theorem lockBreaks : LockBreaks := by
  intro w b s l _ hasc hfree hlock hwait hheld
  have hwing := s.wing_afterLockBreak w b l.owner
  have hgone : mfind ((s.afterLockBreak w b l.owner).wing w).locks b = none := by
    rw [hwing]; exact s.mfind_locks_releaseLock w b hasc
  refine ⟨s.afterLockBreak w b l.owner, exec_lockBreak hfree hlock hwait hheld, hgone, ?sticky, ?later,
    s.ctr_afterLockBreak w b l.owner, fun h => FlowEntry.content_eq_iff.1 (s.content_afterLockBreak w b l.owner h)⟩
  case sticky => rw [State.afterLockBreak, State.stickyBit_setStickyIn _ _ (by omega)]; simp
  case later => exact Wing.lockFor_of_broken hgone (by rw [hwing]; exact List.mem_cons_self)

/-! ### Table commands on a bucket (R243 to R249) -/

/-- A reply that is empty, or that its buffer takes, passes the reply buffer. -/
theorem replied_of_room {c : CmdIn} {st : Status} (h : st.reply = [] ∨ Room c st.reply.length) (s t : State) :
    replied c s st t = (st, t) := by
  rcases h with h | h
  · exact replied_empty c s st t h
  · exact replied_fits c s st t h.1 h.2

/-- A ready command that answers at once completes with what its body answers; a status other than ST_OK changes no state (R652). -/
theorem runNow_completes {op : Nat} {i : Instr} {c : CmdIn} {s : State} {cmd : Cmd} (h : Ready op i c s cmd)
    {bad : List (Bool × Nat)} {body : Cmd → State → Status × State} {data : Nat} {holds : Bytes → Bool} {st : Status} {t u : State}
    (hbad : ∀ b ∈ bad, b.1 = false) (hdata : DataHere c s cmd data holds) (hbody : body cmd s = (st, t))
    (hreply : st.reply = [] ∨ Room c st.reply.length) (hresult : (if st.status = stOk then t else s) = u) :
    runNow op i c bad s body (data := data) (holds := holds) = u.complete c.ring st := by
  obtain ⟨hcmd, hop, hstart, hfence, hfree, hturn, hhead, hcome, hspell, hread, hrsv, hrest⟩ := h
  have hfault : paramFault c.rsvAt (s.paramRest i c.ring cmd) bad = none := by
    rw [hrsv, hrest]; exact (paramFault_none bad).2 hbad
  unfold runNow
  rw [runCmd_start op i c bad s _ _ _ _ _ hcmd hop hstart hfence hfree hturn hhead hread rfl rfl hspell hfault hcome hdata.1
    hdata.2]
  simp only [hbody, hresult, replied_of_room hreply]

/-- A command that reads nothing from its buffer waits for no data. -/
theorem dataHere_of_ready {op : Nat} {i : Instr} {c : CmdIn} {s : State} {cmd : Cmd} (h : Ready op i c s cmd) :
    DataHere c s cmd 0 (fun _ => true) := by
  obtain ⟨-, -, -, -, -, -, -, hcome, -⟩ := h
  exact ⟨hcome, by simp⟩

theorem bucketBad_of_inRange {s : State} {w b : Nat} (hw : w < s.wings) (hb : b < 4194304) (off : Nat) :
    ∀ x ∈ bucketBad s w b off, x.1 = false := by
  simp [bucketBad, State.wingBad, hw, hb]

theorem State.bucketFault_none {s : State} {cmd : Cmd} {w b : Nat} (h : (s.partOf cmd.hdr.partition).ownsBucket w b = true)
    (off off' : Nat) : s.bucketFault cmd w b b off off' = none := by
  simp [State.bucketFault, h]

theorem State.isStandby_of_not_paired {s : State} (h : s.paired = false) : s.isStandby = false := by
  simp [State.isStandby, h]

theorem State.isPrimary_of_not_paired {s : State} (h : s.paired = false) : s.isPrimary = false := by
  simp [State.isPrimary, h]

theorem Wing.lockFor_of_owner {x : Wing} {b owner : Nat} {l : Lock} (hfind : mfind x.locks b = some l) (howner : l.owner = owner)
    (hwait : l.unlocking = none) : x.lockFor b owner = .ok l := by
  simp only [Wing.lockFor, hfind, howner, hwait, and_self, if_true]

/-- R244: the state once bucket `b` is locked. -/
def State.grantLock (s : State) (w b owner fn : Nat) : State :=
  s.setWing w { s.wing w with
    locks := mput (s.wing w).locks b { owner := owner, fn := fn, grant := s.nt }
    broken := (s.wing w).broken.filter (fun e => e != (b, owner)) }

/-- R245: the state once the staging copy of a lock holds `data`. -/
def State.stage (s : State) (w b : Nat) (l : Lock) (data : Bytes) : State :=
  s.setWing w { s.wing w with locks := mput (s.wing w).locks b { l with staging := some (entriesOf 4 data) } }

section
variable {c : CmdIn} {w owner b : Nat} {s : State} {cmd : Cmd}

theorem ite_wingFree {α : Type} (h : s.wingFree w = true) (x y : α) : (if !s.wingFree w then x else y) = y := by
  simp [h]

theorem exec_tableLock (h : OnBucket 0x0401 (.tableLock c w owner b) c s cmd w b) (hbucket : mfind (s.wing w).locks b = none)
    (hroom : (s.wing w).locks.length < 64) :
    Gives (.tableLock c w owner b) s
      ((s.grantLock w b owner cmd.fn).complete c.ring { status := 0, info := s.nt % 4294967296 }) := by
  obtain ⟨hready, hw, hb, hfree, hpair, howns, -⟩ := h
  refine congrArg Host.Outcome.next ((ite_wingFree hfree _ _).trans (runNow_completes hready (bucketBad_of_inRange hw hb 0)
    (dataHere_of_ready hready) ?_ (.inl rfl) (if_pos rfl)))
  simp [State.bucketFault_none howns, State.isStandby_of_not_paired hpair, hbucket, Nat.not_le.2 hroom, State.grantLock, stOk]

theorem exec_tableLock_busy (h : OnBucket 0x0401 (.tableLock c w owner b) c s cmd w b)
    (hbusy : mfind (s.wing w).locks b ≠ none ∨ 64 ≤ (s.wing w).locks.length) : Fails (.tableLock c w owner b) c s 1 := by
  obtain ⟨hready, hw, hb, hfree, hpair, howns, -⟩ := h
  refine ⟨0, congrArg Host.Outcome.next ((ite_wingFree hfree _ _).trans (runNow_completes (t := s) hready
    (bucketBad_of_inRange hw hb 0) (dataHere_of_ready hready) ?_ (.inl rfl) (if_neg (by decide))))⟩
  simp [State.bucketFault_none howns, State.isStandby_of_not_paired hpair, Option.isSome_iff_ne_none, hbusy, fail, stBusy]

theorem exec_tableWrite {data : Bytes} {l : Lock} (h : OnBucket 0x0403 (.tableWrite c w owner b data true) c s cmd w b)
    (hlock : LockedBy s w b owner l) (hdata : DataHere c s cmd 256 (fun d => d == data)) :
    Succeeds (.tableWrite c w owner b data true) c s (s.stage w b l data) := by
  obtain ⟨hready, hw, hb, hfree, -, howns, -⟩ := h
  obtain ⟨hfind, howner, hwait⟩ := hlock
  refine congrArg Host.Outcome.next ((ite_wingFree hfree _ _).trans (runNow_completes hready (bucketBad_of_inRange hw hb 0)
    hdata ?_ (.inl rfl) (if_pos rfl)))
  simp only [State.bucketFault_none howns, Wing.lockFor_of_owner hfind howner hwait, State.stage]
  rfl

theorem exec_tableRead (h : OnBucket 0x0402 (.tableRead c w owner b 1 false) c s cmd w b)
    (hroom : Room c (bucketBytes ((s.wing w).bucket b) ((s.wing w).lockWord b)).length) :
    Replies (.tableRead c w owner b 1 false) c s s (bucketBytes ((s.wing w).bucket b) ((s.wing w).lockWord b)) := by
  obtain ⟨hready, hw, hb, hfree, -, howns, -⟩ := h
  have hbad : ∀ x ∈ bucketBad s w b 0x10 ++ [(!inR 1 1 4096, 0x18)], x.1 = false := by
    rw [List.forall_mem_append]; exact ⟨bucketBad_of_inRange hw hb 0x10, by decide⟩
  refine congrArg Host.Outcome.next ((ite_wingFree hfree _ _).trans (runNow_completes hready hbad
    (dataHere_of_ready hready) ?_ (.inr hroom) (if_pos rfl)))
  simp [State.bucketFault_none howns, okReply, stOk]

/-- R246, R247: what TABLE_UNLOCK answers outside a pair for a staging copy that is not discarded, and the state that it leaves. -/
def State.unlock (s : State) (w p b : Nat) : Option (List FlowEntry) → Status × State
  | none => (okStatus, s.releaseLock w b)
  | some new =>
    match s.checkStaging w p b new with
    | some st => (st, s.releaseLock w b)
    | none => (okStatus, (s.applyBucket w p b s.nt new 4).releaseLock w b)

theorem State.unlock_of_fault {p : Nat} {new : List FlowEntry} {st : Status} (h : s.checkStaging w p b new = some st) :
    s.unlock w p b (some new) = (st, s.releaseLock w b) := by
  simp only [State.unlock, h]

theorem State.unlock_of_passed {p : Nat} {new : List FlowEntry} (h : s.checkStaging w p b new = none) :
    s.unlock w p b (some new) = (okStatus, (s.applyBucket w p b s.nt new 4).releaseLock w b) := by
  simp only [State.unlock, h]

theorem State.reply_of_checkStaging {p : Nat} {new : List FlowEntry} {st : Status} (h : s.checkStaging w p b new = some st) :
    st.reply = [] := by
  obtain ⟨way, -, hway⟩ := List.exists_of_findSome?_eq_some h
  unfold State.checkWay at hway
  dsimp only at hway
  split_ifs at hway <;> (cases hway; rfl)

theorem State.reply_unlock (p : Nat) (staged : Option (List FlowEntry)) : (s.unlock w p b staged).1.reply = [] := by
  cases staged with
  | none => rfl
  | some new =>
    cases hcheck : s.checkStaging w p b new with
    | none => rw [State.unlock_of_passed hcheck]; rfl
    | some st => rw [State.unlock_of_fault hcheck]; exact State.reply_of_checkStaging hcheck

theorem exec_tableUnlock {discard : Bool} {l : Lock} (h : OnBucket 0x0404 (.tableUnlock c w owner b discard) c s cmd w b)
    (hlock : LockedBy s w b owner l) {staged : Option (List FlowEntry)} (hstaged : (if discard then none else l.staging) = staged)
    {st : Status} {t : State} (hunlock : s.unlock w cmd.hdr.partition b staged = (st, t)) :
    Gives (.tableUnlock c w owner b discard) s (t.complete c.ring st) := by
  obtain ⟨hready, hw, hb, hfree, hpair, howns, -⟩ := h
  obtain ⟨hfind, howner, hwait⟩ := hlock
  have hprimary := State.isPrimary_of_not_paired hpair
  have hreply : st.reply = [] := by simpa only [hunlock] using s.reply_unlock (w := w) (b := b) cmd.hdr.partition staged
  refine congrArg Host.Outcome.next ((if_neg (by simp [hfree, hprimary])).trans
    (runCmd_completes hready (bucketBad_of_inRange hw hb 0) ?_ (replied_empty c s st t hreply)))
  simp only [State.bucketFault_none howns, Wing.lockFor_of_owner hfind howner hwait, hstaged]
  cases staged with
  | none => cases hunlock; rfl
  | some new =>
    cases hcheck : s.checkStaging w cmd.hdr.partition b new with
    | none =>
      rw [State.unlock_of_passed hcheck] at hunlock
      cases hunlock
      simp [hcheck, State.noRoom, hprimary]
    | some st =>
      rw [State.unlock_of_fault hcheck] at hunlock
      cases hunlock
      simp only [hcheck]

end

/-! ### The statement -/

theorem bucketLocks : BucketLocks := by
  refine ⟨?lock, ?write, ?read, ?unlock⟩
  case lock =>
    intro c w owner b s cmd h
    refine ⟨fun hbucket hroom => ⟨s.grantLock w b owner cmd.fn, exec_tableLock h hbucket hroom, ?_,
      State.entryAt_setWing (by rfl) (by rfl), fun a ha => ?_⟩, exec_tableLock_busy h⟩
    · rw [State.grantLock, State.wing_setWing, mfind_mput_same]
    · rw [State.grantLock, State.wing_setWing, mfind_mput_other _ _ ha]
  case write =>
    intro c w owner b data s cmd l h hlock hdata
    refine ⟨s.stage w b l data, exec_tableWrite h hlock hdata, ?_, State.entryAt_setWing (by rfl) (by rfl)⟩
    rw [State.stage, State.wing_setWing, mfind_mput_same]
  case read => exact fun c w owner b s cmd h hroom => exec_tableRead h hroom
  case unlock =>
    intro c w owner b discard s cmd l h hlock
    obtain ⟨-, -, hb, -, -, -, hasc⟩ := id h
    have hfree := s.mfind_locks_releaseLock w b hasc
    have hkept (g : Nat) := FlowEntry.content_eq_iff.1 (s.content_releaseLock w b g)
    refine ⟨fun hnone => ?dropped, fun new st hdiscard hstaging hcheck => ?failed, fun new hdiscard hstaging hcheck => ?passed⟩
    case dropped =>
      have hstaged : (if discard then none else l.staging) = none := by rcases hnone with hd | hn <;> simp [*]
      exact ⟨_, exec_tableUnlock h hlock hstaged rfl, hfree, hkept⟩
    case failed =>
      have hstaged : (if discard then none else l.staging) = some new := by simp [hdiscard, hstaging]
      exact ⟨_, exec_tableUnlock h hlock hstaged (State.unlock_of_fault hcheck), hfree, hkept⟩
    case passed =>
      have hstaged : (if discard then none else l.staging) = some new := by simp [hdiscard, hstaging]
      refine ⟨_, exec_tableUnlock h hlock hstaged (State.unlock_of_passed hcheck), ?_, fun way e hway hnew =>
        FlowEntry.content_eq_iff.1 (s.content_applyBucket_releaseLock w b cmd.hdr.partition s.nt 4 hb hway hnew)⟩
      exact State.mfind_locks_releaseLock _ w b (by rwa [State.locks_applyBucket])

/-- Settles O13: the Table commands by what their bodies answer outside a pair, the contents of a bucket by what an unlock writes
of each way and by what the end of a lock keeps. -/
theorem locksHold : Obligations.LocksHold := ⟨bucketLocks, lockBreaks⟩

end Sys2Proof.Machine
end

section
/-!
Proofs for the matrix arrays (chapter 09): how many elements a step reads, what a step leaves in each cell, and the steps of a pass
whose streams stay in one half of each feeder.
-/
open Sys2Proof Sys2Proof.Machine Sys2Proof.Claims

namespace Sys2Proof.Machine

/-! ### The operands of a step (R363, R367, Tables 09-1 and 10-3) -/

@[simp] theorem Half.length_read (h : Half) (off n : Nat) : (h.read off n).length = n := by
  simp only [Half.read, slice, zeroBytes, List.length_append, List.length_take, List.length_drop, List.length_replicate]
  omega

/-- R367: as many whole bytes as `n` elements take hold `n` elements. -/
theorem length_elements {bits n : Nat} {bs : Bytes} (hbits : bits = 4 ∨ bits = 8 ∨ bits = 16) (heven : 2 ∣ n)
    (hbs : bs.length = n * bits / 8) : (elements bits bs).length = n := by
  rcases hbits with rfl | rfl | rfl
  · simp only [elements, List.length_flatMap, List.length_cons, List.length_nil, List.map_const', List.sum_replicate, smul_eq_mul]
    omega
  · simp only [elements, List.length_map]
    omega
  · simp only [elements, List.length_map, List.length_range]
    omega

theorem two_dvd_formRows {f : Nat} (h : f ≤ 4) : 2 ∣ formRows f := by
  have hforms : ∀ f ≤ 4, 2 ∣ formRows f := by decide
  exact hforms f h

theorem two_dvd_formCols (f : Nat) : 2 ∣ formCols f := Dvd.dvd.mul_right (by decide) _

theorem two_le_formRows {f : Nat} (h : f ≤ 4) : 2 ≤ formRows f := by
  have hforms : ∀ f ≤ 4, 2 ≤ formRows f := by decide
  exact hforms f h

theorem le_formCols (f : Nat) : 32 ≤ formCols f := Nat.le_mul_of_pos_right 32 (Nat.two_pow_pos f)

theorem PassOp.aBits_cases (p : PassOp) : p.aBits = 4 ∨ p.aBits = 8 ∨ p.aBits = 16 := by
  unfold PassOp.aBits; split <;> simp

theorem PassOp.bBits_cases (p : PassOp) : p.bBits = 4 ∨ p.bBits = 8 ∨ p.bBits = 16 := by
  unfold PassOp.bBits; split <;> simp

theorem PassOp.aStep_pos {p : PassOp} (h : p.form ≤ 4) : 0 < p.aStep := by
  have hrows := two_le_formRows h
  rcases p.aBits_cases with hb | hb | hb <;> simp only [PassOp.aStep, hb] <;> omega

theorem PassOp.bStep_pos (p : PassOp) : 0 < p.bStep := by
  have hcols := le_formCols p.form
  rcases p.bBits_cases with hb | hb | hb <;> simp only [PassOp.bStep, hb] <;> omega

/-- R367: an A step has an element for each row of the form. -/
theorem PassOp.length_aElements {p : PassOp} (h : p.form ≤ 4) (y : Half) (off : Nat) :
    (elements p.aBits (y.read off p.aStep)).length = formRows p.form :=
  length_elements p.aBits_cases (two_dvd_formRows h) (y.length_read off p.aStep)

/-- R367: a B step has an element for each column of the form. -/
theorem PassOp.length_bElements (p : PassOp) (y : Half) (off : Nat) :
    (elements p.bBits (y.read off p.bStep)).length = formCols p.form :=
  length_elements p.bBits_cases (two_dvd_formCols p.form) (y.length_read off p.bStep)

/-! ### The cells at a step (R366, R369, R370) -/

/-- What a step leaves in a cell of column `j`, from the codes and values of its A and B elements. -/
def Pass.cell (z : Pass) (y : ScaleSet) (j : Nat) (a b : Nat × F32) (acc : F32) : F32 :=
  if z.opcode = 0x11 then (if b.1 = 0 then acc else selStep (y.reg j) a.2)
  else cellStep z.opcode z.op.mode acc a.2 b.2 a.1 b.1

@[simp] theorem length_rowStep (z : Pass) (y : ScaleSet) (a : F32) (ca j : Nat) (accs : List F32) (bs : List (Nat × F32)) :
    (rowStep z y a ca j accs bs).length = accs.length := by
  induction accs generalizing j bs with
  | nil => rfl
  | cons acc accs ih =>
    cases bs with
    | nil => rfl
    | cons b bs => simp [rowStep, ih]

theorem getElem?_rowStep {z : Pass} {y : ScaleSet} {a b : Nat × F32} {j n : Nat} {accs : List F32} {bs : List (Nat × F32)}
    {acc : F32} (hacc : accs[n]? = some acc) (hb : bs[n]? = some b) :
    (rowStep z y a.2 a.1 j accs bs)[n]? = some (z.cell y (j + n) a b acc) := by
  induction accs generalizing j n bs with
  | nil => simp at hacc
  | cons acc₀ accs ih =>
    cases bs with
    | nil => simp at hb
    | cons b₀ bs =>
      cases n with
      | zero =>
        cases hacc
        cases hb
        rfl
      | succ n =>
        rw [show j + (n + 1) = j + 1 + n by omega]
        exact ih hacc hb

@[simp] theorem length_gridStep (z : Pass) (y : ScaleSet) (cols : Nat) (bs as : List (Nat × F32)) (accs : List F32) :
    (gridStep z y cols bs as accs).length = accs.length := by
  induction as generalizing accs with
  | nil => rfl
  | cons a as ih =>
    simp only [gridStep, List.length_append, length_rowStep, ih, List.length_take, List.length_drop]
    omega

/-- R366: the row-major cells of a grid each take the step with the A element of their row and the B element of their column. -/
theorem getElem?_gridStep {z : Pass} {y : ScaleSet} {cols i j : Nat} {a b : Nat × F32} {bs as : List (Nat × F32)} {accs : List F32}
    {acc : F32} (ha : as[i]? = some a) (hb : bs[j]? = some b) (hj : j < cols) (hacc : accs[i * cols + j]? = some acc) :
    (gridStep z y cols bs as accs)[i * cols + j]? = some (z.cell y j a b acc) := by
  have hlen := (List.getElem?_eq_some_iff.1 hacc).1
  induction as generalizing i accs with
  | nil => simp at ha
  | cons a₀ as ih =>
    cases i with
    | zero =>
      cases ha
      rw [Nat.zero_mul, Nat.zero_add] at *
      rw [gridStep, List.getElem?_append_left (by simp; omega)]
      simpa using getElem?_rowStep (j := 0) (by rwa [List.getElem?_take_of_lt hj]) hb
    | succ i =>
      have hrow : (i + 1) * cols + j = cols + (i * cols + j) := by ring
      rw [hrow] at hacc hlen ⊢
      have htake : (rowStep z y a₀.2 a₀.1 0 (accs.take cols) bs).length = cols := by simp; omega
      rw [gridStep, List.getElem?_append_right (by omega), htake, Nat.add_sub_cancel_left]
      exact ih ha (by rwa [List.getElem?_drop]) (by simp; omega)

/-- Row-major cells of `rows` rows and `cols` columns that hold the values `v`. -/
structure HoldsCells (rows cols : Nat) (v : Nat → Nat → F32) (accs : List F32) : Prop where
  length : accs.length = rows * cols
  cell {i j : Nat} : i < rows → j < cols → accs[i * cols + j]? = some (v i j)

/-- The place of a cell lies in the list of all cells. -/
theorem cell_lt {rows cols i j : Nat} (hi : i < rows) (hj : j < cols) : i * cols + j < rows * cols :=
  calc i * cols + j < (i + 1) * cols := by rw [Nat.succ_mul]; omega
    _ ≤ rows * cols := Nat.mul_le_mul_right cols hi

theorem holdsCells_getD {rows cols : Nat} {accs : List F32} (h : accs.length = rows * cols) :
    HoldsCells rows cols (fun i j => (accs[i * cols + j]?).getD 0) accs where
  length := h
  cell hi hj := by simp [h, cell_lt hi hj]

theorem selDefault_succ (y : ScaleSet) (rows cols : Nat) :
    selDefault y (rows + 1) cols =
      (List.range cols).map (fun j => if bitOf (y.reg j) 32 then fOne else 0) ++ selDefault y rows cols := rfl

/-- R370: before its first step a SEL pass holds in every cell the node bit of the cell's column. -/
theorem holdsCells_selDefault (y : ScaleSet) (rows cols : Nat) :
    HoldsCells rows cols (fun _ j => if bitOf (y.reg j) 32 then fOne else 0) (selDefault y rows cols) where
  length := by simp [selDefault]
  cell {i j} hi hj := by
    induction rows generalizing i with
    | zero => omega
    | succ rows ih =>
      rw [selDefault_succ]
      cases i with
      | zero =>
        rw [Nat.zero_mul, Nat.zero_add, List.getElem?_append_left (by simpa using hj)]
        simp [hj]
      | succ i =>
        have hrow : (i + 1) * cols + j = cols + (i * cols + j) := by ring
        rw [hrow, List.getElem?_append_right (by simp), List.length_map, List.length_range, Nat.add_sub_cancel_left]
        exact ih (by omega)

/-- R366, R370: what the cells of a pass hold before its next step. -/
def MatArray.bank (x : MatArray) (z : Pass) : List F32 :=
  if z.k = 0 ∧ z.opcode = 0x11 then selDefault (x.set z.n) (formRows z.op.form) (formCols z.op.form) else z.acc

/-- The code and the value of an element of a step. -/
def codeOf (expand : Nat → F32) (codes : List Nat) (n : Nat) : Nat × F32 := ((codes[n]?).getD 0, expand ((codes[n]?).getD 0))

theorem getElem?_map_codeOf (expand : Nat → F32) {codes : List Nat} {n : Nat} (h : n < codes.length) :
    (codes.map (fun c => (c, expand c)))[n]? = some (codeOf expand codes n) := by
  simp [codeOf, h]

/-- R366: the step of a pass in cell (i, j) takes A element i and B element j. -/
theorem MatArray.holdsCells_cells {x : MatArray} {z : Pass} {v : Nat → Nat → F32} {a b : Bytes}
    (ha : (elements z.op.aBits a).length = formRows z.op.form) (hb : (elements z.op.bBits b).length = formCols z.op.form)
    (h : HoldsCells (formRows z.op.form) (formCols z.op.form) v (x.bank z)) :
    HoldsCells (formRows z.op.form) (formCols z.op.form) (fun i j => z.cell (x.set z.n) j
      (codeOf (x.expandA z.op) (elements z.op.aBits a) i) (codeOf (x.expandB z.op) (elements z.op.bBits b) j) (v i j))
      (x.cells z a b) where
  length := (length_gridStep ..).trans h.length
  cell hi hj := getElem?_gridStep (getElem?_map_codeOf _ (hi.trans_eq ha.symm)) (getElem?_map_codeOf _ (hj.trans_eq hb.symm)) hj
    (h.cell hi hj)

/-! ### A stream that stays in one half (R335 to R337) -/

theorem streamReady_within {size pos step : Nat} {h : Half} (other : Half) (hfull : h.full = true) (hle : pos + step ≤ size) :
    streamReady size h other pos step = true := by
  simp [streamReady, hfull, hle]

theorem streamBytes_within {size pos step : Nat} (h other : Half) (hle : pos + step ≤ size) :
    streamBytes size h other pos step = h.read pos step := if_pos hle

/-- R336: a step that ends before the half's end, or at it as the last step of its pass, leaves the stream in its half. -/
theorem streamNext_within {size half pos step : Nat} {more : Bool} (hle : pos + step ≤ size)
    (hmore : more = true → pos + step < size) : streamNext size half pos step more = (half, pos + step, false) := by
  rw [streamNext, if_neg]
  rintro (hout | ⟨hend, hm⟩)
  · omega
  · exact absurd hend (hmore hm).ne

/-- A step of a stream of `K` steps ends where the next one starts, within the half. -/
theorem step_within {size off step k K : Nat} (h : off + step * K ≤ size) (hk : k < K) : off + step * k + step ≤ size :=
  calc off + step * k + step = off + step * (k + 1) := by ring
    _ ≤ off + step * K := Nat.add_le_add_left (Nat.mul_le_mul_left step hk) off
    _ ≤ size := h

/-- A step that another one follows ends before the half's end. -/
theorem step_lt_of_more {size off step k K : Nat} (h : off + step * K ≤ size) (hstep : 0 < step) (hk : k + 1 < K) :
    off + step * k + step < size := by
  have hnext := step_within h hk
  rw [Nat.mul_succ] at hnext
  omega

/-! ### One step of the newest pass (R335 to R337, R447, R448) -/

/-- R447: once the first B half is compared, a step that stays in it has none to compare. -/
theorem Pass.compareHalf_within {z : Pass} (hcmp : z.compared = 1) (hhalf : z.bHalf = z.op.bHalf)
    (hle : z.bPos + z.op.bStep ≤ 32768) : z.compareHalf = none := by
  simp [compareHalf, hcmp, hhalf, hle.not_gt]

section
variable {x : MatArray} {z : Pass}

/-- A step that leaves both streams in their halves leaves the array as it is. -/
theorem MatArray.takeStep_within (ha : z.aPos + z.op.aStep ≤ 16384) (hamore : z.k + 1 < z.op.k → z.aPos + z.op.aStep < 16384)
    (hb : z.bPos + z.op.bStep ≤ 32768) (hbmore : z.k + 1 < z.op.k → z.bPos + z.op.bStep < 32768) :
    x.takeStep z = (x, { z with
      k := z.k + 1, aPos := z.aPos + z.op.aStep, bPos := z.bPos + z.op.bStep
      acc := x.cells z ((x.aHalf z.aHalf).read z.aPos z.op.aStep) ((x.bHalf z.bHalf).read z.bPos z.op.bStep) }) := by
  have hanext := streamNext_within (half := z.aHalf) ha fun hm => hamore (of_decide_eq_true hm)
  have hbnext := streamNext_within (half := z.bHalf) hb fun hm => hbmore (of_decide_eq_true hm)
  simp [takeStep, hanext, hbnext, streamBytes_within _ _ ha, streamBytes_within _ _ hb]

theorem MatArray.stepOne_of_read (hk : z.op.k ≤ z.k) : x.stepOne z = none := by simp [stepOne, hk]

theorem MatArray.stepOne_takes (hk : z.k < z.op.k) (hheld : z.held = false) (hready : x.stepReady z = true)
    (hcmp : z.compareHalf = none) : x.stepOne z = some (x.takeStep z) := by
  simp [stepOne, hk.not_ge, hheld, hready, tagsAgree, hcmp]

theorem MatArray.stepOne_compares {h : Nat} (hk : z.k < z.op.k) (hheld : z.held = false) (hready : x.stepReady z = true)
    (hcmp : z.compareHalf = some h) (htag : (x.bHalf h).tag = (x.set z.n).tag) :
    x.stepOne z = some (x, { z with compared := z.compared + 1 }) := by
  simp [stepOne, hk.not_ge, hheld, hready, tagsAgree, hcmp, htag]

end

/-! ### The steps of a pass (R366, R447) -/

/-- The array when a pass has entered it. -/
def MatArray.entered (x : MatArray) (z : Pass) : MatArray :=
  { x with passes := x.passes + 1, pre := mdel x.pre x.passes, live := x.live ++ [z] }

@[simp] theorem MatArray.live_entered (x : MatArray) (z : Pass) : (x.entered z).live = x.live ++ [z] := rfl

theorem PassOp.k_pos (p : PassOp) : 0 < p.k := p.kMinus1.succ_pos

/-- A pass that has read `k` steps in its first halves, with its tags compared. -/
def MatArray.passAt (x : MatArray) (q : Issued) (p : PassOp) (k : Nat) (acc : List F32) : Pass :=
  { x.newPass q p acc with
    k := k, aPos := 64 * p.aOffset + p.aStep * k, bPos := 64 * p.bOffset + p.bStep * k, compared := 1 }

section
variable {x : MatArray} {p : PassOp} (q : Issued) (z : Pass) {k : Nat} (acc : List F32)

/-- What the cells of a fed pass hold after step `k`. -/
abbrev MatArray.stepCells (x : MatArray) (q : Issued) (p : PassOp) (k : Nat) (acc : List F32) : List F32 :=
  x.cells (x.passAt q p k acc) ((x.aHalf p.aHalf).read (64 * p.aOffset + p.aStep * k) p.aStep)
    ((x.bHalf p.bHalf).read (64 * p.bOffset + p.bStep * k) p.bStep)

theorem MatArray.stepReady_passAt (h : Fed x p) (hk : k < p.k) : (x.entered z).stepReady (x.passAt q p k acc) = true := by
  obtain ⟨-, hafull, hbfull, ha, hb, -⟩ := h
  exact Bool.and_eq_true_iff.2 ⟨streamReady_within _ hafull (step_within ha hk), streamReady_within _ hbfull (step_within hb hk)⟩

/-- R447: no further half of a fed pass is compared. -/
theorem MatArray.compareHalf_passAt (h : Fed x p) (hk : k < p.k) : (x.passAt q p k acc).compareHalf = none := by
  obtain ⟨-, -, -, -, hb, -⟩ := h
  exact Pass.compareHalf_within rfl rfl (step_within hb hk)

theorem MatArray.takeStep_passAt (h : Fed x p) (hk : k < p.k) :
    (x.entered z).takeStep (x.passAt q p k acc) = (x.entered z, x.passAt q p (k + 1) (x.stepCells q p k acc)) := by
  obtain ⟨hform, -, -, ha, hb, -⟩ := h
  have hnext (off step : Nat) : off + step * (k + 1) = off + step * k + step := by ring
  rw [takeStep_within (z := x.passAt q p k acc) (step_within ha hk) (step_lt_of_more ha (PassOp.aStep_pos hform))
    (step_within hb hk) (step_lt_of_more hb p.bStep_pos)]
  simp only [passAt, hnext]
  rfl

theorem MatArray.stepOne_passAt (h : Fed x p) (hk : k < p.k) :
    (x.entered z).stepOne (x.passAt q p k acc) = some (x.entered z, x.passAt q p (k + 1) (x.stepCells q p k acc)) := by
  rw [stepOne_takes hk rfl (stepReady_passAt q z acc h hk) (compareHalf_passAt q acc h hk), takeStep_passAt q z acc h hk]

/-- R447, R448: before step 0 the tags of a fed pass are compared, and they agree. -/
theorem MatArray.stepOne_newPass (h : Fed x p) :
    (x.entered z).stepOne (x.newPass q p acc) = some (x.entered z, x.passAt q p 0 acc) := by
  have hready : (x.entered z).stepReady (x.newPass q p acc) = true := stepReady_passAt q z acc h p.k_pos
  obtain ⟨-, -, -, -, -, htag⟩ := h
  exact stepOne_compares (h := p.bHalf) p.k_pos rfl hready rfl htag
end

/-! ### What the steps make of the preload (R366, R369, R370) -/

/-- The value of cell (i, j) of a pass after `k` steps, of whichever operation it is. -/
def cellAfter (x : MatArray) (q : Issued) (p : PassOp) (pre : List F32) (k i j : Nat) : F32 :=
  if q.word.op = .sel p then selAfter x (x.set x.passes) p i j k
  else accAfter x q.word.op.opcode p ((pre[i * formCols p.form + j]?).getD 0) i j k

/-- Table 08-5: of the passes, SEL alone has opcode 0x11. -/
theorem opcode_eq_sel_iff {op : TileOp} {p : PassOp} (h : op = .mma p ∨ op = .dist p ∨ op = .sel p) :
    op.opcode = 0x11 ↔ op = .sel p := by
  rcases h with rfl | rfl | rfl <;> simp [TileOp.opcode]

section
variable {x : MatArray} {q : Issued} {p : PassOp} {pre acc : List F32} {k : Nat}

theorem cellAfter_succ (hop : q.word.op.opcode = 0x11 ↔ q.word.op = .sel p) (i j : Nat) :
    cellAfter x q p pre (k + 1) i j = (x.passAt q p k acc).cell (x.set x.passes) j
      (aCode x p i k, x.expandA p (aCode x p i k)) (bCode x p k j, x.expandB p (bCode x p k j)) (cellAfter x q p pre k i j) := by
  have hcode : (x.passAt q p k acc).opcode = q.word.op.opcode := rfl
  simp only [cellAfter, Pass.cell, hcode, hop]
  split
  · rfl
  · rfl

/-- The cells of a pass that has read `k` steps hold their values after `k` steps. -/
def CellsAt (x : MatArray) (q : Issued) (p : PassOp) (pre : List F32) (k : Nat) (acc : List F32) : Prop :=
  HoldsCells (formRows p.form) (formCols p.form) (cellAfter x q p pre k) (x.bank (x.passAt q p k acc))

/-- After a first step the cells are the pass's accumulators. -/
theorem cellsAt_iff_of_pos (hk : 0 < k) :
    CellsAt x q p pre k acc ↔ HoldsCells (formRows p.form) (formCols p.form) (cellAfter x q p pre k) acc := by
  have hbank : x.bank (x.passAt q p k acc) = acc := if_neg fun h => hk.ne' h.1
  rw [CellsAt, hbank]

/-- R366, R370: before step 0 the cells hold the preload, in a SEL pass the node bits. -/
theorem cellsAt_zero (hop : q.word.op.opcode = 0x11 ↔ q.word.op = .sel p)
    (hpre : pre.length = formRows p.form * formCols p.form) : CellsAt x q p pre 0 pre := by
  by_cases hsel : q.word.op = .sel p
  · have hbank : x.bank (x.passAt q p 0 pre) = selDefault (x.set x.passes) (formRows p.form) (formCols p.form) :=
      if_pos ⟨rfl, hop.2 hsel⟩
    have hcell : cellAfter x q p pre 0 = fun _ j => if bitOf ((x.set x.passes).reg j) 32 then fOne else 0 :=
      funext₂ fun i j => if_pos hsel
    rw [CellsAt, hbank, hcell]
    exact holdsCells_selDefault _ _ _
  · have hbank : x.bank (x.passAt q p 0 pre) = pre := if_neg fun h => hsel (hop.1 h.2)
    have hcell : cellAfter x q p pre 0 = fun i j => (pre[i * formCols p.form + j]?).getD 0 := funext₂ fun i j => if_neg hsel
    rw [CellsAt, hbank, hcell]
    exact holdsCells_getD hpre

/-- R366: a step of a fed pass takes every cell from its value after `k` steps to that after `k + 1`. -/
theorem CellsAt.succ (hop : q.word.op.opcode = 0x11 ↔ q.word.op = .sel p) (hform : p.form ≤ 4) (h : CellsAt x q p pre k acc) :
    CellsAt x q p pre (k + 1) (x.stepCells q p k acc) := by
  rw [cellsAt_iff_of_pos k.succ_pos, funext₂ (cellAfter_succ (acc := acc) hop)]
  exact MatArray.holdsCells_cells (z := x.passAt q p k acc) (PassOp.length_aElements hform _ _) (p.length_bElements _ _) h

/-- R366: a fed pass takes its remaining steps, in ascending order, and no others. -/
theorem stream_passAt (hop : q.word.op.opcode = 0x11 ↔ q.word.op = .sel p) (hfed : Fed x p) (z : Pass) {n : Nat} (hk : k ≤ p.k)
    (hn : p.k ≤ k + n) (h : CellsAt x q p pre k acc) :
    ∃ acc', stream n (x.entered z) (x.passAt q p k acc) = (x.entered z, x.passAt q p p.k acc') ∧ CellsAt x q p pre p.k acc' := by
  induction n generalizing k acc with
  | zero =>
    obtain rfl : k = p.k := by omega
    exact ⟨acc, rfl, h⟩
  | succ n ih =>
    rcases hk.eq_or_lt with rfl | hlt
    · exact ⟨acc, by rw [stream, MatArray.stepOne_of_read le_rfl], h⟩
    · rw [stream, MatArray.stepOne_passAt q z acc hfed hlt]
      exact ih hlt (by omega) (h.succ hop hfed.1)

end

/-- A pass that starts goes on as far as its stream takes it; earlier passes stay as they are. -/
theorem MatArray.live_startPass (x : MatArray) {q : Issued} {p : PassOp} {pre : List F32} {y : MatArray} {z : Pass}
    (h : stream (p.k + 3) (x.entered (x.newPass q p pre)) (x.newPass q p pre) = (y, z)) :
    (x.startPass q p pre).live = x.live ++ [z] := by
  have hstart : x.startPass q p pre = (x.entered (x.newPass q p pre)).advance := rfl
  have hop : (x.newPass q p pre).op = p := rfl
  simp [hstart, advance, hop, h]

/-- Settles O21: by induction on the steps of the stream, each of which takes every cell from its value after `k` steps to that
after `k + 1`. -/
theorem passesComputeCells : Obligations.PassesComputeCells := by
  intro x q p pre hfed hpre y hpass
  have hop := opcode_eq_sel_iff hpass
  obtain ⟨acc, hstream, hat⟩ := stream_passAt (n := p.k + 2) hop hfed (x.newPass q p pre) (Nat.zero_le _) (by omega)
    (cellsAt_zero hop hpre)
  have hall : stream (p.k + 3) (x.entered (x.newPass q p pre)) (x.newPass q p pre) =
      (x.entered (x.newPass q p pre), x.passAt q p p.k acc) := by
    rw [stream, MatArray.stepOne_newPass q _ pre hfed]
    exact hstream
  have hcells := (cellsAt_iff_of_pos p.k_pos).1 hat
  exact ⟨x.passAt q p p.k acc, x.live_startPass hall, rfl, rfl, hcells.length, fun i j hi hj => hcells.cell hi hj⟩

end Sys2Proof.Machine
end

section
/-!
Proofs for epochs (chapter 13): what an image slot reads after a write, what arming, cancelling, a switch, a fill and a retirement leave of
the partitions, and the commands and steps of an epoch by these.
-/
open Sys2Proof Sys2Proof.Machine Sys2Proof.Claims

namespace Sys2Proof.Machine

/-! ### Image slots of a partition -/

theorem Partition.slot_setSlot (x : Partition) (n m : Nat) (y : ImageSlot) :
    (x.setSlot n y).slot m = if (m = 0 ↔ n = 0) then y else x.slot m := by
  unfold Partition.setSlot Partition.slot
  by_cases hn : n = 0 <;> by_cases hm : m = 0 <;> simp [hn, hm]

@[simp] theorem Partition.slot_setSlot_same (x : Partition) (n : Nat) (y : ImageSlot) : (x.setSlot n y).slot n = y := by
  simp [Partition.slot_setSlot]

theorem Partition.slot_setSlot_other (x : Partition) {n : Nat} (h : n < 2) (y : ImageSlot) :
    (x.setSlot n y).slot (1 - n) = x.slot (1 - n) := by
  rw [Partition.slot_setSlot, if_neg (by omega)]

@[simp] theorem Partition.setSlot_resetEpoch (x : Partition) (n : Nat) (y : ImageSlot) :
    (x.setSlot n y).resetEpoch = x.resetEpoch := by
  unfold Partition.setSlot; split <;> rfl

@[simp] theorem Partition.setSlot_clear0 (x : Partition) (n : Nat) (y : ImageSlot) : (x.setSlot n y).clear0 = x.clear0 := by
  unfold Partition.setSlot; split <;> rfl

theorem Partition.slotIn_some {x : Partition} {st : SlotState} {n : Nat} (h : x.slotIn st = some n) :
    n < 2 ∧ (x.slot n).state = st := by
  unfold Partition.slotIn at h
  split at h
  · next h0 => cases h; exact ⟨by decide, h0⟩
  · split at h
    · next h1 => cases h; exact ⟨by decide, h1⟩
    · cases h

/-- Slots in different states are different slots. -/
theorem Partition.slotIn_ne {x : Partition} {st st' : SlotState} {n m : Nat} (hn : x.slotIn st = some n) (hm : x.slotIn st' = some m)
    (hne : st ≠ st') : ¬(m = 0 ↔ n = 0) := by
  intro heq
  have hslot : x.slot m = x.slot n := by simp only [Partition.slot, heq]
  exact hne ((Partition.slotIn_some hn).2.symm.trans (hslot ▸ (Partition.slotIn_some hm).2))

theorem Partition.armedEpoch_of_none {x : Partition} (h : x.slotIn .armed = none) : x.armedEpoch = none := by
  simp [Partition.armedEpoch, h]

theorem Partition.armedEpoch_of_some {x : Partition} {n : Nat} (h : x.slotIn .armed = some n) :
    x.armedEpoch = some { number := (x.slot n).epoch, switchNt := (x.slot n).switchNt, slot := n, staged := (x.slot n).staged,
                          gap := (x.slot n).gap } := by
  simp [Partition.armedEpoch, h]

/-! ### Operations that leave the partitions (R499, R559, R703) -/

theorem State.partOf_of_parts {s t : State} (h : t.parts = s.parts) (p : Nat) : t.partOf p = s.partOf p := by
  simp only [State.partOf, h]

@[simp] theorem State.partOf_modPart (s : State) (p : Nat) (f : Partition → Partition) : (s.modPart p f).partOf p = f (s.partOf p) :=
  s.partOf_setPart p _

@[simp] theorem State.partOf_modSlot (s : State) (p n : Nat) (f : ImageSlot → ImageSlot) :
    (s.modSlot p n f).partOf p = (s.partOf p).setSlot n (f ((s.partOf p).slot n)) :=
  s.partOf_modPart p _

@[simp] theorem State.partOf_bump (s : State) (id p : Nat) : (s.bump id).partOf p = s.partOf p := rfl

/-- R703: a new leaf changes nothing else of its partition. -/
theorem State.issueLeaf_keeps {α : Type} (f : Partition → α) (hf : ∀ x leaf, f { x with leaf := leaf } = f x) (s : State) (p : Nat) :
    f ((s.issueLeaf p).partOf p) = f (s.partOf p) := by
  unfold State.issueLeaf
  split
  · rfl
  · rw [State.partOf_bump, State.partOf_modPart, hf]
    rfl

@[simp] theorem State.slot_issueLeaf (s : State) (p n : Nat) : ((s.issueLeaf p).partOf p).slot n = (s.partOf p).slot n :=
  State.issueLeaf_keeps (Partition.slot · n) (fun _ _ => rfl) s p

theorem State.tagControls_keeps {α : Type} (g : State → α) (hg : ∀ s i f, g (s.modTile i f) = g s) (s : State) (p n : Nat)
    (epoch : Option Nat) : g (s.tagControls p n epoch) = g s :=
  foldl_keeps g _ (fun _ _ => hg ..) _ s

@[simp] theorem State.partOf_tagControls (s : State) (p n : Nat) (epoch : Option Nat) (q : Nat) :
    (s.tagControls p n epoch).partOf q = s.partOf q :=
  State.tagControls_keeps (State.partOf · q) (fun _ _ _ => rfl) s p n epoch

/-! ### EPOCH_ARM (R504, R505, R508) -/

section
variable {s : State} {p n e t at_ : Nat} {resident : Bool} {img : Image}

/-- R542: the bounds of the lead in Table 13-8. -/
theorem leadOk_of_mayArm (h : MayArm s p n e t at_ resident img) : leadOk at_ t = true := by
  obtain ⟨-, hlo, hhi, -⟩ := h
  exact (leadOk_iff _ _).2 ⟨hlo, by omega⟩

/-- R504: a first image, one that resets state, and one with the windows and the layout of the running one may follow. -/
theorem State.armFault_none (h : MayArm s p n e t at_ resident img) : s.armFault p n resident e t (some at_) = none := by
  have hlead := leadOk_of_mayArm h
  obtain ⟨-, -, -, hready, himg, harmed, hrun, hclear, hres⟩ := h
  have hresident : (resident && !((s.partOf p).slot n).resident) = false := by
    cases resident with
    | false => rfl
    | true => simp [hres rfl]
  have hclearing : (img.stateReset && (s.partOf p).clearing) = false := by
    cases hreset : img.stateReset with
    | false => rfl
    | true => simp [hclear hreset]
  cases hr : (s.partOf p).running with
  | none => simp [State.armFault, hlead, hready, himg, harmed, hr, hresident, hclearing]
  | some r =>
    obtain ⟨horder, hsame⟩ := hrun r hr
    cases hold : ((s.partOf p).slot r.slot).image with
    | none => simp [State.armFault, hlead, hready, himg, harmed, hr, hold, horder, hresident, hclearing]
    | some old =>
      cases hreset : img.stateReset with
      | true => simp [State.armFault, hlead, hready, himg, harmed, hr, hold, horder, hreset, hclear hreset, hresident]
      | false =>
        obtain ⟨hwindows, hlayout⟩ := hsame old hold hreset
        simp [State.armFault, hlead, hready, himg, harmed, hr, hold, horder, hreset, hwindows, hlayout, hresident]

/-- R748: an arm that Table 13-8 does not refuse, of the image that the slot holds, meets no fault. The lead stays
a variable: where a numeral bounds it, the kernel would count up to the bound to evaluate `State.armFault`. -/
theorem MirrorCmd.fault_epochArm_none {lead : Option Nat} (hinstant : s.instantFault = none)
    (harm : s.armFault p n resident e t lead = none) (himg : ((s.partOf p).slot n).image = some img) (fn : Nat) :
    (MirrorCmd.epochArm p n resident e t img.measurement).fault s fn lead = none := by
  simp [MirrorCmd.fault, hinstant, harm, State.measured, himg]

end

theorem State.slot_arm (s : State) (p n e t at_ : Nat) (m : Nat) :
    ((s.arm p n e t at_).partOf p).slot m = ((s.partOf p).setSlot n { (s.partOf p).slot n with
      state := .armed, epoch := e, switchNt := t, staged := !((s.partOf p).slot n).resident,
      gap := if ((s.partOf p).slot n).resident then 0 else 4000 * s.deadlineCount p at_ + 960000 * (s.partOf p).quarterCount 0,
      swapVerdicts := 0 }).slot m := by
  unfold State.arm
  dsimp only
  rw [State.slot_issueLeaf]
  split <;> simp

theorem exec_epochArm {c : CmdIn} {n e t : Nat} {resident : Bool} {s : State} {cmd : Cmd} {img : Image}
    (h : Ready 0x0304 (.epochArm c n resident e t) c s cmd) (halone : Alone s)
    (hmay : MayArm s cmd.hdr.partition n e t cmd.fetchNt resident img) :
    Succeeds (.epochArm c n resident e t) c s (s.arm cmd.hdr.partition n e t s.nt) := by
  have harm := State.armFault_none hmay
  obtain ⟨hinstant, -, -, -, himg, -⟩ := hmay
  have hbody := mirrored_of_alone halone (c := c) (MirrorCmd.fault_epochArm_none hinstant harm himg cmd.fn) rfl
  refine congrArg Host.Outcome.next ((ite_voting_of_alone halone _).trans (runCmd_completes h (by simp) ?_ (replied_empty _ _ _ _ rfl)))
  simp only [himg]
  exact hbody

/-! ### EPOCH_CANCEL (R506, R513) -/

theorem exec_epochCancel {c : CmdIn} {s : State} {cmd : Cmd} (h : Ready 0x0305 (.epochCancel c) c s cmd) (halone : Alone s)
    {st : Status} {t : State} (hbody : mirrored c (.epochCancel cmd.hdr.partition) cmd s = (some st, t)) (hreply : st.reply = []) :
    Gives (.epochCancel c) s (t.complete c.ring st) :=
  congrArg Host.Outcome.next
    ((ite_voting_of_alone halone _).trans (runCmd_completes h (by simp) hbody (replied_empty _ _ _ _ hreply)))

section
variable {s : State} {p n : Nat}

theorem MirrorCmd.fault_epochCancel_unarmed (h : (s.partOf p).slotIn .armed = none) (fn : Nat) (lead : Option Nat) :
    (MirrorCmd.epochCancel p).fault s fn lead = some (fail stNotFound) := by
  simp [MirrorCmd.fault, State.cancelFault, Partition.armedEpoch_of_none h]

/-- R506: 5 ms are 80,000,000 units of NT. -/
theorem MirrorCmd.fault_epochCancel_armed (h : (s.partOf p).slotIn .armed = some n) (fn nt : Nat) :
    (MirrorCmd.epochCancel p).fault s fn (some nt) =
      if ((s.partOf p).slot n).switchNt < nt + 80000000 then some (fail stConflict) else none := by
  simp only [MirrorCmd.fault, State.cancelFault, Partition.armedEpoch_of_some h]
  rfl

theorem State.slot_disarm (h : (s.partOf p).slotIn .armed = some n) (m : Nat) :
    ((s.disarm p).partOf p).slot m = ((s.partOf p).setSlot n { (s.partOf p).slot n with
      state := .ready, epoch := 0, switchNt := 0, staged := false, gap := 0 }).slot m := by
  simp only [State.disarm, h]
  rw [State.slot_issueLeaf]
  split <;> simp

end

theorem epochsArmAndCancel : EpochsArmAndCancel := by
  refine ⟨?arm, ?cancel⟩
  case arm =>
    intro c n e t resident s cmd img h halone hn _ p hmay
    refine ⟨_, exec_epochArm h halone hmay, ?_⟩
    simp [State.slot_arm, Partition.slot_setSlot_other _ hn, p]
  case cancel =>
    intro c s cmd h halone _ p
    refine ⟨fun harmed => ⟨0, ?_⟩, fun n harmed => ⟨fun hlate => ⟨0, ?_⟩, fun hlead => ⟨s.disarm p, ?_, ?_⟩⟩⟩
    · exact exec_epochCancel h halone (mirrored_of_fault halone (MirrorCmd.fault_epochCancel_unarmed harmed _ _)) rfl
    · exact exec_epochCancel h halone
        (mirrored_of_fault halone ((MirrorCmd.fault_epochCancel_armed harmed _ _).trans (if_pos hlate))) rfl
    · exact exec_epochCancel h halone
        (mirrored_of_alone halone ((MirrorCmd.fault_epochCancel_armed harmed _ _).trans (if_neg (Nat.not_lt.2 hlead))) rfl) rfl
    · simp [State.slot_disarm harmed, Partition.slot_setSlot_other _ (Partition.slotIn_some harmed).1]

/-! ### Records and window edges (R205, R514, R559) -/

@[simp] theorem State.parts_refreshQueue (s : State) (vc q : Nat) : (s.refreshQueue vc q).parts = s.parts := by
  unfold State.refreshQueue; dsimp only; (repeat' split) <;> simp

@[simp] theorem State.parts_refreshClass (s : State) (port c : Nat) : (s.refreshClass port c).parts = s.parts := by
  have hqueues (t : State) (l : List Nat) :
      (l.foldl (fun s q => s.refreshQueue ((s.xport port).startVc s.nt c) q) t).parts = t.parts :=
    foldl_keeps State.parts _ (fun _ _ => State.parts_refreshQueue ..) l t
  unfold State.refreshClass; dsimp only; (repeat' split) <;> simp [hqueues]

@[simp] theorem State.parts_refreshPort (s : State) (port : Nat) : (s.refreshPort port).parts = s.parts :=
  foldl_keeps State.parts _ (fun _ _ => State.parts_refreshClass ..) _ s

@[simp] theorem State.parts_closePayload (s : State) (q : Nat) : (s.closePayload q).parts = s.parts := by
  unfold State.closePayload; dsimp only; (repeat' split) <;> simp

@[simp] theorem State.parts_appendItem (s : State) (q : Nat) (i : ExpItem) : (s.appendItem q i).parts = s.parts := by
  unfold State.appendItem; dsimp only; (repeat' split) <;> simp

@[simp] theorem State.parts_exportItem (s : State) (b : Nat) (i : ExpItem) : (s.exportItem b i).parts = s.parts := by
  unfold State.exportItem; split <;> simp

/-- R559, R666: a record that arrives changes nothing that an item, a counter and a write of a report queue leave. -/
theorem State.record_keeps {α : Type} (g : State → α) (hexport : ∀ s b i, g (State.exportItem s b i) = g s)
    (hbump : ∀ s id, g (State.bump s id) = g s) (hqueue : ∀ s p q x, g (State.setRq s p q x) = g s) (s : State) (p q prio type : Nat)
    (body : Bytes) : g (s.record p q prio type body) = g s := by
  have hcopy (t : State) (r : QRec) : g (t.reportCopy p q r) = g t := by
    unfold State.reportCopy; split
    · rfl
    · exact hexport ..
  unfold State.record
  dsimp only
  split <;> simp only [hbump, hqueue, hcopy]

@[simp] theorem State.partOf_epochRecord (s : State) (p : Nat) (body : Bytes) (q : Nat) : (s.epochRecord p body).partOf q = s.partOf q :=
  State.partOf_of_parts (State.record_keeps State.parts State.parts_exportItem (fun _ _ => rfl) (fun _ _ _ _ => rfl) ..) q

@[simp] theorem State.table_epochRecord (s : State) (p : Nat) (body : Bytes) : (s.epochRecord p body).table = s.table :=
  State.record_keeps State.table State.table_exportItem (fun _ _ => rfl) (fun _ _ _ _ => rfl) ..

@[simp] theorem State.table_issueLeaf (s : State) (p : Nat) : (s.issueLeaf p).table = s.table := by
  unfold State.issueLeaf; split <;> rfl

/-- R205: the edges of an image's windows stand in the feature builder's event queue. -/
theorem State.placeWindows_keeps {α : Type} (g : State → α) (hqueue : ∀ s b q, g (State.setQueue s b q) = g s)
    (henqueue : ∀ s b o, g (State.enqueue s b o) = g s) (s : State) (p : Nat) (img : Image) : g (s.placeWindows p img) = g s :=
  foldl_keeps g _ (fun _ _ => (henqueue ..).trans (hqueue ..)) _ s

@[simp] theorem State.partOf_placeWindows (s : State) (p : Nat) (img : Image) (q : Nat) :
    (s.placeWindows p img).partOf q = s.partOf q :=
  State.partOf_of_parts (State.placeWindows_keeps State.parts (fun _ _ _ => rfl) State.enqueue_parts ..) q

@[simp] theorem State.table_placeWindows (s : State) (p : Nat) (img : Image) : (s.placeWindows p img).table = s.table :=
  State.table_of_wings (State.placeWindows_keeps State.wing0 (fun _ _ _ => rfl) State.enqueue_wing0 ..)
    (State.placeWindows_keeps State.wing1 (fun _ _ _ => rfl) State.enqueue_wing1 ..)

/-- R510: of a partition, the discard of queued rollouts changes the rollouts alone. -/
theorem State.discardRollouts_keeps {α : Type} (f : Partition → α) (hf : ∀ x rs, f { x with rollouts := rs } = f x) (s : State)
    (p e : Nat) : f ((s.discardRollouts p e).partOf p) = f (s.partOf p) := by
  have hcount (t : State) (l : List RolloutStart) :
      (l.foldl (fun s r => s.bump (ctrOnWing r.wing (Ctr.partRolloutDiscarded p))) t).partOf p = t.partOf p :=
    foldl_keeps (State.partOf · p) _ (fun _ _ => State.partOf_bump ..) l t
  unfold State.discardRollouts
  dsimp only
  rw [hcount, State.partOf_setPart, hf]

@[simp] theorem State.table_discardRollouts (s : State) (p e : Nat) : (s.discardRollouts p e).table = s.table := by
  unfold State.discardRollouts
  dsimp only
  rw [foldl_keeps State.table _ (fun _ _ => State.table_bump ..)]
  rfl

/-! ### The switch (R298, R502, R514, R519) -/

@[simp] theorem Partition.slot_resetAt (x : Partition) (e t : Nat) (reset wing1 : Bool) (n : Nat) :
    (x.resetAt e t reset wing1).slot n = x.slot n := by
  unfold Partition.resetAt; dsimp only; (repeat' split) <;> rfl

@[simp] theorem Partition.slotIn_resetAt (x : Partition) (e t : Nat) (reset wing1 : Bool) (st : SlotState) :
    (x.resetAt e t reset wing1).slotIn st = x.slotIn st := by
  unfold Partition.resetAt; dsimp only; (repeat' split) <;> rfl

/-- R298: a switch with `state_reset` makes its epoch the reset epoch and starts the clear on Wing 0. -/
theorem Partition.resetAt_reset (x : Partition) (e t : Nat) (wing1 : Bool) :
    (x.resetAt e t true wing1).resetEpoch = e ∧ (x.resetAt e t true wing1).clear0 = some 0 := by
  simp [Partition.resetAt]

/-- A start changes slots alone. -/
theorem Partition.startRun_keeps {α : Type} (f : Partition → α) (hf : ∀ x n y, f (Partition.setSlot x n y) = f x) (x : Partition)
    (n : Nat) : f (x.startRun n) = f x := by
  unfold Partition.startRun
  dsimp only
  rw [hf]
  split
  · exact hf ..
  · rfl

theorem Partition.slot_startRun_running {x : Partition} {n m : Nat} (hm : x.slotIn .running = some m) (hne : ¬(m = 0 ↔ n = 0)) :
    (x.startRun n).slot m = { x.slot m with state := .retiring } := by
  simp [Partition.startRun, hm, Partition.slot_setSlot, hne]

theorem Partition.slot_startRun_armed {x : Partition} {n : Nat} (hn : x.slotIn .armed = some n) :
    (x.startRun n).slot n = { x.slot n with state := .running } := by
  unfold Partition.startRun
  cases hm : x.slotIn .running with
  | none => simp
  | some m =>
    have hne : ¬(n = 0 ↔ m = 0) := Partition.slotIn_ne hm hn (by decide)
    simp [Partition.slot_setSlot, hne]

/-- R502, R519: a partition after the switch to the armed epoch `e` of slot `n`, whose image resets state or not. -/
def Partition.switched (x : Partition) (n : Nat) (e : Epoch) (reset wing1 : Bool) : Partition :=
  let y := (x.resetAt e.number e.switchNt reset wing1).startRun n
  { y with
    epochs := e :: y.epochs
    fill := if e.staged then some { slot := n, epoch := e.number, wavesLeft := y.quarterCount 0, started := false } else y.fill }

theorem Partition.slot_switched_armed {x : Partition} {n : Nat} (hn : x.slotIn .armed = some n) (e : Epoch) (reset wing1 : Bool) :
    (x.switched n e reset wing1).slot n = { x.slot n with state := .running } := by
  have h : ((x.resetAt e.number e.switchNt reset wing1).startRun n).slot n = _ :=
    Partition.slot_startRun_armed ((x.slotIn_resetAt ..).trans hn)
  exact h.trans (by rw [Partition.slot_resetAt])

theorem Partition.slot_switched_running {x : Partition} {n m : Nat} (hn : x.slotIn .armed = some n) (hm : x.slotIn .running = some m)
    (e : Epoch) (reset wing1 : Bool) : (x.switched n e reset wing1).slot m = { x.slot m with state := .retiring } := by
  have h : ((x.resetAt e.number e.switchNt reset wing1).startRun n).slot m = _ :=
    Partition.slot_startRun_running ((x.slotIn_resetAt ..).trans hm) (Partition.slotIn_ne hn hm (by decide))
  exact h.trans (by rw [Partition.slot_resetAt])

theorem Partition.switched_reset (x : Partition) (n : Nat) (e : Epoch) (wing1 : Bool) :
    (x.switched n e true wing1).resetEpoch = e.number ∧ (x.switched n e true wing1).clear0 = some 0 := by
  obtain ⟨hreset, hclear⟩ := x.resetAt_reset e.number e.switchNt wing1
  exact ⟨(Partition.startRun_keeps Partition.resetEpoch Partition.setSlot_resetEpoch _ n).trans hreset,
    (Partition.startRun_keeps Partition.clear0 Partition.setSlot_clear0 _ n).trans hclear⟩

/-- R502, R514, R519: the state after the switch to the armed epoch `e` of slot `n`. -/
def State.switchTo (s : State) (p n : Nat) (e : Epoch) : State :=
  let x := (s.partOf p).switched n e ((((s.partOf p).slot n).image.map (·.stateReset)).getD false) (decide (s.wings = 2))
  let t := (s.setPart p x).bump (Ctr.partEpochSwitches p)
  let t := match (x.slot n).image with
    | some img => t.placeWindows p img
    | none => t
  let t := if e.staged then (t.bump (Ctr.partEpochStaged p)).discardRollouts p e.number else t
  (t.epochRecord p (epochBody e.number p false e.staged n 0 e.switchNt (e.switchNt + e.gap))).issueLeaf p

section
variable {s : State} {p n : Nat} {e : Epoch}

/-- A switch leaves the flow table of every Wing. -/
theorem State.table_switchTo (s : State) (p n : Nat) (e : Epoch) : (s.switchTo p n e).table = s.table := by
  unfold State.switchTo
  dsimp only
  rw [State.table_issueLeaf, State.table_epochRecord]
  (repeat' split) <;> simp only [State.table_discardRollouts, State.table_bump, State.table_placeWindows] <;> rfl

/-- What the leaf and the rollouts do not hold of a partition is after a switch as `Partition.switched` has it. -/
theorem State.partOf_switchTo {α : Type} (f : Partition → α) (hleaf : ∀ x leaf, f { x with leaf := leaf } = f x)
    (hrollouts : ∀ x rs, f { x with rollouts := rs } = f x) :
    f ((s.switchTo p n e).partOf p) =
      f ((s.partOf p).switched n e ((((s.partOf p).slot n).image.map (·.stateReset)).getD false) (decide (s.wings = 2))) := by
  unfold State.switchTo
  dsimp only
  rw [State.issueLeaf_keeps f hleaf, State.partOf_epochRecord]
  (repeat' split) <;> simp only [State.discardRollouts_keeps f hrollouts, State.partOf_bump, State.partOf_placeWindows,
    State.partOf_setPart]

variable (harmed : (s.partOf p).slotIn .armed = some n) (he : (s.partOf p).armedEpoch = some e)
include harmed he

theorem exec_epochSwitch_early (hearly : s.nt < e.switchNt) : Gives (.epochSwitch p) s s := by
  change execEpochSwitch p s = _
  simp [execEpochSwitch, harmed, he, hearly]

theorem exec_epochSwitch (hfree : s.hallFree = true) (hdue : e.switchNt ≤ s.nt) :
    Gives (.epochSwitch p) s (s.switchTo p n e) := by
  change execEpochSwitch p s = _
  simp only [execEpochSwitch, harmed, he, hfree, Nat.not_lt.2 hdue]
  rfl

end

/-! ### The staged fill (R510, R511) -/

/-- R510: the state once the fill `f` of a partition has begun. -/
def State.startFill (s : State) (p : Nat) (f : Fill) : State :=
  ((s.modSlot p (1 - f.slot) (fun y => { y with resident := false })).modSlot p f.slot (fun y => { y with high := false })).modPart p
    (fun x => { x with fill := some { f with started := true, waveStart := s.nt } })

theorem exec_stagedFillStart {s : State} {p : Nat} {f : Fill} (hfree : s.hallFree = true) (hfill : (s.partOf p).fill = some f)
    (hstart : f.started = false) (howes : s.owes p ((s.partOf p).slot f.slot).switchNt = false)
    (hrollouts : s.anyBatch p (fun b => b.graph == .rollout && b.epoch != f.epoch) = false) :
    Gives (.stagedFillStart p) s (s.startFill p f) := by
  change execStagedFillStart p s = _
  simp only [execStagedFillStart, hfill, hfree, hstart, howes, hrollouts]
  rfl

theorem State.partOf_startFill (s : State) (p : Nat) {f : Fill} (hslot : f.slot < 2) :
    ((s.startFill p f).partOf p).fill = some { f with started := true, waveStart := s.nt } ∧
      (((s.startFill p f).partOf p).slot (1 - f.slot)).resident = false := by
  simp only [State.startFill, State.partOf_modPart, true_and]
  change ((State.partOf _ p).slot (1 - f.slot)).resident = false
  rw [State.partOf_modSlot, Partition.slot_setSlot_other _ hslot, State.partOf_modSlot, Partition.slot_setSlot_same]

section
variable {α : Type} (g : State → α)

theorem State.ownWrite_keeps {i : Nat} (hg : ∀ s f, g (State.modTile s i f) = g s) (s : State) (p a : Nat) (bs : Bytes) :
    g (s.ownWrite p i a bs) = g s := by
  unfold State.ownWrite; split
  · rfl
  · exact hg ..

theorem State.relocWord_keeps {i : Nat} (hg : ∀ s f, g (State.modTile s i f) = g s) (s : State) (p a : Nat) :
    g (s.relocWord p i a) = g s := by
  unfold State.relocWord; split
  · exact State.ownWrite_keeps g hg ..
  · rfl

/-- R490, R500: the fill of a tile changes nothing but that tile. -/
theorem State.fillTile_keeps {i : Nat} (hg : ∀ s f, g (State.modTile s i f) = g s) (s : State) (p base : Nat) (t : TileImage) :
    g (s.fillTile p i base t) = g s :=
  (foldl_keeps g _ (fun _ _ => State.relocWord_keeps g hg ..) _ _).trans
    (foldl_keeps g _ (fun _ _ => State.ownWrite_keeps g hg ..) _ s)

theorem State.placeTile_keeps {i : Nat} (hg : ∀ s f, g (State.modTile s i f) = g s) (s : State) (p n : Nat) (epoch : Option Nat) :
    g (s.placeTile p n epoch i) = g s := by
  unfold State.placeTile
  dsimp only
  (repeat' split) <;> simp only [hg, State.fillTile_keeps g hg]

/-- R510: a wave changes nothing but the tiles of its quarter. -/
theorem State.foldl_placeTile_keeps {l : List Nat} (hg : ∀ i ∈ l, ∀ s f, g (State.modTile s i f) = g s) (s : State) (p n : Nat)
    (epoch : Option Nat) : g (l.foldl (fun s i => s.placeTile p n epoch i) s) = g s :=
  List.foldlRecOn (motive := fun t => g t = g s) l _ rfl
    (fun t ht i hi => (State.placeTile_keeps g (hg i hi) t p n epoch).trans ht)

end

/-- R510: the state after the wave of fill `f` that copies the partition's quarter `k`. -/
def State.copyQuarter (s : State) (p k : Nat) (f : Fill) : State :=
  (s.quarterTiles p k).foldl (fun s i => s.placeTile p f.slot (some f.epoch) i) s

section
variable (s : State) (p k : Nat) (f : Fill)

@[simp] theorem State.partOf_copyQuarter (q : Nat) : (s.copyQuarter p k f).partOf q = s.partOf q :=
  State.foldl_placeTile_keeps (State.partOf · q) (fun _ _ _ _ => rfl) s p f.slot _

@[simp] theorem State.nt_copyQuarter : (s.copyQuarter p k f).nt = s.nt :=
  State.foldl_placeTile_keeps State.nt (fun _ _ _ _ => rfl) s p f.slot _

theorem State.tile_copyQuarter_other {j : Nat} (h : j ∉ s.quarterTiles p k) : (s.copyQuarter p k f).tile j = s.tile j :=
  State.foldl_placeTile_keeps (State.tile · j) (fun _ hi t _ => t.tile_setTile_other _ (fun hj => h (hj ▸ hi))) s p f.slot _

end

/-- R510: the state after a wave of fill `f`: the last wave ends the fill with the image resident. -/
def State.endWave (s : State) (p : Nat) (f : Fill) : State :=
  let t := s.copyQuarter p ((s.partOf p).quarterCount 0 - f.wavesLeft) f
  if f.wavesLeft = 1 then
    (t.modSlot p f.slot (fun y => { y with resident := true })).modPart p (fun x => { x with fill := none })
  else t.modPart p (fun x => { x with fill := some { f with wavesLeft := f.wavesLeft - 1, waveStart := t.nt } })

section
variable {s : State} {p : Nat} {f : Fill}

theorem exec_fillWaveEnd (hfree : s.hallFree = true) (hfill : (s.partOf p).fill = some f) (hstart : f.started = true)
    (hleft : 1 ≤ f.wavesLeft)
    (hdue : f.waveStart + s.waveLength p f.slot ((s.partOf p).quarterCount 0 - f.wavesLeft) ≤ s.nt) :
    Gives (.fillWaveEnd p) s (s.endWave p f) := by
  have hends : (!s.hallFree || !f.started || decide (f.wavesLeft = 0) ||
      decide (s.nt < f.waveStart + s.waveLength p f.slot ((s.partOf p).quarterCount 0 - f.wavesLeft))) = false := by
    simp [hfree, hstart, Nat.ne_of_gt hleft, hdue]
  change execFillWaveEnd p s = _
  simp only [execFillWaveEnd, hfill, hends]
  rfl

theorem State.partOf_endWave_last (h : f.wavesLeft = 1) :
    ((s.endWave p f).partOf p).fill = none ∧ (((s.endWave p f).partOf p).slot f.slot).resident = true := by
  simp only [State.endWave, h, if_true, State.partOf_modPart, true_and]
  change ((State.partOf _ p).slot f.slot).resident = true
  rw [State.partOf_modSlot, Partition.slot_setSlot_same]

theorem State.fill_endWave (h : f.wavesLeft ≠ 1) :
    ((s.endWave p f).partOf p).fill = some { f with wavesLeft := f.wavesLeft - 1, waveStart := s.nt } := by
  simp only [State.endWave, h, if_false, State.partOf_modPart, State.nt_copyQuarter]

theorem State.tile_endWave_other {j : Nat} (h : j ∉ s.quarterTiles p ((s.partOf p).quarterCount 0 - f.wavesLeft)) :
    (s.endWave p f).tile j = s.tile j := by
  have hcopy := s.tile_copyQuarter_other p _ f h
  unfold State.endWave
  split <;> exact hcopy

end

/-! ### Retirement (R512, R514) -/

section
variable (s : State) (p : Nat)

theorem State.payRetired_of_none {s : State} {p : Nat} (h : (s.partOf p).owed = none) : s.payRetired p = s := by
  simp [State.payRetired, h]

@[simp] theorem State.slot_payRetired (m : Nat) : ((s.payRetired p).partOf p).slot m = (s.partOf p).slot m := by
  unfold State.payRetired
  dsimp only
  (repeat' split)
  · rfl
  · rw [State.partOf_epochRecord, State.partOf_setPart]; rfl
  · rfl

/-- R512: the slot of the former epoch is READY, with its image as it was. -/
theorem State.slot_retireEpoch (n : Nat) (r : Epoch) :
    ((s.retireEpoch p n r).partOf p).slot n =
      { (s.partOf p).slot n with state := .ready, epoch := 0, switchNt := 0, staged := false, gap := 0 } := by
  have hready (t : State) : (if ((s.partOf p).slot n).resident then t.tagControls p n none else t).partOf p = t.partOf p := by
    split <;> simp
  unfold State.retireEpoch
  dsimp only
  split
  · rw [State.partOf_modPart]
    change (State.partOf _ p).slot n = _
    rw [State.slot_issueLeaf, hready, State.partOf_setPart, Partition.slot_setSlot_same]
  · rw [State.partOf_epochRecord, State.slot_issueLeaf, hready, State.partOf_setPart, Partition.slot_setSlot_same]

end

theorem exec_epochRetirement {s : State} {p n : Nat} {r : Epoch} (hfree : s.hallFree = true) (howed : (s.partOf p).owed = none)
    (hretiring : (s.partOf p).slotIn .retiring = some n) (hrun : (s.partOf p).running = some r) (howes : s.owes p r.switchNt = false)
    (hrollouts : ∀ q ∈ (s.partOf p).rollouts, q.epoch ≠ ((s.partOf p).slot n).epoch)
    (hbatches : s.anyBatch p (fun b => b.epoch == ((s.partOf p).slot n).epoch) = false) :
    Gives (.epochRetirement p) s ((s.retireEpoch p n r).payRetired p) := by
  have hnone : (s.partOf p).rollouts.any (fun q => q.epoch == ((s.partOf p).slot n).epoch) = false := by
    simpa using hrollouts
  change execEpochRetirement p s = _
  simp only [execEpochRetirement, hfree, State.payRetired_of_none howed, hretiring, hrun, howes, hnone, hbatches, howed]
  rfl

/-! ### The statement -/

theorem epochsSwitchFillRetire : EpochsSwitchFillRetire := by
  refine ⟨?switch, ?fill, ?retire⟩
  case switch =>
    intro s p n e img _ hfree harmed he himg
    refine ⟨fun hearly => exec_epochSwitch_early harmed he hearly, fun hdue => ⟨_, exec_epochSwitch harmed he hfree hdue, ?_⟩⟩
    have hslot (m : Nat) := s.partOf_switchTo (p := p) (n := n) (e := e) (Partition.slot · m) (fun _ _ => rfl) (fun _ _ => rfl)
    have hreset : (((s.partOf p).slot n).image.map (·.stateReset)).getD false = img.stateReset := by rw [himg]; rfl
    refine ⟨?run, ?epoch, ?retiring, ?reset, ?staged, ?entries⟩
    case run => rw [hslot, Partition.slot_switched_armed harmed]
    case epoch => exact State.partOf_switchTo Partition.running (fun _ _ => rfl) (fun _ _ => rfl)
    case retiring =>
      intro m hm
      rw [hslot, Partition.slot_switched_running harmed hm]
    case reset =>
      intro himage
      obtain ⟨hepoch, hclear⟩ := (s.partOf p).switched_reset n e (decide (s.wings = 2))
      rw [State.partOf_switchTo Partition.resetEpoch (fun _ _ => rfl) (fun _ _ => rfl),
        State.partOf_switchTo Partition.clear0 (fun _ _ => rfl) (fun _ _ => rfl), hreset, himage]
      exact ⟨hepoch, hclear⟩
    case staged =>
      intro hstaged
      rw [State.partOf_switchTo Partition.fill (fun _ _ => rfl) (fun _ _ => rfl)]
      simp [Partition.switched, hstaged]
    case entries =>
      intro w i
      have hentries : ((s.switchTo p n e).wing w).entries = (s.wing w).entries := congrArg Prod.fst (congrFun (s.table_switchTo p n e) w)
      simp only [Wing.entry, hentries]
  case fill =>
    intro s p f _ hslot hfree hfill
    refine ⟨fun hstart howes hrollouts => ?_, fun hstart hleft hdue => ?_⟩
    · obtain ⟨hbegun, hformer⟩ := s.partOf_startFill p hslot
      exact ⟨_, exec_stagedFillStart hfree hfill hstart howes hrollouts, hbegun, hformer, rfl⟩
    · exact ⟨_, exec_fillWaveEnd hfree hfill hstart hleft hdue, State.partOf_endWave_last,
        fun hmore => State.fill_endWave (by omega), fun _ => State.tile_endWave_other⟩
  case retire =>
    intro s p n r _ hfree howed hretiring hrun howes hrollouts hbatches
    refine ⟨_, exec_epochRetirement hfree howed hretiring hrun howes hrollouts hbatches, ?_⟩
    simp [State.slot_retireEpoch]

/-- Settles O28: arming and cancelling by their conditions and what the slots read afterwards; the switch by what each of its operations
leaves of the partition; a wave by the tiles that it writes; a retirement by what the slot reads once its records are written. -/
theorem epochsRun : Obligations.EpochsRun := ⟨epochsArmAndCancel, epochsSwitchFillRetire⟩

end Sys2Proof.Machine
end

section
/-!
Proofs for the time base (chapter 14): what a valid edge finds and leaves, what each state of the time base makes of it, the other
inputs and outputs of the time base, and the commands of the Time class.
-/
open Sys2Proof Sys2Proof.Machine Sys2Proof.Claims

namespace Sys2Proof.Machine

/-! ### The messages that wait at an edge (R527, R528) -/

/-- The message that an edge follows is the newest of those in time. -/
theorem State.takeTod_accepted (s : State) (stamp : Nat) :
    (s.takeTod stamp).2 = (s.time.todWaiting.find? (InTime stamp)).map (·.1) :=
  congrArg (Option.map _) List.head?_filter

theorem State.takeTod_of_late {s : State} {stamp : Nat} (h : ∀ e ∈ s.time.todWaiting, InTime stamp e = false) :
    s.takeTod stamp =
      (({ s with time := { s.time with todWaiting := [] } }).bumpN Ctr.hallTodBad s.time.todWaiting.length, none) := by
  have hgood : s.time.todWaiting.filter (fun e => todInTime e.2 stamp) = [] :=
    List.filter_eq_nil_iff.2 fun e he => Bool.not_eq_true _ ▸ h e he
  simp only [State.takeTod, hgood]
  rfl

/-! ### A valid edge (R528, R552) -/

theorem edgeValid_of_continues {s : State} {tod : Tod} (h : Continues s tod) : edgeValid s.time tod = true := by
  unfold edgeValid
  split
  · rfl
  · next hlast => exact beq_iff_eq.2 (h _ hlast)

/-- The state in which a valid edge with message `tod` moves the time base: the messages that waited are judged, the edge is counted
and the settings are in force. -/
def State.edgeTaken (s : State) (tod : Tod) (stamp : Nat) : State :=
  let u := (s.takeTod stamp).1
  let v := ({ u with time := { u.time with todLast := some tod } }).bump Ctr.hallPpsValid
  { v with time := v.time.applySettings }

section
variable {s : State} {tod : Tod} {age stamp : Nat}

theorem exec_ppsInEdge_valid (hfree : s.hallFree = true) (hrun : s.time.stopped = false) (hwaits : TodWaits s tod (s.nt - age))
    (hcont : Continues s tod) :
    Gives (.ppsInEdge age) s ((s.edgeTaken tod (s.nt - age)).validEdge tod (s.nt - age)
      ((s.time.lastEdge.map (·.2)).getD (s.nt - age))) := by
  have haccepted : (s.takeTod (s.nt - age)).2 = some tod := (s.takeTod_accepted _).trans hwaits
  have hvalid : edgeValid (s.takeTod (s.nt - age)).1.time tod = true := edgeValid_of_continues hcont
  change execPpsInEdge age s = _
  simp only [execPpsInEdge, State.whenFree, hfree, hrun, haccepted, hvalid]
  cases hlast : s.time.lastEdge <;> simp [State.edgeTaken, State.takeTod, hlast]

/-- A valid edge that brings no setting into force changes the messages alone. -/
theorem State.time_edgeTaken (h : s.time.pendingSettings = []) :
    (s.edgeTaken tod stamp).time = { s.time with todWaiting := [], todLast := some tod } := by
  simp [State.edgeTaken, State.takeTod, TimeBase.applySettings, h]

theorem State.ctr_edgeTaken_other {id : Nat} (hbad : id ≠ Ctr.hallTodBad) (hvalid : id ≠ Ctr.hallPpsValid) :
    (s.edgeTaken tod stamp).ctr id = s.ctr id :=
  (State.ctr_bumpN_other _ _ hvalid).trans (State.ctr_bumpN_other _ _ hbad)

/-- R532: the phase error of an edge under the settings that are in force already. -/
theorem State.phase_edgeTaken (h : s.time.pendingSettings = []) :
    (s.edgeTaken tod stamp).time.phase tod stamp =
      (stamp : Int) - (((tod.seconds : Int) - s.time.originInForce) * 16000000000 + s.time.ppsInDelay) := by
  rw [State.time_edgeTaken h]
  rfl

end

/-! ### An edge in each state (R529, R532 to R534, Table 14-2) -/

/-- The state as the edge of message `tod` at `stamp` is the previous valid one. -/
def State.noteEdge (s : State) (tod : Tod) (stamp : Nat) : State :=
  { s with time := { s.time with lastEdge := some (tod.seconds, stamp) } }

@[simp] theorem State.time_noteEdge (s : State) (tod : Tod) (stamp : Nat) :
    (s.noteEdge tod stamp).time = { s.time with lastEdge := some (tod.seconds, stamp) } := rfl

section
variable {s : State} (tod : Tod) (stamp last : Nat)

theorem State.validEdge_acquire (h : s.time.state = .acquire) :
    s.validEdge tod stamp last = (s.noteEdge tod stamp).acquireEdge (s.time.phase tod stamp) := by
  simp only [State.validEdge, h, State.noteEdge]

theorem State.validEdge_locked (h : s.time.state = .locked) :
    s.validEdge tod stamp last = (s.noteEdge tod stamp).lockedEdge (s.time.phase tod stamp) last stamp := by
  simp only [State.validEdge, h, State.noteEdge]

theorem State.validEdge_holdover (h : s.time.state = .holdover) :
    s.validEdge tod stamp last =
      ({ s with time := { s.time with lastEdge := some (tod.seconds, stamp), goodRun := 0, outliers := [],
                                      phaseError := s.time.phase tod stamp } }).tbMove .acquire := by
  simp only [State.validEdge, h]

end

@[simp] theorem State.time_tbMove (s : State) (st : TbState) :
    (s.tbMove st).time = { s.time with state := st, ppsOut := s.time.ppsOut && st.drivesPps } := rfl

theorem State.ctr_tbMove (s : State) (st : TbState) :
    (s.tbMove st).ctr Ctr.hallTimeStateChange = rose (s.ctr Ctr.hallTimeStateChange) 1 :=
  (State.ctr_bumpN ..).trans (satAdd_eq_min ..)

/-- R532: steering sets the rate word and leaves the count. -/
@[simp] theorem State.time_steer (s : State) (err : Int) :
    (s.steer err).time = { s.time with rate := servoRate s.time err s.free } := by
  unfold State.steer; dsimp only; split <;> rfl

section
variable {s : State} {err : Int}

theorem State.nt_acquireEdge (s : State) (err : Int) : (s.acquireEdge err).nt = s.nt := by
  unfold State.acquireEdge; dsimp only; split
  · split <;> simp [State.nt]
  · simp [State.nt]

theorem State.phaseError_acquireEdge (s : State) (err : Int) : (s.acquireEdge err).time.phaseError = err := by
  unfold State.acquireEdge; dsimp only; split
  · split <;> simp
  · simp

/-- The eighth valid edge in a row within lock_threshold leads to LOCKED. -/
theorem State.state_acquireEdge_within (hst : s.time.state = .acquire) (h : err.natAbs ≤ s.time.lockThreshold) :
    (s.acquireEdge err).time.state = if 7 ≤ s.time.goodRun then .locked else .acquire := by
  by_cases hrun : 7 ≤ s.time.goodRun <;> simp [State.acquireEdge, h, hrun, hst]

theorem State.acquireEdge_beyond (hst : s.time.state = .acquire) (h : s.time.lockThreshold < err.natAbs) :
    (s.acquireEdge err).time.state = .acquire ∧ (s.acquireEdge err).time.goodRun = 0 := by
  simp [State.acquireEdge, Nat.not_le.2 h, hst]

theorem outliersAgree_of_short {es : List Int} (h : es.length < 4) : outliersAgree es = false := by
  simp [outliersAgree, Nat.ne_of_lt h]

/-- R534: one of the first three outliers in a row joins the others and is counted; the rate word stays. -/
theorem State.lockedEdge_outlier (hbig : s.time.outlierLimit < err.natAbs) (hfew : s.time.outliers.length < 3) (last stamp : Nat) :
    s.lockedEdge err last stamp =
      ({ s with time := { s.time with
        phaseError := err, outliers := err :: s.time.outliers,
        rateHist := lastSpan (16 * sec1) ((stamp - last, s.time.rate) :: s.time.rateHist) } }).bump Ctr.hallPpsOutlier := by
  have hlen : (err :: s.time.outliers).length < 4 := Nat.succ_lt_succ hfew
  simp only [State.lockedEdge, hbig, if_true, State.bump_time, List.take_of_length_le hlen.le, outliersAgree_of_short hlen,
    Bool.false_eq_true, if_false]
  rfl

end

/-! ### HOLDOVER (Table 14-2) -/

/-- The last 16 s of LOCKED: NT units and rate word of each stretch, newest first; `last` is the stamp of the last valid edge. -/
def TimeBase.lockedSpan (t : TimeBase) (last : Nat) : List (Nat × Nat) :=
  lastSpan (16 * sec1) (if t.state = .locked then (t.nt - last, t.rate) :: t.rateHist else t.rateHist)

/-- Two seconds after the last valid edge the time base is in HOLDOVER, at the mean rate word of LOCKED where it was ever locked. -/
theorem exec_holdover {s : State} {sec at_ : Nat} (hfree : s.hallFree = true)
    (hst : s.time.state = .acquire ∨ s.time.state = .locked) (hlast : s.time.lastEdge = some (sec, at_))
    (hdue : at_ + 32000000000 ≤ s.nt) :
    Gives .holdover s (({ s with time := { s.time with
      rate := if s.time.everLocked then (meanRate (s.time.lockedSpan at_)).getD s.time.rate else s.time.rate,
      lastEdge := none, outliers := [], goodRun := 0, rateHist := s.time.lockedSpan at_ } }).tbMove .holdover) := by
  have htime : decide (at_ + 2 * sec1 ≤ s.time.nt) = true := decide_eq_true hdue
  change execHoldover s = _
  rcases hst with hst | hst <;> simp [execHoldover, State.whenFree, hfree, hlast, hst, htime, TimeBase.lockedSpan]

theorem timeBaseStates : TimeBaseStates := by
  refine ⟨?edge, ?lost⟩
  case edge =>
    intro age s tod hfree hrun hpending _ stamp hwaits hcont err
    have hgives := exec_ppsInEdge_valid hfree hrun hwaits hcont
    have htime := s.time_edgeTaken (tod := tod) (stamp := stamp) hpending
    have hphase : (s.edgeTaken tod stamp).time.phase tod stamp = err := s.phase_edgeTaken hpending
    have hstate : (s.edgeTaken tod stamp).time.state = s.time.state := by rw [htime]
    have hnt : (s.edgeTaken tod stamp).time.nt = s.nt := by rw [htime]; rfl
    clear_value err
    refine ⟨fun hst hin => ⟨_, hgives, ?within⟩, fun hst hout => ⟨_, hgives, ?beyond⟩, fun hst => ⟨_, hgives, ?holdover⟩,
      fun hst hout hfew => ⟨_, hgives, ?outlier⟩⟩
    case within =>
      rw [State.validEdge_acquire _ _ _ (hstate.trans hst), hphase]
      refine ⟨(State.nt_acquireEdge ..).trans hnt, State.phaseError_acquireEdge .., ?_⟩
      rw [State.state_acquireEdge_within] <;> simp [htime, hst, hin]
    case beyond =>
      rw [State.validEdge_acquire _ _ _ (hstate.trans hst), hphase]
      refine ⟨(State.nt_acquireEdge ..).trans hnt, State.phaseError_acquireEdge .., ?_⟩
      apply State.acquireEdge_beyond <;> simp [htime, hst, hout]
    case holdover =>
      rw [State.validEdge_holdover _ _ _ (hstate.trans hst)]
      exact ⟨hnt, by rw [htime]; rfl, rfl⟩
    case outlier =>
      have hctr : (s.edgeTaken tod stamp).ctr Ctr.hallPpsOutlier = s.ctr Ctr.hallPpsOutlier :=
        State.ctr_edgeTaken_other (by decide) (by decide)
      rw [State.validEdge_locked _ _ _ (hstate.trans hst), hphase,
        State.lockedEdge_outlier (by simpa [htime] using hout) (by simpa [htime] using hfew)]
      refine ⟨hnt, ?_, hstate.trans hst, ?_, hctr ▸ (State.ctr_bumpN ..).trans (satAdd_eq_min ..)⟩
      · simp [htime]
      · simp [htime]
  case lost =>
    intro s sec at_ hfree hst hlast hdue
    refine ⟨_, exec_holdover hfree hst hlast hdue, rfl, rfl, fun hnever => ?_, State.ctr_tbMove ..⟩
    simp [hnever]

/-! ### Inputs and outputs (R525 to R527, R541, R548) -/

theorem exec_todMessage_bad {m : Bytes} {s : State} (hfree : s.hallFree = true) (h : parseTod m = none) :
    Gives (.todMessage m) s (s.bumpN Ctr.hallTodBad 1) := by
  change execTodMessage m s = _
  simp [execTodMessage, State.whenFree, hfree, h, State.bump]

theorem exec_todMessage {m : Bytes} {s : State} {x : Tod} (hfree : s.hallFree = true) (h : parseTod m = some x) :
    Gives (.todMessage m) s { s with time := { s.time with todWaiting := (x, s.nt) :: s.time.todWaiting } } := by
  change execTodMessage m s = _
  simp [execTodMessage, State.whenFree, hfree, h]

/-- R527: an edge that no message precedes in time counts those that wait, and is no valid edge. -/
theorem exec_ppsInEdge_late {age : Nat} {s : State} (hfree : s.hallFree = true) (hrun : s.time.stopped = false)
    (hlate : ∀ e ∈ s.time.todWaiting, InTime (s.nt - age) e = false) :
    Gives (.ppsInEdge age) s
      (({ s with time := { s.time with todWaiting := [] } }).bumpN Ctr.hallTodBad s.time.todWaiting.length) := by
  change execPpsInEdge age s = _
  simp [execPpsInEdge, State.whenFree, hfree, hrun, State.takeTod_of_late hlate]

/-- R525: within 2^56 of its end NT sets the sticky bit; at its end the count stops. -/
theorem exec_timeWrapNear {s : State} (hfree : s.hallFree = true) (hnear : 18446744073709551616 - 72057594037927936 ≤ s.nt) :
    let u := s.setSticky 105
    Gives .timeWrapNear s { u with time := { u.time with stopped := u.time.stopped || decide (max64 ≤ u.nt) } } := by
  intro u
  change execTimeWrapNear s = _
  simp only [execTimeWrapNear, State.whenFree, hfree, if_true, if_pos hnear]
  by_cases hend : max64 ≤ u.nt
  · rw [if_pos hend, decide_eq_true hend, Bool.or_true]
  · rw [if_neg hend, decide_eq_false hend, Bool.or_false]

/-- R541: the pulse of a whole second lasts 100 ms, counted from the second and the delay. -/
theorem inPulse_iff (nt delay : Int) :
    ((nt - delay) % 16000000000).toNat < 1600000000 ↔
      ∃ k : Int, k * 16000000000 + delay ≤ nt ∧ nt < k * 16000000000 + delay + 1600000000 := by
  constructor
  · intro h
    exact ⟨(nt - delay) / 16000000000, by omega, by omega⟩
  · rintro ⟨k, hlo, hhi⟩
    omega

theorem TbState.drivesPps_iff (st : TbState) : st.drivesPps = true ↔ st = .locked ∨ st = .holdover := by
  cases st <;> simp [TbState.drivesPps]

/-- R541: PPS_OUT is high in a pulse, in the states that drive it. -/
def TimeBase.ppsLevel (t : TimeBase) : Bool :=
  t.state.drivesPps && decide ((((t.nt : Int) - t.ppsOutDelay) % 16000000000).toNat < 1600000000)

theorem TimeBase.ppsLevel_iff (t : TimeBase) :
    t.ppsLevel = true ↔ (t.state = .locked ∨ t.state = .holdover) ∧
      ∃ k : Int, k * 16000000000 + t.ppsOutDelay ≤ (t.nt : Int) ∧
        (t.nt : Int) < k * 16000000000 + t.ppsOutDelay + 1600000000 := by
  rw [TimeBase.ppsLevel, Bool.and_eq_true, decide_eq_true_eq, TbState.drivesPps_iff, inPulse_iff]

theorem exec_ppsOut {s : State} (hfree : s.hallFree = true) :
    Gives .ppsOut s { s with time := { s.time with ppsOut := s.time.ppsLevel } } := by
  change execPpsOut s = _
  simp only [execPpsOut, State.whenFree, hfree, if_true]
  rfl

/-- R548: of the stopped Wings the one that resumes is none, and the others stay. -/
theorem contains_filter_ne (w : Nat) (l : List Nat) (v : Nat) :
    (l.filter (· != w)).contains v = (l.contains v && v != w) := by
  rw [Bool.eq_iff_iff]
  simp

/-! ### Commands of the Time class (R523, R552) -/

/-- R552: the time base once TIME_CONFIG has written a setting, which waits for its instant. -/
def State.configureTime (s : State) (id v : Nat) : State :=
  if id = 0x7001 then { s with time := { s.time with originPending := some v } }
  else { s with time := { s.time with pendingSettings := mput s.time.pendingSettings id (signed128 v) } }

theorem exec_timeConfig {c : CmdIn} {id v : Nat} {s : State} {cmd : Cmd} (h : Ready 0x0601 (.timeConfig c id 0 0 v) c s cmd)
    (hlo : 0x7001 ≤ id) (hhi : id ≤ 0x7008) (hok : timeSettingOk id v = true) :
    Succeeds (.timeConfig c id 0 0 v) c s (s.configureTime id v) := by
  refine congrArg Host.Outcome.next (runNow_completes h ?inRange (dataHere_of_ready h) ?body (.inl rfl) (if_pos rfl))
  case inRange => simp [hlo, hhi, hok]
  case body => unfold State.configureTime; dsimp only; split <;> rfl

theorem leAt_leBytes_append_mod (w n : Nat) (b : Bytes) : leAt (leBytes w n ++ b) 0 w = n % 256 ^ w := by
  have hslice : slice (leBytes w n ++ b) 0 w = leBytes w n := List.take_left' (length_leBytes w n)
  rw [leAt, hslice, leNat_leBytes]

/-- Table 17-21: TIME_STATUS's reply has 64 bytes. -/
theorem TimeBase.length_status (t : TimeBase) : t.status.length = 64 := by
  simp only [TimeBase.status, leInt, List.length_append, length_leBytes, zeroBytes, List.length_replicate]

/-- Table 17-21: NT stands at byte 8. -/
theorem TimeBase.leAt_status_nt (t : TimeBase) : leAt t.status 8 8 = t.nt % 2 ^ 64 := by
  simp only [TimeBase.status, List.append_assoc]
  rw [leAt_leBytes_append_of_le (le_refl 8), leAt_leBytes_append_mod, show 256 ^ 8 = 2 ^ 64 by norm_num]

theorem exec_timeStatus {c : CmdIn} {s : State} {cmd : Cmd} (h : Ready 0x0602 (.timeStatus c) c s cmd) (hroom : Room c 64) :
    Replies (.timeStatus c) c s s s.time.status :=
  congrArg Host.Outcome.next (runRead_replies h (by rwa [s.time.length_status]) rfl)

/-! ### The statement -/

theorem timeInputsAndOutputs : TimeInputsAndOutputs := by
  refine ⟨?message, ?late, ?near, ?pulse, ?resume, ?origin, ?setting, ?status⟩
  case message => exact fun m s hfree => ⟨exec_todMessage_bad hfree, fun x => exec_todMessage hfree⟩
  case late => exact fun age s hfree hrun hlate => exec_ppsInEdge_late hfree hrun hlate
  case near =>
    intro s hfree hnear
    have hbit : (s.setSticky 105).stickyBit 105 = true := by rw [State.stickyBit_setSticky _ (by decide)]; simp
    have hnt : (s.setSticky 105).nt = s.nt := congrArg TimeBase.nt (s.setSticky_time 105)
    exact ⟨_, exec_timeWrapNear hfree hnear, hbit, hnt⟩
  case pulse => exact fun s hfree => ⟨_, exec_ppsOut hfree, rfl, s.time.ppsLevel_iff⟩
  case resume =>
    intro w s
    refine ⟨_, rfl, ?_, fun v hv => ?_⟩ <;> rw [contains_filter_ne]
    · simp
    · simp [hv]
  case origin =>
    intro c v s cmd h hv
    exact exec_timeConfig h (by decide) (by decide) (decide_eq_true hv)
  case setting =>
    intro c id v s cmd h hlo hhi hok
    have hset := exec_timeConfig h (by omega) hhi hok
    rwa [State.configureTime, if_neg (by omega)] at hset
  case status =>
    exact fun c s cmd h hroom => ⟨_, exec_timeStatus h hroom, s.time.length_status, s.time.leAt_status_nt⟩

/-- Settles O30: the states by what a valid edge leaves in each of them and by what two seconds without one leave; PPS_OUT by the
remainder of NT in a second; the commands of the Time class by what their bodies answer. -/
theorem timeBaseRuns : Obligations.TimeBaseRuns := ⟨timeBaseStates, timeInputsAndOutputs⟩

end Sys2Proof.Machine
end

section
/-!
Proofs for the host interface (chapter 16): what a completion writes, enters in its ring and signals; the vectors and their
coalescing; the commands that open and close a session and that create, destroy and reset a ring.
-/
open Sys2Proof Sys2Proof.Machine Sys2Proof.Claims

namespace Sys2Proof.Machine

/-! ### What functions, vectors, counters and NT are read from -/

theorem State.func_of_funcs {s t : State} (h : t.host.funcs = s.host.funcs) (fn : Nat) : t.func fn = s.func fn := by
  simp only [State.func, h]

theorem State.vec_of_vecs {s t : State} (h : t.host.vecs = s.host.vecs) (fn v : Nat) : t.vec fn v = s.vec fn v := by
  simp only [State.vec, h]

theorem State.ctr_of_counters {s t : State} (h : t.counters = s.counters) (id : Nat) : t.ctr id = s.ctr id := by
  simp only [State.ctr, h]

theorem State.nt_of_time {s t : State} (h : t.time = s.time) : t.nt = s.nt := by simp only [State.nt, h]

/-! ### Changing one ring -/

section
variable (s : State) (r : Nat) (f : Ring → Ring)

/-- Of the host interface, a change to a ring leaves everything but the rings. -/
theorem State.modRing_host : (s.modRing r f).host = { s.host with rings := (s.modRing r f).host.rings } := by
  unfold State.modRing; split <;> rfl

@[simp] theorem State.funcs_modRing : (s.modRing r f).host.funcs = s.host.funcs := by rw [State.modRing_host]

@[simp] theorem State.vecs_modRing : (s.modRing r f).host.vecs = s.host.vecs := by rw [State.modRing_host]

theorem State.mfind_modRing_same {x : Ring} (h : mfind s.host.rings r = some x) :
    mfind (s.modRing r f).host.rings r = some (f x) := by
  simp [State.modRing, h]

theorem State.otherRings_modRing : OtherRings r s (s.modRing r f) := by
  intro q hq
  unfold State.modRing; split
  · rfl
  · exact mfind_mput_other _ _ hq

end

/-! ### Vectors (R624, R625) -/

section
variable (s : State) (fn v : Nat)

@[simp] theorem State.rings_sendVector : (s.sendVector fn v).host.rings = s.host.rings := by rw [State.sendVector_host]

@[simp] theorem State.funcs_sendVector : (s.sendVector fn v).host.funcs = s.host.funcs := by rw [State.sendVector_host]

theorem State.out_sendVector :
    (s.sendVector fn v).out = s.out ++ (if (s.vec fn v).masked then [] else [.msix fn v]) := by
  unfold State.sendVector; split
  · exact (List.append_nil _).symm
  · rfl

theorem State.vec_sendVector_masked (h : (s.vec fn v).masked = true) :
    (s.sendVector fn v).vec fn v = { s.vec fn v with pending := true } := by
  rw [s.sendVector_masked h, State.vec_setVec]

end

section
variable (s : State) (r : Nat) (x : Ring)

theorem State.mfind_sendRingVector_same {y : Ring} (h : mfind s.host.rings r = some y) :
    mfind (s.sendRingVector r x).host.rings r = some { y with pendCount := 0 } := by
  rw [State.sendRingVector, State.rings_sendVector, s.mfind_modRing_same r _ h]

theorem State.otherRings_sendRingVector : OtherRings r s (s.sendRingVector r x) := by
  intro q hq
  rw [State.sendRingVector, State.rings_sendVector, s.otherRings_modRing r _ q hq]

@[simp] theorem State.funcs_sendRingVector : (s.sendRingVector r x).host.funcs = s.host.funcs := by
  simp [State.sendRingVector]

theorem State.ctr_sendRingVector_other {id : Nat} (h : id ≠ Ctr.funcMsixSent x.fn) :
    (s.sendRingVector r x).ctr id = s.ctr id := by
  rw [State.sendRingVector, State.ctr_sendVector_other _ _ h]
  exact State.ctr_of_counters (by simp) id

theorem State.out_sendRingVector :
    (s.sendRingVector r x).out = s.out ++ (if (s.vec x.fn x.vector).masked then [] else [.msix x.fn x.vector]) := by
  rw [State.sendRingVector, State.out_sendVector, State.vec_of_vecs (s.vecs_modRing r _), State.modRing_out]

theorem State.vec_sendRingVector_masked (h : (s.vec x.fn x.vector).masked = true) :
    (s.sendRingVector r x).vec x.fn x.vector = { s.vec x.fn x.vector with pending := true } := by
  have hvec := State.vec_of_vecs (s.vecs_modRing r (fun y => { y with pendCount := 0 })) x.fn x.vector
  rw [State.sendRingVector, State.vec_sendVector_masked _ _ _ (by rw [hvec, h]), hvec]

end

/-! ### What leaves for host memory (R612, R629 to R635, R717) -/

/-- R632: chunk `k` of a transfer. -/
def chunkOf (data : Bytes) (k : Nat) : Bytes := (data.drop (4096 * k)).take 4096

/-- R632: the envelope of chunk `k` of a transfer of function `f`, whose first envelope takes the nonce that `f` holds. -/
def Func.chunkEnvelope (f : Func) (fn ring addr : Nat) (data : Bytes) (k : Nat) : Output :=
  onStream f fn (.envelope fn (chunkAddr addr k) (sealEnvelope (f.rspKey.getD [])
    (envelopeHeader 4 ring (chunkOf data k).length (4096 * k) (mget 0 f.ownSeq ring % 4294967296) (f.nonceCtr + k)) (chunkOf data k)))

/-- R632: chunk `k` of a transfer leaves. -/
def State.sealChunk (s : State) (fn ring addr : Nat) (data : Bytes) (k : Nat) : State :=
  let e := s.sealed fn 4 ring (4096 * k) (mget 0 (s.func fn).ownSeq ring % 4294967296) (chunkOf data k)
  e.2.dma fn (.envelope fn (chunkAddr addr k) e.1)

section
variable (s : State) (fn : Nat)

@[simp] theorem State.vecs_sealData (ring addr : Nat) (data : Bytes) : (s.sealData fn ring addr data).host.vecs = s.host.vecs := by
  have hchunk (t : State) (k : Nat) : (t.sealChunk fn ring addr data k).host.vecs = t.host.vecs := rfl
  exact foldl_keeps (fun t : State => t.host.vecs) _ hchunk _ s

@[simp] theorem State.vecs_hostOut (ring addr : Nat) (data : Bytes) : (s.hostOut fn ring addr data).host.vecs = s.host.vecs := by
  unfold State.hostOut; split <;> simp

@[simp] theorem State.vecs_sendCompletion (x : Ring) (e : Completion) : (s.sendCompletion x e).host.vecs = s.host.vecs := by
  unfold State.sendCompletion; dsimp only; split <;> rfl

/-- R634: a slot of BAR2 receives an envelope of the next nonce. -/
theorem State.func_slotOut (addr kind ring sequence : Nat) (plain : Bytes) :
    (s.slotOut fn addr kind ring sequence plain).func fn =
      { s.func fn with
        nonceCtr := (s.func fn).nonceCtr + 1
        bar2 := memWrite (s.func fn).bar2 addr (s.sealed fn kind ring sequence 0 plain).1 } := by
  change State.func (State.setFunc _ fn _) fn = _
  rw [State.func_setFunc, State.func_sealed]

theorem State.func_sealChunk (ring addr : Nat) (data : Bytes) (k : Nat) :
    (s.sealChunk fn ring addr data k).func fn = { s.func fn with nonceCtr := (s.func fn).nonceCtr + 1 } :=
  s.func_sealed fn 4 ring (4096 * k) (mget 0 (s.func fn).ownSeq ring % 4294967296) (chunkOf data k)

theorem State.out_sealChunk {f : Func} {ring addr : Nat} {data : Bytes} {k : Nat}
    (h : s.func fn = { f with nonceCtr := f.nonceCtr + k }) :
    (s.sealChunk fn ring addr data k).out = s.out ++ [f.chunkEnvelope fn ring addr data k] := by
  unfold State.sealChunk
  dsimp only
  rw [State.dma_out, State.func_sealed, State.sealed_out, State.sealed, h]
  rfl

/-- R630, R632: the first `n` chunks leave one after the other, each with the next nonce. -/
theorem State.foldl_sealChunk (ring addr : Nat) (data : Bytes) (n : Nat) :
    let t := (List.range n).foldl (fun (s : State) => s.sealChunk fn ring addr data) s
    t.func fn = { s.func fn with nonceCtr := (s.func fn).nonceCtr + n } ∧
    t.out = s.out ++ (List.range n).map ((s.func fn).chunkEnvelope fn ring addr data) := by
  induction n with
  | zero => exact ⟨rfl, (List.append_nil _).symm⟩
  | succ n ih =>
    obtain ⟨hfunc, hout⟩ := ih
    simp only [List.range_succ, List.foldl_append, List.foldl_cons, List.foldl_nil, List.map_append, List.map_cons, List.map_nil]
    refine ⟨?_, ?_⟩
    · rw [State.func_sealChunk, hfunc]; rfl
    · rw [State.out_sealChunk _ fn hfunc, hout, List.append_assoc]

theorem State.func_sealData (ring addr : Nat) (data : Bytes) :
    (s.sealData fn ring addr data).func fn =
      { s.func fn with nonceCtr := (s.func fn).nonceCtr + (data.length + 4095) / 4096 } :=
  (s.foldl_sealChunk fn ring addr data _).1

theorem State.out_sealData (ring addr : Nat) (data : Bytes) :
    (s.sealData fn ring addr data).out =
      s.out ++ (List.range ((data.length + 4095) / 4096)).map ((s.func fn).chunkEnvelope fn ring addr data) :=
  (s.foldl_sealChunk fn ring addr data _).2

end

/-- R632: each chunk starts at a 64-byte boundary, the first one behind the 4,144 bytes of the chunk before. -/
theorem chunkAddr_succ (addr k : Nat) :
    chunkAddr addr (k + 1) % 64 = 0 ∧ chunkAddr addr k + 4144 ≤ chunkAddr addr (k + 1) ∧
      chunkAddr addr (k + 1) < chunkAddr addr k + 4144 + 64 := by
  cases k with
  | zero => simp only [chunkAddr]; omega
  | succ k => simp only [chunkAddr]; omega

/-! ### A completion on a ring (R612, R623, R624, R648) -/

/-- Table 16-7: the entry that command `c` of ring `x` completes with. -/
def Ring.entryFor (x : Ring) (c : Cmd) (st : Status) (nt : Nat) : Completion :=
  { opcode := c.hdr.opcode, status := st.status, detail := st.detail, info := st.info, replyBytes := st.reply.length
    seqTag := c.hdr.seqTag, sqHead := x.sqHead, ring := x.localIx, phase := x.phase, nt := nt }

/-- R634: the slot of BAR2 that the completion takes. -/
def Ring.sealedSlot (x : Ring) : Nat := x.cqBase + 128 * x.cqTail

/-- R631: the COMPLETION envelope of function `f`, under the nonce that `f` holds. -/
def Func.entryEnvelope (f : Func) (x : Ring) (e : Completion) (nonce : Nat) : Bytes :=
  sealEnvelope (f.rspKey.getD []) (envelopeHeader 2 x.localIx e.bytes.length (mget 0 f.ownSeq x.localIx) 0 nonce) e.bytes

/-- The chunks of a reply. -/
def Status.chunks (st : Status) : Nat := (st.reply.length + 4095) / 4096

/-- R653: a command that completes without having started takes its step now. -/
def State.noted (s : State) (r : Nat) (c : Cmd) : State := if c.started then s else s.noteStep r c

/-- R612: the reply data and then the completion entry have left. -/
def State.delivered (s : State) (r : Nat) (x : Ring) (c : Cmd) (st : Status) : State :=
  let s := s.noted r c
  let s := if st.reply.isEmpty then s else s.hostOut x.fn x.localIx c.replyAddr st.reply
  s.sendCompletion x (x.entryFor c st s.nt)

/-- R612, R613: the entry has its CQ slot, and the ring holds no command. -/
def State.entered (s : State) (r : Nat) (x : Ring) : State :=
  (s.modRing r (fun y => { y.afterEntry s.nt with running := none })).bump (Ctr.funcCommands x.fn)

/-- R624: the ring's vector follows at `coalCount` pending entries. -/
def State.covered (s : State) (r : Nat) (x : Ring) : State :=
  if x.coalCount ≤ x.pendCount + 1 then s.sendRingVector r x else s

section
variable (s : State) (r : Nat) (c : Cmd)

@[simp] theorem State.rings_noted : (s.noted r c).host.rings = s.host.rings := by unfold State.noted; split <;> rfl

@[simp] theorem State.funcs_noted : (s.noted r c).host.funcs = s.host.funcs := by unfold State.noted; split <;> rfl

@[simp] theorem State.vecs_noted : (s.noted r c).host.vecs = s.host.vecs := by unfold State.noted; split <;> rfl

@[simp] theorem State.counters_noted : (s.noted r c).counters = s.counters := by unfold State.noted; split <;> rfl

@[simp] theorem State.out_noted : (s.noted r c).out = s.out := by unfold State.noted; split <;> rfl

@[simp] theorem State.nt_noted : (s.noted r c).nt = s.nt := by unfold State.noted; split <;> rfl

@[simp] theorem State.func_noted (fn : Nat) : (s.noted r c).func fn = s.func fn := State.func_of_funcs (by simp) fn

end

section
variable (s : State) (r : Nat) (x : Ring) (c : Cmd) (st : Status)

@[simp] theorem State.rings_delivered : (s.delivered r x c st).host.rings = s.host.rings := by
  unfold State.delivered; dsimp only; split <;> simp

@[simp] theorem State.vecs_delivered : (s.delivered r x c st).host.vecs = s.host.vecs := by
  unfold State.delivered; dsimp only; split <;> simp

@[simp] theorem State.counters_delivered : (s.delivered r x c st).counters = s.counters := by
  unfold State.delivered; dsimp only; split <;> simp

@[simp] theorem State.nt_delivered : (s.delivered r x c st).nt = s.nt := by
  rw [← s.nt_noted r c]
  refine State.nt_of_time ?_
  unfold State.delivered; dsimp only; split <;> simp

/-- R612, R648: outside bounce-buffer mode the reply and then the entry go to host memory as they are. -/
theorem State.out_delivered_plain (h : (s.func x.fn).bounce = false) :
    (s.delivered r x c st).out = s.out ++
      (if st.reply = [] then [] else [onStream (s.func x.fn) x.fn (.hostWrite x.fn c.replyAddr st.reply)]) ++
      [onStream (s.func x.fn) x.fn (.completion x.fn (x.cqBase + 32 * x.cqTail) (x.entryFor c st s.nt))] := by
  have hnoted : ((s.noted r c).func x.fn).bounce = false := by rw [s.func_noted r c, h]
  have hdma (o : Output) : ((s.noted r c).dma x.fn o).func x.fn = s.func x.fn := s.func_noted r c x.fn
  unfold State.delivered
  dsimp only
  by_cases hreply : st.reply = []
  · rw [if_pos (List.isEmpty_iff.2 hreply), if_pos hreply, State.sendCompletion_plain _ _ _ hnoted, State.dma_out]
    simp
  · rw [if_neg (mt List.isEmpty_iff.1 hreply), if_neg hreply, State.hostOut_plain _ _ _ _ hnoted,
      State.sendCompletion_plain _ _ _ (by rw [hdma, h]), State.dma_out, State.dma_out, hdma, State.nt_of_time (State.dma_time ..)]
    simp

/-- R632: in bounce-buffer mode the reply leaves in envelopes, none for an empty one. -/
theorem State.reply_sealed (h : (s.func x.fn).bounce = true) :
    let t := if st.reply.isEmpty then s else s.hostOut x.fn x.localIx c.replyAddr st.reply
    t.func x.fn = { s.func x.fn with nonceCtr := (s.func x.fn).nonceCtr + st.chunks } ∧
    t.out = s.out ++ (List.range st.chunks).map ((s.func x.fn).chunkEnvelope x.fn x.localIx c.replyAddr st.reply) ∧ t.nt = s.nt := by
  dsimp only
  split
  next hempty =>
    have hchunks : st.chunks = 0 := by simp [Status.chunks, List.isEmpty_iff.1 hempty]
    rw [hchunks]
    exact ⟨rfl, (List.append_nil _).symm, rfl⟩
  next =>
    rw [State.hostOut, if_pos h]
    exact ⟨s.func_sealData .., s.out_sealData .., State.nt_of_time (by simp)⟩

/-- R631, R634: the entry follows in an envelope of the next nonce, which its slot of BAR2 holds too. -/
theorem State.delivered_sealed (h : (s.func x.fn).bounce = true) :
    let f := s.func x.fn
    let e := f.entryEnvelope x (x.entryFor c st s.nt) (f.nonceCtr + st.chunks)
    (s.delivered r x c st).func x.fn =
      { f with nonceCtr := f.nonceCtr + st.chunks + 1, bar2 := memWrite f.bar2 x.sealedSlot e } ∧
    (s.delivered r x c st).out =
      s.out ++ (List.range st.chunks).map (f.chunkEnvelope x.fn x.localIx c.replyAddr st.reply) ++
        [.envelope x.fn x.sealedSlot e] := by
  have hnoted : ((s.noted r c).func x.fn).bounce = true := by rw [s.func_noted r c, h]
  obtain ⟨hfunc, hout, hnt⟩ := (s.noted r c).reply_sealed x c st hnoted
  rw [s.func_noted r c] at hfunc hout
  rw [s.nt_noted r c] at hnt
  rw [s.out_noted r c] at hout
  unfold State.delivered
  dsimp only at hfunc hout hnt ⊢
  generalize (if st.reply.isEmpty then s.noted r c else (s.noted r c).hostOut x.fn x.localIx c.replyAddr st.reply) = t at *
  rw [t.sendCompletion_sealed x _ (by rw [hfunc]; exact h), hnt, State.func_slotOut, State.slotOut_out, hout]
  simp only [State.sealed, hfunc]
  exact ⟨rfl, rfl⟩

end

section
variable (s : State) (r : Nat) (x : Ring)

@[simp] theorem State.funcs_entered : (s.entered r x).host.funcs = s.host.funcs := by simp [State.entered]

@[simp] theorem State.vecs_entered : (s.entered r x).host.vecs = s.host.vecs := by simp [State.entered]

@[simp] theorem State.out_entered : (s.entered r x).out = s.out := by simp [State.entered]

theorem State.mfind_entered_same {y : Ring} (h : mfind s.host.rings r = some y) :
    mfind (s.entered r x).host.rings r = some { y.afterEntry s.nt with running := none } :=
  s.mfind_modRing_same r _ h

theorem State.otherRings_entered : OtherRings r s (s.entered r x) := s.otherRings_modRing r _

theorem State.ctr_entered : (s.entered r x).ctr (Ctr.funcCommands x.fn) = satAdd max64 (s.ctr (Ctr.funcCommands x.fn)) 1 := by
  refine (State.ctr_bumpN ..).trans (congrArg (satAdd max64 · 1) ?_)
  exact State.ctr_of_counters (by simp) _

@[simp] theorem State.funcs_covered : (s.covered r x).host.funcs = s.host.funcs := by
  unfold State.covered; split <;> simp

theorem State.otherRings_covered : OtherRings r s (s.covered r x) := by
  unfold State.covered; split
  · exact s.otherRings_sendRingVector r x
  · exact fun _ _ => rfl

theorem State.mfind_covered {y : Ring} (h : mfind s.host.rings r = some y) :
    mfind (s.covered r x).host.rings r =
      some { y with pendCount := if x.coalCount ≤ x.pendCount + 1 then 0 else y.pendCount } := by
  unfold State.covered; split
  · exact s.mfind_sendRingVector_same r x h
  · exact h

theorem State.ctr_covered {id : Nat} (h : id ≠ Ctr.funcMsixSent x.fn) : (s.covered r x).ctr id = s.ctr id := by
  unfold State.covered; split
  · exact s.ctr_sendRingVector_other r x h
  · rfl

theorem State.out_covered :
    (s.covered r x).out = s.out ++
      (if decide (x.coalCount ≤ x.pendCount + 1) && !(s.vec x.fn x.vector).masked then [.msix x.fn x.vector] else []) := by
  unfold State.covered; split
  next h => rw [s.out_sendRingVector r x]; cases (s.vec x.fn x.vector).masked <;> simp [h]
  next h => simp [h]

theorem State.vec_covered_masked (hsends : x.coalCount ≤ x.pendCount + 1) (hmasked : (s.vec x.fn x.vector).masked = true) :
    (s.covered r x).vec x.fn x.vector = { s.vec x.fn x.vector with pending := true } := by
  rw [State.covered, if_pos hsends, s.vec_sendRingVector_masked r x hmasked]

end

theorem Ctr.funcCommands_ne_funcMsixSent (fn : Nat) : Ctr.funcCommands fn ≠ Ctr.funcMsixSent fn :=
  Ctr.ident_ne_funcMsixSent 7 fn (by omega) (by omega) fn

section
variable {s : State} {r : Nat} {x : Ring} {c : Cmd} (st : Status)
variable (hr : r < 4096) (hring : mfind s.host.rings r = some x) (hcmd : x.running = some c)
include hr hring hcmd

/-- A command on a ring completes in three parts: what leaves, the entry in the ring, the vector. -/
theorem State.complete_of_running : s.complete r st = ((s.delivered r x c st).entered r x).covered r x := by
  have hat : s.cmdAt r = some c := by simp [State.cmdAt, hr, hring, hcmd]
  have hnoted : mfind (s.noted r c).host.rings r = some x := by rw [s.rings_noted r c, hring]
  unfold State.noted at hnoted
  unfold State.complete
  rw [hat]
  dsimp only
  rw [if_pos hr, hnoted]
  rfl

theorem State.func_complete (fn : Nat) : (s.complete r st).func fn = (s.delivered r x c st).func fn := by
  rw [State.complete_of_running st hr hring hcmd]
  exact State.func_of_funcs (by simp) fn

theorem State.out_complete : (s.complete r st).out = (s.delivered r x c st).out ++
    (if decide (x.coalCount ≤ x.pendCount + 1) && !(s.vec x.fn x.vector).masked then [.msix x.fn x.vector] else []) := by
  have hvec : ((s.delivered r x c st).entered r x).vec x.fn x.vector = s.vec x.fn x.vector := State.vec_of_vecs (by simp) _ _
  rw [State.complete_of_running st hr hring hcmd, State.out_covered, State.out_entered, hvec]

theorem State.otherRings_complete : OtherRings r s (s.complete r st) := by
  intro q hq
  rw [State.complete_of_running st hr hring hcmd, State.otherRings_covered _ r x q hq, State.otherRings_entered _ r x q hq,
    State.rings_delivered]

theorem State.mfind_complete : mfind (s.complete r st).host.rings r =
    some { x.afterEntry s.nt with
      running := none, pendCount := if x.coalCount ≤ x.pendCount + 1 then 0 else x.pendCount + 1 } := by
  have hhere : mfind (s.delivered r x c st).host.rings r = some x := by rw [State.rings_delivered, hring]
  rw [State.complete_of_running st hr hring hcmd, State.mfind_covered _ r x (State.mfind_entered_same _ r x hhere),
    State.nt_delivered]
  rfl

theorem State.ctr_complete :
    (s.complete r st).ctr (Ctr.funcCommands x.fn) = satAdd max64 (s.ctr (Ctr.funcCommands x.fn)) 1 := by
  rw [State.complete_of_running st hr hring hcmd, State.ctr_covered _ r x (Ctr.funcCommands_ne_funcMsixSent _), State.ctr_entered,
    State.ctr_of_counters (s.counters_delivered r x c st)]

theorem State.vec_complete_masked (hsends : x.coalCount ≤ x.pendCount + 1) (hmasked : (s.vec x.fn x.vector).masked = true) :
    (s.complete r st).vec x.fn x.vector = { s.vec x.fn x.vector with pending := true } := by
  have hvec : ((s.delivered r x c st).entered r x).vec x.fn x.vector = s.vec x.fn x.vector := State.vec_of_vecs (by simp) _ _
  rw [State.complete_of_running st hr hring hcmd, State.vec_covered_masked _ r x hsends (by rw [hvec, hmasked]), hvec]

end

/-! ### Commands of the interrupts -/

/-- R624: nothing is due. -/
theorem exec_interruptCoalesceTimeout_early {s : State} {r : Nat} {x : Ring} (hring : mfind s.host.rings r = some x)
    (h : x.pendCount = 0 ∨ x.coalTime = 0 ∨ s.nt < x.firstPendNt + x.coalTime * 16000) :
    Gives (.interruptCoalesceTimeout r) s s := by
  change execInterruptCoalesceTimeout r s = _
  simp only [execInterruptCoalesceTimeout, hring, us, h, or_true, if_true]

/-- R624: coalesce_time has passed. -/
theorem exec_interruptCoalesceTimeout {s : State} {r : Nat} {x : Ring} (hring : mfind s.host.rings r = some x)
    (hfree : s.hallFree = true) (hpend : x.pendCount ≠ 0) (htime : x.coalTime ≠ 0)
    (hdue : x.firstPendNt + x.coalTime * 16000 ≤ s.nt) :
    Gives (.interruptCoalesceTimeout r) s (s.sendRingVector r x) := by
  change execInterruptCoalesceTimeout r s = _
  simp [execInterruptCoalesceTimeout, hring, hfree, hpend, htime, us, Nat.not_lt.2 hdue]

/-- R625: the vector without its mask and its pending bit. -/
def State.unmask (s : State) (fn v : Nat) : State :=
  s.setVec fn v { s.vec fn v with masked := false, pending := false }

theorem exec_vectorUnmask {s : State} {fn v : Nat} {tee : Bool} (hfree : s.hallFree = true) (htrust : s.untrusted fn tee = false) :
    Gives (.vectorUnmask fn v tee) s
      (if (s.vec fn v).pending then ((s.unmask fn v).emit (.msix fn v)).bump (Ctr.funcMsixSent fn) else s.unmask fn v) := by
  have hmasked : ((s.unmask fn v).vec fn v).masked = false := congrArg Vec.masked (s.vec_setVec fn v _)
  change execVectorUnmask fn v tee s = _
  rw [← (s.unmask fn v).sendVector_unmasked hmasked]
  simp [execVectorUnmask, hfree, State.trusted, htrust, State.unmask]

/-! ### The statement on completions and vectors -/

theorem completionsAndVectors : CompletionsAndVectors := by
  refine ⟨?completion, ?address, fun addr k => ⟨rfl, chunkAddr_succ addr k⟩, ?coalesce, ?unmask⟩
  case completion =>
    intro s r x c st hr hring hcmd _
    have hout := State.out_complete st hr hring hcmd
    refine ⟨fun hplain => ?_, fun hsealed => ?_, State.otherRings_complete st hr hring hcmd, s.complete_parts r st, s.complete_tiles r st,
      s.complete_hall r st, s.complete_time r st, ?_, ?_,
      fun hsends => State.vec_complete_masked st hr hring hcmd (of_decide_eq_true hsends)⟩
    · rw [hout, s.out_delivered_plain r x c st hplain]; rfl
    · obtain ⟨hfunc, hleft⟩ := s.delivered_sealed r x c st hsealed
      rw [State.func_complete st hr hring hcmd, hout, hfunc, hleft]
      dsimp only
      exact ⟨rfl, rfl, rfl⟩
    · rw [State.mfind_complete st hr hring hcmd]
      simp only [Ring.afterEntry, decide_eq_true_eq]
    · rw [State.ctr_complete st hr hring hcmd, satAdd_eq_min]; rfl
  case address =>
    intro c
    unfold Cmd.replyAddr
    cases c.replyAt <;> cases c.params <;> rfl
  case coalesce =>
    intro s r x hring
    refine ⟨exec_interruptCoalesceTimeout_early hring, fun hfree hpend htime hdue =>
      ⟨_, exec_interruptCoalesceTimeout hring hfree hpend htime hdue, s.mfind_sendRingVector_same r x hring,
        s.otherRings_sendRingVector r x, fun hmask => ?_, fun hmask => ⟨?_, ?_⟩⟩⟩
    · rw [s.out_sendRingVector r x, hmask]; rfl
    · rw [s.out_sendRingVector r x, hmask]; simp
    · rw [s.vec_sendRingVector_masked r x hmask]
  case unmask =>
    intro s fn v tee hfree htrust
    refine ⟨_, exec_vectorUnmask hfree htrust, ?_⟩
    split
    · exact ⟨s.vec_setVec fn v _, rfl, rfl⟩
    · exact ⟨s.vec_setVec fn v _, (List.append_nil _).symm, rfl⟩

/-! ### Feature words (R637) -/

theorem bitOf_eq_testBit (n b : Nat) : bitOf n b = n.testBit b := by
  rw [bitOf, Nat.testBit_eq_decide_div_mod_eq]; rfl

theorem featWord_eq_sum (l : List Nat) : featWord l = (l.map (fun b => 2 ^ b)).sum := by
  rw [List.sum_eq_foldl, List.foldl_map]; rfl

/-- The word of an ascending list of features has exactly their bits. -/
theorem testBit_featWord {l : List Nat} (h : l.SortedLT) (b : Nat) : (featWord l).testBit b = l.contains b := by
  have hbits : (featWord l).bitIndices = l := by rw [featWord_eq_sum, Nat.bitIndices_sum_map_two_pow h]
  rw [Bool.eq_iff_iff, ← Nat.mem_bitIndices, hbits, List.contains_iff_mem]

/-- Table 16-9: an offer lists features of the 128 bits in ascending order, and BASE is always one of them. -/
theorem State.offer_ascending (s : State) (fn : Nat) :
    (s.offer fn).SortedLT ∧ (∀ b ∈ s.offer fn, b < 128) ∧ 0 ∈ s.offer fn := by
  unfold State.offer
  dsimp only
  (repeat' split) <;> decide

/-- R637: the enabled features are those that both words hold. -/
theorem State.bitOf_enabled (s : State) (fn word b : Nat) :
    bitOf (wordAnd (featWord (s.offer fn)) word) b = ((s.offer fn).contains b && bitOf word b) := by
  obtain ⟨hsorted, hlt, -⟩ := s.offer_ascending fn
  rw [bitOf_eq_testBit, bitOf_eq_testBit, ← testBit_featWord hsorted, wordAnd, BitVec.testBit_toNat, BitVec.getLsbD_and,
    BitVec.getLsbD_ofNat, BitVec.getLsbD_ofNat]
  by_cases h : b < 128
  · simp [h]
  · have hnot : (featWord (s.offer fn)).testBit b = false := by
      rw [testBit_featWord hsorted, ← Bool.not_eq_true, List.contains_iff_mem]
      exact mt (hlt b) h
    simp [hnot]

/-- R639: BASE is enabled when the host asks for it. -/
theorem State.enabled_base_iff (s : State) (fn word : Nat) :
    wordAnd (featWord (s.offer fn)) word % 2 = 0 ↔ bitOf word 0 = false := by
  obtain ⟨-, -, hbase⟩ := s.offer_ascending fn
  have hbit := s.bitOf_enabled fn word 0
  rw [List.contains_iff_mem.2 hbase, Bool.true_and] at hbit
  rw [← hbit, bitOf, pow_zero, Nat.div_one, beq_eq_false_iff_ne]
  omega

/-! ### A command that its conditions refuse (R652) -/

theorem runNow_refuses {op : Nat} {i : Instr} {c : CmdIn} {s : State} {cmd : Cmd} (h : Ready op i c s cmd)
    {bad : List (Bool × Nat)} {body : Cmd → State → Status × State} {st : Nat} (hbad : ∀ b ∈ bad, b.1 = false)
    (hbody : body cmd s = (fail st, s)) : runNow op i c bad s body = s.complete c.ring { status := st } :=
  runNow_completes h hbad (dataHere_of_ready h) hbody (.inl rfl) (ite_self s)

/-! ### Sessions (R637, R639, R641) -/

theorem State.enabledOf_open {s : State} {fn : Nat} (h : fn < 9) (hopen : (s.func fn).session = true) :
    s.enabledOf fn = some (s.func fn).enabled := by
  rw [State.enabledOf, if_pos h]; exact if_pos hopen

theorem State.enabledOf_closed {s : State} {fn : Nat} (h : fn < 9) (hclosed : (s.func fn).session = false) :
    s.enabledOf fn = none := by
  rw [State.enabledOf, if_pos h]; exact if_neg (by rw [hclosed]; decide)

theorem State.openSession_fn {s : State} {fn : Nat} (h : fn < 9) (word en : Nat) :
    s.openSession fn word en = s.setFunc fn { s.func fn with session := true, hostWord := word, enabled := en } := by
  rw [State.openSession, if_pos h]

theorem State.closeSession_fn {s : State} {fn : Nat} (h : fn < 9) (hopen : (s.func fn).session = true) :
    s.closeSession fn = (s.setFunc fn { s.func fn with session := false, hostWord := 0, enabled := 0 }).sendVector fn 0 := by
  rw [State.closeSession, if_pos h, if_pos hopen]

section
variable {c : CmdIn} {word : Nat} {s : State} {cmd : Cmd} (h : Ready 0x0101 (.sessionOpen c word) c s cmd)
include h

theorem exec_sessionOpen_noBase (hbase : bitOf word 0 = false) : Fails (.sessionOpen c word) c s 3 := by
  refine ⟨0, congrArg Host.Outcome.next (runNow_refuses h (by simp) ?_)⟩
  exact if_pos ((s.enabled_base_iff cmd.fn word).2 hbase)

theorem exec_sessionOpen_conflict (hfn : cmd.fn < 9) (hbase : bitOf word 0 = true) (hopen : (s.func cmd.fn).session = true) :
    Fails (.sessionOpen c word) c s 7 := by
  have hodd : ¬ wordAnd (featWord (s.offer cmd.fn)) word % 2 = 0 := by rw [s.enabled_base_iff, hbase]; decide
  refine ⟨0, congrArg Host.Outcome.next (runNow_refuses h (by simp) ?_)⟩
  exact (if_neg hodd).trans (if_pos (by rw [State.enabledOf_open hfn hopen]; rfl))

theorem exec_sessionOpen (hroom : Room c 32) (hfn : cmd.fn < 9) (hbase : bitOf word 0 = true)
    (hclosed : (s.func cmd.fn).session = false) :
    Replies (.sessionOpen c word) c s (s.openSession cmd.fn word (wordAnd (featWord (s.offer cmd.fn)) word))
      (leBytes 16 (featWord (s.offer cmd.fn)) ++ leBytes 16 (wordAnd (featWord (s.offer cmd.fn)) word)) := by
  have hodd : ¬ wordAnd (featWord (s.offer cmd.fn)) word % 2 = 0 := by rw [s.enabled_base_iff, hbase]; decide
  refine congrArg Host.Outcome.next (runNow_completes h (by simp) (dataHere_of_ready h) ?_ (.inr ?_) (if_pos rfl))
  · exact (if_neg hodd).trans (if_neg (by rw [State.enabledOf_closed hfn hclosed]; decide))
  · simpa only [List.length_append, length_leBytes] using hroom

end

section
variable {c : CmdIn} {s : State} {cmd : Cmd} (h : Ready 0x0102 (.sessionClose c) c s cmd) (hfn : cmd.fn < 9)
include h hfn

theorem exec_sessionClose_none (hclosed : (s.func cmd.fn).session = false) : Fails (.sessionClose c) c s 8 := by
  refine ⟨0, congrArg Host.Outcome.next (runNow_refuses h (by simp) ?_)⟩
  exact if_pos (by rw [State.enabledOf_closed hfn hclosed]; rfl)

theorem exec_sessionClose (hopen : (s.func cmd.fn).session = true) : Succeeds (.sessionClose c) c s (s.closeSession cmd.fn) := by
  refine congrArg Host.Outcome.next (runNow_completes h (by simp) (dataHere_of_ready h) ?_ (.inl rfl) (if_pos rfl))
  exact if_neg (by rw [State.enabledOf_open hfn hopen]; simp)

end

/-! ### What a ring's commands lose with it (R592) leaves the host interface -/

@[simp] theorem State.host_issueLeaf (s : State) (p : Nat) : (s.issueLeaf p).host = s.host := by
  unfold State.issueLeaf; split <;> rfl

@[simp] theorem State.host_erasePlain (s : State) (p n : Nat) : (s.erasePlain p n).host = s.host := by
  unfold State.erasePlain; split
  · exact foldl_keeps State.host _ (fun t w => by simp [State.regionClear]) _ s
  · rfl

@[simp] theorem State.host_emptySlot (s : State) (p n : Nat) : (s.emptySlot p n).host = s.host := by
  rw [State.emptySlot, State.host_issueLeaf]; rfl

@[simp] theorem State.host_dropLoads (s : State) (r : Nat) : (s.dropLoads r).host = s.host := by
  refine foldl_keeps State.host _ (fun t p => foldl_keeps State.host _ (fun u n => ?_) _ t) _ s
  split <;> simp

@[simp] theorem State.host_cutRing (s : State) (r : Nat) : (s.cutRing r).host = s.host := s.host_dropLoads r

theorem State.rings_removeRing (s : State) (r : Nat) : (s.removeRing r).host.rings = mdel s.host.rings r := by
  change mdel (s.cutRing r).host.rings r = _
  rw [State.host_cutRing]

@[simp] theorem State.rings_dropSlots (s : State) (fn ix : Nat) : (s.dropSlots fn ix).host.rings = s.host.rings := by
  unfold State.dropSlots; dsimp only; split <;> rfl

/-! ### RING_CREATE (R606 to R608) -/

/-- The command ring that RING_CREATE adds: as its fields say, everything else at its start. -/
def State.newRing (s : State) (fn ix log2 v cc ct sq cq : Nat) : Ring :=
  { fn := fn, localIx := ix, kind := .command, log2 := log2, sqBase := sq, cqBase := cq, vector := v, coalCount := cc, coalTime := ct
    drainSource := 0, error := (s.func fn).tdisp == .error }

/-- Table 16-5: the ranges of RING_CREATE's fields for a command ring. -/
structure RingFits (s : State) (fn ix log2 v sq cq : Nat) : Prop where
  index : ix ≠ 0
  size : 4 ≤ log2 ∧ log2 ≤ 16
  vector : 1 ≤ v ∧ v < (if fn = 0 then 1024 else 128)
  sqAligned : sq % 4096 = 0
  cqAligned : cq % 4096 = 0
  vfIndex : fn ≠ 0 → ix ≤ 511
  inBar2 : (s.func fn).bounce = true → sq + 128 * 2 ^ log2 ≤ bar2Size fn ∧ cq + 128 * 2 ^ log2 ≤ bar2Size fn

/-- What RING_CREATE answers to a command ring in range. -/
def State.createRing (s : State) (fn ix : Nat) (x : Ring) : Status × State :=
  if s.ringLimit fn ≤ (s.ringsOf fn).length ∨ 4096 ≤ s.host.rings.length then (fail stBusy, s)
  else if (s.ringBy fn ix).isSome || (fn == 0 && (mfind s.host.rings ix).isSome) then (fail stConflict, s)
  else
    match s.globalFor fn ix with
    | none => (fail stBusy, s)
    | some g => ({ status := stOk, info := g }, { s with host := { s.host with rings := mput s.host.rings g x } })

section
variable {c : CmdIn} {ix log2 v cc ct sq cq : Nat} {s : State} {cmd : Cmd}
variable (h : Ready 0x0103 (.ringCreate c ix .command log2 v cc ct 0 sq cq) c s cmd) (hfits : RingFits s cmd.fn ix log2 v sq cq)
include h hfits

theorem exec_ringCreate {st : Status} {t : State}
    (hbody : s.createRing cmd.fn ix (s.newRing cmd.fn ix log2 v cc ct sq cq) = (st, t)) (hreply : st.reply = []) :
    Gives (.ringCreate c ix .command log2 v cc ct 0 sq cq) s ((if st.status = stOk then t else s).complete c.ring st) := by
  have hcmd : s.cmdAt c.ring = some cmd := h.1
  have hfn : ((s.cmdAt c.ring).map (·.fn)).getD 0 = cmd.fn := by rw [hcmd]; rfl
  have hbeyond (base : Nat) (hb : (s.func cmd.fn).bounce = true → base + 128 * 2 ^ log2 ≤ bar2Size cmd.fn) :
      ((s.func cmd.fn).bounce && decide (bar2Size cmd.fn < base + 128 * 2 ^ log2)) = false := by
    rw [Bool.and_eq_false_imp]
    exact fun hbounce => decide_eq_false (Nat.not_lt.2 (hb hbounce))
  have hsq := hbeyond sq (fun hb => (hfits.inBar2 hb).1)
  have hcq := hbeyond cq (fun hb => (hfits.inBar2 hb).2)
  have hvf : (cmd.fn != 0 && decide (511 < ix)) = false := by
    rw [Bool.and_eq_false_imp]
    exact fun hne => decide_eq_false (Nat.not_lt.2 (hfits.vfIndex (bne_iff_ne.1 hne)))
  refine congrArg Host.Outcome.next (runNow_completes h ?inRange (dataHere_of_ready h) hbody (.inl hreply) rfl)
  case inRange =>
    have hix : (ix == 0) = false := beq_false_of_ne hfits.index
    simp [hfn, hsq, hcq, hvf, hix, hfits.size, hfits.vector, hfits.sqAligned, hfits.cqAligned]

theorem exec_ringCreate_refuses {st : Nat} (hbody : s.createRing cmd.fn ix (s.newRing cmd.fn ix log2 v cc ct sq cq) = (fail st, s)) :
    Fails (.ringCreate c ix .command log2 v cc ct 0 sq cq) c s st := by
  refine ⟨0, ?_⟩
  have hgives := exec_ringCreate h hfits hbody rfl
  rwa [ite_self] at hgives

end

section
variable {s : State} {fn ix : Nat} (x : Ring)

theorem State.createRing_full (h : s.ringLimit fn ≤ (s.ringsOf fn).length ∨ 4096 ≤ s.host.rings.length) :
    s.createRing fn ix x = (fail stBusy, s) := if_pos h

variable (hlimit : (s.ringsOf fn).length < s.ringLimit fn) (hroom : s.host.rings.length < 4096)
include hlimit hroom

theorem State.createRing_taken (h : s.ringBy fn ix ≠ none ∨ (fn = 0 ∧ mfind s.host.rings ix ≠ none)) :
    s.createRing fn ix x = (fail stConflict, s) := by
  have htaken : ((s.ringBy fn ix).isSome || (fn == 0 && (mfind s.host.rings ix).isSome)) = true := by
    simpa only [Bool.or_eq_true, Bool.and_eq_true, Option.isSome_iff_ne_none, beq_iff_eq] using h
  rw [State.createRing, if_neg (by omega), if_pos htaken]

theorem State.createRing_free {g : Nat} (hlocal : s.ringBy fn ix = none) (hpf : fn = 0 → mfind s.host.rings ix = none)
    (hglobal : s.globalFor fn ix = some g) :
    s.createRing fn ix x = ({ status := stOk, info := g }, { s with host := { s.host with rings := mput s.host.rings g x } }) := by
  have hfree : ¬ ((s.ringBy fn ix).isSome || (fn == 0 && (mfind s.host.rings ix).isSome)) = true := by
    simp only [Bool.or_eq_true, Bool.and_eq_true, Option.isSome_iff_ne_none, beq_iff_eq, ne_eq, hlocal]
    tauto
  rw [State.createRing, if_neg (by omega), if_neg hfree, hglobal]

end

/-! ### RING_DESTROY and RING_RESET (R618, R620) -/

/-- What a command answers that names a ring of its function other than the admin ring and its own: `done r` once the ring is `r`. -/
def State.onNamedRing (s : State) (fn ix own : Nat) (done : Nat → State) : Status × State :=
  match s.ringBy fn ix with
  | none => (fail stNotFound, s)
  | some r => if ix = 0 ∨ r = own then (fail stConflict, s) else (okStatus, done r)

section
variable {op : Nat} {i : Instr} {c : CmdIn} {ix : Nat} {s : State} {cmd : Cmd} {done : Cmd → State → Nat → State}
variable (h : Ready op i c s cmd)
variable (hexec : exec i s = .next (runNow op i c [] s (fun cmd s => s.onNamedRing cmd.fn ix c.ring (done cmd s))))
include h hexec

theorem exec_onNamedRing_none (hby : s.ringBy cmd.fn ix = none) : Fails i c s 8 := by
  refine ⟨0, hexec.trans (congrArg Host.Outcome.next (runNow_refuses h (by simp) ?_))⟩
  rw [State.onNamedRing, hby]; rfl

variable {r : Nat} (hby : s.ringBy cmd.fn ix = some r)
include hby

theorem exec_onNamedRing_kept (hkept : ix = 0 ∨ r = c.ring) : Fails i c s 7 := by
  refine ⟨0, hexec.trans (congrArg Host.Outcome.next (runNow_refuses h (by simp) ?_))⟩
  rw [State.onNamedRing, hby]; exact if_pos hkept

theorem exec_onNamedRing (hix : ix ≠ 0) (hother : r ≠ c.ring) : Succeeds i c s (done cmd s r) := by
  refine hexec.trans (congrArg Host.Outcome.next (runNow_completes h (by simp) (dataHere_of_ready h) ?_ (.inl rfl) (if_pos rfl)))
  rw [State.onNamedRing, hby]; exact if_neg (not_or.2 ⟨hix, hother⟩)

end

theorem exec_ringDestroy_eq (c : CmdIn) (ix : Nat) (s : State) : exec (.ringDestroy c ix) s =
    .next (runNow 0x0104 (.ringDestroy c ix) c [] s (fun cmd s =>
      s.onNamedRing cmd.fn ix c.ring (fun r => (s.removeRing r).dropSlots cmd.fn ix))) := rfl

theorem exec_ringReset_eq (c : CmdIn) (ix : Nat) (s : State) : exec (.ringReset c ix) s =
    .next (runNow 0x0105 (.ringReset c ix) c [] s (fun cmd s =>
      s.onNamedRing cmd.fn ix c.ring (fun r => s.resetRing cmd.fn ix r))) := rfl

theorem State.mfind_destroyed {s : State} (hasc : Ascending s.host.rings) (fn ix r : Nat) :
    mfind ((s.removeRing r).dropSlots fn ix).host.rings r = none := by
  rw [State.rings_dropSlots, State.rings_removeRing, mfind_mdel_same hasc]

theorem State.otherRings_destroyed (s : State) (fn ix r : Nat) : OtherRings r s ((s.removeRing r).dropSlots fn ix) := by
  intro q hq
  rw [State.rings_dropSlots, State.rings_removeRing, mfind_mdel_other _ hq]

theorem State.otherRings_resetRing (s : State) (fn ix r : Nat) : OtherRings r s (s.resetRing fn ix r) := by
  intro q hq
  rw [State.resetRing, State.rings_dropSlots, s.otherRings_modRing r _ q hq]

theorem State.mfind_resetRing {s : State} {r : Nat} {x : Ring} (h : mfind s.host.rings r = some x) (fn ix : Nat) :
    mfind (s.resetRing fn ix r).host.rings r = some (restarted x ((s.func fn).tdisp == .error)) := by
  rw [State.resetRing, State.rings_dropSlots, s.mfind_modRing_same r _ h]; rfl

/-! ### The statement on sessions and rings, and the whole -/

theorem sessionsAndRings : SessionsAndRings := by
  refine ⟨?opens, ?closes, ?creates, ?others⟩
  case opens =>
    intro c word s cmd h hroom hfn
    refine ⟨exec_sessionOpen_noBase h, exec_sessionOpen_conflict h hfn, fun hbase hclosed =>
      ⟨_, _, exec_sessionOpen h hroom hfn hbase hclosed, ?_, s.bitOf_enabled cmd.fn word, ?_, ?_⟩⟩
    · rw [State.openSession_fn hfn, State.enabledOf_open hfn (congrArg Func.session (State.func_setFunc ..)), State.func_setFunc]
    · rw [State.openSession_fn hfn]; rfl
    · rw [State.openSession_fn hfn]; rfl
  case closes =>
    intro c s cmd h hfn
    refine ⟨exec_sessionClose_none h hfn, fun hopen => ⟨_, exec_sessionClose h hfn hopen, ?_⟩⟩
    rw [State.closeSession_fn hfn hopen]
    refine ⟨State.enabledOf_closed hfn ?_, State.sendVector_parts .., State.sendVector_tiles .., State.rings_sendVector ..⟩
    rw [State.func_of_funcs (State.funcs_sendVector ..), State.func_setFunc]
  case creates =>
    intro c ix log2 v cc ct sq cq s cmd h hix hlo hhi hv hvn hsq hcq hvf hbar
    have hfits : RingFits s cmd.fn ix log2 v sq cq := ⟨hix, ⟨hlo, hhi⟩, ⟨hv, hvn⟩, hsq, hcq, hvf, hbar⟩
    refine ⟨fun hfull => exec_ringCreate_refuses h hfits (State.createRing_full _ hfull), fun hlimit hroom =>
      ⟨fun htaken => exec_ringCreate_refuses h hfits (State.createRing_taken _ hlimit hroom htaken), fun g hlocal hpf hglobal =>
      ⟨_, exec_ringCreate h hfits (State.createRing_free _ hlimit hroom hlocal hpf hglobal) rfl, fun q hq => ?_, ?_⟩⟩⟩
    · exact mfind_mput_other _ _ hq
    · exact mfind_mput_same ..
  case others =>
    intro c ix s cmd hasc
    refine ⟨fun h => ?_, fun h => ?_⟩
    · have hexec := exec_ringDestroy_eq c ix s
      exact ⟨exec_onNamedRing_none h hexec, fun r hby => ⟨exec_onNamedRing_kept h hexec hby, fun hix hother =>
        ⟨_, exec_onNamedRing h hexec hby hix hother, State.mfind_destroyed hasc cmd.fn ix r, s.otherRings_destroyed cmd.fn ix r⟩⟩⟩
    · have hexec := exec_ringReset_eq c ix s
      exact ⟨exec_onNamedRing_none h hexec, fun r hby => ⟨exec_onNamedRing_kept h hexec hby, fun hix hother =>
        ⟨_, exec_onNamedRing h hexec hby hix hother, s.otherRings_resetRing cmd.fn ix r,
          fun _ hx => State.mfind_resetRing hx cmd.fn ix⟩⟩⟩

/-- Settles O36: a completion by its three parts, each with what it writes and what it leaves; the vectors by their mask; the sessions by
the bits of the two feature words; the rings by the conditions of their commands. -/
theorem sessionsAndCompletions : Obligations.SessionsAndCompletions := ⟨completionsAndVectors, sessionsAndRings⟩

end Sys2Proof.Machine
end

section
/-!
Proofs for the report queues (chapter 18): what a queue, its level and its counters read as after the operations that reach them, and
what an exported item leaves.
-/
open Sys2Proof Sys2Proof.Machine Sys2Proof.Claims

namespace Sys2Proof.Machine

/-! ### Queues -/

@[simp] theorem State.rq_setRq (s : State) (p q : Nat) (x : ReportQ) : (s.setRq p q x).rq p q = x := mget_mput_same ..

theorem State.rq_of_rqs {s t : State} (h : t.rqs = s.rqs) (p q : Nat) : t.rq p q = s.rq p q := by
  simp only [State.rq, h]

@[simp] theorem State.rq_bumpN (s : State) (id n p q : Nat) : (s.bumpN id n).rq p q = s.rq p q := rfl

@[simp] theorem State.rq_bump (s : State) (id p q : Nat) : (s.bump id).rq p q = s.rq p q := rfl

theorem wordsIn_eq_sum (rs : List QRec) : wordsIn rs = (rs.map (fun r => r.words.length)).sum :=
  List.sum_eq_foldl.symm

theorem wordsIn_perm {rs rs' : List QRec} (h : rs.Perm rs') : wordsIn rs = wordsIn rs' := by
  rw [wordsIn_eq_sum, wordsIn_eq_sum, (h.map _).sum_eq]

theorem wordsIn_cons (r : QRec) (rs : List QRec) : wordsIn (r :: rs) = r.words.length + wordsIn rs := by
  simp only [wordsIn_eq_sum, List.map_cons, List.sum_cons]

/-! ### Levels (R678) -/

/-- A table whose numbers are renamed one to one and whose entries are mapped. -/
theorem mget_map {α β : Type} {f : Nat → Nat} (hf : Function.Injective f) (g : α → β) (d : α) (t : Tab α) (k : Nat) :
    mget (g d) (t.map (fun e => (f e.1, g e.2))) (f k) = g (mget d t k) := by
  induction t with
  | nil => rfl
  | cons e t ih =>
    obtain ⟨i, a⟩ := e
    by_cases h : i = k
    · simp [mget, h]
    · simp [mget, h, hf.ne h, ih]

theorem Ctr.rqWaiting_injective : Function.Injective Ctr.rqWaiting := by
  intro i j h
  simp only [Ctr.rqWaiting, Ctr.ident] at h
  omega

theorem State.level_rqWaiting (s : State) (p q : Nat) : mget 0 s.levels (Ctr.rqWaiting (4 * p + q)) = (s.rq p q).waiting :=
  mget_map Ctr.rqWaiting_injective ReportQ.waiting {} s.rqs (4 * p + q)

/-! ### Counters (R673, R759) -/

theorem State.ctr_bump (s : State) (id : Nat) : (s.bump id).ctr id = rose (s.ctr id) 1 :=
  (State.ctr_bumpN ..).trans (satAdd_eq_min ..)

theorem State.ctr_bump_other (s : State) {id j : Nat} (h : j ≠ id) : (s.bump id).ctr j = s.ctr j := State.ctr_bumpN_other _ _ h

theorem rose_rose (a n : Nat) : rose (rose a 1) n = rose a (n + 1) := by
  by_cases h : n = 0
  · subst h; rfl
  · simp only [rose, h, Nat.succ_ne_zero, one_ne_zero, if_false]; omega

/-- R766: counters of one queue have each their own index. -/
theorem Ctr.ident_ne_of_index {group i k j : Nat} (h : k ≠ j) : Ctr.ident group i k ≠ Ctr.ident group i j := by
  simp only [Ctr.ident]; omega

theorem State.ctr_countLost (p q k : Nat) (prios : List Nat) (s : State) :
    (s.countLost p q prios).ctr (Ctr.rqLostPrio (4 * p + q) k) = rose (s.ctr (Ctr.rqLostPrio (4 * p + q) k)) (prios.count k) := by
  induction prios generalizing s with
  | nil => rfl
  | cons j prios ih =>
    have hrest := ih (s.bump (Ctr.rqLostPrio (4 * p + q) j))
    by_cases h : j = k
    · rw [h, State.ctr_bump, rose_rose] at hrest
      rw [h, List.count_cons_self]; exact hrest
    · have hother : Ctr.rqLostPrio (4 * p + q) k ≠ Ctr.rqLostPrio (4 * p + q) j := Ctr.ident_ne_of_index (by omega)
      rw [State.ctr_bump_other _ hother] at hrest
      rw [List.count_cons_of_ne h]; exact hrest

theorem State.countLost_keeps {α : Type} (g : State → α) (hbump : ∀ s id, g (State.bump s id) = g s) (s : State) (p q : Nat)
    (prios : List Nat) : g (s.countLost p q prios) = g s :=
  foldl_keeps g _ (fun _ _ => hbump ..) prios s

/-! ### What an exported item leaves (R559, R570, R572) -/

section
variable {α : Type} (g : State → α) (hqueue : ∀ s q x, g (State.setXq s q x) = g s) (hport : ∀ s n x, g (State.setXport s n x) = g s)
include hqueue

theorem State.refreshQueue_keeps (s : State) (vc q : Nat) : g (s.refreshQueue vc q) = g s := by
  unfold State.refreshQueue; dsimp only; (repeat' split) <;> simp only [hqueue]

include hport

theorem State.refreshClass_keeps (s : State) (port c : Nat) : g (s.refreshClass port c) = g s := by
  have hqueues (t : State) (l : List Nat) :
      g (l.foldl (fun s q => s.refreshQueue ((s.xport port).startVc s.nt c) q) t) = g t :=
    foldl_keeps g _ (fun _ _ => State.refreshQueue_keeps g hqueue ..) l t
  unfold State.refreshClass; dsimp only; (repeat' split) <;> simp only [hport, hqueues]

theorem State.refreshPort_keeps (s : State) (port : Nat) : g (s.refreshPort port) = g s :=
  foldl_keeps g _ (fun _ _ => State.refreshClass_keeps g hqueue hport ..) _ s

variable {q : Nat} (hctr : ∀ s k n, k < 5 → g (State.bumpN s (Ctr.ident 6 q k) n) = g s)
include hctr

theorem State.closePayload_keeps (s : State) : g (s.closePayload q) = g s := by
  have hitems (t : State) (n : Nat) : g (t.bumpN (Ctr.queueItems q) n) = g t := hctr t 2 n (by omega)
  have hframes (t : State) : g (t.bump (Ctr.queueDroppedFrames q)) = g t := hctr t 3 1 (by omega)
  have hdropped (t : State) (n : Nat) : g (t.bumpN (Ctr.queueDroppedItems q) n) = g t := hctr t 4 n (by omega)
  unfold State.closePayload; dsimp only
  split
  · rfl
  · split
    · rw [State.refreshPort_keeps g hqueue hport, hqueue, hitems]
    · rw [hdropped, hframes, hqueue, hitems]

theorem State.appendItem_keeps (s : State) (i : ExpItem) : g (s.appendItem q i) = g s := by
  have hclose := State.closePayload_keeps g hqueue hport hctr
  unfold State.appendItem; dsimp only; (repeat' split) <;> simp only [hqueue, hclose]

end

/-- An exported item changes the queues and ports of the exporter, and counters of the one queue that takes it. -/
theorem State.exportItem_keeps {α : Type} (g : State → α) (hqueue : ∀ s q x, g (State.setXq s q x) = g s)
    (hport : ∀ s n x, g (State.setXport s n x) = g s)
    (hctr : ∀ s q k n, q < 4096 → k < 5 → g (State.bumpN s (Ctr.ident 6 q k) n) = g s) (s : State) (b : Nat) (i : ExpItem) :
    g (s.exportItem b i) = g s := by
  unfold State.exportItem
  split
  · rename_i h
    simp only [Bool.and_eq_true, decide_eq_true_eq] at h
    exact State.appendItem_keeps g hqueue hport (fun s k n hk => hctr s b k n h.2 hk) s i
  · rfl

/-- R670: the exported copy of a record leaves the counters of the report queues. -/
theorem State.ctr_reportCopy (s : State) (p q : Nat) (r : QRec) {i k : Nat} (hi : i < 64) (hk : k < 4096) :
    (s.reportCopy p q r).ctr (Ctr.ident 9 i k) = s.ctr (Ctr.ident 9 i k) := by
  unfold State.reportCopy
  split
  · rfl
  · refine State.exportItem_keeps (fun t => t.ctr (Ctr.ident 9 i k)) (fun _ _ _ => rfl) (fun _ _ _ => rfl) (fun t j m n hj hm => ?_) ..
    exact t.ctr_bumpN_other n (by simp only [Ctr.ident]; omega)

end Sys2Proof.Machine
end

section
/-!
Proofs for the writing of report queues (chapter 18): a record that arrives, the discards that a full queue makes, the push, the word of
a Hall cycle and the notification, and the statement about them.
-/
open Sys2Proof Sys2Proof.Machine Sys2Proof.Claims

namespace Sys2Proof.Machine

/-! ### Words and bytes (R664, R665) -/

theorem leNat_lt (bs : Bytes) : leNat bs < 256 ^ bs.length := by
  induction bs with
  | nil => simp [leNat]
  | cons b bs ih =>
    have hb : b.toNat < 256 := b.isLt
    rw [leNat, List.length_cons, pow_succ]; omega

theorem leBytes_leNat (bs : Bytes) : leBytes bs.length (leNat bs) = bs := by
  induction bs with
  | nil => rfl
  | cons b bs ih =>
    have hb : b.toNat < 256 := b.isLt
    have hrest : (b.toNat + 256 * leNat bs) / 256 = leNat bs := by omega
    have hfirst : BitVec.ofNat 8 (b.toNat + 256 * leNat bs) = b := BitVec.eq_of_toNat_eq (by rw [BitVec.toNat_ofNat]; omega)
    rw [leNat, List.length_cons, leBytes, hrest, ih, hfirst]

theorem length_wordsOf (n : Nat) (bs : Bytes) : (wordsOf n bs).length = n := by
  induction n generalizing bs with
  | zero => rfl
  | succ n ih => rw [wordsOf, List.length_cons, ih]

theorem flatMap_wordsOf (n : Nat) (bs : Bytes) (h : bs.length = 8 * n) : (wordsOf n bs).flatMap (fun w => leBytes 8 w.toNat) = bs := by
  induction n generalizing bs with
  | zero => exact (List.length_eq_zero_iff.1 h).symm
  | succ n ih =>
    have hlen : (bs.take 8).length = 8 := by rw [List.length_take]; omega
    have hlt := leNat_lt (bs.take 8)
    rw [hlen] at hlt
    have hword : leBytes 8 (BitVec.ofNat 64 (leNat (bs.take 8))).toNat = bs.take 8 := by
      rw [BitVec.toNat_ofNat, Nat.mod_eq_of_lt (hlt.trans_eq (by norm_num))]
      simpa only [hlen] using leBytes_leNat (bs.take 8)
    rw [wordsOf, List.flatMap_cons, hword, ih (bs.drop 8) (by rw [List.length_drop]; omega), List.take_append_drop]

/-- Table 18-1: fields that are in range lie side by side in the header, behind the valid bit. -/
theorem recHeader_fields {type words prio p q seq : Nat} (htype : type < 256) (hwords : words < 128) (hprio : prio < 8) (hp : p < 16)
    (hq : q < 4) (hseq : seq < 65536) :
    let h := recHeader type words prio p q seq
    h.toNat % 256 = type ∧ h.toNat / 256 % 256 = words ∧ h.toNat / 65536 % 16 = prio ∧ h.toNat / 1048576 % 16 = p ∧
    h.toNat / 16777216 % 256 = q ∧ h.toNat / 4294967296 % 2147483648 = seq ∧ h.getLsbD 63 = true := by
  have hsum : (recHeader type words prio p q seq).toNat =
      type + 256 * words + 65536 * prio + 1048576 * p + 16777216 * q + 4294967296 * seq + 9223372036854775808 := by
    rw [recHeader, BitVec.toNat_ofNat, Nat.mod_eq_of_lt (by omega)]
  intro h
  rw [BitVec.getLsbD, Nat.testBit_eq_decide_div_mod_eq, decide_eq_true_eq, hsum]
  omega

/-! ### Arrival (R666 to R668, R673) -/

/-- R666: the record that reaches a queue `x`, with the fields that the device writes. -/
def ReportQ.arrival (x : ReportQ) (p q prio type : Nat) (body : Bytes) : QRec :=
  { words := storedWords (recHeader type (1 + body.length / 8) prio p q x.seq :: wordsOf (body.length / 8) body)
    length := 1 + body.length / 8, priority := prio }

section
variable (s : State) (p q prio type : Nat) (body : Bytes)

/-- R667, R670: a record has reached its queue: it is counted, and an exported item copies it. -/
def State.arrived : State := (s.bump (Ctr.rqArrived (4 * p + q))).reportCopy p q ((s.rq p q).arrival p q prio type body)

/-- The queue once the arrival has taken its sequence number (R667). -/
def ReportQ.counted (x : ReportQ) : ReportQ := { x with seq := (x.seq + 1) % 65536 }

variable {s p q body}

/-- R668: a record that finds room is staged behind the others. -/
theorem State.record_staged (h : wordsIn (s.rq p q).staging + (1 + body.length / 8) ≤ 256) : s.record p q prio type body =
    (s.arrived p q prio type body).setRq p q
      { (s.rq p q).counted with staging := (s.rq p q).staging ++ [(s.rq p q).arrival p q prio type body] } := by
  have hbody : 1 + body.length / 8 - 1 = body.length / 8 := Nat.add_sub_cancel_left ..
  unfold State.record
  dsimp only
  rw [if_pos h, hbody]; rfl

/-- R668, R673: a record that finds no room in the staging buffer is lost. -/
theorem State.record_refused (h : 256 < wordsIn (s.rq p q).staging + (1 + body.length / 8)) : s.record p q prio type body =
    (((s.arrived p q prio type body).setRq p q (s.rq p q).counted).bump (Ctr.rqLostPrio (4 * p + q) prio)).bump
      (Ctr.rqLostStaging (4 * p + q)) := by
  have hbody : 1 + body.length / 8 - 1 = body.length / 8 := Nat.add_sub_cancel_left ..
  unfold State.record
  dsimp only
  rw [if_neg (Nat.not_le.2 h), hbody]; rfl

section
variable (hi : 4 * p + q < 64)
include hi

theorem State.ctr_arrived :
    (s.arrived p q prio type body).ctr (Ctr.rqArrived (4 * p + q)) = rose (s.ctr (Ctr.rqArrived (4 * p + q))) 1 :=
  (State.ctr_reportCopy _ p q _ hi (by omega)).trans (State.ctr_bump ..)

theorem State.ctr_arrived_other {k : Nat} (hk : k < 4096) (h0 : k ≠ 0) :
    (s.arrived p q prio type body).ctr (Ctr.ident 9 (4 * p + q) k) = s.ctr (Ctr.ident 9 (4 * p + q) k) :=
  (State.ctr_reportCopy _ p q _ hi hk).trans (State.ctr_bump_other _ (Ctr.ident_ne_of_index h0))

theorem State.ctr_record_refused (h : 256 < wordsIn (s.rq p q).staging + (1 + body.length / 8)) (hprio : prio < 8) :
    (s.record p q prio type body).ctr (Ctr.rqArrived (4 * p + q)) = rose (s.ctr (Ctr.rqArrived (4 * p + q))) 1 ∧
    (s.record p q prio type body).ctr (Ctr.rqLostPrio (4 * p + q) prio) = rose (s.ctr (Ctr.rqLostPrio (4 * p + q) prio)) 1 ∧
    (s.record p q prio type body).ctr (Ctr.rqLostStaging (4 * p + q)) = rose (s.ctr (Ctr.rqLostStaging (4 * p + q))) 1 := by
  have harrivedPrio : Ctr.rqArrived (4 * p + q) ≠ Ctr.rqLostPrio (4 * p + q) prio := Ctr.ident_ne_of_index (by omega)
  have harrivedStaging : Ctr.rqArrived (4 * p + q) ≠ Ctr.rqLostStaging (4 * p + q) := Ctr.ident_ne_of_index (by omega)
  have hprioStaging : Ctr.rqLostPrio (4 * p + q) prio ≠ Ctr.rqLostStaging (4 * p + q) := Ctr.ident_ne_of_index (by omega)
  rw [State.record_refused prio type h]
  refine ⟨?_, ?_, ?_⟩
  · rw [State.ctr_bump_other _ harrivedStaging, State.ctr_bump_other _ harrivedPrio]
    exact State.ctr_arrived prio type hi
  · rw [State.ctr_bump_other _ hprioStaging, State.ctr_bump]
    exact congrArg (rose · 1) (State.ctr_arrived_other prio type hi (by omega) (by omega))
  · rw [State.ctr_bump, State.ctr_bump_other _ hprioStaging.symm]
    exact congrArg (rose · 1) (State.ctr_arrived_other prio type hi (by omega) (by omega))

end

end

/-! ### Discards (R671, R672) -/

theorem foldl_max_mem {l : List Nat} {a : Nat} (h : a ∈ l) : l.foldl max 0 ∈ l ∧ a ≤ l.foldl max 0 := by
  cases hmax : l.max? with
  | none => rw [List.max?_eq_none_iff.1 hmax] at h; exact absurd h List.not_mem_nil
  | some top =>
    obtain ⟨hmem, hle⟩ := List.max?_eq_some_iff.1 hmax
    have htop : l.foldl max 0 = top := by rw [List.foldl_max, hmax]; exact Nat.zero_max top
    exact htop ▸ ⟨hmem, hle a h⟩

section
variable {prio : Nat} {rs : List QRec}

theorem foldl_max_eligible {r : QRec} (hr : r ∈ rs) (hel : r.eligible prio = true) :
    let prios := (rs.filter (QRec.eligible prio)).map (·.priority)
    prios.foldl max 0 ∈ prios ∧ r.priority ≤ prios.foldl max 0 :=
  foldl_max_mem (List.mem_map_of_mem (List.mem_filter.2 ⟨hr, hel⟩))

/-- R672: no victim is found only when no record is eligible. -/
theorem not_eligible_of_nextVictim_none (h : nextVictim prio rs = none) {r : QRec} (hr : r ∈ rs) : r.eligible prio = false := by
  by_contra hel
  obtain ⟨htop, -⟩ := foldl_max_eligible hr (Bool.of_not_eq_false hel)
  obtain ⟨v, hv, hpr⟩ := List.mem_map.1 htop
  exact List.filter_eq_nil_iff.1 (List.head?_eq_none_iff.1 h) v hv (beq_iff_eq.2 hpr)

variable {v : QRec} (h : nextVictim prio rs = some v)
include h

theorem mem_of_nextVictim : v ∈ rs ∧ v.eligible prio = true :=
  List.mem_filter.1 (List.mem_filter.1 (List.mem_of_mem_head? h)).1

theorem priority_le_nextVictim {k : QRec} (hk : k ∈ rs) (hel : k.eligible prio = true) : k.priority ≤ v.priority := by
  have htop := (List.mem_filter.1 (List.mem_of_mem_head? h)).2
  rw [beq_iff_eq.1 htop]
  exact (foldl_max_eligible hk hel).2

/-- R672: the victim is the oldest record of its priority among the eligible ones. -/
theorem filter_nextVictim (pr : Nat) : rs.filter (fun r => r.eligible prio && r.priority == pr) =
    (if v.priority = pr then [v] else []) ++ (rs.erase v).filter (fun r => r.eligible prio && r.priority == pr) := by
  rw [← List.erase_filter]
  split
  case isTrue hpr =>
    have htop := (List.mem_filter.1 (List.mem_of_mem_head? h)).2
    have hhead : (rs.filter (fun r => r.eligible prio && r.priority == pr)).head? = some v := by
      rw [nextVictim, ← beq_iff_eq.1 htop, hpr, List.filter_filter] at h
      simpa only [Bool.and_comm] using h
    obtain ⟨rest, hrest⟩ := List.head?_eq_some_iff.1 hhead
    rw [hrest, List.erase_cons_head]; rfl
  case isFalse hpr =>
    rw [List.erase_of_not_mem (by simp [hpr])]; rfl

end

/-- R671: a queue with room discards nothing. -/
theorem discard_nil {rs : List QRec} {prio need : Nat} (h : need + wordsIn rs ≤ 4096) : Claims.Discard rs [] rs prio need :=
  ⟨List.Perm.refl _, List.Sublist.refl _, h, by simp, by simp, by simp⟩

/-- R672: a victim is discarded from a full queue, and what is left discards on. -/
theorem discard_cons {rs vs kept : List QRec} {prio need : Nat} {v : QRec} (hv : nextVictim prio rs = some v)
    (hfull : 4096 < need + wordsIn rs) (h : Claims.Discard (rs.erase v) vs kept prio need) : Claims.Discard rs (v :: vs) kept prio need := by
  obtain ⟨hperm, hsub, hroom, hgreatest, holdest, hlast⟩ := h
  obtain ⟨hmem, hel⟩ := mem_of_nextVictim hv
  have hcons := List.perm_cons_erase hmem
  have hwords : wordsIn rs = v.words.length + wordsIn (rs.erase v) := (wordsIn_perm hcons).trans (wordsIn_cons ..)
  refine ⟨hcons.trans (hperm.cons v), hsub.trans List.erase_sublist, hroom, ?greatest, fun pr => ?oldest, ?last⟩
  case greatest =>
    refine List.forall_mem_cons.2 ⟨⟨hel, fun k hk hkel => ?_⟩, hgreatest⟩
    exact priority_le_nextVictim hv (List.erase_sublist.mem (hsub.mem hk)) hkel
  case oldest =>
    rw [filter_nextVictim hv pr, holdest pr, List.filter_cons, ← List.append_assoc]
    by_cases hpr : v.priority = pr <;> simp [hpr]
  case last =>
    intro w hw
    cases vs with
    | nil =>
      have hkept : wordsIn (rs.erase v) = wordsIn kept := wordsIn_perm hperm
      obtain rfl : v = w := Option.some.inj hw
      omega
    | cons u vs => exact hlast w hw

/-- R672: the device discards one victim at a time until there is room. -/
theorem makeRoom_discards {prio need : Nat} (fuel : Nat) (rs : List QRec) (hfuel : rs.length ≤ fuel)
    (hroom : need + wordsIn (rs.filter (fun k => !k.eligible prio)) ≤ 4096) :
    ∃ vs, (makeRoom prio need 4096 fuel rs).2 = vs.map (·.priority) ∧
      Claims.Discard rs vs (makeRoom prio need 4096 fuel rs).1 prio need := by
  induction fuel generalizing rs with
  | zero =>
    obtain rfl := List.length_eq_zero_iff.1 (Nat.le_zero.1 hfuel)
    exact ⟨[], rfl, discard_nil hroom⟩
  | succ fuel ih =>
    rw [makeRoom]
    split
    case isTrue h => exact ⟨[], rfl, discard_nil h⟩
    case isFalse hfull =>
      cases hv : nextVictim prio rs with
      | none =>
        have hall : rs.filter (fun k => !k.eligible prio) = rs :=
          List.filter_eq_self.2 fun r hr => by rw [not_eligible_of_nextVictim_none hv hr]; rfl
        exact absurd (hall ▸ hroom) hfull
      | some v =>
        obtain ⟨hmem, hel⟩ := mem_of_nextVictim hv
        have hkept : (rs.erase v).filter (fun k => !k.eligible prio) = rs.filter (fun k => !k.eligible prio) := by
          rw [← List.erase_filter, List.erase_of_not_mem (by simp [hel])]
        have hlen := List.length_erase_of_mem hmem
        obtain ⟨vs, hlost, hdiscard⟩ := ih (rs.erase v) (by omega) (hkept ▸ hroom)
        exact ⟨v :: vs, congrArg (v.priority :: ·) hlost, discard_cons hv (Nat.not_le.1 hfull) hdiscard⟩

/-! ### The push (R669, R671 to R673) -/

/-- R669, R672: the queue once the oldest staged record has been pushed in the Hall cycle of `nt` as the record `r`, and the priorities of
the records that are lost by it. -/
def ReportQ.push (x : ReportQ) (nt : Nat) (rest : List QRec) (r : QRec) : ReportQ × List Nat :=
  let y := { x with staging := rest, acted := some (nt, 3) }
  let need := r.words.length
  if y.used + need ≤ 4096 then ({ y with recs := x.recs ++ [r], writing := need }, [])
  else if y.canMakeRoom r.priority need then
    let m := makeRoom r.priority need 4096 x.recs.length x.recs
    ({ y with recs := m.1 ++ [r], writing := need }, m.2)
  else (y, [r.priority])

/-- The state once a push has left the queue `y.1` and lost records of the priorities `y.2`. -/
def State.pushed (s : State) (p q : Nat) (y : ReportQ × List Nat) : State := (s.nextFree.setRq p q y.1).countLost p q y.2

/-- R684: the directory enters where the record's words start. -/
def State.placed (s : State) (r : QRec) : QRec := { r with start := Config.freeNat s.free % 4096 }

section
variable (s : State) (p q : Nat) (y : ReportQ × List Nat)

@[simp] theorem State.rq_pushed : (s.pushed p q y).rq p q = y.1 :=
  (State.countLost_keeps (fun t => t.rq p q) (fun _ _ => rfl) ..).trans (State.rq_setRq ..)

@[simp] theorem State.tiles_pushed : (s.pushed p q y).tiles = s.tiles := State.countLost_keeps State.tiles (fun _ _ => rfl) ..

theorem State.ctr_pushed (k : Nat) :
    (s.pushed p q y).ctr (Ctr.rqLostPrio (4 * p + q) k) = rose (s.ctr (Ctr.rqLostPrio (4 * p + q) k)) (y.2.count k) :=
  State.ctr_countLost ..

end

theorem exec_recordPush_idle {s : State} {p q : Nat}
    (h : (s.rq p q).staging = [] ∨ (s.rq p q).writing ≠ 0 ∨ (s.rq p q).mayAct s.nt 2 = false) : Gives (.recordPush p q) s s := by
  change execRecordPush p q s = _
  unfold execRecordPush
  dsimp only
  cases hst : (s.rq p q).staging with
  | nil => rfl
  | cons r rest =>
    rcases h with h | h | h
    · rw [hst] at h; exact absurd h (List.cons_ne_nil r rest)
    · exact congrArg _ (if_pos (.inl h))
    · exact congrArg _ (if_pos (.inr (.inr (by simp [h]))))

theorem exec_recordPush {s : State} {p q : Nat} {r : QRec} {rest : List QRec} (hst : (s.rq p q).staging = r :: rest)
    (hidle : (s.rq p q).writing = 0) (hfree : s.hallFree = true) (hturn : (s.rq p q).mayAct s.nt 2 = true) :
    Gives (.recordPush p q) s (s.pushed p q ((s.rq p q).push s.nt rest (s.placed r))) := by
  have hgo : ¬((s.rq p q).writing ≠ 0 ∨ ¬ s.hallFree ∨ ¬ (s.rq p q).mayAct s.nt 2) := by simp [hidle, hfree, hturn]
  change execRecordPush p q s = _
  unfold execRecordPush ReportQ.push State.placed
  simp only [hst, if_neg hgo]
  split_ifs <;> rfl

section
variable {x : ReportQ} {r : QRec} (nt : Nat) (rest : List QRec)

theorem ReportQ.push_frame : (x.push nt rest r).1.staging = rest ∧ (x.push nt rest r).1.mayAct nt 2 = false := by
  unfold ReportQ.push ReportQ.mayAct
  dsimp only
  split_ifs <;> simp

theorem ReportQ.push_of_room (h : wordsIn x.recs + r.words.length ≤ 4096) : x.push nt rest r =
    ({ x with staging := rest, acted := some (nt, 3), recs := x.recs ++ [r], writing := r.words.length }, []) := if_pos h

variable (hfull : 4096 < wordsIn x.recs + r.words.length)
include hfull

/-- R672: discarding every eligible record would make room. -/
theorem ReportQ.push_of_discards (h : r.words.length + wordsIn (x.recs.filter (fun k => !k.eligible r.priority)) ≤ 4096) :
    ∃ victims kept, Claims.Discard x.recs victims kept r.priority r.words.length ∧ x.push nt rest r =
      ({ x with staging := rest, acted := some (nt, 3), recs := kept ++ [r], writing := r.words.length }, victims.map (·.priority)) := by
  obtain ⟨victims, hlost, hdiscard⟩ := makeRoom_discards x.recs.length x.recs le_rfl h
  refine ⟨victims, _, hdiscard, ?_⟩
  rw [← hlost]
  exact (if_neg (Nat.not_le.2 hfull)).trans (if_pos (decide_eq_true h))

/-- R672: otherwise the incoming record is lost, and nothing else. -/
theorem ReportQ.push_of_full (h : 4096 < r.words.length + wordsIn (x.recs.filter (fun k => !k.eligible r.priority))) :
    x.push nt rest r = ({ x with staging := rest, acted := some (nt, 3) }, [r.priority]) := by
  have hno : ¬ x.canMakeRoom r.priority r.words.length := fun hroom => absurd (of_decide_eq_true hroom) (Nat.not_le.2 h)
  exact (if_neg (Nat.not_le.2 hfull)).trans (if_neg hno)

end

/-! ### The word of a Hall cycle, and the notification (R668, R670, R683) -/

section
variable (s : State) (p q : Nat)

/-- R683: the queue's vector is sent, and no record is pending any longer. -/
def State.sendRqVector : State :=
  ((s.setRq p q { s.rq p q with pendCount := 0 }).sendVector (s.fnOf p) (s.rqSetting 0x6001 p q)).bump (Ctr.rqInterrupts (4 * p + q))

@[simp] theorem State.rq_sendRqVector : (s.sendRqVector p q).rq p q = { s.rq p q with pendCount := 0 } := by
  rw [State.sendRqVector, State.rq_bump, State.rq_of_rqs (State.sendVector_rqs ..), State.rq_setRq]

theorem State.out_sendRqVector : (s.sendRqVector p q).out =
    s.out ++ (if (s.vec (s.fnOf p) (s.rqSetting 0x6001 p q)).masked then [] else [.msix (s.fnOf p) (s.rqSetting 0x6001 p q)]) :=
  State.out_sendVector (s.setRq p q _) ..

theorem State.vec_sendRqVector_masked (h : (s.vec (s.fnOf p) (s.rqSetting 0x6001 p q)).masked = true) :
    ((s.sendRqVector p q).vec (s.fnOf p) (s.rqSetting 0x6001 p q)).pending = true :=
  congrArg Vec.pending (State.vec_sendVector_masked (s.setRq p q _) _ _ h)

theorem State.rq_notifyRq : (s.notifyRq p q).rq p q = s.rq p q ∨ (s.notifyRq p q).rq p q = { s.rq p q with pendCount := 0 } := by
  unfold State.notifyRq
  dsimp only
  split
  · exact .inr (s.rq_sendRqVector p q)
  · exact .inl rfl

end

section
variable {s : State} {p q : Nat}

theorem State.tickRq_of_writing (h : 2 ≤ (s.rq p q).writing) :
    s.tickRq (4 * p + q) = s.setRq p q { s.rq p q with writing := (s.rq p q).writing - 1 } := by
  have h0 : (s.rq p q).writing ≠ 0 := by omega
  have h1 : (s.rq p q).writing ≠ 1 := by omega
  exact (if_neg h0).trans (if_neg h1)

theorem State.tickRq_of_last (hq : q < 4) (h : (s.rq p q).writing = 1) :
    s.tickRq (4 * p + q) = (s.setRq p q { s.rq p q with writing := 0 }).showRecord p q := by
  have h0 : (s.rq p q).writing ≠ 0 := by omega
  have hp : (4 * p + q) / 4 = p := by omega
  have hmod : (4 * p + q) % 4 = q := by omega
  refine (if_neg h0).trans ((if_pos h).trans ?_)
  rw [hp, hmod, State.rq] at *
  rw [h]; rfl

theorem exec_reportNotifyTimeout_early (h : s.rqSetting 0x6001 p q = 0 ∨ s.rqSetting 0x6003 p q = 0 ∨ (s.rq p q).pendCount = 0 ∨
    s.nt < (s.rq p q).firstPendNt + s.rqSetting 0x6003 p q * us) : Gives (.reportNotifyTimeout p q) s s := by
  change execReportNotifyTimeout p q s = _
  unfold execReportNotifyTimeout State.whenFree
  dsimp only
  rw [if_pos h, ite_self]

theorem exec_reportNotifyTimeout (hfree : s.hallFree = true) (hv : s.rqSetting 0x6001 p q ≠ 0) (ht : s.rqSetting 0x6003 p q ≠ 0)
    (hpend : (s.rq p q).pendCount ≠ 0) (hdue : (s.rq p q).firstPendNt + s.rqSetting 0x6003 p q * us ≤ s.nt) :
    Gives (.reportNotifyTimeout p q) s (s.sendRqVector p q) := by
  have hsend : ¬(s.rqSetting 0x6001 p q = 0 ∨ s.rqSetting 0x6003 p q = 0 ∨ (s.rq p q).pendCount = 0 ∨
      s.nt < (s.rq p q).firstPendNt + s.rqSetting 0x6003 p q * us) := by
    simp [hv, ht, hpend, Nat.not_lt.2 hdue]
  change execReportNotifyTimeout p q s = _
  unfold execReportNotifyTimeout State.whenFree
  dsimp only
  rw [if_neg hsend, if_pos hfree]
  rfl

end

/-! ### The statement -/

/-- Settles O37: an arrival by the room in the staging buffer; a push by the room in the queue, with an induction over the discards; a
Hall cycle by the words that are left to write; the notification by its settings. -/
theorem recordsAreQueued : Obligations.RecordsAreQueued := by
  refine ⟨?arrives, ?pushes, ?ticks, ?notifies⟩
  case arrives =>
    intro s p q prio type body hp hq hprio htype hwhole hlen hseq
    have hi : 4 * p + q < 64 := by omega
    rcases Nat.lt_or_ge 256 (wordsIn (s.rq p q).staging + (1 + body.length / 8)) with hfull | hroom
    · obtain ⟨harrived, hlost⟩ := State.ctr_record_refused prio type hi hfull hprio
      have hrq : (s.record p q prio type body).rq p q = (s.rq p q).counted := by
        rw [State.record_refused prio type hfull, State.rq_bump, State.rq_bump, State.rq_setRq]
      dsimp only
      rw [hrq]
      exact ⟨rfl, rfl, harrived, fun _ => ⟨rfl, hlost⟩, fun h => absurd hfull (Nat.not_lt.2 h)⟩
    · have hfields := recHeader_fields htype (words := 1 + body.length / 8) (by omega) hprio hp hq hseq
      dsimp only
      rw [State.record_staged prio type hroom, State.rq_setRq]
      exact ⟨rfl, rfl, State.ctr_arrived prio type hi, fun h => absurd h (Nat.not_lt.2 hroom), fun _ =>
        ⟨_, wordsOf (body.length / 8) body, rfl, length_wordsOf .., flatMap_wordsOf _ _ (by omega), hfields⟩⟩
  case pushes =>
    intro s p q hq
    refine ⟨fun h => exec_recordPush_idle (.inl h), fun h => exec_recordPush_idle (.inr h), fun r0 rest hst hidle hfree hturn => ?_⟩
    refine ⟨_, Config.freeNat s.free % 4096, Nat.mod_lt _ (by omega), exec_recordPush hst hidle hfree hturn, ?_⟩
    obtain ⟨hrest, hacted⟩ := (s.rq p q).push_frame (r := s.placed r0) s.nt rest
    rw [State.level_rqWaiting, State.rq_pushed, State.tiles_pushed]
    refine ⟨hrest, rfl, rfl, hacted, fun hroom => ?_, fun hfull hroom => ?_, fun hlost hfull => ?_⟩
    · rw [ReportQ.push_of_room (r := s.placed r0) s.nt rest hroom]; exact ⟨rfl, rfl⟩
    · obtain ⟨victims, kept, hdiscard, hpush⟩ := ReportQ.push_of_discards (r := s.placed r0) s.nt rest hfull hroom
      rw [hpush]
      refine ⟨victims, kept, hdiscard, rfl, rfl, fun k _ => ?_⟩
      rw [State.ctr_pushed, List.count, List.countP_map, List.countP_eq_length_filter]; rfl
    · rw [State.ctr_pushed, ReportQ.push_of_full (r := s.placed r0) s.nt rest hfull hlost]
      exact ⟨rfl, hidle, congrArg (rose _) List.count_singleton_self⟩
  case ticks =>
    intro s p q hq
    refine ⟨fun h => ?_, fun h => ?_⟩
    · rw [State.tickRq_of_writing h, State.rq_setRq]; exact ⟨rfl, rfl⟩
    · rw [State.tickRq_of_last hq h, State.showRecord, State.rq_setRq]
      rcases State.rq_notifyRq _ p q with hkept | hsent
      · rw [hkept, State.rq_setRq]; exact ⟨rfl, rfl⟩
      · rw [hsent, State.rq_setRq]; exact ⟨rfl, rfl⟩
  case notifies =>
    intro s p q hq
    refine ⟨exec_reportNotifyTimeout_early, fun hfree hv ht hpend hdue => ⟨_, exec_reportNotifyTimeout hfree hv ht hpend hdue, ?_⟩⟩
    rw [State.rq_sendRqVector, State.out_sendRqVector]
    refine ⟨rfl, rfl, fun hmasked => ?_, fun hmasked => ⟨?_, s.vec_sendRqVector_masked p q hmasked⟩⟩
    · rw [hmasked]; rfl
    · rw [hmasked]; exact List.append_nil _

end Sys2Proof.Machine
end

section
/-!
Proofs for the reading of report queues (chapter 18): the read order, what poisons a record, a delivery, and the commands and events of
reads, and the statement about them.
-/
open Sys2Proof Sys2Proof.Machine Sys2Proof.Claims

namespace Sys2Proof.Machine

/-! ### The read order (R674, R675) -/

/-- R674, R675: a read selects the least priority value, and in it the record that became visible first. -/
theorem ReportQ.first_spec {x : ReportQ} {r : QRec} (h : x.first = some r) :
    r ∈ x.recs ∧ r.visible = true ∧ r.selected = false ∧ ∀ y ∈ x.recs, y.visible = true → y.selected = false →
      r.priority < y.priority ∨ (r.priority = y.priority ∧ r.order ≤ y.order) := by
  unfold ReportQ.first at h
  dsimp only at h
  split at h
  · cases h
  · rename_i p hp
    split at h
    · cases h
    · rename_i o ho
      have hleast := (List.min?_eq_some_iff.1 hp).2
      have holdest := (List.min?_eq_some_iff.1 ho).2
      obtain ⟨hopen, hprio⟩ := List.mem_filter.1 (List.mem_of_find?_eq_some h)
      obtain ⟨hmem, hstate⟩ := List.mem_filter.1 hopen
      obtain ⟨hvisible, hselected⟩ : r.visible = true ∧ r.selected = false := by simpa using hstate
      have hprio : r.priority = p := beq_iff_eq.1 hprio
      have hfound := List.find?_some h
      have horder : r.order = o := beq_iff_eq.1 hfound
      refine ⟨hmem, hvisible, hselected, fun y hy hyv hys => ?_⟩
      have hyopen : y ∈ x.recs.filter (fun r => r.visible && !r.selected) := List.mem_filter.2 ⟨hy, by simp [hyv, hys]⟩
      rcases Nat.lt_or_eq_of_le (hleast _ (List.mem_map_of_mem hyopen)) with hlt | heq
      · exact .inl (hprio ▸ hlt)
      · refine .inr ⟨hprio.trans heq, horder ▸ holdest _ (List.mem_map_of_mem (List.mem_filter.2 ⟨hyopen, ?_⟩))⟩
        exact beq_iff_eq.2 heq.symm

/-! ### The words that a read finds (R684) -/

theorem any_zip_range {α : Type} (l : List α) (n : Nat) (f : α → Nat → Bool) :
    (l.zip (List.range n)).any (fun e => f e.1 e.2) = true ↔ ∃ k a, k < n ∧ l[k]? = some a ∧ f a k = true := by
  rw [List.any_eq_true]
  constructor
  · rintro ⟨⟨a, k⟩, hmem, hf⟩
    obtain ⟨j, hj⟩ := List.mem_iff_getElem?.1 hmem
    obtain ⟨ha, hk⟩ := List.getElem?_zip_eq_some.1 hj
    obtain ⟨hlt, rfl⟩ := List.getElem?_eq_some_iff.1 hk
    rw [List.length_range] at hlt
    rw [List.getElem_range] at hf
    exact ⟨j, a, hlt, ha, hf⟩
  · rintro ⟨k, a, hk, ha, hf⟩
    have hmem : (a, k) ∈ l.zip (List.range n) :=
      List.mem_iff_getElem?.2 ⟨k, List.getElem?_zip_eq_some.2 ⟨ha, by rw [List.getElem?_range hk]⟩⟩
    exact ⟨(a, k), hmem, hf⟩

section
variable (r : QRec) (found : List WordRead)

theorem QRec.errors_ne_zero_iff (k : WordError) : r.errors found k ≠ 0 ↔ ∃ e ∈ found, e.error = k ∧ e.word < r.length := by
  rw [QRec.errors, ← Nat.pos_iff_ne_zero, List.countP_pos_iff]
  simp

theorem QRec.misframed_iff : r.misframed found = true ↔ (r.asRead found).length ≠ r.length ∨
    ∃ k w, k < r.length ∧ (r.asRead found)[k]? = some w ∧ ¬((w.head = true ↔ k = 0) ∧ (w.tail = true ↔ k + 1 = r.length)) := by
  have hbits (w : QWord) (k : Nat) : (w.head != decide (k = 0) || w.tail != decide (k + 1 = r.length)) = true ↔
      ¬((w.head = true ↔ k = 0) ∧ (w.tail = true ↔ k + 1 = r.length)) := by
    rw [Bool.or_eq_true, bne_iff_ne, bne_iff_ne, not_and_or, ← Bool.eq_iff_iff.trans (iff_congr Iff.rfl decide_eq_true_iff),
      ← Bool.eq_iff_iff.trans (iff_congr Iff.rfl decide_eq_true_iff)]
  have hany := any_zip_range (r.asRead found) r.length (fun w k => w.head != decide (k = 0) || w.tail != decide (k + 1 = r.length))
  unfold QRec.misframed
  dsimp only at hany ⊢
  rw [Bool.or_eq_true, bne_iff_ne, hany]
  simp only [hbits]

theorem QRec.poisoned_iff : r.poisoned found = true ↔ Poisons r found := by
  rw [QRec.poisoned, Bool.or_eq_true, bne_iff_ne, QRec.errors_ne_zero_iff, QRec.misframed_iff]

@[simp] theorem QRec.length_asRead : (r.asRead found).length = r.words.length := by
  refine foldl_keeps List.length _ (fun ws e => ?_) found r.words
  split <;> simp

theorem QRec.length_bytes : (r.bytes found).length = 8 * r.words.length := by
  rw [QRec.bytes, List.length_flatMap]
  simp [length_leBytes, Nat.mul_comm]

theorem readReply_eq (u : State) (p q : Nat) : readReply u p q r found = nativeReply u p q r found := by
  unfold readReply nativeReply b2n
  cases r.poisoned found <;> rfl

theorem length_readReply (u : State) (p q : Nat) : (readReply u p q r found).length = 8 + 8 * r.words.length := by
  simp only [readReply, List.length_append, length_leBytes, QRec.length_bytes]

end

/-! ### A delivery (R677, R684) -/

section
variable (s : State) (p q : Nat) (r : QRec) (found : List WordRead)

/-- A delivery leaves what counters, the queue and a sticky bit leave. -/
theorem State.deliver_keeps {α : Type} (g : State → α) (hbump : ∀ s id n, g (State.bumpN s id n) = g s)
    (hsticky : ∀ s n, g (State.setSticky s n) = g s) (hqueue : ∀ s p q x, g (State.setRq s p q x) = g s) :
    g (s.deliver p q r found) = g s := by
  unfold State.deliver State.bump
  dsimp only
  split <;> simp only [hbump, hsticky, hqueue]

@[simp] theorem State.tiles_deliver : (s.deliver p q r found).tiles = s.tiles :=
  State.deliver_keeps s p q r found State.tiles (fun _ _ _ => rfl) State.setSticky_tiles (fun _ _ _ _ => rfl)

@[simp] theorem State.parts_deliver : (s.deliver p q r found).parts = s.parts :=
  State.deliver_keeps s p q r found State.parts (fun _ _ _ => rfl) State.setSticky_parts (fun _ _ _ _ => rfl)

theorem State.recs_deliver : ((s.deliver p q r found).rq p q).recs = (s.rq p q).recs.erase r := by
  unfold State.deliver
  dsimp only
  split
  · rw [State.rq_of_rqs (State.setSticky_rqs ..)]; simp
  · simp

theorem State.stickyBit_deliver (h : r.poisoned found = true) : (s.deliver p q r found).stickyBit 132 = true := by
  unfold State.deliver
  dsimp only
  rw [if_pos h, State.stickyBit_setSticky _ (by omega)]
  exact Bool.or_true _

/-- R684: the status of a read that delivers a record. -/
def QRec.readStatus : Nat := if r.poisoned found then stIntegrity else stOk

variable {s p q r found}

/-- A row that delivers a record from a state `t` in which the queue holds the records of `x`. -/
theorem readDelivers_of_deliver {i : Instr} {t : State} {ring : Nat} {x : ReportQ} {reply : State → Bytes}
    (hrecs : (t.rq p q).recs = x.recs) (htiles : t.tiles = s.tiles) (hparts : t.parts = s.parts)
    (hgives : Gives i s ((t.deliver p q r found).complete ring { status := r.readStatus found, reply := reply (t.deliver p q r found) })) :
    ReadDelivers i s ring p q x r found reply :=
  ⟨t.deliver p q r found, hgives, by rw [State.recs_deliver, hrecs], t.stickyBit_deliver p q r found,
    (State.tiles_deliver ..).trans htiles, (State.parts_deliver ..).trans hparts⟩

end

/-! ### Commands that run on (R651, R653) -/

/-- A ready command whose body answers no status has started and keeps its ring. -/
theorem runCmd_runs {op : Nat} {i : Instr} {c : CmdIn} {s : State} {cmd : Cmd} (h : Ready op i c s cmd) {bad : List (Bool × Nat)}
    {body : Cmd → State → Option Status × State} {t : State} (hbad : ∀ b ∈ bad, b.1 = false) (hbody : body cmd s = (none, t)) :
    runCmd op i c bad s body = (t.noteStep c.ring cmd).setCmd c.ring (some { cmd with started := true }) := by
  obtain ⟨hcmd, hop, hstart, hfence, hfree, hturn, hhead, hdata, hspell, hread, hrsv, hrest⟩ := h
  have hfault : paramFault c.rsvAt (s.paramRest i c.ring cmd) bad = none := by
    rw [hrsv, hrest]; exact (paramFault_none bad).2 hbad
  rw [runCmd_start op i c bad s body _ _ _ _ hcmd hop hstart hfence hfree hturn hhead hread rfl rfl hspell hfault hdata hdata
    (by simp), hbody]

theorem State.rqOf_of_cmdAt {s : State} {ring : Nat} {cmd : Cmd} (h : s.cmdAt ring = some cmd) (q : Nat) :
    s.rqOf ring q = s.rq cmd.hdr.partition q := by
  rw [State.rqOf, h]; rfl

/-- R649: a reply of up to `n` bytes, which any association takes, fits the buffer of a command that has room for `n`. -/
theorem room_of_le {c : CmdIn} {n k : Nat} (hk : k ≤ n) (hn : n ≤ 16368) (hroom : n ≤ c.replyLen) (hok : c.replyFails = false) :
    Room c k := by
  refine ⟨?_, hok⟩
  split <;> omega

/-! ### REPORT_READ (R675, R676, R679) -/

/-- R679: the read that REPORT_READ starts. -/
def CmdIn.readAt (c : CmdIn) (nt timeout : Nat) : QRead := { ring := c.ring, startNt := nt, timeout := timeout, replyLen := c.replyLen }

/-- R675, R676, R679: what REPORT_READ on queue `q` of partition `p` answers, and the state that it leaves. -/
def State.startRead (s : State) (c : CmdIn) (p q timeout : Nat) (found : List WordRead) (written : Bool) : Option Status × State :=
  let x := s.rq p q
  if c.replyLen < 520 then (some { status := stBadParam, detail := 520 }, s)
  else
    match x.reads, x.first with
    | [], some r =>
      if c.replyFails then (some (fail stIntegrity), s)
      else if written then
        let d := deliverNative (s.setRq p q { x with acted := some (s.nt, 2) }) p q r found
        (some d.1, d.2)
      else (none, s.setRq p q { (x.select s.nt r) with reads := [c.readAt s.nt timeout] })
    | _, _ =>
      if timeout = 0 then (some (fail stTimeout), s)
      else (none, s.setRq p q { x with reads := x.reads ++ [c.readAt s.nt timeout] })

section
variable {s : State} {c : CmdIn} {p q timeout : Nat} {found : List WordRead} {written : Bool} (hroom : 520 ≤ c.replyLen)
include hroom

section
variable {r : QRec} (hreads : (s.rq p q).reads = []) (hfirst : (s.rq p q).first = some r) (hok : c.replyFails = false)
include hreads hfirst hok

theorem State.startRead_delivers : s.startRead c p q timeout found true =
    let t := (s.setRq p q { s.rq p q with acted := some (s.nt, 2) }).deliver p q r found
    (some { status := r.readStatus found, reply := readReply t p q r found }, t) := by
  simp only [State.startRead, if_neg (Nat.not_lt.2 hroom), hreads, hfirst, hok]; rfl

theorem State.startRead_selects : s.startRead c p q timeout found false =
    (none, s.setRq p q { (s.rq p q).select s.nt r with reads := [c.readAt s.nt timeout] }) := by
  simp only [State.startRead, if_neg (Nat.not_lt.2 hroom), hreads, hfirst, hok]; rfl

end

theorem State.startRead_waits (h : (s.rq p q).reads ≠ [] ∨ (s.rq p q).first = none) : s.startRead c p q timeout found written =
    if timeout = 0 then (some (fail stTimeout), s)
    else (none, s.setRq p q { s.rq p q with reads := (s.rq p q).reads ++ [c.readAt s.nt timeout] }) := by
  rw [State.startRead, if_neg (Nat.not_lt.2 hroom)]
  split
  case h_1 hreads hfirst => exact absurd h (by simp [hreads, hfirst])
  case h_2 => rfl

end

section
variable {c : CmdIn} {q timeout : Nat} {found : List WordRead} {written : Bool} {s : State} {cmd : Cmd}
variable (h : Ready 0x0501 (.reportRead c q timeout found written) c s cmd) (hturn : (s.rq cmd.hdr.partition q).mayAct s.nt 2 = true)
include h hturn

theorem exec_reportRead_eq : exec (.reportRead c q timeout found written) s =
    .next (runCmd 0x0501 (.reportRead c q timeout found written) c [(!decide (timeout ≤ 1000000), 0x14)] s
      (fun cmd s => s.startRead c cmd.hdr.partition q timeout found written)) := by
  have hacts : ¬ (!(s.rqOf c.ring q).mayAct s.nt 2) = true := by rw [State.rqOf_of_cmdAt h.1, hturn]; simp
  exact congrArg Host.Outcome.next (if_neg hacts)

variable (htime : timeout ≤ 1000000)
include htime

theorem exec_reportRead_completes {st : Status} {t : State}
    (hbody : s.startRead c cmd.hdr.partition q timeout found written = (some st, t))
    (hreply : st.reply = [] ∨ Room c st.reply.length) : Gives (.reportRead c q timeout found written) s (t.complete c.ring st) :=
  (exec_reportRead_eq h hturn).trans (congrArg Host.Outcome.next
    (runCmd_completes h (by simp [htime]) hbody (replied_of_room hreply s t)))

theorem exec_reportRead_runs {x : ReportQ}
    (hbody : s.startRead c cmd.hdr.partition q timeout found written = (none, s.setRq cmd.hdr.partition q x)) :
    ∃ u : State, Gives (.reportRead c q timeout found written) s (u.setCmd c.ring (some { cmd with started := true })) ∧
      u.rq cmd.hdr.partition q = x ∧ u.tiles = s.tiles ∧ u.parts = s.parts :=
  ⟨(s.setRq cmd.hdr.partition q x).noteStep c.ring cmd,
    (exec_reportRead_eq h hturn).trans (congrArg Host.Outcome.next (runCmd_runs h (by simp [htime]) hbody)),
    (State.rq_of_rqs (State.noteStep_rqs ..) _ _).trans (State.rq_setRq ..), rfl, rfl⟩

end

/-! ### Reads that wait (R675 to R677, R679) -/

section
variable {s : State} {p q : Nat} {found : List WordRead} {w : QRead} {rest : List QRead}
variable (hfree : s.hallFree = true)
include hfree

section
variable {r : QRec} (hreads : (s.rq p q).reads = w :: rest) (hcand : (s.rq p q).candidate = some r)
  (hturn : (s.rq p q).readTurn s.nt = true)
include hreads hcand hturn

theorem exec_reportReadSelect (written failed : Bool) : exec (.reportReadSelect p q found written failed) s = .next (
    if failed then (s.setRq p q { (s.rq p q).unselect with reads := rest }).complete w.ring (fail stIntegrity)
    else if written then
      let t := (s.setRq p q { s.rq p q with reads := rest, acted := some (s.nt, if r.selected then 1 else 2) }).deliver p q r found
      t.complete w.ring { status := r.readStatus found, reply := readReply t p q r found }
    else if r.selected then s else s.setRq p q ((s.rq p q).select s.nt r)) := by
  have hacts : ¬ (!(s.rq p q).readTurn s.nt || !s.hallFree) = true := by simp [hturn, hfree]
  change execReportReadSelect p q found written failed s = _
  simp only [execReportReadSelect, hreads, hcand, if_neg hacts]; rfl

end

theorem exec_reportReadTimeout (hlate :
      (if (s.rq p q).recs.any (fun r => r.selected) then (s.rq p q).reads.tail else (s.rq p q).reads).find?
        (fun y => decide (y.startNt + y.timeout * 16000 ≤ s.nt)) = some w) :
    Gives (.reportReadTimeout p q) s ((s.setRq p q { s.rq p q with reads := (s.rq p q).reads.erase w }).complete w.ring (fail stTimeout)) := by
  have hsel : ((s.rq p q).recs.find? (·.selected)).isSome = (s.rq p q).recs.any (·.selected) := by
    rw [Bool.eq_iff_iff, List.find?_isSome, List.any_eq_true]
  change execReportReadTimeout p q s = _
  unfold execReportReadTimeout State.whenFree us
  dsimp only
  rw [if_pos hfree, hsel, hlate]

end

/-! ### REPORT_READ_COMPAT (R680) -/

/-- R680: what REPORT_READ_COMPAT on queue `q` of partition `p` answers, and the state that it leaves. -/
def State.compatRead (s : State) (c : CmdIn) (p q : Nat) (found : List WordRead) : Option Status × State :=
  let x := s.rq p q
  if c.replyLen < 512 then (some { status := stBadParam, detail := 512 }, s)
  else
    match x.reads, x.first with
    | [], some r =>
      if c.replyFails then (some (fail stIntegrity), s)
      else
        (some { status := r.readStatus found, reply := r.bytes found },
          (s.setRq p q { x with acted := some (s.nt, 2) }).deliver p q r found)
    | _, _ => (some (okReply (zeroBytes 8)), s)

section
variable {c : CmdIn} {q : Nat} {found : List WordRead} {s : State} {cmd : Cmd}
variable (h : Ready 0x0502 (.reportReadCompat c q found) c s cmd) (hturn : (s.rq cmd.hdr.partition q).mayAct s.nt 2 = true)
include h hturn

theorem exec_reportReadCompat {st : Status} {t : State} (hbody : s.compatRead c cmd.hdr.partition q found = (some st, t))
    (hreply : Room c st.reply.length) : Gives (.reportReadCompat c q found) s (t.complete c.ring st) := by
  have hacts : ¬ (!(s.rqOf c.ring q).mayAct s.nt 2) = true := by rw [State.rqOf_of_cmdAt h.1, hturn]; simp
  refine congrArg Host.Outcome.next ((if_neg hacts).trans ?_)
  exact runCmd_completes h (body := fun cmd s => s.compatRead c cmd.hdr.partition q found) (by simp) hbody
    (replied_of_room (.inr hreply) s t)

end

section
variable {s : State} {c : CmdIn} {p q : Nat} {found : List WordRead} (hroom : 512 ≤ c.replyLen)
include hroom

theorem State.compatRead_delivers {r : QRec} (hreads : (s.rq p q).reads = []) (hfirst : (s.rq p q).first = some r)
    (hok : c.replyFails = false) : s.compatRead c p q found =
      (some { status := r.readStatus found, reply := r.bytes found },
        (s.setRq p q { s.rq p q with acted := some (s.nt, 2) }).deliver p q r found) := by
  simp only [State.compatRead, if_neg (Nat.not_lt.2 hroom), hreads, hfirst, hok]; rfl

theorem State.compatRead_empty (h : (s.rq p q).reads ≠ [] ∨ (s.rq p q).first = none) :
    s.compatRead c p q found = (some (okReply (zeroBytes 8)), s) := by
  rw [State.compatRead, if_neg (Nat.not_lt.2 hroom)]
  split
  case h_1 hreads hfirst => exact absurd h (by simp [hreads, hfirst])
  case h_2 => rfl

end

/-! ### The statement -/

/-- Settles O38: the read order by the least priority and the least order number; poisoning by what a read finds in the words; each
command and event of a read by what it does to its queue. -/
theorem reportsAreRead : Obligations.ReportsAreRead := by
  refine ⟨fun _ _ => ReportQ.first_spec, QRec.poisoned_iff, ?read, ?select, ?timeout, ?compat⟩
  case read =>
    intro c q timeout found written s cmd i h hq htime p x hturn read Runs
    refine ⟨fun hshort => ?_, fun hroom => ⟨fun r hreads hfirst hlen hok => ⟨?_, ?_⟩, fun hwait => ⟨?_, ?_⟩⟩⟩
    · exact exec_reportRead_completes h hturn htime (if_pos hshort) (.inl rfl)
    · rintro rfl
      refine readDelivers_of_deliver (t := s.setRq p q { x with acted := some (s.nt, 2) }) (by rw [State.rq_setRq]) rfl rfl ?_
      rw [← readReply_eq]
      refine exec_reportRead_completes h hturn htime (State.startRead_delivers hroom hreads hfirst hok) (.inr ?_)
      exact room_of_le (by rw [length_readReply]; omega) (by omega) hroom hok
    · rintro rfl
      exact exec_reportRead_runs h hturn htime (State.startRead_selects hroom hreads hfirst hok)
    · rintro rfl
      exact ⟨0, exec_reportRead_completes h hturn htime (State.startRead_waits hroom hwait) (.inl rfl)⟩
    · intro hpos
      exact exec_reportRead_runs h hturn htime ((State.startRead_waits hroom hwait).trans (if_neg (by omega)))
  case select =>
    intro s p q found written failed w rest r hq hfree x hreads hcand hturn i
    have hexec := exec_reportReadSelect (found := found) hfree hreads hcand hturn written failed
    refine ⟨?_, ?_, ?_, ?_⟩
    · rintro rfl rfl
      refine readDelivers_of_deliver (t := s.setRq p q { x with reads := rest, acted := some (s.nt, if r.selected then 1 else 2) })
        (by rw [State.rq_setRq]) rfl rfl ?_
      rw [← readReply_eq]
      exact hexec
    · rintro rfl rfl hsel
      exact hexec.trans (congrArg Host.Outcome.next (if_pos hsel))
    · rintro rfl rfl hsel
      refine ⟨s.setRq p q (x.select s.nt r), hexec.trans (congrArg Host.Outcome.next (if_neg (ne_true_of_eq_false hsel))), ?_⟩
      rw [State.rq_setRq]
      exact ⟨rfl, rfl⟩
    · rintro rfl
      refine ⟨s.setRq p q { x.unselect with reads := rest }, hexec, ?_⟩
      rw [State.rq_setRq]
      exact ⟨rfl, rfl⟩
  case timeout =>
    intro s p q w hq hfree x hlate
    refine ⟨_, exec_reportReadTimeout hfree hlate, ?_⟩
    rw [State.rq_setRq]
    exact ⟨rfl, rfl⟩
  case compat =>
    intro c q found s cmd i h hq hroom hok p x hturn
    refine ⟨fun r hreads hfirst hpos hlen => ?_, fun hempty => ?_⟩
    · refine readDelivers_of_deliver (t := s.setRq p q { x with acted := some (s.nt, 2) }) (by rw [State.rq_setRq]) rfl rfl ?_
      have hfits : (r.bytes found).length ≤ 512 := by rw [QRec.length_bytes]; omega
      exact exec_reportReadCompat h hturn (State.compatRead_delivers hroom hreads hfirst hok) (room_of_le hfits (by omega) hroom hok)
    · exact exec_reportReadCompat h hturn (State.compatRead_empty hroom hempty) (room_of_le (by decide) (by omega) hroom hok)

end Sys2Proof.Machine
end

section
/-!
Proofs for keys (chapter 19): KEY_LOAD by what its body answers at each of its checks, the previous slot and KEY_QUERY.
-/
open Sys2Proof Sys2Proof.Machine Sys2Proof.Claims

namespace Sys2Proof.Machine

/-! ### Work of the Hall that is free (R544) -/

section
variable {s : State} (h : s.hallFree = true)
include h

theorem State.whenFree_of_free (t : State) : s.whenFree t = t := if_pos h

theorem ite_stands_of_hallFree {α : Type} (x y : α) : (if s.dead || !s.hallFree then x else y) = y := by
  simp [State.dead_of_hallFree h, h]

theorem ite_dead_of_hallFree {α : Type} (x y : α) : (if s.dead then x else y) = y := by
  simp [State.dead_of_hallFree h]

end

/-! ### KEY_LOAD and KEY_QUERY (R706 to R709) -/

/-- A ready command whose data are there completes with the status that its body answers. -/
theorem runCmd_completes_data {op : Nat} {i : Instr} {c : CmdIn} {s : State} {cmd : Cmd} (h : Ready op i c s cmd)
    {bad : List (Bool × Nat)} {body : Cmd → State → Option Status × State} {data : Nat} {holds : Bytes → Bool} {st : Status}
    {t : State}
    (hbad : ∀ b ∈ bad, b.1 = false) (hdata : DataHere c s cmd data holds) (hbody : body cmd s = (some st, t))
    (hreply : st.reply = []) :
    runCmd op i c bad s body (data := data) (holds := holds) = t.complete c.ring st := by
  obtain ⟨hcmd, hop, hstart, hfence, hfree, hturn, hhead, hcome, hspell, hread, hrsv, hrest⟩ := h
  have hfault : paramFault c.rsvAt (s.paramRest i c.ring cmd) bad = none := by
    rw [hrsv, hrest]; exact (paramFault_none bad).2 hbad
  rw [runCmd_start op i c bad s body _ _ _ _ hcmd hop hstart hfence hfree hturn hhead hread rfl rfl hspell hfault hcome hdata.1 hdata.2,
    hbody]
  simp only [replied_empty c s st t hreply]

/-- R708, R709: the state once KEY_LOAD has put a key into the current slot of partition `p`. -/
def State.keyLoaded (s : State) (p g : Nat) (key : Bytes) : State :=
  ((s.modPart p (fun x => x.takeKey s.nt g key)).bump (Ctr.partKeyLoads p)).issueLeaf p

/-- R706 to R709: what KEY_LOAD answers for partition `p` of function `fn`. -/
def State.loadKey (s : State) (fn p g n : Nat) (blob : Bytes) : Option Status × State :=
  let reject := fun (st : Status) => (some st, s.bump (Ctr.partKeyRejected p))
  if !keyLoadAllowed s fn then reject (fail stDenied)
  else
    match blobFault g n blob with
    | some off => reject (badParam off)
    | none =>
      if !genFollows (s.partOf p).keyCur g then reject (fail stConflict)
      else if (s.partOf p).keyPrev.isSome then reject (fail stBusy)
      else
        match s.unwrap p g blob with
        | none => reject (fail stIntegrity)
        | some key => (some okStatus, s.keyLoaded p g key)

/-- R707, Table 19-7: a wrapped key of the layout and of the key_gen that KEY_LOAD names. -/
def BlobGood (g n : Nat) (blob : Bytes) : Prop :=
  n = 153 ∧ blob.length = 153 ∧ 1 ≤ g ∧ leAt blob 0 1 = 1 ∧ leAt blob 1 1 = g ∧ leAt blob 2 2 = 0 ∧ leAt blob 4 4 = 0

theorem BlobGood.one_le {g n : Nat} {blob : Bytes} (h : BlobGood g n blob) : 1 ≤ g := by
  obtain ⟨-, -, hg, -⟩ := h
  exact hg

theorem blobFault_eq_none_iff (g n : Nat) (blob : Bytes) : blobFault g n blob = none ↔ BlobGood g n blob := by
  unfold blobFault BlobGood
  split
  · simp; omega
  · split
    · simp; omega
    · split
      · simp; omega
      · simp; omega

/-- R707: any key_gen follows an empty slot but 0, which no wrapped key has. -/
theorem genFollows_iff {g : Nat} (hg : 1 ≤ g) (cur : Option KeySlot) :
    genFollows cur g = true ↔ ∀ k, cur = some k → g = k.gen % 255 + 1 := by
  cases cur <;> simp [genFollows, hg]

section
variable {s : State} {fn p g n : Nat} {blob : Bytes}

theorem State.loadKey_denied (h : keyLoadAllowed s fn = false) :
    s.loadKey fn p g n blob = (some (fail 4), s.bump (Ctr.partKeyRejected p)) := by
  simp [State.loadKey, h, stDenied]

variable (hallow : keyLoadAllowed s fn = true)
include hallow

theorem State.loadKey_badBlob (h : ¬BlobGood g n blob) :
    ∃ off, s.loadKey fn p g n blob = (some (badParam off), s.bump (Ctr.partKeyRejected p)) := by
  obtain ⟨off, hoff⟩ := Option.ne_none_iff_exists'.1 (mt (blobFault_eq_none_iff g n blob).1 h)
  exact ⟨off, by simp [State.loadKey, hallow, hoff]⟩

variable (hblob : BlobGood g n blob)
include hblob

theorem State.loadKey_conflict (h : ¬∀ k, (s.partOf p).keyCur = some k → g = k.gen % 255 + 1) :
    s.loadKey fn p g n blob = (some (fail 7), s.bump (Ctr.partKeyRejected p)) := by
  have hgen := eq_false_of_ne_true (mt (genFollows_iff hblob.one_le _).1 h)
  simp [State.loadKey, hallow, (blobFault_eq_none_iff g n blob).2 hblob, hgen, stConflict]

variable (hgen : ∀ k, (s.partOf p).keyCur = some k → g = k.gen % 255 + 1)
include hgen

theorem State.loadKey_busy (h : (s.partOf p).keyPrev ≠ none) :
    s.loadKey fn p g n blob = (some (fail 1), s.bump (Ctr.partKeyRejected p)) := by
  simp [State.loadKey, hallow, (blobFault_eq_none_iff g n blob).2 hblob, (genFollows_iff hblob.one_le _).2 hgen,
    Option.isSome_iff_ne_none.2 h, stBusy]

variable (hprev : (s.partOf p).keyPrev = none)
include hprev

theorem State.loadKey_integrity (h : s.unwrap p g blob = none) :
    s.loadKey fn p g n blob = (some (fail 9), s.bump (Ctr.partKeyRejected p)) := by
  simp [State.loadKey, hallow, (blobFault_eq_none_iff g n blob).2 hblob, (genFollows_iff hblob.one_le _).2 hgen, hprev, h, stIntegrity]

theorem State.loadKey_ok {key : Bytes} (h : s.unwrap p g blob = some key) :
    s.loadKey fn p g n blob = (some okStatus, s.keyLoaded p g key) := by
  simp [State.loadKey, hallow, (blobFault_eq_none_iff g n blob).2 hblob, (genFollows_iff hblob.one_le _).2 hgen, hprev, h]

end

theorem exec_keyLoad {c : CmdIn} {g n : Nat} {blob : Bytes} {s : State} {cmd : Cmd} {st : Status} {t : State}
    (h : Ready 0x0901 (.keyLoad c g n blob) c s cmd) (h1 : 1 ≤ n) (hn : n ≤ 4096) (hdata : DataHere c s cmd n (fun b => b == blob))
    (hbody : s.loadKey cmd.fn cmd.hdr.partition g n blob = (some st, t)) (hreply : st.reply = []) :
    Gives (.keyLoad c g n blob) s (t.complete c.ring st) :=
  congrArg Host.Outcome.next (runCmd_completes_data h (by simp [h1, hn]) hdata hbody hreply)

/-- R703: a new leaf of a partition leaves the others. -/
theorem State.partOf_issueLeaf_other (s : State) {p r : Nat} (h : r ≠ p) : (s.issueLeaf p).partOf r = s.partOf r := by
  unfold State.issueLeaf
  split
  · rfl
  · exact State.partOf_setPart_other _ _ h

/-- What KEY_LOAD makes of a partition, but for the new leaf. -/
theorem State.partOf_keyLoaded {α : Type} (f : Partition → α) (hf : ∀ x leaf, f { x with leaf := leaf } = f x) (s : State) (p g : Nat)
    (key : Bytes) : f ((s.keyLoaded p g key).partOf p) = f ((s.partOf p).takeKey s.nt g key) := by
  rw [State.keyLoaded, State.issueLeaf_keeps f hf, State.partOf_bump, State.partOf_modPart]

theorem State.partOf_keyLoaded_other (s : State) {p r : Nat} (h : r ≠ p) (g : Nat) (key : Bytes) :
    (s.keyLoaded p g key).partOf r = s.partOf r := by
  rw [State.keyLoaded, State.partOf_issueLeaf_other _ h, State.partOf_bump]
  exact State.partOf_setPart_other _ _ h

/-- R709: the current key stays for a load that runs. -/
theorem Partition.keyPrev_takeKey (x : Partition) (nt g : Nat) (key : Bytes) :
    (x.takeKey nt g key).keyPrev = if x.slot0.state = .loading ∨ x.slot1.state = .loading then x.keyCur else none := by
  by_cases h0 : x.slot0.state = .loading <;> by_cases h1 : x.slot1.state = .loading <;>
    simp [Partition.takeKey, Partition.loading, h0, h1]

theorem ImageSlot.image_logKeys (y : ImageSlot) (k : KeyChange) : (y.logKeys k).image = y.image := by
  unfold ImageSlot.logKeys; split <;> rfl

/-- R709: the state once the previous slot of partition `p` is erased. -/
def State.previousErased (s : State) (p : Nat) : State :=
  (s.modPart p (fun x => { x.logKeys s.nt with keyPrev := none })).issueLeaf p

theorem State.partOf_previousErased {α : Type} (f : Partition → α) (hf : ∀ x leaf, f { x with leaf := leaf } = f x) (s : State)
    (p : Nat) : f ((s.previousErased p).partOf p) = f { (s.partOf p).logKeys s.nt with keyPrev := none } := by
  rw [State.previousErased, State.issueLeaf_keeps f hf, State.partOf_modPart]

theorem exec_previousKeyErase {s : State} {p : Nat} (hfree : s.hallFree = true) (hkey : (s.partOf p).keyPrev ≠ none)
    (hfin : (s.partOf p).prevHolders = []) : Gives (.previousKeyErase p) s (s.previousErased p) :=
  congrArg Host.Outcome.next ((State.whenFree_of_free hfree _).trans
    (if_pos (by simp [hfin, Option.isSome_iff_ne_none.2 hkey])))

theorem exec_previousKeyErase_held {s : State} {p : Nat} (hfree : s.hallFree = true)
    (h : (s.partOf p).prevHolders ≠ [] ∨ (s.partOf p).keyPrev = none) : Gives (.previousKeyErase p) s s :=
  congrArg Host.Outcome.next ((State.whenFree_of_free hfree _).trans (if_neg (by rcases h with h | h <;> simp [h])))

theorem Partition.length_keySlots (x : Partition) : x.keySlots.length = 4 := by
  cases hcur : x.keyCur <;> cases hprev : x.keyPrev <;> simp [Partition.keySlots, hcur, hprev, length_leBytes]

theorem keysAreLoaded : KeysAreLoaded := by
  refine ⟨?load, fun s p hfree => ⟨exec_previousKeyErase_held hfree, fun hfin hkey => ?erase⟩, fun c s cmd h hroom => ?query⟩
  case load =>
    intro c g n blob s cmd h h1 hn hdata _ p x i Rejects blobGood follows
    have rejects {st detail : Nat} (hbody : s.loadKey cmd.fn p g n blob =
        (some { status := st, detail := detail }, s.bump (Ctr.partKeyRejected p))) : Rejects st :=
      ⟨detail, exec_keyLoad h h1 hn hdata hbody rfl⟩
    refine ⟨fun hdeny => rejects (State.loadKey_denied hdeny), fun hallow hblob => ?layout,
      fun hallow hblob hgen => rejects (State.loadKey_conflict hallow hblob hgen),
      fun hallow hblob hgen hprev => rejects (State.loadKey_busy hallow hblob hgen hprev),
      fun hallow hblob hgen hprev hkey => rejects (State.loadKey_integrity hallow hblob hgen hprev hkey),
      fun hallow hblob hgen hprev key hkey => ?taken⟩
    case taken =>
      have taken {α : Type} (f : Partition → α) (hf : ∀ x leaf, f { x with leaf := leaf } = f x) :=
        State.partOf_keyLoaded f hf s p g key
      exact ⟨s.keyLoaded p g key, exec_keyLoad h h1 hn hdata (State.loadKey_ok hallow hblob hgen hprev hkey) rfl,
        taken Partition.keyCur (fun _ _ => rfl), taken Partition.sealed (fun _ _ => rfl),
        (taken Partition.keyPrev (fun _ _ => rfl)).trans (Partition.keyPrev_takeKey _ _ _ _),
        taken Partition.slot0 (fun _ _ => rfl), taken Partition.slot1 (fun _ _ => rfl),
        fun r hr => State.partOf_keyLoaded_other s hr g key⟩
    case layout =>
      obtain ⟨off, hoff⟩ := State.loadKey_badBlob hallow hblob
      exact rejects hoff
  case erase =>
    exact ⟨s.previousErased p, exec_previousKeyErase hfree hkey hfin, State.partOf_previousErased Partition.keyPrev (fun _ _ => rfl) s p,
      State.partOf_previousErased Partition.keyCur (fun _ _ => rfl) s p,
      (State.partOf_previousErased (·.slot0.image) (fun _ _ => rfl) s p).trans (ImageSlot.image_logKeys _ _),
      (State.partOf_previousErased (·.slot1.image) (fun _ _ => rfl) s p).trans (ImageSlot.image_logKeys _ _)⟩
  case query =>
    have hroom : Room c (s.partOf cmd.hdr.partition).keySlots.length := by rwa [Partition.length_keySlots]
    exact congrArg Host.Outcome.next (runRead_replies h hroom rfl)

end Sys2Proof.Machine
end

section
/-!
Proofs for the trusted domain (chapters 16, 19): SPDM, IDE and TDISP messages by the function that each changes; ERROR by what becomes
of the VF and its rings; the end of bounce-buffer mode by what it leaves of functions, rings and commands; envelopes; boundary scan.
-/
open Sys2Proof Sys2Proof.Machine Sys2Proof.Claims

namespace Sys2Proof.Machine

/-! ### Strings in sparse memory -/

section
variable {m : Mem} (h : memWf m = true)
include h

theorem memGet_memWrite_of_lt {a b : Nat} (hb : b < a) (bs : Bytes) : memGet (memWrite m a bs) b = memGet m b := by
  induction bs generalizing m a with
  | nil => rfl
  | cons v bs ih => rw [memWrite, ih (memWf_memPut h a v) (by omega), memGet_memPut m a b v h, if_neg (by omega)]

/-- A string reads back where it was stored. -/
theorem memRead_memWrite (a : Nat) (bs : Bytes) : memRead (memWrite m a bs) a bs.length = bs := by
  induction bs generalizing m a with
  | nil => rfl
  | cons v bs ih =>
    have hwf := memWf_memPut h a v
    rw [List.length_cons, memRead, memWrite, ih hwf, memGet_memWrite_of_lt hwf (by omega), memGet_memPut m a a v h, if_pos rfl]

end

/-! ### Tables -/

theorem mfind_mapValues {α β : Type} (g : α → β) (t : Tab α) (k : Nat) :
    mfind (t.map (fun e => (e.1, g e.2))) k = (mfind t k).map g := by
  induction t with
  | nil => rfl
  | cons e t ih =>
    simp only [List.map_cons, mfind]
    split
    · rfl
    · exact ih

/-! ### Functions and rings that an operation leaves -/

@[simp] theorem State.rings_setFunc (s : State) (fn : Nat) (f : Func) : (s.setFunc fn f).host.rings = s.host.rings := rfl

@[simp] theorem State.func_emit (s : State) (o : Output) (fn : Nat) : (s.emit o).func fn = s.func fn := rfl

@[simp] theorem State.func_bump (s : State) (id fn : Nat) : (s.bump id).func fn = s.func fn := rfl

@[simp] theorem State.funcs_setSticky (s : State) (n : Nat) : (s.setSticky n).host.funcs = s.host.funcs := by rw [State.setSticky_host]

@[simp] theorem State.rings_setSticky (s : State) (n : Nat) : (s.setSticky n).host.rings = s.host.rings := by rw [State.setSticky_host]

@[simp] theorem State.funcs_setCmd (s : State) (r : Nat) (c : Option Cmd) : (s.setCmd r c).host.funcs = s.host.funcs := by
  unfold State.setCmd State.modAssoc
  (repeat' split) <;> simp

theorem State.stickyBit_setSticky_self (s : State) {n : Nat} (h : n < 256) : (s.setSticky n).stickyBit n = true := by
  simp [State.stickyBit_setSticky s h]

theorem State.stickyBit_of_sticky {s t : State} (h : t.sticky = s.sticky) (n : Nat) : t.stickyBit n = s.stickyBit n := by
  simp only [State.stickyBit, h]

section
variable {fn : Nat} {s t u : State}

theorem otherFuncs_trans (hst : OtherFuncs fn s t) (htu : OtherFuncs fn t u) : OtherFuncs fn s u :=
  fun g hg => (htu g hg).trans (hst g hg)

theorem otherFuncs_of_funcs (h : t.host.funcs = s.host.funcs) : OtherFuncs fn s t := fun g _ => State.func_of_funcs h g

theorem otherFuncs_emit (h : OtherFuncs fn s t) (o : Output) : OtherFuncs fn s (t.emit o) := h

theorem State.otherFuncs_setFunc (f : Func) : OtherFuncs fn s (s.setFunc fn f) := fun _ hg => s.func_setFunc_other f hg

end

/-! ### SPDM and IDE messages (R699, R701, R703, R715) -/

theorem State.slotPart_eq_some {s : State} {fn slot p : Nat} (h : s.slotPart fn slot = some p) :
    1 ≤ fn ∧ fn ≤ 8 ∧ p ∈ s.partsOf fn ∧
      (s.partsOf fn).countP (fun q => decide ((s.partOf q).bindOrder < (s.partOf p).bindOrder)) = slot := by
  unfold State.slotPart at h
  split at h
  · rename_i hfn
    simp only [inR, Bool.and_eq_true, decide_eq_true_eq] at hfn
    have hslot := List.find?_some h
    exact ⟨hfn.1, hfn.2, List.mem_of_find?_eq_some h, eq_of_beq hslot⟩
  · cases h

section
variable {s : State} (hfree : s.hallFree = true)
include hfree

theorem exec_getCertificate {fn slot p : Nat} (hslot : s.slotPart fn slot = some p) {x : Leaf} (hleaf : (s.partOf p).leaf = some x) :
    Gives (.getCertificate fn slot) s (s.emit (.certificate fn slot (s.chainOf x))) := by
  refine congrArg Host.Outcome.next ((ite_stands_of_hallFree hfree _ _).trans ?_)
  simp only [hslot, Option.bind_some, hleaf]

theorem exec_getCertificate_none {fn slot : Nat} (hslot : s.slotPart fn slot = none) :
    Gives (.getCertificate fn slot) s (s.emit (.spdm fn .error)) := by
  refine congrArg Host.Outcome.next ((ite_stands_of_hallFree hfree _ _).trans ?_)
  simp only [hslot, Option.bind_none]

theorem exec_keyExchange {fn slot p : Nat} (hslot : s.slotPart fn slot = some p) :
    Gives (.keyExchange fn slot) s ((s.nextFree.setFunc fn ((s.func fn).openSpdm s.free)).emit (.spdm fn .response)) := by
  refine congrArg Host.Outcome.next ((ite_stands_of_hallFree hfree _ _).trans ?_)
  simp only [hslot]

theorem exec_keyExchange_none {fn slot : Nat} (hslot : s.slotPart fn slot = none) :
    Gives (.keyExchange fn slot) s (s.emit (.spdm fn .error)) := by
  refine congrArg Host.Outcome.next ((ite_stands_of_hallFree hfree _ _).trans ?_)
  simp only [hslot]

theorem exec_getMeasurements (fn : Nat) : Gives (.getMeasurements fn) s (s.emit (.spdm fn .unsupportedRequest)) :=
  congrArg Host.Outcome.next ((State.whenFree_of_free hfree _).trans (ite_dead_of_hallFree hfree _ _))

theorem exec_spdmRequest (fn code : Nat) : Gives (.spdmRequest fn code) s (s.emit (.spdm fn .response)) :=
  congrArg Host.Outcome.next ((State.whenFree_of_free hfree _).trans (ite_dead_of_hallFree hfree _ _))

theorem exec_ideKm {fn stream : Nat} (hspdm : (s.func fn).spdm = true) (h1 : 1 ≤ fn) (h8 : fn ≤ 8)
    (hstream : stream = fn ∨ stream = 0 ∨ stream = 9) (key : Option Bytes) :
    Gives (.ideKm fn stream key) s ((s.setStream stream key).emit (.spdm fn .response)) :=
  congrArg Host.Outcome.next ((ite_stands_of_hallFree hfree _ _).trans (if_pos (by simp [inR, hspdm, h1, h8, hstream, or_assoc])))

theorem exec_ideKm_refused {fn stream : Nat}
    (h : (s.func fn).spdm = false ∨ fn = 0 ∨ 8 < fn ∨ (stream ≠ fn ∧ stream ≠ 0 ∧ stream ≠ 9)) (key : Option Bytes) :
    Gives (.ideKm fn stream key) s (s.emit (.spdm fn .error)) := by
  refine congrArg Host.Outcome.next ((ite_stands_of_hallFree hfree _ _).trans (if_neg fun hcond => ?_))
  simp only [inR, Bool.and_eq_true, Bool.or_eq_true, decide_eq_true_eq, beq_iff_eq] at hcond
  obtain ⟨⟨⟨h1, h8⟩, hspdm⟩, hstream⟩ := hcond
  rw [hspdm] at h
  simp only [Bool.true_eq_false, false_or] at h
  omega

end

/-- R715: the key of a stream: that of a function, or that of the link (stream 9). -/
theorem State.key_setStream (s : State) (stream : Nat) (key : Option Bytes) :
    (if stream = 9 then (s.setStream stream key).host.linkIde else ((s.setStream stream key).func stream).ideKey) = key := by
  unfold State.setStream
  split
  · rfl
  · rw [State.func_setFunc]

theorem State.setStream_frame (s : State) (stream : Nat) (key : Option Bytes) :
    (stream ≠ 9 → (s.setStream stream key).host.linkIde = s.host.linkIde) ∧ OtherFuncs stream s (s.setStream stream key) := by
  unfold State.setStream
  split
  · exact ⟨fun h => absurd ‹_› h, fun _ _ => rfl⟩
  · exact ⟨fun _ => rfl, State.otherFuncs_setFunc _⟩

/-! ### Bounce-buffer mode begins (R626, R627, R630, R631) -/

/-- R627, R630, R631: the mode's keys come from the session, and its counters begin again unless the session is that of the last use. -/
theorem Func.startBounce_spec (f : Func) :
    f.startBounce.bounce = true ∧ f.startBounce.reqKey = f.spdmReq.map (fun x => hkdfExpand x (label "ikf bounce req") 32) ∧
    f.startBounce.rspKey = f.spdmRsp.map (fun x => hkdfExpand x (label "ikf bounce rsp") 32) ∧
    (f.bounceId ≠ some f.spdmId → f.startBounce.cmdSeq = [] ∧ f.startBounce.nonceCtr = 0) ∧
    (f.bounceId = some f.spdmId → f.startBounce.cmdSeq = f.cmdSeq ∧ f.startBounce.nonceCtr = f.nonceCtr) ∧
    f.startBounce.tdisp = f.tdisp := by
  by_cases hid : f.bounceId = some f.spdmId <;> simp [Func.startBounce, bounceKey, hid]

section
variable {s : State} {fn : Nat} (hfree : s.hallFree = true)
include hfree

theorem exec_bounceStart (hfn : 1 ≤ fn) (hspdm : (s.func fn).spdm = true) (hlocked : (s.func fn).tdisp ≠ .locked)
    (hrun : (s.func fn).tdisp ≠ .run) :
    Gives (.bounceStart fn) s ((s.setFunc fn (s.func fn).startBounce).emit (.spdm fn .response)) :=
  congrArg Host.Outcome.next ((State.whenFree_of_free hfree _).trans
    (if_neg (by simp [Nat.ne_of_gt hfn, hspdm, hlocked, hrun])))

theorem exec_bounceStart_refused (h : (s.func fn).spdm = false ∨ (s.func fn).tdisp = .locked ∨ (s.func fn).tdisp = .run) :
    Gives (.bounceStart fn) s (s.emit (.spdm fn .error)) :=
  congrArg Host.Outcome.next ((State.whenFree_of_free hfree _).trans
    (if_pos (by rcases h with h | h | h <;> simp [h])))

end

/-! ### The interface is locked and started (R704, R715 to R717) -/

/-- R716: the VF has a configured partition that is active. -/
theorem State.any_active_iff (s : State) (fn : Nat) :
    (List.range s.partsN).any (fun p => s.fnOf p == fn && (s.partOf p).state == .active) = true ↔
      ∃ p, p < s.partsN ∧ s.fnOf p = fn ∧ (s.partOf p).state = .active := by
  simp

section
variable {s : State} {fn : Nat} (hfree : s.hallFree = true)
include hfree

theorem exec_lockInterfaceRequest (hfn : 1 ≤ fn) (hspdm : (s.func fn).spdm = true) (hkey : (s.func fn).ideKey ≠ none)
    (hbounce : (s.func fn).bounce = false) (htdisp : (s.func fn).tdisp = .unlocked)
    (hactive : ∃ p, p < s.partsN ∧ s.fnOf p = fn ∧ (s.partOf p).state = .active) :
    Gives (.lockInterfaceRequest fn) s
      (((s.setFunc fn { s.func fn with tdisp := .locked }).emit (.spdm fn .response)).emit (.interfaceReport fn (interfaceBars fn))) :=
  congrArg Host.Outcome.next ((ite_stands_of_hallFree hfree _ _).trans
    (if_pos (by rw [(s.any_active_iff fn).2 hactive]; simp [Nat.ne_of_gt hfn, hspdm, Option.isSome_iff_ne_none.2 hkey, hbounce, htdisp])))

theorem exec_lockInterfaceRequest_refused
    (h : (s.func fn).spdm = false ∨ (s.func fn).ideKey = none ∨ (s.func fn).bounce = true ∨ (s.func fn).tdisp ≠ .unlocked ∨
      ¬∃ p, p < s.partsN ∧ s.fnOf p = fn ∧ (s.partOf p).state = .active) :
    Gives (.lockInterfaceRequest fn) s (s.emit (.spdm fn .tdispError)) := by
  refine congrArg Host.Outcome.next ((ite_stands_of_hallFree hfree _ _).trans (if_neg ?_))
  rcases h with h | h | h | h | h
  · simp [h]
  · simp [h]
  · simp [h]
  · simp [h]
  · rw [eq_false_of_ne_true (mt (s.any_active_iff fn).1 h)]; simp

theorem exec_startInterfaceRequest (hspdm : (s.func fn).spdm = true) (htdisp : (s.func fn).tdisp = .locked) :
    Gives (.startInterfaceRequest fn) s ((s.setFunc fn { s.func fn with tdisp := .run }).emit (.spdm fn .response)) :=
  congrArg Host.Outcome.next ((ite_stands_of_hallFree hfree _ _).trans (if_pos (by simp [hspdm, htdisp])))

theorem exec_startInterfaceRequest_refused (h : (s.func fn).spdm = false ∨ (s.func fn).tdisp ≠ .locked) :
    Gives (.startInterfaceRequest fn) s (s.emit (.spdm fn .tdispError)) :=
  congrArg Host.Outcome.next ((ite_stands_of_hallFree hfree _ _).trans
    (if_neg (by rcases h with h | h <;> simp [h])))

end

/-! ### A VF in ERROR (R620, R718) -/

@[simp] theorem State.funcs_ringError (s : State) (r : Nat) (x : Ring) : (s.ringError r x).host.funcs = s.host.funcs := by
  simp [State.ringError]

@[simp] theorem State.parts_ringError (s : State) (r : Nat) (x : Ring) : (s.ringError r x).parts = s.parts := by
  simp [State.ringError]

@[simp] theorem State.tiles_ringError (s : State) (r : Nat) (x : Ring) : (s.ringError r x).tiles = s.tiles := by
  simp [State.ringError]

theorem State.mfind_ringError (s : State) (r q : Nat) (x : Ring) : mfind (s.ringError r x).host.rings q =
    (mfind s.host.rings q).map (fun y => { y with error := y.error || r == q }) := by
  have hrings : (s.ringError r x).host.rings = (s.modRing r (fun y => { y with error := true })).host.rings := by simp [State.ringError]
  rw [hrings]
  by_cases hq : q = r
  · subst hq
    cases hfind : mfind s.host.rings q with
    | none => simp [State.modRing, hfind]
    | some y => simp [s.mfind_modRing_same q _ hfind]
  · have hne : (r == q) = false := beq_false_of_ne (Ne.symm hq)
    simp only [s.otherRings_modRing r _ q hq, hne, Bool.or_false]
    exact Option.map_id'.symm

/-- R620, R718: the rings of function `fn` that are not in ERROR yet. -/
def State.soundRings (s : State) (fn : Nat) : List (Nat × Ring) := s.host.rings.filter (fun e => e.2.fn == fn && !e.2.error)

/-- The rings of a list enter ERROR. -/
def State.failRings (s : State) (l : List (Nat × Ring)) : State := l.foldl (fun t e => t.ringError e.1 e.2) s

section
variable (s : State) (l : List (Nat × Ring))

theorem State.failRings_keeps {α : Type} (g : State → α) (hg : ∀ t r x, g (State.ringError t r x) = g t) :
    g (s.failRings l) = g s := by
  induction l generalizing s with
  | nil => rfl
  | cons e l ih => exact (ih _).trans (hg s e.1 e.2)

@[simp] theorem State.funcs_failRings : (s.failRings l).host.funcs = s.host.funcs :=
  State.failRings_keeps s l (fun t => t.host.funcs) State.funcs_ringError

@[simp] theorem State.parts_failRings : (s.failRings l).parts = s.parts := State.failRings_keeps s l _ State.parts_ringError

@[simp] theorem State.tiles_failRings : (s.failRings l).tiles = s.tiles := State.failRings_keeps s l _ State.tiles_ringError

theorem State.mfind_failRings (q : Nat) : mfind (s.failRings l).host.rings q =
    (mfind s.host.rings q).map (fun y => { y with error := y.error || l.any (fun e => e.1 == q) }) := by
  induction l generalizing s with
  | nil => simp [State.failRings]
  | cons e l ih =>
    rw [State.failRings, List.foldl_cons, ← State.failRings, ih, State.mfind_ringError, Option.map_map]
    simp [Function.comp_def, Bool.or_assoc]

theorem State.stickyBit_failRings (h : l ≠ [] ∨ s.stickyBit 113 = true) : (s.failRings l).stickyBit 113 = true := by
  induction l generalizing s with
  | nil => exact h.resolve_left (fun hne => hne rfl)
  | cons e l ih =>
    refine ih _ (.inr ?_)
    rw [State.stickyBit_of_sticky (t := s.ringError e.1 e.2) (s := (s.modRing e.1 (fun y => { y with error := true })).setSticky 113)
      (by simp only [State.ringError, State.sendVector_sticky, State.bump_sticky])]
    exact State.stickyBit_setSticky_self _ (by decide)

end

/-- R641: a function whose session has ended. -/
def Func.closed (f : Func) : Func := if f.session then { f with session := false, hostWord := 0, enabled := 0 } else f

/-- R718: a VF that moves to ERROR from CONFIG_LOCKED or RUN. -/
def Func.tdispFailed (f : Func) : Func := if f.tdisp = .locked ∨ f.tdisp = .run then { f with tdisp := .error }.closed else f

theorem State.closeSession_frame {s : State} {fn : Nat} (h : fn < 9) :
    (s.closeSession fn).func fn = (s.func fn).closed ∧ OtherFuncs fn s (s.closeSession fn) ∧
      (s.closeSession fn).host.rings = s.host.rings ∧ (s.closeSession fn).parts = s.parts ∧ (s.closeSession fn).tiles = s.tiles := by
  cases hopen : (s.func fn).session with
  | true =>
    rw [State.closeSession_fn h hopen]
    refine ⟨?_, fun g hg => ?_, by simp, by simp, by simp⟩
    · rw [State.func_of_funcs (State.funcs_sendVector ..), State.func_setFunc, Func.closed, if_pos hopen]
    · rw [State.func_of_funcs (State.funcs_sendVector ..), State.func_setFunc_other _ _ hg]
  | false =>
    have hkept : s.closeSession fn = s := by simp [State.closeSession, h, hopen]
    rw [hkept, Func.closed, if_neg (by simp [hopen])]
    exact ⟨rfl, fun _ _ => rfl, rfl, rfl, rfl⟩

/-- R718: the VF in ERROR, its session closed, its rings not yet in ERROR. -/
def State.toError (s : State) (fn : Nat) : State := (s.setFunc fn { s.func fn with tdisp := .error }).closeSession fn

theorem State.tdispFail_idle {s : State} {fn : Nat} (h : ¬((s.func fn).tdisp = .locked ∨ (s.func fn).tdisp = .run)) :
    s.tdispFail fn = s := if_neg (by simpa using h)

theorem State.tdispFail_eq {s : State} {fn : Nat} (h : (s.func fn).tdisp = .locked ∨ (s.func fn).tdisp = .run) :
    s.tdispFail fn = (((s.toError fn).failRings ((s.toError fn).soundRings fn)).setSticky 122).bump (Ctr.funcTdispError fn) :=
  if_pos (by simpa using h)

theorem State.tdispFail_frame {s : State} {fn : Nat} (hfn : fn < 9) :
    (s.tdispFail fn).func fn = (s.func fn).tdispFailed ∧ OtherFuncs fn s (s.tdispFail fn) ∧ (s.tdispFail fn).parts = s.parts ∧
      (s.tdispFail fn).tiles = s.tiles := by
  unfold Func.tdispFailed
  split
  · rename_i h
    obtain ⟨hfunc, hother, -, hparts, htiles⟩ := State.closeSession_frame (s := s.setFunc fn { s.func fn with tdisp := .error }) hfn
    have hfuncs : (s.tdispFail fn).host.funcs = (s.toError fn).host.funcs := by simp [State.tdispFail_eq h]
    refine ⟨?_, otherFuncs_trans (State.otherFuncs_setFunc _) (otherFuncs_trans hother (otherFuncs_of_funcs hfuncs)), ?_, ?_⟩
    · rw [State.func_of_funcs hfuncs, State.toError, hfunc, State.func_setFunc]
    · simpa [State.tdispFail_eq h, State.toError] using hparts
    · simpa [State.tdispFail_eq h, State.toError] using htiles
  · rename_i h
    rw [State.tdispFail_idle h]
    exact ⟨rfl, fun _ _ => rfl, rfl, rfl⟩

theorem Func.session_closed (f : Func) : f.closed.session = false := by
  cases h : f.session <;> simp [Func.closed, h]

theorem Func.closed_keeps {α : Type} (g : Func → α) (hg : ∀ f w e b, g { f with session := b, hostWord := w, enabled := e } = g f)
    (f : Func) : g f.closed = g f := by
  unfold Func.closed; split
  · exact hg f 0 0 false
  · rfl

theorem Func.tdispFailed_keeps {α : Type} (g : Func → α)
    (hg : ∀ f w e b, g { f with session := b, hostWord := w, enabled := e } = g f)
    (ht : ∀ f td, g { f with tdisp := td } = g f) (f : Func) : g f.tdispFailed = g f := by
  unfold Func.tdispFailed; split
  · exact (Func.closed_keeps g hg _).trans (ht f _)
  · rfl

theorem Func.session_tdispFailed {f : Func} (h : f.session = false) : f.tdispFailed.session = false := by
  unfold Func.tdispFailed; split
  · exact Func.session_closed _
  · exact h

/-- R718: what the step to ERROR makes of the VF and of its rings. -/
theorem State.failed_tdispFail {s : State} {fn : Nat} (hfn : fn < 9) : Failed s (s.tdispFail fn) fn := by
  obtain ⟨hfunc, -, -, -⟩ := State.tdispFail_frame (s := s) hfn
  obtain ⟨-, -, hrings, -, -⟩ := State.closeSession_frame (s := s.setFunc fn { s.func fn with tdisp := .error }) hfn
  have herr : (s.toError fn).host.rings = s.host.rings := hrings
  refine ⟨fun h => ⟨?_, ?_, ?_, fun r x hx hown => ?_⟩, fun h ⟨r, x, hmem, hown, hsound⟩ => ?_, fun hl hr => ?_⟩
  · rw [hfunc, Func.tdispFailed, if_pos h]
    exact Func.closed_keeps Func.tdisp (fun _ _ _ _ => rfl) _
  · rw [hfunc, Func.tdispFailed, if_pos h]
    exact Func.session_closed _
  · rw [State.tdispFail_eq h]
    exact State.stickyBit_setSticky_self _ (by decide)
  · rw [State.tdispFail_eq h, State.bump_host, State.rings_setSticky, State.mfind_failRings, herr, Option.map_eq_some_iff] at hx
    obtain ⟨y, hy, rfl⟩ := hx
    cases herror : y.error with
    | true => simp
    | false =>
      have hsound : (r, y) ∈ (s.toError fn).soundRings fn :=
        List.mem_filter.2 ⟨herr ▸ mem_of_mfind hy, by simpa [herror] using hown⟩
      simpa [herror] using ⟨y, hsound⟩
  · have hsound : (r, x) ∈ (s.toError fn).soundRings fn := List.mem_filter.2 ⟨herr ▸ hmem, by simp [hown, hsound]⟩
    rw [State.tdispFail_eq h]
    change (State.setSticky _ 122).stickyBit 113 = true
    rw [State.stickyBit_setSticky _ (by decide), State.stickyBit_failRings _ _ (.inl (List.ne_nil_of_mem hsound))]
    rfl
  · rw [State.tdispFail_idle (by simp [hl, hr])]

theorem failed_emit {s t : State} {fn : Nat} (h : Failed s t fn) (o : Output) : Failed s (t.emit o) fn := h

theorem exec_tdispError {s : State} (hfree : s.hallFree = true) (fn : Nat) : Gives (.tdispError fn) s (s.tdispFail fn) :=
  congrArg Host.Outcome.next ((State.whenFree_of_free hfree _).trans (ite_dead_of_hallFree hfree _ _))

/-! ### Bounce-buffer mode ends (R628, R633, R641) -/

/-- R628: a function whose bounce-buffer mode has ended. -/
def Func.bounceEnded (f : Func) : Func :=
  if f.bounce then
    { f with bounce := false, reqKey := none, rspKey := none, dataIn := [], session := false, enabled := 0, hostWord := 0 }
  else f

/-- R628: a ring of a function that leaves bounce-buffer mode holds no entry that can be read any more. -/
def Ring.emptied (fn : Nat) (x : Ring) : Ring := if x.fn = fn then { x with sqHead := x.sqTail } else x

theorem Ring.emptied_keeps {α : Type} (g : Ring → α) (hg : ∀ x n, g { x with sqHead := n } = g x) (x : Ring) (fn : Nat) :
    g (x.emptied fn) = g x := by
  unfold Ring.emptied; split
  · exact hg x _
  · rfl

theorem Ring.sqHead_emptied {x : Ring} {fn : Nat} (h : (x.emptied fn).fn = fn) :
    (x.emptied fn).sqHead = (x.emptied fn).sqTail := by
  have hfn : x.fn = fn := (Ring.emptied_keeps Ring.fn (fun _ _ => rfl) x fn).symm.trans h
  simp [Ring.emptied, hfn]

section
variable {s : State} {fn : Nat}

theorem State.endBounce_idle (h : (s.func fn).bounce = false) : s.endBounce fn = s := by simp [State.endBounce, h]

theorem State.endBounce_eq (h : (s.func fn).bounce = true) : s.endBounce fn =
    ({ s.setFunc fn (s.func fn).bounceEnded with host := { (s.setFunc fn (s.func fn).bounceEnded).host with
        rings := s.host.rings.map (fun e => (e.1, e.2.emptied fn)) } } : State).sendVector fn 0 := by
  have hring : (fun e : Nat × Ring => (e.1, e.2.emptied fn)) =
      fun e => if e.2.fn = fn then (e.1, { e.2 with sqHead := e.2.sqTail }) else e := by
    funext e
    unfold Ring.emptied
    split <;> rfl
  simp [State.endBounce, Func.bounceEnded, h, hring]

theorem State.func_endBounce (s : State) (fn : Nat) : (s.endBounce fn).func fn = (s.func fn).bounceEnded := by
  cases h : (s.func fn).bounce with
  | true =>
    rw [State.endBounce_eq h, State.func_of_funcs (State.funcs_sendVector ..)]
    exact State.func_setFunc s fn _
  | false => simp [State.endBounce_idle h, Func.bounceEnded, h]

theorem State.otherFuncs_endBounce (s : State) (fn : Nat) : OtherFuncs fn s (s.endBounce fn) := by
  cases h : (s.func fn).bounce with
  | true =>
    intro g hg
    rw [State.endBounce_eq h, State.func_of_funcs (State.funcs_sendVector ..)]
    exact State.func_setFunc_other s _ hg
  | false => rw [State.endBounce_idle h]; exact fun _ _ => rfl

theorem State.rings_endBounce (h : (s.func fn).bounce = true) :
    (s.endBounce fn).host.rings = s.host.rings.map (fun e => (e.1, e.2.emptied fn)) := by
  rw [State.endBounce_eq h, State.rings_sendVector]

@[simp] theorem State.parts_endBounce (s : State) (fn : Nat) : (s.endBounce fn).parts = s.parts := by
  simp only [State.endBounce]; split <;> simp

@[simp] theorem State.sticky_endBounce (s : State) (fn : Nat) : (s.endBounce fn).sticky = s.sticky := by
  simp only [State.endBounce]; split <;> simp

/-- R628: the end of bounce-buffer mode leaves each ring its function and its error. -/
theorem State.mem_rings_endBounce {r : Nat} {x : Ring} (h : (r, x) ∈ s.host.rings) :
    ∃ y, (r, y) ∈ (s.endBounce fn).host.rings ∧ y.fn = x.fn ∧ y.error = x.error := by
  cases hb : (s.func fn).bounce with
  | true =>
    refine ⟨x.emptied fn, ?_, Ring.emptied_keeps Ring.fn (fun _ _ => rfl) x fn, Ring.emptied_keeps Ring.error (fun _ _ => rfl) x fn⟩
    rw [State.rings_endBounce hb]
    exact List.mem_map_of_mem (f := fun e : Nat × Ring => (e.1, e.2.emptied fn)) h
  | false =>
    rw [State.endBounce_idle hb]
    exact ⟨x, h, rfl, rfl⟩

end

theorem Func.bounceEnded_spec (f : Func) : f.bounceEnded.bounce = false ∧ f.bounceEnded.tdisp = f.tdisp ∧
    (f.bounce = true → f.bounceEnded.session = false ∧ f.bounceEnded.reqKey = none ∧ f.bounceEnded.rspKey = none) := by
  cases h : f.bounce <;> simp [Func.bounceEnded, h]

/-! ### END_SESSION (R628, R718) -/

/-- The function after END_SESSION has taken bounce-buffer mode and the session's secrets. -/
def Func.sessionLost (f : Func) : Func := { f.bounceEnded with spdm := false, spdmReq := none, spdmRsp := none }

/-- R628: the state before R718 is applied to END_SESSION. -/
def State.loseSession (s : State) (fn : Nat) : State :=
  (s.endBounce fn).setFunc fn { (s.endBounce fn).func fn with spdm := false, spdmReq := none, spdmRsp := none }

theorem State.func_loseSession (s : State) (fn : Nat) : (s.loseSession fn).func fn = (s.func fn).sessionLost := by
  rw [State.loseSession, State.func_setFunc, State.func_endBounce, Func.sessionLost]

theorem State.otherFuncs_loseSession (s : State) (fn : Nat) : OtherFuncs fn s (s.loseSession fn) :=
  otherFuncs_trans (State.otherFuncs_endBounce s fn) (State.otherFuncs_setFunc _)

theorem State.parts_loseSession (s : State) (fn : Nat) : (s.loseSession fn).parts = s.parts := s.parts_endBounce fn

theorem exec_endSession {s : State} (hfree : s.hallFree = true) (fn : Nat) :
    Gives (.endSession fn) s (((s.loseSession fn).tdispFail fn).emit (.spdm fn .response)) :=
  congrArg Host.Outcome.next (State.whenFree_of_free hfree _)

/-- R718: END_SESSION moves the VF to ERROR like an event of R718's list. -/
theorem State.failed_loseSession {s : State} {fn : Nat} (hfn : fn < 9) : Failed s ((s.loseSession fn).tdispFail fn) fn := by
  obtain ⟨herror, hsound, hkept⟩ := State.failed_tdispFail (s := s.loseSession fn) hfn
  have htdisp : ((s.loseSession fn).func fn).tdisp = (s.func fn).tdisp := by
    obtain ⟨-, hkeep, -⟩ := (s.func fn).bounceEnded_spec
    rw [State.func_loseSession]
    exact hkeep
  rw [htdisp] at herror hsound hkept
  refine ⟨herror, fun h ⟨r, x, hmem, hown, herr⟩ => hsound h ?_, hkept⟩
  obtain ⟨y, hy, hyown, hyerr⟩ := State.mem_rings_endBounce (fn := fn) hmem
  exact ⟨r, y, hy, hyown.trans hown, hyerr.trans herr⟩

/-- R628, R699: END_SESSION takes the session, its secrets and bounce-buffer mode from the VF. -/
theorem Func.sessionLost_tdispFailed_spec (f : Func) :
    f.sessionLost.tdispFailed.spdm = false ∧ f.sessionLost.tdispFailed.bounce = false ∧ f.sessionLost.tdispFailed.spdmReq = none ∧
    f.sessionLost.tdispFailed.spdmRsp = none ∧
    (f.bounce = true → f.sessionLost.tdispFailed.session = false ∧ f.sessionLost.tdispFailed.reqKey = none ∧
      f.sessionLost.tdispFailed.rspKey = none) := by
  have keeps {α : Type} (g : Func → α) := Func.tdispFailed_keeps g (f := f.sessionLost)
  obtain ⟨hbounce, -, hended⟩ := f.bounceEnded_spec
  refine ⟨keeps Func.spdm (fun _ _ _ _ => rfl) (fun _ _ => rfl), (keeps Func.bounce (fun _ _ _ _ => rfl) (fun _ _ => rfl)).trans hbounce,
    keeps Func.spdmReq (fun _ _ _ _ => rfl) (fun _ _ => rfl), keeps Func.spdmRsp (fun _ _ _ _ => rfl) (fun _ _ => rfl), fun h => ?_⟩
  obtain ⟨hsession, hreq, hrsp⟩ := hended h
  exact ⟨Func.session_tdispFailed hsession, (keeps Func.reqKey (fun _ _ _ _ => rfl) (fun _ _ => rfl)).trans hreq,
    (keeps Func.rspKey (fun _ _ _ _ => rfl) (fun _ _ => rfl)).trans hrsp⟩

/-! ### Envelopes that fail (R633) -/

/-- R633: bounce-buffer mode of function `fn` has ended with the sticky bit set, and its rings hold no entry that can be read. -/
def BounceLost (s t : State) (fn : Nat) : Prop :=
  (t.func fn).bounce = false ∧ (t.func fn).session = false ∧ t.stickyBit 114 = true ∧
    (∀ r x, mfind t.host.rings r = some x → x.fn = fn → x.sqHead = x.sqTail) ∧ OtherFuncs fn s t

section
variable {s : State} {fn : Nat} (hbounce : (s.func fn).bounce = true)
include hbounce

/-- The mode is still on when it ends. -/
theorem State.bounce_counted : (((s.bump (Ctr.funcAuthFail fn)).setSticky 114).func fn).bounce = true := by
  rw [State.func_of_funcs (State.funcs_setSticky ..)]
  exact hbounce

theorem State.mfind_envelopeFails (r : Nat) :
    mfind (s.envelopeFails fn).host.rings r = (mfind s.host.rings r).map (Ring.emptied fn) := by
  rw [State.envelopeFails, State.rings_endBounce (State.bounce_counted hbounce), State.rings_setSticky, State.bump_host, mfind_mapValues]

theorem State.bounceLost_envelopeFails : BounceLost s (s.envelopeFails fn) fn := by
  obtain ⟨hoff, -, hended⟩ := (((s.bump (Ctr.funcAuthFail fn)).setSticky 114).func fn).bounceEnded_spec
  obtain ⟨hsession, -⟩ := hended (State.bounce_counted hbounce)
  refine ⟨?_, ?_, ?_, fun r x hx hown => ?_, ?_⟩
  · rw [State.envelopeFails, State.func_endBounce, hoff]
  · rw [State.envelopeFails, State.func_endBounce, hsession]
  · rw [State.envelopeFails, State.stickyBit_of_sticky (State.sticky_endBounce ..)]
    exact State.stickyBit_setSticky_self _ (by decide)
  · rw [State.mfind_envelopeFails hbounce, Option.map_eq_some_iff] at hx
    obtain ⟨y, -, rfl⟩ := hx
    exact Ring.sqHead_emptied hown
  · have hfuncs : ((s.bump (Ctr.funcAuthFail fn)).setSticky 114).host.funcs = s.host.funcs := State.funcs_setSticky ..
    exact otherFuncs_trans (otherFuncs_of_funcs hfuncs) (State.otherFuncs_endBounce _ fn)

/-- R633: the commands of the rings stand as they are. -/
theorem State.cmdAt_envelopeFails {r : Nat} (hr : r < 4096) : (s.envelopeFails fn).cmdAt r = s.cmdAt r := by
  rw [State.cmdAt, if_pos hr, State.cmdAt, if_pos hr, State.mfind_envelopeFails hbounce]
  cases mfind s.host.rings r with
  | none => rfl
  | some x => exact Ring.emptied_keeps Ring.running (fun _ _ => rfl) x fn

/-- R633: so too when a COMMAND envelope fails, whose entry is never fetched. -/
theorem State.bounceLost_commandFails (ring : Nat) : BounceLost s (s.commandFails fn ring) fn := by
  have hlost := State.bounceLost_envelopeFails hbounce
  unfold State.commandFails
  split
  · exact hlost
  · rename_i r _
    dsimp only
    split
    · obtain ⟨hoff, hsession, hsticky, hrings, hother⟩ := hlost
      have hfuncs := State.funcs_modRing (s.envelopeFails fn) r (fun x => { x with skip := x.skip + 1 })
      refine ⟨?_, ?_, ?_, fun q x hx hown => ?_, otherFuncs_trans hother (otherFuncs_of_funcs hfuncs)⟩
      · rw [State.func_of_funcs hfuncs, hoff]
      · rw [State.func_of_funcs hfuncs, hsession]
      · rw [State.stickyBit_of_sticky (State.modRing_sticky ..), hsticky]
      · by_cases hq : q = r
        · subst hq
          cases hfind : mfind (s.envelopeFails fn).host.rings q with
          | none => simp [State.modRing, hfind] at hx
          | some y =>
            rw [State.mfind_modRing_same _ q _ hfind] at hx
            obtain rfl := Option.some.inj hx
            exact hrings q y hfind hown
        · rw [State.otherRings_modRing _ r _ q hq] at hx
          exact hrings q x hx hown
    · exact hlost

end

theorem BounceLost.of_funcs {s t u : State} {fn : Nat} (hfuncs : OtherFuncs fn s t) (h : BounceLost t u fn) : BounceLost s u fn := by
  obtain ⟨hoff, hsession, hsticky, hrings, hother⟩ := h
  exact ⟨hoff, hsession, hsticky, hrings, otherFuncs_trans hfuncs hother⟩

/-! ### ENVELOPE (R629 to R635) -/

/-- R632: what the chunk of a DATA_IN envelope is compared with is read from the host interface. -/
theorem State.dataChunk_of_host {s t : State} (h : t.host = s.host) (r : Nat) (c : Cmd) (e : Bytes) :
    t.dataChunk r c e = s.dataChunk r c e := by
  have ht : t = { t with host := s.host } := by rw [← h]
  rw [ht]
  rfl

/-- R632: the device reads the chunk that command `c` of ring `r` needs next. -/
def State.readChunk (s : State) (fn r : Nat) (c : Cmd) : State :=
  match s.nextChunk r c with
  | some (a, _, n) => s.dma fn (.hostRead fn a (48 + n))
  | none => s

@[simp] theorem State.host_readChunk (s : State) (fn r : Nat) (c : Cmd) : (s.readChunk fn r c).host = s.host := by
  unfold State.readChunk; split <;> rfl

@[simp] theorem State.cmdAt_readChunk (s : State) (fn r : Nat) (c : Cmd) (q : Nat) : (s.readChunk fn r c).cmdAt q = s.cmdAt q := by
  unfold State.readChunk; split <;> rfl

/-- R633: the command whose envelope failed is cut off, and the mode ends. -/
def State.dataFails (s : State) (fn r : Nat) : State := ((s.cutRing r).dropCmd r).envelopeFails fn

/-- R629 to R633: what an envelope that the device opens makes of the state. -/
def State.openedEnvelope (s : State) (fn slot : Nat) (data : Bytes) : State :=
  let f := s.func fn
  let ring := leAt data 2 2 % 512
  match leAt data 1 1 with
  | 1 =>
    let s := s.setFunc fn { f with bar2 := memWrite f.bar2 slot data }
    if s.commandOk fn data then
      (s.setFunc fn { s.func fn with cmdSeq := mput f.cmdSeq ring (leAt data 8 8) }).bump (Ctr.funcEnvelopesIn fn)
    else s.commandFails fn ring
  | 3 =>
    match (s.ringBy fn ring).bind (fun r => (s.cmdAt r).map (fun c => (r, c))) with
    | none => s.envelopeFails fn
    | some (r, c) =>
      match (s.readChunk fn r c).dataChunk r c data with
      | some p => ((s.readChunk fn r c).setFunc fn { f with dataIn := mput f.dataIn ring (mget [] f.dataIn ring ++ p) }).bump
          (Ctr.funcEnvelopesIn fn)
      | none => (s.readChunk fn r c).dataFails fn r
  | _ => s.envelopeFails fn

theorem exec_envelope {s : State} {fn : Nat} (hfree : s.hallFree = true) (hbounce : (s.func fn).bounce = true) (slot : Nat) (e : Bytes) :
    Gives (.envelope fn slot e) s (s.openedEnvelope fn slot e) :=
  congrArg Host.Outcome.next (if_neg (by simp [State.dead_of_hallFree hfree, hfree, hbounce]))

section
variable {s : State} {fn slot : Nat} {e : Bytes}

/-- R631: a COMMAND envelope of its ring with the next sequence, which opens to an entry. -/
def State.CommandGood (s : State) (fn : Nat) (e : Bytes) : Prop :=
  leAt e 8 8 = mget 0 (s.func fn).cmdSeq (leAt e 2 2) + 1 ∧ leAt e 0x10 4 = 0 ∧
    ∃ p, openEnvelope ((s.func fn).reqKey.getD []) e = some p ∧ p.length = 64

/-- R634: the function once an envelope of its driver stands in its slot. -/
def Func.withSlot (f : Func) (slot : Nat) (e : Bytes) : Func := { f with bar2 := memWrite f.bar2 slot e }

theorem State.commandOk_iff : (s.setFunc fn ((s.func fn).withSlot slot e)).commandOk fn e = true ↔ s.CommandGood fn e := by
  simp [State.commandOk, State.CommandGood, Func.withSlot, Option.any_eq_true, and_assoc]

theorem State.openedEnvelope_command (hkind : leAt e 1 1 = 1) (hgood : s.CommandGood fn e) :
    s.openedEnvelope fn slot e = ((s.setFunc fn ((s.func fn).withSlot slot e)).setFunc fn { (s.func fn).withSlot slot e with
      cmdSeq := mput (s.func fn).cmdSeq (leAt e 2 2 % 512) (leAt e 8 8) }).bump (Ctr.funcEnvelopesIn fn) := by
  have hok := (State.commandOk_iff (slot := slot)).2 hgood
  unfold Func.withSlot at hok
  simp only [State.openedEnvelope, hkind, hok, if_true, Func.withSlot, State.func_setFunc]

theorem State.openedEnvelope_badCommand (hkind : leAt e 1 1 = 1) (hbad : ¬s.CommandGood fn e) :
    s.openedEnvelope fn slot e = (s.setFunc fn ((s.func fn).withSlot slot e)).commandFails fn (leAt e 2 2 % 512) := by
  simp only [State.openedEnvelope, hkind]
  exact if_neg (mt State.commandOk_iff.1 hbad)

theorem State.openedEnvelope_noCommand (hkind : leAt e 1 1 = 3)
    (hnone : ∀ r, s.ringBy fn (leAt e 2 2 % 512) = some r → s.cmdAt r = none) : s.openedEnvelope fn slot e = s.envelopeFails fn := by
  have hbind : (s.ringBy fn (leAt e 2 2 % 512)).bind (fun r => (s.cmdAt r).map (fun c => (r, c))) = none := by
    rw [Option.bind_eq_none_iff]
    exact fun r hr => by rw [hnone r hr]; rfl
  simp only [State.openedEnvelope, hkind, hbind]

section
variable {r : Nat} {k : Cmd} (hkind : leAt e 1 1 = 3) (hring : s.ringBy fn (leAt e 2 2 % 512) = some r) (hcmd : s.cmdAt r = some k)
include hkind hring hcmd

theorem State.openedEnvelope_data {p : Bytes} (hchunk : s.dataChunk r k e = some p) :
    s.openedEnvelope fn slot e = ((s.readChunk fn r k).setFunc fn { s.func fn with
      dataIn := mput (s.func fn).dataIn (leAt e 2 2 % 512) (mget [] (s.func fn).dataIn (leAt e 2 2 % 512) ++ p) }).bump
        (Ctr.funcEnvelopesIn fn) := by
  have hread := (State.dataChunk_of_host (s.host_readChunk fn r k) r k e).trans hchunk
  simp only [State.openedEnvelope, hkind, hring, hcmd, Option.bind_some, Option.map_some, hread]

theorem State.openedEnvelope_badData (hchunk : s.dataChunk r k e = none) :
    s.openedEnvelope fn slot e = (s.readChunk fn r k).dataFails fn r := by
  have hread := (State.dataChunk_of_host (s.host_readChunk fn r k) r k e).trans hchunk
  simp only [State.openedEnvelope, hkind, hring, hcmd, Option.bind_some, Option.map_some, hread]

end

theorem State.openedEnvelope_otherKind (h1 : leAt e 1 1 ≠ 1) (h3 : leAt e 1 1 ≠ 3) :
    s.openedEnvelope fn slot e = s.envelopeFails fn := by
  unfold State.openedEnvelope
  dsimp only
  split
  · exact absurd ‹_› h1
  · exact absurd ‹_› h3
  · rfl

end

/-- R632: the chunk that the command reads next, bound to the command, is taken. -/
theorem State.dataChunk_eq_some {s : State} {fn r a off n : Nat} {k : Cmd} {e p : Bytes} (hfn : k.fn = fn)
    (hnext : s.nextChunk r k = some (a, off, n)) (hopen : openEnvelope ((s.func fn).reqKey.getD []) e = some p) (hlen : p.length = n)
    (hoff : leAt e 8 8 = off) (hbind : leAt e 0x10 4 = mget 0 (s.func fn).ownSeq (leAt e 2 2) % 4294967296) :
    s.dataChunk r k e = some p := by
  simp [State.dataChunk, hfn, hnext, hopen, hlen, hoff, hbind]

/-- R633: a DATA_IN envelope that fails ends the mode, and its command with it. -/
theorem State.dataFails_spec {s : State} {fn r : Nat} {k : Cmd} (hbounce : (s.func fn).bounce = true) (hcmd : s.cmdAt r = some k) :
    BounceLost s (s.dataFails fn r) fn ∧ (r < 4096 → (s.dataFails fn r).cmdAt r = none) := by
  have hfuncs : ((s.cutRing r).dropCmd r).host.funcs = s.host.funcs := by rw [State.dropCmd, State.funcs_setCmd, State.host_cutRing]
  have hbounce' : (((s.cutRing r).dropCmd r).func fn).bounce = true := by rw [State.func_of_funcs hfuncs, hbounce]
  refine ⟨(State.bounceLost_envelopeFails hbounce').of_funcs (otherFuncs_of_funcs hfuncs), fun hr => ?_⟩
  have hcut : (s.cutRing r).cmdAt r = some k := by
    rw [State.cmdAt, if_pos hr] at hcmd ⊢
    rw [State.host_cutRing, hcmd]
  rw [State.dataFails, State.cmdAt_envelopeFails hbounce' hr, State.dropCmd, State.cmdAt_setCmd _ r none hcut]

/-! ### Boundary scan (R720, R721, R883) -/

theorem exec_boundaryScan {s : State} (h33 : s.power.vstby33 = true) (h18 : s.power.vio18 = true) (haux : s.power.vaux18 = true)
    (instr : Nat) :
    let t := { s with sec := { s.sec with tapInstr := instr } }
    Gives (.boundaryScan instr) s
      (if instr = 3 then t.emit (.tdo s.part.idcode) else if instr = 1 then t.emit (.pins s.pinLevels) else t) :=
  congrArg Host.Outcome.next (if_pos (by simp [h33, h18, haux]))

/-! ### The statement -/

theorem trustedDomain : TrustedDomain := by
  refine ⟨fun fn slot p s hfree hslot => ⟨State.slotPart_eq_some hslot, fun x hleaf => exec_getCertificate hfree hslot hleaf,
      _, exec_keyExchange hfree hslot, ?session⟩,
    fun fn slot s hfree hslot => ⟨exec_getCertificate_none hfree hslot, exec_keyExchange_none hfree hslot⟩,
    fun fn code s hfree => ⟨exec_getMeasurements hfree fn, exec_spdmRequest hfree fn code⟩,
    fun fn stream key s hfree => ⟨fun hspdm h1 h8 hstream => ⟨_, exec_ideKm hfree hspdm h1 h8 hstream key,
      s.key_setStream stream key, s.setStream_frame stream key⟩, fun h => exec_ideKm_refused hfree h key⟩,
    fun fn s hfree h1 h8 => ?interface, ?envelope,
    fun instr s h33 h18 haux => ⟨fun h1 h3 => ?other, fun h => ?sample, fun h => ?idcode⟩⟩
  case session =>
    rw [State.func_emit, State.func_setFunc]
    exact ⟨rfl, rfl, rfl, rfl, rfl, fun g hg => State.func_setFunc_other s.nextFree _ hg⟩
  case interface =>
    have hfn : fn < 9 := by omega
    obtain ⟨hbounce, hreq, hrsp, hnew, hagain, htdisp⟩ := (s.func fn).startBounce_spec
    refine ⟨fun ⟨hspdm, hlocked, hrun⟩ => ⟨_, exec_bounceStart hfree h1 hspdm hlocked hrun, ?start⟩,
      exec_bounceStart_refused hfree,
      fun ⟨hspdm, hkey, hplain, hunlocked, hactive⟩ => ⟨_, exec_lockInterfaceRequest hfree h1 hspdm hkey hplain hunlocked hactive,
        s.func_setFunc fn _, State.otherFuncs_setFunc _, rfl⟩,
      exec_lockInterfaceRequest_refused hfree, exec_startInterfaceRequest hfree, exec_startInterfaceRequest_refused hfree,
      ⟨_, exec_tdispError hfree fn, State.failed_tdispFail hfn, ?error⟩,
      ⟨_, exec_endSession hfree fn, failed_emit (State.failed_loseSession hfn) _, ?ended⟩⟩
    case start =>
      rw [State.func_emit, State.func_setFunc]
      exact ⟨hbounce, hreq, hrsp, hnew, hagain, htdisp, State.otherFuncs_setFunc _⟩
    case error => exact (State.tdispFail_frame hfn).2
    case ended =>
      obtain ⟨hfunc, hother, hparts, -⟩ := State.tdispFail_frame (s := s.loseSession fn) hfn
      obtain ⟨hspdm, hoff, hreqs, hrsps, hkeys⟩ := (s.func fn).sessionLost_tdispFailed_spec
      rw [State.func_emit, hfunc, State.func_loseSession]
      exact ⟨otherFuncs_emit (otherFuncs_trans (s.otherFuncs_loseSession fn) hother) _, hspdm, hoff, hreqs, hrsps, hkeys,
        by rw [State.emit_parts, hparts, State.parts_loseSession]⟩
  case envelope =>
    intro fn slot e s hfree hbounce f ring opened commandGood ends
    have hexec := exec_envelope hfree hbounce slot e
    have lost {t : State} (ht : s.openedEnvelope fn slot e = t) (h : BounceLost s t fn)
        (hcmd : leAt e 1 1 = 3 → ∀ r, s.ringBy fn ring = some r → r < 4096 → t.cmdAt r = none) : ends := by
      obtain ⟨hoff, hsession, hsticky, hrings, hother⟩ := h
      exact ⟨t, ht ▸ hexec, hoff, hsession, hsticky, hrings, hother, hcmd⟩
    refine ⟨fun hkind hgood => ?command, fun hkind hbad => ?badCommand,
      fun r k a off n p hkind hring hcmd hfn hnext hopen hlen hoff hbind => ?data, fun hkind hnone => ?noCommand,
      fun r k hkind hring hcmd hchunk => ?badData,
      fun h1 h3 => lost (State.openedEnvelope_otherKind h1 h3) (State.bounceLost_envelopeFails hbounce) (fun h => absurd h h3)⟩
    case command =>
      rw [State.openedEnvelope_command hkind hgood] at hexec
      refine ⟨_, hexec, ?_⟩
      rw [State.func_bump, State.func_setFunc]
      exact ⟨hbounce, mget_mput_same .., fun hwf => memRead_memWrite hwf slot e, rfl,
        otherFuncs_trans (State.otherFuncs_setFunc _) (State.otherFuncs_setFunc _)⟩
    case badCommand =>
      have hslot : ((s.setFunc fn (f.withSlot slot e)).func fn).bounce = true := by rw [State.func_setFunc]; exact hbounce
      exact lost (State.openedEnvelope_badCommand hkind hbad)
        ((State.bounceLost_commandFails hslot ring).of_funcs (State.otherFuncs_setFunc _)) (fun h => by omega)
    case data =>
      rw [State.openedEnvelope_data hkind hring hcmd (State.dataChunk_eq_some hfn hnext hopen hlen hoff hbind)] at hexec
      have hrings := congrArg HostIf.rings (s.host_readChunk fn r k)
      have hfuncs := congrArg HostIf.funcs (s.host_readChunk fn r k)
      refine ⟨_, hexec, ?_⟩
      rw [State.func_bump, State.func_setFunc]
      exact ⟨hbounce, mget_mput_same .., hrings, otherFuncs_trans (otherFuncs_of_funcs hfuncs) (State.otherFuncs_setFunc _)⟩
    case noCommand =>
      exact lost (State.openedEnvelope_noCommand hkind hnone) (State.bounceLost_envelopeFails hbounce)
        (fun _ r hr hlt => (State.cmdAt_envelopeFails hbounce hlt).trans (hnone r hr))
    case badData =>
      have hfuncs := congrArg HostIf.funcs (s.host_readChunk fn r k)
      have hmode := (congrArg Func.bounce (State.func_of_funcs hfuncs fn)).trans hbounce
      obtain ⟨hlost, hgone⟩ := State.dataFails_spec hmode ((s.cmdAt_readChunk fn r k r).trans hcmd)
      exact lost (State.openedEnvelope_badData hkind hring hcmd hchunk) (hlost.of_funcs (otherFuncs_of_funcs hfuncs))
        (fun _ q hq hlt => by obtain rfl := Option.some.inj (hring.symm.trans hq); exact hgone hlt)
  case other => exact (exec_boundaryScan h33 h18 haux instr).trans (by simp [h1, h3])
  case sample => exact (exec_boundaryScan h33 h18 haux instr).trans (by simp [h])
  case idcode => exact (exec_boundaryScan h33 h18 haux instr).trans (by simp [h])

/-- Settles O40: the keys by what KEY_LOAD answers at each of its checks; the trusted domain by what each message makes of its function,
with an induction over the rings that enter ERROR, and by what an envelope that fails leaves of functions, rings and commands. -/
theorem keysAndTrust : Obligations.KeysAndTrust := ⟨keysAreLoaded, trustedDomain⟩

end Sys2Proof.Machine
end

section
/-!
Proofs for memory and power actions (chapters 22 and 24): the Mantel's records as its operations leave them; DRAM and Landings; the
Wing's clock under throttling and stretching; the converters' readings and PM_ALERT_N.
-/
open Sys2Proof Sys2Proof.Machine Sys2Proof.Claims

namespace Sys2Proof.Machine

/-! ### Counters that a sticky bit leaves -/

/-- R766: the indices of the counters of lost records are 108 in a Wing's group, 162 in a tile's and 222 in the Hall's. -/
theorem Ctr.ident_ne_bufCtr_of_index (group i : Nat) {k : Nat} (hk : k < 4096) (hwing : k ≠ 108) (htile : k ≠ 162) (hhall : k ≠ 222)
    (b : Nat) : Ctr.ident group i k ≠ bufCtr b 1 := by
  have hindex : bufCtr b 1 % 4096 = 108 ∨ bufCtr b 1 % 4096 = 162 ∨ bufCtr b 1 % 4096 = 222 := by
    unfold bufCtr Ctr.hallTraceRecords Ctr.wingTraceRecords Ctr.tileTraceRecords Ctr.ident
    split_ifs <;> omega
  intro h
  rw [← h, Ctr.ident] at hindex
  omega

/-- The counters of DRAM rows, DRAM words and Landing lanes keep their values under a sticky bit. -/
theorem State.ctr_wingMemory_setStickyIn (s : State) (b n w : Nat) {k : Nat} (hlo : 108 < k) (hhi : k < 162) :
    (s.setStickyIn b n).ctr (Ctr.ident 11 w k) = s.ctr (Ctr.ident 11 w k) :=
  s.ctr_setStickyIn_other b n (Ctr.ident_ne_bufCtr_of_index 11 w (by omega) (by omega) (by omega) (by omega))
    (Ctr.ident_ne_funcMsixSent 11 w (by omega) (by omega))

theorem State.ctr_hallThrottleSteps_setSticky (s : State) (n : Nat) :
    (s.setSticky n).ctr Ctr.hallThrottleSteps = s.ctr Ctr.hallThrottleSteps :=
  s.ctr_setStickyIn_other 0 n (Ctr.ident_ne_bufCtr_of_index 1 0 (by omega) (by omega) (by omega) (by omega))
    (Ctr.ident_ne_funcMsixSent 1 0 (by omega) (by omega))

theorem State.stickyBit_setStickyIn_self (s : State) (b : Nat) {n : Nat} (h : n < 256) : (s.setStickyIn b n).stickyBit n = true := by
  simp [State.stickyBit_setStickyIn s b h]

/-! ### Sections of the Mantel (Table 22-1) -/

theorem State.ledger_of_health {s t : State} (h : t.health = s.health) (die k : Nat) : t.ledger die k = s.ledger die k := by
  simp only [State.ledger, State.section_, h]

theorem State.summary_of_ledger {s t : State} {die : Nat} (h : t.ledger die secSummary = s.ledger die secSummary) :
    t.summary die = s.summary die := by
  simp only [State.summary, h]

@[simp] theorem State.ledger_setLedger (s : State) (die k : Nat) (d : List (List Nat)) : (s.setLedger die k d).ledger die k = d :=
  congrArg MantelSec.data (mget_mput_same ..)

theorem State.ledger_setLedger_other (s : State) {die k e j : Nat} (d : List (List Nat)) (h : 16 * e + j ≠ 16 * die + k) :
    (s.setLedger die k d).ledger e j = s.ledger e j :=
  congrArg MantelSec.data (mget_mput_other _ _ _ h)

@[simp] theorem State.summary_setSummary (s : State) (die : Nat) (v : Nat × Nat × Nat) : (s.setSummary die v).summary die = v := by
  simp [State.summary, State.setSummary]

/-! ### Hardware actions -/

section
variable (s : State) (die kind loc result : Nat)

@[simp] theorem State.action_sticky : (s.action die kind loc result).sticky = s.sticky := rfl

@[simp] theorem State.stickyBit_action (n : Nat) : (s.action die kind loc result).stickyBit n = s.stickyBit n := rfl

@[simp] theorem State.ctr_action (id : Nat) : (s.action die kind loc result).ctr id = s.ctr id := rfl

@[simp] theorem State.action_power : (s.action die kind loc result).power = s.power := rfl

@[simp] theorem State.poisoned_action : (s.action die kind loc result).health.poisoned = s.health.poisoned := rfl

@[simp] theorem State.landingUsed_action : (s.action die kind loc result).health.landingUsed = s.health.landingUsed := rfl

/-- An action of a die leaves the records of its retired rows. -/
theorem State.ledger_rows_action : (s.action die kind loc result).ledger die secRows = s.ledger die secRows := by
  unfold State.action
  dsimp only
  rw [State.ledger_setLedger_other _ _ (by simp [secRows, secSummary]), State.ledger_setLedger_other _ _ (by simp [secRows, secEvents])]

/-- EVENTS keeps the newest 1,024 records. -/
theorem State.ledger_events_action : (s.action die kind loc result).ledger die secEvents =
    (s.ledger die secEvents ++ [[kind, loc, s.nt, result]]).drop ((s.ledger die secEvents).length + 1 - 1024) := by
  unfold State.action
  dsimp only
  rw [State.ledger_setLedger_other _ _ (by simp [secEvents, secSummary]), State.ledger_setLedger, List.length_append]
  rfl

end

/-- While EVENTS has room, a run of actions of one kind is appended in order. -/
theorem State.ledger_events_foldl_action (die kind : Nat) (l : List (Nat × Nat)) (s : State)
    (h : (s.ledger die secEvents).length + l.length ≤ 1024) :
    (l.foldl (fun s x => s.action die kind x.1 x.2) s).ledger die secEvents =
      s.ledger die secEvents ++ l.map (fun x => [kind, x.1, s.nt, x.2]) := by
  induction l generalizing s with
  | nil => simp
  | cons x l ih =>
    rw [List.length_cons] at h
    have hroom : (s.ledger die secEvents).length + 1 - 1024 = 0 := by omega
    have hone : (s.action die kind x.1 x.2).ledger die secEvents = s.ledger die secEvents ++ [[kind, x.1, s.nt, x.2]] := by
      rw [State.ledger_events_action, hroom, List.drop_zero]
    have hlen : ((s.action die kind x.1 x.2).ledger die secEvents).length + l.length ≤ 1024 := by
      rw [hone, List.length_append, List.length_singleton]; omega
    rw [List.foldl_cons, ih _ hlen, hone, List.append_assoc]
    rfl

/-! ### Poisoned words (R817) -/

theorem contains_foldl_insert (keys l : List Nat) (k : Nat) :
    (keys.foldl (fun l k => if l.contains k then l else k :: l) l).contains k = (l.contains k || keys.contains k) := by
  induction keys generalizing l with
  | nil => simp
  | cons j keys ih =>
    have hone : (if l.contains j then l else j :: l).contains k = (l.contains k || k == j) := by
      split
      · next hj =>
        by_cases hk : k = j
        · subst hk; rw [hj]; rfl
        · simp [hk]
      · rw [List.contains_cons, Bool.or_comm]
    rw [List.foldl_cons, ih, hone, List.contains_cons, Bool.or_assoc]

theorem State.contains_poison (s : State) (keys : List Nat) (k : Nat) :
    (s.poison keys).health.poisoned.contains k = (s.health.poisoned.contains k || keys.contains k) :=
  contains_foldl_insert keys s.health.poisoned k

/-! ### Rows (R818) -/

/-- R818: the state once a row has been replaced by a spare row. -/
def State.rowReplaced (s : State) (w st ch bk row cause : Nat) (lost : List (Nat × Nat)) : State :=
  let t := (s.poison (lost.map (fun x => poisonKey w x.1 x.2))).setLedger (1 + w) secRows
    (s.ledger (1 + w) secRows ++ [[st, ch, bk, row, s.nt, cause]])
  ((t.setStickyIn (1 + w) 129).bump (Ctr.wingRowsRetired w)).action (1 + w) 1 row 0

theorem State.rowReplaced_spec (s : State) (w st ch bk row cause : Nat) (lost : List (Nat × Nat)) :
    let t := s.rowReplaced w st ch bk row cause lost
    t.stickyBit 129 = true ∧ t.ledger (1 + w) secRows = s.ledger (1 + w) secRows ++ [[st, ch, bk, row, s.nt, cause]] ∧
      (∀ k, t.health.poisoned.contains k =
        (s.health.poisoned.contains k || (lost.map (fun x => poisonKey w x.1 x.2)).contains k)) ∧
      t.ctr (Ctr.wingRowsRetired w) = rose (s.ctr (Ctr.wingRowsRetired w)) 1 := by
  refine ⟨(State.stickyBit_action ..).trans (State.stickyBit_setStickyIn_self _ (1 + w) (by omega)), ?_, fun k => ?_, ?_⟩
  · rw [State.rowReplaced, State.ledger_rows_action, State.ledger_of_health ((State.bump_health ..).trans (State.setStickyIn_health ..)),
      State.ledger_setLedger]
  · rw [State.rowReplaced, State.poisoned_action, State.bump_health, State.setStickyIn_health]
    exact s.contains_poison _ k
  · rw [State.rowReplaced, State.ctr_action, State.ctr_bump, Ctr.wingRowsRetired,
      State.ctr_wingMemory_setStickyIn _ (1 + w) 129 w (by omega) (by omega)]
    rfl

section
variable {s : State} {w : Nat} (hfree : s.wingFree w = true) (hwing : w < s.wings)
include hfree hwing

theorem ite_wingStands {α : Type} (x y : α) : (if !s.wingFree w || decide (s.wings ≤ w) then x else y) = y :=
  if_neg (by simp [hfree, hwing])

theorem exec_rowRetirement (st ch bk row cause : Nat) (lost : List (Nat × Nat)) :
    Gives (.rowRetirement w st ch bk row cause true lost) s (s.rowReplaced w st ch bk row cause lost) :=
  congrArg Host.Outcome.next (ite_wingStands hfree hwing _ _)

theorem exec_rowRetirement_noSpare (st ch bk row cause : Nat) (lost : List (Nat × Nat)) :
    Gives (.rowRetirement w st ch bk row cause false lost) s ((s.setStickyIn (1 + w) 130).action (1 + w) 1 row 1) :=
  congrArg Host.Outcome.next (ite_wingStands hfree hwing _ _)

/-! ### Landing lanes (R816) -/

theorem exec_landingLaneSparing_used {g : Nat} (h : s.health.landingUsed.contains (256 * w + g) = true) :
    Gives (.landingLaneSparing w g) s (s.setStickyIn (1 + w) 135) :=
  congrArg Host.Outcome.next ((ite_wingStands hfree hwing _ _).trans (if_pos h))

theorem exec_landingLaneSparing {g : Nat} (h : s.health.landingUsed.contains (256 * w + g) = false) :
    Gives (.landingLaneSparing w g) s
      ((({ s with health := { s.health with landingUsed := s.health.landingUsed ++ [256 * w + g] } }).bump (Ctr.wingLanesSpared w)).action
        (1 + w) 4 g 0) :=
  congrArg Host.Outcome.next ((ite_wingStands hfree hwing _ _).trans (if_neg (Bool.eq_false_iff.1 h)))

/-! ### The patrol (R726, R817, R824) -/

theorem exec_patrolScrub {p : Nat} (h : (s.partOf p).scrub = none) (a : Nat) (u : Bool) :
    Gives (.patrolScrub w p a u) s
      (if u then ((s.poison [poisonKey w p (a / 64 * 64)]).bump (Ctr.wingDramUncorrectable w)).setStickyIn (1 + w) 128
        else s.bump (Ctr.wingDramCorrected w)) :=
  congrArg Host.Outcome.next (if_neg (by simp [hfree, hwing, h]))

end

theorem exec_patrolScrub_skipped {s : State} {p : Nat} (h : (s.partOf p).scrub.isSome = true) (w a : Nat) (u : Bool) :
    Gives (.patrolScrub w p a u) s s :=
  congrArg Host.Outcome.next (if_pos (by simp [h]))

/-! ### Refresh (R887) -/

theorem contains_setMember (l : List Nat) (k j : Nat) (hot : Bool) :
    (if hot then l.filter (· != k) ++ [k] else l.filter (· != k)).contains j = if j = k then hot else l.contains j := by
  have hcold : (l.filter (· != k)).contains j = if j = k then false else l.contains j := by
    rw [contains_filter_ne]
    by_cases h : j = k <;> simp [h]
  have happend (m : List Nat) : (m ++ [k]).contains j = (m.contains j || j == k) := by
    rw [Bool.eq_iff_iff]; simp
  cases hot
  · exact hcold
  · rw [if_pos rfl, happend, hcold]
    by_cases h : j = k <;> simp [h]

/-! ### The Wing's clock (R19, R801, R819) -/

theorem State.floorMhz_of_part {s t : State} (h : t.part = s.part) : t.floorMhz = s.floorMhz := by
  simp only [State.floorMhz, State.nominalMhz, h]

theorem State.throttledMhz_of_part {s t : State} (h : t.part = s.part) (n : Nat) : t.throttledMhz n = s.throttledMhz n := by
  simp only [State.throttledMhz, State.nominalMhz, h]

theorem State.floorMhz_le_wingMhz {s t : State} (h : t.part = s.part) (w : Nat) : s.floorMhz ≤ t.wingMhz w :=
  State.floorMhz_of_part h ▸ Nat.le_max_left ..

theorem State.floorMhz_le_nominal (s : State) : s.floorMhz * 100 ≤ s.nominalMhz * 72 := Nat.div_mul_le_self ..

section
variable (s : State) (die : Nat) (temp : Int)

/-- R801: the highest value that the hottest sensor of a die reached since the previous cycle ended, with a new reading. -/
def State.peakWith : Int := max temp ((mfind s.health.peaks die).getD temp)

@[simp] theorem State.sampleTemp_part : (s.sampleTemp die temp).part = s.part := by
  unfold State.sampleTemp; dsimp only; split <;> rfl

@[simp] theorem State.ctr_sampleTemp (id : Nat) : (s.sampleTemp die temp).ctr id = s.ctr id := by
  unfold State.sampleTemp; dsimp only; split <;> rfl

@[simp] theorem State.throttle_sampleTemp : (s.sampleTemp die temp).health.throttle = s.health.throttle := by
  unfold State.sampleTemp; dsimp only; split <;> rfl

theorem State.temps_sampleTemp : (s.sampleTemp die temp).health.temps = mput s.health.temps die temp := by
  unfold State.sampleTemp; dsimp only; split <;> rfl

/-- R801: a fall of 40 °C below the peak ends a cycle. -/
theorem State.cycles_sampleTemp :
    ((s.sampleTemp die temp).summary die).2.2 = (s.summary die).2.2 + if 640 ≤ s.peakWith die temp - temp then 1 else 0 := by
  unfold State.sampleTemp State.peakWith
  dsimp only
  split_ifs
  · rw [State.summary_setSummary]; rfl
  · rfl

theorem State.peak_sampleTemp :
    mfind (s.sampleTemp die temp).health.peaks die =
      some (if 640 ≤ s.peakWith die temp - temp then temp else s.peakWith die temp) := by
  unfold State.sampleTemp State.peakWith
  dsimp only
  split_ifs <;> exact mfind_mput_same ..

end

section
variable (s : State) (w n m : Nat) (temp : Int)

/-- R819: the sticky bits that a reading sets when `n` steps are in force: 201 at 105 °C, 200 at the first step. -/
def State.warned : State :=
  let s := if 1680 ≤ temp then s.setSticky 201 else s
  if 1520 ≤ temp ∧ n = 0 then s.setSticky 200 else s

/-- R819: the steps in force after a reading. -/
def State.nextSteps : Nat :=
  if 1520 ≤ temp then if s.floorMhz < s.throttledMhz n then n + 1 else n
  else if temp < 1472 then n - 1 else n

/-- R819: a Wing goes from `n` throttle steps to `m`; a change is counted. -/
def State.stepTo : State := if m = n then s else (s.setThrottle w m).bump Ctr.hallThrottleSteps

@[simp] theorem State.warned_part : (s.warned n temp).part = s.part := by
  unfold State.warned; dsimp only; split_ifs <;> simp

@[simp] theorem State.warned_health : (s.warned n temp).health = s.health := by
  unfold State.warned; dsimp only; split_ifs <;> simp

theorem State.ctr_hallThrottleSteps_warned : (s.warned n temp).ctr Ctr.hallThrottleSteps = s.ctr Ctr.hallThrottleSteps := by
  unfold State.warned; dsimp only; split_ifs <;> simp only [State.ctr_hallThrottleSteps_setSticky]

theorem State.stickyBit_warned_hot (h : 1680 ≤ temp) : (s.warned n temp).stickyBit 201 = true := by
  unfold State.warned; dsimp only; rw [if_pos h]
  split_ifs
  · simp [State.stickyBit_setSticky]
  · exact State.stickyBit_setSticky_self s (by omega)

theorem State.stickyBit_warned_first (h : 1520 ≤ temp) : (s.warned 0 temp).stickyBit 200 = true := by
  unfold State.warned; dsimp only; rw [if_pos ⟨h, rfl⟩]
  exact State.stickyBit_setSticky_self _ (by omega)

@[simp] theorem State.stepTo_part : (s.stepTo w n m).part = s.part := by
  unfold State.stepTo; split_ifs <;> rfl

@[simp] theorem State.stepTo_sticky : (s.stepTo w n m).sticky = s.sticky := by
  unfold State.stepTo; split_ifs <;> rfl

@[simp] theorem State.temps_stepTo : (s.stepTo w n m).health.temps = s.health.temps := by
  unfold State.stepTo; split_ifs <;> rfl

@[simp] theorem State.peaks_stepTo : (s.stepTo w n m).health.peaks = s.health.peaks := by
  unfold State.stepTo; split_ifs <;> rfl

@[simp] theorem State.ledger_stepTo (die k : Nat) : (s.stepTo w n m).ledger die k = s.ledger die k := by
  unfold State.stepTo; split_ifs <;> rfl

theorem State.throttle_stepTo (h : mget 0 s.health.throttle w = n) : mget 0 (s.stepTo w n m).health.throttle w = m := by
  unfold State.stepTo
  split_ifs with hm
  · exact h.trans hm.symm
  · exact mget_mput_same ..

theorem State.ctr_stepTo :
    (s.stepTo w n m).ctr Ctr.hallThrottleSteps = rose (s.ctr Ctr.hallThrottleSteps) (if m = n then 0 else 1) := by
  unfold State.stepTo
  split_ifs
  · rfl
  · exact State.ctr_bump ..

end

/-- R819: the state once a reading has been taken and its step made. -/
def State.throttled (s : State) (w : Nat) (temp : Int) : State :=
  let n := mget 0 s.health.throttle w
  ((s.sampleTemp (1 + w) temp).warned n temp).stepTo w n (s.nextSteps n temp)

theorem State.throttle_throttled (s : State) (w : Nat) (temp : Int) :
    mget 0 (s.throttled w temp).health.throttle w = s.nextSteps (mget 0 s.health.throttle w) temp :=
  State.throttle_stepTo _ w _ _ (by rw [State.warned_health, State.throttle_sampleTemp])

/-- R801, R819: what a reading of a Wing's hottest sensor leaves. -/
theorem State.throttled_spec (s : State) (w : Nat) (temp : Int) :
    let n := mget 0 s.health.throttle w
    let t := s.throttled w temp
    mget 0 t.health.temps (1 + w) = temp ∧ s.floorMhz ≤ t.wingMhz w ∧ s.floorMhz * 100 ≤ s.nominalMhz * 72 ∧
      (1680 ≤ temp → t.stickyBit 201 = true) ∧ (1520 ≤ temp → n = 0 → t.stickyBit 200 = true) ∧
      (1520 ≤ temp → mget 0 t.health.throttle w = (if s.floorMhz < s.nominalMhz * (16 - n) / 16 then n + 1 else n)) ∧
      (1472 ≤ temp → temp < 1520 → mget 0 t.health.throttle w = n) ∧
      (temp < 1472 → mget 0 t.health.throttle w = n - 1) ∧
      t.ctr Ctr.hallThrottleSteps = rose (s.ctr Ctr.hallThrottleSteps) (if mget 0 t.health.throttle w = n then 0 else 1) ∧
      let peak := max temp ((mfind s.health.peaks (1 + w)).getD temp)
      (t.summary (1 + w)).2.2 = (s.summary (1 + w)).2.2 + (if 640 ≤ peak - temp then 1 else 0) ∧
      mfind t.health.peaks (1 + w) = some (if 640 ≤ peak - temp then temp else peak) := by
  intro n t
  have ht : t = ((s.sampleTemp (1 + w) temp).warned n temp).stepTo w n (s.nextSteps n temp) := rfl
  have hsteps : mget 0 t.health.throttle w = s.nextSteps n temp := s.throttle_throttled w temp
  have hsticky : t.sticky = ((s.sampleTemp (1 + w) temp).warned n temp).sticky := State.stepTo_sticky ..
  refine ⟨?temps, State.floorMhz_le_wingMhz ?part w, s.floorMhz_le_nominal, fun h => ?hot, fun h hn => ?first, fun h => ?up,
    fun hlo hhi => ?stay, fun h => ?down, ?count, ?cycles, ?peak⟩
  case temps => rw [ht, State.temps_stepTo, State.warned_health, State.temps_sampleTemp, mget_mput_same]
  case part => rw [ht, State.stepTo_part, State.warned_part, State.sampleTemp_part]
  case hot => exact (State.stickyBit_of_sticky hsticky 201).trans (State.stickyBit_warned_hot _ n temp h)
  case first =>
    rw [hn] at hsticky
    exact (State.stickyBit_of_sticky hsticky 200).trans (State.stickyBit_warned_first _ temp h)
  case up => rw [hsteps, State.nextSteps, if_pos h, State.throttledMhz]
  case stay => rw [hsteps, State.nextSteps, if_neg (by omega), if_neg (by omega)]
  case down => rw [hsteps, State.nextSteps, if_neg (by omega), if_pos h]
  case count =>
    rw [hsteps, ht, State.ctr_stepTo, State.ctr_hallThrottleSteps_warned, State.ctr_sampleTemp]
  case cycles =>
    have hledger : t.ledger (1 + w) secSummary = (s.sampleTemp (1 + w) temp).ledger (1 + w) secSummary :=
      (State.ledger_stepTo ..).trans (State.ledger_of_health (State.warned_health ..) ..)
    rw [State.summary_of_ledger hledger]
    exact s.cycles_sampleTemp (1 + w) temp
  case peak =>
    rw [ht, State.peaks_stepTo, State.warned_health]
    exact s.peak_sampleTemp (1 + w) temp

/-! ### Droop (R19) -/

/-- R19: stretching takes `mhz` from a Wing's clock. -/
def State.setStretch (s : State) (w mhz : Nat) : State :=
  { s with health := { s.health with stretch := mput s.health.stretch w mhz } }

/-- Table 22-2: bit 202, once stretching has a Wing's clock at its floor. -/
def State.noteFloor (s : State) (w mhz : Nat) : State :=
  if 0 < mhz ∧ s.wingMhz w = s.floorMhz then s.setSticky 202 else s

theorem State.wingMhz_of_part_health {s t : State} (hpart : t.part = s.part) (hhealth : t.health = s.health) (w : Nat) :
    t.wingMhz w = s.wingMhz w := by
  simp only [State.wingMhz, State.floorMhz_of_part hpart, State.throttledMhz_of_part hpart, hhealth]

section
variable (s : State) (w mhz : Nat)

@[simp] theorem State.noteFloor_part : (s.noteFloor w mhz).part = s.part := by
  unfold State.noteFloor; split_ifs <;> simp

@[simp] theorem State.noteFloor_health : (s.noteFloor w mhz).health = s.health := by
  unfold State.noteFloor; split_ifs <;> simp

@[simp] theorem State.wingMhz_noteFloor : (s.noteFloor w mhz).wingMhz w = s.wingMhz w :=
  State.wingMhz_of_part_health (s.noteFloor_part w mhz) (s.noteFloor_health w mhz) w

theorem State.stretched_spec :
    let t := (s.setStretch w mhz).noteFloor w mhz
    s.floorMhz ≤ t.wingMhz w ∧ mget 0 t.health.stretch w = mhz ∧ (0 < mhz → t.wingMhz w = s.floorMhz → t.stickyBit 202 = true) ∧
      ((mhz = 0 ∨ s.floorMhz < t.wingMhz w) → t.sticky = s.sticky) := by
  have hfloor : (s.setStretch w mhz).floorMhz = s.floorMhz := State.floorMhz_of_part rfl
  have hpart : ((s.setStretch w mhz).noteFloor w mhz).part = s.part := State.noteFloor_part (s.setStretch w mhz) w mhz
  refine ⟨State.floorMhz_le_wingMhz hpart w, ?_, fun hpos hlow => ?_, fun h => ?_⟩
  · rw [State.noteFloor_health]
    exact mget_mput_same 0 s.health.stretch w mhz
  · rw [State.wingMhz_noteFloor] at hlow
    rw [State.noteFloor, if_pos ⟨hpos, hlow.trans hfloor.symm⟩]
    exact State.stickyBit_setSticky_self _ (by omega)
  · rw [State.wingMhz_noteFloor] at h
    rw [State.noteFloor, if_neg (by rw [hfloor]; omega)]
    rfl

end

/-! ### Converters and PM_ALERT_N (R874, R876) -/

/-- A table whose entries are mapped, each with its number. -/
theorem mfind_mapNumbered {α β : Type} (g : Nat → α → β) (t : Tab α) (k : Nat) :
    mfind (t.map (fun e => (e.1, g e.1 e.2))) k = (mfind t k).map (g k) := by
  induction t with
  | nil => rfl
  | cons e t ih =>
    simp only [List.map_cons, mfind]
    split_ifs with h
    · rw [h]; rfl
    · exact ih

/-- R876: STATUS_WORD of a converter is read. -/
def readStatus (t : Tab Converter) (x : Nat × Nat) : Tab Converter :=
  match mfind t x.1 with
  | some c => mput t x.1 { c with status := x.2 }
  | none => t

theorem mfind_readStatus (t : Tab Converter) (x : Nat × Nat) (a : Nat) :
    mfind (readStatus t x) a = if a = x.1 then (mfind t a).map (fun c => { c with status := x.2 }) else mfind t a := by
  unfold readStatus
  split
  · next c hc =>
    split_ifs with h
    · rw [h, mfind_mput_same, hc]; rfl
    · exact mfind_mput_other _ _ h
  · next hnone =>
    split_ifs with h
    · rw [h, hnone]; rfl
    · rfl

theorem mfind_foldl_readStatus_other {l : List (Nat × Nat)} {a : Nat} (h : ∀ x ∈ l, x.1 ≠ a) (t : Tab Converter) :
    mfind (l.foldl readStatus t) a = mfind t a := by
  induction l generalizing t with
  | nil => rfl
  | cons x l ih =>
    rw [List.foldl_cons, ih (fun y hy => h y (List.mem_cons_of_mem _ hy)), mfind_readStatus,
      if_neg (Ne.symm (h x (List.mem_cons_self ..)))]

/-- A word of an ascending list is the one that its converter holds at the end. -/
theorem mfind_foldl_readStatus {l : List (Nat × Nat)} (hasc : Ascending l) {a v : Nat} (hmem : (a, v) ∈ l) {t : Tab Converter}
    {c : Converter} (hc : mfind t a = some c) : mfind (l.foldl readStatus t) a = some { c with status := v } := by
  induction l generalizing t with
  | nil => simp at hmem
  | cons x l ih =>
    obtain ⟨hhead, htail⟩ := List.pairwise_cons.1 hasc
    rcases List.mem_cons.1 hmem with rfl | hmem
    · rw [List.foldl_cons, mfind_foldl_readStatus_other (fun y hy => Nat.ne_of_gt (hhead y hy)), mfind_readStatus, if_pos rfl, hc]
      rfl
    · rw [List.foldl_cons]
      exact ih htail hmem ((mfind_readStatus ..).trans ((if_neg (Nat.ne_of_gt (hhead _ hmem))).trans hc))

/-- R876: the STATUS_WORDs of converters that the device has. -/
def State.ownStatus (s : State) (st : List (Nat × Nat)) : List (Nat × Nat) :=
  st.filter (fun x => (mfind s.power.converters x.1).isSome)

/-- R876: the STATUS_WORDs other than 0 are recorded, each as a hardware action of kind 7. -/
def State.recordStatus (s : State) (own : List (Nat × Nat)) : State :=
  (own.filter (fun x => x.2 != 0)).foldl (fun s x => s.action 0 7 x.1 x.2) s

/-- R876: PM_ALERT_N is asserted, and STATUS_WORDs `own` are read. -/
def State.alertTaken (s : State) (own : List (Nat × Nat)) : State :=
  { s with power := { s.power with pmAlert := true, lastPmAlert := some s.nt, converters := own.foldl readStatus s.power.converters } }

/-- R876: the state once both have been done and the alert counted. -/
def State.alerted (s : State) (own : List (Nat × Nat)) : State := ((s.alertTaken own).recordStatus own).bump Ctr.hallPmbusAlert

section
variable (s : State) (own : List (Nat × Nat))

@[simp] theorem State.power_recordStatus : (s.recordStatus own).power = s.power :=
  foldl_keeps State.power (fun (t : State) (x : Nat × Nat) => t.action 0 7 x.1 x.2) (fun t x => t.action_power 0 7 x.1 x.2) _ s

@[simp] theorem State.ctr_recordStatus (id : Nat) : (s.recordStatus own).ctr id = s.ctr id :=
  foldl_keeps (fun t : State => t.ctr id) (fun (t : State) (x : Nat × Nat) => t.action 0 7 x.1 x.2)
    (fun t x => t.ctr_action 0 7 x.1 x.2 id) _ s

theorem State.mem_ledger_recordStatus {a v : Nat} (hmem : (a, v) ∈ own) (hv : v ≠ 0)
    (hroom : (s.ledger 0 secEvents).length + own.length ≤ 1024) : [7, a, s.nt, v] ∈ (s.recordStatus own).ledger 0 secEvents := by
  have hle : (own.filter (fun x => x.2 != 0)).length ≤ own.length := List.length_filter_le ..
  have hfilter : (a, v) ∈ own.filter (fun x => x.2 != 0) := List.mem_filter.2 ⟨hmem, by simp [hv]⟩
  rw [State.recordStatus, State.ledger_events_foldl_action 0 7 _ s (by omega)]
  exact List.mem_append_right _ (List.mem_map.2 ⟨(a, v), hfilter, rfl⟩)

theorem State.power_alerted : (s.alerted own).power = (s.alertTaken own).power := State.power_recordStatus ..

theorem State.ctr_alerted : (s.alerted own).ctr Ctr.hallPmbusAlert = rose (s.ctr Ctr.hallPmbusAlert) 1 :=
  (State.ctr_bump ..).trans (congrArg (rose · 1) (State.ctr_recordStatus ..))

end

/-- R876: what a taken alert leaves: the converters' words and, for each other than 0, a record. -/
theorem State.alerted_spec (s : State) {st : List (Nat × Nat)} (hasc : Ascending st) :
    let t := s.alerted (s.ownStatus st)
    t.power.pmAlert = true ∧ t.power.lastPmAlert = some s.nt ∧ t.ctr Ctr.hallPmbusAlert = rose (s.ctr Ctr.hallPmbusAlert) 1 ∧
      ∀ a v c, mfind st a = some v → mfind s.power.converters a = some c →
        mfind t.power.converters a = some ({ c with status := v }) ∧
        (v ≠ 0 → (s.ledger 0 10).length + st.length ≤ 1024 → [7, a, s.nt, v] ∈ t.ledger 0 10) := by
  have hpower := s.power_alerted (s.ownStatus st)
  refine ⟨congrArg Power.pmAlert hpower, congrArg Power.lastPmAlert hpower, s.ctr_alerted _, fun a v c hv hc => ?_⟩
  have hmem : (a, v) ∈ s.ownStatus st := List.mem_filter.2 ⟨mem_of_mfind hv, by simp [hc]⟩
  refine ⟨(congrArg (fun p : Power => mfind p.converters a) hpower).trans (mfind_foldl_readStatus (hasc.filter _) hmem hc),
    fun hv0 hroom => ?_⟩
  have hle : (s.ownStatus st).length ≤ st.length := List.length_filter_le ..
  exact (s.alertTaken _).mem_ledger_recordStatus _ hmem hv0 (Nat.le_trans (Nat.add_le_add_left hle _) hroom)

/-! ### Commands and events of the Hall that is free (R544) -/

section
variable {s : State} (hfree : s.hallFree = true)
include hfree

theorem exec_refreshDoubled {k : Nat} (hk : k < 4 * s.wings) (hot : Bool) :
    Gives (.refreshDoubled k hot) s ({ s with health := { s.health with
      doubled := if hot then s.health.doubled.filter (· != k) ++ [k] else s.health.doubled.filter (· != k) } }) :=
  congrArg Host.Outcome.next ((State.whenFree_of_free hfree _).trans (if_neg (by simp [hk])))

theorem exec_throttleStep {w : Nat} (hwing : w < s.wings) (temp : Int) : Gives (.throttleStep w temp) s (s.throttled w temp) := by
  refine congrArg Host.Outcome.next ((State.whenFree_of_free hfree _).trans ((if_neg (by simp [hwing])).trans ?_))
  dsimp only
  rw [State.throttled, State.stepTo, State.nextSteps]
  generalize hread : s.sampleTemp (1 + w) temp = r
  have hsteps : mget 0 (if 1680 ≤ temp then r.setSticky 201 else r).health.throttle w = mget 0 s.health.throttle w := by
    split_ifs <;> simp [← hread]
  have hpart : (r.warned (mget 0 s.health.throttle w) temp).part = s.part := by simp [← hread]
  simp only [ge_iff_le, hsteps]
  by_cases hhot : 1520 ≤ temp
  · have hclock := State.floorMhz_of_part hpart
    have hthrottled := State.throttledMhz_of_part hpart (mget 0 s.health.throttle w)
    simp only [State.warned, hhot, true_and, if_true] at hclock hthrottled ⊢
    rw [hclock, hthrottled]
    by_cases hfloor : s.floorMhz < s.throttledMhz (mget 0 s.health.throttle w) <;> simp [hfloor]
  · have hcool : ¬ 1680 ≤ temp := by omega
    simp only [State.warned, hhot, hcool, false_and, if_false]
    by_cases hdown : temp < 1472 ∧ 0 < mget 0 s.health.throttle w
    · rw [if_pos hdown, if_pos hdown.1, if_neg (by omega)]
    · rw [if_neg hdown, if_pos (by split_ifs <;> omega)]

theorem exec_droop {w : Nat} (hwing : w < s.wings) (mhz : Nat) :
    Gives (.droop w mhz) s ((s.setStretch w mhz).noteFloor w mhz) :=
  congrArg Host.Outcome.next ((State.whenFree_of_free hfree _).trans (if_neg (by simp [hwing])))

theorem exec_pmbusPoll (rs : List (Nat × Converter)) :
    Gives (.pmbusPoll rs) s ({ s with power := { s.power with
      converters := s.power.converters.map (fun e => (e.1, (mfind rs e.1).getD e.2)) } }) :=
  congrArg Host.Outcome.next (State.whenFree_of_free hfree _)

theorem exec_pmAlert_released (st : List (Nat × Nat)) :
    Gives (.pmAlert false st) s ({ s with power := { s.power with pmAlert := false, lastPmAlert := none } }) :=
  congrArg Host.Outcome.next (State.whenFree_of_free hfree _)

theorem exec_pmAlert_early {l : Nat} (hon : s.power.pmAlert = true) (hlast : s.power.lastPmAlert = some l) (hearly : s.nt < l + 1600000000)
    (st : List (Nat × Nat)) : Gives (.pmAlert true st) s s := by
  have hwait : s.nt < l + 100 * ms := hearly
  refine congrArg Host.Outcome.next ((State.whenFree_of_free hfree _).trans ?_)
  exact (if_neg (by decide)).trans (if_pos (by simp [hon, hlast, hwait]))

theorem exec_pmAlert (st : List (Nat × Nat))
    (h : s.power.pmAlert = false ∨ ∀ l, s.power.lastPmAlert = some l → l + 1600000000 ≤ s.nt) :
    Gives (.pmAlert true st) s (s.alerted (s.ownStatus st)) := by
  refine congrArg Host.Outcome.next ((State.whenFree_of_free hfree _).trans ?_)
  refine (if_neg (by decide)).trans (if_neg ?_)
  rcases h with hoff | hlate
  · simp [hoff]
  · cases hlast : s.power.lastPmAlert with
    | none => simp
    | some l =>
      have hdue : ¬ s.nt < l + 100 * ms := Nat.not_lt.2 (hlate l hlast)
      simp [hdue]

end

/-! ### The statement -/

theorem rowsRetire (s : State) (w st ch bk row cause : Nat) (lost : List (Nat × Nat)) (hfree : s.wingFree w = true)
    (hwing : w < s.wings) :
    (∃ t : State, Gives (.rowRetirement w st ch bk row cause false lost) s t ∧ t.stickyBit 130 = true ∧
      t.ledger (1 + w) 7 = s.ledger (1 + w) 7 ∧ t.health.poisoned = s.health.poisoned) ∧
    ∃ t : State, Gives (.rowRetirement w st ch bk row cause true lost) s t ∧ t.stickyBit 129 = true ∧
      t.ledger (1 + w) 7 = s.ledger (1 + w) 7 ++ [[st, ch, bk, row, s.nt, cause]] ∧ (∀ k, t.health.poisoned.contains k =
        (s.health.poisoned.contains k || (lost.map (fun x => poisonKey w x.1 x.2)).contains k)) ∧
      t.ctr (Ctr.wingRowsRetired w) = rose (s.ctr (Ctr.wingRowsRetired w)) 1 := by
  have hhealth := s.setStickyIn_health (1 + w) 130
  exact ⟨⟨_, exec_rowRetirement_noSpare hfree hwing st ch bk row cause lost,
      (State.stickyBit_action ..).trans (s.stickyBit_setStickyIn_self (1 + w) (by omega)),
      (State.ledger_rows_action ..).trans (State.ledger_of_health hhealth ..),
      (State.poisoned_action ..).trans (congrArg Health.poisoned hhealth)⟩,
    _, exec_rowRetirement hfree hwing st ch bk row cause lost, s.rowReplaced_spec w st ch bk row cause lost⟩

/-- Settles O52: each row by what it leaves of the Mantel, the poisoned words and its counter; a throttle step as a reading, its warnings
and a change of steps, one after another; PM_ALERT_N by an induction over the STATUS_WORDs that are read and recorded. -/
theorem memoryAndPowerActions : Obligations.MemoryAndPowerActions := by
  refine ⟨fun s w st ch bk row cause lost hfree hwing => rowsRetire s w st ch bk row cause lost hfree hwing,
    fun s w g hfree hwing => ⟨fun hused => ?used, fun hspare => ?spare⟩,
    fun s w p a hfree hwing => ⟨fun hscrub u => exec_patrolScrub_skipped hscrub w a u, fun hscrub => ?patrol⟩,
    fun s k hot hfree hk => ?refresh, fun s w temp hfree hwing => ?throttle, fun s w mhz hfree hwing => ?droop,
    fun s rs hfree => ⟨_, exec_pmbusPoll hfree rs, rfl, ?poll⟩,
    fun s st hfree hasc _ => ⟨⟨_, exec_pmAlert_released hfree st, rfl⟩,
      fun ⟨hon, l, hlast, hearly⟩ => exec_pmAlert_early hfree hon hlast hearly st, fun h => ⟨_, exec_pmAlert hfree st h, ?alert⟩⟩⟩
  case used =>
    exact ⟨_, exec_landingLaneSparing_used hfree hwing hused, s.stickyBit_setStickyIn_self (1 + w) (by omega), s.setStickyIn_health ..⟩
  case spare => exact ⟨_, exec_landingLaneSparing hfree hwing hspare, State.landingUsed_action .., State.action_sticky ..,
      (State.ctr_action ..).trans (State.ctr_bump ..)⟩
  case patrol =>
    refine ⟨exec_patrolScrub hfree hwing hscrub a false, _, exec_patrolScrub hfree hwing hscrub a true,
      State.stickyBit_setStickyIn_self _ (1 + w) (by omega), ?_, ?_⟩
    · rw [if_pos rfl, State.setStickyIn_health, State.bump_health]
      exact List.contains_iff_mem.1 ((State.contains_poison ..).trans (by simp))
    · rw [if_pos rfl, Ctr.wingDramUncorrectable, State.ctr_wingMemory_setStickyIn _ (1 + w) 128 w (by omega) (by omega)]
      exact State.ctr_bump ..
  case refresh =>
    exact ⟨_, exec_refreshDoubled hfree hk hot, (contains_setMember ..).trans (if_pos rfl),
      fun j hj => (contains_setMember ..).trans (if_neg hj)⟩
  case throttle => exact ⟨_, exec_throttleStep hfree hwing temp, s.throttled_spec w temp⟩
  case droop => exact ⟨_, exec_droop hfree hwing mhz, s.stretched_spec w mhz⟩
  case poll => exact mfind_mapNumbered (fun a c => (mfind rs a).getD c) _
  case alert => exact s.alerted_spec hasc

end Sys2Proof.Machine
end

section
/-!
Proofs for the block: a step on a queue, the bytes of a memory after a store, and what reset leaves.
-/
open Sys2Proof Sys2Proof.Machine Sys2Proof.Claims

namespace Sys2Proof.Machine

/-- Settles O1: the queue's front selects the command. -/
theorem stepRunsFront : Obligations.StepRunsFront := fun _ _ _ => rfl

/-- A store leaves what stands outside the stored bytes, and the bytes themselves read back. -/
theorem memGet_memWrite {m : Mem} (h : memWf m = true) (a b : Nat) (bs : Bytes) :
    memGet (memWrite m a bs) b = if a ≤ b ∧ b < a + bs.length then (bs[b - a]?).getD 0 else memGet m b := by
  induction bs generalizing m a with
  | nil => simp [memWrite, show ¬ (a ≤ b ∧ b < a) by omega]
  | cons v bs ih =>
    rw [memWrite, ih (memWf_memPut h a v), memGet_memPut m a b v h, List.length_cons]
    by_cases hin : a + 1 ≤ b ∧ b < a + 1 + bs.length
    · rw [if_pos hin, if_pos (by omega), show b - a = (b - (a + 1)) + 1 by omega, List.getElem?_cons_succ]
    · rw [if_neg hin]
      by_cases hb : b = a
      · simp [hb]
      · rw [if_neg hb, if_neg (by omega)]

/-- Settles O2: by the store of one byte, along the stored string. -/
theorem memoryReadsBack : Obligations.MemoryReadsBack := fun _ a b bs h =>
  ⟨memWf_memWrite h a bs, memGet_memWrite h a b bs⟩

theorem State.stickyBit_reset (n : Nat) : State.reset.stickyBit n = false := BitVec.getLsbD_zero

/-- Settles O60: reset's tables are empty, so each reader finds the contents that an unlisted resource has. -/
theorem resetLeaves : Obligations.ResetLeaves := by
  refine ⟨⟨fun n _ => State.stickyBit_reset n, ?fault⟩, rfl, rfl, rfl, rfl, rfl, rfl, rfl, rfl, fun _ => rfl,
    fun n => ⟨rfl, ?live⟩, fun _ => rfl, fun _ => rfl⟩
  case fault =>
    refine iff_of_false (by decide) fun ⟨n, _, _, hset⟩ => ?_
    exact absurd hset (by rw [State.stickyBit_reset]; decide)
  case live => simp [State.laneLive, State.lane, State.reset, mget]

end Sys2Proof.Machine
end

section
/-!
Proofs for the encoding of tile words (chapter 08): fields that stand side by side are taken apart and put together again; every kind of
operand and the word itself are read back by that.
-/
open Sys2Proof Sys2Proof.Machine Sys2Proof.Claims

namespace Sys2Proof.Machine

/-! ### Fields side by side -/

/-- Every value fits its field. -/
def FieldsFit (fs : List (Nat × Nat)) : Prop := ∀ f ∈ fs, f.2 < 2 ^ f.1

theorem fieldsFit_cons {n v : Nat} {r : List (Nat × Nat)} : FieldsFit ((n, v) :: r) ↔ v < 2 ^ n ∧ FieldsFit r := List.forall_mem_cons

theorem fieldsFit_nil : FieldsFit [] := by simp [FieldsFit]

theorem unpack_pack {ns : List Nat} {fs : List (Nat × Nat)} (hns : fs.map (·.1) = ns) (h : FieldsFit fs) : unpack ns (pack fs) = fs.map (·.2) := by
  subst hns
  induction fs with
  | nil => rfl
  | cons f r ih =>
    obtain ⟨hf, hr⟩ := fieldsFit_cons.1 h
    simp only [List.map_cons, pack, unpack, Nat.add_mul_mod_self_left, Nat.mod_eq_of_lt hf,
      Nat.add_mul_div_left _ _ (Nat.two_pow_pos f.1), Nat.div_eq_of_lt hf, Nat.zero_add, ih hr]

theorem pack_lt {n : Nat} {fs : List (Nat × Nat)} (hn : (fs.map (·.1)).sum = n) (h : FieldsFit fs) : pack fs < 2 ^ n := by
  subst hn
  induction fs with
  | nil => exact Nat.one_pos
  | cons f r ih =>
    obtain ⟨hf, hr⟩ := fieldsFit_cons.1 h
    have hrest : pack r + 1 ≤ 2 ^ (r.map (·.1)).sum := ih hr
    calc f.2 + 2 ^ f.1 * pack r < 2 ^ f.1 * (pack r + 1) := by rw [Nat.mul_add]; omega
      _ ≤ 2 ^ f.1 * 2 ^ (r.map (·.1)).sum := Nat.mul_le_mul_left _ hrest
      _ = _ := by rw [List.map_cons, List.sum_cons, Nat.pow_add]

theorem fieldsFit_unpack (ns : List Nat) (w : Nat) : FieldsFit (ns.zip (unpack ns w)) := by
  induction ns generalizing w with
  | nil => exact fieldsFit_nil
  | cons n r ih => exact fieldsFit_cons.2 ⟨Nat.mod_lt _ (Nat.two_pow_pos n), ih _⟩

theorem pack_unpack {ns : List Nat} {w : Nat} (h : w < 2 ^ ns.sum) : pack (ns.zip (unpack ns w)) = w := by
  induction ns generalizing w with
  | nil => simpa [pack, unpack] using (Nat.lt_one_iff.1 h).symm
  | cons n r ih =>
    rw [List.sum_cons, Nat.pow_add] at h
    simp only [unpack, List.zip_cons_cons, pack, ih (Nat.div_lt_of_lt_mul h), Nat.mod_add_div]

/-- Fields that a number is taken apart into fit their places and make the number up. -/
theorem fields_of_unpack {ns vs : List Nat} {w : Nat} (h : unpack ns w = vs) (hw : w < 2 ^ ns.sum) :
    FieldsFit (ns.zip vs) ∧ pack (ns.zip vs) = w := h ▸ ⟨fieldsFit_unpack ns w, pack_unpack hw⟩

theorem unpack_eq_iff {ns vs : List Nat} {w n : Nat} (hlen : vs.length = ns.length) (hn : ns.sum = n) (hw : w < 2 ^ n) :
    unpack ns w = vs ↔ FieldsFit (ns.zip vs) ∧ pack (ns.zip vs) = w := by
  subst hn
  refine ⟨fun h => h ▸ ⟨fieldsFit_unpack ns w, pack_unpack hw⟩, fun ⟨hfit, hpack⟩ => ?_⟩
  have hfst : (ns.zip vs).map (·.1) = ns := List.map_fst_zip (Nat.le_of_eq hlen.symm)
  have hsnd : (ns.zip vs).map (·.2) = vs := List.map_snd_zip (Nat.le_of_eq hlen)
  rw [← hpack, unpack_pack hfst hfit, hsnd]

/-! ### Operands: what reads is what is spelt

An operand has fields of the widths `ns` with the values `vals`; it reads where they are in their ranges. -/

/-- How an operand's reader, ranges, widths and bits stand to its fields in 80 bits. -/
structure OperandCodec {α : Type} (ns : List Nat) (vals : α → List Nat) (read : Nat → Option α) (ok wf : α → Bool) (bits : α → Nat) : Prop where
  width : ns.sum = 80
  length : ∀ x, (vals x).length = ns.length
  read_iff : ∀ w x, read w = some x ↔ unpack ns w = vals x ∧ ok x = true
  wf_iff : ∀ x, wf x = true ↔ FieldsFit (ns.zip (vals x))
  bits_eq : ∀ x, bits x = pack (ns.zip (vals x))

namespace OperandCodec

variable {α : Type} {ns : List Nat} {vals : α → List Nat} {read : Nat → Option α} {ok wf : α → Bool} {bits : α → Nat}

theorem reads (h : OperandCodec ns vals read ok wf bits) {w : Nat} (hw : w < 2 ^ 80) (x : α) :
    read w = some x ↔ (ok x && wf x) = true ∧ bits x = w := by
  rw [h.read_iff, unpack_eq_iff (h.length x) h.width hw, ← h.wf_iff, ← h.bits_eq, Bool.and_eq_true]
  tauto

theorem bits_lt (h : OperandCodec ns vals read ok wf bits) {x : α} (hx : (ok x && wf x) = true) : bits x < 2 ^ 80 := by
  rw [h.bits_eq]
  exact pack_lt ((congrArg List.sum (List.map_fst_zip (Nat.le_of_eq (h.length x).symm))).trans h.width)
    ((h.wf_iff x).1 (Bool.and_eq_true_iff.1 hx).2)

end OperandCodec

def PassOp.vals (p : PassOp) : List Nat :=
  [p.array, p.form, p.mode, p.kMinus1, p.aHalf, p.aOffset, p.bHalf, p.bOffset, p.aFmt, p.aCb, p.bFmt, p.bCb, p.aZero, p.aRelease, p.bRelease, 0]

theorem passCodec (op : Nat) :
    OperandCodec [1, 3, 2, 16, 1, 8, 1, 9, 2, 2, 1, 2, 8, 1, 1, 22] PassOp.vals (readPass op) (·.ok op) PassOp.wf PassOp.bits where
  width := rfl
  length _ := rfl
  read_iff w p := by
    obtain ⟨⟩ := p
    unfold readPass
    split
    · rename_i hu
      simp only [hu, PassOp.vals, Option.ite_none_right_eq_some, Option.some.injEq, PassOp.mk.injEq, List.cons.injEq]
      grind
    · rename_i hne
      exact iff_of_false nofun fun h => by apply hne; exact h.1
  wf_iff p := by simp [PassOp.vals, PassOp.wf, fits, fieldsFit_cons, fieldsFit_nil, and_assoc]
  bits_eq _ := rfl

def FeedOp.vals (f : FeedOp) : List Nat :=
  [f.array, f.target, f.half, f.cbSlot, f.src, f.length, f.tag, f.cbSize, 0]

theorem feedCodec :
    OperandCodec [1, 3, 1, 2, 20, 10, 8, 1, 34] FeedOp.vals readFeed FeedOp.ok FeedOp.wf FeedOp.bits where
  width := rfl
  length _ := rfl
  read_iff w f := by
    obtain ⟨⟩ := f
    unfold readFeed
    split
    · rename_i hu
      simp only [hu, FeedOp.vals, Option.ite_none_right_eq_some, Option.some.injEq, FeedOp.mk.injEq, List.cons.injEq]
      grind
    · rename_i hne
      exact iff_of_false nofun fun h => by apply hne; exact h.1
  wf_iff f := by simp [FeedOp.vals, FeedOp.wf, fits, fieldsFit_cons, fieldsFit_nil, and_assoc]
  bits_eq _ := rfl

def DrainOp.vals (d : DrainOp) : List Nat :=
  [d.array, d.subOp, d.source, d.src, 0]

theorem drainCodec :
    OperandCodec [1, 1, 2, 20, 56] DrainOp.vals readDrain DrainOp.ok DrainOp.wf DrainOp.bits where
  width := rfl
  length _ := rfl
  read_iff w d := by
    obtain ⟨⟩ := d
    unfold readDrain
    split
    · rename_i hu
      simp only [hu, DrainOp.vals, Option.ite_none_right_eq_some, Option.some.injEq, DrainOp.mk.injEq, List.cons.injEq]
      grind
    · rename_i hne
      exact iff_of_false nofun fun h => by apply hne; exact h.1
  wf_iff d := by simp [DrainOp.vals, DrainOp.wf, fits, fieldsFit_cons, fieldsFit_nil, and_assoc]
  bits_eq _ := rfl

def PostOp.vals (p : PostOp) : List Nat :=
  [p.subOp, p.srcKind, p.src, p.dst, p.count, p.paramA, p.paramB, 0]

theorem postCodec :
    OperandCodec [4, 2, 20, 20, 12, 8, 8, 6] PostOp.vals readPost PostOp.ok PostOp.wf PostOp.bits where
  width := rfl
  length _ := rfl
  read_iff w p := by
    obtain ⟨⟩ := p
    unfold readPost
    split
    · rename_i hu
      simp only [hu, PostOp.vals, Option.ite_none_right_eq_some, Option.some.injEq, PostOp.mk.injEq, List.cons.injEq]
      grind
    · rename_i hne
      exact iff_of_false nofun fun h => by apply hne; exact h.1
  wf_iff p := by simp [PostOp.vals, PostOp.wf, fits, fieldsFit_cons, fieldsFit_nil, and_assoc]
  bits_eq _ := rfl

def TreeOp.vals (t : TreeOp) : List Nat :=
  [t.trees, t.treeCountMinus1, t.nodeBits, t.dst, 0]

theorem treeCodec :
    OperandCodec [20, 12, 20, 20, 8] TreeOp.vals readTree (fun _ => true) TreeOp.wf TreeOp.bits where
  width := rfl
  length _ := rfl
  read_iff w t := by
    obtain ⟨⟩ := t
    unfold readTree
    split
    · rename_i hu
      simp only [hu, TreeOp.vals, Option.some.injEq, TreeOp.mk.injEq, List.cons.injEq]
      grind
    · rename_i hne
      exact iff_of_false nofun fun h => by apply hne; exact h.1
  wf_iff t := by simp [TreeOp.vals, TreeOp.wf, fits, fieldsFit_cons, fieldsFit_nil, and_assoc]
  bits_eq _ := rfl

def MoveOp.vals (m : MoveOp) : List Nat :=
  [m.kind, m.localRef, m.length, m.remote]

theorem moveCodec (store : Bool) :
    OperandCodec [2, 20, 16, 42] MoveOp.vals (readMove store) (·.ok store) MoveOp.wf MoveOp.bits where
  width := rfl
  length _ := rfl
  read_iff w m := by
    obtain ⟨⟩ := m
    unfold readMove
    split
    · rename_i hu
      simp only [hu, MoveOp.vals, Option.ite_none_right_eq_some, Option.some.injEq, MoveOp.mk.injEq, List.cons.injEq]
      grind
    · rename_i hne
      exact iff_of_false nofun fun h => by apply hne; exact h.1
  wf_iff m := by simp [MoveOp.vals, MoveOp.wf, fits, fieldsFit_cons, fieldsFit_nil, and_assoc]
  bits_eq _ := rfl

def StateOp.vals (x : StateOp) : List Nat :=
  [x.subOp, x.rowFirst, x.rowCount, x.state, x.token, 0]

theorem stateCodec :
    OperandCodec [2, 7, 8, 20, 20, 23] StateOp.vals readState StateOp.ok StateOp.wf StateOp.bits where
  width := rfl
  length _ := rfl
  read_iff w x := by
    obtain ⟨⟩ := x
    unfold readState
    split
    · rename_i hu
      simp only [hu, StateOp.vals, Option.ite_none_right_eq_some, Option.some.injEq, StateOp.mk.injEq, List.cons.injEq]
      grind
    · rename_i hne
      exact iff_of_false nofun fun h => by apply hne; exact h.1
  wf_iff x := by simp [StateOp.vals, StateOp.wf, fits, fieldsFit_cons, fieldsFit_nil, and_assoc]
  bits_eq _ := rfl

def ReduceOp.vals (r : ReduceOp) : List Nat :=
  [r.slot0, r.stride, r.countMinus1, r.length, r.dst, r.arriveTok, 0]

theorem reduceCodec :
    OperandCodec [20, 12, 4, 12, 20, 4, 8] ReduceOp.vals readReduce ReduceOp.ok ReduceOp.wf ReduceOp.bits where
  width := rfl
  length _ := rfl
  read_iff w r := by
    obtain ⟨⟩ := r
    unfold readReduce
    split
    · rename_i hu
      simp only [hu, ReduceOp.vals, Option.ite_none_right_eq_some, Option.some.injEq, ReduceOp.mk.injEq, List.cons.injEq]
      grind
    · rename_i hne
      exact iff_of_false nofun fun h => by apply hne; exact h.1
  wf_iff r := by simp [ReduceOp.vals, ReduceOp.wf, fits, fieldsFit_cons, fieldsFit_nil, and_assoc]
  bits_eq _ := rfl

def SyncOp.vals (x : SyncOp) : List Nat :=
  [x.targetKind, x.tok, x.increment, x.wing, x.gallery, x.tile, 0]

theorem syncCodec :
    OperandCodec [1, 4, 8, 1, 2, 7, 57] SyncOp.vals readSync SyncOp.ok SyncOp.wf SyncOp.bits where
  width := rfl
  length _ := rfl
  read_iff w x := by
    obtain ⟨⟩ := x
    unfold readSync
    split
    · rename_i hu
      simp only [hu, SyncOp.vals, Option.ite_none_right_eq_some, Option.some.injEq, SyncOp.mk.injEq, List.cons.injEq]
      grind
    · rename_i hne
      exact iff_of_false nofun fun h => by apply hne; exact h.1
  wf_iff x := by simp [SyncOp.vals, SyncOp.wf, fits, fieldsFit_cons, fieldsFit_nil, and_assoc]
  bits_eq _ := rfl

/-! ### Operations and words -/

theorem readOp_wait_iff {w : Nat} (hw : w < 2 ^ 80) (tok count : Nat) :
    readOp 0x51 w = some (.wait tok count) ↔ (TileOp.wait tok count).spelt = true ∧ (TileOp.wait tok count).bits = w := by
  have hfields : readOp 0x51 w = some (.wait tok count) ↔ unpack [4, 8, 68] w = [tok, count, 0] ∧ 1 ≤ count := by
    simp only [readOp]
    split
    · rename_i hu
      simp only [hu, Option.ite_none_right_eq_some, Option.some.injEq, TileOp.wait.injEq, List.cons.injEq]
      grind
    · rename_i hne
      exact iff_of_false nofun fun h => by apply hne; exact h.1
  rw [hfields, unpack_eq_iff (ns := [4, 8, 68]) (vs := [tok, count, 0]) rfl rfl hw]
  simp [fieldsFit_cons, fieldsFit_nil, TileOp.spelt, TileOp.bits, fits]
  tauto

theorem readOp_mark_iff {w : Nat} (hw : w < 2 ^ 80) (value : Nat) :
    readOp 0x60 w = some (.mark value) ↔ (TileOp.mark value).spelt = true ∧ (TileOp.mark value).bits = w := by
  have hfields : readOp 0x60 w = some (.mark value) ↔ unpack [32, 48] w = [value, 0] := by
    simp only [readOp]
    split
    · rename_i hu
      simp [hu]
    · rename_i hne
      exact iff_of_false nofun fun h => by apply hne; exact h
  rw [hfields, unpack_eq_iff (ns := [32, 48]) (vs := [value, 0]) rfl rfl hw]
  simp [fieldsFit_cons, fieldsFit_nil, TileOp.spelt, TileOp.bits, fits]

/-- The opcode stands in the word, and each operand reads back by its own table. -/
theorem readOp_iff_of_opcode {w : Nat} (hw : w < 2 ^ 80) (o : TileOp) :
    readOp o.opcode w = some o ↔ o.spelt = true ∧ o.bits = w := by
  cases o with
  | mma p => simpa [readOp, TileOp.opcode, TileOp.spelt, TileOp.bits] using (passCodec 0x10).reads hw p
  | sel p => simpa [readOp, TileOp.opcode, TileOp.spelt, TileOp.bits] using (passCodec 0x11).reads hw p
  | dist p => simpa [readOp, TileOp.opcode, TileOp.spelt, TileOp.bits] using (passCodec 0x12).reads hw p
  | feed f => simpa [readOp, TileOp.opcode, TileOp.spelt, TileOp.bits] using feedCodec.reads hw f
  | drain d => simpa [readOp, TileOp.opcode, TileOp.spelt, TileOp.bits] using drainCodec.reads hw d
  | post p => simpa [readOp, TileOp.opcode, TileOp.spelt, TileOp.bits] using postCodec.reads hw p
  | tree t => simpa [readOp, TileOp.opcode, TileOp.spelt, TileOp.bits] using treeCodec.reads hw t
  | load m => simpa [readOp, TileOp.opcode, TileOp.spelt, TileOp.bits] using (moveCodec false).reads hw m
  | store m => simpa [readOp, TileOp.opcode, TileOp.spelt, TileOp.bits] using (moveCodec true).reads hw m
  | state x => simpa [readOp, TileOp.opcode, TileOp.spelt, TileOp.bits] using stateCodec.reads hw x
  | reduce r => simpa [readOp, TileOp.opcode, TileOp.spelt, TileOp.bits] using reduceCodec.reads hw r
  | sync x => simpa [readOp, TileOp.opcode, TileOp.spelt, TileOp.bits] using syncCodec.reads hw x
  | wait tok count => exact readOp_wait_iff hw tok count
  | mark value => exact readOp_mark_iff hw value

/-- What an opcode reads is an operation of that opcode. -/
theorem opcode_of_readOp {opcode w : Nat} {o : TileOp} (h : readOp opcode w = some o) : o.opcode = opcode := by
  unfold readOp at h
  split at h <;> grind [TileOp.opcode, Option.map_eq_some_iff]

theorem TileOp.bits_lt {o : TileOp} (h : o.spelt = true) : o.bits < 2 ^ 80 := by
  cases o with
  | mma p => exact (passCodec 0x10).bits_lt h
  | sel p => exact (passCodec 0x11).bits_lt h
  | dist p => exact (passCodec 0x12).bits_lt h
  | feed f => exact feedCodec.bits_lt h
  | drain d => exact drainCodec.bits_lt h
  | post p => exact postCodec.bits_lt h
  | tree t => exact treeCodec.bits_lt h
  | load m => exact (moveCodec false).bits_lt h
  | store m => exact (moveCodec true).bits_lt h
  | state x => exact stateCodec.bits_lt h
  | reduce r => exact reduceCodec.bits_lt h
  | sync x => exact syncCodec.bits_lt h
  | wait tok count =>
    simp only [TileOp.spelt, fits, Bool.and_eq_true, decide_eq_true_eq] at h
    exact pack_lt rfl (by simpa [fieldsFit_cons, fieldsFit_nil] using ⟨h.1.1, h.2⟩)
  | mark value => exact pack_lt rfl (by simpa [fieldsFit_cons, fieldsFit_nil, TileOp.spelt, fits] using h)

theorem TileOp.opcode_lt (o : TileOp) : o.opcode < 2 ^ 8 := by
  cases o <;> simp [TileOp.opcode]

theorem TileOp.wf_of_spelt {o : TileOp} (h : o.spelt = true) : o.wf = true := by
  cases o <;> simp_all [TileOp.spelt, TileOp.wf]

/-- The fields of a word around its operation. -/
def TileWord.vals (t : TileWord) : List Nat :=
  [t.op.opcode, t.waitEn, t.waitTok, t.sigEn, t.sigTok, t.trace, t.last, t.layer, t.opId, 0, t.op.bits]

theorem TileWord.fieldsFit {t : TileWord} (h : t.spelt = true) :
    FieldsFit ([8, 1, 4, 1, 4, 1, 1, 12, 12, 4, 80].zip t.vals) := by
  simp only [TileWord.spelt, TileWord.wf, fits, Bool.and_eq_true, decide_eq_true_eq] at h
  simp only [TileWord.vals, List.zip_cons_cons, List.zip_nil_left, fieldsFit_cons, h, t.op.opcode_lt, TileOp.bits_lt h.2, fieldsFit_nil,
    Nat.two_pow_pos, and_self]

theorem readWord_iff (w : Nat) (t : TileWord) :
    readWord w = some t ↔ ∃ operands, unpack [8, 1, 4, 1, 4, 1, 1, 12, 12, 4, 80] w =
      [t.op.opcode, t.waitEn, t.waitTok, t.sigEn, t.sigTok, t.trace, t.last, t.layer, t.opId, 0, operands] ∧
      readOp t.op.opcode operands = some t.op := by
  unfold readWord
  split
  · rename_i operands hu
    simp only [hu, Option.map_eq_some_iff, List.cons.injEq]
    constructor
    · rintro ⟨o, ho, rfl⟩
      have hop := opcode_of_readOp ho
      exact ⟨operands, by simp only [hop, and_self], by simpa only [hop] using ho⟩
    · rintro ⟨x, h, hr⟩
      obtain ⟨⟩ := t
      grind
  · rename_i hne
    exact iff_of_false nofun fun ⟨x, h, _⟩ => by apply hne; exact h

/-- Settles O18: the reader of a word and its spelling are put together from those of its operands, each of which has its fields side
by side. -/
theorem tileWordsReadBack : Obligations.TileWordsReadBack := by
  refine ⟨fun t ht => ?spell, fun w t hw h => ?read⟩
  case spell =>
    have hlt : t.bits < 2 ^ 128 := pack_lt (fs := [8, 1, 4, 1, 4, 1, 1, 12, 12, 4, 80].zip t.vals) rfl (TileWord.fieldsFit ht)
    have hop : t.op.spelt = true := (Bool.and_eq_true_iff.1 ht).2
    refine ⟨hlt, (readWord_iff _ t).2 ⟨t.op.bits, ?_, (readOp_iff_of_opcode (TileOp.bits_lt hop) t.op).2 ⟨hop, rfl⟩⟩⟩
    exact unpack_pack (fs := [8, 1, 4, 1, 4, 1, 1, 12, 12, 4, 80].zip t.vals) rfl (TileWord.fieldsFit ht)
  case read =>
    obtain ⟨operands, hu, hr⟩ := (readWord_iff w t).1 h
    obtain ⟨hfit, hpack⟩ := (unpack_eq_iff (by rfl) (by rfl) hw).1 hu
    simp only [List.zip_cons_cons, List.zip_nil_left, fieldsFit_cons] at hfit
    obtain ⟨hop, rfl⟩ := (readOp_iff_of_opcode (by simp only [hfit]) t.op).1 hr
    refine ⟨?_, hpack⟩
    simp only [TileWord.spelt, TileWord.wf, fits, hfit, TileOp.wf_of_spelt hop, hop, decide_true, Bool.and_self]

end Sys2Proof.Machine
end

section
/-!
Proofs for the sticky bits (chapter 22): masks as lists of bits, FAULT_N by its mask, the vectors by a fold over functions, and the two
commands.
-/
open Sys2Proof Sys2Proof.Machine Sys2Proof.Claims

namespace Sys2Proof.Machine

/-! ### Masks -/

theorem getLsbD_foldl_mask (ns : List Nat) (m : BitVec 256) {k : Nat} (hk : k < 256) :
    (ns.foldl (fun m n => m ||| (1#256 <<< n)) m).getLsbD k = (m.getLsbD k || ns.contains k) := by
  induction ns generalizing m with
  | nil => simp
  | cons n ns ih =>
    rw [List.foldl_cons, ih, BitVec.getLsbD_or, List.contains_cons, Bool.or_assoc]
    have hbit : (1#256 <<< n).getLsbD k = (k == n) := by
      rcases Nat.lt_trichotomy k n with h | h | h
      · simp [h, Nat.ne_of_lt h]
      · simp [h, h ▸ hk]
      · simp [hk, Nat.not_lt.2 (Nat.le_of_lt h), Nat.ne_of_gt h, show k - n ≠ 0 by omega]
    rw [hbit]

theorem getLsbD_bitMask (ns : List Nat) {k : Nat} (hk : k < 256) : (bitMask ns).getLsbD k = ns.contains k := by
  rw [bitMask, getLsbD_foldl_mask ns 0 hk]
  simp

theorem getLsbD_faultNMask {k : Nat} (hk : k < 256) : faultNMask.getLsbD k = stickyFaultN k := getLsbD_bitMask _ hk

theorem getLsbD_visibleMask {k : Nat} (hk : k < 256) : visibleMask.getLsbD k = stickyVisible k := getLsbD_bitMask _ hk

/-! ### FAULT_N (R808) -/

/-- The level of FAULT_N that a set of sticky bits calls for is asserted exactly while one of its column is set. -/
theorem faultMask_ne_zero_iff (x : BitVec 256) :
    (x &&& faultNMask != 0) = true ↔ ∃ k, k < 256 ∧ stickyFaultN k = true ∧ x.getLsbD k = true := by
  have hzero : x &&& faultNMask = 0 ↔ ∀ k, k < 256 → stickyFaultN k = true → x.getLsbD k = false := by
    constructor
    · intro h k hk hcol
      have hbit := congrArg (fun y => BitVec.getLsbD y k) h
      simpa [getLsbD_faultNMask hk, hcol] using hbit
    · intro h
      refine BitVec.eq_of_getLsbD_eq fun k hk => ?_
      rw [BitVec.getLsbD_and, getLsbD_faultNMask hk]
      cases hcol : stickyFaultN k
      · simp
      · simp [h k hk hcol]
  rw [bne_iff_ne, ne_eq, hzero]
  simp only [not_forall, Bool.not_eq_false, exists_prop]

theorem State.faultN_setStickyIn_iff {s : State} {b n : Nat} (h : s.stickyBit n = false) :
    (s.setStickyIn b n).power.faultN = true ↔ ∃ k, k < 256 ∧ stickyFaultN k = true ∧ (s.setStickyIn b n).stickyBit k = true := by
  rw [State.setStickyIn_power]
  simp only [h, Bool.false_eq_true, if_false]
  rw [faultMask_ne_zero_iff]
  simp only [State.stickyBit, State.setStickyIn_sticky]

theorem State.faultN_clearSticky_iff (s : State) (mask : BitVec 256) :
    (s.clearSticky mask).power.faultN = true ↔ ∃ k, k < 256 ∧ stickyFaultN k = true ∧ (s.clearSticky mask).stickyBit k = true :=
  faultMask_ne_zero_iff _

/-! ### Vectors (R807) -/

/-- Vector 0 of a function after a vector 0 is sent: it becomes pending where it is that one and masked. -/
theorem State.vec_sendVector (s : State) (g f : Nat) :
    (s.sendVector g 0).vec f 0 = if f = g ∧ (s.vec f 0).masked = true then { s.vec f 0 with pending := true } else s.vec f 0 := by
  have hother : ∀ x : Vec, f ≠ g → (s.setVec g 0 x).vec f 0 = s.vec f 0 := fun x hne => mget_mput_other _ _ _ (by omega)
  cases hm : (s.vec g 0).masked
  · rw [State.sendVector_unmasked s hm, if_neg fun h => absurd (h.1 ▸ h.2) (by simp [hm])]
    rfl
  · rw [State.sendVector_masked s hm]
    by_cases hf : f = g
    · subst hf
      simp [hm]
    · simp [hf, hother]

theorem State.masked_sendVector (s : State) (g f : Nat) : ((s.sendVector g 0).vec f 0).masked = (s.vec f 0).masked := by
  rw [State.vec_sendVector]
  split <;> rfl

/-- Vector 0 of function `f` has been signalled from `s` to `t`: it is pending where it is masked, and sent where it is not. -/
def State.Signalled (s t : State) (f : Nat) : Prop :=
  ((s.vec f 0).masked = true → (t.vec f 0).pending = true) ∧ ((s.vec f 0).masked = false → Output.msix f 0 ∈ t.out)

theorem State.signalled_sendVector (s : State) (f : Nat) : s.Signalled (s.sendVector f 0) f := by
  constructor
  · intro hm
    simp [State.vec_sendVector, hm]
  · intro hm
    simp [State.sendVector_unmasked s hm, State.emit]

theorem State.Signalled.sendVector {s t : State} {f : Nat} (h : s.Signalled t f) (g : Nat) : s.Signalled (t.sendVector g 0) f := by
  refine ⟨fun hm => ?_, fun hm => (t.sendVector_out g 0).subset (h.2 hm)⟩
  rw [State.vec_sendVector]
  split
  · rfl
  · exact h.1 hm

/-- Vectors that are sent in a row leave the vector of each of their functions signalled. -/
theorem State.signalled_foldl {f : Nat} {l : List Nat} (s t : State) (hm : (t.vec f 0).masked = (s.vec f 0).masked)
    (h : s.Signalled t f ∨ f ∈ l) : s.Signalled (l.foldl (fun u g => u.sendVector g 0) t) f := by
  induction l generalizing t with
  | nil => exact h.resolve_right List.not_mem_nil
  | cons g l ih =>
    refine ih (t.sendVector g 0) ((t.masked_sendVector g f).trans hm) ?_
    rcases h with h | h
    · exact .inl (h.sendVector g)
    · rcases List.mem_cons.1 h with rfl | h
      · left
        have hself := t.signalled_sendVector f
        rwa [State.Signalled, hm] at hself
      · exact .inr h

theorem State.signalled_signalSticky (s : State) {n f : Nat} (hf : f ≤ 8) (h : f = 0 ∨ stickyVisible n = true) :
    s.Signalled (s.signalSticky n) f := by
  have hall : stickyVisible n = true → f ∈ [0, 1, 2, 3, 4, 5, 6, 7, 8] := fun _ => by simp; omega
  cases hv : stickyVisible n
  · obtain rfl : f = 0 := h.resolve_right (by simp [hv])
    simpa [State.signalSticky, hv] using s.signalled_sendVector 0
  · have hfold := State.signalled_foldl s s rfl (.inr (hall hv))
    simpa [State.signalSticky, hv] using hfold

theorem State.signalled_setSticky (s : State) {n f : Nat} (hclear : s.stickyBit n = false) (hf : f ≤ 8) (h : f = 0 ∨ stickyVisible n = true) :
    s.Signalled (s.setSticky n) f := by
  have hsig := State.signalled_signalSticky ({ s with sticky := s.sticky ||| (1#256 <<< n) } : State).refreshFaultN hf h
  simpa only [State.Signalled, State.vec, State.setSticky, State.setStickyIn, hclear, Bool.false_eq_true, if_false, if_true, State.fire_host,
    State.trace_host, State.fire_out, State.trace_out, State.refreshFaultN_host] using hsig

/-! ### STICKY_CLEAR and STICKY_READ (R603, R805) -/

theorem getLsbD_ofNat_bitOf (mask : Nat) {n : Nat} (hn : n < 256) : (BitVec.ofNat 256 mask).getLsbD n = bitOf mask n := by
  rw [BitVec.getLsbD_ofNat, bitOf_eq_testBit]
  simp [hn]

theorem exec_stickyClear {c : CmdIn} {mask : Nat} {s : State} {cmd : Cmd} (h : Ready 0x0805 (.stickyClear c mask) c s cmd) :
    Succeeds (.stickyClear c mask) c s (s.clearSticky (BitVec.ofNat 256 mask)) :=
  congrArg Host.Outcome.next (runNow_completes h (by simp) (dataHere_of_ready h) rfl (.inl rfl) (if_pos rfl))

/-- What STICKY_READ returns to a function. -/
def State.stickySeen (s : State) (fn : Nat) : BitVec 256 := if 1 ≤ fn ∧ fn ≤ 8 then s.sticky &&& visibleMask else s.sticky

theorem State.getLsbD_stickySeen (s : State) (fn : Nat) {n : Nat} (hn : n < 256) :
    (s.stickySeen fn).getLsbD n = (s.stickyBit n && (stickyVisible n || !(decide (1 ≤ fn) && decide (fn ≤ 8)))) := by
  unfold State.stickySeen
  split
  · next hvf => simp [State.stickyBit, getLsbD_visibleMask hn, hvf]
  · next hpf =>
    have : (decide (1 ≤ fn) && decide (fn ≤ 8)) = false := by simpa using hpf
    simp [State.stickyBit, this]

theorem bitOf_leAt_leBytes (x : BitVec 256) (n : Nat) : bitOf (leAt (leBytes 32 x.toNat) 0 32) n = x.getLsbD n := by
  have hlt : x.toNat < 256 ^ 32 := x.isLt
  have hread := leAt_leBytes_append hlt []
  rw [List.append_nil] at hread
  rw [hread, bitOf_eq_testBit, BitVec.testBit_toNat]

theorem exec_stickyRead {c : CmdIn} {s : State} {cmd : Cmd} (h : Ready 0x0804 (.stickyRead c) c s cmd) (hroom : Room c 32) :
    Replies (.stickyRead c) c s s (leBytes 32 (s.stickySeen cmd.fn).toNat) := by
  refine congrArg Host.Outcome.next (runRead_replies h (by rwa [length_leBytes]) ?_)
  unfold State.stickySeen
  split <;> rfl

/-- Settles O48: the bits by what a mask holds, the vectors by the fold that signals them, the commands by what their bodies answer. -/
theorem stickyBits : Obligations.StickyBits := by
  refine ⟨fun s n m _ hm => ⟨?bit, fun hset => s.setSticky_of_set hset, fun hclear => ⟨?pin, fun f hf hvis => ?vectors⟩⟩,
    fun c mask s cmd h => ⟨_, exec_stickyClear h, fun n hn => ?cleared, s.faultN_clearSticky_iff _, rfl⟩,
    fun c s cmd h hroom => ⟨_, exec_stickyRead h hroom, length_leBytes .., fun n hn => ?seen⟩⟩
  case bit => rw [State.stickyBit_setSticky s hm]; rfl
  case pin =>
    rw [State.setSticky, State.faultN_setStickyIn_iff hclear]
    refine exists_congr fun k => and_congr_right fun hk => and_congr_right fun _ => ?_
    rw [State.stickyBit_setStickyIn s 0 hk]
    simp
  case vectors => exact s.signalled_setSticky hclear hf hvis
  case cleared => rw [State.stickyBit_clearSticky, getLsbD_ofNat_bitOf mask hn]
  case seen => rw [bitOf_leAt_leBytes, State.getLsbD_stickySeen s cmd.fn hn]

end Sys2Proof.Machine
end

section
/-!
Proofs for the 1 ms intervals (chapters 03, 14): what the end of an interval makes of one lane, what the other lanes' turns leave of it, and
the interval as the lanes' turns one after another.
-/
open Sys2Proof Sys2Proof.Machine Sys2Proof.Claims

namespace Sys2Proof.Machine

/-! ### What the turn of another lane leaves of a lane -/

/-- From `s` to `t` lane `n` and its retunes, the settings and the time base stay, and no sticky bit is cleared. -/
structure KeepsLane (n : Nat) (s t : State) : Prop where
  lane : t.lane n = s.lane n
  retunes : t.ctr (Ctr.laneRetune n) = s.ctr (Ctr.laneRetune n)
  settings : t.settings = s.settings
  time : t.time = s.time
  sticky : ∀ b, b < 256 → s.stickyBit b = true → t.stickyBit b = true

theorem KeepsLane.refl (n : Nat) (s : State) : KeepsLane n s s := ⟨rfl, rfl, rfl, rfl, fun _ _ h => h⟩

theorem KeepsLane.trans {n : Nat} {s t u : State} (h : KeepsLane n s t) (h' : KeepsLane n t u) : KeepsLane n s u where
  lane := h'.lane.trans h.lane
  retunes := h'.retunes.trans h.retunes
  settings := h'.settings.trans h.settings
  time := h'.time.trans h.time
  sticky b hb hs := h'.sticky b hb (h.sticky b hb hs)

theorem KeepsLane.setSticky {n : Nat} (hn : n < 48) (s : State) (b : Nat) : KeepsLane n s (s.setSticky b) where
  lane := State.lane_of_hall (s.setSticky_hall b) n
  retunes := s.ctr_lane_setSticky b hn (by omega)
  settings := s.setSticky_settings b
  time := s.setSticky_time b
  sticky k hk hs := by rw [State.stickyBit_setSticky s hk, hs]; rfl

theorem KeepsLane.setLane {n j : Nat} (hne : n ≠ j) (s : State) (x : Lane) : KeepsLane n s (s.setLane j x) :=
  ⟨State.lane_setLane_other s x hne, rfl, rfl, rfl, fun _ _ h => h⟩

theorem KeepsLane.bump {n id : Nat} (hne : Ctr.laneRetune n ≠ id) (s : State) : KeepsLane n s (s.bump id) :=
  ⟨rfl, s.ctr_bump_other hne, rfl, rfl, fun _ _ h => h⟩

theorem KeepsLane.noteMargin (n : Nat) (s : State) (j m : Nat) : KeepsLane n s (s.noteMargin j m) :=
  ⟨rfl, rfl, rfl, rfl, fun _ _ h => h⟩

theorem Ctr.laneRetune_injective {n j : Nat} (h : n ≠ j) : Ctr.laneRetune n ≠ Ctr.laneRetune j := by
  simp only [Ctr.laneRetune, Ctr.ident]; omega

theorem Ctr.laneRetune_ne_crosscheck {n : Nat} (hn : n < 48) : Ctr.laneRetune n ≠ Ctr.hallCrosscheckFail := by
  simp only [Ctr.laneRetune, Ctr.hallCrosscheckFail, Ctr.ident]; omega

section
variable {margins : List (Nat × Nat × Nat)}

theorem KeepsLane.laneInterval {n j : Nat} (hn : n < 48) (hne : n ≠ j) (s : State) : KeepsLane n s (s.laneInterval j margins) := by
  have hretuned (u : State) (x : Lane) : KeepsLane n u ((u.setLane j x).bump (Ctr.laneRetune j)) :=
    .trans (.setLane hne _ _) (.bump (Ctr.laneRetune_injective hne) _)
  unfold State.laneInterval
  dsimp only
  split
  · exact .setLane hne s _
  · split
    · split
      · exact .trans (.trans (.trans (.setLane hne _ _) (.noteMargin ..)) (hretuned _ _)) (.setSticky hn _ _)
      · exact .trans (.trans (.setLane hne _ _) (.noteMargin ..)) (hretuned _ _)
    · exact .trans (.setLane hne _ _) (.noteMargin ..)

theorem KeepsLane.crossInterval {n j : Nat} (hn : n < 48) (hne : n ≠ j) (s : State) : KeepsLane n s (s.crossInterval j) := by
  unfold State.crossInterval
  dsimp only
  split
  · exact .refl n s
  · split
    · exact .setLane hne _ _
    · split
      · exact .setLane hne _ _
      · exact .trans (.trans (.setLane hne _ _) (.setSticky hn _ _)) (.bump (Ctr.laneRetune_ne_crosscheck hn) _)

/-! ### The turn of a lane (R113 to R116, R536) -/

/-- R114: the corrected codewords of the interval exceed the lane's threshold. -/
def State.retunes (s : State) (n : Nat) : Prop := s.setting 0x2006 n 0 * 78125 < (s.lane n).corrected * 2000000

/-- The margins of a lane before and after a retune. -/
def State.marginsOf (s : State) (margins : List (Nat × Nat × Nat)) (n : Nat) : Nat × Nat :=
  (mfind margins n).getD ((s.lane n).margin, (s.lane n).margin)

theorem retuneDue_iff (s : State) (n : Nat) : retuneDue (s.lane n).corrected (s.setting 0x2006 n 0) = true ↔ s.retunes n :=
  decide_eq_true_iff

/-- R113 to R116: what the end of the interval makes of the lane itself. -/
structure IntervalOf (margins : List (Nat × Nat × Nat)) (n : Nat) (s t : State) : Prop where
  corrected : (t.lane n).corrected = 0
  transit : (t.lane n).leastTransit = (s.lane n).leastTransit ∧ (t.lane n).badTransit = (s.lane n).badTransit
  bound : t.time = s.time
  kept : (s.lane n).up = true → ¬ s.retunes n →
    (t.lane n).margin = (s.marginsOf margins n).1 ∧ t.ctr (Ctr.laneRetune n) = s.ctr (Ctr.laneRetune n)
  retuned : (s.lane n).up = true → s.retunes n →
    (t.lane n).margin = (s.marginsOf margins n).2 ∧ t.ctr (Ctr.laneRetune n) = rose (s.ctr (Ctr.laneRetune n)) 1 ∧
      ((s.marginsOf margins n).2 < s.setting 0x2007 n 0 → t.stickyBit (48 + n) = true)

theorem State.laneInterval_down {s : State} {n : Nat} (h : (s.lane n).up = false) :
    s.laneInterval n margins = s.setLane n { s.lane n with corrected := 0 } := by
  simp [State.laneInterval, h]

/-- A lane that is up once its margin has been taken. -/
def State.marginTaken (s : State) (margins : List (Nat × Nat × Nat)) (n : Nat) : State :=
  (s.setLane n { s.lane n with corrected := 0, margin := (s.marginsOf margins n).1 }).noteMargin n (s.marginsOf margins n).1

theorem State.laneInterval_kept {s : State} {n : Nat} (h : (s.lane n).up = true) (hr : ¬ s.retunes n) :
    s.laneInterval n margins = s.marginTaken margins n := by
  have hdue : ¬ retuneDue (s.lane n).corrected (s.setting 0x2006 n 0) = true := fun hd => hr ((retuneDue_iff s n).1 hd)
  exact (if_neg (by simp [h])).trans (if_neg hdue)

/-- A lane once it has been retuned. -/
def State.retuned (s : State) (margins : List (Nat × Nat × Nat)) (n : Nat) : State :=
  ((s.marginTaken margins n).setLane n { (s.marginTaken margins n).lane n with margin := (s.marginsOf margins n).2 }).bump (Ctr.laneRetune n)

theorem State.laneInterval_retuned {s : State} {n : Nat} (h : (s.lane n).up = true) (hr : s.retunes n) :
    s.laneInterval n margins =
      if (s.marginsOf margins n).2 < s.setting 0x2007 n 0 then (s.retuned margins n).setSticky (48 + n) else s.retuned margins n := by
  have hdue : retuneDue (s.lane n).corrected (s.setting 0x2006 n 0) = true := (retuneDue_iff s n).2 hr
  exact (if_neg (by simp [h])).trans (if_pos hdue)

theorem State.lane_marginTaken (s : State) (n : Nat) :
    (s.marginTaken margins n).lane n = { s.lane n with corrected := 0, margin := (s.marginsOf margins n).1 } := State.lane_setLane ..

theorem State.lane_retuned (s : State) (n : Nat) :
    (s.retuned margins n).lane n = { s.lane n with corrected := 0, margin := (s.marginsOf margins n).2 } := by
  have h : (s.retuned margins n).lane n = { (s.marginTaken margins n).lane n with margin := (s.marginsOf margins n).2 } := State.lane_setLane ..
  rw [h, State.lane_marginTaken]

theorem IntervalOf.laneInterval {n : Nat} (hn : n < 48) (s : State) : IntervalOf margins n s (s.laneInterval n margins) := by
  cases hup : (s.lane n).up
  · rw [State.laneInterval_down hup]
    exact ⟨by simp, by simp, rfl, fun h => by simp [hup] at h, fun h => by simp [hup] at h⟩
  · by_cases hr : s.retunes n
    · have hctr : (s.retuned margins n).ctr (Ctr.laneRetune n) = rose (s.ctr (Ctr.laneRetune n)) 1 := State.ctr_bump ..
      rw [State.laneInterval_retuned hup hr]
      split
      · have hkeep := KeepsLane.setSticky hn (s.retuned margins n) (48 + n)
        have hlane := hkeep.lane.trans (s.lane_retuned n)
        exact ⟨by rw [hlane], by rw [hlane]; exact ⟨rfl, rfl⟩, hkeep.time, fun _ h => absurd hr h,
          fun _ _ => ⟨by rw [hlane], hkeep.retunes.trans hctr, fun _ => State.stickyBit_setSticky_self _ (by omega)⟩⟩
      · next hmin =>
        exact ⟨by rw [State.lane_retuned], by rw [State.lane_retuned]; exact ⟨rfl, rfl⟩, rfl, fun _ h => absurd hr h,
          fun _ _ => ⟨by rw [State.lane_retuned], hctr, fun h => absurd h hmin⟩⟩
    · rw [State.laneInterval_kept hup hr]
      exact ⟨by rw [State.lane_marginTaken], by rw [State.lane_marginTaken]; exact ⟨rfl, rfl⟩, rfl, fun _ _ => ⟨by rw [State.lane_marginTaken], rfl⟩,
        fun _ h => absurd h hr⟩

/-- R536: what the end of the interval makes of a lane's cross-check. -/
structure CrossOf (n : Nat) (s t : State) : Prop where
  corrected : (t.lane n).corrected = (s.lane n).corrected
  margin : (t.lane n).margin = (s.lane n).margin
  cleared : (t.lane n).leastTransit = none
  retunes : t.ctr (Ctr.laneRetune n) = s.ctr (Ctr.laneRetune n)
  sticky : ∀ b, b < 256 → s.stickyBit b = true → t.stickyBit b = true
  good : ∀ d, (s.lane n).leastTransit = some d → ¬ (d < 0 ∨ (s.time.crosscheckBound : Int) < d) → (t.lane n).badTransit = 0
  bad : ∀ d, (s.lane n).leastTransit = some d → d < 0 ∨ (s.time.crosscheckBound : Int) < d →
    ((s.lane n).badTransit < 15 → (t.lane n).badTransit = (s.lane n).badTransit + 1) ∧
    (15 ≤ (s.lane n).badTransit → (t.lane n).badTransit = 0 ∧ t.stickyBit 107 = true)

theorem transitBad_iff (bound : Nat) (d : Int) : transitBad bound d = true ↔ d < 0 ∨ (bound : Int) < d := decide_eq_true_iff

theorem CrossOf.crossInterval {n : Nat} (hn : n < 48) (s : State) : CrossOf n s (s.crossInterval n) := by
  unfold State.crossInterval
  dsimp only
  split
  · next h => exact ⟨rfl, rfl, h, rfl, fun _ _ h => h, fun d hd => by simp [h] at hd, fun d hd => by simp [h] at hd⟩
  · next d h =>
    have hd {e : Int} (he : (s.lane n).leastTransit = some e) : e = d := Option.some.inj (he.symm.trans h)
    split
    · next hgood =>
      have hgood : ¬ (d < 0 ∨ (s.time.crosscheckBound : Int) < d) := by
        rw [← transitBad_iff]; simpa using hgood
      exact ⟨by simp, by simp, by simp, rfl, fun _ _ h => h, fun _ _ _ => by simp, fun e he hb => absurd (hd he ▸ hb) hgood⟩
    · next hbad =>
      have hbad : d < 0 ∨ (s.time.crosscheckBound : Int) < d := by
        rw [← transitBad_iff]; simpa using hbad
      split
      · next hfew =>
        exact ⟨by simp, by simp, by simp, rfl, fun _ _ h => h, fun e he hg => absurd (hd he ▸ hbad) hg,
          fun e he _ => ⟨fun _ => by simp, fun h15 => by omega⟩⟩
      · next hmany =>
        have hkeep : KeepsLane n (s.setLane n { s.lane n with leastTransit := none, badTransit := 0 })
            (((s.setLane n { s.lane n with leastTransit := none, badTransit := 0 }).setSticky 107).bump Ctr.hallCrosscheckFail) :=
          .trans (.setSticky hn _ _) (.bump (Ctr.laneRetune_ne_crosscheck hn) _)
        have hlane := hkeep.lane.trans (State.lane_setLane s n _)
        exact ⟨by rw [hlane], by rw [hlane], by rw [hlane], hkeep.retunes, hkeep.sticky, fun e he hg => absurd (hd he ▸ hbad) hg,
          fun e he _ => ⟨fun h15 => by omega, fun _ => ⟨by rw [hlane], State.stickyBit_setSticky_self _ (by omega)⟩⟩⟩

/-- The end of an interval for one lane. -/
def State.laneTurn (s : State) (margins : List (Nat × Nat × Nat)) (n : Nat) : State := (s.laneInterval n margins).crossInterval n

theorem KeepsLane.laneTurn {n j : Nat} (hn : n < 48) (hne : n ≠ j) (s : State) : KeepsLane n s (s.laneTurn margins j) :=
  .trans (.laneInterval hn hne s) (.crossInterval hn hne _)

/-! ### The lanes' turns one after another -/

theorem KeepsLane.foldl_laneTurn {n : Nat} (hn : n < 48) {l : List Nat} (h : n ∉ l) (s : State) :
    KeepsLane n s (l.foldl (fun u j => u.laneTurn margins j) s) := by
  induction l generalizing s with
  | nil => exact .refl n s
  | cons j l ih =>
    obtain ⟨hne, hl⟩ := not_or.1 (mt List.mem_cons.2 h)
    exact .trans (.laneTurn hn hne s) (ih hl _)

/-- Where a lane has one turn among others, it finds the lane as it was before them, and they leave what it makes of it. -/
theorem laneTurn_of_foldl {n : Nat} (hn : n < 48) {l : List Nat} (hl : l.Nodup) (h : n ∈ l) (s : State) :
    ∃ u, KeepsLane n s u ∧ KeepsLane n (u.laneTurn margins n) (l.foldl (fun u j => u.laneTurn margins j) s) := by
  induction l generalizing s with
  | nil => exact absurd h List.not_mem_nil
  | cons j l ih =>
    obtain ⟨hj, hl⟩ := List.nodup_cons.1 hl
    rcases List.mem_cons.1 h with rfl | h
    · exact ⟨s, .refl n s, .foldl_laneTurn hn hj _⟩
    · obtain ⟨u, hu, ht⟩ := ih hl h (s.laneTurn margins j)
      exact ⟨u, KeepsLane.trans (.laneTurn hn (fun he : n = j => hj (he ▸ h)) s) hu, ht⟩

/-! ### INTERVAL_1MS -/

theorem insertOcc_perm (o : Occ) (q : List Occ) : (insertOcc o q).Perm (o :: q) := by
  induction q with
  | nil => exact .refl _
  | cons p q ih =>
    unfold insertOcc
    split
    · exact (ih.cons p).trans (.swap o p q)
    · exact .refl _

/-- The block has started its occurrence and the next one waits. -/
def State.intervalQueued (s : State) (b : Nat) (o : Occ) : State := (s.startOcc b o).enqueue b { o with instant := o.instant + ms }

theorem State.startOcc_inTime {s : State} {o : Occ} (h : lateAt s.nt o.instant = false) (b : Nat) :
    s.startOcc b o = s.setQueue b (s.queueOf b).tail := if_neg (by simpa [State.setQueue, State.nt] using h)

theorem State.intervalQueued_eq {s : State} {b : Nat} {o : Occ} (hlate : lateAt s.nt o.instant = false) (hlen : (s.queueOf b).length ≤ 1024) :
    s.intervalQueued b o =
      (s.setQueue b (s.queueOf b).tail).setQueue b (insertOcc { o with instant := o.instant + ms } (s.queueOf b).tail) := by
  unfold State.intervalQueued
  rw [State.startOcc_inTime hlate]
  have hroom : ((s.setQueue b (s.queueOf b).tail).queueOf b).length < 1024 := by
    rw [State.queueOf_setQueue, List.length_tail]; omega
  rw [State.enqueue]
  dsimp only
  rw [if_pos hroom, State.queueOf_setQueue]

/-- The margins of the Banister lanes. -/
def State.banisterMargins (s : State) (margins : List (Nat × Nat × Nat)) : State :=
  (margins.filter (fun e => decide (48 ≤ e.1 ∧ e.1 < 56))).foldl (fun (s : State) e => s.noteMargin e.1 e.2.1) s

theorem State.banisterMargins_frame (s : State) (margins : List (Nat × Nat × Nat)) :
    s.banisterMargins margins = { s with health := (s.banisterMargins margins).health } := by
  unfold State.banisterMargins
  generalize margins.filter _ = l
  induction l generalizing s with
  | nil => rfl
  | cons e l ih => rw [List.foldl_cons, ih]; rfl

theorem KeepsLane.banisterMargins (n : Nat) (s : State) : KeepsLane n s (s.banisterMargins margins) := by
  rw [State.banisterMargins_frame]
  exact ⟨rfl, rfl, rfl, rfl, fun _ _ h => h⟩

theorem exec_interval1ms {b : Nat} {s : State} {o : Occ} (h : s.dueIs b evInterval 0 = some o) :
    Gives (.interval1ms b margins) s
      (if b = blkLanes then
        ((List.range (s.intervalQueued b o).lanesN).foldl (fun u j => u.laneTurn margins j) (s.intervalQueued b o)).banisterMargins margins
      else s.intervalQueued b o) := by
  change execInterval1ms b margins s = _
  unfold execInterval1ms
  simp only [h]
  rfl

theorem State.lanesN_le (s : State) : s.lanesN ≤ 48 := by
  unfold State.lanesN
  split <;> decide

theorem State.queueOf_of_time {s t : State} (h : t.time = s.time) (b : Nat) : t.queueOf b = s.queueOf b := by rw [State.queueOf, h]; rfl

theorem State.time_laneTurn (s : State) (n : Nat) : (s.laneTurn margins n).time = s.time := by
  by_cases h : n = 0
  · exact (KeepsLane.laneTurn (n := 1) (by omega) (by omega) s).time
  · exact (KeepsLane.laneTurn (n := 0) (by omega) (by omega) s).time

/-- What a lane has become at the end of an interval, as the manual says it of the state before. -/
def LaneAfter (margins : List (Nat × Nat × Nat)) (n : Nat) (s t : State) : Prop :=
  (t.lane n).corrected = 0 ∧ (t.lane n).leastTransit = none ∧
  ((s.lane n).up = true → ¬ s.retunes n →
    (t.lane n).margin = (s.marginsOf margins n).1 ∧ t.ctr (Ctr.laneRetune n) = s.ctr (Ctr.laneRetune n)) ∧
  ((s.lane n).up = true → s.retunes n →
    (t.lane n).margin = (s.marginsOf margins n).2 ∧ t.ctr (Ctr.laneRetune n) = rose (s.ctr (Ctr.laneRetune n)) 1 ∧
      ((s.marginsOf margins n).2 < s.setting 0x2007 n 0 → t.stickyBit (48 + n) = true)) ∧
  ∀ d, (s.lane n).leastTransit = some d →
    (¬ (d < 0 ∨ (s.time.crosscheckBound : Int) < d) → (t.lane n).badTransit = 0) ∧
    (d < 0 ∨ (s.time.crosscheckBound : Int) < d → (s.lane n).badTransit < 15 → (t.lane n).badTransit = (s.lane n).badTransit + 1) ∧
    (d < 0 ∨ (s.time.crosscheckBound : Int) < d → 15 ≤ (s.lane n).badTransit → (t.lane n).badTransit = 0 ∧ t.stickyBit 107 = true)

theorem laneAfter_laneTurn {n : Nat} (hn : n < 48) (s : State) : LaneAfter margins n s (s.laneTurn margins n) := by
  have hi := IntervalOf.laneInterval (margins := margins) hn s
  have hc := CrossOf.crossInterval hn (s.laneInterval n margins)
  obtain ⟨htransit, hrun⟩ := hi.transit
  refine ⟨hc.corrected.trans hi.corrected, hc.cleared, fun hup hr => ?_, fun hup hr => ?_, fun d hd => ?_⟩
  · exact ⟨hc.margin.trans (hi.kept hup hr).1, hc.retunes.trans (hi.kept hup hr).2⟩
  · obtain ⟨hm, hctr, hdegraded⟩ := hi.retuned hup hr
    exact ⟨hc.margin.trans hm, hc.retunes.trans hctr, fun h => hc.sticky _ (by omega) (hdegraded h)⟩
  · have hgood := hc.good d (htransit.trans hd)
    have hbad := hc.bad d (htransit.trans hd)
    rw [hi.bound, hrun] at hbad
    rw [hi.bound] at hgood
    exact ⟨hgood, fun hb => (hbad hb).1, fun hb => (hbad hb).2⟩

theorem LaneAfter.of_keeps {n : Nat} (hn : n < 48) {s u v t : State} (hl : u.lane n = s.lane n)
    (hr : u.ctr (Ctr.laneRetune n) = s.ctr (Ctr.laneRetune n)) (hs : u.settings = s.settings)
    (hb : u.time.crosscheckBound = s.time.crosscheckBound) (h : LaneAfter margins n u v) (hv : KeepsLane n v t) : LaneAfter margins n s t := by
  have hset (id : Nat) : u.setting id n 0 = s.setting id n 0 := by rw [State.setting, hs]; rfl
  simp only [LaneAfter, State.retunes, State.marginsOf, hset, hl, hr, hb, ← hv.lane, ← hv.retunes] at h ⊢
  obtain ⟨h1, h2, h3, h4, h5⟩ := h
  exact ⟨h1, h2, h3, fun hup hd => ⟨(h4 hup hd).1, (h4 hup hd).2.1, fun hm => hv.sticky _ (by omega) ((h4 hup hd).2.2 hm)⟩,
    fun d hd => ⟨(h5 d hd).1, (h5 d hd).2.1, fun hbad hmany => ⟨((h5 d hd).2.2 hbad hmany).1, hv.sticky _ (by omega) ((h5 d hd).2.2 hbad hmany).2⟩⟩⟩

end

/-- Settles O50: each lane by its own turn, which the others' turns leave alone. -/
theorem intervalsEnd : Obligations.IntervalsEnd := by
  intro s b margins o hdue hlate hlen
  refine ⟨_, exec_interval1ms hdue, ?queue, fun hb => ?others, fun hb n hn => ?lanes⟩
  all_goals rw [State.intervalQueued_eq hlate hlen]
  case queue =>
    have hq : ((s.setQueue b (s.queueOf b).tail).setQueue b (insertOcc { o with instant := o.instant + ms } (s.queueOf b).tail)).queueOf b =
        insertOcc { o with instant := o.instant + ms } (s.queueOf b).tail := State.queueOf_setQueue ..
    split
    · rw [State.queueOf_of_time ((KeepsLane.banisterMargins 0 _).time.trans
        (foldl_keeps State.time _ (fun u j => u.time_laneTurn j) _ _)), hq]
      exact insertOcc_perm _ _
    · rw [hq]
      exact insertOcc_perm _ _
  case others => rw [if_neg hb]; rfl
  case lanes =>
    rw [if_pos hb]
    have h48 : n < 48 := Nat.lt_of_lt_of_le hn s.lanesN_le
    obtain ⟨u, hu, ht⟩ := laneTurn_of_foldl (margins := margins) h48 List.nodup_range (List.mem_range.2 hn)
      ((s.setQueue b (s.queueOf b).tail).setQueue b (insertOcc { o with instant := o.instant + ms } (s.queueOf b).tail))
    exact LaneAfter.of_keeps h48 hu.lane hu.retunes hu.settings ((congrArg TimeBase.crosscheckBound hu.time).trans rfl) (laneAfter_laneTurn h48 u)
      (ht.trans (.banisterMargins n _))

end Sys2Proof.Machine
end

section
/-!
Proofs for the commit (chapters 02, 07): what counts, records, mirrors and digests leave of the Wings, the Larder block and the hit that a
commit writes, and the commit as these steps one after another.
-/
open Sys2Proof Sys2Proof.Machine Sys2Proof.Claims

namespace Sys2Proof.Machine

/-! ### What leaves the Wings and the partitions -/

/-- What the flow table, the Larder and the partitions are. -/
def State.storage (s : State) : Wing × Wing × Tab Partition := (s.wing0, s.wing1, s.parts)

theorem State.wing_of_storage {s t : State} (h : t.storage = s.storage) (v : Nat) : t.wing v = s.wing v := by
  simp only [State.storage, Prod.mk.injEq] at h
  exact State.wing_of_wings h.1 h.2.1 v

theorem State.partOf_of_storage {s t : State} (h : t.storage = s.storage) (p : Nat) : t.partOf p = s.partOf p :=
  State.partOf_of_parts (congrArg (·.2.2) h) p

@[simp] theorem State.storage_bumpN (s : State) (id n : Nat) : (s.bumpN id n).storage = s.storage := rfl

@[simp] theorem State.storage_bump (s : State) (id : Nat) : (s.bump id).storage = s.storage := rfl

@[simp] theorem State.storage_exportItem (s : State) (b : Nat) (i : ExpItem) : (s.exportItem b i).storage = s.storage :=
  State.exportItem_keeps State.storage (fun _ _ _ => rfl) (fun _ _ _ => rfl) (fun _ _ _ _ _ _ => rfl) s b i

@[simp] theorem State.storage_record (s : State) (p q prio type : Nat) (body : Bytes) : (s.record p q prio type body).storage = s.storage :=
  State.record_keeps State.storage (fun s b i => s.storage_exportItem b i) (fun _ _ => rfl) (fun _ _ _ _ => rfl) s p q prio type body

@[simp] theorem State.storage_fire (s : State) (bit : Nat) (bs : List Nat) : (s.fire bit bs).storage = s.storage := by simp [State.storage]

@[simp] theorem State.storage_modResync (s : State) (p w : Nat) (f : Resync → Resync) : (s.modResync p w f).storage = s.storage := by
  unfold State.modResync; split <;> rfl

section
variable {α : Type} (g : State → α) (hresync : ∀ s p w f, g (State.modResync s p w f) = g s)
include hresync

theorem State.saveImage_keeps (s : State) (p w stamp : Nat) (u : PairUnit) : g (s.saveImage p w stamp u) = g s := by
  unfold State.saveImage
  split
  · rfl
  · split
    · exact hresync ..
    · rfl

theorem State.mergeMaxima_keeps (hhall : ∀ s h, g { s with hall := h } = g s) (s : State) (w : Nat) (x : Stair) (len : Nat) :
    g (s.mergeMaxima w x len) = g s := by
  unfold State.mergeMaxima
  exact (hhall ..).trans ((hresync ..).trans (State.saveImage_keeps g hresync ..))

end

@[simp] theorem State.storage_firstTouch (s : State) (w p stamp unit : Nat) : (s.firstTouch w p stamp unit).storage = s.storage :=
  State.saveImage_keeps State.storage State.storage_modResync ..

@[simp] theorem State.storage_amendImage (s : State) (p w stamp unit : Nat) (f : PairUnit → PairUnit) :
    (s.amendImage p w stamp unit f).storage = s.storage := State.storage_modResync ..

@[simp] theorem State.storage_addCount (s : State) (p key n : Nat) : (s.addCount p key n).storage = s.storage := by
  unfold State.addCount; dsimp only; split <;> rfl

@[simp] theorem State.storage_foldl_addCount (s : State) (p : Nat) (l : Tab Nat) :
    (l.foldl (fun (s : State) e => s.addCount p e.1 e.2) s).storage = s.storage :=
  foldl_keeps State.storage _ (fun s e => s.storage_addCount p e.1 e.2) l s

theorem keeps_ite {α : Type} (g : State → α) {c : Prop} [Decidable c] {s t : State} (h : g t = g s) : g (if c then t else s) = g s := by
  split
  · exact h
  · rfl

theorem State.countCommit_keeps {α : Type} (g : State → α) (hctr : ∀ s id, g (State.bump s id) = g s) (s : State) (w : Nat) (x : Stair)
    (lookup : Nat) : g (s.countCommit w x lookup) = g s := by
  have hsource (t : State) (i : Nat) : g (match x.source with
      | 1 => t.bump (Ctr.pwForwarded i)
      | 2 => t.bump (Ctr.pwCacheHit i)
      | 3 => t.bump (Ctr.pwCacheMiss i)
      | _ => t) = g t := by split <;> simp only [hctr]
  unfold State.countCommit
  exact (hctr ..).trans ((keeps_ite g (hctr ..)).trans ((keeps_ite g (hctr ..)).trans
    ((hsource ..).trans ((hctr ..).trans ((hctr ..).trans (hctr ..))))))

@[simp] theorem State.storage_pushPending (s : State) (x : Stair) : (s.pushPending x).storage = s.storage :=
  foldl_keeps State.storage _ (fun s _ => s.storage_record _ _ _ _ _) _ s

@[simp] theorem State.storage_mirror (s : State) (w : Nat) (x : Stair) (band : Option Nat) (r : VerdictRec) :
    (s.mirror w x band r).storage = s.storage := by
  unfold State.mirror; dsimp only
  split
  · split
    · exact State.storage_exportItem ..
    · rfl
  · rfl

/-! ### What the Wings keep of their work -/

/-- The figures that place the blocks of a partition. -/
def Partition.placing (x : Partition) : Nat × Nat × Nat × Nat := (x.blockUnits, x.larderOff, x.shareBase0, x.shareBase1)

/-- A Wing but for the Stairwell and what leaves it. -/
def Wing.lasting (x : Wing) : Wing := { x with stairs := [], runs := [], returning := [] }

/-- The rest of a commit leaves the Wings' tables and memories, what waits to return, and the places of the blocks. -/
structure KeepsTables (s t : State) : Prop where
  wing : ∀ v, (t.wing v).lasting = (s.wing v).lasting
  returning : ∀ v, (t.wing v).returning = (s.wing v).returning
  placing : ∀ p, (t.partOf p).placing = (s.partOf p).placing

theorem KeepsTables.of_storage {s t : State} (h : t.storage = s.storage) : KeepsTables s t :=
  ⟨fun v => by rw [State.wing_of_storage h], fun v => by rw [State.wing_of_storage h], fun p => by rw [State.partOf_of_storage h]⟩

theorem KeepsTables.trans {s t u : State} (h : KeepsTables s t) (h' : KeepsTables t u) : KeepsTables s u :=
  ⟨fun v => (h'.wing v).trans (h.wing v), fun v => (h'.returning v).trans (h.returning v), fun p => (h'.placing p).trans (h.placing p)⟩

theorem KeepsTables.setWing {s : State} {w : Nat} {x : Wing} (hl : x.lasting = (s.wing w).lasting) (hr : x.returning = (s.wing w).returning) :
    KeepsTables s (s.setWing w x) where
  wing := State.setWing_keeps Wing.lasting hl
  returning := State.setWing_keeps Wing.returning hr
  placing p := congrArg Partition.placing (State.partOf_of_parts (State.setWing_parts ..) p)

theorem KeepsTables.countRuns (s : State) (w : Nat) (x : Stair) : KeepsTables s (s.countRuns w x) := by
  unfold State.countRuns
  generalize x.runs = l
  induction l generalizing s with
  | nil => exact .of_storage rfl
  | cons n l ih =>
    refine KeepsTables.trans ?_ (ih _)
    have hcounts := KeepsTables.of_storage (State.storage_foldl_addCount s x.pkt.partition (mget [] (s.wing w).runs n))
    exact hcounts.trans (.setWing (hcounts.wing w).symm (hcounts.returning w).symm)

theorem State.placing_startRollout (s : State) (w : Nat) (x : Stair) (block : Bytes) (q : Nat) :
    ((s.startRollout w x block).partOf q).placing = (s.partOf q).placing := by
  unfold State.startRollout; dsimp only
  split
  · rfl
  · by_cases hq : q = x.pkt.partition
    · subst hq
      rw [State.partOf_setPart]
      rfl
    · rw [State.partOf_setPart_other _ _ hq]
      rfl

theorem KeepsTables.startRollout (s : State) (w : Nat) (x : Stair) (block : Bytes) : KeepsTables s (s.startRollout w x block) := by
  refine ⟨fun _ => ?_, fun _ => ?_, s.placing_startRollout w x block⟩
  all_goals unfold State.startRollout; dsimp only; split <;> rfl

theorem Wing.lasting_eq_iff_fields {x y : Wing} (h : x.lasting = y.lasting) :
    x.table = y.table ∧ x.regions = y.regions ∧ x.overflowLarder = y.overflowLarder ∧ x.coalescer = y.coalescer := by
  simp only [Wing.lasting, Wing.mk.injEq] at h
  simp only [Wing.table, h, and_self]

/-! ### The Larder block and the hit (R284, R285, Table 07-4) -/

theorem Partition.blockBytes_of_placing {x y : Partition} (h : x.placing = y.placing) : x.blockBytes = y.blockBytes := by
  simp only [Partition.placing, Prod.mk.injEq] at h
  simp only [Partition.blockBytes, h]

theorem Partition.blockAddr_of_placing {x y : Partition} (h : x.placing = y.placing) (g : Nat) : x.blockAddr g = y.blockAddr g := by
  simp only [Partition.placing, Prod.mk.injEq] at h
  simp only [Partition.blockAddr, Partition.shareBase, Partition.blockBytes, h]

/-- A block reads the same where the DRAM of the Wings and the places of the blocks are the same. -/
theorem State.readBlock_congr {s t : State} {p : Nat} (hregions : ∀ v, (t.wing v).regions = (s.wing v).regions)
    (hover : ∀ v, (t.wing v).overflowLarder = (s.wing v).overflowLarder) (hpart : (t.partOf p).placing = (s.partOf p).placing) (g : Nat) :
    t.readBlock p g = s.readBlock p g := by
  simp only [State.readBlock, Wing.region, hregions, hover, Partition.blockBytes_of_placing hpart, Partition.blockAddr_of_placing hpart]

theorem State.readBlock_writeBlock {s : State} {p g : Nat} {data : Bytes} (hlen : data.length = (s.partOf p).blockBytes)
    (hregion : memWf ((s.wing (hWing g)).region p) = true) (hover : memWf (s.wing (hWing g)).overflowLarder = true) :
    (s.writeBlock p g data).readBlock p g = data := by
  have hw : (s.writeBlock p g data).wing (hWing g) =
      (if hOverflow g then { s.wing (hWing g) with overflowLarder := memWrite (s.wing (hWing g)).overflowLarder (4096 * hSlot g) data }
      else { s.wing (hWing g) with regions := mput (s.wing (hWing g)).regions p (memWrite ((s.wing (hWing g)).region p) ((s.partOf p).blockAddr g) data) }) :=
    State.wing_setWing ..
  have hp : (s.writeBlock p g data).partOf p = s.partOf p := State.partOf_of_parts (State.setWing_parts ..) p
  unfold State.readBlock
  dsimp only
  rw [hw, hp, ← hlen]
  cases hov : hOverflow g
  · simpa [Wing.region] using memRead_memWrite hregion _ data
  · simp [memRead_memWrite hover]

theorem State.wing_of_setWing_keeps {s t : State} {w : Nat} {x : Wing} (h : t = s.setWing w x) {α : Type} (f : Wing → α)
    (hf : f x = f (s.wing w)) (v : Nat) : f (t.wing v) = f (s.wing v) := h ▸ State.setWing_keeps f hf v

/-- The Larder block and the cache copy of a commit have been written. -/
def State.blockCommitted (s : State) (w p h : Nat) (block : Bytes) : State := (s.writeBlock p h block).cacheAdd w p h

theorem State.cacheAdd_keeps {α : Type} (f : Wing → α) (hf : ∀ x c, f { x with cache := c } = f x) (s : State) (w p h v : Nat) :
    f ((s.cacheAdd w p h).wing v) = f (s.wing v) := by
  unfold State.cacheAdd
  exact State.setWing_keeps f (hf _ _) v

theorem State.parts_cacheAdd (s : State) (w p h : Nat) : (s.cacheAdd w p h).parts = s.parts := by
  unfold State.cacheAdd
  exact State.setWing_parts ..

theorem State.writeBlock_keeps {α : Type} (f : Wing → α) (hf : ∀ x m o, f { x with regions := m, overflowLarder := o } = f x) (s : State)
    (p h : Nat) (data : Bytes) (v : Nat) : f ((s.writeBlock p h data).wing v) = f (s.wing v) := by
  unfold State.writeBlock
  refine State.setWing_keeps f ?_ v
  split
  · exact hf (s.wing (hWing h)) _ _
  · exact hf (s.wing (hWing h)) _ _

theorem State.entryAt_blockCommitted (s : State) (w p h g : Nat) (block : Bytes) : (s.blockCommitted w p h block).entryAt g = s.entryAt g := by
  refine State.entryAt_of_table (funext fun v => ?_) g
  exact (State.cacheAdd_keeps Wing.table (fun _ _ => rfl) ..).trans (State.writeBlock_keeps Wing.table (fun _ _ _ => rfl) ..)

theorem State.parts_blockCommitted (s : State) (w p h : Nat) (block : Bytes) : (s.blockCommitted w p h block).parts = s.parts :=
  (State.setWing_parts ..).trans (State.setWing_parts ..)

theorem State.readBlock_blockCommitted {s : State} {w p h : Nat} {block : Bytes} (hlen : block.length = (s.partOf p).blockBytes)
    (hregion : memWf ((s.wing (hWing h)).region p) = true) (hover : memWf (s.wing (hWing h)).overflowLarder = true) :
    (s.blockCommitted w p h block).readBlock p h = block := by
  refine (State.readBlock_congr (s := s.writeBlock p h block) ?_ ?_ ?_ h).trans (State.readBlock_writeBlock hlen hregion hover)
  · exact State.cacheAdd_keeps Wing.regions (fun _ _ => rfl) _ w p h
  · exact State.cacheAdd_keeps Wing.overflowLarder (fun _ _ => rfl) _ w p h
  · exact congrArg Partition.placing (State.partOf_of_parts (State.parts_cacheAdd ..) p)

theorem State.putEntry_keeps {α : Type} (f : Wing → α) (hf : ∀ x m o, f { x with entries := m, overflow := o } = f x) (s : State)
    (h : Nat) (e : FlowEntry) (v : Nat) : f ((s.putEntry h e).wing v) = f (s.wing v) := by
  unfold State.putEntry
  refine State.setWing_keeps f ?_ v
  split
  · exact hf (s.wing (hWing h)) _ _
  · exact hf (s.wing (hWing h)) _ _

/-- A hit changes the entries and the hit log of the Wings and nothing else of them. -/
theorem State.commitHit_keeps {α : Type} (f : Wing → α) (hf : ∀ x m o l, f { x with entries := m, overflow := o, hitLog := l } = f x)
    (s : State) (w : Nat) (x : Stair) (v : Nat) : f ((s.commitHit w x).wing v) = f (s.wing v) := by
  unfold State.commitHit; dsimp only
  split
  · rfl
  · split
    · split
      · rfl
      · exact State.setWing_keeps f (hf (s.wing w) _ _ _) v
    · exact State.putEntry_keeps f (fun y m o => hf y m o y.hitLog) ..

theorem State.parts_commitHit (s : State) (w : Nat) (x : Stair) : (s.commitHit w x).parts = s.parts := by
  unfold State.commitHit; dsimp only
  split
  · rfl
  · split
    · split
      · rfl
      · exact State.setWing_parts ..
    · exact State.setWing_parts ..

theorem State.commitHit_of_free {s : State} {w : Nat} {x : Stair} (hgen : (s.entryAt x.handle).gen = x.gen)
    (hvalid : (s.entryAt x.handle).valid = true)
    (hfree : hOverflow x.handle = true ∨ mfind (s.wing w).locks (hBucket x.handle) = none) :
    s.commitHit w x = s.putEntry x.handle { s.entryAt x.handle with hit := true } := by
  unfold State.commitHit; dsimp only
  rw [if_neg (by simp [hgen, hvalid]), if_neg]
  rcases hfree with h | h <;> simp [h]

theorem State.entryAt_putEntry_self (s : State) (h : Nat) (e : FlowEntry) : (s.putEntry h e).entryAt h = e := by
  rw [State.entryAt_putEntry, if_neg]
  simp [OtherSlot]

/-- R752: the images that a commit saves and amends before it writes. -/
def State.commitImaged (s : State) (w : Nat) (x : Stair) (block : Bytes) : State :=
  let p := x.pkt.partition
  let t := x.pkt.slot.at_
  let s := (s.firstTouch w p t (larderUnit x.handle)).firstTouch w p t (entryUnit x.handle)
  (s.amendImage p w t (larderUnit x.handle) (fun _ => .larder x.handle block)).amendImage p w t (entryUnit x.handle) (PairUnit.hit x.handle x.gen)

@[simp] theorem State.storage_commitImaged (s : State) (w : Nat) (x : Stair) (block : Bytes) : (s.commitImaged w x block).storage = s.storage := by
  simp [State.commitImaged]

theorem State.commitState_eq {s : State} (h : s.paired = false) (w : Nat) (x : Stair) (block : Bytes) :
    s.commitState w x block = ((s.commitImaged w x block).blockCommitted w x.pkt.partition x.handle block).commitHit w x := by
  have hwrites : s.discardsWrites w x.pkt.partition x.pkt.slot.at_ = false := by simp [State.discardsWrites, State.isStandby, h]
  unfold State.commitState
  simp only [hwrites, Bool.false_eq_true, if_false]
  rfl

section
variable {s : State} (hpair : s.paired = false) (w : Nat) (x : Stair) (block : Bytes)
include hpair

theorem State.commitState_keeps {α : Type} (f : Wing → α)
    (hf : ∀ x m o l r v c, f { x with entries := m, overflow := o, hitLog := l, regions := r, overflowLarder := v, cache := c } = f x) (v : Nat) :
    f ((s.commitState w x block).wing v) = f (s.wing v) := by
  rw [State.commitState_eq hpair]
  refine (State.commitHit_keeps f (fun y m o l => hf y m o l y.regions y.overflowLarder y.cache) ..).trans ?_
  refine (State.cacheAdd_keeps f (fun y c => hf y y.entries y.overflow y.hitLog y.regions y.overflowLarder c) ..).trans ?_
  refine (State.writeBlock_keeps f (fun y m o => hf y y.entries y.overflow y.hitLog m o y.cache) ..).trans ?_
  rw [State.wing_of_storage (s.storage_commitImaged w x block)]

theorem State.parts_commitState : (s.commitState w x block).parts = s.parts := by
  rw [State.commitState_eq hpair, State.parts_commitHit, State.parts_blockCommitted]
  exact congrArg (·.2.2) (s.storage_commitImaged w x block)

theorem State.readBlock_commitState (hlen : block.length = (s.partOf x.pkt.partition).blockBytes)
    (hregion : memWf ((s.wing (hWing x.handle)).region x.pkt.partition) = true) (hover : memWf (s.wing (hWing x.handle)).overflowLarder = true) :
    (s.commitState w x block).readBlock x.pkt.partition x.handle = block := by
  have himg := s.storage_commitImaged w x block
  rw [State.commitState_eq hpair]
  refine (State.readBlock_congr ?_ ?_ ?_ _).trans (State.readBlock_blockCommitted (s := s.commitImaged w x block) (w := w) ?_ ?_ ?_)
  · exact State.commitHit_keeps Wing.regions (fun _ _ _ _ => rfl) _ w x
  · exact State.commitHit_keeps Wing.overflowLarder (fun _ _ _ _ => rfl) _ w x
  · rw [State.partOf_of_parts (State.parts_commitHit ..)]
  · rw [State.partOf_of_storage himg, hlen]
  · rwa [State.wing_of_storage himg]
  · rwa [State.wing_of_storage himg]

theorem State.entryAt_commitState (hvalid : (s.entryAt x.handle).valid = true) (hgen : (s.entryAt x.handle).gen = x.gen)
    (hfree : hOverflow x.handle = true ∨ mfind (s.wing w).locks (hBucket x.handle) = none) :
    (s.commitState w x block).entryAt x.handle = { s.entryAt x.handle with hit := true } := by
  have himg := s.storage_commitImaged w x block
  have hentry : ((s.commitImaged w x block).blockCommitted w x.pkt.partition x.handle block).entryAt x.handle = s.entryAt x.handle := by
    rw [State.entryAt_blockCommitted, State.entryAt, State.wing_of_storage himg]; rfl
  have hlocks : (((s.commitImaged w x block).blockCommitted w x.pkt.partition x.handle block).wing w).locks = (s.wing w).locks :=
    (State.cacheAdd_keeps Wing.locks (fun _ _ => rfl) ..).trans ((State.writeBlock_keeps Wing.locks (fun _ _ _ => rfl) ..).trans
      (by rw [State.wing_of_storage himg]))
  rw [State.commitState_eq hpair, State.commitHit_of_free (by rwa [hentry]) (by rwa [hentry]) (by rwa [hlocks]), State.entryAt_putEntry_self, hentry]

end

theorem State.learnNotice_keeps {α : Type} (f : Wing → α) (hf : ∀ x c, f { x with coalescer := c } = f x) (s : State) (w p : Nat) (key : Bytes)
    (hash port v : Nat) : f ((s.learnNotice w p key hash port).wing v) = f (s.wing v) := by
  unfold State.learnNotice; dsimp only
  split
  · rfl
  · split
    · split
      · exact State.setWing_keeps f (hf _ _) v
      · rfl
    · split
      · rfl
      · exact State.setWing_keeps f (hf _ _) v

/-! ### COMMIT (R40 to R43) -/

/-- A commit's counts and maxima. -/
def State.commitCounted (s : State) (w : Nat) (x : Stair) (v : PendVerdict) : State :=
  let p := x.pkt.partition
  let cfg := (s.modelOf x.pkt).map (·.2)
  let s := s.countCommit w x x.lookup
  let s := s.bump (ctrOnWing w (Ctr.partBand p (5 * x.pkt.modelSlot + v.band)))
  let s := if v.cls = 0xFF then s.bump (ctrOnWing w (Ctr.partNoClass p)) else s
  let s := if bitOf v.flags 4 then s.bump (ctrOnWing w (Ctr.partProvisional p)) else s
  match cfg with
  | some c => s.mergeMaxima w x c.statLength
  | none => s

/-- What a commit writes: the new state of a HIT, the learn notice of a MISS. -/
def State.commitStored (s : State) (w : Nat) (x : Stair) (block : Bytes) : State :=
  let p := x.pkt.partition
  let s := if x.lookup = 0 then s.commitState w x block else s
  if x.lookup = 1 ∧ s.partSettingAt x.pkt.slot.seen 0x1008 p = 1 then
    s.learnNotice w p x.pkt.key x.pkt.hash (leAt x.pkt.slot.data 4 2) else s

/-- What a commit counts, reports and starts for its packet. -/
def State.commitReported (s : State) (w : Nat) (x : Stair) (v : PendVerdict) (roll : Bool) (r : VerdictRec) (block : Bytes) : State :=
  let p := x.pkt.partition
  let s := (x.counts.foldl (fun (s : State) e => s.addCount p e.1 e.2) s).countRuns w x
  let s := s.pushPending x
  let s := if roll then s.startRollout w x block else s
  let s := if s.paired then s.addDigest x.pkt.slot.at_ p w (commitDigest x x.lookup block) else s
  let s := s.mirror w x (some v.band) r
  if v.action ≠ 0 then s.fire 0 (s.partBufs p) else s

/-- The committed entry leaves the Stairwell and its verdict goes to the assembler. -/
def State.commitFreed (s : State) (w : Nat) (x : Stair) (r : VerdictRec) (block : Bytes) : State :=
  let s := (s.setWing w ((s.wing w).handOver x.pkt.id block)).freeEntry w x
  let y := s.wing w
  s.setWing w { y with returning := y.returning ++ [{ id := x.pkt.id, verdict := r }] }

/-- R475: the commit starts a rollout. -/
def State.rollsAt (s : State) (x : Stair) (v : PendVerdict) : Bool :=
  x.lookup == 0 && v.rollout && (match (s.modelOf x.pkt).map (·.2) with | some c => c.rollsOut | none => false)

theorem State.commitReal_eq (s : State) (w : Nat) (x : Stair) (v : PendVerdict) :
    s.commitReal w x v = (((s.commitCounted w x v).commitStored w x (x.newState.getD [])).commitReported w x v (s.rollsAt x v)
      (x.record v (s.rollsAt x v)) (x.newState.getD [])).commitFreed w x (x.record v (s.rollsAt x v)) (x.newState.getD []) := rfl

theorem State.commitCounted_keeps {α : Type} (g : State → α) (hctr : ∀ s id, g (State.bump s id) = g s)
    (hresync : ∀ s p w f, g (State.modResync s p w f) = g s) (hhall : ∀ s h, g { s with hall := h } = g s)
    (s : State) (w : Nat) (x : Stair) (v : PendVerdict) : g (s.commitCounted w x v) = g s := by
  have hmodel (t : State) : g (match (s.modelOf x.pkt).map (·.2) with
      | some c => t.mergeMaxima w x c.statLength
      | none => t) = g t := by
    split
    · exact State.mergeMaxima_keeps g hresync hhall ..
    · rfl
  unfold State.commitCounted
  exact (hmodel _).trans ((keeps_ite g (hctr ..)).trans ((keeps_ite g (hctr ..)).trans ((hctr ..).trans (State.countCommit_keeps g hctr ..))))

theorem KeepsTables.ite {c : Prop} [Decidable c] {s t : State} (h : KeepsTables s t) : KeepsTables s (if c then t else s) := by
  split
  · exact h
  · exact .of_storage rfl

theorem KeepsTables.commitReported (s : State) (w : Nat) (x : Stair) (v : PendVerdict) (roll : Bool) (r : VerdictRec) (block : Bytes) :
    KeepsTables s (s.commitReported w x v roll r block) := by
  unfold State.commitReported
  refine KeepsTables.trans ?_ (.ite (.of_storage (State.storage_fire ..)))
  refine KeepsTables.trans ?_ (.of_storage (State.storage_mirror ..))
  refine KeepsTables.trans ?_ (.ite (.of_storage rfl))
  refine KeepsTables.trans ?_ (.ite (.startRollout ..))
  refine KeepsTables.trans ?_ (.of_storage (State.storage_pushPending ..))
  exact KeepsTables.trans (.of_storage (State.storage_foldl_addCount ..)) (.countRuns ..)

theorem KeepsTables.freeEntry (s : State) (w : Nat) (x : Stair) : KeepsTables s (s.freeEntry w x) := by
  unfold State.freeEntry
  refine KeepsTables.trans (KeepsTables.setWing (w := w) ?_ ?_) (.of_storage rfl) <;> rfl

theorem State.stair_freeEntry (s : State) (w : Nat) (x : Stair) : ((s.freeEntry w x).wing w).stair x.index = none := by
  have hw : (s.freeEntry w x).wing w = { s.wing w with
      stairs := (s.wing w).stairs.filter (fun z => z.index != x.index)
      runs := (s.wing w).runs.filter (fun e => ((s.wing w).stairs.filter (fun z => z.index != x.index)).any (fun z => z.runs.contains e.1)) } :=
    State.wing_setWing ..
  rw [hw]
  simp [Wing.stair]

/-- The entry is gone and the verdict waits to return; tables, memories and places stay. -/
theorem State.commitFreed_spec (s : State) (w : Nat) (x : Stair) (r : VerdictRec) (block : Bytes) :
    (∀ v, ((s.commitFreed w x r block).wing v).lasting = (s.wing v).lasting) ∧
    (∀ p, ((s.commitFreed w x r block).partOf p).placing = (s.partOf p).placing) ∧
    ((s.commitFreed w x r block).wing w).returning = (s.wing w).returning ++ [{ id := x.pkt.id, verdict := r }] ∧
    ((s.commitFreed w x r block).wing w).stair x.index = none := by
  have hfree : KeepsTables s ((s.setWing w ((s.wing w).handOver x.pkt.id block)).freeEntry w x) := by
    refine KeepsTables.trans ?_ (.freeEntry ..)
    exact .setWing rfl rfl
  have hgone := (s.setWing w ((s.wing w).handOver x.pkt.id block)).stair_freeEntry w x
  unfold State.commitFreed
  dsimp only
  refine ⟨fun v => (State.setWing_keeps Wing.lasting (by rfl) v).trans (hfree.wing v),
    fun p => (congrArg Partition.placing (State.partOf_of_parts (State.setWing_parts ..) p)).trans (hfree.placing p), ?_, ?_⟩
  · rw [State.wing_setWing]
    exact congrArg (· ++ _) (hfree.returning w)
  · rw [State.wing_setWing]
    exact hgone

theorem State.imagesFit_of_unpaired {s : State} (h : s.paired = false) (w : Nat) (x : Stair) : s.imagesFit w x = true := by
  unfold State.imagesFit
  dsimp only
  split
  · rfl
  · simp [State.isPrimary, h]

theorem Wing.firstOfFlow_iff (x : Wing) (y : Stair) : x.firstOfFlow y = true ↔ ∀ id, y.pred = some id → x.stairOf id = none := by
  unfold Wing.firstOfFlow
  split <;> simp_all

theorem exec_commit_waits {s : State} {w i : Nat} {x : Stair} (hx : (s.wing w).stair i = some x)
    (h : (s.wing w).firstOfFlow x = false ∨ s.commitWhole w x = false) : Gives (.commit w i) s s := by
  change execCommit w i s = _
  unfold execCommit
  simp only [hx]
  rw [if_pos]
  rcases h with h | h <;> simp [h]

theorem exec_commit {s : State} {w i : Nat} {x : Stair} {v : PendVerdict} (hx : (s.wing w).stair i = some x) (hfree : s.wingFree w = true)
    (hpair : s.paired = false) (hst : x.state = .ready) (hsq : x.squash = none) (hab : x.abandoned = false) (hv : x.verdict = some v)
    (hfirst : (s.wing w).firstOfFlow x = true) (hwhole : s.commitWhole w x = true) : Gives (.commit w i) s (s.commitReal w x v) := by
  change execCommit w i s = _
  unfold execCommit
  simp only [hx, hfree, hfirst, hwhole, hab, hv, hst, hsq, State.imagesFit_of_unpaired hpair, Bool.not_true, Bool.or_self, Bool.false_eq_true,
    if_false, and_self, if_true]

/-- A commit keeps what it has written, frees the entry and sends the verdict on its way. -/
theorem State.commitReal_spec (s : State) (w : Nat) (x : Stair) (v : PendVerdict) :
    let a := (s.commitCounted w x v).commitStored w x (x.newState.getD [])
    let t := s.commitReal w x v
    (∀ g, (t.wing g).lasting = (a.wing g).lasting) ∧ (∀ p, (t.partOf p).placing = (a.partOf p).placing) ∧
      (t.wing w).returning = (a.wing w).returning ++ [{ id := x.pkt.id, verdict := x.record v (s.rollsAt x v) }] ∧
      (t.wing w).stair x.index = none := by
  intro a t
  have hrep := KeepsTables.commitReported a w x v (s.rollsAt x v) (x.record v (s.rollsAt x v)) (x.newState.getD [])
  obtain ⟨hl, hp, hr, hs⟩ := State.commitFreed_spec (a.commitReported w x v (s.rollsAt x v) (x.record v (s.rollsAt x v)) (x.newState.getD []))
    w x (x.record v (s.rollsAt x v)) (x.newState.getD [])
  have ht : t = (a.commitReported w x v (s.rollsAt x v) (x.record v (s.rollsAt x v)) (x.newState.getD [])).commitFreed w x
      (x.record v (s.rollsAt x v)) (x.newState.getD []) := State.commitReal_eq s w x v
  rw [ht]
  exact ⟨fun g => (hl g).trans (hrep.wing g), fun p => (hp p).trans (hrep.placing p), by rw [hr, hrep.returning], hs⟩

theorem State.commitStored_hit {x : Stair} (h : x.lookup = 0) (s : State) (w : Nat) (block : Bytes) :
    s.commitStored w x block = s.commitState w x block := by simp [State.commitStored, h]

theorem State.commitStored_miss_keeps {α : Type} (f : Wing → α) (hf : ∀ x c, f { x with coalescer := c } = f x) {x : Stair} (h : x.lookup ≠ 0)
    (s : State) (w : Nat) (block : Bytes) (v : Nat) : f ((s.commitStored w x block).wing v) = f (s.wing v) := by
  unfold State.commitStored
  simp only [h, if_false]
  exact keeps_ite (fun u => f (State.wing u v)) (State.learnNotice_keeps f hf ..)

/-- R226: only a MISS tells the coalescer. -/
theorem State.coalescer_commitStored {s : State} (hpair : s.paired = false) {x : Stair} (h : x.lookup ≠ 1) (w : Nat) (block : Bytes) (v : Nat) :
    ((s.commitStored w x block).wing v).coalescer = (s.wing v).coalescer := by
  unfold State.commitStored
  simp only [h, false_and, if_false]
  exact keeps_ite (fun u => (State.wing u v).coalescer) (State.commitState_keeps hpair w x block Wing.coalescer (fun _ _ _ _ _ _ _ => rfl) v)

theorem State.returning_commitStored {s : State} (hpair : s.paired = false) (x : Stair) (w : Nat) (block : Bytes) (v : Nat) :
    ((s.commitStored w x block).wing v).returning = (s.wing v).returning := by
  by_cases h : x.lookup = 0
  · rw [State.commitStored_hit h]
    exact State.commitState_keeps hpair w x block Wing.returning (fun _ _ _ _ _ _ _ => rfl) v
  · exact State.commitStored_miss_keeps Wing.returning (fun _ _ => rfl) h ..

theorem index_of_stair {x : Wing} {i : Nat} {y : Stair} (h : x.stair i = some y) : y.index = i := by
  simpa using List.find?_some h

/-- Settles O17: the commit by its steps, of which one writes the block and the hit and one frees the entry. -/
theorem commitWrites : Obligations.CommitWrites := by
  intro s w i x v ⟨_, hx, hfree, hpair, hst, hsq, hab, _⟩ hv
  refine ⟨fun ⟨id, hp, hearlier⟩ => ?_, fun hwhole => exec_commit_waits hx (.inr hwhole), fun hwhole hfirst => ?_⟩
  · refine exec_commit_waits hx (.inl ?_)
    rw [Bool.eq_false_iff, ne_eq, Wing.firstOfFlow_iff]
    exact fun h => hearlier (h id hp)
  · have hcounted : (s.commitCounted w x v).storage = s.storage :=
      State.commitCounted_keeps State.storage (fun _ _ => rfl) State.storage_modResync (fun _ _ => rfl) s w x v
    have hpair' : (s.commitCounted w x v).paired = false := by
      rw [State.commitCounted_keeps State.paired (fun _ _ => rfl) (fun t p w f => ?_) (fun _ _ => rfl) s w x v, hpair]
      unfold State.modResync; split <;> rfl
    have hwing (g : Nat) : (s.commitCounted w x v).wing g = s.wing g := State.wing_of_storage hcounted g
    obtain ⟨hl, hp, hr, hgone⟩ := s.commitReal_spec w x v
    have hfields (g : Nat) := Wing.lasting_eq_iff_fields (hl g)
    refine ⟨_, x.record v (s.rollsAt x v), exec_commit hx hfree hpair hst hsq hab hv ((Wing.firstOfFlow_iff _ _).2 hfirst) hwhole, ?_, ?_,
      rfl, rfl, rfl, rfl, rfl, rfl, ?flags, fun hhit block hblock hhome hlen hregion hover => ⟨?block, fun hvalid hgen hunlocked => ?hit⟩,
      fun hmiss => ⟨fun g => ?entries, ?regions, ?overflow⟩, fun hmiss => ?coalescer⟩
    · rw [← index_of_stair hx]; exact hgone
    · rw [hr, State.returning_commitStored hpair', hwing]
    case flags =>
      change v.flags + (if s.rollsAt x v then flRollout else 0) = v.flags ∨ _
      cases hroll : s.rollsAt x v
      · exact .inl rfl
      · simp only [State.rollsAt, Bool.and_eq_true, beq_iff_eq] at hroll
        exact .inr ⟨hroll.1.1, rfl⟩
    case block =>
      have hpart : (s.commitCounted w x v).partOf x.pkt.partition = s.partOf x.pkt.partition := State.partOf_of_storage hcounted _
      refine (State.readBlock_congr (fun g => (hfields g).2.1) (fun g => (hfields g).2.2.1) (hp _) _).trans ?_
      rw [State.commitStored_hit hhit, hblock]
      exact State.readBlock_commitState hpair' w x block (by rw [hpart, hlen]) (by rwa [hhome, hwing]) (by rwa [hhome, hwing])
    case hit =>
      have hentry : (s.commitCounted w x v).entryAt x.handle = s.entryAt x.handle := by simp only [State.entryAt, hwing]
      rw [State.entryAt_of_table (funext fun g => (hfields g).1), State.commitStored_hit hhit,
        State.entryAt_commitState hpair' w x _ (by rwa [hentry]) (by rwa [hentry]) (by rwa [hwing]), hentry]
    case entries =>
      refine State.entryAt_of_table (funext fun v' => ((hfields v').1).trans ?_) g
      exact (State.commitStored_miss_keeps Wing.table (fun _ _ => rfl) hmiss ..).trans (congrArg Wing.table (hwing v'))
    case regions =>
      exact (hfields w).2.1.trans ((State.commitStored_miss_keeps Wing.regions (fun _ _ => rfl) hmiss ..).trans (congrArg Wing.regions (hwing w)))
    case overflow =>
      exact (hfields w).2.2.1.trans
        ((State.commitStored_miss_keeps Wing.overflowLarder (fun _ _ => rfl) hmiss ..).trans (congrArg Wing.overflowLarder (hwing w)))
    case coalescer =>
      exact (hfields w).2.2.2.trans ((State.coalescer_commitStored hpair' hmiss ..).trans (congrArg Wing.coalescer (hwing w)))

end Sys2Proof.Machine
end

section
/-!
Proofs for the background clear and the state walk (chapters 07, 13): what a visit of one block writes, and where the two go on and end.
-/
open Sys2Proof Sys2Proof.Machine Sys2Proof.Claims

namespace Sys2Proof.Machine

/-! ### A write of a block's first bytes -/

/-- A string that is stored over the start of another reads back before the rest of it. -/
theorem memRead_memWrite_take {m : Mem} (h : memWf m = true) (a : Nat) {bs : Bytes} {n : Nat} (hn : bs.length ≤ n) :
    memRead (memWrite m a bs) a n = bs ++ (memRead m a n).drop bs.length := by
  refine List.ext_getElem? fun k => ?_
  by_cases hk : k < n
  · rw [getElem?_memRead _ _ _ _ hk, memGet_memWrite h]
    by_cases hin : k < bs.length
    · rw [if_pos (by omega), List.getElem?_append_left hin, show a + k - a = k by omega, List.getElem?_eq_getElem hin, Option.getD_some]
    · rw [if_neg (by omega), List.getElem?_append_right (by omega), List.getElem?_drop, getElem?_memRead _ _ _ _ (by omega),
        show bs.length + (k - bs.length) = k by omega]
  · rw [List.getElem?_eq_none (by rw [length_memRead]; omega), List.getElem?_eq_none (by
      rw [List.length_append, List.length_drop, length_memRead]; omega)]

theorem State.length_readBlock (s : State) (p g : Nat) : (s.readBlock p g).length = (s.partOf p).blockBytes := by
  unfold State.readBlock
  dsimp only
  split <;> exact length_memRead ..

theorem State.wing_writeBlock (s : State) (p g : Nat) (data : Bytes) : (s.writeBlock p g data).wing (hWing g) =
    (if hOverflow g then { s.wing (hWing g) with overflowLarder := memWrite (s.wing (hWing g)).overflowLarder (4096 * hSlot g) data }
    else { s.wing (hWing g) with
      regions := mput (s.wing (hWing g)).regions p (memWrite ((s.wing (hWing g)).region p) ((s.partOf p).blockAddr g) data) }) :=
  State.wing_setWing ..

theorem State.partOf_writeBlock (s : State) (p g : Nat) (data : Bytes) (q : Nat) : (s.writeBlock p g data).partOf q = s.partOf q :=
  State.partOf_of_parts (State.setWing_parts ..) q

theorem State.readBlock_writeBlock_take {s : State} {p g : Nat} {data : Bytes} (hlen : data.length ≤ (s.partOf p).blockBytes)
    (hregion : memWf ((s.wing (hWing g)).region p) = true) (hover : memWf (s.wing (hWing g)).overflowLarder = true) :
    (s.writeBlock p g data).readBlock p g = data ++ (s.readBlock p g).drop data.length := by
  unfold State.readBlock
  dsimp only
  rw [State.wing_writeBlock, State.partOf_writeBlock]
  cases hov : hOverflow g
  · simpa [Wing.region] using memRead_memWrite_take hregion ((s.partOf p).blockAddr g) hlen
  · simpa using memRead_memWrite_take hover (4096 * hSlot g) hlen

theorem State.uncache_keeps {α : Type} (f : Wing → α) (hf : ∀ x c, f { x with cache := c } = f x) (s : State) (p h v : Nat) :
    f ((s.uncache p h).wing v) = f (s.wing v) := by
  unfold State.uncache
  exact State.setWing_keeps f (hf _ _) v

theorem State.parts_uncache (s : State) (p h : Nat) : (s.uncache p h).parts = s.parts := State.setWing_parts ..

theorem State.readBlock_uncache (s : State) (p h : Nat) : (s.uncache p h).readBlock p h = s.readBlock p h :=
  State.readBlock_congr (State.uncache_keeps Wing.regions (fun _ _ => rfl) s p h) (State.uncache_keeps Wing.overflowLarder (fun _ _ => rfl) s p h)
    (congrArg Partition.placing (State.partOf_of_parts (s.parts_uncache p h) p)) h

theorem State.readBlock_defaultBlock {s : State} {p g : Nat} (hregion : memWf ((s.wing (hWing g)).region p) = true)
    (hover : memWf (s.wing (hWing g)).overflowLarder = true) :
    (s.defaultBlock p g).readBlock p g = zeroBytes (s.partOf p).blockBytes := by
  rw [State.defaultBlock, State.readBlock_uncache]
  exact State.readBlock_writeBlock (List.length_replicate ..) hregion hover

theorem State.ctr_defaultBlock (s : State) (p g id : Nat) : (s.defaultBlock p g).ctr id = s.ctr id := by
  simp only [State.ctr, State.defaultBlock, State.uncache, State.writeBlock, State.setWing_counters]

/-- R303: the epoch field of a block of at least 64 bytes is raised and every other byte stays. -/
theorem State.readBlock_raiseEpoch {s : State} {p g f : Nat} (hsize : 64 ≤ (s.partOf p).blockBytes)
    (hregion : memWf ((s.wing (hWing g)).region p) = true) (hover : memWf (s.wing (hWing g)).overflowLarder = true) :
    (s.raiseEpoch p g f).readBlock p g = (s.readBlock p g).take 4 ++ leBytes 2 f ++ (s.readBlock p g).drop 6 := by
  have hb := s.length_readBlock p g
  have hlen : ((s.readBlock p g).take 4 ++ leBytes 2 f ++ slice (s.readBlock p g) 6 58).length = 64 := by
    simp only [List.length_append, List.length_take, length_leBytes, slice, List.length_drop, hb]
    omega
  have hrest : slice (s.readBlock p g) 6 58 ++ (s.readBlock p g).drop 64 = (s.readBlock p g).drop 6 := by
    rw [slice, show (64 : Nat) = 6 + 58 from rfl, ← List.drop_drop, List.take_append_drop]
  rw [State.raiseEpoch, State.readBlock_uncache, State.readBlock_writeBlock_take (by rw [hlen]; exact hsize) hregion hover, hlen,
    List.append_assoc, hrest]

/-! ### The visits (R298 to R304) -/

theorem State.readHeader_good {s : State} {p h : Nat} (hgood : s.wordBad p h 0 = false) : s.readHeader p h none = (s, false) := by
  simp [State.readHeader, hgood]

theorem Partition.placing_setClear (x : Partition) (w : Nat) (k : Option Nat) : (x.setClear w k).placing = x.placing := by
  unfold Partition.setClear; split <;> rfl

theorem Partition.placing_setWalk (x : Partition) (w : Nat) (k : Option Nat) : (x.setWalk w k).placing = x.placing := by
  unfold Partition.setWalk; split <;> rfl

theorem Partition.clearAt_setClear (x : Partition) (w : Nat) (k : Option Nat) : (x.setClear w k).clearAt w = k := by
  unfold Partition.setClear Partition.clearAt; split <;> rfl

theorem Partition.walkAt_setWalk (x : Partition) (w : Nat) (k : Option Nat) : (x.setWalk w k).walkAt w = k := by
  unfold Partition.setWalk Partition.walkAt; split <;> rfl

/-- A change of a partition that leaves the places of its blocks leaves every block. -/
theorem State.readBlock_modPart (s : State) (p : Nat) {f : Partition → Partition} (hf : (f (s.partOf p)).placing = (s.partOf p).placing) (g : Nat) :
    (s.modPart p f).readBlock p g = s.readBlock p g :=
  State.readBlock_congr (s := s) (t := s.modPart p f) (fun _ => rfl) (fun _ => rfl) (by rw [State.partOf_modPart, hf]) g

theorem State.parts_defaultBlock (s : State) (p g : Nat) : (s.defaultBlock p g).parts = s.parts :=
  (State.parts_uncache ..).trans (State.setWing_parts ..)

theorem State.parts_raiseEpoch (s : State) (p g f : Nat) : (s.raiseEpoch p g f).parts = s.parts :=
  (State.parts_uncache ..).trans (State.setWing_parts ..)

theorem exec_backgroundClear {s : State} {w p k h next : Nat} (hfree : s.wingFree w = true)
    (hearly : k ≠ 0 ∨ s.earlierInside w p ((s.partOf p).resetNow s.nt) = false) (hk : (s.partOf p).clearAt w = some k)
    (hnext : s.blockAfter w p k = some (h, next)) (hgood : s.wordBad p h 0 = false) :
    let u := s.modPart p (fun x => x.setClear w (some next))
    Gives (.backgroundClear w p none) s
      (if serialLt (leAt (s.readBlock p h) 4 2) ((s.partOf p).resetNow s.nt) then (u.defaultBlock p h).bump (Ctr.pwClearBlocks (pwIx w p)) else u) := by
  intro u
  have hgo : (!s.wingFree w || (k == 0 && s.earlierInside w p ((s.partOf p).resetNow s.nt))) = false := by
    rcases hearly with h | h <;> simp [hfree, h]
  have hblock : u.readBlock p h = s.readBlock p h := s.readBlock_modPart p (f := fun x => x.setClear w (some next)) ((s.partOf p).placing_setClear w _) h
  change execBackgroundClear w p none s = _
  unfold execBackgroundClear
  simp only [hk, hgo, hnext, State.readHeader_good hgood, Bool.false_eq_true, if_false, Bool.false_or]
  rw [hblock]
  rfl

theorem exec_epochWalk {s : State} {w p k h next : Nat} (hfree : s.wingFree w = true)
    (hearly : k ≠ 0 ∨ s.earlierInside w p (((s.partOf p).walkTo + 8192) % 65536) = false) (hk : (s.partOf p).walkAt w = some k)
    (hnext : s.blockAfter w p k = some (h, next)) (hgood : s.wordBad p h 0 = false) :
    let u := s.modPart p (fun x => x.setWalk w (some next))
    let b := s.readBlock p h
    Gives (.epochWalk w p none) s
      (if !bitOf (leAt b 7 1) 0 then u
      else if serialLt (leAt b 4 2) ((s.partOf p).resetNow s.nt) then (u.defaultBlock p h).bump (Ctr.pwWalkBlocks (pwIx w p))
      else if serialLt (leAt b 4 2) (s.partOf p).walkTo then (u.raiseEpoch p h (s.partOf p).walkTo).bump (Ctr.pwWalkBlocks (pwIx w p))
      else u) := by
  intro u b
  have hgo : (!s.wingFree w || (k == 0 && s.earlierInside w p (((s.partOf p).walkTo + 8192) % 65536))) = false := by
    rcases hearly with h | h <;> simp [hfree, h]
  have hblock : u.readBlock p h = b := s.readBlock_modPart p (f := fun x => x.setWalk w (some next)) ((s.partOf p).placing_setWalk w _) h
  change execEpochWalk w p none s = _
  unfold execEpochWalk
  simp only [hk, hgo, hnext, State.readHeader_good hgood, Bool.false_eq_true, if_false]
  rw [hblock]
  rfl

theorem exec_backgroundClearEnd (s : State) (p : Nat) :
    Gives (.backgroundClearEnd p) s (if (s.partOf p).clearing && s.clearDone 0 p && s.clearDone 1 p && s.hallFree then
      s.modPart p (fun x => { x with clear0 := none, clear1 := none }) else s) := rfl

theorem exec_epochWalkEnd (s : State) (p : Nat) :
    Gives (.epochWalkEnd p) s (if ((s.partOf p).walk0.isSome || (s.partOf p).walk1.isSome) && s.walkDone 0 p && s.walkDone 1 p && s.hallFree then
      s.setPart p { s.partOf p with
        walk0 := none, walk1 := none,
        resetEpoch := if serialLt (s.partOf p).resetEpoch (s.partOf p).walkTo then (s.partOf p).walkTo else (s.partOf p).resetEpoch }
      else s) := rfl

/-- Settles O29: each visit by the three things that it can make of its block, the ends by their conditions. -/
theorem clearAndWalkVisitBlocks : Obligations.ClearAndWalkVisitBlocks := by
  refine ⟨fun s w p k h next _ _ hfree hearly hk hnext hhome hgood hregion hover => ?clear, fun s p _ hfree hrun => ⟨fun ⟨h0, h1⟩ => ?done, fun h => ?going⟩,
    fun s w p k h next _ _ hfree hearly hk hnext hhome hgood hregion hover => ?walk, fun s p _ hfree hrun h0 h1 => ?walked⟩
  case clear =>
    rw [← hhome] at hregion hover
    refine ⟨_, exec_backgroundClear hfree hearly hk hnext hgood, ?_, fun hnew => ?_, fun hold => ?_⟩
    · split
      · rw [State.partOf_bump, State.partOf_of_parts (State.parts_defaultBlock ..), State.partOf_modPart, Partition.clearAt_setClear]
      · rw [State.partOf_modPart, Partition.clearAt_setClear]
    · rw [hnew]; rfl
    · rw [if_pos hold]
      refine ⟨(State.readBlock_defaultBlock (s := s.modPart p _) hregion hover).trans ?_, ?_⟩
      · rw [State.partOf_modPart, Partition.blockBytes_of_placing ((s.partOf p).placing_setClear w _)]
      · rw [State.ctr_bump, State.ctr_defaultBlock]; rfl
  case done =>
    refine ⟨_, exec_backgroundClearEnd s p, ?_⟩
    rw [hrun, h0, h1, hfree, if_pos (by rfl), State.partOf_modPart]
    rfl
  case going =>
    have hno : ((s.partOf p).clearing && s.clearDone 0 p && s.clearDone 1 p && s.hallFree) = false := by rcases h with h | h <;> simp [h]
    exact (exec_backgroundClearEnd s p).trans (by rw [hno]; rfl)
  case walk =>
    rw [← hhome] at hregion hover
    refine ⟨_, exec_epochWalk hfree hearly hk hnext hgood, ?_, fun hkept => ?_, fun hlive hreset hold hsize => ?_⟩
    · have hu : ((s.modPart p (fun x => x.setWalk w (some next))).partOf p).walkAt w = some next := by
        rw [State.partOf_modPart, Partition.walkAt_setWalk]
      have hparts {t : State} (ht : t.parts = (s.modPart p (fun x => x.setWalk w (some next))).parts) : (t.partOf p).walkAt w = some next := by
        rw [State.partOf_of_parts ht, hu]
      split
      · exact hu
      · split
        · exact hparts (State.parts_defaultBlock ..)
        · split
          · exact hparts (State.parts_raiseEpoch ..)
          · exact hu
    · rcases hkept with hdead | ⟨hreset, hnew⟩
      · rw [hdead]; rfl
      · simp only [hreset, hnew, Bool.false_eq_true, if_false, ite_self]; rfl
    · simp only [hlive, hreset, hold, Bool.not_true, Bool.false_eq_true, if_false, if_true]
      have hplace := (s.partOf p).placing_setWalk w (some next)
      have hraised := State.readBlock_raiseEpoch (s := s.modPart p (fun x => x.setWalk w (some next))) (p := p) (g := h) (f := (s.partOf p).walkTo)
        (by rw [State.partOf_modPart, Partition.blockBytes_of_placing hplace]; exact hsize) hregion hover
      rw [s.readBlock_modPart p (f := fun x => x.setWalk w (some next)) hplace h] at hraised
      exact hraised
  case walked =>
    refine ⟨_, exec_epochWalkEnd s p, ?_⟩
    simp [hrun, h0, h1, hfree]

end Sys2Proof.Machine
end

section
/-!
Proofs for the primitives' rounding (chapter 10): the exponent and the rounded mantissa of `roundMag` as numbers, the pattern that they make,
and the primitives as exact values rounded once.
-/
open Sys2Proof Sys2Proof.Machine Sys2Proof.Claims

namespace Sys2Proof.Machine

/-! ### The exponent and the nearest integer -/

theorem two_zpow_toNat {e : ℤ} (h : 0 ≤ e) : (2 : ℚ) ^ e = ((2 ^ e.toNat : ℕ) : ℚ) := by
  rw [Nat.cast_pow, Nat.cast_ofNat, ← zpow_natCast, Int.toNat_of_nonneg h]

theorem two_zpow_neg_toNat {e : ℤ} (h : e ≤ 0) : (2 : ℚ) ^ e = 1 / ((2 ^ (-e).toNat : ℕ) : ℚ) := by
  rw [← two_zpow_toNat (Int.neg_nonneg.2 h), zpow_neg, one_div, inv_inv]

/-- The exponent of a positive number is the only one that it lies above and below. -/
theorem exponent_unique {x : ℚ} {e f : ℤ} (he : (2 : ℚ) ^ e ≤ x) (he' : x < (2 : ℚ) ^ (e + 1)) (hf : (2 : ℚ) ^ f ≤ x) (hf' : x < (2 : ℚ) ^ (f + 1)) :
    e = f := by
  have h1 := (zpow_lt_zpow_iff_right₀ (by norm_num : (1 : ℚ) < 2)).1 (he.trans_lt hf')
  have h2 := (zpow_lt_zpow_iff_right₀ (by norm_num : (1 : ℚ) < 2)).1 (hf.trans_lt he')
  omega

theorem log2_bounds {n : Nat} (h : n ≠ 0) : (2 : ℚ) ^ (n.log2 : ℤ) ≤ n ∧ (n : ℚ) < (2 : ℚ) ^ ((n.log2 : ℤ) + 1) := by
  constructor
  · rw [zpow_natCast]
    exact_mod_cast Nat.log2_self_le h
  · rw [← Nat.cast_succ, zpow_natCast]
    exact_mod_cast Nat.lt_log2_self

/-- The comparison of `log2Rat`: whether the quotient reaches a power of two. -/
theorem reaches_iff {num den : Nat} (hden : 0 < den) (e : ℤ) :
    (if 0 ≤ e then decide (den * 2 ^ e.toNat ≤ num) else decide (den ≤ num * 2 ^ (-e).toNat)) = true ↔ (2 : ℚ) ^ e ≤ (num : ℚ) / den := by
  have hden' : (0 : ℚ) < den := Nat.cast_pos.2 hden
  split
  · next h => rw [decide_eq_true_iff, two_zpow_toNat h, le_div_iff₀ hden', mul_comm, ← Nat.cast_mul, Nat.cast_le]
  · next h =>
    have hpos : (0 : ℚ) < ((2 ^ (-e).toNat : ℕ) : ℚ) := Nat.cast_pos.2 (by positivity)
    rw [decide_eq_true_iff, two_zpow_neg_toNat (by omega), div_le_div_iff₀ hpos hden', one_mul, ← Nat.cast_mul, Nat.cast_le]

theorem log2Rat_bounds {num den : Nat} (hnum : num ≠ 0) (hden : den ≠ 0) :
    (2 : ℚ) ^ log2Rat num den ≤ (num : ℚ) / den ∧ (num : ℚ) / den < (2 : ℚ) ^ (log2Rat num den + 1) := by
  obtain ⟨hn, hn'⟩ := log2_bounds hnum
  obtain ⟨hd, hd'⟩ := log2_bounds hden
  have hd0 : (0 : ℚ) < den := Nat.cast_pos.2 (Nat.pos_of_ne_zero hden)
  have hlow : (2 : ℚ) ^ ((num.log2 : ℤ) - den.log2 - 1) ≤ (num : ℚ) / den := by
    rw [le_div_iff₀ hd0]
    calc (2 : ℚ) ^ ((num.log2 : ℤ) - den.log2 - 1) * den ≤ (2 : ℚ) ^ ((num.log2 : ℤ) - den.log2 - 1) * (2 : ℚ) ^ ((den.log2 : ℤ) + 1) := by gcongr
      _ = (2 : ℚ) ^ (num.log2 : ℤ) := by rw [← zpow_add₀ two_ne_zero]; congr 1; ring
      _ ≤ num := hn
  have hhigh : (num : ℚ) / den < (2 : ℚ) ^ ((num.log2 : ℤ) - den.log2 + 1) := by
    rw [div_lt_iff₀ hd0]
    calc (num : ℚ) < (2 : ℚ) ^ ((num.log2 : ℤ) + 1) := hn'
      _ = (2 : ℚ) ^ ((num.log2 : ℤ) - den.log2 + 1) * (2 : ℚ) ^ (den.log2 : ℤ) := by rw [← zpow_add₀ two_ne_zero]; congr 1; ring
      _ ≤ (2 : ℚ) ^ ((num.log2 : ℤ) - den.log2 + 1) * den := by gcongr
  have hiff := reaches_iff (num := num) (Nat.pos_of_ne_zero hden) ((num.log2 : ℤ) - den.log2)
  simp only [log2Rat, hiff]
  split
  · next h => exact ⟨h, hhigh⟩
  · next h => exact ⟨hlow, by rw [sub_add_cancel]; exact not_le.1 h⟩

theorem halfUp_eq_floor {num den : Nat} (hden : den ≠ 0) : (halfUp num den : ℤ) = ⌊(num : ℚ) / den + 1 / 2⌋ := by
  have h : (num : ℚ) / den + 1 / 2 = ((2 * num + den : ℕ) : ℚ) / ((2 * den : ℕ) : ℚ) := by
    have : (den : ℚ) ≠ 0 := Nat.cast_ne_zero.2 hden
    push_cast
    field_simp
  rw [h, Rat.floor_natCast_div_natCast]
  exact Int.natCast_ediv ..

/-- The mantissa that `roundMag` rounds to, as the integer nearest the quotient in units of `2 ^ sh`. -/
theorem rounded_eq_floor {num den : Nat} (hden : den ≠ 0) (sh : ℤ) :
    ((if 0 ≤ sh then halfUp num (den * 2 ^ sh.toNat) else halfUp (num * 2 ^ (-sh).toNat) den : ℕ) : ℤ) = ⌊(num : ℚ) / den / (2 : ℚ) ^ sh + 1 / 2⌋ := by
  split
  · next h =>
    rw [halfUp_eq_floor (Nat.mul_ne_zero hden (by positivity)), two_zpow_toNat h, Nat.cast_mul, div_div]
  · next h =>
    rw [halfUp_eq_floor hden, two_zpow_neg_toNat (by omega), Nat.cast_mul, div_div_eq_mul_div, div_one, mul_div_right_comm]

/-! ### The pattern of a rounded mantissa -/

/-- The pattern that `roundMag` makes of an exponent and a rounded mantissa. -/
def packMag (p : Nat) (neg : Bool) (e : ℤ) (q : Nat) : F32 :=
  let carry := decide (2 ^ p ≤ q)
  let e := if carry then e + 1 else e
  let frac := if carry then 0 else (q - 2 ^ (p - 1)) * 2 ^ (24 - p)
  if 128 ≤ e then fInf neg else if e < -126 then fZero neg else signed neg ((e + 127).toNat * 8388608 + frac)

theorem roundMag_eq {p : Nat} {neg : Bool} {num den : Nat} (hnum : num ≠ 0) :
    ∃ q : ℕ, roundMag p neg num den = packMag p neg (log2Rat num den) q ∧
      (den ≠ 0 → (q : ℤ) = ⌊(num : ℚ) / den / (2 : ℚ) ^ (log2Rat num den - p + 1) + 1 / 2⌋) :=
  ⟨_, by rw [roundMag, if_neg hnum]; rfl, fun hden => rounded_eq_floor hden _⟩

theorem signed_toNat {neg : Bool} {mag : Nat} (h : mag < 2147483648) : (signed neg mag).toNat = mag + if neg then 2147483648 else 0 := by
  rw [signed, BitVec.toNat_ofNat]
  split <;> omega

theorem signed_sign {neg : Bool} {mag : Nat} (h : mag < 2147483648) : (signed neg mag).getLsbD 31 = neg := by
  rw [BitVec.getLsbD, signed_toNat h, Nat.testBit_eq_decide_div_mod_eq]
  cases neg <;> simp <;> omega

theorem signed_val {neg : Bool} {e f : Nat} (he : 0 < e) (he' : e < 255) (hf : f < 8388608) :
    (signed neg (e * 8388608 + f)).val = .fin neg (8388608 + f) ((e : ℤ) - 150) := by
  have h : e * 8388608 + f < 2147483648 := by omega
  have hexp : (signed neg (e * 8388608 + f)).toNat / 8388608 % 256 = e := by rw [signed_toNat h]; split <;> omega
  have hfrac : (signed neg (e * 8388608 + f)).toNat % 8388608 = f := by rw [signed_toNat h]; split <;> omega
  simp only [F32.val, hexp, hfrac, signed_sign h]
  rw [if_neg (by omega), if_neg (by omega)]

/-- What a rounded mantissa between two powers of two becomes: ∞, a zero, or the pattern of its value. -/
theorem packMag_spec {p q : Nat} (neg : Bool) (e : ℤ) (hp : 0 < p) (hp' : p ≤ 24) (hq : 2 ^ (p - 1) ≤ q) (hq' : q ≤ 2 ^ p) :
    let r : ℚ := q * (2 : ℚ) ^ (e - p + 1)
    ((2 : ℚ) ^ (128 : ℤ) ≤ r → packMag p neg e q = fInf neg) ∧ (r < (2 : ℚ) ^ (-126 : ℤ) → packMag p neg e q = fZero neg) ∧
      ((2 : ℚ) ^ (-126 : ℤ) ≤ r → r < (2 : ℚ) ^ (128 : ℤ) → ∃ (m : Nat) (k : ℤ), (packMag p neg e q).val = .fin neg m k ∧ (m : ℚ) * (2 : ℚ) ^ k = r) := by
  -- the exponent and the fraction after the carry
  obtain ⟨E, f, hf, hpack, hr⟩ : ∃ (E : ℤ) (f : Nat), f < 8388608 ∧
      packMag p neg e q = (if 128 ≤ E then fInf neg else if E < -126 then fZero neg else signed neg ((E + 127).toNat * 8388608 + f)) ∧
      (q : ℚ) * (2 : ℚ) ^ (e - p + 1) = ((8388608 + f : ℕ) : ℚ) * (2 : ℚ) ^ (E - 23) := by
    by_cases hc : 2 ^ p ≤ q
    · refine ⟨e + 1, 0, by norm_num, by simp [packMag, hc], ?_⟩
      rw [le_antisymm hq' hc, Nat.cast_pow, Nat.cast_ofNat, ← zpow_natCast, ← zpow_add₀ two_ne_zero,
        show ((8388608 + 0 : ℕ) : ℚ) = (2 : ℚ) ^ (23 : ℤ) by norm_num, ← zpow_add₀ two_ne_zero]
      congr 1
      ring
    · have hpow : 2 ^ (p - 1) * 2 ^ (24 - p) = 8388608 := by rw [← pow_add, show p - 1 + (24 - p) = 23 by omega]; norm_num
      have hdouble : 2 ^ p = 2 * 2 ^ (p - 1) := by rw [← pow_succ', Nat.sub_add_cancel hp]
      refine ⟨e, (q - 2 ^ (p - 1)) * 2 ^ (24 - p), ?_, by simp [packMag, hc], ?_⟩
      · rw [← hpow]
        exact Nat.mul_lt_mul_of_pos_right (by omega) (by positivity)
      · rw [← hpow, ← Nat.add_mul, Nat.add_sub_cancel' hq, Nat.cast_mul, mul_assoc, Nat.cast_pow, Nat.cast_ofNat, ← zpow_natCast, ← zpow_add₀ two_ne_zero]
        congr 2
        push_cast [hp']
        ring
  have hone : (1 : ℚ) < 2 := by norm_num
  have hlow : (2 : ℚ) ^ E ≤ q * (2 : ℚ) ^ (e - p + 1) := by
    rw [hr, show (2 : ℚ) ^ E = (8388608 : ℚ) * (2 : ℚ) ^ (E - 23) by rw [show (8388608 : ℚ) = (2 : ℚ) ^ (23 : ℤ) by norm_num, ← zpow_add₀ two_ne_zero]; congr 1; ring]
    gcongr
    push_cast
    exact le_add_of_nonneg_right (Nat.cast_nonneg f)
  have hhigh : q * (2 : ℚ) ^ (e - p + 1) < (2 : ℚ) ^ (E + 1) := by
    rw [hr, show (2 : ℚ) ^ (E + 1) = (16777216 : ℚ) * (2 : ℚ) ^ (E - 23) by rw [show (16777216 : ℚ) = (2 : ℚ) ^ (24 : ℤ) by norm_num, ← zpow_add₀ two_ne_zero]; congr 1; ring]
    gcongr
    exact_mod_cast (by omega : 8388608 + f < 16777216)
  simp only [hpack]
  refine ⟨fun h => ?_, fun h => ?_, fun h h' => ?_⟩
  · have := (zpow_lt_zpow_iff_right₀ hone).1 (h.trans_lt hhigh)
    rw [if_pos (by omega)]
  · have := (zpow_lt_zpow_iff_right₀ hone).1 (hlow.trans_lt h)
    rw [if_neg (by omega), if_pos this]
  · have h1 := (zpow_lt_zpow_iff_right₀ hone).1 (h.trans_lt hhigh)
    have h2 := (zpow_lt_zpow_iff_right₀ hone).1 (hlow.trans_lt h')
    rw [if_neg (by omega), if_neg (by omega)]
    refine ⟨8388608 + f, E - 23, ?_, hr.symm⟩
    rw [signed_val (by omega) (by omega) hf]
    congr 1
    omega

/-- R401: `roundMag` rounds a positive quotient once. -/
theorem roundMag_roundsTo {p num den : Nat} (neg : Bool) (hp : 0 < p) (hp' : p ≤ 24) (hnum : num ≠ 0) (hden : den ≠ 0) :
    RoundsTo p neg ((num : ℚ) / den) (roundMag p neg num den) := by
  intro e he he'
  obtain ⟨hl, hl'⟩ := log2Rat_bounds hnum hden
  obtain ⟨q, hq, hfloor⟩ := roundMag_eq (p := p) (neg := neg) (den := den) hnum
  have hfloor := hfloor hden
  rw [← exponent_unique he he' hl hl'] at hq hfloor
  have hu : (0 : ℚ) < (2 : ℚ) ^ (e - p + 1) := by positivity
  have hbelow : ((2 ^ (p - 1) : ℕ) : ℚ) ≤ (num : ℚ) / den / (2 : ℚ) ^ (e - p + 1) := by
    rw [le_div_iff₀ hu, Nat.cast_pow, Nat.cast_ofNat, ← zpow_natCast, ← zpow_add₀ two_ne_zero]
    refine le_of_eq_of_le ?_ he
    congr 1
    omega
  have habove : (num : ℚ) / den / (2 : ℚ) ^ (e - p + 1) < ((2 ^ p : ℕ) : ℚ) := by
    rw [div_lt_iff₀ hu, Nat.cast_pow, Nat.cast_ofNat, ← zpow_natCast, ← zpow_add₀ two_ne_zero]
    refine he'.trans_eq ?_
    congr 1
    omega
  have hmin : 2 ^ (p - 1) ≤ q := by
    have : ((2 ^ (p - 1) : ℕ) : ℤ) ≤ q := by
      rw [hfloor]
      refine Int.le_floor.2 ?_
      rw [Int.cast_natCast]
      linarith
    exact_mod_cast this
  have hmax : q ≤ 2 ^ p := by
    have : (q : ℤ) < ((2 ^ p : ℕ) : ℤ) + 1 := by
      rw [hfloor]
      refine Int.floor_lt.2 ?_
      push_cast at habove ⊢
      linarith
    exact_mod_cast Int.lt_add_one_iff.1 this
  simp only [← hfloor, hq, Int.cast_natCast]
  exact packMag_spec neg e hp hp' hmin hmax

/-! ### Values -/

theorem smant_cast (neg : Bool) (m : Nat) (e : ℤ) : (smant neg m : ℚ) * (2 : ℚ) ^ e = ofVal (.fin neg m e) := by
  cases neg <;> simp [smant, ofVal]

/-- R401: a dyadic number that is not 0 is rounded once; 0 takes the sign given. -/
theorem roundDyadic_roundsTo {p : Nat} (zneg : Bool) {n e : ℤ} (hp : 0 < p) (hp' : p ≤ 24) (hn : n ≠ 0) :
    RoundsTo p (decide ((n : ℚ) * (2 : ℚ) ^ e < 0)) |(n : ℚ) * (2 : ℚ) ^ e| (roundDyadic p zneg n e) := by
  have hpow : (0 : ℚ) < (2 : ℚ) ^ e := by positivity
  have hsign : decide ((n : ℚ) * (2 : ℚ) ^ e < 0) = decide (n < 0) := by simp [mul_neg_iff, hpow, hpow.not_gt]
  have habs : |(n : ℚ) * (2 : ℚ) ^ e| = (n.natAbs : ℚ) * (2 : ℚ) ^ e := by rw [abs_mul, abs_of_pos hpow, Nat.cast_natAbs, Int.cast_abs]
  have hm : n.natAbs ≠ 0 := Int.natAbs_ne_zero.2 hn
  rw [hsign, habs, roundDyadic, if_neg hn]
  simp only
  split
  · next h =>
    have := roundMag_roundsTo (decide (n < 0)) hp hp' (Nat.mul_ne_zero hm (by positivity : 2 ^ e.toNat ≠ 0)) one_ne_zero
    rwa [Nat.cast_one, div_one, Nat.cast_mul, ← two_zpow_toNat h] at this
  · next h =>
    have := roundMag_roundsTo (decide (n < 0)) hp hp' hm (by positivity : 2 ^ (-e).toNat ≠ 0)
    rwa [div_eq_mul_one_div, ← two_zpow_neg_toNat (by omega)] at this

/-- The value is a number, a zero by its constructor when it is one. -/
def FpVal.IsNumber : FpVal → Prop
  | .zero _ => True
  | .fin _ m _ => m ≠ 0
  | _ => False

/-- The value is −0. -/
def FpVal.isNegZero : FpVal → Bool
  | .zero a => a
  | _ => false

theorem FpVal.isNegZero_fin (a : Bool) (m : Nat) (e : ℤ) : (FpVal.fin a m e).isNegZero = false := rfl

/-- R393 to R395: what a pattern reads as, with its sign bit as sign. -/
theorem F32.val_cases (x : F32) :
    x.val = .zero (x.getLsbD 31) ∨ (∃ m e, m ≠ 0 ∧ x.val = .fin (x.getLsbD 31) m e) ∨ x.val = .inf (x.getLsbD 31) ∨ x.val = .nan := by
  simp only [F32.val]
  split
  · exact .inl rfl
  · split
    · split
      · exact .inr (.inr (.inl rfl))
      · exact .inr (.inr (.inr rfl))
    · exact .inr (.inl ⟨_, _, by omega, rfl⟩)

theorem F32.finite_cases {x : F32} (h : x.notFinite = false) :
    x.val = .zero (x.getLsbD 31) ∨ ∃ m e, m ≠ 0 ∧ x.val = .fin (x.getLsbD 31) m e := by
  rcases x.val_cases with hv | hv | hv | hv
  · exact .inl hv
  · exact .inr hv
  · simp [F32.notFinite, hv] at h
  · simp [F32.notFinite, hv] at h

theorem F32.isNumber_of_finite {x : F32} (h : x.notFinite = false) : x.val.IsNumber := by
  rcases F32.finite_cases h with hv | ⟨m, e, hm, hv⟩
  · rw [hv]; trivial
  · rw [hv]; exact hm

theorem F32.isNegZero_val (x : F32) : x.val.isNegZero = (x.isZero && x.getLsbD 31) := by
  rcases x.val_cases with hv | ⟨m, e, hm, hv⟩ | hv | hv
  all_goals
    rw [F32.isZero, hv]
    simp [FpVal.isNegZero]

theorem ofVal_fin_ne_zero {a : Bool} {m : Nat} {e : ℤ} (hm : m ≠ 0) : ofVal (.fin a m e) ≠ 0 := by
  cases a <;> simp [ofVal, hm, zpow_ne_zero]

theorem ofVal_fin_neg {a : Bool} {m : Nat} {e : ℤ} (hm : m ≠ 0) : decide (ofVal (.fin a m e) < 0) = a := by
  have : (0 : ℚ) < m * (2 : ℚ) ^ e := mul_pos (Nat.cast_pos.2 (Nat.pos_of_ne_zero hm)) (by positivity)
  cases a
  · simp [ofVal, this.le]
  · simp [ofVal, neg_mul, this]

theorem abs_ofVal_fin (a : Bool) (m : Nat) (e : ℤ) : |ofVal (.fin a m e)| = m * (2 : ℚ) ^ e := by
  cases a <;> simp [ofVal, abs_mul]

/-- R402, R406: the product of two numbers is exact. -/
theorem mulVal_spec {x y : FpVal} (hx : x.IsNumber) (hy : y.IsNumber) : (mulVal x y).IsNumber ∧ ofVal (mulVal x y) = ofVal x * ofVal y := by
  match x, y with
  | .zero _, .zero _ => exact ⟨trivial, by simp [mulVal, ofVal]⟩
  | .zero _, .fin _ _ _ => exact ⟨trivial, by simp [mulVal, ofVal]⟩
  | .fin _ _ _, .zero _ => exact ⟨trivial, by simp [mulVal, ofVal]⟩
  | .fin a m e, .fin b n f =>
    refine ⟨Nat.mul_ne_zero hx hy, ?_⟩
    simp only [mulVal, ofVal, zpow_add₀ (two_ne_zero' ℚ), Nat.cast_mul]
    cases a <;> cases b <;> simp <;> ring

/-- The two terms of a sum over their lower exponent. -/
theorem ofVal_add_fin (a b : Bool) (m n : Nat) (e f : ℤ) :
    ((smant a m * 2 ^ (e - min e f).toNat + smant b n * 2 ^ (f - min e f).toNat : ℤ) : ℚ) * (2 : ℚ) ^ (min e f) = ofVal (.fin a m e) + ofVal (.fin b n f) := by
  have h (g : ℤ) (hg : min e f ≤ g) : ((2 : ℚ) ^ (g - min e f).toNat) * (2 : ℚ) ^ (min e f) = (2 : ℚ) ^ g := by
    rw [← zpow_natCast, Int.toNat_of_nonneg (by omega), ← zpow_add₀ two_ne_zero, sub_add_cancel]
  rw [← smant_cast, ← smant_cast, ← h e (min_le_left e f), ← h f (min_le_right e f)]
  push_cast
  ring

/-- R401, R402: the sum of two numbers is rounded once, and an exact 0 is +0 unless both are −0. -/
theorem addVal_spec {x y : FpVal} (hx : x.IsNumber) (hy : y.IsNumber) :
    (ofVal x + ofVal y ≠ 0 → RoundsTo 24 (decide (ofVal x + ofVal y < 0)) |ofVal x + ofVal y| (addVal x y)) ∧
      (ofVal x + ofVal y = 0 → addVal x y = fZero (x.isNegZero && y.isNegZero)) := by
  have hround (n e : ℤ) : ((n : ℚ) * (2 : ℚ) ^ e ≠ 0 → RoundsTo 24 (decide ((n : ℚ) * (2 : ℚ) ^ e < 0)) |(n : ℚ) * (2 : ℚ) ^ e| (roundDyadic 24 false n e)) ∧
      ((n : ℚ) * (2 : ℚ) ^ e = 0 → roundDyadic 24 false n e = fZero false) := by
    refine ⟨fun h => roundDyadic_roundsTo false (by omega) le_rfl fun hn => h (by simp [hn]), fun h => ?_⟩
    have hn : n = 0 := by simpa [zpow_ne_zero] using h
    rw [roundDyadic, if_pos hn]
  match x, y with
  | .zero a, .zero b => exact ⟨fun h => absurd (by simp [ofVal]) h, fun _ => rfl⟩
  | .zero a, .fin b n f =>
    have hsum : ofVal (.zero a) + ofVal (.fin b n f) = (smant b n : ℚ) * (2 : ℚ) ^ f := by rw [smant_cast]; exact zero_add _
    rw [hsum, FpVal.isNegZero_fin, Bool.and_false]
    exact hround _ _
  | .fin a m e, .zero b =>
    have hsum : ofVal (.fin a m e) + ofVal (.zero b) = (smant a m : ℚ) * (2 : ℚ) ^ e := by rw [smant_cast]; exact add_zero _
    rw [hsum, FpVal.isNegZero_fin, Bool.false_and]
    exact hround _ _
  | .fin a m e, .fin b n f =>
    rw [← ofVal_add_fin, FpVal.isNegZero_fin, Bool.false_and]
    exact hround _ _

/-! ### The primitives -/

/-- The sign of a product that is an exact zero. -/
theorem mulVal_isNegZero {x y : F32} (hx : x.notFinite = false) (hy : y.notFinite = false) (hv : ofVal (mulVal x.val y.val) = 0) :
    (mulVal x.val y.val).isNegZero = (x.getLsbD 31 != y.getLsbD 31) := by
  rcases F32.finite_cases hx with hxv | ⟨m, e, hm, hxv⟩
  · rcases F32.finite_cases hy with hyv | ⟨n, f, _, hyv⟩
    all_goals
      rw [hxv, hyv]
      rfl
  · rcases F32.finite_cases hy with hyv | ⟨n, f, hn, hyv⟩
    · rw [hxv, hyv]
      rfl
    · rw [hxv, hyv] at hv
      exact absurd hv (ofVal_fin_ne_zero (Nat.mul_ne_zero hm hn))

theorem ofVal_of_isZero {x : F32} (h : x.isZero = true) : ofVal x.val = 0 := by
  rcases x.val_cases with hv | ⟨m, e, hm, hv⟩ | hv | hv
  all_goals
    rw [F32.isZero, hv] at h
    rw [hv]
    simp_all [ofVal]

theorem fMulAdd_spec {x y z : F32} (hx : x.notFinite = false) (hy : y.notFinite = false) (hz : z.notFinite = false) :
    let v := ofVal x.val * ofVal y.val + ofVal z.val
    (v ≠ 0 → RoundsTo 24 (decide (v < 0)) |v| (fMulAdd x y z)) ∧
      (v = 0 → fMulAdd x y z = fZero (z.isZero && z.getLsbD 31 && (x.getLsbD 31 != y.getLsbD 31))) := by
  obtain ⟨hprod, hval⟩ := mulVal_spec (F32.isNumber_of_finite hx) (F32.isNumber_of_finite hy)
  obtain ⟨hround, hzero⟩ := addVal_spec hprod (F32.isNumber_of_finite hz)
  rw [hval] at hround hzero
  refine ⟨hround, fun hv => (hzero hv).trans (congrArg fZero ?_)⟩
  rw [z.isNegZero_val, Bool.and_comm]
  by_cases h : z.isZero = true
  · rw [ofVal_of_isZero h, add_zero, ← hval] at hv
    rw [mulVal_isNegZero hx hy hv]
  · rw [Bool.not_eq_true] at h
    rw [h, Bool.false_and, Bool.false_and, Bool.false_and]

theorem fDiv_roundsTo {x y : F32} (hx : x.notFinite = false) (hy : y.notFinite = false) (hx0 : ofVal x.val ≠ 0) (hy0 : ofVal y.val ≠ 0) :
    RoundsTo 24 (x.getLsbD 31 != y.getLsbD 31) |ofVal x.val / ofVal y.val| (fDiv x y) := by
  rcases F32.finite_cases hx with hxv | ⟨m, e, hm, hxv⟩
  · exact absurd (by rw [hxv]; rfl) hx0
  rcases F32.finite_cases hy with hyv | ⟨n, f, hn, hyv⟩
  · exact absurd (by rw [hyv]; rfl) hy0
  have habs : |ofVal x.val / ofVal y.val| = (m : ℚ) / n * (2 : ℚ) ^ (e - f) := by
    rw [abs_div, hxv, hyv, abs_ofVal_fin, abs_ofVal_fin, zpow_sub₀ two_ne_zero, mul_div_mul_comm]
  rw [habs, fDiv, hxv, hyv]
  simp only
  split
  · next h =>
    have := roundMag_roundsTo (p := 24) (x.getLsbD 31 != y.getLsbD 31) (by omega) le_rfl (Nat.mul_ne_zero hm (by positivity : 2 ^ (e - f).toNat ≠ 0)) hn
    rwa [Nat.cast_mul, ← two_zpow_toNat h, mul_div_right_comm] at this
  · next h =>
    have := roundMag_roundsTo (p := 24) (x.getLsbD 31 != y.getLsbD 31) (by omega) le_rfl hm (Nat.mul_ne_zero hn (by positivity : 2 ^ (-(e - f)).toNat ≠ 0))
    rwa [Nat.cast_mul, ← div_div, div_eq_mul_one_div (_ / _ : ℚ), ← two_zpow_neg_toNat (by omega)] at this

theorem signed_low {neg : Bool} {mag : Nat} (h : mag % 65536 = 0) : (signed neg mag).toNat % 65536 = 0 := by
  simp only [signed, BitVec.toNat_ofNat]
  split <;> omega

/-- A pattern rounded to 8 bits has nothing in its low half. -/
theorem packMag_low (neg : Bool) (e : ℤ) (q : Nat) : (packMag 8 neg e q).toNat % 65536 = 0 := by
  have hfrac : (if decide (2 ^ 8 ≤ q) then 0 else (q - 2 ^ (8 - 1)) * 2 ^ (24 - 8)) % 65536 = 0 := by
    split
    · rfl
    · exact Nat.mul_mod_left _ _
  unfold packMag
  dsimp only
  generalize (if decide (2 ^ 8 ≤ q) then 0 else (q - 2 ^ (8 - 1)) * 2 ^ (24 - 8)) = f at hfrac
  generalize (if decide (2 ^ 8 ≤ q) = true then e + 1 else e) = E
  split
  · cases neg <;> rfl
  · split
    · cases neg <;> rfl
    · exact signed_low (by omega)

theorem Bf16.f32_high {z : F32} (h : z.toNat % 65536 = 0) : Bf16.f32 ((z >>> 16).setWidth 16) = z := by
  apply BitVec.eq_of_toNat_eq
  have := z.isLt
  simp [Bf16.f32, Nat.shiftLeft_eq, Nat.shiftRight_eq_div_pow]
  omega

theorem toBf16_roundsTo {x : F32} (hx : x.notFinite = false) (hx0 : ofVal x.val ≠ 0) :
    RoundsTo 8 (x.getLsbD 31) |ofVal x.val| (Bf16.f32 (toBf16 x)) := by
  rcases F32.finite_cases hx with hxv | ⟨m, e, hm, hxv⟩
  · exact absurd (by rw [hxv]; rfl) hx0
  have hn : smant (x.getLsbD 31) m ≠ 0 := by
    intro h
    rw [hxv, ← smant_cast, h, Int.cast_zero, zero_mul] at hx0
    exact hx0 rfl
  have hlow : (roundDyadic 8 (x.getLsbD 31) (smant (x.getLsbD 31) m) e).toNat % 65536 = 0 := by
    rw [roundDyadic, if_neg hn]
    simp only
    have hm' : (smant (x.getLsbD 31) m).natAbs ≠ 0 := Int.natAbs_ne_zero.2 hn
    split
    · obtain ⟨q, hq, _⟩ := roundMag_eq (p := 8) (neg := decide (smant (x.getLsbD 31) m < 0)) (den := 1)
        (Nat.mul_ne_zero hm' (by positivity : 2 ^ e.toNat ≠ 0))
      rw [hq]
      exact packMag_low ..
    · obtain ⟨q, hq, _⟩ := roundMag_eq (p := 8) (neg := decide (smant (x.getLsbD 31) m < 0)) (den := 2 ^ (-e).toNat) hm'
      rw [hq]
      exact packMag_low ..
  have hround := roundDyadic_roundsTo (p := 8) (x.getLsbD 31) (e := e) (by omega) (by omega) hn
  rw [smant_cast, ofVal_fin_neg hm] at hround
  rw [toBf16, hxv]
  simp only
  rwa [Bf16.f32_high hlow]

/-- R405: a pattern that reads as an infinity is that infinity. -/
theorem F32.eq_fInf {x : F32} (h : x.isInf = true) : x.val = .inf (x.getLsbD 31) ∧ x = fInf (x.getLsbD 31) := by
  have hv : x.val = .inf (x.getLsbD 31) := by
    rcases x.val_cases with hv | ⟨m, e, hm, hv⟩ | hv | hv
    case inr.inr.inl => exact hv
    all_goals
      rw [F32.isInf, hv] at h
      exact absurd h Bool.false_ne_true
  refine ⟨hv, BitVec.eq_of_toNat_eq ?_⟩
  have hlt := x.isLt
  rw [BitVec.getLsbD, Nat.testBit_eq_decide_div_mod_eq]
  simp only [F32.val] at hv
  split at hv
  · cases hv
  · split at hv
    · split at hv
      · by_cases hb : x.toNat / 2 ^ 31 % 2 = 1
        · rw [decide_eq_true hb]
          simp [fInf]
          omega
        · rw [decide_eq_false hb]
          simp [fInf]
          omega
      · cases hv
    · cases hv

theorem F32.val_of_isNan {x : F32} (h : x.isNan = true) : x.val = .nan := by simpa [F32.isNan] using h

theorem addVal_nan_right (v : FpVal) : addVal v .nan = fNan := by cases v <;> rfl

theorem mulVal_nan_right (v : FpVal) : mulVal v .nan = .nan := by cases v <;> rfl

/-- Settles O25: each primitive's exact value is the number that `roundMag` or `roundDyadic` rounds; the specials are the tables' cases. -/
theorem primitivesRoundOnce : Obligations.PrimitivesRoundOnce := by
  unfold Obligations.PrimitivesRoundOnce
  refine ⟨fun x y z hx hy hz => fMulAdd_spec hx hy hz, fun x y hx hy => ?_, fun x y hx hy => fDiv_roundsTo hx hy, fun x hx => toBf16_roundsTo hx,
    fun x y z h => ?_, fun x y z hx hy => ?_, fun x y hx hy hne => ?_, fun x y hx hy => ?_⟩
  · obtain ⟨hround, hzero⟩ := addVal_spec (F32.isNumber_of_finite hx) (F32.isNumber_of_finite hy)
    refine ⟨hround, fun hv => (hzero hv).trans ?_⟩
    rw [x.isNegZero_val, y.isNegZero_val]
    congr 1
    ac_rfl
  · rw [fMulAdd]
    rcases h with h | h | h
    · rw [F32.val_of_isNan h]
      rfl
    · rw [F32.val_of_isNan h, mulVal_nan_right]
      rfl
    · rw [F32.val_of_isNan h, addVal_nan_right]
  · have hzero : y.val = .zero (y.getLsbD 31) := by
      rcases y.val_cases with hv | ⟨m, e, hm, hv⟩ | hv | hv
      · exact hv
      all_goals
        rw [F32.isZero, hv] at hy
        exact absurd hy Bool.false_ne_true
    rw [fMulAdd, fMulAdd, (F32.eq_fInf hx).1, hzero]
    exact ⟨rfl, rfl⟩
  · obtain ⟨hxv, hxe⟩ := F32.eq_fInf hx
    obtain ⟨hyv, hye⟩ := F32.eq_fInf hy
    rw [fAdd, hxv, hyv, addVal, if_neg]
    intro h
    exact hne (hxe.trans ((congrArg fInf h).trans hye.symm))
  · obtain ⟨hxv, hxe⟩ := F32.eq_fInf hx
    have hnum := F32.finite_cases hy
    rw [fAdd, fAdd, hxv]
    rcases hnum with hyv | ⟨m, e, _, hyv⟩
    all_goals
      rw [hyv]
      exact ⟨hxe.symm, hxe.symm⟩

end Sys2Proof.Machine
end

section
/-!
Proofs for the wait-for graph (chapter 21): its nodes as a rising list of what is waited on, its edges as the rule between the nodes' places,
and the elementary cycles as what the search from their lowest node finds.
-/
open Sys2Proof Sys2Proof.Machine Sys2Proof.Claims

namespace Sys2Proof.Machine

/-! ### Nodes -/

theorem mem_insertRising {n x : Nat} (l : List Nat) : x ∈ insertRising n l ↔ x = n ∨ x ∈ l := by
  induction l with
  | nil => simp [insertRising]
  | cons m l ih =>
    rw [insertRising]
    split
    · simp
    · split
      · next h => simp [h]
      · simp [ih, or_left_comm]

theorem rising_insertRising {n : Nat} {l : List Nat} (h : l.Pairwise (· < ·)) : (insertRising n l).Pairwise (· < ·) := by
  induction l with
  | nil => simp [insertRising]
  | cons m l ih =>
    obtain ⟨hm, hl⟩ := List.pairwise_cons.1 h
    rw [insertRising]
    split
    · next hlt =>
      refine List.pairwise_cons.2 ⟨fun x hx => ?_, h⟩
      rcases List.mem_cons.1 hx with rfl | hx
      · exact hlt
      · exact hlt.trans (hm x hx)
    · split
      · exact h
      · refine List.pairwise_cons.2 ⟨fun x hx => ?_, ih hl⟩
        rcases (mem_insertRising l).1 hx with rfl | hx
        · omega
        · exact hm x hx

theorem foldl_insertRising (ns l : List Nat) (h : l.Pairwise (· < ·)) :
    (ns.foldl (fun l n => insertRising n l) l).Pairwise (· < ·) ∧ ∀ x, x ∈ ns.foldl (fun l n => insertRising n l) l ↔ x ∈ ns ∨ x ∈ l := by
  induction ns generalizing l with
  | nil => simp [h]
  | cons n ns ih =>
    obtain ⟨hrise, hmem⟩ := ih (insertRising n l) (rising_insertRising h)
    refine ⟨hrise, fun x => ?_⟩
    rw [List.foldl_cons, hmem, mem_insertRising, List.mem_cons, or_left_comm, or_assoc]

theorem State.graphNodes_rising (s : State) : s.graphNodes.Pairwise (· < ·) :=
  (foldl_insertRising _ [] List.Pairwise.nil).1.take

/-- While they are fewer than the graph can hold, the nodes are all that R793 names. -/
theorem State.mem_graphNodes {s : State} (h : s.graphNodes.length < 131072) (x : Nat) :
    x ∈ s.graphNodes ↔ let first := s.obs.waiting.flatMap (fun e => [e.1, e.2.target])
      x ∈ first ∨ x ∈ first.flatMap s.edgesOf := by
  simp only [State.graphNodes, List.length_take] at h ⊢
  rw [List.take_of_length_le (by omega), (foldl_insertRising _ [] List.Pairwise.nil).2, List.mem_append]
  simp

/-! ### Edges -/

theorem State.mem_edgesOf (s : State) (m n : Nat) : n ∈ s.edgesOf m ↔ WaitsFor s m n := by
  have hup : n ∈ (if (s.waitOf m).reason = 0 then [] else [(s.waitOf m).target]) ↔ (s.waitOf m).reason ≠ 0 ∧ n = (s.waitOf m).target := by
    split <;> simp [*]
  rw [State.edgesOf, WaitsFor]
  simp only
  split
  · next hkind => simp [hup, hkind]
  · next hkind =>
    rw [not_not] at hkind
    have hown : n ∈ ((List.range 11).filter (fun e => ((s.tile (nodeInst m)).engineWords e).any fun q => q.word.sigEn == 1 && q.word.sigTok == nodeSub m)).map
        (nodeId 3 (nodeInst m)) ↔ ∃ e, e < 11 ∧ n = nodeId 3 (nodeInst m) e ∧
          ∃ q ∈ (s.tile (nodeInst m)).engineWords e, q.word.sigEn = 1 ∧ q.word.sigTok = nodeSub m := by
      simp only [List.mem_map, List.mem_filter, List.mem_range, List.any_eq_true, Bool.and_eq_true, beq_iff_eq, and_assoc]
      exact exists_congr fun e => and_congr_right fun _ => by rw [and_comm, eq_comm]
    have hseqs : n ∈ ((s.tiles.map (·.1)).filter (fun j => s.syncLater j (nodeInst m) (nodeSub m))).map (fun j => nodeId 3 j 0) ↔
        ∃ j ∈ s.tiles.map (·.1), n = nodeId 3 j 0 ∧ s.syncLater j (nodeInst m) (nodeSub m) = true := by
      rw [List.mem_map]
      exact exists_congr fun j => by rw [List.mem_filter, and_assoc, eq_comm (a := nodeId 3 j 0), and_comm (a := n = _)]
    rw [List.mem_append, List.mem_append, hup, hown, List.mem_filter, hseqs, or_assoc]
    simp only [hkind, true_and]
    refine or_congr_right ?_
    by_cases h : n ∈ ((List.range 11).filter (fun e => ((s.tile (nodeInst m)).engineWords e).any fun q => q.word.sigEn == 1 && q.word.sigTok == nodeSub m)).map
        (nodeId 3 (nodeInst m))
    · exact ⟨fun _ => .inl (hown.1 h), fun _ => .inl (hown.1 h)⟩
    · rw [and_iff_left (by simpa using h)]

/-- In a list without repeats a number's place is where it stands. -/
theorem placeOf_eq_some {l : List Nat} (h : l.Nodup) (m j : Nat) : placeOf m l = some j ↔ l[j]? = some m := by
  rw [placeOf, List.findIdx?_eq_some_iff_getElem, List.getElem?_eq_some_iff]
  refine exists_congr fun hj => ?_
  constructor
  · rintro ⟨he, _⟩
    simpa using he
  · rintro rfl
    refine ⟨by simp, fun i hi => ?_⟩
    have : l[i] ≠ l[j] := fun he => hi.ne (h.getElem_inj_iff.1 he)
    simpa using this

theorem State.mem_graphEdges (s : State) (i j : Nat) :
    (i, j) ∈ s.buildGraph.edges ↔ ∃ m n, s.graphNodes[i]? = some m ∧ s.graphNodes[j]? = some n ∧ WaitsFor s m n := by
  have hnodup : s.graphNodes.Nodup := s.graphNodes_rising.imp Nat.ne_of_lt
  have hedges : s.buildGraph.edges = s.graphNodes.zipIdx.flatMap
      (fun e => (s.edgesOf e.1).filterMap (fun m => (placeOf m s.graphNodes).map (fun j => (e.2, j)))) := rfl
  simp only [hedges, List.mem_flatMap, List.mem_filterMap, Option.map_eq_some_iff, placeOf_eq_some hnodup, s.mem_edgesOf]
  constructor
  · rintro ⟨⟨m, k⟩, hm, n, hn, l, hl, he⟩
    cases he
    exact ⟨m, n, (List.mem_zipIdx_iff_getElem?.1 hm), hl, hn⟩
  · rintro ⟨m, n, hm, hn, h⟩
    exact ⟨(m, i), List.mem_zipIdx_iff_getElem?.2 hm, n, h, j, hn, rfl⟩

/-! ### Cycles -/

/-- An edge leads from the first to the second. -/
def Leads (edges : List (Nat × Nat)) (a b : Nat) : Prop := (a, b) ∈ edges

/-- R793: what the search from `path`, whose newest node is `at_`, reports: the path and what closes it to a cycle over nodes above the start. -/
theorem mem_cyclesFrom {edges : List (Nat × Nat)} {start n : Nat} {path c : List Nat} {at_ : Nat} :
    c ∈ cyclesFrom edges start n path at_ ↔ ∃ ext : List Nat, ext.length < n ∧ c = path.reverse ++ ext ∧
      List.IsChain (Leads edges) (at_ :: ext) ∧ Leads edges ((at_ :: ext).getLast (List.cons_ne_nil _ _)) start ∧
      (∀ x ∈ ext, start < x ∧ x ∉ path) ∧ ext.Nodup := by
  induction n generalizing path at_ with
  | zero => simp [cyclesFrom]
  | succ n ih =>
    have hstep : c ∈ cyclesFrom edges start (n + 1) path at_ ↔ ∃ j, Leads edges at_ j ∧
        c ∈ (if j = start then [path.reverse] else if (j < start || path.contains j) = true then [] else cyclesFrom edges start n (j :: path) j) := by
      simp [cyclesFrom, Leads]
    rw [hstep]
    constructor
    · rintro ⟨j, hj, hc⟩
      split at hc
      · next h => exact ⟨[], by simp, by simpa using hc, by simp, by simpa [← h] using hj, by simp, List.nodup_nil⟩
      · split at hc
        · simp at hc
        · next hne hfree =>
          obtain ⟨ext, hlen, rfl, hchain, hlast, hall, hnodup⟩ := ih.1 hc
          simp only [Bool.or_eq_true, decide_eq_true_eq, List.contains_iff_mem, not_or, not_lt] at hfree
          refine ⟨j :: ext, by simpa using hlen, by simp, List.isChain_cons_cons.2 ⟨hj, hchain⟩, by simpa using hlast, fun x hx => ?_, ?_⟩
          · rcases List.mem_cons.1 hx with rfl | hx
            · exact ⟨by omega, hfree.2⟩
            · obtain ⟨hlt, hnot⟩ := hall x hx
              exact ⟨hlt, fun h => hnot (List.mem_cons_of_mem _ h)⟩
          · exact List.nodup_cons.2 ⟨fun h => (hall j h).2 List.mem_cons_self, hnodup⟩
    · rintro ⟨ext, hlen, rfl, hchain, hlast, hall, hnodup⟩
      match ext with
      | [] => exact ⟨start, by simpa using hlast, by simp⟩
      | j :: ext =>
        obtain ⟨hj, hchain⟩ := List.isChain_cons_cons.1 hchain
        obtain ⟨hjext, hnodup⟩ := List.nodup_cons.1 hnodup
        obtain ⟨hlt, hnot⟩ := hall j List.mem_cons_self
        refine ⟨j, hj, ?_⟩
        rw [if_neg (by omega), if_neg (by simp [hnot, hlt.le])]
        refine ih.2 ⟨ext, by simpa using hlen, by simp, hchain, by simpa using hlast, fun x hx => ⟨(hall x (List.mem_cons_of_mem _ hx)).1, ?_⟩, hnodup⟩
        intro hmem
        rcases List.mem_cons.1 hmem with rfl | hmem
        · exact hjext hx
        · exact (hall x (List.mem_cons_of_mem _ hx)).2 hmem

theorem headD_drop {l : List Nat} {k : Nat} (h : k < l.length) : (l.drop k).headD 0 = l[k] := by
  rw [List.headD_eq_head?_getD, List.head?_drop, List.getElem?_eq_getElem h, Option.getD_some]

/-- An elementary cycle as a path from its lowest node back to it. -/
theorem elementaryCycle_iff {edges : List (Nat × Nat)} {c : List Nat} :
    ElementaryCycle edges c ↔ ∃ i ext, c = i :: ext ∧ List.IsChain (Leads edges) (i :: ext) ∧
      Leads edges ((i :: ext).getLast (List.cons_ne_nil _ _)) i ∧ (∀ x ∈ ext, i < x) ∧ ext.Nodup := by
  match c with
  | [] => simp [ElementaryCycle]
  | i :: ext =>
    have hall : (∀ k, k < (i :: ext).length → (((i :: ext).drop k).headD 0, ((i :: ext).drop ((k + 1) % (i :: ext).length)).headD 0) ∈ edges) ↔
        List.IsChain (Leads edges) (i :: ext) ∧ Leads edges ((i :: ext).getLast (List.cons_ne_nil _ _)) i := by
      rw [List.isChain_iff_getElem, List.getLast_eq_getElem]
      constructor
      · intro h
        refine ⟨fun k hk => ?_, ?_⟩
        · have := h k (by omega)
          rwa [Nat.mod_eq_of_lt hk, headD_drop (by omega), headD_drop hk] at this
        · have := h ext.length (by simp)
          rwa [List.length_cons, Nat.mod_self, headD_drop (by simp)] at this
      · rintro ⟨hchain, hlast⟩ k hk
        by_cases hk' : k + 1 < (i :: ext).length
        · rw [Nat.mod_eq_of_lt hk', headD_drop hk, headD_drop hk']
          exact hchain k hk'
        · have hkl : k = ext.length := by rw [List.length_cons] at hk hk'; omega
          subst hkl
          rw [List.length_cons, Nat.mod_self, headD_drop (by simp)]
          exact hlast
    rw [ElementaryCycle, hall]
    constructor
    · rintro ⟨-, hnodup, ⟨hchain, hlast⟩, hmin⟩
      obtain ⟨hi, hext⟩ := List.nodup_cons.1 hnodup
      exact ⟨i, ext, rfl, hchain, hlast, fun x hx => lt_of_le_of_ne (hmin x (List.mem_cons_of_mem _ hx)) fun h => hi (h ▸ hx), hext⟩
    · rintro ⟨j, ext', h, hchain, hlast, habove, hnodup⟩
      cases h
      refine ⟨List.cons_ne_nil _ _, List.nodup_cons.2 ⟨fun h => (habove i h).false, hnodup⟩, ⟨hchain, hlast⟩, fun x hx => ?_⟩
      rcases List.mem_cons.1 hx with rfl | hx
      · exact le_rfl
      · exact (habove x hx).le

/-- A node of an elementary cycle stands in an edge. -/
theorem exists_edge_of_mem_cycle {edges : List (Nat × Nat)} {c : List Nat} (h : ElementaryCycle edges c) {x : Nat} (hx : x ∈ c) :
    ∃ y, (x, y) ∈ edges := by
  obtain ⟨-, -, hall, -⟩ := h
  obtain ⟨k, hk, rfl⟩ := List.mem_iff_getElem.1 hx
  have := hall k hk
  rw [headD_drop hk] at this
  exact ⟨_, this⟩

/-- R793: over edges between nodes numbered below `n`, the searches from each node report the elementary cycles. -/
theorem mem_cycles {edges : List (Nat × Nat)} {n : Nat} (h : ∀ e ∈ edges, e.1 < n) (c : List Nat) :
    c ∈ (List.range n).flatMap (fun i => cyclesFrom edges i (n + 1) [i] i) ↔ ElementaryCycle edges c := by
  simp only [List.mem_flatMap, List.mem_range, mem_cyclesFrom]
  constructor
  · rintro ⟨i, -, ext, -, hc, hchain, hlast, hall, hnodup⟩
    exact elementaryCycle_iff.2 ⟨i, ext, hc, hchain, hlast, fun x hx => (hall x hx).1, hnodup⟩
  · intro hcycle
    have hbelow {x : Nat} (hx : x ∈ c) : x < n := by
      obtain ⟨y, hy⟩ := exists_edge_of_mem_cycle hcycle hx
      exact h _ hy
    have hlen : c.length ≤ n := by
      have := (hcycle.2.1.subperm fun x hx => List.mem_range.2 (hbelow hx)).length_le
      rwa [List.length_range] at this
    obtain ⟨i, ext, rfl, hchain, hlast, habove, hnodup⟩ := elementaryCycle_iff.1 hcycle
    refine ⟨i, hbelow List.mem_cons_self, ext, by rw [List.length_cons] at hlen; omega, rfl, hchain, hlast, fun x hx => ⟨habove x hx, ?_⟩, hnodup⟩
    simpa using (habove x hx).ne'

/-- Settles O46: the nodes and the edges by what the two lists are folded from, and the cycles by what the search from each node finds. -/
theorem waitGraphIsExact : Obligations.WaitGraphIsExact := by
  unfold Obligations.WaitGraphIsExact
  intro s
  have hnodes : s.buildGraph.nodes = s.graphNodes.map (fun n => (n, s.waitOf n)) := rfl
  have hmem (n : Nat) : (∃ x ∈ s.buildGraph.nodes, x.1 = n) ↔ n ∈ s.graphNodes := by simp [hnodes]
  have hlength : s.buildGraph.nodes.length = s.graphNodes.length := by rw [hnodes, List.length_map]
  have hcycles : s.buildGraph.cycles = ((List.range s.graphNodes.length).flatMap
      (fun i => cyclesFrom s.buildGraph.edges i (s.graphNodes.length + 1) [i] i)).take 4096 := rfl
  have hsource : ∀ e ∈ s.buildGraph.edges, e.1 < s.graphNodes.length := by
    rintro ⟨i, j⟩ he
    obtain ⟨m, _, hm, -⟩ := (s.mem_graphEdges i j).1 he
    exact (List.getElem?_eq_some_iff.1 hm).1
  refine ⟨rfl, ?_, ?_, fun hlt e he => ?_, fun i j => ?_, fun c hc => ?_, fun hlt c hc => ?_⟩
  · rw [hnodes, List.pairwise_map]
    exact s.graphNodes_rising
  · rw [hnodes]
    intro e he
    obtain ⟨n, _, rfl⟩ := List.mem_map.1 he
    rfl
  · rw [hlength] at hlt
    have hfirst {x : Nat} (hx : x = e.1 ∨ x = e.2.target) : x ∈ s.obs.waiting.flatMap (fun e => [e.1, e.2.target]) :=
      List.mem_flatMap.2 ⟨e, he, by simpa using hx⟩
    simp only [hmem, State.mem_graphNodes hlt]
    refine ⟨.inl (hfirst (.inl rfl)), .inl (hfirst (.inr rfl)), fun n hn => .inr ?_⟩
    rcases hn with hn | hn
    · exact List.mem_flatMap.2 ⟨e.1, hfirst (.inl rfl), (s.mem_edgesOf _ _).2 hn⟩
    · exact List.mem_flatMap.2 ⟨e.2.target, hfirst (.inr rfl), (s.mem_edgesOf _ _).2 hn⟩
  · rw [s.mem_graphEdges]
    simp [hnodes]
  · rw [hcycles] at hc
    exact (mem_cycles hsource c).1 (List.mem_of_mem_take hc)
  · rw [hcycles, List.length_take] at hlt
    rw [hcycles, List.take_of_length_le (by omega)]
    exact (mem_cycles hsource c).2 hc

end Sys2Proof.Machine
end

section
/-!
Proofs for a lane's egress (chapter 03): the fields of a frame as sent, what sending leaves, and the end of withholding.
-/
open Sys2Proof Sys2Proof.Machine Sys2Proof.Claims

namespace Sys2Proof.Machine

/-! ### Fields of a frame -/

/-- A field of a string of bytes behind a first part. -/
theorem slice_append_of_le {a : Bytes} {off : Nat} (h : a.length ≤ off) (b : Bytes) (len : Nat) : slice (a ++ b) off len = slice b (off - a.length) len := by
  rw [slice, List.drop_append, List.drop_eq_nil_of_le h, List.nil_append, slice]

theorem leAt_append_of_le {a : Bytes} {off : Nat} (h : a.length ≤ off) (b : Bytes) (len : Nat) : leAt (a ++ b) off len = leAt b (off - a.length) len :=
  congrArg leNat (slice_append_of_le h b len)

theorem length_beBytes (w n : Nat) : (beBytes w n).length = w := by rw [beBytes, List.length_reverse, length_leBytes]

theorem length_zeroBytes (w : Nat) : (zeroBytes w).length = w := List.length_replicate

theorem VerdictRec.length_bytes (r : VerdictRec) : r.bytes.length = 16 := by simp [VerdictRec.bytes, length_leBytes]

theorem length_verdictBytes (recs : List VerdictRec) : (recs.flatMap VerdictRec.bytes).length = 16 * recs.length := by
  induction recs with
  | nil => rfl
  | cons r recs ih => rw [List.flatMap_cons, List.length_append, r.length_bytes, ih, List.length_cons]; omega

/-- The Ethernet header of a lane's frames. -/
def State.dlfHead (s : State) (n : Nat) : Bytes := leBytes 6 (s.setting 0x2005 n 0) ++ s.srcMac n ++ beBytes 2 (s.dlfType n)

theorem State.length_dlfHead (s : State) (n : Nat) : (s.dlfHead n).length = 14 := by
  simp [State.dlfHead, State.srcMac, length_leBytes, length_beBytes]

/-- R79 (Table 03-4): a frame field by field, up to the padding. -/
theorem State.dlfFrame_eq (s : State) (n ft : Nat) (recs : List VerdictRec) :
    s.dlfFrame n ft recs = s.dlfHead n ++ (leBytes 1 1 ++ (leBytes 1 ft ++ (leBytes 2 (s.lane n).txSeq ++ (leBytes 1 n ++ (leBytes 1 recs.length ++
      (leBytes 2 0 ++ (leBytes 2 (s.limitToSend n) ++ (leBytes 2 ((s.lane n).rxSeq.getD 0) ++ (leBytes 2 (s.lane n).rxDiscard ++ (leBytes 2 0 ++
      (leBytes 8 s.nt ++ (leBytes 2 0 ++ (recs.flatMap VerdictRec.bytes ++ zeroBytes (20 - 16 * recs.length)))))))))))))) := by
  have hpad (a : Nat) : 60 - (6 + (6 + (2 + (1 + (1 + (2 + (1 + (1 + (2 + (2 + (2 + (2 + (2 + (8 + (2 + a))))))))))))))) = 20 - a := by omega
  simp only [State.dlfFrame, padFrame, State.dlfHead, State.srcMac, List.append_assoc, List.length_append, length_leBytes, length_beBytes,
    length_verdictBytes, hpad]

theorem State.length_dlfFrame (s : State) (n ft : Nat) (recs : List VerdictRec) : (s.dlfFrame n ft recs).length = max 60 (40 + 16 * recs.length) := by
  rw [s.dlfFrame_eq]
  simp only [List.length_append, length_leBytes, length_verdictBytes, length_zeroBytes, s.length_dlfHead]
  omega

/-- R79, R96, R104: the fields that a frame's reader finds. -/
theorem State.dlfFrame_fields {n ft : Nat} {recs : List VerdictRec} (s : State) (hn : n < 48) (hft : ft < 256) (hrecs : recs.length ≤ 64) :
    let frame := s.dlfFrame n ft recs
    leAt frame 14 1 = 1 ∧ leAt frame 15 1 = ft ∧ leAt frame 18 1 = n ∧ leAt frame 19 1 = recs.length ∧
      leAt frame 16 2 = (s.lane n).txSeq % 65536 ∧ leAt frame 22 2 = s.limitToSend n % 65536 ∧ slice frame 40 (16 * recs.length) = recs.flatMap VerdictRec.bytes := by
  have hskip {off : Nat} (h : 14 ≤ off) (b : Bytes) (len : Nat) : leAt (s.dlfHead n ++ b) off len = leAt b (off - 14) len := by
    rw [leAt_append_of_le (by rw [s.length_dlfHead]; exact h), s.length_dlfHead]
  simp only [s.dlfFrame_eq]
  refine ⟨?_, ?_, ?_, ?_, ?_, ?_, ?_⟩
  case refine_7 =>
    rw [slice_append_of_le (by rw [s.length_dlfHead]; omega), s.length_dlfHead]
    iterate 12 rw [slice_leBytes_append_of_le (by norm_num)]
    exact List.take_left' (length_verdictBytes recs)
  all_goals
    rw [hskip (by norm_num)]
    simp only [Nat.reduceSub, Nat.reduceLeDiff, leAt_leBytes_append_of_le, leAt_leBytes_append_mod]
    omega

/-! ### Sending -/

theorem State.sendDlf_eq (s : State) (n ft : Nat) (recs : List VerdictRec) :
    ∃ x : Lane, s.sendDlf n ft recs = ((s.emit (.laneFrame n (s.dlfFrame n ft recs))).setLane n x).bumpN (Ctr.laneVerdictsTx n) recs.length ∧
      x.txSeq = ((s.lane n).txSeq + 1) % 65536 ∧ x.limitSent = some (s.limitToSend n) ∧ x.lastTx = s.nt + wireNt (8 + (s.dlfFrame n ft recs).length + 4) ∧
      x.verdicts = (s.lane n).verdicts.drop recs.length ∧ x.controlDue = false :=
  ⟨_, rfl, rfl, rfl, rfl, rfl, rfl⟩

/-- What an instruction gives that sends a frame of the lane with these records. -/
theorem sends_of_gives {i : Instr} {n ft : Nat} {recs : List VerdictRec} {s : State} (hn : n < 48) (hft : ft < 256) (hrecs : recs.length ≤ 64)
    (h : Gives i s (s.sendDlf n ft recs)) : Sends i n ft recs s := by
  obtain ⟨x, hx, hseq, hlimit, hlast, hverdicts, hcontrol⟩ := s.sendDlf_eq n ft recs
  obtain ⟨h14, h15, h18, h19, h16, h22, h40⟩ := s.dlfFrame_fields hn hft hrecs
  have hlen := s.length_dlfFrame n ft recs
  have hlane : (s.sendDlf n ft recs).lane n = x := by rw [hx]; exact State.lane_setLane ..
  refine ⟨_, s.dlfFrame n ft recs, h, by rw [hx]; rfl, h14, h15, h18, h19, h16, h22, h40, by omega, by omega, ?_⟩
  rw [hlane]
  exact ⟨hseq, hlimit, hlast, hverdicts, hcontrol, fun j hj => by rw [hx]; exact State.lane_setLane_other _ _ hj⟩

section
variable {lane : Nat} {s : State} (hfree : s.hallFree = true) (hup : s.receives lane = true) (hegress : (s.lane lane).egressFree ≤ s.nt)

include hup hegress in
theorem State.egressIdle_of_free : s.egressIdle lane = true := by simp [State.egressIdle, hup, hegress]

include hfree hup hegress

theorem exec_verdictFrame (hrecs : (s.lane lane).verdicts ≠ []) :
    Gives (.verdictFrame lane) s (s.sendDlf lane 2 ((s.lane lane).verdicts.take 64)) := by
  change execVerdictFrame lane s = _
  have hne : ((s.lane lane).verdicts.take 64).isEmpty = false := by simp [hrecs]
  simp only [execVerdictFrame, State.whenFree_of_free hfree, State.egressIdle_of_free hup hegress, hne]
  rfl

theorem exec_controlFrameCredit (hrecs : (s.lane lane).verdicts = []) (hdue : s.controlOwed lane = true) :
    Gives (.controlFrameCredit lane) s (s.sendDlf lane 3 []) := by
  change execControlFrameCredit lane s = _
  rw [execControlFrameCredit, State.whenFree_of_free hfree, State.egressIdle_of_free hup hegress, hrecs, hdue]
  rfl

theorem exec_controlFrameIdle (hrecs : (s.lane lane).verdicts = []) (hidle : (s.lane lane).lastTx + 160000 ≤ s.nt) :
    Gives (.controlFrameIdle lane) s (s.sendDlf lane 3 []) := by
  change execControlFrameIdle lane s = _
  rw [execControlFrameIdle, State.whenFree_of_free hfree, State.egressIdle_of_free hup hegress]
  simp only [hrecs, decide_eq_true hidle]
  rfl

end

theorem egressFrames : Claims.EgressFrames := by
  intro lane s hlane hfree hup hegress
  have hcontrol {i : Instr} (h : Gives i s (s.sendDlf lane 3 [])) : Sends i lane 3 [] s := sends_of_gives hlane (by omega) (by simp) h
  refine ⟨fun hrecs => sends_of_gives hlane (by omega) (by simp) (exec_verdictFrame hfree hup hegress hrecs), fun hrecs hlimit hlast => ?_,
    fun hrecs hdue => ?_, fun hrecs hidle => hcontrol (exec_controlFrameIdle hfree hup hegress hrecs hidle)⟩
  · exact hcontrol (exec_controlFrameCredit hfree hup hegress hrecs (by simp [State.controlOwed, hlimit, hlast]))
  · exact hcontrol (exec_controlFrameCredit hfree hup hegress hrecs (by simp [State.controlOwed, hdue]))

/-! ### The end of withholding -/

/-- A CONTROL frame falls due on a lane that is up. -/
def State.oweControl (s : State) (n : Nat) : State :=
  if (s.lane n).up then s.setLane n { s.lane n with controlDue := true } else s

theorem State.lane_oweControl (s : State) (n j : Nat) :
    (s.oweControl n).lane j = if j = n ∧ (s.lane j).up = true then { s.lane j with controlDue := true } else s.lane j := by
  unfold State.oweControl
  by_cases hj : j = n
  · subst hj
    split <;> simp [*]
  · split <;> simp [hj, State.lane_setLane_other]

/-- The lanes up among those named owe a CONTROL frame; nothing but lanes changes. -/
theorem State.foldl_oweControl (l : List Nat) (s : State) :
    (∃ lanes, l.foldl State.oweControl s = { s with hall := { s.hall with lanes := lanes } }) ∧
      ∀ j, (l.foldl State.oweControl s).lane j = if j ∈ l ∧ (s.lane j).up = true then { s.lane j with controlDue := true } else s.lane j := by
  induction l generalizing s with
  | nil => exact ⟨⟨_, rfl⟩, fun j => by simp⟩
  | cons n l ih =>
    obtain ⟨⟨lanes, hfold⟩, hlane⟩ := ih (s.oweControl n)
    obtain ⟨own, hn⟩ : ∃ own, s.oweControl n = { s with hall := { s.hall with lanes := own } } := by
      unfold State.oweControl; split <;> exact ⟨_, rfl⟩
    refine ⟨⟨lanes, by rw [List.foldl_cons, hfold, hn]⟩, fun j => (hlane j).trans ?_⟩
    have hown := s.lane_oweControl n j
    cases hup : (s.lane j).up with
    | false =>
      rw [if_neg (by simp [hup])] at hown
      simp [hown, hup]
    | true =>
      by_cases hj : j = n
      · rw [if_pos ⟨hj, hup⟩] at hown
        rw [hown, if_pos (c := j ∈ n :: l ∧ _) ⟨List.mem_cons.2 (.inl hj), rfl⟩]
        split <;> rfl
      · rw [if_neg (by simp [hj])] at hown
        simp only [hown, hj, hup, and_true, List.mem_cons, false_or]

theorem exec_creditResume {s : State} (hheld : s.hall.withheld = true) (hqueues : ∀ n ∈ s.queueLengths, n ≤ 1024) (hfree : s.hallFree = true) :
    Gives .creditResume s ((List.range s.lanesN).foldl State.oweControl { s with hall := { s.hall with withheld := false } }) := by
  change execCreditResume s = _
  have hall : s.queueLengths.all (fun n => decide (n ≤ 1024)) = true := by simpa using hqueues
  rw [execCreditResume, State.whenFree_of_free hfree, hheld, hall]
  rfl

theorem creditsResume : Claims.CreditsResume := by
  refine ⟨fun s n hheld => by rw [State.limitToSend, if_pos hheld], fun s hheld hqueues hfree => ?_⟩
  obtain ⟨⟨lanes, hframe⟩, hlane⟩ := State.foldl_oweControl (List.range s.lanesN) { s with hall := { s.hall with withheld := false } }
  refine ⟨_, exec_creditResume hheld hqueues hfree, ?_, fun n hn hup => ?_, fun n hn => ?_, by rw [hframe]⟩
  · rw [hframe]
  · rw [hlane, if_pos ⟨List.mem_range.2 hn, hup⟩]
    rfl
  · rw [hlane, if_neg]
    · rfl
    · rintro ⟨hmem, hup⟩
      rcases hn with hn | hn
      · exact absurd (List.mem_range.1 hmem) (by omega)
      · exact absurd (hup.symm.trans hn) Bool.noConfusion

/-- Settles O7: the frames by the fields of the one frame that an egress sends, and the end of withholding lane by lane. -/
theorem egressAndCredits : Obligations.EgressAndCredits := by
  unfold Obligations.EgressAndCredits
  exact ⟨egressFrames, creditsResume⟩

end Sys2Proof.Machine
end

section
/-!
Proofs for the frames that a lane receives (chapter 03): the slots of an accepted DIGEST frame one after another, the frames that are counted
or discarded, and what all of them leave.
-/
open Sys2Proof Sys2Proof.Machine Sys2Proof.Claims

namespace Sys2Proof.Machine

/-! ### What a lane's frames can change -/

/-- Nothing but lane `n`, counters and the pair's stamps changes. -/
structure OnLane (n : Nat) (s t : State) : Prop where
  frame : ∃ lanes counters stamps, t = { s with hall := { s.hall with lanes := lanes }, counters := counters, pair := { s.pair with stamps := stamps } }
  others : ∀ j, j ≠ n → t.lane j = s.lane j

theorem OnLane.refl (n : Nat) (s : State) : OnLane n s s := ⟨⟨_, _, _, rfl⟩, fun _ _ => rfl⟩

theorem OnLane.trans {n : Nat} {s t u : State} (h : OnLane n s t) (h' : OnLane n t u) : OnLane n s u := by
  obtain ⟨⟨lanes, counters, stamps, rfl⟩, hothers⟩ := h
  obtain ⟨⟨lanes', counters', stamps', rfl⟩, hothers'⟩ := h'
  exact ⟨⟨lanes', counters', stamps', rfl⟩, fun j hj => (hothers' j hj).trans (hothers j hj)⟩

theorem OnLane.setLane (n : Nat) (s : State) (x : Lane) : OnLane n s (s.setLane n x) := ⟨⟨_, _, _, rfl⟩, fun _ hj => s.lane_setLane_other x hj⟩

theorem OnLane.bumpN (n : Nat) (s : State) (id k : Nat) : OnLane n s (s.bumpN id k) := ⟨⟨_, _, _, rfl⟩, fun _ _ => rfl⟩

theorem OnLane.bump (n : Nat) (s : State) (id : Nat) : OnLane n s (s.bump id) := OnLane.bumpN n s id 1

theorem OnLane.onlyLanes {n : Nat} {s t : State} (h : OnLane n s t) : OnlyLanes s t := by
  obtain ⟨⟨lanes, counters, stamps, rfl⟩, -⟩ := h
  rfl

theorem OnLane.fecCount (s : State) (n corrected uncorrectable : Nat) : OnLane n s (s.fecCount n corrected uncorrectable) :=
  (OnLane.setLane ..).trans ((OnLane.bumpN ..).trans (OnLane.bumpN ..))

theorem OnLane.discardFrame (s : State) (n : Nat) (d : Discard) : OnLane n s (s.discardFrame n d) := (OnLane.setLane ..).trans (OnLane.bump ..)

/-- R103: an accepted frame's numbers, with or without a gap counted before its sequence number. -/
theorem State.acceptFrame_eq (s : State) (n : Nat) (frame : Bytes) :
    let t := (s.setLane n { (s.lane n).keepLimit s.nt with rxSeq := some (leAt frame 16 2), lastConsumed := leAt frame 22 2 }).bump (Ctr.laneFramesRx n)
    s.acceptFrame n frame = t ∨ s.acceptFrame n frame = t.bump (Ctr.laneSeqGap n) := by
  unfold State.acceptFrame
  dsimp only
  split
  · split
    · exact .inl rfl
    · exact .inr rfl
  · exact .inl rfl

theorem OnLane.acceptFrame (s : State) (n : Nat) (frame : Bytes) : OnLane n s (s.acceptFrame n frame) := by
  rcases s.acceptFrame_eq n frame with h | h
  · rw [h]
    exact (OnLane.setLane ..).trans (OnLane.bump ..)
  · rw [h]
    exact (OnLane.setLane ..).trans ((OnLane.bump ..).trans (OnLane.bump ..))

/-! ### Counting and discarding -/

theorem State.lane_fecCount (s : State) (n corrected uncorrectable : Nat) :
    (s.fecCount n corrected uncorrectable).lane n = { s.lane n with corrected := (s.lane n).corrected + corrected } := State.lane_setLane ..

theorem State.ctr_fecCount_other (s : State) {n id : Nat} (corrected uncorrectable : Nat) (hc : id ≠ Ctr.laneFecCorrected n) (hu : id ≠ Ctr.laneFecUncorrectable n) :
    (s.fecCount n corrected uncorrectable).ctr id = s.ctr id :=
  (State.ctr_bumpN_other _ _ hu).trans (State.ctr_bumpN_other _ _ hc)

theorem State.ctr_fecCount_corrected (s : State) (n corrected uncorrectable : Nat) :
    (s.fecCount n corrected uncorrectable).ctr (Ctr.laneFecCorrected n) = min max64 (s.ctr (Ctr.laneFecCorrected n) + corrected) := by
  have hne : Ctr.laneFecCorrected n ≠ Ctr.laneFecUncorrectable n := Ctr.ident_ne_of_index (by decide)
  exact (State.ctr_bumpN_other _ _ hne).trans ((State.ctr_bumpN ..).trans (satAdd_eq_min ..))

/-- A counter of none of the codewords. -/
def CountsNoCodeword (n id : Nat) : Prop := id ≠ Ctr.laneFecCorrected n ∧ id ≠ Ctr.laneFecUncorrectable n

theorem Discard.countsNoCodeword (n : Nat) (d : Discard) : CountsNoCodeword n (d.ctr n) := by
  cases d <;> exact ⟨Ctr.ident_ne_of_index (by decide), Ctr.ident_ne_of_index (by decide)⟩

/-- R112, R539: a frame's codewords are counted, and the lane's last stamp is `last`. -/
structure Counted (n cw : Nat) (last : Option Nat) (s t : State) : Prop where
  lane : t.lane n = { s.lane n with corrected := (s.lane n).corrected + cw, lastStamp := last }
  onLane : OnLane n s t
  ctr : ∀ id, CountsNoCodeword n id → t.ctr id = s.ctr id

theorem Counted.fecCount (s : State) (n cw uw : Nat) : Counted n cw (s.lane n).lastStamp s (s.fecCount n cw uw) :=
  ⟨s.lane_fecCount n cw uw, OnLane.fecCount .., fun _ h => s.ctr_fecCount_other cw uw h.1 h.2⟩

/-- R539: the state behind a frame that arrived whole, with its stamp. -/
def State.stamped (s : State) (n cw uw stamp : Nat) : State :=
  (s.fecCount n cw uw).setLane n { (s.fecCount n cw uw).lane n with lastStamp := some stamp }

theorem Counted.stamped (s : State) (n cw uw stamp : Nat) : Counted n cw (some stamp) s (s.stamped n cw uw stamp) :=
  ⟨by rw [State.stamped, State.lane_setLane, State.lane_fecCount], (OnLane.fecCount ..).trans (OnLane.setLane ..),
    fun _ h => s.ctr_fecCount_other cw uw h.1 h.2⟩

/-- R83, R87, R112: what a frame that is discarded behind its codewords leaves. -/
theorem discards_of_gives {i : Instr} {n cw : Nat} {last : Option Nat} {s t : State} (d : Discard) (ht : Counted n cw last s t)
    (h : Gives i s (t.discardFrame n d)) : Discards i n (d.ctr n) cw last s := by
  have hall := ht.onLane.trans (OnLane.discardFrame t n d)
  refine ⟨_, h, ?_, ?_, hall.others, fun id hid => ?_, hall.onlyLanes⟩
  · refine (State.lane_setLane ..).trans ?_
    rw [ht.lane]
  · exact (State.ctr_bump ..).trans (congrArg (rose · 1) (ht.ctr _ (d.countsNoCodeword n)))
  · simp only [List.mem_cons, List.not_mem_nil, or_false, not_or] at hid
    exact (State.ctr_bump_other _ hid.1).trans (ht.ctr id hid.2)

/-- R84, R558: what a frame that is only counted leaves. -/
theorem countsFrame_of_gives {i : Instr} {n id cw : Nat} {s : State} (hid : CountsNoCodeword n id) (h : Gives i s ((s.fecCount n cw 0).bump id)) :
    CountsFrame i n id cw s := by
  obtain ⟨hc, hu⟩ := hid
  have hall := (OnLane.fecCount s n cw 0).trans (OnLane.bump n _ id)
  refine ⟨_, h, s.lane_fecCount n cw 0, (State.ctr_bump ..).trans (congrArg (rose · 1) (State.ctr_fecCount_other s cw 0 hc hu)),
    (State.ctr_bump_other _ hc.symm).trans (s.ctr_fecCount_corrected n cw 0), hall.others, fun j hj => ?_, hall.onlyLanes⟩
  simp only [List.mem_cons, List.not_mem_nil, or_false, not_or] at hj
  exact (State.ctr_bump_other _ hj.1).trans (State.ctr_fecCount_other s cw 0 hj.2.1 hj.2.2)

/-! ### The frames that arrive -/

theorem arrivedWhole_of_bad {fcs cut : Bool} {uw : Nat} (h : fcs = false ∨ cut = true ∨ uw ≠ 0) : arrivedWhole fcs cut uw = false := by
  rcases h with rfl | rfl | h
  · rfl
  · simp [arrivedWhole]
  · simp [arrivedWhole, h]

/-- R83: a frame with a wrong FCS, a cut or an uncorrectable codeword is discarded by whatever receives it. -/
theorem fcsDiscards {lane age cw uw : Nat} {frame : Bytes} {s : State} {fcs cut : Bool} (hup : s.receives lane = true)
    (hbad : fcs = false ∨ cut = true ∨ uw ≠ 0) :
    Discards (.digest lane age frame fcs cut cw uw) lane (Ctr.laneDiscardFcs lane) cw (s.lane lane).lastStamp s ∧
    Discards (.controlReceive lane frame fcs cut cw uw) lane (Ctr.laneDiscardFcs lane) cw (s.lane lane).lastStamp s ∧
    Discards (.foreignFrame lane frame fcs cut cw uw) lane (Ctr.laneDiscardFcs lane) cw (s.lane lane).lastStamp s ∧
    Discards (.rxIpv6 lane frame fcs cut cw uw) lane (Ctr.laneDiscardFcs lane) cw (s.lane lane).lastStamp s := by
  have hgood := arrivedWhole_of_bad hbad
  have hdiscards {i : Instr} (h : Gives i s ((s.fecCount lane cw uw).discardFrame lane .fcs)) :=
    discards_of_gives .fcs (Counted.fecCount s lane cw uw) h
  refine ⟨hdiscards ?_, hdiscards ?_, hdiscards ?_, hdiscards ?_⟩
  · change execDigest lane age frame fcs cut cw uw s = _
    simp [execDigest, hgood, hup]
  · change execControlReceive lane frame fcs cut cw uw s = _
    simp [execControlReceive, hgood, hup]
  · change execForeignFrame lane frame fcs cut cw uw s = _
    simp [execForeignFrame, hgood, hup]
  · change execRxIpv6 lane frame fcs cut cw uw s = _
    simp [execRxIpv6, hgood, hup]

/-- R83, R539: a DIGEST frame that arrived whole and in time goes on behind its codewords and its stamp. -/
theorem exec_digest {lane age cw : Nat} {frame : Bytes} {s : State} (h : Arrives lane age frame s) (htype : leAt frame 15 1 ≠ 3) :
    Gives (.digest lane age frame true false cw 0) s (
      if frameFormatOk lane 1 frame then
        match ((s.stamped lane cw 0 (s.nt - age)).lane lane).creditCheck (leAt frame 22 2) (leAt frame 19 1 * (slotSize frame / 128)) true with
        | some d => (s.stamped lane cw 0 (s.nt - age)).discardFrame lane d
        | none => takeSlots lane (s.nt - age) (slotSize frame) (leAt frame 19 1) 0 (frame.drop entriesAt) ((s.stamped lane cw 0 (s.nt - age)).acceptFrame lane frame)
      else (s.stamped lane cw 0 (s.nt - age)).discardFrame lane .format) := by
  obtain ⟨-, hup, hage, hfollows, hether⟩ := h
  change execDigest lane age frame true false cw 0 s = _
  have hgood : arrivedWhole true false 0 = true := rfl
  have htype' : (leAt frame 15 1 == 3) = false := beq_eq_false_iff_ne.2 htype
  simp only [execDigest, hgood, hup, hage, hfollows, hether, htype', bne_self_eq_false, decide_true, Bool.and_self, Bool.not_true, Bool.or_self,
    Bool.and_false, Bool.false_eq_true, if_false]
  cases frameFormatOk lane 1 frame <;> rfl

/-- R84, R103: a CONTROL frame of the lane's protocol that arrived whole goes on behind its codewords. -/
theorem exec_controlReceive {lane cw : Nat} {frame : Bytes} {s : State} (hup : s.receives lane = true) (hether : etherType frame = s.dlfType lane)
    (htype : leAt frame 15 1 = 3) :
    Gives (.controlReceive lane frame true false cw 0) s (
      if frameFormatOk lane 3 frame then
        match ((s.fecCount lane cw 0).lane lane).creditCheck (leAt frame 22 2) 0 false with
        | some d => (s.fecCount lane cw 0).discardFrame lane d
        | none => (s.fecCount lane cw 0).acceptFrame lane frame
      else (s.fecCount lane cw 0).discardFrame lane .format) := by
  change execControlReceive lane frame true false cw 0 s = _
  have hgood : arrivedWhole true false 0 = true := rfl
  simp only [execControlReceive, hgood, hup, hether, htype, bne_self_eq_false, Bool.not_true, Bool.or_self, Bool.and_false, Bool.false_eq_true, if_false]
  cases frameFormatOk lane 3 frame <;> rfl

theorem type_of_frameFormatOk {lane ft : Nat} {frame : Bytes} (h : frameFormatOk lane ft frame = true) : leAt frame 15 1 = ft := by
  simp only [frameFormatOk, Bool.and_eq_true, beq_iff_eq] at h
  exact h.1.1.2

/-- R103: the credit check reads the last limit and the last count of the lane; codewords and stamps leave both. -/
theorem Counted.creditCheck {n cw : Nat} {last : Option Nat} {s t : State} (h : Counted n cw last s t) (consumed cost : Nat) (digest : Bool) :
    (t.lane n).creditCheck consumed cost digest = (s.lane n).creditCheck consumed cost digest := by
  rw [h.lane]
  rfl

theorem Lane.creditCheck_overrun {x : Lane} {consumed : Nat} (h : serialLt x.lastLimit consumed = true) (cost : Nat) (digest : Bool) :
    x.creditCheck consumed cost digest = some .overrun := by rw [Lane.creditCheck, if_pos h]

theorem Lane.creditCheck_control {x : Lane} {consumed : Nat} (h : serialLt x.lastLimit consumed = false) (cost : Nat) :
    x.creditCheck consumed cost false = none := by simp [Lane.creditCheck, h]

theorem Lane.creditCheck_digest {x : Lane} {consumed : Nat} (h : serialLt x.lastLimit consumed = false) (cost : Nat) :
    x.creditCheck consumed cost true = if serialLt ((consumed + 65536 - x.lastConsumed % 65536) % 65536) cost then some .creditFormat else none := by
  simp [Lane.creditCheck, h]

theorem frameDiscarded : Claims.FrameDiscarded := by
  intro lane age frame cw uw s hlane hup
  have hstamped := Counted.stamped s lane cw 0 (s.nt - age)
  have hcounted := Counted.fecCount s lane cw 0
  have hdigest (h : frameFormatOk lane 1 frame = true) : leAt frame 15 1 ≠ 3 := by rw [type_of_frameFormatOk h]; decide
  refine ⟨fun fcs cut hbad => fcsDiscards hup hbad, fun harr htype hform => ?_, fun hether htype hform => ?_, fun harr hform hover => ?_,
    fun hether hform hover => ?_, fun harr hform hlimit hadv => ?_⟩
  · refine discards_of_gives .format hstamped ((exec_digest harr htype).trans ?_)
    rw [hform]
    rfl
  · refine discards_of_gives .format hcounted ((exec_controlReceive hup hether htype).trans ?_)
    rw [hform]
    rfl
  · refine discards_of_gives .overrun hstamped ((exec_digest harr (hdigest hform)).trans ?_)
    rw [hform, hstamped.creditCheck, Lane.creditCheck_overrun hover]
    rfl
  · refine discards_of_gives .overrun hcounted ((exec_controlReceive hup hether (type_of_frameFormatOk hform)).trans ?_)
    rw [hform, hcounted.creditCheck, Lane.creditCheck_overrun hover]
    rfl
  · refine discards_of_gives .creditFormat hstamped ((exec_digest harr (hdigest hform)).trans ?_)
    rw [hform, hstamped.creditCheck, Lane.creditCheck_digest hlimit, hadv]
    rfl

theorem State.lane_acceptFrame (s : State) (n : Nat) (frame : Bytes) :
    (s.acceptFrame n frame).lane n = { (s.lane n).keepLimit s.nt with rxSeq := some (leAt frame 16 2), lastConsumed := leAt frame 22 2 } := by
  rcases s.acceptFrame_eq n frame with h | h
  all_goals
    rw [h]
    exact State.lane_setLane ..

theorem State.ctr_acceptFrame (s : State) (n : Nat) (frame : Bytes) : (s.acceptFrame n frame).ctr (Ctr.laneFramesRx n) = rose (s.ctr (Ctr.laneFramesRx n)) 1 := by
  rcases s.acceptFrame_eq n frame with h | h
  · rw [h]
    exact State.ctr_bump ..
  · rw [h]
    exact (State.ctr_bump_other _ (Ctr.ident_ne_of_index (by decide))).trans (State.ctr_bump ..)

theorem State.ctr_acceptFrame_other (s : State) (n : Nat) (frame : Bytes) {id : Nat} (hrx : id ≠ Ctr.laneFramesRx n) (hgap : id ≠ Ctr.laneSeqGap n) :
    (s.acceptFrame n frame).ctr id = s.ctr id := by
  rcases s.acceptFrame_eq n frame with h | h
  · rw [h]
    exact State.ctr_bump_other _ hrx
  · rw [h]
    exact (State.ctr_bump_other _ hgap).trans (State.ctr_bump_other _ hrx)

theorem Counted.keepLimit {n cw : Nat} {last : Option Nat} {s t : State} (h : Counted n cw last s t) (nt : Nat) :
    (t.lane n).keepLimit nt = { (s.lane n).keepLimit nt with corrected := (s.lane n).corrected + cw, lastStamp := last } := by
  rw [h.lane]
  unfold Lane.keepLimit
  dsimp only
  split
  · split <;> rfl
  · rfl

theorem Lane.lastStamp_keepLimit (x : Lane) (nt : Nat) : (x.keepLimit nt).lastStamp = x.lastStamp := by
  unfold Lane.keepLimit
  split
  · split <;> rfl
  · rfl

theorem otherFramesReceived : Claims.OtherFramesReceived := by
  refine ⟨fun lane frame cw s hlane hup hether hform hlimit => ?_, fun lane frame cw s hlane hup hether hv6 => ?_, fun lane frame cw s hlane hup hv6 => ?_⟩
  · have hcounted := Counted.fecCount s lane cw 0
    refine ⟨(s.fecCount lane cw 0).acceptFrame lane frame, (exec_controlReceive hup hether (type_of_frameFormatOk hform)).trans ?_, ?_, ?_, ?_, ?_⟩
    · rw [hform, hcounted.creditCheck, Lane.creditCheck_control hlimit]
      rfl
    · refine (State.lane_acceptFrame ..).trans ?_
      rw [hcounted.keepLimit, ← Lane.lastStamp_keepLimit _ s.nt]
      rfl
    · exact (State.ctr_acceptFrame ..).trans (congrArg (rose · 1) (hcounted.ctr _ ⟨Ctr.ident_ne_of_index (by decide), Ctr.ident_ne_of_index (by decide)⟩))
    · exact (hcounted.onLane.trans (OnLane.acceptFrame ..)).others
    · exact (hcounted.onLane.trans (OnLane.acceptFrame ..)).onlyLanes
  · refine countsFrame_of_gives ⟨Ctr.ident_ne_of_index (by decide), Ctr.ident_ne_of_index (by decide)⟩ ?_
    change execForeignFrame lane frame true false cw 0 s = _
    have hgood : arrivedWhole true false 0 = true := rfl
    simp [execForeignFrame, hgood, hup, hether, hv6]
  · refine countsFrame_of_gives ?_ ?_
    · constructor <;> simp only [Ctr.portRxIpv6, Ctr.laneFecCorrected, Ctr.laneFecUncorrectable, Ctr.ident] <;> omega
    · change execRxIpv6 lane frame true false cw 0 s = _
      have hgood : arrivedWhole true false 0 = true := rfl
      simp [execRxIpv6, hgood, hup, hv6]

/-- Settles O5: what is counted, discarded or accepted of a frame, behind its codewords and its stamp. -/
theorem otherFramesAndDiscards : Obligations.OtherFramesAndDiscards := by
  unfold Obligations.OtherFramesAndDiscards
  exact ⟨frameDiscarded, otherFramesReceived⟩

end Sys2Proof.Machine
end

section
/-!
Proofs for accepted DIGEST frames (chapter 03): one slot, the slots of a frame one after another, and what the lane and its counters hold
behind them.
-/
open Sys2Proof Sys2Proof.Machine Sys2Proof.Claims

namespace Sys2Proof.Machine

/-! ### One slot -/

/-- What a lane keeps while slots are taken. -/
def Lane.numbers (x : Lane) : Option Nat × Nat × Option Nat × Nat × Option Nat × List VerdictRec × Nat :=
  (x.lastStamp, x.lastConsumed, x.rxSeq, x.rxDiscard, x.limitSent, x.verdicts, x.corrected)

/-- R740: the pair's stamp of the lane moves, and a clamped one is counted. -/
theorem State.stampSlot_spec (s : State) (n stamp : Nat) (slot : Bytes) :
    OnLane n s (s.stampSlot n stamp slot).2 ∧ (∀ j, (s.stampSlot n stamp slot).2.lane j = s.lane j) ∧
      ∀ id, id ≠ Ctr.pairStampClamped → (s.stampSlot n stamp slot).2.ctr id = s.ctr id := by
  unfold State.stampSlot
  split
  · dsimp only
    split
    · exact ⟨⟨⟨_, _, _, rfl⟩, fun _ _ => rfl⟩, fun _ => rfl, fun id h => State.ctr_bump_other _ h⟩
    · exact ⟨⟨⟨_, _, _, rfl⟩, fun _ _ => rfl⟩, fun _ => rfl, fun _ _ => rfl⟩
  · exact ⟨OnLane.refl .., fun _ => rfl, fun _ _ => rfl⟩

/-- R85, R86, R88: what taking the slots `l`, with their positions, leaves. -/
structure TakesSlots (n stamp : Nat) (l : List (Nat × Bytes)) (s t : State) : Prop where
  onLane : OnLane n s t
  buf : (t.lane n).buf.map slotOf = (s.lane n).buf.map slotOf ++ (l.filter (fun e => slotOk e.2)).map (fun e => (stamp, n, e.1, e.2.length / 128, e.2))
  numbers : (t.lane n).numbers = (s.lane n).numbers
  framesRx : t.ctr (Ctr.laneFramesRx n) = s.ctr (Ctr.laneFramesRx n)
  accepted : t.ctr (Ctr.laneSlotsAccepted n) = rose (s.ctr (Ctr.laneSlotsAccepted n)) (l.filter (fun e => slotOk e.2)).length
  rejected : t.ctr (Ctr.laneSlotReject n) = rose (s.ctr (Ctr.laneSlotReject n)) (l.length - (l.filter (fun e => slotOk e.2)).length)

theorem TakesSlots.nil (n stamp : Nat) (s : State) : TakesSlots n stamp [] s s :=
  ⟨OnLane.refl .., by simp, rfl, rfl, rfl, rfl⟩

theorem Lane.numbers_crossCheck (x : Lane) (stamp : Nat) (v : Int) (slot : Bytes) : (x.crossCheck stamp v slot).numbers = x.numbers := by
  unfold Lane.crossCheck; split <;> rfl

theorem Lane.buf_crossCheck (x : Lane) (stamp : Nat) (v : Int) (slot : Bytes) : (x.crossCheck stamp v slot).buf = x.buf := by
  unfold Lane.crossCheck; split <;> rfl

theorem Ctr.lane_ne_pairStampClamped {i k : Nat} (hi : i < 48) (hk : k < 4096) : Ctr.ident 4 i k ≠ Ctr.pairStampClamped := by
  simp only [Ctr.pairStampClamped, Ctr.ident]
  omega

theorem rose_add (a m n : Nat) : rose (rose a m) n = rose a (m + n) := by
  simp only [rose]
  split <;> split <;> split <;> omega

theorem State.takeSlot_spec {n : Nat} (hn : n < 48) (s : State) (stamp pos : Nat) (slot : Bytes) :
    TakesSlots n stamp [(pos, slot)] s (s.takeSlot n stamp pos slot) := by
  have hk {k : Nat} (h : k < 4096) := Ctr.lane_ne_pairStampClamped hn h
  unfold State.takeSlot
  split
  · next hok =>
    obtain ⟨hon, hlane, hctr⟩ := s.stampSlot_spec n stamp slot
    have hfilter : [(pos, slot)].filter (fun e => slotOk e.2) = [(pos, slot)] := List.filter_cons_of_pos hok
    refine ⟨hon.trans ((OnLane.setLane ..).trans (OnLane.bump ..)), ?_, ?_, ?_, ?_, ?_⟩
    · refine (congrArg (fun x : Lane => x.buf.map slotOf) (State.lane_setLane ..)).trans ?_
      simp [Lane.buf_crossCheck, hlane, hok, slotOf]
    · refine (congrArg Lane.numbers (State.lane_setLane ..)).trans ?_
      refine (Lane.numbers_crossCheck ((s.stampSlot n stamp slot).2.lane n) _ _ slot).trans ?_
      rw [hlane]
    · exact (State.ctr_bump_other _ (Ctr.ident_ne_of_index (by decide))).trans (hctr _ (hk (by decide)))
    · refine (State.ctr_bump ..).trans ?_
      rw [hfilter]
      exact congrArg (rose · 1) (hctr _ (hk (by decide)))
    · refine (State.ctr_bump_other _ (Ctr.ident_ne_of_index (by decide))).trans ?_
      rw [hfilter]
      exact hctr _ (hk (by decide))
  · next hok =>
    have hfilter : [(pos, slot)].filter (fun e => slotOk e.2) = [] := List.filter_cons_of_neg hok
    refine ⟨OnLane.bump .., ?_, rfl, ?_, ?_, ?_⟩
    · rw [hfilter]
      exact (List.append_nil _).symm
    · exact State.ctr_bump_other _ (Ctr.ident_ne_of_index (by decide))
    · rw [hfilter]
      exact State.ctr_bump_other _ (Ctr.ident_ne_of_index (by decide))
    · rw [hfilter]
      exact State.ctr_bump ..

/-! ### The slots of a frame -/

theorem TakesSlots.trans {n stamp : Nat} {l l' : List (Nat × Bytes)} {s t u : State} (h : TakesSlots n stamp l s t) (h' : TakesSlots n stamp l' t u) :
    TakesSlots n stamp (l ++ l') s u := by
  refine ⟨h.onLane.trans h'.onLane, ?_, h'.numbers.trans h.numbers, h'.framesRx.trans h.framesRx, ?_, ?_⟩
  · rw [h'.buf, h.buf, List.filter_append, List.map_append, List.append_assoc]
  · rw [h'.accepted, h.accepted, rose_add, List.filter_append, List.length_append]
  · have := List.length_filter_le (fun e : Nat × Bytes => slotOk e.2) l
    have := List.length_filter_le (fun e : Nat × Bytes => slotOk e.2) l'
    rw [h'.rejected, h.rejected, rose_add, List.filter_append, List.length_append, List.length_append]
    congr 1
    omega

/-- The slots of a frame from number `i` on, with their positions. -/
def slotsFrom (bs : Bytes) (size i k : Nat) : List (Nat × Bytes) := (List.range' i k).map (fun j => (j, slice bs (entriesAt + j * size) size))

theorem takeSlots_spec {n : Nat} (hn : n < 48) (stamp size : Nat) (bs : Bytes) (k i : Nat) (s : State) :
    TakesSlots n stamp (slotsFrom bs size i k) s (takeSlots n stamp size k i (bs.drop (entriesAt + i * size)) s) := by
  induction k generalizing i s with
  | zero => exact TakesSlots.nil ..
  | succ k ih =>
    have hdrop : (bs.drop (entriesAt + i * size)).drop size = bs.drop (entriesAt + (i + 1) * size) := by
      rw [List.drop_drop, Nat.add_mul, Nat.one_mul, Nat.add_assoc]
    have hone := s.takeSlot_spec hn stamp i (slice bs (entriesAt + i * size) size)
    rw [takeSlots, hdrop]
    exact hone.trans (ih (i + 1) _)

theorem acceptedSlots_eq (frame : Bytes) : acceptedSlots frame = (slotsFrom frame (slotSize frame) 0 (leAt frame 19 1)).filter (fun e => slotOk e.2) := by
  rw [acceptedSlots, slotsFrom, List.range_eq_range']
  rfl

/-- R83: the slots of a frame of the right form have its slot size. -/
theorem length_slotsFrom {lane : Nat} {frame : Bytes} (h : frameFormatOk lane 1 frame = true) :
    ∀ e ∈ slotsFrom frame (slotSize frame) 0 (leAt frame 19 1), e.2.length = slotSize frame := by
  simp only [frameFormatOk, if_true, Bool.and_eq_true, beq_iff_eq] at h
  obtain ⟨-, -, hlen⟩ := h
  intro e he
  obtain ⟨j, hj, rfl⟩ := List.mem_map.1 he
  rw [List.mem_range'_1] at hj
  have : (j + 1) * slotSize frame ≤ leAt frame 19 1 * slotSize frame := Nat.mul_le_mul_right _ (by omega)
  simp only [slice, List.length_take, List.length_drop, hlen]
  rw [Nat.add_mul] at this
  omega

theorem Lane.numbers_keepLimit (x : Lane) (nt : Nat) : (x.keepLimit nt).numbers = x.numbers := by
  unfold Lane.keepLimit
  split
  · split <;> rfl
  · rfl

theorem Lane.buf_keepLimit (x : Lane) (nt : Nat) : (x.keepLimit nt).buf = x.buf := by
  unfold Lane.keepLimit
  split
  · split <;> rfl
  · rfl

/-- Settles O4: the stamp and the numbers of the frame, then its slots one after another. -/
theorem digestAccepted : Obligations.DigestAccepted := by
  unfold Obligations.DigestAccepted
  intro lane age frame cw s harr ⟨hform, hlimit, hadv⟩
  obtain ⟨hlane, hup, hrest⟩ := harr
  have hst := Counted.stamped s lane cw 0 (s.nt - age)
  have hslots := takeSlots_spec hlane (s.nt - age) (slotSize frame) frame (leAt frame 19 1) 0 ((s.stamped lane cw 0 (s.nt - age)).acceptFrame lane frame)
  rw [Nat.zero_mul, Nat.add_zero] at hslots
  obtain ⟨hon, hbuf, hnumbers, hrx, haccepted, hrejected⟩ := hslots
  rw [← acceptedSlots_eq] at hbuf haccepted hrejected
  have hall := (hst.onLane.trans (OnLane.acceptFrame ..)).trans hon
  have hctr {k : Nat} (hc : k ≠ 12) (hu : k ≠ 13) := hst.ctr (Ctr.ident 4 lane k) ⟨Ctr.ident_ne_of_index hc, Ctr.ident_ne_of_index hu⟩
  have hbefore {k : Nat} (hrx : k ≠ 0) (hgap : k ≠ 8) (hc : k ≠ 12) (hu : k ≠ 13) :=
    (State.ctr_acceptFrame_other (s.stamped lane cw 0 (s.nt - age)) lane frame (id := Ctr.ident 4 lane k)
      (Ctr.ident_ne_of_index hrx) (Ctr.ident_ne_of_index hgap)).trans (hctr hc hu)
  rw [State.lane_acceptFrame, hst.keepLimit] at hbuf hnumbers
  have hkept := (s.lane lane).numbers_keepLimit (s.stamped lane cw 0 (s.nt - age)).nt
  simp only [Lane.numbers, Prod.mk.injEq] at hnumbers hkept
  obtain ⟨hlast, hconsumed, hseq, hdiscard, hsent, hverdicts, hcorrected⟩ := hnumbers
  obtain ⟨-, -, -, hdiscard', hsent', hverdicts', -⟩ := hkept
  refine ⟨_, (exec_digest ⟨hlane, hup, hrest⟩ ?_).trans ?_, ?_, hlast, hconsumed, hseq, hdiscard.trans hdiscard', hsent.trans hsent', hverdicts.trans hverdicts',
    hcorrected, ?_, ?_, ?_, hall.others, hall.onlyLanes⟩
  · rw [type_of_frameFormatOk hform]
    decide
  · rw [hform, hst.creditCheck, Lane.creditCheck_digest hlimit, hadv]
    rfl
  · refine hbuf.trans (congrArg₂ (· ++ ·) (congrArg (List.map slotOf) (Lane.buf_keepLimit ..)) (List.map_congr_left fun e he => ?_))
    rw [acceptedSlots_eq] at he
    rw [length_slotsFrom hform e (List.mem_of_mem_filter he)]
  · rw [hrx, State.ctr_acceptFrame]
    exact congrArg (rose · 1) (hctr (by decide) (by decide))
  · exact haccepted.trans (congrArg (rose · _) (hbefore (by decide) (by decide) (by decide) (by decide)))
  · rw [hrejected, slotsFrom, List.length_map, List.length_range']
    exact congrArg (rose · _) (hbefore (by decide) (by decide) (by decide) (by decide))

end Sys2Proof.Machine
end

section
/-!
Proofs for the Porch (chapter 04): an unclassified digest from its lane buffer to its record, and the fragment table's answers.
-/
open Sys2Proof Sys2Proof.Machine Sys2Proof.Claims

namespace Sys2Proof.Machine

/-! ### Unclassified digests -/

/-- R147: what counting a parse and taking its slot leave. -/
structure Parses (s t : State) : Prop where
  frame : ∃ counters lanes, t = { s with counters := counters, hall := { s.hall with lanes := lanes } }

theorem State.countParse_eq (s : State) (x : Parsed) : ∃ counters, s.countParse x = { s with counters := counters } := by
  unfold State.countParse
  dsimp only
  split <;> exact ⟨_, rfl⟩

theorem Ctr.hallPorch_ne_reason {k : Nat} (h : k = 0 ∨ k = 24) (x : Nat) : Ctr.ident 1 0 k ≠ Ctr.hallPorchReason (reasonCodes.idxOf x) := by
  have hle := List.idxOf_le_length (a := x) (l := reasonCodes)
  have hlen : reasonCodes.length = 22 := rfl
  refine Ctr.ident_ne_of_index ?_
  omega

theorem State.ctr_countParse (s : State) (x : Parsed) :
    (s.countParse x).ctr Ctr.hallPorchParsed = rose (s.ctr Ctr.hallPorchParsed) 1 ∧
      (s.countParse x).ctr Ctr.hallPorchUnclassified = s.ctr Ctr.hallPorchUnclassified := by
  have hparsed : ((s.bump Ctr.hallPorchParsed).bump (Ctr.hallPorchReason (reasonCodes.idxOf x.reason))).ctr Ctr.hallPorchParsed = rose (s.ctr Ctr.hallPorchParsed) 1 :=
    (State.ctr_bump_other _ (Ctr.hallPorch_ne_reason (.inl rfl) _)).trans (State.ctr_bump ..)
  have hunclassified : ((s.bump Ctr.hallPorchParsed).bump (Ctr.hallPorchReason (reasonCodes.idxOf x.reason))).ctr Ctr.hallPorchUnclassified = s.ctr Ctr.hallPorchUnclassified :=
    (State.ctr_bump_other _ (Ctr.hallPorch_ne_reason (.inr rfl) _)).trans (State.ctr_bump_other _ (by decide))
  unfold State.countParse
  dsimp only
  split
  · exact ⟨(State.ctr_bump_other _ (by decide)).trans hparsed, (State.ctr_bump_other _ (by decide)).trans hunclassified⟩
  · exact ⟨hparsed, hunclassified⟩

theorem State.parseSlot_unclassified {s : State} {k : Slot} (h : (s.bank (s.bankAt k.at_)).lookup s.nt
      (((s.parseCtx (s.bankAt k.at_) (s.seenAt k) k.data).parse k.data).key k.lane k.data) = none) :
    s.parseSlot k = ((s.takeFromLane k).countParse ((s.parseCtx (s.bankAt k.at_) (s.seenAt k) k.data).parse k.data)).unclassified
      ((s.parseCtx (s.bankAt k.at_) (s.seenAt k) k.data).parse k.data) { k with seen := s.seenAt k } (s.bankAt k.at_) := by
  have hbank : (s.takeFromLane k).bankAt k.at_ = s.bankAt k.at_ := rfl
  have hseen : (s.takeFromLane k).seenAt k = s.seenAt k := rfl
  have hctx (b seen : Nat) : (s.takeFromLane k).parseCtx b seen k.data = s.parseCtx b seen k.data := rfl
  have hlook (x : Parsed) (b : Nat) : ((s.takeFromLane k).countParse x).bank b = s.bank b ∧ ((s.takeFromLane k).countParse x).nt = s.nt := by
    obtain ⟨counters, hc⟩ := (s.takeFromLane k).countParse_eq x
    rw [hc]
    exact ⟨rfl, rfl⟩
  unfold State.parseSlot
  simp only [hbank, hseen, hctx, (hlook _ _).1, (hlook _ 0).2, h]

/-- R57, R118: a record reaches the lane of its digest's link. -/
theorem State.toLane_up {s : State} {k : Slot} {r : VerdictRec} (hup : (s.lane k.lane).up = true) (hsession : (s.lane k.lane).session = k.session) :
    (s.toLane k r).hall = (s.setLane k.lane { s.lane k.lane with verdicts := (s.lane k.lane).verdicts ++ [r] }).hall ∧
      ∀ id, id ≠ bufCtr 0 1 → (s.toLane k r).ctr id = s.ctr id := by
  unfold State.toLane
  split
  · dsimp only
    rw [State.lane_of_hall (State.trace_hall ..), if_pos ⟨hup, hsession⟩]
    exact ⟨by simp only [State.setLane, State.trace_hall], fun id hid => State.ctr_trace_other _ _ hid⟩
  · dsimp only
    rw [if_pos ⟨hup, hsession⟩]
    exact ⟨rfl, fun _ _ => rfl⟩

theorem Ctr.fragBypass_ne_hallPorch {k : Nat} (hk : k < 4096) (j : Nat) : Ctr.ident 1 0 k ≠ Ctr.fragBypass j := by
  simp only [Ctr.fragBypass, Ctr.ident]
  omega

/-- R147: the state whose record an unclassified digest takes: what is counted of it. -/
theorem State.unclassified_eq (s : State) (x : Parsed) (k : Slot) (b : Nat) : ∃ u : State,
    s.unclassified x k b = u.toLane k (k.defaultRec 0 (s.settingAt k.seen 0x5006 b 0) (s.settingAt k.seen 0x5007 b 0) flUnavailable) ∧
      u.hall = s.hall ∧ u.ctr Ctr.hallPorchUnclassified = rose (s.ctr Ctr.hallPorchUnclassified) 1 ∧ u.ctr Ctr.hallPorchParsed = s.ctr Ctr.hallPorchParsed := by
  have hun : (s.bump Ctr.hallPorchUnclassified).ctr Ctr.hallPorchUnclassified = rose (s.ctr Ctr.hallPorchUnclassified) 1 := State.ctr_bump ..
  have hparsed : (s.bump Ctr.hallPorchUnclassified).ctr Ctr.hallPorchParsed = s.ctr Ctr.hallPorchParsed := State.ctr_bump_other _ (by decide)
  unfold State.unclassified
  dsimp only
  split
  · exact ⟨_, rfl, rfl, (State.ctr_bump_other _ (Ctr.fragBypass_ne_hallPorch (by decide) _)).trans hun, (State.ctr_bump_other _ (Ctr.fragBypass_ne_hallPorch (by decide) _)).trans hparsed⟩
  · exact ⟨_, rfl, rfl, hun, hparsed⟩

theorem Lane.verdicts_keepLimit (x : Lane) (nt : Nat) : (x.keepLimit nt).verdicts = x.verdicts :=
  congrArg (·.2.2.2.2.2.1) (x.numbers_keepLimit nt)

theorem Lane.link_keepLimit (x : Lane) (nt : Nat) : (x.keepLimit nt).up = x.up ∧ (x.keepLimit nt).session = x.session := by
  unfold Lane.keepLimit
  split
  · split <;> exact ⟨rfl, rfl⟩
  · exact ⟨rfl, rfl⟩

theorem parseUnclassified : Claims.ParseUnclassified := by
  intro s k hroom hfree htokens hnext hlane hup hsession b seen x hlook
  have hparse : Gives .parse s (s.parseSlot k) := by
    change execParse s = _
    simp only [execParse, hroom, hfree, hnext, State.dead_of_hallFree hfree, pastPorch, Nat.not_le.2 htokens, decide_false, Bool.not_true, Bool.or_self,
      Bool.false_eq_true, if_false]
  have hslot := State.parseSlot_unclassified hlook
  obtain ⟨counters, hcount⟩ := (s.takeFromLane k).countParse_eq x
  obtain ⟨hcparsed, hcun⟩ := (s.takeFromLane k).ctr_countParse x
  obtain ⟨u, hun, hhall, huun, huparsed⟩ := ((s.takeFromLane k).countParse x).unclassified_eq x { k with seen := s.seenAt k } (s.bankAt k.at_)
  have huhall : u.hall = (s.takeFromLane k).hall := hhall.trans (by rw [hcount])
  have hulane : u.lane k.lane = { (s.lane k.lane).keepLimit s.nt with buf := (s.lane k.lane).buf.erase k } :=
    (State.lane_of_hall huhall _).trans (State.lane_setLane ..)
  have hulane' : (u.lane k.lane).up = true ∧ (u.lane k.lane).session = k.session := by
    rw [hulane]
    exact ⟨(Lane.link_keepLimit ..).1.trans hup, (Lane.link_keepLimit ..).2.trans hsession⟩
  have hsetting (id : Nat) : ((s.takeFromLane k).countParse x).settingAt (s.seenAt k) id b 0 = s.settingAt (s.seenAt k) id b 0 := by
    rw [hcount]
    rfl
  let r : VerdictRec := ({ k with seen := s.seenAt k } : Slot).defaultRec 0 (s.settingAt seen 0x5006 b 0) (s.settingAt seen 0x5007 b 0) flUnavailable
  have hrec : s.parseSlot k = u.toLane { k with seen := s.seenAt k } r := by
    rw [hslot, hun, hsetting, hsetting]
  obtain ⟨hhall', hctr⟩ := State.toLane_up (k := { k with seen := s.seenAt k }) (r := r) hulane'.1 hulane'.2
  have hlane' : (u.toLane { k with seen := s.seenAt k } r).lane k.lane = { u.lane k.lane with verdicts := (u.lane k.lane).verdicts ++ [r] } :=
    (State.lane_of_hall hhall' _).trans (State.lane_setLane ..)
  rw [hrec] at hparse
  refine ⟨_, r, hparse, ?_, ?_, rfl, rfl, rfl, rfl, rfl, rfl, rfl, ?_, ?_, ?_, ?_, fun n hn => ?_⟩
  · rw [hlane', hulane]
    exact congrArg (· ++ [r]) (Lane.verdicts_keepLimit ..)
  · rw [hlane', hulane]
  · exact (hctr _ (Ctr.ident_ne_bufCtr 1 0 (by decide) 0)).trans (huun.trans (congrArg (rose · 1) hcun))
  · exact (hctr _ (Ctr.ident_ne_bufCtr 1 0 (by decide) 0)).trans (huparsed.trans hcparsed)
  · rw [hhall']
    exact congrArg (·.pends) huhall
  · rw [hhall']
    exact congrArg (·.tokens) huhall
  · refine (State.lane_of_hall hhall' n).trans ((State.lane_setLane_other _ _ hn).trans ((State.lane_of_hall huhall n).trans ?_))
    exact State.lane_setLane_other _ _ hn

theorem bitOf_six_cleared (n : Nat) : let m := if bitOf n 6 then n - flRollout else n
    bitOf m 6 = false ∧ ∀ i, i < 6 → bitOf m i = bitOf n i := by
  by_cases h : n / 64 % 2 = 1
  · have hset : bitOf n 6 = true := by simpa [bitOf] using h
    simp only [hset, if_true]
    simp only [bitOf, flRollout]
    refine ⟨by rw [beq_eq_false_iff_ne]; omega, fun i hi => ?_⟩
    congr 1
    interval_cases i <;> omega
  · have hclear : bitOf n 6 = false := by simpa [bitOf] using h
    simp only [hclear, Bool.false_eq_true, if_false]
    exact ⟨trivial, fun _ _ => trivial⟩

theorem fragmentAnswered : Claims.FragmentAnswered := by
  intro s f p k
  dsimp only
  refine ⟨fun e c hfound hcopy => ?_, fun e hfound hcopy hroom => ?_, fun h => ?_⟩
  · refine ⟨k.fragRec p c, ?_, rfl, rfl, rfl, rfl, rfl, rfl, (bitOf_six_cleared c.flags).1, (bitOf_six_cleared c.flags).2⟩
    simp only [State.nonFirstFragment]
    rw [hfound]
    simp only [hcopy]
  · simp only [State.nonFirstFragment]
    rw [hfound]
    simp only [hcopy]
    rw [if_neg (Nat.not_le.2 hroom)]
  · rcases h with h | ⟨e, hfound, hcopy, hfull⟩
    · simp only [State.nonFirstFragment]
      rw [h]
      rfl
    · simp only [State.nonFirstFragment]
      rw [hfound]
      simp only [hcopy]
      rw [if_pos hfull]
      rfl

/-- Settles O8: what a parse leaves behind the counters of the digest, and the cases of the fragment table. -/
theorem packetsAreParsed : Obligations.PacketsAreParsed := by
  unfold Obligations.PacketsAreParsed
  exact ⟨parseUnclassified, fragmentAnswered⟩

end Sys2Proof.Machine
end

section
/-!
Proofs for the verdict path (chapter 02): what an emission adds to a lane, the emissions that follow, and a verdict in time, at its deadline
and too late.
-/
open Sys2Proof Sys2Proof.Machine Sys2Proof.Claims

namespace Sys2Proof.Machine

/-! ### Emissions -/

theorem Ctr.ident_ne_of_low {g i k g' i' j : Nat} (hk : k < 4096) (hj : j < 4096) (h : k ≠ j) : Ctr.ident g i k ≠ Ctr.ident g' i' j := by
  simp only [Ctr.ident]
  omega

/-- Lanes get more records; the Wings and the counts of late verdicts stay. -/
structure EmitsMore (s t : State) : Prop where
  verdicts : ∀ n, (s.lane n).verdicts <+: (t.lane n).verdicts
  wing0 : t.wing0 = s.wing0
  wing1 : t.wing1 = s.wing1
  late : ∀ p, t.ctr (Ctr.partVerdictLate p) = s.ctr (Ctr.partVerdictLate p)

theorem EmitsMore.refl (s : State) : EmitsMore s s := ⟨fun _ => List.prefix_rfl, rfl, rfl, fun _ => rfl⟩

theorem EmitsMore.trans {s t u : State} (h : EmitsMore s t) (h' : EmitsMore t u) : EmitsMore s u :=
  ⟨fun n => (h.verdicts n).trans (h'.verdicts n), h'.wing0.trans h.wing0, h'.wing1.trans h.wing1, fun p => (h'.late p).trans (h.late p)⟩

theorem EmitsMore.trace (s : State) (b : Nat) (r : TraceRec) : EmitsMore s (s.trace b r) :=
  ⟨fun n => by rw [State.lane_of_hall (State.trace_hall ..)], State.trace_wing0 .., State.trace_wing1 ..,
    fun p => State.ctr_trace_other _ _ (Ctr.ident_ne_bufCtr 8 p (by decide) b)⟩

theorem EmitsMore.toLane (s : State) (k : Slot) (r : VerdictRec) : EmitsMore s (s.toLane k r) := by
  have hrec (s : State) : EmitsMore s (if (s.lane k.lane).up = true ∧ (s.lane k.lane).session = k.session then
      s.setLane k.lane { s.lane k.lane with verdicts := (s.lane k.lane).verdicts ++ [r] } else s.bump (Ctr.laneVerdictsDroppedLink k.lane)) := by
    split
    · refine ⟨fun n => ?_, rfl, rfl, fun _ => rfl⟩
      by_cases hn : n = k.lane
      · subst hn
        rw [State.lane_setLane]
        exact List.prefix_append ..
      · rw [State.lane_setLane_other _ _ hn]
    · exact ⟨fun _ => List.prefix_rfl, rfl, rfl, fun p => State.ctr_bump_other _ (Ctr.ident_ne_of_low (by decide) (by decide) (by decide))⟩
  unfold State.toLane
  dsimp only
  split
  · exact (EmitsMore.trace ..).trans (hrec _)
  · exact hrec _

theorem EmitsMore.emitPend (s : State) (e : Pend) (r : VerdictRec) : EmitsMore s (s.emitPend e r) :=
  (EmitsMore.toLane s e.slot r).trans ⟨fun _ => List.prefix_rfl, rfl, rfl, fun _ => rfl⟩

theorem EmitsMore.settle (fuel : Nat) (s : State) : EmitsMore s (settle fuel s) := by
  induction fuel generalizing s with
  | zero => exact EmitsMore.refl s
  | succ fuel ih =>
    rw [Machine.settle]
    split
    · exact EmitsMore.refl s
    · exact (EmitsMore.emitPend ..).trans (ih _)

theorem EmitsMore.fire (s : State) (bit : Nat) (bs : List Nat) : EmitsMore s (s.fire bit bs) :=
  ⟨fun n => by rw [State.lane_of_hall (State.fire_hall ..)], State.fire_wing0 .., State.fire_wing1 ..,
    fun p => State.ctr_fire_other _ _ _ fun b => Ctr.ident_ne_bufCtr 8 p (by decide) b⟩

/-- R58: an emitted record is the next one of its lane. -/
theorem State.verdicts_emitPend {s : State} {e : Pend} (r : VerdictRec) (h : LinkOf s e.slot) :
    ((s.emitPend e r).lane e.slot.lane).verdicts = (s.lane e.slot.lane).verdicts ++ [r] := by
  have hlane : (s.toLane e.slot r).lane e.slot.lane = { s.lane e.slot.lane with verdicts := (s.lane e.slot.lane).verdicts ++ [r] } :=
    (State.lane_of_hall (State.toLane_up h.1 h.2).1 _).trans (State.lane_setLane ..)
  exact congrArg Lane.verdicts hlane

/-- What has been emitted stays in front of what follows. -/
theorem EmitsMore.append {s t u : State} {n : Nat} {r : VerdictRec} (h : (t.lane n).verdicts = (s.lane n).verdicts ++ [r]) (h' : EmitsMore t u) :
    ∃ more, (u.lane n).verdicts = (s.lane n).verdicts ++ r :: more := by
  obtain ⟨more, hmore⟩ := h'.verdicts n
  exact ⟨more, by rw [← hmore, h, List.append_assoc]; rfl⟩

/-! ### The deadline -/

theorem exec_deadline {s : State} {e : Pend} (hfree : s.hallFree = true) (hdue : s.hall.pends.find? (fun x => x.due s.nt) = some e) :
    Gives .deadline s (s.expire e) := by
  change execDeadline s = _
  simp only [execDeadline, hfree, hdue, Bool.not_true, Bool.false_eq_true, if_false]

theorem State.earlierOf_nil {s : State} {e : Pend} (h : FirstOfFlow s e) : s.earlierOf e = [] := by
  rw [State.earlierOf, List.filter_eq_nil_iff]
  intro x hx hfalse
  simp only [Bool.and_eq_true, beq_iff_eq, Bool.not_eq_true'] at hfalse
  rw [h x hx hfalse.1] at hfalse
  exact Bool.noConfusion hfalse.2

theorem deadlinePassed : Claims.DeadlinePassed := by
  intro s e d hfree hdue hanswer hfind hfirst hlink hp hlane
  have hd : e.due s.nt = true := List.find?_some (p := fun x : Pend => x.due s.nt) hdue
  simp only [Pend.due, hanswer, Bool.and_eq_true, decide_eq_true_eq] at hd
  let u := s.bump (Ctr.partVerdictLate e.partition)
  have hforce : s.forcePend e.id = (u.emitPend e (s.partDefault e.slot e.partition flLate)).fire 1 (s.partBufs e.partition) := by
    unfold State.forcePend
    rw [hfind]
    simp only [hanswer]
    rfl
  have hmore := (EmitsMore.fire (u.emitPend e (s.partDefault e.slot e.partition flLate)) 1 (s.partBufs e.partition)).trans
    (EmitsMore.settle ((s.forcePend e.id).hall.pends.length + 1) _)
  obtain ⟨more, hverdicts⟩ := EmitsMore.append (State.verdicts_emitPend (s := u) (s.partDefault e.slot e.partition flLate) hlink) hmore
  refine ⟨hd.2, _, s.partDefault e.slot e.partition flLate, more, exec_deadline hfree hdue, ?_, rfl, rfl, rfl, rfl, rfl, rfl, rfl, ?_⟩
  all_goals rw [State.expire, State.earlierOf_nil hfirst]
  all_goals simp only [State.settle]
  · rw [hforce] at hverdicts ⊢
    exact hverdicts
  · rw [hforce] at hmore ⊢
    exact (hmore.late _).trans (((EmitsMore.emitPend ..).late _).trans (State.ctr_bump ..))

/-! ### A committed verdict -/

/-- The answer of a pending digest is the verdict that has arrived. -/
def Pend.answered (id : Nat) (a : Answer) (y : Pend) : Pend := if y.id = id then { y with answer := a } else y

/-- R59: among digests of which none could leave, the one that gets its record leaves first, unless its flow blocks it. -/
theorem nextReady_answered {nt id : Nat} {a : Answer} {v : VerdictRec} {e : Pend} (ha : ∀ z : Pend, ({ z with answer := a } : Pend).record = some v)
    (hemitted : e.emitted = false) (hwaits : e.waits nt = false) (ps : List Pend) (blocked : List Bytes) (hnone : nextReady nt ps blocked = none)
    (hfind : ps.find? (fun y => y.id == id) = some e) (hblocked : e.flow ∉ blocked)
    (hfirst : ∀ x ∈ ps.takeWhile (fun x => x.id != id), x.flow = e.flow → x.emitted = true) :
    nextReady nt (ps.map (Pend.answered id a)) blocked = some ({ e with answer := a }, v) := by
  induction ps generalizing blocked with
  | nil => simp at hfind
  | cons y ps ih =>
    rw [List.map_cons]
    by_cases hy : y.id = id
    · rw [List.find?_cons_of_pos (by simpa using hy)] at hfind
      cases hfind
      have hw : ({ e with answer := a } : Pend).waits nt = false := hwaits
      rw [Pend.answered, if_pos hy, nextReady, if_neg (by simp [hemitted]), if_neg (by simpa using hblocked), hw, if_neg Bool.false_ne_true, ha e]
    · rw [List.find?_cons_of_neg (by simpa using hy)] at hfind
      rw [List.takeWhile_cons_of_pos (by simpa using hy)] at hfirst
      have hrest := fun x hx => hfirst x (List.mem_cons_of_mem _ hx)
      rw [Pend.answered, if_neg hy]
      rw [nextReady] at hnone ⊢
      split at hnone
      · next hem =>
        rw [if_pos hem]
        exact ih blocked hnone hfind hblocked hrest
      · next hem =>
        rw [if_neg hem]
        split at hnone
        · next hbl =>
          rw [if_pos hbl]
          exact ih blocked hnone hfind hblocked hrest
        · next hbl =>
          rw [if_neg hbl]
          split at hnone
          · simp at hnone
          · refine ih _ hnone hfind ?_ hrest
            rw [List.mem_cons, not_or]
            exact ⟨fun hflow => hem (hfirst y List.mem_cons_self hflow.symm), hblocked⟩

/-- R748: a setting for packets of a stamp reads the settings and their former values. -/
theorem State.settingAt_of {s t : State} (hhall : t.hall = s.hall) (hset : t.settings = s.settings) (stamp id inst elem : Nat) :
    t.settingAt stamp id inst elem = s.settingAt stamp id inst elem := by
  simp only [State.settingAt, State.setting, hhall, hset]

theorem exec_verdictArrival {s : State} {w : Nat} {x : Returning} {rest : List Returning} (hfree : s.hallFree = true)
    (hret : (s.wing w).returning = x :: rest) :
    Gives (.verdictArrival w) s ((s.setWing w { s.wing w with returning := rest }).verdictIn x) := by
  change execVerdictArrival w s = _
  simp only [execVerdictArrival, hret, hfree, Bool.not_true, Bool.false_eq_true, if_false]

section
variable {s : State} {x : Returning} {e : Pend} {d : Nat} (hfind : s.hall.pends.find? (fun y => y.id == x.id) = some e) (hanswer : e.answer = .model d none)
include hfind hanswer

/-- R49: a verdict in time is its packet's record. -/
theorem State.verdictIn_timely (hnt : s.nt < d) (hemitted : e.emitted = false) :
    s.verdictIn x = ({ s with hall := { s.hall with pends := s.hall.pends.map (Pend.answered e.id (.model d (some x.verdict))) } } : State).settle := by
  unfold State.verdictIn
  rw [hfind]
  simp only [hanswer]
  rw [if_pos ⟨hnt, by simp [hemitted]⟩]
  rfl

/-- R51, R52: a verdict behind its packet's default is a LATE record. -/
theorem State.verdictIn_late (hemitted : e.emitted = true) :
    s.verdictIn x = ({ s with hall := { s.hall with pends := s.hall.pends.filter (fun y => y.id != e.id) } } : State).lateRecord e x.verdict d := by
  have hid : x.id = e.id := (beq_iff_eq.1 (List.find?_some (p := fun y : Pend => y.id == x.id) hfind)).symm
  have hdue : e.due s.nt = false := by simp [Pend.due, hemitted]
  unfold State.verdictIn
  rw [hfind]
  simp only [hanswer]
  rw [if_neg (by simp [hemitted]), hdue, if_neg Bool.false_ne_true, State.answerLate, ← hid, hfind]
  simp only
  rw [if_pos hemitted]

end

theorem verdictArrives : Claims.VerdictArrives := by
  intro s w x rest e d hfree hret hfind hanswer
  refine ⟨fun hnt hemitted hwaits hnone hfirst hlink => ?_, fun hemitted => ?_⟩
  · have hid : x.id = e.id := (beq_iff_eq.1 (List.find?_some (p := fun y : Pend => y.id == x.id) hfind)).symm
    let u := s.setWing w { s.wing w with returning := rest }
    let v : State := { u with hall := { u.hall with pends := u.hall.pends.map (Pend.answered e.id (.model d (some x.verdict))) } }
    have hpends : u.hall.pends = s.hall.pends := by rw [State.setWing_hall]
    have hnow : u.nt = s.nt := congrArg TimeBase.nt (State.setWing_time ..)
    have hv : u.verdictIn x = v.settle := State.verdictIn_timely (by rw [hpends]; exact hfind) hanswer (hnow.trans_lt hnt) hemitted
    have hready : nextReady v.nt v.hall.pends [] = some ({ e with answer := .model d (some x.verdict) }, x.verdict) := by
      have hvnt : v.nt = s.nt := hnow
      have hvpends : v.hall.pends = s.hall.pends.map (Pend.answered e.id (.model d (some x.verdict))) := congrArg (List.map _) hpends
      rw [hvnt, hvpends]
      exact nextReady_answered (fun _ => rfl) hemitted hwaits _ _ hnone (by rw [← hid]; exact hfind) List.not_mem_nil hfirst
    have hlane (n : Nat) : v.lane n = s.lane n := (rfl : v.lane n = u.lane n).trans (State.lane_of_hall (State.setWing_hall ..) n)
    have hlink' : LinkOf v e.slot := by
      rw [LinkOf, hlane]
      exact hlink
    have hsettle : v.settle = settle v.hall.pends.length (v.emitPend { e with answer := .model d (some x.verdict) } x.verdict) := by
      rw [State.settle, Machine.settle, hready]
    obtain ⟨more, hverdicts⟩ := EmitsMore.append (State.verdicts_emitPend (e := { e with answer := .model d (some x.verdict) }) x.verdict hlink')
      (EmitsMore.settle v.hall.pends.length _)
    have hwings := (EmitsMore.emitPend v { e with answer := .model d (some x.verdict) } x.verdict).trans (EmitsMore.settle v.hall.pends.length _)
    refine ⟨v.settle, more, (exec_verdictArrival hfree hret).trans (congrArg Host.Outcome.next hv), ?_, ?_⟩
    · rw [hsettle, ← hlane]
      exact hverdicts
    · rw [hsettle, State.wing_of_wings hwings.wing0 hwings.wing1 w]
      exact congrArg Wing.returning (State.wing_setWing s _)
  · refine (exec_verdictArrival hfree hret).trans (congrArg Host.Outcome.next ?_)
    refine (State.verdictIn_late (by rw [State.setWing_hall]; exact hfind) hanswer hemitted).trans ?_
    generalize hu : s.setWing w { s.wing w with returning := rest } = u
    have hset (id p : Nat) : u.partSettingAt e.slot.seen id p = s.partSettingAt e.slot.seen id p :=
      State.settingAt_of (by rw [← hu, State.setWing_hall]) (by rw [← hu, State.setWing_settings]) ..
    have hnow : u.nt = s.nt := by rw [← hu]; exact congrArg TimeBase.nt (State.setWing_time ..)
    rw [← hset, ← hset, ← hnow]
    rfl

/-- Settles O3: the default at the deadline and the verdict in time as the first emission of those that follow, and the LATE record. -/
theorem verdictsKeepDeadlines : Obligations.VerdictsKeepDeadlines := by
  unfold Obligations.VerdictsKeepDeadlines
  exact ⟨deadlinePassed, verdictArrives⟩

end Sys2Proof.Machine
end

section
/-!
Proofs for insertion (chapter 06): the slot that an insertion takes, what the change of a slot and a failed insertion leave, and the four
outcomes.
-/
open Sys2Proof Sys2Proof.Machine Sys2Proof.Claims

namespace Sys2Proof.Machine

/-! ### What the change of a slot leaves -/

theorem State.changeSlot_keeps {α : Type} (f : Wing → α) (hf : ∀ (x : Wing) entries overflow stairs regions larder cache,
    f { x with entries := entries, overflow := overflow, stairs := stairs, regions := regions, overflowLarder := larder, cache := cache } = f x)
    (s : State) (p h e : Nat) (new : FlowEntry) (v : Nat) : f ((s.changeSlot p h e new).wing v) = f (s.wing v) := by
  have hput (t : State) (x : FlowEntry) : f ((t.putEntry h x).wing v) = f (t.wing v) :=
    State.putEntry_keeps f (fun y m o => hf y m o y.stairs y.regions y.overflowLarder y.cache) ..
  have hchanged (t : State) (gen : Nat) : f ((t.entryChanged h gen e).wing v) = f (t.wing v) :=
    State.setWing_keeps f (hf _ _ _ _ (t.wing (hWing h)).regions (t.wing (hWing h)).overflowLarder (t.wing (hWing h)).cache) v
  have hlive (t : State) : f ((t.clearLive p h).wing v) = f (t.wing v) :=
    (State.uncache_keeps f (fun y c => hf y y.entries y.overflow y.stairs y.regions y.overflowLarder c) ..).trans
      (State.writeBlock_keeps f (fun y m o => hf y y.entries y.overflow y.stairs m o y.cache) ..)
  unfold State.changeSlot
  dsimp only
  split
  · split
    · exact (hlive _).trans ((hchanged ..).trans (hput ..))
    · exact (hchanged ..).trans (hput ..)
  · exact hput ..

theorem State.setWing_ctr (s : State) (w : Nat) (x : Wing) (id : Nat) : (s.setWing w x).ctr id = s.ctr id := by
  rw [State.ctr, State.setWing_counters, State.ctr]

theorem State.ctr_changeSlot (s : State) (p h e : Nat) (new : FlowEntry) (id : Nat) : (s.changeSlot p h e new).ctr id = s.ctr id := by
  have hput (t : State) (x : FlowEntry) : (t.putEntry h x).ctr id = t.ctr id := State.setWing_ctr ..
  have hchanged (t : State) (gen : Nat) : (t.entryChanged h gen e).ctr id = t.ctr id := State.setWing_ctr ..
  have hlive (t : State) : (t.clearLive p h).ctr id = t.ctr id := (State.setWing_ctr ..).trans (State.setWing_ctr ..)
  unfold State.changeSlot
  dsimp only
  split
  · split
    · exact (hlive _).trans ((hchanged ..).trans (hput ..))
    · exact (hchanged ..).trans (hput ..)
  · exact hput ..

/-! ### A report record's counters -/

/-- A record changes no counter but those kept by the queues of records. -/
theorem State.ctr_record_other {id : Nat} (hlo : 8 * 16777216 ≤ id) (hhi : id < 9 * 16777216) (s : State) (p q prio type : Nat) (body : Bytes) :
    (s.record p q prio type body).ctr id = s.ctr id := by
  have hbump (t : State) (i k : Nat) : (t.bump (Ctr.ident 9 i k)).ctr id = t.ctr id :=
    State.ctr_bump_other _ (by simp only [Ctr.ident]; omega)
  have hexport (t : State) (b : Nat) (x : ExpItem) : (t.exportItem b x).ctr id = t.ctr id :=
    State.exportItem_keeps (State.ctr · id) (fun _ _ _ => rfl) (fun _ _ _ => rfl)
      (fun _ i k _ hi hk => State.ctr_bumpN_other _ _ (by simp only [Ctr.ident]; omega)) t b x
  have hcopy (t : State) (r : QRec) : (t.reportCopy p q r).ctr id = t.ctr id := by
    unfold State.reportCopy
    split
    · rfl
    · exact hexport ..
  unfold State.record
  dsimp only
  split
  · exact (hcopy ..).trans (hbump ..)
  · exact (hbump ..).trans ((hbump ..).trans ((hcopy ..).trans (hbump ..)))

/-! ### The slot that an insertion takes -/

section
variable {s : State} {w b p : Nat}

theorem State.freeSlot_way {way : Nat} (hway : way < 4) (hfree : ((s.wing w).entry (4 * b + way)).valid = false)
    (hlow : ∀ v, v < way → ((s.wing w).entry (4 * b + v)).valid = true) : s.freeSlot w b p = some (handleOf w b way) := by
  have hfind : (List.range 4).find? (fun way => !((s.wing w).entry (4 * b + way)).valid) = some way :=
    List.find?_range_eq_some.2 ⟨by rw [hfree]; rfl, List.mem_range.2 hway, fun v hv => by rw [hlow v hv]; rfl⟩
  have hfind' : [0, 1, 2, 3].find? (fun way => !((s.wing w).entry (4 * b + way)).valid) = some way := hfind
  rw [State.freeSlot, hfind']

/-- Below the first index that is not valid, every index has an entry of its own. -/
theorem Wing.le_length_overflow {x : Wing} {i : Nat} (h : ∀ j, j < i → (x.ovEntry j).valid = true) : i ≤ x.overflow.length := by
  have hmem : ∀ j ∈ List.range i, j ∈ x.overflow.map (·.1) := by
    intro j hj
    have hvalid := h j (List.mem_range.1 hj)
    rw [Wing.ovEntry, mget_eq_mfind] at hvalid
    cases hfind : mfind x.overflow j with
    | none =>
      rw [hfind] at hvalid
      exact absurd hvalid Bool.false_ne_true
    | some e => exact List.mem_map.2 ⟨_, mem_of_mfind hfind, rfl⟩
  have := (List.nodup_range.subperm hmem).length_le
  rwa [List.length_range, List.length_map] at this

section
variable (hways : ∀ v, v < 4 → ((s.wing w).entry (4 * b + v)).valid = true)
include hways

theorem State.freeSlot_overflow : s.freeSlot w b p =
    if (s.wing w).ovUsed p < (s.partOf p).overflowQuota w then
      ((List.range ((s.wing w).overflow.length + 1)).find? (fun i => !((s.wing w).ovEntry i).valid && decide (i < 32768))).map (ovHandle w)
    else none := by
  have hfind : [0, 1, 2, 3].find? (fun way => !((s.wing w).entry (4 * b + way)).valid) = none := by
    rw [List.find?_eq_none]
    intro v hv
    have : v < 4 := by fin_cases hv <;> decide
    simp [hways v this]
  simp only [State.freeSlot, hfind]

theorem State.freeSlot_index {i : Nat} (hquota : (s.wing w).ovUsed p < (s.partOf p).overflowQuota w) (hi : i < 32768)
    (hfree : ((s.wing w).ovEntry i).valid = false) (hlow : ∀ j, j < i → ((s.wing w).ovEntry j).valid = true) :
    s.freeSlot w b p = some (ovHandle w i) := by
  have hlen := Wing.le_length_overflow hlow
  have hfind : (List.range ((s.wing w).overflow.length + 1)).find? (fun i => !((s.wing w).ovEntry i).valid && decide (i < 32768)) = some i :=
    List.find?_range_eq_some.2 ⟨by simp [hfree, hi], List.mem_range.2 (by omega), fun j hj => by simp [hlow j hj]⟩
  rw [State.freeSlot_overflow hways, if_pos hquota, hfind]
  rfl

theorem State.freeSlot_none (h : (s.partOf p).overflowQuota w ≤ (s.wing w).ovUsed p ∨ ∀ i, i < 32768 → ((s.wing w).ovEntry i).valid = true) :
    s.freeSlot w b p = none := by
  rw [State.freeSlot_overflow hways]
  split
  · next hquota =>
    rcases h with h | h
    · omega
    · rw [Option.map_eq_none_iff, List.find?_eq_none]
      intro i _
      by_cases hi : i < 32768
      · simp [h i hi]
      · simp [hi]
  · rfl

end
end

/-! ### The four outcomes -/

/-- R229: the state behind the key's departure from the coalescer. -/
def State.uncoalesced (s : State) (w : Nat) (k : PendKey) : State :=
  s.setWing w { s.wing w with coalescer := (s.wing w).coalescer.filter (fun y => y.key != k.key) }

theorem State.uncoalesced_keeps {α : Type} (f : Wing → α) (hf : ∀ x l, f { x with coalescer := l } = f x) (s : State) (w : Nat) (k : PendKey) (v : Nat) :
    f ((s.uncoalesced w k).wing v) = f (s.wing v) := State.setWing_keeps f (hf _ _) v

theorem State.entryAt_uncoalesced (s : State) (w : Nat) (k : PendKey) (h : Nat) : (s.uncoalesced w k).entryAt h = s.entryAt h :=
  State.entryAt_of_table (funext (s.uncoalesced_keeps Wing.table (fun _ _ => rfl) w k)) h

theorem State.coalescer_uncoalesced (s : State) (w : Nat) (k : PendKey) :
    ((s.uncoalesced w k).wing w).coalescer = (s.wing w).coalescer.filter (fun y => y.key != k.key) :=
  congrArg Wing.coalescer (State.wing_setWing s _)

theorem State.wing_uncoalesced (s : State) (w : Nat) (k : PendKey) :
    (s.uncoalesced w k).wing w = { s.wing w with coalescer := (s.wing w).coalescer.filter (fun y => y.key != k.key) } := State.wing_setWing s _

/-- R230: a key that leaves the coalescer changes no lookup and no free slot. -/
theorem State.findNow_uncoalesced (s : State) (w : Nat) (k : PendKey) (b : Nat) (key : Bytes) : (s.uncoalesced w k).findNow w b key = s.findNow w b key := by
  rw [State.findNow, State.wing_uncoalesced]
  rfl

theorem State.partOf_uncoalesced (s : State) (w : Nat) (k : PendKey) (p : Nat) : (s.uncoalesced w k).partOf p = s.partOf p :=
  State.partOf_of_parts (State.setWing_parts ..) p

theorem State.freeSlot_uncoalesced (s : State) (w : Nat) (k : PendKey) (b p : Nat) : (s.uncoalesced w k).freeSlot w b p = s.freeSlot w b p := by
  rw [State.freeSlot, State.wing_uncoalesced, State.partOf_uncoalesced]
  rfl

theorem exec_insertion {s : State} {w b : Nat} {k : PendKey} (h : Inserts s w k b) :
    Gives (.insertion w) s (if (s.findNow w b k.key).isSome then (s.uncoalesced w k).bump (ctrOnWing w (Ctr.partDuplicate k.partition))
      else match s.freeSlot w b k.partition with
        | none => (s.uncoalesced w k).insertFail w k
        | some g => ((s.uncoalesced w k).bump (ctrOnWing w (Ctr.partInserted k.partition))).changeSlot k.partition g s.nt (k.entry s.nt)) := by
  obtain ⟨hw, hfree, hpair, hkey, hp, rfl, hb⟩ := h
  have hprimary : ∀ t : State, t.pair = s.pair → t.isPrimary = false := fun t ht => State.isPrimary_of_not_paired (by rw [State.paired, ht]; exact hpair)
  have hnow : (s.uncoalesced w k).nt = s.nt := congrArg TimeBase.nt (State.setWing_time ..)
  have hbumped : ((s.uncoalesced w k).bump (ctrOnWing w (Ctr.partInserted k.partition))).isPrimary = false := hprimary _ (State.setWing_pair ..)
  have hwaits : s.decisionWaits w = false := by rw [State.decisionWaits, hprimary s rfl, Bool.false_and]
  change execInsertion w s = _
  refine congrArg Host.Outcome.next ?_
  rw [hkey]
  simp only [hfree, State.isStandby_of_not_paired hpair, hwaits, Bool.not_true, Bool.or_self, Bool.false_eq_true, if_false]
  rw [← State.findNow_uncoalesced s w k, ← State.freeSlot_uncoalesced s w k]
  change (if ((s.uncoalesced w k).findNow w _ k.key).isSome then _ else match (s.uncoalesced w k).freeSlot w _ k.partition with | none => _ | some h => _) = _
  split
  · rfl
  · split
    · rfl
    · next g _ =>
      refine (if_neg (Bool.eq_false_iff.1 hbumped)).trans ?_
      exact congrArg (fun n => ((s.uncoalesced w k).bump (ctrOnWing w (Ctr.partInserted k.partition))).changeSlot k.partition g n (k.entry n)) hnow

/-- R234: the state of a failed insertion before its record. -/
def State.insertFailed (s : State) (w : Nat) (k : PendKey) (full : Tab FullCount) : State :=
  (s.bump (ctrOnWing w (Ctr.partInsertFail k.partition))).setWing w { (s.bump (ctrOnWing w (Ctr.partInsertFail k.partition))).wing w with full := full }

theorem State.insertFail_eq (s : State) (w : Nat) (k : PendKey) : ∃ full, s.insertFail w k = s.insertFailed w k full ∨
    ∃ q prio body, s.insertFail w k = (s.insertFailed w k full).record k.partition q prio 2 body := by
  have heq : ∃ (c : FullCount) (q prio : Nat) (body : Bytes) (full : Tab FullCount), s.insertFail w k =
      if c.cur = 0 then (s.insertFailed w k full).record k.partition q prio 2 body else s.insertFailed w k full := ⟨_, _, _, _, _, rfl⟩
  obtain ⟨c, q, prio, body, full, h⟩ := heq
  split at h
  · exact ⟨full, .inr ⟨q, prio, body, h⟩⟩
  · exact ⟨full, .inl h⟩

theorem State.wing_insertFailed {α : Type} (f : Wing → α) (hf : ∀ x l, f { x with full := l } = f x) (s : State) (w : Nat) (k : PendKey)
    (full : Tab FullCount) (v : Nat) : f ((s.insertFailed w k full).wing v) = f (s.wing v) :=
  State.setWing_keeps (s := s.bump _) f (hf _ _) v

/-- R234: a failed insertion is counted, and leaves the coalescer and the slots. -/
theorem State.insertFail_spec (s : State) {w : Nat} {k : PendKey} (hw : w < 2) (hp : k.partition < 16) :
    (s.insertFail w k).ctr (ctrOnWing w (Ctr.partInsertFail k.partition)) = rose (s.ctr (ctrOnWing w (Ctr.partInsertFail k.partition))) 1 ∧
      (∀ v, ((s.insertFail w k).wing v).coalescer = (s.wing v).coalescer) ∧ ∀ h, (s.insertFail w k).entryAt h = s.entryAt h := by
  have hlo : 8 * 16777216 ≤ ctrOnWing w (Ctr.partInsertFail k.partition) := by simp only [ctrOnWing, Ctr.partInsertFail, Ctr.ident]; omega
  have hhi : ctrOnWing w (Ctr.partInsertFail k.partition) < 9 * 16777216 := by simp only [ctrOnWing, Ctr.partInsertFail, Ctr.ident]; omega
  obtain ⟨full, h⟩ := s.insertFail_eq w k
  have hctr : (s.insertFailed w k full).ctr (ctrOnWing w (Ctr.partInsertFail k.partition)) = rose (s.ctr (ctrOnWing w (Ctr.partInsertFail k.partition))) 1 :=
    (State.setWing_ctr ..).trans (State.ctr_bump ..)
  have htable : (s.insertFailed w k full).table = s.table := funext (State.wing_insertFailed Wing.table (fun _ _ => rfl) s w k full)
  rcases h with h | ⟨q, prio, body, h⟩
  · rw [h]
    exact ⟨hctr, State.wing_insertFailed Wing.coalescer (fun _ _ => rfl) s w k full, State.entryAt_of_table htable⟩
  · have hwing := State.wing_of_storage (State.storage_record (s.insertFailed w k full) k.partition q prio 2 body)
    rw [h]
    refine ⟨(State.ctr_record_other hlo hhi ..).trans hctr, fun v => ?_, State.entryAt_of_table (Eq.trans (funext fun v => ?_) htable)⟩
    · rw [hwing]
      exact State.wing_insertFailed Wing.coalescer (fun _ _ => rfl) s w k full v
    · exact congrArg Wing.table (hwing v)

/-- R215, R231: what an insertion into the free slot of handle `g` leaves. -/
theorem State.inserted_spec {s : State} (w : Nat) (k : PendKey) {g : Nat} (hfree : (s.entryAt g).valid = false) :
    let t := ((s.uncoalesced w k).bump (ctrOnWing w (Ctr.partInserted k.partition))).changeSlot k.partition g s.nt (k.entry s.nt)
    (t.wing w).coalescer = (s.wing w).coalescer.filter (fun y => y.key != k.key) ∧ t.entryAt g = insertedEntry k (s.entryAt g) s.nt ∧
      (∀ h, OtherSlot g h → t.entryAt h = s.entryAt h) ∧
      t.ctr (ctrOnWing w (Ctr.partInserted k.partition)) = rose (s.ctr (ctrOnWing w (Ctr.partInserted k.partition))) 1 := by
  have hentry (h : Nat) : ((s.uncoalesced w k).bump (ctrOnWing w (Ctr.partInserted k.partition))).entryAt h = s.entryAt h := s.entryAt_uncoalesced w k h
  have hdiffers : (s.entryAt g).differs (k.entry s.nt) = true := by
    rw [FlowEntry.differs, hfree]
    rfl
  have hself : ¬ OtherSlot g g := fun h => h rfl
  refine ⟨?_, ?_, fun h hother => ?_, ?_⟩
  · exact (State.changeSlot_keeps Wing.coalescer (fun _ _ _ _ _ _ _ => rfl) ..).trans (s.coalescer_uncoalesced w k)
  · rw [State.entryAt_changeSlot, if_neg hself, hentry, FlowEntry.genAfter, if_pos hdiffers]
    rfl
  · rw [State.entryAt_changeSlot, if_pos hother, hentry]
  · exact (State.ctr_changeSlot ..).trans ((State.ctr_bump ..).trans (congrArg (rose · 1) (State.setWing_ctr ..)))

/-- Settles O12: the four outcomes of the one insertion, by the slot that is free. -/
theorem insertionTakesLowestSlot : Obligations.InsertionTakesLowestSlot := by
  unfold Obligations.InsertionTakesLowestSlot
  intro s w b k h
  have hexec := exec_insertion h
  obtain ⟨hw, -, -, -, hp, -, hb⟩ := h
  have hnone {o : Option Nat} (h : o = none) : o.isSome ≠ true := by simp [h]
  refine ⟨fun hdup => ?_, fun way hfind hway hfree hlow => ?_, fun i hfind hways hquota hi hfree hlow => ?_, fun hfind hways hfull => ?_⟩
  · rw [if_pos hdup] at hexec
    exact ⟨_, hexec, s.coalescer_uncoalesced w k, s.entryAt_uncoalesced w k,
      (State.ctr_bump ..).trans (congrArg (rose · 1) (State.setWing_ctr ..))⟩
  · rw [if_neg (hnone hfind), State.freeSlot_way hway hfree hlow] at hexec
    have hentry : (s.entryAt (handleOf w b way)).valid = false := by
      rw [State.entryAt, hWing_handleOf w hb hway hw, hOverflow_handleOf w hb hway, hSlot_handleOf w hb hway]
      exact hfree
    exact ⟨_, hexec, State.inserted_spec w k hentry⟩
  · rw [if_neg (hnone hfind), State.freeSlot_index hways hquota hi hfree hlow] at hexec
    have hentry : (s.entryAt (ovHandle w i)).valid = false := by
      rw [State.entryAt, hWing_ovHandle w hi hw, hOverflow_ovHandle w hi, hSlot_ovHandle w hi]
      exact hfree
    obtain ⟨hcoalescer, hself, hothers, -⟩ := State.inserted_spec w k hentry
    exact ⟨_, hexec, hcoalescer, hself, hothers⟩
  · rw [if_neg (hnone hfind), State.freeSlot_none hways hfull] at hexec
    obtain ⟨hctr, hcoalescer, hentries⟩ := (s.uncoalesced w k).insertFail_spec hw hp
    refine ⟨_, hexec, (hcoalescer w).trans (s.coalescer_uncoalesced w k), fun h => (hentries h).trans (s.entryAt_uncoalesced w k h), hctr.trans ?_⟩
    exact congrArg (rose · 1) (State.setWing_ctr ..)

end Sys2Proof.Machine
end

section
/-!
Proofs for NT and the event queues (chapter 14): the count of a Hall cycle, the first valid edge, and the order that an occurrence takes.
-/
open Sys2Proof Sys2Proof.Machine Sys2Proof.Claims

namespace Sys2Proof.Machine

/-! ### The count -/

theorem timeAdvances : Claims.TimeAdvances := by
  intro t hnt hfrac
  have hmax : max64 = 18446744073709551615 := rfl
  have hdiv := Nat.div_add_mod (t.frac + t.rate) 4294967296
  have hmod := Nat.mod_lt (t.frac + t.rate) (show 0 < 4294967296 by omega)
  cases hstopped : t.stopped with
  | true =>
    have htick : t.tick = t := by rw [TimeBase.tick, if_pos hstopped]
    rw [htick]
    exact ⟨le_rfl, hnt, hfrac, fun _ => rfl, fun h => Bool.noConfusion h, fun h => Bool.noConfusion h⟩
  | false =>
    have htick : t.tick = if max64 < t.nt + (t.frac + t.rate) / 4294967296 then { t with nt := max64, frac := 0, stopped := true }
        else { t with nt := t.nt + (t.frac + t.rate) / 4294967296, frac := (t.frac + t.rate) % 4294967296 } := by
      rw [TimeBase.tick, if_neg (Bool.eq_false_iff.1 hstopped)]
    rw [htick]
    split
    · next hpast =>
      refine ⟨hnt, le_rfl, (show 0 < 4294967296 by omega), fun h => Bool.noConfusion h, fun _ hlt => ?_, fun _ _ => ⟨rfl, rfl⟩⟩
      omega
    · next hroom =>
      refine ⟨Nat.le_add_right .., Nat.not_lt.1 hroom, hmod, fun h => Bool.noConfusion h, fun _ _ => ⟨?_, hstopped⟩, fun _ hge => ?_⟩
      · change (t.nt + (t.frac + t.rate) / 4294967296) * 4294967296 + (t.frac + t.rate) % 4294967296 = _
        omega
      · omega

/-! ### The first edge -/

/-- An occurrence that joins a queue changes the time base by its queue alone. -/
theorem State.time_enqueue_keeps {α : Type} (f : TimeBase → α) (hf : ∀ t ev, f { t with events := ev } = f t) (s : State) (b : Nat) (o : Occ) :
    f (s.enqueue b o).time = f s.time := by
  unfold State.enqueue
  dsimp only
  split
  · exact hf ..
  · split
    · split
      · rfl
      · rw [State.setStickyIn_time]
        exact hf ..
    · rfl

theorem Ctr.hallPpsValid_ne_funcMsixSent (fn : Nat) : Ctr.hallPpsValid ≠ Ctr.funcMsixSent fn := Ctr.ident_ne_funcMsixSent 1 0 (by decide) (by decide) fn

theorem Ctr.hallPpsValid_ne_bufCtr (b : Nat) : Ctr.hallPpsValid ≠ bufCtr b 1 := Ctr.ident_ne_bufCtr 1 0 (by decide) b

theorem Ctr.hallPpsValid_ne_merged (b : Nat) : Ctr.hallPpsValid ≠ blkCtr b Ctr.hallEventsMerged Ctr.wingEventsMerged := by
  unfold blkCtr
  split
  · exact Ctr.ident_ne_of_low (by decide) (by decide) (by decide)
  · decide

theorem State.ctr_enqueue_pps (s : State) (b : Nat) (o : Occ) : (s.enqueue b o).ctr Ctr.hallPpsValid = s.ctr Ctr.hallPpsValid := by
  unfold State.enqueue
  dsimp only
  split
  · rfl
  · split
    · split
      · rfl
      · exact (State.ctr_setStickyIn_other _ _ _ Ctr.hallPpsValid_ne_bufCtr Ctr.hallPpsValid_ne_funcMsixSent).trans
          (State.ctr_bump_other _ (Ctr.hallPpsValid_ne_merged b))
    · rfl

/-- What the start of the periodic occurrences leaves of the clock. -/
def State.clock (s : State) : Nat × TbState × Nat × Nat := (s.time.nt, s.time.state, s.time.rate, s.ctr Ctr.hallPpsValid)

theorem State.clock_enqueue (s : State) (b : Nat) (o : Occ) : (s.enqueue b o).clock = s.clock := by
  have htime := s.time_enqueue_keeps (fun t => (t.nt, t.state, t.rate)) (fun _ _ => rfl) b o
  simp only [Prod.mk.injEq] at htime
  obtain ⟨hnt, hstate, hrate⟩ := htime
  rw [State.clock, State.clock, hnt, hstate, hrate, s.ctr_enqueue_pps]

theorem State.clock_startPeriodic (s : State) : s.startPeriodic.clock = s.clock := by
  unfold State.startPeriodic
  refine (State.clock_enqueue ..).trans ?_
  refine (foldl_keeps State.clock _ (fun _ _ => State.clock_enqueue ..) ..).trans ?_
  refine (foldl_keeps State.clock _ (fun _ _ => State.clock_enqueue ..) ..).trans ?_
  exact State.clock_enqueue ..

/-- R524, R530: the clock behind the first valid edge. -/
theorem State.clock_firstEdge {s : State} {tod : Tod} {stamp : Nat} (hlo : 0 ≤ s.time.expected tod.seconds)
    (hhi : s.time.expected tod.seconds ≤ 4611686018427387904) :
    (s.firstEdge tod stamp).clock = ((s.time.expected tod.seconds).toNat + (s.nt - stamp), .acquire, s.time.rate, s.ctr Ctr.hallPpsValid) := by
  have hnot : ¬(s.time.expected tod.seconds < 0 ∨ 4611686018427387904 < s.time.expected tod.seconds) := by omega
  rw [State.firstEdge, if_neg hnot]
  refine (State.clock_startPeriodic _).trans ?_
  exact congrArg (fun n => (_, _, _, n)) (State.ctr_bump_other _ (by decide))

theorem State.ctr_edgeTaken (s : State) (tod : Tod) (stamp : Nat) : (s.edgeTaken tod stamp).ctr Ctr.hallPpsValid = rose (s.ctr Ctr.hallPpsValid) 1 := by
  refine (State.ctr_bump ({ (s.takeTod stamp).1 with time := { (s.takeTod stamp).1.time with todLast := some tod } } : State) Ctr.hallPpsValid).trans ?_
  exact congrArg (rose · 1) (State.ctr_bumpN_other _ _ (by decide))

theorem firstEdgeSetsNt : Claims.FirstEdgeSetsNt := by
  intro age s tod hfree hrun hunset hpending hage stamp hwaits hcont expected
  have htime := State.time_edgeTaken (s := s) (tod := tod) (stamp := stamp) hpending
  have hexpected : (s.edgeTaken tod stamp).time.expected tod.seconds = expected := by rw [htime]; rfl
  have hedge := exec_ppsInEdge_valid hfree hrun hwaits hcont
  have hstate : (s.edgeTaken tod stamp).time.state = .unset := by rw [htime]; exact hunset
  have hnow : (s.edgeTaken tod stamp).nt = s.nt := by rw [State.nt, htime]; rfl
  have hfirst (last : Nat) : (s.edgeTaken tod stamp).validEdge tod stamp last = (s.edgeTaken tod stamp).firstEdge tod stamp := by
    rw [State.validEdge, hstate]
  rw [hfirst] at hedge
  refine ⟨fun hlo hhi => ⟨_, hedge, ?_⟩, fun hout => ⟨_, hedge, ?_⟩⟩
  · have hclock := State.clock_firstEdge (stamp := stamp) (hexpected ▸ hlo) (hexpected ▸ hhi)
    rw [hexpected, hnow, s.ctr_edgeTaken] at hclock
    simp only [State.clock, Prod.mk.injEq] at hclock
    obtain ⟨hnt, hst, hrate, hctr⟩ := hclock
    refine ⟨?_, hst, hrate.trans (by rw [htime]), hctr⟩
    rw [State.nt, hnt]
    have : s.nt - stamp = age := by simp only [stamp]; omega
    push_cast
    omega
  · rw [State.firstEdge, hexpected, if_pos hout]
    refine ⟨?_, ?_, State.stickyBit_setSticky_self _ (by decide)⟩
    · rw [State.nt, State.setSticky_time]
      exact hnow
    · rw [State.setSticky_time]
      exact hstate

/-! ### The order of a queue -/

theorem Occ.before_trans {a b c : Occ} (h : a.before b = true) (h' : b.before c = true) : a.before c = true := by
  simp only [Occ.before, decide_eq_true_eq] at h h' ⊢
  omega

theorem Occ.before_of_not {a b : Occ} (h : a.before b = false) : b.before a = true := by
  simp only [Occ.before, decide_eq_false_iff_not, decide_eq_true_eq] at h ⊢
  omega

/-- R544: a queue in start order stays so. -/
theorem insertOcc_pairwise (o : Occ) {q : List Occ} (h : q.Pairwise (fun x y => x.before y = true)) :
    (insertOcc o q).Pairwise (fun x y => x.before y = true) := by
  induction q with
  | nil => exact List.pairwise_singleton ..
  | cons p q ih =>
    obtain ⟨hp, hq⟩ := List.pairwise_cons.1 h
    rw [insertOcc]
    cases hpo : p.before o with
    | true =>
      rw [if_pos rfl]
      refine List.pairwise_cons.2 ⟨fun x hx => ?_, ih hq⟩
      rcases List.mem_cons.1 ((insertOcc_perm o q).mem_iff.1 hx) with rfl | hx
      · exact hpo
      · exact hp x hx
    | false =>
      rw [if_neg Bool.false_ne_true]
      refine List.pairwise_cons.2 ⟨fun x hx => ?_, h⟩
      rcases List.mem_cons.1 hx with rfl | hx
      · exact Occ.before_of_not hpo
      · exact Occ.before_trans (Occ.before_of_not hpo) (hp x hx)

theorem eventQueueOrder : Claims.EventQueueOrder := by
  refine ⟨fun s b o hroom hsorted => ?_, fun s b o x hfull hperiodic hfind => ?_⟩
  · rw [State.queueOf_enqueue_of_room hroom]
    exact ⟨insertOcc_pairwise o hsorted, insertOcc_perm o _⟩
  · let q := insertOcc { x with instant := max x.instant o.instant } ((s.queueOf b).erase x)
    have hmerge : s.enqueue b o = ((s.setQueue b q).bump (blkCtr b Ctr.hallEventsMerged Ctr.wingEventsMerged)).setStickyIn (blkBuf b) 108 := by
      unfold State.enqueue
      dsimp only
      rw [if_neg (Nat.not_lt.2 hfull), if_pos hperiodic, hfind]
    rw [hmerge]
    refine ⟨?_, State.stickyBit_setStickyIn_self _ _ (by decide)⟩
    rw [State.queueOf_of_time (State.setStickyIn_time ..)]
    have hqueue : ((s.setQueue b q).bump (blkCtr b Ctr.hallEventsMerged Ctr.wingEventsMerged)).queueOf b = q := mget_mput_same ..
    rw [hqueue]
    exact insertOcc_perm ..

/-- Settles O31: the count by its sum and remainder, the first edge by what the periodic occurrences leave, and the queues by insertion in order. -/
theorem ntAndEvents : Obligations.NtAndEvents := by
  unfold Obligations.NtAndEvents
  exact ⟨timeAdvances, firstEdgeSetsNt, eventQueueOrder⟩

end Sys2Proof.Machine
end

section
/-!
Proofs for the way of a packet into the Stairwell and to its lookup (chapters 06, 07): the entries of a Wing as a list, admission and the
dispatcher queues, and what a lookup that returns leaves.
-/
open Sys2Proof Sys2Proof.Machine Sys2Proof.Claims

namespace Sys2Proof.Machine

/-! ### The entries of a Wing -/

theorem Wing.stair_map {x : Wing} {f : Stair → Stair} (hf : ∀ y, (f y).index = y.index) (i : Nat) :
    ({ x with stairs := x.stairs.map f } : Wing).stair i = (x.stair i).map f := by
  have hp : ((fun y : Stair => y.index == i) ∘ f) = fun y => y.index == i := funext fun y => by simp only [Function.comp, hf]
  rw [Wing.stair, List.find?_map, hp, Wing.stair]

theorem Wing.stair_setStair {x : Wing} {y z : Stair} {i : Nat} (h : x.stair i = some z) (hi : y.index = i) : (x.setStair y).stair i = some y := by
  have hz : z.index = y.index := (index_of_stair h).trans hi.symm
  refine (Wing.stair_map (fun z => ?_) i).trans ?_
  · split
    · next hz => exact hz.symm
    · rfl
  · rw [h, Option.map_some, if_pos hz]

theorem Wing.stair_setStair_other {x : Wing} {y : Stair} {i : Nat} (hi : y.index ≠ i) : (x.setStair y).stair i = x.stair i := by
  refine (Wing.stair_map (fun z => ?_) i).trans ?_
  · split
    · next hz => exact hz.symm
    · rfl
  · cases h : x.stair i with
    | none => rfl
    | some z =>
      have hz : z.index ≠ y.index := fun hz => hi (hz.symm.trans (index_of_stair h))
      rw [Option.map_some, if_neg hz]

theorem State.stair_setStair {s : State} {w i : Nat} {y z : Stair} (h : (s.wing w).stair i = some z) (hi : y.index = i) :
    ((s.setStair w y).wing w).stair i = some y := by
  rw [State.setStair, State.wing_setWing]
  exact Wing.stair_setStair h hi

/-- A replaced entry changes nothing of the Wings but the Stairwell. -/
theorem State.setStair_keeps {α : Type} (f : Wing → α) (hf : ∀ x l, f { x with stairs := l } = f x) (s : State) (w : Nat) (y : Stair) (v : Nat) :
    f ((s.setStair w y).wing v) = f (s.wing v) := State.setWing_keeps f (hf _ _) v

/-- The lowest free index is free. -/
theorem Wing.stair_freeStair (x : Wing) : x.stair x.freeStair = none := by
  have hexists : ∃ i ∈ List.range (x.stairs.length + 1), (x.stair i).isNone = true := by
    by_contra hnone
    have hall : ∀ i ∈ List.range (x.stairs.length + 1), i ∈ x.stairs.map (·.index) := by
      intro i hi
      cases h : x.stair i with
      | none => exact absurd ⟨i, hi, by rw [h]; rfl⟩ hnone
      | some y => exact List.mem_map.2 ⟨y, List.mem_of_find?_eq_some h, index_of_stair h⟩
    have := (List.nodup_range.subperm hall).length_le
    rw [List.length_range, List.length_map] at this
    omega
  cases hfind : (List.range (x.stairs.length + 1)).find? (fun i => (x.stair i).isNone) with
  | none =>
    obtain ⟨i, hi, hfree⟩ := hexists
    exact absurd hfree (List.find?_eq_none.1 hfind i hi)
  | some i =>
    have := List.find?_some hfind
    rw [Wing.freeStair, hfind, Option.getD_some]
    exact Option.isNone_iff_eq_none.1 this

theorem Wing.index_ne_freeStair (x : Wing) : ∀ z ∈ x.stairs, z.index ≠ x.freeStair := by
  intro z hz h
  have := List.find?_eq_none.1 x.stair_freeStair z hz
  exact this (by simp [h])

/-! ### Admission -/

/-- R264, R266: the entry that a packet takes. -/
def State.admitted (s : State) (w : Nat) (k : Packet) : Stair :=
  { index := (s.wing w).freeStair, pkt := k, pred := (s.wing w).predOf k, token := k.token, since := s.nt }

theorem State.stairs_enterStairs (s : State) (w : Nat) (k : Packet) : ((s.enterStairs w k).wing w).stairs = (s.wing w).stairs ++ [s.admitted w k] :=
  congrArg Wing.stairs (State.wing_setWing s _)

theorem State.ctr_enterStairs (s : State) (w : Nat) (k : Packet) :
    (s.enterStairs w k).ctr (Ctr.pwAdmitted (16 * w + k.partition)) = rose (s.ctr (Ctr.pwAdmitted (16 * w + k.partition))) 1 :=
  (State.ctr_bump ..).trans (congrArg (rose · 1) (State.setWing_ctr ..))

theorem State.enterStairs_keeps {α : Type} (f : Wing → α) (hf : ∀ x l, f { x with stairs := l } = f x) (s : State) (w : Nat) (k : Packet) (v : Nat) :
    f ((s.enterStairs w k).wing v) = f (s.wing v) := State.setWing_keeps f (hf _ _) v

/-- The first token leaves and is counted. -/
def State.tokenTaken (s : State) (k : Packet) (rest : List Packet) : State :=
  let t := ({ s with hall := { s.hall with tokens := rest } } : State).bump (Ctr.partRateOffered k.partition)
  if (s.partOf k.partition).awaitsFill k.epoch then t.bump (Ctr.partGapOverrun k.partition) else t

theorem State.tokenTaken_eq (s : State) (k : Packet) (rest : List Packet) :
    ∃ counters, s.tokenTaken k rest = { s with hall := { s.hall with tokens := rest }, counters := counters } := by
  unfold State.tokenTaken
  dsimp only
  split <;> exact ⟨_, rfl⟩

theorem State.ctr_tokenTaken (s : State) (k : Packet) (rest : List Packet) (i : Nat) :
    (s.tokenTaken k rest).ctr (Ctr.pwAdmitted i) = s.ctr (Ctr.pwAdmitted i) := by
  have hone : (({ s with hall := { s.hall with tokens := rest } } : State).bump (Ctr.partRateOffered k.partition)).ctr (Ctr.pwAdmitted i) = s.ctr (Ctr.pwAdmitted i) :=
    State.ctr_bump_other _ (Ctr.ident_ne_of_low (by decide) (by decide) (by decide))
  unfold State.tokenTaken
  dsimp only
  split
  · exact (State.ctr_bump_other _ (Ctr.ident_ne_of_low (by decide) (by decide) (by decide))).trans hone
  · exact hone

theorem exec_dispatch {s : State} {k : Packet} {rest : List Packet} (hfree : s.hallFree = true) (htokens : s.hall.tokens = k :: rest) :
    let w := s.homeWing k.hash
    let enters := s.wingFree w && ((s.wing w).queue k.partition).isEmpty && s.canAdmit w k
    Gives .dispatch s (if !enters && decide (3328 ≤ ((s.wing w).queue k.partition).length) then s
      else if enters then (s.tokenTaken k rest).enterStairs w k
      else ((s.tokenTaken k rest).setWing w { s.wing w with queues := mput (s.wing w).queues k.partition ((s.wing w).queue k.partition ++ [k]) }).withhold) := by
  intro w enters
  change execDispatch s = _
  unfold execDispatch
  rw [htokens]
  simp only [hfree, Bool.not_true, Bool.false_or]
  rfl

theorem State.homeWing_lt (s : State) (h : Nat) : s.homeWing h < 2 := by
  unfold State.homeWing
  split <;> omega

theorem hallFree_of_wingFree {s : State} {w : Nat} (h : s.wingFree w = true) : s.hallFree = true := by
  simp only [State.wingFree, Bool.and_eq_true] at h
  exact h.2

/-- R66: a dispatcher queue that is full withholds credits. -/
theorem State.withheld_withhold {s : State} {w p : Nat} (hfull : 2048 ≤ ((s.wing w).queue p).length) : s.withhold.hall.withheld = true := by
  have hmem : ∃ q ∈ (s.wing w).queues, 2048 ≤ q.2.length := by
    rw [Wing.queue, mget_eq_mfind] at hfull
    cases hfind : mfind (s.wing w).queues p with
    | none =>
      rw [hfind] at hfull
      exact absurd hfull (by decide)
    | some q =>
      rw [hfind] at hfull
      exact ⟨_, mem_of_mfind hfind, hfull⟩
  have hany : s.anyQueueFull = true := by
    obtain ⟨q, hq, hlen⟩ := hmem
    refine List.any_eq_true.2 ⟨q.2.length, List.mem_map.2 ⟨q, ?_, rfl⟩, decide_eq_true hlen⟩
    rw [List.mem_append]
    unfold State.wing at hq
    split at hq
    · exact .inl hq
    · exact .inr hq
  rw [State.withhold, if_pos hany]

theorem State.wing_withhold (s : State) (v : Nat) : s.withhold.wing v = s.wing v := by
  unfold State.withhold
  split <;> rfl

theorem State.tokens_withhold (s : State) : s.withhold.hall.tokens = s.hall.tokens := by
  unfold State.withhold
  split <;> rfl

theorem exec_quotaRelease {s : State} {w p : Nat} {k : Packet} {rest : List Packet} (hfree : s.wingFree w = true) (hqueue : (s.wing w).queue p = k :: rest)
    (hadmit : s.canAdmit w k = true) :
    Gives (.quotaRelease w p) s ((s.setWing w { s.wing w with queues := mput (s.wing w).queues p rest }).enterStairs w k) := by
  change execQuotaRelease w p s = _
  simp only [execQuotaRelease, hqueue, hfree, hadmit, Bool.not_true, Bool.or_self, Bool.false_eq_true, if_false]

theorem packetsAreAdmitted : Claims.PacketsAreAdmitted := by
  refine ⟨?admitted, ?queue, ?release⟩
  case admitted =>
    intro s k rest htokens hp w hfree hqueue hadmit
    have hexec := exec_dispatch (hallFree_of_wingFree hfree) htokens
    have henters : (s.wingFree w && ((s.wing w).queue k.partition).isEmpty && s.canAdmit w k) = true := by simp [hfree, hqueue, hadmit]
    simp only at hexec
    rw [henters] at hexec
    obtain ⟨counters, htaken⟩ := s.tokenTaken_eq k rest
    have hwing (v : Nat) : (s.tokenTaken k rest).wing v = s.wing v := by rw [htaken]; rfl
    refine ⟨_, (s.tokenTaken k rest).admitted w k, hexec, ?_, ?_, rfl, rfl, rfl, ?_, ?_, ?_⟩
    · refine (congrArg Hall.tokens (State.setWing_hall (s.tokenTaken k rest) ..)).trans ?_
      rw [htaken]
    · refine (State.stairs_enterStairs ..).trans ?_
      rw [hwing]
    · rw [State.admitted, hwing]
      exact (s.wing w).index_ne_freeStair
    · rw [State.admitted, hwing]
    · exact (State.ctr_enterStairs ..).trans (congrArg (rose · 1) (s.ctr_tokenTaken k rest _))
  case queue =>
    intro s k rest hfree htokens hp w hwaits
    have hexec := exec_dispatch hfree htokens
    have henters : (s.wingFree w && ((s.wing w).queue k.partition).isEmpty && s.canAdmit w k) = false := by
      rcases hwaits with h | h | h <;> simp [h]
    simp only at hexec
    refine ⟨fun hroom => ?_, fun hfull => ?_⟩
    · rw [henters, if_neg (by simpa using hroom)] at hexec
      obtain ⟨counters, htaken⟩ := s.tokenTaken_eq k rest
      let t := (s.tokenTaken k rest).setWing w { s.wing w with queues := mput (s.wing w).queues k.partition ((s.wing w).queue k.partition ++ [k]) }
      have hwing : t.wing w = { s.wing w with queues := mput (s.wing w).queues k.partition ((s.wing w).queue k.partition ++ [k]) } := State.wing_setWing ..
      have hqueue : (t.wing w).queue k.partition = (s.wing w).queue k.partition ++ [k] := by
        rw [hwing]
        exact mget_mput_same ..
      refine ⟨t.withhold, hexec, ?_, ?_, ?_, fun hfull => State.withheld_withhold (w := w) (p := k.partition) ?_⟩
      · rw [State.tokens_withhold]
        refine (congrArg Hall.tokens (State.setWing_hall (s.tokenTaken k rest) ..)).trans ?_
        rw [htaken]
      · rw [State.wing_withhold, hwing]
      · rw [State.wing_withhold, hqueue]
      · rw [hqueue, List.length_append]
        exact hfull
    · rwa [henters, if_pos (by simpa using hfull)] at hexec
  case release =>
    intro s w p k rest hw hp hfree hqueue hadmit
    have hwing := State.wing_setWing s (w := w) { s.wing w with queues := mput (s.wing w).queues p rest }
    refine ⟨_, (s.setWing w { s.wing w with queues := mput (s.wing w).queues p rest }).admitted w k, exec_quotaRelease hfree hqueue hadmit, ?_, ?_, rfl, rfl, ?_⟩
    · refine (State.enterStairs_keeps (Wing.queue · p) (fun _ _ => rfl) ..).trans ?_
      rw [hwing]
      exact mget_mput_same ..
    · refine (State.stairs_enterStairs ..).trans ?_
      rw [hwing]
    · rw [State.admitted, hwing]
      rfl

/-! ### Lookups -/

/-- R271: what a packet in WAIT_STATE without a source chooses in a state. -/
def Stair.chosen (s : State) (w : Nat) (x : Stair) : Stair :=
  if x.state = .waitState ∧ x.choice = none ∧ ¬ x.abandoned then { x with choice := s.choose w x } else x

theorem Stair.index_chosen (s : State) (w : Nat) (x : Stair) : (x.chosen s w).index = x.index := by
  unfold Stair.chosen
  split <;> rfl

theorem Stair.chosen_of_state {x : Stair} (h : x.state ≠ .waitState) (s : State) (w : Nat) : x.chosen s w = x := if_neg fun hx => h hx.1

theorem State.stair_chooseAll (s : State) (w i : Nat) : ((s.chooseAll w).wing w).stair i = ((s.wing w).stair i).map (Stair.chosen s w) := by
  refine (congrArg (Wing.stair · i) (State.wing_setWing s _)).trans ?_
  exact Wing.stair_map (fun y => y.index_chosen s w) i

theorem State.chooseAll_keeps {α : Type} (f : Wing → α) (hf : ∀ x l, f { x with stairs := l } = f x) (s : State) (w v : Nat) :
    f ((s.chooseAll w).wing v) = f (s.wing v) := State.setWing_keeps f (hf _ _) v

theorem State.missingFor_of_unpaired {s : State} (h : s.paired = false) (w p b stamp : Nat) : s.missingFor w p b stamp = none := by
  refine List.find?_eq_none.2 fun u _ => ?_
  rw [State.unitMissing, State.isStandby_of_not_paired h, Bool.false_and]
  exact Bool.false_ne_true

theorem exec_lookup {s : State} {w i : Nat} {x : Stair} (h : StairReady s w i x .admitted) :
    Gives (.lookup w i false) s (match s.findFor w ((s.partOf x.pkt.partition).bucketOf w x.pkt.hash) x.pkt.slot.at_ x.pkt.key with
      | none => s.lookupReturns w x 1 0 0
      | some (h, m) => if x.pkt.slot.at_ < m.insertNt then s.lookupReturns w x 2 0 0 else s.lookupReturns w x 0 h m.gen) := by
  obtain ⟨hw, hx, hfree, hpair, hst, hsq, hab, hp⟩ := h
  have huncovered : s.uncovered x.pkt.slot.at_ = false := by rw [State.uncovered, State.isStandby_of_not_paired hpair, Bool.false_and]
  change execLookup w i false s = _
  simp only [execLookup, hx, hst, hsq, hab, huncovered, hfree, State.missingFor_of_unpaired hpair, ne_eq, not_true_eq_false, Bool.false_eq_true, or_self, if_false] <;> rfl

theorem State.chooseAll_after {s : State} {w i : Nat} {y : Stair} (h : (s.wing w).stair i = some y) :
    ((s.chooseAll w).wing w).stair i = some (y.chosen s w) := by rw [State.stair_chooseAll, h, Option.map_some]

/-- A lookup that misses: the squash is counted, and its packet goes to NO_FLOW with its work discarded. -/
theorem State.lookupReturns_miss {s : State} {w i : Nat} {x : Stair} (hx : (s.wing w).stair i = some x) {result : Nat} (hne : result ≠ 0) :
    ∃ y : Stair, ((s.lookupReturns w x result 0 0).wing w).stair i = some y ∧ y.state = .noFlow ∧ y.lookup = result ∧ y.pkt = x.pkt ∧ y.newState = none ∧
      (s.lookupReturns w x result 0 0).ctr (Ctr.pwSquashNoFlow (16 * w + x.pkt.partition)) = rose (s.ctr (Ctr.pwSquashNoFlow (16 * w + x.pkt.partition))) 1 := by
  have hstairs : ((s.countSquash w x 1).wing w).stair i = some x :=
    (congrArg (Wing.stair · i) (State.wing_of_wings (State.trace_wing0 ..) (State.trace_wing1 ..) w)).trans hx
  have hctr : (s.countSquash w x 1).ctr (Ctr.pwSquashNoFlow (16 * w + x.pkt.partition)) = rose (s.ctr (Ctr.pwSquashNoFlow (16 * w + x.pkt.partition))) 1 :=
    (State.ctr_trace_other _ _ (Ctr.ident_ne_bufCtr 10 _ (by decide) _)).trans (State.ctr_bump ..)
  obtain ⟨tok, heq⟩ : ∃ tok, s.lookupReturns w x result 0 0 =
      ((s.countSquash w x 1).setStair w { x.discarded (s.countSquash w x 1).nt with state := .noFlow, lookup := result, token := tok }).chooseAll w := by
    unfold State.lookupReturns
    exact ⟨_, if_neg hne⟩
  rw [heq]
  refine ⟨_, State.chooseAll_after (State.stair_setStair hstairs (index_of_stair hx : x.index = i)), ?_⟩
  rw [Stair.chosen_of_state (fun h => by cases h)]
  exact ⟨rfl, rfl, rfl, rfl, (State.setWing_ctr ..).trans ((State.setWing_ctr ..).trans hctr)⟩


theorem lookupDecides : Claims.LookupDecides := by
  intro s w i x hready hchoice b
  have hexec := exec_lookup hready
  obtain ⟨hw, hx, hfree, hpair, hst, hsq, hab, hp⟩ := hready
  refine ⟨fun h m hfind hnt => ?_, fun h m hfind hnt => ?_, fun hfind => ?_⟩
  · rw [hfind] at hexec
    simp only [if_neg (Nat.not_lt.2 hnt)] at hexec
    have hstair : ((s.setStair w (hitStair x h m.gen)).wing w).stair i = some (hitStair x h m.gen) := State.stair_setStair hx (i := i) (index_of_stair hx : x.index = i)
    have hchosen : (hitStair x h m.gen).chosen (s.setStair w (hitStair x h m.gen)) w =
        { hitStair x h m.gen with choice := (s.setStair w (hitStair x h m.gen)).choose w (hitStair x h m.gen) } :=
      if_pos ⟨rfl, hchoice, by simp [hab]⟩
    refine ⟨_, hexec, ?_, fun g => ?_⟩
    · exact (State.chooseAll_after hstair).trans (congrArg some hchosen)
    · refine State.entryAt_of_table (funext fun v => ?_) g
      exact (State.chooseAll_keeps Wing.table (fun _ _ => rfl) ..).trans (State.setStair_keeps Wing.table (fun _ _ => rfl) ..)
  · rw [hfind] at hexec
    simp only [if_pos hnt] at hexec
    obtain ⟨y, hy, hstate, hlookup, hpkt, hnew, hctr⟩ := State.lookupReturns_miss hx (by decide : 2 ≠ 0)
    exact ⟨_, y, hexec, hy, hstate, hlookup, hpkt, hnew, hctr⟩
  · rw [hfind] at hexec
    obtain ⟨y, hy, hstate, hlookup, hpkt, hnew, -⟩ := State.lookupReturns_miss hx (by decide : 1 ≠ 0)
    exact ⟨_, y, hexec, hy, hstate, hlookup, hpkt, hnew⟩

/-- Settles O15: admission and the dispatcher queues by what the entries and queues hold behind them, and lookups by their one entry. -/
theorem packetsEnterAndLookUp : Obligations.PacketsEnterAndLookUp := by
  unfold Obligations.PacketsEnterAndLookUp
  exact ⟨packetsAreAdmitted, lookupDecides⟩

end Sys2Proof.Machine
end

section
/-!
Proofs for the fetch of commands (chapters 16, 17): the ring that the round robin serves, the fields of an entry, a fetch as the state that
the checks of the header see, and those checks in their order.
-/
open Sys2Proof Sys2Proof.Machine Sys2Proof.Claims

namespace Sys2Proof.Machine

/-! ### The round robin -/

/-- The first member of a rising list that meets a test is the least that does. -/
theorem find?_le {l : List Nat} (h : l.Pairwise (· < ·)) {p : Nat → Bool} {r q : Nat} (hr : l.find? p = some r) (hq : q ∈ l) (hp : p q = true) : r ≤ q := by
  obtain ⟨-, as, bs, rfl, has⟩ := List.find?_eq_some_iff_append.1 hr
  rcases List.mem_append.1 hq with hq | hq
  · exact absurd hp (by simpa using has q hq)
  · rcases List.mem_cons.1 hq with rfl | hq
    · exact le_rfl
    · exact ((List.pairwise_cons.1 (List.pairwise_append.1 h).2.1).1 q hq).le

theorem roundRobin {s : State} {r : Nat} (hasc : Ascending s.host.rings) (hnext : s.nextFetch = some r) :
    ∃ x, mfind s.host.rings r = some x ∧ s.canFetch x = true ∧ ∀ q y, mfind s.host.rings q = some y → s.canFetch y = true →
      (s.host.rrLast < r → s.host.rrLast < q → r ≤ q) ∧ (r ≤ s.host.rrLast → q ≤ s.host.rrLast ∧ r ≤ q) := by
  let fs := (s.host.rings.filter (fun e => s.canFetch e.2)).map (·.1)
  have hrise : fs.Pairwise (· < ·) := List.pairwise_map.2 (List.Pairwise.filter _ hasc)
  have hmem {q : Nat} {y : Ring} (hq : mfind s.host.rings q = some y) (hy : s.canFetch y = true) : q ∈ fs :=
    List.mem_map.2 ⟨(q, y), List.mem_filter.2 ⟨mem_of_mfind hq, hy⟩, rfl⟩
  have hfound {q : Nat} (hq : q ∈ fs) : ∃ x, mfind s.host.rings q = some x ∧ s.canFetch x = true := by
    obtain ⟨⟨q, x⟩, he, rfl⟩ := List.mem_map.1 hq
    obtain ⟨he, hx⟩ := List.mem_filter.1 he
    exact ⟨x, mfind_of_mem hasc he, hx⟩
  have hcases : s.nextFetch = match fs.find? (fun r => decide (s.host.rrLast < r)) with | some r => some r | none => fs.head? := rfl
  rw [hcases] at hnext
  cases hfind : fs.find? (fun r => decide (s.host.rrLast < r)) with
  | some r' =>
    rw [hfind] at hnext
    cases hnext
    have hlt := of_decide_eq_true (List.find?_some (p := fun r => decide (s.host.rrLast < r)) hfind)
    obtain ⟨x, hx, hfetch⟩ := hfound (List.mem_of_find?_eq_some hfind)
    exact ⟨x, hx, hfetch, fun q y hq hy => ⟨fun _ hlq => find?_le hrise hfind (hmem hq hy) (decide_eq_true hlq), fun hle => absurd hlt (by omega)⟩⟩
  | none =>
    rw [hfind] at hnext
    have hnone := List.find?_eq_none.1 hfind
    obtain ⟨x, hx, hfetch⟩ := hfound (List.mem_of_mem_head? hnext)
    have hhead : fs = r :: fs.tail := (List.cons_head?_tail hnext).symm
    refine ⟨x, hx, hfetch, fun q y hq hy => ⟨fun hlt => ?_, fun _ => ⟨?_, ?_⟩⟩⟩
    · exact absurd (decide_eq_true hlt) (hnone r (List.mem_of_mem_head? hnext))
    · exact Nat.not_lt.1 fun hlt => hnone q (hmem hq hy) (decide_eq_true hlt)
    · have hq := hmem hq hy
      rw [hhead] at hq hrise
      rcases List.mem_cons.1 hq with rfl | hq
      · exact le_rfl
      · exact ((List.pairwise_cons.1 hrise).1 q hq).le

/-! ### The header of an entry -/

/-- Table 17-1: an entry whose header reports no reserved bit has none set where the header and `param_addr` reserve them. -/
theorem readEntry_rsvAt {e : Bytes} (h : (readEntry e).rsvAt = none) :
    leAt e 3 1 / 2 = 0 ∧ leAt e 9 1 = 0 ∧ leAt e 0x14 1 = 0 ∧ (32 < leAt e 0xC 4 → leAt e 0x20 8 % 8 = 0) := by
  simp only [readEntry, readHeader, List.min?_eq_none_iff, List.append_eq_nil_iff] at h
  obtain ⟨⟨⟨h3, h9⟩, h14⟩, hmore⟩ := h
  refine ⟨?_, ?_, ?_, fun hlen => ?_⟩
  · by_contra hne
    rw [if_neg hne] at h3
    cases h3
  · by_contra hne
    have : 9 ∈ nonZeroAt e 9 0x0C := List.mem_filter.2 ⟨List.mem_map.2 ⟨0, by decide, rfl⟩, by simpa using hne⟩
    rw [h9] at this
    exact List.not_mem_nil this
  · by_contra hne
    have : 0x14 ∈ nonZeroAt e 0x14 0x20 := List.mem_filter.2 ⟨List.mem_map.2 ⟨0, by decide, rfl⟩, by simpa using hne⟩
    rw [h14] at this
    exact List.not_mem_nil this
  · rw [if_neg (by omega), List.append_eq_nil_iff] at hmore
    by_contra hne
    rw [if_neg hne] at hmore
    cases hmore.1

/-! ### A fetch -/

/-- R619, R634: the state behind the read of an entry, before its header is checked. -/
def State.fetched (s : State) (r : Nat) (x : Ring) (entry : Bytes) (c : Cmd) : State :=
  ({ (s.readSlot x entry).2 with host := { (s.readSlot x entry).2.host with rrLast := r, orderCtr := s.host.orderCtr + 1 } } : State).modRing r
    (fun y => { y with sqHead := (y.sqHead + 1) % 2 ^ y.log2, running := some c })

/-- What reading an entry leaves: a function's data sequence or an output. -/
theorem State.readSlot_eq (s : State) (x : Ring) (entry : Bytes) : ∃ funcs out, (s.readSlot x entry).2 = { s with host := { s.host with funcs := funcs }, out := out } := by
  unfold State.readSlot
  dsimp only
  split <;> exact ⟨_, _, rfl⟩

section
variable {s : State} {r : Nat} {x : Ring} {entry : Bytes}

theorem exec_commandFetch (hfree : s.hallFree = true) (hnext : s.nextFetch = some r) (hx : mfind s.host.rings r = some x) :
    let c := entryCmd (s.readSlot x entry).1 x.fn s.nt s.host.orderCtr
    Gives (.commandFetch entry) s (if 0 < x.skip then s.modRing r (fun y => { y with sqHead := (y.sqHead + 1) % 2 ^ y.log2, skip := y.skip - 1 })
      else (s.fetched r x entry c).checkHead r c) := by
  intro c
  change execCommandFetch entry s = _
  unfold execCommandFetch
  simp only [State.dead_of_hallFree hfree, hfree, hnext, hx, Option.bind_some, Option.map_some, Bool.not_true, Bool.or_self, Bool.false_eq_true, if_false]
  rfl

theorem State.readSlot_fst : (s.readSlot x entry).1 = if (s.func x.fn).bounce then (s.slotEntry x).getD [] else entry := by
  unfold State.readSlot
  dsimp only
  split <;> rfl

end

/-- What a fetch leaves: the ring has moved and holds the command, and a function's data sequence or an output has changed. -/
structure Fetched (r : Nat) (x : Ring) (c : Cmd) (s u : State) : Prop where
  ring : mfind u.host.rings r = some { x with sqHead := (x.sqHead + 1) % 2 ^ x.log2, running := some c }
  others : OtherRings r s u
  rrLast : u.host.rrLast = r
  parts : u.parts = s.parts
  tiles : u.tiles = s.tiles
  part : u.part = s.part
  time : u.time = s.time
  boot : u.boot = s.boot
  session : ∀ fn, (u.func fn).session = (s.func fn).session ∧ (u.func fn).enabled = (s.func fn).enabled
  out : (s.func x.fn).bounce = false → u.out = s.out ++ [onStream (s.func x.fn) x.fn (.hostRead x.fn (x.sqBase + 64 * x.sqHead) 64)]

theorem State.session_readSlot (s : State) (x : Ring) (entry : Bytes) (fn : Nat) :
    ((s.readSlot x entry).2.func fn).session = (s.func fn).session ∧ ((s.readSlot x entry).2.func fn).enabled = (s.func fn).enabled := by
  unfold State.readSlot
  dsimp only
  split
  · by_cases hfn : fn = x.fn
    · subst hfn
      rw [State.func_setFunc]
      exact ⟨rfl, rfl⟩
    · rw [State.func_setFunc_other _ _ hfn]
      exact ⟨rfl, rfl⟩
  · exact ⟨rfl, rfl⟩

theorem State.out_readSlot {s : State} {x : Ring} (entry : Bytes) (h : (s.func x.fn).bounce = false) :
    (s.readSlot x entry).2.out = s.out ++ [onStream (s.func x.fn) x.fn (.hostRead x.fn (x.sqBase + 64 * x.sqHead) 64)] := by
  simp only [State.readSlot, h, Bool.false_eq_true, if_false]
  exact State.emit_out ..

theorem State.fetched_spec {s : State} {r : Nat} {x : Ring} (hx : mfind s.host.rings r = some x) (entry : Bytes) (c : Cmd) :
    Fetched r x c s (s.fetched r x entry c) := by
  obtain ⟨funcs, out, hread⟩ := s.readSlot_eq x entry
  have hrings : (s.readSlot x entry).2.host.rings = s.host.rings := by rw [hread]
  let t : State := { (s.readSlot x entry).2 with host := { (s.readSlot x entry).2.host with rrLast := r, orderCtr := s.host.orderCtr + 1 } }
  have ht : s.fetched r x entry c = t.modRing r (fun y => { y with sqHead := (y.sqHead + 1) % 2 ^ y.log2, running := some c }) := rfl
  have htr : mfind t.host.rings r = some x := (congrArg (mfind · r) hrings).trans hx
  rw [ht]
  refine ⟨State.mfind_modRing_same _ _ _ htr, fun q hq => ?_, ?_, ?_, ?_, ?_, ?_, ?_, fun fn => ?_, fun hbounce => ?_⟩
  · exact (State.otherRings_modRing t r _ q hq).trans (congrArg (mfind · q) hrings)
  · rw [State.modRing_host]
  · exact (State.modRing_parts ..).trans (show (s.readSlot x entry).2.parts = s.parts by rw [hread])
  · exact (State.modRing_tiles ..).trans (show (s.readSlot x entry).2.tiles = s.tiles by rw [hread])
  · exact (State.modRing_part ..).trans (show (s.readSlot x entry).2.part = s.part by rw [hread])
  · exact (State.modRing_time ..).trans (show (s.readSlot x entry).2.time = s.time by rw [hread])
  · exact (State.modRing_boot ..).trans (show (s.readSlot x entry).2.boot = s.boot by rw [hread])
  · rw [State.func_of_funcs (State.funcs_modRing ..)]
    exact s.session_readSlot x entry fn
  · exact (State.modRing_out ..).trans (State.out_readSlot entry hbounce)

/-! ### The checks of the header -/

theorem State.rejectHead_of_func {s : State} {c : Cmd} (h : c.fn ≤ 8) (r : Nat) (st : Status) : s.rejectHead r c st = s.complete r st := by
  rw [State.rejectHead, State.countKeyDenied, if_neg (by omega)]

theorem headCheck_fault {s : State} {c : Cmd} {off : Nat} (h : packetFault s c = some off) : headCheck s c = some (badParam off) := by
  simp only [headCheck, h]

theorem packetFault_of_unknown {s : State} {c : Cmd} (h : opInfo c.hdr.opcode = none) : packetFault s c = some 0 := by
  simp only [packetFault, h]

section
variable {s : State} {c : Cmd} {i : OpInfo} (hfault : packetFault s c = none) (hop : opInfo c.hdr.opcode = some i)
include hfault

theorem headCheck_late (hlate : c.tooLate s.nt = true) : headCheck s c = some { status := 6 } := by
  cases hop : opInfo c.hdr.opcode with
  | none => rw [packetFault_of_unknown hop] at hfault; cases hfault
  | some i =>
    simp only [headCheck, hfault, hop, hlate, if_true]
    rfl

variable (hlate : c.tooLate s.nt = false) (hsession : sessionFree c.hdr.opcode = false)
include hop hlate hsession

theorem headCheck_noSession (hen : s.enabledOf c.fn = none) : headCheck s c = some { status := 4 } := by
  simp [headCheck, hfault, hop, hlate, hsession, hen, fail, stDenied]

variable {en : Nat} (hen : s.enabledOf c.fn = some en) (hrecovery : s.boot.recovery = false)
include hen hrecovery

theorem headCheck_noFeature (hfeat : ∃ b ∈ i.feats, bitOf en b = false) : headCheck s c = some { status := 3 } := by
  have hall : i.feats.all (fun b => bitOf en b) = false := by simpa using hfeat
  simp [headCheck, hfault, hop, hlate, hsession, hen, hrecovery, hall, fail, stNoFeature]

variable (hfeats : ∀ b ∈ i.feats, bitOf en b = true)
include hfeats

theorem headCheck_rights (hrights : rightsFault s c i = true) : headCheck s c = some { status := 4 } := by
  have hall : i.feats.all (fun b => bitOf en b) = true := List.all_eq_true.2 hfeats
  simp [headCheck, hfault, hop, hlate, hsession, hen, hrecovery, hall, hrights, fail, stDenied]

variable (hrights : rightsFault s c i = false)
include hrights

theorem headCheck_busy (hdev : s.boot.devState ≠ 4) (hcls : [1, 8, 10, 15].contains (opClass c.hdr.opcode) = false) :
    headCheck s c = some { status := 1 } := by
  have hall : i.feats.all (fun b => bitOf en b) = true := List.all_eq_true.2 hfeats
  simp only [headCheck, hfault, hop, hlate, hsession, hen, hrecovery, hrights, hcls, Option.getD_some, hall]
  simp [hdev, fail, stBusy]

/-- Steps 7 and 8 for a function without partitions of its own: the state of the partition named. -/
theorem headCheck_partition (hdev : s.boot.devState = 4) (hfn : c.fn = 0) (hp : c.hdr.partition < s.partsN)
    (hcls : [3, 4, 9].contains (opClass c.hdr.opcode) = true) :
    headCheck s c = if (s.partOf c.hdr.partition).state == .unconfigured then some { status := 8 }
      else if (s.partOf c.hdr.partition).state == .scrubbing then some { status := 5 } else none := by
  have hall : i.feats.all (fun b => bitOf en b) = true := List.all_eq_true.2 hfeats
  have hen0 : s.enabledOf 0 = some en := hfn ▸ hen
  simp only [headCheck, hfault, hop, hlate, hsession, hen0, hrecovery, hrights, hcls, Option.getD_some, hall, hdev, hfn, hp]
  rfl

end

theorem State.partOf_of_fetched {r : Nat} {x : Ring} {c : Cmd} {s u : State} (h : Fetched r x c s u) (p : Nat) : u.partOf p = s.partOf p :=
  State.partOf_of_parts h.parts p

theorem State.enabledOf_of_fetched {r fn : Nat} {x : Ring} {c : Cmd} {s u : State} (h : Fetched r x c s u) (hfn : fn ≤ 8) : u.enabledOf fn = s.enabledOf fn := by
  obtain ⟨hsession, henabled⟩ := h.session fn
  simp only [State.enabledOf, if_pos (show fn < 9 by omega), hsession, henabled]

/-- A command that is just fetched is in time. -/
theorem Cmd.tooLate_fetched (e : Bytes) (fn nt order : Nat) : (entryCmd e fn nt order).tooLate nt = false := by
  have hfetch : (entryCmd e fn nt order).fetchNt = nt := rfl
  simp only [Cmd.tooLate, hfetch, Bool.and_eq_false_iff, decide_eq_false_iff_not]
  exact .inr (by omega)

theorem State.checkHead_waits {s : State} {r : Nat} {c : Cmd} (h : s.fenced c = true ∨ s.outOfTurn r c = true) : s.checkHead r c = s := by
  rw [State.checkHead, if_pos]
  rcases h with h | h <;> simp [h]

section
variable {s : State} {r : Nat} {c : Cmd} (hfence : s.fenced c = false) (hturn : s.outOfTurn r c = false)
include hfence hturn

theorem State.checkHead_some {st : Status} (hfn : c.fn ≤ 8) (h : headCheck s c = some st) : s.checkHead r c = s.complete r st := by
  rw [State.checkHead, if_neg (by simp [hfence, hturn])]
  simp only [h]
  exact State.rejectHead_of_func hfn r st

theorem State.checkHead_none (h : headCheck s c = none) : s.checkHead r c = s := by
  rw [State.checkHead, if_neg (by simp [hfence, hturn])]
  simp only [h]

end

theorem State.cmdAt_of_ring {s : State} {r : Nat} {x : Ring} (hr : r < 4096) (h : mfind s.host.rings r = some x) : s.cmdAt r = x.running := by
  rw [State.cmdAt, if_pos hr, h, Option.bind_some]

/-! ### Deadlines and fences -/

section
variable {s : State} {r : Nat} {c : Cmd} (hc : s.cmdAt r = some c) (hstart : c.started = false) (hfree : s.hallFree = true) (hturn : s.outOfTurn r c = false)
include hc hstart hfree hturn

theorem exec_startDeadlineExpiry : Gives (.startDeadlineExpiry r) s
    (if c.tooLate s.nt then (match headCheck s c with | some st => s.rejectHead r c st | none => s) else s) := by
  change execStartDeadlineExpiry r s = _
  simp only [execStartDeadlineExpiry, hc, hstart, hfree, hturn, Bool.false_or, Bool.not_true, Bool.or_false]
  cases c.tooLate s.nt <;> rfl

theorem exec_fenceRelease (hfence : c.hdr.fence = true) : Gives (.fenceRelease r) s
    (if s.fenced c then s else match headCheck s c with
      | some st => s.rejectHead r c st
      | none => s.setCmd r (some { c with hdr := { c.hdr with fence := false } })) := by
  change execFenceRelease r s = _
  simp only [execFenceRelease, hc, hstart, hfree, hturn, hfence, Bool.false_or, Bool.not_true, Bool.or_false] <;>
    (cases s.fenced c <;> rfl)

end

/-- Settles O35: the round robin over a rising list, the fields as the header is read, and the header's checks in the state behind the fetch. -/
theorem commandsAreFetchedAndChecked : Obligations.CommandsAreFetchedAndChecked := by
  unfold Obligations.CommandsAreFetchedAndChecked
  refine ⟨fun s r hasc hnext => roundRobin hasc hnext, fun e fn nt order => ?header, ?fetch, fun s r c hc hstart hfree hturn => ?waits⟩
  case header =>
    refine ⟨rfl, rfl, ?_, rfl, rfl, rfl, rfl, rfl, rfl, readEntry_rsvAt⟩
    exact beq_iff_eq
  case waits =>
    have hexpiry := exec_startDeadlineExpiry hc hstart hfree hturn
    refine ⟨fun hlate => ?_, fun hlate hfault => ?_, fun hf hfenced => ?_, fun hf hfenced hcheck => ?_, fun hf hfenced hfn st hcheck => ?_⟩
    · rwa [hlate, if_neg Bool.false_ne_true] at hexpiry
    · have hcheck := headCheck_late hfault hlate
      rw [hlate, if_pos rfl, hcheck] at hexpiry
      refine hexpiry.trans (congrArg Host.Outcome.next ?_)
      simp [State.rejectHead, State.countKeyDenied, stDenied]
    · have hfence := exec_fenceRelease hc hstart hfree hturn hf
      rwa [hfenced, if_pos rfl] at hfence
    · have hfence := exec_fenceRelease hc hstart hfree hturn hf
      rwa [hfenced, if_neg Bool.false_ne_true, hcheck] at hfence
    · have hfence := exec_fenceRelease hc hstart hfree hturn hf
      rw [hfenced, if_neg Bool.false_ne_true, hcheck] at hfence
      exact hfence.trans (congrArg Host.Outcome.next (State.rejectHead_of_func hfn r st))
  case fetch =>
    intro entry s r x hfree hr hnext hx hfn
    have hexec := exec_commandFetch (entry := entry) hfree hnext hx
    rw [State.readSlot_fst] at hexec
    dsimp only at hexec
    refine ⟨fun hskip => ?_, fun hskip => ?_⟩
    · rwa [if_pos hskip] at hexec
    · rw [if_neg (Nat.not_lt.2 hskip.le)] at hexec
      have hfetched := State.fetched_spec hx entry (entryCmd (if (s.func x.fn).bounce then (s.slotEntry x).getD [] else entry) x.fn s.nt s.host.orderCtr)
      generalize hc : entryCmd (if (s.func x.fn).bounce then (s.slotEntry x).getD [] else entry) x.fn s.nt s.host.orderCtr = c at hexec hfetched ⊢
      have hlate : c.tooLate s.nt = false := hc ▸ Cmd.tooLate_fetched ..
      have hcfn : c.fn = x.fn := hc ▸ rfl
      generalize s.fetched r x entry c = u at hexec hfetched
      have hends {st : Status} (hf : u.fenced c = false) (ht : u.outOfTurn r c = false) (h : headCheck u c = some st) :
          Gives (.commandFetch entry) s (u.complete r st) :=
        hexec.trans (congrArg Host.Outcome.next (State.checkHead_some hf ht (hcfn.trans_le hfn) h))
      have hnow : u.nt = s.nt := State.nt_of_time hfetched.time
      have hlate' : c.tooLate u.nt = false := hnow ▸ hlate
      have henabled : u.enabledOf c.fn = s.enabledOf x.fn := by rw [hcfn]; exact State.enabledOf_of_fetched hfetched hfn
      refine ⟨u, hfetched.ring, hfetched.others, hfetched.rrLast, State.cmdAt_of_ring hr hfetched.ring, hfetched.parts, hfetched.tiles, hfetched.out,
        fun hwait => ?_, fun hf ht => ⟨fun hop => ?_, fun i hop => ⟨fun off hoff => ?_, fun hfault hen hses => ?_, fun hfault hrec hses en hen =>
          ⟨fun hfeat => ?_, fun hfeats hrights => ?_, fun hfeats hrights hdev hcls => ?_, fun hfeats hrights hdev hpf hp hcls => ?_⟩⟩⟩⟩
      · rwa [State.checkHead_waits hwait] at hexec
      · exact hends hf ht (headCheck_fault (packetFault_of_unknown hop))
      · exact hends hf ht (headCheck_fault hoff)
      · exact ⟨0, hends hf ht (headCheck_noSession hfault hop hlate' hses (henabled.trans hen))⟩
      · exact ⟨0, hends hf ht (headCheck_noFeature hfault hop hlate' hses (henabled.trans hen) (hfetched.boot ▸ hrec) hfeat)⟩
      · exact ⟨0, hends hf ht (headCheck_rights hfault hop hlate' hses (henabled.trans hen) (hfetched.boot ▸ hrec) hfeats hrights)⟩
      · exact ⟨0, hends hf ht (headCheck_busy hfault hop hlate' hses (henabled.trans hen) (hfetched.boot ▸ hrec) hfeats hrights (hfetched.boot ▸ hdev) hcls)⟩
      · have hparts : u.partsN = s.partsN := by rw [State.partsN, State.partsN, State.is4840, State.is4840, hfetched.part]
        have hcheck := headCheck_partition hfault hop hlate' hses (henabled.trans hen) (hfetched.boot ▸ hrec) hfeats hrights (hfetched.boot ▸ hdev)
          (hcfn.trans hpf) (hparts ▸ hp) hcls
        rw [State.partOf_of_fetched hfetched] at hcheck
        refine ⟨fun hst => ⟨0, hends hf ht ?_⟩, fun hst => ⟨0, hends hf ht ?_⟩, fun hst => ?_⟩
        · rw [hcheck, hst]
          rfl
        · rw [hcheck, hst]
          rfl
        · rw [hst] at hcheck
          rwa [State.checkHead_none hf ht hcheck] at hexec

end Sys2Proof.Machine
end

section
/-!
Proofs for images (chapter 13, R494 to R499): what a load, its end and a discard leave of a partition's two slots and of the tiles, and the
commands and the step of a load by these.
-/
open Sys2Proof Sys2Proof.Machine Sys2Proof.Claims

namespace Sys2Proof.Machine

/-! ### What the operations of a load leave -/

/-- A quantity that changes of the Wings' regions do not touch is kept by writes to them. -/
theorem State.regionWrite_keeps {α : Type} (g : State → α) (hwing : ∀ s w x, g (State.setWing s w x) = g s)
    (hhealth : ∀ (s : State) h, g { s with health := h } = g s) (s : State) (w p a : Nat) (bs : Bytes) :
    g (s.regionWrite w p a bs) = g s :=
  (hwing ..).trans (hhealth ..)

theorem State.regionClear_keeps {α : Type} (g : State → α) (hwing : ∀ s w x, g (State.setWing s w x) = g s)
    (hhealth : ∀ (s : State) h, g { s with health := h } = g s) (s : State) (w p a n : Nat) :
    g (s.regionClear w p a n) = g s :=
  (hwing ..).trans (hhealth ..)

section
variable (s : State) (p n : Nat)

@[simp] theorem State.parts_eraseHalf : (s.eraseHalf p n).parts = s.parts :=
  foldl_keeps State.parts _ (fun _ _ => State.regionClear_keeps State.parts State.setWing_parts (fun _ _ => rfl) ..) _ s

@[simp] theorem State.tiles_eraseHalf : (s.eraseHalf p n).tiles = s.tiles :=
  foldl_keeps State.tiles _ (fun _ _ => State.regionClear_keeps State.tiles State.setWing_tiles (fun _ _ => rfl) ..) _ s

@[simp] theorem State.parts_erasePlain : (s.erasePlain p n).parts = s.parts := by
  unfold State.erasePlain; split <;> simp

@[simp] theorem State.tiles_erasePlain : (s.erasePlain p n).tiles = s.tiles := by
  unfold State.erasePlain; split <;> simp

@[simp] theorem State.tiles_issueLeaf : (s.issueLeaf p).tiles = s.tiles := by
  unfold State.issueLeaf; split <;> rfl

@[simp] theorem State.parts_openLoads : s.openLoads.parts = s.parts := by
  unfold State.openLoads; split <;> rfl

@[simp] theorem State.tiles_openLoads : s.openLoads.tiles = s.tiles := by
  unfold State.openLoads; split <;> rfl

/-- R495: the storage that a finished load fills is on the Wings, so it leaves what does not depend on them. -/
theorem State.loadedStorage_keeps {α : Type} (g : State → α) (hwing : ∀ s w x, g (State.setWing s w x) = g s)
    (hhealth : ∀ (s : State) h, g { s with health := h } = g s) (keys : Nat → KeyPair) (bs : Bytes) (img : Image) :
    g ((s.writeImageArea p n keys bs).writeDram p img) = g s :=
  (foldl_keeps g _ (fun _ _ => State.regionWrite_keeps g hwing hhealth ..) _ _).trans
    (foldl_keeps g _ (fun _ _ => State.regionWrite_keeps g hwing hhealth ..) _ s)

@[simp] theorem State.slot_endLoad (y : ImageSlot) (m : Nat) :
    ((s.endLoad p n y).partOf p).slot m = ((s.partOf p).setSlot n y).slot m := by
  rw [State.endLoad, State.partOf_modPart]
  rfl

@[simp] theorem State.slot_emptySlot (m : Nat) : ((s.emptySlot p n).partOf p).slot m = ((s.partOf p).setSlot n {}).slot m := by
  rw [State.emptySlot, State.slot_issueLeaf, State.partOf_bump, State.slot_endLoad]

@[simp] theorem State.partOf_placeImage (epoch : Option Nat) (q : Nat) : (s.placeImage p n epoch).partOf q = s.partOf q :=
  State.foldl_placeTile_keeps (State.partOf · q) (fun _ _ _ _ => rfl) s p n epoch

end

/-! ### Where an image becomes resident (R499) -/

section
variable {s : State} {p n : Nat} {high : Bool} {epoch : Option Nat}

/-- R499: the other slot can cease to be resident, and nothing else of it changes. -/
theorem State.slot_other_makeResident (hn : n < 2) :
    ∃ r, ((s.makeResident p n high epoch).partOf p).slot (1 - n) = { (s.partOf p).slot (1 - n) with resident := r } := by
  unfold State.makeResident
  dsimp only
  rw [State.partOf_placeImage, State.partOf_modSlot, Partition.slot_setSlot_other _ hn]
  split
  · exact ⟨false, by rw [State.partOf_modSlot, Partition.slot_setSlot_same]⟩
  · exact ⟨_, rfl⟩

theorem State.slot_makeResident (hn : n < 2) :
    ((s.makeResident p n high epoch).partOf p).slot n = { (s.partOf p).slot n with resident := true, high := high } := by
  have hother (x : Partition) (y : ImageSlot) : (x.setSlot (1 - n) y).slot n = x.slot n := by
    rw [Partition.slot_setSlot, if_neg (by omega)]
  unfold State.makeResident
  dsimp only
  rw [State.partOf_placeImage, State.partOf_modSlot, Partition.slot_setSlot_same]
  split
  · rw [State.partOf_modSlot, hother]
  · rfl

/-- The two slots by the one that a load concerns and the other. -/
theorem Partition.anyRunning_slots (hn : n < 2) (x : Partition) :
    (x.slot0.state == .running || x.slot1.state == .running) = ((x.slot n).state == .running || (x.slot (1 - n)).state == .running) := by
  obtain rfl | rfl : n = 0 ∨ n = 1 := by omega
  · rfl
  · exact Bool.or_comm ..

/-- R499: the residence of an image depends on the other slot, where its own is not RUNNING. -/
theorem State.residence_congr {t : State} (hn : n < 2) (hpart : t.part = s.part)
    (hother : (t.partOf p).slot (1 - n) = (s.partOf p).slot (1 - n)) (hs : ((s.partOf p).slot n).state ≠ .running)
    (ht : ((t.partOf p).slot n).state ≠ .running) (img : Image) : t.residence p n img = s.residence p n img := by
  simp only [State.residence, Partition.anyRunning_slots hn, hother, State.is4840, hpart, beq_false_of_ne hs, beq_false_of_ne ht]

end

/-! ### IMAGE_LOAD and its end (R495 to R499) -/

/-- R495: the state once a load into slot `n` of partition `p` has started. -/
def State.loadStarted (s : State) (p n : Nat) (y : ImageSlot) : State :=
  (s.openLoads.setPart p ((s.partOf p).setSlot n y)).issueLeaf p

theorem State.slot_loadStarted (s : State) (p n m : Nat) (y : ImageSlot) :
    ((s.loadStarted p n y).partOf p).slot m = ((s.partOf p).setSlot n y).slot m := by
  rw [State.loadStarted, State.slot_issueLeaf, State.partOf_setPart]

theorem State.tiles_loadStarted (s : State) (p n : Nat) (y : ImageSlot) : (s.loadStarted p n y).tiles = s.tiles :=
  (State.tiles_issueLeaf ..).trans s.tiles_openLoads

section
variable {s : State} {c : CmdIn} {n bytes : Nat} {head : Bytes} {cmd : Cmd}

theorem exec_imageLoad_refused {st : Nat} (h : Ready 0x0301 (.imageLoad c n bytes head) c s cmd)
    (hdata : DataHere c s cmd (headBytes bytes) (fun d => d.take (headBytes bytes) == head))
    (hst : ((s.partOf cmd.hdr.partition).slot n).state.busy = true ∧ st = stBusy ∨
      ((s.partOf cmd.hdr.partition).slot n).state.busy = false ∧
        ((s.partOf cmd.hdr.partition).sealed && decide (6 < head.length) && !headSealed head) = true ∧ st = stDenied) :
    Fails (.imageLoad c n bytes head) c s st := by
  refine ⟨0, congrArg Host.Outcome.next (runCmd_completes_data h (List.forall_mem_nil _) hdata ?_ rfl)⟩
  obtain ⟨hbusy, rfl⟩ | ⟨hbusy, hplain, rfl⟩ := hst
  · simp only [hbusy, if_true]
    rfl
  · simp only [hbusy, hplain, Bool.false_eq_true, if_false, if_true]
    rfl

theorem runCmd_runs_data {op : Nat} {i : Instr} (h : Ready op i c s cmd) {bad : List (Bool × Nat)}
    {body : Cmd → State → Option Status × State} {data : Nat} {holds : Bytes → Bool} {t : State} (hbad : ∀ b ∈ bad, b.1 = false)
    (hdata : DataHere c s cmd data holds) (hbody : body cmd s = (none, t)) :
    runCmd op i c bad s body (data := data) (holds := holds) = (t.noteStep c.ring cmd).setCmd c.ring (some { cmd with started := true }) := by
  obtain ⟨hcmd, hop, hstart, hfence, hfree, hturn, hhead, hcome, hspell, hread, hrsv, hrest⟩ := h
  have hfault : paramFault c.rsvAt (s.paramRest i c.ring cmd) bad = none := by
    rw [hrsv, hrest]; exact (paramFault_none bad).2 hbad
  rw [runCmd_start op i c bad s body _ _ _ _ hcmd hop hstart hfence hfree hturn hhead hread rfl rfl hspell hfault hcome hdata.1 hdata.2,
    hbody]

theorem exec_imageLoad (h : Ready 0x0301 (.imageLoad c n bytes head) c s cmd)
    (hdata : DataHere c s cmd (headBytes bytes) (fun d => d.take (headBytes bytes) == head))
    (hbusy : ((s.partOf cmd.hdr.partition).slot n).state.busy = false)
    (hplain : ((s.partOf cmd.hdr.partition).sealed && decide (6 < head.length) && !headSealed head) = false) :
    Gives (.imageLoad c n bytes head) s
      (((s.loadStarted cmd.hdr.partition n
        { state := .loading, loadRing := some c.ring, loadStart := s.nt, loadBytes := bytes, loadHead := head }).noteStep c.ring cmd).setCmd c.ring
          (some { cmd with started := true })) := by
  refine congrArg Host.Outcome.next (runCmd_runs_data h (List.forall_mem_nil _) hdata ?_)
  simp only [hbusy, hplain, Bool.false_eq_true, if_false]
  have hnt : s.openLoads.nt = s.nt := by unfold State.openLoads; split <;> rfl
  rfl

end

section
variable {s : State} {p n : Nat} {r : LoadResult}

theorem exec_imageLoadCheck_waits (h : s.loadReady ((s.partOf p).slot n) r = false) : Gives (.imageLoadCheck p n r) s s := by
  change execImageLoadCheck p n r s = _
  simp only [execImageLoadCheck, h, Bool.not_false, Bool.or_true, if_true]

/-- R498: the state in which the end of a load is judged. -/
def State.transferEnded (s : State) (y : ImageSlot) (r : LoadResult) : State := if r.dmaError then s else s.moveLoad y

theorem State.transferEnded_keeps {α : Type} (g : State → α) (hg : ∀ (s : State) h, g { s with hall := h } = g s) (s : State)
    (y : ImageSlot) (r : LoadResult) : g (s.transferEnded y r) = g s := by
  unfold State.transferEnded; split
  · rfl
  · exact hg ..

theorem exec_imageLoadCheck (hfree : s.hallFree = true) (h : s.loadReady ((s.partOf p).slot n) r = true) :
    let y := (s.partOf p).slot n
    let keys := (s.partOf p).keysAt y r.arrived
    Gives (.imageLoadCheck p n r) s (match loadFault s (s.partOf p) y.loadBytes keys r with
      | some st => (s.transferEnded y r).rejectLoad p n (pageFails (s.partOf p) y.loadBytes keys r) r.dmaError st
      | none => (s.transferEnded y r).acceptLoad p n keys r.bytes (r.loaded keys)) := by
  intro y keys
  have hfault (t : State) (hpart : t.part = s.part) : loadFault t (s.partOf p) y.loadBytes keys r = loadFault s (s.partOf p) y.loadBytes keys r := by
    have his : t.is4840 = s.is4840 := by rw [State.is4840, State.is4840, hpart]
    have hwings : t.wings = s.wings := by rw [State.wings, State.wings, his]
    have hchecks (img : Image) : imageChecks t (s.partOf p) img = imageChecks s (s.partOf p) img := by
      rw [imageChecks, imageChecks, his, hwings]
    unfold loadFault
    rw [hchecks]
  have hpart := State.transferEnded_keeps State.part (fun _ _ => rfl) s y r
  change execImageLoadCheck p n r s = _
  simp only [execImageLoadCheck, hfree, h, Bool.not_true, Bool.or_self, Bool.false_eq_true, if_false]
  rw [← hfault _ hpart]
  rfl

/-- R496, R713: the state of a load that fails, with its page counted and its plaintext erased. -/
def State.pageRejected (s : State) (p n : Nat) (paged dma : Bool) : State :=
  let t := if paged then s.bump (Ctr.partPageReject p) else s
  if paged || dma then t.erasePlain p n else t

@[simp] theorem State.parts_pageRejected (paged dma : Bool) : (s.pageRejected p n paged dma).parts = s.parts := by
  cases paged <;> cases dma <;> simp [State.pageRejected]

@[simp] theorem State.tiles_pageRejected (paged dma : Bool) : (s.pageRejected p n paged dma).tiles = s.tiles := by
  cases paged <;> cases dma <;> simp [State.pageRejected]

/-- R496: the slot of a load that fails is EMPTY, and its command, if any, completes. -/
theorem State.rejectLoad_eq (paged dma : Bool) (st : Status) :
    s.rejectLoad p n paged dma st = ((s.pageRejected p n paged dma).emptySlot p n).finishLoad ((s.partOf p).slot n).loadRing st := by
  rw [← State.partOf_of_parts (State.parts_pageRejected paged dma)]
  rfl

@[simp] theorem State.tiles_emptySlot : (s.emptySlot p n).tiles = s.tiles :=
  State.tiles_issueLeaf ..

/-- R495: the state of a load that succeeds, but for its command's completion. -/
def State.loadAccepted (s : State) (p n : Nat) (keys : Nat → KeyPair) (bs : Bytes) (img : Image) : State :=
  let t := ((s.writeImageArea p n keys bs).writeDram p img).endLoad p n
    { state := .ready, image := some img, loadBytes := ((s.partOf p).slot n).loadBytes }
  ((match t.residence p n img with
    | some high => t.makeResident p n high none
    | none => t).bump (Ctr.partImageLoads p)).issueLeaf p

theorem State.acceptLoad_eq (keys : Nat → KeyPair) (bs : Bytes) (img : Image) :
    s.acceptLoad p n keys bs img = (s.loadAccepted p n keys bs img).finishLoad ((s.partOf p).slot n).loadRing okStatus := rfl

/-- R495, R499: the slot of a load that succeeds is READY, and resident where R499 makes it so; the other keeps its state and image. -/
theorem State.slots_loadAccepted (hn : n < 2) (hstate : ((s.partOf p).slot n).state ≠ .running) (keys : Nat → KeyPair) (bs : Bytes) (img : Image) :
    let u := s.loadAccepted p n keys bs img
    ((u.partOf p).slot n).state = .ready ∧ ((u.partOf p).slot n).image = some img ∧
      ((u.partOf p).slot n).resident = (s.residence p n img).isSome ∧
      ((u.partOf p).slot (1 - n)).state = ((s.partOf p).slot (1 - n)).state ∧
      ((u.partOf p).slot (1 - n)).image = ((s.partOf p).slot (1 - n)).image := by
  intro u
  have hparts := State.loadedStorage_keeps s p n State.parts State.setWing_parts (fun _ _ => rfl) keys bs img
  have hpart := State.loadedStorage_keeps s p n State.part State.setWing_part (fun _ _ => rfl) keys bs img
  simp only [u, State.loadAccepted, State.slot_issueLeaf, State.partOf_bump]
  generalize (s.writeImageArea p n keys bs).writeDram p img = v at hparts hpart
  have hown := State.slot_endLoad v p n { state := .ready, image := some img, loadBytes := ((s.partOf p).slot n).loadBytes } n
  have hother := State.slot_endLoad v p n { state := .ready, image := some img, loadBytes := ((s.partOf p).slot n).loadBytes } (1 - n)
  rw [Partition.slot_setSlot_same] at hown
  rw [Partition.slot_setSlot_other _ hn, State.partOf_of_parts hparts] at hother
  generalize hv : v.endLoad p n _ = e at hown hother ⊢
  have hres : e.residence p n img = s.residence p n img :=
    State.residence_congr hn (hv ▸ hpart) hother hstate (by rw [hown]; exact SlotState.noConfusion) img
  rw [hres]
  cases hr : s.residence p n img with
  | none =>
    dsimp only
    rw [hown, hother]
    exact ⟨rfl, rfl, rfl, rfl, rfl⟩
  | some high =>
    obtain ⟨r, hr⟩ := State.slot_other_makeResident (s := e) (p := p) (high := high) (epoch := none) hn
    dsimp only
    rw [State.slot_makeResident hn, hr, hown, hother]
    exact ⟨rfl, rfl, rfl, rfl, rfl⟩

end

/-! ### IMAGE_DISCARD and IMAGE_QUERY -/

section
variable {s : State} {c : CmdIn} {n : Nat} {cmd : Cmd}

theorem exec_imageDiscard_refused {st : Nat} (h : Ready 0x0302 (.imageDiscard c n) c s cmd)
    (hst : ((s.partOf cmd.hdr.partition).slot n).state.busy = true ∧ st = stBusy ∨
      ((s.partOf cmd.hdr.partition).slot n).state = .empty ∧ st = stNotFound) :
    Fails (.imageDiscard c n) c s st := by
  refine ⟨0, congrArg Host.Outcome.next (runNow_refuses h (List.forall_mem_nil _) ?_)⟩
  obtain ⟨hbusy, rfl⟩ | ⟨hempty, rfl⟩ := hst
  · simp only [hbusy, if_true]
  · simp only [hempty, SlotState.busy, Bool.false_eq_true, if_false, if_true]

/-- R497: the state once slot `n` of partition `p` has been discarded. -/
def State.discarded (s : State) (p n : Nat) : State :=
  ((if (((s.partOf p).slot n).image.map (·.sealed_)).getD false then s.eraseHalf p n else s).modSlot p n (fun _ => {})).issueLeaf p

theorem State.slot_discarded (s : State) (p n m : Nat) : ((s.discarded p n).partOf p).slot m = ((s.partOf p).setSlot n {}).slot m := by
  rw [State.discarded, State.slot_issueLeaf, State.partOf_modSlot]
  refine congrArg (fun x => (Partition.setSlot x n {}).slot m) (State.partOf_of_parts ?_ p)
  split
  · exact s.parts_eraseHalf p n
  · rfl

theorem State.tiles_discarded (s : State) (p n : Nat) : (s.discarded p n).tiles = s.tiles := by
  have herased : (if (((s.partOf p).slot n).image.map (·.sealed_)).getD false then s.eraseHalf p n else s).tiles = s.tiles := by
    split
    · exact s.tiles_eraseHalf p n
    · rfl
  exact (State.tiles_issueLeaf ..).trans herased

theorem exec_imageDiscard (h : Ready 0x0302 (.imageDiscard c n) c s cmd) (hready : ((s.partOf cmd.hdr.partition).slot n).state = .ready) :
    Succeeds (.imageDiscard c n) c s (s.discarded cmd.hdr.partition n) := by
  refine congrArg Host.Outcome.next (runNow_completes h (List.forall_mem_nil _) (dataHere_of_ready h) ?_ (.inl rfl) (if_pos rfl))
  simp only [hready, SlotState.busy, Bool.false_eq_true, if_false, reduceCtorEq]
  rfl

theorem State.length_slotReply (s : State) (p k : Nat) : (s.slotReply p k).length = 16 := by
  simp [State.slotReply, length_leBytes, length_zeroBytes]

theorem exec_imageQuery (h : Ready 0x0303 (.imageQuery c) c s cmd) (hroom : Room c 48) :
    Replies (.imageQuery c) c s s.nextFree (s.imageReply cmd.hdr.partition) := by
  have hlen : (s.imageReply cmd.hdr.partition).length = 48 := by
    simp [State.imageReply, State.length_slotReply, length_leBytes, length_zeroBytes]
  exact congrArg Host.Outcome.next
    (runNow_completes h (List.forall_mem_nil _) (dataHere_of_ready h) rfl (.inr (hlen ▸ hroom)) (if_pos rfl))

end

/-- Settles O27: IMAGE_LOAD and IMAGE_DISCARD by the slot's state, and the end of a load by the checks of Table 13-7. -/
theorem imagesLoadAndGo : Obligations.ImagesLoadAndGo := by
  refine ⟨fun c n bytes head s cmd hn hp => ?_, fun s p n r hn hp hfree => ?_⟩
  · intro p i plain
    refine ⟨fun h hdata => ⟨fun hbusy => ?_, fun hbusy hplain => ?_, fun hbusy hplain => ?_⟩, fun h => ⟨fun hbusy => ?_, fun hempty => ?_, fun hready => ?_⟩,
      exec_imageQuery⟩
    · exact exec_imageLoad_refused h hdata (.inl ⟨hbusy, rfl⟩)
    · exact exec_imageLoad_refused h hdata (.inr ⟨hbusy, hplain, rfl⟩)
    · refine ⟨_, exec_imageLoad h hdata hbusy hplain, ?_, ?_, ?_⟩
      · rw [State.partOf_of_parts (State.noteStep_parts ..), State.slot_loadStarted, Partition.slot_setSlot_same]
      · rw [State.partOf_of_parts (State.noteStep_parts ..), State.slot_loadStarted, Partition.slot_setSlot_other _ hn]
      · rw [State.noteStep_tiles, State.tiles_loadStarted]
    · exact exec_imageDiscard_refused h (.inl ⟨hbusy, rfl⟩)
    · exact exec_imageDiscard_refused h (.inr ⟨hempty, rfl⟩)
    · exact ⟨_, exec_imageDiscard h hready, (State.slot_discarded ..).trans (Partition.slot_setSlot_same ..),
        (State.slot_discarded ..).trans (Partition.slot_setSlot_other _ hn _), State.tiles_discarded ..⟩
  · intro keys
    have hended := State.transferEnded_keeps State.parts (fun _ _ => rfl) s ((s.partOf p).slot n) r
    have hpartOf := State.partOf_of_parts hended p
    have hslot : ((s.transferEnded ((s.partOf p).slot n) r).partOf p).slot n = (s.partOf p).slot n := by rw [hpartOf]
    refine ⟨exec_imageLoadCheck_waits, fun st hready hst => ?_, fun hready hst => ?_⟩
    · have hexec := exec_imageLoadCheck hfree hready
      simp only [keys] at hst
      simp only [hst] at hexec
      rw [State.rejectLoad_eq, hslot] at hexec
      refine ⟨_, hexec, ?_, ?_, ?_⟩
      · rw [State.slot_emptySlot, Partition.slot_setSlot_same]
      · rw [State.slot_emptySlot, Partition.slot_setSlot_other _ hn, State.partOf_of_parts ((State.parts_pageRejected ..).trans hended)]
      · rw [State.tiles_emptySlot, State.tiles_pageRejected]
        exact State.transferEnded_keeps State.tiles (fun _ _ => rfl) ..
    · have hexec := exec_imageLoadCheck hfree hready
      simp only [keys] at hst
      simp only [hst] at hexec
      rw [State.acceptLoad_eq, hslot] at hexec
      have hloading : ((s.partOf p).slot n).state = .loading := by
        simp only [State.loadReady, Bool.and_eq_true, beq_iff_eq] at hready
        exact hready.1
      have hslots := State.slots_loadAccepted (s := s.transferEnded ((s.partOf p).slot n) r) (p := p) hn
        (by rw [hslot, hloading]; decide) keys r.bytes (r.loaded keys)
      rw [State.residence_congr (s := s) hn (State.transferEnded_keeps State.part (fun _ _ => rfl) ..) (by rw [hpartOf])
        (by rw [hloading]; decide) (by rw [hslot, hloading]; decide), hpartOf] at hslots
      exact ⟨_, hexec, hslots⟩

end Sys2Proof.Machine
end

section
/-!
Proofs for the management network (chapter 23, R854 to R859): associations open, close and take records; frames cross the bridge; echo
requests and solicitations are answered.
-/
open Sys2Proof Sys2Proof.Machine Sys2Proof.Claims

namespace Sys2Proof.Machine

/-! ### Associations (R856, R857) -/

/-- The later of two writes to an entry stands. -/
theorem mput_mput_same {α : Type} (t : Tab α) (k : Nat) (a b : α) : mput (mput t k a) k b = mput t k b := by
  induction t with
  | nil => simp [mput]
  | cons x t ih =>
    obtain ⟨i, c⟩ := x
    obtain hlt | heq | hgt := Nat.lt_trichotomy k i
    · simp [mput, hlt]
    · simp [mput, heq]
    · simp [mput, Nat.lt_asymm hgt, Nat.ne_of_gt hgt, ih]

section
variable {s : State} {n : Nat} {a : Assoc}

theorem State.modAssoc_of (h : mfind s.boot.assocs n = some a) (f : Assoc → Assoc) :
    s.modAssoc n f = { s with boot := { s.boot with assocs := mput s.boot.assocs n (f a) } } := by
  unfold State.modAssoc; rw [h]

theorem State.assoc_modAssoc (h : mfind s.boot.assocs n = some a) (f : Assoc → Assoc) :
    mfind (s.modAssoc n f).boot.assocs n = some (f a) := by
  rw [State.modAssoc_of h]
  exact mfind_mput_same ..

theorem exec_dtlsHandshake {anchor serial : Option Nat} (hup : s.mgmtUp = true) (hfree : s.hallFree = true) :
    Gives (.dtlsHandshake anchor serial) s (match s.assocSlot anchor serial with
      | some x => s.openAssoc x.1 x.2
      | none => s.bumpN Ctr.hallAssocRejected 1) := by
  refine congrArg Host.Outcome.next ((State.whenFree_of_free hfree _).trans ?_)
  rw [hup]
  rfl

/-- R856: an operator takes the first free slot of the four. -/
theorem State.assocSlot_operator {b : Nat} (h : b ∈ s.boot.anchors) (serial : Option Nat) :
    s.assocSlot (some b) serial = s.freeAssoc.map (fun n => (n, false)) := by
  simp [State.assocSlot, h]

theorem State.freeAssoc_none (h : ∀ n, n < 4 → (mfind s.boot.assocs n).isSome = true) : s.freeAssoc = none := by
  have hslots : ∀ n ∈ [0, 1, 2, 3], ¬(mfind s.boot.assocs n).isNone = true := by
    intro n hn
    rw [Option.isNone_iff_eq_none]
    have := h n (by simp at hn; omega)
    grind
  exact List.find?_eq_none.2 hslots

theorem State.freeAssoc_some (hn : n < 4) (hnone : mfind s.boot.assocs n = none)
    (h : ∀ k, k < n → (mfind s.boot.assocs k).isSome = true) : s.freeAssoc = some n := by
  have hkeep : ∀ k, k < n → (mfind s.boot.assocs k).isNone = false := fun k hk => by
    rw [← Option.not_isSome, h k hk]; rfl
  obtain rfl | rfl | rfl | rfl : n = 0 ∨ n = 1 ∨ n = 2 ∨ n = 3 := by omega
  · simp [State.freeAssoc, hnone]
  · simp [State.freeAssoc, hkeep 0, hnone]
  · simp [State.freeAssoc, hkeep 0, hkeep 1, hnone]
  · simp [State.freeAssoc, hkeep 0, hkeep 1, hkeep 2, hnone]

/-- R857: the relay is the device that the accepted offer came from. -/
theorem State.assocSlot_relay {anchor : Option Nat} {d : Nat} (ha : ∀ b, anchor = some b → b ∉ s.boot.anchors)
    (hd : s.boot.acceptedFrom = some d) (hnone : mfind s.boot.assocs 4 = none) : s.assocSlot anchor (some d) = some (4, true) := by
  cases anchor with
  | none => simp [State.assocSlot, hd, hnone]
  | some b => simp [State.assocSlot, hd, hnone, ha b rfl]

theorem State.assocSlot_stranger {anchor serial : Option Nat} (ha : ∀ b, anchor = some b → b ∉ s.boot.anchors)
    (hd : ∀ d, serial = some d → s.boot.acceptedFrom ≠ some d) : s.assocSlot anchor serial = none := by
  cases anchor <;> cases serial <;> simp_all [State.assocSlot]

/-- R592: what is cut off of an association's commands leaves the boot state. -/
theorem State.boot_cutRing (s : State) (r : Nat) : (s.cutRing r).boot = s.boot := by
  have hleaf (t : State) (p : Nat) : (t.issueLeaf p).boot = t.boot := by
    unfold State.issueLeaf; split <;> rfl
  have herase (t : State) (p n : Nat) : (t.erasePlain p n).boot = t.boot := by
    unfold State.erasePlain
    split
    · exact foldl_keeps State.boot _ (fun _ _ => State.regionClear_keeps State.boot State.setWing_boot (fun _ _ => rfl) ..) _ t
    · rfl
  have hempty (t : State) (p n : Nat) : (t.emptySlot p n).boot = t.boot := hleaf ..
  refine foldl_keeps State.boot _ (fun t p => foldl_keeps State.boot _ (fun t n => ?_) _ t) _ s
  split
  · rw [hempty, herase]
  · rfl

theorem exec_associationIdle (hfree : s.hallFree = true) (h : mfind s.boot.assocs n = some a) :
    Gives (.associationIdle n) s (if s.nt < a.lastNt + 300 * 16000000000 then s
      else { s.cutRing (4096 + n) with boot := { (s.cutRing (4096 + n)).boot with assocs := mdel s.boot.assocs n } }) := by
  refine congrArg Host.Outcome.next ((State.whenFree_of_free hfree _).trans ?_)
  simp only [h, State.boot_cutRing, decide_eq_true_eq]
  rfl

/-! ### Records (R858, R859) -/

theorem exec_commandRecord {rec : Option Bytes} (hup : s.mgmtUp = true) (hfree : s.hallFree = true) (h : mfind s.boot.assocs n = some a) :
    Gives (.commandRecord n rec) s (match rec, a.waitingRecs with
      | some r, _ => s.takeRecord n a r
      | none, [] => s
      | none, r :: rest =>
        if a.running.isSome then s else (s.modAssoc n (fun a => { a with waitingRecs := rest })).startRecord n r) := by
  refine congrArg Host.Outcome.next ((State.whenFree_of_free hfree _).trans ?_)
  simp only [h, hup, Bool.not_true, Bool.false_eq_true, if_false] <;> rfl

/-- R857: the association has carried a record now. -/
def State.recordSeen (s : State) (n : Nat) (a : Assoc) : State :=
  { s with boot := { s.boot with assocs := mput s.boot.assocs n { a with lastNt := s.nt } } }

theorem State.takeRecord_eq (h : mfind s.boot.assocs n = some a) (r : Bytes) :
    s.takeRecord n a r =
      if a.lastTaken = r then (s.recordSeen n a).repeatReply n a
      else if a.running.isNone && a.waitingRecs.isEmpty then (s.recordSeen n a).startRecord n r
      else if a.waitingRecs.length < 4 then (s.recordSeen n a).modAssoc n (fun a => { a with waitingRecs := a.waitingRecs ++ [r] })
      else (s.recordSeen n a).bump Ctr.hallRecordsDiscarded := by
  unfold State.takeRecord
  rw [State.modAssoc_of h]
  rfl

theorem State.assoc_recordSeen (s : State) (n : Nat) (a : Assoc) :
    mfind (s.recordSeen n a).boot.assocs n = some { a with lastNt := s.nt } := mfind_mput_same ..

/-- R859: the state in which the header of a record's command is checked. -/
def State.recordHeld (s : State) (n : Nat) (a : Assoc) (r : Bytes) : State :=
  { s with
    host := { s.host with orderCtr := s.host.orderCtr + 1 }
    boot := { s.boot with
      assocs := mput s.boot.assocs n { a with
        running := some (recordCmd r (9 + n) s.nt s.host.orderCtr), lastRecord := r, keptReply := none } } }

theorem State.startRecord_eq (h : mfind s.boot.assocs n = some a) (r : Bytes) :
    s.startRecord n r = (s.recordHeld n a r).checkHead (4096 + n) (recordCmd r (9 + n) s.nt s.host.orderCtr) := by
  exact congrArg (fun t => State.checkHead t (4096 + n) (recordCmd r (9 + n) s.nt s.host.orderCtr))
    (State.modAssoc_of (s := { s with host := { s.host with orderCtr := s.host.orderCtr + 1 } }) h _)

theorem State.recordHeld_recordSeen (s : State) (n : Nat) (a : Assoc) (r : Bytes) :
    (s.recordSeen n a).recordHeld n { a with lastNt := s.nt } r = s.recordHeld n { a with lastNt := s.nt } r := by
  simp only [State.recordHeld, State.recordSeen, mput_mput_same]
  rfl

/-- R648, R859: a command that completes on an association leaves it, and its reply is kept. -/
theorem State.assoc_complete {c : Cmd} (h : mfind s.boot.assocs n = some a) (hc : a.running = some c) (st : Status) :
    mfind (s.complete (4096 + n) st).boot.assocs n = some { a with running := none, keptReply := some (st, c.hdr.opcode) } := by
  have hcmd : s.cmdAt (4096 + n) = some c := by simp [State.cmdAt, h, hc]
  have hstep : mfind (if c.started then s else s.noteStep (4096 + n) c).boot.assocs n = some a := by
    split <;> exact h
  unfold State.complete
  rw [hcmd]
  dsimp only
  rw [if_neg (by omega), Nat.add_sub_cancel_left]
  exact State.assoc_modAssoc (s := State.emit _ _) hstep _

/-- R859: whatever the check of its header says, the record is the newest that the association has run. -/
theorem State.assoc_checkHead {c : Cmd} (h : mfind s.boot.assocs n = some a) (hc : a.running = some c) :
    ∃ a', mfind (s.checkHead (4096 + n) c).boot.assocs n = some a' ∧ a'.lastRecord = a.lastRecord ∧ a'.waitingRecs = a.waitingRecs := by
  have hdenied (st : Status) : mfind (s.countKeyDenied c st).boot.assocs n = some a := by
    unfold State.countKeyDenied; split <;> exact h
  unfold State.checkHead
  split
  · exact ⟨a, h, rfl, rfl⟩
  · split
    · exact ⟨_, State.assoc_complete (hdenied _) hc _, rfl, rfl⟩
    · exact ⟨a, h, rfl, rfl⟩

theorem State.checkHead_cases (s : State) (r : Nat) (c : Cmd) :
    ((s.fenced c = true ∨ s.outOfTurn r c = true) → s.checkHead r c = s) ∧
      (s.fenced c = false → s.outOfTurn r c = false → (headCheck s c = none → s.checkHead r c = s) ∧
        ∀ st, headCheck s c = some st → s.checkHead r c = s.rejectHead r c st) := by
  refine ⟨fun h => if_pos (Bool.or_eq_true _ _ ▸ h), fun hf ht => ⟨fun hc => ?_, fun st hc => ?_⟩⟩
  all_goals simp [State.checkHead, hf, ht, hc]

/-- R643, R858: a record whose length is not that of its header and data has a bad byte at 0x0C or before. -/
theorem recordCmd_badLength (r : Bytes) (fn nt order : Nat) (h : r.length ≠ 32 + leAt r 0x0C 4 ∨ 16384 < r.length) :
    ∃ off, (recordCmd r fn nt order).hdr.rsvAt = some off ∧ off ≤ 12 := by
  have hfills : (decide (r.length ≤ 16384) && r.length == 32 + leAt r 0x0C 4) = false := by
    rw [Bool.and_eq_false_iff, decide_eq_false_iff_not, beq_eq_false_iff_ne]
    omega
  have hmem : ∀ l : List Nat, ∃ off, (l ++ [0x0C]).min? = some off ∧ off ≤ 12 := by
    intro l
    have hne : l ++ [0x0C] ≠ [] := by simp
    refine ⟨_, List.min?_eq_some_min hne, List.min_le_of_mem (by simp)⟩
  simp only [recordCmd, readHeader, hfills, Bool.false_eq_true, if_false]
  exact hmem _

end

/-! ### The bridge and neighbour discovery (R854, R855) -/

section
variable {s : State} {port : Nat} {f msg : Bytes}

theorem exec_bridgeFrame (hup : s.mgmtUp = true) (hfree : s.hallFree = true) :
    Gives (.bridgeFrame port f) s (if f.take 6 = s.portMac 0 ∨ f.take 6 = s.portMac 1 ∨ isRelay f then s
      else (s.emit (.mgmtFrame (1 - port) f)).bump Ctr.hallFramesBridged) := by
  refine congrArg Host.Outcome.next ((State.whenFree_of_free hfree _).trans ?_)
  rw [hup]
  rfl

theorem exec_neighbourDiscovery_solicited {g : Bytes} (hup : s.mgmtUp = true) (hfree : s.hallFree = true) (hmsg : icmpOf f = some msg)
    (htype : beAt msg 0 1 = 135) (hg : s.advertise port f msg = some g) : Gives (.neighbourDiscovery port f) s (s.emit (.mgmtFrame port g)) := by
  refine congrArg Host.Outcome.next ((State.whenFree_of_free hfree _).trans ?_)
  simp [hup, hmsg, htype, hg]

theorem exec_neighbourDiscovery_echo (hup : s.mgmtUp = true) (hfree : s.hallFree = true) (hmsg : icmpOf f = some msg)
    (htype : beAt msg 0 1 = 128) (hcode : beAt msg 1 1 = 0) (hdst : slice f 38 16 = s.linkLocal) :
    Gives (.neighbourDiscovery port f) s ((s.emit (.mgmtFrame port
      (s.icmpFrame port (slice f 6 6) (slice f 22 16) (1 + Config.freeNat s.free % 255) 129 (msg.drop 4)))).nextFree) := by
  refine congrArg Host.Outcome.next ((State.whenFree_of_free hfree _).trans ?_)
  simp [hup, hmsg, htype, hcode, hdst]

theorem exec_neighbourDiscovery_other (hup : s.mgmtUp = true) (hfree : s.hallFree = true) (hmsg : icmpOf f = some msg)
    (hecho : beAt msg 0 1 ≠ 128) (hsolicit : beAt msg 0 1 ≠ 135) : Gives (.neighbourDiscovery port f) s s := by
  refine congrArg Host.Outcome.next ((State.whenFree_of_free hfree _).trans ?_)
  simp [hup, hmsg, hecho, hsolicit]

end

/-- R858, R859: the next record of an association that runs none and holds none, and what the check of its header makes of it. -/
theorem record_starts {s : State} {n : Nat} {a : Assoc} {b : Bytes} (h : mfind s.boot.assocs n = some a) (hup : s.mgmtUp = true)
    (hfree : s.hallFree = true) (hnew : b ≠ a.lastTaken) (hrun : a.running = none) (hwait : a.waitingRecs = []) :
    Gives (.commandRecord n (some b)) s
      ((s.recordHeld n { a with lastNt := s.nt } b).checkHead (4096 + n) (recordCmd b (9 + n) s.nt s.host.orderCtr)) := by
  refine (exec_commandRecord hup hfree h).trans (congrArg Host.Outcome.next ?_)
  dsimp only
  rw [State.takeRecord_eq h, if_neg hnew.symm]
  refine Eq.trans (if_pos (by rw [hrun, hwait]; rfl)) ((State.startRecord_eq (s.assoc_recordSeen n a) b).trans ?_)
  rw [State.recordHeld_recordSeen]
  rfl

/-- Settles O57: each clause by what its instruction makes of the association, the frame or the message. -/
theorem managementNetwork : Obligations.ManagementNetwork := by
  refine ⟨?handshake, ?idle, ?record, ?waiting, ?bridge, ?neighbour⟩
  case handshake =>
    intro s anchor serial hup hfree
    have hexec := exec_dtlsHandshake (anchor := anchor) (serial := serial) hup hfree
    refine ⟨?_, fun ha => ⟨?_, fun hd => ?_⟩⟩
    · rintro a rfl ha
      rw [State.assocSlot_operator ha] at hexec
      refine ⟨fun hfull => ?_, fun n hn hnone hlower => ?_⟩
      · rwa [State.freeAssoc_none hfull] at hexec
      · rwa [State.freeAssoc_some hn hnone hlower] at hexec
    · rintro d rfl hd hnone
      rwa [State.assocSlot_relay ha hd hnone] at hexec
    · rwa [State.assocSlot_stranger ha hd] at hexec
  case idle =>
    intro s n a h hfree hasc
    have hexec := exec_associationIdle hfree h
    refine ⟨fun hearly => ?_, fun hlate => ?_⟩
    · rwa [if_pos hearly] at hexec
    · rw [if_neg (Nat.not_lt.2 hlate)] at hexec
      exact ⟨_, hexec, mfind_mdel_same hasc n, fun k hk => mfind_mdel_other _ hk⟩
  case record =>
    intro s n a b h hup hfree
    have hexec := exec_commandRecord (rec := some b) hup hfree h
    dsimp only at hexec
    rw [State.takeRecord_eq h] at hexec
    refine ⟨fun st op hb hwait hkept => ?_, fun hnew hbusy hroom => ?_, fun hnew hfull => ?_, fun hnew hrun hwait => ?_⟩
    · have hlast : a.lastTaken = b := by rw [Assoc.lastTaken, hwait, hb]; rfl
      rw [if_pos hlast, State.repeatReply, hwait, hkept] at hexec
      exact ⟨_, hexec, rfl, _, s.assoc_recordSeen n a, rfl⟩
    · have hidle : (a.running.isNone && a.waitingRecs.isEmpty) = false := by
        rw [Bool.and_eq_false_iff, ← Bool.not_eq_true, ← Bool.not_eq_true, Option.isNone_iff_eq_none, List.isEmpty_iff]
        exact hbusy
      rw [if_neg hnew.symm, hidle, if_neg Bool.false_ne_true, if_pos hroom] at hexec
      exact ⟨_, _, hexec, State.assoc_modAssoc (s.assoc_recordSeen n a) _, rfl, rfl⟩
    · have hidle : (a.running.isNone && a.waitingRecs.isEmpty) = false := by
        rw [Bool.and_eq_false_iff, ← Bool.not_eq_true, ← Bool.not_eq_true, Option.isNone_iff_eq_none, List.isEmpty_iff]
        exact .inr (List.ne_nil_of_length_pos (by omega))
      rw [if_neg hnew.symm, hidle, if_neg Bool.false_ne_true, if_neg (Nat.not_lt.2 hfull)] at hexec
      exact ⟨_, _, hexec, s.assoc_recordSeen n a, rfl, State.ctr_bump ..⟩
    · obtain ⟨a', ha', hrec, -⟩ := State.assoc_checkHead (c := recordCmd b (9 + n) s.nt s.host.orderCtr)
        (s := s.recordHeld n { a with lastNt := s.nt } b) (mfind_mput_same ..) rfl
      refine ⟨_, a', record_starts h hup hfree hnew hrun hwait, ha', hrec, ?_⟩
      intro c u
      refine ⟨rfl, rfl, rfl, rfl, fun i hi => ?_, recordCmd_badLength b _ _ _, State.checkHead_cases u _ c⟩
      have hsize : ((opInfo c.hdr.opcode).map (·.size)).getD 0 = i.size := by
        rw [show c.hdr.opcode = leAt b 0 2 from rfl, hi]; rfl
      exact ⟨congrArg (fun k => some (slice b 32 k)) hsize, congrArg (fun k => b.drop (32 + k)) hsize⟩
  case waiting =>
    intro s n a r rest h hup hfree hwait
    have hexec := exec_commandRecord (rec := none) hup hfree h
    rw [hwait] at hexec
    refine ⟨fun hrun => ?_, fun hrun => ?_⟩
    · exact hexec.trans (congrArg Host.Outcome.next (if_pos (Option.isSome_iff_ne_none.2 hrun)))
    · have hmod := State.assoc_modAssoc h (fun a => { a with waitingRecs := rest })
      have hstart := State.startRecord_eq hmod r
      obtain ⟨a', ha', hrec, hrest⟩ := State.assoc_checkHead
        (c := recordCmd r (9 + n) (s.modAssoc n (fun a => { a with waitingRecs := rest })).nt
          (s.modAssoc n (fun a => { a with waitingRecs := rest })).host.orderCtr)
        (s := (s.modAssoc n (fun a => { a with waitingRecs := rest })).recordHeld n { a with waitingRecs := rest } r) (mfind_mput_same ..) rfl
      refine ⟨_, a', hexec.trans (congrArg Host.Outcome.next ((if_neg (by simp [hrun])).trans hstart)), ha', hrest, hrec⟩
  case bridge =>
    intro s port f hup hfree
    have hexec := exec_bridgeFrame (port := port) (f := f) hup hfree
    refine ⟨fun hown => ?_, fun h0 h1 hrelay => ?_⟩
    · rwa [if_pos hown] at hexec
    · rw [if_neg (by simp [h0, h1, hrelay])] at hexec
      exact ⟨_, hexec, rfl, State.ctr_bump .., rfl⟩
  case neighbour =>
    intro s port f msg hup hfree hmsg
    refine ⟨fun htype hcode hdst => ?_, fun g htype hg => exec_neighbourDiscovery_solicited hup hfree hmsg htype hg,
      exec_neighbourDiscovery_other hup hfree hmsg⟩
    exact ⟨_, 1 + Config.freeNat s.free % 255, exec_neighbourDiscovery_echo hup hfree hmsg htype hcode hdst, by omega,
      by have := Nat.mod_lt (Config.freeNat s.free) (y := 255) (by decide); omega, rfl⟩

end Sys2Proof.Machine
end

section
/-!
Proofs for gate lists and samples (chapter 15, R581 to R584): the takeover instant, the commands and the step of a gate list, and the samples
of the queues.
-/
open Sys2Proof Sys2Proof.Machine Sys2Proof.Claims

namespace Sys2Proof.Machine

/-! ### What the start of an occurrence leaves of the counters -/

theorem State.ctr_setQueue (s : State) (b : Nat) (q : List Occ) (id : Nat) : (s.setQueue b q).ctr id = s.ctr id := rfl

/-- R545: the start of an occurrence counts nothing but late ones and trace records. -/
theorem State.ctr_startOcc_other (s : State) (b : Nat) (o : Occ) {g i k : Nat} (hk : k < 4096) (hhall : k ≠ 31) (hwing : k ≠ 8)
    (h108 : k ≠ 108) (h162 : k ≠ 162) (h222 : k ≠ 222) : (s.startOcc b o).ctr (Ctr.ident g i k) = s.ctr (Ctr.ident g i k) := by
  have hlate : Ctr.ident g i k ≠ blkCtr b Ctr.hallEventsLate Ctr.wingEventsLate := by
    unfold blkCtr
    split
    · exact Ctr.ident_ne_of_low hk (by decide) hwing
    · exact Ctr.ident_ne_of_low hk (by decide) hhall
  unfold State.startOcc
  dsimp only
  split
  · rw [State.ctr_trace_other _ _ (Ctr.ident_ne_bufCtr_of_index g i hk h108 h162 h222 _), State.ctr_bump_other _ hlate, State.ctr_setQueue]
  · rfl

/-! ### Gate lists (R581, R582) -/

/-- R581: the fewest cycles that bring the base to 10 ms after the arrival. -/
theorem takeover_spec (nt base cycle : Nat) :
    (nt + 160000000 ≤ base → takeover nt base cycle = base) ∧
      (base < nt + 160000000 → 0 < cycle → nt + 160000000 ≤ takeover nt base cycle ∧ takeover nt base cycle < nt + 160000000 + cycle ∧
        base ≤ takeover nt base cycle ∧ (takeover nt base cycle - base) % cycle = 0) := by
  refine ⟨fun h => if_pos (.inl h), fun h hcycle => ?_⟩
  have hnot : ¬(nt + 10 * ms ≤ base ∨ cycle = 0) := not_or.2 ⟨Nat.not_le.2 h, Nat.ne_of_gt hcycle⟩
  have heq : takeover nt base cycle = base + (nt + 160000000 - base + cycle - 1) / cycle * cycle := if_neg hnot
  have hdiv := Nat.div_add_mod (nt + 160000000 - base + cycle - 1) cycle
  have hmod := Nat.mod_lt (nt + 160000000 - base + cycle - 1) hcycle
  rw [Nat.mul_comm] at hdiv
  rw [heq]
  refine ⟨by omega, by omega, by omega, ?_⟩
  rw [Nat.add_sub_cancel_left]
  exact Nat.mul_mod_left ..

section
variable {s : State} {c : CmdIn} {port base : Nat} {es : List (Nat × Nat)} {cmd : Cmd}

/-- R582: the state once GATE_LIST_SET has left list `g` pending. -/
def State.gatesPending (s : State) (port : Nat) (g : GateList) : State :=
  (s.setXport port { s.xport port with pending := some g }).enqueue blkExport
    { instant := g.base, kind := evGateList, key := port, periodic := false }

@[simp] theorem State.xport_setXport (s : State) (n : Nat) (x : ExpPort) : (s.setXport n x).xport n = x := mget_mput_same ..

@[simp] theorem State.xq_setXq (s : State) (q : Nat) (x : ExpQueue) : (s.setXq q x).xq q = x := mget_mput_same ..

theorem State.xport_of_exp {s t : State} (h : t.exp = s.exp) (n : Nat) : t.xport n = s.xport n := by rw [State.xport, h]; rfl

theorem State.xport_gatesPending (s : State) (port : Nat) (g : GateList) :
    (s.gatesPending port g).xport port = { s.xport port with pending := some g } :=
  (State.xport_of_exp (State.enqueue_exp ..) port).trans (State.xport_setXport ..)

theorem State.queueOf_gatesPending (s : State) (port : Nat) (g : GateList) (h : s.queueFull blkExport = false) :
    ((s.gatesPending port g).queueOf blkExport).Perm
      ({ instant := g.base, kind := 1, key := port, periodic := false } :: s.queueOf blkExport) := by
  have hroom : (s.queueOf blkExport).length < 1024 := by
    simpa [State.queueFull] using h
  have hqueue := State.queueOf_enqueue_of_room (s := s.setXport port { s.xport port with pending := some g }) (b := blkExport) hroom
    { instant := g.base, kind := evGateList, key := port, periodic := false }
  rw [State.gatesPending, hqueue]
  exact insertOcc_perm ..

theorem State.arrival_of_cmd (h : s.cmdAt c.ring = some cmd) : s.arrival c.ring = cmd.fetchNt := by rw [State.arrival, h]; rfl

theorem gateListSet_inRange (hport : port < s.lanesN) (hlen : es.length ≤ 256) (hes : ∀ e ∈ es, 1024 ≤ e.2)
    (hcycle : ({ base := base, entries := es } : GateList).cycle ≤ 16000000000) :
    ∀ b ∈ [(!decide (port < s.lanesN), 0), (!decide (es.length ≤ 256), 2),
      (es.any (fun e => decide (e.2 < 1024)) || decide (16000000000 < ({ base := base, entries := es } : GateList).cycle), 0x10)], b.1 = false := by
  have hany : es.any (fun e => decide (e.2 < 1024)) = false := List.any_eq_false.2 fun e he => by simpa using hes e he
  simp [hport, hlen, hany, hcycle]

/-- R581, R582: what GATE_LIST_SET answers for a list that Table 15-6 admits. -/
theorem gateListSet_body {g : GateList} {t : Nat} (hinline : 9 ≤ cmd.fn → cmd.inline.length = 8 * es.length ∧ gateRest cmd.inline = none)
    (hinstant : s.instantFault = none) (hlead : leadOk (s.arrival c.ring) t = true) :
    (if 9 ≤ cmd.fn ∧ cmd.inline.length ≠ 8 * es.length then (badParam 12, s)
      else if 9 ≤ cmd.fn ∧ (gateRest cmd.inline).isSome then (badParam (56 + (gateRest cmd.inline).getD 0), s)
      else match s.instantFault with
        | some st => (fail st, s)
        | none =>
          if !leadOk (s.arrival c.ring) t then (badParam 40, s)
          else if (s.xport port).pending.isSome || s.queueFull blkExport then (fail stBusy, s)
          else (okStatus, s.gatesPending port g)) =
      if (s.xport port).pending.isSome || s.queueFull blkExport then (fail stBusy, s) else (okStatus, s.gatesPending port g) := by
  rw [if_neg (fun h => h.2 (hinline h.1).1), if_neg (fun h => by simp [(hinline h.1).2] at h), hinstant, hlead]
  rfl

theorem exec_gateListSet {r : Status × State} (h : Ready 0x0504 (.gateListSet c port es base) c s cmd)
    (hdata : DataHere c s cmd 0 (fun d => d.length != 8 * es.length || gateEntries d == es))
    (hinline : 9 ≤ cmd.fn → cmd.inline.length = 8 * es.length ∧ gateRest cmd.inline = none) (hport : port < s.lanesN)
    (hlen : es.length ≤ 256) (hes : ∀ e ∈ es, 1024 ≤ e.2) (hcycle : ({ base := base, entries := es } : GateList).cycle ≤ 16000000000)
    (hinstant : s.instantFault = none) {t : Nat} (ht : takeover cmd.fetchNt base ({ base := base, entries := es } : GateList).cycle = t)
    (hhi : t ≤ cmd.fetchNt + 1382400000000000) (hlo : cmd.fetchNt + 160000000 ≤ t)
    (hr : (if (s.xport port).pending.isSome || s.queueFull blkExport then (fail stBusy, s)
      else (okStatus, s.gatesPending port { base := t, entries := es })) = r) :
    Gives (.gateListSet c port es base) s ((if r.1.status = stOk then r.2 else s).complete c.ring r.1) := by
  have harrival := State.arrival_of_cmd (c := c) h.1
  have hlead : leadOk (s.arrival c.ring) t = true := (leadOk_iff _ _).2 ⟨harrival ▸ hlo, by omega⟩
  have hbody := (gateListSet_body (port := port) (g := { base := t, entries := es }) hinline hinstant hlead).trans hr
  have hreply : r.1.reply = [] := by
    rw [← hr]; split <;> rfl
  refine congrArg Host.Outcome.next (runNow_completes h (gateListSet_inRange hport hlen hes hcycle) hdata ?_ (.inl hreply) rfl)
  dsimp only
  rw [harrival, ht]
  rw [harrival] at hbody
  exact hbody

/-! ### GATE_LIST_CANCEL and GATE_LIST (R582) -/

/-- R582: the state once a pending list has been withdrawn. -/
def State.gatesWithdrawn (s : State) (port : Nat) : State :=
  let t := s.setXport port { s.xport port with pending := none }
  t.setQueue blkExport ((t.queueOf blkExport).filter (fun o => !(o.kind == evGateList && o.key == port)))

theorem exec_gateListCancel_refused (h : Ready 0x0505 (.gateListCancel c port) c s cmd) (hport : port < s.lanesN)
    (hnone : (s.xport port).pending = none) : Fails (.gateListCancel c port) c s stNotFound :=
  ⟨0, congrArg Host.Outcome.next (runNow_refuses h (by simp [hport]) (if_pos (by rw [hnone]; rfl)))⟩

theorem exec_gateListCancel (h : Ready 0x0505 (.gateListCancel c port) c s cmd) (hport : port < s.lanesN)
    (hpending : (s.xport port).pending ≠ none) : Succeeds (.gateListCancel c port) c s (s.gatesWithdrawn port) :=
  congrArg Host.Outcome.next (runNow_completes h (by simp [hport]) (dataHere_of_ready h)
    (if_neg (by simpa [Option.isNone_iff_eq_none] using hpending)) (.inl rfl) (if_pos rfl))

/-- R572, R582: waking its queues and classes changes neither the gate list of a port nor the pending one. -/
theorem State.gates_refreshPort (s : State) (port n : Nat) :
    (((s.refreshPort port).xport n).gates, ((s.refreshPort port).xport n).pending) = ((s.xport n).gates, (s.xport n).pending) := by
  have hset (t : State) (x : ExpPort) (hx : x.gates = (t.xport port).gates ∧ x.pending = (t.xport port).pending) :
      (((t.setXport port x).xport n).gates, ((t.setXport port x).xport n).pending) = ((t.xport n).gates, (t.xport n).pending) := by
    by_cases hn : n = port
    · rw [hn, State.xport_setXport, hx.1, hx.2]
    · rw [show (t.setXport port x).xport n = t.xport n from mget_mput_other _ _ _ hn]
  refine foldl_keeps (fun t => ((t.xport n).gates, (t.xport n).pending)) _ (fun t c => ?_) _ s
  have hports : ((t.classQueues port c).foldl (fun s q => s.refreshQueue ((s.xport port).startVc s.nt c) q) t).exp.ports = t.exp.ports :=
    foldl_keeps (fun t => t.exp.ports) _ (fun _ _ => State.refreshQueue_keeps (fun t => t.exp.ports) (fun _ _ _ => rfl) ..) _ t
  unfold State.refreshClass
  dsimp only
  generalize (t.classQueues port c).foldl _ t = u at hports ⊢
  have hgates : ((u.xport n).gates, (u.xport n).pending) = ((t.xport n).gates, (t.xport n).pending) := by
    rw [State.xport, hports]; rfl
  rw [← hgates]
  (repeat' split)
  · rfl
  all_goals exact hset _ _ (by exact ⟨rfl, rfl⟩)

/-- R582: the state once the pending list of a port has taken over. -/
def State.gatesTaken (s : State) (port : Nat) (o : Occ) : State :=
  let t := s.startOcc blkExport o
  ((t.setXport port { t.xport port with gates := (t.xport port).pending, pending := none }).bump (Ctr.portGateTakeover port)).refreshPort port

theorem exec_gateList {o : Occ} (h : s.dueIs blkExport evGateList port = some o) : Gives (.gateList port) s (s.gatesTaken port o) := by
  change execGateList port s = _
  simp only [execGateList, h]
  rfl

theorem State.gates_gatesTaken (s : State) (port : Nat) (o : Occ) :
    ((s.gatesTaken port o).xport port).gates = (s.xport port).pending ∧ ((s.gatesTaken port o).xport port).pending = none := by
  have hgates := State.gates_refreshPort
    (((s.startOcc blkExport o).setXport port { (s.startOcc blkExport o).xport port with
      gates := ((s.startOcc blkExport o).xport port).pending, pending := none }).bump (Ctr.portGateTakeover port)) port port
  obtain ⟨hg, hp⟩ := Prod.mk.inj hgates
  refine ⟨hg.trans ?_, hp.trans ?_⟩
  · change ((State.setXport _ port _).xport port).gates = _
    rw [State.xport_setXport, State.xport_of_exp (State.startOcc_exp ..)]
  · change ((State.setXport _ port _).xport port).pending = _
    rw [State.xport_setXport]

theorem State.ctr_gatesTaken (s : State) (port : Nat) (o : Occ) :
    (s.gatesTaken port o).ctr (Ctr.portGateTakeover port) = rose (s.ctr (Ctr.portGateTakeover port)) 1 := by
  have hrefresh := State.refreshPort_keeps (fun t => t.ctr (Ctr.portGateTakeover port)) (fun _ _ _ => rfl) (fun _ _ _ => rfl)
  refine (hrefresh _ port).trans ((State.ctr_bump ..).trans (congrArg (rose · 1) ?_))
  exact State.ctr_startOcc_other s blkExport o (by decide) (by decide) (by decide) (by decide) (by decide) (by decide)

end

/-! ### Samples of the queues (R583, R584) -/

theorem Sampled.take_spec (x : Sampled) (v : Nat) (fresh : Bool) :
    (x.take fresh v).last = v ∧ (fresh = true → (x.take fresh v).min = v ∧ (x.take fresh v).max = v) ∧
      (fresh = false → (x.take fresh v).min = Nat.min x.min v ∧ (x.take fresh v).max = Nat.max x.max v) := by
  cases fresh
  · exact ⟨rfl, Bool.noConfusion, fun _ => ⟨rfl, rfl⟩⟩
  · exact ⟨rfl, fun _ => ⟨rfl, rfl⟩, Bool.noConfusion⟩

section
variable {s : State}

/-- R583: the state once every queue has been sampled. -/
def State.sampled (s : State) (o : Occ) : State :=
  let t := s.startOcc blkExport o
  let t := { t with exp := { t.exp with
    queues := t.exp.queues.map (fun (e : Nat × ExpQueue) => (e.1, e.2.sample t.nt t.exp.samples))
    samples := t.exp.samples + 1 } }
  let t := if lateAt s.nt o.instant then t.bump Ctr.hallSamplesLate else t
  t.enqueue blkExport { instant := nextGrid o.instant (t.setting 0x0005 0 0 * us), kind := evShaperSample, key := 0, periodic := true }

theorem exec_shaperSample {o : Occ} (h : s.dueIs blkExport evShaperSample 0 = some o) : Gives .shaperSample s (s.sampled o) := by
  change execShaperSample s = _
  simp only [execShaperSample, h]
  rfl

theorem State.exp_sampled (s : State) (o : Occ) :
    (s.sampled o).exp = { s.exp with
      queues := s.exp.queues.map (fun (e : Nat × ExpQueue) => (e.1, e.2.sample s.nt s.exp.samples))
      samples := s.exp.samples + 1 } := by
  have hnt : (s.startOcc blkExport o).nt = s.nt := by rw [State.nt, State.startOcc_time]; rfl
  unfold State.sampled
  dsimp only
  rw [State.enqueue_exp]
  split <;> simp [hnt]

theorem ExpQueue.sample_spec (x : ExpQueue) (nt total : Nat) :
    (x.sample nt total).frames = x.frames ∧ (x.sample nt total).depth.last = x.bytes ∧
      (x.sample nt total).delay.last = ((x.frames.head?).map (fun f => nt - f.nt)).getD 0 ∧
      (x.sampleBase = total → (x.sample nt total).depth.min = x.bytes ∧ (x.sample nt total).depth.max = x.bytes) ∧
      (x.sampleBase ≠ total → (x.sample nt total).depth.min = min x.depth.min x.bytes ∧ (x.sample nt total).depth.max = max x.depth.max x.bytes) := by
  obtain ⟨hlast, hfresh, hmore⟩ := x.depth.take_spec x.bytes (total == x.sampleBase)
  refine ⟨rfl, hlast, (Sampled.take_spec ..).1.trans ?_, fun h => hfresh (beq_iff_eq.2 h.symm), fun h => hmore (beq_false_of_ne h.symm)⟩
  cases x.frames <;> rfl

end

/-! ### EXPORT_QUEUE_STATS (R584) -/

section
variable {op : Nat} {i : Instr} {c : CmdIn} {s : State} {cmd : Cmd}

/-- A ready command with a further check of its own, which it passes, completes with what its body answers. -/
theorem runNow_completes_pre (h : Ready op i c s cmd) {body : Cmd → State → Status × State} {pre : Cmd → State → Option Status}
    {st : Status} {t u : State} (hpre : pre cmd s = none) (hbody : body cmd s = (st, t)) (hreply : st.reply = [] ∨ Room c st.reply.length)
    (hresult : (if st.status = stOk then t else s) = u) : runNow op i c [] s body pre = u.complete c.ring st := by
  obtain ⟨hcmd, hop, hstart, hfence, hfree, hturn, hhead, hcome, hspell, hread, hrsv, hrest⟩ := h
  have hfault : paramFault c.rsvAt (s.paramRest i c.ring cmd) [] = none := by
    rw [hrsv, hrest]; exact (paramFault_none []).2 (List.forall_mem_nil _)
  unfold runNow
  rw [runCmd_start op i c [] s _ _ _ _ _ hcmd hop hstart hfence hfree hturn hhead hread rfl hpre hspell hfault hcome hcome (by simp)]
  simp only [hbody, hresult, replied_of_room hreply]

/-- Table 17-19: the reply of EXPORT_QUEUE_STATS. -/
def State.statsReply (s : State) (x : ExpQueue) : Bytes :=
  leBytes 4 x.depth.min ++ leBytes 4 x.depth.max ++ leBytes 4 x.depth.last ++ leBytes 4 (s.exp.samples - x.sampleBase) ++
    leBytes 8 x.delay.min ++ leBytes 8 x.delay.max ++ leBytes 8 x.delay.last

theorem State.length_statsReply (s : State) (x : ExpQueue) : (s.statsReply x).length = 40 := by
  simp [State.statsReply, length_leBytes]

theorem State.leAt_statsReply (s : State) (x : ExpQueue) :
    leAt (s.statsReply x) 0 4 = x.depth.min % 4294967296 ∧ leAt (s.statsReply x) 4 4 = x.depth.max % 4294967296 ∧
      leAt (s.statsReply x) 8 4 = x.depth.last % 4294967296 := by
  simp only [State.statsReply, List.append_assoc]
  refine ⟨leAt_leBytes_append_mod .., ?_, ?_⟩
  · rw [leAt_leBytes_append_of_le (by decide)]
    exact leAt_leBytes_append_mod ..
  · rw [leAt_leBytes_append_of_le (by decide), leAt_leBytes_append_of_le (by decide)]
    exact leAt_leBytes_append_mod ..

theorem exec_exportQueueStats {queue : Nat} {reset : Bool} (h : Ready 0x0503 (.exportQueueStats c queue reset) c s cmd) (hroom : Room c 40)
    (hmay : cmd.fn = 0 ∨ 9 ≤ cmd.fn ∨ (s.partsOf cmd.fn).contains (s.setting 0x4001 queue 0) = true) :
    Replies (.exportQueueStats c queue reset) c s
      (if reset then s.setXq queue { s.xq queue with sampleBase := s.exp.samples } else s) (s.statsReply (s.xq queue)) := by
  refine congrArg Host.Outcome.next (runNow_completes_pre h ?_ rfl (.inr ?_) (if_pos rfl))
  · refine if_neg fun hvf => ?_
    obtain ⟨hlo, hhi, hown⟩ := hvf
    rcases hmay with hpf | hnet | hin
    · omega
    · omega
    · exact hown hin
  · have hlen := s.length_statsReply (s.xq queue)
    exact hlen.symm ▸ hroom

end

/-- Settles O33: the commands, the takeover and the samples, each by the state that it leaves. -/
theorem gateListsAndSamples : Obligations.GateListsAndSamples := by
  refine ⟨takeover_spec, ?set, ?cancel, ?takes, ?sample, ?stats⟩
  case set =>
    intro c port base es s cmd h hdata hinline hport hlen hes g t hcycle hinstant hhi hlo
    refine ⟨fun hpending => ⟨0, ?_⟩, fun hnone hroom => ⟨s.gatesPending port { base := t, entries := es }, ?_, ?_, ?_, ?_⟩⟩
    · have hbusy := exec_gateListSet h hdata hinline hport hlen hes hcycle hinstant rfl hhi hlo
        (if_pos (by rw [Option.isSome_iff_ne_none.2 hpending, Bool.true_or]))
      dsimp only at hbusy
      rwa [if_neg (show (fail stBusy).status ≠ stOk by decide)] at hbusy
    · have hset := exec_gateListSet h hdata hinline hport hlen hes hcycle hinstant rfl hhi hlo
        (if_neg (by rw [hnone, hroom]; decide))
      dsimp only at hset
      rwa [if_pos (show okStatus.status = stOk from rfl)] at hset
    · rw [State.xport_gatesPending]
    · rw [State.xport_gatesPending]
    · exact State.queueOf_gatesPending s port _ hroom
  case cancel =>
    intro c port s cmd h hport
    refine ⟨exec_gateListCancel_refused h hport, fun hpending => ⟨_, exec_gateListCancel h hport hpending, ?_, ?_, fun o ho => ?_⟩⟩
    · change ((State.setXport s port _).xport port).pending = none
      rw [State.xport_setXport]
    · change ((State.setXport s port _).xport port).gates = _
      rw [State.xport_setXport]
    · rw [State.gatesWithdrawn, State.queueOf_setQueue] at ho
      have hkept := (List.mem_filter.1 ho).2
      rintro ⟨hkind, hkey⟩
      simp [hkind, hkey, evGateList] at hkept
  case takes =>
    intro port o s _ h
    obtain ⟨hgates, hpending⟩ := s.gates_gatesTaken port o
    exact ⟨_, exec_gateList h, hgates, hpending, s.ctr_gatesTaken port o⟩
  case sample =>
    intro o s h
    refine ⟨_, exec_shaperSample h, by rw [State.exp_sampled], by rw [State.exp_sampled], fun q x hx => ⟨x.sample s.nt s.exp.samples, ?_, ?_⟩⟩
    · rw [State.exp_sampled]
      exact (mfind_mapValues (fun y => y.sample s.nt s.exp.samples) s.exp.queues q).trans (congrArg (Option.map _) hx)
    · exact x.sample_spec s.nt s.exp.samples
  case stats =>
    intro c queue reset s cmd h hroom hmay x
    obtain ⟨hmin, hmax, hlast⟩ := s.leAt_statsReply x
    refine ⟨_, _, exec_exportQueueStats h hroom hmay, s.length_statsReply x, hmin, hmax, hlast, fun hr => if_neg (by simp [hr]), fun hr => ?_⟩
    rw [if_pos hr, State.xq_setXq]
    exact ⟨rfl, rfl⟩

end Sys2Proof.Machine
end

section
/-!
Proofs for the Mantel and the two status replies (chapters 17 and 22): fields of a reply by their place in its table, what a write of a section
leaves, and the commands that read the Mantel, the device's health and its identity.
-/
open Sys2Proof Sys2Proof.Machine Sys2Proof.Claims

namespace Sys2Proof.Machine

/-! ### Replies as tables of fields -/

/-- Little-endian fields in a row, each with its width in bytes and its value. -/
def packed (fs : List (Nat × Nat)) : Bytes := fs.flatMap (fun f => leBytes f.1 f.2)

/-- The bytes that fields take. -/
def widthOf (fs : List (Nat × Nat)) : Nat := (fs.map (·.1)).sum

theorem length_packed (fs : List (Nat × Nat)) : (packed fs).length = widthOf fs := by
  induction fs with
  | nil => rfl
  | cons f fs ih =>
    rw [packed, List.flatMap_cons, List.length_append, length_leBytes]
    exact congrArg (f.1 + ·) ih

/-- A field of a table reads as its value in its width. -/
theorem leAt_packed {fs : List (Nat × Nat)} {k w v : Nat} (h : fs[k]? = some (w, v)) :
    leAt (packed fs) (widthOf (fs.take k)) w = v % 256 ^ w := by
  induction fs generalizing k with
  | nil => exact absurd h (by simp)
  | cons f fs ih =>
    cases k with
    | zero =>
      obtain rfl : f = (w, v) := by simpa using h
      exact leAt_leBytes_append_mod w v (packed fs)
    | succ k =>
      refine Eq.trans ?_ (ih (by simpa using h))
      change leAt (leBytes f.1 f.2 ++ packed fs) (f.1 + widthOf (fs.take k)) w = _
      rw [leAt_leBytes_append_of_le (Nat.le_add_right ..), Nat.add_sub_cancel_left]

/-- The word with one bit for each number of a list without repeats. -/
theorem testBit_featWord_of_nodup {l : List Nat} (h : l.Nodup) (b : Nat) : (featWord l).testBit b = l.contains b := by
  have hperm := List.mergeSort_perm l (· ≤ ·)
  have hsorted : (l.mergeSort (· ≤ ·)).SortedLT :=
    ((List.sortedLE_mergeSort).sortedLT_of_nodup (hperm.nodup_iff.2 h))
  have hword : featWord l = featWord (l.mergeSort (· ≤ ·)) := by
    rw [featWord_eq_sum, featWord_eq_sum]
    exact ((hperm.map _).sum_eq).symm
  rw [hword, testBit_featWord hsorted, Bool.eq_iff_iff, List.contains_iff_mem, List.contains_iff_mem, hperm.mem_iff]

/-! ### Sections of the Mantel (R802, R803) -/

section
variable (x : MantelSec)

/-- R802, R803: a written section is what the next boot reads, under the next number, and the newer of two copies stays. -/
theorem MantelSec.written_spec :
    x.written.booted.data = x.data ∧ x.written.data = x.data ∧ newestCopy x.written = newestCopy x + 1 ∧ KeepsNewer x x.written := by
  cases ha : x.copyA with
  | none =>
    have hw : x.written = { x with copyA := some (max 0 ((x.copyB.map (·.1)).getD 0) + 1, x.data), fails := 0 } := by
      simp [MantelSec.written, ha]
    refine ⟨?_, by rw [hw], ?_, fun a b hxa => absurd hxa (by simp [ha])⟩
    · cases hb : x.copyB with
      | none => simp [hw, MantelSec.booted, hb]
      | some b =>
        have hlt : ¬b.1 + 1 < b.1 := by omega
        simp [hw, MantelSec.booted, hb]
    · simp only [newestCopy, hw, ha, Option.map_some, Option.getD_some, Option.map_none, Option.getD_none]
      omega
  | some a =>
    cases hb : x.copyB with
    | none =>
      have hw : x.written = { x with copyB := some (max a.1 0 + 1, x.data), fails := 0 } := by
        simp [MantelSec.written, ha, hb]
      refine ⟨?_, by rw [hw], ?_, fun a b _ hxb => absurd hxb (by simp [hb])⟩
      · simp [hw, MantelSec.booted, ha]
      · simp only [newestCopy, hw, ha, hb, Option.map_some, Option.getD_some, Option.map_none, Option.getD_none]
        omega
    | some b =>
      by_cases hlt : a.1 < b.1
      · have hw : x.written = { x with copyA := some (max a.1 b.1 + 1, x.data), fails := 0 } := by
          simp [MantelSec.written, ha, hb, hlt]
        refine ⟨?_, by rw [hw], ?_, fun a' b' ha' hb' => ?_⟩
        · have hnot : ¬max a.1 b.1 + 1 < b.1 := by omega
          simp [hw, MantelSec.booted, hb, hnot]
        · simp only [newestCopy, hw, ha, hb, Option.map_some, Option.getD_some]
          omega
        · obtain rfl : a = a' := by simpa [ha] using ha'
          obtain rfl : b = b' := by simpa [hb] using hb'
          exact ⟨fun _ => by rw [hw], fun hle => absurd hlt (Nat.not_lt.2 hle)⟩
      · have hw : x.written = { x with copyB := some (max a.1 b.1 + 1, x.data), fails := 0 } := by
          simp [MantelSec.written, ha, hb, hlt]
        refine ⟨?_, by rw [hw], ?_, fun a' b' ha' hb' => ?_⟩
        · have hnew : a.1 < max a.1 b.1 + 1 := by omega
          simp [hw, MantelSec.booted, ha, hnew]
        · simp only [newestCopy, hw, ha, hb, Option.map_some, Option.getD_some]
          omega
        · obtain rfl : a = a' := by simpa [ha] using ha'
          obtain rfl : b = b' := by simpa [hb] using hb'
          exact ⟨fun h => absurd h hlt, fun _ => by rw [hw]⟩

end

section
variable {s : State} {die k : Nat}

/-- R802: the section and the state that a try of a write starts from. -/
def State.sectionReady (s : State) (die k : Nat) (alarm : Bool) : State :=
  let t := if alarm && (k == secMargin || k == secAging) then s.setSticky 204 else s
  let v := t.summary die
  let t := if k = secSummary then t.setSummary die (v.1 + 1, v.2.1, v.2.2) else t
  if k = secLanes && die == 0 then t.closeMargins else t

/-- R802: the state once a section has been written. -/
def State.sectionWritten (s : State) (die k : Nat) : State := (s.setSection die k (s.section_ die k).written).bump Ctr.hallMantelWrites

/-- R802: the state once a try of a write has failed. -/
def State.sectionFailed (s : State) (die k : Nat) : State :=
  let t := s.setSection die k { s.section_ die k with fails := ((s.section_ die k).fails + 1) % 3 }
  if (s.section_ die k).fails + 1 = 3 then t.setSticky 137 else t

theorem exec_mantelWrite (hfree : s.hallFree = true) (hdie : die < 1 + s.wings) (hk : k ≤ 10) (ok alarm : Bool) :
    Gives (.mantelWrite die k ok alarm) s
      (if ok then (s.sectionReady die k alarm).sectionWritten die k else (s.sectionReady die k alarm).sectionFailed die k) := by
  have hrange : (decide (1 + s.wings ≤ die) || decide (10 < k)) = false := by simp; omega
  refine congrArg Host.Outcome.next ((State.whenFree_of_free hfree _).trans ?_)
  rw [hrange]
  rfl

theorem State.sectionReady_plain (h0 : k ≠ 0) (h9 : k ≠ 9) : s.sectionReady die k false = s := by
  simp [State.sectionReady, secSummary, secLanes, h0, h9]

theorem State.section_sectionWritten (s : State) (die k : Nat) : (s.sectionWritten die k).section_ die k = (s.section_ die k).written :=
  State.section_setSection ..

theorem State.section_sectionWritten_other (s : State) {d j : Nat} (hj : j ≤ 10) (hk : k ≤ 10) (h : d ≠ die ∨ j ≠ k) :
    (s.sectionWritten die k).section_ d j = s.section_ d j :=
  State.section_setSection_other s _ (by omega)

theorem Ctr.hallMantelWrites_ne (n : Nat) : (∀ b, Ctr.hallMantelWrites ≠ bufCtr b 1) ∧ Ctr.hallMantelWrites ≠ Ctr.funcMsixSent n :=
  ⟨Ctr.ident_ne_bufCtr_of_index 1 0 (by decide) (by decide) (by decide) (by decide),
    Ctr.ident_ne_funcMsixSent 1 0 (by decide) (by decide) n⟩

theorem State.sectionFailed_spec :
    let t := s.sectionFailed die k
    t.section_ die k = { s.section_ die k with fails := ((s.section_ die k).fails + 1) % 3 } ∧
      ((s.section_ die k).fails = 2 → t.stickyBit 137 = true) ∧ t.ctr Ctr.hallMantelWrites = s.ctr Ctr.hallMantelWrites := by
  intro t
  simp only [t, State.sectionFailed]
  split
  · refine ⟨?_, fun _ => State.stickyBit_setSticky_self _ (by decide), ?_⟩
    · rw [State.section_, State.setSticky_health]
      exact State.section_setSection ..
    · exact State.ctr_setStickyIn_other _ _ _ (Ctr.hallMantelWrites_ne 0).1 fun fn => (Ctr.hallMantelWrites_ne fn).2
  · next hless => exact ⟨State.section_setSection .., fun h => absurd (by rw [h]) hless, rfl⟩

theorem State.stickyBit_marginWritten (h : k = 4 ∨ k = 5) : ((s.sectionReady die k true).sectionWritten die k).stickyBit 204 = true := by
  change (s.sectionReady die k true).stickyBit 204 = true
  have hsticky : s.sectionReady die k true = s.setSticky 204 := by
    rcases h with rfl | rfl <;> rfl
  rw [hsticky]
  exact State.stickyBit_setSticky_self _ (by decide)

/-! ### SUMMARY and LANES (R800, log entries 142, 93) -/

theorem State.sectionReady_summary (s : State) (die : Nat) :
    s.sectionReady die 0 false = s.setSummary die ((s.summary die).1 + 1, (s.summary die).2.1, (s.summary die).2.2) := by
  simp [State.sectionReady, secSummary, secLanes]

theorem State.ledger_sectionWritten (s : State) (die k : Nat) : (s.sectionWritten die k).ledger die k = s.ledger die k := by
  rw [State.ledger, State.section_sectionWritten, (MantelSec.written_spec _).2.1]
  rfl

theorem State.ledger_setSummary (s : State) (die : Nat) (v : Nat × Nat × Nat) :
    (s.setSummary die v).ledger die 0 = [v.1, v.2.1, v.2.2] :: (s.ledger die 0).tail := by
  exact congrArg MantelSec.data (State.section_setSection ..)

theorem State.summary_written (s : State) (die : Nat) (v : Nat × Nat × Nat) : ((s.setSummary die v).sectionWritten die 0).summary die = v := by
  have hledger : ((s.setSummary die v).sectionWritten die 0).ledger die secSummary = [v.1, v.2.1, v.2.2] :: (s.ledger die 0).tail :=
    (State.ledger_sectionWritten ..).trans (State.ledger_setSummary ..)
  rw [State.summary, hledger]

/-- One lane's least margin of the day joins the records of LANES, of which the lane keeps 365. -/
def addMargin (d : List (List Nat)) (e : Nat × Nat) : List (List Nat) :=
  let mine := d.filter (fun r => r.head? == some e.1) ++ [[e.1, e.2]]
  d.filter (fun r => r.head? != some e.1) ++ mine.drop (mine.length - 365)

theorem filter_addMargin_same (d : List (List Nat)) (n m : Nat) :
    let own := d.filter (fun r => r.head? == some n) ++ [[n, m]]
    (addMargin d (n, m)).filter (fun r => r.head? == some n) = own.drop (own.length - 365) := by
  intro own
  have hown : ∀ r ∈ own.drop (own.length - 365), (r.head? == some n) = true := by
    intro r hr
    rcases List.mem_append.1 (List.mem_of_mem_drop hr) with hin | hin
    · exact (List.mem_filter.1 hin).2
    · rw [List.mem_singleton.1 hin]
      simp
  have hrest : (d.filter (fun r => r.head? != some n)).filter (fun r => r.head? == some n) = [] := by
    rw [List.filter_filter]
    exact List.filter_eq_nil_iff.2 fun r _ => by simp
  rw [addMargin, List.filter_append, hrest, List.nil_append, List.filter_eq_self.2 hown]

theorem filter_addMargin_other (d : List (List Nat)) {e : Nat × Nat} {n : Nat} (h : e.1 ≠ n) :
    (addMargin d e).filter (fun r => r.head? == some n) = d.filter (fun r => r.head? == some n) := by
  have hne (r : List Nat) (hr : (r.head? == some e.1) = true) : (r.head? == some n) = false := by
    rw [beq_iff_eq.1 hr]
    simpa using h
  have hmine : ((d.filter (fun r => r.head? == some e.1) ++ [[e.1, e.2]]).drop
      ((d.filter (fun r => r.head? == some e.1) ++ [[e.1, e.2]]).length - 365)).filter (fun r => r.head? == some n) = [] := by
    refine List.filter_eq_nil_iff.2 fun r hr => ?_
    rcases List.mem_append.1 (List.mem_of_mem_drop hr) with hin | hin
    · simp only [hne r (List.mem_filter.1 hin).2, Bool.false_eq_true, not_false_eq_true]
    · rw [List.mem_singleton.1 hin]
      simpa using h
  rw [addMargin, List.filter_append, hmine, List.append_nil, List.filter_filter]
  refine List.filter_congr fun r _ => ?_
  by_cases hn : (r.head? == some n) = true
  · have hother : (r.head? != some e.1) = true := by
      rw [beq_iff_eq.1 hn]
      simpa using h.symm
    rw [hn, hother]; rfl
  · rw [Bool.not_eq_true] at hn
    rw [hn]; rfl

theorem filter_foldl_addMargin_other {es : List (Nat × Nat)} {n : Nat} (h : ∀ e ∈ es, e.1 ≠ n) (d : List (List Nat)) :
    (es.foldl addMargin d).filter (fun r => r.head? == some n) = d.filter (fun r => r.head? == some n) :=
  List.foldlRecOn (motive := fun u => u.filter (fun r => r.head? == some n) = d.filter (fun r => r.head? == some n)) es _ rfl
    (fun u hu e he => (filter_addMargin_other u (h e he)).trans hu)

/-- The margins of several lanes leave each other alone. -/
theorem filter_foldl_addMargin {es : List (Nat × Nat)} (hasc : Ascending es) {n m : Nat} (hmem : mfind es n = some m) (d : List (List Nat)) :
    let own := d.filter (fun r => r.head? == some n) ++ [[n, m]]
    (es.foldl addMargin d).filter (fun r => r.head? == some n) = own.drop (own.length - 365) := by
  induction es generalizing d with
  | nil => exact absurd hmem (by simp [mfind])
  | cons e es ih =>
    obtain ⟨hlt, hrest⟩ := List.pairwise_cons.1 hasc
    rw [List.foldl_cons]
    by_cases he : e.1 = n
    · have hm : e = (n, m) := by
        rw [mfind, if_pos he] at hmem
        exact Prod.ext he (Option.some.inj hmem)
      rw [filter_foldl_addMargin_other (fun x hx hxn => Nat.lt_irrefl n (by simpa [he, hxn] using hlt x hx)), hm]
      exact filter_addMargin_same d n m
    · rw [mfind, if_neg he] at hmem
      have := ih hrest hmem (addMargin d e)
      rwa [filter_addMargin_other d he] at this

theorem State.closeMargins_eq (s : State) :
    s.closeMargins = { s.setLedger 0 9 (s.health.dayMargins.foldl addMargin (s.ledger 0 9)) with
      health := { (s.setLedger 0 9 (s.health.dayMargins.foldl addMargin (s.ledger 0 9))).health with dayMargins := [] } } := rfl

theorem State.sectionReady_lanes (s : State) : s.sectionReady 0 9 false = s.closeMargins := by
  simp [State.sectionReady, secSummary, secLanes]

theorem State.ledger_closeMargins (s : State) : s.closeMargins.ledger 0 9 = s.health.dayMargins.foldl addMargin (s.ledger 0 9) := by
  have hsection : s.closeMargins.section_ 0 9 = (s.setLedger 0 9 (s.health.dayMargins.foldl addMargin (s.ledger 0 9))).section_ 0 9 := rfl
  rw [State.ledger, hsection, State.setLedger, State.section_setSection]

end

/-! ### MANTEL_READ (R800) -/

section
variable {s : State} {c : CmdIn} {cmd : Cmd}

theorem runRead_completes {op : Nat} {i : Instr} (h : Ready op i c s cmd) {bad : List (Bool × Nat)} {body : Cmd → State → Status} {st : Status}
    (hbad : ∀ b ∈ bad, b.1 = false) (hbody : body cmd s = st) (hreply : st.reply = [] ∨ Room c st.reply.length) :
    runRead op i c bad s body = s.complete c.ring st :=
  runNow_completes h hbad (dataHere_of_ready h) (congrArg (·, s) hbody) hreply (ite_self _)

theorem exec_mantelRead {die k off : Nat} (h : Ready 0x0803 (.mantelRead c die k off) c s cmd) (hdie : die < 1 + s.wings) (hk : k ≤ 10) {st : Status}
    (hst : (if (s.sectionBytes die k).length ≤ off then fail stNotFound else okReply (((s.sectionBytes die k).drop off).take c.replyLen)) = st)
    (hreply : st.reply = [] ∨ Room c st.reply.length) : Gives (.mantelRead c die k off) s (s.complete c.ring st) :=
  congrArg Host.Outcome.next (runRead_completes h (by simp; omega) hst hreply)

/-! ### HEALTH_STATUS (R825, Table 22-7) -/

/-- Table 22-7: a die's temperature; 0 for one that the part lacks. -/
def State.tempOf (s : State) (d : Nat) : Int := if d < 1 + s.wings then mget 0 s.health.temps d else 0

/-- Table 22-7: one bit for each Wing that is throttled. -/
def State.throttleBits (s : State) : Nat := (List.range s.wings).foldl (fun n w => n + (if 0 < mget 0 s.health.throttle w then 2 ^ w else 0)) 0

/-- Table 22-7: the free spares of Gallery `k` of the six. -/
def State.sparesOf (s : State) (k : Nat) : Nat := if k / 3 < s.wings then (s.freeSpares (k / 3) (k % 3)).length else 0

/-- Table 22-7 as fields. -/
def State.healthFields (s : State) : List (Nat × Nat) :=
  [(1, s.boot.devState + 16 * b2n s.power.faultN + 32 * s.throttleBits), (1, 0), (2, s.stickyGroups),
    (2, (s.tempOf 0 % 65536).toNat), (2, (s.tempOf 1 % 65536).toNat), (2, (s.tempOf 2 % 65536).toNat), (2, 0),
    (4, featWord s.health.withheld), (1, s.sparesOf 0), (1, s.sparesOf 1), (1, s.sparesOf 2), (1, s.sparesOf 3), (1, s.sparesOf 4), (1, s.sparesOf 5),
    (2, 0), (4, ([1, 2].map (fun d => (s.ledger d secRows).length)).foldl (· + ·) 0),
    (4, ([1, 2].map (fun d => (s.ledger d secRepair).length)).foldl (· + ·) 0), (4, (s.summary 0).1),
    (4, ([0, 1, 2].map (fun d => (s.summary d).2.2)).foldl max 0), (8, s.lastAction), (2, s.wingMhz 0), (2, if s.wings = 2 then s.wingMhz 1 else 0),
    (2, ((s.power.converters.head?).map (·.2.vout)).getD 0), (2, (s.power.converters.map (fun e => e.2.iout)).foldl (· + ·) 0), (8, 0)]

theorem State.healthBytes_eq (s : State) : s.healthBytes = packed s.healthFields := by
  have hspares : (List.range 6).flatMap (fun k => leBytes 1 (if k / 3 < s.wings then (s.freeSpares (k / 3) (k % 3)).length else 0)) =
      packed [(1, s.sparesOf 0), (1, s.sparesOf 1), (1, s.sparesOf 2), (1, s.sparesOf 3), (1, s.sparesOf 4), (1, s.sparesOf 5)] := rfl
  unfold State.healthBytes State.healthFields
  dsimp only
  rw [hspares]
  simp only [packed, List.flatMap_cons, List.flatMap_nil, List.append_assoc, List.append_nil]
  rfl

theorem State.wings_eq (s : State) : s.wings = 1 ∨ s.wings = 2 := by
  unfold State.wings; split
  · exact .inl rfl
  · exact .inr rfl

theorem State.throttleBits_eq (s : State) :
    s.throttleBits = b2n (decide (0 < mget 0 s.health.throttle 0)) + 2 * b2n (decide (1 < s.wings ∧ 0 < mget 0 s.health.throttle 1)) := by
  unfold State.throttleBits
  rcases s.wings_eq with h | h
  · by_cases h0 : 0 < mget 0 s.health.throttle 0 <;> simp [h, h0, b2n]
  · by_cases h0 : 0 < mget 0 s.health.throttle 0 <;> by_cases h1 : 0 < mget 0 s.health.throttle 1 <;> simp [h, h0, h1, b2n, List.range_succ]

/-- Table 22-7, byte 0: the device's state, FAULT_N and the two bits of throttling. -/
theorem stateByte_spec {dev : Nat} (h : dev < 16) (fault t0 t1 : Bool) :
    let v := (dev + 16 * b2n fault + 32 * (b2n t0 + 2 * b2n t1)) % 256 ^ 1
    v % 16 = dev ∧ bitOf v 4 = fault ∧ bitOf v 5 = t0 ∧ bitOf v 6 = t1 := by
  intro v
  have hlt : v = dev + 16 * b2n fault + 32 * (b2n t0 + 2 * b2n t1) := by
    refine Nat.mod_eq_of_lt ?_
    cases fault <;> cases t0 <;> cases t1 <;> simp only [b2n, if_true, Bool.false_eq_true, if_false] <;> omega
  rw [hlt]
  have hbit (n : Nat) (b : Bool) (hn : n % 2 = b2n b) : (n % 2 == 1) = b := by
    rw [hn]; cases b <;> rfl
  refine ⟨by omega, hbit _ _ ?_, hbit _ _ ?_, hbit _ _ ?_⟩
  all_goals
    cases fault <;> cases t0 <;> cases t1 <;> simp only [b2n, if_true, Bool.false_eq_true, if_false] <;> omega

theorem toNat_emod_of_int (t : Int) : (((t % 65536).toNat % 256 ^ 2 : Nat) : Int) = t % 65536 := by
  omega

/-- Table 22-7: the widths of the fields. -/
def healthWidths : List Nat := [1, 1, 2, 2, 2, 2, 2, 4, 1, 1, 1, 1, 1, 1, 2, 4, 4, 4, 4, 8, 2, 2, 2, 2, 8]

theorem State.widthOf_healthFields (s : State) (k : Nat) : widthOf (s.healthFields.take k) = (healthWidths.take k).sum := by
  rw [widthOf, List.map_take]
  rfl

theorem State.leAt_healthBytes (s : State) {k w v off : Nat} (h : s.healthFields[k]? = some (w, v)) (hoff : (healthWidths.take k).sum = off) :
    leAt s.healthBytes off w = v % 256 ^ w := by
  rw [State.healthBytes_eq, ← hoff, ← State.widthOf_healthFields]
  exact leAt_packed h

theorem State.length_healthBytes (s : State) : s.healthBytes.length = 64 := by
  rw [State.healthBytes_eq, length_packed]
  exact s.widthOf_healthFields 25

theorem State.healthBytes_state (s : State) (hdev : s.boot.devState < 16) :
    leAt s.healthBytes 0 1 % 16 = s.boot.devState ∧ (bitOf (leAt s.healthBytes 0 1) 4 = s.power.faultN) ∧
      ∀ w, w < s.wings → (bitOf (leAt s.healthBytes 0 1) (5 + w) = decide (0 < mget 0 s.health.throttle w)) := by
  have hwings := s.wings_eq
  have hbyte : leAt s.healthBytes 0 1 = (s.boot.devState + 16 * b2n s.power.faultN + 32 * s.throttleBits) % 256 ^ 1 :=
    s.leAt_healthBytes (k := 0) rfl rfl
  rw [State.throttleBits_eq] at hbyte
  obtain ⟨hstate, hfault, ht0, ht1⟩ := stateByte_spec hdev s.power.faultN (decide (0 < mget 0 s.health.throttle 0))
    (decide (1 < s.wings ∧ 0 < mget 0 s.health.throttle 1))
  rw [← hbyte] at hstate hfault ht0 ht1
  refine ⟨hstate, hfault, fun w hw => ?_⟩
  obtain rfl | rfl : w = 0 ∨ w = 1 := by omega
  · exact ht0
  · rw [ht1]
    simp [hw]

theorem State.healthBytes_temps (s : State) {d : Nat} (hd : d < 1 + s.wings) :
    (leAt s.healthBytes (4 + 2 * d) 2 : Int) = mget 0 s.health.temps d % 65536 := by
  have hwings := s.wings_eq
  have htemp : s.tempOf d = mget 0 s.health.temps d := if_pos hd
  have hfield : leAt s.healthBytes (4 + 2 * d) 2 = (s.tempOf d % 65536).toNat % 256 ^ 2 := by
    obtain rfl | rfl | rfl : d = 0 ∨ d = 1 ∨ d = 2 := by omega
    · exact s.leAt_healthBytes (k := 3) rfl rfl
    · exact s.leAt_healthBytes (k := 4) rfl rfl
    · exact s.leAt_healthBytes (k := 5) rfl rfl
  rw [hfield, htemp, toNat_emod_of_int]

theorem State.healthBytes_withheld (s : State) (hnodup : s.health.withheld.Nodup) {q : Nat} (hq : q < 24) :
    bitOf (leAt s.healthBytes 0x0C 4) q = s.health.withheld.contains q := by
  have hfield : leAt s.healthBytes 0x0C 4 = featWord s.health.withheld % 2 ^ 32 := s.leAt_healthBytes (k := 7) rfl rfl
  rw [hfield, bitOf_eq_testBit, Nat.testBit_mod_two_pow, testBit_featWord_of_nodup hnodup, decide_eq_true (by omega), Bool.true_and]

theorem State.healthBytes_spares (s : State) {w g : Nat} (hw : w < s.wings) (hg : g < 3) :
    leAt s.healthBytes (0x10 + 3 * w + g) 1 = (s.freeSpares w g).length := by
  have hwings := s.wings_eq
  have hspares : s.sparesOf (3 * w + g) = (s.freeSpares w g).length := by
    rw [State.sparesOf, show (3 * w + g) / 3 = w by omega, show (3 * w + g) % 3 = g by omega, if_pos hw]
  have hfew : (s.freeSpares w g).length < 256 ^ 1 := Nat.lt_of_le_of_lt (List.length_filter_le ..) (by decide)
  have hfield : leAt s.healthBytes (0x10 + 3 * w + g) 1 = s.sparesOf (3 * w + g) % 256 ^ 1 := by
    have hk : 3 * w + g = 0 ∨ 3 * w + g = 1 ∨ 3 * w + g = 2 ∨ 3 * w + g = 3 ∨ 3 * w + g = 4 ∨ 3 * w + g = 5 := by omega
    rw [Nat.add_assoc]
    rcases hk with hk | hk | hk | hk | hk | hk <;> rw [hk]
    · exact s.leAt_healthBytes (k := 8) rfl rfl
    · exact s.leAt_healthBytes (k := 9) rfl rfl
    · exact s.leAt_healthBytes (k := 10) rfl rfl
    · exact s.leAt_healthBytes (k := 11) rfl rfl
    · exact s.leAt_healthBytes (k := 12) rfl rfl
    · exact s.leAt_healthBytes (k := 13) rfl rfl
  rw [hfield, hspares, Nat.mod_eq_of_lt hfew]

theorem State.healthBytes_ledgers (s : State) :
    leAt s.healthBytes 0x18 4 = ((s.ledger 1 7).length + (s.ledger 2 7).length) % 2 ^ 32 ∧
      leAt s.healthBytes 0x1C 4 = ((s.ledger 1 8).length + (s.ledger 2 8).length) % 2 ^ 32 ∧
      leAt s.healthBytes 0x20 4 = (s.summary 0).1 % 2 ^ 32 := by
  have hsum (f : Nat → Nat) : ([1, 2].map f).foldl (· + ·) 0 = f 1 + f 2 := by simp
  have hrows : leAt s.healthBytes 0x18 4 = (([1, 2].map (fun d => (s.ledger d secRows).length)).foldl (· + ·) 0) % 256 ^ 4 :=
    s.leAt_healthBytes (k := 15) rfl rfl
  have hreps : leAt s.healthBytes 0x1C 4 = (([1, 2].map (fun d => (s.ledger d secRepair).length)).foldl (· + ·) 0) % 256 ^ 4 :=
    s.leAt_healthBytes (k := 16) rfl rfl
  rw [hsum] at hrows hreps
  exact ⟨hrows, hreps, s.leAt_healthBytes (k := 17) rfl rfl⟩

theorem State.healthBytes_supply (s : State) :
    leAt s.healthBytes 0x30 2 = s.wingMhz 0 % 65536 ∧
      leAt s.healthBytes 0x36 2 = ((s.power.converters.map (fun e => e.2.iout)).foldl (· + ·) 0) % 65536 :=
  ⟨s.leAt_healthBytes (k := 20) rfl rfl, s.leAt_healthBytes (k := 23) rfl rfl⟩

theorem exec_healthStatus (h : Ready 0x0802 (.healthStatus c []) c s cmd) (hroom : Room c 64) :
    Replies (.healthStatus c []) c s s s.healthBytes := by
  have hnone (t : State) (l : List Nat) :
      l.foldl (fun (s : State) d => match ([] : List Int)[d]? with | some t => s.sampleTemp d t | none => s) t = t :=
    foldl_keeps id _ (fun _ _ => rfl) l t
  refine congrArg Host.Outcome.next (runNow_completes h (List.forall_mem_nil _) (dataHere_of_ready h) ?_ (.inr (s.length_healthBytes.symm ▸ hroom)) (if_pos rfl))
  exact congrArg (fun t => (okReply (State.healthBytes t), t)) (hnone s _)

/-! ### DEVICE_IDENTITY (R4, Table 17-23) -/

/-- Table 17-23 as fields. -/
def State.identityFields (s : State) (fn : Nat) : List (Nat × Nat) :=
  [(2, partCode s.part), (2, 0x00B0), (1, s.wings), (1, s.lanesN), (2, 288 * s.wings), (8, s.boot.serial), (4, s.version 0), (4, s.version 1),
    (4, s.version 2), (4, (if fn < 9 then fn else 0) + 16 * b2n (!s.is4840))]

theorem State.identity_eq (s : State) (fn : Nat) : s.identity fn = packed (s.identityFields fn) := by
  simp only [State.identity, State.identityFields, packed, List.flatMap_cons, List.flatMap_nil, List.append_assoc, List.append_nil]

theorem State.identity_spec (s : State) (fn : Nat) :
    let r := s.identity fn
    r.length = 32 ∧ leAt r 0 2 = (match s.part with | .ikf4880_12 => 1 | .ikf4880_10 => 2 | .ikf4840_12 => 3) ∧ leAt r 2 2 = 0x00B0 ∧
      leAt r 4 1 = s.wings ∧ leAt r 5 1 = s.lanesN ∧ leAt r 6 2 = 288 * s.wings ∧ leAt r 8 8 = s.boot.serial % 2 ^ 64 := by
  intro r
  have hr : r = packed (s.identityFields fn) := s.identity_eq fn
  have hwings := s.wings_eq
  have hlanes : s.lanesN < 256 ^ 1 := by unfold State.lanesN; split <;> decide
  have hpart : leAt r 0 2 = partCode s.part % 256 ^ 2 := hr ▸ leAt_packed (fs := s.identityFields fn) (k := 0) rfl
  have hw : leAt r 4 1 = s.wings % 256 ^ 1 := hr ▸ leAt_packed (fs := s.identityFields fn) (k := 2) rfl
  have hl : leAt r 5 1 = s.lanesN % 256 ^ 1 := hr ▸ leAt_packed (fs := s.identityFields fn) (k := 3) rfl
  have ht : leAt r 6 2 = 288 * s.wings % 256 ^ 2 := hr ▸ leAt_packed (fs := s.identityFields fn) (k := 4) rfl
  refine ⟨hr ▸ length_packed _, ?_, hr ▸ leAt_packed (fs := s.identityFields fn) (k := 1) rfl, by omega, hl.trans (Nat.mod_eq_of_lt hlanes), by omega,
    hr ▸ leAt_packed (fs := s.identityFields fn) (k := 5) rfl⟩
  rw [hpart]
  cases s.part <;> rfl

theorem exec_deviceIdentity (h : Ready 0x0801 (.deviceIdentity c) c s cmd) (hroom : Room c 32) :
    Replies (.deviceIdentity c) c s s (s.identity cmd.fn) :=
  congrArg Host.Outcome.next (runRead_completes h (List.forall_mem_nil _) rfl (.inr ((s.identity_spec cmd.fn).1.symm ▸ hroom)))

end

/-- Settles O49: the writes of the sections, and the three commands that read. -/
theorem mantelAndStatus : Obligations.MantelAndStatus := by
  refine ⟨?write, ?summary, ?lanes, ?read, ?health, ?identity⟩
  case write =>
    intro die k s hfree hdie hk h0 h9 x
    obtain ⟨hbooted, hdata, hnewest, hkeeps⟩ := x.written_spec
    have hplain := State.sectionReady_plain (s := s) (die := die) h0 h9
    refine ⟨⟨s.sectionWritten die k, ?_, ?_⟩, fun hfails => ⟨s.sectionFailed die k, ?_, State.sectionFailed_spec⟩, fun hkind =>
      ⟨_, exec_mantelWrite hfree hdie hk true true, State.stickyBit_marginWritten hkind⟩⟩
    · have hexec := exec_mantelWrite hfree hdie hk true false
      rwa [hplain] at hexec
    · rw [State.section_sectionWritten]
      exact ⟨hbooted, hdata, hnewest, hkeeps, fun d j hj h => State.section_sectionWritten_other s hj hk h, State.ctr_bump ..⟩
    · have hexec := exec_mantelWrite hfree hdie hk false false
      rwa [hplain] at hexec
  case summary =>
    intro die s hfree hdie
    have hexec := exec_mantelWrite hfree hdie (Nat.zero_le 10) true false
    rw [State.sectionReady_summary] at hexec
    refine ⟨_, hexec, by rw [if_pos rfl, State.summary_written], by rw [if_pos rfl, State.summary_written], ?_⟩
    rw [if_pos rfl, State.section_sectionWritten, State.ledger_sectionWritten]
    exact (MantelSec.written_spec _).1
  case lanes =>
    intro s hfree hasc
    have hexec := exec_mantelWrite (die := 0) (k := 9) hfree (by omega) (by omega) true false
    rw [State.sectionReady_lanes] at hexec
    refine ⟨_, hexec, rfl, fun n m hm => ?_⟩
    intro own
    rw [if_pos rfl, State.ledger_sectionWritten, State.ledger_closeMargins]
    exact filter_foldl_addMargin hasc hm _
  case read =>
    intro c die k off s cmd h hdie hk b
    refine ⟨fun hend => ⟨0, exec_mantelRead h hdie hk (if_pos hend) (.inl rfl)⟩, fun hoff hroom hlen => ?_⟩
    exact exec_mantelRead h hdie hk (if_neg (Nat.not_le.2 hoff)) (.inr hroom)
  case health =>
    intro c s cmd h hroom hdev _ hnodup
    obtain ⟨hstate, hfault, hthrottle⟩ := s.healthBytes_state hdev
    obtain ⟨hrows, hrepairs, hhours⟩ := s.healthBytes_ledgers
    exact ⟨_, exec_healthStatus h hroom, s.length_healthBytes, hstate, hfault, hthrottle, fun d => s.healthBytes_temps,
      fun q => s.healthBytes_withheld hnodup, fun w g => s.healthBytes_spares, hrows, hrepairs, hhours, s.healthBytes_supply⟩
  case identity =>
    intro c s cmd h hroom
    exact ⟨_, exec_deviceIdentity h hroom, s.identity_spec cmd.fn⟩

end Sys2Proof.Machine
end

section
/-!
Proofs for the recoveries of chapter 22 (R810 to R824): what the fault of a batch leaves, the repair records of a Gallery, and the retirement of
a tile, the recovery of a Wing and the fault of a regulator domain by these.
-/
open Sys2Proof Sys2Proof.Machine Sys2Proof.Claims

namespace Sys2Proof.Machine

/-! ### The fault of a batch (R359 to R361, R813) -/

/-- R360, R813: the batch as its fault leaves it. -/
def Batch.faulted (b : Batch) (excused : Bool) : Batch :=
  let faults := if 2 ≤ b.issues ∧ ¬ excused then b.faults + 1 else b.faults
  { b with aborted := true, quiesced := [], faults := faults, abandoned := decide (8 ≤ faults) }

/-- R359: the batch is marked, and what stalled on its words is attributed. -/
def State.batchFaulted (s : State) (id : Nat) (b d : Batch) : State :=
  ((s.attributeHeads id b).setBatch id d).fire 4 (b.place.tiles.map (fun i => 16 + i))

/-- R361, R813: the packets of a batch are to be squashed, or abandoned with it. -/
def State.faultPackets (s : State) (w id cause : Nat) (left : Bool) : State :=
  if left then ((s.wing w).rowStairs id).foldl (fun s y => s.abandonPacket w y cause) (s.setStickyIn (1 + w) 161)
  else ((s.wing w).rowStairs id).foldl (fun s y =>
    if y.squash = none ∧ y.state ≠ .squashed then s.setStair w { y with squash := some cause } else s) s

theorem State.faultBatch_none {s : State} {id : Nat} (h : s.batchOf id = none) (cause : Nat) (excused : Bool) : s.faultBatch id cause excused = s := by
  unfold State.faultBatch; rw [h]

theorem State.faultBatch_some {s : State} {id : Nat} {b : Batch} (h : s.batchOf id = some b) (cause : Nat) (excused : Bool) :
    s.faultBatch id cause excused = if b.aborted then s
      else (s.batchFaulted id b (b.faulted excused)).faultPackets (batchHome id) id cause (b.faulted excused).abandoned := by
  unfold State.faultBatch; rw [h]; rfl

section
variable {α : Type} (g : State → α)
  (hwing : ∀ s w x, g (State.setWing s w x) = g s) (hobs : ∀ (s : State) o, g { s with obs := o } = g s)
  (hlocks : ∀ s w id, g (State.dropLocks s w id) = g s) (hfire : ∀ s b bs, g (State.fire s b bs) = g s)
  (hsticky : ∀ s b, g (State.setStickyIn s b 161) = g s) (htrace : ∀ s b r, g (State.trace s b r) = g s)
  (hsquash : ∀ s w p c, g (State.bump s (squashCtr w p c)) = g s)
  (habandoned : ∀ s w p, g (State.bump s (ctrOnWing w (Ctr.partAbandoned p))) = g s)

include hobs in
theorem State.attributeHeads_keeps (s : State) (id : Nat) (b : Batch) : g (s.attributeHeads id b) = g s := by
  refine foldl_keeps g _ (fun t i => foldl_keeps g _ (fun u e => ?_) _ t) _ s
  split
  · split
    · change g (if b.graph = .rollout then u else { u with obs := _ }) = g u
      split
      · rfl
      · exact hobs ..
    · rfl
  · rfl

include hwing hlocks htrace hsquash habandoned in
theorem State.abandonPacket_keeps (s : State) (w : Nat) (y : Stair) (cause : Nat) : g (s.abandonPacket w y cause) = g s := by
  have hcount : g (s.countSquash w y cause) = g s := (htrace ..).trans (hsquash ..)
  unfold State.abandonPacket
  dsimp only
  rw [State.chooseAll, hwing, hlocks, hwing, habandoned, hcount]

include hwing hlocks hsticky htrace hsquash habandoned in
theorem State.faultPackets_keeps (s : State) (w id cause : Nat) (left : Bool) : g (s.faultPackets w id cause left) = g s := by
  have hmark (u : State) (y : Stair) :
      g (if y.squash = none ∧ y.state ≠ .squashed then u.setStair w { y with squash := some cause } else u) = g u := by
    split
    · exact hwing ..
    · rfl
  unfold State.faultPackets
  split
  · exact (foldl_keeps g _ (fun _ _ => State.abandonPacket_keeps g hwing hlocks htrace hsquash habandoned ..) _ _).trans (hsticky ..)
  · exact foldl_keeps g _ hmark _ s

include hwing hobs hlocks hfire hsticky htrace hsquash habandoned in
/-- The fault of a batch changes Wings, observations, tile locks, counters of squashes and bit 161, and nothing else. -/
theorem State.faultBatch_keeps (s : State) (id cause : Nat) (excused : Bool) : g (s.faultBatch id cause excused) = g s := by
  cases h : s.batchOf id with
  | none => rw [State.faultBatch_none h]
  | some b =>
    rw [State.faultBatch_some h]
    split
    · rfl
    · rw [State.faultPackets_keeps g hwing hlocks hsticky htrace hsquash habandoned, State.batchFaulted, hfire, State.setBatch, hwing,
        State.attributeHeads_keeps g hobs]

end

section
variable {α : Type} (f : Wing → α)

theorem Wing.cascade_keeps (hf : ∀ x l, f { x with stairs := l } = f x) (x : Wing) (id : Nat) : f (x.cascade id) = f x := hf ..

/-- R361, R813: of a Wing, the packets of a faulted batch change the entries of the Stairwell alone. -/
theorem State.wing_faultPackets (hf : ∀ x l, f { x with stairs := l } = f x) (s : State) (w id cause : Nat) (left : Bool) (v : Nat) :
    f ((s.faultPackets w id cause left).wing v) = f (s.wing v) := by
  have habandon (t : State) (y : Stair) : f ((t.abandonPacket w y cause).wing v) = f (t.wing v) := by
    have hcount : ∀ v, (t.countSquash w y cause).wing v = t.wing v := fun v => by
      simp only [State.wing, State.countSquash, State.trace_wing0, State.trace_wing1]
      rfl
    refine (State.chooseAll_keeps f hf _ w v).trans ?_
    refine (State.setWing_keeps (w := w) f ?_ v).trans (congrArg f (hcount v))
    exact (hf ..).trans (hf ..)
  have hmark (u : State) (y : Stair) :
      f ((if y.squash = none ∧ y.state ≠ .squashed then u.setStair w { y with squash := some cause } else u).wing v) = f (u.wing v) := by
    split
    · exact State.setStair_keeps f hf ..
    · rfl
  unfold State.faultPackets
  split
  · refine (foldl_keeps (fun t => f (State.wing t v)) _ habandon _ _).trans (congrArg f ?_)
    exact State.wing_of_wings (State.setStickyIn_wing0 ..) (State.setStickyIn_wing1 ..) v
  · exact foldl_keeps (fun t => f (State.wing t v)) _ hmark _ s

/-- R359: of a Wing, the mark of a faulted batch changes the batches alone. -/
theorem State.wing_batchFaulted (hf : ∀ x l, f { x with batches := l } = f x) (s : State) (id : Nat) (b d : Batch) (v : Nat) :
    f ((s.batchFaulted id b d).wing v) = f (s.wing v) := by
  have hheads : (s.attributeHeads id b).wing v = s.wing v := State.attributeHeads_keeps (State.wing · v) (fun _ _ => rfl) s id b
  have hfire (t : State) (n : Nat) (bs : List Nat) : (t.fire n bs).wing v = t.wing v := by
    simp only [State.wing, State.fire_wing0, State.fire_wing1]
  rw [State.batchFaulted, hfire, State.setBatch, State.setWing_keeps f (hf ..), hheads]

/-- Of a Wing, the fault of a batch changes the entries of the Stairwell and the batches alone. -/
theorem State.wing_faultBatch (hstairs : ∀ x l, f { x with stairs := l } = f x) (hbatches : ∀ x l, f { x with batches := l } = f x) (s : State)
    (id cause : Nat) (excused : Bool) (v : Nat) : f ((s.faultBatch id cause excused).wing v) = f (s.wing v) := by
  cases h : s.batchOf id with
  | none => rw [State.faultBatch_none h]
  | some b =>
    rw [State.faultBatch_some h]
    split
    · rfl
    · exact (State.wing_faultPackets f hstairs ..).trans (State.wing_batchFaulted f hbatches ..)

end

section
variable {s : State} {id : Nat}

theorem State.batchOf_of_batches {t : State} (h : ∀ v, (t.wing v).batches = (s.wing v).batches) (j : Nat) : t.batchOf j = s.batchOf j := by
  rw [State.batchOf, h]; rfl

theorem batchHome_lt (id : Nat) : batchHome id < 2 := Nat.mod_lt _ (by decide)

theorem State.batchOf_setBatch (s : State) (id : Nat) (b : Batch) (j : Nat) :
    (s.setBatch id b).batchOf j = if j = id then some b else s.batchOf j := by
  unfold State.setBatch State.batchOf
  dsimp only
  rw [State.wing_setWing_eq_ite]
  by_cases hj : j = id
  · simp [hj]
  · rw [if_neg hj]
    split
    · next hv =>
      have hwing : s.wing (batchHome j) = s.wing (batchHome id) := by simp only [State.wing, hv]
      rw [hwing]
      exact mfind_mput_other _ _ hj
    · rfl

/-- R360, R813: a fault aborts its batch; the other batches stay. -/
theorem State.batchOf_faultBatch (s : State) (id cause : Nat) (excused : Bool) (j : Nat) :
    (s.faultBatch id cause excused).batchOf j =
      if j = id then (s.batchOf id).map (fun b => if b.aborted then b else b.faulted excused) else s.batchOf j := by
  cases h : s.batchOf id with
  | none =>
    rw [State.faultBatch_none h]
    split
    · next hj => rw [hj, h]; rfl
    · rfl
  | some b =>
    rw [State.faultBatch_some h]
    by_cases hb : b.aborted = true
    · rw [if_pos hb]
      split
      · next hj => rw [hj, h, Option.map_some, if_pos hb]
      · rfl
    · rw [if_neg hb, State.batchOf_of_batches (s := s.batchFaulted id b (b.faulted excused)) (fun v => State.wing_faultPackets Wing.batches (fun _ _ => rfl) ..),
        State.batchFaulted, State.batchOf_of_batches (s := (s.attributeHeads id b).setBatch id (b.faulted excused)) (fun v => by
          simp only [State.wing, State.fire_wing0, State.fire_wing1]), State.batchOf_setBatch, Option.map_some, if_neg hb]
      split
      · rfl
      · exact State.batchOf_of_batches (fun v => congrArg Wing.batches (State.attributeHeads_keeps (State.wing · v) (fun _ _ => rfl) s id b)) j

/-- R360: the batches of several faults are aborted, each with the faults that it had. -/
theorem State.batchOf_foldl_faultBatch (s : State) (l : List (Nat × Batch)) (cause : Nat) {j : Nat} {b : Batch} (h : s.batchOf j = some b) :
    ∃ d, (l.foldl (fun s e => s.faultBatch e.1 cause true) s).batchOf j = some d ∧ d.faults = b.faults ∧
      (b.aborted = true ∨ j ∈ l.map (·.1) → d.aborted = true) := by
  induction l generalizing s b with
  | nil => exact ⟨b, h, rfl, fun hor => hor.resolve_right List.not_mem_nil⟩
  | cons e l ih =>
    have hstep := State.batchOf_faultBatch s e.1 cause true j
    by_cases hj : j = e.1
    · subst hj
      rw [if_pos rfl, h, Option.map_some] at hstep
      obtain ⟨d, hd, hfaults, habort⟩ := ih (s.faultBatch e.1 cause true) hstep
      refine ⟨d, hd, hfaults.trans ?_, fun _ => habort (.inl ?_)⟩
      · split
        · rfl
        · simp [Batch.faulted]
      · split
        · assumption
        · rfl
    · rw [if_neg hj, h] at hstep
      obtain ⟨d, hd, hfaults, habort⟩ := ih (s.faultBatch e.1 cause true) hstep
      refine ⟨d, hd, hfaults, fun hor => habort (hor.imp_right fun hmem => ?_)⟩
      simpa [hj] using hmem

theorem State.mem_allBatches {b : Batch} (h : s.batchOf id = some b) : (id, b) ∈ s.allBatches := by
  have hmem : (id, b) ∈ (s.wing (batchHome id)).batches := mem_of_mfind h
  unfold State.wing at hmem
  split at hmem
  · exact List.mem_append_left _ hmem
  · exact List.mem_append_right _ hmem

/-- R360, R813: the batches that `p` names are aborted with their faults as they were. -/
theorem State.abortsUncounted_foldl (s : State) (p : Nat → Batch → Bool) (cause : Nat) :
    AbortsUncounted s ((s.allBatches.filter (fun e => e.2.sent && p e.1 e.2)).foldl (fun s e => s.faultBatch e.1 cause true) s) p := by
  intro id b h hsent hp _
  obtain ⟨d, hd, hfaults, habort⟩ := State.batchOf_foldl_faultBatch s (s.allBatches.filter (fun e => e.2.sent && p e.1 e.2)) cause h
  refine ⟨d, hd, habort (.inr (List.mem_map.2 ⟨(id, b), List.mem_filter.2 ⟨State.mem_allBatches h, ?_⟩, rfl⟩)), hfaults⟩
  rw [hsent, hp]; rfl

theorem AbortsUncounted.of_batches {t u : State} {p : Nat → Batch → Bool} (h : AbortsUncounted s t p)
    (hwing : ∀ v, u.wing v = t.wing v) : AbortsUncounted s u p := by
  intro id b hb hsent hp hnot
  obtain ⟨d, hd, habort⟩ := h id b hb hsent hp hnot
  exact ⟨d, (State.batchOf_of_batches (fun v => congrArg Wing.batches (hwing v)) id).trans hd, habort⟩

end

end Sys2Proof.Machine
end

section
/-!
Proofs for the recoveries of chapter 22 (R810 to R824): the repair records of a Gallery, and the retirement of a tile, the recovery of a Wing and
the fault of a regulator domain.
-/
open Sys2Proof Sys2Proof.Machine Sys2Proof.Claims

namespace Sys2Proof.Machine

/-! ### What the faults of batches leave of the rest -/

section
variable (s : State) (l : List (Nat × Batch)) (cause : Nat) (excused : Bool)

/-- The faults of some batches. -/
def State.faultThese : State := l.foldl (fun s e => s.faultBatch e.1 cause excused) s

theorem State.faultThese_keeps {α : Type} (g : State → α)
    (hwing : ∀ s w x, g (State.setWing s w x) = g s) (hobs : ∀ (s : State) o, g { s with obs := o } = g s)
    (htiles : ∀ (s : State) l, g { s with tiles := l } = g s) (hfire : ∀ s b bs, g (State.fire s b bs) = g s)
    (hsticky : ∀ s b, g (State.setStickyIn s b 161) = g s) (htrace : ∀ s b r, g (State.trace s b r) = g s)
    (hcounters : ∀ (s : State) c, g { s with counters := c } = g s) : g (s.faultThese l cause excused) = g s :=
  foldl_keeps g _ (fun _ _ => State.faultBatch_keeps g hwing hobs (fun _ _ _ => htiles ..) hfire hsticky htrace (fun _ _ _ _ => hcounters ..) (fun _ _ _ => hcounters ..) ..) l s

@[simp] theorem State.health_faultThese : (s.faultThese l cause excused).health = s.health :=
  State.faultThese_keeps s l cause excused State.health State.setWing_health (fun _ _ => rfl) (fun _ _ => rfl) State.fire_health
    (fun _ _ => State.setStickyIn_health ..) State.trace_health fun _ _ => rfl

@[simp] theorem State.wingStopped_faultThese : (s.faultThese l cause excused).time.wingStopped = s.time.wingStopped :=
  State.faultThese_keeps s l cause excused (fun s => s.time.wingStopped) (fun _ _ _ => by rw [State.setWing_time]) (fun _ _ => rfl) (fun _ _ => rfl)
    (fun _ _ _ => by rw [State.fire_time]) (fun _ _ => by rw [State.setStickyIn_time]) (fun _ _ _ => by rw [State.trace_time]) fun _ _ => rfl

@[simp] theorem State.boot_faultThese : (s.faultThese l cause excused).boot = s.boot :=
  State.faultThese_keeps s l cause excused State.boot State.setWing_boot (fun _ _ => rfl) (fun _ _ => rfl) State.fire_boot
    (fun _ _ => State.setStickyIn_boot ..) State.trace_boot fun _ _ => rfl

/-- A counter of a group's own index, which neither traces, vectors nor squashes count. -/
theorem State.ctr_faultThese {g i k : Nat} (hk : k < 4096) (hbuf : k ≠ 108 ∧ k ≠ 162 ∧ k ≠ 222) (hvec : k ≠ 3)
    (hpart : k ≠ 51 ∧ k ≠ 9 ∧ k ≠ 10 ∧ k ≠ 11 ∧ k ≠ 12 ∧ k ≠ 13) :
    (s.faultThese l cause excused).ctr (Ctr.ident g i k) = s.ctr (Ctr.ident g i k) := by
  obtain ⟨h108, h162, h222⟩ := hbuf
  have hb := Ctr.ident_ne_bufCtr_of_index g i hk h108 h162 h222
  refine foldl_keeps (fun t => State.ctr t (Ctr.ident g i k)) _ (fun t e => State.faultBatch_keeps (fun t => State.ctr t (Ctr.ident g i k))
    (fun _ _ _ => State.setWing_ctr ..) (fun _ _ => rfl) (fun _ _ _ => rfl) (fun _ _ _ => State.ctr_fire_other _ _ _ hb)
    (fun _ _ => State.ctr_setStickyIn_other _ _ _ hb (Ctr.ident_ne_funcMsixSent g i hk hvec)) (fun _ _ _ => State.ctr_trace_other _ _ (hb _))
    (fun _ w p c => State.ctr_bump_other _ ?_) (fun _ w p => State.ctr_bump_other _ ?_) t e.1 cause excused) l s
  · unfold squashCtr
    split <;> exact Ctr.ident_ne_of_low hk (by decide) (by omega)
  · simp only [ctrOnWing, Ctr.partAbandoned, Ctr.ident]
    omega

theorem State.stickyBit_faultThese {n : Nat} (hn : n < 256) (h : n ≠ 161) : (s.faultThese l cause excused).stickyBit n = s.stickyBit n :=
  State.faultThese_keeps s l cause excused (State.stickyBit · n) (fun _ _ _ => State.stickyBit_of_sticky (State.setWing_sticky ..) n) (fun _ _ => rfl)
    (fun _ _ => rfl) (fun _ _ _ => State.stickyBit_of_sticky (State.fire_sticky ..) n)
    (fun _ _ => by simp [State.stickyBit_setStickyIn _ _ hn, h]) (fun _ _ _ => State.stickyBit_of_sticky (State.trace_sticky ..) n) fun _ _ => rfl

/-- Of a Wing, the faults change the entries of the Stairwell and the batches alone. -/
theorem State.wing_faultThese {α : Type} (f : Wing → α) (hstairs : ∀ x l, f { x with stairs := l } = f x) (hbatches : ∀ x l, f { x with batches := l } = f x)
    (v : Nat) : f ((s.faultThese l cause excused).wing v) = f (s.wing v) :=
  foldl_keeps (fun t => f (State.wing t v)) _ (fun t (e : Nat × Batch) => State.wing_faultBatch f hstairs hbatches t e.1 cause excused v) l s

end

/-! ### Repair records (R17, R810, R812) -/

section
variable {s t : State} {w g : Nat}

theorem State.section_of_health (h : t.health = s.health) (die k : Nat) : t.section_ die k = s.section_ die k := by
  rw [State.section_, h]; rfl

theorem State.repairs_of_ledger (h : t.ledger (1 + w) 8 = s.ledger (1 + w) 8) : t.repairs w g = s.repairs w g := by
  rw [State.repairs, State.repairs, show secRepair = 8 from rfl, h]

theorem State.repairs_of_health (h : t.health = s.health) : t.repairs w g = s.repairs w g :=
  State.repairs_of_ledger (congrArg MantelSec.data (State.section_of_health h ..))

theorem State.lostSpares_of_health (h : t.health.sparesLost = s.health.sparesLost) : t.lostSpares w g = s.lostSpares w g := by
  rw [State.lostSpares, h]; rfl

theorem State.freeSpares_congr (hrepairs : t.repairs w g = s.repairs w g) (hlost : t.lostSpares w g = s.lostSpares w g) :
    t.freeSpares w g = s.freeSpares w g := by
  rw [State.freeSpares, hrepairs, hlost]; rfl

theorem State.freeSpares_of_health (h : t.health = s.health) : t.freeSpares w g = s.freeSpares w g :=
  State.freeSpares_congr (State.repairs_of_health h) (State.lostSpares_of_health (congrArg Health.sparesLost h))

/-- An action writes the sections of SUMMARY and EVENTS, and none else. -/
theorem State.ledger_repair_action (s : State) (die kind loc result d : Nat) : (s.action die kind loc result).ledger d 8 = s.ledger d 8 := by
  have hother (t : State) (k : Nat) (x : MantelSec) (hk : k % 16 ≠ 8) (hlt : k < 16) : (t.setSection die k x).section_ d 8 = t.section_ d 8 :=
    State.section_setSection_other t x (by omega)
  exact congrArg MantelSec.data ((hother _ _ _ (by decide) (by decide)).trans (hother _ _ _ (by decide) (by decide)))

theorem State.wing_action (s : State) (die kind loc result v : Nat) : (s.action die kind loc result).wing v = s.wing v :=
  State.wing_of_wings rfl rfl v

theorem State.repairs_action (s : State) (die kind loc result : Nat) : (s.action die kind loc result).repairs w g = s.repairs w g :=
  State.repairs_of_ledger (State.ledger_repair_action ..)

theorem State.sparesLost_action (s : State) (die kind loc result : Nat) : (s.action die kind loc result).health.sparesLost = s.health.sparesLost := rfl

theorem State.freeSpares_action (s : State) (die kind loc result : Nat) : (s.action die kind loc result).freeSpares w g = s.freeSpares w g :=
  State.freeSpares_congr (State.repairs_action ..) (State.lostSpares_of_health (State.sparesLost_action ..))

/-- R17: the record of REPAIR that a row spells for Gallery `g`. -/
def repairOf (g : Nat) : List Nat → Option (Nat × Nat)
  | k :: t :: p :: _ => if k = g then some (t, p) else none
  | _ => none

/-- R810: the row is not of tile `t` of Gallery `g`. -/
def keepsRow (g t : Nat) : List Nat → Bool
  | k :: u :: _ => !(k == g && u == t)
  | _ => true

theorem repairOf_keepsRow (g t : Nat) (r : List Nat) :
    (if keepsRow g t r = true then repairOf g r else none) = (repairOf g r).filter (fun r => r.1 != t) := by
  match r with
  | [] => rfl
  | [_] => rfl
  | [k, u] => exact ite_self none
  | k :: u :: p :: rest =>
    by_cases hk : k = g <;> by_cases hu : u = t <;> simp [keepsRow, repairOf, hk, hu, Option.filter]

theorem filterMap_repairOf_keepsRow (g t : Nat) (l : List (List Nat)) :
    (l.filter (keepsRow g t)).filterMap (repairOf g) = (l.filterMap (repairOf g)).filter (fun r => r.1 != t) := by
  rw [List.filterMap_filter, List.filter_filterMap]
  exact List.filterMap_congr fun r _ => repairOf_keepsRow g t r

theorem State.repairs_repair (s : State) (w g t spare cause : Nat) :
    (s.repair w g t spare cause).repairs w g = (s.repairs w g).filter (fun r => r.1 != t) ++ [(t, spare)] := by
  have hledger : (s.repair w g t spare cause).ledger (1 + w) 8 = (s.ledger (1 + w) 8).filter (keepsRow g t) ++ [[g, t, spare, s.nt, cause]] :=
    congrArg MantelSec.data (State.section_setSection ..)
  have hrepairs (u : State) : u.repairs w g = (u.ledger (1 + w) 8).filterMap (repairOf g) := rfl
  rw [hrepairs, hledger, List.filterMap_append, filterMap_repairOf_keepsRow, hrepairs]
  simp [repairOf]

theorem State.lostSpares_repair (s : State) (w g t spare cause : Nat) :
    (s.repair w g t spare cause).lostSpares w g =
      s.lostSpares w g ++ ((s.repairs w g).filter (fun r => r.1 == t && decide (r.2 < 4))).map (·.2) := by
  rw [State.lostSpares]
  exact mget_mput_same ..

theorem find?_repair (l : List (Nat × Nat)) (t p : Nat) : (l.filter (fun r => r.1 != t) ++ [(t, p)]).find? (fun r => r.1 == t) = some (t, p) := by
  have hnone : (l.filter (fun r => r.1 != t)).find? (fun r => r.1 == t) = none := by
    refine List.find?_eq_none.2 fun r hr => ?_
    simpa using (List.mem_filter.1 hr).2
  rw [List.find?_append, hnone]
  simp

/-- R810: with its first free spare taken, a Gallery has the others left. -/
theorem State.freeSpares_repair {p t cause : Nat} {rest : List Nat} (h : s.freeSpares w g = p :: rest) :
    (s.repair w g t p cause).freeSpares w g = rest := by
  have hnodup : (p :: rest).Nodup := h ▸ List.Nodup.filter _ (by decide)
  have hrest : (p :: rest).filter (fun q => q != p) = rest := by
    rw [List.filter_cons_of_neg (by simp), List.filter_eq_self]
    intro q hq
    simp only [bne_iff_ne, ne_eq]
    rintro rfl
    exact (List.nodup_cons.1 hnodup).1 hq
  rw [← hrest, ← h, State.freeSpares, State.freeSpares, List.filter_filter, State.repairs_repair, State.lostSpares_repair]
  refine List.filter_congr fun q hq => ?_
  have hlt : q < 4 := by fin_cases hq <;> decide
  rw [Bool.eq_iff_iff]
  simp only [Bool.and_eq_true, Bool.not_eq_true', List.any_eq_false, List.contains_eq_mem, decide_eq_false_iff_not, List.mem_append, List.mem_filter, List.mem_singleton,
    List.mem_map, beq_iff_eq, bne_iff_ne, decide_eq_true_eq, ne_eq]
  constructor
  · rintro ⟨hany, hlost⟩
    refine ⟨fun hqp => hany (t, p) (.inr rfl) hqp.symm, fun r hr hrq => ?_, fun hin => hlost (.inl hin)⟩
    by_cases hrt : r.1 = t
    · exact hlost (.inr ⟨r, ⟨hr, hrt, hrq ▸ hlt⟩, hrq⟩)
    · exact hany r (.inl ⟨hr, hrt⟩) hrq
  · rintro ⟨hqp, hany, hlost⟩
    refine ⟨fun r hr hrq => ?_, fun hin => ?_⟩
    · rcases hr with ⟨hr, -⟩ | rfl
      · exact hany r hr hrq
      · exact hqp hrq.symm
    · rcases hin with hin | ⟨r, ⟨hr, -⟩, hrq⟩
      · exact hlost hin
      · exact hany r hr hrq

end

/-! ### TILE_RETIREMENT (R810 to R812) -/

section
variable {s : State} {w i : Nat}

theorem State.nextDue_lowest (h : s.nextDue w = some i) :
    tileWing i = w ∧ ∀ e ∈ s.health.tiles, Ascending s.health.tiles → e.2.due = true → tileWing e.1 = w → i ≤ e.1 := by
  rw [State.nextDue, List.head?_map, List.head?_filter, Option.map_eq_some_iff] at h
  obtain ⟨x, hx, rfl⟩ := h
  obtain ⟨hp, as, bs, hsplit, hbefore⟩ := List.find?_eq_some_iff_append.1 hx
  simp only [Bool.and_eq_true, decide_eq_true_eq] at hp
  refine ⟨hp.2, fun e he hasc hdue hwing => ?_⟩
  rw [hsplit] at he hasc
  rcases List.mem_append.1 he with hin | hin
  · have := hbefore e hin
    simp [hdue, hwing] at this
  · rcases List.mem_cons.1 hin with rfl | hin
    · exact Nat.le_refl _
    · exact Nat.le_of_lt ((List.pairwise_cons.1 (List.pairwise_append.1 hasc).2.1).1 e hin)

/-- R810: the state once the tile's error history has been given up. -/
def State.historyCleared (s : State) (i : Nat) : State := { s with health := { s.health with tiles := mput s.health.tiles i {} } }

/-- R811: the state in which spare `p` is on record and the batches of tile `i` have been aborted. -/
def State.tileRepaired (s : State) (w i p : Nat) : State :=
  ((s.historyCleared i).repair w (i / 128 % 4) (i % 128) p 1).faultAll i 4 true

/-- R810, R811: the state once spare `p` backs tile `i`. -/
def State.tileBacked (s : State) (w i p : Nat) : State :=
  (((s.tileRepaired w i p).setSticky 162).bump Ctr.hallTilesRetired).action (1 + w) 2 i p

/-- R18: the state once the quarter of tile `i` is withheld, but for the count and the record. -/
def State.quarterGone (s : State) (w i : Nat) : State :=
  ((s.historyCleared i).repair w (i / 128 % 4) (i % 128) 255 1).withholdQuarter w (i / 128 % 4) (i % 128)

/-- R18, R812: the state once the quarter of tile `i`, which has no spare, is withheld. -/
def State.tileGone (s : State) (w i : Nat) : State :=
  ((s.quarterGone w i).bump Ctr.hallQuartersWithheld).action (1 + w) 3 i 255

theorem exec_tileRetirement (hdue : s.nextDue w = some i) (hfree : s.wingFree w = true) (hcopy : s.copyWaits i = false) :
    (∀ p rest, s.freeSpares w (i / 128 % 4) = p :: rest → Gives (.tileRetirement w) s (s.tileBacked w i p)) ∧
      (s.freeSpares w (i / 128 % 4) = [] → Gives (.tileRetirement w) s (s.tileGone w i)) := by
  have hspares : (s.historyCleared i).freeSpares w (i / 128 % 4) = s.freeSpares w (i / 128 % 4) := rfl
  refine ⟨fun p rest h => ?_, fun h => ?_⟩
  all_goals
    rw [h] at hspares
    change execTileRetirement w s = _
    simp only [execTileRetirement, hdue, hfree, hcopy, Bool.not_true, Bool.or_self, Bool.false_eq_true, if_false]
    change Host.Outcome.next (match (s.historyCleared i).freeSpares w (i / 128 % 4) with | p :: _ => _ | [] => _) = _
    rw [hspares]
    rfl

theorem exec_tileRetirement_waits (h : s.nextDue w = none ∨ ∃ i, s.nextDue w = some i ∧ (s.wingFree w = false ∨ s.copyWaits i = true)) :
    Gives (.tileRetirement w) s s := by
  change execTileRetirement w s = _
  rcases h with h | ⟨i, h, hfree | hcopy⟩
  · simp only [execTileRetirement, h]
  · simp only [execTileRetirement, h, hfree, Bool.not_false, Bool.true_or, if_true]
  · simp only [execTileRetirement, h, hcopy, Bool.or_true, if_true]

theorem State.faultAll_eq (s : State) (i cause : Nat) (excused : Bool) :
    s.faultAll i cause excused = s.faultThese (s.allBatches.filter (fun e => e.2.sent && (e.2.place.tiles.contains i && !e.2.ended.contains i))) cause excused := by
  simp only [State.faultAll, State.faultThese, Bool.and_assoc]

section
variable (s) (w i : Nat) (p : Nat)

theorem State.health_tileRepaired : (s.tileRepaired w i p).health = ((s.historyCleared i).repair w (i / 128 % 4) (i % 128) p 1).health := by
  rw [State.tileRepaired, State.faultAll_eq, State.health_faultThese]

theorem State.repairs_tileBacked (g : Nat) :
    (s.tileBacked w i p).repairs w g = ((s.historyCleared i).repair w (i / 128 % 4) (i % 128) p 1).repairs w g := by
  have hhealth : (((s.tileRepaired w i p).setSticky 162).bump Ctr.hallTilesRetired).health = ((s.historyCleared i).repair w (i / 128 % 4) (i % 128) p 1).health :=
    (State.setSticky_health ..).trans (State.health_tileRepaired ..)
  exact (State.repairs_action ..).trans (State.repairs_of_health hhealth)

theorem State.freeSpares_tileBacked (g : Nat) :
    (s.tileBacked w i p).freeSpares w g = ((s.historyCleared i).repair w (i / 128 % 4) (i % 128) p 1).freeSpares w g := by
  have hhealth : (((s.tileRepaired w i p).setSticky 162).bump Ctr.hallTilesRetired).health = ((s.historyCleared i).repair w (i / 128 % 4) (i % 128) p 1).health :=
    (State.setSticky_health ..).trans (State.health_tileRepaired ..)
  exact (State.freeSpares_action ..).trans (State.freeSpares_of_health hhealth)

theorem State.tiles_tileBacked : (s.tileBacked w i p).health.tiles = mput s.health.tiles i {} ∧ (s.tileBacked w i p).health.withheld = s.health.withheld := by
  have hhealth : ((s.tileRepaired w i p).setSticky 162).health = ((s.historyCleared i).repair w (i / 128 % 4) (i % 128) p 1).health :=
    (State.setSticky_health ..).trans (State.health_tileRepaired ..)
  have hwithheld : ((s.tileRepaired w i p).setSticky 162).health.withheld = s.health.withheld := by rw [hhealth]; rfl
  exact ⟨congrArg Health.tiles hhealth, hwithheld⟩

theorem State.stickyBit_tileBacked : (s.tileBacked w i p).stickyBit 162 = true :=
  (State.stickyBit_action ..).trans (State.stickyBit_setSticky_self (s.tileRepaired w i p) (by decide))

theorem State.ctr_tileBacked : (s.tileBacked w i p).ctr Ctr.hallTilesRetired = rose (s.ctr Ctr.hallTilesRetired) 1 := by
  have hne : (∀ b, Ctr.hallTilesRetired ≠ bufCtr b 1) ∧ ∀ fn, Ctr.hallTilesRetired ≠ Ctr.funcMsixSent fn :=
    ⟨Ctr.ident_ne_bufCtr_of_index 1 0 (by decide) (by decide) (by decide) (by decide), Ctr.ident_ne_funcMsixSent 1 0 (by decide) (by decide)⟩
  refine (State.ctr_action ..).trans ((State.ctr_bump ..).trans (congrArg (rose · 1) ?_))
  refine (State.ctr_setStickyIn_other (s.tileRepaired w i p) 0 162 hne.1 hne.2).trans ?_
  rw [State.tileRepaired, State.faultAll_eq]
  exact State.ctr_faultThese _ _ _ _ (by decide) (by decide) (by decide) (by decide)

theorem State.wing_tileBacked (v : Nat) : (s.tileBacked w i p).wing v = (s.tileRepaired w i p).wing v := by
  rw [State.tileBacked, State.wing_action, State.wing_bump]
  exact State.wing_of_wings (State.setSticky_wing0 ..) (State.setSticky_wing1 ..) v

theorem State.abortsUncounted_tileBacked : AbortsUncounted s (s.tileBacked w i p) (fun _ b => b.place.tiles.contains i && !b.ended.contains i) := by
  refine AbortsUncounted.of_batches (t := s.tileRepaired w i p) ?_ (State.wing_tileBacked s w i p)
  rw [State.tileRepaired, State.faultAll_eq]
  exact State.abortsUncounted_foldl ((s.historyCleared i).repair w (i / 128 % 4) (i % 128) p 1) (fun _ b => b.place.tiles.contains i && !b.ended.contains i) 4

/-- R18: the withheld quarter is listed, once. -/
theorem State.health_withholdQuarter (s : State) (w g t : Nat) :
    ∃ l, (s.withholdQuarter w g t).health = { s.health with withheld := l } ∧ l.contains (12 * w + 4 * g + t / 24) = true := by
  unfold State.withholdQuarter
  dsimp only
  split
  · next h =>
    rw [State.setSticky_health] at h ⊢
    exact ⟨_, rfl, h⟩
  · refine ⟨(s.setSticky 163).health.withheld ++ [12 * w + 4 * g + t / 24], ?_, by simp⟩
    rw [State.setSticky_health]

theorem State.withholdQuarter_keeps {α : Type} (g : State → α) (hsticky : ∀ s, g (State.setSticky s 163) = g s)
    (hhealth : ∀ (s : State) h, g { s with health := h } = g s) (s : State) (w k t : Nat) : g (s.withholdQuarter w k t) = g s := by
  unfold State.withholdQuarter
  dsimp only
  split
  · exact hsticky s
  · exact (hhealth ..).trans (hsticky s)

theorem State.tileGone_eq : s.tileGone w i = ((s.quarterGone w i).bump Ctr.hallQuartersWithheld).action (1 + w) 3 i 255 := rfl

theorem State.quarterGone_health : ∃ l, (s.quarterGone w i).health = { ((s.historyCleared i).repair w (i / 128 % 4) (i % 128) 255 1).health with withheld := l } ∧
    l.contains (12 * w + 4 * (i / 128 % 4) + i % 128 / 24) = true := State.health_withholdQuarter ..

theorem State.stickyBit_tileGone : (s.tileGone w i).stickyBit 163 = true := by
  rw [State.tileGone_eq, State.stickyBit_action, State.stickyBit_of_sticky (State.bump_sticky ..), State.quarterGone, State.withholdQuarter]
  split <;> exact State.stickyBit_setSticky_self (State.repair _ w (i / 128 % 4) (i % 128) 255 1) (by decide)

theorem State.health_tileGone : (s.tileGone w i).health.withheld = (s.quarterGone w i).health.withheld ∧
    (s.tileGone w i).health.tiles = (s.quarterGone w i).health.tiles := ⟨rfl, rfl⟩

theorem State.withheld_tileGone : (s.tileGone w i).health.withheld.contains (12 * w + 4 * (i / 128 % 4) + i % 128 / 24) = true := by
  obtain ⟨l, hhealth, hcontains⟩ := s.quarterGone_health w i
  rw [(s.health_tileGone w i).1, hhealth]
  exact hcontains

theorem State.repairs_tileGone : (i % 128, 255) ∈ (s.tileGone w i).repairs w (i / 128 % 4) := by
  obtain ⟨l, hhealth, -⟩ := s.quarterGone_health w i
  have hledger : ((s.quarterGone w i).bump Ctr.hallQuartersWithheld).ledger (1 + w) 8 =
      ((s.historyCleared i).repair w (i / 128 % 4) (i % 128) 255 1).ledger (1 + w) 8 := by
    rw [State.ledger, State.section_, State.bump_health, hhealth]
    rfl
  rw [State.tileGone_eq, State.repairs_action, State.repairs_of_ledger hledger, State.repairs_repair]
  simp

theorem State.wing_tileGone (v : Nat) : (s.tileGone w i).wing v = s.wing v := by
  have hgone : (s.quarterGone w i).wing v = s.wing v :=
    State.withholdQuarter_keeps (State.wing · v) (fun u => State.wing_of_wings (u.setSticky_wing0 163) (u.setSticky_wing1 163) v) (fun _ _ => rfl)
      ((s.historyCleared i).repair w (i / 128 % 4) (i % 128) 255 1) w (i / 128 % 4) (i % 128)
  rw [State.tileGone_eq, State.wing_action, State.wing_bump, hgone]

theorem State.tiles_tileGone : (s.tileGone w i).health.tiles = mput s.health.tiles i {} := by
  obtain ⟨l, hhealth, -⟩ := s.quarterGone_health w i
  rw [(s.health_tileGone w i).2, hhealth]
  rfl

theorem State.ctr_tileGone : (s.tileGone w i).ctr Ctr.hallQuartersWithheld = rose (s.ctr Ctr.hallQuartersWithheld) 1 := by
  have hne : (∀ b, Ctr.hallQuartersWithheld ≠ bufCtr b 1) ∧ ∀ fn, Ctr.hallQuartersWithheld ≠ Ctr.funcMsixSent fn :=
    ⟨Ctr.ident_ne_bufCtr_of_index 1 0 (by decide) (by decide) (by decide) (by decide), Ctr.ident_ne_funcMsixSent 1 0 (by decide) (by decide)⟩
  have hgone : (s.quarterGone w i).ctr Ctr.hallQuartersWithheld = s.ctr Ctr.hallQuartersWithheld :=
    State.withholdQuarter_keeps (State.ctr · Ctr.hallQuartersWithheld) (fun u => u.ctr_setStickyIn_other 0 163 hne.1 hne.2) (fun _ _ => rfl) ..
  rw [State.tileGone_eq, State.ctr_action, State.ctr_bump, hgone]

end

end

/-! ### WING_RECOVERY (R815) -/

section
variable {s : State} {w : Nat}

/-- R815: a batch of the Wing: it is at home there or runs on one of the Wing's tiles. -/
def ofWing (w id : Nat) (b : Batch) : Bool := batchHome id == w || b.place.tiles.any (fun i => tileWing i == w)

/-- R815: the state once the Wing's clock has stopped and its batches are aborted. -/
def State.wingHalted (s : State) (w : Nat) : State :=
  ({ s with time := { s.time with wingStopped := s.time.wingStopped ++ [w] } }).faultThese
    (s.allBatches.filter (fun e => e.2.sent && ofWing w e.1 e.2)) 4 true

theorem State.startRecovery_running (h : s.time.wingStopped.contains w = false) :
    s.startRecovery w = (((s.wingHalted w).setStickyIn (1 + w) 164).bump (Ctr.wingRecovery w)).action (1 + w) 5 w 0 := by
  unfold State.startRecovery
  rw [h]
  rfl

theorem State.startRecovery_stopped (h : s.time.wingStopped.contains w = true) : s.startRecovery w = s := if_pos h

theorem exec_wingRecovery (hw : w < s.wings) : Gives (.wingRecovery w) s (if s.wingFree w then s.startRecovery w else s) := by
  change execWingRecovery w s = _
  cases hfree : s.wingFree w <;> simp [execWingRecovery, hfree, hw]

theorem State.not_stopped_of_wingFree (h : s.wingFree w = true) : s.time.wingStopped.contains w = false := by
  simp only [State.wingFree, Bool.and_eq_true, Bool.not_eq_true'] at h
  exact h.1.1.1

section
variable (h : s.time.wingStopped.contains w = false)
include h

theorem State.wingStopped_startRecovery : (s.startRecovery w).time.wingStopped = s.time.wingStopped ++ [w] := by
  have htime : ((s.wingHalted w).setStickyIn (1 + w) 164).time.wingStopped = s.time.wingStopped ++ [w] := by
    rw [State.setStickyIn_time, State.wingHalted, State.wingStopped_faultThese]
  rw [State.startRecovery_running h]
  exact htime

theorem State.stickyBit_startRecovery : (s.startRecovery w).stickyBit 164 = true := by
  rw [State.startRecovery_running h]
  exact (State.stickyBit_action ..).trans (State.stickyBit_setStickyIn_self (s.wingHalted w) (1 + w) (by decide))

theorem State.ctr_startRecovery : (s.startRecovery w).ctr (Ctr.wingRecovery w) = rose (s.ctr (Ctr.wingRecovery w)) 1 := by
  rw [State.startRecovery_running h]
  refine (State.ctr_action ..).trans ((State.ctr_bump ..).trans (congrArg (rose · 1) ?_))
  refine (State.ctr_setStickyIn_other (s.wingHalted w) (1 + w) 164 (Ctr.ident_ne_bufCtr_of_index 11 w (by decide) (by decide) (by decide) (by decide))
    (Ctr.ident_ne_funcMsixSent 11 w (by decide) (by decide))).trans ?_
  exact State.ctr_faultThese _ _ _ _ (by decide) (by decide) (by decide) (by decide)

theorem State.wing_startRecovery (v : Nat) : (s.startRecovery w).wing v = (s.wingHalted w).wing v := by
  rw [State.startRecovery_running h, State.wing_action, State.wing_bump]
  exact State.wing_of_wings (State.setStickyIn_wing0 ..) (State.setStickyIn_wing1 ..) v

theorem State.abortsUncounted_startRecovery : AbortsUncounted s (s.startRecovery w) (ofWing w) := by
  refine AbortsUncounted.of_batches (t := s.wingHalted w) ?_ (State.wing_startRecovery h)
  exact State.abortsUncounted_foldl { s with time := { s.time with wingStopped := s.time.wingStopped ++ [w] } } (ofWing w) 4

end

/-- R815: whatever stopped the Wing, it is stopped once its recovery has begun, and the boot's state is as before. -/
theorem State.startRecovery_spec (s : State) (w : Nat) :
    (s.startRecovery w).time.wingStopped.contains w = true ∧ (s.startRecovery w).boot = s.boot ∧
      (s.startRecovery w).power.domainsOut = s.power.domainsOut ∧
      ∀ n, n < 256 → n ≠ 161 → s.stickyBit n = true → (s.startRecovery w).stickyBit n = true := by
  cases h : s.time.wingStopped.contains w with
  | true =>
    rw [State.startRecovery_stopped h]
    exact ⟨h, rfl, rfl, fun _ _ _ hn => hn⟩
  | false =>
    refine ⟨by rw [State.wingStopped_startRecovery h]; simp, ?_, ?_, fun n hlt h161 hn => ?_⟩
    · have hboot : ((s.wingHalted w).setStickyIn (1 + w) 164).boot = s.boot := by
        rw [State.setStickyIn_boot, State.wingHalted, State.boot_faultThese]
      rw [State.startRecovery_running h]
      exact hboot
    · have hset (u : State) (b n : Nat) : (u.setStickyIn b n).power.domainsOut = u.power.domainsOut := by
        rw [State.setStickyIn_power]
      have hfaults := State.faultThese_keeps { s with time := { s.time with wingStopped := s.time.wingStopped ++ [w] } }
        (s.allBatches.filter (fun e => e.2.sent && ofWing w e.1 e.2)) 4 true (fun u => u.power.domainsOut)
        (fun _ _ _ => by rw [State.setWing_power]) (fun _ _ => rfl) (fun _ _ => rfl) (fun _ _ _ => by rw [State.fire_power]) (fun _ _ => hset ..)
        (fun _ _ _ => by rw [State.trace_power]) (fun _ _ => rfl)
      rw [State.startRecovery_running h]
      exact (hset (s.wingHalted w) (1 + w) 164).trans hfaults
    · rw [State.startRecovery_running h]
      refine (State.stickyBit_action ..).trans ?_
      change ((s.wingHalted w).setStickyIn (1 + w) 164).stickyBit n = true
      rw [State.stickyBit_setStickyIn _ _ hlt, State.wingHalted, State.stickyBit_faultThese _ _ _ _ hlt h161]
      exact Bool.or_eq_true_iff.2 (.inl hn)

end

/-! ### REGULATOR_FAULT (R820) -/

section
variable {s : State} {d : Nat}

/-- R820: the Wing of a domain. -/
def wingOfDomain (d : Nat) : Nat := if d < 60 then d / 30 else if d < 100 then domainWing d else 0

/-- R820: the state once a domain is out of its limits, before what it supplies goes out of service. -/
def State.domainLost (s : State) (d : Nat) : State :=
  (({ s with power := { s.power with domainsOut := s.power.domainsOut ++ [d] } }).setSticky 203).action
    (if d < 100 then 1 + wingOfDomain d else 0) 6 d 0

theorem exec_regulatorFault (hfree : s.hallFree = true) (hin : s.power.domainsOut.contains d = false) (hw : wingOfDomain d < s.wings) :
    Gives (.regulatorFault d) s (if d < 60 then (s.domainLost d).loseRow (wingOfDomain d) (d / 10 % 3) (d % 10)
      else if d < 100 then (s.domainLost d).startRecovery (wingOfDomain d) else (s.domainLost d).failDevice) := by
  have hgo : (decide (s.wings ≤ wingOfDomain d) || s.power.domainsOut.contains d) = false := by
    rw [hin, Bool.or_false]
    exact decide_eq_false (Nat.not_le.2 hw)
  refine congrArg Host.Outcome.next ((State.whenFree_of_free hfree _).trans ?_)
  exact if_neg (Bool.eq_false_iff.1 hgo)

theorem exec_regulatorFault_again (hout : s.power.domainsOut.contains d = true) : Gives (.regulatorFault d) s s := by
  have hskip (t : State) : (if decide (s.wings ≤ wingOfDomain d) || s.power.domainsOut.contains d then s else t) = s :=
    if_pos (by rw [hout, Bool.or_true])
  refine congrArg Host.Outcome.next ?_
  unfold State.whenFree
  split
  · exact hskip _
  · rfl

theorem State.domainLost_spec (s : State) (d : Nat) :
    (s.domainLost d).stickyBit 203 = true ∧ (s.domainLost d).power.domainsOut = s.power.domainsOut ++ [d] ∧ (s.domainLost d).boot = s.boot ∧
      (s.domainLost d).health.tiles = s.health.tiles ∧ (s.domainLost d).hall = s.hall := by
  have hhealth := State.setSticky_health { s with power := { s.power with domainsOut := s.power.domainsOut ++ [d] } } 203
  have htiles : ({ s with power := { s.power with domainsOut := s.power.domainsOut ++ [d] } }.setSticky 203).health.tiles = s.health.tiles := by rw [hhealth]
  refine ⟨(State.stickyBit_action ..).trans (State.stickyBit_setSticky_self _ (by decide)), ?_, ?_, htiles, ?_⟩
  · exact congrArg Power.domainsOut (State.setSticky_power ..)
  · exact State.setSticky_boot ..
  · exact State.setSticky_hall ..

theorem State.position_domainLost (s : State) (d w g k : Nat) : (s.domainLost d).position w g k = s.position w g k := by
  have hrepairs : (s.domainLost d).repairs w g = s.repairs w g :=
    (State.repairs_action ..).trans (State.repairs_of_health (State.setSticky_health { s with power := { s.power with domainsOut := s.power.domainsOut ++ [d] } } 203))
  rw [State.position, hrepairs]
  rfl

/-! #### A row of tiles -/

/-- R820: the tile is due for retirement. -/
def State.markDue (s : State) (i : Nat) : State :=
  { s with health := { s.health with tiles := mput s.health.tiles i { (mget {} s.health.tiles i : TileHealth) with due := true } } }

theorem State.due_foldl_markDue (s : State) (f : Nat → Nat) (hf : ∀ a b, f a = f b → a = b) (l : List Nat) (k : Nat) :
    (mget {} (l.foldl (fun s t => s.markDue (f t)) s).health.tiles (f k) : TileHealth).due =
      ((mget {} s.health.tiles (f k) : TileHealth).due || decide (k ∈ l)) := by
  induction l generalizing s with
  | nil => simp
  | cons t l ih =>
    rw [List.foldl_cons, ih]
    by_cases h : k = t
    · subst h
      simp [State.markDue]
    · have hne : f k ≠ f t := fun hft => h (hf k t hft)
      simp [State.markDue, mget_mput_other _ _ _ hne, h]

theorem State.due_loseRow (s : State) (w g r : Nat) {k : Nat} (hk : k < 96) :
    (mget {} (s.loseRow w g r).health.tiles (512 * w + 128 * g + k) : TileHealth).due =
      ((mget {} s.health.tiles (512 * w + 128 * g + k) : TileHealth).due || decide (s.position w g k / 10 = r)) := by
  have hrow : ∀ q : Nat, (decide (10 * r ≤ q) && decide (q < 10 * r + 10)) = decide (q / 10 = r) := by
    intro q
    rw [Bool.eq_iff_iff]
    simp only [Bool.and_eq_true, decide_eq_true_eq]
    omega
  refine (State.due_foldl_markDue _ (512 * w + 128 * g + ·) (fun a b hab => by omega) _ k).trans (congrArg (_ || ·) ?_)
  rw [Bool.eq_iff_iff]
  simp only [List.mem_filter, List.mem_range, hk, hrow, decide_eq_true_eq, true_and]

theorem State.loseRow_keeps {α : Type} (f : State → α) (hhealth : ∀ (s : State) h, f { s with health := h } = f s) (s : State) (w g r : Nat) :
    f (s.loseRow w g r) = f s :=
  (foldl_keeps f _ (fun _ _ => hhealth ..) _ _).trans (hhealth ..)

/-! #### The device -/

theorem State.up_foldl_dropLane (l : List (Nat × Lane)) (s : State) (n : Nat) (h : (s.lane n).up = false ∨ n ∈ l.map (·.1)) :
    ((l.foldl (fun s e => s.dropLane e.1) s).lane n).up = false := by
  induction l generalizing s with
  | nil => exact h.resolve_right List.not_mem_nil
  | cons e l ih =>
    refine ih (s.dropLane e.1) ?_
    by_cases hn : n = e.1
    · exact .inl (by rw [hn, State.lane_dropLane])
    · refine h.imp (fun hup => by rw [State.lane_dropLane_other _ hn, hup]) fun hmem => ?_
      simpa [hn] using hmem

theorem State.failDevice_spec (s : State) :
    s.failDevice.boot.devState = 5 ∧ ∀ n, (s.failDevice.lane n).up = false := by
  refine ⟨rfl, fun n => ?_⟩
  refine State.up_foldl_dropLane _ s n ?_
  cases hup : (s.lane n).up with
  | false => exact .inl rfl
  | true =>
    refine .inr ?_
    rw [State.lane, mget_eq_mfind] at hup
    cases hfind : mfind s.hall.lanes n with
    | none => rw [hfind] at hup; exact absurd hup (by decide)
    | some x =>
      rw [hfind] at hup
      exact List.mem_map.2 ⟨(n, x), List.mem_filter.2 ⟨mem_of_mfind hfind, hup⟩, rfl⟩

theorem State.failDevice_keeps {α : Type} (f : State → α) (hlane : ∀ s n, f (State.dropLane s n) = f s) (hboot : ∀ (s : State) b, f { s with boot := b } = f s)
    (s : State) : f s.failDevice = f s :=
  (hboot ..).trans (foldl_keeps f _ (fun _ _ => hlane ..) _ s)

end

/-- R810 to R812, R815, R820, R823, R824: tiles are retired, Wings recover and domains fault. -/
theorem tilesRetireWingsFault : Claims.TilesRetireWingsFault := by
  refine ⟨fun s w i hdue _ hfree hcopy => ?_, fun s w h => exec_tileRetirement_waits (.inl h), fun s w i h => State.nextDue_lowest h,
    fun s w i h hwaits => exec_tileRetirement_waits (.inr ⟨i, h, hwaits⟩), fun s w hw => ⟨fun hstop => ?_, fun hfree => ?_⟩,
    fun s d hfree hin => ⟨fun hd hw _ => ?_, fun hlo hhi hw => ?_, fun hlo _ => ?_⟩, fun s d hout => exec_regulatorFault_again hout⟩
  · intro g
    obtain ⟨hspare, hnone⟩ := exec_tileRetirement hdue hfree hcopy
    refine ⟨fun p rest h => ⟨s.tileBacked w i p, hspare p rest h, ?_, ?_, s.stickyBit_tileBacked w i p, s.ctr_tileBacked w i p,
      (s.tiles_tileBacked w i p).1, (s.tiles_tileBacked w i p).2, fun _ => s.abortsUncounted_tileBacked w i p⟩, fun h => ?_⟩
    · rw [State.repairs_tileBacked, State.repairs_repair]
      exact find?_repair ..
    · rw [State.freeSpares_tileBacked]
      exact State.freeSpares_repair h
    · exact ⟨_, hnone h, s.stickyBit_tileGone w i, s.withheld_tileGone w i, s.repairs_tileGone w i, s.wing_tileGone w i, s.tiles_tileGone w i,
        s.ctr_tileGone w i⟩
  · have hexec := exec_wingRecovery hw
    have hfree : s.wingFree w = false := by rw [State.wingFree, hstop]; rfl
    rwa [hfree, if_neg Bool.false_ne_true] at hexec
  · have hexec := exec_wingRecovery hw
    rw [if_pos hfree] at hexec
    have hrun := State.not_stopped_of_wingFree hfree
    refine ⟨_, hexec, (State.startRecovery_spec s w).1, State.stickyBit_startRecovery hrun, State.ctr_startRecovery hrun,
      fun _ => ⟨fun v => ?_, State.abortsUncounted_startRecovery hrun⟩⟩
    rw [State.wing_startRecovery hrun]
    exact ⟨State.wing_faultThese _ _ _ _ Wing.entries (fun _ _ => rfl) (fun _ _ => rfl) v,
      State.wing_faultThese _ _ _ _ Wing.cache (fun _ _ => rfl) (fun _ _ => rfl) v⟩
  · have hwd : wingOfDomain d = d / 30 := if_pos hd
    have hexec := exec_regulatorFault hfree hin (hwd ▸ hw)
    rw [if_pos hd, hwd] at hexec
    obtain ⟨hsticky, hout, hboot, htiles, -⟩ := s.domainLost_spec d
    refine ⟨_, hexec, ?_, ?_, ?_, fun k hk => ?_⟩
    · exact (State.loseRow_keeps (State.stickyBit · 203) (fun _ _ => rfl) ..).trans hsticky
    · rw [State.loseRow_keeps (fun u => u.power.domainsOut) (fun _ _ => rfl), hout]
      simp
    · exact (State.loseRow_keeps State.boot (fun _ _ => rfl) ..).trans hboot
    · intro q i
      rw [State.due_loseRow _ _ _ _ hk, htiles, State.position_domainLost]
  · have hwd : wingOfDomain d = domainWing d := (if_neg (Nat.not_lt.2 hlo)).trans (if_pos hhi)
    have hexec := exec_regulatorFault hfree hin (hwd ▸ hw)
    rw [if_neg (Nat.not_lt.2 hlo), if_pos hhi, hwd] at hexec
    obtain ⟨hsticky, -, hboot, -⟩ := s.domainLost_spec d
    obtain ⟨hstop, hkeep, -, hbits⟩ := (s.domainLost d).startRecovery_spec (domainWing d)
    exact ⟨_, hexec, hbits 203 (by decide) (by decide) hsticky, hstop, hkeep.trans hboot⟩
  · have hwd : wingOfDomain d = 0 := (if_neg (by omega)).trans (if_neg (by omega))
    have hwings := s.wings_eq
    have hexec := exec_regulatorFault hfree hin (by omega)
    rw [if_neg (by omega), if_neg (by omega)] at hexec
    obtain ⟨hsticky, -⟩ := s.domainLost_spec d
    obtain ⟨hfailed, hdown⟩ := (s.domainLost d).failDevice_spec
    exact ⟨_, hexec, (State.failDevice_keeps (State.stickyBit · 203) (fun _ _ => rfl) (fun _ _ => rfl) _).trans hsticky, hfailed, hdown⟩

/-- R810 to R812, R815, R820: where the three commands complete. -/
theorem recoveriesComplete : Claims.RecoveriesComplete := by
  refine ⟨fun s w i hdue _ hfree hcopy => ?_, fun s w hfree hw => ?_, fun s d hfree _ hin hw => ?_⟩
  · obtain ⟨hspare, hnone⟩ := exec_tileRetirement hdue hfree hcopy
    cases h : s.freeSpares w (i / 128 % 4) with
    | nil =>
      exact ⟨_, hnone h, s.tiles_tileGone w i, fun hne => absurd rfl hne, fun _ => ⟨s.stickyBit_tileGone w i, s.withheld_tileGone w i⟩⟩
    | cons p rest =>
      refine ⟨_, hspare p rest h, (s.tiles_tileBacked w i p).1, fun _ => ⟨s.stickyBit_tileBacked w i p, ?_⟩, fun hnil => absurd hnil (List.cons_ne_nil p rest)⟩
      rw [State.repairs_tileBacked, State.repairs_repair]
      exact find?_repair ..
  · have hexec := exec_wingRecovery hw
    rw [if_pos hfree] at hexec
    have hrun := State.not_stopped_of_wingFree hfree
    exact ⟨_, hexec, State.wingStopped_startRecovery hrun, State.stickyBit_startRecovery hrun, State.ctr_startRecovery hrun⟩
  · have hexec := exec_regulatorFault hfree hin hw
    obtain ⟨hsticky, hout, -⟩ := s.domainLost_spec d
    by_cases hrow : d < 60
    · rw [if_pos hrow] at hexec
      exact ⟨_, hexec, (State.loseRow_keeps (fun u => u.power.domainsOut) (fun _ _ => rfl) ..).trans hout,
        (State.loseRow_keeps (State.stickyBit · 203) (fun _ _ => rfl) ..).trans hsticky, fun hlo => absurd hrow (Nat.not_lt.2 hlo), fun hlo => by omega⟩
    · rw [if_neg hrow] at hexec
      by_cases hwing : d < 100
      · rw [if_pos hwing] at hexec
        have hwd : wingOfDomain d = domainWing d := (if_neg hrow).trans (if_pos hwing)
        obtain ⟨hstop, -, hkeep, hbits⟩ := (s.domainLost d).startRecovery_spec (wingOfDomain d)
        exact ⟨_, hexec, hkeep.trans hout, hbits 203 (by decide) (by decide) hsticky, fun _ _ => hwd ▸ hstop, fun hlo => by omega⟩
      · rw [if_neg hwing] at hexec
        exact ⟨_, hexec, (State.failDevice_keeps (fun u => u.power.domainsOut) (fun _ _ => rfl) (fun _ _ => rfl) _).trans hout,
          (State.failDevice_keeps (State.stickyBit · 203) (fun _ _ => rfl) (fun _ _ => rfl) _).trans hsticky, fun _ hhi => absurd hhi hwing,
          fun _ => (s.domainLost d).failDevice_spec.1⟩

/-- Settles O51: the retirements, recoveries and faults, and where they complete. -/
theorem tilesAndWingsRecover : Obligations.TilesAndWingsRecover := ⟨tilesRetireWingsFault, recoveriesComplete⟩

end Sys2Proof.Machine
end

section
/-!
Proofs for the exporter (chapter 15, R553 to R578): what a refresh of a port leaves, what it makes of each class, the frame that a port
sends, and how payloads close into frames.
-/
open Sys2Proof Sys2Proof.Machine Sys2Proof.Claims

namespace Sys2Proof.Machine

/-! ### What a refresh leaves (R572) -/

/-- The scheduler's queues and ports are as before, but for which of them are awake and for their tags. -/
structure Retagged (s t : State) : Prop where
  rest : ∃ e, t = { s with exp := e }
  queue : ∀ q, ∃ a g, t.xq q = { s.xq q with awake := a, tag := g }
  port : ∀ n, ∃ a g, t.xport n = { s.xport n with awake := a, tags := g }

/-- A refresh adds no queue to those that have left their reset contents. -/
structure Refreshes (s t : State) : Prop extends Retagged s t where
  keys : t.exp.queues.map (·.1) = s.exp.queues.map (·.1)

namespace Retagged

theorem refl (s : State) : Retagged s s := ⟨⟨s.exp, rfl⟩, fun _ => ⟨_, _, rfl⟩, fun _ => ⟨_, _, rfl⟩⟩

theorem trans {s t u : State} (h : Retagged s t) (h' : Retagged t u) : Retagged s u := by
  refine ⟨?_, fun q => ?_, fun n => ?_⟩
  · obtain ⟨e, rfl⟩ := h.rest
    obtain ⟨e', rfl⟩ := h'.rest
    exact ⟨e', rfl⟩
  · obtain ⟨a, g, hq⟩ := h.queue q
    obtain ⟨a', g', hq'⟩ := h'.queue q
    exact ⟨a', g', by rw [hq', hq]⟩
  · obtain ⟨a, g, hn⟩ := h.port n
    obtain ⟨a', g', hn'⟩ := h'.port n
    exact ⟨a', g', by rw [hn', hn]⟩

section
variable {s t : State} (h : Retagged s t)
include h

/-- What does not depend on the scheduler is as before. -/
theorem keeps {α : Type} (f : State → α) (hf : ∀ (s : State) e, f { s with exp := e } = f s) : f t = f s := by
  obtain ⟨e, rfl⟩ := h.rest
  exact hf s e

theorem setting (id i e : Nat) : t.setting id i e = s.setting id i e := h.keeps (fun s => s.setting id i e) fun _ _ => rfl

theorem nt : t.nt = s.nt := h.keeps State.nt fun _ _ => rfl

theorem xqPort (q : Nat) : t.xqPort q = s.xqPort q := h.setting ..

theorem xqClass (q : Nat) : t.xqClass q = s.xqClass q := h.setting ..

theorem frames (q : Nat) : (t.xq q).frames = (s.xq q).frames := by
  obtain ⟨a, g, hq⟩ := h.queue q
  rw [hq]

theorem startVc (n c : Nat) : (t.xport n).startVc t.nt c = (s.xport n).startVc s.nt c := by
  obtain ⟨a, g, hn⟩ := h.port n
  rw [h.nt, hn]
  rfl

theorem startV (n : Nat) : (t.xport n).startV t.nt = (s.xport n).startV s.nt := by
  obtain ⟨a, g, hn⟩ := h.port n
  rw [h.nt, hn]
  rfl

theorem gateOpen (n c i : Nat) : (t.xport n).gateOpen c i = (s.xport n).gateOpen c i := by
  obtain ⟨a, g, hn⟩ := h.port n
  rw [hn]
  rfl

theorem fits (n c i k : Nat) : (t.xport n).fits c i k = (s.xport n).fits c i k := by
  obtain ⟨a, g, hn⟩ := h.port n
  rw [hn]
  rfl

theorem xqEligible (q : Nat) : t.xqEligible q = s.xqEligible q := by
  obtain ⟨a, g, hq⟩ := h.queue q
  unfold State.xqEligible
  dsimp only
  rw [h.setting, h.nt, hq]

theorem backlogged (q : Nat) : t.backlogged q = s.backlogged q := by
  unfold State.backlogged State.xqOpen
  rw [h.frames, h.xqEligible, h.nt, h.xqPort, h.xqClass, h.gateOpen]
  simp only [h.fits]

theorem xqIncr (q : Nat) : t.xqIncr q = s.xqIncr q := by
  unfold State.xqIncr
  simp only [h.frames, h.setting, h.xqPort]

end

end Retagged

theorem Refreshes.refl (s : State) : Refreshes s s := ⟨.refl s, rfl⟩

theorem Refreshes.trans {s t u : State} (h : Refreshes s t) (h' : Refreshes t u) : Refreshes s u :=
  ⟨h.toRetagged.trans h'.toRetagged, h'.keys.trans h.keys⟩

theorem Refreshes.classQueues {s t : State} (h : Refreshes s t) (port c : Nat) : t.classQueues port c = s.classQueues port c := by
  simp only [State.classQueues, h.keys, h.xqPort, h.xqClass]

@[simp] theorem State.xport_setXq (s : State) (q : Nat) (x : ExpQueue) (n : Nat) : (s.setXq q x).xport n = s.xport n := rfl

@[simp] theorem State.xq_setXport (s : State) (n : Nat) (x : ExpPort) (q : Nat) : (s.setXport n x).xq q = s.xq q := rfl

theorem State.xq_setXq_other (s : State) {q r : Nat} (x : ExpQueue) (h : r ≠ q) : (s.setXq q x).xq r = s.xq r := mget_mput_other _ _ _ h

theorem State.xport_setXport_other (s : State) {n m : Nat} (x : ExpPort) (h : m ≠ n) : (s.setXport n x).xport m = s.xport m := mget_mput_other _ _ _ h

/-- A write to an entry that stands in a table leaves the entries' numbers. -/
theorem keys_mput {α : Type} {t : Tab α} (hasc : Ascending t) {k : Nat} (hk : k ∈ t.map (·.1)) (a : α) : (mput t k a).map (·.1) = t.map (·.1) := by
  induction t with
  | nil => exact absurd hk List.not_mem_nil
  | cons x t ih =>
    obtain ⟨i, b⟩ := x
    obtain ⟨hlt, hrest⟩ := List.pairwise_cons.1 hasc
    by_cases hki : k = i
    · simp [mput, hki]
    · have hin : k ∈ t.map (·.1) := by simpa [hki] using hk
      obtain ⟨x, hx, rfl⟩ := List.mem_map.1 hin
      have hgt : i < x.1 := hlt x hx
      simp [mput, Nat.lt_asymm hgt, hki, ih hrest hin]

theorem Retagged.setXq (s : State) (q : Nat) (a : Bool) (g : Nat) : Retagged s (s.setXq q { s.xq q with awake := a, tag := g }) := by
  refine ⟨⟨_, rfl⟩, fun r => ?_, fun _ => ⟨_, _, rfl⟩⟩
  by_cases hr : r = q
  · rw [hr, State.xq_setXq]
    exact ⟨a, g, rfl⟩
  · rw [State.xq_setXq_other _ _ hr]
    exact ⟨_, _, rfl⟩

theorem Retagged.setXport (s : State) (n : Nat) (a : List Nat) (g : Tab Nat) :
    Retagged s (s.setXport n { s.xport n with awake := a, tags := g }) := by
  refine ⟨⟨_, rfl⟩, fun _ => ⟨_, _, rfl⟩, fun m => ?_⟩
  by_cases hm : m = n
  · rw [hm, State.xport_setXport]
    exact ⟨a, g, rfl⟩
  · rw [State.xport_setXport_other _ _ hm]
    exact ⟨_, _, rfl⟩

theorem Refreshes.setXq {s : State} {q : Nat} (hasc : Ascending s.exp.queues) (hq : q ∈ s.exp.queues.map (·.1)) (a : Bool) (g : Nat) :
    Refreshes s (s.setXq q { s.xq q with awake := a, tag := g }) := by
  refine ⟨.setXq s q a g, keys_mput hasc hq _⟩

theorem Refreshes.setXport (s : State) (n : Nat) (a : List Nat) (g : Tab Nat) :
    Refreshes s (s.setXport n { s.xport n with awake := a, tags := g }) := ⟨.setXport s n a g, rfl⟩

theorem Refreshes.ascending {s t : State} (h : Refreshes s t) (hasc : Ascending s.exp.queues) : Ascending t.exp.queues := by
  have hpair : (s.exp.queues.map (·.1)).Pairwise (· < ·) := List.pairwise_map.2 hasc
  exact List.pairwise_map.1 (h.keys ▸ hpair)

/-! ### The queues of a class -/

/-- R572: a queue as a refresh of its class leaves it. -/
def State.wokenQueue (s : State) (vc q : Nat) : ExpQueue :=
  if s.backlogged q = false then { s.xq q with awake := false }
  else if (s.xq q).awake then s.xq q
  else { s.xq q with awake := true, tag := tagAdd vc (s.xqIncr q) }

section
variable {s : State} {vc q : Nat}

theorem State.xq_refreshQueue (s : State) (vc q : Nat) : (s.refreshQueue vc q).xq q = s.wokenQueue vc q := by
  unfold State.refreshQueue State.wokenQueue
  cases hb : s.backlogged q <;> cases ha : (s.xq q).awake <;> simp [ha]

theorem State.xq_refreshQueue_other {r : Nat} (h : r ≠ q) : (s.refreshQueue vc q).xq r = s.xq r := by
  unfold State.refreshQueue
  dsimp only
  (repeat' split)
  · rfl
  all_goals exact State.xq_setXq_other _ _ h

theorem Refreshes.refreshQueue (hasc : Ascending s.exp.queues) (hq : q ∈ s.exp.queues.map (·.1)) : Refreshes s (s.refreshQueue vc q) := by
  unfold State.refreshQueue
  dsimp only
  (repeat' split)
  · exact .refl s
  · exact .setXq hasc hq true _
  · exact .setXq hasc hq false (s.xq q).tag

theorem Refreshes.wokenQueue {t : State} (h : Refreshes s t) (hq : t.xq q = s.xq q) : t.wokenQueue vc q = s.wokenQueue vc q := by
  rw [State.wokenQueue, h.backlogged, hq, h.xqIncr]
  rfl

/-- The queues of a list, each refreshed in turn. -/
def State.refreshQueues (s : State) (port c : Nat) (l : List Nat) : State :=
  l.foldl (fun s q => s.refreshQueue ((s.xport port).startVc s.nt c) q) s

theorem State.ports_refreshQueues (s : State) (port c : Nat) (l : List Nat) : (s.refreshQueues port c l).exp.ports = s.exp.ports :=
  foldl_keeps (fun t => t.exp.ports) _ (fun _ _ => State.refreshQueue_keeps (fun t => t.exp.ports) (fun _ _ _ => rfl) ..) l s

theorem State.refreshQueues_spec {port c : Nat} {l : List Nat} (hasc : Ascending s.exp.queues) (hnodup : l.Nodup) (hin : ∀ q ∈ l, q ∈ s.exp.queues.map (·.1)) :
    Refreshes s (s.refreshQueues port c l) ∧
      ∀ q, (s.refreshQueues port c l).xq q = if q ∈ l then s.wokenQueue ((s.xport port).startVc s.nt c) q else s.xq q := by
  induction l generalizing s with
  | nil => exact ⟨.refl s, fun q => by rw [if_neg List.not_mem_nil]; rfl⟩
  | cons r l ih =>
    obtain ⟨hr, hl⟩ := List.nodup_cons.1 hnodup
    have hone : Refreshes s (s.refreshQueue ((s.xport port).startVc s.nt c) r) := .refreshQueue hasc (hin r List.mem_cons_self)
    obtain ⟨hrest, hxq⟩ := ih (hone.ascending hasc) hl (fun q hq => hone.keys ▸ hin q (List.mem_cons_of_mem r hq))
    refine ⟨hone.trans hrest, fun q => (hxq q).trans ?_⟩
    by_cases hqr : q = r
    · rw [if_neg (hqr ▸ hr), if_pos (hqr ▸ List.mem_cons_self), hqr, State.xq_refreshQueue]
    · rw [hone.startVc, State.xq_refreshQueue_other hqr, hone.wokenQueue (State.xq_refreshQueue_other hqr)]
      simp [hqr]

theorem State.classQueues_nodup (hasc : Ascending s.exp.queues) (port c : Nat) : (s.classQueues port c).Nodup := by
  have hpair : (s.exp.queues.map (·.1)).Pairwise (· < ·) := List.pairwise_map.2 hasc
  exact (hpair.imp Nat.ne_of_lt).filter _

theorem State.mem_classQueues {port c : Nat} : q ∈ s.classQueues port c ↔ q ∈ s.exp.queues.map (·.1) ∧ s.xqPort q = port ∧ s.xqClass q = c := by
  simp only [State.classQueues, List.mem_filter, Bool.and_eq_true, beq_iff_eq]

end

/-! ### The classes of a port -/

theorem leastTag_isSome (tag : Nat → Nat) (l : List Nat) : (leastTag tag l).isSome = !l.isEmpty := by
  cases l with
  | nil => rfl
  | cons u l =>
    unfold leastTag
    cases leastTag tag l with
    | none => rfl
    | some v => dsimp only; split <;> rfl

theorem leastTag_congr {tag tag' : Nat → Nat} {l : List Nat} (h : ∀ v ∈ l, tag v = tag' v) : leastTag tag l = leastTag tag' l ∧ ∀ v, leastTag tag l = some v → v ∈ l := by
  induction l with
  | nil => exact ⟨rfl, fun v hv => by simp [leastTag] at hv⟩
  | cons u l ih =>
    obtain ⟨heq, hmem⟩ := ih fun v hv => h v (List.mem_cons_of_mem u hv)
    have hu := h u List.mem_cons_self
    unfold leastTag
    rw [← heq]
    cases hl : leastTag tag l with
    | none => exact ⟨rfl, fun v hv => by simp_all⟩
    | some w =>
      have hw := hmem w hl
      dsimp only
      rw [hu, h w (List.mem_cons_of_mem u hw)]
      refine ⟨rfl, fun v hv => ?_⟩
      split at hv
      · exact Option.some.inj hv ▸ List.mem_cons_of_mem u hw
      · exact Option.some.inj hv ▸ List.mem_cons_self

/-- R572: what `Woken` says of class `c`. -/
def ClassWoken (s t : State) (port c : Nat) : Prop :=
  (∀ q ∈ s.classQueues port c, t.xq q = s.wokenQueue ((s.xport port).startVc s.nt c) q) ∧
    ((t.xport port).awake.contains c = true ↔ ∃ q ∈ s.classQueues port c, s.backlogged q = true) ∧
    ((s.xport port).awake.contains c = false → (t.xport port).awake.contains c = true →
      mget 0 (t.xport port).tags c = tagAdd ((s.xport port).startV s.nt) (t.classIncr port c))

/-- The class and its queues stand in `t` as in `s`. -/
def ClassSame (s t : State) (port c : Nat) : Prop :=
  (∀ q ∈ s.classQueues port c, t.xq q = s.xq q) ∧
    (t.xport port).awake.contains c = (s.xport port).awake.contains c ∧ mget 0 (t.xport port).tags c = mget 0 (s.xport port).tags c

section
variable {s t u : State} {port c d : Nat}

theorem ClassSame.refl (s : State) (port c : Nat) : ClassSame s s port c := ⟨fun _ _ => rfl, rfl, rfl⟩

theorem ClassSame.trans (hst : Refreshes s t) (h : ClassSame s t port c) (h' : ClassSame t u port c) : ClassSame s u port c := by
  obtain ⟨hq, ha, hg⟩ := h
  obtain ⟨hq', ha', hg'⟩ := h'
  exact ⟨fun q hin => (hq' q ((hst.classQueues port c).symm ▸ hin)).trans (hq q hin), ha'.trans ha, hg'.trans hg⟩

theorem Refreshes.classHead (h : Refreshes s t) (hq : ∀ q ∈ s.classQueues port c, t.xq q = s.xq q) : t.classHead port c = s.classHead port c := by
  have hfilter : (t.classQueues port c).filter (fun q => (t.xq q).awake) = (s.classQueues port c).filter (fun q => (s.xq q).awake) := by
    rw [h.classQueues]
    exact List.filter_congr fun q hin => by rw [hq q hin]
  rw [State.classHead, hfilter]
  exact (leastTag_congr fun q hin => by rw [hq q (List.mem_filter.1 hin).1]).1

theorem Refreshes.classIncr (h : Refreshes s t) (hq : ∀ q ∈ s.classQueues port c, t.xq q = s.xq q) : t.classIncr port c = s.classIncr port c := by
  unfold State.classIncr
  rw [h.classHead hq]
  simp only [h.frames, h.setting]

/-- A class that has been refreshed stays so while its queues and its place at the port stay. -/
theorem ClassWoken.after (hst : Refreshes s t) (htu : Refreshes t u) (h : ClassWoken s t port c) (h' : ClassSame t u port c) : ClassWoken s u port c := by
  obtain ⟨hq, ha, hg⟩ := h
  obtain ⟨hq', ha', hg'⟩ := h'
  refine ⟨fun q hin => (hq' q ((hst.classQueues port c).symm ▸ hin)).trans (hq q hin), ha' ▸ ha, fun hs hu => ?_⟩
  rw [hg', hg hs (ha' ▸ hu), htu.classIncr hq']

/-- A class that stands as before is refreshed as from the start. -/
theorem ClassWoken.before (hst : Refreshes s t) (h : ClassSame s t port c) (h' : ClassWoken t u port c) : ClassWoken s u port c := by
  obtain ⟨hq, ha, -⟩ := h
  obtain ⟨hq', ha', hg'⟩ := h'
  rw [hst.classQueues] at hq' ha'
  refine ⟨fun q hin => ?_, ?_, fun hs hu => ?_⟩
  · rw [hq' q hin, hst.startVc, hst.wokenQueue (hq q hin)]
  · simpa only [hst.backlogged] using ha'
  · rw [hg' (ha ▸ hs) hu, hst.startV]

/-- The state once a class's queues have been refreshed. -/
def State.queuesWoken (s : State) (port c : Nat) : State := s.refreshQueues port c (s.classQueues port c)

theorem State.queuesWoken_spec (hasc : Ascending s.exp.queues) (port c : Nat) :
    Refreshes s (s.queuesWoken port c) ∧ ∀ q, (s.queuesWoken port c).xq q =
      if q ∈ s.classQueues port c then s.wokenQueue ((s.xport port).startVc s.nt c) q else s.xq q :=
  State.refreshQueues_spec hasc (State.classQueues_nodup hasc port c) fun _ hq => (State.mem_classQueues.1 hq).1

theorem State.xport_queuesWoken (s : State) (port c n : Nat) : (s.queuesWoken port c).xport n = s.xport n := by
  rw [State.xport, State.queuesWoken, State.ports_refreshQueues]
  rfl

theorem State.awake_wokenQueue (s : State) (vc q : Nat) : (s.wokenQueue vc q).awake = s.backlogged q := by
  unfold State.wokenQueue
  cases hb : s.backlogged q <;> cases ha : (s.xq q).awake <;> simp [ha]

/-- R572: a class has a queue to send from exactly when one of its queues is backlogged. -/
theorem State.classHead_queuesWoken (hasc : Ascending s.exp.queues) :
    ((s.queuesWoken port c).classHead port c).isSome = true ↔ ∃ q ∈ s.classQueues port c, s.backlogged q = true := by
  obtain ⟨hsame, hxq⟩ := State.queuesWoken_spec hasc port c
  rw [State.classHead, leastTag_isSome, Bool.not_eq_true', ← Bool.not_eq_true, List.isEmpty_iff, List.filter_eq_nil_iff, hsame.classQueues]
  simp only [not_forall, Bool.not_eq_true, Bool.not_eq_false, exists_prop]
  refine exists_congr fun q => and_congr_right fun hin => ?_
  rw [hxq, if_pos hin, State.awake_wokenQueue]

theorem State.refreshClass_eq (s : State) (port c : Nat) :
    s.refreshClass port c =
      if ((s.queuesWoken port c).classHead port c).isSome then
        if (s.xport port).awake.contains c then s.queuesWoken port c
        else (s.queuesWoken port c).setXport port { (s.queuesWoken port c).xport port with
          awake := c :: (s.xport port).awake
          tags := mput (s.xport port).tags c (tagAdd ((s.xport port).startV s.nt) ((s.queuesWoken port c).classIncr port c)) }
      else (s.queuesWoken port c).setXport port { (s.queuesWoken port c).xport port with
        awake := (s.xport port).awake.filter (fun d => d != c), tags := (s.xport port).tags } := by
  have hport := s.xport_queuesWoken port c port
  have hnt : (s.queuesWoken port c).nt = s.nt :=
    foldl_keeps State.nt _ (fun _ _ => State.refreshQueue_keeps State.nt (fun _ _ _ => rfl) ..) _ s
  rw [hport, ← hnt]
  have hfold : (s.classQueues port c).foldl (fun s q => s.refreshQueue ((s.xport port).startVc s.nt c) q) s = s.queuesWoken port c := rfl
  unfold State.refreshClass
  dsimp only
  rw [hfold, hport]

theorem Refreshes.refreshClass (hasc : Ascending s.exp.queues) (port c : Nat) : Refreshes s (s.refreshClass port c) := by
  obtain ⟨hsame, -⟩ := State.queuesWoken_spec hasc port c
  rw [State.refreshClass_eq]
  (repeat' split)
  · exact hsame
  · exact hsame.trans (.setXport ..)
  · exact hsame.trans (.setXport ..)

theorem State.xq_refreshClass (s : State) (port c q : Nat) : (s.refreshClass port c).xq q = (s.queuesWoken port c).xq q := by
  rw [State.refreshClass_eq]
  (repeat' split) <;> rfl

/-- R572: a refresh of a class makes of it what `Woken` says. -/
theorem State.classWoken_refreshClass (hasc : Ascending s.exp.queues) (port c : Nat) : ClassWoken s (s.refreshClass port c) port c := by
  obtain ⟨hsame, hxq⟩ := State.queuesWoken_spec hasc port c
  have hhead := State.classHead_queuesWoken (port := port) (c := c) hasc
  refine ⟨fun q hin => by rw [State.xq_refreshClass, hxq, if_pos hin], ?_, ?_⟩
  · rw [← hhead, State.refreshClass_eq]
    split
    · next hsome =>
      split
      · next hawake => rw [State.xport_queuesWoken, hawake]; simp [hsome]
      · rw [State.xport_setXport]; simp [hsome]
    · next hnone =>
      rw [State.xport_setXport]
      simp [hnone]
  · intro hasleep
    have hincr : (s.refreshClass port c).classIncr port c = (s.queuesWoken port c).classIncr port c := by
      have hafter : Refreshes (s.queuesWoken port c) (s.refreshClass port c) := by
        rw [State.refreshClass_eq]
        (repeat' split)
        · exact .refl _
        · exact .setXport ..
        · exact .setXport ..
      exact hafter.classIncr fun _ _ => State.xq_refreshClass ..
    rw [hincr, State.refreshClass_eq, hasleep]
    split
    · rw [if_neg Bool.false_ne_true, State.xport_setXport]
      exact fun _ => mget_mput_same ..
    · rw [State.xport_setXport]
      intro hin
      simp at hin

/-- R572: a refresh of one class leaves the others. -/
theorem State.classSame_refreshClass (hasc : Ascending s.exp.queues) (hd : d ≠ c) : ClassSame s (s.refreshClass port c) port d := by
  obtain ⟨-, hxq⟩ := State.queuesWoken_spec hasc port c
  refine ⟨fun q hin => ?_, ?_, ?_⟩
  · rw [State.xq_refreshClass, hxq, if_neg]
    intro hother
    exact hd ((State.mem_classQueues.1 hin).2.2.symm.trans (State.mem_classQueues.1 hother).2.2)
  · rw [State.refreshClass_eq]
    (repeat' split)
    · rw [State.xport_queuesWoken]
    · rw [State.xport_setXport]; simp [hd]
    · rw [State.xport_setXport]
      simp [List.contains_eq_mem, hd]
  · rw [State.refreshClass_eq]
    (repeat' split)
    · rw [State.xport_queuesWoken]
    · rw [State.xport_setXport]
      exact mget_mput_other _ _ _ hd
    · rw [State.xport_setXport]

/-- The classes of a list, each refreshed in turn. -/
def State.refreshClasses (s : State) (port : Nat) (l : List Nat) : State := l.foldl (fun s c => s.refreshClass port c) s

theorem State.refreshClasses_spec {l : List Nat} (hasc : Ascending s.exp.queues) (hnodup : l.Nodup) (port : Nat) :
    Refreshes s (s.refreshClasses port l) ∧
      ∀ d, (d ∈ l → ClassWoken s (s.refreshClasses port l) port d) ∧ (d ∉ l → ClassSame s (s.refreshClasses port l) port d) := by
  induction l generalizing s with
  | nil => exact ⟨.refl s, fun d => ⟨fun h => absurd h List.not_mem_nil, fun _ => .refl s port d⟩⟩
  | cons c l ih =>
    obtain ⟨hc, hl⟩ := List.nodup_cons.1 hnodup
    have hone := Refreshes.refreshClass hasc port c
    obtain ⟨hrest, hclasses⟩ := ih (hone.ascending hasc) hl
    refine ⟨hone.trans hrest, fun d => ⟨fun hin => ?_, fun hnot => ?_⟩⟩
    · rcases List.mem_cons.1 hin with rfl | hin
      · exact (State.classWoken_refreshClass hasc port d).after hone hrest ((hclasses d).2 hc)
      · have hd : d ≠ c := fun hdc => hc (hdc ▸ hin)
        exact ClassWoken.before hone (State.classSame_refreshClass hasc hd) ((hclasses d).1 hin)
    · have hd : d ≠ c := fun hdc => hnot (hdc ▸ List.mem_cons_self)
      exact ClassSame.trans hone (State.classSame_refreshClass hasc hd) ((hclasses d).2 fun hin => hnot (List.mem_cons_of_mem c hin))

/-- R572: a refresh wakes every class of the port. -/
theorem State.woken_refreshPort (hasc : Ascending s.exp.queues) (port : Nat) : Woken s (s.refreshPort port) port := by
  obtain ⟨-, hclasses⟩ := State.refreshClasses_spec (l := [0, 1, 2, 3, 4, 5, 6, 7]) hasc (by decide) port
  exact fun c hc => (hclasses c).1 (by simp; omega)

end

end Sys2Proof.Machine
end

section
/-!
Proofs for the exporter, second part: the frame that a port sends (R554, R572 to R576), and the least tag (R573).
-/
open Sys2Proof Sys2Proof.Machine Sys2Proof.Claims

namespace Sys2Proof.Machine

/-! ### The frame that a port sends (R554, R572, R575) -/

theorem Retagged.refreshQueue (s : State) (vc q : Nat) : Retagged s (s.refreshQueue vc q) := by
  unfold State.refreshQueue
  dsimp only
  (repeat' split)
  · exact .refl s
  · exact .setXq s q true _
  · exact .setXq s q false (s.xq q).tag

theorem Retagged.foldl {β : Type} {f : State → β → State} (h : ∀ s b, Retagged s (f s b)) (l : List β) (s : State) : Retagged s (l.foldl f s) := by
  induction l generalizing s with
  | nil => exact .refl s
  | cons b l ih => exact (h s b).trans (ih (f s b))

theorem Retagged.refreshClass (s : State) (port c : Nat) : Retagged s (s.refreshClass port c) := by
  have hqueues : Retagged s (s.queuesWoken port c) := Retagged.foldl (fun s q => .refreshQueue s _ q) _ s
  rw [State.refreshClass_eq]
  (repeat' split)
  · exact hqueues
  · exact hqueues.trans (.setXport ..)
  · exact hqueues.trans (.setXport ..)

theorem Retagged.refreshPort (s : State) (port : Nat) : Retagged s (s.refreshPort port) :=
  Retagged.foldl (fun s c => .refreshClass s port c) _ s

/-- The state as the tags of the next selection find it: the virtual times have taken the tags of class `c` and queue `q`, and the
queue's head frame has left. -/
def State.frameSent (s : State) (port c q : Nat) (f : ExpFrame) (rest : List ExpFrame) : State :=
  let x := s.xport port
  (s.setXport port { x with v := mget 0 x.tags c, vc := mput x.vc c (s.xq q).tag, former := some ⟨s.nt, x.v, x.vc⟩ }).dequeue port q f rest

section
variable {s : State} {port c q : Nat} {f : ExpFrame} {rest : List ExpFrame}

theorem State.exp_dequeue : (s.dequeue port q f rest).exp = (s.setXq q { s.xq q with
    frames := rest
    elig := if s.settingAt s.nt 0x4006 q 0 = 0 then (s.xq q).elig
      else eligAfter s.nt f.len (s.settingAt s.nt 0x3004 port 0) (s.settingAt s.nt 0x4006 q 0) }).exp := by
  unfold State.dequeue
  dsimp only
  rw [State.bumpN_exp, State.bump_exp, State.emit_exp, State.setLane_exp]

theorem State.xq_frameSent : (s.frameSent port c q f rest).xq q = { s.xq q with
    frames := rest
    elig := if s.settingAt s.nt 0x4006 q 0 = 0 then (s.xq q).elig
      else eligAfter s.nt f.len (s.settingAt s.nt 0x3004 port 0) (s.settingAt s.nt 0x4006 q 0) } := State.xq_setXq ..

theorem State.xq_frameSent_other {r : Nat} (h : r ≠ q) : (s.frameSent port c q f rest).xq r = s.xq r := State.xq_setXq_other _ _ h

theorem State.xport_frameSent : ((s.frameSent port c q f rest).xport port).v = mget 0 (s.xport port).tags c ∧
    mget 0 ((s.frameSent port c q f rest).xport port).vc c = (s.xq q).tag := by
  have hport (t : State) : (t.dequeue port q f rest).xport port = t.xport port := by
    rw [State.xport, State.exp_dequeue]
    rfl
  unfold State.frameSent
  rw [hport, State.xport_setXport]
  dsimp only
  exact ⟨rfl, mget_mput_same ..⟩

theorem State.out_frameSent : (s.frameSent port c q f rest).out = s.out ++ [.laneFrame port f.data] := by
  unfold State.frameSent State.dequeue
  simp only [State.bumpN_out, State.bump_out, State.emit_out, State.setLane_out, State.setXq_out, State.setXport_out]

theorem State.lane_frameSent : ((s.frameSent port c q f rest).lane port).egressFree = s.nt + wireNt (8 + f.len + 12) :=
  congrArg Lane.egressFree (State.lane_setLane ..)

theorem State.lane_frameSent_other {n : Nat} (h : n ≠ port) : (s.frameSent port c q f rest).lane n = s.lane n := State.lane_setLane_other _ _ h

/-- R572: what the tags are after a frame has left. -/
theorem State.afterSend_spec (s : State) (port c q : Nat) :
    Retagged s (s.afterSend port c q) ∧
      (s.afterSend port c q).xq q = (if s.backlogged q then { s.xq q with tag := tagAdd (s.xq q).tag (s.xqIncr q) } else { s.xq q with awake := false }) ∧
      ∀ r, r ≠ q → (s.afterSend port c q).xq r = s.xq r := by
  have hqueue (t : State) (h : Retagged s t) : Retagged s
      (if (t.classHead port c).isSome then
        t.setXport port { t.xport port with tags := mput (t.xport port).tags c (tagAdd (mget 0 (t.xport port).tags c) (t.classIncr port c)) }
      else t.setXport port { t.xport port with awake := (t.xport port).awake.filter (fun d => d != c) }) := by
    split
    · exact h.trans (.setXport t port (t.xport port).awake _)
    · exact h.trans (.setXport t port _ (t.xport port).tags)
  have hxq (t : State) (r : Nat) :
      (if (t.classHead port c).isSome then
        t.setXport port { t.xport port with tags := mput (t.xport port).tags c (tagAdd (mget 0 (t.xport port).tags c) (t.classIncr port c)) }
      else t.setXport port { t.xport port with awake := (t.xport port).awake.filter (fun d => d != c) }).xq r = t.xq r := by
    split <;> rfl
  unfold State.afterSend
  dsimp only
  by_cases hb : s.backlogged q = true
  · simp only [if_pos hb]
    refine ⟨hqueue _ (.setXq s q (s.xq q).awake _), (hxq ..).trans (State.xq_setXq ..), fun r hr => ?_⟩
    exact (hxq ..).trans (State.xq_setXq_other _ _ hr)
  · simp only [if_neg hb]
    refine ⟨hqueue _ (.setXq s q false (s.xq q).tag), (hxq ..).trans (State.xq_setXq ..), fun r hr => ?_⟩
    exact (hxq ..).trans (State.xq_setXq_other _ _ hr)

theorem exec_exportFrame (hturn : s.exportTurn port = true) (hfree : s.hallFree = true) (hc : (s.refreshPort port).pickClass port = some c)
    (hq : (s.refreshPort port).classHead port c = some q) (hf : ((s.refreshPort port).xq q).frames = f :: rest) :
    Gives (.exportFrame port) s (((s.refreshPort port).frameSent port c q f rest).afterSend port c q) := by
  change execExportFrame port s = _
  unfold execExportFrame
  simp only [hturn, hfree, hc, hq, hf, Bool.not_true, Bool.or_self, Bool.false_eq_true, ↓reduceIte]
  rfl

theorem exec_exportFrame_idle (h : s.exportTurn port = false ∨ s.hallFree = false) : Gives (.exportFrame port) s s := by
  change execExportFrame port s = _
  unfold execExportFrame
  rcases h with h | h <;> simp [h]

/-- R554, R572, R573, R575: the port sends the head frame of the selected queue. -/
theorem exportFrame_sends (hturn : s.exportTurn port = true) (hfree : s.hallFree = true) (hc : (s.refreshPort port).pickClass port = some c)
    (hq : (s.refreshPort port).classHead port c = some q) (hf : ((s.refreshPort port).xq q).frames = f :: rest) :
    let u := s.refreshPort port
    ∃ t : State, Gives (.exportFrame port) s t ∧ t.out = s.out ++ [.laneFrame port f.data] ∧ (t.xq q).frames = rest ∧
      (t.xport port).v = mget 0 (u.xport port).tags c ∧ mget 0 (t.xport port).vc c = (u.xq q).tag ∧
      (t.lane port).egressFree = s.nt + wireNt (8 + f.len + 12) ∧
      (t.backlogged q = true → (t.xq q).tag = tagAdd (u.xq q).tag (t.xqIncr q)) ∧ (t.backlogged q = false → (t.xq q).awake = false) ∧
      (t.xq q).elig = (if s.settingAt s.nt 0x4006 q 0 = 0 then (s.xq q).elig
        else eligAfter s.nt f.len (s.settingAt s.nt 0x3004 port 0) (s.settingAt s.nt 0x4006 q 0)) ∧
      (∀ r, r ≠ q → t.xq r = u.xq r) ∧ (∀ n, n ≠ port → t.lane n = s.lane n) := by
  intro u
  have hu : Retagged s u := .refreshPort s port
  have hlanes (n : Nat) : u.lane n = s.lane n := hu.keeps (fun t => t.lane n) fun _ _ => rfl
  have hsetting (e id i : Nat) : u.settingAt e id i 0 = s.settingAt e id i 0 := hu.keeps (fun t => t.settingAt e id i 0) fun _ _ => rfl
  have helig : (u.xq q).elig = (s.xq q).elig := by
    obtain ⟨a, g, hxq⟩ := hu.queue q
    rw [hxq]
  have hexec := exec_exportFrame hturn hfree hc hq hf
  obtain ⟨hv, hvc⟩ := State.xport_frameSent (s := u) (port := port) (c := c) (q := q) (f := f) (rest := rest)
  have hvout := State.out_frameSent (s := u) (port := port) (c := c) (q := q) (f := f) (rest := rest)
  have hvq := State.xq_frameSent (s := u) (port := port) (c := c) (q := q) (f := f) (rest := rest)
  have hvother (r : Nat) (hr : r ≠ q) := State.xq_frameSent_other (s := u) (port := port) (c := c) (f := f) (rest := rest) hr
  have hvlane := State.lane_frameSent (s := u) (port := port) (c := c) (q := q) (f := f) (rest := rest)
  have hvlanes (n : Nat) (hn : n ≠ port) := State.lane_frameSent_other (s := u) (c := c) (q := q) (f := f) (rest := rest) hn
  change Gives _ s ((u.frameSent port c q f rest).afterSend port c q) at hexec
  generalize u.frameSent port c q f rest = v at hexec hv hvc hvout hvq hvother hvlane hvlanes
  obtain ⟨hsent, hxq, hother⟩ := State.afterSend_spec v port c q
  generalize v.afterSend port c q = t at hexec hsent hxq hother
  obtain ⟨a, g, hport⟩ := hsent.port port
  have hlane (n : Nat) : t.lane n = v.lane n := hsent.keeps (fun t => t.lane n) fun _ _ => rfl
  refine ⟨t, hexec, ?_, ?_, ?_, ?_, ?_, ?_, ?_, ?_, fun r hr => ?_, fun n hn => ?_⟩
  · rw [hsent.keeps State.out fun _ _ => rfl, hvout, hu.keeps State.out fun _ _ => rfl]
  · rw [hsent.frames, hvq]
  · rw [hport, hv]
  · rw [hport, hvc]
  · rw [hlane, hvlane, hu.nt]
  · intro hb
    rw [hsent.backlogged] at hb
    rw [hxq, if_pos hb, hsent.xqIncr, hvq]
  · intro hb
    rw [hsent.backlogged] at hb
    rw [hxq, if_neg (by simp [hb])]
  · have hkept : (t.xq q).elig = (v.xq q).elig := by
      rw [hxq]
      split <;> rfl
    rw [hkept, hvq, hu.nt, hsetting, hsetting, helig]
  · rw [hother r hr, hvother r hr]
  · rw [hlane, hvlanes n hn, hlanes]

theorem exec_shaperEligible (hq : s.xqEligible q = true) (hfree : s.hallFree = true) : Gives (.shaperEligible q) s (s.refreshPort (s.xqPort q)) := by
  change execShaperEligible q s = _
  simp [execShaperEligible, hq, hfree]

theorem exec_gateEntryChange (hgates : (s.xport port).gates ≠ none) (hfree : s.hallFree = true) : Gives (.gateEntryChange port) s (s.refreshPort port) := by
  change execGateEntryChange port s = _
  simp [execGateEntryChange, Option.isSome_iff_ne_none.2 hgates, hfree]

end

/-! ### The least tag (R573) and the slots of eligible times (R576) -/

/-- R573: a tag's distance from `base` around the number circle. -/
def tagAge (base t : Nat) : Nat := (t + 18446744073709551616 - base) % 18446744073709551616

theorem tagLt_iff {base a b : Nat} (hbase : base < 18446744073709551616) (ha : a < 18446744073709551616) (hb : b < 18446744073709551616)
    (ha' : tagAge base a < 9223372036854775808) (hb' : tagAge base b < 9223372036854775808) :
    tagLt a b = true ↔ tagAge base a < tagAge base b := by
  unfold tagAge at *
  simp only [tagLt, Bool.and_eq_true, decide_eq_true_eq]
  omega

/-- R573: of tags within half the number circle the first one that none precedes is chosen. -/
theorem leastTag_first {tag : Nat → Nat} {base u : Nat} {l : List Nat}
    (hl : ∀ v ∈ l, tag v < 18446744073709551616 ∧ tagAge base (tag v) < 9223372036854775808)
    (hbase : base < 18446744073709551616) (hu : leastTag tag l = some u) :
    ∃ a b, l = a ++ u :: b ∧ (∀ v ∈ a, tagLt (tag u) (tag v) = true) ∧ (∀ v ∈ b, tagLt (tag v) (tag u) = false) := by
  induction l generalizing u with
  | nil => exact absurd hu nofun
  | cons w l ih =>
    have hlt {v v' : Nat} (hv : v ∈ w :: l) (hv' : v' ∈ w :: l) : tagLt (tag v) (tag v') = true ↔ tagAge base (tag v) < tagAge base (tag v') :=
      tagLt_iff hbase (hl v hv).1 (hl v' hv').1 (hl v hv).2 (hl v' hv').2
    have hw : w ∈ w :: l := List.mem_cons_self
    unfold leastTag at hu
    cases hrest : leastTag tag l with
    | none =>
      rw [hrest] at hu
      obtain rfl : w = u := Option.some.inj hu
      have hnil : l = [] := by
        have := leastTag_isSome tag l
        rw [hrest] at this
        simpa using this.symm
      exact ⟨[], l, rfl, nofun, hnil ▸ nofun⟩
    | some v =>
      obtain ⟨a, b, rfl, ha, hb⟩ := ih (fun x hx => hl x (List.mem_cons_of_mem w hx)) hrest
      rw [hrest] at hu
      dsimp only at hu
      split at hu
      · next hvw =>
        obtain rfl : v = u := Option.some.inj hu
        exact ⟨w :: a, b, rfl, List.forall_mem_cons.2 ⟨hvw, ha⟩, hb⟩
      · next hvw =>
        obtain rfl : w = u := Option.some.inj hu
        refine ⟨[], _, rfl, nofun, fun x hx => ?_⟩
        have hx' := List.mem_cons_of_mem w hx
        have hv : v ∈ w :: (a ++ v :: b) := by simp
        rw [hlt hv hw] at hvw
        rw [← Bool.not_eq_true, hlt hx' hw]
        rcases List.mem_append.1 hx with hxa | hxb
        · have := (hlt hv hx').1 (ha x hxa)
          omega
        · rcases List.mem_cons.1 hxb with rfl | hxb
          · exact hvw
          · have := mt (hlt hx' hv).2 (by simp [hb x hxb])
            omega

theorem slotStart_spec (e : Nat) : slotStart e % 128 = 0 ∧ e ≤ slotStart e * 65536 ∧ slotStart e * 65536 < e + 8388608 := by
  unfold slotStart
  omega

theorem exportFramesAreSelected : ExportFramesAreSelected := by
  refine ⟨fun s port c q f rest hturn hfree => ?_, fun s port h => exec_exportFrame_idle h,
    fun s q hasc hq hfree => ⟨_, exec_shaperEligible hq hfree, State.woken_refreshPort hasc _⟩,
    fun s port hasc hgates hfree => ⟨_, exec_gateEntryChange hgates hfree, State.woken_refreshPort hasc _⟩,
    fun tag base u l hl hbase hu => leastTag_first hl hbase hu, fun e => slotStart_spec e⟩
  intro u hc hq hf
  exact exportFrame_sends hturn hfree hc hq hf

end Sys2Proof.Machine
end

section
/-!
Proofs for the exporter, third part: how payloads close into frames (R557, R570, R571), and the layout of a frame (Table 15-1).
-/
open Sys2Proof Sys2Proof.Machine Sys2Proof.Claims

namespace Sys2Proof.Machine

/-! ### Payloads close into frames (R570, R571) -/

section
variable {s : State} {q : Nat}

/-- The queue without its open payload of `n` items, which begins with `i`. -/
def ExpQueue.closed (x : ExpQueue) (i : ExpItem) (n : Nat) : ExpQueue :=
  { x with
    open_ := []
    seq := (x.seq + 1) % 4294967296
    domSeq := if 256 ≤ i.type then mput x.domSeq i.partition ((mget 0 x.domSeq i.partition + n) % 4294967296) else x.domSeq }

/-- The frame of a queue's open payload. -/
def State.openFrame (s : State) (q : Nat) : ExpFrame := { data := s.exportFrame q (s.payload (s.xq q) (s.xq q).open_), nt := s.nt }

/-- R571: a frame fits its queue's limit and the buffer of the exporter. -/
abbrev State.FrameFits (s : State) (q : Nat) (f : ExpFrame) : Prop := (s.xq q).bytes + f.len ≤ s.setting 0x4007 q 0 ∧ s.exportBytes + f.len ≤ 33554432

theorem State.closePayload_of_empty (h : (s.xq q).open_ = []) : s.closePayload q = s := by
  unfold State.closePayload
  dsimp only
  rw [h]

theorem State.closePayload_eq {i : ExpItem} {l : List ExpItem} (h : (s.xq q).open_ = i :: l) :
    s.closePayload q =
      let n := (s.xq q).open_.length
      let t := s.bumpN (Ctr.queueItems q) n
      if s.FrameFits q (s.openFrame q) then
        (t.setXq q { (s.xq q).closed i n with frames := (s.xq q).frames ++ [s.openFrame q] }).refreshPort (s.xqPort q)
      else ((t.setXq q ((s.xq q).closed i n)).bump (Ctr.queueDroppedFrames q)).bumpN (Ctr.queueDroppedItems q) n := by
  unfold State.closePayload
  dsimp only
  rw [h]
  have hframe : s.openFrame q = { data := s.exportFrame q (s.payload (s.xq q) (i :: l)), nt := s.nt } := by rw [State.openFrame, h]
  rw [hframe]
  rfl

theorem State.ctr_bumpN_rose (s : State) (id : Nat) {n : Nat} (h : n ≠ 0) : (s.bumpN id n).ctr id = rose (s.ctr id) n := by
  rw [State.ctr_bumpN, rose, if_neg h, satAdd]
  split <;> omega

theorem State.ctr_refreshPort (s : State) (port k : Nat) : (s.refreshPort port).ctr k = s.ctr k :=
  State.refreshPort_keeps (fun t => t.ctr k) (fun _ _ _ => rfl) (fun _ _ _ => rfl) s port

/-- R571: an open payload closes: the queue `y` that it leaves, and the items that it counts. -/
theorem State.closing_spec (s : State) (q : Nat) (y : ExpQueue) {n : Nat} (hn : n ≠ 0) :
    let u := (s.bumpN (Ctr.queueItems q) n).setXq q y
    u.xq q = y ∧ ∀ k, u.ctr k = if k = Ctr.queueItems q then rose (s.ctr k) n else s.ctr k := by
  refine ⟨State.xq_setXq .., fun k => ?_⟩
  have hctr : ((s.bumpN (Ctr.queueItems q) n).setXq q y).ctr k = (s.bumpN (Ctr.queueItems q) n).ctr k := rfl
  by_cases hk : k = Ctr.queueItems q
  · rw [hctr, if_pos hk, hk, State.ctr_bumpN_rose _ _ hn]
  · rw [hctr, if_neg hk, State.ctr_bumpN_other _ _ hk]

/-- R571: what a closed payload leaves of its queue and of its counters. -/
theorem State.closePayload_spec {x : ExpQueue} (hx : s.xq q = x) (hopen : x.open_ ≠ []) :
    let t := s.closePayload q
    let n := x.open_.length
    (t.xq q).open_ = [] ∧ (t.xq q).seq = (x.seq + 1) % 4294967296 ∧ t.ctr (Ctr.queueItems q) = rose (s.ctr (Ctr.queueItems q)) n ∧
      t.tiles = s.tiles ∧
      (s.FrameFits q (s.openFrame q) → (t.xq q).frames = x.frames ++ [s.openFrame q] ∧
        t.ctr (Ctr.queueDroppedFrames q) = s.ctr (Ctr.queueDroppedFrames q)) ∧
      (¬ s.FrameFits q (s.openFrame q) → (t.xq q).frames = x.frames ∧
        t.ctr (Ctr.queueDroppedFrames q) = rose (s.ctr (Ctr.queueDroppedFrames q)) 1 ∧
        t.ctr (Ctr.queueDroppedItems q) = rose (s.ctr (Ctr.queueDroppedItems q)) n) := by
  obtain ⟨i, l, hil⟩ := List.exists_cons_of_ne_nil hopen
  have hn : x.open_.length ≠ 0 := by simp [hil]
  have h32 : Ctr.queueDroppedFrames q ≠ Ctr.queueItems q := Ctr.ident_ne_of_low (by decide) (by decide) (by decide)
  have h42 : Ctr.queueDroppedItems q ≠ Ctr.queueItems q := Ctr.ident_ne_of_low (by decide) (by decide) (by decide)
  have h43 : Ctr.queueDroppedItems q ≠ Ctr.queueDroppedFrames q := Ctr.ident_ne_of_low (by decide) (by decide) (by decide)
  have htiles : (s.closePayload q).tiles = s.tiles :=
    State.closePayload_keeps State.tiles (fun _ _ _ => rfl) (fun _ _ _ => rfl) (fun _ _ _ _ => rfl) s
  subst hx
  have heq := State.closePayload_eq hil
  dsimp only at heq ⊢
  by_cases hfits : s.FrameFits q (s.openFrame q)
  · rw [if_pos hfits] at heq
    obtain ⟨hxq, hctr⟩ := s.closing_spec q { (s.xq q).closed i (s.xq q).open_.length with frames := (s.xq q).frames ++ [s.openFrame q] } hn
    generalize (s.bumpN (Ctr.queueItems q) (s.xq q).open_.length).setXq q _ = u at heq hxq hctr
    obtain ⟨a, g, hqueue⟩ := (Retagged.refreshPort u (s.xqPort q)).queue q
    rw [heq] at htiles ⊢
    rw [hqueue, hxq, State.ctr_refreshPort, State.ctr_refreshPort, hctr, if_pos rfl, hctr, if_neg h32]
    exact ⟨rfl, rfl, rfl, htiles, fun _ => ⟨rfl, rfl⟩, fun h => absurd hfits h⟩
  · rw [if_neg hfits] at heq
    obtain ⟨hxq, hctr⟩ := s.closing_spec q ((s.xq q).closed i (s.xq q).open_.length) hn
    generalize (s.bumpN (Ctr.queueItems q) (s.xq q).open_.length).setXq q _ = u at heq hxq hctr
    have hqueue : ((u.bump (Ctr.queueDroppedFrames q)).bumpN (Ctr.queueDroppedItems q) (s.xq q).open_.length).xq q = u.xq q := rfl
    rw [heq] at htiles ⊢
    rw [hqueue, hxq, State.ctr_bumpN_other _ _ h42.symm, State.ctr_bump_other _ h32.symm, hctr, if_pos rfl, State.ctr_bumpN_other _ _ h43.symm,
      State.ctr_bump, hctr, if_neg h32, State.ctr_bumpN_rose _ _ hn, State.ctr_bump_other _ h43, hctr, if_neg h42]
    exact ⟨rfl, rfl, rfl, htiles, fun h => absurd h hfits, fun _ => ⟨rfl, rfl, rfl⟩⟩

/-- R570: an item that fits joins the open payload. -/
theorem State.appendItem_fits {i : ExpItem} (h : s.itemFits (s.xq q) i = true) : ((s.appendItem q i).xq q).open_ = (s.xq q).open_ ++ [i] := by
  unfold State.appendItem
  dsimp only
  rw [if_pos h]
  split
  · next hempty =>
    rw [State.xq_setXq, List.isEmpty_iff.1 hempty]
    rfl
  · rw [State.xq_setXq]

/-- R570: an item that does not fit closes the open payload and opens the next one. -/
theorem State.appendItem_opens {i : ExpItem} (h : s.itemFits (s.xq q) i = false) :
    ((s.appendItem q i).xq q).open_ = [i] ∧ ((s.appendItem q i).xq q).seq = ((s.xq q).seq + 1) % 4294967296 := by
  have hopen : (s.xq q).open_ ≠ [] := by
    intro hnil
    simp [State.itemFits, hnil] at h
  obtain ⟨hclosed, hseq, -⟩ := State.closePayload_spec rfl hopen
  unfold State.appendItem
  dsimp only
  rw [if_neg (c := s.itemFits (s.xq q) i = true) (by simp [h]), if_pos (by rw [hclosed]; rfl), State.xq_setXq]
  exact ⟨rfl, hseq⟩

theorem exec_payloadClose (hfree : s.hallFree = true) (hopen : (s.xq q).open_ ≠ []) : Gives (.payloadClose q) s
    (if 255 ≤ (s.xq q).open_.length ∨ (s.xq q).openNt + s.setting 0x4008 q 0 * us ≤ s.nt then s.closePayload q else s) := by
  change execPayloadClose q s = _
  unfold execPayloadClose
  simp [hfree, hopen]

end

/-! ### The layout of a frame (Table 15-1) -/

/-- The part that begins where the parts before it end. -/
theorem slice_flatten (front : List Bytes) (part : Bytes) (back : List Bytes) {off len : Nat} (hoff : front.flatten.length = off) (hlen : part.length = len) :
    slice (front ++ part :: back).flatten off len = part := by
  subst hoff hlen
  rw [List.flatten_append, List.flatten_cons, slice_append_of_le (Nat.le_refl _), Nat.sub_self, slice]
  simp

theorem beNat_reverse (b : Bytes) : beNat b.reverse = leNat b := by
  rw [beNat, List.foldl_reverse]
  induction b with
  | nil => rfl
  | cons x b ih => rw [List.foldr_cons, ih, leNat]; omega

theorem beNat_beBytes (w n : Nat) : beNat (beBytes w n) = n % 256 ^ w := by
  rw [beBytes, beNat_reverse, leNat_leBytes]

/-- Table 15-1: the parts of a frame in their order, from the destination address to the UDP checksum. -/
def State.frameHeader (s : State) (q : Nat) (length sum : Nat) : List Bytes :=
  let port := s.xqPort q
  [leBytes 6 (s.setting 0x3001 port 0), s.srcMac port, beBytes 2 0x86DD, beBytes 4 (6 * 268435456 + s.setting 0x4009 q 0 * 1048576),
    beBytes 2 (8 + length), beBytes 1 17, beBytes 1 (s.setting 0x3003 port 0), leBytes 16 (s.setting 0x3002 port 0),
    leBytes 16 (s.setting 0x400A q 0), beBytes 2 (s.setting 0x400C q 0), beBytes 2 (s.setting 0x400B q 0), beBytes 2 (8 + length), beBytes 2 sum]

theorem State.exportFrame_eq (s : State) (q : Nat) (b : Bytes) : ∃ sum, s.exportFrame q b = (s.frameHeader q b.length sum).flatten ++ b := by
  refine ⟨udpChecksum (leBytes 16 (s.setting 0x3002 (s.xqPort q) 0)) (leBytes 16 (s.setting 0x400A q 0))
    (beBytes 2 (s.setting 0x400C q 0) ++ beBytes 2 (s.setting 0x400B q 0) ++ beBytes 2 (8 + b.length) ++ beBytes 2 0 ++ b), ?_⟩
  simp only [State.exportFrame, State.frameHeader, List.flatten_cons, List.flatten_nil, List.append_assoc, List.nil_append]

theorem length_frameHeader (s : State) (q n sum : Nat) : (s.frameHeader q n sum).flatten.length = 62 := by
  simp [State.frameHeader, length_leBytes, length_beBytes, State.srcMac]

/-- Each part of the header stands behind the parts before it. -/
theorem slice_frameHeader {s : State} {q sum : Nat} {b : Bytes} (k : Nat) {off : Nat}
    (hoff : ((s.frameHeader q b.length sum).take k).flatten.length = off) {part : Bytes} {len : Nat}
    (hpart : (s.frameHeader q b.length sum)[k]? = some part) (hlen : part.length = len) :
    slice ((s.frameHeader q b.length sum).flatten ++ b) off len = part := by
  obtain ⟨hlt, hget⟩ := List.getElem?_eq_some_iff.1 hpart
  have hsplit : (s.frameHeader q b.length sum).flatten ++ b =
      ((s.frameHeader q b.length sum).take k ++ part :: ((s.frameHeader q b.length sum).drop (k + 1) ++ [b])).flatten := by
    conv_lhs => rw [← List.take_append_drop k (s.frameHeader q b.length sum), List.drop_eq_getElem_cons hlt, hget]
    simp
  rw [hsplit]
  exact slice_flatten _ _ _ hoff hlen

theorem exportFrame_layout (s : State) (q : Nat) (b : Bytes) :
    let g := s.exportFrame q b
    g.length = 62 + b.length ∧ g.drop 62 = b ∧ slice g 0 6 = leBytes 6 (s.setting 0x3001 (s.xqPort q) 0) ∧
    slice g 6 6 = s.srcMac (s.xqPort q) ∧ beAt g 12 2 = 0x86DD ∧ beAt g 18 2 = (8 + b.length) % 65536 ∧ beAt g 20 1 = 17 ∧
    beAt g 21 1 = s.setting 0x3003 (s.xqPort q) 0 % 256 ∧ slice g 22 16 = leBytes 16 (s.setting 0x3002 (s.xqPort q) 0) ∧
    slice g 38 16 = leBytes 16 (s.setting 0x400A q 0) ∧ beAt g 54 2 = s.setting 0x400C q 0 % 65536 ∧
    beAt g 56 2 = s.setting 0x400B q 0 % 65536 := by
  obtain ⟨sum, hg⟩ := s.exportFrame_eq q b
  have hlength := length_frameHeader s q b.length sum
  have hslice (k : Nat) {off len : Nat} {part : Bytes} (hoff : ((s.frameHeader q b.length sum).take k).flatten.length = off)
      (hpart : (s.frameHeader q b.length sum)[k]? = some part) (hlen : part.length = len) :=
    slice_frameHeader k hoff hpart hlen
  intro g
  rw [show g = (s.frameHeader q b.length sum).flatten ++ b from hg]
  have hoff (k : Nat) : ((s.frameHeader q b.length sum).take k).flatten.length = ([6, 6, 2, 4, 2, 1, 1, 16, 16, 2, 2, 2, 2].take k).sum := by
    rw [List.length_flatten, List.map_take]
    simp [State.frameHeader, length_leBytes, length_beBytes, State.srcMac]
  refine ⟨by rw [List.length_append, hlength], by rw [← hlength, List.drop_left], hslice 0 (hoff 0) rfl (length_leBytes ..),
    hslice 1 (hoff 1) rfl (length_beBytes ..), ?_, ?_, ?_, ?_, hslice 7 (hoff 7) rfl (length_leBytes ..),
    hslice 8 (hoff 8) rfl (length_leBytes ..), ?_, ?_⟩
  · exact (congrArg beNat (hslice 2 (hoff 2) rfl (length_beBytes ..))).trans (beNat_beBytes ..)
  · exact (congrArg beNat (hslice 4 (hoff 4) rfl (length_beBytes ..))).trans (beNat_beBytes ..)
  · exact (congrArg beNat (hslice 5 (hoff 5) rfl (length_beBytes ..))).trans (beNat_beBytes ..)
  · exact (congrArg beNat (hslice 6 (hoff 6) rfl (length_beBytes ..))).trans (beNat_beBytes ..)
  · exact (congrArg beNat (hslice 9 (hoff 9) rfl (length_beBytes ..))).trans (beNat_beBytes ..)
  · exact (congrArg beNat (hslice 10 (hoff 10) rfl (length_beBytes ..))).trans (beNat_beBytes ..)

theorem payloadsCloseIntoFrames : PayloadsCloseIntoFrames := by
  refine ⟨fun s q i => ⟨State.appendItem_fits, State.appendItem_opens⟩, fun s q hfree hopen _ => ?_, exportFrame_layout⟩
  intro x f
  refine ⟨fun hshort hearly => ?_, fun hdue => ⟨s.closePayload q, ?_, ?_⟩⟩
  · refine (exec_payloadClose hfree hopen).trans ?_
    rw [if_neg (by simp only [us]; dsimp only [x] at hshort hearly; omega)]
  · refine (exec_payloadClose hfree hopen).trans ?_
    rw [if_pos (by simp only [us]; exact hdue)]
  · exact State.closePayload_spec rfl hopen

/-- Settles O32: `exportFramesAreSelected` gives the frames that a port selects and sends, `payloadsCloseIntoFrames` how payloads become frames. -/
theorem exportFrames : Obligations.ExportFrames := ⟨exportFramesAreSelected, payloadsCloseIntoFrames⟩

end Sys2Proof.Machine
end

section
/-!
Proofs for the way of a packet from its lookup to READY (chapter 07): where its input state comes from, how it is delivered, and what a squash
discards.
-/
open Sys2Proof Sys2Proof.Machine Sys2Proof.Claims

namespace Sys2Proof.Machine

/-! ### Blocks (R199, R285, R295) -/

theorem mustInit_iff {b : Bytes} {handle gen epoch reset : Nat} : mustInit b handle gen epoch reset = true ↔ StartsFresh b handle gen epoch reset := by
  simp [mustInit, StartsFresh, or_assoc]

theorem leAt_lt (b : Bytes) (off w : Nat) : leAt b off w < 256 ^ w :=
  (leNat_lt _).trans_le (Nat.pow_le_pow_right (by decide) (List.length_take_le ..))

/-- The fields of a new header, in their order. -/
theorem newHeader_eq (img : Image) (h : Bytes) (epoch handle gen t n hist : Nat) : ∃ back : Bytes, back.length = 48 ∧
    newHeader img h epoch handle gen t n hist = leBytes 4 handle ++ (leBytes 2 epoch ++ (leBytes 1 gen ++ (leBytes 1 1 ++
      (leBytes 4 (satAdd 4294967295 (leAt h 8 4) 1) ++ (leBytes 4 hist ++ back))))) := by
  unfold newHeader
  simp only [List.append_assoc]
  refine ⟨_, ?_, rfl⟩
  simp [length_leBytes, length_zeroBytes]

/-- A new state that keeps its input's history words and data counts one packet more and stands valid. -/
theorem newHeader_block (img : Image) (b : Bytes) (epoch handle gen t n : Nat) :
    let nb := newHeader img b epoch handle gen t n (leAt b 0xC 4) ++ b.drop 64
    nb.drop 64 = b.drop 64 ∧ leAt nb 0xC 4 = leAt b 0xC 4 ∧ leAt nb 8 4 = satAdd 4294967295 (leAt b 8 4) 1 ∧ bitOf (leAt nb 7 1) 0 = true := by
  obtain ⟨back, hback, heq⟩ := newHeader_eq img b epoch handle gen t n (leAt b 0xC 4)
  have hlength : (newHeader img b epoch handle gen t n (leAt b 0xC 4)).length = 64 := by simp [heq, hback, length_leBytes]
  have hcount : satAdd 4294967295 (leAt b 8 4) 1 < 256 ^ 4 := by unfold satAdd; split <;> omega
  intro nb
  refine ⟨by rw [← hlength]; exact List.drop_left, ?_, ?_, ?_⟩
  all_goals
    simp only [nb, heq, List.append_assoc]
  · simpa [leAt_leBytes_append_of_le] using leAt_leBytes_append (leAt_lt b 12 4) (back ++ b.drop 64)
  · simpa [leAt_leBytes_append_of_le] using leAt_leBytes_append hcount _
  · simp [leAt_leBytes_append_of_le, leAt_leBytes_append, bitOf]

/-! ### The delivery of an input state -/

theorem not_any_stateful (l : List StageCfg) : (!l.any (fun g => g.kind == .stateful)) = l.all (fun g => g.kind != .stateful) :=
  List.not_any_eq_all_not ..

/-- R275, R295, R296, R894: what a delivered input state leaves of the packet's entry. -/
theorem State.deliverState_delivers {s u : State} {w i : Nat} {x : Stair} {img : Image} {cfg : SlotCfg} (hx : (u.wing w).stair i = some x) (hparts : u.parts = s.parts)
    (hnt : u.nt = s.nt) (hmodel : s.modelOf x.pkt = some (img, cfg)) (b : Bytes) (source : Nat) (from_ : Option Nat) :
    Delivered s (u.deliverState w x b source from_) w i x img cfg b source := by
  have hpart := State.partOf_of_parts hparts x.pkt.partition
  have hmodel' : u.modelOf x.pkt = some (img, cfg) := by
    rw [← hmodel]
    simp only [State.modelOf, State.imageOf, hpart]
  have hfresh := mustInit_iff (b := b) (handle := x.handle) (gen := x.gen) (epoch := x.pkt.epoch) (reset := (s.partOf x.pkt.partition).resetNow s.nt)
  unfold State.deliverState
  rw [hmodel']
  dsimp only
  rw [hpart, hnt]
  refine ⟨_, _, State.stair_setStair hx (index_of_stair hx : x.index = i), rfl, rfl, rfl, rfl, rfl, rfl, fun h => if_pos (hfresh.2 h),
    fun h => if_neg fun hinit => h (hfresh.1 hinit), ?_, fun hall => ?_⟩
  · dsimp only
    rw [not_any_stateful]
  · have hnone : cfg.main.any (fun g => g.kind == .stateful) = false := by rw [← not_any_stateful] at hall; simpa using hall
    dsimp only
    rw [hnone, if_neg Bool.false_ne_true]
    exact ⟨_, rfl, newHeader_block ..⟩

/-! ### The hot-state cache (R306) -/

theorem length_evict (room n : Nat) (cs : List Nat) (free : Nat) : (evict room n cs free).1.length ≤ max room (cs.length - n) := by
  induction n generalizing cs free with
  | zero => exact le_max_of_le_right (Nat.le_of_eq rfl)
  | succ n ih =>
    unfold evict
    split
    · next h => exact le_max_of_le_left h
    · next h =>
      refine (ih ..).trans ?_
      have hlt : Config.freeNat free % max 1 cs.length < cs.length := by
        rw [max_eq_right (by omega)]
        exact Nat.mod_lt _ (by omega)
      rw [List.length_eraseIdx_of_lt hlt]
      omega

/-- R306: the blocks of a partition that stay in the cache of a Wing when a block of handle `h` comes. -/
def State.cacheStays (s : State) (w p h : Nat) : List Nat :=
  let cs := (mget [] (s.wing w).cache p).filter (fun c => c != h)
  (evict (s.cacheRoom w p - 1) cs.length cs s.free).1

theorem State.length_cacheStays (s : State) (w p h : Nat) : (s.cacheStays w p h).length ≤ s.cacheRoom w p - 1 := by
  refine (length_evict ..).trans ?_
  omega

theorem State.cache_cacheAdd {s : State} {w p : Nat} (hroom : 0 < s.cacheRoom w p) (h : Nat) :
    mget [] ((s.cacheAdd w p h).wing w).cache p = s.cacheStays w p h ++ [h] := by
  refine (congrArg (fun x : Wing => mget [] x.cache p) (State.wing_setWing s _)).trans ((mget_mput_same ..).trans ?_)
  exact if_neg (Nat.ne_of_gt hroom)

/-! ### INPUT_STATE -/

section
variable {s : State} {w i : Nat} {x : Stair}

theorem State.unitMissing_of_not_paired (h : s.paired = false) (p w stamp unit : Nat) : s.unitMissing p w stamp unit = false := by
  rw [State.unitMissing, State.isStandby_of_not_paired h, Bool.false_and]

/-- INPUT_STATE of an entry in WAIT_STATE, outside a pair. -/
theorem exec_inputState (h : StairReady s w i x .waitState) : Gives (.inputState w i false none) s
    (match x.choice with
      | none => s
      | some .cache => s.readState w x true false none
      | some .larder => s.readState w x false false none
      | some (.forwarded id) =>
        match x.forward, (s.wing w).stairOf id with
        | some b, _ => s.deliverState w x b 1 (some id)
        | none, some y =>
          match y.newState with
          | some b => if y.released then s.deliverState w x b 1 (some id) else s
          | none => s
        | none, none => s) := by
  obtain ⟨-, hx, hfree, hpair, hst, hsq, hab, -⟩ := h
  change execInputState w i false none s = _
  unfold execInputState
  simp only [hx, hst, hsq, hab, hfree, State.unitMissing_of_not_paired hpair, ne_eq, not_true_eq_false, Bool.false_eq_true, or_self, if_false] <;> rfl

/-- R271: what a packet's producer makes of its choice, outside a standby. -/
theorem State.choose_eq (hstandby : s.isStandby = false) :
    s.choose w x = match (s.wing w).producer x.handle x.gen (s.wing w).stairs.length x.pred with
      | .wait _ => none
      | .none_ => some (if (mget [] (s.wing w).cache x.pkt.partition).contains x.handle then .cache else .larder)
      | .from_ z => some (.forwarded z.pkt.id) := by
  unfold State.choose State.cutOff
  simp only [hstandby, Bool.false_and, Bool.false_eq_true, if_false] <;> rfl

theorem inputStateChosen : InputStateChosen := by
  refine ⟨fun s w x hstandby => ?_, fun s w i x img cfg hready hmodel => ?_⟩
  · intro prod
    have hchoose := State.choose_eq (w := w) (x := x) hstandby
    rw [show (s.wing w).producer x.handle x.gen (s.wing w).stairs.length x.pred = prod from rfl] at hchoose
    refine ⟨fun y hp => ?_, fun y hp => ?_, fun hp hin => ?_, fun hp hin => ?_⟩
    · rw [hchoose, hp]
    · rw [hchoose, hp]
    · rw [hchoose, hp, hin]; rfl
    · rw [hchoose, hp, hin]; rfl
  · have hexec := exec_inputState hready
    have hx : (s.wing w).stair i = some x := hready.2.1
    refine ⟨fun hc => ?_, fun id y b hc hf hy hb hr => ?_, fun id y hc hf hy hnot => ?_, fun id b hc hf => ?_, fun hc => ?_, fun hc hgood hroom => ?_⟩
    · simpa only [hc] using hexec
    · simp only [hc, hf, hy, hb, hr, if_true] at hexec
      exact ⟨_, hexec, State.deliverState_delivers hx rfl rfl hmodel ..⟩
    · simp only [hc, hf, hy] at hexec
      rcases hnot with hn | hr
      · simpa only [hn] using hexec
      · cases hb : y.newState with
        | none => simpa only [hb] using hexec
        | some b => simpa only [hb, hr, Bool.false_eq_true, if_false] using hexec
    · simp only [hc, hf] at hexec
      exact ⟨_, hexec, State.deliverState_delivers hx rfl rfl hmodel ..⟩
    · simp only [hc] at hexec
      exact ⟨_, hexec, State.deliverState_delivers hx rfl rfl hmodel ..⟩
    · simp only [hc] at hexec
      have hread : s.readState w x false false none =
          (s.cacheAdd w x.pkt.partition x.handle).deliverState w x (s.readBlock x.pkt.partition x.handle) 3 none := by
        unfold State.readState
        simp [hgood]
      rw [hread] at hexec
      have hstair : ((s.cacheAdd w x.pkt.partition x.handle).wing w).stair i = some x :=
        (State.cacheAdd_keeps (Wing.stair · i) (fun _ _ => rfl) ..).trans hx
      have hcache : (((s.cacheAdd w x.pkt.partition x.handle).deliverState w x (s.readBlock x.pkt.partition x.handle) 3 none).wing w).cache =
          ((s.cacheAdd w x.pkt.partition x.handle).wing w).cache := by
        unfold State.deliverState
        split
        · rfl
        · exact State.setStair_keeps Wing.cache (fun _ _ => rfl) ..
      have hparts : (s.cacheAdd w x.pkt.partition x.handle).parts = s.parts := State.setWing_parts ..
      have htime : (s.cacheAdd w x.pkt.partition x.handle).time = s.time := State.setWing_time ..
      have hlength := s.length_cacheStays w x.pkt.partition x.handle
      refine ⟨_, hexec, State.deliverState_delivers hstair hparts (by rw [State.nt, htime]; rfl) hmodel .., ?_, ?_⟩
      · rw [hcache, State.cache_cacheAdd hroom]
        simp
      · rw [hcache, State.cache_cacheAdd hroom, List.length_append, List.length_singleton]
        omega

/-! ### Squashes and readiness (R276, R277, R280) -/

/-- R277: what the cascade of the squash of packet `id` makes of an entry. -/
def Stair.cascaded (id : Nat) (y : Stair) : Stair :=
  if y.from_ = some id ∧ y.squash = none ∧ y.state ≠ .squashed then { y with squash := some 5 }
  else if y.state = .waitState ∧ y.choice = some (.forwarded id) then { y with choice := none }
  else y

theorem Stair.index_cascaded (id : Nat) (y : Stair) : (y.cascaded id).index = y.index := by
  unfold Stair.cascaded
  (repeat' split) <;> rfl

theorem Wing.stair_cascade (x : Wing) (id i : Nat) : (x.cascade id).stair i = (x.stair i).map (Stair.cascaded id) :=
  Wing.stair_map (fun y => y.index_cascaded id) i

theorem Wing.mem_cascade {x : Wing} {z : Stair} (hz : z ∈ x.stairs) (id : Nat) : z.cascaded id ∈ (x.cascade id).stairs := List.mem_map_of_mem hz

theorem Wing.mem_setStair {x : Wing} {z : Stair} (hz : z ∈ x.stairs) {y : Stair} (h : z.index ≠ y.index) : z ∈ (x.setStair y).stairs :=
  List.mem_map.2 ⟨z, hz, if_neg h⟩

/-- The entry that a squash leaves. -/
def Stair.squashedAt (x : Stair) (nt : Nat) : Stair := { x.discarded nt with state := .squashed, lookup := 3 }

/-- A squash that is counted and traced. -/
def State.squashNoted (s : State) (w : Nat) (x : Stair) (cause : Nat) : State :=
  if cause = 3 ∨ cause = 4 then (s.countSquash w x cause).fire 4 [1 + w] else s.countSquash w x cause

theorem State.squashNoted_wing (s : State) (w : Nat) (x : Stair) (cause v : Nat) : (s.squashNoted w x cause).wing v = s.wing v := by
  have hcount : (s.countSquash w x cause).wing v = s.wing v := State.wing_of_wings (State.trace_wing0 ..) (State.trace_wing1 ..) v
  unfold State.squashNoted
  split
  · exact (State.wing_of_storage (State.storage_fire ..) v).trans hcount
  · exact hcount

theorem exec_squash {cause : Nat} (hx : (s.wing w).stair i = some x) (hfree : s.wingFree w = true) (hsq : x.squash = some cause) (hst : x.state ≠ .squashed)
    (hab : x.abandoned = false) : Gives (.squash w i) s
    (((s.squashNoted w x cause).setWing w (((s.wing w).setStair (x.squashedAt (s.squashNoted w x cause).nt)).cascade x.pkt.id)).dropLocks w x.pkt.id) := by
  change execSquash w i s = _
  rw [← State.squashNoted_wing s w x cause w]
  unfold execSquash
  have hst' : (x.state == .squashed) = false := by simpa using hst
  simp only [hx, hsq, hfree, hst', hab, Bool.not_true, Bool.or_self, Bool.false_eq_true, if_false]
  rfl

/-- R276, R277: what a squash leaves of the Wing's entries. -/
theorem squash_leaves {cause : Nat} (hx : (s.wing w).stair i = some x) (hfree : s.wingFree w = true) (hsq : x.squash = some cause) (hst : x.state ≠ .squashed)
    (hab : x.abandoned = false) :
    ∃ (t : State) (y : Stair), Gives (.squash w i) s t ∧ (t.wing w).stair i = some y ∧ y.state = .squashed ∧ y.squash = none ∧
      y.pkt = x.pkt ∧ y.pred = x.pred ∧ y.input = none ∧ y.newState = none ∧ y.verdict = none ∧ y.token = x.pkt.token ∧
      (∀ z ∈ (s.wing w).stairs, z.index ≠ i → z.cascaded x.pkt.id ∈ (t.wing w).stairs) ∧
      (∀ h, t.entryAt h = s.entryAt h) ∧ (t.wing w).regions = (s.wing w).regions := by
  have hi : x.index = i := index_of_stair hx
  refine ⟨_, (x.squashedAt (s.squashNoted w x cause).nt).cascaded x.pkt.id, exec_squash hx hfree hsq hst hab, ?_⟩
  have hcascaded (nt : Nat) : (x.squashedAt nt).cascaded x.pkt.id = x.squashedAt nt :=
    (if_neg fun h => h.2.2 rfl).trans (if_neg fun h => nomatch h.1)
  rw [hcascaded]
  have hnoted := State.squashNoted_wing s w x cause
  generalize s.squashNoted w x cause = u at hnoted
  have hwings (v : Nat) : ((u.setWing w (((s.wing w).setStair (x.squashedAt u.nt)).cascade x.pkt.id)).dropLocks w x.pkt.id).wing v =
      (u.setWing w (((s.wing w).setStair (x.squashedAt u.nt)).cascade x.pkt.id)).wing v := rfl
  have hkeep {α : Type} (f : Wing → α) (hf : ∀ y l, f { y with stairs := l } = f y) (v : Nat) :
      f (((u.setWing w (((s.wing w).setStair (x.squashedAt u.nt)).cascade x.pkt.id)).dropLocks w x.pkt.id).wing v) = f (s.wing v) := by
    rw [hwings, ← hnoted v]
    refine State.setWing_keeps f ?_ v
    rw [hnoted w]
    exact (hf ..).trans (hf ..)
  refine ⟨?_, rfl, rfl, rfl, rfl, rfl, rfl, rfl, rfl, fun z hz hzi => ?_, fun h => ?_, hkeep Wing.regions (fun _ _ => rfl) w⟩
  · rw [hwings, State.wing_setWing, Wing.stair_cascade]
    have hstair : ((s.wing w).setStair (x.squashedAt u.nt)).stair i = some (x.squashedAt u.nt) := Wing.stair_setStair hx hi
    rw [hstair, Option.map_some, hcascaded]
  · rw [hwings, State.wing_setWing]
    exact Wing.mem_cascade (Wing.mem_setStair hz (by rw [show (x.squashedAt u.nt).index = i from hi]; exact hzi)) _
  · exact State.entryAt_of_table (funext fun v => hkeep Wing.table (fun _ _ => rfl) v) h

theorem exec_squashDiscardComplete (hx : (s.wing w).stair i = some x) (hfree : s.wingFree w = true) (hst : x.state = .squashed) :
    Gives (.squashDiscardComplete w i) s (s.setStair w { x with state := .admitted, handle := 0, gen := 0, since := s.nt }) := by
  change execSquashDiscardComplete w i s = _
  simp only [execSquashDiscardComplete, hx, hst, hfree, and_self, if_true]

theorem exec_readyToCommit {img : Image} {cfg : SlotCfg} (hx : (s.wing w).stair i = some x) (hfree : s.wingFree w = true)
    (hmodel : s.modelOf x.pkt = some (img, cfg)) (hsq : x.squash = none) (hbatch : x.batch = none) (hv : x.verdict.isSome = true)
    (hdone : (x.state = .step ∧ cfg.main.length ≤ x.stage ∧ x.released = true) ∨ (x.state = .noFlow ∧ cfg.noFlow.length ≤ x.stage)) :
    Gives (.readyToCommit w i) s (s.setStair w { x with state := .ready }) := by
  change execReadyToCommit w i s = _
  unfold execReadyToCommit
  rcases hdone with ⟨hst, hstage, hrel⟩ | ⟨hst, hstage⟩
  · simp [hx, hmodel, hsq, hbatch, hv, hst, hrel, hfree, Stair.stages, hstage]
  · simp [hx, hmodel, hsq, hbatch, hv, hst, hfree, Stair.stages, hstage]

theorem squashAndReady : SquashAndReady := by
  refine ⟨fun s w i cause x _ hx hfree hsq hst hab _ => ?_, fun s w i x _ hx hfree hst => ?_,
    fun s w i x img cfg _ hx hfree hmodel hsq hbatch hv hdone => exec_readyToCommit hx hfree hmodel hsq hbatch hv hdone⟩
  · obtain ⟨t, y, hexec, hy, hstate, hnone, hpkt, hpred, hinput, hnew, hverdict, htoken, hothers, hentries, hregions⟩ :=
      squash_leaves hx hfree hsq hst hab
    refine ⟨t, y, hexec, hy, hstate, hnone, hpkt, hpred, hinput, hnew, hverdict, htoken, fun z hz hzi hfrom hzsq hzst => ?_,
      fun z hz hzi hfrom hzst hzc => ?_, fun z hz hzi hfrom hz' => ?_, hentries, hregions⟩
    · exact (if_pos ⟨hfrom, hzsq, hzst⟩ : z.cascaded x.pkt.id = _) ▸ hothers z hz hzi
    · exact ((if_neg fun h => hfrom h.1).trans (if_pos ⟨hzst, hzc⟩) : z.cascaded x.pkt.id = _) ▸ hothers z hz hzi
    · exact ((if_neg fun h => hfrom h.1).trans (if_neg hz') : z.cascaded x.pkt.id = _) ▸ hothers z hz hzi
  · exact ⟨_, _, exec_squashDiscardComplete hx hfree hst, State.stair_setStair hx (index_of_stair hx : x.index = i), rfl, rfl, rfl⟩

end

/-- Settles O16: the sources and the delivery of an input state, what a squash leaves of the Wing's entries, and readiness. -/
theorem stairsWaitAndSquash : Obligations.StairsWaitAndSquash := ⟨inputStateChosen, squashAndReady⟩

end Sys2Proof.Machine
end

section
/-!
The rules about tiles (chapter 08): what the tiles hold after a write to one, and what the completion of a word leaves: memories, arrays, tables,
tokens and DRAM.
-/
open Sys2Proof Sys2Proof.Machine Sys2Proof.Claims

namespace Sys2Proof.Machine

/-! ### Tiles and arrays -/

section
variable (s : State) {i j : Nat}

@[simp] theorem State.tile_modTile (i : Nat) (f : Tile → Tile) : (s.modTile i f).tile i = f (s.tile i) := State.tile_setTile ..

theorem State.tile_modTile_other (f : Tile → Tile) (h : j ≠ i) : (s.modTile i f).tile j = s.tile j := State.tile_setTile_other _ _ h

theorem State.tile_setTile_keeps {α : Type} (f : Tile → α) {t : Tile} (h : f t = f (s.tile i)) (j : Nat) : f ((s.setTile i t).tile j) = f (s.tile j) := by
  by_cases hj : j = i
  · rw [hj, State.tile_setTile, h]
  · rw [State.tile_setTile_other _ _ hj]

end

@[simp] theorem Tile.arr_setArr (t : Tile) (a : Nat) (x : MatArray) : (t.setArr a x).arr a = x := by
  unfold Tile.setArr Tile.arr
  split <;> rfl

theorem State.arr_setArr (s : State) (i a : Nat) (x : MatArray) : ((s.setArr i a x).tile i).arr a = x := by
  rw [State.setArr, State.tile_modTile, Tile.arr_setArr]

/-- A rule of every entry of a table, and of the default, is one of every value that is read. -/
theorem mget_map_rel {α : Type} {P : α → α → Prop} {d : α} (hd : P d d) {f : Nat × α → Nat × α} (t : Tab α) (hf : ∀ e ∈ t, (f e).1 = e.1 ∧ P (f e).2 e.2)
    (k : Nat) : P (mget d (t.map f) k) (mget d t k) := by
  induction t with
  | nil => exact hd
  | cons e t ih =>
    obtain ⟨i, b⟩ := e
    obtain ⟨hkey, hval⟩ := hf (i, b) List.mem_cons_self
    have hrest := ih fun e he => hf e (List.mem_cons_of_mem _ he)
    rw [List.map_cons, show f (i, b) = (i, (f (i, b)).2) from Prod.ext hkey rfl]
    unfold mget
    split
    · exact hval
    · exact hrest

/-! ### What the completion of a word leaves (R319, R326) -/

/-- A tile without what the sequencer, the queues, the tokens and the locks hold: memory, arrays, tables, bases, control sets and context. -/
def Tile.still (t : Tile) : Tile :=
  { t with
    tokens := [], takenNt := 0, acted := [], taken := [], descs := [], cur := none, pc := 0, ret := none, checkWait := false, seqWord := none
    queues := [], clips := [], locks := [] }

/-- Tiles and DRAM are as before, but for what sequencers, queues, tokens and locks hold. -/
structure Calm (s t : State) : Prop where
  still : ∀ j, (t.tile j).still = (s.tile j).still
  regions : ∀ w, (t.wing w).regions = (s.wing w).regions

/-- And the tokens are as before. -/
structure Quiet (s t : State) : Prop extends Calm s t where
  tokens : ∀ j, (t.tile j).tokens = (s.tile j).tokens

namespace Calm

theorem refl (s : State) : Calm s s := ⟨fun _ => rfl, fun _ => rfl⟩

theorem trans {s t u : State} (h : Calm s t) (h' : Calm t u) : Calm s u :=
  ⟨fun j => (h'.still j).trans (h.still j), fun w => (h'.regions w).trans (h.regions w)⟩

theorem setTile {s : State} {i : Nat} {t : Tile} (h : t.still = (s.tile i).still) : Calm s (s.setTile i t) :=
  ⟨State.tile_setTile_keeps s Tile.still h, fun _ => rfl⟩

section
variable {s t : State} (h : Calm s t)
include h

/-- What `still` does not clear is as before. -/
theorem tile_keeps {α : Type} (f : Tile → α) (hf : ∀ t, f t.still = f t) (j : Nat) : f (t.tile j) = f (s.tile j) := by
  rw [← hf, h.still, hf]

theorem mem (j : Nat) : (t.tile j).mem = (s.tile j).mem := h.tile_keeps Tile.mem (fun _ => rfl) j

theorem arr (j a : Nat) : (t.tile j).arr a = (s.tile j).arr a := h.tile_keeps (Tile.arr · a) (fun _ => rfl) j

end

end Calm

namespace Quiet

theorem refl (s : State) : Quiet s s := ⟨.refl s, fun _ => rfl⟩

theorem trans {s t u : State} (h : Quiet s t) (h' : Quiet t u) : Quiet s u :=
  ⟨h.toCalm.trans h'.toCalm, fun j => (h'.tokens j).trans (h.tokens j)⟩

theorem setTile {s : State} {i : Nat} {t : Tile} (h : t.still = (s.tile i).still) (htok : t.tokens = (s.tile i).tokens) : Quiet s (s.setTile i t) :=
  ⟨.setTile h, State.tile_setTile_keeps s Tile.tokens htok⟩

theorem of_eq {s t : State} (htiles : t.tiles = s.tiles) (hregions : ∀ w, (t.wing w).regions = (s.wing w).regions) : Quiet s t :=
  have htile (j : Nat) : t.tile j = s.tile j := by rw [State.tile, htiles]; rfl
  ⟨⟨fun j => by rw [htile], hregions⟩, fun j => by rw [htile]⟩

theorem of_wings {s t : State} (htiles : t.tiles = s.tiles) (h0 : t.wing0 = s.wing0) (h1 : t.wing1 = s.wing1) : Quiet s t :=
  .of_eq htiles fun w => congrArg Wing.regions (State.wing_of_wings h0 h1 w)

theorem setWing (s : State) {w : Nat} {x : Wing} (h : x.regions = (s.wing w).regions) : Quiet s (s.setWing w x) :=
  .of_eq (State.setWing_tiles ..) (State.setWing_keeps Wing.regions h)

theorem foldl {β : Type} {f : State → β → State} (h : ∀ s b, Quiet s (f s b)) (l : List β) (s : State) : Quiet s (l.foldl f s) := by
  induction l generalizing s with
  | nil => exact .refl s
  | cons b l ih => exact (h s b).trans (ih (f s b))

theorem ite {s : State} {p : Prop} [Decidable p] {t u : State} (ht : Quiet s t) (hu : Quiet s u) : Quiet s (if p then t else u) := by
  split
  · exact ht
  · exact hu

theorem dropLocks (s : State) (w id : Nat) : Quiet s (s.dropLocks w id) := by
  have hrule := mget_map_rel (P := fun x y : Tile => x.still = y.still ∧ x.tokens = y.tokens) (d := {}) ⟨rfl, rfl⟩
    (f := fun e => if e.1 / 512 = w then (e.1, { e.2 with locks := e.2.locks.filter (fun l => l.packet != id) }) else e) s.tiles
    (fun e _ => by split <;> exact ⟨rfl, rfl, rfl⟩)
  exact ⟨⟨fun j => (hrule j).1, fun _ => rfl⟩, fun j => (hrule j).2⟩

theorem trace (s : State) (b : Nat) (r : TraceRec) : Quiet s (s.trace b r) :=
  .of_wings (State.trace_tiles ..) (State.trace_wing0 ..) (State.trace_wing1 ..)

theorem fire (s : State) (bit : Nat) (bs : List Nat) : Quiet s (s.fire bit bs) :=
  .of_wings (State.fire_tiles ..) (State.fire_wing0 ..) (State.fire_wing1 ..)

theorem setStickyIn (s : State) (b n : Nat) : Quiet s (s.setStickyIn b n) :=
  .of_wings (State.setStickyIn_tiles ..) (State.setStickyIn_wing0 ..) (State.setStickyIn_wing1 ..)

theorem bumpN (s : State) (id n : Nat) : Quiet s (s.bumpN id n) := .of_wings rfl rfl rfl

/-- R769: the attribution of a word's work. -/
theorem attributed (s : State) {p : Prop} [Decidable p] (o) : Quiet s (if p then s else { s with obs := o }) :=
  .ite (.refl s) (.of_wings rfl rfl rfl)

theorem addCount (s : State) (p key n : Nat) : Quiet s (s.addCount p key n) :=
  .ite (.bumpN ..) (.of_wings rfl rfl rfl)

theorem countFault (s : State) (b : Batch) (q : Issued) (id : Nat) : Quiet s (s.countFault b q id) := .ite (.refl s) (.addCount ..)

theorem countFor (s : State) (b : Batch) (id n : Nat) : Quiet s (s.countFor b id n) := .ite (.refl s) (.bumpN ..)

theorem setBatch (s : State) (id : Nat) (b : Batch) : Quiet s (s.setBatch id b) := .setWing s rfl

theorem dropBatch (s : State) (id : Nat) : Quiet s (s.dropBatch id) := .setWing s rfl

theorem countBatch (s : State) (id : Nat) (l : List (Nat × Nat)) : Quiet s (s.countBatch id l) := by
  unfold State.countBatch
  split
  · exact .ite (.refl s) (.setBatch ..)
  · exact .refl s

/-- R359 to R361: the fault of a batch leaves them. -/
theorem faultBatch (s : State) (id cause : Nat) (excused : Bool) : Quiet s (s.faultBatch id cause excused) := by
  have hregions := State.wing_faultBatch Wing.regions (fun _ _ => rfl) (fun _ _ => rfl) s id cause excused
  have htile {α : Type} (f : Tile → α) (hf : ∀ s w id j, f ((State.dropLocks s w id).tile j) = f (s.tile j)) (j : Nat) :
      f ((s.faultBatch id cause excused).tile j) = f (s.tile j) := by
    have htiles {u t : State} (h : t.tiles = u.tiles) : f (t.tile j) = f (u.tile j) := by rw [State.tile, h]; rfl
    exact State.faultBatch_keeps (fun t => f (State.tile t j)) (fun _ _ _ => htiles (State.setWing_tiles ..)) (fun _ _ => rfl) (fun _ _ _ => hf ..)
      (fun _ _ _ => htiles (State.fire_tiles ..)) (fun _ _ => htiles (State.setStickyIn_tiles ..)) (fun _ _ _ => htiles (State.trace_tiles ..))
      (fun _ _ _ _ => rfl) (fun _ _ _ => rfl) s id cause excused
  exact ⟨⟨htile Tile.still fun s w id j => (dropLocks s w id).still j, hregions⟩, htile Tile.tokens fun s w id j => (dropLocks s w id).tokens j⟩

theorem faultAll (s : State) (i cause : Nat) (excused : Bool) : Quiet s (s.faultAll i cause excused) :=
  Quiet.foldl (fun (s : State) (e : Nat × Batch) => Quiet.faultBatch s e.1 cause excused) _ s

theorem popQueue (s : State) (i e : Nat) : Quiet s (s.popQueue i e) := .setTile rfl rfl

theorem setQueued (s : State) (i e n : Nat) (q : Issued) : Quiet s (s.setQueued i e n q) := .setTile rfl rfl

theorem traceWord (s : State) (i : Nat) (q : Issued) (b : Batch) : Quiet s (s.traceWord i q b) :=
  .ite (.refl s) ((Quiet.trace ..).trans (.of_wings rfl rfl rfl))

end Quiet

theorem Tile.still_advance (t : Tile) (x : TileWord) : (t.advance x).still = t.still ∧ (t.advance x).tokens = t.tokens := by
  unfold Tile.advance
  (repeat' split) <;> exact ⟨rfl, rfl⟩

/-- R316: the sequencer's issue leaves them. -/
theorem Quiet.issueOne (s : State) (i : Nat) : Quiet s (s.issueOne i).1 := by
  unfold State.issueOne
  dsimp only
  split
  · exact .refl s
  · next id _ =>
    split
    · exact .refl s
    · split
      · exact .setTile rfl rfl
      · split
        · exact .faultBatch ..
        · next x _ =>
          obtain ⟨hstill, htokens⟩ := (s.tile i).still_advance x
          split
          · exact .faultBatch ..
          · split
            · exact (Quiet.setStickyIn ..).trans (.faultBatch ..)
            · split
              · exact .setTile hstill htokens
              · split
                · exact .refl s
                · exact .setTile hstill htokens

theorem Quiet.pump (s : State) (i : Nat) : Quiet s (s.pump i) := by
  have hrec (n : Nat) (s : State) : Quiet s (Machine.pump i n s) := by
    induction n generalizing s with
    | zero => exact .refl s
    | succ n ih =>
      unfold Machine.pump
      exact .ite ((Quiet.issueOne s i).trans (ih _)) (.issueOne s i)
  exact hrec 96 s

/-- R39, R326: the end of a batch that is no rollout leaves them. -/
theorem Quiet.batchComplete (s : State) (i id : Nat) {b : Batch} (h : b.graph ≠ .rollout) : Quiet s (s.batchComplete i id b) := by
  have hshare : Quiet s (s.shareCounts id b) := .ite (.refl s) (.setWing s rfl)
  unfold State.batchComplete
  dsimp only
  split
  · exact .dropBatch ..
  · rw [if_neg h]
    refine .ite ((Quiet.bumpN ..).trans (.faultBatch ..)) (hshare.trans (Quiet.trans ?_ (.dropBatch ..)))
    exact Quiet.foldl (fun (s : State) (y : Stair) => (Quiet.setWing s rfl : Quiet s (s.setStair (batchHome id) (y.nextStage s.nt)))) _ _

theorem Quiet.endCheck {s : State} {i id : Nat} (h : ∀ b, s.batchOf id = some b → b.graph ≠ .rollout) : Quiet s (s.endCheck i id) := by
  unfold State.endCheck
  split
  · exact .refl s
  · next b hb =>
    dsimp only
    have hclosed : Quiet s ((s.setTile i { s.tile i with clips := (s.tile i).clips.filter (fun c => c.batch != id) }).setBatch id
        { b with ended := i :: b.ended }) := by
      refine Quiet.trans (Quiet.setTile ?_ ?_) (.setBatch ..) <;> rfl
    exact .ite (.refl s) (.ite (hclosed.trans (.batchComplete _ _ _ (h b hb))) hclosed)

/-! ### The batches that a word's completion leaves -/

/-- The batches are those that were there, each in its graph. -/
structure SameGraphs (s t : State) : Prop where
  graph : ∀ id, (t.batchOf id).map Batch.graph = (s.batchOf id).map Batch.graph

namespace SameGraphs

theorem of_batches {s t : State} (h : ∀ v, (t.wing v).batches = (s.wing v).batches) : SameGraphs s t := ⟨fun id => by rw [State.batchOf_of_batches h]⟩

theorem of_wings {s t : State} (h0 : t.wing0 = s.wing0) (h1 : t.wing1 = s.wing1) : SameGraphs s t :=
  .of_batches fun v => congrArg Wing.batches (State.wing_of_wings h0 h1 v)

theorem refl (s : State) : SameGraphs s s := ⟨fun _ => rfl⟩

theorem trans {s t u : State} (h : SameGraphs s t) (h' : SameGraphs t u) : SameGraphs s u := ⟨fun id => (h'.graph id).trans (h.graph id)⟩

theorem ite {s : State} {p : Prop} [Decidable p] {t u : State} (ht : SameGraphs s t) (hu : SameGraphs s u) : SameGraphs s (if p then t else u) := by
  split
  · exact ht
  · exact hu

theorem foldl {β : Type} {f : State → β → State} (h : ∀ s b, SameGraphs s (f s b)) (l : List β) (s : State) : SameGraphs s (l.foldl f s) := by
  induction l generalizing s with
  | nil => exact .refl s
  | cons b l ih => exact (h s b).trans (ih (f s b))

theorem setTile (s : State) (i : Nat) (t : Tile) : SameGraphs s (s.setTile i t) := .of_wings rfl rfl

theorem faultBatch (s : State) (id cause : Nat) (excused : Bool) : SameGraphs s (s.faultBatch id cause excused) := by
  refine ⟨fun j => ?_⟩
  rw [State.batchOf_faultBatch]
  split
  · next hj =>
    rw [hj]
    cases s.batchOf id with
    | none => rfl
    | some b => rw [Option.map_some, Option.map_some, Option.map_some]; split <;> rfl
  · rfl

theorem addToken (s : State) (i a k n : Nat) : SameGraphs s (s.addToken i a k n) :=
  .ite ((SameGraphs.setTile s i _).trans (SameGraphs.foldl (fun (s : State) (e : Nat × Batch) => SameGraphs.faultBatch s e.1 4 false) _ _)) (.setTile s i _)

theorem attributed (s : State) {p : Prop} [Decidable p] (o) : SameGraphs s (if p then s else { s with obs := o }) :=
  .ite (.refl s) (.of_wings rfl rfl)

theorem completeWord (s : State) (i : Nat) (q : Issued) (b : Batch) : SameGraphs s (s.completeWord i q b) := by
  have htrace (s : State) : SameGraphs s (s.traceWord i q b) :=
    .ite (.refl s) (.of_wings (State.trace_wing0 ..) (State.trace_wing1 ..))
  exact ((SameGraphs.ite (.refl s) (.addToken ..)).trans (htrace _)).trans (.attributed ..)

theorem issueOne (s : State) (i : Nat) : SameGraphs s (s.issueOne i).1 := by
  unfold State.issueOne
  dsimp only
  split
  · exact .refl s
  · split
    · exact .refl s
    · split
      · exact .setTile ..
      · split
        · exact .faultBatch ..
        · split
          · exact .faultBatch ..
          · split
            · exact (SameGraphs.of_wings (State.setStickyIn_wing0 ..) (State.setStickyIn_wing1 ..)).trans (.faultBatch ..)
            · split
              · exact .setTile ..
              · split
                · exact .refl s
                · exact .setTile ..

theorem pump (s : State) (i : Nat) : SameGraphs s (s.pump i) := by
  have hrec (n : Nat) (s : State) : SameGraphs s (Machine.pump i n s) := by
    induction n generalizing s with
    | zero => exact .refl s
    | succ n ih =>
      unfold Machine.pump
      exact .ite ((SameGraphs.issueOne s i).trans (ih _)) (.issueOne s i)
  exact hrec 96 s

/-- No batch of a number is a rollout. -/
theorem no_rollout {s t : State} (h : SameGraphs s t) {id : Nat} (hs : ∀ b, s.batchOf id = some b → b.graph ≠ .rollout) :
    ∀ b, t.batchOf id = some b → b.graph ≠ .rollout := by
  intro b hb
  have hid := h.graph id
  rw [hb] at hid
  cases hc : s.batchOf id with
  | none => rw [hc] at hid; exact nomatch hid
  | some c =>
    rw [hc] at hid
    have hgraph : b.graph = c.graph := Option.some.inj hid
    exact hgraph ▸ hs c hc

end SameGraphs

/-! ### A completed word -/

theorem Calm.addToken (s : State) (i a k n : Nat) : Calm s (s.addToken i a k n) := by
  have hcycle (t : Tile) (nt a : Nat) : (t.inCycle nt a).still = t.still := by unfold Tile.inCycle; split <;> rfl
  unfold State.addToken
  dsimp only
  split
  · exact (Calm.setTile (hcycle ..)).trans (Quiet.faultAll ..).toCalm
  · exact Calm.setTile (hcycle ..)

theorem Tile.inCycle_tokens (t : Tile) (nt a : Nat) : (t.inCycle nt a).tokens = t.tokens := by unfold Tile.inCycle; split <;> rfl

/-- R320, R321: a token that rises. -/
theorem State.token_addToken (s : State) (i a k n j : Nat) :
    ((s.addToken i a k n).tile i).token j =
      if j = k ∧ (s.tile i).token k + mget 0 ((s.tile i).inCycle s.nt a).taken k + n ≤ 255 then (s.tile i).token k + n else (s.tile i).token j := by
  have htoken (j : Nat) : ((s.tile i).inCycle s.nt a).token j = (s.tile i).token j := by rw [Tile.token, Tile.inCycle_tokens]; rfl
  unfold State.addToken
  dsimp only
  rw [htoken k]
  split
  · next hover =>
    rw [if_neg (by omega), Tile.token, (Quiet.faultAll ..).tokens, State.tile_setTile]
    exact htoken j
  · next hfits =>
    rw [State.tile_setTile, Tile.token, Tile.inCycle_tokens]
    by_cases hj : j = k
    · rw [hj, mget_mput_same, if_pos ⟨rfl, by omega⟩]
    · rw [mget_mput_other _ _ _ hj, if_neg fun h => hj h.1]
      rfl

/-- R319: what a completed word leaves, and its signal. -/
theorem State.completeWord_spec (s : State) (i : Nat) (q : Issued) (b : Batch) :
    Calm s (s.completeWord i q b) ∧ ∀ k, ((s.completeWord i q b).tile i).token k =
      if q.word.sigEn ≠ 0 ∧ k = q.word.sigTok ∧ (s.tile i).token k + mget 0 ((s.tile i).inCycle s.nt (q.actor i)).taken k < 255
        then (s.tile i).token k + 1 else (s.tile i).token k := by
  have hend : Quiet (if q.word.sigEn = 0 then s else s.addToken i (q.actor i) q.word.sigTok 1) (s.completeWord i q b) :=
    (Quiet.traceWord ..).trans (.attributed ..)
  generalize s.completeWord i q b = t at hend
  by_cases hsig : q.word.sigEn = 0
  · rw [if_pos hsig] at hend
    refine ⟨hend.toCalm, fun k => ?_⟩
    rw [Tile.token, hend.tokens, if_neg fun h => h.1 hsig]
    rfl
  · rw [if_neg hsig] at hend
    refine ⟨(Calm.addToken ..).trans hend.toCalm, fun k => ?_⟩
    rw [Tile.token, hend.tokens]
    refine (State.token_addToken ..).trans ?_
    by_cases hk : k = q.word.sigTok
    · subst hk
      by_cases hlt : (s.tile i).token q.word.sigTok + mget 0 ((s.tile i).inCycle s.nt (q.actor i)).taken q.word.sigTok < 255
      · rw [if_pos ⟨rfl, by omega⟩, if_pos ⟨hsig, rfl, hlt⟩]
      · rw [if_neg fun h => hlt (by omega), if_neg fun h => hlt h.2.2]
    · rw [if_neg fun h => hk h.1, if_neg fun h => hk h.2.1]

/-- R319, R326: what is left once a word has completed, issue has gone on and the batch's end has been looked for. -/
theorem Quiet.goesOn {s : State} {i id : Nat} (h : ∀ b, s.batchOf id = some b → b.graph ≠ .rollout) : Quiet s ((s.pump i).endCheck i id) :=
  (Quiet.pump s i).trans (.endCheck ((SameGraphs.pump s i).no_rollout h))

/-! ### Arrays -/

/-- Every array of every tile is as before. -/
structure SameArrays (s t : State) : Prop where
  arr : ∀ j a, (t.tile j).arr a = (s.tile j).arr a

namespace SameArrays

theorem of_calm {s t : State} (h : Calm s t) : SameArrays s t := ⟨fun j a => h.arr j a⟩

theorem refl (s : State) : SameArrays s s := ⟨fun _ _ => rfl⟩

theorem trans {s t u : State} (h : SameArrays s t) (h' : SameArrays t u) : SameArrays s u := ⟨fun j a => (h'.arr j a).trans (h.arr j a)⟩

theorem ite {s : State} {p : Prop} [Decidable p] {t u : State} (ht : SameArrays s t) (hu : SameArrays s u) : SameArrays s (if p then t else u) := by
  split
  · exact ht
  · exact hu

theorem foldl {β : Type} {f : State → β → State} (h : ∀ s b, SameArrays s (f s b)) (l : List β) (s : State) : SameArrays s (l.foldl f s) := by
  induction l generalizing s with
  | nil => exact .refl s
  | cons b l ih => exact (h s b).trans (ih (f s b))

theorem modTile {s : State} {i : Nat} {f : Tile → Tile} (h : ∀ t a, (f t).arr a = t.arr a) : SameArrays s (s.modTile i f) :=
  ⟨fun j a => State.tile_setTile_keeps s (Tile.arr · a) (h ..) j⟩

theorem writeScales (s : State) (i : Nat) (b : Batch) (c : SlotCfg) : SameArrays s (s.writeScales i b c) := by
  unfold State.writeScales
  split
  · exact .refl s
  · split
    · exact .refl s
    · exact .ite (.refl s) (.modTile fun _ _ => rfl)

theorem sendDescs (s : State) (id : Nat) (tiles : List Nat) : SameArrays s (s.sendDescs id tiles) :=
  SameArrays.foldl (fun (_ : State) (i : Nat) => SameArrays.modTile (i := i) (f := fun t => { t with descs := t.descs ++ [id] }) fun _ _ => rfl) tiles s

theorem setBatch (s : State) (id : Nat) (b : Batch) : SameArrays s (s.setBatch id b) := .of_calm (Quiet.setBatch ..).toCalm

theorem rolloutNext (s : State) (id : Nat) (b : Batch) (c : SlotCfg) : SameArrays s (s.rolloutNext id b c) := by
  have hscales (s : State) (b : Batch) (l : List Nat) : SameArrays s (l.foldl (fun (s : State) i => s.writeScales i b c) s) :=
    SameArrays.foldl (fun (s : State) i => .writeScales s i b c) l s
  unfold State.rolloutNext
  dsimp only
  refine .ite (.setBatch ..) ?_
  split
  · exact .setBatch ..
  · exact (SameArrays.setBatch ..).trans ((hscales ..).trans (.sendDescs ..))

theorem batchComplete (s : State) (i id : Nat) (b : Batch) : SameArrays s (s.batchComplete i id b) := by
  by_cases h : b.graph = .rollout
  · unfold State.batchComplete
    dsimp only
    split
    · exact .of_calm (Quiet.dropBatch ..).toCalm
    · rw [if_pos h]
      exact .rolloutNext ..
  · exact .of_calm (Quiet.batchComplete s i id h).toCalm

theorem endCheck (s : State) (i id : Nat) : SameArrays s (s.endCheck i id) := by
  unfold State.endCheck
  split
  · exact .refl s
  · next b hb =>
    dsimp only
    have hclosed : SameArrays s ((s.setTile i { s.tile i with clips := (s.tile i).clips.filter (fun c => c.batch != id) }).setBatch id
        { b with ended := i :: b.ended }) :=
      SameArrays.trans (.modTile (f := fun t => { t with clips := t.clips.filter (fun c => c.batch != id) }) fun _ _ => rfl) (.setBatch ..)
    exact .ite (.refl s) (.ite (hclosed.trans (.batchComplete ..)) hclosed)

/-- R319: the completion of a word changes no array. -/
theorem completed (s : State) (i e : Nat) (q : Issued) (b : Batch) : SameArrays s (Completed s i e q b) :=
  (SameArrays.of_calm (((Quiet.popQueue ..).toCalm.trans (State.completeWord_spec ..).1).trans (Quiet.pump ..).toCalm)).trans (.endCheck ..)

end SameArrays

end Sys2Proof.Machine
end

section
/-!
The rules about a word that an engine runs (R318, R319): what a word that begins leaves, and what comes of each outcome of its body.
-/
open Sys2Proof Sys2Proof.Machine Sys2Proof.Claims

namespace Sys2Proof.Machine

/-! ### A word that begins (R318) -/

/-- A begun word has changed the attribution and the tokens of its tile, and nothing else. -/
structure Begins (s t : State) : Prop where
  rest : ∃ o l, t = { s with obs := o, tiles := l }
  tile : ∀ j, ∃ k n a l, t.tile j = { s.tile j with tokens := k, takenNt := n, acted := a, taken := l }

namespace Begins

theorem refl (s : State) : Begins s s := ⟨⟨s.obs, s.tiles, rfl⟩, fun _ => ⟨_, _, _, _, rfl⟩⟩

theorem trans {s t u : State} (h : Begins s t) (h' : Begins t u) : Begins s u := by
  refine ⟨?_, fun j => ?_⟩
  · obtain ⟨o, l, rfl⟩ := h.rest
    obtain ⟨o', l', rfl⟩ := h'.rest
    exact ⟨o', l', rfl⟩
  · obtain ⟨k, n, a, l, ht⟩ := h.tile j
    obtain ⟨k', n', a', l', hu⟩ := h'.tile j
    exact ⟨k', n', a', l', by rw [hu, ht]⟩

theorem takeToken (s : State) (i a k n : Nat) : Begins s (s.takeToken i a k n) := by
  refine ⟨⟨s.obs, _, rfl⟩, fun j => ?_⟩
  by_cases hj : j = i
  · subst hj
    unfold State.takeToken
    rw [State.tile_setTile]
    unfold Tile.inCycle
    split <;> exact ⟨_, _, _, _, rfl⟩
  · rw [State.takeToken, State.tile_setTile_other _ _ hj]
    exact ⟨_, _, _, _, rfl⟩

/-- R769: the attribution of a word's work. -/
theorem attributed (s : State) {p : Prop} [Decidable p] (o) : Begins s (if p then s else { s with obs := o }) := by
  split
  · exact .refl s
  · exact ⟨⟨_, s.tiles, rfl⟩, fun _ => ⟨_, _, _, _, rfl⟩⟩

theorem startWord (s : State) (i : Nat) (q : Issued) : Begins s (s.startWord i q) := by
  have hwait (t : State) (ht : Begins s t) : Begins s (if q.word.waitEn = 0 then t else t.takeToken i (q.actor i) q.word.waitTok 1) := by
    split
    · exact ht
    · exact ht.trans (.takeToken ..)
  unfold State.startWord
  dsimp only
  cases s.batchOf q.batch with
  | none => exact hwait s (.refl s)
  | some b => exact hwait _ (.attributed ..)

theorem begun (s : State) (i : Nat) (q : Issued) : Begins s (s.begun i q) := by
  unfold State.begun
  split
  · exact .refl s
  · exact .startWord ..

section
variable {s t : State} (h : Begins s t)
include h

/-- What depends on neither the attribution nor the tiles is as before. -/
theorem keeps {α : Type} (g : State → α) (hg : ∀ (s : State) o l, g { s with obs := o, tiles := l } = g s) : g t = g s := by
  obtain ⟨o, l, rfl⟩ := h.rest
  exact hg s o l

/-- What does not depend on a tile's tokens is as before. -/
theorem tile_keeps {α : Type} (f : Tile → α) (hf : ∀ t k n a l, f { t with tokens := k, takenNt := n, acted := a, taken := l } = f t) (j : Nat) :
    f (t.tile j) = f (s.tile j) := by
  obtain ⟨k, n, a, l, ht⟩ := h.tile j
  rw [ht, hf]

theorem arr (j a : Nat) : (t.tile j).arr a = (s.tile j).arr a := h.tile_keeps (Tile.arr · a) (fun _ _ _ _ _ => rfl) j

theorem queue (j e : Nat) : (t.tile j).queue e = (s.tile j).queue e := h.tile_keeps (Tile.queue · e) (fun _ _ _ _ _ => rfl) j

theorem tileRead (j a n : Nat) : t.tileRead j a n = s.tileRead j a n := by
  rw [State.tileRead, h.tile_keeps Tile.mem (fun _ _ _ _ _ => rfl) j]
  rfl

theorem lockedAt (j lo len : Nat) : t.lockedAt j lo len = s.lockedAt j lo len :=
  h.tile_keeps (fun x => x.locks.any (fun l => decide (lo < l.hi) && decide (l.lo < lo + len))) (fun _ _ _ _ _ => rfl) j

theorem control (j e : Nat) : (t.tile j).control e = (s.tile j).control e := h.tile_keeps (Tile.control · e) (fun _ _ _ _ _ => rfl) j

theorem window (i : Nat) (b : Batch) (k : Nat) : t.window i b k = s.window i b k := by
  unfold State.window
  rw [h.control]

theorem syncTargets (i : Nat) (b : Batch) (x : SyncOp) : t.syncTargets i b x = s.syncTargets i b x := by
  unfold State.syncTargets
  rw [h.control]

theorem partOf (p : Nat) : t.partOf p = s.partOf p := h.keeps (State.partOf · p) fun _ _ _ => rfl

theorem wing (w : Nat) : t.wing w = s.wing w := h.keeps (State.wing · w) fun _ _ _ => rfl

theorem nt : t.nt = s.nt := h.keeps State.nt fun _ _ _ => rfl

theorem ownsTile (p i : Nat) : t.ownsTile p i = s.ownsTile p i := h.keeps (State.ownsTile · p i) fun _ _ _ => rfl

theorem foreignBank (i p lo len : Nat) : t.foreignBank i p lo len = s.foreignBank i p lo len :=
  h.keeps (State.foreignBank · i p lo len) fun _ _ _ => rfl

theorem poisonedAt (w p a n : Nat) : t.poisonedAt w p a n = s.poisonedAt w p a n := h.keeps (State.poisonedAt · w p a n) fun _ _ _ => rfl

theorem regionRead (w p a n : Nat) : t.regionRead w p a n = s.regionRead w p a n := by rw [State.regionRead, h.wing]; rfl

theorem rowStair (w id : Nat) (b : Batch) (r : Nat) : t.rowStair w id b r = s.rowStair w id b r := by
  unfold State.rowStair
  rw [h.wing]

theorem batchOf (id : Nat) : t.batchOf id = s.batchOf id := h.keeps (State.batchOf · id) fun _ _ _ => rfl

theorem batchCfg (b : Batch) : t.batchCfg b = s.batchCfg b := h.keeps (State.batchCfg · b) fun _ _ _ => rfl

theorem inTile {i p lo len : Nat} (hin : InTile s i p lo len) : InTile t i p lo len := by
  unfold InTile
  rw [h.foreignBank]
  exact hin

end

end Begins

/-! ### The accesses of a word (R315, R346, R347, R351, R691) -/

section
variable {s : State} {i p : Nat} {k : WordOut}

theorem State.guarded_of_in {xs : List (Nat × Nat)} (h : ∀ x ∈ xs, InTile s i p x.1 x.2) : s.guarded i p xs k = k := by
  have hsize : xs.any (fun x => decide (tileBytes < x.1 + x.2)) = false := by
    rw [List.any_eq_false]
    intro x hx
    have := (h x hx).1
    simp only [decide_eq_true_eq]
    omega
  have hbank : xs.any (fun x => s.foreignBank i p x.1 x.2) = false := by
    rw [List.any_eq_false]
    intro x hx
    rw [(h x hx).2]
    exact Bool.false_ne_true
  unfold State.guarded
  rw [hsize, hbank, if_neg Bool.false_ne_true, if_neg Bool.false_ne_true]

theorem State.guarded_one {lo len : Nat} (h : InTile s i p lo len) : s.guarded i p [(lo, len)] k = k :=
  State.guarded_of_in fun x hx => by rw [List.mem_singleton.1 hx]; exact h

theorem State.guarded_beyond {xs : List (Nat × Nat)} {x : Nat × Nat} (hx : x ∈ xs) (h : tileBytes < x.1 + x.2) : s.guarded i p xs k = .fault s 4 :=
  if_pos (List.any_eq_true.2 ⟨x, hx, decide_eq_true h⟩)

theorem State.unlocked_of_free {xs : List (Nat × Nat)} (h : ∀ x ∈ xs, s.lockedAt i x.1 x.2 = false) : s.unlocked i xs k = k := by
  refine if_neg ?_
  rw [Bool.not_eq_true, List.any_eq_false]
  exact fun x hx => by rw [h x hx]; exact Bool.false_ne_true

theorem State.unlocked_one {lo len : Nat} (h : s.lockedAt i lo len = false) : s.unlocked i [(lo, len)] k = k :=
  State.unlocked_of_free fun x hx => by rw [List.mem_singleton.1 hx]; exact h

theorem State.unlocked_waits {xs : List (Nat × Nat)} {x : Nat × Nat} (hx : x ∈ xs) (h : s.lockedAt i x.1 x.2 = true) : s.unlocked i xs k = .wait :=
  if_pos (List.any_eq_true.2 ⟨x, hx, h⟩)

theorem State.inWindow_of_in {b : Batch} {d : DramWindow} {xs : List (Nat × Nat)} (hne : xs ≠ []) (h : ∀ x ∈ xs, InWindow s b d x.1 x.2) :
    s.inWindow i b d xs k = k := by
  obtain ⟨x, hx⟩ := List.exists_mem_of_ne_nil xs hne
  have hregion := (h x hx).1
  have hsize : xs.any (fun x => decide (d.size < x.1 + x.2)) = false := by
    rw [List.any_eq_false]
    intro x hx
    rw [decide_eq_true_eq]
    exact Nat.not_lt.2 (h x hx).2.1
  have hlarder : xs.any (fun x => (s.partOf b.partition).inLarder (d.base + x.1) x.2) = false := by
    rw [List.any_eq_false]
    intro x hx
    rw [(h x hx).2.2]
    exact Bool.false_ne_true
  unfold State.inWindow
  rw [if_neg (Nat.not_lt.2 hregion), hsize, hlarder, if_neg Bool.false_ne_true, if_neg Bool.false_ne_true]

theorem State.ownTile_of_owns {b : Batch} {j : Nat} (h : s.ownsTile b.partition j = true) : s.ownTile i b j k = k := if_pos h

theorem State.ownTile_of_foreign {b : Batch} {j : Nat} (h : s.ownsTile b.partition j = false) : s.ownTile i b j k = .fault (s.setStickyIn (16 + i) 120) 4 :=
  if_neg (by rw [h]; exact Bool.false_ne_true)

end

/-! ### What comes of a word's body -/

section
variable {s : State} {i e : Nat} {q : Issued} {b : Batch} {mine : TileOp → Bool} {body : State → Issued → Batch → WordOut}

theorem State.countCorrected_none (s : State) (i : Nat) : s.countCorrected i {} = s := rfl

/-- The word at the head of a queue runs, and no error is met. -/
theorem State.runWord_eq (h : Runs s i e q b) (hmine : mine q.word.op = true) :
    s.runWord i e mine {} body = match body (s.begun i q) q b with
      | .wait => s
      | .hold => (s.begun i q).finish i e q b .hold
      | .fault t cause => t.finish i e q b (.fault t cause)
      | .done t => t.finish i e q b (.done t) := by
  obtain ⟨hhead, hbatch, hruns, hready⟩ := h
  obtain ⟨rest, hqueue⟩ : ∃ rest, (s.tile i).queue e = q :: rest := List.head?_eq_some_iff.1 hhead
  have hready' : (q.started || s.tokenReady i e q) = true := by simpa using hready
  unfold State.runWord
  rw [hqueue]
  dsimp only
  rw [hbatch]
  dsimp only
  rw [hmine, hruns, hready']
  simp only [State.countCorrected_none] <;> rfl

theorem State.runWord_done (h : Runs s i e q b) (hmine : mine q.word.op = true) {t : State} (hbody : body (s.begun i q) q b = .done t) :
    s.runWord i e mine {} body = Completed t i e q b := by
  rw [State.runWord_eq h hmine, hbody]
  rfl

theorem State.runWord_fault (h : Runs s i e q b) (hmine : mine q.word.op = true) {t : State} (hbody : body (s.begun i q) q b = .fault t 4) :
    s.runWord i e mine {} body = Aborted t i e q := by
  rw [State.runWord_eq h hmine, hbody]
  rfl

theorem State.runWord_wait (h : Runs s i e q b) (hmine : mine q.word.op = true) (hbody : body (s.begun i q) q b = .wait) :
    s.runWord i e mine {} body = s := by
  rw [State.runWord_eq h hmine, hbody]

theorem State.runWord_hold (h : Runs s i e q b) (hmine : mine q.word.op = true) (hbody : body (s.begun i q) q b = .hold) :
    s.runWord i e mine {} body = (s.begun i q).setQueued i e 0 { q with started := true } := by
  rw [State.runWord_eq h hmine, hbody]
  rfl

/-- R318: a word whose wait is not satisfied does not start. -/
theorem State.runWord_waits (ecc : Ecc) (hhead : ((s.tile i).queue e).head? = some q) (hnew : q.started = false) (hwait : s.tokenReady i e q = false) :
    s.runWord i e mine ecc body = s := by
  obtain ⟨rest, hqueue⟩ : ∃ rest, (s.tile i).queue e = q :: rest := List.head?_eq_some_iff.1 hhead
  unfold State.runWord
  rw [hqueue]
  dsimp only
  split
  · rfl
  · rw [hnew, hwait]
    simp

end

end Sys2Proof.Machine
end

section
/-!
Proofs for tokens, waits, and moves of bytes (R314 to R323, R346 to R348, R352, R353).
-/
open Sys2Proof Sys2Proof.Machine Sys2Proof.Claims

namespace Sys2Proof.Machine

/-! ### What is left of a token (R320) -/

/-- R320: what is left once engine `d` has taken what its next word needs. -/
def Tile.spareAfter (t : Tile) (k : Nat) (r d : Nat) : Nat :=
  match t.nextWord d with
  | some q => if q.demand k ≤ r then r - q.demand k else r
  | none => r

theorem Tile.spareAfter_zero (t : Tile) (k d : Nat) : t.spareAfter k 0 d = 0 := by
  unfold Tile.spareAfter
  split
  · split
    · exact Nat.zero_sub _
    · rfl
  · rfl

/-- R320: a word of engine `d` that takes all that is left leaves nothing for the engines behind it. -/
theorem Tile.spare_of_taken {t : Tile} {k d e : Nat} {x : Issued} (hde : d < e) (hx : t.nextWord d = some x) (hall : x.demand k = t.spare k d) :
    t.spare k e = 0 := by
  have hspare (n : Nat) : t.spare k n = (List.range n).foldl (t.spareAfter k) (t.token k) := rfl
  obtain ⟨n, rfl⟩ : ∃ n, e = d + 1 + n := ⟨e - (d + 1), by omega⟩
  have hnext : t.spareAfter k (t.spare k d) d = 0 := by
    unfold Tile.spareAfter
    simp only [hx, hall, Nat.le_refl, if_true, Nat.sub_self]
  have hzero (l : List Nat) : l.foldl (t.spareAfter k) 0 = 0 := by
    induction l with
    | nil => rfl
    | cons a l ih => rw [List.foldl_cons, Tile.spareAfter_zero, ih]
  rw [hspare, List.range_add, List.foldl_append, List.range_succ, List.foldl_append, List.foldl_cons, List.foldl_nil, ← hspare, hnext, hzero]

theorem State.tokenReady_of_taken {s : State} {i d e : Nat} {q x : Issued} (hde : d < e) (hx : (s.tile i).nextWord d = some x) (hwait : q.word.waitEn ≠ 0)
    (hall : x.demand q.word.waitTok = (s.tile i).spare q.word.waitTok d) : s.tokenReady i e q = false := by
  rw [State.tokenReady, Tile.spare_of_taken hde hx hall]
  simpa using hwait

/-! ### Completion (R319) -/

theorem Tile.taken_inCycle (t : Tile) (nt a : Nat) : (t.inCycle nt a).taken = if t.takenNt = nt ∧ ¬ t.acted.contains a then t.taken else [] := by
  unfold Tile.inCycle
  split <;> rfl

/-- R319, R321, R326: what a completed word that is no rollout's leaves, and its signal. -/
theorem completed_spec {u : State} {i e : Nat} {q : Issued} {b : Batch} (h : ∀ y, u.batchOf q.batch = some y → y.graph ≠ .rollout) :
    Calm u (Completed u i e q b) ∧ ∀ k, ((Completed u i e q b).tile i).token k =
      if q.word.sigEn ≠ 0 ∧ k = q.word.sigTok ∧ (u.tile i).token k + mget 0 ((u.tile i).inCycle u.nt (q.actor i)).taken k < 255
        then (u.tile i).token k + 1 else (u.tile i).token k := by
  have hpop : (u.popQueue i e).tile i = { u.tile i with queues := mput (u.tile i).queues e (((u.tile i).queue e).drop 1) } := State.tile_modTile ..
  have htaken : (((u.popQueue i e).tile i).inCycle (u.popQueue i e).nt (q.actor i)).taken = ((u.tile i).inCycle u.nt (q.actor i)).taken := by
    rw [hpop, Tile.taken_inCycle, Tile.taken_inCycle]
    rfl
  have hgraphs : SameGraphs u ((u.popQueue i e).completeWord i q b) := (SameGraphs.setTile u i _).trans (.completeWord ..)
  have hrest := Quiet.goesOn (i := i) (hgraphs.no_rollout h)
  obtain ⟨hcalm, htoken⟩ := (u.popQueue i e).completeWord_spec i q b
  refine ⟨((Quiet.popQueue u i e).toCalm.trans hcalm).trans hrest.toCalm, fun k => ?_⟩
  rw [Tile.token, hrest.tokens]
  refine (htoken k).trans ?_
  rw [htaken, hpop]
  rfl

/-! ### WAIT, MARK and SYNC (R323, R352, R353) -/

section
variable {s : State} {i : Nat} {q : Issued} {b : Batch}

theorem exec_wait {tok count : Nat} (hq : (s.tile i).seqWord = some q) (hop : q.word.op = .wait tok count) (hb : s.batchOf q.batch = some b)
    (hruns : s.tileRuns i = true) (hready : q.started = true ∨ s.tokenReady i 0 q = true) : Gives (.wait i) s
    (if ((s.begun i q).tile i).token tok < count then (s.begun i q).modTile i (fun t => { t with seqWord := some { q with started := true } })
      else ((s.begun i q).takeToken i (q.actor i) tok count).seqDone i q b) := by
  change execWait i s = _
  unfold execWait
  simp only [hq, hop, hb, hruns, hready, not_true_eq_false, or_self, if_false]

theorem exec_mark {value : Nat} (hq : (s.tile i).seqWord = some q) (hop : q.word.op = .mark value) (hb : s.batchOf q.batch = some b)
    (hruns : s.tileRuns i = true) (hready : s.tokenReady i 0 q = true) :
    let u := (s.startWord i q).trace (16 + i) { kind := 2, context := b.partition, layer := q.word.layer, op := q.word.opId, nt := s.nt, arg0 := value + 4294967296 * (q.batch % 65536) }
    Gives (.mark i) s ((if bitOf value 31 = true then u.fireIn 6 (16 + i) else u).seqDone i q b) := by
  change execMark i s = _
  rw [← (Begins.startWord s i q).nt]
  unfold execMark
  simp only [hq, hop, hb, hruns, hready, not_true_eq_false, or_self, if_false]

theorem syncWord_done {x : SyncOp} (hop : q.word.op = .sync x) (hown : ∀ j ∈ s.syncTargets i b x, s.ownsTile b.partition j = true) :
    syncWord i s q b = .done ((s.syncTargets i b x).foldl (fun s j => s.addToken j (q.actor i) x.tok x.increment) s) := by
  unfold syncWord
  rw [hop]
  refine if_neg ?_
  rw [Bool.not_eq_true, List.any_eq_false]
  exact fun j hj => by rw [hown j hj]; exact Bool.false_ne_true

theorem syncWord_fault {x : SyncOp} (hop : q.word.op = .sync x) (hforeign : ∃ j ∈ s.syncTargets i b x, s.ownsTile b.partition j = false) :
    syncWord i s q b = .fault (s.setStickyIn (16 + i) 120) 4 := by
  obtain ⟨j, hj, hown⟩ := hforeign
  unfold syncWord
  rw [hop]
  exact if_pos (List.any_eq_true.2 ⟨j, hj, by rw [hown]; rfl⟩)

end

theorem tokensWaitAndSignal : TokensWaitAndSignal := by
  refine ⟨fun s i e q mine ecc body hhead hnew hwait => State.runWord_waits ecc hhead hnew hwait,
    fun s i d e q x hde hx hwait hall => State.tokenReady_of_taken hde hx hwait hall, fun u i e q b hgraph => ?_,
    fun s i tok count q b hq hop hb hruns hready => ?_, fun s i value q b hq hop hb hruns hready => exec_mark hq hop hb hruns hready,
    fun s i q b x hruns hop => ?_⟩
  · obtain ⟨hcalm, htoken⟩ := completed_spec (i := i) (e := e) (b := b) hgraph
    refine ⟨fun j => ⟨hcalm.mem j, hcalm.arr j 0, hcalm.arr j 1, hcalm.tile_keeps Tile.act (fun _ => rfl) j, hcalm.tile_keeps Tile.enc (fun _ => rfl) j⟩,
      fun w p => ?_, htoken⟩
    rw [Wing.region, hcalm.regions]
    rfl
  · have hexec := exec_wait hq hop hb hruns hready
    refine ⟨fun hheld => ?_, fun hshort => ?_⟩
    · rwa [if_neg (Nat.not_lt.2 hheld)] at hexec
    · rwa [if_pos hshort] at hexec
  · have hb := Begins.begun s i q
    have hmine : TileOp.isSync q.word.op = true := by rw [hop]; rfl
    refine ⟨fun hown => congrArg Host.Outcome.next (State.runWord_done hruns hmine ?_), fun hforeign => congrArg Host.Outcome.next (State.runWord_fault hruns hmine ?_)⟩
    · rw [syncWord_done hop (by simpa only [hb.syncTargets, hb.ownsTile] using hown), hb.syncTargets]
    · exact syncWord_fault hop (by simpa only [hb.syncTargets, hb.ownsTile] using hforeign)

/-! ### LOAD, GATHER, STORE and PENDING (R346 to R348) -/

section
variable {s : State} {i : Nat} {q : Issued} {b : Batch} {m : MoveOp}

/-- LOAD from a tile. -/
theorem loadWord_tile (hop : q.word.op = .load m) (hkind : m.kind = 0) (hdst : InTile s i b.partition (q.ref m.localRef) (64 * m.length)) :
    loadWord i none s q b = s.ownTile i b m.remoteTile (s.guarded m.remoteTile b.partition [(m.remoteAt, 64 * m.length)]
      (s.unlocked i [(q.ref m.localRef, 64 * m.length)]
        (.done (s.tileWrite i (q.ref m.localRef) (s.tileRead m.remoteTile m.remoteAt (64 * m.length)))))) := by
  unfold loadWord
  rw [hop]
  exact (State.guarded_one hdst).trans (if_pos hkind)

/-- LOAD from a DRAM window. -/
theorem loadWord_window (hop : q.word.op = .load m) (hkind : m.kind = 1) (hdst : InTile s i b.partition (q.ref m.localRef) (64 * m.length)) :
    loadWord i none s q b =
      let d := s.window i b (m.remote % 16)
      let off := 64 * bitsOf m.remote 4 32
      s.inWindow i b d [(off, 64 * m.length)] (s.unlocked i [(q.ref m.localRef, 64 * m.length)] (
        match s.poisonedAt (tileWing i) b.partition (d.base + off) (64 * m.length) with
        | some a => .fault (s.dramFault (tileWing i) b.partition a) 4
        | none => .done (s.tileWrite i (q.ref m.localRef) (s.regionRead (tileWing i) b.partition (d.base + off) (64 * m.length))))) := by
  unfold loadWord
  rw [hop]
  refine (State.guarded_one hdst).trans ((if_neg (by rw [hkind]; decide)).trans ?_)
  dsimp only
  cases s.poisonedAt (tileWing i) b.partition ((s.window i b (m.remote % 16)).base + 64 * bitsOf m.remote 4 32) (64 * m.length) with
  | none => rfl
  | some a => rfl

theorem storeWord_tile (hop : q.word.op = .store m) (hkind : m.kind = 0) (hsrc : InTile s i b.partition (q.ref m.localRef) (64 * m.length)) :
    storeWord i s q b = s.ownTile i b m.remoteTile (s.guarded m.remoteTile b.partition [(m.remoteAt, 64 * m.length)]
      (s.unlocked m.remoteTile [(m.remoteAt, 64 * m.length)]
        (.done (s.tileWrite m.remoteTile m.remoteAt (s.tileRead i (q.ref m.localRef) (64 * m.length)))))) := by
  unfold storeWord
  rw [hop]
  exact (State.guarded_one hsrc).trans (if_pos hkind)

theorem storeWord_window (hop : q.word.op = .store m) (hkind : m.kind = 1) (hsrc : InTile s i b.partition (q.ref m.localRef) (64 * m.length))
    (hin : InWindow s b (s.window i b (m.remote % 16)) (64 * bitsOf m.remote 4 32) (64 * m.length)) :
    storeWord i s q b = .done (s.regionWrite (tileWing i) b.partition ((s.window i b (m.remote % 16)).base + 64 * bitsOf m.remote 4 32)
      (s.tileRead i (q.ref m.localRef) (64 * m.length))) := by
  unfold storeWord
  rw [hop]
  refine (State.guarded_one hsrc).trans ((if_neg (by rw [hkind]; decide)).trans (State.inWindow_of_in (List.cons_ne_nil _ _) fun x hx => ?_))
  rw [List.mem_singleton.1 hx]
  exact hin

/-- The rows of a GATHER, by their numbers: none of them reads what another wrote. -/
theorem gatherRows_eq (s : State) (i w p base units dst : Nat) (f : Nat → Nat) (k n : Nat) :
    gatherRows s i w p base units dst k ((List.range' k n).map f) =
      (List.range' k n).foldl (fun (u : State) j => u.tileWrite i (dst + 64 * units * j) (s.regionRead w p (base + 64 * units * f j) (64 * units))) s := by
  induction n generalizing s k with
  | zero => rfl
  | succ n ih =>
    rw [List.range'_succ, List.map_cons, gatherRows, ih, List.foldl_cons]
    rfl

theorem gatherWord_done (hop : q.word.op = .load m) (hlen : 1 ≤ m.length) :
    let units := bitsOf m.remote 24 8
    let ix := q.ref (bitsOf m.remote 4 20)
    let dst := q.ref m.localRef
    let d := s.window i b (m.remote % 16)
    let row := fun (k : Nat) => d.base + 64 * units * leNat (s.tileRead i (ix + 4 * k) 4)
    InTile s i b.partition dst (64 * units * m.length) → InTile s i b.partition ix (4 * m.length) →
    s.lockedAt i dst (64 * units * m.length) = false →
    (∀ k, k < m.length → InWindow s b d (64 * units * leNat (s.tileRead i (ix + 4 * k) 4)) (64 * units) ∧
      s.poisonedAt (tileWing i) b.partition (row k) (64 * units) = none) →
    gatherWord i none s q b = .done ((List.range m.length).foldl (fun (u : State) k =>
        u.tileWrite i (dst + 64 * units * k) (s.regionRead (tileWing i) b.partition (row k) (64 * units))) s) := by
  intro units ix dst d row hdst hix hfree hrows
  have hclean : ((List.range m.length).map (fun k => leNat (s.tileRead i (ix + 4 * k) 4))).findSome?
      (fun x => s.poisonedAt (tileWing i) b.partition (d.base + 64 * units * x) (64 * units)) = none := by
    rw [List.findSome?_eq_none_iff]
    intro x hx
    obtain ⟨k, hk, rfl⟩ := List.mem_map.1 hx
    exact (hrows k (List.mem_range.1 hk)).2
  have hin : s.inWindow i b d (((List.range m.length).map (fun k => leNat (s.tileRead i (ix + 4 * k) 4))).map (fun x => (64 * units * x, 64 * units))) =
      fun k => k := by
    funext k
    refine State.inWindow_of_in ?_ fun x hx => ?_
    · intro hnil
      have hzero : m.length = 0 := by simpa using congrArg List.length hnil
      exact Nat.ne_of_gt hlen hzero
    · obtain ⟨y, hy, rfl⟩ := List.mem_map.1 hx
      obtain ⟨k, hk, rfl⟩ := List.mem_map.1 hy
      exact (hrows k (List.mem_range.1 hk)).1
  unfold gatherWord
  rw [hop]
  dsimp only
  rw [State.guarded_of_in, hin, State.unlocked_one hfree, hclean, List.range_eq_range', gatherRows_eq]
  intro x hx
  rcases List.mem_cons.1 hx with rfl | hx
  · exact hdst
  · rw [List.mem_singleton.1 hx]
    exact hix

theorem pendingWord_done (hop : q.word.op = .store m) :
    let src := q.ref m.localRef
    let n := 64 * m.length
    InTile s i b.partition src n → ∀ y words, s.rowStair (batchHome q.batch) q.batch b (m.remote % 128) = some y → 128 ≤ leAt (s.tileRead i src n) 0 1 →
      words = leAt (s.tileRead i src n) 1 1 % 128 → 1 ≤ words → words ≤ 64 → words ≤ 8 * m.length →
      pendingWord i s q b = .done (s.setStair (batchHome q.batch) { y with records := y.records ++ [{ queue := bitsOf m.remote 7 2, priority := bitsOf m.remote 9 3, data := (s.tileRead i src n).take (8 * words), batch := q.batch }] }) := by
  intro src n hsrc y words hy htype hwords hone hmax hfit
  subst hwords
  unfold pendingWord
  rw [hop]
  dsimp only
  rw [State.guarded_one hsrc, if_neg, hy]
  rintro (h | h | h | h)
  · exact Nat.not_lt.2 htype h
  · exact Nat.ne_of_gt hone h
  · exact Nat.not_lt.2 hmax h
  · exact Nat.not_lt.2 hfit h

end

theorem movesAreExact : MovesAreExact := by
  refine ⟨fun s i q b m hruns hop => ?_, fun s i q b m hruns hop hkind hlen => ?_, fun s i q b m hruns hop => ?_⟩
  · have hb := Begins.begun s i q
    intro n dst d off
    have hmine (hkind : m.kind ≠ 2) : TileOp.isLoad q.word.op = true := by rw [hop]; simpa [TileOp.isLoad] using hkind
    refine ⟨fun hkind hdst hown hremote hfree => ?_, fun hkind hdst hown => ?_, fun hkind hlong => ?_, fun hkind hdst hin hfree hclean => ?_,
      fun hkind hdst hregion hlong => ?_, fun hkind hdst hregion hfit hlarder => ?_⟩
    · refine congrArg Host.Outcome.next (State.runWord_done hruns (hmine (by rw [hkind]; decide)) ?_)
      rw [loadWord_tile hop hkind (hb.inTile hdst), State.ownTile_of_owns (by rw [hb.ownsTile]; exact hown), State.guarded_one (hb.inTile hremote),
        State.unlocked_one (by rw [hb.lockedAt]; exact hfree), hb.tileRead]
    · refine congrArg Host.Outcome.next (State.runWord_fault hruns (hmine (by rw [hkind]; decide)) ?_)
      rw [loadWord_tile hop hkind (hb.inTile hdst), State.ownTile_of_foreign (by rw [hb.ownsTile]; exact hown)]
    · refine congrArg Host.Outcome.next (State.runWord_fault hruns (hmine hkind) ?_)
      unfold loadWord
      rw [hop]
      exact State.guarded_beyond (List.mem_singleton.2 rfl) hlong
    · refine congrArg Host.Outcome.next (State.runWord_done hruns (hmine (by rw [hkind]; decide)) ?_)
      rw [loadWord_window hop hkind (hb.inTile hdst)]
      dsimp only
      rw [hb.window, hb.poisonedAt, hclean, State.inWindow_of_in (List.cons_ne_nil _ _), State.unlocked_one (by rw [hb.lockedAt]; exact hfree), hb.regionRead]
      intro x hx
      rw [List.mem_singleton.1 hx]
      unfold InWindow
      rw [hb.partOf]
      exact hin
    · refine congrArg Host.Outcome.next (State.runWord_fault hruns (hmine (by rw [hkind]; decide)) ?_)
      rw [loadWord_window hop hkind (hb.inTile hdst)]
      dsimp only
      rw [hb.window, State.inWindow, hb.partOf, if_neg (Nat.not_lt.2 hregion), if_pos (by simpa using hlong)]
    · refine congrArg Host.Outcome.next (State.runWord_fault hruns (hmine (by rw [hkind]; decide)) ?_)
      rw [loadWord_window hop hkind (hb.inTile hdst)]
      dsimp only
      rw [hb.window, State.inWindow, hb.partOf, if_neg (Nat.not_lt.2 hregion), if_neg (by simpa using hfit), if_pos (by simpa using hlarder)]
  · have hb := Begins.begun s i q
    intro units ix dst d row hdst hix hfree hrows
    have hmine : TileOp.isGather q.word.op = true := by rw [hop]; simpa [TileOp.isGather] using hkind
    refine congrArg Host.Outcome.next (State.runWord_done hruns hmine ?_)
    have hdone := gatherWord_done (s := s.begun i q) (i := i) (b := b) hop hlen
    simp only [InWindow, hb.window, hb.tileRead, hb.lockedAt, hb.poisonedAt, hb.partOf, hb.regionRead] at hdone
    exact hdone (hb.inTile hdst) (hb.inTile hix) hfree hrows
  · have hb := Begins.begun s i q
    intro n src d off hsrc
    have hmine (hkind : m.kind ≠ 3) : TileOp.isStore q.word.op = true := by rw [hop]; simpa [TileOp.isStore] using hkind
    refine ⟨fun hkind hown hremote hfree => ?_, fun hkind hown hremote hlocked => ?_, fun hkind hin => ?_,
      fun hkind y words hy htype hwords hone hmax hfit => ?_⟩
    · refine congrArg Host.Outcome.next (State.runWord_done hruns (hmine (by rw [hkind]; decide)) ?_)
      rw [storeWord_tile hop hkind (hb.inTile hsrc), State.ownTile_of_owns (by rw [hb.ownsTile]; exact hown), State.guarded_one (hb.inTile hremote),
        State.unlocked_one (by rw [hb.lockedAt]; exact hfree), hb.tileRead]
    · refine congrArg Host.Outcome.next (State.runWord_wait hruns (hmine (by rw [hkind]; decide)) ?_)
      rw [storeWord_tile hop hkind (hb.inTile hsrc), State.ownTile_of_owns (by rw [hb.ownsTile]; exact hown), State.guarded_one (hb.inTile hremote)]
      exact State.unlocked_waits (List.mem_singleton.2 rfl) (by rw [hb.lockedAt]; exact hlocked)
    · refine congrArg Host.Outcome.next (State.runWord_done hruns (hmine (by rw [hkind]; decide)) ?_)
      rw [storeWord_window hop hkind (hb.inTile hsrc) (by unfold InWindow; rw [hb.window, hb.partOf]; exact hin), hb.window, hb.tileRead]
    · refine congrArg Host.Outcome.next (State.runWord_done hruns (by rw [hop]; simpa [TileOp.isPending] using hkind) ?_)
      have hdone := pendingWord_done (s := s.begun i q) (i := i) (b := b) hop
      simp only [hb.tileRead, hb.rowStair] at hdone
      exact hdone (hb.inTile hsrc) y words hy htype hwords hone hmax hfit

/-- Settles O19: `tokensWaitAndSignal` gives tokens, waits and completion, `movesAreExact` what LOAD, GATHER, STORE and PENDING move. -/
theorem tokensAndMoves : Obligations.TokensAndMoves := ⟨tokensWaitAndSignal, movesAreExact⟩

end Sys2Proof.Machine
end

section
/-!
Proofs for feeds and the start of passes (R333 to R341, R364, R365, R373, R374, R386, R387, R398, R400).
-/
open Sys2Proof Sys2Proof.Machine Sys2Proof.Claims

namespace Sys2Proof.Machine

/-! ### FEED (R338 to R341) -/

theorem mget_foldl_mput {α : Type} (d : α) (v : Nat → α) (t : Tab α) (n j : Nat) :
    mget d ((List.range n).foldl (fun t k => mput t k (v k)) t) j = if j < n then v j else mget d t j := by
  induction n with
  | zero => rfl
  | succ n ih =>
    rw [List.range_succ, List.foldl_append, List.foldl_cons, List.foldl_nil]
    by_cases hj : j = n
    · rw [hj, mget_mput_same, if_pos (Nat.lt_succ_self n)]
    · rw [mget_mput_other _ _ _ hj, ih]
      by_cases hlt : j < n
      · rw [if_pos hlt, if_pos (by omega)]
      · rw [if_neg hlt, if_neg (by omega)]

theorem ScaleSet.reg_load (y : ScaleSet) (bs : Bytes) (tag j : Nat) :
    (y.load bs tag).reg j = if j < bs.length / 8 then leAt bs (8 * j) 8 else y.reg j := mget_foldl_mput ..

section
variable {s : State} {i : Nat} {q : Issued} {b : Batch} {f : FeedOp}

theorem feedData_eq (hop : q.word.op = .feed f) (hin : InTile s i b.partition (q.ref f.src) (64 * f.length)) :
    feedData i s q b =
      let x := (s.tile i).arr f.array
      let h := if f.target = 0 then x.aHalf f.half else x.bHalf f.half
      if h.full then .wait
      else
        let h := h.fill (s.tileRead i (q.ref f.src) (64 * f.length)) f.tag
        .done (s.setArr i f.array (if f.target = 0 then x.setA f.half h else x.setB f.half h).advance) := by
  unfold feedData
  rw [hop]
  exact State.guarded_one hin

theorem feedScale_eq (hop : q.word.op = .feed f) (hin : InTile s i b.partition (q.ref f.src) (64 * f.length)) :
    feedScale i s q b =
      let x := (s.tile i).arr f.array
      if x.setInUse x.nextPass then .wait
      else .done (s.setArr i f.array (x.setSet x.nextPass ((x.set x.nextPass).load (s.tileRead i (q.ref f.src) (64 * f.length)) f.tag))) := by
  unfold feedScale
  rw [hop]
  exact State.guarded_one hin

/-- R398: the codebook that a feed's source holds. -/
def State.feedBookOf (s : State) (i : Nat) (q : Issued) (f : FeedOp) : Codebook :=
  let size := if f.cbSize = 0 then 16 else 256
  { size := size, entries := (elements 16 (s.tileRead i (q.ref f.src) (2 * size))).map (BitVec.ofNat 16) }

/-- An array whose codebook slot `k` holds `c`. -/
def MatArray.withBook (x : MatArray) (isA : Bool) (k : Nat) (c : Codebook) : MatArray :=
  if isA then { x with cbA := mput x.cbA k c } else { x with cbB := mput x.cbB k c }

theorem feedBook_eq (hop : q.word.op = .feed f) (hin : InTile s i b.partition (q.ref f.src) (2 * (if f.cbSize = 0 then 16 else 256))) :
    feedBook i s q b =
      let x := (s.tile i).arr f.array
      let c := s.feedBookOf i q f
      if x.usesCodebook (f.target == 3) f.cbSlot then .wait
      else if codebookOk (f.target == 3) c.entries then
        .done (s.setArr i f.array (x.withBook (f.target == 3) f.cbSlot c))
      else .fault (s.countFault b q (Ctr.tileFaultCodebook i)) 4 := by
  unfold feedBook
  rw [hop]
  exact State.guarded_one hin

end

theorem feedsFillHalves : FeedsFillHalves := by
  intro s i q b f hruns hop x bs book
  have hb := Begins.begun s i q
  have harr : ((s.begun i q).tile i).arr f.array = x := hb.arr ..
  have hmine (targets : List Nat) (h : targets.contains f.target = true) : TileOp.isFeed targets q.word.op = true := by rw [hop]; exact h
  refine ⟨fun htarget hin => ?_, fun htarget hin => ?_, fun htarget hin => ?_, fun hlo hhi hin => ?_⟩
  · have hbody := feedData_eq (b := b) hop (hb.inTile hin)
    dsimp only at hbody
    rw [harr, hb.tileRead, if_pos htarget] at hbody
    have hmine' := hmine [0, 1] (by rw [htarget]; rfl)
    refine ⟨fun hfull => congrArg Host.Outcome.next (State.runWord_wait hruns hmine' ?_), fun hempty => congrArg Host.Outcome.next (State.runWord_done hruns hmine' ?_)⟩
    · rw [hbody, if_pos hfull]
    · rw [hbody, if_neg (by simp [hempty]), if_pos htarget]
      rfl
  · have hbody := feedData_eq (b := b) hop (hb.inTile hin)
    have hne : ¬ f.target = 0 := by rw [htarget]; decide
    dsimp only at hbody
    rw [harr, hb.tileRead, if_neg hne] at hbody
    have hmine' := hmine [0, 1] (by rw [htarget]; rfl)
    refine ⟨fun hfull => congrArg Host.Outcome.next (State.runWord_wait hruns hmine' ?_), fun hempty => congrArg Host.Outcome.next (State.runWord_done hruns hmine' ?_)⟩
    · rw [hbody, if_pos hfull]
    · rw [hbody, if_neg (by simp [hempty]), if_neg hne]
      rfl
  · have hbody := feedScale_eq (b := b) hop (hb.inTile hin)
    dsimp only at hbody
    rw [harr, hb.tileRead] at hbody
    have hmine' := hmine [2] (by rw [htarget]; rfl)
    refine ⟨fun hused => congrArg Host.Outcome.next (State.runWord_wait hruns hmine' ?_), fun hfree =>
      ⟨(x.set x.nextPass).load bs f.tag, rfl, fun j => ?_, congrArg Host.Outcome.next (State.runWord_done hruns hmine' ?_)⟩⟩
    · rw [hbody, if_pos hused]
    · rw [ScaleSet.reg_load]
      have hlen : bs.length = 64 * f.length := length_memRead ..
      have height : bs.length / 8 = 8 * f.length := by
        rw [hlen]
        exact Nat.div_eq_of_eq_mul_left (by decide) (by ring)
      rw [height]
    · rw [hbody, if_neg (by simp [hfree])]
  · have hbody := feedBook_eq (b := b) hop (hb.inTile hin)
    have hbook : (s.begun i q).feedBookOf i q f = { size := if f.cbSize = 0 then 16 else 256, entries := book.map (BitVec.ofNat 16) } := by
      simp only [State.feedBookOf, hb.tileRead]
      rfl
    dsimp only at hbody
    rw [harr, hbook] at hbody
    have hmine' := hmine [3, 4] (by
      rcases Nat.eq_or_lt_of_le hlo with h | h
      · rw [← h]; rfl
      · rw [Nat.le_antisymm hhi h]; rfl)
    refine ⟨fun hused => congrArg Host.Outcome.next (State.runWord_wait hruns hmine' ?_), fun hfree hbad =>
      congrArg Host.Outcome.next (State.runWord_fault hruns hmine' ?_), fun hfree hok =>
      ⟨x.withBook (f.target == 3) f.cbSlot { size := if f.cbSize = 0 then 16 else 256, entries := book.map (BitVec.ofNat 16) }, congrArg Host.Outcome.next (State.runWord_done hruns hmine' ?_), ?_, ?_⟩⟩
    · rw [hbody, if_pos hused]
    · rw [hbody, if_neg (by simp [hfree]), if_neg (by simp [hbad])]
    · rw [hbody, if_neg (by simp [hfree]), if_pos hok]
    · intro htarget
      rw [htarget]
      exact ⟨rfl, fun k => mget_mput ..⟩
    · intro htarget
      rw [htarget]
      exact ⟨rfl, fun k => mget_mput ..⟩

/-! ### Passes start (R333, R364, R365, R374, R386, R387, R400) -/

theorem SameArrays.startWord (s : State) (i : Nat) (q : Issued) : SameArrays s (s.startWord i q) := ⟨(Begins.startWord s i q).arr⟩

section
variable {s : State} {i a : Nat} {q : Issued} {b : Batch} {p : PassOp} {pre : List (BitVec 32)}

/-- The operation of a pass word. -/
def TileOp.passOp : TileOp → Option PassOp
  | .mma p => some p
  | .sel p => some p
  | .dist p => some p
  | _ => none

theorem State.headPass_of_head (hhead : ((s.tile i).queue (3 + a)).head? = some q) (hop : q.word.op.passOp = some p) : s.headPass i a = some (q, p) := by
  obtain ⟨rest, hqueue⟩ := List.head?_eq_some_iff.1 hhead
  unfold State.headPass
  rw [hqueue]
  unfold TileOp.passOp at hop
  split at hop
  · next h =>
    obtain rfl := Option.some.inj hop
    simp only [h]
  · next h =>
    obtain rfl := Option.some.inj hop
    simp only [h]
  · next h =>
    obtain rfl := Option.some.inj hop
    simp only [h]
  · exact nomatch hop

/-- A pass word that can start. -/
theorem State.startArray_eq (h : PassStarts s i a q b p pre) (hop : q.word.op.passOp = some p) :
    s.startArray i a q.word.op.opcode {} =
      if ((s.tile i).arr a).badCodebook q.word.op.opcode p then
        (((s.startWord i q).popQueue i (3 + a)).countFault b q (Ctr.tileFaultCodebook i)).faultBatch q.batch 4 false
      else started s i a q p pre := by
  obtain ⟨⟨hhead, hbatch, hruns, -⟩, hready, hcan, hpre⟩ := h
  have harr : (((s.startWord i q).popQueue i (3 + a)).tile i).arr a = (s.tile i).arr a :=
    ((SameArrays.startWord s i q).trans (.of_calm (Quiet.popQueue ..).toCalm)).arr i a
  unfold State.startArray
  rw [State.headPass_of_head hhead hop]
  dsimp only
  rw [hbatch]
  dsimp only
  rw [if_neg (by simp [hruns, hready, hcan]), State.countCorrected_none, harr, hpre, Option.getD_some]
  rfl

theorem headPass_of_runs (hruns : Runs s i (3 + a) q b) (hop : q.word.op = .mma p ∨ q.word.op = .sel p ∨ q.word.op = .dist p) :
    s.headPass i a = some (q, p) := by
  refine State.headPass_of_head hruns.1 ?_
  rcases hop with h | h | h <;> rw [h] <;> rfl

/-- A change of an array, counted with a batch, changes no other tile and nothing else of its own. -/
theorem State.tile_setArr_countBatch (s : State) (i a : Nat) (x : MatArray) (id : Nat) (l : List (Nat × Nat)) :
    (∀ j, j ≠ i → ((s.setArr i a x).countBatch id l).tile j = s.tile j) ∧ ((s.setArr i a x).countBatch id l).tile i = (s.tile i).setArr a x := by
  have htile (j : Nat) : ((s.setArr i a x).countBatch id l).tile j = (s.setArr i a x).tile j := by
    unfold State.countBatch
    split
    · split
      · rfl
      · rw [State.tile, State.setBatch, State.setWing_tiles]
        rfl
    · rfl
  exact ⟨fun j hj => (htile j).trans (State.tile_modTile_other _ _ hj), (htile i).trans (State.tile_modTile ..)⟩

theorem exec_formChange (hruns : Runs s i (3 + a) q b) (hready : s.tokenReady i (3 + a) q = true)
    (hop : q.word.op = .mma p ∨ q.word.op = .sel p ∨ q.word.op = .dist p) (hform : ((s.tile i).arr a).form ≠ p.form) (hlive : ((s.tile i).arr a).live = []) :
    Gives (.formChange i a) s ((s.setArr i a { (s.tile i).arr a with form := p.form, pre := [] }).countBatch q.batch [(arrCtr i a Ctr.arr_formChanges, 1)]) := by
  change execFormChange i a s = _
  unfold execFormChange
  simp only [headPass_of_runs hruns hop, hform, hlive, hruns.2.2.1, hready, List.isEmpty_nil, not_true_eq_false, or_self, if_false]

theorem exec_rampUp (hruns : Runs s i (3 + a) q b) (hready : s.tokenReady i (3 + a) q = true)
    (hop : q.word.op = .mma p ∨ q.word.op = .sel p ∨ q.word.op = .dist p) (hparked : ((s.tile i).arr a).parked = true) :
    Gives (.rampUp i a) s ((s.setArr i a { (s.tile i).arr a with parked := false }).countBatch q.batch [(arrCtr i a Ctr.arr_ramps, 1)]) := by
  change execRampUp i a s = _
  unfold execRampUp
  simp only [headPass_of_runs hruns hop, hparked, hruns.2.2.1, hready, not_true_eq_false, or_self, if_false]

theorem exec_rampDown (hparked : ((s.tile i).arr a).parked = false) (hqueue : (s.tile i).queue (3 + a) = []) (hfree : s.wingFree (tileWing i) = true) :
    Gives (.rampDown i a) s (if ((s.tile i).arr a).live.any (fun p => !p.completed) then s else s.setArr i a { (s.tile i).arr a with parked := true }) := by
  change execRampDown i a s = _
  unfold execRampDown
  simp only [hparked, hqueue, hfree, List.isEmpty_nil, not_true_eq_false, Bool.false_eq_true, false_or]

end

theorem passesStart : PassesStart := by
  refine ⟨fun s i a q b p pre hstarts => ?_, fun s i a q b p hruns hready hop => ?_, fun s i a => ?_⟩
  · have heq (hop : q.word.op.passOp = some p) := State.startArray_eq hstarts hop
    refine ⟨fun hop hgood => ?_, fun hop hgood => ?_, fun hop hgood => ?_, fun hop hbad => ?_⟩
    all_goals
      have hexec := heq (by rw [hop]; rfl)
      rw [hop] at hexec
      refine congrArg Host.Outcome.next (hexec.trans ?_)
    · exact if_neg (by rw [show TileOp.opcode (.mma p) = 0x10 from rfl, hgood]; exact Bool.false_ne_true)
    · exact if_neg (by rw [show TileOp.opcode (.sel p) = 0x11 from rfl, hgood]; exact Bool.false_ne_true)
    · exact if_neg (by rw [show TileOp.opcode (.dist p) = 0x12 from rfl, hgood]; exact Bool.false_ne_true)
    · exact if_pos hbad
  · intro x
    exact ⟨fun hform hlive => ⟨_, exec_formChange hruns hready hop hform hlive, State.tile_setArr_countBatch ..⟩,
      fun hparked => ⟨_, exec_rampUp hruns hready hop hparked, State.tile_setArr_countBatch ..⟩⟩
  · intro x hparked hqueue hfree
    have hexec := exec_rampDown (a := a) hparked hqueue hfree
    refine ⟨fun hall => ?_, fun ⟨p, hp, hopen⟩ => ?_⟩
    · rwa [if_neg] at hexec
      simpa using hall
    · rwa [if_pos] at hexec
      exact List.any_eq_true.2 ⟨p, hp, by rw [hopen]; rfl⟩

/-- Settles O20: `feedsFillHalves` gives the feeds by their targets, `passesStart` how passes start and how an array changes its form and parks. -/
theorem feedsAndPasses : Obligations.FeedsAndPasses := ⟨feedsFillHalves, passesStart⟩

end Sys2Proof.Machine
end

section
/-!
Proofs for what leaves an array (R336, R342, R343, R374 to R382) and for held tags (R447 to R451).
-/
open Sys2Proof Sys2Proof.Machine Sys2Proof.Claims

namespace Sys2Proof.Machine

/-! ### Values in tile memory -/

theorem drop_memRead (m : Mem) (a k n : Nat) : (memRead m a (k + n)).drop k = memRead m (a + k) n := by
  induction k generalizing a with
  | zero => rw [Nat.zero_add]; rfl
  | succ k ih =>
    rw [show k + 1 + n = (k + n) + 1 by omega, memRead, List.drop_succ_cons, ih]
    congr 1
    omega

theorem take_memRead (m : Mem) (a k n : Nat) : (memRead m a (k + n)).take k = memRead m a k := by
  induction k generalizing a with
  | zero => rfl
  | succ k ih => rw [show k + 1 + n = (k + n) + 1 by omega, memRead, List.take_succ_cons, ih, memRead]

theorem f32s_memRead (m : Mem) (a n : Nat) : f32s n (memRead m a (4 * n)) = (List.range n).map (fun j => f32Of (memRead m (a + 4 * j) 4)) := by
  induction n generalizing a with
  | zero => rfl
  | succ n ih =>
    rw [show 4 * (n + 1) = 4 + 4 * n by omega, f32s, take_memRead, drop_memRead, ih, List.range_succ_eq_map, List.map_cons, List.map_map]
    refine congrArg (_ :: ·) (List.map_congr_left fun j _ => ?_)
    rw [Function.comp, show a + 4 + 4 * j = a + 4 * (j + 1) by omega]

/-- Element `c` of copy `r`. -/
theorem getElem?_flatten_replicate {α : Type} {l : List α} {m r c : Nat} (hr : r < m) (hc : c < l.length) :
    (List.replicate m l).flatten[r * l.length + c]? = l[c]? := by
  induction r generalizing m with
  | zero =>
    obtain ⟨m, rfl⟩ : ∃ k, m = k + 1 := ⟨m - 1, by omega⟩
    rw [List.replicate_succ, List.flatten_cons, Nat.zero_mul, Nat.zero_add, List.getElem?_append_left hc]
  | succ r ih =>
    obtain ⟨m, rfl⟩ : ∃ k, m = k + 1 := ⟨m - 1, by omega⟩
    rw [List.replicate_succ, List.flatten_cons, Nat.succ_mul, List.getElem?_append_right (by omega), ← ih (m := m) (by omega)]
    congr 1
    omega

/-- R343: the values of a PRELOAD, row after row. -/
theorem preloadValues_spec (s : State) (i : Nat) {d : DrainOp} (hsource : d.source ≤ 2) (m n a : Nat) :
    let v := preloadValues d m n (s.tileRead i a (preloadBytes d m n))
    v.length = m * n ∧ ∀ r c, r < m → c < n → v[r * n + c]? = some (
      if d.source = 0 then 0
      else if d.source = 1 then f32Of (s.tileRead i (a + 4 * c) 4)
      else f32Of (s.tileRead i (a + 4 * (r * n + c)) 4)) := by
  have hcell {r c : Nat} (hr : r < m) (hc : c < n) : r * n + c < m * n := by
    calc r * n + c < r * n + n := by omega
      _ = (r + 1) * n := by ring
      _ ≤ m * n := Nat.mul_le_mul_right n hr
  obtain h | h | h : d.source = 0 ∨ d.source = 1 ∨ d.source = 2 := by
    rcases Nat.lt_or_ge d.source 1 with h | h
    · exact .inl (Nat.lt_one_iff.1 h)
    · rcases Nat.eq_or_lt_of_le h with h | h
      · exact .inr (.inl h.symm)
      · exact .inr (.inr (Nat.le_antisymm hsource h))
  · refine ⟨by simp [preloadValues, h], fun r c hr hc => ?_⟩
    simp only [preloadValues, h, if_true, List.getElem?_replicate, if_pos (hcell hr hc)]
  · have hvalues : preloadValues d m n (s.tileRead i a (preloadBytes d m n)) =
        (List.replicate m ((List.range n).map (fun j => f32Of (memRead (s.tile i).mem (a + 4 * j) 4)))).flatten := by
      simp only [preloadValues, preloadBytes, h, State.tileRead, f32s_memRead]
    intro v
    rw [show v = _ from hvalues, h]
    refine ⟨by simp, fun r c hr hc => ?_⟩
    have hrow := getElem?_flatten_replicate (l := (List.range n).map (fun j => f32Of (memRead (s.tile i).mem (a + 4 * j) 4))) hr (c := c) (by simpa using hc)
    rw [List.length_map, List.length_range, List.getElem?_map, List.getElem?_range hc] at hrow
    exact hrow
  · have hvalues : preloadValues d m n (s.tileRead i a (preloadBytes d m n)) =
        (List.range (m * n)).map (fun j => f32Of (memRead (s.tile i).mem (a + 4 * j) 4)) := by
      simp only [preloadValues, preloadBytes, h, State.tileRead, Nat.mul_assoc, f32s_memRead]
    intro v
    rw [show v = _ from hvalues, h]
    refine ⟨by simp, fun r c hr hc => ?_⟩
    rw [List.getElem?_map, List.getElem?_range (hcell hr hc)]
    rfl

/-! ### PASS_COMPLETE (R336, R374) -/

@[simp] theorem MatArray.aHalf_setA (x : MatArray) (h : Nat) (y : Half) : (x.setA h y).aHalf h = y := by
  unfold MatArray.setA MatArray.aHalf
  split <;> rfl

@[simp] theorem MatArray.bHalf_setB (x : MatArray) (h : Nat) (y : Half) : (x.setB h y).bHalf h = y := by
  unfold MatArray.setB MatArray.bHalf
  split <;> rfl

@[simp] theorem MatArray.aHalf_setB (x : MatArray) (h k : Nat) (y : Half) : (x.setB h y).aHalf k = x.aHalf k := by
  unfold MatArray.setB
  split <;> rfl

@[simp] theorem MatArray.bHalf_setA (x : MatArray) (h k : Nat) (y : Half) : (x.setA h y).bHalf k = x.bHalf k := by
  unfold MatArray.setA
  split <;> rfl

/-- A filled or emptied half changes the halves of its feeder alone. -/
theorem MatArray.setA_keeps {α : Type} (f : MatArray → α) (hf : ∀ x y z, f { x with a0 := y, a1 := z } = f x) (x : MatArray) (h : Nat) (y : Half) :
    f (x.setA h y) = f x := by
  unfold MatArray.setA
  split
  · exact hf x y x.a1
  · exact hf x x.a0 y

theorem MatArray.setB_keeps {α : Type} (f : MatArray → α) (hf : ∀ x y z, f { x with b0 := y, b1 := z } = f x) (x : MatArray) (h : Nat) (y : Half) :
    f (x.setB h y) = f x := by
  unfold MatArray.setB
  split
  · exact hf x y x.b1
  · exact hf x x.b0 y

theorem MatArray.releaseHalves_keeps {α : Type} (f : MatArray → α) (hA : ∀ x y z, f { x with a0 := y, a1 := z } = f x)
    (hB : ∀ x y z, f { x with b0 := y, b1 := z } = f x) (x : MatArray) (p : Pass) : f (x.releaseHalves p) = f x := by
  unfold MatArray.releaseHalves
  dsimp only
  split
  · rw [MatArray.setB_keeps f hB]
    split
    · exact MatArray.setA_keeps f hA ..
    · rfl
  · split
    · exact MatArray.setA_keeps f hA ..
    · rfl

/-- R336: a half stays FULL unless its release bit is set. -/
theorem MatArray.full_releaseHalves (x : MatArray) (p : Pass) :
    ((x.releaseHalves p).aHalf p.aHalf).full = ((x.aHalf p.aHalf).full && (p.op.aRelease != 1)) ∧
      ((x.releaseHalves p).bHalf p.bHalf).full = ((x.bHalf p.bHalf).full && (p.op.bRelease != 1)) := by
  unfold MatArray.releaseHalves
  by_cases ha : p.op.aRelease = 1 <;> by_cases hb : p.op.bRelease = 1 <;> simp [ha, hb, Half.empty]

theorem SameGraphs.setBatch {s : State} {id : Nat} {b c : Batch} (h : s.batchOf id = some b) (hgraph : c.graph = b.graph) : SameGraphs s (s.setBatch id c) := by
  refine ⟨fun j => ?_⟩
  rw [State.batchOf_setBatch]
  split
  · next hj => rw [hj, h, Option.map_some, Option.map_some, hgraph]
  · rfl

theorem SameGraphs.countBatch (s : State) (id : Nat) (l : List (Nat × Nat)) : SameGraphs s (s.countBatch id l) := by
  unfold State.countBatch
  cases hb : s.batchOf id with
  | none => exact .refl s
  | some b =>
    dsimp only
    split
    · exact .refl s
    · exact .setBatch hb rfl

section
variable {s : State} {i a : Nat} {p : Pass} {b : Batch}

/-- R374, R391: what a completed pass leaves besides its array. -/
theorem State.completePass_spec (hb : s.batchOf p.issued.batch = some b) (hgraph : b.graph ≠ .rollout) :
    Calm (s.setArr i a ((((s.tile i).arr a).setPass { p with completed := true }).releaseHalves p)) (s.completePass i a p b) := by
  have hstart : SameGraphs s (s.setArr i a ((((s.tile i).arr a).setPass { p with completed := true }).releaseHalves p)) := .setTile ..
  unfold State.completePass
  dsimp only
  generalize s.setArr i a ((((s.tile i).arr a).setPass { p with completed := true }).releaseHalves p) = u at hstart
  have hcounted (l : List (Nat × Nat)) (k n : Nat) : Quiet u ((u.countBatch p.issued.batch l).countFor b k n) :=
    (Quiet.countBatch ..).trans (.countFor ..)
  have hgraphs (l : List (Nat × Nat)) (k n : Nat) : SameGraphs u ((u.countBatch p.issued.batch l).countFor b k n) :=
    (SameGraphs.countBatch ..).trans (.ite (.refl _) (.of_wings rfl rfl))
  have hno : ∀ y, s.batchOf p.issued.batch = some y → y.graph ≠ .rollout := fun y hy => Option.some.inj (hb.symm.trans hy) ▸ hgraph
  refine ((hcounted ..).toCalm.trans ((Quiet.attributed ..).toCalm.trans (State.completeWord_spec ..).1)).trans (Quiet.goesOn ?_).toCalm
  exact (((hstart.trans (hgraphs ..)).trans (.attributed ..)).trans (.completeWord ..)).no_rollout hno

theorem exec_passComplete (hp : ((s.tile i).arr a).live.find? (fun y => !y.completed) = some p) (hb : s.batchOf p.issued.batch = some b)
    (hruns : s.tileRuns i = true) : Gives (.passComplete i a) s
      (if p.op.k ≤ p.k ∧ (p.n < 2 ∨ ((s.tile i).arr a).left (p.n - 2)) then s.completePass i a p b else s) := by
  change execPassComplete i a s = _
  unfold execPassComplete MatArray.finishing
  rw [hp, Option.bind_some]
  by_cases h : p.op.k ≤ p.k ∧ (p.n < 2 ∨ ((s.tile i).arr a).left (p.n - 2))
  · rw [if_pos h, if_pos h]
    simp only [hb, hruns, if_true]
  · rw [if_neg h, if_neg h]

end

/-! ### Words of a DRAIN engine (R317, R342, R376 to R379) -/

/-- R317, R319: what completes in a DRAIN engine's queue changes no array. -/
theorem SameArrays.completeDrains (i a n : Nat) (s : State) : SameArrays s (completeDrains i a n s) := by
  induction n generalizing s with
  | zero => exact .refl s
  | succ n ih =>
    unfold Machine.completeDrains
    split
    · exact .refl s
    · split
      · exact .refl s
      · exact .ite ((SameArrays.completed ..).trans (ih _)) (.refl s)

section
variable {s : State} {i a : Nat}

/-- Nothing completes while the head of the queue has not had its effect. -/
theorem completeDrains_waits {q : Issued} {rest : List Issued} (hqueue : (s.tile i).queue (drainEngine a) = q :: rest)
    (hopen : q.drainDone ((s.tile i).arr a) = false) (n : Nat) : completeDrains i a n s = s := by
  cases n with
  | zero => rfl
  | succ n =>
    unfold completeDrains
    rw [hqueue]
    dsimp only
    split
    · rfl
    · rw [if_neg (by rw [hopen]; exact Bool.false_ne_true)]

theorem State.shiftOut_idle (h : ∀ z ∈ (s.tile i).queue (drainEngine a), z.draining = false) : s.shiftOut i a = s := by
  have hnone : ((s.tile i).queue (drainEngine a)).findIdx? Issued.draining = none := List.findIdx?_eq_none_iff.2 h
  unfold State.shiftOut
  dsimp only
  rw [hnone]

theorem Issued.not_draining {z : Issued} (h : z.started = false) : z.draining = false := by
  unfold Issued.draining
  split
  · rw [h, Bool.and_false, Bool.false_and]
  · rfl

/-! ### SWAP (R377) -/

theorem MatArray.pass_setPass {x : MatArray} {p : Pass} (hp : p ∈ x.live) {p' : Pass} (hn : p'.n = p.n) : (x.setPass p').pass p.n = some p' := by
  have hfind (l : List Pass) (hl : p ∈ l) : (l.map (fun y => if y.n = p'.n then p' else y)).find? (fun y => y.n == p.n) = some p' := by
    induction l with
    | nil => exact absurd hl List.not_mem_nil
    | cons y l ih =>
      by_cases hy : y.n = p.n
      · rw [List.map_cons, if_pos (hy.trans hn.symm), List.find?_cons_of_pos (by simpa using hn)]
      · rw [List.map_cons, if_neg fun h => hy (h.trans hn), List.find?_cons_of_neg (by simpa using hy)]
        refine ih ((List.mem_cons.1 hl).resolve_left fun h => hy (h ▸ rfl))
  exact hfind x.live hp

/-- R375, R379: the bank of the pass after next is free in the columns that have swapped. -/
theorem MatArray.freed_setPass {x : MatArray} {p : Pass} (hp : p ∈ x.live) (j : Nat) : (x.setPass { p with swapped := j + 1 }).freed (p.n + 2) j = true := by
  have hpass : (x.setPass { p with swapped := j + 1 }).pass p.n = some { p with swapped := j + 1 } := MatArray.pass_setPass hp rfl
  unfold MatArray.freed MatArray.swappedOf
  rw [Nat.add_sub_cancel, hpass]
  simp

theorem exec_swap {j : Nat} {p : Pass} (hp : ((s.tile i).arr a).swapping j = some p) (hruns : s.tileRuns i = true) : Gives (.swap i a j) s
    (if ((s.tile i).arr a).swapReady p j then
      completeDrains i a 8 ((s.setArr i a (((s.tile i).arr a).setPass { p with swapped := j + 1 })).shiftOut i a) else s) := by
  change execSwap i a j s = _
  unfold execSwap
  simp only [hp, hruns, and_true]

/-! ### DRAIN (R342, R378) -/

theorem Tile.setArr_keeps {α : Type} (f : Tile → α) (hf : ∀ t x y, f { t with arr0 := x, arr1 := y } = f t) (t : Tile) (a : Nat) (x : MatArray) :
    f (t.setArr a x) = f t := by
  unfold Tile.setArr
  split
  · exact hf t x t.arr1
  · exact hf t t.arr0 x

/-- The head of a DRAIN engine's queue has started as `z`, and its array stands as `x`. -/
def State.drainBegun (s : State) (i a : Nat) (q : Issued) (x : MatArray) (z : Issued) : State :=
  ((s.startWord i q).setArr i a x).setQueued i (drainEngine a) 0 z

/-- R318: what a started word of a DRAIN engine leaves. -/
structure DrainStarted (s t : State) (i a : Nat) (x : MatArray) (z : Issued) (rest : List Issued) : Prop where
  arr : (t.tile i).arr a = x
  queue : (t.tile i).queue (drainEngine a) = z :: rest
  queues : ∀ e, e ≠ drainEngine a → (t.tile i).queue e = (s.tile i).queue e
  mem : (t.tile i).mem = (s.tile i).mem
  others : ∃ o l, t = { s with obs := o, tiles := l }

theorem State.drainBegun_spec {q : Issued} {rest : List Issued} (hqueue : (s.tile i).queue (drainEngine a) = q :: rest) (x : MatArray) (z : Issued) :
    DrainStarted s (s.drainBegun i a q x z) i a x z rest := by
  have hb := Begins.startWord s i q
  have htile : (s.drainBegun i a q x z).tile i = { ((s.startWord i q).tile i).setArr a x with
      queues := mput (((s.startWord i q).tile i).setArr a x).queues (drainEngine a) (((((s.startWord i q).tile i).setArr a x).queue (drainEngine a)).set 0 z) } := by
    rw [State.drainBegun, State.setQueued, State.tile_modTile, State.setArr, State.tile_modTile]
  have hqueues (e : Nat) : (((s.startWord i q).tile i).setArr a x).queue e = (s.tile i).queue e :=
    (Tile.setArr_keeps (Tile.queue · e) (fun _ _ _ => rfl) ..).trans (hb.queue i e)
  refine ⟨?_, ?_, fun e he => ?_, ?_, ?_⟩
  · rw [htile]
    exact Tile.arr_setArr ..
  · rw [htile, hqueues, hqueue]
    exact mget_mput_same ..
  · rw [htile]
    exact (mget_mput_other _ _ _ he).trans (hqueues e)
  · rw [htile]
    exact (Tile.setArr_keeps Tile.mem (fun _ _ _ => rfl) ..).trans (hb.tile_keeps Tile.mem (fun _ _ _ _ _ => rfl) i)
  · obtain ⟨o, l, h⟩ := hb.rest
    refine ⟨o, (s.drainBegun i a q x z).tiles, ?_⟩
    rw [State.drainBegun, h]
    rfl

section
variable {q : Issued} {b : Batch} {d : DrainOp} {rest : List Issued}

theorem nextUnstarted_head (h : q.started = false) : nextUnstarted 0 (q :: rest) = some (0, q) := by
  rw [nextUnstarted, h]
  rfl

theorem State.startDrain_eq (hqueue : (s.tile i).queue (drainEngine a) = q :: rest) (hnew : ∀ z ∈ q :: rest, z.started = false) (hop : q.word.op = .drain d)
    (hsub : d.subOp = 0) (hready : s.tokenReady i (drainEngine a) q = true) :
    s.startDrain i a {} = if ((s.tile i).arr a).bufRead then
      s.drainBegun i a q { (s.tile i).arr a with drains := ((s.tile i).arr a).drains + 1 } { q with started := true, bound := ((s.tile i).arr a).drains }
      else s := by
  have hidle : (q :: rest).any Issued.draining = false := List.any_eq_false.2 fun z hz => by rw [Issued.not_draining (hnew z hz)]; exact Bool.false_ne_true
  unfold State.startDrain
  dsimp only
  rw [hqueue, nextUnstarted_head (hnew q List.mem_cons_self)]
  dsimp only
  rw [hop]
  dsimp only
  rw [hidle, hready]
  by_cases hread : ((s.tile i).arr a).bufRead = true
  · rw [if_pos hread, if_neg (by simp [hread, hsub])]
    rfl
  · rw [if_neg hread, if_pos (.inr (.inl hread))]

theorem exec_drain (hruns : s.tileRuns i = true) : Gives (.drain i a {}) s (completeDrains i a 8 ((s.startDrain i a {}).shiftOut i a)) := by
  change execDrain i a {} s = _
  rw [execDrain, if_pos hruns]

/-- R378: what is shifted out under the DRAIN word at the head. -/
theorem State.shiftOut_head {z : Issued} {x : MatArray} {p : Pass} (hqueue : (s.tile i).queue (drainEngine a) = z :: rest) (hz : z.draining = true)
    (hx : (s.tile i).arr a = x) (hp : x.pass z.bound = some p) :
    s.shiftOut i a = if p.swapped < formCols p.op.form then s.setArr i a (x.setPass { p with shifted := p.swapped })
      else (s.setArr i a { x with live := x.live.filter (fun y => y.n != p.n), drainBuf := some p.result, bufRead := false }).setQueued i (drainEngine a) 0
        { z with done := true } := by
  unfold State.shiftOut
  dsimp only
  rw [hqueue, List.findIdx?_cons, hz]
  simp only [if_true, List.getElem?_cons_zero, hx, hp]

end

/-! ### PRELOAD (R343, R376, R379) -/

section
variable {q z : Issued} {b : Batch} {d : DrainOp} {rest : List Issued}

theorem State.startPreload_eq (hqueue : (s.tile i).queue (drainEngine a) = q :: rest) (hnew : q.started = false) (hop : q.word.op = .drain d)
    (hsub : d.subOp = 1) (hready : s.tokenReady i (drainEngine a) q = true) :
    s.startPreload i a = s.drainBegun i a q { (s.tile i).arr a with preloads := ((s.tile i).arr a).preloads + 1 }
      { q with started := true, bound := ((s.tile i).arr a).preloads } := by
  unfold State.startPreload
  dsimp only
  rw [hqueue, nextUnstarted_head hnew]
  dsimp only
  rw [hop]
  dsimp only
  rw [hready, if_neg (by simp [hsub])]
  rfl

/-- The form that a started PRELOAD serves is the one that it served before. -/
theorem DrainStarted.preloadForm {t : State} {x : MatArray} (h : DrainStarted s t i a x z rest) (hpasses : x.passes = ((s.tile i).arr a).passes)
    (hform : x.form = ((s.tile i).arr a).form) (n : Nat) : t.preloadForm i a n = s.preloadForm i a n := by
  have hengine : 3 + a ≠ drainEngine a := by unfold drainEngine; omega
  unfold State.preloadForm
  dsimp only
  rw [h.arr, h.queues _ hengine, hpasses, hform]

theorem DrainStarted.batchOf {t : State} {x : MatArray} (h : DrainStarted s t i a x z rest) (id : Nat) : t.batchOf id = s.batchOf id := by
  obtain ⟨o, l, rfl⟩ := h.others
  rfl

theorem DrainStarted.inTile {t : State} {x : MatArray} (h : DrainStarted s t i a x z rest) {p lo len : Nat} (hin : InTile s i p lo len) :
    InTile t i p lo len := by
  obtain ⟨o, l, rfl⟩ := h.others
  exact hin

/-- R343, R379: the oldest started PRELOAD, at the head of its queue, fills its lane or waits. -/
theorem State.fillPreload_eq {t : State} {x : MatArray} (h : DrainStarted s t i a x z rest) (hb : s.batchOf z.batch = some b) (hop : z.word.op = .drain d)
    (hsub : d.subOp = 1) (hstarted : z.started = true) (hopen : x.filled z.bound = false) {m n : Nat} (hm : m = formRows x.form) (hn : n = formCols x.form)
    (hform : t.preloadForm i a z.bound = x.form) (hin : InTile s i b.partition (z.ref d.src) (preloadBytes d m n)) :
    t.fillPreload i a {} = if x.laneFree z.bound then
        t.setArr i a { x with pre := mput x.pre z.bound (preloadValues d m n (s.tileRead i (z.ref d.src) (preloadBytes d m n))) }
      else t := by
  have hfilling : z.filling x = true := by
    unfold Issued.filling
    simp only [hop, hstarted, hopen, hsub]
    rfl
  have hread (k : Nat) : t.tileRead i (z.ref d.src) k = s.tileRead i (z.ref d.src) k := by rw [State.tileRead, h.mem]; rfl
  have hword : preloadWord i a t z b = if x.laneFree z.bound then
      .done (t.setArr i a { x with pre := mput x.pre z.bound (preloadValues d m n (s.tileRead i (z.ref d.src) (preloadBytes d m n))) }) else .wait := by
    unfold preloadWord
    rw [hop]
    dsimp only
    rw [hform, h.arr, ← hm, ← hn, State.guarded_one (h.inTile hin), hread]
    cases hlane : x.laneFree z.bound <;> simp
  unfold State.fillPreload
  have hfind : (z :: rest).find? (fun q => q.filling x) = some z := List.find?_cons_of_pos hfilling
  rw [h.queue, h.arr, hfind]
  dsimp only
  rw [h.batchOf, hb]
  dsimp only
  rw [State.countCorrected_none, hword]
  by_cases hlane : x.laneFree z.bound = true
  · rw [if_pos hlane, if_pos hlane]
    rfl
  · rw [if_neg hlane, if_neg hlane]

theorem exec_preload (hruns : s.tileRuns i = true) : Gives (.preload i a {}) s (completeDrains i a 8 ((s.startPreload i a).fillPreload i a {})) := by
  change execPreload i a {} s = _
  rw [execPreload, if_pos hruns]

end

end

theorem Issued.drainDone_of_drain {q : Issued} {d : DrainOp} (hop : q.word.op = .drain d) (hsub : d.subOp = 0) (x : MatArray) : q.drainDone x = q.done := by
  simp only [Issued.drainDone, hop, hsub]
  rfl

theorem Issued.drainDone_of_preload {q : Issued} {d : DrainOp} (hop : q.word.op = .drain d) (hsub : d.subOp = 1) {x : MatArray} (hopen : x.filled q.bound = false) :
    q.drainDone x = false := by
  simp only [Issued.drainDone, hop, hsub, MatArray.preloadDone, hopen, Bool.false_and, Bool.and_false, if_true]

theorem resultsMoveOut : ResultsMoveOut := by
  refine ⟨fun s i a p b => ?_, fun s i a j p => ?_, fun s i a q b d rest => ?_, fun s i a q b d => ?_⟩
  · intro x hp hb hgraph hruns
    have hexec := exec_passComplete hp hb hruns
    refine ⟨fun hready => ?_, fun hnot => ?_⟩
    · rw [if_pos hready] at hexec
      have hcalm := State.completePass_spec (i := i) (a := a) hb hgraph
      have harr : ((s.completePass i a p b).tile i).arr a = (x.setPass { p with completed := true }).releaseHalves p :=
        (hcalm.arr i a).trans (State.arr_setArr ..)
      obtain ⟨hfullA, hfullB⟩ := (x.setPass { p with completed := true }).full_releaseHalves p
      refine ⟨_, hexec, ?_, ?_, ?_, ?_, ?_, fun j => ?_⟩
      · rw [harr, MatArray.releaseHalves_keeps MatArray.live (fun _ _ _ => rfl) (fun _ _ _ => rfl)]
        rfl
      · rw [harr]
        exact hfullA
      · rw [harr]
        exact hfullB
      · rw [harr, MatArray.releaseHalves_keeps MatArray.pre (fun _ _ _ => rfl) (fun _ _ _ => rfl)]
        rfl
      · rw [harr, MatArray.releaseHalves_keeps MatArray.drainBuf (fun _ _ _ => rfl) (fun _ _ _ => rfl)]
        rfl
      · rw [hcalm.mem]
        exact State.tile_setTile_keeps s Tile.mem (Tile.setArr_keeps Tile.mem (fun _ _ _ => rfl) ..) j
    · rwa [if_neg hnot] at hexec
  · intro x hp hruns
    have hexec := exec_swap hp hruns
    refine ⟨fun hnot => ?_, fun hready hidle => ?_⟩
    · rwa [if_neg (by rw [hnot]; exact Bool.false_ne_true)] at hexec
    · rw [if_pos hready, State.shiftOut_idle] at hexec
      · have harr := (SameArrays.completeDrains i a 8 (s.setArr i a (x.setPass { p with swapped := j + 1 }))).arr i a
        rw [State.arr_setArr] at harr
        refine ⟨_, hexec, harr, ?_⟩
        rw [harr]
        exact MatArray.freed_setPass (List.mem_of_find?_eq_some hp) j
      · intro z hz
        rw [State.setArr, State.tile_modTile, Tile.setArr_keeps (Tile.queue · (drainEngine a)) (fun _ _ _ => rfl)] at hz
        exact hidle z hz
  · intro x hqueue hruns hready hop hsub hnew
    have hexec := exec_drain (a := a) hruns.2.2.1
    rw [hqueue] at hnew
    rw [State.startDrain_eq hqueue (fun z hz => (hnew z hz).1) hop hsub hready] at hexec
    have hstart := State.drainBegun_spec hqueue { x with drains := x.drains + 1 } { q with started := true, bound := x.drains }
    have hdone : q.done = false := (hnew q List.mem_cons_self).2
    have hdraining : ({ q with started := true, bound := x.drains } : Issued).draining = true := by
      simp only [Issued.draining, hop, hsub, hdone]
      rfl
    refine ⟨fun hfull => ?_, fun p hread hp hswapped => ?_, fun p hread hp hswapped => ?_⟩
    · rw [if_neg (by rw [show ((s.tile i).arr a).bufRead = false from hfull]; exact Bool.false_ne_true), State.shiftOut_idle,
        completeDrains_waits hqueue (by rw [Issued.drainDone_of_drain hop hsub, hdone])] at hexec
      · exact hexec
      · rw [hqueue]
        exact fun z hz => Issued.not_draining (hnew z hz).1
    · rw [if_pos hread, State.shiftOut_head hstart.queue hdraining hstart.arr hp, if_neg (Nat.not_lt.2 hswapped)] at hexec
      have hn : p.n = x.drains := by simpa using List.find?_some hp
      refine ⟨_, hexec, ((SameArrays.completeDrains ..).arr i a).trans ?_⟩
      rw [State.setQueued, State.tile_modTile, ← hn]
      exact (State.arr_setArr ..).trans rfl
    · rw [if_pos hread, State.shiftOut_head hstart.queue hdraining hstart.arr hp, if_pos hswapped] at hexec
      generalize s.drainBegun i a q { x with drains := x.drains + 1 } { q with started := true, bound := x.drains } = v at hexec hstart
      have hkept : ((v.setArr i a (({ x with drains := x.drains + 1 } : MatArray).setPass { p with shifted := p.swapped })).tile i).queue (drainEngine a) =
          { q with started := true, bound := x.drains } :: rest := by
        rw [State.setArr, State.tile_modTile, Tile.setArr_keeps (Tile.queue · (drainEngine a)) (fun _ _ _ => rfl)]
        exact hstart.queue
      rw [completeDrains_waits hkept ((Issued.drainDone_of_drain (q := { q with started := true, bound := x.drains }) hop hsub _).trans hdone)] at hexec
      exact ⟨_, hexec, State.arr_setArr .., hkept⟩
  · intro x m n hruns hready hop hsub hsource hnew hform hpasses hnone hin hle
    obtain ⟨rest, hqueue⟩ := List.head?_eq_some_iff.1 hruns.1
    rw [hqueue] at hnew
    have hexec := exec_preload (a := a) hruns.2.2.1
    rw [State.startPreload_eq hqueue (hnew q List.mem_cons_self).1 hop hsub hready] at hexec
    have hstart := State.drainBegun_spec hqueue { x with preloads := x.preloads + 1 } { q with started := true, bound := x.preloads }
    have hopen : ({ x with preloads := x.preloads + 1 } : MatArray).filled x.preloads = false := by
      have hlate : ¬ x.preloads < x.passes := Nat.not_lt.2 hpasses
      simp only [MatArray.filled, hlate, hnone]
      rfl
    have hserves := (hstart.preloadForm rfl rfl x.preloads).trans hform
    have hfill := State.fillPreload_eq hstart hruns.2.1 hop hsub rfl hopen rfl rfl hserves hin
    rw [show s.drainBegun i a q { (s.tile i).arr a with preloads := ((s.tile i).arr a).preloads + 1 } { q with started := true, bound := ((s.tile i).arr a).preloads } =
      s.drainBegun i a q { x with preloads := x.preloads + 1 } { q with started := true, bound := x.preloads } from rfl, hfill] at hexec
    obtain ⟨hlength, hvalues⟩ := preloadValues_spec s i hsource m n (q.ref d.src)
    have hlane : ({ x with preloads := x.preloads + 1 } : MatArray).laneFree x.preloads = true ↔ x.preloads = 0 ∨ x.freed (x.preloads - 1) 0 = true := by
      simp [MatArray.laneFree]
      rfl
    refine ⟨_, hlength, hvalues, fun hfree => ?_, fun hheld => ?_⟩
    · rw [if_pos (hlane.2 hfree)] at hexec
      exact ⟨_, hexec, ((SameArrays.completeDrains ..).arr i a).trans (State.arr_setArr ..)⟩
    · rw [if_neg (fun h => by rcases hlane.1 h with h | h; exact hheld.1 h; rw [hheld.2] at h; exact Bool.false_ne_true h),
        completeDrains_waits hstart.queue (by rw [hstart.arr]; exact Issued.drainDone_of_preload (q := { q with started := true, bound := x.preloads }) hop hsub hopen)] at hexec
      exact ⟨_, hexec, hstart.arr⟩

/-! ### Held tags (R447 to R451) -/

section
variable {s : State} {i a : Nat} {p : Pass} {h : Nat}

theorem MatArray.tagsAgree_eq {x : MatArray} (hh : p.compareHalf = some h) : x.tagsAgree p = ((x.bHalf h).tag == (x.set p.n).tag) := by
  unfold MatArray.tagsAgree
  rw [hh]

theorem exec_tagHold (hp : ((s.tile i).arr a).heldPass = some p) (hruns : s.tileRuns i = true) : Gives (.tagHold i a) s
    (if ((s.tile i).arr a).tagsAgree p then
      s.setArr i a { (s.tile i).arr a with live := ((s.tile i).arr a).live.dropLast ++ [{ p with held := false }] }.advance else s) := by
  change execTagHold i a s = _
  unfold execTagHold
  simp only [hp, hruns, and_true]

theorem exec_tagMismatch {b : Batch} (hp : ((s.tile i).arr a).heldPass = some p) (hruns : s.tileRuns i = true) (hb : s.batchOf p.issued.batch = some b) :
    Gives (.tagMismatch i a) s (if ((s.tile i).arr a).tagsAgree p then s
      else ((s.countFault b p.issued (Ctr.tileFaultTag i)).setStickyIn (16 + i) 160).faultBatch p.issued.batch 3 false) := by
  change execTagMismatch i a s = _
  unfold execTagMismatch
  simp only [hp, hruns, hb, not_true_eq_false, or_false]

end

/-- Of an entry of a Stairwell, some one of its index is to be squashed with the cause. -/
def Squashed (x : Wing) (index cause : Nat) : Prop := ∃ z ∈ x.stairs, z.index = index ∧ z.squash = some cause

theorem squashed_setStair {x : Wing} {y z : Stair} (hz : z ∈ x.stairs) (hindex : z.index = y.index) {cause : Nat} (hy : y.squash = some cause) :
    Squashed (x.setStair y) z.index cause :=
  ⟨y, List.mem_map.2 ⟨z, hz, if_pos hindex⟩, hindex.symm, hy⟩

theorem Squashed.setStair {x : Wing} {index cause : Nat} (h : Squashed x index cause) {y : Stair} (hy : y.squash = some cause) : Squashed (x.setStair y) index cause := by
  obtain ⟨z, hz, rfl, hsq⟩ := h
  by_cases hi : z.index = y.index
  · exact squashed_setStair hz hi hy
  · exact ⟨z, Wing.mem_setStair hz hi, rfl, hsq⟩

/-- R361: the packets of a faulted batch that is not abandoned are to be squashed. -/
theorem State.faultPackets_squashes (s : State) {w id cause : Nat} {y : Stair} (hy : y ∈ (s.wing w).rowStairs id) (hnone : y.squash = none)
    (hst : y.state ≠ .squashed) : Squashed ((s.faultPackets w id cause false).wing w) y.index cause := by
  have hmem : y ∈ (s.wing w).stairs := (List.mem_filter.1 hy).1
  have hkeeps (l : List Stair) (u : State) (h : Squashed (u.wing w) y.index cause) :
      Squashed ((l.foldl (fun s z => if z.squash = none ∧ z.state ≠ .squashed then s.setStair w { z with squash := some cause } else s) u).wing w) y.index cause := by
    induction l generalizing u with
    | nil => exact h
    | cons z l ih =>
      refine ih _ ?_
      dsimp only
      split
      · rw [State.setStair, State.wing_setWing]
        exact h.setStair rfl
      · exact h
  have hrun (l : List Stair) (hin : y ∈ l) (u : State) (hu : ∃ z ∈ (u.wing w).stairs, z.index = y.index) :
      Squashed ((l.foldl (fun s z => if z.squash = none ∧ z.state ≠ .squashed then s.setStair w { z with squash := some cause } else s) u).wing w) y.index cause := by
    induction l generalizing u with
    | nil => exact absurd hin List.not_mem_nil
    | cons z l ih =>
      obtain ⟨x, hx, hindex⟩ := hu
      rcases List.mem_cons.1 hin with rfl | hin
      · refine hkeeps l _ ?_
        dsimp only
        rw [if_pos ⟨hnone, hst⟩, State.setStair, State.wing_setWing]
        have hsquashed : Squashed ((u.wing w).setStair { y with squash := some cause }) x.index cause :=
          squashed_setStair (y := { y with squash := some cause }) hx hindex rfl
        rwa [hindex] at hsquashed
      · refine ih hin _ ?_
        dsimp only
        split
        · rw [State.setStair, State.wing_setWing]
          by_cases hxz : x.index = z.index
          · exact ⟨_, List.mem_map.2 ⟨x, hx, if_pos hxz⟩, hxz.symm.trans hindex⟩
          · exact ⟨x, Wing.mem_setStair hx hxz, hindex⟩
        · exact ⟨x, hx, hindex⟩
  exact hrun _ hy s ⟨y, hmem, rfl⟩

theorem tagHoldsResolve : TagHoldsResolve := by
  intro s i a p b h x w hp hh hruns hb
  have hhold := exec_tagHold hp hruns
  have hmis := exec_tagMismatch hp hruns hb
  rw [MatArray.tagsAgree_eq hh] at hhold hmis
  refine ⟨fun hagree => ?_, fun hdiffer => ?_⟩
  · rw [if_pos (beq_iff_eq.2 hagree)] at hhold hmis
    exact ⟨hhold, hmis⟩
  · rw [if_neg (fun he => hdiffer (beq_iff_eq.1 he))] at hhold hmis
    refine ⟨hhold, _, hmis, ?_, fun hopen => ?_⟩
    · refine (State.faultBatch_keeps (State.stickyBit · 160) (fun _ _ _ => State.stickyBit_of_sticky (State.setWing_sticky ..) _) (fun _ _ => rfl) (fun _ _ _ => rfl)
        (fun _ _ _ => State.stickyBit_of_sticky (State.fire_sticky ..) _) (fun _ _ => by simp [State.stickyBit_setStickyIn])
        (fun _ _ _ => State.stickyBit_of_sticky (State.trace_sticky ..) _) (fun _ _ _ _ => rfl) (fun _ _ _ => rfl) ..).trans ?_
      exact State.stickyBit_setStickyIn_self _ _ (by decide)
    · have hwings (v : Nat) : ((s.countFault b p.issued (Ctr.tileFaultTag i)).setStickyIn (16 + i) 160).wing v = s.wing v := by
        refine (State.wing_of_wings (State.setStickyIn_wing0 ..) (State.setStickyIn_wing1 ..) v).trans ?_
        unfold State.countFault State.addCount
        dsimp only
        (repeat' split) <;> rfl
      generalize (s.countFault b p.issued (Ctr.tileFaultTag i)).setStickyIn (16 + i) 160 = u at hwings
      have hbu : u.batchOf p.issued.batch = some b := (State.batchOf_of_batches (fun v => by rw [hwings]) _).trans hb
      refine ⟨b.faulted false, ?_, rfl, rfl, fun hkept y hy hbatch hnone hst => ?_⟩
      · rw [State.batchOf_faultBatch, if_pos rfl, hbu, Option.map_some, if_neg (by simp [hopen])]
      · rw [State.faultBatch_some hbu, if_neg (by simp [hopen]), hkept]
        have hstairs : ((u.batchFaulted p.issued.batch b (b.faulted false)).wing w).stairs = (s.wing w).stairs :=
          (State.wing_batchFaulted Wing.stairs (fun _ _ => rfl) ..).trans (congrArg Wing.stairs (hwings w))
        refine State.faultPackets_squashes _ (List.mem_filter.2 ⟨?_, by rw [hbatch]; exact beq_self_eq_true _⟩) hnone hst
        exact hstairs ▸ hy

/-- Settles O22: `resultsMoveOut` gives the ways out of an array, `tagHoldsResolve` the ends of a hold. -/
theorem resultsAndTags : Obligations.ResultsAndTags := ⟨resultsMoveOut, tagHoldsResolve⟩

end Sys2Proof.Machine
end

section
/-!
PROOFS. A word that has completed and the memory that it leaves, where the batch that the device holds afterwards is no rollout; CHECK,
VERDICT, STATE and REDUCE words, and the vector stages, over a tile memory that is not in canonical form.
-/
open Sys2Proof Sys2Proof.Machine Sys2Proof.Claims Sys2Proof.Tests
namespace Sys2Proof.Machine

/-! ### The batch of a completed word -/

/-- The graph of a batch that the state holds. -/
def State.graphOf (s : State) (id : Nat) : Option GraphKind := (s.batchOf id).map Batch.graph

theorem SameGraphs.ownWrite (s : State) (p i a : Nat) (bs : Bytes) : SameGraphs s (s.ownWrite p i a bs) := by
  unfold State.ownWrite
  exact .ite (.refl s) (.setTile ..)

theorem SameGraphs.writeScales (s : State) (i : Nat) (b : Batch) (c : SlotCfg) : SameGraphs s (s.writeScales i b c) := by
  unfold State.writeScales
  split
  · exact .refl s
  · split
    · exact .refl s
    · exact .ownWrite ..

theorem SameGraphs.sendDescs (s : State) (id : Nat) (tiles : List Nat) : SameGraphs s (s.sendDescs id tiles) :=
  SameGraphs.foldl (fun s i => .setTile s i _) tiles s

/-- Batch `id` is a rollout batch. -/
def State.Rolls (s : State) (id : Nat) : Prop := (s.batchOf id).map Batch.graph = some .rollout

namespace State.Rolls

theorem ite {p : Prop} [Decidable p] {s t : State} {id : Nat} (hs : s.Rolls id) (ht : t.Rolls id) : (if p then s else t).Rolls id := by
  split
  · exact hs
  · exact ht

theorem of_sameGraphs {s t : State} {id : Nat} (h : SameGraphs s t) (hs : s.Rolls id) : t.Rolls id := (h.graph id).trans hs

theorem setBatch (s : State) (id : Nat) {b : Batch} (h : b.graph = .rollout) : (s.setBatch id b).Rolls id := by
  rw [State.Rolls, State.batchOf_setBatch, if_pos rfl, Option.map_some, h]

/-- R435, R479: a rollout batch that goes on is a rollout batch. -/
theorem rolloutNext (s : State) (id : Nat) {b : Batch} (c : SlotCfg) (h : b.graph = .rollout) : (s.rolloutNext id b c).Rolls id := by
  have hstepped {p : Prop} [Decidable p] (x : Batch) (hx : x.graph = .rollout) : (if p then x else b).graph = .rollout := by
    split
    · exact hx
    · exact h
  unfold State.rolloutNext
  dsimp only
  refine .ite (.setBatch _ _ (hstepped _ h)) ?_
  split
  · exact .setBatch _ _ (hstepped _ h)
  · exact of_sameGraphs ((SameGraphs.foldl (fun s i => .writeScales s i _ c) _ _).trans (.sendDescs ..)) (.setBatch _ _ (hstepped _ h))

end State.Rolls

/-- R326: the end of a batch on a tile leaves the tiles, or what it ends is a stage of a rollout batch. -/
theorem State.endCheck_calm_or_rolls (s : State) (i id : Nat) : Calm s (s.endCheck i id) ∨ (s.endCheck i id).Rolls id := by
  cases hb : s.batchOf id with
  | none =>
    left
    rw [State.endCheck, hb]
    exact (Quiet.refl s).toCalm
  | some b =>
    by_cases hgraph : b.graph = .rollout
    · rw [State.endCheck, hb]
      dsimp only
      have hclosed : Calm s (s.setTile i { s.tile i with clips := (s.tile i).clips.filter (fun c => c.batch != id) }) :=
        Quiet.toCalm (by refine Quiet.setTile ?_ ?_ <;> rfl)
      generalize s.setTile i { s.tile i with clips := (s.tile i).clips.filter (fun c => c.batch != id) } = t at hclosed
      have hset : Calm s (t.setBatch id { b with ended := i :: b.ended }) := hclosed.trans (Quiet.setBatch ..).toCalm
      split
      · exact .inl (Quiet.refl s).toCalm
      · split
        · unfold State.batchComplete
          dsimp only
          split
          · exact .inl (hset.trans (Quiet.dropBatch ..).toCalm)
          · rw [if_pos hgraph]
            exact .inr (.rolloutNext _ _ _ hgraph)
        · exact .inl hset
    · left
      refine (Quiet.endCheck fun c hc => ?_).toCalm
      cases hb.symm.trans hc
      exact hgraph

/-- R319: a completed word leaves the tiles, where the batch that is there afterwards is no rollout. -/
theorem Calm.of_completed {u : State} {i e : Nat} {q : Issued} {b : Batch} (h : ¬ (Completed u i e q b).Rolls q.batch) :
    Calm u (Completed u i e q b) :=
  ((Quiet.popQueue u i e).toCalm.trans ((State.completeWord_spec ..).1.trans (Quiet.pump ..).toCalm)).trans
    ((State.endCheck_calm_or_rolls ..).resolve_right h)

/-- The bytes of a tile that a completed word leaves. -/
theorem tileRead_completed {u : State} {i e : Nat} {q : Issued} {b : Batch} (h : ¬ (Completed u i e q b).Rolls q.batch) (a n : Nat) :
    (Completed u i e q b).tileRead i a n = u.tileRead i a n := by
  rw [State.tileRead, (Calm.of_completed h).mem]
  rfl

/-! ### A tile memory that is not in canonical form -/

/-- A tile memory whose first entry stands at a higher address than the second. -/
def unsorted (hi a : Nat) : Mem := [(hi, 1), (a, 1)]

/-- Batch 1 of tile 0, which has not been sent, so that the word's end leaves it. -/
def unsent (s : State) : State := { s with wing0 := { s.wing0 with batches := [(1, { tb with sent := false })] } }

/-- A REDUCE word of 16 zero rows behind a destination that holds 1 out of order; its 16 arrivals have come. -/
def reducing0 : ReduceOp := { slot0 := 1, stride := 1, countMinus1 := 15, length := 1, dst := 0, arriveTok := 15 }

def reduceState : State := unsent (engine 10 (.reduce reducing0) { mem := unsorted 8192 0, tokens := [(15, 16)] })

/-- What a step leaves of batch `id`'s graph and of bytes of tile `i`. -/
def leaves (id i a n : Nat) : Host.Outcome State Fault Refusal → Option (Option GraphKind × Bytes)
  | .next t => some ((t.batchOf id).map Batch.graph, t.tileRead i a n)
  | _ => none

/-- A word completes, its batch is no rollout: the bytes after the step are those that the word left. -/
theorem tileRead_of_leaves {s u : State} {x : Instr} {i e : Nat} {q : Issued} {b : Batch} (h : Gives x s (Completed u i e q b)) {g : GraphKind} {a n : Nat}
    {bs : Bytes} (hx : leaves q.batch i a n (Machine.exec x s) = some (some g, bs)) (hg : g ≠ .rollout) : u.tileRead i a n = bs := by
  rw [h, leaves, Option.some.injEq, Prod.mk.injEq] at hx
  obtain ⟨hgraph, hread⟩ := hx
  have hcalm : ¬ (Completed u i e q b).Rolls q.batch := fun hr => hg (Option.some.inj (hgraph.symm.trans hr))
  exact (tileRead_completed hcalm a n).symm.trans hread

end Sys2Proof.Machine
end

section
open Sys2Proof Sys2Proof.Machine Sys2Proof.Claims Sys2Proof.Tests
namespace Sys2Proof.Machine

theorem reduceState_leaves : leaves 1 0 0 4 (Machine.exec (.reduce 0 {}) reduceState) = some (some .main, [1, 0, 0, 0]) := by decide +kernel

/-- Refutes O24: REDUCE's sums do not read back from a tile memory that is not in canonical form: the zero that is stored at address 0 before
the entry of address 8,192 leaves the entry of address 0 behind it as it was. -/
theorem not_wordsCheckAndReduce : ¬ Obligations.WordsCheckAndReduce := by
  unfold Obligations.WordsCheckAndReduce
  rintro ⟨-, -, -, hreduce⟩
  obtain ⟨-, hdone⟩ := hreduce reduceState 0 (q0 (.reduce reducing0)) { tb with sent := false } reducing0 (by decide +kernel) rfl (by decide +kernel)
    (by decide +kernel)
  obtain ⟨u, hstep, -, -, hsum⟩ := hdone (by decide +kernel) (by decide +kernel)
  have hread : u.tileRead 0 ((q0 (.reduce reducing0)).ref reducing0.dst + 4 * 0) 4 = [1, 0, 0, 0] := tileRead_of_leaves hstep reduceState_leaves (by decide)
  have hzero := hsum 0 (by decide)
  rw [hread] at hzero
  exact absurd hzero (by decide +kernel)

/-- A TOPK word of one row of one element, 0, behind a list at address 512 that holds 1 out of order. -/
def topState : State := unsent (posting (post0 2 2 1 1 0) { mem := unsorted 8192 512 })

theorem topState_leaves : leaves 1 0 512 8 (Machine.exec (.topk 0 {}) topState) = some (some .main, [1, 0, 0, 0, 0, 0, 0, 0]) := by decide +kernel

/-- Refutes O23: TOPK's list does not read back from a tile memory that is not in canonical form: of its zeros, the one at address 512
leaves the entry that stands behind a higher address. -/
theorem not_rowStages : ¬ Obligations.RowStages := by
  unfold Obligations.RowStages
  rintro ⟨-, ⟨-, htop⟩, -⟩
  have hrows : topState.postRows 0 (q0 (.post (post0 2 2 1 1 0))) { tb with sent := false } (post0 2 2 1 1 0) = some [{ row := 0, at_ := 0, vals := [0] }] := by
    decide +kernel
  obtain ⟨u, hstep, -, hholds⟩ := htop topState 0 (q0 (.post (post0 2 2 1 1 0))) { tb with sent := false } (post0 2 2 1 1 0) _ _
    ⟨by decide +kernel, rfl, rfl, hrows, rfl, by decide⟩ (by decide +kernel) (by decide +kernel)
  have hread : u.tileRead 0 512 8 = [1, 0, 0, 0, 0, 0, 0, 0] := tileRead_of_leaves hstep topState_leaves (by decide)
  have hzero := hholds { row := 0, at_ := 0, vals := [0] } (by decide +kernel)
  exact absurd (hread.symm.trans hzero) (by decide +kernel)

end Sys2Proof.Machine
end

section
/-!
PROOFS. Resets, supplies and clocks, and the ROM stage (chapters 23 and 24).
-/
open Sys2Proof Sys2Proof.Machine Sys2Proof.Claims
namespace Sys2Proof.Machine

/-! ### Resets and supplies (R868 to R882) -/

/-- R880: what a restart leaves, whatever the event makes of the time base and of the supplies. -/
theorem wasReset_restart (s : State) (tm : TimeBase) {p : Power} (hon : p.domainsOn = false) (hpin : p.faultN = false) :
    WasReset s { s.restart false with time := tm, power := p } := by
  refine ⟨rfl, rfl, rfl, rfl, rfl, rfl, rfl, rfl, rfl, rfl, rfl, hon, hpin, ?_, rfl, rfl, rfl, rfl, rfl, rfl, rfl, rfl, rfl, rfl, rfl⟩
  show (p.sysClkLost || p.thermtrip || !p.domainsOn || p.resetLow) = true
  rw [hon, Bool.not_false, Bool.or_true, Bool.true_or]

/-- R882: the release of a trip, as the flag that it leaves. -/
theorem State.releaseTrip_eq (s : State) :
    s.releaseTrip = { s with power := { s.power with thermtrip := s.power.thermtrip && !(!s.power.vin12 && s.power.resetLow) } } := by
  unfold State.releaseTrip
  split
  · next h =>
    simp only [Bool.and_eq_true, Bool.not_eq_true'] at h
    obtain ⟨⟨_, hvin⟩, hlow⟩ := h
    simp only [hvin, hlow, Bool.not_false, Bool.and_self, Bool.not_true, Bool.and_false]
  · next h =>
    have hkeep : (s.power.thermtrip && !(!s.power.vin12 && s.power.resetLow)) = s.power.thermtrip := by
      cases ht : s.power.thermtrip
      · rfl
      · rw [ht, Bool.true_and, Bool.not_eq_true] at h
        rw [h]
        rfl
    rw [hkeep]

theorem exec_resetN_short {n : Nat} (h : n < 1000) (s : State) :
    Gives (.resetN false n) s s ∧ Gives (.resetN true n) s { s with power := { s.power with resetLow := false } } := by
  have hpulse : s.pulseResets n = (false, s) := if_pos h
  constructor <;>
  · change execResetN _ n s = _
    simp only [execResetN, hpulse, Bool.false_and, Bool.false_eq_true, if_false, if_true]

theorem exec_resetN_long {n : Nat} (h : 10000 ≤ n) {s : State} (hlow : s.power.resetLow = false) :
    Gives (.resetN false n) s ({ s.restart false with power := { (s.restart false).power with resetLow := true } }).releaseTrip ∧
    Gives (.resetN true n) s { s.restart false with power := { (s.restart false).power with resetLow := false } } := by
  have hpulse : s.pulseResets n = (true, s) := (if_neg (by omega)).trans (if_pos h)
  constructor <;>
  · change execResetN _ n s = _
    simp only [execResetN, hpulse, hlow, Bool.not_false, Bool.and_self, Bool.false_eq_true, if_false, if_true]

theorem exec_vin12DropOut {r : Rail} (h : r = .vin12 ∨ r = .vaux18) (s : State) :
    Gives (.vin12DropOut r) s ({ s.restart false with time := {}, power := (s.restart false).power.setRail r false }).releaseTrip :=
  congrArg Host.Outcome.next (if_pos h)

theorem exec_vstby33DropOut {r : Rail} (h : r = .vstby33 ∨ r = .vio18) (s : State) :
    Gives (.vstby33DropOut r) s { s.restart false with
      time := {}, power := { ((s.restart false).power.setRail r false) with standbyOn := false, flResetN := false } } :=
  congrArg Host.Outcome.next (if_pos h)

/-! ### The lanes of a bank without a clock (R878) -/

/-- What an absent clock makes of one lane. -/
def State.darkLane (s : State) (l : Nat) : State :=
  (if (s.lane l).up then (s.dropLane l).bump (Ctr.laneLinkDown l) else s).setSticky l

theorem State.darkLane_keeps {α : Type} (f : State → α) (hdrop : ∀ s l, f (State.dropLane s l) = f s) (hbump : ∀ s id, f (State.bump s id) = f s)
    (hsticky : ∀ s n, f (State.setSticky s n) = f s) (s : State) (l : Nat) : f (s.darkLane l) = f s := by
  unfold State.darkLane
  rw [hsticky]
  split
  · rw [hbump, hdrop]
  · rfl

theorem State.lane_darkLane_other (s : State) {l j : Nat} (h : j ≠ l) : (s.darkLane l).lane j = s.lane j := by
  unfold State.darkLane
  rw [State.setSticky, State.lane, State.setStickyIn_hall]
  split
  · exact s.lane_dropLane_other h
  · rfl

theorem State.up_darkLane (s : State) (l : Nat) : ((s.darkLane l).lane l).up = false := by
  unfold State.darkLane
  rw [State.setSticky, State.lane, State.setStickyIn_hall]
  split
  · exact congrArg Lane.up (s.lane_dropLane l)
  · next h => exact Bool.eq_false_iff.mpr h

theorem State.stickyBit_darkLane (s : State) (l : Nat) {m : Nat} (hm : m < 256) : (s.darkLane l).stickyBit m = (s.stickyBit m || decide (m = l)) := by
  unfold State.darkLane
  rw [State.setSticky, State.stickyBit_setStickyIn _ _ hm]
  split <;> rfl

theorem State.foldl_darkLane (ls : List Nat) (s : State) (j : Nat) (hj : j < 256) :
    (j ∈ ls → ((ls.foldl State.darkLane s).lane j).up = false ∧ (ls.foldl State.darkLane s).stickyBit j = true) ∧
    (j ∉ ls → (ls.foldl State.darkLane s).lane j = s.lane j ∧ (ls.foldl State.darkLane s).stickyBit j = s.stickyBit j) := by
  induction ls generalizing s with
  | nil => exact ⟨fun h => absurd h List.not_mem_nil, fun _ => ⟨rfl, rfl⟩⟩
  | cons l ls ih =>
    rw [List.foldl_cons]
    obtain ⟨hin, hout⟩ := ih (s.darkLane l)
    by_cases hrest : j ∈ ls
    · exact ⟨fun _ => hin hrest, fun h => absurd (List.mem_cons_of_mem l hrest) h⟩
    · obtain ⟨hlane, hbit⟩ := hout hrest
      rw [hlane, hbit]
      by_cases hl : j = l
      · refine ⟨fun _ => ⟨hl ▸ s.up_darkLane j, ?_⟩, fun h => absurd (hl ▸ List.mem_cons_self) h⟩
        rw [s.stickyBit_darkLane l hj, decide_eq_true hl, Bool.or_true]
      · refine ⟨fun h => absurd h (by simp [hl, hrest]), fun _ => ⟨s.lane_darkLane_other hl, ?_⟩⟩
        rw [s.stickyBit_darkLane l hj, decide_eq_false hl, Bool.or_false]

/-- The enabled lanes of bank `n`. -/
def State.bankLanes (s : State) (n : Nat) : List Nat :=
  ((List.range 12).map (fun k => 12 * n + k)).filter (fun l => decide (l < s.lanesN) && s.setting 0x2001 l 0 == 1)

theorem State.mem_bankLanes {s : State} {n l : Nat} (hl : l < s.lanesN) : l ∈ s.bankLanes n ↔ l / 12 = n ∧ s.setting 0x2001 l 0 = 1 := by
  simp only [State.bankLanes, List.mem_filter, List.mem_map, List.mem_range, Bool.and_eq_true, decide_eq_true_eq, beq_iff_eq, hl, true_and]
  refine and_congr_left fun _ => ⟨?_, fun h => ⟨l % 12, Nat.mod_lt _ (by decide), ?_⟩⟩
  · rintro ⟨k, hk, rfl⟩
    omega
  · omega

/-- An absent SERDES_REFCLK, before its bank's lanes go down. -/
def State.refclkAbsent (s : State) (n : Nat) : State :=
  { s with
    power := { s.power with serdesLost := s.power.serdesLost.filter (· != n) ++ [n] }
    pair := if n = 0 then { s.pair with lanesUp := [] } else s.pair }

theorem exec_serdesRefclkLoss {s : State} (n : Nat) (hdead : s.dead = false) :
    Gives (.serdesRefclkLoss n true) s ((s.bankLanes n).foldl State.darkLane (s.refclkAbsent n)) := by
  have hrun : State.dead { s with power := { s.power with serdesLost := s.power.serdesLost.filter (· != n) ++ [n] } } = false := hdead
  change execSerdesRefclkLoss n true s = _
  simp only [execSerdesRefclkLoss, if_true, Bool.not_true, Bool.false_or, hrun, Bool.false_eq_true, if_false]
  by_cases h : n = 0
  · simp only [h, if_true, State.refclkAbsent]
    rfl
  · simp only [h, if_false, State.refclkAbsent]
    rfl

/-- R878: the lanes of a bank whose clock is absent. -/
theorem serdesRefclkLoss_absent {s : State} {n : Nat} (hdead : s.dead = false) :
    ∃ t : State, Gives (.serdesRefclkLoss n true) s t ∧ n ∈ t.power.serdesLost ∧ (n = 0 → t.pair.lanesUp = []) ∧
      (∀ l, l < s.lanesN → l / 12 = n → s.setting 0x2001 l 0 = 1 → (t.lane l).up = false ∧ t.stickyBit l = true) ∧
      (∀ l, l < s.lanesN → (l / 12 ≠ n ∨ s.setting 0x2001 l 0 ≠ 1) → t.lane l = s.lane l ∧ t.stickyBit l = s.stickyBit l) := by
  have hlanes {l : Nat} (hl : l < s.lanesN) : l < 256 := hl.trans_le (by unfold State.lanesN; split <;> decide)
  have hkeeps {α : Type} (f : State → α) (hdrop) (hbump) (hsticky) : f ((s.bankLanes n).foldl State.darkLane (s.refclkAbsent n)) = f (s.refclkAbsent n) :=
    foldl_keeps f _ (State.darkLane_keeps f hdrop hbump hsticky) _ _
  refine ⟨_, exec_serdesRefclkLoss n hdead, ?_, fun h => ?_, fun l hl hbank hon => ?_, fun l hl hother => ?_⟩
  · rw [hkeeps (fun t => t.power.serdesLost) (fun _ _ => rfl) (fun _ _ => rfl) fun s n => by rw [State.setSticky, State.setStickyIn_power]]
    exact List.mem_append_right _ List.mem_cons_self
  · rw [hkeeps (fun t => t.pair) (fun s n => State.bumpN_pair ..) (fun _ _ => rfl) fun s n => s.setStickyIn_pair 0 n]
    exact congrArg Pair.lanesUp (if_pos h)
  · exact (State.foldl_darkLane _ _ l (hlanes hl)).1 ((State.mem_bankLanes hl).mpr ⟨hbank, hon⟩)
  · refine (State.foldl_darkLane _ _ l (hlanes hl)).2 fun hmem => ?_
    obtain ⟨hbank, hon⟩ := (State.mem_bankLanes hl).mp hmem
    exact hother.elim (fun h => h hbank) fun h => h hon

theorem resetsAndSupplies : Claims.ResetsAndSupplies := by
  refine ⟨fun s n h => exec_resetN_short h s, fun s n h hlow => ?_, fun s r => rfl, fun s r hr => ?_, fun s r hr => ?_, fun s => ?_, fun s => ?_, fun s n hn hdead => ?_⟩
  · obtain ⟨hfall, hrise⟩ := exec_resetN_long h hlow
    rw [State.releaseTrip_eq] at hfall
    refine ⟨⟨_, hfall, wasReset_restart s _ rfl rfl, rfl, rfl, rfl, ?_⟩, ⟨_, hrise, wasReset_restart s _ rfl rfl, rfl, rfl⟩⟩
    change (s.power.thermtrip && !(!s.power.vin12 && true)) = _
    rw [Bool.and_true, Bool.not_not]
  · have hstep := exec_vin12DropOut hr s
    rw [State.releaseTrip_eq] at hstep
    rcases hr with rfl | rfl
    · refine ⟨_, hstep, wasReset_restart s _ rfl rfl, fun _ => ⟨rfl, ?_⟩, fun h => (nomatch h), rfl⟩
      change (s.power.thermtrip && !(!false && s.power.resetLow)) = _
      rw [Bool.not_false, Bool.true_and]
    · exact ⟨_, hstep, wasReset_restart s _ rfl rfl, fun h => (nomatch h), fun _ => rfl, rfl⟩
  · have hstep := exec_vstby33DropOut hr s
    rcases hr with rfl | rfl
    · exact ⟨_, hstep, wasReset_restart s _ rfl rfl, rfl, rfl, fun _ => rfl, fun h => (nomatch h)⟩
    · exact ⟨_, hstep, wasReset_restart s _ rfl rfl, rfl, rfl, fun h => (nomatch h), fun _ => rfl⟩
  · refine ⟨fun h => ?_, fun htrip hon => ⟨{ s.restart false with power := { (s.restart false).power with thermtrip := true, tripped := true } }, ?_, ?_, rfl, rfl⟩⟩
    · exact congrArg Host.Outcome.next (if_pos (by rw [h, Bool.true_or]))
    · exact congrArg Host.Outcome.next (if_neg (by rw [htrip, hon]; decide))
    · exact wasReset_restart s _ rfl rfl
  · refine ⟨congrArg Host.Outcome.next (if_pos rfl), _, congrArg Host.Outcome.next (if_neg Bool.false_ne_true), rfl, rfl, fun h => ?_, fun h => ?_⟩
    · have hlost : (s.power.sysClkLost || s.boot.stage != .rom) = true := by rw [bne_iff_ne.mpr h, Bool.or_true]
      change ((s.power.sysClkLost || s.boot.stage != .rom) || _ || _ || _) = true
      rw [hlost, Bool.true_or, Bool.true_or, Bool.true_or]
    · change ((s.power.sysClkLost || s.boot.stage != .rom) || _ || _ || _) = s.dead
      rw [h, bne_self_eq_false, Bool.or_false]
      rfl
  · exact ⟨serdesRefclkLoss_absent hdead, congrArg Host.Outcome.next (if_pos rfl)⟩

/-! ### Boot records (R834 to R836) -/

/-- R834: the copy that a new record is written over. -/
def Boot.overFirst (b : Boot) : Bool :=
  match b.rec0, b.rec1 with
  | some x, some y => decide (x.seq < y.seq)
  | some _, none => false
  | none, _ => true

section records
variable (b : Boot) (f : BootRec → BootRec)

theorem Boot.writeRecord_eq : b.writeRecord f =
    if b.overFirst then { b with rec0 := some { f b.record with seq := b.record.seq + 1 } }
    else { b with rec1 := some { f b.record with seq := b.record.seq + 1 } } := rfl

/-- R834: the record in use is the copy that is not written over. -/
theorem Boot.record?_eq : b.record? = if b.overFirst then b.rec1 else b.rec0 := by
  unfold Boot.record? Boot.overFirst
  cases b.rec0 with
  | none => rfl
  | some x =>
    cases b.rec1 with
    | none => rfl
    | some y => by_cases hlt : x.seq < y.seq <;> simp [hlt]

/-- R834: a record of a greater seq than the copy beside it is the one in use. -/
theorem Boot.record?_of_newest {b : Boot} {x : BootRec} (h : b.rec0 = some x ∧ (∀ y, b.rec1 = some y → y.seq < x.seq) ∨
    b.rec1 = some x ∧ ∀ y, b.rec0 = some y → y.seq < x.seq) : b.record? = some x := by
  unfold Boot.record?
  rcases h with ⟨hx, hold⟩ | ⟨hx, hold⟩
  · rw [hx]
    cases hy : b.rec1 with
    | none => rfl
    | some y => exact congrArg some (if_neg (Nat.lt_asymm (hold y hy)))
  · rw [hx]
    cases hy : b.rec0 with
    | none => rfl
    | some y => exact congrArg some (if_pos (hold y hy))

/-- R834: the record that has been written is the one in use. -/
theorem Boot.record?_writeRecord : (b.writeRecord f).record? = some { f b.record with seq := b.record.seq + 1 } := by
  have hseq {y : BootRec} (hy : b.record? = some y) : y.seq < b.record.seq + 1 := by
    rw [Boot.record, hy]
    exact Nat.lt_succ_self _
  refine Boot.record?_of_newest ?_
  have hrec := b.record?_eq
  rw [b.writeRecord_eq f]
  split
  · next h => exact .inl ⟨rfl, fun y hy => hseq (hrec.trans ((if_pos h).trans hy))⟩
  · next h => exact .inr ⟨rfl, fun y hy => hseq (hrec.trans ((if_neg h).trans hy))⟩

theorem Boot.record_writeRecord : (b.writeRecord f).record = { f b.record with seq := b.record.seq + 1 } := by
  rw [Boot.record, b.record?_writeRecord f, Option.getD_some]

/-- R834: the record that was in use stays as the other copy. -/
theorem Boot.record?_kept {r : BootRec} (h : b.record? = some r) : (b.writeRecord f).rec0 = some r ∨ (b.writeRecord f).rec1 = some r := by
  rw [b.record?_eq] at h
  rw [b.writeRecord_eq f]
  split
  · next hover => exact .inr ((if_pos hover).symm.trans h)
  · next hover => exact .inl ((if_neg hover).symm.trans h)

/-- A record touches the two copies only. -/
theorem Boot.writeRecord_keeps {α : Type} (g : Boot → α) (h : ∀ (b : Boot) r0 r1, g { b with rec0 := r0, rec1 := r1 } = g b) : g (b.writeRecord f) = g b := by
  rw [b.writeRecord_eq f]
  split
  · exact h b _ b.rec1
  · exact h b b.rec0 _

/-- R836: a bank verifies against a new record of the same digests as against the one before. -/
theorem Boot.verifies_writeRecord {r : BootRec} (hr : b.record? = some r) (hf : ∀ second, (f r).digestOf second = r.digestOf second) (second ok : Bool) :
    (b.writeRecord f).verifies second ok = b.verifies second ok := by
  have hrec : b.record = r := by rw [Boot.record, hr, Option.getD_some]
  have hdigest : BootRec.digestOf { f r with seq := r.seq + 1 } second = r.digestOf second := hf second
  rw [Boot.verifies, Boot.verifies, b.record?_writeRecord f, hr, hrec, b.writeRecord_keeps f (fun x => x.bank second) fun _ _ _ => rfl,
    b.writeRecord_keeps f Boot.floor fun _ _ _ => rfl]
  simp only [hdigest]

end records

/-! ### The ROM stage (R827, R835 to R837, R847) -/

/-- The counter of the boots is none that a sticky bit's signal counts on. -/
theorem Ctr.hallBoots_ne (n : Nat) : (∀ b, Ctr.hallBoots ≠ bufCtr b 1) ∧ Ctr.hallBoots ≠ Ctr.funcMsixSent n :=
  ⟨Ctr.ident_ne_bufCtr_of_index 1 0 (by decide) (by decide) (by decide) (by decide), Ctr.ident_ne_funcMsixSent 1 0 (by decide) (by decide) n⟩

/-- The ROM stage has begun: domains are on, FL_RESET_N is released, and the boot is counted. -/
structure RomBegan (s u : State) : Prop where
  on : u.power.domainsOn = true
  released : u.power.flResetN = true
  sec : u.sec = s.sec
  serial : u.boot.serial = s.boot.serial
  counted : u.ctr Ctr.hallBoots = rose (s.ctr Ctr.hallBoots) 1

/-- R695 to R697: bank `second` boots. -/
abbrev BootsBank (s : State) (second : Bool) (m : BitVec 384) (t : State) : Prop :=
  t.boot.stage = .hearth ∧ t.boot.bankB = second ∧ t.power.domainsOn = true ∧ t.power.flResetN = true ∧
  t.sec.regs = s.sec.regs.set 0 (extend 0 m) ∧ t.sec.rootSeedReadable = false ∧
  t.sec.dik = some (deriveKey (label "IKF-DIK") rootSeed (leBytes 8 s.boot.serial)) ∧ t.sec.hearthCdi = some (hearthCdi (extend 0 m)) ∧
  t.ctr Ctr.hallBoots = rose (s.ctr Ctr.hallBoots) 1

namespace RomBegan

variable {s u : State} (h : RomBegan s u)
include h

theorem writeRecord (f : BootRec → BootRec) : RomBegan s (u.writeRecord f) :=
  ⟨h.on, h.released, h.sec, (u.boot.writeRecord_keeps f Boot.serial fun _ _ _ => rfl).trans h.serial, h.counted⟩

theorem setSticky (n : Nat) : RomBegan s (u.setSticky n) := by
  refine ⟨?_, ?_, (u.setStickyIn_sec 0 n).trans h.sec, (congrArg Boot.serial (u.setStickyIn_boot 0 n)).trans h.serial, ?_⟩
  · rw [State.setSticky, State.setStickyIn_power]
    exact h.on
  · rw [State.setSticky, State.setStickyIn_power]
    exact h.released
  · exact (u.ctr_setStickyIn_other 0 n (Ctr.hallBoots_ne 0).1 fun fn => (Ctr.hallBoots_ne fn).2).trans h.counted

theorem boots (second trial : Bool) (m : BitVec 384) : BootsBank s second m (u.bootBank second trial m) := by
  refine ⟨rfl, rfl, h.on, h.released, congrArg (fun x : Security => x.regs.set 0 (extend 0 m)) h.sec, rfl, ?_, rfl, h.counted⟩
  change some (deriveKey (label "IKF-DIK") rootSeed (leBytes 8 u.boot.serial)) = _
  rw [h.serial]

end RomBegan

/-- R831: the ROM stage begins, with a record or with the sticky bit of a missing one. -/
def State.romBegun (s : State) (mode : Nat) : State :=
  let s := ({ s with power := { s.power with domainsOn := true, flResetN := true } }).bump Ctr.hallBoots
  let s := { s with boot := { s.boot with bootMode := mode } }
  if s.boot.record?.isNone then s.setSticky 136 else s

section rom
variable {s : State} {mode : Nat} {va vb : Bool} {m : BitVec 384} {o : ApplyOutcome}

theorem exec_romStage_waits (h : s.boot.stage ≠ .rom ∨ s.power.romReady = false) : Gives (.romStage mode va vb m o) s s :=
  congrArg Host.Outcome.next (if_pos (h.imp_right fun hr => Bool.eq_false_iff.mp hr))

theorem State.romBegun_boot (s : State) (mode : Nat) : (s.romBegun mode).boot = { s.boot with bootMode := mode } := by
  unfold State.romBegun
  dsimp only
  split
  · exact State.setStickyIn_boot ..
  · rfl

/-- R837: without a pending staging the ROM recovers by the strap or chooses a bank. -/
theorem exec_romStage (hrom : s.boot.stage = .rom) (hready : s.power.romReady = true) (hpending : s.boot.record.applyPending = false) :
    Gives (.romStage mode va vb m o) s (if mode ≠ 0 then (s.romBegun mode).recover else (s.romBegun mode).useTry.chooseBank va vb m) := by
  have hnone : (s.romBegun mode).boot.record.applyPending = false := by
    rw [s.romBegun_boot mode]
    exact hpending
  change execRomStage mode va vb m o s = _
  rw [execRomStage, if_neg (by rw [hrom, hready]; decide)]
  change Host.Outcome.next (if (_ && (s.romBegun mode).boot.record.applyPending) = true then _ else if mode ≠ 0 then (s.romBegun mode).recover else _) = _
  rw [hnone, Bool.and_false, if_neg Bool.false_ne_true]
  rfl

theorem State.romBegun_of_record {r : BootRec} (hr : s.boot.record? = some r) : s.romBegun mode =
    { (({ s with power := { s.power with domainsOn := true, flResetN := true } } : State).bump Ctr.hallBoots) with boot := { s.boot with bootMode := mode } } := by
  have hsome : ¬ ({ s.boot with bootMode := mode } : Boot).record?.isNone = true := by
    change ¬ s.boot.record?.isNone = true
    rw [hr]
    exact Bool.false_ne_true
  exact if_neg hsome

theorem romBegan {r : BootRec} (hr : s.boot.record? = some r) : RomBegan s (s.romBegun mode) := by
  rw [State.romBegun_of_record hr]
  exact ⟨rfl, rfl, rfl, rfl, State.ctr_bump ..⟩

/-! ### The choice of a bank (R836, R837, R847) -/

/-- R836: bank `second` verifies, by the outcome for its signature. -/
abbrev Boot.good (b : Boot) (va vb second : Bool) : Bool := b.verifies second (if second then vb else va)

variable {v : State} {r : BootRec}

theorem State.useTry_once (h : v.boot.record.trial = false) : v.useTry = v := if_pos (by rw [h]; rfl)

theorem State.useTry_trial (h : v.boot.record.trial = true) : v.useTry = if v.boot.record.triesLeft = 0 then
    ({ v.writeRecord (fun r => { r with activeB := !r.activeB, trial := false, lastResult := 5 }) with
        boot := { v.boot.writeRecord (fun r => { r with activeB := !r.activeB, trial := false, lastResult := 5 }) with staging := none, lastResult := 5 } } : State).bump
      Ctr.hallUpdateReverted
    else v.writeRecord (fun r => { r with triesLeft := r.triesLeft - 1 }) := if_neg (by rw [h]; decide)

/-- R847: a try changes no digest. -/
theorem State.good_useTry (hr : v.boot.record? = some r) (second : Bool) : v.useTry.boot.good va vb second = v.boot.good va vb second := by
  cases htrial : v.boot.record.trial with
  | false => rw [State.useTry_once htrial]
  | true =>
    rw [State.useTry_trial htrial]
    split
    · exact v.boot.verifies_writeRecord _ hr (fun _ => rfl) second _
    · exact v.boot.verifies_writeRecord _ hr (fun _ => rfl) second _

theorem State.chooseBank_dark (v : State) (h : ∀ second, v.boot.good va vb second = false) : v.chooseBank va vb m = v.recover :=
  (if_neg (Bool.eq_false_iff.mp (h _))).trans (if_neg (Bool.eq_false_iff.mp (h _)))

variable (hrec : v.boot.record = r)
include hrec

theorem State.chooseBank_active (h : v.boot.good va vb r.activeB = true) : v.chooseBank va vb m = v.bootBank r.activeB r.trial m := by
  subst hrec
  exact if_pos h

theorem State.chooseBank_other (h : v.boot.good va vb r.activeB = false) (h' : v.boot.good va vb (!r.activeB) = true) (htrial : r.trial = false) :
    v.chooseBank va vb m = ((v.setSticky 136).writeRecord (fun r => { r with activeB := !r.activeB })).bootBank (!r.activeB) r.trial m := by
  subst hrec
  refine (if_neg (Bool.eq_false_iff.mp h)).trans ((if_pos h').trans ?_)
  dsimp only
  rw [if_neg (Bool.eq_false_iff.mp htrial)]

end rom

/-- R837: a bank that is not on trial boots. -/
theorem romChooses_once {s : State} {va vb : Bool} {m : BitVec 384} {o : ApplyOutcome} {r : BootRec} (hrom : s.boot.stage = .rom)
    (hready : s.power.romReady = true) (hr : s.boot.record? = some r) (htrial : r.trial = false) (hpending : r.applyPending = false) :
    (s.boot.good va vb r.activeB = true → ∃ t : State, (Gives (.romStage 0 va vb m o) s t ∧ BootsBank s r.activeB m t) ∧
      t.boot.record = r ∧ t.boot.trialBoot = false ∧ t.sticky = s.sticky) ∧
    (s.boot.good va vb r.activeB = false → s.boot.good va vb (!r.activeB) = true → ∃ t : State,
      (Gives (.romStage 0 va vb m o) s t ∧ BootsBank s (!r.activeB) m t) ∧ t.stickyBit 136 = true ∧
        t.boot.record = { r with activeB := !r.activeB, seq := r.seq + 1 }) := by
  have hrec : s.boot.record = r := by rw [Boot.record, hr, Option.getD_some]
  have hstep := exec_romStage (mode := 0) (va := va) (vb := vb) (m := m) (o := o) hrom hready (hrec ▸ hpending)
  have hbegan := romBegan (mode := 0) hr
  have hboot := s.romBegun_boot 0
  have hsticky : (s.romBegun 0).sticky = s.sticky := by rw [State.romBegun_of_record hr]; rfl
  rw [if_neg (by decide)] at hstep
  generalize s.romBegun 0 = u at hstep hbegan hboot hsticky
  have hurec : u.boot.record = r := by rw [hboot]; exact hrec
  have hgood (second : Bool) : u.boot.good va vb second = s.boot.good va vb second := by rw [hboot]; rfl
  rw [State.useTry_once (hurec ▸ htrial)] at hstep
  refine ⟨fun hok => ?_, fun hbad hok => ?_⟩
  · rw [State.chooseBank_active hurec ((hgood _).trans hok)] at hstep
    exact ⟨_, ⟨hstep, hbegan.boots _ _ m⟩, hurec, htrial, hsticky⟩
  · rw [State.chooseBank_other hurec ((hgood _).trans hbad) ((hgood _).trans hok) htrial] at hstep
    refine ⟨_, ⟨hstep, ((hbegan.setSticky 136).writeRecord _).boots _ _ m⟩, ?_, ?_⟩
    · have hset := u.stickyBit_setSticky_self (n := 136) (by decide)
      generalize u.setSticky 136 = w at hset
      exact hset
    · refine ((u.setSticky 136).boot.record_writeRecord _).trans ?_
      rw [State.setSticky, State.setStickyIn_boot, hurec]

/-- R847: a bank on trial loses a try, or is reverted. -/
theorem romChooses_trial {s : State} {va vb : Bool} {m : BitVec 384} {o : ApplyOutcome} {r : BootRec} (hrom : s.boot.stage = .rom)
    (hready : s.power.romReady = true) (hr : s.boot.record? = some r) (htrial : r.trial = true) (hpending : r.applyPending = false) :
    (r.triesLeft = 0 → s.boot.verifies (!r.activeB) (if r.activeB then va else vb) = true → ∃ t : State,
      (Gives (.romStage 0 va vb m o) s t ∧ BootsBank s (!r.activeB) m t) ∧
        t.boot.record = { r with activeB := !r.activeB, trial := false, lastResult := 5, seq := r.seq + 1 } ∧
        t.boot.staging = none ∧ t.ctr Ctr.hallUpdateReverted = rose (s.ctr Ctr.hallUpdateReverted) 1) ∧
    (1 ≤ r.triesLeft → s.boot.good va vb r.activeB = true → ∃ t : State, (Gives (.romStage 0 va vb m o) s t ∧ BootsBank s r.activeB m t) ∧
      t.boot.trialBoot = true ∧ t.boot.record = { r with triesLeft := r.triesLeft - 1, seq := r.seq + 1 }) := by
  have hrec : s.boot.record = r := by rw [Boot.record, hr, Option.getD_some]
  have hstep := exec_romStage (mode := 0) (va := va) (vb := vb) (m := m) (o := o) hrom hready (hrec ▸ hpending)
  have hbegan := romBegan (mode := 0) hr
  have hboot := s.romBegun_boot 0
  have hreverted : (s.romBegun 0).ctr Ctr.hallUpdateReverted = s.ctr Ctr.hallUpdateReverted := by
    rw [State.romBegun_of_record hr]
    exact State.ctr_bump_other _ (by decide)
  rw [if_neg (by decide)] at hstep
  generalize s.romBegun 0 = u at hstep hbegan hboot hreverted
  have hurec : u.boot.record = r := by rw [hboot]; exact hrec
  have hur : u.boot.record? = some r := by rw [hboot]; exact hr
  have hgood (second : Bool) : u.useTry.boot.good va vb second = s.boot.good va vb second := by
    rw [State.good_useTry hur, hboot]
    rfl
  have huse := State.useTry_trial (v := u) (hurec ▸ htrial)
  refine ⟨fun htries hok => ?_, fun htries hok => ?_⟩
  · rw [hurec, if_pos htries] at huse
    have hb := u.boot.record_writeRecord fun r => { r with activeB := !r.activeB, trial := false, lastResult := 5 }
    rw [hurec] at hb
    have hvrec : u.useTry.boot.record = { r with activeB := !r.activeB, trial := false, lastResult := 5, seq := r.seq + 1 } := by
      rw [huse]
      exact hb
    have hflip : s.boot.good va vb (!r.activeB) = true := by
      rw [← hok]
      cases r.activeB <;> rfl
    have hvbegan : RomBegan s u.useTry := by
      rw [huse]
      obtain ⟨hon, hrel, hsec, hserial, hcount⟩ := hbegan.writeRecord fun r => { r with activeB := !r.activeB, trial := false, lastResult := 5 }
      exact ⟨hon, hrel, hsec, hserial, (State.ctr_bump_other _ (by decide)).trans hcount⟩
    rw [State.chooseBank_active hvrec ((hgood _).trans hflip)] at hstep
    refine ⟨_, ⟨hstep, hvbegan.boots _ _ m⟩, hvrec, ?_, ?_⟩
    · change u.useTry.boot.staging = none
      rw [huse]
      rfl
    · change u.useTry.ctr Ctr.hallUpdateReverted = _
      rw [huse, ← hreverted]
      exact State.ctr_bump ..
  · rw [hurec, if_neg (by omega)] at huse
    have hb := u.boot.record_writeRecord fun r => { r with triesLeft := r.triesLeft - 1 }
    rw [hurec] at hb
    have hvrec : u.useTry.boot.record = { r with triesLeft := r.triesLeft - 1, seq := r.seq + 1 } := by
      rw [huse]
      exact hb
    have hvbegan : RomBegan s u.useTry := by
      rw [huse]
      exact hbegan.writeRecord _
    rw [State.chooseBank_active hvrec ((hgood _).trans hok)] at hstep
    exact ⟨_, ⟨hstep, hvbegan.boots _ _ m⟩, htrial, hvrec⟩

/-- R831: with neither bank good the ROM recovers. -/
theorem romChooses_dark {s : State} {va vb : Bool} {m : BitVec 384} {o : ApplyOutcome} {r : BootRec} (hrom : s.boot.stage = .rom)
    (hready : s.power.romReady = true) (hr : s.boot.record? = some r) (hpending : r.applyPending = false) (hdark : ∀ second, s.boot.good va vb second = false) :
    ∃ t : State, Gives (.romStage 0 va vb m o) s t ∧ t.boot.recovery = true ∧ t.boot.devState = 5 ∧ t.boot.stage = .failed := by
  have hrec : s.boot.record = r := by rw [Boot.record, hr, Option.getD_some]
  have hstep := exec_romStage (mode := 0) (va := va) (vb := vb) (m := m) (o := o) hrom hready (hrec ▸ hpending)
  have hboot := s.romBegun_boot 0
  rw [if_neg (by decide)] at hstep
  generalize s.romBegun 0 = u at hstep hboot
  have hur : u.boot.record? = some r := by rw [hboot]; exact hr
  have hgood (second : Bool) : u.useTry.boot.good va vb second = false := by
    rw [State.good_useTry hur, hboot]
    exact hdark second
  rw [State.chooseBank_dark _ hgood] at hstep
  exact ⟨_, hstep, rfl, rfl, rfl⟩

theorem romChoosesBank : Claims.RomChoosesBank := by
  refine ⟨fun b f => ⟨b.record_writeRecord f, fun r hr => b.record?_kept f hr⟩, fun s mode va vb m o h => exec_romStage_waits h,
    fun s va vb m o r hrom hready hr => ⟨fun htrial hpending => romChooses_once hrom hready hr htrial hpending, fun hA hB hpending => ?_,
      fun htrial hpending _ => romChooses_trial hrom hready hr htrial hpending⟩, fun s mode va vb m o hrom hready hmode hpending => ?_⟩
  · exact romChooses_dark hrom hready hr hpending fun second => by cases second <;> assumption
  · have hstep := exec_romStage (mode := mode) (va := va) (vb := vb) (m := m) (o := o) hrom hready hpending
    rw [if_pos hmode] at hstep
    exact ⟨_, hstep, rfl, rfl, congrArg Boot.bootMode (s.romBegun_boot mode)⟩

/-- Settles O53, from a restart's frame with what each supply event makes of power and time, and the ROM's choice of a bank over the record in use. -/
theorem resetAndRom : Obligations.ResetAndRom := ⟨resetsAndSupplies, romChoosesBank⟩

end Sys2Proof.Machine
end

section
/-!
PROOFS. Saved settings and the relay of an update (R838 to R840, R852, R853).
-/
open Sys2Proof Sys2Proof.Machine Sys2Proof.Claims
namespace Sys2Proof.Machine

/-! ### Messages on the control lane (R733, R741) -/

/-- R733, R741: a sequenced message that needs no effective instant. -/
theorem sentOne_pairSend (s : State) (body : PairMsg) : SentOne s (s.pairSend fun _ => body).2.2 body := by
  refine ⟨(s.pairSend_out _).trans ?_, rfl, rfl⟩
  have hE : (s.pairSend fun _ => body).2.1 = nextTx s + 320000 := rfl
  rw [hE, Nat.add_sub_cancel]
  rfl

theorem sentOne_sendUpdate (s : State) (x : Relay) : SentOne s (s.sendUpdate x) (.update x) := sentOne_pairSend s _

theorem State.boot_sendUpdate (s : State) (x : Relay) : (s.sendUpdate x).boot = s.boot := by
  rw [State.sendUpdate, State.pairSend_frame]

namespace SentOne

variable {s u : State} {body : PairMsg}

theorem bump (h : SentOne s u body) (id : Nat) : SentOne s (u.bump id) body := h

theorem setStaging (h : SentOne s u body) (g : Option Staging) : SentOne s (u.setStaging g) body := h

theorem of_popMsg (h : SentOne s.popMsg u body) : SentOne s u body := h

theorem of_setStaging {g : Option Staging} (h : SentOne (s.setStaging g) u body) : SentOne s u body := h

end SentOne

/-! ### Tables that a filter on numbers cuts down -/

theorem mfind_filter_of_kept {α : Type} {f : Nat × α → Bool} {t : Tab α} {k : Nat} (h : ∀ e ∈ t, e.1 = k → f e = true) :
    mfind (t.filter f) k = mfind t k := by
  induction t with
  | nil => rfl
  | cons e t ih =>
    obtain ⟨j, a⟩ := e
    have ht := ih (fun e he => h e (List.mem_cons_of_mem _ he))
    by_cases hf : f (j, a) = true
    · rw [List.filter_cons_of_pos hf, mfind, mfind, ht]
    · rw [List.filter_cons_of_neg hf, ht, mfind, if_neg fun hj => hf (h _ List.mem_cons_self hj)]

theorem mfind_filter_of_dropped {α : Type} {f : Nat × α → Bool} {t : Tab α} {k : Nat} (h : ∀ e ∈ t, e.1 = k → f e = false) :
    mfind (t.filter f) k = none := by
  refine mfind_eq_none fun x hx hk => ?_
  obtain ⟨hmem, hf⟩ := List.mem_filter.1 hx
  simp [h x hmem hk] at hf

theorem mget_filter_of_kept {α : Type} (d : α) {f : Nat × α → Bool} {t : Tab α} {k : Nat} (h : ∀ e ∈ t, e.1 = k → f e = true) :
    mget d (t.filter f) k = mget d t k := by
  rw [mget_eq_mfind, mfind_filter_of_kept h, mget_eq_mfind]

theorem mget_filter_of_dropped {α : Type} (d : α) {f : Nat × α → Bool} {t : Tab α} {k : Nat} (h : ∀ e ∈ t, e.1 = k → f e = false) :
    mget d (t.filter f) k = d := by
  rw [mget_eq_mfind, mfind_filter_of_dropped h, Option.getD_none]

/-- An entry that no step of a fold of writes names. -/
theorem mfind_foldl_mput_other {α β : Type} (key : β → Nat) (v : β → α) (l : List β) (t : Tab α) {k : Nat} (h : ∀ e ∈ l, k ≠ key e) :
    mfind (l.foldl (fun t e => mput t (key e) (v e)) t) k = mfind t k := by
  induction l generalizing t with
  | nil => rfl
  | cons e l ih =>
    rw [List.foldl_cons, ih _ fun e he => h e (List.mem_cons_of_mem _ he)]
    exact mfind_mput_other _ _ (h e List.mem_cons_self)

/-! ### Saved settings (R838, R839) -/

/-- R838: the identifiers of the time settings. -/
theorem TimeBase.mem_saved {t : TimeBase} {e : Nat × Int} (h : e ∈ t.saved) : 0x7001 ≤ e.1 ∧ e.1 ≤ 0x7008 := by
  have hmem : e.1 ∈ [0x7001, 0x7002, 0x7003, 0x7004, 0x7005, 0x7006, 0x7007, 0x7008] := List.mem_map_of_mem (f := Prod.fst) h
  exact (by decide : ∀ n ∈ [0x7001, 0x7002, 0x7003, 0x7004, 0x7005, 0x7006, 0x7007, 0x7008], 0x7001 ≤ n ∧ n ≤ 0x7008) _ hmem

theorem settingKey_div (id : Nat) : settingKey id 0 0 / 16777216 = id := by
  unfold settingKey
  omega

/-- R838: a setting that is no time setting is captured by its own entry. -/
theorem State.mfind_captureSettings (s : State) {k : Nat} (h : settingScope (k / 16777216) ≠ some .time) :
    mfind s.captureSettings.settings k = mfind s.savedKeys k := by
  refine mfind_foldl_mput_other (fun e : Nat × Int => settingKey e.1 0 0) _ _ _ fun e he hk => h ?_
  obtain ⟨hlo, hhi⟩ := TimeBase.mem_saved he
  rw [hk, settingKey_div]
  have h' : ∀ id, 0x7001 ≤ id → id ≤ 0x7008 → settingScope id = some .time := by
    intro id hlo hhi
    interval_cases id <;> rfl
  exact h' _ hlo hhi

theorem State.savedTime_captureSettings (s : State) :
    savedTime s.captureSettings 0x7001 0 = ((s.time.originPending.getD s.time.originInForce : Nat) : Int).bmod (2 ^ 128) := by
  have hfind : mfind s.captureSettings.settings (settingKey 0x7001 0 0) =
      some (((s.time.originPending.getD s.time.originInForce : Nat) : Int) % 2 ^ 128).toNat := by
    rw [State.captureSettings, TimeBase.saved, List.foldl_cons]
    refine (mfind_foldl_mput_other (fun e : Nat × Int => settingKey e.1 0 0) _ _ _ fun e he => ?_).trans (mfind_mput_same ..)
    simp only [List.mem_cons, List.not_mem_nil, or_false] at he
    rcases he with rfl | rfl | rfl | rfl | rfl | rfl | rfl <;> dsimp only <;> decide
  rw [savedTime, hfind]
  dsimp only
  rw [BitVec.toInt_ofNat', Int.toNat_of_nonneg (Int.emod_nonneg _ (by decide))]
  have hmod := Int.emod_bmod (x := ((s.time.originPending.getD s.time.originInForce : Nat) : Int)) (n := 2 ^ 128)
  rwa [Nat.cast_pow, Nat.cast_ofNat] at hmod

theorem exec_settingsSave {c : CmdIn} {s : State} {cmd : Cmd} (h : Ready 0x0A08 (.settingsSave c) c s cmd) :
    Succeeds (.settingsSave c) c s { s with boot := { s.boot with capture := some s.captureSettings } } :=
  congrArg Host.Outcome.next (runNow_completes h (List.forall_mem_nil _) (dataHere_of_ready h) rfl (.inl rfl) (if_pos rfl))

/-- R834: the copy that new settings go over. -/
def Boot.saveFirst (b : Boot) : Bool :=
  match b.settings0, b.settings1 with
  | some x, some y => decide (x.seq < y.seq)
  | some _, none => false
  | none, _ => true

section saved
variable (b : Boot) (x : SavedSettings)

theorem Boot.save_eq : b.save x = if b.saveFirst then { b with settings0 := some { x with seq := (b.saved.map (·.seq)).getD 0 + 1 } }
    else { b with settings1 := some { x with seq := (b.saved.map (·.seq)).getD 0 + 1 } } := rfl

/-- R834: the copy in use is the one that is not written over. -/
theorem Boot.saved_eq : b.saved = if b.saveFirst then b.settings1 else b.settings0 := by
  unfold Boot.saved Boot.saveFirst
  cases b.settings0 with
  | none => rfl
  | some x =>
    cases b.settings1 with
    | none => rfl
    | some y => by_cases hlt : x.seq < y.seq <;> simp [hlt]

theorem Boot.saved_of_newest {b : Boot} {x : SavedSettings} (h : b.settings0 = some x ∧ (∀ y, b.settings1 = some y → y.seq < x.seq) ∨
    b.settings1 = some x ∧ ∀ y, b.settings0 = some y → y.seq < x.seq) : b.saved = some x := by
  unfold Boot.saved
  rcases h with ⟨hx, hold⟩ | ⟨hx, hold⟩
  · rw [hx]
    cases hy : b.settings1 with
    | none => rfl
    | some y => exact congrArg some (if_neg (Nat.lt_asymm (hold y hy)))
  · rw [hx]
    cases hy : b.settings0 with
    | none => rfl
    | some y => exact congrArg some (if_pos (hold y hy))

/-- R834: what has been saved is in use. -/
theorem Boot.saved_save : (b.save x).saved = some { x with seq := (b.saved.map (·.seq)).getD 0 + 1 } := by
  have hseq {y : SavedSettings} (hy : b.saved = some y) : y.seq < (b.saved.map (·.seq)).getD 0 + 1 := by
    rw [hy]
    exact Nat.lt_succ_self _
  refine Boot.saved_of_newest ?_
  have hsaved := b.saved_eq
  rw [b.save_eq x]
  split
  · next h => exact .inl ⟨rfl, fun y hy => hseq (hsaved.trans ((if_pos h).trans hy))⟩
  · next h => exact .inr ⟨rfl, fun y hy => hseq (hsaved.trans ((if_neg h).trans hy))⟩

/-- R834: the copy that was in use stays. -/
theorem Boot.saved_kept {y : SavedSettings} (h : b.saved = some y) : (b.save x).settings0 = some y ∨ (b.save x).settings1 = some y := by
  rw [b.saved_eq] at h
  rw [b.save_eq x]
  split
  · next hover => exact .inr ((if_pos hover).symm.trans h)
  · next hover => exact .inl ((if_neg hover).symm.trans h)

end saved

theorem settingsFlashWrite_spec {s : State} {x : SavedSettings} (hx : s.boot.capture = some x) (hfree : s.hallFree = true) :
    (∃ t : State, Gives (.settingsFlashWrite true) s t ∧ t.boot.capture = none ∧ t.boot.saved = some { x with seq := (s.boot.saved.map (·.seq)).getD 0 + 1 } ∧
      ∀ y, s.boot.saved = some y → t.boot.settings0 = some y ∨ t.boot.settings1 = some y) ∧
    (∃ t : State, Gives (.settingsFlashWrite false) s t ∧ t.stickyBit 136 = true ∧ t.boot = s.boot) := by
  have hstep (done : Bool) : Gives (.settingsFlashWrite done) s (if done then { s with boot := { s.boot.save x with capture := none } } else s.setSticky 136) := by
    refine congrArg Host.Outcome.next ((State.whenFree_of_free hfree _).trans ?_)
    rw [hx]
  exact ⟨⟨_, hstep true, rfl, s.boot.saved_save x, fun y => s.boot.saved_kept x⟩,
    ⟨_, hstep false, s.stickyBit_setSticky_self (by decide), s.setStickyIn_boot 0 136⟩⟩

/-! ### The relay of an update (R852, R853) -/

section relay
variable {s : State} (hfree : s.hallFree = true)
include hfree

theorem exec_relayOffer_kept {g : Staging} (hg : s.boot.staging = some g) (h : g.state ≠ .closed) (b d : Bool) : Gives (.relayOffer b d) s s := by
  refine congrArg Host.Outcome.next ((State.whenFree_of_free hfree _).trans ?_)
  rw [hg]
  exact if_pos (.inl h)

theorem exec_relayOffer {g : Staging} (hg : s.boot.staging = some g) (hrun : s.boot.recovery = false) (hclosed : g.state = .closed)
    {banister : Bool} (hmem : b2n banister ∈ g.offers) (hpair : banister = true → s.paired = true) :
    Gives (.relayOffer banister true) s ((if banister then s.sendUpdate g.offer else s.sendRelay 1 g.offer).bump Ctr.hallRelayOffers) := by
  refine congrArg Host.Outcome.next ((State.whenFree_of_free hfree _).trans ?_)
  rw [hg]
  refine (if_neg ?_).trans ?_
  · simp [hclosed, hmem, hrun]
  · cases banister with
    | false => rfl
    | true => exact if_pos (hpair rfl)

section offered
variable (hrun : s.boot.recovery = false) (hone : s.boot.stageOne = true) {port sender : Nat} {x : Relay}
include hrun hone

theorem exec_offer (hop : x.op = 1) : Gives (.offer port sender x) s (match s.offerFault x with
    | none => ({ s with boot := { s.boot with acceptedFrom := some sender } }).sendRelay port (relayAnswer 2 0)
    | some r => (s.sendRelay port (relayAnswer 3 r)).bump Ctr.hallRelayDeclined) := by
  refine congrArg Host.Outcome.next ((State.whenFree_of_free hfree _).trans ?_)
  exact (if_neg (by rw [hrun, hone]; decide)).trans (if_pos hop)

theorem exec_offer_declined (hop : x.op = 1) {r : Nat} (h : s.offerFault x = some r) :
    Gives (.offer port sender x) s ((s.sendRelay port (relayAnswer 3 r)).bump Ctr.hallRelayDeclined) := by
  have hstep := exec_offer hfree hrun hone (port := port) (sender := sender) hop
  rwa [h] at hstep

theorem exec_offer_accepted (hop : x.op = 1) (h : s.offerFault x = none) :
    Gives (.offer port sender x) s (({ s with boot := { s.boot with acceptedFrom := some sender } } : State).sendRelay port (relayAnswer 2 0)) := by
  have hstep := exec_offer hfree hrun hone (port := port) (sender := sender) hop
  rwa [h] at hstep

/-- R853: the neighbour down the chain answers an offer. -/
theorem exec_offer_answered {g : Staging} (hg : s.boot.staging = some g) (hclosed : g.state = .closed) (hmem : 0 ∈ g.offers) {op : Nat} (hop : op = 2 ∨ op = 3) :
    ∃ t : State, Gives (.offer port sender (relayAnswer op 0)) s t ∧ (∃ g', t.boot.staging = some g' ∧ 0 ∉ g'.offers ∧ g'.state = .closed) ∧
      t.out = s.out ++ (if op = 2 then [.relayStaging sender] else []) := by
  have hopen : (g.state == .closed && g.offers.contains 0) = true := by simp [hclosed, hmem]
  have hgone : 0 ∉ g.offers.filter (· != 0) := by simp
  have hans : s.answered 0 = s.setStaging (some { g with offers := g.offers.filter (· != 0) }) := by rw [State.answered, hg]
  have hstep : Gives (.offer port sender (relayAnswer op 0)) s
      (if op = 2 then (s.answered 0).emit (.relayStaging sender) else s.answered 0) := by
    refine congrArg Host.Outcome.next ((State.whenFree_of_free hfree _).trans ?_)
    refine (if_neg (by rw [hrun, hone]; decide)).trans ((if_neg (by rcases hop with rfl | rfl <;> decide)).trans ((if_pos hop).trans ?_))
    rw [hg]
    dsimp only
    rw [hopen, Bool.true_and]
    rcases hop with rfl | rfl <;> rfl
  rw [hans] at hstep
  refine ⟨_, hstep, ?_, ?_⟩
  · refine ⟨{ g with offers := g.offers.filter (· != 0) }, ?_, hgone, hclosed⟩
    split <;> rfl
  · rcases hop with rfl | rfl
    · rfl
    · exact (List.append_nil _).symm

end offered

theorem exec_update {n : Nat} {x : Relay} (hmsg : s.nextMsg = some (n, .update x)) (hpair : s.paired = true) : Gives .update s (s.popMsg.takeUpdate x) := by
  refine congrArg Host.Outcome.next ((State.whenFree_of_free hfree _).trans ?_)
  rw [hmsg]
  exact if_pos hpair

/-- R853: the partner's offer is accepted. -/
theorem exec_update_accepted {n : Nat} {x : Relay} (hmsg : s.nextMsg = some (n, .update x)) (hpair : s.paired = true) (hop : x.op = 1)
    (hnone : s.boot.staging = none) (hbase : x.baseDigest = 0) : Gives .update s
      ((s.popMsg.setStaging (some { state := .receiving, owner := ownerPartner, source := 3, total := x.value })).sendUpdate (relayAnswer 2 0)) := by
  have hstep := exec_update hfree hmsg hpair
  have hfault : s.popMsg.offerFault x = none := by
    unfold State.offerFault
    rw [if_neg (by change ¬ s.boot.staging.isSome = true; rw [hnone]; decide), if_pos (.inl hbase)]
  have htake : s.popMsg.takeUpdate x = (s.popMsg.setStaging (some { state := .receiving, owner := ownerPartner, source := 3, total := x.value })).sendUpdate
      (relayAnswer 2 0) := by
    unfold State.takeUpdate
    rw [hop, hfault]
    cases s.popMsg.boot.staging <;> rfl
  rwa [htake] at hstep

/-- R853: the partner's offer meets an update and is declined. -/
theorem exec_update_declined {n : Nat} {x : Relay} (hmsg : s.nextMsg = some (n, .update x)) (hpair : s.paired = true) (hop : x.op = 1)
    (hsome : s.boot.staging ≠ none) : Gives .update s ((s.popMsg.sendUpdate (relayAnswer 3 1)).bump Ctr.hallRelayDeclined) := by
  have hstep := exec_update hfree hmsg hpair
  have hfault : s.popMsg.offerFault x = some 1 := if_pos (Option.isSome_iff_ne_none.mpr hsome)
  have htake : s.popMsg.takeUpdate x = (s.popMsg.sendUpdate (relayAnswer 3 1)).bump Ctr.hallRelayDeclined := by
    unfold State.takeUpdate
    rw [hop, hfault]
    cases s.popMsg.boot.staging <;> rfl
  rwa [htake] at hstep

/-- R853: DATA of the partner. -/
theorem exec_update_data {n : Nat} {x : Relay} {g : Staging} (hmsg : s.nextMsg = some (n, .update x)) (hpair : s.paired = true) (hop : x.op = 4)
    (hg : s.boot.staging = some g) (howner : g.owner = ownerPartner) (hstate : g.state = .receiving) (hat : x.value = g.queued)
    (hfit : g.queued + x.length ≤ g.total) : Gives .update s (s.popMsg.setStaging
      (some { g with queued := g.queued + x.length, written := g.written + x.length, hdr := x.hdr.orElse (fun _ => g.hdr) })) := by
  have hstep := exec_update hfree hmsg hpair
  have hpop : s.popMsg.boot.staging = some g := hg
  have htake : s.popMsg.takeUpdate x = s.popMsg.setStaging
      (some { g with queued := g.queued + x.length, written := g.written + x.length, hdr := x.hdr.orElse (fun _ => g.hdr) }) := by
    unfold State.takeUpdate
    rw [hop, hpop]
    exact if_pos ⟨howner, hstate, hat, hfit⟩
  rwa [htake] at hstep

/-- R853: END of the partner. -/
theorem exec_update_end {n : Nat} {x : Relay} {g : Staging} (hmsg : s.nextMsg = some (n, .update x)) (hpair : s.paired = true) (hop : x.op = 5)
    (hg : s.boot.staging = some g) (howner : g.owner = ownerPartner) (hstate : g.state = .receiving) (hall : g.queued = g.total) :
    Gives .update s (s.popMsg.setStaging (some { g with state := .closing })) := by
  have hstep := exec_update hfree hmsg hpair
  have hpop : s.popMsg.boot.staging = some g := hg
  have htake : s.popMsg.takeUpdate x = s.popMsg.setStaging (some { g with state := .closing }) := by
    unfold State.takeUpdate
    rw [hop, hpop]
    exact if_pos ⟨howner, hstate, hall⟩
  rwa [htake] at hstep

omit hfree in
theorem State.nextMsg_of_empty (h : s.pair.inbox = []) : s.nextMsg = none := by
  unfold State.nextMsg
  split
  · rfl
  · rw [h]
    cases s.pair.state <;> rfl

/-- R853: the next part of an accepted staging, or its end. -/
theorem exec_update_next {g : Staging} {k : Nat} (hempty : s.pair.inbox = []) (hg : s.boot.staging = some g) (hat : g.relayAt = some k)
    (hpair : s.paired = true) (hclosed : g.state = .closed) : Gives .update s (if k < g.total then
      (s.sendUpdate { relayAnswer 4 0 with value := k, length := min relayChunk (g.total - k), hdr := if k = 0 then g.hdr else none }).setStaging
        (some { g with relayAt := some (k + min relayChunk (g.total - k)) })
      else (s.sendUpdate (relayAnswer 5 0)).setStaging (some { g with relayAt := none })) := by
  refine congrArg Host.Outcome.next ((State.whenFree_of_free hfree _).trans ?_)
  rw [State.nextMsg_of_empty hempty]
  dsimp only
  unfold State.relayNext
  rw [hg]
  dsimp only
  rw [hat]
  exact if_neg (by rw [hpair, hclosed]; decide)

end relay

/-- Settles O56, by the rules of each record that the relay sends and takes, and of the saved copies. -/
theorem settingsAndRelays : Obligations.SettingsAndRelays := by
  refine ⟨fun c s cmd h => ⟨s.captureSettings, exec_settingsSave h, rfl, rfl, fun k hk => ?_, fun k hk => ?_, s.savedTime_captureSettings⟩,
    fun s x hx hfree => settingsFlashWrite_spec hx hfree, fun s g hg hfree hrun => ⟨fun hopen b d => exec_relayOffer_kept hfree hg hopen b d, fun hclosed hmem => ?_,
      fun hclosed hmem hpair => ?_⟩, fun s port sender total base target hfree hrun hone => ⟨fun hsome => ?_, fun hnone hbase hrunning => ?_, fun hnone hbase => ?_⟩,
    fun s port sender g hfree hrun hone hg hclosed hmem op hop => exec_offer_answered hfree hrun hone hg hclosed hmem hop,
    fun s n x hmsg hfree hpair => ⟨fun hop hnone hbase => ?_, fun hop hsome => ?_, fun g hg howner hstate => ⟨fun hop hat hfit => ?_, fun hop hall => ?_⟩⟩,
    fun s g k hempty hg hat hpair hfree hclosed => ⟨fun hk => ?_, fun hk => ?_⟩⟩
  · rw [s.mfind_captureSettings (by rcases hk with h | h | h | h <;> rw [h] <;> decide)]
    refine mfind_filter_of_kept fun e _ he => ?_
    rw [he]
    rcases hk with h | h | h | h <;> rw [h]
  · rw [s.mfind_captureSettings (by rcases hk with h | h <;> rw [h] <;> decide)]
    refine mfind_filter_of_dropped fun e _ he => ?_
    rw [he]
    rcases hk with h | h <;> rw [h]
  · exact ⟨_, exec_relayOffer hfree hg hrun hclosed (banister := false) hmem (fun h => nomatch h), rfl, rfl, State.ctr_bump ..⟩
  · exact ⟨_, exec_relayOffer hfree hg hrun hclosed (banister := true) hmem (fun _ => hpair), SentOne.bump (sentOne_sendUpdate s g.offer) _⟩
  · exact ⟨_, exec_offer_declined hfree hrun hone rfl (if_pos (Option.isSome_iff_ne_none.mpr hsome)), rfl, rfl, State.ctr_bump ..⟩
  · refine ⟨_, exec_offer_declined hfree hrun hone rfl (r := 2) ?_, rfl⟩
    refine (if_neg (by rw [hnone]; decide)).trans (if_neg ?_)
    rintro (h | h)
    · exact hbase h
    · obtain ⟨b, hb, hdigest⟩ := Option.map_eq_some_iff.mp h.symm
      exact hrunning b hb hdigest
  · refine exec_offer_accepted hfree hrun hone rfl ((if_neg (by rw [hnone]; decide)).trans (if_pos (hbase.imp_right ?_)))
    rintro ⟨b, hb, hdigest⟩
    rw [hb, ← hdigest]
    rfl
  · exact ⟨_, _, exec_update_accepted hfree hmsg hpair hop hnone hbase, rfl, rfl, rfl, rfl, SentOne.of_popMsg (SentOne.of_setStaging (sentOne_sendUpdate _ (relayAnswer 2 0)))⟩
  · exact ⟨_, exec_update_declined hfree hmsg hpair hop hsome, (State.bump_boot ..).trans (State.boot_sendUpdate ..), SentOne.of_popMsg (SentOne.bump (sentOne_sendUpdate s.popMsg (relayAnswer 3 1)) _)⟩
  · exact ⟨_, _, exec_update_data hfree hmsg hpair hop hg howner hstate hat hfit, rfl, rfl, rfl, hstate⟩
  · exact ⟨_, _, exec_update_end hfree hmsg hpair hop hg howner hstate hall, rfl, rfl⟩
  · have hstep := exec_update_next hfree hempty hg hat hpair hclosed
    rw [if_pos hk] at hstep
    exact ⟨_, _, _, hstep, SentOne.setStaging (sentOne_sendUpdate s _) _, rfl, rfl, rfl, rfl, rfl⟩
  · have hstep := exec_update_next hfree hempty hg hat hpair hclosed
    rw [if_neg (Nat.not_lt.mpr hk)] at hstep
    exact ⟨_, _, hstep, SentOne.setStaging (sentOne_sendUpdate s _) _, rfl, rfl⟩

end Sys2Proof.Machine
end

section
/-!
PROOFS. Commands whose checks depend on their parameters, and the settings of a device outside a pair (R656 to R661).
-/
open Sys2Proof Sys2Proof.Machine Sys2Proof.Claims
namespace Sys2Proof.Machine

/-! ### Commands whose checks depend on their parameters -/

section
variable {op : Nat} {i : Instr} {c : CmdIn} {s : State} {cmd : Cmd} (h : Ready op i c s cmd) {bad : List (Bool × Nat)}
  {body : Cmd → State → Option Status × State} {pre : Cmd → State → Option Status} {misnamed : Cmd → State → Bool} (hname : misnamed cmd s = false)
include h hname

/-- Steps 5 to 8 of Table 17-4 bar the command. -/
theorem runCmd_barred {st : Status} (hpre : pre cmd s = some st) : runCmd op i c bad s body pre misnamed = s.complete c.ring st := by
  obtain ⟨hcmd, hop, hstart, hfence, hfree, hturn, hhead, _⟩ := h
  simp only [runCmd, hcmd, hop, hstart, hfence, hfree, hturn, hhead, hname, hpre, bne_self_eq_false, Bool.or_self, Bool.not_true, Bool.false_and,
    Bool.false_eq_true, if_false]

/-- Step 10 of Table 17-4: a parameter is out of range. -/
theorem runCmd_badParam (hpre : pre cmd s = none) {off : Nat} (hbad : (true, off) ∈ bad) :
    ∃ detail, runCmd op i c bad s body pre misnamed = s.complete c.ring { status := 2, detail := detail } := by
  obtain ⟨hcmd, hop, hstart, hfence, hfree, hturn, hhead, hdata, hspell, hread, hrsv, hrest⟩ := h
  cases hfault : paramFault c.rsvAt (s.paramRest i c.ring cmd) bad with
  | none =>
    rw [hrsv, hrest, paramFault_none] at hfault
    exact absurd (hfault _ hbad) (by simp)
  | some off =>
    refine ⟨32 + off, ?_⟩
    simp only [runCmd, hcmd, hop, hstart, hfence, hfree, hturn, hhead, hname, hpre, hdata, hspell, hread, hfault, bne_self_eq_false, Bool.or_self,
      Bool.not_true, Bool.false_and, Bool.false_eq_true, if_false]
    rfl

/-- The command completes with what its body answers. -/
theorem runCmd_answers (hpre : pre cmd s = none) (hbad : ∀ b ∈ bad, b.1 = false) {st : Status} {t : State} (hbody : body cmd s = (some st, t))
    (hreply : replied c s st t = (st, t)) : runCmd op i c bad s body pre misnamed = t.complete c.ring st := by
  obtain ⟨hcmd, hop, hstart, hfence, hfree, hturn, hhead, hdata, hspell, hread, hrsv, hrest⟩ := h
  have hfault : paramFault c.rsvAt (s.paramRest i c.ring cmd) bad = none := by
    rw [hrsv, hrest]
    exact (paramFault_none bad).2 hbad
  rw [runCmd_start op i c bad s body _ _ _ _ hcmd hop hstart hfence hfree hturn hhead hread hname hpre hspell hfault hdata hdata (by simp), hbody]
  dsimp only
  rw [hreply]

end

/-! ### SETTING_READ -/

theorem settingState_absent {id : Nat} {write : Bool} {cmd : Cmd} {s : State} {sc : SetScope} (hsc : settingScope id = some sc) (hof : sc.ofPart = true)
    (hnone : (s.partOf cmd.hdr.partition).state = .unconfigured) : settingState id write cmd s = some (fail stNotFound) := by
  unfold settingState
  rw [hsc]
  dsimp only
  rw [hof, hnone]
  rfl

theorem settingBad_none {s : State} {id inst elem o : Nat} {sc : SetScope} (hsc : settingScope id = some sc) (hinst : inst < s.instances sc)
    (helem : elem < settingElements id) : ∀ b ∈ settingBad s id inst elem o, b.1 = false := by
  unfold settingBad
  rw [hsc]
  simp [hinst, helem]

theorem State.settingBytes_stored {s : State} {id : Nat} {sc : SetScope} (hsc : settingScope id = some sc) (htime : sc ≠ .time) (p inst elem : Nat) :
    s.settingBytes p id inst elem = leBytes 16 (s.setting id (scopedInst sc p inst) elem) := by
  unfold State.settingBytes
  rw [hsc]
  cases sc with
  | time => exact absurd rfl htime
  | _ => rfl

section read
variable {c : CmdIn} {id inst elem : Nat} {s : State} {cmd : Cmd} (h : Ready 0x0206 (.settingRead c id inst elem) c s cmd)
  (hname : settingMisnamed id cmd = false)
include h hname

theorem exec_settingRead_absent {sc : SetScope} (hsc : settingScope id = some sc) (hof : sc.ofPart = true)
    (hnone : (s.partOf cmd.hdr.partition).state = .unconfigured) : Fails (.settingRead c id inst elem) c s 8 :=
  ⟨0, congrArg Host.Outcome.next (runCmd_barred h hname (settingState_absent hsc hof hnone))⟩

theorem exec_settingRead {sc : SetScope} (hroom : Room c 16) (hsc : settingScope id = some sc) (hinst : inst < s.instances sc)
    (helem : elem < settingElements id) (hstate : settingState id false cmd s = none) (htime : sc ≠ .time) :
    Replies (.settingRead c id inst elem) c s s (leBytes 16 (s.setting id (scopedInst sc cmd.hdr.partition inst) elem)) := by
  rw [← State.settingBytes_stored hsc htime]
  refine congrArg Host.Outcome.next (runCmd_answers h hname hstate (settingBad_none hsc hinst helem) rfl (replied_of_room (.inr ?_) s s))
  change Room c (s.settingBytes cmd.hdr.partition id inst elem).length
  rwa [State.settingBytes_stored hsc htime, length_leBytes]

end read

/-! ### What a setting's value leaves (R149, R658, R748) -/

/-- The settings, the partitions and the tiles. -/
def State.stored (s : State) : Tab Nat × Tab Partition × Tab Tile := (s.settings, s.parts, s.tiles)

theorem State.stored_enqueue (s : State) (b : Nat) (o : Occ) : (s.enqueue b o).stored = s.stored := by
  rw [State.stored, State.enqueue_settings, State.enqueue_parts, State.enqueue_tiles]
  rfl

theorem State.stored_sendVector (s : State) (fn v : Nat) : (s.sendVector fn v).stored = s.stored := by
  rw [State.stored, State.sendVector_settings, State.sendVector_parts, State.sendVector_tiles]
  rfl

theorem State.stored_placeSweep (s : State) (p : Nat) : (s.placeSweep p).stored = s.stored :=
  foldl_keeps State.stored _ (fun s w => State.stored_enqueue (s.setQueue (blkCellar w) _) _ _) _ s

theorem State.stored_placeSample (s : State) : s.placeSample.stored = s.stored := by
  unfold State.placeSample
  dsimp only
  split
  · exact State.stored_enqueue ..
  · rfl

theorem State.stored_refreshPort (s : State) (port : Nat) : (s.refreshPort port).stored = s.stored :=
  State.refreshPort_keeps State.stored (fun _ _ _ => rfl) (fun _ _ _ => rfl) s port

theorem State.stored_exportSetting (s : State) (id inst port : Nat) : (s.exportSetting id inst port).stored = s.stored := by
  unfold State.exportSetting
  split
  · refine (State.stored_refreshPort ..).trans ((State.stored_refreshPort ..).trans ?_)
    split <;> rfl
  · split
    · exact State.stored_refreshPort ..
    · rfl

theorem State.stored_notifyRq (s : State) (p q : Nat) : (s.notifyRq p q).stored = s.stored := by
  unfold State.notifyRq
  dsimp only
  split
  · exact State.stored_sendVector (s.setRq p q { s.rq p q with pendCount := 0 }) _ _
  · rfl

/-- R149, R578, R748: the former value of a setting stays known for a while. -/
def State.keepsFormer (s : State) (sc : SetScope) (id k elem e : Nat) (paired : Bool) : State :=
  if id = 0x4006 ∨ id = 0x3004 then s.shapeFormer id k elem (s.setting id k elem)
  else if paired then s.pushFormer e id k elem (s.setting id k elem)
  else if sc = .partition ∨ sc = .bank then s.pushFormer (s.nt + 1) id k elem (s.setting id k elem)
  else s

theorem State.stored_keepsFormer (s : State) (sc : SetScope) (id k elem e : Nat) (paired : Bool) (v : Nat) :
    ((s.keepsFormer sc id k elem e paired).putSetting id k elem v).stored = (s.putSetting id k elem v).stored := by
  unfold State.keepsFormer
  (repeat' split) <;> rfl

/-- R47, R235, R566, R583, R683: what a value that has been stored makes of what goes by it; `port` is the queue's former port. -/
def State.settingEffect (s : State) (sc : SetScope) (p id inst v e port : Nat) (paired : Bool) : State :=
  match sc with
  | .partition =>
    if id = 0x1001 then s.setDeadline p v e paired
    else if id = 0x1009 ∨ id = 0x100A then s.placeSweep p
    else s
  | .lane => if id = 0x2001 ∧ v = 0 ∧ (s.lane inst).up then s.dropLane inst else s
  | .queue | .port => s.exportSetting id inst port
  | .device => if id = 0x0005 then s.placeSample else s
  | .reportQueue => s.notifyRq p inst
  | .bank | .time => s

theorem State.writeSetting_eq (s : State) {id : Nat} {sc : SetScope} (hsc : settingScope id = some sc) (p inst elem v e : Nat) (paired : Bool) :
    s.writeSetting p id inst elem v e paired = ((s.keepsFormer sc id (scopedInst sc p inst) elem e paired).putSetting id (scopedInst sc p inst) elem v).settingEffect
      sc p id inst v e (s.setting 0x4002 inst 0) paired := by
  unfold State.writeSetting
  rw [hsc]
  rfl

theorem State.stored_settingEffect (s : State) (sc : SetScope) (p id inst v e port : Nat) (paired : Bool) :
    (s.settingEffect sc p id inst v e port paired).stored = s.stored := by
  have hite {q : Prop} [Decidable q] {t : State} (ht : t.stored = s.stored) : (if q then t else s).stored = s.stored := by
    split
    · exact ht
    · rfl
  cases sc with
  | partition =>
    unfold State.settingEffect
    dsimp only
    split
    · rfl
    · exact hite (State.stored_placeSweep ..)
  | lane => exact hite rfl
  | queue => exact State.stored_exportSetting ..
  | port => exact State.stored_exportSetting ..
  | device => exact hite (State.stored_placeSample ..)
  | reportQueue => exact State.stored_notifyRq ..
  | bank => rfl
  | time => rfl

/-- A setting takes its value, and neither the partitions nor the tiles change. -/
theorem State.stored_writeSetting (s : State) {id : Nat} {sc : SetScope} (hsc : settingScope id = some sc) (p inst elem v e : Nat) (paired : Bool) :
    (s.writeSetting p id inst elem v e paired).stored = (s.putSetting id (scopedInst sc p inst) elem v).stored := by
  rw [s.writeSetting_eq hsc, State.stored_settingEffect, State.stored_keepsFormer]

/-! ### SETTING_WRITE outside a pair -/

section write
variable {c : CmdIn} {id inst elem v : Nat} {s : State} {cmd : Cmd} (h : Ready 0x0205 (.settingWrite c id inst elem v) c s cmd) (halone : Alone s)
include h halone

/-- The fields of SETTING_WRITE that Tables 17-5 and 17-6 bound. -/
abbrev settingWriteBad (s : State) (c : CmdIn) (id inst elem v : Nat) : List (Bool × Nat) :=
  settingBad s id inst elem 0 ++ [(settingScope id == some .time, 0), (!(settingScope id == some .time) && !settingOk s id v, 0x10),
    (s.vectorOutside c.ring id v, 0x10)]

omit h in
theorem ite_mirrored_voting (t : State) : (if (settingMirrored id && s.voting) = true then s else t) = t := by
  rw [State.voting_of_alone halone, Bool.and_false, if_neg Bool.false_ne_true]

theorem exec_settingWrite_time (htime : settingScope id = some .time) (hname : settingMisnamed id cmd = false) :
    Fails (.settingWrite c id inst elem v) c s 2 := by
  have hstate : settingState id true cmd s = none := by
    unfold settingState
    rw [htime]
    rfl
  have hbad : (true, 0) ∈ settingWriteBad s c id inst elem v := by
    rw [settingWriteBad, htime]
    exact List.mem_append_right _ List.mem_cons_self
  obtain ⟨detail, hrun⟩ := runCmd_badParam h (misnamed := fun cmd _ => settingMisnamed id cmd) hname (bad := settingWriteBad s c id inst elem v) hstate hbad
  exact ⟨detail, congrArg Host.Outcome.next ((ite_mirrored_voting halone _).trans hrun)⟩

variable {sc : SetScope} (hfits : SettingFits s cmd id inst elem v sc)
include hfits

theorem exec_settingWrite_absent (hof : sc.ofPart = true) (hnone : (s.partOf cmd.hdr.partition).state = .unconfigured) :
    Fails (.settingWrite c id inst elem v) c s 8 := by
  obtain ⟨hsc, -, -, -, -, -, hname⟩ := hfits
  exact ⟨0, congrArg Host.Outcome.next ((ite_mirrored_voting halone _).trans (runCmd_barred h hname (settingState_absent hsc hof hnone)))⟩

omit halone in
theorem settingWriteBad_none : ∀ b ∈ settingWriteBad s c id inst elem v, b.1 = false := by
  obtain ⟨hsc, htime, hinst, helem, hok, hvec, -⟩ := hfits
  have hcmd := h.1
  intro b hb
  rcases List.mem_append.mp hb with hb | hb
  · exact settingBad_none hsc hinst helem b hb
  · simp only [List.mem_cons, List.not_mem_nil, or_false, hsc, hok] at hb
    rcases hb with rfl | rfl | rfl
    · simpa using htime
    · simp
    · rw [State.vectorOutside, hcmd]
      by_cases hid : id = 0x6001
      · by_cases hfn : s.fnOf cmd.hdr.partition = 0
        · simp [hid, hfn]
        · simpa [hid, hfn] using hvec hid hfn
      · simp [hid]

/-- SETTING_WRITE runs its body once its checks have passed. -/
theorem exec_settingWrite (hstate : settingState id true cmd s = none) {st : Status} {t : State}
    (hbody : (if settingMirrored id then mirrored c (.setting cmd.hdr.partition id inst elem v) cmd s
      else match s.writeFault cmd.fn cmd.hdr.partition id inst v with
        | some st => (some st, s)
        | none => (some okStatus, s.writeSetting cmd.hdr.partition id inst elem v s.nt false)) = (some st, t)) (hreply : st.reply = []) :
    Gives (.settingWrite c id inst elem v) s (t.complete c.ring st) := by
  have hname : settingMisnamed id cmd = false := by
    obtain ⟨-, -, -, -, -, -, hname⟩ := hfits
    exact hname
  exact congrArg Host.Outcome.next ((ite_mirrored_voting halone _).trans
    (runCmd_answers h hname hstate (settingWriteBad_none h hfits) hbody (replied_empty _ _ _ _ hreply)))

omit h halone hfits in
theorem State.reply_writeFault {fn p : Nat} {st : Status} (hfault : s.writeFault fn p id inst v = some st) : st.reply = [] := by
  unfold State.writeFault State.bankFault at hfault
  split at hfault
  · exact Option.some.inj hfault ▸ rfl
  · split at hfault
    · exact Option.some.inj hfault ▸ rfl
    · split at hfault
      · exact Option.some.inj hfault ▸ rfl
      · split at hfault
        · exact Option.some.inj hfault ▸ rfl
        · split at hfault
          · split at hfault
            · exact Option.some.inj hfault ▸ rfl
            · split at hfault
              · exact Option.some.inj hfault ▸ rfl
              · exact nomatch hfault
          · exact nomatch hfault

theorem exec_settingWrite_fault (hstate : settingState id true cmd s = none) {st : Status} (hfault : s.writeFault cmd.fn cmd.hdr.partition id inst v = some st) :
    Gives (.settingWrite c id inst elem v) s (s.complete c.ring st) := by
  refine exec_settingWrite h halone hfits hstate ?_ (State.reply_writeFault hfault)
  split
  · exact mirrored_of_fault halone hfault
  · rw [hfault]

theorem exec_settingWrite_stores (hstate : settingState id true cmd s = none) (hfault : s.writeFault cmd.fn cmd.hdr.partition id inst v = none) :
    Succeeds (.settingWrite c id inst elem v) c s (s.writeSetting cmd.hdr.partition id inst elem v s.nt false) := by
  refine exec_settingWrite h halone hfits hstate (st := okStatus) ?_ rfl
  split
  · exact mirrored_of_alone halone hfault rfl
  · rw [hfault]

/-- R656: a setting that has been written, and what the write leaves. -/
theorem settingWrite_spec (hstate : settingState id true cmd s = none) (hfault : s.writeFault cmd.fn cmd.hdr.partition id inst v = none) :
    ∃ u : State, Succeeds (.settingWrite c id inst elem v) c s u ∧
      u.settings = mput s.settings (settingKey id (scopedInst sc cmd.hdr.partition inst) elem) v ∧
      u.setting id (scopedInst sc cmd.hdr.partition inst) elem = v ∧ u.parts = s.parts ∧ u.tiles = s.tiles := by
  have hstored := s.stored_writeSetting hfits.1 cmd.hdr.partition inst elem v s.nt false
  have hstep := exec_settingWrite_stores h halone hfits hstate hfault
  generalize s.writeSetting cmd.hdr.partition id inst elem v s.nt false = u at hstored hstep
  obtain ⟨hsettings, hparts, htiles⟩ := (by simpa only [State.stored, Prod.mk.injEq] using hstored :
    u.settings = _ ∧ u.parts = _ ∧ u.tiles = _)
  refine ⟨u, hstep, hsettings, ?_, hparts, htiles⟩
  rw [State.setting, hsettings]
  exact mget_mput_same ..

end write

end Sys2Proof.Machine
end

section
/-!
PROOFS. Partitions and contexts as they are configured, released and queried outside a pair (R664, R682, R688, R723).
-/
open Sys2Proof Sys2Proof.Machine Sys2Proof.Claims
namespace Sys2Proof.Machine

/-! ### What a new leaf and a sweep's place leave (R235, R703) -/

theorem State.issueLeaf_frame {α : Type} (g : State → α) (hsec : ∀ (s : State) x, g { s with sec := x } = g s) (hfree : ∀ s, g (State.nextFree s) = g s)
    (hpart : ∀ s p x, g (State.setPart s p x) = g s) (hbump : ∀ s, g (State.bump s Ctr.hallLeavesIssued) = g s) (s : State) (p : Nat) :
    g (s.issueLeaf p) = g s := by
  unfold State.issueLeaf
  split
  · rfl
  · rw [hbump, State.modPart, hpart]
    exact (hsec ..).trans (hfree s)

theorem State.placeSweep_keeps {α : Type} (g : State → α) (hqueue : ∀ s b q, g (State.setQueue s b q) = g s) (henqueue : ∀ s b o, g (State.enqueue s b o) = g s)
    (s : State) (p : Nat) : g (s.placeSweep p) = g s :=
  foldl_keeps g _ (fun s w => (henqueue (s.setQueue (blkCellar w) _) _ _).trans (hqueue ..)) _ s

theorem Ctr.ident_ne_merged {g i k : Nat} (hk : k < 4096) (hwing : k ≠ 9) (hhall : Ctr.ident g i k ≠ Ctr.hallEventsMerged) (b : Nat) :
    Ctr.ident g i k ≠ blkCtr b Ctr.hallEventsMerged Ctr.wingEventsMerged := by
  unfold blkCtr
  split
  · exact Ctr.ident_ne_of_low hk (by decide) hwing
  · exact hhall

/-- A counter that no occurrence's merge touches. -/
theorem State.ctr_enqueue_other (s : State) (b : Nat) (o : Occ) {id : Nat} (hb : ∀ b, id ≠ bufCtr b 1) (hf : ∀ fn, id ≠ Ctr.funcMsixSent fn)
    (hmerged : ∀ b, id ≠ blkCtr b Ctr.hallEventsMerged Ctr.wingEventsMerged) : (s.enqueue b o).ctr id = s.ctr id := by
  unfold State.enqueue
  dsimp only
  split
  · rfl
  · split
    · split
      · rfl
      · exact (State.ctr_setStickyIn_other _ _ _ hb hf).trans (State.ctr_bump_other _ (hmerged b))
    · rfl

/-- The counters of a partition's loads and tokens, which no occurrence, vector or leaf counts on. -/
theorem Ctr.part_ne (p : Nat) {k : Nat} (hk : k = 37 ∨ k = 49) :
    (∀ b, Ctr.ident 8 p k ≠ bufCtr b 1) ∧ (∀ fn, Ctr.ident 8 p k ≠ Ctr.funcMsixSent fn) ∧
      (∀ b, Ctr.ident 8 p k ≠ blkCtr b Ctr.hallEventsMerged Ctr.wingEventsMerged) ∧ Ctr.ident 8 p k ≠ Ctr.hallLeavesIssued :=
  have hlow : k < 4096 := by omega
  ⟨Ctr.ident_ne_bufCtr_of_index 8 p hlow (by omega) (by omega) (by omega), Ctr.ident_ne_funcMsixSent 8 p hlow (by omega),
    Ctr.ident_ne_merged hlow (by omega) (Ctr.ident_ne_of_low hlow (by decide) (by omega)), Ctr.ident_ne_of_low hlow (by decide) (by omega)⟩

/-! ### A partition that is configured (R664, R688, R700, Table 17-10) -/

/-- Table 17-10: the partition as it is configured. -/
def State.configuredPart (s : State) (p : Nat) (c : ConfigParams) (e : Nat) (paired : Bool) : Partition :=
  let t := (s.draw 16).2
  { c.fields with
    state := .active, stairQuota := t.quotaFor p c.fields, activeFrom := if paired then e else 0, highMask := t.highAreas p c.fields
    nonce := some (s.draw 16).1, pak := some (attestationKey (s.draw 16).1 (s.sec.fwCdi.getD []) p)
    pwk := some (wrappingKey (s.draw 16).1 (s.sec.fwCdi.getD []) p), bindOrder := t.nextBind }

/-- The shares of a partition are clear on every Wing. -/
def State.clearShares (s : State) (x : Partition) : State :=
  (List.range s.wings).foldl (fun s w => s.setWing w ((s.wing w).clearShare x w)) s

/-- What a configuration makes of the state, before the partition's sweep takes its place and its leaf is issued. -/
def State.configureBase (s : State) (p : Nat) (c : ConfigParams) (e : Nat) (paired : Bool) : State :=
  ((((((s.draw 16).2.setPart p (s.configuredPart p c e paired)).clearPartCounters p).clearShares c.fields).emptyRqs p).freshSettings p e)

theorem State.configure_eq (s : State) (p : Nat) (c : ConfigParams) (e : Nat) (paired : Bool) :
    s.configure p c e paired = ((s.configureBase p c e paired).placeSweep p).issueLeaf p := rfl

theorem State.clearShares_keeps {α : Type} (g : State → α) (hg : ∀ s w x, g (State.setWing s w x) = g s) (s : State) (x : Partition) :
    g (s.clearShares x) = g s := foldl_keeps g _ (fun _ _ => hg ..) _ s

theorem State.wing_clearShares (s : State) (x : Partition) {w : Nat} (hw : w < s.wings) : (s.clearShares x).wing w = (s.wing w).clearShare x w := by
  have htwo : s.wings = 1 ∨ s.wings = 2 := by
    unfold State.wings
    split
    · exact .inl rfl
    · exact .inr rfl
  unfold State.clearShares
  rcases htwo with h | h
  · rw [h] at hw ⊢
    obtain rfl : w = 0 := by omega
    rfl
  · rw [h] at hw ⊢
    rcases (by omega : w = 0 ∨ w = 1) with rfl | rfl <;> rfl

/-- What the sweep and the leaf leave of a configuration. -/
theorem State.configure_keeps {α : Type} (g : State → α) (hsec : ∀ (s : State) x, g { s with sec := x } = g s) (hfree : ∀ s, g (State.nextFree s) = g s)
    (hpart : ∀ s p x, g (State.setPart s p x) = g s) (hbump : ∀ s, g (State.bump s Ctr.hallLeavesIssued) = g s)
    (hqueue : ∀ s b q, g (State.setQueue s b q) = g s) (henqueue : ∀ s b o, g (State.enqueue s b o) = g s) (s : State) (p : Nat) (c : ConfigParams) (e : Nat)
    (paired : Bool) : g (s.configure p c e paired) = g (s.configureBase p c e paired) := by
  rw [State.configure_eq, State.issueLeaf_frame g hsec hfree hpart hbump, State.placeSweep_keeps g hqueue henqueue]

theorem State.parts_freshSettings (s : State) (p e : Nat) : (s.freshSettings p e).parts = s.parts := rfl

theorem State.parts_emptyRqs (s : State) (p : Nat) : (s.emptyRqs p).parts = s.parts := rfl

theorem State.parts_configureBase (s : State) (p : Nat) (c : ConfigParams) (e : Nat) (paired : Bool) :
    ((s.configureBase p c e paired).placeSweep p).parts = mput s.parts p (s.configuredPart p c e paired) := by
  rw [State.placeSweep_keeps State.parts (fun _ _ _ => rfl) (fun _ _ _ => State.enqueue_parts ..)]
  rw [State.configureBase, State.parts_freshSettings, State.parts_emptyRqs, State.clearShares_keeps State.parts fun s w x => State.setWing_parts ..]
  rfl

section configured
variable (s : State) (p : Nat) (c : ConfigParams) (e : Nat) (paired : Bool)

/-- R703: the leaf is the only field that the configuration's own record does not give. -/
theorem State.partOf_configure {α : Type} (f : Partition → α) (hf : ∀ x leaf, f { x with leaf := leaf } = f x) :
    f ((s.configure p c e paired).partOf p) = f (s.configuredPart p c e paired) := by
  rw [State.configure_eq, State.issueLeaf_keeps f hf, State.partOf, State.parts_configureBase, mget_mput_same]

theorem State.partOf_configure_other {r : Nat} (h : r ≠ p) : (s.configure p c e paired).partOf r = s.partOf r := by
  rw [State.configure_eq, State.partOf_issueLeaf_other _ h, State.partOf, State.parts_configureBase, mget_mput_other _ _ _ h]
  rfl

theorem State.leaf_issueLeaf {s : State} {p : Nat} (h : (s.partOf p).state ≠ .unconfigured) : ((s.issueLeaf p).partOf p).leaf ≠ none := by
  unfold State.issueLeaf
  rw [if_neg h, State.partOf_bump, State.partOf_modPart]
  exact Option.some_ne_none _

theorem State.leaf_configure : ((s.configure p c e paired).partOf p).leaf ≠ none := by
  rw [State.configure_eq]
  refine State.leaf_issueLeaf ?_
  rw [State.partOf, State.parts_configureBase, mget_mput_same]
  exact nofun

end configured

/-- A filter on the entries of an ascending table. -/
theorem mfind_filter_of_ascending {α : Type} {t : Tab α} (h : Ascending t) (f : Nat × α → Bool) (k : Nat) :
    mfind (t.filter f) k = (mfind t k).filter (fun x => f (k, x)) := by
  induction t with
  | nil => rfl
  | cons e t ih =>
    obtain ⟨j, a⟩ := e
    obtain ⟨hfirst, hrest⟩ := List.pairwise_cons.mp h
    have htail := ih hrest
    by_cases hj : j = k
    · subst hj
      rw [mfind, if_pos rfl, Option.filter_some]
      by_cases hf : f (j, a) = true
      · rw [List.filter_cons_of_pos hf, mfind, if_pos rfl, if_pos hf]
      · rw [List.filter_cons_of_neg hf, if_neg hf]
        exact mfind_eq_none fun x hx => (hfirst x (List.mem_filter.mp hx).1).ne'
    · rw [mfind, if_neg hj, ← htail]
      by_cases hf : f (j, a) = true
      · rw [List.filter_cons_of_pos hf, mfind, if_neg hj]
      · rw [List.filter_cons_of_neg hf]

/-- A change of the entries of some numbers. -/
theorem mfind_map_at {α : Type} (t : Tab α) (own : Nat → Prop) [DecidablePred own] (f : α → α) (k : Nat) :
    mfind (t.map (fun e => if own e.1 then (e.1, f e.2) else e)) k = if own k then (mfind t k).map f else mfind t k := by
  induction t with
  | nil => simp [mfind]
  | cons e t ih =>
    obtain ⟨j, a⟩ := e
    rw [List.map_cons, mfind]
    by_cases hown : own j
    · rw [if_pos hown, mfind, ih]
      by_cases hj : j = k
      · subst hj
        rw [if_pos rfl, if_pos hown, if_pos rfl, Option.map_some]
      · rw [if_neg hj, if_neg hj]
    · rw [if_neg hown, mfind, ih]
      by_cases hj : j = k
      · subst hj
        rw [if_pos rfl, if_neg hown, if_pos rfl]
      · rw [if_neg hj, if_neg hj]

/-- R664: the report queues of the partition hold their reads only. -/
theorem State.rq_emptyRqs {s : State} (hasc : Ascending s.rqs) (p : Nat) {k : Nat} (hk : k < 4) :
    (s.emptyRqs p).rq p k = { reads := (s.rq p k).reads } := by
  have hown : (4 * p + k) / 4 = p := by omega
  have hkeys : ((s.rqs.map (fun e => if e.1 / 4 = p then (e.1, e.2.emptied) else e)).map Prod.fst) = s.rqs.map Prod.fst := by
    rw [List.map_map]
    refine List.map_congr_left fun e _ => ?_
    change (if e.1 / 4 = p then (e.1, e.2.emptied) else e).1 = e.1
    split <;> rfl
  have hasc' : Ascending (s.rqs.map (fun e => if e.1 / 4 = p then (e.1, e.2.emptied) else e)) :=
    List.pairwise_map.mp (hkeys ▸ List.pairwise_map.mpr hasc)
  rw [State.rq, State.rq, State.emptyRqs, mget_eq_mfind, mget_eq_mfind, mfind_filter_of_ascending hasc',
    mfind_map_at s.rqs (fun j => j / 4 = p) ReportQ.emptied, if_pos hown]
  cases hq : mfind s.rqs (4 * p + k) with
  | none => rfl
  | some q =>
    rw [Option.map_some, Option.filter_some, Option.getD_some, hown]
    by_cases hreads : q.reads = []
    · rw [if_neg (by simp [ReportQ.emptied, hreads]), hreads]
      rfl
    · rw [if_pos (by simp [ReportQ.emptied, hreads])]
      rfl



theorem State.ctr_clearPartCounters (s : State) {p : Nat} (hp : p < 16) {k : Nat} (hk : k < 4096) :
    (s.clearPartCounters p).ctr (Ctr.ident 8 p k) = 0 := by
  refine mget_filter_of_dropped 0 fun e _ he => ?_
  have hgroup : ctrGroup e.1 = 8 := by rw [he, ctrGroup, Ctr.ident]; omega
  have hinst : ctrInst e.1 % 1024 = p := by rw [he, ctrInst, Ctr.ident]; omega
  simp only [hgroup, hinst, beq_self_eq_true, Bool.and_self, Bool.true_or, Bool.not_true]

section configured
variable (s : State) {p : Nat} (c : ConfigParams) (e : Nat) (paired : Bool)

theorem State.ctr_freshSettings (id : Nat) : (s.freshSettings p e).ctr id = s.ctr id := rfl

theorem State.ctr_emptyRqs (id : Nat) : (s.emptyRqs p).ctr id = s.ctr id := rfl

/-- R664: the counters of the partition start at 0. -/
theorem State.ctr_configure (hp : p < 16) {k : Nat} (hk : k = 37 ∨ k = 49) : (s.configure p c e paired).ctr (Ctr.ident 8 p k) = 0 := by
  obtain ⟨hbuf, hvec, hmerged, hleaf⟩ := Ctr.part_ne p hk
  rw [State.configure_keeps (State.ctr · (Ctr.ident 8 p k)) (fun _ _ => rfl) (fun _ => rfl) (fun _ _ _ => rfl) (fun s => s.ctr_bump_other hleaf)
    (fun _ _ _ => rfl) (fun s b o => s.ctr_enqueue_other b o hbuf hvec hmerged)]
  rw [State.configureBase, State.ctr_freshSettings, State.ctr_emptyRqs,
    State.clearShares_keeps (State.ctr · (Ctr.ident 8 p k)) fun s w x => congrArg (mget 0 · _) (State.setWing_counters ..)]
  exact State.ctr_clearPartCounters _ hp (by omega)

theorem State.rqs_configure (hasc : Ascending s.rqs) {k : Nat} (hk : k < 4) : (s.configure p c e paired).rq p k = { reads := (s.rq p k).reads } := by
  rw [State.configure_keeps (State.rq · p k) (fun _ _ => rfl) (fun _ => rfl) (fun _ _ _ => rfl) (fun _ => rfl) (fun _ _ _ => rfl)
    (fun s b o => by rw [State.rq, State.enqueue_rqs]; rfl)]
  have hrqs : ((((s.draw 16).2.setPart p (s.configuredPart p c e paired)).clearPartCounters p).clearShares c.fields).rqs = s.rqs :=
    (State.clearShares_keeps State.rqs (fun s w x => State.setWing_rqs ..) _ _).trans rfl
  rw [State.configureBase]
  generalize (((s.draw 16).2.setPart p (s.configuredPart p c e paired)).clearPartCounters p).clearShares c.fields = t at hrqs ⊢
  have hrq : t.rq p k = s.rq p k := by rw [State.rq, hrqs]; rfl
  exact (State.rq_emptyRqs (hrqs ▸ hasc) p hk).trans (by rw [hrq])

/-- R664: no entry of the partition's share is left. -/
theorem State.entry_configure {w slot : Nat} (hw : w < s.wings) (hown : c.fields.ownsBucket w (slot / 4) = true) :
    ((s.configure p c e paired).wing w).entry slot = {} := by
  rw [State.configure_keeps (State.wing · w) (fun _ _ => rfl) (fun _ => rfl) (fun _ _ _ => rfl) (fun _ => rfl) (fun _ _ _ => rfl)
    (fun s b o => State.wing_of_wings (State.enqueue_wing0 ..) (State.enqueue_wing1 ..) w)]
  rw [State.configureBase]
  have hcleared := State.wing_clearShares (((s.draw 16).2.setPart p (s.configuredPart p c e paired)).clearPartCounters p) c.fields (w := w) hw
  generalize (((s.draw 16).2.setPart p (s.configuredPart p c e paired)).clearPartCounters p).clearShares c.fields = t at hcleared ⊢
  change (t.wing w).entry slot = {}
  rw [hcleared]
  refine mget_filter_of_dropped ({} : FlowEntry) fun x _ hx => ?_
  dsimp only
  rw [hx, hown]
  rfl

/-- R664: the settings of the partition start at their defaults. -/
theorem State.partSetting_configure (hp : p < 16) {id elem : Nat} (hsc : settingScope id = some .partition) (hid : id ≠ 0x100A) (helem : elem < 4) :
    (s.configure p c e paired).partSetting id p elem = settingDefault id (p * 4096) elem := by
  have hlow : id < 65536 := by
    by_contra hbig
    rw [settingScope] at hsc
    simp only [show ¬ id ≤ 0x0009 by omega, show ¬ id ≤ 0x1012 by omega, and_false, if_false] at hsc
    repeat' split at hsc
    all_goals simp at hsc
  have hsettings : (s.configure p c e paired).settings = (s.configureBase p c e paired).settings :=
    State.configure_keeps State.settings (fun _ _ => rfl) (fun _ => rfl) (fun _ _ _ => rfl) (fun _ => rfl) (fun _ _ _ => rfl)
      (fun s b o => State.enqueue_settings ..) s p c e paired
  rw [State.partSetting, State.setting, hsettings, State.configureBase]
  generalize ((((s.draw 16).2.setPart p (s.configuredPart p c e paired)).clearPartCounters p).clearShares c.fields).emptyRqs p = t
  change mget _ (mput (t.settings.filter _) _ _) _ = _
  rw [mget_mput_other _ _ _ (by unfold settingKey; omega)]
  refine mget_filter_of_dropped _ fun x _ hx => ?_
  have hkey : x.1 / 16777216 = id := by rw [hx, settingKey]; omega
  have howner : x.1 / 256 % 65536 / 4096 = p := by rw [hx, settingKey]; omega
  dsimp only
  rw [hkey, howner, hsc]
  simp

end configured

/-- Table 17-10: all that a configuration sets. -/
theorem State.configured_configure (s : State) {p : Nat} (hp : p < 16) (c : ConfigParams) : Configured s (s.configure p c s.nt false) p c := by
  have hkeeps {α : Type} (f : Partition → α) (hf) := s.partOf_configure p c s.nt false f hf
  refine ⟨hkeeps Partition.state fun _ _ => rfl, hkeeps Partition.quarters0 fun _ _ => rfl, hkeeps Partition.quarters1 fun _ _ => rfl,
    hkeeps Partition.blockUnits fun _ _ => rfl, hkeeps Partition.shareLog2 fun _ _ => rfl, hkeeps Partition.ringQuota fun _ _ => rfl,
    hkeeps Partition.regionGib fun _ _ => rfl, hkeeps Partition.bindFn fun _ _ => rfl, hkeeps Partition.overflowQuota0 fun _ _ => rfl,
    hkeeps Partition.slot0 fun _ _ => rfl, hkeeps Partition.slot1 fun _ _ => rfl, hkeeps Partition.epochs fun _ _ => rfl,
    hkeeps Partition.keyCur fun _ _ => rfl, hkeeps Partition.keyPrev fun _ _ => rfl, hkeeps Partition.sealed fun _ _ => rfl,
    hkeeps Partition.nonce fun _ _ => rfl, hkeeps Partition.pak fun _ _ => rfl, hkeeps Partition.pwk fun _ _ => rfl, s.leaf_configure p c s.nt false,
    fun hasc k hk => s.rqs_configure c s.nt false hasc hk, s.ctr_configure c s.nt false hp (.inl rfl), s.ctr_configure c s.nt false hp (.inr rfl),
    fun w slot hw hown => ?_, fun id elem hsc hid helem => s.partSetting_configure c s.nt false hp hsc hid helem,
    fun r hr => s.partOf_configure_other p c s.nt false hr⟩
  rw [hkeeps (fun x => x.ownsBucket w (slot / 4)) fun _ _ => rfl] at hown
  exact s.entry_configure c s.nt false hw hown

/-- The instruction of PARTITION_CONFIGURE or CONTEXT_CONFIGURE. -/
abbrev configureInstr (ctx : Bool) (c : CmdIn) (p : ConfigParams) : Instr := if ctx then .contextConfigure c p else .partitionConfigure c p

section configure
variable {ctx : Bool} {c : CmdIn} {p : ConfigParams} {s : State} {cmd : Cmd} (h : Ready (if ctx then 0x0202 else 0x0201) (configureInstr ctx c p) c s cmd)
  (halone : Alone s) (hbad : ∀ b ∈ p.bad s.is4840, b.1 = false)
include h halone hbad

theorem exec_configure {st : Status} {t : State} (hbody : mirrored c (.configure cmd.hdr.partition p) cmd s = (some st, t)) (hreply : st.reply = []) :
    Gives (configureInstr ctx c p) s (t.complete c.ring st) := by
  cases ctx with
  | false => exact congrArg Host.Outcome.next ((ite_voting_of_alone halone _).trans (runCmd_completes h hbad hbody (replied_empty _ _ _ _ hreply)))
  | true => exact congrArg Host.Outcome.next ((ite_voting_of_alone halone _).trans (runCmd_completes h hbad hbody (replied_empty _ _ _ _ hreply)))

theorem exec_configure_fault {st : Nat} (hfault : s.configureFault cmd.hdr.partition p = some (fail st)) : Fails (configureInstr ctx c p) c s st :=
  ⟨0, exec_configure h halone hbad (mirrored_of_fault halone hfault) rfl⟩

theorem exec_configure_done (hfault : s.configureFault cmd.hdr.partition p = none) :
    Succeeds (configureInstr ctx c p) c s (s.configure cmd.hdr.partition p s.nt false) :=
  exec_configure h halone hbad (mirrored_of_alone halone hfault rfl) rfl

end configure

theorem State.configureFault_taken {s : State} {q : Nat} {p : ConfigParams} (h : (s.partOf q).state ≠ .unconfigured) :
    s.configureFault q p = some (fail 7) := if_pos h

theorem State.configureFault_quarters {s : State} {q : Nat} {p : ConfigParams} (h : (s.partOf q).state = .unconfigured)
    (hn : p.fields.quarterCount 0 = 0 ∨ s.is4840 = false ∧ p.fields.quarterCount 0 ≠ p.fields.quarterCount 1) : s.configureFault q p = some (fail 7) := by
  refine (if_neg (not_not_intro h)).trans (if_pos (hn.imp_right fun hw => ⟨?_, hw.2⟩))
  rw [hw.1]
  rfl

/-! ### PARTITION_QUERY (Table 17-12) -/

theorem State.partitionReply_eq (s : State) (p : Nat) : s.partitionReply p = packed
    [(2, match (s.partOf p).state with | .unconfigured => 0 | .active => 1 | .scrubbing => 2), (2, (s.partOf p).quarters0), (2, (s.partOf p).quarters1),
      (2, s.fnOf p), (8, match (s.partOf p).running with | some e => e.number + 65536 | none => 0)] := by
  simp only [State.partitionReply, packed, List.flatMap_cons, List.flatMap_nil, List.append_assoc, List.append_nil] <;> rfl

theorem partitionQuery_spec {c : CmdIn} {s : State} {cmd : Cmd} (h : Ready 0x0204 (.partitionQuery c) c s cmd) (hroom : Room c 16) :
    ∃ r, Replies (.partitionQuery c) c s s r ∧ r.length = 16 ∧
      leAt r 0 2 = (match (s.partOf cmd.hdr.partition).state with | .unconfigured => 0 | .active => 1 | .scrubbing => 2) ∧
      leAt r 2 2 = (s.partOf cmd.hdr.partition).quarters0 % 65536 ∧ leAt r 4 2 = (s.partOf cmd.hdr.partition).quarters1 % 65536 ∧
      leAt r 6 2 = s.fnOf cmd.hdr.partition % 65536 := by
  have heq := s.partitionReply_eq cmd.hdr.partition
  have hlen : (s.partitionReply cmd.hdr.partition).length = 16 := by rw [heq, length_packed]; rfl
  refine ⟨s.partitionReply cmd.hdr.partition, congrArg Host.Outcome.next (runRead_completes h (List.forall_mem_nil _) rfl (.inr ?_)), hlen, ?_, ?_, ?_, ?_⟩
  · exact hlen.symm ▸ hroom
  · rw [heq]
    refine (leAt_packed (k := 0) rfl).trans ?_
    cases (s.partOf cmd.hdr.partition).state <;> rfl
  · rw [heq]
    exact leAt_packed (k := 1) rfl
  · rw [heq]
    exact leAt_packed (k := 2) rfl
  · rw [heq]
    exact leAt_packed (k := 3) rfl

end Sys2Proof.Machine
end

section
/-!
PROOFS. The begin of a scrub (R723): what it leaves, and PARTITION_RELEASE outside a pair.
-/
open Sys2Proof Sys2Proof.Machine Sys2Proof.Claims
namespace Sys2Proof.Machine

/-! ### What the operations of a close keep -/

section keeps
variable {α : Type} (g : State → α) (hwing : ∀ s w x, g (State.setWing s w x) = g s) (hcomplete : ∀ s r st, g (State.complete s r st) = g s)
  (hrq : ∀ s p q x, g (State.setRq s p q x) = g s) (hfunc : ∀ s f x, g (State.setFunc s f x) = g s) (hvec : ∀ s f v, g (State.sendVector s f v) = g s)
  (hring : ∀ s r f, g (State.modRing s r f) = g s) (hassoc : ∀ s n f, g (State.modAssoc s n f) = g s) (hsticky : ∀ s n, g (State.setSticky s n) = g s)
  (hbump : ∀ s id, g (State.bump s id) = g s) (htile : ∀ s i f, g (State.modTile s i f) = g s) (hpart : ∀ s p x, g (State.setPart s p x) = g s)
  (hsec : ∀ (s : State) x, g { s with sec := x } = g s) (hfree : ∀ s, g (State.nextFree s) = g s)

include hwing in
theorem State.releaseLock_keeps (s : State) (w b : Nat) : g (s.releaseLock w b) = g s :=
  (State.applyHits_keeps _ _ _ g (fun _ _ => hwing ..) fun _ => hwing ..).trans (hwing ..)

include hwing in
theorem State.stopLocks_keeps (s : State) (p w : Nat) : g (s.stopLocks p w) = g s :=
  foldl_keeps g _ (fun s _ => State.releaseLock_keeps g hwing s w _) _ s

include hcomplete hrq in
theorem State.stopReads_keeps (s : State) (p q : Nat) : g (s.stopReads p q) = g s := by
  unfold State.stopReads
  dsimp only
  generalize (if (s.rq p q).recs.any (fun r => r.selected) then (s.rq p q).reads.take 1 else []) = keep
  split
  · rfl
  · exact (foldl_keeps g _ (fun _ _ => hcomplete ..) _ _).trans (hrq ..)

include hfunc hvec hassoc in
theorem State.closeSession_keeps (s : State) (fn : Nat) : g (s.closeSession fn) = g s := by
  unfold State.closeSession
  split
  · split
    · rw [hvec, hfunc]
    · rfl
  · exact hassoc ..

include hvec hring hsticky hbump in
theorem State.ringError_keeps (s : State) (r : Nat) (x : Ring) : g (s.ringError r x) = g s := by
  rw [State.ringError, hvec, hbump, hsticky, hring]

include hfunc hvec hring hassoc hsticky hbump in
theorem State.tdispFail_keeps (s : State) (fn : Nat) : g (s.tdispFail fn) = g s := by
  unfold State.tdispFail
  dsimp only
  split
  · rw [hbump, hsticky, foldl_keeps g _ fun s e => State.ringError_keeps g hvec hring hsticky hbump s _ _, State.closeSession_keeps g hfunc hvec hassoc, hfunc]
  · rfl

include hpart hsec hfree hbump in
theorem State.issueLeaf_leaves (s : State) (p : Nat) : g (s.issueLeaf p) = g s :=
  State.issueLeaf_frame g hsec hfree hpart (fun _ => hbump ..) s p

include hpart hsec hfree hbump htile in
theorem State.disarm_keeps (s : State) (p : Nat) : g (s.disarm p) = g s := by
  unfold State.disarm
  split
  · rfl
  · dsimp only
    rw [State.issueLeaf_leaves g hbump hpart hsec hfree, hbump]
    split
    · rw [State.tagControls_keeps g htile]
      exact hpart ..
    · exact hpart ..

include hpart hsec hfree hbump hcomplete in
theorem State.stopLoad_keeps (s : State) (p n : Nat) : g (s.stopLoad p n) = g s := by
  have hfinish (s : State) (r : Option Nat) (st : Status) : g (s.finishLoad r st) = g s := by
    cases r with
    | none => rfl
    | some r => exact hcomplete ..
  unfold State.stopLoad
  dsimp only
  split
  · rw [hfinish, State.issueLeaf_leaves g hbump hpart hsec hfree]
    exact hpart ..
  · rfl

include hwing hcomplete hrq hfunc hvec hring hassoc hsticky hbump htile hpart hsec hfree in
/-- R723: what none of its operations touches, the begin of a scrub keeps. -/
theorem State.beginScrub_keeps (s : State) (p at_ : Nat) (ring : Option Nat) (zeroise : Bool) : g (s.beginScrub p at_ ring zeroise) = g s := by
  unfold State.beginScrub
  dsimp only
  rw [State.tdispFail_keeps g hfunc hvec hring hassoc hsticky hbump, foldl_keeps g _ fun s w => State.stopLocks_keeps g hwing s p w,
    foldl_keeps g _ fun s q => State.stopReads_keeps g hcomplete hrq s p q, State.modPart, hpart,
    foldl_keeps g _ fun s n => State.stopLoad_keeps g hcomplete hbump hpart hsec hfree s p n, State.disarm_keeps g hbump htile hpart hsec hfree]

end keeps

/-! ### The partition of a scrub that begins -/

theorem Partition.slotIn_none_iff {x : Partition} {st : SlotState} : x.slotIn st = none ↔ x.slot0.state ≠ st ∧ x.slot1.state ≠ st := by
  unfold Partition.slotIn
  by_cases h0 : x.slot0.state = st
  · simp [h0]
  · by_cases h1 : x.slot1.state = st
    · simp [h0, h1]
    · simp [h0, h1]

theorem State.partOf_finishLoad (s : State) (r : Option Nat) (st : Status) (p : Nat) : (s.finishLoad r st).partOf p = s.partOf p := by
  cases r with
  | none => rfl
  | some r => exact State.partOf_of_parts (State.complete_parts ..) p

/-- R703: a load that is stopped leaves its slot EMPTY, and the other slot as it is. -/
theorem State.slot_stopLoad (s : State) (p n m : Nat) : ((s.stopLoad p n).partOf p).slot m =
    if (m = 0 ↔ n = 0) ∧ ((s.partOf p).slot n).state = .loading then {} else (s.partOf p).slot m := by
  unfold State.stopLoad
  dsimp only
  split
  · next h =>
    rw [State.partOf_finishLoad, State.slot_issueLeaf, State.endLoad, State.partOf_modPart]
    refine (Partition.slot_setSlot ..).trans ?_
    simp only [h, and_true]
  · next h => rw [if_neg fun hm => h hm.2]

theorem State.slots_disarm {s : State} {p : Nat} (h : (s.partOf p).slot0.state ≠ .armed ∨ (s.partOf p).slot1.state ≠ .armed) :
    ((s.disarm p).partOf p).slotIn .armed = none := by
  cases harmed : (s.partOf p).slotIn .armed with
  | none =>
    have hkeep : s.disarm p = s := by rw [State.disarm, harmed]
    rw [hkeep, harmed]
  | some n =>
    have hslot := State.slot_disarm harmed
    have h0 := hslot 0
    have h1 := hslot 1
    rw [Partition.slotIn_none_iff]
    change (((s.disarm p).partOf p).slot 0).state ≠ _ ∧ (((s.disarm p).partOf p).slot 1).state ≠ _
    rw [h0, h1, Partition.slot_setSlot, Partition.slot_setSlot]
    obtain ⟨hn, hstate⟩ := Partition.slotIn_some harmed
    rcases (by omega : n = 0 ∨ n = 1) with rfl | rfl
    · exact ⟨nofun, h.resolve_left (not_not_intro hstate)⟩
    · exact ⟨h.resolve_right (not_not_intro hstate), nofun⟩

/-- R703: no load is left once both slots' loads have been stopped, and no slot becomes ARMED. -/
theorem State.slots_stopLoads {s : State} {p : Nat} (h : (s.partOf p).slotIn .armed = none) :
    (([0, 1].foldl (fun s n => State.stopLoad s p n) s).partOf p).slotIn .armed = none ∧
    (([0, 1].foldl (fun s n => State.stopLoad s p n) s).partOf p).slotIn .loading = none := by
  obtain ⟨h0, h1⟩ := Partition.slotIn_none_iff.mp h
  change ((s.partOf p).slot 0).state ≠ _ at h0
  change ((s.partOf p).slot 1).state ≠ _ at h1
  have hslot0 := s.slot_stopLoad p 0
  have hslot1 := (s.stopLoad p 0).slot_stopLoad p 1
  rw [Partition.slotIn_none_iff, Partition.slotIn_none_iff]
  have hfinal0 : (((s.stopLoad p 0).stopLoad p 1).partOf p).slot 0 = if ((s.partOf p).slot 0).state = .loading then {} else (s.partOf p).slot 0 := by
    rw [hslot1 0, if_neg fun hm => absurd (hm.1.mp rfl) (by decide), hslot0 0]
    simp only [true_and]
  have hfinal1 : (((s.stopLoad p 0).stopLoad p 1).partOf p).slot 1 = if ((s.partOf p).slot 1).state = .loading then {} else (s.partOf p).slot 1 := by
    have hkept := hslot0 1
    rw [if_neg fun hm => absurd (hm.1.mpr rfl) (by decide)] at hkept
    rw [hslot1 1, hkept]
    simp only [true_and]
  have hstopped {y : ImageSlot} (hy : y.state ≠ .armed) : (if y.state = .loading then ({} : ImageSlot) else y).state ≠ .armed ∧
      (if y.state = .loading then ({} : ImageSlot) else y).state ≠ .loading := by
    split
    · exact ⟨nofun, nofun⟩
    · next hl => exact ⟨hy, hl⟩
  change (((((s.stopLoad p 0).stopLoad p 1).partOf p).slot 0).state ≠ _ ∧ ((((s.stopLoad p 0).stopLoad p 1).partOf p).slot 1).state ≠ _) ∧
    ((((s.stopLoad p 0).stopLoad p 1).partOf p).slot 0).state ≠ _ ∧ ((((s.stopLoad p 0).stopLoad p 1).partOf p).slot 1).state ≠ _
  rw [hfinal0, hfinal1]
  exact ⟨⟨(hstopped h0).1, (hstopped h1).1⟩, (hstopped h0).2, (hstopped h1).2⟩

/-- R723: the partition of a scrub that begins. -/
theorem State.beginScrub_part (s : State) (p at_ : Nat) (ring : Option Nat) (zeroise : Bool)
    (h : (s.partOf p).slot0.state ≠ .armed ∨ (s.partOf p).slot1.state ≠ .armed) :
    ((s.beginScrub p at_ ring zeroise).partOf p).state = .scrubbing ∧
    ((s.beginScrub p at_ ring zeroise).partOf p).scrub = some { zeroise := zeroise, phase := .drain, start := at_, ring := ring } ∧
    ((s.beginScrub p at_ ring zeroise).partOf p).slotIn .armed = none ∧ ((s.beginScrub p at_ ring zeroise).partOf p).slotIn .loading = none := by
  obtain ⟨harmed, hloading⟩ := State.slots_stopLoads (State.slots_disarm h)
  unfold State.beginScrub
  dsimp only
  generalize [0, 1].foldl (fun s n => State.stopLoad s p n) (s.disarm p) = t at harmed hloading ⊢
  rw [State.partOf, State.tdispFail_keeps State.parts (fun _ _ _ => rfl) (fun _ _ _ => State.sendVector_parts ..) (fun _ _ _ => State.modRing_parts ..)
      (fun _ _ _ => State.modAssoc_parts ..) (fun _ _ => State.setSticky_parts ..) (fun _ _ => rfl),
    foldl_keeps State.parts _ fun s w => State.stopLocks_keeps State.parts (fun _ _ _ => State.setWing_parts ..) s p w,
    foldl_keeps State.parts _ fun s q => State.stopReads_keeps State.parts (fun _ _ _ => State.complete_parts ..) (fun _ _ _ _ => rfl) s p q,
    State.modPart, State.setPart, mget_mput_same]
  exact ⟨rfl, rfl, harmed, hloading⟩

/-! ### PARTITION_RELEASE outside a pair -/

section release
variable {c : CmdIn} {s : State} {cmd : Cmd} (h : Ready 0x0203 (.partitionRelease c) c s cmd) (halone : Alone s)
include h halone

theorem exec_partitionRelease_fault {st : Nat} (hfault : (MirrorCmd.release cmd.hdr.partition).fault s cmd.fn (some cmd.fetchNt) = some (fail st)) :
    Fails (.partitionRelease c) c s st :=
  ⟨0, congrArg Host.Outcome.next ((ite_voting_of_alone halone _).trans
    (runCmd_completes h (List.forall_mem_nil _) (mirrored_of_fault halone hfault) (replied_empty _ _ _ _ rfl)))⟩

/-- R723: the release of an ACTIVE partition begins its scrub and runs on. -/
theorem exec_partitionRelease (hactive : (s.partOf cmd.hdr.partition).state = .active) : Gives (.partitionRelease c) s
    (((s.beginScrub cmd.hdr.partition s.nt (some c.ring) false).noteStep c.ring cmd).setCmd c.ring (some { cmd with started := true })) := by
  have hfault : (MirrorCmd.release cmd.hdr.partition).fault s cmd.fn (some cmd.fetchNt) = none := by
    rw [MirrorCmd.fault, hactive]
  have hbody : mirrored c (.release cmd.hdr.partition) cmd s = (none, s.beginScrub cmd.hdr.partition s.nt (some c.ring) false) := by
    rw [mirrored, if_neg (by rw [halone.1]; decide), hfault]
    dsimp only
    rw [if_neg (by rw [State.noRoom, halone.2, Bool.false_and]; decide), if_neg (by rw [halone.2]; decide)]
    rfl
  exact congrArg Host.Outcome.next ((ite_voting_of_alone halone _).trans (runCmd_runs h (List.forall_mem_nil _) hbody))

theorem partitionRelease_spec (hactive : (s.partOf cmd.hdr.partition).state = .active)
    (hone : (s.partOf cmd.hdr.partition).slot0.state ≠ .armed ∨ (s.partOf cmd.hdr.partition).slot1.state ≠ .armed) :
    ∃ u : State, Gives (.partitionRelease c) s (u.setCmd c.ring (some { cmd with started := true })) ∧
      (u.partOf cmd.hdr.partition).state = .scrubbing ∧
      (u.partOf cmd.hdr.partition).scrub = some { zeroise := false, phase := .drain, start := s.nt, ring := some c.ring } ∧
      (u.partOf cmd.hdr.partition).slotIn .armed = none ∧ (u.partOf cmd.hdr.partition).slotIn .loading = none ∧ u.hall = s.hall ∧ u.time = s.time := by
  have hpart := s.beginScrub_part cmd.hdr.partition s.nt (some c.ring) false hone
  have hhall := State.beginScrub_keeps State.hall (fun _ _ _ => State.setWing_hall ..) (fun _ _ _ => State.complete_hall ..) (fun _ _ _ _ => rfl) (fun _ _ _ => rfl)
    (fun _ _ _ => State.sendVector_hall ..) (fun _ _ _ => State.modRing_hall ..) (fun _ _ _ => State.modAssoc_hall ..) (fun _ _ => State.setSticky_hall ..)
    (fun _ _ => rfl) (fun _ _ _ => rfl) (fun _ _ _ => rfl) (fun _ _ => rfl) (fun _ => rfl) s cmd.hdr.partition s.nt (some c.ring) false
  have htime := State.beginScrub_keeps State.time (fun _ _ _ => State.setWing_time ..) (fun _ _ _ => State.complete_time ..) (fun _ _ _ _ => rfl) (fun _ _ _ => rfl)
    (fun _ _ _ => State.sendVector_time ..) (fun _ _ _ => State.modRing_time ..) (fun _ _ _ => State.modAssoc_time ..) (fun _ _ => State.setSticky_time ..)
    (fun _ _ => rfl) (fun _ _ _ => rfl) (fun _ _ _ => rfl) (fun _ _ => rfl) (fun _ => rfl) s cmd.hdr.partition s.nt (some c.ring) false
  have hstep := exec_partitionRelease h halone hactive
  generalize s.beginScrub cmd.hdr.partition s.nt (some c.ring) false = t at hpart hhall htime hstep
  obtain ⟨hstate, hscrub, harmed, hloading⟩ := hpart
  exact ⟨t.noteStep c.ring cmd, hstep, hstate, hscrub, harmed, hloading, hhall, htime⟩

end release

/-- Settles O39, by what a configuration sets, what the begin of a scrub leaves, and what a setting's value touches. -/
theorem partitionsAndSettings : Obligations.PartitionsAndSettings := by
  refine ⟨fun c p s cmd ctx h halone hq hbad => ⟨fun htaken => ?_, fun hfree hn => ?_, fun hfree hpart hn => ?_, fun hfault => ?_⟩,
    fun c s cmd h halone => ⟨fun hnone => ?_, fun hscrub => ?_, fun hactive hone => partitionRelease_spec h halone hactive hone⟩,
    fun c s cmd h hroom => partitionQuery_spec h hroom,
    fun c id inst elem v s cmd h halone => ⟨fun htime hname _ _ => exec_settingWrite_time h halone htime hname,
      fun sc hfits => ⟨fun hof hnone => exec_settingWrite_absent h halone hfits hof hnone, fun hstate =>
        ⟨fun st hfault => exec_settingWrite_fault h halone hfits hstate hfault, fun hfault => settingWrite_spec h halone hfits hstate hfault⟩⟩⟩,
    fun c id inst elem sc s cmd h hroom hsc hinst helem hname => ⟨fun hof hnone => exec_settingRead_absent h hname hsc hof hnone,
      fun hstate htime => exec_settingRead h hname hroom hsc hinst helem hstate htime⟩⟩
  · exact exec_configure_fault h halone hbad (State.configureFault_taken htaken)
  · exact exec_configure_fault h halone hbad (State.configureFault_quarters hfree (.inl hn))
  · exact exec_configure_fault h halone hbad (State.configureFault_quarters hfree (.inr ⟨hpart, hn⟩))
  · exact ⟨_, exec_configure_done h halone hbad hfault, s.configured_configure hq p⟩
  · exact exec_partitionRelease_fault h halone (by rw [MirrorCmd.fault, hnone]; rfl)
  · exact exec_partitionRelease_fault h halone (by rw [MirrorCmd.fault, hscrub]; rfl)

end Sys2Proof.Machine
end

section
/-!
PROOFS. The boot stages but the self-test (R827 to R830, R840, R848, R849), and the apply of an update (R846).
-/
open Sys2Proof Sys2Proof.Machine Sys2Proof.Claims
namespace Sys2Proof.Machine

/-! ### HEARTH_STAGE: the Mantel and the count of the boot (R803) -/

section mantel
variable (s : State)

/-- The Mantel as the Hearth has read it, the boot counted, and a trip recorded. -/
def State.hearthRead : State := (s.readMantel.countBoot).recordTrip

theorem State.readMantel_keeps {α : Type} (g : State → α) (hhealth : ∀ (s : State) h, g { s with health := h } = g s) (hsticky : ∀ s, g (State.setSticky s 137) = g s) :
    g s.readMantel = g s := by
  unfold State.readMantel
  dsimp only
  split
  · rw [hsticky, hhealth]
  · exact hhealth ..

theorem State.countBoot_keeps {α : Type} (g : State → α) (hledger : ∀ s d, d = 0 ∨ d = 10 → ∀ e x, g (State.setLedger s e d x) = g s) : g s.countBoot = g s :=
  foldl_keeps g _ (fun _ _ => hledger _ _ (.inl rfl) _ _) _ s

theorem State.recordTrip_keeps {α : Type} (g : State → α) (hledger : ∀ s d, d = 0 ∨ d = 10 → ∀ e x, g (State.setLedger s e d x) = g s)
    (hpower : ∀ (s : State) p, g { s with power := p } = g s) : g s.recordTrip = g s := by
  unfold State.recordTrip
  split
  · refine (hpower ..).trans (foldl_keeps g _ (fun s d => ?_) _ s)
    rw [State.action]
    exact (hledger _ _ (.inl rfl) _ _).trans (hledger _ _ (.inr rfl) _ _)
  · rfl

theorem State.hearthRead_keeps {α : Type} (g : State → α) (hhealth : ∀ (s : State) h, g { s with health := h } = g s)
    (hsticky : ∀ s, g (State.setSticky s 137) = g s) (hpower : ∀ (s : State) p, g { s with power := p } = g s) : g s.hearthRead = g s := by
  have hledger (s : State) (d : Nat) (_ : d = 0 ∨ d = 10) (e : Nat) (x) : g (State.setLedger s e d x) = g s := hhealth ..
  rw [State.hearthRead, State.recordTrip_keeps _ g hledger hpower, State.countBoot_keeps _ g hledger, State.readMantel_keeps s g hhealth hsticky]

/-- R803: a section as the Hearth has read it. -/
theorem State.ledger_readMantel (d k : Nat) : s.readMantel.ledger d k = (s.section_ d k).booted.data := by
  have hmap : s.readMantel.health.mantel = s.health.mantel.map (fun (e : Nat × MantelSec) => (e.1, e.2.booted)) := by
    unfold State.readMantel
    dsimp only
    split
    · rw [State.setSticky_health]
    · rfl
  rw [State.ledger, State.section_, hmap, State.section_, mget_eq_mfind, mget_eq_mfind, mfind_mapValues]
  cases mfind s.health.mantel (16 * d + k) <;> rfl

theorem State.ledger_hearthRead (d : Nat) {k : Nat} (hk : k = 7 ∨ k = 8) : s.hearthRead.ledger d k = (s.section_ d k).booted.data := by
  have hledger (s : State) (j : Nat) (hj : j = 0 ∨ j = 10) (e : Nat) (x) : (State.setLedger s e j x).ledger d k = s.ledger d k :=
    State.ledger_setLedger_other s x (by omega)
  rw [State.hearthRead, State.recordTrip_keeps _ (State.ledger · d k) hledger fun _ _ => rfl, State.countBoot_keeps _ (State.ledger · d k) hledger]
  exact s.ledger_readMantel d k

/-- R803: a Wing whose REPAIR has no valid copy sets its sticky bit. -/
theorem State.stickyBit_readMantel {w : Nat} (hw : w < s.wings) (hA : (s.section_ (1 + w) 8).copyA = none) (hB : (s.section_ (1 + w) 8).copyB = none) :
    s.readMantel.stickyBit 137 = true := by
  have hcopies (x : MantelSec) : x.booted.copyA = x.copyA ∧ x.booted.copyB = x.copyB := by
    obtain ⟨data, _ | a, _ | b, fails⟩ := x <;> exact ⟨rfl, rfl⟩
  have hread : let t : State := { s with health := { s.health with mantel := s.health.mantel.map (fun (e : Nat × MantelSec) => (e.1, e.2.booted)) } }
      (t.section_ (1 + w) 8).copyA = none ∧ (t.section_ (1 + w) 8).copyB = none := by
    intro t
    rw [State.section_, mget_eq_mfind] at hA hB
    rw [State.section_, mget_eq_mfind, mfind_mapValues]
    cases hx : mfind s.health.mantel (16 * (1 + w) + 8) with
    | none => exact ⟨rfl, rfl⟩
    | some x =>
      rw [hx, Option.getD_some] at hA hB
      rw [Option.map_some, Option.getD_some, (hcopies x).1, (hcopies x).2]
      exact ⟨hA, hB⟩
  unfold State.readMantel
  dsimp only
  rw [if_pos]
  · exact State.stickyBit_setSticky_self _ (by decide)
  · refine List.any_eq_true.mpr ⟨w, List.mem_range.mpr hw, ?_⟩
    change (Option.isNone (State.section_ _ (1 + w) 8).copyA && Option.isNone (State.section_ _ (1 + w) 8).copyB) = true
    rw [hread.1, hread.2]
    rfl

theorem State.stickyBit_hearthRead {w : Nat} (hw : w < s.wings) (hA : (s.section_ (1 + w) 8).copyA = none) (hB : (s.section_ (1 + w) 8).copyB = none) :
    s.hearthRead.stickyBit 137 = true := by
  have hledger (s : State) (d : Nat) (_ : d = 0 ∨ d = 10) (e : Nat) (x) : (State.setLedger s e d x).stickyBit 137 = s.stickyBit 137 := rfl
  rw [State.hearthRead, State.recordTrip_keeps _ (State.stickyBit · 137) hledger fun _ _ => rfl, State.countBoot_keeps _ (State.stickyBit · 137) hledger]
  exact s.stickyBit_readMantel hw hA hB

end mantel

/-! ### HEARTH_STAGE: the records, the measurements and the start (R696, R830, R835, R849) -/

section hearth
variable (s : State)

/-- R835: a record is written where no copy is valid. -/
def State.recorded : State :=
  match s.boot.record? with
  | some _ => s
  | none => s.writeRecord (fun r => { r with
      activeB := s.boot.bankB, digestA := (s.boot.bankA.map (·.digest)).getD 0, digestB := (s.boot.bankBRec.map (·.digest)).getD 0 })

/-- R849: the floor is raised. -/
def State.floorRaised : State :=
  match s.boot.bank s.boot.record.activeB with
  | none => s
  | some x =>
    if !s.boot.record.trial && x.raiseFloor && decide (s.boot.floor < x.securityVersion) then
      { s with boot := { s.boot with floor := x.securityVersion } }
    else s

theorem State.hearthRecords_eq : s.hearthRecords = s.recorded.floorRaised := rfl

/-- The records of the Hearth touch the boot's flash only. -/
theorem State.hearthRecords_keeps {α : Type} (g : State → α) (hboot : ∀ (s : State) b, g { s with boot := b } = g s) : g s.hearthRecords = g s := by
  have hfloor (s : State) : g s.floorRaised = g s := by
    unfold State.floorRaised
    split
    · rfl
    · split
      · exact hboot ..
      · rfl
  rw [State.hearthRecords_eq, hfloor, State.recorded]
  split
  · rfl
  · exact hboot ..

/-- R849: a boot that is no trial raises the floor to its bank's version, where the bank says so. -/
theorem State.floor_hearthRecords {r : BootRec} {x : Bank} (hr : s.boot.record? = some r) (htrial : r.trial = false) (hx : s.boot.bank r.activeB = some x) :
    s.hearthRecords.boot.floor = if x.raiseFloor then max s.boot.floor x.securityVersion else s.boot.floor := by
  have hrec : s.boot.record = r := by rw [Boot.record, hr, Option.getD_some]
  have hrecorded : s.recorded = s := by rw [State.recorded, hr]
  rw [State.hearthRecords_eq, hrecorded, State.floorRaised, hrec, hx]
  dsimp only
  rw [htrial]
  cases hraise : x.raiseFloor with
  | false => rfl
  | true =>
    by_cases hlt : s.boot.floor < x.securityVersion
    · simp [hlt, Nat.max_eq_right hlt.le]
    · simp [hlt, Nat.max_eq_left (Nat.not_lt.mp hlt)]

theorem toList_drop_set (v : Vector (BitVec 384) 6) (a b c d e : BitVec 384) :
    (((((v.set 1 a).set 2 b).set 3 c).set 4 d).set 5 e).toList.drop 1 = [a, b, c, d, e] := by
  refine List.ext_getElem (by simp) fun i hi hi' => ?_
  have hlt : i < 5 := hi'
  interval_cases i <;> simp

/-- R696, R697, R700: what the measurements make of the vault. -/
theorem State.measureHearth_sec (ms : List (BitVec 384)) :
    (s.measureHearth ms).sec.regsLocked = true ∧ (s.measureHearth ms).sec.regs[0] = s.sec.regs[0] ∧
    (s.measureHearth ms).sec.regs[1] = extend 0 ((ms[0]?).getD 0) ∧ (s.measureHearth ms).sec.regs[5] = extend 0 ((ms[4]?).getD 0) ∧
    (s.measureHearth ms).sec.fwCdi = some (firmwareCdi ((s.measureHearth ms).sec.regs.toList.drop 1) (s.sec.hearthCdi.getD [])) ∧
    (s.measureHearth ms).sec.linkKey = some (linkIdentityKey (firmwareCdi ((s.measureHearth ms).sec.regs.toList.drop 1) (s.sec.hearthCdi.getD []))) := by
  have hdrop := toList_drop_set s.sec.regs (extend 0 ((ms[0]?).getD 0)) (extend 0 ((ms[1]?).getD 0)) (extend 0 ((ms[2]?).getD 0)) (extend 0 ((ms[3]?).getD 0))
    (extend 0 ((ms[4]?).getD 0))
  have hregs : (s.measureHearth ms).sec.regs.toList.drop 1 =
      [extend 0 ((ms[0]?).getD 0), extend 0 ((ms[1]?).getD 0), extend 0 ((ms[2]?).getD 0), extend 0 ((ms[3]?).getD 0), extend 0 ((ms[4]?).getD 0)] := hdrop
  rw [hregs]
  refine ⟨rfl, ?_, ?_, ?_, rfl, rfl⟩ <;>
  · change (((((s.sec.regs.set 1 _).set 2 _).set 3 _).set 4 _).set 5 _)[_] = _
    simp

end hearth

theorem State.boot_dropLane (s : State) (n : Nat) : (s.dropLane n).boot = s.boot := State.bumpN_boot ..

/-- R830: what a failure makes of the boot. -/
theorem State.boot_failDevice (s : State) : s.failDevice.boot = { s.boot with devState := 5, stage := .failed } := by
  have hlanes := foldl_keeps State.boot (fun (s : State) (l : Nat × Lane) => s.dropLane l.1) (fun s l => s.boot_dropLane l.1)
    (s.hall.lanes.filter (fun l => l.2.up)) s
  unfold State.failDevice
  dsimp only
  rw [hlanes]

/-- The Hearth has run: the converters that acknowledge, stage one, and the DRAM stage next. -/
def State.hearthStarted (u : State) (cs : List (Nat × Converter)) : State :=
  { u with
    power := { u.power with converters := cs.foldl (fun (t : Tab Converter) x => mput t x.1 x.2) [] }
    boot := { u.boot with stageOne := true, devState := 1, stage := .dram } }

/-- The state behind the Hearth's reads, records and measurements. -/
def State.hearthBooted (s : State) (ms : List (BitVec 384)) (cs : List (Nat × Converter)) : State :=
  (s.hearthRead.hearthRecords.measureHearth ms).hearthStarted cs

/-- The end of the Hearth's stage, from the state that its measurements leave. -/
def State.hearthEnd (u : State) (ok : Bool) (cs : List (Nat × Converter)) : State := if ok then u.hearthStarted cs else (u.hearthStarted cs).failDevice

theorem execHearthStage_eq (ok : Bool) (ms : List (BitVec 384)) (cs : List (Nat × Converter)) (s : State) :
    execHearthStage ok ms cs s = .next (if s.boot.stage ≠ .hearth ∨ s.dead then s else (s.hearthRead.hearthRecords.measureHearth ms).hearthEnd ok cs) := by
  rfl

theorem exec_hearthStage {s : State} (hstage : s.boot.stage = .hearth) (hdead : s.dead = false) (ok : Bool) (ms : List (BitVec 384)) (cs : List (Nat × Converter)) :
    Gives (.hearthStage ok ms cs) s (if ok then s.hearthBooted ms cs else (s.hearthBooted ms cs).failDevice) :=
  (execHearthStage_eq ok ms cs s).trans (congrArg Host.Outcome.next (if_neg (by rw [hstage, hdead]; decide)))

theorem State.measureHearth_keeps {α : Type} (g : State → α) (hsec : ∀ (s : State) x, g { s with sec := x } = g s) (hfree : ∀ s, g (State.nextFree s) = g s)
    (s : State) (ms : List (BitVec 384)) : g (s.measureHearth ms) = g s := (hsec ..).trans ((hfree _).trans (hsec ..))

/-- What the Hearth's stage leaves, whether or not every part can be started. -/
structure HearthLeft (s : State) (ms : List (BitVec 384)) (t : State) : Prop where
  one : t.boot.stageOne = true
  sec : t.sec = (s.hearthRead.hearthRecords.measureHearth ms).sec
  floor : t.boot.floor = s.hearthRead.hearthRecords.boot.floor
  sticky : t.stickyBit 137 = s.hearthRead.stickyBit 137
  ledger : ∀ d k, t.ledger d k = s.hearthRead.ledger d k

theorem hearthLeft_booted (s : State) (ms : List (BitVec 384)) (cs : List (Nat × Converter)) : HearthLeft s ms (s.hearthBooted ms cs) := by
  have hmeasured (g : State → Bool) (hsec) (hfree) (hboot) : g (s.hearthRead.hearthRecords.measureHearth ms) = g s.hearthRead :=
    (State.measureHearth_keeps g hsec hfree _ ms).trans (State.hearthRecords_keeps _ g hboot)
  have hsticky := hmeasured (State.stickyBit · 137) (fun _ _ => rfl) (fun _ => rfl) fun _ _ => rfl
  have hfloor := congrArg Boot.floor (State.measureHearth_keeps State.boot (fun _ _ => rfl) (fun _ => rfl) s.hearthRead.hearthRecords ms)
  have hledger (d k : Nat) := (State.measureHearth_keeps (State.ledger · d k) (fun _ _ => rfl) (fun _ => rfl) s.hearthRead.hearthRecords ms).trans
    (State.hearthRecords_keeps s.hearthRead (State.ledger · d k) fun _ _ => rfl)
  unfold State.hearthBooted
  generalize hu : s.hearthRead.hearthRecords.measureHearth ms = u at hsticky hfloor hledger ⊢
  exact ⟨rfl, by rw [hu]; rfl, hfloor, hsticky, hledger⟩

theorem HearthLeft.failed {s t : State} {ms : List (BitVec 384)} (h : HearthLeft s ms t) : HearthLeft s ms t.failDevice := by
  have hkeeps {α : Type} (g : State → α) (hlane) (hboot) : g t.failDevice = g t := State.failDevice_keeps g hlane hboot t
  obtain ⟨hone, hsec, hfloor, hsticky, hledger⟩ := h
  refine ⟨?_, (hkeeps State.sec (fun s n => State.bumpN_sec ..) fun _ _ => rfl).trans hsec, ?_,
    (hkeeps (State.stickyBit · 137) (fun _ _ => rfl) fun _ _ => rfl).trans hsticky,
    fun d k => (hkeeps (State.ledger · d k) (fun _ _ => rfl) fun _ _ => rfl).trans (hledger d k)⟩
  · rw [t.boot_failDevice]
    exact hone
  · rw [t.boot_failDevice]
    exact hfloor

theorem hearthStage_spec {s : State} (hstage : s.boot.stage = .hearth) (hdead : s.dead = false) (ok : Bool) (ms : List (BitVec 384)) (cs : List (Nat × Converter)) :
    ∃ t : State, Gives (.hearthStage ok ms cs) s t ∧ t.boot.stageOne = true ∧ t.sec.regsLocked = true ∧
      t.sec.regs[0] = s.sec.regs[0] ∧ t.sec.regs[1] = extend 0 ((ms[0]?).getD 0) ∧ t.sec.regs[5] = extend 0 ((ms[4]?).getD 0) ∧
      t.sec.fwCdi = some (firmwareCdi (t.sec.regs.toList.drop 1) (s.sec.hearthCdi.getD [])) ∧
      t.sec.linkKey = some (linkIdentityKey (firmwareCdi (t.sec.regs.toList.drop 1) (s.sec.hearthCdi.getD []))) ∧
      t.boot.devState = (if ok then 1 else 5) ∧ t.boot.stage = (if ok then .dram else .failed) ∧ (ok = false → Ascending s.hall.lanes → ∀ n, (t.lane n).up = false) ∧
      (∀ r x, s.boot.record? = some r → r.trial = false → s.boot.bank r.activeB = some x →
        t.boot.floor = (if x.raiseFloor then max s.boot.floor x.securityVersion else s.boot.floor)) ∧
      (∀ w, w < s.wings → (s.section_ (1 + w) 8).copyA = none → (s.section_ (1 + w) 8).copyB = none → t.stickyBit 137 = true) ∧
      (∀ d k, k = 7 ∨ k = 8 → t.ledger d k = (s.section_ d k).booted.data) := by
  have hstep := exec_hearthStage hstage hdead ok ms cs
  have hleft : HearthLeft s ms (if ok then s.hearthBooted ms cs else (s.hearthBooted ms cs).failDevice) := by
    cases ok with
    | true => exact hearthLeft_booted s ms cs
    | false => exact (hearthLeft_booted s ms cs).failed
  have hboot : s.hearthRead.boot = s.boot := s.hearthRead_keeps State.boot (fun _ _ => rfl) (fun _ => State.setSticky_boot ..) fun _ _ => rfl
  have hsec : s.hearthRead.hearthRecords.sec = s.sec := (State.hearthRecords_keeps _ State.sec fun _ _ => rfl).trans
    (s.hearthRead_keeps State.sec (fun _ _ => rfl) (fun _ => State.setSticky_sec ..) fun _ _ => rfl)
  obtain ⟨hlocked, h0, h1, h5, hfw, hlink⟩ := State.measureHearth_sec s.hearthRead.hearthRecords ms
  rw [hsec] at h0 hfw hlink
  have hout : (if ok then s.hearthBooted ms cs else (s.hearthBooted ms cs).failDevice).boot.devState = (if ok then 1 else 5) ∧
      (if ok then s.hearthBooted ms cs else (s.hearthBooted ms cs).failDevice).boot.stage = (if ok then .dram else .failed) ∧
      (ok = false → ∀ n, ((if ok then s.hearthBooted ms cs else (s.hearthBooted ms cs).failDevice).lane n).up = false) := by
    cases ok with
    | true => exact ⟨rfl, rfl, nofun⟩
    | false => exact ⟨rfl, rfl, fun _ => (s.hearthBooted ms cs).failDevice_spec.2⟩
  generalize (if ok then s.hearthBooted ms cs else (s.hearthBooted ms cs).failDevice) = t at hstep hleft hout
  obtain ⟨hone, htsec, hfloor, hsticky, hledger⟩ := hleft
  obtain ⟨hdev, hst, hlanes⟩ := hout
  rw [← htsec] at hlocked h0 h1 h5 hfw hlink
  refine ⟨t, hstep, hone, hlocked, h0, h1, h5, hfw, hlink, hdev, hst, fun h _ => hlanes h, fun r x hr htrial hx => ?_, fun w hw hA hB => ?_, fun d k hk => ?_⟩
  · rw [← hboot] at hr hx ⊢
    exact hfloor.trans (State.floor_hearthRecords _ hr htrial hx)
  · exact hsticky.trans (s.stickyBit_hearthRead hw hA hB)
  · exact (hledger d k).trans (s.ledger_hearthRead d hk)

end Sys2Proof.Machine
end

section
/-!
PROOFS. The boot stages from the DRAM stage to READY, but the self-test (R722, R827, R828, R830, R840, R848).
-/
open Sys2Proof Sys2Proof.Machine Sys2Proof.Claims
namespace Sys2Proof.Machine

/-! ### DRAM_STAGE without an update (R722, R827, R830) -/

/-- The DRAM stage has trained the stacks and cleared storage. -/
def State.dramCleared (s : State) : State :=
  { s with wing0 := {}, wing1 := {}, tiles := [], boot := { s.boot with devState := 2, stage := .selfTest } }

theorem exec_dramStage {s : State} (hstage : s.boot.stage = .dram) (hdead : s.dead = false) (o : ApplyOutcome) :
    Gives (.dramStage true o) s (if s.boot.record.applyPending then s.dramCleared.applyStaging o else s.dramCleared) :=
  congrArg Host.Outcome.next ((if_neg (by rw [hstage, hdead]; decide)).trans (if_neg Bool.false_ne_true))

theorem dramStage_follows (s : State) (o : ApplyOutcome) : (s.boot.stage ≠ .dram → ∀ b, Gives (.dramStage b o) s s) ∧
    (s.boot.stage = .dram → s.dead = false → (∃ t : State, Gives (.dramStage false o) s t ∧ t.boot.devState = 5 ∧ t.boot.stage = .failed) ∧
      (s.boot.record.applyPending = false → Gives (.dramStage true o) s
        ({ s with wing0 := {}, wing1 := {}, tiles := [], boot := { s.boot with devState := 2, stage := .selfTest } }))) := by
  refine ⟨fun h b => congrArg Host.Outcome.next (if_pos (.inl h)), fun hstage hdead => ⟨⟨s.failDevice, ?_, ?_, ?_⟩, fun hpending => ?_⟩⟩
  · exact congrArg Host.Outcome.next ((if_neg (by rw [hstage, hdead]; decide)).trans (if_pos rfl))
  · rw [s.boot_failDevice]
  · rw [s.boot_failDevice]
  · have hstep := exec_dramStage hstage hdead o
    rw [hpending, if_neg Bool.false_ne_true] at hstep
    exact hstep

/-! ### SETTINGS_STAGE (R523, R840) -/

/-- The Settings stage's end: the pending origin comes into force. -/
def State.settingsTaken (s : State) : State := { s with time := s.time.takeOrigin, boot := { s.boot with stage := .ready } }

theorem exec_settingsStage {s t : State} (hstage : s.boot.stage = .settings) (hdead : s.dead = false)
    (ht : t = match s.boot.saved with | some x => s.loadSettings x | none => s.setSticky 136) : Gives .settingsStage s t.settingsTaken := by
  subst ht
  exact congrArg Host.Outcome.next (if_neg (by rw [hstage, hdead]; decide))

theorem takeOrigin_of_pending {t : TimeBase} {v : Nat} (h : t.originPending = some v) : t.takeOrigin.originInForce = v ∧ t.takeOrigin.originPending = none := by
  rw [TimeBase.takeOrigin, h]
  exact ⟨rfl, rfl⟩

theorem settingsStage_follows (s : State) : (s.boot.stage ≠ .settings → Gives .settingsStage s s) ∧
    (s.boot.stage = .settings → s.dead = false →
      (s.boot.saved = none → ∃ t : State, Gives .settingsStage s t ∧ t.stickyBit 136 = true ∧ t.boot.stage = .ready ∧ t.settings = s.settings) ∧
      (∀ x, s.boot.saved = some x → ∃ t : State, Gives .settingsStage s t ∧ t.boot.stage = .ready ∧ t.boot.anchors = x.anchors ∧ t.hall.activeBank = x.activeBank ∧
        t.settings = x.settings.filter (fun e => decide (settingScope (e.1 / 16777216) ≠ some .time)) ∧
        (∀ v, s.time.originPending = some v → t.time.originInForce = v ∧ t.time.originPending = none))) := by
  refine ⟨fun h => congrArg Host.Outcome.next (if_pos (.inl h)), fun hstage hdead => ⟨fun hnone => ?_, fun x hx => ?_⟩⟩
  · refine ⟨_, exec_settingsStage hstage hdead (t := s.setSticky 136) (by rw [hnone]), ?_, rfl, s.setSticky_settings 136⟩
    exact State.stickyBit_setSticky_self s (by decide)
  · refine ⟨_, exec_settingsStage hstage hdead (t := s.loadSettings x) (by rw [hx]), rfl, rfl, rfl, ?_, fun v hv => takeOrigin_of_pending hv⟩
    refine List.filter_congr fun e _ => ?_
    cases settingScope (e.1 / 16777216) with
    | none => rfl
    | some c => cases c <;> rfl

/-! ### READY and TRIAL_TIMEOUT (R828, R848) -/

theorem ready_follows (s : State) : (s.boot.stage ≠ .ready → Gives .ready s s) ∧
    (s.boot.stage = .ready → s.dead = false → s.power.serdesLost = [] → Gives .ready s ({ s with boot := { s.boot with devState := 4, stage := .done } })) := by
  refine ⟨fun h => congrArg Host.Outcome.next (if_pos (.inl h)), fun hstage hdead hlost => ?_⟩
  refine congrArg Host.Outcome.next ((if_neg (by rw [hstage, hdead]; decide)).trans ?_)
  rw [hlost, List.foldl_nil]

theorem wasReset_restartOwn (s : State) : WasReset s (s.restart true) := by
  refine ⟨rfl, rfl, rfl, rfl, rfl, rfl, rfl, rfl, rfl, rfl, rfl, rfl, rfl, ?_, rfl, rfl, rfl, rfl, rfl, rfl, rfl, rfl, rfl, rfl, rfl⟩
  show (false || s.power.thermtrip || !false || s.power.resetLow) = true
  rw [Bool.not_false, Bool.or_true, Bool.true_or]

theorem trialTimeout_follows (s : State) : ((s.boot.trialBoot = false ∨ s.boot.devState = 4) → Gives .trialTimeout s s) ∧
    (s.boot.trialBoot = true → s.boot.devState ≠ 4 → s.boot.stage ≠ .rom → s.dead = false → ∃ t : State, Gives .trialTimeout s t ∧ WasReset s t) := by
  refine ⟨fun h => congrArg Host.Outcome.next (if_neg ?_), fun htrial hdev hstage hdead =>
    ⟨s.restart true, congrArg Host.Outcome.next (if_pos ?_), wasReset_restartOwn s⟩⟩
  · rcases h with h | h <;> simp [h]
  · rw [htrial, bne_iff_ne.mpr hdev, bne_iff_ne.mpr hstage, hdead]
    rfl

end Sys2Proof.Machine
end

section
/-!
PROOFS. The self-test's repair maps (R17, R18, R811).
-/
open Sys2Proof Sys2Proof.Machine Sys2Proof.Claims
namespace Sys2Proof.Machine

/-! ### A Gallery's repair map, as a function of its repair records -/

/-- A record of REPAIR is about a tile of a Gallery. -/
def isRepairOf (g t : Nat) : List Nat → Bool
  | k :: u :: _ => k == g && u == t
  | _ => false

/-- The spare in a record that was found. -/
def spareIn : Option (List Nat) → Option Nat
  | some (_ :: _ :: u :: _) => some u
  | _ => none

/-- A record of REPAIR is about another Gallery. -/
def ofAnother (g : Nat) : List Nat → Bool
  | k :: _ => k != g
  | _ => false

/-- The rest of a tile's record, with its instant and cause; that of a new one otherwise. -/
def stampIn (nt : Nat) : Option (List Nat) → List Nat
  | some (_ :: _ :: _ :: rest) => rest
  | _ => [nt, 2]

/-- The spares of a Gallery that work. -/
def goodSpares (w g : Nat) (failed : List Nat) : List Nat := [0, 1, 2, 3].filter (fun p => !failed.contains (100 * (3 * w + g) + 96 + p))

/-- The broken tiles of a Gallery with the repairs `m`. -/
def brokenOf (m : List (Nat × Nat)) (w g : Nat) (failed : List Nat) : List Nat :=
  (List.range 96).filter (fun k => failed.contains (100 * (3 * w + g) + k) || m.any (fun r => r.1 == k))

/-- The spare that the repairs `m` give a tile. -/
def spareOf (m : List (Nat × Nat)) (t : Nat) : Option Nat := (m.find? (fun r => r.1 == t)).map (fun r => r.2)

section gallery
variable (s : State) (w g : Nat) (failed : List Nat)

/-- The repair map that the self-test gives a Gallery. -/
def State.galleryMap : List (Nat × Nat) :=
  spareMap (s.brokenTiles w g failed) (goodSpares w g failed) (fun t => spareIn ((s.ledger (1 + w) 8).find? (isRepairOf g t)))

/-- The records of a Gallery's map. -/
def State.galleryRecords : List (List Nat) :=
  (s.galleryMap w g failed).map (fun r => [g, r.1, r.2] ++ stampIn s.nt ((s.ledger (1 + w) 8).find? (isRepairOf g r.1)))

/-- The Gallery's records are stored. -/
def State.galleryStored : State :=
  let u := s.setLedger (1 + w) 8 ((s.ledger (1 + w) 8).filter (ofAnother g) ++ s.galleryRecords w g failed)
  { u with health := { u.health with sparesLost := mput u.health.sparesLost (3 * w + g) ([0, 1, 2, 3].filter (fun p => !(goodSpares w g failed).contains p)) } }

/-- R18: a tile without a spare takes its quarter with it. -/
def State.withholdLost (r : Nat × Nat) : State := if r.2 = 255 then s.withholdQuarter w g r.1 else s

theorem State.mapGallery_eq :
    s.mapGallery w g failed = (s.galleryMap w g failed).foldl (fun u r => u.withholdLost w g r) (s.galleryStored w g failed) := rfl

theorem State.repairs_eq : s.repairs w g = (s.ledger (1 + w) 8).filterMap (repairOf g) := rfl

theorem State.brokenTiles_eq : s.brokenTiles w g failed = brokenOf (s.repairs w g) w g failed := rfl

/-- A record that can hold a repair says which spare the map names first. -/
theorem spareIn_find (t : Nat) (l : List (List Nat)) (h : ∀ r ∈ l, 3 ≤ r.length) :
    spareIn (l.find? (isRepairOf g t)) = spareOf (l.filterMap (repairOf g)) t := by
  induction l with
  | nil => rfl
  | cons r l ih =>
    have hlong := h r List.mem_cons_self
    replace ih := ih fun x hx => h x (List.mem_cons_of_mem _ hx)
    match r, hlong with
    | k :: u :: p :: rest, _ =>
      by_cases hk : k = g
      · by_cases hu : u = t
        · simp [isRepairOf, repairOf, spareIn, spareOf, hk, hu]
        · rw [List.find?_cons_of_neg (by simp [isRepairOf, hu]), ih]
          simp [spareOf, repairOf, hk, hu]
      · rw [List.find?_cons_of_neg (by simp [isRepairOf, hk]), ih]
        simp [repairOf, hk]

/-- Every record of REPAIR of a Wing names a Gallery, a tile and a spare. -/
abbrev State.LongRepairs (s : State) (w : Nat) : Prop := ∀ r ∈ s.ledger (1 + w) 8, 3 ≤ r.length

theorem State.galleryMap_eq (h : s.LongRepairs w) :
    s.galleryMap w g failed = spareMap (brokenOf (s.repairs w g) w g failed) (goodSpares w g failed) (spareOf (s.repairs w g)) := by
  rw [State.galleryMap, s.brokenTiles_eq]
  congr 1
  exact funext fun t => (spareIn_find g t _ h).trans (congrArg (spareOf · t) (s.repairs_eq w g).symm)

end gallery

/-! ### What a Gallery's map leaves -/

section mapped
variable (s : State) (w g : Nat) (failed : List Nat)

theorem State.withholdLost_keeps {α : Type} (f : State → α) (hsticky : ∀ s, f (State.setSticky s 163) = f s)
    (hhealth : ∀ (s : State) l, f { s with health := { s.health with withheld := l } } = f s) (r : Nat × Nat) : f (s.withholdLost w g r) = f s := by
  unfold State.withholdLost State.withholdQuarter
  dsimp only
  split
  · split
    · exact hsticky s
    · exact (hhealth ..).trans (hsticky s)
  · rfl

theorem State.mapGallery_keeps {α : Type} (f : State → α) (hsticky : ∀ s, f (State.setSticky s 163) = f s)
    (hhealth : ∀ (s : State) l, f { s with health := { s.health with withheld := l } } = f s) : f (s.mapGallery w g failed) = f (s.galleryStored w g failed) := by
  rw [State.mapGallery_eq]
  exact foldl_keeps f _ (fun u r => u.withholdLost_keeps w g f hsticky hhealth r) _ _

theorem State.ledger_mapGallery_self : (s.mapGallery w g failed).ledger (1 + w) 8 = (s.ledger (1 + w) 8).filter (ofAnother g) ++ s.galleryRecords w g failed := by
  refine (s.mapGallery_keeps w g failed (State.ledger · (1 + w) 8) (fun u => State.ledger_of_health (u.setSticky_health 163) ..) fun _ _ => rfl).trans
    (State.ledger_setLedger ..)

theorem State.ledger_mapGallery_other {v : Nat} (h : v ≠ w) : (s.mapGallery w g failed).ledger (1 + v) 8 = s.ledger (1 + v) 8 :=
  (s.mapGallery_keeps w g failed (State.ledger · (1 + v) 8) (fun u => State.ledger_of_health (u.setSticky_health 163) ..) fun _ _ => rfl).trans (State.ledger_setLedger_other _ _ (by omega))

theorem filterMap_repairOf_kept (l : List (List Nat)) : (l.filter (ofAnother g)).filterMap (repairOf g) = [] := by
  refine List.filterMap_eq_nil_iff.mpr fun r hr => ?_
  have hother := (List.mem_filter.mp hr).2
  match r with
  | [] | [_] | [_, _] => rfl
  | k :: t :: p :: _ => exact if_neg (bne_iff_ne.mp hother)

theorem filterMap_repairOf_other {j : Nat} (h : j ≠ g) (l : List (List Nat)) : (l.filter (ofAnother g)).filterMap (repairOf j) = l.filterMap (repairOf j) := by
  rw [List.filterMap_filter]
  refine List.filterMap_congr fun r _ => ?_
  match r with
  | [] => rfl
  | [k] | [k, _] => exact ite_self _
  | k :: t :: p :: _ =>
    by_cases hk : k = g
    · exact (if_neg (by simp [ofAnother, hk])).trans (if_neg (hk ▸ h.symm)).symm
    · exact if_pos (bne_iff_ne.mpr hk)

theorem filterMap_repairOf_records (j : Nat) : (s.galleryRecords w g failed).filterMap (repairOf j) = if g = j then s.galleryMap w g failed else [] := by
  rw [State.galleryRecords, List.filterMap_map]
  split
  · next h => exact (List.filterMap_congr fun r _ => if_pos h).trans List.filterMap_some
  · next h => exact List.filterMap_eq_nil_iff.mpr fun r _ => if_neg h

/-- R17: a Gallery's repairs are its map. -/
theorem State.repairs_mapGallery_self : (s.mapGallery w g failed).repairs w g = s.galleryMap w g failed := by
  rw [State.repairs_eq, State.ledger_mapGallery_self, List.filterMap_append, filterMap_repairOf_kept, filterMap_repairOf_records, if_pos rfl, List.nil_append]

theorem State.repairs_mapGallery_other {v j : Nat} (h : (v, j) ≠ (w, g)) : (s.mapGallery w g failed).repairs v j = s.repairs v j := by
  rw [State.repairs_eq, State.repairs_eq]
  by_cases hv : v = w
  · have hj : j ≠ g := fun hj => h (by rw [hv, hj])
    rw [hv, State.ledger_mapGallery_self, List.filterMap_append, filterMap_repairOf_other g hj, filterMap_repairOf_records, if_neg hj.symm, List.append_nil]
  · rw [State.ledger_mapGallery_other _ _ _ _ hv]

theorem State.longRepairs_mapGallery {v : Nat} (h : s.LongRepairs v) : (s.mapGallery w g failed).LongRepairs v := by
  intro r hr
  by_cases hv : v = w
  · rw [hv, State.ledger_mapGallery_self, List.mem_append] at hr
    rcases hr with hr | hr
    · exact h r (hv ▸ (List.mem_filter.mp hr).1)
    · obtain ⟨x, -, rfl⟩ := List.mem_map.mp hr
      simp
  · rw [State.ledger_mapGallery_other _ _ _ _ hv] at hr
    exact h r hr

/-- R18: a quarter is withheld, with its sticky bit. -/
def State.QuarterLost (s : State) (q : Nat) : Prop := s.health.withheld.contains q = true ∧ s.stickyBit 163 = true

theorem State.quarterLost_withholdQuarter (t : Nat) : (s.withholdQuarter w g t).QuarterLost (12 * w + 4 * g + t / 24) := by
  obtain ⟨l, hl, hin⟩ := s.health_withholdQuarter w g t
  refine ⟨by rw [hl]; exact hin, ?_⟩
  unfold State.withholdQuarter
  dsimp only
  split <;> exact State.stickyBit_setSticky_self s (by decide)

theorem State.QuarterLost.withholdLost {s : State} {q : Nat} (h : s.QuarterLost q) (r : Nat × Nat) : (s.withholdLost w g r).QuarterLost q := by
  unfold State.withholdLost
  split
  · refine ⟨?_, (s.quarterLost_withholdQuarter w g r.1).2⟩
    unfold State.withholdQuarter
    dsimp only
    split
    · rw [State.setSticky_health]
      exact h.1
    · change List.contains ((s.setSticky 163).health.withheld ++ _) q = true
      rw [State.setSticky_health, List.contains_eq_mem, decide_eq_true_eq]
      exact List.mem_append_left _ (List.contains_iff_mem.mp h.1)
  · exact h

theorem State.QuarterLost.withholdLosts {s : State} {q : Nat} (h : s.QuarterLost q) (l : List (Nat × Nat)) :
    (l.foldl (fun u r => u.withholdLost w g r) s).QuarterLost q := by
  induction l generalizing s with
  | nil => exact h
  | cons r l ih => exact ih (h.withholdLost w g r)

theorem quarterLost_withholdLosts {l : List (Nat × Nat)} {k : Nat} (h : (k, 255) ∈ l) (s : State) :
    (l.foldl (fun u r => u.withholdLost w g r) s).QuarterLost (12 * w + 4 * g + k / 24) := by
  obtain ⟨l₁, l₂, rfl⟩ := List.append_of_mem h
  rw [List.foldl_append, List.foldl_cons]
  exact (State.quarterLost_withholdQuarter _ w g k).withholdLosts w g l₂

theorem State.QuarterLost.mapGallery {s : State} {q : Nat} (h : s.QuarterLost q) : (s.mapGallery w g failed).QuarterLost q := by
  rw [State.mapGallery_eq]
  exact State.QuarterLost.withholdLosts (s := s.galleryStored w g failed) w g h _

end mapped

/-! ### The self-test of every Gallery -/

/-- The Galleries of a device with `n` Wings. -/
def galleries (n : Nat) : List (Nat × Nat) := (List.range n).flatMap (fun w => [(w, 0), (w, 1), (w, 2)])

theorem mem_galleries {n w g : Nat} (hw : w < n) (hg : g < 3) : (w, g) ∈ galleries n := by
  refine List.mem_flatMap.mpr ⟨w, List.mem_range.mpr hw, ?_⟩
  have h : g = 0 ∨ g = 1 ∨ g = 2 := by omega
  rcases h with rfl | rfl | rfl <;> simp

theorem nodup_galleries (n : Nat) : (galleries n).Nodup := by
  refine List.nodup_flatMap.mpr ⟨fun w _ => by simp, List.nodup_range.imp fun {a b} hne => ?_⟩
  intro p ha hb
  simp only [List.mem_cons, List.not_mem_nil, or_false] at ha hb
  rcases ha with rfl | rfl | rfl <;> simp_all

/-- The maps of some Galleries are made. -/
def State.mapGalleries (s : State) (failed : List Nat) (l : List (Nat × Nat)) : State := l.foldl (fun u p => u.mapGallery p.1 p.2 failed) s

/-- The end of the self-test. -/
def State.selfTested (s : State) (failed ls : List Nat) : State :=
  let u := s.mapGalleries failed (galleries s.wings)
  { u with health := { u.health with landingUsed := ls }, boot := { u.boot with devState := 3, stage := .settings } }

theorem exec_selfTest {s : State} (hstage : s.boot.stage = .selfTest) (hdead : s.dead = false) (failed ls : List Nat) :
    Gives (.selfTest failed ls) s (s.selfTested failed ls) := by
  have hfold : s.mapGalleries failed (galleries s.wings) = (List.range s.wings).foldl (fun s w => [0, 1, 2].foldl (fun s g => s.mapGallery w g failed) s) s := by
    rw [State.mapGalleries, galleries, List.foldl_flatMap]
    rfl
  refine congrArg Host.Outcome.next ((if_neg (by rw [hstage, hdead]; decide)).trans ?_)
  rw [State.selfTested, hfold]

section fold
variable {s : State} {failed : List Nat} {w g : Nat} {l : List (Nat × Nat)}

theorem State.repairs_mapGalleries_other (h : (w, g) ∉ l) (s : State) : (s.mapGalleries failed l).repairs w g = s.repairs w g := by
  induction l generalizing s with
  | nil => rfl
  | cons p l ih =>
    rw [List.mem_cons, not_or] at h
    exact (ih h.2 (s.mapGallery p.1 p.2 failed)).trans (s.repairs_mapGallery_other p.1 p.2 failed h.1)

theorem State.longRepairs_mapGalleries (h : s.LongRepairs w) : (s.mapGalleries failed l).LongRepairs w := by
  induction l generalizing s with
  | nil => exact h
  | cons p l ih => exact ih (s.longRepairs_mapGallery p.1 p.2 failed h)

theorem State.QuarterLost.mapGalleries {q : Nat} (h : s.QuarterLost q) : (s.mapGalleries failed l).QuarterLost q := by
  induction l generalizing s with
  | nil => exact h
  | cons p l ih => exact ih (h.mapGallery p.1 p.2 failed)

/-- R17, R18: each Gallery's repairs are the map that its records lead to, and a tile without a spare loses its quarter. -/
theorem State.repairs_mapGalleries (hnodup : l.Nodup) (hmem : (w, g) ∈ l) (hlong : s.LongRepairs w) :
    (s.mapGalleries failed l).repairs w g = spareMap (brokenOf (s.repairs w g) w g failed) (goodSpares w g failed) (spareOf (s.repairs w g)) ∧
    ∀ k, (k, 255) ∈ (s.mapGalleries failed l).repairs w g → (s.mapGalleries failed l).QuarterLost (12 * w + 4 * g + k / 24) := by
  obtain ⟨l₁, l₂, rfl⟩ := List.append_of_mem hmem
  obtain ⟨-, h₂, hdisjoint⟩ := List.nodup_append.mp hnodup
  have hnot₁ : (w, g) ∉ l₁ := fun h => hdisjoint _ h _ List.mem_cons_self rfl
  have hfold : s.mapGalleries failed (l₁ ++ (w, g) :: l₂) = ((s.mapGalleries failed l₁).mapGallery w g failed).mapGalleries failed l₂ := by
    rw [State.mapGalleries, List.foldl_append, List.foldl_cons]
    rfl
  have hbefore := State.repairs_mapGalleries_other (failed := failed) hnot₁ s
  have hlong₁ : (s.mapGalleries failed l₁).LongRepairs w := State.longRepairs_mapGalleries hlong
  rw [hfold]
  generalize s.mapGalleries failed l₁ = u at hbefore hlong₁ ⊢
  have hafter : ((u.mapGallery w g failed).mapGalleries failed l₂).repairs w g = u.galleryMap w g failed :=
    (State.repairs_mapGalleries_other (List.nodup_cons.mp h₂).1 _).trans (u.repairs_mapGallery_self w g failed)
  rw [hafter]
  refine ⟨?_, fun k hk => State.QuarterLost.mapGalleries ?_⟩
  · rw [u.galleryMap_eq w g failed hlong₁, hbefore]
  · rw [State.mapGallery_eq]
    exact quarterLost_withholdLosts w g hk _

end fold

/-! ### The spares of a map -/

section spares
variable {broken spares : List Nat} {recorded : Nat → Option Nat}

theorem map_fst_spareMap : (spareMap broken spares recorded).map (fun r => r.1) = broken := by
  rw [spareMap, List.map_map]
  exact List.map_id _

theorem mem_spareMap_kept {k p : Nat} (hk : k ∈ broken) (h : (recorded k).filter (fun u => spares.contains u) = some p) : (k, p) ∈ spareMap broken spares recorded := by
  refine List.mem_map.mpr ⟨k, hk, ?_⟩
  dsimp only
  rw [h, Option.getD_some]

theorem mem_spareMap_other {k j : Nat} (hnodup : broken.Nodup)
    (h : (broken.filter (fun t => ((recorded t).filter (fun u => spares.contains u)).isNone))[j]? = some k) :
    (k, ((spares.filter (fun u => !(broken.filterMap (fun t => (recorded t).filter (fun u => spares.contains u))).contains u))[j]?).getD 255) ∈
      spareMap broken spares recorded := by
  obtain ⟨hlt, hget⟩ := List.getElem?_eq_some_iff.mp h
  obtain ⟨hk, hnone⟩ := List.mem_filter.mp (List.mem_of_getElem? h)
  refine List.mem_map.mpr ⟨k, hk, ?_⟩
  dsimp only
  rw [Option.isNone_iff_eq_none.mp hnone, Option.getD_none, ← hget, (hnodup.filter _).idxOf_getElem]

end spares

theorem selfTest_follows (s : State) (failed ls : List Nat) : (s.boot.stage ≠ .selfTest → Gives (.selfTest failed ls) s s) ∧
    (s.boot.stage = .selfTest → s.dead = false → ∃ t : State, Gives (.selfTest failed ls) s t ∧ t.boot.devState = 3 ∧ t.boot.stage = .settings ∧ t.health.landingUsed = ls ∧
      ∀ w g, w < s.wings → g < 3 →
        let good := [0, 1, 2, 3].filter (fun p => !failed.contains (100 * (3 * w + g) + 96 + p))
        let broken := (List.range 96).filter (fun k => failed.contains (100 * (3 * w + g) + k) || (s.repairs w g).any (fun r => r.1 == k))
        let kept := fun (k : Nat) => (((s.repairs w g).find? (fun r => r.1 == k)).map (fun r => r.2)).filter (fun p => good.contains p)
        let unused := good.filter (fun p => !(broken.filterMap kept).contains p)
        let others := broken.filter (fun k => (kept k).isNone)
        (∀ r ∈ s.ledger (1 + w) 8, 3 ≤ r.length) → (t.repairs w g).map (fun r => r.1) = broken ∧
        (∀ k p, k ∈ broken → kept k = some p → (k, p) ∈ t.repairs w g) ∧
        (∀ j k, others[j]? = some k → (k, (unused[j]?).getD 255) ∈ t.repairs w g ∧
          (unused.length ≤ j → t.health.withheld.contains (12 * w + 4 * g + k / 24) = true ∧ t.stickyBit 163 = true))) := by
  refine ⟨fun h => congrArg Host.Outcome.next (if_pos (.inl h)), fun hstage hdead => ⟨_, exec_selfTest hstage hdead failed ls, rfl, rfl, rfl, ?_⟩⟩
  intro w g hw hg good broken kept unused others hlong
  obtain ⟨hmap, hlost⟩ := State.repairs_mapGalleries (failed := failed) (nodup_galleries s.wings) (mem_galleries hw hg) hlong
  have hrepairs : (s.selfTested failed ls).repairs w g = spareMap broken good (spareOf (s.repairs w g)) := hmap
  have hnodup : broken.Nodup := List.nodup_range.filter _
  rw [hrepairs]
  refine ⟨map_fst_spareMap, fun k p hk hp => mem_spareMap_kept hk hp, fun j k hjk => ?_⟩
  have hin := mem_spareMap_other hnodup hjk
  refine ⟨hin, fun hlen => ?_⟩
  rw [List.getElem?_eq_none hlen, Option.getD_none] at hin
  exact hlost k (hmap ▸ hin)

end Sys2Proof.Machine
end

section
/-!
PROOFS. The apply of a pending update in the DRAM stage (R846, R856).
-/
open Sys2Proof Sys2Proof.Machine Sys2Proof.Claims
namespace Sys2Proof.Machine

/-! ### An apply that does not switch banks -/

section failed
variable (s : State) (result : Nat)

/-- The boot flash behind the end of an update with a result. -/
def Boot.applyEnded (b : Boot) (result : Nat) : Boot :=
  { b.writeRecord (fun r => { r with applyPending := false, lastResult := result }) with staging := none, lastResult := result }

theorem State.applyFailed_eq : s.applyFailed result =
    if result = 1 then { s with boot := s.boot.applyEnded result } else State.bump { s with boot := s.boot.applyEnded result } Ctr.hallUpdateFailed := rfl

theorem State.boot_applyFailed : (s.applyFailed result).boot = s.boot.applyEnded result := by
  rw [State.applyFailed_eq]
  split
  · rfl
  · exact State.bump_boot ..

theorem State.ctr_applyFailed : (s.applyFailed result).ctr Ctr.hallUpdateFailed = rose (s.ctr Ctr.hallUpdateFailed) (if result = 1 then 0 else 1) := by
  rw [State.applyFailed_eq]
  split
  · rfl
  · exact State.ctr_bump ..

theorem Boot.applyEnded_keeps {α : Type} (b : Boot) (g : Boot → α) (hrec : ∀ (b : Boot) r0 r1, g { b with rec0 := r0, rec1 := r1 } = g b)
    (hstaging : ∀ (b : Boot) x r, g { b with staging := x, lastResult := r } = g b) : g (b.applyEnded result) = g b :=
  (hstaging ..).trans (b.writeRecord_keeps _ g hrec)

theorem Boot.record_applyEnded {b : Boot} {r : BootRec} (h : b.record = r) :
    (b.applyEnded result).record = { r with applyPending := false, lastResult := result, seq := r.seq + 1 } := by
  subst h
  exact b.record_writeRecord _

end failed

/-! ### An apply that switches banks -/

section switch

/-- The boot flash behind the switch to bank `t`: the bank, its record on trial, and the staging as the trial's. -/
def Boot.switched (b : Boot) (g : Staging) (t : Bool) (x : Bank) : Boot :=
  { (b.setBank t (some x)).writeRecord (fun r => { r with
      activeB := t, applyPending := false, trial := true, triesLeft := 3, lastResult := 1
      digestA := if t then r.digestA else x.digest, digestB := if t then x.digest else r.digestB }) with
    staging := some { g with state := .trial, statusRecord := false } }

theorem State.applySwitch_eq (s : State) (g : Staging) (t : Bool) (x : Bank) :
    s.applySwitch g t x = (State.bump { s with boot := s.boot.switched g t x } Ctr.hallUpdateApplied).restart true := rfl

theorem Boot.record_setBank (b : Boot) (t : Bool) (x : Option Bank) : (b.setBank t x).record = b.record := by
  cases t <;> rfl

theorem Boot.bank_setBank_self (b : Boot) (t : Bool) (x : Option Bank) : (b.setBank t x).bank t = x := by
  cases t <;> rfl

theorem Boot.bank_setBank_not (b : Boot) (a : Bool) (x : Option Bank) : (b.setBank (!a) x).bank a = b.bank a := by
  cases a <;> rfl

theorem Boot.bank_switched (b : Boot) (g : Staging) (t : Bool) (x : Bank) (a : Bool) : (b.switched g t x).bank a = (b.setBank t (some x)).bank a :=
  (b.setBank t (some x)).writeRecord_keeps _ (Boot.bank · a) fun _ _ _ => rfl

theorem Boot.record_switched {b : Boot} {r : BootRec} (h : b.record = r) (g : Staging) (t : Bool) (x : Bank) :
    (b.switched g t x).record =
      { r with
        activeB := t, applyPending := false, trial := true, triesLeft := 3, lastResult := 1, seq := r.seq + 1
        digestA := if t then r.digestA else x.digest, digestB := if t then x.digest else r.digestB } := by
  refine ((b.setBank t (some x)).record_writeRecord _).trans ?_
  rw [Boot.record_setBank, h]

theorem Boot.record_restarted (b : Boot) : b.restarted.record = b.record := rfl

theorem Boot.bank_restarted (b : Boot) (a : Bool) : b.restarted.bank a = b.bank a := rfl

theorem Boot.staging_restarted_of_trial {b : Boot} {g : Staging} (h : b.staging = some g) (htrial : g.state = .trial) :
    b.restarted.staging = some { g with offers := [], relayAt := none } := by
  have hkept : (!g.statusRecord && g.state != .trial) = false := by rw [htrial, bne_self_eq_false, Bool.and_false]
  rw [Boot.restarted, h]
  exact if_neg (hkept ▸ Bool.false_ne_true)

theorem State.ctr_restartOwn (s : State) {id : Nat} (h : id ∈ bootCounters) : (s.restart true).ctr id = s.ctr id :=
  mget_filter_of_kept 0 fun _ _ he => List.contains_iff_mem.mpr (he ▸ h)

end switch

/-! ### The pending staging (R846) -/

section applyStaging
variable {s : State} {g : Staging} {h : StagingHdr} {r : BootRec} (hg : s.boot.staging = some g) (hh : g.hdr = some h) (hr : s.boot.record = r) (o : ApplyOutcome)

include hg hh

theorem State.applyStaging_incomplete (hbad : g.statusRecord = false ∨ o.hashMatches = false) : s.applyStaging o = s.applyFailed 2 := by
  rw [State.applyStaging, hg]
  dsimp only
  rw [hh]
  exact if_pos (by rcases hbad with h | h <;> rw [h] <;> simp)

variable (hstatus : g.statusRecord = true) (hhash : o.hashMatches = true)
include hstatus hhash

theorem State.applyStaging_complete : s.applyStaging o =
    if h.credentials then (s.saveAnchors h.anchors).applyFailed 1
    else if h.baseDigest ≠ 0 ∧ h.baseDigest ≠ s.boot.record.digestOf s.boot.record.activeB then s.applyFailed 3
    else if o.newBankVerifies ∧ s.boot.floor ≤ h.target.securityVersion then s.applySwitch g (!s.boot.record.activeB) h.target
    else State.applyFailed { s with boot := s.boot.setBank (!s.boot.record.activeB) none } 4 := by
  rw [State.applyStaging, hg]
  dsimp only
  rw [hh]
  exact if_neg (by rw [hstatus, hhash]; decide)

theorem State.applyStaging_credentials (hcred : h.credentials = true) : s.applyStaging o = (s.saveAnchors h.anchors).applyFailed 1 :=
  (State.applyStaging_complete hg hh o hstatus hhash).trans (if_pos hcred)

variable (hcred : h.credentials = false)
include hr hcred

theorem State.applyStaging_otherBase (hbase : h.baseDigest ≠ 0) (hdigest : h.baseDigest ≠ r.digestOf r.activeB) : s.applyStaging o = s.applyFailed 3 := by
  rw [State.applyStaging_complete hg hh o hstatus hhash, if_neg (by rw [hcred]; decide), hr]
  exact if_pos ⟨hbase, hdigest⟩

variable (hbase : h.baseDigest = 0 ∨ h.baseDigest = r.digestOf r.activeB)
include hbase

theorem State.applyStaging_rightBase : s.applyStaging o =
    if o.newBankVerifies ∧ s.boot.floor ≤ h.target.securityVersion then s.applySwitch g (!r.activeB) h.target
    else State.applyFailed { s with boot := s.boot.setBank (!r.activeB) none } 4 := by
  rw [State.applyStaging_complete hg hh o hstatus hhash, if_neg (by rw [hcred]; decide), hr]
  exact if_neg fun ⟨h0, hd⟩ => hbase.elim h0 hd

end applyStaging

theorem State.boot_saveAnchors (s : State) (anchors : List Nat) : 
    ∃ x y, (s.saveAnchors anchors).boot = s.boot.save x ∧ (s.boot.save x).saved = some y ∧ y.anchors = anchors.take 4 :=
  ⟨{ (s.boot.saved.getD { seq := 0, settings := [], rules := [], activeBank := 0, anchors := [] }) with anchors := anchors.take 4 }, _, rfl, Boot.saved_save .., rfl⟩

theorem Boot.save_keeps {α : Type} (b : Boot) (x : SavedSettings) (g : Boot → α) (h : ∀ (b : Boot) s0 s1, g { b with settings0 := s0, settings1 := s1 } = g b) :
    g (b.save x) = g b := by
  rw [Boot.save_eq]
  split
  · exact h b _ b.settings1
  · exact h b b.settings0 _

/-- What the end of an update leaves of the state before it. -/
structure UpdateEnded (s : State) (r : BootRec) (result : Nat) (t : State) : Prop where
  stage : t.boot.stage = .selfTest
  staging : t.boot.staging = none
  record : t.boot.record = { r with applyPending := false, lastResult := result, seq := r.seq + 1 }
  bank : t.boot.bank r.activeB = s.boot.bank r.activeB
  failed : t.ctr Ctr.hallUpdateFailed = rose (s.ctr Ctr.hallUpdateFailed) (if result = 1 then 0 else 1)

theorem updateEnded_applyFailed {s u : State} {r : BootRec} (hstage : u.boot.stage = .selfTest) (hr : u.boot.record = r)
    (hbank : u.boot.bank r.activeB = s.boot.bank r.activeB) (hctr : u.ctr Ctr.hallUpdateFailed = s.ctr Ctr.hallUpdateFailed) (result : Nat) :
    UpdateEnded s r result (u.applyFailed result) := by
  have hboot := u.boot_applyFailed result
  refine ⟨?_, ?_, ?_, ?_, hctr ▸ u.ctr_applyFailed result⟩ <;> rw [hboot]
  · exact (u.boot.applyEnded_keeps result Boot.stage (fun _ _ _ => rfl) fun _ _ _ => rfl).trans hstage
  · rfl
  · exact Boot.record_applyEnded result hr
  · exact (u.boot.applyEnded_keeps result (Boot.bank · r.activeB) (fun _ _ _ => rfl) fun _ _ _ => rfl).trans hbank

/-- What the switch to the other bank leaves. -/
theorem applySwitch_spec {u : State} {r : BootRec} (hr : u.boot.record = r) (g : Staging) (x : Bank) :
    let t := u.applySwitch g (!r.activeB) x
    t.boot.stage = .rom ∧ t.dead = true ∧
      t.boot.bank (!r.activeB) = some x ∧ t.boot.bank r.activeB = u.boot.bank r.activeB ∧ t.boot.record.activeB = !r.activeB ∧ t.boot.record.trial = true ∧
      t.boot.record.triesLeft = 3 ∧ t.boot.record.applyPending = false ∧ t.boot.record.lastResult = 1 ∧ t.boot.record.digestOf (!r.activeB) = x.digest ∧
      (∃ g', t.boot.staging = some g' ∧ g'.state = .trial) ∧ t.ctr Ctr.hallUpdateApplied = rose (u.ctr Ctr.hallUpdateApplied) 1 := by
  intro t
  have hreset : t.boot.stage = .rom ∧ t.dead = true := by
    obtain ⟨-, -, -, -, -, -, -, -, hstage, -, -, -, -, hdead, -⟩ :=
      wasReset_restartOwn (State.bump { u with boot := u.boot.switched g (!r.activeB) x } Ctr.hallUpdateApplied)
    exact ⟨hstage, hdead⟩
  have hctr : t.ctr Ctr.hallUpdateApplied = rose (u.ctr Ctr.hallUpdateApplied) 1 :=
    (State.ctr_restartOwn _ (by decide)).trans (State.ctr_bump ..)
  have hboot : t.boot = (u.boot.switched g (!r.activeB) x).restarted := congrArg Boot.restarted (State.bump_boot ..)
  have hrecord := (Boot.record_restarted _).trans (Boot.record_switched hr g (!r.activeB) x)
  have hbank (a : Bool) := (Boot.bank_restarted _ a).trans (u.boot.bank_switched g (!r.activeB) x a)
  have hstaging := Boot.staging_restarted_of_trial (b := u.boot.switched g (!r.activeB) x) rfl rfl
  refine ⟨hreset.1, hreset.2, ?_⟩
  rw [hboot, hrecord]
  refine ⟨(hbank _).trans (Boot.bank_setBank_self ..), (hbank _).trans (Boot.bank_setBank_not ..), rfl, rfl, rfl, rfl, rfl, ?_, ⟨_, hstaging, rfl⟩, hctr⟩
  cases r.activeB <;> rfl

theorem updatesApply : Claims.UpdatesApply := by
  intro s o r g h hstage hdead hr? hpending hg hh ends
  have hr : s.boot.record = r := by rw [Boot.record, hr?, Option.getD_some]
  have hstep : Gives (.dramStage true o) s (s.dramCleared.applyStaging o) := by
    have hstep := exec_dramStage hstage hdead o
    rwa [hr, if_pos hpending] at hstep
  have hcleared : s.dramCleared.boot.record = r := hr
  replace hg : s.dramCleared.boot.staging = some g := hg
  have hend {result : Nat} {u : State} (hu : s.dramCleared.applyStaging o = u.applyFailed result) (hend : UpdateEnded s r result (u.applyFailed result)) : ends result := by
    obtain ⟨h1, h2, h3, h4, h5⟩ := hend
    exact ⟨_, hu ▸ hstep, h1, h2, h3, h4, h5⟩
  have hplain (result : Nat) : UpdateEnded s r result (s.dramCleared.applyFailed result) := updateEnded_applyFailed (s := s) rfl hcleared rfl rfl result
  have hselfTest (t : Bool) (x : Option Bank) : (s.dramCleared.boot.setBank t x).stage = .selfTest := by cases t <;> rfl
  refine ⟨fun hbad => hend (State.applyStaging_incomplete hg hh o hbad) (hplain 2), fun hstatus hhash => ⟨fun hcred => ?_, fun hcred hbase hdigest => ?_, fun hcred hbase => ?_⟩⟩
  · have happly : s.dramCleared.applyStaging o = _ := State.applyStaging_credentials hg hh o hstatus hhash hcred
    obtain ⟨x, y, hboot, hsaved, hanchors⟩ := s.dramCleared.boot_saveAnchors h.anchors
    have hkeep {α : Type} (f : Boot → α) (hf : ∀ (b : Boot) s0 s1, f { b with settings0 := s0, settings1 := s1 } = f b) : f (s.dramCleared.saveAnchors h.anchors).boot = f s.dramCleared.boot := by
      rw [hboot]
      exact s.dramCleared.boot.save_keeps x f hf
    refine ⟨hend happly (updateEnded_applyFailed (s := s) (hkeep Boot.stage fun _ _ _ => rfl) ((hkeep Boot.record fun _ _ _ => rfl).trans hcleared)
      (hkeep (Boot.bank · r.activeB) fun _ _ _ => rfl) rfl 1), _, y, happly ▸ hstep, ?_, hanchors⟩
    rw [State.boot_applyFailed]
    exact (Boot.applyEnded_keeps 1 _ Boot.saved (fun _ _ _ => rfl) fun _ _ _ => rfl).trans ((congrArg Boot.saved hboot).trans hsaved)
  · exact hend (State.applyStaging_otherBase hg hh hcleared o hstatus hhash hcred hbase hdigest) (hplain 3)
  · have happly : s.dramCleared.applyStaging o = _ := State.applyStaging_rightBase hg hh hcleared o hstatus hhash hcred hbase
    refine ⟨fun hbad => ?_, fun hverifies hfloor => ?_⟩
    · refine hend (happly.trans (if_neg fun ⟨hv, hf⟩ => ?_)) (updateEnded_applyFailed (s := s) (u := { s.dramCleared with boot := s.dramCleared.boot.setBank (!r.activeB) none }) (hselfTest _ _) ((Boot.record_setBank ..).trans hcleared) ((Boot.bank_setBank_not ..).trans rfl) rfl 4)
      · rcases hbad with hbad | hbad
        · exact absurd (hbad ▸ hv) Bool.false_ne_true
        · exact absurd hf (Nat.not_le.mpr hbad)
    · rw [happly, if_pos ⟨hverifies, hfloor⟩] at hstep
      exact ⟨_, hstep, applySwitch_spec hcleared g h.target⟩

theorem stagesFollow : Claims.StagesFollow :=
  ⟨fun _ ok ms cs => ⟨fun h => congrArg Host.Outcome.next (if_pos (.inl h)), fun hstage hdead => hearthStage_spec hstage hdead ok ms cs⟩,
    dramStage_follows, selfTest_follows, settingsStage_follows, ready_follows, trialTimeout_follows⟩

/-- Settles O54, a lemma for each boot stage; the self-test's Galleries keep each other's records, and an apply ends with its result or switches banks. -/
theorem bootAndApply : Obligations.BootAndApply := ⟨stagesFollow, updatesApply⟩

end Sys2Proof.Machine
end

section
/-!
PROOFS. A closed staging without a status record does not outlive the reset of its activation (R845, Table 23-9).
-/
open Sys2Proof Sys2Proof.Machine Sys2Proof.Claims Sys2Proof.Tests
namespace Sys2Proof.Machine

/-- Ring 0 holds UPDATE_ACTIVATE; the staging is CLOSED, and its status record is not in flash. -/
def activating : State := held (stagedUp (some { staging0 .closed false 0 5 with statusRecord := false })) 0x0A06 255

/-- The staging that a step leaves. -/
def stagingLeft : Host.Outcome State Fault Refusal → Option (Option Staging)
  | .next t => some t.boot.staging
  | _ => none

/-- The device resets behind the activation, and the staging has gone. -/
theorem stagingLeft_activating : stagingLeft (Machine.exec (.updateActivate c0 true) activating) = some none := by decide +kernel

/-- Refutes O55: UPDATE_ACTIVATE with reset_now over a CLOSED staging whose status record is not in flash: the reset drops a staging without one, so
that no activated staging is left. -/
theorem not_updatesAreStaged : ¬ Obligations.UpdatesAreStaged := by
  unfold Obligations.UpdatesAreStaged
  rintro ⟨-, -, -, -, -, -, hactivate, -⟩
  obtain ⟨-, -, hclosed⟩ := hactivate c0 true activating (cm 0x0A06 255) (by decide +kernel) (by decide +kernel)
  obtain ⟨-, hreset⟩ := hclosed _ rfl rfl rfl
  obtain ⟨t, hstep, -, -, g, hg, -⟩ := hreset rfl
  have hleft := stagingLeft_activating
  rw [hstep, stagingLeft, hg] at hleft
  exact absurd hleft (by simp)

end Sys2Proof.Machine
end

section
/-!
PROOFS. The bytes of a dump (R797, Table 21-15).
-/
open Sys2Proof Sys2Proof.Machine Sys2Proof.Claims
namespace Sys2Proof.Machine

/-- The fields of a dump's header. -/
def Dump.headFields (d : Dump) : List (Nat × Nat) :=
  [(4, 0x504D5544), (2, 1), (1, d.scope), (1, b2n d.automatic + 2 * b2n d.late), (4, d.sections.length), (4, 0), (8, d.nt), (8, d.length)]

/-- The fields of a section's directory entry; its records stand at `off`. -/
def DumpSection.entryFields (x : DumpSection) (off : Nat) : List (Nat × Nat) := [(1, x.kind), (1, 0), (2, x.recordBytes), (4, x.records.length), (8, off)]

/-- The records of all sections, one behind the other. -/
def sectionBytes (l : List DumpSection) : Bytes := l.flatMap (fun x => x.records.flatten)

theorem Dump.bytes_eq (d : Dump) :
    d.bytes = packed d.headFields ++ (dumpDirectory (32 + 16 * d.sections.length) d.sections ++ sectionBytes d.sections) := by
  have hzero : zeroBytes 4 = leBytes 4 0 := by decide
  rw [Dump.bytes, hzero]
  simp only [packed, Dump.headFields, List.flatMap_cons, List.flatMap_nil, List.append_nil, List.append_assoc, sectionBytes]

theorem dumpDirectory_cons (off : Nat) (x : DumpSection) (l : List DumpSection) :
    dumpDirectory off (x :: l) = packed (x.entryFields off) ++ dumpDirectory (off + x.recordBytes * x.records.length) l := by
  have hzero : zeroBytes 1 = leBytes 1 0 := by decide
  rw [dumpDirectory, hzero]
  simp only [packed, DumpSection.entryFields, List.flatMap_cons, List.flatMap_nil, List.append_nil, List.append_assoc]

theorem sectionsLength_nil : sectionsLength [] = 0 := rfl

theorem sectionsLength_cons (x : DumpSection) (l : List DumpSection) : sectionsLength (x :: l) = x.recordBytes * x.records.length + sectionsLength l := by
  rw [sectionsLength, sectionsLength, ← List.sum_eq_foldl, ← List.sum_eq_foldl, List.map_cons, List.sum_cons]

theorem length_entry (x : DumpSection) (off : Nat) : (packed (x.entryFields off)).length = 16 := length_packed _

theorem length_dumpDirectory (off : Nat) (l : List DumpSection) : (dumpDirectory off l).length = 16 * l.length := by
  induction l generalizing off with
  | nil => rfl
  | cons x l ih => rw [dumpDirectory_cons, List.length_append, length_entry, ih, List.length_cons]; omega

/-- Every section's records have the section's length. -/
abbrev RecordsFit (l : List DumpSection) : Prop := ∀ x ∈ l, ∀ r ∈ x.records, r.length = x.recordBytes

theorem length_records {x : DumpSection} (h : ∀ r ∈ x.records, r.length = x.recordBytes) : x.records.flatten.length = x.recordBytes * x.records.length := by
  rw [List.length_flatten, List.map_congr_left h, List.map_const', List.sum_replicate_nat, Nat.mul_comm]

theorem sectionBytes_cons (x : DumpSection) (l : List DumpSection) : sectionBytes (x :: l) = x.records.flatten ++ sectionBytes l := List.flatMap_cons ..

theorem length_sectionBytes {l : List DumpSection} (h : RecordsFit l) : (sectionBytes l).length = sectionsLength l := by
  induction l with
  | nil => rfl
  | cons x l ih =>
    rw [sectionBytes_cons, List.length_append, length_records (h x List.mem_cons_self), ih fun y hy => h y (List.mem_cons_of_mem _ hy), sectionsLength_cons]

/-- R797: the `k`-th directory entry. -/
theorem dumpDirectory_entry {l : List DumpSection} {k : Nat} {x : DumpSection} (h : l[k]? = some x) (off : Nat) (rest : Bytes) :
    ((dumpDirectory off l ++ rest).drop (16 * k)).take 16 = packed (x.entryFields (off + sectionsLength (l.take k))) := by
  induction l generalizing k off with
  | nil => exact absurd h (by simp)
  | cons y l ih =>
    rw [dumpDirectory_cons, List.append_assoc]
    cases k with
    | zero =>
      obtain rfl : y = x := by simpa using h
      rw [Nat.mul_zero, List.drop_zero, List.take_left' (length_entry ..), List.take_zero, sectionsLength_nil, Nat.add_zero]
    | succ k =>
      rw [Nat.mul_succ, Nat.add_comm, ← List.drop_drop, List.drop_left' (length_entry ..), ih (by simpa using h), List.take_succ_cons, sectionsLength_cons,
        Nat.add_assoc]

/-- R797: a section's records stand behind those of the sections before it. -/
theorem sectionBytes_section {l : List DumpSection} (hfit : RecordsFit l) {k : Nat} {x : DumpSection} (h : l[k]? = some x) :
    ((sectionBytes l).drop (sectionsLength (l.take k))).take (x.recordBytes * x.records.length) = x.records.flatten := by
  induction l generalizing k with
  | nil => exact absurd h (by simp)
  | cons y l ih =>
    rw [sectionBytes_cons]
    cases k with
    | zero =>
      obtain rfl : y = x := by simpa using h
      rw [List.take_zero, sectionsLength_nil, List.drop_zero, List.take_left' (length_records (hfit y List.mem_cons_self))]
    | succ k =>
      rw [List.take_succ_cons, sectionsLength_cons, ← List.drop_drop, List.drop_left' (length_records (hfit y List.mem_cons_self)),
        ih (fun z hz => hfit z (List.mem_cons_of_mem _ hz)) (by simpa using h)]

theorem sectionsLength_take_le (l : List DumpSection) (k : Nat) : sectionsLength (l.take k) ≤ sectionsLength l := by
  induction l generalizing k with
  | nil => rw [List.take_nil]
  | cons x l ih =>
    cases k with
    | zero => exact Nat.zero_le _
    | succ k => rw [List.take_succ_cons, sectionsLength_cons, sectionsLength_cons]; exact Nat.add_le_add_left (ih k) _

theorem length_head (d : Dump) : (packed d.headFields).length = 32 := length_packed _

theorem Dump.length_bytes {d : Dump} (h : RecordsFit d.sections) : d.bytes.length = d.length := by
  rw [Dump.bytes_eq, List.length_append, List.length_append, length_head, length_dumpDirectory, length_sectionBytes h, Dump.length, Nat.add_assoc]

/-- A field of the header. -/
theorem Dump.leAt_bytes (d : Dump) {k w v off : Nat} (h : d.headFields[k]? = some (w, v)) (hoff : widthOf (d.headFields.take k) = off) (hin : off + w ≤ 32) :
    leAt d.bytes off w = v % 256 ^ w := by
  rw [← leAt_packed h, hoff, leAt, leAt, slice, slice, Dump.bytes_eq, List.drop_append_of_le_length (by rw [length_head]; omega),
    List.take_append_of_le_length (by rw [List.length_drop, length_head]; omega)]

/-- R797: what a section's directory entry says. -/
theorem DumpSection.entry_reads (x : DumpSection) {off : Nat} (hoff : off < 2 ^ 64) :
    let entry := packed (x.entryFields off)
    leNat (entry.take 1) = x.kind % 256 ∧ leNat ((entry.drop 2).take 2) = x.recordBytes % 65536 ∧
      leNat ((entry.drop 4).take 4) = x.records.length % 2 ^ 32 ∧ leNat (entry.drop 8) = off := by
  intro entry
  have hlen : (entry.drop 8).length ≤ 8 := by rw [List.length_drop, length_entry]
  have hoff8 : leAt entry 8 8 = off % 256 ^ 8 := leAt_packed (k := 4) rfl
  rw [leAt, slice, List.take_of_length_le hlen] at hoff8
  exact ⟨leAt_packed (fs := x.entryFields off) (k := 0) rfl, leAt_packed (fs := x.entryFields off) (k := 2) rfl,
    leAt_packed (fs := x.entryFields off) (k := 3) rfl, hoff8.trans (Nat.mod_eq_of_lt hoff)⟩

theorem dumpBytes_spec (d : Dump) (hfit : RecordsFit d.sections) (hlen : d.length < 2 ^ 64) (hscope : d.scope < 256) (hnt : d.nt < 2 ^ 64) :
    d.bytes.length = d.length ∧ d.bytes.take 4 = [0x44, 0x55, 0x4D, 0x50] ∧ leNat ((d.bytes.drop 4).take 2) = 1 ∧
    leNat ((d.bytes.drop 6).take 1) = d.scope ∧ leNat ((d.bytes.drop 8).take 4) = d.sections.length % 2 ^ 32 ∧
    leNat ((d.bytes.drop 16).take 8) = d.nt ∧ leNat ((d.bytes.drop 24).take 8) = d.bytes.length ∧
    ∀ k x, d.sections[k]? = some x →
      let entry := (d.bytes.drop (32 + 16 * k)).take 16
      leNat (entry.take 1) = x.kind % 256 ∧ leNat ((entry.drop 2).take 2) = x.recordBytes % 65536 ∧
      leNat ((entry.drop 4).take 4) = x.records.length % 2 ^ 32 ∧
      (d.bytes.drop (leNat (entry.drop 8))).take (x.recordBytes * x.records.length) = x.records.flatten := by
  have hbytes := d.length_bytes hfit
  refine ⟨hbytes, ?_, d.leAt_bytes (k := 1) rfl rfl (by decide), ?_, d.leAt_bytes (k := 4) rfl rfl (by decide), ?_, ?_, fun k x hx => ?_⟩
  · rw [Dump.bytes_eq, packed, Dump.headFields, List.flatMap_cons, List.append_assoc, List.take_left' (length_leBytes ..)]
    decide
  · exact (d.leAt_bytes (k := 2) (off := 6) rfl rfl (by decide)).trans (Nat.mod_eq_of_lt hscope)
  · exact (d.leAt_bytes (k := 6) (off := 16) rfl rfl (by decide)).trans (Nat.mod_eq_of_lt hnt)
  · rw [hbytes]
    exact (d.leAt_bytes (k := 7) (off := 24) rfl rfl (by decide)).trans (Nat.mod_eq_of_lt hlen)
  · have hentry : (d.bytes.drop (32 + 16 * k)).take 16 = packed (x.entryFields (32 + 16 * d.sections.length + sectionsLength (d.sections.take k))) := by
      rw [← List.drop_drop, Dump.bytes_eq, List.drop_left' (length_head d), dumpDirectory_entry hx]
    have hin := sectionsLength_take_le d.sections k
    rw [Dump.length] at hlen
    obtain ⟨hkind, hsize, hcount, hoff⟩ := x.entry_reads (off := 32 + 16 * d.sections.length + sectionsLength (d.sections.take k)) (by omega)
    rw [hentry]
    refine ⟨hkind, hsize, hcount, ?_⟩
    rw [hoff, Nat.add_assoc, ← List.drop_drop, Dump.bytes_eq, List.drop_left' (length_head d), ← List.drop_drop, List.drop_left' (length_dumpDirectory ..)]
    exact sectionBytes_section hfit hx

end Sys2Proof.Machine
end

section
/-!
PROOFS. DUMP_TAKE and DUMP_STATUS (R795 to R798).
-/
open Sys2Proof Sys2Proof.Machine Sys2Proof.Claims
namespace Sys2Proof.Machine

/-! ### The sections of a dump -/

section sections
variable (s : State) {scope : Nat}

/-- Wings that a scope covers. -/
def State.scopeWings (s : State) (scope : Nat) : List Nat := if scope = 1 then List.range s.wings else if scope = 2 then [] else [scope - 3]

theorem State.isEmpty_scopeWings : (s.scopeWings scope).isEmpty = decide (scope = 2) := by
  unfold State.scopeWings State.wings
  by_cases h1 : scope = 1
  · rw [if_pos h1, h1]
    split <;> rfl
  · rw [if_neg h1]
    by_cases h2 : scope = 2
    · rw [if_pos h2, decide_eq_true h2]
      rfl
    · rw [if_neg h2, decide_eq_false h2]
      rfl

/-- R795: the kinds of the sections, with the bytes of a record of each. -/
theorem State.kinds_dumpSections : (s.dumpSections scope).map (fun x => (x.kind, x.recordBytes)) =
    [(1, 32)] ++ (if scope = 2 then [] else [(2, 32), (3, 64)]) ++ [(4, 16)] ++ (if scope ≤ 2 then [(5, 32), (6, 20)] else []) := by
  have hempty : (if scope = 1 then List.range s.wings else if scope = 2 then [] else [scope - 3]).isEmpty = decide (scope = 2) := s.isEmpty_scopeWings
  unfold State.dumpSections
  dsimp only
  rw [hempty]
  by_cases h2 : scope = 2 <;> by_cases hle : scope ≤ 2 <;> simp [h2, hle]

/-- R797: the record of a Stairwell entry of a Wing of the scope is among those of kind 2. -/
theorem State.stairRec_mem_dumpSections {w : Nat} (hw : w < s.wings) (hscope : scope = 1 ∨ scope = 3 + w) {y : Stair} (hy : y ∈ (s.wing w).stairs) :
    ∃ x ∈ s.dumpSections scope, x.kind = 2 ∧ s.stairRec w y ∈ x.records := by
  have hin : w ∈ s.scopeWings scope := by
    unfold State.scopeWings
    rcases hscope with rfl | rfl
    · exact List.mem_range.mpr hw
    · rw [if_neg (by omega), if_neg (by omega), Nat.add_sub_cancel_left]
      exact List.mem_singleton.mpr rfl
  have hne : ¬ (s.scopeWings scope).isEmpty = true := fun h => by
    rw [List.isEmpty_iff.mp h] at hin
    exact absurd hin List.not_mem_nil
  refine ⟨{ kind := 2, recordBytes := 32, records := (s.scopeWings scope).flatMap (fun w => (s.wing w).stairs.map (s.stairRec w)) }, ?_, rfl,
    List.mem_flatMap.mpr ⟨w, hin, List.mem_map_of_mem hy⟩⟩
  unfold State.dumpSections
  dsimp only
  rw [State.scopeWings] at hne ⊢
  rw [if_neg hne]
  exact List.mem_append_left _ (List.mem_append_left _ (List.mem_append_right _ List.mem_cons_self))

theorem State.take_stairRec (w : Nat) (y : Stair) :
    (s.stairRec w y).take 2 = leBytes 2 (y.index + (if (y.pred.bind (fun id => (s.wing w).stairOf id)).isSome then 32768 else 0)) := by
  rw [State.stairRec]
  simp only [List.append_assoc, Option.isSome_map]
  exact List.take_left' (length_leBytes ..)

end sections

/-! ### DUMP_TAKE -/

/-- R798: a fresh dump counts, and its free values are taken. -/
def State.dumped (s : State) (ws : List Wait) : State := State.bump (s.sampleWaits ws).nextFree.nextFree Ctr.hallDumps

/-- What the dump's data leave on their way to host memory. -/
theorem State.dumped_hostOut (s : State) (ws : List Wait) (fn ring addr : Nat) (data : Bytes) :
    let u := (s.dumped ws).hostOut fn ring addr data
    ((s.func fn).bounce = false → u.out = s.out ++ [onStream (s.func fn) fn (.hostWrite fn addr data)]) ∧
      ((s.func fn).bounce = true → ∃ es, u.out = s.out ++ es ∧ es.length = (data.length + 4095) / 4096 ∧ ∀ e ∈ es, ∃ a bytes, e = onStream (s.func fn) fn (.envelope fn a bytes)) ∧
      u.obs.dump = s.obs.dump ∧ u.tiles = s.tiles ∧ u.hall = s.hall ∧ u.ctr Ctr.hallDumps = rose (s.ctr Ctr.hallDumps) 1 := by
  intro u
  have hfunc : (s.dumped ws).func fn = s.func fn := rfl
  have hout : (s.dumped ws).out = s.out := rfl
  refine ⟨fun hb => ?_, fun hb => ?_, ?_, ?_, ?_, ?_⟩
  · rw [← hfunc] at hb ⊢
    rw [← hout]
    exact (congrArg State.out (State.hostOut_plain _ ring addr data hb)).trans (State.dma_out ..)
  · refine ⟨(List.range ((data.length + 4095) / 4096)).map ((s.func fn).chunkEnvelope fn ring addr data), ?_, ?_, fun e he => ?_⟩
    · have hsealed : u = (s.dumped ws).sealData fn ring addr data := if_pos (hfunc ▸ hb)
      rw [hsealed, State.out_sealData, hfunc, hout]
    · rw [List.length_map, List.length_range]
    · obtain ⟨k, -, rfl⟩ := List.mem_map.mp he
      exact ⟨_, _, rfl⟩
  · exact (congrArg Observe.dump (State.hostOut_obs (s.dumped ws) ..)).trans rfl
  · exact State.hostOut_tiles ..
  · exact State.hostOut_hall ..
  · exact (State.ctr_of_counters (State.hostOut_counters ..) _).trans (State.ctr_bump ..)

theorem dumpTake_spec {c : CmdIn} {scope hostAddr length : Nat} {ws : List Wait} {s : State} {cmd : Cmd} (h : Ready 0x0F01 (.dumpTake c scope hostAddr length ws) c s cmd) :
    let fn := if cmd.fn < 9 then cmd.fn else 0
    (scope = 0 → s.obs.dump = none → Fails (.dumpTake c 0 hostAddr length ws) c s 8) ∧
    (∀ d, scope = 0 → s.obs.dump = some d →
      (length < d.length → Gives (.dumpTake c 0 hostAddr length ws) s (s.complete c.ring { status := 2, detail := d.length })) ∧
      (d.length ≤ length → Succeeds (.dumpTake c 0 hostAddr length ws) c s
        (({ s with obs := { s.obs with dumpCopied := true } } : State).hostOut fn (s.localOf c.ring) hostAddr d.bytes))) ∧
    (1 ≤ scope → scope ≤ 2 + s.wings → let d := (s.sampleWaits ws).takeDump scope false
        (length < d.length → Gives (.dumpTake c scope hostAddr length ws) s (s.complete c.ring { status := 2, detail := d.length })) ∧
        (d.length ≤ length → Succeeds (.dumpTake c scope hostAddr length ws) c s ((s.dumped ws).hostOut fn (s.localOf c.ring) hostAddr d.bytes))) := by
  intro fn
  have hdata := dataHere_of_ready h
  refine ⟨fun hscope hnone => ?_, fun d hscope hd => ?_, fun hlow hhigh => ?_⟩
  · subst hscope
    refine ⟨0, congrArg Host.Outcome.next (runNow_refuses h (by simp) ?_)⟩
    dsimp only
    rw [if_pos rfl, hnone] <;> rfl
  · subst hscope
    refine ⟨fun hshort => congrArg Host.Outcome.next (runNow_completes h (by simp) hdata (t := s) ?_ (.inl rfl) (if_neg (Nat.succ_ne_zero 1))),
      fun hfits => congrArg Host.Outcome.next (runNow_completes h (by simp) hdata ?_ (.inl rfl) (if_pos rfl))⟩
    · dsimp only
      rw [if_pos rfl, hd]
      exact if_pos hshort
    · dsimp only
      rw [if_pos rfl, hd]
      exact if_neg (Nat.not_lt.mpr hfits)
  · intro d
    have hrange : ∀ b ∈ [(decide (2 + s.wings < scope), 0)], b.1 = false := by
      simp only [List.mem_singleton, forall_eq, decide_eq_false_iff_not]
      exact Nat.not_lt.mpr hhigh
    refine ⟨fun hshort => congrArg Host.Outcome.next (runNow_completes h hrange hdata (t := s) ?_ (.inl rfl) (if_neg (Nat.succ_ne_zero 1))),
      fun hfits => congrArg Host.Outcome.next (runNow_completes h hrange hdata ?_ (.inl rfl) (if_pos rfl))⟩
    · dsimp only
      rw [if_neg (by omega)]
      exact if_pos hshort
    · dsimp only
      rw [if_neg (by omega)]
      exact if_neg (Nat.not_lt.mpr hfits)

/-! ### DUMP_STATUS -/

theorem exec_dumpStatus {c : CmdIn} {s : State} {cmd : Cmd} (h : Ready 0x0F02 (.dumpStatus c) c s cmd) (hroom : Room c 16) :
    Replies (.dumpStatus c) c s s
      (leBytes 4 (match s.obs.dump with | none => 0 | some _ => if s.obs.dumpCopied then 3 else 1) ++ leBytes 4 (s.ctr Ctr.hallDumpsLost) ++
        leBytes 8 (match s.obs.dump with | none => 0 | some d => d.nt)) := by
  refine congrArg Host.Outcome.next (runRead_replies h ?_ ?_)
  · simpa only [List.length_append, length_leBytes] using hroom
  · cases s.obs.dump with
    | none => rfl
    | some d => cases s.obs.dumpCopied <;> rfl

theorem dumpsAreTaken : Claims.DumpsAreTaken := by
  refine ⟨fun c scope hostAddr length ws s cmd h => ?_, fun c s cmd h hroom => exec_dumpStatus h hroom, fun d hfit hlen hscope hnt => dumpBytes_spec d hfit hlen hscope hnt⟩
  intro fn
  obtain ⟨hnone, hlast, hfresh⟩ := dumpTake_spec h
  refine ⟨hnone, hlast, fun hlow hhigh => ?_⟩
  obtain ⟨hshort, hfits⟩ := hfresh hlow hhigh
  refine ⟨(s.sampleWaits ws).takeDump scope false, rfl, rfl, rfl, (s.sampleWaits ws).kinds_dumpSections, fun w hw hsc y hy => ?_, hshort,
    fun hlen => ⟨_, hfits hlen, s.dumped_hostOut ws fn _ hostAddr _⟩⟩
  obtain ⟨x, hx, hkind, hrec⟩ := (s.sampleWaits ws).stairRec_mem_dumpSections hw hsc hy
  exact ⟨x, hx, hkind, _, hrec, (s.sampleWaits ws).take_stairRec w y⟩

end Sys2Proof.Machine
end

section
/-!
PROOFS. Hangs and what follows them (R791, R792, R794, R796, R814).
-/
open Sys2Proof Sys2Proof.Machine Sys2Proof.Claims
namespace Sys2Proof.Machine

/-! ### What a trigger and a sticky bit leave of what the device observes -/

section observe
variable {α : Type} (f : Observe → α) (hf : ∀ (o : Observe) b, f { o with bufs := b } = f o)
include hf

theorem State.obs_trace (s : State) (b : Nat) (r : TraceRec) : f (s.trace b r).obs = f s.obs := by
  unfold State.trace
  dsimp only
  split
  · rfl
  · split
    · exact hf ..
    · rw [State.bump_obs]
      exact hf ..

theorem State.obs_fire (s : State) (bit : Nat) (bs : List Nat) : f (s.fire bit bs).obs = f s.obs := by
  refine foldl_keeps (fun s : State => f s.obs) _ (fun s b => ?_) bs s
  rw [State.fireIn]
  split
  · exact State.obs_trace f hf ..
  · rfl

theorem State.obs_setStickyIn (s : State) (b n : Nat) : f (s.setStickyIn b n).obs = f s.obs := by
  unfold State.setStickyIn
  dsimp only
  split
  · rfl
  · rw [State.obs_fire f hf]
    split
    · rw [State.obs_trace f hf, State.signalSticky_obs, State.refreshFaultN_obs]
    · rw [State.obs_trace f hf, State.obs_trace f hf, State.signalSticky_obs, State.refreshFaultN_obs]

end observe

/-! ### The first hang of an interval -/

section firstHang
variable (s : State)

/-- R792: a hang stands within the interval of an earlier one. -/
def State.hungRecently : Bool := match s.obs.lastHangNt with | some t => decide (s.nt < t + 16000000) | none => false

/-- The sticky bit of the first hang, with its trigger. -/
def State.hangSignalled : State := (s.setSticky 192).fire 5 s.allBufs

/-- The first hang's instant and its wait-for graph. -/
def State.hangSeen : State :=
  { s.hangSignalled with obs := { s.hangSignalled.obs with lastHangNt := some s.hangSignalled.nt, graph := some s.hangSignalled.buildGraph } }

theorem State.firstHang_eq : s.firstHang = if s.hungRecently then s else s.hangSeen.autoDump := rfl

theorem State.hungRecently_of_within (h : ∃ l, s.obs.lastHangNt = some l ∧ s.nt < l + 16000000) : s.hungRecently = true := by
  obtain ⟨l, hl, hlt⟩ := h
  rw [State.hungRecently, hl]
  exact decide_eq_true hlt

theorem State.hungRecently_of_after (h : ∀ l, s.obs.lastHangNt = some l → l + 16000000 ≤ s.nt) : s.hungRecently = false := by
  rw [State.hungRecently]
  cases hl : s.obs.lastHangNt with
  | none => rfl
  | some l => exact decide_eq_false (Nat.not_lt.mpr (h l hl))

theorem State.nt_hangSignalled : s.hangSignalled.nt = s.nt := by
  rw [State.nt, State.hangSignalled, State.fire_time, State.setSticky_time, State.nt]

theorem State.obs_hangSignalled {α : Type} (f : Observe → α) (hf : ∀ (o : Observe) b, f { o with bufs := b } = f o) : f s.hangSignalled.obs = f s.obs :=
  (State.obs_fire f hf ..).trans (State.obs_setStickyIn f hf s 0 192)

theorem State.autoDump_keeps {α : Type} (g : State → α) (hobs : ∀ (s : State) d c, g { s with obs := { s.obs with dump := d, dumpCopied := c } } = g s)
    (hfree : ∀ s, g (State.nextFree s) = g s) (hbump : ∀ s id, id = Ctr.hallDumps ∨ id = Ctr.hallDumpsLost → g (State.bump s id) = g s) : g s.autoDump = g s := by
  unfold State.autoDump
  dsimp only
  split
  · exact hbump _ _ (.inr rfl)
  · rw [hbump _ _ (.inl rfl), hfree, hfree, hobs]

/-- R796: a dump is stored, unless one is that has not been copied. -/
theorem State.obs_autoDump : (s.obs.dump = none ∨ s.obs.dumpCopied = true → s.autoDump.obs.dumpCopied = false ∧ s.autoDump.obs.dump = some (s.takeDump 1 true)) ∧
    (s.obs.dump ≠ none → s.obs.dumpCopied = false → s.autoDump.obs.dump = s.obs.dump ∧ s.autoDump.ctr Ctr.hallDumpsLost = rose (s.ctr Ctr.hallDumpsLost) 1) := by
  unfold State.autoDump
  dsimp only
  refine ⟨fun h => ?_, fun hsome hcopied => ?_⟩
  · rw [if_neg (by rcases h with h | h <;> simp [h])]
    exact ⟨rfl, rfl⟩
  · rw [if_pos ⟨Option.isSome_iff_ne_none.mpr hsome, by rw [hcopied]; decide⟩]
    exact ⟨rfl, State.ctr_bump ..⟩

/-- What the first hang leaves alone. -/
theorem State.firstHang_keeps {α : Type} (g : State → α) (hsticky : ∀ s, g (State.setSticky s 192) = g s) (hfire : ∀ s bs, g (State.fire s 5 bs) = g s)
    (hobs : ∀ (s : State) l w d c, g { s with obs := { s.obs with lastHangNt := l, graph := w, dump := d, dumpCopied := c } } = g s)
    (hfree : ∀ s, g (State.nextFree s) = g s) (hbump : ∀ s id, id = Ctr.hallDumps ∨ id = Ctr.hallDumpsLost → g (State.bump s id) = g s) : g s.firstHang = g s := by
  rw [State.firstHang_eq]
  split
  · rfl
  · rw [State.autoDump_keeps _ g (fun u d c => hobs u _ _ d c) hfree hbump]
    exact (hobs s.hangSignalled _ _ _ _).trans ((hfire ..).trans (hsticky s))

/-- R792: what the first hang of an interval leaves. -/
theorem State.firstHang_first (h : s.hungRecently = false) :
    s.firstHang.stickyBit 192 = true ∧ s.firstHang.obs.lastHangNt = some s.nt ∧ (∃ g, s.firstHang.obs.graph = some g ∧ g.nt = s.nt) ∧
      (s.obs.dump = none ∨ s.obs.dumpCopied = true → s.firstHang.obs.dumpCopied = false ∧
        ∃ d : Dump, s.firstHang.obs.dump = some d ∧ d.automatic = true ∧ d.scope = 1 ∧ d.nt = s.nt) ∧
      (s.obs.dump ≠ none → s.obs.dumpCopied = false → s.firstHang.obs.dump = s.obs.dump ∧
        s.firstHang.ctr Ctr.hallDumpsLost = rose (s.ctr Ctr.hallDumpsLost) 1) := by
  have hfirst : s.firstHang = s.hangSeen.autoDump := by rw [State.firstHang_eq, h, if_neg Bool.false_ne_true]
  have hnt := s.nt_hangSignalled
  have hsticky : s.hangSeen.stickyBit 192 = true := by
    have hbit : s.hangSeen.stickyBit 192 = (s.setSticky 192).stickyBit 192 := State.stickyBit_of_sticky (State.fire_sticky ..) _
    exact hbit.trans (State.stickyBit_setSticky_self s (by decide))
  have hdump : s.hangSeen.obs.dump = s.obs.dump := s.obs_hangSignalled Observe.dump fun _ _ => rfl
  have hcopied : s.hangSeen.obs.dumpCopied = s.obs.dumpCopied := s.obs_hangSignalled Observe.dumpCopied fun _ _ => rfl
  have hlost : s.hangSeen.ctr Ctr.hallDumpsLost = s.ctr Ctr.hallDumpsLost :=
    (State.ctr_fire_other _ 5 _ (Ctr.ident_ne_bufCtr_of_index 1 0 (by decide) (by decide) (by decide) (by decide))).trans
      (State.ctr_setStickyIn_other s 0 192 (Ctr.ident_ne_bufCtr_of_index 1 0 (by decide) (by decide) (by decide) (by decide)) (Ctr.ident_ne_funcMsixSent 1 0 (by decide) (by decide)))
  have hseen : s.hangSeen.obs.lastHangNt = some s.nt ∧ (∃ g, s.hangSeen.obs.graph = some g ∧ g.nt = s.nt) ∧ s.hangSeen.nt = s.nt :=
    ⟨congrArg some hnt, ⟨_, rfl, hnt⟩, hnt⟩
  rw [hfirst, ← hdump, ← hcopied, ← hlost]
  generalize s.hangSeen = u at hsticky hseen
  obtain ⟨hlast, hgraph, hunt⟩ := hseen
  obtain ⟨hstored, hkept⟩ := u.obs_autoDump
  have hobs {α : Type} (f : Observe → α) (hf : ∀ (o : Observe) d c, f { o with dump := d, dumpCopied := c } = f o) : f u.autoDump.obs = f u.obs :=
    u.autoDump_keeps (fun u => f u.obs) (fun _ _ _ => hf ..) (fun _ => rfl) fun _ _ _ => rfl
  refine ⟨?_, ?_, ?_, fun h => ?_, hkept⟩
  · exact (u.autoDump_keeps (State.stickyBit · 192) (fun _ _ _ => rfl) (fun _ => rfl) fun _ _ _ => rfl).trans hsticky
  · exact (hobs Observe.lastHangNt fun _ _ _ => rfl).trans hlast
  · obtain ⟨g, hg, hgnt⟩ := hgraph
    exact ⟨g, (hobs Observe.graph fun _ _ _ => rfl).trans hg, hgnt⟩
  · obtain ⟨hc, hd⟩ := hstored h
    exact ⟨hc, _, hd, rfl, rfl, hunt⟩

end firstHang

/-! ### HANG -/

/-- The device behind the first part of a hang, with the number of hung engines counted. -/
def State.hangCounted (s : State) (n : Nat) : State := s.firstHang.bumpN Ctr.hallHangs n

theorem exec_hang {s : State} (hfree : s.hallFree = true) (hung : List Nat) (ws : List Wait) :
    Gives (.hang hung ws) s (if (hung.filter (s.sampleWaits ws).hangs).isEmpty then s
      else (hung.filter (s.sampleWaits ws).hangs).foldl (fun s n => s.unhang n) ((s.sampleWaits ws).hangCounted (hung.filter (s.sampleWaits ws).hangs).length)) :=
  congrArg Host.Outcome.next (State.whenFree_of_free hfree _)

section counted
variable (s : State) (n : Nat)

theorem State.hangCounted_keeps {α : Type} (g : State → α) (hsticky : ∀ s, g (State.setSticky s 192) = g s) (hfire : ∀ s bs, g (State.fire s 5 bs) = g s)
    (hobs : ∀ (s : State) l w d c, g { s with obs := { s.obs with lastHangNt := l, graph := w, dump := d, dumpCopied := c } } = g s)
    (hfree : ∀ s, g (State.nextFree s) = g s) (hbump : ∀ s id, g (State.bump s id) = g s) (hcount : ∀ s, g (State.bumpN s Ctr.hallHangs n) = g s) :
    g (s.hangCounted n) = g s :=
  (hcount _).trans (s.firstHang_keeps g hsticky hfire hobs hfree fun _ _ _ => hbump ..)

theorem State.obs_hangCounted {α : Type} (f : Observe → α) (hf : ∀ (o : Observe) b, f { o with bufs := b } = f o)
    (hhang : ∀ (o : Observe) l w d c, f { o with lastHangNt := l, graph := w, dump := d, dumpCopied := c } = f o) : f (s.hangCounted n).obs = f s.obs :=
  s.hangCounted_keeps n (fun u => f u.obs) (fun u => State.obs_setStickyIn f hf u 0 192) (fun u bs => State.obs_fire f hf u 5 bs) (fun _ _ _ _ _ => hhang ..)
    (fun _ => rfl) (fun _ _ => rfl) fun _ => rfl

/-- R792: the hung engines are counted. -/
theorem State.ctr_hangCounted : (s.hangCounted n).ctr Ctr.hallHangs = satAdd max64 (s.ctr Ctr.hallHangs) n := by
  refine (State.ctr_bumpN ..).trans (congrArg (satAdd max64 · n) ?_)
  have hbuf := Ctr.ident_ne_bufCtr_of_index 1 0 (k := 226) (by decide) (by decide) (by decide) (by decide)
  refine s.firstHang_keeps (State.ctr · Ctr.hallHangs) (fun u => State.ctr_setStickyIn_other u 0 192 hbuf (Ctr.ident_ne_funcMsixSent 1 0 (by decide) (by decide)))
    (fun u bs => State.ctr_fire_other u 5 bs hbuf) (fun _ _ _ _ _ => rfl) (fun _ => rfl) fun u id hid => State.ctr_bump_other u ?_
  rcases hid with rfl | rfl <;> decide

theorem State.tiles_hangCounted : (s.hangCounted n).tiles = s.tiles :=
  s.hangCounted_keeps n State.tiles (fun u => u.setSticky_tiles 192) (fun u bs => u.fire_tiles 5 bs) (fun _ _ _ _ _ => rfl) (fun _ => rfl) (fun _ _ => rfl) fun _ => rfl

theorem State.hall_hangCounted : (s.hangCounted n).hall = s.hall :=
  s.hangCounted_keeps n State.hall (fun u => u.setSticky_hall 192) (fun u bs => u.fire_hall 5 bs) (fun _ _ _ _ _ => rfl) (fun _ => rfl) (fun _ _ => rfl) fun _ => rfl

theorem State.part_hangCounted : (s.hangCounted n).part = s.part :=
  s.hangCounted_keeps n State.part (fun u => u.setSticky_part 192) (fun u bs => u.fire_part 5 bs) (fun _ _ _ _ _ => rfl) (fun _ => rfl) (fun _ _ => rfl) fun _ => rfl

theorem State.wing_hangCounted (w : Nat) : (s.hangCounted n).wing w = s.wing w :=
  s.hangCounted_keeps n (State.wing · w) (fun u => State.wing_of_wings (u.setSticky_wing0 192) (u.setSticky_wing1 192) w)
    (fun u bs => State.wing_of_wings (u.fire_wing0 5 bs) (u.fire_wing1 5 bs) w) (fun _ _ _ _ _ => rfl) (fun _ => rfl) (fun _ _ => rfl) fun _ => rfl

end counted

/-- R814: an engine or a control core of the Hall runs its work again from its input. -/
theorem State.unhang_hall (s : State) {n : Nat} (h : nodeKind n = 1) : s.unhang n = s := by
  unfold State.unhang
  dsimp only
  rw [h] <;> rfl

theorem State.foldl_unhang_hall (s : State) {hs : List Nat} (h : ∀ n ∈ hs, nodeKind n = 1) : hs.foldl (fun s n => s.unhang n) s = s := by
  induction hs with
  | nil => rfl
  | cons n hs ih =>
    rw [List.foldl_cons, s.unhang_hall (h n List.mem_cons_self)]
    exact ih fun m hm => h m (List.mem_cons_of_mem _ hm)

theorem hangHall_spec {s : State} (hfree : s.hallFree = true) (hung : List Nat) (ws : List Wait) :
    let t := s.sampleWaits ws
    let hs := hung.filter (fun n => (t.waitOf n).reason != 0x39 && (t.waitOf n).reason != 0x3B)
    (hs = [] → Gives (.hang hung ws) s s) ∧
    (hs ≠ [] → (∀ n ∈ hs, nodeKind n = 1) → ∃ u : State, Gives (.hang hung ws) s u ∧
      u.ctr Ctr.hallHangs = rose (s.ctr Ctr.hallHangs) hs.length ∧ u.obs.waiting = t.obs.waiting ∧ u.tiles = s.tiles ∧ u.hall = s.hall ∧
      ((∃ l, s.obs.lastHangNt = some l ∧ s.nt < l + 16000000) →
        u.obs.graph = s.obs.graph ∧ u.obs.dump = s.obs.dump ∧ u.obs.lastHangNt = s.obs.lastHangNt ∧ u.sticky = s.sticky) ∧
      ((∀ l, s.obs.lastHangNt = some l → l + 16000000 ≤ s.nt) →
        u.stickyBit 192 = true ∧ u.obs.lastHangNt = some s.nt ∧ (∃ g, u.obs.graph = some g ∧ g.nt = s.nt) ∧
        (s.obs.dump = none ∨ s.obs.dumpCopied = true → u.obs.dumpCopied = false ∧
          ∃ d : Dump, u.obs.dump = some d ∧ d.automatic = true ∧ d.scope = 1 ∧ d.nt = s.nt) ∧
        (s.obs.dump ≠ none → s.obs.dumpCopied = false → u.obs.dump = s.obs.dump ∧
          u.ctr Ctr.hallDumpsLost = rose (s.ctr Ctr.hallDumpsLost) 1))) := by
  intro t hs
  have hstep : Gives (.hang hung ws) s (if hs.isEmpty then s else hs.foldl (fun s n => s.unhang n) (t.hangCounted hs.length)) := exec_hang hfree hung ws
  refine ⟨fun hnil => ?_, fun hne hkinds => ⟨t.hangCounted hs.length, ?_, ?_, ?_, ?_, ?_, fun hwithin => ?_, fun hafter => ?_⟩⟩
  · rwa [hnil, List.isEmpty_nil, if_pos rfl] at hstep
  · rwa [if_neg (by rwa [List.isEmpty_iff]), State.foldl_unhang_hall _ hkinds] at hstep
  · exact (t.ctr_hangCounted _).trans ((satAdd_eq_min ..).trans (if_neg (List.length_eq_zero_iff.not.mpr hne)).symm)
  · exact t.obs_hangCounted _ Observe.waiting (fun _ _ => rfl) fun _ _ _ _ _ => rfl
  · exact t.tiles_hangCounted _
  · exact t.hall_hangCounted _
  · have hfirst : t.firstHang = t := by rw [State.firstHang_eq, t.hungRecently_of_within hwithin, if_pos rfl]
    have hu : t.hangCounted hs.length = t.bumpN Ctr.hallHangs hs.length := congrArg (State.bumpN · Ctr.hallHangs hs.length) hfirst
    rw [hu]
    exact ⟨rfl, rfl, rfl, rfl⟩
  · obtain ⟨hsticky, hlast, hgraph, hdump, hlost⟩ := t.firstHang_first (t.hungRecently_of_after hafter)
    refine ⟨hsticky, hlast, hgraph, hdump, fun hsome hcopied => ?_⟩
    obtain ⟨hkept, hrose⟩ := hlost hsome hcopied
    exact ⟨hkept, (State.ctr_bumpN_other _ _ (by decide)).trans hrose⟩

/-! ### A hung engine of a tile, and of a Wing's Cellar -/

/-- A node whose wait counts is the one that a hang of it alone holds. -/
theorem exec_hang_one {s : State} (hfree : s.hallFree = true) {n : Nat} {ws : List Wait} (h39 : ((s.sampleWaits ws).waitOf n).reason ≠ 0x39)
    (h3B : ((s.sampleWaits ws).waitOf n).reason ≠ 0x3B) : Gives (.hang [n] ws) s (((s.sampleWaits ws).hangCounted 1).unhang n) := by
  have hhangs : (s.sampleWaits ws).hangs n = true := by rw [State.hangs, bne_iff_ne.mpr h39, bne_iff_ne.mpr h3B]; rfl
  have hstep := exec_hang hfree [n] ws
  rwa [List.filter_cons_of_pos hhangs, List.filter_nil] at hstep

theorem node_of_nodeId {kind inst sub : Nat} (hkind : kind < 16) (hinst : inst < 4096) :
    nodeKind (nodeId kind inst sub) = kind ∧ nodeInst (nodeId kind inst sub) = inst ∧ nodeSub (nodeId kind inst sub) = sub := by
  unfold nodeKind nodeInst nodeSub nodeId
  omega

theorem State.unhang_tile (s : State) {i e id : Nat} (hi : i < 4096) (hwords : ((s.tile i).engineWords e).map (·.batch) = [id]) (he : e ≠ 0) :
    s.unhang (nodeId 3 i e) = s.faultBatch id 4 false := by
  obtain ⟨hkind, hinst, hsub⟩ := node_of_nodeId (kind := 3) (sub := e) (by decide) hi
  have hheld : s.heldBatches i e = [id] := by
    rw [State.heldBatches, hwords, if_neg he]
    rfl
  unfold State.unhang
  dsimp only
  rw [hkind, hinst, hsub, hheld] <;> rfl

theorem State.unhang_cellar (s : State) {w : Nat} (hw : w < s.wings) (sub : Nat) : s.unhang (nodeId 2 w sub) = s.startRecovery w := by
  have hlt : w < 4096 := by
    have hwings : s.wings ≤ 2 := by rw [State.wings]; split <;> decide
    omega
  obtain ⟨hkind, hinst, -⟩ := node_of_nodeId (kind := 2) (sub := sub) (by decide) hlt
  unfold State.unhang
  dsimp only
  rw [hkind, hinst]
  exact if_pos hw

theorem hangTile_spec {s : State} (hfree : s.hallFree = true) {w id e : Nat} {ws : List Wait} {b : Batch}
    (h39 : ((s.sampleWaits ws).waitOf (nodeId 3 (512 * w) e)).reason ≠ 0x39) (h3B : ((s.sampleWaits ws).waitOf (nodeId 3 (512 * w) e)).reason ≠ 0x3B) (hw : w < 2)
    (hb : s.batchOf id = some b) (haborted : b.aborted = false) (hwords : ((s.tile (512 * w)).engineWords e).map (·.batch) = [id]) (he : e ≠ 0) :
    ∃ u : State, Gives (.hang [nodeId 3 (512 * w) e] ws) s u ∧ ∃ d : Batch, u.batchOf id = some d ∧ d.aborted = true ∧
      d.faults = (if 2 ≤ b.issues then b.faults + 1 else b.faults) := by
  have htile : ((s.sampleWaits ws).hangCounted 1).tile (512 * w) = s.tile (512 * w) := congrArg (fun ts : Tab Tile => mget {} ts (512 * w)) ((s.sampleWaits ws).tiles_hangCounted 1)
  have hbatch : ((s.sampleWaits ws).hangCounted 1).batchOf id = some b :=
    (State.batchOf_of_batches (fun v => congrArg Wing.batches ((s.sampleWaits ws).wing_hangCounted 1 v)) id).trans hb
  refine ⟨_, exec_hang_one hfree h39 h3B, b.faulted false, ?_, rfl, ?_⟩
  · rw [State.unhang_tile _ (by omega) (htile ▸ hwords) he, State.batchOf_faultBatch, if_pos rfl, hbatch, Option.map_some, haborted, if_neg Bool.false_ne_true]
  · rw [Batch.faulted]
    simp

theorem hangCellar_spec {s : State} (hfree : s.hallFree = true) {w sub : Nat} {ws : List Wait} (hw : w < s.wings)
    (h39 : ((s.sampleWaits ws).waitOf (nodeId 2 w sub)).reason ≠ 0x39) (h3B : ((s.sampleWaits ws).waitOf (nodeId 2 w sub)).reason ≠ 0x3B) :
    ∃ u : State, Gives (.hang [nodeId 2 w sub] ws) s u ∧ w ∈ u.time.wingStopped := by
  have hwings : ((s.sampleWaits ws).hangCounted 1).wings = s.wings := by
    rw [State.wings, State.is4840, State.part_hangCounted]
    rfl
  refine ⟨_, exec_hang_one hfree h39 h3B, ?_⟩
  rw [State.unhang_cellar _ (hwings.symm ▸ hw)]
  exact List.contains_iff_mem.mp (State.startRecovery_spec _ w).1

/-! ### WAITFOR_READ (R794) -/

theorem waitforRead_spec {c : CmdIn} {s : State} {cmd : Cmd} (h : Ready 0x0F03 (.waitforRead c) c s cmd) :
    (s.obs.graph = none → Fails (.waitforRead c) c s 8) ∧
    (∀ g, s.obs.graph = some g → Room c g.bytes.length → Replies (.waitforRead c) c s s g.bytes) := by
  refine ⟨fun hnone => ⟨0, congrArg Host.Outcome.next (runRead_completes h (by simp) ?_ (.inl rfl))⟩, fun g hg hroom =>
    congrArg Host.Outcome.next (runRead_replies h hroom ?_)⟩
  · rw [hnone] <;> rfl
  · rw [hg]

theorem hangsAreHandled : Claims.HangsAreHandled := by
  refine ⟨fun hung ws s hfree _ => hangHall_spec hfree hung ws, fun n w id e ws s b hfree => ?_, fun n w sub ws s hfree hw hn hreason => ?_,
    fun c s cmd h => waitforRead_spec h⟩
  · intro t h39 h3B hn hw _ hb haborted _ hwords
    subst hn
    exact hangTile_spec hfree h39 h3B hw hb haborted hwords.1 hwords.2
  · subst hn
    exact hangCellar_spec hfree hw hreason.1 hreason.2

/-- Settles O47, by what a dump's bytes hold and, for HANG, by the first hang of an interval and what each kind of node leads to. -/
theorem dumpsAndHangs : Obligations.DumpsAndHangs := ⟨dumpsAreTaken, hangsAreHandled⟩

end Sys2Proof.Machine
end

section
/-!
PROOFS. Decisions of the pair: how they are recorded, voted on and take effect (R741, R743, R744, R748).
-/
open Sys2Proof Sys2Proof.Machine Sys2Proof.Claims
namespace Sys2Proof.Machine

/-! ### Decisions that wait for their instant -/

section decided
variable {s t : State} {d : Decision}

theorem State.enqueue_of_room {b : Nat} (h : (s.queueOf b).length < 1024) (o : Occ) : s.enqueue b o = s.setQueue b (insertOcc o (s.queueOf b)) := if_pos h

theorem State.not_queueFull {b : Nat} (h : (s.queueOf b).length < 1024) : s.queueFull b = false := decide_eq_false (Nat.not_le.mpr h)

/-- R741: a decision that joins, from a state with the same decisions and event queues. -/
theorem decided_addDecision (kind : Nat) (hpair : t.pair.decisions = s.pair.decisions) (htime : t.time = s.time) (hroom : (s.queueOf (blkCellar d.wing)).length < 1024) :
    Decided s (t.addDecision kind d) kind d := by
  have hqueue (b : Nat) : State.queueOf { t with pair := { t.pair with decisions := t.pair.decisions ++ [d] } } b = s.queueOf b := State.queueOf_of_time htime b
  refine ⟨?_, ?_⟩
  · exact (congrArg Pair.decisions (State.enqueue_pair ..)).trans (congrArg (· ++ [d]) hpair)
  · rw [State.addDecision, State.queueOf_enqueue_of_room (by rw [hqueue]; exact hroom), hqueue]
    exact insertOcc_perm _ _

end decided

/-! ### What a slot's change leaves -/

theorem State.changeSlot_leaves {α : Type} (g : State → α) (hwing : ∀ s w x, g (State.setWing s w x) = g s) (hhealth : ∀ (s : State) h, g { s with health := h } = g s)
    (s : State) (p h e : Nat) (new : FlowEntry) : g (s.changeSlot p h e new) = g s := by
  have hput (s : State) (x : FlowEntry) : g (s.putEntry h x) = g s := hwing ..
  have hclear (s : State) : g (s.clearLive p h) = g s := (hwing ..).trans ((hwing ..).trans (hhealth ..))
  have hentry (s : State) (gen : Nat) : g (s.entryChanged h gen e) = g s := hwing ..
  unfold State.changeSlot
  dsimp only
  split
  · split
    · rw [hclear, hentry, hput]
    · rw [hentry, hput]
  · exact hput ..

/-! ### Messages that are acted on (R743, R744, R748) -/

section messages
variable {s : State}

theorem insert_spec {seq e h : Nat} {data : Bytes} (hmsg : s.nextMsg = some (seq, .insert e h data)) (hpending : s.unitPending h = false)
    (hfree : s.wingFree (hWing h) = true) (hroom : (s.queueOf (blkCellar (hWing h))).length < 1024) :
    ∃ t : State, Gives .insert s t ∧ t.entryAt h = entryOf data ∧ t.pair.inbox = s.pair.inbox.tail ∧
      Decided s t evInsertApply { e := e, seq := seq, wing := hWing h, partition := (entryOf data).partition, body := .insert e h data } := by
  have hstep : Gives .insert s (((s.popMsg.changeSlot (entryOf data).partition h e (entryOf data)).putEntry h (entryOf data)).addDecision evInsertApply
      { e := e, seq := seq, wing := hWing h, partition := (entryOf data).partition, body := .insert e h data }) := by
    change execInsert s = _
    rw [execInsert, hmsg]
    exact congrArg Host.Outcome.next (if_neg (by rw [hpending, hfree, State.not_queueFull hroom]; decide))
  have hchanged (g : State → Pair × TimeBase) (hg : ∀ s w x, g (State.setWing s w x) = g s) (hh : ∀ (s : State) h, g { s with health := h } = g s) :
      g ((s.popMsg.changeSlot (entryOf data).partition h e (entryOf data)).putEntry h (entryOf data)) = g s.popMsg :=
    (hg ..).trans (State.changeSlot_leaves g hg hh ..)
  have hkept := hchanged (fun s => (s.pair, s.time)) (fun s w x => by rw [s.setWing_pair, s.setWing_time]) fun _ _ => rfl
  have hentry := (s.popMsg.changeSlot (entryOf data).partition h e (entryOf data)).entryAt_putEntry_self h (entryOf data)
  generalize (s.popMsg.changeSlot (entryOf data).partition h e (entryOf data)).putEntry h (entryOf data) = u at hstep hkept hentry
  obtain ⟨hpair, htime⟩ := Prod.mk.inj hkept
  refine ⟨_, hstep, ?_, ?_, decided_addDecision evInsertApply ((congrArg Pair.decisions hpair).trans rfl) htime hroom⟩
  · rw [State.addDecision]
    refine Eq.trans ?_ hentry
    rw [State.entryAt, State.entryAt, State.wing_of_wings (State.enqueue_wing0 ..) (State.enqueue_wing1 ..)]
    rfl
  · exact (congrArg Pair.inbox (State.enqueue_pair ..)).trans (congrArg Pair.inbox hpair)

theorem tableChange_spec {seq e w p : Nat} {u : PairUnit} (hmsg : s.nextMsg = some (seq, .tableChange e w p u)) (hfree : s.hallFree = true)
    (hroom : (s.queueOf (blkCellar w)).length < 1024) :
    ∃ t : State, Gives .tableChange s t ∧ t.pair.inbox = s.pair.inbox.tail ∧ t.wing0 = s.wing0 ∧ t.wing1 = s.wing1 ∧
      Decided s t evTableApply { e := e, seq := seq, wing := w, partition := p, body := .tableChange e w p u } := by
  have hstep : Gives .tableChange s (s.popMsg.addDecision evTableApply { e := e, seq := seq, wing := w, partition := p, body := .tableChange e w p u }) := by
    refine congrArg Host.Outcome.next ((State.whenFree_of_free hfree _).trans ?_)
    rw [hmsg]
    exact if_neg (by rw [State.not_queueFull hroom]; decide)
  exact ⟨_, hstep, congrArg Pair.inbox (State.enqueue_pair ..), State.enqueue_wing0 .., State.enqueue_wing1 .., decided_addDecision evTableApply rfl rfl hroom⟩

theorem onlyPair_pairSend (s : State) (mk : Nat → PairMsg) : OnlyPair s (s.pairSend mk).2.2 := s.pairSend_frame mk

theorem prepare_spec {seq : Nat} {m : MirrorCmd} (hmsg : s.nextMsg = some (seq, .prepare m)) (hfree : s.hallFree = true) (hpair : s.paired = true) :
    let u : State := { s with pair := { s.pair with inbox := s.pair.inbox.tail } }
    let st := ((m.headFault u).orElse (fun _ => m.fault u 0 none)).getD { status := 0 }
    ∃ t : State, Gives .prepare s t ∧ OnlyPair s t ∧ SentOne s t (.vote seq st.status st.detail) ∧
      t.pair.voted = (if st.status = 0 then [(seq, m)] else s.pair.voted) := by
  intro u st
  have hstep : Gives .prepare s (if st.status = 0 then
      State.modPair (u.pairSend fun _ => .vote seq st.status st.detail).2.2 (fun x => { x with voted := [(seq, m)] }) else (u.pairSend fun _ => .vote seq st.status st.detail).2.2) := by
    refine congrArg Host.Outcome.next ((State.whenFree_of_free hfree _).trans ?_)
    rw [hmsg]
    exact if_neg (by rw [show s.popMsg.paired = true from hpair]; decide)
  have hsent := sentOne_pairSend u (.vote seq st.status st.detail)
  have hvoted : (u.pairSend fun _ => .vote seq st.status st.detail).2.2.pair.voted = s.pair.voted := rfl
  have honly : OnlyPair s (u.pairSend fun _ => .vote seq st.status st.detail).2.2 := u.pairSend_frame _
  generalize (u.pairSend fun _ => .vote seq st.status st.detail).2.2 = v at hstep hsent hvoted honly
  refine ⟨_, hstep, ?_⟩
  split
  · refine ⟨?_, hsent, rfl⟩
    rw [honly]
    rfl
  · exact ⟨honly, hsent, hvoted⟩

theorem vote_spec {n prep status detail : Nat} {k : Prepared} (hmsg : s.nextMsg = some (n, .vote prep status detail)) (hfree : s.hallFree = true) (hpair : s.paired = true)
    (hprep : s.pair.prepared = some k) (hk : k.seq = prep) (hnoRoom : s.noRoom 0 = false) :
    let u : State := { s with pair := { s.pair with inbox := s.pair.inbox.tail, prepared := none } }
    (status ≠ 0 → Gives .vote s (u.complete k.ring { status := status, detail := detail, info := 1 })) ∧
    (status = 0 → (s.queueOf (blkCellar 0)).length < 1024 → ∃ t : State, Gives .vote s (t.complete k.ring { status := 0 }) ∧
      t.pair.prepared = none ∧ nextFrame s [(s.pair.sentSeq + 1, .commit k.seq (nextTx s + 320000))] ∈ t.out ∧
      Decided s t evTableApply { e := nextTx s + 320000, seq := s.pair.sentSeq + 1, wing := 0, partition := 0, body := .prepare k.cmd }) := by
  intro u
  have hstep : Gives .vote s (if status = 0 then u.commitPrepared k else u.complete k.ring { status := status, detail := detail, info := 1 }) := by
    refine congrArg Host.Outcome.next ((State.whenFree_of_free hfree _).trans ?_)
    rw [hmsg]
    refine (if_neg (by rw [hnoRoom]; decide)).trans ?_
    have hpopped : s.popMsg.pair.prepared = some k := hprep
    dsimp only
    rw [hpopped]
    exact if_neg (not_or.mpr ⟨not_not.mpr hk, not_not.mpr hpair⟩)
  refine ⟨fun hne => ?_, fun hok hroom => ?_⟩
  · rwa [if_neg hne] at hstep
  · rw [if_pos hok, State.commitPrepared] at hstep
    have hout : (u.pairSend fun e => .commit k.seq e).2.2.out = s.out ++ [nextFrame s [(s.pair.sentSeq + 1, .commit k.seq (nextTx s + 320000))]] := rfl
    have hprepared : (u.pairSend fun e => .commit k.seq e).2.2.pair.prepared = none := rfl
    have hdec : (u.pairSend fun e => .commit k.seq e).2.2.pair.decisions = s.pair.decisions := rfl
    have htime : (u.pairSend fun e => .commit k.seq e).2.2.time = s.time := rfl
    have hfst : (u.pairSend fun e => .commit k.seq e).1 = s.pair.sentSeq + 1 ∧ (u.pairSend fun e => .commit k.seq e).2.1 = nextTx s + 320000 := ⟨rfl, rfl⟩
    rw [hfst.1, hfst.2] at hstep
    generalize (u.pairSend fun e => .commit k.seq e).2.2 = v at hstep hout hprepared hdec htime
    refine ⟨_, hstep, (congrArg Pair.prepared (State.enqueue_pair ..)).trans hprepared, ?_, decided_addDecision evTableApply hdec htime hroom⟩
    rw [State.addDecision, State.enqueue_of_room]
    · change _ ∈ v.out
      rw [hout]
      exact List.mem_append_right _ (List.mem_singleton.mpr rfl)
    · exact (congrArg List.length (State.queueOf_of_time htime (blkCellar 0))).trans_lt hroom

theorem voteTimeout_spec {k : Prepared} (hprep : s.pair.prepared = some k) (hfree : s.hallFree = true) :
    (s.nt < k.sentNt + 16000000 → Gives .voteTimeout s s) ∧
    (k.sentNt + 16000000 ≤ s.nt → Gives .voteTimeout s (({ s with pair := { s.pair with prepared := none } } : State).complete k.ring { status := 6 })) := by
  have hstep : Gives .voteTimeout s (if s.nt < k.sentNt + ms then s else (s.modPair (fun x => { x with prepared := none })).complete k.ring (fail stTimeout)) := by
    refine congrArg Host.Outcome.next ((State.whenFree_of_free hfree _).trans ?_)
    rw [hprep]
  refine ⟨fun hlt => ?_, fun hle => ?_⟩
  · rwa [if_pos (show s.nt < k.sentNt + ms from hlt)] at hstep
  · rw [if_neg (show ¬ s.nt < k.sentNt + ms from Nat.not_lt.mpr hle)] at hstep
    exact hstep

theorem commitMessage_spec {n prep e : Nat} {m : MirrorCmd} (hmsg : s.nextMsg = some (n, .commit prep e)) (hfree : s.hallFree = true)
    (hvoted : mfind s.pair.voted prep = some m) (hroom : (s.queueOf (blkCellar 0)).length < 1024) :
    ∃ t : State, Gives .commitMessage s t ∧ t.pair.voted = mdel s.pair.voted prep ∧
      Decided s t evTableApply { e := e, seq := n, wing := 0, partition := 0, body := .prepare m } := by
  have hstep : Gives .commitMessage s ((s.popMsg.modPair (fun x => { x with voted := mdel x.voted prep })).addDecision evTableApply
      { e := e, seq := n, wing := 0, partition := 0, body := .prepare m }) := by
    refine congrArg Host.Outcome.next ((State.whenFree_of_free hfree _).trans ?_)
    rw [hmsg]
    dsimp only
    rw [hvoted]
    exact if_neg (by rw [State.not_queueFull hroom]; decide)
  exact ⟨_, hstep, congrArg Pair.voted (State.enqueue_pair ..), decided_addDecision evTableApply rfl rfl hroom⟩

end messages

/-! ### Mirrored commands (R748) -/

theorem mirrorsIn_of_exec {i : Instr} {op : Nat} {c : CmdIn} {m : State → Cmd → MirrorCmd}
    (hexec : ∀ s, Machine.exec i s = .next (if s.voting then s else runCmd op i c [] s (fun cmd s => mirrored c (m s cmd) cmd s))) : MirrorsIn i op c m := by
  intro s cmd h hvoting
  have hstep : Gives i s (runCmd op i c [] s (fun cmd s => mirrored c (m s cmd) cmd s)) := (hexec s).trans (congrArg Host.Outcome.next (if_neg (by rw [hvoting]; decide)))
  have hfails {st : Nat} (hbody : mirrored c (m s cmd) cmd s = (some (fail st), s)) : Fails i c s st :=
    ⟨0, hstep.trans (congrArg Host.Outcome.next (runCmd_completes h (by simp) hbody rfl))⟩
  have hnotStandby (hprimary : s.isPrimary = true) : s.isStandby = false := by
    obtain ⟨-, hstandby⟩ := Bool.and_eq_true_iff.mp hprimary
    rw [State.isStandby, (Bool.not_eq_eq_eq_not ..).mp hstandby]
    exact Bool.and_false _
  refine ⟨fun hstandby => hfails (if_pos hstandby), fun hprimary hfault hfull => hfails ?_, fun hprimary hfault hroom => ?_⟩
  · rw [mirrored, if_neg (by rw [hnotStandby hprimary]; decide), hfault]
    exact if_pos (by rw [State.noRoom, hprimary, hfull]; rfl)
  · have hbody : mirrored c (m s cmd) cmd s = (none, s.prepare c.ring (m s cmd)) := by
      rw [mirrored, if_neg (by rw [hnotStandby hprimary]; decide), hfault]
      exact (if_neg (by rw [State.noRoom, hroom, Bool.and_false]; decide)).trans (if_pos hprimary)
    refine ⟨s.prepare c.ring (m s cmd), hstep.trans (congrArg Host.Outcome.next (runCmd_runs h (by simp) hbody)), ?_, sentOne_pairSend s _, rfl⟩
    have hframe := s.pairSend_frame fun _ => .prepare (m s cmd)
    rw [State.prepare]
    dsimp only
    generalize (s.pairSend fun _ => .prepare (m s cmd)).2.2 = v at hframe
    rw [hframe]

end Sys2Proof.Machine
end

section
/-!
PROOFS. Decisions of the pair at their effective instant (R741, R744 to R746, R748, R749).
-/
open Sys2Proof Sys2Proof.Machine Sys2Proof.Claims
namespace Sys2Proof.Machine

/-! ### The occurrence of a decision -/

section due
variable {s : State} {w : Nat} {o : Occ} {d : Decision}

/-- A decision whose occurrence has started in time. -/
def State.decisionTaken (s : State) (w : Nat) (d : Decision) : State :=
  { s.setQueue (blkCellar w) (s.queueOf (blkCellar w)).tail with pair := { s.pair with decisions := s.pair.decisions.filter (fun y => y != d) } }

theorem decisionTaken_eq (hlate : lateAt s.nt o.instant = false) : (s.startOcc (blkCellar w) o).dropDecision d = s.decisionTaken w d := by
  rw [State.startOcc_inTime hlate]
  rfl

theorem not_mem_decisionTaken (s : State) (w : Nat) (d : Decision) : d ∉ (s.decisionTaken w d).pair.decisions := fun h => by
  simpa using (List.mem_filter.mp h).2

theorem queueOf_decisionTaken (s : State) (w : Nat) (d : Decision) : (s.decisionTaken w d).queueOf (blkCellar w) = (s.queueOf (blkCellar w)).tail :=
  s.queueOf_setQueue ..

theorem exec_pairTableApply (hdue : s.duePair w evTableApply = some o) (hd : s.decisionOf o = some d) (hlate : lateAt s.nt o.instant = false) :
    Gives (.pairTableApply w) s (match d.body with
      | .prepare m => m.apply (s.decisionTaken w d) d.e true none
      | _ => (s.decisionTaken w d).applyTableChange d) := by
  change execPairTableApply w s = _
  have hd' : (s.startOcc (blkCellar w) o).decisionOf o = some d := by
    rw [State.decisionOf, State.startOcc_pair]
    exact hd
  rw [execPairTableApply, hdue]
  dsimp only
  rw [hd']
  dsimp only
  rw [decisionTaken_eq hlate] <;> rfl

end due

/-! ### A change of an overflow entry -/

theorem FlowEntry.valid_overwrite (old new : FlowEntry) (e : Nat) : (old.overwrite new e).valid = new.valid := by
  unfold FlowEntry.overwrite
  dsimp only
  split <;> rfl

section overflow
variable (s : State) (p w stamp unit : Nat)

theorem State.pair_exportItem (b : Nat) (i : ExpItem) : (s.exportItem b i).pair = s.pair :=
  State.exportItem_keeps State.pair (fun _ _ _ => rfl) (fun _ _ _ => rfl) (fun _ _ _ _ _ _ => State.bumpN_pair ..) s b i

theorem State.pair_exportFlow (h : Nat) (e : FlowEntry) (reason : Nat) : (s.exportFlow p h e reason).pair = s.pair := by
  unfold State.exportFlow
  dsimp only
  split
  · exact (State.pair_exportItem ..).trans (State.bump_pair ..)
  · rfl

theorem State.pair_applyWay (h e : Nat) (new : FlowEntry) (reason : Nat) : (s.applyWay p h e new reason).pair = s.pair := by
  have hchange (s : State) (x : FlowEntry) : (s.changeSlot p h e x).pair = s.pair := State.changeSlot_leaves State.pair State.setWing_pair (fun _ _ => rfl) ..
  unfold State.applyWay
  dsimp only
  rw [hchange]
  split
  · exact State.pair_exportFlow ..
  · rfl

/-- R751, R749: the image and the sums follow a change; the log and the entries stay. -/
theorem State.amendImage_keeps {α : Type} (g : State → α) (h : ∀ (s : State) r, g { s with pair := { s.pair with resync := r } } = g s) (f : PairUnit → PairUnit) :
    g (s.amendImage p w stamp unit f) = g s := by
  unfold State.amendImage State.modResync
  split
  · rfl
  · exact h ..

theorem State.countAged_keeps {α : Type} (g : State → α) (h : ∀ (s : State) id n, g (State.bumpN s id n) = g s) (reason n : Nat) : g (s.countAged w p reason n) = g s := by
  unfold State.countAged
  split
  · exact h ..
  · rfl

/-- The decided contents of an overflow entry are in the table, and the change in the log. -/
def State.overflowApplied (s : State) (d : Decision) (e v p i : Nat) (data : Bytes) : State :=
  (s.logChange v { e := e, partition := p, former := .overflow i ((s.entryAt (ovHandle v i)).bytes 0) }).applyWay p (ovHandle v i) e (entryOf data) d.reason

/-- The counts of a change, its image and its digest. -/
def State.overflowFollowed (t : State) (d : Decision) (e v p i gone : Nat) (data : Bytes) : State :=
  let t := t.countAged v p d.reason gone
  let t := if d.own then t else t.bump Ctr.pairChanges
  (t.amendImage p v e (overflowUnit i) (fun _ => .overflow i data)).addDigest e p v d.body.digest

theorem State.applyTableChange_overflow {d : Decision} {e v i : Nat} {data : Bytes} (h : d.body = .tableChange e v p (.overflow i data)) :
    s.applyTableChange d = (s.overflowApplied d e v p i data).overflowFollowed d e v p i (b2n ((s.entryAt (ovHandle v i)).valid && !(entryOf data).valid)) data := by
  unfold State.applyTableChange State.overflowFollowed
  rw [h] <;> rfl

theorem State.overflowFollowed_keeps {α : Type} (g : State → α) (hbump : ∀ (s : State) id n, g (State.bumpN s id n) = g s)
    (hresync : ∀ (s : State) r, g { s with pair := { s.pair with resync := r } } = g s) (hsums : ∀ (s : State) m, g { s with pair := { s.pair with sums := m } } = g s)
    (d : Decision) (e v p i gone : Nat) (data : Bytes) : g (s.overflowFollowed d e v p i gone data) = g s := by
  refine (hsums ..).trans ((State.amendImage_keeps _ _ _ _ _ g hresync _).trans ?_)
  split
  · exact State.countAged_keeps _ _ _ g hbump ..
  · exact (hbump ..).trans (State.countAged_keeps _ _ _ g hbump ..)

theorem entryAt_overflowApplied (d : Decision) (e v i : Nat) (data : Bytes) : ((s.overflowApplied d e v p i data).entryAt (ovHandle v i)).valid = (entryOf data).valid := by
  rw [State.overflowApplied, State.entryAt_applyWay, if_neg (by simp [OtherSlot]), FlowEntry.valid_overwrite]

theorem log_overflowApplied (hpaired : s.paired = true) (d : Decision) (e v i : Nat) (data : Bytes) :
    mget [] (s.overflowApplied d e v p i data).pair.log v = s.liveLog v ++ [{ e := e, partition := p, former := .overflow i ((s.entryAt (ovHandle v i)).bytes 0) }] := by
  rw [State.overflowApplied, State.pair_applyWay, State.logChange, if_pos hpaired]
  exact mget_mput_same ..

end overflow

theorem pairTableApply_spec {s : State} {w : Nat} {o : Occ} {d : Decision} (hdue : s.duePair w evTableApply = some o) (hd : s.decisionOf o = some d)
    (hlate : lateAt s.nt o.instant = false) :
    (∀ t, d.body = .prepare (.bankArm t) → ∃ u : State, Gives (.pairTableApply w) s u ∧ u.hall = { s.hall with armedSwap := some t } ∧
      u.queueOf (blkCellar w) = (s.queueOf (blkCellar w)).tail ∧ d ∉ u.pair.decisions) ∧
    (∀ m, d.body = .prepare m → ∃ u : State, Gives (.pairTableApply w) s (m.apply u d.e true none) ∧ u.queueOf (blkCellar w) = (s.queueOf (blkCellar w)).tail ∧
      u.pair = { s.pair with decisions := s.pair.decisions.filter (fun y => y != d) } ∧ u.hall = s.hall ∧ u.parts = s.parts) ∧
    (∀ e v p i data, d.body = .tableChange e v p (.overflow i data) → v < 2 → i < 32768 → s.paired = true → Ascending s.pair.log →
      let h := ovHandle v i
      ∃ u : State, Gives (.pairTableApply w) s u ∧ (u.entryAt h).valid = (entryOf data).valid ∧
        (∃ l, mget [] u.pair.log v = l ++ [{ e := e, partition := p, former := .overflow i ((s.entryAt h).bytes 0) }])) := by
  have hstep := exec_pairTableApply hdue hd hlate
  have hqueue := queueOf_decisionTaken s w d
  refine ⟨fun t hbody => ?_, fun m hbody => ?_, fun e v p i data hbody _ _ hpaired _ => ?_⟩
  · rw [hbody] at hstep
    exact ⟨_, hstep, rfl, hqueue, not_mem_decisionTaken s w d⟩
  · rw [hbody] at hstep
    exact ⟨_, hstep, hqueue, rfl, rfl, rfl⟩
  · intro h
    have hentry : (s.decisionTaken w d).entryAt h = s.entryAt h := rfl
    have hpaired' : (s.decisionTaken w d).paired = true := hpaired
    have hchange := (s.decisionTaken w d).applyTableChange_overflow p hbody
    rw [hbody] at hstep
    dsimp only at hstep
    rw [hchange] at hstep
    rw [← hentry]
    generalize s.decisionTaken w d = u at hstep hpaired'
    refine ⟨_, hstep, ?_, u.liveLog v, ?_⟩
    · rw [State.overflowFollowed_keeps _ (State.entryAt · h) (fun _ _ _ => rfl) (fun _ _ => rfl) fun _ _ => rfl]
      exact entryAt_overflowApplied u p d e v i data
    · rw [State.overflowFollowed_keeps _ (fun s => s.pair.log) (fun _ _ _ => congrArg Pair.log (State.bumpN_pair ..)) (fun _ _ => rfl) fun _ _ => rfl]
      exact log_overflowApplied u p hpaired' d e v i data

/-! ### An insertion at its instant (R743, R749) -/

theorem exec_pairInsertApply {s : State} {w : Nat} {o : Occ} {d : Decision} (hdue : s.duePair w evInsertApply = some o) (hd : s.decisionOf o = some d)
    (hlate : lateAt s.nt o.instant = false) (hpaired : s.paired = true) :
    Gives (.pairInsertApply w) s ((if d.own then s.decisionTaken w d else (s.decisionTaken w d).bump Ctr.pairInserts).addDigest d.e d.partition d.wing d.body.digest) := by
  change execPairInsertApply w s = _
  have hd' : (s.startOcc (blkCellar w) o).decisionOf o = some d := by
    rw [State.decisionOf, State.startOcc_pair]
    exact hd
  have hpaired' : (if d.own then s.decisionTaken w d else (s.decisionTaken w d).bump Ctr.pairInserts).paired = true := by
    split <;> exact hpaired
  rw [execPairInsertApply, hdue]
  dsimp only
  rw [hd']
  dsimp only
  rw [decisionTaken_eq hlate]
  exact congrArg Host.Outcome.next (if_pos hpaired')

theorem State.sumsOf_addDigest (s : State) (stamp p w digest : Nat) :
    ((s.addDigest stamp p w digest).sumsOf (stamp / 16000000))[2 * p + w]? = ((s.sumsOf (stamp / 16000000))[2 * p + w]?).map (fun x => (x + digest) % 2 ^ 64) := by
  have hsums : mget [] (s.addDigest stamp p w digest).pair.sums (stamp / 16000000) =
      mput (mget [] s.pair.sums (stamp / 16000000)) (2 * p + w) ((mget 0 (mget [] s.pair.sums (stamp / 16000000)) (2 * p + w) + digest) % 18446744073709551616) :=
    mget_mput_same ..
  rw [State.sumsOf, State.sumsOf, hsums, List.getElem?_map, List.getElem?_map]
  cases h : (List.range 16)[2 * p + w]? with
  | none => rfl
  | some i =>
    obtain ⟨_, hi⟩ := List.getElem?_eq_some_iff.mp h
    rw [List.getElem_range] at hi
    rw [← hi, Option.map_some, Option.map_some, Option.map_some, mget_mput_same]
    rfl

theorem pairInsertApply_spec {s : State} {w : Nat} {o : Occ} {d : Decision} (hdue : s.duePair w evInsertApply = some o) (hd : s.decisionOf o = some d)
    (hlate : lateAt s.nt o.instant = false) (hpaired : s.paired = true) :
    ∃ t : State, Gives (.pairInsertApply w) s t ∧ d ∉ t.pair.decisions ∧
      (t.sumsOf (d.e / 16000000))[2 * d.partition + d.wing]? =
        ((s.sumsOf (d.e / 16000000))[2 * d.partition + d.wing]?).map (fun x => (x + d.body.digest) % 2 ^ 64) ∧
      t.ctr Ctr.pairInserts = rose (s.ctr Ctr.pairInserts) (if d.own then 0 else 1) := by
  have hstep := exec_pairInsertApply hdue hd hlate hpaired
  have hgone := not_mem_decisionTaken s w d
  have hsums (k : Nat) : (s.decisionTaken w d).sumsOf k = s.sumsOf k := rfl
  have hctr : (s.decisionTaken w d).ctr Ctr.pairInserts = s.ctr Ctr.pairInserts := rfl
  have hcounted (u : State) : (if d.own then u else u.bump Ctr.pairInserts).pair = u.pair ∧
      (if d.own then u else u.bump Ctr.pairInserts).ctr Ctr.pairInserts = rose (u.ctr Ctr.pairInserts) (if d.own then 0 else 1) := by
    cases d.own with
    | true => exact ⟨rfl, rfl⟩
    | false => exact ⟨u.bump_pair _, u.ctr_bump _⟩
  rw [← hsums, ← hctr]
  generalize s.decisionTaken w d = u at hstep hgone
  obtain ⟨hpair, hrose⟩ := hcounted u
  have hsums' (k : Nat) : (if d.own then u else u.bump Ctr.pairInserts).sumsOf k = u.sumsOf k := by rw [State.sumsOf, State.sumsOf, hpair]
  refine ⟨_, hstep, ?_, ?_, hrose⟩
  · change d ∉ (if d.own then u else u.bump Ctr.pairInserts).pair.decisions
    rwa [hpair]
  · rw [State.sumsOf_addDigest, hsums']

/-- Settles O43: the messages of a decision, its occurrence, and one lemma for every mirrored command. -/
theorem pairDecides : Obligations.PairDecides := by
  refine ⟨fun s seq e h data hmsg hpending hfree hroom => insert_spec hmsg hpending hfree hroom, fun s seq e w p u hmsg hfree hroom => tableChange_spec hmsg hfree hroom,
    fun s seq m hmsg hfree hpair => prepare_spec hmsg hfree hpair,
    fun s n prep status detail k hmsg hfree hpair hprep hk hroom => vote_spec hmsg hfree hpair hprep hk hroom,
    fun s k hprep hfree => voteTimeout_spec hprep hfree, fun s n prep e m hmsg hfree hvoted hroom => commitMessage_spec hmsg hfree hvoted hroom,
    fun s w o d hdue hd hlate => pairTableApply_spec hdue hd hlate, fun s w o d hdue hd hlate hpaired _ _ => pairInsertApply_spec hdue hd hlate hpaired,
    fun c => mirrorsIn_of_exec fun s => rfl, fun c t => mirrorsIn_of_exec fun s => rfl, fun c => mirrorsIn_of_exec fun s => rfl,
    fun c n e t r => mirrorsIn_of_exec fun s => rfl⟩

end Sys2Proof.Machine
end

section
/-!
PROOFS. The pair's sums: how an interval closes and how they are compared (R749, R750).
-/
open Sys2Proof Sys2Proof.Machine Sys2Proof.Claims
namespace Sys2Proof.Machine

/-! ### What a sequenced message leaves -/

/-- A sequenced message changes the lanes' registers and the sender's numbers only. -/
theorem State.pair_pairSend {α : Type} (f : Pair → α)
    (hf : ∀ (x : Pair) lt fs ls ss ua, f { x with lastTx := lt, frameSeq := fs, lastSentNt := ls, sentSeq := ss, unacked := ua } = f x) (s : State) (mk : Nat → PairMsg) :
    f (s.pairSend mk).2.2.pair = f s.pair := hf s.pair _ _ _ _ _

/-- What does not look at the pair or at the outputs does not see a message. -/
theorem State.pairSend_keeps {α : Type} (g : State → α) (hg : ∀ (s : State) p o, g { s with pair := p, out := o } = g s) (s : State) (mk : Nat → PairMsg) :
    g (s.pairSend mk).2.2 = g s := (congrArg g (s.pairSend_frame mk)).trans (hg ..)

theorem State.prefix_pairSend (s : State) (mk : Nat → PairMsg) : s.out <+: (s.pairSend mk).2.2.out := by
  rw [State.pairSend_out]
  exact List.prefix_append ..

/-! ### A resynchronisation begins (R751) -/

section begin_
variable (s : State) (p w : Nat)

theorem State.beginResync_keeps {α : Type} (g : State → α) (hg : ∀ (s : State) p o, g { s with pair := p, out := o } = g s) : g (s.beginResync p w) = g s := by
  unfold State.beginResync
  split
  · rfl
  · exact (hg _ _ (State.out _)).trans (State.pairSend_keeps g hg ..)

theorem State.pair_beginResync {α : Type} (f : Pair → α)
    (hf : ∀ (x : Pair) lt fs ls ss ua, f { x with lastTx := lt, frameSeq := fs, lastSentNt := ls, sentSeq := ss, unacked := ua } = f x)
    (hresync : ∀ (x : Pair) r, f { x with resync := r } = f x) : f (s.beginResync p w).pair = f s.pair := by
  unfold State.beginResync
  split
  · rfl
  · exact (hresync ..).trans (State.pair_pairSend f hf ..)

theorem State.prefix_beginResync : s.out <+: (s.beginResync p w).out := by
  unfold State.beginResync
  split
  · exact List.prefix_rfl
  · exact State.prefix_pairSend ..

/-- R751: one runs from then on. -/
theorem State.isSome_beginResync (h : (s.partOf p).state = .active) : ((s.beginResync p w).resyncOf p w).isSome = true := by
  unfold State.beginResync
  split
  · next hruns => exact hruns.resolve_right (not_not.mpr h)
  · exact congrArg Option.isSome (mfind_mput_same ..)

theorem State.isSome_beginResync_of {q v : Nat} (h : (s.resyncOf q v).isSome = true) : ((s.beginResync p w).resyncOf q v).isSome = true := by
  unfold State.beginResync
  split
  · exact h
  · by_cases hkey : 16 * v + q = 16 * w + p
    · rw [State.resyncOf, hkey]
      exact congrArg Option.isSome (mfind_mput_same ..)
    · have hother : mfind (mput s.pair.resync (16 * w + p) { q := (s.pairSend fun e => .resyncBegin p w e).2.1 }) (16 * v + q) = mfind s.pair.resync (16 * v + q) :=
        mfind_mput_other _ _ hkey
      exact (congrArg Option.isSome hother).trans h

theorem State.beginResync_idle {s : State} {p w : Nat} (hnone : s.resyncOf p w = none) (hactive : (s.partOf p).state = .active) :
    s.beginResync p w = (s.pairSend fun e => .resyncBegin p w e).2.2.modPair (fun x => { x with resync := mput x.resync (16 * w + p) { q := (s.pairSend fun e => .resyncBegin p w e).2.1 } }) :=
  if_neg (by rw [hnone, hactive]; simp)

end begin_

/-! ### Sums that differ (R750) -/

section differ
variable (s : State) (bad : List Nat)

/-- The resynchronisations of what differs. -/
def State.resyncDiffering : State := bad.foldl (fun s i => s.beginResync (i / 2) (i % 2)) s

/-- The sticky bit and the count of sums that differ. -/
def State.divergenceNoted : State := (s.setSticky 98).bump Ctr.pairDivergence

/-- Both members' sums are known and leave their tables. -/
def State.sumsMatched (k : Nat) : State :=
  s.modPair (fun x => { x with ownClosed := mdel x.ownClosed k, partnerSums := mdel x.partnerSums k, lastInterval := max x.lastInterval k })

theorem State.compareSums_known {k : Nat} {a b : List Nat} (ha : mfind s.pair.ownClosed k = some a) (hb : mfind s.pair.partnerSums k = some b) :
    s.compareSums k = if (s.differing a b).isEmpty then s.sumsMatched k
      else if (s.sumsMatched k).divergenceNoted.isPrimary then (s.sumsMatched k).divergenceNoted.resyncDiffering (s.differing a b)
      else (s.sumsMatched k).divergenceNoted := by
  unfold State.compareSums
  rw [ha, hb] <;> rfl

theorem State.compareSums_unknown {k : Nat} (h : mfind s.pair.ownClosed k = none ∨ mfind s.pair.partnerSums k = none) : s.compareSums k = s := by
  unfold State.compareSums
  rcases h with h | h
  · rw [h]
  · rw [h]
    cases mfind s.pair.ownClosed k <;> rfl

theorem State.mem_differing (a b : List Nat) (i : Nat) : i ∈ s.differing a b ↔ i < 16 ∧ s.resyncOf (i / 2) (i % 2) = none ∧ a[i]? ≠ b[i]? := by
  rw [State.differing, List.mem_filter, List.mem_range, Bool.and_eq_true, Option.isNone_iff_eq_none, bne_iff_ne]

theorem State.resyncDiffering_keeps {α : Type} (g : State → α) (hg : ∀ (s : State) p o, g { s with pair := p, out := o } = g s) : g (s.resyncDiffering bad) = g s :=
  foldl_keeps g _ (fun s i => s.beginResync_keeps (i / 2) (i % 2) g hg) bad s

theorem State.pair_resyncDiffering {α : Type} (f : Pair → α)
    (hf : ∀ (x : Pair) lt fs ls ss ua, f { x with lastTx := lt, frameSeq := fs, lastSentNt := ls, sentSeq := ss, unacked := ua } = f x)
    (hresync : ∀ (x : Pair) r, f { x with resync := r } = f x) : f (s.resyncDiffering bad).pair = f s.pair :=
  foldl_keeps (fun s : State => f s.pair) _ (fun s i => s.pair_beginResync (i / 2) (i % 2) f hf hresync) bad s

theorem State.prefix_resyncDiffering : s.out <+: (s.resyncDiffering bad).out := by
  unfold State.resyncDiffering
  induction bad generalizing s with
  | nil => exact List.prefix_rfl
  | cons i bad ih => exact (s.prefix_beginResync (i / 2) (i % 2)).trans (ih _)

theorem State.isSome_resyncDiffering_of {q v : Nat} (h : (s.resyncOf q v).isSome = true) : ((s.resyncDiffering bad).resyncOf q v).isSome = true := by
  unfold State.resyncDiffering
  induction bad generalizing s with
  | nil => exact h
  | cons i bad ih => exact ih _ (s.isSome_beginResync_of (i / 2) (i % 2) h)

theorem State.isSome_resyncDiffering {i : Nat} (hi : i ∈ bad) (hactive : (s.partOf (i / 2)).state = .active) :
    ((s.resyncDiffering bad).resyncOf (i / 2) (i % 2)).isSome = true := by
  induction bad generalizing s with
  | nil => exact absurd hi List.not_mem_nil
  | cons j bad ih =>
    rcases List.mem_cons.mp hi with rfl | hi
    · exact State.isSome_resyncDiffering_of _ bad (s.isSome_beginResync _ _ hactive)
    · refine ih (s.beginResync (j / 2) (j % 2)) hi ?_
      have hparts := s.beginResync_keeps (j / 2) (j % 2) State.parts fun _ _ _ => rfl
      rw [State.partOf, hparts]
      exact hactive

/-- What the comparison of two known sums leaves. -/
structure Compared (s : State) (k : Nat) (a b : List Nat) (t : State) : Prop where
  out : s.out <+: t.out
  close : t.pair.nextClose = s.pair.nextClose
  own : t.pair.ownClosed = mdel s.pair.ownClosed k
  last : t.pair.lastInterval = max s.pair.lastInterval k
  same : (∀ i, i < 16 → s.resyncOf (i / 2) (i % 2) = none → a[i]? = b[i]?) → t.sticky = s.sticky ∧ t.pair.resync = s.pair.resync
  differ : ∀ i, i < 16 → s.resyncOf (i / 2) (i % 2) = none → a[i]? ≠ b[i]? → t.stickyBit 98 = true ∧
    t.ctr Ctr.pairDivergence = rose (s.ctr Ctr.pairDivergence) 1 ∧
    (s.isPrimary = true → (s.partOf (i / 2)).state = .active → (t.resyncOf (i / 2) (i % 2)).isSome = true)

/-- The sticky bit and the count. -/
theorem State.divergenceNoted_spec : s.out <+: s.divergenceNoted.out ∧ s.divergenceNoted.pair = s.pair ∧ s.divergenceNoted.parts = s.parts ∧
    s.divergenceNoted.stickyBit 98 = true ∧ s.divergenceNoted.ctr Ctr.pairDivergence = rose (s.ctr Ctr.pairDivergence) 1 := by
  refine ⟨?_, s.setSticky_pair 98, s.setSticky_parts 98, State.stickyBit_setSticky_self s (by decide), ?_⟩
  · exact s.setSticky_out 98
  · refine (State.ctr_bump ..).trans (congrArg (rose · 1) (State.ctr_setStickyIn_other s 0 98 ?_ ?_))
    · exact Ctr.ident_ne_bufCtr_of_index 13 0 (by decide) (by decide) (by decide) (by decide)
    · exact Ctr.ident_ne_funcMsixSent 13 0 (by decide) (by decide)

theorem State.compareSums_spec {k : Nat} {a b : List Nat} (ha : mfind s.pair.ownClosed k = some a) (hb : mfind s.pair.partnerSums k = some b) :
    Compared s k a b (s.compareSums k) := by
  rw [s.compareSums_known ha hb]
  have hmem := s.mem_differing a b
  generalize s.differing a b = bad at hmem
  obtain ⟨hout, hpair, hparts, hsticky, hctr⟩ := (s.sumsMatched k).divergenceNoted_spec
  split
  · next hempty =>
    have hnone (i : Nat) : i ∉ bad := List.isEmpty_iff.mp hempty ▸ List.not_mem_nil
    exact ⟨List.prefix_rfl, rfl, rfl, rfl, fun _ => ⟨rfl, rfl⟩, fun i hi hfree hne => absurd ((hmem i).mpr ⟨hi, hfree, hne⟩) (hnone i)⟩
  · next hsome =>
    have hnot : ¬ ∀ i, i < 16 → s.resyncOf (i / 2) (i % 2) = none → a[i]? = b[i]? := fun hall => by
      obtain ⟨i, hi⟩ := List.exists_mem_of_ne_nil bad fun hnil => hsome (by rw [hnil]; rfl)
      obtain ⟨hlt, hfree, hne⟩ := (hmem i).mp hi
      exact hne (hall i hlt hfree)
    have hprimary : (s.sumsMatched k).divergenceNoted.isPrimary = s.isPrimary := by
      rw [State.isPrimary, State.paired, hpair]
      rfl
    have hpart (p : Nat) : ((s.sumsMatched k).divergenceNoted.partOf p) = s.partOf p := by rw [State.partOf, hparts]; rfl
    rw [hprimary]
    have hout' : s.out <+: (s.sumsMatched k).divergenceNoted.out := hout
    have hctr' : (s.sumsMatched k).divergenceNoted.ctr Ctr.pairDivergence = rose (s.ctr Ctr.pairDivergence) 1 := hctr
    have hclose : (s.sumsMatched k).divergenceNoted.pair.nextClose = s.pair.nextClose := (congrArg Pair.nextClose hpair).trans rfl
    have hown : (s.sumsMatched k).divergenceNoted.pair.ownClosed = mdel s.pair.ownClosed k := (congrArg Pair.ownClosed hpair).trans rfl
    have hlast : (s.sumsMatched k).divergenceNoted.pair.lastInterval = max s.pair.lastInterval k := (congrArg Pair.lastInterval hpair).trans rfl
    generalize (s.sumsMatched k).divergenceNoted = u at hpart hsticky hout' hctr' hclose hown hlast ⊢
    split
    · next hprim =>
      refine ⟨hout'.trans (u.prefix_resyncDiffering bad), ?_, ?_, ?_, fun h => absurd h hnot, fun i hi hfree hne => ⟨?_, ?_, fun _ hactive => ?_⟩⟩
      · exact (u.pair_resyncDiffering bad Pair.nextClose (fun _ _ _ _ _ _ => rfl) fun _ _ => rfl).trans hclose
      · exact (u.pair_resyncDiffering bad Pair.ownClosed (fun _ _ _ _ _ _ => rfl) fun _ _ => rfl).trans hown
      · exact (u.pair_resyncDiffering bad Pair.lastInterval (fun _ _ _ _ _ _ => rfl) fun _ _ => rfl).trans hlast
      · exact (u.resyncDiffering_keeps bad (State.stickyBit · 98) fun _ _ _ => rfl).trans hsticky
      · exact (u.resyncDiffering_keeps bad (State.ctr · Ctr.pairDivergence) fun _ _ _ => rfl).trans hctr'
      · exact u.isSome_resyncDiffering bad ((hmem i).mpr ⟨hi, hfree, hne⟩) (by rw [hpart]; exact hactive)
    · next hprim =>
      exact ⟨hout', hclose, hown, hlast, fun h => absurd h hnot, fun i hi hfree hne => ⟨hsticky, hctr', fun h => absurd h hprim⟩⟩

end differ

/-! ### STATE_HASH (R750) -/

/-- R749: a digest joins one sum of one interval. -/
theorem State.sum_addDigest (s : State) (stamp p w d j k : Nat) :
    mget 0 (mget [] (s.addDigest stamp p w d).pair.sums k) j =
      (if k = stamp / 16000000 ∧ j = 2 * p + w then (mget 0 (mget [] s.pair.sums k) j + d) % 2 ^ 64 else mget 0 (mget [] s.pair.sums k) j) := by
  have hsums : (s.addDigest stamp p w d).pair.sums = mput s.pair.sums (stamp / 16000000) (mput (mget [] s.pair.sums (stamp / 16000000)) (2 * p + w)
      ((mget 0 (mget [] s.pair.sums (stamp / 16000000)) (2 * p + w) + d) % 2 ^ 64)) := rfl
  rw [hsums, mget_mput]
  by_cases hk : k = stamp / 16000000
  · rw [if_pos hk, mget_mput, hk]
    by_cases hj : j = 2 * p + w
    · rw [if_pos hj, if_pos ⟨rfl, hj⟩, hj]
    · rw [if_neg hj, if_neg (hj ·.2)]
  · rw [if_neg hk, if_neg (hk ·.1)]

theorem dueKind_stairwell_of_wingFree {s : State} {w : Nat} (h : s.wingFree w = true) (kind : Nat) : s.dueKind (blkStairwell w) kind = none := by
  obtain ⟨hother, -⟩ := Bool.and_eq_true_iff.mp h
  obtain ⟨-, hstair⟩ := Bool.and_eq_true_iff.mp hother
  rw [State.dueKind, Option.isNone_iff_eq_none.mp hstair]

/-- R750: the closed interval's sums leave. -/
def State.intervalClosed (s : State) : State :=
  ((s.modPair (fun x => { x with
    nextClose := s.pair.nextClose + 1, sums := mdel x.sums s.pair.nextClose
    ownClosed := mput x.ownClosed s.pair.nextClose (s.sumsOf s.pair.nextClose) })).pairSend (fun _ => .stateHash s.pair.nextClose (s.sumsOf s.pair.nextClose))).2.2

/-- R750: an interval that cannot close yet. -/
def State.IntervalOpen (s : State) : Prop :=
  s.nt < (s.pair.nextClose + 2) * 16000000 ∨ s.uncommitted 0 (fun _ => true) ((s.pair.nextClose + 1) * 16000000) = true ∨
    s.uncommitted 1 (fun _ => true) ((s.pair.nextClose + 1) * 16000000) = true

theorem exec_stateHash {s : State} {w : Nat} (hfree : s.wingFree w = true) (hpaired : s.paired = true) :
    (s.IntervalOpen → Gives (.stateHash w) s s) ∧ (¬ s.IntervalOpen → Gives (.stateHash w) s (s.intervalClosed.compareSums s.pair.nextClose)) := by
  have hcond : (!s.paired || decide (s.nt < (s.pair.nextClose + 2) * ms) || s.uncommitted 0 (fun _ => true) ((s.pair.nextClose + 1) * ms) ||
      s.uncommitted 1 (fun _ => true) ((s.pair.nextClose + 1) * ms)) = true ↔ s.IntervalOpen := by
    simp only [hpaired, Bool.not_true, Bool.false_or, Bool.or_eq_true, decide_eq_true_eq, or_assoc]
    exact Iff.rfl
  have hstep : Gives (.stateHash w) s s.closeInterval := by
    change execStateHash w s = _
    rw [execStateHash]
    dsimp only
    rw [dueKind_stairwell_of_wingFree hfree]
    exact congrArg Host.Outcome.next (if_pos hfree)
  refine ⟨fun h => ?_, fun h => ?_⟩
  · rwa [State.closeInterval, if_pos (hcond.mpr h)] at hstep
  · rw [State.closeInterval, if_neg (hcond.not.mpr h)] at hstep
    exact hstep

theorem stateHash_spec {s : State} {w : Nat} (hfree : s.wingFree w = true) (hpaired : s.paired = true) :
    let k := s.pair.nextClose
    let open_ : Prop := s.nt < (k + 2) * 16000000 ∨ s.uncommitted 0 (fun _ => true) ((k + 1) * 16000000) = true ∨ s.uncommitted 1 (fun _ => true) ((k + 1) * 16000000) = true
    (open_ → Gives (.stateHash w) s s) ∧
    (¬ open_ → Ascending s.pair.ownClosed → Ascending s.pair.sums → ∃ t : State, Gives (.stateHash w) s t ∧ t.pair.nextClose = k + 1 ∧
      nextFrame s [(s.pair.sentSeq + 1, .stateHash k (s.sumsOf k))] ∈ t.out ∧
      (mfind s.pair.partnerSums k = none → t.sticky = s.sticky ∧ mfind t.pair.ownClosed k = some (s.sumsOf k)) ∧
      (∀ b, mfind s.pair.partnerSums k = some b → mfind t.pair.ownClosed k = none ∧ t.pair.lastInterval = max s.pair.lastInterval k ∧
        ((∀ i, i < 16 → s.resyncOf (i / 2) (i % 2) = none → (s.sumsOf k)[i]? = b[i]?) → t.sticky = s.sticky ∧ t.pair.resync = s.pair.resync) ∧
        (∀ i, i < 16 → s.resyncOf (i / 2) (i % 2) = none → (s.sumsOf k)[i]? ≠ b[i]? → t.stickyBit 98 = true ∧
          t.ctr Ctr.pairDivergence = rose (s.ctr Ctr.pairDivergence) 1 ∧
          (s.isPrimary = true → (s.partOf (i / 2)).state = .active → (t.resyncOf (i / 2) (i % 2)).isSome = true)))) := by
  intro k open_
  obtain ⟨hopen, hclose⟩ := exec_stateHash hfree hpaired
  refine ⟨hopen, fun hdone hasc _ => ?_⟩
  have hstep := hclose hdone
  have hout : s.intervalClosed.out = s.out ++ [nextFrame s [(s.pair.sentSeq + 1, .stateHash k (s.sumsOf k))]] :=
    (sentOne_pairSend (s.modPair (fun x => { x with
      nextClose := s.pair.nextClose + 1, sums := mdel x.sums s.pair.nextClose, ownClosed := mput x.ownClosed s.pair.nextClose (s.sumsOf s.pair.nextClose) })) _).1
  have hnext : s.intervalClosed.pair.nextClose = k + 1 := rfl
  have hown : s.intervalClosed.pair.ownClosed = mput s.pair.ownClosed k (s.sumsOf k) := rfl
  have hpartner : s.intervalClosed.pair.partnerSums = s.pair.partnerSums := rfl
  have hlast : s.intervalClosed.pair.lastInterval = s.pair.lastInterval := rfl
  have hresync : s.intervalClosed.pair.resync = s.pair.resync := rfl
  have hkeep {α : Type} (g : State → α) (hg : ∀ (s : State) p o, g { s with pair := p, out := o } = g s) : g s.intervalClosed = g s :=
    (State.pairSend_keeps g hg ..).trans (hg s _ s.out)
  have hsticky := hkeep State.sticky fun _ _ _ => rfl
  have hctr := hkeep (State.ctr · Ctr.pairDivergence) fun _ _ _ => rfl
  have hparts := hkeep State.parts fun _ _ _ => rfl
  have hprimary : s.intervalClosed.isPrimary = s.isPrimary :=
    State.pair_pairSend (fun x => (x.state == .active) && !x.standby) (fun _ _ _ _ _ _ => rfl) (s.modPair (fun x => { x with
      nextClose := s.pair.nextClose + 1, sums := mdel x.sums s.pair.nextClose, ownClosed := mput x.ownClosed s.pair.nextClose (s.sumsOf s.pair.nextClose) })) _
  generalize s.intervalClosed = u at hout hnext hown hpartner hlast hresync hstep hsticky hctr hparts hprimary
  have hsent : nextFrame s [(s.pair.sentSeq + 1, .stateHash k (s.sumsOf k))] ∈ u.out := hout ▸ List.mem_append_right _ (List.mem_singleton.mpr rfl)
  have hclosed : mfind u.pair.ownClosed k = some (s.sumsOf k) := by rw [hown, mfind_mput_same]
  cases hb : mfind s.pair.partnerSums k with
  | none =>
    rw [u.compareSums_unknown (.inr (hpartner ▸ hb))] at hstep
    exact ⟨u, hstep, hnext, hsent, fun _ => ⟨hsticky, hclosed⟩, nofun⟩
  | some b =>
    obtain ⟨hprefix, hcloseEq, hownEq, hlastEq, hsame, hdiffer⟩ := u.compareSums_spec hclosed (hpartner ▸ hb)
    have hresyncOf (p v : Nat) : u.resyncOf p v = s.resyncOf p v := by rw [State.resyncOf, hresync]; rfl
    have hpartOf (p : Nat) : u.partOf p = s.partOf p := by rw [State.partOf, hparts]; rfl
    refine ⟨_, hstep, hcloseEq.trans hnext, hprefix.subset hsent, nofun, fun b' hb' => ?_⟩
    obtain rfl := Option.some.inj hb'
    simp only [hresyncOf, hsticky, hresync] at hsame
    simp only [hresyncOf, hctr, hprimary, hpartOf] at hdiffer
    refine ⟨?_, by rw [hlastEq, hlast], hsame, hdiffer⟩
    rw [hownEq, hown]
    exact mfind_mdel_same (Rising.mput hasc k _) k

theorem stateHashMessage_spec {s : State} {n k : Nat} {b a : List Nat} (hmsg : s.nextMsg = some (n, .stateHash k b)) (hfree : s.hallFree = true) (hpaired : s.paired = true) :
    (mfind s.pair.ownClosed k = none → Gives .stateHashMessage s ({ s with pair := { s.pair with inbox := s.pair.inbox.tail, partnerSums := mput s.pair.partnerSums k b } })) ∧
    (mfind s.pair.ownClosed k = some a → ∃ t : State, Gives .stateHashMessage s t ∧ t.pair.lastInterval = max s.pair.lastInterval k ∧
      (∀ i, i < 16 → s.resyncOf (i / 2) (i % 2) = none → a[i]? ≠ b[i]? → t.stickyBit 98 = true)) := by
  have hstep : Gives .stateHashMessage s ((s.popMsg.modPair (fun x => { x with partnerSums := mput x.partnerSums k b })).compareSums k) := by
    refine congrArg Host.Outcome.next ((State.whenFree_of_free hfree _).trans ?_)
    rw [hmsg]
    exact if_pos hpaired
  refine ⟨fun hnone => ?_, fun ha => ⟨_, hstep, ?_⟩⟩
  · have hsame := State.compareSums_unknown (s.popMsg.modPair (fun x => { x with partnerSums := mput x.partnerSums k b })) (k := k) (.inl hnone)
    rwa [hsame] at hstep
  · obtain ⟨-, -, -, hlast, -, hdiffer⟩ := State.compareSums_spec (s.popMsg.modPair (fun x => { x with partnerSums := mput x.partnerSums k b })) (k := k) ha
      (mfind_mput_same ..)
    exact ⟨hlast, fun i hi hidle hne => (hdiffer i hi hidle hne).1⟩

end Sys2Proof.Machine
end

section
/-!
PROOFS. Resynchronisations of the pair: their messages, the walker and the images (R751 to R753).
-/
open Sys2Proof Sys2Proof.Machine Sys2Proof.Claims
namespace Sys2Proof.Machine

/-! ### RESYNC_BEGIN (R751) -/

theorem exec_resyncBegin {s : State} {n p w q : Nat} (hmsg : s.nextMsg = some (n, .resyncBegin p w q)) (hfree : s.hallFree = true) :
    Gives .resyncBegin s (if s.isStandby then s.popMsg.modPair (fun x =>
        { x with resync := mput x.resync (16 * w + p) { q := q }, requests := x.requests.filter (fun r => !(r.1 == p && r.2.1 == w)) })
      else if s.isPrimary && q == 0 then s.popMsg.beginResync p w else s.popMsg) := by
  refine congrArg Host.Outcome.next ((State.whenFree_of_free hfree _).trans ?_)
  rw [hmsg] <;> rfl

theorem isStandby_of_isPrimary {s : State} (h : s.isPrimary = true) : s.isStandby = false := by
  obtain ⟨-, hstandby⟩ := Bool.and_eq_true_iff.mp h
  rw [State.isStandby, (Bool.not_eq_eq_eq_not ..).mp hstandby]
  exact Bool.and_false _

theorem resyncBegin_spec {s : State} {n p w q : Nat} (hmsg : s.nextMsg = some (n, .resyncBegin p w q)) (hfree : s.hallFree = true) :
    (s.isStandby = true → ∃ t : State, Gives .resyncBegin s t ∧ t.resyncOf p w = some { q := q } ∧ t.pair.inbox = s.pair.inbox.tail) ∧
    (s.isPrimary = true → q = 0 → s.resyncOf p w = none → (s.partOf p).state = .active → ∃ t : State, Gives .resyncBegin s t ∧
      t.resyncOf p w = some { q := nextTx s + 320000 } ∧ SentOne s t (.resyncBegin p w (nextTx s + 320000))) := by
  have hstep := exec_resyncBegin hmsg hfree
  refine ⟨fun hstandby => ?_, fun hprimary hq hidle hactive => ?_⟩
  · rw [hstandby, if_pos rfl] at hstep
    exact ⟨_, hstep, mfind_mput_same .., rfl⟩
  · have hbegun : s.popMsg.beginResync p w = _ := State.beginResync_idle (s := s.popMsg) hidle hactive
    rw [isStandby_of_isPrimary hprimary, if_neg Bool.false_ne_true, hprimary, hq, if_pos (by decide), hbegun] at hstep
    have hsent := sentOne_pairSend s.popMsg (.resyncBegin p w (nextTx s + 320000))
    exact ⟨_, hstep, mfind_mput_same .., SentOne.of_popMsg hsent⟩

/-! ### RESYNC_DATA (R753) -/

/-- R753: a unit has come in place of the standby's, which knows it as sent. -/
def State.unitTaken (s : State) (p w : Nat) (u : PairUnit) (r : Resync) : State :=
  ((s.bumpN Ctr.pairResyncBytes (unitBytes u).length).putUnit p w u).modPair (fun x => { x with
    resync := mput x.resync (16 * w + p) { r with sent := u.number :: r.sent, sentCount := r.sentCount + 1 }
    requests := x.requests.filter (fun y => y != (p, w, u.number)) })

theorem exec_resyncData {s : State} {n p w : Nat} {u : PairUnit} {r : Resync} (hmsg : s.nextMsg = some (n, .resyncData p w u)) (hfree : s.wingFree w = true)
    (hstandby : s.isStandby = true) (hr : s.resyncOf p w = some r) : Gives .resyncData s (s.popMsg.unitTaken p w u r) := by
  have hr' : s.popMsg.resyncOf p w = some r := hr
  have hstandby' : s.popMsg.isStandby = true := hstandby
  change execResyncData s = _
  rw [execResyncData, hmsg]
  dsimp only
  rw [ite_wingFree hfree, hr']
  exact congrArg Host.Outcome.next (if_neg (by rw [hstandby']; decide))

theorem State.table_unitTaken (s : State) (p w : Nat) (u : PairUnit) (r : Resync) :
    (s.unitTaken p w u r).table = ((s.bumpN Ctr.pairResyncBytes (unitBytes u).length).putUnit p w u).table := rfl

theorem unitTaken_spec (s : State) (p w : Nat) (u : PairUnit) (r : Resync) :
    (∃ r', (s.unitTaken p w u r).resyncOf p w = some r' ∧ r'.sent = u.number :: r.sent ∧ r'.q = r.q) ∧ (p, w, u.number) ∉ (s.unitTaken p w u r).pair.requests := by
  refine ⟨⟨_, mfind_mput_same .., rfl, rfl⟩, fun h => ?_⟩
  simpa using (List.mem_filter.mp h).2

theorem resyncDataMaxima_spec {s : State} {n p w m : Nat} {d : List (Nat × Nat)} {r : Resync} (hmsg : s.nextMsg = some (n, .resyncData p w (.maxima m d)))
    (hfree : s.wingFree w = true) (hstandby : s.isStandby = true) (hr : s.resyncOf p w = some r) :
    ∃ t : State, Gives .resyncData s t ∧ mget [] t.hall.maxima (4 * p + m) = d ∧
      (∃ r', t.resyncOf p w = some r' ∧ r'.sent = maximaUnit m :: r.sent ∧ r'.q = r.q) ∧ (p, w, maximaUnit m) ∉ t.pair.requests := by
  have htaken := unitTaken_spec s.popMsg p w (.maxima m d) r
  have hstep := exec_resyncData hmsg hfree hstandby hr
  have hmaxima : (s.popMsg.unitTaken p w (.maxima m d) r).hall.maxima = mput s.hall.maxima (4 * p + m) d := rfl
  rw [PairUnit.number] at htaken
  generalize s.popMsg.unitTaken p w (.maxima m d) r = t at hstep hmaxima htaken
  exact ⟨t, hstep, by rw [hmaxima, mget_mput_same], htaken⟩

theorem resyncDataOverflow_spec {s : State} {n p w i : Nat} {d : Bytes} {r : Resync} (hmsg : s.nextMsg = some (n, .resyncData p w (.overflow i d)))
    (hfree : s.wingFree w = true) (hstandby : s.isStandby = true) (hr : s.resyncOf p w = some r) :
    ∃ t : State, Gives .resyncData s t ∧ t.entryAt (ovHandle w i) = entryOf d ∧
      (∃ r', t.resyncOf p w = some r' ∧ r'.sent = overflowUnit i :: r.sent) := by
  obtain ⟨⟨r', hr', hsent, -⟩, -⟩ := unitTaken_spec s.popMsg p w (.overflow i d) r
  have hstep := exec_resyncData hmsg hfree hstandby hr
  have hentry : (s.popMsg.unitTaken p w (.overflow i d) r).entryAt (ovHandle w i) = entryOf d := by
    rw [State.entryAt_of_table (State.table_unitTaken ..), State.putUnit, State.entryAt_putEntry_self]
  rw [PairUnit.number] at hsent
  generalize s.popMsg.unitTaken p w (.overflow i d) r = t at hstep hentry hr'
  exact ⟨t, hstep, hentry, r', hr', hsent⟩

/-! ### Images that leave (R752) -/

section send
variable (s : State) (w p : Nat)

/-- A resynchronisation that has sent a unit's image. -/
def Resync.sentUnit (r : Resync) (u : PairUnit) : Resync :=
  { r with sent := u.number :: r.sent, sentCount := r.sentCount + 1, saved := r.saved.filter (fun e => e.1 != u.number) }

/-- The image of a unit that a resynchronisation sends. -/
def State.qImageOf (s : State) (w p unit : Nat) (r : Resync) : PairUnit := ((r.saved.find? (fun e => e.1 == unit)).map (·.2)).getD (s.unitImage w p unit)

theorem State.sendImage_spec {r : Resync} (hr : s.resyncOf p w = some r) (u : PairUnit) :
    (s.sendImage w p u).resyncOf p w = some (r.sentUnit u) ∧ (s.sendImage w p u).out = s.out ++ [nextFrame s [(0, .resyncData p w u)]] ∧
      (s.sendImage w p u).pair.requests = s.pair.requests := by
  have hmod : s.modResync p w (fun r => r.sentUnit u) = { s with pair := { s.pair with resync := mput s.pair.resync (16 * w + p) (r.sentUnit u) } } := by
    unfold State.modResync
    rw [hr]
  have hsend : s.sendImage w p u = (let t := (s.modResync p w (fun r => r.sentUnit u)).bumpN Ctr.pairResyncBytes (unitBytes u).length
      (t.pairFrame t.controlLane [(0, .resyncData p w u)]).2) := rfl
  rw [hsend, hmod]
  exact ⟨mfind_mput_same .., rfl, rfl⟩

theorem State.sendUnit_known {r : Resync} (hr : s.resyncOf p w = some r) (unit : Nat) :
    s.sendUnit w p unit = if unit ∈ r.sent then s else s.sendImage w p (s.qImageOf w p unit r) := by
  unfold State.sendUnit
  rw [hr]
  dsimp only
  rw [State.qImageOf]
  simp only [List.contains_eq_mem, decide_eq_true_eq]

end send

/-! ### BLOCK_REQUEST (R752) -/

theorem blockRequest_spec {s : State} {n p w u : Nat} (hmsg : s.nextMsg = some (n, .blockRequest p w u)) (hfree : s.hallFree = true) (hprimary : s.isPrimary = true)
    (hruns : (s.resyncOf p w).isSome = true) :
    ∃ t : State, Gives .blockRequest s t ∧ t.pair.requests = s.pair.requests ++ [(p, w, u)] ∧ t.ctr Ctr.pairBlockRequests = rose (s.ctr Ctr.pairBlockRequests) 1 := by
  have hstep : Gives .blockRequest s ((s.popMsg.modPair (fun x => { x with requests := x.requests ++ [(p, w, u)] })).bump Ctr.pairBlockRequests) := by
    refine congrArg Host.Outcome.next ((State.whenFree_of_free hfree _).trans ?_)
    rw [hmsg]
    exact if_pos (Bool.and_eq_true_iff.mpr ⟨hprimary, hruns⟩)
  exact ⟨_, hstep, congrArg Pair.requests (State.bump_pair ..), State.ctr_bump ..⟩

theorem blockRequest_leaves {s : State} {p w u : Nat} {rest : List (Nat × Nat × Nat)} {r : Resync} (hinbox : s.pair.inbox = []) (hprimary : s.isPrimary = true)
    (hreq : s.pair.requests = (p, w, u) :: rest) (hr : s.resyncOf p w = some r) (hfree : s.wingFree w = true) (hquiet : s.quiescedBefore p w r = true) :
    let img := ((r.saved.find? (fun e => e.1 == u)).map (·.2)).getD (s.unitImage w p u)
    ∃ t : State, Gives .blockRequest s t ∧ t.pair.requests = rest ∧
      (u ∉ r.sent → t.out = s.out ++ [nextFrame s [(0, .resyncData p w img)]]) ∧
      (u ∈ r.sent → t.out = s.out) := by
  intro img
  have hstep : Gives .blockRequest s ((s.sendUnit w p u).modPair (fun x => { x with requests := x.requests.erase (p, w, u) })) := by
    refine congrArg Host.Outcome.next ((State.whenFree_of_free (hallFree_of_wingFree hfree) _).trans ?_)
    rw [State.nextMsg_of_empty hinbox]
    refine (if_neg (by rw [hprimary]; decide)).trans ?_
    rw [hreq, List.find?_cons_of_pos (by dsimp only; rw [hr]; exact hquiet)]
    exact if_neg (by rw [hfree]; decide)
  have herase {t : State} (ht : t.pair.requests = s.pair.requests) : t.pair.requests.erase (p, w, u) = rest := by
    rw [ht, hreq, List.erase_cons_head]
  by_cases hu : u ∈ r.sent
  · rw [s.sendUnit_known w p hr, if_pos hu] at hstep
    exact ⟨_, hstep, herase rfl, fun h => absurd hu h, fun _ => rfl⟩
  · rw [s.sendUnit_known w p hr, if_neg hu] at hstep
    obtain ⟨-, hout, hrequests⟩ := s.sendImage_spec w p hr (s.qImageOf w p u r)
    exact ⟨_, hstep, herase hrequests, fun _ => hout, fun h => absurd h hu⟩

/-! ### The walker (R751, R752) -/

section walker
variable {s : State} {p w : Nat} {r : Resync} (hr : s.resyncOf p w = some r) (hprimary : s.isPrimary = true) (hfree : s.wingFree w = true)

/-- The walker has taken its next place. -/
def State.walked (s : State) (w p : Nat) (r : Resync) : State :=
  s.modPair (fun x => { x with resync := mput x.resync (16 * w + p) { r with next := r.next + 1 } })

include hr hprimary hfree

theorem exec_resyncWalker : Gives (.resyncWalker w p) s
    (match r.saved.find? (fun e => s.quiescedBefore p w r || imageFinal e.1) with
      | some e => s.sendUnit w p e.1
      | none =>
        if s.pair.requests.any (fun k => k.1 == p && k.2.1 == w) || !s.quiescedBefore p w r || decide ((s.partOf p).unitCount ≤ r.next) then s
        else match s.unitAt p w r.next with
          | some u => (s.walked w p r).sendUnit w p u
          | none => s.walked w p r) := by
  change execResyncWalker w p s = _
  rw [execResyncWalker, hr]
  dsimp only
  rw [if_neg (by rw [hprimary, hfree]; decide)]
  congr 1

theorem resyncWalker_spec :
    let asked := s.pair.requests.any (fun k => k.1 == p && k.2.1 == w)
    let quiet := s.quiescedBefore p w r
    ((∀ e ∈ r.saved, quiet = false ∧ imageFinal e.1 = false) → (asked = true ∨ quiet = false) → Gives (.resyncWalker w p) s s) ∧
    (∀ e rest, r.saved = e :: rest → (quiet = true ∨ imageFinal e.1 = true) → e.1 ∉ r.sent → e.2.number = e.1 →
      ∃ t : State, Gives (.resyncWalker w p) s t ∧ t.out = s.out ++ [nextFrame s [(0, .resyncData p w e.2)]] ∧
        ∃ r', t.resyncOf p w = some r' ∧ r'.next = r.next ∧ e.1 ∈ r'.sent ∧ ∀ x ∈ r'.saved, x.1 ≠ e.1) ∧
    (r.saved = [] → asked = false → quiet = true → r.next < (s.partOf p).unitCount →
      ∃ t : State, Gives (.resyncWalker w p) s t ∧ (∃ r', t.resyncOf p w = some r' ∧ r'.next = r.next + 1 ∧
        ∀ u, s.unitAt p w r.next = some u → (s.unitImage w p u).number = u → u ∈ r'.sent ∧ (u ∉ r.sent →
          t.out = s.out ++ [nextFrame s [(0, .resyncData p w (s.unitImage w p u))]]))) := by
  intro asked quiet
  have hstep := exec_resyncWalker hr hprimary hfree
  refine ⟨fun hsaved hwaits => ?_, fun e rest hsaved hfinal hnot hnumber => ?_, fun hsaved hasked hquiet hmore => ?_⟩
  · have hnone : r.saved.find? (fun e => s.quiescedBefore p w r || imageFinal e.1) = none := by
      refine List.find?_eq_none.mpr fun e he => ?_
      obtain ⟨hq, hf⟩ := hsaved e he
      rw [show s.quiescedBefore p w r = false from hq, hf]
      decide
    have hstay : (s.pair.requests.any (fun k => k.1 == p && k.2.1 == w) || !s.quiescedBefore p w r || decide ((s.partOf p).unitCount ≤ r.next)) = true := by
      rcases hwaits with h | h
      · rw [show s.pair.requests.any (fun k => k.1 == p && k.2.1 == w) = true from h, Bool.true_or, Bool.true_or]
      · rw [show s.quiescedBefore p w r = false from h, Bool.not_false, Bool.or_true, Bool.true_or]
    rw [hnone] at hstep
    dsimp only at hstep
    rwa [if_pos hstay] at hstep
  · have hfound : r.saved.find? (fun e => s.quiescedBefore p w r || imageFinal e.1) = some e := by
      rw [hsaved]
      exact List.find?_cons_of_pos (Bool.or_eq_true_iff.mpr hfinal)
    have himage : s.qImageOf w p e.1 r = e.2 := by
      rw [State.qImageOf, hsaved, List.find?_cons_of_pos (by simp)]
      rfl
    rw [hfound] at hstep
    dsimp only at hstep
    rw [s.sendUnit_known w p hr, if_neg hnot, himage] at hstep
    obtain ⟨hresync, hout, -⟩ := s.sendImage_spec w p hr e.2
    refine ⟨_, hstep, hout, _, hresync, rfl, ?_, fun x hx => ?_⟩
    · exact List.mem_cons.mpr (.inl hnumber.symm)
    · exact fun hxe => by simpa [hnumber, hxe] using (List.mem_filter.mp hx).2
  · have hgo : (s.pair.requests.any (fun k => k.1 == p && k.2.1 == w) || !s.quiescedBefore p w r || decide ((s.partOf p).unitCount ≤ r.next)) = false := by
      rw [show s.pair.requests.any (fun k => k.1 == p && k.2.1 == w) = false from hasked, show s.quiescedBefore p w r = true from hquiet,
        decide_eq_false (Nat.not_le.mpr hmore)]
      rfl
    rw [hsaved, List.find?_nil] at hstep
    dsimp only at hstep
    rw [hgo, if_neg Bool.false_ne_true] at hstep
    have hwalked : (s.walked w p r).resyncOf p w = some { r with next := r.next + 1 } := mfind_mput_same ..
    cases hu : s.unitAt p w r.next with
    | none =>
      rw [hu] at hstep
      exact ⟨_, hstep, _, hwalked, rfl, nofun⟩
    | some u =>
      rw [hu] at hstep
      dsimp only at hstep
      rw [(s.walked w p r).sendUnit_known w p hwalked] at hstep
      by_cases hsent : u ∈ r.sent
      · rw [if_pos hsent] at hstep
        refine ⟨_, hstep, _, hwalked, rfl, fun u' hu' _ => ?_⟩
        obtain rfl := Option.some.inj hu'
        exact ⟨hsent, fun h => absurd hsent h⟩
      · have himage : (s.walked w p r).qImageOf w p u { r with next := r.next + 1 } = s.unitImage w p u := by
          rw [State.qImageOf, hsaved]
          rfl
        rw [if_neg hsent, himage] at hstep
        obtain ⟨hresync, hout, -⟩ := (s.walked w p r).sendImage_spec w p hwalked (s.unitImage w p u)
        refine ⟨_, hstep, _, hresync, rfl, fun u' hu' hnumber => ?_⟩
        obtain rfl := Option.some.inj hu'
        exact ⟨List.mem_cons.mpr (.inl hnumber.symm), fun _ => hout⟩

end walker

/-- R752: the primary saves a unit's image at its first touch at or after Q. -/
theorem saveImage_spec {s : State} {p w stamp : Nat} {u : PairUnit} {r : Resync} (hr : s.resyncOf p w = some r) (hprimary : s.isPrimary = true) :
    (s.saveImage p w stamp u).resyncOf p w =
      some (if r.q ≤ stamp ∧ u.number ∉ r.sent ∧ (∀ e ∈ r.saved, e.1 ≠ u.number) then { r with saved := r.saved ++ [(u.number, u)] } else r) := by
  have hcond : (s.isPrimary && decide (r.q ≤ stamp) && r.lacks u.number) = true ↔ r.q ≤ stamp ∧ u.number ∉ r.sent ∧ ∀ e ∈ r.saved, e.1 ≠ u.number := by
    simp [hprimary, Resync.lacks]
  unfold State.saveImage
  rw [hr]
  dsimp only
  by_cases h : r.q ≤ stamp ∧ u.number ∉ r.sent ∧ ∀ e ∈ r.saved, e.1 ≠ u.number
  · rw [if_pos (hcond.mpr h), if_pos h, State.modResync, hr]
    exact mfind_mput_same ..
  · rw [if_neg (hcond.not.mpr h), if_neg h, hr]

end Sys2Proof.Machine
end

section
/-!
PROOFS. The end of a resynchronisation, and PAIR_RESYNC (R751, R754).
-/
open Sys2Proof Sys2Proof.Machine Sys2Proof.Claims
namespace Sys2Proof.Machine

/-! ### RESYNC_END (R754) -/

/-- A ring holds no command once its command has completed. -/
theorem State.cmdAt_complete (s : State) {r : Nat} (hr : r < 4096) (st : Status) : (s.complete r st).cmdAt r = none := by
  cases hc : s.cmdAt r with
  | none => rw [s.complete_none st hc, hc]
  | some c =>
    have hbind := hc
    rw [State.cmdAt, if_pos hr] at hbind
    obtain ⟨x, hring, hrun⟩ := Option.bind_eq_some_iff.mp hbind
    rw [State.cmdAt, if_pos hr, State.mfind_complete st hr hring hrun]
    rfl

section ended
variable (s : State) (p w : Nat)

/-- The resynchronisation has gone from the tables. -/
def State.resyncDropped : State :=
  s.modPair (fun x => { x with
    resync := mdel x.resync (16 * w + p), requests := x.requests.filter (fun r => !(r.1 == p && r.2.1 == w))
    awaited := x.awaited.filter (fun k => k != 16 * w + p) })

/-- The PAIR_RESYNC commands that wait complete. -/
def State.waitersDone : State := s.pair.waitRings.foldl (fun s r => s.complete r okStatus) (s.modPair (fun x => { x with waitRings := [] }))

theorem State.resyncEnded_eq : s.resyncEnded p w = if (s.resyncDropped p w).pair.awaited.isEmpty then (s.resyncDropped p w).waitersDone else s.resyncDropped p w := rfl

theorem State.pair_waitersDone : s.waitersDone.pair = { s.pair with waitRings := [] } :=
  foldl_keeps State.pair _ (fun s r => s.complete_pair r okStatus) s.pair.waitRings _

theorem State.waitersDone_idle {s : State} (h : s.pair.waitRings = []) : s.waitersDone = s := by
  have hpair : { s.pair with waitRings := [] } = s.pair := by rw [← h]
  have hsame : s.modPair (fun x => { x with waitRings := [] }) = s := congrArg (fun x => { s with pair := x }) hpair
  rw [State.waitersDone, h, List.foldl_nil, hsame]

theorem State.resyncOf_resyncEnded (hasc : Ascending s.pair.resync) : (s.resyncEnded p w).resyncOf p w = none := by
  have hdropped : (s.resyncDropped p w).resyncOf p w = none := mfind_mdel_same hasc _
  rw [State.resyncEnded_eq]
  split
  · rw [State.resyncOf, State.pair_waitersDone]
    exact hdropped
  · exact hdropped

theorem State.resyncEnded_waits {k : Nat} (hk : k ∈ s.pair.awaited) (hne : k ≠ 16 * w + p) : (s.resyncEnded p w).pair.waitRings = s.pair.waitRings := by
  have hsome : k ∈ (s.resyncDropped p w).pair.awaited := List.mem_filter.mpr ⟨hk, bne_iff_ne.mpr hne⟩
  rw [State.resyncEnded_eq, if_neg fun h => by rw [List.isEmpty_iff.mp h] at hsome; exact absurd hsome List.not_mem_nil]
  rfl

theorem State.resyncEnded_last (hall : ∀ k ∈ s.pair.awaited, k = 16 * w + p) : s.resyncEnded p w = (s.resyncDropped p w).waitersDone := by
  have hnil : (s.resyncDropped p w).pair.awaited = [] := List.filter_eq_nil_iff.mpr fun k hk => by simp [hall k hk]
  rw [State.resyncEnded_eq, hnil]
  exact if_pos rfl

theorem State.resyncEnded_idle (h : s.pair.waitRings = []) : s.resyncEnded p w = s.resyncDropped p w := by
  rw [State.resyncEnded_eq]
  split
  · exact State.waitersDone_idle h
  · rfl

end ended

theorem resyncEnd_primary {s : State} {p w : Nat} {r : Resync} (hinbox : s.pair.inbox = []) (hr : s.resyncOf p w = some r) (hprimary : s.isPrimary = true)
    (hfree : s.hallFree = true) (hdone : (s.partOf p).unitCount ≤ r.next) (hsaved : r.saved = []) (hasc : Ascending s.pair.resync) (hrings : s.pair.waitRings = []) :
    ∃ t : State, Gives (.resyncEnd w p) s t ∧ t.resyncOf p w = none ∧ SentOne s t (.resyncEnd p w r.sentCount) := by
  have hstep : Gives (.resyncEnd w p) s ((s.pairSend (fun _ => .resyncEnd p w r.sentCount)).2.2.resyncEnded p w) := by
    refine congrArg Host.Outcome.next ((State.whenFree_of_free hfree _).trans ?_)
    rw [State.nextMsg_of_empty hinbox]
    dsimp only
    rw [hr]
    exact if_neg (by rw [hprimary, hsaved, decide_eq_false (Nat.not_lt.mpr hdone)]; decide)
  have hsent := sentOne_pairSend s (.resyncEnd p w r.sentCount)
  have hresync : (s.pairSend (fun _ => .resyncEnd p w r.sentCount)).2.2.pair.resync = s.pair.resync := State.pair_pairSend Pair.resync (fun _ _ _ _ _ _ => rfl) ..
  have hwait : (s.pairSend (fun _ => .resyncEnd p w r.sentCount)).2.2.pair.waitRings = s.pair.waitRings := State.pair_pairSend Pair.waitRings (fun _ _ _ _ _ _ => rfl) ..
  generalize (s.pairSend (fun _ => .resyncEnd p w r.sentCount)).2.2 = u at hstep hsent hresync hwait
  rw [u.resyncEnded_idle p w (hwait.trans hrings)] at hstep
  exact ⟨_, hstep, mfind_mdel_same (hresync.symm ▸ hasc) _, hsent⟩

theorem resyncEnd_message {s : State} {n p w u x y : Nat} (hmsg : s.nextMsg = some (n, .resyncEnd p w u)) (hfree : s.hallFree = true) (hasc : Ascending s.pair.resync) :
    ∃ t : State, Gives (.resyncEnd x y) s t ∧ t.resyncOf p w = none ∧ (∀ k, k ∈ s.pair.awaited → k ≠ 16 * w + p → t.pair.waitRings = s.pair.waitRings) ∧
      ((∀ k ∈ s.pair.awaited, k = 16 * w + p) → t.pair.waitRings = [] ∧ ∀ ring, s.pair.waitRings = [ring] → 4096 ≤ ring ∨ t.cmdAt ring = none) := by
  have hstep : Gives (.resyncEnd x y) s (s.popMsg.resyncEnded p w) := by
    refine congrArg Host.Outcome.next ((State.whenFree_of_free hfree _).trans ?_)
    rw [hmsg]
  refine ⟨_, hstep, s.popMsg.resyncOf_resyncEnded p w hasc, fun k hk hne => s.popMsg.resyncEnded_waits p w hk hne, fun hall => ?_⟩
  rw [s.popMsg.resyncEnded_last p w hall]
  refine ⟨by rw [State.pair_waitersDone], fun ring hring => ?_⟩
  have hrings : (s.popMsg.resyncDropped p w).pair.waitRings = [ring] := hring
  rw [State.waitersDone, hrings, List.foldl_cons, List.foldl_nil]
  by_cases hlt : ring < 4096
  · exact .inr (State.cmdAt_complete _ hlt _)
  · exact .inl (Nat.not_lt.mp hlt)

/-! ### PAIR_RESYNC (R751) -/

theorem mem_activePairs {s : State} {p w : Nat} : (p, w) ∈ s.activePairs ↔ p < s.partsN ∧ (s.partOf p).state = .active ∧ w < 2 := by
  have hw : w = 0 ∨ w = 1 ↔ w < 2 := by omega
  simp only [State.activePairs, List.mem_flatMap, List.mem_filter, List.mem_range, List.mem_cons, List.not_mem_nil, or_false, Prod.mk.injEq, beq_iff_eq, ← hw]
  constructor
  · rintro ⟨q, ⟨hq, hactive⟩, ⟨rfl, h⟩ | ⟨rfl, h⟩⟩
    · exact ⟨hq, hactive, .inl h⟩
    · exact ⟨hq, hactive, .inr h⟩
  · rintro ⟨hp, hactive, h | h⟩
    · exact ⟨p, ⟨hp, hactive⟩, .inl ⟨rfl, h⟩⟩
    · exact ⟨p, ⟨hp, hactive⟩, .inr ⟨rfl, h⟩⟩

/-- Keys that join a list without repeats. -/
def awaitedWith (ks : List (Nat × Nat)) (l : List Nat) : List Nat := ks.foldl (fun l k => if l.contains (16 * k.2 + k.1) then l else l ++ [16 * k.2 + k.1]) l

theorem mem_awaitedWith_of_mem (ks : List (Nat × Nat)) {l : List Nat} {j : Nat} (h : j ∈ l) : j ∈ awaitedWith ks l := by
  induction ks generalizing l with
  | nil => exact h
  | cons k ks ih =>
    refine ih ?_
    dsimp only
    split
    · exact h
    · exact List.mem_append_left _ h

theorem mem_awaitedWith {ks : List (Nat × Nat)} {k : Nat × Nat} (h : k ∈ ks) (l : List Nat) : 16 * k.2 + k.1 ∈ awaitedWith ks l := by
  induction ks generalizing l with
  | nil => exact absurd h List.not_mem_nil
  | cons j ks ih =>
    rcases List.mem_cons.mp h with rfl | h
    · refine mem_awaitedWith_of_mem ks ?_
      dsimp only
      split
      · next hin => exact List.contains_iff_mem.mp hin
      · exact List.mem_append_right _ (List.mem_singleton.mpr rfl)
    · exact ih h _

/-- The requests for a resynchronisation of each of `ks`. -/
def State.resyncAsked (s : State) (ks : List (Nat × Nat)) : State := ks.foldl (fun s k => (s.pairSend (fun _ => .resyncBegin k.1 k.2 0)).2.2) s

theorem State.pair_resyncAsked {α : Type} (f : Pair → α)
    (hf : ∀ (x : Pair) lt fs ls ss ua, f { x with lastTx := lt, frameSeq := fs, lastSentNt := ls, sentSeq := ss, unacked := ua } = f x) (s : State) (ks : List (Nat × Nat)) :
    f (s.resyncAsked ks).pair = f s.pair :=
  foldl_keeps (fun s : State => f s.pair) _ (fun s _ => State.pair_pairSend f hf s _) ks s

theorem pairResync_spec {c : CmdIn} {s : State} {cmd : Cmd} (h : Ready 0x0B05 (.pairResync c) c s cmd) :
    (s.isStandby = false → Fails (.pairResync c) c s 7) ∧
    (s.isStandby = true → (∀ p, p < s.partsN → (s.partOf p).state ≠ .active) → Succeeds (.pairResync c) c s s) ∧
    (s.isStandby = true → (∃ p, p < s.partsN ∧ (s.partOf p).state = .active) → ∃ u : State, Gives (.pairResync c) s (u.setCmd c.ring (some { cmd with started := true })) ∧
      u.pair.waitRings = s.pair.waitRings ++ [c.ring] ∧ ∀ p w, p < s.partsN → (s.partOf p).state = .active → w < 2 → 16 * w + p ∈ u.pair.awaited) := by
  refine ⟨fun hstandby => ⟨0, congrArg Host.Outcome.next (runCmd_completes h (by simp) ?_ rfl)⟩,
    fun hstandby hnone => congrArg Host.Outcome.next (runCmd_completes h (by simp) ?_ rfl), fun hstandby hsome => ?_⟩
  · exact if_pos (by rw [hstandby]; rfl)
  · have hempty : s.activePairs = [] := List.eq_nil_iff_forall_not_mem.mpr fun k hk => by
      obtain ⟨hp, hactive, -⟩ := mem_activePairs.mp hk
      exact hnone k.1 hp hactive
    refine (if_neg (by rw [hstandby]; decide)).trans ?_
    rw [hempty]
    exact if_pos rfl
  · obtain ⟨p, hp, hactive⟩ := hsome
    have hne : ¬ s.activePairs.isEmpty = true := fun hempty => by
      have hin := mem_activePairs.mpr ⟨hp, hactive, (by decide : 0 < 2)⟩
      rw [List.isEmpty_iff.mp hempty] at hin
      exact absurd hin List.not_mem_nil
    have hnot : ¬ (!s.isStandby) = true := by rw [hstandby]; decide
    have hrun : Gives (.pairResync c) s ((((s.resyncAsked s.activePairs).modPair (fun x => { x with
        waitRings := x.waitRings ++ [c.ring], awaited := awaitedWith s.activePairs x.awaited })).noteStep c.ring cmd).setCmd c.ring (some { cmd with started := true })) :=
      congrArg Host.Outcome.next (runCmd_runs h (by simp) ((if_neg hnot).trans (if_neg hne)))
    have hwait := State.pair_resyncAsked Pair.waitRings (fun _ _ _ _ _ _ => rfl) s s.activePairs
    generalize s.resyncAsked s.activePairs = v at hrun hwait
    refine ⟨_, hrun, ?_, fun q w hq hqactive hw => ?_⟩
    · rw [State.noteStep_pair]
      exact congrArg (· ++ [c.ring]) hwait
    · rw [State.noteStep_pair]
      exact mem_awaitedWith (mem_activePairs.mpr ⟨hq, hqactive, hw⟩) _

/-- Settles O44: sums, the comparison of an interval, and what each message and step of a resynchronisation leaves. -/
theorem pairComparesAndResyncs : Obligations.PairComparesAndResyncs :=
  ⟨fun s stamp p w d j k _ _ _ => s.sum_addDigest stamp p w d j k, fun _ _ hfree hpaired => stateHash_spec hfree hpaired,
    fun _ _ _ _ _ hmsg hfree hpaired _ _ => stateHashMessage_spec hmsg hfree hpaired, fun _ _ _ _ _ hmsg hfree _ => resyncBegin_spec hmsg hfree,
    fun _ _ _ _ _ _ _ hmsg hfree hstandby hr _ => resyncDataMaxima_spec hmsg hfree hstandby hr,
    fun _ _ _ _ _ _ _ hmsg _ _ hfree hstandby hr _ => resyncDataOverflow_spec hmsg hfree hstandby hr,
    fun _ _ _ _ _ hmsg hfree hprimary hruns => blockRequest_spec hmsg hfree hprimary hruns,
    fun _ _ _ _ _ _ hinbox hprimary hreq hr hfree hquiet => blockRequest_leaves hinbox hprimary hreq hr hfree hquiet,
    fun _ _ _ _ hr hprimary hfree _ => resyncWalker_spec hr hprimary hfree, fun _ _ _ _ _ _ hr hprimary _ => saveImage_spec hr hprimary,
    fun _ _ _ _ hinbox hr hprimary hfree hdone hsaved hasc hrings => resyncEnd_primary hinbox hr hprimary hfree hdone hsaved hasc hrings,
    fun _ _ _ _ _ _ _ hmsg hfree hasc => resyncEnd_message hmsg hfree hasc, fun _ _ _ h => pairResync_spec h⟩

end Sys2Proof.Machine
end

section
/-!
PROOFS. A compare whose queue number lies outside the four queues of a partition: its counters meet the Wing's.
-/
open Sys2Proof Sys2Proof.Machine Sys2Proof.Claims Sys2Proof.Tests
namespace Sys2Proof.Machine

/-- The counters of queue 8,192 of partition 0, by Table 21-1's layout, run into those of Wing 0. -/
theorem rqLostPrio_eq_wingCompareMismatch : Ctr.rqLostPrio 8192 2 = Ctr.wingCompareMismatch 0 := rfl

/-- A compare of bucket 0 of Wing 0 for queue 8,192, whose staging buffer has no room; the bucket holds an entry that its shadow lacks. -/
def comparing : State :=
  { act with
    wing0 := { act.wing0 with entries := [(0, { valid := true })], compare := some (startedCompare 0 0 0 0 8192 2 false false) }
    rqs := [(8192, { staging := [{ words := List.replicate 254 { data := 0, head := false, tail := false, check := 0 }, length := 254, priority := 0 }] })] }

/-- What a step leaves in a counter. -/
def countLeft (id : Nat) : Host.Outcome State Fault Refusal → Option Nat
  | .next t => some (t.ctr id)
  | _ => none

theorem countLeft_comparing : comparing.ctr (Ctr.wingCompareMismatch 0) = 0 ∧
    countLeft (Ctr.wingCompareMismatch 0) (Machine.exec (.compareUnit 0) comparing) = some 2 := by decide +kernel

/-- Refutes O14: a mismatch whose record queue 8,192 refuses counts twice in the Wing's counter of mismatches, once as the mismatch and once as the
queue's lost record of priority 2. -/
theorem not_tableMaintenance : ¬ Obligations.TableMaintenance := by
  unfold Obligations.TableMaintenance
  rintro ⟨⟨-, -, -, -, -, hcompare⟩, -⟩
  obtain ⟨hunit, -⟩ := hcompare 0 comparing (startedCompare 0 0 0 0 8192 2 false false) (by decide) (by decide +kernel) rfl
  obtain ⟨t, hstep, -, -, hctr⟩ := hunit (by decide)
  obtain ⟨hbefore, hafter⟩ := countLeft_comparing
  rw [hstep, countLeft, hctr, hbefore, Option.some.injEq] at hafter
  revert hafter
  split <;> decide

end Sys2Proof.Machine
end

section
/-!
PROOFS. Batches of chapters 8, 11 and 12 form and are sent: the packets that join an open batch (R34, R430), what sending one leaves, and
the start of a program (R324).
-/
open Sys2Proof Sys2Proof.Machine Sys2Proof.Claims

namespace Sys2Proof.Machine

/-! ### The packets that a batch gathers (R34, R430, R501) -/

section
variable (c : SlotCfg) (g : GraphKind) (stage size : Nat)

theorem gather_prefix (rows ys : List Stair) :
    rows <+: (gather c g stage size rows ys).1 ∧ (gather c g stage size rows ys).1 <+: rows ++ ys := by
  induction ys generalizing rows with
  | nil => simp [gather]
  | cons y ys ih =>
    simp only [gather]
    split
    · exact ⟨List.prefix_rfl, List.prefix_append ..⟩
    split
    · exact ⟨List.prefix_rfl, List.prefix_append ..⟩
    · obtain ⟨hlow, hhigh⟩ := ih (rows ++ [y])
      exact ⟨(List.prefix_append ..).trans hlow, by simpa using hhigh⟩

theorem length_gather_le {rows : List Stair} (h : rows.length ≤ size) (ys : List Stair) :
    (gather c g stage size rows ys).1.length ≤ size := by
  induction ys generalizing rows with
  | nil => simpa [gather] using h
  | cons y ys ih =>
    simp only [gather]
    split
    · exact h
    split
    · exact h
    · next hroom _ => exact ih (by simp only [List.length_append, List.length_singleton]; omega)

/-- R34, R430, R501: of one epoch, and of one statistics batch where the model slot has dynamic sites. -/
def JoinsBatch (y z : Stair) : Prop := z.pkt.epoch = y.pkt.epoch ∧ (c.sites ≠ [] → c.statOf z.pkt.slot.at_ = c.statOf y.pkt.slot.at_)

theorem joinsBatch_of_not_mustClose {y z : Stair} {pre : List Stair} (h : mustClose c g stage (y :: pre) z = false) : JoinsBatch c y z := by
  simp only [mustClose, Bool.or_eq_false_iff, bne_eq_false_iff_eq, Bool.and_eq_false_iff] at h
  obtain ⟨⟨hepoch, hstat⟩, -⟩ := h
  refine ⟨hepoch.symm, fun hsites => ?_⟩
  rcases hstat with hnone | hsame
  · simp_all
  · exact hsame.symm

theorem joinsBatch_of_mem_gather {y : Stair} {pre : List Stair} (h : ∀ z ∈ y :: pre, JoinsBatch c y z) (ys : List Stair) :
    ∀ z ∈ (gather c g stage size (y :: pre) ys).1, JoinsBatch c y z := by
  induction ys generalizing pre with
  | nil => simpa [gather] using h
  | cons x ys ih =>
    simp only [gather]
    split
    · exact h
    split
    · exact h
    · next hjoin =>
      refine ih fun z hz => ?_
      have hz' : z ∈ (y :: pre) ++ [x] := hz
      rw [List.mem_append, List.mem_singleton] at hz'
      rcases hz' with hold | rfl
      · exact h z hold
      · exact joinsBatch_of_not_mustClose c g stage (Bool.eq_false_iff.2 hjoin)

theorem gather_cons {y : Stair} (ys : List Stair) (hsize : 1 ≤ size) :
    gather c g stage size [] (y :: ys) = gather c g stage size [y] ys := by
  rw [gather, if_neg (by rw [List.length_nil]; omega)]; rfl

end

/-! ### What sending a batch leaves (R325, R435) -/

section
variable (s : State) (w i id : Nat) (b : Batch) (c : SlotCfg)

theorem State.writeScales_keeps {α : Type} (g : State → α) (hg : ∀ s f, g (State.modTile s i f) = g s) : g (s.writeScales i b c) = g s := by
  unfold State.writeScales; split
  · rfl
  split
  · rfl
  · exact State.ownWrite_keeps g hg ..

theorem State.writeTokens_keeps {α : Type} (g : State → α) (hg : ∀ s f, g (State.modTile s i f) = g s) : g (s.writeTokens w i b c) = g s := by
  refine foldl_keeps g _ (fun s r => ?_) _ s
  split
  · split
    · exact State.ownWrite_keeps g hg ..
    · rfl
  · rfl

theorem State.sendDescs_keeps {α : Type} (g : State → α) (hg : ∀ s i f, g (State.modTile s i f) = g s) (tiles : List Nat) :
    g (s.sendDescs id tiles) = g s := foldl_keeps g _ (fun _ _ => hg ..) _ s

/-- Sending a batch writes the batch, and else tiles only. -/
theorem State.sendBatch_keeps {α : Type} (g : State → α) (hg : ∀ s i f, g (State.modTile s i f) = g s)  :
    g (s.sendBatch w id b c) = g (s.setBatch id { b with sent := true, issues := b.issues + 1 }) := by
  refine (State.sendDescs_keeps _ _ g hg _).trans (foldl_keeps g _ (fun s i => ?_) _ _)
  exact (State.writeScales_keeps _ _ _ _ g fun s f => hg s i f).trans (State.writeTokens_keeps _ _ _ _ _ g fun s f => hg s i f)

theorem State.mem_descs_modTile {k : Nat} (h : id ∈ (s.tile k).descs) :
    id ∈ ((s.modTile i (fun t => { t with descs := t.descs ++ [id] })).tile k).descs := by
  by_cases hk : k = i
  · subst hk; rw [State.tile_modTile]; exact List.mem_append_left _ h
  · rwa [State.tile_modTile_other _ _ hk]

theorem State.mem_descs_sendDescs {k : Nat} (tiles : List Nat) (h : k ∈ tiles ∨ id ∈ (s.tile k).descs) :
    id ∈ ((s.sendDescs id tiles).tile k).descs := by
  induction tiles generalizing s with
  | nil => exact h.resolve_left (List.not_mem_nil)
  | cons j tiles ih =>
    refine ih _ ?_
    rcases h with h | h
    · rcases List.mem_cons.1 h with rfl | htail
      · right; rw [State.tile_modTile]; exact List.mem_append_right _ (List.mem_singleton_self _)
      · exact .inl htail
    · exact .inr (State.mem_descs_modTile _ _ _ h)

/-- R325: the batch as it is once it is on its way. -/
abbrev Batch.onItsWay : Batch := { b with sent := true, issues := b.issues + 1 }

theorem State.sent_sendBatch : Sent (s.sendBatch w id b c) id b.onItsWay := by
  refine ⟨(State.sendBatch_keeps s w id b c (State.batchOf · id) fun _ _ _ => rfl).trans ?_, rfl, fun k hk => ?_⟩
  · rw [State.batchOf_setBatch, if_pos rfl]
  · exact State.mem_descs_sendDescs _ _ _ (.inl hk)

end

/-! ### The number of a batch -/

theorem batchHome_batchNumber {w : Nat} (hw : w < 2) (n : Nat) : batchHome (batchNumber w n) = w := by
  unfold batchHome batchNumber; omega

theorem State.wing_newBatch (s : State) (w : Nat) (b : Batch) : (s.newBatch w b).1.wing w =
    { s.wing w with batchCtr := (s.wing w).batchCtr + 1, batches := mput (s.wing w).batches (batchNumber w (s.wing w).batchCtr) b } :=
  State.wing_setWing ..

theorem State.batchOf_newBatch (s : State) {w : Nat} (hw : w < 2) (b : Batch) :
    (s.newBatch w b).1.batchOf (s.newBatch w b).2 = some b := by
  change mfind (((s.newBatch w b).1.wing (batchHome (batchNumber w _))).batches) (batchNumber w _) = _
  rw [batchHome_batchNumber hw, State.wing_newBatch]
  exact mfind_mput_same ..

/-! ### SETTLE_WAIT (R434, R478) -/

section
variable {s : State} {w n : Nat} {b : Batch} {img : Image} {c : SlotCfg} (hb : s.batchOf (batchNumber w n) = some b)
  (hcfg : s.batchCfg b = some (img, c))
include hb hcfg

theorem exec_settleWait : Gives (.settleWait w n) s
    (if b.sent || b.aborted || !s.settled b c || s.blocked b || !s.wingFree w then s else s.sendBatch w (batchNumber w n) b c) := by
  change execSettleWait w n s = _
  simp only [execSettleWait, hb, hcfg] <;> rfl

theorem settleWait_spec (hsent : b.sent = false) (haborted : b.aborted = false) (hfree : s.wingFree w = true) :
    (s.settled b c = true → s.blocked b = false → ∃ (t : State) (b' : Batch), Gives (.settleWait w n) s t ∧
      Sent t (batchNumber w n) b' ∧ b'.rows = b.rows ∧ b'.place = b.place) ∧
    ((s.settled b c = false ∨ s.blocked b = true) → Gives (.settleWait w n) s s) := by
  have hexec := exec_settleWait hb hcfg
  constructor
  · intro hsettled hopen
    rw [if_neg (by simp [hsent, haborted, hfree, hsettled, hopen])] at hexec
    exact ⟨_, _, hexec, State.sent_sendBatch .., rfl, rfl⟩
  · intro hheld
    rwa [if_pos (by rcases hheld with h | h <;> simp [h])] at hexec

end

/-! ### BATCH_CLOSE (R34, R430) -/

/-- The packets go into a batch. -/
def State.boundTo (s : State) (w id : Nat) (rows : List Stair) : State := rows.foldl (fun s z => s.setStair w { z with batch := some id }) s

section
variable (s : State) (w id : Nat)

theorem State.stairs_setStair (y : Stair) :
    ((s.setStair w y).wing w).stairs = (s.wing w).stairs.map (fun z => if z.index = y.index then y else z) := by
  rw [State.setStair, State.wing_setWing]; rfl

theorem State.batchOf_setStair (y : Stair) (j : Nat) : (s.setStair w y).batchOf j = s.batchOf j :=
  State.batchOf_of_batches (fun v => State.setWing_keeps Wing.batches (by rfl) v) j

theorem State.batchOf_boundTo (rows : List Stair) (j : Nat) : (s.boundTo w id rows).batchOf j = s.batchOf j :=
  foldl_keeps (State.batchOf · j) _ (fun _ _ => State.batchOf_setStair ..) _ s

/-- The entry is in the batch. -/
def State.InBatch (k : Nat) : Prop := ∃ z ∈ (s.wing w).stairs, z.index = k ∧ z.batch = some id

theorem State.inBatch_setStair_same {z : Stair} (h : ∃ y ∈ (s.wing w).stairs, y.index = z.index) :
    (s.setStair w { z with batch := some id }).InBatch w id z.index := by
  obtain ⟨y, hy, hindex⟩ := h
  refine ⟨{ z with batch := some id }, ?_, rfl, rfl⟩
  rw [State.stairs_setStair]
  exact List.mem_map.2 ⟨y, hy, if_pos hindex⟩

theorem State.inBatch_setStair {z : Stair} {k : Nat} (h : s.InBatch w id k) :
    (s.setStair w { z with batch := some id }).InBatch w id k := by
  obtain ⟨y, hy, hindex, hbatch⟩ := h
  by_cases hz : y.index = z.index
  · rw [← hindex, hz]; exact State.inBatch_setStair_same s w id ⟨y, hy, hz⟩
  · refine ⟨y, ?_, hindex, hbatch⟩
    rw [State.stairs_setStair]
    exact List.mem_map.2 ⟨y, hy, if_neg hz⟩

theorem State.inBatch_boundTo {rows : List Stair} {z : Stair} (hrows : ∀ y ∈ rows, ∃ x ∈ (s.wing w).stairs, x.index = y.index)
    (h : z ∈ rows ∨ s.InBatch w id z.index) : (s.boundTo w id rows).InBatch w id z.index := by
  induction rows generalizing s with
  | nil => exact h.resolve_left List.not_mem_nil
  | cons y rows ih =>
    refine ih _ (fun y' hy' => ?_) ?_
    · obtain ⟨x, hx, hindex⟩ := hrows y' (List.mem_cons_of_mem _ hy')
      rw [State.stairs_setStair]
      refine ⟨_, List.mem_map_of_mem hx, ?_⟩
      split
      · next hsame => exact hsame.symm.trans hindex
      · exact hindex
    · rcases h with h | h
      · rcases List.mem_cons.1 h with rfl | htail
        · exact .inr (State.inBatch_setStair_same s w id (hrows _ List.mem_cons_self))
        · exact .inl htail
      · exact .inr (State.inBatch_setStair s w id h)

end

/-- R34: the most packets of a batch of a stage. -/
def StageCfg.most (cfg : StageCfg) : Nat := if cfg.batchWait = 0 then 1 else min 128 (max 1 cfg.batchSize)

theorem StageCfg.most_pos (cfg : StageCfg) : 1 ≤ cfg.most := by unfold StageCfg.most; split <;> omega

/-- R34, R430: the batch of gathered packets. -/
def Batch.closing (s : State) (p m : Nat) (g : GraphKind) (stage : Nat) (place : Placement) (y : Stair) (c : SlotCfg) (rows : List Stair) : Batch :=
  { partition := p, modelSlot := m, imageSlot := y.pkt.imageSlot, epoch := y.pkt.epoch, graph := g
    stage := stage, rows := rows.map (fun z => .packet z.pkt.id), place := place
    stat := c.statOf y.pkt.slot.at_, order := s.hall.batchOrder }

/-- The batch has formed and its packets are in it. -/
def State.formed (s : State) (w : Nat) (b : Batch) (rows : List Stair) : State :=
  (s.newBatch w b).1.boundTo w (s.newBatch w b).2 rows

/-- It is sent unless R434 holds it back. -/
def State.sentOrHeld (s : State) (w id : Nat) (b : Batch) (c : SlotCfg) : State := if s.settled b c then s.sendBatch w id b c else s

section
variable {s : State} {w p m stage : Nat} {g : GraphKind} {place : Placement} {y : Stair} {ys : List Stair} {img : Image} {c : SlotCfg}
  {cfg : StageCfg}

theorem exec_batchClose {rows : List Stair} (hwait : waiting s w p m g stage = y :: ys) (hmodel : s.modelOf y.pkt = some (img, c))
    (hstage : (if g = .main then c.main else c.noFlow)[stage]? = some cfg) (hrows : (gather c g stage cfg.most [] (y :: ys)).1 = rows)
    (hdue : rows.any (fun z => decide (z.since + 16 * cfg.batchWait ≤ s.nt)) = true)
    (hnumber : (s.wing w).numberFree w = true) (hfree : s.wingFree w = true) (hplace : s.placeOk w p y.pkt.epoch cfg.mayCross place = true) :
    Gives (.batchClose w p m g stage place) s ((s.formed w (.closing s p m g stage place y c rows) rows).sentOrHeld w
      (batchNumber w (s.wing w).batchCtr) (.closing s p m g stage place y c rows) c) := by
  change execBatchClose w p m g stage place s = _
  subst hrows
  unfold StageCfg.most at *
  refine congrArg Host.Outcome.next ?_
  dsimp only
  generalize hfilter : List.filter _ (s.wing w).stairs = l
  obtain rfl : l = y :: ys := hfilter.symm.trans hwait
  dsimp only
  rw [hmodel]
  dsimp only
  rw [hstage]
  dsimp only
  refine (if_neg ?_).trans rfl
  simp [hdue, hnumber, hfree, hplace]

/-- R34, R430, R434: the batch that closes when its oldest packet has waited the batch wait. -/
theorem batchClose_spec (hw : w < 2) (hwait : waiting s w p m g stage = y :: ys) (hmodel : s.modelOf y.pkt = some (img, c))
    (hstage : (if g = .main then c.main else c.noFlow)[stage]? = some cfg) (hdue : y.since + 16 * cfg.batchWait ≤ s.nt)
    (hnumber : (s.wing w).numberFree w = true) (hfree : s.wingFree w = true) (hplace : s.placeOk w p y.pkt.epoch cfg.mayCross place = true) :
    ∃ (t : State) (rows : List Stair) (b : Batch), Gives (.batchClose w p m g stage place) s t ∧ y ∈ rows ∧ rows <+: (y :: ys) ∧
      rows.length ≤ cfg.most ∧ (∀ z ∈ rows, JoinsBatch c y z) ∧ t.batchOf (batchNumber w (s.wing w).batchCtr) = some b ∧
      b.rows = rows.map (fun z => .packet z.pkt.id) ∧ b.partition = p ∧ b.modelSlot = m ∧ b.epoch = y.pkt.epoch ∧ b.graph = g ∧
      b.stage = stage ∧ b.place = place ∧ (∀ z ∈ rows, t.InBatch w (batchNumber w (s.wing w).batchCtr) z.index) ∧
      (c.sites = [] → Sent t (batchNumber w (s.wing w).batchCtr) b) := by
  obtain ⟨rows, hrows⟩ : ∃ rows, (gather c g stage cfg.most [] (y :: ys)).1 = rows := ⟨_, rfl⟩
  have hcons := hrows
  rw [gather_cons _ _ _ _ _ cfg.most_pos] at hcons
  have hpre := gather_prefix c g stage cfg.most [y] ys
  rw [hcons] at hpre
  have hy : y ∈ rows := hpre.1.subset List.mem_cons_self
  have hall : ∀ z ∈ rows, JoinsBatch c y z := hcons ▸ joinsBatch_of_mem_gather c g stage cfg.most (by simp [JoinsBatch]) ys
  have hlen : rows.length ≤ cfg.most := hrows ▸ length_gather_le c g stage cfg.most (Nat.zero_le _) _
  have hexec := exec_batchClose hwait hmodel hstage hrows (List.any_eq_true.2 ⟨y, hy, decide_eq_true hdue⟩) hnumber hfree hplace
  obtain ⟨b, hb⟩ : ∃ b, Batch.closing s p m g stage place y c rows = b := ⟨_, rfl⟩
  rw [hb] at hexec
  have hformed : (s.formed w b rows).batchOf (batchNumber w (s.wing w).batchCtr) = some b :=
    (State.batchOf_boundTo ..).trans (State.batchOf_newBatch s hw b)
  have hin : ∀ z ∈ rows, (s.formed w b rows).InBatch w (batchNumber w (s.wing w).batchCtr) z.index := by
    refine fun z hz => State.inBatch_boundTo _ _ _ (fun x hx => ⟨x, ?_, rfl⟩) (.inl hz)
    rw [State.wing_newBatch]
    have hx' := hpre.2.subset hx
    rw [List.singleton_append, ← hwait] at hx'
    exact (List.mem_filter.1 hx').1
  unfold State.sentOrHeld at hexec
  split at hexec
  · refine ⟨_, rows, b.onItsWay, hexec, hy, hpre.2, hlen, hall, (State.sent_sendBatch ..).1, hb ▸ rfl, hb ▸ rfl, hb ▸ rfl, hb ▸ rfl,
      hb ▸ rfl, hb ▸ rfl, hb ▸ rfl, fun z hz => ?_, fun _ => State.sent_sendBatch ..⟩
    have hstairs := (State.sendBatch_keeps (s.formed w b rows) w (batchNumber w (s.wing w).batchCtr) b c (fun t => (t.wing w).stairs)
      fun _ _ _ => rfl).trans (State.setWing_keeps Wing.stairs (by rfl) w)
    unfold State.InBatch
    exact hstairs ▸ hin z hz
  · next hheld =>
    refine ⟨_, rows, b, hexec, hy, hpre.2, hlen, hall, hformed, hb ▸ rfl, hb ▸ rfl, hb ▸ rfl, hb ▸ rfl,
      hb ▸ rfl, hb ▸ rfl, hb ▸ rfl, hin, fun hsites => absurd ?_ hheld⟩
    simp [State.settled, hsites]

end

/-! ### BATCH_DESCRIPTOR (R324, R325) -/

/-- R324: the tile as its program starts. -/
def State.started (s : State) (i id : Nat) (b : Batch) (c : ControlSet) : State :=
  s.setTile i { s.tile i with
    descs := (s.tile i).descs.drop 1, cur := some id, bases := s.baseRegs b i, pc := (c.entries[b.place.entry]?).getD 0, ret := none
    checkWait := false, context := if s.is4840 then some b.partition else none }

section
variable {s : State} {i id : Nat} {rest : List Nat} {b : Batch} {c : ControlSet} (hdescs : (s.tile i).descs = id :: rest)
include hdescs

omit hdescs in
theorem exec_batchDescriptor_waits (hcur : (s.tile i).cur ≠ none) : Gives (.batchDescriptor i {}) s s := by
  obtain ⟨id', hid⟩ := Option.ne_none_iff_exists'.1 hcur
  change execBatchDescriptor i {} s = _
  simp only [execBatchDescriptor, hid] <;> rfl

theorem exec_batchDescriptor (hcur : (s.tile i).cur = none) (hb : s.batchOf id = some b) (hctl : (s.tile i).control b.epoch = some c)
    (haborted : b.aborted = false) (hruns : s.tileRuns i = true) (hclear : s.needsClear (s.tile i) b.partition = false) :
    Gives (.batchDescriptor i {}) s (((s.started i id b c).pump i).endCheck i id) := by
  change execBatchDescriptor i {} s = _
  simp only [execBatchDescriptor, hcur, hdescs, hb, hctl, haborted, hruns, hclear, State.countCorrected_none]
  refine congrArg Host.Outcome.next ?_
  refine (if_neg (by simp)).trans ((if_neg (by decide)).trans ?_)
  unfold State.startProgram State.started
  simp only [hclear, Bool.false_eq_true, if_false]

end

/-- R21, R34, R314, R324, R325, R430, R434, R478, R501. -/
theorem batchesFormAndStart : Claims.BatchesFormAndStart := by
  refine ⟨?_, ?_, ?_⟩
  · intro s w p m stage g place y ys img c cfg hw _ hwait hmodel hstage hdue hnumber hfree hplace
    exact batchClose_spec hw hwait hmodel hstage hdue hnumber hfree hplace
  · intro s w n b img c hw id hb hcfg hsent haborted hfree
    exact settleWait_spec hb hcfg hsent haborted hfree
  · intro s i id rest b c hdescs
    refine ⟨exec_batchDescriptor_waits, fun hcur hb hctl haborted hruns hclear =>
      ⟨_, exec_batchDescriptor hdescs hcur hb hctl haborted hruns hclear, ?_⟩⟩
    rw [State.started, State.tile_setTile, hdescs]
    exact ⟨rfl, rfl, rfl, rfl, rfl, rfl, rfl⟩

end Sys2Proof.Machine
end

section
/-!
PROOFS. Batches of chapters 8 and 11 quiesce and are issued again (R322, R359 to R361, R376).
-/
open Sys2Proof Sys2Proof.Machine Sys2Proof.Claims

namespace Sys2Proof.Machine

/-! ### QUIESCE (R360, R376) -/

theorem quiescedArr_quiesced (x : MatArray) : QuiescedArr x x.quiesced := by
  refine ⟨fun h => ?_, rfl, rfl, rfl, rfl, rfl, rfl, rfl, rfl, rfl, rfl, rfl, rfl, rfl⟩
  unfold MatArray.aHalf MatArray.bHalf
  constructor <;> split <;> rfl

section
variable (s : State) (w i id : Nat)

theorem State.batchOf_recallAll (hw : w < 2) :
    (s.recallAll w i).batchOf id = (s.batchOf id).map (fun b => if batchHome id = w then b.recall i else b) := by
  have hhome : batchHome id < 2 := Nat.mod_lt _ (by decide)
  unfold State.batchOf State.recallAll
  by_cases h : batchHome id = w
  · simp only [h, State.wing_setWing, if_true]
    exact mfind_mapValues (Batch.recall · i) _ _
  · rw [State.wing_setWing_other _ _ hw hhome h]
    simp [h]

/-- R360: the tile has quiesced. -/
def State.quieted (s : State) (i : Nat) : State := ((s.modTile i Tile.quiesced).recallAll 0 i).recallAll 1 i

theorem State.tiles_quieted : (s.quieted i).tiles = (s.modTile i Tile.quiesced).tiles :=
  (State.setWing_tiles ..).trans (State.setWing_tiles ..)

theorem State.batchOf_quieted : (s.quieted i).batchOf id = (s.batchOf id).map (Batch.recall · i) := by
  have hhome : batchHome id < 2 := Nat.mod_lt _ (by decide)
  rw [State.quieted, State.batchOf_recallAll _ _ _ _ (by decide), State.batchOf_recallAll _ _ _ _ (by decide)]
  change ((s.batchOf id).map _).map _ = _
  rw [Option.map_map]
  congr 1
  funext b
  have : batchHome id = 0 ∨ batchHome id = 1 := by omega
  rcases this with h | h <;> simp [h]

end

/-- R360: a tile that discards a sent batch that is already aborted is one of those that have quiesced. -/
theorem recall_spec {b : Batch} {i : Nat} (haborted : b.aborted = true) (hsent : b.sent = true) (hi : i ∈ b.place.tiles) :
    i ∈ (b.recall i).quiesced ∧ (b.recall i).rows = b.rows := by
  unfold Batch.recall
  simp only [hsent, haborted, List.contains_iff_mem.2 hi]
  split
  · contradiction
  split
  · split
    · next h => exact ⟨List.contains_iff_mem.1 h, rfl⟩
    · exact ⟨List.mem_cons_self, rfl⟩
  · contradiction

theorem exec_quiesce {s : State} {i : Nat} (hquiet : s.quiescing i = true) (hfree : s.wingFree (tileWing i) = true) :
    Gives (.quiesce i) s (s.quieted i) := by
  change execQuiesce i s = _
  exact congrArg Host.Outcome.next (if_neg (by simp [hquiet, hfree]))

theorem quiesce_spec {s : State} {i : Nat} (hquiet : s.quiescing i = true) (hfree : s.wingFree (tileWing i) = true) :
    ∃ t : State, Gives (.quiesce i) s t ∧ t.tile i = (s.tile i).quiesced ∧ (∀ j, j ≠ i → t.tile j = s.tile j) ∧
      ∀ id b, s.batchOf id = some b → b.aborted = true → b.sent = true → i ∈ b.place.tiles →
        ∃ c : Batch, t.batchOf id = some c ∧ i ∈ c.quiesced ∧ c.rows = b.rows := by
  have htile (j : Nat) : (s.quieted i).tile j = (s.modTile i Tile.quiesced).tile j := by
    rw [State.tile, State.tiles_quieted]; rfl
  refine ⟨_, exec_quiesce hquiet hfree, (htile i).trans (State.tile_modTile ..), fun j hj => (htile j).trans (State.tile_modTile_other _ _ hj),
    fun id b hb haborted hsent hi => ⟨_, ?_, recall_spec haborted hsent hi⟩⟩
  rw [State.batchOf_quieted, hb, Option.map_some]

/-! ### REISSUE (R361, R478, R813) -/

section
variable {s : State} {w n : Nat} {b : Batch} {img : Image} {c : SlotCfg} (hb : s.batchOf (batchNumber w n) = some b)
  (hcfg : s.batchCfg b = some (img, c)) (haborted : b.aborted = true) (hquiet : ∀ i ∈ b.place.tiles, i ∈ b.quiesced)
  (hfree : s.wingFree w = true)
include hb hcfg haborted hquiet hfree

/-- What REISSUE does with a batch that every tile has discarded. -/
theorem exec_reissue : Gives (.reissue w n) s
    (if b.abandoned then (s.dropRollouts b.partition (batchNumber w n) w).dropBatch (batchNumber w n)
    else if s.olderAborted b || s.blocked b || b.rows.any (fun r => (s.wing w).rejoin (batchNumber w n) b c r == .waits) then s
    else if (b.rows.filter (fun r => (s.wing w).rejoin (batchNumber w n) b c r == .ready)).isEmpty then s.dropBatch (batchNumber w n)
    else s.reissue w (batchNumber w n) b c (b.rows.filter (fun r => (s.wing w).rejoin (batchNumber w n) b c r == .ready))) := by
  change execReissue w n s = _
  simp only [execReissue, hb, hcfg]
  refine congrArg Host.Outcome.next (if_neg ?_)
  simpa [haborted, hfree] using hquiet

end

theorem State.reissue_eq (s : State) (w id : Nat) (b : Batch) (c : SlotCfg) (rows : List BatchRow) :
    ∃ u : State, s.reissue w id b c rows = u.sendBatch w id (b.afresh rows) c := ⟨_, rfl⟩

/-- An abandoned batch leaves the Wing's batches and no tile. -/
theorem State.dropped_spec (s : State) {w : Nat} (hw : w < 2) (n p : Nat) (hasc : Ascending (s.wing w).batches) :
    ((s.dropRollouts p (batchNumber w n) w).dropBatch (batchNumber w n)).batchOf (batchNumber w n) = none ∧
      ((s.dropRollouts p (batchNumber w n) w).dropBatch (batchNumber w n)).tiles = s.tiles := by
  constructor
  · rw [State.batchOf, State.dropBatch, batchHome_batchNumber hw, State.wing_setWing]
    exact mfind_mdel_same hasc _
  · exact State.setWing_tiles ..

/-- R322, R359 to R361, R376. -/
theorem quiesceAndReissue : Claims.QuiesceAndReissue := by
  constructor
  · intro s i hquiet hfree
    obtain ⟨t, hexec, htile, hother, hbatches⟩ := quiesce_spec hquiet hfree
    refine ⟨t, hexec, ?_⟩
    rw [htile]
    exact ⟨rfl, rfl, rfl, rfl, rfl, rfl, rfl, fun _ => rfl, rfl, quiescedArr_quiesced _, quiescedArr_quiesced _, hother, hbatches⟩
  · intro s w n b img c hw id hb hcfg haborted hquiet hfree
    have hexec := exec_reissue hb hcfg haborted hquiet hfree
    refine ⟨fun habandoned hasc => ?_, fun hkept hheld => ?_, fun hkept hfirst hopen hgraph hback hsome => ?_⟩
    · rw [if_pos habandoned] at hexec
      exact ⟨_, hexec, State.dropped_spec s hw n b.partition hasc⟩
    · rwa [if_neg (by simp [hkept]), if_pos (by rcases hheld with h | h <;> simp [h])] at hexec
    · have hback' : b.rows.any (fun r => (s.wing w).rejoin (batchNumber w n) b c r == .waits) = false := by
        simpa using hback
      obtain ⟨r, hr, hready⟩ := hsome
      have hne : (b.rows.filter (fun r => (s.wing w).rejoin (batchNumber w n) b c r == .ready)).isEmpty = false := by
        rw [List.isEmpty_eq_false_iff_exists_mem]
        exact ⟨r, List.mem_filter.2 ⟨hr, beq_iff_eq.2 hready⟩⟩
      rw [if_neg (by simp [hkept]), if_neg (by simp [hfirst, hopen, hback']), if_neg (by simp [hne])] at hexec
      obtain ⟨u, hu⟩ := State.reissue_eq s w id b c (b.rows.filter (fun r => (s.wing w).rejoin id b c r == .ready))
      exact ⟨_, _, hexec, hu ▸ State.sent_sendBatch .., rfl, rfl, rfl⟩

end Sys2Proof.Machine
end

section
/-!
PROOFS. Rollouts (R477 to R482, Tables 12-7, 12-8), and the batches of chapters 8, 11 and 12 as a whole.
-/
open Sys2Proof Sys2Proof.Machine Sys2Proof.Claims

namespace Sys2Proof.Machine

/-! ### ROLLOUT_START (R477, R482) -/

/-- R482: a rollout of a valid handle of the command's partition, queued for a Wing. -/
def State.rolloutOf (s : State) (p h k epoch : Nat) : RolloutStart :=
  { wing := hWing h, fromCommand := true, tag := 0, modelSlot := k, epoch := epoch, handle := h, entryGen := (s.entryAt h).gen,
    block := s.readBlock p h, startNt := s.nt }

/-- R477: it joins its partition's queue and is counted. -/
def State.queueRollout (s : State) (p h k epoch : Nat) : State :=
  let u := s.nextFree.bump (ctrOnWing (hWing h) (Ctr.partRolloutStarted p))
  u.setPart p { s.partOf p with rollouts := (s.partOf p).rollouts ++ [s.rolloutOf p h k epoch] }

section
variable {c : CmdIn} {h k : Nat} {s : State} {cmd : Cmd} {e : Epoch} {img : Image} (hready : Ready 0x0306 (.rolloutStart c h) c s cmd)
  (hsmall : h < 67108864) (hwing : hWing h < s.wings) (hover : hOverflow h = false) (hfree : s.wingFree (hWing h) = true)
include hready hsmall hwing hover hfree

theorem exec_rolloutStart_refused {st : Nat} (hst : (s.entryAt h).valid = false ∧ st = stNotFound ∨ (s.entryAt h).valid = true ∧
      (s.partOf cmd.hdr.partition).ownsBucket (hWing h) (hBucket h) = true ∧ (s.partOf cmd.hdr.partition).running = some e ∧
      (s.partOf cmd.hdr.partition).image e.slot = some img ∧ img.rolloutSlots = [] ∧ st = stNoFeature) :
    Fails (.rolloutStart c h) c s st := by
  refine ⟨0, ?_⟩
  change execRolloutStart c h s = _
  refine congrArg Host.Outcome.next ((ite_wingFree hfree _ _).trans (runNow_refuses hready ?_ ?_))
  · simpa [hover, State.wingBad] using ⟨hsmall, hwing⟩
  · rcases hst with ⟨hinvalid, rfl⟩ | ⟨hvalid, howns, hrun, himage, hslots, rfl⟩
    · simp [hinvalid]
    · simp [hvalid, howns, hrun, himage, hslots, hover]

theorem exec_rolloutStart (hvalid : (s.entryAt h).valid = true)
    (howns : (s.partOf cmd.hdr.partition).ownsBucket (hWing h) (hBucket h) = true) (hrun : (s.partOf cmd.hdr.partition).running = some e)
    (himage : (s.partOf cmd.hdr.partition).image e.slot = some img) (hblock : s.blockBad cmd.hdr.partition h = false)
    (hslots : img.rolloutSlots = [k]) (hroom : ((s.partOf cmd.hdr.partition).rollouts.filter (fun q => q.wing == hWing h)).length < 256) :
    Succeeds (.rolloutStart c h) c s (s.queueRollout cmd.hdr.partition h k e.number) := by
  have hinput : s.nextFree.rolloutInput cmd.hdr.partition h (s.entryAt h).gen e img =
      (s.readBlock cmd.hdr.partition h, s.nextFree) := if_neg (by rw [Bool.not_eq_true]; exact hblock)
  change execRolloutStart c h s = _
  refine congrArg Host.Outcome.next ((ite_wingFree hfree _ _).trans (runNow_completes hready ?_ (dataHere_of_ready hready) (t := s.queueRollout cmd.hdr.partition h k e.number) ?_ (.inl rfl) rfl))
  · simpa [hover, State.wingBad] using ⟨hsmall, hwing⟩
  · simp only [hover, howns, hvalid, hrun, himage, hslots, hinput, Option.bind_some, Option.map_some, Bool.not_true, Bool.or_self, Bool.false_eq_true,
      if_false]
    have hpart : (s.nextFree.bump (ctrOnWing (hWing h) (Ctr.partRolloutStarted cmd.hdr.partition))).partOf cmd.hdr.partition =
      s.partOf cmd.hdr.partition := State.partOf_bump ..
    have hnt : (s.nextFree.bump (ctrOnWing (hWing h) (Ctr.partRolloutStarted cmd.hdr.partition))).nt = s.nt :=
      congrArg TimeBase.nt (State.bump_time ..)
    unfold State.queueRollout State.rolloutOf
    dsimp only
    generalize s.nextFree.bump _ = u at *
    rw [hpart, hnt, List.length_singleton, Nat.mod_one]
    exact if_neg (Nat.not_le.2 hroom)

end

theorem State.rollouts_queueRollout (s : State) (p h k epoch : Nat) :
    ((s.queueRollout p h k epoch).partOf p).rollouts = (s.partOf p).rollouts ++ [s.rolloutOf p h k epoch] := by
  rw [State.queueRollout, State.partOf_setPart]

/-! ### ROLLOUT_BATCH (R478, R481) -/

/-- R481: a rollout that a batch of its model slot and epoch may take. -/
def RolloutStart.joins (r first : RolloutStart) (w m : Nat) : Bool :=
  r.wing == w && r.modelSlot == m && r.batch.isNone && r.epoch == first.epoch

/-- R481: the rollouts of an epoch that is no longer resident are discarded and counted. -/
def State.rolloutsDiscarded (s : State) (w p m : Nat) (first : RolloutStart) : State :=
  (s.setPart p { s.partOf p with rollouts := (s.partOf p).rollouts.filter (fun r => !r.joins first w m) }).bumpN
    (ctrOnWing w (Ctr.partRolloutDiscarded p)) ((s.partOf p).rollouts.filter (fun r => r.joins first w m)).length

/-- R478: the rollout batch, before it is sent. -/
def Batch.ofRollouts (s : State) (w p m : Nat) (plan : List Placement) (pl : Placement) (first : RolloutStart) (e : Epoch) (c : SlotCfg) : Batch :=
  { partition := p, modelSlot := m, imageSlot := e.slot, epoch := first.epoch, graph := .rollout, stage := 0
    rows := (((s.partOf p).rollouts.filter (fun r => r.joins first w m)).take 8).map (fun r => .rollout r r.block), place := pl
    stat := c.statOf first.startNt, plan := plan, order := s.hall.batchOrder }

/-- It has formed, and its rollouts name it. -/
def State.rolloutFormed (s : State) (w p m : Nat) (first : RolloutStart) (b : Batch) : State :=
  (s.newBatch w b).1.setPart p { s.partOf p with
    rollouts := markRollouts w m first.epoch (s.newBatch w b).2 8 (s.partOf p).rollouts }

section
variable {s : State} {w p m : Nat} {plan : List Placement} {first : RolloutStart} (hfree : s.wingFree w = true)
  (hfirst : (s.partOf p).rollouts.find? (fun r => r.wing == w && r.modelSlot == m && r.batch.isNone) = some first)
include hfree hfirst

theorem exec_rolloutBatch_discards (hgone : (s.partOf p).epochResident first.epoch = none) :
    Gives (.rolloutBatch w p m plan) s (s.rolloutsDiscarded w p m first) := by
  change execRolloutBatch w p m plan s = _
  refine congrArg Host.Outcome.next ?_
  simp only [hfree, if_true, hfirst, hgone]
  rfl

theorem exec_rolloutBatch {e : Epoch} {c : SlotCfg} {pl : Placement} {pls : List Placement}
    (hresident : (s.partOf p).epochResident first.epoch = some e) (hcfg : s.slotCfg p e.slot m = some c) (hrolls : c.rollsOut = true)
    (hplan : plan = pl :: pls) (hlen : plan.length = c.rollout.length)
    (hplace : ∀ q ∈ plan, s.placeOk w p first.epoch false q = true ∧ ∀ i ∈ q.tiles, s.verdictWaits i = false)
    (hnumber : (s.wing w).numberFree w = true) :
    Gives (.rolloutBatch w p m plan) s ((s.rolloutFormed w p m first (.ofRollouts s w p m plan pl first e c)).sentOrHeld w
      (batchNumber w (s.wing w).batchCtr) (.ofRollouts s w p m plan pl first e c) c) := by
  have hok : plan.all (fun q => s.placeOk w p first.epoch false q) = true := List.all_eq_true.2 fun q hq => (hplace q hq).1
  have hopen : plan.any (fun q => q.tiles.any (fun i => s.verdictWaits i)) = false := by simpa using fun q hq => (hplace q hq).2
  subst hplan
  change execRolloutBatch w p m _ s = _
  refine congrArg Host.Outcome.next ?_
  simp only [hfree, if_true, hfirst, hresident, hcfg]
  rw [if_neg (by rw [hok, hopen, hnumber]; simp [hrolls, hlen])]
  rfl

end

theorem State.batchOf_rolloutFormed (s : State) {w : Nat} (hw : w < 2) (p m : Nat) (first : RolloutStart) (b : Batch) :
    (s.rolloutFormed w p m first b).batchOf (batchNumber w (s.wing w).batchCtr) = some b := State.batchOf_newBatch s hw b

/-- R434: a batch of a model slot without dynamic sites is sent as it forms; any batch is there. -/
theorem State.sentOrHeld_spec {s : State} {id : Nat} {b : Batch} (hb : s.batchOf id = some b) (w : Nat) (c : SlotCfg) :
    ∃ b' : Batch, (s.sentOrHeld w id b c).batchOf id = some b' ∧ (c.sites = [] → Sent (s.sentOrHeld w id b c) id b') ∧ b'.graph = b.graph ∧
      b'.rows = b.rows := by
  unfold State.sentOrHeld
  split
  · exact ⟨b.onItsWay, (State.sent_sendBatch ..).1, fun _ => State.sent_sendBatch .., rfl, rfl⟩
  · next hheld => exact ⟨b, hb, fun hsites => absurd (by simp [State.settled, hsites]) hheld, rfl, rfl⟩

/-! ### ROLLOUT_RECORD (R479) -/

/-- R479, Table 12-7: the record of a batch's first rollout is counted and written. -/
def State.rolloutRecorded (s : State) (w : Nat) (b : Batch) (c : SlotCfg) (st : RolloutStart) : State :=
  (s.bump (ctrOnWing w (Ctr.partRolloutCompleted b.partition))).record b.partition c.rolloutCfg.queue c.rolloutCfg.priority 5
    (rolloutBody st c.rolloutCfg (b.forecast.headD []))

section
variable (s : State) (w : Nat) (b : Batch) (c : SlotCfg) (st : RolloutStart)

theorem State.wing_rolloutRecorded (v : Nat) : (s.rolloutRecorded w b c st).wing v = s.wing v :=
  (State.record_keeps (State.wing · v) (State.exportItem_keeps (State.wing · v) (fun _ _ _ => rfl) (fun _ _ _ => rfl)
    fun _ _ _ _ _ _ => by simp only [State.wing, State.bumpN_wing0, State.bumpN_wing1]) (fun _ _ => State.wing_bump ..) (fun _ _ _ _ => rfl) ..).trans (State.wing_bump ..)

theorem State.tiles_rolloutRecorded : (s.rolloutRecorded w b c st).tiles = s.tiles :=
  (State.record_keeps State.tiles (State.exportItem_keeps State.tiles (fun _ _ _ => rfl) (fun _ _ _ => rfl)
    fun _ _ _ _ _ _ => State.bumpN_tiles ..) (fun _ _ => State.bump_tiles ..) (fun _ _ _ _ => rfl) ..).trans
    (State.bump_tiles ..)

/-- The rollout leaves its queue. -/
def State.unqueued (s : State) (p w id : Nat) : State := s.modPart p (fun x => { x with rollouts := unqueue w id x.rollouts })

end

theorem exec_rolloutRecord {s : State} {w n : Nat} {b : Batch} {img : Image} {c : SlotCfg} {st : RolloutStart} {bl : Bytes}
    {rest : List BatchRow} (hb : s.batchOf (batchNumber w n) = some b) (hcfg : s.batchCfg b = some (img, c))
    (hrows : b.rows = .rollout st bl :: rest) (hrolled : b.rolled = true) (hfree : s.wingFree w = true) :
    Gives (.rolloutRecord w n) s (let u := (s.rolloutRecorded w b c st).unqueued b.partition w (batchNumber w n)
      if rest.isEmpty then u.dropBatch (batchNumber w n) else
        u.setBatch (batchNumber w n) { b with rows := rest, forecast := b.forecast.drop 1 }) := by
  change execRolloutRecord w n s = _
  simp only [execRolloutRecord, hb, hcfg, hrows]
  exact congrArg Host.Outcome.next (if_neg (by simp [hrolled, hfree]))

theorem rolloutRecord_spec {s : State} {w n : Nat} {b : Batch} {img : Image} {c : SlotCfg} {st : RolloutStart} {bl : Bytes}
    {rest : List BatchRow} (hw : w < 2) (hb : s.batchOf (batchNumber w n) = some b) (hcfg : s.batchCfg b = some (img, c))
    (hrows : b.rows = .rollout st bl :: rest) (hrolled : b.rolled = true) (hfree : s.wingFree w = true) :
    ∃ t : State, Gives (.rolloutRecord w n) s t ∧ t.rqs = (s.rolloutRecorded w b c st).rqs ∧
      t.counters = (s.rolloutRecorded w b c st).counters ∧ t.tiles = s.tiles ∧
      (rest ≠ [] → t.batchOf (batchNumber w n) = some { b with rows := rest, forecast := b.forecast.drop 1 }) ∧
      (rest = [] → Ascending (s.wing w).batches → t.batchOf (batchNumber w n) = none) := by
  refine ⟨_, exec_rolloutRecord hb hcfg hrows hrolled hfree, ?_⟩
  obtain ⟨u, hu⟩ : ∃ u, s.rolloutRecorded w b c st = u := ⟨_, rfl⟩
  have htiles : u.tiles = s.tiles := hu ▸ State.tiles_rolloutRecorded ..
  have hwing : u.wing w = s.wing w := hu ▸ State.wing_rolloutRecorded ..
  rw [hu]
  dsimp only
  split
  · next hempty =>
    refine ⟨State.setWing_rqs .., State.setWing_counters .., (State.setWing_tiles ..).trans htiles,
      fun h => absurd (List.isEmpty_iff.1 hempty) h, fun _ hasc => ?_⟩
    rw [State.batchOf, State.dropBatch, batchHome_batchNumber hw, State.wing_setWing]
    refine mfind_mdel_same ?_ _
    exact (congrArg (fun x : Wing => Ascending x.batches) hwing).mpr hasc
  · next hmore =>
    refine ⟨State.setWing_rqs .., State.setWing_counters .., (State.setWing_tiles ..).trans htiles, fun _ => ?_,
      fun h _ => absurd (List.isEmpty_iff.2 h) hmore⟩
    rw [State.batchOf_setBatch, if_pos rfl]

/-- R477 to R482 (Tables 12-7, 12-8). -/
theorem rolloutsRun : Claims.RolloutsRun := by
  refine ⟨?_, ?_, ?_⟩
  · intro c h s cmd e img k hready hsmall hwing hover hfree _ howns
    refine ⟨fun hinvalid => exec_rolloutStart_refused (e := e) (img := img) hready hsmall hwing hover hfree (.inl ⟨hinvalid, rfl⟩),
      fun hvalid hrun himage hblock => ⟨fun hslots => ?_, fun hslots hroom => ?_⟩⟩
    · exact exec_rolloutStart_refused hready hsmall hwing hover hfree (.inr ⟨hvalid, howns, hrun, himage, hslots, rfl⟩)
    · exact ⟨_, exec_rolloutStart hready hsmall hwing hover hfree hvalid howns hrun himage hblock hslots hroom, State.rollouts_queueRollout ..⟩
  · intro s w p m plan first hw _ hfree hfirst
    refine ⟨fun hgone => ⟨_, exec_rolloutBatch_discards hfree hfirst hgone, ?_, State.bumpN_tiles ..⟩,
      fun e c pl pls hresident hcfg hrolls hplan hlen hplace hnumber => ?_⟩
    · rw [State.rolloutsDiscarded, State.partOf, State.bumpN_parts]
      exact congrArg Partition.rollouts (State.partOf_setPart ..)
    · obtain ⟨b, hb, hsent, hgraph, hrows⟩ := State.sentOrHeld_spec
        (State.batchOf_rolloutFormed s hw p m first (.ofRollouts s w p m plan pl first e c)) w c
      exact ⟨_, b, exec_rolloutBatch hfree hfirst hresident hcfg hrolls hplan hlen hplace hnumber, hb, hsent, hgraph, hrows⟩
  · intro s w n b img c st bl rest hw id hb hcfg hrows hrolled hfree _
    exact ⟨_, rfl, rolloutRecord_spec hw hb hcfg hrows hrolled hfree⟩

/-- Settles O26, an equation for each of the eight commands, with what sending a batch leaves as the one lemma that forming, settling and
issuing again share. -/
theorem batchesAndRollouts : Obligations.BatchesAndRollouts := ⟨batchesFormAndStart, quiesceAndReissue, rolloutsRun⟩

end Sys2Proof.Machine
end

section
/-!
PROOFS. The PCIe link of chapter 16 and its resets (R588 to R593): what the reset of a function takes, and what it leaves of the verdict
path.
-/
open Sys2Proof Sys2Proof.Machine Sys2Proof.Claims

namespace Sys2Proof.Machine

/-! ### The verdict path stands (R591) -/

theorem pathStands_refl (s : State) : PathStands s s := ⟨rfl, rfl, rfl, fun _ => ⟨rfl, fun _ _ => rfl⟩⟩

theorem pathStands_trans {s t u : State} (h : PathStands s t) (h' : PathStands t u) : PathStands s u := by
  obtain ⟨htime, htiles, hhall, hparts⟩ := h
  obtain ⟨htime', htiles', hhall', hparts'⟩ := h'
  refine ⟨htime'.trans htime, htiles'.trans htiles, hhall'.trans hhall, fun p => ⟨(hparts' p).1.trans (hparts p).1, fun n hn => ?_⟩⟩
  have hslot := (hparts p).2 n hn
  exact ((hparts' p).2 n (hslot ▸ hn)).trans hslot

theorem pathStands_of_parts {s t : State} (htime : t.time = s.time) (htiles : t.tiles = s.tiles) (hhall : t.hall = s.hall)
    (hparts : t.parts = s.parts) : PathStands s t := by
  refine ⟨htime, htiles, hhall, fun p => ?_⟩
  rw [State.partOf, hparts]
  exact ⟨rfl, fun _ _ => rfl⟩

theorem pathStands_foldl {α : Type} {f : State → α → State} (hf : ∀ s a, PathStands s (f s a)) (l : List α) (s : State) :
    PathStands s (l.foldl f s) := by
  induction l generalizing s with
  | nil => exact pathStands_refl s
  | cons a l ih => exact pathStands_trans (hf s a) (ih _)

/-! ### The commands of a ring are cut off (R592) -/

section
variable (s : State) (p n r fn : Nat)

theorem State.erasePlain_keeps {α : Type} (g : State → α) (hwing : ∀ s w x, g (State.setWing s w x) = g s)
    (hhealth : ∀ (s : State) h, g { s with health := h } = g s) : g (s.erasePlain p n) = g s := by
  unfold State.erasePlain
  split
  · exact foldl_keeps g _ (fun _ _ => State.regionClear_keeps g hwing hhealth ..) _ s
  · rfl

theorem State.emptySlot_keeps {α : Type} (g : State → α) (hsec : ∀ (s : State) x, g { s with sec := x } = g s)
    (hfree : ∀ s, g (State.nextFree s) = g s) (hpart : ∀ s p x, g (State.setPart s p x) = g s) (hbump : ∀ s id, g (State.bump s id) = g s) :
    g (s.emptySlot p n) = g s :=
  (State.issueLeaf_frame g hsec hfree hpart (fun _ => hbump ..) _ p).trans ((hbump ..).trans (hpart ..))

theorem State.partOf_modPart_keeps {α : Type} (g : Partition → α) {f : Partition → Partition} (hf : ∀ x, g (f x) = g x) (q : Nat) :
    g ((s.modPart p f).partOf q) = g (s.partOf q) := by
  by_cases hq : q = p
  · subst hq; rw [State.partOf_modPart, hf]
  · exact congrArg g (State.partOf_setPart_other _ _ hq)

theorem State.partOf_issueLeaf_keeps {α : Type} (g : Partition → α) (hg : ∀ x leaf, g { x with leaf := leaf } = g x) (q : Nat) :
    g ((s.issueLeaf p).partOf q) = g (s.partOf q) := by
  unfold State.issueLeaf
  split
  · rfl
  · rw [State.partOf_bump]
    exact (State.partOf_modPart_keeps _ _ g (fun x => hg x _) q).trans rfl

/-- R592: only a slot that is being loaded becomes EMPTY. -/
theorem pathStands_emptySlot (hload : ((s.partOf p).slot n).loadRing ≠ none) : PathStands s (s.emptySlot p n) := by
  refine ⟨State.emptySlot_keeps s p n State.time (fun _ _ => rfl) (fun _ => rfl) (fun _ _ _ => rfl) (fun _ _ => State.bump_time ..),
    State.tiles_emptySlot .., State.emptySlot_keeps s p n State.hall (fun _ _ => rfl) (fun _ => rfl) (fun _ _ _ => rfl)
      (fun _ _ => State.bump_hall ..), fun q => ⟨?_, fun m hm => ?_⟩⟩
  · rw [State.emptySlot, State.partOf_issueLeaf_keeps _ _ Partition.running (fun _ _ => rfl), State.partOf_bump]
    by_cases hq : q = p
    · subst hq
      rw [State.endLoad, State.partOf_modPart]
      unfold Partition.setSlot; split <;> rfl
    · exact congrArg Partition.running (State.partOf_setPart_other _ _ hq)
  · rw [State.emptySlot, State.partOf_issueLeaf_keeps _ _ (Partition.slot · m) (fun _ _ => rfl), State.partOf_bump]
    by_cases hq : q = p
    · subst hq
      rw [State.slot_endLoad, Partition.slot_setSlot, if_neg]
      intro hsame
      have : (s.partOf q).slot m = (s.partOf q).slot n := by simp only [Partition.slot, hsame]
      exact hload (this ▸ hm)
    · exact congrArg (Partition.slot · m) (State.partOf_setPart_other _ _ hq)

theorem pathStands_dropLoads : PathStands s (s.dropLoads r) := by
  refine pathStands_foldl (fun s p => pathStands_foldl (fun s n => ?_) _ s) _ s
  split
  · next hload =>
    have hparts : (s.erasePlain p n).parts = s.parts := State.erasePlain_keeps s p n State.parts State.setWing_parts fun _ _ => rfl
    refine pathStands_trans (pathStands_of_parts (State.erasePlain_keeps s p n State.time State.setWing_time fun _ _ => rfl)
      (State.erasePlain_keeps s p n State.tiles State.setWing_tiles fun _ _ => rfl)
      (State.erasePlain_keeps s p n State.hall State.setWing_hall fun _ _ => rfl) hparts) (pathStands_emptySlot _ p n ?_)
    rw [State.partOf, hparts]
    exact fun hnone => Option.some_ne_none _ (hload.symm.trans hnone)
  · exact pathStands_refl s

theorem pathStands_cutRing : PathStands s (s.cutRing r) := by
  refine pathStands_trans (pathStands_dropLoads s r) ⟨rfl, rfl, rfl, fun p => ?_⟩
  have hpart : (s.cutRing r).partOf p = ((s.dropLoads r).partOf p).dropRing r := by
    change mget {} (s.dropLoads r |>.parts.map (fun e => (e.1, e.2.dropRing r))) p = _
    rw [mget_eq_mfind, mfind_mapValues (fun x : Partition => x.dropRing r), State.partOf, mget_eq_mfind]
    cases mfind (s.dropLoads r).parts p <;> rfl
  change ((s.cutRing r).partOf p).running = _ ∧ ∀ n, _ → ((s.cutRing r).partOf p).slot n = _
  rw [hpart]
  exact ⟨rfl, fun _ _ => rfl⟩

theorem pathStands_cutTransfers : PathStands s (s.cutTransfers fn) := by
  unfold State.cutTransfers
  split
  · exact pathStands_refl s
  split
  · exact pathStands_of_parts rfl rfl rfl rfl
  · exact pathStands_refl s

theorem State.host_cutTransfers : (s.cutTransfers fn).host = s.host := by
  unfold State.cutTransfers
  split
  · rfl
  split <;> rfl

theorem State.endBounce_keeps {α : Type} (g : State → α) (hhost : ∀ (s : State) h, g { s with host := h } = g s)
    (hvec : ∀ s f v, g (State.sendVector s f v) = g s) : g (s.endBounce fn) = g s := by
  unfold State.endBounce
  dsimp only
  split
  · exact (hvec ..).trans ((hhost ..).trans (hhost ..))
  · rfl

theorem pathStands_endBounce : PathStands s (s.endBounce fn) :=
  pathStands_of_parts (State.endBounce_keeps s fn State.time (fun _ _ => rfl) State.sendVector_time)
    (State.endBounce_keeps s fn State.tiles (fun _ _ => rfl) State.sendVector_tiles)
    (State.endBounce_keeps s fn State.hall (fun _ _ => rfl) State.sendVector_hall) (State.parts_endBounce ..)

end

/-! ### The reset of a function (R591 to R593) -/

/-- R592: what goes on of a function's commands is cut off; its host-facing state still stands. -/
def State.cutFn (s : State) (fn : Nat) : State :=
  (((s.ringsOf fn).foldl (fun s r => s.cutRing r) s).cutTransfers fn).bumpN (Ctr.funcResetDiscarded fn)
    (((s.host.rings.filter (fun e => e.2.fn == fn)).map (fun e => e.2.discarded)).foldl (· + ·) 0)

/-- R591, R592: its rings, vectors and state go, less a snapshot on its way into the window. -/
def State.wiped (s : State) (fn : Nat) : State :=
  { s with host := { s.host with
      rings := s.host.rings.filter (fun e => e.2.fn != fn)
      vecs := s.host.vecs.filter (fun e => e.1 / 1024 != fn)
      funcs := if (s.func fn).hidden.isEmpty then mdel s.host.funcs fn else mput s.host.funcs fn { hidden := (s.func fn).hidden } } }

theorem State.resetFn_eq (s : State) (fn : Nat) : s.resetFn fn = ((s.cutFn fn).endBounce fn).wiped fn := rfl

section
variable (s : State) (fn : Nat)

theorem State.host_cutFn : (s.cutFn fn).host = s.host :=
  (State.bumpN_host ..).trans ((State.host_cutTransfers ..).trans (foldl_keeps State.host _ (fun _ _ => State.host_cutRing ..) _ s))

theorem pathStands_cutFn : PathStands s (s.cutFn fn) := by
  refine pathStands_trans (pathStands_foldl (f := fun s r => s.cutRing r) (fun _ _ => pathStands_cutRing ..) (s.ringsOf fn) s)
    (pathStands_trans (pathStands_cutTransfers _ fn) ?_)
  exact pathStands_of_parts (State.bumpN_time ..) (State.bumpN_tiles ..) (State.bumpN_hall ..) (State.bumpN_parts ..)

theorem pathStands_resetFn : PathStands s (s.resetFn fn) :=
  pathStands_trans (pathStands_cutFn s fn) (pathStands_trans (pathStands_endBounce ..) (pathStands_of_parts rfl rfl rfl rfl))

/-- R628: the rings that a function without bounce-buffer mode keeps. -/
theorem State.rings_endBounce_map : ∃ f : Nat × Ring → Nat × Ring, (s.endBounce fn).host.rings = s.host.rings.map f ∧
    ∀ e, (f e).1 = e.1 ∧ (f e).2.fn = e.2.fn := by
  cases h : (s.func fn).bounce with
  | true => exact ⟨_, State.rings_endBounce h, fun e => ⟨rfl, Ring.emptied_keeps Ring.fn (fun _ _ => rfl) ..⟩⟩
  | false => exact ⟨id, by rw [State.endBounce_idle h, List.map_id], fun _ => ⟨rfl, rfl⟩⟩

theorem State.ringsOf_endBounce (g : Nat) : (s.endBounce fn).ringsOf g = s.ringsOf g := by
  obtain ⟨f, hrings, hf⟩ := s.rings_endBounce_map fn
  rw [State.ringsOf, hrings, List.filter_map, List.map_map]
  have hfst : (fun e : Nat × Ring => e.1) ∘ f = fun e => e.1 := funext fun e => (hf e).1
  have hown : (fun e : Nat × Ring => e.2.fn == g) ∘ f = fun e => e.2.fn == g := funext fun e => by simp [(hf e).2]
  rw [hfst, hown]
  rfl

/-- The end of bounce-buffer mode signals no other function. -/
theorem State.vec_endBounce {g v : Nat} (hg : g ≠ fn) (hv : v < 1024) : (s.endBounce fn).vec g v = s.vec g v := by
  cases h : (s.func fn).bounce with
  | false => rw [State.endBounce_idle h]
  | true =>
    rw [State.endBounce_eq h, State.sendVector]
    split
    · exact mget_mput_other _ _ _ (by omega)
    · rw [State.vec, State.bump_host]; rfl

theorem State.ringsOf_wiped (g : Nat) : (s.wiped fn).ringsOf g = if g = fn then [] else s.ringsOf g := by
  unfold State.ringsOf State.wiped
  rw [List.filter_filter]
  split
  · next hg =>
    subst hg
    simp
  · next hg =>
    congr 1
    refine List.filter_congr fun e _ => ?_
    by_cases he : e.2.fn = g <;> simp [he, hg]

theorem State.vec_wiped {g v : Nat} (hv : v < 1024) :
    (s.wiped fn).vec g v = if g = fn then { masked := true, pending := false } else s.vec g v := by
  have hkey : (1024 * g + v) / 1024 = g := by omega
  change mget _ (s.host.vecs.filter (fun e => e.1 / 1024 != fn)) (1024 * g + v) = _
  split
  · next hg => subst hg; exact mget_filter_of_dropped _ fun e _ he => by simp only [he, hkey, bne_self_eq_false]
  · next hg => exact mget_filter_of_kept _ (f := fun e => e.1 / 1024 != fn) fun e _ he => by simpa only [he, hkey, bne_iff_ne] using hg

theorem State.func_wiped (hasc : Ascending s.host.funcs) (g : Nat) :
    (s.wiped fn).func g = if g = fn then { hidden := (s.func fn).hidden } else s.func g := by
  change mget {} (if (s.func fn).hidden.isEmpty then mdel s.host.funcs fn else mput s.host.funcs fn { hidden := (s.func fn).hidden }) g = _
  split
  · next hempty =>
    split
    · next hg =>
      subst hg
      rw [mget_eq_mfind, mfind_mdel_same hasc, List.isEmpty_iff.1 hempty]
      rfl
    · next hg => rw [mget_eq_mfind, mfind_mdel_other _ hg, State.func, mget_eq_mfind]
  · split
    · next hg => subst hg; exact mget_mput_same ..
    · next hg => exact mget_mput_other _ _ _ hg

theorem State.ascending_wiped (hasc : Ascending s.host.funcs) : Ascending (s.wiped fn).host.funcs := by
  change Ascending (if (s.func fn).hidden.isEmpty then mdel s.host.funcs fn else mput s.host.funcs fn { hidden := (s.func fn).hidden })
  split
  · exact Rising.mdel hasc fn
  · exact Rising.mput hasc fn _

theorem State.ascending_endBounce (hasc : Ascending s.host.funcs) : Ascending (s.endBounce fn).host.funcs := by
  cases h : (s.func fn).bounce with
  | false => rwa [State.endBounce_idle h]
  | true => rw [State.endBounce_eq h, State.funcs_sendVector]; exact Rising.mput hasc fn _

/-- What the reset of function `fn` makes of every function, ring and vector. -/
structure FnWiped (s t : State) : Prop where
  own : FnReset fn s t
  func_other : ∀ g, g ≠ fn → t.func g = s.func g
  rings_other : ∀ g, g ≠ fn → t.ringsOf g = s.ringsOf g
  vec_other : ∀ g v, g ≠ fn → v < 1024 → t.vec g v = s.vec g v
  path : PathStands s t
  ascending : Ascending t.host.funcs

theorem fnWiped_resetFn (hasc : Ascending s.host.funcs) : FnWiped fn s (s.resetFn fn) := by
  have hpath := pathStands_resetFn s fn
  have hhost := s.host_cutFn fn
  rw [State.resetFn_eq] at hpath ⊢
  obtain ⟨u, hu⟩ : ∃ u, s.cutFn fn = u := ⟨_, rfl⟩
  rw [hu] at hpath hhost ⊢
  have hasc' : Ascending (u.endBounce fn).host.funcs := u.ascending_endBounce fn (hhost.symm ▸ hasc)
  have hfunc (g : Nat) : u.func g = s.func g := by simp only [State.func, hhost]
  have hrings (g : Nat) : u.ringsOf g = s.ringsOf g := by simp only [State.ringsOf, hhost]
  have hvec (g v : Nat) : u.vec g v = s.vec g v := by simp only [State.vec, hhost]
  refine ⟨⟨?_, ?_, fun v hv => ?_⟩, fun g hg => ?_, fun g hg => ?_, fun g v hg hv => ?_, hpath, State.ascending_wiped _ _ hasc'⟩
  · rw [State.func_wiped _ _ hasc', if_pos rfl, State.func_endBounce, hfunc]
    congr 1
    unfold Func.bounceEnded; split <;> rfl
  · rw [State.ringsOf_wiped, if_pos rfl]
  · rw [State.vec_wiped _ _ hv, if_pos rfl]
  · rw [State.func_wiped _ _ hasc', if_neg hg, State.otherFuncs_endBounce _ _ _ hg, hfunc]
  · rw [State.ringsOf_wiped, if_neg hg, State.ringsOf_endBounce, hrings]
  · rw [State.vec_wiped _ _ hv, if_neg hg, State.vec_endBounce _ _ hg hv, hvec]

/-- R591: the resets of some functions, one after the other. -/
theorem fnReset_foldl_resetFn {fns : List Nat} (hnodup : fns.Nodup) (hasc : Ascending s.host.funcs) :
    PathStands s (fns.foldl (fun s f => s.resetFn f) s) ∧ (∀ g ∈ fns, FnReset g s (fns.foldl (fun s f => s.resetFn f) s)) ∧
      ∀ g ∉ fns, (fns.foldl (fun s f => s.resetFn f) s).func g = s.func g ∧ (fns.foldl (fun s f => s.resetFn f) s).ringsOf g = s.ringsOf g ∧
        ∀ v, v < 1024 → (fns.foldl (fun s f => s.resetFn f) s).vec g v = s.vec g v := by
  induction fns generalizing s with
  | nil => exact ⟨pathStands_refl s, fun _ h => absurd h List.not_mem_nil, fun _ _ => ⟨rfl, rfl, fun _ _ => rfl⟩⟩
  | cons f fns ih =>
    obtain ⟨hf, hnodup⟩ := List.nodup_cons.1 hnodup
    have hw := fnWiped_resetFn s f hasc
    obtain ⟨hpath, hreset, hother⟩ := ih (s.resetFn f) hnodup hw.ascending
    rw [List.foldl_cons]
    refine ⟨pathStands_trans hw.path hpath, fun g hg => ?_, fun g hg => ?_⟩
    · rcases List.mem_cons.1 hg with rfl | htail
      · obtain ⟨hfunc, hrings, hvec⟩ := hother g hf
        obtain ⟨ofunc, orings, ovec⟩ := hw.own
        exact ⟨hfunc.trans ofunc, hrings.trans orings, fun v hv => (hvec v hv).trans (ovec v hv)⟩
      · have hne : g ≠ f := fun h => hf (h ▸ htail)
        obtain ⟨hfunc, hrest⟩ := hreset g htail
        exact ⟨hfunc.trans (by rw [hw.func_other g hne]), hrest⟩
    · obtain ⟨hne, htail⟩ := not_or.1 (mt List.mem_cons.2 hg)
      obtain ⟨hfunc, hrings, hvec⟩ := hother g htail
      exact ⟨hfunc.trans (hw.func_other g hne), hrings.trans (hw.rings_other g hne), fun v hv => (hvec v hv).trans (hw.vec_other g v hne hv)⟩

/-- R593: a VF that moves to TDISP state ERROR keeps its hidden snapshot and the verdict path. -/
theorem State.tdispFail_path (hfn : fn < 9) (hasc : Ascending s.host.funcs) : PathStands s (s.tdispFail fn) ∧
    (∀ g, ((s.tdispFail fn).func g).hidden = (s.func g).hidden) ∧ Ascending (s.tdispFail fn).host.funcs := by
  obtain ⟨hfunc, hother, hparts, htiles⟩ := State.tdispFail_frame (s := s) hfn
  refine ⟨pathStands_of_parts ?_ htiles ?_ hparts, fun g => ?_, ?_⟩
  · exact State.tdispFail_keeps State.time (fun _ _ _ => rfl) State.sendVector_time State.modRing_time State.modAssoc_time State.setSticky_time
      State.bump_time s fn
  · exact State.tdispFail_keeps State.hall (fun _ _ _ => rfl) State.sendVector_hall State.modRing_hall State.modAssoc_hall State.setSticky_hall
      State.bump_hall s fn
  · by_cases hg : g = fn
    · rw [hg, hfunc]
      exact Func.tdispFailed_keeps Func.hidden (fun _ _ _ _ => rfl) (fun _ _ => rfl) _
    · rw [hother g hg]
  · by_cases h : (s.func fn).tdisp = .locked ∨ (s.func fn).tdisp = .run
    · have hfuncs : (s.tdispFail fn).host.funcs = (s.toError fn).host.funcs := by simp [State.tdispFail_eq h]
      rw [hfuncs, State.toError, State.closeSession, if_pos hfn]
      split
      · rw [State.funcs_sendVector]; exact Rising.mput (Rising.mput hasc ..) ..
      · exact Rising.mput hasc ..
    · rwa [State.tdispFail_idle h]

theorem State.foldl_tdispFail_path {fns : List Nat} (hfns : ∀ f ∈ fns, f < 9) (hasc : Ascending s.host.funcs) :
    PathStands s (fns.foldl (fun s f => s.tdispFail f) s) ∧
    (∀ g, ((fns.foldl (fun s f => s.tdispFail f) s).func g).hidden = (s.func g).hidden) ∧
    Ascending (fns.foldl (fun s f => s.tdispFail f) s).host.funcs := by
  induction fns generalizing s with
  | nil => exact ⟨pathStands_refl s, fun _ => rfl, hasc⟩
  | cons f fns ih =>
    obtain ⟨hpath, hhidden, hasc'⟩ := s.tdispFail_path f (hfns f List.mem_cons_self) hasc
    obtain ⟨hpath', hhidden', hasc''⟩ := ih _ (fun g hg => hfns g (List.mem_cons_of_mem _ hg)) hasc'
    exact ⟨pathStands_trans hpath hpath', fun g => (hhidden' g).trans (hhidden g), hasc''⟩

end

/-! ### The resets (R591, R593) -/

/-- R591: the link while PERST_N is asserted. -/
def State.linkDown (s : State) : State :=
  { s with host := { s.host with perstN := false, linkUp := false, width := 0, rate := 0, linkIde := none } }

section
variable {s : State} (hasc : Ascending s.host.funcs)
include hasc

/-- R591, R593: the reset of every function. -/
theorem resetAll_spec : PathStands s ((List.range 9).foldl (fun s f => s.resetFn f) s) ∧
    ∀ fn, fn ≤ 8 → FnReset fn s ((List.range 9).foldl (fun s f => s.resetFn f) s) := by
  obtain ⟨hpath, hreset, -⟩ := fnReset_foldl_resetFn s List.nodup_range hasc
  exact ⟨hpath, fun fn hfn => hreset fn (List.mem_range.2 (by omega))⟩

omit hasc in
theorem exec_perstNAssert : Gives .perstNAssert s ((List.range 9).foldl (fun s f => s.resetFn f) s).linkDown := rfl

theorem perstNAssert_spec : ∃ t : State, Gives .perstNAssert s t ∧ t.host.perstN = false ∧ t.host.linkUp = false ∧
    t.host.linkIde = none ∧ (∀ fn, fn ≤ 8 → FnReset fn s t) ∧ PathStands s t := by
  obtain ⟨hpath, hreset⟩ := resetAll_spec hasc
  refine ⟨_, exec_perstNAssert, ?_⟩
  generalize (List.range 9).foldl (fun s f => s.resetFn f) s = u at hpath hreset
  exact ⟨rfl, rfl, rfl, hreset, hpath⟩

theorem functionLevelReset_spec {fn : Nat} (hfree : s.hallFree = true) (hfn : fn ≤ 8) :
    ∃ t : State, Gives (.functionLevelReset fn) s t ∧ FnReset fn s t ∧ PathStands s t ∧ (fn = 0 → ∀ g, g ≤ 8 → FnReset g s t) ∧
      (fn ≠ 0 → ∀ g, g ≠ fn → t.func g = s.func g ∧ t.ringsOf g = s.ringsOf g) := by
  have hexec : Gives (.functionLevelReset fn) s (if fn = 0 then
      (List.range 9).foldl (fun s f => s.resetFn f) (vfNumbers.foldl (fun s f => s.tdispFail f) s) else s.resetFn fn) :=
    congrArg Host.Outcome.next (State.whenFree_of_free hfree _)
  refine ⟨_, hexec, ?_⟩
  by_cases h0 : fn = 0
  · rw [if_pos h0]
    obtain ⟨hpath, hhidden, hasc'⟩ := s.foldl_tdispFail_path (fns := vfNumbers) (by decide) hasc
    obtain ⟨hpath', hreset⟩ := resetAll_spec hasc'
    have hall (g : Nat) (hg : g ≤ 8) :
        FnReset g s ((List.range 9).foldl (fun s f => s.resetFn f) (vfNumbers.foldl (fun s f => s.tdispFail f) s)) := by
      obtain ⟨hfunc, hrest⟩ := hreset g hg
      exact ⟨hfunc.trans (by rw [hhidden]), hrest⟩
    exact ⟨hall fn hfn, pathStands_trans hpath hpath', fun _ => hall, fun h => absurd h0 h⟩
  · rw [if_neg h0]
    have hw := fnWiped_resetFn s fn hasc
    exact ⟨hw.own, hw.path, fun h => absurd h h0, fun _ g hg => ⟨hw.func_other g hg, hw.rings_other g hg⟩⟩

end

/-- R588, R642: the link after its training. -/
theorem pcieLinkTrained_spec {s : State} (hfree : s.hallFree = true) (hperst : s.host.perstN = true) (width rate : Nat) :
    ∃ t : State, Gives (.pcieLinkTrained width rate) s t ∧ t.host.linkUp = true ∧ t.host.width = width ∧ t.host.rate = rate ∧
      ((width < 16 ∨ rate < 640) → t.stickyBit 112 = true) ∧ (16 ≤ width → 640 ≤ rate → t.sticky = s.sticky) := by
  obtain ⟨u, hu⟩ : ∃ u, (if s.host.linkUp then s.bump Ctr.hallLinkRetrain else s) = u := ⟨_, rfl⟩
  have hsticky : u.sticky = s.sticky := by rw [← hu]; split <;> simp
  let t : State := { u with host := { u.host with linkUp := true, width := width, rate := rate } }
  have hexec : Gives (.pcieLinkTrained width rate) s (if width < 16 ∨ rate < 640 then t.setSticky 112 else t) := by
    change execPcieLinkTrained width rate s = _
    subst hu
    refine congrArg Host.Outcome.next ((State.whenFree_of_free hfree _).trans ?_)
    rw [if_neg (by simp [hperst])]
  refine ⟨_, hexec, ?_⟩
  by_cases hpoor : width < 16 ∨ rate < 640
  · rw [if_pos hpoor]
    rw [State.setSticky_host]
    exact ⟨rfl, rfl, rfl,
      fun _ => State.stickyBit_setSticky_self _ (by decide), fun _ _ => by omega⟩
  · rw [if_neg hpoor]
    exact ⟨rfl, rfl, rfl, fun h => absurd h hpoor, fun _ _ => hsticky⟩

/-- R588, R589, R591 to R593. -/
theorem linkAndResets : Claims.LinkAndResets := by
  refine ⟨fun s halive hperst => ?_, fun width rate s hfree hperst => pcieLinkTrained_spec hfree hperst width rate, fun s => rfl,
    fun s hasc => perstNAssert_spec hasc, fun fn s hasc hfree hfn => functionLevelReset_spec hasc hfree hfn⟩
  exact congrArg Host.Outcome.next (if_neg (by simp [halive, hperst]))

end Sys2Proof.Machine
end

section
/-!
PROOFS. Registers and doorbells of chapter 16 (R602 to R620, R625, R717).
-/
open Sys2Proof Sys2Proof.Machine Sys2Proof.Claims

namespace Sys2Proof.Machine

theorem dead_of_hallFree {s : State} (hfree : s.hallFree = true) : s.dead = false := by
  simp only [State.hallFree, Bool.and_eq_true, Bool.not_eq_true'] at hfree
  exact hfree.2

theorem State.trusted_of {s : State} {fn : Nat} {tee : Bool} (h : s.untrusted fn tee = false) (f : State → State) :
    s.trusted fn tee f = f s := if_neg (by simp [h])

/-! ### The admin ring (R607, R608, R610, R620) -/

/-- The highest of the numbers below `n` that passes a test. -/
theorem find?_reverse_range_eq_some {q : Nat → Bool} {n g : Nat} (h : (List.range n).reverse.find? q = some g) :
    g < n ∧ q g = true ∧ ∀ m, m < n → g < m → q m = false := by
  induction n with
  | zero => exact absurd h (by simp)
  | succ n ih =>
    rw [List.range_succ, List.reverse_append, List.reverse_singleton, List.singleton_append, List.find?_cons] at h
    split at h
    · next hn =>
      obtain rfl : n = g := by simpa using h
      exact ⟨Nat.lt_succ_self _, hn, fun m hm hlow => by omega⟩
    · next hn =>
      obtain ⟨hlt, hq, hrest⟩ := ih h
      refine ⟨by omega, hq, fun m hm hlow => ?_⟩
      rcases Nat.lt_succ_iff_lt_or_eq.1 hm with hlt' | rfl
      · exact hrest m hlt' hlow
      · simpa using hn

theorem find?_reverse_range_eq_none {q : Nat → Bool} {n : Nat} (h : (List.range n).reverse.find? q = none) :
    ∀ m, m < n → q m = false := fun m hm => by
  simpa using List.find?_eq_none.1 h m (List.mem_reverse.2 (List.mem_range.2 hm))

theorem State.freeGlobal_spec (s : State) :
    (∀ g, s.freeGlobal = some g → g < 4096 ∧ mfind s.host.rings g = none ∧ ∀ m, m < 4096 → g < m → mfind s.host.rings m ≠ none) ∧
    (s.freeGlobal = none → ∀ m, m < 4096 → mfind s.host.rings m ≠ none) := by
  refine ⟨fun g hg => ?_, fun hnone m hm hfree => ?_⟩
  · obtain ⟨hlt, hfree, hrest⟩ := find?_reverse_range_eq_some hg
    refine ⟨hlt, Option.isNone_iff_eq_none.1 hfree, fun m hm hlow hfree' => ?_⟩
    have := hrest m hm hlow
    simp [hfree'] at this
  · have := find?_reverse_range_eq_none hnone m hm
    simp [hfree] at this

/-- R608: the bases and the size of a function's admin ring are valid. -/
def Func.adminValid (f : Func) : Prop := f.adminSqBase % 4096 = 0 ∧ f.adminCqBase % 4096 = 0 ∧ 4 ≤ f.adminLog2 ∧ f.adminLog2 ≤ 16

/-- R610: the admin ring as it is created. -/
def Func.adminRing (f : Func) (fn : Nat) : Ring :=
  { fn := fn, localIx := 0, kind := .command, log2 := f.adminLog2, sqBase := f.adminSqBase, cqBase := f.adminCqBase, vector := 1,
    coalCount := 0, coalTime := 0, drainSource := 0, error := f.tdisp == .error }

/-- R607: the function whose admin ring is in use under the number `g`. -/
def State.adminOpened (s : State) (fn g : Nat) : State :=
  let u := s.setFunc fn { s.func fn with adminEnable := true, adminReady := true }
  { u with host := { u.host with rings := mput s.host.rings g ((s.func fn).adminRing fn) } }

section
variable {s : State} {fn : Nat} {tee : Bool}

theorem exec_adminEnable (hfn : fn ≤ 8) (hfree : s.hallFree = true) (hstage : s.boot.stageOne = true) (hnone : s.ringBy fn 0 = none)
    (htrust : s.untrusted fn tee = false) : Gives (.adminEnable fn tee) s (s.adminOn fn) := by
  refine congrArg Host.Outcome.next ((if_neg ?_).trans (State.trusted_of htrust _))
  simp [dead_of_hallFree hfree, hfree, hstage, hfn, hnone]

theorem State.adminOn_opens (hvalid : (s.func fn).adminValid) {g : Nat} (hglobal : s.globalFor fn 0 = some g)
    (hroom : (s.ringsOf fn).length < s.ringLimit fn) :
    (s.adminOn fn).func fn = { s.func fn with adminEnable := true, adminReady := true } ∧
      (s.adminOn fn).host.rings = mput s.host.rings g ((s.func fn).adminRing fn) := by
  obtain ⟨hsq, hcq, hsize⟩ := hvalid
  have hok : ((s.func fn).adminSqBase % 4096 == 0 && (s.func fn).adminCqBase % 4096 == 0 &&
      decide (4 ≤ (s.func fn).adminLog2 ∧ (s.func fn).adminLog2 ≤ 16)) = true := by simp [hsq, hcq, hsize]
  have hglobal' : (s.setFunc fn { s.func fn with adminEnable := true }).globalFor fn 0 = some g := hglobal
  have hroom' : ¬ (s.setFunc fn { s.func fn with adminEnable := true }).ringLimit fn ≤
      ((s.setFunc fn { s.func fn with adminEnable := true }).ringsOf fn).length := Nat.not_le.2 hroom
  unfold State.adminOn
  dsimp only
  rw [hglobal', hok]
  dsimp only
  rw [if_neg (by rw [Bool.not_true, Bool.false_or, decide_eq_true_eq]; exact hroom'), State.func_setFunc]
  exact ⟨State.func_setFunc .., rfl⟩

theorem State.adminOn_waits (h : ¬ (s.func fn).adminValid ∨ s.globalFor fn 0 = none) :
    s.adminOn fn = s.setFunc fn { s.func fn with adminEnable := true } := by
  unfold State.adminOn
  dsimp only
  split
  · rfl
  · next g hg =>
    refine if_pos ?_
    rcases h with h | h
    · have hbad : ((s.func fn).adminSqBase % 4096 == 0 && (s.func fn).adminCqBase % 4096 == 0 &&
          decide (4 ≤ (s.func fn).adminLog2 ∧ (s.func fn).adminLog2 ≤ 16)) = false := by
        rw [Bool.eq_false_iff]
        intro hok
        simp only [Bool.and_eq_true, beq_iff_eq, decide_eq_true_eq] at hok
        obtain ⟨⟨hsq, hcq⟩, hsize⟩ := hok
        exact h ⟨hsq, hcq, hsize⟩
      rw [hbad, Bool.not_false, Bool.true_or]
    · exact absurd (hg.symm.trans h) (by simp)

theorem exec_adminReset (hfree : s.hallFree = true) (htrust : s.untrusted fn tee = false) {r : Nat} (hby : s.ringBy fn 0 = some r) :
    Gives (.adminReset fn tee) s (s.resetRing fn 0 r) := by
  refine congrArg Host.Outcome.next ((if_neg (by simp [hfree])).trans ((State.trusted_of htrust _).trans ?_))
  rw [hby]

end

/-! ### The sticky mirror (R603, R805) -/

theorem exec_stickyMirrorWrite {s : State} (hfree : s.hallFree = true) (mask : Nat) :
    Gives (.stickyMirrorWrite 0 mask) s (s.clearSticky (BitVec.ofNat 256 mask)) :=
  congrArg Host.Outcome.next ((State.whenFree_of_free hfree _).trans (if_pos rfl))

theorem exec_stickyMirrorWrite_vf {fn : Nat} (hfn : fn ≠ 0) (mask : Nat) (s : State) : Gives (.stickyMirrorWrite fn mask) s s := by
  refine congrArg Host.Outcome.next ?_
  rw [if_neg hfn]
  exact ite_self s

theorem stickyMirror_spec {s : State} (hfree : s.hallFree = true) (mask : Nat) : ∃ t : State, Gives (.stickyMirrorWrite 0 mask) s t ∧
    (∀ n, n < 256 → t.stickyBit n = (s.stickyBit n && !bitOf mask n)) ∧
    (t.power.faultN = true ↔ ∃ n, stickyFaultN n = true ∧ t.stickyBit n = true) ∧ t.host = s.host ∧ t.hall = s.hall := by
  refine ⟨_, exec_stickyMirrorWrite hfree mask, fun n hn => ?_, ?_, State.clearSticky_host .., State.clearSticky_hall ..⟩
  · rw [State.stickyBit_clearSticky, BitVec.getLsbD_ofNat]
    simp [hn, bitOf, Nat.testBit_eq_decide_div_mod_eq]
    rfl
  · rw [State.faultN_clearSticky_iff]
    constructor
    · rintro ⟨k, -, hmask, hset⟩; exact ⟨k, hmask, hset⟩
    · rintro ⟨k, hmask, hset⟩
      refine ⟨k, Nat.lt_of_not_le fun hk => ?_, hmask, hset⟩
      exact absurd hset (by simp [State.stickyBit, BitVec.getLsbD_of_ge _ _ hk])

/-! ### Doorbells (R614 to R618) -/

section
variable {s : State} {fn page : Nat}

theorem State.ringBell_none (h : s.ringBy fn page = none) (offset value : Nat) (tee : Bool) :
    s.ringBell fn page offset value tee = s.bellIgnored fn := by
  rw [State.ringBell, h, Option.bind_none]

variable {r : Nat} {x : Ring} (hby : s.ringBy fn page = some r) (hx : mfind s.host.rings r = some x)
include hby hx

/-- R614, R717: a write to a doorbell of a ring that exists. -/
theorem State.ringBell_some (offset value : Nat) (tee : Bool) : s.ringBell fn page offset value tee =
    if s.untrusted fn tee then (s.emit (.unsupportedRequest fn)).bellIgnored fn
    else if offset = sqTailOffset then s.setSqTail r x value
    else if offset = cqHeadOffset then s.setCqHead r x value
    else s := by
  rw [State.ringBell, hby, Option.bind_some, hx, Option.map_some]

theorem exec_bells (hfree : s.hallFree = true) {tee : Bool} (htrust : s.untrusted fn tee = false) (value : Nat) :
    Gives (.sqTail fn page value tee) s (s.setSqTail r x value) ∧ Gives (.cqHead fn page value tee) s (s.setCqHead r x value) := by
  constructor <;> refine congrArg Host.Outcome.next ((if_neg (by simp [hfree])).trans ((State.ringBell_some hby hx ..).trans ?_))
  · rw [if_neg (by simp [htrust]), if_pos rfl]
  · rw [if_neg (by simp [htrust]), if_neg (by decide), if_pos rfl]

theorem exec_bells_untrusted (hfree : s.hallFree = true) {tee : Bool} (htrust : s.untrusted fn tee = true) (value : Nat) :
    Gives (.sqTail fn page value tee) s ((s.emit (.unsupportedRequest fn)).bump (Ctr.funcDoorbellIgnored fn)) ∧
    Gives (.cqHead fn page value tee) s ((s.emit (.unsupportedRequest fn)).bump (Ctr.funcDoorbellIgnored fn)) := by
  constructor <;> exact congrArg Host.Outcome.next
    ((if_neg (by simp [hfree])).trans ((State.ringBell_some hby hx ..).trans (if_pos htrust)))

end

/-- R616: the ring is in ERROR, and no other ring changes. -/
def RingFailed (s t : State) (r : Nat) (x : Ring) : Prop :=
  OtherRings r s t ∧ mfind t.host.rings r = some { x with error := true } ∧ t.stickyBit 113 = true ∧
    t.ctr (Ctr.funcRingError x.fn) = rose (s.ctr (Ctr.funcRingError x.fn)) 1

theorem Ctr.funcRingError_kept (fn : Nat) :
    (∀ b, Ctr.funcRingError fn ≠ bufCtr b 1) ∧ ∀ g, Ctr.funcRingError fn ≠ Ctr.funcMsixSent g :=
  ⟨Ctr.ident_ne_bufCtr_of_index 7 fn (k := 1) (by decide) (by decide) (by decide) (by decide),
    Ctr.ident_ne_funcMsixSent 7 fn (k := 1) (by decide) (by decide)⟩

section
variable {s : State} {r : Nat} {x : Ring} (hx : mfind s.host.rings r = some x)
include hx

theorem ringFailed_ringError : RingFailed s (s.ringError r x) r x := by
  have hkept := Ctr.funcRingError_kept x.fn
  refine ⟨fun q hq => ?_, ?_, ?_, ?_⟩
  · have hne : (r == q) = false := beq_false_of_ne (Ne.symm hq)
    simp only [State.mfind_ringError, hne, Bool.or_false]
    exact Option.map_id'
  · simp [State.mfind_ringError, hx]
  · rw [State.stickyBit, State.ringError, State.sendVector_sticky, State.bump_sticky]
    exact State.stickyBit_setSticky_self _ (by decide)
  · have hvec (t : State) (f v : Nat) : (t.sendVector f v).ctr (Ctr.funcRingError x.fn) = t.ctr (Ctr.funcRingError x.fn) := by
      unfold State.sendVector
      split
      · rfl
      · exact State.ctr_bump_other _ (hkept.2 f)
    rw [State.ringError, hvec, State.ctr_bump, State.setSticky, State.ctr_setStickyIn_other _ _ _ hkept.1 hkept.2]
    simp [State.ctr]

theorem State.setSqTail_moves (hkind : x.kind = .command) {value : Nat} (hvalue : value < 2 ^ x.log2) :
    OtherRings r s (s.setSqTail r x value) ∧
      mfind (s.setSqTail r x value).host.rings r = some { x.keepBells s.nt with sqTail := value } := by
  rw [State.setSqTail, if_neg (by simp [hkind]), if_neg (Nat.not_le.2 hvalue)]
  exact ⟨State.otherRings_modRing _ _ _, State.mfind_modRing_same _ _ _ hx⟩

theorem ringFailed_setSqTail (hkind : x.kind = .command) {value : Nat} (hvalue : 2 ^ x.log2 ≤ value) :
    RingFailed s (s.setSqTail r x value) r x := by
  rw [State.setSqTail, if_neg (by simp [hkind]), if_pos hvalue]
  exact ringFailed_ringError hx

theorem State.setCqHead_moves {value : Nat} (hvalue : value < 2 ^ x.log2)
    (hwithin : (value + 2 ^ x.log2 - x.cqHead) % 2 ^ x.log2 ≤ (x.cqTail + 2 ^ x.log2 - x.cqHead) % 2 ^ x.log2) :
    OtherRings r s (s.setCqHead r x value) ∧
      mfind (s.setCqHead r x value).host.rings r = some { x.keepBells s.nt with cqHead := value } := by
  rw [State.setCqHead, if_neg (not_or.2 ⟨Nat.not_le.2 hvalue, Nat.not_lt.2 hwithin⟩)]
  exact ⟨State.otherRings_modRing _ _ _, State.mfind_modRing_same _ _ _ hx⟩

theorem ringFailed_setCqHead {value : Nat} (h : 2 ^ x.log2 ≤ value ∨
    (x.cqTail + 2 ^ x.log2 - x.cqHead) % 2 ^ x.log2 < (value + 2 ^ x.log2 - x.cqHead) % 2 ^ x.log2) :
    RingFailed s (s.setCqHead r x value) r x := by
  rw [State.setCqHead, if_pos h]
  exact ringFailed_ringError hx

end

end Sys2Proof.Machine
end

section
/-!
PROOFS. Writes and reads of BAR0 (R599 to R604, R614, R625), and the host link of chapter 16 as a whole.
-/
open Sys2Proof Sys2Proof.Machine Sys2Proof.Claims

namespace Sys2Proof.Machine

/-! ### The layout of BAR0 (R599, R600) -/

/-- The blocks of BAR0 lie behind each other: the doorbell pages, the register block, the MSI-X table and the rest. -/
theorem bar0Of_layout (fn : Nat) : (bar0Of fn).regs = (if fn = 0 then 0x1000000 else 0x200000) ∧
    (bar0Of fn).msix = (if fn = 0 then 0x1010000 else 0x210000) ∧ (bar0Of fn).vectors = (if fn = 0 then 1024 else 128) ∧
    4096 * (bar0Of fn).pages = (bar0Of fn).regs ∧ (bar0Of fn).regs + 0x10000 = (bar0Of fn).msix ∧
    (bar0Of fn).msix + 16 * (bar0Of fn).vectors ≤ (bar0Of fn).pba ∧ (bar0Of fn).pba ≤ (bar0Of fn).window := by
  unfold bar0Of
  by_cases h : fn = 0 <;> simp [h, pfBar0, vfBar0]

/-! ### Writes (R601, R602, R614, R625) -/

section
variable (s : State) (fn : Nat) (tee : Bool)

theorem State.writeBar0_register {k : Nat} (hk : k < 4096) (v : Nat) :
    s.writeBar0 fn ((bar0Of fn).regs + k) v tee = s.writeRegister fn k v := by
  obtain ⟨-, -, -, hpages, -⟩ := bar0Of_layout fn
  unfold State.writeBar0
  dsimp only
  rw [if_neg (by omega), if_pos (by omega), Nat.add_sub_cancel_left]

theorem State.writeBar0_vector {n field : Nat} (hn : n < (bar0Of fn).vectors) (hfield : field < 16) (v : Nat) :
    s.writeBar0 fn ((bar0Of fn).msix + 16 * n + field) v tee = s.writeVector fn n field v := by
  obtain ⟨-, -, -, hpages, hmsix, -⟩ := bar0Of_layout fn
  unfold State.writeBar0
  dsimp only
  rw [if_neg (by omega), if_neg (by omega), if_pos (by omega),
    show (bar0Of fn).msix + 16 * n + field - (bar0Of fn).msix = 16 * n + field by omega,
    show (16 * n + field) / 16 = n by omega, show (16 * n + field) % 16 = field by omega]

theorem State.writeBar0_bell {page field : Nat} (hpage : 4096 * page < (bar0Of fn).regs) (hfield : field < 4096) (v : Nat) :
    s.writeBar0 fn (4096 * page + field) v tee = s.ringBell fn page field (v % 4294967296) tee := by
  obtain ⟨-, -, -, hpages, -⟩ := bar0Of_layout fn
  unfold State.writeBar0
  dsimp only
  rw [if_pos (by omega), show (4096 * page + field) / 4096 = page by omega, show (4096 * page + field) % 4096 = field by omega]

end

section
variable {s : State} {fn : Nat} {tee : Bool} (hfn : fn ≤ 8) (hfree : s.hallFree = true) (htrust : s.untrusted fn tee = false)
include hfn hfree

theorem exec_registerWrite_bell {page field : Nat} (hpage : 4096 * page < (bar0Of fn).regs) (hfield : field < 4096) {value : Nat}
    (hvalue : value < 4294967296) :
    Gives (.registerWrite fn (4096 * page + field) value false tee) s (s.ringBell fn page field value tee) := by
  obtain ⟨-, -, -, hpages, -⟩ := bar0Of_layout fn
  refine congrArg Host.Outcome.next ((if_neg (by simp [hfn, hfree])).trans ((if_pos (by omega)).trans ?_))
  refine (State.writeBar0_bell s fn tee hpage hfield value).trans ?_
  rw [Nat.mod_eq_of_lt hvalue]

include htrust

/-- A write behind the doorbell pages. -/
theorem exec_registerWrite {offset : Nat} (hoff : (bar0Of fn).regs ≤ offset) (value : Nat) :
    Gives (.registerWrite fn offset value false tee) s (s.writeBar0 fn offset value tee) := by
  obtain ⟨-, -, -, hpages, -⟩ := bar0Of_layout fn
  exact congrArg Host.Outcome.next ((if_neg (by simp [hfn, hfree])).trans ((if_neg (by omega)).trans (State.trusted_of htrust _)))

theorem exec_registerWrite_wide {offset : Nat} (hoff : (bar0Of fn).regs ≤ offset) (value : Nat) :
    Gives (.registerWrite fn offset value true tee) s
      ((s.writeBar0 fn offset value tee).writeBar0 fn (offset + 4) (value / 4294967296) tee) := by
  obtain ⟨-, -, -, hpages, -⟩ := bar0Of_layout fn
  exact congrArg Host.Outcome.next ((if_neg (by simp [hfn, hfree])).trans ((if_neg (by omega)).trans (State.trusted_of htrust _)))

theorem exec_registerWrite_register {k : Nat} (hk : k < 4096) (value : Nat) :
    Gives (.registerWrite fn ((bar0Of fn).regs + k) value false tee) s (s.writeRegister fn k value) :=
  (exec_registerWrite hfn hfree htrust (Nat.le_add_right ..) value).trans (congrArg Host.Outcome.next (State.writeBar0_register s fn tee hk value))

theorem exec_registerWrite_vector {n field : Nat} (hn : n < (bar0Of fn).vectors) (hfield : field < 16) (value : Nat) :
    Gives (.registerWrite fn ((bar0Of fn).msix + 16 * n + field) value false tee) s (s.writeVector fn n field value) := by
  obtain ⟨-, -, -, hpages, hmsix, -⟩ := bar0Of_layout fn
  exact (exec_registerWrite hfn hfree htrust (by omega) value).trans (congrArg Host.Outcome.next (State.writeBar0_vector s fn tee hn hfield value))

end

section
variable {old v : Nat} (hv : v < 4294967296)
include hv

theorem writeLow_of_lt : writeLow old v = old / 4294967296 * 4294967296 + v := by rw [writeLow, Nat.mod_eq_of_lt hv]

theorem writeHigh_of_lt : writeHigh old v = old % 4294967296 + v * 4294967296 := by rw [writeHigh, Nat.mod_eq_of_lt hv]

end

/-- R601: a write of 8 bytes replaces a field of 64 bits. -/
theorem writeHigh_writeLow {v : Nat} (hv : v < 18446744073709551616) (old : Nat) :
    writeHigh (writeLow old v) (v / 4294967296) = v := by unfold writeHigh writeLow; omega

section
variable {s : State} {fn : Nat}

theorem State.writeRegister_size {value : Nat} (h : bitOf value 8 = true ∨ (s.func fn).adminEnable = false) :
    s.writeRegister fn 0x18 value = s.setFunc fn { s.func fn with adminLog2 := value % 32 } := by
  refine if_neg ?_
  rcases h with hbit | hoff
  · have hset : value / 256 % 2 = 1 := by simpa [bitOf] using hbit
    simp [hset]
  · simp [hoff]

/-- R602: the function whose admin_enable is written 0, with the size of the same write. -/
theorem State.writeRegister_off {value : Nat} (hbit : bitOf value 8 = false) (hon : (s.func fn).adminEnable = true) :
    s.writeRegister fn 0x18 value = (s.setFunc fn { s.func fn with adminLog2 := value % 32 }).adminOff fn := by
  have hclear : value / 256 % 2 = 0 := by
    have : ¬ value / 2 ^ 8 % 2 = 1 := by simpa [bitOf] using hbit
    omega
  exact if_pos (by simp [hclear, hon])

theorem State.func_dropSlots_keeps {α : Type} (g : Func → α) (hg : ∀ f m, g { f with ownSeq := m } = g f) (s : State) (fn ix f : Nat) :
    g ((s.dropSlots fn ix).func f) = g (s.func f) := by
  unfold State.dropSlots
  dsimp only
  split
  · by_cases hf : f = fn
    · subst hf; rw [State.func_setFunc]; exact hg ..
    · rw [State.func_setFunc_other _ _ hf]
  · rfl

theorem State.func_removeRing (s : State) (r f : Nat) : (s.removeRing r).func f = s.func f := by
  change mget {} (s.cutRing r).host.funcs f = _
  rw [State.host_cutRing]; rfl

theorem State.adminOff_spec (s : State) (fn : Nat) (hasc : Ascending s.host.rings) :
    ((s.adminOff fn).func fn).adminEnable = false ∧ ((s.adminOff fn).func fn).adminReady = false ∧
      ((s.adminOff fn).func fn).adminLog2 = (s.func fn).adminLog2 ∧
      ∀ r, s.ringBy fn 0 = some r → mfind (s.adminOff fn).host.rings r = none ∧ OtherRings r s (s.adminOff fn) := by
  cases hby : s.ringBy fn 0 with
  | none =>
    have hoff : s.adminOff fn = s.setFunc fn { s.func fn with adminEnable := false, adminReady := false } := by
      simp only [State.adminOff, hby]
    rw [hoff, State.func_setFunc]
    exact ⟨rfl, rfl, rfl, fun r hr => absurd hr (by simp)⟩
  | some r =>
    obtain ⟨u, hu⟩ : ∃ u, (s.removeRing r).dropSlots fn 0 = u := ⟨_, rfl⟩
    have hoff : s.adminOff fn = u.setFunc fn { u.func fn with adminEnable := false, adminReady := false } := by
      simp only [State.adminOff, hby, hu]
    have hlog : (u.func fn).adminLog2 = (s.func fn).adminLog2 := by
      rw [← hu, State.func_dropSlots_keeps Func.adminLog2 (fun _ _ => rfl), State.func_removeRing]
    rw [hoff, State.func_setFunc]
    refine ⟨rfl, rfl, hlog, fun r' hr => ?_⟩
    obtain rfl : r = r' := by simpa using hr
    exact ⟨(hu ▸ State.mfind_destroyed hasc fn 0 r : mfind u.host.rings r = none), fun q hq =>
      (hu ▸ State.otherRings_destroyed s fn 0 r q hq : mfind u.host.rings q = mfind s.host.rings q)⟩

end

/-! ### Reads (R590, R602, R614, R625) -/

/-- A field of a table stands in its bytes. -/
theorem slice_packed {fs : List (Nat × Nat)} {k w v : Nat} (h : fs[k]? = some (w, v)) :
    slice (packed fs) (widthOf (fs.take k)) w = leBytes w v := by
  induction fs generalizing k with
  | nil => exact absurd h (by simp)
  | cons f fs ih =>
    cases k with
    | zero =>
      obtain rfl : f = (w, v) := by simpa using h
      exact List.take_left' (length_leBytes w v)
    | succ k =>
      refine Eq.trans ?_ (ih (by simpa using h))
      change slice (leBytes f.1 f.2 ++ packed fs) (f.1 + widthOf (fs.take k)) w = _
      rw [slice_leBytes_append_of_le (Nat.le_add_right ..), Nat.add_sub_cancel_left]

/-- Table 16-4: the fields of a function's register block. -/
def State.registerFields (s : State) (fn : Nat) : List (Nat × Nat) :=
  let f := s.func fn
  let broken := ((s.ringBy fn 0).bind (mfind s.host.rings)).any (fun x => x.error)
  [(4, s.boot.devState), (4, fn + 16 * b2n f.bounce + 32 * b2n f.session), (8, f.adminSqBase), (8, f.adminCqBase),
    (4, f.adminLog2 + 256 * b2n f.adminEnable), (4, b2n (f.adminReady && !broken) + 2 * b2n broken), (4, f.snapSeq), (4, 0), (8, f.snapNt),
    (4, b2n (s.stickyOf fn != 0) + 2 * b2n s.power.faultN), (204, 0), (32, (s.stickyOf fn).toNat)]

theorem State.registers_eq (s : State) (fn : Nat) : s.registers fn = packed (s.registerFields fn) := by
  simp only [State.registers, State.registerFields, packed, List.flatMap_cons, List.flatMap_nil, List.append_assoc, List.append_nil,
    leBytes_zero]

/-- Table 16-4: the widths of the fields. -/
def registerWidths : List Nat := [4, 4, 8, 8, 4, 4, 4, 4, 8, 4, 204, 32]

theorem State.widthOf_registerFields (s : State) (fn k : Nat) : widthOf ((s.registerFields fn).take k) = (registerWidths.take k).sum := by
  rw [widthOf, List.map_take]; rfl

theorem State.length_registers (s : State) (fn : Nat) : (s.registers fn).length = 0x120 := by
  rw [State.registers_eq, length_packed, ← List.take_of_length_le (i := 12) (l := s.registerFields fn) (Nat.le_refl 12),
    State.widthOf_registerFields]
  decide

/-- The bytes of a range, one by one, are the range. -/
theorem map_getD_range {b : Bytes} {off n : Nat} (h : off + n ≤ b.length) :
    (List.range n).map (fun k => (b[off + k]?).getD 0) = slice b off n := by
  refine List.ext_getElem (by simp only [slice, List.length_map, List.length_range, List.length_take, List.length_drop]; omega) fun k hk hk' => ?_
  have hlt : k < n := by simpa using hk
  simp only [List.getElem_map, List.getElem_range, slice, List.getElem_take, List.getElem_drop]
  rw [List.getElem?_eq_getElem (by omega), Option.getD_some]

section
variable (s : State) (fn : Nat)

theorem State.bar0Byte_register {k : Nat} (hk : k < 4096) : s.bar0Byte fn ((bar0Of fn).regs + k) = ((s.registers fn)[k]?).getD 0 := by
  refine (if_pos (by omega)).trans ?_
  rw [Nat.add_sub_cancel_left]

theorem State.bar0Byte_vector {n k : Nat} (hn : n < (bar0Of fn).vectors) (hk : k < 16) :
    s.bar0Byte fn ((bar0Of fn).msix + 16 * n + k) = ((s.vec fn n).bytes[k]?).getD 0 := by
  obtain ⟨-, -, -, -, hmsix, -⟩ := bar0Of_layout fn
  refine (if_neg (by omega)).trans ((if_pos (by omega)).trans ?_)
  rw [show (bar0Of fn).msix + 16 * n + k - (bar0Of fn).msix = 16 * n + k by omega,
    show (16 * n + k) / 16 = n by omega, show (16 * n + k) % 16 = k by omega]

theorem State.bar0Byte_reserved {off : Nat} (hoff : off < (bar0Of fn).regs ∨ (bar0Of fn).regs + 0x120 ≤ off ∧ off < (bar0Of fn).msix) :
    s.bar0Byte fn off = 0 := by
  obtain ⟨-, -, -, -, hmsix, hpba, hwindow⟩ := bar0Of_layout fn
  by_cases hreg : (bar0Of fn).regs ≤ off ∧ off < (bar0Of fn).regs + 4096
  · refine (if_pos hreg).trans ?_
    rw [List.getElem?_eq_none (by rw [State.length_registers]; omega)]
    rfl
  · exact (if_neg hreg).trans ((if_neg (by omega)).trans ((if_neg (by omega)).trans (if_neg (by omega))))

variable {s fn} {tee : Bool} (halive : s.dead = false) (hstage : s.boot.stageOne = true) (htrust : s.untrusted fn tee = false)
include halive hstage htrust

theorem State.bar0Read_eq (off n : Nat) : s.bar0Read fn off n tee = some ((List.range n).map (fun k => s.bar0Byte fn (off + k))) :=
  if_neg (by simp [halive, hstage, htrust])

/-- R602: a field of the register block. -/
theorem State.bar0Read_register {k w v off : Nat} (hfield : (s.registerFields fn)[k]? = some (w, v))
    (hoff : (registerWidths.take k).sum = off) (hend : off + w ≤ 0x120) :
    s.bar0Read fn ((bar0Of fn).regs + off) w tee = some (leBytes w v) := by
  rw [State.bar0Read_eq halive hstage htrust, ← slice_packed hfield, State.widthOf_registerFields, hoff, ← State.registers_eq,
    ← map_getD_range (by rw [State.length_registers]; exact hend)]
  refine congrArg some (List.map_congr_left fun j hj => ?_)
  have := List.mem_range.1 hj
  rw [Nat.add_assoc, State.bar0Byte_register s fn (by omega)]

/-- R625: an entry of the MSI-X table. -/
theorem State.bar0Read_vector {n : Nat} (hn : n < (bar0Of fn).vectors) :
    s.bar0Read fn ((bar0Of fn).msix + 16 * n) 16 tee = some (s.vec fn n).bytes := by
  have hlen : (s.vec fn n).bytes.length = 16 := by simp [Vec.bytes, length_leBytes]
  rw [State.bar0Read_eq halive hstage htrust]
  refine congrArg some (Eq.trans (List.map_congr_left fun j hj => ?_) ((map_getD_range (b := (s.vec fn n).bytes) (off := 0) (by omega)).trans ?_))
  · rw [State.bar0Byte_vector s fn hn (List.mem_range.1 hj), Nat.zero_add]
  · exact List.take_of_length_le (by simp [hlen])

end

/-! ### What the manual says of reads (R590, R602 to R604) -/

theorem bar0Reads_spec {s : State} {fn : Nat} (tee : Bool) :
    let f := s.func fn
    let regs := (bar0Of fn).regs
    let seen := s.stickyOf fn
    (∀ off n, (s.boot.stageOne = false ∨ s.untrusted fn tee = true) → s.bar0Read fn off n tee = none) ∧
    (s.dead = false → s.boot.stageOne = true → s.untrusted fn tee = false →
      s.bar0Read fn regs 4 tee = some (leBytes 4 s.boot.devState) ∧
      s.bar0Read fn (regs + 4) 4 tee = some (leBytes 4 (fn + 16 * b2n f.bounce + 32 * b2n f.session)) ∧
      s.bar0Read fn (regs + 8) 8 tee = some (leBytes 8 f.adminSqBase) ∧
      s.bar0Read fn (regs + 0x10) 8 tee = some (leBytes 8 f.adminCqBase) ∧
      s.bar0Read fn (regs + 0x18) 4 tee = some (leBytes 4 (f.adminLog2 + 256 * b2n f.adminEnable)) ∧
      (∀ r x, s.ringBy fn 0 = some r → mfind s.host.rings r = some x →
        s.bar0Read fn (regs + 0x1C) 4 tee = some (leBytes 4 (if x.error then 2 else b2n f.adminReady))) ∧
      s.bar0Read fn (regs + 0x20) 4 tee = some (leBytes 4 f.snapSeq) ∧ s.bar0Read fn (regs + 0x28) 8 tee = some (leBytes 8 f.snapNt) ∧
      s.bar0Read fn (regs + 0x30) 4 tee = some (leBytes 4 (b2n (seen != 0) + 2 * b2n s.power.faultN)) ∧
      s.bar0Read fn (regs + 0x100) 32 tee = some (leBytes 32 seen.toNat) ∧
      (∀ v, v < (bar0Of fn).vectors → s.bar0Read fn ((bar0Of fn).msix + 16 * v) 16 tee = some (s.vec fn v).bytes) ∧
      ∀ off, (off < regs ∨ regs + 0x120 ≤ off ∧ off < (bar0Of fn).msix) → s.bar0Read fn off 1 tee = some [0]) := by
  refine ⟨fun off n h => if_pos (by rcases h with h | h <;> simp [h]), fun halive hstage htrust => ?_⟩
  have hread {k w v off : Nat} := State.bar0Read_register (k := k) (w := w) (v := v) (off := off) halive hstage htrust
  refine ⟨hread (k := 0) (off := 0) rfl (by decide) (by decide), hread (k := 1) rfl (by decide) (by decide), hread (k := 2) rfl (by decide) (by decide),
    hread (k := 3) rfl (by decide) (by decide), hread (k := 4) rfl (by decide) (by decide), fun r x hby hx => ?_, hread (k := 6) rfl (by decide) (by decide),
    hread (k := 8) rfl (by decide) (by decide), hread (k := 9) rfl (by decide) (by decide), hread (k := 11) rfl (by decide) (by decide),
    fun v hv => State.bar0Read_vector halive hstage htrust hv, fun off hoff => ?_⟩
  · rw [hread (k := 5) rfl (by decide) (by decide), hby, Option.bind_some, hx]
    cases hx' : x.error <;> simp [hx', b2n]
  · rw [State.bar0Read_eq halive hstage htrust]
    exact congrArg some (congrArg (fun b => [b]) (State.bar0Byte_reserved s fn hoff))

end Sys2Proof.Machine
end

section
/-!
PROOFS. The registers and doorbells of chapter 16 as a whole.
-/
open Sys2Proof Sys2Proof.Machine Sys2Proof.Claims

namespace Sys2Proof.Machine

section
variable {s : State} {fn value : Nat} {tee : Bool} (hfn : fn ≤ 8) (hfree : s.hallFree = true)

theorem adminEnable_spec (hfn : fn ≤ 8) (hfree : s.hallFree = true) (hstage : s.boot.stageOne = true) (hnone : s.ringBy fn 0 = none)
    (htrust : s.untrusted fn tee = false) :
    (∀ g, (s.func fn).adminValid → s.globalFor fn 0 = some g → (s.ringsOf fn).length < s.ringLimit fn →
      ∃ t : State, Gives (.adminEnable fn tee) s t ∧ t.func fn = { s.func fn with adminEnable := true, adminReady := true } ∧
        OtherRings g s t ∧ mfind t.host.rings g = some ((s.func fn).adminRing fn)) ∧
    ((¬ (s.func fn).adminValid ∨ s.globalFor fn 0 = none) →
      Gives (.adminEnable fn tee) s (s.setFunc fn { s.func fn with adminEnable := true })) := by
  have hexec := exec_adminEnable hfn hfree hstage hnone htrust
  refine ⟨fun g hvalid hglobal hroom => ?_, fun h => State.adminOn_waits h ▸ hexec⟩
  obtain ⟨hfunc, hrings⟩ := State.adminOn_opens hvalid hglobal hroom
  refine ⟨_, hexec, hfunc, fun q hq => ?_, ?_⟩
  · rw [hrings]; exact mfind_mput_other _ _ hq
  · rw [hrings]; exact mfind_mput_same ..

include hfn hfree

/-- R602, R625: what a write of 4 bytes changes, by its offset. -/
theorem registerWrite_spec (hvalue : value < 4294967296) (htrust : s.untrusted fn tee = false) :
    let f := s.func fn
    let regs := (bar0Of fn).regs
    let msix := (bar0Of fn).msix
    Gives (.registerWrite fn (regs + 8) value false tee) s
      (s.setFunc fn { f with adminSqBase := f.adminSqBase / 4294967296 * 4294967296 + value }) ∧
    Gives (.registerWrite fn (regs + 0xC) value false tee) s
      (s.setFunc fn { f with adminSqBase := f.adminSqBase % 4294967296 + value * 4294967296 }) ∧
    Gives (.registerWrite fn (regs + 0x10) value false tee) s
      (s.setFunc fn { f with adminCqBase := f.adminCqBase / 4294967296 * 4294967296 + value }) ∧
    Gives (.registerWrite fn (regs + 0x14) value false tee) s
      (s.setFunc fn { f with adminCqBase := f.adminCqBase % 4294967296 + value * 4294967296 }) ∧
    Gives (.registerWrite fn regs value false tee) s s ∧
    ((bitOf value 8 = true ∨ f.adminEnable = false) →
      Gives (.registerWrite fn (regs + 0x18) value false tee) s (s.setFunc fn { f with adminLog2 := value % 32 })) ∧
    (bitOf value 8 = false → f.adminEnable = true → Ascending s.host.rings →
      ∃ t : State, Gives (.registerWrite fn (regs + 0x18) value false tee) s t ∧ (t.func fn).adminEnable = false ∧
        (t.func fn).adminReady = false ∧ (t.func fn).adminLog2 = value % 32 ∧
        (∀ r, s.ringBy fn 0 = some r → mfind t.host.rings r = none ∧ OtherRings r s t)) ∧
    (∀ v, v < (bar0Of fn).vectors → let x := s.vec fn v
      Gives (.registerWrite fn (msix + 16 * v) value false tee) s
        (s.setVec fn v { x with addr := x.addr / 4294967296 * 4294967296 + value }) ∧
      Gives (.registerWrite fn (msix + 16 * v + 4) value false tee) s
        (s.setVec fn v { x with addr := x.addr % 4294967296 + value * 4294967296 }) ∧
      Gives (.registerWrite fn (msix + 16 * v + 8) value false tee) s (s.setVec fn v { x with data := value }) ∧
      (value % 2 = 1 → Gives (.registerWrite fn (msix + 16 * v + 12) value false tee) s (s.setVec fn v { x with masked := true }))) ∧
    (∀ page, 4096 * page < regs → ∃ t u : State,
      Gives (.registerWrite fn (4096 * page) value false tee) s t ∧ Gives (.sqTail fn page value tee) s t ∧
      Gives (.registerWrite fn (4096 * page + 4) value false tee) s u ∧ Gives (.cqHead fn page value tee) s u) := by
  have hreg {k : Nat} (hk : k < 4096) := exec_registerWrite_register hfn hfree htrust hk value
  have hlow {old : Nat} := writeLow_of_lt (old := old) hvalue
  have hhigh {old : Nat} := writeHigh_of_lt (old := old) hvalue
  have hbell (page : Nat) (offset : Nat) : (if !s.hallFree then s else s.ringBell fn page offset value tee) = s.ringBell fn page offset value tee :=
    if_neg (by simp [hfree])
  refine ⟨?_, ?_, ?_, ?_, hreg (k := 0) (by decide), fun h => ?_, fun hbit hon hasc => ?_, fun v hv => ?_, fun page hpage => ?_⟩
  · refine (hreg (k := 8) (by decide)).trans ?_
    rw [State.writeRegister, hlow]
  · refine (hreg (k := 0xC) (by decide)).trans ?_
    rw [State.writeRegister, hhigh]
  · refine (hreg (k := 0x10) (by decide)).trans ?_
    rw [State.writeRegister, hlow]
  · refine (hreg (k := 0x14) (by decide)).trans ?_
    rw [State.writeRegister, hhigh]
  · exact (hreg (k := 0x18) (by decide)).trans (congrArg Host.Outcome.next (State.writeRegister_size h))
  · obtain ⟨henable, hready, hlog, hgone⟩ := State.adminOff_spec (s.setFunc fn { s.func fn with adminLog2 := value % 32 }) fn hasc
    refine ⟨_, (hreg (by decide)).trans (congrArg Host.Outcome.next (State.writeRegister_off hbit hon)), henable, hready, ?_, hgone⟩
    rw [hlog, State.func_setFunc]
  · have hvec {field : Nat} (hfield : field < 16) := exec_registerWrite_vector hfn hfree htrust hv hfield value
    refine ⟨?_, ?_, ?_, fun hodd => ?_⟩
    · refine (hvec (field := 0) (by decide)).trans ?_
      rw [State.writeVector, hlow]
    · refine (hvec (field := 4) (by decide)).trans ?_
      rw [State.writeVector, hhigh]
    · refine (hvec (field := 8) (by decide)).trans ?_
      rw [State.writeVector, Nat.mod_eq_of_lt hvalue]
    · exact (hvec (field := 12) (by decide)).trans (congrArg Host.Outcome.next (if_pos hodd))
  · exact ⟨_, _, exec_registerWrite_bell hfn hfree (field := 0) hpage (by decide) hvalue, congrArg Host.Outcome.next (hbell page 0),
      exec_registerWrite_bell hfn hfree (field := 4) hpage (by decide) hvalue, congrArg Host.Outcome.next (hbell page 4)⟩

/-- R601: a write of 8 bytes to the base of the submission queue. -/
theorem registerWrite_wide_spec (hvalue : value < 18446744073709551616) (htrust : s.untrusted fn tee = false) :
    ∃ t : State, Gives (.registerWrite fn ((bar0Of fn).regs + 8) value true tee) s t ∧
      t.func fn = { s.func fn with adminSqBase := value } ∧ t.host.rings = s.host.rings := by
  refine ⟨_, exec_registerWrite_wide hfn hfree htrust (Nat.le_add_right ..) value, ?_⟩
  rw [State.writeBar0_register _ _ _ (by decide), Nat.add_assoc, State.writeBar0_register _ _ _ (by decide)]
  refine ⟨?_, rfl⟩
  refine (State.func_setFunc _ fn _).trans ?_
  rw [State.writeRegister, State.func_setFunc]
  dsimp only
  rw [writeHigh_writeLow hvalue]

end

/-- R614 to R618, R717: a write to a doorbell of a ring that exists. -/
theorem bells_spec {s : State} {fn page r : Nat} {x : Ring} (hfree : s.hallFree = true) (hby : s.ringBy fn page = some r)
    (hx : mfind s.host.rings r = some x) (value : Nat) (tee : Bool) :
    (s.untrusted fn tee = true →
      Gives (.sqTail fn page value tee) s ((s.emit (.unsupportedRequest fn)).bump (Ctr.funcDoorbellIgnored fn)) ∧
      Gives (.cqHead fn page value tee) s ((s.emit (.unsupportedRequest fn)).bump (Ctr.funcDoorbellIgnored fn))) ∧
    (s.untrusted fn tee = false →
    let n := 2 ^ x.log2
    let InError : Instr → Prop := fun i => ∃ t : State, Gives i s t ∧ RingFailed s t r x
    (x.kind = .command → value < n → ∃ t : State, Gives (.sqTail fn page value tee) s t ∧ OtherRings r s t ∧
      mfind t.host.rings r = some { x.keepBells s.nt with sqTail := value }) ∧
    (x.kind = .command → n ≤ value → InError (.sqTail fn page value tee)) ∧
    (x.kind = .drain → Gives (.sqTail fn page value tee) s s) ∧
    (n ≤ value → InError (.cqHead fn page value tee)) ∧
    (value < n → (value + n - x.cqHead) % n ≤ (x.cqTail + n - x.cqHead) % n →
      ∃ t : State, Gives (.cqHead fn page value tee) s t ∧ OtherRings r s t ∧
        mfind t.host.rings r = some { x.keepBells s.nt with cqHead := value }) ∧
    (value < n → (x.cqTail + n - x.cqHead) % n < (value + n - x.cqHead) % n → InError (.cqHead fn page value tee))) := by
  refine ⟨fun hbarred => exec_bells_untrusted hby hx hfree hbarred value, fun htrust => ?_⟩
  obtain ⟨hsq, hcq⟩ := exec_bells hby hx hfree htrust value
  refine ⟨fun hkind hvalue => ⟨_, hsq, State.setSqTail_moves hx hkind hvalue⟩, fun hkind hvalue => ⟨_, hsq, ringFailed_setSqTail hx hkind hvalue⟩,
    fun hkind => hsq.trans (congrArg Host.Outcome.next (if_pos hkind)), fun hvalue => ⟨_, hcq, ringFailed_setCqHead hx (.inl hvalue)⟩,
    fun hvalue hwithin => ⟨_, hcq, State.setCqHead_moves hx hvalue hwithin⟩, fun _ hbeyond => ⟨_, hcq, ringFailed_setCqHead hx (.inr hbeyond)⟩⟩

/-- R602, R603, R607, R610, R614 to R617, R620, R717. -/
theorem registersAndDoorbells : Claims.RegistersAndDoorbells := by
  refine ⟨fun fn tee s hfn hfree hstage hnone htrust => adminEnable_spec hfn hfree hstage hnone htrust,
    fun s => ⟨rfl, fun fn hfn => if_neg hfn, s.freeGlobal_spec⟩,
    fun fn r tee x s hfree htrust hby hx => ⟨_, exec_adminReset hfree htrust hby, State.otherRings_resetRing _ _ _ _, State.mfind_resetRing hx fn 0⟩,
    fun mask s hfree => stickyMirror_spec hfree mask, fun fn mask s hfn => exec_stickyMirrorWrite_vf hfn mask s, ?_, ?_, ?_, ?_, ?_⟩
  · intro fn value tee s hfn hvalue hfree htrust
    obtain ⟨hregs, hmsix, hvectors, -⟩ := bar0Of_layout fn
    have h := registerWrite_spec hfn hfree hvalue htrust
    rw [hregs, hmsix, hvectors] at h
    exact h
  · intro fn value tee s hfn hvalue hfree htrust
    have h := registerWrite_wide_spec hfn hfree hvalue htrust
    rwa [(bar0Of_layout fn).1] at h
  · intro fn tee s _
    obtain ⟨hregs, hmsix, hvectors, -⟩ := bar0Of_layout fn
    have h := bar0Reads_spec (s := s) (fn := fn) tee
    rw [hregs, hmsix, hvectors] at h
    exact h
  · intro fn page value tee s hfree hnone
    constructor <;> exact congrArg Host.Outcome.next ((if_neg (by simp [hfree])).trans (State.ringBell_none hnone ..))
  · intro fn page value r tee x s hfree hby hx _
    exact bells_spec hfree hby hx value tee

/-- Settles O34, by what the reset of one function takes and leaves, and by the field of BAR0 that each offset names. -/
theorem hostLinkAndRegisters : Obligations.HostLinkAndRegisters := ⟨linkAndResets, registersAndDoorbells⟩

end Sys2Proof.Machine
end

section
/-!
PROOFS. Counters of chapter 21 (R759, R768, R772, R694): their values, and what COUNTER_READ returns.
-/
open Sys2Proof Sys2Proof.Machine Sys2Proof.Claims

namespace Sys2Proof.Machine

/-! ### Values (R759, R768, R772) -/

theorem State.bumpN_spec (s : State) (id n j : Nat) :
    (s.bumpN id n).ctr id = min max64 (s.ctr id + n) ∧ (j ≠ id → (s.bumpN id n).ctr j = s.ctr j) :=
  ⟨(mget_mput_same ..).trans (satAdd_eq_min ..), fun h => State.ctr_bumpN_other _ _ h⟩

section
variable {s : State} {fn id : Nat} (hexists : s.ctrExists id = true)
include hexists

theorem State.readCtr_parts (h : ctrGroup id ≠ 9) : s.readCtr fn id = sumCtrs s.counters (s.ctrParts fn id) := by
  rw [State.readCtr, if_neg (by simp [hexists]), if_neg (by simp [h])]

/-- R772: a partition's counter is the sum of the Hall's part and of the Wings'. -/
theorem State.readCtr_partition (h : ctrGroup id = 8) :
    s.readCtr fn id = min max64 (s.ctr id + s.ctr (ctrOnWing 0 id) + s.ctr (ctrOnWing 1 id)) := by
  rw [State.readCtr_parts hexists (by omega), State.ctrParts, if_pos h]
  simp only [sumCtrs, List.foldl_cons, List.foldl_nil, satAdd_eq_min, State.ctr]
  omega

theorem State.readCtr_single (h8 : ctrGroup id ≠ 8) (h9 : ctrGroup id ≠ 9) (h12 : ctrGroup id ≠ 12 ∨ s.is4840 = false) :
    s.readCtr fn id = min max64 (s.ctr id) := by
  rw [State.readCtr_parts hexists h9, State.ctrParts, if_neg h8, if_neg (by rcases h12 with h | h <;> simp [h])]
  simp only [sumCtrs, List.foldl_cons, List.foldl_nil, satAdd_eq_min, State.ctr, Nat.zero_add]

/-- R694: a VF reads the part of its own context. -/
theorem State.readCtr_context {p : Nat} (hpart : s.is4840 = true) (h12 : ctrGroup id = 12) (hfn : fn ≠ 0) (hown : s.partsOf fn = [p]) :
    s.readCtr fn id = min max64 (s.ctr (ctrOfContext p id)) := by
  rw [State.readCtr_parts hexists (by omega), State.ctrParts, if_neg (by omega), if_pos ⟨h12, hpart⟩, if_neg hfn, hown]
  simp only [List.map_cons, List.map_nil, sumCtrs, List.foldl_cons, List.foldl_nil, satAdd_eq_min, State.ctr, Nat.zero_add]

end

/-- A table whose numbers are renamed, none like another. -/
theorem mfind_map_inj {α β : Type} {f : Nat → Nat} (hf : ∀ a b, f a = f b → a = b) (g : α → β) (t : Tab α) (k : Nat) :
    mfind (t.map (fun e => (f e.1, g e.2))) (f k) = (mfind t k).map g := by
  induction t with
  | nil => rfl
  | cons e t ih =>
    obtain ⟨i, a⟩ := e
    simp only [List.map_cons, mfind]
    by_cases h : i = k
    · rw [if_pos (congrArg f h), if_pos h]; rfl
    · rw [if_neg (fun he => h (hf _ _ he)), if_neg h, ih]

theorem Ctr.rqWaiting_inj (a b : Nat) (h : Ctr.rqWaiting a = Ctr.rqWaiting b) : a = b := by
  unfold Ctr.rqWaiting Ctr.ident at h; omega

theorem State.mfind_levels (s : State) (q : Nat) : mfind s.levels (Ctr.rqWaiting q) = (mfind s.rqs q).map (·.waiting) :=
  mfind_map_inj Ctr.rqWaiting_inj ReportQ.waiting s.rqs q

theorem State.partsN_le (s : State) : s.partsN ≤ 16 := by unfold State.partsN; split <;> decide

/-- R678: the counter of the records that wait in a report queue. -/
theorem State.readCtr_waiting {s : State} {fn q : Nat} {x : ReportQ} (hexists : s.ctrExists (Ctr.rqWaiting q) = true) (hq : q < 4 * s.partsN)
    (hx : mfind s.rqs q = some x) : s.readCtr fn (Ctr.rqWaiting q) = x.waiting := by
  have hn := s.partsN_le
  have hinst : ctrInst (Ctr.rqWaiting q) = q := by unfold ctrInst Ctr.rqWaiting Ctr.ident; omega
  have hgroup : ctrGroup (Ctr.rqWaiting q) = 9 := by unfold ctrGroup Ctr.rqWaiting Ctr.ident; omega
  rw [State.readCtr, if_neg (by simp [hexists]), if_pos ⟨hgroup, by rw [hinst]⟩, mget_eq_mfind, State.mfind_levels, hx]
  rfl

/-! ### COUNTER_READ (R768) -/

/-- The bytes of the counters of a list. -/
theorem length_counters (s : State) (fn : Nat) (ids : List Nat) : (ids.flatMap (fun i => leBytes 8 (s.readCtr fn i))).length = 8 * ids.length := by
  induction ids with
  | nil => rfl
  | cons i ids ih => rw [List.flatMap_cons, List.length_append, length_leBytes, ih, List.length_cons]; omega

section
variable {c : CmdIn} {first count : Nat} {s : State} {cmd : Cmd} (h : Ready 0x0701 (.counterRead c first count) c s cmd)
  (hlow : 1 ≤ count) (hhigh : count ≤ 65536)
include h hlow hhigh

theorem exec_counterRead {st : Status} (hst : (let fn := if cmd.fn < 9 then cmd.fn else 0
    if (((List.range count).map (first + ·)).filter s.ctrExists).any (fun i => !s.groupOf fn (ctrGroup i) (ctrInst i)) then fail stDenied
    else { status := stOk, info := (((List.range count).map (first + ·)).filter s.ctrExists).length,
           reply := ((List.range count).map (first + ·)).flatMap (fun i => leBytes 8 (s.readCtr fn i)) }) = st)
    (hreply : st.reply = [] ∨ Room c st.reply.length) : Gives (.counterRead c first count) s (s.complete c.ring st) :=
  congrArg Host.Outcome.next (runRead_completes h (by simpa using ⟨hlow, hhigh⟩) hst hreply)

theorem counterRead_spec (hroom : Room c (8 * count)) :
    let ids := (List.range count).map (fun k => first + k)
    let fn := if cmd.fn < 9 then cmd.fn else 0
    ((∀ i ∈ ids, s.ctrExists i = true → s.groupOf fn (ctrGroup i) (ctrInst i) = true) →
      Gives (.counterRead c first count) s (s.complete c.ring
        { status := 0, info := (ids.filter s.ctrExists).length, reply := ids.flatMap (fun i => leBytes 8 (s.readCtr fn i)) })) ∧
    (∀ i ∈ ids, s.ctrExists i = true → s.groupOf fn (ctrGroup i) (ctrInst i) = false → Fails (.counterRead c first count) c s 4) := by
  refine ⟨fun hown => exec_counterRead h hlow hhigh (if_neg ?_) (.inr ?_), fun i hi hexists hforeign =>
    ⟨0, exec_counterRead h hlow hhigh (if_pos ?_) (.inl rfl)⟩⟩
  · simp only [List.any_eq_true, List.mem_filter, not_exists, not_and]
    rintro i ⟨hi, hexists⟩ hforeign
    simp [hown i hi hexists] at hforeign
  · rw [length_counters, List.length_map, List.length_range]; exact hroom
  · exact List.any_eq_true.2 ⟨i, List.mem_filter.2 ⟨hi, hexists⟩, by rw [hforeign]; rfl⟩

end

end Sys2Proof.Machine
end

section
/-!
PROOFS. Snapshots of chapter 21 (R771 to R778) and their windows (R604, R605).
-/
open Sys2Proof Sys2Proof.Machine Sys2Proof.Claims

namespace Sys2Proof.Machine

/-! ### A snapshot is pending in every block (R549, R771) -/

theorem Snap.occ_eq (x : Snap) : x.occ =
    { instant := x.instant, kind := 9, key := (if x.ring.isSome then x.number + 1 else 0), periodic := x.ring.isNone } := by
  unfold Snap.occ
  cases x.ring <;> rfl

theorem State.queueOf_setQueue_eq_ite (s : State) (b d : Nat) (q : List Occ) : (s.setQueue b q).queueOf d = if d = b then q else s.queueOf d :=
  mget_mput ..

/-- An occurrence joins the queue of each of some blocks, one entry in each. -/
theorem State.foldl_enqueue_of_room {bs : List Nat} (hnodup : bs.Nodup) (o : Occ) (s : State) (hroom : ∀ b ∈ bs, s.queueFull b = false) :
    (bs.foldl (fun s b => s.enqueue b o) s).obs = s.obs ∧
      ∀ b, ((bs.foldl (fun s b => s.enqueue b o) s).queueOf b).Perm (if b ∈ bs then o :: s.queueOf b else s.queueOf b) := by
  induction bs generalizing s with
  | nil => exact ⟨rfl, fun b => by simp⟩
  | cons d bs ih =>
    obtain ⟨hd, hnodup⟩ := List.nodup_cons.1 hnodup
    have hlen : (s.queueOf d).length < 1024 := by simpa [State.queueFull] using hroom d List.mem_cons_self
    have hqueue (b : Nat) : (s.enqueue d o).queueOf b = if b = d then insertOcc o (s.queueOf d) else s.queueOf b := by
      rw [State.enqueue_of_room hlen, State.queueOf_setQueue_eq_ite]
    have hobs : (s.enqueue d o).obs = s.obs := by rw [State.enqueue_of_room hlen]; rfl
    obtain ⟨ih1, ih2⟩ := ih hnodup (s.enqueue d o) fun b hb => by
      have hne : b ≠ d := fun h => hd (h ▸ hb)
      have hb' := hroom b (List.mem_cons_of_mem _ hb)
      simpa [State.queueFull, hqueue, hne] using hb'
    refine ⟨ih1.trans hobs, fun b => (ih2 b).trans ?_⟩
    rw [hqueue]
    by_cases hbd : b = d
    · subst hbd
      rw [if_neg hd, if_pos rfl, if_pos List.mem_cons_self]
      exact insertOcc_perm ..
    · simp [hbd]

theorem State.nodup_blocks (s : State) : s.blocks.Nodup := by unfold State.blocks; split <;> decide

theorem pending_beginSnap {s : State} {x : Snap} (hnumber : x.number = s.obs.snapNumber) (hleft : x.left = s.blocks)
    (hroom : ∀ b ∈ s.blocks, s.queueFull b = false) : Pending s (s.beginSnap x) x := by
  have hblocks : (s.listSnap x).blocks = s.blocks := rfl
  obtain ⟨hobs, hqueues⟩ := State.foldl_enqueue_of_room (s.nodup_blocks) x.occ (s.listSnap x) hroom
  refine ⟨congrArg Observe.snaps hobs, hnumber, hleft, fun b hb => ?_⟩
  rw [← Snap.occ_eq]
  refine (hqueues b).trans ?_
  rw [if_pos hb]
  rfl

/-! ### SNAPSHOT (R774) -/

section
variable {c : CmdIn} {s : State} {cmd : Cmd} (h : Ready 0x0702 (.snapshot c false 0 0 0) c s cmd)
  (hfeature : bitOf ((s.enabledOf cmd.fn).getD 0) 6 = true)
include h hfeature

theorem exec_snapshot_busy (hmany : 16 ≤ (s.obs.snaps.filter (fun x => x.ring.isSome)).length) : Fails (.snapshot c false 0 0 0) c s 1 := by
  refine ⟨0, congrArg Host.Outcome.next (runCmd_completes h ?_ ?_ (replied_of_room (st := fail stBusy) (.inl rfl) s s))⟩
  · simp
  · simp [hfeature, hmany]
    rfl

/-- R774: the snapshot of the function's instances, for its window. -/
def State.windowSnap (s : State) (ring fn : Nat) : Snap :=
  { number := s.obs.snapNumber, ring := some ring, fn := fn, toHost := false, hostAddr := 0, instant := s.time.tick.nt,
    groups := s.shotGroups fn, left := s.blocks, copied := [], lastCopy := 0, late := false }

theorem exec_snapshot (hfew : (s.obs.snaps.filter (fun x => x.ring.isSome)).length < 16) (hroom : ∀ b ∈ s.blocks, s.queueFull b = false) :
    Gives (.snapshot c false 0 0 0) s (((s.beginSnap (s.windowSnap c.ring (if cmd.fn < 9 then cmd.fn else 0))).noteStep c.ring cmd).setCmd c.ring
      (some { cmd with started := true })) := by
  have hfull : s.blocks.any (fun b => s.queueFull b) = false := by simpa using hroom
  refine congrArg Host.Outcome.next (runCmd_runs h (by simp) ?_)
  simp only [hfeature, hfull, Bool.not_true, Bool.not_false, Bool.and_false, Bool.false_eq_true, if_false, if_true, ne_eq, not_true_eq_false, false_and]
  exact if_neg (by simpa using hfew)

theorem snapshot_spec : let fn := if cmd.fn < 9 then cmd.fn else 0
    (16 ≤ (s.obs.snaps.filter (fun x => x.ring.isSome)).length → Fails (.snapshot c false 0 0 0) c s 1) ∧
    ((s.obs.snaps.filter (fun x => x.ring.isSome)).length < 16 → (∀ b ∈ s.blocks, s.queueFull b = false) →
      ∃ u : State, Gives (.snapshot c false 0 0 0) s (u.setCmd c.ring (some { cmd with started := true })) ∧
        Pending s u (s.windowSnap c.ring fn)) := by
  refine ⟨exec_snapshot_busy h hfeature, fun hfew hroom => ⟨_, exec_snapshot h hfeature hfew hroom, ?_⟩⟩
  exact (pending_beginSnap rfl rfl hroom : Pending s (s.beginSnap (s.windowSnap c.ring (if cmd.fn < 9 then cmd.fn else 0))) _)

end

/-! ### A block copies its counters (R771, R773) -/

/-- The last value that a table takes for a number, where all that it takes for it agree. -/
theorem mget_foldl_mput_agree {α : Type} (d : α) {l : Tab α} {t : Tab α} {k : Nat} {v : α} (hagree : ∀ e ∈ l, e.1 = k → e.2 = v)
    (h : (k, v) ∈ l ∨ mget d t k = v) : mget d (l.foldl (fun t e => mput t e.1 e.2) t) k = v := by
  induction l generalizing t with
  | nil => exact h.resolve_left List.not_mem_nil
  | cons e l ih =>
    refine ih (fun e' he' => hagree e' (List.mem_cons_of_mem _ he')) ?_
    by_cases hk : e.1 = k
    · right
      change mget d (mput t e.1 e.2) k = v
      rw [hk, mget_mput_same]; exact hagree e List.mem_cons_self hk
    · rcases h with h | h
      · rcases List.mem_cons.1 h with rfl | htail
        · exact absurd rfl hk
        · exact .inl htail
      · right; exact (mget_mput_other _ _ _ (Ne.symm hk)).trans h

theorem mget_foldl_mput_none {α : Type} (d : α) {l : Tab α} (t : Tab α) {k : Nat} (h : ∀ e ∈ l, e.1 ≠ k) :
    mget d (l.foldl (fun t e => mput t e.1 e.2) t) k = mget d t k :=
  mget_foldl_mput_agree d (fun e he hk => absurd hk (h e he)) (.inr rfl)

section
variable {s : State} {x : Snap} {b : Nat}

theorem Snap.copied_copy : (x.copy s b).copied = (s.levels.filter (fun e => ctrBlock e.1 == b)).foldl (fun t e => mput t e.1 e.2)
    ((s.counters.filter (fun e => ctrBlock e.1 == b)).foldl (fun t e => mput t e.1 e.2) x.copied) := by
  rw [← List.foldl_append, ← List.filter_append]; rfl

theorem mem_levels {e : Nat × Nat} (h : e ∈ s.levels) : ∃ q z, (q, z) ∈ s.rqs ∧ e = (Ctr.rqWaiting q, z.waiting) := by
  obtain ⟨⟨q, z⟩, hmem, rfl⟩ := List.mem_map.1 h
  exact ⟨q, z, hmem, rfl⟩

theorem Snap.copied_counter {id v : Nat} (hasc : Ascending s.counters) (hid : mfind s.counters id = some v) (hblock : ctrBlock id = b)
    (hother : ∀ q, id ≠ Ctr.rqWaiting q) : mget 0 (x.copy s b).copied id = v := by
  rw [Snap.copied_copy, mget_foldl_mput_none]
  · refine mget_foldl_mput_agree 0 (fun e he hk => ?_) (.inl (List.mem_filter.2 ⟨mem_of_mfind hid, by simp [hblock]⟩))
    have hmem : (id, e.2) ∈ s.counters := hk ▸ (List.mem_filter.1 he).1
    exact Option.some.inj ((mfind_of_mem hasc hmem).symm.trans hid)
  · intro e he hk
    obtain ⟨q, z, -, rfl⟩ := mem_levels (List.mem_filter.1 he).1
    exact hother q hk.symm

theorem Snap.copied_waiting {q : Nat} {z : ReportQ} (hasc : Ascending s.rqs) (hz : mfind s.rqs q = some z)
    (hblock : ctrBlock (Ctr.rqWaiting q) = b) : mget 0 (x.copy s b).copied (Ctr.rqWaiting q) = z.waiting := by
  rw [Snap.copied_copy]
  refine mget_foldl_mput_agree 0 (fun e he hk => ?_) (.inl (List.mem_filter.2 ⟨?_, by simp [hblock]⟩))
  · obtain ⟨q', z', hmem, rfl⟩ := mem_levels (List.mem_filter.1 he).1
    obtain rfl := Ctr.rqWaiting_inj _ _ hk
    rw [Option.some.inj ((mfind_of_mem hasc hmem).symm.trans hz)]
  · exact List.mem_map.2 ⟨(q, z), mem_of_mfind hz, rfl⟩

theorem Snap.copied_other {id : Nat} (hblock : ctrBlock id ≠ b) : mget 0 (x.copy s b).copied id = mget 0 x.copied id := by
  have hnone (l : Tab Nat) (e : Nat × Nat) (he : e ∈ l.filter (fun e => ctrBlock e.1 == b)) : e.1 ≠ id := by
    rintro rfl
    exact hblock (by simpa using (List.mem_filter.1 he).2)
  rw [Snap.copied_copy, mget_foldl_mput_none _ _ (hnone _), mget_foldl_mput_none _ _ (hnone _)]

end

/-- R771: the copy of a snapshot takes its place. -/
def State.withCopy (s : State) (x y : Snap) : State :=
  { s with obs := { s.obs with snaps := s.obs.snaps.map (fun (z : Snap) => if z.number = x.number then y else z) } }

section
variable {s : State} {b : Nat} {o : Occ} {x : Snap} (hdue : s.dueOcc b = some o) (hkind : o.kind = 9)
include hdue hkind

omit hkind in
theorem exec_snapshotCopy_waits (hearlier : s.earlierStarted o = false) : Gives (.snapshotCopy b) s s := by
  change execSnapshotCopy b s = _
  simp only [execSnapshotCopy, hdue]
  exact congrArg Host.Outcome.next (if_pos (.inr (by simp [hearlier])))

theorem exec_snapshotCopy {u : State} (hearlier : s.earlierStarted o = true) (hu : (s.startOcc b o).requeueSnap b o = u) (hsnap : u.snapOf o = some x) :
    Gives (.snapshotCopy b) s (if (x.copy u b).left.isEmpty && (x.copy u b).ring.isSome then (u.withCopy x (x.copy u b)).finishSnap (x.copy u b)
      else u.withCopy x (x.copy u b)) := by
  change execSnapshotCopy b s = _
  simp only [execSnapshotCopy, hdue]
  refine congrArg Host.Outcome.next ((if_neg (by simp [hkind, evSnapshot, hearlier])).trans ?_)
  simp only [hu, hsnap]
  rfl

end

/-- R549, R775: the state in which a block copies: its occurrence has left its queue, and a periodic one has come back. -/
structure CopyReady (s u : State) (b : Nat) (o : Occ) : Prop where
  nt : u.nt = s.nt
  counters : u.counters = s.counters
  rqs : u.rqs = s.rqs
  host : u.host = s.host
  out : u.out = s.out
  snaps : ∃ l, u.obs.snaps = s.obs.snaps ++ l
  once : o.periodic = false → u.queueOf b = (s.queueOf b).tail ∧ u.obs.snaps = s.obs.snaps
  again : o.periodic = true → (u.queueOf b).Perm ({ o with instant := s.nextPeriodic o.instant } :: (s.queueOf b).tail)

section
variable {s : State} {b : Nat} {o : Occ} {x : Snap} (hdue : s.dueOcc b = some o) (hlate : lateAt s.nt o.instant = false)
  (hlen : (s.queueOf b).length ≤ 1024)
include hdue hlate hlen

theorem copyReady : CopyReady s ((s.startOcc b o).requeueSnap b o) b o := by
  have hstart : s.startOcc b o = s.setQueue b (s.queueOf b).tail := by
    unfold State.startOcc
    dsimp only
    exact if_neg (by rw [show (s.setQueue b (s.queueOf b).tail).nt = s.nt from rfl, hlate]; simp)
  rw [hstart]
  have hqueue : (s.setQueue b (s.queueOf b).tail).queueOf b = (s.queueOf b).tail := State.queueOf_setQueue ..
  unfold State.requeueSnap
  split
  · next honce =>
    exact ⟨rfl, rfl, rfl, rfl, rfl, ⟨[], (List.append_nil _).symm⟩, fun _ => ⟨hqueue, rfl⟩, fun h => by simp [h] at honce⟩
  · next hperiodic =>
    have hper : o.periodic = true := by simpa using hperiodic
    have hne : s.queueOf b ≠ [] := by
      intro hnil
      unfold State.dueOcc at hdue
      rw [hnil] at hdue
      split at hdue <;> exact absurd hdue (by simp)
    have htail : (s.queueOf b).tail.length < 1024 := by
      have := List.length_pos_iff.2 hne
      rw [List.length_tail]; omega
    obtain ⟨v, hv⟩ : ∃ v, (if (s.setQueue b (s.queueOf b).tail).obs.snaps.any (fun x => x.ring.isNone && x.instant == s.nextPeriodic o.instant)
      then s.setQueue b (s.queueOf b).tail
      else (s.setQueue b (s.queueOf b).tail).listSnap (s.periodicSnap (s.nextPeriodic o.instant))) = v := ⟨_, rfl⟩
    have hvtime : v.time = (s.setQueue b (s.queueOf b).tail).time := by rw [← hv]; split <;> rfl
    have hvqueue : v.queueOf b = (s.queueOf b).tail := by rw [State.queueOf, hvtime]; exact hqueue
    have hcounters : v.counters = s.counters := by rw [← hv]; split <;> rfl
    have hrqs : v.rqs = s.rqs := by rw [← hv]; split <;> rfl
    have hhost : v.host = s.host := by rw [← hv]; split <;> rfl
    have hout : v.out = s.out := by rw [← hv]; split <;> rfl
    have hsnaps : ∃ l, v.obs.snaps = s.obs.snaps ++ l := by
      rw [← hv]
      split
      · exact ⟨[], (List.append_nil _).symm⟩
      · exact ⟨_, rfl⟩
    change CopyReady s (State.enqueue (if (s.setQueue b (s.queueOf b).tail).obs.snaps.any (fun x => x.ring.isNone && x.instant == s.nextPeriodic o.instant)
      then s.setQueue b (s.queueOf b).tail
      else (s.setQueue b (s.queueOf b).tail).listSnap (s.periodicSnap (s.nextPeriodic o.instant))) b { o with instant := s.nextPeriodic o.instant }) b o
    rw [hv, State.enqueue_of_room (by rw [hvqueue]; exact htail), hvqueue]
    refine ⟨(congrArg TimeBase.nt hvtime : v.time.nt = _), hcounters, hrqs, hhost, hout, hsnaps, fun h => by simp [h] at hper, fun _ => ?_⟩
    rw [State.queueOf_setQueue]
    exact insertOcc_perm ..

end

/-- What one block's copy leaves of a snapshot that is not ended by it (R771, R773). -/
theorem snapshotCopy_spec {s : State} {b : Nat} {o : Occ} {x : Snap} (hdue : s.dueOcc b = some o) (hkind : o.kind = 9)
    (hlate : lateAt s.nt o.instant = false) (hearlier : s.earlierStarted o = true) (hsnap : s.snapOf o = some x) (hasc : Ascending s.counters)
    (hlen : (s.queueOf b).length ≤ 1024) (hmore : o.periodic = true ∨ ∃ d ∈ x.left, d ≠ b) :
    ∃ (t : State) (y : Snap), Gives (.snapshotCopy b) s t ∧ y ∈ t.obs.snaps ∧ y.number = x.number ∧
      y.left = x.left.filter (fun d => d != b) ∧ y.instant = x.instant ∧ y.late = x.late ∧
      (o.periodic = false → t.queueOf b = (s.queueOf b).tail) ∧
      (o.periodic = true → (t.queueOf b).Perm ({ o with instant := s.nextPeriodic o.instant } :: (s.queueOf b).tail)) ∧
      t.counters = s.counters ∧
      (∀ id v, mfind s.counters id = some v → ctrBlock id = b → (∀ q, id ≠ Ctr.rqWaiting q) → mget 0 y.copied id = v) ∧
      (∀ q z, Ascending s.rqs → mfind s.rqs q = some z → ctrBlock (Ctr.rqWaiting q) = b → mget 0 y.copied (Ctr.rqWaiting q) = z.waiting) ∧
      (∀ id, ctrBlock id ≠ b → mget 0 y.copied id = mget 0 x.copied id) := by
  have hready := copyReady hdue hlate hlen
  obtain ⟨u, hu⟩ : ∃ u, (s.startOcc b o).requeueSnap b o = u := ⟨_, rfl⟩
  rw [hu] at hready
  obtain ⟨hnt, hcounters, hrqs, -, -, ⟨l, hsnaps⟩, honce, hagain⟩ := hready
  have hocc : x.occ = o := by simpa using List.find?_some hsnap
  have hx : x ∈ s.obs.snaps := List.mem_of_find?_eq_some hsnap
  have husnap : u.snapOf o = some x := by
    rw [State.snapOf, hsnaps, List.find?_append]
    rw [show s.obs.snaps.find? (fun x => x.occ == o) = some x from hsnap]
    rfl
  have hexec := exec_snapshotCopy hdue hkind hearlier hu husnap
  have hopen : ((x.copy u b).left.isEmpty && (x.copy u b).ring.isSome) = false := by
    rcases hmore with hper | ⟨d, hd, hne⟩
    · rw [← hocc, Snap.occ_eq] at hper
      have hring : (x.copy u b).ring.isNone = true := hper
      rw [Option.isNone_iff_eq_none.1 hring, Option.isSome_none, Bool.and_false]
    · have : (x.copy u b).left.isEmpty = false := by
        rw [List.isEmpty_eq_false_iff_exists_mem]
        exact ⟨d, List.mem_filter.2 ⟨hd, by simpa using hne⟩⟩
      rw [this, Bool.false_and]
  rw [hopen, if_neg (by simp)] at hexec
  refine ⟨_, x.copy u b, hexec, ?_, rfl, rfl, rfl, ?_, fun h => (honce h).1, hagain, hcounters, fun id v hid hblock hother => ?_,
    fun q z hrising hz hblock => ?_, fun id hblock => Snap.copied_other hblock⟩
  · refine List.mem_map.2 ⟨x, ?_, if_pos rfl⟩
    rw [hsnaps]; exact List.mem_append_left _ hx
  · have hinstant : x.instant = o.instant := by rw [← hocc, Snap.occ_eq]
    change (x.late || lateAt u.nt x.instant) = x.late
    rw [hnt, hinstant, hlate, Bool.or_false]
  · exact Snap.copied_counter (hcounters ▸ hasc) (hcounters ▸ hid) hblock hother
  · exact Snap.copied_waiting (hrqs ▸ hrising) (hrqs ▸ hz) hblock

end Sys2Proof.Machine
end

section
/-!
PROOFS. The end of a snapshot, periodic snapshots and the windows (R605, R775 to R778).
-/
open Sys2Proof Sys2Proof.Machine Sys2Proof.Claims

namespace Sys2Proof.Machine

/-! ### The last copy ends a snapshot to host memory (R773, R777) -/

/-- R777: a snapshot that every block has copied is counted, and listed no more. -/
def State.snapEnded (s : State) (x : Snap) : State :=
  let s := ({ s with obs := { s.obs with snaps := s.obs.snaps.filter (fun y => y.number != x.number) } } : State).bump Ctr.hallSnapshots
  if x.late then s.bump Ctr.hallSnapshotsLate else s

section
variable (s : State) (x : Snap)

theorem State.snapEnded_keeps {α : Type} (g : State → α) (hobs : ∀ (s : State) o, g { s with obs := o } = g s)
    (hbump : ∀ s id, g (State.bump s id) = g s) : g (s.snapEnded x) = g s := by
  unfold State.snapEnded
  dsimp only
  split
  · exact (hbump ..).trans ((hbump ..).trans (hobs ..))
  · exact (hbump ..).trans (hobs ..)

theorem State.host_snapEnded : (s.snapEnded x).host = s.host := State.snapEnded_keeps s x State.host (fun _ _ => rfl) State.bump_host

theorem State.out_snapEnded : (s.snapEnded x).out = s.out := State.snapEnded_keeps s x State.out (fun _ _ => rfl) State.bump_out

theorem State.snaps_snapEnded : (s.snapEnded x).obs.snaps = s.obs.snaps.filter (fun y => y.number != x.number) := by
  unfold State.snapEnded
  dsimp only
  split
  · rw [State.bump_obs, State.bump_obs]
  · rw [State.bump_obs]

/-- R777: host memory takes the snapshot, and its command completes. -/
theorem State.finishSnap_toHost {r : Nat} (hring : x.ring = some r) (hto : x.toHost = true) :
    ∃ n, s.finishSnap x = (let u := s.snapEnded x
      let v := (u.hostOut x.fn (u.localOf r) x.hostAddr (x.bytes u x.fn x.groups)).complete r okStatus
      { v with obs := { v.obs with snapTaken := n } }) := by
  unfold State.finishSnap
  rw [hring, hto]
  exact ⟨_, rfl⟩

end

theorem le_length_snapBytes (x : Snap) (s : State) (fn : Nat) (gs : List (Nat × Nat)) : 1 ≤ (x.bytes s fn gs).length := by
  simp only [Snap.bytes, List.length_append, length_leBytes]
  omega

/-- Host memory takes data, in plain or in envelopes that begin at the address (R632, R717). -/
theorem State.hostOut_writes (s : State) (fn ring addr : Nat) {data : Bytes} (hdata : 1 ≤ data.length) :
    ((s.func fn).bounce = false → ∃ bytes, onStream (s.func fn) fn (.hostWrite fn addr bytes) ∈ (s.hostOut fn ring addr data).out) ∧
    ((s.func fn).bounce = true → ∃ bytes, onStream (s.func fn) fn (.envelope fn addr bytes) ∈ (s.hostOut fn ring addr data).out) := by
  refine ⟨fun hplain => ⟨data, ?_⟩, fun hbounce => ?_⟩
  · rw [State.hostOut_plain _ _ _ _ hplain]
    exact List.mem_append_right _ (List.mem_singleton_self _)
  · have hseal : s.hostOut fn ring addr data = s.sealData fn ring addr data := if_pos hbounce
    rw [hseal, State.out_sealData]
    refine ⟨_, List.mem_append_right _ (List.mem_map.2 ⟨0, List.mem_range.2 (by omega), rfl⟩)⟩

theorem snapshotEnds_spec {s : State} {b r : Nat} {o : Occ} {x : Snap} (hdue : s.dueOcc b = some o) (hkind : o.kind = 9)
    (hlate : lateAt s.nt o.instant = false) (hearlier : s.earlierStarted o = true) (hsnap : s.snapOf o = some x)
    (hlen : (s.queueOf b).length ≤ 1024) (hring : x.ring = some r) (hleft : ∀ d ∈ x.left, d = b) (hto : x.toHost = true) (hr : r < 4096) :
    ∃ t : State, Gives (.snapshotCopy b) s t ∧ (∀ y ∈ t.obs.snaps, y.number ≠ x.number) ∧ t.cmdAt r = none ∧
      ((s.func x.fn).bounce = false → ∃ bytes, onStream (s.func x.fn) x.fn (.hostWrite x.fn x.hostAddr bytes) ∈ t.out) ∧
      ((s.func x.fn).bounce = true → ∃ bytes, onStream (s.func x.fn) x.fn (.envelope x.fn x.hostAddr bytes) ∈ t.out) := by
  have hready := copyReady hdue hlate hlen
  obtain ⟨u, hu⟩ : ∃ u, (s.startOcc b o).requeueSnap b o = u := ⟨_, rfl⟩
  rw [hu] at hready
  have hocc : x.occ = o := by simpa using List.find?_some hsnap
  have hper : o.periodic = false := by rw [← hocc, Snap.occ_eq, hring]; rfl
  obtain ⟨-, hsnaps⟩ := hready.once hper
  have husnap : u.snapOf o = some x := by rw [State.snapOf, hsnaps]; exact hsnap
  have hexec := exec_snapshotCopy hdue hkind hearlier hu husnap
  have hempty : (x.copy u b).left.isEmpty = true := by
    rw [List.isEmpty_iff]
    exact List.filter_eq_nil_iff.2 fun d hd => by simp [hleft d hd]
  have hisRing : (x.copy u b).ring.isSome = true := by
    change x.ring.isSome = true
    rw [hring]; rfl
  rw [hempty, hisRing, Bool.and_self, if_pos rfl] at hexec
  obtain ⟨w, hw⟩ : ∃ w, u.withCopy x (x.copy u b) = w := ⟨_, rfl⟩
  have hfunc : w.func x.fn = s.func x.fn := by
    rw [← hw]
    exact congrArg (fun h : HostIf => mget {} h.funcs x.fn) hready.host
  rw [hw] at hexec
  obtain ⟨y, hy⟩ : ∃ y, x.copy u b = y := ⟨_, rfl⟩
  have hyfn : y.fn = x.fn := hy ▸ rfl
  have hyaddr : y.hostAddr = x.hostAddr := hy ▸ rfl
  have hynumber : y.number = x.number := hy ▸ rfl
  rw [hy] at hexec
  obtain ⟨n, hfinish⟩ := State.finishSnap_toHost w y (r := r) (hy ▸ hring) (hy ▸ hto)
  rw [hfinish] at hexec
  refine ⟨_, hexec, fun z hz => ?_, State.cmdAt_complete _ hr _, ?_⟩
  · change z ∈ (State.complete _ r okStatus).obs.snaps at hz
    rw [State.complete_obs, State.hostOut_obs, State.snaps_snapEnded] at hz
    simpa [hynumber] using (List.mem_filter.1 hz).2
  · have hendfn : (w.snapEnded y).func y.fn = s.func x.fn := by
      rw [hyfn, State.func, State.host_snapEnded]
      exact hfunc
    obtain ⟨hplain, hsealed⟩ := State.hostOut_writes (w.snapEnded y) y.fn ((w.snapEnded y).localOf r) y.hostAddr
      (le_length_snapBytes y (w.snapEnded y) y.fn y.groups)
    rw [hendfn, hyfn, hyaddr] at hplain hsealed
    refine ⟨fun h => ?_, fun h => ?_⟩
    · obtain ⟨bytes, hmem⟩ := hplain h
      exact ⟨bytes, (State.complete_out _ r okStatus).subset (by rw [hyfn, hyaddr]; exact hmem)⟩
    · obtain ⟨bytes, hmem⟩ := hsealed h
      exact ⟨bytes, (State.complete_out _ r okStatus).subset (by rw [hyfn, hyaddr]; exact hmem)⟩

/-! ### Periodic snapshots (R775, R778) -/

theorem nextGrid_spec (nt : Nat) {period : Nat} (h : 1 ≤ period) :
    nt < nextGrid nt period ∧ nextGrid nt period ≤ nt + period ∧ nextGrid nt period % period = 0 := by
  have hdiv := Nat.div_add_mod nt period
  have hmod := Nat.mod_lt nt h
  have hgrid : nextGrid nt period = period * (nt / period) + period := by rw [nextGrid, Nat.succ_mul, Nat.mul_comm]
  refine ⟨by omega, by omega, ?_⟩
  rw [nextGrid, Nat.mul_mod_left]

/-- R605: a snapshot joins the hidden ones of a function. -/
def State.hideShot (s : State) (fn : Nat) (h : Shot) : State := s.setFunc fn { s.func fn with hidden := (s.func fn).hidden ++ [h] }

theorem State.hidden_hideShot (s : State) (fn f : Nat) (h : Shot) :
    ((s.hideShot fn h).func f).hidden = if f = fn then (s.func f).hidden ++ [h] else (s.func f).hidden := by
  unfold State.hideShot
  split
  · next hf => subst hf; rw [State.func_setFunc]
  · next hf => rw [State.func_setFunc_other _ _ hf]

/-- R605: of some functions, each gets one hidden snapshot more, and no other function does. -/
theorem State.hidden_foldl_hideShot {fns : List Nat} (hnodup : fns.Nodup) (shot : State → Nat → Shot) {q : Shot → Prop}
    (hq : ∀ s f, q (shot s f)) (s : State) :
    (∀ f ∈ fns, ∃ h, ((fns.foldl (fun s f => s.hideShot f (shot s f)) s).func f).hidden = (s.func f).hidden ++ [h] ∧ q h) ∧
    ∀ f ∉ fns, ((fns.foldl (fun s f => s.hideShot f (shot s f)) s).func f).hidden = (s.func f).hidden := by
  induction fns generalizing s with
  | nil => exact ⟨fun f h => absurd h List.not_mem_nil, fun _ _ => rfl⟩
  | cons d fns ih =>
    obtain ⟨hd, hnodup⟩ := List.nodup_cons.1 hnodup
    obtain ⟨hin, hout⟩ := ih hnodup (s.hideShot d (shot s d))
    rw [List.foldl_cons]
    refine ⟨fun f hf => ?_, fun f hf => ?_⟩
    · rcases List.mem_cons.1 hf with rfl | htail
      · exact ⟨shot s f, (hout f hd).trans ((State.hidden_hideShot ..).trans (if_pos rfl)), hq ..⟩
      · obtain ⟨h, hh, hqh⟩ := hin f htail
        have hne : f ≠ d := fun heq => hd (heq ▸ htail)
        exact ⟨h, hh.trans (by rw [State.hidden_hideShot, if_neg hne]), hqh⟩
    · obtain ⟨hne, htail⟩ := not_or.1 (mt List.mem_cons.2 hf)
      exact (hout f htail).trans ((State.hidden_hideShot ..).trans (if_neg hne))

theorem State.host_exportTelemetry (s : State) (x : Snap) : (s.exportTelemetry x).host = s.host :=
  foldl_keeps State.host _ (fun _ _ => State.exportItem_keeps State.host (fun _ _ _ => rfl) (fun _ _ _ => rfl)
    (fun _ _ _ _ _ _ => State.bumpN_host ..) ..) _ s

/-- R605, R775: what a function's hidden buffers take of a periodic snapshot. -/
def Snap.shotOf (x : Snap) (s : State) (f : Nat) : Shot := { ring := none, instant := x.instant, data := x.bytes s f (s.shotGroups f) }

/-- R605, R778: a periodic snapshot goes to the hidden buffers of every function, and is exported. -/
theorem State.finishSnap_periodic (s : State) {x : Snap} (hring : x.ring = none) :
    ∃ n, s.finishSnap x = (let v := ((List.range 9).foldl (fun s f => s.hideShot f (x.shotOf s f)) (s.snapEnded x)).exportTelemetry x
      { v with obs := { v.obs with snapTaken := n } }) := by
  unfold State.finishSnap State.snapEnded State.hideShot Snap.shotOf
  dsimp only
  rw [hring]
  dsimp only
  exact ⟨_, rfl⟩

theorem State.hidden_finishSnap {s : State} {x : Snap} (hring : x.ring = none) {fn : Nat} (hfn : fn ≤ 8) :
    ∃ h : Shot, ((s.finishSnap x).func fn).hidden = (s.func fn).hidden ++ [h] ∧ h.ring = none ∧ h.instant = x.instant := by
  obtain ⟨n, hfinish⟩ := s.finishSnap_periodic hring
  have hhost : (s.snapEnded x).host = s.host := State.host_snapEnded s x
  rw [hfinish]
  generalize s.snapEnded x = u at hhost ⊢
  obtain ⟨h, hhidden, hq⟩ := (State.hidden_foldl_hideShot List.nodup_range x.shotOf (q := fun h => h.ring = none ∧ h.instant = x.instant)
    (fun _ _ => ⟨rfl, rfl⟩) u).1 fn (List.mem_range.2 (show fn < 9 by omega))
  generalize (List.range 9).foldl (fun s f => s.hideShot f (x.shotOf s f)) u = v at hhidden ⊢
  refine ⟨h, ?_, hq⟩
  change ((mget {} (v.exportTelemetry x).host.funcs fn).hidden) = _
  rw [State.host_exportTelemetry]
  exact hhidden.trans (by rw [State.func, hhost]; rfl)

section
variable {s : State} (hfree : s.hallFree = true) (hset : s.time.state ≠ .unset) (hruns : s.time.stopped = false)
include hfree hset hruns

theorem exec_periodicSnapshot : Gives .periodicSnapshot s (match s.obs.snaps.find? (fun x => x.ring.isNone) with
    | none => if s.blocks.any (fun b => s.queueFull b) then s else
        s.beginSnap (s.periodicSnap (nextGrid s.nt (s.setting 0x0004 0 0 * ms)))
    | some x => if x.left.isEmpty then s.finishSnap x else s) := by
  refine congrArg Host.Outcome.next ((if_neg (by simp [hfree, hset, hruns])).trans ?_)
  cases s.obs.snaps.find? (fun x => x.ring.isNone) <;> rfl

theorem periodicSnapshot_spec (hperiod : 1 ≤ s.setting 0x0004 0 0) :
    ((∀ x ∈ s.obs.snaps, x.ring ≠ none) → (∀ b ∈ s.blocks, s.queueFull b = false) → ∃ (t : State) (x : Snap), Gives .periodicSnapshot s t ∧
      Pending s t x ∧ x.ring = none ∧ s.nt < x.instant ∧ x.instant ≤ s.nt + s.setting 0x0004 0 0 * 16000000 ∧
      x.instant % (s.setting 0x0004 0 0 * 16000000) = 0) ∧
    (∀ x, s.obs.snaps.find? (fun y => y.ring.isNone) = some x → x.left = [] →
      ∃ t : State, Gives .periodicSnapshot s t ∧ ∀ fn, fn ≤ 8 → ∃ h : Shot, (t.func fn).hidden = (s.func fn).hidden ++ [h] ∧
        h.ring = none ∧ h.instant = x.instant) := by
  have hexec := exec_periodicSnapshot hfree hset hruns
  refine ⟨fun hnone hroom => ?_, fun x hx hleft => ?_⟩
  · have hfind : s.obs.snaps.find? (fun x => x.ring.isNone) = none :=
      List.find?_eq_none.2 fun x hx h => hnone x hx (Option.isNone_iff_eq_none.1 h)
    have hfull : s.blocks.any (fun b => s.queueFull b) = false := by simpa using hroom
    rw [hfind, hfull] at hexec
    obtain ⟨hlow, hhigh, hgrid⟩ := nextGrid_spec s.nt (period := s.setting 0x0004 0 0 * 16000000) (by omega)
    exact ⟨_, _, hexec, pending_beginSnap rfl rfl hroom, rfl, hlow, hhigh, hgrid⟩
  · have hring : x.ring = none := by simpa using List.find?_some hx
    simp only [hx, hleft, List.isEmpty_nil, if_true] at hexec
    exact ⟨_, hexec, fun fn hfn => State.hidden_finishSnap hring hfn⟩

end

/-! ### The window (R605) -/

theorem snapshotWindowSwap_spec {s : State} {fn : Nat} {h : Shot} {rest : List Shot} (hfree : s.hallFree = true)
    (hhidden : (s.func fn).hidden = h :: rest) :
    let f := s.func fn
    let g : Func := { f with hidden := rest, window := h.data, snapSeq := (f.snapSeq + 1) % 4294967296, snapNt := h.instant }
    (h.ring = none → Gives (.snapshotWindowSwap fn) s (s.setFunc fn g)) ∧
    (∀ r, h.ring = some r → Gives (.snapshotWindowSwap fn) s ((s.setFunc fn g).complete r { status := 0 })) := by
  have hexec {t : State} (ht : (match h.ring with
      | some r => (s.setFunc fn { s.func fn with hidden := rest, window := h.data, snapSeq := ((s.func fn).snapSeq + 1) % 4294967296,
                                                 snapNt := h.instant }).complete r okStatus
      | none => s.setFunc fn { s.func fn with hidden := rest, window := h.data, snapSeq := ((s.func fn).snapSeq + 1) % 4294967296,
                                              snapNt := h.instant }) = t) : Gives (.snapshotWindowSwap fn) s t := by
    refine congrArg Host.Outcome.next ((State.whenFree_of_free hfree _).trans ?_)
    dsimp only
    rw [hhidden]
    exact ht
  exact ⟨fun hnone => hexec (by rw [hnone]), fun r hr => hexec (by rw [hr] <;> rfl)⟩

/-- R604, R605, R694, R759, R768, R771 to R776 (with log entries 29, 30). -/
theorem countersAndSnapshots : Claims.CountersAndSnapshots := by
  refine ⟨?_, ?_, ?_, ?_, ?_, ?_, ?_⟩
  · exact fun s id n j _ => s.bumpN_spec id n j
  · exact fun c first count s cmd h hlow hhigh hroom => counterRead_spec h hlow hhigh hroom
  · intro s fn id
    refine ⟨fun hnone => if_pos (by simp [hnone]), fun hexists h8 => State.readCtr_partition hexists h8,
      fun hexists h8 h9 h12 => State.readCtr_single hexists h8 h9 h12, fun p hexists hpart h12 hfn hown =>
        State.readCtr_context hexists hpart h12 hfn hown, fun q x hexists hq hx => State.readCtr_waiting hexists hq hx⟩
  · exact fun c s cmd h hfeature => snapshot_spec h hfeature
  · intro s b o x hdue hkind hlate hearlier hsnap hasc _ hlen
    exact ⟨fun hmore => snapshotCopy_spec hdue hkind hlate hearlier hsnap hasc hlen hmore,
      fun r hring hleft hto hr _ => snapshotEnds_spec hdue hkind hlate hearlier hsnap hlen hring hleft hto hr,
      exec_snapshotCopy_waits hdue⟩
  · exact fun s hfree hset hruns hperiod => periodicSnapshot_spec hfree hset hruns hperiod
  · exact fun s fn h rest hfree hhidden => snapshotWindowSwap_spec hfree hhidden

end Sys2Proof.Machine
end

section
/-!
PROOFS. Trace buffers of chapter 21 (R780 to R788), and the counters and traces as a whole.
-/
open Sys2Proof Sys2Proof.Machine Sys2Proof.Claims

namespace Sys2Proof.Machine

/-! ### The order of records (R780) -/

theorem insertRec_perm (r : TraceRec) (l : List TraceRec) : (insertRec r l).Perm (r :: l) := by
  induction l with
  | nil => exact List.Perm.refl _
  | cons x xs ih =>
    simp only [insertRec]
    split
    · exact (ih.cons x).trans (List.Perm.swap r x xs)
    · exact List.Perm.refl _

/-- R780: the order of NT and, at equal NT, of the engine code. -/
def TraceRec.UpTo (x y : TraceRec) : Prop := x.nt < y.nt ∨ (x.nt = y.nt ∧ x.engine ≤ y.engine)

theorem insertRec_pairwise (r : TraceRec) {l : List TraceRec} (h : l.Pairwise TraceRec.UpTo) : (insertRec r l).Pairwise TraceRec.UpTo := by
  induction l with
  | nil => exact List.pairwise_singleton ..
  | cons x xs ih =>
    obtain ⟨hx, hxs⟩ := List.pairwise_cons.1 h
    simp only [insertRec]
    split
    · next hle =>
      refine List.pairwise_cons.2 ⟨fun y hy => ?_, ih hxs⟩
      rcases List.mem_cons.1 ((insertRec_perm r xs).subset hy) with rfl | hmem
      · exact hle
      · exact hx y hmem
    · next hlt =>
      have hr : TraceRec.UpTo r x := by unfold TraceRec.UpTo; omega
      refine List.pairwise_cons.2 ⟨fun y hy => ?_, h⟩
      rcases List.mem_cons.1 hy with rfl | hmem
      · exact hr
      · have := hx y hmem
        unfold TraceRec.UpTo at *
        omega

/-! ### TRACE_CONFIG and TRACE_RELEASE (R784, R785, R788) -/

/-- Some buffers change alike. -/
def State.editBufs (s : State) (bs : List Nat) (f : TraceBuf → TraceBuf) : State := bs.foldl (fun s b => s.setBuf b (f (s.buf b))) s

section
variable (s : State) (bs : List Nat) {f : TraceBuf → TraceBuf}

theorem State.buf_editBufs (hf : ∀ x, f (f x) = f x) (d : Nat) : (s.editBufs bs f).buf d = if d ∈ bs then f (s.buf d) else s.buf d := by
  induction bs generalizing s with
  | nil => rfl
  | cons b bs ih =>
    refine (ih (s.setBuf b (f (s.buf b)))).trans ?_
    by_cases hd : d = b
    · subst hd
      rw [State.buf_setBuf, hf, ite_self, if_pos List.mem_cons_self]
    · simp only [State.buf_setBuf_other _ _ hd, List.mem_cons, hd, false_or]

theorem State.editBufs_keeps {α : Type} (g : State → α) (hg : ∀ (s : State) o, g { s with obs := o } = g s) : g (s.editBufs bs f) = g s :=
  foldl_keeps g _ (fun _ _ => hg ..) _ s

end

section
variable {c : CmdIn} {sel mask post th : Nat} {on : Bool} {s : State} {cmd : Cmd}

/-- R785: what TRACE_CONFIG writes of a buffer. -/
def TraceBuf.armed (on : Bool) (mask post th : Nat) (x : TraceBuf) : TraceBuf :=
  { x with enable := on, triggerMask := mask, postRecords := post, stallThreshold := th, postLeft := none }

/-- R784: what TRACE_RELEASE writes of a buffer. -/
def TraceBuf.released (x : TraceBuf) : TraceBuf := { x with frozen := false, postLeft := none }

theorem traceConfig_spec (h : Ready 0x0703 (.traceConfig c sel on mask post th) c s cmd) (hsel : selBad s c sel = false) (hmask : mask < 128)
    (hpost : post < (if sel % 16 = 3 then 512 else bufCap (selectorBuf sel))) :
    (traceDenied s cmd sel = true → Fails (.traceConfig c sel on mask post th) c s 4) ∧
    (traceDenied s cmd sel = false → ∃ u : State, Succeeds (.traceConfig c sel on mask post th) c s u ∧
      (∀ b ∈ s.selected sel cmd.hdr.partition, u.buf b = (s.buf b).armed on mask post th) ∧
      OtherBufs (s.selected sel cmd.hdr.partition) s u ∧ u.tiles = s.tiles ∧ u.parts = s.parts) := by
  have hcap : bufCap (if sel % 16 = 3 then 16 else selectorBuf sel) = if sel % 16 = 3 then 512 else bufCap (selectorBuf sel) := by
    split <;> rfl
  have hbad : ∀ b ∈ [(selBad s c sel, 0), (decide (128 ≤ mask), 8), (decide (bufCap (if sel % 16 = 3 then 16 else selectorBuf sel) ≤ post), 0x0C)],
      b.1 = false := by
    simp only [List.mem_cons, List.not_mem_nil, or_false]
    rintro b (rfl | rfl | rfl)
    · exact hsel
    · exact decide_eq_false (Nat.not_le.2 hmask)
    · exact decide_eq_false (by rw [hcap]; exact Nat.not_le.2 hpost)
  refine ⟨fun hdenied => ⟨0, congrArg Host.Outcome.next (runNow_refuses h hbad (st := stDenied) ?_)⟩, fun hmay =>
    ⟨s.editBufs (s.selected sel cmd.hdr.partition) (TraceBuf.armed on mask post th),
      congrArg Host.Outcome.next (runNow_completes h hbad (dataHere_of_ready h) (t := s.editBufs (s.selected sel cmd.hdr.partition)
        (TraceBuf.armed on mask post th)) (st := okStatus) ?_ (.inl rfl) rfl), fun b hb => ?_, fun d hd => ?_, ?_, ?_⟩⟩
  · exact if_pos hdenied
  · exact if_neg (by simp [hmay])
  · rw [State.buf_editBufs s _ (f := TraceBuf.armed on mask post th) (fun _ => rfl), if_pos hb]
  · rw [State.buf_editBufs s _ (f := TraceBuf.armed on mask post th) (fun _ => rfl), if_neg hd]
  · exact State.editBufs_keeps s _ State.tiles fun _ _ => rfl
  · exact State.editBufs_keeps s _ State.parts fun _ _ => rfl

theorem traceRelease_spec (h : Ready 0x0704 (.traceRelease c sel) c s cmd) (hsel : selBad s c sel = false) (hmay : traceDenied s cmd sel = false) :
    ((∀ b ∈ s.selected sel cmd.hdr.partition, (s.buf b).frozen = false) → Fails (.traceRelease c sel) c s 8) ∧
    ((∃ b ∈ s.selected sel cmd.hdr.partition, (s.buf b).frozen = true) → ∃ u : State, Succeeds (.traceRelease c sel) c s u ∧
      (∀ b ∈ s.selected sel cmd.hdr.partition, (u.buf b).frozen = false ∧ (u.buf b).recs = (s.buf b).recs) ∧
      OtherBufs (s.selected sel cmd.hdr.partition) s u) := by
  have hbad : ∀ b ∈ [(selBad s c sel, 0)], b.1 = false := by simpa using hsel
  refine ⟨fun hnone => ⟨0, congrArg Host.Outcome.next (runNow_refuses h hbad (st := stNotFound) ?_)⟩, fun hsome =>
    ⟨s.editBufs (s.selected sel cmd.hdr.partition) TraceBuf.released,
      congrArg Host.Outcome.next (runNow_completes h hbad (dataHere_of_ready h) (t := s.editBufs (s.selected sel cmd.hdr.partition)
        TraceBuf.released) (st := okStatus) ?_ (.inl rfl) rfl), fun b hb => ?_, fun d hd => ?_⟩⟩
  · exact (if_neg (by simp [hmay])).trans (if_pos (by simpa using hnone))
  · obtain ⟨b, hb, hfrozen⟩ := hsome
    refine (if_neg (by simp [hmay])).trans (if_neg fun hall => ?_)
    have := List.all_eq_true.1 hall b hb
    simp [hfrozen] at this
  · rw [State.buf_editBufs s _ (f := TraceBuf.released) (fun _ => rfl), if_pos hb]
    exact ⟨rfl, rfl⟩
  · rw [State.buf_editBufs s _ (f := TraceBuf.released) (fun _ => rfl), if_neg hd]

end

/-! ### TRACE_RECORD (R780 to R782, R784) -/

/-- R780, R784: a buffer that streams to no ring takes a record. -/
theorem TraceBuf.write_takes (t : TraceBuf) (cap : Nat) (r : TraceRec) :
    (t.write cap false r).recs = (if t.recs.length < cap then t.recs else t.recs.tail) ++ [r] ∧ (t.write cap false r).fifo = t.fifo ∧
      (t.write cap false r).lostRun = t.lostRun := by
  have hkept : (if cap ≤ t.recs.length then t.recs.tail else t.recs) = if t.recs.length < cap then t.recs else t.recs.tail := by
    by_cases h : t.recs.length < cap
    · rw [if_pos h, if_neg (by omega)]
    · rw [if_neg h, if_pos (by omega)]
  rw [TraceBuf.write, if_neg (by simp), hkept]
  dsimp only
  split
  · split <;> exact ⟨rfl, rfl, rfl⟩
  · split
    · split <;> exact ⟨rfl, rfl, rfl⟩
    · exact ⟨rfl, rfl, rfl⟩

/-- R784: the buffer freezes with the last record behind a trigger. -/
theorem TraceBuf.write_freezes (t : TraceBuf) (cap : Nat) (r : TraceRec) (hruns : t.frozen = false) :
    (t.postLeft = none → r.kind ≠ 8 → (t.write cap false r).frozen = false) ∧
    (t.postLeft = none → r.kind = 8 → t.postRecords = 0 → (t.write cap false r).frozen = true) ∧
    (t.postLeft = none → r.kind = 8 → 1 ≤ t.postRecords → (t.write cap false r).frozen = false ∧
      (t.write cap false r).postLeft = some t.postRecords) ∧
    (∀ n, t.postLeft = some n → 2 ≤ n → (t.write cap false r).frozen = false ∧ (t.write cap false r).postLeft = some (n - 1)) ∧
    (t.postLeft = some 1 → (t.write cap false r).frozen = true) := by
  rw [TraceBuf.write, if_neg (by simp)]
  dsimp only
  refine ⟨fun hleft hkind => ?_, fun hleft hkind hpost => ?_, fun hleft hkind hpost => ?_, fun n hleft hn => ?_, fun hleft => ?_⟩
  · simp only [hleft, hkind, if_false]; exact hruns
  · simp only [hleft, hkind, hpost, if_true]
  · have hne : t.postRecords ≠ 0 := by omega
    simp only [hleft, hkind, hne, if_true, if_false]
    exact ⟨hruns, trivial⟩
  · have hmore : ¬ n ≤ 1 := by omega
    simp only [hleft, hmore, if_false]
    exact ⟨hruns, trivial⟩
  · simp only [hleft, Nat.le_refl, if_true]

/-- R780, R782: the buffer as the cycle's write finds it: a GAP has taken the place of lost records where room has returned. -/
theorem TraceBuf.closeGap_spec (x : TraceBuf) {nt : Nat} (hnew : x.wroteNt ≠ some nt) :
    x.closeGap nt = { x with
      fifo := if 0 < x.lostRun ∧ x.fifo.length < 9 then insertRec (eventRec 9 0 x.lostNt x.lostRun x.lostNt) x.fifo else x.fifo
      lostRun := if x.fifo.length < 9 then 0 else x.lostRun
      lostNt := if 0 < x.lostRun ∧ x.fifo.length < 9 then 0 else x.lostNt } := by
  have hroom : x.room nt = 9 := if_neg hnew
  unfold TraceBuf.closeGap
  rw [hroom]
  by_cases hlost : 0 < x.lostRun
  · by_cases hlen : x.fifo.length < 9 <;> simp [hlost, hlen]
  · have h0 : x.lostRun = 0 := by omega
    cases x
    simp_all

theorem TraceBuf.closeGap_keeps (x : TraceBuf) (nt : Nat) : (x.closeGap nt).enable = x.enable ∧ (x.closeGap nt).frozen = x.frozen ∧
    (x.closeGap nt).wroteNt = x.wroteNt := by
  unfold TraceBuf.closeGap; split <;> exact ⟨rfl, rfl, rfl⟩

section
variable {s : State} {b : Nat} (hfree : s.bufFree b = true) (hring : s.drainRing b = none)
include hfree hring

theorem exec_traceRecord : Gives (.traceRecord b) s (
    if !((s.buf b).closeGap s.nt).enable || ((s.buf b).closeGap s.nt).frozen || ((s.buf b).closeGap s.nt).wroteNt == some s.nt then s
    else match ((s.buf b).closeGap s.nt).fifo with
      | [] => s
      | r :: rest => s.writeRec b false { (s.buf b).closeGap s.nt with fifo := rest } r) := by
  refine congrArg Host.Outcome.next ((if_neg (by simp [hfree])).trans ?_)
  rw [hring]
  rfl

theorem exec_traceRecord_idle (h : (s.buf b).enable = false ∨ (s.buf b).frozen = true ∨ (s.buf b).wroteNt = some s.nt) :
    Gives (.traceRecord b) s s := by
  obtain ⟨henable, hfrozen, hwrote⟩ := (s.buf b).closeGap_keeps s.nt
  have hexec := exec_traceRecord hfree hring
  rwa [henable, hfrozen, hwrote, if_pos (by rcases h with h | h | h <;> simp [h])] at hexec

end

/-- R780: the counters of records and of freezes of one buffer are two. -/
theorem bufCtr_ne (b : Nat) : bufCtr b 0 ≠ bufCtr b 2 := by unfold bufCtr; split <;> [omega; (split <;> omega)]

/-- R780, R784: the cycle of a buffer that writes a record, other than a STALL record, without losing one. -/
theorem State.writeRec_spec (s : State) (b : Nat) (t : TraceBuf) {r : TraceRec} (hkind : r.kind ≠ 3) :
    OtherBufs [b] s (s.writeRec b false t r) ∧ (s.writeRec b false t r).buf b = { t.write (bufCap b) false r with wroteNt := some s.nt } ∧
      (s.writeRec b false t r).ctr (bufCtr b 0) = rose (s.ctr (bufCtr b 0)) 1 := by
  obtain ⟨-, -, hlost⟩ := t.write_takes (bufCap b) r
  obtain ⟨y, hy⟩ : ∃ y : TraceBuf, { t.write (bufCap b) false r with wroteNt := some s.nt } = y := ⟨_, rfl⟩
  have hstep : s.writeRec b false t r = if y.frozen then ((s.setBuf b y).bump (bufCtr b 0)).bump (bufCtr b 2) else (s.setBuf b y).bump (bufCtr b 0) := by
    subst hy
    unfold State.writeRec
    simp only [hlost, Nat.lt_irrefl, if_false, hkind, false_and]
  have hobs : (s.writeRec b false t r).obs = (s.setBuf b y).obs := by
    rw [hstep]
    split
    · rw [State.bump_obs, State.bump_obs]
    · rw [State.bump_obs]
  have hctr : ((s.setBuf b y).bump (bufCtr b 0)).ctr (bufCtr b 0) = rose (s.ctr (bufCtr b 0)) 1 := by
    rw [State.ctr_bump]; simp [State.ctr, State.setBuf]
  rw [hy]
  refine ⟨fun d hd => ?_, ?_, ?_⟩
  · rw [State.buf, hobs]; exact State.buf_setBuf_other _ _ (by simpa using hd)
  · rw [State.buf, hobs]; exact State.buf_setBuf ..
  · rw [hstep]
    split
    · rw [State.ctr_bump_other _ (bufCtr_ne b), hctr]
    · exact hctr

theorem traceRecord_spec {s : State} {b : Nat} (hfree : s.bufFree b = true) (hring : s.drainRing b = none) {r : TraceRec} {rest : List TraceRec}
    (henable : (s.buf b).enable = true) (hfrozen : (s.buf b).frozen = false) (hnew : (s.buf b).wroteNt ≠ some s.nt) (hkind : r.kind ≠ 3)
    (hnext : (if 0 < (s.buf b).lostRun ∧ (s.buf b).fifo.length < 9 then
      insertRec (eventRec 9 0 (s.buf b).lostNt (s.buf b).lostRun (s.buf b).lostNt) (s.buf b).fifo else (s.buf b).fifo) = r :: rest) :
    let x := s.buf b
    let kept := if x.recs.length < bufCap b then x.recs else x.recs.tail
    ∃ t : State, Gives (.traceRecord b) s t ∧ OtherBufs [b] s t ∧ (t.buf b).recs = kept ++ [r] ∧ (t.buf b).fifo = rest ∧
        (t.buf b).wroteNt = some s.nt ∧ ((t.buf b).lostRun = if x.fifo.length < 9 then 0 else x.lostRun) ∧
        t.ctr (bufCtr b 0) = rose (s.ctr (bufCtr b 0)) 1 ∧
        (x.postLeft = none → r.kind ≠ 8 → (t.buf b).frozen = false) ∧
        (x.postLeft = none → r.kind = 8 → x.postRecords = 0 → (t.buf b).frozen = true) ∧
        (x.postLeft = none → r.kind = 8 → 1 ≤ x.postRecords → (t.buf b).frozen = false ∧ (t.buf b).postLeft = some x.postRecords) ∧
        (∀ n, x.postLeft = some n → 2 ≤ n → (t.buf b).frozen = false ∧ (t.buf b).postLeft = some (n - 1)) ∧
        (x.postLeft = some 1 → (t.buf b).frozen = true) := by
  have hexec := exec_traceRecord hfree hring
  have hgap := (s.buf b).closeGap_spec hnew
  obtain ⟨y, hy⟩ : ∃ y : TraceBuf, { (s.buf b).closeGap s.nt with fifo := rest } = y := ⟨_, rfl⟩
  have hyrecs : y.recs = (s.buf b).recs := by rw [← hy, hgap]
  have hyfifo : y.fifo = rest := by rw [← hy]
  have hylost : y.lostRun = if (s.buf b).fifo.length < 9 then 0 else (s.buf b).lostRun := by rw [← hy, hgap]
  have hyleft : y.postLeft = (s.buf b).postLeft := by rw [← hy, hgap]
  have hypost : y.postRecords = (s.buf b).postRecords := by rw [← hy, hgap]
  have hyruns : y.frozen = false := by rw [← hy, hgap]; exact hfrozen
  have hfifo : ((s.buf b).closeGap s.nt).fifo = r :: rest := by rw [hgap]; exact hnext
  obtain ⟨henable', hfrozen', hwrote'⟩ := (s.buf b).closeGap_keeps s.nt
  rw [henable', hfrozen', hwrote', if_neg (by simp [henable, hfrozen, hnew]), hfifo] at hexec
  dsimp only at hexec
  rw [hy] at hexec
  obtain ⟨hother, hbuf, hctr⟩ := State.writeRec_spec s b y hkind
  obtain ⟨hrecs, hfifo', hlost⟩ := y.write_takes (bufCap b) r
  have hfreezes := y.write_freezes (bufCap b) r hyruns
  rw [hyleft, hypost] at hfreezes
  refine ⟨_, hexec, hother, ?_, ?_, ?_, ?_, hctr, ?_⟩
  · rw [hbuf, ← hyrecs]; exact hrecs
  · rw [hbuf]; exact hfifo'.trans hyfifo
  · rw [hbuf]
  · rw [hbuf]; exact hlost.trans hylost
  · rw [hbuf]; exact hfreezes

/-! ### STALL_RECORD (R780, R782) -/

theorem State.buf_bump (s : State) (id b : Nat) : (s.bump id).buf b = s.buf b := by rw [State.buf, State.bump_obs]; rfl

section
variable (s : State) (b : Nat) (r : TraceRec)

theorem State.trace_idle (h : (s.buf b).enable = false ∨ (s.buf b).frozen = true) : s.trace b r = s := by
  obtain ⟨henable, hfrozen, -⟩ := (s.buf b).closeGap_keeps s.nt
  unfold State.trace
  dsimp only
  rw [henable, hfrozen]
  exact if_pos (by rcases h with h | h <;> simp [h])

variable {s b} (henable : (s.buf b).enable = true) (hfrozen : (s.buf b).frozen = false)
include henable hfrozen

theorem State.trace_eq : s.trace b r = if ((s.buf b).closeGap s.nt).fifo.length < (s.buf b).room s.nt then
    s.setBuf b { (s.buf b).closeGap s.nt with fifo := insertRec r ((s.buf b).closeGap s.nt).fifo }
    else (s.setBuf b (((s.buf b).closeGap s.nt).lose r)).bump (bufCtr b 1) := by
  obtain ⟨henable', hfrozen', hwrote⟩ := (s.buf b).closeGap_keeps s.nt
  have hroom : ((s.buf b).closeGap s.nt).room s.nt = (s.buf b).room s.nt := by simp only [TraceBuf.room, hwrote]
  unfold State.trace
  dsimp only
  rw [henable', hfrozen', hroom]
  exact if_neg (by simp [henable, hfrozen])

/-- R782: a record that finds room, one that a GAP goes before, and one that is lost. -/
theorem State.trace_spec (hkind : r.kind ≠ 9) : let x := s.buf b
    OtherBufs [b] s (s.trace b r) ∧
    (x.lostRun = 0 → x.fifo.length < x.room s.nt → ((s.trace b r).buf b).fifo = insertRec r x.fifo ∧ ((s.trace b r).buf b).lostRun = 0) ∧
    (0 < x.lostRun → x.fifo.length + 1 < x.room s.nt →
      ((s.trace b r).buf b).fifo = insertRec r (insertRec (eventRec 9 0 x.lostNt x.lostRun x.lostNt) x.fifo) ∧ ((s.trace b r).buf b).lostRun = 0) ∧
    (x.room s.nt ≤ x.fifo.length → ((s.trace b r).buf b).fifo = x.fifo ∧ ((s.trace b r).buf b).lostRun = x.lostRun + 1 ∧
      (s.trace b r).ctr (bufCtr b 1) = rose (s.ctr (bufCtr b 1)) 1) := by
  refine ⟨fun d hd => State.trace_buf_other _ _ (by simpa using hd), fun hnone hroom => ?_, fun hlost hroom => ?_, fun hfull => ?_⟩
  · rw [State.trace_buf s b r henable hfrozen hnone hroom]
    exact ⟨rfl, hnone⟩
  · have hgap : (s.buf b).closeGap s.nt = { s.buf b with
        fifo := insertRec (eventRec 9 0 (s.buf b).lostNt (s.buf b).lostRun (s.buf b).lostNt) (s.buf b).fifo, lostRun := 0, lostNt := 0 } :=
      if_pos ⟨hlost, by omega⟩
    have hlen : (insertRec (eventRec 9 0 (s.buf b).lostNt (s.buf b).lostRun (s.buf b).lostNt) (s.buf b).fifo).length =
        (s.buf b).fifo.length + 1 := (insertRec_perm ..).length_eq
    rw [State.trace_eq r henable hfrozen, hgap, if_pos (by dsimp only; omega), State.buf_setBuf]
    exact ⟨rfl, rfl⟩
  · have hgap : (s.buf b).closeGap s.nt = s.buf b := if_neg (by omega)
    have hlose : (s.buf b).lose r = { s.buf b with lostRun := (s.buf b).lostRun + 1, lostNt := if (s.buf b).lostRun = 0 then r.nt else (min (s.buf b).lostNt r.nt) } := by simp only [TraceBuf.lose, hkind, if_false]
    rw [State.trace_eq r henable hfrozen, hgap, if_neg (by omega), hlose]
    refine ⟨?_, ?_, ?_⟩
    · rw [State.buf_bump, State.buf_setBuf]
    · rw [State.buf_bump, State.buf_setBuf]
    · rw [State.ctr_bump]; simp [State.ctr, State.setBuf]

end

theorem exec_stallRecord {s : State} (hfree : s.hallFree = true) (b engine reason context layer op batch : Nat) :
    let own := if 16 ≤ b ∧ engine ≤ 10 then s.tileWait (b - 16) engine else none
    let r : TraceRec := { kind := 3, engine := engine, context := context, reason := (own.map (fun y => y.reason)).getD reason, layer := layer, op := op, nt := s.nt, arg0 := (s.buf b).stallThreshold, arg1 := (own.map (fun y => y.batch)).getD batch }
    Gives (.stallRecord b engine reason context layer op batch) s (if (s.buf b).stallThreshold = 0 then s else s.trace b r) :=
  congrArg Host.Outcome.next (State.whenFree_of_free hfree _)

/-- R780 to R782, R784, R785, R788 (with log entries 226, 227). -/
theorem tracesRecord : Claims.TracesRecord := by
  refine ⟨?_, ?_, ?_, ?_, ?_⟩
  · exact fun c sel mask post th on s cmd h hsel hmask hpost => traceConfig_spec h hsel hmask hpost
  · exact fun c sel s cmd h hsel hmay => traceRelease_spec h hsel hmay
  · intro s b hfree hring
    exact ⟨exec_traceRecord_idle hfree hring, fun r rest henable hfrozen hnew hkind hnext =>
      traceRecord_spec hfree hring henable hfrozen hnew hkind hnext, rfl, rfl, rfl, rfl⟩
  · exact fun r l => ⟨insertRec_perm r l, insertRec_pairwise r⟩
  · intro s b engine reason context layer op batch hfree
    have hexec := exec_stallRecord hfree b engine reason context layer op batch
    dsimp only at hexec
    refine ⟨fun hidle => ?_, fun hth henable hfrozen => ?_⟩
    · rcases hidle with h | h
      · rwa [if_pos h] at hexec
      · rwa [State.trace_idle _ _ _ h, ite_self] at hexec
    · rw [if_neg hth] at hexec
      exact ⟨_, hexec, State.trace_spec _ henable hfrozen (show (3 : Nat) ≠ 9 by decide)⟩

/-- Settles O45: sums and copies of counters by the tables they are read from, and the trace buffers by what one cycle's write makes of a
buffer. -/
theorem countersAndTraces : Obligations.CountersAndTraces := ⟨countersAndSnapshots, tracesRecord⟩

end Sys2Proof.Machine
end

section
/-!
PROOFS. The pair's states and messages (chapter 20): a frame on a lane number that no Banister lane has counts in a trace buffer's counter.
-/
open Sys2Proof Sys2Proof.Machine Sys2Proof.Claims Sys2Proof.Tests
namespace Sys2Proof.Machine

/-- Lane 154 is listed as up, and the trace buffer of tile 4,096, which the trigger of sticky bits fires, has no room for a record. -/
def misnumbered : State :=
  { pr { state := .active, lanesUp := [154] } with
    obs := { bufs := [(4112, { enable := true, triggerMask := 8, fifo := List.replicate 9 (eventRec 7 0 0 0) })] } }

theorem countLeft_misnumbered : let h := misnumbered.pairHeader 154 0 0
    misnumbered.hallFree = true ∧ misnumbered.pair.state ≠ .unpaired ∧ misnumbered.pair.lanesUp.contains 154 = true ∧
      pairFormatOk 154 h 0 = true ∧ misnumbered.ctr (Ctr.pairAuthFail 154) = 0 ∧
      countLeft (Ctr.pairAuthFail 154) (Machine.exec (.banisterFrame 154 h true false []) misnumbered) = some 2 := by decide +kernel

/-- Refutes O42: a frame that fails authentication on lane 154, which the statement does not bar, counts twice: its counter of such frames is
that of the records that the trace buffer of tile 4,096 has lost, and the buffer loses the trigger of the sticky bit. -/
theorem not_pairStatesAndMessages : ¬ Obligations.PairStatesAndMessages := by
  unfold Obligations.PairStatesAndMessages
  rintro ⟨-, -, -, hframe, -⟩
  obtain ⟨hfree, hpaired, hlane, hformat, hbefore, hafter⟩ := countLeft_misnumbered
  obtain ⟨-, hup⟩ := hframe misnumbered 154 (misnumbered.pairHeader 154 0 0) true false [] hfree
  obtain ⟨-, hfails, -⟩ := hup hpaired hlane (by decide) List.Pairwise.nil
  obtain ⟨t, hstep, -, -, hctr⟩ := hfails rfl hformat (.inl rfl)
  rw [hstep, countLeft, hctr, hbefore] at hafter
  exact absurd hafter (by decide)

end Sys2Proof.Machine
end

section
/-!
PROOFS. The scrubs and internal scan (chapter 19): what the phases clear by the tables that they filter, what the close of a partition leaves
of the others, and how O41 follows.
-/
open Sys2Proof Sys2Proof.Machine Sys2Proof.Claims
namespace Sys2Proof.Machine

theorem mget_mdel_same {α : Type} (d : α) {t : Tab α} (h : Ascending t) (k : Nat) : mget d (mdel t k) k = d := by
  rw [mget_eq_mfind, mfind_mdel_same h, Option.getD_none]

theorem mget_mdel_other {α : Type} (d : α) (t : Tab α) {k j : Nat} (h : j ≠ k) : mget d (mdel t k) j = mget d t j := by
  rw [mget_eq_mfind, mfind_mdel_other t h, mget_eq_mfind]

/-! ### SCRUB_DRAIN -/

theorem State.scrubIn_of_phase {s : State} {p : Nat} {x : Scrub} {ph : ScrubPhase} (h : (s.partOf p).scrub = some x) (hph : x.phase = ph) :
    s.scrubIn p ph = some x := by
  simp [State.scrubIn, h, hph]

theorem State.setPhase_eq {s : State} {p : Nat} {x : Scrub} (h : (s.partOf p).scrub = some x) (ph : ScrubPhase) :
    s.setPhase p ph = s.setPart p { s.partOf p with scrub := some { x with phase := ph } } := by
  simp [State.setPhase, State.modPart, h]

theorem exec_scrubDrain {s : State} {p : Nat} {x : Scrub} (hfree : s.hallFree = true) (hx : (s.partOf p).scrub = some x) (hph : x.phase = .drain) :
    Gives (.scrubDrain p) s (if s.owes p x.start || s.anyBatch p (fun _ => true) || decide (s.nt < x.start) then s
      else s.setPart p { s.partOf p with scrub := some { x with phase := .onDie } }) := by
  change execScrubDrain p s = _
  unfold execScrubDrain
  simp only [State.scrubIn_of_phase hx hph, State.setPhase_eq hx, hfree, Bool.not_true, Bool.false_or]

theorem scrubDrains (s : State) (p : Nat) (x : Scrub) (hfree : s.hallFree = true) (hx : (s.partOf p).scrub = some x) (hph : x.phase = .drain) :
    ((s.owes p x.start = true ∨ s.anyBatch p (fun _ => true) = true ∨ s.nt < x.start) → Gives (.scrubDrain p) s s) ∧
    (s.owes p x.start = false → s.anyBatch p (fun _ => true) = false → x.start ≤ s.nt →
      Gives (.scrubDrain p) s (s.setPart p { s.partOf p with scrub := some { x with phase := .onDie } })) := by
  refine ⟨fun h => (exec_scrubDrain hfree hx hph).trans ?_, fun howes hbatch hnt => (exec_scrubDrain hfree hx hph).trans ?_⟩
  · rw [if_pos]
    rcases h with h | h | h <;> simp [h]
  · rw [howes, hbatch, decide_eq_false (Nat.not_lt.2 hnt)]
    rfl

/-! ### SCRUB_ON_DIE -/

theorem State.clearTile_own {s : State} (h : s.is4840 = false) (p i : Nat) :
    s.clearTile p i = ({ s with tiles := mdel s.tiles i } : State).setBuf (16 + i) (s.buf (16 + i)).emptied := by
  simp only [State.clearTile, State.sharedTile, h, Bool.false_and, Bool.false_eq_true, if_false]
  rfl

/-- The tiles of a partition are cleared one after another; nothing but them and their trace buffers changes. -/
theorem State.foldl_clearTile {s : State} (h : s.is4840 = false) (p : Nat) (hasc : Ascending s.tiles) (l : List Nat) :
    let t := l.foldl (fun u i => u.clearTile p i) s
    t = { s with tiles := t.tiles, obs := t.obs } ∧ (∀ i ∈ l, t.tile i = {}) ∧ (∀ i, i ∉ l → t.tile i = s.tile i) := by
  induction l generalizing s with
  | nil => exact ⟨rfl, fun i hi => absurd hi List.not_mem_nil, fun _ _ => rfl⟩
  | cons j l ih =>
    have hclear := State.clearTile_own h p j
    have htiles : (s.clearTile p j).tiles = mdel s.tiles j := by rw [hclear]; rfl
    have hcode : (s.clearTile p j).is4840 = false := by rw [hclear]; exact h
    obtain ⟨hframe, hin, hout⟩ := ih hcode (by rw [htiles]; exact Rising.mdel hasc j)
    have hself : (s.clearTile p j).tile j = {} := by rw [State.tile, htiles]; exact mget_mdel_same _ hasc j
    have hother {i : Nat} (hi : i ≠ j) : (s.clearTile p j).tile i = s.tile i := by rw [State.tile, htiles]; exact mget_mdel_other _ _ hi
    rw [List.foldl_cons]
    refine ⟨?_, fun i hi => ?_, fun i hi => ?_⟩
    · refine hframe.trans ?_
      generalize l.foldl (fun u i => u.clearTile p i) (s.clearTile p j) = t
      rw [hclear]
      rfl
    · by_cases hl : i ∈ l
      · exact hin i hl
      · rw [List.mem_cons, or_iff_left hl] at hi
        subst hi
        exact (hout i hl).trans hself
    · obtain ⟨hne, hl⟩ := not_or.1 (mt List.mem_cons.2 hi)
      exact (hout i hl).trans (hother hne)

theorem Wing.clearOwn_coalescer (x : Wing) (p : Nat) : ∀ k ∈ (x.clearOwn p).coalescer, k.partition ≠ p := by
  intro k hk
  simpa using (List.mem_filter.1 hk).2

theorem Wing.clearOwn_overflow (x : Wing) (p : Nat) : ∀ e ∈ (x.clearOwn p).overflow, e.2.partition = p → e.2.valid = false := by
  intro e he hp
  obtain ⟨y, _, rfl⟩ := List.mem_map.1 he
  by_cases hy : y.2.partition = p
  · rw [if_pos hy]
    rfl
  · rw [if_neg hy] at hp
    exact absurd hp hy


/-- R664: the report queues of the other partitions stay. -/
theorem State.rq_emptyRqs_other (s : State) {p r q : Nat} (hr : r ≠ p) (hq : q < 4) : (s.emptyRqs p).rq r q = s.rq r q := by
  have hkey : (4 * r + q) / 4 ≠ p := by omega
  rw [State.rq, State.emptyRqs, mget_filter_of_kept]
  · rw [mget_eq_mfind, mfind_map_at s.rqs (fun j => j / 4 = p) ReportQ.emptied, if_neg hkey, ← mget_eq_mfind]
    rfl
  · intro e _ he
    simp [he, hkey]

/-- R723: what the on-die phase makes of the Wings, one after the other. -/
def State.clearWings (s : State) (p : Nat) : State := (List.range s.wings).foldl (fun s w => s.setWing w ((s.wing w).clearOwn p)) s

theorem State.clearWings_keeps {α : Type} (g : State → α) (hg : ∀ s w x, g (State.setWing s w x) = g s) (s : State) (p : Nat) :
    g (s.clearWings p) = g s := foldl_keeps g _ (fun _ _ => hg ..) _ s

theorem State.wing_clearWings {s : State} (h : s.is4840 = false) (p : Nat) {w : Nat} (hw : w < 2) : (s.clearWings p).wing w = (s.wing w).clearOwn p := by
  have htwo : s.wings = 2 := by rw [State.wings, h]; rfl
  rw [State.clearWings, htwo]
  rcases (by omega : w = 0 ∨ w = 1) with rfl | rfl <;> rfl

/-- R723: what the on-die phase leaves, the partition's own fields apart. -/
def State.clearedOnDie (s : State) (p : Nat) : State :=
  ({ (((s.partTiles p).foldl (fun u i => u.clearTile p i) s).emptyRqs p) with
    hall := s.hall.clearOwn p
    exp := { s.exp with mirrored := s.exp.mirrored.filter (fun e => e.1 / 2 != p) } } : State).clearWings p

/-- R723: what the on-die phase takes out of the partition's own fields. -/
def Partition.clearedOnDie (x : Partition) : Partition :=
  { x with rollouts := [], fill := none, owed := none, clear0 := none, clear1 := none, walk0 := none, walk1 := none }

theorem exec_scrubOnDie {s : State} {p : Nat} {x : Scrub} (hfree : s.wingsFree = true) (hcode : s.is4840 = false) (hasc : Ascending s.tiles)
    (hx : (s.partOf p).scrub = some x) (hph : x.phase = .onDie) (hread : ∀ q, q < 4 → ∀ r ∈ (s.rq p q).recs, r.selected = false) :
    Gives (.scrubOnDie p) s (((s.clearedOnDie p).modPart p Partition.clearedOnDie).setPhase p .dram) := by
  obtain ⟨hframe, -, -⟩ := State.foldl_clearTile hcode p hasc (s.partTiles p)
  have hdelivering : [0, 1, 2, 3].any (fun q => (s.rq p q).recs.any (fun r => r.selected)) = false := by
    rw [List.any_eq_false]
    intro q hq
    have hlt : q < 4 := by simp at hq; omega
    simpa using hread q hlt
  change execScrubOnDie p s = _
  unfold execScrubOnDie
  rw [State.scrubIn_of_phase hx hph, hdelivering]
  dsimp only
  rw [hfree]
  unfold State.clearedOnDie
  generalize (s.partTiles p).foldl (fun u i => u.clearTile p i) s = t at hframe ⊢
  rw [hframe]
  rfl

theorem scrubsOnDie {s : State} {p : Nat} {x : Scrub} (hfree : s.wingsFree = true) (hcode : s.is4840 = false)
    (hx : (s.partOf p).scrub = some x) (hph : x.phase = .onDie) (hasc : Ascending s.tiles) (hrqs : Ascending s.rqs)
    (hread : ∀ q, q < 4 → ∀ r ∈ (s.rq p q).recs, r.selected = false) :
    ∃ t : State, Gives (.scrubOnDie p) s t ∧ (t.partOf p).scrub = some { x with phase := .dram } ∧
      (∀ i ∈ s.partTiles p, t.tile i = {}) ∧ (∀ i, i ∉ s.partTiles p → t.tile i = s.tile i) ∧ (∀ q, q < 4 → t.rq p q = { reads := (s.rq p q).reads }) ∧
      (∀ w, w < 2 → (∀ k ∈ (t.wing w).coalescer, k.partition ≠ p) ∧ ∀ e ∈ (t.wing w).overflow, e.2.partition = p → e.2.valid = false) ∧
      (t.partOf p).rollouts = [] ∧ (∀ r, r ≠ p → t.partOf r = s.partOf r ∧ ∀ q, q < 4 → t.rq r q = s.rq r q) := by
  have hstep := exec_scrubOnDie hfree hcode hasc hx hph hread
  obtain ⟨hframe, hin, hout⟩ := State.foldl_clearTile hcode p hasc (s.partTiles p)
  unfold State.clearedOnDie at hstep
  generalize (s.partTiles p).foldl (fun u i => u.clearTile p i) s = t at *
  have htrqs : t.rqs = s.rqs := by rw [hframe]
  have htparts : t.parts = s.parts := by rw [hframe]
  have htwing (w : Nat) : t.wing w = s.wing w := State.wing_of_wings (by rw [hframe]) (by rw [hframe]) w
  have htcode : t.is4840 = false := by rw [State.is4840, hframe]; exact hcode
  have hrq (r q : Nat) : (t.emptyRqs p).rq r q = (s.emptyRqs p).rq r q := by rw [State.rq, State.rq, State.emptyRqs, State.emptyRqs, htrqs]
  generalize hu : ({ t.emptyRqs p with hall := s.hall.clearOwn p, exp := { s.exp with mirrored := s.exp.mirrored.filter (fun e => e.1 / 2 != p) } } : State) = u at hstep
  have hutiles : (u.clearWings p).tiles = t.tiles := (State.clearWings_keeps State.tiles (fun _ _ _ => State.setWing_tiles ..) ..).trans (by rw [← hu]; rfl)
  have hurqs : (u.clearWings p).rqs = (t.emptyRqs p).rqs := (State.clearWings_keeps State.rqs (fun _ _ _ => State.setWing_rqs ..) ..).trans (by rw [← hu])
  have huparts : (u.clearWings p).parts = s.parts :=
    (State.clearWings_keeps State.parts (fun _ _ _ => State.setWing_parts ..) ..).trans (by rw [← hu, ← htparts]; rfl)
  have huwing {w : Nat} (hw : w < 2) : (u.clearWings p).wing w = (s.wing w).clearOwn p := by
    have hcode : u.is4840 = false := by rw [← hu]; exact htcode
    rw [State.wing_clearWings hcode p hw, ← htwing w, ← hu]
    rfl
  generalize u.clearWings p = v at *
  have hpart (r : Nat) : v.partOf r = s.partOf r := State.partOf_of_parts huparts r
  refine ⟨_, hstep, ?_, fun i hi => ?_, fun i hi => ?_, fun q hq => ?_, fun w hw => ?_, ?_, fun r hr => ⟨?_, fun q hq => ?_⟩⟩
  · rw [State.setPhase, State.partOf_modPart, State.partOf_modPart, hpart, Partition.clearedOnDie, hx]
    rfl
  · exact (congrArg (mget ({} : Tile) · i) hutiles).trans (hin i hi)
  · exact (congrArg (mget ({} : Tile) · i) hutiles).trans (hout i hi)
  · exact ((congrArg (mget ({} : ReportQ) · (4 * p + q)) hurqs).trans (hrq p q)).trans (State.rq_emptyRqs hrqs p hq)
  · change (∀ k ∈ (v.wing w).coalescer, k.partition ≠ p) ∧ ∀ e ∈ (v.wing w).overflow, e.2.partition = p → e.2.valid = false
    rw [huwing hw]
    exact ⟨Wing.clearOwn_coalescer _ p, Wing.clearOwn_overflow _ p⟩
  · rw [State.setPhase, State.partOf_modPart, State.partOf_modPart]
    rfl
  · rw [State.setPhase, State.modPart, State.modPart, State.partOf_setPart_other _ _ hr, State.partOf_setPart_other _ _ hr, hpart]
  · exact ((congrArg (mget ({} : ReportQ) · (4 * r + q)) hurqs).trans (hrq r q)).trans (State.rq_emptyRqs_other s hr hq)

/-! ### SCRUB_DRAM -/

section keeps
variable {α : Type} (g : State → α)

theorem State.zeroDram_keeps (hwing : ∀ s w x, g (State.setWing s w x) = g s) (hhealth : ∀ (s : State) x, g { s with health := x } = g s)
    (hbump : ∀ s id n, g (State.bumpN s id n) = g s) (s : State) (p w : Nat) : g (s.zeroDram p w) = g s :=
  (hbump ..).trans ((hhealth ..).trans (hwing ..))

theorem State.returnQueues_keeps (hqueue : ∀ s q x, g (State.setXq s q x) = g s) (hport : ∀ s n x, g (State.setXport s n x) = g s)
    (hput : ∀ s id i e v, g (State.putSetting s id i e v) = g s) (s : State) (p : Nat) : g (s.returnQueues p) = g s :=
  (foldl_keeps g _ (fun _ _ => State.refreshPort_keeps g hqueue hport ..) _ _).trans
    (foldl_keeps g _ (fun _ _ => (hput ..).trans (hqueue ..)) _ s)

theorem State.dropShots_keeps (hobs : ∀ (s : State) x, g { s with obs := x } = g s) (hcomplete : ∀ s r st, g (State.complete s r st) = g s)
    (s : State) (fn : Nat) : g (s.dropShots fn) = g s := by
  refine (foldl_keeps g _ (fun s x => ?_) _ _).trans (hobs ..)
  cases x.ring with
  | none => rfl
  | some r => exact hcomplete ..

end keeps

/-- A command's end counts completions and vectors only. -/
theorem State.ctr_complete_other (s : State) (r : Nat) (st : Status) {id : Nat} (hcommands : ∀ fn, id ≠ Ctr.funcCommands fn)
    (hvectors : ∀ fn, id ≠ Ctr.funcMsixSent fn) : (s.complete r st).ctr id = s.ctr id := by
  cases hcmd : s.cmdAt r with
  | none => rw [State.complete, hcmd]
  | some c =>
    by_cases hr : r < 4096
    · cases hring : mfind s.host.rings r with
      | none => simp [State.cmdAt, hr, hring] at hcmd
      | some x =>
        have hrunning : x.running = some c := by simpa [State.cmdAt, hr, hring] using hcmd
        rw [State.complete_of_running st hr hring hrunning, State.ctr_covered _ r x (hvectors _)]
        refine (State.ctr_bump_other _ (hcommands _)).trans (State.ctr_of_counters ?_ id)
        rw [State.modRing_counters, State.counters_delivered]
    · refine State.ctr_of_counters ?_ id
      unfold State.complete
      rw [hcmd]
      dsimp only
      rw [if_neg hr, State.modAssoc_counters, State.emit_counters]
      split
      · rfl
      · exact State.noteStep_counters ..

/-- A step of a fold that sets a property, and that every step keeps, leaves it at the end. -/
theorem foldl_sets {α β : Type} {f : α → β → α} {P : α → Prop} {b : β} (hset : ∀ a, P (f a b)) (hkeep : ∀ a c, P a → P (f a c)) {l : List β} (hb : b ∈ l)
    (a : α) : P (l.foldl f a) := by
  have hrest (l : List β) (a : α) (h : P a) : P (l.foldl f a) := by
    induction l generalizing a with
    | nil => exact h
    | cons c l ih => exact ih _ (hkeep a c h)
  induction l generalizing a with
  | nil => exact absurd hb List.not_mem_nil
  | cons c l ih =>
    rcases List.mem_cons.1 hb with rfl | hb
    · exact hrest l _ (hset a)
    · exact ih hb _

/-- R572: waking and leaving backlog change nothing of a queue that waking does not write. -/
theorem State.xq_refreshPort_keeps {α : Type} (g : ExpQueue → α) (hg : ∀ x a, g { x with awake := a } = g x) (hwake : ∀ x tag, g { x with awake := true, tag := tag } = g x) (s : State) (port q : Nat) :
    g ((s.refreshPort port).xq q) = g (s.xq q) := by
  have hqueue (s : State) (vc r : Nat) : g ((s.refreshQueue vc r).xq q) = g (s.xq q) := by
    by_cases hr : q = r
    · subst hr
      rw [State.xq_refreshQueue]
      unfold State.wokenQueue
      split
      · exact hg ..
      · split
        · rfl
        · exact hwake ..
    · rw [State.xq_refreshQueue_other hr]
  refine foldl_keeps (fun s => g (State.xq s q)) _ (fun s c => ?_) _ s
  rw [State.xq_refreshClass]
  exact foldl_keeps (fun s => g (State.xq s q)) _ (fun s r => hqueue s _ r) _ s

/-- R723: a queue is the device's and holds nothing. -/
def State.queueReturned (s : State) (q : Nat) : Prop := s.setting 0x4001 q 0 = 0xFF ∧ (s.xq q).frames = [] ∧ (s.xq q).open_ = []

theorem State.queueReturned_returnQueues {s : State} {p q : Nat} (hq : q < 4096) (hown : s.setting 0x4001 q 0 = p) : (s.returnQueues p).queueReturned q := by
  have hin : q ∈ (List.range 4096).filter (fun q => s.setting 0x4001 q 0 == p) := by simp [hq, hown]
  unfold State.returnQueues
  dsimp only
  generalize (List.range 4096).filter (fun q => s.setting 0x4001 q 0 == p) = own at hin
  have hset (s : State) : ((s.setXq q { s.xq q with open_ := [], frames := [], awake := false }).putSetting 0x4001 q 0 ownerDevice).queueReturned q := by
    refine ⟨?_, ?_, ?_⟩
    · exact mget_mput_same ..
    · exact congrArg ExpQueue.frames (State.xq_setXq s q _)
    · exact congrArg ExpQueue.open_ (State.xq_setXq s q _)
  obtain ⟨hsetting, hframes, hopen⟩ := foldl_sets (P := fun s => State.queueReturned s q)
    (f := fun (s : State) q => (s.setXq q { s.xq q with open_ := [], frames := [], awake := false }).putSetting 0x4001 q 0 ownerDevice) hset
    (fun s r h => by
      by_cases hr : r = q
      · subst hr
        exact hset s
      · obtain ⟨hsetting, hframes, hopen⟩ := h
        have hxq : ((s.setXq r { s.xq r with open_ := [], frames := [], awake := false }).putSetting 0x4001 r 0 ownerDevice).xq q = s.xq q :=
          State.xq_setXq_other s _ fun hqr => hr hqr.symm
        refine ⟨?_, by rw [hxq, hframes], by rw [hxq, hopen]⟩
        refine (mget_mput_other _ _ _ ?_).trans hsetting
        simp only [settingKey]
        omega) hin s
  generalize List.foldl (fun (s : State) q => (s.setXq q { s.xq q with open_ := [], frames := [], awake := false }).putSetting 0x4001 q 0 ownerDevice) s own = t
    at hsetting hframes hopen
  generalize own.map (fun q => t.xqPort q) = ports
  refine ⟨?_, ?_, ?_⟩
  · exact (congrArg (fun m => mget (settingDefault 0x4001 q 0) m (settingKey 0x4001 q 0)) (foldl_keeps State.settings _ (fun _ _ => State.refreshPort_keeps State.settings
      (fun _ _ _ => State.setXq_settings ..) (fun _ _ _ => rfl) ..) ports t)).trans hsetting
  · exact (foldl_keeps (fun s => (State.xq s q).frames) _ (fun s n => State.xq_refreshPort_keeps ExpQueue.frames (fun _ _ => rfl) (fun _ _ => rfl) s n q) ports t).trans
      hframes
  · exact (foldl_keeps (fun s => (State.xq s q).open_) _ (fun s n => State.xq_refreshPort_keeps ExpQueue.open_ (fun _ _ => rfl) (fun _ _ => rfl) s n q) ports t).trans
      hopen

/-- R723: the DRAM phase on the Wings of the part, one after the other. -/
def State.zeroDrams (s : State) (p : Nat) : State := (List.range s.wings).foldl (fun s w => s.zeroDram p w) s

theorem State.zeroDrams_keeps {α : Type} (g : State → α) (hwing : ∀ s w x, g (State.setWing s w x) = g s)
    (hhealth : ∀ (s : State) x, g { s with health := x } = g s) (hbump : ∀ s id n, g (State.bumpN s id n) = g s) (s : State) (p : Nat) :
    g (s.zeroDrams p) = g s := foldl_keeps g _ (fun _ _ => State.zeroDram_keeps g hwing hhealth hbump ..) _ s

theorem State.wing_zeroDram (s : State) (p w v : Nat) : ((s.zeroDram p w).wing v).region p =
    if (v = 0 ↔ w = 0) then mget [] (mdel (s.wing w).regions p) p else (s.wing v).region p := by
  have hwing (x : Wing) : ((s.setWing w x).wing v).region p = if (v = 0 ↔ w = 0) then x.region p else (s.wing v).region p := by
    rw [State.wing_setWing_eq_ite]
    split <;> rfl
  exact hwing _

theorem State.region_zeroDrams {s : State} (hasc : ∀ w, w < 2 → Ascending (s.wing w).regions) (p : Nat) {w : Nat} (hw : w < s.wings) :
    ((s.zeroDrams p).wing w).region p = [] := by
  have htwo : s.wings = 1 ∨ s.wings = 2 := by
    unfold State.wings
    split
    · exact .inl rfl
    · exact .inr rfl
  have hgone (w : Nat) (h : w < 2) : mget [] (mdel (s.wing w).regions p) p = [] := mget_mdel_same [] (hasc w h) p
  unfold State.zeroDrams
  rcases htwo with h | h
  · rw [h] at hw ⊢
    obtain rfl : w = 0 := by omega
    exact (State.wing_zeroDram ..).trans (hgone 0 (by decide))
  · rw [h] at hw ⊢
    change (((s.zeroDram p 0).zeroDram p 1).wing w).region p = []
    rw [State.wing_zeroDram]
    have hother : ((s.zeroDram p 0).wing 1).regions = (s.wing 1).regions := rfl
    rcases (by omega : w = 0 ∨ w = 1) with rfl | rfl
    · rw [if_neg (by decide), State.wing_zeroDram, if_pos Iff.rfl, hgone 0 (by decide)]
    · rw [if_pos Iff.rfl, hother, hgone 1 (by decide)]

/-- R723: the partition's counters, sweeps and fields go, and the release is counted. -/
def State.released (t : State) (p : Nat) (k : Scrub) : State :=
  let u := t.clearPartCounters p
  (({ u with time := { u.time with events := u.time.events.map (fun (e : Nat × List Occ) =>
    (e.1, e.2.filter (fun o => !(o.kind == evAgeSweep && o.key == p)))) } } : State).setPart p {}).bump
      (if k.zeroise then Ctr.hallScrubZeroise else Ctr.hallScrubRelease)

theorem State.released_keeps {α : Type} (g : State → α) (hcounters : ∀ (s : State) x o, g { s with counters := x, obs := o } = g s)
    (htime : ∀ (s : State) x, g { s with time := x } = g s) (hbump : ∀ s id n, g (State.bumpN s id n) = g s)
    (hpart : ∀ (s : State) p x, g (s.setPart p x) = g s) (t : State) (p : Nat) (k : Scrub) : g (t.released p k) = g t := by
  unfold State.released
  exact (hbump ..).trans ((hpart ..).trans ((htime ..).trans (hcounters ..)))

theorem State.partOf_released (t : State) (p : Nat) (k : Scrub) (q : Nat) : (t.released p k).partOf q = if q = p then {} else t.partOf q := by
  change mget {} (mput t.parts p {}) q = _
  split
  · next h => rw [h, mget_mput_same]
  · next h => exact mget_mput_other _ _ _ h

theorem State.ctr_released (t : State) {p : Nat} (hp : p < 16) (x : Scrub) {k : Nat} (hk : k = 37 ∨ k = 49) :
    (t.released p x).ctr (Ctr.ident 8 p k) = 0 := by
  have hk4 : k < 4096 := by omega
  refine (State.ctr_bump_other _ ?_).trans (State.ctr_clearPartCounters t hp hk4)
  split
  · rw [Ctr.ident, Ctr.hallScrubZeroise, Ctr.ident]
    omega
  · exact Ctr.ident_ne_of_low hk4 (by decide) (by omega)

/-- R723: what the release leaves before the snapshots that it drops and its command end. -/
def State.scrubbed (s : State) (p : Nat) (k : Scrub) : State := ((s.zeroDrams p).returnQueues p).released p k

theorem exec_scrubDram {s : State} {p : Nat} {x : Scrub} {r : Nat} (hfree : s.wingsFree = true) (hx : (s.partOf p).scrub = some x)
    (hph : x.phase = .dram) (hring : x.ring = some r) (hheld : s.sec.jtagHeld = false) :
    ∃ fn, Gives (.scrubDram p) s (((s.scrubbed p x).dropShots fn).complete r okStatus) := by
  refine ⟨((s.zeroDrams p)).fnOf p, ?_⟩
  have hsec : (((s.scrubbed p x).dropShots ((s.zeroDrams p).fnOf p)).complete r okStatus).sec = s.sec := by
    rw [State.scrubbed, State.complete_sec, State.dropShots_keeps State.sec (fun _ _ => rfl) (fun _ _ _ => State.complete_sec ..),
      State.released_keeps State.sec (fun _ _ _ => rfl) (fun _ _ => rfl) (fun _ _ _ => State.bumpN_sec ..) (fun _ _ _ => rfl),
      State.returnQueues_keeps State.sec (fun _ _ _ => State.setXq_sec ..) (fun _ _ _ => rfl) (fun _ _ _ _ _ => rfl),
      State.zeroDrams_keeps State.sec (fun _ _ _ => State.setWing_sec ..) (fun _ _ => rfl) (fun _ _ _ => State.bumpN_sec ..)]
  have hend : (s.zeroDrams p).endScrub p x = ((s.scrubbed p x).dropShots ((s.zeroDrams p).fnOf p)).complete r okStatus := by
    unfold State.endScrub
    rw [hring]
    rfl
  change execScrubDram p s = _
  unfold execScrubDram
  rw [State.scrubIn_of_phase hx hph]
  dsimp only
  rw [hfree]
  change Host.Outcome.next ((s.zeroDrams p).endScrub p x).releaseScan = _
  rw [hend, State.releaseScan, hsec, hheld]
  rfl

theorem scrubsDram {s : State} {p : Nat} {x : Scrub} {r : Nat} (hfree : s.wingsFree = true) (hp : p < 16) (hx : (s.partOf p).scrub = some x)
    (hph : x.phase = .dram) (hring : x.ring = some r) (hheld : s.sec.jtagHeld = false) (hasc : ∀ w, w < 2 → Ascending (s.wing w).regions) :
    ∃ u : State, Gives (.scrubDram p) s (u.complete r { status := 0 }) ∧ u.partOf p = {} ∧
      (∀ w, w < s.wings → (u.wing w).region p = []) ∧
      (∀ q, q < 4096 → s.setting 0x4001 q 0 = p → u.setting 0x4001 q 0 = 0xFF ∧ (u.xq q).frames = [] ∧ (u.xq q).open_ = []) ∧
      u.ctr (Ctr.partImageLoads p) = 0 ∧ u.ctr (Ctr.partTokens p) = 0 ∧ u.tiles = s.tiles ∧ (∀ q, q ≠ p → u.partOf q = s.partOf q) := by
  obtain ⟨fn, hstep⟩ := exec_scrubDram hfree hx hph hring hheld
  have hparts (q : Nat) : ((s.scrubbed p x).dropShots fn).partOf q = if q = p then {} else s.partOf q := by
    rw [State.scrubbed, State.partOf_of_parts (State.dropShots_keeps State.parts (fun _ _ => rfl) (fun _ _ _ => State.complete_parts ..) _ fn) q]
    have hrest : ((s.zeroDrams p).returnQueues p).parts = s.parts := by
      rw [State.returnQueues_keeps State.parts (fun _ _ _ => State.setXq_parts ..) (fun _ _ _ => rfl) (fun _ _ _ _ _ => rfl),
        State.zeroDrams_keeps State.parts (fun _ _ _ => State.setWing_parts ..) (fun _ _ => rfl) (fun _ _ _ => State.bumpN_parts ..)]
    rw [State.partOf_released, State.partOf_of_parts hrest q]
  have hwing {α : Type} (g : Wing → α) (w : Nat) : g (((s.scrubbed p x).dropShots fn).wing w) = g ((s.zeroDrams p).wing w) := by
    rw [State.scrubbed, State.dropShots_keeps (State.wing · w) (fun _ _ => rfl) (fun _ _ _ => State.wing_of_wings (State.complete_wing0 ..) (State.complete_wing1 ..) w),
      State.released_keeps (State.wing · w) (fun _ _ _ => rfl) (fun _ _ => rfl)
        (fun _ _ _ => State.wing_of_wings (State.bumpN_wing0 ..) (State.bumpN_wing1 ..) w) (fun _ _ _ => rfl),
      State.returnQueues_keeps (State.wing · w) (fun _ _ _ => State.wing_of_wings (State.setXq_wing0 ..) (State.setXq_wing1 ..) w) (fun _ _ _ => rfl)
        (fun _ _ _ _ _ => rfl)]
  have hsettings : ((s.scrubbed p x).dropShots fn).settings = ((s.zeroDrams p).returnQueues p).settings := by
    rw [State.scrubbed, State.dropShots_keeps State.settings (fun _ _ => rfl) (fun _ _ _ => State.complete_settings ..),
      State.released_keeps State.settings (fun _ _ _ => rfl) (fun _ _ => rfl) (fun _ _ _ => State.bumpN_settings ..) (fun _ _ _ => rfl)]
  have hexp : ((s.scrubbed p x).dropShots fn).exp = ((s.zeroDrams p).returnQueues p).exp := by
    rw [State.scrubbed, State.dropShots_keeps State.exp (fun _ _ => rfl) (fun _ _ _ => State.complete_exp ..),
      State.released_keeps State.exp (fun _ _ _ => rfl) (fun _ _ => rfl) (fun _ _ _ => State.bumpN_exp ..) (fun _ _ _ => rfl)]
  have htiles : ((s.scrubbed p x).dropShots fn).tiles = s.tiles := by
    rw [State.scrubbed, State.dropShots_keeps State.tiles (fun _ _ => rfl) (fun _ _ _ => State.complete_tiles ..),
      State.released_keeps State.tiles (fun _ _ _ => rfl) (fun _ _ => rfl) (fun _ _ _ => State.bumpN_tiles ..) (fun _ _ _ => rfl),
      State.returnQueues_keeps State.tiles (fun _ _ _ => State.setXq_tiles ..) (fun _ _ _ => rfl) (fun _ _ _ _ _ => rfl),
      State.zeroDrams_keeps State.tiles (fun _ _ _ => State.setWing_tiles ..) (fun _ _ => rfl) (fun _ _ _ => State.bumpN_tiles ..)]
  have hctr {k : Nat} (hk : k = 37 ∨ k = 49) : ((s.scrubbed p x).dropShots fn).ctr (Ctr.ident 8 p k) = 0 := by
    have hk4 : k < 4096 := by omega
    have hcommands (fn : Nat) : Ctr.ident 8 p k ≠ Ctr.funcCommands fn := Ctr.ident_ne_of_low hk4 (by decide) (by omega)
    rw [State.scrubbed, State.dropShots_keeps (State.ctr · (Ctr.ident 8 p k)) (fun _ _ => rfl)
      (fun s r st => State.ctr_complete_other s r st hcommands (Ctr.ident_ne_funcMsixSent 8 p hk4 (by omega)))]
    exact State.ctr_released _ hp x hk
  refine ⟨_, hstep, (hparts p).trans (if_pos rfl), fun w hw => (hwing (Wing.region · p) w).trans (State.region_zeroDrams hasc p hw), fun q hq hown => ?_,
    hctr (.inl rfl), hctr (.inr rfl), htiles, fun q hq => (hparts q).trans (if_neg hq)⟩
  have hset : (s.zeroDrams p).setting 0x4001 q 0 = p := by
    rw [State.zeroDrams_keeps (State.setting · 0x4001 q 0)
      (fun s w x => congrArg (fun m => mget (settingDefault 0x4001 q 0) m (settingKey 0x4001 q 0)) (State.setWing_settings s w x)) (fun _ _ => rfl)
      (fun s id n => congrArg (fun m => mget (settingDefault 0x4001 q 0) m (settingKey 0x4001 q 0)) (State.bumpN_settings s id n)), hown]
  obtain ⟨hsetting, hframes, hopen⟩ := State.queueReturned_returnQueues hq hset
  have hxq : ((s.scrubbed p x).dropShots fn).xq q = ((s.zeroDrams p).returnQueues p).xq q := by rw [State.xq, hexp]; rfl
  exact ⟨by rw [State.setting, hsettings]; exact hsetting, by rw [hxq, hframes], by rw [hxq, hopen]⟩

/-! ### Internal scan -/

/-- R723: a partition's fields once its loads have stopped and its scrub begins. -/
theorem State.partOf_beginScrub_eq_ite (s : State) (p at_ : Nat) (ring : Option Nat) (zeroise : Bool) (q : Nat) :
    (s.beginScrub p at_ ring zeroise).partOf q =
      let t := [0, 1].foldl (fun s n => State.stopLoad s p n) (s.disarm p)
      if q = p then { t.partOf p with
        state := .scrubbing, scrub := some { zeroise := zeroise, phase := .drain, start := at_, ring := ring }
        rollouts := (t.partOf p).rollouts.filter (fun r => r.batch.isSome) } else t.partOf q := by
  unfold State.beginScrub
  dsimp only
  generalize [0, 1].foldl (fun s n => State.stopLoad s p n) (s.disarm p) = t
  rw [State.partOf, State.tdispFail_keeps State.parts (fun _ _ _ => rfl) (fun _ _ _ => State.sendVector_parts ..) (fun _ _ _ => State.modRing_parts ..)
      (fun _ _ _ => State.modAssoc_parts ..) (fun _ _ => State.setSticky_parts ..) (fun _ _ => rfl),
    foldl_keeps State.parts _ fun s w => State.stopLocks_keeps State.parts (fun _ _ _ => State.setWing_parts ..) s p w,
    foldl_keeps State.parts _ fun s q => State.stopReads_keeps State.parts (fun _ _ _ => State.complete_parts ..) (fun _ _ _ _ => rfl) s p q]
  change (t.modPart p _).partOf q = _
  split
  · next h => rw [h, State.partOf_modPart]
  · next h => exact State.partOf_setPart_other _ _ h

/-- What the end of a partition's loads keeps of any partition. -/
theorem State.partOf_stopLoads_keeps {α : Type} (g : Partition → α) (hleaf : ∀ x leaf, g { x with leaf := leaf } = g x)
    (hslot : ∀ x n y, g (Partition.setSlot x n y) = g x) (hprev : ∀ x l, g { x with prevHolders := l } = g x) (s : State) (p q : Nat) :
    g (([0, 1].foldl (fun s n => State.stopLoad s p n) (s.disarm p)).partOf q) = g (s.partOf q) := by
  have hload (s : State) (n : Nat) : g ((s.stopLoad p n).partOf q) = g (s.partOf q) := by
    unfold State.stopLoad
    dsimp only
    split
    · rw [State.partOf_finishLoad, State.partOf_issueLeaf_keeps _ p g hleaf]
      exact State.partOf_modPart_keeps _ _ g (fun _ => (hprev ..).trans (hslot ..)) q
    · rfl
  rw [foldl_keeps (fun s => g (State.partOf s q)) _ hload]
  unfold State.disarm
  split
  · rfl
  · dsimp only
    rw [State.partOf_issueLeaf_keeps _ p g hleaf, State.partOf_bump]
    split
    · rw [State.partOf_tagControls]
      exact State.partOf_modPart_keeps _ _ g (fun _ => hslot ..) q
    · exact State.partOf_modPart_keeps _ _ g (fun _ => hslot ..) q

/-- R723: what is sealed stays sealed, and a partition is SCRUBBING once its scrub has begun. -/
theorem State.sealed_beginScrub (s : State) (p at_ : Nat) (ring : Option Nat) (zeroise : Bool) (q : Nat) :
    ((s.beginScrub p at_ ring zeroise).partOf q).sealed = (s.partOf q).sealed ∧
    ((s.beginScrub p at_ ring zeroise).partOf q).state = if q = p then .scrubbing else (s.partOf q).state := by
  have hslot {α : Type} (g : Partition → α) (h0 : ∀ x y, g { x with slot0 := y } = g x) (h1 : ∀ x y, g { x with slot1 := y } = g x) (x : Partition) (n : Nat)
      (y : ImageSlot) : g (x.setSlot n y) = g x := by
    unfold Partition.setSlot
    split
    · exact h0 ..
    · exact h1 ..
  have hsealed := State.partOf_stopLoads_keeps Partition.sealed (fun _ _ => rfl) (hslot _ (fun _ _ => rfl) fun _ _ => rfl) (fun _ _ => rfl) s p q
  have hstate := State.partOf_stopLoads_keeps Partition.state (fun _ _ => rfl) (hslot _ (fun _ _ => rfl) fun _ _ => rfl) (fun _ _ => rfl) s p q
  rw [State.partOf_beginScrub_eq_ite]
  generalize [0, 1].foldl (fun s n => State.stopLoad s p n) (s.disarm p) = t at *
  dsimp only
  split
  · next h => subst h; exact ⟨hsealed, rfl⟩
  · exact ⟨hsealed, hstate⟩

/-- R723: the scrubs of several partitions begin one after another. -/
def State.beginScrubs (s : State) (l : List Nat) : State := l.foldl (fun s p => s.beginScrub p s.nt none true) s

theorem State.sealed_beginScrubs (s : State) (l : List Nat) (q : Nat) :
    ((s.beginScrubs l).partOf q).sealed = (s.partOf q).sealed ∧
    ((s.beginScrubs l).partOf q).state = if q ∈ l then .scrubbing else (s.partOf q).state := by
  induction l generalizing s with
  | nil => exact ⟨rfl, rfl⟩
  | cons p l ih =>
    have hcons : s.beginScrubs (p :: l) = (s.beginScrub p s.nt none true).beginScrubs l := List.foldl_cons ..
    obtain ⟨hone, honeState⟩ := s.sealed_beginScrub p s.nt none true q
    rw [hcons]
    generalize s.beginScrub p s.nt none true = t at hone honeState
    obtain ⟨hsealed, hstate⟩ := ih t
    refine ⟨hsealed.trans hone, hstate.trans ?_⟩
    rw [honeState]
    by_cases hl : q ∈ l <;> by_cases hp : q = p <;> simp [hl, hp]

theorem State.beginScrubs_keeps {α : Type} (g : State → α) (hscrub : ∀ s p n, g (State.beginScrub s p n none true) = g s) (s : State) (l : List Nat) :
    g (s.beginScrubs l) = g s := by
  unfold State.beginScrubs
  exact foldl_keeps g _ (fun _ _ => hscrub ..) l s

theorem State.mem_sealedParts {s : State} {p : Nat} :
    p ∈ s.sealedParts ↔ p < s.partsN ∧ (s.partOf p).sealed = true ∧ (s.partOf p).state ≠ .unconfigured := by
  simp [State.sealedParts]

/-- R721: an instruction that arrives is held, and every sealed partition that is ACTIVE begins its scrub. -/
def State.scanHeld (s : State) : State :=
  let t : State := { s with sec := { s.sec with jtagHeld := true, tapInstr := 4 } }
  t.beginScrubs (t.sealedParts.filter (fun p => (t.partOf p).state == .active))

theorem exec_internalScan {s : State} (hfree : s.hallFree = true) (hdebug : s.sec.debug = false) : Gives .internalScan s s.scanHeld.releaseScan := by
  change execInternalScan s = _
  unfold execInternalScan
  rw [State.whenFree_of_free hfree, hdebug, if_neg (by decide)]
  unfold State.scanHeld State.beginScrubs
  dsimp only

/-- R703: a new leaf advances the count of leaves only. -/
theorem State.sec_issueLeaf {α : Type} (g : Security → α) (hg : ∀ x n, g { x with leafCount := n } = g x) (s : State) (p : Nat) :
    g (s.issueLeaf p).sec = g s.sec := by
  unfold State.issueLeaf
  split
  · rfl
  · rw [State.bump_sec]
    exact hg ..

/-- R721, R723: the begin of a scrub leaves the test port. -/
theorem State.sec_beginScrub {α : Type} (g : Security → α) (hg : ∀ x n, g { x with leafCount := n } = g x) (s : State) (p at_ : Nat) (ring : Option Nat)
    (zeroise : Bool) : g (s.beginScrub p at_ ring zeroise).sec = g s.sec := by
  have hload (s : State) (n : Nat) : g (s.stopLoad p n).sec = g s.sec := by
    unfold State.stopLoad
    dsimp only
    split
    · have hfinish (s : State) (r : Option Nat) (st : Status) : (s.finishLoad r st).sec = s.sec := by
        cases r with
        | none => rfl
        | some r => exact State.complete_sec ..
      rw [hfinish, State.sec_issueLeaf g hg]
      rfl
    · rfl
  have hdisarm : g (s.disarm p).sec = g s.sec := by
    unfold State.disarm
    split
    · rfl
    · dsimp only
      rw [State.sec_issueLeaf g hg, State.bump_sec]
      split
      · rw [State.tagControls_keeps State.sec (fun _ _ _ => rfl)]
        rfl
      · rfl
  unfold State.beginScrub
  dsimp only
  rw [State.tdispFail_keeps State.sec (fun _ _ _ => rfl) (fun _ _ _ => State.sendVector_sec ..) (fun _ _ _ => State.modRing_sec ..)
      (fun _ _ _ => State.modAssoc_sec ..) (fun _ _ => State.setSticky_sec ..) (fun _ _ => State.bump_sec ..),
    foldl_keeps State.sec _ fun s w => State.stopLocks_keeps State.sec (fun _ _ _ => State.setWing_sec ..) s p w,
    foldl_keeps State.sec _ fun s q => State.stopReads_keeps State.sec (fun _ _ _ => State.complete_sec ..) (fun _ _ _ _ => rfl) s p q]
  have hloads : g ([0, 1].foldl (fun s n => State.stopLoad s p n) (s.disarm p)).sec = g (s.disarm p).sec :=
    foldl_keeps (fun s => g (State.sec s)) _ hload [0, 1] (s.disarm p)
  generalize [0, 1].foldl (fun s n => State.stopLoad s p n) (s.disarm p) = t at hloads ⊢
  exact hloads.trans hdisarm

/-- R721: nothing sealed, the instruction takes effect. -/
theorem releaseScan_unsealed {s : State} (hheld : s.sec.jtagHeld = true) (hnone : s.sealedParts = []) :
    s.releaseScan.sec.debug = true ∧ s.releaseScan.sec.jtagHeld = false ∧ s.releaseScan.stickyBit 121 = true := by
  have hleaf {α : Type} (g : State → α) (hg : ∀ s p, g (State.issueLeaf s p) = g s) : g s.releaseScan =
      g ((({ s with sec := { s.sec with jtagHeld := false, debug := true } } : State)).setSticky 121) := by
    unfold State.releaseScan
    rw [hheld, hnone]
    exact foldl_keeps g _ hg _ _
  refine ⟨?_, ?_, ?_⟩
  · rw [hleaf (fun s => s.sec.debug) fun s p => State.sec_issueLeaf Security.debug (fun _ _ => rfl) s p, State.setSticky_sec]
  · rw [hleaf (fun s => s.sec.jtagHeld) fun s p => State.sec_issueLeaf Security.jtagHeld (fun _ _ => rfl) s p, State.setSticky_sec]
  · rw [hleaf (fun s => s.stickyBit 121) fun s p =>
      State.issueLeaf_frame (State.stickyBit · 121) (fun _ _ => rfl) (fun _ => rfl) (fun _ _ _ => rfl) (fun _ => rfl) s p,
      State.stickyBit_setSticky_self _ (by decide)]

theorem internalScans (s : State) (hfree : s.hallFree = true) (hdebug : s.sec.debug = false) :
    (s.sealedParts = [] → ∃ t : State, Gives .internalScan s t ∧ t.sec.debug = true ∧ t.sec.jtagHeld = false ∧ t.stickyBit 121 = true) ∧
    (s.sealedParts ≠ [] → ∃ t : State, Gives .internalScan s t ∧ t.sec.debug = false ∧ t.sec.jtagHeld = true ∧
      ∀ p ∈ s.sealedParts, (t.partOf p).state = .scrubbing) := by
  have hstep := exec_internalScan hfree hdebug
  have hsec {α : Type} (g : Security → α) (hg : ∀ x n, g { x with leafCount := n } = g x) :
      g s.scanHeld.sec = g { s.sec with jtagHeld := true, tapInstr := 4 } :=
    State.beginScrubs_keeps (fun s => g s.sec) (fun s p n => State.sec_beginScrub g hg s p n none true) _ _
  have hheld : s.scanHeld.sec.jtagHeld = true := hsec Security.jtagHeld fun _ _ => rfl
  have hparts (p : Nat) := State.sealed_beginScrubs { s with sec := { s.sec with jtagHeld := true, tapInstr := 4 } }
    (s.sealedParts.filter (fun p => (s.partOf p).state == .active)) p
  have hpart : s.scanHeld.part = s.part := State.beginScrubs_keeps State.part (fun s p n =>
    State.beginScrub_keeps State.part (fun _ _ _ => State.setWing_part ..) (fun _ _ _ => State.complete_part ..) (fun _ _ _ _ => rfl) (fun _ _ _ => rfl)
      (fun _ _ _ => State.sendVector_part ..) (fun _ _ _ => State.modRing_part ..) (fun _ _ _ => State.modAssoc_part ..) (fun _ _ => State.setSticky_part ..)
      (fun _ _ => rfl) (fun _ _ _ => rfl) (fun _ _ _ => rfl) (fun _ _ => rfl) (fun _ => rfl) s p n none true) _ _
  change ∀ p, (s.scanHeld.partOf p).sealed = (s.partOf p).sealed ∧
    (s.scanHeld.partOf p).state = if p ∈ s.sealedParts.filter (fun p => (s.partOf p).state == .active) then .scrubbing else (s.partOf p).state at hparts
  have hsealed (p : Nat) : p ∈ s.scanHeld.sealedParts ↔ p ∈ s.sealedParts := by
    obtain ⟨hseal, hstate⟩ := hparts p
    rw [State.mem_sealedParts, State.mem_sealedParts, hseal, hstate, State.partsN, State.is4840, hpart]
    refine and_congr_right fun _ => and_congr_right fun _ => ?_
    split
    · next h =>
      have hactive : (s.partOf p).state = .active := by simpa using (List.mem_filter.1 h).2
      simp [hactive]
    · exact Iff.rfl
  refine ⟨fun hnone => ⟨_, hstep, releaseScan_unsealed hheld ?_⟩, fun hsome => ?_⟩
  · exact List.eq_nil_iff_forall_not_mem.2 fun p hp => by simpa [hnone] using (hsealed p).1 hp
  · obtain ⟨p, hp⟩ := List.exists_mem_of_ne_nil _ hsome
    have hnot : s.scanHeld.sealedParts.isEmpty = false := by
      rw [List.isEmpty_eq_false_iff]
      exact List.ne_nil_of_mem ((hsealed p).2 hp)
    have hstay : s.scanHeld.releaseScan = s.scanHeld := by
      rw [State.releaseScan, hnot, Bool.and_false]
      rfl
    rw [hstay] at hstep
    refine ⟨_, hstep, (hsec Security.debug fun _ _ => rfl).trans hdebug, hheld, fun q hq => (hparts q).2.trans ?_⟩
    split
    · rfl
    · next h =>
      have hone := (State.mem_sealedParts.1 hq).2.2
      have htwo : (s.partOf q).state ≠ .active := fun ha => h (List.mem_filter.2 ⟨hq, by simp [ha]⟩)
      cases hstate : (s.partOf q).state with
      | unconfigured => exact absurd hstate hone
      | active => exact absurd hstate htwo
      | scrubbing => rfl

/-- Settles O41, phase by phase: what each phase clears, and the scrubs that the internal-scan instruction begins. -/
theorem scrubsClear : Obligations.ScrubsClear := by
  refine ⟨fun s p x => scrubDrains s p x, fun s p x hfree hcode _ hx hph hasc hrqs hread => scrubsOnDie hfree hcode hx hph hasc hrqs hread,
    fun s p x r hfree hp hx hph hring hheld hasc => scrubsDram hfree hp hx hph hring hheld hasc, internalScans⟩

end Sys2Proof.Machine
end

section
/-!
PROOFS. What every step keeps (R805, R808, log entries 1, 3): a relation between the state that a step starts from and the states that it
passes through, and its rules for the state's own operations. Every function of the model has one rule, named after it: from `Follows o s`,
the function's result follows `o` too.
-/
open Sys2Proof Sys2Proof.Machine Sys2Proof.Claims
namespace Sys2Proof.Machine

/-- What may come of the state `o` within a step: the same part and queue, its outputs and more, sticky bits that are none of the reserved ones,
and FAULT_N at the level of its column. -/
structure Follows (o s : State) : Prop where
  part : s.part = o.part
  pending : s.pending = o.pending
  out : o.out <+: s.out
  sticky : StickyInv o → StickyInv s

/-- What a command leaves follows `o`. -/
structure LeadsOn (o : State) (r : Host.Outcome State Fault Refusal) : Prop where
  follows : ∀ t, r = .next t → Follows o t

/-- What a word leaves when it faults or completes follows `o`. -/
inductive WordFollows (o : State) : WordOut → Prop
  | wait : WordFollows o .wait
  | hold : WordFollows o .hold
  | fault {s : State} {cause : Nat} (h : Follows o s) : WordFollows o (.fault s cause)
  | done {s : State} (h : Follows o s) : WordFollows o (.done s)

theorem Follows.refl (o : State) : Follows o o := ⟨rfl, rfl, List.prefix_refl _, id⟩

section
variable {o s : State}

/-- The inventory of the fields that the relation does not speak of. -/
theorem Follows.update (h : Follows o s) {time : TimeBase} {host : HostIf} {obs : Observe} {health : Health} {rqs : Tab ReportQ} {parts : Tab Partition}
    {hall : Hall} {exp : Export} {wing0 wing1 : Wing} {tiles : Tab Tile} {sec : Security} {pair : Pair} {boot : Boot} {settings counters : Tab Nat}
    {free : Nat} :
    Follows o { s with
      time := time, host := host, obs := obs, health := health, rqs := rqs, parts := parts, hall := hall, exp := exp, wing0 := wing0, wing1 := wing1
      tiles := tiles, sec := sec, pair := pair, boot := boot, settings := settings, counters := counters, free := free } :=
  ⟨h.part, h.pending, h.out, h.sticky⟩

/-- The supplies change with them, and FAULT_N stays. -/
theorem Follows.powered (h : Follows o s) {power : Power} (hpin : power.faultN = s.power.faultN) {time : TimeBase} {host : HostIf} {obs : Observe}
    {health : Health} {rqs : Tab ReportQ} {parts : Tab Partition} {hall : Hall} {exp : Export} {wing0 wing1 : Wing} {tiles : Tab Tile} {sec : Security}
    {pair : Pair} {boot : Boot} {settings counters : Tab Nat} {free : Nat} :
    Follows o { s with
      time := time, host := host, obs := obs, health := health, rqs := rqs, parts := parts, hall := hall, exp := exp, wing0 := wing0, wing1 := wing1
      tiles := tiles, sec := sec, pair := pair, boot := boot, power := power, settings := settings, counters := counters, free := free } :=
  ⟨h.part, h.pending, h.out, fun ho => ⟨(h.sticky ho).1, (Bool.eq_iff_iff.1 hpin).trans (h.sticky ho).2⟩⟩

theorem Power.setRail_faultN (x : Power) (r : Rail) (v : Bool) : (x.setRail r v).faultN = x.faultN := by cases r <;> rfl

theorem Follows.emit (h : Follows o s) (x : Output) : Follows o (s.emit x) :=
  ⟨h.part, h.pending, h.out.trans (List.prefix_append ..), h.sticky⟩

theorem Follows.ite {p : Prop} {_ : Decidable p} {t : State} (hs : Follows o s) (ht : Follows o t) : Follows o (if p then s else t) := by
  split
  · exact hs
  · exact ht

theorem Follows.onlyIf {p : Prop} {_ : Decidable p} {t : State} (hs : Follows o s) (ht : Follows o s → Follows o t) : Follows o (if p then t else s) :=
  .ite (ht hs) hs

theorem Follows.unless {p : Prop} {_ : Decidable p} {t : State} (hs : Follows o s) (ht : Follows o s → Follows o t) : Follows o (if p then s else t) :=
  .ite hs (ht hs)

theorem Follows.ite_fst {α : Type} {p : Prop} {_ : Decidable p} {x y : State × α} (hx : Follows o x.1) (hy : Follows o y.1) :
    Follows o (if p then x else y).1 := by
  split
  · exact hx
  · exact hy

theorem Follows.ite_snd {α : Type} {p : Prop} {_ : Decidable p} {x y : α × State} (hx : Follows o x.2) (hy : Follows o y.2) :
    Follows o (if p then x else y).2 := by
  split
  · exact hx
  · exact hy

theorem Follows.ite_at {β : Type} (g : β → State) {p : Prop} {_ : Decidable p} {x y : β} (hx : Follows o (g x)) (hy : Follows o (g y)) :
    Follows o (g (if p then x else y)) := by
  split
  · exact hx
  · exact hy

theorem Follows.foldl {β : Type} {f : State → β → State} (hf : ∀ s x, Follows o s → Follows o (f s x)) (h : Follows o s) {l : List β} :
    Follows o (l.foldl f s) := by
  induction l generalizing s with
  | nil => exact h
  | cons x l ih => exact ih (hf s x h)

theorem Follows.foldl_mem {β : Type} {f : State → β → State} {l : List β} (hf : ∀ s x, x ∈ l → Follows o s → Follows o (f s x)) (h : Follows o s) :
    Follows o (l.foldl f s) := by
  induction l generalizing s with
  | nil => exact h
  | cons x l ih => exact ih (fun s y hy => hf s y (List.mem_cons_of_mem _ hy)) (hf s x List.mem_cons_self h)

theorem LeadsOn.next (h : Follows o s) : LeadsOn o (.next s) := by
  refine ⟨fun t ht => ?_⟩
  cases ht
  exact h

theorem LeadsOn.ite {p : Prop} {_ : Decidable p} {x y : Host.Outcome State Fault Refusal} (hx : LeadsOn o x) (hy : LeadsOn o y) :
    LeadsOn o (if p then x else y) := by
  split
  · exact hx
  · exact hy

theorem WordFollows.ite {p : Prop} {_ : Decidable p} {x y : WordOut} (hx : WordFollows o x) (hy : WordFollows o y) :
    WordFollows o (if p then x else y) := by
  split
  · exact hx
  · exact hy

theorem LeadsOn.refused (x : Refusal) : LeadsOn o (.refused x) := by
  refine ⟨fun t ht => ?_⟩
  cases ht

/-! ### Sticky bits (R805, R808) -/

/-- Table 22-2: the lanes' bits lie below the first reserved one. -/
theorem notReserved_of_lt {n m : Nat} (h : n < m) (hm : m ≤ 100) : ¬ reservedSticky n := by
  unfold reservedSticky
  omega

theorem Follows.setStickyIn (h : Follows o s) (b : Nat) {n : Nat} (hn : ¬ reservedSticky n) : Follows o (s.setStickyIn b n) := by
  refine ⟨(State.setStickyIn_part ..).trans h.part, (State.setStickyIn_pending ..).trans h.pending, h.out.trans (s.setStickyIn_out b n), fun ho => ?_⟩
  cases hset : s.stickyBit n with
  | true =>
    rw [State.setStickyIn_of_set _ b hset]
    exact h.sticky ho
  | false =>
    refine ⟨fun k hk => ?_, State.faultN_setStickyIn_iff hset⟩
    by_cases hlt : k < 256
    · have hne : k ≠ n := fun he => hn (he ▸ hk)
      rw [State.stickyBit_setStickyIn s b hlt, (h.sticky ho).1 k hk, decide_eq_false hne, Bool.false_or]
    · exact BitVec.getLsbD_of_ge _ _ (Nat.not_lt.1 hlt)

theorem Follows.setSticky (h : Follows o s) {n : Nat} (hn : ¬ reservedSticky n) : Follows o (s.setSticky n) := h.setStickyIn 0 hn

theorem Follows.clearSticky (h : Follows o s) (mask : BitVec 256) : Follows o (s.clearSticky mask) := by
  refine ⟨h.part, h.pending, h.out, fun ho => ⟨fun k hk => ?_, s.faultN_clearSticky_iff mask⟩⟩
  have hbit : (s.clearSticky mask).stickyBit k = (s.sticky &&& ~~~ mask).getLsbD k := rfl
  have hclear : s.sticky.getLsbD k = false := (h.sticky ho).1 k hk
  rw [hbit, BitVec.getLsbD_and, hclear, Bool.false_and]

/-- R805, R880: a reset clears the sticky bits. -/
theorem Follows.restart (h : Follows o s) (own : Bool) : Follows o (s.restart own) := by
  have hclear (n : Nat) : (s.restart own).stickyBit n = false := by
    unfold State.stickyBit State.restart
    exact BitVec.getLsbD_zero
  have hpin : (s.restart own).power.faultN = false := by
    unfold State.restart
    rfl
  refine ⟨?_, ?_, ?_, fun _ => ⟨fun n _ => hclear n, ?_⟩⟩
  · unfold State.restart
    exact h.part
  · unfold State.restart
    exact h.pending
  · unfold State.restart
    exact h.out
  · rw [hpin]
    exact ⟨fun hf => absurd hf Bool.false_ne_true, fun ⟨n, _, _, hn⟩ => absurd ((hclear n).symm.trans hn) Bool.false_ne_true⟩

end

end Sys2Proof.Machine
end

section
/-!
PROOFS. What every step keeps: the operations of the state, the signatures, the commands and the host interface (chapters 16, 17, 19).
-/
open Sys2Proof Sys2Proof.Machine Sys2Proof.Claims
namespace Sys2Proof.Machine

section
variable {o s : State}

/-! ### The state -/

theorem Follows.bumpN (h : Follows o s) (id n : Nat) : Follows o (s.bumpN id n) := h.update

theorem Follows.bump (h : Follows o s) (id : Nat) : Follows o (s.bump id) := h.bumpN ..

theorem Follows.bumpFor (h : Follows o s) (p id n : Nat) : Follows o (s.bumpFor p id n) := h.bumpN ..

theorem Follows.addCount (h : Follows o s) (p key n : Nat) : Follows o (s.addCount p key n) := Follows.ite (h.bumpFor ..) ((h.bumpFor ..).update)

theorem Follows.nextFree (h : Follows o s) : Follows o s.nextFree := h.update

theorem Follows.setBuf (h : Follows o s) (b : Nat) (t : TraceBuf) : Follows o (s.setBuf b t) := h.update

theorem Follows.trace (h : Follows o s) (b : Nat) (r : TraceRec) : Follows o (s.trace b r) :=
  Follows.ite h (Follows.ite (h.setBuf ..) ((h.setBuf ..).bump ..))

theorem Follows.fireIn (h : Follows o s) (bit b : Nat) : Follows o (s.fireIn bit b) := Follows.ite (h.trace ..) h

theorem Follows.fire (h : Follows o s) (bit : Nat) (bs : List Nat) : Follows o (s.fire bit bs) := Follows.foldl (fun _ _ h => h.fireIn ..) h

theorem Follows.setVec (h : Follows o s) (fn v : Nat) (x : Vec) : Follows o (s.setVec fn v x) := h.update

theorem Follows.sendVector (h : Follows o s) (fn v : Nat) : Follows o (s.sendVector fn v) := Follows.ite (h.setVec ..) ((h.emit ..).bump ..)

theorem Follows.signalSticky (h : Follows o s) (n : Nat) : Follows o (s.signalSticky n) :=
  Follows.onlyIf (h.sendVector ..) fun h1 => Follows.foldl (fun _ _ h => h.sendVector ..) h1

theorem Follows.setFunc (h : Follows o s) (f : Nat) (x : Func) : Follows o (s.setFunc f x) := h.update

theorem Follows.setPart (h : Follows o s) (p : Nat) (x : Partition) : Follows o (s.setPart p x) := h.update

theorem Follows.modPart (h : Follows o s) (p : Nat) (f : Partition → Partition) : Follows o (s.modPart p f) := h.setPart ..

theorem Follows.setWing (h : Follows o s) (w : Nat) (x : Wing) : Follows o (s.setWing w x) := Follows.ite h.update h.update

theorem Follows.regionClear (h : Follows o s) (w p : Nat) (a n : Nat) : Follows o (s.regionClear w p a n) := h.update.setWing ..

theorem Follows.eraseHalf (h : Follows o s) (p n : Nat) : Follows o (s.eraseHalf p n) := Follows.foldl (fun _ _ h => h.regionClear ..) h

/-! ### Event queues -/

theorem Follows.setQueue (h : Follows o s) (b : Nat) (q : List Occ) : Follows o (s.setQueue b q) := h.update

theorem Follows.enqueue (h : Follows o s) (b : Nat) (o' : Occ) : Follows o (s.enqueue b o') := by
  unfold State.enqueue
  refine .ite (h.setQueue ..) (.ite ?_ h)
  split
  · exact h
  · exact ((h.setQueue ..).bump ..).setStickyIn _ (by decide)

theorem Follows.startOcc (h : Follows o s) (b : Nat) (o' : Occ) : Follows o (s.startOcc b o') :=
  Follows.ite (((h.setQueue ..).bump ..).trace ..) (h.setQueue ..)

theorem Follows.whenFree (h : Follows o s) {t1 : State} (h1 : Follows o t1) : Follows o (s.whenFree t1) := Follows.ite h1 h

/-! ### Signatures -/

theorem Follows.draw (h : Follows o s) (n : Nat) : Follows o (s.draw n).2 := h.update

theorem Follows.seedDrbg (h : Follows o s) : Follows o s.seedDrbg := h.nextFree.update

theorem Follows.sign (h : Follows o s) (key : Nat) (msg : Bytes) : Follows o (s.sign key msg).2 := h.nextFree

theorem Follows.signLeaf (h : Follows o s) (p : Option Nat) (pub : Bytes) (rest : List TcbInfo) : Follows o (s.signLeaf p pub rest).2 :=
  (h.sign ..).update

theorem Follows.issueLeaf (h : Follows o s) (p : Nat) : Follows o (s.issueLeaf p) := Follows.ite h (((h.signLeaf ..).modPart ..).bump ..)

/-! ### Commands -/

theorem Follows.modRing (h : Follows o s) (r : Nat) (f : Ring → Ring) : Follows o (s.modRing r f) := by
  unfold State.modRing
  split
  · exact h
  · exact h.update

theorem Follows.modAssoc (h : Follows o s) (n : Nat) (f : Assoc → Assoc) : Follows o (s.modAssoc n f) := by
  unfold State.modAssoc
  split
  · exact h
  · exact h.update

theorem Follows.setCmd (h : Follows o s) (r : Nat) (c : Option Cmd) : Follows o (s.setCmd r c) := Follows.ite (h.modRing ..) (h.modAssoc ..)

theorem Follows.sendRingVector (h : Follows o s) (r : Nat) (x : Ring) : Follows o (s.sendRingVector r x) := (h.modRing ..).sendVector ..

theorem Follows.dma (h : Follows o s) (fn : Nat) (o' : Output) : Follows o (s.dma fn o') := h.emit ..

theorem Follows.sealed (h : Follows o s) (fn kind : Nat) (ring sequence bind : Nat) (plain : Bytes) : Follows o (s.sealed fn kind ring sequence bind plain).2 :=
  h.setFunc ..

theorem Follows.sealData (h : Follows o s) (fn ring addr : Nat) (data : Bytes) : Follows o (s.sealData fn ring addr data) :=
  Follows.foldl (fun _ _ h => (h.sealed ..).dma ..) h

theorem Follows.hostOut (h : Follows o s) (fn ring addr : Nat) (data : Bytes) : Follows o (s.hostOut fn ring addr data) :=
  Follows.ite (h.sealData ..) (h.dma ..)

theorem Follows.slotOut (h : Follows o s) (fn addr : Nat) (kind ring sequence : Nat) (plain : Bytes) : Follows o (s.slotOut fn addr kind ring sequence plain) :=
  ((h.sealed ..).setFunc ..).emit ..

theorem Follows.sendCompletion (h : Follows o s) (x : Ring) (e : Completion) : Follows o (s.sendCompletion x e) :=
  Follows.ite (h.slotOut ..) (h.dma ..)

theorem Follows.noteStep (h : Follows o s) (r : Nat) (c : Cmd) : Follows o (s.noteStep r c) := h.update

theorem Follows.complete (h : Follows o s) (r : Nat) (st : Status) : Follows o (s.complete r st) := by
  unfold State.complete
  split
  · exact h
  · refine .ite ?_ (((Follows.ite h (h.noteStep ..)).emit ..).modAssoc ..)
    split
    · exact Follows.ite h (h.noteStep ..)
    · exact Follows.onlyIf ((((Follows.unless (Follows.ite h (h.noteStep ..)) fun h1 => h1.hostOut ..).sendCompletion ..).modRing ..).bump ..) fun h1 =>
      h1.sendRingVector ..

theorem Follows.dropCmd (h : Follows o s) (r : Nat) : Follows o (s.dropCmd r) := h.setCmd ..

theorem Follows.replied (h : Follows o s) {s'3 : State} (h3 : Follows o s'3) (c : CmdIn) (st : Status) : Follows o (Machine.replied c s st s'3).2 :=
  Follows.ite_snd h3 (Follows.ite_snd h (Follows.ite_snd h3 h3))

theorem Follows.countKeyDenied (h : Follows o s) (c : Cmd) (st : Status) : Follows o (s.countKeyDenied c st) := Follows.ite (h.bump ..) h

theorem Follows.rejectHead (h : Follows o s) (r : Nat) (c : Cmd) (st : Status) : Follows o (s.rejectHead r c st) := (h.countKeyDenied ..).complete ..

theorem Follows.runCmd (h :
    Follows o s) {body : Cmd → State → Option Status × State} (hbody : ∀ c t, Follows o t → Follows o (body c t).2) (op : Nat) (i : Instr)
    (c : CmdIn) (bad : List (Bool × Nat)) (pre : Cmd → State → Option Status) (misnamed : Cmd → State → Bool) (data : Nat) (holds : Bytes → Bool)
    (dmaOk : Bool) : Follows o (runCmd op i c bad s body pre misnamed data holds dmaOk) := by
  unfold Machine.runCmd
  split
  · exact h
  · next cmd _ =>
    refine .ite h ?_
    generalize (if misnamed cmd s && decide (8 ≤ (packetFault s cmd).getD 8) then some (badParam 8) else headCheck s cmd) = fault
    cases fault with
    | some st => exact h.rejectHead ..
    | none =>
      dsimp only
      split
      · exact h.complete ..
      · refine .ite h (.ite (h.complete ..) ?_)
        split
        · exact h.complete ..
        · refine .ite h ?_
          have hdone := hbody cmd s h
          generalize body cmd s = r at hdone
          obtain ⟨st, t⟩ := r
          cases st with
          | none => exact (hdone.noteStep ..).setCmd ..
          | some st => exact (h.replied hdone ..).complete ..

theorem Follows.runNow (h : Follows o s) {body : Cmd → State → Status × State} (hbody : ∀ x0 t, Follows o t → Follows o ((body x0 t).2)) (op : Nat) (i : Instr)
    (c : CmdIn) (bad : List (Bool × Nat)) (pre : Cmd → State → Option Status) (data : Nat) (holds : Bytes → Bool) (dmaOk : Bool) : Follows o (Machine.runNow op
    i c bad s body pre data holds dmaOk) :=
  h.runCmd (fun _ _ h => Follows.ite (hbody _ _ h) h) ..

theorem Follows.runRead (h : Follows o s) (op : Nat) (i : Instr) (c : CmdIn) (bad : List (Bool × Nat)) (body : Cmd → State → Status) :
    Follows o (Machine.runRead op i c bad s body) :=
  h.runNow (fun _ _ h => h) ..

/-! ### The host interface -/

theorem LeadsOn.configurationRequest (h : Follows o s) : LeadsOn o (execConfigurationRequest s) := .next (Follows.ite h (h.emit ..))

theorem LeadsOn.pcieLinkTrained (h : Follows o s) (width rate : Nat) : LeadsOn o (execPcieLinkTrained width rate s) :=
  .next (h.whenFree (Follows.ite h (Follows.onlyIf ((Follows.ite (h.bump ..) h).update) fun h1 => h1.setSticky (by decide))))

theorem LeadsOn.perstNRelease (h : Follows o s) : LeadsOn o (execPerstNRelease s) := .next h.update

theorem Follows.endLoad (h : Follows o s) (p n : Nat) (y : ImageSlot) : Follows o (s.endLoad p n y) := h.modPart ..

theorem Follows.erasePlain (h : Follows o s) (p n : Nat) : Follows o (s.erasePlain p n) := Follows.ite (h.eraseHalf ..) h

theorem Follows.emptySlot (h : Follows o s) (p n : Nat) : Follows o (s.emptySlot p n) := ((h.endLoad ..).bump ..).issueLeaf ..

theorem Follows.dropLoads (h : Follows o s) (r : Nat) : Follows o (s.dropLoads r) :=
  Follows.foldl (fun _ _ h => Follows.foldl (fun _ _ h => Follows.ite ((h.erasePlain ..).emptySlot ..) h) h) h

theorem Follows.cutRing (h : Follows o s) (r : Nat) : Follows o (s.cutRing r) := (h.dropLoads ..).update

theorem Follows.removeRing (h : Follows o s) (r : Nat) : Follows o (s.removeRing r) := (h.cutRing ..).update

theorem Follows.cutTransfers (h : Follows o s) (fn : Nat) : Follows o (s.cutTransfers fn) := by
  unfold State.cutTransfers
  split
  · exact h
  · exact Follows.ite h.update h

theorem Follows.dropSlots (h : Follows o s) (fn localIx : Nat) : Follows o (s.dropSlots fn localIx) := Follows.ite (h.setFunc ..) h

theorem Follows.endBounce (h : Follows o s) (fn : Nat) : Follows o (s.endBounce fn) := Follows.ite (((h.setFunc ..).update).sendVector ..) h

theorem Follows.resetFn (h : Follows o s) (fn : Nat) : Follows o (s.resetFn fn) :=
  ((((Follows.foldl (fun _ _ h => h.cutRing ..) h).cutTransfers ..).bumpN ..).endBounce ..).update

theorem LeadsOn.perstNAssert (h : Follows o s) : LeadsOn o (execPerstNAssert s) := .next ((Follows.foldl (fun _ _ h => h.resetFn ..) h).update)

theorem Follows.ringError (h : Follows o s) (r : Nat) (x : Ring) : Follows o (s.ringError r x) :=
  Follows.sendVector (Follows.bump ((h.modRing ..).setSticky (by decide)) ..) ..

theorem Follows.closeSession (h : Follows o s) (fn : Nat) : Follows o (s.closeSession fn) :=
  Follows.ite (Follows.ite ((h.setFunc ..).sendVector ..) h) (h.modAssoc ..)

theorem Follows.tdispFail (h : Follows o s) (fn : Nat) : Follows o (s.tdispFail fn) := by
  unfold State.tdispFail
  exact .ite (Follows.bump ((Follows.foldl (fun _ _ h => h.ringError ..) ((h.setFunc ..).closeSession ..)).setSticky (by decide)) ..) h

theorem Follows.trusted (h : Follows o s) {f : State → State} (hf : ∀ t, Follows o t → Follows o (f t)) (fn : Nat) (tee : Bool) :
    Follows o (s.trusted fn tee f) :=
  Follows.ite (h.emit ..) (hf _ h)

theorem LeadsOn.functionLevelReset (h : Follows o s) (fn : Nat) : LeadsOn o (execFunctionLevelReset fn s) := by
  unfold execFunctionLevelReset
  refine .next ?_
  exact h.whenFree (Follows.ite (Follows.foldl (fun _ _ h => h.resetFn ..) (Follows.foldl (fun _ _ h => h.tdispFail ..) h)) (h.resetFn ..))

theorem Follows.resetRing (h : Follows o s) (fn localIx r : Nat) : Follows o (s.resetRing fn localIx r) := (h.modRing ..).dropSlots ..

theorem Follows.adminOn (h : Follows o s) (fn : Nat) : Follows o (s.adminOn fn) := by
  unfold State.adminOn
  dsimp only
  split
  · exact h.setFunc ..
  · exact Follows.ite (h.setFunc ..) (((h.setFunc ..).setFunc ..).update)

theorem LeadsOn.adminEnable (h : Follows o s) (fn : Nat) (tee : Bool) : LeadsOn o (execAdminEnable fn tee s) :=
  .next (Follows.ite h (h.trusted (fun _ h => h.adminOn ..) ..))

theorem LeadsOn.adminReset (h : Follows o s) (fn : Nat) (tee : Bool) : LeadsOn o (execAdminReset fn tee s) := by
  unfold execAdminReset
  refine .next (.ite h (Follows.trusted h (fun _ h => ?_) ..))
  split
  · exact h
  · exact h.resetRing ..

theorem LeadsOn.stickyMirrorWrite (h : Follows o s) (fn mask : Nat) : LeadsOn o (execStickyMirrorWrite fn mask s) :=
  .next (h.whenFree (Follows.ite (h.clearSticky ..) h))

theorem Follows.adminOff (h : Follows o s) (fn : Nat) : Follows o (s.adminOff fn) := by
  unfold State.adminOff
  refine Follows.setFunc ?_ ..
  split
  · exact h
  · exact (h.removeRing ..).dropSlots ..

theorem Follows.writeRegister (h : Follows o s) (fn field v : Nat) : Follows o (s.writeRegister fn field v) := by
  unfold State.writeRegister
  dsimp only
  split
  · exact h.setFunc ..
  · exact h.setFunc ..
  · exact h.setFunc ..
  · exact h.setFunc ..
  · exact Follows.ite ((h.setFunc ..).adminOff ..) (h.setFunc ..)
  · exact h

theorem Follows.writeVector (h : Follows o s) (fn n : Nat) (field v : Nat) : Follows o (s.writeVector fn n field v) := by
  unfold State.writeVector
  dsimp only
  split
  · exact h.setVec ..
  · exact h.setVec ..
  · exact h.setVec ..
  · exact Follows.ite (h.setVec ..) h
  · exact h

theorem Follows.bellIgnored (h : Follows o s) (fn : Nat) : Follows o (s.bellIgnored fn) := h.bump ..

theorem Follows.setSqTail (h : Follows o s) (r : Nat) (x : Ring) (value : Nat) : Follows o (s.setSqTail r x value) :=
  Follows.ite h (Follows.ite (h.ringError ..) (h.modRing ..))

theorem Follows.setCqHead (h : Follows o s) (r : Nat) (x : Ring) (value : Nat) : Follows o (s.setCqHead r x value) :=
  Follows.ite (h.ringError ..) (h.modRing ..)

theorem Follows.ringBell (h : Follows o s) (fn page : Nat) (offset value : Nat) (tee : Bool) : Follows o (s.ringBell fn page offset value tee) := by
  unfold State.ringBell
  split
  · exact h.bellIgnored ..
  · exact Follows.ite ((h.emit ..).bellIgnored ..) (Follows.ite (h.setSqTail ..) (Follows.ite (h.setCqHead ..) h))

theorem LeadsOn.sqTail (h : Follows o s) (fn page value : Nat) (tee : Bool) : LeadsOn o (execSqTail fn page value tee s) :=
  .next (Follows.ite h (h.ringBell ..))

theorem LeadsOn.cqHead (h : Follows o s) (fn page value : Nat) (tee : Bool) : LeadsOn o (execCqHead fn page value tee s) :=
  .next (Follows.ite h (h.ringBell ..))

theorem Follows.writeBar0 (h : Follows o s) (fn offset v : Nat) (tee : Bool) : Follows o (s.writeBar0 fn offset v tee) :=
  Follows.ite (h.ringBell ..) (Follows.ite (h.writeRegister ..) (Follows.ite (h.writeVector ..) h))

theorem LeadsOn.registerWrite (h : Follows o s) (fn offset value : Nat) (wide tee : Bool) : LeadsOn o (execRegisterWrite fn offset value wide tee s) := by
  unfold execRegisterWrite
  refine .next (.ite h (.ite ?_ ?_))
  · exact Follows.ite ((h.writeBar0 ..).writeBar0 ..) (h.writeBar0 ..)
  · exact h.trusted (fun _ h => Follows.ite ((h.writeBar0 ..).writeBar0 ..) (h.writeBar0 ..)) ..

theorem Follows.readSlot (h : Follows o s) (x : Ring) (entry : Bytes) : Follows o (s.readSlot x entry).2 := Follows.ite_snd (h.setFunc ..) (h.dma ..)

theorem Follows.checkHead (h : Follows o s) (r : Nat) (c : Cmd) : Follows o (s.checkHead r c) := by
  unfold State.checkHead
  refine .ite h ?_
  split
  · exact h.rejectHead ..
  · exact h

theorem LeadsOn.commandFetch (h : Follows o s) (entry : Bytes) : LeadsOn o (execCommandFetch entry s) := by
  unfold execCommandFetch
  refine .next (.ite h ?_)
  split
  · exact h
  · exact Follows.ite (h.modRing ..) ((((h.readSlot ..).update).modRing ..).checkHead ..)

theorem LeadsOn.startDeadlineExpiry (h : Follows o s) (ring : Nat) : LeadsOn o (execStartDeadlineExpiry ring s) := by
  unfold execStartDeadlineExpiry
  refine .next ?_
  split
  · exact h
  · refine .ite h ?_
    split
    · exact h.rejectHead ..
    · exact h

theorem LeadsOn.fenceRelease (h : Follows o s) (ring : Nat) : LeadsOn o (execFenceRelease ring s) := by
  unfold execFenceRelease
  refine .next ?_
  split
  · exact h
  · refine .ite h ?_
    split
    · exact h.rejectHead ..
    · exact h.setCmd ..

theorem LeadsOn.interruptCoalesceTimeout (h : Follows o s) (ring : Nat) : LeadsOn o (execInterruptCoalesceTimeout ring s) := by
  unfold execInterruptCoalesceTimeout
  refine .next ?_
  split
  · exact h
  · exact Follows.ite h (h.sendRingVector ..)

theorem LeadsOn.vectorUnmask (h : Follows o s) (fn vector : Nat) (tee : Bool) : LeadsOn o (execVectorUnmask fn vector tee s) :=
  .next (Follows.ite h (h.trusted (fun _ h => Follows.ite ((h.setVec ..).sendVector ..) (h.setVec ..)) ..))

theorem Follows.openSession (h : Follows o s) (fn host enabled : Nat) : Follows o (s.openSession fn host enabled) :=
  Follows.ite (h.setFunc ..) (h.update.modAssoc ..)

theorem LeadsOn.sessionOpen (h : Follows o s) (c : CmdIn) (hostWord : Nat) : LeadsOn o (execSessionOpen c hostWord s) :=
  .next (h.runNow (fun _ _ h => Follows.ite_snd h (Follows.ite_snd h (h.openSession ..))) ..)

theorem LeadsOn.sessionClose (h : Follows o s) (c : CmdIn) : LeadsOn o (execSessionClose c s) :=
  .next (h.runNow (fun _ _ h => Follows.ite_snd h (h.closeSession ..)) ..)

theorem Follows.clearPartCounters (h : Follows o s) (p : Nat) : Follows o (s.clearPartCounters p) := h.update

theorem LeadsOn.ringCreate (h : Follows o s) (c : CmdIn) (localIx : Nat) (kind : RingKind) (log2 vector : Nat) (coalCount coalTime : Nat) (drainSource sqBase
    cqBase : Nat) : LeadsOn o (execRingCreate c localIx kind log2 vector coalCount coalTime drainSource sqBase cqBase s) := by
  unfold execRingCreate
  refine .next (Follows.runNow h (fun _ _ h => ?_) ..)
  refine .ite_snd h (.ite_snd h (.ite_snd h (.ite_snd h ?_)))
  split
  · exact h
  · exact h.update

theorem LeadsOn.ringDestroy (h : Follows o s) (c : CmdIn) (localIx : Nat) : LeadsOn o (execRingDestroy c localIx s) := by
  unfold execRingDestroy
  refine .next (Follows.runNow h (fun _ _ h => ?_) ..)
  split
  · exact h
  · exact Follows.ite_snd h ((h.removeRing ..).dropSlots ..)

theorem LeadsOn.ringReset (h : Follows o s) (c : CmdIn) (localIx : Nat) : LeadsOn o (execRingReset c localIx s) := by
  unfold execRingReset
  refine .next (Follows.runNow h (fun _ _ h => ?_) ..)
  split
  · exact h
  · exact Follows.ite_snd h (h.resetRing ..)

/-! ### Settings -/

theorem Follows.putSetting (h : Follows o s) (id inst : Nat) (elem v : Nat) : Follows o (s.putSetting id inst elem v) := h.update

theorem Follows.defaultSettings (h : Follows o s) (p : Nat) : Follows o (s.defaultSettings p) := h.update

end

end Sys2Proof.Machine
end

section
/-!
PROOFS. What every step keeps: time, lanes, the messages of the pair, egress queues and report queues (chapters 03, 14, 15, 18, 20).
-/
open Sys2Proof Sys2Proof.Machine Sys2Proof.Claims
namespace Sys2Proof.Machine

section
variable {o s : State}

/-! ### Time -/

theorem LeadsOn.timeWrapNear (h : Follows o s) : LeadsOn o (execTimeWrapNear s) :=
  .next (h.whenFree (Follows.ite (Follows.onlyIf (h.setSticky (by decide)) fun h1 => h1.update) h))

theorem LeadsOn.todMessage (h : Follows o s) (message : Bytes) : LeadsOn o (execTodMessage message s) := by
  unfold execTodMessage
  refine .next (Follows.whenFree h ?_)
  split
  · exact h.bump ..
  · exact h.update

theorem Follows.takeTod (h : Follows o s) (stamp : Nat) : Follows o (s.takeTod stamp).1 := h.update.bumpN ..

theorem Follows.tbMove (h : Follows o s) (st : TbState) : Follows o (s.tbMove st) := h.update.bump ..

theorem Follows.steer (h : Follows o s) (err : ℤ) : Follows o (s.steer err) := Follows.ite h.update h.update.nextFree

theorem Follows.startPeriodic (h : Follows o s) : Follows o s.startPeriodic := by
  unfold State.startPeriodic
  exact (Follows.foldl (fun _ _ h => h.enqueue ..) (Follows.foldl (fun _ _ h => h.enqueue ..) (h.enqueue ..))).enqueue ..

theorem Follows.dropFormers (h : Follows o s) : Follows o s.dropFormers := h.update

theorem Follows.firstEdge (h : Follows o s) (tod : Tod) (stamp : Nat) : Follows o (s.firstEdge tod stamp) :=
  Follows.ite (h.setSticky (by decide)) ((h.update.dropFormers.tbMove ..).startPeriodic)

theorem Follows.acquireEdge (h : Follows o s) (err : ℤ) : Follows o (s.acquireEdge err) := by
  unfold State.acquireEdge
  exact .ite (Follows.ite (((h.update.steer ..).update).tbMove ..) ((h.update.steer ..).update)) ((h.update.steer ..).update)

theorem Follows.lockedEdge (h : Follows o s) (err : ℤ) (lastStamp stamp : Nat) : Follows o (s.lockedEdge err lastStamp stamp) :=
  Follows.ite (Follows.ite (Follows.onlyIf ((((h.update.bump ..).update).steer ..).tbMove ..) fun h1 => h1.setSticky (by decide)) ((h.update.bump ..).update))
    (h.update.update.steer ..)

theorem Follows.validEdge (h : Follows o s) (tod : Tod) (stamp last : Nat) : Follows o (s.validEdge tod stamp last) := by
  unfold State.validEdge
  dsimp only
  split
  · exact h.firstEdge ..
  · exact h.update.update.tbMove ..
  · exact h.update.acquireEdge ..
  · exact h.update.lockedEdge ..

theorem LeadsOn.ppsInEdge (h : Follows o s) (age : Nat) : LeadsOn o (execPpsInEdge age s) := by
  unfold execPpsInEdge
  refine .next (h.whenFree (.ite h ?_))
  have htod := h.takeTod (s.nt - age)
  generalize s.takeTod (s.nt - age) = r at htod ⊢
  obtain ⟨t, accepted⟩ := r
  cases accepted with
  | none => exact htod
  | some tod => exact .ite htod.update (((htod.update.bump ..).update).validEdge ..)

theorem LeadsOn.holdover (h : Follows o s) : LeadsOn o (execHoldover s) := .next (h.whenFree (Follows.ite (h.update.tbMove ..) h))

theorem LeadsOn.ppsOut (h : Follows o s) : LeadsOn o (execPpsOut s) := .next (h.whenFree h.update)

theorem LeadsOn.wingResume (h : Follows o s) (wing : Nat) : LeadsOn o (execWingResume wing s) := .next h.update

theorem LeadsOn.timeConfig (h : Follows o s) (c : CmdIn) (setting inst : Nat) (element value : Nat) :
    LeadsOn o (execTimeConfig c setting inst element value s) :=
  .next (h.runNow (fun _ _ h => Follows.ite_snd h.update h.update) ..)

theorem LeadsOn.timeStatus (h : Follows o s) (c : CmdIn) : LeadsOn o (execTimeStatus c s) := .next (h.runRead ..)

/-! ### Lanes -/

theorem Follows.setLane (h : Follows o s) (n : Nat) (x : Lane) : Follows o (s.setLane n x) := h.update

theorem Follows.discardFrame (h : Follows o s) (n : Nat) (d : Discard) : Follows o (s.discardFrame n d) := (h.setLane ..).bump ..

theorem Follows.stampSlot (h : Follows o s) (n stamp : Nat) (slot : Bytes) : Follows o (s.stampSlot n stamp slot).2 :=
  Follows.ite_snd (Follows.ite (h.update.bump ..) h.update) h

theorem Follows.takeSlot (h : Follows o s) (n stamp pos : Nat) (slot : Bytes) : Follows o (s.takeSlot n stamp pos slot) :=
  Follows.ite (((h.stampSlot ..).setLane ..).bump ..) (h.bump ..)

theorem Follows.takeSlots (h : Follows o s) (n stamp size k i : Nat) (rest : Bytes) : Follows o (Machine.takeSlots n stamp size k i rest s) := by
  induction k generalizing s i rest with
  | zero => exact h
  | succ k ih => exact ih (h.takeSlot ..) (i + 1) _

theorem Follows.acceptFrame (h : Follows o s) (n : Nat) (frame : Bytes) : Follows o (s.acceptFrame n frame) := by
  unfold State.acceptFrame
  dsimp only
  split
  · exact Follows.unless ((h.setLane ..).bump ..) fun h1 => h1.bump ..
  · exact (h.setLane ..).bump ..

theorem Follows.fecCount (h : Follows o s) (n corrected uncorrectable : Nat) : Follows o (s.fecCount n corrected uncorrectable) :=
  ((h.setLane ..).bumpN ..).bumpN ..

theorem LeadsOn.digest (h : Follows o s) (lane age : Nat) (frame : Bytes) (fcsOk cut : Bool) (corrected uncorrectable : Nat) :
    LeadsOn o (execDigest lane age frame fcsOk cut corrected uncorrectable s) := by
  unfold execDigest
  refine .next (.ite h (.ite ((h.fecCount ..).discardFrame ..) (.ite (((h.fecCount ..).setLane ..).discardFrame ..) ?_)))
  dsimp only
  split
  · exact ((h.fecCount ..).setLane ..).discardFrame ..
  · exact (((h.fecCount ..).setLane ..).acceptFrame ..).takeSlots ..

theorem LeadsOn.controlReceive (h : Follows o s) (lane : Nat) (frame : Bytes) (fcsOk cut : Bool) (corrected uncorrectable : Nat) :
    LeadsOn o (execControlReceive lane frame fcsOk cut corrected uncorrectable s) := by
  unfold execControlReceive
  refine .next (.ite h (.ite ((h.fecCount ..).discardFrame ..) (.ite ((h.fecCount ..).discardFrame ..) ?_)))
  split
  · exact (h.fecCount ..).discardFrame ..
  · exact (h.fecCount ..).acceptFrame ..

theorem LeadsOn.foreignFrame (h : Follows o s) (lane : Nat) (frame : Bytes) (fcsOk cut : Bool) (corrected uncorrectable : Nat) :
    LeadsOn o (execForeignFrame lane frame fcsOk cut corrected uncorrectable s) :=
  .next (Follows.ite h (Follows.ite ((h.fecCount ..).bump ..) ((h.fecCount ..).discardFrame ..)))

theorem LeadsOn.rxIpv6 (h : Follows o s) (lane : Nat) (frame : Bytes) (fcsOk cut : Bool) (corrected uncorrectable : Nat) :
    LeadsOn o (execRxIpv6 lane frame fcsOk cut corrected uncorrectable s) :=
  .next (Follows.ite h (Follows.ite ((h.fecCount ..).bump ..) ((h.fecCount ..).discardFrame ..)))

theorem Follows.dropLane (h : Follows o s) (n : Nat) : Follows o (s.dropLane n) := (h.setLane ..).bumpN ..

theorem LeadsOn.laneDown (h : Follows o s) (lane : Nat) : LeadsOn o (execLaneDown lane s) := by
  refine .next ?_
  split
  · next hlane =>
    have hlive : lane < s.lanesN := of_decide_eq_true (Bool.and_eq_true_iff.1 (Bool.and_eq_true_iff.1 (Bool.and_eq_true_iff.1 hlane).1).1).1
    exact ((h.dropLane ..).bump ..).setSticky (notReserved_of_lt (hlive.trans_le s.lanesN_le) (by decide))
  · exact h

theorem Follows.templatesDue (h : Follows o s) (port : Nat) : Follows o (s.templatesDue port) := h.update

theorem LeadsOn.linkUp (h : Follows o s) (lane : Nat) : LeadsOn o (execLinkUp lane s) :=
  .next (Follows.ite (((h.setLane ..).update).templatesDue ..) h)

theorem Follows.sendDlf (h : Follows o s) (n ft : Nat) (recs : List VerdictRec) : Follows o (s.sendDlf n ft recs) := ((h.emit ..).setLane ..).bumpN ..

theorem LeadsOn.verdictFrame (h : Follows o s) (lane : Nat) : LeadsOn o (execVerdictFrame lane s) := .next (h.whenFree (Follows.ite (h.sendDlf ..) h))

theorem LeadsOn.controlFrameCredit (h : Follows o s) (lane : Nat) : LeadsOn o (execControlFrameCredit lane s) :=
  .next (h.whenFree (Follows.ite (h.sendDlf ..) h))

theorem LeadsOn.controlFrameIdle (h : Follows o s) (lane : Nat) : LeadsOn o (execControlFrameIdle lane s) :=
  .next (h.whenFree (Follows.ite (h.sendDlf ..) h))

theorem Follows.withhold (h : Follows o s) : Follows o s.withhold := Follows.ite h.update h

theorem LeadsOn.creditResume (h : Follows o s) : LeadsOn o (execCreditResume s) :=
  .next (h.whenFree (Follows.ite (Follows.foldl (fun _ _ h => Follows.ite (h.setLane ..) h) h.update) h))

theorem Follows.countLane (h : Follows o s) (n : Nat) (x : Lane) : Follows o (s.countLane n x) :=
  Follows.unless (Follows.onlyIf (Follows.ite (h.bump ..) h) fun h1 => h1.bump ..) fun h1 => h1.setLane ..

theorem Follows.countLanes (h : Follows o s) : Follows o s.countLanes := Follows.foldl (fun _ _ h => h.countLane ..) h

/-! ### Messages of the pair -/

theorem Follows.pairFrame (h : Follows o s) (lane : Nat) (msgs : List (Nat × PairMsg)) : Follows o (s.pairFrame lane msgs).2 := h.update.emit ..

theorem Follows.pairSend (h : Follows o s) (mk : Nat → PairMsg) : Follows o (s.pairSend mk).2.2 := (h.pairFrame ..).update

theorem Follows.addDecision (h : Follows o s) (kind : Nat) (d : Decision) : Follows o (s.addDecision kind d) := h.update.enqueue ..

theorem Follows.pairDecide (h : Follows o s) (kind w p : Nat) (mk : Nat → PairMsg) (reason : Nat) : Follows o (s.pairDecide kind w p mk reason).2 :=
  (h.pairSend ..).addDecision ..

theorem Follows.addDigest (h : Follows o s) (stamp p : Nat) (w digest : Nat) : Follows o (s.addDigest stamp p w digest) := h.update

theorem Follows.logChange (h : Follows o s) (w : Nat) (x : LogEntry) : Follows o (s.logChange w x) := Follows.ite h.update h

theorem Follows.modResync (h : Follows o s) (p w : Nat) (f : Resync → Resync) : Follows o (s.modResync p w f) := by
  unfold State.modResync
  split
  · exact h
  · exact h.update

theorem Follows.saveImage (h : Follows o s) (p w stamp : Nat) (u : PairUnit) : Follows o (s.saveImage p w stamp u) := by
  unfold State.saveImage
  split
  · exact h
  · exact Follows.ite (h.modResync ..) h

theorem Follows.amendImage (h : Follows o s) (p w : Nat) (stamp unit : Nat) (f : PairUnit → PairUnit) : Follows o (s.amendImage p w stamp unit f) :=
  h.modResync ..

theorem Follows.sendImage (h : Follows o s) (w p : Nat) (u : PairUnit) : Follows o (s.sendImage w p u) := ((h.modResync ..).bumpN ..).pairFrame ..

theorem Follows.touchWindows (h : Follows o s) (p stamp : Nat) : Follows o (s.touchWindows p stamp) :=
  Follows.foldl (fun _ _ h => (h.saveImage ..).saveImage ..) h

/-! ### Export -/

theorem Follows.setXq (h : Follows o s) (q : Nat) (x : ExpQueue) : Follows o (s.setXq q x) := h.update

theorem Follows.setXport (h : Follows o s) (n : Nat) (x : ExpPort) : Follows o (s.setXport n x) := h.update

theorem Follows.refreshQueue (h : Follows o s) (vc q : Nat) : Follows o (s.refreshQueue vc q) := Follows.ite (Follows.ite h (h.setXq ..)) (h.setXq ..)

theorem Follows.refreshClass (h : Follows o s) (port c : Nat) : Follows o (s.refreshClass port c) := by
  unfold State.refreshClass
  refine .ite ?_ ?_
  · exact Follows.unless (Follows.foldl (fun _ _ h => h.refreshQueue ..) h) fun h1 => h1.setXport ..
  · exact (Follows.foldl (fun _ _ h => h.refreshQueue ..) h).setXport ..

theorem Follows.refreshPort (h : Follows o s) (port : Nat) : Follows o (s.refreshPort port) := Follows.foldl (fun _ _ h => h.refreshClass ..) h

theorem Follows.dequeue (h : Follows o s) (port q : Nat) (f : ExpFrame) (rest : List ExpFrame) : Follows o (s.dequeue port q f rest) :=
  ((((h.setXq ..).setLane ..).emit ..).bump ..).bumpN ..

theorem Follows.afterSend (h : Follows o s) (port c q : Nat) : Follows o (s.afterSend port c q) := by
  unfold State.afterSend
  exact .ite ((Follows.ite (h.setXq ..) (h.setXq ..)).setXport ..) ((Follows.ite (h.setXq ..) (h.setXq ..)).setXport ..)

theorem LeadsOn.exportFrame (h : Follows o s) (port : Nat) : LeadsOn o (execExportFrame port s) := by
  unfold execExportFrame
  refine .next (.ite h ?_)
  dsimp only
  split
  · exact h.refreshPort ..
  · split
    · exact h.refreshPort ..
    · split
      · exact h.refreshPort ..
      · exact (((h.refreshPort ..).setXport ..).dequeue ..).afterSend ..

theorem LeadsOn.shaperEligible (h : Follows o s) (queue : Nat) : LeadsOn o (execShaperEligible queue s) := .next (Follows.ite (h.refreshPort ..) h)

theorem LeadsOn.gateEntryChange (h : Follows o s) (port : Nat) : LeadsOn o (execGateEntryChange port s) := .next (Follows.ite (h.refreshPort ..) h)

theorem Follows.closePayload (h : Follows o s) (q : Nat) : Follows o (s.closePayload q) := by
  unfold State.closePayload
  dsimp only
  split
  · exact h
  · exact Follows.ite (((h.bumpN ..).setXq ..).refreshPort ..) ((((h.bumpN ..).setXq ..).bump ..).bumpN ..)

theorem Follows.appendItem (h : Follows o s) (q : Nat) (i : ExpItem) : Follows o (s.appendItem q i) :=
  Follows.ite ((Follows.ite h (h.closePayload ..)).setXq ..) ((Follows.ite h (h.closePayload ..)).setXq ..)

theorem Follows.exportItem (h : Follows o s) (binding : Nat) (i : ExpItem) : Follows o (s.exportItem binding i) := Follows.ite (h.appendItem ..) h

theorem LeadsOn.payloadClose (h : Follows o s) (queue : Nat) : LeadsOn o (execPayloadClose queue s) :=
  .next (Follows.ite h (Follows.ite (h.closePayload ..) h))

theorem LeadsOn.gateListSet (h : Follows o s) (c : CmdIn) (port : Nat) (entries : List (Nat × Nat)) (base : Nat) :
    LeadsOn o (execGateListSet c port entries base s) := by
  unfold execGateListSet
  refine .next (Follows.runNow h (fun _ _ h => ?_) ..)
  refine .ite_snd h (.ite_snd h ?_)
  split
  · exact h
  · exact Follows.ite_snd h (Follows.ite_snd h ((h.setXport ..).enqueue ..))

theorem LeadsOn.gateListCancel (h : Follows o s) (c : CmdIn) (port : Nat) : LeadsOn o (execGateListCancel c port s) :=
  .next (h.runNow (fun _ _ h => Follows.ite_snd h ((h.setXport ..).setQueue ..)) ..)

theorem LeadsOn.gateList (h : Follows o s) (port : Nat) : LeadsOn o (execGateList port s) := by
  unfold execGateList
  refine .next ?_
  split
  · exact h
  · exact (((h.startOcc ..).setXport ..).bump ..).refreshPort ..

theorem LeadsOn.shaperSample (h : Follows o s) : LeadsOn o (execShaperSample s) := by
  unfold execShaperSample
  refine .next ?_
  split
  · exact h
  · exact (Follows.onlyIf ((h.startOcc ..).update) fun h1 => h1.bump ..).enqueue ..

theorem LeadsOn.exportQueueStats (h : Follows o s) (c : CmdIn) (queue : Nat) (reset : Bool) : LeadsOn o (execExportQueueStats c queue reset s) :=
  .next (h.runNow (fun _ _ h => Follows.ite (h.setXq ..) h) ..)

theorem Follows.countGates (h : Follows o s) : Follows o s.countGates := Follows.foldl (fun _ _ h => Follows.ite (h.bump ..) h) h

/-! ### Report queues -/

theorem Follows.setRq (h : Follows o s) (p q : Nat) (x : ReportQ) : Follows o (s.setRq p q x) := h.update

theorem Follows.emptyRqs (h : Follows o s) (p : Nat) : Follows o (s.emptyRqs p) := h.update

theorem Follows.reportCopy (h : Follows o s) (p q : Nat) (r : QRec) : Follows o (s.reportCopy p q r) := Follows.ite h (h.exportItem ..)

theorem Follows.record (h : Follows o s) (p q : Nat) (prio type : Nat) (body : Bytes) : Follows o (s.record p q prio type body) :=
  Follows.ite (((h.bump ..).reportCopy ..).setRq ..) (((((h.bump ..).reportCopy ..).setRq ..).bump ..).bump ..)

theorem Follows.countLost (h : Follows o s) (p q : Nat) (prios : List Nat) : Follows o (s.countLost p q prios) :=
  Follows.foldl (fun _ _ h => h.bump ..) h

theorem LeadsOn.recordPush (h : Follows o s) (partition queue : Nat) : LeadsOn o (execRecordPush partition queue s) := by
  unfold execRecordPush
  refine .next ?_
  dsimp only
  split
  · exact h
  · exact .ite h (.ite (h.nextFree.setRq ..) (Follows.ite ((h.nextFree.setRq ..).countLost ..) ((h.nextFree.setRq ..).countLost ..)))

theorem Follows.notifyRq (h : Follows o s) (p q : Nat) : Follows o (s.notifyRq p q) := Follows.ite (((h.setRq ..).sendVector ..).bump ..) h

theorem Follows.showRecord (h : Follows o s) (p q : Nat) : Follows o (s.showRecord p q) := (h.setRq ..).notifyRq ..

theorem Follows.tickRq (h : Follows o s) (k : Nat) : Follows o (s.tickRq k) := Follows.ite h (Follows.ite (h.update.showRecord ..) h.update)

theorem LeadsOn.reportNotifyTimeout (h : Follows o s) (partition queue : Nat) : LeadsOn o (execReportNotifyTimeout partition queue s) :=
  .next (h.whenFree (Follows.ite h (((h.setRq ..).sendVector ..).bump ..)))

theorem Follows.deliver (h : Follows o s) (p q : Nat) (r : QRec) (found : List WordRead) : Follows o (s.deliver p q r found) :=
  Follows.onlyIf ((((h.setRq ..).bump ..).bumpN ..).bumpN ..) fun h1 => (h1.bump ..).setSticky (by decide)

theorem Follows.deliverNative (h : Follows o s) (p q : Nat) (r : QRec) (found : List WordRead) : Follows o (Machine.deliverNative s p q r found).2 :=
  h.deliver ..

theorem LeadsOn.reportRead (h : Follows o s) (c : CmdIn) (queue timeout : Nat) (found : List WordRead) (written : Bool) :
    LeadsOn o (execReportRead c queue timeout found written s) := by
  unfold execReportRead
  refine .next (.ite h (Follows.runCmd h (fun _ _ h => ?_) ..))
  refine .ite_snd h ?_
  split
  · exact Follows.ite_snd h (Follows.ite_snd ((h.setRq ..).deliverNative ..) (h.setRq ..))
  · exact Follows.ite_snd h (h.setRq ..)

theorem LeadsOn.reportReadSelect (h : Follows o s) (partition queue : Nat) (found : List WordRead) (written failed : Bool) :
    LeadsOn o (execReportReadSelect partition queue found written failed s) := by
  unfold execReportReadSelect
  refine .next ?_
  dsimp only
  split
  · refine .ite h (.ite ((h.setRq ..).complete ..) ?_)
    exact Follows.ite (((h.setRq ..).deliverNative ..).complete ..) (Follows.ite h (h.setRq ..))
  · exact h

theorem LeadsOn.reportReadTimeout (h : Follows o s) (partition queue : Nat) : LeadsOn o (execReportReadTimeout partition queue s) := by
  unfold execReportReadTimeout
  refine .next (Follows.whenFree h ?_)
  dsimp only
  split
  · exact h
  · exact (h.setRq ..).complete ..

theorem LeadsOn.reportReadCompat (h : Follows o s) (c : CmdIn) (queue : Nat) (found : List WordRead) : LeadsOn o (execReportReadCompat c queue found s) := by
  unfold execReportReadCompat
  refine .next (.ite h (Follows.runCmd h (fun _ _ h => ?_) ..))
  refine .ite_snd h ?_
  split
  · exact Follows.ite_snd h ((h.setRq ..).deliver ..)
  · exact h

/-! ### Verdicts -/

theorem Follows.toLane (h : Follows o s) (k : Slot) (r : VerdictRec) : Follows o (s.toLane k r) :=
  Follows.ite ((Follows.ite (h.trace ..) h).setLane ..) ((Follows.ite (h.trace ..) h).bump ..)

theorem Follows.emitPend (h : Follows o s) (e : Pend) (r : VerdictRec) : Follows o (s.emitPend e r) := (h.toLane ..).update

theorem Follows.settleFor (h : Follows o s) (n : Nat) : Follows o (Machine.settle n s) := by
  induction n generalizing s with
  | zero => exact h
  | succ n ih =>
    unfold Machine.settle
    split
    · exact h
    · exact ih (h.emitPend ..)

theorem Follows.settle (h : Follows o s) : Follows o s.settle := h.settleFor _

theorem Follows.addPend (h : Follows o s) (e : Pend) : Follows o (s.addPend e) := h.update

theorem Follows.unresolve (h : Follows o s) (e : Pend) (bank : Nat) : Follows o (s.unresolve e bank) := (h.bump ..).emitPend ..

theorem Follows.forcePend (h : Follows o s) (id : Nat) : Follows o (s.forcePend id) := by
  unfold State.forcePend
  split
  · exact h
  · split
    · exact h.emitPend ..
    · exact h.emitPend ..
    · exact Follows.ite (h.unresolve ..) (h.emitPend ..)
    · exact h.unresolve ..
    · exact ((h.bump ..).emitPend ..).fire ..

theorem Follows.holdPend (h : Follows o s) (id : Nat) : Follows o (s.holdPend id) := h.update

theorem Follows.expire (h : Follows o s) (e : Pend) : Follows o (s.expire e) := by
  unfold State.expire
  split
  · exact (h.forcePend ..).settle
  · exact ((Follows.foldl (fun _ _ h => h.forcePend ..) h).holdPend ..).settle

theorem LeadsOn.deadline (h : Follows o s) : LeadsOn o (execDeadline s) := by
  unfold execDeadline
  refine .next (.ite h ?_)
  split
  · exact h
  · exact h.expire ..

theorem Follows.lateRecord (h : Follows o s) (e : Pend) (r : VerdictRec) (deadline : Nat) : Follows o (s.lateRecord e r deadline) := h.record ..

theorem Follows.answerLate (h : Follows o s) (id : Nat) : Follows o (s.answerLate id) := by
  unfold State.answerLate
  split
  · exact h
  · exact Follows.ite h.update ((h.update.bump ..).fire ..)

theorem Follows.verdictIn (h : Follows o s) (x : Returning) : Follows o (s.verdictIn x) := by
  unfold State.verdictIn
  split
  · exact h
  · split
    · exact Follows.ite h.update.settle (((Follows.ite (h.expire ..) h).answerLate ..).lateRecord ..)
    · exact h

theorem LeadsOn.verdictArrival (h : Follows o s) (wing : Nat) : LeadsOn o (execVerdictArrival wing s) := by
  unfold execVerdictArrival
  refine .next ?_
  split
  · exact h
  · exact Follows.ite h ((h.setWing ..).verdictIn ..)

end

end Sys2Proof.Machine
end

section
/-!
PROOFS. What every step keeps: the flow table, the Porch and the Stairwell (chapters 04 to 07).
-/
open Sys2Proof Sys2Proof.Machine Sys2Proof.Claims
namespace Sys2Proof.Machine

section
variable {o s : State}

/-! ### The flow table -/

theorem Follows.putEntry (h : Follows o s) (h' : Nat) (e : FlowEntry) : Follows o (s.putEntry h' e) := h.setWing ..

theorem Follows.writeBlock (h : Follows o s) (p h' : Nat) (data : Bytes) : Follows o (s.writeBlock p h' data) := h.update.setWing ..

theorem Follows.poisonWord (h : Follows o s) (p h' j : Nat) : Follows o (s.poisonWord p h' j) :=
  ((Follows.ite h h.update).bump ..).setStickyIn _ (by decide)

theorem Follows.uncache (h : Follows o s) (p h' : Nat) : Follows o (s.uncache p h') := h.setWing ..

theorem Follows.clearLive (h : Follows o s) (p h' : Nat) : Follows o (s.clearLive p h') := (h.writeBlock ..).uncache ..

theorem Follows.entryChanged (h : Follows o s) (h' gen e : Nat) : Follows o (s.entryChanged h' gen e) := h.setWing ..

theorem Follows.changeSlot (h : Follows o s) (p h' e : Nat) (new : FlowEntry) : Follows o (s.changeSlot p h' e new) :=
  Follows.ite (Follows.onlyIf ((h.putEntry ..).entryChanged ..) fun h1 => h1.clearLive ..) (h.putEntry ..)

theorem Follows.exportFlow (h : Follows o s) (p h' : Nat) (e : FlowEntry) (reason : Nat) : Follows o (s.exportFlow p h' e reason) :=
  Follows.ite ((h.bump ..).exportItem ..) h

theorem Follows.learnNotice (h : Follows o s) (w p : Nat) (key : Bytes) (hash port : Nat) : Follows o (s.learnNotice w p key hash port) := by
  unfold State.learnNotice
  refine .ite (h.bump ..) ?_
  dsimp only
  split
  · exact Follows.ite (((h.bump ..).setWing ..).bump ..) (h.bump ..)
  · exact Follows.ite (((h.bump ..).bump ..).bump ..) ((h.bump ..).setWing ..)

theorem Follows.insertFail (h : Follows o s) (w : Nat) (k : PendKey) : Follows o (s.insertFail w k) :=
  Follows.onlyIf ((h.bump ..).setWing ..) fun h1 => h1.record ..

theorem LeadsOn.insertion (h : Follows o s) (wing : Nat) : LeadsOn o (execInsertion wing s) := by
  unfold execInsertion
  refine .next ?_
  split
  · exact h
  · refine .ite h (.ite ((h.setWing ..).bump ..) ?_)
    split
    · exact (h.setWing ..).insertFail ..
    · exact .ite (((((h.setWing ..).bump ..).pairDecide ..).changeSlot ..).bump ..) (((h.setWing ..).bump ..).changeSlot ..)

/-! ### Features -/

theorem Follows.countToken (h : Follows o s) (p epoch : Nat) (img : Image) (t n : Nat) : Follows o (s.countToken p epoch img t n) :=
  ((h.touchWindows ..).update).update

theorem Follows.placeWindows (h : Follows o s) (p : Nat) (img : Image) : Follows o (s.placeWindows p img) :=
  Follows.foldl (fun _ _ h => (h.setQueue ..).enqueue ..) h

theorem Follows.retireWindows (h : Follows o s) (p n epoch : Nat) (k : ℤ) : Follows o (s.retireWindows p n epoch k) := h.update

theorem LeadsOn.windowEdge (h : Follows o s) (partition slot : Nat) : LeadsOn o (execWindowEdge partition slot s) := by
  unfold execWindowEdge
  refine .next ?_
  split
  · exact h
  · dsimp only
    split
    · exact h.startOcc ..
    · exact ((h.startOcc ..).retireWindows ..).enqueue ..

/-! ### PARSE -/

theorem Follows.takeFromLane (h : Follows o s) (k : Slot) : Follows o (s.takeFromLane k) := h.setLane ..

theorem Follows.setFrags (h : Follows o s) (b : Nat) (t : Tab FragEntry) : Follows o (s.setFrags b t) := h.update

theorem Follows.firstFragment (h : Follows o s) (f : Frag) (p bank_ : Nat) (id stamp seen : Nat) (flow : FlowIdent) :
    Follows o (s.firstFragment f p bank_ id stamp seen flow) := by
  unfold State.firstFragment
  dsimp only
  split
  · exact ((h.setFrags ..).bump ..).bump ..
  · split
    · exact (h.setFrags ..).bump ..
    · exact h.bump ..

theorem Follows.nonFirstFragment (h : Follows o s) (f : Frag) (p : Nat) (k : Slot) : Follows o (s.nonFirstFragment f p k).2 := by
  unfold State.nonFirstFragment
  dsimp only
  split
  · exact h.bump ..
  · split
    · exact h.bump ..
    · exact Follows.ite_snd ((h.bump ..).bump ..) (h.bump ..)

theorem Follows.unclassified (h : Follows o s) (x : Parsed) (k : Slot) (bank_ : Nat) : Follows o (s.unclassified x k bank_) := by
  unfold State.unclassified
  refine Follows.toLane ?_ ..
  split
  · exact (h.bump ..).bump ..
  · exact h.bump ..

theorem Follows.tokenize (h : Follows o s) (x : Parsed) (k : Slot) (rule : Rule) (id : Nat) (key : Bytes) (e : Epoch) (img : Image) (cfg : SlotCfg) :
    Follows o (s.tokenize x k rule id key e img cfg).2 :=
  (((h.bump ..).bumpN ..).countToken ..).update

theorem Follows.byEpoch (h : Follows o s) (x : Parsed) (k : Slot) (rule : Rule) (id : Nat) (key : Bytes) : Follows o (s.byEpoch x k rule id key).2.1 := by
  unfold State.byEpoch
  dsimp only
  split
  · exact h
  · split
    · exact (h.setPart ..).bump ..
    · split
      · exact h
      · split
        · exact h
        · exact h.tokenize ..

theorem Follows.caseOf (h : Follows o s) (x : Parsed) (k : Slot) (bank : Nat) (rule : Rule) (id : Nat) (key : Bytes) :
    Follows o (s.caseOf x k bank rule id key).2.1 := by
  unfold State.caseOf
  refine .ite_at (fun r : Answer × State × Nat => r.2.1) h (.ite_at (fun r : Answer × State × Nat => r.2.1) h ?_)
  split
  · exact h.byEpoch ..
  · exact .ite_at (fun r : Answer × State × Nat => r.2.1) ((h.bump ..).byEpoch ..)
      (.ite_at (fun r : Answer × State × Nat => r.2.1) (h.nonFirstFragment ..) ((h.firstFragment ..).byEpoch ..))

theorem Follows.countParse (h : Follows o s) (x : Parsed) : Follows o (s.countParse x) := Follows.onlyIf ((h.bump ..).bump ..) fun h1 => h1.bump ..

theorem Follows.parseSlot (h : Follows o s) (k : Slot) : Follows o (s.parseSlot k) := by
  unfold State.parseSlot
  dsimp only
  split
  · exact ((h.takeFromLane ..).countParse ..).unclassified ..
  · refine .ite ?_ ?_
    · exact (((h.takeFromLane ..).countParse ..).bump ..).unclassified ..
    · exact ((((((h.takeFromLane ..).countParse ..).bump ..).update).caseOf ..).addPend ..).settle

theorem LeadsOn.parse (h : Follows o s) : LeadsOn o (execParse s) := by
  unfold execParse
  refine .next (.ite h ?_)
  split
  · exact h
  · exact h.parseSlot ..

/-! ### The Stairwell -/

theorem Follows.setStair (h : Follows o s) (w : Nat) (y : Stair) : Follows o (s.setStair w y) := h.setWing ..

theorem Follows.enterStairs (h : Follows o s) (w : Nat) (k : Packet) : Follows o (s.enterStairs w k) := (h.setWing ..).bump ..

theorem LeadsOn.dispatch (h : Follows o s) : LeadsOn o (execDispatch s) := by
  unfold execDispatch
  refine .next ?_
  split
  · exact h
  · exact Follows.ite h (Follows.ite ((Follows.onlyIf (h.update.bump ..) fun h1 => h1.bump ..).enterStairs ..) (((Follows.onlyIf (h.update.bump ..) fun h1 =>
    h1.bump ..).setWing ..).withhold))

theorem LeadsOn.quotaRelease (h : Follows o s) (wing partition : Nat) : LeadsOn o (execQuotaRelease wing partition s) := by
  unfold execQuotaRelease
  refine .next ?_
  dsimp only
  split
  · exact h
  · exact Follows.ite h ((h.setWing ..).enterStairs ..)

theorem Follows.requestUnit (h : Follows o s) (w p unit : Nat) : Follows o (s.requestUnit w p unit) := Follows.ite h ((h.update.bump ..).pairSend ..)

theorem Follows.sendUnit (h : Follows o s) (w p unit : Nat) : Follows o (s.sendUnit w p unit) := by
  unfold State.sendUnit
  split
  · exact h
  · exact Follows.ite h (h.sendImage ..)

theorem Follows.firstTouch (h : Follows o s) (w p : Nat) (stamp unit : Nat) : Follows o (s.firstTouch w p stamp unit) := h.saveImage ..

theorem Follows.countSquash (h : Follows o s) (w : Nat) (x : Stair) (cause : Nat) : Follows o (s.countSquash w x cause) := (h.bump ..).trace ..

theorem Follows.dropLocks (h : Follows o s) (w id : Nat) : Follows o (s.dropLocks w id) := h.update

theorem LeadsOn.squash (h : Follows o s) (wing entry : Nat) : LeadsOn o (execSquash wing entry s) := by
  unfold execSquash
  refine .next ?_
  split
  · exact h
  · split
    · exact h
    · exact Follows.ite h (((Follows.onlyIf (h.countSquash ..) fun h1 => h1.fire ..).setWing ..).dropLocks ..)

theorem LeadsOn.squashDiscardComplete (h : Follows o s) (wing entry : Nat) : LeadsOn o (execSquashDiscardComplete wing entry s) := by
  unfold execSquashDiscardComplete
  refine .next ?_
  split
  · exact h
  · exact Follows.ite (h.setStair ..) h

theorem Follows.chooseAll (h : Follows o s) (w : Nat) : Follows o (s.chooseAll w) := h.setWing ..

theorem Follows.loseBucket (h : Follows o s) (w p b : Nat) : Follows o (s.loseBucket w p b) :=
  Follows.foldl (fun _ _ h => Follows.ite (h.changeSlot ..) h) ((h.bump ..).setStickyIn _ (by decide))

theorem Follows.lookupReturns (h : Follows o s) (w : Nat) (x : Stair) (result handle gen : Nat) : Follows o (s.lookupReturns w x result handle gen) :=
  Follows.ite ((h.setStair ..).chooseAll ..) (((h.countSquash ..).setStair ..).chooseAll ..)

theorem LeadsOn.lookup (h : Follows o s) (wing entry : Nat) (uncorrectable : Bool) : LeadsOn o (execLookup wing entry uncorrectable s) := by
  unfold execLookup
  refine .next ?_
  split
  · exact h
  · refine .ite h ?_
    split
    · exact h.requestUnit ..
    · dsimp only
      split
      · exact (Follows.ite (h.loseBucket ..) h).lookupReturns ..
      · exact .ite ((Follows.ite (h.loseBucket ..) h).lookupReturns ..) ((Follows.ite (h.loseBucket ..) h).lookupReturns ..)

theorem Follows.cacheAdd (h : Follows o s) (w p h' : Nat) : Follows o (s.cacheAdd w p h') := (h.setWing ..).update

theorem Follows.deliverState (h : Follows o s) (w : Nat) (x : Stair) (b : Bytes) (source : Nat) (from_ : Option Nat) :
    Follows o (s.deliverState w x b source from_) := by
  unfold State.deliverState
  split
  · exact h
  · exact h.setStair ..

theorem Follows.loseState (h : Follows o s) (w : Nat) (x : Stair) : Follows o (s.loseState w x) :=
  Follows.deliverState ((h.bump ..).setStickyIn _ (by decide)) ..

theorem Follows.readState (h : Follows o s) (w : Nat) (x : Stair) (cached cacheBad : Bool) (larderBad : Option Nat) :
    Follows o (s.readState w x cached cacheBad larderBad) := by
  unfold State.readState
  refine .ite (h.deliverState ..) ?_
  dsimp only
  split
  · exact ((Follows.ite ((h.uncache ..).bump ..) h).poisonWord ..).loseState ..
  · refine .ite ?_ ?_
    · exact Follows.loseState ((Follows.ite ((h.uncache ..).bump ..) h).setStickyIn _ (by decide)) ..
    · exact ((Follows.ite ((h.uncache ..).bump ..) h).cacheAdd ..).deliverState ..

theorem LeadsOn.inputState (h : Follows o s) (wing entry : Nat) (cacheBad : Bool) (larderBad : Option Nat) :
    LeadsOn o (execInputState wing entry cacheBad larderBad s) := by
  unfold execInputState
  refine .next ?_
  dsimp only
  split
  · exact h
  · refine .ite h ?_
    split
    · exact h
    · exact Follows.ite (h.requestUnit ..) (h.readState ..)
    · exact Follows.ite (h.requestUnit ..) (h.readState ..)
    · split
      · exact h.deliverState ..
      · split
        · exact Follows.ite (h.deliverState ..) h
        · exact h
      · exact h

theorem LeadsOn.readyToCommit (h : Follows o s) (wing entry : Nat) : LeadsOn o (execReadyToCommit wing entry s) := by
  unfold execReadyToCommit
  refine .next ?_
  split
  · exact h
  · split
    · exact h
    · exact Follows.ite (h.setStair ..) h

theorem Follows.startRollout (h : Follows o s) (w : Nat) (x : Stair) (block : Bytes) : Follows o (s.startRollout w x block) :=
  Follows.ite ((h.bump ..).bump ..) ((h.bump ..).setPart ..)

theorem Follows.commitHit (h : Follows o s) (w : Nat) (x : Stair) : Follows o (s.commitHit w x) :=
  Follows.ite h (Follows.ite (Follows.ite (h.bump ..) (h.setWing ..)) (h.putEntry ..))

theorem Follows.commitState (h : Follows o s) (w : Nat) (x : Stair) (block : Bytes) : Follows o (s.commitState w x block) := by
  unfold State.commitState
  exact .ite h (((((((h.firstTouch ..).firstTouch ..).amendImage ..).amendImage ..).writeBlock ..).cacheAdd ..).commitHit ..)

theorem Follows.mergeMaxima (h : Follows o s) (w : Nat) (x : Stair) (len : Nat) : Follows o (s.mergeMaxima w x len) :=
  ((h.firstTouch ..).amendImage ..).update

theorem Follows.countCommit (h : Follows o s) (w : Nat) (x : Stair) (lookup : Nat) : Follows o (s.countCommit w x lookup) := by
  unfold State.countCommit
  refine Follows.bump (.onlyIf (.onlyIf ?_ fun h => h.bump ..) fun h => h.bump ..) ..
  split
  · exact (((h.bump ..).bump ..).bump ..).bump ..
  · exact (((h.bump ..).bump ..).bump ..).bump ..
  · exact (((h.bump ..).bump ..).bump ..).bump ..
  · exact ((h.bump ..).bump ..).bump ..

theorem Follows.mirror (h : Follows o s) (w : Nat) (x : Stair) (band : Option Nat) (r : VerdictRec) : Follows o (s.mirror w x band r) :=
  Follows.ite (Follows.ite ((h.update.bump ..).exportItem ..) h.update) h

theorem Follows.pushPending (h : Follows o s) (x : Stair) : Follows o (s.pushPending x) := Follows.foldl (fun _ _ h => h.record ..) h

theorem Follows.freeEntry (h : Follows o s) (w : Nat) (x : Stair) : Follows o (s.freeEntry w x) := (h.setWing ..).dropLocks ..

theorem Follows.countRuns (h : Follows o s) (w : Nat) (x : Stair) : Follows o (s.countRuns w x) :=
  Follows.foldl (fun _ _ h => (Follows.foldl (fun _ _ h => h.addCount ..) h).setWing ..) h

theorem Follows.commitCounted (h : Follows o s) (w : Nat) (x : Stair) (v : PendVerdict) : Follows o (s.commitCounted w x v) := by
  have hcounts : ∀ (p q : Prop) [Decidable p] [Decidable q] (b c d : Nat), Follows o (if p then (if q then ((s.countCommit w x x.lookup).bump b).bump c
      else (s.countCommit w x x.lookup).bump b).bump d else if q then ((s.countCommit w x x.lookup).bump b).bump c else (s.countCommit w x x.lookup).bump b) :=
    fun _ _ _ _ _ _ _ => .onlyIf (.onlyIf ((h.countCommit ..).bump ..) fun h => h.bump ..) fun h => h.bump ..
  unfold State.commitCounted
  dsimp only
  split
  · exact (hcounts ..).mergeMaxima ..
  · exact hcounts ..

theorem Follows.commitStored (h : Follows o s) (w : Nat) (x : Stair) (block : Bytes) : Follows o (s.commitStored w x block) :=
  .onlyIf (.onlyIf h fun h => h.commitState ..) fun h => h.learnNotice ..

theorem Follows.commitReported (h : Follows o s) (w : Nat) (x : Stair) (v : PendVerdict) (roll : Bool) (r : VerdictRec) (block : Bytes) :
    Follows o (s.commitReported w x v roll r block) := by
  refine .onlyIf (Follows.mirror (.onlyIf (.onlyIf ?_ fun h => h.startRollout ..) fun h => h.addDigest ..) ..) fun h => h.fire ..
  exact ((Follows.foldl (fun _ _ h => h.addCount ..) h).countRuns ..).pushPending ..

theorem Follows.commitFreed (h : Follows o s) (w : Nat) (x : Stair) (r : VerdictRec) (block : Bytes) : Follows o (s.commitFreed w x r block) :=
  ((h.setWing ..).freeEntry ..).setWing ..

theorem Follows.commitReal (h : Follows o s) (w : Nat) (x : Stair) (v : PendVerdict) : Follows o (s.commitReal w x v) := by
  rw [State.commitReal_eq]
  exact (((h.commitCounted ..).commitStored ..).commitReported ..).commitFreed ..

theorem Follows.commitAbandoned (h : Follows o s) (w : Nat) (x : Stair) : Follows o (s.commitAbandoned w x) :=
  (((Follows.onlyIf (h.countCommit ..) fun h1 => h1.addDigest ..).mirror ..).update).freeEntry ..

theorem LeadsOn.commit (h : Follows o s) (wing entry : Nat) : LeadsOn o (execCommit wing entry s) := by
  unfold execCommit
  refine .next ?_
  dsimp only
  split
  · exact h
  · refine .ite h (.ite (Follows.ite (h.commitAbandoned ..) h) ?_)
    split
    · exact Follows.ite (h.commitReal ..) h
    · exact h

end

end Sys2Proof.Machine
end

section
/-!
PROOFS. What every step keeps: tiles, their words and batches (chapters 08 to 12).
-/
open Sys2Proof Sys2Proof.Machine Sys2Proof.Claims
namespace Sys2Proof.Machine

section
variable {o s : State}

/-! ### Residence of images -/

theorem Follows.setTile (h : Follows o s) (i : Nat) (t : Tile) : Follows o (s.setTile i t) := h.update

theorem Follows.modTile (h : Follows o s) (i : Nat) (f : Tile → Tile) : Follows o (s.modTile i f) := h.setTile ..

theorem Follows.setArr (h : Follows o s) (i a : Nat) (x : MatArray) : Follows o (s.setArr i a x) := h.modTile ..

theorem Follows.tileWrite (h : Follows o s) (i a : Nat) (bs : Bytes) : Follows o (s.tileWrite i a bs) := h.modTile ..

theorem Follows.ownWrite (h : Follows o s) (p i a : Nat) (bs : Bytes) : Follows o (s.ownWrite p i a bs) := Follows.ite h (h.tileWrite ..)

theorem Follows.relocWord (h : Follows o s) (p i a : Nat) : Follows o (s.relocWord p i a) := by
  unfold State.relocWord
  split
  · exact h.ownWrite ..
  · exact h

theorem Follows.fillTile (h : Follows o s) (p i base : Nat) (t : TileImage) : Follows o (s.fillTile p i base t) :=
  Follows.foldl (fun _ _ h => h.relocWord ..) (Follows.foldl (fun _ _ h => h.ownWrite ..) h)

theorem Follows.placeTile (h : Follows o s) (p n : Nat) (epoch : Option Nat) (i : Nat) : Follows o (s.placeTile p n epoch i) := by
  unfold State.placeTile
  dsimp only
  split
  · exact h
  · split
    · exact h
    · exact Follows.unless ((h.fillTile ..).modTile ..) fun h1 => h1.modTile ..

theorem Follows.placeImage (h : Follows o s) (p n : Nat) (epoch : Option Nat) : Follows o (s.placeImage p n epoch) :=
  Follows.foldl (fun _ _ h => h.placeTile ..) h

theorem Follows.tagControls (h : Follows o s) (p n : Nat) (epoch : Option Nat) : Follows o (s.tagControls p n epoch) :=
  Follows.foldl (fun _ _ h => h.modTile ..) h

theorem Follows.modSlot (h : Follows o s) (p n : Nat) (f : ImageSlot → ImageSlot) : Follows o (s.modSlot p n f) := h.modPart ..

theorem Follows.refillUnit (h : Follows o s) (i u : Nat) : Follows o (s.refillUnit i u) := by
  unfold State.refillUnit
  refine .foldl (fun _ _ h => ?_) h
  dsimp only
  split
  · refine .foldl (fun _ _ h => h.relocWord ..) ?_
    refine .foldl (fun _ _ h => Follows.ite (h.ownWrite ..) h) ?_
    split
    · exact Follows.foldl (fun _ _ h => h.relocWord ..) (Follows.foldl (fun _ _ h => Follows.ite (h.ownWrite ..) h) h)
    · exact h
  · split
    · exact Follows.foldl (fun _ _ h => h.relocWord ..) (Follows.foldl (fun _ _ h => Follows.ite (h.ownWrite ..) h) h)
    · exact h

theorem Follows.makeResident (h : Follows o s) (p n : Nat) (high : Bool) (epoch : Option Nat) : Follows o (s.makeResident p n high epoch) :=
  ((Follows.ite (h.modSlot ..) h).modSlot ..).placeImage ..

/-! ### Scales -/

theorem Follows.writeScales (h : Follows o s) (i : Nat) (b : Batch) (c : SlotCfg) : Follows o (s.writeScales i b c) := by
  unfold State.writeScales
  refine .ite h ?_
  split
  · exact h
  · exact h.ownWrite ..

/-! ### Tiles -/

theorem Follows.setBatch (h : Follows o s) (id : Nat) (b : Batch) : Follows o (s.setBatch id b) := h.setWing ..

theorem Follows.dropBatch (h : Follows o s) (id : Nat) : Follows o (s.dropBatch id) := h.setWing ..

theorem Follows.countFor (h : Follows o s) (b : Batch) (id n : Nat) : Follows o (s.countFor b id n) := Follows.ite h (h.bumpFor ..)

theorem Follows.countFault (h : Follows o s) (b : Batch) (q : Issued) (id : Nat) : Follows o (s.countFault b q id) := Follows.ite h (h.addCount ..)

theorem Follows.countBatch (h : Follows o s) (id : Nat) (l : List (Nat × Nat)) : Follows o (s.countBatch id l) := by
  unfold State.countBatch
  split
  · exact Follows.ite h (h.setBatch ..)
  · exact h

theorem Follows.guarded (h : Follows o s) {k : WordOut} (hk : WordFollows o k) (i p : Nat) (xs : List (Nat × Nat)) : WordFollows o (s.guarded i p xs k) :=
  WordFollows.ite (WordFollows.fault h) (WordFollows.ite (WordFollows.fault (h.setStickyIn _ (by decide))) hk)

theorem Follows.unlocked (h : Follows o s) {k : WordOut} (hk : WordFollows o k) (i : Nat) (xs : List (Nat × Nat)) : WordFollows o (s.unlocked i xs k) :=
  WordFollows.ite WordFollows.wait hk

/-- R769: a tile's attribution store changes where the work is no rollout's. -/
theorem Follows.ofAttribution (h : Follows o s) {p : Prop} {_ : Decidable p} {x : Observe} : Follows o (if p then s else { s with obs := x }) :=
  .ite h h.update

theorem Follows.attributeHeads (h : Follows o s) (id : Nat) (b : Batch) : Follows o (s.attributeHeads id b) := by
  unfold State.attributeHeads
  refine .foldl (fun _ _ h => ?_) h
  refine .foldl (fun _ _ h => ?_) h
  split
  · exact Follows.ite h.ofAttribution h
  · exact h

theorem Follows.abandonPacket (h : Follows o s) (w : Nat) (y : Stair) (cause : Nat) : Follows o (s.abandonPacket w y cause) :=
  ((((h.countSquash ..).bump ..).setWing ..).dropLocks ..).chooseAll ..

theorem Follows.faultBatch (h : Follows o s) (id cause : Nat) (excused : Bool) : Follows o (s.faultBatch id cause excused) := by
  unfold State.faultBatch
  split
  · exact h
  · refine .ite h (.ite ?_ ?_)
    · exact Follows.foldl (fun _ _ h => h.abandonPacket ..) ((((h.attributeHeads ..).setBatch ..).fire ..).setStickyIn _ (by decide))
    · exact Follows.foldl (fun _ _ h => Follows.ite (h.setStair ..) h) (((h.attributeHeads ..).setBatch ..).fire ..)

theorem Follows.faultAll (h : Follows o s) (i cause : Nat) (excused : Bool) : Follows o (s.faultAll i cause excused) :=
  Follows.foldl (fun _ _ h => h.faultBatch ..) h

theorem Follows.addToken (h : Follows o s) (i a : Nat) (k n : Nat) : Follows o (s.addToken i a k n) :=
  Follows.ite ((h.setTile ..).faultAll ..) (h.setTile ..)

theorem Follows.takeToken (h : Follows o s) (i a : Nat) (k n : Nat) : Follows o (s.takeToken i a k n) := h.setTile ..

theorem Follows.startWord (h : Follows o s) (i : Nat) (q : Issued) : Follows o (s.startWord i q) := by
  unfold State.startWord
  refine .ite ?_ ?_
  · split
    · exact h.ofAttribution
    · exact h
  · refine Follows.takeToken ?_ ..
    split
    · exact h.ofAttribution
    · exact h

theorem Follows.issueOne (h : Follows o s) (i : Nat) : Follows o (s.issueOne i).1 := by
  unfold State.issueOne
  dsimp only
  split
  · exact h
  · refine .ite_fst h (.ite_fst (h.setTile ..) ?_)
    split
    · exact h.faultBatch ..
    · refine .ite_fst (h.faultBatch ..) (.ite_fst ?_ ?_)
      · exact Follows.faultBatch (h.setStickyIn _ (by decide)) ..
      · exact Follows.ite_fst (h.setTile ..) (Follows.ite_fst h (h.setTile ..))

theorem Follows.pumpFor (h : Follows o s) (i n : Nat) : Follows o (Machine.pump i n s) := by
  induction n generalizing s with
  | zero => exact h
  | succ n ih => exact .ite (ih (h.issueOne ..)) (h.issueOne ..)

theorem Follows.pump (h : Follows o s) (i : Nat) : Follows o (s.pump i) := h.pumpFor i 96

theorem Follows.sendDescs (h : Follows o s) (id : Nat) (tiles : List Nat) : Follows o (s.sendDescs id tiles) :=
  Follows.foldl (fun _ _ h => h.modTile ..) h

theorem Follows.rolloutNext (h : Follows o s) (id : Nat) (b : Batch) (c : SlotCfg) : Follows o (s.rolloutNext id b c) := by
  unfold State.rolloutNext
  refine .ite (h.setBatch ..) ?_
  dsimp only
  split
  · exact h.setBatch ..
  · exact (Follows.foldl (fun _ _ h => h.writeScales ..) (h.setBatch ..)).sendDescs ..

theorem Follows.shareCounts (h : Follows o s) (id : Nat) (b : Batch) : Follows o (s.shareCounts id b) := Follows.ite h (h.setWing ..)

theorem Follows.batchComplete (h : Follows o s) (i id : Nat) (b : Batch) : Follows o (s.batchComplete i id b) := by
  unfold State.batchComplete
  dsimp only
  split
  · exact h.dropBatch ..
  · refine .ite (h.rolloutNext ..) (.ite ((h.bumpFor ..).faultBatch ..) ?_)
    exact (Follows.foldl (fun _ _ h => h.setStair ..) (h.shareCounts ..)).dropBatch ..

theorem Follows.endCheck (h : Follows o s) (i id : Nat) : Follows o (s.endCheck i id) := by
  unfold State.endCheck
  dsimp only
  split
  · exact h
  · exact Follows.ite h (Follows.onlyIf ((h.setTile ..).setBatch ..) fun h1 => h1.batchComplete ..)

theorem Follows.traceWord (h : Follows o s) (i : Nat) (q : Issued) (b : Batch) : Follows o (s.traceWord i q b) :=
  Follows.ite h ((h.trace ..).nextFree)

theorem Follows.completeWord (h : Follows o s) (i : Nat) (q : Issued) (b : Batch) : Follows o (s.completeWord i q b) :=
  ((Follows.ite h (h.addToken ..)).traceWord ..).ofAttribution

theorem Follows.popQueue (h : Follows o s) (i e : Nat) : Follows o (s.popQueue i e) := h.modTile ..

theorem Follows.setTileHealth (h : Follows o s) (i : Nat) (h' : TileHealth) : Follows o (s.setTileHealth i h') := h.update

theorem Follows.countCorrected (h : Follows o s) (i : Nat) (ecc : Ecc) : Follows o (s.countCorrected i ecc) := by
  unfold State.countCorrected
  refine .ite h ?_
  dsimp only
  split
  · exact h.bumpN ..
  · exact (h.bumpN ..).setTileHealth ..

theorem Follows.tileUncorrectable (h : Follows o s) (i : Nat) (ecc : Ecc) : Follows o (s.tileUncorrectable i ecc) := by
  unfold State.tileUncorrectable
  refine Follows.setStickyIn ?_ _ (by decide)
  split
  · exact (h.setTileHealth ..).refillUnit ..
  · exact h.setTileHealth ..

theorem Follows.setQueued (h : Follows o s) (i e n : Nat) (q : Issued) : Follows o (s.setQueued i e n q) := h.modTile ..

theorem Follows.finish (h : Follows o s) {r : WordOut} (hr : WordFollows o r) (i e : Nat) (q : Issued) (b : Batch) : Follows o (s.finish i e q b r) := by
  cases hr with
  | wait => exact h
  | hold => exact h.setQueued ..
  | fault ht => exact (ht.popQueue ..).faultBatch ..
  | done ht => exact (((ht.popQueue ..).completeWord ..).pump ..).endCheck ..

theorem Follows.begun (h : Follows o s) (i : Nat) (q : Issued) : Follows o (s.begun i q) := Follows.ite h (h.startWord ..)

theorem Follows.runWord (h : Follows o s) {body : State → Issued → Batch → WordOut} (hbody : ∀ t q b, Follows o t → WordFollows o (body t q b)) (i e : Nat)
    (mine : TileOp → Bool) (ecc : Ecc) : Follows o (s.runWord i e mine ecc body) := by
  unfold State.runWord
  split
  · exact h
  · next q _ _ =>
    split
    · exact h
    · next b _ =>
      refine .ite h ?_
      have hout := hbody _ q b ((h.begun i q).countCorrected (ecc.at_ i (q.word.op.readTile i)) ecc)
      generalize body ((s.begun i q).countCorrected (ecc.at_ i (q.word.op.readTile i)) ecc) q b = r at hout ⊢
      cases hout with
      | wait => exact h
      | hold => exact (h.begun ..).finish .hold ..
      | fault ht => exact ht.finish (.fault ht) ..
      | done ht => exact .ite (((((h.begun ..).countCorrected ..).popQueue ..).tileUncorrectable ..).faultBatch ..) (ht.finish (.done ht) ..)

/-! ### Arrays -/

theorem Follows.startArray (h : Follows o s) (i a op : Nat) (ecc : Ecc) : Follows o (s.startArray i a op ecc) := by
  unfold State.startArray
  split
  · exact h
  · split
    · exact h
    · refine .ite h (.ite ?_ ?_)
      · exact ((((h.startWord ..).countCorrected ..).popQueue ..).countFault ..).faultBatch ..
      · refine .ite ?_ ?_
        · exact ((((h.startWord ..).countCorrected ..).popQueue ..).tileUncorrectable ..).faultBatch ..
        · exact ((((h.startWord ..).countCorrected ..).popQueue ..).setArr ..).pump ..

theorem LeadsOn.mma (h : Follows o s) (tile array : Nat) (ecc : Ecc) : LeadsOn o (execMma tile array ecc s) := .next (h.startArray ..)

theorem LeadsOn.sel (h : Follows o s) (tile array : Nat) (ecc : Ecc) : LeadsOn o (execSel tile array ecc s) := .next (h.startArray ..)

theorem LeadsOn.dist (h : Follows o s) (tile array : Nat) (ecc : Ecc) : LeadsOn o (execDist tile array ecc s) := .next (h.startArray ..)

theorem Follows.completePass (h : Follows o s) (i a : Nat) (p : Pass) (b : Batch) : Follows o (s.completePass i a p b) :=
  ((((((h.setArr ..).countBatch ..).countFor ..).ofAttribution).completeWord ..).pump ..).endCheck ..

theorem LeadsOn.passComplete (h : Follows o s) (tile array : Nat) : LeadsOn o (execPassComplete tile array s) := by
  unfold execPassComplete
  refine .next ?_
  split
  · exact h
  · split
    · exact Follows.ite (h.completePass ..) h
    · exact h

theorem LeadsOn.formChange (h : Follows o s) (tile array : Nat) : LeadsOn o (execFormChange tile array s) := by
  unfold execFormChange
  refine .next ?_
  dsimp only
  split
  · exact h
  · exact Follows.ite h ((h.setArr ..).countBatch ..)

theorem LeadsOn.rampUp (h : Follows o s) (tile array : Nat) : LeadsOn o (execRampUp tile array s) := by
  unfold execRampUp
  refine .next ?_
  dsimp only
  split
  · exact h
  · exact Follows.ite h ((h.setArr ..).countBatch ..)

theorem LeadsOn.rampDown (h : Follows o s) (tile array : Nat) : LeadsOn o (execRampDown tile array s) := .next (Follows.ite h (h.setArr ..))

theorem LeadsOn.tagHold (h : Follows o s) (tile array : Nat) : LeadsOn o (execTagHold tile array s) := by
  unfold execTagHold
  refine .next ?_
  dsimp only
  split
  · exact Follows.ite (h.setArr ..) h
  · exact h

theorem LeadsOn.tagMismatch (h : Follows o s) (tile array : Nat) : LeadsOn o (execTagMismatch tile array s) := by
  unfold execTagMismatch
  refine .next ?_
  dsimp only
  split
  · refine .ite h (Follows.faultBatch (Follows.setStickyIn ?_ _ (by decide)) ..)
    split
    · exact h.countFault ..
    · exact h
  · exact h

/-! ### The Post unit -/

theorem Follows.readBuffer (h : Follows o s) (i : Nat) (p : PostOp) : Follows o (s.readBuffer i p) := Follows.ite h (h.setArr ..)

theorem Follows.addRow (h : Follows o s) (q : Issued) (b : Batch) (r : Nat) (l : List (Nat × Nat)) (site : Nat) (m : Option F32) :
    Follows o (s.addRow q b r l site m) := by
  unfold State.addRow
  split
  · exact h
  · exact h.setStair ..

theorem Follows.countRow (h : Follows o s) (i : Nat) (q : Issued) (b : Batch) (r : Nat) (c : RowCount) (site clip : Nat) :
    Follows o (s.countRow i q b r c site clip) :=
  Follows.ite (h.addCount ..) (Follows.ite (h.countBatch ..) (h.addRow ..))

theorem Follows.countOthers (h : Follows o s) (i : Nat) (q : Issued) (b : Batch) (cs : List (Nat × RowCount)) : Follows o (s.countOthers i q b cs) :=
  Follows.foldl (fun _ _ h => h.countRow ..) h

theorem Follows.pipeRow (h : Follows o s) (i : Nat) (q : Issued) (b : Batch) (c : PipeCfg) (dst step : Nat) (r : PostRow) :
    Follows o (s.pipeRow i q b c dst step r) := by
  unfold State.pipeRow
  dsimp only
  split
  · exact (Follows.ite (h.tileWrite ..) ((h.tileWrite ..).modTile ..)).countRow ..
  · exact (h.tileWrite ..).countRow ..

theorem Follows.pipeWord (h : Follows o s) (i : Nat) (q : Issued) (b : Batch) : WordFollows o (Machine.pipeWord i s q b) := by
  unfold Machine.pipeWord
  split
  · refine .ite (WordFollows.fault h) (.ite (WordFollows.fault (h.countFault ..)) ?_)
    split
    · exact WordFollows.wait
    · refine .ite (WordFollows.fault (h.countFault ..)) ?_
      exact h.guarded (h.unlocked (WordFollows.done (((Follows.foldl (fun _ _ h => h.pipeRow ..) h).countOthers ..).readBuffer ..)) ..) ..
  · exact WordFollows.wait

theorem LeadsOn.pipe (h : Follows o s) (tile : Nat) (ecc : Ecc) : LeadsOn o (execPipe tile ecc s) :=
  .next (h.runWord (fun _ _ _ h => h.pipeWord ..) ..)

theorem Follows.groupOne (h : Follows o s) (i : Nat) (q : Issued) (b : Batch) (y : ScaleSet) (dyn : Option F32) (first : Bool) (dst step : Nat) (r : PostRow) :
    Follows o (s.groupOne i q b y dyn first dst step r) :=
  (h.tileWrite ..).countRow ..

theorem Follows.groupWord (h : Follows o s) (i : Nat) (q : Issued) (b : Batch) : WordFollows o (Machine.groupWord i s q b) := by
  unfold Machine.groupWord
  split
  · refine .ite (WordFollows.fault h) ?_
    split
    · exact WordFollows.wait
    · exact h.guarded (h.unlocked (WordFollows.done (((Follows.foldl (fun _ _ h => h.groupOne ..) h).countOthers ..).readBuffer ..)) ..) ..
  · exact WordFollows.wait

theorem LeadsOn.group (h : Follows o s) (tile : Nat) (ecc : Ecc) : LeadsOn o (execGroup tile ecc s) :=
  .next (h.runWord (fun _ _ _ h => h.groupWord ..) ..)

theorem Follows.topkRow (h : Follows o s) (i : Nat) (q : Issued) (b : Batch) (p : PostOp) (a : Nat) (r : PostRow) : Follows o (s.topkRow i q b p a r) :=
  (h.tileWrite ..).countRow ..

theorem Follows.topkWord (h : Follows o s) (i : Nat) (q : Issued) (b : Batch) : WordFollows o (Machine.topkWord i s q b) := by
  unfold Machine.topkWord
  split
  · split
    · exact WordFollows.wait
    · exact h.guarded (h.unlocked (WordFollows.done (((Follows.foldl (fun _ _ h => h.topkRow ..) h).countOthers ..).readBuffer ..)) ..) ..
  · exact WordFollows.wait

theorem LeadsOn.topk (h : Follows o s) (tile : Nat) (ecc : Ecc) : LeadsOn o (execTopk tile ecc s) :=
  .next (h.runWord (fun _ _ _ h => h.topkWord ..) ..)

theorem Follows.linkRow (h : Follows o s) (i : Nat) (q : Issued) (b : Batch) (p : PostOp) (r : PostRow) : Follows o (s.linkRow i q b p r) :=
  ((h.tileWrite ..).tileWrite ..).countRow ..

theorem Follows.linkWord (h : Follows o s) (i : Nat) (q : Issued) (b : Batch) : WordFollows o (Machine.linkWord i s q b) := by
  unfold Machine.linkWord
  split
  · refine .ite (WordFollows.fault h) ?_
    exact h.guarded (h.unlocked (WordFollows.done ((Follows.foldl (fun _ _ h => h.linkRow ..) h).countOthers ..)) ..) ..
  · exact WordFollows.wait

theorem LeadsOn.link (h : Follows o s) (tile : Nat) (ecc : Ecc) : LeadsOn o (execLink tile ecc s) :=
  .next (h.runWord (fun _ _ _ h => h.linkWord ..) ..)

theorem Follows.countRows (h : Follows o s) (i : Nat) (q : Issued) (b : Batch) (r : Nat) : Follows o (s.countRows i q b r) :=
  Follows.ite h (h.addRow ..)

theorem Follows.checkWord (h : Follows o s) (i : Nat) (q : Issued) (b : Batch) : WordFollows o (Machine.checkWord i s q b) := by
  unfold Machine.checkWord
  refine .ite (WordFollows.done (h.setTile ..)) ?_
  split
  · exact WordFollows.done ((h.setTile ..).countBatch ..)
  · refine .ite (WordFollows.done (h.setTile ..)) ?_
    exact WordFollows.done (Follows.foldl (fun _ _ h => h.countRows ..) ((h.setTile ..).countBatch ..))

theorem LeadsOn.check (h : Follows o s) (tile : Nat) : LeadsOn o (execCheck tile s) := .next (h.runWord (fun _ _ _ h => h.checkWord ..) ..)

theorem Follows.verdictWord (h : Follows o s) (i : Nat) (q : Issued) (b : Batch) : WordFollows o (Machine.verdictWord i s q b) := by
  unfold Machine.verdictWord
  split
  · dsimp only
    split
    · refine .ite (.fault (h.bumpFor ..)) (h.guarded (.done (Follows.readBuffer (.foldl (fun _ _ h => ?_) h) ..)) ..)
      split
      · exact (h.setStair ..).countRow ..
      · exact h
    · exact .wait
  · exact .wait

theorem LeadsOn.verdict (h : Follows o s) (tile : Nat) (ecc : Ecc) : LeadsOn o (execVerdict tile ecc s) :=
  .next (h.runWord (fun _ _ _ h => h.verdictWord ..) ..)

theorem Follows.tableWord (h : Follows o s) (i : Nat) (q : Issued) (b : Batch) : WordFollows o (Machine.tableWord i s q b) := by
  unfold Machine.tableWord
  split
  · refine .ite ?_ ?_
    · exact h.guarded (WordFollows.ite (WordFollows.done (h.modTile ..)) (WordFollows.fault (h.countFault ..))) ..
    · exact h.guarded (WordFollows.ite (WordFollows.done (h.modTile ..)) (WordFollows.fault (h.countFault ..))) ..
  · exact WordFollows.wait

theorem LeadsOn.table (h : Follows o s) (tile : Nat) (ecc : Ecc) : LeadsOn o (execTable tile ecc s) :=
  .next (h.runWord (fun _ _ _ h => h.tableWord ..) ..)

theorem Follows.treeWord (h : Follows o s) (i : Nat) (q : Issued) (b : Batch) : WordFollows o (Machine.treeWord i s q b) := by
  unfold Machine.treeWord
  split
  · refine Follows.guarded h (Follows.guarded h (Follows.unlocked h ?_ ..) ..) ..
    split
    · exact WordFollows.fault (h.bumpFor ..)
    · exact WordFollows.done (Follows.foldl (fun _ _ h => (Follows.ite (h.tileWrite ..) h).countRow ..) h)
  · exact WordFollows.wait

theorem LeadsOn.tree (h : Follows o s) (tile : Nat) (ecc : Ecc) : LeadsOn o (execTree tile ecc s) :=
  .next (h.runWord (fun _ _ _ h => h.treeWord ..) ..)

/-! ### Moves of bytes -/

theorem Follows.inWindow (h : Follows o s) {k : WordOut} (hk : WordFollows o k) (i : Nat) (b : Batch) (d : DramWindow) (xs : List (Nat × Nat)) :
    WordFollows o (s.inWindow i b d xs k) := by
  unfold State.inWindow
  refine .ite ?_ ?_
  · exact WordFollows.fault (h.setStickyIn _ (by decide))
  · exact WordFollows.ite (WordFollows.fault h) (WordFollows.ite (WordFollows.fault (h.setStickyIn _ (by decide))) hk)

theorem Follows.dramFault (h : Follows o s) (w p a : Nat) : Follows o (s.dramFault w p a) :=
  ((Follows.ite h h.update).bump ..).setStickyIn _ (by decide)

theorem Follows.regionWrite (h : Follows o s) (w p a : Nat) (bs : Bytes) : Follows o (s.regionWrite w p a bs) := h.update.setWing ..

theorem Follows.ownTile (h : Follows o s) {k : WordOut} (hk : WordFollows o k) (i : Nat) (b : Batch) (j : Nat) : WordFollows o (s.ownTile i b j k) :=
  WordFollows.ite hk (WordFollows.fault (h.setStickyIn _ (by decide)))

theorem Follows.loadWord (h : Follows o s) (i : Nat) (bad : Option Nat) (q : Issued) (b : Batch) : WordFollows o (Machine.loadWord i bad s q b) := by
  unfold Machine.loadWord
  split
  · refine Follows.guarded h (.ite ?_ ?_) ..
    · exact h.ownTile (h.guarded (h.unlocked (WordFollows.done (h.tileWrite ..)) ..) ..) ..
    · refine Follows.inWindow h (Follows.unlocked h ?_ ..) ..
      split
      · exact WordFollows.fault (h.dramFault ..)
      · exact WordFollows.fault (h.dramFault ..)
      · exact WordFollows.done (h.tileWrite ..)
  · exact WordFollows.wait

theorem LeadsOn.load (h : Follows o s) (tile : Nat) (ecc : Ecc) (dramBad : Option Nat) : LeadsOn o (execLoad tile ecc dramBad s) :=
  .next (h.runWord (fun _ _ _ h => h.loadWord ..) ..)

theorem Follows.gatherRows (h : Follows o s) (i w p base units dst k : Nat) (rows : List Nat) :
    Follows o (Machine.gatherRows s i w p base units dst k rows) := by
  induction rows generalizing s k with
  | nil => exact h
  | cons x rows ih => exact ih (h.tileWrite ..) (k + 1)

theorem Follows.gatherWord (h : Follows o s) (i : Nat) (bad : Option Nat) (q : Issued) (b : Batch) : WordFollows o (Machine.gatherWord i bad s q b) := by
  unfold Machine.gatherWord
  split
  · refine Follows.guarded h (Follows.inWindow h (Follows.unlocked h ?_ ..) ..) ..
    split
    · exact WordFollows.fault (h.dramFault ..)
    · exact WordFollows.fault (h.dramFault ..)
    · exact WordFollows.done (h.gatherRows ..)
  · exact WordFollows.wait

theorem LeadsOn.gather (h : Follows o s) (tile : Nat) (ecc : Ecc) (dramBad : Option Nat) : LeadsOn o (execGather tile ecc dramBad s) :=
  .next (h.runWord (fun _ _ _ h => h.gatherWord ..) ..)

theorem Follows.storeWord (h : Follows o s) (i : Nat) (q : Issued) (b : Batch) : WordFollows o (Machine.storeWord i s q b) := by
  unfold Machine.storeWord
  split
  · exact h.guarded (WordFollows.ite (h.ownTile (h.guarded (h.unlocked (WordFollows.done (h.tileWrite ..)) ..) ..) ..) (h.inWindow (WordFollows.done
    (h.regionWrite ..)) ..)) ..
  · exact WordFollows.wait

theorem LeadsOn.store (h : Follows o s) (tile : Nat) (ecc : Ecc) : LeadsOn o (execStore tile ecc s) :=
  .next (h.runWord (fun _ _ _ h => h.storeWord ..) ..)

theorem Follows.pendingWord (h : Follows o s) (i : Nat) (q : Issued) (b : Batch) : WordFollows o (Machine.pendingWord i s q b) := by
  unfold Machine.pendingWord
  split
  · refine Follows.guarded h (.ite (WordFollows.fault h) ?_) ..
    dsimp only
    split
    · exact WordFollows.done (h.setStair ..)
    · exact WordFollows.done h
  · exact WordFollows.wait

theorem LeadsOn.pending (h : Follows o s) (tile : Nat) (ecc : Ecc) : LeadsOn o (execPending tile ecc s) :=
  .next (h.runWord (fun _ _ _ h => h.pendingWord ..) ..)

theorem Follows.writeFlow (h : Follows o s) (i a : Nat) (c : SlotCfg) (tok : List (BitVec 16)) : Follows o (s.writeFlow i a c tok) :=
  Follows.foldl (fun _ _ h => h.tileWrite ..) h

theorem Follows.stateRow (h : Follows o s) (i : Nat) (c : SlotCfg) (blockAt tokenAt : Nat) (r : RowState) : Follows o (s.stateRow i c blockAt tokenAt r) := by
  unfold State.stateRow
  split
  · exact (h.tileWrite ..).writeFlow ..
  · exact h.tileWrite ..
  · exact h

theorem Follows.stateInWord (h : Follows o s) (i : Nat) (q : Issued) (b : Batch) : WordFollows o (Machine.stateInWord i s q b) := by
  unfold Machine.stateInWord
  split
  · refine .ite (WordFollows.fault h) ?_
    exact h.guarded (WordFollows.ite WordFollows.hold (h.unlocked (WordFollows.done ((Follows.foldl (fun _ _ h => h.stateRow ..) h).setBatch ..)) ..)) ..
  · exact WordFollows.wait

theorem LeadsOn.stateIn (h : Follows o s) (tile : Nat) (ecc : Ecc) : LeadsOn o (execStateIn tile ecc s) :=
  .next (h.runWord (fun _ _ _ h => h.stateInWord ..) ..)

theorem Follows.releaseRow (h : Follows o s) (i id : Nat) (img : Image) (blockAt size r : Nat) (x : RowState) :
    Follows o (s.releaseRow i id img blockAt size r x) := by
  unfold State.releaseRow
  dsimp only
  split
  · exact ((h.setStair ..).tileWrite ..).modTile ..
  · split
    · exact (h.setBatch ..).tileWrite ..
    · exact h
  · exact h

theorem Follows.stateOutWord (h : Follows o s) (i : Nat) (q : Issued) (b : Batch) : WordFollows o (Machine.stateOutWord i s q b) := by
  unfold Machine.stateOutWord
  split
  · refine .ite (WordFollows.fault h) ?_
    exact h.guarded (WordFollows.ite WordFollows.wait (h.unlocked (WordFollows.done (Follows.foldl (fun _ _ h => h.releaseRow ..) (h.setBatch ..))) ..)) ..
  · exact WordFollows.wait

theorem LeadsOn.stateRelease (h : Follows o s) (tile : Nat) (ecc : Ecc) : LeadsOn o (execStateRelease tile ecc s) :=
  .next (h.runWord (fun _ _ _ h => h.stateOutWord ..) ..)

theorem Follows.reduceWord (h : Follows o s) (i : Nat) (q : Issued) (b : Batch) : WordFollows o (Machine.reduceWord i s q b) := by
  unfold Machine.reduceWord
  split
  · exact h.guarded (WordFollows.ite WordFollows.hold (h.unlocked (WordFollows.done ((h.takeToken ..).tileWrite ..)) ..)) ..
  · exact WordFollows.wait

theorem LeadsOn.reduce (h : Follows o s) (tile : Nat) (ecc : Ecc) : LeadsOn o (execReduce tile ecc s) :=
  .next (h.runWord (fun _ _ _ h => h.reduceWord ..) ..)

theorem Follows.syncWord (h : Follows o s) (i : Nat) (q : Issued) (b : Batch) : WordFollows o (Machine.syncWord i s q b) := by
  unfold Machine.syncWord
  split
  · refine .ite ?_ ?_
    · exact WordFollows.fault (h.setStickyIn _ (by decide))
    · exact WordFollows.done (Follows.foldl (fun _ _ h => h.addToken ..) h)
  · exact WordFollows.wait

theorem LeadsOn.sync (h : Follows o s) (tile : Nat) : LeadsOn o (execSync tile s) := .next (h.runWord (fun _ _ _ h => h.syncWord ..) ..)

theorem Follows.seqDone (h : Follows o s) (i : Nat) (q : Issued) (b : Batch) : Follows o (s.seqDone i q b) :=
  (((h.modTile ..).completeWord ..).pump ..).endCheck ..

theorem LeadsOn.wait (h : Follows o s) (tile : Nat) : LeadsOn o (execWait tile s) := by
  unfold execWait
  refine .next ?_
  dsimp only
  split
  · exact h
  · split
    · exact Follows.ite h (Follows.ite ((h.begun ..).modTile ..) (((h.begun ..).takeToken ..).seqDone ..))
    · exact h

theorem LeadsOn.mark (h : Follows o s) (tile : Nat) : LeadsOn o (execMark tile s) := by
  unfold execMark
  refine .next ?_
  split
  · exact h
  · split
    · exact Follows.ite h ((Follows.onlyIf ((h.startWord ..).trace ..) fun h1 => h1.fireIn ..).seqDone ..)
    · exact h

/-! ### Batches -/

theorem Follows.writeTokens (h : Follows o s) (w i : Nat) (b : Batch) (c : SlotCfg) : Follows o (s.writeTokens w i b c) := by
  unfold State.writeTokens
  refine .foldl (fun _ _ h => ?_) h
  split
  · split
    · exact h.ownWrite ..
    · exact h
  · exact h

theorem Follows.sendBatch (h : Follows o s) (w id : Nat) (b : Batch) (c : SlotCfg) : Follows o (s.sendBatch w id b c) :=
  (Follows.foldl (fun _ _ h => (h.writeTokens ..).writeScales ..) (h.setBatch ..)).sendDescs ..

theorem Follows.newBatch (h : Follows o s) (w : Nat) (b : Batch) : Follows o (s.newBatch w b).1 := h.update.setWing ..

theorem LeadsOn.batchClose (h : Follows o s) (wing partition modelSlot : Nat) (graph : GraphKind) (stage : Nat) (place : Placement) :
    LeadsOn o (execBatchClose wing partition modelSlot graph stage place s) := by
  unfold execBatchClose
  refine .next ?_
  dsimp only
  split
  · exact h
  · split
    · exact h
    · split
      · exact h
      · exact Follows.ite h (Follows.onlyIf (Follows.foldl (fun _ _ h => h.setStair ..) (h.newBatch ..)) fun h1 => h1.sendBatch ..)

theorem LeadsOn.settleWait (h : Follows o s) (wing batch : Nat) : LeadsOn o (execSettleWait wing batch s) := by
  unfold execSettleWait
  refine .next ?_
  dsimp only
  split
  · exact h
  · split
    · exact h
    · exact Follows.ite h (h.sendBatch ..)

theorem Follows.startProgram (h : Follows o s) (i id : Nat) (b : Batch) (c : ControlSet) : Follows o (s.startProgram i id b c) :=
  (((Follows.ite (h.countFor ..) h).setTile ..).pump ..).endCheck ..

theorem LeadsOn.batchDescriptor (h : Follows o s) (tile : Nat) (ecc : Ecc) : LeadsOn o (execBatchDescriptor tile ecc s) := by
  unfold execBatchDescriptor
  refine .next ?_
  dsimp only
  split
  · split
    · exact h.setTile ..
    · split
      · exact h
      · refine .ite h (.ite ?_ ((h.countCorrected ..).startProgram ..))
        exact (((h.countCorrected ..).tileUncorrectable ..).setTile ..).faultBatch ..
  · exact h

theorem Follows.recallAll (h : Follows o s) (w i : Nat) : Follows o (s.recallAll w i) := h.setWing ..

theorem LeadsOn.quiesce (h : Follows o s) (tile : Nat) : LeadsOn o (execQuiesce tile s) :=
  .next (Follows.ite h (((h.modTile ..).recallAll ..).recallAll ..))

theorem Follows.dropRollouts (h : Follows o s) (p id w : Nat) : Follows o (s.dropRollouts p id w) := h.modPart ..

theorem Follows.reissue (h : Follows o s) (w id : Nat) (b : Batch) (c : SlotCfg) (rows : List BatchRow) : Follows o (s.reissue w id b c rows) := by
  unfold State.reissue
  refine Follows.sendBatch (.foldl (fun _ _ h => ?_) h) ..
  split
  · split
    · exact h.setStair ..
    · exact h
  · exact h

theorem LeadsOn.reissue (h : Follows o s) (wing batch : Nat) : LeadsOn o (execReissue wing batch s) := by
  unfold execReissue
  refine .next ?_
  dsimp only
  split
  · exact h
  · split
    · exact Follows.ite (h.dropBatch ..) h
    · exact .ite h (Follows.ite ((h.dropRollouts ..).dropBatch ..) (Follows.ite h (Follows.ite (h.dropBatch ..) (h.reissue ..))))

theorem LeadsOn.rolloutBatch (h : Follows o s) (wing partition modelSlot : Nat) (plan : List Placement) :
    LeadsOn o (execRolloutBatch wing partition modelSlot plan s) := by
  unfold execRolloutBatch
  refine .next ?_
  dsimp only
  split
  · exact h
  · split
    · exact (h.setPart ..).bumpN ..
    · split
      · exact Follows.ite h (Follows.onlyIf ((h.newBatch ..).setPart ..) fun h1 => h1.sendBatch ..)
      · exact h

theorem LeadsOn.rolloutRecord (h : Follows o s) (wing batch : Nat) : LeadsOn o (execRolloutRecord wing batch s) := by
  unfold execRolloutRecord
  refine .next ?_
  dsimp only
  split
  · exact h
  · split
    · exact .ite h (.ite ((((h.bump ..).record ..).modPart ..).dropBatch ..) ((((h.bump ..).record ..).modPart ..).setBatch ..))
    · exact h

end

end Sys2Proof.Machine
end

section
/-!
PROOFS. What every step keeps: observation, health, boot, table commands, feeders, waits and dumps (chapters 06, 17, 21 to 24).
-/
open Sys2Proof Sys2Proof.Machine Sys2Proof.Claims
namespace Sys2Proof.Machine

section
variable {o s : State}

/-! ### Observation -/

theorem LeadsOn.counterRead (h : Follows o s) (c : CmdIn) (firstId count : Nat) : LeadsOn o (execCounterRead c firstId count s) :=
  .next (h.runRead ..)

theorem Follows.listSnap (h : Follows o s) (x : Snap) : Follows o (s.listSnap x) := h.update

theorem Follows.beginSnap (h : Follows o s) (x : Snap) : Follows o (s.beginSnap x) := Follows.foldl (fun _ _ h => h.enqueue ..) (h.listSnap ..)

theorem LeadsOn.snapshot (h : Follows o s) (c : CmdIn) (toHost : Bool) (atNt hostAddr length : Nat) :
    LeadsOn o (execSnapshot c toHost atNt hostAddr length s) := by
  unfold execSnapshot
  refine .next (Follows.runCmd h (fun _ _ h => ?_) ..)
  refine .ite_snd h ?_
  split
  · exact h
  · exact Follows.ite_snd h (Follows.ite_snd h (Follows.ite_snd h (h.beginSnap ..)))

theorem Follows.exportTelemetry (h : Follows o s) (x : Snap) : Follows o (s.exportTelemetry x) := Follows.foldl (fun _ _ h => h.exportItem ..) h

theorem Follows.finishSnap (h : Follows o s) (x : Snap) : Follows o (s.finishSnap x) := by
  unfold State.finishSnap
  refine Follows.update ?_
  split
  · exact Follows.ite (((Follows.onlyIf (h.update.bump ..) fun h1 => h1.bump ..).hostOut ..).complete ..) ((Follows.onlyIf (h.update.bump ..) fun h1 =>
    h1.bump ..).setFunc ..)
  · exact (Follows.foldl (fun _ _ h => h.setFunc ..) (Follows.onlyIf (h.update.bump ..) fun h1 => h1.bump ..)).exportTelemetry ..

theorem Follows.requeueSnap (h : Follows o s) (b : Nat) (o' : Occ) : Follows o (s.requeueSnap b o') :=
  Follows.ite h ((Follows.ite h (h.listSnap ..)).enqueue ..)

theorem LeadsOn.snapshotCopy (h : Follows o s) (block : Nat) : LeadsOn o (execSnapshotCopy block s) := by
  unfold execSnapshotCopy
  refine .next ?_
  split
  · exact h
  · refine .ite h ?_
    dsimp only
    split
    · exact (h.startOcc ..).requeueSnap ..
    · exact Follows.onlyIf (((h.startOcc ..).requeueSnap ..).update) fun h1 => h1.finishSnap ..

theorem LeadsOn.periodicSnapshot (h : Follows o s) : LeadsOn o (execPeriodicSnapshot s) := by
  unfold execPeriodicSnapshot
  refine .next (.ite h ?_)
  split
  · exact Follows.ite h (h.beginSnap ..)
  · exact Follows.ite (h.finishSnap ..) h

theorem LeadsOn.snapshotWindowSwap (h : Follows o s) (fn : Nat) : LeadsOn o (execSnapshotWindowSwap fn s) := by
  unfold execSnapshotWindowSwap
  refine .next (Follows.whenFree h ?_)
  dsimp only
  split
  · exact h
  · split
    · exact (h.setFunc ..).complete ..
    · exact h.setFunc ..

theorem LeadsOn.traceConfig (h : Follows o s) (c : CmdIn) (buffer : Nat) (enable : Bool) (triggerMask postRecords stallThreshold : Nat) :
    LeadsOn o (execTraceConfig c buffer enable triggerMask postRecords stallThreshold s) :=
  .next (h.runNow (fun _ _ h => Follows.ite_snd h (Follows.foldl (fun _ _ h => h.setBuf ..) h)) ..)

theorem LeadsOn.traceRelease (h : Follows o s) (c : CmdIn) (buffer : Nat) : LeadsOn o (execTraceRelease c buffer s) :=
  .next (h.runNow (fun _ _ h => Follows.ite_snd h (Follows.ite_snd h (Follows.foldl (fun _ _ h => h.setBuf ..) h))) ..)

theorem Follows.sendEntry (h : Follows o s) (x : Ring) (rec : TraceRec) : Follows o (s.sendEntry x rec) :=
  Follows.ite ((h.setFunc ..).slotOut ..) (h.dma ..)

theorem Follows.sendDrain (h : Follows o s) (b r : Nat) : Follows o (s.sendDrain b r) := by
  unfold State.sendDrain
  split
  · exact Follows.ite (h.setBuf ..) (Follows.ite h (Follows.onlyIf (((h.setBuf ..).sendEntry ..).modRing ..) fun h1 => h1.sendRingVector ..))
  · exact h

theorem Follows.writeRec (h : Follows o s) (b : Nat) (streams : Bool) (t : TraceBuf) (r : TraceRec) : Follows o (s.writeRec b streams t r) :=
  Follows.onlyIf (Follows.onlyIf (Follows.ite (Follows.ite (h.setBuf ..) ((h.setBuf ..).bump ..)) ((h.setBuf ..).bump ..)) fun h1 => h1.bump ..) fun h1 =>
    h1.fireIn ..

theorem LeadsOn.traceRecord (h : Follows o s) (buffer : Nat) : LeadsOn o (execTraceRecord buffer s) := by
  unfold execTraceRecord
  refine .next (.ite h ?_)
  dsimp only
  split
  · refine Follows.sendDrain (.ite h ?_) ..
    split
    · exact h
    · exact h.writeRec ..
  · refine .ite h ?_
    split
    · exact h
    · exact h.writeRec ..

/-! ### Health -/

theorem Follows.setSection (h : Follows o s) (die k : Nat) (x : MantelSec) : Follows o (s.setSection die k x) := h.update

theorem Follows.setLedger (h : Follows o s) (die k : Nat) (d : List (List Nat)) : Follows o (s.setLedger die k d) := h.setSection ..

theorem Follows.setSummary (h : Follows o s) (die : Nat) (v : Nat × Nat × Nat) : Follows o (s.setSummary die v) := h.setLedger ..

theorem Follows.action (h : Follows o s) (die kind : Nat) (loc result : Nat) : Follows o (s.action die kind loc result) :=
  (h.setLedger ..).setLedger ..

theorem Follows.noteMargin (h : Follows o s) (lane margin : Nat) : Follows o (s.noteMargin lane margin) := h.update

theorem Follows.closeMargins (h : Follows o s) : Follows o s.closeMargins := (h.setLedger ..).update

theorem LeadsOn.mantelWrite (h : Follows o s) (die sect : Nat) (ok alarm : Bool) : LeadsOn o (execMantelWrite die sect ok alarm s) := by
  unfold execMantelWrite
  refine .next (h.whenFree (.ite h ?_))
  dsimp only
  have halarm : Follows o (if (alarm && (sect == secMargin || sect == secAging)) = true then s.setSticky 204 else s) := .ite (h.setSticky (by decide)) h
  generalize (if (alarm && (sect == secMargin || sect == secAging)) = true then s.setSticky 204 else s) = t at halarm ⊢
  generalize t.summary die = v
  have hhour : Follows o (if sect = secSummary then t.setSummary die (v.1 + 1, v.2.1, v.2.2) else t) := .ite (halarm.setSummary ..) halarm
  generalize (if sect = secSummary then t.setSummary die (v.1 + 1, v.2.1, v.2.2) else t) = u at hhour ⊢
  have hday : Follows o (if (sect == secLanes && die == 0) = true then u.closeMargins else u) := .ite hhour.closeMargins hhour
  exact .ite ((hday.setSection ..).bump ..) (.ite ((hday.setSection ..).setSticky (by decide)) (hday.setSection ..))

theorem LeadsOn.mantelRead (h : Follows o s) (c : CmdIn) (die sect offset : Nat) : LeadsOn o (execMantelRead c die sect offset s) :=
  .next (h.runRead ..)

/-- R116: the bit of a lane at its least margin is that of one of at most 48 lanes. -/
theorem Follows.laneInterval (h : Follows o s) {n : Nat} (hn : n < 48) (margins : List (Nat × Nat × Nat)) : Follows o (s.laneInterval n margins) := by
  have hbit : ¬ reservedSticky (48 + n) := notReserved_of_lt (Nat.add_lt_add_left hn 48) (by decide)
  unfold State.laneInterval
  exact .ite (h.setLane ..) (.ite (.ite ((((h.setLane ..).noteMargin ..).setLane ..).bump _ |>.setSticky hbit)
    ((((h.setLane ..).noteMargin ..).setLane ..).bump _))
    ((h.setLane ..).noteMargin ..))

theorem Follows.crossInterval (h : Follows o s) (n : Nat) : Follows o (s.crossInterval n) := by
  unfold State.crossInterval
  dsimp only
  split
  · exact h
  · exact .ite (h.setLane ..) (Follows.ite (h.setLane ..) (Follows.bump ((h.setLane ..).setSticky (by decide)) ..))

theorem LeadsOn.interval1ms (h : Follows o s) (block : Nat) (margins : List (Nat × Nat × Nat)) : LeadsOn o (execInterval1ms block margins s) := by
  unfold execInterval1ms
  refine .next ?_
  split
  · exact h
  · refine .ite (.foldl (fun _ _ h => h.noteMargin ..) (.foldl_mem (fun _ _ hn h => (h.laneInterval ?_ _).crossInterval ..) ((h.startOcc ..).enqueue ..)))
      ((h.startOcc ..).enqueue ..)
    exact (List.mem_range.1 hn).trans_le (State.lanesN_le _)

theorem LeadsOn.stickyRead (h : Follows o s) (c : CmdIn) : LeadsOn o (execStickyRead c s) := .next (h.runRead ..)

theorem LeadsOn.stickyClear (h : Follows o s) (c : CmdIn) (mask : Nat) : LeadsOn o (execStickyClear c mask s) :=
  .next (h.runNow (fun _ _ h => h.clearSticky ..) ..)

theorem Follows.repair (h : Follows o s) (w g : Nat) (t spare cause : Nat) : Follows o (s.repair w g t spare cause) := (h.setLedger ..).update

theorem Follows.withholdQuarter (h : Follows o s) (w g t : Nat) : Follows o (s.withholdQuarter w g t) :=
  Follows.unless (h.setSticky (by decide)) fun h1 => h1.update

theorem LeadsOn.tileRetirement (h : Follows o s) (wing : Nat) : LeadsOn o (execTileRetirement wing s) := by
  unfold execTileRetirement
  refine .next ?_
  split
  · exact h
  · refine .ite h ?_
    dsimp only
    split
    · exact Follows.action (Follows.bump (((h.update.repair ..).faultAll ..).setSticky (by decide)) ..) ..
    · exact (((h.update.repair ..).withholdQuarter ..).bump ..).action ..

theorem Follows.startRecovery (h : Follows o s) (w : Nat) : Follows o (s.startRecovery w) := by
  unfold State.startRecovery
  exact .ite h (Follows.action (Follows.bump ((Follows.foldl (fun _ _ h => h.faultBatch ..) h.update).setStickyIn _ (by decide)) ..) ..)

theorem LeadsOn.wingRecovery (h : Follows o s) (wing : Nat) : LeadsOn o (execWingRecovery wing s) := .next (Follows.ite h (h.startRecovery ..))

theorem Follows.poison (h : Follows o s) (keys : List Nat) : Follows o (s.poison keys) := h.update

theorem LeadsOn.rowRetirement (h : Follows o s) (wing stack : Nat) (channel bank : Nat) (row cause : Nat) (spare : Bool) (lost : List (Nat × Nat)) :
    LeadsOn o (execRowRetirement wing stack channel bank row cause spare lost s) := by
  unfold execRowRetirement
  refine .next (.ite h (.ite ?_ ?_))
  · exact Follows.action (h.setStickyIn _ (by decide)) ..
  · exact Follows.action (Follows.bump (((h.poison ..).setLedger ..).setStickyIn _ (by decide)) ..) ..

theorem LeadsOn.landingLaneSparing (h : Follows o s) (wing group : Nat) : LeadsOn o (execLandingLaneSparing wing group s) :=
  .next (Follows.ite h (Follows.ite (h.setStickyIn _ (by decide)) ((h.update.bump ..).action ..)))

theorem LeadsOn.patrolScrub (h : Follows o s) (wing partition address : Nat) (uncorrectable : Bool) :
    LeadsOn o (execPatrolScrub wing partition address uncorrectable s) :=
  .next (Follows.ite h (Follows.ite (((h.poison ..).bump ..).setStickyIn _ (by decide)) (h.bump ..)))

theorem LeadsOn.refreshDoubled (h : Follows o s) (stack : Nat) (hot : Bool) : LeadsOn o (execRefreshDoubled stack hot s) :=
  .next (h.whenFree (Follows.ite h h.update))

theorem Follows.sampleTemp (h : Follows o s) (die : Nat) (t : ℤ) : Follows o (s.sampleTemp die t) :=
  Follows.ite (h.update.update.setSummary ..) h.update.update

theorem Follows.setThrottle (h : Follows o s) (w n : Nat) : Follows o (s.setThrottle w n) := h.update

theorem LeadsOn.throttleStep (h : Follows o s) (wing : Nat) (temp : Int) : LeadsOn o (execThrottleStep wing temp s) := by
  unfold execThrottleStep
  refine .next (h.whenFree (.ite h ?_))
  dsimp only
  have hhot : Follows o (if temp ≥ 1680 then (s.sampleTemp (1 + wing) temp).setSticky 201 else s.sampleTemp (1 + wing) temp) :=
    .ite ((h.sampleTemp ..).setSticky (by decide)) (h.sampleTemp ..)
  generalize (if temp ≥ 1680 then (s.sampleTemp (1 + wing) temp).setSticky 201 else s.sampleTemp (1 + wing) temp) = t at hhot ⊢
  have hfirst : Follows o (if mget 0 t.health.throttle wing = 0 then t.setSticky 200 else t) := .ite (hhot.setSticky (by decide)) hhot
  exact .ite (.ite ((hfirst.setThrottle ..).bump ..) hfirst) (.ite ((hhot.setThrottle ..).bump ..) hhot)

theorem LeadsOn.droop (h : Follows o s) (wing mhz : Nat) : LeadsOn o (execDroop wing mhz s) :=
  .next (h.whenFree (Follows.ite h (Follows.ite (h.update.setSticky (by decide)) h.update)))

theorem Follows.failDevice (h : Follows o s) : Follows o s.failDevice := (Follows.foldl (fun _ _ h => h.dropLane ..) h).update

theorem Follows.loseRow (h : Follows o s) (w g r : Nat) : Follows o (s.loseRow w g r) := Follows.foldl (fun _ _ h => h.update) h.update

theorem LeadsOn.regulatorFault (h : Follows o s) (domain : Nat) : LeadsOn o (execRegulatorFault domain s) := by
  unfold execRegulatorFault
  refine .next (h.whenFree (.ite h ?_))
  have hout : Follows o (({ s with power := { s.power with domainsOut := s.power.domainsOut ++ [domain] } } : State).setSticky 203) :=
    (h.powered (power := { s.power with domainsOut := s.power.domainsOut ++ [domain] }) rfl).setSticky (by decide)
  exact .ite ((hout.action ..).loseRow ..) (.ite ((hout.action ..).startRecovery ..) (hout.action ..).failDevice)

theorem LeadsOn.pmbusPoll (h : Follows o s) (readings : List (Nat × Converter)) : LeadsOn o (execPmbusPoll readings s) :=
  .next (h.whenFree (Follows.powered h (by rfl)))

theorem LeadsOn.pmAlert (h : Follows o s) (asserted : Bool) (status : List (Nat × Nat)) : LeadsOn o (execPmAlert asserted status s) := by
  unfold execPmAlert
  refine .next ?_
  exact h.whenFree (Follows.ite (Follows.powered h (by rfl)) (Follows.ite h (Follows.bump (Follows.foldl (fun _ _ h => h.action ..) (Follows.powered
    (Follows.powered h (by rfl)) (by rfl))) ..)))

theorem LeadsOn.healthStatus (h : Follows o s) (c : CmdIn) (temps : List ℤ) : LeadsOn o (execHealthStatus c temps s) := by
  unfold execHealthStatus
  refine .next (Follows.runNow h (fun _ _ h => ?_) ..)
  dsimp only
  refine .foldl (fun _ _ h => ?_) h
  split
  · exact h.sampleTemp ..
  · exact h

theorem LeadsOn.deviceIdentity (h : Follows o s) (c : CmdIn) : LeadsOn o (execDeviceIdentity c s) := .next (h.runRead ..)

/-! ### Boot -/

theorem Follows.writeRecord (h : Follows o s) (f : BootRec → BootRec) : Follows o (s.writeRecord f) := h.update

theorem Follows.releaseTrip (h : Follows o s) : Follows o s.releaseTrip := Follows.ite (Follows.powered h (by rfl)) h

theorem Follows.pulseResets (h : Follows o s) (lowNs : Nat) : Follows o (s.pulseResets lowNs).2 := Follows.ite_snd h (Follows.ite_snd h h.nextFree)

theorem LeadsOn.resetN (h : Follows o s) (rise : Bool) (lowNs : Nat) : LeadsOn o (execResetN rise lowNs s) := by
  unfold execResetN
  refine .next ?_
  exact Follows.ite (Follows.powered (Follows.onlyIf (h.pulseResets ..) fun h1 => h1.restart ..) (by rfl)) (Follows.onlyIf (Follows.onlyIf (h.pulseResets ..)
    fun h1 => h1.restart ..) fun h1 => Follows.releaseTrip (Follows.powered h1 (by rfl)))

theorem LeadsOn.railInRegulation (h : Follows o s) (rail : Rail) : LeadsOn o (execRailInRegulation rail s) :=
  .next (h.powered (Power.setRail_faultN ..))

theorem LeadsOn.vin12DropOut (h : Follows o s) (rail : Rail) : LeadsOn o (execVin12DropOut rail s) :=
  .next (.ite (((h.restart false).powered (Power.setRail_faultN ..)).releaseTrip) h)

theorem LeadsOn.vstby33DropOut (h : Follows o s) (rail : Rail) : LeadsOn o (execVstby33DropOut rail s) := by
  have hpin (x : Power) : { x.setRail rail false with standbyOn := false, flResetN := false }.faultN = x.faultN := Power.setRail_faultN ..
  exact .next (.ite ((h.restart false).powered (hpin _)) h)

theorem LeadsOn.sysRefclkLoss (h : Follows o s) (running : Bool) : LeadsOn o (execSysRefclkLoss running s) :=
  .next (Follows.ite (Follows.powered h (by rfl)) (Follows.powered h (by rfl)))

/-- R878: the bits of dark lanes are those of lanes, of which there are at most 48. -/
theorem Follows.darkLanes (h : Follows o s) (n : Nat) : Follows o (s.darkLanes n) := by
  refine .foldl_mem (fun _ l hl h => (Follows.ite ((h.dropLane ..).bump ..) h).setSticky ?_) h
  have hlane : l < s.lanesN := of_decide_eq_true (Bool.and_eq_true_iff.1 (List.mem_filter.1 hl).2).1
  exact notReserved_of_lt (hlane.trans_le s.lanesN_le) (by decide)

theorem LeadsOn.serdesRefclkLoss (h : Follows o s) (n : Nat) (absent : Bool) : LeadsOn o (execSerdesRefclkLoss n absent s) :=
  .next (Follows.unless (Follows.powered h (by rfl)) fun h1 => (Follows.ite h1.update h1).darkLanes ..)

theorem LeadsOn.thermtrip (h : Follows o s) : LeadsOn o (execThermtrip s) := .next (Follows.ite h (Follows.powered (h.restart ..) (by rfl)))

theorem Follows.applyFailed (h : Follows o s) (result : Nat) : Follows o (s.applyFailed result) :=
  Follows.unless ((h.writeRecord ..).update) fun h1 => h1.bump ..

theorem Follows.saveAnchors (h : Follows o s) (anchors : List Nat) : Follows o (s.saveAnchors anchors) := h.update

theorem Follows.applySwitch (h : Follows o s) (g : Staging) (t : Bool) (x : Bank) : Follows o (s.applySwitch g t x) := (h.update.bump ..).restart ..

theorem Follows.applyStaging (h : Follows o s) (o' : ApplyOutcome) : Follows o (s.applyStaging o') := by
  unfold State.applyStaging
  dsimp only
  split
  · exact h.applyFailed ..
  · split
    · exact h.applyFailed ..
    · refine .ite (h.applyFailed ..) (.ite ((h.saveAnchors ..).applyFailed ..) ?_)
      exact Follows.ite (h.applyFailed ..) (Follows.ite (h.applySwitch ..) (h.update.applyFailed ..))

theorem Follows.recover (h : Follows o s) : Follows o s.recover := h.update

theorem Follows.measureRom (h : Follows o s) (m : BitVec 384) : Follows o (s.measureRom m) := h.update

theorem Follows.bootBank (h : Follows o s) (second trial : Bool) (m : BitVec 384) : Follows o (s.bootBank second trial m) := (h.measureRom ..).update

theorem Follows.useTry (h : Follows o s) : Follows o s.useTry := Follows.ite h (Follows.ite (((h.writeRecord ..).update).bump ..) (h.writeRecord ..))

theorem Follows.chooseBank (h : Follows o s) (verifyA verifyB : Bool) (m : BitVec 384) : Follows o (s.chooseBank verifyA verifyB m) := by
  unfold State.chooseBank
  exact .ite (h.bootBank ..) (.ite (Follows.bootBank (Follows.unless (h.setSticky (by decide)) fun h1 => h1.writeRecord ..) ..) h.recover)

theorem Follows.recordTrip (h : Follows o s) : Follows o s.recordTrip :=
  Follows.ite (Follows.powered (Follows.foldl (fun _ _ h => h.action ..) h) (by rfl)) h

theorem LeadsOn.romStage (h : Follows o s) (bootMode : Nat) (verifyA verifyB : Bool) (measurement : BitVec 384) (apply : ApplyOutcome) :
    LeadsOn o (execRomStage bootMode verifyA verifyB measurement apply s) := by
  unfold execRomStage
  refine .next (.ite h (.ite ?_ ?_))
  · exact Follows.onlyIf (Follows.applyStaging (Follows.onlyIf (Follows.update (Follows.bump (Follows.powered h (by rfl)) ..)) fun h1 => h1.setSticky
    (by decide)) ..) fun h1 => h1.recover
  · refine .ite ?_ ?_
    · exact Follows.recover (Follows.onlyIf (Follows.update (Follows.bump (Follows.powered h (by rfl)) ..)) fun h1 => h1.setSticky (by decide))
    · exact Follows.chooseBank (Follows.useTry (Follows.onlyIf (Follows.update (Follows.bump (Follows.powered h (by rfl)) ..)) fun h1 => h1.setSticky
      (by decide))) ..

theorem Follows.measureHearth (h : Follows o s) (ms : List (BitVec 384)) : Follows o (s.measureHearth ms) := h.update.seedDrbg

theorem Follows.hearthRecords (h : Follows o s) : Follows o s.hearthRecords := by
  unfold State.hearthRecords
  dsimp only
  split
  · split
    · exact h
    · exact h.writeRecord ..
  · refine .ite ?_ ?_
    · refine Follows.update ?_
      split
      · exact h
      · exact h.writeRecord ..
    · split
      · exact h
      · exact h.writeRecord ..

theorem Follows.readMantel (h : Follows o s) : Follows o s.readMantel := Follows.ite (h.update.setSticky (by decide)) h.update

theorem Follows.countBoot (h : Follows o s) : Follows o s.countBoot := Follows.foldl (fun _ _ h => h.setSummary ..) h

theorem LeadsOn.hearthStage (h : Follows o s) (partsStart : Bool) (measurements : List (BitVec 384)) (converters : List (Nat × Converter)) :
    LeadsOn o (execHearthStage partsStart measurements converters s) := by
  unfold execHearthStage
  refine .next (.ite h (.ite ?_ ?_))
  · exact Follows.powered (h.readMantel.countBoot.recordTrip.hearthRecords.measureHearth ..) (by rfl)
  · exact Follows.failDevice (Follows.powered (h.readMantel.countBoot.recordTrip.hearthRecords.measureHearth ..) (by rfl))

theorem LeadsOn.dramStage (h : Follows o s) (trained : Bool) (apply : ApplyOutcome) : LeadsOn o (execDramStage trained apply s) :=
  .next (Follows.ite h (Follows.ite h.failDevice (Follows.ite (h.update.applyStaging ..) h.update)))

theorem Follows.mapGallery (h : Follows o s) (w g : Nat) (failed : List Nat) : Follows o (s.mapGallery w g failed) :=
  Follows.foldl (fun _ _ h => Follows.ite (h.withholdQuarter ..) h) ((h.setLedger ..).update)

theorem LeadsOn.selfTest (h : Follows o s) (failed landings : List Nat) : LeadsOn o (execSelfTest failed landings s) :=
  .next (Follows.ite h ((Follows.foldl (fun _ _ h => Follows.foldl (fun _ _ h => h.mapGallery ..) h) h).update))

theorem Follows.loadSettings (h : Follows o s) (x : SavedSettings) : Follows o (s.loadSettings x) := h.update

theorem LeadsOn.settingsStage (h : Follows o s) : LeadsOn o (execSettingsStage s) := by
  unfold execSettingsStage
  refine .next (.ite h (Follows.update ?_))
  split
  · exact h.loadSettings ..
  · exact h.setSticky (by decide)

theorem LeadsOn.ready (h : Follows o s) : LeadsOn o (execReady s) := .next (Follows.ite h (Follows.foldl (fun _ _ h => h.darkLanes ..) h.update))

theorem LeadsOn.trialTimeout (h : Follows o s) : LeadsOn o (execTrialTimeout s) := .next (Follows.ite (h.restart ..) h)

/-! ### Table commands -/

theorem Follows.applyWay (h : Follows o s) (p h' e : Nat) (new : FlowEntry) (reason : Nat) : Follows o (s.applyWay p h' e new reason) :=
  (Follows.ite (h.exportFlow ..) h).changeSlot ..

theorem Follows.applyBucket (h : Follows o s) (w p : Nat) (b e : Nat) (new : List FlowEntry) (reason : Nat) : Follows o (s.applyBucket w p b e new reason) :=
  Follows.foldl (fun _ _ h => h.applyWay ..) h

theorem Follows.countAged (h : Follows o s) (w p : Nat) (reason n : Nat) : Follows o (s.countAged w p reason n) := Follows.ite (h.bumpN ..) h

theorem Follows.applyHits (h : Follows o s) (w b : Nat) : Follows o (s.applyHits w b) :=
  Follows.foldl (fun _ _ h => Follows.ite (h.putEntry ..) h) (h.setWing ..)

theorem Follows.releaseLock (h : Follows o s) (w b : Nat) : Follows o (s.releaseLock w b) := (h.setWing ..).applyHits ..

theorem LeadsOn.tableLock (h : Follows o s) (c : CmdIn) (wing owner bucket : Nat) : LeadsOn o (execTableLock c wing owner bucket s) := by
  unfold execTableLock
  refine .next (.ite h (Follows.runNow h (fun _ _ h => ?_) ..))
  dsimp only
  split
  · exact h
  · exact Follows.ite_snd h (Follows.ite_snd h (h.setWing ..))

theorem LeadsOn.tableRead (h : Follows o s) (c : CmdIn) (wing owner : Nat) (bucket count : Nat) (staged : Bool) :
    LeadsOn o (execTableRead c wing owner bucket count staged s) := by
  unfold execTableRead
  refine .next (.ite h (Follows.runNow h (fun _ _ h => ?_) ..))
  dsimp only
  split
  · exact h
  · refine .ite_snd ?_ h
    split
    · exact h
    · exact Follows.ite_snd h h

theorem LeadsOn.tableWrite (h : Follows o s) (c : CmdIn) (wing owner bucket : Nat) (data : Bytes) (dmaOk : Bool) :
    LeadsOn o (execTableWrite c wing owner bucket data dmaOk s) := by
  unfold execTableWrite
  refine .next (.ite h (Follows.runNow h (fun _ _ h => ?_) ..))
  dsimp only
  split
  · exact h
  · split
    · exact h
    · exact h.setWing ..

theorem Follows.decideBucket (h : Follows o s) (w p : Nat) (b reason : Nat) (new : List FlowEntry) : Follows o (s.decideBucket w p b reason new) :=
  (h.pairDecide ..).bump ..

theorem LeadsOn.tableUnlock (h : Follows o s) (c : CmdIn) (wing owner bucket : Nat) (discard : Bool) :
    LeadsOn o (execTableUnlock c wing owner bucket discard s) := by
  unfold execTableUnlock
  refine .next (.ite h (Follows.runCmd h (fun _ _ h => ?_) ..))
  dsimp only
  split
  · exact h
  · split
    · exact h
    · split
      · exact h.releaseLock ..
      · split
        · exact h.releaseLock ..
        · exact Follows.ite_snd h (Follows.ite_snd ((h.setWing ..).decideBucket ..) ((h.applyBucket ..).releaseLock ..))

theorem LeadsOn.lockBreak (h : Follows o s) (wing bucket : Nat) : LeadsOn o (execLockBreak wing bucket s) := by
  unfold execLockBreak
  refine .next ?_
  split
  · exact h
  · exact Follows.ite h ((((h.releaseLock ..).setWing ..).bump ..).setStickyIn _ (by decide))

theorem LeadsOn.tableOverflowRead (h : Follows o s) (c : CmdIn) (wing first count : Nat) : LeadsOn o (execTableOverflowRead c wing first count s) :=
  .next (Follows.ite h (h.runRead ..))

theorem Follows.removeOverflow (h : Follows o s) (w p : Nat) (i reason : Nat) : Follows o (s.removeOverflow w p i reason) :=
  Follows.ite ((h.pairDecide ..).bump ..) ((h.applyWay ..).countAged ..)

theorem LeadsOn.tableOverflowDelete (h : Follows o s) (c : CmdIn) (handle entryGen : Nat) : LeadsOn o (execTableOverflowDelete c handle entryGen s) := by
  unfold execTableOverflowDelete
  refine .next (.ite h ?_)
  exact h.runNow (fun _ _ h => Follows.ite_snd h (Follows.ite_snd h (Follows.ite_snd h (Follows.ite_snd h (Follows.ite_snd h (h.removeOverflow ..)))))) ..

theorem LeadsOn.tableHash (h : Follows o s) (c : CmdIn) (key : Bytes) : LeadsOn o (execTableHash c key s) :=
  .next (h.runNow (fun _ _ h => Follows.ite_snd h (h.setCmd ..)) ..)

theorem LeadsOn.tableShadowWrite (h : Follows o s) (c : CmdIn) (wing : Nat) (overflow : Bool) (first count : Nat) (data : Bytes) (dmaOk : Bool) :
    LeadsOn o (execTableShadowWrite c wing overflow first count data dmaOk s) := by
  unfold execTableShadowWrite
  refine .next (.ite h (Follows.runNow h (fun _ _ h => ?_) ..))
  dsimp only
  split
  · exact h
  · exact h.setWing ..

theorem LeadsOn.tableCompare (h : Follows o s) (c : CmdIn) (wing : Nat) (includeOverflow skipLearned : Bool) (queue priority : Nat) (firstBucket lastBucket
    compareId : Nat) : LeadsOn o (execTableCompare c wing includeOverflow skipLearned queue priority firstBucket lastBucket compareId s) := by
  unfold execTableCompare
  refine .next (.ite h (Follows.runNow h (fun _ _ h => ?_) ..))
  dsimp only
  split
  · exact h
  · exact Follows.ite_snd h (h.setWing ..)

theorem LeadsOn.compareUnit (h : Follows o s) (wing : Nat) : LeadsOn o (execCompareUnit wing s) := by
  unfold execCompareUnit
  refine .next ?_
  split
  · exact h
  · split
    · exact h
    · exact Follows.ite h (Follows.ite (h.setWing ..) (((h.setWing ..).bump ..).record ..))

theorem LeadsOn.compareDone (h : Follows o s) (wing : Nat) : LeadsOn o (execCompareDone wing s) := by
  unfold execCompareDone
  refine .next ?_
  split
  · exact h
  · exact Follows.ite h ((h.setWing ..).record ..)

theorem Follows.placeSweep (h : Follows o s) (p : Nat) : Follows o (s.placeSweep p) := Follows.foldl (fun _ _ h => (h.setQueue ..).enqueue ..) h

theorem Follows.ageBits (h : Follows o s) (w : Nat) (hs : List Nat) : Follows o (s.ageBits w hs) := by
  unfold State.ageBits
  refine .foldl (fun _ _ h => ?_) h
  split
  · exact h.putEntry ..
  · exact h

theorem Follows.sweepBucket (h : Follows o s) (w p b : Nat) : Follows o (s.sweepBucket w p b) := by
  unfold State.sweepBucket
  refine .ite (h.bump ..) (.ite (h.ageBits ..) ?_)
  exact Follows.ite ((h.ageBits ..).decideBucket ..) (((h.ageBits ..).applyBucket ..).countAged ..)

theorem Follows.sweepOverflow (h : Follows o s) (w p i : Nat) : Follows o (s.sweepOverflow w p i) := by
  unfold State.sweepOverflow
  refine .ite h ?_
  split
  · exact h.putEntry ..
  · exact Follows.ite h (h.removeOverflow ..)

theorem Follows.sweepVisit (h : Follows o s) (w p : Nat) (k : Sweep) : Follows o (s.sweepVisit w p k) :=
  (Follows.ite (h.sweepBucket ..) (h.sweepOverflow ..)).setWing ..

theorem LeadsOn.ageSweep (h : Follows o s) (wing partition : Nat) : LeadsOn o (execAgeSweep wing partition s) := by
  unfold execAgeSweep
  refine .next ?_
  split
  · exact Follows.ite h (h.sweepVisit ..)
  · split
    · exact h
    · exact Follows.ite (h.startOcc ..) (Follows.unless ((h.startOcc ..).enqueue ..) fun h1 => h1.setWing ..)

theorem LeadsOn.sweepOverrun (h : Follows o s) (wing partition : Nat) : LeadsOn o (execSweepOverrun wing partition s) := by
  unfold execSweepOverrun
  refine .next ?_
  split
  · exact (((h.startOcc ..).enqueue ..).setWing ..).bump ..
  · exact h

theorem Follows.finishUnlock (h : Follows o s) (w b : Nat) : Follows o (s.finishUnlock w b) := by
  unfold State.finishUnlock
  split
  · exact (h.releaseLock ..).complete ..
  · exact h

theorem Follows.applyTableChange (h : Follows o s) (d : Decision) : Follows o (s.applyTableChange d) := by
  unfold State.applyTableChange
  split
  · exact (((Follows.unless (((h.logChange ..).applyBucket ..).countAged ..) fun h1 => h1.bump ..).amendImage ..).addDigest ..).finishUnlock ..
  · exact ((Follows.unless (((h.logChange ..).applyWay ..).countAged ..) fun h1 => h1.bump ..).amendImage ..).addDigest ..
  · exact h

/-! ### Setting commands -/

theorem LeadsOn.settingRead (h : Follows o s) (c : CmdIn) (setting inst element : Nat) : LeadsOn o (execSettingRead c setting inst element s) :=
  .next (h.runCmd (fun _ _ h => h) ..)

theorem Follows.setDeadline (h : Follows o s) (p v e : Nat) (paired : Bool) : Follows o (s.setDeadline p v e paired) := h.update

theorem Follows.exportSetting (h : Follows o s) (id inst port : Nat) : Follows o (s.exportSetting id inst port) :=
  Follows.ite (((Follows.ite (h.setXq ..) h).refreshPort ..).refreshPort ..) (Follows.ite (h.refreshPort ..) h)

theorem Follows.placeSample (h : Follows o s) : Follows o s.placeSample := Follows.ite ((h.setQueue ..).enqueue ..) (h.setQueue ..)

theorem Follows.pushFormer (h : Follows o s) (e id : Nat) (k elem v : Nat) : Follows o (s.pushFormer e id k elem v) := h.update

theorem Follows.shapeFormer (h : Follows o s) (id k : Nat) (elem v : Nat) : Follows o (s.shapeFormer id k elem v) := h.update.pushFormer ..

theorem Follows.writeSetting (h : Follows o s) (p id inst elem v e : Nat) (paired : Bool) : Follows o (s.writeSetting p id inst elem v e paired) := by
  unfold State.writeSetting
  split
  · exact h
  · next sc _ =>
    dsimp only
    have hstored (k former : Nat) : Follows o ((if id = 0x4006 ∨ id = 0x3004 then s.shapeFormer id k elem former
        else if paired then s.pushFormer e id k elem former
        else if sc = .partition ∨ sc = .bank then s.pushFormer (s.nt + 1) id k elem former else s).putSetting id k elem v) :=
      (Follows.ite (h.shapeFormer ..) (.ite (h.pushFormer ..) (.ite (h.pushFormer ..) h))).putSetting ..
    split
    · exact .ite ((hstored ..).setDeadline ..) (.onlyIf (hstored ..) fun h => h.placeSweep ..)
    · exact .onlyIf (hstored ..) fun h => h.dropLane ..
    · exact (hstored ..).exportSetting ..
    · exact (hstored ..).exportSetting ..
    · exact .onlyIf (hstored ..) fun h => h.placeSample
    · exact (hstored ..).notifyRq ..
    · exact hstored ..
    · exact hstored ..

/-! ### Feeders and drains -/

theorem Follows.feedData (h : Follows o s) (i : Nat) (q : Issued) (b : Batch) : WordFollows o (Machine.feedData i s q b) := by
  unfold Machine.feedData
  split
  · exact h.guarded (WordFollows.ite WordFollows.wait (WordFollows.done (h.setArr ..))) ..
  · exact WordFollows.wait

theorem Follows.feedScale (h : Follows o s) (i : Nat) (q : Issued) (b : Batch) : WordFollows o (Machine.feedScale i s q b) := by
  unfold Machine.feedScale
  split
  · exact h.guarded (WordFollows.ite WordFollows.wait (WordFollows.done (h.setArr ..))) ..
  · exact WordFollows.wait

theorem Follows.feedBook (h : Follows o s) (i : Nat) (q : Issued) (b : Batch) : WordFollows o (Machine.feedBook i s q b) := by
  unfold Machine.feedBook
  split
  · exact h.guarded (WordFollows.ite WordFollows.wait (WordFollows.ite (WordFollows.done (h.setArr ..)) (WordFollows.fault (h.countFault ..)))) ..
  · exact WordFollows.wait

theorem LeadsOn.feed (h : Follows o s) (tile array : Nat) (ecc : Ecc) : LeadsOn o (execFeed tile array ecc s) :=
  .next (h.runWord (fun _ _ _ h => h.feedData ..) ..)

theorem LeadsOn.feedScale (h : Follows o s) (tile array : Nat) (ecc : Ecc) : LeadsOn o (execFeedScale tile array ecc s) :=
  .next (h.runWord (fun _ _ _ h => h.feedScale ..) ..)

theorem LeadsOn.feedCodebook (h : Follows o s) (tile array : Nat) (ecc : Ecc) : LeadsOn o (execFeedCodebook tile array ecc s) :=
  .next (h.runWord (fun _ _ _ h => h.feedBook ..) ..)

theorem Follows.completeDrains (h : Follows o s) (i a n : Nat) : Follows o (Machine.completeDrains i a n s) := by
  induction n generalizing s with
  | zero => exact h
  | succ n ih =>
    unfold Machine.completeDrains
    split
    · exact h
    · split
      · exact h
      · exact .ite (ih (h.finish (.done h) ..)) h

theorem Follows.shiftOut (h : Follows o s) (i a : Nat) : Follows o (s.shiftOut i a) := by
  unfold State.shiftOut
  dsimp only
  split
  · exact h
  · split
    · exact h
    · split
      · exact h
      · exact Follows.ite (h.setArr ..) ((h.setArr ..).setQueued ..)

theorem Follows.startDrain (h : Follows o s) (i a : Nat) (ecc : Ecc) : Follows o (s.startDrain i a ecc) := by
  unfold State.startDrain
  dsimp only
  split
  · exact h
  · split
    · refine .ite h (.ite ?_ ?_)
      · exact (((h.startWord ..).countCorrected ..).tileUncorrectable ..).faultBatch ..
      · exact (((h.startWord ..).countCorrected ..).setArr ..).setQueued ..
    · exact h

theorem LeadsOn.drain (h : Follows o s) (tile array : Nat) (ecc : Ecc) : LeadsOn o (execDrain tile array ecc s) :=
  .next (Follows.ite (((h.startDrain ..).shiftOut ..).completeDrains ..) h)

theorem LeadsOn.swap (h : Follows o s) (tile array column : Nat) : LeadsOn o (execSwap tile array column s) := by
  unfold execSwap
  refine .next ?_
  dsimp only
  split
  · exact Follows.ite (((h.setArr ..).shiftOut ..).completeDrains ..) h
  · exact h

theorem Follows.startPreload (h : Follows o s) (i a : Nat) : Follows o (s.startPreload i a) := by
  unfold State.startPreload
  dsimp only
  split
  · exact h
  · split
    · exact Follows.ite h (((h.startWord ..).setArr ..).setQueued ..)
    · exact h

theorem Follows.preloadWord (h : Follows o s) (i a : Nat) (q : Issued) (b : Batch) : WordFollows o (Machine.preloadWord i a s q b) := by
  unfold Machine.preloadWord
  split
  · exact h.guarded (WordFollows.ite WordFollows.wait (WordFollows.done (h.setArr ..))) ..
  · exact WordFollows.wait

theorem Follows.fillPreload (h : Follows o s) (i a : Nat) (ecc : Ecc) : Follows o (s.fillPreload i a ecc) := by
  unfold State.fillPreload
  split
  · exact h
  · next q _ =>
    split
    · exact h
    · next b _ =>
      have hout := (h.countCorrected i ecc).preloadWord i a q b
      generalize Machine.preloadWord i a (s.countCorrected i ecc) q b = r at hout ⊢
      cases hout with
      | wait => exact h
      | hold => exact h
      | fault ht => exact ht.faultBatch ..
      | done ht => exact .ite (((h.countCorrected ..).tileUncorrectable ..).faultBatch ..) ht

theorem LeadsOn.preload (h : Follows o s) (tile array : Nat) (ecc : Ecc) : LeadsOn o (execPreload tile array ecc s) :=
  .next (Follows.ite (((h.startPreload ..).fillPreload ..).completeDrains ..) h)

/-! ### Waits -/

theorem Follows.body (h : Follows o s) (q : Issued) (i : Nat) (r : Issued) (b : Batch) : WordFollows o (q.body i s r b) := by
  unfold Issued.body
  cases q.word.op with
  | feed f =>
    dsimp only
    split
    · exact h.feedData ..
    · split
      · exact h.feedScale ..
      · exact h.feedBook ..
  | post p =>
    dsimp only
    generalize p.subOp = k
    match k with
    | 0 => exact h.pipeWord ..
    | 1 => exact h.groupWord ..
    | 2 => exact h.topkWord ..
    | 3 => exact h.linkWord ..
    | 4 => exact h.checkWord ..
    | 5 => exact h.verdictWord ..
    | n + 6 => exact h.tableWord ..
  | tree _ => exact h.treeWord ..
  | load m =>
    dsimp only
    split
    · exact h.gatherWord ..
    · exact h.loadWord ..
  | store m =>
    dsimp only
    split
    · exact h.pendingWord ..
    · exact h.storeWord ..
  | state x =>
    dsimp only
    split
    · exact h.stateInWord ..
    · exact h.stateOutWord ..
  | reduce _ => exact h.reduceWord ..
  | sync _ => exact h.syncWord ..
  | _ => exact .wait

theorem Follows.withoutLocks (h : Follows o s) : Follows o s.withoutLocks := h.update

theorem Follows.sampleWaits (h : Follows o s) (ws : List Wait) : Follows o (s.sampleWaits ws) := h.update

theorem LeadsOn.stallRecord (h : Follows o s) (buffer engine : Nat) (reason context : Nat) (layer op batch : Nat) :
    LeadsOn o (execStallRecord buffer engine reason context layer op batch s) :=
  .next (h.whenFree (Follows.ite h (h.trace ..)))

/-! ### Dumps -/

theorem LeadsOn.dumpTake (h : Follows o s) (c : CmdIn) (scope hostAddr length : Nat) (waits : List Wait) :
    LeadsOn o (execDumpTake c scope hostAddr length waits s) := by
  unfold execDumpTake
  refine .next (Follows.runNow h (fun _ _ h => ?_) ..)
  refine .ite_snd ?_ ?_
  · split
    · exact h
    · exact Follows.ite_snd h (h.update.hostOut ..)
  · exact Follows.ite_snd h (((((h.sampleWaits ..).nextFree).nextFree).bump ..).hostOut ..)

theorem LeadsOn.dumpStatus (h : Follows o s) (c : CmdIn) : LeadsOn o (execDumpStatus c s) := .next (h.runRead ..)

theorem LeadsOn.waitforRead (h : Follows o s) (c : CmdIn) : LeadsOn o (execWaitforRead c s) := .next (h.runRead ..)

theorem Follows.autoDump (h : Follows o s) : Follows o s.autoDump := Follows.ite (h.bump ..) (h.update.nextFree.nextFree.bump ..)

theorem Follows.firstHang (h : Follows o s) : Follows o s.firstHang :=
  Follows.ite h (Follows.autoDump (Follows.update (Follows.fire (h.setSticky (by decide)) ..)))

theorem Follows.unhang (h : Follows o s) (n : Nat) : Follows o (s.unhang n) := by
  unfold State.unhang
  dsimp only
  split
  · exact Follows.ite (h.startRecovery ..) h
  · exact Follows.foldl (fun _ _ h => h.faultBatch ..) h
  · split
    · exact h.faultBatch ..
    · exact h
  · exact h

theorem LeadsOn.hang (h : Follows o s) (hung : List Nat) (waits : List Wait) : LeadsOn o (execHang hung waits s) :=
  .next (h.whenFree (Follows.ite h (Follows.foldl (fun _ _ h => h.unhang ..) (((h.sampleWaits ..).firstHang).bumpN ..))))

end

end Sys2Proof.Machine
end

section
/-!
PROOFS. What every step keeps: attestation, partitions, epochs, management, rules, scrubs and mirrored commands (chapters 13, 17, 19, 23).
-/
open Sys2Proof Sys2Proof.Machine Sys2Proof.Claims
namespace Sys2Proof.Machine

section
variable {o s : State}

/-! ### Image bytes -/

theorem Follows.writeImageArea (h : Follows o s) (p n : Nat) (keys : Nat → KeyPair) (bs : Bytes) : Follows o (s.writeImageArea p n keys bs) :=
  Follows.foldl (fun _ _ h => h.regionWrite ..) h

theorem Follows.writeDram (h : Follows o s) (p : Nat) (img : Image) : Follows o (s.writeDram p img) := Follows.foldl (fun _ _ h => h.regionWrite ..) h

/-! ### Attestation -/

theorem LeadsOn.keyLoad (h : Follows o s) (c : CmdIn) (keyGen wrappedBytes : Nat) (blob : Bytes) : LeadsOn o (execKeyLoad c keyGen wrappedBytes blob s) := by
  unfold execKeyLoad
  refine .next (Follows.runCmd h (fun _ _ h => ?_) ..)
  refine .ite_snd (h.bump ..) ?_
  split
  · exact h.bump ..
  · refine .ite_snd (h.bump ..) (.ite_snd (h.bump ..) ?_)
    split
    · exact h.bump ..
    · exact ((h.modPart ..).bump ..).issueLeaf ..

theorem LeadsOn.previousKeyErase (h : Follows o s) (partition : Nat) : LeadsOn o (execPreviousKeyErase partition s) :=
  .next (h.whenFree (Follows.ite ((h.modPart ..).issueLeaf ..) h))

theorem LeadsOn.keyQuery (h : Follows o s) (c : CmdIn) : LeadsOn o (execKeyQuery c s) := .next (h.runRead ..)

theorem LeadsOn.getCertificate (h : Follows o s) (fn slot : Nat) : LeadsOn o (execGetCertificate fn slot s) := by
  unfold execGetCertificate
  refine .next (.ite h ?_)
  split
  · exact h.emit ..
  · exact h.emit ..

theorem LeadsOn.keyExchange (h : Follows o s) (fn slot : Nat) : LeadsOn o (execKeyExchange fn slot s) := by
  unfold execKeyExchange
  refine .next (.ite h ?_)
  split
  · exact h.emit ..
  · exact (h.nextFree.setFunc ..).emit ..

theorem LeadsOn.getMeasurements (h : Follows o s) (fn : Nat) : LeadsOn o (execGetMeasurements fn s) := .next (h.whenFree (Follows.ite h (h.emit ..)))

theorem LeadsOn.spdmRequest (h : Follows o s) (fn code : Nat) : LeadsOn o (execSpdmRequest fn code s) :=
  .next (h.whenFree (.ite h (h.emit ..)))

theorem LeadsOn.bounceStart (h : Follows o s) (fn : Nat) : LeadsOn o (execBounceStart fn s) :=
  .next (h.whenFree (Follows.ite (h.emit ..) ((h.setFunc ..).emit ..)))

theorem LeadsOn.endSession (h : Follows o s) (fn : Nat) : LeadsOn o (execEndSession fn s) :=
  .next (h.whenFree ((((h.endBounce ..).setFunc ..).tdispFail ..).emit ..))

theorem Follows.envelopeFails (h : Follows o s) (fn : Nat) : Follows o (s.envelopeFails fn) :=
  Follows.endBounce ((h.bump ..).setSticky (by decide)) ..

theorem Follows.commandFails (h : Follows o s) (fn ring : Nat) : Follows o (s.commandFails fn ring) := by
  unfold State.commandFails
  dsimp only
  split
  · exact h.envelopeFails ..
  · exact Follows.onlyIf (h.envelopeFails ..) fun h1 => h1.modRing ..

theorem LeadsOn.envelope (h : Follows o s) (fn slot : Nat) (data : Bytes) : LeadsOn o (execEnvelope fn slot data s) := by
  unfold execEnvelope
  refine .next (.ite h ?_)
  split
  · exact Follows.ite (((h.setFunc ..).setFunc ..).bump ..) ((h.setFunc ..).commandFails ..)
  · split
    · exact h.envelopeFails ..
    · dsimp only
      split
      · refine Follows.bump (Follows.setFunc ?_ ..) ..
        split
        · exact h.dma ..
        · exact h
      · refine Follows.envelopeFails (Follows.dropCmd (Follows.cutRing ?_ ..) ..) ..
        split
        · exact h.dma ..
        · exact h
  · exact h.envelopeFails ..

theorem LeadsOn.lockInterfaceRequest (h : Follows o s) (fn : Nat) : LeadsOn o (execLockInterfaceRequest fn s) :=
  .next (Follows.ite h (Follows.ite (((h.setFunc ..).emit ..).emit ..) (h.emit ..)))

theorem LeadsOn.startInterfaceRequest (h : Follows o s) (fn : Nat) : LeadsOn o (execStartInterfaceRequest fn s) :=
  .next (Follows.ite h (Follows.ite ((h.setFunc ..).emit ..) (h.emit ..)))

theorem LeadsOn.tdispError (h : Follows o s) (fn : Nat) : LeadsOn o (execTdispError fn s) := .next (h.whenFree (Follows.ite h (h.tdispFail ..)))

theorem Follows.setStream (h : Follows o s) (stream : Nat) (key : Option Bytes) : Follows o (s.setStream stream key) :=
  Follows.ite h.update (h.setFunc ..)

theorem LeadsOn.ideKm (h : Follows o s) (fn stream : Nat) (key : Option Bytes) : LeadsOn o (execIdeKm fn stream key s) :=
  .next (Follows.ite h (Follows.ite ((h.setStream ..).emit ..) (h.emit ..)))

theorem LeadsOn.boundaryScan (h : Follows o s) (instr : Nat) : LeadsOn o (execBoundaryScan instr s) :=
  .next (Follows.ite (Follows.ite (h.update.emit ..) (Follows.ite (h.update.emit ..) h.update)) h)

/-! ### Partitions -/

theorem Follows.freshSettings (h : Follows o s) (p e : Nat) : Follows o (s.freshSettings p e) := ((h.defaultSettings ..).update).putSetting ..

theorem Follows.configure (h : Follows o s) (p : Nat) (c : ConfigParams) (e : Nat) (paired : Bool) : Follows o (s.configure p c e paired) :=
  ((((Follows.foldl (fun _ _ h => h.setWing ..) (((h.draw ..).setPart ..).clearPartCounters ..)).emptyRqs ..).freshSettings ..).placeSweep ..).issueLeaf ..

theorem LeadsOn.partitionQuery (h : Follows o s) (c : CmdIn) : LeadsOn o (execPartitionQuery c s) := .next (h.runRead ..)

/-! ### Epochs -/

theorem Follows.openLoads (h : Follows o s) : Follows o s.openLoads := Follows.ite h h.update

theorem LeadsOn.imageLoad (h : Follows o s) (c : CmdIn) (slot imageBytes : Nat) (head : Bytes) : LeadsOn o (execImageLoad c slot imageBytes head s) :=
  .next (h.runCmd (fun _ _ h => Follows.ite_snd h (Follows.ite_snd h ((h.openLoads.setPart ..).issueLeaf ..))) ..)

theorem Follows.finishLoad (h : Follows o s) (ring : Option Nat) (st : Status) : Follows o (s.finishLoad ring st) := by
  unfold State.finishLoad
  split
  · exact h.complete ..
  · exact h

theorem Follows.failLoad (h : Follows o s) (p n : Nat) (st : Status) : Follows o (s.failLoad p n st) := (h.emptySlot ..).finishLoad ..

theorem Follows.moveLoad (h : Follows o s) (y : ImageSlot) : Follows o (s.moveLoad y) := h.update

theorem Follows.rejectLoad (h : Follows o s) (p n : Nat) (paged dma : Bool) (st : Status) : Follows o (s.rejectLoad p n paged dma st) :=
  (Follows.onlyIf (Follows.ite (h.bump ..) h) fun h1 => h1.erasePlain ..).failLoad ..

theorem Follows.acceptLoad (h : Follows o s) (p n : Nat) (keys : Nat → KeyPair) (bs : Bytes) (img : Image) : Follows o (s.acceptLoad p n keys bs img) := by
  unfold State.acceptLoad
  refine Follows.finishLoad (Follows.issueLeaf (Follows.bump ?_ ..) ..) ..
  split
  · exact (((h.writeImageArea ..).writeDram ..).endLoad ..).makeResident ..
  · exact ((h.writeImageArea ..).writeDram ..).endLoad ..

theorem LeadsOn.imageLoadCheck (h : Follows o s) (partition slot : Nat) (result : LoadResult) : LeadsOn o (execImageLoadCheck partition slot result s) := by
  unfold execImageLoadCheck
  refine .next (.ite h ?_)
  dsimp only
  split
  · exact (Follows.ite h (h.moveLoad ..)).rejectLoad ..
  · exact (Follows.ite h (h.moveLoad ..)).acceptLoad ..

theorem LeadsOn.imageDiscard (h : Follows o s) (c : CmdIn) (slot : Nat) : LeadsOn o (execImageDiscard c slot s) :=
  .next (h.runNow (fun _ _ h => Follows.ite_snd h (Follows.ite_snd h (((Follows.ite (h.eraseHalf ..) h).modSlot ..).issueLeaf ..))) ..)

theorem LeadsOn.imageQuery (h : Follows o s) (c : CmdIn) : LeadsOn o (execImageQuery c s) := .next (h.runNow (fun _ _ h => h.nextFree) ..)

theorem Follows.arm (h : Follows o s) (p n : Nat) (e t at_ : Nat) : Follows o (s.arm p n e t at_) :=
  (Follows.ite ((h.setPart ..).tagControls ..) (h.setPart ..)).issueLeaf ..

theorem Follows.disarm (h : Follows o s) (p : Nat) : Follows o (s.disarm p) := by
  unfold State.disarm
  split
  · exact h
  · exact ((Follows.ite ((h.modSlot ..).tagControls ..) (h.modSlot ..)).bump ..).issueLeaf ..

theorem Follows.rolloutInput (h : Follows o s) (p h' gen : Nat) (e : Epoch) (img : Image) : Follows o (s.rolloutInput p h' gen e img).2 :=
  Follows.ite_snd (Follows.setStickyIn (h.setStickyIn _ (by decide)) _ (by decide)) h

theorem LeadsOn.rolloutStart (h : Follows o s) (c : CmdIn) (handle : Nat) : LeadsOn o (execRolloutStart c handle s) := by
  unfold execRolloutStart
  refine .next (.ite h (Follows.runNow h (fun _ _ h => ?_) ..))
  refine .ite_snd h ?_
  split
  · exact h
  · split
    · exact h
    · exact .ite_snd (((h.nextFree.rolloutInput ..).bump ..).bump ..) (((h.nextFree.rolloutInput ..).bump ..).setPart ..)

theorem Follows.epochRecord (h : Follows o s) (p : Nat) (body : Bytes) : Follows o (s.epochRecord p body) := h.record ..

theorem Follows.discardRollouts (h : Follows o s) (p e : Nat) : Follows o (s.discardRollouts p e) :=
  Follows.foldl (fun _ _ h => h.bump ..) (h.setPart ..)

theorem LeadsOn.epochSwitch (h : Follows o s) (partition : Nat) : LeadsOn o (execEpochSwitch partition s) := by
  unfold execEpochSwitch
  refine .next ?_
  dsimp only
  split
  · refine .ite h (Follows.issueLeaf (Follows.epochRecord (.ite ?_ ?_) ..) ..)
    · refine Follows.discardRollouts (Follows.bump ?_ ..) ..
      split
      · exact ((h.setPart ..).bump ..).placeWindows ..
      · exact (h.setPart ..).bump ..
    · split
      · exact ((h.setPart ..).bump ..).placeWindows ..
      · exact (h.setPart ..).bump ..
  · exact h

theorem LeadsOn.stagedFillStart (h : Follows o s) (partition : Nat) : LeadsOn o (execStagedFillStart partition s) := by
  unfold execStagedFillStart
  refine .next ?_
  dsimp only
  split
  · exact h
  · exact Follows.ite h (((h.modSlot ..).modSlot ..).modPart ..)

theorem LeadsOn.fillWaveEnd (h : Follows o s) (partition : Nat) : LeadsOn o (execFillWaveEnd partition s) := by
  unfold execFillWaveEnd
  refine .next ?_
  dsimp only
  split
  · exact h
  · refine .ite h (.ite ?_ ((Follows.foldl (fun _ _ h => h.placeTile ..) h).modPart ..))
    exact ((Follows.foldl (fun _ _ h => h.placeTile ..) h).modSlot ..).modPart ..

theorem Follows.payRetired (h : Follows o s) (p : Nat) : Follows o (s.payRetired p) := by
  unfold State.payRetired
  dsimp only
  split
  · exact h
  · exact Follows.ite ((h.setPart ..).epochRecord ..) h

theorem Follows.retireEpoch (h : Follows o s) (p n : Nat) (r : Epoch) : Follows o (s.retireEpoch p n r) := by
  unfold State.retireEpoch
  refine .ite ?_ ?_
  · exact ((Follows.ite ((h.setPart ..).tagControls ..) (h.setPart ..)).issueLeaf ..).modPart ..
  · exact ((Follows.ite ((h.setPart ..).tagControls ..) (h.setPart ..)).issueLeaf ..).epochRecord ..

theorem LeadsOn.epochRetirement (h : Follows o s) (partition : Nat) : LeadsOn o (execEpochRetirement partition s) := by
  unfold execEpochRetirement
  refine .next (.ite h ?_)
  dsimp only
  split
  · exact Follows.unless (h.payRetired ..) fun h1 => (h1.retireEpoch ..).payRetired ..
  · exact h.payRetired ..

theorem Follows.defaultBlock (h : Follows o s) (p h' : Nat) : Follows o (s.defaultBlock p h') := (h.writeBlock ..).uncache ..

theorem Follows.readHeader (h : Follows o s) (p h' : Nat) (bad : Option Nat) : Follows o (s.readHeader p h' bad).1 := by
  unfold State.readHeader
  refine .ite_fst ?_ ?_
  · dsimp only
    refine Follows.setStickyIn ?_ _ (by decide)
    split
    · exact h.poisonWord ..
    · exact h
  · dsimp only
    split
    · exact h.poisonWord ..
    · exact h

theorem LeadsOn.backgroundClear (h : Follows o s) (wing partition : Nat) (bad : Option Nat) : LeadsOn o (execBackgroundClear wing partition bad s) := by
  unfold execBackgroundClear
  refine .next ?_
  dsimp only
  split
  · exact h
  · refine .ite h ?_
    split
    · exact h
    · exact Follows.onlyIf ((h.readHeader ..).modPart ..) fun h1 => (h1.defaultBlock ..).bump ..

theorem LeadsOn.backgroundClearEnd (h : Follows o s) (partition : Nat) : LeadsOn o (execBackgroundClearEnd partition s) :=
  .next (Follows.ite (h.modPart ..) h)

theorem Follows.raiseEpoch (h : Follows o s) (p h' f : Nat) : Follows o (s.raiseEpoch p h' f) := (h.writeBlock ..).uncache ..

theorem LeadsOn.epochWalk (h : Follows o s) (wing partition : Nat) (bad : Option Nat) : LeadsOn o (execEpochWalk wing partition bad s) := by
  unfold execEpochWalk
  refine .next ?_
  dsimp only
  split
  · exact h
  · refine .ite h ?_
    split
    · exact h
    · refine .ite ((((h.readHeader ..).modPart ..).defaultBlock ..).bump ..) (.ite ((h.readHeader ..).modPart ..) ?_)
      exact Follows.ite ((((h.readHeader ..).modPart ..).defaultBlock ..).bump ..) (Follows.onlyIf ((h.readHeader ..).modPart ..) fun h1 =>
        (h1.raiseEpoch ..).bump ..)

theorem LeadsOn.epochWalkEnd (h : Follows o s) (partition : Nat) : LeadsOn o (execEpochWalkEnd partition s) := .next (Follows.ite (h.setPart ..) h)

/-! ### Management -/

theorem Follows.openAssoc (h : Follows o s) (n : Nat) (relay : Bool) : Follows o (s.openAssoc n relay) := h.update

theorem LeadsOn.dtlsHandshake (h : Follows o s) (anchor linkSerial : Option Nat) : LeadsOn o (execDtlsHandshake anchor linkSerial s) := by
  unfold execDtlsHandshake
  refine .next (Follows.whenFree h (.ite h ?_))
  split
  · exact h.openAssoc ..
  · exact h.bump ..

theorem LeadsOn.associationIdle (h : Follows o s) (assoc : Nat) : LeadsOn o (execAssociationIdle assoc s) := by
  unfold execAssociationIdle
  refine .next (Follows.whenFree h ?_)
  split
  · exact h
  · exact Follows.ite h ((h.cutRing ..).update)

theorem Follows.startRecord (h : Follows o s) (n : Nat) (r : Bytes) : Follows o (s.startRecord n r) := (h.update.modAssoc ..).checkHead ..

theorem Follows.repeatReply (h : Follows o s) (n : Nat) (a : Assoc) : Follows o (s.repeatReply n a) := by
  unfold State.repeatReply
  split
  · exact h.emit ..
  · exact h

theorem Follows.takeRecord (h : Follows o s) (n : Nat) (a : Assoc) (r : Bytes) : Follows o (s.takeRecord n a r) := by
  unfold State.takeRecord
  refine .ite ((h.modAssoc ..).repeatReply ..) (.ite ((h.modAssoc ..).startRecord ..) ?_)
  exact Follows.ite ((h.modAssoc ..).modAssoc ..) ((h.modAssoc ..).bump ..)

theorem LeadsOn.commandRecord (h : Follows o s) (assoc : Nat) (rec : Option Bytes) : LeadsOn o (execCommandRecord assoc rec s) := by
  unfold execCommandRecord
  refine .next (Follows.whenFree h ?_)
  split
  · exact h
  · refine .ite h ?_
    split
    · exact h.takeRecord ..
    · exact h
    · exact Follows.ite h ((h.modAssoc ..).startRecord ..)

theorem LeadsOn.bridgeFrame (h : Follows o s) (port : Nat) (frame : Bytes) : LeadsOn o (execBridgeFrame port frame s) :=
  .next (h.whenFree (Follows.ite h (Follows.ite h ((h.emit ..).bump ..))))

theorem LeadsOn.neighbourDiscovery (h : Follows o s) (port : Nat) (frame : Bytes) : LeadsOn o (execNeighbourDiscovery port frame s) := by
  unfold execNeighbourDiscovery
  refine .next (Follows.whenFree h (.ite h ?_))
  split
  · exact h
  · refine .ite ?_ (Follows.ite ((h.emit ..).nextFree) h)
    split
    · exact h.emit ..
    · exact h

/-! ### Rules -/

theorem Follows.writeRule (h : Follows o s) (bank index : Nat) (r : Rule) : Follows o (s.writeRule bank index r) := h.update

theorem LeadsOn.ruleRead (h : Follows o s) (c : CmdIn) (bank index : Nat) : LeadsOn o (execRuleRead c bank index s) := .next (h.runRead ..)

theorem LeadsOn.ruleBankQuery (h : Follows o s) (c : CmdIn) : LeadsOn o (execRuleBankQuery c s) := .next (h.runRead ..)

theorem LeadsOn.bankSwap (h : Follows o s) : LeadsOn o (execBankSwap s) := by
  unfold execBankSwap
  refine .next (Follows.whenFree h ?_)
  split
  · exact h
  · exact Follows.ite h (h.update.bump ..)

/-! ### Scrubs -/

theorem Follows.stopLoad (h : Follows o s) (p n : Nat) : Follows o (s.stopLoad p n) := Follows.ite (((h.endLoad ..).issueLeaf ..).finishLoad ..) h

theorem Follows.stopReads (h : Follows o s) (p q : Nat) : Follows o (s.stopReads p q) :=
  Follows.ite h (Follows.foldl (fun _ _ h => h.complete ..) (h.setRq ..))

theorem Follows.stopLocks (h : Follows o s) (p w : Nat) : Follows o (s.stopLocks p w) := Follows.foldl (fun _ _ h => h.releaseLock ..) h

theorem Follows.beginScrub (h : Follows o s) (p at_ : Nat) (ring : Option Nat) (zeroise : Bool) : Follows o (s.beginScrub p at_ ring zeroise) := by
  unfold State.beginScrub
  exact (Follows.foldl (fun _ _ h => h.stopLocks ..) (Follows.foldl (fun _ _ h => h.stopReads ..) ((Follows.foldl (fun _ _ h => h.stopLoad ..)
    (h.disarm ..)).modPart ..))).tdispFail ..

theorem Follows.setPhase (h : Follows o s) (p : Nat) (ph : ScrubPhase) : Follows o (s.setPhase p ph) := h.modPart ..

theorem LeadsOn.scrubDrain (h : Follows o s) (partition : Nat) : LeadsOn o (execScrubDrain partition s) := by
  unfold execScrubDrain
  refine .next ?_
  split
  · exact h
  · exact Follows.ite h (h.setPhase ..)

theorem Follows.clearTile (h : Follows o s) (p i : Nat) : Follows o (s.clearTile p i) := Follows.ite (h.modTile ..) (h.update.setBuf ..)

theorem LeadsOn.scrubOnDie (h : Follows o s) (partition : Nat) : LeadsOn o (execScrubOnDie partition s) := by
  unfold execScrubOnDie
  refine .next ?_
  dsimp only
  split
  · exact h
  · refine .ite h ?_
    exact ((Follows.foldl (fun _ _ h => h.setWing ..) (((Follows.foldl (fun _ _ h => h.clearTile ..) h).emptyRqs ..).update)).modPart ..).setPhase ..

theorem Follows.zeroDram (h : Follows o s) (p w : Nat) : Follows o (s.zeroDram p w) := ((h.setWing ..).update).bumpN ..

theorem Follows.returnQueues (h : Follows o s) (p : Nat) : Follows o (s.returnQueues p) :=
  Follows.foldl (fun _ _ h => h.refreshPort ..) (Follows.foldl (fun _ _ h => (h.setXq ..).putSetting ..) h)

theorem Follows.dropShots (h : Follows o s) (fn : Nat) : Follows o (s.dropShots fn) := by
  unfold State.dropShots
  refine .foldl (fun _ _ h => ?_) h.update
  split
  · exact h.complete ..
  · exact h

theorem Follows.endScrub (h : Follows o s) (p : Nat) (k : Scrub) : Follows o (s.endScrub p k) := by
  unfold State.endScrub
  dsimp only
  split
  · exact ((((((h.returnQueues ..).clearPartCounters ..).update).setPart ..).bump ..).dropShots ..).complete ..
  · exact (((((h.returnQueues ..).clearPartCounters ..).update).setPart ..).bump ..).dropShots ..

theorem Follows.releaseScan (h : Follows o s) : Follows o s.releaseScan :=
  Follows.ite (Follows.foldl (fun _ _ h => h.issueLeaf ..) (h.update.setSticky (by decide))) h

theorem LeadsOn.scrubDram (h : Follows o s) (partition : Nat) : LeadsOn o (execScrubDram partition s) := by
  unfold execScrubDram
  refine .next ?_
  split
  · exact h
  · exact Follows.ite h (((Follows.foldl (fun _ _ h => h.zeroDram ..) h).endScrub ..).releaseScan)

theorem LeadsOn.internalScan (h : Follows o s) : LeadsOn o (execInternalScan s) :=
  .next (h.whenFree (Follows.ite h ((Follows.foldl (fun _ _ h => h.beginScrub ..) h.update).releaseScan)))

/-! ### Mirrored commands -/

theorem Follows.apply (h : Follows o s) (m : MirrorCmd) (e : Nat) (paired : Bool) (ring : Option Nat) :
    Follows o (Machine.MirrorCmd.apply m s e paired ring) := by
  unfold Machine.MirrorCmd.apply
  split
  · exact h.configure ..
  · exact h.beginScrub ..
  · exact h.writeSetting ..
  · exact h.writeRule ..
  · exact h.update
  · exact h.arm ..
  · exact h.disarm ..

theorem Follows.prepare (h : Follows o s) (ring : Nat) (m : MirrorCmd) : Follows o (s.prepare ring m) := (h.pairSend ..).update

theorem Follows.mirrored (h : Follows o s) (c : CmdIn) (m : MirrorCmd) (cmd : Cmd) : Follows o (Machine.mirrored c m cmd s).2 := by
  unfold Machine.mirrored
  refine .ite_snd h ?_
  split
  · exact h
  · exact Follows.ite_snd h (Follows.ite_snd (h.prepare ..) (h.apply ..))

theorem LeadsOn.partitionConfigure (h : Follows o s) (c : CmdIn) (p : ConfigParams) : LeadsOn o (execPartitionConfigure c p s) :=
  .next (Follows.ite h (h.runCmd (fun _ _ h => h.mirrored ..) ..))

theorem LeadsOn.contextConfigure (h : Follows o s) (c : CmdIn) (p : ConfigParams) : LeadsOn o (execContextConfigure c p s) :=
  .next (Follows.ite h (h.runCmd (fun _ _ h => h.mirrored ..) ..))

theorem LeadsOn.partitionRelease (h : Follows o s) (c : CmdIn) : LeadsOn o (execPartitionRelease c s) :=
  .next (Follows.ite h (h.runCmd (fun _ _ h => h.mirrored ..) ..))

theorem LeadsOn.settingWrite (h : Follows o s) (c : CmdIn) (setting inst : Nat) (element value : Nat) :
    LeadsOn o (execSettingWrite c setting inst element value s) := by
  unfold execSettingWrite
  refine .next (.ite h (Follows.runCmd h (fun _ _ h => ?_) ..))
  refine .ite_snd (h.mirrored ..) ?_
  split
  · exact h
  · exact h.writeSetting ..

theorem LeadsOn.ruleWrite (h : Follows o s) (c : CmdIn) (bank index : Nat) (rule : Rule) : LeadsOn o (execRuleWrite c bank index rule s) :=
  .next (Follows.ite h (h.runCmd (fun _ _ h => h.mirrored ..) ..))

theorem LeadsOn.ruleBankArm (h : Follows o s) (c : CmdIn) (switchNt : Nat) : LeadsOn o (execRuleBankArm c switchNt s) :=
  .next (Follows.ite h (h.runCmd (fun _ _ h => h.mirrored ..) ..))

theorem LeadsOn.epochArm (h : Follows o s) (c : CmdIn) (slot : Nat) (requireResident : Bool) (epoch switchNt : Nat) :
    LeadsOn o (execEpochArm c slot requireResident epoch switchNt s) :=
  .next (Follows.ite h (h.runCmd (fun _ _ h => h.mirrored ..) ..))

theorem LeadsOn.epochCancel (h : Follows o s) (c : CmdIn) : LeadsOn o (execEpochCancel c s) :=
  .next (Follows.ite h (h.runCmd (fun _ _ h => h.mirrored ..) ..))

end

end Sys2Proof.Machine
end

section
/-!
PROOFS. What every step keeps: the pair, updates, the commands of the table and one step (chapters 00, 20, 23, 95).
-/
open Sys2Proof Sys2Proof.Machine Sys2Proof.Claims
namespace Sys2Proof.Machine

section
variable {o s : State}

/-! ### The pair -/

theorem Follows.modPair (h : Follows o s) (f : Pair → Pair) : Follows o (s.modPair f) := h.update

theorem Follows.popMsg (h : Follows o s) : Follows o s.popMsg := h.modPair ..

theorem Follows.dropKeys (h : Follows o s) : Follows o s.dropKeys := h.update

theorem Follows.unpair (h : Follows o s) : Follows o s.unpair := Follows.foldl (fun _ _ h => h.complete ..) (h.modPair ..)

theorem Follows.beginResync (h : Follows o s) (p w : Nat) : Follows o (s.beginResync p w) := Follows.ite h ((h.pairSend ..).modPair ..)

theorem Follows.pairUp (h : Follows o s) (serial : Nat) : Follows o (s.pairUp serial) :=
  Follows.ite ((h.modPair ..).dropKeys) (Follows.foldl (fun _ _ h => h.beginResync ..) (h.modPair ..))

theorem Follows.pairHello (h : Follows o s) : Follows o s.pairHello := (((((h.draw ..).draw ..).signLeaf ..).sign ..).modPair ..).emit ..

theorem Follows.pairKeys (h : Follows o s) {info : PartnerInfo} {t : State} (ht : s.pairKeys info = some t) : Follows o t := by
  obtain ⟨z, _, rfl⟩ := Option.map_eq_some_iff.1 ht
  exact h.modPair _

theorem Follows.banisterLanes (h : Follows o s) (up : List Nat) : Follows o (s.banisterLanes up) := by
  unfold State.banisterLanes
  exact h.modPair ..

theorem Follows.refusePair (h : Follows o s) : Follows o s.refusePair := (h.modPair ..).setSticky (by decide)

theorem LeadsOn.banisterConnect (h : Follows o s) (lanes : Nat) (authentic : Bool) (info : PartnerInfo) :
    LeadsOn o (execBanisterConnect lanes authentic info s) := by
  unfold execBanisterConnect
  refine .next (h.whenFree (.ite (h.banisterLanes _) (.ite (h.banisterLanes _).pairHello.refusePair ?_)) ..)
  cases hkeys : (s.banisterLanes (lanesOf lanes)).pairHello.pairKeys info with
  | none => exact (h.banisterLanes _).pairHello.refusePair
  | some t =>
    have ht := (h.banisterLanes _).pairHello.pairKeys hkeys
    dsimp only
    split
    · exact ht.pairUp ..
    · exact (ht.modPair ..).unpair

theorem LeadsOn.partnerLost (h : Follows o s) : LeadsOn o (execPartnerLost s) := by
  unfold execPartnerLost
  refine .next ?_
  exact h.whenFree (Follows.ite h (Follows.modPair (Follows.onlyIf (Follows.bump (h.setSticky (by decide)) ..) fun h1 => h1.setSticky (by decide)) ..))

theorem Follows.discardPair (h : Follows o s) (lane : Nat) : Follows o (s.discardPair lane) := h.modPair ..

theorem LeadsOn.banisterFrame (h : Follows o s) (lane : Nat) (header : Bytes) (fcsOk authentic : Bool) (msgs : List (Nat × PairMsg)) :
    LeadsOn o (execBanisterFrame lane header fcsOk authentic msgs s) := by
  unfold execBanisterFrame
  refine .next (.ite h (.ite (h.discardPair ..) (.ite ?_ ?_)))
  · exact ((h.discardPair ..).bump ..).setSticky (by decide)
  · exact Follows.unless ((h.bump ..).modPair ..) fun h1 => h1.modPair ..

theorem LeadsOn.heartbeat (h : Follows o s) : LeadsOn o (execHeartbeat s) := .next (h.whenFree (Follows.ite h (h.pairFrame ..)))

theorem LeadsOn.resend (h : Follows o s) : LeadsOn o (execResend s) := by
  unfold execResend
  refine .next (Follows.whenFree h ?_)
  split
  · exact h
  · exact Follows.ite h (((h.pairFrame ..).bumpN ..).modPair ..)

theorem LeadsOn.insert (h : Follows o s) : LeadsOn o (execInsert s) := by
  unfold execInsert
  refine .next ?_
  split
  · exact Follows.ite h (((h.popMsg.changeSlot ..).putEntry ..).addDecision ..)
  · exact h

theorem LeadsOn.tableChange (h : Follows o s) : LeadsOn o (execTableChange s) := by
  unfold execTableChange
  refine .next (Follows.whenFree h ?_)
  split
  · exact Follows.ite h (h.popMsg.addDecision ..)
  · exact h

theorem LeadsOn.prepare (h : Follows o s) : LeadsOn o (execPrepare s) := by
  unfold execPrepare
  refine .next (Follows.whenFree h ?_)
  split
  · exact Follows.ite h.popMsg (Follows.onlyIf (h.popMsg.pairSend ..) fun h1 => h1.modPair ..)
  · exact h

theorem Follows.commitPrepared (h : Follows o s) (k : Prepared) : Follows o (s.commitPrepared k) := ((h.pairSend ..).addDecision ..).complete ..

theorem LeadsOn.vote (h : Follows o s) : LeadsOn o (execVote s) := by
  unfold execVote
  refine .next (Follows.whenFree h ?_)
  split
  · refine .ite h ?_
    dsimp only
    split
    · exact h.popMsg
    · exact .ite h.popMsg (Follows.ite ((h.popMsg.modPair ..).commitPrepared ..) ((h.popMsg.modPair ..).complete ..))
  · exact h

theorem LeadsOn.voteTimeout (h : Follows o s) : LeadsOn o (execVoteTimeout s) := by
  unfold execVoteTimeout
  refine .next (Follows.whenFree h ?_)
  split
  · exact h
  · exact Follows.ite h ((h.modPair ..).complete ..)

theorem LeadsOn.commitMessage (h : Follows o s) : LeadsOn o (execCommitMessage s) := by
  unfold execCommitMessage
  refine .next (Follows.whenFree h ?_)
  split
  · split
    · exact h.popMsg
    · exact Follows.ite h ((h.popMsg.modPair ..).addDecision ..)
  · exact h

theorem Follows.dropDecision (h : Follows o s) (d : Decision) : Follows o (s.dropDecision d) := h.modPair ..

theorem LeadsOn.pairTableApply (h : Follows o s) (wing : Nat) : LeadsOn o (execPairTableApply wing s) := by
  unfold execPairTableApply
  refine .next ?_
  split
  · exact h
  · dsimp only
    split
    · exact h.startOcc ..
    · split
      · exact ((h.startOcc ..).dropDecision ..).apply ..
      · exact ((h.startOcc ..).dropDecision ..).applyTableChange ..

theorem LeadsOn.pairInsertApply (h : Follows o s) (wing : Nat) : LeadsOn o (execPairInsertApply wing s) := by
  unfold execPairInsertApply
  refine .next ?_
  split
  · exact h
  · dsimp only
    split
    · exact h.startOcc ..
    · exact Follows.onlyIf (Follows.unless ((h.startOcc ..).dropDecision ..) fun h1 => h1.bump ..) fun h1 => h1.addDigest ..

theorem Follows.compareSums (h : Follows o s) (k : Nat) : Follows o (s.compareSums k) := by
  unfold State.compareSums
  split
  · exact Follows.ite (h.modPair ..) (Follows.onlyIf (Follows.bump ((h.modPair ..).setSticky (by decide)) ..) fun h1 => Follows.foldl (fun _ _ h =>
    h.beginResync ..) h1)
  · exact h

theorem Follows.closeInterval (h : Follows o s) : Follows o s.closeInterval := Follows.ite h (((h.modPair ..).pairSend ..).compareSums ..)

theorem LeadsOn.stateHash (h : Follows o s) (wing : Nat) : LeadsOn o (execStateHash wing s) := by
  unfold execStateHash
  refine .next ?_
  dsimp only
  split
  · exact Follows.ite (((h.startOcc ..).enqueue ..).closeInterval) h
  · exact Follows.ite h.closeInterval h

theorem LeadsOn.stateHashMessage (h : Follows o s) : LeadsOn o (execStateHashMessage s) := by
  unfold execStateHashMessage
  refine .next (Follows.whenFree h ?_)
  split
  · exact Follows.ite ((h.popMsg.modPair ..).compareSums ..) h.popMsg
  · exact h

theorem LeadsOn.resyncBegin (h : Follows o s) : LeadsOn o (execResyncBegin s) := by
  unfold execResyncBegin
  refine .next (Follows.whenFree h ?_)
  split
  · exact Follows.ite (h.popMsg.modPair ..) (Follows.ite (h.popMsg.beginResync ..) h.popMsg)
  · exact h

theorem Follows.putUnit (h : Follows o s) (p w : Nat) (u : PairUnit) : Follows o (s.putUnit p w u) := by
  unfold State.putUnit
  split
  · exact Follows.foldl (fun _ _ h => h.putEntry ..) h
  · exact h.putEntry ..
  · exact (h.writeBlock ..).uncache ..
  · exact h.update
  · exact h.update

theorem LeadsOn.resyncData (h : Follows o s) : LeadsOn o (execResyncData s) := by
  unfold execResyncData
  refine .next ?_
  split
  · refine .ite h ?_
    dsimp only
    split
    · exact h.popMsg
    · exact Follows.ite h.popMsg (((h.popMsg.bumpN ..).putUnit ..).modPair ..)
  · exact h

theorem LeadsOn.blockRequest (h : Follows o s) : LeadsOn o (execBlockRequest s) := by
  unfold execBlockRequest
  refine .next (Follows.whenFree h ?_)
  split
  · exact Follows.ite ((h.popMsg.modPair ..).bump ..) h.popMsg
  · refine .ite h ?_
    split
    · exact h
    · exact Follows.ite h ((h.sendUnit ..).modPair ..)

theorem LeadsOn.resyncWalker (h : Follows o s) (wing partition : Nat) : LeadsOn o (execResyncWalker wing partition s) := by
  unfold execResyncWalker
  refine .next ?_
  split
  · exact h
  · refine .ite h ?_
    split
    · exact h.sendUnit ..
    · refine .ite h ?_
      dsimp only
      split
      · exact (h.modPair ..).sendUnit ..
      · exact h.modPair ..

theorem Follows.resyncEnded (h : Follows o s) (p w : Nat) : Follows o (s.resyncEnded p w) :=
  Follows.ite (Follows.foldl (fun _ _ h => h.complete ..) ((h.modPair ..).modPair ..)) (h.modPair ..)

theorem LeadsOn.resyncEnd (h : Follows o s) (wing partition : Nat) : LeadsOn o (execResyncEnd wing partition s) := by
  unfold execResyncEnd
  refine .next (Follows.whenFree h ?_)
  split
  · exact h.popMsg.resyncEnded ..
  · split
    · exact h
    · exact Follows.ite h ((h.pairSend ..).resyncEnded ..)

theorem Follows.decideRole (h : Follows o s) : Follows o s.decideRole := by
  unfold State.decideRole
  exact (h.pairSend ..).modPair ..

theorem LeadsOn.role (h : Follows o s) : LeadsOn o (execRole s) := by
  unfold execRole
  refine .next (Follows.whenFree h ?_)
  split
  · exact Follows.ite (h.popMsg.modPair ..) (Follows.ite h.popMsg.decideRole h.popMsg)
  · split
    · exact h
    · exact Follows.ite h (Follows.ite ((h.modPair ..).dropKeys) (h.modPair ..))

theorem LeadsOn.release (h : Follows o s) : LeadsOn o (execRelease s) := by
  unfold execRelease
  refine .next (Follows.whenFree h ?_)
  split
  · exact h.popMsg.unpair
  · exact h

theorem LeadsOn.pairSetup (h : Follows o s) (c : CmdIn) (standby : Bool) : LeadsOn o (execPairSetup c standby s) := by
  refine .next (h.runNow (fun _ t h => ?_) ..)
  refine .ite_snd h ?_
  dsimp only
  exact h.modPair ..

theorem LeadsOn.pairRelease (h : Follows o s) (c : CmdIn) : LeadsOn o (execPairRelease c s) :=
  .next (h.runNow (fun _ _ h => Follows.ite_snd h ((Follows.ite (h.pairSend ..) h).unpair)) ..)

theorem LeadsOn.pairStatus (h : Follows o s) (c : CmdIn) : LeadsOn o (execPairStatus c s) := .next (h.runRead ..)

theorem LeadsOn.pairSwitchover (h : Follows o s) (c : CmdIn) : LeadsOn o (execPairSwitchover c s) := by
  refine .next (h.runNow (fun _ t h => ?_) ..)
  refine .ite_snd h (.ite_snd ?_ ?_)
  · dsimp only
    exact h.pairSend ..
  · dsimp only
    exact .ite h h.decideRole

theorem LeadsOn.pairResync (h : Follows o s) (c : CmdIn) : LeadsOn o (execPairResync c s) := by
  refine .next (h.runCmd (fun _ t h => ?_) ..)
  refine .ite_snd h (.ite_snd h ?_)
  dsimp only
  exact (Follows.foldl (fun _ _ h => h.pairSend ..) h).modPair ..

/-! ### Updates -/

theorem Follows.setStaging (h : Follows o s) (g : Option Staging) : Follows o (s.setStaging g) := h.update

theorem Follows.discardStaging (h : Follows o s) (result : Nat) : Follows o (s.discardStaging result) := h.update

theorem LeadsOn.updateBegin (h : Follows o s) (c : CmdIn) (totalBytes : Nat) : LeadsOn o (execUpdateBegin c totalBytes s) :=
  .next (h.runNow (fun _ _ h => Follows.ite_snd h (h.setStaging ..)) ..)

theorem LeadsOn.updateData (h : Follows o s) (c : CmdIn) (offset length : Nat) (hdr : Option StagingHdr) :
    LeadsOn o (execUpdateData c offset length hdr s) := by
  unfold execUpdateData
  refine .next (Follows.runNow h (fun _ _ h => ?_) ..)
  refine .ite_snd h ?_
  split
  · exact h
  · exact Follows.ite_snd h (Follows.ite_snd h (Follows.ite_snd h (h.setStaging ..)))

theorem LeadsOn.updateTransferDone (h : Follows o s) (dmaOk : Bool) : LeadsOn o (execUpdateTransferDone dmaOk s) := by
  unfold execUpdateTransferDone
  refine .next (Follows.whenFree h ?_)
  split
  · exact h
  · split
    · exact h
    · exact Follows.ite (h.discardStaging ..) (h.setStaging ..)

theorem LeadsOn.updateEnd (h : Follows o s) (c : CmdIn) : LeadsOn o (execUpdateEnd c s) := by
  unfold execUpdateEnd
  refine .next (Follows.runCmd h (fun _ _ h => ?_) ..)
  split
  · exact h
  · exact Follows.ite_snd h (Follows.ite_snd (h.setStaging ..) (Follows.ite_snd h (h.setStaging ..)))

theorem LeadsOn.stagingClosed (h : Follows o s) : LeadsOn o (execStagingClosed s) := by
  unfold execStagingClosed
  refine .next (Follows.whenFree h ?_)
  split
  · exact h
  · exact Follows.ite h (h.setStaging ..)

theorem LeadsOn.updateAbort (h : Follows o s) (c : CmdIn) : LeadsOn o (execUpdateAbort c s) := by
  unfold execUpdateAbort
  refine .next (Follows.runNow h (fun _ _ h => ?_) ..)
  split
  · exact h
  · exact Follows.ite_snd h (h.discardStaging ..)

theorem LeadsOn.updateStatus (h : Follows o s) (c : CmdIn) : LeadsOn o (execUpdateStatus c s) := .next (h.runRead ..)

theorem LeadsOn.updateActivate (h : Follows o s) (c : CmdIn) (resetNow : Bool) : LeadsOn o (execUpdateActivate c resetNow s) := by
  unfold execUpdateActivate
  refine .next (.ite ?_ ?_)
  · refine Follows.restart (Follows.runNow h (fun _ _ h => ?_) ..) ..
    refine .ite_snd h ?_
    split
    · exact h
    · split
      · exact h
      · exact (h.writeRecord ..).setStaging ..
      · exact h
  · refine Follows.runNow h (fun _ _ h => ?_) ..
    refine .ite_snd h ?_
    split
    · exact h
    · split
      · exact h
      · exact (h.writeRecord ..).setStaging ..
      · exact h

theorem LeadsOn.updateConfirm (h : Follows o s) (c : CmdIn) : LeadsOn o (execUpdateConfirm c s) :=
  .next (h.runNow (fun _ _ h => Follows.ite_snd h ((h.writeRecord ..).setStaging ..)) ..)

theorem LeadsOn.settingsSave (h : Follows o s) (c : CmdIn) : LeadsOn o (execSettingsSave c s) := .next (h.runNow (fun _ _ h => h.update) ..)

theorem LeadsOn.settingsFlashWrite (h : Follows o s) (done : Bool) : LeadsOn o (execSettingsFlashWrite done s) := by
  unfold execSettingsFlashWrite
  refine .next (Follows.whenFree h ?_)
  split
  · exact h
  · exact Follows.ite h.update (h.setSticky (by decide))

theorem Follows.sendRelay (h : Follows o s) (port : Nat) (x : Relay) : Follows o (s.sendRelay port x) := h.emit ..

theorem Follows.sendUpdate (h : Follows o s) (x : Relay) : Follows o (s.sendUpdate x) := h.pairSend ..

theorem LeadsOn.relayOffer (h : Follows o s) (banister downstreamUp : Bool) : LeadsOn o (execRelayOffer banister downstreamUp s) := by
  unfold execRelayOffer
  refine .next (Follows.whenFree h ?_)
  split
  · exact h
  · exact .ite h (Follows.ite (Follows.ite ((h.sendUpdate ..).bump ..) h) (Follows.ite ((h.sendRelay ..).bump ..) h))

theorem Follows.answered (h : Follows o s) (n : Nat) : Follows o (s.answered n) := by
  unfold State.answered
  split
  · exact h
  · exact h.setStaging ..

theorem LeadsOn.offer (h : Follows o s) (port sender : Nat) (x : Relay) : LeadsOn o (execOffer port sender x s) := by
  unfold execOffer
  refine .next (Follows.whenFree h (.ite h (.ite ?_ ?_)))
  · split
    · exact h.update.sendRelay ..
    · exact (h.sendRelay ..).bump ..
  · exact Follows.ite (Follows.ite ((h.answered ..).emit ..) (h.answered ..)) h

theorem Follows.relayNext (h : Follows o s) : Follows o s.relayNext := by
  unfold State.relayNext
  split
  · exact h
  · split
    · exact h
    · exact Follows.ite h (Follows.ite ((h.sendUpdate ..).setStaging ..) ((h.sendUpdate ..).setStaging ..))

theorem Follows.takeUpdate (h : Follows o s) (x : Relay) : Follows o (s.takeUpdate x) := by
  unfold State.takeUpdate
  split
  · split
    · exact (h.setStaging ..).sendUpdate ..
    · exact (h.sendUpdate ..).bump ..
  · exact Follows.ite (h.setStaging ..) h
  · exact h.answered ..
  · exact Follows.ite (h.setStaging ..) h
  · exact Follows.ite (h.setStaging ..) h
  · exact h

theorem LeadsOn.update (h : Follows o s) : LeadsOn o (execUpdate s) := by
  unfold execUpdate
  refine .next (Follows.whenFree h ?_)
  split
  · exact Follows.ite (h.popMsg.takeUpdate ..) h.popMsg
  · exact h.relayNext

/-! ### The commands of the table -/

/-- Every command's arm keeps what its function keeps. -/
theorem LeadsOn.exec (h : Follows o s) (i : Instr) : LeadsOn o (Machine.exec i s) := by
  cases i with
  | configurationRequest => exact .configurationRequest h
  | perstNAssert => exact .perstNAssert h
  | perstNRelease => exact .perstNRelease h
  | functionLevelReset => exact .functionLevelReset h ..
  | pcieLinkTrained => exact .pcieLinkTrained h ..
  | resetN => exact .resetN h ..
  | railInRegulation => exact .railInRegulation h ..
  | vin12DropOut => exact .vin12DropOut h ..
  | vstby33DropOut => exact .vstby33DropOut h ..
  | romStage => exact .romStage h ..
  | hearthStage => exact .hearthStage h ..
  | dramStage => exact .dramStage h ..
  | selfTest => exact .selfTest h ..
  | settingsStage => exact .settingsStage h
  | ready => exact .ready h
  | trialTimeout => exact .trialTimeout h
  | sysRefclkLoss => exact .sysRefclkLoss h ..
  | serdesRefclkLoss => exact .serdesRefclkLoss h ..
  | adminEnable => exact .adminEnable h ..
  | adminReset => exact .adminReset h ..
  | stickyMirrorWrite => exact .stickyMirrorWrite h ..
  | registerWrite => exact .registerWrite h ..
  | sqTail => exact .sqTail h ..
  | cqHead => exact .cqHead h ..
  | commandFetch => exact .commandFetch h ..
  | startDeadlineExpiry => exact .startDeadlineExpiry h ..
  | fenceRelease => exact .fenceRelease h ..
  | interruptCoalesceTimeout => exact .interruptCoalesceTimeout h ..
  | vectorUnmask => exact .vectorUnmask h ..
  | sessionOpen => exact .sessionOpen h ..
  | sessionClose => exact .sessionClose h ..
  | ringCreate => exact .ringCreate h ..
  | ringDestroy => exact .ringDestroy h ..
  | ringReset => exact .ringReset h ..
  | partitionConfigure => exact .partitionConfigure h ..
  | contextConfigure => exact .contextConfigure h ..
  | partitionRelease => exact .partitionRelease h ..
  | partitionQuery => exact .partitionQuery h ..
  | settingWrite => exact .settingWrite h ..
  | settingRead => exact .settingRead h ..
  | ruleWrite => exact .ruleWrite h ..
  | ruleRead => exact .ruleRead h ..
  | ruleBankArm => exact .ruleBankArm h ..
  | ruleBankQuery => exact .ruleBankQuery h ..
  | bankSwap => exact .bankSwap h
  | imageLoad => exact .imageLoad h ..
  | imageLoadCheck => exact .imageLoadCheck h ..
  | imageDiscard => exact .imageDiscard h ..
  | imageQuery => exact .imageQuery h ..
  | epochArm => exact .epochArm h ..
  | epochCancel => exact .epochCancel h ..
  | rolloutStart => exact .rolloutStart h ..
  | epochSwitch => exact .epochSwitch h ..
  | stagedFillStart => exact .stagedFillStart h ..
  | fillWaveEnd => exact .fillWaveEnd h ..
  | epochRetirement => exact .epochRetirement h ..
  | tableLock => exact .tableLock h ..
  | tableRead => exact .tableRead h ..
  | tableWrite => exact .tableWrite h ..
  | tableUnlock => exact .tableUnlock h ..
  | lockBreak => exact .lockBreak h ..
  | tableOverflowRead => exact .tableOverflowRead h ..
  | tableOverflowDelete => exact .tableOverflowDelete h ..
  | tableHash => exact .tableHash h ..
  | tableShadowWrite => exact .tableShadowWrite h ..
  | tableCompare => exact .tableCompare h ..
  | compareUnit => exact .compareUnit h ..
  | compareDone => exact .compareDone h ..
  | reportRead => exact .reportRead h ..
  | reportReadSelect => exact .reportReadSelect h ..
  | reportReadTimeout => exact .reportReadTimeout h ..
  | reportReadCompat => exact .reportReadCompat h ..
  | exportQueueStats => exact .exportQueueStats h ..
  | gateListSet => exact .gateListSet h ..
  | gateListCancel => exact .gateListCancel h ..
  | timeConfig => exact .timeConfig h ..
  | timeStatus => exact .timeStatus h ..
  | counterRead => exact .counterRead h ..
  | snapshot => exact .snapshot h ..
  | traceConfig => exact .traceConfig h ..
  | traceRelease => exact .traceRelease h ..
  | deviceIdentity => exact .deviceIdentity h ..
  | healthStatus => exact .healthStatus h ..
  | mantelRead => exact .mantelRead h ..
  | stickyRead => exact .stickyRead h ..
  | stickyClear => exact .stickyClear h ..
  | keyLoad => exact .keyLoad h ..
  | previousKeyErase => exact .previousKeyErase h ..
  | keyQuery => exact .keyQuery h ..
  | updateBegin => exact .updateBegin h ..
  | updateData => exact .updateData h ..
  | updateTransferDone => exact .updateTransferDone h ..
  | updateEnd => exact .updateEnd h ..
  | stagingClosed => exact .stagingClosed h
  | updateAbort => exact .updateAbort h ..
  | updateStatus => exact .updateStatus h ..
  | updateActivate => exact .updateActivate h ..
  | updateConfirm => exact .updateConfirm h ..
  | settingsSave => exact .settingsSave h ..
  | settingsFlashWrite => exact .settingsFlashWrite h ..
  | pairSetup => exact .pairSetup h ..
  | pairRelease => exact .pairRelease h ..
  | pairStatus => exact .pairStatus h ..
  | pairSwitchover => exact .pairSwitchover h ..
  | pairResync => exact .pairResync h ..
  | dumpTake => exact .dumpTake h ..
  | dumpStatus => exact .dumpStatus h ..
  | waitforRead => exact .waitforRead h ..
  | digest => exact .digest h ..
  | controlReceive => exact .controlReceive h ..
  | foreignFrame => exact .foreignFrame h ..
  | rxIpv6 => exact .rxIpv6 h ..
  | laneDown => exact .laneDown h ..
  | linkUp => exact .linkUp h ..
  | controlFrameCredit => exact .controlFrameCredit h ..
  | controlFrameIdle => exact .controlFrameIdle h ..
  | creditResume => exact .creditResume h
  | parse => exact .parse h
  | dispatch => exact .dispatch h
  | quotaRelease => exact .quotaRelease h ..
  | batchClose => exact .batchClose h ..
  | settleWait => exact .settleWait h ..
  | batchDescriptor => exact .batchDescriptor h ..
  | lookup => exact .lookup h ..
  | inputState => exact .inputState h ..
  | readyToCommit => exact .readyToCommit h ..
  | commit => exact .commit h ..
  | squash => exact .squash h ..
  | squashDiscardComplete => exact .squashDiscardComplete h ..
  | deadline => exact .deadline h
  | verdictArrival => exact .verdictArrival h ..
  | verdictFrame => exact .verdictFrame h ..
  | exportFrame port => exact .exportFrame h port
  | shaperEligible => exact .shaperEligible h ..
  | payloadClose => exact .payloadClose h ..
  | insertion => exact .insertion h ..
  | backgroundClear => exact .backgroundClear h ..
  | epochWalk => exact .epochWalk h ..
  | epochWalkEnd => exact .epochWalkEnd h ..
  | rolloutBatch => exact .rolloutBatch h ..
  | rolloutRecord => exact .rolloutRecord h ..
  | gateList => exact .gateList h ..
  | pairTableApply => exact .pairTableApply h ..
  | pairInsertApply => exact .pairInsertApply h ..
  | windowEdge => exact .windowEdge h ..
  | ageSweep => exact .ageSweep h ..
  | sweepOverrun => exact .sweepOverrun h ..
  | interval1ms => exact .interval1ms h ..
  | stateHash => exact .stateHash h ..
  | shaperSample => exact .shaperSample h
  | snapshotCopy => exact .snapshotCopy h ..
  | snapshotWindowSwap => exact .snapshotWindowSwap h ..
  | periodicSnapshot => exact .periodicSnapshot h
  | wingResume => exact .wingResume h ..
  | ppsInEdge => exact .ppsInEdge h ..
  | todMessage => exact .todMessage h ..
  | holdover => exact .holdover h
  | ppsOut => exact .ppsOut h
  | timeWrapNear => exact .timeWrapNear h
  | recordPush => exact .recordPush h ..
  | reportNotifyTimeout => exact .reportNotifyTimeout h ..
  | mma => exact .mma h ..
  | sel => exact .sel h ..
  | dist => exact .dist h ..
  | passComplete => exact .passComplete h ..
  | formChange => exact .formChange h ..
  | rampUp => exact .rampUp h ..
  | rampDown => exact .rampDown h ..
  | swap => exact .swap h ..
  | tagHold => exact .tagHold h ..
  | tagMismatch => exact .tagMismatch h ..
  | feed => exact .feed h ..
  | feedScale => exact .feedScale h ..
  | feedCodebook => exact .feedCodebook h ..
  | drain => exact .drain h ..
  | preload => exact .preload h ..
  | pipe => exact .pipe h ..
  | group => exact .group h ..
  | topk => exact .topk h ..
  | link => exact .link h ..
  | check => exact .check h ..
  | verdict => exact .verdict h ..
  | table => exact .table h ..
  | tree => exact .tree h ..
  | load => exact .load h ..
  | gather => exact .gather h ..
  | store => exact .store h ..
  | pending => exact .pending h ..
  | stateIn => exact .stateIn h ..
  | stateRelease => exact .stateRelease h ..
  | reduce => exact .reduce h ..
  | sync => exact .sync h ..
  | wait => exact .wait h ..
  | mark => exact .mark h ..
  | quiesce => exact .quiesce h ..
  | reissue => exact .reissue h ..
  | tileRetirement => exact .tileRetirement h ..
  | rowRetirement => exact .rowRetirement h ..
  | landingLaneSparing => exact .landingLaneSparing h ..
  | patrolScrub => exact .patrolScrub h ..
  | wingRecovery => exact .wingRecovery h ..
  | hang => exact .hang h ..
  | throttleStep => exact .throttleStep h ..
  | thermtrip => exact .thermtrip h
  | regulatorFault => exact .regulatorFault h ..
  | droop => exact .droop h ..
  | mantelWrite => exact .mantelWrite h ..
  | pmbusPoll => exact .pmbusPoll h ..
  | pmAlert => exact .pmAlert h ..
  | traceRecord => exact .traceRecord h ..
  | stallRecord => exact .stallRecord h ..
  | bounceStart => exact .bounceStart h ..
  | endSession => exact .endSession h ..
  | envelope => exact .envelope h ..
  | getCertificate => exact .getCertificate h ..
  | keyExchange => exact .keyExchange h ..
  | getMeasurements => exact .getMeasurements h ..
  | spdmRequest fn code => exact .spdmRequest h fn code
  | lockInterfaceRequest => exact .lockInterfaceRequest h ..
  | startInterfaceRequest => exact .startInterfaceRequest h ..
  | tdispError => exact .tdispError h ..
  | ideKm => exact .ideKm h ..
  | boundaryScan => exact .boundaryScan h ..
  | internalScan => exact .internalScan h
  | scrubDrain => exact .scrubDrain h ..
  | scrubOnDie => exact .scrubOnDie h ..
  | scrubDram => exact .scrubDram h ..
  | banisterConnect => exact .banisterConnect h ..
  | banisterFrame => exact .banisterFrame h ..
  | heartbeat => exact .heartbeat h
  | resend => exact .resend h
  | partnerLost => exact .partnerLost h
  | insert => exact .insert h
  | tableChange => exact .tableChange h
  | prepare => exact .prepare h
  | vote => exact .vote h
  | voteTimeout => exact .voteTimeout h
  | commitMessage => exact .commitMessage h
  | stateHashMessage => exact .stateHashMessage h
  | resyncBegin => exact .resyncBegin h
  | resyncData => exact .resyncData h
  | blockRequest => exact .blockRequest h
  | resyncWalker => exact .resyncWalker h ..
  | resyncEnd => exact .resyncEnd h ..
  | role => exact .role h
  | release => exact .release h
  | update => exact .update h
  | relayOffer => exact .relayOffer h ..
  | offer => exact .offer h ..
  | dtlsHandshake => exact .dtlsHandshake h ..
  | commandRecord => exact .commandRecord h ..
  | associationIdle => exact .associationIdle h ..
  | bridgeFrame => exact .bridgeFrame h ..
  | neighbourDiscovery => exact .neighbourDiscovery h ..
  | backgroundClearEnd => exact .backgroundClearEnd h ..
  | gateEntryChange => exact .gateEntryChange h ..
  | refreshDoubled => exact .refreshDoubled h ..

/-! ### A Hall cycle without a command -/

theorem Follows.countSettle (h : Follows o s) : Follows o s.countSettle := Follows.foldl (fun _ _ h => Follows.ite (h.bump ..) h) h

theorem Follows.countQuota (h : Follows o s) : Follows o s.countQuota :=
  Follows.foldl (fun _ _ h => Follows.ite h (Follows.foldl (fun _ _ h => Follows.ite (h.bumpN ..) h) (h.setWing ..))) h

theorem Follows.countPair (h : Follows o s) : Follows o s.countPair := Follows.onlyIf (Follows.ite (h.bump ..) h) fun h1 => h1.bump ..

theorem Follows.idle (h : Follows o s) : Follows o s.idle := by
  unfold State.idle
  refine .ite h ?_
  exact ((((((Follows.foldl (fun _ _ h => h.tickRq ..) h.update).countLanes).countGates).countSettle).countQuota).countPair).settle

/-! ### One step -/

/-- A step starts from the state without the command that it takes. -/
theorem LeadsOn.step (s : State) : LeadsOn { s with pending := s.pending.tail } (Machine.step s) := by
  unfold Machine.step
  cases hpending : s.pending with
  | nil =>
    have hself : Follows { s with pending := [] } s := ⟨rfl, hpending, List.prefix_refl _, id⟩
    exact .next hself.idle
  | cons c rest => exact .exec (.refl { s with pending := rest }) c

end

/-- Settles O59, by what every state that a step passes through keeps. -/
theorem stepsKeepQueueAndOutputs : Obligations.StepsKeepQueueAndOutputs := by
  intro s t hstep
  obtain ⟨hpart, hpending, hout, -⟩ := (LeadsOn.step s).follows t hstep
  exact ⟨hpart, hpending, hout⟩

/-- Settles O58: no bit of the reserved ones is set on the way, and FAULT_N is set anew with every change of the bits. -/
theorem faultPinFollowsSticky : Obligations.FaultPinFollowsSticky := fun s t hs hstep => ((LeadsOn.step s).follows t hstep).sticky hs

end Sys2Proof.Machine
end
